-- ==== Sys2Proof/Word.lean ====
section
/-! DEFINITION. The plain words the whole model is written in: bytes, 64-bit words, 64-byte lines, the index types
of the package's instances (R3, R12, R27), and the sparse table that holds every indexed piece of state. -/

namespace Sys2Proof

abbrev Byte := BitVec 8
abbrev Word := BitVec 64
/-- A 64-byte line; byte k is bits [8k+7:8k] (R5). -/
abbrev Line := BitVec 512
/-- A 56-bit physical address (R3). -/
abbrev PA := BitVec 56

/-- Core index in the package, 32 × stud + core (R3, R51). -/
abbrev CoreId := Fin 384
abbrev StudId := Fin 12
abbrev BayId := Fin 12
abbrev ChanId := Fin 16
abbrev PortId := Fin 8
abbrev QuadId := Fin 4
abbrev FrameId := Fin 4
abbrev DomId := Fin 30

/-- A sparse map from numbers to values: keys strictly rising. -/
abbrev Map (α : Type) := List (Nat × α)

/-- Bits [hi:lo] of a number. -/
def bits (n hi lo : Nat) : Nat := (n / 2 ^ lo) % 2 ^ (hi + 1 - lo)

/-- Bit i of a number. -/
def bitOf (n i : Nat) : Bool := (n / 2 ^ i) % 2 == 1

/-- 1 for true, 0 for false. -/
def b2n (b : Bool) : Nat := if b then 1 else 0

/-- A field's value placed at its low bit. -/
def at' (v lo : Nat) : Nat := v * 2 ^ lo

end Sys2Proof
end

