-- ==== Sys2Proof/Syntax.lean ====
section
/-! DEFINITION. The commands of the block: one constructor of `Instr` per row of spec/opcode_table.json, in the
table's order, with the operands its rule names; and the types of those operands. -/

namespace Sys2Proof

/-! ## Operands of hart commands -/

/-- The destination of a load (R52, R82): an integer, floating-point or vector register element. -/
inductive Dest where
  | none
  | x (rd : Fin 32)
  | f (rd : Fin 32)
  /-- Element `elem` of vector register `vd`; `fof` for a fault-only-first load (R82). -/
  | v (vd : Fin 32) (elem : Nat) (fof : Bool)
deriving DecidableEq, Repr

/-- The AMO operations (R65, R66; Zacas, R51). -/
inductive AmoOp where
  | swap | add | xor | and | or | min | max | minu | maxu | cas
deriving DecidableEq, Repr

/-- The types of access a hart makes (R94, R104, R109); HLVX needs execute permission and faults as a load (R91). -/
inductive AccType where
  | load | store | fetch | hlvx
deriving DecidableEq, Repr

/-- What one hart access does (R59, R71, R73). -/
inductive AccKind where
  | load | store | amo | lr | sc | fetch | pte | svadu
  | cboClean | cboFlush | cboInval | cboZero | prefI | prefR | prefW
deriving DecidableEq, Repr

/-- An upset that an access meets in its core's cache structures (R123, R154, R174): parity of L1 data or of an L1 tag, an
uncorrectable L2 tag, an uncorrectable filter entry. -/
inductive Upset where
  | none | l1Data | l1Tag | l2Tag | filter
deriving DecidableEq, Repr

/-- A plain load, HLV or HLVX (R91). -/
inductive HypKind where
  | no | hlv | hlvx
deriving DecidableEq, Repr

/-- One access of a hart: what it does, where, with what data and to what destination. -/
structure Acc where
  kind : AccKind := .load
  va   : Word := 0
  pa   : Nat := 0
  size : Nat := 8
  data : BitVec 128 := 0
  cmp  : BitVec 128 := 0
  aop  : AmoOp := .swap
  dest : Dest := .none
  sext : Bool := false
  /-- Uncached: PBMT = NC or IO (R65, R498). -/
  nc   : Bool := false
  /-- PBMT = IO: in program order with the hart's I/O accesses (R57, R63, R65). -/
  io   : Bool := false
  /-- Made with V = 1 or by HLV, HLVX or HSV (R91). -/
  guest : Bool := false
  /-- Bytes on the first page of an access that crosses a page, or 0 (R52). -/
  split : Nat := 0
  /-- The physical address of its first byte on the second page. -/
  pa2  : Nat := 0
  /-- Bytes already performed of an uncached access in parts, and their data (R52). -/
  part : Nat := 0
  got  : BitVec 128 := 0
  /-- The aq and rl bits of an AMO, LR or SC (R66). -/
  aq   : Bool := false
  rl   : Bool := false
  /-- An HLVX: needs execute permission (R91). -/
  hlvx : Bool := false
  upset : Upset := .none
  /-- A hint of the L1D stride prefetcher, which fills L1D too (R128). -/
  l1   : Bool := false
deriving DecidableEq, Repr

/-- The non-temporal hints of Zihintntl (R74). -/
inductive Ntl where
  | p1 | pall | s1 | all
deriving DecidableEq, Repr

/-- prefetch.i, prefetch.r, prefetch.w (R73). -/
inductive PrefKind where
  | i | r | w
deriving DecidableEq, Repr

/-- The address-translation CSRs of R98. -/
inductive AtpReg where
  | satp | vsatp | hgatp
deriving DecidableEq, Repr

/-- The CSRs with a CBIE field (R70). -/
inductive EnvReg where
  | menvcfg | senvcfg | henvcfg
deriving DecidableEq, Repr

/-- Machine or supervisor copy of a paired vendor CSR (R88, R106, R462). -/
inductive Lvl where
  | m | s
deriving DecidableEq, Repr

/-- Where a request for a walk comes from (R94). -/
inductive WalkSrc where
  | head | fetch | demand | prefetch
deriving DecidableEq, Repr

/-- The notch sampler's registers beside notchctl (R462, R463). -/
inductive NotchReg where
  | base | head | tail | wm | period | lost
deriving DecidableEq, Repr

/-- The inputs to a notch record that the pipeline supplies (R464). -/
structure NotchIn where
  pc      : Word := 0
  dva     : Word := 0
  dpa     : BitVec 56 := 0
  lat     : BitVec 32 := 0
  walk    : BitVec 16 := 0
  source  : BitVec 8 := 0
  slot    : BitVec 8 := 0
  flags   : BitVec 16 := 0
  target  : Word := 0
  /-- The tagged instruction made a memory access with a latency (R464, LAT_MIN). -/
  mem     : Bool := false
deriving DecidableEq, Repr

/-- The interrupt files of a hart (R75, R76). -/
inductive IntFile where
  | m
  | s
  | g (k : Fin 8)
deriving DecidableEq, Repr

/-! ## Coherence messages -/

/-- The message catalogue of R164. -/
inductive MsgOp where
  | rdS | rdU | upg | rdNc | wrNc | atomNc | wb | cboClean | cboFlush | cboInval | cboZero | wbKeep | lockFill
  | snpFwdS | snpFwdU | snpInv | snpClean | snpFlush | snpDrop
  | rspInvAck | rspFwdDone | rspCleanDone | rspNotHeld | wbCancel
  | goU | goDone | wbPull | wbStale | wrPull | err | compAck
  | dataS | dataF | dataE | dataM | snpData | wbData | ncRData | ncWData
  | msiWrite | mgmt | domainDown
deriving DecidableEq, Repr

/-- The fields of the coherence message header beside CLASS and OPCODE (R162). -/
structure Hdr where
  src      : Nat := 0
  dst      : Nat := 0
  srcPkg   : Nat := 0
  dstPkg   : Nat := 0
  tag      : Nat := 0
  reqAgent : Nat := 0
  reqPkg   : Nat := 0
  htx      : Nat := 0
  line     : Nat := 0
  rcid     : Nat := 0
  mcid     : Nat := 0
  poison   : Bool := false
  dirty    : Bool := false
  kept     : Bool := false
  go       : Bool := false
  nonalloc : Bool := false
deriving DecidableEq, Repr

/-- Where a message in flight stands on its way (R11, R14, R192). -/
inductive Loc where
  /-- At its source stud: it has yet to cross the tenon link. -/
  | src
  /-- Begun on a tenon link, UP or DN, and not yet whole at the other end. -/
  | tenon (up : Bool)
  /-- At an input of a sill fabric stop: the stop's index, and 0 local, 1 north, 2 east, 3 south or 4 west. -/
  | mesh (stop inp : Nat)
  /-- Ejected at its destination stop. -/
  | end_
  /-- At its destination stud. -/
  | far
deriving DecidableEq, Repr

/-- A coherence message in flight: its opcode, header, and what it carries (R162, R192). -/
structure Msg where
  op   : MsgOp
  hdr  : Hdr := {}
  data : Line := 0
  mask : BitVec 64 := 0
  /-- The AMO of ATOM_NC with its size: the header of R162 names no field for it. -/
  amo  : AmoOp := .swap
  size : Nat := 8
  off  : Nat := 0
  /-- SOURCE code of the supplier of its data (R88): the header of R162 names no field for it. -/
  source : Nat := 0
  /-- How far it has come. -/
  loc : Loc := .end_
  /-- The purlin port by which it entered this package (R181). -/
  inP : Option Nat := none
  /-- The purlin port by which it leaves this package (R254). -/
  outP : Option Nat := none
deriving DecidableEq, Repr

/-! ## Operands of the tenon link, memory, fabrics and ports -/

/-- The two directions of a tenon link (R187). -/
inductive TDirId where
  | up | dn
deriving DecidableEq, Repr

/-- What a DRAM read's stored word showed, as seen by the decoder (R239). -/
inductive ReadWord where
  | asStored
  | oneDevice (d : Fin 10)
  | markedPlus4 (d : Fin 10)
  | twoDevices (marked : Bool)
  | edgeOne
  | edgeTwo
deriving DecidableEq, Repr

/-- Kinds of memory module (R215, R216); `other` is an unbuffered or load-reduced one. -/
inductive ModKind where
  | rdimm | mrdimm | other
deriving DecidableEq, Repr

/-- The timings of one speed grade as a module's SPD states them (R218): the rate in MT/s, CL in nCK (DRAM side for an MRDIMM),
tRCD and tRP in ps. -/
structure SpdGrade where
  rate : Nat := 4800
  cl   : Nat := 40
  trcd : Nat := 16000
  trp  : Nat := 16000
deriving DecidableEq, Repr

/-- What the SPD of a module states (R216, R218, R228, R235). -/
structure Module where
  kind    : ModKind := .rdimm
  width   : Nat := 4         -- data bits of a device
  density : Nat := 16        -- Gbit
  ranks   : Nat := 1         -- package ranks
  stack   : Nat := 1         -- dies of a 3DS stack; 1 for none
  devices : Nat := 10        -- of each subchannel of each rank
  gib     : Nat := 64        -- capacity in GiB
  serial  : Nat := 0         -- manufacturer and serial number
  trfc1   : Nat := 295       -- ns
  trfcsb  : Nat := 130       -- ns
  grades  : List SpdGrade := []
deriving DecidableEq, Repr

/-- What Plumb reads and finds of one channel in training (R217, R231, R234). -/
structure TrainRes where
  mods     : List Module := []  -- by DIMM slot; none: the channel is absent
  passed   : Bool := false      -- training passed
  saved    : Bool := false      -- the quick eye check of a valid saved record passed
  rfmReq   : Bool := false      -- devices report that RFM is required (R231)
  raaimt   : Nat := 0           -- RAAIMT, RAAMMT and the decrement of the device mode registers (R231)
  raammt   : Nat := 0
  raadec   : Nat := 0
deriving DecidableEq, Repr

/-- The purlin flit header (R250). -/
structure PFlitHdr where
  seq     : Nat := 0
  ack     : Nat := 0
  nak     : Bool := false
  kind    : Nat := 0
  crClass : Nat := 0
  crCount : Nat := 0
deriving DecidableEq, Repr

/-- The purlin identity unit (R256). -/
structure IdUnit where
  rev    : Nat := 1
  pkg    : Nat := 0
  frame  : Nat := 0
  fcIdx  : Nat := 0
  variant : Nat := 0
  joined : Bool := true
  port   : Nat := 0
  width  : Nat := 16
deriving DecidableEq, Repr

/-- The header of a ridge packet and its payload (R269). -/
structure RPkt where
  op    : Nat := 0
  ver   : Nat := 1
  atop  : Nat := 0
  dst   : BitVec 16 := 0
  src   : BitVec 16 := 0
  tag   : Nat := 0
  rport : Nat := 0
  poison : Bool := false
  len   : Nat := 0
  status : Nat := 0
  addr  : Nat := 0
  cmp   : Word := 0
  crcOk : Bool := true
  data  : List Byte := []
  /-- Symbols that the FEC corrected in its codewords (R263, R423). -/
  fixed : Nat := 0
deriving DecidableEq, Repr

/-- Kinds of inbound TLPs (R289, R306). -/
inductive TlpKind where
  | read | write | atomic (op : AmoOp)
deriving DecidableEq, Repr

/-- An inbound request of a device or host (R289, R306). -/
structure Tlp where
  kind : TlpKind := .read
  root : Nat := 0
  tag  : Nat := 0
  addr : Nat := 0
  len  : Nat := 4
  /-- Written data; of a CAS the compare value and then the swap value, `len` bytes each. -/
  data : List Byte := []
  ep   : Bool := false
  /-- Relaxed Ordering (R290). -/
  ro   : Bool := false
  /-- ID-Based Ordering (R290). -/
  ido  : Bool := false
  /-- The Requester ID: the device ID within the port's segment (R288). -/
  rid  : BitVec 16 := 0
  /-- The PASID of the request, if it has one (R287, R288), with its Privileged Mode and Execute Requested bits. -/
  pasid : Option (BitVec 20) := none
  priv : Bool := false
  exec_ : Bool := false
  /-- 0 an untranslated address, 1 an ATS translation request, 2 a translated address (R287, R288). -/
  form : Fin 3 := 0
deriving DecidableEq, Repr

/-- How a completion ended (R293). -/
inductive CplStatus where
  | sc | ur | ca
deriving DecidableEq, Repr

/-- Port link events of R291 and R419. -/
inductive PortEvent where
  | linkUp | linkDown | aerCorr
  /-- An uncorrectable error that AER reports, and whether it is a fatal one (R296). -/
  | aerUncorr (fatal : Bool)
  | pme | presence
deriving DecidableEq, Repr

/-- Link power states of R310. -/
inductive LinkPower where
  | l0 | l0pHalf | l0pQuarter | l1 | l11 | l12
deriving DecidableEq, Repr

/-- What training of a SerDes link ends with (R248, R263, R280, R287, R297). -/
structure LinkIn where
  /-- Lanes that trained, from lane 0 of the link. -/
  width  : Nat := 16
  /-- Rate code of R355; for ridge 6 where either end asks for 64 Gbit/s. -/
  rate   : Nat := 7
  /-- The partner supports flit mode. -/
  flit   : Bool := true
  /-- The partner allows 14-bit tags as completer. -/
  tags14 : Bool := true
  /-- The partner: 0 a device without CXL.mem, 1 one with it, 2 one that takes latency-optimised flits. -/
  cxl    : Nat := 0
  /-- Capacity of a CXL device in units of 256 MiB. -/
  cap    : Nat := 0
deriving DecidableEq, Repr

/-! ## Operands of Plumb commands -/

/-- The three transports (R313). -/
inductive TKind where
  | mctp | dovetail | ring
deriving DecidableEq, Repr

/-- A transport instance. -/
structure TInst where
  kind : TKind := .mctp
  inst : Nat := 0
deriving DecidableEq, Repr

/-- A command packet without its opcode byte, which the row names (R318). -/
structure CmdPkt where
  notify : Bool := false
  tag    : BitVec 8 := 0
  len    : BitVec 13 := 0
  seq    : BitVec 32 := 0
  crc    : BitVec 16 := 0
  rsvdA  : BitVec 7 := 0
  rsvdB  : BitVec 8 := 0
  rsvdC  : BitVec 19 := 0
  rsvdD  : BitVec 16 := 0
  params : List Byte := []
deriving DecidableEq, Repr

/-- What self-test and tenon training found: the inputs of a boot or a frame or stud reset (R45 to R47, R205,
R411). -/
structure BootEnv where
  /-- Cores with a failed checker, and which of L1I, L1D, L2 data, L2 tag and shim store failed: 0 to 4. -/
  coreFail  : List (Nat × List Nat) := []
  /-- Failed stud checkers: stud and bit 40 to 42 (R411). -/
  studFail  : List (Nat × Nat) := []
  /-- Failed bay checkers: bay and bit 0 to 8 (R411). -/
  bayFail   : List (Nat × Nat) := []
  /-- Ports whose engine queues failed. -/
  portFail  : List Nat := []
  /-- Findings of tenon training: stud, direction (0 UP, 1 DN), group, wire, and the attempt that found it. -/
  tenonBad  : List (Nat × Nat × Nat × Nat × Nat) := []
  /-- Studs whose number or link revision does not match in the IDENT frames of training (R205, step 1). -/
  tenonIdent : List Nat := []
  /-- Attempts that fail at step 7 or 8 of R205, per stud. -/
  tenonFailTries : List (Nat × Nat) := []
  /-- Dies that read above 90 °C when D0 starts (R399): 0 to 11 studs, 12 + q sill quadrants. -/
  hot       : List Nat := []
  /-- PKG_ID2 to PKG_ID0 (R255). -/
  straps    : Nat := 0
  /-- The CRC of the journal's repair map fails (R204), and the image slots whose CRC fails (R427). -/
  mapBad    : Bool := false
  /-- The copies of the mode record whose CRC is not valid as Plumb reads them (R40). -/
  modeBad   : List (Fin 2) := []
  imageBad  : List Nat := []
deriving DecidableEq, Repr

/-- What the hardware reports to a long command as it ends (R323): that flash or journal writes and trainings
went well, what a scan read, and the inputs of a reset. -/
structure FinishIn where
  hwOk  : Bool := true
  /-- Lines a range scan found in error, by local address, and what their stored words showed (R239, R243). -/
  found : List (Nat × ReadWord) := []
  env   : BootEnv := {}
  /-- The signature and digests of the staged bundle verify (R338, R436). -/
  verified : Bool := true
deriving DecidableEq, Repr

/-! ## Operands of windows, power and reset -/

/-- The access ports of the register windows (R342). -/
inductive AccessPort where
  | host (f : FrameId)
  | plumb
  | debug
deriving DecidableEq, Repr

/-- The register windows (R350). -/
inductive Win where
  | global | stud | bay | mch | port | lane | tenon | dom | frame | nq | cmdq | qos | upmu
deriving DecidableEq, Repr

/-- The part of a 64-bit register that an access takes (R343). -/
inductive Part where
  | full | lo | hi
deriving DecidableEq, Repr

/-- The target of a register write without a row of its own. -/
inductive RegTarget where
  /-- A window register through an access port at a window offset (R343). -/
  | win (ap : AccessPort) (w : Win) (off : BitVec 16) (part : Part)
  /-- A CSR of a hart, by its number (R53, R75, R79, R84, R85, R453, R461, R473), as a CSR instruction accesses it: its value
  goes to x[rd], and `wr` says whether it writes. -/
  | csr (c : CoreId) (num : BitVec 12) (rd : Fin 32) (wr : Bool)
  /-- An access of DEBUG, or else of PLUMB, of `size` bytes at an offset of control space; a read's data goes to the port (R342). -/
  | port (dbg : Bool) (wr : Bool) (off : BitVec 32) (size : Nat)
deriving DecidableEq, Repr

/-- Rings: a frame's in-band ring or a dovetail function's mailbox (R302, R315). -/
inductive RingId where
  | frame (f : FrameId)
  | port (p : PortId)
deriving DecidableEq, Repr

/-- Notice queues: of a frame or of a dovetail function (R412). -/
inductive NqId where
  | frame (f : FrameId)
  | port (p : PortId)
deriving DecidableEq, Repr

/-- The three coolant inputs (R393). -/
inductive Coolant where
  | inlet | outlet | tach
deriving DecidableEq, Repr

/-- DEEP entry abort points (R380). -/
inductive AbortPoint where
  | ap1 | ap2 | ap3 | ap4
deriving DecidableEq, Repr

/-- What a management message says (R257, R262), with the port it arrives at. The layout of its 16 bytes is the model's own (log entry 43). -/
inductive Mgmt where
  /-- A package and its links: its own port, the far package, the far port. -/
  | ids (port : PortId) (pkg : Nat) (near : List (Nat × Nat × Nat))
  /-- The digest of R501. -/
  | digest (port : PortId) (crc : BitVec 32)
  /-- The time of a package, as it was when the message was sent. -/
  | time (port : PortId) (pkg : Nat) (t : BitVec 64)
  /-- A timestamp that asks for one. -/
  | ask (port : PortId) (t : BitVec 60)
  /-- Its answer: the timestamp asked with, and the answerer's. -/
  | answer (port : PortId) (t mine : BitVec 60)
  | block (payload : Word)
deriving DecidableEq, Repr

end Sys2Proof

namespace Sys2Proof

/-- The commands of the block: one constructor per row of spec/opcode_table.json. -/
inductive Instr where
  /-- LOAD (R59). -/
  | load (c : CoreId) (va : Word) (size : Nat) (dest : Dest) (sext : Bool) (hyp : HypKind) (upset : Upset)
  /-- STORE (R59). -/
  | store (c : CoreId) (va : Word) (size : Nat) (val : BitVec 128) (hyp : Bool)
  /-- STORE_QUEUE_DRAIN (R121). -/
  | storeQueueDrain (c : CoreId)
  /-- AMO (R66). -/
  | amo (c : CoreId) (va : Word) (size : Nat) (op : AmoOp) (val cmp : BitVec 128) (rd : Fin 32) (aq rl : Bool)
  /-- LR (R67). -/
  | lr (c : CoreId) (va : Word) (size : Nat) (rd : Fin 32) (aq rl : Bool)
  /-- SC (R67). -/
  | sc (c : CoreId) (va : Word) (size : Nat) (val : BitVec 128) (rd : Fin 32) (aq rl : Bool)
  /-- LR_HOLD_EXPIRY (R67). -/
  | lrHoldExpiry (c : CoreId)
  /-- FENCE (R63). -/
  | fence (c : CoreId) (pred succ : BitVec 4)
  /-- FENCE_I (R62). -/
  | fenceI (c : CoreId)
  /-- WFI (R69). -/
  | wfi (c : CoreId)
  /-- WRS_NTO (R68). -/
  | wrsNto (c : CoreId)
  /-- WRS_STO (R68). -/
  | wrsSto (c : CoreId)
  /-- WRS_STO_TIMEOUT (R68). -/
  | wrsStoTimeout (c : CoreId)
  /-- CBO_CLEAN_INSN (R71). -/
  | cboCleanInsn (c : CoreId) (va : Word)
  /-- CBO_FLUSH_INSN (R71). -/
  | cboFlushInsn (c : CoreId) (va : Word)
  /-- CBO_INVAL_INSN (R71). -/
  | cboInvalInsn (c : CoreId) (va : Word)
  /-- CBO_ZERO_INSN (R71). -/
  | cboZeroInsn (c : CoreId) (va : Word)
  /-- PREFETCH_HINT (R73). -/
  | prefetchHint (c : CoreId) (kind : PrefKind) (va : Word)
  /-- NTL_HINT (R74). -/
  | ntlHint (c : CoreId) (hint : Ntl)
  /-- POISON_CONSUMPTION (R82). -/
  | poisonConsumption (c : CoreId)
  /-- HEWN_MISS_TRAP (R109). -/
  | hewnMissTrap (c : CoreId)
  /-- SFENCE_VMA (R116). -/
  | sfenceVma (c : CoreId) (va : Option Word) (asid : Option (BitVec 16))
  /-- HFENCE_VVMA (R117). -/
  | hfenceVvma (c : CoreId) (va : Option Word) (asid : Option (BitVec 16))
  /-- HFENCE_GVMA (R117). -/
  | hfenceGvma (c : CoreId) (gpa : Option Word) (vmid : Option (BitVec 14))
  /-- SINVAL_VMA (R117). -/
  | sinvalVma (c : CoreId) (va : Option Word) (asid : Option (BitVec 16))
  /-- HINVAL_VVMA (R117). -/
  | hinvalVvma (c : CoreId) (va : Option Word) (asid : Option (BitVec 16))
  /-- HINVAL_GVMA (R117). -/
  | hinvalGvma (c : CoreId) (gpa : Option Word) (vmid : Option (BitVec 14))
  /-- SFENCE_W_INVAL (R117). -/
  | sfenceWInval (c : CoreId)
  /-- SFENCE_INVAL_IR (R117). -/
  | sfenceInvalIr (c : CoreId)
  /-- SATP_WRITE (R98). -/
  | satpWrite (c : CoreId) (reg : AtpReg) (val : Word)
  /-- ENVCFG_CBIE_WRITE (R70). -/
  | envcfgCbieWrite (c : CoreId) (reg : EnvReg) (cbie : BitVec 2)
  /-- MCLKSEL_WRITE (R86). -/
  | mclkselWrite (c : CoreId) (val : Word)
  /-- CLOCK_SWITCH_DONE (R373). -/
  | clockSwitchDone (c : CoreId)
  /-- PLL_LOCK (R373). -/
  | pllLock (n : StudId)
  /-- MCORECTL_WRITE (R87). -/
  | mcorectlWrite (c : CoreId) (val : Word)
  /-- POISONINFO_WRITE (R88). -/
  | poisoninfoWrite (c : CoreId) (lvl : Lvl) (val : Word)
  /-- WALKINFO_WRITE (R107). -/
  | walkinfoWrite (c : CoreId) (lvl : Lvl) (val : Word)
  /-- MSHIMCTL_WRITE (R97). -/
  | mshimctlWrite (c : CoreId) (val : Word)
  /-- STLBCMD_WRITE (R114). -/
  | stlbcmdWrite (c : CoreId) (wired : Bool)
  /-- STLBCMD_PROBE (R114). -/
  | stlbcmdProbe (c : CoreId)
  /-- STLBCMD_READ (R114). -/
  | stlbcmdRead (c : CoreId) (index : BitVec 12)
  /-- STLBCMD_INVAL_VA (R114). -/
  | stlbcmdInvalVa (c : CoreId) (wired : Bool)
  /-- STLBCMD_INVAL_ASID (R114). -/
  | stlbcmdInvalAsid (c : CoreId) (wired : Bool)
  /-- STLBCMD_INVAL_ALL (R114). -/
  | stlbcmdInvalAll (c : CoreId) (wired : Bool)
  /-- WALK_REQUEST (R94). -/
  | walkRequest (c : CoreId) (src : WalkSrc) (acc : AccType) (va : Word) (guest : Bool)
  /-- PTE_READ_RETURN (R96). -/
  | pteReadReturn (c : CoreId) (ctx : Fin 4) (ecc : Fin 3)
  /-- HEAD_WALK_REQUEST (R103). -/
  | headWalkRequest (c : CoreId)
  /-- HPM_COUNTER_WRITE (R459). -/
  | hpmCounterWrite (c : CoreId) (idx : Fin 32) (val : Word)
  /-- MHPMEVENT_WRITE (R454). -/
  | mhpmeventWrite (c : CoreId) (idx : Fin 32) (val : Word)
  /-- MCOUNTINHIBIT_WRITE (R459). -/
  | mcountinhibitWrite (c : CoreId) (val : Word)
  /-- COUNTER_WRAP (R460). -/
  | counterWrap (c : CoreId) (idx : Fin 32)
  /-- NOTCHCTL_WRITE (R463). -/
  | notchctlWrite (c : CoreId) (lvl : Lvl) (val : Word)
  /-- NOTCH_REGISTER_WRITE (R463). -/
  | notchRegisterWrite (c : CoreId) (lvl : Lvl) (reg : NotchReg) (val : Word)
  /-- MNOTCHDELEG_WRITE (R462). -/
  | mnotchdelegWrite (c : CoreId) (val : Word)
  /-- NOTCH_TAG (R464). -/
  | notchTag (c : CoreId)
  /-- NOTCH_WRITE (R465). -/
  | notchWrite (c : CoreId) (rec : NotchIn)
  /-- MTIME_TICK (R80). -/
  | mtimeTick
  /-- MTIME_WRITE (R79). -/
  | mtimeWrite (f : FrameId) (val : Word)
  /-- MTIMECMP_WRITE (R80). -/
  | mtimecmpWrite (f : FrameId) (h : BitVec 9) (val : Word)
  /-- MSI_WRITE (R76). -/
  | msiWrite (f : FrameId) (h : BitVec 12) (file : IntFile) (id : BitVec 32)
  /-- DEBUG_HALT_REQUEST (R378). -/
  | debugHaltRequest (c : CoreId)
  /-- RD_S (R170). -/
  | rdS (h : Hdr)
  /-- RD_U (R170). -/
  | rdU (h : Hdr)
  /-- UPG (R170). -/
  | upg (h : Hdr)
  /-- RD_NC (R171). -/
  | rdNc (h : Hdr)
  /-- WR_NC (R171). -/
  | wrNc (h : Hdr) (full : Bool)
  /-- ATOM_NC (R171). -/
  | atomNc (h : Hdr) (op : AmoOp) (size off : Nat)
  /-- WB (R171). -/
  | wb (h : Hdr)
  /-- WB_KEEP (R499). -/
  | wbKeep (h : Hdr)
  /-- CBO_CLEAN (R171). -/
  | cboClean (h : Hdr)
  /-- CBO_FLUSH (R171). -/
  | cboFlush (h : Hdr)
  /-- CBO_INVAL (R171). -/
  | cboInval (h : Hdr)
  /-- CBO_ZERO (R170). -/
  | cboZero (h : Hdr)
  /-- LOCK_FILL (R138). -/
  | lockFill (h : Hdr)
  /-- SNP_FWD_S (R172). -/
  | snpFwdS (h : Hdr)
  /-- SNP_FWD_U (R172). -/
  | snpFwdU (h : Hdr)
  /-- SNP_INV (R172). -/
  | snpInv (h : Hdr)
  /-- SNP_CLEAN (R172). -/
  | snpClean (h : Hdr)
  /-- SNP_FLUSH (R172). -/
  | snpFlush (h : Hdr)
  /-- SNP_DROP (R172). -/
  | snpDrop (h : Hdr)
  /-- RSP_INV_ACK (R170). -/
  | rspInvAck (h : Hdr)
  /-- RSP_FWD_DONE (R170). -/
  | rspFwdDone (h : Hdr)
  /-- RSP_CLEAN_DONE (R171). -/
  | rspCleanDone (h : Hdr)
  /-- RSP_NOTHELD (R180). -/
  | rspNotheld (h : Hdr)
  /-- WB_CANCEL (R173). -/
  | wbCancel (h : Hdr)
  /-- COMP_ACK (R168). -/
  | compAck (h : Hdr)
  /-- GO_U (R170). -/
  | goU (h : Hdr)
  /-- GO_DONE (R171). -/
  | goDone (h : Hdr)
  /-- WB_PULL (R173). -/
  | wbPull (h : Hdr)
  /-- WB_STALE (R173). -/
  | wbStale (h : Hdr)
  /-- WR_PULL (R171). -/
  | wrPull (h : Hdr)
  /-- ERR (R142). -/
  | err (h : Hdr)
  /-- DATA_S (R170). -/
  | dataS (h : Hdr) (data : Line)
  /-- DATA_F (R170). -/
  | dataF (h : Hdr) (data : Line)
  /-- DATA_E (R170). -/
  | dataE (h : Hdr) (data : Line)
  /-- DATA_M (R170). -/
  | dataM (h : Hdr) (data : Line)
  /-- SNP_DATA (R172). -/
  | snpData (h : Hdr) (data : Line)
  /-- WB_DATA (R171). -/
  | wbData (h : Hdr) (data : Line)
  /-- NC_RDATA (R171). -/
  | ncRdata (h : Hdr) (data : Line)
  /-- NC_WDATA (R171). -/
  | ncWdata (h : Hdr) (data : Line) (mask : BitVec 64)
  /-- MGMT (R257). -/
  | mgmt (m : Mgmt)
  /-- DOMAIN_DOWN (R185). -/
  | domainDown (p : PortId)
  /-- UNKNOWN_MESSAGE_DISCARD (R164). -/
  | unknownMessageDiscard (dst : Nat) (src : BitVec 6) (cls : BitVec 3) (opcode : BitVec 6)
  /-- BAY_FILL_INSTALL (R137). -/
  | bayFillInstall (b : BayId) (bmr : Fin 512)
  /-- SNOOP_TIMEOUT (R184). -/
  | snoopTimeout (home : Nat) (n : StudId)
  /-- FATAL_EVENT (R406). -/
  | fatalEvent (f : FrameId) (structure_ : BitVec 8) (inst : BitVec 8)
  /-- TENON_FLIT_RECEIVED (R192). -/
  | tenonFlitReceived (n : StudId) (d : TDirId)
  /-- TENON_PARITY_ERROR (R194). -/
  | tenonParityError (n : StudId) (d : TDirId) (g : Fin 64) (seq : Fin 64) (flips : List (Fin 76 × Fin 8))
  /-- NAK (R194). -/
  | nak (n : StudId) (d : TDirId) (seq g : Fin 64) (cnt : BitVec 7)
  /-- NAK_RESEND_TIMEOUT (R194). -/
  | nakResendTimeout (n : StudId) (d : TDirId)
  /-- CREDIT (R193). -/
  | credit (n : StudId) (d : TDirId) (req snp rsp dat msg : BitVec 12)
  /-- STEER_REQ (R198). -/
  | steerReq (n : StudId) (d : TDirId) (g : Fin 64) (wire : BitVec 7) (spare : BitVec 7)
  /-- STEER_ACK (R198). -/
  | steerAck (n : StudId) (d : TDirId) (g : Fin 64) (wire : BitVec 7) (spare : BitVec 7) (flit : Nat)
  /-- STEER_REQ_RESEND (R198). -/
  | steerReqResend (n : StudId) (d : TDirId)
  /-- RETIRE_REQ (R199). -/
  | retireReq (n : StudId) (d : TDirId) (g : Fin 64) (cause : BitVec 5)
  /-- RETIRE_ACK (R199). -/
  | retireAck (n : StudId) (d : TDirId) (g : Fin 64) (flit : Nat)
  /-- ROT_REQ (R202). -/
  | rotReq (n : StudId) (d : TDirId) (g : Fin 64)
  /-- ROT_ACK (R202). -/
  | rotAck (n : StudId) (d : TDirId) (g : Fin 64) (flit : Nat)
  /-- LAYOUT_SWITCH (R198). -/
  | layoutSwitch (n : StudId) (d : TDirId)
  /-- CLOCK_LOCK_LOSS (R195). -/
  | clockLockLoss (n : StudId) (d : TDirId) (g : Fin 64)
  /-- LEAK_PERIOD (R196). -/
  | leakPeriod (n : StudId) (d : TDirId)
  /-- ROTATION_PERIOD (R202). -/
  | rotationPeriod (n : StudId) (d : TDirId)
  /-- ROTATION_TEST_END (R202). -/
  | rotationTestEnd (n : StudId) (d : TDirId) (errs : List (Nat × Nat))
  /-- SIDEBAND_COPY_FAILURE (R189). -/
  | sidebandCopyFailure (n : StudId) (d : TDirId) (copy : Fin 2)
  /-- PARK (R209). -/
  | park (n : StudId)
  /-- WAKE (R209). -/
  | wake (n : StudId)
  /-- READ_QUEUED (R226). -/
  | readQueued (ch : ChanId) (src : Nat) (line : Nat)
  /-- WRITE_QUEUED (R227). -/
  | writeQueued (ch : ChanId) (b : BayId) (line : Nat)
  /-- READ_DATA_RETURN (R239). -/
  | readDataReturn (ch : ChanId) (idx : Nat) (word : ReadWord)
  /-- WRITE_BURST_DONE (R226). -/
  | writeBurstDone (ch : ChanId) (idx : Nat)
  /-- REFRESH_DUE (R228). -/
  | refreshDue (ch : ChanId) (rank : Fin 16)
  /-- MR4_READ (R229). -/
  | mr4Read (ch : ChanId) (rank : Fin 16) (temp : Int)
  /-- MODULE_SENSOR_READ (R229). -/
  | moduleSensorRead (ch : ChanId) (dimm : Fin 2) (temps : List Int)
  /-- ACT_SELECTION (R230). -/
  | actSelection (ch : ChanId) (rank : Fin 16) (bank : Fin 64) (row : Nat)
  /-- POWER_DOWN_ENTRY (R232). -/
  | powerDownEntry (ch : ChanId) (rank : Fin 16)
  /-- SELF_REFRESH_ENTRY (R232). -/
  | selfRefreshEntry (ch : ChanId) (rank : Fin 16)
  /-- PAGE_IDLE_CLOSE (R225). -/
  | pageIdleClose (ch : ChanId) (rank : Fin 16) (bank : Fin 64)
  /-- DRIFT_TRACK (R234). -/
  | driftTrack (ch : ChanId)
  /-- DEVICE_COUNT_LEAK (R240). -/
  | deviceCountLeak (ch : ChanId)
  /-- PATROL_READ (R242). -/
  | patrolRead (ch : ChanId) (word : ReadWord)
  /-- BAY_PATROL_STEP (R154). -/
  | bayPatrolStep (b : BayId) (found : List (Fin 16 × Bool))
  /-- CLEAR_REGION (R237). -/
  | clearRegion (ch : ChanId) (region : Nat)
  /-- CLEAR_DONE (R237). -/
  | clearDone (ch : ChanId)
  /-- BANDWIDTH_WINDOW (R245). -/
  | bandwidthWindow (q : QuadId)
  /-- CHANNEL_TRAINING_DONE (R234). -/
  | channelTrainingDone (f : FrameId) (res : List (Nat × TrainRes))
  /-- PURLIN_FLIT_RECEIVED (R251). -/
  | purlinFlitReceived (p : PortId) (h : PFlitHdr) (units : List (BitVec 128)) (fixed : Nat)
  /-- PURLIN_FLIT_ERROR (R252). -/
  | purlinFlitError (p : PortId)
  /-- PURLIN_NAK (R252). -/
  | purlinNak (p : PortId) (ack : BitVec 10)
  /-- FAST_RETRAIN (R252). -/
  | fastRetrain (p : PortId) (ok : Bool)
  /-- PURLIN_LINK_LOST (R252). -/
  | purlinLinkLost (p : PortId)
  /-- IDENTITY_UNIT (R256). -/
  | identityUnit (p : PortId) (u : IdUnit)
  /-- JOIN (R257). -/
  | join (f : FrameId)
  /-- JOIN_DEADLINE (R34). -/
  | joinDeadline (f : FrameId)
  /-- TIME_EXCHANGE (R262). -/
  | timeExchange (f : FrameId)
  /-- RIDGE_READ (R274). -/
  | ridgeRead (p : PortId) (pkt : RPkt)
  /-- RIDGE_WRITE (R274). -/
  | ridgeWrite (p : PortId) (pkt : RPkt)
  /-- WRITE_POSTED (R271). -/
  | writePosted (p : PortId) (pkt : RPkt)
  /-- RIDGE_ATOMIC (R274). -/
  | ridgeAtomic (p : PortId) (pkt : RPkt)
  /-- RIDGE_FENCE (R271). -/
  | ridgeFence (p : PortId) (pkt : RPkt)
  /-- RESP (R277). -/
  | resp (p : PortId) (pkt : RPkt)
  /-- LINK_ACK (R265). -/
  | linkAck (p : PortId) (ack : BitVec 10) (nak : Bool) (req pst rsp : BitVec 16)
  /-- LINK_IDENT (R264). -/
  | linkIdent (p : PortId) (role lanes rev : Nat) (req pst rsp : BitVec 16)
  /-- NODE_ASSIGN (R267). -/
  | nodeAssign (p : PortId) (id : BitVec 16)
  /-- NODE_CONFIRM (R264). -/
  | nodeConfirm (p : PortId) (id : BitVec 16) (refused : Bool)
  /-- RIDGE_CODEWORD_ERROR (R265). -/
  | ridgeCodewordError (p : PortId) (retrainOk : Bool)
  /-- RIDGE_REQUEST_TIMEOUT (R276). -/
  | ridgeRequestTimeout (p : PortId) (tag : Nat)
  /-- RIDGE_TAG_QUARANTINE_END (R276). -/
  | ridgeTagQuarantineEnd (p : PortId) (tag : Nat)
  /-- INBOUND_REQUEST (R289). -/
  | inboundRequest (p : PortId) (t : Tlp)
  /-- INTX_MESSAGE (R291). -/
  | intxMessage (p : PortId) (root : Fin 8) (pin : Fin 4) (assert_ : Bool)
  /-- COMPLETION (R294). -/
  | completion (p : PortId) (root : Fin 8) (tag : Nat) (st : CplStatus) (ep : Bool) (data : List Byte)
  /-- COMPLETION_TIMEOUT (R293). -/
  | completionTimeout (p : PortId) (root : Fin 8) (tag : Nat)
  /-- PCIE_TAG_QUARANTINE_END (R294). -/
  | pcieTagQuarantineEnd (p : PortId) (root : Fin 8) (tag : Nat)
  /-- DPC_TRIGGER (R293). -/
  | dpcTrigger (p : PortId) (root : Fin 8)
  /-- PORT_LINK_EVENT (R291). -/
  | portLinkEvent (p : PortId) (root : Fin 8) (ev : PortEvent)
  /-- CXL_LINK_DOWN (R299). -/
  | cxlLinkDown (p : PortId) (root : Fin 8)
  /-- LINK_POWER_IDLE (R310). -/
  | linkPowerIdle (p : PortId) (tgt : LinkPower) (ltr : Option Nat)
  /-- DT_CMD_TAIL_WRITE (R302). -/
  | dtCmdTailWrite (p : PortId) (val : Word)
  /-- RING_SLOT_FETCH (R302). -/
  | ringSlotFetch (r : RingId) (ok : Bool) (opcode : Byte) (pkt : CmdPkt)
  /-- DT_RPL_HEAD_WRITE (R302). -/
  | dtRplHeadWrite (p : PortId) (val : Word)
  /-- DT_RING_CFG_WRITE (R302). -/
  | dtRingCfgWrite (p : PortId) (val : Word)
  /-- DT_NQ_POP (R301). -/
  | dtNqPop (p : PortId) (size : Nat)
  /-- DT_WIN_COMMIT (R305). -/
  | dtWinCommit (p : PortId) (val : Word)
  /-- BAR_RESIZE (R303). -/
  | barResize (p : PortId) (log2Gib : Nat)
  /-- RECOVERY_WINDOW_ACCESS (R306). -/
  | recoveryWindowAccess (p : PortId) (t : Tlp)
  /-- FUNDAMENTAL_RESET (R309). -/
  | fundamentalReset (p : PortId)
  /-- HOT_RESET (R309). -/
  | hotReset (p : PortId)
  /-- FUNCTION_LEVEL_RESET (R309). -/
  | functionLevelReset (p : PortId)
  /-- GET_INFO (R329). -/
  | getInfo (t : TInst) (pkt : CmdPkt)
  /-- GET_STATUS (R329). -/
  | getStatus (t : TInst) (pkt : CmdPkt)
  /-- ABORT (R327). -/
  | abort (t : TInst) (pkt : CmdPkt)
  /-- ECHO (R329). -/
  | echo (t : TInst) (pkt : CmdPkt)
  /-- SET_MODE (R38). -/
  | setMode (t : TInst) (pkt : CmdPkt)
  /-- GET_MODE (R329). -/
  | getMode (t : TInst) (pkt : CmdPkt)
  /-- FRAME_RESET (R444). -/
  | frameReset (t : TInst) (pkt : CmdPkt)
  /-- STUD_RESET (R445). -/
  | studReset (t : TInst) (pkt : CmdPkt)
  /-- SET_POWER_CAP (R390). -/
  | setPowerCap (t : TInst) (pkt : CmdPkt)
  /-- GET_POWER (R331). -/
  | getPower (t : TInst) (pkt : CmdPkt)
  /-- SET_DOMAIN_STATE (R332). -/
  | setDomainState (t : TInst) (pkt : CmdPkt)
  /-- SET_PERF_POLICY (R331). -/
  | setPerfPolicy (t : TInst) (pkt : CmdPkt)
  /-- SET_COOLING (R331). -/
  | setCooling (t : TInst) (pkt : CmdPkt)
  /-- GET_THERMAL_MODEL (R331). -/
  | getThermalModel (t : TInst) (pkt : CmdPkt)
  /-- SCRUB_RANGE (R243). -/
  | scrubRange (t : TInst) (pkt : CmdPkt)
  /-- INJECT_ERROR (R334). -/
  | injectError (t : TInst) (pkt : CmdPkt)
  /-- CHECKER_SELFTEST (R411). -/
  | checkerSelftest (t : TInst) (pkt : CmdPkt)
  /-- GET_ERROR_LOG (R409). -/
  | getErrorLog (t : TInst) (pkt : CmdPkt)
  /-- MEM_TRAIN_SAVE (R235). -/
  | memTrainSave (t : TInst) (pkt : CmdPkt)
  /-- BAY_LOCK_RANGE (R138). -/
  | bayLockRange (t : TInst) (pkt : CmdPkt)
  /-- BAY_UNLOCK (R140). -/
  | bayUnlock (t : TInst) (pkt : CmdPkt)
  /-- BENCH_CONFIG (R143). -/
  | benchConfig (t : TInst) (pkt : CmdPkt)
  /-- BAY_FLUSH_RANGE (R333). -/
  | bayFlushRange (t : TInst) (pkt : CmdPkt)
  /-- BAY_INVALIDATE (R333). -/
  | bayInvalidate (t : TInst) (pkt : CmdPkt)
  /-- SCRIBE_FREEZE (R424). -/
  | scribeFreeze (t : TInst) (pkt : CmdPkt)
  /-- SCRIBE_THAW (R424). -/
  | scribeThaw (t : TInst) (pkt : CmdPkt)
  /-- SCRIBE_READ (R335). -/
  | scribeRead (t : TInst) (pkt : CmdPkt)
  /-- SCRIBE_CLEAR (R424). -/
  | scribeClear (t : TInst) (pkt : CmdPkt)
  /-- SCRIBE_FLUSH (R425). -/
  | scribeFlush (t : TInst) (pkt : CmdPkt)
  /-- LINK_STATUS (R335). -/
  | linkStatus (t : TInst) (pkt : CmdPkt)
  /-- TENON_MAP_READ_ONE (R335). -/
  | tenonMapReadOne (t : TInst) (pkt : CmdPkt)
  /-- TENON_MAP_READ_ALL (R335). -/
  | tenonMapReadAll (t : TInst) (pkt : CmdPkt)
  /-- TENON_MAP_CLEAR (R213). -/
  | tenonMapClear (t : TInst) (pkt : CmdPkt)
  /-- LINK_RETRAIN (R336). -/
  | linkRetrain (t : TInst) (pkt : CmdPkt)
  /-- PORT_PERSONALITY (R283). -/
  | portPersonality (t : TInst) (pkt : CmdPkt)
  /-- RIDGE_EXPORT_WRITE (R273). -/
  | ridgeExportWrite (t : TInst) (pkt : CmdPkt)
  /-- RIDGE_EXPORT_CLEAR (R273). -/
  | ridgeExportClear (t : TInst) (pkt : CmdPkt)
  /-- RIDGE_EXPORT_READ (R273). -/
  | ridgeExportRead (t : TInst) (pkt : CmdPkt)
  /-- RIDGE_EXPORT_CLEAR_ALL (R273). -/
  | ridgeExportClearAll (t : TInst) (pkt : CmdPkt)
  /-- FW_BEGIN (R337). -/
  | fwBegin (t : TInst) (pkt : CmdPkt)
  /-- FW_CHUNK (R337). -/
  | fwChunk (t : TInst) (pkt : CmdPkt)
  /-- FW_COMMIT (R338). -/
  | fwCommit (t : TInst) (pkt : CmdPkt)
  /-- FW_SESSION_TIMEOUT (R337). -/
  | fwSessionTimeout
  /-- ATTEST (R451). -/
  | attest (t : TInst) (pkt : CmdPkt)
  /-- COMMAND_FINAL_REPLY (R323). -/
  | commandFinalReply (t : TInst) (tag : BitVec 8) (fin : FinishIn)
  /-- COMMAND_TIMEOUT (R323). -/
  | commandTimeout (t : TInst) (tag : BitVec 8)
  /-- COMMAND_CRC_FAILURE (R321). -/
  | commandCrcFailure (t : TInst) (opcode : Byte) (pkt : CmdPkt)
  /-- BAD_OPCODE (R321). -/
  | badOpcode (t : TInst) (opcode : Byte) (pkt : CmdPkt)
  /-- TRANSPORT_LOST (R326). -/
  | transportLost (t : TInst)
  /-- ENTDAA (R316). -/
  | entdaa (addr : BitVec 7)
  /-- SET_ENDPOINT_ID (R316). -/
  | setEndpointId (eid : Byte)
  /-- GET_ENDPOINT_ID (R316). -/
  | getEndpointId
  /-- GET_ENDPOINT_UUID (R316). -/
  | getEndpointUuid
  /-- GET_MCTP_VERSION_SUPPORT (R316). -/
  | getMctpVersionSupport
  /-- GET_MESSAGE_TYPE_SUPPORT (R316). -/
  | getMessageTypeSupport
  /-- GET_VENDOR_DEFINED_MESSAGE_SUPPORT (R316). -/
  | getVendorDefinedMessageSupport
  /-- GET_VERSION (R449). -/
  | getVersion (t : TInst) (version : Byte)
  /-- GET_CAPABILITIES (R449). -/
  | getCapabilities (t : TInst) (version : Byte)
  /-- NEGOTIATE_ALGORITHMS (R449). -/
  | negotiateAlgorithms (t : TInst) (version : Byte) (p384 sha384 : Bool)
  /-- GET_DIGESTS (R449). -/
  | getDigests (t : TInst) (version : Byte)
  /-- GET_CERTIFICATE (R449). -/
  | getCertificate (t : TInst) (version slot : Byte) (off len : BitVec 16)
  /-- CHALLENGE (R449). -/
  | challenge (t : TInst) (version slot : Byte) (nonce : BitVec 256)
  /-- GET_MEASUREMENTS (R450). -/
  | getMeasurements (t : TInst) (version : Byte) (index : Byte) (sign : Bool) (nonce : BitVec 256)
  /-- SPDM_UNSUPPORTED_REQUEST (R449). -/
  | spdmUnsupportedRequest (t : TInst) (version code : Byte)
  /-- SEL_WRITE (R347). -/
  | selWrite (ap : AccessPort) (w : Win) (part : Part) (val : Word)
  /-- NQ_POP (R415). -/
  | nqPop (ap : AccessPort) (part : Part)
  /-- NQ_POP_TIMEOUT (R415). -/
  | nqPopTimeout (q : NqId)
  /-- NQ_LEVEL_WRITE (R415). -/
  | nqLevelWrite (q : NqId) (val : Word)
  /-- CMDQ_CMD_TAIL_WRITE (R315). -/
  | cmdqCmdTailWrite (ap : AccessPort) (part : Part) (val : Word)
  /-- CMDQ_RPL_HEAD_WRITE (R315). -/
  | cmdqRplHeadWrite (ap : AccessPort) (part : Part) (val : Word)
  /-- CMDQ_CFG_WRITE (R358). -/
  | cmdqCfgWrite (ap : AccessPort) (part : Part) (val : Word)
  /-- BAY_CTL_WRITE (R147). -/
  | bayCtlWrite (ap : AccessPort) (part : Part) (val : Word)
  /-- TENON_THRESH_WRITE (R351). -/
  | tenonThreshWrite (ap : AccessPort) (part : Part) (val : Word)
  /-- UPMU_CTL_WRITE (R360). -/
  | upmuCtlWrite (ap : AccessPort) (k : Fin 4) (part : Part) (val : Word)
  /-- UPMU_CNT_WRITE (R469). -/
  | upmuCntWrite (ap : AccessPort) (k : Fin 4) (part : Part) (val : Word)
  /-- UPMU_COUNTER_WRAP (R469). -/
  | upmuCounterWrap (inst : Nat) (k : Fin 4)
  /-- CBQRI_OPERATION (R359). -/
  | cbqriOperation (ap : AccessPort) (alloc : Bool) (val : Word)
  /-- REGISTER_WRITE (R343). -/
  | registerWrite (tgt : RegTarget) (val : Word)
  /-- VIN_SAMPLE (R363). -/
  | vinSample (vin iin : Nat)
  /-- INPUT_CURRENT_LIMIT (R364). -/
  | inputCurrentLimit (above : Bool) (long : Bool) (measured : Nat)
  /-- STRETCH_CAP_RESTORE (R364). -/
  | stretchCapRestore
  /-- PWRFAIL_N_ASSERT (R367). -/
  | pwrfailNAssert
  /-- PWRFAIL_N_RELEASE (R368). -/
  | pwrfailNRelease
  /-- THROTTLE_N_ASSERT (R391). -/
  | throttleNAssert
  /-- THROTTLE_N_RELEASE (R391). -/
  | throttleNRelease
  /-- CONTROL_PERIOD (R388). -/
  | controlPeriod (power : List (Nat × Nat))
  /-- STUD_RAISE_STEP (R389). -/
  | studRaiseStep (f : FrameId) (power : List (Nat × Nat))
  /-- COOL_STEP (R396). -/
  | coolStep
  /-- COOLANT_SAMPLE (R393). -/
  | coolantSample (src : Coolant) (ok : Bool) (val : Int)
  /-- COOLANT_STALE (R394). -/
  | coolantStale (src : Coolant)
  /-- COOLANT_FALLBACK_EXIT (R394). -/
  | coolantFallbackExit
  /-- THERMAL_REFIT (R395). -/
  | thermalRefit (n : Fin 13) (tau1 tau2 gain coupling residual : Nat)
  /-- SENSOR_SAMPLE (R397): 0 to 11 the sensors of a stud, 12 + q those of sill quadrant q. -/
  | sensorSample (n : Fin 16) (temps : List Int)
  /-- THERMTRIP (R399). -/
  | thermtrip
  /-- REFCLK_LOSS (R370). -/
  | refclkLoss
  /-- IDLE_PROMOTION_SLEEP (R379). -/
  | idlePromotionSleep (c : CoreId)
  /-- IDLE_PROMOTION_DEEP (R380). -/
  | idlePromotionDeep (c : CoreId)
  /-- DEEP_ENTRY_STEP (R380). -/
  | deepEntryStep (c : CoreId) (ap : AbortPoint)
  /-- WAKE_EVENT (R378). -/
  | wakeEvent (c : CoreId)
  /-- ARRAY_RETAIN_ENTRY (R384). -/
  | arrayRetainEntry (b : BayId)
  /-- DOMAIN_LOW_WAKE (R375). -/
  | domainLowWake (d : DomId)
  /-- DOMAIN_LOW_RETURN (R375). -/
  | domainLowReturn (d : DomId)
  /-- PLUMB_RESTART (R404). -/
  | plumbRestart
  /-- SCRIBE_SAMPLE (R423). -/
  | scribeSample (rec : Word) (quantity : Nat) (val : Int)
  /-- SCRIBE_FREEZE_EXPIRY (R424). -/
  | scribeFreezeExpiry
  /-- SCRIBE_PERIODIC_FLUSH (R425). -/
  | scribePeriodicFlush
  /-- SCRIBE_FLUSH_END (R425). -/
  | scribeFlushEnd (ok : Bool)
  /-- REPAIR_MAP_JOURNAL_WRITE (R204). -/
  | repairMapJournalWrite
  /-- PWRGOOD_DEASSERT (R431). -/
  | pwrgoodDeassert
  /-- COLD_RESET (R432). -/
  | coldReset (env : BootEnv)
  /-- EXIT_FROM_OFF (R447). -/
  | exitFromOff (env : BootEnv)
  /-- RESET_N_ASSERT (R443). -/
  | resetNAssert
  /-- RESET_N_DEASSERT (R443). -/
  | resetNDeassert (env : BootEnv)
  /-- CORE_RESET (R446). -/
  | coreReset (c : CoreId)
  /-- LINK_UP (R256): training ends at `width` lanes and a `rate` coded as RATE of LANE_STATUS (R355); `cap` is the capacity of a CXL device in
  256 MiB units (R298). -/
  | linkUp (p : PortId) (root : Fin 8) (link : LinkIn)
  /-- SPARE_PRBS_ERROR (R196). -/
  | sparePrbsError (n : StudId) (d : TDirId) (g : Fin 64) (wire : BitVec 7) (errs : Nat)
  /-- COMMAND_SLOT (R223). -/
  | commandSlot (ch : ChanId) (sub : Fin 2)
  /-- CXL_MEM_RESPONSE (R157). -/
  | cxlMemResponse (p : PortId) (line : Nat) (data : Line) (poison : Bool)
  /-- INTERRUPT_TAKEN (R75). -/
  | interruptTaken (c : CoreId)
  /-- INSTRUCTION_FETCH (R57). -/
  | instructionFetch (c : CoreId) (va : Word) (upset : Upset)
  /-- DEBUG_UART (R78). -/
  | debugUart
  /-- DT_BAR_REGISTER_WRITE (R301). -/
  | dtBarRegisterWrite (p : PortId) (off : BitVec 24) (size : Nat) (val : Word)
  /-- HOST_CONFIG_WRITE (R308). -/
  | hostConfigWrite (p : PortId) (reg : Nat) (val : BitVec 32)
deriving DecidableEq, Repr

end Sys2Proof
end

