-- ==== Sys2Proof/Config.lean ====
section
/-! DEFINITION. What one implementation fixes and the spec leaves open: constants without a body. Nothing in Lean can
evaluate them, so a statement that mentions one holds whatever its value (log entry 2). -/

namespace Sys2Proof.Config

/-- A free value: what the spec leaves open for one use. Every use applies it to the counter `free` of State, which
the use advances (log entry 2). -/
opaque freeValue : Nat → Word

/-- SHA-384 (R436, R450); the algorithm is FIPS 180-4, not restated by the spec. -/
opaque sha384 : List Byte → BitVec 384

/-- Byte i of the public key of a fused key slot, as the header of a bundle carries it (R435). -/
opaque signingKey : Nat → Nat → Byte

/-- The digest of the boot ROM, measurement block 1 (R450). -/
opaque bootRomDigest : BitVec 384

/-- The digest of measurement block i over the values it names: the spec gives no byte layout for blocks 7, 8 and
16 + f (R450). -/
opaque measurement : Nat → List Nat → BitVec 384

/-- The two 48-byte integers r and s of a signature with the alias key (R449, R451) over a digest. -/
opaque sign : BitVec 384 → BitVec 768

/-- The certificate chain of SPDM slot 0 for a booted bundle's digest (R449). -/
opaque certChain : BitVec 384 → List Byte

/-- The PCI-SIG vendor identifier of Hiwevos (R300, R316): the spec gives no number. -/
opaque vendorId : BitVec 16

/-- Device and revision identifiers of the root ports (R281, R287): the spec gives none. -/
opaque rootDevice : BitVec 16
opaque rootRevision : Byte

/-- What a root port's DOE mailbox answers to a data object, by its words (R287): the spec describes no object. -/
opaque doeAnswer : List Nat → List Nat

/-- The package serial number (R329). -/
opaque serialNumber : Word

/-- The endpoint UUID of R316. -/
opaque endpointUuid : BitVec 128

/-- The four default thermal model parameters of the bundle's type 6 component: tau1, tau2 in µs, G100 in mK/W and
coupling in mK/K (R331, R395); the spec gives no layout for the component. -/
opaque thermalDefault : Nat → Nat → Nat

/-- The two-lag model of R395 run 500 ms ahead, in 0.01 °C: a function of the list of the model's four parameters, the power in
mW, the duty in half per cents, the inlet in 0.01 °C and the present temperature in 0.01 °C. -/
opaque predict : List Int → Int

/-- The seed the generator of R230 takes from Plumb's entropy source at one training. -/
opaque entropy : Nat → Word

/-- The version of the shim walker that a bundle's version carries (R97): the spec names no place for it in the bundle. -/
opaque walkerVersion : Nat → BitVec 16

/-- The frequency in MHz that a core's droop-tracking oscillator shows in mclksel (R86), by the count of free values. -/
opaque droopFreq : Nat → BitVec 16

/-- The eye openings and lane numbers a trained lane shows in LANE_STATUS (R355), by lane and the count of free values. -/
opaque laneEye : Nat → Nat → Word

/-- The MCTP message tag of the request that message i to the BMC answers (R316): no row of the opcode table carries it. -/
opaque mctpTag : Nat → Nat
/-- The endpoint ID of the BMC (R316). -/
opaque bmcEid : Byte

/-- SPDM octets beyond what the spec states for a response, by response code and index (R449). -/
opaque spdmOctet : Nat → Nat → Byte

end Sys2Proof.Config
end

