-- ==== Sys2Proof/Machine/State.lean ====
section
/-! DEFINITION. The state of the package as plain data: every register, queue, counter, mode and pin the spec gives
the block, and the queue of waiting commands. Each field's comment names the rule that gives it, its width or range and its reset value
(DC: the spec gives none and log entry 1 names the value). A table (`Map`) lists only what differs from the value an
unlisted key stands for. -/

namespace Sys2Proof.Machine

/-! ## Outcomes that stop -/

/-- The machine stops. Closed; every constructor says who raises it. -/
inductive Fault where
  /-- VIN_SAMPLE below 4.5 V with the clocks running: logic fails and nothing marks the failure (R365). Safe: no
  later behaviour is claimed. -/
  | logicFailure
  /-- VIN_SAMPLE above the absolute maximum of 66 V: the package may be damaged (R484). Safe. -/
  | beyondAbsoluteMaximum
deriving DecidableEq, Repr

/-- The model has no meaning for the command. -/
inductive Refusal where
  /-- An arm of the dispatch with no meaning written. Safe. -/
  | notModelled (mnemonic : String)
deriving DecidableEq, Repr

/-! ## Harts: registers and translation -/

/-- Entry kinds of the TLBs (R91). -/
inductive TlbKind where
  | std | hewn | guest | gstage
deriving DecidableEq, Repr

/-- One TLB entry (R89, R91). -/
structure TlbEnt where
  kind  : TlbKind := .std  -- R91 | 2 bits | -
  size  : Nat := 0         -- R90, R111 | size class 0-5 | -
  vpn   : Nat := 0         -- R91 | first 4 KiB page number of the page | -
  asid  : Nat := 0         -- R91 | 16 bits | -
  vmid  : Nat := 0         -- R91 | 14 bits | -
  g     : Bool := false    -- R91 | 1 bit | -
  ppn   : Nat := 0         -- R91 | 44 bits, first 4 KiB page of the translation | -
  pte   : Word := 0        -- R112 | 64 bits, the leaf (VS-stage leaf of a GUEST entry) | -
  gpte  : Word := 0        -- R91 | 64 bits, the G-stage leaf of a GUEST entry | -
  wired : Bool := false    -- R114, R115 | 1 bit | -
  ref   : Bool := true     -- R89 | not-recently-used bit of the way | -
deriving DecidableEq, Repr

/-- One entry of the paging-structure cache (R89): a non-leaf PTE. -/
structure PscEnt where
  stage : Nat := 0         -- R89 | 0 single, 1 VS, 2 G | -
  level : Nat := 0         -- R89 | level of the table it gives, 0-3 | -
  vpn   : Nat := 0         -- R89 | page number with the bits below the level dropped | -
  asid  : Nat := 0         -- R89 | 16 bits | -
  vmid  : Nat := 0         -- R89 | 14 bits | -
  g     : Bool := false    -- R116 | a global non-leaf PTE on the path | -
  table : Nat := 0         -- R89 | PA (guest PA at VS stage) of the next table | -
deriving DecidableEq, Repr

/-- How an access is checked: the privilege and the status bits in force (R104, R108, R112). -/
structure Ctx where
  priv : Nat := 3          -- R104 | 0 U, 1 S, 3 M | -
  virt : Bool := false     -- R91 | V of the access | -
  sum  : Bool := false     -- R104 | - | -
  mxr  : Bool := false     -- R104 | - | -
  vmxr : Bool := false     -- R104 | vsstatus.MXR of a guest access | -
  spt  : Bool := false     -- R73 | a hint: dropped in place of a fault | -
deriving DecidableEq, Repr

/-- One walk context (R93): a walk in flight. -/
structure Walk where
  src    : WalkSrc := .demand  -- R94 | - | -
  acc    : AccType := .load    -- R94 | - | -
  va     : Word := 0           -- R94 | 64 bits | -
  ctx    : Ctx := {}           -- R104 | - | -
  kind   : TlbKind := .std     -- R95 | STD or GUEST | -
  asid   : Nat := 0            -- R95 | 16 bits | -
  vmid   : Nat := 0            -- R95 | 14 bits | -
  mode   : Nat := 8            -- R98 | 0, 8, 9 or 10: mode of the single or VS stage | -
  gmode  : Nat := 0            -- R98 | 0, 8, 9 or 10 | -
  level  : Nat := 2            -- R104 | level of the PTE to be read, single or VS stage | -
  table  : Nat := 0            -- R98 | table base, PA or guest PA | -
  glob   : Bool := false       -- R91 | a global PTE met on the path | -
  inG    : Bool := false       -- R101 | a G-stage translation is under way | -
  gpa    : Nat := 0            -- R101 | the guest PA being translated | -
  glevel : Nat := 2            -- R104 | level of the G-stage PTE to be read | -
  gtable : Nat := 0            -- R98 | G-stage table base | -
  root   : Nat := 0            -- R98 | root table of satp or vsatp as the walk began | -
  groot  : Nat := 0            -- R98 | root table of hgatp as the walk began | -
  /-- The access that owns it, by its place in program order (R94, R103, R120). -/
  seq    : Nat := 0            -- R94 | model's own | -
  leaf   : Option (Word × Nat) := none  -- R91 | the VS-stage leaf and its level, once read | -
  gleaf  : Word := 0           -- R91 | the G-stage leaf that translated the last guest PA | -
  pa     : Nat := 0            -- R96 | PA of the PTE to be read | -
  vpa    : Nat := 0            -- R101 | PA of the VS-stage PTE once translated | -
  /-- GSTAGE entries that its last step used (R89). -/
  used   : List Nat := []      -- R89 | places in the L2 TLB | empty
  /-- The G-stage translation under way must grant a write: an A/D update of a VS-stage PTE (R100). -/
  gwr    : Bool := false       -- R100 | 1 bit | -
deriving DecidableEq, Repr

/-- An access that waits for its translation, its turn or its line; oldest first (R94, R103). -/
structure Wait where
  acc    : Acc := {}           -- R59 | - | -
  ctx    : Ctx := {}           -- R104 | - | -
  seq    : Nat := 0            -- R55 | model's own: place in program order | -
  pc     : Word := 0           -- R55 | 64 bits, its instruction | -
  /-- A walk for it ended without a fill: it asks for a head walk when oldest (R103). -/
  head   : Bool := false       -- R103 | 1 bit | -
  /-- Its translation is done and its PA stands in `acc`. -/
  xlated : Bool := false       -- R59 | 1 bit | -
  /-- Its line has just entered L2 at the least recent position: the access itself is no hit (R125). -/
  filled : Bool := false         -- R125 | 1 bit | -
  ntl    : Option Ntl := none    -- R74 | the hint that preceded it | -
  /-- Its home answered ERR for this line: it raises an access fault once it is the oldest (R142). -/
  err    : Option Nat := none    -- R142 | PA[55:6] of the line | none
deriving DecidableEq, Repr

/-- Registers of one hart (R51, R53, R84, R453). -/
structure Regs where
  x    : Map Word := []          -- R51 | 31 x 64 bits, x0 = 0 | 0 (privileged architecture, R440; DC)
  f    : Map Word := []          -- R51 | 32 x 64 bits | DC 0
  v    : Map (BitVec 256) := []  -- R51 | 32 x 256 bits | DC 0
  vstart : Nat := 0              -- R82 | index | DC 0
  vl   : Nat := 0                -- R82 | length | DC 0
  pc   : Word := 0               -- R440 | 64 bits | the release address of R440; before a release DC 0
  priv : Nat := 3                -- R440 | M, S or U | 3 (R440)
  virt : Bool := false           -- R91 | V | 0 (PRESUMED)
  /-- CSRs by architectural number (R53, R84, R98, R106, R111 to R113, R453, R462); an unlisted number reads its
  reset value, `Csr.resetValue`. -/
  csr  : Map Word := []          -- R53, R84, R453, R462 | 64 bits each | Reset columns; see Csr.resetValue
deriving DecidableEq, Repr

/-- Translation structures of one core (R89). -/
structure Xlat where
  itlb  : Map TlbEnt := []       -- R89 | 64 entries | empty (R92)
  dtlb  : Map TlbEnt := []       -- R89 | 64 entries | empty (R92)
  l2tlb : Map TlbEnt := []       -- R89, R90 | 3,072 entries, set x 12 + way | empty (R92)
  psc   : Map PscEnt := []       -- R89 | 256 entries | empty (R92)
  walks : Map Walk := []         -- R93 | 4 contexts | all free
  shim  : Bool := false          -- R93 | shim store loaded | 0; loaded at cold-boot step 5
  shimVer : Nat := 0             -- R97 | version of the bundle it came from | 0
deriving DecidableEq, Repr

/-! ## Harts: caches and pipeline -/

/-- L2 line states (R158). -/
inductive LSt where
  | s | e | m | f | o
deriving DecidableEq, Repr

/-- One line of an L2 (R124, R125); the list of a set runs from most to least recent. -/
structure L2Line where
  way    : Nat := 0          -- R125 | 0-15 | -
  line   : Nat := 0          -- R124 | PA[55:6] | -
  st     : LSt := .s         -- R158 | 5 states | -
  data   : Line := 0         -- R124 | 512 bits | -
  poison : Bool := false     -- R82 | 1 bit | -
  src    : Nat := 0          -- R88 | SOURCE code of the supplier | -
  wmask  : BitVec 64 := 0    -- R275 | written bytes of a ridge line | -
deriving DecidableEq, Repr

/-- Kinds of stud transaction tag slots (R56). -/
inductive SlotKind where
  | miss | evict | keep | unc | pref | cbo
  /-- The write of a notch (R465): an uncached access of its own. -/
  | notch
deriving DecidableEq, Repr

/-- One transaction tag slot of a core (R56): an L2 miss register (R127), an eviction or writeback entry (R126,
R499), an uncached access, a prefetch or a cache-block operation. -/
structure Slot where
  kind   : SlotKind := .miss       -- R56 | - | -
  line   : Nat := 0                -- R127 | PA[55:6] | -
  op     : MsgOp := .rdS           -- R164 | the request sent | -
  merged : List Wait := []         -- R127 | up to 16 accesses, oldest first | -
  data   : Option (Line × MsgOp × Bool × Nat) := none  -- R125 | fill data, its grant, its poison mark and source | -
  goU    : Option Bool := none     -- R170 | GO_U received, with its DIRTY bit | -
  lru    : Bool := false           -- R74 | enters at the least recent position | -
  nonalloc : Bool := false         -- R74 | NTL.ALL | -
  way    : Option Nat := none      -- R125 | the L2 way a UPG holds | -
  /-- Writeback entry: its data with its dirty state (M or O) and mark; none once spent (R172). -/
  wb     : Option (Line × LSt × Bool) := none  -- R126 | - | -
  rcid   : Nat := 0                -- R162 | 6 bits | -
  mcid   : Nat := 0                -- R162 | 8 bits | -
  dst    : Nat := 0                -- R163 | agent the request went to | -
  dpkg   : Nat := 0                -- R163 | its package | -
  htx    : Nat := 0                -- R162 | home transaction of its grant | -
  mask   : BitVec 64 := 0          -- R275 | written bytes of a ridge line still to be sent | -
  /-- The register asks for ownership once shared data has come (R127), and asks with CBO_ZERO (R148). -/
  uniq   : Bool := false           -- R127 | 1 bit | -
  /-- The store at the head of the store queue is one of its accesses (R127). -/
  st     : Bool := false           -- R127 | 1 bit | -
  zero   : Bool := false           -- R148 | 1 bit | -
deriving DecidableEq, Repr

/-- A store in the store queue (R54, R60). -/
structure StoreEnt where
  acc  : Acc := {}               -- R60 | - | -
  ctx  : Ctx := {}               -- R60 | - | -
  ntl  : Option Ntl := none      -- R74 | - | -
  seq  : Nat := 0                -- R60 | model's own: place in program order | -
  pc   : Word := 0               -- R55 | 64 bits, its instruction | -
  filled : Bool := false         -- R125 | 1 bit: its line has just entered at the least recent position | -
  /-- Its home can answer it with an access error: nothing after it retires before it is performed (R55, R142). -/
  mayErr : Bool := false         -- R55 | 1 bit | -
deriving DecidableEq, Repr

/-- A translation fence or invalidation (R116, R117). -/
inductive XFence where
  | vma (va : Option Word) (asid : Option Nat)
  | vvma (va : Option Word) (asid : Option Nat)
  | gvma (gpa : Option Word) (vmid : Option Nat)
  | sinvalVma (va : Option Word) (asid : Option Nat)
  | sinvalVvma (va : Option Word) (asid : Option Nat)
  | sinvalGvma (gpa : Option Word) (vmid : Option Nat)
  | wInval
  | invalIr
deriving DecidableEq, Repr

/-- A fence that waits for its predecessors (R62, R63, R116, R117). A FENCE.I and the translation fences hold every later
access; a translation fence acts once its wait ends. -/
structure Fence where
  seq  : Nat := 0                -- R63 | model's own: place in program order | -
  pc   : Word := 0               -- R55 | 64 bits, its instruction | -
  pred : BitVec 4 := 0           -- R63 | I, O, R, W | -
  succ : BitVec 4 := 0           -- R63 | I, O, R, W | -
  all  : Bool := false           -- R62, R116 | holds every later access | -
  x    : Option XFence := none   -- R116, R117 | - | -
deriving DecidableEq, Repr

/-- A load that is bound and not yet retired: an entry of the reorder buffer (R54, R55). -/
structure RobEnt where
  w      : Wait := {}            -- R55 | - | -
  val    : Nat := 0              -- R55 | 128 bits | -
  poison : Bool := false         -- R82 | 1 bit | -
  pline  : Nat := 0              -- R88 | PA[55:6] of the first poisoned line of it | -
  src    : Nat := 0              -- R88 | 0-6 | -
deriving DecidableEq, Repr

/-- Poisoned data waiting to be consumed at retirement (R82). -/
structure PoisonRec where
  va   : Word := 0               -- R81 | 64 bits | -
  pa   : Nat := 0                -- R88 | 56 bits | -
  src  : Nat := 0                -- R88 | 0-6 | -
  kind : Nat := 0                -- R88 | ACCESS code 0-3 | -
  elem : Nat := 0                -- R82 | vector element | -
  pc   : Word := 0               -- R55 | 64 bits, its instruction | -
  guest : Bool := false          -- R81 | 1 bit: va is a guest virtual address | -
deriving DecidableEq, Repr

/-- Caches and pipeline of one core (R54, R121, R124). -/
structure Pipe where
  l1i    : List Nat := []           -- R121 | lines held, 16 ways x 64 sets | empty
  l1d    : List Nat := []           -- R121 | lines held, 16 ways x 64 sets | empty
  l2     : Map (List L2Line) := []  -- R124 | 1,024 sets x 16 ways, most recent first | empty
  slots  : Map Slot := []           -- R56 | 128 slots | free
  storeQ : List StoreEnt := []      -- R54, R60 | 128 entries, oldest first | empty
  waits  : List Wait := []          -- R54 | load queue and accesses waiting, oldest first | empty
  resv   : Option Nat := none       -- R67 | reserved line PA[55:6] | none
  hold   : Option Nat := none       -- R67, R100 | line held for an LR | none
  snpQ   : List Msg := []           -- R67, R169 | snoops deferred by the hold | empty
  poison : Option PoisonRec := none -- R82 | poisoned data at retirement | none
  stall  : Option (Nat × Word) := none  -- R415 | model's own: place and pc of a load stalled in a notice queue | none
  rob    : List RobEnt := []        -- R54, R55 | 576 entries with the accesses and fences that wait | empty
  seq    : Nat := 0                 -- R55 | model's own: place in program order of the next access | 0
  /-- A trap was taken while waiting accesses were tried again: the younger ones are squashed (R55). -/
  trapped : Bool := false           -- model's own | 1 bit | 0
  ntl    : Option Ntl := none       -- R74 | hint for the next access | none
  fence  : List Fence := []         -- R62, R63, R116 | fences that wait, oldest first | none
  l2bad  : Map Nat := []            -- R334 | planted L2 errors by line: 1 one bit, 2 uncorrectable | none
  l1bad  : List Nat := []           -- R334 | planted L1D parity errors by line | none
deriving DecidableEq, Repr

/-- What a core is doing (R376, R441). -/
inductive Run where
  /-- Out of reset and held: power-gated in DEEP (R441). -/
  | held
  | run | idle | sleep
  /-- In DEEP entry, the next abort point to complete (R380). -/
  | entering (ap : AbortPoint)
  | deep
  /-- Stopped by a fatal error, a reset in progress or package OFF (R406, R444, R385). -/
  | stopped
deriving DecidableEq, Repr

/-- What an idle core waits in (R68, R69). -/
inductive Waiting where
  | nothing | wfi | wrsNto | wrsSto
deriving DecidableEq, Repr

/-- An interrupt file (R75). -/
structure IFile where
  eip  : List Nat := []        -- R75 | 2,047 bits: pending identities, rising | empty
  eie  : List Nat := []        -- R75 | 2,047 bits: enabled identities, rising | empty
  delivery : Bool := false     -- R75 | 1 bit | 0 (PRESUMED, architectural)
  threshold : Nat := 0         -- R75 | 11 bits | 0 (PRESUMED, architectural)
deriving DecidableEq, Repr

/-- The notch sampler beside its CSRs (R464). -/
structure Notch where
  tagged : Bool := false       -- R464 | 1 bit | 0
  mode   : Nat := 0            -- R464 | privilege and V of the tagged instruction, 3 bits | DC 0
  asid   : Nat := 0            -- R464 | ASID in use at its tag, 16 bits | DC 0
  vmid   : Nat := 0            -- R464 | VMID in use at its tag, 14 bits | DC 0
  lfsr   : BitVec 16 := 1      -- R464 | 16 bits | mhartid[11:0] + 1
  seq    : BitVec 32 := 0      -- R464 | 32 bits | 0
  /-- The notch that is being written, or waits for a slot to be written with, and its line in the ring. -/
  rec_   : Option (Line × Nat) := none  -- R465 | 512 bits | none
deriving DecidableEq, Repr

/-- One core and its hart (R54). -/
structure Core where
  regs   : Regs := {}            -- R51 | - | -
  xlat   : Xlat := {}            -- R89 | - | -
  pipe   : Pipe := {}            -- R54 | - | -
  run    : Run := .stopped       -- R376, R441 | - | stopped in cold reset (R431)
  waiting : Waiting := .nothing  -- R68, R69 | - | nothing
  halt   : Bool := false         -- R378 | debug halt request | 0
  /-- A wake that waits for HELD, AP4 or a self-test (R381, R382, R411). -/
  wake   : Bool := false         -- R378 | 1 bit | 0
  /-- Release starts in hart entry code: held after a stud or core reset (R440). -/
  entry  : Bool := false         -- R440 | 1 bit | 0
  cause  : Nat := 0              -- R440 | reset cause 0-5 | 0
  resetting : Bool := false      -- R446 | a core reset is running | 0
  imsic  : Map IFile := []       -- R75 | 9 files: 0 machine, 1 supervisor, 1 + g guest g | empty
  mtimecmp : Word := BitVec.allOnes 64   -- R80 | 64 bits | all-ones
  /-- Wake comparator copies of stimecmp, vstimecmp and htimedelta (R378). -/
  wakeCmp : Word × Word × Word := (BitVec.allOnes 64, BitVec.allOnes 64, 0)  -- R378 | 3 x 64 bits | DC all-ones, all-ones, 0
  notch  : Notch := {}           -- R464 | - | -
  /-- A clock switch in progress and its target (R86, R373). -/
  clk    : Option Bool := none   -- R86 | - | none
deriving DecidableEq, Repr

/-! ## Studs -/

/-- A fitted thermal model (R395). -/
structure Model where
  tau1 : Nat := 0        -- R331, R395 | µs | from the bundle (opaque)
  tau2 : Nat := 0        -- R331, R395 | µs | from the bundle (opaque)
  gain : Nat := 0        -- R331, R395 | mK/W | from the bundle (opaque)
  coup : Nat := 0        -- R331, R395 | mK/K | from the bundle (opaque)
  residual : Nat := 0    -- R331 | 0.01 °C | DC 0
  fitted : Bool := false -- R395 | a fit has been accepted | 0
  age  : Nat := 0        -- R331 | ms | DC 0
deriving DecidableEq, Repr

/-- The temperature sensors of one stud or of one quadrant of the sill (R397, R398). -/
structure Sense where
  temps : List Int := []         -- R397 | last reading of each sensor, 0.01 °C | none read
  valid : List Bool := []        -- R397 | sensor used | none read
  agree : List Nat := []         -- R397 | samples in agreement since exclusion | 0
  tj    : Int := 0               -- R397 | Tj, 0.01 °C | DC 0
  hold  : Bool := false          -- R398 | Tj maximum hold | 0
  none_ : Bool := false          -- R397 | no sensor is valid: held at 800 MHz | 0
deriving DecidableEq, Repr

/-- One stud beside its cores (R353, R373, R374, R387, R397). -/
structure Stud where
  state   : Nat := 3             -- R353 | 0 RUNNING, 1 FAILED, 2 HALTED, 3 IN_RESET | DC 3 while in cold reset; 0 Reset column
  cores   : Nat := 0             -- R353 | 32 bits, working cores | self-test result
  domDeep : Bool := false        -- R382 | stud domain in DEEP | 0
  domSleep : Bool := false       -- R379 | stud domain in SLEEP | 0
  held    : Bool := false        -- R332, R382 | HELD by command | 0 (AUTO)
  testing : Bool := false        -- R411 | a self-test is running | 0
  pllOn   : Bool := false        -- R373 | PLL started | 0
  pllReady : Bool := false       -- R86, R373 | PLL locked | 0
  freq    : Nat := 800           -- R387 | MHz, 800-3,600 | DC 800
  mvolt   : Nat := 550           -- R387 | mV | DC 550
  policy  : Nat := 0             -- R331, R377 | 0-3 | 0 balanced
  fixedMhz : Nat := 0            -- R331 | MHz | 0
  capLimit : Nat := 3600         -- R388, R389 | MHz | DC 3,600
  thermLimit : Nat := 3600       -- R396 | MHz | DC 3,600
  sense   : Sense := {}          -- R397, R398 | its 8 sensors | -
  model   : Model := {}          -- R395 | - | -
  power   : Nat := 0             -- R386 | mW measured | 0
  msgHeld : List Msg := []       -- R209 | up to 16 MSG messages | empty
  msgWait : List Msg := []       -- R209 | MSG receive buffer of the stop | empty
deriving DecidableEq, Repr

/-! ## Homes -/

/-- STATE of a transaction table entry (R167); a free entry is not listed. -/
inductive HSt where
  | waiting | active | dirwait | evicting | granted
deriving DecidableEq, Repr

/-- A home transaction table entry (R167). -/
structure HTx where
  st      : HSt := .waiting      -- R167 | 3 bits | FREE
  op      : MsgOp := .rdS        -- R167 | 6 bits | -
  line    : Nat := 0             -- R167 | 50 bits, PA[55:6] as the home reads it | -
  raw     : Nat := 0             -- R260 | PA[55:6] as in the message | -
  agent   : Nat := 0             -- R167 | requester agent | -
  pkg     : Nat := 0             -- R167 | requester package | -
  tag     : Nat := 0             -- R167 | 12 bits | -
  rcid    : Nat := 0             -- R167 | 6 bits | -
  mcid    : Nat := 0             -- R167 | 8 bits | -
  nonalloc : Bool := false       -- R162 | 1 bit | -
  pend    : Nat := 0             -- R167 | 0-19 | -
  hold    : List Msg := []       -- R167, R168 | 19 bits: snoops built and not yet sent | -
  dirway  : Option Nat := none   -- R167 | 5 bits | 31
  bmr     : Option Nat := none   -- R167 | 10 bits | 1023
  buf     : Line := 0            -- R167 | 512 bits | -
  mask    : BitVec 64 := 0       -- R167 | 64 bits | -
  poison  : Bool := false        -- R82 | mark of the buffer | -
  source  : Nat := 0             -- R88 | SOURCE code of the data in the buffer | -
  have_   : Bool := false        -- R167 | the buffer holds the line | -
  dirty   : Bool := false        -- R172 | a response carried DIRTY | -
  snpData : Nat := 0             -- R172 | SNP_DATA: 0 none, 1 awaited, 2 in the buffer, 3 written to the home's copy | -
  fwd     : Bool := false        -- R170 | data was forwarded to the requester | -
  supply  : Bool := false        -- R170 | the home supplies the data | -
  pulled  : Bool := false        -- R171, R173 | WR_PULL or WB_PULL sent, data awaited | -
  full    : Bool := false        -- R171 | a full-line uncached write | -
  upgrade : Bool := false        -- R170 | a UPG handled as such | -
  wasO    : Bool := false        -- R170 | the directory was O | -
  evictFor : Option Nat := none  -- R179 | entry an eviction makes room for | -
  en      : Bool := true         -- R147 | BAY_CTL.EN when ordered | -
  wt      : Bool := false        -- R147 | BAY_CTL.WT when ordered | -
  waitWr  : Bool := false        -- R72 | its memory is written; it waits until the write has entered the write queue | -
  wrote   : Bool := false        -- R171 | write data merged into the buffer, not yet in the home's copy | -
  old     : Line := 0            -- R171 | the line before an ATOM_NC | -
  acked   : Bool := false        -- R168 | COMP_ACK came before the last snoop response | -
  no      : Nat := 0             -- R137 | its place in the home's order | -
  amo     : AmoOp := .swap       -- R171 | operation of ATOM_NC | -
  size    : Nat := 8             -- R171 | - | -
  off     : Nat := 0             -- R171 | byte offset in the line | -
deriving DecidableEq, Repr

/-- A directory entry (R175); its TAG is held as the line. -/
structure DirEnt where
  line  : Nat := 0          -- R175, R176 | TAG, 21 bits, held as PA[55:6] | -
  st    : Nat := 0          -- R175 | STATE 0 S, 1 U, 2 O | -
  sv    : Nat := 0          -- R175 | 12 bits | -
  pv    : Nat := 0          -- R175 | 7 bits | -
  own   : Nat := 15         -- R175 | OWN_STUD 4 bits | -
  ownPkg : Nat := 0         -- R175 | OWN_PKG 3 bits | -
  bench : Bool := false     -- R175 | BENCH | -
  bad   : Bool := false     -- R334 | planted uncorrectable error | -
deriving DecidableEq, Repr

/-- A bay cache line (R129, R151). -/
structure BayLine where
  line   : Nat := 0         -- R130 | tag, held as PA[55:6] | -
  data   : Line := 0        -- R129 | 512 bits | -
  dirty  : Bool := false    -- R131 | 1 bit | -
  poison : Bool := false    -- R82 | 1 bit | -
  rcid   : Nat := 0         -- R151 | 6 bits | -
  mcid   : Nat := 0         -- R151 | 8 bits | -
  bad    : Nat := 0         -- R334 | planted error: 1 one bit, 2 uncorrectable | -
deriving DecidableEq, Repr

/-- A bay miss register (R135). -/
structure Bmr where
  line  : Nat := 0                -- R135 | PA[55:6] | -
  htx   : Nat := 0                -- R135 | primary request | -
  lock  : Bool := false           -- R138 | a preload | -
  data  : Option (Line × Bool) := none  -- R135 | data from DRAM and its mark | -
  order : Nat := 0                -- R137 | home order of the primary | -
deriving DecidableEq, Repr

/-- A victim buffer entry (R131). -/
structure Victim where
  line : Nat := 0          -- R131 | PA[55:6] | -
  data : Line := 0         -- R131 | 512 bits | -
  poison : Bool := false   -- R131 | 1 bit | -
  rcid : Nat := 0          -- R244 | 6 bits | -
  mcid : Nat := 0          -- R244 | 8 bits | -
deriving DecidableEq, Repr

/-- The work of a command of Plumb on a bay's arrays (R138, R143, R332, R333): a flush, and what follows it. -/
structure BayWork where
  lo    : Nat := 0                -- R333 | first byte flushed, as the home reads it | -
  hi    : Nat := 2 ^ 56           -- R333 | end of the bytes flushed | -
  ways  : Nat := 0xFFFF           -- R138, R143 | 16 bits: ways flushed | -
  all   : Bool := false           -- R138, R143 | clean and locked lines leave too | -
  count : Nat := 0                -- R333 | lines written to DRAM | -
  flushed : Bool := false         -- R138 | the flush is done | -
  lockW : Nat := 0                -- R138 | ways to be locked once the flush is done; 0 none | -
  next  : Nat := 0                -- R138 | next line to preload, as the home reads it | -
  end_  : Nat := 0                -- R138 | end of the lines to preload | -
  wait  : Option Nat := none      -- R138 | preload outstanding | -
  bench : Option Nat := none      -- R143 | bench ways to be set once the flush is done | -
  done  : Bool := false           -- R323 | the command can end | -
deriving DecidableEq, Repr

/-- A CBQRI controller (R150, R244, R359). -/
structure Cbqri where
  monCtl : Word := 0              -- R359 | monitoring control | 0 (PRESUMED)
  monVal : Word := 0              -- R359 | monitoring counter value | 0 (PRESUMED)
  allocCtl : Word := 0            -- R359 | allocation control | 0 (PRESUMED)
  limit  : Word := 0              -- R359 | block mask or bandwidth allocation register | 0 (PRESUMED)
  masks  : Map Nat := []          -- R150 | 64 x 16 bits by RCID | 0xFFFF
  rbwb   : Map Nat := []          -- R244 | reserved blocks by RCID | 0
  weight : Map Nat := []          -- R244 | Mweight by RCID | 255
  weightOn : Map Nat := []        -- R245 | Mweight in force in this window, by RCID | 255
  monEv  : Map Nat := []          -- R150, R244 | configured event by MCID | 0 none
  used   : Map Nat := []          -- R245 | bytes taken in this window by RCID | 0
  share  : Map Nat := []          -- R245 | reserved bytes in this window by RCID | 0
  rd     : Map Nat := []          -- R244 | bytes read by MCID | 0
  wr     : Map Nat := []          -- R244 | bytes written by MCID | 0
deriving DecidableEq, Repr

/-- A bay home with its bay cache, or the home of a CXL host port (R156, R157). -/
structure Home where
  stopped : Bool := true          -- R185, R431 | stopped ordering | stopped in cold reset
  txs     : Map HTx := []         -- R167 | 1,024 (256 at a port) | all FREE
  order   : List Nat := []        -- R165 | entries in the order the home ordered them | empty
  waitReq : List (Msg × Nat) := []  -- R136, R167, R178 | REQs withheld, with their arrival port | empty
  seqNo   : Nat := 0              -- R137 | home order counter | 0
  ptr     : Nat := 0              -- R166 | arrival pointer 0-5 | DC 0
  dir     : Map DirEnt := []      -- R175 | 32,768 x 24 by set x 24 + way (8,192 x 16 at a port) | empty
  dirPtr  : Nat := 0              -- R177 | tie pointer 0-23 | DC 0
  dirQ    : List Nat := []        -- R178 | up to 64 entries | empty
  resv    : List (Nat × Nat) := []  -- R177 | reserved directory ways (set x 24 + way, entry) | none
  cache   : Map BayLine := []     -- R129 | 65,536 x 16 by set x 16 + way | empty
  lfsr    : BitVec 16 := 0        -- R132 | 16 bits | 0x1111 x (bay + 1)
  bmrs    : Map Bmr := []         -- R135 | 512 | free
  victims : List Victim := []     -- R131 | 64 entries, oldest first | empty
  snpCred : Map Nat := []         -- R161 | SNP credits in use by stud | 0
  lockW   : Nat := 0              -- R138, R354 | locked ways 0-4 | 0
  locked  : List (Nat × Nat) := []  -- R138 | locked ranges: base, length | none
  bench   : Nat := 0              -- R141, R354 | bench ways 0, 8, 12 | 0 (R143)
  benchBusy : Bool := false       -- R143 | a reconfiguration is running | 0
  cmdBusy : Bool := false         -- R354 | CMD_BUSY | 0
  work    : Option BayWork := none  -- R138, R143, R333 | a command's work under way | none
  en      : Bool := true          -- R354 | BAY_CTL.EN | 1
  wt      : Bool := false         -- R354 | BAY_CTL.WT | 0
  arrayFail : Bool := false       -- R354 | ARRAY_FAIL | self-test result
  patrol  : Nat := 0              -- R154 | next set of the patrol | DC 0
  cap     : Cbqri := {}           -- R150 | - | -
  /-- CXL homes: the decoder size of each root port in bytes (R298). -/
  decode  : Map Nat := []         -- R298 | by lane pair | 0
  cxlWait : List (Nat × Nat) := []  -- R157 | device reads outstanding: line, entry | none
  linkDown : List Nat := []       -- R299 | root ports whose CXL link is down | none
deriving DecidableEq, Repr

/-! ## Tenon links -/

/-- An agreed change of a group that waits for its switch index (R198, R199, R202). -/
structure Switch where
  group : Nat := 0          -- R198 | 0-63 | -
  wire  : Nat := 0          -- R198 | 0-75 | -
  spare : Nat := 0          -- R198 | 72, 73 | -
  kind  : Nat := 0          -- R198 | 0 steer, 1 retire, 2 rotation start, 3 rotation return | -
  cause : Nat := 0          -- R210 | cause of a retirement | -
  at_   : Nat := 0          -- R198 | switch flit index | -
deriving DecidableEq, Repr

/-- A request of the receiver or of a rotation that has no acknowledgement yet (R198, R199, R202). -/
structure Req where
  kind  : Nat := 0          -- R198 | 0 steer, 1 retire, 2 rotation | -
  group : Nat := 0          -- R198 | 0-63 | -
  wire  : Nat := 0          -- R198 | 0-75 | -
  spare : Nat := 0          -- R198 | 72, 73 | -
  count : Nat := 0          -- R210 | the wire's count when it crossed | -
  cause : Nat := 0          -- R210 | cause of the notice | -
deriving DecidableEq, Repr

/-- A wire that has crossed its threshold and waits for its repair (R196, R209). -/
structure Cross where
  group : Nat := 0          -- R196 | 0-63 | -
  wire  : Nat := 0          -- R196 | 0-75; 74 for a lost clock | -
  count : Nat := 0          -- R210 | its count when it crossed | -
  cause : Nat := 0          -- R210 | 0 threshold, 1 rotation test | -
deriving DecidableEq, Repr

/-- A group's flit (R191, R192): the class it carries and its units in use, with the START mark of each. -/
structure Flit where
  group : Nat := 0                        -- R192 | 0-63 | -
  cls   : Nat := 0                        -- R190 | class code | -
  units : List (BitVec 128 × Bool) := []  -- R191, R192 | up to 4 units | -
deriving DecidableEq, Repr

/-- A sideband frame on its way (R189): its 80 bits. -/
abbrev SbFrame := BitVec 80

/-- One direction of a tenon link (R187). -/
structure TenonDir where
  retired : Nat := 0             -- R204 | 64-bit RETIRED map | 0; loaded from the journal
  spare   : Map Nat := []        -- R204 | 2 x 64 x 7 bits by 2g + s: wire, 0x7F unused, 0x7E bad | 0x7F
  drive   : Map Nat := []        -- R198 | wires the spares carry since their switch index, by 2g + s | 0x7F
  counts  : Map Nat := []        -- R196 | 8 bits per wire by 128 g + wire | 0
  index   : Nat := 0             -- R194 | flit index | 0
  retry   : List (Nat × List Flit) := []  -- R194 | the last 64 flit times sent, idle flits left out | empty
  outU    : Map (List (BitVec 128 × Bool)) := []  -- R192 | units of messages begun and not yet sent, by class | empty
  discard : Option Nat := none   -- R194 | flit from which the receiver discards | none
  nakSeq  : Option Nat := none   -- R194 | NAK sent, replay awaited | none
  failing : List Nat := []       -- R195 | groups whose present send failed, rising | none
  runs    : Map Nat := []        -- R195 | failed sends in a row of one SEQ, by group | 0
  runSeq  : Option Nat := none   -- R195 | that SEQ | none
  partUnits : Map (List (BitVec 128 × Bool)) := []  -- R192 | units of a message not yet whole, by class | empty
  used    : Map Nat := []        -- R193 | receive buffer units in use by class | 0
  freed   : Map Nat := []        -- R193 | cumulative freed units modulo 4,096 by class | 0
  credit  : Map Nat := []        -- R193 | sender's credit by class | buffer size
  seenCr  : Map Nat := []        -- R193 | last cumulative count received by class | 0
  copyBad : List (Fin 2) := []   -- R189 | sideband copies out of use | none
  reqs    : List Req := []       -- R198 | requests unanswered | none
  switches : List Switch := []   -- R198 | changes committed, switch index ahead | none
  past    : List Switch := []    -- R198 | changes in effect whose request is unanswered | none
  testing : Option Nat := none   -- R202 | group under rotation test | none
  back    : Bool := false        -- R202 | the test has ended; the return waits for the repairs it found | 0
  rotNext : Nat := 0             -- R202 | next group of the rotation | 0
  rotDue  : Bool := false        -- R209 | a rotation fell due while PARKED | 0
  cross   : List Cross := []     -- R198 | crossings that wait for the group's request under way | none
  deferred : List Cross := []    -- R209 | crossings deferred while PARKED | none
  cls     : Map Nat := []        -- R190, R199 | class in force by group | table of R190
  leakLen : Nat := 10            -- R196 | length in ms of the leak period under way | LEAK_MS
  /-- Sideband frames sent and not yet received, in the order they leave: NAK, CREDIT, then the others (R189). -/
  frames  : List SbFrame := []   -- R189 | frames on their way | empty
deriving DecidableEq, Repr

/-- One tenon link (R203). -/
structure Tenon where
  st   : Nat := 0                -- R211 | 0 DOWN, 1 TRAINING, 2 UP, 3 PARKED, 4 FAILED | 0
  up   : TenonDir := {}          -- R187 | - | -
  dn   : TenonDir := {}          -- R187 | - | -
  attempts : Nat := 0            -- R206, R211 | 0-3 | 0
  sb   : List (Nat × SbFrame) := []  -- R189, R205 | sideband frames of the last training: 0 UP or 1 DN, and 80 bits | empty
deriving DecidableEq, Repr

/-! ## Memory channels -/

/-- A read queue entry (R222, R226). -/
structure RdEnt where
  src    : Nat := 0              -- R222 | bay 0-11; 12 patrol, 13 range scrub, 14 clearing | -
  line   : Nat := 0              -- R226 | PA[55:6] as the home reads it | -
  issued : Bool := false         -- R226 | column command issued | -
  age    : Nat := 0              -- R223 | arrival order | -
  x      : Nat := 0              -- R221 | local line | -
  rcid   : Nat := 0              -- R244 | 6 bits | -
  mcid   : Nat := 0              -- R244 | 8 bits | -
  wait_  : Bool := false         -- R233, R237, R375 | waits for self-refresh exit, clearing or its domain | -
  at_    : Nat := 0              -- R223 | system ticks since the start of D0 as it was queued | -
deriving DecidableEq, Repr

/-- A write queue entry (R222, R226). -/
structure WrEnt where
  line   : Nat := 0              -- R226 | PA[55:6] | -
  data   : Line := 0             -- R226 | 512 bits | -
  poison : Bool := false         -- R241 | 1 bit | -
  issued : Bool := false         -- R226 | - | -
  age    : Nat := 0              -- R223 | arrival order | -
  x      : Nat := 0              -- R221 | local line | -
  rcid   : Nat := 0              -- R244 | 6 bits | -
  mcid   : Nat := 0              -- R244 | 8 bits | -
  at_    : Nat := 0              -- R223 | system ticks since the start of D0 as it was queued | -
deriving DecidableEq, Repr

/-- One logical rank (R228, R229, R232). -/
structure Rank where
  pd     : Bool := false         -- R232 | precharge power-down | 0
  sr     : Bool := false         -- R232 | self-refresh | 0
  hot    : Bool := false         -- R229 | 1 bit | 0
  coolRd : Nat := 0              -- R229 | MR4 reads in a row at or below 85 °C | 0
  postponed : Nat := 0           -- R228 | 0-4 | 0
  pulled : Nat := 0              -- R228 | refreshes pulled in, 0-4 | 0
  refs   : Nat := 0              -- R228 | refreshes issued | 0
deriving DecidableEq, Repr

/-- One bank (R225, R230, R231). -/
structure Bank where
  row    : Option Nat := none    -- R225 | open row | closed
  sel    : Bool := false         -- R230 | the open row was selected at its ACT | 0
  sample : Option Nat := none    -- R230 | DRFM sample | none
  raa    : Nat := 0              -- R231 | rolling activation count | 0
deriving DecidableEq, Repr

/-- A marked device (R240, R409). -/
structure Mark where
  device : Nat := 0              -- R240 | 0-9 | -
  count  : Nat := 0              -- R409 | count at marking | -
  serial : Nat := 0              -- R409 | module serial | -
  stamp  : Word := 0             -- R409 | Scribe timestamp | -
deriving DecidableEq, Repr

/-- A saved training record (R235, R434). -/
structure Saved where
  serial : List Nat := []        -- R235 | manufacturer and serial number of the module of each slot | -
  rate   : Nat := 0              -- R235 | MT/s | -
  ver    : Nat := 0              -- R235 | Leraro training version | -
deriving DecidableEq, Repr

/-- One memory channel (R215, R246). -/
structure Chan where
  st     : Nat := 0              -- R246 | 0 ABSENT to 4 FAILED | 0
  saved  : Bool := false         -- R246 | SAVED | 0
  clearDone : Bool := false      -- R246 | CLEAR_DONE | 0
  res    : TrainRes := {}        -- R216, R246 | what training found: DPC, TYPE, DENSITY, ranks, CAP_GIB | 0
  rate   : Nat := 0              -- R246 | RATE in MT/s | 0
  sched  : Word := 0x40200C08    -- R246 | MCH_SCHED | WR_HI 64, WR_LO 32, PAGE_IDLE 12, AGE_CAP 8
  refresh : Word := 0x40         -- R246 | MCH_REFRESH writable part | POSTPONE 4, MODE 0
  rh     : Word := 0x20B         -- R246 | MCH_RH | BRC 2, K 11
  pwr    : Word := 0x10A         -- R246 | MCH_PWR writable part | SR_IDLE 4, PD_IDLE 10
  ecc    : Word := 0x208000000000  -- R246 | MCH_ECC writable part | MARK_THRESH 32, MARK_EN 1
  patrolCtl : Word := 0x118      -- R246 | MCH_PATROL writable part | EN 1, PERIOD_H 24
  passes : Nat := 0              -- R246 | PASSES | 0
  patrol : Nat := 0              -- R242 | next local line of the pass | 0
  patrolDue : List Nat := []     -- R242 | lines of the pass left for the end of their rank's self-refresh, in order | none
  rq     : List RdEnt := []      -- R222 | 96 entries, oldest first | empty
  wq     : List WrEnt := []      -- R222 | 96 entries, oldest first | empty
  ageNo  : Nat := 0              -- R223 | arrival counter | 0
  drain  : Bool := false         -- R224 | write drain | 0
  slotNo : Nat := 0              -- R223 | command slots passed | 0
  cleared : List Nat := []       -- R237 | clear map: 2 MiB regions clear, in order | none
  gen    : Word := 1             -- R230 | 64-bit generator | seeded at training (Config.entropy); before it DC 1
  ranks  : Map Rank := []        -- R228 | by logical rank | -
  banks  : Map Bank := []        -- R230 | by rank x 64 + subchannel x 32 + bank group x 4 + bank | -
  devCnt : Map Nat := []         -- R240 | device counts by (2ρ + s) x 10 + d | 0
  marks  : Map Mark := []        -- R240 | by 2ρ + s | none
  modTemps : Map (List Int) := []  -- R229 | module sensors by DIMM, 0.01 °C | none read
  drfm   : Option (Nat × Nat × Nat) := none  -- R230 | last DRFMsb issued: bank, row, blast radius | none
  limited : Bool := false        -- R229 | half of the command slots | 0
  quarter : Bool := false        -- R367 | one command slot in four | 0
  drift  : Nat := 0              -- R234 | drift updates made | DC 0
  skips  : Nat := 0              -- R242 | patrol lines skipped in self-refresh or for a queued write | DC 0
deriving DecidableEq, Repr

/-! ## Ports -/

/-- A request of the package on a link that awaits its answer (R276, R292). -/
structure OutReq where
  core  : Nat := 0               -- R292 | requesting core; 384 for a ring or Plumb | -
  slot  : Nat := 0               -- R56 | its slot | -
  op    : Nat := 0               -- R270 | OP code; for PCIe 1 memory read, 2 configuration read, 3 configuration write, 4 AtomicOp | -
  node  : Nat := 0               -- R268 | destination node, or root port | -
  addr  : Nat := 0               -- R268 | ADDR or PA | -
  len   : Nat := 0               -- R270 | bytes | -
  data  : List Byte := []        -- R275 | bytes written or operand | -
  line  : Nat := 0               -- R275 | PA[55:6] | -
  cmp   : Nat := 0               -- R289 | compare value of a forwarded CAS | -
  amo   : Option AmoOp := none   -- R289 | the AtomicOp forwarded to a peer | -
  /-- A configuration request of Type 1, for a bus behind the secondary one. -/
  type1 : Bool := false          -- R292 | 1 bit | -
  got   : List Byte := []        -- R294 | bytes that its completions have brought so far | -
  ep    : Bool := false          -- R293 | a completion had EP = 1 | -
deriving DecidableEq, Repr

/-- A purlin link (R248, R278). -/
structure Purlin where
  st      : Nat := 0             -- R278 | 0 DOWN, 1 TRAINING, 2 IDENT, 3 UP, 4 HELD, 5 LOST | 0
  refuse  : Nat := 0             -- R278 | REFUSE 0-8 | 0
  role    : Nat := 0             -- R278 | ROLE 0-6 | 0
  far     : IdUnit := {}         -- R256, R278 | FAR_PKG, FAR_FRAME, FAR_PORT | 0
  ident   : Bool := false        -- R256 | identity unit received | 0
  digest  : Option (BitVec 32) := none  -- R501 | digest received from the far package | none
  delay   : Nat := 0             -- R262 | link delay in ticks, half the measured round trip | DC 0
  width   : Nat := 0             -- R278 | 0, 8, 16 | 0
  retrains : Nat := 0            -- R278 | 8 bits, saturating | 0
  rxSeq   : Nat := 0             -- R250 | next SEQ expected, 10 bits | 0
  txSeq   : Nat := 0             -- R250 | next SEQ to send, 10 bits | 0
  ackIn   : Nat := 1023          -- R250 | last ACK received | DC 1,023
  nakOut  : Bool := false        -- R252 | the next header asks for a replay | 0
  nakWait : Bool := false        -- R252 | flits are discarded until the replay arrives | 0
  nakRun  : Nat := 0             -- R252 | NAKs in a row for one SEQ | 0
  nakSeq  : Nat := 0             -- R252 | that SEQ | 0
  retraining : Bool := false     -- R252 | 1 bit | 0
  retry   : List (Nat × Nat × List (BitVec 128)) := []  -- R252 | the last 512 flits sent: SEQ, KIND, units | empty
  replayAt : Option Nat := none  -- R252 | SEQ of the next flit to be sent again | none
  nakInSeq : Nat := 0            -- R252 | ACK of the last NAK received | DC 0
  nakInRun : Nat := 0            -- R252 | NAKs received in a row that name it | 0
  crNext  : Nat := 0             -- R250 | class whose credit the next flit returns | DC 0
  wire    : List Byte := []      -- R249 | the last flit sent, 272 bytes | none sent
  partUnits : List (BitVec 128) := []  -- R251 | units of a message not yet whole | empty
  outQ    : List Msg := []       -- R251 | messages to send | empty
  freed   : Map Nat := []        -- R250 | cumulative freed units by class | 0
  farFreed : Map Nat := []       -- R250 | last CR_COUNT received by class | 0
  sentU   : Map Nat := []        -- R251 | cumulative units sent by class, modulo 4,096 | 0
  outUnits : List (BitVec 128) := []  -- R251 | units of messages begun that no flit has carried yet | empty
  outPart : Nat := 0             -- R251 | how many of them end a message that earlier flits have carried in part | 0
  /-- The link is held in reset once its DOMAIN_DOWN has left, with this REFUSE and ROLE (R185). -/
  after   : Option (Nat × Nat) := none  -- R185 | - | none
deriving DecidableEq, Repr

/-- A ridge port (R263, R278). -/
structure Ridge where
  st      : Nat := 0             -- R278 | 0 DOWN, 1 TRAINING, 2 UP, 3 HELD, 4 FAILED | 0
  width   : Nat := 0             -- R278 | 0, 4, 8, 16 | 0
  at64    : Bool := false        -- R278 | AT64 | 0
  mismatch : Bool := false       -- R278 | ID_MISMATCH | 0
  ctl     : Word := 50           -- R278 | PORT_RIDGE_CTL | TIMEOUT 50
  farReq  : Nat := 0             -- R264 | partner's REQ slots | 0
  farPst  : Nat := 0             -- R264 | partner's PST slots | 0
  farRsp  : Nat := 0             -- R264 | partner's RSP slots | 0
  freed   : Nat × Nat × Nat := (0, 0, 0)  -- R264 | cumulative freed slots, 16 bits each | 0
  sentSl  : Nat × Nat × Nat := (0, 0, 0)  -- R265 | cumulative slots sent, REQ, PST and RSP, 16 bits each | 0
  rspQ    : List RPkt := []      -- R265 | RESPs that wait for the partner's credit | empty
  rxSeq   : Nat := 1023          -- R265 | SEQ of the last good codeword | DC 1,023
  sinceAck : Nat := 0            -- R265 | codewords sent since the last LINK_ACK | 0
  sinceAlign : Nat := 0          -- R263 | codewords sent since the last alignment codeword | 0
  upNo    : Nat := 0             -- R267 | place in the order in which the frame's ports came up | 0
  assign  : Option Nat := none   -- R267 | node ID of a NODE_ASSIGN still to be answered | none
  farFreed : Nat × Nat × Nat := (0, 0, 0)  -- R264 | partner's cumulative freed slots, 16 bits each | 0
  ackSeq  : Nat := 1023          -- R265 | last ACK_SEQ received | DC 1,023
  nakRun  : Nat := 0             -- R265 | NAKs in a row | 0
  discard : Bool := false        -- R265 | discarding until replay | 0
  replay  : Bool := false        -- R265 | replay asked of the sender | 0
  out     : Map OutReq := []     -- R276 | outstanding by TAG | empty
  quar    : List Nat := []       -- R276 | quarantined tags | empty
  answers : List RPkt := []      -- R270 | RESPs sent, newest last | empty
  linkOut : List (List Nat) := []  -- R264 | link control slots sent, newest last: OP and fields | empty
  txSeq   : Nat := 0             -- R263 | SEQ of the next codeword, 10 bits | DC 0
  sent    : List (Nat × List (List Byte)) := []  -- R263, R265 | the last 256 codewords sent: header, 20 slots | empty
  again   : List Nat := []       -- R265 | SEQs sent again for the last replay | none
  nakSeq  : Nat := 0             -- R265 | SEQ of the NAKs counted | DC 0
  loop    : List RPkt := []      -- R268 | packets of the node to itself, on their way | empty
deriving DecidableEq, Repr

/-- A root port of a PCIe root or CXL host port (R281, R287). -/
structure Root where
  up      : Bool := false        -- R291 | link up | 0
  width   : Nat := 0             -- R280 | trained width | 0
  rate    : Nat := 0             -- R355 | rate code 0-7 | 0
  power   : LinkPower := .l0     -- R310 | link power state | L0
  dpc     : Bool := false        -- R293 | contained | 0
  flit    : Bool := false        -- R287 | in flit mode | 0
  tags14  : Bool := false        -- R287 | 14-bit tags as requester | 0
  cxl     : Nat := 0             -- R297 | CXL.mem flits: 0 none, 1 68-byte, 2 256-byte standard, 3 256-byte latency-optimised | 0
  ltr     : Option Nat := none   -- R310 | latency tolerance last reported, ns | none
  out     : Map OutReq := []     -- R287 | up to 256 outstanding by tag | empty
  quar    : Map Nat := []        -- R294 | quarantined tags, with the bytes still owed | empty
  /-- Memory writes the port has sent on the link with their EP bit, newest last. -/
  sent    : List (Nat × List Byte × Bool) := []  -- R292, R295 | posted writes sent | empty
  aer     : Nat := 0             -- R287 | AER uncorrectable status, 32 bits | 0 (PRESUMED)
  aerCor  : Nat := 0             -- R287 | AER correctable status, 32 bits | 0 (PRESUMED)
  rootErr : Nat := 0             -- R287 | AER root error status, 32 bits | 0 (PRESUMED)
  dpcWhy  : Nat := 0             -- R287 | DPC trigger reason and extension, bits [2:1] and [6:5] of DPC Status | 0 (PRESUMED)
  rpPio   : Nat := 0             -- R287 | RP PIO status, 32 bits | 0 (PRESUMED)
  pme     : Bool := false        -- R291 | PME Status of Root Status | 0 (PRESUMED)
  slotEv  : Nat := 0             -- R287 | Slot Status: presence change 3, link state change 8 | 0 (PRESUMED)
  doeIn   : List Nat := []       -- R287 | words written to the DOE mailbox | empty
  doeOut  : List Nat := []       -- R287 | words of the DOE answer still to be read | empty
  intx    : Nat := 0             -- R291 | asserted pins, 4 bits | 0
  cfg     : Map Word := []       -- R281 | configuration space words written | PRESUMED 0
  retrain : Bool := false        -- R336 | Retrain Link | 0
deriving DecidableEq, Repr

/-- A recovery window entry (R304). -/
structure DtWin where
  map : Word := 0                -- R304 | DT_WINw_MAP | 0
  tgt : Word := 0                -- R304 | DT_WINw_TGT | 0
deriving DecidableEq, Repr

/-- A read that stalls in an empty notice queue (R415): its access port, none for a dovetail host; the hart and destination of a hart's
load. -/
structure NqReader where
  ap   : Option AccessPort := none      -- R344 | - | -
  hart : Option (Nat × Dest) := none    -- R415 | - | -
deriving DecidableEq, Repr

/-- An access of the NQ window that waits behind a stalled read of its port (R344, R415). -/
structure NqAcc where
  ap   : AccessPort := .plumb    -- R342 | - | -
  off  : Nat := 0                -- R345 | window offset | -
  part : Part := .full           -- R343 | - | -
  wr   : Bool := false           -- R344 | a write | -
  val  : Word := 0               -- R344 | value written | -
deriving DecidableEq, Repr

/-- A notice queue (R412 to R415). -/
structure NQueue where
  held    : List (Nat × Word) := []  -- R413 | up to 252 notices with their arrival order | empty
  markers : Map (Nat × Nat) := []    -- R414 | by priority: arrival order and count | none
  no      : Nat := 0                 -- R413 | arrival counter | 0
  /-- Stalled reads, oldest first. -/
  stalled : List NqReader := []  -- R415 | reads stalled | none
  /-- Values returned to NQ_POP reads, newest last. -/
  popped  : List Word := []          -- R415 | data of completed pops | empty
deriving DecidableEq, Repr

/-- The dovetail function (R300 to R309). -/
structure Dovetail where
  ringErr : Bool := false        -- R302 | RING_ERR | 0
  frameReset : Bool := false     -- R302 | FRAME_RESET | 0
  drop    : Bool := false        -- R302 | DROP | 0
  unexp   : Bool := false        -- R302 | UNEXP | 0
  rec_    : Bool := false        -- R302 | REC in force | 0
  ready   : Bool := false        -- R302 | READY | 0
  cmdBase : Word := 0            -- R301 | DT_CMD_BASE | 0
  cmdTail : Nat := 0             -- R301 | 8 bits | 0
  cmdHead : Nat := 0             -- R301 | 8 bits | 0
  rplBase : Word := 0            -- R301 | DT_RPL_BASE | 0
  rplHead : Nat := 0             -- R301 | 8 bits | 0
  rplTail : Nat := 0             -- R301 | 8 bits | 0
  cfg     : Word := 0x4400       -- R302 | DT_RING_CFG | RPL_LOG 4, CMD_LOG 4
  cmdInF  : Word := 0            -- R302 | command BASE in force | 0
  rplInF  : Word := 0            -- R302 | reply BASE in force | 0
  logInF  : Nat × Nat := (4, 4)  -- R302 | LOGs in force, command and reply | 4, 4
  nq      : NQueue := {}         -- R302, R412 | its own notice queue | empty
  nqLevel : Nat := 1             -- R301 | 8 bits | 1
  nqTimeout : Nat := 10          -- R301 | 7 bits | 10
  outBase : Word := 0            -- R301 | DT_OUT_BASE | 0
  winStat : Nat := 0             -- R305 | STATUS of the last commit | 0
  shadow  : Map DtWin := []      -- R304 | 16 entries | 0
  active  : Map DtWin := []      -- R304 | 16 entries | 0
  msix    : Map Word := []       -- R301 | MSI-X table, 8 words | PCIe (PRESUMED 0)
  pba     : Nat := 0             -- R301 | MSI-X pending, 4 bits | 0
  bme     : Bool := false        -- R311 | Bus Master Enable | 0
  mse     : Bool := false        -- R311 | Memory Space Enable | 0
  barGib  : Nat := 0             -- R303 | log2 of the BAR 18h size in GiB | 0 (1 GiB)
  bar10   : Word := 0            -- R300 | BAR at 10h | 0 (PRESUMED)
  bar18   : Word := 0            -- R300 | BAR at 18h | 0 (PRESUMED)
  devCtl2 : Nat := 0             -- R308 | Device Control 2 timeout value | 0
  cfg_    : Map Word := []       -- R300 | other configuration words written | PRESUMED 0
  link    : Nat := 0             -- R311 | LINK 0-6 | 0
  linkWas : Bool := false        -- R311 | REC of the last link-up | 0
  width   : Nat := 0             -- R280 | trained width | 0
  rate    : Nat := 0             -- R355 | RATE of the trained link | 0
  flit    : Bool := false        -- R300 | in flit mode | 0
  quarter : Bool := false        -- R367 | limited to a quarter of its rate | 0
  tags14  : Bool := false        -- R300 | 14-bit tags as requester | 0
  aer     : Nat := 0             -- R294 | AER uncorrectable status, 32 bits | 0 (PRESUMED)
  ltr     : Option Nat := none   -- R310 | latency tolerance last reported, ns | none
  out     : Map OutReq := []     -- R308 | outstanding by tag | empty
  quar    : Map Nat := []        -- R294 | quarantined tags, with the bytes still owed | empty
  /-- Inbound requests to the host's memory and messages it saw, newest last: MSI-X vectors and ring writes. -/
  sent    : List (Nat × List Byte) := []  -- R302, R308 | writes to host memory, newest last | empty
  replies : List (List Byte) := []  -- R302 | replies that wait for ring space | empty
deriving DecidableEq, Repr

/-- What a port answered to an inbound request (R289). -/
inductive PAnswer where
  | data (root tag : Nat) (bytes : List Byte) (ep : Bool)
  | ur (root tag : Nat)
  | ca (root tag : Nat)
  | forwarded (root : Nat) (addr : Nat)
deriving DecidableEq, Repr

/-- What an inbound request does once its turn has come (R271, R289). -/
inductive InbKind where
  | read | write | atomic
  /-- A FENCE of ridge (R271). -/
  | fence
  /-- A write to an interrupt file (R289). -/
  | msi
  /-- A read or write of a device that goes out to ridge space (R275). -/
  | toRidge
  /-- A read or write forwarded to another root port (R289). -/
  | toPeer
  /-- A write of a register at BAR 10h (R307). -/
  | reg
  /-- A read of DT_NQ_POP (R307). -/
  | pop
deriving DecidableEq, Repr

/-- An inbound request under way at its home, or waiting for its turn (R289, R274). -/
structure Inb where
  kind  : InbKind := .read       -- R289 | - | -
  /-- It writes: a posted request that later ones may not pass, unless it is a non-posted WRITE of ridge. -/
  wr    : Bool := false          -- R289 | 1 bit | -
  root  : Nat := 0               -- R290 | root port; 8 for a ridge request, 9 for BAR 18h | -
  tag   : Nat := 0               -- R287 | - | -
  addr  : Nat := 0               -- R289 | PA of its first byte | -
  len   : Nat := 0               -- R270 | bytes | -
  left  : List Nat := []         -- R274 | lines still to be performed | -
  data  : List Byte := []        -- R274 | bytes read or to write | -
  amo   : AmoOp := .swap         -- R274 | - | -
  cmp   : Nat := 0               -- R269, R287 | up to 64 bits | -
  poison : Bool := false         -- R295 | - | -
  ro    : Bool := false          -- R290 | Relaxed Ordering: may pass earlier posted writes | -
  ido   : Bool := false          -- R290 | ID-Based Ordering | -
  rid   : Nat := 0               -- R290 | Requester ID | -
  err   : Bool := false          -- R289 | an ERR was received | -
  ur    : Bool := false          -- R289 | the peer answered Unsupported Request | -
  no    : Nat := 0               -- R271 | place in the order of arrival at the node or port | -
  posted : Bool := false         -- R271 | no answer | -
  src   : Nat := 0               -- R269 | ridge SRC | -
  rport : Nat := 0               -- R269 | ridge RPORT | -
deriving DecidableEq, Repr

/-- An entry of a port's IOTLB (R288). -/
structure IoTlb where
  gs   : Option Nat := none      -- R288 | GSCID of a second-stage context | -
  ps   : Option Nat := none      -- R288 | PSCID of a first-stage context | -
  vpn  : Nat := 0                -- R288 | page of the address | -
  span : Nat := 0                -- R288 | log2 of the pages it maps | -
  vspan : Nat := 0               -- R288 | log2 of the pages its first-stage leaf maps | -
  ppn  : Nat := 0                -- R288 | first page of the memory it maps | -
  perm : Nat := 0                -- R288 | R 1, W 2, X 4 | -
  user : Bool := false           -- R288 | U of the first-stage leaf | -
  g    : Bool := false           -- R288 | G of the first-stage leaf | -
  pbmt : Nat := 0                -- R288 | Svpbmt memory type, 2 bits | -
deriving DecidableEq, Repr

/-- A fault record of an IOMMU: its 32 bytes. -/
abbrev IoRecord := List Byte

/-- A SerDes port (R279, R311). -/
structure Port where
  pers    : Nat := 0             -- R279, R311 | active personality 0-5 | Active (0 while in cold reset)
  lanes   : Nat := 0             -- R311 | active LANES | Active
  rec_    : Bool := false        -- R282 | RECOVERY taken for the next link-up | Stored
  inReset : Bool := true         -- R35, R43, R185 | held in reset | 1 in cold reset
  failQ   : Bool := false        -- R411 | protocol engine queues failed self-test | self-test result
  devCtl  : Word := 0            -- R311 | PORT_DEV_CTL | 0
  unexpCpl : Nat := 0            -- R311 | 16 bits, saturating | 0
  dropped : Nat := 0             -- R311 | 16 bits, saturating | 0
  roots   : Map Root := []       -- R281 | by lane pair 0-7 | -
  purlin  : Purlin := {}         -- R248 | - | -
  ridge   : Ridge := {}          -- R263 | - | -
  dt      : Dovetail := {}       -- R300 | - | -
  iommu   : Map Word := []       -- R288 | 4 KiB register block by offset | mode Off, 0
  iotlb   : List IoTlb := []     -- R288 | up to 2,048 entries, oldest first | empty
  ddtc    : Map (List Nat) := [] -- R288 | up to 256 device contexts by device ID | empty
  /-- Requests that wait for their translation, oldest first: a TLP, or none for the debug interface. -/
  ioQ     : List (Option Tlp) := []  -- R288 | - | empty
  ioRecs  : List IoRecord := []  -- R288 | fault records to be written, oldest first | empty
  inb     : Map Inb := []        -- R289 | 1,024 inbound requests under way by tag | empty
  inbQ    : List Inb := []          -- R290, R307 | inbound requests held behind posted writes | empty
  answers : List PAnswer := []   -- R289 | completions sent, newest last | empty
  laneErr : Map Nat := []        -- R355 | ERR by lane | 0
  quarter : Bool := false        -- R367 | limited to a quarter of its rate | 0
  corrupt : Nat := 0             -- R334 | flits, codewords or TLPs planted for corruption | 0
  badSent : Nat := 0             -- R334 | flits, codewords or TLPs sent corrupted, which the partner asks for again | 0
deriving DecidableEq, Repr

/-! ## Frames -/

/-- A command ring of the CMDQ window (R315, R358). -/
structure Ring where
  cmdBase : Word := 0            -- R358 | PA[55:13] | 0
  cmdTail : Nat := 0             -- R358 | 8 bits | 0
  cmdHead : Nat := 0             -- R358 | 8 bits | 0
  rplBase : Word := 0            -- R358 | PA[55:13] | 0
  rplHead : Nat := 0             -- R358 | 8 bits | 0
  rplTail : Nat := 0             -- R358 | 8 bits | 0
  cfg     : Word := 0x4400       -- R358 | CMDQ_CFG | as DT_RING_CFG
  cmdInF  : Word := 0            -- R302 | command BASE in force | 0
  rplInF  : Word := 0            -- R302 | reply BASE in force | 0
  logInF  : Nat × Nat := (4, 4)  -- R302 | LOGs in force | 4, 4
  ringErr : Bool := false        -- R358 | RING_ERR | 0
  ready   : Bool := false        -- R358 | READY | 0
  replies : List (List Byte) := []  -- R302 | replies that wait for ring space | empty
  wr      : Bool := false        -- R315 | the first of them is being written | 0
deriving DecidableEq, Repr

/-- An APLIC instance as its frame uses it (R77, R78). -/
structure Aplic where
  ie      : Bool := false        -- R77 | domaincfg.IE of the root domain | 0 (PRESUMED)
  ieS     : Bool := false        -- R77 | domaincfg.IE of the child domain | 0 (PRESUMED)
  sourcecfg : Map Word := []     -- R78 | by source; bit 32 for the S-level domain kept in its own key range | 0
  target  : Map Word := []       -- R77 | by source | 0
  pending : List Nat := []       -- R78 | pending sources | empty
  enabled : List Nat := []       -- R78 | enabled sources | empty
  /-- Plumb programs and locks the MSI address configuration (R77). -/
  locked  : Bool := false        -- R77 | 1 bit | 0; 1 after boot
deriving DecidableEq, Repr

/-- A frame (R27, R357). -/
structure Frame where
  inbNo   : Nat := 0             -- R271, R290 | model's own: arrivals at the frame's ports so far | 0
  booted  : Bool := false        -- R45, R46 | booted | 0
  halted  : Bool := false        -- R406 | halted by a fatal error | 0
  joinSt  : Nat := 0             -- R357 | 0 JOINING, 1 SOLO, 2 JOINED | 0
  degraded : Bool := false       -- R357 | 1 bit | 0
  bootStud : Nat := 0            -- R47 | stud of the boot hart | DC 0
  bootCore : Nat := 0            -- R47 | core of the boot hart | DC 0
  bootBay : Nat := 0             -- R47 | boot bay | DC 0
  cause   : Nat := 0             -- R440 | reset cause of the frame | 0
  trained : Bool := false        -- R236, R357 | channel training has completed | 0
  sGib    : Nat := 0             -- R357 | S_GIB | 0
  topGib  : Nat := 0             -- R357 | TOP_GIB | 0
  nCh     : Nat := 0             -- R219 | n, active channels per quadrant | 0
  perCh   : Nat := 0             -- R219 | L, lines per active channel | 0
  rate    : Nat := 0             -- R218 | MT/s | 0
  mtimeOff : Word := 0           -- R79 | 64 bits | 0
  csErr   : Word := 0            -- R357 | FRAME_CSERR | 0
  nq      : NQueue := {}         -- R412 | - | -
  nqLevel : Nat := 1             -- R358 | 8 bits | 1
  nqTimeout : Nat := 10          -- R358 | 7 bits | 10
  ring    : Ring := {}           -- R315 | - | -
  aplic   : Aplic := {}          -- R77 | - | -
  nodeId  : Nat := 0             -- R267 | 16 bits | 0
  node    : Bool := false        -- R267 | NODE_VALID | 0
  exports : Map Word := []       -- R272 | 4,096 x 64 bits | 0
  cap     : Nat := 0             -- R331 | frame cap in W | 0 (none)
  members : List Nat := []       -- R257 | package IDs of the joined domain, rising | none
  links   : List (Nat × Nat × Nat × Nat) := []  -- R501 | working links of the domain | none
  fatal   : Option Word := none  -- R407 | FATAL notice retained | none
  binding : Bool := false        -- R400 | its cap is binding | 0
  resetting : Bool := false      -- R444 | a frame reset is running | 0
  coreResets : List Nat := []    -- R452 | core resets that wait for a frame reset | none
  capF    : Nat := 3600          -- R389 | F of its grant, MHz | DC 3,600
  unreach : Bool := false        -- R390 | its cap is unreachable | 0
  grant   : Nat := 0             -- R389 | mW granted | 0
  demand  : Nat := 0             -- R389 | mW | 0
  refused : Bool := false        -- R34 | its join was refused: it runs Solo until the next package warm reset | 0
  joinDead : Bool := false       -- R34 | the 150 ms deadline has passed | 0
  joinStep : Nat := 0            -- R257 | 0 steps 1 to 3, 1 digests sent, 2 times sent | 0
  heard   : Map (List (Nat × Nat × Nat)) := []  -- R257 | packages heard in the flood, with their links | none
  heardTime : Map Int := []      -- R262 | how far each package's time lies ahead, in ticks | none
  slew    : Int := 0             -- R262 | ticks still to be added or suppressed | 0
  meas    : List Nat := []       -- R450 | FRAME_INFO, FRAME_DRAM and the PORT_CFGs of the last boot | none
deriving DecidableEq, Repr

/-! ## Plumb -/

/-- A Leraro bundle as verification reads it (R435); its signed parts by component. -/
structure Bundle where
  svn     : Nat := 0             -- R435 | 0-63 | DC 0
  dbg     : Bool := false        -- R435 | DBG | DC 0
  major   : Nat := 1             -- R435 | 8 bits | DC 1
  minor   : Nat := 0             -- R435 | 8 bits | DC 0
  build   : Nat := 0             -- R435 | 16 bits | DC 0
  /-- Default mode and ALLOWED mask of a mode configuration, if it carries one (R37). -/
  mode    : Option (Nat × Nat) := none  -- R37 | 4 + 12 bits | DC none
  comps   : List (Nat × List Byte) := [(1, []), (2, []), (3, []), (4, [])]  -- R435 | type and bytes | DC empty components
  keySlot : Nat := 0             -- R436 | key hash used | DC 0
  /-- Its signature, key and digests verify (R436, checks 1 to 3). -/
  good    : Bool := true         -- R436 | 1 bit | DC 1
deriving DecidableEq, Repr

/-- A port personality record (R282). -/
structure Pers where
  pers : Nat := 1                -- R282 | 0-5 | P0 3, P1-P7 1
  lanes : Nat := 1               -- R282 | 8 bits | P0 16, P1-P7 0x01
  rec_ : Bool := false           -- R282 | RECOVERY | P0 1, P1-P7 0
deriving DecidableEq, Repr

/-- A copy of the mode record (R39). -/
structure ModeCopy where
  seq  : Nat := 0                -- R39 | sequence number | -
  mode : Nat := 0                -- R39 | 4 bits | -
  bad  : Bool := false           -- R40 | its CRC is not valid | -
deriving DecidableEq, Repr

/-- The boot flash (R434). -/
structure Flash where
  slots   : Map Bundle := [(0, {})]  -- R434 | 2 bundle slots; none when erased or not a bundle | DC a verifying bundle in slot 0
  booted  : Nat := 0             -- R434 | BOOTED | DC 0
  try_    : Option Nat := none   -- R434 | TRY | none
  fallback : Bool := false       -- R434 | FALLBACK | 0
  /-- Mode record: the newest copy with a valid CRC (R39, R40). -/
  modes   : Map ModeCopy := []   -- R39 | 2 copies of the mode record | none (R25)
  pers    : Map Pers := []       -- R282, R434 | 8 records | none stored (R282)
  train   : Map Saved := []      -- R434 | 16 training records | DC none
deriving DecidableEq, Repr

/-- An image of Scribe's records in the journal device (R427) with line log and marks. -/
structure JImage where
  seq    : Nat := 0              -- R427 | 64 bits | -
  cause  : Nat := 0              -- R427 | flush cause | -
  boot   : Nat := 0              -- R427 | 16 bits | -
  bins   : Map (Map Int) := []   -- R426 | records | -
  heads  : Map (Nat × Nat × Word × Word × Nat) := []  -- R421 | SAMPLES, MISSED_FROZEN, timestamps, FLAGS | -
  log0   : Map (List Nat) := []  -- R409 | counts | -
deriving DecidableEq, Repr

/-- A Plumb command that is outstanding (R314, R323, R325). -/
structure Job where
  t       : TInst := {}          -- R313 | transport instance | -
  opcode  : Nat := 0             -- R318 | 8 bits | -
  pkt     : CmdPkt := {}         -- R318 | - | -
  /-- The resources it holds or waits for, as `State.resources` numbers them (R325). -/
  res     : List Nat := []       -- R325 | - | -
  running : Bool := false        -- R329 | 0 waiting, 1 running | -
  /-- Its transport instance was lost: reply discarded, tag free (R326). -/
  lost    : Bool := false        -- R326 | 1 bit | -
  taken   : Nat := 0             -- R329 | system time when taken | -
  /-- Its boot-flash write was in progress when PWRFAIL_N was asserted (R367). -/
  early   : Bool := false        -- R367 | 1 bit | -
  /-- It has been answered ACCEPTED (R323). -/
  acc     : Bool := false        -- R323 | 1 bit | -
  /-- Its place among the commands taken: rising in the order taken (R325). -/
  no      : Nat := 0             -- R325 | - | -
deriving DecidableEq, Repr

/-- A tag whose final reply is decided and waits in a full ring (R314). -/
structure Dead where
  t       : TInst := {}          -- R313 | transport instance | -
  tag     : Nat := 0             -- R314 | 8 bits | -
  opcode  : Nat := 0             -- R329 | 8 bits | -
  taken   : Nat := 0             -- R329 | system time when taken | -
  reply   : List Byte := []      -- R314 | the reply that frees it as it is delivered | -
deriving DecidableEq, Repr

/-- State of one SPDM responder (R449). -/
structure Spdm where
  version : Bool := false        -- R449 | GET_VERSION seen | 0
  caps    : Bool := false        -- R449 | GET_CAPABILITIES seen | 0
  algs    : Bool := false        -- R449 | NEGOTIATE_ALGORITHMS seen | 0
  ver     : Nat := 0             -- R449 | version in use, 0x11 or 0x12 | 0
  /-- Responses sent, newest last: code, then octets. -/
  out     : List (List Byte) := []  -- R449 | responses sent | empty
deriving DecidableEq, Repr

/-- One stud's record of the repair map (R204). -/
structure JMap where
  up   : Nat := 0                -- R204 | RETIRED, UP half, 64 bits | 0
  dn   : Nat := 0                -- R204 | RETIRED, DN half, 64 bits | 0
  upSp : Map Nat := []           -- R204 | wires held by the spares, UP half | 0x7F
  dnSp : Map Nat := []           -- R204 | wires held by the spares, DN half | 0x7F
deriving DecidableEq, Repr

/-- Plumb (R313 to R339). -/
structure Plumb where
  on      : Bool := false        -- R431 | D0 runs | 0 in cold reset
  recovery : Bool := false       -- R437 | no slot passed | 0
  waitRstN : Bool := false       -- R492 | boot waits for RESET_N | 0
  hot     : List Nat := []       -- R399 | dies that read above 90 °C and hold the package after a cold reset | none
  heldEnv : BootEnv := {}        -- R399, R437, R492 | what a boot held at step 2 goes on with | -
  offExit : Bool := false        -- R437, R492 | the boot under way is an exit from OFF | 0
  flash   : Flash := {}          -- R434 | - | -
  minSvn  : Nat := 0             -- R436 | fused minimum SVN | DC 0
  journalMap : Map JMap := []    -- R204 | repair map in the journal by stud | empty
  mapSeq  : Nat := 0             -- R204 | sequence number | 0
  mapDirty : Bool := false       -- R204 | changed since its journal write | 0
  active  : Nat := 0             -- R352 | active mode 0-11 | 0 (R25)
  pendMode : Nat := 0            -- R38, R352 | pending mode | 0 (active mode)
  modeSrc : Nat := 2             -- R329 | source of the mode | DC 2
  pkgId   : Nat := 0             -- R255 | 3 bits | DC 0
  running : Bundle := {}         -- R436 | the verified bundle | DC the factory bundle
  dbgOpen : Bool := false        -- R352 | GLOBAL_DBG.OPEN | from the bundle
  jobs    : List Job := []       -- R314 | outstanding commands, in the order taken | empty
  dead    : List Dead := []      -- R314 | tags whose final reply waits in a full ring | empty
  /-- Messages sent to the BMC, newest last. One with Tag Owner set has a message tag of the package; any other is the response to the BMC's
  request and has its tag. -/
  mctpOut : List (Bool × List Byte) := []  -- R316 | Tag Owner and body of each message sent | empty
  dynAddr : Nat := 0             -- R316 | dynamic I3C address | DC 0 (none)
  eid     : Nat := 0             -- R316 | endpoint ID | 0 (none set; PRESUMED)
  spdm    : Map Spdm := []       -- R449 | by transport: 0 MCTP, 1 + port DOE | -
  fwOwner : Option TInst := none -- R337 | instance that holds the session | none
  fwOther : Nat := 1             -- R337 | the other slot | 1
  fwLen   : Nat := 0             -- R337 | image length | 0
  fwData  : List Byte := []      -- R337 | bytes received | empty
  debugOut : List Word := []     -- R342 | data of DEBUG and PLUMB port reads, newest last | empty
  drained : Bool := false        -- R385 | takes no new command | 0
deriving DecidableEq, Repr

/-! ## Power, cooling, Scribe and pins -/

/-- A coolant input (R393). -/
structure Cool where
  samples : List Int := []       -- R393 | the last 5 accepted samples, newest first | none
  stale   : Bool := false        -- R393 | 1 bit | 0
  pulsed  : Bool := false        -- R393 | COOL_TACH has counted a pulse | 0
deriving DecidableEq, Repr

/-- Power, clocks and cooling of the package (R361 to R400). -/
structure Power where
  ratio   : Nat := 1             -- R361 | N, 1-8 | DC 1
  vin     : Nat := 0             -- R362 | last VIN sample, mV | DC 0
  iin     : Nat := 0             -- R362 | input current, mA | DC 0
  vins    : List Nat := []       -- R363 | VIN samples of the last 10 ms, newest first | none
  below6  : Bool := false        -- R365 | VIN has fallen below 6 V: the bounds are void | 0
  capCfg  : Nat := 700           -- R331 | configured package cap, W | DC 700 (R3 nominal)
  capStretch : Option Nat := none -- R364 | cap lowered by the input-current limit, mW | none
  stretch : Bool := false        -- R364 | clock stretching acts | 0
  fallback : Bool := false       -- R394 | coolant fallback | 0
  pkgPower : Nat := 0            -- R386 | 1 ms mean, mW | 0
  domPower : Map Nat := []       -- R386 | measured mW by domain | 0
  domState : Map Nat := []       -- R356 | DOM_STATE.STATE by domain | 0; OFF while unpowered
  domVolt : Map Nat := []        -- R356 | mV by domain | 0
  votes   : Map Nat := []        -- R356, R50 | request of frame f for domain d by 4d + f | 0
  woken   : List Nat := []       -- R375 | domains woken from a requested LOW | none
  pwrfail : Bool := false        -- R367 | power-fail sequence running | 0
  throttle : Bool := false       -- R391 | THROTTLE_N asserted | 0
  capBinding : Bool := false     -- R400 | the package cap binds | 0
  unreach : Bool := false        -- R390 | cap unreachable posted | 0
  vinLow  : Bool := false        -- R400 | cause 3 posted | 0
  duty    : Nat := 200           -- R392 | COOL_PWM in 0.5 % | 100 %
  coolMode : Nat := 0            -- R331, R396 | 0 automatic, 1 fixed | 0
  fixedDuty : Nat := 0           -- R331 | per cent | 0
  limit   : Nat := 550           -- R396 | outlet limit, 0.1 °C | 550
  inlet   : Cool := {}           -- R393 | - | -
  outlet  : Cool := {}           -- R393 | - | -
  tach    : Cool := {}           -- R393 | - | -
  overOut : Bool := false        -- R396 | outlet excursion posted | 0
  outCut  : Nat := 0             -- R396 | cool steps since the last outlet cut | DC 0
  sill    : Map Sense := []      -- R397 | four sensors of each sill quadrant, by quadrant | none read
  ctlPower : Map Nat := []       -- R386 | 100 µs mean of each domain, mW | 0
  lastFresh : Nat := 0           -- R394 | input that became fresh last: 0 inlet, 1 outlet, 2 COOL_TACH | 0
  pkgModel : Model := {}         -- R395 | model of the package | from the bundle
  trip    : Bool := false        -- R399 | THERMTRIP latched | 0
deriving DecidableEq, Repr

/-- A Scribe record (R421): its bins by number. -/
structure Rec where
  bins    : Map Int := []        -- R421 | 64-bit bins | cleared: 0; extremes at their R421 values
  flags   : Nat := 0             -- R421 | SATURATED, REPAIRED | 0
  samples : Nat := 0             -- R421 | SAMPLES, saturating | 0
  missed  : Nat := 0             -- R421 | MISSED_FROZEN, saturating | 0
  upd     : Word := 0            -- R421 | timestamp of the last update | 0
  clr     : Word := 0            -- R421 | timestamp of the last clear | 0
deriving DecidableEq, Repr

/-- A line-log entry (R408). -/
structure LogEnt where
  seq   : Nat := 0               -- R408 | 32 bits | -
  cls   : Nat := 0               -- R408 | 0-4 | -
  src   : Nat := 0               -- R408 | source class | -
  code  : Nat := 0               -- R408 | structure code | -
  flags : Nat := 0               -- R408 | 8 bits | -
  pa    : Nat := 0               -- R408 | 64 bits | -
  stamp : Word := 0              -- R408 | 64 bits | -
  inst  : Nat := 0               -- R408 | 16 bits | -
  sub   : Nat := 0               -- R408 | 16 bits | -
  detail : Nat := 0              -- R408 | 8 bits | -
  rpkg  : Nat := 0               -- R408 | 8 bits | -
deriving DecidableEq, Repr

/-- One count of log 0 (R409). -/
structure Cnt where
  n     : List Nat := [0, 0, 0, 0, 0]  -- R409 | corrected, created, consumed, contained, fatal, 32 bits each | 0
  stamp : Word := 0              -- R409 | timestamp of the last event | 0
  since : Nat := 0               -- R405 | corrected events since the last notice | 0
  noticed : Nat := 0             -- R405 | system time of the last CORRECTED notice | 0
  told  : Bool := false          -- R405 | a CORRECTED notice has been posted | 0
deriving DecidableEq, Repr

/-- Scribe, the line log and the journal device (R408, R420, R426). -/
structure Scribe where
  recs    : Map Rec := []        -- R423 | by kind x 256 + instance | cleared; loaded from the journal at cold boot
  frozen  : Bool := false        -- R424 | 1 bit | 0
  log     : List LogEnt := []    -- R408 | the last 1,024 entries, oldest first | restored from the journal
  logSeq  : Nat := 0             -- R408 | next sequence number, 32 bits | 0
  counts  : Map Cnt := []        -- R409 | log 0 by (source class, structure, instance) | 0
  bootNo  : Nat := 0             -- R422 | 16 bits | 0 (kept in the journal)
  upTicks : Nat := 0             -- R422 | system ticks since D0 start | 0
  flushing : Option Nat := none  -- R425 | cause of the flush under way | none
  again   : Option Nat := none   -- R425 | cause of the flush that follows | none
  slots   : Map JImage := []     -- R427 | 2 image slots | DC none written
  jLog    : List LogEnt := []    -- R426 | line-log image | DC empty
  jLogSeq : Nat := 0             -- R408 | sequence number saved with the log | DC 0
  jMarks  : Map Mark := []       -- R426 | device marks by channel x 64 + 2ρ + s | DC empty
  jBoot   : Nat := 0             -- R422 | boot number in the journal | DC 0
  imageSeq : Nat := 0            -- R427 | sequence number of the newest image | 0
deriving DecidableEq, Repr

/-- The control pins (R482). -/
structure Pins where
  pwrgood : Bool := false        -- R431, R482 | input | deasserted in cold reset
  resetN  : Bool := true         -- R482 | input, true is high | DC high
  wakeN   : Bool := true         -- R482 | input | DC high
  pwrfailN : Bool := true        -- R482 | input | DC high
  throttleN : Bool := true       -- R482 | input | DC high
  straps  : Nat := 0             -- R255, R482 | PKG_ID2 to PKG_ID0 | DC 0
  errorN  : Bool := true         -- R407, R482 | output, true is released | released
  thermtripN : Bool := true      -- R399, R482 | output, true is released | released
  vaux    : Bool := false        -- R482, R493 | output on | off
  driven  : Bool := false        -- R493 | outputs driven | high-Z
deriving DecidableEq, Repr

/-- The banked copies of SEL (R348): key 16 x port + window; ports 0-3 HOST of frame f, 4 PLUMB, 5 DEBUG. -/
structure Sel where
  inst : Map Nat := []           -- R348 | 8 bits each | lowest selectable, or 0
deriving DecidableEq, Repr

/-- A UPMU instance (R360). -/
structure Upmu where
  ctl : Map Word := []           -- R360 | UPMU_CTLk | 0
  cnt : Map Word := []           -- R360 | UPMU_CNTk | 0
deriving DecidableEq, Repr

/-! ## The package -/

/-- Who has uncached accesses of memory under way beside the cores and the ports' requests (R156): the fetch of frame f's
command ring and the writes of its reply ring (R315); of port p's IOMMU (R288) its walks, its command queue with the write of an
IOFENCE, its fault queue and its MSIs. -/
inductive NcOwner where
  | fetch (f : Nat)
  | reply (f : Nat)
  | walk (p : Nat)
  | queue (p : Nat)
  | fence (p : Nat)
  | record (p : Nat)
  | msi (p : Nat)
deriving DecidableEq, Repr

/-- One uncached access under way at the line's home (R171). -/
structure NcOp where
  owner : NcOwner := .fetch 0    -- R156 | - | -
  agent : Nat := 48              -- R163 | bridge or port | -
  tag   : Nat := 1024            -- R162 | 12 bits | -
  line  : Nat := 0               -- R162 | PA[55:6] | -
  op    : MsgOp := .rdNc         -- R164 | RD_NC, WR_NC or ATOM_NC | -
  data  : Line := 0              -- R171 | data to be written, or the operands of the AMO | -
  mask  : BitVec 64 := 0         -- R171 | its bytes | -
  off   : Nat := 0               -- R171 | byte offset of an AMO | -
deriving DecidableEq, Repr

/-- How one of them ended. -/
structure NcLine where
  owner : NcOwner := .fetch 0    -- R156 | - | -
  line  : Nat := 0               -- R162 | PA[55:6] | -
  data  : Line := 0              -- R171 | the line of a read | -
  poison : Bool := false         -- R82 | its mark | -
  err   : Bool := false          -- R142 | its home answered ERR | -
deriving DecidableEq, Repr

/-- The whole machine. -/
structure State where
  cores  : Map Core := []        -- R54 | 384 by 32 x stud + core | -
  studs  : Map Stud := []        -- R353 | 12 | -
  homes  : Map Home := []        -- R156 | 12 bays, then 12 + n for port Pn | -
  tenons : Map Tenon := []       -- R187 | 12 | -
  chans  : Map Chan := []        -- R246 | 16 | -
  ports  : Map Port := []        -- R279 | 8 | -
  frames : Map Frame := []       -- R27 | 4 | -
  qos    : Map Cbqri := []       -- R244 | bandwidth controllers by quadrant | -
  upmus  : Map Upmu := []        -- R360, R468 | by instance | 0
  sel    : Sel := {}             -- R345 | - | -
  threshold : Word := 0x0A0A10   -- R212 | TENON_THRESH | LEAK_MS 10, ROT_PERIOD 10, WIRE 16
  plumb  : Plumb := {}           -- R313 | - | -
  power  : Power := {}           -- R361 | - | -
  scribe : Scribe := {}          -- R420 | - | -
  pins   : Pins := {}            -- R482 | - | -
  off    : Bool := false         -- R376 | package OFF | 0
  mtime  : Word := 0             -- R79 | system timer, 64 bits | 0
  refLost : Bool := false        -- R370 | REFCLK lost | 0
  /-- Coherence messages in flight, in the order they stand in each queue on their way (R160). -/
  net    : List Msg := []        -- R160 | - | empty
  ncOps  : List NcOp := []       -- R171, R288, R315 | uncached accesses of rings and IOMMUs under way | empty
  ncBuf  : List NcLine := []     -- R171, R288, R315 | those ended that their owner has not used up | empty
  /-- Rotating pointers of the sill fabric stops, by `Ask.key`: output, plane and virtual channel of a stop (R15). -/
  arb    : Map Nat := []         -- R15 | 0-4 | DC 0
  nqWait : List NqAcc := []      -- R344, R415 | accesses of the NQ window behind a stalled read of their port | none
  /-- Memory bytes by key (`MemKey`), canonical: strictly rising keys, no zero byte (log entry 4). -/
  mem    : List Host.Cell := []  -- R237 | DRAM, edge stores, bench arrays, CXL memory | nothing listed
  /-- Lines of `mem` stored with the poison encoding, rising (R238). -/
  memPoison : List Nat := []     -- R238 | 1 bit per line | none
  /-- Lines whose uncorrectable error has been found and counted, by key, rising (R239). -/
  memFound : List Nat := []      -- R239 | 1 bit per line | none
  /-- Planted DRAM errors by line key: 1 + 10 type + device (R334). -/
  memBad : Map Nat := []         -- R334 | - | none
  /-- The model's own counter of free values (log entry 2). -/
  free   : Nat := 0              -- model's own | - | DC 0
  /-- Commands that wait, first in, first out. -/
  pending : List Instr := []     -- the block's queue | - | empty
deriving DecidableEq, Repr

/-- The package held in cold reset: PWRGOOD deasserted, no rail on (R431); every register at its Reset value (R9). -/
def State.reset : State := {}

end Sys2Proof.Machine
end

