-- ==== Sys2Proof/Machine/Tab.lean ====
section
/-! DEFINITION. Sparse tables: a `Map` holds (key, value) pairs with strictly rising keys; a key that is not listed
stands for a default the reader names. -/

namespace Sys2Proof.Machine

variable {α : Type}

/-- The value listed for k, if any. -/
def Tab.find (t : Map α) (k : Nat) : Option α :=
  match t with
  | [] => none
  | (j, v) :: r => if j = k then some v else Tab.find r k

/-- The value at k, or the default d. -/
def Tab.get (t : Map α) (d : α) (k : Nat) : α := (Tab.find t k).getD d

/-- t without the key k. -/
def Tab.erase (t : Map α) (k : Nat) : Map α :=
  match t with
  | [] => []
  | (j, v) :: r => if j = k then Tab.erase r k else (j, v) :: Tab.erase r k

/-- (k, v) put before the first larger key. -/
def Tab.insertAt (t : Map α) (k : Nat) (v : α) : Map α :=
  match t with
  | [] => [(k, v)]
  | (j, w) :: r => if k < j then (k, v) :: (j, w) :: r else (j, w) :: Tab.insertAt r k v

/-- t with k set to v. -/
def Tab.set (t : Map α) (k : Nat) (v : α) : Map α := Tab.insertAt (Tab.erase t k) k v

/-- t with k set to v, unlisted when v is the default d: the canonical form (log entry 3). -/
def Tab.put [DecidableEq α] (t : Map α) (d : α) (k : Nat) (v : α) : Map α :=
  if v = d then Tab.erase t k else Tab.set t k v

/-- The keys of t. -/
def Tab.keys (t : Map α) : List Nat := t.map (·.1)

/-- The lowest number below n (from base up) that t does not list. -/
def Tab.freeKey (t : Map α) (base : Nat) (n : Nat) : Option Nat :=
  (List.range n).map (base + ·) |>.find? (fun k => (Tab.find t k).isNone)

/-- Keys strictly rising. -/
def Tab.rising (t : Map α) : Bool :=
  match t with
  | [] => true
  | (j, _) :: r => (match r with | [] => true | (k, _) :: _ => decide (j < k)) && Tab.rising r

end Sys2Proof.Machine
end

