-- ==== Sys2Proof/Machine/Geometry.lean ====
section
/-! DEFINITION. Where things are: modes and frames (R16, R25, R27), stops of the sill fabric (R12), homes of lines
(R21), their place in memory (R219 to R221), their sets (R130, R176), and the address map of a frame view (R20, R30,
R259, R284, R285). -/

namespace Sys2Proof.Machine

/-! ## Modes and frames -/

/-- Frames of a mode (R25). -/
def frameCount (mode : Nat) : Nat := 2 ^ (mode / 4)
/-- O variant (R25). -/
def variantO (mode : Nat) : Bool := (mode / 2) % 2 == 1
/-- Configured Joined (R25). -/
def joinedMode (mode : Nat) : Bool := mode % 2 == 1
/-- The frame that holds quadrant q (R16). -/
def frameOfQuad (mode q : Nat) : Nat := q / (4 / frameCount mode)
/-- The frame that holds stud or bay n (R27). -/
def frameOfStud (mode n : Nat) : Nat := frameOfQuad mode (n / 3)
/-- The frame that holds channel c (R27). -/
def frameOfChan (mode c : Nat) : Nat := frameOfQuad mode (c / 4)
/-- The frame that holds port p (R27). -/
def frameOfPort (mode p : Nat) : Nat := frameOfQuad mode (p / 2)
/-- Quadrants of frame f (R16). -/
def quadsOf (mode f : Nat) : List Nat := (List.range 4).filter (fun q => frameOfQuad mode q == f)
/-- Studs, and bays, of frame f, ascending (R27). -/
def studsOf (mode f : Nat) : List Nat := (List.range 12).filter (fun n => frameOfStud mode n == f)
/-- Channels of frame f (R27). -/
def chansOf (mode f : Nat) : List Nat := (List.range 16).filter (fun c => frameOfChan mode c == f)
/-- Ports of frame f (R27). -/
def portsOf (mode f : Nat) : List Nat := (List.range 8).filter (fun p => frameOfPort mode p == f)
/-- The frames of a mode. -/
def framesOf (mode : Nat) : List Nat := List.range (frameCount mode)
/-- Frames that hold domain d; more than one for a shared domain (R27). -/
def holdersOf (mode d : Nat) : List Nat :=
  if d < 2 then framesOf mode
  else if d < 14 then [frameOfStud mode (d - 2)]
  else if d < 26 then [frameOfStud mode (d - 14)]
  else if d = 26 ∨ d = 28 then (framesOf mode).filter (fun f => (quadsOf mode f).any (· < 2))
  else (framesOf mode).filter (fun f => (quadsOf mode f).any (2 ≤ ·))
/-- The APLIC and Plumb bridge of frame f: its lowest-numbered quadrant (R18, R19). -/
def bridgeOf (mode f : Nat) : Nat := (quadsOf mode f).headD 0

/-- The bit vector of a list of small numbers. -/
def maskOf (l : List Nat) : Nat := l.foldl (fun m n => m ||| 2 ^ n) 0

/-! ## Stops and arrival ports (R12, R14, R166) -/

/-- The stop (x, y) of bay b. -/
def bayStop (b : Nat) : Nat × Nat :=
  [(2, 0), (1, 1), (2, 1), (1, 2), (2, 2), (2, 3), (3, 0), (3, 1), (4, 1), (3, 2), (4, 2), (3, 3)].getD b (0, 0)
/-- The stop of port p, and of its quadrant's Plumb bridge. -/
def portStop (p : Nat) : Nat × Nat := [(1, 0), (1, 3), (4, 0), (4, 3)].getD (p / 2) (0, 0)
/-- The stop of channel c. -/
def chanStop (c : Nat) : Nat × Nat :=
  [(0, 0), (0, 1), (0, 2), (0, 3), (5, 0), (5, 1), (5, 2), (5, 3)].getD (c / 2) (0, 0)
/-- The stop of an agent (R163). -/
def agentStop (a : Nat) : Nat × Nat :=
  if a < 12 then bayStop a else if a < 28 then bayStop (a - 16) else if a < 40 then portStop (a - 32)
  else portStop (2 * (a - 48))
/-- The plane a DAT message from a stop takes (R13). -/
def datPlane (a : Nat) : Nat := 1 + (6 * (agentStop a).2 + (agentStop a).1) % 3
/-- The arrival port of R166 at the stop `dst` for a message of agent `a`: 0 the home's own stud, 1 north, 2 east,
3 south, 4 west, 5 the Plumb management ring. Messages travel along x, then along y (R14). A message of another agent
at the home's own stop enters no mesh link; it is given port 0 (log entry 7). -/
def arrivalPort (a : Nat) (dst : Nat × Nat) : Nat :=
  let src := agentStop a
  if 48 ≤ a then 5
  else if src = dst then 0
  else if src.2 < dst.2 then 1
  else if dst.2 < src.2 then 3
  else if src.1 < dst.1 then 4
  else 2

/-! ## Homes and places of lines -/

/-- The hash of R21: entry i of a list of B bays for the address pa. -/
def bayIndex (B pa : Nat) : Nat :=
  let q := (bits pa 7 6) ^^^ (bits pa 15 14) ^^^ (bits pa 23 22) ^^^ (bits pa 31 30) ^^^ (bits pa 39 38)
  let t := bits pa 42 8 % 3
  if B = 12 then 4 * t + q else if B = 6 then 2 * t + q % 2 else t
/-- The home bay of a DRAM address of frame f (R21). -/
def homeBay (mode f pa : Nat) : Nat :=
  let l := studsOf mode f
  l.getD (bayIndex l.length pa) 0

/-- d of R130. -/
def hashD (pa : Nat) : Nat := bits pa 42 8 / 3
/-- The bay cache set of a DRAM address (R130). -/
def baySet (B pa : Nat) : Nat :=
  let d := hashD pa
  if B = 12 then d % 65536 else if B = 6 then (d % 32768) * 2 + bits pa 7 7 else (d % 16384) * 4 + bits pa 7 6
/-- The directory set of a DRAM address (R176). -/
def dirSet (B pa : Nat) : Nat :=
  let d := hashD pa
  if B = 12 then d % 32768 else if B = 6 then (d % 16384) * 2 + bits pa 7 7 else (d % 8192) * 4 + bits pa 7 6

/-- Where a DRAM line lies (R219): a local line of a channel, or a slot of a quadrant's edge store. -/
inductive Place where
  | chan (c x : Nat)
  | edge (q slot : Nat)
deriving DecidableEq, Repr

/-- The table a[k] of R219: k counts the quadrants of the frame. -/
def holeBays (B k : Nat) : Nat :=
  if B = 12 then [3, 1, 0, 0].getD k 0 else if B = 6 then [2, 0].getD k 0 else 1

/-- place() of R219 for a home bay b of frame f: n active channels `chans q` in each quadrant with L lines each. -/
def place (mode f n L : Nat) (chans : Nat → List Nat) (pa : Nat) : Place :=
  let B := (studsOf mode f).length
  let b := homeBay mode f pa
  let q := b / 3
  let j := b % 3
  let k := q - bridgeOf mode f
  let m := 12 / B
  let r := if B = 12 then 0 else if B = 6 then bits pa 7 7 else bits pa 7 6
  let z0 := m * (3 * hashD pa + j) + r
  let z := if 0x100000000 ≤ pa then z0 - m * (4194303 + holeBays B k) else z0
  if n * L ≤ z then .edge q (z - n * L)
  else .chan ((chans q).getD (z % n) 0) (z / n)

/-- Fields of a local line (R221): subchannel, column block, bank group, bank, logical rank, row. -/
structure Bank5 where
  sub : Nat
  cb : Nat
  bg : Nat
  bank : Nat
  rank : Nat
  row : Nat
deriving DecidableEq, Repr

/-- R221 with nr logical ranks. -/
def dramOf (nr x : Nat) : Bank5 :=
  let xh := x / 8192
  let nr := max nr 1
  let row := xh / nr
  { sub := x % 2, cb := bits x 10 6 * 4 + bits x 2 1, bg := bits x 5 3 ^^^ row % 8,
    bank := bits x 12 11 ^^^ bits row 4 3, rank := xh % nr, row := row }

/-! ## Sizes of pages, tables and keys of memory -/

/-- Keys of memory bytes (R219, R220, R142, R298). -/
def keyChan (c x : Nat) : Nat := c * 2 ^ 42 + x * 64
def keyEdge (q slot : Nat) : Nat := 2 ^ 46 + (q * 4 + slot) * 64
def keyBench (b off : Nat) : Nat := 2 ^ 47 + b * 2 ^ 26 + off
def keyCxl (p off : Nat) : Nat := 2 ^ 48 + p * 2 ^ 44 + off

/-- The first address of bay b's bench window (R142). -/
def benchBase (b : Nat) : Nat := 0xFC000000000 + b * 0x4000000
def controlBase : Nat := 0xFE000000000
def flashBase : Nat := 0xFF000000000
/-- The first address of port p's region (R284). -/
def portBase (p : Nat) : Nat := 0x100000000000 + p * 0xE0000000000
/-- The first address of ridge space (R20). -/
def ridgeBase : Nat := 2 ^ 55

/-- A region of a frame view (R65, R284, R285). -/
inductive Region where
  /-- DRAM at home here, with its local address (R260). -/
  | dram (la : Nat)
  /-- DRAM of another package of the joined domain (R259). -/
  | remote (pkg la : Nat)
  | bench (b off : Nat)
  | control (off : Nat)
  | flash (off : Nat)
  | ecam (p off : Nat)
  | pcie (p pa : Nat)
  | outbound (p off : Nat)
  | cxl (p off : Nat)
  | ridge (node addr : Nat)
  | nowhere
deriving DecidableEq, Repr

/-- Kinds of memory that may be cached (R65). -/
def Region.main : Region → Bool
  | .dram _ | .remote _ _ | .bench _ _ | .flash _ | .cxl _ _ | .ridge _ _ => true
  | _ => false

/-- I/O regions (R65). -/
def Region.io : Region → Bool
  | .control _ | .ecam _ _ | .pcie _ _ | .outbound _ _ => true
  | _ => false

/-- Regions that walks may read PTEs from (R99). -/
def Region.walkable : Region → Bool
  | .dram _ | .remote _ _ | .bench _ _ | .cxl _ _ => true
  | _ => false

/-- The frame of the package that holds index f. -/
def State.frame (s : State) (f : Nat) : Frame := Tab.get s.frames {} f
def State.core (s : State) (c : Nat) : Core := Tab.get s.cores {} c
def State.stud (s : State) (n : Nat) : Stud := Tab.get s.studs {} n
/-- A home at its Reset values: the LFSR of bay b is loaded with 0x1111 x (b + 1) (R132). -/
def Home.init (h : Nat) : Home := { lfsr := BitVec.ofNat 16 (if h < 12 then 0x1111 * (h + 1) else 1) }
def State.home (s : State) (h : Nat) : Home := Tab.get s.homes (Home.init h) h
def State.tenon (s : State) (n : Nat) : Tenon := Tab.get s.tenons {} n
def State.chan (s : State) (c : Nat) : Chan := Tab.get s.chans {} c
def State.port (s : State) (p : Nat) : Port := Tab.get s.ports {} p
def State.bw (s : State) (q : Nat) : Cbqri := Tab.get s.qos {} q
def State.upmu (s : State) (i : Nat) : Upmu := Tab.get s.upmus {} i

def State.setFrame (s : State) (f : Nat) (v : Frame) : State := { s with frames := Tab.set s.frames f v }
def State.setCore (s : State) (c : Nat) (v : Core) : State := { s with cores := Tab.set s.cores c v }
def State.setStud (s : State) (n : Nat) (v : Stud) : State := { s with studs := Tab.set s.studs n v }
def State.setHome (s : State) (h : Nat) (v : Home) : State := { s with homes := Tab.set s.homes h v }
def State.setTenon (s : State) (n : Nat) (v : Tenon) : State := { s with tenons := Tab.set s.tenons n v }
def State.setChan (s : State) (c : Nat) (v : Chan) : State := { s with chans := Tab.set s.chans c v }
def State.setPort (s : State) (p : Nat) (v : Port) : State := { s with ports := Tab.set s.ports p v }
def State.setBw (s : State) (q : Nat) (v : Cbqri) : State := { s with qos := Tab.set s.qos q v }
def State.setUpmu (s : State) (i : Nat) (v : Upmu) : State := { s with upmus := Tab.set s.upmus i v }

/-- The active mode (R352). -/
def State.mode (s : State) : Nat := s.plumb.active
/-- The frame of stud n. -/
def State.frameOfStud (s : State) (n : Nat) : Nat := Machine.frameOfStud s.mode n
def State.frameOfCore (s : State) (c : Nat) : Nat := Machine.frameOfStud s.mode (c / 32)
def State.frameOfPort (s : State) (p : Nat) : Nat := Machine.frameOfPort s.mode p
/-- The frame of a home: bay 0 to 11 or 12 + port (R156). -/
def State.frameOfHome (s : State) (h : Nat) : Nat :=
  if h < 12 then s.frameOfStud h else s.frameOfPort (h - 12)

/-- mhartid of core c (R29). -/
def State.mhartid (s : State) (c : Nat) : Nat :=
  let n := c / 32
  let lo := (studsOf s.mode (s.frameOfStud n)).headD 0
  (if joinedMode s.mode then s.plumb.pkgId * 512 else 0) + (n - lo) * 32 + c % 32

/-- The notch sampler of core c at its reset: its LFSR is seeded with mhartid[11:0] + 1 (R464). -/
def State.notchReset (s : State) (c : Nat) : Notch := { lfsr := BitVec.ofNat 16 (s.mhartid c % 4096 + 1) }

/-- Core c has a hart: its stud has booted, and the core with it (R29, R123). -/
def State.hartThere (s : State) (c : Nat) : Bool :=
  let st := s.stud (c / 32)
  st.state != 1 && (st.state != 0 || bitOf st.cores (c % 32))

/-- The core of frame f with hart index h, in this package (R76): none for a stud that did not boot (R29). -/
def State.coreOfHart (s : State) (f h : Nat) : Option Nat :=
  let lo := (studsOf s.mode f).headD 0
  let n := lo + bits h 8 5
  let pkg := if joinedMode s.mode then s.plumb.pkgId else 0
  if h < 4096 ∧ bits h 11 9 = pkg ∧ (studsOf s.mode f).contains n ∧ s.hartThere (n * 32 + h % 32) then some (n * 32 + h % 32)
  else none

/-- Active channels of quadrant q, ascending (R217). -/
def State.activeChans (s : State) (q : Nat) : List Nat :=
  ((List.range 4).map (4 * q + ·)).filter (fun c => (s.chan c).st == 2)

/-- The place of a local DRAM address of frame f (R219). -/
def State.place (s : State) (f la : Nat) : Place :=
  Machine.place s.mode f (s.frame f).nCh (s.frame f).perCh s.activeChans la

/-- The key of the line of a local DRAM address (R219, R220). -/
def State.dramKey (s : State) (f la : Nat) : Nat :=
  match s.place f la with
  | .chan c x => keyChan c x
  | .edge q slot => keyEdge q slot

/-- The frame's DRAM in its own package holds the local address la (R30, R357). -/
def Frame.holdsDram (fr : Frame) (la : Nat) : Bool :=
  decide (la < fr.topGib * 2 ^ 30) && !(decide (0xC0000000 ≤ la) && decide (la < 0x100000000))

/-- Rank of a package among ascending IDs (R259). -/
def rankOf (members : List Nat) (pkg : Nat) : Nat := (members.filter (· < pkg)).length

/-- The region of an address in the view of frame f (R20, R30, R259, R284, R285). The ridge space of a frame that is no ridge node is no
region: an access there is a fault (R268). What a walk makes of a PTE there is `State.walkNext`'s. -/
def State.region (s : State) (f pa : Nat) : Region :=
  let fr := s.frame f
  if 0xC0000000 ≤ pa ∧ pa < 0x100000000 then
    -- the 32-bit memory windows (R285)
    let p := (pa - 0xC0000000) / 0x8000000
    if s.frameOfPort p = f ∧ ((s.port p).pers = 1 ∨ (s.port p).pers = 2) then .pcie p pa else .nowhere
  else if pa < 2 ^ 43 then
    if fr.joinSt = 2 then
      let slice := 2 ^ 43 / max fr.members.length 1
      let k := pa / slice
      let la := pa - k * slice
      let own := rankOf fr.members s.plumb.pkgId
      if k ≠ 0 ∧ 0xC0000000 ≤ la ∧ la < 0x100000000 then .nowhere
      else if k = own then (if fr.holdsDram la then .dram la else .nowhere)
      else .remote (fr.members.getD k 0) la
    else if fr.holdsDram pa then .dram pa else .nowhere
  else if benchBase 0 ≤ pa ∧ pa < benchBase 12 then
    let b := (pa - benchBase 0) / 0x4000000
    if s.frameOfStud b = f then .bench b ((pa - benchBase 0) % 0x4000000) else .nowhere
  else if controlBase ≤ pa ∧ pa < flashBase then
    if pa - controlBase < 2 ^ 32 then .control (pa - controlBase) else .nowhere
  else if flashBase ≤ pa ∧ pa < flashBase + 0x2000000 then .flash (pa - flashBase)
  else if portBase 0 ≤ pa ∧ pa < portBase 8 then
    let p := (pa - portBase 0) / 0xE0000000000
    let off := (pa - portBase 0) % 0xE0000000000
    let pers := (s.port p).pers
    if s.frameOfPort p ≠ f then .nowhere
    else if off < 0x10000000 then (if pers = 1 ∨ pers = 2 then .ecam p off else .nowhere)
    else if off < 2 ^ 41 then
      if pers = 1 ∨ pers = 2 then .pcie p pa else if pers = 3 then .outbound p (off - 0x10000000) else .nowhere
    else if pers = 2 then .cxl p (off - 2 ^ 41) else .nowhere
  else if ridgeBase ≤ pa ∧ pa < 2 ^ 56 then
    if fr.node then .ridge (bits pa 54 39) (pa % 2 ^ 39) else .nowhere
  else .nowhere

/-- The home of a line (R156): its index and the address as the home reads it; none for regions without a home. -/
def State.homeOf (s : State) (f pa : Nat) : Option (Nat × Nat) :=
  match s.region f pa with
  | .dram la => some (homeBay s.mode f la, la)
  | .bench b _ => some (b, pa)
  | .cxl p _ => some (12 + p, pa)
  | _ => none

/-- The agent ID of a home (R163). -/
def agentOfHome (h : Nat) : Nat := if h < 12 then 16 + h else 32 + (h - 12)
/-- The home of an agent ID, if it is one. -/
def homeOfAgent (a : Nat) : Option Nat :=
  if 16 ≤ a ∧ a < 28 then some (a - 16) else if 32 ≤ a ∧ a < 40 then some (12 + (a - 32)) else none
/-- The agent IDs of R163. -/
def agentOk (a : Nat) : Bool :=
  decide (a < 12) || (decide (16 ≤ a) && decide (a < 28)) || (decide (32 ≤ a) && decide (a < 40))
    || (decide (48 ≤ a) && decide (a < 52))

/-- The memory key of a home's line (R219, R142, R298). -/
def State.lineKey (s : State) (h la : Nat) : Nat :=
  if benchBase 0 ≤ la ∧ la < benchBase 12 then keyBench h ((la - benchBase h) / 64 * 64)
  else if h < 12 then s.dramKey (s.frameOfStud h) (la / 64 * 64)
  else keyCxl (h - 12) ((la - portBase (h - 12) - 2 ^ 41) / 64 * 64)

/-- The line is a bench line. -/
def isBenchAddr (la : Nat) : Bool := decide (benchBase 0 ≤ la) && decide (la < benchBase 12)

/-- The directory set of a line at home h (R176, R157). -/
def State.dirSetOf (s : State) (h la : Nat) : Nat :=
  if 12 ≤ h then bits la 18 6
  else if isBenchAddr la then bits (la - benchBase h) 20 6
  else dirSet (studsOf s.mode (s.frameOfStud h)).length la
/-- The ways of a directory (R175, R157). -/
def dirWays (h : Nat) : Nat := if 12 ≤ h then 16 else 24
/-- The bay cache set of a line (R130). -/
def State.baySetOf (s : State) (h la : Nat) : Nat := baySet (studsOf s.mode (s.frameOfStud h)).length la

end Sys2Proof.Machine
end

