-- ==== Sys2Proof/Machine/Flags.lean ====
section
/-! DEFINITION. The arithmetic the block does on values: atomic operations (R65, R66), extension of loaded data,
register access parts (R343), saturating counts (R476), bytes of words (R5), the CRCs of R319 and R501, and the two
linear-feedback generators (R132, R230). -/

namespace Sys2Proof.Machine

/-! ## Bytes and words (R5) -/

/-- n bytes of a number, lowest first. -/
def bytesOf (n v : Nat) : List Byte :=
  match n with
  | 0 => []
  | k + 1 => BitVec.ofNat 8 v :: bytesOf k (v / 256)

/-- The number that bytes spell, lowest first. -/
def ofBytes : List Byte → Nat
  | [] => 0
  | b :: r => b.toNat + 256 * ofBytes r

/-- n bytes of a line from offset off. -/
def lineBytes (l : Line) (off n : Nat) : Nat := (l.toNat / 2 ^ (8 * off)) % 2 ^ (8 * n)

/-- The byte mask of n bytes from offset off. -/
def byteMask (off n : Nat) : BitVec 64 := BitVec.ofNat 64 ((2 ^ n - 1) * 2 ^ off)

/-- A byte mask widened to bits. -/
def bitMask (m : BitVec 64) : Line :=
  BitVec.ofNat 512 ((List.range 64).foldl (fun a i => if m.getLsbD i then a + 255 * 2 ^ (8 * i) else a) 0)

/-- Bytes of `new` where the mask is set, of `old` elsewhere (R171). -/
def mergeLine (old new : Line) (m : BitVec 64) : Line := (old &&& ~~~ bitMask m) ||| (new &&& bitMask m)

/-- A value of n bytes placed at offset off of a line. -/
def placeInLine (v off : Nat) : Line := BitVec.ofNat 512 (v * 2 ^ (8 * off))

/-- A list of bytes as a line. -/
def lineOf (l : List Byte) : Line := BitVec.ofNat 512 (ofBytes l)

/-! ## Loads and atomics -/

/-- A value of n bytes, sign-extended to 64 bits when asked. -/
def extend (sext : Bool) (n v : Nat) : Word :=
  if sext ∧ bitOf v (8 * n - 1) then BitVec.ofInt 64 ((v % 2 ^ (8 * n) : Nat) - (2 ^ (8 * n) : Nat) : Int)
  else BitVec.ofNat 64 (v % 2 ^ (8 * n))

/-- The signed value of n bytes. -/
def signedOf (n v : Nat) : Int :=
  let w := v % 2 ^ (8 * n)
  if bitOf w (8 * n - 1) then (w : Int) - (2 ^ (8 * n) : Nat) else w

/-- The value an atomic operation stores, from the old value, the operand and the compare value, n bytes wide. -/
def amoResult (op : AmoOp) (n old v cmp : Nat) : Nat :=
  let m := 2 ^ (8 * n)
  match op with
  | .swap => v % m
  | .add => (old + v) % m
  | .xor => (old ^^^ v) % m
  | .and => (old &&& v) % m
  | .or => (old ||| v) % m
  | .min => if signedOf n v < signedOf n old then v % m else old % m
  | .max => if signedOf n old < signedOf n v then v % m else old % m
  | .minu => min (v % m) (old % m)
  | .maxu => max (v % m) (old % m)
  | .cas => if old % m = cmp % m then v % m else old % m

/-! ## Register accesses -/

/-- The whole value that a write of one part leaves (R343). -/
def mergePart (p : Part) (old v : Word) : Word :=
  match p with
  | .full => v
  | .lo => (old &&& 0xFFFFFFFF00000000) ||| (v &&& 0xFFFFFFFF)
  | .hi => (old &&& 0xFFFFFFFF) ||| (v <<< 32)

/-- What a read of one part returns (R343). -/
def readPart (p : Part) (v : Word) : Word :=
  match p with
  | .full => v
  | .lo => v &&& 0xFFFFFFFF
  | .hi => v >>> 32

/-- Bits [hi:lo] of a register. -/
def fld (w : Word) (hi lo : Nat) : Nat := bits w.toNat hi lo

/-- The register with the bits of `mask` taken from v (R7: the writable bits). -/
def writeMask (old v mask : Word) : Word := (old &&& ~~~ mask) ||| (v &&& mask)

/-- The register with bits [hi:lo] set to v. -/
def setFld (w : Word) (hi lo v : Nat) : Word :=
  writeMask w (BitVec.ofNat 64 (v * 2 ^ lo)) (BitVec.ofNat 64 ((2 ^ (hi + 1 - lo) - 1) * 2 ^ lo))

/-- Saturating increment of an n-bit count (R476). -/
def satAdd (n c k : Nat) : Nat := min (2 ^ n - 1) (c + k)

/-! ## Generators and checks -/

/-- One step of the LFSR of R132: shift left by one, new bit 0 = b15 xor b13 xor b12 xor b10. -/
def lfsrStep (r : BitVec 16) : BitVec 16 :=
  (r <<< 1) ||| (((r >>> 15) ^^^ (r >>> 13) ^^^ (r >>> 12) ^^^ (r >>> 10)) &&& 1)

/-- One step of the generator of R230, of polynomial x^64 + x^63 + x^61 + x^60 + 1, in the form of R132. -/
def genStep (r : Word) : Word :=
  (r <<< 1) ||| (((r >>> 63) ^^^ (r >>> 62) ^^^ (r >>> 60) ^^^ (r >>> 59)) &&& 1)

/-- k steps of the LFSR. -/
def lfsrSteps (k : Nat) (r : BitVec 16) : BitVec 16 :=
  match k with
  | 0 => r
  | n + 1 => lfsrSteps n (lfsrStep r)

/-- One bit into the CRC-16 of R319. -/
def crc16Bit (c : Nat) (b : Bool) : Nat :=
  let t := ((c / 32768) % 2 == 1) != b
  let s := (c * 2) % 65536
  if t then s ^^^ 0x1021 else s

/-- One byte, bit 7 first. -/
def crc16Byte (c : Nat) (b : Byte) : Nat :=
  [7, 6, 5, 4, 3, 2, 1, 0].foldl (fun c i => crc16Bit c (b.getLsbD i)) c

/-- The CRC of R319 over bytes in ascending order. -/
def crc16 (l : List Byte) : Nat := l.foldl crc16Byte 0xFFFF

/-- The CRC-32 of R501 (polynomial 0x04C1_1DB7), bit 7 first, from initial value 0: the spec states neither the
initial value nor the bit order (log entry 8). -/
def crc32 (l : List Byte) : Nat :=
  l.foldl (fun c b => [7, 6, 5, 4, 3, 2, 1, 0].foldl (fun c i =>
    let t := ((c / 2 ^ 31) % 2 == 1) != b.getLsbD i
    let s := (c * 2) % 2 ^ 32
    if t then s ^^^ 0x04C11DB7 else s) c) 0

/-- The CRC-64 of R249 (polynomial 0x42F0_E1EB_A9EA_3693), in the same order (log entry 8). -/
def crc64 (l : List Byte) : Nat :=
  l.foldl (fun c b => [7, 6, 5, 4, 3, 2, 1, 0].foldl (fun c i =>
    let t := ((c / 2 ^ 63) % 2 == 1) != b.getLsbD i
    let s := (c * 2) % 2 ^ 64
    if t then s ^^^ 0x42F0E1EBA9EA3693 else s) c) 0

/-- log2 rounded down, at most k (R423). -/
def log2Upto (k n : Nat) : Nat := min k (Nat.log2 n)

end Sys2Proof.Machine
end

