-- ==== Sys2Proof/Machine/Operands.lean ====
section
/-! DEFINITION. Operand forms: CSR numbers with their reset values (R53, R84, R106, R453, R462), the status fields the
harts check, destinations of loads, and the parameter fields of a Plumb command packet (R318). -/

namespace Sys2Proof.Machine

/-! ## CSRs: numbers of the privileged architecture, and those of R84, R106, R453, R462 -/

def Csr.mstatus := 0x300
def Csr.medeleg := 0x302
def Csr.mideleg := 0x303
def Csr.mie := 0x304
def Csr.mtvec := 0x305
def Csr.mcounteren := 0x306
def Csr.menvcfg := 0x30A
def Csr.mstateen0 := 0x30C
def Csr.mcountinhibit := 0x320
def Csr.mepc := 0x341
def Csr.mcause := 0x342
def Csr.mtval := 0x343
def Csr.mip := 0x344
def Csr.mtinst := 0x34A
def Csr.mtval2 := 0x34B
def Csr.mvien := 0x308
def Csr.mvip := 0x309
def Csr.sie := 0x104
def Csr.hvien := 0x608
def Csr.hvictl := 0x609
def Csr.stvec := 0x105
def Csr.scounteren := 0x106
def Csr.senvcfg := 0x10A
def Csr.sepc := 0x141
def Csr.scause := 0x142
def Csr.stval := 0x143
def Csr.stimecmp := 0x14D
def Csr.satp := 0x180
def Csr.srmcfg := 0x181
def Csr.vsstatus := 0x200
def Csr.vsie := 0x204
def Csr.vstvec := 0x205
def Csr.vsepc := 0x241
def Csr.vscause := 0x242
def Csr.vstval := 0x243
def Csr.vstimecmp := 0x24D
def Csr.vsatp := 0x280
def Csr.hstatus := 0x600
def Csr.hedeleg := 0x602
def Csr.hideleg := 0x603
def Csr.hie := 0x604
def Csr.htimedelta := 0x605
def Csr.hcounteren := 0x606
def Csr.hgeie := 0x607
def Csr.henvcfg := 0x60A
def Csr.htval := 0x643
def Csr.htinst := 0x64A
def Csr.hgatp := 0x680
def Csr.hgeip := 0xE12
def Csr.mclksel := 0x7C0
def Csr.mcorectl := 0x7C1
def Csr.mpoisoninfo := 0x7C2
def Csr.spoisoninfo := 0x5C2
def Csr.stlbtag := 0x5C8
def Csr.stlbdata := 0x5C9
def Csr.stlbcmd := 0x5CA
def Csr.swalkinfo := 0x5CB
def Csr.mwalkinfo := 0x7C8
def Csr.mshimctl := 0x7C9
def Csr.notchctl := 0x7E0
def Csr.notchbase := 0x7E1
def Csr.notchhead := 0x7E2
def Csr.notchtail := 0x7E3
def Csr.notchwm := 0x7E4
def Csr.notchperiod := 0x7E5
def Csr.notchlost := 0x7E6
def Csr.mnotchdeleg := 0x7EF
def Csr.mcycle := 0xB00
def Csr.minstret := 0xB02

/-- Reset values (R53, R80, R86, R87, R97, R463); 0 for every other CSR; mstatus holds UXL = SXL = 2, and
mideleg its read-only bits of the VS level, and vtype vill (log entries 1 and 9). -/
def Csr.resetValue (n : Nat) : Word :=
  if n = Csr.mclksel then 0x10
  else if n = Csr.mcorectl then 0x43
  else if n = Csr.mshimctl then 7
  else if n = Csr.stimecmp ∨ n = Csr.vstimecmp then BitVec.allOnes 64
  else if n = Csr.notchctl then 0x00100008
  else if n = Csr.notchwm then 1
  else if n = Csr.notchperiod then 10000
  else if n = 0x301 then 0x80000000003411AF
  else if n = 0xF12 then 0x8000000000000A84
  else if n = 0xF13 then 0x100
  else if n = Csr.mstatus then 0xA00000000
  else if n = Csr.mideleg then 0x1444
  else if n = 0xC21 then 0x8000000000000000
  else 0

/-- A CSR's value as stored. -/
def Regs.get (r : Regs) (n : Nat) : Word := Tab.get r.csr (Csr.resetValue n) n
/-- A CSR set. -/
def Regs.put (r : Regs) (n : Nat) (v : Word) : Regs := { r with csr := Tab.put r.csr (Csr.resetValue n) n v }

def Core.csr (c : Core) (n : Nat) : Word := c.regs.get n
def Core.setCsr (c : Core) (n : Nat) (v : Word) : Core := { c with regs := c.regs.put n v }

/-- A bit of a CSR. -/
def Core.csrBit (c : Core) (n i : Nat) : Bool := (c.csr n).getLsbD i

/-- satp.MODE (R98). -/
def Core.satpMode (c : Core) : Nat := fld (c.csr Csr.satp) 63 60
/-- The hart is in hewn mode (R108). -/
def Core.hewn (c : Core) : Bool := c.satpMode == 14

/-- RCID and MCID of the hart: srmcfg (R51, R473). -/
def Core.rcid (c : Core) : Nat := fld (c.csr Csr.srmcfg) 5 0
def Core.mcid (c : Core) : Nat := fld (c.csr Csr.srmcfg) 23 16

/-- x[n]; x0 reads 0. -/
def Regs.readX (r : Regs) (n : Nat) : Word := if n = 0 then 0 else Tab.get r.x 0 n
/-- x[n] := v; a write of x0 is discarded. -/
def Regs.writeX (r : Regs) (n : Nat) (v : Word) : Regs := if n = 0 then r else { r with x := Tab.put r.x 0 n v }

/-- A vector register with one element of `size` bytes set. -/
def setElem (old : BitVec 256) (size elem v : Nat) : BitVec 256 :=
  let lo := 8 * size * elem
  let m := (2 ^ (8 * size) - 1) * 2 ^ lo
  (old &&& ~~~ BitVec.ofNat 256 m) ||| (BitVec.ofNat 256 ((v % 2 ^ (8 * size)) * 2 ^ lo))

/-- FS or VS becomes Dirty, in mstatus and of a guest in vsstatus (the privileged architecture, R51). -/
def Regs.dirty (r : Regs) (hi lo : Nat) : Regs :=
  let r := r.put Csr.mstatus (setFld (r.get Csr.mstatus) hi lo 3)
  if r.virt then r.put Csr.vsstatus (setFld (r.get Csr.vsstatus) hi lo 3) else r

/-- Loaded data written to its destination (R52, R82): `v` holds `size` bytes. -/
def Regs.deliver (r : Regs) (d : Dest) (sext : Bool) (size v : Nat) : Regs :=
  match d with
  | .none => r
  | .x rd => r.writeX rd (extend sext (min size 8) v)
  | .f rd =>
    -- a narrower value is NaN-boxed (the privileged and unprivileged architecture, R51)
    let w : Word := BitVec.ofNat 64 (v % 2 ^ (8 * size) + (if size < 8 then 2 ^ 64 - 2 ^ (8 * size) else 0))
    { r with f := Tab.put r.f 0 rd w }.dirty 14 13
  | .v vd elem _ =>
    -- the register of the group that holds the element
    let n := (vd.val + elem / (32 / max 1 size)) % 32
    { r with v := Tab.put r.v 0 n (setElem (Tab.get r.v 0 n) size (elem % (32 / max 1 size)) v) }.dirty 10 9

end Sys2Proof.Machine

namespace Sys2Proof

/-! ## Parameters of Plumb commands -/

/-- Byte i of the parameters. -/
def CmdPkt.byte (p : CmdPkt) (i : Nat) : Nat := (p.params.getD i 0).toNat
/-- The n bytes from offset i, little-endian (R5). -/
def CmdPkt.le (p : CmdPkt) (i n : Nat) : Nat := Machine.ofBytes ((p.params.drop i).take n)
/-- The bytes of the parameters at the offsets listed are zero (rsvd, R322). -/
def CmdPkt.zero (p : CmdPkt) (l : List Nat) : Bool := l.all (fun i => p.byte i == 0)

/-- The command's header bytes with CRC taken as zero (R318, R319). -/
def CmdPkt.header (p : CmdPkt) (op : Byte) : List Byte :=
  Machine.bytesOf 16 (op.toNat + b2n p.notify * 2 ^ 8 + p.rsvdA.toNat * 2 ^ 9 + p.tag.toNat * 2 ^ 16 + p.rsvdB.toNat * 2 ^ 24
    + p.len.toNat * 2 ^ 32 + p.rsvdC.toNat * 2 ^ 45 + p.seq.toNat * 2 ^ 64 + p.rsvdD.toNat * 2 ^ 112)

/-- The CRC passes (R319, R321). -/
def CmdPkt.crcOk (p : CmdPkt) (op : Byte) : Bool := Machine.crc16 (p.header op ++ p.params.take p.len.toNat) == p.crc.toNat

end Sys2Proof
end

