-- ==== Sys2Proof/Machine/Domains.lean ====
section
/-! DEFINITION. Memory channels as ranks and banks, and the power domains that follow votes (R50, R221, R225, R228, R230 to R233,
R374, R375). -/

namespace Sys2Proof

/-- The module that stands for the channel's modules: the first (R217). -/
def TrainRes.mod (r : TrainRes) : Module := r.mods.headD {}
/-- Its DIMMs, as MCH_INFO.DPC counts them. -/
def TrainRes.dpc (r : TrainRes) : Nat := r.mods.length
/-- The channel holds MRDIMMs. -/
def TrainRes.mr (r : TrainRes) : Bool := r.mod.kind == .mrdimm
/-- Capacity of the channel in GiB. -/
def TrainRes.gib (r : TrainRes) : Nat := (r.mods.map (·.gib)).sum
/-- MCH_INFO.DENSITY (R246). -/
def TrainRes.density (r : TrainRes) : Nat :=
  match r.mod.density with
  | 24 => 1
  | 32 => 2
  | 64 => 3
  | _ => 0
/-- MCH_INFO.TYPE (R246). -/
def TrainRes.type (r : TrainRes) : Nat :=
  match r.mod.kind with
  | .rdimm => 1
  | .mrdimm => 2
  | .other => 0
/-- Manufacturer and serial number of each module, by slot (R235). -/
def TrainRes.serials (r : TrainRes) : List Nat := r.mods.map (·.serial)

end Sys2Proof

namespace Sys2Proof.Machine

/-- nr of a channel: DIMMs x package ranks x stack height, doubled for an MRDIMM (R221). -/
def Chan.nr (c : Chan) : Nat := max 1 (c.res.mod.ranks * c.res.mod.stack * c.res.dpc * (if c.res.mr then 2 else 1))
/-- The DIMM of logical rank ρ: its bits select the pseudo-channel of an MRDIMM, the DIMM, the package rank and the stacked die,
from the least significant upward (R221). -/
def Chan.dimmOf (c : Chan) (rho : Nat) : Nat := (if c.res.mr then rho / 2 else rho) % max 1 c.res.dpc
/-- The package rank and the stacked die of logical rank ρ on its DIMM (R221). -/
def Chan.packageRank (c : Chan) (rho : Nat) : Nat :=
  (if c.res.mr then rho / 2 else rho) / max 1 c.res.dpc % max 1 c.res.mod.ranks
def Chan.dieOf (c : Chan) (rho : Nat) : Nat :=
  (if c.res.mr then rho / 2 else rho) / max 1 c.res.dpc / max 1 c.res.mod.ranks
/-- Serial number of the module that carries logical rank ρ (R240). -/
def Chan.serialOf (c : Chan) (rho : Nat) : Nat := c.res.serials.getD (c.dimmOf rho) 0

/-! ### Ranks and banks (R221, R225, R228, R230, R231) -/

def Chan.rank (c : Chan) (r : Nat) : Rank := Tab.get c.ranks {} r
def Chan.setRank (c : Chan) (r : Nat) (v : Rank) : Chan := { c with ranks := Tab.put c.ranks {} r v }
def Chan.bank (c : Chan) (k : Nat) : Bank := Tab.get c.banks {} k
def Chan.setBank (c : Chan) (k : Nat) (v : Bank) : Chan := { c with banks := Tab.put c.banks {} k v }

/-- A bank is closed; a row selected at its ACT is sampled with the precharge. -/
def Bank.close (b : Bank) : Bank :=
  { b with row := none, sel := false, sample := if b.sel then b.row else b.sample }

/-- The banks for which p holds changed by f. -/
def Chan.mapBanks (c : Chan) (p : Nat → Bool) (f : Bank → Bank) : Chan :=
  { c with banks := (c.banks.map (fun (e : Nat × Bank) => if p e.1 then (e.1, f e.2) else e)).filter (fun e => e.2 != ({} : Bank)) }

/-- All banks of a rank closed. -/
def Chan.closeRank (c : Chan) (r : Nat) : Chan := c.mapBanks (· / 64 == r) Bank.close

/-- A refresh issued: the bank index of REFsb in each group, or every bank, is closed and its count falls (R228,
R231). -/
def Chan.refreshNow (c : Chan) (r : Nat) : Chan :=
  let k := c.rank r
  (c.mapBanks (fun e => e / 64 == r && (c.refresh.getLsbD 0 || e % 4 == k.refs % 4))
    (fun b => { b.close with raa := b.raa - c.res.raadec })).setRank r { k with refs := k.refs + 1 }

/-- k refreshes issued. -/
def Chan.refreshes (c : Chan) (r k : Nat) : Chan :=
  match k with
  | 0 => c
  | n + 1 => Chan.refreshes (c.refreshNow r) r n

/-- Refreshes postponed beyond POSTPONE are issued (R228). -/
def Chan.overdue (c : Chan) : Chan :=
  let top := fld c.refresh 7 4
  (Tab.keys c.ranks).foldl (fun c r =>
    let n := (c.rank r).postponed
    if n ≤ top then c else (c.setRank r { c.rank r with postponed := top }).refreshes r (n - top)) c

/-- Lines of the channel's pass of the patrol (R242). -/
def Chan.lines (c : Chan) : Nat := c.res.gib * 2 ^ 24

/-- The logical rank of a local line (R221). -/
def Chan.rankOf (c : Chan) (x : Nat) : Nat := (dramOf c.nr x).rank
/-- The key of the bank of a local line: rank x 64 + subchannel x 32 + bank group x 4 + bank. -/
def Chan.bankKey (c : Chan) (x : Nat) : Nat :=
  let b := dramOf c.nr x
  b.rank * 64 + b.sub * 32 + b.bg * 4 + b.bank
/-- The queues name the lines of the edge store beside the controller after its local lines (R220). -/
def Chan.edge (c : Chan) (x : Nat) : Bool := decide (c.lines ≤ x)
/-- A request brings its rank out of self-refresh, from where its refresh schedule restarts, and out of power-down; an edge line has
no rank (R220, R232, R233). -/
def Chan.wakeRank (c : Chan) (x : Nat) : Chan :=
  let r := c.rankOf x
  let k := c.rank r
  if c.edge x then c
  else if k.sr then c.setRank r { k with sr := false, pd := false, postponed := 0, pulled := 0 }
  else c.setRank r { k with pd := false }

/-! ## Domains (R374, R375, R50) -/

/-- DOM_STATE.STATE of domain d (R356, R374). -/
def State.domStateOf (s : State) (d : Nat) : Nat :=
  if 2 ≤ d ∧ d < 14 then
    (if Tab.get s.power.domState 0 d = 4 then 4 else if (s.stud (d - 2)).domDeep then 2
     else if (s.stud (d - 2)).domSleep then 1 else 0)
  else Tab.get s.power.domState 0 d
/-- The state and the rail of a domain set. -/
def State.setDom (s : State) (d st mv : Nat) : State :=
  { s with power := { s.power with domState := Tab.put s.power.domState 0 d st, domVolt := Tab.put s.power.domVolt 0 d mv } }

/-- The rail of a domain that is ON (R374). -/
def domRail (d : Nat) : Nat := if d < 26 then 750 else if d < 28 then 800 else 850

/-- An access of the arrays of bay h wakes them from RETAIN (R384). -/
def State.wakeArray (s : State) (h : Nat) : State :=
  if h < 12 ∧ Tab.get s.power.domState 0 (14 + h) = 5 then
    { s with power := { s.power with domState := Tab.put s.power.domState 0 (14 + h) 0, domVolt := Tab.put s.power.domVolt 0 (14 + h) 750 } }
  else s

/-- The channels of a memory domain, and the ports of a SerDes domain. -/
def chansOfDom (d : Nat) : List Nat := if d = 26 then List.range 8 else if d = 27 then (List.range 8).map (8 + ·) else []
def portsOfDom (d : Nat) : List Nat := if d = 28 then List.range 4 else if d = 29 then (List.range 4).map (4 + ·) else []

/-- A channel as its domain wakes: its waiting reads go on, and their ranks leave self-refresh (R233, R375). -/
def Chan.domUp (c : Chan) : Chan :=
  let c' := c.rq.foldl (fun k e => k.wakeRank e.x) c
  { c' with rq := c.rq.map (fun e => { e with wait_ := false }) }
/-- A channel as its domain goes to LOW: every rank in self-refresh (R332). -/
def Chan.domDown (c : Chan) : Chan :=
  if c.st ≠ 2 then c
  else (List.range c.nr).foldl (fun c r => (c.closeRank r).setRank r { c.rank r with sr := true, pd := false }) c

/-- A shared domain leaves LOW. -/
def State.domOn (s : State) (d : Nat) : State :=
  if s.domStateOf d ≠ 3 then s
  else (chansOfDom d).foldl (fun s c => s.setChan c (s.chan c).domUp) (s.setDom d 0 (domRail d))

/-- A link in flit mode (R287). -/
def Root.flitMode (r : Root) : Bool := r.up && r.flit

/-- The latency in ns above which L1.2 is worth entering: LTR_L1.2_THRESHOLD of L1 PM Substates Control 1 at 0x208. -/
def ltrThreshold (w : Word) : Nat := fld w 25 16 * 32 ^ fld w 31 29

/-- A link may enter a power state (R310): ASPM L1 of Link Control at 0x50 and the substate bits at 0x208 allow it, and for L1.2 the latency
tolerance reaches the threshold; L0p in flit mode only, not below x1. The registers are PCI Express's (PRESUMED, log entry 10). -/
def powerAllows (cfg : Map Word) (flit : Bool) (width : Nat) (ltr : Option Nat) (t : LinkPower) : Bool :=
  let l1 := (Tab.get cfg 0 0x50).getLsbD 1
  let sub := Tab.get cfg 0 0x208
  match t with
  | .l0 => true
  | .l0pHalf => flit && decide (2 ≤ width)
  | .l0pQuarter => flit && decide (4 ≤ width)
  | .l1 => l1
  | .l11 => l1 && sub.getLsbD 3
  | .l12 => l1 && sub.getLsbD 2 && ltr.all (fun n => decide (ltrThreshold sub ≤ n))

/-- The deepest power state a link may enter. -/
def deepestPower (cfg : Map Word) (flit : Bool) (width : Nat) (ltr : Option Nat) : LinkPower :=
  (([.l12, .l11, .l1, .l0pQuarter, .l0pHalf] : List LinkPower).find? (powerAllows cfg flit width ltr)).getD .l0

/-- LINK of PORT_PCIE_STATUS for a power state (R311). -/
def linkCode : LinkPower → Nat
  | .l0 => 2
  | .l0pHalf | .l0pQuarter => 3
  | .l1 => 4
  | .l11 => 5
  | .l12 => 6

/-- A port's links in their deepest idle state (R310, R332). -/
def Port.idleDown (p : Port) : Port :=
  { p with roots := p.roots.map (fun e =>
             (e.1, if e.2.up then { e.2 with power := deepestPower e.2.cfg e.2.flit e.2.width e.2.ltr } else e.2)),
           dt := if 2 ≤ p.dt.link then { p.dt with link := linkCode (deepestPower p.dt.cfg_ p.dt.flit p.dt.width p.dt.ltr) } else p.dt }

/-- A shared domain goes to LOW. -/
def State.domLow (s : State) (d : Nat) : State :=
  let s := (chansOfDom d).foldl (fun s c => s.setChan c (s.chan c).domDown) (s.setDom d 3 (domRail d))
  (portsOfDom d).foldl (fun s p => s.setPort p (s.port p).idleDown) s

/-- The vote of frame f as R50 counts it: a frame that is halted or not booted counts as the deepest; one in its own
reset keeps its shared domains on (R444). A domain D26 to D29 that one frame owns whole is counted by the same rule, so that it goes to LOW when
that frame halts or is not booted (DESIGN CHOICE, log entry 39: R50 speaks of shared domains). -/
def State.voteOf (s : State) (d f : Nat) : Nat :=
  if (s.frame f).resetting then 0 else if !(s.frame f).booted ∨ (s.frame f).halted then 1 else Tab.get s.power.votes 0 (4 * d + f)

/-- A shared domain takes the shallowest state that is requested (R50, R375). -/
def State.countVotes (s : State) (d : Nat) : State :=
  let h := holdersOf s.mode d
  if h.all (fun f => s.voteOf d f != 0) then (if s.domStateOf d = 0 ∧ !s.power.woken.contains d then s.domLow d else s)
  else
    let s := { s with power := { s.power with woken := s.power.woken.filter (· != d) } }
    s.domOn d

/-- Every shared domain takes the result of its vote (R50). -/
def State.countAll (s : State) : State := [26, 27, 28, 29].foldl State.countVotes s

end Sys2Proof.Machine
end

