-- ==== Sys2Proof/Machine/Units.lean ====
section
/-! DEFINITION. Coherence messages as units: classes and opcodes (R160, R164), headers (R162) and the 16-byte units that
tenon and purlin links carry (R192, R251). -/

namespace Sys2Proof.Machine

/-- The opcode codes of a class (R164). -/
def opTable (cls : Nat) : List (Nat × MsgOp) :=
  match cls with
  | 0 => [(1, .rdS), (2, .rdU), (3, .upg), (4, .rdNc), (5, .wrNc), (6, .atomNc), (8, .wb), (9, .cboClean), (10, .cboFlush),
          (11, .cboInval), (12, .cboZero), (13, .wbKeep), (16, .lockFill)]
  | 1 => [(1, .snpFwdS), (2, .snpFwdU), (3, .snpInv), (4, .snpClean), (5, .snpFlush), (6, .snpDrop)]
  | 2 => [(1, .rspInvAck), (2, .rspFwdDone), (3, .rspCleanDone), (4, .rspNotHeld), (5, .wbCancel), (0x10, .goU), (0x11, .goDone),
          (0x12, .wbPull), (0x13, .wbStale), (0x14, .wrPull), (0x15, .err), (0x20, .compAck)]
  | 3 => [(1, .dataS), (2, .dataF), (3, .dataE), (4, .dataM), (8, .snpData), (9, .wbData), (10, .ncRData), (11, .ncWData)]
  | 4 => [(1, .msiWrite), (2, .mgmt), (3, .domainDown)]
  | _ => []

/-- CLASS of a message (R160, R164). -/
def clsOf : MsgOp → Nat
  | .rdS | .rdU | .upg | .rdNc | .wrNc | .atomNc | .wb | .cboClean | .cboFlush | .cboInval | .cboZero | .wbKeep | .lockFill => 0
  | .snpFwdS | .snpFwdU | .snpInv | .snpClean | .snpFlush | .snpDrop => 1
  | .rspInvAck | .rspFwdDone | .rspCleanDone | .rspNotHeld | .wbCancel | .goU | .goDone | .wbPull | .wbStale | .wrPull
  | .err | .compAck => 2
  | .dataS | .dataF | .dataE | .dataM | .snpData | .wbData | .ncRData | .ncWData => 3
  | .msiWrite | .mgmt | .domainDown => 4

/-- CLASS and OPCODE of a message (R164). -/
def opCode (op : MsgOp) : Nat × Nat := (clsOf op, (((opTable (clsOf op)).find? (fun e => e.2 == op)).map (·.1)).getD 0)

/-- The opcode of a header unit, if R164 lists it. -/
def unitOp (u : BitVec 128) : Option MsgOp :=
  ((opTable (bits u.toNat 2 0)).find? (fun e => e.1 == bits u.toNat 8 3)).map (·.2)

/-- The units of a message (R192). -/
def unitCount (u : BitVec 128) : Nat :=
  match bits u.toNat 2 0 with
  | 3 => if bits u.toNat 8 3 = 11 then 6 else 5
  | 4 => 2
  | _ => 1

/-- The header of R162 in a unit. -/
def unitHdr (u : BitVec 128) : Hdr :=
  let n := u.toNat
  { src := bits n 14 9, dst := bits n 20 15, srcPkg := bits n 23 21, dstPkg := bits n 26 24, tag := bits n 38 27,
    reqAgent := bits n 44 39, reqPkg := bits n 47 45, htx := bits n 57 48, line := bits n 107 58, rcid := bits n 113 108,
    mcid := bits n 121 114, poison := bitOf n 122, dirty := bitOf n 123, kept := bitOf n 124, go := bitOf n 125,
    nonalloc := bitOf n 126 }

/-- The header unit of a message (R162). -/
def hdrUnit (op : MsgOp) (h : Hdr) : BitVec 128 :=
  let c := opCode op
  BitVec.ofNat 128 (c.1 + c.2 * 2 ^ 3 + h.src * 2 ^ 9 + h.dst * 2 ^ 15 + h.srcPkg * 2 ^ 21 + h.dstPkg * 2 ^ 24 + h.tag * 2 ^ 27 +
    h.reqAgent * 2 ^ 39 + h.reqPkg * 2 ^ 45 + h.htx * 2 ^ 48 + h.line * 2 ^ 58 + h.rcid * 2 ^ 108 + h.mcid * 2 ^ 114 +
    b2n h.poison * 2 ^ 122 + b2n h.dirty * 2 ^ 123 + b2n h.kept * 2 ^ 124 + b2n h.go * 2 ^ 125 + b2n h.nonalloc * 2 ^ 126)

/-- The units of a message (R192, R251). -/
def msgUnits (m : Msg) : List (BitVec 128) :=
  let u := hdrUnit m.op m.hdr
  let body := (List.range 4).map (fun i => BitVec.ofNat 128 (m.data.toNat / 2 ^ (128 * i)))
  match unitCount u with
  | 6 => u :: body ++ [BitVec.ofNat 128 m.mask.toNat]
  | 5 => u :: body
  | 2 => [u, BitVec.ofNat 128 m.data.toNat]
  | _ => [u]

/-- Units as one number, lowest first. -/
def unitsNat : List (BitVec 128) → Nat
  | [] => 0
  | u :: r => u.toNat + 2 ^ 128 * unitsNat r

/-- The message that whole units spell. -/
def unitMsg (op : MsgOp) (u : BitVec 128) (rest : List (BitVec 128)) : Msg :=
  let body := unitsNat (rest.take 4)
  { op := op, hdr := unitHdr u, data := BitVec.ofNat 512 body,
    mask := if op = .ncWData then BitVec.ofNat 64 ((rest.getD 4 0).toNat % 2 ^ 64) else 0 }

/-- Two messages name the same transaction and event: what an arrival takes from those in flight. -/
def sameMsg (m k : Msg) : Bool :=
  m.op == k.op && m.hdr.line == k.hdr.line && m.hdr.src == k.hdr.src && m.hdr.dst == k.hdr.dst &&
    m.hdr.tag == k.hdr.tag && m.hdr.reqAgent == k.hdr.reqAgent && m.hdr.srcPkg == k.hdr.srcPkg &&
    m.hdr.reqPkg == k.hdr.reqPkg && m.hdr.htx == k.hdr.htx

end Sys2Proof.Machine
end

