-- ==== Sys2Proof/Machine/Fabric.lean ====
section
/-! DEFINITION. The sill fabric: the way of a message between stops (R11 to R14), the grants of a stop (R15), and the
fences between frames (R17). A fabric cycle passes when a message's arrival or departure asks for it (log entry 32). -/

namespace Sys2Proof.Machine

/-! ## Where a message goes (R11 to R14, R18) -/

/-- The package ID in a message of this package: 0 in a Solo mode (R162). -/
def State.ownPkg (s : State) : Nat := if joinedMode s.mode then s.plumb.pkgId else 0

/-- The frame that holds a stop (R12, R16). -/
def State.frameOfStop (s : State) (x : Nat × Nat) : Nat :=
  frameOfQuad s.mode ((if x.1 < 3 then 0 else 2) + (if x.2 < 2 then 0 else 1))

/-- The frame an agent of this package belongs to (R163). -/
def State.frameOfAgent (s : State) (a : Nat) : Nat :=
  if a < 12 then s.frameOfStud a else if a < 28 then s.frameOfStud (a - 16)
  else if a < 40 then s.frameOfPort (a - 32) else frameOfQuad s.mode (a - 48)

/-- The message starts at a stud of this package. -/
def State.fromStud (s : State) (m : Msg) : Bool := m.inP.isNone && m.hdr.srcPkg == s.ownPkg && decide (m.hdr.src < 12)
/-- The message ends at a stud of this package. -/
def State.toStud (s : State) (m : Msg) : Bool := m.outP.isNone && m.hdr.dstPkg == s.ownPkg && decide (m.hdr.dst < 12)

/-- The stop a message enters the fabric at, and the one it leaves it at. -/
def srcStopOf (m : Msg) : Nat × Nat := match m.inP with | some p => portStop p | none => agentStop m.hdr.src
def dstStopOf (m : Msg) : Nat × Nat := match m.outP with | some p => portStop p | none => agentStop m.hdr.dst

/-- The index of a stop (R13). -/
def stopNo (x : Nat × Nat) : Nat := 6 * x.2 + x.1

/-- The plane a message travels on (R13): planes 1 to 3 for data, by its source stop; plane 0 for the other classes, each
on the virtual channel of its class. -/
def planeOf (m : Msg) : Nat := if clsOf m.op = 3 then 1 + stopNo (srcStopOf m) % 3 else 0

/-- The message travels on Plumb's management ring (R18, R166): whatever a bridge sends, and what is sent to it (DESIGN CHOICE, log
entry 7: R12 puts the bridge at a stop too, and no rule says which way an answer takes). -/
def onRing (m : Msg) : Bool := decide (48 ≤ m.hdr.src) || decide (48 ≤ m.hdr.dst)

/-- There is a route from one end of a message to the other: none leads to a stop of another frame (R17), and Plumb reaches a
frame's memory through the bridge of its lowest-numbered quadrant only (R18). -/
def State.routed (s : State) (m : Msg) : Bool :=
  if 48 ≤ m.hdr.src then m.hdr.src == 48 + bridgeOf s.mode (s.frameOfAgent m.hdr.dst)
  else if 48 ≤ m.hdr.dst then m.hdr.dst == 48 + bridgeOf s.mode (s.frameOfAgent m.hdr.src)
  else s.frameOfStop (srcStopOf m) == s.frameOfStop (dstStopOf m)

/-- Where a message stands once the fabric has it: ejected at once at its own stop or from the ring, else at the local
input of its stop (R15). -/
def entered (m : Msg) : Msg :=
  { m with loc := if onRing m || srcStopOf m == dstStopOf m then .end_ else .mesh (stopNo (srcStopOf m)) 0 }

/-- A message as it is sent: a stud's has its tenon link to cross first (R11); of a parked link the sill end answers (R209). -/
def State.sent (s : State) (m : Msg) : Msg := if s.fromStud m ∧ (s.tenon m.hdr.src).st ≠ 3 then { m with loc := .src } else entered m

/-- A message that has come to its destination stop leaves the fabric: over its purlin port, if the link is still up, or for its
agent. -/
def State.eject (s : State) (m : Msg) : State :=
  match m.outP with
  | some p =>
    let k := s.port p
    if k.purlin.st = 3 ∧ k.purlin.after = none then s.setPort p { k with purlin := { k.purlin with outQ := k.purlin.outQ ++ [m] } } else s
  | none => { s with net := s.net ++ [m] }

/-- A message put where it now stands, behind those that stand there. -/
def State.putMsg (s : State) (m : Msg) : State := if m.loc = .end_ then s.eject m else { s with net := s.net ++ [m] }

/-! ## The mesh (R14, R15) -/

/-- The output a message asks for at a stop: 0 local, 1 north, 2 east, 3 south, 4 west; first along x, then along y
(R14). -/
def outputAt (stop : Nat) (dst : Nat × Nat) : Nat :=
  let x := stop % 6
  let y := stop / 6
  if x < dst.1 then 2 else if dst.1 < x then 4 else if y < dst.2 then 3 else if dst.2 < y then 1 else 0

/-- The stop and input that an output of a stop leads to. -/
def nextStop (stop out : Nat) : Nat × Nat :=
  match out with
  | 1 => (stop - 6, 3)
  | 2 => (stop + 1, 4)
  | 3 => (stop + 6, 1)
  | _ => (stop - 1, 2)

/-- What a message at a stop asks for: stop, input, output, plane and virtual channel. -/
structure Ask where
  stop : Nat
  inp : Nat
  out : Nat
  plane : Nat
  vc : Nat
deriving DecidableEq, Repr

/-- The key of the pointer kept for an output, plane and virtual channel of a stop (R15). -/
def Ask.key (a : Ask) : Nat := ((a.stop * 5 + a.out) * 4 + a.plane) * 5 + a.vc
/-- The queue a message stands in: one for each input, plane and virtual channel. -/
def Ask.queue (a : Ask) : Nat × Nat × Nat × Nat := (a.stop, a.inp, a.plane, a.vc)

def askOf (m : Msg) : Option Ask :=
  match m.loc with
  | .mesh st i => some { stop := st, inp := i, out := outputAt st (dstStopOf m), plane := planeOf m, vc := clsOf m.op }
  | _ => none

/-- The first message of each queue presents its request. -/
def heads (seen : List (Nat × Nat × Nat × Nat)) : List Msg → List (Msg × Ask)
  | [] => []
  | m :: r => match askOf m with
    | some a => if seen.contains a.queue then heads seen r else (m, a) :: heads (a.queue :: seen) r
    | none => heads seen r

/-- The input granted: the first requesting one at or after the pointer, in the order local, north, east, south, west. -/
def granted (ptr : Nat) (inputs : List Nat) : Option Nat := ((List.range 5).map (fun j => (ptr + j) % 5)).find? inputs.contains

/-- Messages that a queue of a stop holds: its credits for one input, plane and virtual channel (R160; DESIGN CHOICE, log entry 32: no
rule gives the number). -/
def sillDepth : Nat := 8

/-- The queue a message would enter next has a credit left: there are none to ask for on the way out of the fabric (R160, R161). -/
def State.hopCredit (s : State) (a : Ask) : Bool :=
  let n := nextStop a.stop a.out
  a.out == 0 || decide ((s.net.filter (fun m => (askOf m).elim false (fun b => b.queue == (n.1, n.2, a.plane, a.vc)))).length < sillDepth)

/-- A message granted goes on: to the input of the next stop, or out of the fabric. -/
def State.hop (s : State) (m : Msg) (a : Ask) : State :=
  let s := { s with net := s.net.erase m }
  if a.out = 0 then s.eject { m with loc := .end_ }
  else let n := nextStop a.stop a.out; { s with net := s.net ++ [{ m with loc := .mesh n.1 n.2 }] }

/-- One fabric cycle (R15). The pointer of an output moves past the input granted when two or more asked for it. -/
def State.meshCycle (s : State) : State :=
  let asks := (heads [] s.net).filter (fun e => s.hopCredit e.2)
  asks.foldl (fun t e =>
    let rivals := (asks.filter (fun x => x.2.key == e.2.key)).map (fun x => x.2.inp)
    if granted (Tab.get s.arb 0 e.2.key) rivals = some e.2.inp then
      let t := t.hop e.1 e.2
      if 2 ≤ rivals.length then { t with arb := Tab.put t.arb 0 e.2.key ((e.2.inp + 1) % 5) } else t
    else t) s

/-- Fabric cycles until no message that P holds of is in the mesh, at most n. -/
def State.meshRun (s : State) (P : Msg → Bool) (n : Nat) : State :=
  match n with
  | 0 => s
  | k + 1 => if s.net.any (fun m => (askOf m).isSome && P m) then State.meshRun s.meshCycle P k else s

/-- Cycles after which every message is out of the mesh: in each, some message goes on, and no way is longer than 9 hops. -/
def State.cycles (s : State) : Nat := 9 * s.net.length

/-- The messages that P holds of leave the mesh. -/
def State.deliver (s : State) (P : Msg → Bool) : State := s.meshRun P s.cycles

end Sys2Proof.Machine
end

