-- ==== Sys2Proof/Machine/Rs.lean ====
section
/-! DEFINITION. Reed-Solomon codes over GF(2^m), which ridge links (R263) and DRAM lines (R238) use. -/

namespace Sys2Proof.Machine

/-- The product of two elements of GF(2^m); `poly` is the field's polynomial with its top bit. -/
def gfMul (m poly a b : Nat) : Nat :=
  (List.range m).foldl (fun acc i =>
    let acc := 2 * acc
    let acc := if acc.testBit m then acc ^^^ poly else acc
    if b.testBit (m - 1 - i) then acc ^^^ a else acc) 0

/-- The generator with roots a^first to a^(first + n - 1), a the element 2: its coefficients, the highest first. -/
def rsGen (m poly first n : Nat) : List Nat :=
  let alpha (k : Nat) : Nat := (List.range k).foldl (fun x _ => gfMul m poly x 2) 1
  (List.range n).foldl (fun g i => List.zipWith (· ^^^ ·) (g ++ [0]) (0 :: g.map (gfMul m poly (alpha (first + i))))) [1]

/-- The check symbols of a message, the highest first: the remainder of message times x^n by the generator. -/
def rsParity (m poly : Nat) (gen msg : List Nat) : List Nat :=
  msg.foldl (fun r d =>
    let fb := d ^^^ r.headD 0
    List.zipWith (· ^^^ ·) (r.drop 1 ++ [0]) (gen.tail.map (gfMul m poly fb))) (gen.tail.map (fun _ => 0))

end Sys2Proof.Machine
end

