-- ==== Sys2Proof/Machine/PurlinTx.lean ====
section
/-! DEFINITION. What a purlin link sends: messages under their credits, packed into flits, and its retry buffer (R250 to R252);
DOMAIN_DOWN (R185). -/

namespace Sys2Proof.Machine

/-- Receive buffer units of a class (R251). -/
def purlinBuf (cls : Nat) : Nat := [768, 768, 512, 3072, 128].getD cls 0

/-- Credit left for a class. -/
def Purlin.credit (l : Purlin) (cls : Nat) : Nat :=
  purlinBuf cls - (Tab.get l.sentU 0 cls + 4096 - Tab.get l.farFreed 0 cls) % 4096

/-- Messages begun while units of one flit are missing and there is credit; the first message of each class in turn. -/
def Purlin.fill (l : Purlin) (n : Nat) : Purlin :=
  match n with
  | 0 => l
  | k + 1 =>
    if 15 ≤ l.outUnits.length then l
    else
      let cls (m : Msg) : Nat := (opCode m.op).1
      match l.outQ.find? (fun m => decide ((msgUnits m).length ≤ l.credit (cls m)) &&
          ((l.outQ.find? (fun q => cls q == cls m)) == some m)) with
      | none => l
      | some m =>
        let c := cls m
        let u := msgUnits m
        Purlin.fill { l with outQ := l.outQ.erase m, outUnits := l.outUnits ++ u,
                             sentU := Tab.put l.sentU 0 c ((Tab.get l.sentU 0 c + u.length) % 4096) } k

/-! ## Flits on the wire (R249, R250) -/

/-- The check bytes of one interleave of RS(68,64) over the field of R238, generator ∏(x - αⁱ) for i = 0 to 3; byte 0 is the highest
coefficient (log entry 8). -/
def rsCheck (l : List Byte) : List Nat := rsParity 8 0x11D (rsGen 8 0x11D 0 4) (l.map (·.toNat))

/-- The 272 bytes of a flit: header, units 0 to 14, CRC-64 over both, and the check bytes of the four interleaves (R249). -/
def flitBytes (header : Nat) (units : List (BitVec 128)) : List Byte :=
  let body := bytesOf 8 header ++ (List.range 15).flatMap (fun i => bytesOf 16 (units.getD i 0).toNat)
  let data := body ++ bytesOf 8 (crc64 body)
  let check := (List.range 4).map (fun i => rsCheck ((List.range 64).map (fun j => data.getD (4 * j + i) 0)))
  data ++ (List.range 4).flatMap (fun c => (List.range 4).map (fun i => BitVec.ofNat 8 ((check.getD i []).getD c 0)))

/-- The header of a flit sent now (R250). -/
def Purlin.header (l : Purlin) (seq kind : Nat) : Nat :=
  seq + (l.rxSeq + 1023) % 1024 * 2 ^ 10 + b2n l.nakOut * 2 ^ 20 + kind * 2 ^ 21 + l.crNext * 2 ^ 23 +
    Tab.get l.freed 0 l.crNext * 2 ^ 26

/-- A flit put on the wire; the next one returns the credit of the next class. A NAK stands in one header (R252). -/
def Purlin.put (l : Purlin) (seq kind : Nat) (units : List (BitVec 128)) : Purlin :=
  { l with wire := flitBytes (l.header seq kind) units, crNext := (l.crNext + 1) % 5, nakOut := false }

/-- A new flit: it takes the next SEQ and enters the retry buffer (R250, R252). -/
def Purlin.emit (l : Purlin) (kind : Nat) (units : List (BitVec 128)) : Purlin :=
  let r := l.retry ++ [(l.txSeq, kind, units)]
  ({ l with retry := r.drop (r.length - 512), txSeq := (l.txSeq + 1) % 1024 } : Purlin).put l.txSeq kind units

/-- Units that stay, after n of a list whose first `part` end a message, of the message the cut falls in. -/
def cutPart (n part : Nat) (l : List (BitVec 128)) : Nat :=
  (l.take n).foldl (fun left u => if 0 < left then left - 1 else unitCount u - 1) part

/-- The flit this end sends in one flit time: one of a replay (R252), or up to 15 units, or idle. -/
def Purlin.tick (l : Purlin) : Purlin :=
  match l.replayAt.bind (fun q => l.retry.find? (fun e => e.1 == q)) with
  | some (q, kind, units) =>
    let next := (q + 1) % 1024
    ({ l with replayAt := if next = l.txSeq then none else some next } : Purlin).put q kind units
  | none =>
    let l := ({ l with replayAt := none } : Purlin).fill 15
    let u := l.outUnits.take 15
    ({ l with outUnits := l.outUnits.drop 15, outPart := cutPart 15 l.outPart l.outUnits } : Purlin).emit (b2n u.isEmpty) u

/-- Flits sent until nothing waits that can go now: a replay under way, units begun, messages there is credit for; at most n. -/
def Purlin.flush (l : Purlin) : Nat → Purlin
  | 0 => l
  | n + 1 => if l.replayAt.isNone && (l.fill 1).outUnits.isEmpty then l else Purlin.flush l.tick n

/-- The link has nothing of its frame's domain left to send. -/
def Purlin.quiet (l : Purlin) : Bool := l.outQ.isEmpty && l.outUnits.isEmpty

/-- Held in reset, with REFUSE and ROLE (R35, R185): nothing is kept of the link. -/
def Purlin.holdNow (l : Purlin) (refuse role : Nat) : Purlin :=
  { l with st := 4, refuse := refuse, role := role, outQ := [], outUnits := [], outPart := 0, retry := [], replayAt := none, partUnits := [],
           after := none }

/-- Held in reset, once a DOMAIN_DOWN that waits for its flit or its credit has left (R185). -/
def Purlin.hold (l : Purlin) (refuse role : Nat) : Purlin :=
  if l.st = 3 ∧ !l.quiet then { l with after := some (refuse, role) } else l.holdNow refuse role

/-- A link whose DOMAIN_DOWN has left at last is held in reset. -/
def Purlin.settle (l : Purlin) : Purlin :=
  match l.after with
  | some (refuse, role) => let l := l.flush 2; if l.quiet then l.holdNow refuse role else l
  | none => l

/-- DOMAIN_DOWN of agent src of package own put on a link that is up, behind the rest of a message that is on the wire in part; nothing else
of the domain is sent any more (R185). -/
def Purlin.down (l : Purlin) (own src : Nat) : Purlin :=
  if l.st = 3 then
    let h : Hdr := { src := src, dst := 32 + l.far.port, srcPkg := own, dstPkg := l.far.pkg }
    ({ l with outQ := [{ op := .domainDown, hdr := h }], outUnits := l.outUnits.take l.outPart } : Purlin).flush (514 + l.outPart)
  else l

end Sys2Proof.Machine
end

