-- ==== Sys2Proof/Machine/Ops.lean ====
section
/-! DEFINITION. The named operations every family shares: bytes and lines of memory, free values, messages in flight,
time stamps, interrupt files, notices, Scribe records, error reports, fatal errors and traps. -/

namespace Sys2Proof.Machine

/-- What the meaning of a command answers. -/
abbrev Res := Host.Outcome State Fault Refusal

/-! ## Memory (log entry 4) -/

/-- The canonical form of memory: keys strictly rising, no byte equal to what an unlisted key reads as. -/
def Memory.wf (m : List Host.Cell) : Bool := Tab.rising m && m.all (fun c => c.2 != 0)

/-- The byte at key k; an unlisted key reads 0. -/
def Mem.get (m : List Host.Cell) (k : Nat) : Byte := Tab.get m 0 k
/-- The byte at key k set to b; the canonical form is kept. -/
def Mem.put (m : List Host.Cell) (k : Nat) (b : Byte) : List Host.Cell := Tab.put m 0 k b
/-- Bytes from key k upward. -/
def Mem.putList (m : List Host.Cell) (k : Nat) (l : List Byte) : List Host.Cell :=
  match l with
  | [] => m
  | b :: r => Mem.putList (Mem.put m k b) (k + 1) r
/-- The 64 bytes from key k as a line. -/
def Mem.getLine (m : List Host.Cell) (k : Nat) : Line := lineOf ((List.range 64).map (fun i => Mem.get m (k + i)))
/-- A whole line written at key k. -/
def Mem.putLine (m : List Host.Cell) (k : Nat) (l : Line) : List Host.Cell := Mem.putList m k (bytesOf 64 l.toNat)

/-- A number put into, or taken out of, a rising list. -/
def listAdd (l : List Nat) (n : Nat) : List Nat :=
  match l with
  | [] => [n]
  | x :: r => if n < x then n :: x :: r else if n = x then x :: r else x :: listAdd r n

/-- The line at a line key, with its poison mark (R238). -/
def State.memLine (s : State) (k : Nat) : Line × Bool := (Mem.getLine s.mem k, s.memPoison.contains k)
/-- A line stored at a line key with its mark (R238, R241). -/
def State.setMemLine (s : State) (k : Nat) (l : Line) (poison : Bool) : State :=
  { s with mem := Mem.putLine s.mem k l,
           memPoison := if poison then listAdd s.memPoison k else s.memPoison.filter (· != k),
           memFound := s.memFound.filter (· != k) }

/-! ## Free values (log entry 2) -/

/-- A fresh free value. -/
def State.take (s : State) : Word × State := (Config.freeValue s.free, { s with free := s.free + 1 })

/-! ## Messages in flight -/

/-- A message put in flight: a stud's has its tenon link to cross first (R11). One that no route leads to its end goes nowhere (R17; DESIGN
CHOICE, log entry 32: the rule does not say what becomes of it). -/
def State.send (s : State) (m : Msg) : State := if s.routed m then s.putMsg (s.sent m) else s

/-- The element at index i replaced. -/
def listSet {α : Type} (l : List α) (i : Nat) (v : α) : List α := l.set i v

/-! ## Time -/

/-- The frame's mtime (R79). -/
def State.mtimeOf (s : State) (f : Nat) : Word := s.mtime + (s.frame f).mtimeOff

/-- The Scribe timestamp (R422). -/
def State.stamp (s : State) : Word :=
  BitVec.ofNat 64 (s.scribe.bootNo % 65536 * 2 ^ 48 + (s.scribe.upTicks / 100) % 2 ^ 48)

/-! ## Routes between packages (R162, R254) -/

/-- The lowest set bit of a 3-bit number. -/
def lowBit (n : Nat) : Nat := if n % 2 = 1 then 1 else if n / 2 % 2 = 1 then 2 else 4
/-- The next package towards `dst` (R254). -/
def State.nextHop (s : State) (f dst : Nat) : Nat :=
  if (s.frame f).members.length = 8 then s.plumb.pkgId ^^^ lowBit (s.plumb.pkgId ^^^ dst) else dst
/-- The UP purlin ports of frame f that lead to package `pkg`, ascending. -/
def State.linkPorts (s : State) (f pkg : Nat) : List Nat :=
  (portsOf s.mode f).filter (fun p => (s.port p).pers == 4 && (s.port p).purlin.st == 3 && (s.port p).purlin.far.pkg == pkg)
/-- Which of n parallel links a line takes (R254). -/
def linkIndex (line n : Nat) : Nat := ((line % 256) ^^^ (line / 256 % 256)) % max n 1

/-- A message sent by frame f: over the sill, or on a purlin link towards its package (R254). -/
def State.route (s : State) (f : Nat) (m : Msg) : State :=
  if m.hdr.dstPkg = s.ownPkg then s.send m
  else
    let l := s.linkPorts f (s.nextHop f m.hdr.dstPkg)
    match l[linkIndex m.hdr.line l.length]? with
    | some p => s.send { m with outP := some p }
    | none => s

/-! ## Error reports (R402, R405, R408, R409, R417) -/

/-- One error event as its checker reports it. -/
structure ErrEv where
  cls : Nat
  src : Nat
  code : Nat
  inst : Nat
  sub : Nat := 0
  pa : Option Nat := none
  detail : Nat := 0
  /-- The frame that holds the resource; none for a package resource (R417). -/
  frame : Option Nat := none
  rpkg : Nat := 0
  injected : Bool := false
  /-- Kind, instance and bin of the record that counts it (R423). -/
  bin : Option (Nat × Nat × Nat) := none

/-- The key of a combination of log 0 (R409). -/
def cntKey (src code inst : Nat) : Nat := src * 2 ^ 24 + code * 2 ^ 16 + inst

/-- A line-log entry added; a full log drops its oldest (R408). -/
def State.logLine (s : State) (e : LogEnt) : State :=
  let sc := s.scribe
  let l := sc.log ++ [{ e with seq := sc.logSeq, stamp := s.stamp }]
  { s with scribe := { sc with log := if 1024 < l.length then l.drop 1 else l, logSeq := (sc.logSeq + 1) % 2 ^ 32 } }

/-- The line-log entry of an event (R408). -/
def State.logOf (s : State) (e : ErrEv) : LogEnt :=
  let f := e.frame.getD 0
  { cls := e.cls, src := e.src, code := e.code, inst := e.inst, sub := e.sub, detail := e.detail, rpkg := e.rpkg,
    flags := b2n e.injected + 2 * b2n e.pa.isSome + 4 * b2n ((s.frame f).joinSt == 2) + 16 * f,
    pa := e.pa.getD 0 }

/-! ## Interrupts (R69, R75, R80) -/

/-- The lowest pending and enabled identity of a file that its threshold admits: what its topei register shows (the AIA, R75). -/
def IFile.top (q : IFile) : Nat := (q.eip.find? (fun i => q.eie.contains i && (q.threshold == 0 || i < q.threshold))).getD 0

/-- The file signals an interrupt to its hart: eidelivery is 1. -/
def IFile.signals (q : IFile) : Bool := q.delivery && q.top != 0

def Core.file (c : Core) (k : Nat) : IFile := Tab.get c.imsic {} k
def Core.setFile (c : Core) (k : Nat) (q : IFile) : Core := { c with imsic := Tab.put c.imsic {} k q }

/-- menvcfg.STCE and henvcfg.STCE (R80). -/
def Core.stce (c : Core) : Bool := c.csrBit Csr.menvcfg 63
def Core.vstce (c : Core) : Bool := c.csrBit Csr.henvcfg 63 && c.stce

/-- mip at system time t of the hart's frame: stored bits with the levels the hardware drives (R75, R80). -/
def Core.mipAt (c : Core) (t : Word) : Word :=
  let m : Word := c.csr Csr.mip
  let set (w : Word) (i : Nat) (b : Bool) : Word := if b then w ||| (1 <<< i) else w
  let vg := fld (c.csr Csr.hstatus) 17 12
  let m := if c.stce then m &&& ~~~ (0x20 : Word) else m
  let m := set m 5 (c.stce && decide ((c.csr Csr.stimecmp).toNat ≤ t.toNat))
  let m := set m 6 (c.vstce && decide ((c.csr Csr.vstimecmp).toNat ≤ (t + c.csr Csr.htimedelta).toNat))
  let m := set m 7 (decide (c.mtimecmp.toNat ≤ t.toNat))
  let m := set m 11 (c.file 0).signals
  let m := set m 9 (c.file 1).signals
  let m := set m 10 (vg != 0 && (c.file (1 + vg)).signals)
  set m 12 ((List.range 7).any (fun g => (c.file (2 + g)).signals && c.csrBit Csr.hgeie (g + 1)))

/-! ## Virtual interrupts (the AIA, R51; log entry 9) -/

/-- mvip: bits 1 and 9 are mip's while mvien's are 0, and bit 5 is mip's while stimecmp does not drive it. -/
def Core.mvip (c : Core) : Word :=
  let v := c.csr Csr.mvip
  let m := c.csr Csr.mip
  let e := c.csr Csr.mvien
  ((v &&& e &&& 0x202) ||| (m &&& ~~~ e &&& 0x202) ||| (v &&& 0x2000) ||| (if c.stce then 0 else m &&& 0x20))

/-- Supervisor-level interrupts that come from mvip in place of mip: mvien is set and mideleg is not. -/
def Core.virtS (c : Core) : Word := c.csr Csr.mvien &&& ~~~ c.csr Csr.mideleg &&& 0x2202

/-- sip at a system time: mip's delegated bits, and mvip's where mvien gives them. -/
def Core.sipAt (c : Core) (t : Word) : Word :=
  (c.mipAt t &&& c.csr Csr.mideleg &&& 0x2222) ||| (c.mvip &&& c.virtS)
/-- sie: mie's delegated bits, and bits of its own where mvien gives them. -/
def Core.sie (c : Core) : Word := (c.csr Csr.mie &&& c.csr Csr.mideleg &&& 0x2222) ||| (c.csr Csr.sie &&& c.virtS)

/-- vsip at a system time, at its own bit places: the VS-level bits of hideleg, and bit 13 from sip, or from hvip where hvien gives it. -/
def Core.vsipAt (c : Core) (t : Word) : Word :=
  let d := c.csr Csr.hideleg
  ((c.mipAt t &&& d &&& 0x444) >>> 1) ||| (c.sipAt t &&& d &&& 0x2000) |||
    (c.csr 0x645 &&& ~~~ d &&& c.csr Csr.hvien &&& 0x2000)
/-- vsie, at its own bit places. -/
def Core.vsie (c : Core) : Word :=
  let d := c.csr Csr.hideleg
  ((c.csr Csr.mie &&& d &&& 0x444) >>> 1) ||| (c.sie &&& d &&& 0x2000) ||| (c.csr Csr.vsie &&& ~~~ d &&& c.csr Csr.hvien &&& 0x2000)

/-- An interrupt is pending that is enabled in mie, or in the virtual-supervisor enables (R68, R69). -/
def Core.wakes (c : Core) (t : Word) : Bool :=
  let m := c.mipAt t
  (m &&& c.csr Csr.mie) != 0 || (c.vsipAt t &&& c.vsie) != 0

def State.coreTime (s : State) (c : Nat) : Word := s.mtimeOf (s.frameOfCore c)

/-- A wake event has reached core c: it stands until WAKE_EVENT serves it (R378). -/
def State.noteWake (s : State) (c : Nat) : State :=
  let k := s.core c
  if k.run = .run ∨ k.run = .stopped ∨ k.run = .held then s
  else if k.wakes (s.coreTime c) then s.setCore c { k with wake := true } else s

/-- An identity written to interrupt file `file` of core c (R75). A write to the machine-level file of a held hart
also asks for its release (R440). -/
def State.imsicPut (s : State) (c file id : Nat) : State :=
  let k := s.core c
  let q := k.file file
  let k := if 1 ≤ id ∧ id ≤ 2047 then k.setFile file { q with eip := listAdd q.eip id } else k
  let k := if k.run = .held ∧ file = 0 then { k with wake := true } else k
  (s.setCore c k).noteWake c

/-- A message that the sill end holds for a parked stud: the first 16, and then in the buffer of the stop; it wakes
the stud (R209). -/
def State.holdMsg (s : State) (n c : Nat) (m : Msg) : State :=
  let st := s.stud n
  let st := if st.msgHeld.length < 16 then { st with msgHeld := st.msgHeld ++ [m] } else { st with msgWait := st.msgWait ++ [m] }
  (s.setStud n st).setCore c { s.core c with wake := true }

/-- PA[55:6] of the page of an interrupt file (R76): file 0 machine, 1 supervisor, 1 + g guest; and the hart index and file of a page. -/
def msiLine (h file : Nat) : Nat :=
  (controlBase + (if file = 0 then 0x40000000 + h * 0x1000 else 0x80000000 + h * 0x8000 + (file - 1) * 0x1000)) / 64
def msiFile (line : Nat) : Nat × Nat :=
  let o := line * 64 - controlBase
  if o < 0x80000000 then ((o - 0x40000000) / 0x1000, 0) else ((o - 0x80000000) / 0x8000, 1 + o % 0x8000 / 0x1000)

/-- MSI_WRITE from an agent to a file of hart index h in a package (R76, R164, R192). -/
def State.msiMsg (s : State) (src dst dstPkg h file id : Nat) : Msg :=
  { op := .msiWrite, data := BitVec.ofNat 512 id,
    hdr := { src := src, dst := dst, srcPkg := s.ownPkg, dstPkg := dstPkg, reqAgent := src, reqPkg := s.ownPkg, line := msiLine h file } }

/-- A hart index with no hart in the domain: dropped and logged (R76). -/
def State.noHart (s : State) (f h : Nat) : State :=
  s.logLine (s.logOf { cls := 3, src := 13, code := 0x30, inst := f, sub := h % 4096, frame := some f })

/-- MSI_WRITE on its way to core c: it crosses the fabric and the stud's tenon link, whose sill end holds it while the link is parked (R209). -/
def State.msiOn (s : State) (c : Nat) (m : Msg) : State :=
  if (s.tenon (c / 32)).st = 3 then s.holdMsg (c / 32) c m else s.send m

/-- MSI_WRITE reaches its stud (R76). -/
def State.msiArrive (s : State) (m : Msg) : State :=
  let f := s.frameOfStud m.hdr.dst
  let (h, file) := msiFile m.hdr.line
  match s.coreOfHart f h with
  | some c => s.imsicPut c file (m.data.toNat % 2 ^ 11)
  | none => s.noHart f h

/-- An MSI to the files of hart index h of frame f (R76): file 0 machine, 1 supervisor, 1 + g guest. From an agent it goes there as an
MSI_WRITE of class MSG (R164, R183), but to a hart of the sender's own stud, which it need not leave; without one it stands at the file, or at
the sill end of a parked link (R209). One to a hart of another package of the joined domain travels over purlin. -/
def State.msiTo (s : State) (from' : Option Nat) (f h file id : Nat) : State :=
  let src := from'.getD (32 + 2 * bridgeOf s.mode f)
  match s.coreOfHart f h with
  | some c =>
    let m := s.msiMsg src (c / 32) s.ownPkg h file id
    if (from'.isNone ∧ (s.tenon (c / 32)).st ≠ 3) ∨ src = c / 32 then s.imsicPut c file id else s.msiOn c m
  | none =>
    let pkg := bits h 11 9
    let stud := (studsOf s.mode f).headD 0 + bits h 8 5
    if joinedMode s.mode ∧ (s.frame f).joinSt = 2 ∧ (s.frame f).members.contains pkg ∧ pkg ≠ s.plumb.pkgId ∧
        (studsOf s.mode f).contains stud then
      s.route f (s.msiMsg src stud pkg h file id)
    else s.noHart f h

/-! ## The APLIC (R77, R78) -/

/-- The kind of source n in frame f: 0 inactive, 1 edge, 2 level. -/
def State.srcKind (s : State) (f n : Nat) : Nat :=
  if n = 1 ∨ n = 2 then 1
  else if n = 3 then b2n (frameOfQuad s.mode 0 == f)
  else if 8 ≤ n ∧ n < 40 then
    (if s.frameOfPort ((n - 8) / 4) = f ∧ (s.port ((n - 8) / 4)).pers = 1 then 2 else 0)
  else if 40 ≤ n ∧ n < 48 then (if s.frameOfPort (n - 40) = f then 1 else 0)
  else 0

/-- The domain a source belongs to: 1024 for the supervisor-level child, to which the root delegates it, else 0. -/
def Aplic.dom (a : Aplic) (n : Nat) : Nat := if (Tab.get a.sourcecfg 0 n).getLsbD 10 then 1024 else 0
/-- The source mode in force. -/
def Aplic.sm (a : Aplic) (n : Nat) : Nat := fld (Tab.get a.sourcecfg 0 (a.dom n + n)) 2 0

/-- A pending and enabled source delivers its MSI (R77). -/
def State.aplicSend (s : State) (f n : Nat) : State :=
  let fr := s.frame f
  let a := fr.aplic
  let d := a.dom n
  let ie := if d = 0 then a.ie else a.ieS
  if ie && a.pending.contains n && a.enabled.contains n then
    let t := Tab.get a.target 0 (d + n)
    let file := if d = 0 then 0 else 1 + fld t 17 12
    let s := s.setFrame f { fr with aplic := { a with pending := a.pending.filter (· != n) } }
    s.msiTo (some (32 + 2 * bridgeOf s.mode f)) f (fld t 31 18) file (fld t 10 0)
  else s

/-- A rising edge on source n of frame f (R78). -/
def State.aplicEdge (s : State) (f n : Nat) : State :=
  let fr := s.frame f
  if s.srcKind f n ≠ 0 ∧ 4 ≤ fr.aplic.sm n then
    (s.setFrame f { fr with aplic := { fr.aplic with pending := listAdd fr.aplic.pending n } }).aplicSend f n
  else s

/-- A level source falls: a pending bit that only the level holds is cleared. -/
def State.aplicFall (s : State) (f n : Nat) : State :=
  let fr := s.frame f
  s.setFrame f { fr with aplic := { fr.aplic with pending := fr.aplic.pending.filter (· != n) } }

/-! ## Notices (R412 to R419) -/

/-- COUNT of a queue: ordinary notices and markers (R415). -/
def NQueue.count (q : NQueue) : Nat := q.held.length + q.markers.length

/-- The priority of a notice (R416). -/
def noticePrio (n : Word) : Nat := fld n 55 54

/-- A notice reaches a queue (R413 to R415). -/
def NQueue.post (q : NQueue) (n : Word) : NQueue :=
  if q.stalled ≠ [] then { q with stalled := q.stalled.drop 1, popped := q.popped ++ [n] }
  else if q.held.length < 252 then { q with held := q.held ++ [(q.no, n)], no := q.no + 1 }
  else
    match Tab.find q.markers (noticePrio n) with
    | some (no, k) => { q with markers := Tab.set q.markers (noticePrio n) (no, min (k + 1) 0xFFFFFFFF) }
    | none => { q with markers := Tab.set q.markers (noticePrio n) (q.no, 1), no := q.no + 1 }

/-- The post takes COUNT from below the level to it or above (R415). -/
def NQueue.crosses (q : NQueue) (level : Nat) (n : Word) : Bool :=
  decide (q.count < level) && decide (level ≤ (q.post n).count)

/-- The marker of priority p as a notice (R414). -/
def markerNotice (p k : Nat) : Word := BitVec.ofNat 64 (0xFF * 2 ^ 56 + p * 2 ^ 54 + k)

/-- The first held notice of priority p. -/
def NQueue.firstOf (q : NQueue) (p : Nat) : Option (Nat × Word) := q.held.find? (fun e => noticePrio e.2 == p)

/-- The notice a pop takes at priority p, and the queue after it (R413). -/
def NQueue.popAt (q : NQueue) (p : Nat) : Option (Word × NQueue) :=
  match q.firstOf p, Tab.find q.markers p with
  | none, none => none
  | some e, none => some (e.2, { q with held := q.held.erase e })
  | none, some (_, k) => some (markerNotice p k, { q with markers := Tab.erase q.markers p })
  | some e, some (no, k) =>
    if e.1 < no then some (e.2, { q with held := q.held.erase e })
    else some (markerNotice p k, { q with markers := Tab.erase q.markers p })

/-- The notice of the lowest priority number held, and the queue without it (R413). -/
def NQueue.take (q : NQueue) : Option (Word × NQueue) :=
  match q.popAt 0, q.popAt 1, q.popAt 2, q.popAt 3 with
  | some r, _, _, _ => some r
  | none, some r, _, _ => some r
  | none, none, some r, _ => some r
  | none, none, none, r => r

/-- A pop by a reader: a held notice, or a stall of an empty queue (R413, R415). -/
def NQueue.pop (q : NQueue) (who : NqReader) : NQueue :=
  match q.take with
  | some r => { r.2 with popped := r.2.popped ++ [r.1] }
  | none => { q with stalled := q.stalled ++ [who] }

/-- A notice word (R416). -/
def notice (type prio src hi data : Nat) : Word :=
  BitVec.ofNat 64 (type * 2 ^ 56 + prio * 2 ^ 54 + src * 2 ^ 48 + hi % 65536 * 2 ^ 32 + data % 2 ^ 32)

/-- A frame that is booted (R45, R46). -/
def State.isBooted (s : State) (f : Nat) : Bool := (s.frame f).booted
def State.bootedFrames (s : State) : List Nat := (framesOf s.mode).filter s.isBooted

/-- A popped word delivered to the hart whose load stalled, if a hart's. -/
def State.deliverTo (s : State) (who : NqReader) (v : Word) : State :=
  match who.hart with
  | none => s
  | some (c, d) =>
    let k := s.core c
    s.setCore c { k with regs := k.regs.deliver d false 8 v.toNat, pipe := { k.pipe with stall := none } }

/-- A notice posted to the queue of frame f; a crossing raises APLIC source 1 (R415). -/
def State.postFrame (s : State) (f : Nat) (n : Word) : State :=
  let fr := s.frame f
  let s' := s.setFrame f { fr with nq := fr.nq.post n }
  let s' := match fr.nq.stalled with
    | [] => s'
    | w :: _ => s'.deliverTo w n
  if fr.nq.crosses fr.nqLevel n then s'.aplicEdge f 1 else s'

/-- Demand returns the function's link to full width and power (R310), or to L0p while the power-fail sequence limits it (R367). -/
def Dovetail.wake (d : Dovetail) : Dovetail := if d.link ≤ 2 then d else { d with link := if d.quarter && d.flit then 3 else 2 }

/-- MSI-X Enable and Function Mask of the function's MSI-X capability (R300; its place is the model's, log entry 10). -/
def Dovetail.msixOn (d : Dovetail) : Bool := (Tab.get d.cfg_ 0 0xB0).getLsbD 31
def Dovetail.msixMask (d : Dovetail) : Bool := (Tab.get d.cfg_ 0 0xB0).getLsbD 30

/-- An MSI-X vector of a dovetail function (R301, R308): a write to host memory, or its pending bit while it is masked or without Bus Master
Enable; none without MSI-X Enable. -/
def Dovetail.vector (d : Dovetail) (v : Nat) : Dovetail :=
  let w := Tab.get d.msix 0x100000000 (2 * v + 1)
  if !d.msixOn then d
  else if d.bme && !d.msixMask && !w.getLsbD 32 then
    { d.wake with sent := d.sent ++ [((Tab.get d.msix 0 (2 * v)).toNat, bytesOf 4 w.toNat)] }
  else { d with pba := d.pba ||| 2 ^ v }

/-- A notice posted to the queue of port p's function; a crossing signals vector 1 (R415). -/
def State.postPort (s : State) (p : Nat) (n : Word) : State :=
  let k := s.port p
  let d := { k.dt with nq := k.dt.nq.post n }
  s.setPort p { k with dt := if k.dt.nq.crosses k.dt.nqLevel n then d.vector 1 else d }

/-- The scope of port p's function covers frame f (R41). -/
def State.dtCovers (s : State) (p f : Nat) : Bool :=
  (s.port p).pers == 3 && ((s.port p).dt.rec_ || frameCount s.mode == 1 || s.frameOfPort p == f)

/-- A notice to frames, and once to each dovetail queue whose scope covers one of them (R302, R400). -/
def State.post (s : State) (frames : List Nat) (n : Word) : State :=
  let s := (frames.filter s.isBooted).foldl (fun s f => s.postFrame f n) s
  ((List.range 8).filter (fun p => frames.any (s.dtCovers p))).foldl (fun s p => s.postPort p n) s

/-- A notice to every booted frame. -/
def State.postAll (s : State) (n : Word) : State := s.post (framesOf s.mode) n

/-! ## Scribe records (R421, R423, R424) -/

def recKey (kind inst : Nat) : Nat := kind * 256 + inst

/-- The form of a record kind: 0 histogram, 1 extremes, 2 counters (R423). -/
def recForm (kind : Nat) : Nat :=
  if kind = 0x10 ∨ kind = 0x11 ∨ kind = 0x12 then 1 else if kind = 0x24 ∨ 0x40 ≤ kind then 2 else 0

/-- The bins of a record kind (R423). -/
def recBins (kind : Nat) : Nat :=
  match kind with
  | 0x01 => 64 | 0x02 => 64 | 0x03 => 29 | 0x10 => 8 | 0x11 => 8 | 0x12 => 12 | 0x13 => 201 | 0x20 => 336
  | 0x21 => 18 | 0x22 => 132 | 0x23 => 128 | 0x24 => 8 | 0x30 => 64 | 0x40 => 16 | 0x41 => 64 | 0x42 => 8
  | _ => 0

/-- The catalogue holds the record (R423). -/
def recExists (kind inst : Nat) : Bool :=
  match kind with
  | 0x01 => decide (inst < 12) || (decide (16 ≤ inst) && decide (inst < 20))
  | 0x02 => decide (inst < 12) || inst == 255
  | 0x03 | 0x22 | 0x23 | 0x30 | 0x21 => decide (inst < 12)
  | 0x10 => decide (inst < 30)
  | 0x20 => decide (inst < 16)
  | 0x24 => decide (inst < 12) || (decide (32 ≤ inst) && decide (inst < 40))
  | 0x11 | 0x12 | 0x13 | 0x40 | 0x41 | 0x42 => inst == 0
  | _ => false

/-- The frames that hold a record's resource: every frame for a package instance (R420). -/
def State.recFrames (s : State) (kind inst : Nat) : List Nat :=
  match kind with
  | 0x01 => if inst < 12 then [s.frameOfStud inst] else [frameOfQuad s.mode (inst - 16)]
  | 0x02 => if inst < 12 then [s.frameOfStud inst] else framesOf s.mode
  | 0x03 | 0x22 | 0x23 | 0x30 | 0x21 => [s.frameOfStud inst]
  | 0x10 => holdersOf s.mode inst
  | 0x20 => [frameOfChan s.mode inst]
  | 0x24 => if inst < 12 then [s.frameOfStud inst] else [s.frameOfPort (inst - 32)]
  | _ => framesOf s.mode

/-- What a cleared bin holds (R421). -/
def binCleared (kind k : Nat) : Int :=
  if recForm kind = 1 then (if k % 4 = 0 then 2 ^ 63 - 1 else if k % 4 = 2 then -2 ^ 63 else 0) else 0

def State.recOf (s : State) (kind inst : Nat) : Rec := Tab.get s.scribe.recs {} (recKey kind inst)
def State.setRec (s : State) (kind inst : Nat) (r : Rec) : State :=
  { s with scribe := { s.scribe with recs := Tab.set s.scribe.recs (recKey kind inst) r } }
/-- Bin k of a record. -/
def Rec.bin (r : Rec) (kind k : Nat) : Int := Tab.get r.bins (binCleared kind k) k

/-- k added to a histogram or counter bin: one sample (R421, R424). -/
def State.recAdd (s : State) (kind inst bin k : Nat) : State :=
  let r := s.recOf kind inst
  if s.scribe.frozen then s.setRec kind inst { r with missed := satAdd 64 r.missed 1 }
  else
    let old := r.bin kind bin
    let v : Int := min (2 ^ 64 - 1) (old + k)
    let sat := v = 2 ^ 64 - 1 ∧ old ≠ v
    let r := { r with bins := Tab.put r.bins (binCleared kind bin) bin v, samples := satAdd 64 r.samples 1,
                      upd := s.stamp, flags := if sat then r.flags ||| 1 else r.flags }
    let s := s.setRec kind inst r
    if sat then s.post (s.recFrames kind inst) (notice 0x50 3 11 (3 * 2 ^ 12) (kind * 2 ^ 24 + inst * 2 ^ 16)) else s

/-- One more event in a counter of PKG_EVENTS (R423). -/
def State.pkgEvent (s : State) (bin : Nat) : State := s.recAdd 0x40 0 bin 1
/-- One more event in a counter of CMD_EVENTS (R423). -/
def State.cmdEvent (s : State) (bin : Nat) : State := s.recAdd 0x42 0 bin 1

/-- A sample of quantity q of an extremes record (R421, R424). -/
def State.recExtreme (s : State) (kind inst q : Nat) (v : Int) : State :=
  let r := s.recOf kind inst
  if s.scribe.frozen then s.setRec kind inst { r with missed := satAdd 64 r.missed 1 }
  else
    let t : Int := s.stamp.toNat
    let b := r.bins
    let put (b : Map Int) (k : Nat) (x : Int) : Map Int := Tab.put b (binCleared kind k) k x
    let b := if v < r.bin kind (4 * q) then put (put b (4 * q) v) (4 * q + 1) t else b
    let b := if r.bin kind (4 * q + 2) < v then put (put b (4 * q + 2) v) (4 * q + 3) t else b
    s.setRec kind inst { r with bins := b, samples := satAdd 64 r.samples 1, upd := s.stamp }

/-- A record cleared (R424): its bins at their cleared values, SAMPLES and MISSED_FROZEN zero, the clear timestamp set. -/
def Rec.clear (r : Rec) (s : State) : Rec := { r with bins := [], samples := 0, missed := 0, clr := s.stamp }

/-- A flush trigger (R425): a fatal error (1) or PWRFAIL_N (2) ends a freeze first. A trigger during a flush starts a
second one when the first ends; it keeps the cause of its first trigger (log entry 26). -/
def State.startFlush (s : State) (cause : Nat) : State :=
  let sc := s.scribe
  let sc := if cause = 1 ∨ cause = 2 then { sc with frozen := false } else sc
  match sc.flushing with
  | none => ({ s with scribe := { sc with flushing := some cause } } : State).pkgEvent 11
  | some _ => { s with scribe := { sc with again := some (sc.again.getD cause) } }

/-! ## Error reports: classes, counts and notices (R402, R405, R417) -/

/-- The notice of an error class: type 0x10 to 0x14 with its priority (R402, R417). -/
def errNotice (cls src inst code f data : Nat) : Word :=
  notice (0x10 + cls) ([3, 2, 2, 1, 0].getD cls 3) src (inst % 256 * 256 + code) (f * 2 ^ 30 + data)

/-- One event counted, logged and noticed (R405). A FATAL event's notice is posted by `State.fatal` (R406). -/
def State.report (s : State) (e : ErrEv) : State :=
  let key := cntKey e.src e.code e.inst
  let c := Tab.get s.scribe.counts {} key
  let c := { c with n := listSet c.n e.cls (satAdd 32 (c.n.getD e.cls 0) 1), stamp := s.stamp }
  let due := e.cls == 0 && (!c.told || decide (c.noticed + 100000000 ≤ s.mtime.toNat))
  let since := c.since + 1
  let c := if e.cls ≠ 0 then c
    else if due then { c with told := true, noticed := s.mtime.toNat, since := 0 } else { c with since := since }
  let s := { s with scribe := { s.scribe with counts := Tab.set s.scribe.counts key c } }
  let s := match e.bin with
    | some (k, i, b) => s.recAdd k i b 1
    | none => s
  if e.cls = 0 ∧ !due then s
  else
    let seq := s.scribe.logSeq
    let s := s.logLine (s.logOf e)
    let data := if e.cls = 0 then min since (2 ^ 30 - 1) else seq % 2 ^ 30
    if e.cls = 4 then s
    else match e.frame with
      | some f => s.post [f] (errNotice e.cls e.src e.inst e.code f data)
      | none => (framesOf s.mode).foldl (fun s f => s.post [f] (errNotice e.cls e.src e.inst e.code f data)) s

/-- A corrected or uncorrectable event of a bay structure 0x10 + j of bay b (R423, CE_BAY). -/
def bayEvent (s : State) (cls code b : Nat) (uncorr : Bool) (pa : Option Nat) (injected : Bool) : ErrEv :=
  { cls := cls, src := 4, code := code, inst := b, pa := pa, frame := some (s.frameOfStud b), injected := injected,
    bin := some (0x21, b, 2 * (code - 0x10) + b2n uncorr) }

/-- A message that names a reserved agent is logged; what receives it discards it (R163). -/
def State.reservedAgent (s : State) (m : Msg) : State :=
  s.report { cls := 3, src := 13, code := 0x30, inst := m.hdr.dst, sub := m.hdr.src * 64 + (opCode m.op).2,
             frame := some (if agentOk m.hdr.dst then s.frameOfAgent m.hdr.dst else 0) }

/-! ## Fatal errors (R184, R185, R406) -/

/-- A home that stops ordering and abandons its open transactions (R185). -/
def Home.stopOrdering (h : Home) : Home :=
  { h with stopped := true, txs := [], order := [], waitReq := [], dirQ := [], resv := [], bmrs := [], snpCred := [],
           cxlWait := [] }

/-- The frame of an owner of uncached accesses. -/
def State.ncFrame (s : State) : NcOwner → Nat
  | .fetch f | .reply f => f
  | .walk p | .queue p | .fence p | .record p | .msi p => s.frameOfPort p

/-- Uncached accesses of frame f that rings and IOMMUs have under way are abandoned. -/
def State.ncForget (s : State) (f : Nat) : State :=
  { s with ncOps := s.ncOps.filter (fun x => s.ncFrame x.owner != f), ncBuf := s.ncBuf.filter (fun x => s.ncFrame x.owner != f) }

/-- The homes of frame f: its bays and its ports (R156). -/
def State.homesOf (s : State) (f : Nat) : List Nat := studsOf s.mode f ++ (portsOf s.mode f).map (12 + ·)

/-- The cores of stud n. -/
def coresOf (n : Nat) : List Nat := (List.range 32).map (32 * n + ·)

/-- Bytes that completions still owe a request; one without data owes a completion all the same (R294). -/
def OutReq.owed (q : OutReq) : Nat := max 1 ((if q.op = 3 then 0 else q.len) - q.got.length)

/-- A root port contained (R293, R406): its outstanding requests end, their tags are quarantined. -/
def Root.contain (r : Root) : Root :=
  { r with dpc := true, up := false, quar := r.out.foldl (fun m e => Tab.set m e.1 e.2.owed) r.quar, out := [], intx := 0 }

/-- The ports of a halted frame (R406, step 4): nothing of the domain waits any more, DOMAIN_DOWN leaves on a
purlin link that is up, and the port is held in reset (R185). -/
def Port.haltContain (p : Port) (own n : Nat) : Port :=
  { p with
    roots := if p.pers = 1 ∨ p.pers = 2 then p.roots.map (fun e => (e.1, e.2.contain)) else p.roots,
    ridge := if p.pers = 5 then { p.ridge with quar := p.ridge.quar ++ Tab.keys p.ridge.out, out := [] } else p.ridge,
    purlin := if p.pers = 4 then let l := p.purlin.down own (32 + n); l.hold l.refuse l.role else p.purlin,
    inb := [], inbQ := [], ioQ := [] }

/-- A stud halted by a fatal error: every core's clock stops; a failed stud stays failed (R406, step 2). -/
def State.haltStud (s : State) (n : Nat) : State :=
  let st := s.stud n
  let s := s.setStud n { st with state := if st.state = 1 then 1 else 2 }
  (coresOf n).foldl (fun s c => s.setCore c { s.core c with run := .stopped }) s

/-- The sequence of R406 on frame f, from the detection of an event of structure `code`, instance `inst`. A frame
that is halted already takes no second one. -/
def State.fatal (s : State) (f : Nat) (e : ErrEv) : State :=
  if (s.frame f).halted then s
  else
    let s := (s.homesOf f).foldl (fun s h => s.setHome h (s.home h).stopOrdering) s
    let s := { s with net := s.net.filter (fun m => s.frameOfAgent m.hdr.dst != f && m.outP.all (fun p => s.frameOfPort p != f)) }
    let s := s.ncForget f
    let s := (studsOf s.mode f).foldl State.haltStud s
    let s := { s with pins := { s.pins with errorN := false } }
    let s := (portsOf s.mode f).foldl (fun s p => s.setPort p ((s.port p).haltContain s.ownPkg p)) s
    let seq := s.scribe.logSeq
    let s := s.report { e with cls := 4, frame := some f }
    let n := errNotice 4 e.src e.inst e.code f (seq % 2 ^ 30)
    let s := s.setFrame f { s.frame f with halted := true, fatal := some n }
    let s := ((framesOf s.mode).filter (fun g => g != f && s.isBooted g)).foldl (fun s g => s.postFrame g n) s
    let s := ((List.range 8).filter (fun p => s.dtCovers p f)).foldl (fun s p => s.postPort p n) s
    ((s.pkgEvent 5).startFlush 1).countAll

/-- An event fatal to the coherent domain of bay b, found by its home (R184). -/
def State.fatalBay (s : State) (b code : Nat) : State :=
  s.fatal (s.frameOfStud b) { cls := 4, src := 4, code := code, inst := b, bin := some (0x21, b, 2 * (code - 0x10) + 1) }

/-! ## Traps (the privileged architecture, R51, R55, R81; log entry 9) -/

/-- A trap about to be taken. -/
structure Trap where
  cause : Nat
  irq   : Bool := false
  tval  : Word := 0
  /-- The faulting guest PA of a guest-page fault (R101). -/
  gpa   : Nat := 0
  tinst : Nat := 0
  /-- A guest virtual address is in tval. -/
  gva   : Bool := false
  /-- The instruction that takes it; none for the one at the pc. -/
  pc    : Option Word := none
  /-- The element of a vector load that takes it (R82). -/
  elem  : Option Nat := none
  /-- The level an interrupt is taken at, as `trapTarget` numbers them; none where delegation decides. -/
  lvl   : Option Nat := none

/-- Where a trap is taken: 3 M-mode, 1 HS- or S-mode, 2 VS-mode (R81). -/
def Regs.trapTarget (r : Regs) (t : Trap) : Nat :=
  let d (m h : Nat) : Nat :=
    if r.priv = 3 ∨ !(r.get m).getLsbD t.cause then 3
    else if r.virt ∧ (r.get h).getLsbD t.cause ∧ !(!t.irq ∧ (t.cause = 24 ∨ t.cause = 25)) then 2 else 1
  t.lvl.getD (if t.irq then d Csr.mideleg Csr.hideleg else d Csr.medeleg Csr.hedeleg)

/-- The handler's address: vectored mode adds 4 x cause for interrupts. -/
def trapVector (tvec : Word) (irq : Bool) (cause : Nat) : Word :=
  let base : Word := tvec &&& ~~~ (3 : Word)
  if irq ∧ fld tvec 1 0 = 1 then base + BitVec.ofNat 64 (4 * cause) else base

def causeWord (irq : Bool) (cause : Nat) : Word := BitVec.ofNat 64 (b2n irq * 2 ^ 63 + cause)

/-- Taking an exception or interrupt: saved pc, cause and value, the status stack, the mode and the pc. -/
def Regs.takeTrap (r : Regs) (t : Trap) : Regs :=
  let gpa2 := BitVec.ofNat 64 (t.gpa / 4)
  match r.trapTarget t with
  | 3 =>
    let ms := r.get Csr.mstatus
    let ms := setFld (setFld (setFld ms 7 7 (fld ms 3 3)) 3 3 0) 12 11 r.priv
    let ms := setFld (setFld ms 39 39 (b2n r.virt)) 38 38 (b2n t.gva)
    let r := (((r.put Csr.mepc r.pc).put Csr.mcause (causeWord t.irq t.cause)).put Csr.mtval t.tval).put Csr.mstatus ms
    let r := (r.put Csr.mtval2 gpa2).put Csr.mtinst (BitVec.ofNat 64 t.tinst)
    { r with priv := 3, virt := false, pc := trapVector (r.get Csr.mtvec) t.irq t.cause }
  | 2 =>
    let ms := r.get Csr.vsstatus
    let ms := setFld (setFld (setFld ms 5 5 (fld ms 1 1)) 1 1 0) 8 8 (b2n (r.priv != 0))
    let r := (((r.put Csr.vsepc r.pc).put Csr.vscause (causeWord t.irq t.cause)).put Csr.vstval t.tval).put Csr.vsstatus ms
    { r with priv := 1, virt := true, pc := trapVector (r.get Csr.vstvec) t.irq t.cause }
  | _ =>
    let ms := r.get Csr.mstatus
    let ms := setFld (setFld (setFld ms 5 5 (fld ms 1 1)) 1 1 0) 8 8 (b2n (r.priv != 0))
    let hs := setFld (setFld (r.get Csr.hstatus) 7 7 (b2n r.virt)) 6 6 (b2n t.gva)
    let hs := if r.virt then setFld hs 8 8 (b2n (r.priv != 0)) else hs
    let r := (((r.put Csr.sepc r.pc).put Csr.scause (causeWord t.irq t.cause)).put Csr.stval t.tval).put Csr.mstatus ms
    let r := ((r.put Csr.hstatus hs).put Csr.htval gpa2).put Csr.htinst (BitVec.ofNat 64 t.tinst)
    { r with priv := 1, virt := false, pc := trapVector (r.get Csr.stvec) t.irq t.cause }

/-- A code-25 trap's record (R88): OVERRUN only, while VALID is 1. -/
def Regs.poisonInfo (r : Regs) (target : Nat) (p : PoisonRec) : Regs :=
  let n := if target = 3 then Csr.mpoisoninfo else Csr.spoisoninfo
  let w := r.get n
  if w.getLsbD 0 then r.put n (setFld w 56 56 1)
  else r.put n (BitVec.ofNat 64 (fld w 56 56 * 2 ^ 56 + p.pa / 64 % 2 ^ 50 * 2 ^ 6 + p.src * 8 + p.kind * 2 + 1))

/-- A walk trap's record (R107): none for a trap taken in VS-mode. -/
def Regs.walkInfo (r : Regs) (target ptePa reason level stage : Nat) : Regs :=
  if target = 2 then r
  else
    let n := if target = 3 then Csr.mwalkinfo else Csr.swalkinfo
    let w := r.get n
    if w.getLsbD 0 then r.put n (setFld w 10 10 1)
    else r.put n (BitVec.ofNat 64 (ptePa / 8 % 2 ^ 53 * 2 ^ 11 + fld w 10 10 * 2 ^ 10 + reason * 64 + level * 8 +
      stage * 2 + 1))

end Sys2Proof.Machine
end

