-- ==== Sys2Proof/Machine/Translate.lean ====
section
/-! DEFINITION. Translation structures and walks: TLB lookup, fill and removal (R89 to R92, R114 to R117), the checks
of a PTE (R98 to R101, R104, R112), the paging-structure cache, and the progress of one walk from PTE to PTE. -/

namespace Sys2Proof.Machine

/-! ## Pages and entries -/

/-- log2 of the bytes of a size class (R90, R111). -/
def sizeBits (sz : Nat) : Nat := [12, 16, 21, 30, 39, 48].getD sz 12
/-- Pages of 4 KiB in a size class. -/
def sizePages (sz : Nat) : Nat := 2 ^ (sizeBits sz - 12)
/-- The size class of a leaf at a level; a NAPOT leaf at level 0 is 64 KiB (R51). -/
def sizeOfLevel (lv : Nat) (napot : Bool) : Nat := if lv = 0 then b2n napot else lv + 1
/-- VA[56:12]. -/
def vpnOf (va : Word) : Nat := fld va 56 12
/-- The L2 TLB set of a page of a size class (R90). -/
def tlbSet (vpn sz : Nat) : Nat := vpn / sizePages sz % 256

/-- The address is sign-extended for a mode: 8, 9, 10 for 39, 48, 57 bits; 14 for hewn mode's 57 (R104, R108). -/
def canonical (mode : Nat) (va : Word) : Bool :=
  let b := if mode = 8 then 39 else if mode = 9 then 48 else 57
  let t := va.toNat / 2 ^ (b - 1)
  t == 0 || t == 2 ^ (65 - b) - 1

/-- An entry covers a page. -/
def TlbEnt.covers (e : TlbEnt) (vpn : Nat) : Bool := decide (e.vpn ≤ vpn) && decide (vpn < e.vpn + sizePages e.size)
/-- Two entries cover a common page. -/
def TlbEnt.overlaps (e d : TlbEnt) : Bool :=
  decide (e.vpn < d.vpn + sizePages d.size) && decide (d.vpn < e.vpn + sizePages e.size)
/-- PA of an address under an entry. -/
def TlbEnt.paOf (e : TlbEnt) (vpn off : Nat) : Nat := (e.ppn + (vpn - e.vpn)) * 4096 + off

/-- PTE fields. -/
def pteV (w : Word) : Bool := w.getLsbD 0
def pteR (w : Word) : Bool := w.getLsbD 1
def pteW (w : Word) : Bool := w.getLsbD 2
def pteX (w : Word) : Bool := w.getLsbD 3
def pteU (w : Word) : Bool := w.getLsbD 4
def pteG (w : Word) : Bool := w.getLsbD 5
def pteA (w : Word) : Bool := w.getLsbD 6
def pteD (w : Word) : Bool := w.getLsbD 7
def ptePpn (w : Word) : Nat := fld w 53 10
def ptePbmt (w : Word) : Nat := fld w 62 61
def pteN (w : Word) : Bool := w.getLsbD 63
def pteLeaf (w : Word) : Bool := pteR w || pteW w || pteX w

/-- R, W and X of a leaf allow the access, with MXR (R104, R112). -/
def rwxOk (w : Word) (acc : AccType) (mxr : Bool) : Bool :=
  match acc with
  | .load => pteR w || (mxr && pteX w)
  | .store => pteW w
  | .fetch => pteX w
  | .hlvx => pteX w
/-- U of a leaf allows the access, with SUM. -/
def userOk (w : Word) (acc : AccType) (ctx : Ctx) : Bool :=
  if ctx.priv = 0 then pteU w else !pteU w || (ctx.sum && acc != .fetch)
/-- The permission checks of a single-stage, VS-stage or HEWN leaf. -/
def leafOk (w : Word) (acc : AccType) (ctx : Ctx) : Bool :=
  rwxOk w acc (ctx.mxr || (ctx.virt && ctx.vmxr)) && userOk w acc ctx
/-- The permission checks of a G-stage leaf: U must be set (R104). -/
def gLeafOk (w : Word) (acc : AccType) (ctx : Ctx) : Bool := rwxOk w acc ctx.mxr && pteU w
/-- A, and D for a store, are set. -/
def adOk (w : Word) (acc : AccType) : Bool := pteA w && (acc != .store || pteD w)

/-! ## Lookup (R90, R91) -/

/-- What a lookup of one page answers. -/
inductive Xres where
  /-- PA and memory type: 0 PMA, 1 NC, 2 IO. -/
  | ok (pa pbmt : Nat)
  /-- No entry: a walk is needed. -/
  | miss
  /-- A hewn miss (R109). -/
  | hewnMiss
  /-- A fault at once: trap cause, reason and stage (R104, R108, R112). -/
  | fault (cause reason stage : Nat)
deriving DecidableEq, Repr

/-- The kind that applies to an access; none for Bare (R91). -/
def Core.xkind (k : Core) (ctx : Ctx) : Option TlbKind :=
  if ctx.virt then
    (if fld (k.csr Csr.vsatp) 63 60 = 0 ∧ fld (k.csr Csr.hgatp) 63 60 = 0 then none else some .guest)
  else if ctx.priv = 3 then none
  else match k.satpMode with
    | 0 => none
    | 14 => some .hewn
    | _ => some .std

/-- ASID and VMID an access is tagged with (R91). -/
def Core.xasid (k : Core) (virt : Bool) : Nat := fld (k.csr (if virt then Csr.vsatp else Csr.satp)) 59 44
def Core.xvmid (k : Core) : Nat := fld (k.csr Csr.hgatp) 57 44

/-- An entry's kind and tags match an access. -/
def TlbEnt.hits (e : TlbEnt) (kind : TlbKind) (vpn asid vmid : Nat) : Bool :=
  e.kind == kind && e.covers vpn && (kind == .gstage || e.g || e.asid == asid)
    && (!(kind == .guest || kind == .gstage) || e.vmid == vmid)

/-- The smallest page among matching entries. -/
def smallest (l : List (Nat × TlbEnt)) : Option (Nat × TlbEnt) :=
  l.foldl (fun b e => match b with | none => some e | some x => if e.2.size < x.2.size then some e else b) none

/-- Lookup in an L1 TLB. -/
def tlbFind (t : Map TlbEnt) (p : TlbEnt → Bool) : Option (Nat × TlbEnt) := smallest (t.filter (fun e => p e.2))

/-- The occupancy vector of the L2 TLB: a size class holds a valid entry (R90). -/
def tlbOccupied (t : Map TlbEnt) (sz : Nat) : Bool := t.any (fun e => e.2.size == sz)

/-- One pair of probes of the L2 TLB: the occupied classes of two; of a double hit the smaller page (R90). -/
def tlbPair (t : Map TlbEnt) (p : TlbEnt → Bool) (a b : Nat) : Option (Nat × TlbEnt) :=
  if tlbOccupied t a || tlbOccupied t b then smallest (t.filter (fun e => (e.2.size == a || e.2.size == b) && p e.2)) else none

/-- Lookup in the L2 TLB: three pairs of size classes, to the first hit (R90). -/
def tlbProbe (t : Map TlbEnt) (p : TlbEnt → Bool) : Option (Nat × TlbEnt) :=
  match tlbPair t p 0 2 with
  | some e => some e
  | none =>
    match tlbPair t p 1 3 with
    | some e => some e
    | none => tlbPair t p 4 5

/-- The translation an entry gives is usable for an access: a STD or GUEST entry that does not grant it is walked
again (R91, R104). -/
def TlbEnt.grants (e : TlbEnt) (acc : AccType) (ctx : Ctx) : Bool :=
  match e.kind with
  | .std => leafOk e.pte acc ctx && adOk e.pte acc
  | .guest => (e.pte == 0 || (leafOk e.pte acc ctx && adOk e.pte acc)) &&
      (e.gpte == 0 || (gLeafOk e.gpte acc ctx && adOk e.gpte acc))
  | _ => true

/-- Memory type of an entry: the VS-stage's, else the G-stage's. -/
def TlbEnt.pbmt (e : TlbEnt) : Nat := if ptePbmt e.pte ≠ 0 then ptePbmt e.pte else ptePbmt e.gpte

/-- Page fault causes by access type (R104). -/
def pageFault : AccType → Nat
  | .fetch => 12 | .store => 15 | _ => 13
def accessFault : AccType → Nat
  | .fetch => 1 | .store => 7 | _ => 5
def guestFault : AccType → Nat
  | .fetch => 20 | .store => 23 | _ => 21

/-- The page number that an access looks up: under VS-stage Bare the whole guest PA's (R91). -/
def Core.pageOf (k : Core) (va : Word) (ctx : Ctx) : Nat :=
  if ctx.virt ∧ fld (k.csr Csr.vsatp) 63 60 = 0 then va.toNat / 4096 else vpnOf va

/-- The test of an entry for an access (R91). -/
def Core.tlbMatch (k : Core) (va : Word) (ctx : Ctx) (kind : TlbKind) (e : TlbEnt) : Bool :=
  e.hits kind (k.pageOf va ctx) (k.xasid ctx.virt) k.xvmid

/-- The L1 TLB of the side (R89). -/
def Core.l1Tlb (k : Core) (acc : AccType) : Map TlbEnt := if acc = .fetch then k.xlat.itlb else k.xlat.dtlb

/-- The address is one that a lookup of its kind can match: sign-extended for its mode (R104, R108). -/
def Core.vaOk (k : Core) (va : Word) (kind : TlbKind) : Bool :=
  match kind with
  | .hewn => canonical 14 va
  | .std => canonical k.satpMode va
  | _ => fld (k.csr Csr.vsatp) 63 60 == 0 || canonical (fld (k.csr Csr.vsatp) 63 60) va

/-- Lookup of one page: the L1 TLB of the side, then the L2 TLB (R89, R91, R108, R112). -/
def Core.lookup (k : Core) (va : Word) (acc : AccType) (ctx : Ctx) : Xres :=
  match k.xkind ctx with
  | none => .ok va.toNat 0
  | some kind =>
    let vpn := k.pageOf va ctx
    let hit := match tlbFind (k.l1Tlb acc) (k.tlbMatch va ctx kind) with
      | some e => some e
      | none => tlbProbe k.xlat.l2tlb (k.tlbMatch va ctx kind)
    if kind = .hewn then
      if !k.vaOk va kind then .fault (pageFault acc) 1 3
      else match hit with
        | none => .hewnMiss
        | some (_, e) =>
          if leafOk e.pte acc ctx && (acc != .store || pteD e.pte) then .ok (e.paOf vpn (va.toNat % 4096)) e.pbmt
          else .fault (pageFault acc) 2 3
    else if !k.vaOk va kind then .miss
    else match hit with
      | none => .miss
      | some (_, e) => if e.grants acc ctx then .ok (e.paOf vpn (va.toNat % 4096)) e.pbmt else .miss

/-! ## Fill and removal -/

/-- The free entry, or a victim chosen by a free number, of a fully associative structure of n entries. -/
def slotOf {α : Type} (t : Map α) (n free : Nat) : Nat := (Tab.freeKey t 0 n).getD (free % n)

/-- An entry written to an L1 TLB (pseudo-LRU, R89: the victim of a full structure is a free value, log entry 2). -/
def l1Fill (t : Map TlbEnt) (free : Nat) (e : TlbEnt) : Map TlbEnt :=
  let t := t.filter (fun d => !(d.2.kind == e.kind && d.2.vpn == e.vpn && d.2.size == e.size && d.2.asid == e.asid &&
    d.2.vmid == e.vmid))
  Tab.set t (slotOf t 64 free) e

/-- Ways of a set that may be replaced: not wired, invalid ways first, then not recently used ones (R89, R115). -/
def tlbWays (t : Map TlbEnt) (set : Nat) : List Nat :=
  let ways := (List.range 12).map (set * 12 + ·)
  let inv := ways.filter (fun i => (Tab.find t i).isNone)
  let open_ := ways.filter (fun i => (Tab.find t i).elim false (fun e => !e.wired))
  let nru := open_.filter (fun i => (Tab.find t i).elim false (fun e => !e.ref))
  if inv ≠ [] then inv else if nru ≠ [] then nru else open_

/-- The way a fill of a set takes; which of several is a free value (log entry 2). -/
def tlbWay (t : Map TlbEnt) (set free : Nat) : Option Nat :=
  let l := tlbWays t set
  if l = [] then none else some (l.getD (free % l.length) 0)

/-- The way i of the L2 TLB has been used: its bit is set, and where every way of the set that is not wired then has its bit set,
those of the others are cleared (R89). -/
def l2Touch (t : Map TlbEnt) (i : Nat) : Map TlbEnt :=
  let t := t.map (fun d => if d.1 = i then (d.1, { d.2 with ref := true }) else d)
  let set := i / 12
  let full := (List.range 12).all (fun w => (Tab.find t (set * 12 + w)).elim false (fun d => d.ref || d.wired))
  if full then t.map (fun d => if d.1 / 12 = set ∧ d.1 ≠ i then (d.1, { d.2 with ref := false }) else d) else t

/-- An entry written to the L2 TLB, after equal-tagged ones are removed. -/
def l2Fill (t : Map TlbEnt) (free : Nat) (e : TlbEnt) : Map TlbEnt × Option Nat :=
  let t := t.filter (fun d => d.2.wired || !(d.2.kind == e.kind && d.2.vpn == e.vpn && d.2.size == e.size &&
    d.2.asid == e.asid && d.2.vmid == e.vmid))
  match tlbWay t (tlbSet e.vpn e.size) free with
  | none => (t, none)
  | some i => (l2Touch (Tab.set t i e) i, some i)

/-- A lookup has used an entry: one of the L2 TLB refills the L1 TLB of the side that missed (R89, R120). -/
def State.refill (s : State) (c : Nat) (va : Word) (acc : AccType) (ctx : Ctx) : State :=
  let k := s.core c
  match k.xkind ctx with
  | none => s
  | some kind =>
    match tlbFind (k.l1Tlb acc) (k.tlbMatch va ctx kind),
        (if k.vaOk va kind then tlbProbe k.xlat.l2tlb (k.tlbMatch va ctx kind) else none) with
    | none, some (i, e) =>
      let (v, s) := s.take
      let x := { k.xlat with l2tlb := l2Touch k.xlat.l2tlb i }
      s.setCore c { k with xlat := if acc = .fetch then { x with itlb := l1Fill x.itlb v.toNat e }
                                   else { x with dtlb := l1Fill x.dtlb v.toNat e } }
    | _, _ => s

/-- Entries that fail a test removed from both L1 TLBs and the L2 TLB. -/
def Xlat.keep (x : Xlat) (p : TlbEnt → Bool) : Xlat :=
  { x with itlb := x.itlb.filter (fun e => p e.2), dtlb := x.dtlb.filter (fun e => p e.2),
           l2tlb := x.l2tlb.filter (fun e => p e.2) }
def Xlat.keepPsc (x : Xlat) (p : PscEnt → Bool) : Xlat := { x with psc := x.psc.filter (fun e => p e.2) }

/-- A fence's rs1 and rs2 select an entry: no address or a covered one, no ASID or its own and not global (the
privileged architecture, R116). A GUEST entry filled under VS-stage Bare has the whole page number of its guest PA (R91). -/
def fenceHits (va : Option Word) (asid : Option Nat) (e : TlbEnt) : Bool :=
  va.elim true (fun a => e.covers (if e.kind == .guest && e.pte == 0 then a.toNat / 4096 else vpnOf a)) && asid.elim true (fun a => !e.g && e.asid == a)

/-- Steps 3 and 4 of R116 for the single stage: STD and unwired HEWN entries, and the paging-structure entries. -/
def Xlat.fenceVma (x : Xlat) (va : Option Word) (asid : Option Nat) : Xlat :=
  (x.keep (fun e => !((e.kind == .std || (e.kind == .hewn && !e.wired)) && fenceHits va asid e))).keepPsc
    (fun p => !(p.stage == 0 && va.elim true (fun a => p.vpn == vpnOf a / 2 ^ (9 * (p.level + 1))) &&
      asid.elim true (fun a => p.g || p.asid == a)))
/-- HFENCE.VVMA (R117). -/
def Xlat.fenceVvma (x : Xlat) (vmid : Nat) (va : Option Word) (asid : Option Nat) : Xlat :=
  (x.keep (fun e => !(e.kind == .guest && e.vmid == vmid && fenceHits va asid e))).keepPsc
    (fun p => !(p.stage == 1 && p.vmid == vmid && va.elim true (fun a => p.vpn == vpnOf a / 2 ^ (9 * (p.level + 1))) &&
      asid.elim true (fun a => p.g || p.asid == a)))
/-- HFENCE.GVMA (R117): every GUEST entry of the VMID goes too. -/
def Xlat.fenceGvma (x : Xlat) (gpa : Option Word) (vmid : Option Nat) : Xlat :=
  (x.keep (fun e => !((e.kind == .gstage && vmid.elim true (· == e.vmid) && gpa.elim true (fun a => e.covers (a.toNat / 4096)))
    || (e.kind == .guest && vmid.elim true (· == e.vmid))))).keepPsc
    (fun p => !(p.stage == 2 && vmid.elim true (· == p.vmid)))

/-! ## The checks of a PTE (R104) -/

/-- Levels of a mode below the root: 2, 3 or 4 (R98). -/
def topLevel (mode : Nat) : Nat := mode - 6

/-- Reserved encodings: R = 0 with W = 1; [60:54]; PBMT = 3; PBMT, N, A, D or U in a non-leaf; N with any size but
64 KiB at level 0 (R104). While PBMTE is 0 a PBMT other than 0 is reserved (Svpbmt, R51). -/
def pteReserved (w : Word) (lv : Nat) (pbmte : Bool) : Bool :=
  (!pteR w && pteW w) || fld w 60 54 != 0 || ptePbmt w == 3 || (!pbmte && ptePbmt w != 0) ||
  (if pteLeaf w then pteN w && !(lv == 0 && ptePpn w % 16 == 8)
   else ptePbmt w != 0 || pteN w || pteA w || pteD w || pteU w)

/-- PPN bits below a superpage's size. -/
def pteMisaligned (w : Word) (lv : Nat) : Bool := ptePpn w % 2 ^ (9 * lv) != 0

/-- The first check of R104 that a PTE at a level fails, before A and D: 0 none. The permission check stands before that of a
misaligned superpage: versions of the privileged architecture differ (DESIGN CHOICE, log entry 35). -/
def pteReason (w : Word) (lv : Nat) (perm pbmte : Bool) : Nat :=
  if !pteV w then 1
  else if pteReserved w lv pbmte then 4
  else if !pteLeaf w then (if lv = 0 then 1 else 0)
  else if !perm then 2
  else if pteMisaligned w lv then 3
  else 0

/-- First 4 KiB page of the memory a leaf maps; NAPOT drops the four low bits. -/
def leafPpn (w : Word) : Nat := if pteN w then ptePpn w / 16 * 16 else ptePpn w

/-! ## One walk -/

/-- The index of a level, and the address of the PTE. -/
def pteAddr (table : Nat) (va lv : Nat) : Nat := table + va / 2 ^ (12 + 9 * lv) % 512 * 8
/-- The root index of a G-stage table is 2 bits wider. -/
def gpteAddr (table : Nat) (gpa lv gmode : Nat) : Nat :=
  if lv = topLevel gmode then table + gpa / 2 ^ (12 + 9 * lv) % 2048 * 8 else pteAddr table gpa lv

/-- What a walk does next. -/
inductive WNext where
  /-- The PTE at `pa` of the walk must be read. -/
  | read (w : Walk)
  /-- Both stages are known: the entry to fill. -/
  | fill (w : Walk) (e : TlbEnt)
  /-- It cannot translate: reason, PTE address, level and stage (R104, R106). -/
  | fail (w : Walk) (reason pte level stage : Nat)
deriving DecidableEq, Repr

/-- The place and the GSTAGE entry of the walk's VMID that grants an access to a guest PA (R91). -/
def Core.gHit (k : Core) (w : Walk) (gpa : Nat) (acc : AccType) : Option (Nat × TlbEnt) :=
  tlbProbe k.xlat.l2tlb (fun e => e.hits .gstage (gpa / 4096) 0 w.vmid && gLeafOk e.pte acc w.ctx && adOk e.pte acc)

/-- The entry a finished walk fills: STD, or GUEST of the smaller page of both stages (R91). -/
def Walk.entry (w : Walk) (gsize gppn gvpn : Nat) : TlbEnt :=
  match w.leaf with
  | some (p, lv) =>
    let sz := sizeOfLevel lv (pteN p)
    let vpn := vpnOf w.va
    if w.kind = .std then
      { kind := .std, size := sz, vpn := vpn / sizePages sz * sizePages sz, asid := w.asid, g := pteG p || w.glob,
        ppn := leafPpn p, pte := p }
    else
      let s := min sz gsize
      let v := vpn / sizePages s * sizePages s
      let gp := leafPpn p + vpn % sizePages sz
      { kind := .guest, size := s, vpn := v, asid := w.asid, vmid := w.vmid, g := pteG p || w.glob,
        ppn := (gppn + (gp - gvpn)) / sizePages s * sizePages s, pte := p, gpte := w.gleaf }
  | none =>
    -- VS-stage Bare: the guest virtual address is the guest PA
    let vpn := w.va.toNat / 4096
    let v := vpn / sizePages gsize * sizePages gsize
    { kind := .guest, size := gsize, vpn := v, asid := w.asid, vmid := w.vmid, ppn := gppn + (v - gvpn), gpte := w.gleaf }

/-- A guest PA wider than the G-stage mode allows (R104). -/
def gpaWide (gmode gpa : Nat) : Bool := decide (2 ^ ((if gmode = 8 then 39 else if gmode = 9 then 48 else 57) + 2) ≤ gpa)

/-- The deepest paging-structure entry for an address, its level and table (R89). -/
def Core.pscFind (k : Core) (stage asid vmid vpn : Nat) : Option PscEnt :=
  if !k.csrBit Csr.mshimctl 2 then none
  else (k.xlat.psc.filter (fun e => e.2.stage == stage && (e.2.g || e.2.asid == asid || stage == 2) &&
      (stage == 0 || e.2.vmid == vmid) && e.2.vpn == vpn / 2 ^ (9 * (e.2.level + 1)))).foldl
    (fun b e => match b with | none => some e.2 | some x => if e.2.level < x.level then some e.2 else b) none

/-- A guest PA is to be translated for access `acc`: by a GSTAGE entry, or by a G-stage walk from its deepest
paging-structure entry (R89, R91, R101). `k'` gives
what follows once its PA, page and leaf are known. One too wide stops at the root level with PTE_PA 0 (DESIGN CHOICE, log
entry 35). -/
def Core.gStage (k : Core) (w : Walk) (gpa : Nat) (acc : AccType) (cont : Walk → Nat → TlbEnt → WNext) : WNext :=
  if gpaWide w.gmode gpa then .fail { w with gpa := gpa } 1 0 (topLevel w.gmode) 2
  else match k.gHit w gpa acc with
    | some (i, e) => cont { w with gpa := gpa, inG := false, gleaf := e.pte, used := w.used ++ [i] } (e.paOf (gpa / 4096) (gpa % 4096)) e
    | none =>
      let p := k.pscFind 2 0 w.vmid (gpa / 4096)
      let w := { w with gpa := gpa, inG := true, glevel := p.elim (topLevel w.gmode) (·.level), gtable := p.elim w.groot (·.table) }
      .read { w with pa := gpteAddr w.gtable gpa w.glevel w.gmode }

/-- The access type that the G-stage check of a VS-stage PTE uses (R101). -/
def Walk.implicit (w : Walk) : AccType := if w.gwr then .store else .load

/-- The PTE of the single or VS stage at the walk's level is to be read. -/
def Core.wantPte (k : Core) (w : Walk) : WNext :=
  let a := pteAddr w.table w.va.toNat w.level
  if w.kind = .std ∨ w.gmode = 0 then .read { w with pa := a, vpa := a, inG := false }
  else k.gStage w a w.implicit (fun w pa _ => .read { w with pa := pa, vpa := pa })

/-- The final guest PA is to be translated for the access. -/
def Core.wantFinal (k : Core) (w : Walk) (gpa : Nat) : WNext :=
  if w.gmode = 0 then
    .fill { w with gleaf := 0 } ({ w with gleaf := 0 }.entry 5 (gpa / 4096 / sizePages 5 * sizePages 5) (gpa / 4096 / sizePages 5 * sizePages 5))
  else k.gStage w gpa w.acc (fun w _ e => .fill w (w.entry e.size e.ppn e.vpn))

/-- The guest PA a VS-stage leaf gives. -/
def leafGpa (p : Word) (lv : Nat) (va : Word) : Nat :=
  let sz := sizeOfLevel lv (pteN p)
  (leafPpn p + vpnOf va % sizePages sz) * 4096 + va.toNat % 4096

/-- A walk begins (R98, R104): canonical check, then the first PTE, from the paging-structure cache where it can. -/
def Core.walkStart (k : Core) (w : Walk) : WNext :=
  if w.mode = 0 then k.wantFinal { w with leaf := none } w.va.toNat
  else if !canonical w.mode w.va then .fail w 1 0 (topLevel w.mode) (if w.kind = .std then 0 else 1)
  else
    let st := if w.kind = .std then 0 else 1
    match k.pscFind st w.asid w.vmid (vpnOf w.va) with
    | some e => k.wantPte { w with level := e.level, table := e.table, glob := e.g }
    | none => k.wantPte { w with level := topLevel w.mode, table := w.root }

/-- The GSTAGE entry a G-stage leaf gives (R91). -/
def Walk.gEntry (w : Walk) (p : Word) : TlbEnt :=
  let sz := sizeOfLevel w.glevel (pteN p)
  { kind := .gstage, size := sz, vpn := w.gpa / 4096 / sizePages sz * sizePages sz, vmid := w.vmid, ppn := leafPpn p, pte := p }

/-- The PTE read at `w.pa` has passed its checks and needs no update: the walk goes on. -/
def Core.walkOn (k : Core) (w : Walk) (p : Word) : WNext :=
  if w.inG then
    if pteLeaf p then
      let e := w.gEntry p
      let w := { w with inG := false, gleaf := p }
      match w.leaf with
      | some _ => .fill w (w.entry e.size e.ppn e.vpn)
      | none =>
        if w.mode = 0 then .fill w (w.entry e.size e.ppn e.vpn)
        else let pa := e.paOf (w.gpa / 4096) (w.gpa % 4096); .read { w with pa := pa, vpa := pa }
    else
      let w := { w with glevel := w.glevel - 1, gtable := ptePpn p * 4096 }
      .read { w with pa := gpteAddr w.gtable w.gpa w.glevel w.gmode }
  else if pteLeaf p then
    let w := { w with leaf := some (p, w.level), gwr := false }
    if w.kind = .std then .fill w (w.entry 0 0 0) else k.wantFinal w (leafGpa p w.level w.va)
  else k.wantPte { w with level := w.level - 1, table := ptePpn p * 4096, glob := w.glob || pteG p, gwr := false }

/-- What the checks of a PTE answer. -/
inductive PteRes where
  | good
  | fail (reason : Nat)
  /-- A or D must be set (R100). -/
  | update (w : Word)
deriving DecidableEq, Repr

/-- A bit of henvcfg that reads zero while menvcfg's is zero: STCE, PBMTE and ADUE (the privileged architecture, log entry 9). -/
def Core.henvBit (k : Core) (i : Nat) : Bool := k.csrBit Csr.henvcfg i && k.csrBit Csr.menvcfg i

/-- PBMTE of the stage at hand (Svpbmt, R51). -/
def Core.pbmte (k : Core) (w : Walk) : Bool := if w.inG ∨ w.kind = .std then k.csrBit Csr.menvcfg 62 else k.henvBit 62

/-- ADUE of the stage at hand (R100). -/
def Core.adue (k : Core) (w : Walk) : Bool :=
  if w.inG ∨ w.kind = .std then k.csrBit Csr.menvcfg 61 else k.henvBit 61

/-- The checks of the PTE the walk has read (R100, R104). -/
def Core.pteCheck (k : Core) (w : Walk) (p : Word) : PteRes :=
  let lv := if w.inG then w.glevel else w.level
  let final := w.leaf.isSome || w.mode == 0
  let acc := if w.inG ∧ !final then w.implicit else w.acc
  let perm := if w.inG then gLeafOk p acc w.ctx else leafOk p acc w.ctx
  match pteReason p lv perm (k.pbmte w) with
  | 0 =>
    if !pteLeaf p || adOk p acc then .good
    else if k.adue w then .update (p ||| 0x40 ||| (if acc = .store then 0x80 else 0))
    else .fail 2
  | r => .fail r

/-- The paging-structure entry a non-leaf PTE gives (R89). -/
def Walk.pscOf (w : Walk) (p : Word) : PscEnt :=
  let t := ptePpn p * 4096
  if w.inG then
    { stage := 2, level := w.glevel - 1, vpn := w.gpa / 2 ^ (12 + 9 * w.glevel), vmid := w.vmid, table := t }
  else
    { stage := if w.kind = .std then 0 else 1, level := w.level - 1, vpn := vpnOf w.va / 2 ^ (9 * w.level),
      asid := w.asid, vmid := if w.kind = .std then 0 else w.vmid, g := w.glob || pteG p, table := t }

end Sys2Proof.Machine
end

