-- ==== Sys2Proof/Machine/Access.lean ====
section
/-! DEFINITION. What an access of a hart is and where it stands in program order: its kind (R71 to R73), its lines (R52), the
accesses, bound loads and fences that are not yet retired (R54, R55, R63), and the replay of R61. -/

namespace Sys2Proof

/-! ## Kinds of access -/

/-- An access that writes, or acts on the line as a write does (R72). -/
def AccKind.writes : AccKind → Bool
  | .load | .fetch | .pte | .prefI | .prefR | .prefW => false
  | _ => true
/-- An access of a FENCE's read set: the loads, the LR and the atomics, and the clean, flush and inval operations (R63, R72). -/
def AccKind.inReads : AccKind → Bool
  | .store | .sc | .cboZero | .svadu => false
  | _ => true
/-- An access of a FENCE's write set (R63, R72). -/
def AccKind.inWrites : AccKind → Bool
  | .store | .sc | .amo | .cboZero | .cboClean | .cboFlush | .cboInval | .svadu => true
  | _ => false
/-- A hint (R73). -/
def AccKind.hint : AccKind → Bool
  | .prefI | .prefR | .prefW => true
  | _ => false
/-- A cache-block operation but cbo.zero. -/
def AccKind.cbo : AccKind → Bool
  | .cboClean | .cboFlush | .cboInval => true
  | _ => false

/-- The type of access that translation checks: cache-block operations need only a readable page (Zicbom). -/
def AccKind.checkType : AccKind → AccType
  | .fetch | .prefI => .fetch
  | .store | .amo | .sc | .cboZero | .svadu | .prefW => .store
  | _ => .load
/-- The type of access that chooses a fault's cause (R104). -/
def AccKind.causeType : AccKind → AccType
  | .fetch | .prefI => .fetch
  | .load | .lr | .pte | .prefR => .load
  | _ => .store

/-- The access is one that waits for an empty store queue: everything but loads, stores, fetches and hints (log
entry 14). -/
def AccKind.needsDrain : AccKind → Bool
  | .amo | .lr | .sc | .cboClean | .cboFlush | .cboInval | .cboZero => true
  | _ => false

/-- The access is performed only as the oldest unretired instruction: all but loads, fetches and hints (R55; log entry 14). -/
def AccKind.oldestOnly : AccKind → Bool
  | .load | .fetch | .pte | .prefI | .prefR | .prefW => false
  | _ => true

/-- A load holds a load queue entry until it retires (R54). -/
def AccKind.inLoadQ : AccKind → Bool
  | .load | .lr | .amo => true
  | _ => false

/-- The type of access that translation checks for one access; an HLVX needs execute permission (R91). -/
def Acc.checkType (a : Acc) : AccType := if a.hlvx then .hlvx else a.kind.checkType

end Sys2Proof

namespace Sys2Proof.Machine

/-! ## Bytes and lines of an access -/

/-- Pieces of n bytes from PA pa, each within a line: PA, offset in the access, length. -/
def linePieces (pa o n : Nat) : List (Nat × Nat × Nat) :=
  if n = 0 then []
  else if pa % 64 + n ≤ 64 then [(pa, o, n)]
  else let k := 64 - pa % 64; [(pa, o, k), (pa + k, o + k, n - k)]

/-- Pieces of an access, the second page's included (R52). -/
def accPieces (a : Acc) : List (Nat × Nat × Nat) :=
  if a.split = 0 then linePieces a.pa 0 a.size else linePieces a.pa 0 a.split ++ linePieces a.pa2 a.split (a.size - a.split)

def accLines (a : Acc) : List Nat := ((accPieces a).map (fun p => p.1 / 64)).eraseDups

/-- PA of byte i. -/
def accByte (a : Acc) (i : Nat) : Nat := if a.split = 0 ∨ i < a.split then a.pa + i else a.pa2 + (i - a.split)

/-- The lowest byte address of the page in which a line of an access lies (R52). -/
def accVa (a : Acc) (line : Nat) : Word :=
  if a.split = 0 ∨ (linePieces a.pa 0 a.split).any (fun p => p.1 / 64 == line) then a.va else a.va + BitVec.ofNat 64 a.split

/-- Two accesses touch a common line. -/
def shareLine (a b : Acc) : Bool := (accLines a).any (accLines b).contains

/-! ## Program order (R54, R55) -/

/-- A data access of an instruction: no fetch and no hint. -/
def Wait.data (w : Wait) : Bool := w.acc.kind != .fetch && !w.acc.kind.hint

/-- Data accesses of instructions not yet performed: in slots and waiting. A store that a slot serves has retired into the store
queue. -/
def Pipe.unperformed (p : Pipe) : List Wait :=
  ((p.slots.map (fun e => if e.2.kind = .unc then e.2.merged.filter (fun w => w.acc.kind != .store) else e.2.merged)).flatten
    ++ p.waits).filter Wait.data

/-- Data accesses older than place n that are not yet retired; consumed poison stands before all of them. A load stalled in
a notice queue counts too (R415), and a queued store that may still be answered with an access error (R55). -/
def Pipe.hasOlder (p : Pipe) (n : Nat) : Bool :=
  p.poison.isSome || p.storeQ.any (fun e => e.mayErr && decide (e.seq < n)) || p.stall.any (fun e => decide (e.1 < n)) || p.unperformed.any (fun w => decide (w.seq < n)) || p.rob.any (fun e => decide (e.w.seq < n))

/-- The instruction at place n is the oldest unretired one, as far as accesses and fences tell. -/
def Pipe.headed (p : Pipe) (n : Nat) : Bool := !p.hasOlder n && p.fence.all (fun f => decide (n ≤ f.seq))

/-- Nothing of the hart is outstanding: every access and fence has retired. -/
def Pipe.settled (p : Pipe) : Bool := p.poison.isNone && !p.storeQ.any (·.mayErr) && p.stall.isNone && p.unperformed.isEmpty && p.rob.isEmpty && p.fence.isEmpty

/-- The access is the oldest: a fetch is younger than all data accesses. -/
def Pipe.first (p : Pipe) (w : Wait) : Bool := if w.acc.kind = .fetch then p.settled else p.headed w.seq

/-- An access put into its place in program order. -/
def insertWait (l : List Wait) (w : Wait) : List Wait :=
  match l with
  | [] => [w]
  | x :: r => if w.seq < x.seq then w :: x :: r else x :: insertWait r w

/-- An entry put into its place in the reorder buffer. -/
def insertRob (l : List RobEnt) (e : RobEnt) : List RobEnt :=
  match l with
  | [] => [e]
  | x :: r => if e.w.seq < x.w.seq then e :: x :: r else x :: insertRob r e

/-- A new access finds room: a load queue entry of 192, a reorder buffer entry of 576, and a physical register of its class
beyond the architectural ones (R54; log entry 36). -/
def Pipe.room (p : Pipe) (a : Acc) : Bool :=
  let out := p.unperformed ++ p.rob.map (·.w)
  let dests (t : Dest → Bool) : Nat := (out.filter (fun w => t w.acc.dest)).length
  (!a.kind.inLoadQ || decide ((out.filter (fun w => w.acc.kind.inLoadQ)).length < 192)) && decide (out.length + p.fence.length < 576) &&
    (match a.dest with
     | .none => true
     | .x _ => decide (dests (fun d => match d with | .x _ => true | _ => false) < 320 - 32)
     | .f _ => decide (dests (fun d => match d with | .f _ => true | _ => false) < 256 - 32)
     | .v _ _ _ => decide (dests (fun d => match d with | .v _ _ _ => true | _ => false) < 144 - 32))

/-- A load of a lost line that is bound while an older load to the line is not: the oldest such (R61). -/
def Pipe.overtaken (p : Pipe) (line : Nat) : Option RobEnt :=
  p.rob.find? (fun e => (accLines e.w.acc).contains line &&
    p.unperformed.any (fun w => decide (w.seq < e.w.seq) && (!w.xlated || (accLines w.acc).contains line)))

/-- L2 loses a line: the younger load and every bound load after it are replayed (R61). -/
def Pipe.replay (p : Pipe) (line : Nat) : Pipe :=
  match p.overtaken line with
  | none => p
  | some e =>
    { p with rob := p.rob.filter (fun x => decide (x.w.seq < e.w.seq)),
             waits := (p.rob.filter (fun x => decide (e.w.seq ≤ x.w.seq))).foldl (fun l x => insertWait l x.w) p.waits }

/-- The access of the oldest unretired instruction that waits, or the fetch at the head of the program (R94). -/
def Core.headWait (k : Core) : Option Wait := k.pipe.waits.find? (fun w => !w.acc.kind.hint && k.pipe.first w)

/-- The place in program order and the pc of the oldest instruction that has not retired (R55). -/
def Pipe.oldestPc (p : Pipe) : Option Word :=
  let l := p.stall.toList ++ (p.storeQ.filter (·.mayErr)).map (fun e => (e.seq, e.pc)) ++ p.unperformed.map (fun w => (w.seq, w.pc)) ++ p.rob.map (fun e => (e.w.seq, e.w.pc)) ++ p.fence.map (fun f => (f.seq, f.pc))
  match p.poison with
  | some r => some r.pc
  | none => (l.foldl (fun (b : Option (Nat × Word)) e => match b with
      | none => some e
      | some x => if e.1 < x.1 then some e else b) none).map (·.2)

end Sys2Proof.Machine
end

