-- ==== Sys2Proof/Machine/Cache.lean ====
section
/-! DEFINITION. A core's L1 and L2 caches (R121 to R126), its reservation and hold (R67), and what one core does with
a snoop (R172). -/

namespace Sys2Proof.Machine

/-! ## L2 sets: lists from most to least recent (R125) -/

def Pipe.set2 (p : Pipe) (line : Nat) : List L2Line := Tab.get p.l2 [] (line % 1024)
def Pipe.find2 (p : Pipe) (line : Nat) : Option L2Line := (p.set2 line).find? (·.line == line)
def Pipe.putSet2 (p : Pipe) (line : Nat) (l : List L2Line) : Pipe := { p with l2 := Tab.put p.l2 [] (line % 1024) l }
/-- The entry of a line changed in place. -/
def Pipe.upd2 (p : Pipe) (line : Nat) (g : L2Line → L2Line) : Pipe :=
  p.putSet2 line ((p.set2 line).map (fun e => if e.line = line then g e else e))
/-- A hit moves the line to the most recent position (R125). -/
def Pipe.touch (p : Pipe) (line : Nat) : Pipe :=
  match p.find2 line with
  | some e => p.putSet2 line (e :: (p.set2 line).filter (·.line != line))
  | none => p
/-- A line leaves L2 and with it both L1 caches (R122). -/
def Pipe.drop2 (p : Pipe) (line : Nat) : Pipe :=
  let p := p.putSet2 line ((p.set2 line).filter (·.line != line))
  { p with l1i := p.l1i.filter (· != line), l1d := p.l1d.filter (· != line), l2bad := Tab.erase p.l2bad line,
           l1bad := p.l1bad.filter (· != line) }

/-- A line filled into an L1 of 16 ways by 64 sets; the victim of a full set is the way a free number picks (R121,
log entry 2). -/
def l1Add (l : List Nat) (line free : Nat) : List Nat :=
  if l.contains line then l
  else
    let set := l.filter (fun x => x % 64 == line % 64)
    if set.length < 16 then l ++ [line] else l.erase (set.getD (free % 16) 0) ++ [line]

def Pipe.fillL1 (p : Pipe) (fetch : Bool) (line free : Nat) : Pipe :=
  if fetch then { p with l1i := l1Add p.l1i line free } else { p with l1d := l1Add p.l1d line free }

/-- A line of ridge space. -/
def isRidgeLine (line : Nat) : Bool := decide (2 ^ 49 ≤ line)

/-- A store is written into an L2 line, and the written-byte mask of a ridge line kept (R121, R275). The poison mark stays (R82). -/
def L2Line.write (e : L2Line) (data : Line) (m : BitVec 64) (st : LSt) : L2Line :=
  { e with data := mergeLine e.data data m, st := st, wmask := if isRidgeLine e.line then e.wmask ||| m else e.wmask }

/-- The state allows stores (R158). -/
def LSt.unique : LSt → Bool
  | .m => true
  | .e => true
  | _ => false
/-- The data is dirty (R158). -/
def LSt.dirty : LSt → Bool
  | .m => true
  | .o => true
  | _ => false

/-- Ways that a fill may not take: targets of a UPG, the line of an LR or Svadu hold (R125). -/
def Pipe.heldWay (p : Pipe) (e : L2Line) : Bool :=
  p.hold == some e.line || p.slots.any (fun s => s.2.line == e.line && s.2.way.isSome)

/-- Where a fill goes: an invalid way, the lowest-numbered first, or the least recent way that is not held (R125). -/
inductive FillWay where
  | free (way : Nat)
  | evict (victim : L2Line)
  | none
deriving DecidableEq, Repr

def Pipe.fillWay (p : Pipe) (line : Nat) : FillWay :=
  let s := p.set2 line
  match (List.range 16).find? (fun w => s.all (·.way != w)) with
  | some w => .free w
  | none =>
    match s.reverse.find? (fun e => !p.heldWay e) with
    | some e => .evict e
    | none => .none

/-- A line put into a way, at the head of the replacement order when asked (R74, R125). -/
def Pipe.install (p : Pipe) (e : L2Line) (lru : Bool) : Pipe :=
  let s := (p.set2 e.line).filter (fun x => x.line != e.line && x.way != e.way)
  p.putSet2 e.line (if lru then s ++ [e] else e :: s)

/-! ## Slots (R56) -/

/-- Accesses that a miss register tracks: the merged ones, and the store that waits at the head of the store queue (R127). -/
def Slot.users (sl : Slot) : Nat := sl.merged.length + b2n sl.st

/-- The open miss register of a line. -/
def Pipe.missOf (p : Pipe) (line : Nat) : Option (Nat × Slot) :=
  p.slots.find? (fun s => s.2.line == line && (s.2.kind == .miss || s.2.kind == .pref))
/-- The writeback entry that holds a line's data. -/
def Pipe.wbOf (p : Pipe) (line : Nat) : Option (Nat × Slot) :=
  p.slots.find? (fun s => s.2.line == line && s.2.kind == .evict)
/-- The writeback entry of a line that L2 keeps (R499). -/
def Pipe.keepOf (p : Pipe) (line : Nat) : Option (Nat × Slot) :=
  p.slots.find? (fun s => s.2.line == line && s.2.kind == .keep)
def Pipe.setSlot (p : Pipe) (i : Nat) (s : Slot) : Pipe := { p with slots := Tab.set p.slots i s }
def Pipe.freeSlot (p : Pipe) (i : Nat) : Pipe := { p with slots := Tab.erase p.slots i }

/-- First slot and number of slots of a kind (R56). -/
def slotRange : SlotKind → Nat × Nat
  | .miss => (0, 48)
  | .evict => (48, 32)
  | .keep => (48, 32)
  | .unc => (80, 16)
  | .notch => (80, 16)
  | .pref => (96, 16)
  | .cbo => (112, 16)

/-- A free slot of a kind (R56). -/
def Pipe.takeSlot (p : Pipe) (k : SlotKind) : Option Nat := Tab.freeKey p.slots (slotRange k).1 (slotRange k).2

/-- L2 miss registers in use (R73). -/
def Pipe.missesUsed (p : Pipe) : Nat := (p.slots.filter (fun s => s.1 < 48)).length

/-! ## Reservation (R67, R68) -/

/-- The core's hart and queues act: it is neither held, gated nor stopped (R376). -/
def Core.awake (k : Core) : Bool :=
  match k.run with
  | .run | .idle | .sleep | .entering _ => true
  | _ => false


/-- A lost reservation completes WRS.NTO and WRS.STO (R68). -/
def Core.endWrs (k : Core) : Core :=
  if k.waiting = .wrsNto ∨ k.waiting = .wrsSto then
    { k with waiting := .nothing, run := if k.run = .idle then .run else k.run }
  else k
/-- The reservation is lost, whatever its block (R67). -/
def Core.loseResv (k : Core) : Core :=
  if k.pipe.resv.isSome then { k with pipe := { k.pipe with resv := none } }.endWrs else k
/-- The reservation is lost if it covers the line (R67). -/
def Core.loseLine (k : Core) (line : Nat) : Core := if k.pipe.resv = some line then k.loseResv else k

/-- A line leaves L2 (R61, R67, R122). -/
def Core.dropLine (k : Core) (line : Nat) : Core := { k with pipe := (k.pipe.drop2 line).replay line }.loseLine line

/-- The state of an L2 line changed. -/
def Core.setLine (k : Core) (line : Nat) (st : LSt) : Core :=
  { k with pipe := k.pipe.upd2 line (fun e => { e with st := st }) }

/-! ## One core's answer to a snoop (R172) -/

/-- What a core does with a snoop: data it forwards, dirty data it sends to the home, and what it held and keeps. -/
structure SnpRes where
  core : Core
  held : Bool := false
  kept : Bool := false
  /-- Dirty data was sent, or the core holds O data after an SNP_FWD_S (R172). -/
  dirty : Bool := false
  fwd  : Option (MsgOp × Line × Bool) := none
  home : Option (Line × Bool) := none

/-- A copy in L2 meets a snoop. -/
def Core.snoopLine (k : Core) (vO : Bool) (op : MsgOp) (e : L2Line) : SnpRes :=
  let k := k.loseLine e.line
  let d := (e.data, e.poison)
  let gone := k.dropLine e.line
  match op, e.st with
  | .snpFwdS, .m =>
    if vO then { core := k.setLine e.line .o, held := true, kept := true, dirty := true, fwd := some (.dataS, d) }
    else { core := k.setLine e.line .s, held := true, kept := true, dirty := true, fwd := some (.dataF, d), home := some d }
  | .snpFwdS, .o => { core := k, held := true, kept := true, dirty := true, fwd := some (.dataS, d) }
  | .snpFwdS, .e =>
    { core := k.setLine e.line .s, held := true, kept := true, fwd := some (if vO then .dataS else .dataF, d) }
  | .snpFwdS, .f => { core := k.setLine e.line .s, held := true, kept := true, fwd := some (.dataF, d) }
  | .snpFwdS, .s => { core := k, held := true, kept := true, fwd := some (.dataF, d) }
  | .snpFwdU, st =>
    { core := gone, held := true, dirty := st.dirty, fwd := some (if st.dirty then .dataM else .dataE, d) }
  | .snpClean, st =>
    if st.dirty then { core := k.setLine e.line (if st = .m then .e else .s), held := true, kept := true, dirty := true,
                       home := some d }
    else { core := k, held := true, kept := true }
  | .snpFlush, st => { core := gone, held := true, dirty := st.dirty, home := if st.dirty then some d else none }
  | _, _ => { core := gone, held := true }

/-- A writeback entry meets a snoop; a spent entry holds none. -/
def Core.snoopWb (k : Core) (vO : Bool) (op : MsgOp) (i : Nat) (s : Slot) (d : Line) (st : LSt) (pz : Bool) : SnpRes :=
  let spent := { k with pipe := k.pipe.setSlot i { s with wb := none } }
  match op, st with
  | .snpFwdS, .o => { core := k, held := true, kept := true, dirty := true, fwd := some (.dataS, d, pz) }
  | .snpFwdS, _ =>
    if vO then { core := { k with pipe := k.pipe.setSlot i { s with wb := some (d, .o, pz) } }, held := true,
                 kept := true, dirty := true, fwd := some (.dataS, d, pz) }
    else { core := spent, held := true, dirty := true, fwd := some (.dataF, d, pz), home := some (d, pz) }
  | .snpFwdU, _ => { core := spent, held := true, dirty := true, fwd := some (.dataM, d, pz) }
  | .snpClean, _ => { core := spent, held := true, dirty := true, home := some (d, pz) }
  | .snpFlush, _ => { core := spent, held := true, dirty := true, home := some (d, pz) }
  | _, _ => { core := spent, held := true }

/-- The state in which a core holds a line, a writeback entry with data included (R172, R174). -/
def Core.holds (k : Core) (line : Nat) : Option LSt :=
  match k.pipe.find2 line with
  | some e => some e.st
  | none =>
    match k.pipe.wbOf line with
    | some (_, s) => s.wb.map (fun d => d.2.1)
    | none => none

/-! ## The stud filter's duplicate of a core's tags (R174) -/

/-- STATE of a line in a stud filter entry. -/
def LSt.filterCode : LSt → Nat
  | .s => 1
  | .e => 2
  | .m => 3
  | .f => 4
  | .o => 5

/-- The stud filter's entry of an L2 line: TAG in [47:8], STATE in [7:5], VALID in [0]. It is updated in the cycle of the tag it
duplicates, and so is what that tag makes it. -/
def L2Line.filterEntry (e : L2Line) : BitVec 48 := BitVec.ofNat 48 (1 + e.st.filterCode * 2 ^ 5 + e.line / 1024 * 2 ^ 8)

/-- The filter's mirror of a writeback entry: PA[55:6] in [57:8], STATE 6 with M data, 7 with O data; not VALID once the data is spent. -/
def Slot.mirror (sl : Slot) : BitVec 58 :=
  match sl.wb with
  | some (_, st, _) => BitVec.ofNat 58 (1 + (if st = .m then 6 else 7) * 2 ^ 5 + sl.line * 2 ^ 8)
  | none => 0

/-- An entry of the core's filter hits a line: its set and TAG for an L2 entry, the whole line for a mirror. -/
def Pipe.filterHit (p : Pipe) (line : Nat) : Bool :=
  ((p.set2 line).map L2Line.filterEntry).any (fun e => e.getLsbD 0 && e.toNat / 2 ^ 8 == line / 1024) ||
    ((p.wbOf line).map (fun x => x.2.mirror)).elim false (fun e => e.getLsbD 0 && e.toNat / 2 ^ 8 == line)

/-- One core meets a snoop. -/
def Core.snoop (k : Core) (vO : Bool) (op : MsgOp) (line : Nat) : SnpRes :=
  match k.pipe.find2 line with
  | some e => k.snoopLine vO op e
  | none =>
    match k.pipe.wbOf line with
    | some (i, s) =>
      match s.wb with
      | some (d, st, pz) => k.snoopWb vO op i s d st pz
      | none => { core := k }
    | none => { core := k }

/-- Rank of a copy as the supplier of a forward: M, O, E and F before S (R172). -/
def LSt.supplies : LSt → Bool
  | .s => false
  | _ => true

end Sys2Proof.Machine
end

