-- ==== Sys2Proof/Machine/Coherent.lean ====
section
/-! DEFINITION. What a home holds of a line, and the uncached accesses that the rings and the port IOMMUs make at a line's home (R156, R171, R288,
R315). -/

namespace Sys2Proof.Machine

/-! ## What a home holds of a line -/

/-- The directory entry of a line, with its place. -/
def State.dirFind (s : State) (h line : Nat) : Option (Nat × DirEnt) :=
  let set := s.dirSetOf h (line * 64)
  (s.home h).dir.find? (fun e => e.1 / dirWays h == set && e.2.line == line)

def Home.setDir (h : Home) (k : Nat) (e : DirEnt) : Home := { h with dir := Tab.set h.dir k e }
def Home.dropDir (h : Home) (k : Nat) : Home := { h with dir := Tab.erase h.dir k }

/-- The controller whose queues a line of bay h enters: its channel's; an edge line stands beside the first controller of its
quadrant (R220). -/
def State.chanOf (s : State) (h line : Nat) : Nat :=
  match s.place (s.frameOfStud h) (line * 64) with
  | .chan c _ => c
  | .edge q _ => (s.activeChans q).headD (4 * q)

/-- The line's memory as a read of it returns now: the victim buffer, then the write queue (R131, R226, R227), then
the stored word. -/
def State.memNow (s : State) (h line : Nat) : Line × Bool :=
  match (s.home h).victims.find? (fun v => v.line == line) with
  | some v => (v.data, v.poison)
  | none =>
    match (s.chan (s.chanOf h line)).wq.reverse.find? (fun e => e.line == line) with
    | some e => (e.data, e.poison)
    | none => s.memLine (s.lineKey h (line * 64))

/-- BAY_CTL.EN in force at home h: a failed array, or an array that is OFF, acts as EN = 0 (R354, R384). -/
def State.arrayEn (s : State) (h : Nat) : Bool :=
  (s.home h).en && !(s.home h).arrayFail && s.domStateOf (14 + h) != 4
/-- The bay line of a line, with its place. -/
def State.bayFind (s : State) (h line : Nat) : Option (Nat × BayLine) :=
  if 12 ≤ h ∨ isBenchAddr (line * 64) then none
  else
    let set := s.baySetOf h (line * 64)
    (s.home h).cache.find? (fun e => e.1 / 16 == set && e.2.line == line)

/-- Lines of n bytes from an address. -/
def linesOf (addr n : Nat) : List Nat :=
  if n = 0 then [] else (List.range ((addr + n - 1) / 64 + 1 - addr / 64)).map (addr / 64 + ·)

/-- The root ports a bifurcation mask gives: their lane pairs and widths (R280). -/
def rootStarts (mask : Nat) : List (Nat × Nat) :=
  let st := (List.range 8).filter (fun i => bitOf mask i)
  st.map (fun i => (i, 2 * ((st.find? (i < ·)).getD 8) - 2 * i))

/-- The root port of CXL home h whose slice holds an address, and the offset in the slice (R298). -/
def State.cxlSlice (s : State) (h la : Nat) : Option (Nat × Nat) :=
  let p := h - 12
  let off := la - portBase p - 2 ^ 41
  let u := 3 * 2 ^ 39
  match (rootStarts (s.port p).lanes).reverse.find? (fun e => decide (e.1 * u ≤ off)) with
  | some (i, w) => if off < (i + w / 2) * u then some (i, off - i * u) else none
  | none => none

/-! ## Uncached accesses of rings and IOMMUs (R18, R156, R171, R288, R315; log entry 19) -/

/-- The agent and package that order an access to PA (R156, R259, R260). -/
def State.target (s : State) (f pa : Nat) : Option (Nat × Nat) :=
  match s.region f pa with
  | .dram la => some (16 + homeBay s.mode f la, s.ownPkg)
  | .remote pkg la => some (16 + homeBay s.mode f la, pkg)
  | .bench b _ => some (16 + b, s.ownPkg)
  | .cxl p _ => some (32 + p, s.ownPkg)
  | _ => none

/-- The agent that makes an owner's accesses: the frame's Plumb bridge for its rings (R18), the port's protocol engine for its IOMMU. -/
def State.ncAgent (s : State) : NcOwner → Nat
  | .fetch f | .reply f => 48 + bridgeOf s.mode f
  | .walk p | .queue p | .fence p | .record p | .msi p => 32 + p

/-- RCID and MCID charged to a port's inbound requests (R274, R289). -/
def Port.inbIds (p : Port) : Nat × Nat :=
  let w := if p.pers = 5 then p.ridge.ctl else p.devCtl
  (fld w 21 16, fld w 29 22)

/-- The header of an uncached access: agent `dst` of package `pkg` is its home. -/
def State.ncHdr (s : State) (x : NcOp) (dst pkg : Nat) : Hdr :=
  let ids := if x.agent < 48 then (s.port (x.agent - 32)).inbIds else (0, 0)
  { src := x.agent, dst := dst, srcPkg := s.ownPkg, dstPkg := pkg, tag := x.tag, reqAgent := x.agent, reqPkg := s.ownPkg, line := x.line,
    rcid := ids.1, mcid := ids.2 }

/-- An uncached access sent to its line's home, under a tag above those of inbound requests and preloads (R162); to a line without a home it
ends in an error at once. -/
def State.ncSend (s : State) (o : NcOwner) (x : NcOp) : State :=
  let a := s.ncAgent o
  match s.target (s.ncFrame o) (x.line * 64),
      (List.range 1024).find? (fun t => !s.ncOps.any (fun y => y.agent == a && y.tag == 3072 + t)) with
  | some (agent, pkg), some t =>
    let x := { x with owner := o, agent := a, tag := 3072 + t }
    ({ s with ncOps := s.ncOps ++ [x] }).route (s.ncFrame o)
      { op := x.op, hdr := s.ncHdr x agent pkg, mask := if x.mask = BitVec.allOnes 64 then BitVec.allOnes 64 else 0,
        amo := .cas, size := 8, off := x.off }
  | _, _ => { s with ncBuf := s.ncBuf ++ [{ owner := o, line := x.line, err := true }] }

/-- An owner waits for the end of an access. -/
def State.ncBusy (s : State) (o : NcOwner) : Bool := s.ncOps.any (fun x => x.owner == o)
/-- What an access of an owner to a line came to, once it has ended. -/
def State.ncLine (s : State) (o : NcOwner) (line : Nat) : Option NcLine := s.ncBuf.find? (fun e => e.owner == o && e.line == line)
/-- Some access of the owner was answered ERR. -/
def State.ncFailed (s : State) (o : NcOwner) : Bool := s.ncBuf.any (fun e => e.owner == o && e.err)
/-- The owner has used what has come. -/
def State.ncDrop (s : State) (o : NcOwner) : State := { s with ncBuf := s.ncBuf.filter (fun e => e.owner != o) }

/-- RD_NC of each of the lines that the owner has neither got nor asked for. -/
def State.ncAsk (s : State) (o : NcOwner) (lines : List Nat) : State :=
  lines.foldl (fun s l =>
    if (s.ncLine o l).isSome || s.ncOps.any (fun x => x.owner == o && x.line == l) then s else s.ncSend o { line := l }) s

/-- WR_NC of each line that bytes from an address fall in. -/
def State.ncWrite (s : State) (o : NcOwner) (pa : Nat) (b : List Byte) : State :=
  (linesOf pa b.length).foldl (fun s l =>
    let lo := max pa (l * 64)
    let hi := min (pa + b.length) (l * 64 + 64)
    s.ncSend o { line := l, op := .wrNc, data := placeInLine (ofBytes ((b.drop (lo - pa)).take (hi - lo))) (lo % 64),
                 mask := byteMask (lo % 64) (hi - lo) }) s

/-- Bytes from an address out of the lines an owner has got. -/
def State.ncBytes (s : State) (o : NcOwner) (pa n : Nat) : List Byte :=
  (linesOf pa n).flatMap (fun l =>
    let lo := max pa (l * 64)
    let hi := min (pa + n) (l * 64 + 64)
    bytesOf (hi - lo) (lineBytes ((s.ncLine o l).elim 0 (·.data)) (lo % 64) (hi - lo)))

/-- A message of a home for one of these accesses (R171): data and completions end it, WR_PULL draws its data. An AMO that has ended leaves
nothing of what its owner had read: a walk begins again. -/
def State.ncMsg (s : State) (m : Msg) : State :=
  match s.ncOps.find? (fun x => x.agent == m.hdr.dst && x.tag == m.hdr.tag && x.line == m.hdr.line) with
  | none => s
  | some x =>
    let ended (e : NcLine) : State := { s with ncOps := s.ncOps.erase x, ncBuf := s.ncBuf ++ [e] }
    let e : NcLine := { owner := x.owner, line := x.line }
    match m.op with
    | .ncRData =>
      if x.op = .atomNc then ({ s with ncOps := s.ncOps.erase x } : State).ncDrop x.owner
      else ended { e with data := m.data, poison := m.hdr.poison }
    | .goDone => ended e
    | .err => ended { e with err := true }
    | .wrPull =>
      s.route (s.ncFrame x.owner)
        { op := .ncWData, hdr := { s.ncHdr x m.hdr.src m.hdr.srcPkg with htx := m.hdr.htx }, data := x.data, mask := x.mask }
    | _ => s

end Sys2Proof.Machine
end

