-- ==== Sys2Proof/Machine/Iommu.lean ====
section
/-! DEFINITION. The IOMMU of a port (R288): device and process directories, both stages, the flat MSI tables, the IOTLB and the
device-context cache, the fault queue. The layout of its structures and the numbers of its causes are those of the RISC-V IOMMU
Architecture Specification 1.0 that R288 names (PRESUMED, log entry 10). -/

namespace Sys2Proof.Machine

/-! ## Registers -/

/-- `capabilities`: version 1.0; Sv39, Sv48, Sv57, Svpbmt and their x4 forms; MSI_FLAT; AMO_HWAD; ATS; IGS = MSI; DBG; 56 address bits;
PD8, PD17 and PD20. No other feature. -/
def ioCaps : Nat :=
  0x10 + 7 * 2 ^ 9 + 2 ^ 15 + 7 * 2 ^ 17 + 2 ^ 22 + 2 ^ 24 + 2 ^ 25 + 2 ^ 31 + 56 * 2 ^ 32 + 7 * 2 ^ 38

/-- The 8 bytes of the register block at an offset. -/
def Port.ioReg (k : Port) (o : Nat) : Nat := if o = 0 then ioCaps else (Tab.get k.iommu 0 o).toNat
def Port.ioPut (k : Port) (o v : Nat) : Port := { k with iommu := Tab.put k.iommu 0 o (BitVec.ofNat 64 v) }
/-- Bit i of a register set. -/
def Port.ioSet (k : Port) (o i : Nat) : Port := if bitOf (k.ioReg o) i then k else k.ioPut o (k.ioReg o + 2 ^ i)
/-- Field [hi:lo] of a register. -/
def Port.ioFld (k : Port) (o hi lo : Nat) : Nat := bits (k.ioReg o) hi lo
/-- Field [hi:lo] of a register replaced. -/
def Port.ioPutFld (k : Port) (o hi lo v : Nat) : Port := k.ioPut o (setFld (BitVec.ofNat 64 (k.ioReg o)) hi lo v).toNat

/-- Entries of a queue, from its base register. -/
def ioQueueSize (base : Nat) : Nat := 2 ^ (bits base 4 0 + 1)

/-! ## Memory (R288) -/

/-- The address lies in DRAM, bench or CXL memory: a walk goes nowhere else. -/
def State.ioMem (s : State) (f pa : Nat) : Bool := (s.target f pa).isSome

/-- Why a translation stops. -/
inductive IoStop where
  /-- An access fault of the request. -/
  | access
  /-- A page fault of the request. -/
  | page
  /-- A guest page fault at a guest PA; whether a table was being read there. -/
  | guest (gpa : Nat) (table : Bool)
  /-- Poisoned data of a page table. -/
  | corrupt
  /-- No fault: the walk waits for a line of memory, or for PTEs to be updated. -/
  | wait (line : Nat)
  | update (sets : List (Nat × Nat))
  /-- A cause of its own. -/
  | cause (n : Nat)
deriving DecidableEq, Repr

/-- 8 bytes of memory, out of the lines that the walk under way has read at their homes. -/
def State.ioLoad (s : State) (p pa : Nat) : Except IoStop Nat :=
  if !s.ioMem (s.frameOfPort p) pa then .error .access
  else match s.ncLine (.walk p) (pa / 64) with
    | none => .error (.wait (pa / 64))
    | some e => if e.err then .error .access else if e.poison then .error .corrupt else .ok (lineBytes e.data (pa % 64) 8)

/-- Bits to be set in the word at an address (the A and D bits of R288): a compare-and-swap at its home (log entry 41). -/
def State.ioOr (s : State) (p : Nat) (e : Nat × Nat) : State :=
  match s.ioLoad p e.1 with
  | .ok v => s.ncSend (.walk p)
      { line := e.1 / 64, op := .atomNc, data := BitVec.ofNat 512 ((v ||| e.2) + v * 2 ^ 128), off := e.1 % 64 }
  | .error _ => s

/-! ## Stages -/

/-- What a stage gives: the address, log2 of the pages its leaf maps, the accesses it allows (R 1, W 2, X 4), U and G of the leaf, and
the bits to be set in PTEs. -/
structure IoStage where
  pa   : Nat
  span : Nat := 44
  perm : Nat := 7
  user : Bool := true
  g    : Bool := false
  pbmt : Nat := 0
  sets : List (Nat × Nat) := []

/-- The leaf of a table for an address: the PTE, its level and its place, and the bits set in the PTEs of the stage below on the way. -/
def ioLeaf (rd : Nat → Except IoStop (Nat × Nat × List (Nat × Nat))) (place : Nat → Nat → Nat) (bad : IoStop) :
    Nat → Nat → List (Nat × Nat) → Except IoStop (Word × Nat × Nat × Nat × List (Nat × Nat))
  | lv, table, sets =>
    match rd (place table lv) with
    | .error e => .error e
    | .ok (v, pa, more) =>
      let w := BitVec.ofNat 64 v
      if pteReason w lv true true ≠ 0 then .error bad
      else if pteLeaf w then .ok (w, lv, place table lv, pa, sets ++ more)
      else match lv with
        | 0 => .error bad
        | n + 1 => ioLeaf rd place bad n (ptePpn w * 4096) (sets ++ more)

/-- The accesses a leaf allows. -/
def ptePerm (w : Word) : Nat := b2n (pteR w) + 2 * b2n (pteW w) + 4 * b2n (pteX w)

/-- `need` is within `perm`. -/
def permits (perm need : Nat) : Bool := perm &&& need == need

/-- A leaf used for an address: A and D are set where hardware updates are on (`ade`), and a fault where they are not. -/
def ioTake (w : Word) (lv pa addr need : Nat) (ade : Bool) (bad : IoStop) (sets : List (Nat × Nat)) : Except IoStop IoStage :=
  let d := bitOf need 1
  if !permits (ptePerm w) need then .error bad
  else if (!pteA w || (d && !pteD w)) && !ade then .error bad
  else
    let span := if pteN w then 4 else 9 * lv
    let size := 2 ^ (span + 12)
    .ok { pa := ptePpn w * 4096 / size * size + addr % size, span := span,
          perm := if pteD w || d then ptePerm w else ptePerm w &&& 5, user := pteU w, g := pteG w, pbmt := bits w.toNat 62 61,
          sets := sets ++ (if !pteA w || (d && !pteD w) then [(pa, if d then 0xC0 else 0x40)] else []) }

/-- The second stage of `hgatp` at a guest PA. -/
def State.ioG (s : State) (p hgatp gpa need : Nat) (ade table : Bool) : Except IoStop IoStage :=
  let mode := bits hgatp 63 60
  let bad := IoStop.guest gpa table
  if mode = 0 then .ok { pa := gpa }
  else if 2 ^ (23 + 9 * topLevel mode) ≤ gpa then .error bad
  else match ioLeaf (fun pa => (s.ioLoad p pa).map (fun v => (v, pa, []))) (fun t lv => gpteAddr t gpa lv mode) bad (topLevel mode)
      (bits hgatp 43 0 * 4096) [] with
    | .error e => .error e
    | .ok (w, lv, _, pa, sets) => if pteU w then ioTake w lv pa gpa need ade bad sets else .error bad

/-- A word of a table at a guest PA, with its PA. -/
def State.ioRead (s : State) (p hgatp : Nat) (gade : Bool) (gpa : Nat) : Except IoStop (Nat × Nat × List (Nat × Nat)) :=
  match s.ioG p hgatp gpa 1 gade true with
  | .error e => .error e
  | .ok g => if g.sets ≠ [] then .error (.update g.sets) else (s.ioLoad p g.pa).map (fun v => (v, g.pa, []))

/-- The privilege of a request allows the leaf: supervisor requests reach user pages only with SUM, and never to execute. -/
def ioUser (w : Word) (need : Nat) (priv sum : Bool) : Bool :=
  if priv then !pteU w || (sum && !bitOf need 2) else pteU w

/-- The first stage of `fsc`. -/
def State.ioVs (s : State) (p fsc hgatp va need : Nat) (priv sum sade gade : Bool) : Except IoStop IoStage :=
  let mode := bits fsc 63 60
  if mode = 0 then .ok { pa := va }
  else if !canonical mode (BitVec.ofNat 64 va) then .error .page
  else match ioLeaf (s.ioRead p hgatp gade) (fun t lv => pteAddr t va lv) .page (topLevel mode) (bits fsc 43 0 * 4096) [] with
    | .error e => .error e
    | .ok (w, lv, gpa, pa, sets) =>
      if !ioUser w need priv sum then .error .page
      else match ioTake w lv pa va need sade .page sets with
        | .error e => .error e
        | .ok r =>
          -- a PTE that is updated must be writable in the second stage
          if r.sets.length = sets.length then .ok r
          else (s.ioG p hgatp gpa 3 gade true).map (fun g => { r with sets := r.sets ++ g.sets })

/-! ## Directories -/

/-- A request that the IOMMU translates. `form` is 0 for an untranslated address, 1 for an ATS translation request, 2 for a translated
address. -/
structure IoReq where
  did  : Nat
  pid  : Option Nat := none
  priv : Bool := false
  exec_ : Bool := false
  wr   : Bool := false
  form : Nat := 0
  addr : Nat

/-- Accesses a request needs. -/
def IoReq.need (r : IoReq) : Nat := if r.wr then 2 else if r.exec_ then 4 else 1

/-- A directory read: an access fault and poisoned data have causes of their own. -/
def dirError (acc cor : Nat) : IoStop → IoStop
  | .access => .cause acc
  | .corrupt => .cause cor
  | e => e

/-- The table below a non-leaf directory entry. -/
def dirNext (v miss bad : Nat) : Except IoStop Nat :=
  if v % 2 = 0 then .error (.cause miss) else if bits v 9 1 ≠ 0 ∨ bits v 63 54 ≠ 0 then .error (.cause bad) else .ok (bits v 53 10 * 4096)

/-- The device directory's levels `lv` down to the leaf table of a device. -/
def State.ddtTable (s : State) (p did : Nat) : Nat → Nat → Except IoStop Nat
  | 0, t => .ok t
  | lv + 1, t =>
    match (s.ioLoad p (t + bits (did / 2 ^ (6 + 9 * lv)) 8 0 * 8)).mapError (dirError 257 268) with
    | .error e => .error e
    | .ok v => match dirNext v 258 259 with | .error e => .error e | .ok t => s.ddtTable p did lv t

/-- Words of memory one after the other. -/
def State.ioWords (s : State) (p pa : Nat) : Nat → Except IoStop (List Nat)
  | 0 => .ok []
  | n + 1 => match s.ioLoad p pa with | .error e => .error e | .ok v => (s.ioWords p (pa + 8) n).map (v :: ·)

/-- A stage register names a mode the IOMMU has. -/
def ioMode (m : Nat) : Bool := m == 0 || m == 8 || m == 9 || m == 10

/-- A device context sets a reserved bit or asks for what the IOMMU has not. -/
def dcBad (d : List Nat) : Bool :=
  let tc := d.getD 0 0
  let hg := d.getD 1 0
  let fsc := d.getD 3 0
  let ms := d.getD 4 0
  let pdtv := bitOf tc 5
  bits tc 63 32 != 0 || bits tc 23 12 != 0 || bitOf tc 2 || bitOf tc 3 || bitOf tc 6 || bitOf tc 10 || bitOf tc 11 || (!pdtv && bitOf tc 9) ||
  !ioMode (bits hg 63 60) || (bits hg 63 60 != 0 && bits hg 1 0 != 0) || bits (d.getD 2 0) 11 0 != 0 || bits (d.getD 2 0) 63 32 != 0 ||
  bits fsc 59 44 != 0 || (if pdtv then decide (3 < bits fsc 63 60) else !ioMode (bits fsc 63 60)) ||
  decide (1 < bits ms 63 60) || bits ms 59 44 != 0 || bits (d.getD 5 0) 63 52 != 0 || bits (d.getD 6 0) 63 52 != 0 || d.getD 7 0 != 0

/-- The device context of a device: from the cache of 256, else from the directory. -/
def State.ioDevice (s : State) (p did : Nat) : Except IoStop (List Nat) :=
  let k := s.port p
  match Tab.find k.ddtc did with
  | some d => .ok d
  | none =>
    let mode := k.ioFld 0x10 3 0
    if (mode = 2 ∧ 2 ^ 6 ≤ did) ∨ (mode = 3 ∧ 2 ^ 15 ≤ did) then .error (.cause 260)
    else match s.ddtTable p did (mode - 2) (k.ioFld 0x10 53 10 * 4096) with
      | .error e => .error e
      | .ok t => match (s.ioWords p (t + did % 64 * 64) 8).mapError (dirError 257 268) with
        | .error e => .error e
        | .ok d => if d.getD 0 0 % 2 = 0 then .error (.cause 258) else if dcBad d then .error (.cause 259) else .ok d

/-- The process directory's levels down to the leaf table of a process. -/
def State.pdtTable (s : State) (p hgatp pid : Nat) (gade : Bool) : Nat → Nat → Except IoStop Nat
  | 0, t => .ok t
  | lv + 1, t =>
    match (s.ioRead p hgatp gade (t + bits (pid / 2 ^ (8 + 9 * lv)) 8 0 * 8)).mapError (dirError 265 269) with
    | .error e => .error e
    | .ok (v, _) => match dirNext v 266 267 with | .error e => .error e | .ok t => s.pdtTable p hgatp pid gade lv t

/-- First stage of a request: `fsc`, PSCID, and whether a supervisor request is let through and reaches user pages. -/
structure IoFirst where
  fsc  : Nat := 0
  pscid : Nat := 0
  ens  : Bool := false
  sum  : Bool := false

/-- The process context of a request. -/
def State.ioProcess (s : State) (p : Nat) (d : List Nat) (pid : Nat) : Except IoStop IoFirst :=
  let hg := d.getD 1 0
  let gade := bitOf (d.getD 0 0) 7
  let fsc := d.getD 3 0
  let mode := bits fsc 63 60
  if mode = 0 then .ok {}
  else if (mode = 1 ∧ 2 ^ 8 ≤ pid) ∨ (mode = 2 ∧ 2 ^ 17 ≤ pid) then .error (.cause 260)
  else match s.pdtTable p hg pid gade (mode - 1) (bits fsc 43 0 * 4096) with
    | .error e => .error e
    | .ok t =>
      match (s.ioRead p hg gade (t + pid % 256 * 16)).mapError (dirError 265 269),
            (s.ioRead p hg gade (t + pid % 256 * 16 + 8)).mapError (dirError 265 269) with
      | .error e, _ => .error e
      | _, .error e => .error e
      | .ok (ta, _), .ok (fs, _) =>
        if ta % 2 = 0 then .error (.cause 266)
        else if bits ta 11 3 ≠ 0 ∨ bits ta 63 32 ≠ 0 ∨ !ioMode (bits fs 63 60) ∨ bits fs 59 44 ≠ 0 then .error (.cause 267)
        else .ok { fsc := fs, pscid := bits ta 31 12, ens := bitOf ta 1, sum := bitOf ta 2 }

/-- The first stage a request uses, by its device context and its process ID. -/
def State.ioFirst (s : State) (p : Nat) (d : List Nat) (r : IoReq) : Except IoStop IoFirst :=
  let tc := d.getD 0 0
  if r.form ≠ 0 ∧ !bitOf tc 1 then .error (.cause 260)
  else if !bitOf tc 5 then
    if r.pid.isSome then .error (.cause 260) else .ok { fsc := d.getD 3 0, pscid := bits (d.getD 2 0) 31 12 }
  else match r.pid with
    | none => if bitOf tc 9 then s.ioProcess p d 0 else .ok {}
    | some pid => match s.ioProcess p d pid with
      | .error e => .error e
      | .ok x => if r.priv ∧ !x.ens then .error (.cause 260) else .ok x

/-! ## MSI tables and the translation -/

/-- The bits of `a` that a mask selects, gathered. -/
def gather (a mask : Nat) : Nat :=
  ((List.range 52).foldl (fun (x : Nat × Nat) i => if bitOf mask i then (x.1 + b2n (bitOf a i) * 2 ^ x.2, x.2 + 1) else x) (0, 0)).1

/-- The interrupt file a guest PA names: its number in the flat table of the device context. -/
def ioFile (d : List Nat) (gpa : Nat) : Option Nat :=
  let m := d.getD 5 0
  let a := gpa / 4096
  if bits (d.getD 4 0) 63 60 = 1 ∧ (a ||| m) = (d.getD 6 0 ||| m) then some (gather a m) else none

/-- The PA of an interrupt file; MRIF mode is not implemented. -/
def State.ioMsi (s : State) (p : Nat) (d : List Nat) (file gpa : Nat) : Except IoStop IoStage :=
  match (s.ioLoad p (bits (d.getD 4 0) 43 0 * 4096 + file * 16)).mapError (dirError 261 270) with
  | .error e => .error e
  | .ok v =>
    if v % 2 = 0 then .error (.cause 262)
    else if bits v 2 1 ≠ 3 ∨ bits v 9 3 ≠ 0 ∨ bits v 63 54 ≠ 0 then .error (.cause 263)
    else .ok { pa := bits v 53 10 * 4096 + gpa % 4096, span := 0, perm := 3 }

/-- A translation, and the entry it leaves in the IOTLB. -/
structure IoOk where
  pa   : Nat
  perm : Nat
  span : Nat := 0
  pbmt : Nat := 0
  sets : List (Nat × Nat) := []
  ent  : Option IoTlb

/-- An entry serves a request: its page, its address spaces, its permissions. -/
def IoTlb.serves (e : IoTlb) (gs ps : Option Nat) (vpn need : Nat) (priv sum : Bool) : Bool :=
  e.gs == gs && (e.ps == ps || (e.g && ps.isSome && e.ps.isSome)) && e.vpn / 2 ^ e.span == vpn / 2 ^ e.span && permits e.perm need &&
  (ps.isNone || (if priv then !e.user || (sum && !bitOf need 2) else e.user))

/-- The translation of a request under its device context. -/
def State.ioStages (s : State) (p : Nat) (d : List Nat) (r : IoReq) : Except IoStop IoOk :=
  match s.ioFirst p d r with
  | .error e => .error e
  | .ok x =>
    if r.form = 2 then .ok { pa := r.addr, perm := 7, ent := none }
    else
      let tc := d.getD 0 0
      let hg := d.getD 1 0
      let gs := if bits hg 63 60 = 0 then none else some (bits hg 59 44)
      let ps := if bits x.fsc 63 60 = 0 then none else some x.pscid
      let vpn := r.addr / 4096
      match (s.port p).iotlb.find? (fun e => e.serves gs ps vpn r.need r.priv x.sum) with
      | some e => .ok { pa := e.ppn * 4096 + r.addr % 2 ^ (12 + e.span), perm := e.perm, span := e.span, pbmt := e.pbmt, ent := none }
      | none =>
        match s.ioVs p x.fsc hg r.addr r.need r.priv x.sum (bitOf tc 8) (bitOf tc 7) with
        | .error e => .error e
        | .ok v =>
          match ioFile d v.pa with
          | some n => (s.ioMsi p d n v.pa).map (fun m => { pa := m.pa, perm := m.perm &&& v.perm, sets := v.sets, ent := none })
          | none =>
            match s.ioG p hg v.pa r.need (bitOf tc 7) false with
            | .error e => .error e
            | .ok g =>
              let span := min v.span g.span
              let perm := v.perm &&& g.perm
              let e : IoTlb := { gs := gs, ps := ps, vpn := vpn, span := span, vspan := v.span, ppn := g.pa / 2 ^ (12 + span) * 2 ^ span,
                                 perm := perm, user := v.user, g := v.g, pbmt := if v.pbmt ≠ 0 then v.pbmt else g.pbmt }
              .ok { pa := g.pa, perm := perm, span := span, pbmt := e.pbmt, sets := v.sets ++ g.sets, ent := if gs.isNone && ps.isNone then none else some e }

/-! ## Faults -/

/-- The cause a request's fault records. -/
def IoStop.number (e : IoStop) (need : Nat) : Nat :=
  let pick (x w r : Nat) : Nat := if bitOf need 2 then x else if bitOf need 1 then w else r
  match e with
  | .access => pick 1 7 5
  | .page => pick 12 15 13
  | .guest _ _ => pick 20 23 21
  | .corrupt => 274
  | .cause n => n
  | .wait _ | .update _ => 0

/-- The transaction type of a fault record. -/
def IoReq.ttyp (r : IoReq) : Nat :=
  if r.form = 1 then 8 else (if r.form = 2 then 4 else 0) + (if r.wr then 3 else if r.exec_ then 1 else 2)

/-- `iotval2`: the guest PA of a guest page fault; bit 0 where a table was being read. -/
def IoStop.val2 : IoStop → Nat
  | .guest gpa table => gpa / 4 * 4 + b2n table
  | _ => 0

/-- The 32 bytes of a fault record. -/
def IoReq.record (r : IoReq) (e : IoStop) : List Byte :=
  bytesOf 8 (e.number r.need + r.pid.getD 0 * 2 ^ 12 + b2n r.pid.isSome * 2 ^ 32 + b2n r.priv * 2 ^ 33 + r.ttyp * 2 ^ 34 + r.did * 2 ^ 40) ++
    bytesOf 8 0 ++ bytesOf 8 r.addr ++ bytesOf 8 e.val2

/-- The record of an MSI of the IOMMU itself that failed: cause 273, at its address, of no transaction. -/
def msiRecord (addr : Nat) : IoRecord := bytesOf 8 273 ++ bytesOf 8 0 ++ bytesOf 8 addr ++ bytesOf 8 0

/-- The size of a translation of 2^span pages in the low bits of its page number: all ones up to a zero (the S form of ATS). -/
def spanPage (pa span : Nat) : Nat :=
  let pn := pa / 4096
  if span = 0 ∨ 44 ≤ span then pn else pn / 2 ^ span * 2 ^ span + (2 ^ (span - 1) - 1)

/-- Causes that DTF does not keep out of the fault queue. -/
def ioAlways (n : Nat) : Bool := [256, 257, 258, 259, 268].contains n

end Sys2Proof.Machine
end

