-- ==== Sys2Proof/Machine/RidgeTx.lean ====
section
/-! DEFINITION. What a ridge port puts on its link: packets and link control slots, packed into codewords (R263, R264, R269), the codewords'
symbols on its lanes (R263), and the credits of its three channels (R265). -/

namespace Sys2Proof.Machine

/-- The 32-byte header of a packet, with the CRC-32 over bytes 0 to 23 and the payload (R269). -/
def ridgeHeader (k : RPkt) : List Byte :=
  let body := bytesOf 24 (k.op + k.ver * 2 ^ 8 + k.atop * 2 ^ 12 + k.dst.toNat * 2 ^ 16 + k.src.toNat * 2 ^ 32 + k.tag * 2 ^ 48 +
    k.rport * 2 ^ 60 + b2n k.poison * 2 ^ 63 + k.len * 2 ^ 64 + k.status * 2 ^ 80 + k.addr * 2 ^ 88 + k.cmp.toNat * 2 ^ 128)
  body ++ bytesOf 4 0 ++ bytesOf 4 (crc32 (body ++ k.data))

/-- n payload slots of 32 bytes, the last one padded with zero bytes (R264). -/
def payloadSlots (l : List Byte) (n : Nat) : List (List Byte) :=
  (List.range n).map (fun i => (List.range 32).map (fun j => l.getD (32 * i + j) 0))

/-- The slots of a packet: its header and its payload (R264). -/
def ridgePktSlots (k : RPkt) : List (List Byte) := ridgeHeader k :: payloadSlots k.data ((k.data.length + 31) / 32)

/-- A link control slot by its OP and fields (R264): LINK_ACK [NAK, ACK_SEQ, REQ, PST, RSP]; LINK_IDENT [role, lanes, revision, REQ, PST,
RSP]; NODE_CONFIRM [ID low, ID high, refused]. Bytes not named are zero. -/
def linkSlot (l : List Nat) : List Byte :=
  let g (i : Nat) : Nat := l.getD i 0
  let bytes : List Byte := match g 0 with
    | 0x80 => bytesOf 3 (0x80 + (g 2 + g 1 * 2 ^ 15) * 2 ^ 8) ++ bytesOf 1 0 ++ bytesOf 2 (g 3) ++ bytesOf 2 (g 4) ++ bytesOf 2 (g 5)
    | 0x81 => bytesOf 1 0x81 ++ bytesOf 1 (g 1) ++ bytesOf 1 (g 2) ++ bytesOf 1 (g 3) ++ bytesOf 2 (g 4) ++ bytesOf 2 (g 5) ++ bytesOf 2 (g 6)
    | _ => bytesOf 1 (g 0) ++ bytesOf 1 0 ++ bytesOf 1 (g 1) ++ bytesOf 1 (g 2) ++ bytesOf 1 (g 3)
  (List.range 32).map (fun i => bytes.getD i 0)

/-- The 20-bit header of a data codeword, and of an alignment codeword (R263). -/
def codewordHeader (seq : Nat) : Nat := 2 + seq * 4
def alignHeader (seq : Nat) : Nat := 1 + seq * 4

/-- The slots of an alignment codeword carry lane numbers (R263): slot i that of lane i mod w, in its first byte (DESIGN CHOICE, log
entry 40: the spec gives no place for them). -/
def alignSlots (w : Nat) : List (List Byte) :=
  (List.range 20).map (fun i => BitVec.ofNat 8 (i % max w 1) :: (List.range 31).map (fun _ => (0 : Byte)))

/-- The 544 symbols of a codeword: 514 of message, its header in the lowest bits and then its slots, and 30 of check. The code is
RS(544,514) of IEEE 802.3 over GF(2^10) with polynomial x^10 + x^3 + 1 (R263; the standard's numbers are PRESUMED, log entry 40). -/
def codewordSymbols (c : Nat × List (List Byte)) : List Nat :=
  let v := c.1 + ofBytes c.2.flatten * 2 ^ 20
  let msg := (List.range 514).map (fun k => v / 2 ^ (10 * k) % 1024)
  msg ++ rsParity 10 0x409 (rsGen 10 0x409 0 30) msg

/-- The symbols of a codeword that lane l of w carries: striped in 10-bit symbols, lane 0 first (R263). -/
def codewordLane (w l : Nat) (c : Nat × List (List Byte)) : List Nat :=
  ((codewordSymbols c).zipIdx.filter (fun e => e.2 % max w 1 == l)).map (·.1)

/-- The PAM4 level of two bits, Gray-mapped (R263). -/
def pam4 (n : Nat) : Nat := [0, 1, 3, 2].getD (n % 4) 0

/-- One codeword goes onto the link. The last 256 are kept for a replay (R265). -/
def Ridge.push (r : Ridge) (head : Nat → Nat) (body : List (List Byte)) (since : Nat) : Ridge :=
  let l := r.sent ++ [(head r.txSeq, body)]
  { r with sent := l.drop (l.length - 256), txSeq := (r.txSeq + 1) % 1024, sinceAlign := since, sinceAck := r.sinceAck + 1 }

/-- n codewords of 20 slots; IDLE slots fill the last one (R263, R264). One of every 16,384 codewords is for alignment. -/
def Ridge.codewords (r : Ridge) (slots : List (List Byte)) (n : Nat) : Ridge :=
  match n with
  | 0 => r
  | m + 1 =>
    let r := if 16383 ≤ r.sinceAlign then r.push alignHeader (alignSlots r.width) 0 else r
    let body := (List.range 20).map (fun i => slots.getD i ((List.range 32).map (fun _ => (0 : Byte))))
    Ridge.codewords (r.push codewordHeader body (r.sinceAlign + 1)) (slots.drop 20) m

/-- Slots sent as they are. -/
def Ridge.putSlots (r : Ridge) (slots : List (List Byte)) : Ridge := r.codewords slots ((slots.length + 19) / 20)

/-- A link control slot sent. -/
def Ridge.sendLink (r : Ridge) (l : List Nat) : Ridge := ({ r with linkOut := r.linkOut ++ [l] } : Ridge).putSlots [linkSlot l]

/-- LINK_ACK with a NAK bit: the last good SEQ and what has been freed (R264, R265). -/
def Ridge.ackSlot (r : Ridge) (nak : Nat) : List Nat := [0x80, nak, r.rxSeq, r.freed.1, r.freed.2.1, r.freed.2.2]
/-- LINK_ACK sent. -/
def Ridge.sendAck (r : Ridge) (nak : Nat) : Ridge := { r.sendLink (r.ackSlot nak) with sinceAck := 0 }

/-- Slots sent, after a LINK_ACK where 32 codewords would pass without one (R265). -/
def Ridge.put (r : Ridge) (slots : List (List Byte)) : Ridge :=
  (if 32 ≤ r.sinceAck + (slots.length + 19) / 20 + 1 then r.sendAck 0 else r).putSlots slots

/-! ## Credits (R264, R265) -/

/-- Slots of a packet with n bytes of payload: its header and the payload behind it (R264). -/
def ridgeSlots (n : Nat) : Nat := 1 + (n + 31) / 32

/-- The channel of an operation: 0 REQ, 1 PST, 2 RSP (R265, R270). -/
def ridgeVc (op : Nat) : Nat := if op = 3 then 1 else if op = 8 then 2 else 0
/-- One of three counts, and one of them changed. -/
def third (t : Nat × Nat × Nat) (v : Nat) : Nat := if v = 0 then t.1 else if v = 1 then t.2.1 else t.2.2
def addThird (t : Nat × Nat × Nat) (v n : Nat) : Nat × Nat × Nat :=
  if v = 0 then ((t.1 + n) % 65536, t.2) else if v = 1 then (t.1, (t.2.1 + n) % 65536, t.2.2) else (t.1, t.2.1, (t.2.2 + n) % 65536)

/-- The partner's buffer of a channel holds credit for n more slots; 0xFFFF means unlimited. -/
def Ridge.credit (r : Ridge) (v n : Nat) : Bool :=
  let far := third (r.farReq, r.farPst, r.farRsp) v
  far == 0xFFFF || decide ((third r.sentSl v + 65536 - third r.farFreed v) % 65536 + n ≤ far)

/-- n slots of a channel sent. -/
def Ridge.spend (r : Ridge) (v n : Nat) : Ridge := { r with sentSl := addThird r.sentSl v n }

/-- A packet on the link. -/
def Ridge.emit (r : Ridge) (k : RPkt) : Ridge :=
  ({ (r.spend (ridgeVc k.op) (ridgeSlots k.data.length)) with answers := r.answers ++ [k] } : Ridge).put (ridgePktSlots k)

/-- A packet sent to another node; one to the node itself stays in the package (R268). A RESP waits for the partner's credit behind those that
wait; of a request the sender has made sure of it. -/
def Ridge.sendPkt (r : Ridge) (own : Bool) (k : RPkt) : Ridge :=
  if own then { r with loop := r.loop ++ [k] }
  else if k.op = 8 ∧ (r.rspQ ≠ [] ∨ !r.credit 2 (ridgeSlots k.data.length)) then { r with rspQ := r.rspQ ++ [k] }
  else r.emit k

/-- RESPs that wait and have credit go, at most n. -/
def Ridge.drainRsp (r : Ridge) (n : Nat) : Ridge :=
  match n, r.rspQ with
  | m + 1, k :: l => if r.credit 2 (ridgeSlots k.data.length) then Ridge.drainRsp (({ r with rspQ := l } : Ridge).emit k) m else r
  | _, _ => r

/-- The codewords after SEQ `ack` that are still held are sent again (R265). -/
def Ridge.replayFrom (r : Ridge) (ack : Nat) : Ridge :=
  let behind := (r.txSeq + 1023 - ack) % 1024
  { r with again := (r.sent.drop (r.sent.length - min behind r.sent.length)).map (fun e => e.1 / 4) }

end Sys2Proof.Machine
end

