-- ==== Sys2Proof/Machine/Windows.lean ====
section
/-! DEFINITION. The register windows: selection (R345 to R348), the value every register reads (R246, R278, R311, R352
to R360, R211), the effect of a write (R343, R351, R354, R358), the CBQRI operations (R150, R244, R359), and the rest
of the control space that harts reach (R76 to R80, R288, R341). -/

namespace Sys2Proof.Machine

/-! ## Ports and selection -/

/-- The number of an access port: HOST copy of frame f, 4 PLUMB, 5 DEBUG. -/
def apNo : AccessPort → Nat
  | .host f => f
  | .plumb => 4
  | .debug => 5
/-- The frame of a HOST copy. -/
def apFrame : AccessPort → Option Nat
  | .host f => some f
  | _ => none
/-- The number of a window (R350). -/
def winNo : Win → Nat
  | .global => 0 | .stud => 1 | .bay => 2 | .mch => 3 | .port => 4 | .lane => 5 | .tenon => 6 | .dom => 7
  | .frame => 8 | .nq => 9 | .cmdq => 10 | .qos => 11 | .upmu => 12
/-- The window of a number. -/
def winOf (n : Nat) : Option Win :=
  [Win.global, .stud, .bay, .mch, .port, .lane, .tenon, .dom, .frame, .nq, .cmdq, .qos, .upmu][n]?

def selKey (ap : AccessPort) (w : Win) : Nat := 16 * apNo ap + winNo w

/-- The instances that exist (R346). -/
def State.instances (s : State) : Win → List Nat
  | .stud | .bay | .tenon => List.range 12
  | .mch => List.range 16
  | .port => List.range 8
  | .lane => List.range 128
  | .dom => List.range 30
  | .frame | .nq | .cmdq => framesOf s.mode
  | .qos => List.range 12 ++ [16, 17, 18, 19]
  | .upmu => List.range 12 ++ (List.range 16).map (16 + ·) ++ (List.range 8).map (32 + ·) ++ (List.range 12).map (48 + ·)
  | .global => []

/-- The frames that hold an instance (R346). -/
def State.instFrames (s : State) (w : Win) (i : Nat) : List Nat :=
  let m := s.mode
  match w with
  | .stud | .bay | .tenon => [Machine.frameOfStud m i]
  | .mch => [frameOfChan m i]
  | .port => [Machine.frameOfPort m i]
  | .lane => [Machine.frameOfPort m (i / 16)]
  | .dom => holdersOf m i
  | .frame | .nq | .cmdq => [i]
  | .qos => if i < 12 then [Machine.frameOfStud m i] else [frameOfQuad m (i - 16)]
  | .upmu =>
    if i < 16 then [Machine.frameOfStud m i] else if i < 32 then [frameOfChan m (i - 16)]
    else if i < 48 then [Machine.frameOfPort m (i - 32)] else [Machine.frameOfStud m (i - 48)]
  | .global => []

/-- The instances a port may select (R346). -/
def State.selectable (s : State) (ap : AccessPort) (w : Win) : List Nat :=
  match ap with
  | .host f => (s.instances w).filter (fun i => (s.instFrames w i).contains f)
  | _ => s.instances w

/-- INSTANCE after reset (R348). -/
def State.selReset (s : State) (ap : AccessPort) (w : Win) : Nat :=
  match ap with
  | .host _ => (s.selectable ap w).headD 0
  | _ => 0
/-- SEL.INSTANCE (R345); in NQ and CMDQ a HOST copy reads its frame (R346). -/
def State.selInst (s : State) (ap : AccessPort) (w : Win) : Nat :=
  match ap, w with
  | .host f, .nq => f
  | .host f, .cmdq => f
  | _, _ => Tab.get s.sel.inst (s.selReset ap w) (selKey ap w)
/-- SEL.INVALID (R347). -/
def State.selInvalid (s : State) (ap : AccessPort) (w : Win) : Bool :=
  match w with
  | .global => false
  | _ => !(s.selectable ap w).contains (s.selInst ap w)
/-- SEL as read. -/
def State.selWord (s : State) (ap : AccessPort) (w : Win) : Word :=
  match w with
  | .global => 0
  | _ => BitVec.ofNat 64 (b2n (s.selInvalid ap w) * 2 ^ 31 + s.selInst ap w)
/-- SEL_INFO as read (R345). -/
def State.selInfo (s : State) (ap : AccessPort) (w : Win) : Word :=
  match w with
  | .global => 0
  | _ => BitVec.ofNat 64 ((s.selectable ap w).length * 256 + (s.instances w).length)

/-- A dropped HOST access logged in FRAME_CSERR (R357). -/
def State.csDrop (s : State) (f cause inst off : Nat) : State :=
  let fr := s.frame f
  let w := fr.csErr
  let n := satAdd 16 (fld w 63 48) 1
  let w := if w.getLsbD 47 then setFld w 63 48 n
    else BitVec.ofNat 64 (n * 2 ^ 48 + 2 ^ 47 + cause * 2 ^ 44 + inst % 256 * 2 ^ 32 + off % 2 ^ 32)
  s.setFrame f { fr with csErr := w }

/-- The offset of an access of a register: its upper half lies 4 bytes on (R343). -/
def partOff (off : Nat) (part : Part) : Nat := if part = .hi then off + 4 else off

/-- A drop logged by its port (R347). -/
def State.dropOn (s : State) (ap : AccessPort) (cause inst off : Nat) : State :=
  match ap with
  | .host f => s.csDrop f cause inst off
  | .plumb => s.cmdEvent 0
  | .debug => s.cmdEvent 1

/-! ## What registers read -/

/-- The personality record in force for the next reset: the stored one, or the default of R282. -/
def State.storedPers (s : State) (p : Nat) : Pers :=
  Tab.get s.plumb.flash.pers (if p = 0 then { pers := 3, lanes := 16, rec_ := true } else {}) p

/-- Cores of stud n in DEEP; a held core counts (R441). -/
def State.deepCount (s : State) (n : Nat) : Nat :=
  ((coresOf n).filter (fun c => (s.core c).run == .deep || (s.core c).run == .held)).length

def State.studInfo (s : State) (n : Nat) : Word :=
  let k := s.stud n
  BitVec.ofNat 64 (s.deepCount n * 2 ^ 40 + k.cores * 2 ^ 8 + k.state)

def Home.bayCtl (h : Home) : Word := BitVec.ofNat 64 (2 * b2n h.wt + b2n (h.en && !h.arrayFail))
def Home.bayStatus (h : Home) : Word :=
  BitVec.ofNat 64 (h.bmrs.length * 2 ^ 22 + h.dirQ.length * 2 ^ 15 + h.lockW * 2 ^ 12 + h.bench * 2 ^ 8 +
    2 * b2n h.cmdBusy + b2n h.arrayFail)

/-- Bit vector of the ranks with a property. -/
def Chan.rankMask (c : Chan) (p : Rank → Bool) : Nat := maskOf ((c.ranks.filter (fun e => p e.2)).map (·.1))
def Chan.info (c : Chan) : Word :=
  BitVec.ofNat 64 ((if c.st = 2 then c.res.gib else 0) * 2 ^ 48 + (if c.st = 2 then c.rate else 0) * 2 ^ 32 +
    (if c.st = 2 then Nat.log2 c.nr * 2 ^ 24 + c.res.density * 2 ^ 22 else 0) +
    (if 2 ≤ c.st then c.res.type * 2 ^ 20 + c.res.dpc * 2 ^ 18 else 0) +
    b2n c.clearDone * 16 + b2n (c.saved && decide (c.st = 2)) * 8 + c.st)
/-- MCH registers by offset (R246). -/
def Chan.read (c : Chan) (off : Nat) : Word :=
  match off with
  | 0x100 => c.info
  | 0x108 => c.sched
  | 0x110 => c.refresh ||| BitVec.ofNat 64 (c.rankMask (·.hot) * 2 ^ 8)
  | 0x118 => c.rh
  | 0x120 => c.pwr ||| BitVec.ofNat 64 (c.rankMask (·.sr) * 2 ^ 16)
  | 0x128 => c.ecc ||| BitVec.ofNat 64 (maskOf (Tab.keys c.marks))
  | 0x130 => c.patrolCtl ||| BitVec.ofNat 64 (min 1000 (c.patrol * 1000 / max 1 c.lines) * 2 ^ 32 + c.passes * 2 ^ 16)
  | _ => 0

/-- QUARANTINED of a port (R311). -/
def Port.quarCount (p : Port) : Nat := p.roots.foldl (fun n e => n + e.2.quar.length) p.dt.quar.length

/-- PORT registers by offset (R278, R311). -/
def State.portRead (s : State) (n off : Nat) : Word :=
  let p := s.port n
  let st := s.storedPers n
  match off with
  | 0x100 => BitVec.ofNat 64 (st.lanes * 2 ^ 48 + st.pers * 2 ^ 45 + b2n st.rec_ * 2 ^ 44 + p.lanes * 2 ^ 24 +
      p.pers * 2 ^ 21 + b2n (p.pers == 3 && p.dt.linkWas) * 2 ^ 20 + s.frameOfPort n * 2 ^ 16)
  | 0x108 => if 1 ≤ p.pers ∧ p.pers ≤ 3 then p.devCtl else 0
  | 0x110 =>
    if p.pers = 0 ∨ 4 ≤ p.pers then 0
    else BitVec.ofNat 64 (p.unexpCpl * 2 ^ 48 + p.dropped * 2 ^ 32 + p.quarCount * 2 ^ 20 +
      (if p.pers = 3 then p.dt.link * 2 ^ 12 + b2n p.dt.bme * 2 ^ 11 + b2n p.dt.mse * 2 ^ 10 else 0))
  | 0x118 =>
    if p.pers ≠ 4 then 0
    else let u := p.purlin
      BitVec.ofNat 64 (u.retrains * 2 ^ 24 + u.refuse * 2 ^ 20 + u.role * 2 ^ 17 + u.far.frame % 4 * 2 ^ 15 +
        u.far.port % 8 * 2 ^ 12 + u.far.pkg % 8 * 2 ^ 9 + u.width * 2 ^ 4 + u.st)
  | 0x120 => if p.pers ≠ 5 then 0 else p.ridge.ctl
  | 0x128 =>
    if p.pers ≠ 5 then 0
    else let r := p.ridge
      let fr := s.frame (s.frameOfPort n)
      BitVec.ofNat 64 (r.out.length * 2 ^ 27 + b2n r.mismatch * 2 ^ 26 + b2n fr.node * 2 ^ 25 +
        (if fr.node then fr.nodeId else 0) * 2 ^ 9 + b2n r.at64 * 2 ^ 8 + r.width * 2 ^ 3 + r.st)
  | _ => 0

/-- The RATE of a trained link that lane l of a port carries, or 0 (R248, R263, R355). -/
def Port.laneRate (p : Port) (l : Nat) : Nat :=
  match p.pers with
  | 1 | 2 => (p.roots.find? (fun e => e.2.up && decide (2 * e.1 ≤ l) && decide (l < 2 * e.1 + e.2.width))).elim 0 (·.2.rate)
  | 3 => if 2 ≤ p.dt.link ∧ l < p.dt.width then p.dt.rate else 0
  | 4 => if (p.purlin.st = 2 ∨ p.purlin.st = 3) ∧ l < p.purlin.width then 7 else 0
  | 5 => if p.ridge.width ≠ 0 ∧ l < p.ridge.width then (if p.ridge.at64 then 6 else 7) else 0
  | _ => 0
/-- LANE_STATUS (R355): what the spec does not fix of a trained lane stands in `Config.laneEye` (log entry 2). -/
def State.laneRead (s : State) (l : Nat) : Word :=
  let p := s.port (l / 16)
  let r := p.laneRate (l % 16)
  let e := Tab.get p.laneErr 0 (l % 16)
  if r = 0 then BitVec.ofNat 64 (e * 2 ^ 32)
  else (Config.laneEye l s.free &&& 0xFFFF00FC) ||| BitVec.ofNat 64 (e * 2 ^ 32 + r * 2 ^ 8 + 3)

/-- RETIRED groups, and working groups including group 63, of a direction (R211). -/
def popCount (n : Nat) : Nat := ((List.range 64).filter (fun i => bitOf n i)).length
/-- The width of a direction (R201, R202): without the group under test. -/
def TenonDir.width (d : TenonDir) : Nat := 64 - popCount d.retired - b2n (d.testing.any (fun g => !bitOf d.retired g))
/-- TENON_STATUS (R211): a link that is DOWN or trains has no agreed groups yet. -/
def Tenon.status (t : Tenon) : Word :=
  let u := popCount t.up.retired
  let d := popCount t.dn.retired
  let on := 2 ≤ t.st
  BitVec.ofNat 64 (t.st * 2 ^ 37 + b2n (decide (8 < u) || decide (8 < d)) * 2 ^ 36 +
    b2n (t.up.testing.isSome || t.dn.testing.isSome) * 2 ^ 35 + t.attempts * 2 ^ 32 + d * 2 ^ 24 + u * 2 ^ 16 +
    (if on then t.dn.width * 2 ^ 8 + t.up.width else 0))

/-- The rail voltage of a domain in mV (R374). -/
def State.domVoltOf (s : State) (d : Nat) : Nat :=
  if 2 ≤ d ∧ d < 14 then
    (match s.domStateOf d with | 4 => 0 | 2 => 450 | 1 => 600 | _ => (s.stud (d - 2)).mvolt)
  else Tab.get s.power.domVolt 0 d
/-- VOTE of a domain: the request of frame f in two bits (R356). -/
def State.domVotes (s : State) (d : Nat) : Nat :=
  (holdersOf s.mode d).foldl (fun n f => n + Tab.get s.power.votes 0 (4 * d + f) % 4 * 2 ^ (2 * f)) 0
def State.domRead (s : State) (d : Nat) : Word :=
  BitVec.ofNat 64 (min 65535 (Tab.get s.power.domPower 0 d / 10) * 2 ^ 48 + s.domVoltOf d * 2 ^ 32 +
    s.domVotes d * 2 ^ 16 + s.domStateOf d)

/-- A stud that works: RUNNING or halted (R357). -/
def State.studWorks (s : State) (n : Nat) : Bool := (s.stud n).state == 0 || (s.stud n).state == 2

/-- FRAME_INFO (R357). -/
def State.frameInfo (s : State) (f : Nat) : Word :=
  let fr := s.frame f
  BitVec.ofNat 64 (fr.joinSt * 2 ^ 54 + (if joinedMode s.mode then s.plumb.pkgId * 2 ^ 51 else 0) +
    b2n fr.degraded * 2 ^ 50 + f * 2 ^ 48 + maskOf (portsOf s.mode f) * 2 ^ 40 +
    (if fr.trained then maskOf ((chansOf s.mode f).filter (fun c => (s.chan c).st == 2)) * 2 ^ 24 else 0) +
    maskOf (studsOf s.mode f) * 2 ^ 12 + maskOf ((studsOf s.mode f).filter s.studWorks))
/-- FRAME_DRAM (R357). -/
def State.frameDram (s : State) (f : Nat) : Word :=
  BitVec.ofNat 64 ((s.frame f).topGib * 2 ^ 32 + (s.frame f).sGib)

/-- NQ_STATUS (R358). -/
def NQueue.status (q : NQueue) : Word := BitVec.ofNat 64 (maskOf (Tab.keys q.markers) * 2 ^ 12 + q.count)

/-- Commands of a transport instance that are outstanding (R314). -/
def State.outstanding (s : State) (t : TInst) : Nat :=
  (s.plumb.jobs.filter (fun j => j.t == t && !j.lost)).length + (s.plumb.dead.filter (fun e => e.t == t)).length

/-- CMDQ registers by offset (R350, R358). -/
def State.cmdqRead (s : State) (f off : Nat) : Word :=
  let r := (s.frame f).ring
  match off with
  | 0x100 => r.cmdBase
  | 0x108 => BitVec.ofNat 64 r.cmdTail
  | 0x110 => BitVec.ofNat 64 r.cmdHead
  | 0x118 => r.rplBase
  | 0x120 => BitVec.ofNat 64 r.rplHead
  | 0x128 => BitVec.ofNat 64 r.rplTail
  | 0x130 => r.cfg
  | 0x138 => BitVec.ofNat 64 (s.outstanding { kind := .ring, inst := f } * 2 ^ 8 + 2 * b2n r.ringErr + b2n r.ready)
  | _ => 0

/-- The CBQRI controller of a QOS instance (R346). -/
def State.cbqri (s : State) (i : Nat) : Cbqri := if i < 12 then (s.home i).cap else s.bw (i - 16)
def State.setCbqri (s : State) (i : Nat) (c : Cbqri) : State :=
  if i < 12 then s.setHome i { s.home i with cap := c } else s.setBw (i - 16) c

/-- CBQRI registers by offset (R359); the layout is CBQRI's (PRESUMED, log entry 10). -/
def State.qosRead (s : State) (i off : Nat) : Word :=
  let c := s.cbqri i
  match off with
  | 0x100 => if i < 12 then BitVec.ofNat 64 (16 * 2 ^ 8 + 0x10) else BitVec.ofNat 64 (1000 * 2 ^ 32 + 1000 * 2 ^ 8 + 0x10)
  | 0x108 => c.monCtl
  | 0x110 => c.monVal
  | 0x118 => c.allocCtl
  | 0x120 => c.limit
  | _ => 0

/-- UPMU registers by offset (R360). -/
def Upmu.read (u : Upmu) (off : Nat) : Word :=
  let k := (off - 0x100) / 16
  if off < 0x100 ∨ 4 ≤ k then 0
  else if off % 16 = 0 then Tab.get u.ctl 0 k else if off % 16 = 8 then Tab.get u.cnt 0 k else 0

/-- What instance i of a window reads at an offset from 0x100 on; NQ_POP apart (R345, R350). -/
def State.regRead (s : State) (w : Win) (i off : Nat) : Word :=
  match w with
  | .global =>
    if off = 0x100 then BitVec.ofNat 64 (((s.plumb.running.mode.getD (0, 0xFFF)).2) * 2 ^ 16 + s.plumb.pendMode * 2 ^ 8 +
      s.plumb.active)
    else if off = 0x108 then BitVec.ofNat 64 (b2n s.plumb.dbgOpen) else 0
  | .stud => if off = 0x100 then s.studInfo i else 0
  | .bay => if off = 0x100 then (s.home i).bayCtl else if off = 0x108 then (s.home i).bayStatus else 0
  | .mch => (s.chan i).read off
  | .port => s.portRead i off
  | .lane => if off = 0x100 then s.laneRead i else 0
  | .tenon => if off = 0x100 then (s.tenon i).status else if off = 0x108 then s.threshold else 0
  | .dom => if off = 0x100 then s.domRead i else 0
  | .frame =>
    if off = 0x100 then s.frameInfo i else if off = 0x108 then s.frameDram i
    else if off = 0x110 then (s.frame i).csErr else 0
  | .nq =>
    let fr := s.frame i
    if off = 0x108 then fr.nq.status else if off = 0x110 then BitVec.ofNat 64 fr.nqLevel
    else if off = 0x118 then BitVec.ofNat 64 fr.nqTimeout else 0
  | .cmdq => s.cmdqRead i off
  | .qos => s.qosRead i off
  | .upmu => (s.upmu i).read off

/-! ## What writes do -/

/-- MCH writes (R246): a field outside its range leaves the register unchanged. -/
def Chan.write (c : Chan) (off : Nat) (v : Word) : Chan :=
  match off with
  | 0x108 =>
    let hi := fld v 31 24
    let lo := fld v 23 16
    let pi := fld v 15 8
    let ac := fld v 7 0
    if 8 ≤ hi ∧ hi ≤ 96 ∧ lo < hi ∧ pi ≤ 200 ∧ 1 ≤ ac ∧ ac ≤ 100 then { c with sched := v &&& 0xFFFFFFFF } else c
  | 0x110 => if fld v 7 4 ≤ 4 then ({ c with refresh := v &&& 0xF1 } : Chan).overdue else c
  | 0x118 =>
    let brc := fld v 11 8
    let k := fld v 4 0
    if 1 ≤ brc ∧ brc ≤ 4 ∧ 8 ≤ k ∧ k ≤ 20 then { c with rh := v &&& 0xCF1F } else c
  | 0x120 => if fld v 15 6 ≤ 1000 then { c with pwr := v &&& 0xFFFF } else c
  | 0x128 => if 4 ≤ fld v 47 40 then { c with ecc := v &&& 0xFF8000000000 } else c
  | 0x130 =>
    let h := fld v 7 0
    if 1 ≤ h ∧ h ≤ 168 then { c with patrolCtl := v &&& 0x1FF } else c
  | _ => c

/-- PORT writes (R278, R311). -/
def Port.write (p : Port) (off : Nat) (v : Word) : Port :=
  if off = 0x108 ∧ 1 ≤ p.pers ∧ p.pers ≤ 3 then { p with devCtl := v &&& 0x1FFFF0000 }
  else if off = 0x120 ∧ p.pers = 5 then
    let t := fld v 15 0
    if 1 ≤ t ∧ t ≤ 10000 then { p with ridge := { p.ridge with ctl := v &&& 0x7FFFFFFF } } else p
  else p

/-- BAY_CTL (R354): EN reads 0 and takes no write while ARRAY_FAIL = 1. -/
def Home.writeCtl (h : Home) (v : Word) : Home :=
  { h with wt := v.getLsbD 1, en := if h.arrayFail then h.en else v.getLsbD 0 }

/-- A write of a CFG register of R302: the new register, and whether the command and the reply ring start. -/
def ringCfgWrite (old v : Word) : Word × Bool × Bool :=
  let v := v &&& 0xFF03
  let cl := fld v 11 8
  let rl := fld v 15 12
  if cl < 4 ∨ 8 < cl ∨ rl < 4 ∨ 8 < rl then (old, false, false)
  else
    let w := if old.getLsbD 0 then setFld v 11 8 (fld old 11 8) else v
    let w := if old.getLsbD 1 then setFld w 15 12 (fld old 15 12) else w
    (w, !old.getLsbD 0 && w.getLsbD 0, !old.getLsbD 1 && w.getLsbD 1)

/-- CMDQ_CFG (R302, R358): BASE and LOG take effect when EN rises; head and tail become 0. -/
def Ring.writeCfg (r : Ring) (v : Word) : Ring :=
  let (w, cs, rs) := ringCfgWrite r.cfg v
  let r := { r with cfg := w }
  let r := if cs then { r with cmdInF := r.cmdBase, logInF := (fld w 11 8, r.logInF.2), cmdHead := 0, cmdTail := 0 } else r
  if rs then { r with rplInF := r.rplBase, logInF := (r.logInF.1, fld w 15 12), rplHead := 0, rplTail := 0 } else r

/-- A base register: bits [55:13]; ignored while the ring is enabled (R302, R358). -/
def ringBase (en : Bool) (old v : Word) : Word := if en then old else v &&& 0x00FFFFFFFFFFE000

/-- CMDQ writes by offset; `full` is the whole resulting value. A base, which spans bit 32, takes only an 8-byte write, and the doorbell only a
write of its low half (R343). -/
def Ring.write (r : Ring) (off : Nat) (part : Part) (full raw : Word) : Ring :=
  match off with
  | 0x100 => if part = .full then { r with cmdBase := ringBase (r.cfg.getLsbD 0) r.cmdBase full } else r
  | 0x108 => if part ≠ .hi then { r with cmdTail := fld full 7 0 % 2 ^ r.logInF.1 } else r
  | 0x118 => if part = .full then { r with rplBase := ringBase (r.cfg.getLsbD 1) r.rplBase full } else r
  | 0x120 => { r with rplHead := fld full 7 0 % 2 ^ r.logInF.2 }
  | 0x130 => r.writeCfg full
  | 0x138 => if raw.getLsbD 1 then { r with ringErr := false } else r
  | _ => r

/-- TENON_THRESH (R212). -/
def threshWrite (old v : Word) : Word :=
  let l := fld v 23 16
  let r := fld v 15 8
  let w := fld v 7 0
  if 1 ≤ l ∧ l ≤ 100 ∧ 1 ≤ r ∧ r ≤ 100 ∧ 4 ≤ w ∧ w ≤ 64 then v &&& 0xFFFFFF else old

/-- The block kind of a UPMU instance: 0 bay, 1 channel, 2 port, 3 tenon (R468). -/
def upmuKind (i : Nat) : Nat := if i < 16 then 0 else if i < 32 then 1 else if i < 48 then 2 else 3
/-- The event codes a kind implements (R468); code 0 selects none (log entry 11). -/
def upmuEvent (kind e : Nat) : Bool :=
  e == 0 || e == 1 ||
  (match kind with
   | 0 => (decide (0x10 ≤ e) && decide (e ≤ 0x15)) || (decide (0x20 ≤ e) && decide (e ≤ 0x28)) || e == 0x30
   | 1 => decide (0x10 ≤ e) && decide (e ≤ 0x21)
   | 2 => decide (0x10 ≤ e) && decide (e ≤ 0x18)
   | _ => (decide (0x10 ≤ e) && decide (e ≤ 0x14)) || (decide (0x18 ≤ e) && decide (e ≤ 0x1C)) ||
          (decide (0x20 ≤ e) && decide (e ≤ 0x25)))

/-- UPMU writes (R360): an EVENT the block does not implement leaves the register unchanged. COUNT, which spans bit 32, takes only an 8-byte
write (R343). -/
def Upmu.write (u : Upmu) (kind off : Nat) (part : Part) (full raw : Word) : Upmu :=
  let k := (off - 0x100) / 16
  if off < 0x100 ∨ 4 ≤ k then u
  else if off % 16 = 0 then
    if upmuEvent kind (fld full 15 0) then
      let old := Tab.get u.ctl 0 k
      let ovf := old &&& 0x40000 &&& ~~~ raw
      { u with ctl := Tab.put u.ctl 0 k ((full &&& 0xFF81FFFF) ||| ovf) }
    else u
  else if off % 16 = 8 ∧ part = .full then { u with cnt := Tab.put u.cnt 0 k full } else u

/-- Lines of a bay's caching ways that satisfy a test (R151). -/
def Home.countLines (h : Home) (p : BayLine → Bool) : Nat :=
  (h.cache.filter (fun e => decide (h.bench ≤ e.1 % 16) && decide (e.1 % 16 < 16 - h.lockW) && p e.2)).length

/-- CBQRI status numbers (PRESUMED, log entry 10): 1 success, 2 operation not supported, 3 identifier, 4 event,
5 limit. -/
def cbqriStatus (ctl : Word) (st : Nat) : Word := setFld ctl 38 32 st

/-- A monitoring operation of controller i (R150, R244). -/
def State.cbqriMon (s : State) (i : Nat) (v : Word) : State :=
  let c := s.cbqri i
  let ctl := v &&& 0x1FFFFFFF
  let op := fld v 4 0
  let at_ := fld v 7 5
  let id := fld v 19 8
  let ev := fld v 27 20
  let done (c : Cbqri) (st : Nat) : State := s.setCbqri i { c with monCtl := cbqriStatus ctl st }
  if op ≠ 1 ∧ op ≠ 2 then done c 2
  else if 256 ≤ id then done c 3
  else if at_ ≠ 0 ∧ v.getLsbD 28 then done c 2
  else if op = 1 then
    if (i < 12 ∧ 1 < ev) ∨ (12 ≤ i ∧ 3 < ev) then done c 4
    else done { c with monEv := Tab.put c.monEv 0 id ev, rd := Tab.erase c.rd id, wr := Tab.erase c.wr id } 1
  else
    let ev := Tab.get c.monEv 0 id
    let n := if i < 12 then (if ev = 1 then (s.home i).countLines (·.mcid == id) else 0)
      else match ev with
        | 1 => Tab.get c.rd 0 id + Tab.get c.wr 0 id
        | 2 => Tab.get c.rd 0 id
        | 3 => Tab.get c.wr 0 id
        | _ => 0
    done { c with monVal := BitVec.ofNat 64 (n % 2 ^ 63) } 1

/-- An allocation operation of controller i (R150, R153, R244). -/
def State.cbqriAlloc (s : State) (i : Nat) (v : Word) : State :=
  let c := s.cbqri i
  let ctl := v &&& 0xFFFFF
  let op := fld v 4 0
  let id := fld v 19 8
  let done (c : Cbqri) (st : Nat) : State := s.setCbqri i { c with allocCtl := cbqriStatus ctl st }
  if op ≠ 1 ∧ op ≠ 2 then done c 2
  else if 64 ≤ id then done c 3
  else if fld v 7 5 ≠ 0 then done c 2
  else if i < 12 then
    if op = 1 then
      let m := fld c.limit 15 0
      if m = 0 then done c 5 else done { c with masks := Tab.put c.masks 0xFFFF id m } 1
    else done { c with limit := BitVec.ofNat 64 (Tab.get c.masks 0xFFFF id) } 1
  else if op = 1 then
    let b := fld c.limit 15 0
    let rbwb := Tab.put c.rbwb 0 id b
    if 1000 < rbwb.foldl (fun n e => n + e.2) 0 then done c 5
    else done { c with rbwb := rbwb, weight := Tab.put c.weight 255 id (fld c.limit 27 20) } 1
  else done { c with limit := BitVec.ofNat 64 (Tab.get c.rbwb 0 id + Tab.get c.weight 255 id * 2 ^ 20) } 1

/-- Writes of a QOS register; a control register runs its operation when its low half is written. -/
def State.qosWrite (s : State) (i off : Nat) (lo : Bool) (full : Word) : State :=
  match off with
  | 0x108 => if lo then s.cbqriMon i full else s
  | 0x118 => if lo then s.cbqriAlloc i full else s
  | 0x120 => s.setCbqri i { s.cbqri i with limit := if i < 12 then full &&& 0xFFFF else full &&& 0xFFFFFFFF }
  | _ => s

/-- A CMDQ write; a ring enable that is cleared loses the ring: its commands run on without replies (R326). -/
def State.cmdqWrite (s : State) (f off : Nat) (part : Part) (full raw : Word) : State :=
  let fr := s.frame f
  let r := fr.ring.write off part full raw
  let lost := (fr.ring.cfg &&& ~~~ r.cfg &&& 3) != 0
  let r := if lost then { r with replies := [], wr := false } else r
  let t : TInst := { kind := .ring, inst := f }
  let pl := s.plumb
  let pl := if lost then { pl with jobs := pl.jobs.map (fun j => if j.t = t then { j with lost := true } else j),
                                   dead := pl.dead.filter (fun e => e.1 != t) } else pl
  { s.setFrame f { fr with ring := r } with plumb := pl }

/-- A write to instance i of a window at an offset from 0x100 on (R343 to R360). -/
def State.regWrite (s : State) (ap : AccessPort) (w : Win) (i off : Nat) (part : Part) (v : Word) : State :=
  let full := mergePart part (s.regRead w i off) v
  let raw := mergePart part 0 v
  let lo := part != .hi
  match w with
  | .bay => if off = 0x100 then s.setHome i ((s.home i).writeCtl full) else s
  | .mch => s.setChan i ((s.chan i).write off full)
  | .port => s.setPort i ((s.port i).write off full)
  | .tenon =>
    if off ≠ 0x108 then s
    else match ap with
      | .host f => if frameCount s.mode = 1 then { s with threshold := threshWrite s.threshold full }
        else s.csDrop f 2 (s.selInst ap w) (partOff 0x60108 part)
      | _ => { s with threshold := threshWrite s.threshold full }
  | .frame =>
    if off = 0x110 ∧ raw.getLsbD 47 then
      let fr := s.frame i
      s.setFrame i { fr with csErr := setFld (setFld fr.csErr 63 48 0) 47 47 0 }
    else s
  | .nq =>
    let fr := s.frame i
    if off = 0x110 then
      (let l := fld full 7 0; if 1 ≤ l ∧ l ≤ 252 then s.setFrame i { fr with nqLevel := l } else s)
    else if off = 0x118 then
      (let l := fld full 6 0; if 1 ≤ l ∧ l ≤ 100 then s.setFrame i { fr with nqTimeout := l } else s)
    else s
  | .cmdq => s.cmdqWrite i off part full raw
  | .qos => s.qosWrite i off lo full
  | .upmu => s.setUpmu i ((s.upmu i).write (upmuKind i) off part full raw)
  | _ => s

/-- A write of SEL (R345, R346): a HOST copy's NQ and CMDQ selections ignore it. -/
def State.selWrite (s : State) (ap : AccessPort) (w : Win) (part : Part) (v : Word) : State :=
  match ap, w, part with
  | _, .global, _ => s
  | .host _, .nq, _ => s
  | .host _, .cmdq, _ => s
  | _, _, .hi => s
  | _, _, _ => { s with sel := { s.sel with inst := Tab.set s.sel.inst (selKey ap w) (fld v 7 0) } }

/-- A write through an access port: SEL, a drop while INVALID, or the register (R342, R345, R347). -/
def State.windowWrite (s : State) (ap : AccessPort) (w : Win) (off : Nat) (part : Part) (v : Word) : State :=
  if ap = .debug ∧ !s.plumb.dbgOpen then s
  else if off = 0 then s.selWrite ap w part v
  else if off < 0x100 then s
  else if s.selInvalid ap w then s.dropOn ap 1 (s.selInst ap w) (partOff (winNo w * 0x10000 + off) part)
  else s.regWrite ap w (s.selInst ap w) off part v

/-- A read through an access port, NQ_POP's removal apart (R342, R343, R345, R347). -/
def State.windowRead (s : State) (ap : AccessPort) (w : Win) (off : Nat) (part : Part) : Word :=
  if ap = .debug ∧ !s.plumb.dbgOpen then readPart part (BitVec.allOnes 64)
  else if off = 0 then readPart part (s.selWord ap w)
  else if off = 8 then readPart part (s.selInfo ap w)
  else if off < 0x100 then 0
  else if s.selInvalid ap w then readPart part (BitVec.allOnes 64)
  else readPart part (s.regRead w (s.selInst ap w) off)

/-- What a block has counted since it was last looked at: a counter of a UPMU instance that counts, or the corrected symbols of a trained
lane, has moved by a free amount (R355, R360, R468; log entry 20). -/
def State.counted (s : State) (ap : AccessPort) (w : Win) (off : Nat) : State :=
  let i := s.selInst ap w
  let n := Config.freeValue s.free
  if s.selInvalid ap w ∨ off < 0x100 then s
  else match w with
  | .upmu =>
    let u := s.upmu i
    let k := (off - 0x100) / 16
    let ctl := Tab.get u.ctl 0 k
    if off % 16 = 8 ∧ k < 4 ∧ ctl.getLsbD 16 ∧ fld ctl 15 0 ≠ 0 then
      { s.setUpmu i { u with cnt := Tab.put u.cnt 0 k (Tab.get u.cnt 0 k + n) } with free := s.free + 1 }
    else s
  | .lane =>
    let p := s.port (i / 16)
    if off = 0x100 ∧ p.laneRate (i % 16) ≠ 0 then
      { s.setPort (i / 16) { p with laneErr := Tab.put p.laneErr 0 (i % 16) (satAdd 16 (Tab.get p.laneErr 0 (i % 16)) n.toNat) } with
        free := s.free + 1 }
    else s
  | _ => s

/-- A pop of the notice queue a port has selected, by a reader (R343, R345, R415). An invalid selection pops
nothing. -/
def State.nqPop (s : State) (ap : AccessPort) (hart : Option (Nat × Dest)) : State :=
  let who : NqReader := { ap := some ap, hart := hart }
  if ap = .debug ∧ !s.plumb.dbgOpen then s
  else if s.selInvalid ap .nq then s
  else
    let f := s.selInst ap .nq
    let fr := s.frame f
    let s' := s.setFrame f { fr with nq := fr.nq.pop who }
    match fr.nq.take with
    | some r => s'.deliverTo who r.1
    | none => s'

/-- A read of the access port stalls in a notice queue: later accesses of the port to the NQ window wait behind it (R344, R415). -/
def State.nqStalls (s : State) (ap : AccessPort) : Bool := s.frames.any (fun e => e.2.nq.stalled.any (fun w => w.ap == some ap))
/-- An access of the port would have to wait: behind such a read, or behind an access that waits itself. -/
def State.nqHeld (s : State) (ap : AccessPort) : Bool := s.nqStalls ap || s.nqWait.any (fun a => a.ap == ap)

/-- The data of a read through PLUMB or DEBUG. -/
def State.portSees (s : State) (ap : AccessPort) (v : Word) : State :=
  if (apFrame ap).isSome then s else { s with plumb := { s.plumb with debugOut := s.plumb.debugOut ++ [v] } }

/-- An access of the NQ window, performed (R343, R347, R415): only an 8-byte read of NQ_POP pops. -/
def State.nqPerform (s : State) (a : NqAcc) : State :=
  if a.wr then s.windowWrite a.ap .nq a.off a.part a.val
  else if a.off ≠ 0x100 then s.portSees a.ap (s.windowRead a.ap .nq a.off a.part)
  else if (a.ap = .debug ∧ !s.plumb.dbgOpen) ∨ s.selInvalid a.ap .nq then s.portSees a.ap (readPart a.part (BitVec.allOnes 64))
  else if a.part ≠ .full then s.portSees a.ap 0
  else s.nqPop a.ap none

/-- Accesses that waited are performed once their port's read has been answered, in order; at most n (DESIGN CHOICE, log entry 29: at the next
access of a window, or as a stall times out). -/
def State.nqResume (s : State) (n : Nat) : State :=
  match n with
  | 0 => s
  | k + 1 => match s.nqWait.find? (fun a => !s.nqStalls a.ap) with
    | none => s
    | some a => State.nqResume (({ s with nqWait := s.nqWait.erase a } : State).nqPerform a) k
def State.nqGoOn (s : State) : State := s.nqResume s.nqWait.length

/-- An access of the NQ window reaches it: performed in its port's order. A read joins the reads that stall. -/
def State.nqAccess (s : State) (a : NqAcc) : State :=
  let s := s.nqGoOn
  let pop := !a.wr && a.off == 0x100 && a.part == .full
  if s.nqWait.any (fun b => b.ap == a.ap) ∨ (s.nqStalls a.ap ∧ !pop) then { s with nqWait := s.nqWait ++ [a] } else s.nqPerform a

/-! ## APLIC, timer, IOMMU and interrupt files in control space -/

/-- Fields of an APLIC register offset: source numbers start at 1. -/
def aplicSrc (off base : Nat) : Nat := (off - base) / 4 + 1
/-- 32 sources from 32k as a bit vector. -/
def srcBits (l : List Nat) (k : Nat) : Nat := maskOf ((l.filter (fun n => n / 32 == k)).map (· % 32))

/-- A read of an APLIC domain (R77, R78): d = 0 the root, 1024 the child. Layout PRESUMED from the AIA
(log entry 10). -/
def State.aplicRead (s : State) (f d off : Nat) : Nat :=
  let a := (s.frame f).aplic
  let mine := fun n => s.srcKind f n != 0 && a.dom n == d
  if off = 0 then 0x80000004 + b2n (if d = 0 then a.ie else a.ieS) * 2 ^ 8
  else if 4 ≤ off ∧ off < 0x1000 then
    let n := aplicSrc off 4
    if s.srcKind f n = 0 then 0
    else if d = 0 then (Tab.get a.sourcecfg 0 n).toNat else if a.dom n = 1024 then (Tab.get a.sourcecfg 0 (1024 + n)).toNat else 0
  else if d = 0 ∧ off = 0x1BC0 then 0xFE040000
  else if d = 0 ∧ off = 0x1BC4 then 0x8000C000
  else if d = 0 ∧ off = 0x1BC8 then 0xFE080000
  else if d = 0 ∧ off = 0x1BCC then 0x00300000
  else if 0x1C00 ≤ off ∧ off < 0x1C80 then srcBits (a.pending.filter mine) ((off - 0x1C00) / 4)
  else if 0x1E00 ≤ off ∧ off < 0x1E80 then srcBits (a.enabled.filter mine) ((off - 0x1E00) / 4)
  else if 0x3004 ≤ off ∧ off < 0x4000 then
    let n := aplicSrc off 0x3004
    if mine n then (Tab.get a.target 0 (d + n)).toNat else 0
  else 0

/-- The source mode a write leaves: edge sources keep Inactive, Edge1 and Edge0, level sources Inactive, Level1 and
Level0 (R78). -/
def aplicMode (kind old sm : Nat) : Nat :=
  if sm = 0 then 0 else if kind = 1 ∧ (sm = 4 ∨ sm = 5) then sm else if kind = 2 ∧ (sm = 6 ∨ sm = 7) then sm else old

/-- Sources of a 32-bit register write. -/
def srcList (v k : Nat) : List Nat := ((List.range 32).filter (fun i => bitOf v i)).map (32 * k + ·)

/-- A write to an APLIC domain (R77, R78). -/
def State.aplicWrite (s : State) (f d off v : Nat) : State :=
  let fr := s.frame f
  let a := fr.aplic
  let put (a : Aplic) : State := s.setFrame f { fr with aplic := a }
  let mine := fun n => s.srcKind f n != 0 && a.dom n == d && decide (4 ≤ a.sm n)
  let setPend (l : List Nat) : State :=
    let l := l.filter mine
    l.foldl (fun s n => s.aplicSend f n) (put { a with pending := l.foldl listAdd a.pending })
  let setEn (l : List Nat) : State :=
    let l := l.filter mine
    l.foldl (fun s n => s.aplicSend f n) (put { a with enabled := l.foldl listAdd a.enabled })
  let clrPend (l : List Nat) : State := put { a with pending := a.pending.filter (fun n => !(mine n && l.contains n)) }
  let clrEn (l : List Nat) : State := put { a with enabled := a.enabled.filter (fun n => !(mine n && l.contains n)) }
  if off = 0 then
    let s := put (if d = 0 then { a with ie := bitOf v 8 } else { a with ieS := bitOf v 8 })
    a.pending.foldl (fun s n => s.aplicSend f n) s
  else if 4 ≤ off ∧ off < 0x1000 then
    let n := aplicSrc off 4
    let kind := s.srcKind f n
    if kind = 0 then s
    else if d = 0 ∧ bitOf v 10 then put { a with sourcecfg := Tab.put a.sourcecfg 0 n 0x400 }
    else if d = 0 ∨ a.dom n = 1024 then
      let old := fld (Tab.get a.sourcecfg 0 (d + n)) 2 0
      put { a with sourcecfg := Tab.put a.sourcecfg 0 (d + n) (BitVec.ofNat 64 (aplicMode kind old (v % 8))) }
    else s
  else if 0x1C00 ≤ off ∧ off < 0x1C80 then setPend (srcList v ((off - 0x1C00) / 4))
  else if off = 0x1CDC ∨ off = 0x2000 then setPend [v]
  else if 0x1D00 ≤ off ∧ off < 0x1D80 then clrPend (srcList v ((off - 0x1D00) / 4))
  else if off = 0x1DDC then clrPend [v]
  else if 0x1E00 ≤ off ∧ off < 0x1E80 then setEn (srcList v ((off - 0x1E00) / 4))
  else if off = 0x1EDC then setEn [v]
  else if 0x1F00 ≤ off ∧ off < 0x1F80 then clrEn (srcList v ((off - 0x1F00) / 4))
  else if off = 0x1FDC then clrEn [v]
  else if off = 0x3000 then s.msiTo (some (32 + 2 * bridgeOf s.mode f)) f (v / 2 ^ 18) (if d = 0 then 0 else 1) (v % 2 ^ 11)
  else if 0x3004 ≤ off ∧ off < 0x4000 then
    let n := aplicSrc off 0x3004
    if mine n then put { a with target := Tab.put a.target 0 (d + n) (BitVec.ofNat 64 (v % 2 ^ 32)) } else s
  else s

/-- A write of the frame's mtime: it reads v from the next tick (R79), and v - 1 until then (DESIGN CHOICE,
log entry 35). In a Joined mode it is dropped and logged, with the offset of the access. -/
def State.mtimeWrite (s : State) (f off : Nat) (v : Word) : State :=
  if joinedMode s.mode then s.csDrop f 3 0 off
  else s.setFrame f { s.frame f with mtimeOff := v - (s.mtime + 1) }

/-- The core of mtimecmp index h of frame f (R80): mhartid[8:0]. -/
def State.coreOfCmp (s : State) (f h : Nat) : Option Nat :=
  let n := (studsOf s.mode f).headD 0 + h / 32
  if h < 512 ∧ (studsOf s.mode f).contains n ∧ s.hartThere (n * 32 + h % 32) then some (n * 32 + h % 32) else none

/-- A write of an mtimecmp (R80), at an offset. -/
def State.mtimecmpWrite (s : State) (f h off : Nat) (v : Word) : State :=
  match s.coreOfCmp f h with
  | some c => (s.setCore c { s.core c with mtimecmp := v }).noteWake c
  | none => s.csDrop f 3 0 off

/-- A write of an agent to an interrupt file page (R64, R76): seteipnum_le at 0, seteipnum_be at 4; other offsets are ignored. A
hart index with no hart is logged (R76). -/
def State.fileWrite (s : State) (src : Option Nat) (f h file off v : Nat) : State :=
  if off ≠ 0 ∧ off ≠ 4 then s
  else
    let v := if off = 4 then ofBytes (bytesOf 4 v).reverse else v
    s.msiTo src f h file v

end Sys2Proof.Machine
end

