-- ==== Sys2Proof/Machine/Control.lean ====
section
/-! DEFINITION. Control space (R64, R79, R80, R288, R341): what a hart reads and writes at an offset; the port IOMMUs' interrupts, queues and
registers, and the translation of a request. -/

namespace Sys2Proof.Machine

/-- A write of an agent to an interrupt file region (R64, R76); none elsewhere. -/
def State.filePut (s : State) (src f off v : Nat) : Option State :=
  if 0x40000000 ≤ off ∧ off < 0x41000000 then some (s.fileWrite (some src) f ((off - 0x40000000) / 0x1000) 0 (off % 0x1000) v)
  else if 0x80000000 ≤ off ∧ off < 0x88000000 then
    some (s.fileWrite (some src) f ((off - 0x80000000) / 0x8000) (1 + off % 0x8000 / 0x1000) (off % 0x1000) v)
  else none

/-! ## Interrupts and the fault queue of an IOMMU (R288) -/

/-- A 4-byte write of an IOMMU for owner o: to an interrupt file at once, or to memory at the line's home; none anywhere else. -/
def State.ioStore4 (s : State) (o : NcOwner) (pa v : Nat) : Option State :=
  let f := s.ncFrame o
  match s.region f pa with
  | .control off => s.filePut (s.ncAgent o) f off v
  | _ => if s.ioMem f pa then some (s.ncWrite o pa (bytesOf 4 v)) else none

/-- The MSI of interrupt source i (0 command queue, 1 fault queue) is sent, unless its vector is masked; one that fails leaves a fault record. -/
def State.ioMsiSend (s : State) (p i : Nat) : State :=
  let k := s.port p
  let v := k.ioFld 0x2F8 (4 * i + 3) (4 * i)
  let a := k.ioFld (0x300 + 16 * v) 55 2 * 4
  if bitOf (k.ioReg (0x308 + 16 * v)) 32 then s
  else match s.ioStore4 (.msi p) a (k.ioFld (0x308 + 16 * v) 31 0) with
    | some s => s
    | none => s.setPort p { k with ioRecs := k.ioRecs ++ [msiRecord a] }

/-- Interrupt source i becomes pending in `ipsr`. -/
def State.ioPend (s : State) (p i : Nat) : State :=
  let k := s.port p
  if bitOf (k.ioReg 0x50) (32 + i) then s else (s.setPort p (k.ioSet 0x50 (32 + i))).ioMsiSend p i

/-- The command queue's interrupt, if it is enabled. -/
def State.ioCmdIrq (s : State) (p : Nat) : State := if bitOf ((s.port p).ioReg 0x48) 1 then s.ioPend p 0 else s
/-- The fault queue's. -/
def State.ioFaultIrq (s : State) (p : Nat) : State := if bitOf ((s.port p).ioReg 0x48) 33 then s.ioPend p 1 else s

/-- Fault records enter the fault queue one after the other, each written at its line's home before `fqt` names it; a record is dropped while
the queue is off or stands on an error, with `fqof` where it is full and `fqmf` where its memory does not answer. -/
def State.ioPumpRec (s : State) (p : Nat) : Nat → State
  | 0 => s
  | m + 1 =>
    let k := s.port p
    let f := s.frameOfPort p
    let base := k.ioReg 0x28
    let n := ioQueueSize base
    let head := k.ioFld 0x30 31 0
    let tail := k.ioFld 0x30 63 32
    let at_ := bits base 53 10 * 4096 + tail * 32
    match k.ioRecs with
    | [] => s
    | r :: rest =>
      if s.ncBusy (.record p) then s
      else
        let less : Port := { k with ioRecs := rest }
        if !bitOf (k.ioReg 0x48) 48 ∨ bitOf (k.ioReg 0x48) 40 ∨ bitOf (k.ioReg 0x48) 41 then (s.setPort p less).ioPumpRec p m
        else if (tail + 1) % n = head then ((s.setPort p (less.ioSet 0x48 41)).ioFaultIrq p).ioPumpRec p m
        else if !s.ioMem f at_ then ((s.setPort p (less.ioSet 0x48 40)).ioFaultIrq p).ioPumpRec p m
        else s.ncWrite (.record p) at_ r

/-- Fault records that wait are tried. -/
def State.ioRecords (s : State) (p : Nat) : State := s.ioPumpRec p ((s.port p).ioRecs.length + 2)

/-- The write of a fault record has ended: `fqt` names it, or `fqmf` tells of its failure. -/
def State.ioRecorded (s : State) (p : Nat) : State :=
  let bad := s.ncFailed (.record p)
  let s := s.ncDrop (.record p)
  let k := s.port p
  let k := { k with ioRecs := k.ioRecs.drop 1 }
  let k := if bad then k.ioSet 0x48 40 else k.ioPutFld 0x30 63 32 ((k.ioFld 0x30 63 32 + 1) % ioQueueSize (k.ioReg 0x28))
  ((s.setPort p k).ioFaultIrq p).ioRecords p

/-- The write of an MSI of the IOMMU has ended. -/
def State.ioMsiSent (s : State) (p : Nat) : State :=
  let bad := s.ncBuf.find? (fun e => e.owner == .msi p && e.err)
  let s := s.ncDrop (.msi p)
  match bad with
  | some e => let k := s.port p; (s.setPort p { k with ioRecs := k.ioRecs ++ [msiRecord (e.line * 64)] }).ioRecords p
  | none => s

/-- A fault record enters the fault queue. -/
def State.ioRecord (s : State) (p : Nat) (r : IoReq) (e : IoStop) : State :=
  let k := s.port p
  (s.setPort p { k with ioRecs := k.ioRecs ++ [r.record e] }).ioRecords p

/-! ## Translation (R288) -/

/-- A device context kept; where 256 others are, the lowest device ID goes (DESIGN CHOICE, log entry 41). -/
def Port.ioKeepDev (k : Port) (did : Nat) (d : List Nat) : Port :=
  let t := Tab.erase k.ddtc did
  { k with ddtc := Tab.set (if 256 ≤ t.length then t.drop 1 else t) did d }
/-- An entry kept; the oldest of 2,048 goes (DESIGN CHOICE, log entry 41). -/
def Port.ioKeep (k : Port) (e : IoTlb) : Port :=
  let l := k.iotlb ++ [e]
  { k with iotlb := l.drop (l.length - 2048) }

/-- A fault that an ATS translation request answers with a page of no access, and does not record (PRESUMED, log entry 10). -/
def atsQuiet (n : Nat) : Bool := [12, 13, 15, 20, 21, 23, 262].contains n

/-- What a translation came to. -/
inductive IoAns where
  /-- It waits for memory. -/
  | wait
  | fault (cause : Nat)
  /-- The PA, the accesses allowed, log2 of the pages of the translation, and the memory type. -/
  | ok (pa perm span pbmt : Nat)

/-- A translation that stops: it waits for a line or for its PTEs to be updated, or its fault is recorded unless its context asks for
silence. -/
def State.ioRefuse (s : State) (p : Nat) (r : IoReq) (dtf : Bool) (e : IoStop) : State × IoAns :=
  match e with
  | .wait line => (s.ncAsk (.walk p) [line], .wait)
  | .update sets => (sets.foldl (fun s e => s.ioOr p e) s, .wait)
  | _ =>
    let n := e.number r.need
    let s := s.ncDrop (.walk p)
    (if (dtf && !ioAlways n) || (r.form == 1 && atsQuiet n) then s else s.ioRecord p r e, .fault n)

/-- A request translated (R288) as far as the lines its walk has got allow. -/
def State.ioTranslate (s : State) (p : Nat) (r : IoReq) : State × IoAns :=
  let k := s.port p
  match k.ioFld 0x10 3 0 with
  | 0 => s.ioRefuse p r false (.cause 256)
  | 1 => if r.form ≠ 0 then s.ioRefuse p r false (.cause 260) else (s, .ok r.addr 7 0 0)
  | _ => match s.ioDevice p r.did with
    | .error e => s.ioRefuse p r false e
    | .ok d =>
      match s.ioStages p d r with
      | .error e => (s.setPort p (k.ioKeepDev r.did d)).ioRefuse p r (bitOf (d.getD 0 0) 4) e
      | .ok x =>
        let s := s.setPort p (k.ioKeepDev r.did d)
        if x.sets ≠ [] then s.ioRefuse p r false (.update x.sets)
        else
          let s := s.ncDrop (.walk p)
          (match x.ent with | some e => s.setPort p ((s.port p).ioKeep e) | none => s, .ok x.pa x.perm x.span x.pbmt)

/-! ## The command queue (R288) -/

/-- An entry covers the page of an IOTINVAL.VMA: by its first-stage leaf. -/
def IoTlb.covers (e : IoTlb) (page : Nat) : Bool := e.vpn / 2 ^ e.vspan == page / 2 ^ e.vspan

/-- IOTINVAL.VMA leaves an entry. -/
def IoTlb.keepVma (e : IoTlb) (c0 c1 : Nat) : Bool :=
  let gs := if bitOf c0 33 then some (bits c0 59 44) else none
  !(e.gs == gs && (!bitOf c0 10 || e.covers (bits c1 61 10)) && (!bitOf c0 32 || (!e.g && e.ps == some (bits c0 31 12))))
/-- IOTINVAL.GVMA leaves an entry: of a GSCID it removes every one, whatever address it names. -/
def IoTlb.keepGvma (e : IoTlb) (c0 : Nat) : Bool := !(e.gs.isSome && (!bitOf c0 33 || e.gs == some (bits c0 59 44)))

/-- One command: IOTINVAL, IOFENCE.C, IODIR, or ATS messages; none for an illegal one. The write of an IOFENCE.C is still under way. -/
def State.ioCommand (s : State) (p c0 c1 : Nat) : Option State :=
  let k := s.port p
  match bits c0 6 0, bits c0 9 7 with
  | 1, 0 => some (s.setPort p { k with iotlb := k.iotlb.filter (fun e => e.keepVma c0 c1) })
  | 1, 1 => some (s.setPort p { k with iotlb := k.iotlb.filter (fun e => e.keepGvma c0) })
  | 2, 0 =>
    if bitOf c0 11 then none
    else if bitOf c0 10 then (match s.ioStore4 (.fence p) (c1 * 4) (bits c0 63 32) with
      | some s => some s
      | none => some ((s.setPort p (k.ioSet 0x48 8)).ioCmdIrq p))
    else some s
  | 3, 0 => some (s.setPort p { k with ddtc := if bitOf c0 33 then Tab.erase k.ddtc (bits c0 63 40) else [] })
  | 3, 1 => some s
  | 4, 0 => some s
  | _, _ => none

/-- The command at the head has been carried out. -/
def State.ioNext (s : State) (p : Nat) : State :=
  let s := (s.ncDrop (.queue p)).ncDrop (.fence p)
  let k := s.port p
  s.setPort p (k.ioPutFld 0x20 31 0 ((k.ioFld 0x20 31 0 + 1) % ioQueueSize (k.ioReg 0x18)))

/-- Commands of the queue taken one after the other, each read at its line's home, until the queue is empty, stands on an error, or
waits for memory. -/
def State.ioRun (s : State) (p : Nat) : Nat → State
  | 0 => s
  | n + 1 =>
    let k := s.port p
    let cs := k.ioReg 0x48
    let head := k.ioFld 0x20 31 0
    let at_ := bits (k.ioReg 0x18) 53 10 * 4096 + head * 16
    let fail (s : State) (b : Nat) : State := (((s.ncDrop (.queue p)).setPort p (k.ioSet 0x48 b)).ioCmdIrq p).ioRecords p
    if s.ncBusy (.queue p) ∨ s.ncBusy (.fence p) then s
    else if !bitOf cs 16 ∨ bits cs 10 8 ≠ 0 ∨ head = k.ioFld 0x20 63 32 then s.ncDrop (.queue p)
    else if !s.ioMem (s.frameOfPort p) at_ then fail s 8
    else match s.ncLine (.queue p) (at_ / 64) with
      | none => s.ncAsk (.queue p) [at_ / 64]
      | some e =>
        if e.err || e.poison then fail s 8
        else match s.ioCommand p (lineBytes e.data (at_ % 64) 8) (lineBytes e.data (at_ % 64 + 8) 8) with
          | none => fail s 10
          | some s =>
            if s.ncBusy (.fence p) then s
            else if bitOf ((s.port p).ioReg 0x48) 8 then (s.ncDrop (.queue p)).ioRecords p
            else (s.ioNext p).ioRun p n

/-- The write of an IOFENCE.C has ended: the queue goes on, or stands on a memory fault. -/
def State.ioFenced (s : State) (p : Nat) : State :=
  let k := s.port p
  if s.ncFailed (.fence p) then ((((s.ncDrop (.fence p)).ncDrop (.queue p)).setPort p (k.ioSet 0x48 8)).ioCmdIrq p).ioRecords p
  else (s.ioNext p).ioRun p (ioQueueSize (k.ioReg 0x18))

/-- The debug translation interface (R288): a request of a device as if untranslated, while its turn lasts. The response holds a fault or
the page with its memory type and size. -/
def State.ioDebug (s : State) (p : Nat) : State :=
  let c := (s.port p).ioReg 0x260
  let r : IoReq := { did := bits c 63 40, pid := if bitOf c 32 then some (bits c 31 12) else none, priv := bitOf c 1, exec_ := bitOf c 2,
                     wr := !bitOf c 3, addr := (s.port p).ioReg 0x258 }
  let x := s.ioTranslate p r
  let done (v : Nat) : State :=
    let k := x.1.port p
    x.1.setPort p { (k.ioPut 0x268 v).ioPut 0x260 (c - c % 2) with ioQ := k.ioQ.drop 1 }
  match x.2 with
  | .wait => x.1
  | .fault _ => done 1
  | .ok pa _ span pbmt => done (pbmt * 2 ^ 7 + b2n (span != 0 && decide (span < 44)) * 2 ^ 9 + spanPage pa span % 2 ^ 44 * 2 ^ 10)

/-! ## Registers (R288) -/

/-- cqcsr and fqcsr written: an enable that rises starts its queue empty and free of errors. -/
def Port.ioCsr (k : Port) (v raw : Nat) (lo hi : Bool) : Port :=
  let one (k : Port) (b : Nat) (ptr plo phi : Nat) : Port :=
    let old := k.ioReg 0x48
    let k := k.ioPut 0x48 (setFld (setFld (BitVec.ofNat 64 old) (b + 1) b (bits v (b + 1) b)) (b + 11) (b + 8)
      (bits old (b + 11) (b + 8) - (bits old (b + 11) (b + 8) &&& bits raw (b + 11) (b + 8)))).toNat
    let k := k.ioPutFld 0x48 (b + 16) (b + 16) (bits v b b)
    if bitOf v b ∧ !bitOf old b then (k.ioPutFld 0x48 (b + 11) (b + 8) 0).ioPutFld ptr phi plo 0 else k
  let k := if lo then one k 0 0x20 0 31 else k
  if hi then one k 32 0x30 32 63 else k

/-- A write of 8 bytes at an offset, v with what stays, `raw` with the written bits only; `hi` where the upper half is among them. Registers of
parts that are not implemented read zero and drop writes. -/
def State.ioWrite (s : State) (p o v raw : Nat) (lo hi : Bool) : State :=
  let k := s.port p
  let put (mask : Nat) : Port := k.ioPut o (v &&& mask)
  let page := (2 ^ 44 - 1) * 2 ^ 10
  if o = 0x10 then (if bits v 3 0 ≤ 4 then s.setPort p (put (page + 15)) else s.setPort p (k.ioPut o ((v &&& page) + k.ioFld o 3 0)))
  else if o = 0x18 ∨ o = 0x28 then s.setPort p (put (page + 31))
  else if o = 0x20 then
    if hi then (s.setPort p (k.ioPutFld o 63 32 (bits v 63 32 % ioQueueSize (k.ioReg 0x18)))).ioRun p (ioQueueSize (k.ioReg 0x18)) else s
  else if o = 0x30 then (if lo then s.setPort p (k.ioPutFld o 31 0 (bits v 31 0 % ioQueueSize (k.ioReg 0x28))) else s)
  else if o = 0x48 then (s.setPort p (k.ioCsr v raw lo hi)).ioRun p (ioQueueSize (k.ioReg 0x18))
  else if o = 0x50 then (if hi then s.setPort p (k.ioPutFld o 33 32 (k.ioFld o 33 32 - (k.ioFld o 33 32 &&& bits raw 33 32))) else s)
  else if o = 0x258 then s.setPort p (put (2 ^ 64 - 4096))
  else if o = 0x260 then
    if bitOf (k.ioReg o) 0 then s
    else
      let k' := put (2 ^ 64 - 1 - 0xFF0)
      if !bitOf v 0 then s.setPort p k'
      else
        -- it is served at once where no request is being translated
        let s := s.setPort p { k' with ioQ := k.ioQ ++ [none] }
        if k.ioQ = [] then s.ioDebug p else s
  else if o = 0x2F8 then s.setPort p (put 0xFF)
  else if 0x300 ≤ o ∧ o < 0x400 then
    if o % 16 = 0 then s.setPort p (put ((2 ^ 54 - 1) * 4))
    else
      let was := bitOf (k.ioReg o) 32
      let s := s.setPort p (put (2 ^ 33 - 1))
      -- a pending interrupt whose vector is unmasked is sent
      if was ∧ !bitOf v 32 then
        (List.range 2).foldl (fun s i =>
          if bitOf (k.ioReg 0x50) (32 + i) ∧ 0x308 + 16 * k.ioFld 0x2F8 (4 * i + 3) (4 * i) = o then s.ioMsiSend p i else s) s
      else s
  else s

/-! ## Control space -/

/-- The part of a 64-bit register that an access of 4 or 8 bytes takes. -/
def partOf (off size : Nat) : Part := if size = 8 then .full else if off % 8 = 0 then .lo else .hi

/-- What a control-space read answers. -/
inductive CtlRead where
  | value (v : Word) (s : State)
  | stalled (s : State)
  | fault

/-- A hart's read of control space at an offset, 4 or 8 bytes, aligned (R341). -/
def State.ctlRead (s : State) (f c off size : Nat) (dest : Dest) : CtlRead :=
  if off < 0xD0000 then
    match winOf (off / 0x10000) with
    | none => .fault
    | some w =>
      let ro := off % 0x10000 / 8 * 8
      let part := partOf off size
      if w = .nq ∧ ro = 0x100 then
        (if part = .full ∧ !s.selInvalid (.host (Fin.ofNat 4 f)) .nq then .stalled (s.nqPop (.host (Fin.ofNat 4 f)) (some (c, dest)))
         else .value 0 s)
      else
        let s := s.counted (.host (Fin.ofNat 4 f)) w ro
        .value (s.windowRead (.host (Fin.ofNat 4 f)) w ro part) s
  else if 0x100000 ≤ off ∧ off < 0x108000 then
    let d := if off < 0x104000 then 0 else 1024
    let o := off % 0x4000
    let lo := s.aplicRead f d (o / 4 * 4)
    .value (BitVec.ofNat 64 (if size = 8 then lo + s.aplicRead f d (o + 4) * 2 ^ 32 else lo)) s
  else if off / 8 = 0x200000 / 8 then .value (readPart (partOf off size) (s.mtimeOf f)) s
  else if 0x208000 ≤ off ∧ off < 0x209000 then
    match s.coreOfCmp f ((off - 0x208000) / 8) with
    | some k => .value (readPart (partOf off size) (s.core k).mtimecmp) s
    | none => .value 0 s
  else if 0x300000 ≤ off ∧ off < 0x308000 then
    let p := (off - 0x300000) / 0x1000
    let k := s.port p
    if s.frameOfPort p = f ∧ (k.pers = 1 ∨ k.pers = 2) then
      .value (readPart (partOf off size) (BitVec.ofNat 64 (k.ioReg (off % 0x1000 / 8 * 8)))) s
    else .fault
  else if (0x40000000 ≤ off ∧ off < 0x41000000) ∨ (0x80000000 ≤ off ∧ off < 0x88000000) then .value 0 s
  else .fault

/-- A write to control space that starts at mesh stop `src`; none: an access fault (R341). -/
def State.ctlWrite (s : State) (src f off size : Nat) (v : Word) : Option State :=
  if off < 0xD0000 then
    (winOf (off / 0x10000)).map (fun w =>
      s.windowWrite (.host (Fin.ofNat 4 f)) w (off % 0x10000 / 8 * 8) (partOf off size) v)
  else if 0x100000 ≤ off ∧ off < 0x108000 then
    let d := if off < 0x104000 then 0 else 1024
    let o := off % 0x4000
    let s := s.aplicWrite f d (o / 4 * 4) (v.toNat % 2 ^ 32)
    some (if size = 8 then s.aplicWrite f d (o + 4) (v.toNat / 2 ^ 32) else s)
  else if off / 8 = 0x200000 / 8 then some (s.mtimeWrite f off (mergePart (partOf off size) (s.mtimeOf f) v))
  else if 0x208000 ≤ off ∧ off < 0x209000 then
    let h := (off - 0x208000) / 8
    let old := match s.coreOfCmp f h with | some c => (s.core c).mtimecmp | none => 0
    some (s.mtimecmpWrite f h off (mergePart (partOf off size) old v))
  else if 0x300000 ≤ off ∧ off < 0x308000 then
    let p := (off - 0x300000) / 0x1000
    let k := s.port p
    if s.frameOfPort p = f ∧ (k.pers = 1 ∨ k.pers = 2) then
      let o := off % 0x1000 / 8 * 8
      let part := partOf off size
      some (s.ioWrite p o (mergePart part (BitVec.ofNat 64 (k.ioReg o)) v).toNat (mergePart part 0 v).toNat (part != .hi) (part != .lo))
    else none
  else s.filePut src f off (v.toNat % 2 ^ 32)

end Sys2Proof.Machine
end

