-- ==== Sys2Proof/Machine/Snoop.lean ====
section
/-! DEFINITION. The arrival of messages (R14, R163), a stud's answer to a snoop (R169, R172, R182), the
end of a hold (R67, R100), planted cache errors as they are met (R123, R154, R334), and traps of a hart. -/

namespace Sys2Proof.Machine

/-! ## Arrival (R14, R17, R163) -/

/-- A message stands where its destination takes it: at its stop; for a stud at the far end of its tenon link, or while the
link is parked at the sill end, which answers for the stud (R209). -/
def State.there (s : State) (m : Msg) : Bool :=
  match m.loc with
  | .far => true
  | .end_ => !s.toStud m || (s.tenon m.hdr.dst).st == 3
  | _ => false

/-- Messages that arrive in the order they were sent: of one class over one tenon link (R192), and of one class, plane, source
stop and destination stop over the fabric (R14). -/
def State.inOrder (s : State) (m k : Msg) : Bool :=
  clsOf m.op == clsOf k.op && m.loc == k.loc && dstStopOf m == dstStopOf k && s.toStud m == s.toStud k &&
    (m.loc == .far || (planeOf m == planeOf k && srcStopOf m == srcStopOf k))

/-- The first message in flight that spells m and can be taken: it is at its end, and none before it comes first. -/
def State.ripe (s : State) (m : Msg) : Option Msg :=
  match s.net.find? (fun k => sameMsg m k && s.there k) with
  | some k => if (s.net.takeWhile (· != k)).any (s.inOrder k) then none else some k
  | none => none

/-- A message arrives: what its destination takes of it, with what the header does not name. Nothing while it is short of its
end or behind an earlier message, and nothing of one that has no route (R14, R17). A reserved agent is discarded and
logged (R163). A message that is not in flight comes from outside the model (log entry 32). -/
def State.arrive (s : State) (m : Msg) : State × Option Msg :=
  if !agentOk m.hdr.src ∨ !agentOk m.hdr.dst then
    (s.reservedAgent m, none)
  else if m.hdr.srcPkg = s.ownPkg ∧ !s.routed m then (s, none)
  else if s.net.any (sameMsg m) then
    let s := s.deliver (sameMsg m)
    match s.ripe m with
    | some k => ({ s with net := s.net.erase k }, some { m with source := k.source, mask := k.mask ||| m.mask, inP := k.inP })
    | none => (s, none)
  else (s, some m)

/-- SOURCE of data that came without a code: another core's L2, bench, CXL memory, or unknown (R88). -/
def sourceOf (m : Msg) : Nat :=
  if m.source ≠ 0 then m.source
  else if m.hdr.src < 12 then 3
  else if isBenchAddr (m.hdr.line * 64) then 6
  else if 32 ≤ m.hdr.src ∧ m.hdr.src < 40 then 4
  else 0

/-! ## Events of one core's structures (R154, R402) -/

/-- An event of a core's structure: bin `b` of its CE_STUD record (R423). -/
def coreEvent (s : State) (c cls code b : Nat) (pa : Option Nat) : ErrEv :=
  { cls := cls, src := 2, code := code, inst := c / 32, sub := c % 32, pa := pa, frame := some (s.frameOfCore c),
    injected := true, bin := some (0x22, c / 32, b) }

/-- A planted L2 error is met when the line's data is read (R154). -/
def State.l2Check (s : State) (c line : Nat) : State :=
  let k := s.core c
  match Tab.find k.pipe.l2bad line, k.pipe.find2 line with
  | some n, some e =>
    let k := { k with pipe := { k.pipe with l2bad := Tab.erase k.pipe.l2bad line } }
    if n = 1 then (s.setCore c k).report (coreEvent s c 0 3 (4 * (c % 32) + 2) (some (line * 64)))
    else if e.st.dirty then
      let k := { k with pipe := k.pipe.upd2 line (fun e => { e with poison := true }) }
      (s.setCore c k).report (coreEvent s c 1 3 131 (some (line * 64)))
    else (s.setCore c (k.dropLine line)).report (coreEvent s c 0 3 130 (some (line * 64)))
  | _, _ => s

/-- An upset that a read meets in its core's structures, recovered in the corrected class: parity of L1 data takes the line out of
that L1, parity of an L1 tag the whole set, and the access goes on from L2 (R123); an L2 tag is rebuilt from the stud filter's
entry (R154), and a filter entry from the L2 tags (R174). -/
def State.upsetAt (s : State) (c line : Nat) (fetch : Bool) (u : Upset) : State :=
  let k := s.core c
  let l1 := if fetch then k.pipe.l1i else k.pipe.l1d
  let ev (code b : Nat) : ErrEv := { coreEvent s c 0 code b (some (line * 64)) with injected := false }
  let put (l : List Nat) : State :=
    s.setCore c { k with pipe := if fetch then { k.pipe with l1i := l } else { k.pipe with l1d := l } }
  match u with
  | .none => s
  | .l1Data =>
    if l1.contains line then (put (l1.filter (· != line))).report (ev (if fetch then 1 else 2) (4 * (c % 32) + b2n (!fetch))) else s
  | .l1Tag => (put (l1.filter (fun x => x % 64 != line % 64))).report (ev (if fetch then 1 else 2) (4 * (c % 32) + b2n (!fetch)))
  | .l2Tag => if (k.pipe.find2 line).isSome then s.report (ev 4 (4 * (c % 32) + 3)) else s
  | .filter => if (k.pipe.find2 line).isSome then s.report (ev 5 129) else s

/-- A planted L1D parity error is met when the line is read: the L1 copy goes and the access is replayed (R123). -/
def State.l1Check (s : State) (c line : Nat) : State :=
  let k := s.core c
  if k.pipe.l1bad.contains line ∧ k.pipe.l1d.contains line then
    let p := { k.pipe with l1bad := k.pipe.l1bad.filter (· != line), l1d := k.pipe.l1d.filter (· != line) }
    (s.setCore c { k with pipe := p }).report (coreEvent s c 0 2 (4 * (c % 32) + 1) (some (line * 64)))
  else s

/-! ## Snoops -/

/-- What the cores of a stud, or of a frame's studs, made of a snoop together (R172, R182). -/
structure SnpSum where
  held : Bool := false
  dirty : Bool := false
  fwd  : Option (Nat × MsgOp × Line × Bool) := none
  home : Option (Nat × Line × Bool) := none

/-- One more core's answer taken into the sum. -/
def SnpSum.add (a : SnpSum) (c : Nat) (r : SnpRes) : SnpSum :=
  { held := a.held || r.held, dirty := a.dirty || r.dirty,
    fwd := match a.fwd with | some x => some x | none => r.fwd.map (fun d => (c, d)),
    home := match a.home with | some x => some x | none => r.home.map (fun d => (c, d)) }

/-- The snoop reads the data of a core's copy (R172, R334): a forward always, SNP_CLEAN and SNP_FLUSH of a dirty one. -/
def Core.snoopReads (k : Core) (op : MsgOp) (line : Nat) : Bool :=
  match op with
  | .snpFwdS | .snpFwdU => true
  | .snpClean | .snpFlush => (k.holds line).elim false LSt.dirty
  | _ => false

/-- The listed cores meet a snoop one after the other. -/
def State.snoopCores (s : State) (op : MsgOp) (line : Nat) (cs : List Nat) : State × SnpSum :=
  cs.foldl (fun a c =>
    let s := if (a.1.core c).snoopReads op line then a.1.l2Check c line else a.1
    let r := (s.core c).snoop (variantO s.mode) op line
    (s.setCore c r.core, a.2.add c r)) (s, {})

/-- The snoop is one that goes to a single core (R172). -/
def isFwd : MsgOp → Bool
  | .snpFwdS => true
  | .snpFwdU => true
  | _ => false

/-- The response opcode of a snoop (R172). -/
def rspOf : MsgOp → MsgOp
  | .snpFwdS => .rspFwdDone
  | .snpFwdU => .rspFwdDone
  | .snpClean => .rspCleanDone
  | _ => .rspInvAck

/-- The cores of some studs whose entries in the stud filters hit a line, writeback mirrors included (R172, R174). -/
def State.holders (s : State) (studs : List Nat) (line : Nat) : List Nat :=
  (Tab.keys s.cores).filter (fun c => studs.contains (c / 32) && (s.core c).pipe.filterHit line)

/-- The requesting core, which the filter of its own stud leaves out of forwards and invalidations (R170). -/
def isRequester (h : Hdr) (own c : Nat) : Bool :=
  h.reqPkg == own && h.reqAgent == c / 32 && h.tag / 128 == c % 32

/-- The slot of core c asks for CBO_INVAL: its own copy, if it has refilled one, is discarded too (R171). -/
def State.invals (s : State) (c i : Nat) : Bool := (Tab.find (s.core c).pipe.slots i).elim false (fun sl => sl.op == .cboInval)

/-- The cores of `studs` that a snoop is steered to (R170, R172). -/
def State.snoopTargets (s : State) (m : Msg) (studs : List Nat) : List Nat :=
  let l := s.holders studs m.hdr.line
  let l := if m.op = .snpFlush ∨ m.op = .snpClean then l
    else l.filter (fun c => !isRequester m.hdr s.ownPkg c || (m.op == .snpDrop && s.invals c (m.hdr.tag % 128)))
  if isFwd m.op then
    match l.find? (fun c => ((s.core c).holds m.hdr.line).elim false LSt.supplies) with
    | some c => [c]
    | none => l.take 1
  else l

/-- The studs of `studs` answer a snoop as agent `agent`: forwarded data, SNP_DATA and one response (R172, R182). A
SNP_FWD_U takes every copy of the studs with it (DEDUCED, log entry 12). -/
def State.answerSnoop (s : State) (m : Msg) (studs : List Nat) (agent : Nat) : State :=
  let line := m.hdr.line
  let f := s.frameOfAgent agent
  let (s, sum) := s.snoopCores m.op line (s.snoopTargets m studs)
  let s := if m.op = .snpFwdU then
      (s.snoopCores .snpInv line ((s.holders studs line).filter (fun c => !isRequester m.hdr s.ownPkg c))).1
    else s
  let kept := s.holders studs line != []
  let h : Hdr := { m.hdr with src := agent, srcPkg := s.ownPkg }
  let s := match sum.fwd with
    | some (c, op, d, pz) =>
      s.route f { op := op, hdr := { h with src := c / 32, dst := m.hdr.reqAgent, dstPkg := m.hdr.reqPkg, poison := pz },
                  data := d, source := 3 }
    | none => s
  let back : Hdr := { h with dst := m.hdr.src, dstPkg := m.hdr.srcPkg }
  let s := match sum.home with
    | some (_, d, pz) => s.route f { op := .snpData, hdr := { back with poison := pz }, data := d }
    | none => s
  s.route f { op := if sum.held then rspOf m.op else .rspNotHeld, hdr := { back with dirty := sum.dirty, kept := kept } }

/-- A core of the studs holds the line for an LR or a Svadu update (R67, R100). -/
def State.holdingCore (s : State) (studs : List Nat) (line : Nat) : Option Nat :=
  (Tab.keys s.cores).find? (fun c => studs.contains (c / 32) && (s.core c).pipe.hold == some line)

/-- A snoop reaches its studs: it is answered at once, or waits for a hold (R169). -/
def State.snoopStuds (s : State) (m : Msg) (studs : List Nat) (agent : Nat) : State :=
  match s.holdingCore studs m.hdr.line with
  | some c =>
    let k := s.core c
    s.setCore c { k with pipe := { k.pipe with snpQ := k.pipe.snpQ ++ [{ m with size := agent }] } }
  | none => s.answerSnoop m studs agent

/-- The studs that a snoop taken by an agent concerns: one stud, or for a purlin agent every stud of its frame
(R182). -/
def State.snoopScope (s : State) (agent : Nat) : List Nat :=
  if agent < 12 then [agent] else studsOf s.mode (s.frameOfAgent agent)

/-- The hold of core c ends: the snoops it deferred are answered in order (R67, R100). -/
def State.releaseHold (s : State) (c : Nat) : State :=
  let k := s.core c
  let q := k.pipe.snpQ
  let s := s.setCore c { k with pipe := { k.pipe with hold := none, snpQ := [] } }
  q.foldl (fun s m => s.answerSnoop m (s.snoopScope m.size) m.size) s

/-! ## Traps -/

/-- Accesses, bound loads and fences of instructions that did not retire are squashed, and poisoned data that none of them will
consume is forgotten (R55, R82). Uncached accesses that act beyond the core stay. -/
def Pipe.squash (p : Pipe) : Pipe :=
  let stays (w : Wait) : Bool := w.acc.kind == .store || w.acc.kind == .amo || (w.acc.kind == .load && !w.acc.nc)
  { p with waits := [], trapped := true, rob := [], fence := [], poison := none, stall := none,
           slots := p.slots.map (fun e => (e.1,
             { e.2 with merged := if e.2.kind = .unc then e.2.merged.filter stays else if e.2.kind = .cbo then e.2.merged else [] })) }

/-- A hart takes a trap: the reservation and its hold end (R67), younger accesses are squashed, and the core runs. -/
def State.trapCore (s : State) (c : Nat) (t : Trap) : State :=
  let k := (s.core c).loseResv
  let k := { k with pipe := k.pipe.squash }
  let r := { k.regs with pc := t.pc.getD k.regs.pc, vstart := t.elem.getD k.regs.vstart }
  let s := s.setCore c { k with regs := r.takeTrap t, waiting := .nothing,
                                run := if k.run = .idle then .run else k.run }
  s.releaseHold c

/-- The element a vector load reads. -/
def destElem? : Dest → Option Nat
  | .v _ elem _ => some elem
  | _ => none

/-- The trap of an access, with an address in its value (R52, R55, R104). -/
def Wait.trap (w : Wait) (cause : Nat) (va : Word) : Trap :=
  { cause := cause, tval := va, gva := w.acc.guest, pc := some w.pc, elem := destElem? w.acc.dest }

/-- An access takes a trap with an address in its value. -/
def State.faultAt (s : State) (c cause : Nat) (va : Word) (w : Wait) : State := s.trapCore c (w.trap cause va)
/-- An access takes a trap whose value is its address. -/
def State.fault (s : State) (c cause : Nat) (w : Wait) : State := s.faultAt c cause w.acc.va w

/-- Illegal-instruction (2) or virtual-instruction (22). -/
def State.illegal (s : State) (c : Nat) (virt : Bool) : State :=
  s.trapCore c { cause := if virt then 22 else 2 }

end Sys2Proof.Machine
end

