-- ==== Sys2Proof/Machine/Outbound.lean ====
section
/-! DEFINITION. What a core sends: coherence requests to homes (R162, R164), ridge packets (R268, R275, R276),
requests of root ports and of the dovetail function (R286, R292, R308), and reads of the boot flash window (R438). -/

namespace Sys2Proof.Machine

/-! ## Coherence requests -/

/-- The stud transaction tag of a slot (R56). -/
def tagOf (c slot : Nat) : Nat := c % 32 * 128 + slot

/-- The header of a core's request for a line (R162). -/
def State.reqHdr (s : State) (c slot line agent pkg : Nat) (nonalloc : Bool) : Hdr :=
  let k := s.core c
  { src := c / 32, dst := agent, srcPkg := s.ownPkg, dstPkg := pkg, tag := tagOf c slot, reqAgent := c / 32,
    reqPkg := s.ownPkg, line := line, rcid := k.rcid, mcid := k.mcid, nonalloc := nonalloc }

/-- A request sent to the home of a line, and its slot taken. -/
def State.request (s : State) (c i : Nat) (sl : Slot) : State :=
  match s.target (s.frameOfCore c) (sl.line * 64) with
  | some (agent, pkg) =>
    let k := s.core c
    let sl := { sl with dst := agent, dpkg := pkg, rcid := k.rcid, mcid := k.mcid }
    let s := s.setCore c { k with pipe := k.pipe.setSlot i sl }
    let a := (sl.merged.head?.map (·.acc)).getD {}
    s.route (s.frameOfCore c)
      { op := sl.op, hdr := s.reqHdr c i sl.line agent pkg sl.nonalloc, amo := a.aop, size := a.size, off := a.pa % 64 }
  | none => s

/-- A message of a slot to its home. -/
def State.slotSend (s : State) (c i : Nat) (sl : Slot) (op : MsgOp) (data : Line) (m : BitVec 64) (pz : Bool) : State :=
  s.route (s.frameOfCore c)
    { op := op, hdr := { s.reqHdr c i sl.line sl.dst sl.dpkg false with htx := sl.htx, poison := pz }, data := data, mask := m }

/-! ## Ridge -/

/-- The UP ridge ports of frame f, ascending (R268). -/
def State.ridgePorts (s : State) (f : Nat) : List Nat :=
  (portsOf s.mode f).filter (fun p => (s.port p).pers == 5 && (s.port p).ridge.st == 2)

/-- Ridge requests of frame f outstanding (R276). -/
def State.ridgeOut (s : State) (f : Nat) : Nat :=
  (portsOf s.mode f).foldl (fun n p => n + (s.port p).ridge.out.length) 0

/-- The lowest tag that is neither in use nor quarantined, below base + n. -/
def freeTag (used : List Nat) (base n : Nat) : Option Nat :=
  match n with
  | 0 => none
  | k + 1 => if used.contains base then freeTag used (base + 1) k else some base

/-- The request packet's data an access or engine wants sent. -/
structure RidgeReq where
  core : Nat
  slot : Nat
  op   : Nat
  atop : Nat := 0
  node : Nat
  addr : Nat
  len  : Nat
  data : List Byte := []
  cmp  : Word := 0
  poison : Bool := false
  line : Nat

/-- The port that a request to a node goes out on, where R268, R275 and R276 let it go now. -/
def State.ridgePort (s : State) (f : Nat) (r : RidgeReq) : Option Nat :=
  let l := s.ridgePorts f
  match l[r.node % max l.length 1]? with
  | none => none
  | some p =>
    let overlap (a n b m : Nat) : Bool := decide (a / 64 ≤ (b + m - 1) / 64) && decide (b / 64 ≤ (a + n - 1) / 64)
    let busy := (portsOf s.mode f).any (fun q => (s.port q).ridge.out.any (fun e =>
      e.2.node == r.node && ((q != p) || (e.2.op == 2 && overlap e.2.addr e.2.len r.addr r.len))))
    if busy ∨ 4096 / frameCount s.mode ≤ s.ridgeOut f then none else some p

/-- The tenon link of core c's stud is UP: every request that leaves a stud crosses it (R11). -/
def State.studLinked (s : State) (c : Nat) : Bool := (s.tenon (c / 32)).st == 2

/-- The port sends: a planted error corrupts what it sends now (R334). The last flit of a purlin port shows it in its first byte; what the
partner answers is a replay of the link. -/
def Port.transmits (k : Port) : Port :=
  if k.corrupt = 0 then k
  else
    let bad (l : List Byte) : List Byte := match l with | b :: r => (b ^^^ 1) :: r | [] => []
    { k with corrupt := k.corrupt - 1, badSent := k.badSent + 1, purlin := { k.purlin with wire := bad k.purlin.wire } }

/-- A ridge request sent; none where it must wait: for the tenon link of a core that asks (R11), or R268, R275, R276. One to the
frame's own node needs no credit of the link and leaves no package: it stays on the port's loop. -/
def State.ridgeSend (s : State) (f : Nat) (r : RidgeReq) : Option State :=
  match s.ridgePort f r with
  | none => none
  | some p =>
    if r.core < 384 ∧ !s.studLinked r.core then none else
    let k := s.port p
    match freeTag (Tab.keys k.ridge.out ++ k.ridge.quar) 0 4096 with
    | none => none
    | some t =>
      let n := ridgeSlots r.data.length
      let own := (s.frame f).nodeId == r.node
      if !own ∧ !k.ridge.credit (ridgeVc r.op) n then none else
      let pkt : RPkt := { op := r.op, dst := BitVec.ofNat 16 r.node, src := BitVec.ofNat 16 (s.frame f).nodeId, tag := t, rport := p,
                          atop := r.atop, addr := r.addr, len := r.len, data := r.data, cmp := r.cmp, poison := r.poison,
                          ver := 1 }
      let q : OutReq := { core := r.core, slot := r.slot, op := r.op, node := r.node, addr := r.addr, len := r.len,
                          data := r.data, line := r.line }
      -- a posted write awaits no answer
      let out := if r.op = 3 then k.ridge.out else Tab.set k.ridge.out t q
      let k := { k with ridge := ({ k.ridge with out := out } : Ridge).sendPkt own pkt }
      some (s.setPort p (if own then k else k.transmits))

/-- DST and ADDR of a ridge-space PA (R268). -/
def ridgeNode (pa : Nat) : Nat := bits pa 54 39
def ridgeAddr (pa : Nat) : Nat := pa % 2 ^ 39

/-- The ATOP code of an AMO that ridge performs (R65, R269). -/
def atopOf : AmoOp → Option Nat
  | .add => some 0 | .swap => some 1 | .cas => some 2 | .min => some 3 | .max => some 4 | .minu => some 5
  | .maxu => some 6
  | _ => none

/-- Offset and length of the first contiguous run of a byte mask, if any (R275). -/
def firstRun (m : BitVec 64) : Option (Nat × Nat) :=
  match (List.range 64).find? (fun i => m.getLsbD i) with
  | none => none
  | some i => some (i, (((List.range (64 - i)).find? (fun j => !m.getLsbD (i + j))).getD (64 - i)))

/-- The next WRITE of a ridge line's written bytes, from its slot; none where it must wait (R275). -/
def State.ridgeRun (s : State) (c i : Nat) (sl : Slot) : Option State :=
  match firstRun sl.mask, sl.data with
  | some (o, n), some (d, _, pz, _) =>
    let pa := sl.line * 64
    match s.ridgeSend (s.frameOfCore c)
      { core := c, slot := i, op := 2, node := ridgeNode pa, addr := ridgeAddr pa + o, len := n,
        data := bytesOf n (lineBytes d o n), poison := pz, line := sl.line } with
    | some s =>
      let k := s.core c
      some (s.setCore c { k with pipe := k.pipe.setSlot i { sl with mask := sl.mask &&& ~~~ byteMask o n } })
    | none => none
  | _, _ => none

/-! ## PCIe (R286, R292) and the dovetail outbound window (R308) -/

/-- A 32-bit configuration word of a root port as stored (R281); layout of PCIe (PRESUMED, log entry 10). -/
def Root.cfgWord (r : Root) (off : Nat) : Nat := (Tab.get r.cfg 0 (off / 4 * 4)).toNat

/-- The root port's memory or prefetchable window holds the address, and its Memory Space Enable is 1 (R286, R287). -/
def Root.claims (r : Root) (pa : Nat) : Bool :=
  bitOf (r.cfgWord 0x04) 1 &&
  let m := r.cfgWord 0x20
  let q := r.cfgWord 0x24
  let mb := m % 65536 / 16 * 2 ^ 20
  let ml := m / 65536 / 16 * 2 ^ 20 + 2 ^ 20
  let qb := r.cfgWord 0x28 * 2 ^ 32 + q % 65536 / 16 * 2 ^ 20
  let ql := r.cfgWord 0x2C * 2 ^ 32 + q / 65536 / 16 * 2 ^ 20 + 2 ^ 20
  (decide (mb ≤ pa) && decide (pa < ml) && m != 0) || (decide (qb ≤ pa) && decide (pa < ql) && q != 0)

def Port.root (p : Port) (i : Nat) : Root := Tab.get p.roots {} i
def Port.setRoot (p : Port) (i : Nat) (r : Root) : Port := { p with roots := Tab.set p.roots i r }

/-- The root port that claims an address (R286). -/
def Port.claimant (p : Port) (pa : Nat) : Option Nat :=
  ((rootStarts p.lanes).find? (fun e => (p.root e.1).claims pa)).map (·.1)

/-- The root port whose secondary to subordinate bus range holds a bus (R281, R292). -/
def Port.busOwner (p : Port) (bus : Nat) : Option Nat :=
  ((rootStarts p.lanes).find? (fun e =>
    let w := (p.root e.1).cfgWord 0x18
    w != 0 && decide (bits w 15 8 ≤ bus) && decide (bus ≤ bits w 23 16))).map (·.1)

/-- The secondary bus of a root port: a request for another bus behind it is of Type 1 (R292). -/
def Port.secondBus (p : Port) (i : Nat) : Nat := bits ((p.root i).cfgWord 0x18) 15 8

/-- Demand returns a link to full width and power (R310), or to a quarter of its width while the power-fail sequence limits the port (R367). -/
def Root.wake (r : Root) (quarter : Bool) : Root := { r with power := if quarter && r.flitMode then .l0pQuarter else .l0 }

/-- Tags of a requester: 14 bits where the partner allows them, else 10 (R287). -/
def tagSpace (wide : Bool) : Nat := if wide then 2 ^ 14 else 2 ^ 10

/-- A non-posted request put on root port i; none where 256 are outstanding, or their tags are still held (R287, R294, R311). -/
def Port.askRoot (k : Port) (i : Nat) (q : OutReq) : Option Port :=
  let r := k.root i
  match freeTag (Tab.keys r.out ++ Tab.keys r.quar) 0 (tagSpace r.tags14) with
  | some t =>
    if r.out.length + r.quar.length < 256 then some (k.setRoot i (({ r with out := Tab.set r.out t q } : Root).wake k.quarter)).transmits else none
  | none => none

/-- A posted write sent by root port i (R292, R295). -/
def Port.postRoot (k : Port) (i addr : Nat) (data : List Byte) (ep : Bool) : Port :=
  let r := k.root i
  (k.setRoot i (({ r with sent := r.sent ++ [(addr, data, ep)] } : Root).wake k.quarter)).transmits

/-- A non-posted request of the dovetail function (R308). -/
def Dovetail.ask (d : Dovetail) (q : OutReq) : Option Dovetail :=
  match freeTag (Tab.keys d.out ++ Tab.keys d.quar) 0 (tagSpace d.tags14) with
  | some t => if d.out.length + d.quar.length < 256 then some { d.wake with out := Tab.set d.out t q } else none
  | none => none

/-! ## The boot flash window (R438) -/

/-- The bytes of a component of a bundle, by type (R435). -/
def Bundle.comp (b : Bundle) (type : Nat) : List Byte := ((b.comps.find? (·.1 == type)).map (·.2)).getD []

/-- A length rounded up to whole 4 KiB blocks. -/
def pages4k (n : Nat) : Nat := (n + 4095) / 4096 * 4096

/-- The directory entries of components laid one after the other from offset `off`: type, offset, length and a zero
word, 4 bytes each, then the digest. The spec gives the entry's size and content, not its layout (DEDUCED, log entry 13). -/
def dirEntries (l : List (Nat × List Byte)) (off : Nat) : List Byte :=
  match l with
  | [] => []
  | (t, d) :: r =>
    bytesOf 4 t ++ bytesOf 4 off ++ bytesOf 4 d.length ++ bytesOf 4 0 ++ bytesOf 48 (Config.sha384 d).toNat ++
      dirEntries r (off + pages4k d.length)

/-- Bytes of all components with their padding. -/
def compsLength (l : List (Nat × List Byte)) : Nat := l.foldl (fun n e => n + pages4k e.2.length) 0

/-- The mode configuration as header bytes 128 to 131 (R37, R435); zero when there is none. -/
def Bundle.modeBytes (b : Bundle) : List Byte :=
  match b.mode with
  | some (d, a) => bytesOf 2 d ++ bytesOf 2 a
  | none => bytesOf 4 0

/-- The 4 KiB bundle header with its component directory (R435). -/
def Bundle.headerBytes (b : Bundle) : List Byte :=
  bytesOf 4 1 ++ bytesOf 4 (4096 + compsLength b.comps) ++ bytesOf 1 b.svn ++ bytesOf 1 (b2n b.dbg) ++
    bytesOf 2 b.comps.length ++ bytesOf 1 b.major ++ bytesOf 1 b.minor ++ bytesOf 2 b.build ++
    (List.range 97).map (Config.signingKey b.keySlot) ++ bytesOf 15 0 ++ b.modeBytes ++ bytesOf 124 0 ++
    dirEntries b.comps 4096

/-- The window maps the offset (R438). -/
def flashMapped (off : Nat) : Bool := decide (off < 0x1020000)

/-- n bytes of the window from an offset. -/
def State.flashBytes (s : State) (off n : Nat) : List Byte :=
  let b := s.plumb.running
  let src := if off < 0x10000 then (b.comp 4).drop off else if off < 0x20000 then b.headerBytes.drop (off - 0x10000)
    else (b.comp 3).drop (off - 0x20000)
  (List.range n).map (fun i => src.getD i 0)

end Sys2Proof.Machine
end

