-- ==== Sys2Proof/Machine/RootCfg.lean ====
section
/-! DEFINITION. Root ports of the PCIe root and CXL host personalities: their configuration space (R281, R287, R297), their own events (R291),
and the end of inbound requests (R277, R289, R295). -/

namespace Sys2Proof.Machine

/-! ## Configuration space (R281, R287, R297) -/

/-- The extended capabilities of a root port by offset, ID and version; the last of a PCIe root port is Device 3, a CXL host port has a DVSEC
after it. What PCI Express fixes of them is PRESUMED, their places are the model's (log entry 10). -/
def extCaps (cxl : Bool) : List (Nat × Nat × Nat) :=
  [(0x100, 0x01, 2), (0x140, 0x0D, 1), (0x150, 0x1D, 1), (0x180, 0x30, 1), (0x200, 0x1E, 1), (0x220, 0x2E, 1), (0x240, 0x25, 1),
   (0x250, 0x19, 1), (0x280, 0x26, 1), (0x2B0, 0x2A, 1), (0x2E0, 0x31, 1), (0x300, 0x2F, 1)] ++ (if cxl then [(0x320, 0x23, 1)] else [])

/-- The header of the extended capability at an offset, with the offset of the next one; 0 where none begins. -/
def extHeader (l : List (Nat × Nat × Nat)) (w : Nat) : Nat :=
  match l with
  | [] => 0
  | (o, id, v) :: r => if o = w then id + v * 2 ^ 16 + (r.headD (0, 0, 0)).1 * 2 ^ 20 else extHeader r w

/-- The word of a selective IDE stream block that an offset names: 0 capability, 1 control, 2 status, 3 and 4 Requester ID association. -/
def ideWord (w : Nat) : Option Nat := if 0x194 ≤ w ∧ w < 0x1E4 then some ((w - 0x194) / 4 % 5) else none

/-- Writable bits of a word of a root port's configuration space. What the tables of R287 and R297 do not name is not there: it reads zero and
drops writes. ACS has no Egress Control and no Direct Translated P2P. -/
def cfgMask (cxl : Bool) (w : Nat) : Nat :=
  match w with
  | 0x04 => 0x00000546
  | 0x0C => 0x000000FF
  | 0x18 => 0x00FFFFFF
  | 0x20 | 0x24 => 0xFFF0FFF0
  | 0x28 | 0x2C => 0xFFFFFFFF
  | 0x3C => 0x004300FF
  | 0x48 => 0x0000FFFF
  | 0x50 => 0x00000FDB
  | 0x58 => 0x00001FFF
  | 0x5C => 0x0000001F
  | 0x68 => 0x0000F7FF
  | 0x70 => 0x0000FFFF
  | 0x84 => 0x00000103
  | 0x108 | 0x10C | 0x114 => 0xFFFFFFFF
  | 0x118 => 0x00000140
  | 0x12C => 0x00000007
  | 0x144 => 0x001F0000
  | 0x154 => 0x00BF0000
  | 0x160 | 0x164 | 0x168 | 0x16C => 0x00070707
  | 0x188 => 0x00000004
  | 0x18C => 0xFFFFFFFF
  | 0x208 => 0xE3FFFF0F
  | 0x20C => 0x000000FF
  | 0x308 => 0x00000004
  | 0x32C => if cxl then 0x00006026 else 0
  | w => match ideWord w with
    | some 1 => 0xFFFFFFFF
    | some 3 => 0x00FFFF00
    | some 4 => 0xFFFFFF01
    | _ => 0

/-- The widths of the port's root ports, by lane pair. -/
def Port.rootWidth (k : Port) (i : Nat) : Nat := (((rootStarts k.lanes).find? (fun e => e.1 == i)).map (·.2)).getD 0

/-- Bits of a word that do not come from a write: identity, class, type 1 header, capabilities, and what the root port reports. -/
def Port.rootFixed (k : Port) (i w : Nat) : Nat :=
  let r := k.root i
  match w with
  | 0x00 => Config.vendorId.toNat + Config.rootDevice.toNat * 2 ^ 16
  | 0x04 => 0x00100000
  | 0x08 => 0x06040000 + Config.rootRevision.toNat
  | 0x0C => 0x00010000
  | 0x24 => 0x00010001
  | 0x34 => 0x00000040
  -- PCI Express: root port, slot; 512 bytes, extended tags; 128 GT/s, ASPM L1, link active reporting; in-band hot-plug
  | 0x40 => 0x01428010
  | 0x44 => 0x00008022
  | 0x4C => 7 + k.rootWidth i * 2 ^ 4 + 0x00180800 + i * 2 ^ 24
  | 0x50 => if r.up then r.rate * 2 ^ 16 + r.width * 2 ^ 20 + 2 ^ 29 else 0
  | 0x54 => 0x00040040 + i * 2 ^ 19
  | 0x58 => r.slotEv * 2 ^ 16 + b2n r.up * 2 ^ 22
  | 0x60 => b2n r.pme * 2 ^ 16
  -- timeouts A to D and none; AtomicOps of 32, 64 and 128 bits; LTR; 10-bit tags
  | 0x64 => 0x00030B9F
  | 0x6C => 0x000000FE
  | 0x70 => b2n r.flitMode * 2 ^ 26
  | 0x80 => 0x00030001
  | 0x104 => r.aer
  | 0x110 => r.aerCor
  | 0x130 => r.rootErr
  | 0x144 => 0x0000001F
  | 0x154 => 0x000000A0
  | 0x158 => b2n r.dpc * 9 + r.dpcWhy
  | 0x15C => r.rpPio
  | 0x184 => 0x01030043
  | 0x204 => 0x0000001F
  | 0x22C => b2n (r.doeOut != []) * 2 ^ 31
  | 0x234 => r.doeOut.headD 0
  | 0x244 => 0x80000001
  | 0x248 => if r.up then 0x80000001 else 0
  | 0x304 => 0x00000006
  | 0x324 => 0x01421E98
  | 0x328 => if k.pers = 2 then 0x20260007 else 0
  | 0x32C => if r.cxl = 0 then 0 else 0x00060000 + (if r.cxl = 1 then 2 ^ 21 else 2 ^ 29 + b2n (r.cxl == 3) * 2 ^ 30)
  | w => extHeader (extCaps (k.pers == 2)) w

/-- A read of a root port's own configuration space (R281). -/
def Port.rootRead (k : Port) (i off size : Nat) : Nat :=
  let w := off / 4 * 4
  let v := if w = 0x324 ∧ k.pers ≠ 2 then 0 else k.rootFixed i w
  (v ||| (k.root i).cfgWord off) / 2 ^ (8 * (off % 4)) % 2 ^ (8 * size)

/-- The DOE mailbox (R287): a word written is added to the object, GO turns it into the answer, ABORT drops both. The security protocols it
carries are software's, so what answers is free (log entry 2). -/
def Root.doeWrite (r : Root) (w v : Nat) : Root :=
  if w = 0x230 then { r with doeIn := r.doeIn ++ [v] }
  else if w = 0x234 then { r with doeOut := r.doeOut.drop 1 }
  else if w = 0x228 ∧ bitOf v 0 then { r with doeIn := [], doeOut := [] }
  else if w = 0x228 ∧ bitOf v 31 then { r with doeIn := [], doeOut := Config.doeAnswer r.doeIn }
  else r

/-- Status bits cleared by writing 1. -/
def Root.cfgClear (r : Root) (w new : Nat) : Root :=
  let off (x : Nat) : Nat := x - (x &&& new)
  match w with
  | 0x58 => { r with slotEv := r.slotEv - (r.slotEv &&& new / 2 ^ 16) }
  | 0x60 => { r with pme := r.pme && !bitOf new 16 }
  | 0x104 => { r with aer := off r.aer }
  | 0x110 => { r with aerCor := off r.aerCor }
  | 0x130 => { r with rootErr := off r.rootErr }
  | 0x158 => if bitOf new 0 then { r with dpc := false, dpcWhy := 0 } else r
  | 0x15C => { r with rpPio := off r.rpPio }
  | _ => r

/-- A write of a root port's own configuration space: 4-byte words by offset (R281). -/
def Root.cfgWrite (r : Root) (cxl : Bool) (off size v : Nat) : Root :=
  let w := off / 4 * 4
  let sh := 2 ^ (8 * (off % 4))
  let bytes := (2 ^ (8 * size) - 1) * sh
  let new := v % 2 ^ (8 * size) * sh
  let old := r.cfgWord off
  let keep := old - (old &&& (bytes &&& cfgMask cxl w))
  let r := (r.cfgClear w new).doeWrite w new
  { r with cfg := Tab.put r.cfg 0 w (BitVec.ofNat 64 (keep + (new &&& cfgMask cxl w))) }

/-- Link Disable, Secondary Bus Reset or containment keeps the link down (R287). -/
def Root.held (r : Root) : Bool := bitOf (r.cfgWord 0x50) 4 || bitOf (r.cfgWord 0x3C) 22 || r.dpc

/-- The DPC Trigger Enable field: 0 none, 1 ERR_FATAL, 2 ERR_NONFATAL too (R287, R296). -/
def Root.dpcEnable (r : Root) : Nat := bits (r.cfgWord 0x154) 17 16

/-- An error message or error of the link's partner in the root error registers of AER (R287, R296): 0 correctable, 1 non-fatal, 2 fatal. -/
def Root.errMsg (r : Root) (kind : Nat) : Root :=
  let e := r.rootErr
  let more (b : Nat) : Nat := if bitOf e b then 2 ^ (b + 1) else 2 ^ b
  let v := if kind = 0 then more 0
    else more 2 ||| (if kind = 1 then 2 ^ 5 else 2 ^ 6 ||| (if bitOf e 2 then 0 else 2 ^ 4))
  { r with rootErr := e ||| v }

/-- An uncorrectable error that the root port itself meets is set in AER (R287). -/
def Root.aerSet (r : Root) (b : Nat) : Root := { r with aer := r.aer ||| 2 ^ b }
/-- A failed request of the root port is set in RP PIO Status (R287, R293): 0 UR, 1 CA, 2 timeout; configuration or memory. -/
def Root.pioSet (r : Root) (q : OutReq) (n : Nat) : Root := { r with rpPio := r.rpPio ||| 2 ^ (n + if q.op = 2 ∨ q.op = 3 then 0 else 16) }


/-! ## The port's own events (R78, R291, R419) -/

/-- A LINK notice (R419). -/
def linkNotice (p event x f data : Nat) : Word := notice 0x40 2 7 (p * 2 ^ 12 + event * 2 ^ 8 + x) (f * 2 ^ 30 + data)

def State.postLink (s : State) (p event x data : Nat) : State :=
  let f := s.frameOfPort p
  s.post [f] (linkNotice p event x f data)

/-- The port has root ports. -/
def Port.hasRoots (k : Port) : Bool := k.pers == 1 || k.pers == 2
def State.setRootOf (s : State) (p i : Nat) (r : Root) : State := s.setPort p ((s.port p).setRoot i r)

/-- A link event drives source 40 + n (R78, R291). -/
def State.linkEdge (s : State) (p : Nat) : State := s.aplicEdge (s.frameOfPort p) (40 + p)

/-- The level of INTx pin k, over the port's root ports. -/
def Port.intxLevel (k : Port) (pin : Nat) : Bool := k.roots.any (fun e => bitOf e.2.intx pin)

/-- The pins of a root port change: their sources follow the combined level (R78, R291). -/
def State.setIntx (s : State) (p i v : Nat) : State :=
  let old := s.port p
  let s := s.setRootOf p i { old.root i with intx := v }
  let f := s.frameOfPort p
  (List.range 4).foldl (fun s pin =>
    let n := 8 + 4 * p + pin
    let was := old.intxLevel pin
    let is := (s.port p).intxLevel pin
    if was = is then s
    else
      -- Level0 is active while the pin is deasserted
      let low := (s.frame f).aplic.sm n == 7
      if is != low then s.aplicEdge f n else s.aplicFall f n) s

/-! ## The end of inbound requests (R277, R289, R295) -/

/-- A posted request dropped (R289, R301, R306). -/
def Port.drop (p : Port) : Port :=
  { p with dropped := satAdd 16 p.dropped 1, dt := if p.pers = 3 then { p.dt with drop := true } else p.dt }

/-- The answer of a request that has ended (R277, R289, R295). A peer's Unsupported Request is passed on as such. -/
def Inb.answer (x : Inb) (node : BitVec 16) (p : Port) : Port :=
  if x.root = 8 then
    if x.posted then p
    else
      let data := if x.err ∨ x.wr ∨ x.kind = .fence then [] else x.data
      let r : RPkt := { op := 8, dst := BitVec.ofNat 16 x.src, src := node, tag := x.tag, rport := x.rport, len := data.length,
                        status := if x.err then 4 else 0, poison := x.poison && !x.wr, data := data }
      { p with ridge := p.ridge.sendPkt (x.src == node.toNat) r }
  else if x.posted then (if x.err then p.drop else p)
  else { p with answers := p.answers ++ [if x.err then (if x.ur then .ur x.root x.tag else .ca x.root x.tag) else .data x.root x.tag x.data x.poison] }

/-- A failed posted write of ridge is logged at its target (R277); one of a device is a posted drop (R423). -/
def State.inbFailed (s : State) (p : Nat) (x : Inb) : State :=
  if !x.err ∨ !x.posted then s
  else if x.root = 8 then
    s.report { cls := 3, src := 7, code := 0x2A, inst := p, pa := some x.addr, frame := some (s.frameOfPort p) }
  else s.recAdd 0x24 (0x20 + p) 5 1

/-- A request that has ended leaves, and is answered. -/
def State.inbEnd (s : State) (p t : Nat) (x : Inb) : State :=
  let k := s.port p
  let k := x.answer (BitVec.ofNat 16 (s.frame (s.frameOfPort p)).nodeId) { k with inb := Tab.erase k.inb t }
  (s.setPort p k).inbFailed p x

end Sys2Proof.Machine
end

