-- ==== Sys2Proof/Machine/Requester.lean ====
section
/-! DEFINITION. Accesses of a hart from issue to completion: translation and checks (R52, R65, R104), the store queue
(R60), misses (R127), evictions (R126), uncached and I/O accesses (R59, R63, R498), ridge (R275) and cache-block
operations (R71, R148). -/

namespace Sys2Proof.Machine

/-! ## Bytes of queued stores -/

/-- The byte a queued store writes at a PA, if any. -/
def storeByte (a : Acc) (pa : Nat) : Option Byte :=
  ((List.range a.size).find? (fun i => accByte a i == pa)).map (fun i => BitVec.ofNat 8 (a.data.toNat / 2 ^ (8 * i)))

/-- The newest queued store's byte at a PA (R58). -/
def queueByte (q : List StoreEnt) (pa : Nat) : Option Byte :=
  q.foldl (fun b e => match storeByte e.acc pa with | some x => some x | none => b) none

/-! ## Translation (R52, R91, R104) -/

/-- Privilege and status bits of an access; `hyp` for HLV, HLVX and HSV (R91, R108). -/
def Core.ctxOf (k : Core) (kind : AccKind) (hyp : Bool) : Ctx :=
  let ms := k.csr Csr.mstatus
  let vs := k.csr Csr.vsstatus
  let mprv := ms.getLsbD 17 && k.regs.priv == 3 && !k.regs.virt && kind != .fetch
  let virt := if hyp then true else if mprv then ms.getLsbD 39 && fld ms 12 11 != 3 else k.regs.virt
  let priv := if hyp then fld (k.csr Csr.hstatus) 8 8 else if mprv then fld ms 12 11 else k.regs.priv
  { priv := priv, virt := virt, sum := if virt then vs.getLsbD 18 else ms.getLsbD 18, mxr := ms.getLsbD 19,
    vmxr := vs.getLsbD 19, spt := kind.hint }

/-- Bytes of an access on its first page, or 0 (R52). -/
def pageSplit (va : Word) (size : Nat) : Nat := if va.toNat % 4096 + size ≤ 4096 then 0 else 4096 - va.toNat % 4096

/-- What translating an access answers. -/
inductive XRes where
  | ok (a : Acc)
  | miss
  | hewn (va : Word)
  | fault (cause reason stage : Nat) (va : Word)

/-- Both pages of an access looked up, the lower first (R52, R110). -/
def Core.translate (k : Core) (a : Acc) (ctx : Ctx) : XRes :=
  let t := a.checkType
  match k.lookup a.va t ctx with
  | .miss => .miss
  | .hewnMiss => .hewn a.va
  | .fault _ r st => .fault (pageFault a.kind.causeType) r st a.va
  | .ok pa pb =>
    let n := pageSplit a.va a.size
    if n = 0 then .ok { a with pa := pa, nc := pb != 0, io := pb == 2, split := 0 }
    else
      let va2 := a.va + BitVec.ofNat 64 n
      match k.lookup va2 t ctx with
      | .miss => .miss
      | .hewnMiss => .hewn va2
      | .fault _ r st => .fault (pageFault a.kind.causeType) r st va2
      | .ok pa2 pb2 => .ok { a with pa := pa, nc := pb != 0 || pb2 != 0, io := pb == 2 || pb2 == 2, split := n, pa2 := pa2 }

/-- Each page of an access that misses the L1 TLB and hits the L2 TLB refills the L1 TLB of its side (R89). -/
def State.refillAcc (s : State) (c : Nat) (a : Acc) (ctx : Ctx) : State :=
  let s := s.refill c a.va a.checkType ctx
  let n := pageSplit a.va a.size
  if n = 0 then s else s.refill c (a.va + BitVec.ofNat 64 n) a.checkType ctx

/-! ## Physical memory attributes (R65) -/

/-- How an access is performed. -/
inductive Path where
  | cache
  | nc
  | ridgeNc
  /-- Boot flash through PBMT = NC or IO: read without a copy in L2 (R65). -/
  | flashNc
  | ctl (off : Nat)
  | ecam (p off : Nat)
  | pcie (p pa : Nat)
  | outbound (p off : Nat)
  /-- A cache-block operation on I/O or flash, or a dropped hint. -/
  | nothing
  | denied
deriving DecidableEq, Repr

/-- The access leaves the stud for a block beside the homes: control space, ports, Plumb's copy of the flash. -/
def Path.leaves : Path → Bool
  | .ctl _ | .ecam _ _ | .pcie _ _ | .outbound _ _ | .flashNc => true
  | _ => false

/-- 1, 2, 4 or 8 bytes, naturally aligned, at most 8, at least `lo`. -/
def ioSize (pa size lo hi : Nat) : Bool :=
  (size == 1 || size == 2 || size == 4 || size == 8) && decide (lo ≤ size) && decide (size ≤ hi) && pa % size == 0

/-- AMO sizes and operations that ridge performs (R65). -/
def ridgeAmo (a : Acc) : Bool := (a.size == 4 || a.size == 8) && (atopOf a.aop).isSome

/-- The path of one access whose first byte lies in a region (R65, R498). -/
def Region.path (r : Region) (a : Acc) : Path :=
  let plain := a.kind == .load || a.kind == .store
  if r.io ∧ a.kind.hint then .nothing
  else if r.io ∧ a.kind.cbo then .nothing
  else match r with
  | .dram _ | .remote _ _ | .bench _ _ | .cxl _ _ =>
    if a.nc then
      (if a.kind = .lr ∨ a.kind = .sc then .denied else if a.kind.hint then .nothing
       else if a.kind = .load ∨ a.kind = .store ∨ a.kind = .amo ∨ a.kind = .fetch then .nc else .cache)
    else .cache
  | .flash off =>
    if a.kind.cbo then .nothing
    else if a.kind.hint then (if flashMapped off ∧ !a.nc then .cache else .nothing)
    else if (a.kind = .load ∨ a.kind = .fetch) ∧ flashMapped off then (if a.nc then .flashNc else .cache)
    else .denied
  | .ridge _ _ =>
    if a.kind = .lr ∨ a.kind = .sc then .denied
    else if a.kind = .amo then (if ridgeAmo a then .ridgeNc else .denied)
    else if a.nc then (if a.kind.hint then .nothing else if a.kind = .load ∨ a.kind = .store ∨ a.kind = .fetch then .ridgeNc else .cache)
    else .cache
  | .control off => if plain && ioSize a.pa a.size 4 8 then .ctl off else .denied
  | .ecam p off => if plain && ioSize a.pa a.size 1 4 then .ecam p off else .denied
  | .pcie p pa => if plain && ioSize a.pa a.size 1 8 then .pcie p pa else .denied
  | .outbound p off => if plain && ioSize a.pa a.size 1 8 then .outbound p off else .denied
  | .nowhere => if a.kind.hint then .nothing else .denied

/-- The path of an access whose bytes lie in regions of one or two pages: both must take it, and in the same way (R52, R65). -/
def State.path (s : State) (c : Nat) (a : Acc) : Path :=
  let f := s.frameOfCore c
  let r := s.region f a.pa
  let last := s.region f (accByte a (a.size - 1))
  let p := r.path a
  let q := last.path a
  if last.main ≠ r.main ∨ (last = .nowhere ∧ r ≠ .nowhere) ∨ (p ≠ .denied ∧ q = .denied) then (if a.kind.hint then .nothing else .denied)
  else match r with
    | .outbound n _ => if (s.port n).dt.bme then p else (if a.kind.hint then .nothing else .denied)
    | _ => if p = .cache ∧ q = .flashNc then .flashNc else p

/-- The address a denied access reports: its first byte on the page that denies it (R52). -/
def State.deniedVa (s : State) (c : Nat) (a : Acc) : Word :=
  if a.split ≠ 0 ∧ (s.region (s.frameOfCore c) a.pa).path a ≠ .denied then a.va + BitVec.ofNat 64 a.split else a.va

/-! ## Data bound to a destination (R82) -/

/-- ACCESS code of R88. -/
def poisonKind (a : Acc) : Nat :=
  match a.kind, a.dest with
  | .amo, _ => 1
  | .fetch, _ => 2
  | _, .v _ _ _ => 3
  | _, _ => 0

/-- Bytes of an access as a register value: both registers of a 16-byte pair (Zacas). -/
def Core.deliverAcc (k : Core) (a : Acc) (v : Nat) : Core :=
  match a.dest, decide (8 < a.size) with
  | .x rd, true =>
    if rd.val = 0 then k
    else { k with regs := (k.regs.writeX rd (BitVec.ofNat 64 v)).writeX (rd.val + 1) (BitVec.ofNat 64 (v / 2 ^ 64)) }
  | _, _ => { k with regs := k.regs.deliver a.dest a.sext a.size v }

/-- Later elements of a vector load are left out once vl is trimmed (R82). -/
def Core.dropElems (k : Core) (w : Wait) : Core :=
  let keep (x : Wait) : Bool := !((destElem? x.acc.dest).isSome && x.pc == w.pc && decide (w.seq < x.seq))
  { k with pipe := { k.pipe with waits := k.pipe.waits.filter keep, rob := k.pipe.rob.filter (fun e => keep e.w),
                                 slots := k.pipe.slots.map (fun e => (e.1, { e.2 with merged := e.2.merged.filter keep })) } }

/-- A bound load retires: its register is written, or its poisoned data waits for POISON_CONSUMPTION. A fault-only-first load whose
first poisoned element is not element 0 trims vl instead (R82). -/
def Core.retireOne (k : Core) (e : RobEnt) : Core :=
  let a := e.w.acc
  let r : PoisonRec := { va := a.va, pa := if (accLines a).contains e.pline then e.pline * 64 else a.pa, src := e.src, kind := poisonKind a, elem := (destElem? a.dest).getD 0, pc := e.w.pc,
                         guest := a.guest }
  let took : Core := { k with pipe := { k.pipe with poison := some r } }
  if e.poison then
    match a.dest with
    | .v _ elem true => if elem ≠ 0 then { k with regs := { k.regs with vl := elem }.dirty 10 9 }.dropElems e.w else took
    | _ => took
  else k.deliverAcc a e.val

/-- Data reaches an instruction: it retires where it is the oldest, else it waits in the reorder buffer (R55). `pl` is the first poisoned
line. -/
def Core.bind (k : Core) (w : Wait) (v : Nat) (poison : Bool) (src pl : Nat) : Core :=
  if k.pipe.first w then k.retireOne { w := w, val := v, poison := poison, src := src, pline := pl }
  else if w.acc.dest = .none ∧ !poison then k
  else { k with pipe := { k.pipe with rob := insertRob k.pipe.rob { w := w, val := v, poison := poison, src := src, pline := pl } } }

/-- Bound loads that have become the oldest retire, at most n (R55). -/
def Core.settleN (k : Core) (n : Nat) : Core :=
  match n, k.pipe.rob with
  | m + 1, e :: r =>
    let k' := { k with pipe := { k.pipe with rob := r } }
    if k'.pipe.first e.w then Core.settleN (k'.retireOne e) m else k
  | _, _ => k

def State.settle (s : State) (c : Nat) : State :=
  let k := s.core c
  if k.pipe.rob.isEmpty then s else s.setCore c (k.settleN k.pipe.rob.length)

/-! ## Leaving and entering L2 (R125, R126, R275) -/

/-- A victim leaves L2: silently when clean, through a writeback entry when dirty; none where every entry is in use
(R126). A ridge line's written bytes go as WRITEs (R275). -/
def State.evict (s : State) (c : Nat) (line : Nat) : Option State :=
  let s := s.l2Check c line
  let k := s.core c
  match k.pipe.find2 line with
  | none => some s
  | some e =>
    if isRidgeLine line then
      if e.wmask = 0 then some (s.setCore c (k.dropLine line))
      else match k.pipe.takeSlot .evict with
        | none => none
        | some i =>
          let sl : Slot := { kind := .evict, line := line, op := .wb, data := some (e.data, .wbData, e.poison, 0), mask := e.wmask }
          let k := k.dropLine line
          let s := s.setCore c { k with pipe := k.pipe.setSlot i sl }
          some ((s.ridgeRun c i sl).getD s)
    else if e.st.dirty then
      match k.pipe.takeSlot .evict with
      | none => none
      | some i =>
        let s := s.setCore c (k.dropLine line)
        some (s.request c i { kind := .evict, line := line, op := .wb, wb := some (e.data, e.st, e.poison) })
    else some (s.setCore c (k.dropLine line))

/-- A line installed in L2; none where no way is free and no victim can leave (R125). -/
def State.installLine (s : State) (c : Nat) (e : L2Line) (lru : Bool) : Option State :=
  let k := s.core c
  match k.pipe.find2 e.line with
  | some old => some (s.setCore c { k with pipe := k.pipe.install { e with way := old.way } lru })
  | none =>
    match k.pipe.fillWay e.line with
    | .free w => some (s.setCore c { k with pipe := k.pipe.install { e with way := w } lru })
    | .none => none
    | .evict v =>
      match s.evict c v.line with
      | none => none
      | some s => let k := s.core c; some (s.setCore c { k with pipe := k.pipe.install { e with way := v.way } lru })

/-- A line written into L1 after an L2 hit (R121): a free number picks the victim of a full set. -/
def State.fillL1 (s : State) (c : Nat) (fetch : Bool) (line : Nat) : State :=
  let k := s.core c
  if (if fetch then k.pipe.l1i else k.pipe.l1d).contains line then s
  else
    let (v, s) := s.take
    s.setCore c { k with pipe := k.pipe.fillL1 fetch line v.toNat }

/-- The hint in force for a fill (R74). -/
def ntlHead (n : Option Ntl) : Bool :=
  match n with
  | some .pall => true
  | some .s1 => true
  | some .all => true
  | _ => false

/-! ## Misses (R127) -/

/-- A miss register, the request it sends and the access it serves. -/
def State.openMiss (s : State) (c : Nat) (line : Nat) (uniq : Bool) (nt : Option Ntl) (l : List Wait) : Option State :=
  let k := s.core c
  match k.pipe.takeSlot .miss with
  | none => none
  | some i =>
    let sl : Slot := { line := line, merged := l, lru := ntlHead nt, nonalloc := nt == some .all, uniq := uniq }
    if isRidgeLine line then
      match s.ridgeSend (s.frameOfCore c) { core := c, slot := i, op := 1, node := ridgeNode (line * 64),
                                            addr := ridgeAddr (line * 64), len := 64, line := line } with
      | some s => let k := s.core c; some (s.setCore c { k with pipe := k.pipe.setSlot i { sl with op := .rdS } })
      | none => none
    else
      match k.pipe.find2 line with
      | some e => some (s.request c i { sl with op := if uniq then .upg else .rdS, way := some e.way })
      | none => some (s.request c i { sl with op := if uniq then .rdU else .rdS })

/-- A miss of a line: merged into its open register, which then asks for ownership if the access needs it, or a register opened;
none where the access must wait (R127, R173). -/
def State.startMiss (s : State) (c : Nat) (line : Nat) (uniq : Bool) (nt : Option Ntl) (l : List Wait) : Option State :=
  let k := s.core c
  match k.pipe.missOf line with
  | some (i, sl) =>
    if sl.users + l.length ≤ 16 then
      some (s.setCore c { k with pipe := k.pipe.setSlot i { sl with merged := sl.merged ++ l, uniq := sl.uniq || uniq } })
    else none
  | none => if (k.pipe.wbOf line).isSome then none else s.openMiss c line uniq nt l

/-- The store at the head of the store queue misses its line: it takes a place of the 16 without leaving its queue (R127). -/
def State.storeMiss (s : State) (c : Nat) (line : Nat) (nt : Option Ntl) : Option State :=
  let mark (s : State) : State :=
    let k := s.core c
    match k.pipe.missOf line with
    | some (i, sl) => s.setCore c { k with pipe := k.pipe.setSlot i { sl with st := true } }
    | none => s
  match (s.core c).pipe.missOf line with
  | some (_, sl) => if sl.st then some s else if sl.users < 16 then (s.startMiss c line true nt []).map mark else none
  | none => (s.startMiss c line true nt []).map mark

/-- Boot flash lines are filled at once from the bundle (R438), over a tenon link that is UP; `lru` is the hint's place (R74). -/
def State.flashFill (s : State) (c : Nat) (line : Nat) (lru : Bool) : State :=
  match s.region (s.frameOfCore c) (line * 64) with
  | .flash off =>
    if ((s.core c).pipe.find2 line).isSome ∨ !s.studLinked c then s
    else (s.installLine c { line := line, data := lineOf (s.flashBytes off 64) } lru).getD s
  | _ => s

/-! ## Order within a hart (R58, R63, R72) -/

/-- An older waiting access must be performed before `a`: an older write to a shared line; before a write, any older
access to one; an access not yet translated may name any line. -/
def mustFollow (older a : Acc) (xlated : Bool) : Bool :=
  (older.kind.writes || a.kind.writes) && (!xlated || shareLine older a)

/-- An older access holds `w` back: one to its line, or an AMO, LR or SC with aq; or a cache-block operation in flight, on its line or,
for an access with rl, on any (R63, R66, R72). -/
def Core.held (k : Core) (w : Wait) : Bool :=
  w.data &&
  (k.pipe.unperformed.any (fun o => decide (o.seq < w.seq) && (mustFollow o.acc w.acc o.xlated || o.acc.aq)) ||
   k.pipe.slots.any (fun e => e.2.kind == .cbo && (w.acc.rl || (accLines w.acc).contains e.2.line)))

/-- An access to an I/O region or through PBMT = IO (R57). -/
def State.isIo (s : State) (c : Nat) (a : Acc) : Bool := a.io || (s.region (s.frameOfCore c) a.pa).io

/-- Older I/O accesses of the hart are under way: later ones wait (R63). I/O accesses issue as the oldest instruction
(R57). -/
def State.ioBusy (s : State) (c : Nat) (w : Wait) : Bool :=
  let k := s.core c
  !k.pipe.first w || k.pipe.slots.any (fun e => e.2.kind == .unc) ||
    (w.acc.kind != .store && k.pipe.storeQ.any (fun e => s.isIo c e.acc))

/-! ## Hardware prefetchers (R87, R103, R128): which miss starts a stream, and which way it runs, is a free value (log entry 36) -/

/-- The L2 prefetcher asks for line n of the page of a line, through a slot of its own. -/
def State.prefLine (s : State) (c line n : Nat) : State :=
  let p := (s.core c).pipe
  if n / 64 ≠ line / 64 ∨ n = line ∨ isRidgeLine n ∨ (p.find2 n).isSome ∨ (p.missOf n).isSome ∨ (p.wbOf n).isSome then s
  else match s.target (s.frameOfCore c) (n * 64), p.takeSlot .pref with
    | some _, some i => s.request c i { kind := .pref, line := n, op := .rdS }
    | _, _ => s

/-- A demand load has missed L2: the L2 prefetcher fetches PF_DEGREE lines ahead of a stream. -/
def State.l2Prefetch (s : State) (c line : Nat) : State :=
  let k := s.core c
  if !k.csrBit Csr.mcorectl 1 then s
  else
    let (v, s) := s.take
    if !v.getLsbD 0 then s
    else (List.range (fld (k.csr Csr.mcorectl) 7 4)).foldl
      (fun s i => s.prefLine c line (if v.getLsbD 1 then line + (i + 1) else line - (i + 1))) s

/-! ## Performing an access -/

/-- The first line of an access that is poisoned in L2; its first line where none is. -/
def Core.poisonLine (k : Core) (a : Acc) : Nat :=
  ((accLines a).find? (fun l => (k.pipe.find2 l).elim false (·.poison))).getD (a.pa / 64)

/-- Bytes of a cached access from L2, with poison and source; none where a line is missing or the wrong state. -/
def Core.l2Read (k : Core) (a : Acc) : Option (Nat × Bool × Nat) :=
  (accPieces a).foldl (fun r p =>
    match r, k.pipe.find2 (p.1 / 64) with
    | some (v, pz, src), some e =>
      some (v + lineBytes e.data (p.1 % 64) p.2.2 * 2 ^ (8 * p.2.1), pz || e.poison, if e.poison ∧ !pz then e.src else src)
    | _, _ => none) (some (0, false, 0))

/-- The value a load reads: L2 bytes with the store queue's over them (R58). -/
def overlay (q : List StoreEnt) (a : Acc) (v : Nat) : Nat :=
  ofBytes ((List.range a.size).map (fun i => (queueByte q (accByte a i)).getD (BitVec.ofNat 8 (v / 2 ^ (8 * i)))))

/-- The store queue gives every byte of a load. -/
def fullyQueued (q : List StoreEnt) (a : Acc) : Bool := (List.range a.size).all (fun i => (queueByte q (accByte a i)).isSome)

/-- A load or fetch misses L2: a demand load that opens a register of its own may start a stream. -/
def State.loadMiss (s : State) (c l : Nat) (w : Wait) : Option State :=
  let opened := ((s.core c).pipe.missOf l).isNone
  (s.startMiss c l false w.ntl [w]).map (fun s => if opened ∧ w.acc.kind = .load then s.l2Prefetch c l else s)

/-- A hit moves the lines of an access to the most recent position, but for a fill that entered at the least recent one (R125). -/
def Pipe.touchAll (p : Pipe) (w : Wait) : Pipe := if w.filled then p else (accLines w.acc).foldl Pipe.touch p

/-- A cached load or fetch (R59): none where it must wait. A hit in an L1 moves the line in the L2 too (DESIGN CHOICE, log entry 36: R125
does not say whether a hit that need not look there does). -/
def State.doLoad (s : State) (c : Nat) (w : Wait) : Option State :=
  let a := w.acc
  let w := { w with filled := w.filled || (ntlHead w.ntl && (accLines a).any (fun l => ((s.core c).pipe.find2 l).isNone)) }
  let q := if a.kind = .fetch then [] else (s.core c).pipe.storeQ
  if a.kind = .load ∧ fullyQueued q a then
    let k := s.core c
    some (s.setCore c (k.bind w (overlay q a 0) false 0 0))
  else
    let s := (accLines a).foldl (fun s l => (((s.flashFill c l (ntlHead w.ntl)).upsetAt c l (a.kind == .fetch) a.upset).l1Check c l).l2Check c l) s
    let k := s.core c
    match (accLines a).find? (fun l => (k.pipe.find2 l).isNone) with
    | some l => match s.region (s.frameOfCore c) (l * 64) with | .flash _ => none | _ => s.loadMiss c l w
    | none =>
      match k.l2Read a with
      | none => none
      | some (v, pz, src) =>
        let s := (accLines a).foldl (fun s l => s.fillL1 c (a.kind == .fetch) l) s
        let k := s.core c
        let k := { k with pipe := k.pipe.touchAll w }
        some (s.setCore c (k.bind w (overlay q a v) (pz && !fullyQueued q a) src (k.poisonLine a)))

/-- Bytes of an access written into L2 lines held in unique ownership (R121). -/
def Core.l2Write (k : Core) (a : Acc) (v : Nat) (filled : Bool) : Core :=
  (accPieces a).foldl (fun k p =>
    let q := k.pipe.upd2 (p.1 / 64) (fun e =>
        e.write (placeInLine (v / 2 ^ (8 * p.2.1) % 2 ^ (8 * p.2.2)) (p.1 % 64)) (byteMask (p.1 % 64) p.2.2) .m)
    { k with pipe := if filled then q else q.touch (p.1 / 64) }) k

/-- A line in unique ownership, or a ridge line of this core alone (R158, R275). -/
def Core.owns (k : Core) (line : Nat) : Bool := (k.pipe.find2 line).elim false (fun e => e.st.unique || isRidgeLine line)

/-- The first line of an access that L2 does not own. -/
def Core.wantLine (k : Core) (a : Acc) : Option Nat := (accLines a).find? (fun l => !k.owns l)

/-- An AMO in L2 (R66): on poisoned data memory is not modified (R82). -/
def State.doAmo (s : State) (c : Nat) (w : Wait) : Option State :=
  let a := w.acc
  let s := (accLines a).foldl (fun s l => s.l2Check c l) s
  let k := s.core c
  match k.wantLine a with
  | some l => s.startMiss c l true w.ntl [w]
  | none =>
    match k.l2Read a with
    | none => none
    | some (v, true, src) => some (s.setCore c ({ k with pipe := k.pipe.touchAll w }.bind w v true src (k.poisonLine a)))
    | some (v, false, _) =>
      let k := k.l2Write a (amoResult a.aop a.size v a.data.toNat a.cmp.toNat) w.filled
      some (s.setCore c (k.deliverAcc a v))

/-- LR (R67): the reservation and the hold. -/
def State.doLr (s : State) (c : Nat) (w : Wait) : Option State :=
  let a := w.acc
  let s := (accLines a).foldl (fun s l => s.l2Check c l) s
  match (s.core c).wantLine a with
  | some l => s.startMiss c l true w.ntl [w]
  | none =>
    match (s.core c).l2Read a with
    | none => none
    | some (v, pz, src) =>
      let s := if (s.core c).pipe.hold = some (a.pa / 64) then s else s.releaseHold c
      let k := s.core c
      let k := { k with pipe := { k.pipe.touchAll w with resv := some (a.pa / 64), hold := some (a.pa / 64) } }
      some (s.setCore c (k.bind w v pz src (k.poisonLine a)))

/-- SC (R67): success needs the reservation of the block; either way it is lost and the hold ends. -/
def State.doSc (s : State) (c : Nat) (w : Wait) : State :=
  let a := w.acc
  let k := s.core c
  let ok := k.pipe.resv == some (a.pa / 64) && k.owns (a.pa / 64)
  let k := if ok then k.l2Write a a.data.toNat false else k
  let k := k.deliverAcc { a with size := 8, sext := false } (if ok then 0 else 1)
  let k := { k with pipe := { k.pipe with resv := none } }
  (s.setCore c k).releaseHold c

/-- A cache-block operation on a line of the hart's own ridge copy (R71, R275). -/
def State.doRidgeCbo (s : State) (c : Nat) (a : Acc) : Option State :=
  let line := a.pa / 64
  let k := s.core c
  match k.pipe.find2 line with
  | none => some s
  | some e =>
    if a.kind = .cboInval then some (s.setCore c (k.dropLine line))
    else if e.wmask = 0 then some (if a.kind = .cboFlush then s.setCore c (k.dropLine line) else s)
    else match k.pipe.takeSlot .cbo with
      | none => none
      | some i =>
        let sl : Slot := { kind := .cbo, line := line, op := .cboClean, data := some (e.data, .wbData, e.poison, 0), mask := e.wmask }
        let k := if a.kind = .cboFlush then k.dropLine line
          else { k with pipe := k.pipe.upd2 line (fun e => { e with wmask := 0, st := .e }) }
        let s := s.setCore c { k with pipe := k.pipe.setSlot i sl }
        some ((s.ridgeRun c i sl).getD s)

/-- cbo.clean, cbo.flush and cbo.inval on coherent memory: applied in L2 and sent to the home (R71, R148). -/
def State.doCbo (s : State) (c : Nat) (w : Wait) : Option State :=
  let line := w.acc.pa / 64
  let k := s.core c
  if (k.pipe.wbOf line).isSome then none
  else if isRidgeLine line then s.doRidgeCbo c w.acc
  else match k.pipe.takeSlot .cbo with
    | none => none
    | some i =>
      let op : MsgOp := match w.acc.kind with | .cboClean => .cboClean | .cboFlush => .cboFlush | _ => .cboInval
      let s := if op = .cboInval then s.setCore c (k.dropLine line) else s
      some (s.request c i { kind := .cbo, line := line, op := op, merged := [w] })

/-- cbo.zero (R71): unique ownership without reading memory; a ridge line is written in the hart's own L2 only. -/
def State.doZero (s : State) (c : Nat) (w : Wait) : Option State :=
  let line := w.acc.pa / 64
  let k := s.core c
  if k.owns line then
    let p := k.pipe.upd2 line (fun e =>
      { e with data := 0, st := .m, poison := false, wmask := if isRidgeLine line then BitVec.allOnes 64 else e.wmask })
    -- a write of the whole line clears a planted error (R334)
    let p := { p with l2bad := Tab.erase p.l2bad line, l1bad := p.l1bad.filter (· != line) }
    some (s.setCore c { k with pipe := if w.filled then p else p.touch line })
  else if (k.pipe.wbOf line).isSome then none
  else if isRidgeLine line then s.installLine c { line := line, st := .m, data := 0, src := 5, wmask := BitVec.allOnes 64 } (ntlHead w.ntl)
  else match k.pipe.takeSlot .miss with
    | none => none
    | some i => some (s.request c i { line := line, op := .cboZero, way := (k.pipe.find2 line).map (·.way), merged := [w],
                                      uniq := true, zero := true, lru := ntlHead w.ntl, nonalloc := w.ntl == some .all })

/-- A cache-block operation meets an open miss register of its line: it is held in that register (R148). A cbo.zero turns the register's
request into one for unique ownership without data. -/
def State.joinMiss (s : State) (c i : Nat) (sl : Slot) (w : Wait) : Option State :=
  if 16 ≤ sl.users then none
  else
    let z := w.acc.kind == .cboZero
    let k := s.core c
    let sl := { sl with merged := sl.merged ++ [w], uniq := sl.uniq || z, zero := sl.zero || z }
    some (s.setCore c { k with pipe := k.pipe.setSlot i sl })

/-- A prefetch of a hint or of the L1D stride prefetcher (R73, R128): dropped while more than 40 of the miss registers are in use; it
waits for a writeback of its line (R173). -/
def State.doPref (s : State) (c : Nat) (w : Wait) : Option State :=
  let line := w.acc.pa / 64
  let w := { w with filled := w.filled || (ntlHead w.ntl && ((s.core c).pipe.find2 line).isNone) }
  let s := s.flashFill c line (ntlHead w.ntl)
  let k := s.core c
  let uniq := w.acc.kind == .prefW
  if (k.pipe.find2 line).elim false (fun _ => !uniq || k.owns line) then
    let s := s.setCore c { k with pipe := k.pipe.touchAll w }
    some (if w.acc.l1 then s.fillL1 c false line else s)
  else if 40 < k.pipe.missesUsed then some s
  else match s.region (s.frameOfCore c) (line * 64) with
    | .flash _ => some s
    | _ => s.startMiss c line uniq w.ntl (if w.acc.l1 then [w] else [])

/-! ## Uncached and I/O accesses -/

/-- The operand line of an uncached atomic: the operand in bytes 0 to 15, the compare value in bytes 16 to 31; R162
names no place for them (DESIGN CHOICE, log entry 15). -/
def amoOperand (a : Acc) : Line := BitVec.ofNat 512 (a.data.toNat + a.cmp.toNat * 2 ^ 128)

/-- The request of the next piece of an uncached access (R498). -/
def State.ncPiece (s : State) (c i : Nat) (w : Wait) : State :=
  match (accPieces w.acc)[w.acc.part]? with
  | none => s
  | some p =>
    let op : MsgOp := match w.acc.kind with | .store => .wrNc | .amo => .atomNc | _ => .rdNc
    s.request c i { kind := .unc, line := p.1 / 64, op := op, merged := [w] }

/-- The ridge packet of the next piece of an uncached access or of an AMO (R275). -/
def State.ridgePiece (s : State) (c i : Nat) (w : Wait) : Option State :=
  match (accPieces w.acc)[w.acc.part]? with
  | none => none
  | some p =>
    let a := w.acc
    let v := a.data.toNat / 2 ^ (8 * p.2.1)
    let r : RidgeReq := { core := c, slot := i, op := (match a.kind with | .store => 2 | .amo => 4 | _ => 1),
                          atop := (atopOf a.aop).getD 0, node := ridgeNode p.1, addr := ridgeAddr p.1, len := p.2.2,
                          data := if a.kind = .store ∨ a.kind = .amo then bytesOf p.2.2 v else [],
                          cmp := if a.kind = .amo ∧ a.aop = .cas then BitVec.ofNat 64 a.cmp.toNat else 0, line := p.1 / 64 }
    match s.ridgeSend (s.frameOfCore c) r with
    | none => none
    | some s =>
      let k := s.core c
      some (s.setCore c { k with pipe := k.pipe.setSlot i { kind := .unc, line := p.1 / 64, op := .rdNc, merged := [w] } })

/-- An uncached access takes a slot and sends its first piece (R56). -/
def State.startNc (s : State) (c : Nat) (w : Wait) (ridge : Bool) : Option State :=
  match (s.core c).pipe.takeSlot .unc with
  | none => none
  | some i => if ridge then s.ridgePiece c i w else some (s.ncPiece c i w)

/-- All-ones of n bytes. -/
def allOnes (n : Nat) : Nat := 2 ^ (8 * n) - 1

/-- A fault of an element other than the first of a fault-only-first load trims vl instead of trapping (the vector
extension, R51); every other fault is taken. -/
def State.faultAcc (s : State) (c : Nat) (w : Wait) (trap : State) : State :=
  match w.acc.dest with
  | .v _ elem true =>
    if elem = 0 then trap else let k := s.core c; s.setCore c ({ k with regs := { k.regs with vl := elem }.dirty 10 9 }.dropElems w)
  | _ => trap

/-- A load's error on a PCIe or dovetail memory read (R293): all-ones and a contained event, or an access fault. -/
def State.ioFail (s : State) (c p : Nat) (w : Wait) : State :=
  let a := w.acc
  if (s.port p).devCtl.getLsbD 32 then s.faultAcc c w (s.fault c (accessFault a.kind.causeType) w)
  else
    let k := s.core c
    (s.setCore c (k.deliverAcc a (allOnes a.size))).report
      { cls := 3, src := 7, code := if (s.port p).pers = 3 then 0x2E else 0x2B, inst := p, pa := some a.pa,
        frame := some (s.frameOfPort p) }

/-- An outstanding I/O request takes a slot of its core. -/
def State.ioSlot (s : State) (c i : Nat) (w : Wait) : State :=
  let k := s.core c
  s.setCore c { k with pipe := k.pipe.setSlot i { kind := .unc, line := w.acc.pa / 64, op := .rdNc, merged := [w] } }

/-- A configuration write that fails is logged (R292). -/
def State.cfgFailed (s : State) (p : Nat) : State :=
  s.report { cls := 3, src := 7, code := 0x2B, inst := p, frame := some (s.frameOfPort p) }

/-- An outstanding request of port p has ended for the core that made it: with data, or with none where it failed. The core's next step goes
on from there. -/
def State.ioEnd (s : State) (p : Nat) (q : OutReq) (got : Option (List Byte × Bool)) : State :=
  match Tab.find (s.core q.core).pipe.slots q.slot with
  | none => s
  | some sl =>
    let k := s.core q.core
    let s := s.setCore q.core { k with pipe := k.pipe.freeSlot q.slot }
    match sl.merged with
    | [] => s
    | w :: _ =>
      let ok (v : Nat) : State := s.setCore q.core ((s.core q.core).deliverAcc w.acc v)
      match got with
      | some (d, ep) => if q.op = 1 ∧ ep then s.ioFail q.core p w else ok (ofBytes d)
      | none => if q.op = 2 then ok (allOnes w.acc.size) else s.ioFail q.core p w

/-- A request that another port forwarded, or a configuration write, has failed: the requester gets its error, the write is logged (R289,
R292). -/
def State.ioLoseOther (s : State) (p : Nat) (q : OutReq) : State :=
  if q.core = 384 then s.cfgFailed p
  else
    let src := q.core - 385
    match Tab.find (s.port src).inb q.slot with
    | some x => s.inbEnd src q.slot { x with err := true }
    | none => s

/-- Requests outstanding on a root port end as timeouts at once; their tags are quarantined (R293, R294). -/
def State.rootFlush (s : State) (p i : Nat) : State :=
  ((s.port p).root i).out.foldl (fun s e =>
    let r := (s.port p).root i
    let s := s.setRootOf p i { (r.aerSet 14).pioSet e.2 2 with out := Tab.erase r.out e.1, quar := Tab.set r.quar e.1 e.2.owed }
    let s := s.recAdd 0x24 (0x20 + p) 6 1
    if e.2.core < 384 then s.ioEnd p e.2 none else s.ioLoseOther p e.2) s

/-- The device behind root port i of a CXL host port is gone (R299): it is counted and logged, its decoder is empty from here on, and what its
home still awaits of it comes as poison. -/
def State.cxlLost (s : State) (p i : Nat) : State :=
  let h := 12 + p
  let b := s.home h
  if ((s.port p).root i).cxl = 0 then s
  else
    let mine (e : Nat × Nat) : Bool := decide (((s.cxlSlice h (e.1 * 64)).map (·.1)) = some i)
    let poison (m : Map HTx) (e : Nat × Nat) : Map HTx := match Tab.find m e.2 with
      | some t => Tab.set m e.2 { t with buf := 0, poison := true, have_ := true, source := 4 }
      | none => m
    let b := { b with linkDown := listAdd b.linkDown i, cxlWait := b.cxlWait.filter (fun e => !mine e),
                      txs := (b.cxlWait.filter mine).foldl poison b.txs }
    (s.setHome h b).report { cls := 3, src := 7, code := 0x2D, inst := p, frame := some (s.frameOfPort p) }

/-- A root port's link goes down: its requests end as timeouts, its INTx pins are deasserted, its CXL device is gone. The widths and rates it
trained at stay for the next time it comes up. -/
def State.rootLost (s : State) (p i : Nat) : State :=
  let s := ((s.cxlLost p i).rootFlush p i).setIntx p i 0
  let r := (s.port p).root i
  (s.setRootOf p i { r with up := false, power := .l0, slotEv := r.slotEv ||| 2 ^ 8 }).recAdd 0x24 (0x20 + p) 3 1

/-- DPC contains a root port (R287, R293, R296): reason and extension as DPC Status names them. -/
def State.rootContain (s : State) (p i why : Nat) : State :=
  let s := s.rootLost p i
  let s := s.setRootOf p i { (s.port p).root i with dpc := true, dpcWhy := why }
  ((s.report { cls := 3, src := 7, code := 0x2B, inst := p, frame := some (s.frameOfPort p) }).linkEdge p).postLink p 6 i 0

/-- A store to a root port's own configuration space (R281, R287): the DPC software trigger, Link Disable and Secondary Bus Reset act. -/
def State.rootStore (s : State) (p i off size v : Nat) : State :=
  let k := s.port p
  let r := (k.root i).cfgWrite (k.pers == 2) off size v
  let new := v % 2 ^ (8 * size) * 2 ^ (8 * (off % 4))
  let s := s.setPort p (k.setRoot i r)
  if !r.up then s
  else if off / 4 * 4 = 0x154 ∧ bitOf new 22 ∧ r.dpcEnable ≠ 0 then s.rootContain p i (3 * 2 + 2 ^ 5)
  else if r.held then ((s.rootLost p i).linkEdge p).postLink p 1 0 0
  else s

/-- An access of the NQ window waits behind a read of the same HOST copy that stalls there; a pop joins the reads that stall (R344, R415). -/
def State.nqBlocked (s : State) (c off : Nat) (pop : Bool) : Bool :=
  let ap : AccessPort := .host (Fin.ofNat 4 (s.frameOfCore c))
  off / 0x10000 == 9 && (s.nqWait.any (fun a => a.ap == ap) || (s.nqStalls ap && !(pop && off % 0x10000 == 0x100)))

/-- A hart's load of an I/O region (R57, R59, R63): none where it must wait. -/
def State.doIoLoad (s : State) (c : Nat) (w : Wait) (p : Path) : Option State :=
  let a := w.acc
  match p with
  | .ctl off =>
    let s := s.nqGoOn
    if s.nqBlocked c off (a.size == 8) then none
    else match s.ctlRead (s.frameOfCore c) c off a.size a.dest with
    | .fault => some (s.fault c 5 w)
    | .stalled s => let k := s.core c; some (s.setCore c { k with pipe := { k.pipe with stall := some (w.seq, w.pc) } })
    | .value v s => let k := s.core c; some (s.setCore c (k.deliverAcc a v.toNat))
  | .ecam n off =>
    let k := s.port n
    let bus := bits off 27 20
    if bus = 0 then
      let i := bits off 19 15
      let v := if bits off 14 12 = 0 ∧ (rootStarts k.lanes).any (·.1 == i) then k.rootRead i (off % 4096) a.size
        else allOnes a.size
      let k := s.core c; some (s.setCore c (k.deliverAcc a v))
    else match k.busOwner bus with
      | none => let k := s.core c; some (s.setCore c (k.deliverAcc a (allOnes a.size)))
      | some r =>
        if !(k.root r).up then (let k := s.core c; some (s.setCore c (k.deliverAcc a (allOnes a.size))))
        else match (s.core c).pipe.takeSlot .unc with
          | none => none
          | some i =>
            match k.askRoot r { core := c, slot := i, op := 2, node := r, addr := off, len := a.size, line := a.pa / 64,
                                type1 := k.secondBus r != bus } with
            | none => none
            | some x => some ((s.setPort n x).ioSlot c i w)
  | .pcie n pa =>
    let k := s.port n
    match k.claimant pa with
    | none => some (s.ioFail c n w)
    | some r =>
      if !(k.root r).up then some (s.ioFail c n w)
      else match (s.core c).pipe.takeSlot .unc with
        | none => none
        | some i =>
          match k.askRoot r { core := c, slot := i, op := 1, node := r, addr := pa, len := a.size, line := a.pa / 64 } with
          | none => none
          | some x => some ((s.setPort n x).ioSlot c i w)
  | .outbound n x =>
    let k := s.port n
    match (s.core c).pipe.takeSlot .unc with
    | none => none
    | some i =>
      match k.dt.ask { core := c, slot := i, op := 1, addr := k.dt.outBase.toNat + x, len := a.size, line := a.pa / 64 } with
      | none => none
      | some d => some ((s.setPort n { k with dt := d }).ioSlot c i w)
  | _ => some s

/-- A queued store of an I/O region is accepted by its destination (R59, R292). -/
def State.doIoStore (s : State) (c : Nat) (a : Acc) (p : Path) : Option State :=
  let v := a.data.toNat
  match p with
  | .ctl off => let s := s.nqGoOn; if s.nqBlocked c off false then none else some ((s.ctlWrite (c / 32) (s.frameOfCore c) off a.size (BitVec.ofNat 64 v)).getD s)
  | .ecam n off =>
    let k := s.port n
    let bus := bits off 27 20
    if bus = 0 then
      let i := bits off 19 15
      if bits off 14 12 = 0 ∧ (rootStarts k.lanes).any (·.1 == i) then
        some (s.rootStore n i (off % 4096) a.size v)
      else some (s.cfgFailed n)
    else match k.busOwner bus with
      | none => some (s.cfgFailed n)
      | some r =>
        if !(k.root r).up then some (s.cfgFailed n)
        else (k.askRoot r { core := 384, op := 3, node := r, addr := off, len := a.size, data := bytesOf a.size v,
                            type1 := k.secondBus r != bus }).map (s.setPort n ·)
  | .pcie n pa =>
    let k := s.port n
    match k.claimant pa with
    | none => some s
    | some r =>
      some (if (k.root r).up then s.setPort n (k.postRoot r pa (bytesOf a.size v) false) else s)
  | .outbound n x =>
    let k := s.port n
    some (s.setPort n { k with dt := { k.dt.wake with sent := k.dt.sent ++ [(k.dt.outBase.toNat + x, bytesOf a.size v)] } })
  | _ => some s

/-- A control-space store that names no register raises an access fault at issue (R341). -/
def State.ctlDenied (s : State) (c : Nat) (a : Acc) (p : Path) : Bool :=
  match p with
  | .ctl off => (s.ctlWrite (c / 32) (s.frameOfCore c) off a.size 0).isNone
  | _ => false

/-- An access to this region may be answered with an access error by its home or its target (R142, R276, R299). -/
def Region.mayErr : Region → Bool
  | .bench _ _ | .cxl _ _ | .remote _ _ | .ridge _ _ => true
  | _ => false

/-- A translated store enters the store queue; none while it is full (R54, R60). -/
def State.pushStore (s : State) (c : Nat) (w : Wait) : Option State :=
  let k := s.core c
  if 128 ≤ k.pipe.storeQ.length then none
  else some (s.setCore c { k with pipe := { k.pipe with storeQ := k.pipe.storeQ ++
    [{ acc := w.acc, ctx := w.ctx, ntl := w.ntl, seq := w.seq, pc := w.pc,
       mayErr := (accPieces w.acc).any (fun p => (s.region (s.frameOfCore c) p.1).mayErr) }] } })

/-- Boot flash read without a copy (R65, R438). -/
def State.doFlashNc (s : State) (c : Nat) (w : Wait) : State :=
  let f := s.frameOfCore c
  let v := (accPieces w.acc).foldl (fun v p => match s.region f p.1 with
    | .flash off => v + ofBytes (s.flashBytes off p.2.2) * 2 ^ (8 * p.2.1)
    | _ => v) 0
  let k := s.core c
  s.setCore c (k.bind w v false 0 0)

/-- A translated access performed, or handed to a slot; none where it must wait. -/
def State.perform (s : State) (c : Nat) (w : Wait) : Option State :=
  let a := w.acc
  let k := s.core c
  let p := s.path c a
  if p = .denied ∨ (a.kind = .store ∧ s.ctlDenied c a p) then
    (if k.pipe.first w then some (s.faultAcc c w (s.faultAt c (accessFault a.kind.causeType) (s.deniedVa c a) w)) else none)
  else if p = .nothing then some s
  else if s.isIo c a ∧ s.ioBusy c w then none
  else if p.leaves ∧ a.kind ≠ .store ∧ !s.studLinked c then none
  else if k.held w ∨ (a.kind.oldestOnly ∧ !k.pipe.headed w.seq) ∨ (a.kind.needsDrain ∧ !k.pipe.storeQ.isEmpty) then none
  else match (if a.kind.cbo ∨ (a.kind = .cboZero ∧ !isRidgeLine (a.pa / 64)) then k.pipe.missOf (a.pa / 64) else none) with
  | some (i, sl) => s.joinMiss c i sl w
  | none =>
  match a.kind with
  | .store => s.pushStore c w
  | .prefI | .prefR | .prefW => s.doPref c w
  | .cboClean | .cboFlush | .cboInval => s.doCbo c w
  | .cboZero => s.doZero c w
  | .lr => s.doLr c w
  | .sc => some (s.doSc c w)
  | .amo => if p = .nc ∨ p = .ridgeNc then s.startNc c w (p == .ridgeNc) else s.doAmo c w
  | _ =>
    if p = .cache then s.doLoad c w
    else if p = .flashNc then some (s.doFlashNc c w)
    else if p = .nc ∨ p = .ridgeNc then
      (if a.kind = .load ∧ k.pipe.storeQ.any (fun e => shareLine e.acc a) then none else s.startNc c w (p == .ridgeNc))
    else s.doIoLoad c w p

/-! ## Issue, drain and retry -/

def Core.addWait (k : Core) (w : Wait) : Core := { k with pipe := { k.pipe with waits := insertWait k.pipe.waits w } }

/-- A FENCE with successor set `succ` holds an access back: bit 3 I, bit 2 O, bit 1 R, bit 0 W (R63). -/
def fenceHolds (succ : BitVec 4) (a : Acc) (io : Bool) : Bool :=
  a.kind != .fetch && ((a.kind.inReads && succ.getLsbD (if io then 3 else 1)) || (a.kind.inWrites && succ.getLsbD (if io then 2 else 0)))

/-- A FENCE issued before the access holds it back (R63). -/
def Core.fenced (k : Core) (w : Wait) (io : Bool) : Bool :=
  k.pipe.fence.any (fun f => decide (f.seq < w.seq) && fenceHolds f.succ w.acc io)

/-- A FENCE.I or a translation fence issued before the access holds it back, and its translation with it (R62, R116). -/
def Pipe.fencedAll (p : Pipe) (w : Wait) : Bool := p.fence.any (fun f => decide (f.seq < w.seq) && f.all)

/-- A fault of a hewn entry's check writes walkinfo as a walk's does (R104, R107). -/
def State.hewnFault (s : State) (c cause reason stage : Nat) (va : Word) (w : Wait) : State :=
  let k := s.core c
  let t := w.trap cause va
  let target := k.regs.trapTarget t
  (s.setCore c { k with regs := k.regs.walkInfo target 0 reason 0 stage }).trapCore c t

/-- A translated access: held by a fence, performed, or left waiting. -/
def State.tryTranslated (s : State) (c : Nat) (w : Wait) : State :=
  let k := s.core c
  if k.fenced w (s.isIo c w.acc) then s.setCore c (k.addWait w)
  else match s.perform c w with
    | some s => s
    | none => s.setCore c (k.addWait w)

/-- The misaligned exception of an AMO, LR or SC (R52). -/
def misaligned (a : Acc) : Option Nat :=
  match a.kind with
  | .amo => if 16 < a.va.toNat % 16 + a.size then some 6 else none
  | .lr => if a.va.toNat % a.size = 0 then none else some 4
  | .sc => if a.va.toNat % a.size = 0 then none else some 6
  | _ => none

/-- An access issued or tried again: fences, translation, then its performance. What must wait is put back among the waiting
accesses; a fault, and a hewn miss's trap, wait until its instruction is the oldest (R55, R109). -/
def State.tryOne (s : State) (c : Nat) (w : Wait) : State :=
  let k := s.core c
  let wait : State := s.setCore c (k.addWait w)
  if w.err.isSome then
    (if w.acc.kind.hint then s
     else if k.pipe.first w then s.faultAcc c w (s.faultAt c (accessFault w.acc.kind.causeType) (accVa w.acc (w.err.getD 0)) w) else wait)
  else if k.pipe.fencedAll w then wait
  else if w.xlated then s.tryTranslated c w
  else match misaligned w.acc with
  | some cause => if k.pipe.first w then s.fault c cause w else wait
  | none =>
    let s := s.refillAcc c w.acc w.ctx
    let k := s.core c
    let wait : State := s.setCore c (k.addWait w)
    match k.translate w.acc w.ctx with
    | .miss => if w.acc.kind.hint ∧ !k.csrBit Csr.mshimctl 1 then s else wait
    | .hewn _ => if w.acc.kind.hint then s else wait
    | .fault cause reason stage va =>
      if w.acc.kind.hint then s
      else if k.pipe.first w then s.faultAcc c w (s.hewnFault c cause reason stage va w)
      else wait
    | .ok a => s.tryTranslated c { w with acc := a, xlated := true }

/-- An access tried, and what has thereby become the oldest retired. -/
def State.tryAccess (s : State) (c : Nat) (w : Wait) : State := (s.tryOne c w).settle c

/-- The predecessor set of a FENCE has been performed (R59, R63, R72). -/
def Core.fenceMet (k : Core) (f : Fence) : Bool :=
  let mine (w : Wait) : Bool := decide (w.seq < f.seq)
  let rd (w : Wait) : Bool := mine w && w.acc.kind.inReads
  let wr (w : Wait) : Bool := mine w && w.acc.kind.inWrites
  let cb := k.pipe.slots.any (fun e => e.2.kind == .cbo && (e.2.merged.isEmpty || e.2.merged.any mine))
  let r := f.pred.getLsbD 1 || f.pred.getLsbD 3
  let g := f.pred.getLsbD 0 || f.pred.getLsbD 2
  !((r && (k.pipe.unperformed.any rd || k.pipe.stall.any (fun e => decide (e.1 < f.seq)) || cb)) ||
    (g && (k.pipe.unperformed.any wr || cb || k.pipe.storeQ.any (fun e => decide (e.seq < f.seq)))))

/-- A pending fence has what it waits for: the fences that drain, the oldest place and an empty store queue (R116, R117); the
invalidations nothing. -/
def Core.fenceReady (k : Core) (f : Fence) : Bool :=
  match f.x with
  | none => k.fenceMet f
  | some (.sinvalVma _ _) | some (.sinvalVvma _ _) | some (.sinvalGvma _ _) | some .invalIr => true
  | some _ => !k.pipe.hasOlder f.seq && k.pipe.storeQ.isEmpty

/-- The head of the store queue is performed if it can be (R60): cacheable stores in L2 with unique ownership; others
through a slot, where the head stays until it is acknowledged. -/
def State.drainHead (s : State) (c : Nat) : State :=
  let k := s.core c
  match k.pipe.storeQ with
  | [] => s
  | e :: rest =>
    let a := e.acc
    let p := s.path c a
    if p = .cache then
      let s := (accLines a).foldl (fun s l => s.l2Check c l) s
      let k := s.core c
      match k.wantLine a with
      | some l => (s.storeMiss c l e.ntl).getD s
      | none => let k := k.l2Write a a.data.toNat e.filled; s.setCore c { k with pipe := { k.pipe with storeQ := rest } }
    else if p = .nc ∨ p = .ridgeNc then
      if k.pipe.slots.any (fun e => e.2.kind == .unc && e.2.merged.any (fun w => w.acc.kind == .store)) then s
      else (s.startNc c { acc := a, ctx := e.ctx, seq := e.seq, pc := e.pc, xlated := true } (p == .ridgeNc)).getD s
    else if k.pipe.slots.any (fun e => e.2.kind == .unc) ∨ !s.studLinked c then s
    else match s.doIoStore c a p with
      | some s => let k := s.core c; s.setCore c { k with pipe := { k.pipe with storeQ := rest } }
      | none => s

/-- Fetches and hints that wait look up the TLBs again. -/
def Pipe.untranslate (p : Pipe) : Pipe :=
  let g (w : Wait) : Wait := if w.data then w else { w with xlated := false }
  { p with waits := p.waits.map g, slots := p.slots.map (fun e => (e.1, { e.2 with merged := e.2.merged.map g })) }

/-- A translation fence or invalidation acts: walks are abandoned and entries removed (R116, R117). -/
def Core.doXFence (k : Core) (x : Option XFence) : Core :=
  let x0 := { k.xlat with walks := [] }
  let k := { k with pipe := if x.isSome then k.pipe.untranslate else k.pipe }
  match x with
  | some (.vma va asid) => { k with xlat := x0.fenceVma va asid }
  | some (.vvma va asid) => { k with xlat := x0.fenceVvma k.xvmid va asid }
  | some (.gvma gpa vmid) => { k with xlat := x0.fenceGvma gpa vmid }
  | some (.sinvalVma va asid) => { k with xlat := k.xlat.fenceVma va asid }
  | some (.sinvalVvma va asid) => { k with xlat := k.xlat.fenceVvma k.xvmid va asid }
  | some (.sinvalGvma gpa vmid) => { k with xlat := k.xlat.fenceGvma gpa vmid }
  | some .invalIr => { k with xlat := x0 }
  | _ => k

/-- Fences that have what they wait for are done, from the oldest on; at most n (R62, R63, R116). -/
def Core.endFence (k : Core) (n : Nat) : Core :=
  match n, k.pipe.fence with
  | m + 1, f :: r =>
    if k.fenceReady f then Core.endFence (Core.doXFence { k with pipe := { k.pipe with fence := r } } f.x) m else k
  | _, _ => k

def Core.endFences (k : Core) : Core := k.endFence k.pipe.fence.length

/-- Slots whose ridge WRITE had to wait send it where they can; written-out ones close (R275). -/
def State.pumpRidge (s : State) (c : Nat) : State :=
  ((s.core c).pipe.slots.filter (fun e => e.2.mask != 0)).foldl (fun s e => (s.ridgeRun c e.1 e.2).getD s) s

/-! ## Fills (R127, R168, R170) -/

/-- L2 state a grant installs. -/
def grantState : MsgOp → LSt
  | .dataM => .m
  | .dataE => .e
  | .dataF => .f
  | _ => .s

/-- The line a miss register can install now, if all it awaits has arrived: of an UPG without data the core's own copy
(R170). -/
def Core.fillOf (k : Core) (sl : Slot) : Option L2Line :=
  match sl.op, sl.data, sl.goU with
  | .rdS, some (d, op, pz, src), _ => some { line := sl.line, st := grantState op, data := d, poison := pz, src := src }
  | .cboZero, _, some _ => some { line := sl.line, st := .m, data := 0, src := 0, wmask := 0 }
  | .rdU, some (d, op, pz, src), some _ => some { line := sl.line, st := grantState op, data := d, poison := pz, src := src }
  | .upg, some (d, op, pz, src), some _ => some { line := sl.line, st := grantState op, data := d, poison := pz, src := src }
  | .upg, none, some dirty => (k.pipe.find2 sl.line).map (fun e => { e with st := if dirty then .m else .e })
  | _, _, _ => none

/-- The access needs its line in unique ownership. -/
def needsUnique : AccKind → Bool
  | .amo | .lr | .cboZero | .prefW => true
  | _ => false

/-- The head of the store queue sees its line enter at the least recent position (R125). -/
def Pipe.fillHead (p : Pipe) (line : Nat) (lru : Bool) : Pipe :=
  match p.storeQ with
  | e :: r => if lru ∧ (accLines e.acc).contains line then { p with storeQ := { e with filled := true } :: r } else p
  | [] => p

/-- A miss register whose fill has installed: it frees, and its accesses are tried again in program order; where ownership was asked
for and shared data came, the register asks for ownership and keeps those that need it (R127, R148). -/
def State.afterFill (s : State) (c i : Nat) (sl : Slot) (st : LSt) : State :=
  let k := s.core c
  let more := sl.uniq && !st.unique && !isRidgeLine sl.line
  let back := if more then sl.merged.filter (fun w => !needsUnique w.acc.kind) else sl.merged
  let p := k.pipe.fillHead sl.line sl.lru
  let p := { p with waits := back.foldl (fun l w => insertWait l { w with filled := sl.lru }) p.waits }
  if more then
    let sl' : Slot := { kind := sl.kind, line := sl.line, op := if sl.zero then .cboZero else .upg, nonalloc := sl.nonalloc, uniq := true, st := sl.st, lru := sl.lru,
                        zero := sl.zero, way := (p.find2 sl.line).map (·.way), merged := sl.merged.filter (fun w => needsUnique w.acc.kind) }
    (s.setCore c { k with pipe := p }).request c i sl'
  else s.setCore c { k with pipe := p.freeSlot i }

/-- The data that has come is discarded: a cbo.zero has turned the request into one for ownership without data (R148), or a cbo.zero has
written the ridge line meanwhile (R71). -/
def Slot.drops (sl : Slot) (k : Core) (st : LSt) : Bool :=
  if isRidgeLine sl.line then (k.pipe.find2 sl.line).isSome else sl.zero && !st.unique && (k.pipe.find2 sl.line).isNone

/-- A miss register whose fill installs: COMP_ACK goes to the home (R127, R168). -/
def State.tryInstall (s : State) (c i : Nat) : State :=
  let k := s.core c
  match Tab.find k.pipe.slots i with
  | none => s
  | some sl =>
    match (if sl.kind = .miss ∨ sl.kind = .pref then k.fillOf sl else none) with
    | none => s
    | some e =>
      -- its way is free to move while the fill goes in
      let s' := s.setCore c { k with pipe := k.pipe.setSlot i { sl with way := none } }
      match (if sl.drops k e.st then some s' else s'.installLine c e sl.lru) with
      | none => s
      | some s =>
        let s := if isRidgeLine sl.line then s else s.slotSend c i sl .compAck 0 0 false
        s.afterFill c i sl e.st

/-- Fills that had to wait for a way or a writeback entry are tried again. -/
def State.pumpFills (s : State) (c : Nat) : State :=
  ((s.core c).pipe.slots.filter (fun e => e.2.data.isSome || e.2.goU.isSome)).foldl (fun s e => s.tryInstall c e.1) s

/-- The listed accesses tried again in order, until one takes a trap. -/
def State.retryList (s : State) (c : Nat) (ws : List Wait) : State :=
  match ws with
  | [] => s
  | w :: r =>
    let s := s.tryAccess c w
    if (s.core c).pipe.trapped then s else s.retryList c r

/-- Whatever waited in core c is tried again, oldest first; of a hart that has stopped only what its L2 owes others goes on (R96). -/
def State.retry (s : State) (c : Nat) : State :=
  let s := (s.pumpRidge c).pumpFills c
  if !(s.core c).awake then s
  else
    let k := (s.core c).endFences
    let s := s.setCore c { k with pipe := { k.pipe with waits := [], trapped := false } }
    let s := s.retryList c k.pipe.waits
    let k := s.core c
    s.setCore c { k with pipe := { k.pipe with trapped := false } }

/-- The next place in program order. -/
def Core.nextSeq (k : Core) : Core := { k with pipe := { k.pipe with seq := k.pipe.seq + 1 } }

/-- A demand load has missed: the L1D stride prefetcher fetches PF_DEGREE strides ahead of a stream (R87, R103, R128). -/
def State.stride (s : State) (c : Nat) (a : Acc) (ctx : Ctx) : State :=
  let k := s.core c
  if !k.csrBit Csr.mcorectl 0 then s
  else
    let (v, s) := s.take
    if !v.getLsbD 0 then s
    else (List.range (fld (k.csr Csr.mcorectl) 7 4)).foldl (fun s i =>
      s.tryAccess c { acc := { kind := .prefR, va := a.va + v.sshiftRight 1 * BitVec.ofNat 64 (i + 1), size := 1, guest := a.guest, l1 := true },
                      ctx := { ctx with spt := true }, seq := k.pipe.seq, pc := k.regs.pc }) s

/-- The pointer-masking field in force: senvcfg in user modes, henvcfg in VS-mode, hstatus.HUPMM for HLV and HSV from U-mode; none
while MXR is set (Ssnpm, R51). -/
def Core.pmm (k : Core) (ctx : Ctx) (hyp : Bool) : Nat :=
  if ctx.mxr ∨ (ctx.virt ∧ ctx.vmxr) then 0
  else if hyp ∧ k.regs.priv = 0 then fld (k.csr Csr.hstatus) 49 48
  else if ctx.priv = 0 then fld (k.csr Csr.senvcfg) 33 32
  else if ctx.virt then fld (k.csr Csr.henvcfg) 33 32 else 0

/-- The effective address of an access: 7 or 16 upper bits replaced by copies of the bit below them, or by zeros where addresses are not
translated (Ssnpm, R51). -/
def Core.maskVa (k : Core) (ctx : Ctx) (hyp : Bool) (va : Word) : Word :=
  let n := match k.pmm ctx hyp with | 2 => 7 | 3 => 16 | _ => 0
  let bare := (k.xkind ctx).isNone || (ctx.virt && fld (k.csr Csr.vsatp) 63 60 == 0)
  if bare then (va <<< n) >>> n else (va <<< n).sshiftRight n

/-- An access of a running hart: issued only while the core runs (R376) and has room for it (R54). -/
def State.issue (s : State) (c : Nat) (a : Acc) (hyp : Bool) : State :=
  let k := s.core c
  if k.run ≠ .run ∨ !k.pipe.room a then s
  else
    let ctx := k.ctxOf a.kind hyp
    let a := { a with guest := ctx.virt, va := if a.kind = .fetch then a.va else k.maskVa ctx hyp a.va }
    let s := (s.setCore c k.nextSeq).tryAccess c { acc := a, ctx := ctx, seq := k.pipe.seq, pc := k.regs.pc, ntl := k.pipe.ntl }
    let s := if a.kind = .load ∧ k.pipe.missesUsed < (s.core c).pipe.missesUsed then s.stride c a ctx else s
    let k := s.core c
    s.setCore c { k with pipe := { k.pipe with trapped := false, ntl := none } }

/-- A store of the queue's head has been acknowledged. -/
def Core.popStore (k : Core) : Core := { k with pipe := { k.pipe with storeQ := k.pipe.storeQ.drop 1 } }

end Sys2Proof.Machine
end

