-- ==== Sys2Proof/Machine/Hart.lean ====
section
/-! DEFINITION. Commands of a hart: loads, stores, atomics, fences and waits (R52 to R74), cache-block operations and
hints, poison and hewn misses (R82, R109), interrupts taken and fetches. -/

namespace Sys2Proof.Machine

/-! ## Privilege -/

/-- How an access to a CSR ends: 0 allowed, 2 illegal-instruction, 22 virtual-instruction (the privileged
architecture, log entry 9). -/
def Core.csrLegal (k : Core) (num : Nat) (write : Bool) : Nat :=
  let need := num / 256 % 4
  if write ∧ num / 1024 = 3 then 2
  else if k.regs.priv = 3 then 0
  else if !k.regs.virt then (if need ≤ (if k.regs.priv = 1 then 2 else 0) then 0 else 2)
  else if need = 3 then 2
  else if need ≤ (if k.regs.priv = 1 then 1 else 0) then 0 else 22

/-- Access to an S-level vendor CSR (R84). -/
def Core.vendorLegal (k : Core) (num : Nat) : Nat :=
  if k.regs.priv = 3 then 0
  else if k.regs.virt then 22
  else if !k.csrBit Csr.mstateen0 0 then 2
  else k.csrLegal num true

/-- An action of a hart that is legal, or the exception its legality names once nothing older is outstanding (R55); the hart must
run. -/
def State.guarded (s : State) (c legal : Nat) (act : State → State) : Res :=
  if (s.core c).run ≠ .run then .next s
  else if legal = 0 then .next (act s)
  else if (s.core c).pipe.settled then .next (s.illegal c (legal == 22))
  else .next s

/-- An action that takes place only once every older access and fence of the hart has retired (R55). -/
def State.serial (s : State) (c legal : Nat) (act : State → State) : Res :=
  if (s.core c).pipe.settled then s.guarded c legal act else .next s

/-- mstatus.TVM or hstatus.VTVM stops a translation instruction (the privileged architecture). -/
def Core.tvmLegal (k : Core) (tvm : Bool) : Nat :=
  if k.regs.priv = 3 then 0
  else if k.regs.virt then (if k.regs.priv = 0 ∨ (tvm ∧ k.csrBit Csr.hstatus 20) then 22 else 0)
  else if k.regs.priv = 0 ∨ (tvm ∧ k.csrBit Csr.mstatus 20) then 2 else 0

/-- A hypervisor instruction: HS-mode or M-mode; from V = 1 it raises virtual-instruction. -/
def Core.hypLegal (k : Core) (tvm : Bool) : Nat :=
  if k.regs.virt then 22
  else if k.regs.priv = 3 then 0
  else if k.regs.priv = 0 ∨ (tvm ∧ k.csrBit Csr.mstatus 20) then 2 else 0

/-- HLV, HLVX and HSV: also from U-mode while hstatus.HU = 1. -/
def Core.hlvLegal (k : Core) (hyp : Bool) : Nat :=
  if !hyp then 0
  else if k.regs.virt then 22
  else if k.regs.priv = 0 ∧ !k.csrBit Csr.hstatus 9 then 2 else 0

/-- A status field FS or VS is Off, in mstatus or of a guest in vsstatus: its instructions are illegal (the privileged architecture, R51;
log entry 9). -/
def Core.unitOff (k : Core) (hi lo : Nat) : Nat :=
  if fld (k.csr Csr.mstatus) hi lo = 0 ∨ (k.regs.virt ∧ fld (k.csr Csr.vsstatus) hi lo = 0) then 2 else 0

/-- A load into a floating-point or vector register needs its unit on. -/
def Core.destLegal (k : Core) (d : Dest) : Nat :=
  match d with
  | .f _ => k.unitOff 14 13
  | .v _ _ _ => k.unitOff 10 9
  | _ => 0

/-- WFI and WRS.NTO: mstatus.TW below M-mode, hstatus.VTW in VS-mode (R68, R69). -/
def Core.waitLegal (k : Core) : Nat :=
  if k.regs.priv ≠ 3 ∧ k.csrBit Csr.mstatus 21 then 2
  else if k.regs.virt ∧ k.regs.priv = 1 ∧ k.csrBit Csr.hstatus 21 then 22 else 0

/-- The enable of a cache-block instruction at bit `b` of menvcfg, senvcfg and henvcfg (Zicbom, Zicboz). -/
def Core.envLegal (k : Core) (on : Nat → Bool) : Nat :=
  if k.regs.priv = 3 then 0
  else if !on Csr.menvcfg then 2
  else if k.regs.virt then (if !on Csr.henvcfg ∨ (k.regs.priv = 0 ∧ !on Csr.senvcfg) then 22 else 0)
  else if k.regs.priv = 0 ∧ !on Csr.senvcfg then 2 else 0

/-! ## Loads, stores and atomics -/

/-- LOAD (R59). -/
def execLoad (c : CoreId) (va : Word) (size : Nat) (dest : Dest) (sext : Bool) (hyp : HypKind) (upset : Upset) (s : State) : Res :=
  let l := (s.core c).hlvLegal (hyp != .no)
  s.guarded c (if l ≠ 0 then l else (s.core c).destLegal dest) (fun s =>
    s.issue c { kind := .load, va := va, size := size, dest := dest, sext := sext, hlvx := hyp == .hlvx, upset := upset } (hyp != .no))

/-- STORE (R59). -/
def execStore (c : CoreId) (va : Word) (size : Nat) (val : BitVec 128) (hyp : Bool) (s : State) : Res :=
  s.guarded c ((s.core c).hlvLegal hyp) (fun s => s.issue c { kind := .store, va := va, size := size, data := val } hyp)

/-- STORE_QUEUE_DRAIN (R60, R121). -/
def execStoreQueueDrain (c : CoreId) (s : State) : Res :=
  if (s.core c).awake then .next ((s.drainHead c).retry c) else .next s

/-- AMO (R66). -/
def execAmo (c : CoreId) (va : Word) (size : Nat) (op : AmoOp) (val cmp : BitVec 128) (rd : Fin 32) (aq rl : Bool) (s : State) : Res :=
  s.guarded c 0 (fun s =>
    s.issue c { kind := .amo, va := va, size := size, aop := op, data := val, cmp := cmp, dest := .x rd, sext := true,
                aq := aq, rl := rl } false)

/-- LR (R67). -/
def execLr (c : CoreId) (va : Word) (size : Nat) (rd : Fin 32) (aq rl : Bool) (s : State) : Res :=
  s.guarded c 0 (fun s => s.issue c { kind := .lr, va := va, size := size, dest := .x rd, sext := true, aq := aq, rl := rl } false)

/-- SC (R67). -/
def execSc (c : CoreId) (va : Word) (size : Nat) (val : BitVec 128) (rd : Fin 32) (aq rl : Bool) (s : State) : Res :=
  s.guarded c 0 (fun s => s.issue c { kind := .sc, va := va, size := size, data := val, dest := .x rd, aq := aq, rl := rl } false)

/-- LR_HOLD_EXPIRY (R67): 128 core cycles have passed. -/
def execLrHoldExpiry (c : CoreId) (s : State) : Res := .next (s.releaseHold c)

/-! ## Fences and waits -/

/-- A fence entry that waits for its predecessors; what is met at once is done at once. -/
def State.addFence (s : State) (c : Nat) (pred succ : BitVec 4) (all : Bool) (x : Option XFence) : State :=
  let k := s.core c
  let f : Fence := { seq := k.pipe.seq, pc := k.regs.pc, pred := pred, succ := succ, all := all, x := x }
  (s.setCore c { k with pipe := { k.pipe with fence := k.pipe.fence ++ [f] } }.nextSeq).retry c

/-- FENCE (R63). A FENCE with an empty set orders nothing. -/
def execFence (c : CoreId) (pred succ : BitVec 4) (s : State) : Res :=
  s.guarded c 0 (fun s => if pred = 0 ∨ succ = 0 then s else s.addFence c pred succ false none)

/-- FENCE_I (R62): the store queue drains, and what follows is refetched. -/
def execFenceI (c : CoreId) (s : State) : Res := s.guarded c 0 (fun s => s.addFence c 0b0101 0 true none)

/-- The core idles in a wait unless an interrupt completes it at once (R68, R69). -/
def State.beginWait (s : State) (c : Nat) (w : Waiting) : State :=
  let k := s.core c
  if k.wakes (s.coreTime c) then s else s.setCore c { k with run := .idle, waiting := w }

/-- WFI (R69). -/
def execWfi (c : CoreId) (s : State) : Res := s.serial c (s.core c).waitLegal (fun s => s.beginWait c .wfi)

/-- WRS_NTO (R68). -/
def execWrsNto (c : CoreId) (s : State) : Res :=
  s.serial c (s.core c).waitLegal (fun s => if (s.core c).pipe.resv.isNone then s else s.beginWait c .wrsNto)

/-- WRS_STO (R68). -/
def execWrsSto (c : CoreId) (s : State) : Res :=
  s.serial c 0 (fun s => if (s.core c).pipe.resv.isNone then s else s.beginWait c .wrsSto)

/-- WRS_STO_TIMEOUT (R68): 2 µs have passed. -/
def execWrsStoTimeout (c : CoreId) (s : State) : Res :=
  let k := s.core c
  if k.waiting = .wrsSto then .next (s.setCore c k.endWrs) else .next s

/-! ## Cache-block operations and hints -/

/-- A cache-block access to the block that holds va. -/
def cboAcc (kind : AccKind) (va : Word) : Acc := { kind := kind, va := va, size := 1 }

/-- CBO_CLEAN_INSN (R71). -/
def execCboCleanInsn (c : CoreId) (va : Word) (s : State) : Res :=
  s.guarded c ((s.core c).envLegal (fun n => (s.core c).csrBit n 6)) (fun s => s.issue c (cboAcc .cboClean va) false)

/-- CBO_FLUSH_INSN (R71). -/
def execCboFlushInsn (c : CoreId) (va : Word) (s : State) : Res :=
  s.guarded c ((s.core c).envLegal (fun n => (s.core c).csrBit n 6)) (fun s => s.issue c (cboAcc .cboFlush va) false)

/-- cbo.inval acts as cbo.flush where a CBIE field that governs the mode holds 0b01 (R71). -/
def Core.invalFlushes (k : Core) : Bool :=
  let one (n : Nat) : Bool := fld (k.csr n) 5 4 == 1
  k.regs.priv != 3 && (one Csr.menvcfg || (k.regs.virt && one Csr.henvcfg) || (k.regs.priv == 0 && one Csr.senvcfg))

/-- CBO_INVAL_INSN (R70, R71). -/
def execCboInvalInsn (c : CoreId) (va : Word) (s : State) : Res :=
  let k := s.core c
  s.guarded c (k.envLegal (fun n => fld (k.csr n) 5 4 != 0))
    (fun s => s.issue c (cboAcc (if k.invalFlushes then .cboFlush else .cboInval) va) false)

/-- CBO_ZERO_INSN (R71). -/
def execCboZeroInsn (c : CoreId) (va : Word) (s : State) : Res :=
  s.guarded c ((s.core c).envLegal (fun n => (s.core c).csrBit n 7)) (fun s => s.issue c (cboAcc .cboZero va) false)

/-- PREFETCH_HINT (R73). -/
def execPrefetchHint (c : CoreId) (kind : PrefKind) (va : Word) (s : State) : Res :=
  s.guarded c 0 (fun s => s.issue c (cboAcc (match kind with | .i => .prefI | .r => .prefR | .w => .prefW) va) false)

/-- NTL_HINT (R74): acts on the next memory access. -/
def execNtlHint (c : CoreId) (hint : Ntl) (s : State) : Res :=
  s.guarded c 0 (fun s => let k := s.core c; s.setCore c { k with pipe := { k.pipe with ntl := some hint } })

/-! ## Exceptions of their own -/

/-- The structure code of a supplier (R88, R403); an unknown one counts as the DRAM line (log entry 16). -/
def supplierCode (src : Nat) : Nat := [0x20, 0x20, 0x10, 0x03, 0x2D, 0x2A, 0x12].getD src 0x20

/-- POISON_CONSUMPTION (R82, R83, R88): exception code 25 at retirement. -/
def execPoisonConsumption (c : CoreId) (s : State) : Res :=
  let k := s.core c
  match (if k.awake then k.pipe.poison else none) with
  | none => .next s
  | some p =>
    let t : Trap := { cause := 25, tval := p.va, gva := p.guest, pc := some p.pc, elem := if p.kind = 3 then some p.elem else none }
    let target := k.regs.trapTarget t
    let r := k.regs.poisonInfo target p
    let s := s.setCore c { k with regs := r }
    let s := s.trapCore c t
    .next (s.report { cls := 2, src := 2, code := supplierCode p.src, inst := c / 32, sub := s.mhartid c % 4096,
                      pa := some (p.pa / 64 * 64), frame := some (s.frameOfCore c) })

/-- The access type code of stlbcmd.MISS_ACCESS (R113). -/
def missCode : AccType → Nat
  | .store => 1
  | .fetch => 2
  | _ => 0

/-- The oldest instruction's access, if it waits in a hewn miss, and the address it misses (R109, R110). -/
def Core.hewnWait (k : Core) : Option (Wait × Word) :=
  match k.headWait with
  | none => none
  | some w =>
    if w.err.isSome ∨ w.xlated ∨ k.pipe.fencedAll w ∨ (misaligned w.acc).isSome then none
    else match k.translate w.acc w.ctx with
      | .hewn va => some (w, va)
      | _ => none

/-- HEWN_MISS_TRAP (R109, R110): exception code 24, once the instruction is the oldest. -/
def execHewnMissTrap (c : CoreId) (s : State) : Res :=
  let k := s.core c
  match (if k.awake then k.hewnWait else none) with
  | none => .next s
  | some (w, va) =>
    let trap : State :=
      let s := s.trapCore c (w.trap 24 va)
      let k := s.core c
      let tag := BitVec.ofNat 64 (fld (k.csr Csr.satp) 59 44 * 2 ^ 48 + vpnOf va)
      s.setCore c ((k.setCsr Csr.stlbtag tag).setCsr Csr.stlbcmd (setFld (k.csr Csr.stlbcmd) 7 6 (missCode w.acc.kind.causeType)))
    let out : Core := { k with pipe := { k.pipe with waits := k.pipe.waits.erase w } }
    .next ((s.setCore c out).faultAcc c w trap)

/-- Interrupts from the highest priority down (the AIA's default order). -/
def irqOrder : List Nat := [11, 3, 7, 9, 1, 5, 12, 10, 2, 6, 13]

/-- The default order of the interrupts of VS-mode, at their own places in vsip. -/
def vsOrder : List Nat := [9, 1, 5, 13]

/-- The interrupt at the head of the supervisor level: pending and enabled in sip and sie, and not passed to the guest. -/
def Core.topS (k : Core) (t : Word) : Option Nat :=
  let w := k.sipAt t &&& k.sie
  let g := (k.mipAt t &&& k.csr Csr.mie &&& ~~~ k.csr Csr.hideleg &&& 0x1444)
  irqOrder.find? (fun i => (w.getLsbD i && !(k.csr Csr.hideleg).getLsbD i) || g.getLsbD i)

/-- The interrupt at the head of the machine level. -/
def Core.topM (k : Core) (t : Word) : Option Nat :=
  irqOrder.find? (fun i => (k.mipAt t &&& k.csr Csr.mie &&& ~~~ k.csr Csr.mideleg).getLsbD i)

/-- The interrupt at the head of the VS level, at its own number (the AIA). While hvictl.VTI is 1 the candidates are the guest file's and
the one that hvictl names: the smaller priority number first, and of equal ones DPR decides. -/
def Core.topV (k : Core) (t : Word) : Option Nat :=
  let w := k.vsipAt t &&& k.vsie
  let c := k.csr Csr.hvictl
  if !c.getLsbD 30 then vsOrder.find? (fun i => w.getLsbD i)
  else
    let id := fld c 27 16
    let vg := fld (k.csr Csr.hstatus) 17 12
    let a := w.getLsbD 9
    let b := id != 0 && id != 9
    let pa := if vg = 0 then 256 else (k.file (1 + vg)).top
    let pb := if fld c 7 0 = 0 then (if c.getLsbD 9 then 257 else 0) else fld c 7 0
    if a && b then (if pb < pa ∨ (pb = pa ∧ !c.getLsbD 9) then some id else some 9)
    else if a then some 9 else if b then some id else none

/-- The highest-priority interrupt that is pending and enabled for the hart's mode, and the level that takes it: 3 M-mode, 1 HS- or
S-mode, 2 VS-mode with its own number there. The order and the enables are the privileged architecture's and the AIA's (log entry 9). -/
def Core.irqToTake (k : Core) (t : Word) : Option (Nat × Nat) :=
  let ms := k.csr Csr.mstatus
  let mOn := k.regs.priv != 3 || ms.getLsbD 3
  let sOn := k.regs.priv == 0 || k.regs.virt || (k.regs.priv == 1 && ms.getLsbD 1)
  let vOn := k.regs.virt && (k.regs.priv == 0 || (k.csr Csr.vsstatus).getLsbD 1)
  let m := if mOn then k.topM t else none
  let hs := if sOn && k.regs.priv != 3 then k.topS t else none
  let v := if vOn then k.topV t else none
  match m, hs with
  | some i, _ => some (i, 3)
  | none, some i => some (i, 1)
  | none, none => v.map (·, 2)

/-- An access that cannot be undone is under way: the hart takes no interrupt until it completes (R55, R415). It is an uncached access that
acts beyond the core, or a cbo.zero that has asked for ownership without data. -/
def Core.busyBeyond (k : Core) : Bool :=
  k.pipe.slots.any (fun e => e.2.zero) || k.pipe.slots.any (fun e => e.2.kind == .unc && e.2.merged.any (fun w => w.acc.kind == .amo || (w.acc.kind == .load && !w.acc.nc)))

/-- A load of core c is stalled in a notice queue (R415). -/
def State.stalledLoad (s : State) (c : Nat) : Bool :=
  s.frames.any (fun e => e.2.nq.stalled.any (fun w => w.hart.elim false (fun h => h.1 == c)))

/-- INTERRUPT_TAKEN (R75): the hart takes the interrupt its registers select, if any. -/
def execInterruptTaken (c : CoreId) (s : State) : Res :=
  let k := s.core c
  if k.run ≠ .run ∨ k.busyBeyond ∨ s.stalledLoad c then .next s
  else match k.irqToTake (s.coreTime c) with
    | none => .next s
    | some (i, l) => .next (s.trapCore c { cause := i, irq := true, pc := k.pipe.oldestPc, lvl := some l })

/-- INSTRUCTION_FETCH (R57): the pc moves to the instruction fetched (log entry 17). -/
def execInstructionFetch (c : CoreId) (va : Word) (upset : Upset) (s : State) : Res :=
  s.guarded c 0 (fun s =>
    let k := s.core c
    (s.setCore c { k with regs := { k.regs with pc := va } }).issue c { kind := .fetch, va := va, size := 4, upset := upset } false)

/-- DEBUG_HALT_REQUEST (R378): a core in SLEEP or DEEP wakes for it. -/
def execDebugHaltRequest (c : CoreId) (s : State) : Res :=
  let k := s.core c
  let asleep := k.run == .sleep || k.run == .deep || (match k.run with | .entering _ => true | _ => false)
  .next (s.setCore c { k with halt := true, wake := k.wake || asleep })

/-- DEBUG_UART (R78): APLIC source 3 of the frame that holds Q0. -/
def execDebugUart (s : State) : Res := .next (s.aplicEdge 0 3)

end Sys2Proof.Machine
end

