-- ==== Sys2Proof/Machine/Csr.lean ====
section
/-! DEFINITION. Translation fences (R116, R117), writes of the CSRs that have rows of their own (R70, R86 to R88, R97,
R98, R107), the clock switch (R373), and the software TLB commands (R111 to R115). -/

namespace Sys2Proof.Machine

/-! ## Translation fences -/

/-- SFENCE_VMA (R116); in VS-mode it acts on the VS stage of the current VMID (the privileged architecture, log
entry 9). -/
def execSfenceVma (c : CoreId) (va : Option Word) (asid : Option (BitVec 16)) (s : State) : Res :=
  let k := s.core c
  let a := asid.map (·.toNat)
  s.guarded c (k.tvmLegal true) (fun s => s.addFence c 0b0101 0 true (some (if k.regs.virt then .vvma va a else .vma va a)))

/-- HFENCE_VVMA (R117). -/
def execHfenceVvma (c : CoreId) (va : Option Word) (asid : Option (BitVec 16)) (s : State) : Res :=
  s.guarded c ((s.core c).hypLegal false) (fun s => s.addFence c 0b0101 0 true (some (.vvma va (asid.map (·.toNat)))))

/-- HFENCE_GVMA (R117). -/
def execHfenceGvma (c : CoreId) (gpa : Option Word) (vmid : Option (BitVec 14)) (s : State) : Res :=
  s.guarded c ((s.core c).hypLegal true) (fun s => s.addFence c 0b0101 0 true (some (.gvma gpa (vmid.map (·.toNat)))))

/-- SINVAL_VMA (R117). -/
def execSinvalVma (c : CoreId) (va : Option Word) (asid : Option (BitVec 16)) (s : State) : Res :=
  let k := s.core c
  let a := asid.map (·.toNat)
  s.guarded c (k.tvmLegal true) (fun s => s.addFence c 0 0 true (some (if k.regs.virt then .sinvalVvma va a else .sinvalVma va a)))

/-- HINVAL_VVMA (R117). -/
def execHinvalVvma (c : CoreId) (va : Option Word) (asid : Option (BitVec 16)) (s : State) : Res :=
  s.guarded c ((s.core c).hypLegal false) (fun s => s.addFence c 0 0 true (some (.sinvalVvma va (asid.map (·.toNat)))))

/-- HINVAL_GVMA (R117). -/
def execHinvalGvma (c : CoreId) (gpa : Option Word) (vmid : Option (BitVec 14)) (s : State) : Res :=
  s.guarded c ((s.core c).hypLegal true) (fun s => s.addFence c 0 0 true (some (.sinvalGvma gpa (vmid.map (·.toNat)))))

/-- SFENCE_W_INVAL (R117): the store queue drains. -/
def execSfenceWInval (c : CoreId) (s : State) : Res :=
  s.guarded c ((s.core c).tvmLegal false) (fun s => s.addFence c 0b0101 0 true (some .wInval))

/-- SFENCE_INVAL_IR (R117): every walk in flight is abandoned, and its requester looks up the TLBs again. -/
def execSfenceInvalIr (c : CoreId) (s : State) : Res :=
  s.guarded c ((s.core c).tvmLegal false) (fun s => s.addFence c 0 0 true (some .invalIr))

/-! ## Translation and environment CSRs -/

/-- The MODE values a register accepts (R98). -/
def atpModeOk (r : AtpReg) (m : Nat) : Bool := m == 0 || m == 8 || m == 9 || m == 10 || (m == 14 && r == .satp)

/-- The CSR that a write names: from V = 1, satp stands for vsatp (the privileged architecture). -/
def atpTarget (r : AtpReg) (virt : Bool) : AtpReg := if r = .satp ∧ virt then .vsatp else r

/-- The number of the register. -/
def atpNum : AtpReg → Nat
  | .satp => Csr.satp
  | .vsatp => Csr.vsatp
  | .hgatp => Csr.hgatp

/-- How a write of the register ends for the hart's mode. -/
def Core.atpLegal (k : Core) (r : AtpReg) : Nat :=
  match r with
  | .satp => k.tvmLegal true
  | .vsatp => k.csrLegal Csr.vsatp true
  | .hgatp => if k.regs.virt then k.csrLegal Csr.hgatp true else k.hypLegal true

/-- The value a register takes: hgatp keeps VMID bits [13:0] and a 16 KiB root table (R98). -/
def atpValue (r : AtpReg) (v : Word) : Word :=
  if r = .hgatp then v &&& 0xF3FFFFFFFFFFFFFC else v

/-- SATP_WRITE (R98). -/
def execSatpWrite (c : CoreId) (reg : AtpReg) (val : Word) (s : State) : Res :=
  let k := s.core c
  s.serial c (k.atpLegal reg) (fun s =>
    let r := atpTarget reg k.regs.virt
    if atpModeOk r (fld val 63 60) then s.setCore c (k.setCsr (atpNum r) (atpValue r val)) else s)

def envNum : EnvReg → Nat
  | .menvcfg => Csr.menvcfg
  | .senvcfg => Csr.senvcfg
  | .henvcfg => Csr.henvcfg

/-- senvcfg and henvcfg need bit 62 of mstateen0 below M-mode, and of hstateen0 from a guest (Smstateen, log entry 9). -/
def Core.envcfgLegal (k : Core) (r : EnvReg) : Nat :=
  let l := k.csrLegal (envNum r) true
  if l ≠ 0 then l
  else if k.regs.priv = 3 ∨ r = .menvcfg then 0
  else if !k.csrBit Csr.mstateen0 62 then 2
  else if k.regs.virt ∧ !k.csrBit 0x60C 62 then 22 else 0

/-- The CBIE field a write leaves (R70). -/
def cbieValue (v : BitVec 2) : Nat := if v = 2 then 0 else v.toNat

/-- ENVCFG_CBIE_WRITE (R70). -/
def execEnvcfgCbieWrite (c : CoreId) (reg : EnvReg) (cbie : BitVec 2) (s : State) : Res :=
  let k := s.core c
  s.serial c (k.envcfgLegal reg)
    (fun s => s.setCore c (k.setCsr (envNum reg) (setFld (k.csr (envNum reg)) 5 4 (cbieValue cbie))))

/-! ## Clocks (R86, R373) -/

/-- A switch of the core's clock begins, or the target of one under way is replaced. -/
def Core.startSwitch (k : Core) (pll : Bool) : Core :=
  if k.clk.isNone ∧ k.csrBit Csr.mclksel 1 = pll then k
  else { k with clk := some pll }.setCsr Csr.mclksel (setFld (k.csr Csr.mclksel) 2 2 1)

/-- SEL written. -/
def Core.writeSel (k : Core) (sel : Bool) : Core :=
  (k.setCsr Csr.mclksel (setFld (k.csr Csr.mclksel) 0 0 (b2n sel))).startSwitch sel

/-- PLL_READY set: Plumb takes a core it owns to the PLL, and a core whose SEL asks for it switches (R373). -/
def Core.pllUp (k : Core) : Core :=
  let k := k.setCsr Csr.mclksel (setFld (k.csr Csr.mclksel) 3 3 1)
  if k.csrBit Csr.mclksel 0 then k.startSwitch true
  else if k.csrBit Csr.mclksel 4 then k.writeSel true else k

/-- MCLKSEL_WRITE (R86). -/
def execMclkselWrite (c : CoreId) (val : Word) (s : State) : Res :=
  let k := s.core c
  s.serial c (k.csrLegal Csr.mclksel true) (fun s =>
    let k := k.setCsr Csr.mclksel (setFld (k.csr Csr.mclksel) 4 4 (b2n (val.getLsbD 4)))
    -- the software write takes effect; a Plumb change of the same cycle is discarded
    s.setCore c (k.writeSel (val.getLsbD 0)))

/-- CLOCK_SWITCH_DONE (R86, R373): a switch to the PLL waits for PLL_READY. -/
def execClockSwitchDone (c : CoreId) (s : State) : Res :=
  let k := s.core c
  match k.clk with
  | none => .next s
  | some pll =>
    if pll && !k.csrBit Csr.mclksel 3 then .next s
    else
      let w := setFld (setFld (k.csr Csr.mclksel) 1 1 (b2n pll)) 2 2 0
      .next (s.setCore c ({ k with clk := none }.setCsr Csr.mclksel w))

/-- PLL_LOCK (R373): the stud's PLL, once started, is ready. -/
def execPllLock (n : StudId) (s : State) : Res :=
  let st := s.stud n
  if !st.pllOn ∨ st.pllReady then .next s
  else
    let s := s.setStud n { st with pllReady := true }
    .next ((coresOf n).foldl (fun s c =>
      let k := s.core c
      s.setCore c (if k.run = .run ∨ k.run = .idle then k.pllUp
        else k.setCsr Csr.mclksel (setFld (k.csr Csr.mclksel) 3 3 1))) s)

/-! ## Other vendor CSRs -/

/-- A vendor CSR of the machine level or of the supervisor level, and how a write of it ends (R84). -/
def Core.lvlLegal (k : Core) (l : Lvl) (m sv : Nat) : Nat := if l = .m then k.csrLegal m true else k.vendorLegal sv
def lvlNum (l : Lvl) (m sv : Nat) : Nat := if l = .m then m else sv

/-- MCORECTL_WRITE (R87). -/
def execMcorectlWrite (c : CoreId) (val : Word) (s : State) : Res :=
  let k := s.core c
  let old := k.csr Csr.mcorectl
  let d := fld val 7 4
  let w := setFld old 1 0 (fld val 1 0)
  s.serial c (k.csrLegal Csr.mcorectl true)
    (fun s => s.setCore c (k.setCsr Csr.mcorectl (if 1 ≤ d ∧ d ≤ 8 then setFld w 7 4 d else w)))

/-- POISONINFO_WRITE (R88). -/
def execPoisoninfoWrite (c : CoreId) (lvl : Lvl) (val : Word) (s : State) : Res :=
  let k := s.core c
  s.serial c (k.lvlLegal lvl Csr.mpoisoninfo Csr.spoisoninfo)
    (fun s => s.setCore c (k.setCsr (lvlNum lvl Csr.mpoisoninfo Csr.spoisoninfo) (val &&& 0x01FFFFFFFFFFFFFF)))

/-- WALKINFO_WRITE (R106, R107). -/
def execWalkinfoWrite (c : CoreId) (lvl : Lvl) (val : Word) (s : State) : Res :=
  let k := s.core c
  s.serial c (k.lvlLegal lvl Csr.mwalkinfo Csr.swalkinfo)
    (fun s => s.setCore c (k.setCsr (lvlNum lvl Csr.mwalkinfo Csr.swalkinfo) val))

/-- MSHIMCTL_WRITE (R97). Walks already running go on. -/
def execMshimctlWrite (c : CoreId) (val : Word) (s : State) : Res :=
  let k := s.core c
  s.serial c (k.csrLegal Csr.mshimctl true)
    (fun s => s.setCore c (k.setCsr Csr.mshimctl (writeMask (k.csr Csr.mshimctl) val 7)))

/-! ## The software TLB (R111 to R115) -/

/-- STATUS codes of stlbcmd. -/
def Core.stlbStatus (k : Core) (st : Nat) : Core := k.setCsr Csr.stlbcmd (setFld (k.csr Csr.stlbcmd) 63 60 st)

/-- stlbtag's fields. -/
def Core.tagAsid (k : Core) : Nat := fld (k.csr Csr.stlbtag) 63 48
def Core.tagSize (k : Core) : Nat := fld (k.csr Csr.stlbtag) 47 45
def Core.tagVpn (k : Core) : Nat := fld (k.csr Csr.stlbtag) 44 0

/-- An operation that NOT_HEWN stops (R114). -/
def State.stlbOp (s : State) (c : Nat) (act : State → State) : Res :=
  let k := s.core c
  s.serial c (k.vendorLegal Csr.stlbcmd) (fun s => if k.hewn then act s else s.setCore c (k.stlbStatus 5))

/-- stlbtag and stlbdata do not make an entry (R111, R112): VPN bits below the page size, and SIZE 6 and 7, count as a bad format too
(DESIGN CHOICE, log entry 35). -/
def Core.stlbBad (k : Core) : Bool :=
  let d := k.csr Csr.stlbdata
  let pages := sizePages k.tagSize
  decide (5 < k.tagSize) || k.tagVpn % pages != 0 || !pteV d || !pteLeaf d || (!pteR d && pteW d) ||
    fld d 60 54 != 0 || ptePbmt d == 3 || pteN d || ptePpn d % pages != 0

/-- The entry that stlbtag and stlbdata describe. -/
def Core.stlbEntry (k : Core) (wired : Bool) : TlbEnt :=
  let d := k.csr Csr.stlbdata
  { kind := .hewn, size := k.tagSize, vpn := k.tagVpn, asid := k.tagAsid, g := pteG d, ppn := ptePpn d, pte := d, wired := wired }

/-- An entry overlaps a new HEWN one: they share a page, and an ASID or a G bit. A WRITE removes such an entry whatever its kind; one
for guest PAs holds no virtual page (R114). -/
def TlbEnt.clash (e d : TlbEnt) : Bool := e.kind != .gstage && e.overlaps d && (e.asid == d.asid || e.g || d.g)

/-- Wired entries, in all and in one set (R115). -/
def Xlat.wiredIn (x : Xlat) (p : Nat → Bool) : Nat := (x.l2tlb.filter (fun e => e.2.wired && p (e.1 / 12))).length

/-- STLBCMD_WRITE (R114, R115). A wired entry that overlaps one and exceeds a limit too is an OVERLAP (DESIGN CHOICE, log entry 35). -/
def execStlbcmdWrite (c : CoreId) (wired : Bool) (s : State) : Res :=
  s.stlbOp c (fun s =>
    let k := s.core c
    let e := k.stlbEntry wired
    if k.stlbBad then s.setCore c (k.stlbStatus 2)
    else if k.xlat.l2tlb.any (fun d => d.2.wired && d.2.clash e) then s.setCore c (k.stlbStatus 3)
    else if wired ∧ (64 ≤ k.xlat.wiredIn (fun _ => true) ∨ 8 ≤ k.xlat.wiredIn (· == tlbSet e.vpn e.size)) then
      s.setCore c (k.stlbStatus 4)
    else
      let (v, s) := s.take
      let x := k.xlat.keep (fun d => !d.clash e)
      let k := { k with xlat := { x with l2tlb := (l2Fill x.l2tlb v.toNat e).1 } }
      s.setCore c (k.stlbStatus 0))

/-- A HEWN entry of the L2 TLB that stlbtag finds. -/
def Core.stlbFind (k : Core) : Option (Nat × TlbEnt) :=
  tlbProbe k.xlat.l2tlb (fun e => e.hits .hewn k.tagVpn k.tagAsid 0)

/-- STLBCMD_PROBE (R114). SIZE 6 and 7 are a bad format (DESIGN CHOICE, log entry 35). -/
def execStlbcmdProbe (c : CoreId) (s : State) : Res :=
  s.stlbOp c (fun s =>
    let k := s.core c
    if 5 < k.tagSize then s.setCore c (k.stlbStatus 2)
    else match k.stlbFind with
      | none => s.setCore c (k.stlbStatus 1)
      | some (i, e) =>
        let w := setFld (setFld (k.csr Csr.stlbcmd) 19 8 i) 5 5 (b2n e.wired)
        s.setCore c ((k.setCsr Csr.stlbcmd w).stlbStatus 0))

/-- STLBCMD_READ (R114): an entry of another kind reads as V = 0, and what the other bits read is a free value (log
entry 2). -/
def execStlbcmdRead (c : CoreId) (index : BitVec 12) (s : State) : Res :=
  let k := s.core c
  s.serial c (k.vendorLegal Csr.stlbcmd) (fun s =>
    let k := k.setCsr Csr.stlbcmd (setFld (k.csr Csr.stlbcmd) 19 8 index.toNat)
    if 3071 < index.toNat then s.setCore c (k.stlbStatus 6)
    else
      match (Tab.find k.xlat.l2tlb index.toNat).filter (fun e => e.kind == .hewn) with
      | some e =>
        let tag := BitVec.ofNat 64 (e.asid * 2 ^ 48 + e.size * 2 ^ 45 + e.vpn)
        let k := (k.setCsr Csr.stlbtag tag).setCsr Csr.stlbdata e.pte
        let k := k.setCsr Csr.stlbcmd (setFld (k.csr Csr.stlbcmd) 5 5 (b2n e.wired))
        s.setCore c (k.stlbStatus 0)
      | none =>
        let (t, s) := s.take
        let (d, s) := s.take
        let k := (k.setCsr Csr.stlbtag t).setCsr Csr.stlbdata (setFld d 0 0 0)
        let k := k.setCsr Csr.stlbcmd (setFld (k.csr Csr.stlbcmd) 5 5 0)
        s.setCore c (k.stlbStatus 0))

/-- HEWN entries that a test selects removed; wired ones only when asked (R114, R115). SIZE is not looked at (DESIGN CHOICE, log
entry 35). -/
def State.stlbInval (s : State) (c : Nat) (wired : Bool) (p : Core → TlbEnt → Bool) : Res :=
  s.stlbOp c (fun s =>
    let k := s.core c
    let x := k.xlat.keep (fun e => !(e.kind == .hewn && p k e && (wired || !e.wired)))
    s.setCore c ({ k with xlat := x }.stlbStatus 0))

/-- STLBCMD_INVAL_VA (R114). -/
def execStlbcmdInvalVa (c : CoreId) (wired : Bool) (s : State) : Res :=
  s.stlbInval c wired (fun k e => e.covers k.tagVpn && (e.g || e.asid == k.tagAsid))

/-- STLBCMD_INVAL_ASID (R114). -/
def execStlbcmdInvalAsid (c : CoreId) (wired : Bool) (s : State) : Res :=
  s.stlbInval c wired (fun k e => !e.g && e.asid == k.tagAsid)

/-- STLBCMD_INVAL_ALL (R114). -/
def execStlbcmdInvalAll (c : CoreId) (wired : Bool) (s : State) : Res :=
  s.stlbInval c wired (fun _ _ => true)

end Sys2Proof.Machine
end

