-- ==== Sys2Proof/Machine/Mailbox.lean ====
section
/-! DEFINITION. The transports of Plumb's commands (R302, R313 to R320, R324, R326): reply packets, reply rings, the
loss of a transport instance, and the scope of its commands (R41). -/

namespace Sys2Proof.Machine

/-! ## Scope (R41) -/

/-- The frame a transport instance is confined to; none for package scope. -/
def State.scopeOf (s : State) (t : TInst) : Option Nat :=
  if frameCount s.mode = 1 then none
  else match t.kind with
    | .mctp => none
    | .ring => some t.inst
    | .dovetail => if (s.port t.inst).dt.rec_ then none else some (s.frameOfPort t.inst)

/-- Frame f lies in the scope of a transport instance. -/
def State.inScope (s : State) (t : TInst) (f : Nat) : Bool := (s.scopeOf t).isNone || s.scopeOf t == some f

/-- Transport code of R324. -/
def TInst.code (t : TInst) : Nat :=
  match t.kind with
  | .mctp => 0
  | .dovetail => 1
  | .ring => 2

/-! ## Reply packets (R319, R320) -/

/-- Status codes (R320). -/
def stOk := 0x00
def stAccepted := 0x01
def stBadOpcode := 0x10
def stBadLength := 0x11
def stRange := 0x12
def stBusy := 0x13
def stDenied := 0x14
def stTimeout := 0x15
def stAborted := 0x16
def stWrongMode := 0x17
def stHwFault := 0x20
def stIntegrity := 0x21

/-- A reply header with the given CRC (R320). -/
def replyHeader (status op tag len seq crc detail : Nat) : List Byte :=
  bytesOf 16 (status + op * 2 ^ 8 + tag * 2 ^ 16 + len * 2 ^ 32 + seq * 2 ^ 64 + crc * 2 ^ 96 + detail * 2 ^ 112)

/-- A reply packet (R319, R320). -/
def replyPacket (status op tag seq detail : Nat) (payload : List Byte) : List Byte :=
  let crc := crc16 (replyHeader status op tag payload.length seq 0 detail ++ payload)
  replyHeader status op tag payload.length seq crc detail ++ payload

/-- The reply is a final one that frees its tag: neither ACCEPTED nor BUSY for a tag in use (R314). -/
def freesTag (b : List Byte) : Bool :=
  let st := (b.getD 0 0).toNat
  st != stAccepted && !(st == stBusy && (b.getD 14 0).toNat == 0xFF && (b.getD 15 0).toNat == 0xFF)

/-! ## Reply rings (R302, R315) -/

/-- The tag of a delivered final reply is free (R314): each reply that waited held it for itself. -/
def State.tagDone (s : State) (t : TInst) (b : List Byte) : State :=
  { s with plumb := { s.plumb with dead := s.plumb.dead.eraseP (fun e => e.t == t && e.reply == b) } }

/-- The commands of a transport instance run on; their replies are discarded and their tags free (R326). -/
def State.loseTransport (s : State) (t : TInst) : State :=
  let pl := s.plumb
  let s := { s with plumb := { pl with jobs := pl.jobs.map (fun j => if j.t = t then { j with lost := true } else j),
                                       dead := pl.dead.filter (fun e => e.t != t) } }
  match t.kind with
  | .ring => let fr := s.frame t.inst; s.setFrame t.inst { fr with ring := { fr.ring with replies := [], wr := false } }
  | .dovetail => let k := s.port t.inst; s.setPort t.inst { k with dt := { k.dt with replies := [] } }
  | .mctp => s

/-- A slot of a ring lies in the frame's DRAM or bench memory (R315). -/
def State.ringSlotOk (s : State) (f pa : Nat) : Bool :=
  let ok (a : Nat) : Bool := match s.region f a with
    | .dram _ | .bench _ _ => true
    | _ => false
  ok pa && ok (pa + 8191)

/-- A ring address or access failed: the ring's enable is cleared (R302, R315). -/
def State.ringFail (s : State) (f bit : Nat) : State :=
  let fr := s.frame f
  let r := { fr.ring with ringErr := true, cfg := setFld fr.ring.cfg bit bit 0 }
  (s.setFrame f { fr with ring := r }).loseTransport { kind := .ring, inst := f }

/-- Plumb meets a poison mark in a ring: a failed ring access, counted as a consumption (R428). -/
def State.ringPoison (s : State) (f bit pa : Nat) : State :=
  (s.ringFail f bit).report { cls := 2, src := 1, code := 0x20, inst := 0, pa := some pa, frame := some f }

/-- The reply ring is full (R302). -/
def ringFull (tail head log : Nat) : Bool := (tail + 1) % 2 ^ log == head % 2 ^ log

/-- The first reply that waits is written into frame f's reply ring, if it has room: by WR_NC at the lines' homes (R171, R315), one reply at a
time. -/
def State.pumpRing (s : State) (f : Nat) : State :=
  let fr := s.frame f
  let r := fr.ring
  match r.replies with
  | [] => s
  | b :: _ =>
    if r.wr ∨ s.ncBusy (.reply f) ∨ !r.cfg.getLsbD 1 ∨ ringFull r.rplTail r.rplHead r.logInF.2 then s
    else
      let pa := r.rplInF.toNat + r.rplTail * 8192
      if !s.ringSlotOk f pa then s.ringFail f 1
      else (s.setFrame f { fr with ring := { r with wr := true } }).ncWrite (.reply f) pa b

/-- Replies that wait are written into the host's reply ring of port p's function, and vector 0 is signalled. -/
def State.pumpMailbox (s : State) (p n : Nat) : State :=
  match n with
  | 0 => s
  | m + 1 =>
    let k := s.port p
    let d := k.dt
    match d.replies with
    | [] => s
    | b :: l =>
      if !d.bme ∨ !d.cfg.getLsbD 1 ∨ ringFull d.rplTail d.rplHead d.logInF.2 then s
      else
        let sent := d.sent ++ [(d.rplInF.toNat + d.rplTail * 8192, b)]
        let d := { d.wake with replies := l, rplTail := (d.rplTail + 1) % 2 ^ d.logInF.2, sent := sent }
        State.pumpMailbox ((s.setPort p { k with dt := d.vector 0 }).tagDone { kind := .dovetail, inst := p } b) p m

/-- Replies of a transport instance that can go, go. -/
def State.pumpReplies (s : State) (t : TInst) : State :=
  match t.kind with
  | .mctp => s
  | .ring => s.pumpRing t.inst
  | .dovetail => s.pumpMailbox t.inst (s.port t.inst).dt.replies.length

/-- The writes of a reply have ended: it stands in the ring and raises source 2 (R78, R315), and the next one is begun. A write that failed
fails the ring. -/
def State.ringWritten (s : State) (f : Nat) : State :=
  let bad := s.ncFailed (.reply f)
  let s := s.ncDrop (.reply f)
  let fr := s.frame f
  let r := fr.ring
  match r.wr, r.replies with
  | true, b :: l =>
    if bad then s.ringFail f 1
    else
      let s := s.setFrame f { fr with ring := { r with replies := l, wr := false, rplTail := (r.rplTail + 1) % 2 ^ r.logInF.2 } }
      ((s.tagDone { kind := .ring, inst := f } b).aplicEdge f 2).pumpRing f
  | _, _ => s.pumpRing f

/-! ## MCTP on the BMC bus (R316; octets of DSP0236 and DSP0233, PRESUMED, log entry 27) -/

/-- The message tag of message i sent to the BMC: the package's own, counted from 0, or the one of the request it answers, which no row of
the opcode table carries (Config.mctpTag). -/
def Plumb.mctpTag (p : Plumb) (i : Nat) : Nat :=
  let own (e : Bool × List Byte) : Bool := e.1
  if (p.mctpOut.getD i (false, [])).1 then ((p.mctpOut.take i).filter own).length % 8 else Config.mctpTag i % 8

/-- The packets of a message body, 64 bytes at a time: the baseline transmission unit. -/
def mctpChunks (n : Nat) (b : List Byte) : List (List Byte) :=
  match n with
  | 0 => []
  | k + 1 => if b.length ≤ 64 then [b] else b.take 64 :: mctpChunks k (b.drop 64)

/-- PEC of DSP0233: CRC-8 with polynomial 0x07 over the address byte of a read and the packet. -/
def pec (l : List Byte) : Byte :=
  BitVec.ofNat 8 (l.foldl (fun c b => (List.range 8).foldl (fun c _ => if 128 ≤ c then (c * 2 % 256) ^^^ 7 else c * 2) (c ^^^ b.toNat)) 0)

/-- The packets of message i on the bus: version, destination and source endpoint, then first and last, packet sequence, Tag Owner and tag;
the bytes; PEC. -/
def Plumb.mctpPackets (p : Plumb) (i : Nat) : List (List Byte) :=
  let m := p.mctpOut.getD i (false, [])
  let l := mctpChunks (m.2.length + 1) m.2
  l.mapIdx (fun k c =>
    let head := [0x01, Config.bmcEid, BitVec.ofNat 8 p.eid,
      BitVec.ofNat 8 (b2n (k == 0) * 2 ^ 7 + b2n (k + 1 == l.length) * 2 ^ 6 + k % 4 * 2 ^ 4 + b2n m.1 * 2 ^ 3 + p.mctpTag i)]
    let d := head ++ c
    d ++ [pec (BitVec.ofNat 8 (p.dynAddr * 2 + 1) :: d)])

/-- The in-band interrupt: packets are pending that the BMC has not read; `read` counts the messages it has. -/
def Plumb.inBand (p : Plumb) (read : Nat) : Bool := decide (read < p.mctpOut.length)

/-- A message to the BMC (R316): with Tag Owner set, or the response to a request. -/
def State.mctpSend (s : State) (own : Bool) (b : List Byte) : State :=
  { s with plumb := { s.plumb with mctpOut := s.plumb.mctpOut ++ [(own, b)] } }

/-- The first bytes of a Plumb message of type 0x7E (R316). -/
def vdmHead : List Byte := [0x7E, BitVec.ofNat 8 (Config.vendorId.toNat / 256), BitVec.ofNat 8 Config.vendorId.toNat, 0x01]

/-- A reply packet given to a transport instance; one that `holds` its tag keeps it until it is delivered (R314, R323). `own` marks the final
reply of a command that was answered ACCEPTED, which over MCTP is a message of the package's own (R316). -/
def State.putReply (s : State) (t : TInst) (own : Bool) (taken : Nat) (b : List Byte) (holds : Bool) : State :=
  let tag := (b.getD 2 0).toNat
  let d : Dead := { t := t, tag := tag, opcode := (b.getD 1 0).toNat, taken := taken, reply := b }
  let wait (s : State) : State := if holds then { s with plumb := { s.plumb with dead := s.plumb.dead ++ [d] } } else s
  match t.kind with
  | .mctp => s.mctpSend own (vdmHead ++ b)
  | .ring => let fr := s.frame t.inst; (wait (s.setFrame t.inst { fr with ring := { fr.ring with replies := fr.ring.replies ++ [b] } })).pumpReplies t
  | .dovetail => let k := s.port t.inst; (wait (s.setPort t.inst { k with dt := { k.dt with replies := k.dt.replies ++ [b] } })).pumpReplies t

/-- A reply given to a transport instance: a final one holds its tag. -/
def State.sendReply (s : State) (t : TInst) (own : Bool) (taken : Nat) (b : List Byte) : State := s.putReply t own taken b (freesTag b)

/-- COMMAND_DONE with a final reply (R324). -/
def State.commandDone (s : State) (t : TInst) (op tag status : Nat) : State :=
  let n := notice 0x01 3 12 (TInst.code t * 2 ^ 14 + t.inst % 8 * 2 ^ 11 + tag) (op * 2 ^ 24 + status * 2 ^ 16)
  match t.kind with
  | .mctp => s
  | .ring => s.post [t.inst] n
  | .dovetail => s.postPort t.inst n

/-- Every ring's waiting replies (R323). -/
def State.pumpAll (s : State) : State :=
  let s := (framesOf s.mode).foldl (fun s f => s.pumpReplies { kind := .ring, inst := f }) s
  (List.range 8).foldl (fun s p => s.pumpReplies { kind := .dovetail, inst := p }) s

end Sys2Proof.Machine
end

