-- ==== Sys2Proof/Machine/DtRegs.lean ====
section
/-! DEFINITION. The registers of the dovetail function at BAR 10h: rings and notice queue (R301, R302), window sets and their commit (R303 to
R306), and a write's place among posted writes (R307). -/

namespace Sys2Proof.Machine

def State.setDt (s : State) (p : Nat) (d : Dovetail) : State := s.setPort p { s.port p with dt := d }

/-! ## Rings (R301, R302) -/

/-- DT_CMD_TAIL: the doorbell. -/
def Dovetail.writeTail (d : Dovetail) (v : Word) : Dovetail := { d with cmdTail := fld v 7 0 % 2 ^ d.logInF.1 }
/-- DT_RPL_HEAD. -/
def Dovetail.writeHead (d : Dovetail) (v : Word) : Dovetail := { d with rplHead := fld v 7 0 % 2 ^ d.logInF.2 }

/-- DT_RING_CFG: BASE and LOG take effect when EN rises, and head and tail become 0. -/
def Dovetail.writeCfg (d : Dovetail) (v : Word) : Dovetail :=
  let (w, cs, rs) := ringCfgWrite d.cfg v
  let d := { d with cfg := w }
  let d := if cs then { d with cmdInF := d.cmdBase, logInF := (fld w 11 8, d.logInF.2), cmdHead := 0, cmdTail := 0 } else d
  if rs then { d with rplInF := d.rplBase, logInF := (d.logInF.1, fld w 15 12), rplHead := 0, rplTail := 0 } else d

def dtInst (p : Nat) : TInst := { kind := .dovetail, inst := p }

/-- A write of DT_RING_CFG; clearing an enable loses the transport (R326). -/
def State.dtCfg (s : State) (p : Nat) (v : Word) : State :=
  let d := (s.port p).dt
  let w := d.writeCfg v
  let s := s.setDt p w
  if (d.cfg &&& ~~~ w.cfg &&& 3) != 0 then s.loseTransport (dtInst p) else s.pumpReplies (dtInst p)

/-! ## Windows (R303 to R306) -/

/-- The size of the BAR at 18h in bytes (R303). -/
def Dovetail.barSize (d : Dovetail) : Nat := 2 ^ (30 + d.barGib)
def DtWin.en (w : DtWin) : Bool := w.map.getLsbD 63
def DtWin.we (w : DtWin) : Bool := w.map.getLsbD 62
def DtWin.len (w : DtWin) : Nat := fld w.map 59 40 * 2 ^ 21
def DtWin.off (w : DtWin) : Nat := fld w.map 39 21 * 2 ^ 21
def DtWin.base (w : DtWin) : Nat := fld w.tgt 55 21 * 2 ^ 21
/-- A reserved bit is set, which a commit refuses (R304, R305). -/
def DtWin.rsvd (w : DtWin) : Bool := fld w.map 61 60 != 0 || fld w.map 20 0 != 0 || fld w.tgt 63 56 != 0 || fld w.tgt 20 0 != 0
/-- Two windows overlap. -/
def DtWin.overlaps (a b : DtWin) : Bool := decide (a.off < b.off + b.len) && decide (b.off < a.off + a.len)

/-- The target lies wholly within the frame's own DRAM, outside the hole, or within one bench window (R305). -/
def State.winTarget (s : State) (f : Nat) (w : DtWin) : Bool :=
  let a := w.base
  let b := w.base + w.len - 1
  match s.region f a, s.region f b with
  | .dram la, .dram lb => decide (lb = la + w.len - 1) && !(decide (la < 0xC0000000) && decide (0xC0000000 ≤ lb))
  | .bench x _, .bench y _ => x == y
  | _, _ => false

/-- A shadow entry passes the checks of a commit. -/
def State.winOk (s : State) (f : Nat) (d : Dovetail) (i : Nat) : Bool :=
  let w := Tab.get d.shadow {} i
  !w.en || (!w.rsvd && w.len != 0 && decide (w.off + w.len ≤ d.barSize) && s.winTarget f w &&
    (List.range 16).all (fun j => j == i || !(Tab.get d.shadow {} j).en || !w.overlaps (Tab.get d.shadow {} j)))

/-- A commit of the shadow set (R305). -/
def State.dtCommit (s : State) (p : Nat) : State :=
  let d := (s.port p).dt
  let ok := (List.range 16).all (s.winOk (s.frameOfPort p) d)
  let d := if ok then { d with active := d.shadow, winStat := stOk } else { d with winStat := stRange }
  s.setDt p (d.vector 2)

/-- The root number that marks requests at BAR 18h. -/
def barRoot : Nat := 9

/-! ## Registers (R301, R307, R308) -/

/-- Pending vectors that may be sent are sent. -/
def Dovetail.flushPba (d : Dovetail) : Dovetail :=
  (List.range 4).foldl (fun d v =>
    let w := Tab.get d.msix 0x100000000 (2 * v + 1)
    if bitOf d.pba v && d.bme && d.msixOn && !d.msixMask && !w.getLsbD 32 then ({ d with pba := d.pba - 2 ^ v } : Dovetail).vector v else d) d

/-- The 8-byte register at an offset, as a read returns it (R301, R302, R305). Reading DT_NQ_POP has a command of its own. -/
def Dovetail.barWord (d : Dovetail) (o : Nat) : Word :=
  match o with
  | 0x00 => BitVec.ofNat 64 (b2n d.ringErr * 2 ^ 7 + b2n d.frameReset * 2 ^ 6 + b2n d.drop * 2 ^ 5 + b2n d.unexp * 2 ^ 4 + b2n d.rec_ * 2 +
      b2n d.ready)
  | 0x20 => BitVec.ofNat 64 d.cmdHead
  | 0x38 => BitVec.ofNat 64 d.rplTail
  | 0x58 => if d.rec_ then BitVec.ofNat 64 (d.winStat * 2 ^ 8) else 0
  | 0x1800 => BitVec.ofNat 64 d.pba
  | 0x08 => d.cfg
  | 0x10 => d.cmdBase
  | 0x18 => BitVec.ofNat 64 d.cmdTail
  | 0x28 => d.rplBase
  | 0x30 => BitVec.ofNat 64 d.rplHead
  | 0x48 => BitVec.ofNat 64 d.nqLevel
  | 0x50 => d.outBase
  | 0x60 => BitVec.ofNat 64 d.nqTimeout
  | _ =>
    if 0x100 ≤ o ∧ o < 0x300 then
      let w := if o < 0x200 then Tab.get d.shadow {} ((o - 0x100) / 16) else Tab.get d.active {} ((o - 0x200) / 16)
      if !d.rec_ then 0 else if o % 16 = 0 then w.map else w.tgt
    else if 0x1000 ≤ o ∧ o < 0x1040 then
      let i := (o - 0x1000) / 8
      Tab.get d.msix (if i % 2 = 1 then 0x100000000 else 0) i
    else 0

/-- What a read of `size` bytes at BAR 10h is answered with (R301): Completer Abort unless it is of 4 or 8 bytes, naturally aligned. -/
def Dovetail.barRead (d : Dovetail) (o size : Nat) : Option Nat :=
  if (size ≠ 4 ∧ size ≠ 8) ∨ o % size ≠ 0 then none
  else some ((d.barWord (o / 8 * 8)).toNat / 2 ^ (8 * (o % 8)) % 2 ^ (8 * size))

/-- A register of BAR 10h written with its whole new value; `raw` has only the written bits. -/
def State.barWrite (s : State) (p o : Nat) (lo : Bool) (v raw : Word) : State :=
  let d := (s.port p).dt
  match o with
  | 0x00 => s.setDt p { d with ringErr := d.ringErr && !raw.getLsbD 7, frameReset := d.frameReset && !raw.getLsbD 6,
                               drop := d.drop && !raw.getLsbD 5, unexp := d.unexp && !raw.getLsbD 4 }
  | 0x08 => s.dtCfg p v
  | 0x10 => s.setDt p (if d.cfg.getLsbD 0 then d else { d with cmdBase := v &&& ~~~ (0x1FFF : Word) })
  | 0x18 => if lo then s.setDt p (d.writeTail v) else s
  | 0x28 => s.setDt p (if d.cfg.getLsbD 1 then d else { d with rplBase := v &&& ~~~ (0x1FFF : Word) })
  | 0x30 => if lo then (s.setDt p (d.writeHead v)).pumpReplies (dtInst p) else s
  | 0x48 => let l := fld v 7 0; if 1 ≤ l ∧ l ≤ 252 then s.setDt p { d with nqLevel := l } else s
  | 0x50 => s.setDt p { d with outBase := v &&& ~~~ (0x1FFFFF : Word) }
  | 0x58 => if d.rec_ ∧ raw.getLsbD 0 then s.dtCommit p else s
  | 0x60 => let l := fld v 6 0; if 1 ≤ l ∧ l ≤ 100 then s.setDt p { d with nqTimeout := l } else s
  | _ =>
    if 0x100 ≤ o ∧ o < 0x200 then
      if d.rec_ then
        let i := (o - 0x100) / 16
        let w := Tab.get d.shadow {} i
        s.setDt p { d with shadow := Tab.put d.shadow {} i (if o % 16 = 0 then { w with map := v } else { w with tgt := v }) }
      else s
    else if 0x1000 ≤ o ∧ o < 0x1040 then
      let i := (o - 0x1000) / 8
      s.setDt p ({ d with msix := Tab.put d.msix (if i % 2 = 1 then 0x100000000 else 0) i v } : Dovetail).flushPba
    else s

/-- A write of `size` bytes at BAR 10h, naturally aligned. -/
def State.barStore (s : State) (p o size : Nat) (val : Word) : State :=
  let part := partOf o size
  s.barWrite p (o / 8 * 8) (part != .hi) (mergePart part (if o < 8 then 0 else (s.port p).dt.barWord (o / 8 * 8)) val) (mergePart part 0 val)

/-- A posted write of the function is still being performed, or waits (R307). -/
def Port.dtHeld (k : Port) : Bool :=
  k.inb.any (fun e => e.2.root == barRoot && e.2.posted) || k.inbQ.any (fun x => x.root == barRoot && x.posted)

/-- A request that must wait takes its place among those of port p. -/
def State.inbHold (s : State) (p : Nat) (x : Inb) : State :=
  let f := s.frameOfPort p
  let fr := s.frame f
  let s := s.setFrame f { fr with inbNo := fr.inbNo + 1 }
  s.setPort p { s.port p with inbQ := (s.port p).inbQ ++ [{ x with no := fr.inbNo }] }

/-- A register write in its place among the posted writes (R307). The window sets and their commit act at decode (R305). -/
def State.barTurn (s : State) (p o size : Nat) (val : Word) : State :=
  let k := s.port p
  if k.dtHeld ∧ o / 8 * 8 ≠ 0x58 ∧ !(decide (0x100 ≤ o) && decide (o < 0x200)) then
    s.inbHold p { kind := .reg, wr := true, posted := true, root := barRoot, addr := o, len := size, data := bytesOf size val.toNat }
  else s.barStore p o size val

end Sys2Proof.Machine
end

