-- ==== Sys2Proof/Machine/Walk.lean ====
section
/-! DEFINITION. Walks of the shim strand (R93 to R105): their requests, the PTEs they read, the A and D updates they
make, and how they end. -/

namespace Sys2Proof.Machine

/-- The address of the page that a waiting access misses, if it waits for a walk. -/
def Core.missVa (k : Core) (w : Wait) : Option Word :=
  if w.xlated then none
  else
    let t := w.acc.checkType
    match k.lookup w.acc.va t w.ctx with
    | .miss => some w.acc.va
    | .ok _ _ =>
      let n := pageSplit w.acc.va w.acc.size
      let va2 := w.acc.va + BitVec.ofNat 64 n
      if n ≠ 0 ∧ k.lookup va2 t w.ctx = .miss then some va2 else none
    | _ => none

/-- A walk for access x, of the page at va: what it walks with (R91, R98). -/
def Core.newWalk (k : Core) (src : WalkSrc) (x : Wait) (va : Word) (kind : TlbKind) : Walk :=
  let atp := k.csr (if x.ctx.virt then Csr.vsatp else Csr.satp)
  { src := src, acc := x.acc.checkType, va := va, ctx := x.ctx, kind := kind, asid := k.xasid x.ctx.virt, vmid := k.xvmid,
    mode := fld atp 63 60, gmode := if x.ctx.virt then fld (k.csr Csr.hgatp) 63 60 else 0,
    root := fld atp 43 0 * 4096, groot := fld (k.csr Csr.hgatp) 43 0 * 4096, seq := x.seq }

/-- The 4 KiB granule of a walk: under VS-stage Bare the whole guest PA's. -/
def Walk.granule (w : Walk) : Nat := if w.kind = .guest ∧ w.mode = 0 then w.va.toNat / 4096 else vpnOf w.va

/-- Two walks share the kind, the tags and the 4 KiB granule (R95). -/
def Walk.same (w v : Walk) : Bool :=
  w.kind == v.kind && w.asid == v.asid && (w.kind == .std || w.vmid == v.vmid) && w.granule == v.granule

/-- The context a walk takes: context 3 only for a head walk (R94). -/
def Core.walkSlot (k : Core) (src : WalkSrc) : Option Nat :=
  if src = .head ∧ (Tab.find k.xlat.walks 3).isNone then some 3 else Tab.freeKey k.xlat.walks 0 3

/-- Free contexts among 0 to 2 (R103). -/
def Core.freeWalks (k : Core) : Nat := ((List.range 3).filter (fun i => (Tab.find k.xlat.walks i).isNone)).length

/-- The mode bits allow a walk from a source (R97, R103). -/
def Core.walkAllowed (k : Core) (src : WalkSrc) : Bool :=
  match src with
  | .head => true
  | .prefetch => k.csrBit Csr.mshimctl 0 && k.csrBit Csr.mshimctl 1 && decide (2 ≤ k.freeWalks)
  | _ => k.csrBit Csr.mshimctl 0

def State.setWalk (s : State) (c i : Nat) (w : Walk) : State :=
  let k := s.core c
  s.setCore c { k with xlat := { k.xlat with walks := Tab.set k.xlat.walks i w } }
def State.freeWalk (s : State) (c i : Nat) : State :=
  let k := s.core c
  s.setCore c { k with xlat := { k.xlat with walks := Tab.erase k.xlat.walks i } }

/-- Entries written to the L2 TLB and the requesting L1 TLB (R89, R91). -/
def State.tlbFill (s : State) (c : Nat) (acc : AccType) (e : TlbEnt) : State :=
  let (v, s) := s.take
  let (u, s) := s.take
  let k := s.core c
  let x := { k.xlat with l2tlb := (l2Fill k.xlat.l2tlb v.toNat e).1 }
  let x := if e.kind = .gstage then x
    else if acc = .fetch then { x with itlb := l1Fill x.itlb u.toNat e } else { x with dtlb := l1Fill x.dtlb u.toNat e }
  s.setCore c { k with xlat := x }

/-- A non-leaf PTE kept in the paging-structure cache (R89, R97). -/
def State.pscFill (s : State) (c : Nat) (e : PscEnt) : State :=
  if !(s.core c).csrBit Csr.mshimctl 2 then s
  else
    let (v, s) := s.take
    let k := s.core c
    let t := k.xlat.psc.filter (fun d => !(d.2.stage == e.stage && d.2.level == e.level && d.2.vpn == e.vpn &&
      d.2.asid == e.asid && d.2.vmid == e.vmid))
    s.setCore c { k with xlat := { k.xlat with psc := Tab.set t (slotOf t 256 v.toNat) e } }

/-- The access that owns a walk: the one it runs for, as long as it waits for that page. -/
def Core.ownsWalk (k : Core) (w : Walk) (x : Wait) : Bool :=
  x.seq == w.seq && x.acc.kind.hint == (w.src == .prefetch) && x.ctx.virt == w.ctx.virt &&
    (k.missVa x).elim false (fun va => k.pageOf va x.ctx == k.pageOf w.va w.ctx)

/-- A walk that is not a head walk ends without a fill: the access it ran for asks for a head walk once it is the oldest, a hint is
dropped (R103). Others that waited for it may ask for walks of their own (R95). -/
def Core.walkGaveUp (k : Core) (w : Walk) : Core :=
  { k with pipe := { k.pipe with
      waits := (k.pipe.waits.filter (fun x => !(k.ownsWalk w x && x.acc.kind.hint))).map
        (fun x => if k.ownsWalk w x then { x with head := true } else x) } }

/-- The cause of a walk fault (R104). -/
def walkCause (reason stage : Nat) (t : AccType) : Nat :=
  if 5 ≤ reason then accessFault t else if stage = 2 then guestFault t else pageFault t

/-- The standard pseudoinstruction of a guest-page fault on an implicit access (R101). -/
def Walk.pseudo (w : Walk) (reason stage : Nat) : Nat :=
  if stage = 2 ∧ reason < 5 ∧ w.leaf.isNone ∧ w.mode ≠ 0 then (if w.gwr then 0x3020 else 0x3000) else 0

/-- The guest PA a fault reports: of the final stage, the access's own byte (R101). -/
def Walk.faultGpa (w : Walk) (va : Word) : Nat := if w.leaf.isSome ∨ w.mode = 0 then w.gpa / 4096 * 4096 + va.toNat % 4096 else w.gpa

/-- The head walk's fault is taken by its instruction, with the address it misses (R101, R104, R107). -/
def State.walkTrap (s : State) (c : Nat) (w : Walk) (x : Wait) (va : Word) (reason pte level stage : Nat) : State :=
  let k := s.core c
  let t : Trap := { x.trap (walkCause reason stage x.acc.kind.causeType) va with
                    gva := w.ctx.virt, gpa := if stage = 2 ∧ reason < 5 then w.faultGpa va else 0, tinst := w.pseudo reason stage }
  let target := k.regs.trapTarget t
  (s.setCore c { k with regs := k.regs.walkInfo target pte reason level stage }).trapCore c t

/-- A walk ends with a reason (R103, R104): a head walk's is taken by the access it ran for, and by no other. -/
def State.walkFail (s : State) (c i : Nat) (w : Walk) (reason pte level stage : Nat) : State :=
  let s := s.freeWalk c i
  let k := s.core c
  if w.src ≠ .head then (s.setCore c (k.walkGaveUp w)).retry c
  else match k.headWait with
    | some x =>
      match (if k.ownsWalk w x then k.missVa x else none) with
      | some va => s.faultAcc c x (s.walkTrap c w x va reason pte level stage)
      | none => s.retry c
    | none => s

/-- The GSTAGE entries a step of a walk has used (R89). -/
def State.touchUsed (s : State) (c : Nat) (w : Walk) : State :=
  let k := s.core c
  if w.used.isEmpty then s else s.setCore c { k with xlat := { k.xlat with l2tlb := w.used.foldl l2Touch k.xlat.l2tlb } }

/-- What a walk does next (R99): its next PTE address is checked before anything is fetched. An address of ridge space is one of a region
that is not walkable, whether or not the frame is a node (DEDUCED, log entry 35). -/
def State.walkNext (s : State) (c i : Nat) (n : WNext) : State :=
  match n with
  | .read w =>
    let r := s.region (s.frameOfCore c) w.pa
    let lv := if w.inG then w.glevel else w.level
    let st := if w.inG then 2 else if w.kind = .std then 0 else 1
    let s := s.touchUsed c w
    let w := { w with used := [] }
    if r.walkable then s.setWalk c i w
    else s.walkFail c i w (if r = .nowhere ∧ !isRidgeLine (w.pa / 64) then 6 else 5) w.pa lv st
  | .fill w e => (((s.touchUsed c w).freeWalk c i).tlbFill c w.acc e).retry c
  | .fail w reason pte level stage => s.walkFail c i w reason pte level stage

/-- A walk for access x takes a context and begins. One for its granule in flight is waited for (R95). -/
def State.beginWalk (s : State) (c : Nat) (src : WalkSrc) (x : Wait) (va : Word) : State :=
  let k := s.core c
  match k.xkind x.ctx with
  | some kind =>
    let w := k.newWalk src x va kind
    if kind = .hewn ∨ !k.xlat.shim then s
    else if k.xlat.walks.any (fun e => e.2.same w) ∨ !k.walkAllowed src then s
    else match k.walkSlot src with
      | some i => (s.setWalk c i w).walkNext c i (k.walkStart w)
      | none => s
  | none => s

/-- The source of a waiting access's request, when it is not asked as a head walk (R94). -/
def Wait.walkSrc (x : Wait) : WalkSrc := if x.acc.kind = .fetch then .fetch else if x.acc.kind.hint then .prefetch else .demand

/-- The source of a waiting access's request: a head walk for the oldest instruction, or the fetch at the head of the program (R94). -/
def Core.srcOf (k : Core) (x : Wait) : WalkSrc := if k.headWait = some x then .head else x.walkSrc

/-- The place of a request in the order of service (R94). -/
def walkRank : WalkSrc → Nat
  | .head => 0
  | .fetch => 1
  | .demand => 2
  | .prefetch => 3

/-- An access waits for a walk that could begin now: no walk for its granule runs, and its source may start one. -/
def Core.asksWalk (k : Core) (x : Wait) : Bool :=
  match k.missVa x, k.xkind x.ctx with
  | some va, some kind =>
    let src := k.srcOf x
    kind != .hewn && !k.xlat.walks.any (fun e => e.2.same (k.newWalk src x va kind)) && k.walkAllowed src &&
      (!x.head || src == .head)
  | _, _ => false

/-- Another request is served before that of x from source src (R94): one of a higher place, or an older one of the same. -/
def Core.servedFirst (k : Core) (x : Wait) (src : WalkSrc) : Bool :=
  k.pipe.waits.any (fun y => y != x && k.asksWalk y &&
    (decide (walkRank (k.srcOf y) < walkRank src) || (src == .demand && k.srcOf y == .demand && decide (y.seq < x.seq))))

/-- WALK_REQUEST (R94): the shim strand serves the request of a waiting access that misses at this address. The oldest instruction's
request is a head walk, by whichever source it is named (DEDUCED, log entry 35). -/
def execWalkRequest (c : CoreId) (src : WalkSrc) (acc : AccType) (va : Word) (guest : Bool) (s : State) : Res :=
  let k := s.core c
  let mine (x : Wait) : Bool := !x.head && x.acc.checkType == acc && x.ctx.virt == guest && k.missVa x == some va &&
    (if src = .head then k.headWait == some x else x.walkSrc == src)
  match k.pipe.waits.find? mine with
  | some x => if k.awake ∧ !k.servedFirst x (k.srcOf x) then .next (s.beginWalk c (k.srcOf x) x va) else .next s
  | none => .next s

/-- HEAD_WALK_REQUEST (R103): the oldest instruction's walk ended without a fill. -/
def execHeadWalkRequest (c : CoreId) (s : State) : Res :=
  let k := s.core c
  match k.headWait with
  | some x =>
    match k.missVa x with
    | some va => if k.awake ∧ x.head then .next (s.beginWalk c .head x va) else .next s
    | none => .next s
  | none => .next s

/-- The PTE of a walk with A and D set, written by the head walk in a line held in unique ownership (R100). -/
def State.pteUpdate (s : State) (c i : Nat) (w : Walk) (p : Word) : State :=
  let k := s.core c
  if w.src ≠ .head then
    let s := s.freeWalk c i
    (s.setCore c ((s.core c).walkGaveUp w)).retry c
  else if !w.inG ∧ w.kind = .guest ∧ w.gmode ≠ 0 ∧ !w.gwr then
    -- the update of a VS-stage PTE must be granted a write by the G stage
    s.walkNext c i (k.wantPte { w with gwr := true })
  else if !k.owns (w.pa / 64) then (s.startMiss c (w.pa / 64) true none []).getD s
  else
    let s := s.setCore c (k.l2Write { kind := .svadu, pa := w.pa, size := 8 } p.toNat false)
    let s := if w.inG then s.tlbFill c w.acc (w.gEntry p) else s
    s.walkNext c i ((s.core c).walkOn w p)

/-- A PTE the walk has read from L2 (R96, R104, R105). -/
def State.pteRead (s : State) (c i : Nat) (w : Walk) (p : Word) (poison : Bool) (src : Nat) : State :=
  let k := s.core c
  let lv := if w.inG then w.glevel else w.level
  let st := if w.inG then 2 else if w.kind = .std then 0 else 1
  if poison then
    let s := if w.src = .head then
        s.report { cls := 2, src := 2, code := supplierCode src, inst := c / 32, sub := s.mhartid c % 4096,
                   pa := some (w.pa / 64 * 64), detail := 7, frame := some (s.frameOfCore c) }
      else s
    s.walkFail c i w 7 w.pa lv st
  else match k.pteCheck w p with
    | .fail reason => s.walkFail c i w reason w.pa lv st
    | .update q => s.pteUpdate c i w q
    | .good =>
      let s := if !pteLeaf p then s.pscFill c (w.pscOf p) else if w.inG then s.tlbFill c w.acc (w.gEntry p) else s
      s.walkNext c i (k.walkOn w p)

/-- An error of the shim store met as the walk's code runs (R96): 1 corrected and counted; 2 uncorrectable, which halts the hart and is
reported as uncorrected-contained. -/
def State.shimEcc (s : State) (c : Nat) (ecc : Fin 3) : State :=
  let ev (cls : Nat) : ErrEv := { cls := cls, src := 2, code := 6, inst := c / 32, sub := c % 32, frame := some (s.frameOfCore c) }
  match ecc with
  | 0 => s
  | 1 => s.report { ev 0 with bin := some (0x22, c / 32, 128) }
  | _ => (s.setCore c { s.core c with run := .stopped }).report (ev 3)

/-- PTE_READ_RETURN (R96): the PTE is read through L2; a miss asks for its line, and the read is made again. -/
def execPteReadReturn (c : CoreId) (ctx : Fin 4) (ecc : Fin 3) (s : State) : Res :=
  match (if (s.core c).awake then Tab.find (s.core c).xlat.walks ctx else none) with
  | none => .next s
  | some w =>
    let s := s.shimEcc c ecc
    if ecc = 2 then .next s
    else
      let s := s.l2Check c (w.pa / 64)
      let k := s.core c
      match k.pipe.find2 (w.pa / 64) with
      | none => .next ((s.startMiss c (w.pa / 64) (w.src == .head && k.adue w) none []).getD s)
      | some e =>
        let p : Word := BitVec.ofNat 64 (lineBytes e.data (w.pa % 64) 8)
        let s := s.setCore c { k with pipe := k.pipe.touch (w.pa / 64) }
        .next (s.pteRead c ctx w p e.poison e.src)

end Sys2Proof.Machine
end

