-- ==== Sys2Proof/Machine/Inbound.lean ====
section
/-! DEFINITION. Requests of devices, hosts and ridge nodes inside the package (R271, R274, R289, R290, R295, R306,
R307): their turn, the coherence requests they make line by line, and their answers. -/

namespace Sys2Proof.Machine

/-! ## Their lines -/

/-- The part of a request in one line: offset in the line, offset in its data, bytes. -/
def Inb.piece (x : Inb) (line : Nat) : Nat × Nat × Nat :=
  let lo := max x.addr (line * 64)
  let hi := min (x.addr + x.len) (line * 64 + 64)
  (lo % 64, lo - x.addr, hi - lo)

/-- The bytes of a write for one line, with their mask. -/
def Inb.lineData (x : Inb) (line : Nat) : Line × BitVec 64 :=
  let p := x.piece line
  (placeInLine (ofBytes ((x.data.drop p.2.1).take p.2.2)) p.1, byteMask p.1 p.2.2)

/-- Posted writes of port p that reach DRAM of the frame's own package are performed before a reset takes the port (R309). -/
def State.landPosted (s : State) (p : Nat) : State :=
  let f := s.frameOfPort p
  let k := s.port p
  ((k.inb.map (·.2) ++ k.inbQ).filter (fun x => x.posted && x.kind == .write)).foldl (fun s x =>
    x.left.foldl (fun s l => match s.region f (l * 64) with
      | .dram la =>
        let d := x.lineData l
        let key := s.dramKey f (la / 64 * 64)
        let old := s.memLine key
        s.setMemLine key (mergeLine old.1 d.1 d.2) (x.poison || (old.2 && d.2 != BitVec.allOnes 64))
      | _ => s) s) s

/-- The request an inbound request makes at its home (R274, R289). -/
def Inb.op (x : Inb) : MsgOp :=
  match x.kind with
  | .write => .wrNc
  | .atomic => .atomNc
  | _ => .rdNc

/-! ## Turns (R271, R290, R307) -/

/-- Two requests of one source: one root port, the dovetail function, or one ridge node. -/
def Inb.sameSrc (x y : Inb) : Bool := x.root == y.root && (x.root != 8 || x.src == y.src)

/-- A request may pass an earlier posted write of its source: a write or AtomicOp with Relaxed Ordering, or a request with ID-Based Ordering of
another Requester ID; a write to an interrupt file never (R64, R290). -/
def Inb.passes (x y : Inb) : Bool :=
  x.kind != .msi && ((x.ro && (x.wr || x.kind == .atomic)) || (x.ido && x.rid != y.rid))

/-- A request waits for an earlier one: for its posted writes; a FENCE for every one. -/
def Inb.waitsFor (x y : Inb) : Bool := x.sameSrc y && !x.passes y && ((y.posted && y.wr) || x.kind == .fence)

/-! ## Requests and answers -/

/-- The header of a request of port p for a line. -/
def State.inbHdr (s : State) (p t line agent pkg : Nat) : Hdr :=
  let ids := (s.port p).inbIds
  { src := 32 + p, dst := agent, srcPkg := s.ownPkg, dstPkg := pkg, tag := t, reqAgent := 32 + p, reqPkg := s.ownPkg,
    line := line, rcid := ids.1, mcid := ids.2 }

/-- The request for the first line left. A line of no home ends as an access error. -/
def State.inbSend (s : State) (p t : Nat) (x : Inb) (line : Nat) : Option State :=
  let f := s.frameOfPort p
  match s.target f (line * 64) with
  | some (agent, pkg) =>
    let q := x.piece line
    some (s.route f { op := x.op, hdr := s.inbHdr p t line agent pkg, mask := if q.2.2 = 64 then BitVec.allOnes 64 else 0,
                      amo := x.amo, size := x.len, off := q.1 })
  | none => none

/-- The next line of a request; n bounds the lines without a home that it passes over. -/
def State.inbNext (s : State) (p t : Nat) (x : Inb) (n : Nat) : State :=
  match n, x.left with
  | _, [] => s.inbEnd p t x
  | 0, _ => s.inbEnd p t x
  | m + 1, l :: r =>
    let k := s.port p
    let s' := s.setPort p { k with inb := Tab.set k.inb t x }
    match s'.inbSend p t x l with
    | some s => s
    | none => s.inbNext p t { x with err := true, left := r } m

/-- The part of a request in one 256-byte block of ridge space: address, offset in its data, bytes (R270). -/
def Inb.block (x : Inb) (b : Nat) : Nat × Nat × Nat :=
  let lo := max x.addr (b * 256)
  (lo, lo - x.addr, min (x.addr + x.len) (b * 256 + 256) - lo)

/-- The ridge packets of a device's request, one block of 256 bytes after the other; a write needs no answers. A block
that finds no port waits in its turn (R275, R276). -/
def State.inbRidge (s : State) (p t : Nat) (x : Inb) (n : Nat) : State :=
  match n, x.left with
  | _, [] => s.inbEnd p t x
  | 0, _ => s.inbEnd p t x
  | m + 1, b :: rest =>
    let q := x.block b
    let r : RidgeReq := { core := 385 + p, slot := t, op := if x.wr then 3 else 1, node := ridgeNode q.1, addr := ridgeAddr q.1, len := q.2.2,
                          data := if x.wr then (x.data.drop q.2.1).take q.2.2 else [], poison := x.poison, line := q.1 / 64 }
    match s.ridgeSend (s.frameOfPort p) r with
    | some s =>
      if x.wr then s.inbRidge p t { x with left := rest } m
      else let k := s.port p; s.setPort p { k with inb := Tab.set k.inb t x }
    | none => let k := s.port p; s.setPort p { k with inb := Tab.erase k.inb t, inbQ := x :: k.inbQ }

/-- The root port other than the request's own whose windows, within its port's, hold the address (R286, R289). -/
def State.peerOf (s : State) (p : Nat) (x : Inb) : Option (Nat × Nat) :=
  match s.region (s.frameOfPort p) x.addr with
  | .pcie q pa => (((s.port q).claimant pa).map (fun i => (q, i))).filter (fun e => !(e.1 == p && e.2 == x.root) && ((s.port q).root e.2).up)
  | _ => none

/-- A request forwarded to another root port (R289). -/
def State.inbPeer (s : State) (p t : Nat) (x : Inb) : State :=
  match s.peerOf p x with
  | none => s.inbEnd p t { x with err := true }
  | some (q, i) =>
    let k := s.port q
    let atom := x.amo != .swap || x.data != []
    let ask : OutReq := { core := 385 + p, slot := t, op := if atom then 4 else 1, node := i, addr := x.addr, len := x.len, line := x.addr / 64,
                          data := x.data, cmp := x.cmp, amo := if atom then some x.amo else none }
    if x.wr then (s.setPort q (k.postRoot i x.addr x.data x.poison)).inbEnd p t x
    else match k.askRoot i ask with
      | some k => let s := s.setPort q k; let k := s.port p; s.setPort p { k with inb := Tab.set k.inb t x }
      | none => s.setPort p { s.port p with inbQ := x :: (s.port p).inbQ }

/-- A request whose turn has come is begun under tag t (R274, R275, R289). -/
def State.inbStart (s : State) (p t : Nat) (x : Inb) : State :=
  match x.kind with
  | .fence => s.inbEnd p t x
  | .msi => ((s.ctlWrite (32 + p) (s.frameOfPort p) (x.addr - controlBase) x.len (BitVec.ofNat 64 (ofBytes x.data))).getD s).inbEnd p t x
  | .toRidge => s.inbRidge p t x (x.left.length + 1)
  | .reg => s.barStore p x.addr x.len (BitVec.ofNat 64 (ofBytes x.data))
  | .pop => s.setDt p { (s.port p).dt with nq := (s.port p).dt.nq.pop {} }
  | .toPeer => s.inbPeer p t x
  | _ => s.inbNext p t x (x.left.length + 1)

/-- What a request of port p is ordered with: the requests of its port, and for a ridge request those of every ridge port of the node
(R271, R290). -/
def State.inbPeers (s : State) (p : Nat) (x : Inb) : List Inb :=
  let ps := if x.root = 8 then (portsOf s.mode (s.frameOfPort p)).filter (fun q => (s.port q).pers == 5) else [p]
  ps.flatMap (fun q => (s.port q).inb.map (·.2) ++ (s.port q).inbQ)

/-- Nothing that came before a request keeps it from its turn. -/
def State.inbClear (s : State) (p : Nat) (x : Inb) : Bool := (s.inbPeers p x).all (fun y => !(decide (y.no < x.no) && x.waitsFor y))

/-- The first request of port p whose turn has come; at most 1,024 non-posted ones are under way (R289, R290). -/
def State.inbReady (s : State) (p : Nat) : Option Inb :=
  let k := s.port p
  let full := decide (1024 ≤ (k.inb.filter (fun e => !e.2.posted)).length)
  k.inbQ.find? (fun x => (x.posted || !full) && s.inbClear p x)

/-- Requests whose turn has come are begun, at most n. -/
def State.inbPump (s : State) (p n : Nat) : State :=
  match n with
  | 0 => s
  | m + 1 =>
    let k := s.port p
    match s.inbReady p, Tab.freeKey k.inb 0 3072 with
    | some x, some t => ((s.setPort p { k with inbQ := k.inbQ.erase x }).inbStart p t x).inbPump p m
    | _, _ => s

/-- Requests of the port go on, and with a ridge port's those of the node's other ones (R271). -/
def State.inbGo (s : State) (p : Nat) : State :=
  let f := s.frameOfPort p
  let ps := if (s.port p).pers = 5 then (portsOf s.mode f).filter (fun q => (s.port q).pers == 5) else [p]
  ps.foldl (fun s q => s.inbPump q (s.port q).inbQ.length) s

/-- A request arrives, and takes its turn. -/
def State.inbAdd (s : State) (p : Nat) (x : Inb) : State :=
  let s := s.inbHold p x
  s.inbPump p (s.port p).inbQ.length

/-- One line of a request has ended: the next line, or its end and the turn of others. -/
def State.inbLineDone (s : State) (p t : Nat) (x : Inb) : State :=
  (s.inbNext p t { x with left := x.left.drop 1 } (x.left.length + 1)).inbGo p

/-- Data of a request that went out on ridge or to a peer (R275, R289); `ur` an Unsupported Request of the peer. -/
def State.inbData (s : State) (p t : Nat) (ok ur : Bool) (data : List Byte) (poison : Bool) : State :=
  match Tab.find (s.port p).inb t with
  | none => s
  | some x =>
    let before := if x.kind = .toPeer then [] else x.data
    let x := { x with data := before ++ data, poison := x.poison || poison, left := x.left.drop 1 }
    (if ok ∧ x.kind = .toRidge then s.inbRidge p t x (x.left.length + 1) else s.inbEnd p t { x with err := !ok, ur := ur }).inbGo p

/-- The operand line of an inbound atomic, in the form of `amoOperand`. -/
def Inb.operand (x : Inb) : Line := BitVec.ofNat 512 (ofBytes (x.data.take 16) + x.cmp * 2 ^ 128)

/-- A message of a home to port p (R171). -/
def State.inbMsg (s : State) (p : Nat) (m : Msg) : State :=
  let t := m.hdr.tag
  match Tab.find (s.port p).inb t with
  | none => s
  | some x =>
    let line := x.left.headD 0
    let q := x.piece line
    match m.op with
    | .ncRData =>
      let got := bytesOf q.2.2 (lineBytes m.data q.1 q.2.2)
      let x := { x with data := if x.kind = .atomic then got else x.data ++ got, poison := x.poison || m.hdr.poison }
      s.inbLineDone p t x
    | .goDone => s.inbLineDone p t x
    | .err => s.inbLineDone p t { x with err := true }
    | .wrPull =>
      let d := if x.kind = .atomic then (x.operand, (0 : BitVec 64)) else x.lineData line
      s.route (s.frameOfPort p)
        { op := .ncWData, hdr := { s.inbHdr p t line m.hdr.src m.hdr.srcPkg with htx := m.hdr.htx, poison := x.poison },
          data := d.1, mask := d.2 }
    | _ => s

end Sys2Proof.Machine
end

