-- ==== Sys2Proof/Machine/Notch.lean ====
section
/-! DEFINITION. The write of a notch (R464 to R467): one full-line WR_NC from a slot of the core, and what follows from its end. -/

namespace Sys2Proof.Machine

/-- mnotchdeleg.S. -/
def Core.notchS (k : Core) : Bool := k.csrBit Csr.mnotchdeleg 0

def Core.setCount (k : Core) (n : Nat) : Core := k.setCsr Csr.notchperiod (setFld (k.csr Csr.notchperiod) 63 32 n)

/-- COUNT reloaded after a notch (R464): its instruction is no longer tagged. -/
def Core.notchReload (k : Core) : Core :=
  let j := 2 ^ fld (k.csr Csr.notchctl) 52 48
  let p := fld (k.csr Csr.notchperiod) 31 0
  ({ k with notch := { k.notch with tagged := false, rec_ := none, lfsr := lfsrStep k.notch.lfsr } }).setCount
    (p / j * j + k.notch.lfsr.toNat % j)

/-- SEQ advances with every notch written or dropped. -/
def Core.notchSeq (k : Core) : Core := { k with notch := { k.notch with seq := k.notch.seq + 1 } }

/-- The owner's interrupt file receives the identity of notchwm (R466). -/
def State.notchIrq (s : State) (c : Nat) : State :=
  let k := s.core c
  let id := fld (k.csr Csr.notchwm) 42 32
  if id = 0 then s else s.imsicPut c (b2n k.notchS) id

/-- A notch that cannot be written (R467). -/
def State.notchFail (s : State) (c : Nat) : State :=
  let k := s.core c
  (s.setCore c (k.setCsr Csr.notchctl (setFld (setFld (k.csr Csr.notchctl) 0 0 0) 10 10 1))).notchIrq c

/-- TAIL advances, and the watermark is told (R465, R466). -/
def State.notchTail (s : State) (c : Nat) : State :=
  let k := s.core c
  let head := fld (k.csr Csr.notchhead) 31 0
  let tail := fld (k.csr Csr.notchtail) 31 0
  let wm := fld (k.csr Csr.notchwm) 24 0
  let before := (tail + 2 ^ 32 - head) % 2 ^ 32
  let after := (tail + 1 + 2 ^ 32 - head) % 2 ^ 32
  let k := (k.setCsr Csr.notchtail (BitVec.ofNat 64 ((tail + 1) % 2 ^ 32)))
  if before < wm ∧ wm ≤ after ∧ !k.csrBit Csr.notchctl 9 then
    (s.setCore c (k.setCsr Csr.notchctl (setFld (k.csr Csr.notchctl) 9 9 1))).notchIrq c
  else s.setCore c k

/-- WR_NC of a notch that waits, once a slot of its kind is free (R56, R465). -/
def State.notchSend (s : State) (c : Nat) : State :=
  let k := s.core c
  match k.notch.rec_, k.pipe.takeSlot .notch with
  | some (_, line), some i =>
    if k.pipe.slots.any (fun e => e.2.kind == .notch) then s
    else s.request c i { kind := .notch, line := line, op := .wrNc, mask := BitVec.allOnes 64 }
  | _, _ => s

/-- WR_PULL at a notch's slot: the record goes to its home. -/
def State.notchData (s : State) (c i : Nat) (sl : Slot) (m : Msg) : State :=
  let sl := { sl with htx := m.hdr.htx, dst := m.hdr.src, dpkg := m.hdr.srcPkg }
  let k := s.core c
  (s.setCore c { k with pipe := k.pipe.setSlot i sl }).slotSend c i sl .ncWData ((k.notch.rec_.map (·.1)).getD 0) (BitVec.allOnes 64) false

/-- The write of a notch has been performed: TAIL advances, and COUNT is reloaded (R464, R465). -/
def State.notchWritten (s : State) (c i : Nat) : State :=
  let k := s.core c
  let s := (s.setCore c { k with pipe := k.pipe.freeSlot i }.notchSeq).notchTail c
  s.setCore c (s.core c).notchReload

/-- It was answered with an error (R467). -/
def State.notchFailed (s : State) (c i : Nat) : State :=
  let k := s.core c
  let s := (s.setCore c { k with pipe := k.pipe.freeSlot i }).notchFail c
  s.setCore c (s.core c).notchReload

end Sys2Proof.Machine
end

