-- ==== Sys2Proof/Machine/Preload.lean ====
section
/-! DEFINITION. The preloads of BAY_LOCK_RANGE (R138): Plumb reads each line of the range through its home, by LOCK_FILL from
the frame's bridge (R18, R164). -/

namespace Sys2Proof.Machine

/-- The line as messages name it (R260). -/
def State.rawLine (s : State) (h line : Nat) : Nat :=
  let fr := s.frame (s.frameOfHome h)
  if h < 12 ∧ !isBenchAddr (line * 64) ∧ fr.joinSt = 2 then
    line + rankOf fr.members s.plumb.pkgId * (2 ^ 43 / max fr.members.length 1) / 64
  else line

/-- The work of a command on bay b's arrays, as it stands. -/
def State.setWork (s : State) (b : Nat) (w : BayWork) : State := s.setHome b { s.home b with work := some w }

/-- The first line at or after l that is homed in bay b; the hash repeats within 24 lines (R21). -/
def State.lineFrom (s : State) (b l : Nat) : Option Nat :=
  ((List.range 48).map (l + ·)).find? (fun x => homeBay s.mode (s.frameOfStud b) (x * 64) == b)

/-- LOCK_FILL of a line, from the bridge of the frame's lowest-numbered quadrant (R18, R164). -/
def State.lockReq (s : State) (b line : Nat) : Msg :=
  let a := 48 + bridgeOf s.mode (s.frameOfStud b)
  { op := .lockFill, hdr := { src := a, dst := 16 + b, srcPkg := s.ownPkg, dstPkg := s.ownPkg, tag := b, reqAgent := a,
                              reqPkg := s.ownPkg, line := s.rawLine b line } }

/-- The next preload is asked for, one at a time; the work is done when none is left. -/
def State.preload (s : State) (b : Nat) (w : BayWork) : State :=
  if w.wait.isSome then s
  else match s.lineFrom b w.next with
    | some l => if l < w.end_ then (s.setWork b { w with next := l + 1, wait := some l }).send (s.lockReq b l)
                else s.setWork b { w with done := true }
    | none => s.setWork b { w with done := true }

/-- A preload of bay b has ended: its NC_RDATA or its ERR has come. -/
def State.preloaded (s : State) (b line : Nat) : State :=
  match (s.home b).work with
  | some w =>
    if w.wait.map (s.rawLine b) = some line then
      let w := { w with wait := none }
      (s.setWork b w).preload b w
    else s
  | none => s

end Sys2Proof.Machine
end

