-- ==== Sys2Proof/Machine/Responses.lean ====
section
/-! DEFINITION. What a requester does with the messages of its home and of holders (R142, R168, R170, R171, R173,
R498, R499): grants and data, pulls of writebacks and of uncached data, completions and errors. -/

namespace Sys2Proof.Machine

/-! ## Slots of a core -/

/-- The slot of a core that a message answers. -/
def State.slotOf (s : State) (m : Msg) : Option (Nat × Nat × Slot) :=
  let c := m.hdr.dst * 32 + m.hdr.tag / 128
  let i := m.hdr.tag % 128
  match Tab.find (s.core c).pipe.slots i with
  | some sl => if sl.line = m.hdr.line then some (c, i, sl) else none
  | none => none

/-- Everything that waits in core c goes on: its fills, its store queue's head, its waiting accesses. -/
def State.goOn (s : State) (c : Nat) : State := ((s.retry c).drainHead c).retry c

/-- Data with its grant reaches a miss register (R170). -/
def State.slotData (s : State) (c i : Nat) (sl : Slot) (m : Msg) : State :=
  let sl := { sl with data := some (m.data, m.op, m.hdr.poison, sourceOf m), htx := m.hdr.htx,
                      goU := if m.hdr.go then some false else sl.goU }
  let k := s.core c
  (s.setCore c { k with pipe := k.pipe.setSlot i sl }).goOn c

/-- GO_U reaches a miss register. -/
def State.slotGo (s : State) (c i : Nat) (sl : Slot) (m : Msg) : State :=
  let k := s.core c
  (s.setCore c { k with pipe := k.pipe.setSlot i { sl with goU := some m.hdr.dirty, htx := m.hdr.htx } }).goOn c

/-- Bytes of the present piece of an uncached read reach their access (R498): the next piece is asked for, or the
access completes. -/
def State.ncGot (s : State) (c i : Nat) (sl : Slot) (d : Line) (poison : Bool) (src : Nat) (ridge : Bool) : State :=
  match sl.merged with
  | [] => let k := s.core c; (s.setCore c { k with pipe := k.pipe.freeSlot i }).goOn c
  | w :: _ =>
    match (accPieces w.acc)[w.acc.part]? with
    | none => s
    | some p =>
      let v := lineBytes d (p.1 % 64) p.2.2
      let got := w.acc.got ||| BitVec.ofNat 128 (v * 2 ^ (8 * p.2.1))
      let a := { w.acc with got := got, part := w.acc.part + 1 }
      let k := s.core c
      let k := { k with pipe := k.pipe.freeSlot i }
      if poison ∨ (accPieces a)[a.part]? = none then (s.setCore c (k.bind { w with acc := a } got.toNat poison src (p.1 / 64))).goOn c
      else
        let s := s.setCore c k
        let w := { w with acc := a }
        if ridge then (s.ridgePiece c i w).getD (s.setCore c ((s.core c).addWait w)) else s.ncPiece c i w

/-- A piece of an uncached write is done: the next piece, or the store leaves the queue (R60, R498). -/
def State.ncDone (s : State) (c i : Nat) (sl : Slot) (ridge : Bool) : State :=
  match sl.merged with
  | [] => let k := s.core c; (s.setCore c { k with pipe := k.pipe.freeSlot i }).goOn c
  | w :: _ =>
    let a := { w.acc with part := w.acc.part + 1 }
    let w := { w with acc := a }
    let k := s.core c
    let k := { k with pipe := k.pipe.freeSlot i }
    if sl.kind = .cbo then (s.setCore c k).goOn c
    else if (accPieces a)[a.part]? = none then (s.setCore c k.popStore).goOn c
    else
      let s := s.setCore c k
      if ridge then (s.ridgePiece c i w).getD s else s.ncPiece c i w

/-- The walks that wait for a line answered with an error end with reason PTE_ACCESS (DEDUCED, log entry 18). -/
def State.walkErr (s : State) (c line : Nat) : State :=
  match (s.core c).xlat.walks.find? (fun e => e.2.pa / 64 == line) with
  | some (i, w) =>
    s.walkFail c i w 6 w.pa (if w.inG then w.glevel else w.level) (if w.inG then 2 else if w.kind = .std then 0 else 1)
  | none => s

/-- An access error reaches a slot (R142): its accesses raise access faults once they are oldest; a queued store's is
raised at once. -/
def State.slotErr (s : State) (c i : Nat) (sl : Slot) : State :=
  let k := s.core c
  let k := { k with pipe := k.pipe.freeSlot i }
  let isSt (w : Wait) : Bool := w.acc.kind == .store
  let k := { k with pipe := { k.pipe with waits := (sl.merged.filter (fun w => !isSt w)).foldl (fun l w => insertWait l { w with err := some sl.line }) k.pipe.waits } }
  let s := (s.setCore c k).walkErr c sl.line
  let k := s.core c
  match k.pipe.storeQ with
  | e :: _ =>
    if (accLines e.acc).contains sl.line ∧ (sl.kind = .unc → sl.merged.any isSt) then
      let s := s.setCore c k.popStore
      (if k.awake then s.faultAt c 7 (accVa e.acc sl.line) { acc := e.acc, pc := e.pc } else s).goOn c
    else s.goOn c
  | [] => s.goOn c

/-- WB_PULL at a writeback entry (R173, R499). -/
def State.slotPull (s : State) (c i : Nat) (sl : Slot) (m : Msg) : State :=
  let sl := { sl with htx := m.hdr.htx, dst := m.hdr.src, dpkg := m.hdr.srcPkg }
  let s := if sl.kind = .keep then s.l2Check c sl.line else s
  let k := s.core c
  let k' := { k with pipe := k.pipe.freeSlot i }
  let kept := match k.pipe.find2 sl.line with | some e => if e.st.dirty then some e else none | none => none
  if sl.kind = .keep then
    match kept with
    | some e => ((s.slotSend c i sl .wbData e.data 0 e.poison).setCore c (k'.setLine sl.line (if e.st = .m then .e else .s))).goOn c
    | none => ((s.slotSend c i sl .wbCancel 0 0 false).setCore c k').goOn c
  else match sl.wb with
    | some (d, _, pz) => ((s.slotSend c i sl .wbData d 0 pz).setCore c k').goOn c
    | none => ((s.slotSend c i sl .wbCancel 0 0 false).setCore c k').goOn c

/-- WR_PULL at an uncached write or AMO (R171). -/
def State.slotWrite (s : State) (c i : Nat) (sl : Slot) (m : Msg) : State :=
  match sl.merged with
  | [] => s
  | w :: _ =>
    let a := w.acc
    let sl := { sl with htx := m.hdr.htx, dst := m.hdr.src, dpkg := m.hdr.srcPkg }
    let k := s.core c
    let s := s.setCore c { k with pipe := k.pipe.setSlot i sl }
    if a.kind = .amo then s.slotSend c i sl .ncWData (amoOperand a) 0 false
    else match (accPieces a)[a.part]? with
      | none => s
      | some p =>
        let v := a.data.toNat / 2 ^ (8 * p.2.1) % 2 ^ (8 * p.2.2)
        s.slotSend c i sl .ncWData (placeInLine v (p.1 % 64)) (byteMask (p.1 % 64) p.2.2) false

/-! ## Messages to requesters -/

/-- A message meets the slot it answers. -/
def State.toSlot (s : State) (c i : Nat) (sl : Slot) (m : Msg) : State :=
  match m.op, sl.kind with
  | .ncRData, .unc => s.ncGot c i sl m.data m.hdr.poison (sourceOf m) false
  | .goDone, .unc => s.ncDone c i sl false
  | .goDone, .cbo => s.ncDone c i sl false
  | .wrPull, .unc => s.slotWrite c i sl m
  | .wrPull, .notch => s.notchData c i sl m
  | .goDone, .notch => (s.notchWritten c i).goOn c
  | .err, .notch => (s.notchFailed c i).goOn c
  | .wbPull, .evict => s.slotPull c i sl m
  | .wbPull, .keep => s.slotPull c i sl m
  | .wbStale, .evict => let k := s.core c; (s.setCore c { k with pipe := k.pipe.freeSlot i }).goOn c
  | .wbStale, .keep => let k := s.core c; (s.setCore c { k with pipe := k.pipe.freeSlot i }).goOn c
  | .err, .evict => s
  | .err, .keep => s
  | .err, _ => s.slotErr c i sl
  | .goU, .miss => s.slotGo c i sl m
  | .goU, .pref => s.slotGo c i sl m
  | .dataS, .miss | .dataF, .miss | .dataE, .miss | .dataM, .miss => s.slotData c i sl m
  | .dataS, .pref | .dataF, .pref | .dataE, .pref | .dataM, .pref => s.slotData c i sl m
  | _, _ => s

/-- The domain of an agent takes messages: its frame runs (R185). -/
def State.domainLive (s : State) (a : Nat) : Bool := agentOk a && !(s.frame (s.frameOfAgent a)).halted

/-- A message for a Plumb bridge: the end of a preload of the bay that its tag names (R138), or one for an access of a ring. -/
def State.bridgeMsg (s : State) (m : Msg) : State :=
  if 1024 ≤ m.hdr.tag then s.ncMsg m
  else match m.op with
  | .ncRData | .err => s.preloaded m.hdr.tag m.hdr.line
  | _ => s

/-- A message for a requester arrives: at a core's slot, at a port's inbound request or its IOMMU, or at a Plumb bridge. A notch that waits for
a slot takes one that is free now. -/
def State.toRequester (s : State) (m : Msg) : State :=
  match s.arrive m with
  | (s, none) => s
  | (s, some m) =>
  if !s.domainLive m.hdr.dst ∨ m.hdr.dstPkg ≠ s.ownPkg then s
  else if m.hdr.dst < 12 then
    match s.slotOf m with
    | some (c, i, sl) => (s.toSlot c i sl m).notchSend c
    | none => s
  else if 32 ≤ m.hdr.dst ∧ m.hdr.dst < 40 then (if 1024 ≤ m.hdr.tag then s.ncMsg m else s.inbMsg (m.hdr.dst - 32) m)
  else if 48 ≤ m.hdr.dst then s.bridgeMsg m
  else s

/-- DATA_S (R170). -/
def execDataS (h : Hdr) (data : Line) (s : State) : Res := .next (s.toRequester { op := .dataS, hdr := h, data := data })
/-- DATA_F (R170). -/
def execDataF (h : Hdr) (data : Line) (s : State) : Res := .next (s.toRequester { op := .dataF, hdr := h, data := data })
/-- DATA_E (R170). -/
def execDataE (h : Hdr) (data : Line) (s : State) : Res := .next (s.toRequester { op := .dataE, hdr := h, data := data })
/-- DATA_M (R170). -/
def execDataM (h : Hdr) (data : Line) (s : State) : Res := .next (s.toRequester { op := .dataM, hdr := h, data := data })
/-- GO_U (R170). -/
def execGoU (h : Hdr) (s : State) : Res := .next (s.toRequester { op := .goU, hdr := h })
/-- WB_PULL (R173, R499). -/
def execWbPull (h : Hdr) (s : State) : Res := .next (s.toRequester { op := .wbPull, hdr := h })
/-- WB_STALE (R173, R499). -/
def execWbStale (h : Hdr) (s : State) : Res := .next (s.toRequester { op := .wbStale, hdr := h })

/-! ## Snoops to studs -/

/-- A snoop arrives at a stud, or at the purlin agent of its frame (R169, R172, R182). -/
def State.toHolder (s : State) (m : Msg) : State :=
  match s.arrive m with
  | (s, none) => s
  | (s, some m) =>
    if !s.domainLive m.hdr.dst ∨ m.hdr.dstPkg ≠ s.ownPkg then s
    else s.snoopStuds m (s.snoopScope m.hdr.dst) m.hdr.dst

/-- SNP_FWD_S (R172). -/
def execSnpFwdS (h : Hdr) (s : State) : Res := .next (s.toHolder { op := .snpFwdS, hdr := h })
/-- SNP_FWD_U (R172). -/
def execSnpFwdU (h : Hdr) (s : State) : Res := .next (s.toHolder { op := .snpFwdU, hdr := h })
/-- SNP_INV (R172). -/
def execSnpInv (h : Hdr) (s : State) : Res := .next (s.toHolder { op := .snpInv, hdr := h })
/-- SNP_CLEAN (R172). -/
def execSnpClean (h : Hdr) (s : State) : Res := .next (s.toHolder { op := .snpClean, hdr := h })
/-- SNP_FLUSH (R172). -/
def execSnpFlush (h : Hdr) (s : State) : Res := .next (s.toHolder { op := .snpFlush, hdr := h })
/-- SNP_DROP (R172). -/
def execSnpDrop (h : Hdr) (s : State) : Res := .next (s.toHolder { op := .snpDrop, hdr := h })

end Sys2Proof.Machine
end

