-- ==== Sys2Proof/Machine/HomeStore.lean ====
section
/-! DEFINITION. What a home keeps: the directory (R159, R175 to R177, R180), the bay cache with its victims, quotas and
locked ways (R129 to R134, R139, R144 to R153), the victim buffer (R131), and its planted errors (R154, R184). -/

namespace Sys2Proof.Machine

/-! ## The directory -/

/-- Bit of a package in PV: j stands for package (own + 1 + j) mod 8 (R175). -/
def State.pvBit (s : State) (pkg : Nat) : Nat := (pkg + 16 - s.ownPkg - 1) % 8
/-- The package of a PV bit. -/
def State.pvPkg (s : State) (j : Nat) : Nat := (s.ownPkg + 1 + j) % 8

/-- The entry records a holder: a stud, or a package. -/
def State.recorded (s : State) (e : DirEnt) (stud pkg : Nat) : Bool :=
  if pkg = s.ownPkg then bitOf e.sv stud else bitOf e.pv (s.pvBit pkg)
/-- The entry with one holder more. -/
def State.addHolder (s : State) (e : DirEnt) (stud pkg : Nat) : DirEnt :=
  if pkg = s.ownPkg then { e with sv := e.sv ||| 2 ^ stud } else { e with pv := e.pv ||| 2 ^ s.pvBit pkg }
/-- OWN_STUD and OWN_PKG name a holder (R175). -/
def State.ownerIs (s : State) (e : DirEnt) (stud pkg : Nat) : Bool :=
  if pkg = s.ownPkg then e.own == stud && e.ownPkg == pkg else e.own == 14 && e.ownPkg == pkg
/-- A holder named as owner or forwarder. -/
def State.nameOwner (s : State) (e : DirEnt) (stud pkg : Nat) : DirEnt :=
  { e with own := if pkg = s.ownPkg then stud else 14, ownPkg := pkg }
/-- No owner or forwarder. -/
def DirEnt.noOwner (e : DirEnt) : DirEnt := { e with own := 15 }

/-- A new entry with one holder, in state U (R170). -/
def State.dirU (s : State) (h line stud pkg : Nat) : DirEnt :=
  s.nameOwner (s.addHolder { line := line, st := 1, bench := h < 12 && isBenchAddr (line * 64) } stud pkg) stud pkg

/-- A holder that answered RSP_NOTHELD leaves the entry (R180); none where no holder is left. -/
def State.dropHolder (s : State) (e : DirEnt) (stud pkg : Nat) : Option DirEnt :=
  let d := if pkg = s.ownPkg then { e with sv := e.sv &&& (2 ^ 12 - 1 - 2 ^ stud) }
    else { e with pv := e.pv &&& (2 ^ 7 - 1 - 2 ^ s.pvBit pkg) }
  let d := if s.ownerIs e stud pkg then { d with own := 15, st := 0 } else d
  if d.sv = 0 ∧ d.pv = 0 then none else some d

/-- Recorded holders: stud agents of this package, then packages by their purlin agent (R182). -/
def State.dirHolders (s : State) (h : Nat) (e : DirEnt) : List (Nat × Nat) :=
  let agent := 32 + (portsOf s.mode (s.frameOfHome h)).headD 0
  ((List.range 12).filter (bitOf e.sv)).map (fun n => (n, s.ownPkg)) ++
    ((List.range 7).filter (bitOf e.pv)).map (fun j => (agent, s.pvPkg j))

/-- The owner or forwarder as a snoop target. -/
def State.dirOwner (s : State) (h : Nat) (e : DirEnt) : Option (Nat × Nat) :=
  if e.own < 12 then some (e.own, s.ownPkg)
  else if e.own = 14 then some (32 + (portsOf s.mode (s.frameOfHome h)).headD 0, e.ownPkg)
  else none

/-- Cost of a directory victim (R177). -/
def DirEnt.cost (e : DirEnt) : Nat := (if e.st = 0 then 0 else 16) + popCount e.sv + 4 * popCount e.pv

/-- A way is pinned: an open or GRANTED transaction of its line, or a reservation (R177). -/
def Home.pinned (h : Home) (k : Nat) (e : DirEnt) : Bool :=
  h.txs.any (fun t => t.2.line == e.line) || h.resv.any (fun r => r.1 == k)

/-- What the search for a way finds (R177). -/
inductive DirWay where
  | free (k : Nat)
  | victim (k : Nat) (e : DirEnt)
  | none
deriving DecidableEq, Repr

/-- An invalid way, the lowest first, else the cheapest way that is not pinned, ties by the rotating pointer. -/
def Home.dirWay (h : Home) (hi set : Nat) : DirWay :=
  let w := dirWays hi
  let keys := (List.range w).map (set * w + ·)
  match keys.find? (fun k => (Tab.find h.dir k).isNone && !h.resv.any (fun r => r.1 == k)) with
  | some k => .free k
  | none =>
    let cand := keys.filterMap (fun k => match Tab.find h.dir k with
      | some e => if h.pinned k e then none else some (k, e)
      | none => none)
    let low := cand.foldl (fun m c => min m c.2.cost) 1000
    let ties := cand.filter (fun c => c.2.cost == low)
    match ties.find? (fun c => decide (h.dirPtr ≤ c.1 % w)), ties with
    | some c, _ => .victim c.1 c.2
    | none, c :: _ => .victim c.1 c.2
    | none, [] => .none

/-! ## DRAM as the home's memory -/

/-- A line put into the victim buffer; none while all 64 entries are in use (R131). A second write of a line replaces
the first. -/
def Home.toVictim (h : Home) (v : Victim) : Option Home :=
  if h.victims.any (·.line == v.line) then
    some { h with victims := h.victims.map (fun x => if x.line = v.line then v else x) }
  else if h.victims.length < 64 then some { h with victims := h.victims ++ [v] }
  else none

/-! ## The bay cache -/

/-- The way is locked (R138). -/
def Home.lockedWay (h : Home) (k : Nat) : Bool := decide (16 - h.lockW ≤ k % 16)
/-- The line lies in a locked range. -/
def Home.lockedLine (h : Home) (line : Nat) : Bool :=
  h.locked.any (fun r => decide (r.1 ≤ line * 64) && decide (line * 64 < r.1 + r.2))

/-- An error of a bay line is met when its data is read or the patrol comes to it (R154, R334): what the line then is. Codes 1 and 2 are
planted errors, 3 and 4 such as arise. -/
def State.bayCheck (s : State) (h line : Nat) : State :=
  match s.bayFind h line with
  | some (k, e) =>
    if e.bad = 0 then s
    else
      let b := s.home h
      let pa := some (line * 64)
      let inj := decide (e.bad ≤ 2)
      if e.bad % 2 = 1 then
        (s.setHome h { b with cache := Tab.set b.cache k { e with bad := 0 } }).report (bayEvent s 0 0x10 h false pa inj)
      else if e.dirty then
        (s.setHome h { b with cache := Tab.set b.cache k { e with bad := 0, poison := true } }).report
          (bayEvent s 1 0x10 h true pa inj)
      else
        let d := s.memNow h line
        let kept := Tab.set b.cache k { e with bad := 0, data := d.1, poison := d.2 }
        let b := { b with cache := if b.lockedWay k then kept else Tab.erase b.cache k }
        (s.setHome h b).report (bayEvent s 0 0x10 h true pa inj)
  | none => s

/-- A command of Plumb empties the way: no fill takes it (R138, R143). -/
def Home.emptied (h : Home) (w : Nat) : Bool := h.work.elim false (fun x => x.all && !x.done && bitOf x.ways w)

/-- Ways of a set that a fill may take (R133). -/
def Home.eligible (h : Home) (set : Nat) : List Nat :=
  ((List.range 16).filter (fun w => decide (h.bench ≤ w) && decide (w < 16 - h.lockW) && !h.emptied w)).map (set * 16 + ·) |>.filter
    (fun k => match Tab.find h.cache k with
      | some e => !h.txs.any (fun t => t.2.line == e.line && t.2.st != .waiting)
      | none => true)

/-- The quota of an RCID in lines (R151). -/
def Home.quota (h : Home) (rcid : Nat) : Nat :=
  popCount (Tab.get h.cap.masks 0xFFFF rcid) * (16 - h.bench - h.lockW) * 65536 / 16

/-- over_quota (R151): an RCID with the full mask never is. -/
def Home.overQuota (h : Home) (rcid : Nat) : Bool :=
  Tab.get h.cap.masks 0xFFFF rcid != 0xFFFF && decide (h.quota rcid ≤ h.countLines (·.rcid == rcid))

/-- choose_victim of R133: the way, and the home with its LFSR stepped after a choice. -/
def Home.chooseVictim (h : Home) (set rcid : Nat) : Option Nat × Home :=
  let elig := h.eligible set
  let full := h.overQuota rcid
  let inv := elig.filter (fun k => (Tab.find h.cache k).isNone)
  let own := elig.filter (fun k => (Tab.find h.cache k).elim false (fun e => e.rcid == rcid))
  if !full ∧ inv ≠ [] then (inv.head?, h)
  else
    let l := if full then own else elig
    match l with
    | [] => (none, h)
    | _ => (l[h.lfsr.toNat % l.length]?, { h with lfsr := lfsrStep h.lfsr })

/-- The victim-buffer entry a bay line leaves with. -/
def BayLine.victim (e : BayLine) : Victim := { line := e.line, data := e.data, poison := e.poison, rcid := e.rcid, mcid := e.mcid }

/-- What putting a line into the bay cache came to. -/
inductive Placed where
  | done (s : State)
  /-- choose_victim returned none: the line is not allocated (R134). -/
  | skipped (s : State)
  /-- It waits for a victim buffer entry (R131). -/
  | wait

/-- A line allocated in the bay cache (R131, R133, R152). -/
def State.bayAlloc (s : State) (h : Nat) (e : BayLine) : Placed :=
  let set := s.baySetOf h (e.line * 64)
  match (s.home h).chooseVictim set e.rcid with
  | (none, b) => .skipped (s.setHome h b)
  | (some k, _) =>
    -- the victim's data is read: a planted error is met first (R334)
    let s := match Tab.find (s.home h).cache k with
      | some old => if old.dirty then s.bayCheck h old.line else s
      | none => s
    let b := ((s.home h).chooseVictim set e.rcid).2
    match Tab.find b.cache k with
    | some old =>
      if old.dirty then
        match b.toVictim old.victim with
        | some b => .done (s.setHome h { b with cache := Tab.set b.cache k e })
        | none => .wait
      else .done (s.setHome h { b with cache := Tab.set b.cache k e })
    | none => .done (s.setHome h { b with cache := Tab.set b.cache k e })

/-- A line put into a locked way of its set, out of any other way (R138); a line that stands in one stays there. -/
def State.bayLock (s : State) (h : Nat) (e : BayLine) : State :=
  let set := s.baySetOf h (e.line * 64)
  let b := s.home h
  let ways := ((List.range 16).filter (fun w => decide (16 - b.lockW ≤ w))).map (set * 16 + ·)
  let put (cache : Map BayLine) (e : BayLine) : State :=
    match ways.find? (fun k => (Tab.find cache k).elim true (fun x => !b.lockedLine x.line)) with
    | some k => s.setHome h { b with cache := Tab.set cache k e }
    | none => s
  match s.bayFind h e.line with
  | some (k, o) =>
    if b.lockedWay k then s
    else put (Tab.erase b.cache k) { e with dirty := o.dirty, data := o.data, poison := o.poison }
  | none => put b.cache e

/-! ## Writing the home's copy (R131, R145, R146, R171, R298, R299) -/

/-- A write into the home's copy. -/
structure HWrite where
  line : Nat
  data : Line
  poison : Bool
  rcid : Nat := 0
  mcid : Nat := 0
  en : Bool := true
  wt : Bool := false
  /-- A writeback, which allocates; an uncached store does not. -/
  alloc : Bool := true

def HWrite.victim (w : HWrite) : Victim := { line := w.line, data := w.data, poison := w.poison, rcid := w.rcid, mcid := w.mcid }

/-- The write goes to DRAM through the victim buffer; none while it is full. -/
def State.toDram (s : State) (h : Nat) (w : HWrite) : Option State := ((s.home h).toVictim w.victim).map (s.setHome h)

/-- The device of a CXL line is reached: its link is up. -/
def State.cxlUp (s : State) (h line : Nat) : Bool :=
  match s.cxlSlice h (line * 64) with
  | some (i, _) => !(s.home h).linkDown.contains i
  | none => false

/-- A write into the home's copy; none while it must wait for a victim buffer entry. -/
def State.homeWrite (s : State) (h : Nat) (w : HWrite) : Option State :=
  let s := if w.en ∨ isBenchAddr (w.line * 64) then s.wakeArray h else s
  if 12 ≤ h then
    if s.cxlUp h w.line then some (s.setMemLine (s.lineKey h (w.line * 64)) w.data w.poison)
    else some (s.report { cls := 3, src := 7, code := 0x2D, inst := h - 12, pa := some (w.line * 64),
                          frame := some (s.frameOfHome h) })
  else if isBenchAddr (w.line * 64) then some (s.setMemLine (s.lineKey h (w.line * 64)) w.data w.poison)
  else if !w.en then s.toDram h w
  else match s.bayFind h w.line with
    | some (k, e) =>
      let b := s.home h
      let e := { e with data := w.data, poison := w.poison, bad := 0 }
      if w.wt then (b.toVictim w.victim).map (fun b => s.setHome h { b with cache := Tab.set b.cache k e })
      else some (s.setHome h { b with cache := Tab.set b.cache k { e with dirty := true } })
    | none =>
      if w.wt ∨ !w.alloc then s.toDram h w
      else match s.bayAlloc h { line := w.line, data := w.data, dirty := true, poison := w.poison, rcid := w.rcid, mcid := w.mcid } with
        | .done s => some s
        | .skipped s => s.toDram h w
        | .wait => none

/-- The home's dirty copy of a line is written to DRAM and kept clean; none while it must wait (R71, R171). -/
def State.bayClean (s : State) (h line : Nat) : Option State :=
  let s := s.wakeArray h
  match s.bayFind h line with
  | some (_, e0) =>
    let s := if e0.dirty then s.bayCheck h line else s
    match s.bayFind h line with
    | some (k, e) =>
      if !e.dirty then some s
      else ((s.home h).toVictim e.victim).map (fun b => s.setHome h { b with cache := Tab.set b.cache k { e with dirty := false } })
    | none => some s
  | none => some s

/-- The bay copy of a line is discarded; a locked line is read again from DRAM (R139). -/
def State.bayDiscard (s : State) (h line : Nat) : State :=
  let s := s.wakeArray h
  match s.bayFind h line with
  | some (k, e) =>
    let b := s.home h
    if b.lockedWay k then
      let d := s.memNow h line
      s.setHome h { b with cache := Tab.set b.cache k { e with data := d.1, poison := d.2, dirty := false, bad := 0 } }
    else s.setHome h { b with cache := Tab.erase b.cache k }
  | none => s

/-- cbo.flush at the bay: written if dirty, then invalidated; a locked line stays, clean (R139, R171). -/
def State.bayFlush (s : State) (h line : Nat) : Option State :=
  (s.bayClean h line).map (fun s => match s.bayFind h line with
    | some (k, _) => if (s.home h).lockedWay k then s else s.bayDiscard h line
    | none => s)

end Sys2Proof.Machine
end

