-- ==== Sys2Proof/Machine/BayWork.lean ====
section
/-! DEFINITION. A home's transactions with their messages and snoops (R161, R162, R167, R168, R182), and the work of Plumb's commands on a bay's arrays: flushes through the victim buffer (R131, R333), what locks
their ways (R138), and the change of a bay's bench (R143). It goes on as the home does. -/

namespace Sys2Proof.Machine

/-! ## Transactions -/

def State.tx (s : State) (h i : Nat) : Option HTx := Tab.find (s.home h).txs i
def State.setTx (s : State) (h i : Nat) (t : HTx) : State :=
  let b := s.home h
  s.setHome h { b with txs := Tab.set b.txs i t }
/-- A transaction table entry becomes free (R167); its way reservation ends with it. -/
def State.endTx (s : State) (h i : Nat) : State :=
  let b := s.home h
  s.setHome h { b with txs := Tab.erase b.txs i, order := b.order.filter (· != i), resv := b.resv.filter (fun r => r.2 != i),
                       dirQ := b.dirQ.filter (· != i) }

/-- The header of a home's message to the requester of a transaction (R162). -/
def State.homeHdr (s : State) (h i : Nat) (t : HTx) : Hdr :=
  { src := agentOfHome h, dst := t.agent, srcPkg := s.ownPkg, dstPkg := t.pkg, tag := t.tag, reqAgent := t.agent,
    reqPkg := t.pkg, htx := i, line := t.raw, rcid := t.rcid, mcid := t.mcid }

/-- A message of a home that carries the line's data. -/
def homeData : MsgOp → Bool
  | .dataS | .dataF | .dataE | .ncRData => true
  | _ => false

/-- A message to the requester. -/
def State.reply (s : State) (h i : Nat) (t : HTx) (op : MsgOp) (go dirty : Bool) (data : Line) : State :=
  s.route (s.frameOfHome h)
    { op := op, hdr := { s.homeHdr h i t with go := go, dirty := dirty, poison := t.poison && homeData op }, data := data,
      source := if homeData op then t.source else 0 }

/-! ## Snoops (R161, R168, R182) -/

/-- A GRANTED entry of the line belongs to the stud or package a snoop goes to (R168). -/
def State.snoopHeld (s : State) (h i : Nat) (m : Msg) : Bool :=
  (s.home h).txs.any (fun e => e.1 != i && e.2.st == .granted && e.2.raw == m.hdr.line && e.2.pkg == m.hdr.dstPkg &&
    (m.hdr.dstPkg != s.ownPkg || e.2.agent == m.hdr.dst))

/-- Snoops of a transaction that may go now are sent; the others stay in HOLD. -/
def State.sendHeld (s : State) (h i : Nat) : State :=
  match s.tx h i with
  | none => s
  | some t =>
    let s := s.setTx h i { t with hold := [] }
    t.hold.foldl (fun s m =>
      let b := s.home h
      let used := Tab.get b.snpCred 0 m.hdr.dst
      if s.snoopHeld h i m ∨ (m.hdr.dstPkg = s.ownPkg ∧ 64 ≤ used) then
        match s.tx h i with
        | some t => s.setTx h i { t with hold := t.hold ++ [m] }
        | none => s
      else
        let s := if m.hdr.dstPkg = s.ownPkg then s.setHome h { b with snpCred := Tab.put b.snpCred 0 m.hdr.dst (used + 1) } else s
        s.route (s.frameOfHome h) m) s

/-- Snoops built for a transaction: PEND counts them all. -/
def State.addSnoops (s : State) (h i : Nat) (t : HTx) (l : List (MsgOp × Nat × Nat)) : State :=
  let ms := l.map (fun x => ({ op := x.1, hdr := { s.homeHdr h i t with dst := x.2.1, dstPkg := x.2.2 } } : Msg))
  (s.setTx h i { t with pend := t.pend + l.length, hold := t.hold ++ ms }).sendHeld h i

/-! ## Flushes (R131, R139, R333) -/

/-- The line in a place of the array is one that the work flushes. -/
def BayWork.takes (w : BayWork) (k : Nat) (e : BayLine) : Bool :=
  bitOf w.ways (k % 16) && decide (w.lo ≤ e.line * 64) && decide (e.line * 64 < w.hi) && (e.dirty || w.all)

/-- One line of bay b flushed: a dirty one enters the victim buffer, if that has room; the line is invalidated. A locked one
stays, clean (R139), unless its way is being emptied. -/
def State.flushPlace (s : State) (b line : Nat) (w : BayWork) : State :=
  let s := if (s.bayFind b line).elim false (fun x => x.2.dirty) then s.bayCheck b line else s
  match s.bayFind b line with
  | none => s
  | some (k, e) =>
    let h := s.home b
    let left (h : Home) : Home :=
      { h with cache := if h.lockedWay k ∧ !w.all then Tab.set h.cache k { e with dirty := false } else Tab.erase h.cache k }
    if !w.takes k e then s
    else if e.dirty then
      match h.toVictim e.victim with
      | some h => s.setHome b { left h with work := h.work.map (fun w => { w with count := w.count + 1 }) }
      | none => s
    else s.setHome b (left h)

/-- The lines of bay b that the work still has to flush. -/
def State.toFlush (s : State) (b : Nat) (w : BayWork) : List Nat :=
  ((s.home b).cache.filter (fun e => w.takes e.1 e.2)).map (·.2.line)

/-- A flushed line waits in the victim buffer for the write queue, where its write is performed (R227). -/
def State.flushWaits (s : State) (b : Nat) (w : BayWork) : Bool :=
  (s.home b).victims.any (fun v => decide (w.lo ≤ v.line * 64) && decide (v.line * 64 < w.hi))

/-! ## Bench memory (R143) -/

/-- The home has finished every transaction on a bench line. -/
def State.benchIdle (s : State) (b : Nat) : Bool := (s.home b).txs.all (fun t => !isBenchAddr (t.2.line * 64))

/-- The directory entries of bay b whose lines a bench of w ways gives up. -/
def State.benchHeld (s : State) (b w : Nat) : List (Nat × DirEnt) :=
  let h := s.home b
  h.dir.filter (fun e => decide (benchBase b + w * 0x400000 ≤ e.2.line * 64) && decide (e.2.line * 64 < benchBase b + h.bench * 0x400000))

/-- A back-invalidation of a released bench line: SNP_DROP to every holder, whatever they hold discarded (R143, R179). -/
def State.dropBench (s : State) (b k : Nat) (e : DirEnt) : State :=
  let h := s.home b
  match Tab.freeKey h.txs 0 1024 with
  | none => s
  | some j =>
    let t : HTx := { st := .evicting, op := .cboInval, line := e.line, raw := s.rawLine b e.line, agent := agentOfHome b, pkg := s.ownPkg,
                     dirway := some k }
    (s.setHome b { h with txs := Tab.set h.txs j t, order := h.order ++ [j] }).addSnoops b j t
      ((s.dirHolders b e).map (fun x => (.snpDrop, x.1, x.2)))

/-- A bay's bench set to w ways, whose lines have been flushed or dropped: what ways given back held is lost, new ways read
zero (R143). -/
def State.setBench (s : State) (b w : Nat) : State :=
  let h := s.home b
  let outKey (k : Nat) : Bool := decide (k < keyBench b (w * 0x400000)) || decide (keyBench b (h.bench * 0x400000) ≤ k)
  let s := s.setHome b { h with bench := w }
  { s with mem := s.mem.filter (fun c => outKey c.1), memPoison := s.memPoison.filter outKey }

/-! ## The work goes on -/

/-- What follows a flush that has emptied its ways: the bench is set, or the ways are locked and their lines asked for. -/
def State.afterFlush (s : State) (b : Nat) (w : BayWork) : State :=
  match w.bench with
  | some n =>
    match s.benchHeld b n with
    | [] => (s.setBench b n).setWork b { w with done := true, flushed := true }
    | held => held.foldl (fun s e => s.dropBench b e.1 e.2) s
  | none =>
    if w.lockW = 0 then (if s.flushWaits b w then s else s.setWork b { w with done := true, flushed := true })
    else
      let h := s.home b
      let w := { w with flushed := true }
      (s.setHome b { h with lockW := w.lockW, locked := h.locked ++ [(w.next * 64, (w.end_ - w.next) * 64)], work := some w }).preload b w

/-- The work of bay b goes as far as it can. A change of the bench waits until the home has finished its bench
transactions (R143). -/
def State.workRun (s : State) (b : Nat) : State :=
  match (s.home b).work with
  | none => s
  | some w =>
    if w.done ∨ (w.bench.isSome ∧ !s.benchIdle b) then s
    else if w.flushed then s.preload b w
    else
      let s := (s.toFlush b w).foldl (fun s l => s.flushPlace b l w) (s.wakeArray b)
      match (s.home b).work with
      | none => s
      | some w => if s.toFlush b w = [] then s.afterFlush b w else s

/-- A command's work on bay b begins. -/
def State.beginWork (s : State) (b : Nat) (w : BayWork) : State := (s.setWork b w).workRun b

/-- The work of bay b is over, or is given up. -/
def State.endWork (s : State) (b : Nat) : State := s.setHome b { s.home b with work := none }

end Sys2Proof.Machine
end

