-- ==== Sys2Proof/Machine/Home.lean ====
section
/-! DEFINITION. A home's transactions from ordering to their end (R165 to R171, R177 to R182): their snoops, the data
they need, their grants and their directory updates; and the writes they make in the home's copy. -/

namespace Sys2Proof.Machine

/-! ## The line's data -/

/-- A bay miss register taken for a transaction (R135), with the line's data if it is there already. -/
def State.takeBmr (s : State) (h i : Nat) (t : HTx) (d : Option (Line × Bool)) : State :=
  let b := s.home h
  match b.bmrs.find? (fun e => e.2.line == t.line), Tab.freeKey b.bmrs 0 512 with
  | some (k, _), _ => s.setTx h i { t with bmr := some k }
  | none, none => s
  | none, some k =>
    let s := s.setHome h { b with bmrs := Tab.set b.bmrs k { line := t.line, htx := i, lock := t.op == .lockFill, data := d, order := t.no } }
    s.setTx h i { t with bmr := some k }

/-- The home's own copy brought into the buffer, or its read begun (R131, R135, R157). A preload takes a register whatever
holds the line (R138). -/
def State.fetchLine (s : State) (h i : Nat) : State :=
  match s.tx h i with
  | none => s
  | some t =>
    let la := t.line * 64
    let got (s : State) (d : Line × Bool) (src : Nat) : State :=
      if t.op = .lockFill then s.takeBmr h i t (some d) else s.setTx h i { t with buf := d.1, poison := d.2, have_ := true, source := src }
    if t.have_ ∨ t.bmr.isSome then s
    else if 12 ≤ h then
      let b := s.home h
      if !s.cxlUp h t.line then got s (0, true) 4
      else if b.cxlWait.any (fun e => e.2 == i) then s
      else s.setHome h { b with cxlWait := b.cxlWait ++ [(t.line, i)] }
    else if isBenchAddr la then got (s.wakeArray h) (s.memLine (s.lineKey h la)) 6
    else
      let s := if t.en then s.wakeArray h else s
      let s := if t.en then s.bayCheck h t.line else s
      let b := s.home h
      match b.victims.find? (fun v => v.line == t.line), (if t.en then s.bayFind h t.line else none) with
      | some v, none => got s (v.data, v.poison) 2
      | _, some (_, e) => got s (e.data, e.poison) 2
      | none, none => s.takeBmr h i t none

/-! ## Directory allocation (R177 to R179) -/

/-- A back-invalidation of a directory victim begins, in an entry of its own (R179). -/
def State.beginEvict (s : State) (h i k : Nat) (e : DirEnt) : State :=
  let b := s.home h
  match Tab.freeKey b.txs 0 (if h < 12 then 1024 else 256) with
  | none => s
  | some j =>
    let t : HTx := { st := .evicting, op := .cboFlush, line := e.line, raw := s.rawLine h e.line, agent := agentOfHome h,
                     pkg := s.ownPkg, dirway := some k, evictFor := some i, en := s.arrayEn h, wt := b.wt }
    let s := s.setHome h { b with txs := Tab.set b.txs j t, order := b.order ++ [j], resv := b.resv ++ [(k, i)],
                                  dirPtr := (k % dirWays h + 1) % dirWays h }
    s.addSnoops h j t ((s.dirHolders h e).map (fun x => (.snpFlush, x.1, x.2)))

/-- A way for the first holder of a transaction's line: reserved at once, or DIRWAIT (R177, R178). A request that finds the
queue of 64 full, and one that only lacks a table entry for its eviction, stays ACTIVE and asks again (log entry 34). A CXL home has no queue: its request waits in its entry (R157). -/
def State.allocDir (s : State) (h i : Nat) : State :=
  match s.tx h i with
  | none => s
  | some t =>
    let b := s.home h
    let set := s.dirSetOf h (t.line * 64)
    let full := (Tab.freeKey b.txs 0 (if h < 12 then 1024 else 256)).isNone
    let ahead := b.dirQ.any (fun j => j != i && b.dirQ.idxOf j < b.dirQ.idxOf i &&
      (match s.tx h j with | some u => s.dirSetOf h (u.line * 64) == set | none => false))
    let wait (s : State) : State :=
      let b := s.home h
      if b.dirQ.contains i ∨ t.st = .dirwait then s
      else if 12 ≤ h then s.setHome h { b with txs := Tab.set b.txs i { t with st := .dirwait } }
      else if 64 ≤ b.dirQ.length then s
      else s.setHome h { b with txs := Tab.set b.txs i { t with st := .dirwait }, dirQ := b.dirQ ++ [i] }
    let take (s : State) (k : Nat) : State :=
      let b := s.home h
      s.setHome h { b with dirQ := b.dirQ.filter (· != i), txs := Tab.set b.txs i { t with st := .active, dirway := some k } }
    if t.dirway.isSome then s
    else if ahead then wait s
    else match b.dirWay h set with
      | .free k => let s := take s k; let b := s.home h; s.setHome h { b with resv := b.resv ++ [(k, i)] }
      | .victim k e => if full then s else (take s k).beginEvict h i k e
      | .none => wait s

/-- The way reserved for a line is free and its eviction has ended (R179), or the line has its entry. -/
def State.dirReady (s : State) (h i : Nat) (t : HTx) : Bool :=
  (s.dirFind h t.line).isSome ||
    (match t.dirway with
    | some k => (Tab.find (s.home h).dir k).isNone && !(s.home h).txs.any (fun e => e.2.evictFor == some i)
    | none => false)

/-- The line's entry written: in its place, or in the reserved way. -/
def State.putDir (s : State) (h : Nat) (t : HTx) (e : DirEnt) : State :=
  match s.dirFind h t.line, t.dirway with
  | some (k, _), _ => s.setHome h ((s.home h).setDir k e)
  | none, some k => s.setHome h ((s.home h).setDir k e)
  | none, none => s

/-- The line's entry removed. -/
def State.clearDir (s : State) (h line : Nat) : State :=
  match s.dirFind h line with
  | some (k, _) => s.setHome h ((s.home h).dropDir k)
  | none => s

/-! ## The start of a transaction (R170, R171) -/

/-- The requesting core has lost the copy its UPG was sent for (R186); of another package's core the home knows the
directory only. -/
def State.lostCopy (s : State) (t : HTx) : Bool :=
  t.pkg == s.ownPkg && decide (t.agent < 12) && ((s.core (32 * t.agent + t.tag / 128)).pipe.find2 t.raw).isNone
/-- UPG is handled as such: state S or O with r's bit set (R170), and r's copy not invalidated since (R186). -/
def State.trueUpgrade (s : State) (t : HTx) (e : DirEnt) : Bool := e.st != 1 && s.recorded e t.agent t.pkg && !s.lostCopy t

/-- Snoops that supply data to the requester, by the directory entry, for a request op. -/
def State.readSnoops (s : State) (h : Nat) (e : DirEnt) (uniq : Bool) : List (MsgOp × Nat × Nat) :=
  let own := s.dirOwner h e
  let fwd : MsgOp := if uniq then .snpFwdU else .snpFwdS
  let named := e.st != 0 || !variantO s.mode
  let first := match own with | some x => if named then [(fwd, x.1, x.2)] else [] | none => []
  let rest := if uniq then ((s.dirHolders h e).filter (fun x => !(named && own == some x))).map (fun x => (.snpInv, x.1, x.2)) else []
  first ++ rest

/-- A transaction becomes ACTIVE: its snoops are built, its data and its way asked for. -/
def State.startTx (s : State) (h i : Nat) (t : HTx) : State :=
  let d := (s.dirFind h t.line).map (·.2)
  let t := { t with st := .active }
  let every (e : DirEnt) (op : MsgOp) : List (MsgOp × Nat × Nat) := (s.dirHolders h e).map (fun x => (op, x.1, x.2))
  let owner (e : DirEnt) : List (MsgOp × Nat × Nat) :=
    if e.st = 0 then [] else match s.dirOwner h e with | some x => [(.snpClean, x.1, x.2)] | none => []
  match d with
  | none =>
    match t.op with
    | .wb | .wbKeep => s.setTx h i { t with supply := false }
    | .rdS | .rdU | .upg => ((s.setTx h i { t with supply := true }).fetchLine h i).allocDir h i
    | .cboZero => (s.setTx h i t).allocDir h i
    | _ => s.setTx h i { t with supply := true }
  | some e =>
    match t.op with
    | .rdS => let l := s.readSnoops h e false; s.addSnoops h i { t with supply := l == [] } l
    | .rdU =>
      let l := s.readSnoops h e true
      s.addSnoops h i { t with supply := !l.any (fun x => x.1 == .snpFwdU) } l
    | .upg =>
      if s.trueUpgrade t e then s.addSnoops h i { t with upgrade := true, wasO := e.st == 2 } (every e .snpInv)
      else
        let l := s.readSnoops h e true
        s.addSnoops h i { t with supply := !l.any (fun x => x.1 == .snpFwdU) } l
    | .cboZero => s.addSnoops h i t (every e .snpDrop)
    | .wb | .wbKeep => s.setTx h i t
    | .wrNc | .atomNc | .cboFlush => s.addSnoops h i { t with supply := true } (every e .snpFlush)
    | .cboInval => s.addSnoops h i { t with supply := true } (every e .snpDrop)
    | _ => s.addSnoops h i { t with supply := true } (owner e)

/-! ## The end of a transaction -/

/-- The directory after RD_S (R170). -/
def State.dirAfterRdS (s : State) (h : Nat) (t : HTx) : DirEnt :=
  match s.dirFind h t.line with
  | none => s.dirU h t.line t.agent t.pkg
  | some (_, e) =>
    let g := s.addHolder e t.agent t.pkg
    if variantO s.mode then
      (if e.st = 2 ∨ (e.st = 1 ∧ t.dirty) then { g with st := 2 } else { g.noOwner with st := 0 })
    else s.nameOwner { g with st := 0 } t.agent t.pkg

/-- The data opcode of the home's own grant for RD_S (R170). -/
def State.grantOp (s : State) (h : Nat) (t : HTx) : MsgOp :=
  if (s.dirFind h t.line).isNone then .dataE else if variantO s.mode then .dataS else .dataF

/-- The grant has been sent: GRANTED until COMP_ACK (R168). -/
def State.granted (s : State) (h i : Nat) (t : HTx) : State :=
  let b := s.home h
  let s := s.setHome h { b with txs := Tab.set b.txs i { t with st := .granted, hold := [], bmr := none }, resv := b.resv.filter (fun r => r.2 != i) }
  if t.acked then s.endTx h i else s

/-- O becomes S, other states stay (RD_NC, CBO_CLEAN). -/
def State.oToS (s : State) (h line : Nat) : State :=
  match s.dirFind h line with
  | some (k, e) => if e.st = 2 then s.setHome h ((s.home h).setDir k { e.noOwner with st := 0 }) else s
  | none => s

/-- The home write of a transaction's buffer. -/
def HTx.hwrite (t : HTx) (alloc : Bool) : HWrite :=
  { line := t.line, data := t.buf, poison := t.poison, rcid := t.rcid, mcid := t.mcid, en := t.en, wt := t.wt, alloc := alloc }

/-- No write of the line waits for the write queue (R72). -/
def State.written (s : State) (h line : Nat) : Bool := !(s.home h).victims.any (fun v => v.line == line)

/-- RD_S, RD_U, UPG and CBO_ZERO with their responses in: the grant, if the data and the way are there. -/
def State.finishGrant (s : State) (h i : Nat) (t : HTx) : State :=
  let uniq := s.dirU h t.line t.agent t.pkg
  let done := t.pend = 0 ∧ t.snpData ≠ 1
  match t.op with
  | .rdS =>
    if t.fwd then (if done then (s.putDir h t (s.dirAfterRdS h t)).granted h i t else s)
    else if done ∧ t.have_ ∧ s.dirReady h i t then
      let e := s.dirAfterRdS h t
      ((s.reply h i t (s.grantOp h t) true false t.buf).putDir h t e).granted h i t
    else s
  | .cboZero => if done ∧ s.dirReady h i t then ((s.reply h i t .goU false false 0).putDir h t uniq).granted h i t else s
  | _ =>
    if t.upgrade then (if done ∧ s.dirReady h i t then ((s.reply h i t .goU false t.wasO 0).putDir h t uniq).granted h i t else s)
    else if t.fwd then (if done ∧ s.dirReady h i t then ((s.reply h i t .goU false false 0).putDir h t uniq).granted h i t else s)
    else if done ∧ t.have_ ∧ s.dirReady h i t then ((s.reply h i t .dataE true false t.buf).putDir h t uniq).granted h i t
    else s

/-- A writeback: pulled from the recorded owner, or stale; its data goes into the home's copy (R171, R173). -/
def State.finishWb (s : State) (h i : Nat) (t : HTx) : State :=
  match s.dirFind h t.line with
  | none => if t.pulled then s else (s.reply h i t .wbStale false false 0).endTx h i
  | some (k, e) =>
    if t.wrote then
      match s.homeWrite h (t.hwrite true) with
      | none => s
      | some s =>
        let s := if e.st = 2 then s.setHome h ((s.home h).setDir k { e.noOwner with st := 0 })
          else if t.op = .wbKeep then s else s.setHome h ((s.home h).dropDir k)
        s.endTx h i
    else if t.pulled then s
    else if e.st ≠ 0 ∧ s.ownerIs e t.agent t.pkg then (s.reply h i t .wbPull false false 0).setTx h i { t with pulled := true }
    else (s.reply h i t .wbStale false false 0).endTx h i

/-- RD_NC and LOCK_FILL (R138, R171). -/
def State.finishRdNc (s : State) (h i : Nat) (t : HTx) : State :=
  if !t.have_ ∨ t.bmr.isSome then s
  else
    let s := if t.op = .lockFill then
        s.bayLock h { line := t.line, data := t.buf, poison := t.poison, rcid := t.rcid, mcid := t.mcid }
      else s
    let s := if t.op = .lockFill then s else s.oToS h t.line
    (s.reply h i t .ncRData false false t.buf).endTx h i

/-- WR_NC and ATOM_NC (R171, R295): operands pulled, the line written, and the requester answered. -/
def State.finishWrNc (s : State) (h i : Nat) (t : HTx) : State :=
  if t.wrote then
    match s.homeWrite h (t.hwrite false) with
    | none => s
    | some s =>
      let s := s.clearDir h t.line
      (if t.op = .atomNc then s.reply h i t .ncRData false false t.old else s.reply h i t .goDone false false 0).endTx h i
  else if t.pulled then s
  else if t.full ∨ t.have_ then (s.reply h i t .wrPull false false 0).setTx h i { t with pulled := true }
  else s

/-- Cache-block operations (R71, R72, R139, R171). -/
def State.finishCbo (s : State) (h i : Nat) (t : HTx) : State :=
  let bay := 12 ≤ h ∨ isBenchAddr (t.line * 64) ∨ !t.en
  if t.waitWr then
    (if s.written h t.line then
      let s := if t.op = .cboClean then s.oToS h t.line else s.clearDir h t.line
      (s.reply h i t .goDone false false 0).endTx h i
     else s)
  else if bay then s.setTx h i { t with waitWr := true }
  else match t.op with
    | .cboClean => match s.bayClean h t.line with | some s => s.setTx h i { t with waitWr := true } | none => s
    | .cboFlush => match s.bayFlush h t.line with | some s => s.setTx h i { t with waitWr := true } | none => s
    | _ => (s.bayDiscard h t.line).setTx h i { t with waitWr := true }

/-- The end of a back-invalidation: the entry goes, and its way passes to the request it made room for (R179). -/
def State.finishEvict (s : State) (h i : Nat) (t : HTx) : State := (s.clearDir h t.line).endTx h i

/-- The request needs the home's own copy of the line. -/
def HTx.needsData (t : HTx) : Bool :=
  match t.op with
  | .rdS | .rdU | .upg => t.supply && !t.upgrade
  | .rdNc | .lockFill | .atomNc => t.supply
  | .wrNc => t.supply && !t.full
  | _ => false

/-- The request makes a first holder if the line has no entry (R177). -/
def HTx.needsWay (t : HTx) : Bool :=
  match t.op with
  | .rdS | .rdU | .upg | .cboZero => true
  | _ => false

/-- Dirty data of a snoop written into the home's copy (R171, R179); none while it must wait. -/
def State.storeSnoop (s : State) (h i : Nat) (t : HTx) : Option State :=
  if t.pend = 0 ∧ t.snpData = 2 then
    (s.homeWrite h (t.hwrite true)).map (fun s => s.setTx h i { t with snpData := 3, have_ := true })
  else some s

/-- One transaction goes as far as it can. -/
def State.stepTx (s : State) (h i : Nat) : State :=
  match s.tx h i with
  | none => s
  | some t =>
    match t.st with
    | .granted => s
    | .waiting =>
      let b := s.home h
      let before := b.order.takeWhile (· != i)
      -- the first waiting request of the line, and none of its line active
      if b.txs.any (fun e => e.1 != i && e.2.line == t.line && e.2.st != .waiting && e.2.st != .granted) ∨
          before.any (fun j => match s.tx h j with | some u => u.line == t.line && u.st == .waiting | none => false) then s
      else match s.dirFind h t.line with
        | some (_, e) => if e.bad then (if h < 12 then s.fatalBay h 0x13
            else s.fatal (s.frameOfHome h) { cls := 4, src := 7, code := 0x2F, inst := h - 12 }) else s.startTx h i t
        | none => s.startTx h i t
    | _ =>
      match s.storeSnoop h i t with
      | none => s
      | some s =>
        match s.tx h i with
        | none => s
        | some t =>
          if t.st = .evicting then (if t.pend = 0 ∧ t.snpData ≠ 1 then s.finishEvict h i t else s)
          else
            -- RD_NC, WR_NC and ATOM_NC read the home's copy once their snoops are in
            let early := t.needsWay || t.op == .lockFill
            let s := if t.needsData ∧ (early ∨ (t.pend = 0 ∧ t.snpData ≠ 1)) then s.fetchLine h i else s
            let s := if t.needsWay ∧ (s.dirFind h t.line).isNone ∧ t.dirway.isNone then s.allocDir h i else s
            match s.tx h i with
            | none => s
            | some t =>
              if t.st = .dirwait then s
              else if t.needsWay then s.finishGrant h i t
              else if t.pend ≠ 0 ∨ t.snpData = 1 then s
              else match t.op with
                | .wb | .wbKeep => s.finishWb h i t
                | .rdNc | .lockFill => s.finishRdNc h i t
                | .wrNc | .atomNc => s.finishWrNc h i t
                | _ => s.finishCbo h i t

/-! ## Ordering (R136, R165 to R167) -/

/-- An access error answers the request in place of a transaction: an unbacked bench offset, a bench under
reconfiguration, or an address beyond a CXL decoder (R142, R143, R298, R299). -/
def State.reqErr (s : State) (h line : Nat) (op : MsgOp) : Bool :=
  let b := s.home h
  let la := line * 64
  if op = .wb ∨ op = .wbKeep then false
  else if 12 ≤ h then
    match s.cxlSlice h la with
    | none => true
    | some (i, off) =>
      if b.linkDown.contains i then (s.dirFind h line).isNone else decide (Tab.get b.decode 0 i ≤ off)
  else if isBenchAddr la then b.benchBusy || decide (b.bench * 0x400000 ≤ la - benchBase h)
  else false

/-- The request, if it misses, takes a bay miss register (R135, R136): it reads the line. An upgrade of a recorded copy reads
nothing, nor does a request whose data a recorded owner or forwarder supplies (R170, R171); a preload takes one in any case (R138). -/
def State.takesBmr (s : State) (h line : Nat) (m : Msg) : Bool :=
  let e := (s.dirFind h line).map (·.2)
  let dirty := e.elim false (fun e => e.st == 2 && (s.dirOwner h e).isSome)
  let supplied := e.elim false (fun e => (e.st != 0 || !variantO s.mode) && (s.dirOwner h e).isSome)
  match m.op with
  | .lockFill => true
  | .rdS | .rdU => !supplied
  | .upg => !supplied && e.elim true (fun e => !s.recorded e m.hdr.reqAgent m.hdr.reqPkg)
  | .rdNc | .atomNc => !dirty
  | .wrNc => m.mask != BitVec.allOnes 64 && !dirty
  | _ => false

/-- The home may order the request now. -/
def State.canOrder (s : State) (h line : Nat) (m : Msg) : Bool :=
  let b := s.home h
  let open_ := b.bmrs.any (fun e => e.2.line == line)
  let later := (b.txs.filter (fun e => e.2.line == line && e.2.st == .waiting)).length
  let hit := m.op != .lockFill && (((s.bayFind h line).isSome && s.arrayEn h) || b.victims.any (fun v => v.line == line))
  decide (b.txs.length < (if h < 12 then 1024 else 256)) && decide (b.dirQ.length < 64) &&
    !(open_ && decide (8 ≤ later)) &&
    !(decide (512 ≤ b.bmrs.length) && h < 12 && !isBenchAddr (line * 64) && s.takesBmr h line m && !open_ && !hit)

/-- The line a home reads in a message, if it is the line's home (R260). -/
def State.homeLine (s : State) (h raw : Nat) : Option Nat :=
  match s.homeOf (s.frameOfHome h) (raw * 64) with
  | some (k, la) => if k = h then some (la / 64) else none
  | none => none

/-- A request is ordered: its entry is taken, in the conflict list of its line (R165, R167). -/
def State.orderReq (s : State) (h line : Nat) (m : Msg) (port : Nat) : State :=
  let b := s.home h
  let b := { b with ptr := (port + 1) % 6 }
  let s := s.setHome h b
  let t : HTx := { op := m.op, line := line, raw := m.hdr.line, agent := m.hdr.reqAgent, pkg := m.hdr.reqPkg, tag := m.hdr.tag,
                   rcid := m.hdr.rcid, mcid := m.hdr.mcid, nonalloc := m.hdr.nonalloc, en := s.arrayEn h, wt := b.wt,
                   full := m.mask == BitVec.allOnes 64, amo := m.amo, size := m.size, off := m.off, no := b.seqNo }
  if s.reqErr h line m.op then s.reply h 0 t .err false false 0
  else match Tab.freeKey b.txs 0 (if h < 12 then 1024 else 256) with
    | none => s
    | some i => s.setHome h { b with txs := Tab.set b.txs i t, order := b.order ++ [i], seqNo := b.seqNo + 1 }

/-- Every transaction goes as far as it can, in at most n rounds. -/
def State.stepAll (s : State) (h n : Nat) : State :=
  match n with
  | 0 => s
  | m + 1 =>
    let t := (s.home h).order.foldl (fun s i => s.stepTx h i) s
    if (t.home h).txs == (s.home h).txs then t else State.stepAll t h m

/-- Rounds after which no transaction of home h goes on: each takes fewer than five. -/
def State.rounds (s : State) (h : Nat) : Nat := 5 * (s.home h).txs.length + 5

/-- The withheld request that is ordered next: of the first port at or after the pointer that presents one that can be
ordered (R166). Requests to one line are ordered as they came (R135). -/
def State.nextWaiting (s : State) (h : Nat) : Option (Nat × Msg × Nat) :=
  let b := s.home h
  let first (e : Msg × Nat) : Bool := !(b.waitReq.takeWhile (· != e)).any (fun x => x.1.hdr.line == e.1.hdr.line)
  ((List.range 6).map (fun j => (b.ptr + j) % 6)).findSome? (fun p =>
    b.waitReq.findSome? (fun e =>
      match s.homeLine h e.1.hdr.line with
      | some line => if e.2 = p ∧ first e ∧ s.canOrder h line e.1 then some (line, e) else none
      | none => none))

/-- Withheld requests are ordered while they can be, at most n. -/
def State.orderWaiting (s : State) (h n : Nat) : State :=
  match n with
  | 0 => s
  | m + 1 =>
    match s.nextWaiting h with
    | none => s
    | some (line, e) =>
      let b := s.home h
      let s := (s.setHome h { b with waitReq := b.waitReq.erase e }).orderReq h line e.1 e.2
      State.orderWaiting (s.stepAll h (s.rounds h)) h m

/-- A home goes on after an event. -/
def State.homeRun (s : State) (h : Nat) : State :=
  let s := (s.home h).order.foldl (fun s i => s.sendHeld h i) s
  let s := s.stepAll h (s.rounds h)
  (s.orderWaiting h (s.home h).waitReq.length).workRun h

/-- The arrival port of a request at a home (R166): of a request from another package, that of the stop of the purlin port
it came by (R181). -/
def State.portOfMsg (s : State) (h : Nat) (m : Msg) : Nat :=
  let stop := agentStop (agentOfHome h)
  if m.hdr.srcPkg = s.ownPkg then arrivalPort m.hdr.src stop
  else match m.inP with
  | some p => arrivalPort (32 + p) stop
  | none => match s.linkPorts (s.frameOfHome h) (s.nextHop (s.frameOfHome h) m.hdr.srcPkg) with
    | p :: _ => arrivalPort (32 + p) stop
    | [] => 0

/-- A REQ message arrives at its home (R165): ordered, or withheld. -/
def State.toHome (s : State) (m : Msg) : State :=
  match s.arrive m with
  | (s, none) => s
  | (s, some m) =>
  match homeOfAgent m.hdr.dst with
  | none => s
  | some h =>
    if !s.domainLive m.hdr.dst ∨ m.hdr.dstPkg ≠ s.ownPkg ∨ (s.home h).stopped then s
    else match s.homeLine h m.hdr.line with
      | none =>
        -- no memory stands behind the line here: the access error answers it (R259)
        s.reply h 0 { op := m.op, line := m.hdr.line, raw := m.hdr.line, agent := m.hdr.reqAgent, pkg := m.hdr.reqPkg, tag := m.hdr.tag }
          .err false false 0
      | some line =>
        let port := s.portOfMsg h m
        let held := (s.home h).waitReq.any (fun e => e.1.hdr.line == m.hdr.line)
        if s.canOrder h line m ∧ !held then (s.orderReq h line m port).homeRun h
        else
          let b := s.home h
          (s.setHome h { b with waitReq := b.waitReq ++ [(m, port)] }).homeRun h

end Sys2Proof.Machine
end

