-- ==== Sys2Proof/Machine/Tenon.lean ====
section
/-! DEFINITION. Tenon links: flits, replay and credits (R191 to R195), sideband frames (R189), wire counts and repair
(R196 to R200), rotation (R202), training (R205, R206), parking (R209), and their notices (R210). -/

namespace Sys2Proof.Machine

/-! ## Directions -/

def Tenon.dir (t : Tenon) (d : TDirId) : TenonDir := match d with | .up => t.up | .dn => t.dn
def Tenon.setDir (t : Tenon) (d : TDirId) (v : TenonDir) : Tenon :=
  match d with | .up => { t with up := v } | .dn => { t with dn := v }
def State.tdir (s : State) (n : Nat) (d : TDirId) : TenonDir := (s.tenon n).dir d
def State.setTdir (s : State) (n : Nat) (d : TDirId) (v : TenonDir) : State := s.setTenon n ((s.tenon n).setDir d v)
def dirNo : TDirId → Nat
  | .up => 0
  | .dn => 1

/-- Receive buffer units of a class (R193). -/
def bufUnits (cls : Nat) : Nat := [1024, 512, 256, 6144, 128].getD cls 0
/-- The class travels in the direction: REQ only UP, SNP only DN (R190). -/
def carries (d : TDirId) (cls : Nat) : Bool := !(d == .dn && cls == 0) && !(d == .up && cls == 1)
/-- The sender's credit for a class (R193). -/
def TenonDir.creditOf (t : TenonDir) (cls : Nat) : Nat := Tab.get t.credit (bufUnits cls) cls

/-- A wire's count. -/
def TenonDir.count (d : TenonDir) (g w : Nat) : Nat := Tab.get d.counts 0 (128 * g + w)
/-- A group is retired: from the commit on (R198). -/
def TenonDir.gone (d : TenonDir) (g : Nat) : Bool := bitOf d.retired g
/-- A retired group whose switch index has passed: its wires are no longer checked (R199). -/
def TenonDir.off (d : TenonDir) (g : Nat) : Bool := d.gone g && !d.switches.any (fun x => x.kind == 1 && x.group == g)
/-- What spare w (72 or 73) of group g holds: 0x7F unused, 0x7E bad. -/
def TenonDir.held (d : TenonDir) (g w : Nat) : Nat := Tab.get d.spare 0x7F (2 * g + (w - 72))
def TenonDir.setHeld (d : TenonDir) (g w v : Nat) : TenonDir := { d with spare := Tab.put d.spare 0x7F (2 * g + (w - 72)) v }
/-- The wire that spare w of group g carries since its switch index; 0x7F for none (R198, steps 3 and 4). -/
def TenonDir.drives (d : TenonDir) (g w : Nat) : Nat := Tab.get d.drive 0x7F (2 * g + (w - 72))
/-- The wire on which the bits of wire w of group g are sampled. -/
def TenonDir.sampled (d : TenonDir) (g w : Nat) : Nat :=
  if d.drives g 72 = w then 72 else if d.drives g 73 = w then 73 else w

/-- A request of a kind for a group is unanswered. -/
def TenonDir.asked (d : TenonDir) (kind g : Nat) : Bool := d.reqs.any (fun r => r.kind == kind && r.group == g)

/-- base_class of R190. -/
def baseClass (g : Nat) : Nat := if g < 48 then 3 else if g < 56 then 0 else if g < 60 then 1 else if g < 62 then 2 else 4

/-- One step of assign (R199): the class c is given to the highest data group when no group has it. -/
def assignOne (l : Map Nat) (c : Nat) : Map Nat :=
  if l.any (fun e => e.2 == c) then l
  else match (l.filter (fun e => e.2 == 3)).getLast? with
    | some e => l.map (fun x => if x.1 = e.1 then (x.1, c) else x)
    | none => l

/-- assign of R199: the class of every working group of 0 to 62, in the order MSG, RSP, SNP, REQ. -/
def assignClasses (retired : Nat) : Map Nat :=
  [4, 2, 1, 0].foldl assignOne (((List.range 63).filter (fun g => !bitOf retired g)).map (fun g => (g, baseClass g)))

/-- The groups of a class in the order of the layout: group 63 stands in the place of the group under test (R192, R202). -/
def TenonDir.layout (t : TenonDir) (cls : Nat) : List Nat :=
  (t.cls.filter (fun e => e.2 == cls)).map (fun e => if t.testing = some e.1 then 63 else e.1)
/-- The group carries flits of a class, idle ones included: they are checked (R190, R199, R202). -/
def TenonDir.checked (t : TenonDir) (g : Nat) : Bool :=
  if g = 63 then t.testing.isSome else (Tab.find t.cls g).isSome && t.testing != some g

/-- Wires a spare can take the place of (R187). -/
def steerable (w : Nat) : Bool := decide (w < 72) || w == 75

/-! ## Sideband frames (R189) -/

/-- CRC-8 with polynomial 0x07 over the low 72 bits, from bit 71 down. -/
def crc8 (n : Nat) : Nat :=
  ((List.range 72).reverse).foldl (fun c i => (c * 2 % 256) ^^^ (if (c / 128 + b2n (bitOf n i)) % 2 = 1 then 7 else 0)) 0

/-- A frame: TYPE, payload and CRC-8. -/
def sbFrame (type payload : Nat) : SbFrame :=
  let b := type + payload % 2 ^ 68 * 2 ^ 4
  BitVec.ofNat 80 (b + crc8 b * 2 ^ 72)
/-- TYPE of a frame. -/
def sbType (f : SbFrame) : Nat := bits f.toNat 3 0
/-- The place of a type in the order of sending: NAK, CREDIT, then all others. -/
def sbRank (f : SbFrame) : Nat := if sbType f = 1 then 0 else if sbType f = 2 then 1 else 2

/-- NAK: the SEQ of the oldest failing flit, the lowest group and the number of groups that failed. -/
def nakFrame (seq : Nat) (groups : List Nat) : SbFrame := sbFrame 1 (seq + groups.headD 0 * 2 ^ 6 + groups.length * 2 ^ 12)
/-- CREDIT: the five cumulative counts for REQ, SNP, RSP, DAT and MSG. -/
def creditFrame (freed : Map Nat) : SbFrame :=
  sbFrame 2 ((List.range 5).foldl (fun n c => n + Tab.get freed 0 c * 2 ^ (12 * c)) 0)
/-- STEER, RETIRE and ROT frames, requests and acknowledgements (log entry 33 gives the places of their fields). -/
def steerFrame (g w spare : Nat) (flit : Option Nat) : SbFrame :=
  sbFrame 3 (g + w * 2 ^ 6 + spare * 2 ^ 13 + b2n flit.isSome * 2 ^ 20 + flit.getD 0 % 2 ^ 32 * 2 ^ 21)
def retireFrame (g cause : Nat) (flit : Option Nat) : SbFrame :=
  sbFrame 4 (g + cause * 2 ^ 6 + b2n flit.isSome * 2 ^ 20 + flit.getD 0 % 2 ^ 32 * 2 ^ 21)
def rotFrame (g : Nat) (flit : Option Nat) : SbFrame := sbFrame 5 (g + b2n flit.isSome * 2 ^ 20 + flit.getD 0 % 2 ^ 32 * 2 ^ 21)
/-- MAP: slice i of a stud's record. The 68 bits of payload leave four for the slice's number: its low bits, the slices coming in order. -/
def mapFrame (i slice : Nat) : SbFrame := sbFrame 6 (slice % 2 ^ 64 + i % 16 * 2 ^ 64)
/-- FIND: half h of a group's bad-wire mask, wires 38h to 38h + 37. -/
def findFrame (g h mask : Nat) : SbFrame := sbFrame 7 (g + h * 2 ^ 6 + bits mask (38 * h + 37) (38 * h) * 2 ^ 7)
/-- AGREE: the width of each direction and the CRC-32 of the computed map. -/
def agreeFrame (up dn crc : Nat) : SbFrame := sbFrame 8 (up + dn * 2 ^ 7 + crc * 2 ^ 14)
/-- IDENT: stud number and link revision. -/
def identFrame (n rev : Nat) : SbFrame := sbFrame 10 (n + rev * 2 ^ 4)
/-- PARK (0) and WAKE (1). -/
def parkFrame (wake : Nat) : SbFrame := sbFrame 9 wake

/-- A frame takes its place among those that wait for their slot. -/
def TenonDir.frame (d : TenonDir) (f : SbFrame) : TenonDir :=
  { d with frames := d.frames.takeWhile (fun x => decide (sbRank x ≤ sbRank f)) ++ f ::
      d.frames.dropWhile (fun x => decide (sbRank x ≤ sbRank f)) }
/-- The CRC-8 of a frame passes. -/
def sbOk (f : SbFrame) : Bool := crc8 f.toNat == bits f.toNat 79 72
/-- What the receiver takes of the two copies of a frame: the first whose CRC passes, of a copy still in use; none: the frame is
dropped. -/
def TenonDir.hears (d : TenonDir) (copies : Fin 2 → SbFrame) : Option SbFrame :=
  (([0, 1] : List (Fin 2)).filter (fun k => !d.copyBad.contains k && sbOk (copies k))).head?.map copies
/-- A frame has been received: both copies carry it. -/
def TenonDir.unframe (d : TenonDir) (f : SbFrame) : TenonDir :=
  match d.hears (fun _ => f) with | some f => { d with frames := d.frames.erase f } | none => d
/-- The first frame of a type has been received. -/
def TenonDir.unframeType (d : TenonDir) (type : Nat) : TenonDir :=
  match d.frames.find? (fun f => sbType f == type) with | some f => d.unframe f | none => d

/-! ## Failure (R201, R184) -/

/-- A direction's state when the link leaves UP for good or goes DOWN: agreements not committed are dropped (R214). -/
def TenonDir.stop (d : TenonDir) : TenonDir :=
  { d with reqs := [], switches := [], past := [], testing := none, back := false, rotDue := false, cross := [], deferred := [],
           discard := none, nakSeq := none, failing := [], runs := [], runSeq := none, partUnits := [], outU := [], retry := [],
           frames := [] }

/-- The link fails; fatal to the domain while the frame runs (R184, R201). -/
def State.tenonFail (s : State) (n : Nat) : State :=
  let t := s.tenon n
  let s := s.setTenon n { t with st := 4, up := t.up.stop, dn := t.dn.stop }
  let f := s.frameOfStud n
  if s.isBooted f then s.fatal f { cls := 4, src := 6, code := 0x28, inst := n } else s

/-- A width below 32 fails the link (R201). -/
def State.tenonWidth (s : State) (n : Nat) : State :=
  let t := s.tenon n
  if (t.st = 2 ∨ t.st = 3) ∧ (t.up.width < 32 ∨ t.dn.width < 32) then s.tenonFail n else s

/-! ## Repair (R196 to R199) -/

/-- The map has changed: the journal copy is due (R204). -/
def State.mapChanged (s : State) : State := { s with plumb := { s.plumb with mapDirty := true } }

/-- Bits [47:32] of a tenon notice (R210). -/
def tenonDetail (n : Nat) (d : TDirId) (g cause : Nat) : Nat := n * 2 ^ 12 + dirNo d * 2 ^ 11 + g * 2 ^ 5 + cause

/-- What repair_group decides: spares to mark, wires to steer and, when it retires the group, the cause. -/
structure Repair where
  marks : List Nat := []
  steer : List (Nat × Nat) := []
  retire : Option Nat := none

/-- Spares given to wires in order; a wire without one retires the group. -/
def giveSpares (need free : List Nat) (acc : List (Nat × Nat)) : List (Nat × Nat) × Bool :=
  match need, free with
  | [], _ => (acc, false)
  | _ :: _, [] => (acc, true)
  | w :: r, s :: f => giveSpares r f (acc ++ [(w, s)])

/-- repair_group of R197, with the spare assignments committed. -/
def TenonDir.repair (d : TenonDir) (g : Nat) (bad : List Nat) : Repair :=
  if bad.contains 74 then { retire := some 2 }
  else
    let marks := [72, 73].filter bad.contains
    let free := (marks.map (d.held g)).filter (fun w => w != 0x7F && w != 0x7E)
    let need := (((List.range 76).filter steerable).filter (fun w => bad.contains w || free.contains w)).filter
      (fun w => [72, 73].all (fun s => marks.contains s || d.held g s != w))
    let spares := [72, 73].filter (fun s => !marks.contains s && d.held g s == 0x7F)
    let r := giveSpares need spares []
    { marks := marks, steer := r.1, retire := if r.2 then some 0 else none }

/-- Spares marked bad (R197). -/
def TenonDir.markBad (d : TenonDir) (g : Nat) (marks : List Nat) : TenonDir := marks.foldl (fun d s => d.setHeld g s 0x7E) d

/-- The requests of a repair are sent (R198 step 1, R199), each with what its notice will say of the crossing (R210). -/
def TenonDir.ask (d : TenonDir) (g : Nat) (r : Repair) (xs : List Cross) : TenonDir :=
  let d := r.steer.foldl (fun d e =>
    let x := xs.find? (fun x => x.wire == e.1)
    ({ d with reqs := d.reqs ++ [{ kind := 0, group := g, wire := e.1, spare := e.2, count := (x.map (·.count)).getD (d.count g e.1),
                                   cause := (xs.headD {}).cause }] } : TenonDir).frame (steerFrame g e.1 e.2 none)) d
  match r.retire with
  | some c => ({ d with reqs := d.reqs ++ [{ kind := 1, group := g, cause := c }] } : TenonDir).frame (retireFrame g c none)
  | none => d

/-- Wires of group g have crossed: the repair of R197 on a live link. While a request for the group is unanswered they wait
for it, because R197 starts from the assignments committed (R198). -/
def State.tenonCross (s : State) (n : Nat) (d : TDirId) (g : Nat) (xs : List Cross) : State :=
  let t := s.tdir n d
  if xs = [] ∨ t.gone g ∨ t.asked 1 g then s
  else if t.asked 0 g then s.setTdir n d { t with cross := t.cross ++ xs }
  else
    let r := t.repair g (xs.map (·.wire))
    let s := s.setTdir n d ((t.markBad g r.marks).ask g r xs)
    if r.marks = [] then s else s.mapChanged

/-- The crossings that waited for group g's request go on once it is answered. -/
def State.crossOn (s : State) (n : Nat) (d : TDirId) (g : Nat) : State :=
  let t := s.tdir n d
  (s.setTdir n d { t with cross := t.cross.filter (fun x => x.group != g) }).tenonCross n d g (t.cross.filter (fun x => x.group == g))

/-- A group found dead (R195). -/
def State.tenonDead (s : State) (n : Nat) (d : TDirId) (g cause : Nat) : State :=
  let t := s.tdir n d
  if t.gone g ∨ t.asked 1 g then s else s.setTdir n d (t.ask g { retire := some cause } [])

/-- TENON_THRESH.WIRE and the others (R212). -/
def State.wireThresh (s : State) : Nat := fld s.threshold 7 0
def State.leakMs (s : State) : Nat := fld s.threshold 23 16

/-- The repair of wire w of group g is committed or asked for already: it does not cross again. -/
def TenonDir.standsFor (t : TenonDir) (g w : Nat) : Bool :=
  t.held g 72 == w || t.held g 73 == w || t.reqs.any (fun r => r.kind == 0 && r.group == g && r.wire == w) ||
  t.cross.any (fun x => x.group == g && x.wire == w) || t.deferred.any (fun x => x.group == g && x.wire == w) ||
  ((w == 72 || w == 73) && t.held g w == 0x7E)

/-- Errors counted on wires of one group (R196). Those whose count has reached the threshold now in force are repaired together, in
ascending order (R214): at once while UP, at WAKE while PARKED. -/
def State.tenonCounts (s : State) (n : Nat) (d : TDirId) (g cause : Nat) (l : List (Nat × Nat)) : State :=
  let t := s.tdir n d
  if t.off g then s
  else
    let u := l.foldl (fun (u : TenonDir) e => { u with counts := Tab.put u.counts 0 (128 * g + e.1) (satAdd 8 (u.count g e.1) e.2) }) t
    let xs := ((List.range 76).filter (fun w => l.any (fun e => e.1 == w && decide (0 < e.2)) && decide (s.wireThresh ≤ u.count g w) &&
        !t.standsFor g w)).map
      (fun w => ({ group := g, wire := w, count := u.count g w, cause := cause } : Cross))
    let s := s.setTdir n d u
    match (s.tenon n).st with
    | 2 => s.tenonCross n d g xs
    | 3 => s.setTdir n d { u with deferred := u.deferred ++ xs }
    | _ => s

/-- The notice of a steering (R210). -/
def repairNotice (n : Nat) (d : TDirId) (t : TenonDir) (r : Req) : Word :=
  let left := ([72, 73].filter (fun s => t.held r.group s == 0x7F)).length
  notice 0x30 3 6 (tenonDetail n d r.group r.cause) (r.wire * 2 ^ 24 + r.spare * 2 ^ 16 + r.count * 2 ^ 8 + left)

/-- A committed change of a group that a request sent again names. -/
def TenonDir.committed (t : TenonDir) (P : Switch → Bool) : Option Switch := (t.switches ++ t.past).find? P

/-- STEER_REQ (R198 step 2): the map change is committed and counts from now. A request sent again is acknowledged again. -/
def execSteerReq (n : StudId) (d : TDirId) (g : Fin 64) (wire : BitVec 7) (spare : BitVec 7) (s : State) : Res :=
  let w := wire.toNat
  let sp := spare.toNat
  let t := (s.tdir n d).unframe (steerFrame g w sp none)
  if (s.tenon n).st ≠ 2 then .next s
  else match t.committed (fun x => x.kind == 0 && x.group == g.val && x.wire == w && x.spare == sp) with
  | some x => .next (s.setTdir n d (t.frame (steerFrame g w sp (some x.at_))))
  | none =>
    if t.gone g ∨ !steerable w ∨ (sp ≠ 72 ∧ sp ≠ 73) ∨ t.held g sp ≠ 0x7F then .next (s.setTdir n d t)
    else
      let at_ := t.index + 16
      let r := (t.reqs.find? (fun r => r.kind == 0 && r.group == g.val && r.wire == w && r.spare == sp)).getD
        { group := g, wire := w, spare := sp, count := t.count g w, cause := b2n (t.testing == some g.val) }
      let t := t.setHeld g sp w
      let t := { t with switches := t.switches ++ [{ group := g, wire := w, spare := sp, kind := 0, at_ := at_ }] }
      let s := ((s.setTdir n d (t.frame (steerFrame g w sp (some at_)))).mapChanged).recAdd 0x24 n 2 1
      .next (s.post [s.frameOfStud n] (repairNotice n d t r))

/-- The return of the group under test is asked for once the repairs that the test found are committed (R202). -/
def TenonDir.sendBack (t : TenonDir) : TenonDir :=
  match t.testing with
  | some g =>
    if t.back ∧ !t.reqs.any (fun r => r.group == g) ∧ !t.cross.any (fun x => x.group == g) then
      ({ t with back := false, reqs := t.reqs ++ [{ kind := 2, group := g }] } : TenonDir).frame (rotFrame g none)
    else t
  | none => t
def State.sendBack (s : State) (n : Nat) (d : TDirId) : State := s.setTdir n d (s.tdir n d).sendBack

/-- STEER_ACK (R198): the switch index is known at both ends. -/
def execSteerAck (n : StudId) (d : TDirId) (g : Fin 64) (wire : BitVec 7) (spare : BitVec 7) (flit : Nat) (s : State) : Res :=
  let t := (s.tdir n d).unframe (steerFrame g wire.toNat spare.toNat (some flit))
  let hit := fun (x : Switch) => x.kind == 0 && x.group == g.val && x.wire == wire.toNat && x.spare == spare.toNat
  let s := s.setTdir n d
    { t with reqs := t.reqs.filter (fun r => !(r.kind == 0 && r.group == g.val && r.wire == wire.toNat && r.spare == spare.toNat)),
             past := t.past.filter (fun x => !hit x),
             switches := t.switches.map (fun x => if hit x then { x with at_ := flit } else x) }
  .next ((if (s.tdir n d).asked 0 g then s else s.crossOn n d g).sendBack n d)

/-- STEER_REQ_RESEND (R198): every request without its acknowledgement is sent again. -/
def execSteerReqResend (n : StudId) (d : TDirId) (s : State) : Res :=
  let t := s.tdir n d
  if (s.tenon n).st ≠ 2 then .next s
  else .next (s.setTdir n d (t.reqs.foldl (fun t r =>
    let f := match r.kind with
      | 0 => steerFrame r.group r.wire r.spare none
      | 1 => retireFrame r.group r.cause none
      | _ => rotFrame r.group none
    (t.unframe f).frame f) t))

/-- The group whose class a retirement changes, with its new class (R199, R210); of two such groups the notice names the lowest (DESIGN
CHOICE, log entry 33). -/
def reassigned (old new : Nat) : Option (Nat × Nat) :=
  (assignClasses new).find? (fun e => Tab.find (assignClasses old) e.1 != some e.2)

/-- The notice of a retirement (R210). -/
def retireNotice (n : Nat) (d : TDirId) (t : TenonDir) (g cause : Nat) (ch : Option (Nat × Nat)) : Word :=
  let c := ch.getD (0xFF, 0xFF)
  notice 0x31 2 6 (tenonDetail n d g cause) (c.1 * 2 ^ 24 + c.2 * 2 ^ 16 + t.width * 2 ^ 8 + popCount t.retired)

/-- RETIRE_REQ (R199): committed; a width below 32 fails the link at once (R198, R201). When group 63 goes while it stands in
for another, that group returns at once (R214). -/
def execRetireReq (n : StudId) (d : TDirId) (g : Fin 64) (cause : BitVec 5) (s : State) : Res :=
  let t := (s.tdir n d).unframe (retireFrame g cause.toNat none)
  if (s.tenon n).st ≠ 2 then .next s
  else match t.committed (fun x => x.kind == 1 && x.group == g.val) with
  | some x => .next (s.setTdir n d (t.frame (retireFrame g cause.toNat (some x.at_))))
  | none =>
    if t.gone g then .next (s.setTdir n d t)
    else
      let at_ := t.index + 16
      let new := t.retired ||| 2 ^ g.val
      let ch := reassigned t.retired new
      let sw : Switch := { group := g, kind := 1, cause := cause.toNat, at_ := at_ }
      let t := { t with retired := new, testing := if g.val = 63 then none else t.testing, back := g.val != 63 && t.back,
                        switches := t.switches ++ [sw] }
      let s := ((s.setTdir n d (t.frame (retireFrame g cause.toNat (some at_)))).mapChanged).recAdd 0x24 n 3 1
      .next ((s.post [s.frameOfStud n] (retireNotice n d t g cause.toNat ch)).tenonWidth n)

/-- RETIRE_ACK (R199). -/
def execRetireAck (n : StudId) (d : TDirId) (g : Fin 64) (flit : Nat) (s : State) : Res :=
  let hit := fun (x : Switch) => x.kind == 1 && x.group == g.val
  let t := (s.tdir n d).unframe (retireFrame g (((s.tdir n d).committed hit).elim 0 (·.cause)) (some flit))
  .next (s.setTdir n d
    { t with reqs := t.reqs.filter (fun r => !(r.kind == 1 && r.group == g.val)), past := t.past.filter (fun x => !hit x),
             cross := t.cross.filter (fun x => x.group != g.val),
             switches := t.switches.map (fun x => if hit x then { x with at_ := flit } else x) })

/-! ## Rotation (R202) -/

/-- Working groups the rotation visits. -/
def TenonDir.rotGroups (t : TenonDir) : List Nat := (List.range 63).filter (fun g => !t.gone g)

/-- A rotation falls due: the next group in ascending order is asked for; a wrap ends a pass. -/
def State.rotate (s : State) (n : Nat) (d : TDirId) : State :=
  let t := s.tdir n d
  if t.gone 63 ∨ t.testing.isSome ∨ t.reqs.any (·.kind == 2) ∨ t.switches.any (fun x => 2 ≤ x.kind) then s
  else
    let ask (g : Nat) : TenonDir :=
      ({ t with rotNext := g + 1, reqs := t.reqs ++ [{ kind := 2, group := g }] } : TenonDir).frame (rotFrame g none)
    match t.rotGroups.find? (t.rotNext ≤ ·), t.rotGroups with
    | some g, _ => s.setTdir n d (ask g)
    | none, g :: _ => (s.setTdir n d (ask g)).recAdd 0x24 n 4 1
    | none, [] => s

/-- ROTATION_PERIOD (R202): one that falls due while the link is PARKED is deferred to WAKE (R209). -/
def execRotationPeriod (n : StudId) (d : TDirId) (s : State) : Res :=
  match (s.tenon n).st with
  | 2 => .next (s.rotate n d)
  | 3 => .next (s.setTdir n d { s.tdir n d with rotDue := true })
  | _ => .next s

/-- ROT_REQ (R202): the start of a test, or, for the group under test, its return, which waits for the repairs of the
group. A request sent again is acknowledged again. -/
def execRotReq (n : StudId) (d : TDirId) (g : Fin 64) (s : State) : Res :=
  let t := (s.tdir n d).unframe (rotFrame g none)
  if (s.tenon n).st ≠ 2 then .next s
  else match t.committed (fun x => decide (2 ≤ x.kind) && x.group == g.val) with
  | some x => .next (s.setTdir n d (t.frame (rotFrame g (some x.at_))))
  | none =>
    let kind := if t.testing = some g.val then 3 else 2
    if t.gone 63 ∨ t.gone g ∨ g.val = 63 ∨ (kind = 2 ∧ t.testing.isSome) ∨ (kind = 3 ∧ (t.asked 0 g ∨ t.asked 1 g)) then
      .next (s.setTdir n d t)
    else
      let at_ := t.index + 16
      .next (s.setTdir n d
        (({ t with switches := t.switches ++ [{ group := g, kind := kind, at_ := at_ }] } : TenonDir).frame (rotFrame g (some at_))))

/-- ROT_ACK (R202). -/
def execRotAck (n : StudId) (d : TDirId) (g : Fin 64) (flit : Nat) (s : State) : Res :=
  let t := (s.tdir n d).unframe (rotFrame g (some flit))
  .next (s.setTdir n d
    { t with reqs := t.reqs.filter (fun r => !(r.kind == 2 && r.group == g.val)),
             past := t.past.filter (fun x => !(decide (2 ≤ x.kind) && x.group == g.val)),
             switches := t.switches.map (fun x => if 2 ≤ x.kind ∧ x.group = g.val then { x with at_ := flit } else x) })

/-- ROTATION_TEST_END (R202): the errors found are counted on the wires tested, CK not among them, and their crossings are
repaired; then the group's return is asked for. -/
def execRotationTestEnd (n : StudId) (d : TDirId) (errs : List (Nat × Nat)) (s : State) : Res :=
  let t := s.tdir n d
  match t.testing with
  | none => .next s
  | some g =>
    if (s.tenon n).st ≠ 2 ∨ t.back ∨ t.asked 2 g ∨ t.switches.any (fun x => x.kind == 3) then .next s
    else
      let s := s.tenonCounts n d g 1 (errs.filter (fun e => e.1 < 76 && e.1 != 74))
      .next ((s.setTdir n d { s.tdir n d with back := true }).sendBack n d)

/-! ## Units of a direction (R191, R192) -/

/-- The valid byte of a flit (R191): FLIT_VALID, START, zeros and even parity. -/
def Flit.valid (f : Flit) : BitVec 8 :=
  let v := b2n (!f.units.isEmpty) + (List.range 4).foldl (fun n u => n + b2n ((f.units.getD u (0, false)).2) * 2 ^ (u + 1)) 0
  BitVec.ofNat 8 (v + popCount v % 2 * 2 ^ 7)
/-- Byte k of a flit, which data wire Dk carries: unit u takes bytes 16u to 16u + 15, and unused units are zero. -/
def Flit.byte (f : Flit) (k : Nat) : Byte := BitVec.ofNat 8 ((f.units.getD (k / 16) (0, false)).1.toNat / 2 ^ (8 * (k % 16)))
/-- The bit that wire w carries at UI m (R191): data wires their byte, a parity wire the even parity of byte 8p + m, VL the
valid byte. -/
def Flit.wireBit (f : Flit) (w m : Nat) : Bool :=
  if w < 64 then (f.byte w).getLsbD m
  else if w < 72 then decide (popCount (f.byte (8 * (w - 64) + m)).toNat % 2 = 1)
  else f.valid.getLsbD m
/-- The units of a flit as its receiver reads them, with the START marks of the valid byte. -/
def Flit.read (f : Flit) : List (BitVec 128 × Bool) := f.units.mapIdx (fun i u => (u.1, f.valid.getLsbD (i + 1)))

/-- Units laid on groups in order: unit 4i + u of a superflit is unit u of the group of rank i (R192). Idle flits are left
out. -/
def layFlits (cls : Nat) : List Nat → List (BitVec 128 × Bool) → List Flit
  | [], _ => []
  | _, [] => []
  | g :: r, u => { group := g, cls := cls, units := u.take 4 } :: layFlits cls r (u.drop 4)

/-- A message waits at the sending end of a direction. -/
def State.waitsAt (s : State) (n : Nat) (d : TDirId) (m : Msg) : Bool :=
  match d with
  | .up => m.loc == .src && m.hdr.src == n
  | .dn => m.loc == .end_ && s.toStud m && m.hdr.dst == n

/-- The next message of a class begins, in send order and only with credit for all its units (R192, R193). -/
def State.begin_ (s : State) (n : Nat) (d : TDirId) (cls : Nat) : Option (State × List (BitVec 128 × Bool)) :=
  match s.net.find? (fun m => s.waitsAt n d m && clsOf m.op == cls) with
  | none => none
  | some m =>
    let t := s.tdir n d
    let u := (msgUnits m).mapIdx (fun i x => (x, i == 0))
    if t.creditOf cls < u.length then none
    else
      let s := { s with net := s.net.erase m ++ [{ m with loc := .tenon (dirNo d == 0) }] }
      some (s.setTdir n d { t with credit := Tab.put t.credit (bufUnits cls) cls (t.creditOf cls - u.length) }, u)

/-- Messages begun until their units fill the class's superflit. -/
def State.fillCls (s : State) (n : Nat) (d : TDirId) (cls cap : Nat) (u : List (BitVec 128 × Bool)) (fuel : Nat) :
    State × List (BitVec 128 × Bool) :=
  match fuel with
  | 0 => (s, u)
  | k + 1 =>
    if cap ≤ u.length then (s, u)
    else match s.begin_ n d cls with
      | none => (s, u)
      | some (s, v) => State.fillCls s n d cls cap (u ++ v) k

/-- The flits of a new flit time: each class's superflit; what does not fit goes on in the next (R192). -/
def State.newFlits (s : State) (n : Nat) (d : TDirId) : State × List Flit :=
  ((List.range 5).filter (carries d)).foldl (fun a cls =>
    let t := a.1.tdir n d
    let g := t.layout cls
    let cap := 4 * g.length
    let r := a.1.fillCls n d cls cap (Tab.get t.outU [] cls) cap
    let t := r.1.tdir n d
    (r.1.setTdir n d { t with outU := Tab.put t.outU [] cls (r.2.drop cap) }, a.2 ++ layFlits cls g (r.2.take cap))) (s, [])

/-- A flit time held in the retry buffers: the last 64 (R194). -/
def TenonDir.hold (t : TenonDir) (f : List Flit) : TenonDir :=
  { t with retry := (t.retry.filter (fun e => decide (t.index < e.1 + 64))) ++ [(t.index, f)], index := t.index + 1 }

/-- One flit time: of a replay what the retry buffers hold, else new flits. -/
def State.flitTime (s : State) (n : Nat) (d : TDirId) : State × List Flit :=
  let t := s.tdir n d
  match t.retry.find? (fun e => e.1 == t.index) with
  | some e => (s.setTdir n d { t with index := t.index + 1 }, e.2)
  | none => let r := s.newFlits n d; (r.1.setTdir n d ((r.1.tdir n d).hold r.2), r.2)

/-! ## Receiving (R192 to R194) -/

/-- A message whose opcode R164 does not list is discarded and counted. -/
def State.badOpcode (s : State) (u : BitVec 128) : State :=
  let h := unitHdr u
  s.report { cls := 3, src := 13, code := 0x30, inst := h.dst, sub := h.src * 64 + bits u.toNat 8 3,
             frame := some (if agentOk h.dst then s.frameOfAgent h.dst else 0) }

/-- A message that has crossed the link whole goes on: into the sill fabric, or to its stud. -/
def State.crossed (s : State) (d : TDirId) (u : BitVec 128) (rest : List (BitVec 128)) : State :=
  match unitOp u with
  | none => s.badOpcode u
  | some op =>
    match s.net.find? (fun k => sameMsg (unitMsg op u rest) k && k.loc == .tenon (dirNo d == 0)) with
    | none => s
    | some k =>
      let s := { s with net := s.net.erase k }
      if d = .up then s.putMsg (entered k)
      else if op = .msiWrite then s.msiArrive k
      else { s with net := s.net ++ [{ k with loc := .far }] }

/-- Messages taken from the front of a class's units, each from its START; units between messages are unused. Answers the
units of a message that is not yet whole and the units freed. -/
def State.takeMsgs (fuel : Nat) (s : State) (d : TDirId) (l : List (BitVec 128 × Bool)) (freed : Nat) :
    State × List (BitVec 128 × Bool) × Nat :=
  match fuel, l with
  | 0, _ => (s, l, freed)
  | _, [] => (s, [], freed)
  | n + 1, u :: r =>
    if !u.2 then State.takeMsgs n s d r freed
    else
      let k := unitCount u.1
      if r.length + 1 < k then (s, l, freed)
      else State.takeMsgs n (s.crossed d u.1 ((r.take (k - 1)).map (·.1))) d (r.drop (k - 1)) (freed + k)

/-- Units of one class received (R192, R193): buffered, parsed, delivered and freed. -/
def State.tenonUnits (s : State) (n : Nat) (d : TDirId) (cls : Nat) (units : List (BitVec 128 × Bool)) : State :=
  let l := Tab.get (s.tdir n d).partUnits [] cls ++ units
  let (s, rest, freed) := State.takeMsgs (l.length + 1) s d l 0
  let t := s.tdir n d
  s.setTdir n d { t with partUnits := Tab.put t.partUnits [] cls rest, used := Tab.put t.used 0 cls rest.length,
                         freed := Tab.put t.freed 0 cls ((Tab.get t.freed 0 cls + freed) % 4096) }

/-- A flit time taken in good order: the units of each class by rank, and a CREDIT frame once counts have changed. -/
def State.takeFlits (s : State) (n : Nat) (d : TDirId) (f : List Flit) : State :=
  let before : Map Nat := (s.tdir n d).freed
  let s := (List.range 5).foldl (fun s cls =>
    match (f.filter (fun x => x.cls == cls)).flatMap Flit.read with
    | [] => s
    | u => s.tenonUnits n d cls u) s
  let t : TenonDir := { s.tdir n d with failing := [], runs := [], runSeq := none }
  s.setTdir n d (if t.freed = before then t else (t.unframeType 2).frame (creditFrame t.freed))

/-- The rewind for a dead group (R200): from the oldest failing SEQ on, the messages of every flit time held are packed again
under the layout now in force. -/
def TenonDir.repack (t : TenonDir) : TenonDir :=
  match t.discard with
  | none => t
  | some q =>
    let late := (t.retry.filter (fun e => decide (q ≤ e.1))).flatMap (·.2)
    let outU := (List.range 5).foldl (fun m c =>
      Tab.put m [] c ((late.filter (fun f => f.cls == c)).flatMap (·.units) ++ Tab.get t.outU [] c)) []
    { t with retry := t.retry.filter (fun e => decide (e.1 < q)), index := q, outU := outU, discard := none, nakSeq := none,
             failing := [], runs := [], runSeq := none }

/-- The groups whose retirement has taken effect: its switch index has passed. -/
def TenonDir.outOfUse (t : TenonDir) : Nat := maskOf ((List.range 64).filter t.off)

/-- A change takes effect at its switch index (R198, R199, R202). -/
def TenonDir.switch (t : TenonDir) (x : Switch) : TenonDir :=
  match x.kind with
  | 0 =>
    let other := 145 - x.spare
    let t := if t.drives x.group other = x.wire then { t with drive := Tab.erase t.drive (2 * x.group + (other - 72)) } else t
    { t with drive := Tab.put t.drive 0x7F (2 * x.group + (x.spare - 72)) x.wire }
  | 1 =>
    let t := { t with cls := assignClasses t.outOfUse, testing := if t.testing = some x.group then none else t.testing,
                      back := t.testing != some x.group && t.back }
    if x.cause = 0 then t else t.repack
  | 2 => if t.gone 63 ∨ t.gone x.group then t else { t with testing := some x.group }
  | _ => { t with testing := none, back := false }

/-- The change with the lowest switch index. -/
def TenonDir.nextSwitch (t : TenonDir) : Option Switch :=
  t.switches.foldl (fun a x => match a with
    | none => some x
    | some y => if x.at_ < y.at_ then some x else some y) none

/-- A change takes effect at both ends. -/
def State.applySwitch (s : State) (n : Nat) (d : TDirId) (x : Switch) : State :=
  let t := s.tdir n d
  let waits := t.asked (min x.kind 2) x.group
  let t := { t with switches := t.switches.erase x, past := if waits then t.past ++ [x] else t.past }
  (s.setTdir n d (t.switch x)).tenonWidth n

/-- The changes whose switch index is the present flit, or is past, take effect before it is laid out: the layout is a function of the
flit index (R192). -/
def State.dueSwitches (fuel : Nat) (s : State) (n : Nat) (d : TDirId) : State :=
  match fuel, (s.tdir n d).nextSwitch with
  | k + 1, some x => if x.at_ ≤ (s.tdir n d).index ∧ (s.tenon n).st = 2 then State.dueSwitches k (s.applySwitch n d x) n d else s
  | _, _ => s

/-- The present flit time under the layout of its index. -/
def State.nextFlits (s : State) (n : Nat) (d : TDirId) : State × List Flit :=
  let s := s.dueSwitches (s.tdir n d).switches.length n d
  if (s.tenon n).st = 2 then s.flitTime n d else (s, [])

/-- One flit time of the direction crosses (R192, R194). While the receiver waits for a replay it discards the flit time; the sender
holds it. -/
def State.crossFlits (s : State) (n : Nat) (d : TDirId) : State :=
  let r := s.nextFlits n d
  if (r.1.tdir n d).discard.isSome then r.1 else r.1.takeFlits n d r.2

/-- What the fabric has for the stud comes to the sill end of its link first (R15). -/
def State.sillEnd (s : State) (n : Nat) (d : TDirId) : State :=
  match d with | .up => s | .dn => s.deliver (fun m => s.toStud m && m.hdr.dst == n)

/-- TENON_FLIT_RECEIVED (R192, R194). -/
def execTenonFlitReceived (n : StudId) (d : TDirId) (s : State) : Res :=
  if (s.tenon n).st ≠ 2 then .next s else .next ((s.sillEnd n d).crossFlits n d)

/-- Flit times until flit F is the present one. -/
def State.crossTo (fuel : Nat) (s : State) (n : Nat) (d : TDirId) (f : Nat) : State :=
  match fuel with
  | 0 => s
  | k + 1 => if (s.tenon n).st = 2 ∧ (s.tdir n d).index < f then State.crossTo k (s.crossFlits n d) n d f else s

/-- LAYOUT_SWITCH (R198, R199, R202): the direction comes to the lowest switch index F agreed, and that change takes effect. The flits
before F cross in the old layout, those of a replay too (R214). -/
def execLayoutSwitch (n : StudId) (d : TDirId) (s : State) : Res :=
  match (s.tdir n d).nextSwitch with
  | none => .next s
  | some x =>
    if (s.tenon n).st ≠ 2 then .next s
    else
      let s := s.crossTo (x.at_ - (s.tdir n d).index) n d x.at_
      .next (s.dueSwitches (s.tdir n d).switches.length n d)

/-! ## Parity errors and replay (R191, R194 to R196) -/

/-- The bits flipped on the wire that wire w of group g is sampled on. -/
def TenonDir.flipped (t : TenonDir) (g : Nat) (flips : List (Nat × Nat)) (w : Nat) : List (Nat × Nat) :=
  flips.filter (fun x => x.1 == t.sampled g w)
/-- Byte k fails its check: an odd number of its bits and its parity bit is flipped. -/
def TenonDir.byteFails (t : TenonDir) (g : Nat) (flips : List (Nat × Nat)) (k : Nat) : Bool :=
  decide (((t.flipped g flips k).length + ((t.flipped g flips (64 + k / 8)).filter (fun x => x.2 == k % 8)).length) % 2 = 1)
/-- The valid byte fails its check. -/
def TenonDir.validFails (t : TenonDir) (g : Nat) (flips : List (Nat × Nat)) : Bool :=
  decide ((t.flipped g flips 75).length % 2 = 1)

/-- The wires to count for a failing flit (R196): the data wire of one failing byte of a parity wire, the parity wire for two
or more, VL for the valid byte. A wire steered to a spare is counted on that spare (DEDUCED, log entry 33). -/
def TenonDir.parityWires (t : TenonDir) (g : Nat) (flips : List (Nat × Nat)) : List (Nat × Nat) :=
  (List.range 8).filterMap (fun p =>
    match ((List.range 8).map (8 * p + ·)).filter (t.byteFails g flips) with
    | [] => none
    | [k] => some (t.sampled g k, 1)
    | _ => some (t.sampled g (64 + p), 1)) ++
  (if t.validFails g flips then [(t.sampled g 75, 1)] else [])

/-- One more group of the present send has failed (R195): its failed sends in a row of this SEQ. A group that did not fail in
the send before starts anew. -/
def TenonDir.failed (t : TenonDir) (g seq : Nat) (fresh : Bool) : TenonDir :=
  let runs := if !fresh then t.runs else if t.runSeq = some seq then t.runs.filter (fun e => t.failing.contains e.1) else []
  { t with runs := Tab.put runs 0 g (Tab.get runs 0 g + 1), runSeq := some seq,
           failing := if fresh then [g] else listAdd t.failing g, nakSeq := some seq }

/-- TENON_PARITY_ERROR (R194 to R196): bits flipped in the flit of group g; the present flit time fails, or it is another group
of the flit time that failed last. NAK names the SEQ, the lowest group and the number of groups. An error in a flit that is discarded until
the replay counts on no wire (DESIGN CHOICE, log entry 33). -/
def execTenonParityError (n : StudId) (d : TDirId) (g : Fin 64) (seq : Fin 64) (flips : List (Fin 76 × Fin 8)) (s : State) : Res :=
  let t := s.tdir n d
  let fl := (flips.map (fun x => (x.1.val, x.2.val))).eraseDups
  let wires := t.parityWires g fl
  let fresh := t.discard.isNone && t.index % 64 == seq.val
  let again := t.discard.any (fun q => q % 64 == seq.val && t.index == q + 1) && !t.failing.contains g.val
  if (s.tenon n).st ≠ 2 ∨ !t.checked g ∨ wires = [] ∨ (!fresh && !again) then .next s
  else
    let s := if fresh then (s.nextFlits n d).1 else s
    if (s.tenon n).st ≠ 2 then .next s else
    let t := s.tdir n d
    let u := { t.failed g seq fresh with discard := some (t.discard.getD (t.index - 1)) }
    let u := ((if fresh then u else u.unframe (nakFrame seq t.failing)).frame (nakFrame seq u.failing))
    let s := s.setTdir n d u
    let s := s.report { cls := 0, src := 6, code := 0x28, inst := n, sub := dirNo d * 64 + g.val,
                        frame := some (s.frameOfStud n), bin := some (0x23, n, 64 * dirNo d + g.val) }
    let s := s.tenonCounts n d g 0 wires
    .next (if 8 ≤ Tab.get u.runs 0 g.val then s.tenonDead n d g 1 else s)

/-- NAK (R194): the sender goes back to the flit named; one it no longer holds fails the link. -/
def execNak (n : StudId) (d : TDirId) (seq _g : Fin 64) (_cnt : BitVec 7) (s : State) : Res :=
  let t := (s.tdir n d).unframeType 1
  if (s.tenon n).st ≠ 2 then .next s
  else
    match (t.retry.map (·.1)).filter (fun i => i % 64 == seq.val && decide (t.index < i + 65)) with
    | [] => .next (s.tenonFail n)
    | i :: _ =>
      .next ((s.setTdir n d { t with index := i, discard := none, nakSeq := none }).recAdd 0x24 n (dirNo d) 1)

/-- NAK_RESEND_TIMEOUT (R194). -/
def execNakResendTimeout (n : StudId) (d : TDirId) (s : State) : Res :=
  let t := s.tdir n d
  match t.nakSeq with
  | some q =>
    if (s.tenon n).st ≠ 2 then .next s
    else .next ((s.setTdir n d ((t.unframeType 1).frame (nakFrame q t.failing))).recAdd 0x24 n 5 1)
  | none => .next s

/-- CREDIT (R193): cumulative counts modulo 4,096. -/
def execCredit (n : StudId) (d : TDirId) (req snp rsp dat msg : BitVec 12) (s : State) : Res :=
  if (s.tenon n).st ≠ 2 ∧ (s.tenon n).st ≠ 3 then .next s
  else
    let t := (s.tdir n d).unframeType 2
    .next (s.setTdir n d ([(0, req), (1, snp), (2, rsp), (3, dat), (4, msg)].foldl (fun t e =>
      let new := (e.2.toNat + 4096 - Tab.get t.seenCr 0 e.1) % 4096
      { t with credit := Tab.put t.credit (bufUnits e.1) e.1 (t.creditOf e.1 + new),
               seenCr := Tab.put t.seenCr 0 e.1 e.2.toNat }) t))

/-- CLOCK_LOCK_LOSS (R195): while parked it is deferred to WAKE (R209). -/
def execClockLockLoss (n : StudId) (d : TDirId) (g : Fin 64) (s : State) : Res :=
  let t := s.tdir n d
  if t.gone g then .next s
  else match (s.tenon n).st with
    | 2 => .next (s.tenonDead n d g 2)
    | 3 => .next (s.setTdir n d { t with deferred := t.deferred ++ [{ group := g.val, wire := 74 }] })
    | _ => .next s

/-- LEAK_PERIOD (R196): every count above 0 falls by 1; the next period takes the LEAK_MS now in force. -/
def execLeakPeriod (n : StudId) (d : TDirId) (s : State) : Res :=
  let t := s.tdir n d
  if (s.tenon n).st ≠ 2 ∧ (s.tenon n).st ≠ 3 then .next s
  else
    let counts := (t.counts.map (fun e => (e.1, e.2 - 1))).filter (fun e => e.2 != 0)
    .next (s.setTdir n d { t with counts := counts, leakLen := s.leakMs })

/-- SPARE_PRBS_ERROR (R196, R202): an idle spare of a working group, or a wire of group 63 on standby. -/
def execSparePrbsError (n : StudId) (d : TDirId) (g : Fin 64) (wire : BitVec 7) (errs : Nat) (s : State) : Res :=
  let t := s.tdir n d
  let w := wire.toNat
  let idle := (w == 72 || w == 73) && t.drives g w == 0x7F && t.held g w != 0x7E
  let standby := g.val == 63 && t.testing.isNone && decide (w < 76) && w != 74
  if (s.tenon n).st ≠ 2 ∨ (!idle && !standby) then .next s else .next (s.tenonCounts n d g 0 [(w, errs)])

/-- SIDEBAND_COPY_FAILURE (R189): 16 CRC failures in 1 ms; both copies out of use fail the link. -/
def execSidebandCopyFailure (n : StudId) (d : TDirId) (copy : Fin 2) (s : State) : Res :=
  let t := s.tdir n d
  if t.copyBad.contains copy ∨ (s.tenon n).st = 0 ∨ (s.tenon n).st = 4 then .next s
  else
    let bad := t.copyBad ++ [copy]
    let s := (s.setTdir n d { t with copyBad := bad }).recAdd 0x24 n 6 16
    .next (if bad.length = 2 then s.tenonFail n else s)

/-! ## Parking (R209) -/

/-- Every core of the stud is gated: in DEEP, held, or not working. -/
def State.allDeep (s : State) (n : Nat) : Bool :=
  (coresOf n).all (fun c => (s.core c).run == .deep || (s.core c).run == .held || !bitOf (s.stud n).cores (c % 32))

/-- PARK (R209): the stud domain has gone to DEEP. The repair state is kept, a group under test stays so: its test goes on
at WAKE. -/
def execPark (n : StudId) (s : State) : Res :=
  let t := s.tenon n
  if t.st ≠ 2 ∨ !(s.stud n).domDeep ∨ !s.allDeep n then .next s
  else .next (s.setTenon n { t with st := 3, up := t.up.frame (parkFrame 0), dn := t.dn.frame (parkFrame 0) })

/-- A message held for the stud goes on, from the sill end. -/
def State.heldMsg (s : State) (m : Msg) : State := { s with net := s.net ++ [{ m with loc := .end_ }] }

/-- What a direction deferred while PARKED is done: repairs, group by group, and a rotation that fell due (R209). -/
def State.runDeferred (s : State) (n : Nat) (d : TDirId) : State :=
  let t := s.tdir n d
  let s := s.setTdir n d ({ t with deferred := [], rotDue := false } : TenonDir)
  let s := ((t.deferred.map (·.group)).eraseDups).foldl (fun s g =>
    s.tenonCross n d g (t.deferred.filter (fun x => x.group == g))) s
  if t.rotDue then s.rotate n d else s

/-- The link is UP again: deferred work is done and held messages go on (R209). -/
def State.unpark (s : State) (n : Nat) : State :=
  let t := s.tenon n
  if t.st ≠ 3 then s
  else
    let wake (d : TenonDir) : TenonDir := (d.unframe (parkFrame 0)).frame (parkFrame 1)
    let s := s.setTenon n { t with st := 2, up := wake t.up, dn := wake t.dn }
    let s := (s.runDeferred n .up).runDeferred n .dn
    let st := s.stud n
    (st.msgHeld ++ st.msgWait).foldl State.heldMsg (s.setStud n { st with msgHeld := [], msgWait := [] })

/-- WAKE (R209). -/
def execWake (n : StudId) (s : State) : Res := .next (s.unpark n)

/-! ## The repair map (R204) -/

/-- One half of a record: RETIRED, then the wires held by SP0 and SP1 of each group (R204). -/
def TenonDir.half (d : TenonDir) : List Byte :=
  bytesOf 8 d.retired ++ (List.range 128).flatMap (fun i => bytesOf 1 (Tab.get d.spare 0x7F i))

/-- The 272-byte record of one stud. -/
def Tenon.record (t : Tenon) : List Byte := t.up.half ++ t.dn.half

/-! ## Training (R205 to R207) -/

/-- The link goes DOWN at a reset (R203). A message it had begun waits at its sending end again. -/
def State.tenonDown (s : State) (n : Nat) : State :=
  let t := s.tenon n
  let s := s.setTenon n { t with st := 0, up := t.up.stop, dn := t.dn.stop }
  { s with net := s.net.map (fun m =>
      if m.loc = .tenon true ∧ m.hdr.src = n then { m with loc := .src }
      else if m.loc = .tenon false ∧ m.hdr.dst = n then { m with loc := .end_ } else m) }

/-- Training has started (R203). -/
def State.tenonTrains (s : State) (n : Nat) : State :=
  let s := s.tenonDown n
  s.setTenon n { s.tenon n with st := 1 }

/-- The findings of one group applied to its map half (R205 step 6). -/
def TenonDir.applyFindings (t : TenonDir) (g : Nat) (bad : List Nat) : TenonDir × Nat × Nat :=
  if t.gone g then (t, 0, 0)
  else
    let r := t.repair g bad
    let t := (t.markBad g r.marks)
    let t := r.steer.foldl (fun t e => t.setHeld g e.2 e.1) t
    match r.retire with
    | some _ => ({ t with retired := t.retired ||| 2 ^ g }, r.steer.length, 1)
    | none => (t, r.steer.length, 0)

/-- The findings of a direction: group and wire. -/
def TenonDir.findings (t : TenonDir) (l : List (Nat × Nat)) : TenonDir × Nat × Nat :=
  ((l.map (·.1)).filter (· < 64)).eraseDups.foldl (fun a g =>
    let r := a.1.applyFindings g ((l.filter (fun e => e.1 == g)).map (·.2))
    (r.1, a.2.1 + r.2.1, a.2.2 + r.2.2)) (t, 0, 0)

/-- A direction of a link that comes UP (R193, R196, R205 step 9): every repair of the map is in effect. The rotation goes on with the
group that was next (DESIGN CHOICE, log entry 33). -/
def TenonDir.fresh (t : TenonDir) (leak : Nat) : TenonDir :=
  { retired := t.retired, spare := t.spare, drive := t.spare.filter (fun e => e.2 != 0x7E), cls := assignClasses t.retired,
    leakLen := leak, rotNext := t.rotNext }

/-- A finding of training: direction, group, wire, and the attempt that found it. -/
abbrev Finding := Nat × Nat × Nat × Nat

/-- Both directions of a link with the findings of attempts 1 to a (R205, step 6), and the steerings and retirements these
made. They are applied as one union to the map that training started from, not attempt by attempt (DESIGN CHOICE, log entry 33). -/
def Tenon.withFindings (t : Tenon) (found : List Finding) (a : Nat) : Tenon × Nat × Nat :=
  let seen (d : Nat) : List (Nat × Nat) := (found.filter (fun e => e.1 == d && decide (e.2.2.2 ≤ a))).map (fun e => (e.2.1, e.2.2.1))
  let u := t.up.findings (seen 0)
  let d := t.dn.findings (seen 1)
  ({ t with up := u.1, dn := d.1 }, u.2.1 + d.2.1, u.2.2 + d.2.2)
/-- A width below 32 in either direction. -/
def Tenon.narrow (t : Tenon) : Bool := decide (t.up.width < 32) || decide (t.dn.width < 32)

/-- The attempt that ends training (R206): the first that finds a width below 32 or agrees; else the third. -/
def Tenon.lastTry (t : Tenon) (found : List Finding) (fails : Nat) : Nat :=
  ([1, 2].find? (fun a => (t.withFindings found a).1.narrow || decide (fails < a))).getD 3

/-- IDENT in both directions (R205 step 1): direction 0 is UP, 1 DN. -/
def identFrames (n : Nat) : List (Nat × SbFrame) := [(0, identFrame n 0), (1, identFrame n 0)]
/-- MAP frames of the starting map, from the sill (step 2). -/
def Tenon.mapFrames (t : Tenon) : List (Nat × SbFrame) :=
  (List.range 34).map (fun i => (1, mapFrame i (ofBytes ((t.record.drop (8 * i)).take 8))))
/-- FIND frames of attempt a, each from the receiver of the direction (step 6), and AGREE from both ends (step 7). -/
def Tenon.attemptFrames (t : Tenon) (found : List Finding) : Nat → List (Nat × SbFrame)
  | 0 => []
  | a + 1 =>
    let new := found.filter (fun e => e.2.2.2 == a + 1)
    let gs := (new.map (fun e => (e.1, e.2.1))).eraseDups
    let finds := gs.flatMap (fun e =>
      let mask := maskOf ((new.filter (fun x => x.1 == e.1 && x.2.1 == e.2)).map (·.2.2.1)).eraseDups
      [0, 1].map (fun h => (1 - e.1, findFrame e.2 h mask)))
    let u := (t.withFindings found (a + 1)).1
    let agree := agreeFrame u.up.width u.dn.width (crc32 u.record)
    t.attemptFrames found a ++ finds ++ [(0, agree), (1, agree)]

/-- Training of stud n's link from the sill's map; `fails` attempts fail at step 7 or 8, and an IDENT that does not match ends
it at step 1 (R205, R206), with ATTEMPTS 1 (DESIGN CHOICE, log entry 33). It answers whether the link came UP. -/
def State.trainTenon (s : State) (n : Nat) (found : List Finding) (fails : Nat) (ident : Bool) : State × Bool :=
  let s := s.tenonDown n
  let t := s.tenon n
  if !ident then ((s.setTenon n { t with st := 4, attempts := 1, sb := identFrames n }).recAdd 0x24 n 7 1, false)
  else
    let a := t.lastTry found fails
    let r := t.withFindings found a
    let ok := !r.1.narrow && decide (fails < a)
    let s := if found = [] then s else s.mapChanged
    let s := if r.2.1 = 0 then s else s.recAdd 0x24 n 2 r.2.1
    let s := if r.2.2 = 0 then s else s.recAdd 0x24 n 3 r.2.2
    let t := { r.1 with attempts := a, sb := identFrames n ++ t.mapFrames ++ t.attemptFrames found a }
    let t := if ok then { t with st := 2, up := t.up.fresh s.leakMs, dn := t.dn.fresh s.leakMs } else { t with st := 4 }
    ((s.setTenon n t).recAdd 0x24 n 7 a, ok)

/-- The boot report of a degraded link (R207, R210). Its direction is the one with more RETIRED groups, UP if they have as many (DESIGN
CHOICE, log entry 33). -/
def degradedNotice (n : Nat) (t : Tenon) : Word :=
  let w := min t.up.width t.dn.width
  let r := max (popCount t.up.retired) (popCount t.dn.retired)
  let d := if popCount t.up.retired < popCount t.dn.retired then TDirId.dn else TDirId.up
  notice 0x31 2 6 (tenonDetail n d 0 3) (0xFF * 2 ^ 24 + 0xFF * 2 ^ 16 + w * 2 ^ 8 + r)

end Sys2Proof.Machine
end

