-- ==== Sys2Proof/Machine/Mem.lean ====
section
/-! DEFINITION. Memory controllers: queues and the scheduler (R222 to R227, R245), refresh and temperature (R228,
R229), row-hammer defence (R230, R231), power states (R232, R233), decoding and marks (R238 to R241), the patrol (R154, R242),
clearing (R237), and the end of training (R217, R218, R234 to R236). Nothing here is timed (log entry 21). -/

namespace Sys2Proof.Machine

/-! ## Where a local line lies, and which line it is -/

/-- The memory key of a line that the queues of channel c name. -/
def State.queueKey (s : State) (c x : Nat) : Nat :=
  if (s.chan c).edge x then keyEdge (c / 4) (x - (s.chan c).lines) else keyChan c x

/-- 2 MiB regions: 32,768 lines (R237). -/
def regionOf (x : Nat) : Nat := x / 32768
def Chan.isClear (c : Chan) (x : Nat) : Bool := c.clearDone || c.cleared.contains (regionOf x)
/-- Regions of the channel. -/
def Chan.regions (c : Chan) : Nat := c.lines / 32768

/-- The controllers' domain of a channel, in LOW (R374, R375). -/
def State.chanLow (s : State) (c : Nat) : Bool := s.domStateOf (26 + c / 8) == 3

/-- The controller of a bay's line, and the line as its queues name it (R219, R220). -/
def State.localOf (s : State) (b line : Nat) : Nat × Nat :=
  match s.place (s.frameOfStud b) (line * 64) with
  | .chan c x => (c, x)
  | .edge q slot => let c := (s.activeChans q).headD (4 * q); (c, (s.chan c).lines + slot)

/-- The address of place z of quadrant k (the inverse of place, R219), with the hole (hole = 1) or without. -/
def unplaceAt (mode f k z : Nat) (hole : Bool) : Nat :=
  let l := studsOf mode f
  let B := l.length
  let m := 12 / max B 1
  let z := if hole then z + m * (4194303 + holeBays B (k - bridgeOf mode f)) else z
  let d := z / (3 * m)
  let j := z / m % 3
  let r := z % m
  let i := ((List.range B).find? (fun i => l.getD i 0 == 3 * k + j)).getD 0
  let t := if B = 12 then i / 4 else if B = 6 then i / 2 else i
  let u := 3 * d + t
  let hi := u * 256
  let x := bits hi 15 14 ^^^ bits hi 23 22 ^^^ bits hi 31 30 ^^^ bits hi 39 38
  let lo := if B = 12 then (i % 4) ^^^ x else if B = 6 then r * 2 + ((i % 2) ^^^ (x % 2)) else r
  hi + lo * 64

/-- The local address of place z of quadrant k. -/
def unplace (mode f k z : Nat) : Nat :=
  let a := unplaceAt mode f k z false
  if a < 0xC0000000 then a else unplaceAt mode f k z true

/-- The local address of local line x of channel c. -/
def State.chanPa (s : State) (c x : Nat) : Nat :=
  let f := frameOfChan s.mode c
  let l := s.activeChans (c / 4)
  let i := (l.findIdx? (· == c)).getD 0
  unplace s.mode f (c / 4) (x * (s.frame f).nCh + i)

/-- The local address of a line that the queues of channel c name. -/
def State.queuePa (s : State) (c x : Nat) : Nat :=
  if (s.chan c).edge x then
    let f := frameOfChan s.mode c
    unplace s.mode f (c / 4) ((s.frame f).nCh * (s.frame f).perCh + (x - (s.chan c).lines))
  else s.chanPa c x

/-! ## Decoding (R238 to R241) -/

/-- The 16 check symbols of 64 data symbols: Reed-Solomon over GF(2^8) with polynomial x^8 + x^4 + x^3 + x^2 + 1 and roots a^0 to a^15,
systematic (R238). Symbol 0 is the coefficient of the highest power (DESIGN CHOICE, log entry 40). -/
def dramChecks (data : List Nat) : List Nat := rsParity 8 0x11D (rsGen 8 0x11D 0 16) data

/-- The 80 symbols that a line is stored as (R238): its data bytes, then the check symbols, each XORed with 0xFF where the line is
poisoned. -/
def dramWord (l : Line) (poison : Bool) : List Nat :=
  let data := (bytesOf 64 l.toNat).map (·.toNat)
  data ++ (dramChecks data).map (fun c => if poison then c ^^^ 0xFF else c)
/-- The device of symbol i; it is burst symbol i mod 8 there (R238). -/
def symDevice (i : Nat) : Nat := i / 8
/-- What device d drives in beat t of 16: the low nibble of burst symbol t / 2, then its high nibble. -/
def dramBeat (w : List Nat) (d t : Nat) : Nat := bits (w.getD (8 * d + t / 2) 0) (4 * (t % 2) + 3) (4 * (t % 2))
/-- A planted error: bit 0 of each symbol of the device inverted (R334). -/
def plantDevice (w : List Nat) (d : Nat) : List Nat := w.mapIdx (fun i b => if symDevice i = d then b ^^^ 1 else b)
/-- The data of a word as read. -/
def wordLine (w : List Nat) : Line := lineOf ((w.take 64).map (BitVec.ofNat 8))

/-- A line of free values (log entry 2). -/
def State.takeLine (s : State) (n : Nat) (acc : Nat) : Line × State :=
  match n with
  | 0 => (BitVec.ofNat 512 acc, s)
  | k + 1 =>
    let (w, s) := s.take
    State.takeLine s k (acc * 2 ^ 64 + w.toNat)

/-- An event of channel c on a line (R408): sub-instance 16 x rank + subchannel. -/
def chanEvent (s : State) (c cls code sub detail : Nat) (pa : Nat) (bin : Nat) : ErrEv :=
  { cls := cls, src := 5, code := code, inst := c, sub := sub, pa := some pa, detail := detail,
    frame := some (frameOfChan s.mode c), bin := if code = 0x20 then some (0x20, c, bin) else none }

/-- A corrected read adds 1 to a device's count and may mark the device (R240). -/
def State.devCount (s : State) (c rho sub d : Nat) : State :=
  let ch := s.chan c
  let key := (2 * rho + sub) * 10 + d
  let n := Tab.get ch.devCnt 0 key + 1
  let ch := { ch with devCnt := Tab.put ch.devCnt 0 key n }
  if ch.ecc.getLsbD 39 ∧ fld ch.ecc 47 40 ≤ n ∧ (Tab.find ch.marks (2 * rho + sub)).isNone then
    let m : Mark := { device := d, count := n, serial := ch.serialOf rho, stamp := s.stamp }
    let s := s.setChan c { ch with marks := Tab.set ch.marks (2 * rho + sub) m }
    let s := { s with scribe := { s.scribe with jMarks := Tab.set s.scribe.jMarks (c * 64 + 2 * rho + sub) m } }
    s.post [frameOfChan s.mode c] (notice 0x15 3 5 (c * 256 + 0x20)
      (frameOfChan s.mode c * 2 ^ 30 + rho * 2 ^ 16 + sub * 2 ^ 12 + d * 2 ^ 8))
  else s.setChan c ch

/-- What a DRAM read of the line shows: a planted error stands before what the command names (R334). -/
def State.seenWord (s : State) (key : Nat) (word : ReadWord) : ReadWord :=
  match Tab.find s.memBad key with
  | some b =>
    if (b - 1) / 10 = 0 then .oneDevice (Fin.ofNat 10 ((b - 1) % 10)) else .twoDevices false
  | none => word

/-- A DRAM read of local line x of channel c decoded (R239): data, mark, and the line afterwards. A rewrite gives way to
a queued write. 0: no error, or one found before; 1: corrected; 2: uncorrectable, found now. -/
def State.decodeRead (s : State) (c x : Nat) (word : ReadWord) (pa : Nat) : State × Line × Bool × Nat :=
  let key := keyChan c x
  let ch := s.chan c
  let b := dramOf ch.nr x
  let l := s.memLine key
  let sub := 16 * b.rank + b.sub
  let mark := Tab.find ch.marks (2 * b.rank + b.sub)
  let queued := ch.wq.any (fun e => e.x == x)
  let planted := (Tab.find s.memBad key).isSome
  let clean (s : State) : State := { s with memBad := Tab.erase s.memBad key }
  let fixed (d : Nat) : State × Line × Bool × Nat :=
    (((clean s).report { chanEvent s c 0 0x20 sub d pa (20 * b.rank + 10 * b.sub + d) with injected := planted }).devCount c b.rank b.sub d,
      l.1, l.2, 1)
  let lost : State × Line × Bool × Nat :=
    let d := (Tab.get s.memBad 1 key - 1) % 10
    let (v, s) := if planted then (wordLine (plantDevice (plantDevice (dramWord l.1 l.2) d) ((d + 1) % 10)), s) else s.takeLine 8 0
    let found := s.memFound.contains key
    let s := if queued then clean s else (clean s).setMemLine key v true
    let s := { s with memFound := listAdd s.memFound key }
    let s := if found then s else s.report { chanEvent s c 1 0x20 sub 0 pa (320 + b.rank) with injected := planted }
    (s, v, true, if found then 0 else 2)
  match s.seenWord key word with
  | .asStored | .edgeOne | .edgeTwo => (s, l.1, l.2, 0)
  | .oneDevice d => fixed d
  | .markedPlus4 d =>
    match mark with
    | some _ =>
      ((clean s).report { chanEvent s c 0 0x20 sub d pa (20 * b.rank + 10 * b.sub + d) with injected := planted }, l.1, l.2, 1)
    | none => lost
  | .twoDevices _ => lost

/-- A read of edge slot `slot` of quadrant q decoded (R220, R239). -/
def State.decodeEdge (s : State) (q slot : Nat) (word : ReadWord) (pa : Nat) : State × Line × Bool × Nat :=
  let key := keyEdge q slot
  let c := (s.activeChans q).headD (4 * q)
  let l := s.memLine key
  match word with
  | .edgeOne => (s.report (chanEvent s c 0 0x21 0 0 pa 0), l.1, l.2, 1)
  | .edgeTwo =>
    let found := s.memFound.contains key
    let (v, s) := s.takeLine 8 0
    let queued := (s.chan c).wq.any (fun e => e.x == (s.chan c).lines + slot)
    let s := if queued then s else s.setMemLine key v true
    let s := { s with memFound := listAdd s.memFound key }
    (if found then s else s.report (chanEvent s c 1 0x21 0 0 pa 0), v, true, if found then 0 else 2)
  | _ => (s, l.1, l.2, 0)

/-- A read of a line that the queues of channel c name, decoded. -/
def State.decodeQueued (s : State) (c x : Nat) (word : ReadWord) (pa : Nat) : State × Line × Bool × Nat :=
  if (s.chan c).edge x then s.decodeEdge (c / 4) (x - (s.chan c).lines) word pa else s.decodeRead c x word pa

/-! ## Rows and banks (R225, R230, R231) -/

/-- Counting for refresh management runs (R231). -/
def Chan.rfm (c : Chan) : Bool := (c.res.rfmReq || c.rh.getLsbD 14) && c.res.raaimt != 0
/-- The ACT is barred by RAAMMT. -/
def Chan.barred (c : Chan) (b : Bank) : Bool := c.rfm && c.res.raammt != 0 && decide (c.res.raammt ≤ b.raa)

/-- An ACT: the generator steps and a row it selects is remembered (R230); the bank's count rises (R231). -/
def Chan.act (c : Chan) (k row : Nat) : Chan :=
  let b := c.bank k
  let g := genStep c.gen
  let sel := fld g (fld c.rh 4 0 - 1) 0 == 0
  ({ c with gen := g }).setBank k { b with row := some row, sel := sel, raa := if c.rfm then b.raa + 1 else b.raa }

/-- A queued request for the rank (R228, R232). -/
def Chan.busy (c : Chan) (r : Nat) : Bool :=
  c.rq.any (fun e => !c.edge e.x && c.rankOf e.x == r) || c.wq.any (fun e => !c.edge e.x && c.rankOf e.x == r)

/-- ACT_SELECTION (R230): an ACT to a closed bank; with a sample pending it waits for its DRFM. -/
def execActSelection (ch : ChanId) (rank : Fin 16) (bank : Fin 64) (row : Nat) (s : State) : Res :=
  let c := s.chan ch
  let k := rank.val * 64 + bank.val
  if c.st ≠ 2 ∨ c.nr ≤ rank.val ∨ (c.rank rank).sr ∨ (c.bank k).row.isSome ∨ (c.bank k).sample.isSome ∨ c.barred (c.bank k) then
    .next s
  else .next (s.setChan ch (c.act k row))

/-- PAGE_IDLE_CLOSE (R225). -/
def execPageIdleClose (ch : ChanId) (rank : Fin 16) (bank : Fin 64) (s : State) : Res :=
  let c := s.chan ch
  let k := rank.val * 64 + bank.val
  if c.st ≠ 2 then .next s else .next (s.setChan ch (c.setBank k (c.bank k).close))

/-! ## Queues (R222, R226, R227) -/

/-- Entries in use beyond the reserved ones (R222): 8 for each bay, 2 for the scrubbers and clearing. -/
def sharedUsed (l : List Nat) : Nat :=
  (List.range 13).foldl (fun n b =>
    let k := (l.filter (fun x => if b = 12 then decide (12 ≤ x) else x == b)).length
    n + (k - (if b = 12 then 2 else 8))) 0

/-- Another entry of source src fits (R222). -/
def queueRoom (l : List Nat) (src : Nat) : Bool := decide (l.length < 96) && decide (sharedUsed (l ++ [src]) ≤ 70)

/-- The bay miss register of home b whose line waits for DRAM. -/
def Home.bmrOf (h : Home) (line : Nat) : Option (Nat × Bmr) := h.bmrs.find? (fun e => e.2.line == line && e.2.data.isNone)

/-- Data reaches the miss register of bay b (R135). -/
def State.bmrData (s : State) (b line : Nat) (d : Line × Bool) : State :=
  let h := s.home b
  match h.bmrOf line with
  | some (k, r) => s.setHome b { h with bmrs := Tab.set h.bmrs k { r with data := some d } }
  | none => s

/-- RCID and MCID that a read of bay b is charged to (R244): none for a preload. -/
def State.chargeOf (s : State) (b : Nat) (r : Bmr) : Nat × Nat :=
  match Tab.find (s.home b).txs r.htx with
  | some t => (t.rcid, t.mcid)
  | none => (0, 0)

/-- A read put into the queue: the exit from self-refresh starts (R233). While the domain is in LOW it waits (R375). -/
def State.queueRead (s : State) (ch : Nat) (e : RdEnt) : State :=
  let c := s.chan ch
  let low := s.chanLow ch
  let c := { c with rq := c.rq ++ [{ e with age := c.ageNo, wait_ := low, at_ := s.scribe.upTicks }], ageNo := c.ageNo + 1 }
  s.setChan ch (if low then c else c.wakeRank e.x)

/-- READ_QUEUED (R226): answered at once from the youngest queued write of the line, without an access, else queued. Sources 12 to 14
are the patrol, range scrubs and the clearing, which name a line as the queues do; the patrol leaves ranks in self-refresh
(R242). -/
def execReadQueued (ch : ChanId) (src : Nat) (line : Nat) (s : State) : Res :=
  let c := s.chan ch
  let first := (s.activeChans (ch / 4)).head? == some ch.val
  if c.st ≠ 2 ∨ !queueRoom (c.rq.map (·.src)) src then .next s
  else if 12 ≤ src then
    if 15 ≤ src ∨ c.lines + (if first then 4 else 0) ≤ line ∨ c.wq.any (fun e => e.x == line) ∨
        (src = 12 ∧ !c.edge line ∧ (c.rank (c.rankOf line)).sr) then .next s
    else .next (s.queueRead ch { src := src, x := line })
  else
    match (s.home src).bmrOf line with
    | some (_, r) =>
      let p := s.localOf src line
      if p.1 ≠ ch.val ∨ c.rq.any (fun e => e.src == src && e.line == line) then .next s
      else
        match c.wq.reverse.find? (fun e => e.x == p.2) with
        | some e => .next (s.bmrData src line (e.data, e.poison))
        | none =>
          let q := s.chargeOf src r
          .next (s.queueRead ch { src := src, line := line, x := p.2, rcid := q.1, mcid := q.2 })
    | none => .next s

/-- A line of the victim buffer leaves bay b. -/
def Home.dropVictim (h : Home) (line : Nat) : Home := { h with victims := h.victims.filter (fun v => v.line != line) }

/-- WRITE_QUEUED (R226, R227): performed as it enters the write queue; a write of a line already queued replaces that
entry's data and mark. A domain in LOW holds it back (R375). -/
def execWriteQueued (ch : ChanId) (b : BayId) (line : Nat) (s : State) : Res :=
  let c := s.chan ch
  match (s.home b).victims.find? (fun v => v.line == line) with
  | none => .next s
  | some v =>
    let p := s.localOf b line
    if c.st ≠ 2 ∨ s.chanLow ch ∨ p.1 ≠ ch.val then .next s
    else
      let done (c : Chan) : Res :=
        let s := s.setChan ch c
        .next ((s.setHome b ((s.home b).dropVictim line)).homeRun b)
      if c.wq.any (fun e => e.x == p.2) then
        done { c with wq := c.wq.map (fun e => if e.x = p.2 then
          { e with data := v.data, poison := v.poison, rcid := v.rcid, mcid := v.mcid } else e) }
      else if !queueRoom (c.wq.map (fun e => homeBay s.mode (frameOfChan s.mode ch) (e.line * 64))) b then .next s
      else
        let e : WrEnt := { line := line, data := v.data, poison := v.poison, age := c.ageNo, x := p.2, rcid := v.rcid,
                           mcid := v.mcid, at_ := s.scribe.upTicks }
        done (({ c with wq := c.wq ++ [e], ageNo := c.ageNo + 1 } : Chan).wakeRank p.2)

/-- READ_DATA_RETURN (R226, R239): the data of a read whose column command was issued. -/
def execReadDataReturn (ch : ChanId) (idx : Nat) (word : ReadWord) (s : State) : Res :=
  let c := s.chan ch
  match c.rq[idx]? with
  | none => .next s
  | some e =>
    if !e.issued ∨ c.st ≠ 2 then .next s
    else
      let s := s.setChan ch { c with rq := c.rq.eraseIdx idx }
      let pa := if e.src < 12 then e.line * 64 else s.queuePa ch e.x
      let (s, d, p, _) := s.decodeQueued ch e.x word pa
      .next (if e.src < 12 then s.bmrData e.src e.line (d, p) else s)

/-- WRITE_BURST_DONE (R226, R241): the line is stored, with the poison encoding if it is marked. -/
def execWriteBurstDone (ch : ChanId) (idx : Nat) (s : State) : Res :=
  let c := s.chan ch
  match c.wq[idx]? with
  | none => .next s
  | some e =>
    if !e.issued ∨ c.st ≠ 2 then .next s
    else
      let key := s.queueKey ch e.x
      let s := (s.setChan ch { c with wq := c.wq.eraseIdx idx }).setMemLine key e.data e.poison
      .next { s with memBad := Tab.erase s.memBad key }

/-! ## The scheduler (R223 to R226, R229, R245, R367) -/

/-- A request that could be issued. -/
structure Cand where
  write : Bool
  idx : Nat
  x : Nat
  age : Nat
  at_ : Nat
  rcid : Option Nat
  mcid : Nat

/-- A queued line can be accessed: its region is clear and its rank takes commands; an edge line always can (R220, R233, R237). -/
def Chan.open_ (c : Chan) (x : Nat) : Bool := c.edge x || (c.isClear x && !(c.rank (c.rankOf x)).sr)

/-- Reads ready on a subchannel. -/
def Chan.reads (c : Chan) (sub : Nat) : List Cand :=
  (c.rq.zipIdx.filter (fun e => !e.1.issued && !e.1.wait_ && e.1.x % 2 == sub && c.open_ e.1.x)).map
    (fun e => { write := false, idx := e.2, x := e.1.x, age := e.1.age, at_ := e.1.at_,
                rcid := if e.1.src < 12 then some e.1.rcid else none, mcid := e.1.mcid })

/-- Writes ready on a subchannel: a write waits for an unissued read of its line (R226). -/
def Chan.writes (c : Chan) (sub : Nat) : List Cand :=
  (c.wq.zipIdx.filter (fun e => !e.1.issued && e.1.x % 2 == sub && c.open_ e.1.x &&
    !c.rq.any (fun r => !r.issued && r.x == e.1.x))).map
    (fun e => { write := true, idx := e.2, x := e.1.x, age := e.1.age, at_ := e.1.at_, rcid := some e.1.rcid, mcid := e.1.mcid })

/-- The write-drain mode after a look at the queues (R224). -/
def Chan.drainNow (c : Chan) (readReady : Bool) : Bool :=
  if c.drain then !(decide (c.wq.length ≤ fld c.sched 23 16) && readReady)
  else decide (fld c.sched 31 24 ≤ c.wq.length) || !readReady

/-- Bytes of the group's peak in one window of 1 µs (R244, R245). -/
def State.windowPeak (s : State) (q : Nat) : Nat :=
  let f := frameOfQuad s.mode q
  (s.frame f).nCh * (s.frame f).rate * 8

/-- Requests within their share, else those beyond it of the RCID least served for its weight, else the scrubbers'
(R245). -/
def Cbqri.allows (b : Cbqri) (l : List Cand) : List Cand :=
  let used (r : Nat) : Nat := Tab.get b.used 0 r
  let within := l.filter (fun e => e.rcid.elim false (fun r => decide (used r + 64 ≤ Tab.get b.share 0 r)))
  if !within.isEmpty then within
  else
    let beyond := l.filter (fun e => e.rcid.elim false (fun r => Tab.get b.weightOn 255 r != 0))
    let cost (e : Cand) : Nat := e.rcid.elim 0 (fun r => (used r - Tab.get b.share 0 r) * 256 / max 1 (Tab.get b.weightOn 255 r))
    match beyond with
    | e :: r =>
      let m := r.foldl (fun m e => min m (cost e)) (cost e)
      beyond.filter (fun e => cost e == m)
    | [] => l.filter (fun e => e.rcid.isNone)

/-- The oldest of a list. -/
def oldest (l : List Cand) : Option Cand :=
  l.foldl (fun a e => match a with
    | none => some e
    | some b => if e.age < b.age then some e else some b) none

/-- A queued request that is not issued hits the open row (R225). -/
def Chan.hitQueued (c : Chan) (k row : Nat) : Bool :=
  let hit (x : Nat) : Bool := !c.edge x && c.bankKey x == k && (dramOf c.nr x).row == row
  c.rq.any (fun e => !e.issued && hit e.x) || c.wq.any (fun e => !e.issued && hit e.x)

/-- The request's column command needs no other command first: its row is open, or it is an edge line. -/
def Chan.hits (c : Chan) (x : Nat) : Bool := c.edge x || (c.bank (c.bankKey x)).row == some (dramOf c.nr x).row

/-- A request older than AGE_CAP, in units of 100 ns, at system tick now (R223). -/
def Chan.aged (c : Chan) (now : Nat) (e : Cand) : Bool := decide (10 * fld c.sched 7 0 < now - e.at_)

/-- A command of the request can be issued now: a bank that another row keeps open is closed for an aged request, and else once no queued
request hits that row (R223, R225); an ACT may be barred (R231). -/
def Chan.able (c : Chan) (now : Nat) (e : Cand) : Bool :=
  c.hits e.x ||
  (let k := c.bankKey e.x
   match (c.bank k).row with
   | some r => c.aged now e || !c.hitQueued k r
   | none => !c.barred (c.bank k))

/-- The order of R223: an aged request first, oldest first; else reads before writes, or in write drain writes before reads;
among these column commands to open rows, then the oldest. -/
def Chan.pick (c : Chan) (now : Nat) (l : List Cand) : Option Cand :=
  match oldest (l.filter (c.aged now)) with
  | some e => some e
  | none =>
    let first := l.filter (fun e => e.write == c.drain)
    let d := if first.isEmpty then l else first
    match oldest (d.filter (fun e => c.hits e.x)) with
    | some e => some e
    | none => oldest d

/-- A directed refresh or refresh management that is due on the subchannel goes first (R223, R230, R231): a DRFMsb of a sampled row;
an RFMsb of the bank index of a bank that has reached RAAIMT, in every group, with a precharge first where one of them is open. -/
def Chan.due (c : Chan) (sub : Nat) : Option Chan :=
  let l := c.banks.filter (fun e => e.1 / 32 % 2 == sub && !(c.rank (e.1 / 64)).sr)
  match l.find? (fun e => e.2.sample.isSome && e.2.row.isNone) with
  | some (k, b) => some ({ c.setBank k { b with sample := none } with drfm := some (k, b.sample.getD 0, fld c.rh 11 8) })
  | none =>
    match l.find? (fun e => c.rfm && decide (c.res.raaimt ≤ e.2.raa)) with
    | some (k, _) =>
      let same (e : Nat) : Bool := e / 32 == k / 32 && e % 4 == k % 4
      if c.banks.any (fun e => same e.1 && e.2.row.isSome) then some (c.mapBanks same Bank.close)
      else some (c.mapBanks same (fun b => { b with raa := b.raa - max 1 c.res.raadec }))
    | none => none

/-- A column command: the entry is issued and its bytes are charged (R244, R245). -/
def State.column (s : State) (ch : Nat) (e : Cand) : State :=
  let c := s.chan ch
  let b := s.bw (ch / 4)
  let b := match e.rcid with
    | some r => { b with used := Tab.put b.used 0 r (Tab.get b.used 0 r + 64) }
    | none => b
  let b := if e.rcid.isNone then b
    else if e.write then { b with wr := Tab.put b.wr 0 e.mcid (Tab.get b.wr 0 e.mcid + 64) }
    else { b with rd := Tab.put b.rd 0 e.mcid (Tab.get b.rd 0 e.mcid + 64) }
  let s := s.setBw (ch / 4) b
  if e.write then s.setChan ch { c with wq := c.wq.modify e.idx (fun w => { w with issued := true }) }
  else s.setChan ch { c with rq := c.rq.modify e.idx (fun w => { w with issued := true }) }

/-- The row of an issued request is closed after its last queued hit where PAGE_IDLE = 0 (R225). -/
def Chan.afterColumn (c : Chan) (x : Nat) : Chan :=
  let k := c.bankKey x
  if !c.edge x ∧ fld c.sched 15 8 = 0 ∧ !c.hitQueued k (dramOf c.nr x).row then c.setBank k (c.bank k).close else c

/-- Requests of the subchannel that can be served now and that their budgets let go (R223, R245). -/
def State.slotReady (s : State) (ch sub : Nat) : List Cand :=
  let c := s.chan ch
  (s.bw (ch / 4)).allows ((c.reads sub ++ c.writes sub).filter (c.able s.scribe.upTicks))

/-- An edge line is served beside the DRAM commands, which do not delay it: it needs no device access (R220). -/
def State.serveEdge (s : State) (ch sub : Nat) : State :=
  let c := s.chan ch
  match c.pick s.scribe.upTicks ((s.slotReady ch sub).filter (fun e => c.edge e.x)) with
  | some e => s.column ch e
  | none => s

/-- COMMAND_SLOT (R223): one command of the subchannel, and an edge line served. A channel limited by heat or by a power failure uses one
slot in two or four (R229, R367). A quota holds a request back before the age cap can lift it (R245). -/
def execCommandSlot (ch : ChanId) (sub : Fin 2) (s : State) : Res :=
  let s := s.setChan ch { s.chan ch with slotNo := (s.chan ch).slotNo + 1 }
  let slot := (s.chan ch).slotNo - 1
  let now := s.scribe.upTicks
  if (s.chan ch).st ≠ 2 ∨ s.chanLow ch then .next s
  else
    let s := s.serveEdge ch sub
    let c := s.chan ch
    if (c.quarter ∧ slot % 4 ≠ 0) ∨ (c.limited ∧ slot % 2 ≠ 0) then .next s else
    match c.due sub with
    | some c => .next (s.setChan ch c)
    | none =>
      let c := { c with drain := c.drainNow (!(c.reads 0).isEmpty || !(c.reads 1).isEmpty) }
      let s := s.setChan ch c
      match c.pick now ((s.slotReady ch sub).filter (fun e => !c.edge e.x)) with
      | none => .next s
      | some e =>
        let c' := c.wakeRank e.x
        if c.hits e.x then
          let s := (s.setChan ch c').column ch e
          .next (s.setChan ch ((s.chan ch).afterColumn e.x))
        else
          let k := c.bankKey e.x
          if (c.bank k).row.isSome then .next (s.setChan ch (c'.setBank k (c.bank k).close))
          else .next (s.setChan ch (c'.act k (dramOf c.nr e.x).row))

/-- BANDWIDTH_WINDOW (R245): limits written apply, and budgets start anew. -/
def execBandwidthWindow (q : QuadId) (s : State) : Res :=
  let b := s.bw q
  let share := b.rbwb.map (fun e => (e.1, e.2 * s.windowPeak q / 1000))
  .next (s.setBw q { b with used := [], share := share, weightOn := b.weight })

/-! ## Refresh, temperature and power states (R228, R229, R232) -/

/-- REFRESH_DUE (R228): a busy rank uses one pulled in, or postpones up to POSTPONE and then refreshes; an idle rank
makes up what it postponed and pulls one in. -/
def execRefreshDue (ch : ChanId) (rank : Fin 16) (s : State) : Res :=
  let c := s.chan ch
  let k := c.rank rank
  if c.st ≠ 2 ∨ c.nr ≤ rank.val ∨ k.sr then .next s
  else if c.busy rank then
    if 0 < k.pulled then .next (s.setChan ch (c.setRank rank { k with pulled := k.pulled - 1 }))
    else if k.postponed < fld c.refresh 7 4 then .next (s.setChan ch (c.setRank rank { k with postponed := k.postponed + 1 }))
    else .next (s.setChan ch (c.refreshNow rank))
  else
    let extra := if k.pulled < 4 ∧ k.postponed = 0 then 1 else 0
    let c := c.setRank rank { k with postponed := 0, pulled := k.pulled + extra }
    .next (s.setChan ch (c.refreshes rank (1 + k.postponed + extra)))

/-- MR4_READ (R229): temperatures in 0.01 °C. A hot rank is cool again after three reads in a row at or below 85 °C with no hotter
reading of its module between them. -/
def execMr4Read (ch : ChanId) (rank : Fin 16) (temp : Int) (s : State) : Res :=
  let c := s.chan ch
  let k := c.rank rank
  if c.st ≠ 2 ∨ c.nr ≤ rank.val then .next s
  else if 8500 < temp then .next (s.setChan ch (c.setRank rank { k with hot := true, coolRd := 0 }))
  else if !k.hot then .next s
  else
    let n := k.coolRd + 1
    .next (s.setChan ch (c.setRank rank (if 3 ≤ n then { k with hot := false, coolRd := 0 } else { k with coolRd := n })))

/-- A temperature as the 16 bits of a notice. -/
def temp16 (t : Int) : Nat := (t % 65536).toNat

/-- A THERMAL notice (R400). -/
def thermalNotice (kind inst event : Nat) (t : Int) (mhz : Nat) : Word :=
  notice 0x20 2 9 (kind * 2 ^ 12 + inst * 2 ^ 8 + event) (temp16 t * 2 ^ 16 + mhz)

/-- MODULE_SENSOR_READ (R229): a module above 85 °C makes its ranks hot; above 95 °C the channel is limited, until every sensor of
the channel reads 90 °C or less. -/
def execModuleSensorRead (ch : ChanId) (dimm : Fin 2) (temps : List Int) (s : State) : Res :=
  let c := s.chan ch
  if c.st ≠ 2 ∨ c.res.dpc ≤ dimm.val ∨ temps = [] then .next s
  else
    let high (l : List Int) : Int := l.foldl max (l.headD 0)
    let c := { c with modTemps := Tab.set c.modTemps dimm temps }
    let c : Chan := if 8500 < high temps then
        (List.range c.nr).foldl (fun c r =>
          if c.dimmOf r = dimm.val then c.setRank r { c.rank r with hot := true, coolRd := 0 } else c) c
      else c
    let top := high (c.modTemps.flatMap (fun (e : Nat × List Int) => e.2))
    let f := frameOfChan s.mode ch
    if c.limited = false ∧ 9500 < top then
      .next ((s.setChan ch { c with limited := true }).post [f] (thermalNotice 2 ch 3 top 0))
    else if c.limited = true ∧ top ≤ 9000 then
      .next ((s.setChan ch { c with limited := false }).post [f] (thermalNotice 2 ch 4 top 0))
    else .next (s.setChan ch c)

/-- POWER_DOWN_ENTRY (R232): PD_IDLE = 0 disables it. -/
def execPowerDownEntry (ch : ChanId) (rank : Fin 16) (s : State) : Res :=
  let c := s.chan ch
  let k := c.rank rank
  if c.st ≠ 2 ∨ c.nr ≤ rank.val ∨ k.sr ∨ c.busy rank ∨ fld c.pwr 5 0 = 0 then .next s
  else
    let c := c.closeRank rank
    .next (s.setChan ch (c.setRank rank { k with pd := true }))

/-- SELF_REFRESH_ENTRY (R232): no queued request, no refresh owed, no DRFM or RFM due. -/
def execSelfRefreshEntry (ch : ChanId) (rank : Fin 16) (s : State) : Res :=
  let c := s.chan ch
  let k := c.rank rank
  let d := c.closeRank rank
  let owed := d.banks.any (fun e => e.1 / 64 == rank.val && (e.2.sample.isSome || (c.rfm && decide (c.res.raaimt ≤ e.2.raa))))
  if c.st ≠ 2 ∨ c.nr ≤ rank.val ∨ k.sr ∨ c.busy rank ∨ fld c.pwr 15 6 = 0 ∨ 0 < k.postponed ∨ owed then .next s
  else .next (s.setChan ch (d.setRank rank { k with sr := true, pd := false }))

/-- DRIFT_TRACK (R234). -/
def execDriftTrack (ch : ChanId) (s : State) : Res :=
  let c := s.chan ch
  if c.st ≠ 2 then .next s else .next (s.setChan ch { c with drift := c.drift + 1 })

/-- DEVICE_COUNT_LEAK (R240). -/
def execDeviceCountLeak (ch : ChanId) (s : State) : Res :=
  let c := s.chan ch
  .next (s.setChan ch { c with devCnt := (c.devCnt.map (fun e => (e.1, e.2 - 1))).filter (fun e => e.2 != 0) })

/-! ## Scrubbing (R154, R242, R243) -/

/-- A range scrub of the frame runs: the patrol pauses (R243). -/
def State.scrubbing (s : State) (f : Nat) : Bool :=
  s.plumb.jobs.any (fun j => j.opcode == 0x30 && j.running && j.res.contains (0x3000 + f))

/-- The pass goes on behind line x; it ends once every line has been read, those of ranks that were in self-refresh too (R242). -/
def Chan.patrolOn (c : Chan) (last : Nat) : Chan :=
  if last ≤ c.patrol ∧ c.patrolDue = [] then { c with patrol := 0, passes := satAdd 16 c.passes 1 } else c

/-- PATROL_READ (R242): the next line is read and decoded; a line with a write queued is skipped, and one of a rank in self-refresh is
left until the rank is awake, so that the pass ends late. The pass of the quadrant's first channel ends with the edge store. -/
def execPatrolRead (ch : ChanId) (word : ReadWord) (s : State) : Res :=
  let c := s.chan ch
  let f := frameOfChan s.mode ch
  if c.st ≠ 2 ∨ !c.clearDone ∨ !c.patrolCtl.getLsbD 8 ∨ s.scrubbing f ∨ s.chanLow ch then .next s
  else
    let first := (s.activeChans (ch / 4)).head? == some ch.val
    let last := c.lines + (if first then 4 else 0)
    let asleep (x : Nat) : Bool := !c.edge x && (c.rank (c.rankOf x)).sr
    let read (c : Chan) (x : Nat) : Res :=
      let queued := c.wq.any (fun e => e.x == x)
      let s := s.setChan ch (({ c with skips := c.skips + b2n queued } : Chan).patrolOn last)
      .next (if queued then s else (s.decodeQueued ch x word (s.queuePa ch x)).1)
    match c.patrolDue.find? (fun x => !asleep x) with
    | some x => read { c with patrolDue := c.patrolDue.erase x } x
    | none =>
      let x := c.patrol
      let on := { c with patrol := x + 1 }
      if last ≤ x then .next s
      else if asleep x then .next (s.setChan ch { on with patrolDue := c.patrolDue ++ [x], skips := c.skips + 1 })
      else read on x

/-- An error that the patrol finds in a way of the set it walks: in a bench way it is corrected, or the line takes the poison mark
(R144); in a caching way it is met as any error of the line is (R154). -/
def State.patrolFind (s : State) (b set w : Nat) (uncorr : Bool) : State :=
  let h := s.home b
  if w < h.bench then
    let off := w * 0x400000 + set * 64
    let key := keyBench b off
    let pa := some (benchBase b + off)
    if uncorr then
      let l := s.memLine key
      if l.2 then s else (s.setMemLine key l.1 true).report (bayEvent s 1 0x12 b true pa false)
    else s.report (bayEvent s 0 0x12 b false pa false)
  else match Tab.find h.cache (set * 16 + w) with
    | some e => s.setHome b { h with cache := Tab.set h.cache (set * 16 + w) { e with bad := if e.bad ≠ 0 then e.bad else 3 + b2n uncorr } }
    | none => s

/-- BAY_PATROL_STEP (R144, R154): the errors of one set are met, by way and whether uncorrectable; an array in RETAIN or OFF is
skipped. -/
def execBayPatrolStep (b : BayId) (found : List (Fin 16 × Bool)) (s : State) : Res :=
  let h := s.home b
  let st := s.domStateOf (14 + b)
  if h.stopped ∨ h.arrayFail ∨ st = 4 ∨ st = 5 then .next s
  else
    let s := found.foldl (fun s e => s.patrolFind b h.patrol e.1 e.2) s
    let lines := ((s.home b).cache.filter (fun e => e.1 / 16 == h.patrol && e.2.bad != 0)).map (·.2.line)
    let s := s.setHome b { s.home b with patrol := (h.patrol + 1) % 65536 }
    .next (lines.foldl (fun s l => s.bayCheck b l) s)

/-! ## Clearing (R237) -/

/-- Zero, clean data in the local lines from x0 for n lines, those with a write queued apart. -/
def State.zeroLines (s : State) (c x0 n : Nat) : State :=
  let lo := keyChan c x0
  let hi := keyChan c (x0 + n)
  let out (k : Nat) : Bool := decide (k < lo) || decide (hi ≤ k)
  { s with mem := s.mem.filter (fun e => out e.1), memPoison := s.memPoison.filter out,
           memFound := s.memFound.filter out, memBad := s.memBad.filter (fun e => out e.1) }

/-- A region is cleared; a rank in self-refresh is brought out first. -/
def State.clearRegion (s : State) (ch region : Nat) : State :=
  let c := (List.range 4).foldl (fun c i => c.wakeRank (region * 32768 + 8192 * i)) (s.chan ch)
  (s.setChan ch { c with cleared := listAdd c.cleared region }).zeroLines ch (region * 32768) 32768

/-- The background pass has come to the region: it is the lowest not yet clear. -/
def Chan.passAt (c : Chan) (region : Nat) : Bool := (List.range region).all c.cleared.contains
/-- A read or write queued for a line of the region has started its clear, ahead of the pass. -/
def Chan.startsClear (c : Chan) (region : Nat) : Bool :=
  c.rq.any (fun e => !c.edge e.x && !e.wait_ && regionOf e.x == region) || c.wq.any (fun e => !c.edge e.x && regionOf e.x == region)

/-- CLEAR_REGION (R237): the pass clears the regions in ascending order; one whose clear a request has started is cleared before its turn.
A region is cleared once. -/
def execClearRegion (ch : ChanId) (region : Nat) (s : State) : Res :=
  let c := s.chan ch
  if c.st ≠ 2 ∨ c.clearDone ∨ c.regions ≤ region ∨ c.cleared.contains region ∨ s.chanLow ch ∨ (!c.passAt region ∧ !c.startsClear region) then
    .next s
  else .next (s.clearRegion ch region)

/-- CLEAR_DONE (R237): the pass ends once every region is clear. -/
def execClearDone (ch : ChanId) (s : State) : Res :=
  let c := s.chan ch
  if c.st = 2 ∧ c.cleared.length = c.regions then .next (s.setChan ch { c with clearDone := true }) else .next s

/-! ## The end of training (R217, R218, R234 to R237) -/

/-- A BOOT_REPORT (R418). -/
def bootReport (src inst code f value : Nat) : Word := notice 0x16 1 src (inst * 256 + code) (f * 2 ^ 30 + value % 2 ^ 30)

end Sys2Proof.Machine

namespace Sys2Proof

/-- A row of the speed-grade table (R218): the rate, for MRDIMMs, for two modules a channel, and the range of CL. -/
structure GradeRow where
  rate : Nat
  mr : Bool := false
  two : Bool := false
  lo : Nat
  hi : Nat

/-- The speed grades, highest first (R218). -/
def gradeRows : List GradeRow :=
  [{ rate := 12800, mr := true, lo := 46, hi := 62 }, { rate := 8800, mr := true, lo := 30, hi := 46 },
   { rate := 8000, lo := 56, hi := 74 }, { rate := 7200, lo := 52, hi := 68 },
   { rate := 6400, two := true, lo := 46, hi := 62 }, { rate := 5600, two := true, lo := 40, hi := 56 },
   { rate := 4800, two := true, lo := 34, hi := 50 }]

/-- The module's SPD gives timings for the grade, each within its range (R218). -/
def Module.fits (m : Module) (g : GradeRow) : Bool :=
  let ns (t : Nat) : Bool := decide (13300 ≤ t) && decide (t ≤ 20000)
  m.grades.any (fun t => t.rate == g.rate && decide (g.lo ≤ t.cl) && decide (t.cl ≤ g.hi) && ns t.trcd && ns t.trp)

/-- The grades that the population and the SPD of every module allow, highest first (R215, R218). -/
def TrainRes.grades (r : TrainRes) : List Nat :=
  (gradeRows.filter (fun g => g.mr == r.mr && (g.two || r.dpc == 1) && r.mods.all (·.fits g))).map (·.rate)

/-- The module meets R216 and the tRFC limits of R228. -/
def Module.meets (m : Module) : Bool :=
  m.kind != .other && m.width == 4 && [16, 24, 32, 64].contains m.density && (m.ranks == 1 || m.ranks == 2) &&
    (m.stack == 1 || m.stack == 2 || m.stack == 4) && m.devices == 10 && decide (m.trfc1 ≤ 700) && decide (m.trfcsb ≤ 350)

/-- The population is one of R215. -/
def TrainRes.population (r : TrainRes) : Bool :=
  (r.dpc == 1 || (r.dpc == 2 && !r.mr)) && r.mods.all (fun m => decide (32 ≤ m.gib) && decide (m.gib ≤ 256))

/-- The channel's modules meet R215 and R216. -/
def TrainRes.meets (r : TrainRes) : Bool := r.population && r.mods.all (·.meets)

/-- They pass training at some grade (R217, R218). -/
def TrainRes.ok (r : TrainRes) : Bool := r.meets && r.passed && !r.grades.isEmpty

/-- Two modules agree in what R217 compares. -/
def Module.same (m n : Module) : Bool :=
  m.kind == n.kind && m.density == n.density && m.ranks == n.ranks && m.stack == n.stack && m.gib == n.gib

/-- Its modules match the reference channel's, and each other (R217). -/
def TrainRes.like (r q : TrainRes) : Bool := r.dpc == q.dpc && r.mods.all (·.same q.mod)

end Sys2Proof

namespace Sys2Proof.Machine

/-- The channels R217 keeps of those p allows, n of each quadrant, and n. -/
def keepEach (mode f : Nat) (p : Nat → Bool) : List Nat × Nat :=
  let rem (q : Nat) : List Nat := ((List.range 4).map (4 * q + ·)).filter p
  let n := (quadsOf mode f).foldl (fun n q => min n (rem q).length) 4
  ((quadsOf mode f).flatMap (fun q => (rem q).take n), n)

/-- The channels of a frame that become active, their count in each quadrant and their common rate (R217, R218): the highest grade that
every one of them fits; where they have none in common, the reference channel's highest, and a channel that does not fit it is
excluded (log entry 38). -/
def keptChans (mode f : Nat) (res : Nat → TrainRes) : List Nat × Nat × Nat :=
  match (chansOf mode f).find? (fun c => (res c).ok) with
  | none => ([], 0, 0)
  | some r =>
    let match_ (c : Nat) : Bool := (res c).ok && (res c).like (res r)
    let k := keepEach mode f match_
    match (res r).grades.find? (fun g => k.1.all (fun c => (res c).grades.contains g)) with
    | some g => (k.1, k.2, g)
    | none =>
      let g := (res r).grades.headD 0
      let k := keepEach mode f (fun c => match_ c && (res c).grades.contains g)
      (k.1, k.2, g)

/-- The marks that the journal holds for the channel's present modules (R240). -/
def State.savedMarks (s : State) (c : Nat) (r : TrainRes) : Map Mark :=
  let ch : Chan := { res := r }
  (s.scribe.jMarks.filter (fun (e : Nat × Mark) => e.1 / 64 == c && e.2.serial == ch.serialOf (e.1 % 64 / 2))).map
    (fun (e : Nat × Mark) => (e.1 % 64, e.2))

/-- The training version of a bundle, which a saved record carries (R235). -/
def Bundle.version (b : Bundle) : Nat := b.major * 2 ^ 24 + b.minor * 2 ^ 16 + b.build

/-- The saved record of the channel matches the present modules, rate and version (R235). -/
def State.savedValid (s : State) (c : Nat) (serial : List Nat) (rate : Nat) : Bool :=
  match Tab.find s.plumb.flash.train c with
  | some r => r.serial == serial && r.rate == rate && r.ver == s.plumb.running.version
  | none => false

/-- A channel that becomes active: its clearing starts, its generator is seeded (R230, R237). -/
def State.activate (s : State) (c : Nat) (r : TrainRes) (rate : Nat) : State :=
  let ch := s.chan c
  let gen : Word := if ch.rh.getLsbD 15 then 1 else Config.entropy s.free
  let s := { s with free := s.free + 1 }
  (s.setChan c { ch with st := 2, saved := r.saved && s.savedValid c r.serials rate, clearDone := false, res := r, rate := rate, rq := [], wq := [], cleared := [],
                         gen := gen, ranks := [], banks := [], devCnt := [], marks := s.savedMarks c r, patrol := 0,
                         drain := false, limited := false, modTemps := [], drfm := none }).zeroLines c 0 (2 ^ 36)

/-- The frame's edge stores cleared (R237). -/
def State.zeroEdges (s : State) (f : Nat) : State :=
  let out (k : Nat) : Bool := !(quadsOf s.mode f).any (fun q => decide (keyEdge q 0 ≤ k) && decide (k < keyEdge q 4))
  { s with mem := s.mem.filter (fun e => out e.1), memPoison := s.memPoison.filter out, memFound := s.memFound.filter out }

end Sys2Proof.Machine
end

