-- ==== Sys2Proof/Machine/Power.lean ====
section
/-! DEFINITION. Supply, caps, operating points, cooling and thermal protection (R361 to R372, R386 to R400): the
commands that measure, and what Plumb decides from them. Powers are whole milliwatts, rounded down (log entry 22). -/

namespace Sys2Proof.Machine

/-- Plumb runs and the package is not in OFF. -/
def State.live (s : State) : Bool := s.plumb.on && !s.off

/-! ## The repair map in the journal (R204) -/

/-- The map of both directions of a link. -/
def Tenon.jmap (t : Tenon) : JMap := { up := t.up.retired, dn := t.dn.retired, upSp := t.up.spare, dnSp := t.dn.spare }

/-- The sill's copy written to the journal device (R204). -/
def State.writeMap (s : State) : State :=
  { s with plumb :=
    { s.plumb with journalMap := (List.range 12).foldl (fun m n => Tab.put m {} n (s.tenon n).jmap) [],
                   mapSeq := s.plumb.mapSeq + 1, mapDirty := false } }

/-! ## Operating points (R387) -/

/-- The operating points: MHz and mV. -/
def opPoints : List (Nat × Nat) :=
  [(800, 550), (1200, 600), (1600, 650), (2000, 700), (2600, 800), (3000, 880), (3300, 950), (3600, 1050)]

/-- A point between (f0, v0) and (f1, v1), rounded up to 5 mV. -/
def interpolate (f0 v0 f1 v1 f : Nat) : Nat :=
  (v0 * (f1 - f0) + (v1 - v0) * (f - f0) + 5 * (f1 - f0) - 1) / (5 * (f1 - f0)) * 5

/-- The rail of a stud at f MHz, by the points of a list (R387). -/
def voltIn (l : List (Nat × Nat)) (f : Nat) : Nat :=
  match l with
  | (f0, v0) :: (f1, v1) :: r => if f ≤ f0 then v0 else if f ≤ f1 then interpolate f0 v0 f1 v1 f else voltIn ((f1, v1) :: r) f
  | (_, v0) :: [] => v0
  | [] => 0
/-- The rail of a stud at f MHz, in mV (R387). -/
def voltOf (f : Nat) : Nat := voltIn opPoints f

/-! ## The caps (R363, R364, R394) -/

/-- P_avail in mW: min(800 W, 0.89 x 22 A x VIN_f); 800 W before the first sample (log entry 24). -/
def Power.avail (p : Power) : Nat :=
  match p.vins with
  | v :: r => min 800000 (r.foldl min v * 1958 / 100)
  | [] => 800000

/-- The effective package cap in mW. -/
def Power.capEff (p : Power) : Nat :=
  let c := min (p.capCfg * 1000) p.avail
  let c := match p.capStretch with | some x => min c x | none => c
  if p.fallback then min c 500000 else c

/-! ## Measured and estimated power (R386, R389) -/

/-- The power of frame f by a table of domains: its own, and its shares of the others (R386). -/
def State.framePower (s : State) (t : Map Nat) (f : Nat) : Nat :=
  (List.range 30).foldl (fun n d =>
    let h := holdersOf s.mode d
    if h.contains f then n + Tab.get t 0 d / max h.length 1 else n) 0

/-- The estimate of a stud's power at f MHz (R389). -/
def State.estimate (s : State) (n f : Nat) : Nat :=
  let k := s.stud n
  Tab.get s.power.ctlPower 0 (2 + n) * f * voltOf f ^ 2 / max 1 (k.freq * k.mvolt ^ 2)

/-- The power of frame f beside its studs. -/
def State.restPower (s : State) (f : Nat) : Nat :=
  s.framePower s.power.ctlPower f - (studsOf s.mode f).foldl (fun n k => n + Tab.get s.power.ctlPower 0 (2 + k)) 0

/-- The estimate of frame f with each stud at a frequency of its own. -/
def State.frameAt (s : State) (f : Nat) (freq : Nat → Nat) : Nat :=
  (studsOf s.mode f).foldl (fun n k => n + s.estimate k (freq k)) (s.restPower f)

/-! ## Frequencies (R388, R397, R398) -/

/-- The policy target of R388. -/
def Stud.target (k : Stud) : Nat :=
  match k.policy with
  | 0 => 3000
  | 1 => 3600
  | 2 => 2000
  | _ => k.fixedMhz

/-- The ceiling for a number of active cores. -/
def ceilingOf (n : Nat) : Nat := if n ≤ 4 then 3600 else if n ≤ 8 then 3400 else if n ≤ 16 then 3200 else 3000

/-- Active cores of a stud: those in RUN. -/
def State.activeCores (s : State) (n : Nat) : Nat := ((coresOf n).filter (fun c => (s.core c).run == .run)).length

/-- The stud is held at 800 MHz by a Tj at its maximum, its own or its quadrant's, or for want of a valid sensor. -/
def State.heldLow (s : State) (n : Nat) : Bool :=
  (s.stud n).sense.hold || (s.stud n).sense.none_ || (Tab.get s.power.sill {} (n / 3)).hold

/-- The frequency of a stud without the cap of R389. -/
def State.uncapped (s : State) (n : Nat) : Nat :=
  let k := s.stud n
  let f := min (min k.target (ceilingOf (s.activeCores n))) k.thermLimit
  let f := if s.power.throttle then min f 1200 else f
  let f := if s.power.pwrfail ∨ s.heldLow n then 800 else f
  max f 800

/-- stud_freq of R388. -/
def State.studFreq (s : State) (n : Nat) : Nat := max 800 (min (s.uncapped n) (s.stud n).capLimit)

/-- A stud takes the operating point of its frequency. -/
def State.applyFreq (s : State) (n : Nat) : State :=
  let f := s.studFreq n
  s.setStud n { s.stud n with freq := f, mvolt := voltOf f }
/-- Every stud takes its operating point. -/
def State.applyAll (s : State) : State := (List.range 12).foldl State.applyFreq s

/-! ## The allocation (R389) -/

/-- The division of what the package cap leaves among open frames: frame and grant. -/
def divide (fuel : Nat) (open_ : List (Nat × Nat)) (left : Nat) : List (Nat × Nat) :=
  match fuel with
  | 0 => []
  | m + 1 =>
    match open_ with
    | [] => []
    | _ =>
      let share := left / open_.length
      let low := open_.filter (fun e => decide (e.2 ≤ share))
      if low.isEmpty then open_.map (fun e => (e.1, share))
      else low ++ divide m (open_.filter (fun e => decide (share < e.2))) (left - low.foldl (fun n e => n + e.2) 0)

/-- Sum of grants. -/
def sumGrants (l : List (Nat × Nat)) : Nat := l.foldl (fun n e => n + e.2) 0

/-- What frame f asks for: its power at every stud's uncapped frequency. -/
def State.demandOf (s : State) (f : Nat) : Nat := s.frameAt f s.uncapped

/-- The grants before the package cap: demand, held to the frame cap. -/
def State.wanted (s : State) : List (Nat × Nat) :=
  (framesOf s.mode).map (fun f =>
    let c := (s.frame f).cap
    (f, if c = 0 then s.demandOf f else min (s.demandOf f) (c * 1000)))

/-- allocate(cap_eff) of R389. -/
def State.allocate (s : State) : List (Nat × Nat) :=
  let g := s.wanted
  if sumGrants g ≤ s.power.capEff then g else divide 5 g s.power.capEff

/-- cap_limit of R389: the highest F at which the frame's estimate stays at or below 99 % of its grant; no limit for a
frame that is granted its demand (R390). -/
def State.capF (s : State) (f grant : Nat) : Nat :=
  if s.demandOf f ≤ grant then 3600
  else (((List.range 29).map (fun k => 3600 - 100 * k)).find? (fun x => decide (s.frameAt f (fun _ => x) * 100 ≤ 99 * grant))).getD 800

/-- A frame takes its grant and its F: a new F ends the raising of single studs. -/
def State.giveGrant (s : State) (f grant : Nat) : State :=
  let fr := s.frame f
  let F := s.capF f grant
  let s := s.setFrame f { fr with grant := grant, demand := s.demandOf f, capF := F }
  if F = fr.capF then s else (studsOf s.mode f).foldl (fun s n => s.setStud n { s.stud n with capLimit := F }) s

/-! ## Notices (R400) -/

/-- A POWER_CAP notice: cap and power in mW. -/
def capNotice (cause scope cap power : Nat) : Word :=
  notice 0x21 3 8 (cause * 2 ^ 12 + scope * 2 ^ 8) (min 65535 (cap / 1000) * 2 ^ 16 + min 65535 (power / 1000))
/-- POWER_CAP of the package to every frame. -/
def State.postCap (s : State) (cause : Nat) : State := s.postAll (capNotice cause 0 s.power.capEff s.power.pkgPower)
/-- POWER_CAP of frame f's own cap. -/
def State.postFrameCap (s : State) (f cause : Nat) : State :=
  s.post [f] (capNotice cause (1 + f) ((s.frame f).cap * 1000) (s.framePower s.power.domPower f))

/-- Binding and unreachable caps noticed as they begin and end: of the package, and of each frame (R390, R400). -/
def State.capNotices (s : State) : State :=
  let bind := decide (s.power.capEff < sumGrants s.wanted)
  let low := ((framesOf s.mode).map (fun f => s.frameAt f (fun _ => 800))).foldl (· + ·) 0
  let un := decide (s.power.capEff < low)
  let p := s.power
  let s := { s with power := { p with capBinding := bind, unreach := un } }
  let s := if bind ∧ !p.capBinding then (s.pkgEvent 9).postCap 0 else if !bind ∧ p.capBinding then s.postCap 1 else s
  let s := if un ∧ !p.unreach then s.postCap 2 else s
  (framesOf s.mode).foldl (fun s f =>
    let fr := s.frame f
    let bind := fr.cap != 0 && decide (fr.cap * 1000 < s.demandOf f)
    let un := fr.cap != 0 && decide (fr.cap * 1000 < s.frameAt f (fun _ => 800))
    let s := s.setFrame f { fr with binding := bind, unreach := un }
    let s := if bind ∧ !fr.binding then (s.pkgEvent 9).postFrameCap f 0
      else if !bind ∧ fr.binding then s.postFrameCap f 1 else s
    if un ∧ !fr.unreach then s.postFrameCap f 2 else s) s

/-- A table of measured powers with new values for some domains (R386). -/
def measured (t : Map Nat) (l : List (Nat × Nat)) : Map Nat :=
  (l.filter (fun e => decide (e.1 < 30))).foldl (fun t e => Tab.put t 0 e.1 e.2) t

/-- CONTROL_PERIOD (R388, R389): the 100 µs means, the grants, and every stud's frequency. -/
def execControlPeriod (power : List (Nat × Nat)) (s : State) : Res :=
  if !s.live then .next s
  else
    let s := { s with power := { s.power with ctlPower := measured s.power.ctlPower power } }
    let s := s.allocate.foldl (fun s g => s.giveGrant g.1 g.2) s
    .next s.capNotices.applyAll

/-- The stud raised next (R389): of those still at F, the lowest Tj, then the lowest number. -/
def State.raiseNext (s : State) (f : Nat) : Option Nat :=
  let l := (studsOf s.mode f).filter (fun n => decide ((s.stud n).capLimit ≤ (s.frame f).capF))
  l.foldl (fun b n => match b with
    | none => some n
    | some m => if (s.stud n).sense.tj < (s.stud m).sense.tj then some n else some m) none

/-- STUD_RAISE_STEP (R389): the 1 ms means; F falls where the measurement exceeds the grant, else one stud rises. -/
def execStudRaiseStep (f : FrameId) (power : List (Nat × Nat)) (s : State) : Res :=
  if !s.live ∨ !(framesOf s.mode).contains f.val then .next s
  else
    let t := measured s.power.domPower power
    let s := { s with power := { s.power with domPower := t, pkgPower := t.foldl (fun n e => n + e.2) 0 } }
    let s := (List.range 12).foldl (fun s n => s.setStud n { s.stud n with power := Tab.get t 0 (2 + n) }) s
    let fr := s.frame f
    let down := fr.capF - 100
    let F := max 800 down
    if fr.demand ≤ fr.grant then .next s
    else if fr.grant < s.framePower t f then
      let s := s.setFrame f { fr with capF := F }
      .next ((studsOf s.mode f).foldl (fun s n => (s.setStud n { s.stud n with capLimit := F }).applyFreq n) s)
    else match s.raiseNext f with
      | none => .next s
      | some n =>
        let up (k : Nat) : Nat := if k = n then fr.capF + 100 else (s.stud k).capLimit
        if 3600 < fr.capF + 100 ∨ 99 * fr.grant < s.frameAt f up * 100 then .next s
        else .next ((s.setStud n { s.stud n with capLimit := fr.capF + 100 }).applyFreq n)

/-! ## The input stage (R361 to R365) -/

/-- The converter's ratio after a sample of VIN in mV: N nearest VIN / 6 V with 0.25 V of hysteresis, and 1 below
9 V (R361; where the hysteresis lies about each change: log entry 23). -/
def ratioFor (now vin : Nat) : Nat :=
  if vin < 9000 then 1
  else (List.range 7).foldl (fun n k =>
    let m := k + 2
    let edge := 6000 * m - 3000
    if (if now < m then edge + 125 else edge - 125) ≤ vin then m else n) 1

/-- VIN_SAMPLE (R361 to R363, R365, R484): VIN in mV and the input current in mA. -/
def execVinSample (vin iin : Nat) (s : State) : Res :=
  if 66000 < vin then .fault .beyondAbsoluteMaximum
  else if !s.live then .next { s with power := { s.power with vin := vin, iin := iin } }
  else if vin ≤ 4500 then .fault .logicFailure
  else
    let p := s.power
    let p := { p with vin := vin, iin := iin, ratio := ratioFor p.ratio vin, vins := (vin :: p.vins).take 100,
                      below6 := p.below6 || decide (vin < 6000) }
    let low := decide (p.avail < p.capCfg * 1000)
    let s := { s with power := { p with vinLow := low } }
    let s := (s.recExtreme 0x11 0 0 vin).recExtreme 0x11 0 1 iin
    .next (if low ∧ !p.vinLow then s.postCap 3 else s)

/-- INPUT_CURRENT_LIMIT (R364): the current passes 22 A, or is back; `long` when stretching has acted for more than
1 ms in 10 ms, with the package power measured then. -/
def execInputCurrentLimit (above : Bool) (long : Bool) (measured : Nat) (s : State) : Res :=
  if !s.live then .next s
  else
    let new := above && !s.power.stretch
    let s := { s with power := { s.power with stretch := above } }
    let s := if new then s.pkgEvent 10 else s
    if long then .next (({ s with power := { s.power with capStretch := some (measured * 95 / 100) } } : State).postCap 4) else .next s

/-- STRETCH_CAP_RESTORE (R364): 1 s without stretching. -/
def execStretchCapRestore (s : State) : Res :=
  if s.power.stretch then .next s else .next { s with power := { s.power with capStretch := none } }

/-! ## PWRFAIL_N and THROTTLE_N (R367, R368, R391) -/

/-- The rate limits of step 1 set or lifted on a port. -/
def Port.limit (p : Port) (on : Bool) : Port :=
  { p with quarter := on,
           dt := { p.dt with quarter := on, link := if !p.dt.flit ∨ p.dt.link < 2 then p.dt.link
                                                    else if on then 3 else if p.dt.link = 3 then 2 else p.dt.link },
           roots := p.roots.map (fun e => (e.1, if !e.2.flitMode then e.2
             else if on then { e.2 with power := .l0pQuarter }
             else if e.2.power = .l0pQuarter then { e.2 with power := .l0 } else e.2)) }

/-- Channels and ports limited to a quarter, or the limits lifted. -/
def State.quarterAll (s : State) (on : Bool) : State :=
  { s with chans := s.chans.map (fun e => (e.1, { e.2 with quarter := on })),
           ports := s.ports.map (fun e => (e.1, e.2.limit on)) }

/-- PWRFAIL_N_ASSERT (R367): the sequence of its steps; in OFF the pin is ignored (R385). An assertion less than 100 ms after a release starts
it again (R368). -/
def execPwrfailNAssert (s : State) : Res :=
  let s := { s with pins := { s.pins with pwrfailN := false } }
  if !s.live then .next s
  else
    let s := { s with power := { s.power with pwrfail := true } }
    let s := ((s.quarterAll true).applyAll.pkgEvent 6).postCap 5
    let s := s.startFlush 2
    let s := { s with plumb := { s.plumb with jobs := s.plumb.jobs.map (fun (j : Job) => { j with early := j.running }) } }
    .next (if s.plumb.mapDirty then s.writeMap else s)

/-- PWRFAIL_N_RELEASE (R368): PWRFAIL_N has been deasserted for 100 ms. -/
def execPwrfailNRelease (s : State) : Res :=
  let s := { s with pins := { s.pins with pwrfailN := true } }
  if !s.power.pwrfail ∨ !s.live then .next s
  else
    let s := { s with power := { s.power with pwrfail := false } }
    .next ((s.quarterAll false).applyAll.postCap 6)

/-- THROTTLE_N_ASSERT (R391). -/
def execThrottleNAssert (s : State) : Res :=
  let was := s.power.throttle
  let s := { s with pins := { s.pins with throttleN := false } }
  if was ∨ !s.live then .next s
  else .next (({ s with power := { s.power with throttle := true } } : State).applyAll.postCap 7)

/-- THROTTLE_N_RELEASE (R391). -/
def execThrottleNRelease (s : State) : Res :=
  let was := s.power.throttle
  let s := { s with pins := { s.pins with throttleN := true } }
  if !was ∨ !s.live then .next s
  else .next (({ s with power := { s.power with throttle := false } } : State).applyAll.postCap 8)

/-! ## Coolant inputs (R392 to R394) -/

/-- A sorted list with one value more. -/
def insertInt (v : Int) (l : List Int) : List Int :=
  match l with
  | [] => [v]
  | x :: r => if v ≤ x then v :: x :: r else x :: insertInt v r
/-- The median of a list, the upper of two middle values; none of an empty list. -/
def median (l : List Int) : Option Int := (l.foldr insertInt [])[l.length / 2]?

def coolNo : Coolant → Nat
  | .inlet => 0
  | .outlet => 1
  | .tach => 2

def Power.input (p : Power) : Coolant → Cool
  | .inlet => p.inlet
  | .outlet => p.outlet
  | .tach => p.tach
def Power.setInput (p : Power) (c : Coolant) (v : Cool) : Power :=
  match c with
  | .inlet => { p with inlet := v }
  | .outlet => { p with outlet := v }
  | .tach => { p with tach := v }

/-- The input of a number. -/
def coolAt (n : Nat) : Coolant := if n = 0 then .inlet else if n = 1 then .outlet else .tach

/-- A COOLANT notice to every frame: the input's last accepted value (R400). -/
def State.postCool (s : State) (c : Coolant) (cause : Nat) : State :=
  let v := (s.power.input c).samples.headD 0
  s.postAll (notice 0x22 2 10 (coolNo c * 2 ^ 12 + cause * 2 ^ 8 + s.power.duty / 2) ((v % 65536).toNat * 2 ^ 16))

/-- A sample lies in its range (R393). -/
def coolRange (c : Coolant) (v : Int) : Bool :=
  decide (0 ≤ v) && (match c with | .tach => decide (v ≤ 2000) | _ => decide (v ≤ 9000))

/-- The accepted sample makes a stale input fresh: for COOL_TACH, once it counts pulses or the duty is below 20 %. -/
def Power.freshens (p : Power) (c : Coolant) (v : Int) : Bool :=
  match c with
  | .tach => !p.tach.pulsed || decide (0 < v) || decide (p.duty < 40)
  | _ => true

/-- COOLANT_SAMPLE (R393, R394). -/
def execCoolantSample (src : Coolant) (ok : Bool) (val : Int) (s : State) : Res :=
  if !s.live ∨ !ok ∨ !coolRange src val then .next s
  else
    let c := s.power.input src
    let fresh := c.stale && s.power.freshens src val
    let c := { c with samples := (val :: c.samples).take 5, stale := c.stale && !fresh,
                      pulsed := c.pulsed || (src == .tach && decide (0 < val)) }
    let p := s.power.setInput src c
    let s := { s with power := if fresh then { p with lastFresh := coolNo src } else p }
    let s := s.recExtreme 0x12 0 (coolNo src) val
    .next (if fresh then s.postCool src 1 else s)

/-- COOLANT_STALE (R393, R394): 500 ms without an accepted sample, or, for COOL_TACH once it has counted a pulse,
without a pulse at a duty of 20 % or more. The fallback is entered with the first. -/
def execCoolantStale (src : Coolant) (s : State) : Res :=
  let c := s.power.input src
  if !s.live ∨ c.stale ∨ (src = .tach ∧ !c.pulsed) then .next s
  else
    let s := { s with power := s.power.setInput src { c with stale := true } }
    if s.power.fallback then .next (s.postCool src 0)
    else
      let s := { s with power := { s.power with fallback := true, duty := 200 } }
      .next (((s.pkgEvent 8).postCool src 0).postCool src 3)

/-- COOLANT_FALLBACK_EXIT (R394): every input has been fresh for 2 s. -/
def execCoolantFallbackExit (s : State) : Res :=
  let p := s.power
  if !s.live ∨ !p.fallback ∨ p.inlet.stale ∨ p.outlet.stale ∨ p.tach.stale then .next s
  else
    let s := { s with power := { p with fallback := false, duty := if p.coolMode = 1 then 2 * p.fixedDuty else p.duty } }
    .next (s.postCool (coolAt p.lastFresh) 4)

/-! ## Models and the cooling loop (R395, R396) -/

/-- The four parameters in force of model n: of an accepted fit, or the bundle's (R395). -/
def Model.params (m : Model) (n : Nat) : List Nat :=
  if m.fitted then [m.tau1, m.tau2, m.gain, m.coup] else (List.range 4).map (Config.thermalDefault n)

/-- A prediction 500 ms ahead, in 0.01 °C: model, power in mW, duty, and present temperature (R395). -/
def State.predict (s : State) (n : Nat) (m : Model) (mw duty : Nat) (tj : Int) : Int :=
  Config.predict ((m.params n).map Int.ofNat ++ [Int.ofNat mw, Int.ofNat duty, (median s.power.inlet.samples).getD 0, tj])

/-- predict(s, P, duty) for stud n. -/
def State.predictStud (s : State) (n mw : Nat) : Int := s.predict n (s.stud n).model mw s.power.duty (s.stud n).sense.tj

/-- A THERMAL notice to the frame that holds the stud or quadrant. -/
def State.postThermal (s : State) (kind inst event : Nat) (t : Int) (mhz : Nat) : State :=
  s.post [if kind = 1 then frameOfQuad s.mode inst else s.frameOfStud inst] (thermalNotice kind inst event t mhz)

/-- A measured Tj of the stud or of its quadrant exceeds the throttle point (R397, R398). -/
def State.tjHot (s : State) (n : Nat) : Bool :=
  decide (10000 < (s.stud n).sense.tj) || decide (10000 < (Tab.get s.power.sill {} (n / 3)).tj)

/-- thermal_limit of a stud set, with the notices of R398. -/
def State.setTherm (s : State) (n f : Nat) : State :=
  let k := s.stud n
  let s := s.setStud n { k with thermLimit := f }
  if f < 3600 ∧ k.thermLimit = 3600 then s.postThermal 0 n 0 k.sense.tj f
  else if f = 3600 ∧ k.thermLimit < 3600 then s.postThermal 0 n 1 k.sense.tj f
  else s

/-- The thermal limit of one stud in a step of the loop (R396, R398). -/
def State.thermStep (s : State) (n : Nat) : State :=
  let k := s.stud n
  let high := ((List.range 29).map (fun j => 3600 - 100 * j)).find? (fun f => decide (s.predictStud n (s.estimate n f) ≤ 10000))
  if 10000 < s.predictStud n (s.estimate n k.freq) then s.setTherm n (high.getD 800)
  else if s.tjHot n then s.setTherm n (max 800 (min (high.getD 800) (k.thermLimit - 100)))
  else if k.thermLimit < 3600 ∧ s.predictStud n (s.estimate n (k.thermLimit + 100)) ≤ 9700 then s.setTherm n (k.thermLimit + 100)
  else s

/-- The duty a step of the loop leaves (R396), in half per cents. -/
def State.dutyStep (s : State) : Nat :=
  let p := s.power
  if p.fallback then p.duty
  else if p.coolMode ≠ 0 then 2 * p.fixedDuty
  else
    let hot := (List.range 12).map (fun n => s.predictStud n (s.estimate n (s.stud n).freq))
    let lim : Int := p.limit * 10
    let out := median p.outlet.samples
    let hotOut := out.elim false (fun t => decide (lim < t))
    let under := out.elim false (fun t => decide (t < lim - 200))
    if hotOut ∨ hot.any (fun t => decide (9500 < t)) then min 200 (p.duty + 10)
    else if hot.all (fun t => decide (t < 8800)) ∧ under then max 40 (p.duty - 2)
    else p.duty

/-- COOL_STEP (R396). -/
def execCoolStep (s : State) : Res :=
  if !s.live ∨ s.power.trip then .next s
  else
    let s := { s with power := { s.power with duty := s.dutyStep } }
    let s := (List.range 12).foldl State.thermStep s
    let p := s.power
    let top := if p.coolMode = 1 ∧ !p.fallback then 2 * p.fixedDuty else 200
    let hotOut := (median p.outlet.samples).elim false (fun t => decide ((p.limit : Int) * 10 < t)) && p.duty == top
    let s := { s with power := { p with overOut := hotOut, outCut := p.outCut + 1 } }
    let s := if hotOut ∧ !p.overOut then s.postCool .outlet 2 else s
    let s := if hotOut ∧ 100 ≤ p.outCut then
        (List.range 12).foldl (fun s n => s.setTherm n (max 800 ((s.stud n).thermLimit - 100)))
          { s with power := { s.power with outCut := 1 } }
      else s
    .next s.applyAll

/-- A fit is accepted (R395): time constants in µs, gain in mK/W, coupling in mK/K, residual in 0.01 °C. -/
def fitOk (tau1 tau2 gain coupling residual : Nat) : Bool :=
  decide (residual ≤ 150) && decide (5000 ≤ tau1) && decide (tau1 ≤ 2000000) && decide (1000000 ≤ tau2) &&
    decide (tau2 ≤ 300000000) && decide (tau1 < tau2) && decide (100 ≤ gain) && decide (gain ≤ 10000) &&
    decide (500 ≤ coupling) && decide (coupling ≤ 1500)

/-- THERMAL_REFIT (R395): stud 0 to 11, or 12 for the package; a fit that is not accepted leaves the model, and its age
grows by the 10 s that have passed. -/
def execThermalRefit (n : Fin 13) (tau1 tau2 gain coupling residual : Nat) (s : State) : Res :=
  if !s.live then .next s
  else
    let m := if n.val < 12 then (s.stud n).model else s.power.pkgModel
    let m := if fitOk tau1 tau2 gain coupling residual then
        { tau1 := tau1, tau2 := tau2, gain := gain, coup := coupling, residual := residual, fitted := true, age := 0 }
      else { m with age := m.age + 10000 }
    .next (if n.val < 12 then s.setStud n { s.stud n with model := m } else { s with power := { s.power with pkgModel := m } })

/-! ## Sensors (R397, R398) -/

/-- One sensor's reading judged against the median of the others of its die. -/
def sampleOk (t : Int) (others : List Int) : Bool :=
  decide (-2000 ≤ t) && decide (t ≤ 15000) &&
    (match median others with
     | some m => decide (t - m ≤ 1500) && decide (m - t ≤ 1500)
     | none => true)

/-- A sensor after a sample: used, or excluded with the samples of agreement it has given; 500 make 10 ms. -/
def senseOne (first valid good : Bool) (agree : Nat) : Bool × Nat :=
  if !good then (false, 0)
  else if first ∨ valid then (true, 0)
  else if 500 ≤ agree + 1 then (true, 0)
  else (false, agree + 1)

/-- The sensors of one die, or part of it, after a sample; `rest` are the readings of the die's other sensors. -/
def Sense.sample (d : Sense) (temps rest : List Int) : Sense :=
  let one (i : Nat) : Bool × Nat :=
    senseOne d.valid.isEmpty (d.valid.getD i false) (sampleOk (temps.getD i 0) (temps.eraseIdx i ++ rest)) (d.agree.getD i 0)
  let l := (List.range temps.length).map one
  let valid := l.map (·.1)
  let used := (List.range temps.length).filterMap (fun i => if valid.getD i false then some (temps.getD i 0) else none)
  let tj : Int := match used with | t :: r => r.foldl max t | [] => d.tj
  let hold := if used.isEmpty then d.hold else if d.hold then decide (10000 < tj) else decide (10500 ≤ tj)
  { temps := temps, valid := valid, agree := l.map (·.2), tj := tj, hold := hold, none_ := used.isEmpty }

/-- The reading of the first sensor that has become valid. -/
def Sense.newly (d : Sense) : Int :=
  ((List.range d.temps.length).find? (fun i => d.valid.getD i false)).elim 0 (fun i => d.temps.getD i 0)

/-- The notices of a change of sensors: Tj maximum, and for a stud the loss of its sensors (R397, R398, R400). -/
def State.senseNotices (s : State) (kind inst mhz : Nat) (old new : Sense) : State :=
  let s := if kind = 0 ∧ new.none_ ∧ !old.none_ then s.postThermal 3 inst 5 0 800
    else if kind = 0 ∧ !new.none_ ∧ old.none_ then s.postThermal 3 inst 6 new.newly mhz else s
  if new.hold ∧ !old.hold then s.postThermal kind inst 2 new.tj 800
  else if !new.hold ∧ old.hold then s.postThermal kind inst 7 new.tj mhz
  else s

/-- A sample of SENSOR_SAMPLE (R397, R398): the 8 sensors of stud n, or the 4 of sill quadrant n - 12, in 0.01 °C. -/
def State.sensorSample (s : State) (n : Nat) (temps : List Int) : State :=
  if n < 12 then
    let k := s.stud n
    let d := k.sense.sample temps []
    let s := (s.setStud n { k with sense := d }).applyFreq n
    s.senseNotices 0 n k.thermLimit k.sense d
  else
    let q := n - 12
    let old := Tab.get s.power.sill {} q
    let rest := (List.range 4).flatMap (fun r => if r = q then [] else (Tab.get s.power.sill {} r).temps)
    let d := old.sample temps rest
    let s := { s with power := { s.power with sill := Tab.set s.power.sill q d } }
    let studs := [3 * q, 3 * q + 1, 3 * q + 2]
    let lim := studs.foldl (fun m k => min m (s.stud k).thermLimit) 3600
    (studs.foldl State.applyFreq s).senseNotices 1 q lim old d

/-! ## The trip and the loss of REFCLK (R370, R399) -/

/-- What a tenon link keeps with its rails off: the map of the sill, which lies in D0 (R204). -/
def Tenon.mapOnly (t : Tenon) : Tenon :=
  { up := { retired := t.up.retired, spare := t.up.spare }, dn := { retired := t.dn.retired, spare := t.dn.spare } }

/-- The rails of D1 to D29 off: cores, caches, homes, channels and ports lose their state, and DRAM its contents; what
a CXL device holds is outside the package. -/
def State.railsOff (s : State) : State :=
  { s with
    cores := [], studs := [], homes := [], chans := [], qos := [], upmus := [], sel := {}, net := [], arb := [],
    tenons := s.tenons.map (fun e => (e.1, e.2.mapOnly)),
    ports := [], frames := [], threshold := 0x0A0A10, mtime := 0,
    mem := s.mem.filter (fun c => decide (2 ^ 48 ≤ c.1)), memPoison := s.memPoison.filter (fun k => decide (2 ^ 48 ≤ k)),
    memBad := [], memFound := [], nqWait := [],
    power := { s.power with
      domState := (List.range 29).foldl (fun m d => Tab.set m (d + 1) 4) [], domVolt := [(0, 750)], domPower := [],
      ctlPower := [], votes := [], woken := [], sill := [] } }

/-- THERMTRIP (R399): a site at 120 °C. The trip is latched until cold reset. -/
def execThermtrip (s : State) : Res :=
  if !s.live ∨ s.power.trip then .next s
  else
    let s := s.railsOff
    let s := { s with pins := { s.pins with thermtripN := false }, power := { s.power with trip := true } }
    .next ((s.pkgEvent 7).startFlush 5)

/-- REFCLK_LOSS (R370): a fatal error in every frame. -/
def execRefclkLoss (s : State) : Res :=
  if !s.live ∨ s.refLost then .next s
  else
    let s := { s with refLost := true }
    .next (s.bootedFrames.foldl (fun s f => s.fatal f { cls := 4, src := 1, code := 0x33, inst := 0 }) s)

end Sys2Proof.Machine
end

