-- ==== Sys2Proof/Machine/Idle.lean ====
section
/-! DEFINITION. Core power states, stud domains, the release of held harts, and the domains that follow votes (R373 to
R385, R404, R440, R441). -/

namespace Sys2Proof.Machine

/-! ## Domains that wake (R375) -/

/-- DOMAIN_LOW_WAKE (R375): a request or link activity wakes the domain; LOW stays requested. -/
def execDomainLowWake (d : DomId) (s : State) : Res :=
  if d.val < 26 ∨ s.domStateOf d ≠ 3 then .next s
  else .next (({ s with power := { s.power with woken := listAdd s.power.woken d } } : State).domOn d)

/-- A shared domain with requests under way: in a memory queue, or at a port. -/
def State.domBusy (s : State) (d : Nat) : Bool :=
  (chansOfDom d).any (fun c => !(s.chan c).rq.isEmpty || !(s.chan c).wq.isEmpty) ||
    (portsOfDom d).any (fun p => let k := s.port p; !k.inbQ.isEmpty || k.roots.any (fun e => !e.2.out.isEmpty) || !k.dt.out.isEmpty)

/-- DOMAIN_LOW_RETURN (R375): 100 µs without demand. -/
def execDomainLowReturn (d : DomId) (s : State) : Res :=
  if !s.power.woken.contains d.val ∨ s.domBusy d then .next s
  else .next (({ s with power := { s.power with woken := s.power.woken.filter (· != d.val) } } : State).domLow d)

/-- ARRAY_RETAIN_ENTRY (R384): the arrays of bay b, not accessed for 10 µs with every working stud of the frame in
DEEP. -/
def execArrayRetainEntry (b : BayId) (s : State) : Res :=
  let f := s.frameOfStud b
  let studs := (studsOf s.mode f).filter (fun n => (s.stud n).state != 1)
  if !s.isBooted f ∨ s.domStateOf (14 + b) ≠ 0 ∨ !studs.all s.allDeep then .next s
  else .next (s.setDom (14 + b) 5 500)

/-! ## Clocks of a stud (R373) -/

/-- The stud's PLL stops: PLL_READY reads 0 at every core. -/
def State.pllStop (s : State) (n : Nat) : State :=
  let s := s.setStud n { s.stud n with pllOn := false, pllReady := false }
  (coresOf n).foldl (fun s c => let k := s.core c; s.setCore c (k.setCsr Csr.mclksel (setFld (k.csr Csr.mclksel) 3 3 0))) s

/-- A core starts on the droop-tracking oscillator: CUR = 0, no switch under way. The switch to a PLL that is ready
follows (R373). -/
def Core.onDroop (k : Core) (ready : Bool) : Core :=
  let k := { k with clk := none }.setCsr Csr.mclksel (setFld (setFld (k.csr Csr.mclksel) 2 1 0) 3 3 (b2n ready))
  if ready then k.pllUp else k

/-- The stud domain follows its cores (R379, R382): SLEEP with every core asleep, DEEP with every core in DEEP or held. -/
def State.updateStud (s : State) (n : Nat) : State :=
  let st := s.stud n
  let work := (coresOf n).filter (fun c => bitOf st.cores (c % 32))
  let deep (c : Nat) : Bool := (s.core c).run == .deep || (s.core c).run == .held
  if work.isEmpty then s
  else if work.all deep then (s.setStud n { st with domDeep := true, domSleep := false }).pllStop n
  else if work.all (fun c => deep c || (s.core c).run == .sleep) then
    (s.setStud n { st with domSleep := true, domDeep := false }).pllStop n
  else s

/-- The stud domain comes up for a core that leaves SLEEP or DEEP: rail, PLL and tenon link (R379, R383). From DEEP the rail rises to
0.700 V, or to 0.550 V in a power-fail sequence (R401). -/
def State.studUp (s : State) (n : Nat) : State :=
  let st := s.stud n
  let mv := if !st.domDeep then st.mvolt else if s.power.pwrfail then 550 else 700
  let s := s.setStud n { st with domDeep := false, domSleep := false, pllOn := true, mvolt := mv }
  s.unpark n

/-- A core that leaves SLEEP or DEEP runs (R373, R379, R383), or begins the core reset that woke it (R446). -/
def State.wakeCore (s : State) (c : Nat) : State :=
  let s := s.studUp (c / 32)
  let k := s.core c
  let s := s.setCore c ({ k with run := if k.resetting then .entering .ap1 else .run, waiting := .nothing, wake := false }.onDroop
    (s.stud (c / 32)).pllReady)
  s.retry c

/-! ## The release of a held hart (R440, R441) -/

/-- The base of the boot bay's bench window of frame f, and the handoff block in it (R440, R442). -/
def State.bootBase (s : State) (f : Nat) : Nat := benchBase (s.frame f).bootBay
def State.handoffPa (s : State) (f : Nat) : Nat := s.bootBase f + 0x01FF0000

/-- The registers of a hart at its release. -/
def State.releaseRegs (s : State) (c : Nat) : Regs :=
  let f := s.frameOfCore c
  let k := s.core c
  let pc := if k.entry then flashBase else s.bootBase f
  let a1 := if k.entry then 0 else s.handoffPa f
  let put (m : Map Word) (i v : Nat) : Map Word := Tab.put m 0 i (BitVec.ofNat 64 v)
  { x := put (put (put [] 10 (s.mhartid c)) 11 a1) 12 k.cause, pc := BitVec.ofNat 64 pc }

/-- A held hart is released. -/
def State.releaseCore (s : State) (c : Nat) : State :=
  let s := s.studUp (c / 32)
  let k := s.core c
  let k := { k with regs := s.releaseRegs c, run := .run, waiting := .nothing, wake := false, entry := false }
  s.setCore c (k.onDroop (s.stud (c / 32)).pllReady)

/-! ## Promotion (R377, R380) -/

/-- An enabled timer comparison of the core falls due within 200 µs (R377). -/
def Core.timerNear (k : Core) (t : Word) : Bool :=
  let due (cmp now : Nat) : Bool := decide (cmp ≤ now + 20000)
  let ie := k.csr Csr.mie
  (ie.getLsbD 7 && due k.mtimecmp.toNat t.toNat) ||
    (k.stce && ie.getLsbD 5 && due (k.csr Csr.stimecmp).toNat t.toNat) ||
    (k.vstce && (ie.getLsbD 6 || k.vsie.getLsbD 5) &&
      due (k.csr Csr.vstimecmp).toNat (t + k.csr Csr.htimedelta).toNat)

/-- An interrupt or a debug halt that wakes the core stands (R378). -/
def State.mustWake (s : State) (c : Nat) : Bool :=
  let k := s.core c
  k.wake || k.halt || k.wakes (s.coreTime c)

/-- IDLE_PROMOTION_SLEEP (R377, R379). -/
def execIdlePromotionSleep (c : CoreId) (s : State) : Res :=
  let k := s.core c
  if k.run ≠ .idle ∨ k.waiting ≠ .wfi ∨ s.mustWake c then .next s
  else .next ((s.setCore c { k with run := .sleep }).updateStud (c / 32))

/-- IDLE_PROMOTION_DEEP (R377, R380): never under policy 1, nor with a timer about to fall due. -/
def execIdlePromotionDeep (c : CoreId) (s : State) : Res :=
  let k := s.core c
  if k.run ≠ .sleep ∨ (s.stud (c.val / 32)).policy = 1 ∨ s.mustWake c ∨ k.timerNear (s.coreTime c) then .next s
  else .next (s.setCore c { k with run := .entering .ap1 })

/-- Stores, misses, accesses and a tagged instruction of the core are drained (R380, AP1; R467). -/
def Core.drained (k : Core) : Bool :=
  let p := k.pipe
  !k.notch.tagged && p.storeQ.isEmpty && p.waits.isEmpty && p.slots.all (fun e => e.2.kind == .evict || e.2.kind == .keep)

/-- A dirty line of L2 begins to be written back while it stays (R499): WB_KEEP, or WRITEs of a ridge line. -/
def State.keepLine (s : State) (c line : Nat) : State :=
  if isRidgeLine line then (s.doRidgeCbo c { kind := .cboClean, pa := line * 64 }).getD s
  else match (s.core c).pipe.takeSlot .keep with
    | none => s
    | some i => s.request c i { kind := .keep, line := line, op := .wbKeep }

/-- The dirty lines of an L2. -/
def Pipe.dirtyLines (p : Pipe) : List Nat :=
  p.l2.flatMap (fun e => (e.2.filter (fun l => l.st.dirty || (isRidgeLine l.line && l.wmask != 0))).map (·.line))

/-- Writebacks begun for the dirty lines that have none under way. -/
def State.keepAll (s : State) (c : Nat) : State :=
  let l := (s.core c).pipe.dirtyLines.filter (fun x => ((s.core c).pipe.keepOf x).isNone)
  l.foldl (fun s x => s.keepLine c x) s

/-- No dirty line and no writeback is left (R380, AP2). -/
def Pipe.clean (p : Pipe) : Bool :=
  p.dirtyLines.isEmpty && p.slots.all (fun e => e.2.kind != .keep && e.2.kind != .evict && e.2.kind != .cbo)

/-- What the commit leaves of translation: wired HEWN entries (R92, R380). -/
def Xlat.wiredOnly (x : Xlat) : Xlat := { shim := x.shim, shimVer := x.shimVer, l2tlb := x.l2tlb.filter (fun e => e.2.wired && e.2.kind == .hewn) }

/-- AP4: L1, L2 and translation invalidated, the core power-gated (R380). -/
def Core.commitDeep (k : Core) : Core :=
  { k with run := .deep, xlat := k.xlat.wiredOnly, pipe := {} }

/-- The comparators an AP3 copies to D1 (R378). -/
def Core.wakeCopy (k : Core) : Core := { k with wakeCmp := (k.csr Csr.stimecmp, k.csr Csr.vstimecmp, k.csr Csr.htimedelta) }

/-- The end of a core reset (R446, steps 3 to 5): caches, translation, CSRs and interrupt files reset; the hart waits
held. -/
def State.coreResetEnd (s : State) (c : Nat) : State :=
  (s.setCore c { run := .held, entry := true, cause := 5, notch := s.notchReset c, xlat := { shim := true, shimVer := s.plumb.running.version } }).updateStud (c / 32)

/-- A wake abandons the entry of core c; a core reset is not abandoned. -/
def State.abandons (s : State) (c : Nat) : Bool := s.mustWake c && !(s.core c).resetting

/-- DEEP_ENTRY_STEP (R380, R381, R446): one point of the entry completes, or a wake abandons it before AP4. A core reset
takes the first two points, which no wake abandons, and then ends. -/
def execDeepEntryStep (c : CoreId) (ap : AbortPoint) (s : State) : Res :=
  let k := s.core c
  if k.run ≠ .entering ap then .next s
  else match ap with
    | .ap1 =>
      if s.abandons c then .next (s.wakeCore c)
      else if !k.drained then .next s
      else
        let k := { k with run := .entering .ap2, xlat := { k.xlat with walks := [] } }
        .next ((s.setCore c k).keepAll c)
    | .ap2 =>
      if s.abandons c then .next (s.wakeCore c)
      else if k.pipe.clean ∧ k.resetting then .next (s.coreResetEnd c)
      else if k.pipe.clean then .next (s.setCore c { k with run := .entering .ap3 })
      else .next (s.keepAll c)
    | .ap3 =>
      if s.abandons c then .next (s.wakeCore c)
      else .next (s.setCore c { k.wakeCopy with run := .entering .ap4 })
    | .ap4 => .next ((s.setCore c k.commitDeep).updateStud (c.val / 32))

/-- WAKE_EVENT (R378, R381 to R383, R440, R441): a wake stands and is served. A stud in HELD or under self-test keeps
it waiting. -/
def execWakeEvent (c : CoreId) (s : State) : Res :=
  let k := s.core c
  let st := s.stud (c.val / 32)
  if !s.mustWake c then .next s
  else match k.run with
    | .idle => .next ((s.setCore c { k with run := .run, waiting := .nothing, wake := false }).retry c)
    | .sleep => .next (s.wakeCore c)
    | .entering .ap4 => .next (s.setCore c { k with wake := true })
    | .entering _ => .next (if k.resetting then s else s.wakeCore c)
    | .deep => .next (if st.held ∨ st.testing then s.setCore c { k with wake := true } else s.wakeCore c)
    | .held =>
      if !k.wake ∨ st.held ∨ st.testing ∨ !s.isBooted (s.frameOfCore c) ∨ (s.frame (s.frameOfCore c)).halted then .next s
      else .next (s.releaseCore c)
    | _ => .next s

end Sys2Proof.Machine
end

