-- ==== Sys2Proof/Machine/Plumb.lean ====
section
/-! DEFINITION. Plumb's commands in common (R313 to R328): the catalogue, the checks of R321, resources, replies, and
what a command's own checks and effect answer. -/

namespace Sys2Proof.Machine

/-- Where the frame's own DRAM begins in its view: its slice of a joined domain (R259). -/
def State.ownBase (s : State) (f : Nat) : Nat :=
  let fr := s.frame f
  if fr.joinSt = 2 then rankOf fr.members s.plumb.pkgId * (2 ^ 43 / max fr.members.length 1) else 0

/-! ## The catalogue (R328 to R339) -/

/-- Opcode, least and greatest LENGTH, whether the command is long, whether it needs package scope, and whether it can
be aborted once started. -/
def catalogue : List (Nat × Nat × Nat × Bool × Bool × Bool) :=
  [(0x01, 0, 0, false, false, false), (0x02, 1, 1, false, false, false), (0x03, 1, 1, false, false, false),
   (0x04, 0, 4096, false, false, false), (0x10, 8, 8, true, false, false), (0x11, 0, 0, false, false, false),
   (0x12, 8, 8, true, false, false), (0x13, 8, 8, true, false, false), (0x20, 8, 8, false, false, false),
   (0x21, 0, 0, false, false, false), (0x22, 8, 8, true, false, false), (0x23, 8, 8, false, false, false),
   (0x24, 8, 8, false, true, false), (0x25, 1, 1, false, false, false), (0x30, 16, 24, true, false, true),
   (0x31, 16, 16, false, false, false), (0x32, 8, 8, true, false, false), (0x33, 12, 12, false, false, false),
   (0x34, 0, 0, true, false, false)] ++
  [(0x40, 24, 24, true, false, false), (0x41, 8, 8, false, false, false), (0x42, 8, 8, true, false, false),
   (0x43, 24, 24, true, false, true), (0x44, 8, 8, true, false, false), (0x50, 8, 8, false, true, false),
   (0x51, 0, 0, false, true, false), (0x52, 12, 12, false, false, false), (0x53, 4, 4, false, true, false),
   (0x54, 0, 0, true, true, false), (0x60, 8, 8, false, false, false), (0x61, 8, 8, false, false, false),
   (0x62, 8, 8, true, false, false), (0x63, 8, 8, true, false, false), (0x64, 16, 16, false, false, false),
   (0x70, 8, 8, true, true, true), (0x71, 9, 4096, true, true, false), (0x72, 0, 0, true, true, false),
   (0x73, 32, 32, true, false, false)]

def opRow (op : Nat) : Option (Nat × Nat × Nat × Bool × Bool × Bool) := catalogue.find? (fun r => r.1 == op)
/-- A long command: its bound exceeds 1 ms (R323). -/
def opLong (op : Nat) : Bool := (opRow op).elim false (fun r => r.2.2.2.1)
/-- A command that a frame scope is denied (R41, R328). -/
def opPackage (op : Nat) : Bool := (opRow op).elim false (fun r => r.2.2.2.2.1)
/-- A command that can be aborted once started. -/
def opAborts (op : Nat) : Bool := (opRow op).elim false (fun r => r.2.2.2.2.2)
/-- A command that writes the boot flash (R325). -/
def opFlash (op : Nat) : Bool := [0x10, 0x34, 0x63, 0x70, 0x71, 0x72].contains op

/-- The LENGTH fits the opcode (R321, R333). -/
def lengthOk (op len : Nat) : Bool :=
  (opRow op).elim false (fun r => decide (r.2.1 ≤ len) && decide (len ≤ r.2.2.1) && (op != 0x30 || len == 16 || len == 24))
/-- DETAIL of BAD_LENGTH: the length required, or 0xFFFF for a variable one (R320). -/
def lengthDetail (op : Nat) : Nat := (opRow op).elim 0 (fun r => if r.2.1 = r.2.2.1 then r.2.1 else 0xFFFF)

end Sys2Proof.Machine

namespace Sys2Proof

/-- The offset of the first check that fails: fields with their offsets, and bytes that must be zero (R320, R322). -/
def CmdPkt.bad (p : CmdPkt) (rsvd : List Nat) (l : List (Nat × Bool)) : Option Nat :=
  ((l.filter (fun e => !e.2)).map (·.1) ++ rsvd.filter (fun i => p.le i 1 != 0)).min?
/-- A rsvd field of the header is not zero. -/
def CmdPkt.headRsvd (p : CmdPkt) : Bool := p.rsvdA != 0 || p.rsvdB != 0 || p.rsvdC != 0 || p.rsvdD != 0

end Sys2Proof

namespace Sys2Proof.Machine

/-! ## What a command answers -/

/-- The state a command leaves, with its status, payload and DETAIL; none for a long command that runs on. -/
abbrev Ans := State × Option (Nat × List Byte × Nat)

def State.ok (s : State) (payload : List Byte) : Ans := (s, some (stOk, payload, 0))
def State.no (s : State) (status detail : Nat) : Ans := (s, some (status, [], detail))
def State.runs (s : State) : Ans := (s, none)

/-- A command goes on unless one of its parameters is out of range. -/
def State.unless (s : State) (bad : Option Nat) (go : Ans) : Ans :=
  match bad with
  | some d => s.no stRange d
  | none => go

/-- Offsets from a to b - 1. -/
def offs (a b : Nat) : List Nat := (List.range (b - a)).map (a + ·)

/-- TFRAME of R500: the frame it names, or the status it meets. -/
def State.tframe (s : State) (t : TInst) (v : Nat) : Nat × Nat :=
  match s.scopeOf t with
  | some f =>
    if v = 0 ∨ v = f + 1 then (stOk, f) else if 5 ≤ v then (stRange, 0) else (stDenied, 0)
  | none =>
    if v = 0 then (if frameCount s.mode = 1 then (stOk, 0) else (stRange, 0))
    else if frameCount s.mode < v then (stRange, 0) else (stOk, v - 1)

/-- The frames a transport instance sees. -/
def State.scopeFrames (s : State) (t : TInst) : List Nat := (framesOf s.mode).filter (s.inScope t)

/-! ## Resources (R325) -/

/-- The boot flash, the firmware session, Scribe, the power settings and the cooling settings. -/
def resFlash := 1
def resSession := 2
def resScribe := 3
def resPower := 4
def resCooling := 5
def resBay (b : Nat) : Nat := 0x10 + b
def resTenon (n : Nat) : Nat := 0x40 + n
def resPort (p : Nat) : Nat := 0x60 + p
def resChans (f : Nat) : Nat := 0x3000 + f
/-- The reset of frame f: a second one waits for the first (R325, R452). -/
def resReset (f : Nat) : Nat := 0x4000 + f

/-- The bays of a mask. -/
def maskBays (m : Nat) : List Nat := (List.range 12).filter (bitOf m)

/-- The resources a command uses (R325). -/
def State.resources (s : State) (t : TInst) (op : Nat) (p : CmdPkt) : List Nat :=
  let inst := p.le 1 1
  let tf (off : Nat) : Nat := (s.tframe t (p.le off 1)).2
  match op with
  | 0x10 | 0x63 => [resFlash]
  | 0x12 => [resReset (p.le 0 1)]
  | 0x13 => [resTenon (p.le 0 1)]
  | 0x20 | 0x23 => [resPower]
  | 0x22 =>
    let d := p.le 0 1
    if 14 ≤ d ∧ d < 26 then [resPower, resBay (d - 14)]
    else if d = 26 ∨ d = 27 then resPower :: (holdersOf s.mode d).map resChans
    else if d = 28 ∨ d = 29 then resPower :: (portsOfDom d).map resPort else [resPower]
  | 0x24 => [resCooling]
  | 0x30 => [resChans (tf 16)]
  | 0x31 => match p.le 0 1 with
    | 0 => [resChans (tf 3)]
    | 1 | 4 => [resBay (homeBay s.mode (tf 3) ((p.le 8 8 - s.ownBase (tf 3)) / 64 * 64))]
    | 5 => [resTenon (p.le 6 1 % 16)]
    | 6 => [resPort (p.le 4 1)]
    | _ => []
  | 0x32 => if p.le 0 1 = 0 then [resTenon inst] else [resBay inst]
  | 0x34 => resFlash :: (s.scopeFrames t).map resChans
  | 0x40 => (studsOf s.mode (tf 17)).map resBay
  | 0x41 | 0x44 => (maskBays (p.le 0 2)).map resBay
  | 0x42 => [resBay (p.le 0 1)]
  | 0x43 => if p.le 16 1 = 0 then (studsOf s.mode (tf 17)).map resBay else (maskBays (p.le 18 2)).map resBay
  | 0x50 | 0x51 | 0x52 | 0x53 | 0x54 => [resScribe]
  | 0x61 => if p.le 0 1 = 2 then [resTenon inst] else []
  | 0x62 => if p.le 0 1 = 0 then [resTenon inst] else [resPort inst]
  | 0x70 | 0x71 | 0x72 => [resSession, resFlash]
  | _ => []

/-- The job waits behind an earlier one on a resource; a second SCRUB_RANGE of a frame, and a FW_BEGIN beside a command of the firmware
session, are refused at once instead (R243, R325, R337). -/
def Job.behind (j : Job) (earlier : List Job) : Bool :=
  earlier.any (fun k => k.res.any (fun r => j.res.contains r) && !(j.opcode == 0x30 && k.opcode == 0x30) &&
    !(j.opcode == 0x70 && k.res.contains resSession))

/-! ## Replies (R320, R323, R324) -/

/-- Endings that CMD_EVENTS counts (R423). -/
def State.countEnd (s : State) (status : Nat) : State :=
  if status = stTimeout then s.cmdEvent 3 else if status = stHwFault then s.cmdEvent 4
  else if status = stAborted then s.cmdEvent 5 else s

/-- Two views of one command. -/
def Job.same (a b : Job) : Bool := a.no == b.no
/-- The number of the next command taken. -/
def State.nextNo (s : State) : Nat := (s.plumb.jobs.getLast?.map (·.no + 1)).getD 0

/-- The final reply of a job, and its COMMAND_DONE: both discarded for a lost transport instance (R324, R326). -/
def State.finalReply (s : State) (j : Job) (status detail : Nat) (payload : List Byte) : State :=
  let s := s.countEnd status
  let k := (s.plumb.jobs.find? (·.same j)).getD j
  let s := { s with plumb := { s.plumb with jobs := s.plumb.jobs.filter (fun (k : Job) => !k.same j) } }
  if k.lost then s
  else
    let s := s.sendReply j.t k.acc j.taken (replyPacket status j.opcode j.pkt.tag.toNat j.pkt.seq.toNat detail payload)
    if j.pkt.notify then s.commandDone j.t j.opcode j.pkt.tag.toNat status else s

/-- ACCEPTED (R323). -/
def State.accepted (s : State) (j : Job) : State :=
  if j.lost then s
  else
    let s := { s with plumb := { s.plumb with jobs := s.plumb.jobs.map (fun (k : Job) => if k.same j then { k with acc := true } else k) } }
    s.sendReply j.t false j.taken (replyPacket stAccepted j.opcode j.pkt.tag.toNat j.pkt.seq.toNat 0 [])

/-- A refusal at checks 1 to 5 of R321: it holds no tag. A packet whose CRC fails posts no COMMAND_DONE, since its
header is not to be trusted (log entry 25). -/
def State.refuseTake (s : State) (t : TInst) (op : Nat) (p : CmdPkt) (status detail : Nat) : State :=
  let s := if status = stIntegrity then s.cmdEvent 6 else if status = stBusy then s.cmdEvent 7 else s
  let b := replyPacket status op p.tag.toNat p.seq.toNat detail []
  let s := s.putReply t false s.mtime.toNat b (freesTag b && status != stIntegrity)
  if p.notify ∧ status ≠ stIntegrity then s.commandDone t op p.tag.toNat status else s

/-- The tag is outstanding on its instance (R314). -/
def State.tagBusy (s : State) (t : TInst) (tag : Nat) : Bool :=
  s.plumb.jobs.any (fun j => j.t == t && !j.lost && j.pkt.tag.toNat == tag) || s.plumb.dead.any (fun e => e.t == t && e.tag == tag)

/-- The first of checks 1 to 5 that fails: status and DETAIL (R321). -/
def State.takeCheck (s : State) (t : TInst) (op : Nat) (p : CmdPkt) : Option (Nat × Nat) :=
  if !p.crcOk (BitVec.ofNat 8 op) then some (stIntegrity, 0)
  else if (opRow op).isNone then some (stBadOpcode, 0)
  else if !lengthOk op p.len.toNat then some (stBadLength, lengthDetail op)
  else if p.headRsvd then some (stRange, 0)
  else if s.tagBusy t p.tag.toNat then some (stBusy, 0xFFFF)
  else none

/-- The transport instance exists and reaches Plumb: MCTP with an endpoint ID (R316), the ring of a booted frame, the
mailbox of a dovetail function. A boot that is held takes no command. -/
def State.canReach (s : State) (t : TInst) : Bool :=
  s.live && !s.plumb.drained && !s.plumb.waitRstN && s.plumb.hot.isEmpty && (s.pins.resetN || s.plumb.recovery) &&
    (match t.kind with
     | .mctp => s.plumb.eid != 0
     | .ring => (framesOf s.mode).contains t.inst && s.isBooted t.inst && !(s.frame t.inst).halted
     | .dovetail => decide (t.inst < 8) && (s.port t.inst).pers == 3 && !(s.port t.inst).inReset)

/-- Opcodes that recovery accepts (R437). -/
def recoveryOk (op : Nat) : Bool := [0x01, 0x04, 0x70, 0x71, 0x72].contains op

end Sys2Proof.Machine
end

