-- ==== Sys2Proof/Machine/CmdInfo.lean ====
section
/-! DEFINITION. Information and mode commands of Plumb: GET_INFO, GET_STATUS, ECHO, SET_MODE and GET_MODE (R37 to R42,
R329). Each answers the state it leaves with its reply, or none while a long command runs on. -/

namespace Sys2Proof.Machine

/-! ## The mode checks (R33, R37, R42) -/

/-- Default mode and ALLOWED mask of a bundle (R37). -/
def Bundle.modeCfg (b : Bundle) : Nat × Nat := b.mode.getD (0, 0xFFF)

/-- Ports of a personality in a frame under a mode, by the given personalities (R42). -/
def countPers (pers : Nat → Nat) (l : List Nat) (v : Nat) : Nat := (l.filter (fun p => pers p == v)).length

/-- The purlin port count that R33 requires of a frame of a Joined mode. -/
def purlinCountOk (mode k : Nat) : Bool :=
  decide (1 ≤ k) && (match frameCount mode with | 1 => decide (k ≤ 4) | 2 => decide (k ≤ 2) | _ => k == 1)

/-- A mode passes the checks against given personalities (R42): personality 4 is purlin, 5 ridge. -/
def modeFits (pers : Nat → Nat) (mode : Nat) : Bool :=
  decide (countPers pers (List.range 8) 4 ≤ 4) && decide (countPers pers (List.range 8) 5 ≤ 4) &&
    (!joinedMode mode || (framesOf mode).all (fun f => purlinCountOk mode (countPers pers (portsOf mode f) 4)))

/-- The mode passes against the stored personalities (R42). -/
def State.modeFits (s : State) (mode : Nat) : Bool := Machine.modeFits (fun p => (s.storedPers p).pers) mode

/-! ## The commands (R329) -/

/-- GET_INFO. -/
def State.cmdGetInfo (s : State) (j : Job) : Ans :=
  let b := s.plumb.running
  let scope := (s.scopeOf j.t).getD 0xFF
  s.ok (bytesOf 2 1 ++ bytesOf 1 b.major ++ bytesOf 1 b.minor ++ bytesOf 4 b.build ++ bytesOf 8 Config.serialNumber.toNat ++
    bytesOf 2 0x100 ++ bytesOf 1 s.ownPkg ++ bytesOf 1 s.mode ++ bytesOf 1 scope ++ bytesOf 1 (TInst.code j.t) ++
    bytesOf 1 (if j.t.kind = .mctp then 0 else j.t.inst) ++ bytesOf 1 0 ++ bytesOf 2 4096 ++ bytesOf 2 (s.outstanding j.t))

/-- GET_STATUS. The progress of a running command is a free value up to 1,000: the spec states no measure of it. -/
def State.cmdGetStatus (s : State) (j : Job) : Ans :=
  let tag := j.pkt.byte 0
  let ms (taken : Nat) : List Byte := bytesOf 4 ((s.mtime.toNat - taken) / 100000)
  match s.plumb.jobs.find? (fun k => k.t == j.t && !k.lost && k.pkt.tag.toNat == tag) with
  | some k =>
    if k.running || k.same j then
      let (w, s) := s.take
      s.ok ([2] ++ bytesOf 1 k.opcode ++ bytesOf 2 (w.toNat % 1001) ++ ms k.taken)
    else s.ok ([1] ++ bytesOf 1 k.opcode ++ bytesOf 2 0 ++ ms k.taken)
  | none =>
    match s.plumb.dead.find? (fun e => e.t == j.t && e.tag == tag) with
    | some e => s.ok ([3] ++ bytesOf 1 e.opcode ++ bytesOf 2 1000 ++ ms e.taken)
    | none => s.ok (bytesOf 8 0)

/-- ECHO. -/
def State.cmdEcho (s : State) (j : Job) : Ans := s.ok (j.pkt.params.take j.pkt.len.toNat)

/-- SET_MODE: the checks of R38 in their order. -/
def State.cmdSetMode (s : State) (j : Job) : Ans :=
  let m := j.pkt.byte 0
  s.unless (j.pkt.bad (offs 1 8) [(0, decide (m ≤ 11))])
    (if (s.scopeOf j.t).isSome then s.no stDenied 0
     else if !bitOf s.plumb.running.modeCfg.2 m then s.no stDenied 0
     else if !s.modeFits m then s.no stWrongMode 0
     else s.runs)

/-- The newest copy of the mode record with a valid CRC (R40). -/
def Flash.mode (fl : Flash) : Option ModeCopy :=
  match (Tab.find fl.modes 0).filter (!·.bad), (Tab.find fl.modes 1).filter (!·.bad) with
  | some a, some b => some (if a.seq < b.seq then b else a)
  | some a, none => some a
  | none, b => b

/-- The mode record written: over the copy that is not the newest valid one (R39). -/
def Flash.writeMode (fl : Flash) (m : Nat) : Flash :=
  match fl.mode with
  | none => { fl with modes := Tab.set fl.modes 0 { seq := 1, mode := m } }
  | some v =>
    let i := if (Tab.find fl.modes 0) = some v then 1 else 0
    { fl with modes := Tab.set fl.modes i { seq := v.seq + 1, mode := m } }

/-- SET_MODE ends (R38, R39); one that names the pending mode writes nothing. -/
def State.finSetMode (s : State) (j : Job) (fin : FinishIn) : State × Nat × List Byte :=
  let m := j.pkt.byte 0
  if m = s.plumb.pendMode then (s, stOk, [])
  else if !fin.hwOk then (s, stHwFault, [])
  else
    ({ s with plumb := { s.plumb with flash := s.plumb.flash.writeMode m, pendMode := m } }, stOk, [])

/-- GET_MODE. -/
def State.cmdGetMode (s : State) : Ans :=
  let (dflt, allowed) := s.plumb.running.modeCfg
  s.ok (bytesOf 1 s.mode ++ bytesOf 1 s.plumb.pendMode ++ bytesOf 2 allowed ++ bytesOf 1 dflt ++ bytesOf 1 s.plumb.modeSrc)

end Sys2Proof.Machine
end

