-- ==== Sys2Proof/Machine/CmdScribe.lean ====
section
/-! DEFINITION. Scribe: the image in the journal device, the commands that read, freeze, clear and flush, and the rows
that sample (R420 to R427, R335). -/

namespace Sys2Proof.Machine

/-! ## The journal image (R425 to R427) -/

/-- A record as an image holds it. -/
def Rec.head (r : Rec) : Nat × Nat × Word × Word × Nat := (r.samples, r.missed, r.upd, r.clr, r.flags)

/-- An image of every record and the line log written to the slot with the older sequence number. The device marks
stand in the journal since each was made (R240). -/
def State.writeImage (s : State) (cause : Nat) : State :=
  let sc := s.scribe
  let seqOf (i : Nat) : Nat := (Tab.find sc.slots i).elim 0 (·.seq)
  let slot := if seqOf 0 ≤ seqOf 1 then 0 else 1
  let img : JImage := {
    seq := sc.imageSeq + 1, cause := cause, boot := sc.bootNo,
    bins := sc.recs.map (fun e => (e.1, e.2.bins)), heads := sc.recs.map (fun e => (e.1, e.2.head)),
    log0 := sc.counts.map (fun e => (e.1, e.2.n ++ [e.2.stamp.toNat])) }
  { s with scribe := { sc with slots := Tab.set sc.slots slot img, imageSeq := sc.imageSeq + 1, jLog := sc.log,
                               jLogSeq := sc.logSeq } }

/-- A SCRIBE notice to every booted frame (R419). -/
def State.postScribe (s : State) (event cause data : Nat) : State :=
  s.postAll (notice 0x50 3 11 (event * 2 ^ 12 + cause * 2 ^ 8) data)

/-- A flush ends (R425): written, or failed with the older image intact; a second flush starts if one was triggered. -/
def State.flushEnd (s : State) (ok : Bool) : State :=
  match s.scribe.flushing with
  | none => s
  | some c =>
    let again := s.scribe.again
    let s := if ok then (s.writeImage c) else s.pkgEvent 12
    let s := { s with scribe := { s.scribe with flushing := none, again := none } }
    let s := if ok then s.postScribe 0 c s.scribe.imageSeq else s.postScribe 1 c (s.scribe.imageSeq + 1)
    match again with
    | some c => s.startFlush c
    | none => s

/-! ## Records (R421, R423) -/

/-- Kind and instance of a record ID, if the catalogue holds it. -/
def recOfId (id : Nat) : Option (Nat × Nat) :=
  if id % 2 ^ 16 = 0 ∧ recExists (id / 2 ^ 24) (id / 2 ^ 16 % 256) then some (id / 2 ^ 24, id / 2 ^ 16 % 256) else none

/-- Bytes of a record (R421). -/
def recSize (kind : Nat) : Nat := 64 + 8 * recBins kind

/-- A record as SCRIBE_READ shows it (R421). -/
def Rec.bytes (r : Rec) (kind inst : Nat) : List Byte :=
  bytesOf 4 (kind * 2 ^ 24 + inst * 2 ^ 16) ++ bytesOf 4 (recSize kind) ++ bytesOf 2 (recBins kind) ++ bytesOf 1 (recForm kind) ++
    bytesOf 1 r.flags ++ bytesOf 4 0 ++ bytesOf 8 r.samples ++ bytesOf 8 r.missed ++ bytesOf 8 r.upd.toNat ++
    bytesOf 8 r.clr.toNat ++ bytesOf 16 0 ++
    (List.range (recBins kind)).flatMap (fun k => bytesOf 8 ((r.bin kind k) % 2 ^ 64).toNat)

/-- The scope of a transport instance covers a record: any scope for a package instance (R420). -/
def State.recInScope (s : State) (t : TInst) (kind inst : Nat) : Bool :=
  let l := s.recFrames kind inst
  (s.scopeOf t).isNone || (match s.scopeOf t with | some f => l.contains f | none => true)

/-- Every record of the catalogue. -/
def allRecs : List (Nat × Nat) :=
  [0x01, 0x02, 0x03, 0x10, 0x11, 0x12, 0x13, 0x20, 0x21, 0x22, 0x23, 0x24, 0x30, 0x40, 0x41, 0x42].flatMap (fun k =>
    ((List.range 256).filter (recExists k)).map (fun i => (k, i)))

/-! ## The commands (R335, R424, R425) -/

/-- SCRIBE_FREEZE. -/
def State.cmdScribeFreeze (s : State) (j : Job) : Ans :=
  let d := j.pkt.le 0 2
  s.unless (j.pkt.bad (offs 2 8) [(0, decide (1 ≤ d ∧ d ≤ 250))])
    (if s.scribe.frozen then s.no stBusy 0
     else
       let s := s.pkgEvent 13
       ({ s with scribe := { s.scribe with frozen := true } } : State).ok [])

/-- SCRIBE_THAW. -/
def State.cmdScribeThaw (s : State) : Ans := ({ s with scribe := { s.scribe with frozen := false } } : State).ok []

/-- SCRIBE_READ. -/
def State.cmdScribeRead (s : State) (j : Job) : Ans :=
  let off := j.pkt.le 4 4
  let len := j.pkt.le 8 2
  match recOfId (j.pkt.le 0 4) with
  | none => s.no stRange 0
  | some (k, i) =>
    if !s.recInScope j.t k i then s.no stDenied 0
    else
      s.unless (j.pkt.bad (offs 10 12)
          [(4, decide (off % 8 = 0 ∧ off < recSize k)),
           (8, decide (8 ≤ len ∧ len ≤ 4096 ∧ len % 8 = 0 ∧ (recSize k ≤ off ∨ off + len ≤ recSize k)))])
        (s.ok ((((s.recOf k i).bytes k i).drop off).take len))

/-- SCRIBE_CLEAR: one record, or every record and log 0 (R409). -/
def State.cmdScribeClear (s : State) (j : Job) : Ans :=
  let id := j.pkt.le 0 4
  if id = 0xFFFFFFFF then
    let s := allRecs.foldl (fun s r => s.setRec r.1 r.2 ((s.recOf r.1 r.2).clear s)) s
    ({ s with scribe := { s.scribe with counts := [] } } : State).ok []
  else match recOfId id with
    | none => s.no stRange 0
    | some (k, i) => (s.setRec k i ((s.recOf k i).clear s)).ok []

/-- SCRIBE_FLUSH starts; its final reply follows the flush. -/
def State.cmdScribeFlush (s : State) : Ans := (s.startFlush 0).runs

/-- A running SCRIBE_FLUSH is answered by the end of the flush under way, and not by that of an earlier one. -/
def State.flushAnswers (s : State) : Bool := s.scribe.flushing.isSome && (s.scribe.again.isNone || s.scribe.flushing == some 0)

/-! ## Rows (R204, R423 to R425) -/

/-- Histogram bin of a value: steps of `w` from `lo`, with the first and last bins open (R423). -/
def histBin (lo w : Int) (n : Nat) (v : Int) : Nat := min (n - 1) ((v - lo) / w).toNat

/-- SCRIBE_SAMPLE (R423, R424): a periodic sample of a record. Those of kinds 0x11 and 0x12 are VIN_SAMPLE and
COOLANT_SAMPLE themselves. `quantity` is the quantity of an extremes record, and 0 for SLEEP or 1 for DEEP exits. -/
def execScribeSample (rec_ : Word) (quantity : Nat) (val : Int) (s : State) : Res :=
  if !s.live then .next s
  else match recOfId rec_.toNat with
    | none => .next s
    | some (k, i) =>
      match k with
      | 0x01 => .next (s.recAdd k i (histBin (-1000) 200 64 val) 1)
      | 0x02 => .next (s.recAdd k i (histBin 0 (if i = 255 then 12500 else 1250) 64 val) 1)
      | 0x03 => .next (s.recAdd k i (histBin 800 100 29 val) 1)
      | 0x10 => if 2 ≤ quantity then .next s else .next (s.recExtreme k i quantity val)
      | 0x13 => .next (s.recAdd k i (histBin 0 1 201 val) 1)
      | 0x30 =>
        if 2 ≤ quantity then .next s else .next (s.recAdd k i (32 * quantity + log2Upto 31 val.toNat) 1)
      | _ => .next s

/-- SCRIBE_FREEZE_EXPIRY (R424). -/
def execScribeFreezeExpiry (s : State) : Res :=
  if !s.live ∨ !s.scribe.frozen then .next s
  else .next (({ s with scribe := { s.scribe with frozen := false } } : State).postScribe 2 0 0)

/-- SCRIBE_PERIODIC_FLUSH (R425). -/
def execScribePeriodicFlush (s : State) : Res := if !s.live then .next s else .next (s.startFlush 3)

/-- REPAIR_MAP_JOURNAL_WRITE (R204). -/
def execRepairMapJournalWrite (s : State) : Res :=
  if !s.live ∨ !s.plumb.mapDirty then .next s else .next s.writeMap

end Sys2Proof.Machine
end

