-- ==== Sys2Proof/Machine/CmdBay.lean ====
section
/-! DEFINITION. Bay commands of Plumb: BAY_LOCK_RANGE, BAY_UNLOCK, BENCH_CONFIG, BAY_FLUSH_RANGE and BAY_INVALIDATE
(R138 to R144, R333), with ranges of a frame's DRAM (R30, R259, R500). -/

namespace Sys2Proof.Machine

/-! ## Ranges of DRAM (R30, R259) -/

/-- Bytes of that slice; of a frame that is not joined, the whole DRAM range (R30, R259). -/
def State.sliceOf (s : State) (f : Nat) : Nat :=
  let fr := s.frame f
  if fr.joinSt = 2 then 2 ^ 43 / max fr.members.length 1 else 2 ^ 43

/-- A base and a length in whole pages within 0 to the top of the frame's own DRAM (R243). -/
def State.withinTop (s : State) (f base len : Nat) : Bool :=
  decide (s.ownBase f ≤ base) && decide (base - s.ownBase f + len ≤ min ((s.frame f).topGib * 2 ^ 30) (s.sliceOf f))

/-- The same, with the hole outside it: wholly within the frame's DRAM (R30). -/
def State.withinDram (s : State) (f base len : Nat) : Bool :=
  let la := base - s.ownBase f
  s.withinTop f base len && (decide (la + len ≤ 0xC0000000) || decide (0x100000000 ≤ la))

/-- A base and a length are multiples of 4 KiB, the length not zero. -/
def pagesOk (base len : Nat) : Bool := base % 4096 == 0 && len % 4096 == 0 && len != 0

/-- The first of the offsets at which a base, at 0, and a length, at 8, are wrong: whole pages first, then the range. -/
def rangeBad (base len : Nat) (inside : Bool) : List (Nat × Bool) :=
  [(0, base % 4096 == 0), (8, len % 4096 == 0 && len != 0), (0, inside || !pagesOk base len)]

/-! ## BAY_LOCK_RANGE and BAY_UNLOCK (R138, R140) -/

/-- The lines of a range of frame f that are homed in bay b, as the home reads them. -/
def State.rangeLines (s : State) (f b la len : Nat) : List Nat :=
  ((List.range (len / 64)).map (la / 64 + ·)).filter (fun l => homeBay s.mode f (l * 64) == b)

/-- The locked lines of bay b with those of a range added. -/
def State.lockSum (s : State) (f b la len : Nat) : List Nat :=
  let old := (s.home b).locked.flatMap (fun r => s.rangeLines f b r.1 r.2)
  old ++ (s.rangeLines f b la len).filter (fun l => !(s.home b).lockedLine l)

/-- No set of bay b would hold more than W locked lines. -/
def State.lockFits (s : State) (f b la len w : Nat) : Bool :=
  let l := (s.lockSum f b la len).map (fun x => s.baySetOf b (x * 64))
  l.all (fun k => decide ((l.filter (fun x => x == k)).length ≤ w))

/-- The work of a command begins on some bays. -/
def State.beginAll (s : State) (bays : List Nat) (w : Nat → BayWork) : State := bays.foldl (fun s b => s.beginWork b (w b)) s
/-- It is done on every one. -/
def State.workDone (s : State) (bays : List Nat) : Bool := bays.all (fun b => (s.home b).work.elim true (·.done))

/-- The ways a lock of w ways takes; a lock that adds to an earlier one empties none. -/
def lockWays (w : Nat) : Nat := (2 ^ w - 1) * 2 ^ (16 - w)

/-- BAY_LOCK_RANGE on one bay: its ways are emptied, and each line of the range is read through the home into them. -/
def State.lockWork (s : State) (la len w b : Nat) : BayWork :=
  { ways := if (s.home b).lockW = 0 then lockWays w else 0, all := true, lockW := w, next := la / 64, end_ := (la + len) / 64 }

/-- BAY_LOCK_RANGE: the checks of R500 and R138 in their order; an array that is OFF takes no lock (R401). -/
def State.cmdBayLock (s : State) (j : Job) : Ans :=
  let p := j.pkt
  let base := p.le 0 8
  let len := p.le 8 8
  let w := p.byte 16
  let (st, f) := s.tframe j.t (p.byte 17)
  let bays := studsOf s.mode f
  let inside := s.withinDram f base len
  if st ≠ stOk then s.no st (if st = stRange then 17 else 0)
  else
    s.unless (p.bad (offs 18 24) ((16, decide (1 ≤ w ∧ w ≤ 4)) :: rangeBad base len inside))
      (s.unless (p.bad [] [(8, bays.all (fun b => s.lockFits f b (base - s.ownBase f) len w)),
          (16, bays.all (fun b => (s.home b).bench != 12 && ((s.home b).lockW == 0 || (s.home b).lockW == w)))])
        (if bays.any (fun b => (s.home b).arrayFail) then s.no stHwFault 0
         else if bays.any (fun b => s.domStateOf (14 + b) == 4) then s.no stBusy 0
         else (s.beginAll bays (s.lockWork (base - s.ownBase f) len w)).runs))

/-- The bays whose arrays a command works on. -/
def State.workBays (s : State) (j : Job) : List Nat :=
  let p := j.pkt
  match j.opcode with
  | 0x22 => if 14 ≤ p.byte 0 ∧ p.byte 0 < 26 ∧ p.byte 1 = 2 then [p.byte 0 - 14] else []
  | 0x40 => studsOf s.mode (s.tframe j.t (p.byte 17)).2
  | 0x42 => [p.byte 0]
  | 0x43 => if p.byte 16 = 1 then maskBays (p.le 18 2) else studsOf s.mode (s.tframe j.t (p.byte 17)).2
  | _ => []

/-- The work of a command is over. -/
def State.endAll (s : State) (j : Job) : State := (s.workBays j).foldl State.endWork s

/-- BAY_LOCK_RANGE ends. -/
def State.finBayLock (s : State) (j : Job) : State × Nat × List Byte := (s.endAll j, stOk, [])

/-- The checks of a bay mask at an offset: a bay outside scope DENIED, a mask that is zero, names no bay, or names bays
of several frames OUT_OF_RANGE (R333). -/
def State.maskCheck (s : State) (t : TInst) (m off : Nat) (rsvd : Option Nat) (go : Ans) : Ans :=
  if (maskBays m).any (fun b => !s.inScope t (s.frameOfStud b)) then s.no stDenied 0
  else if m = 0 ∨ 2 ^ 12 ≤ m ∨ (maskBays m).any (fun b => (maskBays m).any (fun c => s.frameOfStud b != s.frameOfStud c)) then s.no stRange (min off (rsvd.getD off))
  else s.unless rsvd go

/-- The locks of a bay removed: its locked lines stay as ordinary lines. -/
def Home.unlock (h : Home) : Home := { h with lockW := 0, locked := [] }

/-- BAY_UNLOCK. -/
def State.cmdBayUnlock (s : State) (j : Job) : Ans :=
  let m := j.pkt.le 0 2
  s.maskCheck j.t m 0 (j.pkt.bad (offs 2 8) [])
    (((maskBays m).foldl (fun s b => s.setHome b (s.home b).unlock) s).ok [])

/-! ## BENCH_CONFIG (R141, R143) -/

/-- The ways that a change of the bench from m to n ways takes from caching. -/
def benchWays (m n : Nat) : Nat := if m < n then 2 ^ n - 2 ^ m else 0

/-- BENCH_CONFIG: every access to the window is answered with an error until the command ends. -/
def State.cmdBench (s : State) (j : Job) : Ans :=
  let b := j.pkt.byte 0
  let w := j.pkt.byte 1
  let h := s.home b
  if b < 12 ∧ !s.inScope j.t (s.frameOfStud b) then s.no stDenied 0
  else
    s.unless (j.pkt.bad (offs 2 8) [(0, decide (b < 12)), (1, (w == 0 || w == 8 || w == 12) && !(w == 12 && decide (b < 12) && h.lockW != 0))])
      (if h.arrayFail then s.no stHwFault 0
       else if s.domStateOf (14 + b) = 4 then s.no stBusy 0
       else ((s.setHome b { h with benchBusy := true }).beginWork b { ways := benchWays h.bench w, all := true, bench := some w }).runs)

/-- BENCH_CONFIG ends. -/
def State.finBench (s : State) (j : Job) : State × Nat × List Byte := (s.endAll j, stOk, [])

/-- A bay's window answers with errors while a BENCH_CONFIG of it is accepted and has not ended, one that waits its turn
included (R143, R323). -/
def State.benchHold (s : State) (b : Nat) : State :=
  if 12 ≤ b then s
  else s.setHome b { s.home b with benchBusy := s.plumb.jobs.any (fun j => j.opcode == 0x42 && j.pkt.byte 0 == b && s.inScope j.t (s.frameOfStud b)) }

/-! ## BAY_FLUSH_RANGE and BAY_INVALIDATE (R147, R333) -/

/-- The lines that BAY_FLUSH_RANGE flushes in a bay: all of it, or a range of frame f. -/
def State.flushWork (s : State) (j : Job) : BayWork :=
  let p := j.pkt
  if p.byte 16 = 1 then {}
  else
    let la := p.le 0 8 - s.ownBase (s.tframe j.t (p.byte 17)).2
    { lo := la, hi := la + p.le 8 8 }

/-- BAY_FLUSH_RANGE. -/
def State.cmdBayFlush (s : State) (j : Job) : Ans :=
  let p := j.pkt
  let m := p.le 18 2
  let go : Ans := (s.beginAll (s.workBays j) (fun _ => s.flushWork j)).runs
  if p.byte 16 = 1 then s.maskCheck j.t m 18 (p.bad (offs 20 24) [(17, p.byte 17 == 0)]) go
  else if p.byte 16 ≠ 0 then s.no stRange 16
  else
    let (st, f) := s.tframe j.t (p.byte 17)
    if st ≠ stOk then s.no st (if st = stRange then 17 else 0)
    else s.unless (p.bad (offs 20 24) ((18, m == 0) :: rangeBad (p.le 0 8) (p.le 8 8) (s.withinDram f (p.le 0 8) (p.le 8 8)))) go

/-- BAY_FLUSH_RANGE ends: the lines written to DRAM. -/
def State.finBayFlush (s : State) (j : Job) : State × Nat × List Byte :=
  let n := (s.workBays j).foldl (fun n b => n + (s.home b).work.elim 0 (·.count)) 0
  (s.endAll j, stOk, bytesOf 8 n)

/-- BAY_INVALIDATE. -/
def State.cmdBayInvalidate (s : State) (j : Job) : Ans := s.maskCheck j.t (j.pkt.le 0 2) 0 (j.pkt.bad (offs 2 8) []) s.runs

/-- BAY_INVALIDATE ends: every line of the bays' caches discarded, dirty ones included, and their locks removed. -/
def State.finBayInvalidate (s : State) (j : Job) : State × Nat × List Byte :=
  ((maskBays (j.pkt.le 0 2)).foldl (fun s b => s.setHome b { (s.home b).unlock with cache := [] }) s, stOk, [])

/-- CMD_BUSY of the bays a command names (R354). -/
def State.markBusy (s : State) (j : Job) (on : Bool) : State :=
  if 0x40 ≤ j.opcode ∧ j.opcode ≤ 0x44 then
    ((List.range 12).filter (fun b => j.res.contains (resBay b))).foldl (fun s b =>
      let h := s.home b
      s.setHome b { h with cmdBusy := on }) s
  else s

end Sys2Proof.Machine
end

