-- ==== Sys2Proof/Machine/CmdPower.lean ====
section
/-! DEFINITION. Power and thermal commands of Plumb and the entry into package OFF (R331, R332, R385, R390). -/

namespace Sys2Proof.Machine

/-- A field named FRAME (R328): the frame, or the status it meets. -/
def State.frameField (s : State) (t : TInst) (f : Nat) : Nat :=
  if (s.scopeOf t).elim false (fun g => g != f) then stDenied else if frameCount s.mode ≤ f then stRange else stOk

/-- A stud field (R331): outside scope DENIED, no such stud OUT_OF_RANGE. -/
def State.studField (s : State) (t : TInst) (n : Nat) : Nat :=
  if 12 ≤ n then stRange else if s.inScope t (s.frameOfStud n) then stOk else stDenied

/-! ## Caps and policies (R331) -/

/-- SET_POWER_CAP. -/
def State.cmdSetPowerCap (s : State) (j : Job) : Ans :=
  let p := j.pkt
  let tgt := p.byte 0
  let f := p.byte 1
  let cap := p.le 4 2
  if tgt = 0 ∧ (s.scopeOf j.t).isSome then s.no stDenied 0
  else if tgt = 1 ∧ s.frameField j.t f = stDenied then s.no stDenied 0
  else
    s.unless (p.bad [2, 3, 6, 7]
        [(0, decide (tgt ≤ 1)), (1, if tgt = 0 then f == 0 else s.frameField j.t f == stOk),
         (4, if tgt = 0 then decide (400 ≤ cap ∧ cap ≤ 800) else cap == 0 || decide (100 ≤ cap ∧ cap ≤ 800))])
      (let s := if tgt = 0 then { s with power := { s.power with capCfg := cap } }
         else s.setFrame f { s.frame f with cap := cap }
       s.capNotices.ok [])

/-- GET_POWER. -/
def State.cmdGetPower (s : State) (j : Job) : Ans :=
  let p := s.power
  let see (f v : Nat) : Nat := if f < frameCount s.mode ∧ s.inScope j.t f then v else 0
  s.ok (bytesOf 4 p.pkgPower ++ bytesOf 4 p.avail ++ bytesOf 2 p.capCfg ++ bytesOf 2 (p.capEff / 1000) ++ bytesOf 4 p.vin ++
    bytesOf 4 p.iin ++ (List.range 4).flatMap (fun f => bytesOf 4 (see f (s.framePower p.domPower f))) ++
    (List.range 4).flatMap (fun f => bytesOf 2 (see f (s.frame f).cap)))

/-- SET_PERF_POLICY. -/
def State.cmdSetPerf (s : State) (j : Job) : Ans :=
  let p := j.pkt
  let n := p.byte 0
  let pol := p.byte 1
  let mhz := p.le 2 2
  if n < 12 ∧ s.studField j.t n = stDenied then s.no stDenied 0
  else
    s.unless (p.bad (offs 4 8)
        [(0, decide (n < 12) || n == 0xFF), (1, decide (pol ≤ 3)),
         (2, if pol = 3 then decide (800 ≤ mhz ∧ mhz ≤ 3600) && mhz % 100 == 0 else mhz == 0)])
      (let l := if n < 12 then [n] else (List.range 12).filter (fun k => s.inScope j.t (s.frameOfStud k))
       let s := l.foldl (fun s k => s.setStud k { s.stud k with policy := pol, fixedMhz := mhz }) s
       s.applyAll.ok [])

/-- SET_COOLING: a fixed duty is driven at once, unless the fallback stands (R394). -/
def State.cmdSetCooling (s : State) (j : Job) : Ans :=
  let p := j.pkt
  let m := p.byte 0
  let d := p.byte 1
  let lim := p.le 2 2
  s.unless (p.bad (offs 4 8)
      [(0, decide (m ≤ 1)), (1, if m = 1 then decide (20 ≤ d ∧ d ≤ 100) else d == 0), (2, decide (300 ≤ lim ∧ lim ≤ 700))])
    (({ s with power := { s.power with coolMode := m, fixedDuty := d, limit := lim,
                                       duty := if m = 1 ∧ !s.power.fallback then 2 * d else s.power.duty } } : State).ok [])

/-- A temperature in 0.01 °C as a signed 16-bit field. -/
def tempField (t : Int) : List Byte := bytesOf 2 (temp16 t)

/-- GET_THERMAL_MODEL: of a stud, or of the package with the hottest stud's Tj. -/
def State.cmdGetThermal (s : State) (j : Job) : Ans :=
  let n := j.pkt.byte 0
  if n ≠ 0xFF ∧ s.studField j.t n = stDenied then s.no stDenied 0
  else if n ≠ 0xFF ∧ 12 ≤ n then s.no stRange 0
  else
    let pkg := n == 0xFF
    let hot := (List.range 12).foldl (fun k m => if (s.stud k).sense.tj < (s.stud m).sense.tj then m else k) 0
    let m := if pkg then s.power.pkgModel else (s.stud n).model
    let i := if pkg then 12 else n
    let tj := if pkg then (s.stud hot).sense.tj else (s.stud n).sense.tj
    let mw := if pkg then s.power.pkgPower else Tab.get s.power.domPower 0 (2 + n)
    let ahead := s.predict i m mw s.power.duty tj
    let par (k : Nat) : Nat := (m.params i).getD k 0
    s.ok (bytesOf 4 (par 0) ++ bytesOf 4 (par 1) ++ bytesOf 4 (par 2) ++ bytesOf 4 (par 3) ++ bytesOf 2 m.residual ++
      bytesOf 4 m.age ++ tempField tj ++ tempField ahead)

/-! ## SET_DOMAIN_STATE (R332) -/

/-- The row of a domain offers the state. -/
def domOffers (d st : Nat) : Bool :=
  if d < 26 then st == 0 || st == 2 else if d < 30 then st == 0 || st == 1 else st == 2

/-- The frames that hold a domain; the whole package is every frame's. -/
def State.domHolders (s : State) (d : Nat) : List Nat := if d = 31 then framesOf s.mode else holdersOf s.mode d

/-- The refusal of the domain's own row. -/
def State.domRefusal (s : State) (d st : Nat) : Option (Nat × Nat) :=
  if d < 14 then (if st = 2 ∧ !s.allDeep (d - 2) then some (stBusy, 0) else none)
  else if d < 26 then
    (if st = 2 ∧ ((s.home (d - 14)).bench != 0 ∨ (s.home (d - 14)).lockW != 0) then some (stRange, 0) else none)
  else if 28 ≤ d ∧ d < 30 ∧ st = 1 then
    (if (portsOfDom d).any (fun p => ((s.port p).pers == 4 && (s.port p).purlin.st == 3) || ((s.port p).pers == 5 && (s.port p).ridge.st == 2))
     then some (stWrongMode, 0) else none)
  else none

/-- SET_DOMAIN_STATE: the checks of R332 in their order. -/
def State.cmdSetDomain (s : State) (j : Job) : Ans :=
  let p := j.pkt
  let d := p.byte 0
  let st := p.byte 1
  let f := p.byte 2
  let pkg := (s.scopeOf j.t).isNone
  if d = 30 ∨ 31 < d then s.no stRange 0
  else if d < 2 then s.no stDenied 0
  else
    s.unless (p.bad (offs 3 8)
        [(1, domOffers d st), (2, f == 0xFF || (decide (f < frameCount s.mode) && (!pkg || (s.domHolders d).contains f)))])
      (let own := (s.scopeOf j.t).getD 0
       if !pkg ∧ ((f ≠ 0xFF ∧ f ≠ own) ∨ !(s.domHolders d).contains own ∨ d = 31) then s.no stDenied 0
       else match s.domRefusal d st with
         | some (c, x) => s.no c x
         | none =>
           -- HELD holds from now on: no core of the stud leaves DEEP before the reply
           let s := if d < 14 ∧ st = 2 then s.setStud (d - 2) { s.stud (d - 2) with held := true } else s
           (s.beginAll (s.workBays j) (fun _ => { all := true })).runs)

/-- The arrays of a bay switched off: its dirty lines have been written to DRAM, and the array is invalidated (R332, R384). -/
def State.arrayOff (s : State) (b : Nat) : State := (s.setHome b { s.home b with cache := [], work := none }).setDom (14 + b) 4 0

/-- SET_DOMAIN_STATE ends, package OFF apart: the request is recorded and the domain follows. -/
def State.finSetDomain (s : State) (j : Job) : State × Nat × List Byte :=
  let d := j.pkt.byte 0
  let st := j.pkt.byte 1
  let f := j.pkt.byte 2
  let fs := if f ≠ 0xFF then [f] else match s.scopeOf j.t with | some g => [g] | none => s.domHolders d
  let votes := fs.foldl (fun m g => Tab.put m 0 (4 * d + g) st) s.power.votes
  let s := { s with power := { s.power with votes := votes } }
  let s :=
    if d < 14 then s.setStud (d - 2) { s.stud (d - 2) with held := st == 2 }
    else if d < 26 then
      (if st = 2 then s.arrayOff (d - 14) else if s.domStateOf d = 4 then s.setDom d 0 750 else s)
    else s.countVotes d
  (s, stOk, [])

/-! ## Package OFF (R385) -/

/-- What outlives the loss of D0's supply: the boot flash, the journal device, the fuses, the input pins, what CXL
devices hold, the messages the BMC has received, and the model's own queue and counter. -/
def State.persistent (s : State) : State :=
  { pins := { s.pins with errorN := true, thermtripN := true, vaux := false, driven := false },
    plumb := { flash := s.plumb.flash, minSvn := s.plumb.minSvn, journalMap := s.plumb.journalMap, mapSeq := s.plumb.mapSeq,
               mctpOut := s.plumb.mctpOut },
    scribe := { slots := s.scribe.slots, jLog := s.scribe.jLog, jLogSeq := s.scribe.jLogSeq, jMarks := s.scribe.jMarks,
                jBoot := s.scribe.jBoot, imageSeq := s.scribe.imageSeq },
    mem := s.mem.filter (fun c => decide (2 ^ 48 ≤ c.1)), memPoison := s.memPoison.filter (fun k => decide (2 ^ 48 ≤ k)),
    free := s.free, pending := s.pending }

/-- Every domain in OFF with no rail. -/
def allOff : Map Nat := (List.range 30).foldl (fun m d => Tab.set m d 4) []

/-- Steps 2 to 5 of R385, at once: the cores halted, the links down, Scribe flushed, the repair map written, every domain
off. -/
def State.enterOff (s : State) : State :=
  let s := ((s.pkgEvent 11).writeImage 4).writeMap
  let s := s.persistent
  { s with off := true, power := { s.power with domState := allOff }, plumb := { s.plumb with drained := true } }

end Sys2Proof.Machine
end

