-- ==== Sys2Proof/Machine/CmdMem.lean ====
section
/-! DEFINITION. Memory-integrity commands of Plumb: SCRUB_RANGE, INJECT_ERROR, GET_ERROR_LOG, MEM_TRAIN_SAVE and the
checks of CHECKER_SELFTEST (R235, R243, R333, R334, R409, R411, R500). -/

namespace Sys2Proof.Machine

/-! ## SCRUB_RANGE (R243) -/

/-- SCRUB_RANGE. -/
def State.cmdScrub (s : State) (j : Job) : Ans :=
  let p := j.pkt
  let base := p.le 0 8
  let len := p.le 8 8
  let (st, f) := s.tframe j.t (p.byte 16)
  if st ≠ stOk then s.no st (if st = stRange then 16 else 0)
  else
    s.unless (p.bad (offs 17 24) (rangeBad base len (s.withinTop f base len)))
      (if s.scrubbing f then s.no stBusy 0 else s.runs)

/-- Lines of a local range below la that are DRAM: those of the hole are not counted. -/
def scanCount (la len : Nat) : Nat :=
  let hole := min (la + len) 0x100000000 - max la 0xC0000000
  (len - hole) / 64

/-- The local address of a memory key of frame f's DRAM. -/
def State.keyAddr (s : State) (f key : Nat) : Option Nat :=
  if key < 2 ^ 46 then
    let c := key / 2 ^ 42
    if (chansOf s.mode f).contains c ∧ (s.chan c).st = 2 then some (s.chanPa c (key % 2 ^ 42 / 64)) else none
  else if key < 2 ^ 47 then
    let q := (key - 2 ^ 46) / 256
    if (quadsOf s.mode f).contains q then
      some (unplace s.mode f q ((s.frame f).nCh * (s.frame f).perCh + (key - 2 ^ 46) / 64 % 4))
    else none
  else none

/-- What a scan has gathered: SCANNED, CORRECTED, UNCORRECTABLE and the addresses of the lines found bad. -/
structure Scan where
  scanned : Nat := 0
  corrected : Nat := 0
  uncorr : Nat := 0
  bad : List Nat := []

/-- One line that may show an error read from DRAM: a line with a write queued is not read (R243). -/
def State.scanLine (s : State) (f la : Nat) (word : ReadWord) (a : Scan) : State × Scan :=
  let count (r : Nat) (poisoned : Bool) : Scan :=
    if r = 1 then { a with corrected := a.corrected + 1 }
    else if r = 2 ∨ poisoned then { a with uncorr := a.uncorr + 1, bad := a.bad ++ [la + s.ownBase f] } else a
  match s.place f la with
  | .chan c x =>
    if (s.chan c).wq.any (fun e => e.x == x) then (s, a)
    else let (s', _, p, r) := s.decodeRead c x word la; (s', count r (r == 0 && p))
  | .edge q slot =>
    let c := (s.activeChans q).headD (4 * q)
    if (s.chan c).wq.any (fun e => e.x == (s.chan c).lines + slot) then (s, a)
    else let (s', _, p, r) := s.decodeEdge q slot word la; (s', count r (r == 0 && p))

/-- The lines of a local range that may show an error, ascending: planted, poisoned, and those the finish names. -/
def State.suspects (s : State) (f la len : Nat) (found : List (Nat × ReadWord)) : List (Nat × ReadWord) :=
  let keys : List Nat := (Tab.keys s.memBad ++ s.memPoison).filterMap (s.keyAddr f)
  let l : List Nat := (keys ++ found.map (fun (e : Nat × ReadWord) => e.1 / 64 * 64)).foldl listAdd []
  (l.filter (fun (a : Nat) => decide (la ≤ a) && decide (a < la + len) && (s.frame f).holdsDram a)).map (fun (a : Nat) =>
    (a, ((found.find? (fun (e : Nat × ReadWord) => decide (e.1 / 64 * 64 = a))).map (fun (e : Nat × ReadWord) => e.2)).getD .asStored))

/-- A scan of a local range (R243). -/
def State.scan (s : State) (f la len : Nat) (found : List (Nat × ReadWord)) : State × Scan :=
  (s.suspects f la len found).foldl (fun a e => a.1.scanLine f e.1 e.2 a.2) (s, { scanned := scanCount la len })

/-- The summary of R243. -/
def Scan.bytes (a : Scan) : List Byte :=
  let lo := (a.bad.min?).getD (2 ^ 64 - 1)
  let hi := (a.bad.max?).getD (2 ^ 64 - 1)
  bytesOf 8 a.scanned ++ bytesOf 4 (min (2 ^ 32 - 1) a.corrected) ++ bytesOf 4 (min (2 ^ 32 - 1) a.uncorr) ++ bytesOf 8 lo ++
    bytesOf 8 hi

/-- SCRUB_RANGE ends. -/
def State.finScrub (s : State) (j : Job) (fin : FinishIn) : State × Nat × List Byte :=
  let f := (s.tframe j.t (j.pkt.byte 16)).2
  let (s, a) := s.scan f (j.pkt.le 0 8 - s.ownBase f) (j.pkt.le 8 8) fin.found
  (s, stOk, a.bytes)

/-- An aborted SCRUB_RANGE: how far the scan has come is a free value; lines are taken in ascending order. -/
def State.abortScrub (s : State) (j : Job) : State × List Byte :=
  let f := (s.tframe j.t (j.pkt.byte 16)).2
  let (w, s) := s.take
  let (s, a) := s.scan f (j.pkt.le 0 8 - s.ownBase f) (w.toNat % (j.pkt.le 8 8 / 64 + 1) * 64) []
  (s, a.bytes)

/-! ## INJECT_ERROR (R334) -/

/-- The types a target offers. -/
def injectTypes : Nat → List Nat
  | 0 => [0, 1, 2]
  | 1 => [0, 1]
  | 2 => [0, 1]
  | 3 => [3]
  | 4 => [1]
  | 5 => [4]
  | 6 => [5]
  | _ => []

/-- The instance field fits its target: hart indices of frame f. -/
def State.injectInst (s : State) (tgt typ f inst : Nat) : Bool :=
  match tgt with
  | 0 => if typ < 2 then decide (inst ≤ 9) else inst == 0
  | 2 | 3 => decide (inst < 4096) && (s.coreOfHart f inst).isSome
  | 5 =>
    let w := inst % 128
    decide (inst < 2 ^ 20) && decide (inst / 2 ^ 16 < 12) && !bitOf inst 14 && !bitOf inst 7 && (decide (w ≤ 73) || w == 75)
  | 6 => decide (inst < 8)
  | _ => inst == 0

/-- The PA fits its target: a line of the frame's own DRAM, of a channel for a device error. -/
def State.injectPa (s : State) (tgt typ f pa : Nat) : Bool :=
  if 5 ≤ tgt then pa == 0
  else
    let la := pa - s.ownBase f
    decide (s.ownBase f ≤ pa) && (s.frame f).holdsDram la &&
      !(tgt == 0 && decide (typ < 2) && (match s.place f (la / 64 * 64) with | .edge _ _ => true | .chan _ _ => false))

/-- The error planted: the state, and 1 where the line is not resident. -/
def State.plant (s : State) (tgt typ cnt f inst pa : Nat) : State × Nat :=
  let la := (pa - s.ownBase f) / 64 * 64
  let line := pa / 64
  let b := homeBay s.mode f la
  match tgt with
  | 0 =>
    let key := s.dramKey f la
    if typ = 2 then (s.setMemLine key (s.memLine key).1 true, 0)
    else ({ s with memBad := Tab.set s.memBad key (1 + 10 * typ + inst) }, 0)
  | 1 =>
    match s.bayFind b (la / 64) with
    | some (k, e) => let h := s.home b; (s.setHome b { h with cache := Tab.set h.cache k { e with bad := 1 + typ } }, 0)
    | none => (s, 1)
  | 2 =>
    match s.coreOfHart f inst with
    | some c =>
      let k := s.core c
      if (k.pipe.find2 line).isSome then (s.setCore c { k with pipe := { k.pipe with l2bad := Tab.set k.pipe.l2bad line (1 + typ) } }, 0) else (s, 1)
    | none => (s, 1)
  | 3 =>
    match s.coreOfHart f inst with
    | some c =>
      let k := s.core c
      if k.pipe.l1d.contains line then (s.setCore c { k with pipe := { k.pipe with l1bad := listAdd k.pipe.l1bad line } }, 0) else (s, 1)
    | none => (s, 1)
  | 4 =>
    match s.dirFind b (la / 64) with
    | some (k, e) => (s.setHome b ((s.home b).setDir k { e with bad := true }), 0)
    | none => (s, 1)
  | 5 => (s.tenonCounts (inst / 2 ^ 16) (if bitOf inst 15 then .dn else .up) (inst / 2 ^ 8 % 64) 0 [(inst % 128, cnt)], 0)
  | _ => let k := s.port inst; (s.setPort inst { k with corrupt := k.corrupt + 1 }, 0)

/-- INJECT_ERROR. -/
def State.cmdInject (s : State) (j : Job) : Ans :=
  let p := j.pkt
  let tgt := p.byte 0
  let typ := p.byte 1
  let cnt := p.byte 2
  let inst := p.le 4 4
  let (st, f) := if 5 ≤ tgt then (if p.byte 3 = 0 then stOk else stRange, 0) else s.tframe j.t (p.byte 3)
  if (tgt = 4 ∨ tgt = 5) ∧ (s.scopeOf j.t).isSome then s.no stDenied 0
  else if st = stDenied then s.no stDenied 0
  else if tgt = 6 ∧ inst < 8 ∧ !s.inScope j.t (s.frameOfPort inst) then s.no stDenied 0
  else
    s.unless (p.bad []
        [(0, decide (tgt ≤ 6)), (1, decide (6 < tgt) || (injectTypes tgt).contains typ), (2, if tgt = 5 then cnt != 0 else cnt == 0),
         (3, st == stOk)])
      (s.unless (p.bad [] [(4, s.injectInst tgt typ f inst), (8, s.injectPa tgt typ f (p.le 8 8))])
        (let (s, r) := s.plant tgt typ cnt f inst (p.le 8 8)
         s.ok (bytesOf 1 r)))

/-! ## CHECKER_SELFTEST starts (R333, R411) -/

/-- A stud may be tested: every core in DEEP or held, or its frame halted. A bay: EN = 0, no bench, no locks. -/
def State.testable (s : State) (kind i : Nat) : Bool :=
  if kind = 0 then s.allDeep i || (s.frame (s.frameOfStud i)).halted
  else let h := s.home i; !(h.en && !h.arrayFail) && h.bench == 0 && h.lockW == 0

/-- CHECKER_SELFTEST. -/
def State.cmdSelftest (s : State) (j : Job) : Ans :=
  let k := j.pkt.byte 0
  let i := j.pkt.byte 1
  if k ≤ 1 ∧ s.studField j.t i = stDenied then s.no stDenied 0
  else
    s.unless (j.pkt.bad (offs 2 8) [(0, decide (k ≤ 1)), (1, decide (i < 12))])
      (if !s.testable k i then s.no stBusy 0
       else if k = 0 then (s.setStud i { s.stud i with testing := true }).runs else s.runs)

/-! ## GET_ERROR_LOG (R408, R409) -/

/-- The frames that an instance of a source class belongs to; every frame for a package resource. -/
def State.srcFrames (s : State) (src inst : Nat) : List Nat :=
  match src with
  | 2 | 3 | 4 | 6 => [s.frameOfStud inst]
  | 5 => [frameOfChan s.mode inst]
  | 7 => [s.frameOfPort inst]
  | 13 => [s.frameOfAgent inst]
  | _ => framesOf s.mode

/-- A line-log entry as it is read; a FATAL entry of another frame has its place left out (R409). -/
def LogEnt.bytes (e : LogEnt) (hide : Bool) : List Byte :=
  let h (n v : Nat) : List Byte := bytesOf n (if hide then 0 else v)
  bytesOf 4 e.seq ++ bytesOf 1 e.cls ++ bytesOf 1 e.src ++ bytesOf 1 e.code ++ bytesOf 1 e.flags ++ h 8 e.pa ++
    bytesOf 8 e.stamp.toNat ++ h 2 e.inst ++ h 2 e.sub ++ h 1 e.detail ++ h 1 e.rpkg ++ bytesOf 2 0

/-- Log 0 in a scope. -/
def State.log0 (s : State) (t : TInst) : List (List Byte) :=
  (s.scribe.counts.filter (fun e => e.2.n.any (fun n => n != 0) &&
      (s.srcFrames (e.1 / 2 ^ 24) (e.1 % 2 ^ 16)).any (s.inScope t))).map (fun e =>
    bytesOf 1 (e.1 / 2 ^ 24) ++ bytesOf 1 (e.1 / 2 ^ 16) ++ bytesOf 2 e.1 ++ e.2.n.flatMap (bytesOf 4) ++ bytesOf 8 e.2.stamp.toNat)

/-- Log 1 in a scope: sequence numbers with their entries. -/
def State.log1 (s : State) (t : TInst) : List (Nat × List Byte) :=
  s.scribe.log.filterMap (fun e =>
    let own := e.src == 1 || s.inScope t (e.flags / 16 % 4)
    if own ∨ e.cls = 4 then some (e.seq, e.bytes (!own)) else none)

/-- Log 2 in a scope. -/
def State.log2 (s : State) (t : TInst) : List (List Byte) :=
  ((List.range 16).filter (fun c => s.inScope t (frameOfChan s.mode c) && (s.chan c).st == 2)).flatMap (fun c =>
    (s.chan c).marks.map (fun e =>
      bytesOf 1 c ++ bytesOf 1 (e.1 / 2 * 16 + e.1 % 2) ++ bytesOf 1 e.2.device ++ bytesOf 1 e.2.count ++ bytesOf 8 e.2.serial ++
        bytesOf 8 e.2.stamp.toNat ++ bytesOf 12 0))

/-- Entries by index: the count in the log, the index of the next, and the entries. -/
def byIndex (l : List (List Byte)) (first n : Nat) : List Byte :=
  let got := (l.drop first).take n
  bytesOf 4 l.length ++ bytesOf 4 (first + got.length) ++ got.flatten

/-- Entries by sequence number, from the oldest kept one on. -/
def State.bySeq (s : State) (l : List (Nat × List Byte)) (first n : Nat) : List Byte :=
  let l' := l.dropWhile (fun e => decide (2 ^ 31 ≤ (e.1 + 2 ^ 32 - first) % 2 ^ 32))
  let next := ((l'.drop n).head?.map (·.1)).getD s.scribe.logSeq
  bytesOf 4 l.length ++ bytesOf 4 next ++ ((l'.take n).map (·.2)).flatten

/-- GET_ERROR_LOG. -/
def State.cmdErrorLog (s : State) (j : Job) : Ans :=
  let log := j.pkt.byte 0
  let first := j.pkt.le 4 4
  let n := j.pkt.le 8 2
  s.unless (j.pkt.bad [1, 2, 3, 10, 11] [(0, decide (log ≤ 2)), (8, decide (1 ≤ n ∧ n ≤ 127))])
    (s.ok (match log with
      | 0 => byIndex (s.log0 j.t) first n
      | 1 => s.bySeq (s.log1 j.t) first n
      | _ => byIndex (s.log2 j.t) first n))

/-! ## MEM_TRAIN_SAVE (R235) -/

/-- The channels of a scope. -/
def State.scopeChans (s : State) (t : TInst) : List Nat := (s.scopeFrames t).flatMap (chansOf s.mode)

/-- MEM_TRAIN_SAVE. -/
def State.cmdTrainSave (s : State) (j : Job) : Ans :=
  if (s.scopeChans j.t).any (fun c => (s.chan c).st == 1) then s.no stBusy 0 else s.runs

/-- MEM_TRAIN_SAVE ends. -/
def State.finTrainSave (s : State) (j : Job) (fin : FinishIn) : State × Nat × List Byte :=
  if !fin.hwOk then (s, stHwFault, [])
  else
    let rec_ (c : Nat) : Saved := { serial := (s.chan c).res.serials, rate := (s.chan c).rate, ver := s.plumb.running.version }
    let train := ((s.scopeChans j.t).filter (fun c => (s.chan c).st == 2)).foldl (fun m c => Tab.set m c (rec_ c)) s.plumb.flash.train
    ({ s with plumb := { s.plumb with flash := { s.plumb.flash with train := train } } }, stOk, [])

end Sys2Proof.Machine
end

