-- ==== Sys2Proof/Machine/Purlin.lean ====
section
/-! DEFINITION. Purlin links: flits, replay and retrain (R250 to R252), identities (R34, R256), the join (R253, R257,
R258, R501), loss of a link (R184, R252, R258), DOMAIN_DOWN (R185) and the time exchange (R262). -/

namespace Sys2Proof.Machine

/-- The identity unit that port p sends (R256). -/
def State.idUnit (s : State) (p : Nat) : BitVec 128 :=
  let f := s.frameOfPort p
  BitVec.ofNat 128 (1 + s.plumb.pkgId * 2 ^ 8 + f * 2 ^ 11 + s.mode / 4 * 2 ^ 13 + b2n (variantO s.mode) * 2 ^ 15 +
    b2n (joinedMode s.mode) * 2 ^ 16 + p * 2 ^ 17 + (s.port p).purlin.width * 2 ^ 20)

/-! ## Notices and refusals (R34, R258, R419) -/

def State.setPurlin (s : State) (p : Nat) (l : Purlin) : State := s.setPort p { s.port p with purlin := l }

/-- The purlin ports of frame f. -/
def State.purlinPorts (s : State) (f : Nat) : List Nat := (portsOf s.mode f).filter (fun p => (s.port p).pers == 4)

/-- A purlin port held in reset (R35), once a DOMAIN_DOWN that waits has left. -/
def Port.holdPurlin (k : Port) (refuse role : Nat) : Port :=
  let l := k.purlin.hold refuse role
  { k with inReset := k.inReset || l.st == 4, purlin := l }

/-- DOMAIN_DOWN leaves on every purlin link of frame f that is up. -/
def State.sendDown (s : State) (f : Nat) : State :=
  (s.purlinPorts f).foldl (fun s q => s.setPurlin q ((s.port q).purlin.down s.ownPkg (32 + q))) s

/-- The join of frame f is refused as a whole (R34, R43, R258). -/
def State.refuseJoin (s : State) (f reason : Nat) : State :=
  let l := s.purlinPorts f
  let s := l.foldl (fun s p => s.setPort p ((s.port p).holdPurlin reason 0)) s
  let s := s.setFrame f { s.frame f with joinSt := 1, refused := true, members := [], links := [] }
  s.post [f] (linkNotice (l.headD 0xF) 2 reason f 0)

/-! ## Loss of a link (R184, R252, R258) -/

/-- Link p of its frame is lost: fatal once joined, unless it is a spare; before that the join is refused, and the other members
are told. -/
def State.linkLost (s : State) (p : Nat) : State :=
  let f := s.frameOfPort p
  let was := (s.port p).purlin.st
  let s := s.setPurlin p { (s.port p).purlin with st := 5, outQ := [], outUnits := [], outPart := 0, retry := [], replayAt := none, retraining := false, after := none }
  let s := (s.recAdd 0x24 (0x20 + p) 3 1).postLink p 4 0 0
  let fr := s.frame f
  if fr.joinSt = 2 then
    if (s.port p).purlin.role = 6 then s else s.fatal f { cls := 4, src := 7, code := 0x29, inst := p }
  else if fr.joinSt = 0 ∧ (was = 2 ∨ was = 3) then (s.sendDown f).refuseJoin f 8
  else s

/-- DOMAIN_DOWN received at port p (R184, R185, R258): fatal once joined, and sent on once over the frame's other links; before
that the join is refused. -/
def State.domainDown (s : State) (p : Nat) : State :=
  let f := s.frameOfPort p
  if (s.port p).pers ≠ 4 ∨ (s.port p).purlin.st ≠ 3 ∨ (s.frame f).halted then s
  else if (s.frame f).joinSt = 1 then s
  else
    -- the link it came by is not sent another
    let s := s.setPort p { s.port p with inReset := true, purlin := (s.port p).purlin.holdNow (s.port p).purlin.refuse (s.port p).purlin.role }
    if (s.frame f).joinSt = 2 then s.fatal f { cls := 4, src := 7, code := 0x32, inst := p }
    else (s.sendDown f).refuseJoin f 8

/-- DOMAIN_DOWN (R185). -/
def execDomainDown (p : PortId) (s : State) : Res := .next (s.domainDown p)

/-- PURLIN_LINK_LOST (R252). -/
def execPurlinLinkLost (p : PortId) (s : State) : Res :=
  let k := s.port p
  if k.pers = 4 ∧ (k.purlin.st = 2 ∨ k.purlin.st = 3) then .next (s.linkLost p) else .next s

/-! ## Identity (R34, R256) -/

/-- The reason of R34 and R258 for which a link is refused; 0 for none. -/
def State.identityReason (s : State) (p : Nat) (u : IdUnit) : Nat :=
  if u.fcIdx ≠ s.mode / 4 then 1
  else if u.variant ≠ b2n (variantO s.mode) then 2
  else if u.joined ≠ joinedMode s.mode then 3
  else if u.frame ≠ s.frameOfPort p then 4
  else if u.pkg = s.plumb.pkgId then 5
  else 0

/-- The identity unit that 128 bits spell (R256). -/
def idOfUnit (u : BitVec 128) : IdUnit :=
  let n := u.toNat
  { rev := bits n 7 0, pkg := bits n 10 8, frame := bits n 12 11, fcIdx := bits n 14 13, variant := bits n 15 15, joined := bitOf n 16,
    port := bits n 19 17, width := bits n 24 20 }

/-! ## Management messages (R257, R262) -/

/-- The 16 bytes of a management message (DESIGN CHOICE, log entry 43). -/
def Mgmt.data : Mgmt → Nat
  | .ids _ pkg l => 1 + pkg * 2 ^ 3 + l.length * 2 ^ 6 +
      (l.foldl (fun (x : Nat × Nat) e => (x.1 + (e.1 + e.2.1 * 8 + e.2.2 * 64) * 2 ^ x.2, x.2 + 9)) (0, 9)).1
  | .digest _ c => 2 + c.toNat * 2 ^ 3
  | .time _ pkg t => 3 + pkg * 2 ^ 3 + t.toNat * 2 ^ 6
  | .ask _ t => 4 + t.toNat * 2 ^ 3
  | .answer _ t m => 5 + t.toNat * 2 ^ 3 + m.toNat * 2 ^ 63
  | .block w => w.toNat * 2 ^ 3

/-- The management message that 16 bytes received at port p spell. -/
def mgmtOf (p : PortId) (n : Nat) : Mgmt :=
  match bits n 2 0 with
  | 1 => .ids p (bits n 5 3) ((List.range (min 4 (bits n 8 6))).map (fun i =>
      let e := n / 2 ^ (9 + 9 * i); (bits e 2 0, bits e 5 3, bits e 8 6)))
  | 2 => .digest p (BitVec.ofNat 32 (n / 2 ^ 3))
  | 3 => .time p (bits n 5 3) (BitVec.ofNat 64 (n / 2 ^ 6))
  | 4 => .ask p (BitVec.ofNat 60 (n / 2 ^ 3))
  | 5 => .answer p (BitVec.ofNat 60 (n / 2 ^ 3)) (BitVec.ofNat 60 (n / 2 ^ 63))
  | _ => .block (BitVec.ofNat 64 (n / 2 ^ 3))

/-- The purlin ports of frame f whose link is up. -/
def State.upPorts (s : State) (f : Nat) : List Nat := (s.purlinPorts f).filter (fun p => (s.port p).purlin.st == 3)

/-- A management message sent to the far package of port p. -/
def State.sendMgmt (s : State) (p : Nat) (m : Mgmt) : State :=
  let l := (s.port p).purlin
  if l.st ≠ 3 ∨ l.after.isSome then s
  else
    let h : Hdr := { src := 32 + p, dst := 32 + l.far.port, srcPkg := s.plumb.pkgId, dstPkg := l.far.pkg }
    s.setPurlin p { l with outQ := l.outQ ++ [{ op := .mgmt, hdr := h, data := BitVec.ofNat 512 (Mgmt.data m) }] }

/-- The same message sent on each of some ports. -/
def State.floodMgmt (s : State) (ports : List Nat) (m : PortId → Mgmt) : State :=
  ports.foldl (fun s p => s.sendMgmt p (m (Fin.ofNat 8 p))) s

/-- The time of frame f as its timestamps carry it. -/
def State.stampOf (s : State) (f : Nat) : BitVec 60 := BitVec.ofNat 60 (s.mtimeOf f).toNat

/-- This package's links of frame f: port, far package, far port. -/
def State.ownLinks (s : State) (f : Nat) : List (Nat × Nat × Nat) :=
  (s.upPorts f).map (fun p => (p, (s.port p).purlin.far.pkg, (s.port p).purlin.far.port))

/-- A link has come up in a joining frame (R257, step 3): every neighbour hears of it, the new one of every package heard, and its delay is
measured. -/
def State.announce (s : State) (f p : Nat) : State :=
  let s := s.floodMgmt (s.upPorts f) (fun q => .ids q s.plumb.pkgId (s.ownLinks f))
  let s := (s.frame f).heard.foldl (fun s e => s.floodMgmt [p] (fun q => .ids q e.1 e.2)) s
  s.floodMgmt [p] (fun q => .ask q (s.stampOf f))

/-- The far end's identity unit (R34, R256, R257 steps 1 and 2). A link that comes up after the deadline takes no part. -/
def State.identity (s : State) (p : Nat) (u : IdUnit) : State :=
  let k := s.port p
  let f := s.frameOfPort p
  if k.pers ≠ 4 ∨ k.purlin.st ≠ 2 then s
  else
    let r := s.identityReason p u
    let l := { k.purlin with far := u, ident := true }
    if r ≠ 0 then (s.setPort p (({ k with purlin := l } : Port).holdPurlin r 0)).postLink p 2 r 0
    else if (s.frame f).joinDead ∨ (s.frame f).joinSt ≠ 0 then s.setPurlin p l
    else ((s.setPurlin p { l with st := 3 }).postLink p 0 0 0).announce f p

/-- IDENTITY_UNIT (R256). -/
def execIdentityUnit (p : PortId) (u : IdUnit) (s : State) : Res := .next (s.identity p u)

/-! ## The join (R253, R257, R258, R501) -/

/-- The package IDs differ in one bit. -/
def cubeStep (a b : Nat) : Bool := [1, 2, 4].contains (a ^^^ b)

end Sys2Proof.Machine

namespace Sys2Proof

/-- The members of a domain and its working links as a package has learned them (R257). -/
structure JoinView where
  members : List Nat := []
  /-- Lower package, its port, higher package, its port; rising by the first two (R501). -/
  links   : List (Nat × Nat × Nat × Nat) := []
deriving DecidableEq, Repr

/-- The links between two packages. -/
def JoinView.between (v : JoinView) (a b : Nat) : Nat :=
  (v.links.filter (fun l => (l.1 == a && l.2.2.1 == b) || (l.1 == b && l.2.2.1 == a))).length

/-- Every two packages that `need` relates have a link. -/
def JoinView.meshed (v : JoinView) (need : Nat → Nat → Bool) : Bool :=
  v.members.all (fun a => v.members.all (fun b => !(decide (a < b) && need a b) || decide (1 ≤ v.between a b)))

/-- The member set and the working links pass R253 with a topology that R33 allows for a frame count. -/
def JoinView.passes (v : JoinView) (frames own : Nat) : Bool :=
  v.members.contains own && v.members.all (· < 8) && Machine.Tab.rising (v.members.map (fun m => (m, ()))) &&
  match v.members.length with
  | 2 => decide (1 ≤ v.links.length) && decide (v.links.length ≤ 4 / frames) && v.meshed (fun _ _ => true)
  | 4 => frames == 1 && v.meshed (fun _ _ => true)
  | 8 => frames == 1 && v.meshed Machine.cubeStep
  | _ => false

/-- The byte string of R501. -/
def JoinView.bytes (v : JoinView) : List Byte :=
  [BitVec.ofNat 8 v.members.length] ++ v.members.map (BitVec.ofNat 8) ++ [BitVec.ofNat 8 v.links.length] ++
    v.links.flatMap (fun l => [BitVec.ofNat 8 l.1, BitVec.ofNat 8 l.2.1, BitVec.ofNat 8 l.2.2.1, BitVec.ofNat 8 l.2.2.2])

/-- The digest of R501. -/
def JoinView.digest (v : JoinView) : Nat := Machine.crc32 v.bytes

end Sys2Proof

namespace Sys2Proof.Machine

/-- ROLE of a port in a joined domain (R253, R278), given the far packages of the lower-numbered ports. -/
def roleOf (members : List Nat) (own far : Nat) (earlier : List Nat) : Nat :=
  if !members.contains far then 6
  else if members.length = 2 then 1
  else if earlier.contains far then 6
  else if members.length = 4 then 2
  else if cubeStep own far then (match own ^^^ far with | 1 => 3 | 2 => 4 | _ => 5)
  else 6

/-- Roles given to the purlin ports of a frame; one that the topology does not use, with a link or without, is a spare: held in reset and
reported (R253, R418). -/
def State.giveRoles (s : State) (f : Nat) (members : List Nat) (ports earlier : List Nat) : State :=
  match ports with
  | [] => s
  | p :: r =>
    let k := s.port p
    let far := k.purlin.far.pkg
    let role := roleOf members s.plumb.pkgId far earlier
    if k.purlin.st ≠ 3 ∨ role = 6 then
      State.giveRoles ((s.setPort p (k.holdPurlin k.purlin.refuse 6)).post [f] (bootReport 7 p 8 f p)) f members r earlier
    else State.giveRoles (s.setPurlin p { k.purlin with role := role }) f members r (earlier ++ [far])

/-- DRAM beyond a package's slice is reported at boot (R259, R418). -/
def State.sliceReport (s : State) (f n : Nat) : State :=
  let slice := 8192 / max n 1
  let top := (s.frame f).topGib
  if slice < top then s.post [f] (bootReport 1 0 6 f (top - slice)) else s

/-- What the flood has told (R257, step 3): every package heard or named as a neighbour, and every link that either of its ends names. -/
def State.joinView (s : State) (f : Nat) : JoinView :=
  let own := s.plumb.pkgId
  let all := Tab.set (s.frame f).heard own (s.ownLinks f)
  let members := all.foldl (fun l e => e.2.foldl (fun l n => listAdd l n.2.1) (listAdd l e.1)) []
  let put (t : Map (Nat × Nat × Nat × Nat)) (pkg : Nat) (e : Nat × Nat × Nat) : Map (Nat × Nat × Nat × Nat) :=
    let l := if pkg < e.2.1 then (pkg, e.1, e.2.1, e.2.2) else (e.2.1, e.2.2, pkg, e.1)
    Tab.set t (l.1 * 256 + l.2.1) l
  { members := members, links := (all.foldl (fun t e => e.2.foldl (fun t n => put t e.1 n) t) []).map (·.2) }

/-- Step 6: routes and address map are loaded and traffic opened, at the largest time reported (R257, R262). -/
def State.openDomain (s : State) (f : Nat) (v : JoinView) : State :=
  let fr := s.frame f
  let ahead := fr.heardTime.foldl (fun m e => max m e.2) 0
  let s := s.setFrame f { fr with joinSt := 2, members := v.members, links := v.links, mtimeOff := fr.mtimeOff + BitVec.ofNat 64 ahead.toNat }
  (s.giveRoles f v.members (s.purlinPorts f) []).sliceReport f v.members.length

/-- Step 5: domain time. Traffic opens once every member's time has come. -/
def State.joinTimes (s : State) (f : Nat) : State :=
  let v := s.joinView f
  if v.members.all (fun m => m == s.plumb.pkgId || (Tab.find (s.frame f).heardTime m).isSome) then s.openDomain f v else s

/-- The join goes on as far as what has been heard allows: step 4's comparison of digests once every neighbour's has come, then step 5. -/
def State.joinGo (s : State) (f : Nat) : State :=
  let fr := s.frame f
  let own := BitVec.ofNat 32 (s.joinView f).digest
  let got := (s.upPorts f).map (fun p => (s.port p).purlin.digest)
  if fr.joinSt ≠ 0 ∨ fr.halted then s
  else if fr.joinStep = 2 then s.joinTimes f
  else if fr.joinStep ≠ 1 then s
  else if got.any (fun d => d.elim false (· != own)) then s.refuseJoin f 7
  else if got.all (·.isSome) then
    let s := s.floodMgmt (s.upPorts f) (fun q => .time q s.plumb.pkgId (s.mtimeOf f))
    (s.setFrame f { s.frame f with joinStep := 2 }).joinTimes f
  else s

/-- JOIN (R257): no new package is heard, or 200 ms have passed. Step 4: the view is checked and its digest sent; the comparison and
steps 5 and 6 follow as the neighbours' messages come. -/
def execJoin (f : FrameId) (s : State) : Res :=
  let fr := s.frame f
  if !(framesOf s.mode).contains f.val ∨ !joinedMode s.mode ∨ !fr.booted ∨ fr.halted ∨ fr.joinSt ≠ 0 ∨ fr.joinStep ≠ 0 then .next s
  else
    let v := s.joinView f
    if !v.passes (frameCount s.mode) s.plumb.pkgId ∨ s.upPorts f = [] then .next (s.refuseJoin f 6)
    else
      let s := s.floodMgmt (s.upPorts f) (fun q => .digest q (BitVec.ofNat 32 v.digest))
      .next ((s.setFrame f { s.frame f with joinStep := 1 }).joinGo f)

/-- JOIN_DEADLINE (R34): without a working link the join is refused; a link that comes up later takes no part. -/
def execJoinDeadline (f : FrameId) (s : State) : Res :=
  let fr := s.frame f
  if !(framesOf s.mode).contains f.val ∨ !joinedMode s.mode ∨ !fr.booted ∨ fr.halted then .next s
  else
    let s := s.setFrame f { fr with joinDead := true }
    if fr.joinSt ≠ 0 ∨ s.upPorts f ≠ [] then .next s else .next (s.refuseJoin f 6)

/-! ## Time (R262) -/

/-- The port to the next hop toward the time master, the member of rank 0. -/
def State.masterPort (s : State) (f : Nat) : Option Nat := (s.linkPorts f (s.nextHop f ((s.frame f).members.headD 0))).head?

/-- TIME_EXCHANGE (R262): a package other than the master asks its next hop toward it for a timestamp. -/
def execTimeExchange (f : FrameId) (s : State) : Res :=
  let fr := s.frame f
  if fr.joinSt ≠ 2 ∨ fr.halted ∨ rankOf fr.members s.plumb.pkgId = 0 then .next s
  else match s.masterPort f with
    | some p => .next (s.sendMgmt p (.ask (Fin.ofNat 8 p) (s.stampOf f)))
    | none => .next s

/-- The answer to a timestamp: the link's delay is half the round trip. From the next hop toward the master it tells how far this frame's time
is off, and the frame slews by at most one tick in 1,000 until the next exchange. -/
def State.timeAnswer (s : State) (p : Nat) (t mine : BitVec 60) : State :=
  let f := s.frameOfPort p
  let fr := s.frame f
  let now := s.stampOf f
  let delay := (now - t).toNat / 2
  let s := s.setPurlin p { (s.port p).purlin with delay := delay }
  if fr.joinSt = 2 ∧ rankOf fr.members s.plumb.pkgId ≠ 0 ∧ s.masterPort f = some p then
    let d : Int := (mine.toNat + delay : Int) - now.toNat
    s.setFrame f { fr with slew := max (-100) (min 100 d) }
  else s

/-- A management message that arrives at a purlin port whose link is up. What is new in the flood is passed on, and the join goes
on. -/
def State.mgmtIn (s : State) (m : Mgmt) : State :=
  let up (p : PortId) (t : Nat → State) : State :=
    let f := s.frameOfPort p
    if (s.port p).pers = 4 ∧ (s.port p).purlin.st = 3 ∧ !(s.frame f).halted then t f else s
  match m with
  | .ids p pkg near => up p (fun f =>
      let fr := s.frame f
      if pkg = s.plumb.pkgId ∨ Tab.find fr.heard pkg = some near then s
      else (s.setFrame f { fr with heard := Tab.set fr.heard pkg near }).floodMgmt ((s.upPorts f).filter (· != p.val)) (fun q => .ids q pkg near))
  | .digest p c => up p (fun f => (s.setPurlin p { (s.port p).purlin with digest := some c }).joinGo f)
  | .time p pkg t => up p (fun f =>
      let fr := s.frame f
      let ahead : Int := (t.toNat + (s.port p).purlin.delay : Int) - (s.mtimeOf f).toNat
      if pkg = s.plumb.pkgId ∨ (Tab.find fr.heardTime pkg).isSome then s
      else
        let s := s.setFrame f { fr with heardTime := Tab.set fr.heardTime pkg ahead }
        (s.floodMgmt ((s.upPorts f).filter (· != p.val)) (fun q => .time q pkg (t + BitVec.ofNat 64 (s.port p).purlin.delay))).joinGo f)
  | .ask p t => up p (fun f => s.sendMgmt p (.answer p t (s.stampOf f)))
  | .answer p t mine => up p (fun _ => s.timeAnswer p t mine)
  | .block _ => s

/-- MGMT (R257, R262). A block's payload changes no state that the rules name. -/
def execMgmt (m : Mgmt) (s : State) : Res := .next (s.mgmtIn m)

/-! ## Flits -/

/-- One message that has crossed the link: to its agent here, or on to its package; a snoop goes to the purlin agent
(R182, R254). -/
def State.fromLink (s : State) (p : Nat) (u : BitVec 128) (rest : List (BitVec 128)) : State :=
  match unitOp u with
  | some op =>
    let m := unitMsg op u rest
    let m := { m with inP := some p }
    if m.op = .domainDown then s.domainDown p
    else if m.hdr.dstPkg ≠ s.ownPkg then s.route (s.frameOfPort p) m
    else if m.op = .mgmt then s.mgmtIn (mgmtOf (Fin.ofNat 8 p) (m.data.toNat % 2 ^ 128))
    else if m.op = .msiWrite then
      let f := s.frameOfPort p
      match s.coreOfHart f (msiFile m.hdr.line).1 with
      | some c => s.msiOn c { m with hdr := { m.hdr with dst := c / 32 } }
      | none => s.noHart f (msiFile m.hdr.line).1
    else
      let m := if bits u.toNat 2 0 = 1 then { m with hdr := { m.hdr with dst := 32 + p } } else m
      -- a reserved agent: discarded and logged (R163)
      if agentOk m.hdr.src ∧ agentOk m.hdr.dst then s.send m else s.reservedAgent m
  | none => s.badOpcode u

/-- Whole messages taken from the front of the units; answers what is left of a message not yet whole. -/
def State.purlinTake (fuel : Nat) (s : State) (p : Nat) (l : List (BitVec 128)) : State × List (BitVec 128) :=
  match fuel, l with
  | 0, _ => (s, l)
  | _, [] => (s, [])
  | n + 1, u :: r =>
    if u = 0 then State.purlinTake n s p r
    else
      let k := unitCount u
      if r.length + 1 < k then (s, l)
      else
        let s := s.fromLink p u (r.take (k - 1))
        let q := (s.port p).purlin
        let c := bits u.toNat 2 0
        State.purlinTake n (s.setPurlin p { q with freed := Tab.put q.freed 0 c ((Tab.get q.freed 0 c + k) % 4096) }) p (r.drop (k - 1))

/-- A NAK: the sender goes back to the flit after `ack`; a flit no longer held loses the link; after 8 NAKs in a row for one SEQ both ends
make a fast retrain (R252). A NAK of this end that still waits for its replay stands in the next header again. -/
def State.purlinReplay (s : State) (p ack : Nat) : State :=
  let l := (s.port p).purlin
  let next := (ack + 1) % 1024
  let run := if l.nakInSeq = ack then l.nakInRun + 1 else 1
  let l := { l with ackIn := ack, nakOut := l.nakWait, nakInSeq := ack, nakInRun := run, retraining := l.retraining || decide (8 ≤ run) }
  if l.retry.any (fun e => e.1 == next) then
    (s.setPurlin p { l with replayAt := some next }).recAdd 0x24 (0x20 + p) 1 1
  else if next = l.txSeq then (s.setPurlin p l).recAdd 0x24 (0x20 + p) 1 1
  else s.linkLost p

/-- The link carries flits. -/
def Port.purlinLive (k : Port) : Bool := k.pers == 4 && (k.purlin.st == 2 || k.purlin.st == 3)

/-- One flit time of a live link: a flit is sent, and a link whose DOMAIN_DOWN has left is held in reset (R185). -/
def State.purlinTick (s : State) (p : Nat) : State :=
  let k := s.port p
  if k.purlinLive then
    let l := k.purlin.tick.settle
    s.setPort p ({ k with inReset := k.inReset || l.st == 4, purlin := l } : Port).transmits
  else s

/-- What a flit in order carries: messages, or an identity unit (R251, R256). Nothing is taken for a frame whose domain is lost (R185). -/
def State.purlinUnits (s : State) (p kind : Nat) (units : List (BitVec 128)) : State :=
  let l := (s.port p).purlin
  if kind = 2 then s.identity p (idOfUnit (units.headD 0))
  else if kind = 0 ∧ l.st = 3 ∧ l.after = none ∧ !(s.frame (s.frameOfPort p)).halted then
    let r := s.purlinTake 20 p (l.partUnits ++ units.take 15)
    r.1.setPurlin p { (r.1.port p).purlin with partUnits := r.2 }
  else s

/-- PURLIN_FLIT_RECEIVED (R250 to R252): one flit time of both directions, in which the FEC corrected `fixed` bytes. A flit out of order is
discarded. -/
def execPurlinFlitReceived (p : PortId) (h : PFlitHdr) (units : List (BitVec 128)) (fixed : Nat) (s : State) : Res :=
  let k := s.port p
  let s := if k.purlinLive ∧ fixed ≠ 0 then s.recAdd 0x24 (0x20 + p) 0 fixed else s
  if !k.purlinLive ∨ k.purlin.retraining then .next s
  else if h.seq ≠ k.purlin.rxSeq then .next (s.purlinTick p)
  else
    let l := k.purlin
    let s := s.setPurlin p { l with rxSeq := (l.rxSeq + 1) % 1024, nakOut := false, nakWait := false, nakRun := 0, ackIn := h.ack,
                                    farFreed := if h.crClass < 5 then Tab.put l.farFreed 0 h.crClass (h.crCount % 4096) else l.farFreed }
    let s := if h.nak then s.purlinReplay p h.ack else s.setPurlin p { (s.port p).purlin with nakInRun := 0 }
    .next (((s.deliver (fun m => m.outP == some p.val)).purlinUnits p h.kind units).purlinTick p)

/-- PURLIN_FLIT_ERROR (R252): the flit and later ones are discarded until the replay, which the next header asks for; after 8 NAKs for one
SEQ both ends make a fast retrain. -/
def execPurlinFlitError (p : PortId) (s : State) : Res :=
  let k := s.port p
  if !k.purlinLive ∨ k.purlin.retraining then .next s
  else
    let l := k.purlin
    let run := if l.nakSeq = l.rxSeq then l.nakRun + 1 else 1
    let s := s.setPurlin p { l with nakOut := true, nakWait := true, nakSeq := l.rxSeq, nakRun := run, retraining := decide (8 ≤ run) }
    .next ((s.purlinTick p).report { cls := 0, src := 7, code := 0x29, inst := p, frame := some (s.frameOfPort p) })

/-- PURLIN_NAK (R252). -/
def execPurlinNak (p : PortId) (ack : BitVec 10) (s : State) : Res :=
  if (s.port p).purlinLive then .next (s.purlinReplay p ack.toNat) else .next s

/-- A fast retrain ends (R252): SEQ and the retry buffers are kept, and both ends then replay; one that fails loses the link. -/
def State.fastRetrain (s : State) (p : Nat) (ok : Bool) : State :=
  let l := (s.port p).purlin
  let next := (l.ackIn + 1) % 1024
  let again := if l.retry.any (fun e => e.1 == next) then some next else none
  let s := s.setPurlin p { l with retrains := satAdd 8 l.retrains 1, retraining := false, nakRun := 0, nakInRun := 0, nakOut := l.nakWait, replayAt := again }
  let s := (s.recAdd 0x24 (0x20 + p) 2 1).postLink p 3 0 0
  if ok then s else s.linkLost p

/-- FAST_RETRAIN (R252). -/
def execFastRetrain (p : PortId) (ok : Bool) (s : State) : Res :=
  if (s.port p).purlinLive then .next (s.fastRetrain p ok) else .next s

end Sys2Proof.Machine
end

