-- ==== Sys2Proof/Machine/Ridge.lean ====
section
/-! DEFINITION. Ridge ports: identity and node IDs (R264, R267), credits and replay (R265), requests of other nodes and
the export table (R270 to R274), responses and failures (R276, R277). -/

namespace Sys2Proof.Machine

/-! ## The link (R263 to R265) -/

def State.setRidge (s : State) (p : Nat) (r : Ridge) : State := s.setPort p { s.port p with ridge := r }

/-- The port is a ridge port that is UP. -/
def Port.ridgeUp (k : Port) : Bool := k.pers == 5 && k.ridge.st == 2

/-- The node ID is kept until no ridge port of the frame is UP (R267). -/
def State.nodeCheck (s : State) (f : Nat) : State :=
  if s.ridgePorts f = [] then s.setFrame f { s.frame f with node := false } else s

/-- Everything of frame f that waits for a ridge port goes on: inbound requests that go out on ridge, and the cores. -/
def State.pumpNode (s : State) (f : Nat) : State :=
  let s := (portsOf s.mode f).foldl (fun s p => s.inbGo p) s
  ((Tab.keys s.cores).filter (fun c => s.frameOfCore c == f)).foldl State.goOn s

/-- A good codeword ends a discard; it is the last good one (R265). What arrives with one row is one codeword (DESIGN CHOICE, log entry 40). -/
def Ridge.good (r : Ridge) : Ridge := { r with discard := false, nakRun := 0, rxSeq := (r.rxSeq + 1) % 1024 }

/-- Slots of a channel received and freed for their sender (R264). -/
def Ridge.release (r : Ridge) (op n : Nat) : Ridge := { r with freed := addThird r.freed (ridgeVc op) n }

/-- The ports of frame f that are UP, from the first to come up on (R267). -/
def State.upOrder (s : State) (f : Nat) : List Nat :=
  ((s.ridgePorts f).foldl (fun (t : Map Nat) p => Tab.set t ((s.port p).ridge.upNo * 8 + p) p) []).map (·.2)

/-- A NODE_ASSIGN that port p still owes an answer to, against the node's ID (R267): confirmed, or refused and the port held down. -/
def State.nodeAnswer (s : State) (f p : Nat) : State :=
  let fr := s.frame f
  let r := (s.port p).ridge
  match r.assign with
  | none => s
  | some id =>
    let confirm (refused : Nat) : List Nat := [0x83, id % 256, id / 256, refused]
    if id = fr.nodeId then s.setRidge p (({ r with assign := none } : Ridge).sendLink (confirm 0))
    else
      let r := { ({ r with assign := none } : Ridge).sendLink (confirm 1) with mismatch := true, st := 3, width := 0 }
      (s.setRidge p r).postLink p 5 0 fr.nodeId

/-- The node takes its ID from the NODE_ASSIGN of the first of its ports to come up; the others are held against it (R267). It keeps the
ID until none of its ports is UP. -/
def State.nodeSettle (s : State) (f : Nat) : State :=
  let fr := s.frame f
  let first := ((s.upOrder f).head?).bind (fun p => (s.port p).ridge.assign)
  let s := match fr.node, first with
    | false, some id => s.setFrame f { fr with node := true, nodeId := id }
    | _, _ => s
  let s := if (s.frame f).node then (s.upOrder f).foldl (fun s p => s.nodeAnswer f p) s else s
  s.nodeCheck f

/-- The port comes up, the last of its frame (R267). -/
def State.ridgeComesUp (s : State) (p : Nat) (r : Ridge) : State :=
  let no := (portsOf s.mode (s.frameOfPort p)).foldl (fun n q => max n (s.port q).ridge.upNo) 0
  (s.setRidge p { r with st := 2, upNo := no + 1, assign := none }).postLink p 0 0 0

/-- LINK_IDENT (R264): a partner that is a node holds the port down. -/
def execLinkIdent (p : PortId) (role lanes rev : Nat) (req pst rsp : BitVec 16) (s : State) : Res :=
  let k := s.port p
  if k.pers ≠ 5 ∨ k.ridge.st ≠ 1 then .next s
  else
    let r := { k.ridge.good with farReq := req.toNat, farPst := pst.toNat, farRsp := rsp.toNat,
                                 width := min k.ridge.width lanes }
    if role = 1 ∧ rev = 1 then .next (s.ridgeComesUp p r)
    else .next (s.setRidge p { r with st := 3, width := 0 })

/-- LINK_ACK (R264, R265): credits return; a NAK replays. -/
def execLinkAck (p : PortId) (ack : BitVec 10) (nak : Bool) (req pst rsp : BitVec 16) (s : State) : Res :=
  let k := s.port p
  if !k.ridgeUp then .next s
  else
    let r := { k.ridge.good with ackSeq := ack.toNat, replay := nak, farFreed := (req.toNat, pst.toNat, rsp.toNat) }
    let r := r.drainRsp r.rspQ.length
    let s := s.setRidge p (if nak then r.replayFrom ack.toNat else r)
    let s := if nak then s.recAdd 0x24 (0x20 + p) 1 1 else s
    .next (s.pumpNode (s.frameOfPort p))

/-- NODE_ASSIGN (R267). -/
def execNodeAssign (p : PortId) (id : BitVec 16) (s : State) : Res :=
  let k := s.port p
  if !k.ridgeUp then .next s
  else
    let f := s.frameOfPort p
    .next (((s.setRidge p { k.ridge.good with assign := some id.toNat }).nodeSettle f).pumpNode f)

/-- NODE_CONFIRM (R264): it is taken by a switch; a node that sees one holds nothing of it. -/
def execNodeConfirm (p : PortId) (_id : BitVec 16) (_refused : Bool) (s : State) : Res :=
  let k := s.port p
  if k.ridgeUp then .next (s.setRidge p k.ridge.good) else .next s

/-! ## Requests that end (R275 to R277) -/

/-- A failed ridge request is logged with a notice to the frame (R277). -/
def State.ridgeLog (s : State) (p : Nat) (pa : Option Nat) : State :=
  s.report { cls := 3, src := 7, code := 0x2A, inst := p, pa := pa, frame := some (s.frameOfPort p) }

/-- One WRITE of a slot is over: the next run of written bytes, or the slot's end. -/
def State.ridgeWriteDone (s : State) (c i : Nat) (sl : Slot) : State :=
  if sl.mask = 0 then s.ncDone c i sl true else (s.ridgeRun c i sl).getD s

/-- A request of a core ends with data, or with none where it failed (R275, R277). -/
def State.ridgeCore (s : State) (p : Nat) (q : OutReq) (got : Option (List Byte × Bool)) : State :=
  let pa := ridgeBase + q.node * 2 ^ 39 + q.addr
  match Tab.find (s.core q.core).pipe.slots q.slot with
  | none => s
  | some sl =>
    match q.op, got with
    | 2, some _ => s.ridgeWriteDone q.core q.slot sl
    | 2, none => (s.ridgeLog p (some pa)).ridgeWriteDone q.core q.slot sl
    | _, none => s.slotErr q.core q.slot sl
    | _, some (data, poison) =>
      if sl.kind = .unc then s.ncGot q.core q.slot sl (placeInLine (ofBytes data) (q.addr % 64)) poison 5 true
      else
        let sl := { sl with data := some (lineOf data, .dataE, poison, 5), goU := some false }
        let k := s.core q.core
        (s.setCore q.core { k with pipe := k.pipe.setSlot q.slot sl }).goOn q.core

/-- An outstanding request of port p has ended. -/
def State.ridgeDone (s : State) (p : Nat) (q : OutReq) (got : Option (List Byte × Bool)) : State :=
  if q.core < 384 then s.ridgeCore p q got
  else if 385 ≤ q.core then
    s.inbData (q.core - 385) q.slot got.isSome false ((got.map (·.1)).getD []) ((got.map (·.2)).getD false)
  else s

/-- Symbols that the FEC corrected are counted (R423). -/
def State.ridgeFixed (s : State) (p : Nat) (pkt : RPkt) : State :=
  if pkt.fixed = 0 then s else s.recAdd 0x24 (0x20 + p) 0 pkt.fixed

/-- RESP (R276, R277): it may arrive at any port of the node, and ends the request of the port it names. -/
def execResp (p : PortId) (pkt : RPkt) (s : State) : Res :=
  let k := s.port p
  let f := s.frameOfPort p
  if !k.ridgeUp then .next s
  else
    let own := k.ridge.loop.contains { pkt with op := 8 }
    let s := s.setRidge p (if own then { k.ridge with loop := k.ridge.loop.erase { pkt with op := 8 } }
      else k.ridge.good.release 8 (ridgeSlots pkt.data.length))
    let s := s.ridgeFixed p pkt
    if !pkt.crcOk then .next (s.ridgeLog p none)
    else
      let rp := pkt.rport % 8
      let r := (s.port rp).ridge
      if s.frameOfPort rp ≠ f ∨ (s.port rp).pers ≠ 5 then .next (s.ridgeLog p none)
      else match Tab.find r.out pkt.tag with
        | some q =>
          let s := s.setRidge rp { r with out := Tab.erase r.out pkt.tag }
          let got := if pkt.status = 0 then some (pkt.data, pkt.poison) else none
          .next ((s.ridgeDone rp q got).pumpNode f)
        | none =>
          -- late or unknown: dropped and logged; a quarantined tag is free again
          .next (((s.setRidge rp { r with quar := r.quar.filter (· != pkt.tag) }).ridgeLog p none).pumpNode f)

/-- Request `tag` of port p ends as a timeout: its tag is quarantined (R276, R277). -/
def State.ridgeTimeout (s : State) (p tag : Nat) : State :=
  let r := (s.port p).ridge
  match Tab.find r.out tag with
  | none => s
  | some q =>
    let s := s.setRidge p { r with out := Tab.erase r.out tag, quar := r.quar ++ [tag] }
    (s.recAdd 0x24 (0x20 + p) 6 1).ridgeDone p q none

/-- RIDGE_REQUEST_TIMEOUT (R276). -/
def execRidgeRequestTimeout (p : PortId) (tag : Nat) (s : State) : Res :=
  if (s.port p).pers = 5 then .next ((s.ridgeTimeout p tag).pumpNode (s.frameOfPort p)) else .next s

/-- RIDGE_TAG_QUARANTINE_END (R276). -/
def execRidgeTagQuarantineEnd (p : PortId) (tag : Nat) (s : State) : Res :=
  let r := (s.port p).ridge
  if (s.port p).pers ≠ 5 ∨ !r.quar.contains tag then .next s
  else .next ((s.setRidge p { r with quar := r.quar.filter (· != tag) }).pumpNode (s.frameOfPort p))

/-- The port becomes FAILED: its requests fail as timeouts (R265, R277). -/
def State.ridgeFail (s : State) (p : Nat) : State :=
  let f := s.frameOfPort p
  let s := s.setRidge p { (s.port p).ridge with st := 4, width := 0, discard := false }
  let s := (s.recAdd 0x24 (0x20 + p) 3 1).postLink p 4 0 0
  let s := (Tab.keys (s.port p).ridge.out).foldl (fun s t => s.ridgeTimeout p t) s
  (s.nodeSettle f).pumpNode f

/-- RIDGE_CODEWORD_ERROR (R265): discarded with later codewords; a NAK goes out with the last good SEQ; 8 NAKs in a row for one SEQ
retrain the port, and the codewords not acknowledged are sent again. -/
def execRidgeCodewordError (p : PortId) (retrainOk : Bool) (s : State) : Res :=
  let k := s.port p
  if !k.ridgeUp then .next s
  else
    let r := k.ridge
    let run := if r.nakSeq = r.rxSeq then r.nakRun + 1 else 1
    let r := { r.sendAck 1 with discard := true, nakRun := run, nakSeq := r.rxSeq }
    let s := (s.setRidge p r).report { cls := 0, src := 7, code := 0x2A, inst := p, frame := some (s.frameOfPort p) }
    if run < 8 then .next s
    else
      let s := (s.setRidge p (({ r with nakRun := 0, discard := false } : Ridge).replayFrom r.ackSeq)).recAdd 0x24 (0x20 + p) 2 1
      if retrainOk then .next s else .next (s.ridgeFail p)

/-! ## Requests of other nodes (R270 to R274) -/

/-- The PA in the frame's view of a local address of its own package (R259). -/
def State.viewPa (s : State) (f la : Nat) : Nat :=
  let fr := s.frame f
  if fr.joinSt = 2 then rankOf fr.members s.plumb.pkgId * (2 ^ 43 / max fr.members.length 1) + la else la

/-- The AMO of an ATOP code (R269). -/
def amoOfAtop (n : Nat) : Option AmoOp := [AmoOp.add, .swap, .cas, .min, .max, .minu, .maxu][n]?

/-- The first valid way of the request's slot whose source range holds SRC (R272). -/
def Frame.exportOf (fr : Frame) (addr src : Nat) : Option Word :=
  let e (w : Nat) : Word := Tab.get fr.exports 0 (bits addr 38 30 * 8 + w)
  ((List.range 8).find? (fun w =>
    (e w).getLsbD 63 && decide (fld (e w) 43 28 ≤ src) && decide (src ≤ fld (e w) 59 44))).map e

/-- LEN, alignment and extent keep to the table of R270. -/
def RPkt.shaped (pkt : RPkt) (op : Nat) : Bool :=
  match op with
  | 5 => pkt.len == 0 && pkt.addr == 0
  | 4 => (pkt.len == 4 || pkt.len == 8) && pkt.addr % pkt.len == 0 && (amoOfAtop pkt.atop).isSome
  | _ => decide (1 ≤ pkt.len) && decide (pkt.len ≤ 256) && decide (pkt.addr % 4096 + pkt.len ≤ 4096)

/-- A RESP without data. -/
def State.ridgeAnswer (s : State) (p : Nat) (pkt : RPkt) (status : Nat) : State :=
  let r := (s.port p).ridge
  let a : RPkt := { op := 8, dst := pkt.src, src := pkt.dst, tag := pkt.tag, rport := pkt.rport, status := status }
  s.setRidge p (r.sendPkt (pkt.src == pkt.dst) a)

/-- A request the node turns away: answered with a status, or logged when it is posted (R270, R277). -/
def State.ridgeReject (s : State) (p : Nat) (pkt : RPkt) (op status : Nat) : State :=
  if op = 3 then s.ridgeLog p none else s.ridgeAnswer p pkt status

/-- The inbound request of a packet, at a PA of the frame's view. -/
def inbOfPkt (pkt : RPkt) (op pa : Nat) : Inb :=
  { kind := (match op with | 1 => .read | 4 => .atomic | 5 => .fence | _ => .write), wr := op == 2 || op == 3, root := 8, tag := pkt.tag,
    addr := pa, len := pkt.len, left := if op = 5 then [] else linesOf pa pkt.len, data := pkt.data,
    amo := (amoOfAtop pkt.atop).getD .swap, cmp := pkt.cmp.toNat, poison := pkt.poison, posted := op == 3, src := pkt.src.toNat,
    rport := pkt.rport }

/-- A request of another node, or of this one from its own loop, is looked up and takes its turn (R268, R270 to R274). A packet with an unknown
OP is discarded and logged. -/
def State.ridgeRequest (s : State) (p : Nat) (pkt : RPkt) (op : Nat) : State :=
  let k := s.port p
  let f := s.frameOfPort p
  let fr := s.frame f
  let own := k.ridge.loop.contains { pkt with op := op }
  if !k.ridgeUp then s
  else
    let s := s.setRidge p (if own then { k.ridge with loop := k.ridge.loop.erase { pkt with op := op } }
      else k.ridge.good.release op (ridgeSlots pkt.data.length))
    let s := s.ridgeFixed p pkt
    if !pkt.crcOk ∨ pkt.ver ≠ 1 ∨ (pkt.op ≠ 0 ∧ pkt.op ≠ op) then s.ridgeLog p none
    else if fr.halted then s.ridgeReject p pkt op 4
    else if !RPkt.shaped pkt op then s.ridgeReject p pkt op 3
    else if op = 5 then s.inbAdd p (inbOfPkt pkt op 0)
    else match fr.exportOf pkt.addr pkt.src.toNat with
      | none => s.ridgeReject p pkt op 1
      | some e =>
        if !e.getLsbD (match op with | 1 => 62 | 4 => 60 | _ => 61) then s.ridgeReject p pkt op 2
        else s.inbAdd p (inbOfPkt pkt op (s.viewPa f (fld e 14 2 * 2 ^ 30 + pkt.addr % 2 ^ 30)))

/-- RIDGE_READ (R274). -/
def execRidgeRead (p : PortId) (pkt : RPkt) (s : State) : Res := .next (s.ridgeRequest p pkt 1)
/-- RIDGE_WRITE (R274). -/
def execRidgeWrite (p : PortId) (pkt : RPkt) (s : State) : Res := .next (s.ridgeRequest p pkt 2)
/-- WRITE_POSTED (R271). -/
def execWritePosted (p : PortId) (pkt : RPkt) (s : State) : Res := .next (s.ridgeRequest p pkt 3)
/-- RIDGE_ATOMIC (R274). -/
def execRidgeAtomic (p : PortId) (pkt : RPkt) (s : State) : Res := .next (s.ridgeRequest p pkt 4)
/-- RIDGE_FENCE (R271). -/
def execRidgeFence (p : PortId) (pkt : RPkt) (s : State) : Res := .next (s.ridgeRequest p pkt 5)

end Sys2Proof.Machine
end

