-- ==== Sys2Proof/Machine/Pcie.lean ====
section
/-! DEFINITION. Root ports of the PCIe root and CXL host personalities: inbound requests (R288 to R290, R295), INTx and
link events (R291), completions, timeouts and containment (R292 to R296), loss of a CXL link (R299), link power (R310). -/

namespace Sys2Proof.Machine

/-- A posted request of a device is dropped and counted (R289, R423). -/
def State.portDrop (s : State) (p : Nat) : State := (s.setPort p (s.port p).drop).recAdd 0x24 (0x20 + p) 5 1

/-- A request the table of R289 rejects. -/
def State.inbReject (s : State) (p root tag : Nat) (posted : Bool) : State :=
  let s := if root < 8 then s.setRootOf p root (((s.port p).root root).aerSet 20) else s
  if posted then s.portDrop p
  else let k := s.port p; s.setPort p { k with answers := k.answers ++ [.ur root tag] }

/-! ## Inbound requests (R288, R289) -/

/-- What the port's IOMMU is asked for a TLP (R288). -/
def Tlp.ioReq (t : Tlp) : IoReq :=
  { did := t.rid.toNat, pid := t.pasid.map (·.toNat), priv := t.priv, exec_ := t.exec_ && t.kind == .read, wr := t.kind != .read, form := t.form,
    addr := t.addr }

/-- ATS_REQUEST's answer: the page with its size and the accesses allowed (PRESUMED, log entry 10). -/
def atsAnswer (r : IoAns) : Option (List Byte) :=
  match r with
  | .ok pa perm span _ => some (bytesOf 8 (spanPage pa span % 2 ^ 52 * 4096 + b2n (span != 0 && decide (span < 44)) * 2 ^ 11 + perm % 4))
  | .fault n => if atsQuiet n then some (bytesOf 8 0) else none
  | .wait => none

/-- The operand and compare value of an AtomicOp: of a CAS the compare value comes first. -/
def Tlp.operands (t : Tlp) : List Byte × Nat :=
  match t.kind with
  | .atomic .cas => ((t.data.drop t.len).take t.len, ofBytes (t.data.take t.len))
  | _ => (t.data, 0)

/-- Requests that root ports complete (R287): none crosses a 4 KiB page, a read is of at most 4,096 bytes, other payloads are of at most 512, and
AtomicOps have the sizes named. -/
def tlpOk (t : Tlp) : Bool :=
  decide (t.addr % 4096 + t.len ≤ 4096) &&
  match t.kind with
  | .atomic .add | .atomic .swap => t.len == 4 || t.len == 8
  | .atomic .cas => t.len == 4 || t.len == 8 || t.len == 16
  | .atomic _ => false
  | .read => decide (t.len ≤ 4096)
  | .write => decide (t.len ≤ 512)

/-- ACS Source Validation and Translation Blocking of a root port let a TLP through (R287). -/
def Root.acsPasses (r : Root) (t : Tlp) : Bool :=
  let c := r.cfgWord 0x144
  let b := r.cfgWord 0x18
  let bus := t.rid.toNat / 256
  (!bitOf c 16 || (decide (bits b 15 8 ≤ bus) && decide (bus ≤ bits b 23 16))) && (!bitOf c 17 || t.form == 0)

/-- ACS P2P Request Redirect is on: requests for a peer go to the package, which rejects them (DESIGN CHOICE, log entry 10). -/
def Root.redirects (r : Root) : Bool := bitOf (r.cfgWord 0x144) 18

/-- The inbound request of a TLP at a PA. -/
def Tlp.inb (t : Tlp) (root pa : Nat) (kind : InbKind) : Inb :=
  let wr := t.kind == .write
  let o := Tlp.operands t
  { kind := kind, wr := wr, root := root, tag := t.tag, addr := pa, len := t.len,
    left := if kind = .toRidge then (List.range ((pa + t.len - 1) / 256 + 1 - pa / 256)).map (pa / 256 + ·) else linesOf pa t.len,
    data := if t.kind = .read then [] else o.1, amo := (match t.kind with | .atomic op => op | _ => .swap), cmp := o.2,
    poison := wr && t.ep, posted := wr, ro := t.ro && root != barRoot,
    ido := t.ido && root != barRoot, rid := t.rid.toNat }

/-- What a TLP does at the home of a line. -/
def Tlp.homeKind (t : Tlp) : InbKind :=
  match t.kind with
  | .read => .read
  | .write => .write
  | .atomic _ => .atomic

/-- An interrupt file region of R76, by its offset in control space. -/
def isFileRegion (off : Nat) : Bool :=
  (decide (0x40000000 ≤ off) && decide (off < 0x41000000)) || (decide (0x80000000 ≤ off) && decide (off < 0x88000000))

/-- The row of R289 that holds an address, for a TLP of port p; none where the request is rejected. -/
def State.inbKind (s : State) (p : Nat) (t : Tlp) (pa : Nat) : Option InbKind :=
  let k := s.port p
  match s.region (s.frameOfPort p) pa with
  | .dram _ | .remote _ _ | .bench _ _ => some (Tlp.homeKind t)
  | .cxl q _ => if s.reqErr (12 + q) (pa / 64) .rdNc then none else some (Tlp.homeKind t)
  | .pcie _ _ =>
    let x : Inb := { addr := pa, root := t.root }
    if k.devCtl.getLsbD 31 ∧ !(k.root t.root).redirects ∧ (s.peerOf p x).isSome then some .toPeer else none
  | .control off => if t.kind = .write ∧ isFileRegion off then some .msi else none
  | .ridge _ _ => if k.devCtl.getLsbD 30 ∧ (t.kind = .read ∨ t.kind = .write) then some .toRidge else none
  | _ => none

/-- Demand returns a root port's link to full width and power (R310). -/
def State.rootWake (s : State) (p i : Nat) : State := s.setRootOf p i (((s.port p).root i).wake (s.port p).quarter)

/-- A TLP whose translation has ended: its row of R289, or its rejection. -/
def State.ioFinish (s : State) (p : Nat) (t : Tlp) (r : IoAns) : State :=
  let posted := t.kind == .write
  if t.form = 1 then match atsAnswer r with
    | some d => let k := s.port p; s.setPort p { k with answers := k.answers ++ [.data t.root t.tag d false] }
    | none => s.inbReject p t.root t.tag posted
  else match r with
    | .ok pa _ _ _ => match s.inbKind p t pa with
      | none => s.inbReject p t.root t.tag posted
      | some kind => s.inbAdd p (Tlp.inb t t.root pa kind)
    | _ => s.inbReject p t.root t.tag posted

/-- Requests of the port are translated one after the other, in the order they came, as far as memory has answered (DESIGN CHOICE, log
entry 41: the rules do not say how many walks an IOMMU makes at once). -/
def State.ioServe (s : State) (p : Nat) : Nat → State
  | 0 => s
  | n + 1 =>
    match (s.port p).ioQ with
    | [] => s
    | none :: r =>
      let s := s.ioDebug p
      if (s.port p).ioQ = r then s.ioServe p n else s
    | some t :: r =>
      let x := s.ioTranslate p (Tlp.ioReq t)
      match x.2 with
      | .wait => x.1
      | a => ((x.1.setPort p { x.1.port p with ioQ := r }).ioFinish p t a).ioServe p n

/-- INBOUND_REQUEST (R288 to R290, R295). -/
def execInboundRequest (p : PortId) (t : Tlp) (s : State) : Res :=
  let k := s.port p
  if !k.hasRoots ∨ !(k.root t.root).up then .next s
  else
    let s := if t.ep then (s.recAdd 0x24 (0x20 + p) 7 1).setRootOf p t.root ((k.root t.root).aerSet 12) else s
    let s := s.rootWake p t.root
    if !tlpOk t ∨ !bitOf ((k.root t.root).cfgWord 0x04) 2 ∨ !(k.root t.root).acsPasses t then .next (s.inbReject p t.root t.tag (t.kind == .write))
    else
      let k := s.port p
      let s := s.setPort p { k with ioQ := k.ioQ ++ [some t] }
      -- requests before it wait for their translation
      if k.ioQ = [] then .next (s.ioServe p 1) else .next s

/-- INTX_MESSAGE (R291). -/
def execIntxMessage (p : PortId) (root : Fin 8) (pin : Fin 4) (assert_ : Bool) (s : State) : Res :=
  let k := s.port p
  if !k.hasRoots ∨ !(k.root root).up then .next s
  else
    let old := (k.root root).intx
    let v := if assert_ then old ||| 2 ^ pin.val else old &&& (15 - 2 ^ pin.val)
    .next (s.setIntx p root v)

/-! ## Completions (R292 to R295) -/

/-- An outstanding request of port p has ended: with data, or with none where it failed; `ur` by an Unsupported Request. -/
def State.ioDone (s : State) (p : Nat) (q : OutReq) (ur : Bool) (got : Option (List Byte × Bool)) : State :=
  if 385 ≤ q.core then
    s.inbData (q.core - 385) q.slot got.isSome ur ((got.map (·.1)).getD []) ((got.map (·.2)).getD false)
  else if q.core = 384 then
    -- a configuration write that fails is logged (R292)
    (if got.isSome then s else s.cfgFailed p)
  else (s.ioEnd p q got).goOn q.core

/-- Unexpected Completion (bit 16) set in the AER status of a root port, or of the dovetail function (R294). -/
def Port.aerSet (k : Port) (i b : Nat) : Port :=
  if k.pers = 3 then { k with dt := { k.dt with aer := k.dt.aer ||| 2 ^ b } } else k.setRoot i ((k.root i).aerSet b)

/-- Tags held after a timeout, with the bytes still owed, of a root port or of the dovetail function (R294). -/
def Port.quarOf (k : Port) (i : Nat) : Map Nat := if k.pers = 3 then k.dt.quar else (k.root i).quar
def Port.setQuar (k : Port) (i : Nat) (m : Map Nat) : Port :=
  if k.pers = 3 then { k with dt := { k.dt with quar := m } } else k.setRoot i { k.root i with quar := m }

/-- A completion of n bytes that no request awaits (R294): a held tag is free once nothing more is owed for it. -/
def State.unexpected (s : State) (p i tag n : Nat) (last : Bool) : State :=
  let k := ({ s.port p with unexpCpl := satAdd 16 (s.port p).unexpCpl 1 } : Port).aerSet i 16
  let k := if k.pers = 3 then { k with dt := { k.dt with unexp := true } } else k
  let k := match Tab.find (k.quarOf i) tag with
    | none => k
    | some owed => k.setQuar i (if last ∨ owed ≤ max 1 n then Tab.erase (k.quarOf i) tag else Tab.set (k.quarOf i) tag (owed - n))
  ((s.setPort p k).recAdd 0x24 (0x20 + p) 4 1).pumpNode (s.frameOfPort p)

/-- The requests outstanding on a root port or of the dovetail function, by tag. -/
def Port.outs (k : Port) (i : Nat) : Map OutReq := if k.pers = 3 then k.dt.out else (k.root i).out
def Port.setOuts (k : Port) (i : Nat) (m : Map OutReq) : Port :=
  if k.pers = 3 then { k with dt := { k.dt with out := m } } else k.setRoot i { k.root i with out := m }

/-- The port sends requests of its own on a link. -/
def Port.requester (k : Port) : Bool := k.hasRoots || k.pers == 3

/-- Failures of a root port's own requests in RP PIO Status (R287). -/
def Port.pioSet (k : Port) (i : Nat) (q : OutReq) (n : Nat) : Port :=
  if k.pers = 3 then k else k.setRoot i ((k.root i).pioSet q n)

/-- COMPLETION (R293, R294): a read ends once all its bytes have come. -/
def execCompletion (p : PortId) (root : Fin 8) (tag : Nat) (st : CplStatus) (ep : Bool) (data : List Byte) (s : State) : Res :=
  let k := s.port p
  if !k.requester then .next s
  else match Tab.find (k.outs root) tag with
    | none => .next (s.unexpected p root tag data.length (st != .sc))
    | some q =>
      let s := if ep then s.recAdd 0x24 (0x20 + p) 7 1 else s
      let k := if ep then k.aerSet root 12 else k
      let q := { q with got := q.got ++ data, ep := q.ep || ep }
      if st = .sc ∧ q.op ≠ 3 ∧ q.got.length < q.len then .next (s.setPort p (k.setOuts root (Tab.set (k.outs root) tag q)))
      else
        let k := if st = .sc then k else k.pioSet root q (if st = .ur then 0 else 1)
        let s := s.setPort p (k.setOuts root (Tab.erase (k.outs root) tag))
        .next ((s.ioDone p q (st == .ur) (if st = .sc then some (q.got, q.ep) else none)).pumpNode (s.frameOfPort p))

/-- Request `tag` ends as a timeout (R293, R294): its tag is quarantined. -/
def State.portTimeout (s : State) (p i tag : Nat) : State :=
  let k := s.port p
  match Tab.find (k.outs i) tag with
  | none => s
  | some q =>
    let k := ((k.setOuts i (Tab.erase (k.outs i) tag)).aerSet i 14).pioSet i q 2
    ((s.setPort p (k.setQuar i (Tab.set (k.quarOf i) tag q.owed))).recAdd 0x24 (0x20 + p) 6 1).ioDone p q false none

/-- Device Control 2 disables the timeouts of a root port, or of the dovetail function (R293, R308). -/
def Port.noTimeout (k : Port) (i : Nat) : Bool :=
  if k.pers = 3 then bitOf k.dt.devCtl2 4 else bitOf ((k.root i).cfgWord 0x68) 4

/-- COMPLETION_TIMEOUT (R293). -/
def execCompletionTimeout (p : PortId) (root : Fin 8) (tag : Nat) (s : State) : Res :=
  if (s.port p).requester ∧ !(s.port p).noTimeout root then .next ((s.portTimeout p root tag).pumpNode (s.frameOfPort p)) else .next s

/-- PCIE_TAG_QUARANTINE_END (R294). -/
def execPcieTagQuarantineEnd (p : PortId) (root : Fin 8) (tag : Nat) (s : State) : Res :=
  let k := s.port p
  if !k.requester then .next s
  else .next ((s.setPort p (k.setQuar root (Tab.erase (k.quarOf root) tag))).pumpNode (s.frameOfPort p))

/-! ## Links of root ports -/

/-- The home of a CXL host port goes on, and everything that waited for a port. -/
def State.portGoOn (s : State) (p : Nat) : State :=
  (if (s.port p).pers = 2 then s.homeRun (12 + p) else s).pumpNode (s.frameOfPort p)

/-- An error that a port's link or partner reports, counted at the port (R296, R402). -/
def State.portError (s : State) (p cls : Nat) : State :=
  s.report { cls := cls, src := 7, code := if (s.port p).pers = 3 then 0x2E else 0x2B, inst := p, frame := some (s.frameOfPort p) }

/-- DPC_TRIGGER (R293, R296): the root port is contained until software clears the trigger status and the link comes up again. -/
def execDpcTrigger (p : PortId) (root : Fin 8) (s : State) : Res :=
  let k := s.port p
  if !k.hasRoots ∨ !(k.root root).up ∨ (k.root root).dpc then .next s
  else .next ((s.rootContain p root 0).portGoOn p)

/-- The bifurcation mask gives the port a root port at a lane pair (R280). -/
def Port.hasRoot (k : Port) (i : Nat) : Bool := k.hasRoots && (rootStarts k.lanes).any (fun e => e.1 == i)

/-- A link event of a root port that its frame does not hold (R291, R296, R419). -/
def State.rootEvent (s : State) (p i : Nat) (ev : PortEvent) : State :=
  let r := (s.port p).root i
  match ev with
  | .linkUp =>
    if r.up ∨ r.held then s
    else
      let w := if r.width = 0 then (s.port p).rootWidth i else r.width
      ((s.setRootOf p i { r with up := true, width := w, power := .l0, retrain := false, slotEv := r.slotEv ||| 2 ^ 8 }).linkEdge p).postLink p 0 0 0
  | .linkDown => if !r.up then s else (((s.rootLost p i).linkEdge p).postLink p 1 0 0).portGoOn p
  | .aerCorr => ((s.setRootOf p i (r.errMsg 0)).portError p 0).linkEdge p
  | .aerUncorr fatal =>
    let s := s.setRootOf p i (r.errMsg (if fatal then 2 else 1))
    if r.up ∧ !r.dpc ∧ (r.dpcEnable = 2 ∨ (fatal ∧ r.dpcEnable = 1)) then (s.rootContain p i (if fatal then 2 * 2 else 1 * 2)).portGoOn p
    else (s.portError p 3).linkEdge p
  | .pme => (s.setRootOf p i { r with pme := true }).linkEdge p
  | .presence => ((s.setRootOf p i { r with slotEv := r.slotEv ||| 2 ^ 3 }).linkEdge p).postLink p 7 i 0

/-- PORT_LINK_EVENT (R291, R296, R419): at a dovetail port the errors of its link are counted. -/
def execPortLinkEvent (p : PortId) (root : Fin 8) (ev : PortEvent) (s : State) : Res :=
  let k := s.port p
  if k.inReset ∨ (s.frame (s.frameOfPort p)).halted then .next s
  else if k.hasRoot root then .next (s.rootEvent p root ev)
  else if k.pers ≠ 3 then .next s
  else match ev with
    | .aerCorr => .next (s.portError p 0)
    | .aerUncorr _ => .next (s.portError p 3)
    | _ => .next s

/-- CXL_LINK_DOWN (R299): a root port without a CXL device has no such link. -/
def execCxlLinkDown (p : PortId) (root : Fin 8) (s : State) : Res :=
  let k := s.port p
  if k.pers ≠ 2 ∨ !(k.root root).up ∨ (k.root root).cxl = 0 then .next s
  else .next ((((s.rootLost p root).linkEdge p).postLink p 8 root 0).portGoOn p)

/-! ## Link power (R310) -/

/-- A link that carries nothing may enter the state; a quarter of its width follows half of it. -/
def Root.idles (r : Root) (tgt : LinkPower) : Bool :=
  r.up && r.out.isEmpty && powerAllows r.cfg r.flit r.width r.ltr tgt && (tgt != .l0pQuarter || r.power == .l0pHalf)
def Dovetail.idles (d : Dovetail) (tgt : LinkPower) : Bool :=
  decide (2 ≤ d.link) && d.out.isEmpty && powerAllows d.cfg_ d.flit d.width d.ltr tgt && (tgt != .l0pQuarter || d.link == linkCode .l0pHalf)

/-- LINK_POWER_IDLE (R310): every idle link of the port that may enters the state; `ltr` is the latency its partner tolerates. -/
def execLinkPowerIdle (p : PortId) (tgt : LinkPower) (ltr : Option Nat) (s : State) : Res :=
  let k := s.port p
  if k.hasRoots then
    .next (s.setPort p { k with roots := k.roots.map (fun e =>
      let r := { e.2 with ltr := ltr }
      (e.1, if r.idles tgt then { r with power := tgt } else r)) })
  else if k.pers = 3 then
    let d := { k.dt with ltr := ltr }
    .next (s.setPort p { k with dt := if d.idles tgt then { d with link := linkCode tgt } else d })
  else .next s

end Sys2Proof.Machine
end

