-- ==== Sys2Proof/Machine/Dovetail.lean ====
section
/-! DEFINITION. The dovetail function (R300 to R309) and the coming up of links (R256, R264, R282, R298, R300). -/

namespace Sys2Proof.Machine

/-- The host reaches the function's configuration space. -/
def Port.dtUp (k : Port) : Bool := k.pers == 3 && decide (2 ≤ k.dt.link)
/-- The host reaches BAR 10h: the link is up, Memory Space Enable is 1 and the function is in D0 (R300, R311). -/
def Port.barOpen (k : Port) : Bool := k.dtUp && k.dt.mse && fld (Tab.get k.dt.cfg_ 0 0x84) 1 0 == 0

/-- A request of the host wakes the link (R310). -/
def State.hostTouch (s : State) (p : Nat) : State := s.setDt p (s.port p).dt.wake

/-! ## Rings and notice queue (R301, R302) -/

/-- A write of a register at BAR 10h from the host. -/
def State.hostWrite (s : State) (p o size : Nat) (val : Word) : State :=
  if (s.port p).barOpen then (s.hostTouch p).barTurn p o size val else s

/-- DT_CMD_TAIL_WRITE (R302). -/
def execDtCmdTailWrite (p : PortId) (val : Word) (s : State) : Res := .next (s.hostWrite p 0x18 8 val)
/-- DT_RPL_HEAD_WRITE (R302). -/
def execDtRplHeadWrite (p : PortId) (val : Word) (s : State) : Res := .next (s.hostWrite p 0x30 8 val)
/-- DT_RING_CFG_WRITE (R302). -/
def execDtRingCfgWrite (p : PortId) (val : Word) (s : State) : Res := .next (s.hostWrite p 0x08 8 val)

/-- DT_NQ_POP (R301, R307, R413, R415): it waits for earlier posted writes; a 4-byte read returns zero and pops nothing. -/
def execDtNqPop (p : PortId) (size : Nat) (s : State) : Res :=
  if !(s.port p).barOpen then .next s
  else
    let s := s.hostTouch p
    let k := s.port p
    if size = 4 then .next (s.setPort p { k with answers := k.answers ++ [.data barRoot 0 (bytesOf 4 0) false] })
    else if size ≠ 8 then .next (s.setPort p { k with answers := k.answers ++ [.ca barRoot 0] })
    else if k.dtHeld then .next (s.inbHold p { kind := .pop, root := barRoot })
    else .next (s.setDt p { k.dt with nq := k.dt.nq.pop {} })

/-! ## Windows (R303 to R306) -/

/-- DT_WIN_COMMIT (R305): in the service personality the register drops writes (R301). -/
def execDtWinCommit (p : PortId) (val : Word) (s : State) : Res :=
  let k := s.port p
  if k.barOpen ∧ k.dt.rec_ ∧ val.getLsbD 0 then .next ((s.hostTouch p).dtCommit p) else .next s

/-- The BAR at 18h resized (R303). -/
def State.dtResize (s : State) (p log2Gib : Nat) : State :=
  let d := (s.port p).dt
  if d.rec_ ∧ !d.mse ∧ log2Gib ≤ 10 then s.setDt p { d with barGib := log2Gib } else s

/-- BAR_RESIZE (R303). -/
def execBarResize (p : PortId) (log2Gib : Nat) (s : State) : Res :=
  if (s.port p).dtUp then .next ((s.hostTouch p).dtResize p log2Gib) else .next s

/-- The active window that holds n bytes at BAR offset o (R303, R306). -/
def Dovetail.window (d : Dovetail) (o n : Nat) : Option DtWin :=
  (d.active.map (·.2)).find? (fun w => w.en && decide (w.off ≤ o) && decide (o + n ≤ w.off + w.len) && decide (w.off + w.len ≤ d.barSize))

/-- RECOVERY_WINDOW_ACCESS (R306, R307, R406): relaxed ordering is ignored. -/
def execRecoveryWindowAccess (p : PortId) (t : Tlp) (s : State) : Res :=
  let k := s.port p
  let posted := t.kind == .write
  if !k.barOpen ∨ !k.dt.rec_ then .next s
  else
    let s := s.hostTouch p
    if (s.frame (s.frameOfPort p)).halted ∨ !tlpOk t ∨ t.form ≠ 0 then .next (s.inbReject p barRoot t.tag posted)
    else
      let s := if t.ep then s.recAdd 0x24 (0x20 + p) 7 1 else s
      match k.dt.window t.addr t.len with
      | none => .next (s.inbReject p barRoot t.tag posted)
      | some w =>
        if t.kind ≠ .read ∧ !w.we then
          if posted then .next (s.portDrop p)
          else let k := s.port p; .next (s.setPort p { k with answers := k.answers ++ [.ca barRoot t.tag] })
        else .next (s.inbAdd p (Tlp.inb t barRoot (w.base + (t.addr - w.off)) (Tlp.homeKind t)))

/-! ## BAR 10h (R301, R308) -/

/-- DT_BAR_REGISTER_WRITE (R301): accesses of 4 or 8 bytes, naturally aligned; any other is dropped and counted. -/
def execDtBarRegisterWrite (p : PortId) (off : BitVec 24) (size : Nat) (val : Word) (s : State) : Res :=
  let o := off.toNat
  if !(s.port p).barOpen then .next s
  else if (size ≠ 4 ∧ size ≠ 8) ∨ o % size ≠ 0 then .next ((s.hostTouch p).portDrop p)
  else .next (s.hostWrite p o size val)

/-! ## Resets of the function (R309) -/

/-- Inbound reads under way or waiting are discarded; posted writes already decoded are performed. -/
def Port.dropReads (k : Port) : Port :=
  { k with inb := k.inb.filter (fun e => e.2.posted), inbQ := k.inbQ.filter (fun x => x.posted && x.kind != .reg) }

/-- The function's registers at their reset values; what it has sent, its link and its notice queue stay. A function-level reset keeps the
link fields of its configuration space (R309): Link Control and Link Control 2, and the L1 PM Substates controls (PRESUMED, log entry 10). -/
def Dovetail.cleared (d : Dovetail) (flr : Bool) : Dovetail :=
  { rec_ := d.rec_, ready := d.ready, nq := d.nq, link := d.link, linkWas := d.linkWas, out := d.out, quar := d.quar,
    sent := d.sent, width := d.width, rate := d.rate, flit := d.flit, tags14 := d.tags14, quarter := d.quarter, ltr := d.ltr,
    cfg_ := if flr then d.cfg_.filter (fun e => [0x50, 0x70, 0x208, 0x20C].contains e.1) else [] }

/-- The notice queue emptied: reads that stall there wait on (R309, R412). -/
def NQueue.emptied (q : NQueue) : NQueue := { popped := q.popped, stalled := q.stalled, no := q.no }

/-- Register writes of the host that waited for earlier posted writes are performed (R309). -/
def State.performRegs (s : State) (p : Nat) : State :=
  ((s.port p).inbQ.filter (fun x => x.kind == .reg)).foldl (fun s x => s.barStore p x.addr x.len (BitVec.ofNat 64 (ofBytes x.data))) s

/-- A reset of the function seen on its link: its requests end as timeouts, its mailbox is lost (R293, R309, R326). -/
def State.dtReset (s : State) (p : Nat) (flr : Bool) : State :=
  let s := (Tab.keys (s.port p).dt.out).foldl (fun s t => s.portTimeout p 0 t) s
  let s := (s.performRegs p).loseTransport (dtInst p)
  let k := (s.port p).dropReads
  s.setPort p { k with dt := k.dt.cleared flr }

/-- The link goes down or retrains; the stored RECOVERY bit is taken for the next link-up (R282, R309). -/
def State.dtRelink (s : State) (p st : Nat) : State :=
  let s := s.dtReset p false
  let k := s.port p
  let rec' := match Tab.find s.plumb.flash.pers p with
    | some r => if r.pers = 3 then r.rec_ else k.rec_
    | none => p == 0
  s.setPort p { k with rec_ := rec', dt := { k.dt with link := st, nq := k.dt.nq.emptied } }

/-- FUNDAMENTAL_RESET (R309). -/
def execFundamentalReset (p : PortId) (s : State) : Res :=
  let k := s.port p
  if k.pers ≠ 3 ∨ k.inReset then .next s
  else
    let up := decide (2 ≤ k.dt.link)
    let s := s.dtRelink p 0
    .next ((if up then (s.recAdd 0x24 (0x20 + p) 3 1).postLink p 1 0 0 else s).pumpNode (s.frameOfPort p))

/-- HOT_RESET (R309). -/
def execHotReset (p : PortId) (s : State) : Res :=
  if !(s.port p).dtUp then .next s else .next ((s.dtRelink p 1).pumpNode (s.frameOfPort p))

/-- FUNCTION_LEVEL_RESET (R309). -/
def execFunctionLevelReset (p : PortId) (s : State) : Res :=
  if !(s.port p).dtUp then .next s else .next ((s.dtReset p true).pumpNode (s.frameOfPort p))

/-! ## Configuration space of the function (R300, R308, R311) -/

/-- The extended capabilities of the function by offset, ID and version (R300; IDs and places PRESUMED, log entry 10). -/
def dtCaps (rec' : Bool) : List (Nat × Nat × Nat) :=
  [(0x100, 0x01, 2), (0x140, 0x03, 1), (0x200, 0x1E, 1), (0x220, 0x2E, 1), (0x240, 0x25, 1), (0x280, 0x26, 1), (0x2B0, 0x2A, 1),
   (0x2E0, 0x31, 1), (0x300, 0x38, 1)] ++ (if rec' then [(0x340, 0x15, 1)] else [])

/-- Writable bits of a configuration word that have no register of their own; what the table of R300 does not name drops writes. -/
def dtMask (w : Nat) : Nat :=
  match w with
  | 0x04 => 0x00000540
  | 0x0C | 0x3C => 0x000000FF
  | 0x30 => 0xFFF00001
  | 0x48 => 0x00007FFF
  | 0x50 => 0x000003CB
  | 0x70 => 0x0000FFFF
  | 0x84 => 0x00000103
  | 0xB0 => 0xC0000000
  | 0x108 | 0x10C | 0x114 => 0xFFFFFFFF
  | 0x118 => 0x00000140
  | 0x208 => 0xE3FFFF0F
  | 0x20C => 0x000000FF
  | _ => 0

/-- Bits of a configuration word that do not come from its stored part: identity, BARs, capabilities and what the function reports. -/
def Dovetail.cfgFixed (d : Dovetail) (w : Nat) : Nat :=
  match w with
  | 0x00 => Config.vendorId.toNat + (if d.rec_ then 0x0385 else 0x0384) * 2 ^ 16
  | 0x04 => b2n d.mse * 2 + b2n d.bme * 4 + 0x00100000
  | 0x08 => (if d.rec_ then 0x088000 else 0x0B4000) * 2 ^ 8 + 16
  | 0x10 => fld d.bar10 31 0 / 2 ^ 24 * 2 ^ 24 + 4
  | 0x14 => fld d.bar10 63 32
  | 0x18 => if d.rec_ then fld d.bar18 31 0 / d.barSize * d.barSize + 12 else 0
  | 0x1C => if d.rec_ then d.bar18.toNat / d.barSize * d.barSize / 2 ^ 32 else 0
  | 0x34 => 0x00000040
  -- PCI Express endpoint: 512 bytes, extended tags, FLR; 128 GT/s, ASPM L1
  | 0x40 => 0x00028010
  | 0x44 => 0x10008022
  | 0x4C => 7 + 16 * 2 ^ 4 + 0x00000800
  | 0x50 => d.rate * 2 ^ 16 + d.width * 2 ^ 20
  -- timeouts A to D and none; LTR; 10-bit tags
  | 0x64 => 0x0003081F
  | 0x68 => d.devCtl2
  | 0x6C => 0x000000FE
  | 0x70 => b2n d.flit * 2 ^ 26
  -- D0 and D3hot; no soft reset
  | 0x80 => 0x0003B001
  | 0x84 => 0x00000008
  -- MSI-X: 4 vectors, table at BAR 10h offset 0x1000, pending bits at 0x1800
  | 0xB0 => 0x00030011
  | 0xB4 => 0x00001000
  | 0xB8 => 0x00001800
  | 0x104 => d.aer
  | 0x144 => fld Config.serialNumber 31 0
  | 0x148 => fld Config.serialNumber 63 32
  | 0x204 => 0x0000001F
  | 0x244 => 0x80000001
  | 0x248 => 0x80000001
  -- Resizable BAR: 1 GiB to 1 TiB, the BAR at 18h
  | 0x344 => if d.rec_ then 0x01FFC000 else 0
  | 0x348 => if d.rec_ then (10 + d.barGib) * 2 ^ 8 + 0x22 else 0
  | w => extHeader (dtCaps d.rec_) w

/-- A configuration read of the function (R300). -/
def Dovetail.cfgRead (d : Dovetail) (w : Nat) : BitVec 32 := BitVec.ofNat 32 (d.cfgFixed w ||| (Tab.get d.cfg_ 0 w).toNat)

/-- A byte of the Expansion ROM at 30h (R300): 1 MiB of the driver images of the running Leraro bundle, its component of type 5. -/
def State.romByte (s : State) (o : Nat) : Byte := (s.plumb.running.comp 5).getD (o % 2 ^ 20) 0

/-- A 64-bit BAR after a write of one half: address bits above the BAR's size, and its type bits. -/
def barSet (old : Word) (hi : Bool) (size : Nat) (val : BitVec 32) (type : Nat) : Word :=
  let w := mergePart (if hi then .hi else .lo) old (val.zeroExtend 64)
  BitVec.ofNat 64 (w.toNat / size * size + type)

/-- A configuration word stored under its mask. -/
def Dovetail.cfgStore (d : Dovetail) (w : Nat) (val : BitVec 32) : Dovetail :=
  { d with cfg_ := Tab.put d.cfg_ 0 w (BitVec.ofNat 64 (val.toNat &&& dtMask w)) }

/-- HOST_CONFIG_WRITE (R300, R303, R308, R309, R311): Command at 04h, the BARs, Device Control with its function-level reset, Device Control 2,
AER status, the Resizable BAR; other words by their writable bits. -/
def execHostConfigWrite (p : PortId) (reg : Nat) (val : BitVec 32) (s : State) : Res :=
  if !(s.port p).dtUp then .next s
  else
    let s := s.hostTouch p
    let d := (s.port p).dt
    match reg with
    | 0x04 =>
      let d := { (d.cfgStore reg val) with bme := val.getLsbD 2, mse := val.getLsbD 1 }
      .next ((s.setDt p d.flushPba).pumpReplies (dtInst p))
    | 0x10 => .next (s.setDt p { d with bar10 := barSet d.bar10 false (2 ^ 24) val 4 })
    | 0x14 => .next (s.setDt p { d with bar10 := barSet d.bar10 true (2 ^ 24) val 4 })
    | 0x18 => .next (if d.rec_ then s.setDt p { d with bar18 := barSet d.bar18 false d.barSize val 12 } else s)
    | 0x1C => .next (if d.rec_ then s.setDt p { d with bar18 := barSet d.bar18 true d.barSize val 12 } else s)
    | 0x48 => if val.getLsbD 15 then .next ((s.dtReset p true).pumpNode (s.frameOfPort p)) else .next (s.setDt p (d.cfgStore reg val))
    | 0x68 => .next (s.setDt p { d with devCtl2 := val.toNat % 65536 })
    | 0xB0 => .next (s.setDt p (d.cfgStore reg val).flushPba)
    | 0x104 => .next (s.setDt p { d with aer := d.aer - (d.aer &&& val.toNat) })
    | 0x348 => .next (if 10 ≤ bits val.toNat 13 8 then s.dtResize p (bits val.toNat 13 8 - 10) else s)
    | _ => .next (if reg % 4 = 0 then s.setDt p (d.cfgStore reg val) else s)

/-! ## Links that come up -/

/-- The size Leraro gives a CXL root port's decoder: the device's capacity in whole 256 MiB, at most its slice (R298). -/
def cxlDecode (width cap : Nat) : Nat := min (cap * 2 ^ 28) (width / 2 * (3 * 2 ^ 39))

/-- The corrected symbols of lanes lo to lo + n - 1 count from link-up (R355). -/
def Port.lanesUp (k : Port) (lo n : Nat) : Port :=
  { k with laneErr := k.laneErr.filter (fun e => !(decide (lo ≤ e.1) && decide (e.1 < lo + n))) }

/-- What a root port's link settles on (R280, R287, R297): at most its own width and 128 GT/s; without flit mode at most 32 GT/s; with CXL.mem
at most 64 GT/s, in 68-byte flits at 16 and 32 GT/s and 256-byte flits at 64 GT/s. -/
def Root.trained (r : Root) (width : Nat) (host : Bool) (l : LinkIn) : Root :=
  let top := min l.rate (if l.flit then 7 else 5)
  let mem := host && l.cxl != 0
  let rate := if mem then min top 6 else top
  { r with up := true, width := min l.width width, rate := rate, power := .l0, retrain := false, tags14 := l.tags14,
           flit := if mem then rate == 6 else l.flit,
           cxl := if !mem ∨ rate < 4 then 0 else if rate < 6 then 1 else 1 + l.cxl, slotEv := r.slotEv ||| 2 ^ 8 }

/-- A CXL or PCIe root port's link comes up (R298, R299). A device's decoder is programmed and locked once, before its first use; one that a
lost link has emptied stays empty. -/
def State.rootUp (s : State) (p i : Nat) (l : LinkIn) : State :=
  let k := s.port p
  let w := k.rootWidth i
  let r := (k.root i).trained w (k.pers == 2) l
  let s := s.setPort p (k.lanesUp (2 * i) r.width)
  let s := ((s.setRootOf p i r).linkEdge p).postLink p 0 0 0
  let h := 12 + p
  let b := s.home h
  if r.cxl = 0 ∨ b.linkDown.contains i ∨ (Tab.find b.decode i).isSome then s
  else
    let size := l.cap * 2 ^ 28
    let d := cxlDecode w l.cap
    let s := s.setHome h { b with decode := Tab.set b.decode i d }
    if d < size then s.post [s.frameOfPort p] (bootReport 7 p 9 (s.frameOfPort p) ((size - d + 2 ^ 30 - 1) / 2 ^ 30)) else s

/-- The LINK_IDENT slot a node sends (R264, R265). -/
def identSlot (width : Nat) : List Nat := [0x81, 0, width, 1, 2048, 1024, 0xFFFF]

/-- The widest of some widths that n trained lanes reach. -/
def widthOf (l : List Nat) (n : Nat) : Option Nat := l.find? (· ≤ n)

/-- A purlin link trains (R248, R256): x16 falls back once to x8, and there is no narrower width. -/
def State.purlinTrained (s : State) (p : Nat) (n : Nat) : State :=
  let k := s.port p
  match widthOf [16, 8] (min n k.lanes) with
  | none => s
  | some w =>
    let s := (s.setPort p (k.lanesUp 0 w)).setPurlin p { k.purlin with st := 2, width := w }
    s.setPurlin p ((s.port p).purlin.emit 2 [s.idUnit p])

/-- A ridge link trains (R263, R264): x16, x8 or x4, with credits and sequence numbers from their start. -/
def State.ridgeTrained (s : State) (p : Nat) (l : LinkIn) : State :=
  let k := s.port p
  match widthOf [16, 8, 4] (min l.width k.lanes) with
  | none => s
  | some w =>
    let r : Ridge := { ctl := k.ridge.ctl, out := k.ridge.out, quar := k.ridge.quar, loop := k.ridge.loop, answers := k.ridge.answers,
                       linkOut := k.ridge.linkOut, upNo := k.ridge.upNo,
                       st := 1, width := w, at64 := l.rate == 6 || k.ridge.ctl.getLsbD 30 }
    (s.setPort p (k.lanesUp 0 w)).setRidge p (r.sendLink (identSlot w))

/-- LINK_UP (R248, R256, R263, R264, R298, R300): training ends on a port that its frame does not hold in reset. -/
def execLinkUp (p : PortId) (root : Fin 8) (l : LinkIn) (s : State) : Res :=
  let k := s.port p
  let fr := s.frame (s.frameOfPort p)
  if k.inReset ∨ fr.halted then .next s
  else match k.pers with
    | 1 | 2 => if k.hasRoot root ∧ !(k.root root).up ∧ !(k.root root).held then .next (s.rootUp p root l) else .next s
    | 3 =>
      if 2 ≤ k.dt.link then .next s
      else
        let d := { k.dt with link := 2, rec_ := k.rec_, linkWas := k.rec_, ready := s.plumb.on, width := min l.width k.lanes,
                             rate := min l.rate (if l.flit then 7 else 5), flit := l.flit, tags14 := l.tags14 }
        .next (((s.setPort p (k.lanesUp 0 (min l.width k.lanes))).setDt p d).postLink p 0 0 0)
    | 4 => if 2 ≤ k.purlin.st ∨ !fr.booted ∨ !joinedMode s.mode then .next s else .next (s.purlinTrained p l.width)
    | 5 => if 2 ≤ k.ridge.st ∨ !fr.booted then .next s else .next (s.ridgeTrained p l)
    | _ => .next s

end Sys2Proof.Machine
end

