-- ==== Sys2Proof/Machine/CmdLink.lean ====
section
/-! DEFINITION. Link and port commands of Plumb: LINK_STATUS, TENON_REPAIR_MAP, LINK_RETRAIN, PORT_PERSONALITY and
RIDGE_EXPORT (R204, R213, R273, R279 to R283, R335, R336). -/

namespace Sys2Proof.Machine

/-- The instance of a link command: kind 0 a stud's tenon link, 1 a port. -/
def State.linkField (s : State) (t : TInst) (kind i : Nat) : Nat :=
  if kind = 0 then s.studField t i
  else if 1 < kind ∨ 8 ≤ i then stRange else if s.inScope t (s.frameOfPort i) then stOk else stDenied

/-! ## LINK_STATUS (R335) -/

/-- LINK_STATUS. -/
def State.cmdLinkStatus (s : State) (j : Job) : Ans :=
  let k := j.pkt.byte 0
  let i := j.pkt.byte 1
  let st := s.linkField j.t k i
  if st = stDenied then s.no stDenied 0
  else
    s.unless (j.pkt.bad (offs 2 8) [(0, decide (k ≤ 1)), (1, st == stOk)])
      (if k = 0 then
         let t := s.tenon i
         s.ok (bytesOf 8 t.status.toNat ++ bytesOf 8 t.up.retired ++ bytesOf 8 t.dn.retired)
       else
         let reg := match (s.port i).pers with | 4 => 0x118 | 5 => 0x128 | _ => 0x110
         s.ok (bytesOf 8 (s.portRead i 0x100).toNat ++ bytesOf 8 (s.portRead i reg).toNat))

/-! ## TENON_REPAIR_MAP (R204, R213, R335) -/

/-- The whole 3,284-byte map. -/
def State.mapBytes (s : State) : List Byte :=
  let b := bytesOf 4 1 ++ bytesOf 4 s.plumb.mapSeq ++ bytesOf 8 0 ++ (List.range 12).flatMap (fun n => (s.tenon n).record)
  b ++ bytesOf 4 (crc32 b)

/-- An empty record for stud n. -/
def State.clearMap (s : State) (n : Nat) : State :=
  let t := s.tenon n
  (s.setTenon n { t with up := { t.up with retired := 0, spare := [] }, dn := { t.dn with retired := 0, spare := [] } }).mapChanged

/-- TENON_REPAIR_MAP. -/
def State.cmdTenonMap (s : State) (j : Job) : Ans :=
  let op := j.pkt.byte 0
  let n := j.pkt.byte 1
  if op = 2 ∧ (s.scopeOf j.t).isSome then s.no stDenied 0
  else if op = 0 ∧ s.studField j.t n = stDenied then s.no stDenied 0
  else if op = 2 ∧ n < 12 ∧ (s.tenon n).st ≠ 0 ∧ (s.tenon n).st ≠ 4 then s.no stDenied 0
  else
    s.unless (j.pkt.bad (offs 2 8) [(0, decide (op ≤ 2)), (1, if op = 1 then n == 0 else decide (n < 12))])
      (match op with
       | 0 => s.ok (s.tenon n).record
       | 1 => s.ok s.mapBytes
       | _ => (s.clearMap n).ok [])

/-! ## LINK_RETRAIN (R213, R336) -/

/-- LINK_RETRAIN. -/
def State.cmdRetrain (s : State) (j : Job) : Ans :=
  let k := j.pkt.byte 0
  let i := j.pkt.byte 1
  let r := j.pkt.byte 2
  let st := s.linkField j.t k i
  let port := s.port i
  if st = stDenied then s.no stDenied 0
  else
    s.unless (j.pkt.bad (offs 3 8) [(0, decide (k ≤ 1)), (1, st == stOk)])
      (if k = 0 then
         s.unless (j.pkt.bad [2] [])
           (let up := (s.tenon i).st == 1 || (s.tenon i).st == 2 || (s.tenon i).st == 3
            if up ∧ !(s.frame (s.frameOfStud i)).halted then s.no stBusy 0
            else (s.tenonTrains i).runs)
       else match port.pers with
         | 1 | 2 =>
           if !port.hasRoot r then s.no stRange 2
           else (s.setRootOf i r { port.root r with retrain := true }).runs
         | 4 | 5 => s.unless (j.pkt.bad [2] []) s.runs
         | _ => s.unless (j.pkt.bad [2] []) (s.no stWrongMode 0))

/-- The findings of tenon training for stud n, and its failing attempts. -/
def BootEnvFindings (e : BootEnv) (n : Nat) : List Finding := (e.tenonBad.filter (fun x => x.1 == n)).map (·.2)
/-- Attempts of stud n that fail (R206). -/
def BootEnvFails (e : BootEnv) (n : Nat) : Nat := ((e.tenonFailTries.find? (fun x => x.1 == n)).map (·.2)).getD 0

/-- A retrain of a port ends: the link is up afterwards or not. -/
def State.retrainPort (s : State) (p r : Nat) (ok : Bool) : State × Bool :=
  let k := s.port p
  match k.pers with
  | 4 =>
    if !k.purlinLive then (s, false)
    else
      let s := s.fastRetrain p ok
      (s, (s.port p).purlin.st == 3)
  | 5 =>
    let r := k.ridge
    if r.st = 3 then (s, false)
    else if !ok then (if r.st = 4 then s else s.ridgeFail p, false)
    else if r.st = 2 then (s.recAdd 0x24 (0x20 + p) 2 1, true)
    else
      -- the switch behind a port that was up before is still there (DESIGN CHOICE, log entry 40)
      let s := s.ridgeTrained p { rate := if r.at64 then 6 else 7 }
      if r.farReq = 0 then (s, false)
      else
        let s := s.ridgeComesUp p { (s.port p).ridge with farReq := r.farReq, farPst := r.farPst, farRsp := r.farRsp }
        ((s.recAdd 0x24 (0x20 + p) 2 1).pumpNode (s.frameOfPort p), true)
  | _ =>
    let s := s.setRootOf p r { k.root r with retrain := false }
    if (k.root r).up ∧ !ok then ((((s.rootLost p r).linkEdge p).postLink p 1 0 0).portGoOn p, false)
    else (if (k.root r).up then s.recAdd 0x24 (0x20 + p) 2 1 else s, (k.root r).up)

/-- LINK_RETRAIN ends: OK when the link is up afterwards. -/
def State.finRetrain (s : State) (j : Job) (fin : FinishIn) : State × Nat × List Byte :=
  let i := j.pkt.byte 1
  let (s, up) :=
    if j.pkt.byte 0 = 0 then s.trainTenon i (BootEnvFindings fin.env i) (if fin.hwOk then BootEnvFails fin.env i else 3) (!fin.env.tenonIdent.contains i)
    else s.retrainPort i (j.pkt.byte 2) fin.hwOk
  -- accesses that waited for the tenon link go on (R11)
  let s := if j.pkt.byte 0 = 0 ∧ up then ((coresOf i).filter (fun c => !(s.core c).pipe.waits.isEmpty)).foldl State.retry s else s
  (s, if up then stOk else stHwFault, [])

/-! ## PORT_PERSONALITY (R279 to R283) -/

/-- A bifurcation mask passes R280. -/
def maskOk (m : Nat) (cxl : Bool) : Bool :=
  m % 2 == 1 && (rootStarts m).all (fun e =>
    (e.2 == 2 || e.2 == 4 || e.2 == 8 || e.2 == 16) && (2 * e.1) % e.2 == 0 && (!cxl || decide (4 ≤ e.2)))

/-- LANES fits the personality (R279). -/
def lanesOk (pers lanes : Nat) : Bool :=
  match pers with
  | 0 => lanes == 0
  | 1 => maskOk lanes false
  | 2 => maskOk lanes true
  | 4 => lanes == 8 || lanes == 16
  | _ => lanes == 4 || lanes == 8 || lanes == 16

/-- A personality that frame scope may neither store nor replace (R41, R283). -/
def keptPers (pers : Nat) : Bool := pers == 3 || pers == 4 || pers == 5

/-- PORT_PERSONALITY: the checks of R283 in their order. -/
def State.cmdPersonality (s : State) (j : Job) : Ans :=
  let p := j.pkt.byte 0
  let new : Pers := { pers := j.pkt.byte 1, lanes := j.pkt.byte 2, rec_ := j.pkt.byte 3 == 1 }
  let old := s.storedPers p
  let fits (m : Nat) : Bool := Machine.modeFits (fun q => if q = p then new.pers else (s.storedPers q).pers) m
  s.unless (j.pkt.bad (offs 4 8)
      [(0, decide (p < 8)), (1, decide (new.pers ≤ 5)), (2, decide (5 < new.pers) || lanesOk new.pers new.lanes),
       (3, j.pkt.byte 3 == 0 || (j.pkt.byte 3 == 1 && new.pers == 3))])
    (if !s.inScope j.t (s.frameOfPort p) then s.no stDenied 0
     else if new = old then s.ok []
     else if (s.scopeOf j.t).isSome ∧ (keptPers old.pers ∨ keptPers new.pers) then s.no stDenied 0
     else if !fits s.mode ∨ !fits s.plumb.pendMode then s.no stWrongMode 0
     else s.runs)

/-- PORT_PERSONALITY ends: the record is stored. -/
def State.finPersonality (s : State) (j : Job) (fin : FinishIn) : State × Nat × List Byte :=
  if !fin.hwOk then (s, stHwFault, [])
  else
    let new : Pers := { pers := j.pkt.byte 1, lanes := j.pkt.byte 2, rec_ := j.pkt.byte 3 == 1 }
    let fl := { s.plumb.flash with pers := Tab.set s.plumb.flash.pers (j.pkt.byte 0) new }
    ({ s with plumb := { s.plumb with flash := fl } }, stOk, [])

/-! ## RIDGE_EXPORT (R272, R273) -/

/-- A request of another node is under way at a port of the frame. -/
def State.ridgeBusy (s : State) (f : Nat) : Bool :=
  (portsOf s.mode f).any (fun p => (s.port p).inb.any (fun e => e.2.root == 8))

/-- An entry that a write may store (R272, R273). -/
def State.exportOk (s : State) (f : Nat) (e : Word) : Bool :=
  decide (fld e 43 28 ≤ fld e 59 44) && fld e 27 15 == 0 && fld e 1 0 == 0 &&
    s.withinDram f (s.ownBase f + fld e 14 2 * 2 ^ 30) (2 ^ 30)

/-- A change of the export table is answered once the requests looked up before it have been performed (R273). -/
def State.setExports (s : State) (f : Nat) (t : Map Word) : Ans :=
  let s := s.setFrame f { s.frame f with exports := t }
  if s.ridgeBusy f then s.runs else s.ok []

/-- RIDGE_EXPORT: the checks of R273 in their order. -/
def State.cmdExport (s : State) (j : Job) : Ans :=
  let p := j.pkt
  let op := p.byte 0
  let f := p.byte 1
  let i := p.le 2 2
  let e : Word := BitVec.ofNat 64 (p.le 8 8)
  let fr := s.frame f
  if (s.scopeOf j.t).elim false (fun g => g != f) then s.no stDenied 0
  else if frameCount s.mode ≤ f then s.no stRange 1
  else if !fr.node then s.no stWrongMode 0
  else
    s.unless (p.bad (offs 4 8)
        [(0, decide (op ≤ 3)), (2, if op = 3 then i == 0 else decide (i < 4096)), (8, if op = 0 then s.exportOk f e else e == 0)])
      (match op with
       | 0 => s.setExports f (Tab.put fr.exports 0 i e)
       | 1 => s.setExports f (Tab.put fr.exports 0 i 0)
       | 2 => s.ok (bytesOf 8 (Tab.get fr.exports 0 i).toNat)
       | _ => s.setExports f [])

end Sys2Proof.Machine
end

