-- ==== Sys2Proof/Machine/CmdFw.lean ====
section
/-! DEFINITION. Firmware update, attestation, SPDM and MCTP control (R316, R337 to R339, R435, R436, R449 to R451). The
octets of SPDM and MCTP messages follow DSP0274 and DSP0236, which the spec names and does not restate (log entry 27). -/

namespace Sys2Proof.Machine

/-! ## Bundles (R435, R436) -/

/-- A little-endian field of an image. -/
def imgLe (d : List Byte) (off n : Nat) : Nat := ofBytes ((d.drop off).take n)

/-- The directory of an image: type, offset and length of each component. -/
def imgDir (d : List Byte) : List (Nat × Nat × Nat) :=
  (List.range (imgLe d 10 2)).map (fun i => (imgLe d (256 + 64 * i) 4, imgLe d (260 + 64 * i) 4, imgLe d (264 + 64 * i) 4))

/-- The greatest length of a component of a type. -/
def compMax (type : Nat) : Nat := if type = 3 then 0x1000000 else if type = 4 then 0x10000 else if type = 5 then 0x100000 else 0x2000000

/-- An image has the form of a bundle: header, aligned components inside the signed length that do not overlap. -/
def imgForm (d : List Byte) : Bool :=
  let l := imgDir d
  let signed := imgLe d 4 4
  imgLe d 0 4 == 1 && decide (1 ≤ l.length ∧ l.length ≤ 32) && decide (imgLe d 8 1 ≤ 63) && decide (imgLe d 9 1 ≤ 1) &&
    decide (signed + 96 ≤ d.length) &&
    l.all (fun e => e.2.1 % 4096 == 0 && decide (4096 ≤ e.2.1) && decide (e.2.1 + e.2.2 ≤ signed) && decide (e.2.2 ≤ compMax e.1)) &&
    (List.range l.length).all (fun i => (List.range i).all (fun k =>
      let a := l.getD i (0, 0, 0)
      let b := l.getD k (0, 0, 0)
      decide (a.2.1 + a.2.2 ≤ b.2.1) || decide (b.2.1 + b.2.2 ≤ a.2.1)))

/-- The bundle an image holds, whose signature and digests verify or not. A header whose default mode byte and ALLOWED mask are both zero
carries no mode configuration (DESIGN CHOICE, log entry 13: the spec does not say how a header shows that). -/
def imgBundle (d : List Byte) (good : Bool) : Option Bundle :=
  if !imgForm d then none
  else
    let dflt := imgLe d 128 1
    let mask := imgLe d 130 2 % 4096
    let key := (d.drop 16).take 97
    some {
      svn := imgLe d 8 1, dbg := imgLe d 9 1 == 1, major := imgLe d 12 1, minor := imgLe d 13 1, build := imgLe d 14 2,
      mode := if dflt = 0 ∧ mask = 0 then none else some (dflt, mask),
      comps := (imgDir d).map (fun e => (e.1, (d.drop e.2.1).take e.2.2)),
      keySlot := ((List.range 4).find? (fun k => key == (List.range 97).map (Config.signingKey k))).getD 0, good := good }

/-- A slot passes verification (R436). -/
def Bundle.verifies (b : Bundle) (minSvn : Nat) : Bool :=
  b.good && decide (minSvn ≤ b.svn) && [1, 2, 3, 4].all (fun t => b.comps.any (fun c => c.1 == t)) &&
    decide (b.modeCfg.1 ≤ 11) && bitOf b.modeCfg.2 b.modeCfg.1

/-! ## The update session (R337, R338) -/

/-- The session closed. -/
def State.fwClose (s : State) : State := { s with plumb := { s.plumb with fwOwner := none, fwLen := 0, fwData := [] } }

/-- FW_BEGIN. -/
def State.cmdFwBegin (s : State) (j : Job) : Ans :=
  let len := j.pkt.le 0 4
  s.unless (j.pkt.bad (offs 4 8) [(0, len % 4096 == 0 && decide (0x10000 ≤ len ∧ len ≤ 0x2000000))])
    (if s.plumb.fwOwner.isSome then s.no stBusy 0
     else ({ s with plumb := { s.plumb with fwOwner := some j.t, fwOther := 1 - s.plumb.flash.booted, fwLen := len, fwData := [] } } : State).runs)

/-- A slot's bundle replaced. -/
def State.setSlot (s : State) (i : Nat) (b : Option Bundle) : State :=
  let m := match b with | some b => Tab.set s.plumb.flash.slots i b | none => Tab.erase s.plumb.flash.slots i
  { s with plumb := { s.plumb with flash := { s.plumb.flash with slots := m } } }

/-- FW_BEGIN ends: the other slot is erased. -/
def State.finFwBegin (s : State) (fin : FinishIn) : State × Nat × List Byte :=
  if fin.hwOk then (s.setSlot s.plumb.fwOther none, stOk, []) else (s.fwClose, stHwFault, [])

/-- FW_CHUNK. -/
def State.cmdFwChunk (s : State) (j : Job) : Ans :=
  if s.plumb.fwOwner ≠ some j.t then s.no stDenied 0
  else
    let n := j.pkt.len.toNat - 8
    s.unless (j.pkt.bad (offs 4 8)
        [(0, j.pkt.le 0 4 == s.plumb.fwData.length), (8, decide (s.plumb.fwData.length + n ≤ s.plumb.fwLen))]) s.runs

/-- FW_CHUNK ends. -/
def State.finFwChunk (s : State) (j : Job) (fin : FinishIn) : State × Nat × List Byte :=
  if !fin.hwOk then (s, stHwFault, [])
  else
    let d := (j.pkt.params.take j.pkt.len.toNat).drop 8
    ({ s with plumb := { s.plumb with fwData := s.plumb.fwData ++ d } }, stOk, [])

/-- FW_COMMIT: checks 1 and 2 of R338. -/
def State.cmdFwCommit (s : State) (j : Job) : Ans :=
  if s.plumb.fwOwner ≠ some j.t then s.no stDenied 0
  else if s.plumb.fwData.length ≠ s.plumb.fwLen then s.fwClose.no stRange 0
  else s.runs

/-- FW_COMMIT ends: checks 3 and 4 of R338; the staged slot is marked to boot. -/
def State.finFwCommit (s : State) (fin : FinishIn) : State × Nat × List Byte :=
  let o := s.plumb.fwOther
  let b := imgBundle s.plumb.fwData fin.verified
  let s := (s.setSlot o b).fwClose
  match b with
  | none => (s, stIntegrity, [])
  | some b =>
    if !b.verifies s.plumb.minSvn then (s, stIntegrity, [])
    else if !fin.hwOk then (s.setSlot o (some { b with good := false }), stHwFault, [])
    else ({ s with plumb := { s.plumb with flash := { s.plumb.flash with try_ := some o } } }, stOk, [])

/-- FW_SESSION_TIMEOUT (R337): 10 s without a command; the other slot is left erased. -/
def execFwSessionTimeout (s : State) : Res :=
  if s.plumb.fwOwner.isNone ∨ s.plumb.jobs.any (fun j => decide (0x70 ≤ j.opcode ∧ j.opcode ≤ 0x72)) then .next s
  else .next (s.setSlot s.plumb.fwOther none).fwClose

/-! ## Measurements (R450, R451) -/

/-- The blocks a transport instance sees. -/
def State.blocks (s : State) (t : TInst) : List Nat := (List.range 8).map (1 + ·) ++ (s.scopeFrames t).map (16 + ·)

/-- Bytes padded with zeros to a length. -/
def padTo (n : Nat) (l : List Byte) : List Byte := l ++ List.replicate (n - l.length) 0
/-- The signed length of a bundle: header, directory and components (R435). -/
def Bundle.signedBytes (b : Bundle) : List Byte :=
  padTo 4096 b.headerBytes ++ b.comps.flatMap (fun c => padTo (pages4k c.2.length) c.2)

/-- The digest of a measurement block. -/
def State.measure (s : State) (i : Nat) : BitVec 384 :=
  let b := s.plumb.running
  match i with
  | 1 => Config.bootRomDigest
  | 2 => Config.sha384 b.signedBytes
  | 3 => Config.sha384 (b.comp 1)
  | 4 => Config.sha384 (b.comp 2)
  | 5 => Config.sha384 (b.comp 3)
  | 6 => Config.sha384 (b.comp 4)
  | 7 => Config.measurement 7 [s.mode, b.modeCfg.2, s.plumb.pendMode]
  | 8 => Config.measurement 8 [b2n s.plumb.dbgOpen, s.plumb.minSvn, b.keySlot, b2n s.plumb.flash.fallback]
  | _ => Config.measurement i (s.frame (i - 16)).meas

/-- The payload of ATTEST: the report and its signature (R451). -/
def State.report451 (s : State) (t : TInst) (nonce : List Byte) : List Byte :=
  let l := s.blocks t
  let body := nonce ++ bytesOf 2 1 ++ bytesOf 1 l.length ++ bytesOf 1 0 ++ bytesOf 8 s.stamp.toNat ++ bytesOf 20 0 ++
    l.flatMap (fun i => bytesOf 1 i ++ bytesOf 3 0 ++ bytesOf 48 (s.measure i).toNat)
  let sig := Config.sign (Config.sha384 body)
  body ++ bytesOf 48 (sig.toNat / 2 ^ 384) ++ bytesOf 48 sig.toNat

/-- ATTEST ends. -/
def State.finAttest (s : State) (j : Job) (fin : FinishIn) : State × Nat × List Byte :=
  if fin.hwOk then (s, stOk, s.report451 j.t (j.pkt.params.take 32)) else (s, stHwFault, [])

/-! ## SPDM (R449) -/

/-- The SPDM state of a transport instance: MCTP, or the DOE mailbox of a port's function. -/
def spdmKey (t : TInst) : Nat := if t.kind = .mctp then 0 else 1 + t.inst
def State.spdmOf (s : State) (t : TInst) : Spdm := Tab.get s.plumb.spdm {} (spdmKey t)
def State.setSpdm (s : State) (t : TInst) (d : Spdm) : State :=
  { s with plumb := { s.plumb with spdm := Tab.set s.plumb.spdm (spdmKey t) d } }

/-- A response sent. -/
def State.spdmSend (s : State) (t : TInst) (b : List Byte) : State :=
  let d := s.spdmOf t
  s.setSpdm t { d with out := d.out ++ [b] }

/-- The responder is reached: over MCTP with an endpoint ID, or over DOE of a dovetail function. -/
def State.spdmReach (s : State) (t : TInst) : Bool :=
  s.live && (match t.kind with
    | .mctp => s.plumb.eid != 0
    | .dovetail => decide (t.inst < 8) && (s.port t.inst).pers == 3 && !(s.port t.inst).inReset
    | .ring => false)

/-- The header of a message (DSP0274). -/
def spdmHead (ver code p1 p2 : Nat) : List Byte := bytesOf 1 ver ++ bytesOf 1 code ++ bytesOf 1 p1 ++ bytesOf 1 p2
/-- An ERROR response: 1 InvalidRequest, 4 UnexpectedRequest, 7 UnsupportedRequest, 0x41 VersionMismatch. -/
def State.spdmError (s : State) (t : TInst) (code data : Nat) : State :=
  let v := (s.spdmOf t).ver
  s.spdmSend t (spdmHead (if v = 0 then 0x10 else v) 0x7F code data)

/-- A request that needs the negotiation done, in the version agreed. -/
def State.spdmReady (s : State) (t : TInst) (version : Byte) (go : State) : State :=
  let d := s.spdmOf t
  if !d.algs then s.spdmError t 4 0 else if version.toNat ≠ d.ver then s.spdmError t 0x41 0 else go

/-- GET_VERSION (R449): versions 1.1 and 1.2; the negotiation starts again. -/
def execGetVersion (t : TInst) (version : Byte) (s : State) : Res :=
  if !s.spdmReach t then .next s
  else if version.toNat ≠ 0x10 then .next (s.spdmError t 0x41 0)
  else
    let s := s.setSpdm t { version := true, out := (s.spdmOf t).out }
    .next (s.spdmSend t (spdmHead 0x10 0x04 0 0 ++ [0, 2, 0x00, 0x11, 0x00, 0x12]))

/-- GET_CAPABILITIES (R449): CERT_CAP, CHAL_CAP, MEAS_CAP with signature, MEAS_FRESH_CAP. -/
def execGetCapabilities (t : TInst) (version : Byte) (s : State) : Res :=
  let d := s.spdmOf t
  if !s.spdmReach t then .next s
  else if !d.version then .next (s.spdmError t 4 0)
  else if version.toNat ≠ 0x11 ∧ version.toNat ≠ 0x12 then .next (s.spdmError t 0x41 0)
  else
    let v := version.toNat
    let s := s.setSpdm t { d with caps := true, algs := false, ver := v }
    let tail := if v = 0x12 then (List.range 8).map (Config.spdmOctet 0x61) else []
    .next (s.spdmSend t (spdmHead v 0x61 0 0 ++ [0, Config.spdmOctet 0x61 8, 0, 0] ++ bytesOf 4 0x36 ++ tail))

/-- NEGOTIATE_ALGORITHMS (R449): ECDSA P-384 and SHA-384. -/
def execNegotiateAlgorithms (t : TInst) (version : Byte) (p384 sha384 : Bool) (s : State) : Res :=
  let d := s.spdmOf t
  if !s.spdmReach t then .next s
  else if !d.caps then .next (s.spdmError t 4 0)
  else if version.toNat ≠ d.ver then .next (s.spdmError t 0x41 0)
  else if !p384 ∨ !sha384 then .next (s.spdmError t 7 0xE3)
  else
    let s := s.setSpdm t { d with algs := true }
    .next (s.spdmSend t (spdmHead d.ver 0x63 0 0 ++ bytesOf 2 36 ++ [1, 0] ++ bytesOf 4 4 ++ bytesOf 4 0x80 ++ bytesOf 4 2 ++ bytesOf 16 0))

/-- The certificate chain of slot 0, for the booted bundle. -/
def State.chain (s : State) : List Byte := Config.certChain (s.measure 2)

/-- GET_DIGESTS (R449): slot 0 only. -/
def execGetDigests (t : TInst) (version : Byte) (s : State) : Res :=
  if !s.spdmReach t then .next s
  else .next (s.spdmReady t version
    (s.spdmSend t (spdmHead (s.spdmOf t).ver 0x01 0 1 ++ bytesOf 48 (Config.sha384 s.chain).toNat)))

/-- GET_CERTIFICATE (R449): a portion of the chain of slot 0. -/
def execGetCertificate (t : TInst) (version slot : Byte) (off len : BitVec 16) (s : State) : Res :=
  if !s.spdmReach t then .next s
  else .next (s.spdmReady t version
    (let n := s.chain.length
     if slot ≠ 0 then s.spdmError t 7 0x82
     else if n ≤ off.toNat ∨ len = 0 then s.spdmError t 1 0
     else
       let part := (s.chain.drop off.toNat).take len.toNat
       s.spdmSend t (spdmHead (s.spdmOf t).ver 0x02 0 0 ++ bytesOf 2 part.length ++ bytesOf 2 (n - off.toNat - part.length) ++ part)))

/-- n octets of free values (log entry 2). -/
def State.takeBytes (s : State) (n : Nat) : List Byte × State :=
  match n with
  | 0 => ([], s)
  | k + 1 =>
    let (w, s) := s.take
    let (l, s) := State.takeBytes s k
    (bytesOf 8 w.toNat ++ l, s)

/-- CHALLENGE (R449): the digest of the chain, a nonce and a signature with the alias key. The responder's nonce and the
signature, over a transcript the spec does not restate, are free values. -/
def execChallenge (t : TInst) (version slot : Byte) (_nonce : BitVec 256) (s : State) : Res :=
  if !s.spdmReach t then .next s
  else .next (s.spdmReady t version
    (if slot ≠ 0 then s.spdmError t 7 0x83
     else
       let (r, s) := s.takeBytes 4
       let (sig, s) := s.takeBytes 12
       s.spdmSend t (spdmHead (s.spdmOf t).ver 0x03 0 1 ++ bytesOf 48 (Config.sha384 s.chain).toNat ++ r ++ bytesOf 2 0 ++ sig)))

/-- One block as MEASUREMENTS carries it (DSP0274). -/
def State.spdmBlock (s : State) (i : Nat) : List Byte :=
  bytesOf 1 i ++ [1] ++ bytesOf 2 51 ++ [Config.spdmOctet 0x60 i] ++ bytesOf 2 48 ++ bytesOf 48 (s.measure i).toNat

/-- GET_MEASUREMENTS (R449, R450): index 0 asks for the number of blocks, 0xFF for all of them. -/
def execGetMeasurements (t : TInst) (version : Byte) (index : Byte) (sign : Bool) (_nonce : BitVec 256) (s : State) : Res :=
  if !s.spdmReach t then .next s
  else .next (s.spdmReady t version
    (let all := s.blocks t
     let i := index.toNat
     let l := if i = 0 then [] else if i = 0xFF then all else all.filter (fun b => b == i)
     if l.isEmpty ∧ i ≠ 0 then s.spdmError t 1 0
     else
       let rec_ := l.flatMap s.spdmBlock
       let (r, s) := s.takeBytes 4
       let (sig, s) := if sign then s.takeBytes 12 else ([], s)
       s.spdmSend t (spdmHead (s.spdmOf t).ver 0x60 (if i = 0 then all.length else 0) 0 ++ bytesOf 1 l.length ++
         bytesOf 3 rec_.length ++ rec_ ++ r ++ bytesOf 2 0 ++ sig)))

/-- SPDM_UNSUPPORTED_REQUEST (R449). -/
def execSpdmUnsupportedRequest (t : TInst) (_version code : Byte) (s : State) : Res :=
  if !s.spdmReach t then .next s else .next (s.spdmError t 7 code.toNat)

/-! ## MCTP control (R316, R326) -/

/-- A control response: its command code, completion code and data (DSP0236). -/
def State.mctpControl (s : State) (code cc : Nat) (data : List Byte) : Res :=
  if !s.live then .next s else .next (s.mctpSend false ([0x00] ++ bytesOf 1 code ++ bytesOf 1 cc ++ data))

/-- ENTDAA (R316): a dynamic address on the BMC bus. -/
def execEntdaa (addr : BitVec 7) (s : State) : Res :=
  if !s.live then .next s else .next { s with plumb := { s.plumb with dynAddr := addr.toNat } }

/-- SET_ENDPOINT_ID (R316, R326): an assignment made again loses the commands of the transport. IDs 0 to 7 and 0xFF are
no endpoint IDs (DSP0236). -/
def execSetEndpointId (eid : Byte) (s : State) : Res :=
  if !s.live then .next s
  else if eid.toNat < 8 ∨ eid.toNat = 0xFF then s.mctpControl 0x01 2 []
  else
    let s := if s.plumb.eid = 0 then s else s.loseTransport { kind := .mctp, inst := 0 }
    let s := { s with plumb := { s.plumb with eid := eid.toNat } }
    s.mctpControl 0x01 0 ([0] ++ bytesOf 1 eid.toNat ++ [0])

/-- GET_ENDPOINT_ID (R316). -/
def execGetEndpointId (s : State) : Res := s.mctpControl 0x02 0 (bytesOf 1 s.plumb.eid ++ [0, 0])
/-- GET_ENDPOINT_UUID (R316). -/
def execGetEndpointUuid (s : State) : Res := s.mctpControl 0x03 0 (bytesOf 16 Config.endpointUuid.toNat)
/-- GET_MCTP_VERSION_SUPPORT (R316): the version of the base specification is not stated. -/
def execGetMctpVersionSupport (s : State) : Res := s.mctpControl 0x04 0 ([1] ++ (List.range 4).map (Config.spdmOctet 0x104))
/-- GET_MESSAGE_TYPE_SUPPORT (R316): control, SPDM and vendor-defined PCI. -/
def execGetMessageTypeSupport (s : State) : Res := s.mctpControl 0x05 0 [3, 0x00, 0x05, 0x7E]
/-- GET_VENDOR_DEFINED_MESSAGE_SUPPORT (R316): the PCI-SIG vendor identifier. -/
def execGetVendorDefinedMessageSupport (s : State) : Res :=
  s.mctpControl 0x06 0 ([0xFF, 0] ++ (vdmHead.drop 1).take 2 ++ (List.range 2).map (Config.spdmOctet 0x106))

end Sys2Proof.Machine
end

