-- ==== Sys2Proof/Machine/Reset.lean ====
section
/-! DEFINITION. What each reset leaves, and the boot that follows it: the wipe of a frame, self-test and training, the
choice of the bundle slot, the mode, and the release of boot harts (R44 to R47, R236, R411, R429 to R447). -/

namespace Sys2Proof.Machine

/-! ## The wipe of a frame (R444, steps 1 to 5) -/

/-- A stud out of reset holds nothing; Plumb's settings and the sensors, which lie in D0, stay. -/
def Stud.wiped (st : Stud) (held : Bool) : Stud :=
  { state := 3, policy := st.policy, fixedMhz := st.fixedMhz, capLimit := st.capLimit, thermLimit := st.thermLimit,
    sense := st.sense, model := st.model, power := st.power, held := held }

/-- The writes in a channel's queue have been performed and reach DRAM (R227); a region that one of them names is cleared first (R237). -/
def State.landWrites (s : State) (c : Nat) : State :=
  (s.chan c).wq.foldl (fun s e =>
    let s := if (s.chan c).edge e.x ∨ (s.chan c).isClear e.x then s else s.clearRegion c (regionOf e.x)
    s.setMemLine (s.queueKey c e.x) e.data e.poison) s

/-- A channel through a reset that keeps DRAM (R236): its modules, its clear map and what training held, with every rank in
self-refresh; before a frame's first training every channel trains. -/
def Chan.wiped (c : Chan) (trained : Bool) : Chan :=
  let st := if !trained ∨ c.st = 2 then 1 else c.st
  { st := st, saved := c.saved, clearDone := trained && c.clearDone, res := c.res, rate := c.rate, cleared := c.cleared,
    marks := c.marks, gen := c.gen,
    ranks := if trained ∧ c.st = 2 then (List.range c.nr).foldl (fun m r => Tab.put m {} r { sr := true }) [] else [] }

/-- The bench memory of bay b lost (R143). -/
def State.eraseBench (s : State) (b : Nat) : State :=
  let out (k : Nat) : Bool := decide (k < keyBench b 0) || decide (keyBench (b + 1) 0 ≤ k)
  { s with mem := s.mem.filter (fun c => out c.1), memPoison := s.memPoison.filter out }

/-- A port with its link down and its registers at reset; its personality stays (R444, step 2). -/
def Port.wiped (k : Port) : Port :=
  { pers := k.pers, lanes := k.lanes, rec_ := k.rec_, failQ := k.failQ, inReset := false, quarter := k.quarter }

/-- The registers of a dovetail function that a frame reset returns to their reset values (R9, R309): the window sets' shadow stays, and of a
recovery function the rings. -/
def Dovetail.frameCleared (d : Dovetail) : Dovetail :=
  let d := { d with active := [], frameReset := true, ringErr := false, drop := false, unexp := false, outBase := 0, nqLevel := 1, nqTimeout := 10,
                    winStat := 0 }
  if d.rec_ then d
  else { d with cfg := 0x4400, cmdBase := 0, cmdTail := 0, cmdHead := 0, rplBase := 0, rplHead := 0, rplTail := 0, cmdInF := 0, rplInF := 0,
                logInF := (4, 4) }

/-- Port p at a frame reset: dovetail keeps its link and its configuration; posted writes already decoded have been performed, and replies of
commands already accepted are discarded (R309); the other registers of the port return to their reset values (R9). -/
def State.framePort (s : State) (p : Nat) : State :=
  if (s.port p).pers ≠ 3 then s.setPort p (s.port p).wiped
  else
    let s := (s.performRegs p).loseTransport (dtInst p)
    let k := s.port p
    s.setPort p { k with inb := [], inbQ := [], devCtl := 0, unexpCpl := 0, dropped := 0, laneErr := [], dt := k.dt.frameCleared }

/-- The frame's own state at its reset value; what Plumb keeps of it in D0 stays: caps, the retained FATAL, and how its
channels were trained. -/
def Frame.wiped (fr : Frame) : Frame :=
  { halted := fr.halted, fatal := fr.fatal, trained := fr.trained, nCh := fr.nCh, perCh := fr.perCh, rate := fr.rate,
    cap := fr.cap, binding := fr.binding, capF := fr.capF, unreach := fr.unreach, grant := fr.grant, demand := fr.demand,
    meas := fr.meas, resetting := fr.resetting, coreResets := fr.coreResets, refused := fr.refused,
    nq := { popped := fr.nq.popped, stalled := fr.nq.stalled.filter (fun w => !w.ap.any (fun a => (apFrame a).isSome)), no := fr.nq.no } }

/-- The cores of stud n, gone from the machine; its tenon link goes DOWN and trains until the reset ends (R203, R444,
steps 1 and 4). -/
def State.wipeStud (s : State) (n : Nat) (held : Bool) : State :=
  let s := (s.tenonTrains n).setStud n ((s.stud n).wiped held)
  { s with cores := s.cores.filter (fun e => e.1 / 32 != n) }

/-- Steps 1 to 5 of R444 on frame f, ports apart: DRAM is kept, everything else of the frame is reset. -/
def State.wipeFrame (s : State) (f : Nat) : State :=
  let fr := s.frame f
  let s := (chansOf s.mode f).foldl State.landWrites (s.ncForget f)
  let s := (portsOf s.mode f).foldl State.landPosted s
  let s := (chansOf s.mode f).foldl (fun s c => s.setChan c ((s.chan c).wiped fr.trained)) s
  let s := (studsOf s.mode f).foldl (fun s n => ((s.wipeStud n false).setHome n (Home.init n)).eraseBench n) s
  let s := (portsOf s.mode f).foldl (fun s p => s.setHome (12 + p) (Home.init (12 + p))) s
  let s := (quadsOf s.mode f).foldl (fun s q => s.setBw q {}) s
  let s := s.loseTransport { kind := .ring, inst := f }
  let arrays := (studsOf s.mode f).map (14 + ·)
  { s with
    net := s.net.filter (fun m => s.frameOfAgent m.hdr.dst != f && m.outP.all (fun p => s.frameOfPort p != f)),
    upmus := s.upmus.filter (fun e => !(s.instFrames .upmu e.1).contains f),
    nqWait := s.nqWait.filter (fun a => apFrame a.ap != some f),
    sel := { s.sel with inst := s.sel.inst.filter (fun e => e.1 / 16 != f) },
    power := { s.power with votes := s.power.votes.filter (fun e => e.1 % 4 != f),
                            domState := s.power.domState.filter (fun e => !arrays.contains e.1),
                            domVolt := arrays.foldl (fun m d => Tab.put m 0 d 750) s.power.domVolt },
    frames := Tab.set s.frames f fr.wiped }

/-! ## Self-test, training and selection (R45 to R47, R205, R411) -/

/-- Structure codes of the checkers of a core, of stud bits 40 to 42 and of bay bits 0 to 8 (R403, R411). -/
def coreCode (k : Nat) : Nat := [0x01, 0x02, 0x03, 0x04, 0x06].getD k 0x01
def studCode (bit : Nat) : Nat := [0x05, 0x28, 0x07].getD (bit - 40) 0x05
def bayCode (bit : Nat) : Nat := [0x10, 0x11, 0x13, 0x14, 0x15, 0x16, 0x17, 0x28, 0x18].getD bit 0x10

/-- Failed checkers of stud n and of bay b in what self-test found. -/
def envCores (e : BootEnv) (n : Nat) : List (Nat × List Nat) := e.coreFail.filter (fun x => x.1 / 32 == n && !x.2.isEmpty && decide (x.1 < 384))
def envStud (e : BootEnv) (n : Nat) : List Nat := (e.studFail.filter (fun x => x.1 == n && decide (40 ≤ x.2 ∧ x.2 ≤ 42))).map (·.2)
def envBay (e : BootEnv) (b : Nat) : List Nat := (e.bayFail.filter (fun x => x.1 == b && decide (x.2 ≤ 8))).map (·.2)
/-- Bay bits whose failure keeps the frame from booting. -/
def bayFatal (bit : Nat) : Bool := (decide (2 ≤ bit) && decide (bit ≤ 6)) || bit == 8

/-- The failed checkers counted in CHECKER, one each (R411). -/
def State.countCheckers (s : State) (codes : List Nat) : State := codes.foldl (fun s c => s.recAdd 0x41 0 c 1) s
def coreCodes (l : List (Nat × List Nat)) : List Nat := l.flatMap (fun x => x.2.map coreCode)

/-- The working cores of stud n: those that are not fused off. -/
def workingCores (e : BootEnv) (n : Nat) : Nat := maskOf ((List.range 32).filter (fun c => !(envCores e n).any (fun x => x.1 % 32 == c)))

/-- Stud n through self-test and training: RUNNING with its cores held, or FAILED (R205, R411, R441, R445). -/
def State.raiseStud (s : State) (n : Nat) (env : BootEnv) (cause : Nat) (entry : Bool) : State :=
  let s := s.countCheckers (coreCodes (envCores env n) ++ (envStud env n).map studCode)
  let (s, up) := s.trainTenon n (BootEnvFindings env n) (BootEnvFails env n) (!env.tenonIdent.contains n)
  let cores := workingCores env n
  let ok := up && (envStud env n).isEmpty && !(envBay env n).contains 7 && cores != 0
  let s := s.setStud n { s.stud n with state := if ok then 0 else 1, cores := cores }
  if !ok then s
  else
    let s := ((coresOf n).filter (fun c => bitOf cores (c % 32))).foldl
      (fun s c => s.setCore c { run := .held, cause := cause, entry := entry, notch := s.notchReset c, xlat := { shim := true, shimVer := s.plumb.running.version } }) s
    (s.updateStud n).applyFreq n

/-- Bay b through self-test (R46, R411). -/
def State.raiseBay (s : State) (b : Nat) (env : BootEnv) : State :=
  let s := s.countCheckers ((envBay env b).map bayCode)
  s.setHome b { s.home b with arrayFail := (envBay env b).any (fun k => decide (k < 2)) }

/-- Port p is held in reset at boot (R35, R42, R43, R48, R411). -/
def State.holdsPort (s : State) (p : Nat) : Bool :=
  let k := s.port p
  let rank := ((List.range p).filter (fun q => (s.port q).pers == k.pers)).length
  k.failQ || ((k.pers == 4 || k.pers == 5) && decide (4 ≤ rank))

/-- Port p as the boot of its frame reaches it: a purlin port of a frame that runs Solo is held, and every link port of a frame
that is not booted (R34, R35, R48, R444). -/
def State.raisePort (s : State) (p : Nat) (booted : Bool) : State :=
  let k := s.port p
  let hold := s.holdsPort p || (k.pers == 4 && (!joinedMode s.mode || (s.frame (s.frameOfPort p)).refused || !booted)) || (!booted && k.pers != 3)
  let k := { k with inReset := hold }
  s.setPort p (match k.pers with
    | 4 => if hold then k.holdPurlin 0 0 else { k with purlin := { k.purlin with st := 1 } }
    | 5 => { k with ridge := { k.ridge with st := if hold then 3 else 1 } }
    | 3 => { k with dt := { k.dt with ready := !hold } }
    | _ => k)

/-- Steps 6 of R444 and 3 to 5 of R432 on frame f: self-test, training, selection. The frame counts as booted from
here on, or not at all. -/
def State.prepareFrame (s : State) (f : Nat) (env : BootEnv) (cause : Nat) : State :=
  let bays := studsOf s.mode f
  let s := bays.foldl (fun s b => s.raiseBay b env) s
  let s := (portsOf s.mode f).foldl (fun s p => s.setPort p { s.port p with failQ := env.portFail.contains p }) s
  let s := bays.foldl (fun s n => s.raiseStud n env cause false) s
  let work := bays.filter (fun n => (s.stud n).state == 0)
  let cached := bays.filter (fun b => !(s.home b).arrayFail)
  let ok := !s.power.trip && !work.isEmpty && !cached.isEmpty && bays.all (fun b => !(envBay env b).any bayFatal)
  let stud := work.headD 0
  let core := ((List.range 32).find? (bitOf (s.stud stud).cores)).getD 0
  let degraded := bays.any (fun n => (s.stud n).state == 1 || (s.home n).arrayFail)
  let fr := s.frame f
  if ok then
    let s := s.setFrame f { fr with
      booted := true, halted := false, resetting := false, cause := cause, degraded := degraded, bootStud := stud,
      bootCore := core, bootBay := cached.headD 0, joinSt := b2n (!joinedMode s.mode || fr.refused),
      ring := { fr.ring with ready := true }, aplic := { fr.aplic with locked := true } }
    let s := (s.homesOf f).foldl (fun s h => s.setHome h { s.home h with stopped := false }) s
    (portsOf s.mode f).foldl (fun s p => s.raisePort p true) s
  else
    let s := bays.foldl (fun s n => if (s.stud n).state = 0 then s.setStud n { s.stud n with state := 3 } else s) s
    let s := { s with cores := s.cores.filter (fun e => s.frameOfCore e.1 != f) }
    let s := s.setFrame f { fr with resetting := false, booted := false, degraded := degraded }
    (portsOf s.mode f).foldl (fun s p => s.raisePort p false) s

/-! ## The end of channel training (R217, R218, R234 to R237) -/

/-- Step 8 of R432 finds a quadrant without an active channel: the frame is not booted (R46): its ports are
held in reset (R48), and it votes as such (R50). -/
def State.unboot (s : State) (f : Nat) : State :=
  let s := (studsOf s.mode f).foldl (fun s n => s.setStud n { s.stud n with state := 3 }) s
  let s := ((studsOf s.mode f).flatMap coresOf).foldl (fun s c => s.setCore c { s.core c with run := .stopped }) s
  let s := s.setFrame f { s.frame f with booted := false, topGib := 0, sGib := 0 }
  let s := (portsOf s.mode f).foldl (fun s p =>
    (if (s.port p).pers = 3 then s else s.setPort p (s.port p).wiped).raisePort p false) s
  (s.postAll (bootReport 1 0 4 f f)).countAll

/-- The capacity of a frame of n channels in each quadrant, of gib GiB each: S and the top (R30, R357). -/
def State.setDram (s : State) (f n gib rate : Nat) : State :=
  let sg := (quadsOf s.mode f).length * n * gib
  let top := if sg ≤ 3 then sg else min (sg + 1) 8192
  s.setFrame f { s.frame f with trained := true, sGib := sg, topGib := top, nCh := n, perCh := gib * 2 ^ 24, rate := rate }

/-- DRAM of a frame beyond the addressable range is reported (R30, R418). -/
def State.beyondReport (s : State) (f sg : Nat) : State :=
  if 8192 < sg + 1 then s.post [f] (bootReport 1 0 6 f (sg + 1 - 8192)) else s

/-- Training of a frame ends for the first time (R217, R218, R234). -/
def State.firstTraining (s : State) (f : Nat) (res : Nat → TrainRes) : State :=
  let (kept, n, rate) := keptChans s.mode f res
  let gib := (res (kept.headD 0)).gib
  let s := (chansOf s.mode f).foldl (fun s c =>
    let r := res c
    if kept.contains c then s.activate c r rate
    else
      let st := if r.mods.isEmpty then 0 else if r.meets && !r.passed then 4 else 3
      let s := s.setChan c { s.chan c with st := st, res := r, rate := 0, saved := false, clearDone := false }
      if r.mods.isEmpty then s else s.post [f] (bootReport 5 c 5 f 0)) s
  let s := s.setFrame f { s.frame f with trained := true }
  if n = 0 then s.unboot f else ((s.setDram f n gib rate).zeroEdges f).beyondReport f (kept.length * gib)

/-- A channel that kept its DRAM is active again: its ranks leave self-refresh; one that failed the quick check was trained in full. -/
def State.restoreChan (s : State) (c : Nat) (r : Option TrainRes) : State :=
  let k := s.chan c
  if k.st = 1 then s.setChan c { k with st := 2, ranks := [], saved := r.elim k.saved (·.saved) } else s

/-- The training in full of a channel that keeps DRAM has failed too (R235): without it the placement of R219 changes, and the frame's
DRAM is trained and cleared anew; channels that were EXCLUDED or FAILED stay so (R236; DESIGN CHOICE, log entry 21). -/
def State.retrainDram (s : State) (f : Nat) (res : List (Nat × TrainRes)) : State :=
  let was (c : Nat) : Bool := (s.chan c).st == 1
  let t := s.firstTraining f (fun c => if was c then (Tab.find res c).getD { (s.chan c).res with passed := true } else {})
  ((chansOf s.mode f).filter (fun c => !was c)).foldl (fun t c =>
    let t := t.setChan c { s.chan c with st := (s.chan c).st }
    if (s.chan c).st = 0 then t else t.post [f] (bootReport 5 c 5 f 0)) t

/-- The channels of a frame that kept their DRAM are active again (R236). -/
def State.restoreDram (s : State) (f : Nat) (res : List (Nat × TrainRes)) : State :=
  if (chansOf s.mode f).any (fun c => (s.chan c).st == 1 && (Tab.find res c).any (fun r => !r.passed)) then s.retrainDram f res
  else
  let s := (chansOf s.mode f).foldl (fun s c => s.restoreChan c (Tab.find res c)) s
  let l := (chansOf s.mode f).filter (fun c => (s.chan c).st == 2)
  let n := (quadsOf s.mode f).foldl (fun n q => min n (s.activeChans q).length) 4
  let s := ((chansOf s.mode f).filter (fun c => (s.chan c).st == 3 || (s.chan c).st == 4)).foldl
    (fun s c => s.post [f] (bootReport 5 c 5 f 0)) s
  if n = 0 then s.unboot f
  else (s.setDram f n (s.chan (l.headD 0)).res.gib (s.chan (l.headD 0)).rate).beyondReport f (l.length * (s.chan (l.headD 0)).res.gib)

/-- What measurement block 16 + f holds of frame f: FRAME_INFO, FRAME_DRAM and the PORT_CFG of its ports (R450). -/
def State.measureFrame (s : State) (f : Nat) : State :=
  let l := (s.frameInfo f).toNat :: (s.frameDram f).toNat :: (portsOf s.mode f).map (fun p => (s.portRead p 0x100).toNat)
  s.setFrame f { s.frame f with meas := l }

/-- CHANNEL_TRAINING_DONE (R234 to R236): the first training after power-on, or the restore after a reset that kept
DRAM. -/
def execChannelTrainingDone (f : FrameId) (res : List (Nat × TrainRes)) (s : State) : Res :=
  let fr := s.frame f
  if !(framesOf s.mode).contains f.val ∨ !fr.booted ∨ fr.topGib ≠ 0 then .next s
  else if fr.trained then .next ((s.restoreDram f res).measureFrame f)
  else .next ((s.firstTraining f (fun c => Tab.get res {} c)).measureFrame f)

/-! ## The release of the boot hart (R407, R418, R436, R439, R440, R442) -/

/-- The boot firmware and the handoff block in the boot bay's bench. -/
def State.loadBench (s : State) (f cause minSvn : Nat) : State :=
  let fr := s.frame f
  let b := fr.bootBay
  let s := s.setBench b 8
  let fw := s.plumb.running.comp 3
  let v := s.plumb.running
  let fused (n : Nat) : List Byte := bytesOf 1 (32 - popCount (s.stud n).cores)
  let hand := bytesOf 2 1 ++ bytesOf 1 cause ++ bytesOf 1 f ++ bytesOf 1 s.mode ++ bytesOf 1 s.ownPkg ++
    bytesOf 2 s.scribe.bootNo ++ bytesOf 8 (s.frameInfo f).toNat ++ bytesOf 1 v.major ++ bytesOf 1 v.minor ++ bytesOf 2 v.build ++
    bytesOf 1 (s.plumb.flash.booted + 128 * b2n s.plumb.flash.fallback) ++ bytesOf 1 minSvn ++ bytesOf 2 0 ++ bytesOf 4 fw.length ++
    bytesOf 4 0 ++ bytesOf 48 (Config.sha384 fw).toNat ++ (studsOf s.mode f).flatMap fused
  { s with mem := Mem.putList (Mem.putList s.mem (keyBench b 0) fw) (keyBench b 0x1FF0000) hand }

/-- The conditions of R418 that concern frame f as its boot hart is released. -/
def State.bootReports (s : State) (f : Nat) : List Word :=
  let bays := studsOf s.mode f
  let all := (framesOf s.mode).flatMap (studsOf s.mode)
  let bad := (framesOf s.mode).filter (fun g => !s.isBooted g)
  let links := bays.filter (fun n => (s.tenon n).st == 2 && (decide (8 < popCount (s.tenon n).up.retired) || decide (8 < popCount (s.tenon n).dn.retired)))
  -- every degraded or unbooted frame is told to each frame that boots (R47)
  (all.filter (fun n => (s.stud n).state == 1)).map
    (fun n => bootReport 3 n 1 (s.frameOfStud n) (min (s.tenon n).up.width (s.tenon n).dn.width)) ++
  bays.flatMap (fun n => ((List.range 32).filter (fun c => !bitOf (s.stud n).cores c)).map (fun c => bootReport 3 n 2 f c)) ++
  (all.filter (fun b => (s.home b).arrayFail)).map (fun b => bootReport 4 b 3 (s.frameOfStud b) 0) ++
  bad.map (fun g => bootReport 1 0 4 f g) ++
  ((portsOf s.mode f).filter s.holdsPort).map (fun p => bootReport 7 p 8 f p) ++
  links.map (fun n => bootReport 6 n 10 f (max (popCount (s.tenon n).up.retired) (popCount (s.tenon n).dn.retired))) ++
  links.map (fun n => degradedNotice n (s.tenon n))

/-- Purlin ports of a booted frame of a Joined mode whose count fails R33: it runs Solo (R43). -/
def State.countCheck (s : State) (f : Nat) : State :=
  if joinedMode s.mode ∧ !purlinCountOk s.mode (countPers (fun p => (s.port p).pers) (portsOf s.mode f) 4) then s.refuseJoin f 6
  else s

/-- Steps 6 and 7 of R432, 7 and 8 of R444: the bench, the release, the notices of the boot. -/
def State.releaseFrame (s : State) (f cause : Nat) (extra : List (Nat × Nat × Nat)) : State :=
  let svn := if !s.plumb.running.dbg then max s.plumb.minSvn s.plumb.running.svn else s.plumb.minSvn
  let s := (s.countCheck f).loadBench f cause svn
  let fr := s.frame f
  let s := s.releaseCore (32 * fr.bootStud + fr.bootCore)
  let s := s.setFrame f { s.frame f with fatal := none }
  let s := match fr.fatal with
    | some n => s.post [f] n
    | none => s
  let s := { s with plumb := { s.plumb with minSvn := svn },
                    pins := { s.pins with errorN := (framesOf s.mode).all (fun g => !(s.frame g).halted) } }
  let s := (s.bootReports f).foldl (fun s n => s.post [f] n) s
  let s := extra.foldl (fun s e => s.post [f] (bootReport e.1 0 e.2.1 f e.2.2)) s
  s.countAll.measureFrame f

/-! ## Package resets (R40, R42 to R44, R432, R436, R437) -/

/-- Step 2 of R432: TRY, BOOTED, then the other slot (R437). It answers whether a slot passed. -/
def State.chooseSlot (s : State) : State × Bool :=
  let fl := s.plumb.flash
  let pass (i : Nat) : Option Bundle := (Tab.find fl.slots i).bind (fun b => if b.verifies s.plumb.minSvn then some b else none)
  let run (s : State) (fl : Flash) (b : Bundle) : State :=
    { s with plumb := { s.plumb with flash := fl, running := b, dbgOpen := b.dbg, recovery := false } }
  match fl.try_.bind (fun t => (pass t).map (fun b => (t, b))) with
  | some (t, b) => (run s { fl with booted := t, try_ := none } b, true)
  | none =>
    let fl := { fl with try_ := none, fallback := fl.fallback || fl.try_.isSome }
    match pass fl.booted, pass (1 - fl.booted) with
    | some b, _ => (run s fl b, true)
    | none, some b => (run s { fl with booted := 1 - fl.booted } b, true)
    | none, none => ({ s with plumb := { s.plumb with flash := fl, recovery := true } }, false)

/-- Plumb reads the mode record: copies whose CRC is not valid are known (R40). -/
def State.readModes (s : State) (env : BootEnv) : State :=
  let fl := s.plumb.flash
  let modes : Map ModeCopy := fl.modes.map (fun (e : Nat × ModeCopy) =>
    (e.1, { e.2 with bad := e.2.bad || env.modeBad.any (fun i => i.val == e.1) }))
  { s with plumb := { s.plumb with flash := { fl with modes := modes } } }

/-- The mode of the newest valid copy of the record, if the ALLOWED mask permits it (R40). -/
def State.recordMode (s : State) : Option Nat :=
  s.plumb.flash.mode.bind (fun v => if v.mode ≤ 11 ∧ bitOf s.plumb.running.modeCfg.2 v.mode then some v.mode else none)

/-- The mode of a record that is rejected: of the newest valid copy, else of the newest one (R40, R418; log entry 39). -/
def State.rejectedMode (s : State) : Option Nat :=
  if s.recordMode.isSome then none
  else match s.plumb.flash.mode with
    | some v => some v.mode
    | none => (s.plumb.flash.modes.foldl (fun (a : Option ModeCopy) (e : Nat × ModeCopy) =>
        match a with
        | some v => if v.seq < e.2.seq then some e.2 else a
        | none => some e.2) none).map (·.mode)

/-- The frames under a new mode: a frame counts as trained where every quadrant of it was. -/
def State.reframe (s : State) (m : Nat) : Map Frame :=
  (framesOf m).foldl (fun t f =>
    let fr := s.frame f
    let trained := (quadsOf m f).all (fun q => (s.frame (frameOfQuad s.mode q)).trained)
    let keep : Frame := { fr.wiped with trained := trained, resetting := false, coreResets := [], refused := false }
    Tab.set t f keep) []

/-- Steps 1 to 4 of R44: the mode, the frames, the personalities, the straps. -/
def State.applyMode (s : State) (straps : Nat) : State :=
  let m := s.recordMode.getD s.plumb.running.modeCfg.1
  let frames := s.reframe m
  let s := { s with
    frames := frames, pins := { s.pins with straps := straps % 8 },
    plumb := { s.plumb with active := m, pendMode := m, modeSrc := if s.recordMode.isSome then 1 else 2, pkgId := straps % 8 } }
  let s := (List.range 8).foldl (fun s p =>
    let r := s.storedPers p
    s.setPort p { s.port p with pers := r.pers, lanes := r.lanes, rec_ := r.rec_ }) s
  (framesOf m).foldl (fun s f =>
    if (s.frame f).trained then s
    else (chansOf m f).foldl (fun s c => s.setChan c { s.chan c with st := 1, clearDone := false }) s) s

/-- Every domain ON, with its rail (R374). -/
def State.domainsOn (s : State) : State :=
  { s with power := { s.power with
      domState := [], votes := [], woken := [],
      domVolt := (List.range 30).foldl (fun m d => Tab.put m 0 d (domRail d)) [] } }

/-- What every frame is told of the whole package at a boot: a rejected mode record, a replaced repair map, a lost
Scribe image (R418). -/
def State.packageReports (s : State) (env : BootEnv) (cold : Bool) : List (Nat × Nat × Nat) :=
  (match s.rejectedMode with
   | some m => [(1, 7, m)]
   | none => []) ++
  (if cold ∧ env.mapBad then [(6, 11, 0)] else []) ++ (if cold ∧ env.imageBad.length = 2 then [(11, 12, 0)] else [])

/-- Steps 3 to 7 and 9 of R432 for every frame at once. -/
def State.bootAll (s : State) (env : BootEnv) (cause : Nat) (extra : List (Nat × Nat × Nat)) : State :=
  let s := s.domainsOn
  let s := (framesOf s.mode).foldl (fun s f => s.prepareFrame f env cause) s
  (((framesOf s.mode).filter s.isBooted).foldl (fun s f => s.releaseFrame f cause extra) s).countAll

/-- A boot past step 2 (R399, R432, R492): held while a die is hot after a cold reset, else run to the release. -/
def State.finishBoot (s : State) (env : BootEnv) (offExit : Bool) : State :=
  if env.hot ≠ [] ∧ !offExit then
    { s with plumb := { s.plumb with hot := env.hot, heldEnv := { env with hot := [] }, offExit := offExit },
             pins := { s.pins with thermtripN := false } }
  else
    let s := s.readModes env
    let extra := s.packageReports env true
    let s := { s with plumb := { s.plumb with hot := [], heldEnv := {}, offExit := false, waitRstN := false },
                      pins := { s.pins with thermtripN := true } }
    ((s.pkgEvent (b2n offExit)).applyMode env.straps).bootAll env (b2n offExit) extra

/-- What the journal device restores: the repair map, the newest image whose CRC passes, the line log and the boot
number (R204, R422, R427). -/
def State.loadJournal (s : State) (env : BootEnv) : State :=
  let jm := if env.mapBad then [] else s.plumb.journalMap
  let tenons : Map Tenon := jm.map (fun e => (e.1, { up := { retired := e.2.up, spare := e.2.upSp }, dn := { retired := e.2.dn, spare := e.2.dnSp } }))
  let sc := s.scribe
  let slots := sc.slots.filter (fun e => !env.imageBad.contains e.1)
  let img := slots.foldl (fun (a : Option JImage) e => match a with
    | some x => if x.seq < e.2.seq then some e.2 else a
    | none => some e.2) none
  let no := (sc.jBoot + 1) % 65536
  let base : Scribe := { sc with slots := slots, bootNo := no, jBoot := no, log := sc.jLog, logSeq := sc.jLogSeq }
  let scribe : Scribe := match img with
    | none => base
    | some i =>
      let record (k : Nat) (h : Nat × Nat × Word × Word × Nat) : Rec :=
        { bins := Tab.get i.bins [] k, samples := h.1, missed := h.2.1, upd := h.2.2.1, clr := h.2.2.2.1, flags := h.2.2.2.2 }
      { base with
        recs := i.heads.map (fun e => (e.1, record e.1 e.2)),
        counts := i.log0.map (fun e => (e.1, { n := e.2.take 5, stamp := BitVec.ofNat 64 (e.2.getD 5 0) })),
        imageSeq := i.seq }
  let s := { s with tenons := tenons, scribe := scribe, plumb := { s.plumb with journalMap := jm } }
  -- an empty map in place of one with a bad CRC is reported to Scribe (R204; class DEDUCED, log entry 33)
  if env.mapBad then s.report { cls := 0, src := 11, code := 0x3A, inst := 0 } else s

/-- Steps 1 and 2 of R432, and what follows them. -/
def State.startD0 (s : State) (env : BootEnv) (offExit : Bool) : State :=
  let s := s.persistent.loadJournal env
  let env := { env with imageBad := if s.scribe.slots.isEmpty then [0, 1] else [] }
  let s := { s with
    plumb := { s.plumb with on := true },
    power := { s.power with throttle := !s.pins.throttleN, domVolt := [(0, 750)],
                            domState := (List.range 29).foldl (fun m d => Tab.set m (d + 1) 4) [] },
    pins := { s.pins with pwrgood := true, vaux := true, driven := true } }
  let (s, ok) := s.chooseSlot
  if !ok then { s with plumb := { s.plumb with heldEnv := env, offExit := offExit } }
  else if !s.pins.resetN then { s with plumb := { s.plumb with waitRstN := true, heldEnv := env, offExit := offExit } }
  else s.finishBoot env offExit

/-- PWRGOOD_DEASSERT (R431): held in cold reset at once; nothing is flushed. -/
def execPwrgoodDeassert (s : State) : Res :=
  let s := s.persistent
  .next { s with pins := { s.pins with pwrgood := false } }

/-- COLD_RESET (R432): PWRGOOD asserted after being deasserted. -/
def execColdReset (env : BootEnv) (s : State) : Res :=
  if s.pins.pwrgood then .next s else .next (s.startD0 env false)

/-- EXIT_FROM_OFF (R447): WAKE_N held low in OFF. -/
def execExitFromOff (env : BootEnv) (s : State) : Res :=
  if !s.off then .next s else .next (s.startD0 env true)

/-- SENSOR_SAMPLE (R397 to R399): while a hot package is held, dies that have cooled to 90 °C leave the hold. -/
def execSensorSample (n : Fin 16) (temps : List Int) (s : State) : Res :=
  if !s.live ∨ s.power.trip then .next s
  else
    let s := s.sensorSample n temps
    let hot := if temps.all (fun t => decide (t ≤ 9000)) then s.plumb.hot.filter (· != n.val) else s.plumb.hot
    if s.plumb.hot = [] then .next s
    else
      let s := { s with plumb := { s.plumb with hot := hot } }
      if hot ≠ [] then .next s
      else if !s.pins.resetN then
        .next { s with plumb := { s.plumb with waitRstN := true }, pins := { s.pins with thermtripN := true } }
      else .next (s.finishBoot s.plumb.heldEnv false)

/-! ## The package warm reset (R443) -/

/-- A boot is under way that has not passed step 2, or waits before it goes on. -/
def State.bootHeld (s : State) : Bool := s.plumb.recovery || s.plumb.waitRstN || !s.plumb.hot.isEmpty

/-- Step 1 ends every command, its reply discarded; a mode-record write in progress completes (R40). -/
def State.endCommands (s : State) : State :=
  let s := s.plumb.jobs.foldl (fun s j => if j.opcode = 0x10 ∧ j.running then (s.finSetMode j {}).1 else s) s
  let s := s.fwClose
  { s with plumb := { s.plumb with jobs := [], dead := [] } }

/-- RESET_N_ASSERT (R443, steps 1 to 3): cores stopped, links down, DRAM kept. -/
def execResetNAssert (s : State) : Res :=
  let was := s.pins.resetN
  let s := { s with pins := { s.pins with resetN := false } }
  if !was ∨ !s.live ∨ s.power.trip ∨ s.bootHeld then .next s
  else
    let s := (framesOf s.mode).foldl State.wipeFrame s.endCommands
    let s := (List.range 8).foldl (fun s p =>
      let s := if (s.port p).pers = 3 then s.loseTransport (dtInst p) else s
      s.setPort p (s.port p).wiped) s
    .next { s with threshold := 0x0A0A10, sel := {} }

/-- RESET_N_DEASSERT (R437, R443, R492): the warm reset goes on at step 4, or a boot that waited resumes. -/
def execResetNDeassert (env : BootEnv) (s : State) : Res :=
  let was := s.pins.resetN
  let s := { s with pins := { s.pins with resetN := true } }
  if was ∨ !s.live ∨ s.power.trip then .next s
  else if s.plumb.waitRstN then .next (s.finishBoot s.plumb.heldEnv s.plumb.offExit)
  else if s.plumb.recovery then
    let (s, ok) := s.chooseSlot
    .next (if ok then s.finishBoot { env with mapBad := s.plumb.heldEnv.mapBad, imageBad := s.plumb.heldEnv.imageBad } s.plumb.offExit else s)
  else if s.plumb.hot ≠ [] then .next s
  else
    let (s, ok) := if s.plumb.flash.try_.isSome then s.chooseSlot else (s, true)
    if !ok then .next { s with plumb := { s.plumb with heldEnv := {}, offExit := false } }
    else
      let s := (s.pkgEvent 2).readModes env
      let extra := s.packageReports env false
      .next ((s.applyMode env.straps).bootAll env 2 extra)

/-! ## The core reset (R446, R452) -/

/-- A core reset begins: a core that runs drains, one in DEEP wakes first, one that is held is reset at once. -/
def State.beginCoreReset (s : State) (c : Nat) : State :=
  let k := s.core c
  let st := s.stud (c / 32)
  match k.run with
  | .stopped => s
  | .held => s.coreResetEnd c
  | .entering .ap4 => s.setCore c { k with resetting := true, wake := true }
  | .deep =>
    let s := s.setCore c { k with resetting := true, wake := true }
    if st.held ∨ st.testing then s else s.wakeCore c
  | .sleep => (s.setCore c { k with resetting := true }).wakeCore c
  | _ => s.setCore c { k with resetting := true, run := .entering .ap1, waiting := .nothing }

/-- CORE_RESET (R446): the debug module's hart reset, while DBG is open (R448). -/
def execCoreReset (c : CoreId) (s : State) : Res :=
  let f := s.frameOfCore c
  let fr := s.frame f
  if !s.live ∨ !s.plumb.dbgOpen then .next s
  else if fr.resetting then .next (s.setFrame f { fr with coreResets := listAdd fr.coreResets c })
  else if !fr.booted ∨ fr.halted then .next s
  else .next (s.beginCoreReset c)

/-! ## FRAME_RESET (R326, R329, R444) -/

/-- The frame whose part a resource is (R325). -/
def State.resFrame (s : State) (r : Nat) : Option Nat :=
  if 0x10 ≤ r ∧ r < 0x10 + 12 then some (s.frameOfStud (r - 0x10))
  else if 0x40 ≤ r ∧ r < 0x40 + 12 then some (s.frameOfStud (r - 0x40))
  else if 0x60 ≤ r ∧ r < 0x60 + 8 then some (s.frameOfPort (r - 0x60))
  else if 0x3000 ≤ r ∧ r < 0x3004 then some (r - 0x3000)
  else none
/-- The frame that a power setting or an export table belongs to, of a command that names it in its parameters (R273, R331, R332). -/
def State.namedFrame (s : State) (j : Job) : Option Nat :=
  let a := j.pkt.byte 0
  match j.opcode with
  | 0x20 => if a = 1 then some (j.pkt.byte 1) else none
  | 0x22 => if 2 ≤ a ∧ a < 14 then some (s.frameOfStud (a - 2)) else none
  | 0x23 => if a < 12 then some (s.frameOfStud a) else none
  | 0x64 => some (j.pkt.byte 1)
  | _ => none
/-- A job acts on the resources of frame f; a reset of the frame does not count. -/
def State.actsOn (s : State) (f : Nat) (j : Job) : Bool :=
  j.opcode != 0x12 && (j.res.any (fun r => s.resFrame r == some f) || s.namedFrame j == some f)

/-- FRAME_RESET begins: the frame's ring commands are abandoned, commands on its resources end with ABORTED, and the
frame is wiped. -/
def State.cmdFrameReset (s : State) (j : Job) : Ans :=
  let f := j.pkt.byte 0
  let st := s.frameField j.t f
  if st = stDenied then s.no stDenied 0
  else
    s.unless (j.pkt.bad (offs 1 8) [(0, st == stOk)])
      (let own : TInst := { kind := .ring, inst := f }
       let hit := s.plumb.jobs.filter (fun k => k.t != own && s.actsOn f k)
       let s := hit.foldl (fun s k => s.finalReply k stAborted 0 []) s
       let s := { s with plumb := { s.plumb with jobs := s.plumb.jobs.filter (fun k => k.t != own || opFlash k.opcode || k.same j) } }
       let s := ((s.setFrame f { s.frame f with resetting := true }).wipeFrame f).countAll
       ((portsOf s.mode f).foldl State.framePort s).runs)

/-- FRAME_RESET ends: steps 6 to 8; HW_FAULT where the frame is not booted. -/
def State.finFrameReset (s : State) (j : Job) (fin : FinishIn) : State × Nat × List Byte :=
  let f := j.pkt.byte 0
  let waits := (s.frame f).coreResets
  let s := s.prepareFrame f fin.env 3
  if !s.isBooted f then
    ((((framesOf s.mode).filter (fun g => g != f)).foldl (fun s g => s.post [g] (bootReport 1 0 4 g f)) s).countAll, stHwFault, [])
  else
    let s := (s.pkgEvent 3).releaseFrame f 3 []
    let s := s.setFrame f { s.frame f with coreResets := [] }
    (waits.foldl State.beginCoreReset s, stOk, [])

/-! ## STUD_RESET (R330, R445) -/

/-- The stud is quiet enough for a reset (R330). -/
def State.studQuiet (s : State) (n : Nat) : Bool :=
  (s.stud n).state == 1 || (s.frame (s.frameOfStud n)).halted || (s.allDeep n && (s.tenon n).st == 3)

/-- STUD_RESET. -/
def State.cmdStudReset (s : State) (j : Job) : Ans :=
  let n := j.pkt.byte 0
  let st := s.studField j.t n
  if st = stDenied then s.no stDenied 0
  else
    s.unless (j.pkt.bad (offs 1 8) [(0, st == stOk)])
      (if !s.studQuiet n then s.no stBusy 0 else (s.wipeStud n (s.stud n).held).runs)

/-- STUD_RESET ends: RUNNING with its cores held, or FAILED. -/
def State.finStudReset (s : State) (j : Job) (fin : FinishIn) : State × Nat × List Byte :=
  let n := j.pkt.byte 0
  let s := (s.pkgEvent 4).raiseStud n fin.env 4 true
  (s, if (s.stud n).state = 0 then stOk else stHwFault, [])

/-! ## CHECKER_SELFTEST (R333, R411) -/

/-- A stud fails in a running frame: its cores stop. Its link keeps its state, which only the events of R203 change. -/
def State.studFails (s : State) (n : Nat) : State :=
  let s := s.setStud n { s.stud n with state := 1 }
  let s := { s with cores := s.cores.filter (fun e => e.1 / 32 != n) }
  s.post [s.frameOfStud n] (bootReport 3 n 1 (s.frameOfStud n) (min (s.tenon n).up.width (s.tenon n).dn.width))

/-- A core fused off in a running frame (R123, R411). -/
def State.fuseCore (s : State) (c : Nat) : State :=
  let st := s.stud (c / 32)
  if !bitOf st.cores (c % 32) then s
  else
    let s := s.setStud (c / 32) { st with cores := st.cores - 2 ^ (c % 32) }
    let s := { s with cores := s.cores.filter (fun e => e.1 != c) }
    s.post [s.frameOfCore c] (bootReport 3 (c / 32) 2 (s.frameOfCore c) (c % 32))

/-- A stud's self-test ends. -/
def State.finStudTest (s : State) (n : Nat) (env : BootEnv) : State × List Byte :=
  let cf := envCores env n
  let kinds := (cf.flatMap (·.2)).map (32 + ·)
  let bits := maskOf ((cf.map (fun x => x.1 % 32)) ++ kinds.filter (fun k => decide (k < 37)) ++ envStud env n)
  let s := s.countCheckers (coreCodes cf ++ (envStud env n).map studCode)
  let s := s.setStud n { s.stud n with testing := false }
  let s := cf.foldl (fun s x => s.fuseCore x.1) s
  let s := if envStud env n ≠ [] ∨ (s.stud n).cores = 0 then s.studFails n else s
  (s, bytesOf 8 bits)

/-- A bay's self-test ends: a failure that would keep the frame from booting is fatal to it at once. -/
def State.finBayTest (s : State) (b : Nat) (env : BootEnv) : State × List Byte :=
  let l := envBay env b
  let f := s.frameOfStud b
  let s := s.countCheckers (l.map bayCode)
  let s := if l.any (fun k => decide (k < 2)) then
      (s.setHome b { s.home b with arrayFail := true }).post [f] (bootReport 4 b 3 f 0)
    else s
  let s := if l.contains 7 then s.studFails b else s
  let s := match l.find? bayFatal with
    | some k =>
      let s := s.fatal f { cls := 4, src := 4, code := bayCode k, inst := b }
      ((framesOf s.mode).filter (fun g => g != f)).foldl (fun s g => s.post [g] (bootReport 1 0 4 g f)) s
    | none => s
  (s, bytesOf 8 (maskOf l))

/-- CHECKER_SELFTEST ends. -/
def State.finSelftest (s : State) (j : Job) (fin : FinishIn) : State × Nat × List Byte :=
  let (s, p) := if j.pkt.byte 0 = 0 then s.finStudTest (j.pkt.byte 1) fin.env else s.finBayTest (j.pkt.byte 1) fin.env
  (s, stOk, p)

end Sys2Proof.Machine
end

