-- ==== Sys2Proof/Machine/Commands.lean ====
section
/-! DEFINITION. Plumb takes commands (R313 to R328): the start and the end of each opcode, waiting and aborting, the
transports' slots, and Plumb's own restart (R404). Every opcode's row is one packet that arrives on a transport
instance. -/

namespace Sys2Proof.Machine

/-! ## What an opcode does as it starts and as it ends -/

/-- ABORT is answered by `State.abortTag`; every other opcode's own checks and effect. -/
def State.startOp (s : State) (j : Job) : Ans :=
  match j.opcode with
  | 0x01 => s.cmdGetInfo j
  | 0x02 => s.cmdGetStatus j
  | 0x04 => s.cmdEcho j
  | 0x10 => s.cmdSetMode j
  | 0x11 => s.cmdGetMode
  | 0x12 => s.cmdFrameReset j
  | 0x13 => s.cmdStudReset j
  | 0x20 => s.cmdSetPowerCap j
  | 0x21 => s.cmdGetPower j
  | 0x22 => s.cmdSetDomain j
  | 0x23 => s.cmdSetPerf j
  | 0x24 => s.cmdSetCooling j
  | 0x25 => s.cmdGetThermal j
  | 0x30 => s.cmdScrub j
  | 0x31 => s.cmdInject j
  | 0x32 => s.cmdSelftest j
  | 0x33 => s.cmdErrorLog j
  | 0x34 => s.cmdTrainSave j
  | 0x40 => s.cmdBayLock j
  | 0x41 => s.cmdBayUnlock j
  | 0x42 => s.cmdBench j
  | 0x43 => s.cmdBayFlush j
  | 0x44 => s.cmdBayInvalidate j
  | 0x50 => s.cmdScribeFreeze j
  | 0x51 => s.cmdScribeThaw
  | 0x52 => s.cmdScribeRead j
  | 0x53 => s.cmdScribeClear j
  | 0x54 => s.cmdScribeFlush
  | 0x60 => s.cmdLinkStatus j
  | 0x61 => s.cmdTenonMap j
  | 0x62 => s.cmdRetrain j
  | 0x63 => s.cmdPersonality j
  | 0x64 => s.cmdExport j
  | 0x70 => s.cmdFwBegin j
  | 0x71 => s.cmdFwChunk j
  | 0x72 => s.cmdFwCommit j
  | 0x73 => s.runs
  | _ => s.no stBadOpcode 0

/-- The end of an opcode that has run. -/
def State.finishOp (s : State) (j : Job) (fin : FinishIn) : State × Nat × List Byte :=
  match j.opcode with
  | 0x10 => s.finSetMode j fin
  | 0x12 => s.finFrameReset j fin
  | 0x13 => s.finStudReset j fin
  | 0x22 => s.finSetDomain j
  | 0x30 => s.finScrub j fin
  | 0x32 => s.finSelftest j fin
  | 0x34 => s.finTrainSave j fin
  | 0x40 => s.finBayLock j
  | 0x42 => s.finBench j
  | 0x43 => s.finBayFlush j
  | 0x44 => s.finBayInvalidate j
  | 0x54 => (s.flushEnd fin.hwOk, if fin.hwOk then stOk else stHwFault, [])
  | 0x62 => s.finRetrain j fin
  | 0x63 => s.finPersonality j fin
  | 0x70 => s.finFwBegin fin
  | 0x71 => s.finFwChunk j fin
  | 0x72 => s.finFwCommit fin
  | 0x73 => s.finAttest j fin
  | _ => (s, stOk, [])

/-- The end of a running command can come: work on a bay's arrays is done, RIDGE_EXPORT waits for requests looked up before,
SCRIBE_FLUSH for its flush; no boot-flash write is made after PWRFAIL_N but one in progress (R138, R143, R273, R333, R367,
R425). -/
def State.ready (s : State) (j : Job) : Bool :=
  match j.opcode with
  | 0x22 | 0x40 | 0x42 | 0x43 => s.workDone (s.workBays j)
  | 0x54 => s.flushAnswers
  | 0x64 => !s.ridgeBusy (j.pkt.byte 1)
  | op => !(opFlash op && s.power.pwrfail && !j.early)

/-- What a command that ends before its own end leaves: the part of a scan it has done (R323), a session closed, a self-test or a reset no
longer running. -/
def State.dropped (s : State) (j : Job) : State :=
  match j.opcode with
  | 0x12 => let f := j.pkt.byte 0; s.setFrame f { s.frame f with resetting := false, coreResets := [] }
  | 0x22 =>
    let d := j.pkt.byte 0
    let held := (framesOf s.mode).any (fun g => Tab.get s.power.votes 0 (4 * d + g) == 2)
    (if 2 ≤ d ∧ d < 14 then s.setStud (d - 2) { s.stud (d - 2) with held := held } else s).endAll j
  | 0x40 | 0x42 | 0x43 => s.endAll j
  | 0x30 => (s.abortScrub j).1
  | 0x32 => if j.pkt.byte 0 = 0 then s.setStud (j.pkt.byte 1) { s.stud (j.pkt.byte 1) with testing := false } else s
  | 0x70 | 0x72 => s.fwClose
  | _ => s

/-! ## Taking, waiting and ending (R314, R321, R323, R325) -/

/-- The jobs taken before j. -/
def State.earlier (s : State) (j : Job) : List Job := s.plumb.jobs.takeWhile (fun k => !k.same j)

/-- A job ends with its final reply. -/
def State.endJob (s : State) (j : Job) (status detail : Nat) (payload : List Byte) : State :=
  let s := (if j.running then s.markBusy j false else s).finalReply j status detail payload
  if j.opcode = 0x42 then s.benchHold (j.pkt.byte 0) else s

/-- The refusals that come before an opcode's own checks: recovery (R437), package scope (R41), a frame that is being
reset (R326). -/
def State.barred (s : State) (j : Job) : Option Nat :=
  if s.plumb.recovery ∧ !recoveryOk j.opcode then some stWrongMode
  else if opPackage j.opcode ∧ (s.scopeOf j.t).isSome then some stDenied
  else if (framesOf s.mode).any (fun f => (s.frame f).resetting && s.actsOn f j) then some stAborted
  else none

/-- A job starts: its checks, and its effect or its final reply. A long command that runs on is answered ACCEPTED
first, unless it was while it waited (R323); SET_MODE and PORT_PERSONALITY answer so before their checks (R38, R283). -/
def State.startJob (s : State) (j : Job) (waited : Bool) : State :=
  match s.barred j with
  | some st => s.endJob j st 0 []
  | none =>
    let early := (j.opcode == 0x10 || j.opcode == 0x63) && !waited
    let s := if early then s.accepted j else s
    match s.startOp j with
    | (s', some (st, payload, detail)) => s'.endJob j st detail payload
    | (_, none) =>
      let s := if opLong j.opcode ∧ !waited ∧ !early then s.accepted j else s
      let s := (s.startOp j).1
      let run (k : Job) : Job := if k.same j then { k with running := true } else k
      ({ s with plumb := { s.plumb with jobs := s.plumb.jobs.map run } } : State).markBusy j true

/-- Waiting jobs whose resources are free start, in the order taken. -/
def State.startWaiting (s : State) (n : Nat) : State :=
  match n with
  | 0 => s
  | m + 1 =>
    match s.plumb.jobs.find? (fun j => !j.running && !j.behind (s.earlier j)) with
    | none => s
    | some j => State.startWaiting (s.startJob j true) m

/-- A job ends, and what waited for it starts. -/
def State.closeJob (s : State) (j : Job) (status : Nat) (payload : List Byte) : State :=
  let s := s.endJob j status 0 payload
  s.startWaiting s.plumb.jobs.length

/-! ## ABORT (R327) -/

/-- A running command that can be aborted ends with what it has done: a flush with the lines it has flushed. -/
def State.abortRun (s : State) (j : Job) : State × List Byte :=
  match j.opcode with
  | 0x30 => s.abortScrub j
  | _ => (s.dropped j, [])

/-- The command has passed its commit point: a flush whose every line has been written has only its reply to come (DEDUCED, log entry 25: the
spec names no commit points). -/
def State.committed (s : State) (j : Job) : Bool := j.opcode == 0x43 && s.workDone (s.workBays j)

/-- ABORT: the RESULT of the named tag of its own instance. -/
def State.abortTag (s : State) (j : Job) : State × Nat :=
  let tag := j.pkt.byte 0
  match s.plumb.jobs.find? (fun k => k.t == j.t && !k.lost && k.pkt.tag.toNat == tag && !k.same j) with
  | none => (s, 1)
  | some k =>
    if !k.running then (s.closeJob k stAborted [], 0)
    else if !opAborts k.opcode then (s, 3)
    else if s.committed k then (s, 2)
    else
      let (s, p) := s.abortRun k
      (s.closeJob k stAborted p, 0)

/-! ## A packet arrives -/

/-- Plumb takes a command packet of opcode op on transport instance t (R321): refused, started, or waiting. -/
def State.takeCmd (s : State) (t : TInst) (op : Nat) (p : CmdPkt) : State :=
  if !s.canReach t then s
  else match s.takeCheck t op p with
    | some (st, d) => s.refuseTake t op p st d
    | none =>
      let res := s.resources t op p
      -- ABORT runs at once: it never waits for its turn
      let j : Job := { t := t, opcode := op, pkt := p, res := res, taken := s.mtime.toNat, running := op == 0x03, no := s.nextNo }
      let s' := { s with plumb := { s.plumb with jobs := s.plumb.jobs ++ [j] } }
      if op = 0x03 ∧ (s'.barred j).isNone then
        let (s', r) := s'.abortTag j
        s'.endJob j stOk 0 (bytesOf 1 r)
      else if j.behind s.plumb.jobs then
        let s' := if opLong op then s'.accepted j else s'
        if op = 0x42 then s'.benchHold (p.byte 0) else s'
      else s'.startJob j false

/-! ## The rows of the opcodes (R329 to R339) -/

/-- GET_INFO (R329). -/
def execGetInfo (t : TInst) (pkt : CmdPkt) (s : State) : Res := .next (s.takeCmd t 0x01 pkt)
/-- GET_STATUS (R329). -/
def execGetStatus (t : TInst) (pkt : CmdPkt) (s : State) : Res := .next (s.takeCmd t 0x02 pkt)
/-- ABORT (R327). -/
def execAbort (t : TInst) (pkt : CmdPkt) (s : State) : Res := .next (s.takeCmd t 0x03 pkt)
/-- ECHO (R329). -/
def execEcho (t : TInst) (pkt : CmdPkt) (s : State) : Res := .next (s.takeCmd t 0x04 pkt)
/-- SET_MODE (R38). -/
def execSetMode (t : TInst) (pkt : CmdPkt) (s : State) : Res := .next (s.takeCmd t 0x10 pkt)
/-- GET_MODE (R329). -/
def execGetMode (t : TInst) (pkt : CmdPkt) (s : State) : Res := .next (s.takeCmd t 0x11 pkt)
/-- FRAME_RESET (R444). -/
def execFrameReset (t : TInst) (pkt : CmdPkt) (s : State) : Res := .next (s.takeCmd t 0x12 pkt)
/-- STUD_RESET (R445). -/
def execStudReset (t : TInst) (pkt : CmdPkt) (s : State) : Res := .next (s.takeCmd t 0x13 pkt)
/-- SET_POWER_CAP (R331). -/
def execSetPowerCap (t : TInst) (pkt : CmdPkt) (s : State) : Res := .next (s.takeCmd t 0x20 pkt)
/-- GET_POWER (R331). -/
def execGetPower (t : TInst) (pkt : CmdPkt) (s : State) : Res := .next (s.takeCmd t 0x21 pkt)
/-- SET_DOMAIN_STATE (R332). -/
def execSetDomainState (t : TInst) (pkt : CmdPkt) (s : State) : Res := .next (s.takeCmd t 0x22 pkt)
/-- SET_PERF_POLICY (R331). -/
def execSetPerfPolicy (t : TInst) (pkt : CmdPkt) (s : State) : Res := .next (s.takeCmd t 0x23 pkt)
/-- SET_COOLING (R331). -/
def execSetCooling (t : TInst) (pkt : CmdPkt) (s : State) : Res := .next (s.takeCmd t 0x24 pkt)
/-- GET_THERMAL_MODEL (R331). -/
def execGetThermalModel (t : TInst) (pkt : CmdPkt) (s : State) : Res := .next (s.takeCmd t 0x25 pkt)
/-- SCRUB_RANGE (R243). -/
def execScrubRange (t : TInst) (pkt : CmdPkt) (s : State) : Res := .next (s.takeCmd t 0x30 pkt)
/-- INJECT_ERROR (R334). -/
def execInjectError (t : TInst) (pkt : CmdPkt) (s : State) : Res := .next (s.takeCmd t 0x31 pkt)
/-- CHECKER_SELFTEST (R333, R411). -/
def execCheckerSelftest (t : TInst) (pkt : CmdPkt) (s : State) : Res := .next (s.takeCmd t 0x32 pkt)
/-- GET_ERROR_LOG (R333, R409). -/
def execGetErrorLog (t : TInst) (pkt : CmdPkt) (s : State) : Res := .next (s.takeCmd t 0x33 pkt)
/-- MEM_TRAIN_SAVE (R235). -/
def execMemTrainSave (t : TInst) (pkt : CmdPkt) (s : State) : Res := .next (s.takeCmd t 0x34 pkt)
/-- BAY_LOCK_RANGE (R138). -/
def execBayLockRange (t : TInst) (pkt : CmdPkt) (s : State) : Res := .next (s.takeCmd t 0x40 pkt)
/-- BAY_UNLOCK (R140). -/
def execBayUnlock (t : TInst) (pkt : CmdPkt) (s : State) : Res := .next (s.takeCmd t 0x41 pkt)
/-- BENCH_CONFIG (R141, R143). -/
def execBenchConfig (t : TInst) (pkt : CmdPkt) (s : State) : Res := .next (s.takeCmd t 0x42 pkt)
/-- BAY_FLUSH_RANGE (R333). -/
def execBayFlushRange (t : TInst) (pkt : CmdPkt) (s : State) : Res := .next (s.takeCmd t 0x43 pkt)
/-- BAY_INVALIDATE (R333). -/
def execBayInvalidate (t : TInst) (pkt : CmdPkt) (s : State) : Res := .next (s.takeCmd t 0x44 pkt)
/-- SCRIBE_FREEZE (R424). -/
def execScribeFreeze (t : TInst) (pkt : CmdPkt) (s : State) : Res := .next (s.takeCmd t 0x50 pkt)
/-- SCRIBE_THAW (R424). -/
def execScribeThaw (t : TInst) (pkt : CmdPkt) (s : State) : Res := .next (s.takeCmd t 0x51 pkt)
/-- SCRIBE_READ (R335). -/
def execScribeRead (t : TInst) (pkt : CmdPkt) (s : State) : Res := .next (s.takeCmd t 0x52 pkt)
/-- SCRIBE_CLEAR (R424). -/
def execScribeClear (t : TInst) (pkt : CmdPkt) (s : State) : Res := .next (s.takeCmd t 0x53 pkt)
/-- SCRIBE_FLUSH (R425). -/
def execScribeFlush (t : TInst) (pkt : CmdPkt) (s : State) : Res := .next (s.takeCmd t 0x54 pkt)
/-- LINK_STATUS (R335). -/
def execLinkStatus (t : TInst) (pkt : CmdPkt) (s : State) : Res := .next (s.takeCmd t 0x60 pkt)
/-- The packet's operation byte is the row's; a packet that names another operation is another row's. The row of operation 0 takes those
above `last` too, which no row names. -/
def State.takeOp (s : State) (t : TInst) (op sub last : Nat) (p : CmdPkt) : State :=
  if p.byte 0 = sub ∨ (sub = 0 ∧ last < p.byte 0) then s.takeCmd t op p else s
/-- TENON_MAP_READ_ONE (R213, R335): TENON_REPAIR_MAP with operation 0. -/
def execTenonMapReadOne (t : TInst) (pkt : CmdPkt) (s : State) : Res := .next (s.takeOp t 0x61 0 2 pkt)
/-- TENON_MAP_READ_ALL (R213, R335): operation 1. -/
def execTenonMapReadAll (t : TInst) (pkt : CmdPkt) (s : State) : Res := .next (s.takeOp t 0x61 1 2 pkt)
/-- TENON_MAP_CLEAR (R213, R335): operation 2. -/
def execTenonMapClear (t : TInst) (pkt : CmdPkt) (s : State) : Res := .next (s.takeOp t 0x61 2 2 pkt)
/-- LINK_RETRAIN (R336). -/
def execLinkRetrain (t : TInst) (pkt : CmdPkt) (s : State) : Res := .next (s.takeCmd t 0x62 pkt)
/-- PORT_PERSONALITY (R283). -/
def execPortPersonality (t : TInst) (pkt : CmdPkt) (s : State) : Res := .next (s.takeCmd t 0x63 pkt)
/-- RIDGE_EXPORT_WRITE (R273): operation 0. -/
def execRidgeExportWrite (t : TInst) (pkt : CmdPkt) (s : State) : Res := .next (s.takeOp t 0x64 0 3 pkt)
/-- RIDGE_EXPORT_CLEAR (R273): operation 1. -/
def execRidgeExportClear (t : TInst) (pkt : CmdPkt) (s : State) : Res := .next (s.takeOp t 0x64 1 3 pkt)
/-- RIDGE_EXPORT_READ (R273): operation 2. -/
def execRidgeExportRead (t : TInst) (pkt : CmdPkt) (s : State) : Res := .next (s.takeOp t 0x64 2 3 pkt)
/-- RIDGE_EXPORT_CLEAR_ALL (R273): operation 3. -/
def execRidgeExportClearAll (t : TInst) (pkt : CmdPkt) (s : State) : Res := .next (s.takeOp t 0x64 3 3 pkt)
/-- FW_BEGIN (R337). -/
def execFwBegin (t : TInst) (pkt : CmdPkt) (s : State) : Res := .next (s.takeCmd t 0x70 pkt)
/-- FW_CHUNK (R337). -/
def execFwChunk (t : TInst) (pkt : CmdPkt) (s : State) : Res := .next (s.takeCmd t 0x71 pkt)
/-- FW_COMMIT (R338). -/
def execFwCommit (t : TInst) (pkt : CmdPkt) (s : State) : Res := .next (s.takeCmd t 0x72 pkt)
/-- ATTEST (R451). -/
def execAttest (t : TInst) (pkt : CmdPkt) (s : State) : Res := .next (s.takeCmd t 0x73 pkt)

/-- COMMAND_CRC_FAILURE (R321, check 1). -/
def execCommandCrcFailure (t : TInst) (opcode : Byte) (pkt : CmdPkt) (s : State) : Res :=
  .next (if pkt.crcOk opcode then s else s.takeCmd t opcode.toNat pkt)
/-- BAD_OPCODE (R321, check 2). -/
def execBadOpcode (t : TInst) (opcode : Byte) (pkt : CmdPkt) (s : State) : Res :=
  .next (if (opRow opcode.toNat).isSome then s else s.takeCmd t opcode.toNat pkt)

/-! ## The ends of commands (R323) -/

/-- The oldest running job of an instance and tag. -/
def State.runningJob (s : State) (t : TInst) (tag : Nat) : Option Job :=
  s.plumb.jobs.find? (fun j => j.t == t && j.pkt.tag.toNat == tag && j.running)

/-- Package OFF after its OK (R385): a boot-flash write in progress completes, every other command ends with ABORTED,
and the package goes off. -/
def State.packageOff (s : State) (j : Job) (fin : FinishIn) : State :=
  let s := s.endJob j stOk 0 []
  let s := s.plumb.jobs.foldl (fun s k =>
    if k.running ∧ opFlash k.opcode then
      let r := s.finishOp k fin
      r.1.endJob k r.2.1 0 r.2.2
    else s.endJob k stAborted 0 []) s
  s.enterOff

/-- COMMAND_FINAL_REPLY (R323, R324): a long command that runs ends, as the hardware reports. -/
def execCommandFinalReply (t : TInst) (tag : BitVec 8) (fin : FinishIn) (s : State) : Res :=
  match s.runningJob t tag.toNat with
  | none => .next s
  | some j =>
    if !s.live ∨ !s.ready j then .next s
    else if j.opcode = 0x22 ∧ j.pkt.byte 0 = 31 then .next (s.packageOff j fin)
    else
      let r := s.finishOp j fin
      .next (r.1.closeJob j r.2.1 r.2.2)

/-- COMMAND_TIMEOUT (R323): the command has reached its bound. -/
def execCommandTimeout (t : TInst) (tag : BitVec 8) (s : State) : Res :=
  match s.runningJob t tag.toNat with
  | none => .next s
  | some j => if !s.live then .next s else .next ((s.dropped j).closeJob j stTimeout [])

/-- SCRIBE_FLUSH_END (R425): a flush ends; a SCRIBE_FLUSH that it serves ends with it. -/
def execScribeFlushEnd (ok : Bool) (s : State) : Res :=
  if !s.plumb.on then .next s
  else
    let served := s.flushAnswers
    let s := s.flushEnd ok
    match s.plumb.jobs.find? (fun j => j.opcode == 0x54 && j.running) with
    | some j => if served then .next (s.closeJob j (if ok then stOk else stHwFault) []) else .next s
    | none => .next s

/-! ## Transports (R302, R315, R326) -/

/-- TRANSPORT_LOST (R326): its commands run on without replies, and their tags are free. -/
def execTransportLost (t : TInst) (s : State) : Res := .next (if s.live then s.loseTransport t else s)

/-- A command packet in the bytes of a slot (R318). -/
def slotPkt (head : Nat) (params : List Byte) : CmdPkt :=
  { notify := bitOf head 8, tag := BitVec.ofNat 8 (bits head 23 16), len := BitVec.ofNat 13 (bits head 44 32),
    seq := BitVec.ofNat 32 (bits head 95 64), crc := BitVec.ofNat 16 (bits head 111 96), rsvdA := BitVec.ofNat 7 (bits head 15 9),
    rsvdB := BitVec.ofNat 8 (bits head 31 24), rsvdC := BitVec.ofNat 19 (bits head 63 45), rsvdD := BitVec.ofNat 16 (bits head 127 112),
    params := params }

/-- The next slot of frame f's command ring (R315), read at its lines' homes: its header, then as many bytes as the header gives, and its
command is taken. It goes on each time the lines it has asked for have come. -/
def State.ringFetch (s : State) (f : Nat) (ok : Bool) : State :=
  let fr := s.frame f
  let r := fr.ring
  let t : TInst := { kind := .ring, inst := f }
  let o : NcOwner := .fetch f
  if s.ncBusy o then s
  else if !s.canReach t ∨ !r.cfg.getLsbD 0 ∨ r.cmdHead = r.cmdTail ∨ 256 ≤ s.outstanding t then s.ncDrop o
  else
    let pa := r.cmdInF.toNat + r.cmdHead * 8192
    if !ok ∨ !s.ringSlotOk f pa then (s.ncDrop o).ringFail f 0
    else match s.ncLine o (pa / 64) with
      | none => s.ncAsk o [pa / 64]
      | some h =>
        let head := ofBytes (s.ncBytes o pa 16)
        let n := min 8176 (bits head 44 32)
        if h.err then (s.ncDrop o).ringFail f 0
        else if h.poison then (s.ncDrop o).ringPoison f 0 pa
        else if (linesOf pa (16 + n)).any (fun l => (s.ncLine o l).isNone) then s.ncAsk o (linesOf pa (16 + n))
        else if s.ncFailed o then (s.ncDrop o).ringFail f 0
        else match s.ncBuf.find? (fun e => e.owner == o && e.poison) with
          | some e => (s.ncDrop o).ringPoison f 0 (max pa (e.line * 64))
          | none =>
            let p := slotPkt head (s.ncBytes o (pa + 16) n)
            let s := (s.ncDrop o).setFrame f { fr with ring := { r with cmdHead := (r.cmdHead + 1) % 2 ^ r.logInF.1 } }
            s.takeCmd t (bits head 7 0) p

/-- The next slot of a dovetail command ring, whose bytes the host returns (R302). -/
def State.mailboxFetch (s : State) (p : Nat) (ok : Bool) (op : Nat) (pkt : CmdPkt) : State :=
  let k := s.port p
  let d := k.dt
  let t := dtInst p
  if !s.canReach t ∨ !k.dtUp ∨ !d.bme ∨ !d.cfg.getLsbD 0 ∨ d.cmdHead = d.cmdTail ∨ 256 ≤ s.outstanding t then s
  else if !ok then (s.setDt p (({ d with ringErr := true, cfg := setFld d.cfg 0 0 0 } : Dovetail).vector 3)).loseTransport t
  else (s.setDt p { d.wake with cmdHead := (d.cmdHead + 1) % 2 ^ d.logInF.1 }).takeCmd t op pkt

/-- RING_SLOT_FETCH (R302, R315). -/
def execRingSlotFetch (r : RingId) (ok : Bool) (opcode : Byte) (pkt : CmdPkt) (s : State) : Res :=
  match r with
  | .frame f => .next (s.ringFetch f ok)
  | .port p => .next (s.mailboxFetch p ok opcode.toNat pkt)

/-! ## Plumb restarts (R404) -/

/-- PLUMB_RESTART (R404): outstanding commands end with HW_FAULT; COOL_PWM is driven at 100 %. -/
def execPlumbRestart (s : State) : Res :=
  if !s.live then .next s
  else
    let s := { s with power := { s.power with duty := 200 } }
    .next (s.plumb.jobs.foldl (fun s j => ((if j.running then s.dropped j else s).endJob j stHwFault 0 [])) (s.pkgEvent 14))

end Sys2Proof.Machine
end

