-- ==== Sys2Proof/Machine/HomeRows.lean ====
section
/-! DEFINITION. The commands of coherence: requests that arrive at homes, the responses and data they await, fills of
the bay cache, and the events of R163, R164, R184 and R185. -/

namespace Sys2Proof.Machine

/-! ## Requests -/

/-- RD_S (R170). -/
def execRdS (h : Hdr) (s : State) : Res := .next (s.toHome { op := .rdS, hdr := h })
/-- RD_U (R170). -/
def execRdU (h : Hdr) (s : State) : Res := .next (s.toHome { op := .rdU, hdr := h })
/-- UPG (R170). -/
def execUpg (h : Hdr) (s : State) : Res := .next (s.toHome { op := .upg, hdr := h })
/-- RD_NC (R171). -/
def execRdNc (h : Hdr) (s : State) : Res := .next (s.toHome { op := .rdNc, hdr := h })
/-- WR_NC (R171). -/
def execWrNc (h : Hdr) (full : Bool) (s : State) : Res :=
  .next (s.toHome { op := .wrNc, hdr := h, mask := if full then BitVec.allOnes 64 else 0 })
/-- ATOM_NC (R171). -/
def execAtomNc (h : Hdr) (op : AmoOp) (size off : Nat) (s : State) : Res :=
  .next (s.toHome { op := .atomNc, hdr := h, amo := op, size := size, off := off })
/-- WB (R171, R173). -/
def execWb (h : Hdr) (s : State) : Res := .next (s.toHome { op := .wb, hdr := h })
/-- WB_KEEP (R171, R499). -/
def execWbKeep (h : Hdr) (s : State) : Res := .next (s.toHome { op := .wbKeep, hdr := h })
/-- CBO_CLEAN (R171). -/
def execCboClean (h : Hdr) (s : State) : Res := .next (s.toHome { op := .cboClean, hdr := h })
/-- CBO_FLUSH (R171). -/
def execCboFlush (h : Hdr) (s : State) : Res := .next (s.toHome { op := .cboFlush, hdr := h })
/-- CBO_INVAL (R171). -/
def execCboInval (h : Hdr) (s : State) : Res := .next (s.toHome { op := .cboInval, hdr := h })
/-- CBO_ZERO (R170). -/
def execCboZero (h : Hdr) (s : State) : Res := .next (s.toHome { op := .cboZero, hdr := h })
/-- LOCK_FILL (R138). -/
def execLockFill (h : Hdr) (s : State) : Res := .next (s.toHome { op := .lockFill, hdr := h })

/-! ## Responses and data -/

/-- A message of classes RSP and DAT meets the transaction it names: its home, index and entry; the message leaves the
messages in flight. -/
def State.atTx (s : State) (m : Msg) : State × Option (Nat × Nat × HTx × Msg) :=
  match s.arrive m with
  | (s, none) => (s, none)
  | (s, some m) =>
  match homeOfAgent m.hdr.dst with
  | none => (s, none)
  | some h =>
    if !s.domainLive m.hdr.dst ∨ m.hdr.dstPkg ≠ s.ownPkg ∨ (s.home h).stopped then (s, none)
    else match s.tx h m.hdr.htx with
      | some t => if t.raw = m.hdr.line then (s, some (h, m.hdr.htx, t, m)) else (s, none)
      | none => (s, none)

/-- The holder a response comes from was to supply the data (R170). -/
def State.wasFwd (s : State) (h : Nat) (t : HTx) (m : Msg) : Bool :=
  match t.op with
  | .rdS => true
  | .rdU | .upg => !t.upgrade && (match s.dirFind h t.line with
    | some (_, e) => s.ownerIs e m.hdr.src m.hdr.srcPkg && (e.st != 0 || !variantO s.mode)
    | none => false)
  | _ => false

/-- RSP_NOTHELD corrects the directory (R180). A way that the transaction's own grant will use again stays reserved. -/
def State.correctDir (s : State) (h i : Nat) (t : HTx) (m : Msg) : State :=
  match s.dirFind h t.line with
  | none => s
  | some (k, e) =>
    match s.dropHolder e m.hdr.src m.hdr.srcPkg with
    | some d => s.setHome h ((s.home h).setDir k d)
    | none =>
      let b := (s.home h).dropDir k
      if t.needsWay then
        match s.tx h i with
        | some t => s.setHome h { b with txs := Tab.set b.txs i { t with dirway := some k }, resv := b.resv ++ [(k, i)] }
        | none => s.setHome h b
      else s.setHome h b

/-- A snoop response arrives (R161, R170, R172, R180). -/
def State.onResponse (s : State) (m : Msg) : State :=
  match s.atTx m with
  | (s, none) => s
  | (s, some (h, i, t, m)) =>
    if t.pend = 0 then s
    else
      let b := s.home h
      let s := if m.hdr.srcPkg = s.ownPkg then
          s.setHome h { b with snpCred := Tab.put b.snpCred 0 m.hdr.src (Tab.get b.snpCred 0 m.hdr.src - 1) }
        else s
      let fwd := s.wasFwd h t m
      let none_ := m.op == .rspNotHeld
      -- SNP_DATA follows DIRTY, except after SNP_FWD_U and, in the O variant, after SNP_FWD_S
      let sends := m.hdr.dirty && !(fwd && (t.op != .rdS || variantO s.mode))
      let t := { t with pend := t.pend - 1, fwd := t.fwd || (fwd && !none_), supply := t.supply || (fwd && none_),
                        dirty := t.dirty || m.hdr.dirty, snpData := if sends ∧ t.snpData = 0 then 1 else t.snpData }
      let s := s.setTx h i t
      (if none_ then s.correctDir h i t m else s).homeRun h

/-- RSP_INV_ACK (R170). -/
def execRspInvAck (h : Hdr) (s : State) : Res := .next (s.onResponse { op := .rspInvAck, hdr := h })
/-- RSP_FWD_DONE (R170). -/
def execRspFwdDone (h : Hdr) (s : State) : Res := .next (s.onResponse { op := .rspFwdDone, hdr := h })
/-- RSP_CLEAN_DONE (R171). -/
def execRspCleanDone (h : Hdr) (s : State) : Res := .next (s.onResponse { op := .rspCleanDone, hdr := h })
/-- RSP_NOTHELD (R180). -/
def execRspNotheld (h : Hdr) (s : State) : Res := .next (s.onResponse { op := .rspNotHeld, hdr := h })

/-- WB_CANCEL (R173): the directory is left as it stands. -/
def execWbCancel (h : Hdr) (s : State) : Res :=
  match s.atTx { op := .wbCancel, hdr := h } with
  | (s, none) => .next s
  | (s, some (n, i, t, _)) =>
    if t.pulled ∧ (t.op = .wb ∨ t.op = .wbKeep) then .next ((s.endTx n i).homeRun n) else .next s

/-- COMP_ACK (R168). Of a RD_S whose data a holder forwarded it may come before the holder's own responses. -/
def execCompAck (h : Hdr) (s : State) : Res :=
  match s.atTx { op := .compAck, hdr := h } with
  | (s, none) => .next s
  | (s, some (n, i, t, _)) => 
    if t.st = .granted then .next ((s.endTx n i).homeRun n)
    else if t.op = .rdS ∧ t.st = .active then .next (s.setTx n i { t with acked := true })
    else .next s

/-- SNP_DATA (R172). -/
def execSnpData (h : Hdr) (data : Line) (s : State) : Res :=
  match s.atTx { op := .snpData, hdr := h, data := data } with
  | (s, none) => .next s
  | (s, some (n, i, t, m)) =>
    .next ((s.setTx n i { t with buf := data, poison := m.hdr.poison, source := 3, snpData := 2 }).homeRun n)

/-- WB_DATA (R171, R173). -/
def execWbData (h : Hdr) (data : Line) (s : State) : Res :=
  match s.atTx { op := .wbData, hdr := h, data := data } with
  | (s, none) => .next s
  | (s, some (n, i, t, m)) =>
    if t.pulled ∧ !t.wrote ∧ (t.op = .wb ∨ t.op = .wbKeep) then
      .next ((s.setTx n i { t with buf := data, poison := m.hdr.poison, wrote := true }).homeRun n)
    else .next s

/-- The line an ATOM_NC leaves: its operand stands in bytes 0 to 15 of the operand line, its compare value in bytes 16
to 31 (log entry 15). -/
def HTx.atomic (t : HTx) (operand : Line) : Line :=
  let old := lineBytes t.buf t.off t.size
  let v := amoResult t.amo t.size old (lineBytes operand 0 t.size) (lineBytes operand 16 t.size)
  mergeLine t.buf (placeInLine v t.off) (byteMask t.off t.size)

/-- NC_WDATA (R82, R171, R295). -/
def execNcWdata (h : Hdr) (data : Line) (mask : BitVec 64) (s : State) : Res :=
  match s.atTx { op := .ncWData, hdr := h, data := data, mask := mask } with
  | (s, none) => .next s
  | (s, some (n, i, t, m)) =>
    if !t.pulled ∨ t.wrote then .next s
    else if t.op = .atomNc then
      -- an AMO on poisoned data is not performed
      if t.poison then .next ((((s.clearDir n t.line).reply n i t .ncRData false false t.buf).endTx n i).homeRun n)
      else .next ((s.setTx n i { t with old := t.buf, buf := t.atomic data, wrote := true }).homeRun n)
    else if t.op = .wrNc then
      let d := if t.full then data else mergeLine t.buf data mask
      let pz := if t.full then m.hdr.poison else t.poison || m.hdr.poison
      .next ((s.setTx n i { t with buf := d, poison := pz, wrote := true }).homeRun n)
    else .next s

/-! ## Fills (R135 to R137) -/

/-- The line of a register reaches the transactions that wait for it, one that has newer data of a holder apart. -/
def Home.giveFill (h : Home) (k : Nat) (d : Line × Bool) (src : Nat) : Home :=
  { h with bmrs := Tab.erase h.bmrs k,
           txs := h.txs.map (fun e => (e.1, if e.2.bmr = some k then
             (if e.2.have_ then { e.2 with bmr := none }
              else { e.2 with bmr := none, buf := d.1, poison := d.2, have_ := true, source := src }) else e.2)) }

/-- The fill is kept in the bay cache (R131, R134): a read's, not a preload's nor the read of a line to be written, not with
NTL.ALL, and the bay allocates. -/
def State.fillAllocates (s : State) (h : Nat) (b : Bmr) : Option HTx :=
  match s.tx h b.htx with
  | some t => if b.lock ∨ t.op = .wrNc ∨ t.op = .atomNc ∨ t.nonalloc ∨ !t.en ∨ t.wt ∨ (s.bayFind h b.line).isSome then none else some t
  | none => none

/-- BAY_FILL_INSTALL (R137): of several fills that are ready, the one whose request the home ordered first. -/
def execBayFillInstall (b : BayId) (bmr : Fin 512) (s : State) : Res :=
  let h := s.home b
  match Tab.find h.bmrs bmr with
  | none => .next s
  | some r =>
    match r.data with
    | none => .next s
    | some d =>
      if h.stopped ∨ h.bmrs.any (fun e => e.2.data.isSome && decide (e.2.order < r.order)) then .next s
      else
        let give (s : State) : State := (s.setHome b ((s.home b).giveFill bmr d 1)).homeRun b
        let s := s.wakeArray b
        match s.fillAllocates b r with
        | none => .next (give s)
        | some t =>
          match s.bayAlloc b { line := r.line, data := d.1, poison := d.2, rcid := t.rcid, mcid := t.mcid } with
          | .done s => .next (give s)
          | .skipped s => .next (give s)
          | .wait => .next s

/-- CXL_MEM_RESPONSE (R157, R299): the device's data for one read. -/
def execCxlMemResponse (p : PortId) (line : Nat) (data : Line) (poison : Bool) (s : State) : Res :=
  let h := 12 + p.val
  let b := s.home h
  match b.cxlWait.find? (fun e => e.1 == line) with
  | none => .next s
  | some e =>
    let b := { b with cxlWait := b.cxlWait.erase e }
    let s := s.setHome h b
    match s.tx h e.2 with
    | some t =>
      let s := s.setMemLine (s.lineKey h (line * 64)) data poison
      .next ((s.setTx h e.2 { t with buf := data, poison := poison, have_ := true, source := 4 }).homeRun h)
    | none => .next s

/-! ## Events of the domain -/

/-- UNKNOWN_MESSAGE_DISCARD (R163, R164): discarded and counted as an uncorrected-contained error. -/
def execUnknownMessageDiscard (dst : Nat) (src : BitVec 6) (_cls : BitVec 3) (opcode : BitVec 6) (s : State) : Res :=
  .next (s.report { cls := 3, src := 13, code := 0x30, inst := dst, sub := src.toNat * 64 + opcode.toNat,
                    frame := some (if agentOk dst then s.frameOfAgent dst else 0) })

/-- SNOOP_TIMEOUT (R184): a stud owes home `home` an answer and has not given it within 50 µs. -/
def execSnoopTimeout (home : Nat) (n : StudId) (s : State) : Res :=
  if Tab.get (s.home home).snpCred 0 n = 0 ∨ 20 ≤ home then .next s
  else .next (s.fatal (s.frameOfHome home)
    { cls := 4, src := if home < 12 then 4 else 7, code := 0x31, inst := if home < 12 then home else home - 12 })

/-- The source class and instance space of a structure (R403, R415). -/
def structureSrc (code : Nat) : Nat :=
  if code < 8 then 3 else if code < 0x18 then 4 else if code = 0x18 then 13 else if code < 0x28 then 5
  else if code = 0x28 then 6 else if code < 0x30 then 7
  else if code = 0x39 ∨ code = 0x3A then 11 else if 0x33 ≤ code then 1 else 13

/-- The bin that counts a fatal event of a structure (R423). -/
def fatalBin (code inst : Nat) : Option (Nat × Nat × Nat) :=
  if 0x10 ≤ code ∧ code ≤ 0x18 then some (0x21, inst, 2 * (code - 0x10) + 1) else none

/-- FATAL_EVENT (R184, R406). -/
def execFatalEvent (f : FrameId) (structure_ : BitVec 8) (inst : BitVec 8) (s : State) : Res :=
  if frameCount s.mode ≤ f.val ∨ !s.isBooted f then .next s
  else .next (s.fatal f { cls := 4, src := structureSrc structure_.toNat, code := structure_.toNat, inst := inst.toNat,
                          bin := fatalBin structure_.toNat inst.toNat })

end Sys2Proof.Machine
end

