-- ==== Sys2Proof/Machine/Perf.lean ====
section
/-! DEFINITION. Hart counters (R453, R454, R459, R460), the notch sampler (R462 to R467), the system timer (R79, R80)
and interrupt-file writes (R75, R76). Between commands a counter that counts moves by an amount that is free, taken at each read of it
(log entry 20). -/

namespace Sys2Proof.Machine

/-! ## Counters -/

/-- The event codes of R457. -/
def hartEvent (e : Nat) : Bool :=
  (decide (1 ≤ e) && decide (e ≤ 6)) || (decide (0x10 ≤ e) && decide (e ≤ 0x16)) || (decide (0x20 ≤ e) && decide (e ≤ 0x26)) ||
    (decide (0x31 ≤ e) && decide (e ≤ 0x3C)) || (decide (0x40 ≤ e) && decide (e ≤ 0x47)) || (decide (0x50 ≤ e) && decide (e ≤ 0x53))

/-- A counter that R453 implements: mcycle, minstret, mhpmcounter3-10. -/
def counterExists (idx : Nat) : Bool := idx == 0 || (decide (2 ≤ idx) && decide (idx ≤ 10))

/-- HPM_COUNTER_WRITE (R453, R459): counters 11-31 ignore it, and there is no machine counter 1. -/
def execHpmCounterWrite (c : CoreId) (idx : Fin 32) (val : Word) (s : State) : Res :=
  let k := s.core c
  s.serial c (if idx.val = 1 then 2 else k.csrLegal (Csr.mcycle + idx) true)
    (fun s => if counterExists idx then s.setCore c (k.setCsr (Csr.mcycle + idx) val) else s)

/-- The value mhpmevent takes (R454). -/
def hpmEventValue (v : Word) : Word :=
  let w := v &&& 0xFC0000000000FFFF
  if hartEvent (fld v 15 0) then w else setFld w 15 0 0

/-- MHPMEVENT_WRITE (R454); mhpmevent11-31 ignore it, and numbers 0x320 to 0x322 are not of this row. -/
def execMhpmeventWrite (c : CoreId) (idx : Fin 32) (val : Word) (s : State) : Res :=
  let k := s.core c
  s.serial c (if idx.val < 3 then 2 else k.csrLegal (0x320 + idx) true)
    (fun s => if 3 ≤ idx.val ∧ idx.val ≤ 10 then s.setCore c (k.setCsr (0x320 + idx) (hpmEventValue val)) else s)

/-- MCOUNTINHIBIT_WRITE (R453, R459): bits 0 and 2-10. -/
def execMcountinhibitWrite (c : CoreId) (val : Word) (s : State) : Res :=
  let k := s.core c
  s.serial c (k.csrLegal Csr.mcountinhibit true) (fun s => s.setCore c (k.setCsr Csr.mcountinhibit (val &&& 0x7FD)))

/-- A counter that counts: implemented, not inhibited, and an event chosen for 3-10 (R454, R459). -/
def Core.counts (k : Core) (idx : Nat) : Bool :=
  counterExists idx && !k.csrBit Csr.mcountinhibit idx && (decide (idx < 3) || fld (k.csr (0x320 + idx)) 15 0 != 0)

/-- COUNTER_WRAP (R460). A counter that does not count does not wrap (log entry 5). -/
def execCounterWrap (c : CoreId) (idx : Fin 32) (s : State) : Res :=
  let k := s.core c
  if !k.counts idx then .next s
  else
    let k := k.setCsr (Csr.mcycle + idx) 0
    if idx.val < 3 ∨ k.csrBit (0x320 + idx) 63 then .next (s.setCore c k)
    else
      let k := k.setCsr (0x320 + idx) (setFld (k.csr (0x320 + idx)) 63 63 1)
      .next ((s.setCore c (k.setCsr Csr.mip (setFld (k.csr Csr.mip) 13 13 1))).noteWake c)

/-! ## The notch sampler: registers (R462, R463) -/

/-- How a write of a sampler register ends: an S-level number is usable only while mnotchdeleg.S = 1 (R84, R462). -/
def Core.notchLegal (k : Core) (lvl : Lvl) (num : Nat) : Nat :=
  match lvl with
  | .m => k.csrLegal num true
  | .s =>
    let l := k.vendorLegal (num - 0x200)
    if l ≠ 0 then l else if k.notchS then 0 else 2

/-- The value notchctl takes, or the old one when a field is outside its range. -/
def Core.notchctlValue (k : Core) (v : Word) : Word :=
  let old := k.csr Csr.notchctl
  if 16 < fld v 52 48 ∨ !hartEvent (fld v 31 16) then old
  else
    let w := v &&& 0x001FFFFFFFFF06F9
    if k.notchS then setFld w 3 3 (fld old 3 3) else w

/-- NOTCHCTL_WRITE (R463, R464): SEQ counts from the setting of EN. -/
def execNotchctlWrite (c : CoreId) (lvl : Lvl) (val : Word) (s : State) : Res :=
  let k := s.core c
  s.serial c (k.notchLegal lvl Csr.notchctl) (fun s =>
    let w := k.notchctlValue val
    let rises := !k.csrBit Csr.notchctl 0 && w.getLsbD 0
    let k := k.setCsr Csr.notchctl w
    s.setCore c (if rises then { k with notch := { k.notch with seq := 0 } } else k))

/-- The records of the ring (R463). -/
def Core.notchRecords (k : Core) : Nat := 2 ^ (fld (k.csr Csr.notchbase) 4 0 + 6)

def notchNum : NotchReg → Nat
  | .base => Csr.notchbase
  | .head => Csr.notchhead
  | .tail => Csr.notchtail
  | .wm => Csr.notchwm
  | .period => Csr.notchperiod
  | .lost => Csr.notchlost

/-- The value a sampler register takes (R463). -/
def Core.notchValue (k : Core) (r : NotchReg) (v : Word) : Word :=
  let old := k.csr (notchNum r)
  let en := k.csrBit Csr.notchctl 0
  match r with
  | .base => if en ∨ 18 < fld v 4 0 then old else v &&& 0x00FFFFFFFFFFF01F
  | .head => v &&& 0xFFFFFFFF
  | .tail => if en then old else v &&& 0xFFFFFFFF
  | .wm =>
    let wm := fld v 24 0
    if wm = 0 ∨ min k.notchRecords (2 ^ 24) < wm then old else v &&& 0x000007FF01FFFFFF
  | .period => if fld v 31 0 = 0 then old else (old &&& 0xFFFFFFFF00000000) ||| (v &&& 0xFFFFFFFF)
  | .lost => v &&& 0xFFFFFFFF

/-- NOTCH_REGISTER_WRITE (R463). -/
def execNotchRegisterWrite (c : CoreId) (lvl : Lvl) (reg : NotchReg) (val : Word) (s : State) : Res :=
  let k := s.core c
  s.serial c (k.notchLegal lvl (notchNum reg)) (fun s => s.setCore c (k.setCsr (notchNum reg) (k.notchValue reg val)))

/-- MNOTCHDELEG_WRITE (R462, R463): while S is 1, MINH reads 1. -/
def execMnotchdelegWrite (c : CoreId) (val : Word) (s : State) : Res :=
  let k := s.core c
  s.serial c (k.csrLegal Csr.mnotchdeleg true) (fun s =>
    let k := k.setCsr Csr.mnotchdeleg (val &&& 1)
    s.setCore c (if val.getLsbD 0 then k.setCsr Csr.notchctl (setFld (k.csr Csr.notchctl) 3 3 1) else k))

/-! ## The notch sampler: sampling (R464 to R467) -/

/-- The inhibit bit of notchctl for the hart's mode. -/
def Core.notchInhibited (k : Core) : Bool :=
  let i := match k.regs.virt, k.regs.priv with
    | true, 0 => 7
    | true, _ => 6
    | false, 0 => 5
    | false, 3 => 3
    | false, _ => 4
  k.csrBit Csr.notchctl i

/-- NOTCH_TAG (R464): COUNT has reached 0 and an instruction is tagged, with the mode and the identifiers it runs under. -/
def execNotchTag (c : CoreId) (s : State) : Res :=
  let k := s.core c
  if k.run ≠ .run ∨ !k.csrBit Csr.notchctl 0 ∨ k.notch.tagged ∨ k.notchInhibited then .next s
  else
    let t := { k.notch with tagged := true, mode := k.regs.priv % 4 + 4 * b2n k.regs.virt, asid := k.xasid k.regs.virt,
                            vmid := if k.regs.virt then k.xvmid else 0 }
    .next (s.setCore c ({ k with notch := t }.setCount 0))

/-- The notch record (R464). -/
def State.notchRecord (s : State) (c : Nat) (r : NotchIn) : Line :=
  let k := s.core c
  BitVec.ofNat 512 (r.pc.toNat + r.dva.toNat * 2 ^ 64 + r.dpa.toNat * 2 ^ 128 + (s.mtimeOf (s.frameOfCore c)).toNat * 2 ^ 192 +
    r.lat.toNat * 2 ^ 256 + r.walk.toNat * 2 ^ 288 + r.source.toNat * 2 ^ 304 + (r.slot.toNat % 128) * 2 ^ 312 +
    r.flags.toNat * 2 ^ 320 + k.notch.mode * 2 ^ 336 + k.notch.asid * 2 ^ 352 + k.notch.vmid * 2 ^ 368 +
    r.target.toNat * 2 ^ 384 + k.notch.seq.toNat * 2 ^ 448 + s.mhartid c % 4096 * 2 ^ 480)

/-- A ring line the sampler may write (R467). -/
def State.notchAddrOk (s : State) (c line : Nat) : Bool :=
  match s.region (s.frameOfCore c) (line * 64) with
  | .dram _ | .bench _ _ => true
  | _ => false

/-- The notch of the tagged instruction is dropped or discarded, or its write begins. -/
def State.notchDone (s : State) (c : Nat) (r : NotchIn) : State :=
  let k := s.core c
  let head := fld (k.csr Csr.notchhead) 31 0
  let tail := fld (k.csr Csr.notchtail) 31 0
  let n := k.notchRecords
  let line := fld (k.csr Csr.notchbase) 55 12 * 64 + tail % n
  let drop (s : State) : State := s.setCore c (s.core c).notchReload
  if r.mem ∧ r.lat.toNat < fld (k.csr Csr.notchctl) 47 32 then drop s
  else if (tail + 2 ^ 32 - head) % 2 ^ 32 = n then
    drop (s.setCore c (k.setCsr Csr.notchlost (BitVec.ofNat 64 (satAdd 32 (fld (k.csr Csr.notchlost) 31 0) 1))).notchSeq)
  else if !s.notchAddrOk c line then drop (s.notchFail c)
  else (s.setCore c { k with notch := { k.notch with rec_ := some (s.notchRecord c r, line) } }).notchSend c

/-- NOTCH_WRITE (R464 to R467). -/
def execNotchWrite (c : CoreId) (rec : NotchIn) (s : State) : Res :=
  let n := (s.core c).notch
  if !n.tagged ∨ n.rec_.isSome then .next s else .next (s.notchDone c rec)

/-! ## The system timer (R79, R80) -/

/-- One tick of slewing on every 1,000th tick of the system timer (R262). -/
def Frame.slewTick (fr : Frame) : Frame :=
  if 0 < fr.slew then { fr with mtimeOff := fr.mtimeOff + 1, slew := fr.slew - 1 }
  else if fr.slew < 0 then { fr with mtimeOff := fr.mtimeOff - 1, slew := fr.slew + 1 }
  else fr

/-- MTIME_TICK (R79, R262, R370): every comparator sees the tick, and replies that wait for a ring are tried (R323). Nothing counts after REFCLK is lost. -/
def execMtimeTick (s : State) : Res :=
  if s.refLost ∨ s.off ∨ !s.pins.pwrgood then .next s
  else
    let sc := s.scribe
    let s := { s with mtime := s.mtime + 1, scribe := { sc with upTicks := sc.upTicks + b2n s.plumb.on } }
    let s := if s.mtime.toNat % 1000 = 0 then { s with frames := s.frames.map (fun e => (e.1, e.2.slewTick)) } else s
    .next ((Tab.keys s.cores).foldl State.noteWake s).pumpAll

/-- MTIME_WRITE (R79). -/
def execMtimeWrite (f : FrameId) (val : Word) (s : State) : Res :=
  if (framesOf s.mode).contains f.val then .next (s.mtimeWrite f 0x200000 val) else .next s

/-- MTIMECMP_WRITE (R80). -/
def execMtimecmpWrite (f : FrameId) (h : BitVec 9) (val : Word) (s : State) : Res :=
  if (framesOf s.mode).contains f.val then .next (s.mtimecmpWrite f h.toNat (0x208000 + 8 * h.toNat) val) else .next s

/-- The file number of an interrupt file: guest 0's page is the supervisor-level file itself (R76). -/
def fileNo : IntFile → Nat
  | .m => 0
  | .s => 1
  | .g k => 1 + k

/-- MSI_WRITE (R75, R76). -/
def execMsiWrite (f : FrameId) (h : BitVec 12) (file : IntFile) (id : BitVec 32) (s : State) : Res :=
  if (framesOf s.mode).contains f.val then .next (s.fileWrite none f h.toNat (fileNo file) 0 id.toNat) else .next s

end Sys2Proof.Machine
end

