-- ==== Sys2Proof/Machine/Uncached.lean ====
section
/-! DEFINITION. The messages that end the uncached accesses of cores, ports, bridges and IOMMUs (R142, R171), and what the owner of such an access
does next. -/

namespace Sys2Proof.Machine

/-- An owner goes on once every access it has asked for has ended: the ring's slot is taken, its reply stands in the ring, the walk, the command
queue or the fault queue of the IOMMU goes on. -/
def State.ncNext (s : State) (o : NcOwner) : State :=
  if s.ncBusy o then s
  else match o with
    | .fetch f => s.ringFetch f true
    | .reply f => s.ringWritten f
    | .walk p => s.ioServe p ((s.port p).ioQ.length + 1)
    | .queue p => s.ioRun p (ioQueueSize ((s.port p).ioReg 0x18))
    | .fence p => s.ioFenced p
    | .record p => s.ioRecorded p
    | .msi p => s.ioMsiSent p

/-- The owner of the access that a message names. -/
def State.ncOwnerOf (s : State) (h : Hdr) : Option NcOwner :=
  (s.ncOps.find? (fun x => x.agent == h.dst && x.tag == h.tag && x.line == h.line)).map (·.owner)

/-- A message that can end an access, and what follows from its end. -/
def State.toOwner (s : State) (m : Msg) : State :=
  let t := s.toRequester m
  match s.ncOwnerOf m.hdr with
  | some o => if t.ncOwnerOf m.hdr = some o then t else t.ncNext o
  | none => t

/-- NC_RDATA (R171). -/
def execNcRdata (h : Hdr) (data : Line) (s : State) : Res := .next (s.toOwner { op := .ncRData, hdr := h, data := data })
/-- GO_DONE (R171). -/
def execGoDone (h : Hdr) (s : State) : Res := .next (s.toOwner { op := .goDone, hdr := h })
/-- WR_PULL (R171). -/
def execWrPull (h : Hdr) (s : State) : Res := .next (s.toOwner { op := .wrPull, hdr := h })
/-- ERR (R142). -/
def execErr (h : Hdr) (s : State) : Res := .next (s.toOwner { op := .err, hdr := h })

end Sys2Proof.Machine
end

