-- ==== Sys2Proof/Machine/CsrRead.lean ====
section
/-! DEFINITION. Which CSRs a hart has, who may access them (R51, R80, R84, R461, R462), and what each reads (R53, R75, R79, R85, R86,
R97, R453). What the standard CSRs hold is the privileged architecture's and the AIA's (log entry 9). -/

namespace Sys2Proof.Machine

/-! ## Which CSRs exist -/

/-- CSR numbers a hart implements: the standard ones of the profiles of R51, the counters of R453, and the vendor CSRs of R84. -/
def csrExists (n : Nat) : Bool :=
  [1, 2, 3, 8, 9, 10, 15, 0xC20, 0xC21, 0xC22].contains n ||
  [0x100, 0x104, 0x105, 0x106, 0x10A, 0x10C, 0x10D, 0x10E, 0x10F, 0x140, 0x141, 0x142, 0x143, 0x144, 0x14D, 0x150, 0x151, 0x15C,
   0x180, 0x181, 0xDA0, 0xDB0].contains n ||
  [0x200, 0x204, 0x205, 0x240, 0x241, 0x242, 0x243, 0x244, 0x24D, 0x250, 0x251, 0x25C, 0x280, 0xEB0].contains n ||
  [0x300, 0x301, 0x302, 0x303, 0x304, 0x305, 0x306, 0x308, 0x309, 0x30A, 0x30C, 0x30D, 0x30E, 0x30F, 0x340, 0x341, 0x342, 0x343,
   0x344, 0x34A, 0x34B, 0x350, 0x351, 0x35C, 0xF11, 0xF12, 0xF13, 0xF14, 0xF15, 0xFB0].contains n ||
  [0x600, 0x602, 0x603, 0x604, 0x605, 0x606, 0x607, 0x608, 0x609, 0x60A, 0x60C, 0x60D, 0x60E, 0x60F, 0x643, 0x644, 0x645, 0x646,
   0x647, 0x64A, 0x680, 0xE12].contains n ||
  n == 0x320 || (decide (0x323 ≤ n) && decide (n ≤ 0x33F)) || n == 0xB00 || (decide (0xB02 ≤ n) && decide (n ≤ 0xB1F)) ||
  (decide (0xC00 ≤ n) && decide (n ≤ 0xC1F)) ||
  [0x5C2, 0x5C8, 0x5C9, 0x5CA, 0x5CB, 0x7C0, 0x7C1, 0x7C2, 0x7C8, 0x7C9, 0x7EF, 0xFC0].contains n ||
  (decide (0x5E0 ≤ n) && decide (n ≤ 0x5E6)) || (decide (0x7E0 ≤ n) && decide (n ≤ 0x7E6))

/-- The VS-level copy that V = 1 substitutes for a supervisor CSR. -/
def virtCsr (virt : Bool) (n : Nat) : Nat :=
  if virt ∧ [0x100, 0x104, 0x105, 0x140, 0x141, 0x142, 0x143, 0x144, 0x14D, 0x150, 0x151, 0x15C, 0x180].contains n then n + 0x100
  else if virt ∧ n = 0xDB0 then 0xEB0 else n

/-! ## Who may access them -/

/-- The bit of mstateen0 and hstateen0 that governs a CSR below M-mode (Smstateen, R51). -/
def stateenBit (n : Nat) : Option Nat :=
  if [0x10C, 0x10D, 0x10E, 0x10F, 0x60C, 0x60D, 0x60E, 0x60F].contains n then some 63
  else if [0x10A, 0x60A].contains n then some 62
  else if [0x150, 0x151, 0x250, 0x251].contains n then some 60
  else if [0xDB0, 0xEB0, 0x608, 0x609, 0x646, 0x647].contains n then some 59
  else if [0x15C, 0x25C].contains n then some 58
  else if n = 0x181 then some 55
  else none

/-- mstateen0 and hstateen0 stop an access below M-mode. -/
def Core.stateenLegal (k : Core) (n : Nat) : Nat :=
  match stateenBit n with
  | none => 0
  | some b =>
    if k.regs.priv = 3 then 0
    else if !k.csrBit Csr.mstateen0 b then 2
    else if k.regs.virt ∧ !k.csrBit 0x60C b then 22 else 0

/-- stimecmp and vstimecmp below M-mode: menvcfg.STCE, henvcfg.STCE, and the TM bits (Sstc, R80). -/
def Core.sstcLegal (k : Core) : Nat :=
  if k.regs.priv = 3 then 0
  else if !k.stce ∨ !k.csrBit Csr.mcounteren 1 then 2
  else if k.regs.virt ∧ (!k.henvBit 63 ∨ !k.csrBit Csr.hcounteren 1) then 22 else 0

/-- A read of user counter i (R461). -/
def Core.counterLegal (k : Core) (i : Nat) : Nat :=
  if k.regs.priv = 3 then 0
  else if !k.csrBit Csr.mcounteren i then 2
  else if k.regs.virt then (if !k.csrBit Csr.hcounteren i ∨ (k.regs.priv = 0 ∧ !k.csrBit Csr.scounteren i) then 22 else 0)
  else if k.regs.priv = 0 ∧ !k.csrBit Csr.scounteren i then 2 else 0

/-- Floating-point and vector CSRs while FS or VS is Off, in mstatus or of a guest in vsstatus (the privileged architecture, R51). -/
def Core.unitLegal (k : Core) (n : Nat) : Nat :=
  if [1, 2, 3].contains n then k.unitOff 14 13
  else if [8, 9, 10, 15, 0xC20, 0xC21, 0xC22].contains n then k.unitOff 10 9
  else 0

/-- What virtualised interrupts stop (the AIA, R51): stopei, and sireg of the interrupt file, while mvien gives bit 9; sip and sie of a
guest while hvictl.VTI is 1. -/
def Core.virqLegal (k : Core) (n : Nat) : Nat :=
  if k.regs.priv ≠ 1 then 0
  else if k.regs.virt then (if (n = 0x104 ∨ n = 0x144) ∧ k.csrBit Csr.hvictl 30 then 22 else 0)
  else if k.csrBit Csr.mvien 9 ∧ (n = 0x15C ∨ (n = 0x151 ∧ 0x70 ≤ (k.csr 0x150).toNat ∧ (k.csr 0x150).toNat < 0x100)) then 2 else 0

/-- How an access to any CSR number ends: 0 allowed, 2 illegal-instruction, 22 virtual-instruction. -/
def Core.csrNumLegal (k : Core) (n : Nat) (write : Bool) : Nat :=
  let first (a b : Nat) : Nat := if a ≠ 0 then a else b
  if !csrExists n ∨ (write ∧ n / 1024 = 3) then 2
  else if 0x5E0 ≤ n ∧ n ≤ 0x5E6 then k.notchLegal .s (n + 0x200)
  else if 0x5C0 ≤ n ∧ n < 0x600 then k.vendorLegal n
  else if 0xC00 ≤ n ∧ n ≤ 0xC1F then k.counterLegal (n - 0xC00)
  else if n = 0x180 then k.atpLegal .satp
  else if n = 0x680 then k.atpLegal .hgatp
  else if n = 0x14D ∨ n = 0x24D then first (k.csrLegal n write) k.sstcLegal
  else first (first (k.csrLegal n write) (k.stateenLegal n)) (first (k.unitLegal n) (k.virqLegal n))

/-! ## Interrupt files and topi registers (R75, the AIA) -/

/-- The file a level's indirect register reaches; none for a guest selection of 0. -/
def Core.indirectFile (k : Core) (n : Nat) : Option Nat :=
  if n / 0x100 = 3 then some 0
  else if n / 0x100 = 1 then some 1
  else
    let g := fld (k.csr Csr.hstatus) 17 12
    if g = 0 then none else some (1 + g)

/-- 64 identities from 64 i on, as a bit array. -/
def idWord (l : List Nat) (i : Nat) : Word := BitVec.ofNat 64 ((l.filter (fun n => n / 64 == i)).foldl (fun a n => a + 2 ^ (n % 64)) 0)

/-- A register of an interrupt file read by its selector; none where the selector names no register. -/
def IFile.read (q : IFile) (sel : Nat) : Option Word :=
  if sel = 0x70 then some (BitVec.ofNat 64 (b2n q.delivery))
  else if sel = 0x72 then some (BitVec.ofNat 64 q.threshold)
  else if 0x80 ≤ sel ∧ sel < 0xC0 ∧ sel % 2 = 0 then some (idWord q.eip ((sel - 0x80) / 2))
  else if 0xC0 ≤ sel ∧ sel < 0x100 ∧ sel % 2 = 0 then some (idWord q.eie ((sel - 0xC0) / 2))
  else none

/-- mtopi, stopi, vstopi: the interrupt at the head of the level, with priority 1, or hvictl's where IPRIOM asks for it; 0 for none. -/
def Core.topi (k : Core) (t : Word) (lvl : Nat) : Word :=
  match (if lvl = 3 then k.topM t else if lvl = 1 then k.topS t else k.topV t) with
  | some i =>
    let c := k.csr Csr.hvictl
    let p := if lvl = 2 ∧ c.getLsbD 8 ∧ c.getLsbD 30 ∧ fld c 27 16 = i ∧ fld c 7 0 ≠ 0 then fld c 7 0 else 1
    BitVec.ofNat 64 (i * 2 ^ 16 + p)
  | none => 0

/-! ## What they read -/

/-- A status register with SD, which follows FS and VS. -/
def withSd (w : Word) : Word := setFld w 63 63 (b2n (fld w 14 13 == 3 || fld w 10 9 == 3))

/-- The fields of mstatus that sstatus shows. -/
def sstatusMask : Word := 0x80000003000DE762

/-- mcoreinfo (R85). -/
def State.coreInfo (s : State) (c : Nat) : Word :=
  let f := s.frameOfCore c
  BitVec.ofNat 64 (s.mode * 2 ^ 16 + b2n ((s.frame f).joinSt == 2) * 2 ^ 15 + b2n (variantO s.mode) * 2 ^ 14 + f * 2 ^ 12 + c / 32 * 2 ^ 8 +
    c % 32 / 4 * 2 ^ 5 + c % 32)

/-- time (R79): with htimedelta while V = 1. -/
def State.timeOf (s : State) (c : Nat) : Word :=
  s.coreTime c + (if (s.core c).regs.virt then (s.core c).csr Csr.htimedelta else 0)

/-- FREQ of mclksel (R86): the PLL's frequency while the core runs from it; what the droop-tracking oscillator gives is a free value
(log entry 37). -/
def State.coreFreq (s : State) (c : Nat) : Nat :=
  if (s.core c).csrBit Csr.mclksel 1 then (s.stud (c / 32)).freq else (Config.droopFreq s.free).toNat

/-- scountovf (R453): the OF bits that the counter enables show. -/
def Core.countOvf (k : Core) : Word :=
  let on (i : Nat) : Bool := k.csrBit (0x320 + i) 63 && (k.regs.priv == 3 || k.csrBit Csr.mcounteren i) && (!k.regs.virt || k.csrBit Csr.hcounteren i)
  BitVec.ofNat 64 ((List.range 11).foldl (fun a i => if 3 ≤ i ∧ on i then a + 2 ^ i else a) 0)

/-- What has changed in the hart since a CSR was last read: a counter that counts has moved by a free amount, and COUNT of a sampler that runs to a free value (R455 to R459, R464; log entry 20), and
the droop-tracking oscillator's frequency is a new free value. -/
def State.csrCounted (s : State) (c n : Nat) : State :=
  let k := s.core c
  let i := n % 0x100
  let next : State := { s with free := s.free + 1 }
  if n = 0x7C0 then next
  else if (n = 0x7E5 ∨ n = 0x5E5) ∧ k.csrBit Csr.notchctl 0 ∧ !k.notch.tagged then
    next.setCore c (k.setCount ((Config.freeValue s.free).toNat % 2 ^ 32))
  else if (n / 0x100 = 0xB ∨ n / 0x100 = 0xC) ∧ i < 32 ∧ k.counts i then
    next.setCore c (k.setCsr (Csr.mcycle + i) (k.csr (Csr.mcycle + i) + Config.freeValue s.free))
  else s

/-- What a CSR that exists reads, by its number after the substitution of V = 1; none where an indirect register names nothing. -/
def State.csrRead (s : State) (c n : Nat) : Option Word :=
  let k := s.core c
  let t := s.coreTime c
  let get := k.csr
  match n with
  | 1 => some (get 3 &&& 0x1F)
  | 2 => some ((get 3 >>> 5) &&& 7)
  | 8 => some (BitVec.ofNat 64 k.regs.vstart)
  | 9 => some (get 15 &&& 1)
  | 10 => some ((get 15 >>> 1) &&& 3)
  | 0xC20 => some (BitVec.ofNat 64 k.regs.vl)
  | 0xC22 => some 32
  | 0x100 => some (withSd (get Csr.mstatus) &&& sstatusMask)
  | 0x200 => some (withSd (get Csr.vsstatus))
  | 0x300 => some (withSd (get Csr.mstatus))
  | 0x104 => some k.sie
  | 0x144 => some (k.sipAt t)
  | 0x204 => some k.vsie
  | 0x244 => some (k.vsipAt t)
  | 0x309 => some k.mvip
  | 0x344 => some (k.mipAt t)
  | 0x604 => some (get Csr.mie &&& 0x1444)
  | 0x644 => some (k.mipAt t &&& 0x1444)
  | 0x645 => some ((get Csr.mip &&& 0x444) ||| (get 0x645 &&& 0x2000))
  | 0x60A => some (get Csr.henvcfg &&& (get Csr.menvcfg ||| 0x1FFFFFFFFFFFFFFF))
  | 0x60C => some (get 0x60C &&& get Csr.mstateen0)
  | 0x151 | 0x251 | 0x351 => (k.indirectFile n).bind (fun f => (k.file f).read (get (n - 1)).toNat)
  | 0x15C | 0x25C | 0x35C => (k.indirectFile n).map (fun f => BitVec.ofNat 64 ((k.file f).top * 0x10001))
  | 0xFB0 => some (k.topi t 3)
  | 0xDB0 => some (k.topi t 1)
  | 0xEB0 => some (k.topi t 2)
  | 0xE12 => some (BitVec.ofNat 64 ((List.range 7).foldl (fun a g => if (k.file (2 + g)).signals then a + 2 ^ (g + 1) else a) 0))
  | 0xC01 => some (s.timeOf c)
  | 0xDA0 => some k.countOvf
  | 0xFC0 => some (s.coreInfo c)
  | 0xF14 => some (BitVec.ofNat 64 (s.mhartid c))
  | 0x7C0 => some (setFld (get Csr.mclksel) 31 16 (s.coreFreq c))
  | 0x7C9 => some (setFld (get Csr.mshimctl) 31 16 (if k.xlat.shim then (Config.walkerVersion k.xlat.shimVer).toNat else 0))
  | _ =>
    if 0xC00 ≤ n ∧ n ≤ 0xC1F then some (get (n - 0x100))
    else if 0x5E0 ≤ n ∧ n ≤ 0x5E6 then some (get (n + 0x200))
    else some (get n)

end Sys2Proof.Machine
end

