-- ==== Sys2Proof/Machine/CsrWrite.lean ====
section
/-! DEFINITION. A write of any CSR of a hart by its number (R51, R53, R70, R75, R84, R453, R473). What the fields of the
standard CSRs keep of a written value is the privileged architecture's and the AIA's (log entry 9). -/

namespace Sys2Proof.Machine

/-! ## What standard CSRs keep -/

/-- mstatus: MPP takes 0, 1 and 3 only. -/
def mstatusValue (old v : Word) : Word :=
  let w := writeMask old v 0xC0007E7FAA
  if fld v 12 11 = 2 then setFld w 12 11 (fld old 12 11) else w

/-- A pointer-masking field takes 0, 2 and 3; a write of 1 leaves it as it was (Ssnpm, R51). -/
def setPmm (w v : Word) (hi lo : Nat) : Word := if fld v hi lo = 1 then w else setFld w hi lo (fld v hi lo)

/-- hstatus: VGEIN above 7 leaves the field as it was (R75). -/
def hstatusValue (old v : Word) : Word :=
  let w := setPmm (writeMask old v 0x7003C0) v 49 48
  if fld v 17 12 ≤ 7 then setFld w 17 12 (fld v 17 12) else w

/-- senvcfg and henvcfg: the CBIE rule of R70, and the pointer-masking field. -/
def envcfgValue (old v mask : Word) : Word :=
  setPmm (setFld (writeMask old v mask) 5 4 (cbieValue (BitVec.ofNat 2 (fld v 5 4)))) v 33 32

/-- The bits of mip that a write reaches; STIP follows stimecmp while menvcfg.STCE is 1. -/
def Core.mipWritable (k : Core) : Word := if k.stce then 0x2206 else 0x2226

/-- The VS-level enables and pending bits that hideleg passes to a guest, at their machine-level places. -/
def Core.vsBits (k : Core) : Word := k.csr Csr.hideleg &&& 0x444

/-- sie written through a mask: mie's delegated bits, and those it has of its own where mvien gives them. -/
def Core.putSie (k : Core) (v m : Word) : Core :=
  let k := k.setCsr Csr.mie (writeMask (k.csr Csr.mie) v (k.csr Csr.mideleg &&& 0x2222 &&& m))
  k.setCsr Csr.sie (writeMask (k.csr Csr.sie) v (k.virtS &&& m))

/-- sip written through a mask: mip's delegated bits, and mvip's where mvien gives them. -/
def Core.putSip (k : Core) (v m : Word) : Core :=
  let k := k.setCsr Csr.mip (writeMask (k.csr Csr.mip) v (k.csr Csr.mideleg &&& m))
  k.setCsr Csr.mvip (writeMask (k.csr Csr.mvip) v (k.virtS &&& m))

/-- The value a standard CSR takes, where it is stored under its own number. -/
def csrValue (n : Nat) (old v : Word) : Word :=
  match n with
  | 0x300 => mstatusValue old v
  | 0x200 => writeMask old v 0xC6722
  | 0x302 => v &&& 0x3F0B7FF
  | 0x303 => (v &&& 0x2222) ||| 0x1444
  | 0x304 => v &&& 0x3EEE
  | 0x105 | 0x205 | 0x305 => v &&& ~~~ (2 : Word)
  | 0x141 | 0x241 | 0x341 => v &&& ~~~ (1 : Word)
  | 0x106 | 0x306 | 0x606 => v &&& 0x7FF
  | 0x10A => envcfgValue old v 0xF1
  | 0x30A => setFld (v &&& 0xE0000000000000F1) 5 4 (cbieValue (BitVec.ofNat 2 (fld v 5 4)))
  | 0x60A => envcfgValue old v 0xE0000000000000F1
  | 0x30C => v &&& 0xDC00000000000001
  | 0x60C => v &&& 0xDC00000000000001
  | 0x10C => v &&& 1
  | 0x10D | 0x10E | 0x10F | 0x30D | 0x30E | 0x30F | 0x60D | 0x60E | 0x60F => 0
  | 0x600 => hstatusValue old v
  | 0x602 => v &&& 0xB1FF
  | 0x603 => v &&& 0x2444
  | 0x607 => v &&& 0xFE
  | 0x181 => v &&& 0xFF003F
  | 0x150 | 0x250 | 0x350 => v &&& 0xFFF
  | 0x301 => old
  | 0x308 => v &&& 0x2202
  | 0x608 => v &&& 0x2000
  | 0x609 => v &&& 0xC00000004FFF07FF
  | _ => v

/-! ## Interrupt files (R75, the AIA) -/

/-- 64 identities from 64 i on set by a bit array; identity 0 does not exist. -/
def idBits (l : List Nat) (i : Nat) (v : Word) : List Nat :=
  let keep := l.filter (fun n => n / 64 != i)
  ((List.range 64).filter (fun b => v.getLsbD b && (64 * i + b != 0))).foldl (fun l b => listAdd l (64 * i + b)) keep

/-- A register of an interrupt file written by its selector; none where the selector names no register. -/
def IFile.write (q : IFile) (sel : Nat) (v : Word) : Option IFile :=
  if sel = 0x70 then some (if v = 0 ∨ v = 1 then { q with delivery := v == 1 } else q)
  else if sel = 0x72 then some { q with threshold := fld v 10 0 }
  else if 0x80 ≤ sel ∧ sel < 0xC0 ∧ sel % 2 = 0 then some { q with eip := idBits q.eip ((sel - 0x80) / 2) v }
  else if 0xC0 ≤ sel ∧ sel < 0x100 ∧ sel % 2 = 0 then some { q with eie := idBits q.eie ((sel - 0xC0) / 2) v }
  else none

/-- mireg, sireg or vsireg written: n is the number of the register. -/
def State.iregWrite (s : State) (c n : Nat) (v : Word) : State :=
  let k := s.core c
  match (k.indirectFile n).bind (fun f => ((k.file f).write (k.csr (n - 1)).toNat v).map (fun q => (f, q))) with
  | some (f, q) => s.setCore c (k.setFile f q)
  | none => s.illegal c (k.regs.virt && n == 0x251)

/-- mtopei, stopei or vstopei written: the identity it shows is claimed. -/
def State.topeiWrite (s : State) (c n : Nat) : State :=
  let k := s.core c
  match k.indirectFile n with
  | some f => let q := k.file f; s.setCore c (k.setFile f { q with eip := q.eip.filter (· != q.top) })
  | none => s.illegal c k.regs.virt

/-! ## The write -/

/-- A CSR that is a view of others, or has effects of its own, written; none for a plain one. -/
def State.csrView (s : State) (c n : Nat) (v : Word) : Option State :=
  let k := s.core c
  let put (m : Nat) (w : Word) : Option State := some (s.setCore c (k.setCsr m w))
  let fp (w : Word) : Option State := some (s.setCore c { k with regs := (k.regs.put 3 w).dirty 14 13 })
  let vec (w : Word) : Option State := some (s.setCore c { k with regs := (k.regs.put 15 w).dirty 10 9 })
  let mip (mask w : Word) : Option State := put Csr.mip (writeMask (k.csr Csr.mip) w mask)
  match n with
  | 1 => fp (setFld (k.csr 3) 4 0 (fld v 4 0))
  | 2 => fp (setFld (k.csr 3) 7 5 (fld v 2 0))
  | 3 => fp (v &&& 0xFF)
  | 8 => some (s.setCore c { k with regs := { k.regs with vstart := fld v 7 0 }.dirty 10 9 })
  | 9 => vec (setFld (k.csr 15) 0 0 (fld v 0 0))
  | 10 => vec (setFld (k.csr 15) 2 1 (fld v 1 0))
  | 15 => vec (v &&& 7)
  | 0x100 => put Csr.mstatus (writeMask (k.csr Csr.mstatus) v 0xC6722)
  | 0x104 => some (s.setCore c (k.putSie v (k.csr Csr.mideleg ||| k.virtS)))
  | 0x144 => some (s.setCore c (k.putSip v 0x2002))
  | 0x204 =>
    let k := k.setCsr Csr.mie (writeMask (k.csr Csr.mie) (v <<< 1) k.vsBits)
    let k := k.setCsr Csr.vsie (writeMask (k.csr Csr.vsie) v (k.csr Csr.hvien &&& ~~~ k.csr Csr.hideleg &&& 0x2000))
    some (s.setCore c (k.putSie v (k.csr Csr.hideleg &&& 0x2000)))
  | 0x244 =>
    let k := k.setCsr Csr.mip (writeMask (k.csr Csr.mip) (v <<< 1) (k.vsBits &&& 4))
    let k := k.setCsr 0x645 (writeMask (k.csr 0x645) v (k.csr Csr.hvien &&& ~~~ k.csr Csr.hideleg &&& 0x2000))
    some (s.setCore c (k.putSip v (k.csr Csr.hideleg &&& 0x2000)))
  | 0x309 =>
    let e := k.csr Csr.mvien
    let k := k.setCsr Csr.mvip (writeMask (k.csr Csr.mvip) v ((e &&& 0x202) ||| 0x2000))
    some (s.setCore c (k.setCsr Csr.mip (writeMask (k.csr Csr.mip) v ((~~~ e &&& 0x202) ||| (if k.stce then 0 else 0x20)))))
  | 0x604 => put Csr.mie (writeMask (k.csr Csr.mie) v 0x1444)
  | 0x644 => mip 4 v
  | 0x645 => some (s.setCore c ((k.setCsr Csr.mip (writeMask (k.csr Csr.mip) v 0x444)).setCsr 0x645 (v &&& 0x2000)))
  | 0x344 => mip k.mipWritable v
  | 0x151 | 0x251 | 0x351 => some (s.iregWrite c n v)
  | 0x15C | 0x25C | 0x35C => some (s.topeiWrite c n)
  | _ => none

/-- A standard CSR of core c written: its own value or those it is a view of; interrupts then pending wake nothing of a
core that runs. -/
def State.csrPut (s : State) (c n : Nat) (v : Word) : State :=
  match s.csrView c n v with
  | some s => s
  | none => let k := s.core c; s.setCore c (k.setCsr n (csrValue n (k.csr n) v))

/-- The operation a write of stlbcmd names (R113, R114): INDEX is stored first. While satp.MODE is not 14 the operations 7 to 15 answer
NOT_HEWN (DESIGN CHOICE, log entry 35). -/
def State.stlbcmdPut (s : State) (c : Nat) (id : CoreId) (v : Word) : Res :=
  let k := s.core c
  let s' := s.setCore c (k.setCsr Csr.stlbcmd (setFld (k.csr Csr.stlbcmd) 19 8 (fld v 19 8)))
  if (k.vendorLegal Csr.stlbcmd) ≠ 0 then s.serial c (k.vendorLegal Csr.stlbcmd) (fun s => s)
  else match fld v 3 0 with
    | 0 => s.serial c 0 (fun _ => s')
    | 1 => execStlbcmdWrite id (v.getLsbD 4) s'
    | 2 => execStlbcmdProbe id s'
    | 3 => execStlbcmdRead id (BitVec.ofNat 12 (fld v 19 8)) s'
    | 4 => execStlbcmdInvalVa id (v.getLsbD 4) s'
    | 5 => execStlbcmdInvalAsid id (v.getLsbD 4) s'
    | 6 => execStlbcmdInvalAll id (v.getLsbD 4) s'
    | _ => s.serial c 0 (fun _ => s'.setCore c ((s'.core c).stlbStatus (if (s'.core c).hewn then 2 else 5)))

/-- The sampler register at an offset from the base of its group (R462). -/
def notchAt (i : Nat) : NotchReg := [NotchReg.base, .base, .head, .tail, .wm, .period, .lost].getD i .base

/-- Any CSR of a hart written by its number. -/
def State.csrWrite (s : State) (id : CoreId) (num : Nat) (v : Word) : Res :=
  let c := id.val
  let k := s.core c
  let n := virtCsr k.regs.virt num
  if num = 0x180 then execSatpWrite id .satp v s else
  match n with
  | 0x7C0 => execMclkselWrite id v s
  | 0x7C1 => execMcorectlWrite id v s
  | 0x7C2 => execPoisoninfoWrite id .m v s
  | 0x5C2 => execPoisoninfoWrite id .s v s
  | 0x7C8 => execWalkinfoWrite id .m v s
  | 0x5CB => execWalkinfoWrite id .s v s
  | 0x7C9 => execMshimctlWrite id v s
  | 0x5CA => s.stlbcmdPut c id v
  | 0x280 => execSatpWrite id .vsatp v s
  | 0x680 => execSatpWrite id .hgatp v s
  | 0x320 => execMcountinhibitWrite id v s
  | 0x7EF => execMnotchdelegWrite id v s
  | 0x7E0 => execNotchctlWrite id .m v s
  | 0x5E0 => execNotchctlWrite id .s v s
  | _ =>
    if 0x323 ≤ n ∧ n ≤ 0x33F then execMhpmeventWrite id (Fin.ofNat 32 (n - 0x320)) v s
    else if n = 0xB00 ∨ (0xB02 ≤ n ∧ n ≤ 0xB1F) then execHpmCounterWrite id (Fin.ofNat 32 (n - 0xB00)) v s
    else if 0x7E1 ≤ n ∧ n ≤ 0x7E6 then execNotchRegisterWrite id .m (notchAt (n - 0x7E0)) v s
    else if 0x5E1 ≤ n ∧ n ≤ 0x5E6 then execNotchRegisterWrite id .s (notchAt (n - 0x5E0)) v s
    else s.serial c (k.csrNumLegal num true) (fun s => s.csrPut c n v)

/-- A CSR instruction (R51, R53, R79, R85, R461): the CSR's value goes to x[rd], and is written if the instruction writes. The
identification registers ignore a write (R53). -/
def State.csrAccess (s : State) (id : CoreId) (num : Nat) (rd : Fin 32) (wr : Bool) (v : Word) : Res :=
  let c := id.val
  let k := s.core c
  let ident := num = 0xF11 ∨ num = 0xF12 ∨ num = 0xF13
  let legal := k.csrNumLegal num (wr && !ident)
  let deliver (old : Word) (s : State) : State :=
    let k := s.core c
    s.setCore c { k with regs := k.regs.writeX rd old }
  let runs := k.run = .run ∧ k.pipe.settled
  let s := if legal = 0 ∧ runs then s.csrCounted c num else s
  if legal ≠ 0 then s.serial c legal (fun s => s)
  else match s.csrRead c (virtCsr k.regs.virt num) with
    | none => s.serial c (if k.regs.virt then 22 else 2) (fun s => s)
    | some old =>
      if wr ∧ !ident then
        (if !runs then .next s
         else match s.csrWrite id num v with
          | .next s => .next (deliver old s)
          | r => r)
      else s.serial c 0 (deliver old)

end Sys2Proof.Machine
end

