-- ==== Sys2Proof/Machine/WindowRows.lean ====
section
/-! DEFINITION. Accesses of the register windows through an access port (R342 to R360), and the notice queues' reads
(R415). -/

namespace Sys2Proof.Machine

/-- The port is there: HOST serves a booted frame's harts (R342, R345). -/
def State.apLive (s : State) (ap : AccessPort) : Bool :=
  s.live && (match apFrame ap with | some f => (framesOf s.mode).contains f && s.isBooted f | none => true)

/-- A write of a window register: a reply ring that has room again is filled (R302, R323). In the NQ window it keeps its port's order
(R344). -/
def State.windowPut (s : State) (ap : AccessPort) (w : Win) (off : Nat) (part : Part) (v : Word) : State :=
  if s.apLive ap then
    (if w = .nq then s.nqAccess { ap := ap, off := off, part := part, wr := true, val := v } else s.windowWrite ap w off part v).pumpAll
  else s

/-- SEL_WRITE (R345 to R347). -/
def execSelWrite (ap : AccessPort) (w : Win) (part : Part) (val : Word) (s : State) : Res :=
  .next (s.windowPut ap w 0 part val)

/-- NQ_POP (R343, R344, R347, R415): only an 8-byte read pops. Through PLUMB and DEBUG a read that pops nothing answers at
once, unless it waits behind a stalled read. -/
def execNqPop (ap : AccessPort) (part : Part) (s : State) : Res :=
  .next (if s.apLive ap then s.nqAccess { ap := ap, off := 0x100, part := part } else s)

/-- A queue's oldest stalled read answered with the EMPTY notice (R415). -/
def NQueue.giveEmpty (q : NQueue) : NQueue := { q with stalled := q.stalled.drop 1, popped := q.popped ++ [0] }

/-- NQ_POP_TIMEOUT (R415): the stall bound of the oldest stalled read has passed. -/
def execNqPopTimeout (q : NqId) (s : State) : Res :=
  match q with
  | .frame f =>
    let fr := s.frame f
    match fr.nq.stalled with
    | [] => .next s
    | w :: _ => .next ((s.setFrame f { fr with nq := fr.nq.giveEmpty }).deliverTo w 0).nqGoOn
  | .port p =>
    let k := s.port p
    if k.dt.nq.stalled = [] then .next s else .next (s.setDt p { k.dt with nq := k.dt.nq.giveEmpty })

/-- NQ_LEVEL_WRITE (R301, R358, R415): 1 to 252; the write raises nothing by itself. -/
def execNqLevelWrite (q : NqId) (val : Word) (s : State) : Res :=
  let l := fld val 7 0
  if l < 1 ∨ 252 < l then .next s
  else match q with
    | .frame f =>
      let s' := s.nqGoOn
      if !s.live ∨ !s.isBooted f then .next s
      else if s'.nqHeld (.host (Fin.ofNat 4 f)) then
        .next { s' with nqWait := s'.nqWait ++ [{ ap := .host (Fin.ofNat 4 f), off := 0x110, wr := true, val := val }] }
      else .next (s'.setFrame f { s'.frame f with nqLevel := l })
    | .port p => .next (s.hostWrite p 0x48 8 val)

/-- CMDQ_CMD_TAIL_WRITE (R315, R343). -/
def execCmdqCmdTailWrite (ap : AccessPort) (part : Part) (val : Word) (s : State) : Res :=
  .next (s.windowPut ap .cmdq 0x108 part val)
/-- CMDQ_RPL_HEAD_WRITE (R315). -/
def execCmdqRplHeadWrite (ap : AccessPort) (part : Part) (val : Word) (s : State) : Res :=
  .next (s.windowPut ap .cmdq 0x120 part val)
/-- CMDQ_CFG_WRITE (R302, R326, R358). -/
def execCmdqCfgWrite (ap : AccessPort) (part : Part) (val : Word) (s : State) : Res :=
  .next (s.windowPut ap .cmdq 0x130 part val)
/-- BAY_CTL_WRITE (R147, R354). -/
def execBayCtlWrite (ap : AccessPort) (part : Part) (val : Word) (s : State) : Res :=
  .next (s.windowPut ap .bay 0x100 part val)
/-- TENON_THRESH_WRITE (R212, R351). -/
def execTenonThreshWrite (ap : AccessPort) (part : Part) (val : Word) (s : State) : Res :=
  .next (s.windowPut ap .tenon 0x108 part val)
/-- UPMU_CTL_WRITE (R360). -/
def execUpmuCtlWrite (ap : AccessPort) (k : Fin 4) (part : Part) (val : Word) (s : State) : Res :=
  .next (s.windowPut ap .upmu (0x100 + 16 * k) part val)
/-- UPMU_CNT_WRITE (R360, R469). -/
def execUpmuCntWrite (ap : AccessPort) (k : Fin 4) (part : Part) (val : Word) (s : State) : Res :=
  .next (s.windowPut ap .upmu (0x108 + 16 * k) part val)

/-- UPMU_COUNTER_WRAP (R360, R469): the counter wraps to 0 and sets OVF; it raises no interrupt. -/
def execUpmuCounterWrap (inst : Nat) (k : Fin 4) (s : State) : Res :=
  let u := s.upmu inst
  let ctl := Tab.get u.ctl 0 k
  if !s.live ∨ !(s.instances .upmu).contains inst ∨ !ctl.getLsbD 16 then .next s
  else .next (s.setUpmu inst { u with cnt := Tab.put u.cnt 0 k 0, ctl := Tab.put u.ctl 0 k (setFld ctl 18 18 1) })

/-- CBQRI_OPERATION (R150, R244, R359): a monitoring or allocation operation. -/
def execCbqriOperation (ap : AccessPort) (alloc : Bool) (val : Word) (s : State) : Res :=
  .next (s.windowPut ap .qos (if alloc then 0x118 else 0x108) .full val)

/-- The window, the register and the half that an access of `size` bytes at an offset of control space names; none outside the windows, or of
a size or alignment that R65 does not allow there (R342, R343). -/
def winAt (off size : Nat) : Option (Win × Nat × Part) :=
  if (size = 4 ∨ size = 8) ∧ off % size = 0 then (winOf (off / 0x10000)).map (fun w => (w, off % 0x10000 / 8 * 8, partOf off size)) else none

/-- An access of PLUMB or DEBUG to control space (R342): a read's data is all-ones through a closed DEBUG port, and where DEBUG leaves the
windows, which is counted. -/
def State.portAccess (s : State) (dbg wr : Bool) (off size : Nat) (v : Word) : State :=
  let ap : AccessPort := if dbg then .debug else .plumb
  let shut (s : State) : State := if wr then s else s.portSees ap (readPart (partOf off size) (BitVec.allOnes 64))
  if !s.apLive ap then s
  else if dbg ∧ !s.plumb.dbgOpen then shut s
  else match winAt off size with
    | none => if dbg then shut (s.cmdEvent 2) else s
    | some (w, ro, part) =>
      if wr then s.windowPut ap w ro part v
      else if w = .nq then s.nqAccess { ap := ap, off := ro, part := part }
      else let s := s.counted ap w ro; s.portSees ap (s.windowRead ap w ro part)

/-- REGISTER_WRITE (R342, R343): any register of a window, any CSR of a hart, or an access of the PLUMB or DEBUG port. -/
def execRegisterWrite (tgt : RegTarget) (val : Word) (s : State) : Res :=
  match tgt with
  | .win ap w off part => if off.toNat % 8 ≠ 0 then .next s else .next (s.windowPut ap w off.toNat part val)
  | .csr c num rd wr => s.csrAccess c num.toNat rd wr val
  | .port dbg wr off size => .next (s.portAccess dbg wr off.toNat size val)

end Sys2Proof.Machine
end

