-- ==== Sys2Proof/Machine/Dispatch.lean ====
section
/-! DEFINITION. One arm for each command; a meaning is one direct call. -/

namespace Sys2Proof.Machine

def exec (i : Instr) (s : State) : Host.Outcome State Fault Refusal :=
  match i with
  | .load c va size dest sext hyp upset => Sys2Proof.Machine.execLoad c va size dest sext hyp upset s
  | .store c va size val hyp => Sys2Proof.Machine.execStore c va size val hyp s
  | .storeQueueDrain c => Sys2Proof.Machine.execStoreQueueDrain c s
  | .amo c va size op val cmp rd aq rl => Sys2Proof.Machine.execAmo c va size op val cmp rd aq rl s
  | .lr c va size rd aq rl => Sys2Proof.Machine.execLr c va size rd aq rl s
  | .sc c va size val rd aq rl => Sys2Proof.Machine.execSc c va size val rd aq rl s
  | .lrHoldExpiry c => Sys2Proof.Machine.execLrHoldExpiry c s
  | .fence c pred succ => Sys2Proof.Machine.execFence c pred succ s
  | .fenceI c => Sys2Proof.Machine.execFenceI c s
  | .wfi c => Sys2Proof.Machine.execWfi c s
  | .wrsNto c => Sys2Proof.Machine.execWrsNto c s
  | .wrsSto c => Sys2Proof.Machine.execWrsSto c s
  | .wrsStoTimeout c => Sys2Proof.Machine.execWrsStoTimeout c s
  | .cboCleanInsn c va => Sys2Proof.Machine.execCboCleanInsn c va s
  | .cboFlushInsn c va => Sys2Proof.Machine.execCboFlushInsn c va s
  | .cboInvalInsn c va => Sys2Proof.Machine.execCboInvalInsn c va s
  | .cboZeroInsn c va => Sys2Proof.Machine.execCboZeroInsn c va s
  | .prefetchHint c kind va => Sys2Proof.Machine.execPrefetchHint c kind va s
  | .ntlHint c hint => Sys2Proof.Machine.execNtlHint c hint s
  | .poisonConsumption c => Sys2Proof.Machine.execPoisonConsumption c s
  | .hewnMissTrap c => Sys2Proof.Machine.execHewnMissTrap c s
  | .sfenceVma c va asid => Sys2Proof.Machine.execSfenceVma c va asid s
  | .hfenceVvma c va asid => Sys2Proof.Machine.execHfenceVvma c va asid s
  | .hfenceGvma c gpa vmid => Sys2Proof.Machine.execHfenceGvma c gpa vmid s
  | .sinvalVma c va asid => Sys2Proof.Machine.execSinvalVma c va asid s
  | .hinvalVvma c va asid => Sys2Proof.Machine.execHinvalVvma c va asid s
  | .hinvalGvma c gpa vmid => Sys2Proof.Machine.execHinvalGvma c gpa vmid s
  | .sfenceWInval c => Sys2Proof.Machine.execSfenceWInval c s
  | .sfenceInvalIr c => Sys2Proof.Machine.execSfenceInvalIr c s
  | .satpWrite c reg val => Sys2Proof.Machine.execSatpWrite c reg val s
  | .envcfgCbieWrite c reg cbie => Sys2Proof.Machine.execEnvcfgCbieWrite c reg cbie s
  | .mclkselWrite c val => Sys2Proof.Machine.execMclkselWrite c val s
  | .clockSwitchDone c => Sys2Proof.Machine.execClockSwitchDone c s
  | .pllLock n => Sys2Proof.Machine.execPllLock n s
  | .mcorectlWrite c val => Sys2Proof.Machine.execMcorectlWrite c val s
  | .poisoninfoWrite c lvl val => Sys2Proof.Machine.execPoisoninfoWrite c lvl val s
  | .walkinfoWrite c lvl val => Sys2Proof.Machine.execWalkinfoWrite c lvl val s
  | .mshimctlWrite c val => Sys2Proof.Machine.execMshimctlWrite c val s
  | .stlbcmdWrite c wired => Sys2Proof.Machine.execStlbcmdWrite c wired s
  | .stlbcmdProbe c => Sys2Proof.Machine.execStlbcmdProbe c s
  | .stlbcmdRead c index => Sys2Proof.Machine.execStlbcmdRead c index s
  | .stlbcmdInvalVa c wired => Sys2Proof.Machine.execStlbcmdInvalVa c wired s
  | .stlbcmdInvalAsid c wired => Sys2Proof.Machine.execStlbcmdInvalAsid c wired s
  | .stlbcmdInvalAll c wired => Sys2Proof.Machine.execStlbcmdInvalAll c wired s
  | .walkRequest c src acc va guest => Sys2Proof.Machine.execWalkRequest c src acc va guest s
  | .pteReadReturn c ctx ecc => Sys2Proof.Machine.execPteReadReturn c ctx ecc s
  | .headWalkRequest c => Sys2Proof.Machine.execHeadWalkRequest c s
  | .hpmCounterWrite c idx val => Sys2Proof.Machine.execHpmCounterWrite c idx val s
  | .mhpmeventWrite c idx val => Sys2Proof.Machine.execMhpmeventWrite c idx val s
  | .mcountinhibitWrite c val => Sys2Proof.Machine.execMcountinhibitWrite c val s
  | .counterWrap c idx => Sys2Proof.Machine.execCounterWrap c idx s
  | .notchctlWrite c lvl val => Sys2Proof.Machine.execNotchctlWrite c lvl val s
  | .notchRegisterWrite c lvl reg val => Sys2Proof.Machine.execNotchRegisterWrite c lvl reg val s
  | .mnotchdelegWrite c val => Sys2Proof.Machine.execMnotchdelegWrite c val s
  | .notchTag c => Sys2Proof.Machine.execNotchTag c s
  | .notchWrite c rec => Sys2Proof.Machine.execNotchWrite c rec s
  | .mtimeTick => Sys2Proof.Machine.execMtimeTick s
  | .mtimeWrite f val => Sys2Proof.Machine.execMtimeWrite f val s
  | .mtimecmpWrite f h val => Sys2Proof.Machine.execMtimecmpWrite f h val s
  | .msiWrite f h file id => Sys2Proof.Machine.execMsiWrite f h file id s
  | .debugHaltRequest c => Sys2Proof.Machine.execDebugHaltRequest c s
  | .rdS h => Sys2Proof.Machine.execRdS h s
  | .rdU h => Sys2Proof.Machine.execRdU h s
  | .upg h => Sys2Proof.Machine.execUpg h s
  | .rdNc h => Sys2Proof.Machine.execRdNc h s
  | .wrNc h full => Sys2Proof.Machine.execWrNc h full s
  | .atomNc h op size off => Sys2Proof.Machine.execAtomNc h op size off s
  | .wb h => Sys2Proof.Machine.execWb h s
  | .wbKeep h => Sys2Proof.Machine.execWbKeep h s
  | .cboClean h => Sys2Proof.Machine.execCboClean h s
  | .cboFlush h => Sys2Proof.Machine.execCboFlush h s
  | .cboInval h => Sys2Proof.Machine.execCboInval h s
  | .cboZero h => Sys2Proof.Machine.execCboZero h s
  | .lockFill h => Sys2Proof.Machine.execLockFill h s
  | .snpFwdS h => Sys2Proof.Machine.execSnpFwdS h s
  | .snpFwdU h => Sys2Proof.Machine.execSnpFwdU h s
  | .snpInv h => Sys2Proof.Machine.execSnpInv h s
  | .snpClean h => Sys2Proof.Machine.execSnpClean h s
  | .snpFlush h => Sys2Proof.Machine.execSnpFlush h s
  | .snpDrop h => Sys2Proof.Machine.execSnpDrop h s
  | .rspInvAck h => Sys2Proof.Machine.execRspInvAck h s
  | .rspFwdDone h => Sys2Proof.Machine.execRspFwdDone h s
  | .rspCleanDone h => Sys2Proof.Machine.execRspCleanDone h s
  | .rspNotheld h => Sys2Proof.Machine.execRspNotheld h s
  | .wbCancel h => Sys2Proof.Machine.execWbCancel h s
  | .compAck h => Sys2Proof.Machine.execCompAck h s
  | .goU h => Sys2Proof.Machine.execGoU h s
  | .goDone h => Sys2Proof.Machine.execGoDone h s
  | .wbPull h => Sys2Proof.Machine.execWbPull h s
  | .wbStale h => Sys2Proof.Machine.execWbStale h s
  | .wrPull h => Sys2Proof.Machine.execWrPull h s
  | .err h => Sys2Proof.Machine.execErr h s
  | .dataS h data => Sys2Proof.Machine.execDataS h data s
  | .dataF h data => Sys2Proof.Machine.execDataF h data s
  | .dataE h data => Sys2Proof.Machine.execDataE h data s
  | .dataM h data => Sys2Proof.Machine.execDataM h data s
  | .snpData h data => Sys2Proof.Machine.execSnpData h data s
  | .wbData h data => Sys2Proof.Machine.execWbData h data s
  | .ncRdata h data => Sys2Proof.Machine.execNcRdata h data s
  | .ncWdata h data mask => Sys2Proof.Machine.execNcWdata h data mask s
  | .mgmt m => Sys2Proof.Machine.execMgmt m s
  | .domainDown p => Sys2Proof.Machine.execDomainDown p s
  | .unknownMessageDiscard dst src cls opcode => Sys2Proof.Machine.execUnknownMessageDiscard dst src cls opcode s
  | .bayFillInstall b bmr => Sys2Proof.Machine.execBayFillInstall b bmr s
  | .snoopTimeout home n => Sys2Proof.Machine.execSnoopTimeout home n s
  | .fatalEvent f structure_ inst => Sys2Proof.Machine.execFatalEvent f structure_ inst s
  | .tenonFlitReceived n d => Sys2Proof.Machine.execTenonFlitReceived n d s
  | .tenonParityError n d g seq hits => Sys2Proof.Machine.execTenonParityError n d g seq hits s
  | .nak n d seq g cnt => Sys2Proof.Machine.execNak n d seq g cnt s
  | .nakResendTimeout n d => Sys2Proof.Machine.execNakResendTimeout n d s
  | .credit n d req snp rsp dat msg => Sys2Proof.Machine.execCredit n d req snp rsp dat msg s
  | .steerReq n d g wire spare => Sys2Proof.Machine.execSteerReq n d g wire spare s
  | .steerAck n d g wire spare flit => Sys2Proof.Machine.execSteerAck n d g wire spare flit s
  | .steerReqResend n d => Sys2Proof.Machine.execSteerReqResend n d s
  | .retireReq n d g cause => Sys2Proof.Machine.execRetireReq n d g cause s
  | .retireAck n d g flit => Sys2Proof.Machine.execRetireAck n d g flit s
  | .rotReq n d g => Sys2Proof.Machine.execRotReq n d g s
  | .rotAck n d g flit => Sys2Proof.Machine.execRotAck n d g flit s
  | .layoutSwitch n d => Sys2Proof.Machine.execLayoutSwitch n d s
  | .clockLockLoss n d g => Sys2Proof.Machine.execClockLockLoss n d g s
  | .leakPeriod n d => Sys2Proof.Machine.execLeakPeriod n d s
  | .rotationPeriod n d => Sys2Proof.Machine.execRotationPeriod n d s
  | .rotationTestEnd n d errs => Sys2Proof.Machine.execRotationTestEnd n d errs s
  | .sidebandCopyFailure n d copy => Sys2Proof.Machine.execSidebandCopyFailure n d copy s
  | .park n => Sys2Proof.Machine.execPark n s
  | .wake n => Sys2Proof.Machine.execWake n s
  | .readQueued ch src line => Sys2Proof.Machine.execReadQueued ch src line s
  | .writeQueued ch b line => Sys2Proof.Machine.execWriteQueued ch b line s
  | .readDataReturn ch idx word => Sys2Proof.Machine.execReadDataReturn ch idx word s
  | .writeBurstDone ch idx => Sys2Proof.Machine.execWriteBurstDone ch idx s
  | .refreshDue ch rank => Sys2Proof.Machine.execRefreshDue ch rank s
  | .mr4Read ch rank temp => Sys2Proof.Machine.execMr4Read ch rank temp s
  | .moduleSensorRead ch dimm temps => Sys2Proof.Machine.execModuleSensorRead ch dimm temps s
  | .actSelection ch rank bank row => Sys2Proof.Machine.execActSelection ch rank bank row s
  | .powerDownEntry ch rank => Sys2Proof.Machine.execPowerDownEntry ch rank s
  | .selfRefreshEntry ch rank => Sys2Proof.Machine.execSelfRefreshEntry ch rank s
  | .pageIdleClose ch rank bank => Sys2Proof.Machine.execPageIdleClose ch rank bank s
  | .driftTrack ch => Sys2Proof.Machine.execDriftTrack ch s
  | .deviceCountLeak ch => Sys2Proof.Machine.execDeviceCountLeak ch s
  | .patrolRead ch word => Sys2Proof.Machine.execPatrolRead ch word s
  | .bayPatrolStep b found => Sys2Proof.Machine.execBayPatrolStep b found s
  | .clearRegion ch region => Sys2Proof.Machine.execClearRegion ch region s
  | .clearDone ch => Sys2Proof.Machine.execClearDone ch s
  | .bandwidthWindow q => Sys2Proof.Machine.execBandwidthWindow q s
  | .channelTrainingDone f res => Sys2Proof.Machine.execChannelTrainingDone f res s
  | .purlinFlitReceived p h units fixed => Sys2Proof.Machine.execPurlinFlitReceived p h units fixed s
  | .purlinFlitError p => Sys2Proof.Machine.execPurlinFlitError p s
  | .purlinNak p ack => Sys2Proof.Machine.execPurlinNak p ack s
  | .fastRetrain p ok => Sys2Proof.Machine.execFastRetrain p ok s
  | .purlinLinkLost p => Sys2Proof.Machine.execPurlinLinkLost p s
  | .identityUnit p u => Sys2Proof.Machine.execIdentityUnit p u s
  | .join f => Sys2Proof.Machine.execJoin f s
  | .joinDeadline f => Sys2Proof.Machine.execJoinDeadline f s
  | .timeExchange f => Sys2Proof.Machine.execTimeExchange f s
  | .ridgeRead p pkt => Sys2Proof.Machine.execRidgeRead p pkt s
  | .ridgeWrite p pkt => Sys2Proof.Machine.execRidgeWrite p pkt s
  | .writePosted p pkt => Sys2Proof.Machine.execWritePosted p pkt s
  | .ridgeAtomic p pkt => Sys2Proof.Machine.execRidgeAtomic p pkt s
  | .ridgeFence p pkt => Sys2Proof.Machine.execRidgeFence p pkt s
  | .resp p pkt => Sys2Proof.Machine.execResp p pkt s
  | .linkAck p ack nak req pst rsp => Sys2Proof.Machine.execLinkAck p ack nak req pst rsp s
  | .linkIdent p role lanes rev req pst rsp => Sys2Proof.Machine.execLinkIdent p role lanes rev req pst rsp s
  | .nodeAssign p id => Sys2Proof.Machine.execNodeAssign p id s
  | .nodeConfirm p id refused => Sys2Proof.Machine.execNodeConfirm p id refused s
  | .ridgeCodewordError p retrainOk => Sys2Proof.Machine.execRidgeCodewordError p retrainOk s
  | .ridgeRequestTimeout p tag => Sys2Proof.Machine.execRidgeRequestTimeout p tag s
  | .ridgeTagQuarantineEnd p tag => Sys2Proof.Machine.execRidgeTagQuarantineEnd p tag s
  | .inboundRequest p t => Sys2Proof.Machine.execInboundRequest p t s
  | .intxMessage p root pin assert_ => Sys2Proof.Machine.execIntxMessage p root pin assert_ s
  | .completion p root tag st ep data => Sys2Proof.Machine.execCompletion p root tag st ep data s
  | .completionTimeout p root tag => Sys2Proof.Machine.execCompletionTimeout p root tag s
  | .pcieTagQuarantineEnd p root tag => Sys2Proof.Machine.execPcieTagQuarantineEnd p root tag s
  | .dpcTrigger p root => Sys2Proof.Machine.execDpcTrigger p root s
  | .portLinkEvent p root ev => Sys2Proof.Machine.execPortLinkEvent p root ev s
  | .cxlLinkDown p root => Sys2Proof.Machine.execCxlLinkDown p root s
  | .linkPowerIdle p tgt ltr => Sys2Proof.Machine.execLinkPowerIdle p tgt ltr s
  | .dtCmdTailWrite p val => Sys2Proof.Machine.execDtCmdTailWrite p val s
  | .ringSlotFetch r ok opcode pkt => Sys2Proof.Machine.execRingSlotFetch r ok opcode pkt s
  | .dtRplHeadWrite p val => Sys2Proof.Machine.execDtRplHeadWrite p val s
  | .dtRingCfgWrite p val => Sys2Proof.Machine.execDtRingCfgWrite p val s
  | .dtNqPop p size => Sys2Proof.Machine.execDtNqPop p size s
  | .dtWinCommit p val => Sys2Proof.Machine.execDtWinCommit p val s
  | .barResize p log2Gib => Sys2Proof.Machine.execBarResize p log2Gib s
  | .recoveryWindowAccess p t => Sys2Proof.Machine.execRecoveryWindowAccess p t s
  | .fundamentalReset p => Sys2Proof.Machine.execFundamentalReset p s
  | .hotReset p => Sys2Proof.Machine.execHotReset p s
  | .functionLevelReset p => Sys2Proof.Machine.execFunctionLevelReset p s
  | .getInfo t pkt => Sys2Proof.Machine.execGetInfo t pkt s
  | .getStatus t pkt => Sys2Proof.Machine.execGetStatus t pkt s
  | .abort t pkt => Sys2Proof.Machine.execAbort t pkt s
  | .echo t pkt => Sys2Proof.Machine.execEcho t pkt s
  | .setMode t pkt => Sys2Proof.Machine.execSetMode t pkt s
  | .getMode t pkt => Sys2Proof.Machine.execGetMode t pkt s
  | .frameReset t pkt => Sys2Proof.Machine.execFrameReset t pkt s
  | .studReset t pkt => Sys2Proof.Machine.execStudReset t pkt s
  | .setPowerCap t pkt => Sys2Proof.Machine.execSetPowerCap t pkt s
  | .getPower t pkt => Sys2Proof.Machine.execGetPower t pkt s
  | .setDomainState t pkt => Sys2Proof.Machine.execSetDomainState t pkt s
  | .setPerfPolicy t pkt => Sys2Proof.Machine.execSetPerfPolicy t pkt s
  | .setCooling t pkt => Sys2Proof.Machine.execSetCooling t pkt s
  | .getThermalModel t pkt => Sys2Proof.Machine.execGetThermalModel t pkt s
  | .scrubRange t pkt => Sys2Proof.Machine.execScrubRange t pkt s
  | .injectError t pkt => Sys2Proof.Machine.execInjectError t pkt s
  | .checkerSelftest t pkt => Sys2Proof.Machine.execCheckerSelftest t pkt s
  | .getErrorLog t pkt => Sys2Proof.Machine.execGetErrorLog t pkt s
  | .memTrainSave t pkt => Sys2Proof.Machine.execMemTrainSave t pkt s
  | .bayLockRange t pkt => Sys2Proof.Machine.execBayLockRange t pkt s
  | .bayUnlock t pkt => Sys2Proof.Machine.execBayUnlock t pkt s
  | .benchConfig t pkt => Sys2Proof.Machine.execBenchConfig t pkt s
  | .bayFlushRange t pkt => Sys2Proof.Machine.execBayFlushRange t pkt s
  | .bayInvalidate t pkt => Sys2Proof.Machine.execBayInvalidate t pkt s
  | .scribeFreeze t pkt => Sys2Proof.Machine.execScribeFreeze t pkt s
  | .scribeThaw t pkt => Sys2Proof.Machine.execScribeThaw t pkt s
  | .scribeRead t pkt => Sys2Proof.Machine.execScribeRead t pkt s
  | .scribeClear t pkt => Sys2Proof.Machine.execScribeClear t pkt s
  | .scribeFlush t pkt => Sys2Proof.Machine.execScribeFlush t pkt s
  | .linkStatus t pkt => Sys2Proof.Machine.execLinkStatus t pkt s
  | .tenonMapReadOne t pkt => Sys2Proof.Machine.execTenonMapReadOne t pkt s
  | .tenonMapReadAll t pkt => Sys2Proof.Machine.execTenonMapReadAll t pkt s
  | .tenonMapClear t pkt => Sys2Proof.Machine.execTenonMapClear t pkt s
  | .linkRetrain t pkt => Sys2Proof.Machine.execLinkRetrain t pkt s
  | .portPersonality t pkt => Sys2Proof.Machine.execPortPersonality t pkt s
  | .ridgeExportWrite t pkt => Sys2Proof.Machine.execRidgeExportWrite t pkt s
  | .ridgeExportClear t pkt => Sys2Proof.Machine.execRidgeExportClear t pkt s
  | .ridgeExportRead t pkt => Sys2Proof.Machine.execRidgeExportRead t pkt s
  | .ridgeExportClearAll t pkt => Sys2Proof.Machine.execRidgeExportClearAll t pkt s
  | .fwBegin t pkt => Sys2Proof.Machine.execFwBegin t pkt s
  | .fwChunk t pkt => Sys2Proof.Machine.execFwChunk t pkt s
  | .fwCommit t pkt => Sys2Proof.Machine.execFwCommit t pkt s
  | .fwSessionTimeout => Sys2Proof.Machine.execFwSessionTimeout s
  | .attest t pkt => Sys2Proof.Machine.execAttest t pkt s
  | .commandFinalReply t tag fin => Sys2Proof.Machine.execCommandFinalReply t tag fin s
  | .commandTimeout t tag => Sys2Proof.Machine.execCommandTimeout t tag s
  | .commandCrcFailure t opcode pkt => Sys2Proof.Machine.execCommandCrcFailure t opcode pkt s
  | .badOpcode t opcode pkt => Sys2Proof.Machine.execBadOpcode t opcode pkt s
  | .transportLost t => Sys2Proof.Machine.execTransportLost t s
  | .entdaa addr => Sys2Proof.Machine.execEntdaa addr s
  | .setEndpointId eid => Sys2Proof.Machine.execSetEndpointId eid s
  | .getEndpointId => Sys2Proof.Machine.execGetEndpointId s
  | .getEndpointUuid => Sys2Proof.Machine.execGetEndpointUuid s
  | .getMctpVersionSupport => Sys2Proof.Machine.execGetMctpVersionSupport s
  | .getMessageTypeSupport => Sys2Proof.Machine.execGetMessageTypeSupport s
  | .getVendorDefinedMessageSupport => Sys2Proof.Machine.execGetVendorDefinedMessageSupport s
  | .getVersion t version => Sys2Proof.Machine.execGetVersion t version s
  | .getCapabilities t version => Sys2Proof.Machine.execGetCapabilities t version s
  | .negotiateAlgorithms t version p384 sha384 => Sys2Proof.Machine.execNegotiateAlgorithms t version p384 sha384 s
  | .getDigests t version => Sys2Proof.Machine.execGetDigests t version s
  | .getCertificate t version slot off len => Sys2Proof.Machine.execGetCertificate t version slot off len s
  | .challenge t version slot nonce => Sys2Proof.Machine.execChallenge t version slot nonce s
  | .getMeasurements t version index sign nonce => Sys2Proof.Machine.execGetMeasurements t version index sign nonce s
  | .spdmUnsupportedRequest t version code => Sys2Proof.Machine.execSpdmUnsupportedRequest t version code s
  | .selWrite ap w part val => Sys2Proof.Machine.execSelWrite ap w part val s
  | .nqPop ap part => Sys2Proof.Machine.execNqPop ap part s
  | .nqPopTimeout q => Sys2Proof.Machine.execNqPopTimeout q s
  | .nqLevelWrite q val => Sys2Proof.Machine.execNqLevelWrite q val s
  | .cmdqCmdTailWrite ap part val => Sys2Proof.Machine.execCmdqCmdTailWrite ap part val s
  | .cmdqRplHeadWrite ap part val => Sys2Proof.Machine.execCmdqRplHeadWrite ap part val s
  | .cmdqCfgWrite ap part val => Sys2Proof.Machine.execCmdqCfgWrite ap part val s
  | .bayCtlWrite ap part val => Sys2Proof.Machine.execBayCtlWrite ap part val s
  | .tenonThreshWrite ap part val => Sys2Proof.Machine.execTenonThreshWrite ap part val s
  | .upmuCtlWrite ap k part val => Sys2Proof.Machine.execUpmuCtlWrite ap k part val s
  | .upmuCntWrite ap k part val => Sys2Proof.Machine.execUpmuCntWrite ap k part val s
  | .upmuCounterWrap inst k => Sys2Proof.Machine.execUpmuCounterWrap inst k s
  | .cbqriOperation ap alloc val => Sys2Proof.Machine.execCbqriOperation ap alloc val s
  | .registerWrite tgt val => Sys2Proof.Machine.execRegisterWrite tgt val s
  | .vinSample vin iin => Sys2Proof.Machine.execVinSample vin iin s
  | .inputCurrentLimit above long measured => Sys2Proof.Machine.execInputCurrentLimit above long measured s
  | .stretchCapRestore => Sys2Proof.Machine.execStretchCapRestore s
  | .pwrfailNAssert => Sys2Proof.Machine.execPwrfailNAssert s
  | .pwrfailNRelease => Sys2Proof.Machine.execPwrfailNRelease s
  | .throttleNAssert => Sys2Proof.Machine.execThrottleNAssert s
  | .throttleNRelease => Sys2Proof.Machine.execThrottleNRelease s
  | .controlPeriod power => Sys2Proof.Machine.execControlPeriod power s
  | .studRaiseStep f power => Sys2Proof.Machine.execStudRaiseStep f power s
  | .coolStep => Sys2Proof.Machine.execCoolStep s
  | .coolantSample src ok val => Sys2Proof.Machine.execCoolantSample src ok val s
  | .coolantStale src => Sys2Proof.Machine.execCoolantStale src s
  | .coolantFallbackExit => Sys2Proof.Machine.execCoolantFallbackExit s
  | .thermalRefit n tau1 tau2 gain coupling residual => Sys2Proof.Machine.execThermalRefit n tau1 tau2 gain coupling residual s
  | .sensorSample n temps => Sys2Proof.Machine.execSensorSample n temps s
  | .thermtrip => Sys2Proof.Machine.execThermtrip s
  | .refclkLoss => Sys2Proof.Machine.execRefclkLoss s
  | .idlePromotionSleep c => Sys2Proof.Machine.execIdlePromotionSleep c s
  | .idlePromotionDeep c => Sys2Proof.Machine.execIdlePromotionDeep c s
  | .deepEntryStep c ap => Sys2Proof.Machine.execDeepEntryStep c ap s
  | .wakeEvent c => Sys2Proof.Machine.execWakeEvent c s
  | .arrayRetainEntry b => Sys2Proof.Machine.execArrayRetainEntry b s
  | .domainLowWake d => Sys2Proof.Machine.execDomainLowWake d s
  | .domainLowReturn d => Sys2Proof.Machine.execDomainLowReturn d s
  | .plumbRestart => Sys2Proof.Machine.execPlumbRestart s
  | .scribeSample rec quantity val => Sys2Proof.Machine.execScribeSample rec quantity val s
  | .scribeFreezeExpiry => Sys2Proof.Machine.execScribeFreezeExpiry s
  | .scribePeriodicFlush => Sys2Proof.Machine.execScribePeriodicFlush s
  | .scribeFlushEnd ok => Sys2Proof.Machine.execScribeFlushEnd ok s
  | .repairMapJournalWrite => Sys2Proof.Machine.execRepairMapJournalWrite s
  | .pwrgoodDeassert => Sys2Proof.Machine.execPwrgoodDeassert s
  | .coldReset env => Sys2Proof.Machine.execColdReset env s
  | .exitFromOff env => Sys2Proof.Machine.execExitFromOff env s
  | .resetNAssert => Sys2Proof.Machine.execResetNAssert s
  | .resetNDeassert env => Sys2Proof.Machine.execResetNDeassert env s
  | .coreReset c => Sys2Proof.Machine.execCoreReset c s
  | .linkUp p root link => Sys2Proof.Machine.execLinkUp p root link s
  | .sparePrbsError n d g wire errs => Sys2Proof.Machine.execSparePrbsError n d g wire errs s
  | .commandSlot ch sub => Sys2Proof.Machine.execCommandSlot ch sub s
  | .cxlMemResponse p line data poison => Sys2Proof.Machine.execCxlMemResponse p line data poison s
  | .interruptTaken c => Sys2Proof.Machine.execInterruptTaken c s
  | .instructionFetch c va upset => Sys2Proof.Machine.execInstructionFetch c va upset s
  | .debugUart => Sys2Proof.Machine.execDebugUart s
  | .dtBarRegisterWrite p off size val => Sys2Proof.Machine.execDtBarRegisterWrite p off size val s
  | .hostConfigWrite p reg val => Sys2Proof.Machine.execHostConfigWrite p reg val s

end Sys2Proof.Machine
end

