-- ==== Sys2Proof/Safety.lean ====
section
/-! DEFINITION. What counts as a safe step, in the terms claims use. -/

namespace Sys2Proof

/-- The parameter bytes at the offsets listed are zero, as rsvd bytes must be. -/
abbrev CmdPkt.rsvdZero (p : CmdPkt) (l : List Nat) : Prop := ∀ i ∈ l, p.le i 1 = 0

namespace Machine

/-- The outcome is a next state. -/
def Runs (o : Host.Outcome State Fault Refusal) : Prop := ∃ t, o = .next t

/-- The outcome is a next state with the property P. -/
def RunsTo (o : Host.Outcome State Fault Refusal) (P : State → Prop) : Prop := ∃ t, o = .next t ∧ P t

/-- P holds of the next state whenever the step answers one. -/
def Keeps (P : State → Prop) : Prop := ∀ s t, P s → step s = .next t → P t

/-- TENON_THRESH holds each field in its range, and its reserved bits zero (R212). -/
abbrev State.threshOk (s : State) : Prop :=
  (1 ≤ fld s.threshold 23 16 ∧ fld s.threshold 23 16 ≤ 100) ∧ (1 ≤ fld s.threshold 15 8 ∧ fld s.threshold 15 8 ≤ 100) ∧
  (4 ≤ fld s.threshold 7 0 ∧ fld s.threshold 7 0 ≤ 64) ∧ fld s.threshold 63 24 = 0

/-- Every notice queue holds at most 252 ordinary notices, the line log and its journal image at most 1,024 entries
(R408, R413). -/
abbrev State.bounded (s : State) : Prop :=
  (∀ e ∈ s.frames, e.2.nq.held.length ≤ 252) ∧ (∀ e ∈ s.ports, e.2.dt.nq.held.length ≤ 252) ∧
  s.scribe.log.length ≤ 1024 ∧ s.scribe.jLog.length ≤ 1024

/-- The hart of core k runs in M-mode with MPRV clear; none of its accesses waits or is in flight, no fence is pending,
and no planted error stands in its caches. -/
abbrev Core.quietQ (k : Core) : Prop :=
  k.run = .run ∧ k.regs.priv = 3 ∧ k.regs.virt = false ∧ k.csrBit Csr.mstatus 17 = false ∧ k.pipe.waits = [] ∧
  k.pipe.slots = [] ∧ k.pipe.fence = [] ∧ k.pipe.poison = none ∧ k.pipe.l1bad = [] ∧ k.pipe.l2bad = [] ∧ k.pipe.rob = [] ∧
  k.pipe.stall = none

/-- As `Core.quietQ`, and the store queue is empty. -/
abbrev Core.quiet (k : Core) : Prop := k.quietQ ∧ k.pipe.storeQ = []

/-- DRAM at home in this package. -/
def Region.isDram : Region → Bool
  | .dram _ => true
  | _ => false

/-- The n bytes at pa lie in one line of DRAM at home in this package, in the view of core c's frame. -/
abbrev State.inDram (s : State) (c pa n : Nat) : Prop :=
  0 < n ∧ pa % 64 + n ≤ 64 ∧ (s.region (s.frameOfCore c) pa).isDram = true ∧
  (s.region (s.frameOfCore c) (pa + n - 1)).isDram = true

/-- The messages in flight are as before, but for MSIs that notices caused. -/
abbrev State.keepsNet (s t : State) : Prop :=
  t.net.filter (fun m => m.op != .msiWrite) = s.net.filter (fun m => m.op != .msiWrite)

/-- Every core but c, and everything beside the cores, is as before. -/
abbrev State.onlyCore (s t : State) (c : Nat) : Prop :=
  (∀ d, d ≠ c → t.core d = s.core d) ∧ t = { s with cores := t.cores, free := t.free }

/-- Core c has registers r, and it alone has changed, in its registers and pipeline only. -/
abbrev State.onlyRegs (s t : State) (c : Nat) (r : Regs) : Prop :=
  t.core c = { s.core c with regs := r, pipe := (t.core c).pipe } ∧ s.onlyCore t c

/-- A message has been sent beside what core c did: every core but c is as before, and everything beside cores and messages. -/
abbrev State.onlySends (s t : State) (c : Nat) (m : Msg) : Prop :=
  (∀ d, d ≠ c → t.core d = s.core d) ∧ t = { s with cores := t.cores, free := t.free, net := s.net ++ [m] }

/-- Every core but c, and everything beside cores and messages in flight, is as before. -/
abbrev State.onlyCoreNet (s t : State) (c : Nat) : Prop :=
  (∀ d, d ≠ c → t.core d = s.core d) ∧ t = { s with cores := t.cores, net := t.net }

/-- No reply waits for room in a reply ring. -/
abbrev State.idleRings (s : State) : Prop :=
  (∀ e ∈ s.frames, e.2.ring.replies = []) ∧ ∀ e ∈ s.ports, e.2.dt.replies = []

/-- Home h orders requests, and holds none: no transaction, no reserved way, no fill and no victim stands in it. -/
abbrev State.idleHome (s : State) (h : Nat) : Prop :=
  (s.home h).txs = [] ∧ (s.home h).order = [] ∧ (s.home h).waitReq = [] ∧ (s.home h).dirQ = [] ∧ (s.home h).resv = [] ∧
  (s.home h).bmrs = [] ∧ (s.home h).victims = [] ∧ (s.home h).work = none

/-- The state once the message with this opcode and header has arrived: it is out of flight, and the others have gone as far as
the fabric took them meanwhile. -/
def State.arrived (s : State) (op : MsgOp) (d : Hdr) : State := (s.arrive { op := op, hdr := d }).1

/-- Nothing of a line, of number n at its home h, is under way or waits below the home's array. -/
abbrev State.quietLine (s : State) (h n line : Nat) : Prop :=
  (∀ m ∈ s.net, m.hdr.line ≠ line) ∧ (∀ e ∈ (s.home h).txs, e.2.line ≠ n) ∧ (∀ v ∈ (s.home h).victims, v.line ≠ n) ∧
  (∀ e ∈ (s.chan (s.chanOf h n)).wq, e.line ≠ n) ∧
  ∀ e ∈ s.cores, e.2.pipe.wbOf line = none ∧ e.2.pipe.missOf line = none

/-- A route leads from one agent of this package to another: their stops are of one frame (R17), and a bridge is the frame's (R18). -/
def State.linked (s : State) (a b : Nat) : Bool := s.routed { op := .goDone, hdr := { src := a, dst := b } }

/-- The message with this opcode and header can be taken, and goes from an agent of this package to home h, whose frame and home
run; its requester is an agent of this package that a route leads to. -/
abbrev State.reachesHome (s : State) (op : MsgOp) (d : Hdr) (h : Nat) : Prop :=
  (s.arrive { op := op, hdr := d }).2.isSome = true ∧ homeOfAgent d.dst = some h ∧ s.domainLive d.dst = true ∧ d.srcPkg = s.ownPkg ∧ d.dstPkg = s.ownPkg ∧ d.reqPkg = s.ownPkg ∧
  s.linked d.dst d.reqAgent = true ∧ (s.home h).stopped = false

/-- The line is a bench line that bay h backs. -/
abbrev State.benchLine (s : State) (h line : Nat) : Prop :=
  h < 12 ∧ isBenchAddr (line * 64) = true ∧ (s.home h).benchBusy = false ∧
  line * 64 - benchBase h < (s.home h).bench * 0x400000

/-- The message with this opcode and header names entry i of home h, which holds that one transaction and nothing else that
waits. -/
abbrev State.soleTx (s : State) (op : MsgOp) (d : Hdr) (h i : Nat) (t : HTx) : Prop :=
  s.reachesHome op d h ∧ (s.home h).txs = [(i, t)] ∧ (s.home h).order = [i] ∧ (s.home h).waitReq = [] ∧ (s.home h).dirQ = [] ∧
  (s.home h).victims = [] ∧ (s.home h).work = none ∧ d.htx = i ∧ t.raw = d.line ∧ t.pkg = s.ownPkg ∧ t.hold = [] ∧
  s.linked d.dst t.agent = true

/-- The messages in flight once the message with this opcode and header has arrived. -/
def State.restNet (s : State) (op : MsgOp) (d : Hdr) : List Msg := (s.arrived op d).net

/-- Everything but home h, the messages in flight and the power state of home h's array is as before. -/
abbrev State.onlyHome (s t : State) (h : Nat) : Prop :=
  (∀ k, k ≠ h → t.home k = s.home k) ∧ (∀ e, e ≠ 14 + h → Tab.get t.power.domState 0 e = Tab.get s.power.domState 0 e) ∧
  t = { s with homes := t.homes, net := t.net,
               power := { s.power with domState := t.power.domState, domVolt := t.power.domVolt } }

/-- Of home h only its transactions and its directory have changed. -/
abbrev State.onlyOrders (s t : State) (h : Nat) : Prop :=
  t.home h = { s.home h with txs := (t.home h).txs, order := (t.home h).order, dir := (t.home h).dir, resv := (t.home h).resv,
                             snpCred := (t.home h).snpCred, seqNo := (t.home h).seqNo, ptr := (t.home h).ptr }

/-- Both: nothing but transactions and directory of home h, messages, and the power state of its array. -/
abbrev State.onlyOrder (s t : State) (h : Nat) : Prop := s.onlyHome t h ∧ s.onlyOrders t h

/-- As `onlyOrder`, and the line at a key of memory has been written: no other byte and no other line's mark. -/
abbrev State.onlyLine (s t : State) (h key : Nat) : Prop :=
  (∀ k, k ≠ h → t.home k = s.home k) ∧ (∀ e, e ≠ 14 + h → Tab.get t.power.domState 0 e = Tab.get s.power.domState 0 e) ∧
  (∀ j, j < key ∨ key + 64 ≤ j → Mem.get t.mem j = Mem.get s.mem j) ∧
  (∀ j, j ≠ key → t.memPoison.contains j = s.memPoison.contains j ∧ t.memFound.contains j = s.memFound.contains j) ∧
  s.onlyOrders t h ∧
  t = { s with homes := t.homes, net := t.net, mem := t.mem, memPoison := t.memPoison, memFound := t.memFound,
               power := { s.power with domState := t.power.domState, domVolt := t.power.domVolt } }

/-- Slot i is the only slot in use of core c, nothing else of the core waits, and the message with this
opcode and header can be taken, comes from an agent of this package and answers the slot. -/
abbrev State.soleSlotOf (s : State) (op : MsgOp) (d : Hdr) (c i : Nat) (sl : Slot) : Prop :=
  (s.arrive { op := op, hdr := d }).2.isSome = true ∧ d.dst < 12 ∧ s.domainLive d.dst = true ∧ d.srcPkg = s.ownPkg ∧ d.dstPkg = s.ownPkg ∧ c = d.dst * 32 + d.tag / 128 ∧
  i = d.tag % 128 ∧ (s.core c).pipe.slots = [(i, sl)] ∧ sl.line = d.line ∧ sl.data = none ∧ sl.goU = none ∧
  sl.dpkg = s.ownPkg ∧ s.linked d.dst sl.dst = true ∧ d.line < 2 ^ 49 ∧ (s.core c).pipe.waits = [] ∧ (s.core c).pipe.storeQ = [] ∧ (s.core c).pipe.fence = [] ∧
  (s.core c).pipe.rob = [] ∧ (s.core c).pipe.stall = none ∧ (s.core c).pipe.poison = none

/-- The same, of a slot that has collected no bytes. -/
abbrev State.soleSlot (s : State) (op : MsgOp) (d : Hdr) (c i : Nat) (sl : Slot) : Prop := s.soleSlotOf op d c i sl ∧ sl.mask = 0

/-- Every tenon link but stud n's, every home and channel, and memory are as before. -/
abbrev State.onlyTenon (s t : State) (n : Nat) : Prop :=
  (∀ k, k ≠ n → t.tenon k = s.tenon k) ∧ t.homes = s.homes ∧ t.chans = s.chans ∧ t.mem = s.mem

/-- Every channel but c, cores and frames, and memory are as before. -/
abbrev State.onlyChan (s t : State) (c : Nat) : Prop :=
  (∀ k, k ≠ c → t.chan k = s.chan k) ∧ t.cores = s.cores ∧ t.frames = s.frames ∧ t.mem = s.mem

/-- Every port but p, cores, homes and memory are as before. -/
abbrev State.onlyPort (s t : State) (p : Nat) : Prop :=
  (∀ k, k ≠ p → t.port k = s.port k) ∧ t.cores = s.cores ∧ t.homes = s.homes ∧ t.mem = s.mem

/-- Nothing waits at the ports of frame f, nor in any of its cores but c. -/
abbrev State.quietFrame (s : State) (f : Nat) (c : Option Nat) : Prop :=
  (∀ e ∈ s.ports, e.2.inbQ = []) ∧ ∀ e ∈ s.cores, some e.1 ≠ c → s.frameOfCore e.1 = f →
    e.2.pipe.waits = [] ∧ e.2.pipe.slots = [] ∧ e.2.pipe.storeQ = [] ∧ e.2.pipe.fence = [] ∧ e.2.pipe.rob = [] ∧
    e.2.pipe.stall = none ∧ e.2.pipe.trapped = false

/-- The command that Plumb makes of a packet of opcode op on a transport instance. -/
def State.newJob (s : State) (t : TInst) (op : Nat) (p : CmdPkt) : Job :=
  { t := t, opcode := op, pkt := p, res := s.resources t op p, taken := s.mtime.toNat, no := s.nextNo }

/-- Plumb takes a packet of opcode op on a transport instance and starts it: checks 1 to 5 of R321 pass, it waits for no
earlier command, Plumb in recovery accepts it, its scope may give it, and no frame is being reset. -/
abbrev State.takes (s : State) (t : TInst) (op : Nat) (p : CmdPkt) : Prop :=
  s.canReach t = true ∧ s.takeCheck t op p = none ∧ (s.newJob t op p).behind s.plumb.jobs = false ∧
  (s.plumb.recovery = true → recoveryOk op = true) ∧ (opPackage op = true → s.scopeOf t = none) ∧
  (∀ f ∈ framesOf s.mode, (s.frame f).resetting = false) ∧ ∀ k ∈ s.plumb.jobs, k.no < s.nextNo

/-- A reply to packet p sent on a transport instance, with its COMMAND_DONE where p asks for one. -/
def State.replied (s : State) (t : TInst) (own : Bool) (taken status op : Nat) (p : CmdPkt) (detail : Nat) (payload : List Byte) : State :=
  let u := s.sendReply t own taken (replyPacket status op p.tag.toNat p.seq.toNat detail payload)
  if p.notify then u.commandDone t op p.tag.toNat status else u

/-- A short command answered with OK and a payload. -/
def State.answer (s : State) (t : TInst) (op : Nat) (p : CmdPkt) (payload : List Byte) : State :=
  s.replied t false s.mtime.toNat stOk op p 0 payload

/-- A short command answered with another status. -/
def State.refuse (s : State) (t : TInst) (status op : Nat) (p : CmdPkt) (detail : Nat) : State :=
  s.replied t false s.mtime.toNat status op p detail []

/-- The state in which the long command has been answered with ACCEPTED and runs, everything else as before. -/
def State.startedAs (s : State) (t : TInst) (op : Nat) (p : CmdPkt) : State :=
  let u := ({ s with plumb := { s.plumb with jobs := s.plumb.jobs ++ [{ s.newJob t op p with acc := true }] } } : State).sendReply t false
    s.mtime.toNat (replyPacket stAccepted op p.tag.toNat p.seq.toNat 0 [])
  { u with plumb := { u.plumb with jobs := u.plumb.jobs.map (fun k => if k.no = s.nextNo then { k with running := true } else k) } }

/-- Job j runs and can end now, and no other command waits. -/
abbrev State.endsNow (s : State) (j : Job) (op : Nat) : Prop :=
  s.live = true ∧ s.runningJob j.t j.pkt.tag.toNat = some j ∧ s.plumb.jobs.filter (fun k => k.no == j.no) = [j] ∧
  (∀ k ∈ s.plumb.jobs, k.running = true) ∧ j.opcode = op ∧ s.ready j = true

/-- Job j has ended with a final reply, unless its transport instance was lost: its bays no longer show CMD_BUSY, and a bench that
no other BENCH_CONFIG holds answers again. -/
def State.endedAs (s : State) (j : Job) (status : Nat) (payload : List Byte) : State :=
  let u := (s.markBusy j false).countEnd status
  let u := { u with plumb := { u.plumb with jobs := u.plumb.jobs.filter (fun k => k.no != j.no) } }
  let u := if j.lost then u else u.replied j.t j.acc j.taken status j.opcode j.pkt 0 payload
  if j.opcode = 0x42 then u.benchHold (j.pkt.byte 0) else u

/-- Plumb, memory, homes, channels and tenon links of u are those of r. -/
abbrev State.asIn (u r : State) : Prop :=
  u.plumb = r.plumb ∧ u.mem = r.mem ∧ u.memPoison = r.memPoison ∧ u.homes = r.homes ∧ u.chans = r.chans ∧ u.tenons = r.tenons

/-- Homes, memory, messages in flight and channels are as before. -/
abbrev State.keepsData (s u : State) : Prop := u.homes = s.homes ∧ u.mem = s.mem ∧ u.net = s.net ∧ u.chans = s.chans

end Machine

end Sys2Proof
end

