-- ==== Sys2Proof/Certificates/Slice0/Obligations.lean ====
section
/-! DEFINITION. What the provers prove of the model: what a step runs, what every command does and keeps, and the
invariants of every step. -/

set_option linter.unusedVariables false

open Sys2Proof Sys2Proof.Machine

/-- For every command c, state s and queue rest r: step of s with c at the front and r behind it is exec of c on s with r as its queue, one command at a time; the queue itself, and that a step on an empty queue answers the state as it is, are the model's own choice (log entry 6). -/
def Obligations.StepRunsTheFrontCommand : Prop :=
  (∀ (c : Instr) (r : List Instr) (s : State), step { s with pending := c :: r } = exec c { s with pending := r }) ∧
  (∀ s : State, s.pending = [] → step s = .next s)

/-- exec answers a next state for every state and every command, except VIN_SAMPLE at more than 66 V, or at 4.5 V or less on a live package; no command is refused. -/
def Obligations.OnlyVinSamplesStop : Prop :=
  ∀ (c : Instr) (s : State),
    (∀ v i, c = .vinSample v i → v ≤ 66000 ∧ (s.live = true → 4500 < v)) → Runs (exec c s)

/-- At reset PWRGOOD is deasserted and D0 does not run; the outputs float; no core, message or notice is there; memory lists nothing and reads zero; every bay has EN 1, WT 0, no bench or locked way and its LFSR at 0x1111 x (bay + 1); the MCH, NQ, UPMU, TENON_THRESH and CMDQ registers hold their Reset values; mode 0; the configured cap is log entry 1's; and memory is canonical, TENON_THRESH in its ranges, the queues and the line log within their bounds. -/
def Obligations.ResetState : Prop :=
  (State.reset.pins.pwrgood = false ∧ State.reset.plumb.on = false ∧ State.reset.pins.driven = false ∧ State.reset.pins.vaux = false) ∧
  (State.reset.cores = [] ∧ State.reset.net = [] ∧ State.reset.pending = [] ∧ State.reset.mem = [] ∧ ∀ k, Mem.get State.reset.mem k = 0) ∧
  (∀ b, b < 12 → (State.reset.home b).en = true ∧ (State.reset.home b).wt = false ∧ (State.reset.home b).bench = 0 ∧ (State.reset.home b).lockW = 0 ∧
    (State.reset.home b).lfsr = BitVec.ofNat 16 (0x1111 * (b + 1))) ∧
  (∀ c, (State.reset.chan c).sched = 0x40200C08 ∧ (State.reset.chan c).refresh = 0x40 ∧ (State.reset.chan c).rh = 0x20B ∧
    (State.reset.chan c).pwr = 0x10A ∧ (State.reset.chan c).ecc = 0x208000000000 ∧ (State.reset.chan c).patrolCtl = 0x118) ∧
  (∀ f, (State.reset.frame f).nqLevel = 1 ∧ (State.reset.frame f).nqTimeout = 10 ∧ (State.reset.frame f).csErr = 0 ∧ (State.reset.frame f).booted = false) ∧
  (∀ i k, Tab.get (State.reset.upmu i).ctl 0 k = 0 ∧ Tab.get (State.reset.upmu i).cnt 0 k = 0) ∧
  (State.reset.mode = 0 ∧ State.reset.threshold = 0x0A0A10 ∧ State.reset.power.capCfg = 700 ∧ State.reset.mtime = 0) ∧
  (Memory.wf State.reset.mem = true ∧ State.reset.threshOk ∧ State.reset.bounded)

/-- In M-mode, for a line of DRAM that L2 holds: a load binds the line's bytes to its destination, or on a poisoned line writes no register and records the consumption, but for a fault-only-first load whose poisoned element is not element 0, which only trims vl; a store only enters the store queue; the queue's head is written into L2 in unique ownership, state M. Nothing else of the package changes; L2 holds the same lines but for the bytes stored. An upset of the core's caches that is recovered changes neither what the load binds, nor L2, nor memory or another core. HLV, HLVX and HSV from V = 1 raise virtual-instruction, code 22, with the pc saved, and a load into a unit that mstatus has off raises illegal-instruction, code 2 (log entry 9). -/
def Obligations.HartLoadsStoresAndDrainsOfDram : Prop :=
  (∀ (s : State) (c : CoreId) (va : Word) (size : Nat) (dest : Dest) (sext : Bool) (e : L2Line),
    (s.core c).quiet →
    (s.core c).destLegal dest = 0 →
    s.inDram c va.toNat size →
    (s.core c).pipe.find2 (va.toNat / 64) = some e →
    e.poison = false →
    RunsTo (exec (.load c va size dest sext .no .none) s) fun t =>
      s.onlyRegs t c ((s.core c).deliverAcc { va := va, pa := va.toNat, size := size, dest := dest, sext := sext }
        (lineBytes e.data (va.toNat % 64) size)).regs ∧
      (∀ l, (t.core c).pipe.find2 l = (s.core c).pipe.find2 l) ∧ (t.core c).pipe.storeQ = []) ∧
  (∀ (s : State) (c : CoreId) (va : Word) (size : Nat) (dest : Dest) (sext : Bool) (e : L2Line),
    (s.core c).quiet →
    (s.core c).destLegal dest = 0 →
    s.inDram c va.toNat size →
    (s.core c).pipe.find2 (va.toNat / 64) = some e →
    e.poison = true →
    (∀ vd elem, dest = .v vd elem true → elem = 0) →
    RunsTo (exec (.load c va size dest sext .no .none) s) fun t =>
      s.onlyRegs t c (s.core c).regs ∧
      (t.core c).pipe.poison = some { va := va, pa := va.toNat / 64 * 64, src := e.src, kind := poisonKind { dest := dest }, elem := (destElem? dest).getD 0, pc := (s.core c).regs.pc } ∧
      (∀ l, (t.core c).pipe.find2 l = (s.core c).pipe.find2 l)) ∧
  (∀ (s : State) (c : CoreId) (va : Word) (size : Nat) (vd : Fin 32) (elem : Nat) (sext : Bool) (e : L2Line),
    (s.core c).quiet →
    (s.core c).destLegal (.v vd elem true) = 0 →
    s.inDram c va.toNat size →
    (s.core c).pipe.find2 (va.toNat / 64) = some e →
    e.poison = true →
    elem ≠ 0 →
    RunsTo (exec (.load c va size (.v vd elem true) sext .no .none) s) fun t =>
      s.onlyRegs t c ({ (s.core c).regs with vl := elem }.dirty 10 9) ∧ (t.core c).pipe.poison = none ∧
      (∀ l, (t.core c).pipe.find2 l = (s.core c).pipe.find2 l)) ∧
  (∀ (s : State) (c : CoreId) (va : Word) (size : Nat) (dest : Dest) (sext : Bool) (u : Upset) (e : L2Line),
    (s.core c).quiet →
    (s.core c).destLegal dest = 0 →
    s.inDram c va.toNat size →
    (s.core c).pipe.find2 (va.toNat / 64) = some e →
    e.poison = false →
    u ≠ .none →
    RunsTo (exec (.load c va size dest sext .no u) s) fun t =>
      (t.core c).regs = ((s.core c).deliverAcc { va := va, pa := va.toNat, size := size, dest := dest, sext := sext }
        (lineBytes e.data (va.toNat % 64) size)).regs ∧
      (∀ l, (t.core c).pipe.find2 l = (s.core c).pipe.find2 l) ∧ (t.core c).pipe.storeQ = [] ∧
      (∀ d, d ≠ c.val → t.core d = s.core d) ∧ t.mem = s.mem) ∧
  (∀ (s : State) (c : CoreId) (va : Word) (size : Nat) (val : BitVec 128) (dest : Dest) (sext : Bool) (h : HypKind) (u : Upset) (i : Instr),
    (s.core c).run = .run →
    (s.core c).regs.virt = true →
    (s.core c).regs.priv < 3 →
    (s.core c).pipe.settled = true →
    (s.core c).csrBit Csr.medeleg 22 = false →
    h ≠ .no →
    i ∈ [.load c va size dest sext h u, .store c va size val true] →
    (s.core c).pipe.snpQ = [] →
    RunsTo (exec i s) fun t =>
      (t.core c).csr Csr.mcause = 22 ∧ (t.core c).csr Csr.mepc = (s.core c).regs.pc ∧ (t.core c).regs.priv = 3 ∧
      (t.core c).regs.virt = false ∧ (t.core c).regs.x = (s.core c).regs.x ∧ (t.core c).regs.f = (s.core c).regs.f ∧
      (t.core c).regs.v = (s.core c).regs.v ∧ (t.core c).pipe.storeQ = (s.core c).pipe.storeQ ∧ s.onlyCore t c) ∧
  (∀ (s : State) (c : CoreId) (va : Word) (size : Nat) (dest : Dest) (sext : Bool) (u : Upset),
    (s.core c).run = .run →
    (s.core c).regs.priv = 3 →
    (s.core c).regs.virt = false →
    (s.core c).pipe.settled = true →
    (s.core c).destLegal dest = 2 →
    (s.core c).pipe.snpQ = [] →
    RunsTo (exec (.load c va size dest sext .no u) s) fun t =>
      (t.core c).csr Csr.mcause = 2 ∧ (t.core c).csr Csr.mepc = (s.core c).regs.pc ∧ (t.core c).regs.priv = 3 ∧
      (t.core c).regs.x = (s.core c).regs.x ∧ (t.core c).regs.f = (s.core c).regs.f ∧
      (t.core c).regs.v = (s.core c).regs.v ∧ (t.core c).pipe.storeQ = (s.core c).pipe.storeQ ∧ s.onlyCore t c) ∧
  (∀ (s : State) (c : CoreId) (va : Word) (size : Nat) (val : BitVec 128),
    (s.core c).quietQ →
    (s.core c).pipe.storeQ.length < 128 →
    s.inDram c va.toNat size →
    RunsTo (exec (.store c va size val false) s) fun t =>
      (t.core c).pipe.storeQ.dropLast = (s.core c).pipe.storeQ ∧
      (t.core c).pipe.storeQ.getLast?.map (fun e => (e.acc.kind, e.acc.va, e.acc.pa, e.acc.size, e.acc.data)) = some (.store, va, va.toNat, size, val) ∧
      (t.core c).pipe.l2 = (s.core c).pipe.l2 ∧ s.onlyRegs t c (s.core c).regs) ∧
  (∀ (s : State) (c : CoreId) (e : StoreEnt) (r : List StoreEnt) (x : L2Line),
    (s.core c).quietQ →
    (s.core c).pipe.storeQ = e :: r →
    e.acc.kind = .store →
    e.acc.nc = false →
    e.acc.split = 0 →
    s.inDram c e.acc.pa e.acc.size →
    (s.core c).pipe.find2 (e.acc.pa / 64) = some x →
    x.st.unique = true →
    RunsTo (exec (.storeQueueDrain c) s) fun t =>
      (t.core c).pipe.storeQ = r ∧
      (t.core c).pipe.find2 (e.acc.pa / 64) = some (x.write (placeInLine (e.acc.data.toNat % 2 ^ (8 * e.acc.size)) (e.acc.pa % 64))
        (byteMask (e.acc.pa % 64) e.acc.size) .m) ∧
      (∀ l, l ≠ e.acc.pa / 64 → (t.core c).pipe.find2 l = (s.core c).pipe.find2 l) ∧
      s.onlyRegs t c (s.core c).regs)

/-- On a line of DRAM that L2 holds in unique ownership, in M-mode: an AMO returns the old bytes and writes the operation's result into L2; an LR returns the bytes, reserves the block and holds the line; an SC to the reserved block writes its bytes and returns 0; any other SC writes nothing and returns 1; after either the reservation is lost and the hold has ended. When the bound of 128 cycles passes the hold ends and no deferred snoop is left; with none deferred nothing else changes. But for an expiry that answers deferred snoops nothing beside the core changes. -/
def Obligations.AtomicsAndReservations : Prop :=
  (∀ (s : State) (c : CoreId) (va : Word) (size : Nat) (op : AmoOp) (val cmp : BitVec 128) (rd : Fin 32) (aq rl : Bool) (x : L2Line),
    (s.core c).quiet →
    s.inDram c va.toNat size →
    va.toNat % 16 + size ≤ 16 →
    (s.core c).pipe.find2 (va.toNat / 64) = some x →
    x.st.unique = true →
    x.poison = false →
    RunsTo (exec (.amo c va size op val cmp rd aq rl) s) fun t =>
      s.onlyRegs t c ((s.core c).deliverAcc { va := va, size := size, dest := .x rd, sext := true }
        (lineBytes x.data (va.toNat % 64) size)).regs ∧
      (t.core c).pipe.find2 (va.toNat / 64) = some (x.write (placeInLine
        (amoResult op size (lineBytes x.data (va.toNat % 64) size) val.toNat cmp.toNat % 2 ^ (8 * size)) (va.toNat % 64))
        (byteMask (va.toNat % 64) size) .m) ∧
      (∀ l, l ≠ va.toNat / 64 → (t.core c).pipe.find2 l = (s.core c).pipe.find2 l)) ∧
  (∀ (s : State) (c : CoreId) (va : Word) (size : Nat) (rd : Fin 32) (aq rl : Bool) (x : L2Line),
    (s.core c).quiet →
    s.inDram c va.toNat size →
    va.toNat % size = 0 →
    (s.core c).pipe.find2 (va.toNat / 64) = some x →
    x.st.unique = true →
    x.poison = false →
    (s.core c).pipe.snpQ = [] →
    RunsTo (exec (.lr c va size rd aq rl) s) fun t =>
      s.onlyRegs t c ((s.core c).deliverAcc { va := va, size := size, dest := .x rd, sext := true }
        (lineBytes x.data (va.toNat % 64) size)).regs ∧
      (t.core c).pipe.resv = some (va.toNat / 64) ∧ (t.core c).pipe.hold = some (va.toNat / 64) ∧
      (∀ l, (t.core c).pipe.find2 l = (s.core c).pipe.find2 l)) ∧
  (∀ (s : State) (c : CoreId) (va : Word) (size : Nat) (val : BitVec 128) (rd : Fin 32) (aq rl : Bool) (x : L2Line),
    (s.core c).quiet →
    s.inDram c va.toNat size →
    va.toNat % size = 0 →
    (s.core c).pipe.find2 (va.toNat / 64) = some x →
    x.st.unique = true →
    (s.core c).pipe.resv = some (va.toNat / 64) →
    (s.core c).pipe.snpQ = [] →
    RunsTo (exec (.sc c va size val rd aq rl) s) fun t =>
      s.onlyRegs t c ((s.core c).regs.writeX rd 0) ∧
      (t.core c).pipe.find2 (va.toNat / 64) = some (x.write (placeInLine (val.toNat % 2 ^ (8 * size)) (va.toNat % 64))
        (byteMask (va.toNat % 64) size) .m) ∧
      (∀ l, l ≠ va.toNat / 64 → (t.core c).pipe.find2 l = (s.core c).pipe.find2 l) ∧
      (t.core c).pipe.resv = none ∧ (t.core c).pipe.hold = none) ∧
  (∀ (s : State) (c : CoreId) (va : Word) (size : Nat) (val : BitVec 128) (rd : Fin 32) (aq rl : Bool),
    (s.core c).quiet →
    s.inDram c va.toNat size →
    va.toNat % size = 0 →
    (s.core c).pipe.resv ≠ some (va.toNat / 64) →
    (s.core c).pipe.snpQ = [] →
    RunsTo (exec (.sc c va size val rd aq rl) s) fun t =>
      s.onlyRegs t c ((s.core c).regs.writeX rd 1) ∧ (t.core c).pipe.l2 = (s.core c).pipe.l2 ∧
      (t.core c).pipe.resv = none ∧ (t.core c).pipe.hold = none) ∧
  (∀ (s : State) (c : CoreId),
    RunsTo (exec (.lrHoldExpiry c) s) fun t =>
      (t.core c).pipe.hold = none ∧ (t.core c).pipe.snpQ = [] ∧
      ((s.core c).pipe.snpQ = [] → (t.core c).pipe.resv = (s.core c).pipe.resv ∧ (t.core c).pipe.l2 = (s.core c).pipe.l2 ∧
        (t.core c).regs = (s.core c).regs ∧ s.onlyCore t c))

/-- A FENCE whose predecessor set holds W, and a FENCE.I, stay pending while an older store is queued, and are done at once when nothing of the hart waits; while one is pending a later load that its successor set names waits and writes no register. WFI, WRS.NTO and WRS.STO idle a core on which nothing is outstanding unless an enabled interrupt is pending; without a reservation WRS completes at once; the 2 µs bound ends a WRS.STO. -/
def Obligations.FencesAndWaits : Prop :=
  (∀ (s : State) (c : CoreId) (pred succ : BitVec 4),
    (s.core c).quietQ →
    (∃ e ∈ (s.core c).pipe.storeQ, e.seq < (s.core c).pipe.seq) →
    pred.getLsbD 0 = true →
    succ ≠ 0 →
    RunsTo (exec (.fence c pred succ) s) fun t =>
      (t.core c).pipe.fence = [{ seq := (s.core c).pipe.seq, pc := (s.core c).regs.pc, pred := pred, succ := succ }] ∧
      (t.core c).pipe.storeQ = (s.core c).pipe.storeQ ∧ (t.core c).pipe.l2 = (s.core c).pipe.l2 ∧ s.onlyRegs t c (s.core c).regs) ∧
  (∀ (s : State) (c : CoreId) (pred succ : BitVec 4),
    (s.core c).quiet →
    RunsTo (exec (.fence c pred succ) s) fun t =>
      (t.core c).pipe.fence = [] ∧ (t.core c).pipe.l2 = (s.core c).pipe.l2 ∧ (t.core c).pipe.waits = [] ∧
      s.onlyRegs t c (s.core c).regs) ∧
  (∀ (s : State) (c : CoreId) (va : Word) (size : Nat) (dest : Dest) (sext : Bool) (f : Fence),
    ((s.core c).run = .run ∧ (s.core c).regs.priv = 3 ∧ (s.core c).regs.virt = false ∧ (s.core c).csrBit Csr.mstatus 17 = false) →
    (s.core c).pipe.fence = [f] →
    f.seq < (s.core c).pipe.seq →
    f.all = false →
    f.succ.getLsbD 1 = true →
    (s.core c).pipe.waits = [] →
    (s.core c).pipe.slots = [] →
    (s.core c).pipe.rob = [] →
    s.inDram c va.toNat size →
    RunsTo (exec (.load c va size dest sext .no .none) s) fun t =>
      (t.core c).pipe.waits.map (fun w => (w.acc.va, w.seq)) = [(va, (s.core c).pipe.seq)] ∧
      (t.core c).pipe.fence = (s.core c).pipe.fence ∧ (t.core c).pipe.storeQ = (s.core c).pipe.storeQ ∧
      s.onlyRegs t c (s.core c).regs) ∧
  (∀ (s : State) (c : CoreId),
    (s.core c).quietQ →
    (∃ e ∈ (s.core c).pipe.storeQ, e.seq < (s.core c).pipe.seq) →
    RunsTo (exec (.fenceI c) s) fun t =>
      (t.core c).pipe.fence = [{ seq := (s.core c).pipe.seq, pc := (s.core c).regs.pc, pred := 0b0101, all := true }] ∧
      (t.core c).pipe.storeQ = (s.core c).pipe.storeQ ∧ (t.core c).pipe.l1i = (s.core c).pipe.l1i ∧ s.onlyRegs t c (s.core c).regs) ∧
  (∀ (s : State) (c : CoreId),
    (s.core c).quiet →
    RunsTo (exec (.fenceI c) s) fun t =>
      (t.core c).pipe.fence = [] ∧ (t.core c).pipe.l1i = (s.core c).pipe.l1i ∧ (t.core c).pipe.l2 = (s.core c).pipe.l2 ∧
      s.onlyRegs t c (s.core c).regs) ∧
  (∀ (s : State) (c : CoreId),
    (s.core c).run = .run →
    (s.core c).pipe.settled = true →
    (s.core c).waitLegal = 0 →
    (s.core c).wakes (s.coreTime c) = false →
    exec (.wfi c) s = .next (s.setCore c { s.core c with run := .idle, waiting := .wfi })) ∧
  (∀ (s : State) (c : CoreId),
    (s.core c).run = .run →
    (s.core c).pipe.settled = true →
    (s.core c).waitLegal = 0 →
    (s.core c).wakes (s.coreTime c) = true →
    exec (.wfi c) s = .next s) ∧
  (∀ (s : State) (c : CoreId),
    (s.core c).run = .run →
    (s.core c).pipe.settled = true →
    (s.core c).waitLegal = 0 →
    (s.core c).pipe.resv.isSome = true →
    (s.core c).wakes (s.coreTime c) = false →
    exec (.wrsNto c) s = .next (s.setCore c { s.core c with run := .idle, waiting := .wrsNto })) ∧
  (∀ (s : State) (c : CoreId),
    (s.core c).run = .run →
    (s.core c).pipe.settled = true →
    (s.core c).waitLegal = 0 →
    (s.core c).pipe.resv = none →
    exec (.wrsNto c) s = .next s) ∧
  (∀ (s : State) (c : CoreId),
    (s.core c).run = .run →
    (s.core c).pipe.settled = true →
    (s.core c).pipe.resv.isSome = true →
    (s.core c).wakes (s.coreTime c) = false →
    exec (.wrsSto c) s = .next (s.setCore c { s.core c with run := .idle, waiting := .wrsSto })) ∧
  (∀ (s : State) (c : CoreId),
    (s.core c).run = .run →
    (s.core c).pipe.settled = true →
    (s.core c).pipe.resv = none →
    exec (.wrsSto c) s = .next s) ∧
  (∀ (s : State) (c : CoreId),
    (s.core c).waiting = .wrsSto →
    (s.core c).run = .idle →
    exec (.wrsStoTimeout c) s = .next (s.setCore c { s.core c with waiting := .nothing, run := .run }))

/-- In M-mode on DRAM of the package: cbo.clean, cbo.flush and cbo.inval take a cache-block slot and send their request to the home of the line, cbo.inval discarding the hart's own copy first; cbo.zero zeroes a line held in unique ownership and clears its poison mark, and for a line not held asks for it with CBO_ZERO without data; prefetch.w asks for a line not held in unique ownership and the other prefetches ask for it shared; a non-temporal hint is kept for the next access. -/
def Obligations.CacheBlockOperationsAndHints : Prop :=
  (∀ (s : State) (c : CoreId) (va : Word) (ag : Nat),
    (s.core c).quiet →
    s.inDram c va.toNat 1 →
    s.target (s.frameOfCore c) ((va.toNat / 64) * 64) = some (ag, s.ownPkg) →
    (s.tenon (c.val / 32)).st ≠ 3 →
    RunsTo (exec (.cboCleanInsn c va) s) fun t =>
      s.onlySends t c { op := .cboClean, hdr := s.reqHdr c 112 (va.toNat / 64) ag s.ownPkg false, size := 1, off := va.toNat % 64, loc := .src } ∧
      (t.core c).pipe.slots.map (fun e => (e.1, e.2.kind, e.2.line)) = [(112, .cbo, va.toNat / 64)] ∧
      (t.core c).pipe.l2 = (s.core c).pipe.l2 ∧ (t.core c).regs = (s.core c).regs) ∧
  (∀ (s : State) (c : CoreId) (va : Word) (ag : Nat),
    (s.core c).quiet →
    s.inDram c va.toNat 1 →
    s.target (s.frameOfCore c) ((va.toNat / 64) * 64) = some (ag, s.ownPkg) →
    (s.tenon (c.val / 32)).st ≠ 3 →
    RunsTo (exec (.cboFlushInsn c va) s) fun t =>
      s.onlySends t c { op := .cboFlush, hdr := s.reqHdr c 112 (va.toNat / 64) ag s.ownPkg false, size := 1, off := va.toNat % 64, loc := .src } ∧
      (t.core c).pipe.slots.map (fun e => (e.1, e.2.kind, e.2.line)) = [(112, .cbo, va.toNat / 64)] ∧
      (t.core c).pipe.l2 = (s.core c).pipe.l2 ∧ (t.core c).regs = (s.core c).regs) ∧
  (∀ (s : State) (c : CoreId) (va : Word) (ag : Nat),
    (s.core c).quiet →
    s.inDram c va.toNat 1 →
    s.target (s.frameOfCore c) ((va.toNat / 64) * 64) = some (ag, s.ownPkg) →
    (s.tenon (c.val / 32)).st ≠ 3 →
    RunsTo (exec (.cboInvalInsn c va) s) fun t =>
      s.onlySends t c { op := .cboInval, hdr := s.reqHdr c 112 (va.toNat / 64) ag s.ownPkg false, size := 1, off := va.toNat % 64, loc := .src } ∧
      (t.core c).pipe.slots.map (fun e => (e.1, e.2.kind, e.2.line)) = [(112, .cbo, va.toNat / 64)] ∧
      (t.core c).pipe.find2 (va.toNat / 64) = none ∧ (t.core c).regs = (s.core c).regs) ∧
  (∀ (s : State) (c : CoreId) (va : Word) (x : L2Line),
    (s.core c).quiet →
    s.inDram c va.toNat 1 →
    (s.core c).pipe.find2 (va.toNat / 64) = some x →
    x.st.unique = true →
    RunsTo (exec (.cboZeroInsn c va) s) fun t =>
      (t.core c).pipe.find2 (va.toNat / 64) = some { x with data := 0, st := .m, poison := false } ∧
      (∀ l, l ≠ va.toNat / 64 → (t.core c).pipe.find2 l = (s.core c).pipe.find2 l) ∧ s.onlyRegs t c (s.core c).regs) ∧
  (∀ (s : State) (c : CoreId) (va : Word) (ag : Nat),
    (s.core c).quiet →
    s.inDram c va.toNat 1 →
    s.target (s.frameOfCore c) ((va.toNat / 64) * 64) = some (ag, s.ownPkg) →
    (s.tenon (c.val / 32)).st ≠ 3 →
    (s.core c).pipe.find2 (va.toNat / 64) = none →
    RunsTo (exec (.cboZeroInsn c va) s) fun t =>
      s.onlySends t c { op := .cboZero, hdr := s.reqHdr c 0 (va.toNat / 64) ag s.ownPkg ((s.core c).pipe.ntl == some .all), size := 1, off := va.toNat % 64, loc := .src } ∧
      (t.core c).pipe.slots.map (fun e => (e.1, e.2.kind, e.2.line, e.2.op)) = [(0, .miss, va.toNat / 64, .cboZero)] ∧
      (t.core c).pipe.l2 = (s.core c).pipe.l2 ∧ (t.core c).regs = (s.core c).regs) ∧
  (∀ (s : State) (c : CoreId) (va : Word) (ag : Nat) (kind : PrefKind) (op : MsgOp),
    (s.core c).quiet →
    s.inDram c va.toNat 1 →
    (s.region (s.frameOfCore c) ((va.toNat / 64) * 64)).isDram = true →
    s.target (s.frameOfCore c) ((va.toNat / 64) * 64) = some (ag, s.ownPkg) →
    (s.tenon (c.val / 32)).st ≠ 3 →
    (s.core c).pipe.find2 (va.toNat / 64) = none →
    op = (if kind = .w then .rdU else .rdS) →
    RunsTo (exec (.prefetchHint c kind va) s) fun t =>
      s.onlySends t c { op := op, hdr := s.reqHdr c 0 (va.toNat / 64) ag s.ownPkg ((s.core c).pipe.ntl == some .all), loc := .src } ∧
      (t.core c).pipe.slots.map (fun e => (e.1, e.2.kind, e.2.line, e.2.op)) = [(0, .miss, va.toNat / 64, op)] ∧
      (t.core c).pipe.l2 = (s.core c).pipe.l2 ∧ (t.core c).regs = (s.core c).regs) ∧
  (∀ (s : State) (c : CoreId) (hint : Ntl),
    (s.core c).run = .run →
    exec (.ntlHint c hint) s = .next (s.setCore c { s.core c with pipe := { (s.core c).pipe with ntl := some hint } }))

/-- Poisoned data at retirement raises code 25 with the virtual address in the trap value, records the line, its supplier and the access kind in the poison record of the level that takes the trap, and writes no general, floating-point or vector register; a VALID record keeps its fields and gains OVERRUN. A hewn miss raises code 24 once it is the oldest instruction and loads stlbtag with the ASID of satp and the page, and stlbcmd.MISS_ACCESS with the access type. Memory is not touched. -/
def Obligations.TrapsOfPoisonAndHewnMisses : Prop :=
  (∀ (s : State) (c : CoreId) (p : PoisonRec),
    (s.core c).awake = true →
    (s.core c).pipe.poison = some p →
    (s.core c).regs.trapTarget { cause := 25 } = 3 →
    (s.core c).csrBit Csr.mpoisoninfo 0 = false →
    p.kind < 4 →
    p.src < 7 →
    p.pa < 2 ^ 56 →
    (∀ e ∈ s.frames, e.2.nq.stalled = []) →
    (s.core c).pipe.snpQ = [] →
    RunsTo (exec (.poisonConsumption c) s) fun t =>
      (t.core c).csr Csr.mcause = 25 ∧ (t.core c).csr Csr.mtval = p.va ∧ (t.core c).csr Csr.mepc = p.pc ∧
      (t.core c).regs.priv = 3 ∧ (t.core c).regs.virt = false ∧
      fld ((t.core c).csr Csr.mpoisoninfo) 55 6 = p.pa / 64 ∧ fld ((t.core c).csr Csr.mpoisoninfo) 5 3 = p.src ∧
      fld ((t.core c).csr Csr.mpoisoninfo) 2 1 = p.kind ∧ (t.core c).csrBit Csr.mpoisoninfo 0 = true ∧
      (t.core c).csrBit Csr.mpoisoninfo 56 = (s.core c).csrBit Csr.mpoisoninfo 56 ∧
      (t.core c).pipe.poison = none ∧ (t.core c).pipe.resv = none ∧
      (t.core c).regs.vstart = (if p.kind = 3 then p.elem else (s.core c).regs.vstart) ∧
      (t.core c).regs.x = (s.core c).regs.x ∧ (t.core c).regs.f = (s.core c).regs.f ∧ (t.core c).regs.v = (s.core c).regs.v ∧
      t.mem = s.mem) ∧
  (∀ (s : State) (c : CoreId) (p : PoisonRec),
    (s.core c).awake = true →
    (s.core c).pipe.poison = some p →
    (s.core c).regs.trapTarget { cause := 25 } = 1 →
    (s.core c).csrBit Csr.spoisoninfo 0 = false →
    p.kind < 4 →
    p.src < 7 →
    p.pa < 2 ^ 56 →
    (∀ e ∈ s.frames, e.2.nq.stalled = []) →
    (s.core c).pipe.snpQ = [] →
    RunsTo (exec (.poisonConsumption c) s) fun t =>
      (t.core c).csr Csr.scause = 25 ∧ (t.core c).csr Csr.stval = p.va ∧ (t.core c).csr Csr.sepc = p.pc ∧
      (t.core c).regs.priv = 1 ∧ (t.core c).regs.virt = false ∧
      fld ((t.core c).csr Csr.spoisoninfo) 55 6 = p.pa / 64 ∧ fld ((t.core c).csr Csr.spoisoninfo) 5 3 = p.src ∧
      fld ((t.core c).csr Csr.spoisoninfo) 2 1 = p.kind ∧ (t.core c).csrBit Csr.spoisoninfo 0 = true ∧
      (t.core c).csrBit Csr.spoisoninfo 56 = (s.core c).csrBit Csr.spoisoninfo 56 ∧
      (t.core c).pipe.poison = none ∧ (t.core c).pipe.resv = none ∧
      (t.core c).regs.vstart = (if p.kind = 3 then p.elem else (s.core c).regs.vstart) ∧
      (t.core c).regs.x = (s.core c).regs.x ∧ (t.core c).regs.f = (s.core c).regs.f ∧ (t.core c).regs.v = (s.core c).regs.v ∧
      t.mem = s.mem) ∧
  (∀ (s : State) (c : CoreId),
    (s.core c).pipe.poison = none →
    exec (.poisonConsumption c) s = .next s) ∧
  (∀ (s : State) (c : CoreId) (p : PoisonRec),
    (s.core c).awake = true →
    (s.core c).pipe.poison = some p →
    (s.core c).regs.priv = 3 →
    (s.core c).csrBit Csr.mpoisoninfo 0 = true →
    (∀ e ∈ s.frames, e.2.nq.stalled = []) →
    (s.core c).pipe.snpQ = [] →
    RunsTo (exec (.poisonConsumption c) s) fun t =>
      (t.core c).csr Csr.mpoisoninfo = setFld ((s.core c).csr Csr.mpoisoninfo) 56 56 1) ∧
  (∀ (s : State) (c : CoreId) (w : Wait) (va : Word),
    (s.core c).awake = true →
    (s.core c).hewnWait = some (w, va) →
    destElem? w.acc.dest = none →
    (s.core c).regs.trapTarget { cause := 24 } = 3 →
    (s.core c).pipe.snpQ = [] →
    RunsTo (exec (.hewnMissTrap c) s) fun t =>
      (t.core c).csr Csr.mcause = 24 ∧ (t.core c).csr Csr.mtval = va ∧ (t.core c).csr Csr.mepc = w.pc ∧
      (t.core c).regs.priv = 3 ∧
      fld ((t.core c).csr Csr.stlbtag) 63 48 = fld ((s.core c).csr Csr.satp) 59 44 ∧ fld ((t.core c).csr Csr.stlbtag) 47 45 = 0 ∧
      fld ((t.core c).csr Csr.stlbtag) 44 0 = fld va 56 12 ∧
      fld ((t.core c).csr Csr.stlbcmd) 7 6 = missCode w.acc.kind.causeType ∧
      (t.core c).pipe.waits = [] ∧ (t.core c).pipe.storeQ = (s.core c).pipe.storeQ ∧ (t.core c).regs.x = (s.core c).regs.x ∧ (t.core c).regs.f = (s.core c).regs.f ∧ (t.core c).regs.v = (s.core c).regs.v ∧ s.onlyCore t c) ∧
  (∀ (s : State) (c : CoreId) (w : Wait) (va : Word),
    (s.core c).awake = true →
    (s.core c).hewnWait = some (w, va) →
    destElem? w.acc.dest = none →
    (s.core c).regs.trapTarget { cause := 24 } = 1 →
    (s.core c).pipe.snpQ = [] →
    RunsTo (exec (.hewnMissTrap c) s) fun t =>
      (t.core c).csr Csr.scause = 24 ∧ (t.core c).csr Csr.stval = va ∧ (t.core c).csr Csr.sepc = w.pc ∧
      (t.core c).regs.priv = 1 ∧
      fld ((t.core c).csr Csr.stlbtag) 63 48 = fld ((s.core c).csr Csr.satp) 59 44 ∧ fld ((t.core c).csr Csr.stlbtag) 47 45 = 0 ∧
      fld ((t.core c).csr Csr.stlbtag) 44 0 = fld va 56 12 ∧
      fld ((t.core c).csr Csr.stlbcmd) 7 6 = missCode w.acc.kind.causeType ∧
      (t.core c).pipe.waits = [] ∧ (t.core c).pipe.storeQ = (s.core c).pipe.storeQ ∧ (t.core c).regs.x = (s.core c).regs.x ∧ (t.core c).regs.f = (s.core c).regs.f ∧ (t.core c).regs.v = (s.core c).regs.v ∧ s.onlyCore t c) ∧
  (∀ (s : State) (c : CoreId),
    (s.core c).hewnWait = none →
    exec (.hewnMissTrap c) s = .next s)

/-- A running hart takes the pending interrupt its enables select, with the pc saved and the cause's interrupt bit set; with none it goes on. An instruction fetch moves the pc and holds nothing of DRAM the L2 already has. A debug halt request stays pending and wakes a core in SLEEP or DEEP. An edge of the debug UART pends source 3 of the frame that holds Q0. The selection order of interrupts is the privileged architecture's (log entry 9), and the pc of a fetch is the model's own (log entry 17). -/
def Obligations.InterruptsHaltsAndFetches : Prop :=
  (∀ (s : State) (c : CoreId) (i : Nat),
    (s.core c).run = .run →
    (s.core c).busyBeyond = false →
    s.stalledLoad c = false →
    (s.core c).irqToTake (s.coreTime c) = some (i, 3) →
    (s.core c).pipe.snpQ = [] →
    RunsTo (exec (.interruptTaken c) s) fun t =>
      (t.core c).csr Csr.mcause = BitVec.ofNat 64 (2 ^ 63 + i) ∧ (t.core c).csr Csr.mepc = (s.core c).pipe.oldestPc.getD (s.core c).regs.pc ∧
      (t.core c).regs.priv = 3 ∧ (t.core c).regs.virt = false ∧
      (t.core c).csrBit Csr.mstatus 7 = (s.core c).csrBit Csr.mstatus 3 ∧ (t.core c).csrBit Csr.mstatus 3 = false ∧
      fld ((t.core c).csr Csr.mstatus) 12 11 = (s.core c).regs.priv % 4 ∧
      (t.core c).pipe.resv = none ∧ (t.core c).regs.x = (s.core c).regs.x ∧ (t.core c).regs.f = (s.core c).regs.f ∧ (t.core c).regs.v = (s.core c).regs.v ∧ s.onlyCore t c) ∧
  (∀ (s : State) (c : CoreId),
    (s.core c).irqToTake (s.coreTime c) = none →
    exec (.interruptTaken c) s = .next s) ∧
  (∀ (s : State) (c : CoreId) (va : Word) (x : L2Line),
    (s.core c).quiet →
    (s.core c).regs.priv = 3 →
    s.inDram c va.toNat 4 →
    (s.core c).pipe.find2 (va.toNat / 64) = some x →
    x.poison = false →
    RunsTo (exec (.instructionFetch c va .none) s) fun t =>
      s.onlyRegs t c { (s.core c).regs with pc := va } ∧ (∀ l, (t.core c).pipe.find2 l = (s.core c).pipe.find2 l) ∧
      (t.core c).pipe.l1i.contains (va.toNat / 64) = true) ∧
  (∀ (s : State) (c : CoreId) (va : Word) (u : Upset) (x : L2Line),
    (s.core c).quiet →
    (s.core c).regs.priv = 3 →
    s.inDram c va.toNat 4 →
    (s.core c).pipe.find2 (va.toNat / 64) = some x →
    x.poison = false →
    u ≠ .none →
    (∀ e ∈ s.frames, e.2.nq.stalled = []) →
    RunsTo (exec (.instructionFetch c va u) s) fun t =>
      (t.core c).regs = { (s.core c).regs with pc := va } ∧ (∀ l, (t.core c).pipe.find2 l = (s.core c).pipe.find2 l) ∧
      (t.core c).pipe.l1i.contains (va.toNat / 64) = true ∧
      (∀ d, d ≠ c.val → (t.core d).regs = (s.core d).regs ∧ (t.core d).pipe = (s.core d).pipe) ∧ t.mem = s.mem ∧ t.homes = s.homes) ∧
  (∀ (s : State) (c : CoreId),
    ((s.core c).run = .sleep ∨ (s.core c).run = .deep ∨ ∃ ap ∈ [AbortPoint.ap1, .ap2, .ap3, .ap4], (s.core c).run = .entering ap) →
    exec (.debugHaltRequest c) s = .next (s.setCore c { s.core c with halt := true, wake := true })) ∧
  (∀ (s : State) (c : CoreId),
    (s.core c).run ∈ [Run.held, .run, .idle, .stopped] →
    exec (.debugHaltRequest c) s = .next (s.setCore c { s.core c with halt := true })) ∧
  (∀ (s : State),
    4 ≤ (s.frame 0).aplic.sm 3 →
    (s.frame 0).aplic.enabled.contains 3 = false →
    exec .debugUart s = .next (s.setFrame 0 { s.frame 0 with aplic := { (s.frame 0).aplic with pending := listAdd (s.frame 0).aplic.pending 3 } }))

/-- In M-mode: SFENCE.VMA, HFENCE.VVMA and HFENCE.GVMA stay pending while a store is queued; with nothing waiting they act at once: every walk in flight is abandoned and the matching TLB and paging-structure entries go, others stay. The SINVAL and HINVAL forms remove entries at once and abandon no walk; SFENCE.W.INVAL only waits for the store queue; SFENCE.INVAL.IR abandons every walk. -/
def Obligations.TranslationFencesInvalidate : Prop :=
  (∀ (s : State) (c : CoreId) (va : Option Word) (asid : Option (BitVec 16)),
    (s.core c).quiet →
    RunsTo (exec (.sfenceVma c va asid) s) fun t =>
      t.core c = { s.core c with xlat := { (s.core c).xlat.fenceVma va (asid.map (·.toNat)) with walks := [] }, pipe := (t.core c).pipe } ∧
      (t.core c).pipe.fence = [] ∧ (t.core c).pipe.l2 = (s.core c).pipe.l2 ∧ (t.core c).pipe.storeQ = [] ∧ s.onlyCore t c) ∧
  (∀ (s : State) (c : CoreId) (va : Option Word) (asid : Option (BitVec 16)),
    (s.core c).quietQ →
    (s.core c).pipe.storeQ ≠ [] →
    RunsTo (exec (.sfenceVma c va asid) s) fun t =>
      (t.core c).pipe.fence =
        [{ seq := (s.core c).pipe.seq, pc := (s.core c).regs.pc, pred := 0b0101, all := true, x := some (.vma va (asid.map (·.toNat))) }] ∧
      (t.core c).pipe.storeQ = (s.core c).pipe.storeQ ∧ s.onlyRegs t c (s.core c).regs) ∧
  (∀ (s : State) (c : CoreId) (va : Option Word) (asid : Option (BitVec 16)),
    (s.core c).quiet →
    RunsTo (exec (.hfenceVvma c va asid) s) fun t =>
      t.core c = { s.core c with xlat := { (s.core c).xlat.fenceVvma (s.core c).xvmid va (asid.map (·.toNat)) with walks := [] }, pipe := (t.core c).pipe } ∧
      (t.core c).pipe.fence = [] ∧ (t.core c).pipe.l2 = (s.core c).pipe.l2 ∧ (t.core c).pipe.storeQ = [] ∧ s.onlyCore t c) ∧
  (∀ (s : State) (c : CoreId) (va : Option Word) (asid : Option (BitVec 16)),
    (s.core c).quietQ →
    (s.core c).pipe.storeQ ≠ [] →
    RunsTo (exec (.hfenceVvma c va asid) s) fun t =>
      (t.core c).pipe.fence =
        [{ seq := (s.core c).pipe.seq, pc := (s.core c).regs.pc, pred := 0b0101, all := true, x := some (.vvma va (asid.map (·.toNat))) }] ∧
      (t.core c).pipe.storeQ = (s.core c).pipe.storeQ ∧ s.onlyRegs t c (s.core c).regs) ∧
  (∀ (s : State) (c : CoreId) (gpa : Option Word) (vmid : Option (BitVec 14)),
    (s.core c).quiet →
    RunsTo (exec (.hfenceGvma c gpa vmid) s) fun t =>
      t.core c = { s.core c with xlat := { (s.core c).xlat.fenceGvma gpa (vmid.map (·.toNat)) with walks := [] }, pipe := (t.core c).pipe } ∧
      (t.core c).pipe.fence = [] ∧ (t.core c).pipe.l2 = (s.core c).pipe.l2 ∧ (t.core c).pipe.storeQ = [] ∧ s.onlyCore t c) ∧
  (∀ (s : State) (c : CoreId) (gpa : Option Word) (vmid : Option (BitVec 14)),
    (s.core c).quietQ →
    (s.core c).pipe.storeQ ≠ [] →
    RunsTo (exec (.hfenceGvma c gpa vmid) s) fun t =>
      (t.core c).pipe.fence =
        [{ seq := (s.core c).pipe.seq, pc := (s.core c).regs.pc, pred := 0b0101, all := true, x := some (.gvma gpa (vmid.map (·.toNat))) }] ∧
      (t.core c).pipe.storeQ = (s.core c).pipe.storeQ ∧ s.onlyRegs t c (s.core c).regs) ∧
  (∀ (s : State) (c : CoreId) (va : Option Word) (asid : Option (BitVec 16)),
    (s.core c).quietQ →
    RunsTo (exec (.sinvalVma c va asid) s) fun t =>
      t.core c = { s.core c with xlat := (s.core c).xlat.fenceVma va (asid.map (·.toNat)), pipe := (t.core c).pipe } ∧ (t.core c).pipe.fence = [] ∧
      (t.core c).pipe.l2 = (s.core c).pipe.l2 ∧ (t.core c).pipe.storeQ = (s.core c).pipe.storeQ ∧ s.onlyCore t c) ∧
  (∀ (s : State) (c : CoreId) (va : Option Word) (asid : Option (BitVec 16)),
    (s.core c).quietQ →
    RunsTo (exec (.hinvalVvma c va asid) s) fun t =>
      t.core c = { s.core c with xlat := (s.core c).xlat.fenceVvma (s.core c).xvmid va (asid.map (·.toNat)), pipe := (t.core c).pipe } ∧ (t.core c).pipe.fence = [] ∧
      (t.core c).pipe.l2 = (s.core c).pipe.l2 ∧ (t.core c).pipe.storeQ = (s.core c).pipe.storeQ ∧ s.onlyCore t c) ∧
  (∀ (s : State) (c : CoreId) (gpa : Option Word) (vmid : Option (BitVec 14)),
    (s.core c).quietQ →
    RunsTo (exec (.hinvalGvma c gpa vmid) s) fun t =>
      t.core c = { s.core c with xlat := (s.core c).xlat.fenceGvma gpa (vmid.map (·.toNat)), pipe := (t.core c).pipe } ∧ (t.core c).pipe.fence = [] ∧
      (t.core c).pipe.l2 = (s.core c).pipe.l2 ∧ (t.core c).pipe.storeQ = (s.core c).pipe.storeQ ∧ s.onlyCore t c) ∧
  (∀ (s : State) (c : CoreId),
    (s.core c).quiet →
    RunsTo (exec (.sfenceWInval c) s) fun t =>
      (t.core c).pipe.fence = [] ∧ (t.core c).pipe.l2 = (s.core c).pipe.l2 ∧ s.onlyRegs t c (s.core c).regs) ∧
  (∀ (s : State) (c : CoreId),
    (s.core c).quietQ →
    (s.core c).pipe.storeQ ≠ [] →
    RunsTo (exec (.sfenceWInval c) s) fun t =>
      (t.core c).pipe.fence = [{ seq := (s.core c).pipe.seq, pc := (s.core c).regs.pc, pred := 0b0101, all := true, x := some .wInval }] ∧
      (t.core c).pipe.storeQ = (s.core c).pipe.storeQ ∧ s.onlyRegs t c (s.core c).regs) ∧
  (∀ (s : State) (c : CoreId),
    (s.core c).quietQ →
    RunsTo (exec (.sfenceInvalIr c) s) fun t =>
      t.core c = { s.core c with xlat := { (s.core c).xlat with walks := [] }, pipe := (t.core c).pipe } ∧
      (t.core c).pipe.fence = [] ∧ (t.core c).pipe.l2 = (s.core c).pipe.l2 ∧ (t.core c).pipe.storeQ = (s.core c).pipe.storeQ ∧
      s.onlyCore t c)

/-- In M-mode: satp, vsatp and hgatp take a value whose MODE the register supports and keep their old value otherwise; a CBIE field written with 2 reads 0; mclksel.SEL requests a clock switch, which ends at CLOCK_SWITCH_DONE once its target is ready; mcorectl keeps a prefetch distance outside 1 to 8; poison and walk records and mshimctl take the written fields. Nothing else of the state changes. -/
def Obligations.VendorCsrWrites : Prop :=
  (∀ (s : State) (c : CoreId) (val : Word),
    (s.core c).run = .run →
    (s.core c).pipe.settled = true →
    (s.core c).regs.priv = 3 →
    fld val 63 60 ∈ [0, 8, 9, 10, 14] →
    (s.core c).regs.virt = false →
    exec (.satpWrite c .satp val) s = .next (s.setCore c ((s.core c).setCsr Csr.satp val))) ∧
  (∀ (s : State) (c : CoreId) (val : Word),
    (s.core c).run = .run →
    (s.core c).pipe.settled = true →
    (s.core c).regs.priv = 3 →
    (¬ fld val 63 60 ∈ [0, 8, 9, 10, 14]) →
    (s.core c).regs.virt = false →
    exec (.satpWrite c .satp val) s = .next s) ∧
  (∀ (s : State) (c : CoreId) (val : Word),
    (s.core c).run = .run →
    (s.core c).pipe.settled = true →
    (s.core c).regs.priv = 3 →
    fld val 63 60 ∈ [0, 8, 9, 10] →
    exec (.satpWrite c .vsatp val) s = .next (s.setCore c ((s.core c).setCsr Csr.vsatp val))) ∧
  (∀ (s : State) (c : CoreId) (val : Word),
    (s.core c).run = .run →
    (s.core c).pipe.settled = true →
    (s.core c).regs.priv = 3 →
    (¬ fld val 63 60 ∈ [0, 8, 9, 10]) →
    exec (.satpWrite c .vsatp val) s = .next s) ∧
  (∀ (s : State) (c : CoreId) (val : Word),
    (s.core c).run = .run →
    (s.core c).pipe.settled = true →
    (s.core c).regs.priv = 3 →
    fld val 63 60 ∈ [0, 8, 9, 10] →
    (s.core c).regs.virt = false →
    exec (.satpWrite c .hgatp val) s = .next (s.setCore c ((s.core c).setCsr Csr.hgatp (val &&& 0xF3FFFFFFFFFFFFFC)))) ∧
  (∀ (s : State) (c : CoreId) (val : Word),
    (s.core c).run = .run →
    (s.core c).pipe.settled = true →
    (s.core c).regs.priv = 3 →
    (¬ fld val 63 60 ∈ [0, 8, 9, 10]) →
    (s.core c).regs.virt = false →
    exec (.satpWrite c .hgatp val) s = .next s) ∧
  (∀ (s : State) (c : CoreId) (reg : EnvReg) (v : BitVec 2),
    (s.core c).run = .run →
    (s.core c).pipe.settled = true →
    (s.core c).regs.priv = 3 →
    exec (.envcfgCbieWrite c reg v) s = .next (s.setCore c ((s.core c).setCsr (envNum reg)
      (setFld ((s.core c).csr (envNum reg)) 5 4 (if v = 2 then 0 else v.toNat))))) ∧
  (∀ (s : State) (c : CoreId) (val : Word),
    (s.core c).run = .run →
    (s.core c).pipe.settled = true →
    (s.core c).regs.priv = 3 →
    ((s.core c).clk.isSome = true ∨ (s.core c).csrBit Csr.mclksel 1 ≠ val.getLsbD 0) →
    RunsTo (exec (.mclkselWrite c val) s) fun t =>
      (t.core c).clk = some (val.getLsbD 0) ∧ (t.core c).csrBit Csr.mclksel 0 = val.getLsbD 0 ∧
      (t.core c).csrBit Csr.mclksel 1 = (s.core c).csrBit Csr.mclksel 1 ∧ (t.core c).csrBit Csr.mclksel 2 = true ∧
      fld ((t.core c).csr Csr.mclksel) 63 5 = fld ((s.core c).csr Csr.mclksel) 63 5 ∧
      (t.core c).csrBit Csr.mclksel 3 = (s.core c).csrBit Csr.mclksel 3 ∧ (t.core c).csrBit Csr.mclksel 4 = val.getLsbD 4 ∧
      (∀ n, n ≠ Csr.mclksel → (t.core c).csr n = (s.core c).csr n) ∧ (t.core c).pipe = (s.core c).pipe ∧ s.onlyCore t c) ∧
  (∀ (s : State) (c : CoreId) (val : Word),
    (s.core c).run = .run →
    (s.core c).pipe.settled = true →
    (s.core c).regs.priv = 3 →
    (s.core c).clk = none →
    (s.core c).csrBit Csr.mclksel 1 = val.getLsbD 0 →
    RunsTo (exec (.mclkselWrite c val) s) fun t =>
      (t.core c).clk = none ∧ (t.core c).csrBit Csr.mclksel 0 = val.getLsbD 0 ∧ (t.core c).csrBit Csr.mclksel 4 = val.getLsbD 4 ∧
      fld ((t.core c).csr Csr.mclksel) 3 1 = fld ((s.core c).csr Csr.mclksel) 3 1 ∧
      fld ((t.core c).csr Csr.mclksel) 63 5 = fld ((s.core c).csr Csr.mclksel) 63 5 ∧
      (∀ n, n ≠ Csr.mclksel → (t.core c).csr n = (s.core c).csr n) ∧ (t.core c).pipe = (s.core c).pipe ∧ s.onlyCore t c) ∧
  (∀ (s : State) (c : CoreId) (pll : Bool),
    (s.core c).clk = some pll →
    (pll = true → (s.core c).csrBit Csr.mclksel 3 = true) →
    RunsTo (exec (.clockSwitchDone c) s) fun t =>
      (t.core c).clk = none ∧ (t.core c).csrBit Csr.mclksel 1 = pll ∧ (t.core c).csrBit Csr.mclksel 2 = false ∧
      (t.core c).csrBit Csr.mclksel 0 = (s.core c).csrBit Csr.mclksel 0 ∧
      (∀ n, n ≠ Csr.mclksel → (t.core c).csr n = (s.core c).csr n) ∧ (t.core c).pipe = (s.core c).pipe ∧ s.onlyCore t c) ∧
  (∀ (s : State) (c : CoreId),
    (s.core c).clk = none →
    exec (.clockSwitchDone c) s = .next s) ∧
  (∀ (s : State) (n : StudId),
    (s.stud n).pllOn = true →
    (s.stud n).pllReady = false →
    RunsTo (exec (.pllLock n) s) fun t =>
      (t.stud n).pllReady = true ∧ (∀ c : Nat, c / 32 = n.val → (t.core c).csrBit Csr.mclksel 3 = true) ∧
      (∀ c : Nat, c / 32 ≠ n.val → t.core c = s.core c) ∧ t = { s with cores := t.cores, studs := (s.setStud n { s.stud n with pllReady := true }).studs }) ∧
  (∀ (s : State) (c : CoreId) (val : Word),
    (s.core c).run = .run →
    (s.core c).pipe.settled = true →
    (s.core c).regs.priv = 3 →
    1 ≤ fld val 7 4 →
    fld val 7 4 ≤ 8 →
    exec (.mcorectlWrite c val) s = .next (s.setCore c ((s.core c).setCsr Csr.mcorectl
      (setFld (setFld ((s.core c).csr Csr.mcorectl) 1 0 (fld val 1 0)) 7 4 (fld val 7 4))))) ∧
  (∀ (s : State) (c : CoreId) (val : Word),
    (s.core c).run = .run →
    (s.core c).pipe.settled = true →
    (s.core c).regs.priv = 3 →
    (fld val 7 4 = 0 ∨ 8 < fld val 7 4) →
    exec (.mcorectlWrite c val) s = .next (s.setCore c ((s.core c).setCsr Csr.mcorectl
      (setFld ((s.core c).csr Csr.mcorectl) 1 0 (fld val 1 0))))) ∧
  (∀ (s : State) (c : CoreId) (lvl : Lvl) (val : Word),
    (s.core c).run = .run →
    (s.core c).pipe.settled = true →
    (s.core c).regs.priv = 3 →
    exec (.poisoninfoWrite c lvl val) s = .next (s.setCore c ((s.core c).setCsr
      (if lvl = .m then Csr.mpoisoninfo else Csr.spoisoninfo) (val &&& 0x01FFFFFFFFFFFFFF)))) ∧
  (∀ (s : State) (c : CoreId) (lvl : Lvl) (val : Word),
    (s.core c).run = .run →
    (s.core c).pipe.settled = true →
    (s.core c).regs.priv = 3 →
    exec (.walkinfoWrite c lvl val) s = .next (s.setCore c ((s.core c).setCsr
      (if lvl = .m then Csr.mwalkinfo else Csr.swalkinfo) val))) ∧
  (∀ (s : State) (c : CoreId) (val : Word),
    (s.core c).run = .run →
    (s.core c).pipe.settled = true →
    (s.core c).regs.priv = 3 →
    RunsTo (exec (.mshimctlWrite c val) s) fun t =>
      fld ((t.core c).csr Csr.mshimctl) 2 0 = fld val 2 0 ∧ fld ((t.core c).csr Csr.mshimctl) 63 3 = fld ((s.core c).csr Csr.mshimctl) 63 3 ∧
      (∀ n, n ≠ Csr.mshimctl → (t.core c).csr n = (s.core c).csr n) ∧ (t.core c).pipe = (s.core c).pipe ∧
      (t.core c).xlat = (s.core c).xlat ∧ s.onlyCore t c) ∧
  (∀ (s : State) (c : CoreId) (val : Word),
    (s.core c).run = .run →
    (s.core c).pipe.settled = true →
    (s.core c).regs.priv < 3 →
    (s.core c).regs.virt = false →
    (s.core c).csrBit Csr.medeleg 2 = false →
    (s.core c).pipe.snpQ = [] →
    RunsTo (exec (.mcorectlWrite c val) s) fun t =>
      (t.core c).csr Csr.mcause = 2 ∧ (t.core c).csr Csr.mepc = (s.core c).regs.pc ∧ (t.core c).regs.priv = 3 ∧
      (t.core c).csr Csr.mcorectl = (s.core c).csr Csr.mcorectl ∧ (t.core c).regs.x = (s.core c).regs.x ∧ (t.core c).regs.f = (s.core c).regs.f ∧ (t.core c).regs.v = (s.core c).regs.v ∧ s.onlyCore t c)

/-- In M-mode with satp.MODE = 14: WRITE installs the entry stlbtag and stlbdata describe, after removing every unwired entry that clashes with it, and refuses a malformed entry, one that a wired entry overlaps, and a wired entry beyond the limits, each with its STATUS and no other effect; PROBE finds an entry; READ loads one; the invalidations remove the HEWN entries they select, wired ones only when asked. With another MODE every operation but READ answers NOT_HEWN. Caches, memory and other cores are not touched. -/
def Obligations.SoftwareTlbCommands : Prop :=
  (∀ (s : State) (c : CoreId) (wired : Bool),
    (s.core c).run = .run →
    (s.core c).pipe.settled = true →
    (s.core c).regs.priv = 3 →
    (s.core c).satpMode = 14 →
    (s.core c).stlbBad = false →
    (s.core c).xlat.l2tlb.any (fun d => d.2.wired && d.2.clash ((s.core c).stlbEntry wired)) = false →
    (s.core c).xlat.wiredIn (· == tlbSet ((s.core c).stlbEntry wired).vpn ((s.core c).stlbEntry wired).size) < (if wired then 8 else 12) →
    (wired = true → (s.core c).xlat.wiredIn (fun _ => true) < 64) →
    RunsTo (exec (.stlbcmdWrite c wired) s) fun t =>
      fld ((t.core c).csr Csr.stlbcmd) 63 60 = 0 ∧ (t.core c).xlat.l2tlb.any (fun e => e.2 == (s.core c).stlbEntry wired) = true ∧
      (∀ e ∈ (t.core c).xlat.l2tlb, e.2 ≠ (s.core c).stlbEntry wired → e.2.clash ((s.core c).stlbEntry wired) = false) ∧
      (∀ e ∈ (t.core c).xlat.dtlb, e.2.clash ((s.core c).stlbEntry wired) = false) ∧
      (∀ e ∈ (t.core c).xlat.itlb, e.2.clash ((s.core c).stlbEntry wired) = false) ∧ (∀ n, n ∉ [Csr.stlbcmd, Csr.stlbtag, Csr.stlbdata] → (t.core c).csr n = (s.core c).csr n) ∧
      t.core c = { s.core c with regs := { (s.core c).regs with csr := (t.core c).regs.csr }, xlat := (t.core c).xlat } ∧ s.onlyCore t c) ∧
  (∀ (s : State) (c : CoreId) (wired : Bool),
    (s.core c).run = .run →
    (s.core c).pipe.settled = true →
    (s.core c).regs.priv = 3 →
    (s.core c).satpMode = 14 →
    (s.core c).stlbBad = true →
    RunsTo (exec (.stlbcmdWrite c wired) s) fun t =>
      fld ((t.core c).csr Csr.stlbcmd) 63 60 = 2 ∧ (t.core c).xlat = (s.core c).xlat ∧ (∀ n, n ∉ [Csr.stlbcmd, Csr.stlbtag, Csr.stlbdata] → (t.core c).csr n = (s.core c).csr n) ∧
      t.core c = { s.core c with regs := { (s.core c).regs with csr := (t.core c).regs.csr }, xlat := (t.core c).xlat } ∧ s.onlyCore t c) ∧
  (∀ (s : State) (c : CoreId) (wired : Bool),
    (s.core c).run = .run →
    (s.core c).pipe.settled = true →
    (s.core c).regs.priv = 3 →
    (s.core c).satpMode = 14 →
    (s.core c).stlbBad = false →
    (s.core c).xlat.l2tlb.any (fun d => d.2.wired && d.2.clash ((s.core c).stlbEntry wired)) = true →
    RunsTo (exec (.stlbcmdWrite c wired) s) fun t =>
      fld ((t.core c).csr Csr.stlbcmd) 63 60 = 3 ∧ (t.core c).xlat = (s.core c).xlat ∧ (∀ n, n ∉ [Csr.stlbcmd, Csr.stlbtag, Csr.stlbdata] → (t.core c).csr n = (s.core c).csr n) ∧
      t.core c = { s.core c with regs := { (s.core c).regs with csr := (t.core c).regs.csr }, xlat := (t.core c).xlat } ∧ s.onlyCore t c) ∧
  (∀ (s : State) (c : CoreId),
    (s.core c).run = .run →
    (s.core c).pipe.settled = true →
    (s.core c).regs.priv = 3 →
    (s.core c).satpMode = 14 →
    (s.core c).stlbBad = false →
    (s.core c).xlat.l2tlb.any (fun d => d.2.wired && d.2.clash ((s.core c).stlbEntry true)) = false →
    (64 ≤ (s.core c).xlat.wiredIn (fun _ => true) ∨ 8 ≤ (s.core c).xlat.wiredIn (· == tlbSet ((s.core c).stlbEntry true).vpn ((s.core c).stlbEntry true).size)) →
    RunsTo (exec (.stlbcmdWrite c true) s) fun t =>
      fld ((t.core c).csr Csr.stlbcmd) 63 60 = 4 ∧ (t.core c).xlat = (s.core c).xlat ∧ (∀ n, n ∉ [Csr.stlbcmd, Csr.stlbtag, Csr.stlbdata] → (t.core c).csr n = (s.core c).csr n) ∧
      t.core c = { s.core c with regs := { (s.core c).regs with csr := (t.core c).regs.csr }, xlat := (t.core c).xlat } ∧ s.onlyCore t c) ∧
  (∀ (s : State) (c : CoreId) (i : Nat) (e : TlbEnt),
    (s.core c).run = .run →
    (s.core c).pipe.settled = true →
    (s.core c).regs.priv = 3 →
    (s.core c).satpMode = 14 →
    (s.core c).tagSize ≤ 5 →
    (s.core c).stlbFind = some (i, e) →
    i < 3072 →
    RunsTo (exec (.stlbcmdProbe c) s) fun t =>
      fld ((t.core c).csr Csr.stlbcmd) 63 60 = 0 ∧ fld ((t.core c).csr Csr.stlbcmd) 19 8 = i ∧ (t.core c).csrBit Csr.stlbcmd 5 = e.wired ∧
      (t.core c).xlat = (s.core c).xlat ∧ (∀ n, n ∉ [Csr.stlbcmd, Csr.stlbtag, Csr.stlbdata] → (t.core c).csr n = (s.core c).csr n) ∧
      t.core c = { s.core c with regs := { (s.core c).regs with csr := (t.core c).regs.csr }, xlat := (t.core c).xlat } ∧ s.onlyCore t c) ∧
  (∀ (s : State) (c : CoreId),
    (s.core c).run = .run →
    (s.core c).pipe.settled = true →
    (s.core c).regs.priv = 3 →
    (s.core c).satpMode = 14 →
    5 < (s.core c).tagSize →
    RunsTo (exec (.stlbcmdProbe c) s) fun t =>
      fld ((t.core c).csr Csr.stlbcmd) 63 60 = 2 ∧ (t.core c).xlat = (s.core c).xlat ∧ (∀ n, n ∉ [Csr.stlbcmd, Csr.stlbtag, Csr.stlbdata] → (t.core c).csr n = (s.core c).csr n) ∧
      t.core c = { s.core c with regs := { (s.core c).regs with csr := (t.core c).regs.csr }, xlat := (t.core c).xlat } ∧ s.onlyCore t c) ∧
  (∀ (s : State) (c : CoreId),
    (s.core c).run = .run →
    (s.core c).pipe.settled = true →
    (s.core c).regs.priv = 3 →
    (s.core c).satpMode = 14 →
    (s.core c).tagSize ≤ 5 →
    (s.core c).stlbFind = none →
    RunsTo (exec (.stlbcmdProbe c) s) fun t =>
      fld ((t.core c).csr Csr.stlbcmd) 63 60 = 1 ∧ (t.core c).xlat = (s.core c).xlat ∧ (∀ n, n ∉ [Csr.stlbcmd, Csr.stlbtag, Csr.stlbdata] → (t.core c).csr n = (s.core c).csr n) ∧
      t.core c = { s.core c with regs := { (s.core c).regs with csr := (t.core c).regs.csr }, xlat := (t.core c).xlat } ∧ s.onlyCore t c) ∧
  (∀ (s : State) (c : CoreId) (i : BitVec 12) (e : TlbEnt),
    (s.core c).run = .run →
    (s.core c).pipe.settled = true →
    (s.core c).regs.priv = 3 →
    i.toNat ≤ 3071 →
    Tab.find (s.core c).xlat.l2tlb i.toNat = some e →
    e.kind = .hewn →
    e.asid < 2 ^ 16 →
    e.size < 8 →
    e.vpn < 2 ^ 45 →
    RunsTo (exec (.stlbcmdRead c i) s) fun t =>
      fld ((t.core c).csr Csr.stlbcmd) 63 60 = 0 ∧ fld ((t.core c).csr Csr.stlbcmd) 19 8 = i.toNat ∧ (t.core c).csrBit Csr.stlbcmd 5 = e.wired ∧
      fld ((t.core c).csr Csr.stlbtag) 63 48 = e.asid ∧ fld ((t.core c).csr Csr.stlbtag) 47 45 = e.size ∧
      fld ((t.core c).csr Csr.stlbtag) 44 0 = e.vpn ∧ (t.core c).csr Csr.stlbdata = e.pte ∧
      (t.core c).xlat = (s.core c).xlat ∧ (∀ n, n ∉ [Csr.stlbcmd, Csr.stlbtag, Csr.stlbdata] → (t.core c).csr n = (s.core c).csr n) ∧
      t.core c = { s.core c with regs := { (s.core c).regs with csr := (t.core c).regs.csr }, xlat := (t.core c).xlat } ∧ s.onlyCore t c) ∧
  (∀ (s : State) (c : CoreId) (i : BitVec 12),
    (s.core c).run = .run →
    (s.core c).pipe.settled = true →
    (s.core c).regs.priv = 3 →
    i.toNat ≤ 3071 →
    (∀ e ∈ (s.core c).xlat.l2tlb, e.2.kind ≠ .hewn) →
    RunsTo (exec (.stlbcmdRead c i) s) fun t =>
      fld ((t.core c).csr Csr.stlbcmd) 63 60 = 0 ∧ (t.core c).csrBit Csr.stlbdata 0 = false ∧ (t.core c).xlat = (s.core c).xlat ∧ (∀ n, n ∉ [Csr.stlbcmd, Csr.stlbtag, Csr.stlbdata] → (t.core c).csr n = (s.core c).csr n) ∧
      t.core c = { s.core c with regs := { (s.core c).regs with csr := (t.core c).regs.csr }, xlat := (t.core c).xlat } ∧ s.onlyCore t c) ∧
  (∀ (s : State) (c : CoreId) (i : BitVec 12),
    (s.core c).run = .run →
    (s.core c).pipe.settled = true →
    (s.core c).regs.priv = 3 →
    3071 < i.toNat →
    RunsTo (exec (.stlbcmdRead c i) s) fun t =>
      fld ((t.core c).csr Csr.stlbcmd) 63 60 = 6 ∧ (t.core c).csr Csr.stlbtag = (s.core c).csr Csr.stlbtag ∧ (t.core c).csr Csr.stlbdata = (s.core c).csr Csr.stlbdata ∧
      (t.core c).xlat = (s.core c).xlat ∧ (∀ n, n ∉ [Csr.stlbcmd, Csr.stlbtag, Csr.stlbdata] → (t.core c).csr n = (s.core c).csr n) ∧
      t.core c = { s.core c with regs := { (s.core c).regs with csr := (t.core c).regs.csr }, xlat := (t.core c).xlat } ∧ s.onlyCore t c) ∧
  (∀ (s : State) (c : CoreId) (wired : Bool),
    (s.core c).run = .run →
    (s.core c).pipe.settled = true →
    (s.core c).regs.priv = 3 →
    (s.core c).satpMode = 14 →
    RunsTo (exec (.stlbcmdInvalVa c wired) s) fun t =>
      fld ((t.core c).csr Csr.stlbcmd) 63 60 = 0 ∧ (t.core c).xlat = (s.core c).xlat.keep
        (fun e => !(e.kind == .hewn && e.covers (s.core c).tagVpn && (e.g || e.asid == (s.core c).tagAsid) && (wired || !e.wired))) ∧ (∀ n, n ∉ [Csr.stlbcmd, Csr.stlbtag, Csr.stlbdata] → (t.core c).csr n = (s.core c).csr n) ∧
      t.core c = { s.core c with regs := { (s.core c).regs with csr := (t.core c).regs.csr }, xlat := (t.core c).xlat } ∧ s.onlyCore t c) ∧
  (∀ (s : State) (c : CoreId) (wired : Bool),
    (s.core c).run = .run →
    (s.core c).pipe.settled = true →
    (s.core c).regs.priv = 3 →
    (s.core c).satpMode = 14 →
    RunsTo (exec (.stlbcmdInvalAsid c wired) s) fun t =>
      fld ((t.core c).csr Csr.stlbcmd) 63 60 = 0 ∧ (t.core c).xlat = (s.core c).xlat.keep
        (fun e => !(e.kind == .hewn && !e.g && e.asid == (s.core c).tagAsid && (wired || !e.wired))) ∧ (∀ n, n ∉ [Csr.stlbcmd, Csr.stlbtag, Csr.stlbdata] → (t.core c).csr n = (s.core c).csr n) ∧
      t.core c = { s.core c with regs := { (s.core c).regs with csr := (t.core c).regs.csr }, xlat := (t.core c).xlat } ∧ s.onlyCore t c) ∧
  (∀ (s : State) (c : CoreId) (wired : Bool),
    (s.core c).run = .run →
    (s.core c).pipe.settled = true →
    (s.core c).regs.priv = 3 →
    (s.core c).satpMode = 14 →
    RunsTo (exec (.stlbcmdInvalAll c wired) s) fun t =>
      fld ((t.core c).csr Csr.stlbcmd) 63 60 = 0 ∧ (t.core c).xlat = (s.core c).xlat.keep
        (fun e => !(e.kind == .hewn && true && (wired || !e.wired))) ∧ (∀ n, n ∉ [Csr.stlbcmd, Csr.stlbtag, Csr.stlbdata] → (t.core c).csr n = (s.core c).csr n) ∧
      t.core c = { s.core c with regs := { (s.core c).regs with csr := (t.core c).regs.csr }, xlat := (t.core c).xlat } ∧ s.onlyCore t c) ∧
  (∀ (s : State) (c : CoreId) (wired : Bool) (i : Instr),
    (s.core c).run = .run →
    (s.core c).pipe.settled = true →
    (s.core c).regs.priv = 3 →
    (s.core c).satpMode ≠ 14 →
    i ∈ [.stlbcmdWrite c wired, .stlbcmdProbe c, .stlbcmdInvalVa c wired, .stlbcmdInvalAsid c wired, .stlbcmdInvalAll c wired] →
    RunsTo (exec i s) fun t => fld ((t.core c).csr Csr.stlbcmd) 63 60 = 5 ∧ (t.core c).xlat = (s.core c).xlat ∧ (∀ n, n ∉ [Csr.stlbcmd, Csr.stlbtag, Csr.stlbdata] → (t.core c).csr n = (s.core c).csr n) ∧
      t.core c = { s.core c with regs := { (s.core c).regs with csr := (t.core c).regs.csr }, xlat := (t.core c).xlat } ∧ s.onlyCore t c)

/-- In S-mode with Sv39 and no walk in flight: a demand walk for the page a waiting load misses takes context 0, and context 3 where the load is the oldest instruction, as the head walk that it asks for after a walk without a fill; its first PTE is at the root table of satp indexed by the top level's bits. A PTE returned by L2 that is a non-leaf sends the walk to the next table; a leaf that grants the access frees the context and fills the L2 TLB with the entry of the page. A PTE with V = 0 ends any other walk without a fill, its access asking for a head walk; a PTE whose line L2 does not hold sends a request for the line, and the walk waits. A PTE with V = 0 that a head walk reads makes its instruction take a page fault with the address it misses, its own pc and, in mwalkinfo, the PTE's address, the reason and the level. An uncorrectable error of the shim store stops the hart. Without a walk in the context nothing changes. -/
def Obligations.WalksStartAndReadPtes : Prop :=
  (∀ (s : State) (c : CoreId) (va : Word) (root : Nat) (w : Wait),
    (s.core c).awake = true →
    ((s.core c).regs.priv = 1 ∧ (s.core c).regs.virt = false) →
    (s.core c).pipe.waits = [w] →
    (w.acc.checkType = .load ∧ w.ctx = { priv := 1 }) →
    (s.core c).missVa w = some va →
    (s.core c).xlat.shim = true →
    (s.core c).xlat.walks = [] →
    (s.core c).xlat.psc = [] →
    (s.core c).satpMode = 8 →
    canonical 8 va = true →
    root = fld ((s.core c).csr Csr.satp) 43 0 * 4096 + va.toNat / 2 ^ 30 % 512 * 8 →
    (s.region (s.frameOfCore c) root).isDram = true →
    (w.head = false ∧ w.walkSrc = .demand) →
    (s.core c).headWait ≠ some w →
    (s.core c).csrBit Csr.mshimctl 0 = true →
    RunsTo (exec (.walkRequest c .demand .load va false) s) fun t =>
      (Tab.find (t.core c).xlat.walks 0).map (fun k => (k.va, k.pa, k.level, k.src)) = some (va, root, 2, .demand) ∧
      t.core c = { s.core c with xlat := { (s.core c).xlat with walks := (t.core c).xlat.walks } } ∧ s.onlyCore t c) ∧
  (∀ (s : State) (c : CoreId) (va : Word) (root : Nat) (w : Wait),
    (s.core c).awake = true →
    ((s.core c).regs.priv = 1 ∧ (s.core c).regs.virt = false) →
    (s.core c).pipe.waits = [w] →
    (w.acc.checkType = .load ∧ w.ctx = { priv := 1 }) →
    (s.core c).missVa w = some va →
    (s.core c).xlat.shim = true →
    (s.core c).xlat.walks = [] →
    (s.core c).xlat.psc = [] →
    (s.core c).satpMode = 8 →
    canonical 8 va = true →
    root = fld ((s.core c).csr Csr.satp) 43 0 * 4096 + va.toNat / 2 ^ 30 % 512 * 8 →
    (s.region (s.frameOfCore c) root).isDram = true →
    (w.head = false ∧ w.walkSrc = .demand) →
    (s.core c).headWait = some w →
    RunsTo (exec (.walkRequest c .demand .load va false) s) fun t =>
      (Tab.find (t.core c).xlat.walks 3).map (fun k => (k.va, k.pa, k.level, k.src)) = some (va, root, 2, .head) ∧
      t.core c = { s.core c with xlat := { (s.core c).xlat with walks := (t.core c).xlat.walks } } ∧ s.onlyCore t c) ∧
  (∀ (s : State) (c : CoreId) (va : Word) (root : Nat) (w : Wait),
    (s.core c).awake = true →
    ((s.core c).regs.priv = 1 ∧ (s.core c).regs.virt = false) →
    (s.core c).pipe.waits = [w] →
    (w.acc.checkType = .load ∧ w.ctx = { priv := 1 }) →
    (s.core c).missVa w = some va →
    (s.core c).xlat.shim = true →
    (s.core c).xlat.walks = [] →
    (s.core c).xlat.psc = [] →
    (s.core c).satpMode = 8 →
    canonical 8 va = true →
    root = fld ((s.core c).csr Csr.satp) 43 0 * 4096 + va.toNat / 2 ^ 30 % 512 * 8 →
    (s.region (s.frameOfCore c) root).isDram = true →
    w.head = true →
    (s.core c).headWait = some w →
    RunsTo (exec (.headWalkRequest c) s) fun t =>
      (Tab.find (t.core c).xlat.walks 3).map (fun k => (k.va, k.pa, k.level, k.src)) = some (va, root, 2, .head) ∧
      t.core c = { s.core c with xlat := { (s.core c).xlat with walks := (t.core c).xlat.walks } } ∧ s.onlyCore t c) ∧
  (∀ (s : State) (c : CoreId) (i : Fin 4) (w : Walk) (x : L2Line) (p : Word) (nxt : Nat),
    (s.core c).awake = true →
    Tab.find (s.core c).xlat.walks i = some w →
    (w.kind = .std ∧ w.inG = false ∧ w.mode = 8 ∧ w.leaf = none ∧ w.gmode = 0) →
    (s.core c).pipe.find2 (w.pa / 64) = some x →
    x.poison = false →
    (s.core c).pipe.l2bad = [] →
    p = BitVec.ofNat 64 (lineBytes x.data (w.pa % 64) 8) →
    (s.core c).pteCheck w p = .good →
    pteLeaf p = false →
    1 ≤ w.level →
    nxt = fld p 53 10 * 4096 + w.va.toNat / 2 ^ (12 + 9 * (w.level - 1)) % 512 * 8 →
    (s.region (s.frameOfCore c) nxt).isDram = true →
    RunsTo (exec (.pteReadReturn c i 0) s) fun t =>
      (Tab.find (t.core c).xlat.walks i).map (fun k => (k.va, k.pa, k.level)) = some (w.va, nxt, w.level - 1) ∧
      t.core c = { s.core c with xlat := { (s.core c).xlat with walks := (t.core c).xlat.walks, psc := (t.core c).xlat.psc }, pipe := (t.core c).pipe } ∧
      (∀ l, (t.core c).pipe.find2 l = (s.core c).pipe.find2 l) ∧ (t.core c).pipe.waits = (s.core c).pipe.waits ∧ s.onlyCore t c) ∧
  (∀ (s : State) (c : CoreId) (i : Fin 4) (w : Walk) (x : L2Line) (p : Word),
    (s.core c).awake = true →
    Tab.find (s.core c).xlat.walks i = some w →
    (w.kind = .std ∧ w.inG = false ∧ w.mode = 8 ∧ w.leaf = none ∧ w.gmode = 0) →
    (s.core c).pipe.find2 (w.pa / 64) = some x →
    x.poison = false →
    (s.core c).pipe.l2bad = [] →
    p = BitVec.ofNat 64 (lineBytes x.data (w.pa % 64) 8) →
    (s.core c).pteCheck w p = .good →
    pteLeaf p = true →
    (w.level = 0 ∧ w.acc ≠ .fetch ∧ pteN p = false) →
    (s.core c).pipe.waits = [] →
    (s.core c).xlat.wiredIn (· == tlbSet (vpnOf w.va) 0) < 12 →
    ((s.core c).pipe.slots = [] ∧ (s.core c).pipe.fence = [] ∧ (s.core c).pipe.rob = []) →
    RunsTo (exec (.pteReadReturn c i 0) s) fun t =>
      Tab.find (t.core c).xlat.walks i = none ∧
      (t.core c).xlat.l2tlb.any (fun e => (e.2.kind, e.2.size, e.2.vpn, e.2.asid, e.2.ppn, e.2.pte) ==
        (TlbKind.std, 0, vpnOf w.va, w.asid, fld p 53 10, p)) = true ∧
      (t.core c).regs = (s.core c).regs ∧ (∀ l, (t.core c).pipe.find2 l = (s.core c).pipe.find2 l) ∧ s.onlyCore t c) ∧
  (∀ (s : State) (c : CoreId) (i : Fin 4) (w : Walk) (x : L2Line) (p : Word) (a : Wait),
    (s.core c).awake = true →
    Tab.find (s.core c).xlat.walks i = some w →
    (w.kind = .std ∧ w.inG = false ∧ w.mode = 8 ∧ w.leaf = none ∧ w.gmode = 0) →
    (s.core c).pipe.find2 (w.pa / 64) = some x →
    x.poison = false →
    (s.core c).pipe.l2bad = [] →
    p = BitVec.ofNat 64 (lineBytes x.data (w.pa % 64) 8) →
    pteV p = false →
    w.src ≠ .head →
    (s.core c).pipe.waits = [a] →
    ((s.core c).pipe.slots = [] ∧ (s.core c).pipe.fence = [] ∧ (s.core c).pipe.rob = []) →
    (s.core c).ownsWalk w a = true →
    (misaligned a.acc = none ∧ a.acc.kind.hint = false ∧ a.err = none) →
    RunsTo (exec (.pteReadReturn c i 0) s) fun t =>
      Tab.find (t.core c).xlat.walks i = none ∧ (t.core c).xlat.l2tlb = (s.core c).xlat.l2tlb ∧
      (t.core c).pipe.waits.map (fun b => (b.acc.va, b.seq, b.head)) = [(a.acc.va, a.seq, true)] ∧
      (t.core c).regs = (s.core c).regs ∧ (∀ l, (t.core c).pipe.find2 l = (s.core c).pipe.find2 l) ∧ s.onlyCore t c) ∧
  (∀ (s : State) (c : CoreId) (i : Fin 4) (w : Walk) (x : L2Line) (p : Word) (a : Wait) (va : Word),
    (s.core c).awake = true →
    Tab.find (s.core c).xlat.walks i = some w →
    (w.kind = .std ∧ w.inG = false ∧ w.mode = 8 ∧ w.leaf = none ∧ w.gmode = 0) →
    (s.core c).pipe.find2 (w.pa / 64) = some x →
    x.poison = false →
    (s.core c).pipe.l2bad = [] →
    p = BitVec.ofNat 64 (lineBytes x.data (w.pa % 64) 8) →
    pteV p = false →
    w.src = .head →
    (s.core c).headWait = some a →
    (s.core c).ownsWalk w a = true →
    (s.core c).missVa a = some va →
    destElem? a.acc.dest = none →
    (s.core c).regs.trapTarget { cause := pageFault a.acc.kind.causeType } = 3 →
    (s.core c).csrBit Csr.mwalkinfo 0 = false →
    (s.core c).pipe.snpQ = [] →
    (w.pa % 8 = 0 ∧ w.pa < 2 ^ 56 ∧ w.level < 8) →
    RunsTo (exec (.pteReadReturn c i 0) s) fun t =>
      Tab.find (t.core c).xlat.walks i = none ∧ (t.core c).xlat.l2tlb = (s.core c).xlat.l2tlb ∧
      (t.core c).csr Csr.mcause = BitVec.ofNat 64 (pageFault a.acc.kind.causeType) ∧ (t.core c).csr Csr.mtval = va ∧
      (t.core c).csr Csr.mepc = a.pc ∧ (t.core c).regs.priv = 3 ∧
      fld ((t.core c).csr Csr.mwalkinfo) 63 11 = w.pa / 8 ∧ fld ((t.core c).csr Csr.mwalkinfo) 9 6 = 1 ∧
      fld ((t.core c).csr Csr.mwalkinfo) 5 3 = w.level ∧ (t.core c).csrBit Csr.mwalkinfo 0 = true ∧
      (t.core c).regs.x = (s.core c).regs.x ∧ (t.core c).regs.f = (s.core c).regs.f ∧ (t.core c).regs.v = (s.core c).regs.v ∧ s.onlyCore t c) ∧
  (∀ (s : State) (c : CoreId) (i : Fin 4) (w : Walk) (ag : Nat),
    (s.core c).awake = true →
    (s.tenon (c.val / 32)).st ≠ 3 →
    Tab.find (s.core c).xlat.walks i = some w →
    w.src ≠ .head →
    (s.core c).pipe.find2 (w.pa / 64) = none →
    (s.core c).pipe.slots = [] →
    (s.core c).pipe.l2bad = [] →
    (s.region (s.frameOfCore c) (w.pa / 64 * 64)).isDram = true →
    s.target (s.frameOfCore c) (w.pa / 64 * 64) = some (ag, s.ownPkg) →
    RunsTo (exec (.pteReadReturn c i 0) s) fun t =>
      s.onlySends t c { op := .rdS, hdr := s.reqHdr c 0 (w.pa / 64) ag s.ownPkg false, loc := .src } ∧
      t.core c = { s.core c with pipe := (t.core c).pipe } ∧ (t.core c).pipe.l2 = (s.core c).pipe.l2 ∧
      (t.core c).pipe.waits = (s.core c).pipe.waits) ∧
  (∀ (s : State) (c : CoreId) (i : Fin 4) (ecc : Fin 3),
    Tab.find (s.core c).xlat.walks i = none →
    exec (.pteReadReturn c i ecc) s = .next s) ∧
  (∀ (s : State) (c : CoreId) (i : Fin 4) (w : Walk),
    (s.core c).awake = true →
    Tab.find (s.core c).xlat.walks i = some w →
    (∀ e ∈ s.frames, e.2.nq.stalled = []) →
    RunsTo (exec (.pteReadReturn c i 2) s) fun t =>
      (t.core c).run = .stopped ∧ (t.core c).regs = (s.core c).regs ∧ (t.core c).pipe = (s.core c).pipe ∧
      (∀ d, d ≠ c.val → (t.core d).regs = (s.core d).regs ∧ (t.core d).pipe = (s.core d).pipe) ∧ t.mem = s.mem ∧ s.keepsNet t ∧ t.homes = s.homes)

/-- In M-mode: a write of mcycle, minstret or mhpmcounter3 to 10 sets the counter and a write of counters 11 to 31 is ignored; mhpmevent3 to 10 keep their inhibit and OF bits and an EVENT that the table lists, any other EVENT becomes 0, and mhpmevent11 to 31 ignore a write; counter 1 and events 0 to 2 do not exist: a write of one raises illegal-instruction; mcountinhibit keeps bits 0 and 2 to 10. A counter 3 to 10 that wraps with OF = 0 sets OF and mip.LCOFIP and becomes 0; with OF = 1 it only becomes 0, and so do mcycle and minstret. That a counter which does not count does not wrap is the model's choice (log entry 5). -/
def Obligations.HartCounters : Prop :=
  (∀ (s : State) (c : CoreId) (idx : Fin 32) (val : Word),
    (s.core c).run = .run →
    (s.core c).pipe.settled = true →
    (s.core c).regs.priv = 3 →
    (idx.val = 0 ∨ (2 ≤ idx.val ∧ idx.val ≤ 10)) →
    exec (.hpmCounterWrite c idx val) s = .next (s.setCore c ((s.core c).setCsr (0xB00 + idx.val) val))) ∧
  (∀ (s : State) (c : CoreId) (idx : Fin 32) (val : Word),
    (s.core c).run = .run →
    (s.core c).pipe.settled = true →
    (s.core c).regs.priv = 3 →
    11 ≤ idx.val →
    exec (.hpmCounterWrite c idx val) s = .next s) ∧
  (∀ (s : State) (c : CoreId) (idx : Fin 32) (val : Word),
    (s.core c).run = .run →
    (s.core c).pipe.settled = true →
    (s.core c).regs.priv = 3 →
    3 ≤ idx.val →
    idx.val ≤ 10 →
    hartEvent (fld val 15 0) = true →
    exec (.mhpmeventWrite c idx val) s = .next (s.setCore c ((s.core c).setCsr (0x320 + idx.val) (val &&& 0xFC0000000000FFFF)))) ∧
  (∀ (s : State) (c : CoreId) (idx : Fin 32) (val : Word),
    (s.core c).run = .run →
    (s.core c).pipe.settled = true →
    (s.core c).regs.priv = 3 →
    3 ≤ idx.val →
    idx.val ≤ 10 →
    hartEvent (fld val 15 0) = false →
    exec (.mhpmeventWrite c idx val) s = .next (s.setCore c ((s.core c).setCsr (0x320 + idx.val) (val &&& 0xFC00000000000000)))) ∧
  (∀ (s : State) (c : CoreId) (idx : Fin 32) (val : Word),
    (s.core c).run = .run →
    (s.core c).pipe.settled = true →
    (s.core c).regs.priv = 3 →
    11 ≤ idx.val →
    exec (.mhpmeventWrite c idx val) s = .next s) ∧
  (∀ (s : State) (c : CoreId) (idx : Fin 32) (val : Word) (i : Instr),
    (s.core c).run = .run →
    (s.core c).pipe.settled = true →
    (s.core c).regs.priv = 3 →
    ((idx.val = 1 ∧ i = .hpmCounterWrite c idx val) ∨ (idx.val < 3 ∧ i = .mhpmeventWrite c idx val)) →
    (s.core c).pipe.snpQ = [] →
    RunsTo (exec i s) fun t =>
      (t.core c).csr Csr.mcause = 2 ∧ (t.core c).csr Csr.mepc = (s.core c).regs.pc ∧ (t.core c).regs.priv = 3 ∧
      (∀ n, 0xB00 ≤ n → n < 0xB20 → (t.core c).csr n = (s.core c).csr n) ∧ (∀ n, 0x320 ≤ n → n < 0x340 → (t.core c).csr n = (s.core c).csr n) ∧
      (t.core c).regs.x = (s.core c).regs.x ∧ s.onlyCore t c) ∧
  (∀ (s : State) (c : CoreId) (val : Word),
    (s.core c).run = .run →
    (s.core c).pipe.settled = true →
    (s.core c).regs.priv = 3 →
    exec (.mcountinhibitWrite c val) s = .next (s.setCore c ((s.core c).setCsr Csr.mcountinhibit (val &&& 0x7FD)))) ∧
  (∀ (s : State) (c : CoreId) (idx : Fin 32),
    (s.core c).counts idx = true →
    3 ≤ idx.val →
    (s.core c).csrBit (0x320 + idx) 63 = false →
    RunsTo (exec (.counterWrap c idx) s) fun t =>
      (t.core c).csr (0xB00 + idx) = 0 ∧ (t.core c).csrBit (0x320 + idx) 63 = true ∧ (t.core c).csrBit Csr.mip 13 = true ∧
      fld ((t.core c).csr (0x320 + idx)) 62 0 = fld ((s.core c).csr (0x320 + idx)) 62 0 ∧
      (∀ n, n ≠ 0xB00 + idx.val → n ≠ 0x320 + idx.val → n ≠ Csr.mip → (t.core c).csr n = (s.core c).csr n) ∧
      (t.core c).regs = { (s.core c).regs with csr := (t.core c).regs.csr } ∧ (t.core c).pipe = (s.core c).pipe ∧
      (t.core c).xlat = (s.core c).xlat ∧ s.onlyCore t c) ∧
  (∀ (s : State) (c : CoreId) (idx : Fin 32),
    (s.core c).counts idx = true →
    (idx.val < 3 ∨ (s.core c).csrBit (0x320 + idx) 63 = true) →
    exec (.counterWrap c idx) s = .next (s.setCore c ((s.core c).setCsr (0xB00 + idx.val) 0))) ∧
  (∀ (s : State) (c : CoreId) (idx : Fin 32),
    (s.core c).counts idx = false →
    exec (.counterWrap c idx) s = .next s)

/-- At M level, or at S level while mnotchdeleg.S = 1: notchctl takes a value whose JITTER and EVENT are in range, but for MINH while mnotchdeleg.S = 1, and otherwise keeps its own, and SEQ restarts when EN rises; notchbase, notchwm and notchperiod keep their value when a field is outside its range; notchbase and notchtail ignore writes while EN = 1; notchhead, notchtail and notchlost take 32 bits. An S-level number raises illegal-instruction in S-mode while mnotchdeleg.S = 0. A write of mnotchdeleg keeps bit 0, and MINH reads 1 while it is set. When COUNT reaches 0 with EN set in a mode that is not inhibited, a tag is set with the mode, the ASID and the VMID in use, and COUNT is 0; else nothing is tagged. The tagged instruction's notch: discarded when its latency is below LAT_MIN; dropped and counted in LOST while the ring is full, SEQ advancing; an address outside the frame's DRAM and bench memory clears EN and sets ERR; else a full-line WR_NC of the record for index TAIL of the ring goes to the line's home, or waits for a slot of its kind; WR_PULL takes the record there; as it is done TAIL and SEQ advance, and the write that takes TAIL - HEAD from below WM to WM or above sets WM_PEND and tells the owner's interrupt file; an error answer clears EN and sets ERR. Once that is settled COUNT reloads and the tag ends. -/
def Obligations.NotchSampler : Prop :=
  (∀ (s : State) (c : CoreId) (lvl : Lvl) (val : Word),
    (s.core c).run = .run →
    (s.core c).pipe.settled = true →
    (s.core c).notchLegal lvl Csr.notchctl = 0 →
    fld val 52 48 ≤ 16 →
    hartEvent (fld val 31 16) = true →
    RunsTo (exec (.notchctlWrite c lvl val) s) fun t =>
      (t.core c).csr Csr.notchctl = (if (s.core c).csrBit Csr.mnotchdeleg 0 = true
        then setFld (val &&& 0x001FFFFFFFFF06F9) 3 3 (fld ((s.core c).csr Csr.notchctl) 3 3) else val &&& 0x001FFFFFFFFF06F9) ∧
      (t.core c).notch = { (s.core c).notch with seq := if (s.core c).csrBit Csr.notchctl 0 = false ∧ val.getLsbD 0 = true then 0 else (s.core c).notch.seq } ∧
      (∀ n, n ≠ Csr.notchctl → (t.core c).csr n = (s.core c).csr n) ∧
      t.core c = { s.core c with regs := { (s.core c).regs with csr := (t.core c).regs.csr }, notch := (t.core c).notch } ∧ s.onlyCore t c) ∧
  (∀ (s : State) (c : CoreId) (lvl : Lvl) (val : Word),
    (s.core c).run = .run →
    (s.core c).pipe.settled = true →
    (s.core c).notchLegal lvl Csr.notchctl = 0 →
    (16 < fld val 52 48 ∨ hartEvent (fld val 31 16) = false) →
    RunsTo (exec (.notchctlWrite c lvl val) s) fun t =>
      (∀ n, (t.core c).csr n = (s.core c).csr n) ∧
      t.core c = { s.core c with regs := { (s.core c).regs with csr := (t.core c).regs.csr } } ∧ s.onlyCore t c) ∧
  (∀ (s : State) (c : CoreId) (lvl : Lvl) (val : Word),
    (s.core c).run = .run →
    (s.core c).pipe.settled = true →
    (s.core c).notchLegal lvl Csr.notchbase = 0 →
    (s.core c).csrBit Csr.notchctl 0 = false →
    fld val 4 0 ≤ 18 →
    exec (.notchRegisterWrite c lvl .base val) s = .next (s.setCore c ((s.core c).setCsr Csr.notchbase (val &&& 0x00FFFFFFFFFFF01F)))) ∧
  (∀ (s : State) (c : CoreId) (lvl : Lvl) (val : Word),
    (s.core c).run = .run →
    (s.core c).pipe.settled = true →
    (s.core c).notchLegal lvl Csr.notchhead = 0 →
    exec (.notchRegisterWrite c lvl .head val) s = .next (s.setCore c ((s.core c).setCsr Csr.notchhead (val &&& 0xFFFFFFFF)))) ∧
  (∀ (s : State) (c : CoreId) (lvl : Lvl) (val : Word),
    (s.core c).run = .run →
    (s.core c).pipe.settled = true →
    (s.core c).notchLegal lvl Csr.notchtail = 0 →
    (s.core c).csrBit Csr.notchctl 0 = false →
    exec (.notchRegisterWrite c lvl .tail val) s = .next (s.setCore c ((s.core c).setCsr Csr.notchtail (val &&& 0xFFFFFFFF)))) ∧
  (∀ (s : State) (c : CoreId) (lvl : Lvl) (val : Word),
    (s.core c).run = .run →
    (s.core c).pipe.settled = true →
    (s.core c).notchLegal lvl Csr.notchwm = 0 →
    1 ≤ fld val 24 0 →
    fld val 24 0 ≤ min (s.core c).notchRecords (2 ^ 24) →
    exec (.notchRegisterWrite c lvl .wm val) s = .next (s.setCore c ((s.core c).setCsr Csr.notchwm (val &&& 0x000007FF01FFFFFF)))) ∧
  (∀ (s : State) (c : CoreId) (lvl : Lvl) (val : Word),
    (s.core c).run = .run →
    (s.core c).pipe.settled = true →
    (s.core c).notchLegal lvl Csr.notchlost = 0 →
    exec (.notchRegisterWrite c lvl .lost val) s = .next (s.setCore c ((s.core c).setCsr Csr.notchlost (val &&& 0xFFFFFFFF)))) ∧
  (∀ (s : State) (c : CoreId) (lvl : Lvl) (val : Word),
    (s.core c).run = .run →
    (s.core c).pipe.settled = true →
    (s.core c).notchLegal lvl Csr.notchperiod = 0 →
    fld val 31 0 ≠ 0 →
    RunsTo (exec (.notchRegisterWrite c lvl .period val) s) fun t =>
      fld ((t.core c).csr Csr.notchperiod) 31 0 = fld val 31 0 ∧
      fld ((t.core c).csr Csr.notchperiod) 63 32 = fld ((s.core c).csr Csr.notchperiod) 63 32 ∧
      (∀ n, n ≠ Csr.notchperiod → (t.core c).csr n = (s.core c).csr n) ∧
      t.core c = { s.core c with regs := { (s.core c).regs with csr := (t.core c).regs.csr } } ∧ s.onlyCore t c) ∧
  (∀ (s : State) (c : CoreId) (lvl : Lvl) (r : NotchReg) (val : Word),
    (s.core c).run = .run →
    (s.core c).pipe.settled = true →
    (s.core c).notchLegal lvl (notchNum r) = 0 →
    (((s.core c).csrBit Csr.notchctl 0 = true ∧ (r = .base ∨ r = .tail)) ∨ (r = .base ∧ 18 < fld val 4 0) ∨ (r = .period ∧ fld val 31 0 = 0) ∨ (r = .wm ∧ (fld val 24 0 = 0 ∨ min (s.core c).notchRecords (2 ^ 24) < fld val 24 0))) →
    RunsTo (exec (.notchRegisterWrite c lvl r val) s) fun t => (∀ n, (t.core c).csr n = (s.core c).csr n) ∧
      t.core c = { s.core c with regs := { (s.core c).regs with csr := (t.core c).regs.csr } } ∧ s.onlyCore t c) ∧
  (∀ (s : State) (c : CoreId) (r : NotchReg) (val : Word) (i : Instr),
    (s.core c).run = .run →
    (s.core c).pipe.settled = true →
    ((s.core c).regs.priv = 1 ∧ (s.core c).regs.virt = false) →
    (s.core c).csrBit Csr.mnotchdeleg 0 = false →
    (s.core c).csrBit Csr.medeleg 2 = false →
    (s.core c).pipe.snpQ = [] →
    (i = .notchctlWrite c .s val ∨ i = .notchRegisterWrite c .s r val) →
    RunsTo (exec i s) fun t =>
      (t.core c).csr Csr.mcause = 2 ∧ (t.core c).csr Csr.mepc = (s.core c).regs.pc ∧ (t.core c).regs.priv = 3 ∧
      (t.core c).csr (notchNum r) = (s.core c).csr (notchNum r) ∧ (t.core c).csr Csr.notchctl = (s.core c).csr Csr.notchctl ∧
      (t.core c).notch = (s.core c).notch ∧ (t.core c).regs.x = (s.core c).regs.x ∧ s.onlyCore t c) ∧
  (∀ (s : State) (c : CoreId) (val : Word),
    (s.core c).run = .run →
    (s.core c).pipe.settled = true →
    (s.core c).regs.priv = 3 →
    RunsTo (exec (.mnotchdelegWrite c val) s) fun t =>
      (t.core c).csr Csr.mnotchdeleg = val &&& 1 ∧
      (val.getLsbD 0 = true → (t.core c).csr Csr.notchctl = setFld ((s.core c).csr Csr.notchctl) 3 3 1) ∧
      (val.getLsbD 0 = false → (t.core c).csr Csr.notchctl = (s.core c).csr Csr.notchctl) ∧
      (∀ n, n ≠ Csr.mnotchdeleg → n ≠ Csr.notchctl → (t.core c).csr n = (s.core c).csr n) ∧
      t.core c = { s.core c with regs := { (s.core c).regs with csr := (t.core c).regs.csr } } ∧ s.onlyCore t c) ∧
  (∀ (s : State) (c : CoreId),
    (s.core c).run = .run →
    (s.core c).csrBit Csr.notchctl 0 = true →
    (s.core c).notch.tagged = false →
    (s.core c).notchInhibited = false →
    RunsTo (exec (.notchTag c) s) fun t =>
      (t.core c).notch = { (s.core c).notch with tagged := true, mode := (s.core c).regs.priv % 4 + 4 * b2n (s.core c).regs.virt, asid := (s.core c).xasid (s.core c).regs.virt, vmid := if (s.core c).regs.virt = true then (s.core c).xvmid else 0 } ∧
      fld ((t.core c).csr Csr.notchperiod) 63 32 = 0 ∧
      fld ((t.core c).csr Csr.notchperiod) 31 0 = fld ((s.core c).csr Csr.notchperiod) 31 0 ∧
      (∀ n, n ≠ Csr.notchperiod → (t.core c).csr n = (s.core c).csr n) ∧
      t.core c = { s.core c with regs := { (s.core c).regs with csr := (t.core c).regs.csr }, notch := (t.core c).notch } ∧ s.onlyCore t c) ∧
  (∀ (s : State) (c : CoreId),
    ((s.core c).csrBit Csr.notchctl 0 = false ∨ (s.core c).notch.tagged = true ∨ (s.core c).notchInhibited = true) →
    exec (.notchTag c) s = .next s) ∧
  (∀ (s : State) (c : CoreId) (r : NotchIn) (head tail n line : Nat) (ag : Nat),
    ((s.core c).notch.tagged = true ∧ (s.core c).notch.rec_ = none) →
    tail = fld ((s.core c).csr Csr.notchtail) 31 0 →
    head = fld ((s.core c).csr Csr.notchhead) 31 0 →
    n = (s.core c).notchRecords →
    (r.mem = false ∨ fld ((s.core c).csr Csr.notchctl) 47 32 ≤ r.lat.toNat) →
    (tail + 2 ^ 32 - head) % 2 ^ 32 ≠ n →
    line = fld ((s.core c).csr Csr.notchbase) 55 12 * 64 + tail % n →
    s.notchAddrOk c line = true →
    (s.core c).pipe.slots = [] →
    s.target (s.frameOfCore c) (line * 64) = some (ag, s.ownPkg) →
    (s.tenon (c.val / 32)).st ≠ 3 →
    RunsTo (exec (.notchWrite c r) s) fun t =>
      s.onlySends t c { op := .wrNc, hdr := s.reqHdr c 80 line ag s.ownPkg false, loc := .src } ∧
      (t.core c).notch = { (s.core c).notch with rec_ := some (s.notchRecord c r, line) } ∧
      (t.core c).pipe.slots.map (fun e => (e.1, e.2.kind, e.2.op, e.2.line, e.2.mask)) = [(80, .notch, .wrNc, line, BitVec.allOnes 64)] ∧
      t.core c = { s.core c with notch := (t.core c).notch, pipe := { (s.core c).pipe with slots := (t.core c).pipe.slots } }) ∧
  (∀ (s : State) (c : CoreId) (r : NotchIn) (head tail n line : Nat),
    ((s.core c).notch.tagged = true ∧ (s.core c).notch.rec_ = none) →
    tail = fld ((s.core c).csr Csr.notchtail) 31 0 →
    head = fld ((s.core c).csr Csr.notchhead) 31 0 →
    n = (s.core c).notchRecords →
    (r.mem = false ∨ fld ((s.core c).csr Csr.notchctl) 47 32 ≤ r.lat.toNat) →
    (tail + 2 ^ 32 - head) % 2 ^ 32 ≠ n →
    line = fld ((s.core c).csr Csr.notchbase) 55 12 * 64 + tail % n →
    s.notchAddrOk c line = true →
    (s.core c).pipe.takeSlot .notch = none →
    RunsTo (exec (.notchWrite c r) s) fun t =>
      t.core c = { s.core c with notch := { (s.core c).notch with rec_ := some (s.notchRecord c r, line) } } ∧ s.onlyCore t c) ∧
  (∀ (s : State) (d : Hdr) (c i : Nat) (x : Slot) (y : Line),
    s.soleSlotOf .wrPull d c i x →
    x.kind = .notch →
    (s.core c).notch.rec_ = some (y, x.line) →
    (s.tenon d.dst).st ≠ 3 →
    RunsTo (exec (.wrPull d) s) fun t =>
      t.net = s.restNet .wrPull d ++ [{ op := .ncWData, hdr := { s.reqHdr c i x.line d.src s.ownPkg false with htx := d.htx }, data := y, mask := BitVec.allOnes 64, loc := .src }] ∧
      (t.core c).notch = (s.core c).notch ∧ (t.core c).regs = (s.core c).regs ∧ (t.core c).pipe.l2 = (s.core c).pipe.l2 ∧ (s.arrived .wrPull d).onlyCoreNet t c) ∧
  (∀ (s : State) (d : Hdr) (c i : Nat) (x : Slot) (head tail : Nat),
    s.soleSlotOf .goDone d c i x →
    x.kind = .notch →
    tail = fld ((s.core c).csr Csr.notchtail) 31 0 →
    head = fld ((s.core c).csr Csr.notchhead) 31 0 →
    (¬ ((tail + 2 ^ 32 - head) % 2 ^ 32 < fld ((s.core c).csr Csr.notchwm) 24 0 ∧ fld ((s.core c).csr Csr.notchwm) 24 0 ≤ (tail + 1 + 2 ^ 32 - head) % 2 ^ 32) ∨ (s.core c).csrBit Csr.notchctl 9 = true) →
    RunsTo (exec (.goDone d) s) fun t =>
      (t.core c).csr Csr.notchctl = (s.core c).csr Csr.notchctl ∧ (t.core c).imsic = (s.core c).imsic ∧
      fld ((t.core c).csr Csr.notchtail) 31 0 = (tail + 1) % 2 ^ 32 ∧
      (t.core c).notch = { (s.core c).notch with tagged := false, rec_ := none, lfsr := lfsrStep (s.core c).notch.lfsr, seq := (s.core c).notch.seq + 1 } ∧
      fld ((t.core c).csr Csr.notchperiod) 31 0 = fld ((s.core c).csr Csr.notchperiod) 31 0 ∧
      fld ((t.core c).csr Csr.notchperiod) 63 32 = (fld ((s.core c).csr Csr.notchperiod) 31 0 / 2 ^ fld ((s.core c).csr Csr.notchctl) 52 48 * 2 ^ fld ((s.core c).csr Csr.notchctl) 52 48 +
        (s.core c).notch.lfsr.toNat % 2 ^ fld ((s.core c).csr Csr.notchctl) 52 48) % 2 ^ 32 ∧
      (t.core c).pipe.slots = [] ∧ (t.core c).regs.x = (s.core c).regs.x ∧ (t.core c).regs.f = (s.core c).regs.f ∧ (t.core c).regs.v = (s.core c).regs.v ∧
      (∀ n, n ∉ [Csr.notchtail, Csr.notchperiod, Csr.notchctl] → (t.core c).csr n = (s.core c).csr n) ∧
      (∀ g, g ≠ c → t.core g = s.core g) ∧ (s.arrived .goDone d).keepsNet t ∧ t = { s with cores := t.cores, net := t.net, free := t.free }) ∧
  (∀ (s : State) (d : Hdr) (c i : Nat) (x : Slot) (head tail id : Nat),
    s.soleSlotOf .goDone d c i x →
    x.kind = .notch →
    tail = fld ((s.core c).csr Csr.notchtail) 31 0 →
    head = fld ((s.core c).csr Csr.notchhead) 31 0 →
    ((tail + 2 ^ 32 - head) % 2 ^ 32 < fld ((s.core c).csr Csr.notchwm) 24 0 ∧ fld ((s.core c).csr Csr.notchwm) 24 0 ≤ (tail + 1 + 2 ^ 32 - head) % 2 ^ 32) →
    (s.core c).csrBit Csr.notchctl 9 = false →
    id = fld ((s.core c).csr Csr.notchwm) 42 32 →
    RunsTo (exec (.goDone d) s) fun t =>
      (t.core c).csr Csr.notchctl = setFld ((s.core c).csr Csr.notchctl) 9 9 1 ∧
      ((t.core c).file (b2n (s.core c).notchS)).eip =
        (if id = 0 then ((s.core c).file (b2n (s.core c).notchS)).eip else listAdd ((s.core c).file (b2n (s.core c).notchS)).eip id) ∧
      (∀ k, k ≠ b2n (s.core c).notchS → (t.core c).file k = (s.core c).file k) ∧
      fld ((t.core c).csr Csr.notchtail) 31 0 = (tail + 1) % 2 ^ 32 ∧
      (t.core c).notch = { (s.core c).notch with tagged := false, rec_ := none, lfsr := lfsrStep (s.core c).notch.lfsr, seq := (s.core c).notch.seq + 1 } ∧
      fld ((t.core c).csr Csr.notchperiod) 31 0 = fld ((s.core c).csr Csr.notchperiod) 31 0 ∧
      fld ((t.core c).csr Csr.notchperiod) 63 32 = (fld ((s.core c).csr Csr.notchperiod) 31 0 / 2 ^ fld ((s.core c).csr Csr.notchctl) 52 48 * 2 ^ fld ((s.core c).csr Csr.notchctl) 52 48 +
        (s.core c).notch.lfsr.toNat % 2 ^ fld ((s.core c).csr Csr.notchctl) 52 48) % 2 ^ 32 ∧
      (t.core c).pipe.slots = [] ∧ (t.core c).regs.x = (s.core c).regs.x ∧ (t.core c).regs.f = (s.core c).regs.f ∧ (t.core c).regs.v = (s.core c).regs.v ∧
      (∀ n, n ∉ [Csr.notchtail, Csr.notchperiod, Csr.notchctl] → (t.core c).csr n = (s.core c).csr n) ∧
      (∀ g, g ≠ c → t.core g = s.core g) ∧ (s.arrived .goDone d).keepsNet t ∧ t = { s with cores := t.cores, net := t.net, free := t.free }) ∧
  (∀ (s : State) (d : Hdr) (c i : Nat) (x : Slot) (id : Nat),
    s.soleSlotOf .err d c i x →
    x.kind = .notch →
    id = fld ((s.core c).csr Csr.notchwm) 42 32 →
    RunsTo (exec (.err d) s) fun t =>
      (t.core c).csr Csr.notchctl = setFld (setFld ((s.core c).csr Csr.notchctl) 0 0 0) 10 10 1 ∧
      ((t.core c).file (b2n (s.core c).notchS)).eip =
        (if id = 0 then ((s.core c).file (b2n (s.core c).notchS)).eip else listAdd ((s.core c).file (b2n (s.core c).notchS)).eip id) ∧
      (t.core c).notch = { (s.core c).notch with tagged := false, rec_ := none, lfsr := lfsrStep (s.core c).notch.lfsr, seq := (s.core c).notch.seq } ∧
      fld ((t.core c).csr Csr.notchperiod) 31 0 = fld ((s.core c).csr Csr.notchperiod) 31 0 ∧
      fld ((t.core c).csr Csr.notchperiod) 63 32 = (fld ((s.core c).csr Csr.notchperiod) 31 0 / 2 ^ fld ((s.core c).csr Csr.notchctl) 52 48 * 2 ^ fld ((s.core c).csr Csr.notchctl) 52 48 +
        (s.core c).notch.lfsr.toNat % 2 ^ fld ((s.core c).csr Csr.notchctl) 52 48) % 2 ^ 32 ∧ (t.core c).pipe.slots = [] ∧
      (∀ n, n ∉ [Csr.notchctl, Csr.notchperiod] → (t.core c).csr n = (s.core c).csr n) ∧
      (∀ g, g ≠ c → t.core g = s.core g) ∧ t = { s with cores := t.cores, net := t.net, free := t.free }) ∧
  (∀ (s : State) (c : CoreId) (r : NotchIn) (head tail n line : Nat),
    ((s.core c).notch.tagged = true ∧ (s.core c).notch.rec_ = none) →
    tail = fld ((s.core c).csr Csr.notchtail) 31 0 →
    head = fld ((s.core c).csr Csr.notchhead) 31 0 →
    n = (s.core c).notchRecords →
    (r.mem = false ∨ fld ((s.core c).csr Csr.notchctl) 47 32 ≤ r.lat.toNat) →
    (tail + 2 ^ 32 - head) % 2 ^ 32 = n →
    line = 0 →
    RunsTo (exec (.notchWrite c r) s) fun t =>
      fld ((t.core c).csr Csr.notchlost) 31 0 = min (2 ^ 32 - 1) (fld ((s.core c).csr Csr.notchlost) 31 0 + 1) ∧
      (t.core c).notch = { (s.core c).notch with tagged := false, lfsr := lfsrStep (s.core c).notch.lfsr, seq := (s.core c).notch.seq + 1 } ∧
      fld ((t.core c).csr Csr.notchperiod) 31 0 = fld ((s.core c).csr Csr.notchperiod) 31 0 ∧
      fld ((t.core c).csr Csr.notchperiod) 63 32 = (fld ((s.core c).csr Csr.notchperiod) 31 0 / 2 ^ fld ((s.core c).csr Csr.notchctl) 52 48 * 2 ^ fld ((s.core c).csr Csr.notchctl) 52 48 +
        (s.core c).notch.lfsr.toNat % 2 ^ fld ((s.core c).csr Csr.notchctl) 52 48) % 2 ^ 32 ∧
      (∀ n, n ∉ [Csr.notchlost, Csr.notchperiod] → (t.core c).csr n = (s.core c).csr n) ∧
      t.core c = { s.core c with regs := { (s.core c).regs with csr := (t.core c).regs.csr }, notch := (t.core c).notch } ∧ s.onlyCore t c) ∧
  (∀ (s : State) (c : CoreId) (r : NotchIn) (head tail n line : Nat),
    ((s.core c).notch.tagged = true ∧ (s.core c).notch.rec_ = none) →
    tail = fld ((s.core c).csr Csr.notchtail) 31 0 →
    head = fld ((s.core c).csr Csr.notchhead) 31 0 →
    n = (s.core c).notchRecords →
    (r.mem = false ∨ fld ((s.core c).csr Csr.notchctl) 47 32 ≤ r.lat.toNat) →
    (tail + 2 ^ 32 - head) % 2 ^ 32 ≠ n →
    line = fld ((s.core c).csr Csr.notchbase) 55 12 * 64 + tail % n →
    s.notchAddrOk c line = false →
    fld ((s.core c).csr Csr.notchwm) 42 32 = 0 →
    RunsTo (exec (.notchWrite c r) s) fun t =>
      (t.core c).csr Csr.notchctl = setFld (setFld ((s.core c).csr Csr.notchctl) 0 0 0) 10 10 1 ∧
      (t.core c).notch = { (s.core c).notch with tagged := false, lfsr := lfsrStep (s.core c).notch.lfsr, seq := (s.core c).notch.seq } ∧
      fld ((t.core c).csr Csr.notchperiod) 31 0 = fld ((s.core c).csr Csr.notchperiod) 31 0 ∧
      fld ((t.core c).csr Csr.notchperiod) 63 32 = (fld ((s.core c).csr Csr.notchperiod) 31 0 / 2 ^ fld ((s.core c).csr Csr.notchctl) 52 48 * 2 ^ fld ((s.core c).csr Csr.notchctl) 52 48 +
        (s.core c).notch.lfsr.toNat % 2 ^ fld ((s.core c).csr Csr.notchctl) 52 48) % 2 ^ 32 ∧
      (∀ n, n ∉ [Csr.notchctl, Csr.notchperiod] → (t.core c).csr n = (s.core c).csr n) ∧
      t.core c = { s.core c with regs := { (s.core c).regs with csr := (t.core c).regs.csr }, notch := (t.core c).notch } ∧ s.onlyCore t c) ∧
  (∀ (s : State) (c : CoreId) (r : NotchIn) (head tail n line : Nat) (id : Nat),
    ((s.core c).notch.tagged = true ∧ (s.core c).notch.rec_ = none) →
    tail = fld ((s.core c).csr Csr.notchtail) 31 0 →
    head = fld ((s.core c).csr Csr.notchhead) 31 0 →
    n = (s.core c).notchRecords →
    (r.mem = false ∨ fld ((s.core c).csr Csr.notchctl) 47 32 ≤ r.lat.toNat) →
    (tail + 2 ^ 32 - head) % 2 ^ 32 ≠ n →
    line = fld ((s.core c).csr Csr.notchbase) 55 12 * 64 + tail % n →
    s.notchAddrOk c line = false →
    id = fld ((s.core c).csr Csr.notchwm) 42 32 →
    id ≠ 0 →
    (s.tenon (c / 32)).st ≠ 3 →
    RunsTo (exec (.notchWrite c r) s) fun t =>
      (t.core c).csr Csr.notchctl = setFld (setFld ((s.core c).csr Csr.notchctl) 0 0 0) 10 10 1 ∧
      ((t.core c).file (b2n (s.core c).notchS)).eip = listAdd ((s.core c).file (b2n (s.core c).notchS)).eip id ∧
      (t.core c).notch = { (s.core c).notch with tagged := false, lfsr := lfsrStep (s.core c).notch.lfsr, seq := (s.core c).notch.seq } ∧
      fld ((t.core c).csr Csr.notchperiod) 31 0 = fld ((s.core c).csr Csr.notchperiod) 31 0 ∧
      fld ((t.core c).csr Csr.notchperiod) 63 32 = (fld ((s.core c).csr Csr.notchperiod) 31 0 / 2 ^ fld ((s.core c).csr Csr.notchctl) 52 48 * 2 ^ fld ((s.core c).csr Csr.notchctl) 52 48 +
        (s.core c).notch.lfsr.toNat % 2 ^ fld ((s.core c).csr Csr.notchctl) 52 48) % 2 ^ 32 ∧ s.onlyCore t c) ∧
  (∀ (s : State) (c : CoreId) (r : NotchIn),
    ((s.core c).notch.tagged = true ∧ (s.core c).notch.rec_ = none) →
    r.mem = true →
    r.lat.toNat < fld ((s.core c).csr Csr.notchctl) 47 32 →
    RunsTo (exec (.notchWrite c r) s) fun t =>
      (t.core c).notch = { (s.core c).notch with tagged := false, lfsr := lfsrStep (s.core c).notch.lfsr, seq := (s.core c).notch.seq } ∧
      fld ((t.core c).csr Csr.notchperiod) 31 0 = fld ((s.core c).csr Csr.notchperiod) 31 0 ∧
      fld ((t.core c).csr Csr.notchperiod) 63 32 = (fld ((s.core c).csr Csr.notchperiod) 31 0 / 2 ^ fld ((s.core c).csr Csr.notchctl) 52 48 * 2 ^ fld ((s.core c).csr Csr.notchctl) 52 48 +
        (s.core c).notch.lfsr.toNat % 2 ^ fld ((s.core c).csr Csr.notchctl) 52 48) % 2 ^ 32 ∧
      (∀ n, n ≠ Csr.notchperiod → (t.core c).csr n = (s.core c).csr n) ∧
      t.core c = { s.core c with regs := { (s.core c).regs with csr := (t.core c).regs.csr }, notch := (t.core c).notch } ∧ s.onlyCore t c) ∧
  (∀ (s : State) (c : CoreId) (r : NotchIn),
    ((s.core c).notch.tagged = false ∨ (s.core c).notch.rec_.isSome = true) →
    exec (.notchWrite c r) s = .next s)

/-- A tick of the system timer adds 1 to it while REFCLK runs and the package is powered, and stops when REFCLK is lost; on every 1,000th tick a frame that slews gains or holds back one tick; a write of mtime in a frame sets the frame's offset so that it reads the value from the next tick (the value less 1 until then is the model's choice, log entry 35), and in a Joined mode leaves every frame's time; a frame that the mode does not have ignores both writes; a write of mtimecmp sets the comparator of the hart the index names, and with no such hart reaches no core; an interrupt-file write sets the pending bit of identities 1 to 2,047 and ignores others, is held at the stop and wakes the core while its link is parked, and with no such hart is only logged. Memory and registers are not touched. -/
def Obligations.TimersAndInterruptFiles : Prop :=
  (∀ (s : State),
    (s.refLost = false ∧ s.off = false ∧ s.pins.pwrgood = true) →
    s.idleRings →
    (s.mtime + 1).toNat % 1000 ≠ 0 →
    RunsTo (exec .mtimeTick s) fun t =>
      t.mtime = s.mtime + 1 ∧ (∀ f, t.mtimeOf f = s.mtimeOf f + 1) ∧ t.mem = s.mem ∧ t.net = s.net ∧ t.homes = s.homes ∧
      t.frames = s.frames ∧ ∀ c, (t.core c).regs = (s.core c).regs ∧ (t.core c).pipe = (s.core c).pipe) ∧
  (∀ (s : State),
    (s.refLost = false ∧ s.off = false ∧ s.pins.pwrgood = true) →
    s.idleRings →
    (s.mtime + 1).toNat % 1000 = 0 →
    RunsTo (exec .mtimeTick s) fun t =>
      t.mtime = s.mtime + 1 ∧ (∀ f, t.mtimeOf f = s.mtimeOf f + (if 0 < (s.frame f).slew then 2 else if (s.frame f).slew < 0 then 0 else 1)) ∧
      t.mem = s.mem ∧ t.net = s.net ∧ t.homes = s.homes ∧ ∀ c, (t.core c).regs = (s.core c).regs ∧ (t.core c).pipe = (s.core c).pipe) ∧
  (∀ (s : State),
    (s.refLost = true ∨ s.off = true ∨ s.pins.pwrgood = false) →
    exec .mtimeTick s = .next s) ∧
  (∀ (s : State) (f : FrameId) (val : Word),
    f.val < frameCount s.mode →
    joinedMode s.mode = false →
    RunsTo (exec (.mtimeWrite f val) s) fun t => t.mtimeOf f + 1 = val ∧ t = s.setFrame f { s.frame f with mtimeOff := val - (s.mtime + 1) }) ∧
  (∀ (s : State) (f : FrameId) (h : BitVec 9) (val : Word) (i : Instr),
    frameCount s.mode ≤ f.val →
    (i = .mtimeWrite f val ∨ i = .mtimecmpWrite f h val) →
    exec i s = .next s) ∧
  (∀ (s : State) (f : FrameId) (val : Word),
    joinedMode s.mode = true →
    RunsTo (exec (.mtimeWrite f val) s) fun t => (∀ g, t.mtimeOf g = s.mtimeOf g) ∧ t.cores = s.cores ∧ t.homes = s.homes ∧ t.mem = s.mem ∧ t.net = s.net) ∧
  (∀ (s : State) (f : FrameId) (h : BitVec 9) (val : Word) (c : Nat),
    f.val < frameCount s.mode →
    s.coreOfCmp f h.toNat = some c →
    RunsTo (exec (.mtimecmpWrite f h val) s) fun t =>
      (t.core c).mtimecmp = val ∧ (t.core c).regs = (s.core c).regs ∧ (t.core c).pipe = (s.core c).pipe ∧ s.onlyCore t c) ∧
  (∀ (s : State) (f : FrameId) (h : BitVec 9) (val : Word),
    f.val < frameCount s.mode →
    s.coreOfCmp f h.toNat = none →
    RunsTo (exec (.mtimecmpWrite f h val) s) fun t => t.cores = s.cores ∧ t.homes = s.homes ∧ t.mem = s.mem ∧ t.net = s.net) ∧
  (∀ (s : State) (f : FrameId) (h : BitVec 12) (file : IntFile) (id : BitVec 32) (c : Nat),
    f.val < frameCount s.mode →
    s.coreOfHart f h.toNat = some c →
    (s.tenon (c / 32)).st ≠ 3 →
    1 ≤ id.toNat →
    id.toNat ≤ 2047 →
    RunsTo (exec (.msiWrite f h file id) s) fun t =>
      ((t.core c).file (fileNo file)).eip = listAdd ((s.core c).file (fileNo file)).eip id.toNat ∧
      (∀ k, k ≠ fileNo file → (t.core c).file k = (s.core c).file k) ∧ (t.core c).regs = (s.core c).regs ∧ s.onlyCore t c) ∧
  (∀ (s : State) (f : FrameId) (h : BitVec 12) (file : IntFile) (id : BitVec 32) (c : Nat),
    f.val < frameCount s.mode →
    s.coreOfHart f h.toNat = some c →
    (s.tenon (c / 32)).st ≠ 3 →
    (id.toNat = 0 ∨ 2047 < id.toNat) →
    RunsTo (exec (.msiWrite f h file id) s) fun t => (t.core c).imsic = (s.core c).imsic ∧ (t.core c).regs = (s.core c).regs ∧ s.onlyCore t c) ∧
  (∀ (s : State) (f : FrameId) (h : BitVec 12) (file : IntFile) (id : BitVec 32) (c : Nat),
    f.val < frameCount s.mode →
    s.coreOfHart f h.toNat = some c →
    (s.tenon (c / 32)).st = 3 →
    RunsTo (exec (.msiWrite f h file id) s) fun t =>
      t.core c = { s.core c with wake := true } ∧ (∀ d, d ≠ c → t.core d = s.core d) ∧
      ((t.stud (c / 32)).msgHeld ++ (t.stud (c / 32)).msgWait).length = ((s.stud (c / 32)).msgHeld ++ (s.stud (c / 32)).msgWait).length + 1 ∧
      t = { s with cores := t.cores, studs := t.studs }) ∧
  (∀ (s : State) (f : FrameId) (h : BitVec 12) (file : IntFile) (id : BitVec 32),
    f.val < frameCount s.mode →
    joinedMode s.mode = false →
    s.coreOfHart f h.toNat = none →
    RunsTo (exec (.msiWrite f h file id) s) fun t => t = { s with scribe := t.scribe })

/-- For a line that no cache holds, at an idle home, a request of a stud. Of a bench line: RD_S, RD_U and UPG are answered with DATA_E, granting ownership, with the line's bytes and its poison mark; CBO_ZERO with GO_U and no data; the directory then holds the line in state U in the way that was free, with the requester as its only holder and owner, and the transaction is GRANTED until COMP_ACK. RD_NC is answered with the bytes, tracks nothing and ends. Of a DRAM line: one that the bay cache holds is granted with the bay's bytes, and of one that it does not hold RD_S, RD_U and UPG reserve the free way and take a bay miss register, RD_NC a register alone, and nothing is sent yet. An unbacked bench offset is answered with ERR. Beside the arrival, the answer, the home's transactions, directory and registers, and the power state of its array, nothing changes. -/
def Obligations.HomeGrantsUntrackedLines : Prop :=
  (∀ (s : State) (d : Hdr) (h line : Nat) (k : Nat),
    s.reachesHome .rdS d h →
    s.idleHome h →
    s.homeLine h d.line = some line →
    s.benchLine h line →
    d.reqAgent < 12 →
    s.dirFind h line = none →
    (s.home h).dirWay h (s.dirSetOf h (line * 64)) = .free k →
    RunsTo (exec (.rdS d) s) fun t =>
      t.net = s.restNet .rdS d ++ [entered { op := .dataE, hdr := { src := agentOfHome h, dst := d.reqAgent, srcPkg := s.ownPkg, dstPkg := s.ownPkg, tag := d.tag, reqAgent := d.reqAgent, reqPkg := s.ownPkg, htx := 0, line := d.line, rcid := d.rcid, mcid := d.mcid, go := true, poison := (s.memLine (s.lineKey h (line * 64))).2 }, data := (s.memLine (s.lineKey h (line * 64))).1, source := 6 }] ∧ (t.home h).dir = Tab.set (s.home h).dir k { line := line, st := 1, sv := 2 ^ d.reqAgent, own := d.reqAgent, ownPkg := s.ownPkg, bench := true } ∧
      (t.home h).txs.map (fun e => (e.1, e.2.st, e.2.agent, e.2.tag)) = [(0, .granted, d.reqAgent, d.tag)] ∧ (s.arrived .rdS d).onlyOrder t h) ∧
  (∀ (s : State) (d : Hdr) (h line : Nat) (k : Nat),
    s.reachesHome .rdU d h →
    s.idleHome h →
    s.homeLine h d.line = some line →
    s.benchLine h line →
    d.reqAgent < 12 →
    s.dirFind h line = none →
    (s.home h).dirWay h (s.dirSetOf h (line * 64)) = .free k →
    RunsTo (exec (.rdU d) s) fun t =>
      t.net = s.restNet .rdU d ++ [entered { op := .dataE, hdr := { src := agentOfHome h, dst := d.reqAgent, srcPkg := s.ownPkg, dstPkg := s.ownPkg, tag := d.tag, reqAgent := d.reqAgent, reqPkg := s.ownPkg, htx := 0, line := d.line, rcid := d.rcid, mcid := d.mcid, go := true, poison := (s.memLine (s.lineKey h (line * 64))).2 }, data := (s.memLine (s.lineKey h (line * 64))).1, source := 6 }] ∧ (t.home h).dir = Tab.set (s.home h).dir k { line := line, st := 1, sv := 2 ^ d.reqAgent, own := d.reqAgent, ownPkg := s.ownPkg, bench := true } ∧
      (t.home h).txs.map (fun e => (e.1, e.2.st, e.2.agent, e.2.tag)) = [(0, .granted, d.reqAgent, d.tag)] ∧ (s.arrived .rdU d).onlyOrder t h) ∧
  (∀ (s : State) (d : Hdr) (h line : Nat) (k : Nat),
    s.reachesHome .upg d h →
    s.idleHome h →
    s.homeLine h d.line = some line →
    s.benchLine h line →
    d.reqAgent < 12 →
    s.dirFind h line = none →
    (s.home h).dirWay h (s.dirSetOf h (line * 64)) = .free k →
    RunsTo (exec (.upg d) s) fun t =>
      t.net = s.restNet .upg d ++ [entered { op := .dataE, hdr := { src := agentOfHome h, dst := d.reqAgent, srcPkg := s.ownPkg, dstPkg := s.ownPkg, tag := d.tag, reqAgent := d.reqAgent, reqPkg := s.ownPkg, htx := 0, line := d.line, rcid := d.rcid, mcid := d.mcid, go := true, poison := (s.memLine (s.lineKey h (line * 64))).2 }, data := (s.memLine (s.lineKey h (line * 64))).1, source := 6 }] ∧ (t.home h).dir = Tab.set (s.home h).dir k { line := line, st := 1, sv := 2 ^ d.reqAgent, own := d.reqAgent, ownPkg := s.ownPkg, bench := true } ∧
      (t.home h).txs.map (fun e => (e.1, e.2.st, e.2.agent, e.2.tag)) = [(0, .granted, d.reqAgent, d.tag)] ∧ (s.arrived .upg d).onlyOrder t h) ∧
  (∀ (s : State) (d : Hdr) (h line : Nat) (k : Nat),
    s.reachesHome .cboZero d h →
    s.idleHome h →
    s.homeLine h d.line = some line →
    s.benchLine h line →
    d.reqAgent < 12 →
    s.dirFind h line = none →
    (s.home h).dirWay h (s.dirSetOf h (line * 64)) = .free k →
    RunsTo (exec (.cboZero d) s) fun t =>
      t.net = s.restNet .cboZero d ++ [entered { op := .goU, hdr := { src := agentOfHome h, dst := d.reqAgent, srcPkg := s.ownPkg, dstPkg := s.ownPkg, tag := d.tag, reqAgent := d.reqAgent, reqPkg := s.ownPkg, htx := 0, line := d.line, rcid := d.rcid, mcid := d.mcid } }] ∧ (t.home h).dir = Tab.set (s.home h).dir k { line := line, st := 1, sv := 2 ^ d.reqAgent, own := d.reqAgent, ownPkg := s.ownPkg, bench := true } ∧
      (t.home h).txs.map (fun e => (e.1, e.2.st, e.2.agent, e.2.tag)) = [(0, .granted, d.reqAgent, d.tag)] ∧ (s.arrived .cboZero d).onlyOrder t h) ∧
  (∀ (s : State) (d : Hdr) (h line : Nat),
    s.reachesHome .rdNc d h →
    s.idleHome h →
    s.homeLine h d.line = some line →
    s.benchLine h line →
    (d.reqAgent < 12 ∨ 32 ≤ d.reqAgent) →
    s.dirFind h line = none →
    RunsTo (exec (.rdNc d) s) fun t =>
      t.net = s.restNet .rdNc d ++ [entered { op := .ncRData, hdr := { src := agentOfHome h, dst := d.reqAgent, srcPkg := s.ownPkg, dstPkg := s.ownPkg, tag := d.tag, reqAgent := d.reqAgent, reqPkg := s.ownPkg, htx := 0, line := d.line, rcid := d.rcid, mcid := d.mcid, poison := (s.memLine (s.lineKey h (line * 64))).2 }, data := (s.memLine (s.lineKey h (line * 64))).1, source := 6 }] ∧
      (t.home h).dir = (s.home h).dir ∧ (t.home h).txs = [] ∧ (s.arrived .rdNc d).onlyOrder t h) ∧
  (∀ (s : State) (d : Hdr) (h line : Nat) (k p : Nat) (e : BayLine),
    s.reachesHome .rdS d h →
    s.idleHome h →
    s.homeLine h d.line = some line →
    (h < 12 ∧ isBenchAddr (line * 64) = false) →
    d.reqAgent < 12 →
    s.dirFind h line = none →
    (s.home h).dirWay h (s.dirSetOf h (line * 64)) = .free k →
    s.bayFind h line = some (p, e) →
    e.bad = 0 →
    s.arrayEn h = true →
    RunsTo (exec (.rdS d) s) fun t =>
      t.net = s.restNet .rdS d ++ [entered { op := .dataE, hdr := { src := agentOfHome h, dst := d.reqAgent, srcPkg := s.ownPkg, dstPkg := s.ownPkg, tag := d.tag, reqAgent := d.reqAgent, reqPkg := s.ownPkg, htx := 0, line := d.line, rcid := d.rcid, mcid := d.mcid, go := true, poison := e.poison }, data := e.data, source := 2 }] ∧
      (t.home h).dir = Tab.set (s.home h).dir k { line := line, st := 1, sv := 2 ^ d.reqAgent, own := d.reqAgent, ownPkg := s.ownPkg, bench := false } ∧
      (t.home h).txs.map (fun e => (e.1, e.2.st, e.2.agent, e.2.tag)) = [(0, .granted, d.reqAgent, d.tag)] ∧ (s.arrived .rdS d).onlyOrder t h) ∧
  (∀ (s : State) (d : Hdr) (h line : Nat) (k : Nat),
    s.reachesHome .rdS d h →
    s.idleHome h →
    s.homeLine h d.line = some line →
    (h < 12 ∧ isBenchAddr (line * 64) = false) →
    d.reqAgent < 12 →
    s.dirFind h line = none →
    (s.home h).dirWay h (s.dirSetOf h (line * 64)) = .free k →
    s.bayFind h line = none →
    RunsTo (exec (.rdS d) s) fun t =>
      t.net = s.restNet .rdS d ∧ (t.home h).dir = (s.home h).dir ∧ (t.home h).resv = [(k, 0)] ∧
      (t.home h).bmrs = [(0, { line := line, htx := 0, order := (s.home h).seqNo })] ∧
      (t.home h).txs.map (fun e => (e.1, e.2.st, e.2.bmr, e.2.dirway)) = [(0, .active, some 0, some k)] ∧
      (t.home h).cache = (s.home h).cache ∧ (t.home h).victims = [] ∧ (s.arrived .rdS d).onlyHome t h) ∧
  (∀ (s : State) (d : Hdr) (h line : Nat) (k p : Nat) (e : BayLine),
    s.reachesHome .rdU d h →
    s.idleHome h →
    s.homeLine h d.line = some line →
    (h < 12 ∧ isBenchAddr (line * 64) = false) →
    d.reqAgent < 12 →
    s.dirFind h line = none →
    (s.home h).dirWay h (s.dirSetOf h (line * 64)) = .free k →
    s.bayFind h line = some (p, e) →
    e.bad = 0 →
    s.arrayEn h = true →
    RunsTo (exec (.rdU d) s) fun t =>
      t.net = s.restNet .rdU d ++ [entered { op := .dataE, hdr := { src := agentOfHome h, dst := d.reqAgent, srcPkg := s.ownPkg, dstPkg := s.ownPkg, tag := d.tag, reqAgent := d.reqAgent, reqPkg := s.ownPkg, htx := 0, line := d.line, rcid := d.rcid, mcid := d.mcid, go := true, poison := e.poison }, data := e.data, source := 2 }] ∧
      (t.home h).dir = Tab.set (s.home h).dir k { line := line, st := 1, sv := 2 ^ d.reqAgent, own := d.reqAgent, ownPkg := s.ownPkg, bench := false } ∧
      (t.home h).txs.map (fun e => (e.1, e.2.st, e.2.agent, e.2.tag)) = [(0, .granted, d.reqAgent, d.tag)] ∧ (s.arrived .rdU d).onlyOrder t h) ∧
  (∀ (s : State) (d : Hdr) (h line : Nat) (k : Nat),
    s.reachesHome .rdU d h →
    s.idleHome h →
    s.homeLine h d.line = some line →
    (h < 12 ∧ isBenchAddr (line * 64) = false) →
    d.reqAgent < 12 →
    s.dirFind h line = none →
    (s.home h).dirWay h (s.dirSetOf h (line * 64)) = .free k →
    s.bayFind h line = none →
    RunsTo (exec (.rdU d) s) fun t =>
      t.net = s.restNet .rdU d ∧ (t.home h).dir = (s.home h).dir ∧ (t.home h).resv = [(k, 0)] ∧
      (t.home h).bmrs = [(0, { line := line, htx := 0, order := (s.home h).seqNo })] ∧
      (t.home h).txs.map (fun e => (e.1, e.2.st, e.2.bmr, e.2.dirway)) = [(0, .active, some 0, some k)] ∧
      (t.home h).cache = (s.home h).cache ∧ (t.home h).victims = [] ∧ (s.arrived .rdU d).onlyHome t h) ∧
  (∀ (s : State) (d : Hdr) (h line : Nat) (k p : Nat) (e : BayLine),
    s.reachesHome .upg d h →
    s.idleHome h →
    s.homeLine h d.line = some line →
    (h < 12 ∧ isBenchAddr (line * 64) = false) →
    d.reqAgent < 12 →
    s.dirFind h line = none →
    (s.home h).dirWay h (s.dirSetOf h (line * 64)) = .free k →
    s.bayFind h line = some (p, e) →
    e.bad = 0 →
    s.arrayEn h = true →
    RunsTo (exec (.upg d) s) fun t =>
      t.net = s.restNet .upg d ++ [entered { op := .dataE, hdr := { src := agentOfHome h, dst := d.reqAgent, srcPkg := s.ownPkg, dstPkg := s.ownPkg, tag := d.tag, reqAgent := d.reqAgent, reqPkg := s.ownPkg, htx := 0, line := d.line, rcid := d.rcid, mcid := d.mcid, go := true, poison := e.poison }, data := e.data, source := 2 }] ∧
      (t.home h).dir = Tab.set (s.home h).dir k { line := line, st := 1, sv := 2 ^ d.reqAgent, own := d.reqAgent, ownPkg := s.ownPkg, bench := false } ∧
      (t.home h).txs.map (fun e => (e.1, e.2.st, e.2.agent, e.2.tag)) = [(0, .granted, d.reqAgent, d.tag)] ∧ (s.arrived .upg d).onlyOrder t h) ∧
  (∀ (s : State) (d : Hdr) (h line : Nat) (k : Nat),
    s.reachesHome .upg d h →
    s.idleHome h →
    s.homeLine h d.line = some line →
    (h < 12 ∧ isBenchAddr (line * 64) = false) →
    d.reqAgent < 12 →
    s.dirFind h line = none →
    (s.home h).dirWay h (s.dirSetOf h (line * 64)) = .free k →
    s.bayFind h line = none →
    RunsTo (exec (.upg d) s) fun t =>
      t.net = s.restNet .upg d ∧ (t.home h).dir = (s.home h).dir ∧ (t.home h).resv = [(k, 0)] ∧
      (t.home h).bmrs = [(0, { line := line, htx := 0, order := (s.home h).seqNo })] ∧
      (t.home h).txs.map (fun e => (e.1, e.2.st, e.2.bmr, e.2.dirway)) = [(0, .active, some 0, some k)] ∧
      (t.home h).cache = (s.home h).cache ∧ (t.home h).victims = [] ∧ (s.arrived .upg d).onlyHome t h) ∧
  (∀ (s : State) (d : Hdr) (h line : Nat),
    s.reachesHome .rdNc d h →
    s.idleHome h →
    s.homeLine h d.line = some line →
    (h < 12 ∧ isBenchAddr (line * 64) = false) →
    (d.reqAgent < 12 ∨ 32 ≤ d.reqAgent) →
    s.dirFind h line = none →
    s.bayFind h line = none →
    RunsTo (exec (.rdNc d) s) fun t =>
      t.net = s.restNet .rdNc d ∧ (t.home h).dir = (s.home h).dir ∧ (t.home h).resv = [] ∧
      (t.home h).bmrs = [(0, { line := line, htx := 0, order := (s.home h).seqNo })] ∧
      (t.home h).txs.map (fun e => (e.1, e.2.st, e.2.bmr, e.2.dirway)) = [(0, .active, some 0, none)] ∧
      (t.home h).cache = (s.home h).cache ∧ (t.home h).victims = [] ∧ (s.arrived .rdNc d).onlyHome t h) ∧
  (∀ (s : State) (d : Hdr) (h line : Nat),
    s.reachesHome .rdS d h →
    s.idleHome h →
    s.homeLine h d.line = some line →
    s.reqErr h line .rdS = true →
    (d.reqAgent < 12 ∨ 32 ≤ d.reqAgent) →
    RunsTo (exec (.rdS d) s) fun t =>
      t.net = s.restNet .rdS d ++ [entered { op := .err, hdr := { src := agentOfHome h, dst := d.reqAgent, srcPkg := s.ownPkg, dstPkg := s.ownPkg, tag := d.tag, reqAgent := d.reqAgent, reqPkg := s.ownPkg, htx := 0, line := d.line, rcid := d.rcid, mcid := d.mcid } }] ∧ (t.home h).dir = (s.home h).dir ∧ (t.home h).txs = [] ∧ (s.arrived .rdS d).onlyOrder t h) ∧
  (∀ (s : State) (d : Hdr) (h line : Nat),
    s.reachesHome .rdU d h →
    s.idleHome h →
    s.homeLine h d.line = some line →
    s.reqErr h line .rdU = true →
    (d.reqAgent < 12 ∨ 32 ≤ d.reqAgent) →
    RunsTo (exec (.rdU d) s) fun t =>
      t.net = s.restNet .rdU d ++ [entered { op := .err, hdr := { src := agentOfHome h, dst := d.reqAgent, srcPkg := s.ownPkg, dstPkg := s.ownPkg, tag := d.tag, reqAgent := d.reqAgent, reqPkg := s.ownPkg, htx := 0, line := d.line, rcid := d.rcid, mcid := d.mcid } }] ∧ (t.home h).dir = (s.home h).dir ∧ (t.home h).txs = [] ∧ (s.arrived .rdU d).onlyOrder t h) ∧
  (∀ (s : State) (d : Hdr) (h line : Nat),
    s.reachesHome .upg d h →
    s.idleHome h →
    s.homeLine h d.line = some line →
    s.reqErr h line .upg = true →
    (d.reqAgent < 12 ∨ 32 ≤ d.reqAgent) →
    RunsTo (exec (.upg d) s) fun t =>
      t.net = s.restNet .upg d ++ [entered { op := .err, hdr := { src := agentOfHome h, dst := d.reqAgent, srcPkg := s.ownPkg, dstPkg := s.ownPkg, tag := d.tag, reqAgent := d.reqAgent, reqPkg := s.ownPkg, htx := 0, line := d.line, rcid := d.rcid, mcid := d.mcid } }] ∧ (t.home h).dir = (s.home h).dir ∧ (t.home h).txs = [] ∧ (s.arrived .upg d).onlyOrder t h) ∧
  (∀ (s : State) (d : Hdr) (h line : Nat),
    s.reachesHome .rdNc d h →
    s.idleHome h →
    s.homeLine h d.line = some line →
    s.reqErr h line .rdNc = true →
    (d.reqAgent < 12 ∨ 32 ≤ d.reqAgent) →
    RunsTo (exec (.rdNc d) s) fun t =>
      t.net = s.restNet .rdNc d ++ [entered { op := .err, hdr := { src := agentOfHome h, dst := d.reqAgent, srcPkg := s.ownPkg, dstPkg := s.ownPkg, tag := d.tag, reqAgent := d.reqAgent, reqPkg := s.ownPkg, htx := 0, line := d.line, rcid := d.rcid, mcid := d.mcid } }] ∧ (t.home h).dir = (s.home h).dir ∧ (t.home h).txs = [] ∧ (s.arrived .rdNc d).onlyOrder t h) ∧
  (∀ (s : State) (d : Hdr) (h line : Nat),
    s.reachesHome .cboZero d h →
    s.idleHome h →
    s.homeLine h d.line = some line →
    s.reqErr h line .cboZero = true →
    (d.reqAgent < 12 ∨ 32 ≤ d.reqAgent) →
    RunsTo (exec (.cboZero d) s) fun t =>
      t.net = s.restNet .cboZero d ++ [entered { op := .err, hdr := { src := agentOfHome h, dst := d.reqAgent, srcPkg := s.ownPkg, dstPkg := s.ownPkg, tag := d.tag, reqAgent := d.reqAgent, reqPkg := s.ownPkg, htx := 0, line := d.line, rcid := d.rcid, mcid := d.mcid } }] ∧ (t.home h).dir = (s.home h).dir ∧ (t.home h).txs = [] ∧ (s.arrived .cboZero d).onlyOrder t h)

/-- For a line at an idle home, a request of a stud. Of a line that the directory holds in state U with another stud as owner: RD_S sends SNP_FWD_S and RD_U sends SNP_FWD_U to the owner and nothing else, takes an SNP credit, and the transaction waits for one response. A WB or WB_KEEP of the recorded owner is answered with WB_PULL and one of another stud with WB_STALE, which ends it. Of a bench line that no cache holds: WR_NC, whole or in part, and ATOM_NC are answered with WR_PULL, the last two with the line in the home's buffer. Beside the arrival, the messages sent, the home's transactions and directory, and the power state of its array, nothing changes. -/
def Obligations.HomeSnoopsTrackedLines : Prop :=
  (∀ (s : State) (d : Hdr) (h line : Nat) (o : Nat) (b : Bool),
    s.reachesHome .rdS d h →
    s.idleHome h →
    s.homeLine h d.line = some line →
    s.reqErr h line .rdS = false →
    d.reqAgent < 12 →
    o < 12 →
    o ≠ d.reqAgent →
    s.linked d.dst o = true →
    (s.dirFind h line).map (·.2) = some { line := line, st := 1, sv := 2 ^ o, own := o, ownPkg := s.ownPkg, bench := b } →
    Tab.get (s.home h).snpCred 0 o < 64 →
    RunsTo (exec (.rdS d) s) fun t =>
      t.net = s.restNet .rdS d ++ [entered { op := .snpFwdS, hdr := { src := agentOfHome h, dst := o, srcPkg := s.ownPkg, dstPkg := s.ownPkg, tag := d.tag, reqAgent := d.reqAgent, reqPkg := s.ownPkg, htx := 0, line := d.line, rcid := d.rcid, mcid := d.mcid } }] ∧
      (t.home h).txs.map (fun e => (e.1, e.2.st, e.2.pend)) = [(0, .active, 1)] ∧ (t.home h).dir = (s.home h).dir ∧
      Tab.get (t.home h).snpCred 0 o = Tab.get (s.home h).snpCred 0 o + 1 ∧ (s.arrived .rdS d).onlyOrder t h) ∧
  (∀ (s : State) (d : Hdr) (h line : Nat) (o : Nat) (b : Bool),
    s.reachesHome .rdU d h →
    s.idleHome h →
    s.homeLine h d.line = some line →
    s.reqErr h line .rdU = false →
    d.reqAgent < 12 →
    o < 12 →
    o ≠ d.reqAgent →
    s.linked d.dst o = true →
    (s.dirFind h line).map (·.2) = some { line := line, st := 1, sv := 2 ^ o, own := o, ownPkg := s.ownPkg, bench := b } →
    Tab.get (s.home h).snpCred 0 o < 64 →
    RunsTo (exec (.rdU d) s) fun t =>
      t.net = s.restNet .rdU d ++ [entered { op := .snpFwdU, hdr := { src := agentOfHome h, dst := o, srcPkg := s.ownPkg, dstPkg := s.ownPkg, tag := d.tag, reqAgent := d.reqAgent, reqPkg := s.ownPkg, htx := 0, line := d.line, rcid := d.rcid, mcid := d.mcid } }] ∧
      (t.home h).txs.map (fun e => (e.1, e.2.st, e.2.pend)) = [(0, .active, 1)] ∧ (t.home h).dir = (s.home h).dir ∧
      Tab.get (t.home h).snpCred 0 o = Tab.get (s.home h).snpCred 0 o + 1 ∧ (s.arrived .rdU d).onlyOrder t h) ∧
  (∀ (s : State) (d : Hdr) (h line : Nat) (b : Bool),
    s.reachesHome .wb d h →
    s.idleHome h →
    s.homeLine h d.line = some line →
    s.homeLine h d.line = some line →
    d.reqAgent < 12 →
    (s.dirFind h line).map (·.2) = some { line := line, st := 1, sv := 2 ^ d.reqAgent, own := d.reqAgent, ownPkg := s.ownPkg, bench := b } →
    RunsTo (exec (.wb d) s) fun t =>
      t.net = s.restNet .wb d ++ [entered { op := .wbPull, hdr := { src := agentOfHome h, dst := d.reqAgent, srcPkg := s.ownPkg, dstPkg := s.ownPkg, tag := d.tag, reqAgent := d.reqAgent, reqPkg := s.ownPkg, htx := 0, line := d.line, rcid := d.rcid, mcid := d.mcid } }] ∧
      (t.home h).txs.map (fun e => (e.1, e.2.op, e.2.pulled)) = [(0, .wb, true)] ∧ (t.home h).dir = (s.home h).dir ∧ (s.arrived .wb d).onlyOrder t h) ∧
  (∀ (s : State) (d : Hdr) (h line : Nat) (o : Nat) (b : Bool),
    s.reachesHome .wb d h →
    s.idleHome h →
    s.homeLine h d.line = some line →
    s.homeLine h d.line = some line →
    d.reqAgent < 12 →
    o < 12 →
    o ≠ d.reqAgent →
    (s.dirFind h line).map (·.2) = some { line := line, st := 1, sv := 2 ^ o, own := o, ownPkg := s.ownPkg, bench := b } →
    RunsTo (exec (.wb d) s) fun t =>
      t.net = s.restNet .wb d ++ [entered { op := .wbStale, hdr := { src := agentOfHome h, dst := d.reqAgent, srcPkg := s.ownPkg, dstPkg := s.ownPkg, tag := d.tag, reqAgent := d.reqAgent, reqPkg := s.ownPkg, htx := 0, line := d.line, rcid := d.rcid, mcid := d.mcid } }] ∧ (t.home h).txs = [] ∧ (t.home h).dir = (s.home h).dir ∧ (s.arrived .wb d).onlyOrder t h) ∧
  (∀ (s : State) (d : Hdr) (h line : Nat) (b : Bool),
    s.reachesHome .wbKeep d h →
    s.idleHome h →
    s.homeLine h d.line = some line →
    s.homeLine h d.line = some line →
    d.reqAgent < 12 →
    (s.dirFind h line).map (·.2) = some { line := line, st := 1, sv := 2 ^ d.reqAgent, own := d.reqAgent, ownPkg := s.ownPkg, bench := b } →
    RunsTo (exec (.wbKeep d) s) fun t =>
      t.net = s.restNet .wbKeep d ++ [entered { op := .wbPull, hdr := { src := agentOfHome h, dst := d.reqAgent, srcPkg := s.ownPkg, dstPkg := s.ownPkg, tag := d.tag, reqAgent := d.reqAgent, reqPkg := s.ownPkg, htx := 0, line := d.line, rcid := d.rcid, mcid := d.mcid } }] ∧
      (t.home h).txs.map (fun e => (e.1, e.2.op, e.2.pulled)) = [(0, .wbKeep, true)] ∧ (t.home h).dir = (s.home h).dir ∧ (s.arrived .wbKeep d).onlyOrder t h) ∧
  (∀ (s : State) (d : Hdr) (h line : Nat) (o : Nat) (b : Bool),
    s.reachesHome .wbKeep d h →
    s.idleHome h →
    s.homeLine h d.line = some line →
    s.homeLine h d.line = some line →
    d.reqAgent < 12 →
    o < 12 →
    o ≠ d.reqAgent →
    (s.dirFind h line).map (·.2) = some { line := line, st := 1, sv := 2 ^ o, own := o, ownPkg := s.ownPkg, bench := b } →
    RunsTo (exec (.wbKeep d) s) fun t =>
      t.net = s.restNet .wbKeep d ++ [entered { op := .wbStale, hdr := { src := agentOfHome h, dst := d.reqAgent, srcPkg := s.ownPkg, dstPkg := s.ownPkg, tag := d.tag, reqAgent := d.reqAgent, reqPkg := s.ownPkg, htx := 0, line := d.line, rcid := d.rcid, mcid := d.mcid } }] ∧ (t.home h).txs = [] ∧ (t.home h).dir = (s.home h).dir ∧ (s.arrived .wbKeep d).onlyOrder t h) ∧
  (∀ (s : State) (d : Hdr) (h line : Nat),
    s.reachesHome .wrNc d h →
    s.idleHome h →
    s.homeLine h d.line = some line →
    s.benchLine h line →
    (d.reqAgent < 12 ∨ 32 ≤ d.reqAgent) →
    s.dirFind h line = none →
    RunsTo (exec (.wrNc d true) s) fun t =>
      t.net = s.restNet .wrNc d ++ [entered { op := .wrPull, hdr := { src := agentOfHome h, dst := d.reqAgent, srcPkg := s.ownPkg, dstPkg := s.ownPkg, tag := d.tag, reqAgent := d.reqAgent, reqPkg := s.ownPkg, htx := 0, line := d.line, rcid := d.rcid, mcid := d.mcid } }] ∧
      (t.home h).txs.map (fun e => (e.1, e.2.op, e.2.pulled, e.2.full)) = [(0, .wrNc, true, true)] ∧ (t.home h).dir = (s.home h).dir ∧ (s.arrived .wrNc d).onlyOrder t h) ∧
  (∀ (s : State) (d : Hdr) (h line : Nat),
    s.reachesHome .wrNc d h →
    s.idleHome h →
    s.homeLine h d.line = some line →
    s.benchLine h line →
    (d.reqAgent < 12 ∨ 32 ≤ d.reqAgent) →
    s.dirFind h line = none →
    (s.arrive { op := .wrNc, hdr := d }).2.any (fun m => m.mask == BitVec.allOnes 64) = false →
    RunsTo (exec (.wrNc d false) s) fun t =>
      t.net = s.restNet .wrNc d ++ [entered { op := .wrPull, hdr := { src := agentOfHome h, dst := d.reqAgent, srcPkg := s.ownPkg, dstPkg := s.ownPkg, tag := d.tag, reqAgent := d.reqAgent, reqPkg := s.ownPkg, htx := 0, line := d.line, rcid := d.rcid, mcid := d.mcid } }] ∧
      (t.home h).txs.map (fun e => (e.1, e.2.op, e.2.pulled, e.2.full, e.2.buf, e.2.poison)) = [(0, .wrNc, true, false, (s.memLine (s.lineKey h (line * 64))).1, (s.memLine (s.lineKey h (line * 64))).2)] ∧
      (t.home h).dir = (s.home h).dir ∧ (s.arrived .wrNc d).onlyOrder t h) ∧
  (∀ (s : State) (d : Hdr) (h line : Nat) (op : AmoOp) (size off : Nat),
    s.reachesHome .atomNc d h →
    s.idleHome h →
    s.homeLine h d.line = some line →
    s.benchLine h line →
    (d.reqAgent < 12 ∨ 32 ≤ d.reqAgent) →
    s.dirFind h line = none →
    RunsTo (exec (.atomNc d op size off) s) fun t =>
      t.net = s.restNet .atomNc d ++ [entered { op := .wrPull, hdr := { src := agentOfHome h, dst := d.reqAgent, srcPkg := s.ownPkg, dstPkg := s.ownPkg, tag := d.tag, reqAgent := d.reqAgent, reqPkg := s.ownPkg, htx := 0, line := d.line, rcid := d.rcid, mcid := d.mcid } }] ∧
      (t.home h).txs.map (fun e => (e.1, e.2.op, e.2.pulled, e.2.buf, e.2.amo, e.2.size, e.2.off)) = [(0, .atomNc, true, (s.memLine (s.lineKey h (line * 64))).1, op, size, off)] ∧
      (t.home h).dir = (s.home h).dir ∧ (s.arrived .atomNc d).onlyOrder t h)

/-- At an idle home, for a line that no cache holds. Of a bench line CBO_CLEAN, CBO_FLUSH and CBO_INVAL are answered with GO_DONE and end. Of a DRAM line that the bay holds dirty in a way that is not locked, CBO_CLEAN and CBO_FLUSH put it into the victim buffer, CBO_CLEAN keeps the bay's copy clean and CBO_FLUSH takes it out, and both wait until it has entered the write queue; CBO_INVAL takes it out, writes nothing and is answered at once. LOCK_FILL of a DRAM line takes a bay miss register marked as a preload, with the bay's data if the bay holds the line, and the transaction waits. Beside the arrival, the answer, home h and the power state of its array, nothing changes. -/
def Obligations.HomeCacheBlockAndLockFill : Prop :=
  (∀ (s : State) (d : Hdr) (h line : Nat),
    s.reachesHome .cboClean d h →
    s.idleHome h →
    s.homeLine h d.line = some line →
    s.benchLine h line →
    (d.reqAgent < 12 ∨ 32 ≤ d.reqAgent) →
    s.dirFind h line = none →
    RunsTo (exec (.cboClean d) s) fun t =>
      t.net = s.restNet .cboClean d ++ [entered { op := .goDone, hdr := { src := agentOfHome h, dst := d.reqAgent, srcPkg := s.ownPkg, dstPkg := s.ownPkg, tag := d.tag, reqAgent := d.reqAgent, reqPkg := s.ownPkg, htx := 0, line := d.line, rcid := d.rcid, mcid := d.mcid } }] ∧ (t.home h).txs = [] ∧ (t.home h).dir = (s.home h).dir ∧ (s.arrived .cboClean d).onlyOrder t h) ∧
  (∀ (s : State) (d : Hdr) (h line : Nat) (p : Nat) (e : BayLine),
    s.reachesHome .cboClean d h →
    s.idleHome h →
    s.homeLine h d.line = some line →
    (h < 12 ∧ isBenchAddr (line * 64) = false) →
    (d.reqAgent < 12 ∨ 32 ≤ d.reqAgent) →
    s.dirFind h line = none →
    s.bayFind h line = some (p, e) →
    e.bad = 0 →
    e.dirty = true →
    s.arrayEn h = true →
    (s.home h).lockedWay p = false →
    (s.home h).cache.all (fun y => y.1 == p || y.2.line != line) = true →
    RunsTo (exec (.cboClean d) s) fun t =>
      t.net = s.restNet .cboClean d ∧ (t.home h).txs.map (fun e => (e.1, e.2.waitWr)) = [(0, true)] ∧ (t.home h).victims = [{ line := e.line, data := e.data, poison := e.poison, rcid := e.rcid, mcid := e.mcid }] ∧
      (t.home h).cache = Tab.set (s.home h).cache p { e with dirty := false } ∧
      (t.home h).dir = (s.home h).dir ∧ (s.arrived .cboClean d).onlyHome t h) ∧
  (∀ (s : State) (d : Hdr) (h line : Nat),
    s.reachesHome .cboFlush d h →
    s.idleHome h →
    s.homeLine h d.line = some line →
    s.benchLine h line →
    (d.reqAgent < 12 ∨ 32 ≤ d.reqAgent) →
    s.dirFind h line = none →
    RunsTo (exec (.cboFlush d) s) fun t =>
      t.net = s.restNet .cboFlush d ++ [entered { op := .goDone, hdr := { src := agentOfHome h, dst := d.reqAgent, srcPkg := s.ownPkg, dstPkg := s.ownPkg, tag := d.tag, reqAgent := d.reqAgent, reqPkg := s.ownPkg, htx := 0, line := d.line, rcid := d.rcid, mcid := d.mcid } }] ∧ (t.home h).txs = [] ∧ (t.home h).dir = (s.home h).dir ∧ (s.arrived .cboFlush d).onlyOrder t h) ∧
  (∀ (s : State) (d : Hdr) (h line : Nat) (p : Nat) (e : BayLine),
    s.reachesHome .cboFlush d h →
    s.idleHome h →
    s.homeLine h d.line = some line →
    (h < 12 ∧ isBenchAddr (line * 64) = false) →
    (d.reqAgent < 12 ∨ 32 ≤ d.reqAgent) →
    s.dirFind h line = none →
    s.bayFind h line = some (p, e) →
    e.bad = 0 →
    e.dirty = true →
    s.arrayEn h = true →
    (s.home h).lockedWay p = false →
    (s.home h).cache.all (fun y => y.1 == p || y.2.line != line) = true →
    RunsTo (exec (.cboFlush d) s) fun t =>
      t.net = s.restNet .cboFlush d ∧ (t.home h).txs.map (fun e => (e.1, e.2.waitWr)) = [(0, true)] ∧ (t.home h).victims = [{ line := e.line, data := e.data, poison := e.poison, rcid := e.rcid, mcid := e.mcid }] ∧
      (t.home h).cache = Tab.erase (s.home h).cache p ∧
      (t.home h).dir = (s.home h).dir ∧ (s.arrived .cboFlush d).onlyHome t h) ∧
  (∀ (s : State) (d : Hdr) (h line : Nat),
    s.reachesHome .cboInval d h →
    s.idleHome h →
    s.homeLine h d.line = some line →
    s.benchLine h line →
    (d.reqAgent < 12 ∨ 32 ≤ d.reqAgent) →
    s.dirFind h line = none →
    RunsTo (exec (.cboInval d) s) fun t =>
      t.net = s.restNet .cboInval d ++ [entered { op := .goDone, hdr := { src := agentOfHome h, dst := d.reqAgent, srcPkg := s.ownPkg, dstPkg := s.ownPkg, tag := d.tag, reqAgent := d.reqAgent, reqPkg := s.ownPkg, htx := 0, line := d.line, rcid := d.rcid, mcid := d.mcid } }] ∧ (t.home h).txs = [] ∧ (t.home h).dir = (s.home h).dir ∧ (s.arrived .cboInval d).onlyOrder t h) ∧
  (∀ (s : State) (d : Hdr) (h line : Nat) (p : Nat) (e : BayLine),
    s.reachesHome .cboInval d h →
    s.idleHome h →
    s.homeLine h d.line = some line →
    (h < 12 ∧ isBenchAddr (line * 64) = false) →
    (d.reqAgent < 12 ∨ 32 ≤ d.reqAgent) →
    s.dirFind h line = none →
    s.bayFind h line = some (p, e) →
    e.bad = 0 →
    e.dirty = true →
    s.arrayEn h = true →
    (s.home h).lockedWay p = false →
    (s.home h).cache.all (fun y => y.1 == p || y.2.line != line) = true →
    RunsTo (exec (.cboInval d) s) fun t =>
      t.net = s.restNet .cboInval d ++ [entered { op := .goDone, hdr := { src := agentOfHome h, dst := d.reqAgent, srcPkg := s.ownPkg, dstPkg := s.ownPkg, tag := d.tag, reqAgent := d.reqAgent, reqPkg := s.ownPkg, htx := 0, line := d.line, rcid := d.rcid, mcid := d.mcid } }] ∧ (t.home h).txs = [] ∧ (t.home h).victims = [] ∧ (t.home h).cache = Tab.erase (s.home h).cache p ∧
      (t.home h).dir = (s.home h).dir ∧ (s.arrived .cboInval d).onlyHome t h) ∧
  (∀ (s : State) (d : Hdr) (h line : Nat),
    s.reachesHome .lockFill d h →
    s.idleHome h →
    s.homeLine h d.line = some line →
    (h < 12 ∧ isBenchAddr (line * 64) = false) →
    s.dirFind h line = none →
    s.bayFind h line = none →
    RunsTo (exec (.lockFill d) s) fun t =>
      t.net = s.restNet .lockFill d ∧ (t.home h).bmrs = [(0, { line := line, htx := 0, lock := true, data := none, order := (s.home h).seqNo })] ∧
      (t.home h).txs.map (fun e => (e.1, e.2.op, e.2.bmr)) = [(0, .lockFill, some 0)] ∧ (t.home h).cache = (s.home h).cache ∧
      (t.home h).dir = (s.home h).dir ∧ (s.arrived .lockFill d).onlyHome t h) ∧
  (∀ (s : State) (d : Hdr) (h line : Nat) (p : Nat) (e : BayLine),
    s.reachesHome .lockFill d h →
    s.idleHome h →
    s.homeLine h d.line = some line →
    (h < 12 ∧ isBenchAddr (line * 64) = false) →
    s.dirFind h line = none →
    s.bayFind h line = some (p, e) →
    e.bad = 0 →
    s.arrayEn h = true →
    RunsTo (exec (.lockFill d) s) fun t =>
      t.net = s.restNet .lockFill d ∧ (t.home h).bmrs = [(0, { line := line, htx := 0, lock := true, data := some (e.data, e.poison), order := (s.home h).seqNo })] ∧
      (t.home h).txs.map (fun e => (e.1, e.2.op, e.2.bmr)) = [(0, .lockFill, some 0)] ∧ (t.home h).cache = (s.home h).cache ∧
      (t.home h).dir = (s.home h).dir ∧ (s.arrived .lockFill d).onlyHome t h)

/-- For the one transaction of a home, on a bench line. A response lowers PEND and returns the SNP credit of its stud; one with DIRTY announces SNP_DATA. The last acknowledgement of an upgrade sends GO_U, with DIRTY set where the directory was in state O, and makes the requester the only holder. RSP_FWD_DONE of an RD_S adds the requester to the entry, which in an F-variant mode becomes S with the requester as forwarder, and in an O-variant mode O where it was O or the data was dirty, else S with no forwarder; with DIRTY in an F-variant mode it waits for SNP_DATA first. RSP_FWD_DONE of an RD_U sends GO_U and makes the requester the only holder. RSP_CLEAN_DONE ends a CBO_CLEAN with GO_DONE, and O becomes S. RSP_NOTHELD takes its holder out of the entry; of the only holder it removes the entry, and the home supplies the line. SNP_DATA is kept in the buffer, and written to the home's memory once no response is awaited. WB_DATA and NC_WDATA are written to the home's memory, the bytes of the mask in part; ATOM_NC writes its result, and nothing where its line is poisoned, and answers with the line before it. WB_CANCEL and COMP_ACK end their transaction; COMP_ACK of an RD_S that comes before the last response is kept. Beside the arrival, the answer, the home's transactions and directory, the line written and the power state of the array, nothing changes. -/
def Obligations.HomeTakesResponses : Prop :=
  (∀ (s : State) (d : Hdr) (h i : Nat) (x : HTx),
    s.soleTx .rspInvAck d h i x →
    s.benchLine h x.line →
    x.agent < 12 →
    x.needsWay = false →
    (x.st = .active ∨ x.st = .evicting) →
    2 ≤ x.pend →
    RunsTo (exec (.rspInvAck d) s) fun t =>
      (t.home h).txs = [(i, { x with pend := x.pend - 1, dirty := x.dirty || d.dirty, snpData := if d.dirty = true ∧ x.snpData = 0 then 1 else x.snpData })] ∧ Tab.get (t.home h).snpCred 0 d.src = Tab.get (s.home h).snpCred 0 d.src - 1 ∧
      t.net = s.restNet .rspInvAck d ∧ (t.home h).dir = (s.home h).dir ∧ (s.arrived .rspInvAck d).onlyOrder t h) ∧
  (∀ (s : State) (d : Hdr) (h i : Nat) (x : HTx),
    s.soleTx .rspCleanDone d h i x →
    s.benchLine h x.line →
    x.agent < 12 →
    x.needsWay = false →
    (x.st = .active ∨ x.st = .evicting) →
    2 ≤ x.pend →
    RunsTo (exec (.rspCleanDone d) s) fun t =>
      (t.home h).txs = [(i, { x with pend := x.pend - 1, dirty := x.dirty || d.dirty, snpData := if d.dirty = true ∧ x.snpData = 0 then 1 else x.snpData })] ∧ Tab.get (t.home h).snpCred 0 d.src = Tab.get (s.home h).snpCred 0 d.src - 1 ∧
      t.net = s.restNet .rspCleanDone d ∧ (t.home h).dir = (s.home h).dir ∧ (s.arrived .rspCleanDone d).onlyOrder t h) ∧
  (∀ (s : State) (d : Hdr) (h i : Nat) (x : HTx) (k : Nat) (e : DirEnt),
    s.soleTx .rspInvAck d h i x →
    s.benchLine h x.line →
    x.agent < 12 →
    x.op = .upg →
    x.upgrade = true →
    x.st = .active →
    x.pend = 1 →
    d.dirty = false →
    x.snpData = 0 →
    x.acked = false →
    s.dirFind h x.line = some (k, e) →
    RunsTo (exec (.rspInvAck d) s) fun t =>
      t.net = s.restNet .rspInvAck d ++ [entered { op := .goU, hdr := { src := agentOfHome h, dst := x.agent, srcPkg := s.ownPkg, dstPkg := s.ownPkg, tag := x.tag, reqAgent := x.agent, reqPkg := s.ownPkg, htx := i, line := x.raw, rcid := x.rcid, mcid := x.mcid, dirty := x.wasO } }] ∧
      (t.home h).dir = Tab.set (s.home h).dir k { line := x.line, st := 1, sv := 2 ^ x.agent, own := x.agent, ownPkg := s.ownPkg, bench := true } ∧ Tab.get (t.home h).snpCred 0 d.src = Tab.get (s.home h).snpCred 0 d.src - 1 ∧
      (t.home h).txs.map (fun e => (e.1, e.2.st)) = [(i, .granted)] ∧ (s.arrived .rspInvAck d).onlyOrder t h) ∧
  (∀ (s : State) (d : Hdr) (h i : Nat) (x : HTx) (k : Nat) (e : DirEnt),
    s.soleTx .rspFwdDone d h i x →
    s.benchLine h x.line →
    x.agent < 12 →
    x.op = .rdS →
    x.st = .active →
    x.pend = 1 →
    x.snpData = 0 →
    d.dirty = false →
    variantO s.mode = false →
    s.dirFind h x.line = some (k, e) →
    RunsTo (exec (.rspFwdDone d) s) fun t =>
      t.net = s.restNet .rspFwdDone d ∧
      (t.home h).dir = Tab.set (s.home h).dir k { e with st := 0, sv := e.sv ||| 2 ^ x.agent, own := x.agent, ownPkg := s.ownPkg } ∧ Tab.get (t.home h).snpCred 0 d.src = Tab.get (s.home h).snpCred 0 d.src - 1 ∧
      (t.home h).txs.map (fun e => (e.1, e.2.st)) = (if x.acked = true then [] else [(i, .granted)]) ∧ (s.arrived .rspFwdDone d).onlyOrder t h) ∧
  (∀ (s : State) (d : Hdr) (h i : Nat) (x : HTx) (k : Nat) (e : DirEnt),
    s.soleTx .rspFwdDone d h i x →
    s.benchLine h x.line →
    x.agent < 12 →
    x.op = .rdS →
    x.st = .active →
    x.pend = 1 →
    x.snpData = 0 →
    variantO s.mode = true →
    s.dirFind h x.line = some (k, e) →
    RunsTo (exec (.rspFwdDone d) s) fun t =>
      t.net = s.restNet .rspFwdDone d ∧
      (t.home h).dir = Tab.set (s.home h).dir k (if e.st = 2 ∨ (e.st = 1 ∧ (x.dirty = true ∨ d.dirty = true)) then { e with st := 2, sv := e.sv ||| 2 ^ x.agent } else { e with st := 0, sv := e.sv ||| 2 ^ x.agent, own := 15 }) ∧ Tab.get (t.home h).snpCred 0 d.src = Tab.get (s.home h).snpCred 0 d.src - 1 ∧
      (t.home h).txs.map (fun e => (e.1, e.2.st)) = (if x.acked = true then [] else [(i, .granted)]) ∧ (s.arrived .rspFwdDone d).onlyOrder t h) ∧
  (∀ (s : State) (d : Hdr) (h i : Nat) (x : HTx),
    s.soleTx .rspFwdDone d h i x →
    s.benchLine h x.line →
    x.agent < 12 →
    x.op = .rdS →
    x.st = .active →
    x.pend = 1 →
    x.snpData = 0 →
    d.dirty = true →
    variantO s.mode = false →
    (s.dirFind h x.line).isSome = true →
    RunsTo (exec (.rspFwdDone d) s) fun t =>
      t.net = s.restNet .rspFwdDone d ∧ (t.home h).dir = (s.home h).dir ∧ Tab.get (t.home h).snpCred 0 d.src = Tab.get (s.home h).snpCred 0 d.src - 1 ∧
      (t.home h).txs = [(i, { x with pend := 0, fwd := true, dirty := true, snpData := 1 })] ∧ (s.arrived .rspFwdDone d).onlyOrder t h) ∧
  (∀ (s : State) (d : Hdr) (h i : Nat) (x : HTx) (k : Nat) (e : DirEnt),
    s.soleTx .rspFwdDone d h i x →
    s.benchLine h x.line →
    x.agent < 12 →
    x.op = .rdU →
    x.upgrade = false →
    x.st = .active →
    x.pend = 1 →
    x.snpData = 0 →
    x.acked = false →
    s.dirFind h x.line = some (k, e) →
    e.st ≠ 0 →
    s.ownerIs e d.src d.srcPkg = true →
    RunsTo (exec (.rspFwdDone d) s) fun t =>
      t.net = s.restNet .rspFwdDone d ++ [entered { op := .goU, hdr := { src := agentOfHome h, dst := x.agent, srcPkg := s.ownPkg, dstPkg := s.ownPkg, tag := x.tag, reqAgent := x.agent, reqPkg := s.ownPkg, htx := i, line := x.raw, rcid := x.rcid, mcid := x.mcid } }] ∧
      (t.home h).dir = Tab.set (s.home h).dir k { line := x.line, st := 1, sv := 2 ^ x.agent, own := x.agent, ownPkg := s.ownPkg, bench := true } ∧ Tab.get (t.home h).snpCred 0 d.src = Tab.get (s.home h).snpCred 0 d.src - 1 ∧
      (t.home h).txs.map (fun e => (e.1, e.2.st)) = [(i, .granted)] ∧ (s.arrived .rspFwdDone d).onlyOrder t h) ∧
  (∀ (s : State) (d : Hdr) (h i : Nat) (x : HTx) (k : Nat) (e : DirEnt),
    s.soleTx .rspCleanDone d h i x →
    s.benchLine h x.line →
    x.agent < 12 →
    x.op = .cboClean →
    x.st = .active →
    x.pend = 1 →
    x.snpData = 0 →
    d.dirty = false →
    x.waitWr = false →
    s.dirFind h x.line = some (k, e) →
    RunsTo (exec (.rspCleanDone d) s) fun t =>
      t.net = s.restNet .rspCleanDone d ++ [entered { op := .goDone, hdr := { src := agentOfHome h, dst := x.agent, srcPkg := s.ownPkg, dstPkg := s.ownPkg, tag := x.tag, reqAgent := x.agent, reqPkg := s.ownPkg, htx := i, line := x.raw, rcid := x.rcid, mcid := x.mcid } }] ∧ (t.home h).txs = [] ∧
      (t.home h).dir = (if e.st = 2 then Tab.set (s.home h).dir k { e with st := 0, own := 15 } else (s.home h).dir) ∧ Tab.get (t.home h).snpCred 0 d.src = Tab.get (s.home h).snpCred 0 d.src - 1 ∧ (s.arrived .rspCleanDone d).onlyOrder t h) ∧
  (∀ (s : State) (d : Hdr) (h i : Nat) (x : HTx) (k : Nat) (e : DirEnt),
    s.soleTx .rspNotHeld d h i x →
    s.benchLine h x.line →
    x.agent < 12 →
    x.op = .rdS →
    x.st = .active →
    x.pend = 1 →
    x.snpData = 0 →
    d.dirty = false →
    x.fwd = false →
    x.acked = false →
    x.have_ = false →
    x.bmr = none →
    x.dirway = none →
    (s.home h).resv = [] →
    s.dirFind h x.line = some (k, e) →
    s.dropHolder e d.src d.srcPkg = none →
    (s.home h).dir.all (fun y => y.1 == k || y.2.line != x.line) = true →
    RunsTo (exec (.rspNotheld d) s) fun t =>
      t.net = s.restNet .rspNotHeld d ++ [entered { op := .dataE, hdr := { src := agentOfHome h, dst := x.agent, srcPkg := s.ownPkg, dstPkg := s.ownPkg, tag := x.tag, reqAgent := x.agent, reqPkg := s.ownPkg, htx := i, line := x.raw, rcid := x.rcid, mcid := x.mcid, go := true, poison := (s.memLine (s.lineKey h (x.line * 64))).2 }, data := (s.memLine (s.lineKey h (x.line * 64))).1, source := 6 }] ∧
      (t.home h).dir = Tab.set (s.home h).dir k { line := x.line, st := 1, sv := 2 ^ x.agent, own := x.agent, ownPkg := s.ownPkg, bench := true } ∧ Tab.get (t.home h).snpCred 0 d.src = Tab.get (s.home h).snpCred 0 d.src - 1 ∧
      (t.home h).txs.map (fun e => (e.1, e.2.st)) = [(i, .granted)] ∧ (s.arrived .rspNotHeld d).onlyOrder t h) ∧
  (∀ (s : State) (d : Hdr) (h i : Nat) (x : HTx) (k : Nat) (e e' : DirEnt),
    s.soleTx .rspNotHeld d h i x →
    s.benchLine h x.line →
    x.agent < 12 →
    x.needsWay = false →
    (x.st = .active ∨ x.st = .evicting) →
    2 ≤ x.pend →
    d.dirty = false →
    s.dirFind h x.line = some (k, e) →
    s.dropHolder e d.src d.srcPkg = some e' →
    RunsTo (exec (.rspNotheld d) s) fun t =>
      t.net = s.restNet .rspNotHeld d ∧ (t.home h).dir = Tab.set (s.home h).dir k e' ∧ Tab.get (t.home h).snpCred 0 d.src = Tab.get (s.home h).snpCred 0 d.src - 1 ∧
      (t.home h).txs = [(i, { x with pend := x.pend - 1 })] ∧ (s.arrived .rspNotHeld d).onlyOrder t h) ∧
  (∀ (s : State) (d : Hdr) (h i : Nat) (x : HTx),
    s.soleTx .wbCancel d h i x →
    s.benchLine h x.line →
    x.agent < 12 →
    (x.op = .wb ∨ x.op = .wbKeep) →
    x.pulled = true →
    RunsTo (exec (.wbCancel d) s) fun t =>
      t.net = s.restNet .wbCancel d ∧ (t.home h).txs = [] ∧ (t.home h).dir = (s.home h).dir ∧ (s.arrived .wbCancel d).onlyOrder t h) ∧
  (∀ (s : State) (d : Hdr) (h i : Nat) (x : HTx),
    s.soleTx .compAck d h i x →
    s.benchLine h x.line →
    x.agent < 12 →
    x.st = .granted →
    RunsTo (exec (.compAck d) s) fun t =>
      t.net = s.restNet .compAck d ∧ (t.home h).txs = [] ∧ (t.home h).dir = (s.home h).dir ∧ (s.arrived .compAck d).onlyOrder t h) ∧
  (∀ (s : State) (d : Hdr) (h i : Nat) (x : HTx),
    s.soleTx .compAck d h i x →
    s.benchLine h x.line →
    x.agent < 12 →
    x.op = .rdS →
    x.st = .active →
    RunsTo (exec (.compAck d) s) fun t =>
      t.net = s.restNet .compAck d ∧ (t.home h).txs = [(i, { x with acked := true })] ∧ (t.home h).dir = (s.home h).dir ∧ (s.arrived .compAck d).onlyOrder t h) ∧
  (∀ (s : State) (d : Hdr) (h i : Nat) (x : HTx) (data : Line),
    s.soleTx .snpData d h i x →
    s.benchLine h x.line →
    x.agent < 12 →
    x.needsWay = false →
    (x.st = .active ∨ x.st = .evicting) →
    1 ≤ x.pend →
    RunsTo (exec (.snpData d data) s) fun t =>
      t.net = s.restNet .snpData d ∧
      (t.home h).txs = [(i, { x with buf := data, poison := d.poison, source := 3, snpData := 2 })] ∧ (t.home h).dir = (s.home h).dir ∧ (s.arrived .snpData d).onlyOrder t h) ∧
  (∀ (s : State) (d : Hdr) (h i : Nat) (x : HTx) (data : Line),
    s.soleTx .snpData d h i x →
    s.benchLine h x.line →
    x.agent < 12 →
    x.op = .cboFlush →
    x.st = .active →
    x.pend = 0 →
    x.waitWr = false →
    RunsTo (exec (.snpData d data) s) fun t =>
      t.net = s.restNet .snpData d ++ [entered { op := .goDone, hdr := { src := agentOfHome h, dst := x.agent, srcPkg := s.ownPkg, dstPkg := s.ownPkg, tag := x.tag, reqAgent := x.agent, reqPkg := s.ownPkg, htx := i, line := x.raw, rcid := x.rcid, mcid := x.mcid } }] ∧ (t.home h).txs = [] ∧ (t.home h).dir = ((s.clearDir h x.line).home h).dir ∧
      t.memLine (s.lineKey h (x.line * 64)) = (data, d.poison) ∧
      (s.arrived .snpData d).onlyLine t h (s.lineKey h (x.line * 64))) ∧
  (∀ (s : State) (d : Hdr) (h i : Nat) (x : HTx) (data : Line) (k : Nat) (e : DirEnt),
    s.soleTx .wbData d h i x →
    s.benchLine h x.line →
    x.agent < 12 →
    (x.op = .wb ∨ x.op = .wbKeep) →
    x.pulled = true →
    x.wrote = false →
    x.pend = 0 →
    x.snpData = 0 →
    x.st = .active →
    s.dirFind h x.line = some (k, e) →
    RunsTo (exec (.wbData d data) s) fun t =>
      t.net = s.restNet .wbData d ∧ (t.home h).txs = [] ∧
      (t.home h).dir = (if e.st = 2 then Tab.set (s.home h).dir k { e with st := 0, own := 15 } else if x.op = .wbKeep then (s.home h).dir else Tab.erase (s.home h).dir k) ∧
      t.memLine (s.lineKey h (x.line * 64)) = (data, d.poison) ∧
      (s.arrived .wbData d).onlyLine t h (s.lineKey h (x.line * 64))) ∧
  (∀ (s : State) (d : Hdr) (h i : Nat) (x : HTx) (data : Line) (mask : BitVec 64),
    s.soleTx .ncWData d h i x →
    s.benchLine h x.line →
    x.agent < 12 →
    x.op = .wrNc →
    x.pulled = true →
    x.wrote = false →
    x.pend = 0 →
    x.snpData = 0 →
    x.st = .active →
    RunsTo (exec (.ncWdata d data mask) s) fun t =>
      t.net = s.restNet .ncWData d ++ [entered { op := .goDone, hdr := { src := agentOfHome h, dst := x.agent, srcPkg := s.ownPkg, dstPkg := s.ownPkg, tag := x.tag, reqAgent := x.agent, reqPkg := s.ownPkg, htx := i, line := x.raw, rcid := x.rcid, mcid := x.mcid } }] ∧ (t.home h).txs = [] ∧ (t.home h).dir = ((s.clearDir h x.line).home h).dir ∧
      (x.full = true → t.memLine (s.lineKey h (x.line * 64)) = (data, d.poison) ∧
      (s.arrived .ncWData d).onlyLine t h (s.lineKey h (x.line * 64))) ∧
      (x.full = false → (s.arrive { op := .ncWData, hdr := d, data := data, mask := mask }).2.map (·.mask) = some mask →
        t.memLine (s.lineKey h (x.line * 64)) = (mergeLine x.buf data mask, x.poison || d.poison) ∧
      (s.arrived .ncWData d).onlyLine t h (s.lineKey h (x.line * 64)))) ∧
  (∀ (s : State) (d : Hdr) (h i : Nat) (x : HTx) (data : Line) (mask : BitVec 64),
    s.soleTx .ncWData d h i x →
    s.benchLine h x.line →
    x.agent < 12 →
    x.op = .atomNc →
    x.poison = false →
    x.pulled = true →
    x.wrote = false →
    x.pend = 0 →
    x.snpData = 0 →
    x.st = .active →
    RunsTo (exec (.ncWdata d data mask) s) fun t =>
      t.net = s.restNet .ncWData d ++ [entered { op := .ncRData, hdr := { src := agentOfHome h, dst := x.agent, srcPkg := s.ownPkg, dstPkg := s.ownPkg, tag := x.tag, reqAgent := x.agent, reqPkg := s.ownPkg, htx := i, line := x.raw, rcid := x.rcid, mcid := x.mcid }, data := x.buf, source := x.source }] ∧ (t.home h).txs = [] ∧ (t.home h).dir = ((s.clearDir h x.line).home h).dir ∧
      t.memLine (s.lineKey h (x.line * 64)) = (mergeLine x.buf (placeInLine (amoResult x.amo x.size (lineBytes x.buf x.off x.size) (lineBytes data 0 x.size) (lineBytes data 16 x.size)) x.off) (byteMask x.off x.size), false) ∧
      (s.arrived .ncWData d).onlyLine t h (s.lineKey h (x.line * 64))) ∧
  (∀ (s : State) (d : Hdr) (h i : Nat) (x : HTx) (data : Line) (mask : BitVec 64),
    s.soleTx .ncWData d h i x →
    s.benchLine h x.line →
    x.agent < 12 →
    x.op = .atomNc →
    x.poison = true →
    x.pulled = true →
    x.wrote = false →
    x.pend = 0 →
    x.snpData = 0 →
    x.st = .active →
    RunsTo (exec (.ncWdata d data mask) s) fun t =>
      t.net = s.restNet .ncWData d ++ [entered { op := .ncRData, hdr := { src := agentOfHome h, dst := x.agent, srcPkg := s.ownPkg, dstPkg := s.ownPkg, tag := x.tag, reqAgent := x.agent, reqPkg := s.ownPkg, htx := i, line := x.raw, rcid := x.rcid, mcid := x.mcid, poison := true }, data := x.buf, source := x.source }] ∧ (t.home h).txs = [] ∧ (t.home h).dir = ((s.clearDir h x.line).home h).dir ∧
      (s.arrived .ncWData d).onlyOrder t h)

/-- For a line that one core of the snooped stud holds, with no hold on it and no planted error in its L2. SNP_FWD_S forwards the data to the requester, as DATA_S from state O, and from M and E in an O-variant mode, else as DATA_F; an M copy in an F-variant mode also goes home as SNP_DATA; M becomes O in an O-variant mode, O stays, and every other state becomes S; RSP_FWD_DONE carries DIRTY for M and O. SNP_FWD_U forwards DATA_M from M and O, else DATA_E, and drops the copy. SNP_INV and SNP_DROP drop it and answer RSP_INV_ACK; SNP_FLUSH does so and sends dirty data home; SNP_CLEAN sends dirty data home and keeps the copy, M as E and O as S. A reservation of the line is lost. A writeback entry with the data answers in its place and is spent, but for SNP_FWD_S of O data or in an O-variant mode, where it keeps its data in state O. SNP_INV leaves no other core of the stud with an L2 copy. A stud that holds no copy answers RSP_NOTHELD, and a snoop of a line held for an LR waits. Beside the arrival, the messages sent and the core, nothing changes. -/
def Obligations.SnoopsTakeAndForwardCopies : Prop :=
  (∀ (s : State) (d : Hdr) (c : Nat) (e : L2Line),
    (s.arrive { op := .snpFwdS, hdr := d }).2.isSome = true →
    s.domainLive d.dst = true →
    d.dst < 12 →
    (d.srcPkg = s.ownPkg ∧ d.dstPkg = s.ownPkg ∧ d.reqPkg = s.ownPkg) →
    s.holders [d.dst] d.line = [c] →
    (s.core c).pipe.find2 d.line = some e →
    (s.core c).pipe.l2bad = [] →
    s.holdingCore [d.dst] d.line = none →
    isRequester d s.ownPkg c = false →
    s.linked d.dst d.reqAgent = true →
    RunsTo (exec (.snpFwdS d) s) fun t =>
      t.net = s.restNet .snpFwdS d ++ [s.sent { op := (if e.st = .o ∨ (variantO s.mode = true ∧ (e.st = .m ∨ e.st = .e)) then .dataS else .dataF), hdr := { d with src := c / 32, srcPkg := s.ownPkg, dst := d.reqAgent, dstPkg := d.reqPkg, poison := e.poison }, data := e.data, source := 3 }] ++ (if e.st = .m ∧ variantO s.mode = false then [s.sent { op := .snpData, hdr := { d with src := d.dst, srcPkg := s.ownPkg, dst := d.src, dstPkg := d.srcPkg, poison := e.poison }, data := e.data }] else []) ++ [s.sent { op := .rspFwdDone, hdr := { d with src := d.dst, srcPkg := s.ownPkg, dst := d.src, dstPkg := d.srcPkg, dirty := e.st.dirty, kept := true } }] ∧
      (t.core c).pipe.find2 d.line = some { e with st := if e.st = .o ∨ (e.st = .m ∧ variantO s.mode = true) then .o else .s } ∧ (∀ l, l ≠ d.line → (t.core c).pipe.find2 l = (s.core c).pipe.find2 l) ∧ (t.core c).pipe.resv ≠ some d.line ∧
      (t.core c).pipe.slots = (s.core c).pipe.slots ∧ (t.core c).regs = (s.core c).regs ∧ (t.core c).pipe.storeQ = (s.core c).pipe.storeQ ∧ (s.arrived .snpFwdS d).onlyCoreNet t c) ∧
  (∀ (s : State) (d : Hdr) (c : Nat) (e : L2Line),
    (s.arrive { op := .snpFwdU, hdr := d }).2.isSome = true →
    s.domainLive d.dst = true →
    d.dst < 12 →
    (d.srcPkg = s.ownPkg ∧ d.dstPkg = s.ownPkg ∧ d.reqPkg = s.ownPkg) →
    s.holders [d.dst] d.line = [c] →
    (s.core c).pipe.find2 d.line = some e →
    (s.core c).pipe.l2bad = [] →
    s.holdingCore [d.dst] d.line = none →
    isRequester d s.ownPkg c = false →
    s.linked d.dst d.reqAgent = true →
    RunsTo (exec (.snpFwdU d) s) fun t =>
      t.net = s.restNet .snpFwdU d ++ [s.sent { op := (if e.st.dirty then .dataM else .dataE), hdr := { d with src := c / 32, srcPkg := s.ownPkg, dst := d.reqAgent, dstPkg := d.reqPkg, poison := e.poison }, data := e.data, source := 3 }, s.sent { op := .rspFwdDone, hdr := { d with src := d.dst, srcPkg := s.ownPkg, dst := d.src, dstPkg := d.srcPkg, dirty := e.st.dirty, kept := false } }] ∧
      (t.core c).pipe.find2 d.line = none ∧ (∀ l, l ≠ d.line → (t.core c).pipe.find2 l = (s.core c).pipe.find2 l) ∧ (t.core c).pipe.resv ≠ some d.line ∧
      (t.core c).pipe.slots = (s.core c).pipe.slots ∧ (t.core c).regs = (s.core c).regs ∧ (t.core c).pipe.storeQ = (s.core c).pipe.storeQ ∧ (s.arrived .snpFwdU d).onlyCoreNet t c) ∧
  (∀ (s : State) (d : Hdr) (c : Nat) (e : L2Line),
    (s.arrive { op := .snpInv, hdr := d }).2.isSome = true →
    s.domainLive d.dst = true →
    d.dst < 12 →
    (d.srcPkg = s.ownPkg ∧ d.dstPkg = s.ownPkg ∧ d.reqPkg = s.ownPkg) →
    s.holders [d.dst] d.line = [c] →
    (s.core c).pipe.find2 d.line = some e →
    (s.core c).pipe.l2bad = [] →
    s.holdingCore [d.dst] d.line = none →
    isRequester d s.ownPkg c = false →
    RunsTo (exec (.snpInv d) s) fun t =>
      t.net = s.restNet .snpInv d ++ [s.sent { op := .rspInvAck, hdr := { d with src := d.dst, srcPkg := s.ownPkg, dst := d.src, dstPkg := d.srcPkg, dirty := false, kept := false } }] ∧ (t.core c).pipe.find2 d.line = none ∧ (∀ l, l ≠ d.line → (t.core c).pipe.find2 l = (s.core c).pipe.find2 l) ∧ (t.core c).pipe.resv ≠ some d.line ∧
      (t.core c).pipe.slots = (s.core c).pipe.slots ∧ (t.core c).regs = (s.core c).regs ∧ (t.core c).pipe.storeQ = (s.core c).pipe.storeQ ∧ (s.arrived .snpInv d).onlyCoreNet t c) ∧
  (∀ (s : State) (d : Hdr) (c : Nat) (e : L2Line),
    (s.arrive { op := .snpDrop, hdr := d }).2.isSome = true →
    s.domainLive d.dst = true →
    d.dst < 12 →
    (d.srcPkg = s.ownPkg ∧ d.dstPkg = s.ownPkg ∧ d.reqPkg = s.ownPkg) →
    s.holders [d.dst] d.line = [c] →
    (s.core c).pipe.find2 d.line = some e →
    (s.core c).pipe.l2bad = [] →
    s.holdingCore [d.dst] d.line = none →
    isRequester d s.ownPkg c = false →
    RunsTo (exec (.snpDrop d) s) fun t =>
      t.net = s.restNet .snpDrop d ++ [s.sent { op := .rspInvAck, hdr := { d with src := d.dst, srcPkg := s.ownPkg, dst := d.src, dstPkg := d.srcPkg, dirty := false, kept := false } }] ∧ (t.core c).pipe.find2 d.line = none ∧ (∀ l, l ≠ d.line → (t.core c).pipe.find2 l = (s.core c).pipe.find2 l) ∧ (t.core c).pipe.resv ≠ some d.line ∧
      (t.core c).pipe.slots = (s.core c).pipe.slots ∧ (t.core c).regs = (s.core c).regs ∧ (t.core c).pipe.storeQ = (s.core c).pipe.storeQ ∧ (s.arrived .snpDrop d).onlyCoreNet t c) ∧
  (∀ (s : State) (d : Hdr) (c : Nat) (e : L2Line),
    (s.arrive { op := .snpFlush, hdr := d }).2.isSome = true →
    s.domainLive d.dst = true →
    d.dst < 12 →
    (d.srcPkg = s.ownPkg ∧ d.dstPkg = s.ownPkg ∧ d.reqPkg = s.ownPkg) →
    s.holders [d.dst] d.line = [c] →
    (s.core c).pipe.find2 d.line = some e →
    (s.core c).pipe.l2bad = [] →
    s.holdingCore [d.dst] d.line = none →
    RunsTo (exec (.snpFlush d) s) fun t =>
      t.net = s.restNet .snpFlush d ++ (if e.st.dirty = true then [s.sent { op := .snpData, hdr := { d with src := d.dst, srcPkg := s.ownPkg, dst := d.src, dstPkg := d.srcPkg, poison := e.poison }, data := e.data }] else []) ++ [s.sent { op := .rspInvAck, hdr := { d with src := d.dst, srcPkg := s.ownPkg, dst := d.src, dstPkg := d.srcPkg, dirty := e.st.dirty, kept := false } }] ∧ (t.core c).pipe.find2 d.line = none ∧ (∀ l, l ≠ d.line → (t.core c).pipe.find2 l = (s.core c).pipe.find2 l) ∧ (t.core c).pipe.resv ≠ some d.line ∧
      (t.core c).pipe.slots = (s.core c).pipe.slots ∧ (t.core c).regs = (s.core c).regs ∧ (t.core c).pipe.storeQ = (s.core c).pipe.storeQ ∧ (s.arrived .snpFlush d).onlyCoreNet t c) ∧
  (∀ (s : State) (d : Hdr) (c : Nat) (e : L2Line),
    (s.arrive { op := .snpClean, hdr := d }).2.isSome = true →
    s.domainLive d.dst = true →
    d.dst < 12 →
    (d.srcPkg = s.ownPkg ∧ d.dstPkg = s.ownPkg ∧ d.reqPkg = s.ownPkg) →
    s.holders [d.dst] d.line = [c] →
    (s.core c).pipe.find2 d.line = some e →
    (s.core c).pipe.l2bad = [] →
    s.holdingCore [d.dst] d.line = none →
    RunsTo (exec (.snpClean d) s) fun t =>
      t.net = s.restNet .snpClean d ++ (if e.st.dirty = true then [s.sent { op := .snpData, hdr := { d with src := d.dst, srcPkg := s.ownPkg, dst := d.src, dstPkg := d.srcPkg, poison := e.poison }, data := e.data }] else []) ++ [s.sent { op := .rspCleanDone, hdr := { d with src := d.dst, srcPkg := s.ownPkg, dst := d.src, dstPkg := d.srcPkg, dirty := e.st.dirty, kept := true } }] ∧
      (t.core c).pipe.find2 d.line = some { e with st := if e.st = .m then .e else if e.st = .o then .s else e.st } ∧ (∀ l, l ≠ d.line → (t.core c).pipe.find2 l = (s.core c).pipe.find2 l) ∧ (t.core c).pipe.resv ≠ some d.line ∧
      (t.core c).pipe.slots = (s.core c).pipe.slots ∧ (t.core c).regs = (s.core c).regs ∧ (t.core c).pipe.storeQ = (s.core c).pipe.storeQ ∧ (s.arrived .snpClean d).onlyCoreNet t c) ∧
  (∀ (s : State) (d : Hdr) (c i : Nat) (sl : Slot) (x : Line) (st : LSt) (pz : Bool),
    (s.arrive { op := .snpFwdS, hdr := d }).2.isSome = true →
    s.domainLive d.dst = true →
    d.dst < 12 →
    (d.srcPkg = s.ownPkg ∧ d.dstPkg = s.ownPkg ∧ d.reqPkg = s.ownPkg) →
    s.holders [d.dst] d.line = [c] →
    (s.core c).pipe.find2 d.line = none →
    (s.core c).pipe.wbOf d.line = some (i, sl) →
    sl.wb = some (x, st, pz) →
    (s.core c).pipe.l2bad = [] →
    s.holdingCore [d.dst] d.line = none →
    isRequester d s.ownPkg c = false →
    s.linked d.dst d.reqAgent = true →
    RunsTo (exec (.snpFwdS d) s) fun t =>
      t.net = s.restNet .snpFwdS d ++ [s.sent { op := (if st = .o ∨ variantO s.mode = true then .dataS else .dataF), hdr := { d with src := c / 32, srcPkg := s.ownPkg, dst := d.reqAgent, dstPkg := d.reqPkg, poison := pz }, data := x, source := 3 }] ++ (if st = .o ∨ variantO s.mode = true then [] else [s.sent { op := .snpData, hdr := { d with src := d.dst, srcPkg := s.ownPkg, dst := d.src, dstPkg := d.srcPkg, poison := pz }, data := x }]) ++ [s.sent { op := .rspFwdDone, hdr := { d with src := d.dst, srcPkg := s.ownPkg, dst := d.src, dstPkg := d.srcPkg, dirty := true, kept := decide (st = .o ∨ variantO s.mode = true) } }] ∧
      (t.core c).pipe.slots = Tab.set (s.core c).pipe.slots i { sl with wb := if st = .o ∨ variantO s.mode = true then some (x, .o, pz) else none } ∧ (t.core c).pipe.l2 = (s.core c).pipe.l2 ∧ (t.core c).regs = (s.core c).regs ∧ (t.core c).pipe.storeQ = (s.core c).pipe.storeQ ∧ (s.arrived .snpFwdS d).onlyCoreNet t c) ∧
  (∀ (s : State) (d : Hdr) (c i : Nat) (sl : Slot) (x : Line) (st : LSt) (pz : Bool),
    (s.arrive { op := .snpFwdU, hdr := d }).2.isSome = true →
    s.domainLive d.dst = true →
    d.dst < 12 →
    (d.srcPkg = s.ownPkg ∧ d.dstPkg = s.ownPkg ∧ d.reqPkg = s.ownPkg) →
    s.holders [d.dst] d.line = [c] →
    (s.core c).pipe.find2 d.line = none →
    (s.core c).pipe.wbOf d.line = some (i, sl) →
    sl.wb = some (x, st, pz) →
    (s.core c).pipe.l2bad = [] →
    s.holdingCore [d.dst] d.line = none →
    isRequester d s.ownPkg c = false →
    s.linked d.dst d.reqAgent = true →
    RunsTo (exec (.snpFwdU d) s) fun t =>
      t.net = s.restNet .snpFwdU d ++ [s.sent { op := .dataM, hdr := { d with src := c / 32, srcPkg := s.ownPkg, dst := d.reqAgent, dstPkg := d.reqPkg, poison := pz }, data := x, source := 3 }, s.sent { op := .rspFwdDone, hdr := { d with src := d.dst, srcPkg := s.ownPkg, dst := d.src, dstPkg := d.srcPkg, dirty := true, kept := false } }] ∧ (t.core c).pipe.slots = Tab.set (s.core c).pipe.slots i { sl with wb := none } ∧ (t.core c).pipe.l2 = (s.core c).pipe.l2 ∧ (t.core c).regs = (s.core c).regs ∧ (t.core c).pipe.storeQ = (s.core c).pipe.storeQ ∧ (s.arrived .snpFwdU d).onlyCoreNet t c) ∧
  (∀ (s : State) (d : Hdr) (c i : Nat) (sl : Slot) (x : Line) (st : LSt) (pz : Bool),
    (s.arrive { op := .snpInv, hdr := d }).2.isSome = true →
    s.domainLive d.dst = true →
    d.dst < 12 →
    (d.srcPkg = s.ownPkg ∧ d.dstPkg = s.ownPkg ∧ d.reqPkg = s.ownPkg) →
    s.holders [d.dst] d.line = [c] →
    (s.core c).pipe.find2 d.line = none →
    (s.core c).pipe.wbOf d.line = some (i, sl) →
    sl.wb = some (x, st, pz) →
    (s.core c).pipe.l2bad = [] →
    s.holdingCore [d.dst] d.line = none →
    isRequester d s.ownPkg c = false →
    RunsTo (exec (.snpInv d) s) fun t =>
      t.net = s.restNet .snpInv d ++ [s.sent { op := .rspInvAck, hdr := { d with src := d.dst, srcPkg := s.ownPkg, dst := d.src, dstPkg := d.srcPkg, dirty := false, kept := false } }] ∧ (t.core c).pipe.slots = Tab.set (s.core c).pipe.slots i { sl with wb := none } ∧ (t.core c).pipe.l2 = (s.core c).pipe.l2 ∧ (t.core c).regs = (s.core c).regs ∧ (t.core c).pipe.storeQ = (s.core c).pipe.storeQ ∧ (s.arrived .snpInv d).onlyCoreNet t c) ∧
  (∀ (s : State) (d : Hdr) (c i : Nat) (sl : Slot) (x : Line) (st : LSt) (pz : Bool),
    (s.arrive { op := .snpDrop, hdr := d }).2.isSome = true →
    s.domainLive d.dst = true →
    d.dst < 12 →
    (d.srcPkg = s.ownPkg ∧ d.dstPkg = s.ownPkg ∧ d.reqPkg = s.ownPkg) →
    s.holders [d.dst] d.line = [c] →
    (s.core c).pipe.find2 d.line = none →
    (s.core c).pipe.wbOf d.line = some (i, sl) →
    sl.wb = some (x, st, pz) →
    (s.core c).pipe.l2bad = [] →
    s.holdingCore [d.dst] d.line = none →
    isRequester d s.ownPkg c = false →
    RunsTo (exec (.snpDrop d) s) fun t =>
      t.net = s.restNet .snpDrop d ++ [s.sent { op := .rspInvAck, hdr := { d with src := d.dst, srcPkg := s.ownPkg, dst := d.src, dstPkg := d.srcPkg, dirty := false, kept := false } }] ∧ (t.core c).pipe.slots = Tab.set (s.core c).pipe.slots i { sl with wb := none } ∧ (t.core c).pipe.l2 = (s.core c).pipe.l2 ∧ (t.core c).regs = (s.core c).regs ∧ (t.core c).pipe.storeQ = (s.core c).pipe.storeQ ∧ (s.arrived .snpDrop d).onlyCoreNet t c) ∧
  (∀ (s : State) (d : Hdr) (c i : Nat) (sl : Slot) (x : Line) (st : LSt) (pz : Bool),
    (s.arrive { op := .snpFlush, hdr := d }).2.isSome = true →
    s.domainLive d.dst = true →
    d.dst < 12 →
    (d.srcPkg = s.ownPkg ∧ d.dstPkg = s.ownPkg ∧ d.reqPkg = s.ownPkg) →
    s.holders [d.dst] d.line = [c] →
    (s.core c).pipe.find2 d.line = none →
    (s.core c).pipe.wbOf d.line = some (i, sl) →
    sl.wb = some (x, st, pz) →
    (s.core c).pipe.l2bad = [] →
    s.holdingCore [d.dst] d.line = none →
    RunsTo (exec (.snpFlush d) s) fun t =>
      t.net = s.restNet .snpFlush d ++ [s.sent { op := .snpData, hdr := { d with src := d.dst, srcPkg := s.ownPkg, dst := d.src, dstPkg := d.srcPkg, poison := pz }, data := x }, s.sent { op := .rspInvAck, hdr := { d with src := d.dst, srcPkg := s.ownPkg, dst := d.src, dstPkg := d.srcPkg, dirty := true, kept := false } }] ∧ (t.core c).pipe.slots = Tab.set (s.core c).pipe.slots i { sl with wb := none } ∧ (t.core c).pipe.l2 = (s.core c).pipe.l2 ∧ (t.core c).regs = (s.core c).regs ∧ (t.core c).pipe.storeQ = (s.core c).pipe.storeQ ∧ (s.arrived .snpFlush d).onlyCoreNet t c) ∧
  (∀ (s : State) (d : Hdr) (c i : Nat) (sl : Slot) (x : Line) (st : LSt) (pz : Bool),
    (s.arrive { op := .snpClean, hdr := d }).2.isSome = true →
    s.domainLive d.dst = true →
    d.dst < 12 →
    (d.srcPkg = s.ownPkg ∧ d.dstPkg = s.ownPkg ∧ d.reqPkg = s.ownPkg) →
    s.holders [d.dst] d.line = [c] →
    (s.core c).pipe.find2 d.line = none →
    (s.core c).pipe.wbOf d.line = some (i, sl) →
    sl.wb = some (x, st, pz) →
    (s.core c).pipe.l2bad = [] →
    s.holdingCore [d.dst] d.line = none →
    RunsTo (exec (.snpClean d) s) fun t =>
      t.net = s.restNet .snpClean d ++ [s.sent { op := .snpData, hdr := { d with src := d.dst, srcPkg := s.ownPkg, dst := d.src, dstPkg := d.srcPkg, poison := pz }, data := x }, s.sent { op := .rspCleanDone, hdr := { d with src := d.dst, srcPkg := s.ownPkg, dst := d.src, dstPkg := d.srcPkg, dirty := true, kept := false } }] ∧ (t.core c).pipe.slots = Tab.set (s.core c).pipe.slots i { sl with wb := none } ∧ (t.core c).pipe.l2 = (s.core c).pipe.l2 ∧ (t.core c).regs = (s.core c).regs ∧ (t.core c).pipe.storeQ = (s.core c).pipe.storeQ ∧ (s.arrived .snpClean d).onlyCoreNet t c) ∧
  (∀ (s : State) (d : Hdr),
    (s.arrive { op := .snpInv, hdr := d }).2.isSome = true →
    s.domainLive d.dst = true →
    d.dst < 12 →
    (d.srcPkg = s.ownPkg ∧ d.dstPkg = s.ownPkg ∧ d.reqPkg = s.ownPkg) →
    s.holdingCore [d.dst] d.line = none →
    (∀ k ∈ s.cores, k.2.pipe.wbOf d.line = none) →
    RunsTo (exec (.snpInv d) s) fun t =>
      ∀ c, c / 32 = d.dst → isRequester d s.ownPkg c = false → (t.core c).pipe.find2 d.line = none) ∧
  (∀ (s : State) (d : Hdr) (op : MsgOp) (i : Instr),
    (s.arrive { op := op, hdr := d }).2.isSome = true →
    (op, i) ∈ ([(.snpFwdS, .snpFwdS d), (.snpFwdU, .snpFwdU d), (.snpInv, .snpInv d), (.snpClean, .snpClean d), (.snpFlush, .snpFlush d), (.snpDrop, .snpDrop d)] : List (MsgOp × Instr)) →
    s.domainLive d.dst = true →
    d.dst < 12 →
    (d.srcPkg = s.ownPkg ∧ d.dstPkg = s.ownPkg ∧ d.reqPkg = s.ownPkg) →
    s.holders [d.dst] d.line = [] →
    s.holdingCore [d.dst] d.line = none →
    RunsTo (exec i s) fun t =>
      t.net = s.restNet op d ++ [s.sent { op := .rspNotHeld, hdr := { d with src := d.dst, srcPkg := s.ownPkg, dst := d.src, dstPkg := d.srcPkg, dirty := false, kept := false } }] ∧ t = { s.arrived op d with net := t.net }) ∧
  (∀ (s : State) (d : Hdr) (op : MsgOp) (i : Instr) (c : Nat),
    (s.arrive { op := op, hdr := d }).2.isSome = true →
    (op, i) ∈ ([(.snpFwdS, .snpFwdS d), (.snpFwdU, .snpFwdU d), (.snpInv, .snpInv d), (.snpClean, .snpClean d), (.snpFlush, .snpFlush d), (.snpDrop, .snpDrop d)] : List (MsgOp × Instr)) →
    s.domainLive d.dst = true →
    d.dst < 12 →
    (d.srcPkg = s.ownPkg ∧ d.dstPkg = s.ownPkg ∧ d.reqPkg = s.ownPkg) →
    s.holdingCore [d.dst] d.line = some c →
    RunsTo (exec i s) fun t =>
      t.net = s.restNet op d ∧ (t.core c).pipe.l2 = (s.core c).pipe.l2 ∧ (t.core c).pipe.snpQ.length = (s.core c).pipe.snpQ.length + 1 ∧
      (t.core c).regs = (s.core c).regs ∧ (s.arrived op d).onlyCoreNet t c)

/-- For the one slot in use of a core in which nothing else waits, with no access merged in it. DATA_S, DATA_F, DATA_E and DATA_M install the line in L2, in state S, F, E or M, with its bytes and its poison mark, in a free way of its set, send COMP_ACK to the home and free the slot; so they do for RD_S alone, and for RD_U and UPG once the grant has come with the data; where the register has been asked for ownership meanwhile, shared data installs and a UPG follows in the same register. In a full set the least recent way that is not held makes room, silently where its line is clean, through a writeback entry and a WB where it is dirty. GO_U of an upgrade turns the copy the core holds into state E, or M where it carries DIRTY; of a CBO_ZERO it installs a line of zeros in state M. NC_RDATA gives the bytes of an uncached load or AMO to its register, and poisoned bytes to none; GO_DONE ends an uncached store and removes it from the store queue, and ends a cache-block operation. Beside the arrival, COMP_ACK and what the core's registers and pipe hold, nothing changes. -/
def Obligations.GrantsInstallLines : Prop :=
  (∀ (s : State) (d : Hdr) (c i : Nat) (x : Slot) (data : Line) (w : Nat),
    s.soleSlot .dataS d c i x →
    (x.kind = .miss ∨ x.kind = .pref) →
    (x.op = .rdS ∨ ((x.op = .rdU ∨ x.op = .upg) ∧ d.go = true)) →
    x.merged = [] →
    x.uniq = false →
    (s.core c).pipe.find2 x.line = none →
    (s.core c).pipe.fillWay x.line = .free w →
    RunsTo (exec (.dataS d data) s) fun t =>
      ((t.core c).pipe.find2 d.line).map (fun e => (e.st, e.data, e.poison, e.way)) = some (.s, data, d.poison, w) ∧ (∀ l, l ≠ d.line → (t.core c).pipe.find2 l = (s.core c).pipe.find2 l) ∧
      (t.core c).pipe.slots = [] ∧ t.net = s.restNet .dataS d ++ [s.sent { op := .compAck, hdr := { s.reqHdr c i x.line x.dst s.ownPkg false with htx := d.htx } }] ∧ t.core c = { s.core c with pipe := { (s.core c).pipe with slots := (t.core c).pipe.slots, l2 := (t.core c).pipe.l2, storeQ := (t.core c).pipe.storeQ, trapped := false } } ∧
      (s.arrived .dataS d).onlyCoreNet t c) ∧
  (∀ (s : State) (d : Hdr) (c i : Nat) (x : Slot) (data : Line) (w : Nat),
    s.soleSlot .dataF d c i x →
    (x.kind = .miss ∨ x.kind = .pref) →
    (x.op = .rdS ∨ ((x.op = .rdU ∨ x.op = .upg) ∧ d.go = true)) →
    x.merged = [] →
    x.uniq = false →
    (s.core c).pipe.find2 x.line = none →
    (s.core c).pipe.fillWay x.line = .free w →
    RunsTo (exec (.dataF d data) s) fun t =>
      ((t.core c).pipe.find2 d.line).map (fun e => (e.st, e.data, e.poison, e.way)) = some (.f, data, d.poison, w) ∧ (∀ l, l ≠ d.line → (t.core c).pipe.find2 l = (s.core c).pipe.find2 l) ∧
      (t.core c).pipe.slots = [] ∧ t.net = s.restNet .dataF d ++ [s.sent { op := .compAck, hdr := { s.reqHdr c i x.line x.dst s.ownPkg false with htx := d.htx } }] ∧ t.core c = { s.core c with pipe := { (s.core c).pipe with slots := (t.core c).pipe.slots, l2 := (t.core c).pipe.l2, storeQ := (t.core c).pipe.storeQ, trapped := false } } ∧
      (s.arrived .dataF d).onlyCoreNet t c) ∧
  (∀ (s : State) (d : Hdr) (c i : Nat) (x : Slot) (data : Line) (w : Nat),
    s.soleSlot .dataE d c i x →
    (x.kind = .miss ∨ x.kind = .pref) →
    (x.op = .rdS ∨ ((x.op = .rdU ∨ x.op = .upg) ∧ d.go = true)) →
    x.merged = [] →
    (s.core c).pipe.find2 x.line = none →
    (s.core c).pipe.fillWay x.line = .free w →
    RunsTo (exec (.dataE d data) s) fun t =>
      ((t.core c).pipe.find2 d.line).map (fun e => (e.st, e.data, e.poison, e.way)) = some (.e, data, d.poison, w) ∧ (∀ l, l ≠ d.line → (t.core c).pipe.find2 l = (s.core c).pipe.find2 l) ∧
      (t.core c).pipe.slots = [] ∧ t.net = s.restNet .dataE d ++ [s.sent { op := .compAck, hdr := { s.reqHdr c i x.line x.dst s.ownPkg false with htx := d.htx } }] ∧ t.core c = { s.core c with pipe := { (s.core c).pipe with slots := (t.core c).pipe.slots, l2 := (t.core c).pipe.l2, storeQ := (t.core c).pipe.storeQ, trapped := false } } ∧
      (s.arrived .dataE d).onlyCoreNet t c) ∧
  (∀ (s : State) (d : Hdr) (c i : Nat) (x : Slot) (data : Line) (w : Nat),
    s.soleSlot .dataM d c i x →
    (x.kind = .miss ∨ x.kind = .pref) →
    (x.op = .rdS ∨ ((x.op = .rdU ∨ x.op = .upg) ∧ d.go = true)) →
    x.merged = [] →
    (s.core c).pipe.find2 x.line = none →
    (s.core c).pipe.fillWay x.line = .free w →
    RunsTo (exec (.dataM d data) s) fun t =>
      ((t.core c).pipe.find2 d.line).map (fun e => (e.st, e.data, e.poison, e.way)) = some (.m, data, d.poison, w) ∧ (∀ l, l ≠ d.line → (t.core c).pipe.find2 l = (s.core c).pipe.find2 l) ∧
      (t.core c).pipe.slots = [] ∧ t.net = s.restNet .dataM d ++ [s.sent { op := .compAck, hdr := { s.reqHdr c i x.line x.dst s.ownPkg false with htx := d.htx } }] ∧ t.core c = { s.core c with pipe := { (s.core c).pipe with slots := (t.core c).pipe.slots, l2 := (t.core c).pipe.l2, storeQ := (t.core c).pipe.storeQ, trapped := false } } ∧
      (s.arrived .dataM d).onlyCoreNet t c) ∧
  (∀ (s : State) (d : Hdr) (c i : Nat) (x : Slot) (data : Line) (w home : Nat),
    s.soleSlot .dataS d c i x →
    (x.kind = .miss ∨ x.kind = .pref) →
    x.op = .rdS →
    x.merged = [] →
    x.uniq = true →
    x.zero = false →
    (s.core c).pipe.find2 x.line = none →
    (s.core c).pipe.fillWay x.line = .free w →
    s.target (s.frameOfCore c) (x.line * 64) = some (home, s.ownPkg) →
    RunsTo (exec (.dataS d data) s) fun t =>
      ((t.core c).pipe.find2 d.line).map (fun e => (e.st, e.data, e.poison, e.way)) = some (.s, data, d.poison, w) ∧ (∀ l, l ≠ d.line → (t.core c).pipe.find2 l = (s.core c).pipe.find2 l) ∧
      (t.core c).pipe.slots.map (fun e => (e.1, e.2.line, e.2.op, e.2.way)) = [(i, x.line, .upg, some w)] ∧
      t.net = s.restNet .dataS d ++ [s.sent { op := .compAck, hdr := { s.reqHdr c i x.line x.dst s.ownPkg false with htx := d.htx } }, s.sent { op := .upg, hdr := s.reqHdr c i x.line home s.ownPkg x.nonalloc }] ∧ t.core c = { s.core c with pipe := { (s.core c).pipe with slots := (t.core c).pipe.slots, l2 := (t.core c).pipe.l2, storeQ := (t.core c).pipe.storeQ, trapped := false } } ∧
      (s.arrived .dataS d).onlyCoreNet t c) ∧
  (∀ (s : State) (d : Hdr) (c i : Nat) (x : Slot) (data : Line) (w home : Nat),
    s.soleSlot .dataF d c i x →
    (x.kind = .miss ∨ x.kind = .pref) →
    x.op = .rdS →
    x.merged = [] →
    x.uniq = true →
    x.zero = false →
    (s.core c).pipe.find2 x.line = none →
    (s.core c).pipe.fillWay x.line = .free w →
    s.target (s.frameOfCore c) (x.line * 64) = some (home, s.ownPkg) →
    RunsTo (exec (.dataF d data) s) fun t =>
      ((t.core c).pipe.find2 d.line).map (fun e => (e.st, e.data, e.poison, e.way)) = some (.f, data, d.poison, w) ∧ (∀ l, l ≠ d.line → (t.core c).pipe.find2 l = (s.core c).pipe.find2 l) ∧
      (t.core c).pipe.slots.map (fun e => (e.1, e.2.line, e.2.op, e.2.way)) = [(i, x.line, .upg, some w)] ∧
      t.net = s.restNet .dataF d ++ [s.sent { op := .compAck, hdr := { s.reqHdr c i x.line x.dst s.ownPkg false with htx := d.htx } }, s.sent { op := .upg, hdr := s.reqHdr c i x.line home s.ownPkg x.nonalloc }] ∧ t.core c = { s.core c with pipe := { (s.core c).pipe with slots := (t.core c).pipe.slots, l2 := (t.core c).pipe.l2, storeQ := (t.core c).pipe.storeQ, trapped := false } } ∧
      (s.arrived .dataF d).onlyCoreNet t c) ∧
  (∀ (s : State) (d : Hdr) (c i : Nat) (x : Slot) (data : Line) (v : L2Line),
    s.soleSlot .dataE d c i x →
    (x.kind = .miss ∨ x.kind = .pref) →
    (x.op = .rdS ∨ ((x.op = .rdU ∨ x.op = .upg) ∧ d.go = true)) →
    x.merged = [] →
    (s.core c).pipe.find2 x.line = none →
    (s.core c).pipe.fillWay x.line = .evict v →
    ((s.core c).pipe.set2 x.line).all (fun y => y.line % 1024 == x.line % 1024 && (y.line == v.line) == (y.way == v.way)) = true →
    (s.core c).pipe.l2bad = [] →
    v.line < 2 ^ 49 →
    v.st.dirty = false →
    RunsTo (exec (.dataE d data) s) fun t =>
      ((t.core c).pipe.find2 d.line).map (fun e => (e.st, e.data, e.poison, e.way)) = some (.e, data, d.poison, v.way) ∧ (t.core c).pipe.find2 v.line = none ∧
      (∀ l, l ≠ d.line → l ≠ v.line → (t.core c).pipe.find2 l = (s.core c).pipe.find2 l) ∧ (t.core c).pipe.slots = [] ∧ t.net = s.restNet .dataE d ++ [s.sent { op := .compAck, hdr := { s.reqHdr c i x.line x.dst s.ownPkg false with htx := d.htx } }] ∧ (t.core c).regs = (s.core c).regs ∧ (t.core c).pipe.storeQ = [] ∧ (s.arrived .dataE d).onlyCoreNet t c) ∧
  (∀ (s : State) (d : Hdr) (c i : Nat) (x : Slot) (data : Line) (v : L2Line) (home : Nat),
    s.soleSlot .dataE d c i x →
    (x.kind = .miss ∨ x.kind = .pref) →
    (x.op = .rdS ∨ ((x.op = .rdU ∨ x.op = .upg) ∧ d.go = true)) →
    x.merged = [] →
    (s.core c).pipe.find2 x.line = none →
    (s.core c).pipe.fillWay x.line = .evict v →
    ((s.core c).pipe.set2 x.line).all (fun y => y.line % 1024 == x.line % 1024 && (y.line == v.line) == (y.way == v.way)) = true →
    (s.core c).pipe.l2bad = [] →
    v.line < 2 ^ 49 →
    v.st.dirty = true →
    i < 48 →
    s.target (s.frameOfCore c) (v.line * 64) = some (home, s.ownPkg) →
    RunsTo (exec (.dataE d data) s) fun t =>
      ((t.core c).pipe.find2 d.line).map (fun e => (e.st, e.data, e.poison, e.way)) = some (.e, data, d.poison, v.way) ∧ (t.core c).pipe.find2 v.line = none ∧
      (∀ l, l ≠ d.line → l ≠ v.line → (t.core c).pipe.find2 l = (s.core c).pipe.find2 l) ∧ (t.core c).pipe.slots.map (fun e => (e.1, e.2.kind, e.2.line, e.2.wb)) = [(48, .evict, v.line, some (v.data, v.st, v.poison))] ∧
      t.net = s.restNet .dataE d ++ [s.sent { op := .wb, hdr := s.reqHdr c 48 v.line home s.ownPkg false }, s.sent { op := .compAck, hdr := { s.reqHdr c i x.line x.dst s.ownPkg false with htx := d.htx } }] ∧ (t.core c).regs = (s.core c).regs ∧ (t.core c).pipe.storeQ = [] ∧ (s.arrived .dataE d).onlyCoreNet t c) ∧
  (∀ (s : State) (d : Hdr) (c i : Nat) (x : Slot) (e : L2Line),
    s.soleSlot .goU d c i x →
    (x.kind = .miss ∨ x.kind = .pref) →
    x.op = .upg →
    x.merged = [] →
    (s.core c).pipe.find2 x.line = some e →
    RunsTo (exec (.goU d) s) fun t =>
      (t.core c).pipe.find2 d.line = some { e with st := if d.dirty then .m else .e } ∧ (∀ l, l ≠ d.line → (t.core c).pipe.find2 l = (s.core c).pipe.find2 l) ∧
      (t.core c).pipe.slots = [] ∧ t.net = s.restNet .goU d ++ [s.sent { op := .compAck, hdr := { s.reqHdr c i x.line x.dst s.ownPkg false with htx := d.htx } }] ∧ t.core c = { s.core c with pipe := { (s.core c).pipe with slots := (t.core c).pipe.slots, l2 := (t.core c).pipe.l2, storeQ := (t.core c).pipe.storeQ, trapped := false } } ∧
      (s.arrived .goU d).onlyCoreNet t c) ∧
  (∀ (s : State) (d : Hdr) (c i : Nat) (x : Slot) (w : Nat),
    s.soleSlot .goU d c i x →
    (x.kind = .miss ∨ x.kind = .pref) →
    x.op = .cboZero →
    x.merged = [] →
    (s.core c).pipe.find2 x.line = none →
    (s.core c).pipe.fillWay x.line = .free w →
    RunsTo (exec (.goU d) s) fun t =>
      ((t.core c).pipe.find2 d.line).map (fun e => (e.st, e.data, e.poison, e.way)) = some (.m, 0, false, w) ∧ (∀ l, l ≠ d.line → (t.core c).pipe.find2 l = (s.core c).pipe.find2 l) ∧
      (t.core c).pipe.slots = [] ∧ t.net = s.restNet .goU d ++ [s.sent { op := .compAck, hdr := { s.reqHdr c i x.line x.dst s.ownPkg false with htx := d.htx } }] ∧ t.core c = { s.core c with pipe := { (s.core c).pipe with slots := (t.core c).pipe.slots, l2 := (t.core c).pipe.l2, storeQ := (t.core c).pipe.storeQ, trapped := false } } ∧
      (s.arrived .goU d).onlyCoreNet t c) ∧
  (∀ (s : State) (d : Hdr) (c i : Nat) (x : Slot) (data : Line) (w : Wait),
    s.soleSlot .ncRData d c i x →
    x.kind = .unc →
    x.merged = [w] →
    (w.acc.kind = .load ∨ w.acc.kind = .amo) →
    w.acc.split = 0 →
    w.acc.pa / 64 = d.line →
    w.acc.pa % 64 + w.acc.size ≤ 64 →
    (0 < w.acc.size ∧ w.acc.size ≤ 8) →
    (w.acc.part = 0 ∧ w.acc.got = 0) →
    d.poison = false →
    RunsTo (exec (.ncRdata d data) s) fun t =>
      (t.core c).regs = ((s.core c).deliverAcc w.acc (lineBytes data (w.acc.pa % 64) w.acc.size)).regs ∧ (t.core c).pipe.poison = none ∧
      (t.core c).pipe.slots = [] ∧ (t.core c).pipe.l2 = (s.core c).pipe.l2 ∧ (t.core c).pipe.storeQ = [] ∧ t.net = s.restNet .ncRData d ∧
      (s.arrived .ncRData d).onlyCoreNet t c) ∧
  (∀ (s : State) (d : Hdr) (c i : Nat) (x : Slot) (data : Line) (w : Wait),
    s.soleSlot .ncRData d c i x →
    x.kind = .unc →
    x.merged = [w] →
    (w.acc.kind = .load ∨ w.acc.kind = .amo) →
    w.acc.split = 0 →
    w.acc.pa / 64 = d.line →
    w.acc.pa % 64 + w.acc.size ≤ 64 →
    (0 < w.acc.size ∧ w.acc.size ≤ 8) →
    (w.acc.part = 0 ∧ w.acc.got = 0) →
    d.poison = true →
    (destElem? w.acc.dest) = none →
    RunsTo (exec (.ncRdata d data) s) fun t =>
      (t.core c).regs = (s.core c).regs ∧ (t.core c).pipe.poison.map (fun r => (r.va, r.pa, r.pc)) = some (w.acc.va, w.acc.pa / 64 * 64, w.pc) ∧
      (t.core c).pipe.slots = [] ∧ (t.core c).pipe.l2 = (s.core c).pipe.l2 ∧ (t.core c).pipe.storeQ = [] ∧ t.net = s.restNet .ncRData d ∧
      (s.arrived .ncRData d).onlyCoreNet t c) ∧
  (∀ (s : State) (d : Hdr) (c i : Nat) (x : Slot) (q : StoreEnt) (w : Wait),
    (s.arrive { op := .goDone, hdr := d }).2.isSome = true →
    d.dst < 12 →
    s.domainLive d.dst = true →
    (d.srcPkg = s.ownPkg ∧ d.dstPkg = s.ownPkg) →
    c = d.dst * 32 + d.tag / 128 →
    i = d.tag % 128 →
    (s.core c).pipe.slots = [(i, x)] →
    x.line = d.line →
    (x.mask = 0 ∧ x.data = none ∧ x.goU = none ∧ x.dpkg = s.ownPkg) →
    ((s.core c).pipe.waits = [] ∧ (s.core c).pipe.fence = [] ∧ (s.core c).pipe.rob = []) →
    (s.core c).pipe.storeQ = [q] →
    q.acc = w.acc →
    x.kind = .unc →
    x.merged = [w] →
    w.acc.kind = .store →
    w.acc.split = 0 →
    w.acc.pa / 64 = d.line →
    w.acc.pa % 64 + w.acc.size ≤ 64 →
    (0 < w.acc.size ∧ w.acc.size ≤ 8) →
    w.acc.part = 0 →
    RunsTo (exec (.goDone d) s) fun t =>
      (t.core c).pipe.storeQ = [] ∧ (t.core c).pipe.slots = [] ∧ (t.core c).pipe.l2 = (s.core c).pipe.l2 ∧
      t.net = s.restNet .goDone d ∧ t.core c = { s.core c with pipe := { (s.core c).pipe with slots := (t.core c).pipe.slots, l2 := (t.core c).pipe.l2, storeQ := (t.core c).pipe.storeQ, trapped := false } } ∧
      (s.arrived .goDone d).onlyCoreNet t c) ∧
  (∀ (s : State) (d : Hdr) (c i : Nat) (x : Slot) (w : Wait),
    s.soleSlot .goDone d c i x →
    x.kind = .cbo →
    x.merged = [w] →
    RunsTo (exec (.goDone d) s) fun t =>
      (t.core c).pipe.slots = [] ∧ (t.core c).pipe.l2 = (s.core c).pipe.l2 ∧
      t.net = s.restNet .goDone d ∧ t.core c = { s.core c with pipe := { (s.core c).pipe with slots := (t.core c).pipe.slots, l2 := (t.core c).pipe.l2, storeQ := (t.core c).pipe.storeQ, trapped := false } } ∧
      (s.arrived .goDone d).onlyCoreNet t c)

/-- For the one slot in use of a core in which nothing else waits. WB_PULL of a writeback entry sends its data home as WB_DATA with its poison mark and frees the entry, and of a spent entry sends WB_CANCEL; of a line that L2 keeps it sends the line's data where the line is dirty, which then is clean, and WB_CANCEL where it is clean. WB_STALE frees the entry and sends nothing; WR_PULL of an uncached store sends its bytes and their mask as NC_WDATA, and of an uncached AMO its operand. ERR at the slot of a load raises a load access fault with its virtual address, at its own pc, and at the slot of a store that has left for its home a store access fault, with the store taken out of its queue; no register of the hart is written. Beside the arrival, the message sent and the core, nothing changes. -/
def Obligations.PullsWritebacksAndErrors : Prop :=
  (∀ (s : State) (d : Hdr) (c i : Nat) (x : Slot) (data : Line) (st : LSt) (pz : Bool),
    s.soleSlot .wbPull d c i x →
    x.kind = .evict →
    x.wb = some (data, st, pz) →
    RunsTo (exec (.wbPull d) s) fun t =>
      t.net = s.restNet .wbPull d ++ [s.sent { op := .wbData, hdr := { s.reqHdr c i x.line d.src s.ownPkg false with htx := d.htx, poison := pz }, data := data }] ∧
      (t.core c).pipe.slots = [] ∧ (t.core c).pipe.l2 = (s.core c).pipe.l2 ∧ t.core c = { s.core c with pipe := { (s.core c).pipe with slots := (t.core c).pipe.slots, l2 := (t.core c).pipe.l2, storeQ := (t.core c).pipe.storeQ, trapped := false } } ∧
      (s.arrived .wbPull d).onlyCoreNet t c) ∧
  (∀ (s : State) (d : Hdr) (c i : Nat) (x : Slot),
    s.soleSlot .wbPull d c i x →
    x.kind = .evict →
    x.wb = none →
    RunsTo (exec (.wbPull d) s) fun t =>
      t.net = s.restNet .wbPull d ++ [s.sent { op := .wbCancel, hdr := { s.reqHdr c i x.line d.src s.ownPkg false with htx := d.htx } }] ∧
      (t.core c).pipe.slots = [] ∧ (t.core c).pipe.l2 = (s.core c).pipe.l2 ∧ t.core c = { s.core c with pipe := { (s.core c).pipe with slots := (t.core c).pipe.slots, l2 := (t.core c).pipe.l2, storeQ := (t.core c).pipe.storeQ, trapped := false } } ∧
      (s.arrived .wbPull d).onlyCoreNet t c) ∧
  (∀ (s : State) (d : Hdr) (c i : Nat) (x : Slot) (e : L2Line),
    s.soleSlot .wbPull d c i x →
    x.kind = .keep →
    (s.core c).pipe.find2 x.line = some e →
    e.st.dirty = true →
    (s.core c).pipe.l2bad = [] →
    RunsTo (exec (.wbPull d) s) fun t =>
      t.net = s.restNet .wbPull d ++ [s.sent { op := .wbData, hdr := { s.reqHdr c i x.line d.src s.ownPkg false with htx := d.htx, poison := e.poison }, data := e.data }] ∧
      (t.core c).pipe.find2 x.line = some { e with st := if e.st = .m then .e else .s } ∧ (∀ l, l ≠ d.line → (t.core c).pipe.find2 l = (s.core c).pipe.find2 l) ∧
      (t.core c).pipe.slots = [] ∧ t.core c = { s.core c with pipe := { (s.core c).pipe with slots := (t.core c).pipe.slots, l2 := (t.core c).pipe.l2, storeQ := (t.core c).pipe.storeQ, trapped := false } } ∧
      (s.arrived .wbPull d).onlyCoreNet t c) ∧
  (∀ (s : State) (d : Hdr) (c i : Nat) (x : Slot),
    s.soleSlot .wbPull d c i x →
    x.kind = .keep →
    ((s.core c).pipe.find2 x.line).all (fun e => !e.st.dirty) = true →
    (s.core c).pipe.l2bad = [] →
    RunsTo (exec (.wbPull d) s) fun t =>
      t.net = s.restNet .wbPull d ++ [s.sent { op := .wbCancel, hdr := { s.reqHdr c i x.line d.src s.ownPkg false with htx := d.htx } }] ∧
      (t.core c).pipe.slots = [] ∧ (t.core c).pipe.l2 = (s.core c).pipe.l2 ∧ t.core c = { s.core c with pipe := { (s.core c).pipe with slots := (t.core c).pipe.slots, l2 := (t.core c).pipe.l2, storeQ := (t.core c).pipe.storeQ, trapped := false } } ∧
      (s.arrived .wbPull d).onlyCoreNet t c) ∧
  (∀ (s : State) (d : Hdr) (c i : Nat) (x : Slot),
    s.soleSlot .wbStale d c i x →
    (x.kind = .evict ∨ x.kind = .keep) →
    RunsTo (exec (.wbStale d) s) fun t =>
      t.net = s.restNet .wbStale d ∧ (t.core c).pipe.slots = [] ∧ (t.core c).pipe.l2 = (s.core c).pipe.l2 ∧ t.core c = { s.core c with pipe := { (s.core c).pipe with slots := (t.core c).pipe.slots, l2 := (t.core c).pipe.l2, storeQ := (t.core c).pipe.storeQ, trapped := false } } ∧
      (s.arrived .wbStale d).onlyCoreNet t c) ∧
  (∀ (s : State) (d : Hdr) (c i : Nat) (x : Slot) (q : StoreEnt) (w : Wait),
    (s.arrive { op := .wrPull, hdr := d }).2.isSome = true →
    d.dst < 12 →
    s.domainLive d.dst = true →
    (d.srcPkg = s.ownPkg ∧ d.dstPkg = s.ownPkg) →
    c = d.dst * 32 + d.tag / 128 →
    i = d.tag % 128 →
    (s.core c).pipe.slots = [(i, x)] →
    x.line = d.line →
    (x.mask = 0 ∧ x.data = none ∧ x.goU = none ∧ x.dpkg = s.ownPkg) →
    ((s.core c).pipe.waits = [] ∧ (s.core c).pipe.fence = [] ∧ (s.core c).pipe.rob = []) →
    (s.core c).pipe.storeQ = [q] →
    q.acc = w.acc →
    x.kind = .unc →
    x.merged = [w] →
    w.acc.kind = .store →
    w.acc.split = 0 →
    w.acc.pa / 64 = d.line →
    w.acc.pa % 64 + w.acc.size ≤ 64 →
    (0 < w.acc.size ∧ w.acc.size ≤ 8) →
    w.acc.part = 0 →
    RunsTo (exec (.wrPull d) s) fun t =>
      t.net = s.restNet .wrPull d ++ [s.sent { op := .ncWData, hdr := { s.reqHdr c i x.line d.src s.ownPkg false with htx := d.htx }, data := placeInLine (w.acc.data.toNat % 2 ^ (8 * w.acc.size)) (w.acc.pa % 64), mask := byteMask (w.acc.pa % 64) w.acc.size }] ∧
      (t.core c).pipe.storeQ = (s.core c).pipe.storeQ ∧ (t.core c).pipe.l2 = (s.core c).pipe.l2 ∧ (t.core c).pipe.slots.map (·.1) = [i] ∧
      (t.core c).regs = (s.core c).regs ∧ (s.arrived .wrPull d).onlyCoreNet t c) ∧
  (∀ (s : State) (d : Hdr) (c i : Nat) (x : Slot) (w : Wait),
    s.soleSlot .wrPull d c i x →
    x.kind = .unc →
    x.merged = [w] →
    w.acc.kind = .amo →
    RunsTo (exec (.wrPull d) s) fun t =>
      t.net = s.restNet .wrPull d ++ [s.sent { op := .ncWData, hdr := { s.reqHdr c i x.line d.src s.ownPkg false with htx := d.htx }, data := amoOperand w.acc }] ∧
      (t.core c).pipe.l2 = (s.core c).pipe.l2 ∧ (t.core c).pipe.slots.map (·.1) = [i] ∧
      (t.core c).regs = (s.core c).regs ∧ (s.arrived .wrPull d).onlyCoreNet t c) ∧
  (∀ (s : State) (d : Hdr) (c i : Nat) (x : Slot) (w : Wait),
    s.soleSlot .err d c i x →
    (s.core c).awake = true →
    (x.kind = .miss ∨ x.kind = .unc) →
    x.merged = [w] →
    w.acc.kind = .load →
    w.acc.guest = false →
    (destElem? w.acc.dest) = none →
    (s.core c).xlat.walks = [] →
    (s.core c).regs.trapTarget { cause := 5 } = 3 →
    (s.core c).pipe.snpQ = [] →
    RunsTo (exec (.err d) s) fun t =>
      (t.core c).csr Csr.mcause = 5 ∧ (t.core c).csr Csr.mtval = accVa w.acc x.line ∧ (t.core c).csr Csr.mepc = w.pc ∧
      (t.core c).regs.priv = 3 ∧ (t.core c).regs.x = (s.core c).regs.x ∧ (t.core c).regs.f = (s.core c).regs.f ∧ (t.core c).regs.v = (s.core c).regs.v ∧
      (t.core c).pipe.slots = [] ∧ (t.core c).pipe.waits = [] ∧ (t.core c).pipe.storeQ = [] ∧ (t.core c).pipe.l2 = (s.core c).pipe.l2 ∧
      t.net = s.restNet .err d ∧ (s.arrived .err d).onlyCoreNet t c) ∧
  (∀ (s : State) (d : Hdr) (c i : Nat) (x : Slot) (q : StoreEnt) (w : Wait),
    (s.arrive { op := .err, hdr := d }).2.isSome = true →
    d.dst < 12 →
    s.domainLive d.dst = true →
    (d.srcPkg = s.ownPkg ∧ d.dstPkg = s.ownPkg) →
    c = d.dst * 32 + d.tag / 128 →
    i = d.tag % 128 →
    (s.core c).pipe.slots = [(i, x)] →
    x.line = d.line →
    (x.mask = 0 ∧ x.data = none ∧ x.goU = none ∧ x.dpkg = s.ownPkg) →
    ((s.core c).pipe.waits = [] ∧ (s.core c).pipe.fence = [] ∧ (s.core c).pipe.rob = []) →
    (s.core c).pipe.storeQ = [q] →
    q.acc = w.acc →
    x.kind = .unc →
    x.merged = [w] →
    w.acc.kind = .store →
    w.acc.split = 0 →
    w.acc.pa / 64 = d.line →
    w.acc.pa % 64 + w.acc.size ≤ 64 →
    (0 < w.acc.size ∧ w.acc.size ≤ 8) →
    w.acc.part = 0 →
    (s.core c).awake = true →
    q.pc = w.pc →
    w.acc.guest = false →
    (destElem? w.acc.dest) = none →
    (s.core c).xlat.walks = [] →
    (s.core c).regs.trapTarget { cause := 7 } = 3 →
    (s.core c).pipe.snpQ = [] →
    RunsTo (exec (.err d) s) fun t =>
      (t.core c).csr Csr.mcause = 7 ∧ (t.core c).csr Csr.mtval = accVa w.acc x.line ∧ (t.core c).csr Csr.mepc = w.pc ∧
      (t.core c).regs.priv = 3 ∧ (t.core c).regs.x = (s.core c).regs.x ∧ (t.core c).regs.f = (s.core c).regs.f ∧ (t.core c).regs.v = (s.core c).regs.v ∧
      (t.core c).pipe.slots = [] ∧ (t.core c).pipe.waits = [] ∧ (t.core c).pipe.storeQ = [] ∧ (t.core c).pipe.l2 = (s.core c).pipe.l2 ∧
      t.net = s.restNet .err d ∧ (s.arrived .err d).onlyCoreNet t c)

/-- BAY_FILL_INSTALL gives the line of a miss register to the request that waits for it and frees the register: an RD_NC is answered with it and ends, an RD_S that has its way is granted with DATA_E and tracked. The line enters the bay cache clean, with the requester's identifiers, in the way that the choice of R133 names: an empty one, or one whose clean line is replaced, or whose dirty line goes to the victim buffer; a preload, an access with NTL.ALL, and a fill of a bay that does not allocate leave the cache as it was. A fill that the home ordered later than another ready one, or whose victim finds the victim buffer full, waits. CXL_MEM_RESPONSE gives a device's line to the request that reads it; one that nothing waits for changes nothing. A MGMT message on a link that is up of a frame that is not halted is kept for the join or the time exchange of its frame: what is new of neighbours and times is passed on over the other links, a digest is kept, a timestamp is answered, and an answer gives the delay of the link; a block, one that tells nothing new, and any on another link change nothing. In every state these commands complete. -/
def Obligations.FillsAndDeviceReads : Prop :=
  (∀ (s : State) (b : BayId) (k : Fin 512) (h i : Nat) (x : HTx) (r : Bmr) (data : Line) (poison : Bool) (p : Nat) (h' : Home),
    h = b.val →
    (s.home h).bmrs = [(k.val, r)] →
    r.data = some (data, poison) →
    r.line = x.line →
    r.htx = i →
    (s.home h).stopped = false →
    x.bmr = some k.val →
    x.have_ = false →
    isBenchAddr (x.line * 64) = false →
    r.lock = false →
    (x.nonalloc = false ∧ x.en = true ∧ x.wt = false) →
    s.bayFind h x.line = none →
    (s.home h).chooseVictim (s.baySetOf h (x.line * 64)) x.rcid = (some p, h') →
    Tab.find (s.home h).cache p = none →
    (s.home h).txs = [(i, x)] →
    (s.home h).order = [i] →
    (s.home h).waitReq = [] →
    (s.home h).work = none →
    x.st = .active →
    (x.pend = 0 ∧ x.snpData = 0 ∧ x.hold = []) →
    x.pkg = s.ownPkg →
    s.dirFind h x.line = none →
    x.op = .rdNc →
    RunsTo (exec (.bayFillInstall b k) s) fun t =>
      t.net = s.net ++ [s.sent { op := .ncRData, hdr := { src := agentOfHome h, dst := x.agent, srcPkg := s.ownPkg, dstPkg := s.ownPkg, tag := x.tag, reqAgent := x.agent, reqPkg := s.ownPkg, htx := i, line := x.raw, rcid := x.rcid, mcid := x.mcid, poison := poison }, data := data, source := 1 }] ∧ (t.home h).txs = [] ∧ (t.home h).bmrs = [] ∧ (t.home h).dir = (s.home h).dir ∧
      (t.home h).cache = Tab.set (s.home h).cache p { line := x.line, data := data, poison := poison, rcid := x.rcid, mcid := x.mcid } ∧ (t.home h).victims = (s.home h).victims ∧ (t.home h).bench = (s.home h).bench ∧ (t.home h).locked = (s.home h).locked ∧ s.onlyHome t h) ∧
  (∀ (s : State) (b : BayId) (k : Fin 512) (h i : Nat) (x : HTx) (r : Bmr) (data : Line) (poison : Bool) (p : Nat) (h' : Home) (old : BayLine),
    h = b.val →
    (s.home h).bmrs = [(k.val, r)] →
    r.data = some (data, poison) →
    r.line = x.line →
    r.htx = i →
    (s.home h).stopped = false →
    x.bmr = some k.val →
    x.have_ = false →
    isBenchAddr (x.line * 64) = false →
    r.lock = false →
    (x.nonalloc = false ∧ x.en = true ∧ x.wt = false) →
    s.bayFind h x.line = none →
    (s.home h).chooseVictim (s.baySetOf h (x.line * 64)) x.rcid = (some p, h') →
    Tab.find (s.home h).cache p = some old →
    old.dirty = false →
    (s.home h).txs = [(i, x)] →
    (s.home h).order = [i] →
    (s.home h).waitReq = [] →
    (s.home h).work = none →
    x.st = .active →
    (x.pend = 0 ∧ x.snpData = 0 ∧ x.hold = []) →
    x.pkg = s.ownPkg →
    s.dirFind h x.line = none →
    x.op = .rdNc →
    RunsTo (exec (.bayFillInstall b k) s) fun t =>
      t.net = s.net ++ [s.sent { op := .ncRData, hdr := { src := agentOfHome h, dst := x.agent, srcPkg := s.ownPkg, dstPkg := s.ownPkg, tag := x.tag, reqAgent := x.agent, reqPkg := s.ownPkg, htx := i, line := x.raw, rcid := x.rcid, mcid := x.mcid, poison := poison }, data := data, source := 1 }] ∧ (t.home h).txs = [] ∧ (t.home h).bmrs = [] ∧ (t.home h).dir = (s.home h).dir ∧
      (t.home h).cache = Tab.set (s.home h).cache p { line := x.line, data := data, poison := poison, rcid := x.rcid, mcid := x.mcid } ∧ (t.home h).victims = (s.home h).victims ∧ (t.home h).lfsr = h'.lfsr ∧ (t.home h).bench = (s.home h).bench ∧ (t.home h).locked = (s.home h).locked ∧ s.onlyHome t h) ∧
  (∀ (s : State) (b : BayId) (k : Fin 512) (h i : Nat) (x : HTx) (r : Bmr) (data : Line) (poison : Bool) (p : Nat) (h' : Home) (old : BayLine),
    h = b.val →
    (s.home h).bmrs = [(k.val, r)] →
    r.data = some (data, poison) →
    r.line = x.line →
    r.htx = i →
    (s.home h).stopped = false →
    x.bmr = some k.val →
    x.have_ = false →
    isBenchAddr (x.line * 64) = false →
    r.lock = false →
    (x.nonalloc = false ∧ x.en = true ∧ x.wt = false) →
    s.bayFind h x.line = none →
    (s.home h).chooseVictim (s.baySetOf h (x.line * 64)) x.rcid = (some p, h') →
    Tab.find (s.home h).cache p = some old →
    old.dirty = true →
    old.bad = 0 →
    (s.home h).victims = [] →
    (s.home h).txs = [(i, x)] →
    (s.home h).order = [i] →
    (s.home h).waitReq = [] →
    (s.home h).work = none →
    x.st = .active →
    (x.pend = 0 ∧ x.snpData = 0 ∧ x.hold = []) →
    x.pkg = s.ownPkg →
    s.dirFind h x.line = none →
    x.op = .rdNc →
    RunsTo (exec (.bayFillInstall b k) s) fun t =>
      t.net = s.net ++ [s.sent { op := .ncRData, hdr := { src := agentOfHome h, dst := x.agent, srcPkg := s.ownPkg, dstPkg := s.ownPkg, tag := x.tag, reqAgent := x.agent, reqPkg := s.ownPkg, htx := i, line := x.raw, rcid := x.rcid, mcid := x.mcid, poison := poison }, data := data, source := 1 }] ∧ (t.home h).txs = [] ∧ (t.home h).bmrs = [] ∧ (t.home h).dir = (s.home h).dir ∧
      (t.home h).cache = Tab.set (s.home h).cache p { line := x.line, data := data, poison := poison, rcid := x.rcid, mcid := x.mcid } ∧ (t.home h).lfsr = h'.lfsr ∧
      (t.home h).victims = [{ line := old.line, data := old.data, poison := old.poison, rcid := old.rcid, mcid := old.mcid }] ∧ (t.home h).bench = (s.home h).bench ∧ (t.home h).locked = (s.home h).locked ∧ s.onlyHome t h) ∧
  (∀ (s : State) (b : BayId) (k : Fin 512) (h i : Nat) (x : HTx) (r : Bmr) (data : Line) (poison : Bool) (p : Nat) (h' : Home) (old : BayLine),
    h = b.val →
    (s.home h).bmrs = [(k.val, r)] →
    r.data = some (data, poison) →
    r.line = x.line →
    r.htx = i →
    (s.home h).stopped = false →
    x.bmr = some k.val →
    x.have_ = false →
    isBenchAddr (x.line * 64) = false →
    r.lock = false →
    (x.nonalloc = false ∧ x.en = true ∧ x.wt = false) →
    s.bayFind h x.line = none →
    (s.home h).chooseVictim (s.baySetOf h (x.line * 64)) x.rcid = (some p, h') →
    Tab.find (s.home h).cache p = some old →
    old.dirty = true →
    old.bad = 0 →
    64 ≤ (s.home h).victims.length →
    (s.home h).victims.any (fun v => v.line == old.line) = false →
    h < 12 →
    (s.home h).txs = [(i, x)] →
    (s.home h).order = [i] →
    (s.home h).waitReq = [] →
    (s.home h).work = none →
    x.st = .active →
    (x.pend = 0 ∧ x.snpData = 0 ∧ x.hold = []) →
    x.pkg = s.ownPkg →
    s.dirFind h x.line = none →
    x.op = .rdNc →
    RunsTo (exec (.bayFillInstall b k) s) fun t =>
      t.homes = s.homes ∧ t.net = s.net ∧ s.onlyHome t h) ∧
  (∀ (s : State) (b : BayId) (k : Fin 512) (h i : Nat) (x : HTx) (r : Bmr) (data : Line) (poison : Bool),
    h = b.val →
    (s.home h).bmrs = [(k.val, r)] →
    r.data = some (data, poison) →
    r.line = x.line →
    r.htx = i →
    (s.home h).stopped = false →
    x.bmr = some k.val →
    x.have_ = false →
    isBenchAddr (x.line * 64) = false →
    (r.lock = true ∨ x.nonalloc = true ∨ x.en = false ∨ x.wt = true) →
    (s.home h).txs = [(i, x)] →
    (s.home h).order = [i] →
    (s.home h).waitReq = [] →
    (s.home h).work = none →
    x.st = .active →
    (x.pend = 0 ∧ x.snpData = 0 ∧ x.hold = []) →
    x.pkg = s.ownPkg →
    s.dirFind h x.line = none →
    x.op = .rdNc →
    RunsTo (exec (.bayFillInstall b k) s) fun t =>
      t.net = s.net ++ [s.sent { op := .ncRData, hdr := { src := agentOfHome h, dst := x.agent, srcPkg := s.ownPkg, dstPkg := s.ownPkg, tag := x.tag, reqAgent := x.agent, reqPkg := s.ownPkg, htx := i, line := x.raw, rcid := x.rcid, mcid := x.mcid, poison := poison }, data := data, source := 1 }] ∧ (t.home h).txs = [] ∧ (t.home h).bmrs = [] ∧ (t.home h).dir = (s.home h).dir ∧ (t.home h).cache = (s.home h).cache ∧ (t.home h).victims = (s.home h).victims ∧ (t.home h).bench = (s.home h).bench ∧ (t.home h).locked = (s.home h).locked ∧ s.onlyHome t h) ∧
  (∀ (s : State) (b : BayId) (k : Fin 512) (h i : Nat) (x : HTx) (r : Bmr) (data : Line) (poison : Bool) (n : Nat),
    h = b.val →
    (s.home h).bmrs = [(k.val, r)] →
    r.data = some (data, poison) →
    r.line = x.line →
    r.htx = i →
    (s.home h).stopped = false →
    x.bmr = some k.val →
    x.have_ = false →
    isBenchAddr (x.line * 64) = false →
    (r.lock = true ∨ x.nonalloc = true ∨ x.en = false ∨ x.wt = true) →
    x.op = .rdS →
    (x.acked = false ∧ x.fwd = false) →
    x.dirway = some n →
    Tab.find (s.home h).dir n = none →
    x.evictFor = none →
    x.agent < 12 →
    (s.home h).txs = [(i, x)] →
    (s.home h).order = [i] →
    (s.home h).waitReq = [] →
    (s.home h).work = none →
    x.st = .active →
    (x.pend = 0 ∧ x.snpData = 0 ∧ x.hold = []) →
    x.pkg = s.ownPkg →
    s.dirFind h x.line = none →
    RunsTo (exec (.bayFillInstall b k) s) fun t =>
      t.net = s.net ++ [s.sent { op := .dataE, hdr := { src := agentOfHome h, dst := x.agent, srcPkg := s.ownPkg, dstPkg := s.ownPkg, tag := x.tag, reqAgent := x.agent, reqPkg := s.ownPkg, htx := i, line := x.raw, rcid := x.rcid, mcid := x.mcid, poison := poison, go := true }, data := data, source := 1 }] ∧ (t.home h).txs.map (fun e => (e.1, e.2.st)) = [(i, .granted)] ∧ (t.home h).bmrs = [] ∧
      (t.home h).dir = Tab.set (s.home h).dir n { line := x.line, st := 1, sv := 2 ^ x.agent, own := x.agent, ownPkg := s.ownPkg } ∧
      (t.home h).cache = (s.home h).cache ∧ (t.home h).bench = (s.home h).bench ∧ (t.home h).locked = (s.home h).locked ∧ s.onlyHome t h) ∧
  (∀ (s : State) (b : BayId) (k : Fin 512) (r : Bmr),
    Tab.find (s.home b).bmrs k.val = some r →
    (s.home b).bmrs.any (fun e => e.2.data.isSome && decide (e.2.order < r.order)) = true →
    exec (.bayFillInstall b k) s = .next s) ∧
  (∀ (s : State) (p : PortId) (h i line : Nat) (x : HTx) (data : Line) (poison : Bool),
    h = 12 + p.val →
    (s.home h).cxlWait = [(line, i)] →
    x.line = line →
    (x.have_ = false ∧ x.bmr = none) →
    (s.home h).txs = [(i, x)] →
    (s.home h).order = [i] →
    (s.home h).waitReq = [] →
    (s.home h).work = none →
    x.st = .active →
    (x.pend = 0 ∧ x.snpData = 0 ∧ x.hold = []) →
    x.pkg = s.ownPkg →
    s.dirFind h x.line = none →
    x.op = .rdNc →
    RunsTo (exec (.cxlMemResponse p line data poison) s) fun t =>
      t.net = s.net ++ [s.sent { op := .ncRData, hdr := { src := agentOfHome h, dst := x.agent, srcPkg := s.ownPkg, dstPkg := s.ownPkg, tag := x.tag, reqAgent := x.agent, reqPkg := s.ownPkg, htx := i, line := x.raw, rcid := x.rcid, mcid := x.mcid, poison := poison }, data := data, source := 4 }] ∧ (t.home h).txs = [] ∧ (t.home h).cxlWait = [] ∧ (t.home h).dir = (s.home h).dir ∧
      t.memLine (s.lineKey h (line * 64)) = (data, poison) ∧
      (∀ j, j < s.lineKey h (line * 64) ∨ s.lineKey h (line * 64) + 64 ≤ j → Mem.get t.mem j = Mem.get s.mem j) ∧
      (∀ j, j ≠ s.lineKey h (line * 64) → t.memPoison.contains j = s.memPoison.contains j ∧ t.memFound.contains j = s.memFound.contains j) ∧ (∀ k, k ≠ h → t.home k = s.home k) ∧
      t = { s with homes := t.homes, net := t.net, mem := t.mem, memPoison := t.memPoison, memFound := t.memFound }) ∧
  (∀ (s : State) (p : PortId) (line : Nat) (data : Line) (poison : Bool),
    (s.home (12 + p.val)).cxlWait.find? (fun e => e.1 == line) = none →
    exec (.cxlMemResponse p line data poison) s = .next s) ∧
  (∀ (s : State) (p : PortId) (pkg : Nat) (near : List (Nat × Nat × Nat)),
    (s.port p).pers = 4 →
    (s.port p).purlin.st = 3 →
    (s.frame (s.frameOfPort p)).halted = false →
    pkg ≠ s.plumb.pkgId →
    Tab.find (s.frame (s.frameOfPort p)).heard pkg ≠ some near →
    RunsTo (exec (.mgmt (.ids p pkg near)) s) fun t =>
      t.frame (s.frameOfPort p) = { s.frame (s.frameOfPort p) with heard := Tab.set (s.frame (s.frameOfPort p)).heard pkg near } ∧
      (∀ q, (t.port q).purlin = if q ∈ s.upPorts (s.frameOfPort p) ∧ q ≠ p.val ∧ (s.port q).purlin.after = none then { (s.port q).purlin with outQ := (s.port q).purlin.outQ ++ [({ op := .mgmt, hdr := { src := 32 + q, dst := 32 + (s.port q).purlin.far.port, srcPkg := s.plumb.pkgId, dstPkg := (s.port q).purlin.far.pkg }, data := BitVec.ofNat 512 (Mgmt.data (Mgmt.ids (Fin.ofNat 8 q) pkg near)) } : Msg)] } else (s.port q).purlin) ∧ (∀ g, g ≠ (s.frameOfPort p) → t.frame g = s.frame g) ∧ t = { s with ports := t.ports, frames := t.frames }) ∧
  (∀ (s : State) (p : PortId) (pkg : Nat) (near : List (Nat × Nat × Nat)),
    (pkg = s.plumb.pkgId ∨ Tab.find (s.frame (s.frameOfPort p)).heard pkg = some near) →
    exec (.mgmt (.ids p pkg near)) s = .next s) ∧
  (∀ (s : State) (p : PortId) (x : BitVec 32),
    (s.port p).pers = 4 →
    (s.port p).purlin.st = 3 →
    (s.frame (s.frameOfPort p)).halted = false →
    (s.frame (s.frameOfPort p)).joinStep = 0 →
    exec (.mgmt (.digest p x)) s = .next (s.setPurlin p { (s.port p).purlin with digest := some x })) ∧
  (∀ (s : State) (p : PortId) (pkg : Nat) (x : BitVec 64),
    (s.port p).pers = 4 →
    (s.port p).purlin.st = 3 →
    (s.frame (s.frameOfPort p)).halted = false →
    (s.frame (s.frameOfPort p)).joinStep = 0 →
    pkg ≠ s.plumb.pkgId →
    Tab.find (s.frame (s.frameOfPort p)).heardTime pkg = none →
    RunsTo (exec (.mgmt (.time p pkg x)) s) fun t =>
      t.frame (s.frameOfPort p) = { s.frame (s.frameOfPort p) with heardTime := Tab.set (s.frame (s.frameOfPort p)).heardTime pkg ((x.toNat + (s.port p).purlin.delay : Int) - (s.mtimeOf (s.frameOfPort p)).toNat) } ∧
      (∀ q, (t.port q).purlin = if q ∈ s.upPorts (s.frameOfPort p) ∧ q ≠ p.val ∧ (s.port q).purlin.after = none then { (s.port q).purlin with outQ := (s.port q).purlin.outQ ++ [({ op := .mgmt, hdr := { src := 32 + q, dst := 32 + (s.port q).purlin.far.port, srcPkg := s.plumb.pkgId, dstPkg := (s.port q).purlin.far.pkg }, data := BitVec.ofNat 512 (Mgmt.data (Mgmt.time (Fin.ofNat 8 q) pkg (x + BitVec.ofNat 64 (s.port p).purlin.delay))) } : Msg)] } else (s.port q).purlin) ∧ (∀ g, g ≠ (s.frameOfPort p) → t.frame g = s.frame g) ∧ t = { s with ports := t.ports, frames := t.frames }) ∧
  (∀ (s : State) (p : PortId) (pkg : Nat) (x : BitVec 64),
    (pkg = s.plumb.pkgId ∨ (Tab.find (s.frame (s.frameOfPort p)).heardTime pkg).isSome = true) →
    exec (.mgmt (.time p pkg x)) s = .next s) ∧
  (∀ (s : State) (p : PortId) (x : BitVec 60),
    (s.port p).pers = 4 →
    (s.port p).purlin.st = 3 →
    (s.frame (s.frameOfPort p)).halted = false →
    (s.port p).purlin.after = none →
    exec (.mgmt (.ask p x)) s = .next (s.setPurlin p { (s.port p).purlin with outQ := (s.port p).purlin.outQ ++ [({ op := .mgmt, hdr := { src := 32 + p.val, dst := 32 + (s.port p.val).purlin.far.port, srcPkg := s.plumb.pkgId, dstPkg := (s.port p.val).purlin.far.pkg }, data := BitVec.ofNat 512 (Mgmt.data (Mgmt.answer p x (BitVec.ofNat 60 (s.mtimeOf (s.frameOfPort p)).toNat))) } : Msg)] })) ∧
  (∀ (s : State) (p : PortId) (x y : BitVec 60),
    (s.port p).pers = 4 →
    (s.port p).purlin.st = 3 →
    (s.frame (s.frameOfPort p)).halted = false →
    ((s.frame (s.frameOfPort p)).joinSt ≠ 2 ∨ rankOf (s.frame (s.frameOfPort p)).members s.plumb.pkgId = 0) →
    exec (.mgmt (.answer p x y)) s = .next (s.setPurlin p { (s.port p).purlin with delay := (BitVec.ofNat 60 (s.mtimeOf (s.frameOfPort p)).toNat - x).toNat / 2 })) ∧
  (∀ (s : State) (p : PortId) (pkg : Nat) (c : BitVec 32) (x : BitVec 64) (y z : BitVec 60) (near : List (Nat × Nat × Nat)) (m : Mgmt),
    ((s.port p).pers ≠ 4 ∨ (s.port p).purlin.st ≠ 3 ∨ (s.frame (s.frameOfPort p)).halted = true) →
    m ∈ [Mgmt.ids p pkg near, Mgmt.digest p c, Mgmt.time p pkg x, Mgmt.ask p y, Mgmt.answer p y z] →
    exec (.mgmt m) s = .next s) ∧
  (∀ (s : State) (x : Word),
    exec (.mgmt (.block x)) s = .next s) ∧
  (∀ (s : State) (m : Mgmt),
    RunsTo (exec (.mgmt m) s) fun t => t.mem = s.mem ∧ t.memPoison = s.memPoison ∧ t.chans = s.chans ∧ t.mtime = s.mtime ∧ t.pending = s.pending) ∧
  (∀ (s : State) (b : BayId) (k : Fin 512),
    RunsTo (exec (.bayFillInstall b k) s) fun t => t.mtime = s.mtime ∧ t.pending = s.pending ∧ t.off = s.off) ∧
  (∀ (s : State) (p : PortId) (line : Nat) (data : Line) (poison : Bool),
    RunsTo (exec (.cxlMemResponse p line data poison) s) fun t => t.mtime = s.mtime ∧ t.pending = s.pending ∧ t.off = s.off)

/-- FATAL_EVENT on a booted frame that is not halted: the frame is halted and holds its fatal notice, its homes stop ordering and abandon their transactions with their directories and caches kept, its cores stop, messages to its agents are dropped, its ports abandon what waits in them, ERROR_N is asserted, the line log gains an entry of class fatal with the structure's code, and a flush to the journal is under way; memory, the run states of other frames' cores, their homes, and the halted state of every other frame, stay. SNOOP_TIMEOUT of a stud that owes an answer does the same to the home's frame with code 0x31, and DOMAIN_DOWN to a joined frame with code 0x32, whose other links that are up send DOMAIN_DOWN and are held once it has left. On a frame that is halted, or not booted, FATAL_EVENT changes nothing, nor does SNOOP_TIMEOUT of a stud that owes nothing, nor DOMAIN_DOWN on a port whose link is not up or whose frame runs Solo. An unknown message is dropped, logged and noticed. -/
def Obligations.FatalErrorsHaltTheirFrame : Prop :=
  (∀ (s : State) (f : FrameId) (x y : BitVec 8),
    f.val < frameCount s.mode →
    s.isBooted f = true →
    (s.frame f).halted = false →
    RunsTo (exec (.fatalEvent f x y) s) fun t =>
      (t.frame (f.val)).halted = true ∧ (t.frame (f.val)).fatal = some (errNotice 4 (structureSrc x.toNat) (y.toNat) x.toNat (f.val) (s.scribe.logSeq % 2 ^ 30)) ∧ t.pins.errorN = false ∧
      (∀ h ∈ s.homesOf (f.val), t.home h = (s.home h).stopOrdering) ∧ (∀ h, h ∉ s.homesOf (f.val) → t.home h = s.home h) ∧
      (∀ c, c < 384 → (t.core c).run = if s.frameOfCore c = f.val then .stopped else (s.core c).run) ∧
      (∀ m ∈ t.net, m ∈ s.net → s.frameOfAgent m.hdr.dst ≠ f.val) ∧ (∀ p ∈ portsOf s.mode (f.val), (t.port p).inb = [] ∧ (t.port p).inbQ = []) ∧
      t.scribe.log.any (fun e => e.seq == s.scribe.logSeq && e.cls == 4 && e.code == x.toNat && e.inst == y.toNat) = true ∧
      t.scribe.flushing.isSome = true ∧ t.scribe.frozen = false ∧
      (∀ g, g ≠ f.val → (t.frame g).halted = (s.frame g).halted) ∧ t.mem = s.mem) ∧
  (∀ (s : State) (f : FrameId) (x y : BitVec 8),
    (frameCount s.mode ≤ f.val ∨ s.isBooted f = false ∨ (s.frame f).halted = true) →
    exec (.fatalEvent f x y) s = .next s) ∧
  (∀ (s : State) (h : Nat) (n : StudId) (f : Nat),
    h < 12 →
    Tab.get (s.home h).snpCred 0 n.val ≠ 0 →
    f = s.frameOfHome h →
    (s.frame f).halted = false →
    RunsTo (exec (.snoopTimeout h n) s) fun t =>
      (t.frame (f)).halted = true ∧ (t.frame (f)).fatal = some (errNotice 4 4 (h) 0x31 (f) (s.scribe.logSeq % 2 ^ 30)) ∧ t.pins.errorN = false ∧
      (∀ h ∈ s.homesOf (f), t.home h = (s.home h).stopOrdering) ∧ (∀ h, h ∉ s.homesOf (f) → t.home h = s.home h) ∧
      (∀ c, c < 384 → (t.core c).run = if s.frameOfCore c = f then .stopped else (s.core c).run) ∧
      (∀ m ∈ t.net, m ∈ s.net → s.frameOfAgent m.hdr.dst ≠ f) ∧ (∀ p ∈ portsOf s.mode (f), (t.port p).inb = [] ∧ (t.port p).inbQ = []) ∧
      t.scribe.log.any (fun e => e.seq == s.scribe.logSeq && e.cls == 4 && e.code == 0x31 && e.inst == h) = true ∧
      t.scribe.flushing.isSome = true ∧ t.scribe.frozen = false ∧
      (∀ g, g ≠ f → (t.frame g).halted = (s.frame g).halted) ∧ t.mem = s.mem) ∧
  (∀ (s : State) (h : Nat) (n : StudId) (f : Nat),
    (12 ≤ h ∧ h < 20) →
    Tab.get (s.home h).snpCred 0 n.val ≠ 0 →
    f = s.frameOfHome h →
    (s.frame f).halted = false →
    RunsTo (exec (.snoopTimeout h n) s) fun t =>
      (t.frame (f)).halted = true ∧ (t.frame (f)).fatal = some (errNotice 4 7 ((h - 12)) 0x31 (f) (s.scribe.logSeq % 2 ^ 30)) ∧ t.pins.errorN = false ∧
      (∀ h ∈ s.homesOf (f), t.home h = (s.home h).stopOrdering) ∧ (∀ h, h ∉ s.homesOf (f) → t.home h = s.home h) ∧
      (∀ c, c < 384 → (t.core c).run = if s.frameOfCore c = f then .stopped else (s.core c).run) ∧
      (∀ m ∈ t.net, m ∈ s.net → s.frameOfAgent m.hdr.dst ≠ f) ∧ (∀ p ∈ portsOf s.mode (f), (t.port p).inb = [] ∧ (t.port p).inbQ = []) ∧
      t.scribe.log.any (fun e => e.seq == s.scribe.logSeq && e.cls == 4 && e.code == 0x31 && e.inst == (h - 12)) = true ∧
      t.scribe.flushing.isSome = true ∧ t.scribe.frozen = false ∧
      (∀ g, g ≠ f → (t.frame g).halted = (s.frame g).halted) ∧ t.mem = s.mem) ∧
  (∀ (s : State) (h : Nat) (n : StudId),
    (20 ≤ h ∨ Tab.get (s.home h).snpCred 0 n.val = 0) →
    exec (.snoopTimeout h n) s = .next s) ∧
  (∀ (s : State) (p : PortId) (f : Nat),
    (s.port p).pers = 4 →
    (s.port p).purlin.st = 3 →
    f = s.frameOfPort p →
    (s.frame f).joinSt = 2 →
    (s.frame f).halted = false →
    RunsTo (exec (.domainDown p) s) fun t =>
      (t.frame (f)).halted = true ∧ (t.frame (f)).fatal = some (errNotice 4 7 (p.val) 0x32 (f) (s.scribe.logSeq % 2 ^ 30)) ∧ t.pins.errorN = false ∧
      (∀ h ∈ s.homesOf (f), t.home h = (s.home h).stopOrdering) ∧ (∀ h, h ∉ s.homesOf (f) → t.home h = s.home h) ∧
      (∀ c, c < 384 → (t.core c).run = if s.frameOfCore c = f then .stopped else (s.core c).run) ∧
      (∀ m ∈ t.net, m ∈ s.net → s.frameOfAgent m.hdr.dst ≠ f) ∧ (∀ p ∈ portsOf s.mode (f), (t.port p).inb = [] ∧ (t.port p).inbQ = []) ∧
      t.scribe.log.any (fun e => e.seq == s.scribe.logSeq && e.cls == 4 && e.code == 0x32 && e.inst == p.val) = true ∧
      t.scribe.flushing.isSome = true ∧ t.scribe.frozen = false ∧
      (∀ g, g ≠ f → (t.frame g).halted = (s.frame g).halted) ∧ t.mem = s.mem ∧ (t.port p).purlin.st = 4 ∧
      (∀ q ∈ portsOf s.mode f, q ≠ p.val → (s.port q).pers = 4 → (s.port q).purlin.st = 3 →
        (t.port q).purlin = ((s.port q).purlin.down s.ownPkg (32 + q)).hold (s.port q).purlin.refuse (s.port q).purlin.role)) ∧
  (∀ (s : State) (p : PortId),
    ((s.port p).pers ≠ 4 ∨ (s.port p).purlin.st ≠ 3 ∨ (s.frame (s.frameOfPort p)).halted = true ∨ (s.frame (s.frameOfPort p)).joinSt = 1) →
    exec (.domainDown p) s = .next s) ∧
  (∀ (s : State) (dst : Nat) (src : BitVec 6) (cls : BitVec 3) (op : BitVec 6) (f : Nat),
    f = (if agentOk dst then s.frameOfAgent dst else 0) →
    s.isBooted f = true →
    (s.frame f).nq.stalled = [] →
    (s.frame f).nq.held.length < 252 →
    f < frameCount s.mode →
    RunsTo (exec (.unknownMessageDiscard dst src cls op) s) fun t =>
      t.scribe.log.any (fun e => e.seq == s.scribe.logSeq && e.cls == 3 && e.src == 13 && e.code == 0x30 && e.inst == dst) = true ∧
      (t.frame f).nq.held.length = (s.frame f).nq.held.length + 1 ∧
      t.homes = s.homes ∧ t.mem = s.mem ∧ t.chans = s.chans ∧ ∀ c, (t.core c).regs = (s.core c).regs ∧ (t.core c).pipe = (s.core c).pipe)

/-- On a tenon link that is UP. A flit time advances the flit index and is kept in the retry buffer; a message of a class that waits at the sending end, with credit for all its units and room for them in the groups of its class, crosses: from a stud into the sill fabric, to a stud to its far end; its units leave the sender's credit and are freed. A flit time that the retry buffer holds crosses again as it was sent. While the receiver discards, no message arrives and nothing is freed. One flipped bit on a data wire fails its byte and is counted on that wire, two failing bytes of one parity wire on the parity wire, and a bit of the valid byte on VL. A flit that fails its parity makes the receiver discard from its flit time, sends a NAK of its SEQ with the lowest failing group and their number, and counts the wire; a count that reaches the threshold asks for the wire's steering to a free spare; the eighth failed send in a row of one group asks for its retirement with cause 1. A NAK of a flit time still held moves the sender back to it, and one no longer held fails the link, and with it a booted frame; the NAK is sent again on its timeout. CREDIT adds the increment of the cumulative count, modulo 4,096. On a link that is neither UP nor PARKED these rows change nothing. -/
def Obligations.TenonFlitsAndReplay : Prop :=
  (∀ (s : State) (n : StudId) (d : TDirId) (m : Msg) (u : BitVec 128) (r : List (BitVec 128)),
    (s.tenon n).st = 2 →
    s.sillEnd n d = s →
    (∀ x ∈ (s.tdir n d).switches, (s.tdir n d).index < x.at_) →
    (d = .up ∨ m.op ≠ .msiWrite) →
    (s.tdir n d).discard = none →
    (s.tdir n d).partUnits = [] →
    unitOp u = some m.op →
    unitCount u = r.length + 1 →
    sameMsg (unitMsg m.op u r) m = true →
    msgUnits m = u :: r →
    s.net.all (fun k => k.loc != .tenon (dirNo d == 0) || k == m) = true →
    m.outP = none →
    s.net.filter (s.waitsAt n d) = [m] →
    (s.tdir n d).retry.find? (fun e => e.1 == (s.tdir n d).index) = none →
    (s.tdir n d).outU = [] →
    carries d (clsOf m.op) = true →
    r.length + 1 ≤ 4 * ((s.tdir n d).layout (clsOf m.op)).length →
    r.length + 1 ≤ (s.tdir n d).creditOf (clsOf m.op) →
    RunsTo (exec (.tenonFlitReceived n d) s) fun t =>
      t.net = s.net.erase m ++ [if d = .up then entered m else { m with loc := .far }] ∧ (t.tdir n d).index = (s.tdir n d).index + 1 ∧ ((t.tdir n d).retry.map (·.1)).getLast? = some (s.tdir n d).index ∧
      (t.tdir n d).creditOf (clsOf m.op) = (s.tdir n d).creditOf (clsOf m.op) - (r.length + 1) ∧
      Tab.get (t.tdir n d).freed 0 (clsOf m.op) = (Tab.get (s.tdir n d).freed 0 (clsOf m.op) + (r.length + 1)) % 4096 ∧ (t.tdir n d).partUnits = [] ∧ (t.tdir n d).counts = (s.tdir n d).counts ∧ (∀ e, e ≠ d → t.tdir n e = s.tdir n e) ∧ (t.tenon n).st = (s.tenon n).st ∧ (∀ k, k ≠ n → t.tenon k = s.tenon k) ∧ t = { s with tenons := t.tenons, net := t.net }) ∧
  (∀ (s : State) (n : StudId) (d : TDirId),
    (s.tenon n).st = 2 →
    s.sillEnd n d = s →
    (∀ x ∈ (s.tdir n d).switches, (s.tdir n d).index < x.at_) →
    (s.tdir n d).discard = none →
    s.net.filter (s.waitsAt n d) = [] →
    (s.tdir n d).retry.find? (fun e => e.1 == (s.tdir n d).index) = none →
    (s.tdir n d).outU = [] →
    RunsTo (exec (.tenonFlitReceived n d) s) fun t =>
      (t.tdir n d).index = (s.tdir n d).index + 1 ∧ (t.tdir n d).retry.getLast? = some ((s.tdir n d).index, []) ∧ (t.tdir n d).freed = (s.tdir n d).freed ∧ (t.tdir n d).partUnits = (s.tdir n d).partUnits ∧ (∀ e, e ≠ d → t.tdir n e = s.tdir n e) ∧ (t.tenon n).st = (s.tenon n).st ∧ (∀ k, k ≠ n → t.tenon k = s.tenon k) ∧ t = { s with tenons := t.tenons }) ∧
  (∀ (s : State) (n : StudId) (d : TDirId) (m : Msg) (u : BitVec 128) (r : List (BitVec 128)) (f : Flit),
    (s.tenon n).st = 2 →
    s.sillEnd n d = s →
    (∀ x ∈ (s.tdir n d).switches, (s.tdir n d).index < x.at_) →
    (d = .up ∨ m.op ≠ .msiWrite) →
    (s.tdir n d).discard = none →
    (s.tdir n d).partUnits = [] →
    unitOp u = some m.op →
    unitCount u = r.length + 1 →
    sameMsg (unitMsg m.op u r) m = true →
    msgUnits m = u :: r →
    s.net.all (fun k => k.loc != .tenon (dirNo d == 0) || k == m) = true →
    m.outP = none →
    m.loc = .tenon (dirNo d == 0) →
    s.net.count m = 1 →
    (s.tdir n d).retry.find? (fun e => e.1 == (s.tdir n d).index) = some ((s.tdir n d).index, [f]) →
    f.cls = clsOf m.op →
    f.read = (u, true) :: r.map (fun x => (x, false)) →
    RunsTo (exec (.tenonFlitReceived n d) s) fun t =>
      t.net = s.net.erase m ++ [if d = .up then entered m else { m with loc := .far }] ∧ (t.tdir n d).index = (s.tdir n d).index + 1 ∧ (t.tdir n d).retry = (s.tdir n d).retry ∧ (t.tdir n d).credit = (s.tdir n d).credit ∧
      Tab.get (t.tdir n d).freed 0 (clsOf m.op) = (Tab.get (s.tdir n d).freed 0 (clsOf m.op) + (r.length + 1)) % 4096 ∧ (t.tdir n d).partUnits = [] ∧ (∀ e, e ≠ d → t.tdir n e = s.tdir n e) ∧ (t.tenon n).st = (s.tenon n).st ∧ (∀ k, k ≠ n → t.tenon k = s.tenon k) ∧ t = { s with tenons := t.tenons, net := t.net }) ∧
  (∀ (s : State) (n : StudId) (m : Msg) (u : BitVec 128) (r : List (BitVec 128)) (h file k id : Nat),
    (s.tenon n).st = 2 →
    s.sillEnd n .dn = s →
    (∀ x ∈ (s.tdir n .dn).switches, (s.tdir n .dn).index < x.at_) →
    (s.tdir n .dn).discard = none →
    (s.tdir n .dn).partUnits = [] →
    unitOp u = some m.op →
    unitCount u = r.length + 1 →
    sameMsg (unitMsg m.op u r) m = true →
    msgUnits m = u :: r →
    s.net.all (fun k => k.loc != .tenon (1 == 0) || k == m) = true →
    m.outP = none →
    m.op = .msiWrite →
    s.net.filter (s.waitsAt n .dn) = [m] →
    (s.tdir n .dn).retry.find? (fun e => e.1 == (s.tdir n .dn).index) = none →
    (s.tdir n .dn).outU = [] →
    r.length + 1 ≤ 4 * ((s.tdir n .dn).layout 4).length →
    r.length + 1 ≤ (s.tdir n .dn).creditOf 4 →
    msiFile m.hdr.line = (h, file) →
    s.coreOfHart (s.frameOfStud n) h = some k →
    id = m.data.toNat →
    (1 ≤ id ∧ id ≤ 2047) →
    RunsTo (exec (.tenonFlitReceived n .dn) s) fun t =>
      t.net = s.net.erase m ∧ ((t.core k).file file).eip = listAdd ((s.core k).file file).eip id ∧ (∀ j, j ≠ file → (t.core k).file j = (s.core k).file j) ∧
      (t.core k).regs = (s.core k).regs ∧ (∀ j, j ≠ k → t.core j = s.core j) ∧ (t.tdir n .dn).index = (s.tdir n .dn).index + 1 ∧
      (t.tenon n).up = (s.tenon n).up ∧ (∀ j, j ≠ n.val → t.tenon j = s.tenon j) ∧ t = { s with tenons := t.tenons, net := t.net, cores := t.cores, free := t.free }) ∧
  (∀ (s : State) (n : StudId) (d : TDirId),
    (s.tenon n).st = 2 →
    s.sillEnd n d = s →
    (∀ x ∈ (s.tdir n d).switches, (s.tdir n d).index < x.at_) →
    (s.tdir n d).discard.isSome = true →
    RunsTo (exec (.tenonFlitReceived n d) s) fun t =>
      (∀ m ∈ t.net, m ∈ s.net ∨ m.loc = .tenon (dirNo d == 0)) ∧ (t.tdir n d).index = (s.tdir n d).index + 1 ∧ (t.tdir n d).freed = (s.tdir n d).freed ∧
      (t.tdir n d).partUnits = (s.tdir n d).partUnits ∧ (t.tdir n d).discard = (s.tdir n d).discard ∧ (∀ e, e ≠ d → t.tdir n e = s.tdir n e) ∧ (t.tenon n).st = (s.tenon n).st ∧ (∀ k, k ≠ n → t.tenon k = s.tenon k) ∧ t = { s with tenons := t.tenons, net := t.net }) ∧
  (∀ (s : State) (n : StudId) (d : TDirId) (g k m : Nat),
    k < 64 →
    m < 8 →
    ((s.tdir n d).drives g 72 = 0x7F ∧ (s.tdir n d).drives g 73 = 0x7F) →
    (s.tdir n d).parityWires g [(k, m)] = [(k, 1)]) ∧
  (∀ (s : State) (n : StudId) (d : TDirId) (g p a b m k : Nat),
    (p < 8 ∧ a < 8 ∧ b < 8 ∧ a ≠ b) →
    (m < 8 ∧ k < 8) →
    ((s.tdir n d).drives g 72 = 0x7F ∧ (s.tdir n d).drives g 73 = 0x7F) →
    (s.tdir n d).parityWires g [(8 * p + a, m), (8 * p + b, k)] = [(64 + p, 1)]) ∧
  (∀ (s : State) (n : StudId) (d : TDirId) (g m : Nat),
    m < 8 →
    ((s.tdir n d).drives g 72 = 0x7F ∧ (s.tdir n d).drives g 73 = 0x7F) →
    (s.tdir n d).parityWires g [(75, m)] = [(75, 1)]) ∧
  (∀ (s : State) (n : StudId) (d : TDirId) (g q : Fin 64) (fl : List (Fin 76 × Fin 8)) (w : Nat),
    (s.tenon n).st = 2 →
    (s.tdir n d).checked g = true →
    (s.tdir n d).parityWires g ((fl.map (fun x => (x.1.val, x.2.val))).eraseDups) = [(w, 1)] →
    (s.tdir n d).off g = false →
    (∀ x ∈ (s.tdir n d).switches, (s.tdir n d).index < x.at_) →
    (s.tdir n d).discard = none →
    (s.tdir n d).index % 64 = q.val →
    (s.tdir n d).count g w + 1 < s.wireThresh →
    s.wireThresh ≤ 255 →
    Tab.rising (s.tdir n d).runs = true →
    ((if (s.tdir n d).runSeq = some q.val ∧ (s.tdir n d).failing.contains g.val = true then Tab.get (s.tdir n d).runs 0 g.val + 1 else 1) < 8) →
    RunsTo (exec (.tenonParityError n d g q fl) s) fun t =>
      (t.tdir n d).discard = some (s.tdir n d).index ∧ (t.tdir n d).index = (s.tdir n d).index + 1 ∧ (t.tdir n d).nakSeq = some q.val ∧ (t.tdir n d).failing = [g.val] ∧
      Tab.get (t.tdir n d).runs 0 g.val = (if (s.tdir n d).runSeq = some q.val ∧ (s.tdir n d).failing.contains g.val = true then Tab.get (s.tdir n d).runs 0 g.val + 1 else 1) ∧ (t.tdir n d).frames = ((s.tdir n d).frame (nakFrame q [g.val])).frames ∧
      (t.tdir n d).count g w = (s.tdir n d).count g w + 1 ∧ (∀ v, v ≠ 128 * g.val + w → Tab.get (t.tdir n d).counts 0 v = Tab.get (s.tdir n d).counts 0 v) ∧ (t.tdir n d).reqs = (s.tdir n d).reqs ∧
      (t.tdir n d).retired = (s.tdir n d).retired ∧ (∀ m ∈ t.net, m ∈ s.net ∨ m.op = .msiWrite ∨ m.loc = .tenon (dirNo d == 0)) ∧ (∀ e, e ≠ d → t.tdir n e = s.tdir n e) ∧ (t.tenon n).st = (s.tenon n).st ∧ s.onlyTenon t n) ∧
  (∀ (s : State) (n : StudId) (d : TDirId) (g q : Fin 64) (fl : List (Fin 76 × Fin 8)) (w : Nat) (e : Nat),
    (s.tenon n).st = 2 →
    (s.tdir n d).checked g = true →
    (s.tdir n d).parityWires g ((fl.map (fun x => (x.1.val, x.2.val))).eraseDups) = [(w, 1)] →
    (s.tdir n d).off g = false →
    (s.tdir n d).count g w + 1 < s.wireThresh →
    s.wireThresh ≤ 255 →
    (s.tdir n d).discard = some e →
    e % 64 = q.val →
    (s.tdir n d).index = e + 1 →
    (s.tdir n d).failing.contains g.val = false →
    Tab.get (s.tdir n d).runs 0 g.val < 7 →
    RunsTo (exec (.tenonParityError n d g q fl) s) fun t =>
      (t.tdir n d).discard = some e ∧ (t.tdir n d).index = (s.tdir n d).index ∧ (t.tdir n d).failing = listAdd (s.tdir n d).failing g.val ∧
      (t.tdir n d).frames = (((s.tdir n d).unframe (nakFrame q (s.tdir n d).failing)).frame (nakFrame q (listAdd (s.tdir n d).failing g.val))).frames ∧
      (t.tdir n d).count g w = (s.tdir n d).count g w + 1 ∧ (∀ v, v ≠ 128 * g.val + w → Tab.get (t.tdir n d).counts 0 v = Tab.get (s.tdir n d).counts 0 v) ∧ (∀ e, e ≠ d → t.tdir n e = s.tdir n e) ∧ (t.tenon n).st = (s.tenon n).st ∧ s.onlyTenon t n) ∧
  (∀ (s : State) (n : StudId) (d : TDirId) (g q : Fin 64) (fl : List (Fin 76 × Fin 8)) (w : Nat),
    (s.tenon n).st = 2 →
    (s.tdir n d).checked g = true →
    (s.tdir n d).parityWires g ((fl.map (fun x => (x.1.val, x.2.val))).eraseDups) = [(w, 1)] →
    (s.tdir n d).off g = false →
    (∀ x ∈ (s.tdir n d).switches, (s.tdir n d).index < x.at_) →
    (s.tdir n d).discard = none →
    (s.tdir n d).index % 64 = q.val →
    s.wireThresh ≤ (s.tdir n d).count g w + 1 →
    s.wireThresh ≤ 255 →
    w < 72 →
    4 ≤ s.wireThresh →
    ((s.tdir n d).cross = [] ∧ (s.tdir n d).deferred = []) →
    (s.tdir n d).count g w < 255 →
    (s.tdir n d).gone g = false →
    (s.tdir n d).reqs = [] →
    ((s.tdir n d).held g 72 = 0x7F ∧ (s.tdir n d).held g 73 = 0x7F) →
    Tab.rising (s.tdir n d).runs = true →
    ((if (s.tdir n d).runSeq = some q.val ∧ (s.tdir n d).failing.contains g.val = true then Tab.get (s.tdir n d).runs 0 g.val + 1 else 1) < 8) →
    RunsTo (exec (.tenonParityError n d g q fl) s) fun t =>
      (t.tdir n d).reqs = [{ kind := 0, group := g, wire := w, spare := 72, count := (s.tdir n d).count g w + 1, cause := 0 }] ∧
      (t.tdir n d).discard = some (s.tdir n d).index ∧ (t.tdir n d).retired = (s.tdir n d).retired ∧ (∀ m ∈ t.net, m ∈ s.net ∨ m.op = .msiWrite ∨ m.loc = .tenon (dirNo d == 0)) ∧ (∀ e, e ≠ d → t.tdir n e = s.tdir n e) ∧ (t.tenon n).st = (s.tenon n).st ∧ s.onlyTenon t n) ∧
  (∀ (s : State) (n : StudId) (d : TDirId) (g q : Fin 64) (fl : List (Fin 76 × Fin 8)) (w : Nat),
    (s.tenon n).st = 2 →
    (s.tdir n d).checked g = true →
    (s.tdir n d).parityWires g ((fl.map (fun x => (x.1.val, x.2.val))).eraseDups) = [(w, 1)] →
    (s.tdir n d).off g = false →
    (∀ x ∈ (s.tdir n d).switches, (s.tdir n d).index < x.at_) →
    (s.tdir n d).discard = none →
    (s.tdir n d).index % 64 = q.val →
    (s.tdir n d).count g w + 1 < s.wireThresh →
    s.wireThresh ≤ 255 →
    (s.tdir n d).gone g = false →
    (s.tdir n d).reqs = [] →
    Tab.rising (s.tdir n d).runs = true →
    ((if (s.tdir n d).runSeq = some q.val ∧ (s.tdir n d).failing.contains g.val = true then Tab.get (s.tdir n d).runs 0 g.val + 1 else 1) = 8) →
    RunsTo (exec (.tenonParityError n d g q fl) s) fun t =>
      (t.tdir n d).reqs = [{ kind := 1, group := g, cause := 1 }] ∧
      (t.tdir n d).discard = some (s.tdir n d).index ∧ (t.tdir n d).retired = (s.tdir n d).retired ∧ (∀ m ∈ t.net, m ∈ s.net ∨ m.op = .msiWrite ∨ m.loc = .tenon (dirNo d == 0)) ∧ (∀ e, e ≠ d → t.tdir n e = s.tdir n e) ∧ (t.tenon n).st = (s.tenon n).st ∧ s.onlyTenon t n) ∧
  (∀ (s : State) (n : StudId) (d : TDirId) (q g : Fin 64) (cnt : BitVec 7) (i : Nat),
    (s.tenon n).st = 2 →
    ((s.tdir n d).retry.map (·.1)).filter (fun i => i % 64 == q.val && decide ((s.tdir n d).index < i + 65)) = [i] →
    RunsTo (exec (.nak n d q g cnt) s) fun t =>
      t.tdir n d = { (s.tdir n d).unframeType 1 with index := i, discard := none, nakSeq := none } ∧ (∀ e, e ≠ d → t.tdir n e = s.tdir n e) ∧ (t.tenon n).st = (s.tenon n).st ∧ s.onlyTenon t n) ∧
  (∀ (s : State) (n : StudId) (d : TDirId) (q g : Fin 64) (cnt : BitVec 7),
    (s.tenon n).st = 2 →
    ((s.tdir n d).retry.map (·.1)).filter (fun i => i % 64 == q.val && decide ((s.tdir n d).index < i + 65)) = [] →
    RunsTo (exec (.nak n d q g cnt) s) fun t =>
      (t.tenon n).st = 4 ∧ (s.isBooted (s.frameOfStud n) = true → (t.frame (s.frameOfStud n)).halted = true) ∧
      (t.tenon n).up.reqs = [] ∧ (t.tenon n).dn.reqs = [] ∧ (∀ k, k ≠ n → t.tenon k = s.tenon k) ∧ t.mem = s.mem) ∧
  (∀ (s : State) (n : StudId) (d : TDirId) (q : Nat),
    (s.tenon n).st = 2 →
    (s.tdir n d).nakSeq = some q →
    RunsTo (exec (.nakResendTimeout n d) s) fun t =>
      t.tdir n d = ((s.tdir n d).unframeType 1).frame (nakFrame q (s.tdir n d).failing) ∧ (∀ e, e ≠ d → t.tdir n e = s.tdir n e) ∧ (t.tenon n).st = (s.tenon n).st ∧ s.onlyTenon t n) ∧
  (∀ (s : State) (n : StudId) (d : TDirId) (a b c e f : BitVec 12),
    ((s.tenon n).st = 2 ∨ (s.tenon n).st = 3) →
    RunsTo (exec (.credit n d a b c e f) s) fun t =>
      (t.tdir n d).creditOf 0 = (s.tdir n d).creditOf 0 + (a.toNat + 4096 - Tab.get (s.tdir n d).seenCr 0 0) % 4096 ∧ Tab.get (t.tdir n d).seenCr 0 0 = a.toNat ∧
      (t.tdir n d).creditOf 1 = (s.tdir n d).creditOf 1 + (b.toNat + 4096 - Tab.get (s.tdir n d).seenCr 0 1) % 4096 ∧ Tab.get (t.tdir n d).seenCr 0 1 = b.toNat ∧
      (t.tdir n d).creditOf 2 = (s.tdir n d).creditOf 2 + (c.toNat + 4096 - Tab.get (s.tdir n d).seenCr 0 2) % 4096 ∧ Tab.get (t.tdir n d).seenCr 0 2 = c.toNat ∧
      (t.tdir n d).creditOf 3 = (s.tdir n d).creditOf 3 + (e.toNat + 4096 - Tab.get (s.tdir n d).seenCr 0 3) % 4096 ∧ Tab.get (t.tdir n d).seenCr 0 3 = e.toNat ∧
      (t.tdir n d).creditOf 4 = (s.tdir n d).creditOf 4 + (f.toNat + 4096 - Tab.get (s.tdir n d).seenCr 0 4) % 4096 ∧ Tab.get (t.tdir n d).seenCr 0 4 = f.toNat ∧
      t.tdir n d = { (s.tdir n d).unframeType 2 with credit := (t.tdir n d).credit, seenCr := (t.tdir n d).seenCr } ∧ (∀ e, e ≠ d → t.tdir n e = s.tdir n e) ∧ (t.tenon n).st = (s.tenon n).st ∧ (∀ k, k ≠ n → t.tenon k = s.tenon k) ∧ t = { s with tenons := t.tenons }) ∧
  (∀ (s : State) (n : StudId) (d : TDirId) (i : Instr) (g q : Fin 64) (fl : List (Fin 76 × Fin 8)) (a b c e f : BitVec 12) (w sp cnt : BitVec 7) (cs : BitVec 5),
    ((s.tenon n).st ≠ 2 ∧ (s.tenon n).st ≠ 3) →
    i ∈ ([.tenonFlitReceived n d, .tenonParityError n d g q fl, .nak n d q g cnt, .nakResendTimeout n d, .credit n d a b c e f, .steerReq n d g w sp, .steerReqResend n d, .retireReq n d g cs, .rotationPeriod n d, .rotReq n d g, .layoutSwitch n d, .clockLockLoss n d g, .leakPeriod n d, .park n, .wake n] : List Instr) →
    exec i s = .next s)

/-- On a tenon link that is UP. STEER_REQ gives a free spare to a wire, commits the change 16 flits ahead and acknowledges it; sent again it is acknowledged with the same switch index, and one that names a retired group, a wire no spare can take or a spare that is not free changes nothing. RETIRE_REQ retires a working group the same way while the width stays 32 or more, and below that the link fails. Their acknowledgements end the request and fix the switch index; each unanswered request is sent again. A clock lock loss asks for the retirement of its group with cause 2, and while PARKED is deferred. Errors of an idle spare are counted, and a spare that reaches the threshold is marked bad; every leak period lowers each count by 1 and takes up LEAK_MS. One sideband copy out of use is recorded, and the second fails the link, and with it a booted frame. -/
def Obligations.TenonRepair : Prop :=
  (∀ (s : State) (n : StudId) (d : TDirId) (g : Fin 64) (w sp : BitVec 7),
    (s.tenon n).st = 2 →
    (s.tdir n d).committed (fun x => x.kind == 0 && x.group == g.val && x.wire == w.toNat && x.spare == sp.toNat) = none →
    (s.tdir n d).gone g = false →
    steerable w.toNat = true →
    (sp.toNat = 72 ∨ sp.toNat = 73) →
    (s.tdir n d).held g sp.toNat = 0x7F →
    RunsTo (exec (.steerReq n d g w sp) s) fun t =>
      t.tdir n d = ({ ((s.tdir n d).unframe (steerFrame g w.toNat sp.toNat none)).setHeld g sp.toNat w.toNat with switches := (s.tdir n d).switches ++ [{ group := g, wire := w.toNat, spare := sp.toNat, kind := 0, at_ := (s.tdir n d).index + 16 }] } : TenonDir).frame
          (steerFrame g w.toNat sp.toNat (some ((s.tdir n d).index + 16))) ∧
      t.plumb.mapDirty = true ∧ (∀ e, e ≠ d → t.tdir n e = s.tdir n e) ∧ (t.tenon n).st = (s.tenon n).st ∧ s.onlyTenon t n) ∧
  (∀ (s : State) (n : StudId) (d : TDirId) (g : Fin 64) (w sp : BitVec 7) (x : Switch),
    (s.tenon n).st = 2 →
    (s.tdir n d).committed (fun x => x.kind == 0 && x.group == g.val && x.wire == w.toNat && x.spare == sp.toNat) = some x →
    RunsTo (exec (.steerReq n d g w sp) s) fun t =>
      t.tdir n d = ((s.tdir n d).unframe (steerFrame g w.toNat sp.toNat none)).frame (steerFrame g w.toNat sp.toNat (some x.at_)) ∧ (∀ e, e ≠ d → t.tdir n e = s.tdir n e) ∧ (t.tenon n).st = (s.tenon n).st ∧ (∀ k, k ≠ n → t.tenon k = s.tenon k) ∧ t = { s with tenons := t.tenons }) ∧
  (∀ (s : State) (n : StudId) (d : TDirId) (g : Fin 64) (w sp : BitVec 7),
    (s.tenon n).st = 2 →
    (s.tdir n d).committed (fun x => x.kind == 0 && x.group == g.val && x.wire == w.toNat && x.spare == sp.toNat) = none →
    ((s.tdir n d).gone g = true ∨ steerable w.toNat = false ∨ (sp.toNat ≠ 72 ∧ sp.toNat ≠ 73) ∨ (s.tdir n d).held g sp.toNat ≠ 0x7F) →
    RunsTo (exec (.steerReq n d g w sp) s) fun t =>
      t.tdir n d = ((s.tdir n d).unframe (steerFrame g w.toNat sp.toNat none)) ∧ (∀ e, e ≠ d → t.tdir n e = s.tdir n e) ∧ (t.tenon n).st = (s.tenon n).st ∧ (∀ k, k ≠ n → t.tenon k = s.tenon k) ∧ t = { s with tenons := t.tenons }) ∧
  (∀ (s : State) (n : StudId) (d : TDirId) (g : Fin 64) (w sp : BitVec 7) (flit : Nat) (r : Req) (x : Switch),
    (s.tdir n d).reqs = [r] →
    (r.kind = 0 ∧ r.group = g.val ∧ r.wire = w.toNat ∧ r.spare = sp.toNat) →
    (s.tdir n d).switches = [x] →
    ((s.tdir n d).past = [] ∧ (s.tdir n d).cross = [] ∧ (s.tdir n d).back = false) →
    (x.kind = 0 ∧ x.group = g.val ∧ x.wire = w.toNat ∧ x.spare = sp.toNat) →
    RunsTo (exec (.steerAck n d g w sp flit) s) fun t =>
      t.tdir n d = { (s.tdir n d).unframe (steerFrame g w.toNat sp.toNat (some flit)) with reqs := [], switches := [{ x with at_ := flit }] } ∧ (∀ e, e ≠ d → t.tdir n e = s.tdir n e) ∧ (t.tenon n).st = (s.tenon n).st ∧ (∀ k, k ≠ n → t.tenon k = s.tenon k) ∧ t = { s with tenons := t.tenons }) ∧
  (∀ (s : State) (n : StudId) (d : TDirId) (r : Req) (f : SbFrame),
    (s.tenon n).st = 2 →
    (s.tdir n d).reqs = [r] →
    f = (if r.kind = 0 then steerFrame r.group r.wire r.spare none else if r.kind = 1 then retireFrame r.group r.cause none else rotFrame r.group none) →
    RunsTo (exec (.steerReqResend n d) s) fun t =>
      t.tdir n d = ((s.tdir n d).unframe f).frame f ∧ (∀ e, e ≠ d → t.tdir n e = s.tdir n e) ∧ (t.tenon n).st = (s.tenon n).st ∧ (∀ k, k ≠ n → t.tenon k = s.tenon k) ∧ t = { s with tenons := t.tenons }) ∧
  (∀ (s : State) (n : StudId) (d : TDirId) (g : Fin 64) (c : BitVec 5),
    (s.tenon n).st = 2 →
    (s.tdir n d).committed (fun x => x.kind == 1 && x.group == g.val) = none →
    (s.tdir n d).gone g = false →
    (33 ≤ (s.tenon n).up.width ∧ 33 ≤ (s.tenon n).dn.width) →
    RunsTo (exec (.retireReq n d g c) s) fun t =>
      t.tdir n d = ({ ((s.tdir n d).unframe (retireFrame g c.toNat none)) with retired := (s.tdir n d).retired ||| 2 ^ g.val, testing := if g.val = 63 then none else (s.tdir n d).testing, back := g.val != 63 && (s.tdir n d).back, switches := (s.tdir n d).switches ++ [{ group := g, kind := 1, cause := c.toNat, at_ := (s.tdir n d).index + 16 }] } : TenonDir).frame
          (retireFrame g c.toNat (some ((s.tdir n d).index + 16))) ∧
      t.plumb.mapDirty = true ∧ (∀ e, e ≠ d → t.tdir n e = s.tdir n e) ∧ (t.tenon n).st = (s.tenon n).st ∧ s.onlyTenon t n) ∧
  (∀ (s : State) (n : StudId) (d : TDirId) (g : Fin 64) (c : BitVec 5) (x : Switch),
    (s.tenon n).st = 2 →
    (s.tdir n d).committed (fun x => x.kind == 1 && x.group == g.val) = some x →
    RunsTo (exec (.retireReq n d g c) s) fun t =>
      t.tdir n d = ((s.tdir n d).unframe (retireFrame g c.toNat none)).frame (retireFrame g c.toNat (some x.at_)) ∧ (∀ e, e ≠ d → t.tdir n e = s.tdir n e) ∧ (t.tenon n).st = (s.tenon n).st ∧ (∀ k, k ≠ n → t.tenon k = s.tenon k) ∧ t = { s with tenons := t.tenons }) ∧
  (∀ (s : State) (n : StudId) (d : TDirId) (g : Fin 64) (c : BitVec 5),
    (s.tenon n).st = 2 →
    (s.tdir n d).committed (fun x => x.kind == 1 && x.group == g.val) = none →
    (s.tdir n d).gone g = false →
    g.val < 63 →
    (s.tdir n d).width ≤ 32 →
    RunsTo (exec (.retireReq n d g c) s) fun t =>
      (t.tenon n).st = 4 ∧ (s.isBooted (s.frameOfStud n) = true → (t.frame (s.frameOfStud n)).halted = true) ∧
      (t.tenon n).up.reqs = [] ∧ (t.tenon n).dn.reqs = [] ∧ (∀ k, k ≠ n → t.tenon k = s.tenon k) ∧ t.mem = s.mem ∧ bitOf (t.tdir n d).retired g = true) ∧
  (∀ (s : State) (n : StudId) (d : TDirId) (g : Fin 64) (flit : Nat) (r : Req) (x : Switch),
    (s.tdir n d).reqs = [r] →
    (r.kind = 1 ∧ r.group = g.val) →
    (s.tdir n d).switches = [x] →
    ((s.tdir n d).past = [] ∧ (s.tdir n d).cross = []) →
    (x.kind = 1 ∧ x.group = g.val) →
    RunsTo (exec (.retireAck n d g flit) s) fun t =>
      t.tdir n d = { (s.tdir n d).unframe (retireFrame g x.cause (some flit)) with reqs := [], switches := [{ x with at_ := flit }] } ∧ (∀ e, e ≠ d → t.tdir n e = s.tdir n e) ∧ (t.tenon n).st = (s.tenon n).st ∧ (∀ k, k ≠ n → t.tenon k = s.tenon k) ∧ t = { s with tenons := t.tenons }) ∧
  (∀ (s : State) (n : StudId) (d : TDirId) (g : Fin 64),
    (s.tenon n).st = 2 →
    (s.tdir n d).gone g = false →
    (s.tdir n d).asked 1 g = false →
    RunsTo (exec (.clockLockLoss n d g) s) fun t =>
      t.tdir n d = ({ (s.tdir n d) with reqs := (s.tdir n d).reqs ++ [{ kind := 1, group := g, cause := 2 }] } : TenonDir).frame (retireFrame g 2 none) ∧
      (∀ e, e ≠ d → t.tdir n e = s.tdir n e) ∧ (t.tenon n).st = (s.tenon n).st ∧ (∀ k, k ≠ n → t.tenon k = s.tenon k) ∧ t = { s with tenons := t.tenons }) ∧
  (∀ (s : State) (n : StudId) (d : TDirId) (g : Fin 64),
    (s.tenon n).st = 3 →
    (s.tdir n d).gone g = false →
    RunsTo (exec (.clockLockLoss n d g) s) fun t =>
      t.tdir n d = { (s.tdir n d) with deferred := (s.tdir n d).deferred ++ [{ group := g, wire := 74 }] } ∧ (∀ e, e ≠ d → t.tdir n e = s.tdir n e) ∧ (t.tenon n).st = (s.tenon n).st ∧ (∀ k, k ≠ n → t.tenon k = s.tenon k) ∧ t = { s with tenons := t.tenons }) ∧
  (∀ (s : State) (n : StudId) (d : TDirId) (g : Fin 64),
    ((s.tdir n d).gone g = true ∨ (s.tdir n d).asked 1 g = true ∧ (s.tenon n).st = 2) →
    exec (.clockLockLoss n d g) s = .next s) ∧
  (∀ (s : State) (n : StudId) (d : TDirId) (g : Fin 64) (w : BitVec 7) (k : Nat),
    (s.tenon n).st = 2 →
    (w.toNat = 72 ∨ w.toNat = 73) →
    (s.tdir n d).drives g w.toNat = 0x7F →
    (s.tdir n d).off g = false →
    (s.tdir n d).held g w.toNat ≠ 0x7E →
    (s.tdir n d).count g w.toNat + k < s.wireThresh →
    s.wireThresh ≤ 255 →
    RunsTo (exec (.sparePrbsError n d g w k) s) fun t =>
      (t.tdir n d).count g w.toNat = (s.tdir n d).count g w.toNat + k ∧
      (∀ v, v ≠ 128 * g.val + w.toNat → Tab.get (t.tdir n d).counts 0 v = Tab.get (s.tdir n d).counts 0 v) ∧
      t.tdir n d = { (s.tdir n d) with counts := (t.tdir n d).counts } ∧ (∀ e, e ≠ d → t.tdir n e = s.tdir n e) ∧ (t.tenon n).st = (s.tenon n).st ∧ (∀ k, k ≠ n → t.tenon k = s.tenon k) ∧ t = { s with tenons := t.tenons }) ∧
  (∀ (s : State) (n : StudId) (d : TDirId) (g : Fin 64) (w : BitVec 7) (k : Nat),
    (s.tenon n).st = 2 →
    (w.toNat = 72 ∨ w.toNat = 73) →
    (s.tdir n d).drives g w.toNat = 0x7F →
    (s.tdir n d).off g = false →
    (s.tdir n d).gone g = false →
    ((s.tdir n d).asked 0 g = false ∧ (s.tdir n d).asked 1 g = false) →
    (s.tdir n d).held g w.toNat = 0x7F →
    (s.tdir n d).standsFor g w.toNat = false →
    0 < k →
    s.wireThresh ≤ (s.tdir n d).count g w.toNat + k →
    s.wireThresh ≤ 255 →
    RunsTo (exec (.sparePrbsError n d g w k) s) fun t =>
      (t.tdir n d).held g w.toNat = 0x7E ∧ t.plumb.mapDirty = true ∧ (t.tdir n d).retired = (s.tdir n d).retired ∧ (t.tdir n d).reqs = (s.tdir n d).reqs ∧
      t.net = s.net ∧ t.cores = s.cores ∧ (∀ e, e ≠ d → t.tdir n e = s.tdir n e) ∧ (t.tenon n).st = (s.tenon n).st ∧ s.onlyTenon t n) ∧
  (∀ (s : State) (n : StudId) (d : TDirId),
    ((s.tenon n).st = 2 ∨ (s.tenon n).st = 3) →
    Tab.rising (s.tdir n d).counts = true →
    RunsTo (exec (.leakPeriod n d) s) fun t =>
      (∀ g w, (t.tdir n d).count g w = (s.tdir n d).count g w - 1) ∧
      t.tdir n d = { (s.tdir n d) with counts := (t.tdir n d).counts, leakLen := fld s.threshold 23 16 } ∧ (∀ e, e ≠ d → t.tdir n e = s.tdir n e) ∧ (t.tenon n).st = (s.tenon n).st ∧ (∀ k, k ≠ n → t.tenon k = s.tenon k) ∧ t = { s with tenons := t.tenons }) ∧
  (∀ (s : State) (n : StudId) (d : TDirId) (c : Fin 2),
    ((s.tenon n).st ≠ 0 ∧ (s.tenon n).st ≠ 4) →
    (s.tdir n d).copyBad = [] →
    RunsTo (exec (.sidebandCopyFailure n d c) s) fun t =>
      t.tdir n d = { (s.tdir n d) with copyBad := [c] } ∧ (∀ e, e ≠ d → t.tdir n e = s.tdir n e) ∧ (t.tenon n).st = (s.tenon n).st ∧ s.onlyTenon t n) ∧
  (∀ (s : State) (n : StudId) (d : TDirId) (c e : Fin 2),
    ((s.tenon n).st ≠ 0 ∧ (s.tenon n).st ≠ 4) →
    (s.tdir n d).copyBad = [e] →
    c ≠ e →
    RunsTo (exec (.sidebandCopyFailure n d c) s) fun t =>
      (t.tenon n).st = 4 ∧ (s.isBooted (s.frameOfStud n) = true → (t.frame (s.frameOfStud n)).halted = true) ∧
      (t.tenon n).up.reqs = [] ∧ (t.tenon n).dn.reqs = [] ∧ (∀ k, k ≠ n → t.tenon k = s.tenon k) ∧ t.mem = s.mem) ∧
  (∀ (s : State) (n : StudId) (d : TDirId) (c : Fin 2),
    ((s.tdir n d).copyBad.contains c = true ∨ (s.tenon n).st = 0 ∨ (s.tenon n).st = 4) →
    exec (.sidebandCopyFailure n d c) s = .next s)

/-- On a tenon link that is UP. The rotation period asks for the next working group in ascending order, and after the last for the first again; while PARKED it falls due for the wake. ROT_REQ of a group schedules its test, and of the group under test its return, 16 flits ahead, and sent again is acknowledged with the same index. The test's end counts the errors found and asks for the return. A layout switch takes the change with the lowest index into force: a steering moves the wire to its spare, a retirement reassigns the classes of the groups still in use, a test's start and return set and clear the group under test. PARK with the stud domain in DEEP and every core gated parks the link and keeps its repair state, and WAKE brings it UP, runs a deferred repair and delivers the messages held for the stud. -/
def Obligations.TenonRotationAndParking : Prop :=
  (∀ (s : State) (n : StudId) (d : TDirId) (g : Nat),
    (s.tenon n).st = 2 →
    (s.tdir n d).gone 63 = false →
    (s.tdir n d).testing = none →
    (s.tdir n d).reqs.any (·.kind == 2) = false →
    (s.tdir n d).switches.any (fun x => decide (2 ≤ x.kind)) = false →
    (s.tdir n d).rotGroups.find? ((s.tdir n d).rotNext ≤ ·) = some g →
    RunsTo (exec (.rotationPeriod n d) s) fun t =>
      t.tdir n d = ({ (s.tdir n d) with rotNext := g + 1, reqs := (s.tdir n d).reqs ++ [{ kind := 2, group := g }] } : TenonDir).frame (rotFrame g none) ∧ (∀ e, e ≠ d → t.tdir n e = s.tdir n e) ∧ (t.tenon n).st = (s.tenon n).st ∧ (∀ k, k ≠ n → t.tenon k = s.tenon k) ∧ t = { s with tenons := t.tenons }) ∧
  (∀ (s : State) (n : StudId) (d : TDirId) (g : Nat),
    (s.tenon n).st = 2 →
    (s.tdir n d).gone 63 = false →
    (s.tdir n d).testing = none →
    (s.tdir n d).reqs.any (·.kind == 2) = false →
    (s.tdir n d).switches.any (fun x => decide (2 ≤ x.kind)) = false →
    (s.tdir n d).rotGroups.find? ((s.tdir n d).rotNext ≤ ·) = none →
    (s.tdir n d).rotGroups.head? = some g →
    RunsTo (exec (.rotationPeriod n d) s) fun t =>
      t.tdir n d = ({ (s.tdir n d) with rotNext := g + 1, reqs := (s.tdir n d).reqs ++ [{ kind := 2, group := g }] } : TenonDir).frame (rotFrame g none) ∧ (∀ e, e ≠ d → t.tdir n e = s.tdir n e) ∧ (t.tenon n).st = (s.tenon n).st ∧ s.onlyTenon t n) ∧
  (∀ (s : State) (n : StudId) (d : TDirId),
    (s.tenon n).st = 2 →
    ((s.tdir n d).gone 63 = true ∨ (s.tdir n d).testing.isSome = true ∨ (s.tdir n d).reqs.any (·.kind == 2) = true) →
    exec (.rotationPeriod n d) s = .next s) ∧
  (∀ (s : State) (n : StudId) (d : TDirId),
    (s.tenon n).st = 3 →
    RunsTo (exec (.rotationPeriod n d) s) fun t =>
      t.tdir n d = { (s.tdir n d) with rotDue := true } ∧ (∀ e, e ≠ d → t.tdir n e = s.tdir n e) ∧ (t.tenon n).st = (s.tenon n).st ∧ (∀ k, k ≠ n → t.tenon k = s.tenon k) ∧ t = { s with tenons := t.tenons }) ∧
  (∀ (s : State) (n : StudId) (d : TDirId) (g : Fin 64),
    (s.tenon n).st = 2 →
    (s.tdir n d).committed (fun x => decide (2 ≤ x.kind) && x.group == g.val) = none →
    (s.tdir n d).gone 63 = false →
    (s.tdir n d).gone g = false →
    g.val ≠ 63 →
    (s.tdir n d).testing = none →
    RunsTo (exec (.rotReq n d g) s) fun t =>
      t.tdir n d = ({ ((s.tdir n d).unframe (rotFrame g none)) with switches := (s.tdir n d).switches ++ [{ group := g, kind := 2, at_ := (s.tdir n d).index + 16 }] } : TenonDir).frame (rotFrame g (some ((s.tdir n d).index + 16))) ∧ (∀ e, e ≠ d → t.tdir n e = s.tdir n e) ∧ (t.tenon n).st = (s.tenon n).st ∧ (∀ k, k ≠ n → t.tenon k = s.tenon k) ∧ t = { s with tenons := t.tenons }) ∧
  (∀ (s : State) (n : StudId) (d : TDirId) (g : Fin 64),
    (s.tenon n).st = 2 →
    (s.tdir n d).committed (fun x => decide (2 ≤ x.kind) && x.group == g.val) = none →
    (s.tdir n d).gone 63 = false →
    (s.tdir n d).gone g = false →
    g.val ≠ 63 →
    (s.tdir n d).testing = some g.val →
    ((s.tdir n d).asked 0 g = false ∧ (s.tdir n d).asked 1 g = false) →
    RunsTo (exec (.rotReq n d g) s) fun t =>
      t.tdir n d = ({ ((s.tdir n d).unframe (rotFrame g none)) with switches := (s.tdir n d).switches ++ [{ group := g, kind := 3, at_ := (s.tdir n d).index + 16 }] } : TenonDir).frame (rotFrame g (some ((s.tdir n d).index + 16))) ∧ (∀ e, e ≠ d → t.tdir n e = s.tdir n e) ∧ (t.tenon n).st = (s.tenon n).st ∧ (∀ k, k ≠ n → t.tenon k = s.tenon k) ∧ t = { s with tenons := t.tenons }) ∧
  (∀ (s : State) (n : StudId) (d : TDirId) (g : Fin 64) (x : Switch),
    (s.tenon n).st = 2 →
    (s.tdir n d).committed (fun x => decide (2 ≤ x.kind) && x.group == g.val) = some x →
    RunsTo (exec (.rotReq n d g) s) fun t =>
      t.tdir n d = ((s.tdir n d).unframe (rotFrame g none)).frame (rotFrame g (some x.at_)) ∧ (∀ e, e ≠ d → t.tdir n e = s.tdir n e) ∧ (t.tenon n).st = (s.tenon n).st ∧ (∀ k, k ≠ n → t.tenon k = s.tenon k) ∧ t = { s with tenons := t.tenons }) ∧
  (∀ (s : State) (n : StudId) (d : TDirId) (g : Fin 64) (flit : Nat) (r : Req) (x : Switch),
    (s.tdir n d).reqs = [r] →
    (r.kind = 2 ∧ r.group = g.val) →
    (s.tdir n d).switches = [x] →
    (s.tdir n d).past = [] →
    (2 ≤ x.kind ∧ x.group = g.val) →
    RunsTo (exec (.rotAck n d g flit) s) fun t =>
      t.tdir n d = { (s.tdir n d).unframe (rotFrame g (some flit)) with reqs := [], switches := [{ x with at_ := flit }] } ∧ (∀ e, e ≠ d → t.tdir n e = s.tdir n e) ∧ (t.tenon n).st = (s.tenon n).st ∧ (∀ k, k ≠ n → t.tenon k = s.tenon k) ∧ t = { s with tenons := t.tenons }) ∧
  (∀ (s : State) (n : StudId) (d : TDirId) (g : Nat),
    (s.tenon n).st = 2 →
    (s.tdir n d).testing = some g →
    (s.tdir n d).back = false →
    ((s.tdir n d).reqs = [] ∧ (s.tdir n d).cross = [] ∧ (s.tdir n d).switches = []) →
    RunsTo (exec (.rotationTestEnd n d []) s) fun t =>
      t.tdir n d = ({ (s.tdir n d) with back := false, reqs := [{ kind := 2, group := g }] } : TenonDir).frame (rotFrame g none) ∧ (∀ e, e ≠ d → t.tdir n e = s.tdir n e) ∧ (t.tenon n).st = (s.tenon n).st ∧ (∀ k, k ≠ n → t.tenon k = s.tenon k) ∧ t = { s with tenons := t.tenons }) ∧
  (∀ (s : State) (n : StudId) (d : TDirId) (g w k : Nat),
    (s.tenon n).st = 2 →
    (s.tdir n d).testing = some g →
    (s.tdir n d).back = false →
    ((s.tdir n d).reqs = [] ∧ (s.tdir n d).cross = [] ∧ (s.tdir n d).switches = []) →
    (w < 76 ∧ w ≠ 74) →
    (s.tdir n d).off g = false →
    (s.tdir n d).count g w + k < s.wireThresh →
    s.wireThresh ≤ 255 →
    RunsTo (exec (.rotationTestEnd n d [(w, k)]) s) fun t =>
      (t.tdir n d).count g w = (s.tdir n d).count g w + k ∧
      t.tdir n d = ({ { (s.tdir n d) with counts := (t.tdir n d).counts } with back := false, reqs := [{ kind := 2, group := g }] } : TenonDir).frame (rotFrame g none) ∧ (∀ e, e ≠ d → t.tdir n e = s.tdir n e) ∧ (t.tenon n).st = (s.tenon n).st ∧ (∀ k, k ≠ n → t.tenon k = s.tenon k) ∧ t = { s with tenons := t.tenons }) ∧
  (∀ (s : State) (n : StudId) (d : TDirId) (x : Switch),
    (s.tenon n).st = 2 →
    (s.tdir n d).switches = [x] →
    x.at_ ≤ (s.tdir n d).index →
    (s.tdir n d).asked (min x.kind 2) x.group = false →
    (32 ≤ (s.tenon n).up.width ∧ 32 ≤ (s.tenon n).dn.width) →
    x.kind = 0 →
    (x.spare = 72 ∨ x.spare = 73) →
    (s.tdir n d).drives x.group (145 - x.spare) ≠ x.wire →
    RunsTo (exec (.layoutSwitch n d) s) fun t =>
      t.tdir n d = { (s.tdir n d) with switches := [], drive := Tab.put (s.tdir n d).drive 0x7F (2 * x.group + (x.spare - 72)) x.wire } ∧ (∀ e, e ≠ d → t.tdir n e = s.tdir n e) ∧ (t.tenon n).st = (s.tenon n).st ∧ (∀ k, k ≠ n → t.tenon k = s.tenon k) ∧ t = { s with tenons := t.tenons }) ∧
  (∀ (s : State) (n : StudId) (d : TDirId) (x : Switch),
    (s.tenon n).st = 2 →
    (s.tdir n d).switches = [x] →
    x.at_ ≤ (s.tdir n d).index →
    (s.tdir n d).asked (min x.kind 2) x.group = false →
    (32 ≤ (s.tenon n).up.width ∧ 32 ≤ (s.tenon n).dn.width) →
    x.kind = 1 →
    (x.cause = 0 ∨ (s.tdir n d).discard = none) →
    ((s.tdir n d).testing = none ∧ (s.tdir n d).back = false) →
    RunsTo (exec (.layoutSwitch n d) s) fun t =>
      t.tdir n d = { (s.tdir n d) with switches := [], cls := assignClasses (maskOf ((List.range 64).filter (s.tdir n d).gone)) } ∧ (∀ e, e ≠ d → t.tdir n e = s.tdir n e) ∧ (t.tenon n).st = (s.tenon n).st ∧ (∀ k, k ≠ n → t.tenon k = s.tenon k) ∧ t = { s with tenons := t.tenons }) ∧
  (∀ (s : State) (n : StudId) (d : TDirId) (x : Switch),
    (s.tenon n).st = 2 →
    (s.tdir n d).switches = [x] →
    x.at_ ≤ (s.tdir n d).index →
    (s.tdir n d).asked (min x.kind 2) x.group = false →
    (32 ≤ (s.tenon n).up.width ∧ 32 ≤ (s.tenon n).dn.width) →
    x.kind = 2 →
    (s.tdir n d).gone 63 = false →
    (s.tdir n d).gone x.group = false →
    RunsTo (exec (.layoutSwitch n d) s) fun t =>
      t.tdir n d = { (s.tdir n d) with switches := [], testing := some x.group } ∧ (∀ e, e ≠ d → t.tdir n e = s.tdir n e) ∧ (t.tenon n).st = (s.tenon n).st ∧ (∀ k, k ≠ n → t.tenon k = s.tenon k) ∧ t = { s with tenons := t.tenons }) ∧
  (∀ (s : State) (n : StudId) (d : TDirId) (x : Switch),
    (s.tenon n).st = 2 →
    (s.tdir n d).switches = [x] →
    x.at_ ≤ (s.tdir n d).index →
    (s.tdir n d).asked (min x.kind 2) x.group = false →
    (32 ≤ (s.tenon n).up.width ∧ 32 ≤ (s.tenon n).dn.width) →
    x.kind = 3 →
    RunsTo (exec (.layoutSwitch n d) s) fun t =>
      t.tdir n d = { (s.tdir n d) with switches := [], testing := none, back := false } ∧ (∀ e, e ≠ d → t.tdir n e = s.tdir n e) ∧ (t.tenon n).st = (s.tenon n).st ∧ (∀ k, k ≠ n → t.tenon k = s.tenon k) ∧ t = { s with tenons := t.tenons }) ∧
  (∀ (s : State) (n : StudId) (d : TDirId) (x : Switch),
    (s.tenon n).st = 2 →
    (s.tdir n d).switches = [x] →
    (s.tdir n d).index < x.at_ →
    (s.tdir n d).asked (min x.kind 2) x.group = false →
    (x.kind = 0 ∧ (x.spare = 72 ∨ x.spare = 73)) →
    (32 ≤ (s.tenon n).up.width ∧ 32 ≤ (s.tenon n).dn.width) →
    (∀ e ∈ (s.tdir n d).retry, e.1 < (s.tdir n d).index) →
    s.net.filter (s.waitsAt n d) = [] →
    (s.tdir n d).outU = [] →
    (s.tdir n d).discard = none →
    RunsTo (exec (.layoutSwitch n d) s) fun t =>
      (t.tdir n d).index = x.at_ ∧ (t.tdir n d).switches = [] ∧ (t.tdir n d).drives x.group x.spare = x.wire ∧ (t.tdir n d).freed = (s.tdir n d).freed ∧
      (t.tdir n d).credit = (s.tdir n d).credit ∧ (t.tdir n d).retired = (s.tdir n d).retired ∧ (∀ e, e ≠ d → t.tdir n e = s.tdir n e) ∧ (t.tenon n).st = (s.tenon n).st ∧ (∀ k, k ≠ n → t.tenon k = s.tenon k) ∧ t = { s with tenons := t.tenons }) ∧
  (∀ (s : State) (n : StudId) (d : TDirId),
    (s.tdir n d).switches = [] →
    exec (.layoutSwitch n d) s = .next s) ∧
  (∀ (s : State) (n : StudId),
    (s.tenon n).st = 2 →
    (s.stud n).domDeep = true →
    s.allDeep n = true →
    exec (.park n) s = .next (s.setTenon n { s.tenon n with st := 3, up := (s.tenon n).up.frame (parkFrame 0), dn := (s.tenon n).dn.frame (parkFrame 0) })) ∧
  (∀ (s : State) (n : StudId),
    ((s.stud n).domDeep = false ∨ s.allDeep n = false) →
    exec (.park n) s = .next s) ∧
  (∀ (s : State) (n : StudId),
    (s.tenon n).st = 3 →
    ((s.tenon n).up.deferred = [] ∧ (s.tenon n).up.rotDue = false) →
    ((s.tenon n).dn.deferred = [] ∧ (s.tenon n).dn.rotDue = false) →
    ((s.stud n).msgHeld = [] ∧ (s.stud n).msgWait = []) →
    RunsTo (exec (.wake n) s) fun t =>
      t.tenon n = { s.tenon n with st := 2, up := ((s.tenon n).up.unframe (parkFrame 0)).frame (parkFrame 1), dn := ((s.tenon n).dn.unframe (parkFrame 0)).frame (parkFrame 1) } ∧ (∀ k, k ≠ n → t.tenon k = s.tenon k) ∧ t.stud n = s.stud n ∧ t = { s with tenons := t.tenons, studs := t.studs }) ∧
  (∀ (s : State) (n : StudId) (m : Msg),
    (s.tenon n).st = 3 →
    ((s.tenon n).up.deferred = [] ∧ (s.tenon n).up.rotDue = false) →
    ((s.tenon n).dn.deferred = [] ∧ (s.tenon n).dn.rotDue = false) →
    ((s.stud n).msgHeld = [m] ∧ (s.stud n).msgWait = []) →
    RunsTo (exec (.wake n) s) fun t =>
      t.tenon n = { s.tenon n with st := 2, up := ((s.tenon n).up.unframe (parkFrame 0)).frame (parkFrame 1), dn := ((s.tenon n).dn.unframe (parkFrame 0)).frame (parkFrame 1) } ∧ (t.stud n).msgHeld = [] ∧ t.net = s.net ++ [{ m with loc := .end_ }] ∧ (∀ k, k ≠ n → t.tenon k = s.tenon k) ∧
      (∀ k, k ≠ n.val → t.stud k = s.stud k) ∧ t = { s with tenons := t.tenons, studs := t.studs, net := t.net }) ∧
  (∀ (s : State) (n : StudId) (x : Cross),
    (s.tenon n).st = 3 →
    ((s.tenon n).up.deferred = [x] ∧ (s.tenon n).up.rotDue = false) →
    ((s.tenon n).dn.deferred = [] ∧ (s.tenon n).dn.rotDue = false) →
    (s.tenon n).up.gone x.group = false →
    (s.tenon n).up.reqs = [] →
    x.wire < 72 →
    ((s.tenon n).up.held x.group 72 = 0x7F ∧ (s.tenon n).up.held x.group 73 = 0x7F) →
    ((s.stud n).msgHeld = [] ∧ (s.stud n).msgWait = []) →
    RunsTo (exec (.wake n) s) fun t =>
      (t.tenon n).st = 2 ∧ (t.tenon n).up.deferred = [] ∧
      (t.tenon n).up.reqs = [{ kind := 0, group := x.group, wire := x.wire, spare := 72, count := x.count, cause := x.cause }] ∧
      (t.tenon n).up.retired = (s.tenon n).up.retired ∧ t = { s with tenons := t.tenons, studs := t.studs })

/-- On an active channel, for a line at home in it or in its edge store: READ_QUEUED answers a home's read from the youngest queued write of its line, and otherwise, where an entry is free, puts it last in the read queue and takes its rank out of power-down and self-refresh, from where its refresh schedule restarts; while the channel's domain is in LOW the rank stays as it is. A scrubber's read is queued alike, but not one that finds a write queued. WRITE_QUEUED performs a victim's write as it enters the write queue, wakes its rank alike, and replaces the data and mark of a write of the same line in its place. READ_DATA_RETURN takes an issued read off its queue and gives its bay the line: as stored with its mark; corrected, with the device's count one higher, where the errors lie in one device; poisoned, in memory too, and reported as deferred unless it was found before, where they lie in two. A count that reaches the threshold marks the device, if marking is enabled and no device is marked. An edge line is corrected from one bad bit and poisoned by two. WRITE_BURST_DONE stores the line with its mark and takes it off the queue. No other byte of memory changes; a command that names no such entry, line or room changes nothing. -/
def Obligations.MemoryQueues : Prop :=
  (∀ (s : State) (c : ChanId) (b : Fin 12) (line x : Nat) (k : Nat) (r : Bmr),
    (s.chan c).st = 2 →
    s.localOf b line = (c.val, x) →
    (s.home b).bmrOf line = some (k, r) →
    queueRoom ((s.chan c).rq.map (·.src)) b = true →
    (s.chan c).rq.any (fun e => e.src == b.val && e.line == line) = false →
    (s.chan c).wq.any (fun e => e.x == x) = false →
    RunsTo (exec (.readQueued c b.val line) s) fun t =>
      (t.chan c).rq = (s.chan c).rq ++ [{ src := b.val, line := line, x := x, age := (s.chan c).ageNo, rcid := (s.chargeOf b r).1, mcid := (s.chargeOf b r).2, wait_ := s.chanLow c, at_ := s.scribe.upTicks }] ∧
      (∀ r, (t.chan c).rank r = if r = (s.chan c).rankOf x ∧ (s.chan c).edge x = false ∧ s.chanLow c = false then { (s.chan c).rank r with pd := false, sr := false, postponed := if ((s.chan c).rank r).sr then 0 else ((s.chan c).rank r).postponed, pulled := if ((s.chan c).rank r).sr then 0 else ((s.chan c).rank r).pulled } else (s.chan c).rank r) ∧
      t.chan c = { s.chan c with rq := (t.chan c).rq, ranks := (t.chan c).ranks, ageNo := (s.chan c).ageNo + 1 } ∧ s.onlyChan t c ∧ t = { s with chans := t.chans }) ∧
  (∀ (s : State) (c : ChanId) (b : Fin 12) (line x : Nat) (k : Nat) (r : Bmr),
    (s.chan c).st = 2 →
    s.localOf b line = (c.val, x) →
    (s.home b).bmrOf line = some (k, r) →
    queueRoom ((s.chan c).rq.map (·.src)) b = true →
    (s.chan c).rq.any (fun e => e.src == b.val && e.line == line) = false →
    (s.chan c).wq.any (fun e => e.x == x) = false →
    s.chanLow c = true →
    RunsTo (exec (.readQueued c b.val line) s) fun t => (t.chan c).ranks = (s.chan c).ranks ∧ ((t.chan c).rq.getLast?.map (·.wait_)) = some true) ∧
  (∀ (s : State) (c : ChanId) (b : Fin 12) (line x : Nat) (k : Nat) (r : Bmr),
    (s.chan c).st = 2 →
    s.localOf b line = (c.val, x) →
    (s.home b).bmrOf line = some (k, r) →
    queueRoom ((s.chan c).rq.map (·.src)) b = true →
    (s.chan c).rq.any (fun e => e.src == b.val && e.line == line) = false →
    (s.chan c).wq.any (fun e => e.x == x) = false →
    (s.chan c).lines ≤ x →
    RunsTo (exec (.readQueued c b.val line) s) fun t => (t.chan c).ranks = (s.chan c).ranks ∧ (t.chan c).rq.getLast?.map (·.x) = some x) ∧
  (∀ (s : State) (c : ChanId) (b : Fin 12) (line x : Nat) (k : Nat) (r : Bmr) (w : WrEnt),
    (s.chan c).st = 2 →
    s.localOf b line = (c.val, x) →
    (s.home b).bmrOf line = some (k, r) →
    queueRoom ((s.chan c).rq.map (·.src)) b = true →
    (s.chan c).rq.any (fun e => e.src == b.val && e.line == line) = false →
    (s.chan c).wq.reverse.find? (fun e => e.x == x) = some w →
    exec (.readQueued c b.val line) s = .next (s.setHome b { s.home b with bmrs := Tab.set (s.home b).bmrs k { r with data := some (w.data, w.poison) } })) ∧
  (∀ (s : State) (c : ChanId) (src x : Nat),
    (s.chan c).st = 2 →
    (12 ≤ src ∧ src < 15) →
    x < (s.chan c).lines →
    queueRoom ((s.chan c).rq.map (·.src)) src = true →
    (s.chan c).wq.any (fun e => e.x == x) = false →
    (src = 12 → ((s.chan c).rank ((s.chan c).rankOf x)).sr = false) →
    RunsTo (exec (.readQueued c src x) s) fun t =>
      (t.chan c).rq = (s.chan c).rq ++ [{ src := src, x := x, age := (s.chan c).ageNo, wait_ := s.chanLow c, at_ := s.scribe.upTicks }] ∧
      (∀ r, (t.chan c).rank r = if r = (s.chan c).rankOf x ∧ (s.chan c).edge x = false ∧ s.chanLow c = false then { (s.chan c).rank r with pd := false, sr := false, postponed := if ((s.chan c).rank r).sr then 0 else ((s.chan c).rank r).postponed, pulled := if ((s.chan c).rank r).sr then 0 else ((s.chan c).rank r).pulled } else (s.chan c).rank r) ∧
      t.chan c = { s.chan c with rq := (t.chan c).rq, ranks := (t.chan c).ranks, ageNo := (s.chan c).ageNo + 1 } ∧ s.onlyChan t c ∧ t = { s with chans := t.chans }) ∧
  (∀ (s : State) (c : ChanId) (src line : Nat),
    ((s.chan c).st ≠ 2 ∨ queueRoom ((s.chan c).rq.map (·.src)) src = false ∨ 15 ≤ src ∨ (src < 12 ∧ ((s.home src).bmrOf line = none ∨ (s.localOf src line).1 ≠ c.val)) ∨ (12 ≤ src ∧ ((s.chan c).lines + 4 ≤ line ∨ (s.chan c).wq.any (fun e => e.x == line) = true))) →
    exec (.readQueued c src line) s = .next s) ∧
  (∀ (s : State) (c : ChanId) (b : BayId) (line x : Nat) (v : Victim),
    (s.chan c).st = 2 →
    s.chanLow c = false →
    (s.home b).victims.find? (fun v => v.line == line) = some v →
    s.localOf b line = (c.val, x) →
    ((s.home b).waitReq = [] ∧ (s.home b).txs = [] ∧ (s.home b).order = [] ∧ (s.home b).dirQ = [] ∧ (s.home b).work = none) →
    (s.chan c).wq.any (fun e => e.x == x) = false →
    queueRoom ((s.chan c).wq.map (fun e => homeBay s.mode (frameOfChan s.mode c) (e.line * 64))) b = true →
    RunsTo (exec (.writeQueued c b line) s) fun t =>
      (t.chan c).wq = (s.chan c).wq ++ [{ line := line, data := v.data, poison := v.poison, age := (s.chan c).ageNo, x := x, rcid := v.rcid, mcid := v.mcid, at_ := s.scribe.upTicks }] ∧
      (∀ r, (t.chan c).rank r = if r = (s.chan c).rankOf x ∧ (s.chan c).edge x = false ∧ s.chanLow c = false then { (s.chan c).rank r with pd := false, sr := false, postponed := if ((s.chan c).rank r).sr then 0 else ((s.chan c).rank r).postponed, pulled := if ((s.chan c).rank r).sr then 0 else ((s.chan c).rank r).pulled } else (s.chan c).rank r) ∧
      t.chan c = { s.chan c with wq := (t.chan c).wq, ranks := (t.chan c).ranks, ageNo := (s.chan c).ageNo + 1 } ∧
      t.home b = { s.home b with victims := (s.home b).victims.filter (fun v => v.line != line) } ∧ (∀ k, k ≠ b.val → t.home k = s.home k) ∧ s.onlyChan t c ∧ t = { s with chans := t.chans, homes := t.homes }) ∧
  (∀ (s : State) (c : ChanId) (b : BayId) (line x : Nat) (v : Victim),
    (s.chan c).st = 2 →
    s.chanLow c = false →
    (s.home b).victims.find? (fun v => v.line == line) = some v →
    s.localOf b line = (c.val, x) →
    ((s.home b).waitReq = [] ∧ (s.home b).txs = [] ∧ (s.home b).order = [] ∧ (s.home b).dirQ = [] ∧ (s.home b).work = none) →
    (s.chan c).wq.any (fun e => e.x == x) = true →
    RunsTo (exec (.writeQueued c b line) s) fun t =>
      (t.chan c).wq = (s.chan c).wq.map (fun e => if e.x = x then { e with data := v.data, poison := v.poison, rcid := v.rcid, mcid := v.mcid } else e) ∧
      t.chan c = { s.chan c with wq := (t.chan c).wq } ∧ t.home b = { s.home b with victims := (s.home b).victims.filter (fun v => v.line != line) } ∧ (∀ k, k ≠ b.val → t.home k = s.home k) ∧ s.onlyChan t c ∧ t = { s with chans := t.chans, homes := t.homes }) ∧
  (∀ (s : State) (c : ChanId) (b : BayId) (line : Nat),
    ((s.chan c).st ≠ 2 ∨ s.chanLow c = true ∨ (s.home b).victims.find? (fun v => v.line == line) = none ∨ (s.localOf b line).1 ≠ c.val) →
    exec (.writeQueued c b line) s = .next s) ∧
  (∀ (s : State) (c : ChanId) (i k : Nat) (e : RdEnt) (r : Bmr),
    (s.chan c).st = 2 →
    (s.chan c).rq[i]? = some e →
    e.issued = true →
    e.src < 12 →
    (s.home e.src).bmrOf e.line = some (k, r) →
    ((s.chan c).edge e.x = true ∨ Tab.find s.memBad (keyChan c e.x) = none) →
    exec (.readDataReturn c i .asStored) s = .next ((s.setChan c { s.chan c with rq := (s.chan c).rq.eraseIdx i }).setHome e.src
      { s.home e.src with bmrs := Tab.set (s.home e.src).bmrs k { r with data := some (s.memLine (s.queueKey c e.x)) } })) ∧
  (∀ (s : State) (c : ChanId) (i : Nat) (e : RdEnt),
    (s.chan c).st = 2 →
    (s.chan c).rq[i]? = some e →
    e.issued = true →
    12 ≤ e.src →
    ((s.chan c).edge e.x = true ∨ Tab.find s.memBad (keyChan c e.x) = none) →
    exec (.readDataReturn c i .asStored) s = .next (s.setChan c { s.chan c with rq := (s.chan c).rq.eraseIdx i })) ∧
  (∀ (s : State) (c : ChanId) (i k : Nat) (e : RdEnt) (r : Bmr) (d : Fin 10),
    (s.chan c).st = 2 →
    (s.chan c).rq[i]? = some e →
    e.issued = true →
    e.src < 12 →
    (s.home e.src).bmrOf e.line = some (k, r) →
    (s.chan c).edge e.x = false →
    Tab.find s.memBad (keyChan c e.x) = none →
    Tab.rising (s.chan c).devCnt = true →
    ((s.chan c).ecc.getLsbD 39 = false ∨ Tab.get (s.chan c).devCnt 0 ((2 * ((s.chan c).rankOf e.x) + (dramOf (s.chan c).nr e.x).sub) * 10 + d.val) + 1 < fld (s.chan c).ecc 47 40 ∨ (Tab.find (s.chan c).marks (2 * ((s.chan c).rankOf e.x) + (dramOf (s.chan c).nr e.x).sub)).isSome = true) →
    RunsTo (exec (.readDataReturn c i (.oneDevice d)) s) fun t =>
      (t.chan c).rq = (s.chan c).rq.eraseIdx i ∧ (t.chan c).wq = (s.chan c).wq ∧
      t.home e.src = { s.home e.src with bmrs := Tab.set (s.home e.src).bmrs k { r with data := some (s.memLine (s.queueKey c e.x)) } } ∧ (∀ h, h ≠ e.src → t.home h = s.home h) ∧
      (∀ k, k ≠ c.val → t.chan k = s.chan k) ∧
      (∀ j, Tab.get (t.chan c).devCnt 0 j = Tab.get (s.chan c).devCnt 0 j + (if j = ((2 * ((s.chan c).rankOf e.x) + (dramOf (s.chan c).nr e.x).sub) * 10 + d.val) then 1 else 0)) ∧
      t.chan c = { s.chan c with rq := (t.chan c).rq, devCnt := (t.chan c).devCnt } ∧ (Tab.get t.scribe.counts {} (cntKey 5 0x20 c)).n.getD 0 0 = satAdd 32 ((Tab.get s.scribe.counts {} (cntKey 5 0x20 c)).n.getD 0 0) 1 ∧ t.mem = s.mem ∧ t.memPoison = s.memPoison ∧ s.keepsNet t) ∧
  (∀ (s : State) (c : ChanId) (i k : Nat) (e : RdEnt) (r : Bmr) (d : Fin 10),
    (s.chan c).st = 2 →
    (s.chan c).rq[i]? = some e →
    e.issued = true →
    e.src < 12 →
    (s.home e.src).bmrOf e.line = some (k, r) →
    (s.chan c).edge e.x = false →
    Tab.find s.memBad (keyChan c e.x) = none →
    ((s.chan c).ecc.getLsbD 39 = true ∧ fld (s.chan c).ecc 47 40 ≤ Tab.get (s.chan c).devCnt 0 ((2 * ((s.chan c).rankOf e.x) + (dramOf (s.chan c).nr e.x).sub) * 10 + d.val) + 1) →
    Tab.find (s.chan c).marks (2 * ((s.chan c).rankOf e.x) + (dramOf (s.chan c).nr e.x).sub) = none →
    Tab.rising (s.chan c).marks = true →
    RunsTo (exec (.readDataReturn c i (.oneDevice d)) s) fun t =>
      (t.chan c).rq = (s.chan c).rq.eraseIdx i ∧ (t.chan c).wq = (s.chan c).wq ∧
      t.home e.src = { s.home e.src with bmrs := Tab.set (s.home e.src).bmrs k { r with data := some (s.memLine (s.queueKey c e.x)) } } ∧ (∀ h, h ≠ e.src → t.home h = s.home h) ∧
      (∀ k, k ≠ c.val → t.chan k = s.chan k) ∧
      (Tab.find (t.chan c).marks (2 * ((s.chan c).rankOf e.x) + (dramOf (s.chan c).nr e.x).sub)).map (fun m => (m.device, m.count, m.serial)) = some (d.val, Tab.get (s.chan c).devCnt 0 ((2 * ((s.chan c).rankOf e.x) + (dramOf (s.chan c).nr e.x).sub) * 10 + d.val) + 1, (s.chan c).serialOf ((s.chan c).rankOf e.x)) ∧
      Tab.find t.scribe.jMarks (c.val * 64 + (2 * ((s.chan c).rankOf e.x) + (dramOf (s.chan c).nr e.x).sub)) = Tab.find (t.chan c).marks (2 * ((s.chan c).rankOf e.x) + (dramOf (s.chan c).nr e.x).sub) ∧ (∀ j, j ≠ (2 * ((s.chan c).rankOf e.x) + (dramOf (s.chan c).nr e.x).sub) → Tab.find (t.chan c).marks j = Tab.find (s.chan c).marks j) ∧ t.mem = s.mem ∧ t.memPoison = s.memPoison) ∧
  (∀ (s : State) (c : ChanId) (i k : Nat) (e : RdEnt) (r : Bmr) (m : Bool),
    (s.chan c).st = 2 →
    (s.chan c).rq[i]? = some e →
    e.issued = true →
    e.src < 12 →
    (s.home e.src).bmrOf e.line = some (k, r) →
    (s.chan c).edge e.x = false →
    Tab.find s.memBad (keyChan c e.x) = none →
    s.memFound.contains (s.queueKey c e.x) = false →
    (s.chan c).wq.any (fun w => w.x == e.x) = false →
    Tab.rising (s.home e.src).bmrs = true →
    RunsTo (exec (.readDataReturn c i (.twoDevices m)) s) fun t =>
      (t.memLine (s.queueKey c e.x)).2 = true ∧ (t.chan c).rq = (s.chan c).rq.eraseIdx i ∧
      (Tab.find (t.home e.src).bmrs k).map (fun b => b.data.map (·.2)) = some (some true) ∧
      (∀ j, j < (s.queueKey c e.x) ∨ (s.queueKey c e.x) + 64 ≤ j → Mem.get t.mem j = Mem.get s.mem j) ∧ (∀ l, l ≠ (s.queueKey c e.x) → t.memPoison.contains l = s.memPoison.contains l) ∧
      t.memFound.contains (s.queueKey c e.x) = true ∧ (∀ l, l ≠ (s.queueKey c e.x) → t.memFound.contains l = s.memFound.contains l) ∧
      (∀ h, h ≠ e.src → t.home h = s.home h) ∧ (∀ k, k ≠ c.val → t.chan k = s.chan k) ∧ s.keepsNet t ∧ t.scribe.log.any (fun l => l.seq == s.scribe.logSeq && l.cls == 1 && l.src == 5 && l.code == 0x20 && l.inst == c.val && l.pa == e.line * 64) = true) ∧
  (∀ (s : State) (c : ChanId) (i k : Nat) (e : RdEnt) (r : Bmr) (m : Bool),
    (s.chan c).st = 2 →
    (s.chan c).rq[i]? = some e →
    e.issued = true →
    e.src < 12 →
    (s.home e.src).bmrOf e.line = some (k, r) →
    (s.chan c).edge e.x = false →
    Tab.find s.memBad (keyChan c e.x) = none →
    s.memFound.contains (s.queueKey c e.x) = true →
    (s.chan c).wq.any (fun w => w.x == e.x) = false →
    Tab.rising (s.home e.src).bmrs = true →
    RunsTo (exec (.readDataReturn c i (.twoDevices m)) s) fun t =>
      (t.memLine (s.queueKey c e.x)).2 = true ∧ (t.chan c).rq = (s.chan c).rq.eraseIdx i ∧
      (Tab.find (t.home e.src).bmrs k).map (fun b => b.data.map (·.2)) = some (some true) ∧
      (∀ j, j < (s.queueKey c e.x) ∨ (s.queueKey c e.x) + 64 ≤ j → Mem.get t.mem j = Mem.get s.mem j) ∧ (∀ l, l ≠ (s.queueKey c e.x) → t.memPoison.contains l = s.memPoison.contains l) ∧
      t.memFound.contains (s.queueKey c e.x) = true ∧ (∀ l, l ≠ (s.queueKey c e.x) → t.memFound.contains l = s.memFound.contains l) ∧
      (∀ h, h ≠ e.src → t.home h = s.home h) ∧ (∀ k, k ≠ c.val → t.chan k = s.chan k) ∧ s.keepsNet t ∧ t.scribe = s.scribe) ∧
  (∀ (s : State) (c : ChanId) (i k : Nat) (e : RdEnt) (r : Bmr),
    (s.chan c).st = 2 →
    (s.chan c).rq[i]? = some e →
    e.issued = true →
    e.src < 12 →
    (s.home e.src).bmrOf e.line = some (k, r) →
    (s.chan c).edge e.x = true →
    RunsTo (exec (.readDataReturn c i .edgeOne) s) fun t =>
      (t.chan c).rq = (s.chan c).rq.eraseIdx i ∧ (t.chan c).wq = (s.chan c).wq ∧
      t.home e.src = { s.home e.src with bmrs := Tab.set (s.home e.src).bmrs k { r with data := some (s.memLine (s.queueKey c e.x)) } } ∧ (∀ h, h ≠ e.src → t.home h = s.home h) ∧
      (∀ k, k ≠ c.val → t.chan k = s.chan k) ∧ (Tab.get t.scribe.counts {} (cntKey 5 0x21 c)).n.getD 0 0 = satAdd 32 ((Tab.get s.scribe.counts {} (cntKey 5 0x21 c)).n.getD 0 0) 1 ∧ t.mem = s.mem ∧ t.memPoison = s.memPoison ∧ s.keepsNet t) ∧
  (∀ (s : State) (c : ChanId) (i k : Nat) (e : RdEnt) (r : Bmr),
    (s.chan c).st = 2 →
    (s.chan c).rq[i]? = some e →
    e.issued = true →
    e.src < 12 →
    (s.home e.src).bmrOf e.line = some (k, r) →
    (s.chan c).edge e.x = true →
    s.memFound.contains (s.queueKey c e.x) = false →
    (s.chan ((s.activeChans (c.val / 4)).headD (4 * (c.val / 4)))).wq = [] →
    Tab.rising (s.home e.src).bmrs = true →
    RunsTo (exec (.readDataReturn c i .edgeTwo) s) fun t =>
      (t.memLine (s.queueKey c e.x)).2 = true ∧ (t.chan c).rq = (s.chan c).rq.eraseIdx i ∧
      (Tab.find (t.home e.src).bmrs k).map (fun b => b.data.map (·.2)) = some (some true) ∧
      (∀ j, j < (s.queueKey c e.x) ∨ (s.queueKey c e.x) + 64 ≤ j → Mem.get t.mem j = Mem.get s.mem j) ∧ (∀ l, l ≠ (s.queueKey c e.x) → t.memPoison.contains l = s.memPoison.contains l) ∧
      t.memFound.contains (s.queueKey c e.x) = true ∧ (∀ l, l ≠ (s.queueKey c e.x) → t.memFound.contains l = s.memFound.contains l) ∧
      (∀ h, h ≠ e.src → t.home h = s.home h) ∧ (∀ k, k ≠ c.val → t.chan k = s.chan k) ∧ s.keepsNet t ∧ t.scribe.log.any (fun l => l.seq == s.scribe.logSeq && l.cls == 1 && l.src == 5 && l.code == 0x21 && l.inst == c.val && l.pa == e.line * 64) = true) ∧
  (∀ (s : State) (c : ChanId) (i : Nat) (w : ReadWord),
    ((s.chan c).st ≠ 2 ∨ ((s.chan c).rq[i]?).all (fun e => !e.issued) = true) →
    exec (.readDataReturn c i w) s = .next s) ∧
  (∀ (s : State) (c : ChanId) (i : Nat) (e : WrEnt),
    (s.chan c).st = 2 →
    (s.chan c).wq[i]? = some e →
    e.issued = true →
    Tab.rising s.mem = true →
    RunsTo (exec (.writeBurstDone c i) s) fun t =>
      t.chan c = { s.chan c with wq := (s.chan c).wq.eraseIdx i } ∧ t.memLine (s.queueKey c e.x) = (e.data, e.poison) ∧
      (∀ j, j < (s.queueKey c e.x) ∨ (s.queueKey c e.x) + 64 ≤ j → Mem.get t.mem j = Mem.get s.mem j) ∧ (∀ l, l ≠ (s.queueKey c e.x) → t.memPoison.contains l = s.memPoison.contains l ∧ t.memFound.contains l = s.memFound.contains l) ∧
      (∀ k, k ≠ c.val → t.chan k = s.chan k) ∧ t = { s with chans := t.chans, mem := t.mem, memPoison := t.memPoison, memFound := t.memFound, memBad := Tab.erase s.memBad (s.queueKey c e.x) }) ∧
  (∀ (s : State) (c : ChanId) (i : Nat),
    ((s.chan c).st ≠ 2 ∨ ((s.chan c).wq[i]?).all (fun e => !e.issued) = true) →
    exec (.writeBurstDone c i) s = .next s)

/-- On an active channel: a refresh due on a busy rank uses one that was pulled in, or is postponed up to POSTPONE, and then is issued, to every bank or to one bank index of each group, closing those banks and lowering their activation counts; on an idle rank what was postponed is issued with it, and where nothing was postponed one more is pulled in, up to 4. An MR4 read above 85 °C makes the rank hot, and the third reading in a row at or below it cool. A module sensor above 85 °C makes the module's ranks hot, and no others; above 95 °C it limits the channel and posts a THERMAL notice, and once every sensor of the channel reads 90 °C or less the limit is lifted. An ACT to a closed bank opens the row, steps the generator, marks the row as selected when its low K bits are zero and counts for RFM; one to a bank whose sample is pending, or that RAAMMT bars, waits. A page closes, and a selected row is sampled with it. An idle rank enters power-down, or self-refresh where no refresh is postponed and no DRFM or RFM is due, with its banks closed; a busy one does not. A drift update is counted and changes nothing else, a count that is the model's choice (log entry 21); every device count above 0 falls by 1 at its leak. An inactive channel, a rank the channel does not have and a rank in self-refresh are left as they are. -/
def Obligations.MemoryMaintenance : Prop :=
  (∀ (s : State) (c : ChanId) (r : Fin 16),
    (s.chan c).st = 2 →
    r.val < (s.chan c).nr →
    ((s.chan c).rank r).sr = false →
    (s.chan c).busy r = true →
    0 < ((s.chan c).rank r).pulled →
    exec (.refreshDue c r) s = .next (s.setChan c ((s.chan c).setRank r { (s.chan c).rank r with pulled := ((s.chan c).rank r).pulled - 1 }))) ∧
  (∀ (s : State) (c : ChanId) (r : Fin 16),
    (s.chan c).st = 2 →
    r.val < (s.chan c).nr →
    ((s.chan c).rank r).sr = false →
    (s.chan c).busy r = true →
    ((s.chan c).rank r).pulled = 0 →
    ((s.chan c).rank r).postponed < fld (s.chan c).refresh 7 4 →
    exec (.refreshDue c r) s = .next (s.setChan c ((s.chan c).setRank r { (s.chan c).rank r with postponed := ((s.chan c).rank r).postponed + 1 }))) ∧
  (∀ (s : State) (c : ChanId) (r : Fin 16),
    (s.chan c).st = 2 →
    r.val < (s.chan c).nr →
    ((s.chan c).rank r).sr = false →
    (s.chan c).busy r = true →
    ((s.chan c).rank r).pulled = 0 →
    fld (s.chan c).refresh 7 4 ≤ ((s.chan c).rank r).postponed →
    Tab.rising (s.chan c).banks = true →
    RunsTo (exec (.refreshDue c r) s) fun t =>
      (t.chan c).rank r = { (s.chan c).rank r with refs := ((s.chan c).rank r).refs + 1 } ∧ (∀ q, q ≠ r.val → (t.chan c).rank q = (s.chan c).rank q) ∧
      (∀ k, (k / 64 = r.val ∧ ((s.chan c).refresh.getLsbD 0 = true ∨ k % 4 = ((s.chan c).rank r).refs % 4)) → (t.chan c).bank k = { ((s.chan c).bank k).close with raa := ((s.chan c).bank k).raa - (s.chan c).res.raadec }) ∧
      (∀ k, ¬(k / 64 = r.val ∧ ((s.chan c).refresh.getLsbD 0 = true ∨ k % 4 = ((s.chan c).rank r).refs % 4)) → (t.chan c).bank k = (s.chan c).bank k) ∧ t.chan c = { s.chan c with ranks := (t.chan c).ranks, banks := (t.chan c).banks } ∧ s.onlyChan t c ∧ t = { s with chans := t.chans }) ∧
  (∀ (s : State) (c : ChanId) (r : Fin 16),
    (s.chan c).st = 2 →
    r.val < (s.chan c).nr →
    ((s.chan c).rank r).sr = false →
    (s.chan c).busy r = false →
    Tab.rising (s.chan c).banks = true →
    RunsTo (exec (.refreshDue c r) s) fun t =>
      ((t.chan c).rank r).postponed = 0 ∧
      ((t.chan c).rank r).pulled = ((s.chan c).rank r).pulled + (if ((s.chan c).rank r).pulled < 4 ∧ ((s.chan c).rank r).postponed = 0 then 1 else 0) ∧
      ((t.chan c).rank r).refs = ((s.chan c).rank r).refs + 1 + ((s.chan c).rank r).postponed + (if ((s.chan c).rank r).pulled < 4 ∧ ((s.chan c).rank r).postponed = 0 then 1 else 0) ∧ (∀ q, q ≠ r.val → (t.chan c).rank q = (s.chan c).rank q) ∧
      (∀ k, k / 64 ≠ r.val → (t.chan c).bank k = (s.chan c).bank k) ∧ (∀ k, (k / 64 = r.val ∧ ((s.chan c).refresh.getLsbD 0 = true ∨ k % 4 = ((s.chan c).rank r).refs % 4)) → ((t.chan c).bank k).row = none) ∧ t.chan c = { s.chan c with ranks := (t.chan c).ranks, banks := (t.chan c).banks } ∧ s.onlyChan t c ∧ t = { s with chans := t.chans }) ∧
  (∀ (s : State) (c : ChanId) (r : Fin 16) (x : Int),
    (s.chan c).st = 2 →
    r.val < (s.chan c).nr →
    8500 < x →
    exec (.mr4Read c r x) s = .next (s.setChan c ((s.chan c).setRank r { (s.chan c).rank r with hot := true, coolRd := 0 }))) ∧
  (∀ (s : State) (c : ChanId) (r : Fin 16) (x : Int),
    (s.chan c).st = 2 →
    r.val < (s.chan c).nr →
    x ≤ 8500 →
    ((s.chan c).rank r).hot = true →
    ((s.chan c).rank r).coolRd < 2 →
    exec (.mr4Read c r x) s = .next (s.setChan c ((s.chan c).setRank r { (s.chan c).rank r with coolRd := ((s.chan c).rank r).coolRd + 1 }))) ∧
  (∀ (s : State) (c : ChanId) (r : Fin 16) (x : Int),
    (s.chan c).st = 2 →
    r.val < (s.chan c).nr →
    x ≤ 8500 →
    ((s.chan c).rank r).hot = true →
    2 ≤ ((s.chan c).rank r).coolRd →
    exec (.mr4Read c r x) s = .next (s.setChan c ((s.chan c).setRank r { (s.chan c).rank r with hot := false, coolRd := 0 }))) ∧
  (∀ (s : State) (c : ChanId) (r : Fin 16) (x : Int),
    x ≤ 8500 →
    ((s.chan c).rank r).hot = false →
    exec (.mr4Read c r x) s = .next s) ∧
  (∀ (s : State) (c : ChanId) (d : Fin 2) (l : List Int) (x : Int),
    (s.chan c).st = 2 →
    d.val < (s.chan c).res.dpc →
    x ∈ l →
    (∀ y ∈ l, y ≤ x) →
    Tab.rising (s.chan c).modTemps = true →
    ((s.chan c).limited = false → x ≤ 9500 ∧ (∀ e ∈ (s.chan c).modTemps, e.1 ≠ d.val → ∀ y ∈ e.2, y ≤ 9500)) →
    ((s.chan c).limited = true → 9000 < x) →
    RunsTo (exec (.moduleSensorRead c d l) s) fun t =>
      (∀ r, (t.chan c).rank r = if 8500 < x ∧ r < (s.chan c).nr ∧ (s.chan c).dimmOf r = d.val then { (s.chan c).rank r with hot := true, coolRd := 0 } else (s.chan c).rank r) ∧
      (t.chan c).modTemps = Tab.set (s.chan c).modTemps d l ∧ (t.chan c).limited = (s.chan c).limited ∧ t.chan c = { s.chan c with ranks := (t.chan c).ranks, modTemps := (t.chan c).modTemps, limited := (t.chan c).limited } ∧ (∀ k, k ≠ c.val → t.chan k = s.chan k) ∧ t.homes = s.homes ∧ t.mem = s.mem ∧ t = { s with chans := t.chans }) ∧
  (∀ (s : State) (c : ChanId) (d : Fin 2) (l : List Int) (x : Int),
    (s.chan c).st = 2 →
    d.val < (s.chan c).res.dpc →
    x ∈ l →
    (∀ y ∈ l, y ≤ x) →
    Tab.rising (s.chan c).modTemps = true →
    9500 < x →
    (s.chan c).limited = false →
    (∀ e ∈ (s.chan c).modTemps, e.1 ≠ d.val → ∀ y ∈ e.2, y ≤ x) →
    RunsTo (exec (.moduleSensorRead c d l) s) fun t =>
      (t.chan c).limited = true ∧ (∀ r, (t.chan c).rank r = if 8500 < x ∧ r < (s.chan c).nr ∧ (s.chan c).dimmOf r = d.val then { (s.chan c).rank r with hot := true, coolRd := 0 } else (s.chan c).rank r) ∧
      (t.chan c).modTemps = Tab.set (s.chan c).modTemps d l ∧ t.chan c = { s.chan c with ranks := (t.chan c).ranks, modTemps := (t.chan c).modTemps, limited := (t.chan c).limited } ∧ (∀ k, k ≠ c.val → t.chan k = s.chan k) ∧ t.homes = s.homes ∧ t.mem = s.mem ∧
      (s.isBooted (frameOfChan s.mode c) = true → frameOfChan s.mode c < frameCount s.mode → (s.frame (frameOfChan s.mode c)).nq.stalled = [] →
        (s.frame (frameOfChan s.mode c)).nq.held.length < 252 →
        (t.frame (frameOfChan s.mode c)).nq.held.getLast?.map (·.2) = some (thermalNotice 2 c 3 x 0))) ∧
  (∀ (s : State) (c : ChanId) (d : Fin 2) (l : List Int) (x : Int),
    (s.chan c).st = 2 →
    d.val < (s.chan c).res.dpc →
    x ∈ l →
    (∀ y ∈ l, y ≤ x) →
    Tab.rising (s.chan c).modTemps = true →
    x ≤ 9000 →
    (∀ e ∈ (s.chan c).modTemps, e.1 ≠ d.val → ∀ y ∈ e.2, y ≤ x) →
    (s.chan c).limited = true →
    RunsTo (exec (.moduleSensorRead c d l) s) fun t => (t.chan c).limited = false ∧ (∀ r, (t.chan c).rank r = if 8500 < x ∧ r < (s.chan c).nr ∧ (s.chan c).dimmOf r = d.val then { (s.chan c).rank r with hot := true, coolRd := 0 } else (s.chan c).rank r) ∧
      (t.chan c).modTemps = Tab.set (s.chan c).modTemps d l ∧ t.chan c = { s.chan c with ranks := (t.chan c).ranks, modTemps := (t.chan c).modTemps, limited := (t.chan c).limited } ∧ (∀ k, k ≠ c.val → t.chan k = s.chan k) ∧ t.homes = s.homes ∧ t.mem = s.mem ∧
      (s.isBooted (frameOfChan s.mode c) = true → frameOfChan s.mode c < frameCount s.mode → (s.frame (frameOfChan s.mode c)).nq.stalled = [] →
        (s.frame (frameOfChan s.mode c)).nq.held.length < 252 →
        (t.frame (frameOfChan s.mode c)).nq.held.getLast?.map (·.2) = some (thermalNotice 2 c 4 x 0))) ∧
  (∀ (s : State) (c : ChanId) (r : Fin 16) (b : Fin 64) (row : Nat),
    (s.chan c).st = 2 →
    r.val < (s.chan c).nr →
    ((s.chan c).rank r).sr = false →
    ((s.chan c).bank (r.val * 64 + b.val)).row = none →
    ((s.chan c).bank (r.val * 64 + b.val)).sample = none →
    ((s.chan c).rfm = true → (s.chan c).res.raammt = 0 ∨ ((s.chan c).bank (r.val * 64 + b.val)).raa < (s.chan c).res.raammt) →
    RunsTo (exec (.actSelection c r b row) s) fun t =>
      (t.chan c).gen = genStep (s.chan c).gen ∧
      (t.chan c).bank (r.val * 64 + b.val) = { row := some row, sel := fld (genStep (s.chan c).gen) (fld (s.chan c).rh 4 0 - 1) 0 == 0, sample := none, raa := ((s.chan c).bank (r.val * 64 + b.val)).raa + (if (s.chan c).rfm then 1 else 0) } ∧
      (∀ k, k ≠ (r.val * 64 + b.val) → (t.chan c).bank k = (s.chan c).bank k) ∧ t.chan c = { s.chan c with gen := (t.chan c).gen, banks := (t.chan c).banks } ∧ s.onlyChan t c ∧ t = { s with chans := t.chans }) ∧
  (∀ (s : State) (c : ChanId) (r : Fin 16) (b : Fin 64) (row : Nat),
    (((s.chan c).bank (r.val * 64 + b.val)).row.isSome = true ∨ ((s.chan c).bank (r.val * 64 + b.val)).sample.isSome = true ∨ ((s.chan c).rfm = true ∧ 0 < (s.chan c).res.raammt ∧ (s.chan c).res.raammt ≤ ((s.chan c).bank (r.val * 64 + b.val)).raa)) →
    exec (.actSelection c r b row) s = .next s) ∧
  (∀ (s : State) (c : ChanId) (r : Fin 16) (b : Fin 64),
    (s.chan c).st = 2 →
    RunsTo (exec (.pageIdleClose c r b) s) fun t =>
      (t.chan c).bank (r.val * 64 + b.val) = { row := none, sel := false, sample := if ((s.chan c).bank (r.val * 64 + b.val)).sel then ((s.chan c).bank (r.val * 64 + b.val)).row else ((s.chan c).bank (r.val * 64 + b.val)).sample, raa := ((s.chan c).bank (r.val * 64 + b.val)).raa } ∧
      (∀ k, k ≠ (r.val * 64 + b.val) → (t.chan c).bank k = (s.chan c).bank k) ∧ t.chan c = { s.chan c with banks := (t.chan c).banks } ∧ s.onlyChan t c ∧ t = { s with chans := t.chans }) ∧
  (∀ (s : State) (c : ChanId) (r : Fin 16),
    (s.chan c).st = 2 →
    r.val < (s.chan c).nr →
    ((s.chan c).rank r).sr = false →
    (s.chan c).busy r = false →
    fld (s.chan c).pwr 5 0 ≠ 0 →
    Tab.rising (s.chan c).banks = true →
    RunsTo (exec (.powerDownEntry c r) s) fun t =>
      (t.chan c).rank r = { (s.chan c).rank r with pd := true } ∧ (∀ k, (t.chan c).bank k = if k / 64 = r.val then ((s.chan c).bank k).close else (s.chan c).bank k) ∧ (∀ q, q ≠ r.val → (t.chan c).rank q = (s.chan c).rank q) ∧ t.chan c = { s.chan c with ranks := (t.chan c).ranks, banks := (t.chan c).banks } ∧ s.onlyChan t c ∧ t = { s with chans := t.chans }) ∧
  (∀ (s : State) (c : ChanId) (r : Fin 16),
    ((s.chan c).busy r = true ∨ fld (s.chan c).pwr 5 0 = 0) →
    exec (.powerDownEntry c r) s = .next s) ∧
  (∀ (s : State) (c : ChanId) (r : Fin 16),
    (s.chan c).st = 2 →
    r.val < (s.chan c).nr →
    ((s.chan c).rank r).sr = false →
    (s.chan c).busy r = false →
    fld (s.chan c).pwr 15 6 ≠ 0 →
    ((s.chan c).rank r).postponed = 0 →
    (s.chan c).banks.any (fun e => decide (e.1 / 64 = r.val) && (e.2.close.sample.isSome || ((s.chan c).rfm && decide ((s.chan c).res.raaimt ≤ e.2.raa)))) = false →
    Tab.rising (s.chan c).banks = true →
    RunsTo (exec (.selfRefreshEntry c r) s) fun t =>
      (t.chan c).rank r = { (s.chan c).rank r with sr := true, pd := false } ∧ (∀ k, (t.chan c).bank k = if k / 64 = r.val then ((s.chan c).bank k).close else (s.chan c).bank k) ∧ (∀ q, q ≠ r.val → (t.chan c).rank q = (s.chan c).rank q) ∧ t.chan c = { s.chan c with ranks := (t.chan c).ranks, banks := (t.chan c).banks } ∧ s.onlyChan t c ∧ t = { s with chans := t.chans }) ∧
  (∀ (s : State) (c : ChanId) (r : Fin 16),
    ((s.chan c).busy r = true ∨ fld (s.chan c).pwr 15 6 = 0 ∨ 0 < ((s.chan c).rank r).postponed ∨ (s.chan c).banks.any (fun e => decide (e.1 / 64 = r.val) && (e.2.close.sample.isSome || ((s.chan c).rfm && decide ((s.chan c).res.raaimt ≤ e.2.raa)))) = true) →
    exec (.selfRefreshEntry c r) s = .next s) ∧
  (∀ (s : State) (c : ChanId) (r : Fin 16) (i : Instr) (b : Fin 64) (row : Nat) (x : Int),
    ((s.chan c).st ≠ 2 ∨ (s.chan c).nr ≤ r.val) →
    i ∈ ([.refreshDue c r, .mr4Read c r x, .actSelection c r b row, .powerDownEntry c r, .selfRefreshEntry c r] : List Instr) →
    exec i s = .next s) ∧
  (∀ (s : State) (c : ChanId) (r : Fin 16) (i : Instr) (b : Fin 64) (row : Nat),
    ((s.chan c).rank r).sr = true →
    i ∈ ([.refreshDue c r, .actSelection c r b row, .powerDownEntry c r, .selfRefreshEntry c r] : List Instr) →
    exec i s = .next s) ∧
  (∀ (s : State) (c : ChanId) (r : Fin 16) (i : Instr) (b : Fin 64) (d : Fin 2) (l : List Int),
    (s.chan c).st ≠ 2 →
    i ∈ ([.pageIdleClose c r b, .moduleSensorRead c d l, .driftTrack c] : List Instr) →
    exec i s = .next s) ∧
  (∀ (s : State) (c : ChanId),
    (s.chan c).st = 2 →
    exec (.driftTrack c) s = .next (s.setChan c { s.chan c with drift := (s.chan c).drift + 1 })) ∧
  (∀ (s : State) (c : ChanId),
    Tab.rising (s.chan c).devCnt = true →
    RunsTo (exec (.deviceCountLeak c) s) fun t =>
      (∀ d, Tab.get (t.chan c).devCnt 0 d = Tab.get (s.chan c).devCnt 0 d - 1) ∧ t.chan c = { s.chan c with devCnt := (t.chan c).devCnt } ∧ s.onlyChan t c ∧ t = { s with chans := t.chans })

/-- On an active channel whose domain is not in LOW, a command slot with no DRFM or RFM due chooses from the ready reads of its subchannel, none being aged: an issued column command charges its RCID and MCID 64 bytes and leaves the row open, or with PAGE_IDLE = 0 closes it after its last queued hit; a closed bank is opened, and a bank whose open row no queued request hits is closed. Of two ready reads the one to an open row goes first, then the older, and an aged one before both; a write goes while no read is ready, or in drain. A DRFMsb that is due, and an RFMsb, go before requests; an RCID of weight 0 takes nothing beyond its share; a channel limited by heat uses every second slot, and one limited by a power failure one in four. The patrol reads and steps on, decoding the line, skips a line with a write queued, leaves one of a rank in self-refresh until the rank is awake, ends its pass at the last line of the channel and its edge store once none is left, and pauses where it is disabled, before clearing has finished or during a range scrub. CLEAR_REGION writes zero, clean lines to its region once and brings the region's ranks out of self-refresh; CLEAR_DONE ends the pass once every region is clear. A bandwidth window starts budgets anew. A bay patrol step goes to the next set and meets the errors it finds: one of a bench line that cannot be corrected poisons it, and a caching line is corrected, dropped where it is clean, or poisoned where it is dirty. The first training of a frame makes the channels that match the reference active at their common grade, as many in each quadrant, excludes the others, computes S and the top, and starts the clearing of their memory, the edge stores with it; with a quadrant left without a channel the frame is not booted. After a reset that kept DRAM the channels are active again with their contents. -/
def Obligations.MemorySchedulingClearingAndPatrol : Prop :=
  (∀ (s : State) (c : ChanId) (sub : Fin 2) (e : RdEnt),
    (s.chan c).st = 2 →
    s.chanLow c = false →
    ((s.chan c).quarter = false ∧ (s.chan c).limited = false) →
    (s.chan c).due sub = none →
    (s.chan c).rq = [e] →
    ((s.chan c).wq = [] ∧ fld (s.chan c).sched 31 24 ≠ 0) →
    (e.issued = false ∧ e.wait_ = false ∧ e.src < 12) →
    e.x % 2 = sub.val →
    ((s.chan c).edge e.x = false ∧ (s.chan c).isClear e.x = true) →
    ((s.chan c).rank ((s.chan c).rankOf e.x)).sr = false →
    s.scribe.upTicks ≤ e.at_ + 10 * fld (s.chan c).sched 7 0 →
    Tab.get (s.bw (c.val / 4)).weightOn 255 e.rcid ≠ 0 →
    ((s.chan c).bank ((s.chan c).bankKey e.x)).row = some (dramOf (s.chan c).nr e.x).row →
    fld (s.chan c).sched 15 8 ≠ 0 →
    RunsTo (exec (.commandSlot c sub) s) fun t =>
      t.chan c = { s.chan c with rq := [{ e with issued := true }], slotNo := (s.chan c).slotNo + 1, drain := (t.chan c).drain, ranks := (t.chan c).ranks } ∧ (∀ r, (t.chan c).rank r = (s.chan c).rank r ∨ (t.chan c).rank r = { (s.chan c).rank r with pd := false }) ∧ Tab.get (t.bw (c.val / 4)).rd 0 e.mcid = Tab.get (s.bw (c.val / 4)).rd 0 e.mcid + 64 ∧
      Tab.get (t.bw (c.val / 4)).used 0 e.rcid = Tab.get (s.bw (c.val / 4)).used 0 e.rcid + 64 ∧
      (∀ q, q ≠ c.val / 4 → t.bw q = s.bw q) ∧ s.onlyChan t c ∧ t = { s with chans := t.chans, qos := t.qos }) ∧
  (∀ (s : State) (c : ChanId) (sub : Fin 2) (e : RdEnt),
    (s.chan c).st = 2 →
    s.chanLow c = false →
    ((s.chan c).quarter = false ∧ (s.chan c).limited = false) →
    (s.chan c).due sub = none →
    (s.chan c).rq = [e] →
    ((s.chan c).wq = [] ∧ fld (s.chan c).sched 31 24 ≠ 0) →
    (e.issued = false ∧ e.wait_ = false ∧ e.src < 12) →
    e.x % 2 = sub.val →
    ((s.chan c).edge e.x = false ∧ (s.chan c).isClear e.x = true) →
    ((s.chan c).rank ((s.chan c).rankOf e.x)).sr = false →
    s.scribe.upTicks ≤ e.at_ + 10 * fld (s.chan c).sched 7 0 →
    Tab.get (s.bw (c.val / 4)).weightOn 255 e.rcid ≠ 0 →
    ((s.chan c).bank ((s.chan c).bankKey e.x)).row = some (dramOf (s.chan c).nr e.x).row →
    fld (s.chan c).sched 15 8 = 0 →
    RunsTo (exec (.commandSlot c sub) s) fun t =>
      t.chan c = { s.chan c with rq := [{ e with issued := true }], banks := (t.chan c).banks, slotNo := (s.chan c).slotNo + 1, drain := (t.chan c).drain, ranks := (t.chan c).ranks } ∧
      (t.chan c).bank ((s.chan c).bankKey e.x) = ((s.chan c).bank ((s.chan c).bankKey e.x)).close ∧ (∀ k, k ≠ (s.chan c).bankKey e.x → (t.chan c).bank k = (s.chan c).bank k) ∧ Tab.get (t.bw (c.val / 4)).rd 0 e.mcid = Tab.get (s.bw (c.val / 4)).rd 0 e.mcid + 64 ∧
      Tab.get (t.bw (c.val / 4)).used 0 e.rcid = Tab.get (s.bw (c.val / 4)).used 0 e.rcid + 64 ∧
      (∀ q, q ≠ c.val / 4 → t.bw q = s.bw q) ∧ s.onlyChan t c ∧ t = { s with chans := t.chans, qos := t.qos }) ∧
  (∀ (s : State) (c : ChanId) (sub : Fin 2) (e : RdEnt),
    (s.chan c).st = 2 →
    s.chanLow c = false →
    ((s.chan c).quarter = false ∧ (s.chan c).limited = false) →
    (s.chan c).due sub = none →
    (s.chan c).rq = [e] →
    ((s.chan c).wq = [] ∧ fld (s.chan c).sched 31 24 ≠ 0) →
    (e.issued = false ∧ e.wait_ = false ∧ e.src < 12) →
    e.x % 2 = sub.val →
    (s.chan c).edge e.x = true →
    s.scribe.upTicks ≤ e.at_ + 10 * fld (s.chan c).sched 7 0 →
    Tab.get (s.bw (c.val / 4)).weightOn 255 e.rcid ≠ 0 →
    RunsTo (exec (.commandSlot c sub) s) fun t =>
      t.chan c = { s.chan c with rq := [{ e with issued := true }], slotNo := (s.chan c).slotNo + 1, drain := (t.chan c).drain } ∧ Tab.get (t.bw (c.val / 4)).rd 0 e.mcid = Tab.get (s.bw (c.val / 4)).rd 0 e.mcid + 64 ∧
      Tab.get (t.bw (c.val / 4)).used 0 e.rcid = Tab.get (s.bw (c.val / 4)).used 0 e.rcid + 64 ∧
      (∀ q, q ≠ c.val / 4 → t.bw q = s.bw q) ∧ s.onlyChan t c ∧ t = { s with chans := t.chans, qos := t.qos }) ∧
  (∀ (s : State) (c : ChanId) (sub : Fin 2) (e : RdEnt),
    (s.chan c).st = 2 →
    s.chanLow c = false →
    ((s.chan c).quarter = false ∧ (s.chan c).limited = false) →
    (s.chan c).due sub = none →
    (s.chan c).rq = [e] →
    ((s.chan c).wq = [] ∧ fld (s.chan c).sched 31 24 ≠ 0) →
    (e.issued = false ∧ e.wait_ = false ∧ e.src < 12) →
    e.x % 2 = sub.val →
    ((s.chan c).edge e.x = false ∧ (s.chan c).isClear e.x = true) →
    ((s.chan c).rank ((s.chan c).rankOf e.x)).sr = false →
    s.scribe.upTicks ≤ e.at_ + 10 * fld (s.chan c).sched 7 0 →
    Tab.get (s.bw (c.val / 4)).weightOn 255 e.rcid ≠ 0 →
    ((s.chan c).bank ((s.chan c).bankKey e.x)).row = none →
    (s.chan c).barred ((s.chan c).bank ((s.chan c).bankKey e.x)) = false →
    RunsTo (exec (.commandSlot c sub) s) fun t =>
      t.chan c = { s.chan c with gen := genStep (s.chan c).gen, banks := (t.chan c).banks, slotNo := (s.chan c).slotNo + 1, drain := (t.chan c).drain, ranks := (t.chan c).ranks } ∧ (∀ r, (t.chan c).rank r = (s.chan c).rank r ∨ (t.chan c).rank r = { (s.chan c).rank r with pd := false }) ∧
      ((t.chan c).bank ((s.chan c).bankKey e.x)).row = some (dramOf (s.chan c).nr e.x).row ∧ (∀ k, k ≠ (s.chan c).bankKey e.x → (t.chan c).bank k = (s.chan c).bank k) ∧ s.onlyChan t c ∧ t = { s with chans := t.chans }) ∧
  (∀ (s : State) (c : ChanId) (sub : Fin 2) (e : RdEnt) (row : Nat),
    (s.chan c).st = 2 →
    s.chanLow c = false →
    ((s.chan c).quarter = false ∧ (s.chan c).limited = false) →
    (s.chan c).due sub = none →
    (s.chan c).rq = [e] →
    ((s.chan c).wq = [] ∧ fld (s.chan c).sched 31 24 ≠ 0) →
    (e.issued = false ∧ e.wait_ = false ∧ e.src < 12) →
    e.x % 2 = sub.val →
    ((s.chan c).edge e.x = false ∧ (s.chan c).isClear e.x = true) →
    ((s.chan c).rank ((s.chan c).rankOf e.x)).sr = false →
    s.scribe.upTicks ≤ e.at_ + 10 * fld (s.chan c).sched 7 0 →
    Tab.get (s.bw (c.val / 4)).weightOn 255 e.rcid ≠ 0 →
    ((s.chan c).bank ((s.chan c).bankKey e.x)).row = some row →
    row ≠ (dramOf (s.chan c).nr e.x).row →
    RunsTo (exec (.commandSlot c sub) s) fun t =>
      t.chan c = { s.chan c with banks := (t.chan c).banks, slotNo := (s.chan c).slotNo + 1, drain := (t.chan c).drain, ranks := (t.chan c).ranks } ∧ (∀ r, (t.chan c).rank r = (s.chan c).rank r ∨ (t.chan c).rank r = { (s.chan c).rank r with pd := false }) ∧
      (t.chan c).bank ((s.chan c).bankKey e.x) = ((s.chan c).bank ((s.chan c).bankKey e.x)).close ∧ (∀ k, k ≠ (s.chan c).bankKey e.x → (t.chan c).bank k = (s.chan c).bank k) ∧ s.onlyChan t c ∧ t = { s with chans := t.chans }) ∧
  (∀ (s : State) (c : ChanId) (sub : Fin 2) (d e : RdEnt),
    (s.chan c).st = 2 →
    s.chanLow c = false →
    ((s.chan c).quarter = false ∧ (s.chan c).limited = false) →
    (s.chan c).due sub = none →
    (s.chan c).rq = [d, e] →
    ((s.chan c).wq = [] ∧ fld (s.chan c).sched 31 24 ≠ 0) →
    fld (s.chan c).sched 15 8 ≠ 0 →
    d.x ≠ e.x →
    (d.issued = false ∧ d.wait_ = false ∧ d.src < 12) →
    d.x % 2 = sub.val →
    ((s.chan c).edge d.x = false ∧ (s.chan c).isClear d.x = true) →
    ((s.chan c).rank ((s.chan c).rankOf d.x)).sr = false →
    s.scribe.upTicks ≤ d.at_ + 10 * fld (s.chan c).sched 7 0 →
    Tab.get (s.bw (c.val / 4)).weightOn 255 d.rcid ≠ 0 →
    (e.issued = false ∧ e.wait_ = false ∧ e.src < 12) →
    e.x % 2 = sub.val →
    ((s.chan c).edge e.x = false ∧ (s.chan c).isClear e.x = true) →
    ((s.chan c).rank ((s.chan c).rankOf e.x)).sr = false →
    s.scribe.upTicks ≤ e.at_ + 10 * fld (s.chan c).sched 7 0 →
    Tab.get (s.bw (c.val / 4)).weightOn 255 e.rcid ≠ 0 →
    (Tab.get (s.bw (c.val / 4)).share 0 d.rcid = 0 ∧ Tab.get (s.bw (c.val / 4)).used 0 d.rcid = 0) →
    (Tab.get (s.bw (c.val / 4)).share 0 e.rcid = 0 ∧ Tab.get (s.bw (c.val / 4)).used 0 e.rcid = 0) →
    ((s.chan c).bank ((s.chan c).bankKey d.x)).row ≠ some (dramOf (s.chan c).nr d.x).row →
    ((s.chan c).bank ((s.chan c).bankKey e.x)).row = some (dramOf (s.chan c).nr e.x).row →
    d.age < e.age →
    RunsTo (exec (.commandSlot c sub) s) fun t => (t.chan c).rq = [d, { e with issued := true }] ∧ Tab.get (t.bw (c.val / 4)).rd 0 e.mcid = Tab.get (s.bw (c.val / 4)).rd 0 e.mcid + 64 ∧
      Tab.get (t.bw (c.val / 4)).used 0 e.rcid = Tab.get (s.bw (c.val / 4)).used 0 e.rcid + 64 ∧
      (∀ q, q ≠ c.val / 4 → t.bw q = s.bw q) ∧ s.onlyChan t c ∧ t = { s with chans := t.chans, qos := t.qos }) ∧
  (∀ (s : State) (c : ChanId) (sub : Fin 2) (d e : RdEnt),
    (s.chan c).st = 2 →
    s.chanLow c = false →
    ((s.chan c).quarter = false ∧ (s.chan c).limited = false) →
    (s.chan c).due sub = none →
    (s.chan c).rq = [d, e] →
    ((s.chan c).wq = [] ∧ fld (s.chan c).sched 31 24 ≠ 0) →
    fld (s.chan c).sched 15 8 ≠ 0 →
    d.x ≠ e.x →
    (d.issued = false ∧ d.wait_ = false ∧ d.src < 12) →
    d.x % 2 = sub.val →
    ((s.chan c).edge d.x = false ∧ (s.chan c).isClear d.x = true) →
    ((s.chan c).rank ((s.chan c).rankOf d.x)).sr = false →
    s.scribe.upTicks ≤ d.at_ + 10 * fld (s.chan c).sched 7 0 →
    Tab.get (s.bw (c.val / 4)).weightOn 255 d.rcid ≠ 0 →
    (e.issued = false ∧ e.wait_ = false ∧ e.src < 12) →
    e.x % 2 = sub.val →
    ((s.chan c).edge e.x = false ∧ (s.chan c).isClear e.x = true) →
    ((s.chan c).rank ((s.chan c).rankOf e.x)).sr = false →
    s.scribe.upTicks ≤ e.at_ + 10 * fld (s.chan c).sched 7 0 →
    Tab.get (s.bw (c.val / 4)).weightOn 255 e.rcid ≠ 0 →
    (Tab.get (s.bw (c.val / 4)).share 0 d.rcid = 0 ∧ Tab.get (s.bw (c.val / 4)).used 0 d.rcid = 0) →
    (Tab.get (s.bw (c.val / 4)).share 0 e.rcid = 0 ∧ Tab.get (s.bw (c.val / 4)).used 0 e.rcid = 0) →
    ((s.chan c).bank ((s.chan c).bankKey d.x)).row = some (dramOf (s.chan c).nr d.x).row →
    ((s.chan c).bank ((s.chan c).bankKey e.x)).row = some (dramOf (s.chan c).nr e.x).row →
    d.age < e.age →
    RunsTo (exec (.commandSlot c sub) s) fun t => (t.chan c).rq = [{ d with issued := true }, e] ∧ Tab.get (t.bw (c.val / 4)).rd 0 d.mcid = Tab.get (s.bw (c.val / 4)).rd 0 d.mcid + 64 ∧
      Tab.get (t.bw (c.val / 4)).used 0 d.rcid = Tab.get (s.bw (c.val / 4)).used 0 d.rcid + 64 ∧
      (∀ q, q ≠ c.val / 4 → t.bw q = s.bw q) ∧ s.onlyChan t c ∧ t = { s with chans := t.chans, qos := t.qos }) ∧
  (∀ (s : State) (c : ChanId) (sub : Fin 2) (d e : RdEnt),
    (s.chan c).st = 2 →
    s.chanLow c = false →
    ((s.chan c).quarter = false ∧ (s.chan c).limited = false) →
    (s.chan c).due sub = none →
    (s.chan c).rq = [d, e] →
    ((s.chan c).wq = [] ∧ fld (s.chan c).sched 31 24 ≠ 0) →
    fld (s.chan c).sched 15 8 ≠ 0 →
    d.x ≠ e.x →
    (d.issued = false ∧ d.wait_ = false ∧ d.src < 12) →
    d.x % 2 = sub.val →
    ((s.chan c).edge d.x = false ∧ (s.chan c).isClear d.x = true) →
    ((s.chan c).rank ((s.chan c).rankOf d.x)).sr = false →
    Tab.get (s.bw (c.val / 4)).weightOn 255 d.rcid ≠ 0 →
    d.at_ + 10 * fld (s.chan c).sched 7 0 < s.scribe.upTicks →
    d.age < e.age →
    (e.issued = false ∧ e.wait_ = false ∧ e.src < 12) →
    e.x % 2 = sub.val →
    ((s.chan c).edge e.x = false ∧ (s.chan c).isClear e.x = true) →
    ((s.chan c).rank ((s.chan c).rankOf e.x)).sr = false →
    s.scribe.upTicks ≤ e.at_ + 10 * fld (s.chan c).sched 7 0 →
    Tab.get (s.bw (c.val / 4)).weightOn 255 e.rcid ≠ 0 →
    (Tab.get (s.bw (c.val / 4)).share 0 d.rcid = 0 ∧ Tab.get (s.bw (c.val / 4)).used 0 d.rcid = 0) →
    (Tab.get (s.bw (c.val / 4)).share 0 e.rcid = 0 ∧ Tab.get (s.bw (c.val / 4)).used 0 e.rcid = 0) →
    ((s.chan c).bank ((s.chan c).bankKey d.x)).row = none →
    ((s.chan c).bank ((s.chan c).bankKey e.x)).row = some (dramOf (s.chan c).nr e.x).row →
    (s.chan c).barred ((s.chan c).bank ((s.chan c).bankKey d.x)) = false →
    (s.chan c).bankKey d.x ≠ (s.chan c).bankKey e.x →
    RunsTo (exec (.commandSlot c sub) s) fun t => (t.chan c).rq = [d, e] ∧ ((t.chan c).bank ((s.chan c).bankKey d.x)).row = some (dramOf (s.chan c).nr d.x).row ∧ s.onlyChan t c ∧ t = { s with chans := t.chans }) ∧
  (∀ (s : State) (c : ChanId) (sub : Fin 2) (e : WrEnt),
    (s.chan c).st = 2 →
    s.chanLow c = false →
    ((s.chan c).quarter = false ∧ (s.chan c).limited = false) →
    (s.chan c).due sub = none →
    (s.chan c).rq = [] →
    (s.chan c).wq = [e] →
    e.issued = false →
    e.x % 2 = sub.val →
    ((s.chan c).edge e.x = false ∧ (s.chan c).isClear e.x = true) →
    ((s.chan c).rank ((s.chan c).rankOf e.x)).sr = false →
    s.scribe.upTicks ≤ e.at_ + 10 * fld (s.chan c).sched 7 0 →
    Tab.get (s.bw (c.val / 4)).weightOn 255 e.rcid ≠ 0 →
    ((s.chan c).bank ((s.chan c).bankKey e.x)).row = some (dramOf (s.chan c).nr e.x).row →
    fld (s.chan c).sched 15 8 ≠ 0 →
    RunsTo (exec (.commandSlot c sub) s) fun t =>
      t.chan c = { s.chan c with wq := [{ e with issued := true }], slotNo := (s.chan c).slotNo + 1, drain := (t.chan c).drain, ranks := (t.chan c).ranks } ∧ (t.chan c).drain = true ∧ (∀ r, (t.chan c).rank r = (s.chan c).rank r ∨ (t.chan c).rank r = { (s.chan c).rank r with pd := false }) ∧ Tab.get (t.bw (c.val / 4)).wr 0 e.mcid = Tab.get (s.bw (c.val / 4)).wr 0 e.mcid + 64 ∧
      Tab.get (t.bw (c.val / 4)).used 0 e.rcid = Tab.get (s.bw (c.val / 4)).used 0 e.rcid + 64 ∧
      (∀ q, q ≠ c.val / 4 → t.bw q = s.bw q) ∧ s.onlyChan t c ∧ t = { s with chans := t.chans, qos := t.qos }) ∧
  (∀ (s : State) (c : ChanId) (sub : Fin 2) (d : RdEnt) (e : WrEnt),
    (s.chan c).st = 2 →
    s.chanLow c = false →
    ((s.chan c).quarter = false ∧ (s.chan c).limited = false) →
    (s.chan c).due sub = none →
    (s.chan c).rq = [d] →
    (s.chan c).wq = [e] →
    fld (s.chan c).sched 15 8 ≠ 0 →
    (d.issued = false ∧ d.wait_ = false ∧ d.src < 12) →
    d.x % 2 = sub.val →
    ((s.chan c).edge d.x = false ∧ (s.chan c).isClear d.x = true) →
    ((s.chan c).rank ((s.chan c).rankOf d.x)).sr = false →
    s.scribe.upTicks ≤ d.at_ + 10 * fld (s.chan c).sched 7 0 →
    Tab.get (s.bw (c.val / 4)).weightOn 255 d.rcid ≠ 0 →
    (Tab.get (s.bw (c.val / 4)).share 0 d.rcid = 0 ∧ Tab.get (s.bw (c.val / 4)).used 0 d.rcid = 0) →
    (Tab.get (s.bw (c.val / 4)).share 0 e.rcid = 0 ∧ Tab.get (s.bw (c.val / 4)).used 0 e.rcid = 0) →
    e.issued = false →
    e.x % 2 = sub.val →
    ((s.chan c).edge e.x = false ∧ (s.chan c).isClear e.x = true) →
    ((s.chan c).rank ((s.chan c).rankOf e.x)).sr = false →
    s.scribe.upTicks ≤ e.at_ + 10 * fld (s.chan c).sched 7 0 →
    Tab.get (s.bw (c.val / 4)).weightOn 255 e.rcid ≠ 0 →
    ((s.chan c).bank ((s.chan c).bankKey d.x)).row = some (dramOf (s.chan c).nr d.x).row →
    ((s.chan c).bank ((s.chan c).bankKey e.x)).row = some (dramOf (s.chan c).nr e.x).row →
    d.x ≠ e.x →
    (s.chan c).drain = false →
    1 < fld (s.chan c).sched 31 24 →
    RunsTo (exec (.commandSlot c sub) s) fun t => (t.chan c).rq = [{ d with issued := true }] ∧ (t.chan c).wq = [e] ∧ (t.chan c).drain = false ∧ Tab.get (t.bw (c.val / 4)).rd 0 d.mcid = Tab.get (s.bw (c.val / 4)).rd 0 d.mcid + 64 ∧
      Tab.get (t.bw (c.val / 4)).used 0 d.rcid = Tab.get (s.bw (c.val / 4)).used 0 d.rcid + 64 ∧
      (∀ q, q ≠ c.val / 4 → t.bw q = s.bw q) ∧ s.onlyChan t c ∧ t = { s with chans := t.chans, qos := t.qos }) ∧
  (∀ (s : State) (c : ChanId) (sub : Fin 2) (d : RdEnt) (e : WrEnt),
    (s.chan c).st = 2 →
    s.chanLow c = false →
    ((s.chan c).quarter = false ∧ (s.chan c).limited = false) →
    (s.chan c).due sub = none →
    (s.chan c).rq = [d] →
    (s.chan c).wq = [e] →
    fld (s.chan c).sched 15 8 ≠ 0 →
    (d.issued = false ∧ d.wait_ = false ∧ d.src < 12) →
    d.x % 2 = sub.val →
    ((s.chan c).edge d.x = false ∧ (s.chan c).isClear d.x = true) →
    ((s.chan c).rank ((s.chan c).rankOf d.x)).sr = false →
    s.scribe.upTicks ≤ d.at_ + 10 * fld (s.chan c).sched 7 0 →
    Tab.get (s.bw (c.val / 4)).weightOn 255 d.rcid ≠ 0 →
    (Tab.get (s.bw (c.val / 4)).share 0 d.rcid = 0 ∧ Tab.get (s.bw (c.val / 4)).used 0 d.rcid = 0) →
    (Tab.get (s.bw (c.val / 4)).share 0 e.rcid = 0 ∧ Tab.get (s.bw (c.val / 4)).used 0 e.rcid = 0) →
    e.issued = false →
    e.x % 2 = sub.val →
    ((s.chan c).edge e.x = false ∧ (s.chan c).isClear e.x = true) →
    ((s.chan c).rank ((s.chan c).rankOf e.x)).sr = false →
    s.scribe.upTicks ≤ e.at_ + 10 * fld (s.chan c).sched 7 0 →
    Tab.get (s.bw (c.val / 4)).weightOn 255 e.rcid ≠ 0 →
    ((s.chan c).bank ((s.chan c).bankKey d.x)).row = some (dramOf (s.chan c).nr d.x).row →
    ((s.chan c).bank ((s.chan c).bankKey e.x)).row = some (dramOf (s.chan c).nr e.x).row →
    d.x ≠ e.x →
    (s.chan c).drain = true →
    fld (s.chan c).sched 23 16 = 0 →
    RunsTo (exec (.commandSlot c sub) s) fun t => (t.chan c).rq = [d] ∧ (t.chan c).wq = [{ e with issued := true }] ∧ (t.chan c).drain = true ∧ Tab.get (t.bw (c.val / 4)).wr 0 e.mcid = Tab.get (s.bw (c.val / 4)).wr 0 e.mcid + 64 ∧
      Tab.get (t.bw (c.val / 4)).used 0 e.rcid = Tab.get (s.bw (c.val / 4)).used 0 e.rcid + 64 ∧
      (∀ q, q ≠ c.val / 4 → t.bw q = s.bw q) ∧ s.onlyChan t c ∧ t = { s with chans := t.chans, qos := t.qos }) ∧
  (∀ (s : State) (c : ChanId) (sub : Fin 2) (k : Nat) (b : Bank) (row : Nat),
    (s.chan c).st = 2 →
    s.chanLow c = false →
    ((s.chan c).quarter = false ∧ (s.chan c).limited = false) →
    ((s.chan c).rq.all (fun e => !(s.chan c).edge e.x) = true ∧ (s.chan c).wq.all (fun e => !(s.chan c).edge e.x) = true) →
    (s.chan c).banks = [(k, b)] →
    (b.sample = some row ∧ b.row = none) →
    k / 32 % 2 = sub.val →
    ((s.chan c).rank (k / 64)).sr = false →
    RunsTo (exec (.commandSlot c sub) s) fun t =>
      t.chan c = { (s.chan c).setBank k { b with sample := none } with slotNo := (s.chan c).slotNo + 1, drfm := some (k, row, fld (s.chan c).rh 11 8) } ∧ s.onlyChan t c ∧ t = { s with chans := t.chans }) ∧
  (∀ (s : State) (c : ChanId) (sub : Fin 2) (k : Nat) (b : Bank),
    (s.chan c).st = 2 →
    s.chanLow c = false →
    ((s.chan c).quarter = false ∧ (s.chan c).limited = false) →
    ((s.chan c).rq.all (fun e => !(s.chan c).edge e.x) = true ∧ (s.chan c).wq.all (fun e => !(s.chan c).edge e.x) = true) →
    (s.chan c).banks = [(k, b)] →
    (b.sample = none ∧ b.row = none) →
    ((s.chan c).rfm = true ∧ (s.chan c).res.raaimt ≤ b.raa) →
    k / 32 % 2 = sub.val →
    ((s.chan c).rank (k / 64)).sr = false →
    RunsTo (exec (.commandSlot c sub) s) fun t =>
      (t.chan c).bank k = { b with raa := b.raa - max 1 (s.chan c).res.raadec } ∧
      t.chan c = { s.chan c with slotNo := (s.chan c).slotNo + 1, banks := (t.chan c).banks } ∧ (∀ j, j ≠ k → (t.chan c).bank j = {}) ∧ s.onlyChan t c ∧ t = { s with chans := t.chans }) ∧
  (∀ (s : State) (c : ChanId) (sub : Fin 2) (e : RdEnt),
    (s.chan c).st = 2 →
    s.chanLow c = false →
    ((s.chan c).quarter = false ∧ (s.chan c).limited = false) →
    (s.chan c).due sub = none →
    (s.chan c).rq = [e] →
    (s.chan c).wq = [] →
    e.src < 12 →
    Tab.get (s.bw (c.val / 4)).weightOn 255 e.rcid = 0 →
    Tab.get (s.bw (c.val / 4)).share 0 e.rcid < Tab.get (s.bw (c.val / 4)).used 0 e.rcid + 64 →
    RunsTo (exec (.commandSlot c sub) s) fun t =>
      t.chan c = { s.chan c with slotNo := (s.chan c).slotNo + 1, drain := (t.chan c).drain } ∧ s.onlyChan t c ∧ t = { s with chans := t.chans }) ∧
  (∀ (s : State) (c : ChanId) (sub : Fin 2),
    ((s.chan c).st ≠ 2 ∨ s.chanLow c = true) →
    exec (.commandSlot c sub) s = .next (s.setChan c { s.chan c with slotNo := (s.chan c).slotNo + 1 })) ∧
  (∀ (s : State) (c : ChanId) (sub : Fin 2),
    (((s.chan c).limited = true ∧ (s.chan c).slotNo % 2 ≠ 0) ∨ ((s.chan c).quarter = true ∧ (s.chan c).slotNo % 4 ≠ 0)) →
    ((s.chan c).rq.all (fun e => !(s.chan c).edge e.x) = true ∧ (s.chan c).wq.all (fun e => !(s.chan c).edge e.x) = true) →
    exec (.commandSlot c sub) s = .next (s.setChan c { s.chan c with slotNo := (s.chan c).slotNo + 1 })) ∧
  (∀ (s : State) (c : ChanId) (sub : Fin 2) (e : RdEnt),
    (s.chan c).st = 2 →
    s.chanLow c = false →
    (((s.chan c).limited = true ∧ (s.chan c).slotNo % 2 ≠ 0) ∨ ((s.chan c).quarter = true ∧ (s.chan c).slotNo % 4 ≠ 0)) →
    (s.chan c).rq = [e] →
    ((s.chan c).wq = [] ∧ fld (s.chan c).sched 31 24 ≠ 0) →
    (e.issued = false ∧ e.wait_ = false ∧ e.src < 12) →
    e.x % 2 = sub.val →
    (s.chan c).edge e.x = true →
    Tab.get (s.bw (c.val / 4)).weightOn 255 e.rcid ≠ 0 →
    RunsTo (exec (.commandSlot c sub) s) fun t =>
      t.chan c = { s.chan c with rq := [{ e with issued := true }], slotNo := (s.chan c).slotNo + 1 } ∧ Tab.get (t.bw (c.val / 4)).rd 0 e.mcid = Tab.get (s.bw (c.val / 4)).rd 0 e.mcid + 64 ∧
      Tab.get (t.bw (c.val / 4)).used 0 e.rcid = Tab.get (s.bw (c.val / 4)).used 0 e.rcid + 64 ∧
      (∀ q, q ≠ c.val / 4 → t.bw q = s.bw q) ∧ s.onlyChan t c ∧ t = { s with chans := t.chans, qos := t.qos }) ∧
  (∀ (s : State) (c : ChanId),
    (s.chan c).st = 2 →
    (s.chan c).clearDone = true →
    (s.chan c).patrolCtl.getLsbD 8 = true →
    s.scrubbing (frameOfChan s.mode c) = false →
    s.chanLow c = false →
    (s.chan c).patrolDue = [] →
    (s.chan c).patrol + 1 < ((s.chan c).lines + (if ((s.activeChans (c.val / 4)).head? = some c.val) then 4 else 0)) →
    (s.chan c).wq.any (fun e => e.x == (s.chan c).patrol) = false →
    ((s.chan c).edge (s.chan c).patrol = true ∨ ((s.chan c).rank ((s.chan c).rankOf (s.chan c).patrol)).sr = false) →
    ((s.chan c).edge (s.chan c).patrol = true ∨ Tab.find s.memBad (keyChan c (s.chan c).patrol) = none) →
    exec (.patrolRead c .asStored) s = .next (s.setChan c { s.chan c with patrol := (s.chan c).patrol + 1 })) ∧
  (∀ (s : State) (c : ChanId),
    (s.chan c).st = 2 →
    (s.chan c).clearDone = true →
    (s.chan c).patrolCtl.getLsbD 8 = true →
    s.scrubbing (frameOfChan s.mode c) = false →
    s.chanLow c = false →
    (s.chan c).patrolDue = [] →
    ((s.chan c).lines + (if ((s.activeChans (c.val / 4)).head? = some c.val) then 4 else 0)) = (s.chan c).patrol + 1 →
    (s.chan c).wq.any (fun e => e.x == (s.chan c).patrol) = false →
    ((s.chan c).edge (s.chan c).patrol = true ∨ ((s.chan c).rank ((s.chan c).rankOf (s.chan c).patrol)).sr = false) →
    ((s.chan c).edge (s.chan c).patrol = true ∨ Tab.find s.memBad (keyChan c (s.chan c).patrol) = none) →
    exec (.patrolRead c .asStored) s = .next (s.setChan c { s.chan c with patrol := 0, passes := satAdd 16 (s.chan c).passes 1 })) ∧
  (∀ (s : State) (c : ChanId) (m : Bool),
    (s.chan c).st = 2 →
    (s.chan c).clearDone = true →
    (s.chan c).patrolCtl.getLsbD 8 = true →
    s.scrubbing (frameOfChan s.mode c) = false →
    s.chanLow c = false →
    (s.chan c).patrolDue = [] →
    (s.chan c).patrol + 1 < ((s.chan c).lines + (if ((s.activeChans (c.val / 4)).head? = some c.val) then 4 else 0)) →
    (s.chan c).wq.any (fun e => e.x == (s.chan c).patrol) = false →
    ((s.chan c).edge (s.chan c).patrol = true ∨ ((s.chan c).rank ((s.chan c).rankOf (s.chan c).patrol)).sr = false) →
    (s.chan c).edge (s.chan c).patrol = false →
    Tab.find s.memBad (keyChan c (s.chan c).patrol) = none →
    s.memFound.contains (s.queueKey c (s.chan c).patrol) = false →
    (s.chan c).wq.any (fun e => e.x == (s.chan c).patrol) = false →
    RunsTo (exec (.patrolRead c (.twoDevices m)) s) fun t =>
      t.chan c = { s.chan c with patrol := (s.chan c).patrol + 1 } ∧ (t.memLine (s.queueKey c (s.chan c).patrol)).2 = true ∧
      (∀ j, j < (s.queueKey c (s.chan c).patrol) ∨ (s.queueKey c (s.chan c).patrol) + 64 ≤ j → Mem.get t.mem j = Mem.get s.mem j) ∧ (∀ l, l ≠ (s.queueKey c (s.chan c).patrol) → t.memPoison.contains l = s.memPoison.contains l) ∧
      t.scribe.log.any (fun l => l.seq == s.scribe.logSeq && l.cls == 1 && l.src == 5 && l.code == 0x20 && l.inst == c.val) = true ∧ t.homes = s.homes ∧ s.keepsNet t) ∧
  (∀ (s : State) (c : ChanId) (w : ReadWord),
    (s.chan c).st = 2 →
    (s.chan c).clearDone = true →
    (s.chan c).patrolCtl.getLsbD 8 = true →
    s.scrubbing (frameOfChan s.mode c) = false →
    s.chanLow c = false →
    (s.chan c).patrolDue = [] →
    (s.chan c).patrol + 1 < ((s.chan c).lines + (if ((s.activeChans (c.val / 4)).head? = some c.val) then 4 else 0)) →
    ((s.chan c).edge (s.chan c).patrol = true ∨ ((s.chan c).rank ((s.chan c).rankOf (s.chan c).patrol)).sr = false) →
    (s.chan c).wq.any (fun e => e.x == (s.chan c).patrol) = true →
    exec (.patrolRead c w) s = .next (s.setChan c { s.chan c with patrol := (s.chan c).patrol + 1, skips := (s.chan c).skips + 1 })) ∧
  (∀ (s : State) (c : ChanId) (w : ReadWord),
    (s.chan c).st = 2 →
    (s.chan c).clearDone = true →
    (s.chan c).patrolCtl.getLsbD 8 = true →
    s.scrubbing (frameOfChan s.mode c) = false →
    s.chanLow c = false →
    (s.chan c).patrolDue = [] →
    (s.chan c).patrol < ((s.chan c).lines + (if ((s.activeChans (c.val / 4)).head? = some c.val) then 4 else 0)) →
    (((s.chan c).edge (s.chan c).patrol = false ∧ ((s.chan c).rank ((s.chan c).rankOf (s.chan c).patrol)).sr = true)) →
    exec (.patrolRead c w) s = .next (s.setChan c { s.chan c with patrol := (s.chan c).patrol + 1, patrolDue := [(s.chan c).patrol], skips := (s.chan c).skips + 1 })) ∧
  (∀ (s : State) (c : ChanId) (w : ReadWord),
    (s.chan c).st = 2 →
    (s.chan c).clearDone = true →
    (s.chan c).patrolCtl.getLsbD 8 = true →
    s.scrubbing (frameOfChan s.mode c) = false →
    s.chanLow c = false →
    ((s.chan c).lines + (if ((s.activeChans (c.val / 4)).head? = some c.val) then 4 else 0)) ≤ (s.chan c).patrol →
    (s.chan c).patrolDue ≠ [] →
    (∀ x ∈ (s.chan c).patrolDue, (s.chan c).edge x = false ∧ ((s.chan c).rank ((s.chan c).rankOf x)).sr = true) →
    exec (.patrolRead c w) s = .next s) ∧
  (∀ (s : State) (c : ChanId) (x : Nat),
    (s.chan c).st = 2 →
    (s.chan c).clearDone = true →
    (s.chan c).patrolCtl.getLsbD 8 = true →
    s.scrubbing (frameOfChan s.mode c) = false →
    s.chanLow c = false →
    (s.chan c).patrolDue = [x] →
    ((s.chan c).edge x = true ∨ ((s.chan c).rank ((s.chan c).rankOf x)).sr = false) →
    (s.chan c).wq.any (fun e => e.x == x) = false →
    ((s.chan c).edge x = true ∨ Tab.find s.memBad (keyChan c x) = none) →
    exec (.patrolRead c .asStored) s = .next (s.setChan c (if ((s.chan c).lines + (if ((s.activeChans (c.val / 4)).head? = some c.val) then 4 else 0)) ≤ (s.chan c).patrol
        then { s.chan c with patrolDue := [], patrol := 0, passes := satAdd 16 (s.chan c).passes 1 } else { s.chan c with patrolDue := [] }))) ∧
  (∀ (s : State) (c : ChanId) (w : ReadWord),
    ((s.chan c).st ≠ 2 ∨ (s.chan c).clearDone = false ∨ (s.chan c).patrolCtl.getLsbD 8 = false ∨ s.scrubbing (frameOfChan s.mode c) = true ∨ s.chanLow c = true) →
    exec (.patrolRead c w) s = .next s) ∧
  (∀ (s : State) (b : BayId),
    (s.home b).stopped = false →
    (s.home b).arrayFail = false →
    (s.domStateOf (14 + b.val) ≠ 4 ∧ s.domStateOf (14 + b.val) ≠ 5) →
    (s.home b).cache.all (fun e => e.2.bad == 0) = true →
    exec (.bayPatrolStep b []) s = .next (s.setHome b { s.home b with patrol := ((s.home b).patrol + 1) % 65536 })) ∧
  (∀ (s : State) (b : BayId) (w : Fin 16),
    (s.home b).stopped = false →
    (s.home b).arrayFail = false →
    (s.domStateOf (14 + b.val) ≠ 4 ∧ s.domStateOf (14 + b.val) ≠ 5) →
    (s.home b).cache.all (fun e => e.2.bad == 0) = true →
    w.val < (s.home b).bench →
    (s.memLine (keyBench b ((s.home b).patrol * 64 + w.val * 0x400000))).2 = false →
    RunsTo (exec (.bayPatrolStep b [(w, true)]) s) fun t =>
      t.home b = { s.home b with patrol := ((s.home b).patrol + 1) % 65536 } ∧ t.memLine (keyBench b ((s.home b).patrol * 64 + w.val * 0x400000)) = ((s.memLine (keyBench b ((s.home b).patrol * 64 + w.val * 0x400000))).1, true) ∧
      (∀ j, j < keyBench b ((s.home b).patrol * 64 + w.val * 0x400000) ∨ keyBench b ((s.home b).patrol * 64 + w.val * 0x400000) + 64 ≤ j → Mem.get t.mem j = Mem.get s.mem j) ∧ (∀ l, l ≠ keyBench b ((s.home b).patrol * 64 + w.val * 0x400000) → t.memPoison.contains l = s.memPoison.contains l) ∧
      t.scribe.log.any (fun l => l.seq == s.scribe.logSeq && l.cls == 1 && l.src == 4 && l.code == 0x12 && l.inst == b.val) = true ∧
      (∀ k, k ≠ b.val → t.home k = s.home k) ∧ t.chans = s.chans ∧ s.keepsNet t) ∧
  (∀ (s : State) (b : BayId) (w : Fin 16) (k : Nat) (e : BayLine),
    (s.home b).stopped = false →
    (s.home b).arrayFail = false →
    (s.domStateOf (14 + b.val) ≠ 4 ∧ s.domStateOf (14 + b.val) ≠ 5) →
    (s.home b).cache = [(k, e)] →
    k = (s.home b).patrol * 16 + w.val →
    (s.home b).bench ≤ w.val →
    s.baySetOf b (e.line * 64) = (s.home b).patrol →
    e.bad = 0 →
    RunsTo (exec (.bayPatrolStep b [(w, false)]) s) fun t =>
      t.home b = { s.home b with patrol := ((s.home b).patrol + 1) % 65536 } ∧ (∀ k, k ≠ b.val → t.home k = s.home k) ∧ t.chans = s.chans ∧ t.mem = s.mem ∧ t.memPoison = s.memPoison ∧ s.keepsNet t) ∧
  (∀ (s : State) (b : BayId) (w : Fin 16) (k : Nat) (e : BayLine),
    (s.home b).stopped = false →
    (s.home b).arrayFail = false →
    (s.domStateOf (14 + b.val) ≠ 4 ∧ s.domStateOf (14 + b.val) ≠ 5) →
    (s.home b).cache = [(k, e)] →
    k = (s.home b).patrol * 16 + w.val →
    (s.home b).bench ≤ w.val →
    s.baySetOf b (e.line * 64) = (s.home b).patrol →
    e.bad = 0 →
    e.dirty = true →
    RunsTo (exec (.bayPatrolStep b [(w, true)]) s) fun t =>
      t.home b = { s.home b with cache := [(k, { e with poison := true })], patrol := ((s.home b).patrol + 1) % 65536 } ∧
      t.scribe.log.any (fun l => l.seq == s.scribe.logSeq && l.cls == 1 && l.src == 4 && l.code == 0x10 && l.inst == b.val) = true ∧ (∀ k, k ≠ b.val → t.home k = s.home k) ∧ t.chans = s.chans ∧ t.mem = s.mem ∧ t.memPoison = s.memPoison ∧ s.keepsNet t) ∧
  (∀ (s : State) (b : BayId) (w : Fin 16) (k : Nat) (e : BayLine),
    (s.home b).stopped = false →
    (s.home b).arrayFail = false →
    (s.domStateOf (14 + b.val) ≠ 4 ∧ s.domStateOf (14 + b.val) ≠ 5) →
    (s.home b).cache = [(k, e)] →
    k = (s.home b).patrol * 16 + w.val →
    (s.home b).bench ≤ w.val →
    s.baySetOf b (e.line * 64) = (s.home b).patrol →
    e.bad = 0 →
    e.dirty = false →
    (s.home b).lockedWay k = false →
    RunsTo (exec (.bayPatrolStep b [(w, true)]) s) fun t =>
      t.home b = { s.home b with cache := [], patrol := ((s.home b).patrol + 1) % 65536 } ∧ (∀ k, k ≠ b.val → t.home k = s.home k) ∧ t.chans = s.chans ∧ t.mem = s.mem ∧ t.memPoison = s.memPoison ∧ s.keepsNet t) ∧
  (∀ (s : State) (b : BayId) (l : List (Fin 16 × Bool)),
    ((s.home b).stopped = true ∨ (s.home b).arrayFail = true ∨ s.domStateOf (14 + b.val) = 4 ∨ s.domStateOf (14 + b.val) = 5) →
    exec (.bayPatrolStep b l) s = .next s) ∧
  (∀ (s : State) (c : ChanId) (r : Nat),
    (s.chan c).st = 2 →
    (s.chan c).clearDone = false →
    r < (s.chan c).regions →
    (s.chan c).cleared.contains r = false →
    s.chanLow c = false →
    ((s.chan c).passAt r = true ∨ (s.chan c).startsClear r = true) →
    Tab.rising s.mem = true →
    Tab.rising s.memBad = true →
    RunsTo (exec (.clearRegion c r) s) fun t =>
      t.chan c = { s.chan c with cleared := listAdd (s.chan c).cleared r, ranks := (t.chan c).ranks } ∧ (t.chan c).cleared.contains r = true ∧
      (∀ i, i < 4 → ((t.chan c).rank ((s.chan c).rankOf (r * 32768 + 8192 * i))).sr = false) ∧
      (∀ k, keyChan c (r * 32768) ≤ k → k < keyChan c ((r + 1) * 32768) → Mem.get t.mem k = 0) ∧
      (∀ k, k < keyChan c (r * 32768) ∨ keyChan c ((r + 1) * 32768) ≤ k → Mem.get t.mem k = Mem.get s.mem k) ∧
      (∀ k ∈ t.memPoison, k < keyChan c (r * 32768) ∨ keyChan c ((r + 1) * 32768) ≤ k) ∧
      (∀ k, k < keyChan c (r * 32768) ∨ keyChan c ((r + 1) * 32768) ≤ k → t.memPoison.contains k = s.memPoison.contains k) ∧
      (∀ k ∈ t.memFound, k < keyChan c (r * 32768) ∨ keyChan c ((r + 1) * 32768) ≤ k) ∧
      (∀ k, k < keyChan c (r * 32768) ∨ keyChan c ((r + 1) * 32768) ≤ k → t.memFound.contains k = s.memFound.contains k) ∧
      (∀ k, k ≠ c.val → t.chan k = s.chan k) ∧ t = { s with chans := t.chans, mem := t.mem, memPoison := t.memPoison, memFound := t.memFound, memBad := t.memBad }) ∧
  (∀ (s : State) (c : ChanId) (r : Nat),
    ((s.chan c).st ≠ 2 ∨ (s.chan c).clearDone = true ∨ (s.chan c).regions ≤ r ∨ (s.chan c).cleared.contains r = true ∨ s.chanLow c = true ∨ ((s.chan c).passAt r = false ∧ (s.chan c).startsClear r = false)) →
    exec (.clearRegion c r) s = .next s) ∧
  (∀ (s : State) (c : ChanId),
    (s.chan c).st = 2 →
    (s.chan c).cleared.length = (s.chan c).regions →
    exec (.clearDone c) s = .next (s.setChan c { s.chan c with clearDone := true })) ∧
  (∀ (s : State) (c : ChanId),
    ((s.chan c).st ≠ 2 ∨ (s.chan c).cleared.length ≠ (s.chan c).regions) →
    exec (.clearDone c) s = .next s) ∧
  (∀ (s : State) (q : QuadId) (r : Nat),
    Tab.rising (s.bw q).rbwb = true →
    RunsTo (exec (.bandwidthWindow q) s) fun t =>
      Tab.get (t.bw q).used 0 r = 0 ∧ Tab.get (t.bw q).share 0 r = Tab.get (s.bw q).rbwb 0 r * ((s.frame (frameOfQuad s.mode q)).nCh * (s.frame (frameOfQuad s.mode q)).rate * 8) / 1000 ∧
      t.bw q = { s.bw q with used := (t.bw q).used, share := (t.bw q).share, weightOn := (s.bw q).weight } ∧ (∀ k, k ≠ q.val → t.bw k = s.bw k) ∧ t = { s with qos := t.qos }) ∧
  (∀ (s : State) (r : TrainRes),
    s.plumb.active = 0 →
    (s.frame 0).booted = true →
    (s.frame 0).topGib = 0 →
    (s.frame 0).trained = false →
    (r.ok = true ∧ r.like r = true) →
    RunsTo (exec (.channelTrainingDone 0 ((List.range 16).map (fun c => (c, r)))) s) fun t =>
      (∀ c, c < 16 → (t.chan c).st = 2 ∧ (t.chan c).rate = r.grades.headD 0 ∧ (t.chan c).res = r ∧ (t.chan c).clearDone = false ∧ (t.chan c).cleared = [] ∧
        (t.chan c).rq = [] ∧ (t.chan c).wq = [] ∧ (t.chan c).ranks = [] ∧ (t.chan c).banks = [] ∧ ((s.chan c).rh.getLsbD 15 = true → (t.chan c).gen = 1)) ∧
      (t.frame 0).trained = true ∧ (t.frame 0).perCh = r.gib * 2 ^ 24 ∧ (t.frame 0).rate = r.grades.headD 0 ∧ (t.frame 0).sGib = 16 * r.gib ∧ (t.frame 0).nCh = 4 ∧ (t.frame 0).topGib = min (16 * r.gib + 1) 8192 ∧
      (∀ k, k < keyChan 16 0 → Mem.get t.mem k = 0) ∧ (∀ q i, q < 4 → i < 4 → t.memLine (keyEdge q i) = (0, false)) ∧
      (∀ k, 2 ^ 47 ≤ k → Mem.get t.mem k = Mem.get s.mem k) ∧ t.homes = s.homes ∧ s.keepsNet t) ∧
  (∀ (s : State) (k : ChanId) (r q : TrainRes),
    s.plumb.active = 0 →
    (s.frame 0).booted = true →
    (s.frame 0).topGib = 0 →
    (s.frame 0).trained = false →
    (r.ok = true ∧ r.like r = true) →
    k.val ≠ 0 →
    (q.mods ≠ [] ∧ (q.ok = false ∨ q.like r = false)) →
    RunsTo (exec (.channelTrainingDone 0 ((List.range 16).map (fun c => (c, if c = k.val then q else r)))) s) fun t =>
      (t.chan k).st = (if q.meets = true ∧ q.passed = false then 4 else 3) ∧ (t.chan k).rate = 0 ∧
      (∀ c, c < 16 → c ≠ k.val → c / 4 ≠ k.val / 4 → c % 4 = 3 → (t.chan c).st = 3) ∧
      (∀ c, c < 16 → c ≠ k.val → c / 4 = k.val / 4 ∨ c % 4 ≠ 3 → (t.chan c).st = 2 ∧ (t.chan c).rate = r.grades.headD 0 ∧ (t.chan c).res = r ∧ (t.chan c).clearDone = false ∧ (t.chan c).cleared = [] ∧
        (t.chan c).rq = [] ∧ (t.chan c).wq = [] ∧ (t.chan c).ranks = [] ∧ (t.chan c).banks = [] ∧ ((s.chan c).rh.getLsbD 15 = true → (t.chan c).gen = 1)) ∧
      (t.frame 0).trained = true ∧ (t.frame 0).perCh = r.gib * 2 ^ 24 ∧ (t.frame 0).rate = r.grades.headD 0 ∧ (t.frame 0).sGib = 12 * r.gib ∧ (t.frame 0).nCh = 3 ∧ (t.frame 0).topGib = 12 * r.gib + 1 ∧
      (∀ k, 2 ^ 47 ≤ k → Mem.get t.mem k = Mem.get s.mem k) ∧ t.homes = s.homes ∧ s.keepsNet t) ∧
  (∀ (s : State),
    s.plumb.active = 0 →
    (s.frame 0).booted = true →
    (s.frame 0).topGib = 0 →
    (s.frame 0).trained = false →
    RunsTo (exec (.channelTrainingDone 0 []) s) fun t =>
      (t.frame 0).booted = false ∧ (∀ c, c < 16 → (t.chan c).st = 0) ∧ (∀ n, n < 12 → (t.stud n).state = 3) ∧ (∀ k, k < 384 → (t.core k).run = .stopped) ∧
      (t.frame 0).sGib = 0 ∧ (t.frame 0).topGib = 0 ∧ t.homes = s.homes ∧ t.mem = s.mem ∧ s.keepsNet t) ∧
  (∀ (s : State) (l : List (Nat × TrainRes)) (r : TrainRes),
    s.plumb.active = 0 →
    (s.frame 0).booted = true →
    (s.frame 0).topGib = 0 →
    (s.frame 0).trained = true →
    (List.range 16).all (fun c => (s.chan c).st == 1 && (s.chan c).res.gib == r.gib && (s.chan c).rate == 6400) = true →
    (4 ≤ r.gib ∧ r.gib < 512) →
    (∀ c, c < 16 → (Tab.find l c).any (fun r => !r.passed) = false) →
    RunsTo (exec (.channelTrainingDone 0 l) s) fun t =>
      (∀ c, c < 16 → t.chan c = { s.chan c with st := 2, ranks := [], saved := (Tab.find l c).elim (s.chan c).saved (·.saved) }) ∧ (t.frame 0).sGib = 16 * r.gib ∧ (t.frame 0).topGib = 16 * r.gib + 1 ∧ (t.frame 0).nCh = 4 ∧
      (t.frame 0).perCh = r.gib * 2 ^ 24 ∧ (t.frame 0).rate = 6400 ∧ t = { s with chans := t.chans, frames := t.frames }) ∧
  (∀ (s : State) (f : FrameId) (l : List (Nat × TrainRes)),
    ((s.frame f).booted = false ∨ (s.frame f).topGib ≠ 0 ∨ (framesOf s.mode).contains f.val = false) →
    exec (.channelTrainingDone f l) s = .next s)

/-- On a purlin link that carries flits and does not retrain: a flit in order advances the expected SEQ, ends a discard and takes the partner's ACK and credit, and its units deliver their messages once the link is UP: one for this package to its agent, a snoop to the purlin agent, one for another package on towards it, each with its units freed; a flit out of order is discarded. Each flit time sends one flit, which enters the retry buffer under the next SEQ: the units of a message the link has credit for, or none; in a replay the flits kept go again. A flit error asks for a replay and counts a corrected error, and the eighth in a row for one SEQ starts a fast retrain. A NAK of a flit still held starts the replay after it, one of the last flit sent needs none, and one of a flit no longer held loses the link. A fast retrain is counted and noticed, and loses the link where it fails. Losing a link of a joined frame, unless it is a spare, is fatal to it; of a joining frame it refuses the join. An identity that agrees brings the link UP, after the deadline it leaves it as it is, and one that differs holds it with its reason. The flit that carries an identity unit gives the identity it spells. A JOIN whose view passes sends its digest on every link; once every neighbour's agrees it sends its time, and once every member's has come the frame has its members and its time, which never goes back, and each link its role: a second link to a package of a domain of four, and a port without a link, is a spare, held and reported. One whose topology fails, whose digests differ, that has lost a link or receives DOMAIN_DOWN, or that has no link at the deadline, is refused with its reason. A time exchange asks the next hop toward the master, not at the master, and its answer gives the delay and slews by at most one tick in 1,000. A link is held once its DOMAIN_DOWN has left. -/
def Obligations.PurlinLinksAndTheJoin : Prop :=
  (∀ (s : State) (p : PortId) (h : PFlitHdr) (us : List (BitVec 128)) (n : Nat),
    (s.port p).pers = 4 →
    ((s.port p).purlin.st = 2 ∨ (s.port p).purlin.st = 3) →
    (s.port p).purlin.retraining = false →
    (s.port p).purlin.after = none →
    h.seq = (s.port p).purlin.rxSeq →
    s.net.all (fun m => m.outP != some p.val) = true →
    h.nak = false →
    (h.kind ≠ 2 ∧ (h.kind ≠ 0 ∨ (s.port p).purlin.st = 2)) →
    RunsTo (exec (.purlinFlitReceived p h us n) s) fun t => t.port p = Port.transmits { s.port p with purlin := Purlin.tick { (s.port p).purlin with rxSeq := ((s.port p).purlin.rxSeq + 1) % 1024, nakOut := false, nakWait := false, nakRun := 0, nakInRun := 0, ackIn := h.ack, farFreed := if h.crClass < 5 then Tab.put (s.port p).purlin.farFreed 0 h.crClass (h.crCount % 4096) else (s.port p).purlin.farFreed } } ∧ (∀ q, q ≠ p.val → (t.port q).purlin = (s.port q).purlin ∧ (t.port q).ridge = (s.port q).ridge ∧ (t.port q).roots = (s.port q).roots) ∧ t.mem = s.mem ∧ t.memPoison = s.memPoison ∧ t.homes = s.homes ∧ t.chans = s.chans ∧ t.tenons = s.tenons ∧ s.keepsNet t ∧ (n = 0 → (∀ q, q ≠ p.val → t.port q = s.port q) ∧ t = { s with ports := t.ports })) ∧
  (∀ (s : State) (p : PortId) (h : PFlitHdr) (us : List (BitVec 128)) (m : Msg),
    (s.port p).pers = 4 →
    ((s.port p).purlin.st = 2 ∨ (s.port p).purlin.st = 3) →
    (s.port p).purlin.retraining = false →
    (s.port p).purlin.after = none →
    h.seq = (s.port p).purlin.rxSeq →
    s.net.all (fun m => m.outP != some p.val) = true →
    h.nak = false →
    (h.kind ≠ 2 ∧ (h.kind ≠ 0 ∨ (s.port p).purlin.st = 2)) →
    ((s.port p).purlin.replayAt = none ∧ (s.port p).purlin.outUnits = [] ∧ (s.port p).purlin.outQ = [m]) →
    h.crClass < 5 →
    (msgUnits m).length + (Tab.get (s.port p).purlin.sentU 0 (clsOf m.op) + 4096 - (if h.crClass = clsOf m.op then h.crCount % 4096 else Tab.get (s.port p).purlin.farFreed 0 (clsOf m.op))) % 4096 ≤ purlinBuf (clsOf m.op) →
    msgUnits m ≠ [] →
    (msgUnits m).length ≤ 15 →
    RunsTo (exec (.purlinFlitReceived p h us 0) s) fun t =>
      (t.port p).purlin.retry.getLast? = some ((s.port p).purlin.txSeq, 0, msgUnits m) ∧ (t.port p).purlin.txSeq = ((s.port p).purlin.txSeq + 1) % 1024 ∧ (t.port p).purlin.outQ = [] ∧ (t.port p).purlin.outUnits = [] ∧
      Tab.get (t.port p).purlin.sentU 0 (clsOf m.op) = (Tab.get (s.port p).purlin.sentU 0 (clsOf m.op) + (msgUnits m).length) % 4096 ∧ (t.port p).purlin.wire.length = 272 ∧ (∀ q, q ≠ p.val → t.port q = s.port q) ∧ t = { s with ports := t.ports }) ∧
  (∀ (s : State) (p : PortId) (h : PFlitHdr) (us : List (BitVec 128)) (m : Msg),
    (s.port p).pers = 4 →
    ((s.port p).purlin.st = 2 ∨ (s.port p).purlin.st = 3) →
    (s.port p).purlin.retraining = false →
    (s.port p).purlin.after = none →
    h.seq = (s.port p).purlin.rxSeq →
    s.net.all (fun m => m.outP != some p.val) = true →
    h.nak = false →
    (h.kind ≠ 2 ∧ (h.kind ≠ 0 ∨ (s.port p).purlin.st = 2)) →
    ((s.port p).purlin.replayAt = none ∧ (s.port p).purlin.outUnits = [] ∧ (s.port p).purlin.outQ = [m]) →
    h.crClass < 5 →
    purlinBuf (clsOf m.op) < (msgUnits m).length + (Tab.get (s.port p).purlin.sentU 0 (clsOf m.op) + 4096 - (if h.crClass = clsOf m.op then h.crCount % 4096 else Tab.get (s.port p).purlin.farFreed 0 (clsOf m.op))) % 4096 →
    RunsTo (exec (.purlinFlitReceived p h us 0) s) fun t =>
      (t.port p).purlin.retry.getLast? = some ((s.port p).purlin.txSeq, 1, []) ∧ (t.port p).purlin.txSeq = ((s.port p).purlin.txSeq + 1) % 1024 ∧ (t.port p).purlin.outQ = [m] ∧ (t.port p).purlin.sentU = (s.port p).purlin.sentU ∧ (∀ q, q ≠ p.val → t.port q = s.port q) ∧ t = { s with ports := t.ports }) ∧
  (∀ (s : State) (p : PortId) (h : PFlitHdr) (us : List (BitVec 128)) (q k : Nat) (v : List (BitVec 128)),
    (s.port p).pers = 4 →
    ((s.port p).purlin.st = 2 ∨ (s.port p).purlin.st = 3) →
    (s.port p).purlin.retraining = false →
    (s.port p).purlin.after = none →
    h.seq = (s.port p).purlin.rxSeq →
    s.net.all (fun m => m.outP != some p.val) = true →
    h.nak = false →
    (h.kind ≠ 2 ∧ (h.kind ≠ 0 ∨ (s.port p).purlin.st = 2)) →
    (s.port p).purlin.replayAt = some q →
    (s.port p).purlin.retry.find? (fun e => e.1 == q) = some (q, k, v) →
    RunsTo (exec (.purlinFlitReceived p h us 0) s) fun t =>
      (t.port p).purlin.retry = (s.port p).purlin.retry ∧ (t.port p).purlin.txSeq = (s.port p).purlin.txSeq ∧ (t.port p).purlin.outQ = (s.port p).purlin.outQ ∧ (t.port p).purlin.outUnits = (s.port p).purlin.outUnits ∧
      (t.port p).purlin.replayAt = (if (q + 1) % 1024 = (s.port p).purlin.txSeq then none else some ((q + 1) % 1024)) ∧ (∀ q, q ≠ p.val → t.port q = s.port q) ∧ t = { s with ports := t.ports }) ∧
  (∀ (s : State) (p : PortId) (h : PFlitHdr) (u : BitVec 128) (op : MsgOp),
    (s.port p).pers = 4 →
    (s.port p).purlin.st = 3 →
    (s.port p).purlin.retraining = false →
    (s.port p).purlin.after = none →
    h.seq = (s.port p).purlin.rxSeq →
    s.net.all (fun m => m.outP != some p.val) = true →
    h.nak = false →
    h.kind = 0 →
    (s.port p).purlin.partUnits = [] →
    u ≠ 0 →
    unitOp u = some op →
    unitCount u = 1 →
    (unitMsg op u []).op = op →
    op ∉ ([.msiWrite, .mgmt, .domainDown] : List MsgOp) →
    (s.frame (s.frameOfPort p)).halted = false →
    bits u.toNat 2 0 = 1 →
    (unitMsg op u []).hdr.dstPkg = s.ownPkg →
    agentOk (unitMsg op u []).hdr.src = true →
    s.routed { unitMsg op u [] with hdr := { (unitMsg op u []).hdr with dst := 32 + p.val }, inP := some p.val } = true →
    RunsTo (exec (.purlinFlitReceived p h [u] 0) s) fun t =>
      t.net = s.net ++ [entered { unitMsg op u [] with hdr := { (unitMsg op u []).hdr with dst := 32 + p.val }, inP := some p.val }] ∧
      (t.port p).purlin.rxSeq = ((s.port p).purlin.rxSeq + 1) % 1024 ∧ (t.port p).purlin.partUnits = [] ∧
      (∀ c, Tab.get (t.port p).purlin.freed 0 c = if c = bits u.toNat 2 0 then (Tab.get (s.port p).purlin.freed 0 c + 1) % 4096 else Tab.get (s.port p).purlin.freed 0 c) ∧ (∀ q, q ≠ p.val → t.port q = s.port q) ∧ t = { s with ports := t.ports, net := t.net }) ∧
  (∀ (s : State) (p : PortId) (h : PFlitHdr) (u : BitVec 128) (op : MsgOp),
    (s.port p).pers = 4 →
    (s.port p).purlin.st = 3 →
    (s.port p).purlin.retraining = false →
    (s.port p).purlin.after = none →
    h.seq = (s.port p).purlin.rxSeq →
    s.net.all (fun m => m.outP != some p.val) = true →
    h.nak = false →
    h.kind = 0 →
    (s.port p).purlin.partUnits = [] →
    u ≠ 0 →
    unitOp u = some op →
    unitCount u = 1 →
    (unitMsg op u []).op = op →
    op ∉ ([.msiWrite, .mgmt, .domainDown] : List MsgOp) →
    (s.frame (s.frameOfPort p)).halted = false →
    bits u.toNat 2 0 ≠ 1 →
    (unitMsg op u []).hdr.dstPkg = s.ownPkg →
    (agentOk (unitMsg op u []).hdr.src = true ∧ agentOk (unitMsg op u []).hdr.dst = true) →
    s.routed { unitMsg op u [] with inP := some p.val } = true →
    RunsTo (exec (.purlinFlitReceived p h [u] 0) s) fun t =>
      t.net = s.net ++ [entered { unitMsg op u [] with inP := some p.val }] ∧
      (t.port p).purlin.rxSeq = ((s.port p).purlin.rxSeq + 1) % 1024 ∧ (t.port p).purlin.partUnits = [] ∧
      (∀ c, Tab.get (t.port p).purlin.freed 0 c = if c = bits u.toNat 2 0 then (Tab.get (s.port p).purlin.freed 0 c + 1) % 4096 else Tab.get (s.port p).purlin.freed 0 c) ∧ (∀ q, q ≠ p.val → t.port q = s.port q) ∧ t = { s with ports := t.ports, net := t.net }) ∧
  (∀ (s : State) (p : PortId) (h : PFlitHdr) (u : BitVec 128) (op : MsgOp) (q : PortId),
    (s.port p).pers = 4 →
    (s.port p).purlin.st = 3 →
    (s.port p).purlin.retraining = false →
    (s.port p).purlin.after = none →
    h.seq = (s.port p).purlin.rxSeq →
    s.net.all (fun m => m.outP != some p.val) = true →
    h.nak = false →
    h.kind = 0 →
    (s.port p).purlin.partUnits = [] →
    u ≠ 0 →
    unitOp u = some op →
    unitCount u = 1 →
    (unitMsg op u []).op = op →
    op ∉ ([.msiWrite, .mgmt, .domainDown] : List MsgOp) →
    (s.frame (s.frameOfPort p)).halted = false →
    (unitMsg op u []).hdr.dstPkg ≠ s.ownPkg →
    s.linkPorts (s.frameOfPort p) (s.nextHop (s.frameOfPort p) (unitMsg op u []).hdr.dstPkg) = [q.val] →
    portStop q ≠ portStop p →
    s.routed { unitMsg op u [] with inP := some p.val, outP := some q.val } = true →
    RunsTo (exec (.purlinFlitReceived p h [u] 0) s) fun t =>
      t.net = s.net ++ [entered { unitMsg op u [] with inP := some p.val, outP := some q.val }] ∧
      (t.port p).purlin.rxSeq = ((s.port p).purlin.rxSeq + 1) % 1024 ∧ (t.port p).purlin.partUnits = [] ∧
      (∀ c, Tab.get (t.port p).purlin.freed 0 c = if c = bits u.toNat 2 0 then (Tab.get (s.port p).purlin.freed 0 c + 1) % 4096 else Tab.get (s.port p).purlin.freed 0 c) ∧ (∀ q, q ≠ p.val → t.port q = s.port q) ∧ t = { s with ports := t.ports, net := t.net }) ∧
  (∀ (s : State) (p : PortId) (h : PFlitHdr) (us : List (BitVec 128)) (n : Nat),
    (s.port p).pers = 4 →
    ((s.port p).purlin.st = 2 ∨ (s.port p).purlin.st = 3) →
    (s.port p).purlin.retraining = false →
    (s.port p).purlin.after = none →
    h.seq ≠ (s.port p).purlin.rxSeq →
    RunsTo (exec (.purlinFlitReceived p h us n) s) fun t => t.port p = Port.transmits { s.port p with purlin := (s.port p).purlin.tick } ∧ (∀ q, q ≠ p.val → (t.port q).purlin = (s.port q).purlin ∧ (t.port q).ridge = (s.port q).ridge ∧ (t.port q).roots = (s.port q).roots) ∧ t.mem = s.mem ∧ t.memPoison = s.memPoison ∧ t.homes = s.homes ∧ t.chans = s.chans ∧ t.tenons = s.tenons ∧ s.keepsNet t ∧ (n = 0 → (∀ q, q ≠ p.val → t.port q = s.port q) ∧ t = { s with ports := t.ports })) ∧
  (∀ (s : State) (p : PortId) (h : PFlitHdr) (us : List (BitVec 128)),
    ((s.port p).pers ≠ 4 ∨ (s.port p).purlin.retraining = true ∨ ((s.port p).purlin.st ≠ 2 ∧ (s.port p).purlin.st ≠ 3)) →
    exec (.purlinFlitReceived p h us 0) s = .next s) ∧
  (∀ (s : State) (p : PortId) (h : PFlitHdr) (us : List (BitVec 128)) (e : Nat × Nat × List (BitVec 128)),
    (s.port p).pers = 4 →
    ((s.port p).purlin.st = 2 ∨ (s.port p).purlin.st = 3) →
    (s.port p).purlin.retraining = false →
    (s.port p).purlin.after = none →
    h.seq = (s.port p).purlin.rxSeq →
    s.net.all (fun m => m.outP != some p.val) = true →
    h.nak = true →
    (h.kind ≠ 2 ∧ (h.kind ≠ 0 ∨ (s.port p).purlin.st = 2)) →
    (s.port p).purlin.retry.find? (fun e => e.1 == ((h.ack + 1) % 1024)) = some e →
    RunsTo (exec (.purlinFlitReceived p h us 0) s) fun t =>
      (t.port p).purlin.retry = (s.port p).purlin.retry ∧ (t.port p).purlin.txSeq = (s.port p).purlin.txSeq ∧ (t.port p).purlin.replayAt = (if (e.1 + 1) % 1024 = (s.port p).purlin.txSeq then none else some ((e.1 + 1) % 1024)) ∧
      (t.port p).purlin.rxSeq = ((s.port p).purlin.rxSeq + 1) % 1024 ∧ (∀ q, q ≠ p.val → (t.port q).purlin = (s.port q).purlin ∧ (t.port q).ridge = (s.port q).ridge ∧ (t.port q).roots = (s.port q).roots) ∧ t.mem = s.mem ∧ t.memPoison = s.memPoison ∧ t.homes = s.homes ∧ t.chans = s.chans ∧ t.tenons = s.tenons ∧ s.keepsNet t) ∧
  (∀ (s : State) (p : PortId),
    (s.port p).pers = 4 →
    ((s.port p).purlin.st = 2 ∨ (s.port p).purlin.st = 3) →
    (s.port p).purlin.retraining = false →
    (s.port p).purlin.after = none →
    RunsTo (exec (.purlinFlitError p) s) fun t =>
      t.port p = Port.transmits { s.port p with purlin := Purlin.tick { (s.port p).purlin with nakOut := true, nakWait := true, nakSeq := (s.port p).purlin.rxSeq, nakRun := (if (s.port p).purlin.nakSeq = (s.port p).purlin.rxSeq then (s.port p).purlin.nakRun + 1 else 1), retraining := decide (8 ≤ (if (s.port p).purlin.nakSeq = (s.port p).purlin.rxSeq then (s.port p).purlin.nakRun + 1 else 1)) } } ∧
      (t.port p).purlin.nakOut = false ∧
      (Tab.get t.scribe.counts {} (cntKey 7 0x29 p)).n.getD 0 0 = satAdd 32 ((Tab.get s.scribe.counts {} (cntKey 7 0x29 p)).n.getD 0 0) 1 ∧ (∀ q, q ≠ p.val → (t.port q).purlin = (s.port q).purlin ∧ (t.port q).ridge = (s.port q).ridge ∧ (t.port q).roots = (s.port q).roots) ∧ t.mem = s.mem ∧ t.memPoison = s.memPoison ∧ t.homes = s.homes ∧ t.chans = s.chans ∧ t.tenons = s.tenons ∧ s.keepsNet t) ∧
  (∀ (s : State) (p : PortId) (a : BitVec 10),
    (s.port p).pers = 4 →
    ((s.port p).purlin.st = 2 ∨ (s.port p).purlin.st = 3) →
    (s.port p).purlin.retry.any (fun e => e.1 == (a.toNat + 1) % 1024) = true →
    RunsTo (exec (.purlinNak p a) s) fun t =>
      (t.port p).purlin = { (s.port p).purlin with ackIn := a.toNat, replayAt := some ((a.toNat + 1) % 1024), nakOut := (s.port p).purlin.nakWait, nakInSeq := a.toNat, nakInRun := if (s.port p).purlin.nakInSeq = a.toNat then (s.port p).purlin.nakInRun + 1 else 1, retraining := (s.port p).purlin.retraining || decide (8 ≤ if (s.port p).purlin.nakInSeq = a.toNat then (s.port p).purlin.nakInRun + 1 else 1) } ∧ (∀ q, q ≠ p.val → (t.port q).purlin = (s.port q).purlin ∧ (t.port q).ridge = (s.port q).ridge ∧ (t.port q).roots = (s.port q).roots) ∧ t.mem = s.mem ∧ t.memPoison = s.memPoison ∧ t.homes = s.homes ∧ t.chans = s.chans ∧ t.tenons = s.tenons ∧ s.keepsNet t) ∧
  (∀ (s : State) (p : PortId) (a : BitVec 10),
    (s.port p).pers = 4 →
    ((s.port p).purlin.st = 2 ∨ (s.port p).purlin.st = 3) →
    (a.toNat + 1) % 1024 = (s.port p).purlin.txSeq →
    (s.port p).purlin.retry.any (fun e => e.1 == (a.toNat + 1) % 1024) = false →
    RunsTo (exec (.purlinNak p a) s) fun t =>
      (t.port p).purlin = { (s.port p).purlin with ackIn := a.toNat, nakOut := (s.port p).purlin.nakWait, nakInSeq := a.toNat, nakInRun := if (s.port p).purlin.nakInSeq = a.toNat then (s.port p).purlin.nakInRun + 1 else 1, retraining := (s.port p).purlin.retraining || decide (8 ≤ if (s.port p).purlin.nakInSeq = a.toNat then (s.port p).purlin.nakInRun + 1 else 1) } ∧ (∀ q, q ≠ p.val → (t.port q).purlin = (s.port q).purlin ∧ (t.port q).ridge = (s.port q).ridge ∧ (t.port q).roots = (s.port q).roots) ∧ t.mem = s.mem ∧ t.memPoison = s.memPoison ∧ t.homes = s.homes ∧ t.chans = s.chans ∧ t.tenons = s.tenons ∧ s.keepsNet t) ∧
  (∀ (s : State) (p : PortId) (a : BitVec 10),
    (s.port p).pers = 4 →
    ((s.port p).purlin.st = 2 ∨ (s.port p).purlin.st = 3) →
    (a.toNat + 1) % 1024 ≠ (s.port p).purlin.txSeq →
    (s.port p).purlin.retry.any (fun e => e.1 == (a.toNat + 1) % 1024) = false →
    (s.frame (s.frameOfPort p)).joinSt = 1 →
    RunsTo (exec (.purlinNak p a) s) fun t => (t.port p).purlin.st = 5 ∧ (t.port p).purlin.retry = [] ∧ (t.port p).purlin.outQ = [] ∧ (t.port p).purlin.outUnits = [] ∧ (s.isBooted (s.frameOfPort p) = true → (s.frame (s.frameOfPort p)).nq.stalled = [] → (s.frame (s.frameOfPort p)).nq.held.length < 252 →
        (t.frame (s.frameOfPort p)).nq.held.getLast?.map (·.2) = some (linkNotice p 4 0 (s.frameOfPort p) 0)) ∧ (∀ q, q ≠ p.val → (t.port q).purlin = (s.port q).purlin ∧ (t.port q).ridge = (s.port q).ridge ∧ (t.port q).roots = (s.port q).roots) ∧ t.mem = s.mem ∧ t.memPoison = s.memPoison ∧ t.homes = s.homes ∧ t.chans = s.chans ∧ t.tenons = s.tenons ∧ s.keepsNet t) ∧
  (∀ (s : State) (p : PortId),
    (s.port p).pers = 4 →
    ((s.port p).purlin.st = 2 ∨ (s.port p).purlin.st = 3) →
    RunsTo (exec (.fastRetrain p true) s) fun t =>
      (t.port p).purlin = { (s.port p).purlin with nakOut := (s.port p).purlin.nakWait, retrains := satAdd 8 (s.port p).purlin.retrains 1, retraining := false, nakRun := 0, nakInRun := 0, replayAt := (if (s.port p).purlin.retry.any (fun e => e.1 == ((s.port p).purlin.ackIn + 1) % 1024) then some (((s.port p).purlin.ackIn + 1) % 1024) else none) } ∧ (s.isBooted (s.frameOfPort p) = true → (s.frame (s.frameOfPort p)).nq.stalled = [] → (s.frame (s.frameOfPort p)).nq.held.length < 252 →
        (t.frame (s.frameOfPort p)).nq.held.getLast?.map (·.2) = some (linkNotice p 3 0 (s.frameOfPort p) 0)) ∧
      (∀ q, q ≠ p.val → (t.port q).purlin = (s.port q).purlin ∧ (t.port q).ridge = (s.port q).ridge ∧ (t.port q).roots = (s.port q).roots) ∧ t.mem = s.mem ∧ t.memPoison = s.memPoison ∧ t.homes = s.homes ∧ t.chans = s.chans ∧ t.tenons = s.tenons ∧ s.keepsNet t) ∧
  (∀ (s : State) (p : PortId),
    (s.port p).pers = 4 →
    (s.port p).purlin.st = 3 →
    (s.frame (s.frameOfPort p)).joinSt = 1 →
    RunsTo (exec (.fastRetrain p false) s) fun t => (t.port p).purlin.st = 5 ∧ (t.port p).purlin.retry = [] ∧ (t.port p).purlin.outQ = [] ∧ (t.port p).purlin.outUnits = [] ∧ (t.port p).purlin.retrains = satAdd 8 (s.port p).purlin.retrains 1 ∧ (∀ q, q ≠ p.val → (t.port q).purlin = (s.port q).purlin ∧ (t.port q).ridge = (s.port q).ridge ∧ (t.port q).roots = (s.port q).roots) ∧ t.mem = s.mem ∧ t.memPoison = s.memPoison ∧ t.homes = s.homes ∧ t.chans = s.chans ∧ t.tenons = s.tenons ∧ s.keepsNet t) ∧
  (∀ (s : State) (p : PortId),
    (s.port p).pers = 4 →
    ((s.port p).purlin.st = 2 ∨ (s.port p).purlin.st = 3) →
    ((s.frame (s.frameOfPort p)).joinSt = 1 ∨ (s.frame (s.frameOfPort p)).joinSt = 2 ∧ (s.port p).purlin.role = 6) →
    RunsTo (exec (.purlinLinkLost p) s) fun t => (t.port p).purlin.st = 5 ∧ (t.port p).purlin.retry = [] ∧ (t.port p).purlin.outQ = [] ∧ (t.port p).purlin.outUnits = [] ∧ (t.frame (s.frameOfPort p)).halted = (s.frame (s.frameOfPort p)).halted ∧ (t.frame (s.frameOfPort p)).joinSt = (s.frame (s.frameOfPort p)).joinSt ∧ (s.isBooted (s.frameOfPort p) = true → (s.frame (s.frameOfPort p)).nq.stalled = [] → (s.frame (s.frameOfPort p)).nq.held.length < 252 →
        (t.frame (s.frameOfPort p)).nq.held.getLast?.map (·.2) = some (linkNotice p 4 0 (s.frameOfPort p) 0)) ∧ (∀ q, q ≠ p.val → (t.port q).purlin = (s.port q).purlin ∧ (t.port q).ridge = (s.port q).ridge ∧ (t.port q).roots = (s.port q).roots) ∧ t.mem = s.mem ∧ t.memPoison = s.memPoison ∧ t.homes = s.homes ∧ t.chans = s.chans ∧ t.tenons = s.tenons ∧ s.keepsNet t) ∧
  (∀ (s : State) (p : PortId) (f : Nat),
    (s.port p).pers = 4 →
    ((s.port p).purlin.st = 2 ∨ (s.port p).purlin.st = 3) →
    f = s.frameOfPort p →
    (s.frame f).joinSt = 2 →
    (s.port p).purlin.role ≠ 6 →
    (s.frame f).halted = false →
    RunsTo (exec (.purlinLinkLost p) s) fun t =>
      (t.frame f).halted = true ∧ t.pins.errorN = false ∧ (∀ g, g ≠ f → (t.frame g).halted = (s.frame g).halted) ∧
      t.scribe.log.any (fun e => e.cls == 4 && e.src == 7 && e.code == 0x29 && e.inst == p.val) = true ∧ t.mem = s.mem ∧ t.memPoison = s.memPoison) ∧
  (∀ (l : Purlin) (a r : Nat),
    (l.st ≠ 3 ∨ l.quiet = true → l.hold a r = l.holdNow a r) ∧ (l.st = 3 → l.quiet = false → l.hold a r = { l with after := some (a, r) }) ∧
      l.holdNow a r = { l with st := 4, refuse := a, role := r, outQ := [], outUnits := [], outPart := 0, retry := [], replayAt := none, partUnits := [], after := none }) ∧
  (∀ (s : State) (l : Purlin) (own src : Nat),
    l.st = 3 →
    l.replayAt = none →
    l.outPart = 0 →
    (msgUnits ({ op := .domainDown, hdr := { src := src, dst := 32 + l.far.port, srcPkg := own, dstPkg := l.far.pkg } } : Msg)).length ≤ l.credit 4 →
    (l.down own src).quiet = true ∧ (l.down own src).retry.getLast? = some (l.txSeq, 0, msgUnits ({ op := .domainDown, hdr := { src := src, dst := 32 + l.far.port, srcPkg := own, dstPkg := l.far.pkg } } : Msg)) ∧ (l.down own src).st = 3 ∧
      (l.down own src).refuse = l.refuse ∧ (l.down own src).role = l.role ∧ (l.down own src).txSeq = (l.txSeq + 1) % 1024) ∧
  (∀ (s : State) (p : PortId) (f : Nat),
    (s.port p).pers = 4 →
    ((s.port p).purlin.st = 2 ∨ (s.port p).purlin.st = 3) →
    f = s.frameOfPort p →
    (s.frame f).joinSt = 0 →
    p.val ∈ s.purlinPorts f →
    RunsTo (exec (.purlinLinkLost p) s) fun t =>
      (t.frame f).joinSt = 1 ∧ (t.frame f).refused = true ∧ (t.frame f).members = [] ∧ (t.frame f).links = [] ∧ (∀ q ∈ s.purlinPorts f, (t.port q).purlin = Purlin.hold (if q = p.val then ({ (s.port q).purlin with st := 5, outQ := [], outUnits := [], outPart := 0, retry := [], replayAt := none, retraining := false, after := none } : Purlin) else (s.port q).purlin.down s.ownPkg (32 + q)) 8 0 ∧ ((t.port q).purlin.st = 4 → (t.port q).inReset = true)) ∧
      (s.isBooted f = true → (s.frame f).nq.stalled = [] → (s.frame f).nq.held.length < 251 → (t.frame f).nq.held.getLast?.map (·.2) = some (linkNotice ((s.purlinPorts f).headD 15) 2 8 f 0)) ∧ (t.frame f).halted = (s.frame f).halted ∧ t.mem = s.mem ∧ t.memPoison = s.memPoison ∧ t.homes = s.homes ∧ t.chans = s.chans ∧ t.tenons = s.tenons ∧ s.keepsNet t ∧ (∀ q, q ∉ s.purlinPorts f → (t.port q).purlin = (s.port q).purlin ∧ (t.port q).roots = (s.port q).roots)) ∧
  (∀ (s : State) (p : PortId),
    ((s.port p).pers ≠ 4 ∨ ((s.port p).purlin.st ≠ 2 ∧ (s.port p).purlin.st ≠ 3)) →
    exec (.purlinLinkLost p) s = .next s) ∧
  (∀ (s : State) (p : PortId) (f : Nat),
    (s.port p).pers = 4 →
    (s.port p).purlin.st = 3 →
    f = s.frameOfPort p →
    (s.frame f).joinSt = 0 →
    (s.frame f).halted = false →
    p.val ∈ s.purlinPorts f →
    RunsTo (exec (.domainDown p) s) fun t =>
      (t.frame f).joinSt = 1 ∧ (t.frame f).refused = true ∧ (t.frame f).members = [] ∧ (t.frame f).links = [] ∧ (∀ q ∈ s.purlinPorts f, (t.port q).purlin = Purlin.hold (if q = p.val then (s.port q).purlin.holdNow (s.port q).purlin.refuse (s.port q).purlin.role else (s.port q).purlin.down s.ownPkg (32 + q)) 8 0 ∧ ((t.port q).purlin.st = 4 → (t.port q).inReset = true)) ∧
      (s.isBooted f = true → (s.frame f).nq.stalled = [] → (s.frame f).nq.held.length < 252 → (t.frame f).nq.held.getLast?.map (·.2) = some (linkNotice ((s.purlinPorts f).headD 15) 2 8 f 0)) ∧ (t.frame f).halted = (s.frame f).halted ∧ t.mem = s.mem ∧ t.memPoison = s.memPoison ∧ t.homes = s.homes ∧ t.chans = s.chans ∧ t.tenons = s.tenons ∧ s.keepsNet t ∧ (∀ q, q ∉ s.purlinPorts f → (t.port q).purlin = (s.port q).purlin ∧ (t.port q).roots = (s.port q).roots)) ∧
  (∀ (s : State) (p : PortId) (u : IdUnit),
    (s.port p).pers = 4 →
    (s.port p).purlin.st = 2 →
    s.identityReason p u = 0 →
    ((s.frame (s.frameOfPort p)).joinDead = false ∧ (s.frame (s.frameOfPort p)).joinSt = 0) →
    (s.port p).purlin.after = none →
    (s.frame (s.frameOfPort p)).heard = [] →
    p.val ∈ s.purlinPorts (s.frameOfPort p) →
    RunsTo (exec (.identityUnit p u) s) fun t =>
      (t.port p).purlin = { (s.port p).purlin with far := u, ident := true, st := 3, outQ := (s.port p).purlin.outQ ++ [({ op := .mgmt, hdr := { src := 32 + p.val, dst := 32 + (t.port p.val).purlin.far.port, srcPkg := s.plumb.pkgId, dstPkg := (t.port p.val).purlin.far.pkg }, data := BitVec.ofNat 512 (Mgmt.data (Mgmt.ids p s.plumb.pkgId (t.ownLinks (s.frameOfPort p)))) } : Msg), ({ op := .mgmt, hdr := { src := 32 + p.val, dst := 32 + (t.port p.val).purlin.far.port, srcPkg := s.plumb.pkgId, dstPkg := (t.port p.val).purlin.far.pkg }, data := BitVec.ofNat 512 (Mgmt.data (Mgmt.ask p (BitVec.ofNat 60 (s.mtimeOf (s.frameOfPort p)).toNat))) } : Msg)] } ∧
      (∀ q ∈ s.upPorts (s.frameOfPort p), (s.port q).purlin.after = none → (t.port q).purlin.outQ = (s.port q).purlin.outQ ++ [({ op := .mgmt, hdr := { src := 32 + q, dst := 32 + (t.port q).purlin.far.port, srcPkg := s.plumb.pkgId, dstPkg := (t.port q).purlin.far.pkg }, data := BitVec.ofNat 512 (Mgmt.data (Mgmt.ids (Fin.ofNat 8 q) s.plumb.pkgId (t.ownLinks (s.frameOfPort p)))) } : Msg)]) ∧
      (s.isBooted (s.frameOfPort p) = true → (s.frame (s.frameOfPort p)).nq.stalled = [] → (s.frame (s.frameOfPort p)).nq.held.length < 252 →
        (t.frame (s.frameOfPort p)).nq.held.getLast?.map (·.2) = some (linkNotice p 0 0 (s.frameOfPort p) 0)) ∧ (∀ q, q ≠ p.val → (t.port q).purlin = { (s.port q).purlin with outQ := (t.port q).purlin.outQ } ∧ (t.port q).ridge = (s.port q).ridge ∧ (t.port q).roots = (s.port q).roots) ∧ t.mem = s.mem ∧ t.memPoison = s.memPoison ∧ t.homes = s.homes ∧ t.chans = s.chans ∧ t.tenons = s.tenons ∧ s.keepsNet t) ∧
  (∀ (s : State) (p : PortId) (u : IdUnit),
    (s.port p).pers = 4 →
    (s.port p).purlin.st = 2 →
    s.identityReason p u = 0 →
    ((s.frame (s.frameOfPort p)).joinDead = true ∨ (s.frame (s.frameOfPort p)).joinSt ≠ 0) →
    exec (.identityUnit p u) s = .next (s.setPurlin p { (s.port p).purlin with far := u, ident := true })) ∧
  (∀ (s : State) (p : PortId) (u : IdUnit) (r : Nat),
    (s.port p).pers = 4 →
    (s.port p).purlin.st = 2 →
    r = (if u.fcIdx ≠ s.mode / 4 then 1 else if u.variant ≠ b2n (variantO s.mode) then 2 else if u.joined ≠ joinedMode s.mode then 3 else if u.frame ≠ s.frameOfPort p then 4 else if u.pkg = s.plumb.pkgId then 5 else 0) →
    r ≠ 0 →
    RunsTo (exec (.identityUnit p u) s) fun t =>
      (t.port p).inReset = true ∧ (t.port p).purlin.st = 4 ∧ (t.port p).purlin.refuse = r ∧ (t.port p).purlin.outQ = [] ∧ (t.port p).purlin.retry = [] ∧
      (s.isBooted (s.frameOfPort p) = true → (s.frame (s.frameOfPort p)).nq.stalled = [] → (s.frame (s.frameOfPort p)).nq.held.length < 252 →
        (t.frame (s.frameOfPort p)).nq.held.getLast?.map (·.2) = some (linkNotice p 2 r (s.frameOfPort p) 0)) ∧ (∀ q, q ≠ p.val → (t.port q).purlin = (s.port q).purlin ∧ (t.port q).ridge = (s.port q).ridge ∧ (t.port q).roots = (s.port q).roots) ∧ t.mem = s.mem ∧ t.memPoison = s.memPoison ∧ t.homes = s.homes ∧ t.chans = s.chans ∧ t.tenons = s.tenons ∧ s.keepsNet t) ∧
  (∀ (s : State) (p : PortId) (u : IdUnit),
    ((s.port p).pers ≠ 4 ∨ (s.port p).purlin.st ≠ 2) →
    exec (.identityUnit p u) s = .next s) ∧
  (∀ (s : State) (p : PortId),
    (s.plumb.pkgId < 8 ∧ s.frameOfPort p < 4 ∧ s.mode < 16 ∧ (s.port p).purlin.width < 32) →
    idOfUnit (s.idUnit p) = { rev := 1, pkg := s.plumb.pkgId, frame := s.frameOfPort p, fcIdx := s.mode / 4, variant := b2n (variantO s.mode), joined := joinedMode s.mode, port := p, width := (s.port p).purlin.width }) ∧
  (∀ (s : State) (p : PortId) (h : PFlitHdr) (u : BitVec 128) (us : List (BitVec 128)),
    (s.port p).pers = 4 →
    (s.port p).purlin.st = 2 →
    (s.port p).purlin.retraining = false →
    (s.port p).purlin.after = none →
    h.seq = (s.port p).purlin.rxSeq →
    s.net.all (fun m => m.outP != some p.val) = true →
    h.nak = false →
    h.kind = 2 →
    s.identityReason p (idOfUnit u) = 0 →
    ((s.frame (s.frameOfPort p)).joinDead = true ∨ (s.frame (s.frameOfPort p)).joinSt ≠ 0) →
    RunsTo (exec (.purlinFlitReceived p h (u :: us) 0) s) fun t => t.port p = Port.transmits { s.port p with purlin := Purlin.tick { (s.port p).purlin with rxSeq := ((s.port p).purlin.rxSeq + 1) % 1024, nakOut := false, nakWait := false, nakRun := 0, nakInRun := 0, ackIn := h.ack, farFreed := if h.crClass < 5 then Tab.put (s.port p).purlin.farFreed 0 h.crClass (h.crCount % 4096) else (s.port p).purlin.farFreed, far := idOfUnit u, ident := true } } ∧ (∀ q, q ≠ p.val → t.port q = s.port q) ∧ t = { s with ports := t.ports }) ∧
  (∀ (s : State) (f : FrameId),
    (framesOf s.mode).contains f.val = true →
    joinedMode s.mode = true →
    (s.frame f).booted = true →
    (s.frame f).halted = false →
    (s.frame f).joinSt = 0 →
    (s.frame f).joinStep = 0 →
    (s.joinView f).passes (frameCount s.mode) s.plumb.pkgId = true →
    s.upPorts f ≠ [] →
    (∃ q ∈ s.upPorts f, (s.port q).purlin.digest = none) →
    (∀ q ∈ s.upPorts f, (s.port q).purlin.digest.all (fun d => d == BitVec.ofNat 32 (s.joinView f).digest) = true) →
    RunsTo (exec (.join f) s) fun t =>
      t.frame f = { s.frame f with joinStep := 1 } ∧
      (∀ q, (t.port q).purlin = if q ∈ s.upPorts f ∧ (s.port q).purlin.after = none then { (s.port q).purlin with outQ := (s.port q).purlin.outQ ++ [({ op := .mgmt, hdr := { src := 32 + q, dst := 32 + (t.port q).purlin.far.port, srcPkg := s.plumb.pkgId, dstPkg := (t.port q).purlin.far.pkg }, data := BitVec.ofNat 512 (Mgmt.data (Mgmt.digest (Fin.ofNat 8 q) (BitVec.ofNat 32 (s.joinView f).digest))) } : Msg)] } else (s.port q).purlin) ∧ (∀ g, g ≠ f.val → t.frame g = s.frame g) ∧ t = { s with ports := t.ports, frames := t.frames }) ∧
  (∀ (s : State) (f : FrameId),
    (framesOf s.mode).contains f.val = true →
    joinedMode s.mode = true →
    (s.frame f).booted = true →
    (s.frame f).halted = false →
    (s.frame f).joinSt = 0 →
    (s.frame f).joinStep = 0 →
    ((s.joinView f).passes (frameCount s.mode) s.plumb.pkgId = false ∨ s.upPorts f = []) →
    RunsTo (exec (.join f) s) fun t =>
      (t.frame f).joinSt = 1 ∧ (t.frame f).refused = true ∧ (t.frame f).members = [] ∧ (t.frame f).links = [] ∧ (∀ q ∈ s.purlinPorts f, (t.port q).purlin = Purlin.hold ((s.port q).purlin) 6 0 ∧ ((t.port q).purlin.st = 4 → (t.port q).inReset = true)) ∧
      (s.isBooted f = true → (s.frame f).nq.stalled = [] → (s.frame f).nq.held.length < 252 → (t.frame f).nq.held.getLast?.map (·.2) = some (linkNotice ((s.purlinPorts f).headD 15) 2 6 f 0)) ∧ (t.frame f).halted = (s.frame f).halted ∧ t.mem = s.mem ∧ t.memPoison = s.memPoison ∧ t.homes = s.homes ∧ t.chans = s.chans ∧ t.tenons = s.tenons ∧ s.keepsNet t ∧ (∀ q, q ∉ s.purlinPorts f → (t.port q).purlin = (s.port q).purlin ∧ (t.port q).roots = (s.port q).roots)) ∧
  (∀ (s : State) (p : PortId) (f : FrameId) (c : BitVec 32),
    (s.port p).pers = 4 →
    (s.port p).purlin.st = 3 →
    f.val = (s.frameOfPort p) →
    (s.frame f).halted = false →
    (s.frame f).joinSt = 0 →
    (s.frame f).joinStep = 1 →
    c ≠ BitVec.ofNat 32 (s.joinView f).digest →
    p.val ∈ s.upPorts f →
    RunsTo (exec (.mgmt (.digest p c)) s) fun t =>
      (t.frame f).joinSt = 1 ∧ (t.frame f).refused = true ∧ (t.frame f).members = [] ∧ (t.frame f).links = [] ∧ (∀ q ∈ s.purlinPorts f, (t.port q).purlin = Purlin.hold ({ (s.port q).purlin with digest := if q = p.val then some c else (s.port q).purlin.digest }) 7 0 ∧ ((t.port q).purlin.st = 4 → (t.port q).inReset = true)) ∧
      (s.isBooted f = true → (s.frame f).nq.stalled = [] → (s.frame f).nq.held.length < 252 → (t.frame f).nq.held.getLast?.map (·.2) = some (linkNotice ((s.purlinPorts f).headD 15) 2 7 f 0)) ∧ (t.frame f).halted = (s.frame f).halted ∧ t.mem = s.mem ∧ t.memPoison = s.memPoison ∧ t.homes = s.homes ∧ t.chans = s.chans ∧ t.tenons = s.tenons ∧ s.keepsNet t ∧ (∀ q, q ∉ s.purlinPorts f → (t.port q).purlin = (s.port q).purlin ∧ (t.port q).roots = (s.port q).roots)) ∧
  (∀ (s : State) (p : PortId) (f : FrameId) (c : BitVec 32),
    (s.port p).pers = 4 →
    (s.port p).purlin.st = 3 →
    f.val = (s.frameOfPort p) →
    (s.frame f).halted = false →
    (s.frame f).joinSt = 0 →
    (s.frame f).joinStep = 1 →
    c = BitVec.ofNat 32 (s.joinView f).digest →
    p.val ∈ s.upPorts f →
    (∀ q ∈ s.upPorts f, q ≠ p.val → (s.port q).purlin.digest = some c) →
    (s.joinView f).members.all (fun m => m == s.plumb.pkgId || (Tab.find (s.frame f).heardTime m).isSome) = false →
    RunsTo (exec (.mgmt (.digest p c)) s) fun t =>
      t.frame f = { s.frame f with joinStep := 2 } ∧ (t.port p).purlin.digest = some c ∧
      (∀ q ∈ s.upPorts f, (s.port q).purlin.after = none → (t.port q).purlin.outQ = (s.port q).purlin.outQ ++ [({ op := .mgmt, hdr := { src := 32 + q, dst := 32 + (t.port q).purlin.far.port, srcPkg := s.plumb.pkgId, dstPkg := (t.port q).purlin.far.pkg }, data := BitVec.ofNat 512 (Mgmt.data (Mgmt.time (Fin.ofNat 8 q) s.plumb.pkgId (s.mtimeOf f))) } : Msg)]) ∧
      (∀ q, (t.port q).purlin = { (s.port q).purlin with outQ := (t.port q).purlin.outQ, digest := (t.port q).purlin.digest }) ∧ (∀ g, g ≠ f.val → t.frame g = s.frame g) ∧ t = { s with ports := t.ports, frames := t.frames }) ∧
  (∀ (s : State) (p : PortId) (f : FrameId) (pkg : Nat) (x : BitVec 64) (d : Int),
    (s.port p).pers = 4 →
    (s.port p).purlin.st = 3 →
    f.val = (s.frameOfPort p) →
    (s.frame f).halted = false →
    (s.frame f).joinSt = 0 →
    (s.frame f).joinStep = 2 →
    pkg ≠ s.plumb.pkgId →
    Tab.find (s.frame f).heardTime pkg = none →
    d = (x.toNat + (s.port p).purlin.delay : Int) - (s.mtimeOf f).toNat →
    (s.joinView f).members.all (fun m => m == s.plumb.pkgId || m == pkg || (Tab.find (s.frame f).heardTime m).isSome) = true →
    s.purlinPorts f = [p.val] →
    p.val ∈ s.upPorts f →
    (s.joinView f).members.length = 2 →
    (s.joinView f).members.contains (s.port p).purlin.far.pkg = true →
    (s.frame f).topGib ≤ 4096 →
    RunsTo (exec (.mgmt (.time p pkg x)) s) fun t =>
      (t.frame f).joinSt = 2 ∧ (t.frame f).members = (s.joinView f).members ∧ (t.frame f).links = (s.joinView f).links ∧
      (t.frame f).mtimeOff = (s.frame f).mtimeOff + BitVec.ofNat 64 ((Tab.set (s.frame f).heardTime pkg d).foldl (fun (m : Int) (e : Nat × Int) => max m e.2) 0).toNat ∧
      t.port p = { s.port p with purlin := { (s.port p).purlin with role := 1 } } ∧ (∀ q, q ≠ p.val → t.port q = s.port q) ∧ (∀ g, g ≠ f.val → t.frame g = s.frame g) ∧ t = { s with ports := t.ports, frames := t.frames }) ∧
  (∀ (s : State) (p : PortId) (f : FrameId) (pkg : Nat) (x : BitVec 64) (d : Int) (a b : Nat),
    (s.port p).pers = 4 →
    (s.port p).purlin.st = 3 →
    f.val = (s.frameOfPort p) →
    (s.frame f).halted = false →
    (s.frame f).joinSt = 0 →
    (s.frame f).joinStep = 2 →
    pkg ≠ s.plumb.pkgId →
    Tab.find (s.frame f).heardTime pkg = none →
    d = (x.toNat + (s.port p).purlin.delay : Int) - (s.mtimeOf f).toNat →
    (s.joinView f).members.all (fun m => m == s.plumb.pkgId || m == pkg || (Tab.find (s.frame f).heardTime m).isSome) = true →
    (s.joinView f).members.length = 4 →
    (∀ q ∈ s.purlinPorts f, (s.port q).purlin.st = 3) →
    (a ∈ s.purlinPorts f ∧ b ∈ s.purlinPorts f ∧ a < b) →
    (s.joinView f).members.contains (s.port a).purlin.far.pkg = true →
    (s.port b).purlin.far.pkg = (s.port a).purlin.far.pkg →
    (∀ q ∈ s.purlinPorts f, q < a → (s.port q).purlin.far.pkg ≠ (s.port a).purlin.far.pkg) →
    RunsTo (exec (.mgmt (.time p pkg x)) s) fun t =>
      (t.frame f).joinSt = 2 ∧ (t.frame f).members = (s.joinView f).members ∧ (t.frame f).links = (s.joinView f).links ∧
      (t.frame f).mtimeOff = (s.frame f).mtimeOff + BitVec.ofNat 64 ((Tab.set (s.frame f).heardTime pkg d).foldl (fun (m : Int) (e : Nat × Int) => max m e.2) 0).toNat ∧
      (t.port a).purlin.role = 2 ∧ (t.port a).purlin.st = 3 ∧ ((t.port b).purlin.st = 4 ∧ (t.port b).inReset = true ∧ (t.port b).purlin.role = 6 ∨ (t.port b).purlin.after = some ((s.port b).purlin.refuse, 6)) ∧
      t.mem = s.mem ∧ t.memPoison = s.memPoison ∧ t.homes = s.homes ∧ t.chans = s.chans ∧ t.tenons = s.tenons ∧ (∀ q, q ∉ s.purlinPorts f → (t.port q).purlin = (s.port q).purlin)) ∧
  (∀ (s : State) (p : PortId) (f : FrameId) (pkg : Nat) (x : BitVec 64) (d : Int) (b : Nat),
    (s.port p).pers = 4 →
    (s.port p).purlin.st = 3 →
    f.val = (s.frameOfPort p) →
    (s.frame f).halted = false →
    (s.frame f).joinSt = 0 →
    (s.frame f).joinStep = 2 →
    pkg ≠ s.plumb.pkgId →
    Tab.find (s.frame f).heardTime pkg = none →
    d = (x.toNat + (s.port p).purlin.delay : Int) - (s.mtimeOf f).toNat →
    (s.joinView f).members.all (fun m => m == s.plumb.pkgId || m == pkg || (Tab.find (s.frame f).heardTime m).isSome) = true →
    b ∈ s.purlinPorts f →
    (s.port b).purlin.st ≠ 3 →
    RunsTo (exec (.mgmt (.time p pkg x)) s) fun t =>
      (t.frame f).joinSt = 2 ∧ (t.frame f).members = (s.joinView f).members ∧ (t.frame f).links = (s.joinView f).links ∧
      (t.frame f).mtimeOff = (s.frame f).mtimeOff + BitVec.ofNat 64 ((Tab.set (s.frame f).heardTime pkg d).foldl (fun (m : Int) (e : Nat × Int) => max m e.2) 0).toNat ∧ (t.port b).purlin.st = 4 ∧ (t.port b).inReset = true ∧ (t.port b).purlin.role = 6) ∧
  (∀ (s : State) (p : PortId) (f : FrameId) (x y : BitVec 60) (n d : Nat),
    (s.port p).pers = 4 →
    (s.port p).purlin.st = 3 →
    f.val = (s.frameOfPort p) →
    (s.frame f).halted = false →
    (s.frame f).joinSt = 2 →
    rankOf (s.frame f).members s.plumb.pkgId ≠ 0 →
    s.masterPort f = some p.val →
    n = (BitVec.ofNat 60 (s.mtimeOf f).toNat).toNat →
    d = (BitVec.ofNat 60 (s.mtimeOf f).toNat - x).toNat / 2 →
    RunsTo (exec (.mgmt (.answer p x y)) s) fun t =>
      t.port p = { s.port p with purlin := { (s.port p).purlin with delay := d } } ∧ (∀ q, q ≠ p.val → t.port q = s.port q) ∧
      t.frame f = { s.frame f with slew := max (-100) (min 100 ((y.toNat + d : Int) - n)) } ∧ (∀ g, g ≠ f.val → t.frame g = s.frame g) ∧ t = { s with ports := t.ports, frames := t.frames }) ∧
  (∀ (s : State) (f : FrameId),
    (framesOf s.mode).contains f.val = true →
    joinedMode s.mode = true →
    (s.frame f).booted = true →
    (s.frame f).halted = false →
    (s.frame f).joinSt = 0 →
    s.upPorts f = [] →
    RunsTo (exec (.joinDeadline f) s) fun t =>
      (t.frame f).joinDead = true ∧ (t.frame f).joinSt = 1 ∧ (t.frame f).refused = true ∧ (t.frame f).members = [] ∧ (t.frame f).links = [] ∧ (∀ q ∈ s.purlinPorts f, (t.port q).purlin = Purlin.hold ((s.port q).purlin) 6 0 ∧ ((t.port q).purlin.st = 4 → (t.port q).inReset = true)) ∧ (∀ q ∈ s.purlinPorts f, (t.port q).purlin.st = 4 ∧ (t.port q).inReset = true) ∧
      (s.isBooted f = true → (s.frame f).nq.stalled = [] → (s.frame f).nq.held.length < 252 → (t.frame f).nq.held.getLast?.map (·.2) = some (linkNotice ((s.purlinPorts f).headD 15) 2 6 f 0)) ∧ (t.frame f).halted = (s.frame f).halted ∧ t.mem = s.mem ∧ t.memPoison = s.memPoison ∧ t.homes = s.homes ∧ t.chans = s.chans ∧ t.tenons = s.tenons ∧ s.keepsNet t ∧ (∀ q, q ∉ s.purlinPorts f → (t.port q).purlin = (s.port q).purlin ∧ (t.port q).roots = (s.port q).roots)) ∧
  (∀ (s : State) (f : FrameId),
    (framesOf s.mode).contains f.val = true →
    joinedMode s.mode = true →
    (s.frame f).booted = true →
    (s.frame f).halted = false →
    ((s.frame f).joinSt ≠ 0 ∨ s.upPorts f ≠ []) →
    exec (.joinDeadline f) s = .next (s.setFrame f { s.frame f with joinDead := true })) ∧
  (∀ (s : State) (f : FrameId),
    ((framesOf s.mode).contains f.val = false ∨ joinedMode s.mode = false ∨ (s.frame f).booted = false ∨ (s.frame f).halted = true ∨ (s.frame f).joinSt ≠ 0 ∨ (s.frame f).joinStep ≠ 0) →
    exec (.join f) s = .next s) ∧
  (∀ (s : State) (f : FrameId),
    ((framesOf s.mode).contains f.val = false ∨ joinedMode s.mode = false ∨ (s.frame f).booted = false ∨ (s.frame f).halted = true) →
    exec (.joinDeadline f) s = .next s) ∧
  (∀ (s : State) (f : FrameId) (p : PortId),
    (s.frame f).joinSt = 2 →
    (s.frame f).halted = false →
    rankOf (s.frame f).members s.plumb.pkgId ≠ 0 →
    s.masterPort f = some p.val →
    (s.port p).purlin.after = none →
    RunsTo (exec (.timeExchange f) s) fun t =>
      t.port p = { s.port p with purlin := { (s.port p).purlin with outQ := (s.port p).purlin.outQ ++ [({ op := .mgmt, hdr := { src := 32 + p.val, dst := 32 + (t.port p.val).purlin.far.port, srcPkg := s.plumb.pkgId, dstPkg := (t.port p.val).purlin.far.pkg }, data := BitVec.ofNat 512 (Mgmt.data (Mgmt.ask p (BitVec.ofNat 60 (s.mtimeOf f).toNat))) } : Msg)] } } ∧ (∀ q, q ≠ p.val → t.port q = s.port q) ∧ t = { s with ports := t.ports }) ∧
  (∀ (s : State) (f : FrameId),
    ((s.frame f).joinSt ≠ 2 ∨ (s.frame f).halted = true ∨ rankOf (s.frame f).members s.plumb.pkgId = 0 ∨ s.masterPort f = none) →
    exec (.timeExchange f) s = .next s)

/-- LINK_IDENT of a switch brings a ridge port UP with the partner's buffers, and of a node holds it. LINK_ACK takes the partner's credits, RESPs that waited for one go, and with NAK the codewords after ACK_SEQ that are kept are sent again. The NODE_ASSIGN of the first port to come up fixes the frame's node ID and is confirmed, one of another port waits for it; another ID is refused and holds the port with ID_MISMATCH. NODE_CONFIRM changes nothing a node holds. RESP ends the outstanding request of its tag: data reach the hart's register, or where poisoned wait as poison of source 5, an error status of a load raises an access fault, and of a write loses its data and is logged; a packet of a bad CRC and one of no request are dropped and logged, and the latter frees its quarantined tag. A timed-out request fails and its tag is quarantined until the quarantine ends. A codeword error asks for a replay from the last good SEQ and counts a corrected error; the eighth in a row for one SEQ retrains the port, and where the retrain fails the port fails, its requests end as timeouts, and a frame left without a port UP keeps no node ID. On a port that is not a ridge port, or not UP, these commands change nothing. -/
def Obligations.RidgeLinksAndResponses : Prop :=
  (∀ (s : State) (p : PortId) (role lanes rev : Nat) (req pst rsp : BitVec 16),
    (s.port p).pers = 5 →
    (s.port p).ridge.st = 1 →
    (role = 1 ∧ rev = 1) →
    RunsTo (exec (.linkIdent p role lanes rev req pst rsp) s) fun t =>
      (t.port p).ridge = { (s.port p).ridge with st := 2, discard := false, nakRun := 0, rxSeq := ((s.port p).ridge.rxSeq + 1) % 1024, farReq := req.toNat, farPst := pst.toNat, farRsp := rsp.toNat, width := min (s.port p).ridge.width lanes, upNo := (t.port p).ridge.upNo, assign := none } ∧
      (∀ q ∈ portsOf s.mode (s.frameOfPort p), (s.port q).ridge.upNo < (t.port p).ridge.upNo) ∧ (s.isBooted (s.frameOfPort p) = true → (s.frame (s.frameOfPort p)).nq.stalled = [] → (s.frame (s.frameOfPort p)).nq.held.length < 252 →
        (t.frame (s.frameOfPort p)).nq.held.getLast?.map (·.2) = some (linkNotice p 0 0 (s.frameOfPort p) 0)) ∧ (∀ q, q ≠ p.val → (t.port q).purlin = (s.port q).purlin ∧ (t.port q).ridge = (s.port q).ridge ∧ (t.port q).roots = (s.port q).roots) ∧ t.mem = s.mem ∧ t.memPoison = s.memPoison ∧ t.homes = s.homes ∧ t.chans = s.chans ∧ t.tenons = s.tenons ∧ s.keepsNet t) ∧
  (∀ (s : State) (p : PortId) (role lanes rev : Nat) (req pst rsp : BitVec 16),
    (s.port p).pers = 5 →
    (s.port p).ridge.st = 1 →
    (role ≠ 1 ∨ rev ≠ 1) →
    exec (.linkIdent p role lanes rev req pst rsp) s = .next (s.setRidge p { (s.port p).ridge with st := 3, discard := false, nakRun := 0, rxSeq := ((s.port p).ridge.rxSeq + 1) % 1024, farReq := req.toNat, farPst := pst.toNat, farRsp := rsp.toNat, width := 0 })) ∧
  (∀ (s : State) (p : PortId) (a : BitVec 10) (nak : Bool) (req pst rsp : BitVec 16),
    (s.port p).pers = 5 →
    (s.port p).ridge.st = 2 →
    s.quietFrame (s.frameOfPort p) none →
    nak = false →
    (s.port p).ridge.rspQ = [] →
    RunsTo (exec (.linkAck p a nak req pst rsp) s) fun t =>
      (t.port p).ridge = { (s.port p).ridge with discard := false, nakRun := 0, rxSeq := ((s.port p).ridge.rxSeq + 1) % 1024, ackSeq := a.toNat, replay := nak, farFreed := (req.toNat, pst.toNat, rsp.toNat) } ∧ (∀ c, t.core c = s.core c) ∧ (∀ q, q ≠ p.val → t.port q = s.port q) ∧ t.mem = s.mem ∧ t.memPoison = s.memPoison ∧ t.homes = s.homes ∧ t.chans = s.chans ∧ t.tenons = s.tenons ∧ t.net = s.net ∧ t.frames = s.frames ∧ t.scribe = s.scribe) ∧
  (∀ (s : State) (p : PortId) (a : BitVec 10) (nak : Bool) (req pst rsp : BitVec 16) (k : RPkt),
    (s.port p).pers = 5 →
    (s.port p).ridge.st = 2 →
    s.quietFrame (s.frameOfPort p) none →
    nak = false →
    (s.port p).ridge.rspQ = [k] →
    rsp.toNat = (s.port p).ridge.sentSl.2.2 →
    ridgeSlots k.data.length ≤ (s.port p).ridge.farRsp →
    k.op = 8 →
    RunsTo (exec (.linkAck p a nak req pst rsp) s) fun t =>
      (t.port p).ridge = Ridge.emit { (s.port p).ridge with discard := false, nakRun := 0, rxSeq := ((s.port p).ridge.rxSeq + 1) % 1024, ackSeq := a.toNat, replay := nak, farFreed := (req.toNat, pst.toNat, rsp.toNat), rspQ := [] } k ∧ (∀ c, t.core c = s.core c) ∧ (∀ q, q ≠ p.val → t.port q = s.port q) ∧ t.mem = s.mem ∧ t.memPoison = s.memPoison ∧ t.homes = s.homes ∧ t.chans = s.chans ∧ t.tenons = s.tenons ∧ t.net = s.net ∧ t.frames = s.frames ∧ t.scribe = s.scribe) ∧
  (∀ (s : State) (p : PortId) (a : BitVec 10) (nak : Bool) (req pst rsp : BitVec 16),
    (s.port p).pers = 5 →
    (s.port p).ridge.st = 2 →
    s.quietFrame (s.frameOfPort p) none →
    nak = true →
    (s.port p).ridge.rspQ = [] →
    RunsTo (exec (.linkAck p a nak req pst rsp) s) fun t =>
      (t.port p).ridge = { (s.port p).ridge with discard := false, nakRun := 0, rxSeq := ((s.port p).ridge.rxSeq + 1) % 1024, ackSeq := a.toNat, replay := nak, farFreed := (req.toNat, pst.toNat, rsp.toNat), again := ((s.port p).ridge.sent.drop ((s.port p).ridge.sent.length - min (((s.port p).ridge.txSeq + 1023 - a.toNat) % 1024) (s.port p).ridge.sent.length)).map (fun e => e.1 / 4) } ∧ (∀ q, q ≠ p.val → (t.port q).purlin = (s.port q).purlin ∧ (t.port q).ridge = (s.port q).ridge ∧ (t.port q).roots = (s.port q).roots) ∧ t.mem = s.mem ∧ t.memPoison = s.memPoison ∧ t.homes = s.homes ∧ t.chans = s.chans ∧ t.tenons = s.tenons ∧ s.keepsNet t) ∧
  (∀ (s : State) (r : Ridge) (l : List Nat),
    r.sinceAlign < 16383 →
    r.sendLink l = { r with linkOut := r.linkOut ++ [l], sent := (r.sent ++ [(codewordHeader r.txSeq, linkSlot l :: (List.range 19).map (fun _ => (List.range 32).map (fun _ => (0 : Byte))))]).drop (r.sent.length + 1 - 256), txSeq := (r.txSeq + 1) % 1024, sinceAlign := r.sinceAlign + 1, sinceAck := r.sinceAck + 1 }) ∧
  (∀ (s : State) (p : PortId) (id : BitVec 16),
    (s.port p).pers = 5 →
    (s.port p).ridge.st = 2 →
    s.quietFrame (s.frameOfPort p) none →
    (s.frame (s.frameOfPort p)).node = false →
    s.ridgePorts (s.frameOfPort p) = [p.val] →
    RunsTo (exec (.nodeAssign p id) s) fun t =>
      t.frame (s.frameOfPort p) = { s.frame (s.frameOfPort p) with node := true, nodeId := id.toNat } ∧ (t.port p).ridge = Ridge.sendLink { (s.port p).ridge with discard := false, nakRun := 0, rxSeq := ((s.port p).ridge.rxSeq + 1) % 1024, assign := none } [0x83, id.toNat % 256, id.toNat / 256, 0] ∧
      (∀ g, g ≠ (s.frameOfPort p) → t.frame g = s.frame g) ∧ (∀ q, q ≠ p.val → t.port q = s.port q) ∧ (∀ c, t.core c = s.core c) ∧ t.mem = s.mem ∧ t.memPoison = s.memPoison ∧ t.homes = s.homes ∧ t.chans = s.chans ∧ t.tenons = s.tenons ∧ t.net = s.net ∧ t.scribe = s.scribe) ∧
  (∀ (s : State) (p : PortId) (id : BitVec 16),
    (s.port p).pers = 5 →
    (s.port p).ridge.st = 2 →
    s.quietFrame (s.frameOfPort p) none →
    (s.frame (s.frameOfPort p)).node = true →
    (s.frame (s.frameOfPort p)).nodeId = id.toNat →
    (∀ q ∈ s.ridgePorts (s.frameOfPort p), q ≠ p.val → (s.port q).ridge.assign = none) →
    p.val ∈ s.ridgePorts (s.frameOfPort p) →
    RunsTo (exec (.nodeAssign p id) s) fun t => (t.port p).ridge = Ridge.sendLink { (s.port p).ridge with discard := false, nakRun := 0, rxSeq := ((s.port p).ridge.rxSeq + 1) % 1024, assign := none } [0x83, id.toNat % 256, id.toNat / 256, 0] ∧ (∀ c, t.core c = s.core c) ∧ (∀ q, q ≠ p.val → t.port q = s.port q) ∧ t.mem = s.mem ∧ t.memPoison = s.memPoison ∧ t.homes = s.homes ∧ t.chans = s.chans ∧ t.tenons = s.tenons ∧ t.net = s.net ∧ t.frames = s.frames ∧ t.scribe = s.scribe) ∧
  (∀ (s : State) (p : PortId) (id : BitVec 16),
    (s.port p).pers = 5 →
    (s.port p).ridge.st = 2 →
    s.quietFrame (s.frameOfPort p) none →
    (s.frame (s.frameOfPort p)).node = false →
    (∃ q ∈ s.ridgePorts (s.frameOfPort p), q ≠ p.val ∧ (s.upOrder (s.frameOfPort p)).head? = some q ∧ (s.port q).ridge.assign = none) →
    RunsTo (exec (.nodeAssign p id) s) fun t => (t.port p).ridge = { (s.port p).ridge with discard := false, nakRun := 0, rxSeq := ((s.port p).ridge.rxSeq + 1) % 1024, assign := some id.toNat } ∧ (∀ c, t.core c = s.core c) ∧ (∀ q, q ≠ p.val → t.port q = s.port q) ∧ t.mem = s.mem ∧ t.memPoison = s.memPoison ∧ t.homes = s.homes ∧ t.chans = s.chans ∧ t.tenons = s.tenons ∧ t.net = s.net ∧ t.frames = s.frames ∧ t.scribe = s.scribe) ∧
  (∀ (s : State) (p : PortId) (id : BitVec 16),
    (s.port p).pers = 5 →
    (s.port p).ridge.st = 2 →
    s.quietFrame (s.frameOfPort p) none →
    (s.frame (s.frameOfPort p)).node = true →
    (s.frame (s.frameOfPort p)).nodeId ≠ id.toNat →
    (∀ q ∈ s.ridgePorts (s.frameOfPort p), q ≠ p.val → (s.port q).ridge.assign = none) →
    p.val ∈ s.ridgePorts (s.frameOfPort p) →
    RunsTo (exec (.nodeAssign p id) s) fun t =>
      (t.frame (s.frameOfPort p)).node = decide (s.ridgePorts (s.frameOfPort p) ≠ [p.val]) ∧ (t.frame (s.frameOfPort p)).nodeId = (s.frame (s.frameOfPort p)).nodeId ∧
      (t.port p).ridge = { Ridge.sendLink { (s.port p).ridge with discard := false, nakRun := 0, rxSeq := ((s.port p).ridge.rxSeq + 1) % 1024, assign := none } [0x83, id.toNat % 256, id.toNat / 256, 1] with mismatch := true, st := 3, width := 0 } ∧ (s.isBooted (s.frameOfPort p) = true → (s.frame (s.frameOfPort p)).nq.stalled = [] → (s.frame (s.frameOfPort p)).nq.held.length < 252 →
        (t.frame (s.frameOfPort p)).nq.held.getLast?.map (·.2) = some (linkNotice p 5 0 (s.frameOfPort p) (s.frame (s.frameOfPort p)).nodeId)) ∧ (∀ q, q ≠ p.val → (t.port q).purlin = (s.port q).purlin ∧ (t.port q).ridge = (s.port q).ridge ∧ (t.port q).roots = (s.port q).roots) ∧ t.mem = s.mem ∧ t.memPoison = s.memPoison ∧ t.homes = s.homes ∧ t.chans = s.chans ∧ t.tenons = s.tenons ∧ s.keepsNet t) ∧
  (∀ (s : State) (p : PortId) (id : BitVec 16) (b : Bool),
    (s.port p).pers = 5 →
    (s.port p).ridge.st = 2 →
    exec (.nodeConfirm p id b) s = .next (s.setRidge p { (s.port p).ridge with discard := false, nakRun := 0, rxSeq := ((s.port p).ridge.rxSeq + 1) % 1024 })) ∧
  (∀ (s : State) (p : PortId) (i : Instr) (a : BitVec 10) (nak ok : Bool) (role lanes rev : Nat) (req pst rsp id : BitVec 16) (pkt : RPkt),
    ((s.port p).pers ≠ 5 ∨ ((s.port p).ridge.st ≠ 1 ∧ (s.port p).ridge.st ≠ 2)) →
    i ∈ ([.linkIdent p role lanes rev req pst rsp, .linkAck p a nak req pst rsp, .nodeAssign p id, .nodeConfirm p id ok, .resp p pkt, .ridgeCodewordError p ok, .ridgeRead p pkt, .ridgeWrite p pkt, .writePosted p pkt, .ridgeAtomic p pkt, .ridgeFence p pkt] : List Instr) →
    exec i s = .next s) ∧
  (∀ (s : State) (p : PortId) (i : Instr) (a : BitVec 10) (nak ok : Bool) (req pst rsp id : BitVec 16) (pkt : RPkt),
    (s.port p).ridge.st = 1 →
    i ∈ ([.linkAck p a nak req pst rsp, .nodeAssign p id, .nodeConfirm p id ok, .resp p pkt, .ridgeCodewordError p ok, .ridgeRead p pkt, .ridgeWrite p pkt, .writePosted p pkt, .ridgeAtomic p pkt, .ridgeFence p pkt] : List Instr) →
    exec i s = .next s) ∧
  (∀ (s : State) (p : PortId) (c : Nat) (pkt : RPkt) (q : OutReq) (x : Slot) (w : Wait),
    (s.port p).pers = 5 →
    (s.port p).ridge.st = 2 →
    s.quietFrame (s.frameOfPort p) (some c) →
    s.frameOfCore c = s.frameOfPort p →
    c < 384 →
    pkt.crcOk = true →
    pkt.fixed = 0 →
    (s.port p).ridge.loop = [] →
    pkt.rport = p.val →
    (s.port p).ridge.out = [(pkt.tag, q)] →
    q.core = c →
    (s.core c).pipe.slots = [(q.slot, x)] →
    ((s.core c).pipe.waits = [] ∧ (s.core c).pipe.fence = [] ∧ (s.core c).pipe.rob = [] ∧ (s.core c).pipe.stall = none ∧ (s.core c).pipe.trapped = false ∧ (s.core c).pipe.poison = none) →
    x.kind = .unc →
    x.merged = [w] →
    q.op = 1 →
    (s.core c).pipe.storeQ = [] →
    w.acc.kind = .load →
    (w.acc.split = 0 ∧ w.acc.part = 0 ∧ w.acc.got = 0) →
    pkt.status = 0 →
    pkt.poison = false →
    w.acc.pa % 64 = q.addr % 64 →
    w.acc.pa % 64 + w.acc.size ≤ 64 →
    (0 < w.acc.size ∧ w.acc.size ≤ 8) →
    pkt.data.length = w.acc.size →
    RunsTo (exec (.resp p pkt) s) fun t =>
      (t.core c).regs = ((s.core c).deliverAcc w.acc (ofBytes pkt.data)).regs ∧ (t.core c).pipe.slots = [] ∧ (t.core c).pipe.l2 = (s.core c).pipe.l2 ∧
      (t.port p).ridge = { (s.port p).ridge with discard := false, nakRun := 0, rxSeq := ((s.port p).ridge.rxSeq + 1) % 1024, freed := ((s.port p).ridge.freed.1, (s.port p).ridge.freed.2.1, ((s.port p).ridge.freed.2.2 + ridgeSlots pkt.data.length) % 65536), out := [] } ∧ (∀ d, d ≠ c → t.core d = s.core d) ∧ (∀ q, q ≠ p.val → t.port q = s.port q) ∧ t.mem = s.mem ∧ t.memPoison = s.memPoison ∧ t.homes = s.homes ∧ t.chans = s.chans ∧ t.tenons = s.tenons ∧ t.net = s.net ∧ t.frames = s.frames) ∧
  (∀ (s : State) (p : PortId) (c : Nat) (pkt : RPkt) (q : OutReq) (x : Slot) (w : Wait),
    (s.port p).pers = 5 →
    (s.port p).ridge.st = 2 →
    s.quietFrame (s.frameOfPort p) (some c) →
    s.frameOfCore c = s.frameOfPort p →
    c < 384 →
    pkt.crcOk = true →
    pkt.fixed = 0 →
    (s.port p).ridge.loop = [] →
    pkt.rport = p.val →
    (s.port p).ridge.out = [(pkt.tag, q)] →
    q.core = c →
    (s.core c).pipe.slots = [(q.slot, x)] →
    ((s.core c).pipe.waits = [] ∧ (s.core c).pipe.fence = [] ∧ (s.core c).pipe.rob = [] ∧ (s.core c).pipe.stall = none ∧ (s.core c).pipe.trapped = false ∧ (s.core c).pipe.poison = none) →
    x.kind = .unc →
    x.merged = [w] →
    q.op = 1 →
    (s.core c).pipe.storeQ = [] →
    w.acc.kind = .load →
    (w.acc.split = 0 ∧ w.acc.part = 0 ∧ w.acc.got = 0) →
    pkt.status = 0 →
    pkt.poison = true →
    (∃ r, w.acc.dest = .x r) →
    w.acc.pa % 64 = q.addr % 64 →
    w.acc.pa % 64 + w.acc.size ≤ 64 →
    (0 < w.acc.size ∧ w.acc.size ≤ 8) →
    pkt.data.length = w.acc.size →
    RunsTo (exec (.resp p pkt) s) fun t =>
      (t.core c).regs = (s.core c).regs ∧ (t.core c).pipe.poison.map (fun r => (r.src, r.va, r.pc)) = some (5, w.acc.va, w.pc) ∧ (t.core c).pipe.slots = [] ∧
      (t.port p).ridge = { (s.port p).ridge with discard := false, nakRun := 0, rxSeq := ((s.port p).ridge.rxSeq + 1) % 1024, freed := ((s.port p).ridge.freed.1, (s.port p).ridge.freed.2.1, ((s.port p).ridge.freed.2.2 + ridgeSlots pkt.data.length) % 65536), out := [] } ∧ (∀ d, d ≠ c → t.core d = s.core d) ∧ (∀ q, q ≠ p.val → t.port q = s.port q) ∧ t.mem = s.mem ∧ t.memPoison = s.memPoison ∧ t.homes = s.homes ∧ t.chans = s.chans ∧ t.tenons = s.tenons ∧ t.net = s.net) ∧
  (∀ (s : State) (p : PortId) (c : Nat) (pkt : RPkt) (q : OutReq) (x : Slot) (w : Wait),
    (s.port p).pers = 5 →
    (s.port p).ridge.st = 2 →
    s.quietFrame (s.frameOfPort p) (some c) →
    s.frameOfCore c = s.frameOfPort p →
    c < 384 →
    pkt.crcOk = true →
    pkt.fixed = 0 →
    (s.port p).ridge.loop = [] →
    pkt.rport = p.val →
    (s.port p).ridge.out = [(pkt.tag, q)] →
    q.core = c →
    (s.core c).pipe.slots = [(q.slot, x)] →
    ((s.core c).pipe.waits = [] ∧ (s.core c).pipe.fence = [] ∧ (s.core c).pipe.rob = [] ∧ (s.core c).pipe.stall = none ∧ (s.core c).pipe.trapped = false ∧ (s.core c).pipe.poison = none) →
    x.kind = .unc →
    x.merged = [w] →
    q.op = 1 →
    (s.core c).pipe.storeQ = [] →
    w.acc.kind = .load →
    (w.acc.split = 0 ∧ w.acc.part = 0 ∧ w.acc.got = 0) →
    pkt.status ≠ 0 →
    w.acc.guest = false →
    w.err = none →
    (s.core c).xlat.walks = [] →
    (s.core c).awake = true →
    (s.core c).regs.trapTarget { cause := 5, tval := w.acc.va } = 3 →
    (s.core c).pipe.snpQ = [] →
    RunsTo (exec (.resp p pkt) s) fun t =>
      (t.core c).csr Csr.mcause = 5 ∧ (t.core c).csr Csr.mtval = w.acc.va ∧ (t.core c).csr Csr.mepc = w.pc ∧
      (t.core c).regs.x = (s.core c).regs.x ∧ (t.core c).pipe.slots = [] ∧ (t.port p).ridge = { (s.port p).ridge with discard := false, nakRun := 0, rxSeq := ((s.port p).ridge.rxSeq + 1) % 1024, freed := ((s.port p).ridge.freed.1, (s.port p).ridge.freed.2.1, ((s.port p).ridge.freed.2.2 + ridgeSlots pkt.data.length) % 65536), out := [] } ∧ (∀ d, d ≠ c → t.core d = s.core d) ∧ (∀ q, q ≠ p.val → t.port q = s.port q) ∧ t.mem = s.mem ∧ t.memPoison = s.memPoison ∧ t.homes = s.homes ∧ t.chans = s.chans ∧ t.tenons = s.tenons ∧ t.net = s.net) ∧
  (∀ (s : State) (p : PortId) (c : Nat) (pkt : RPkt) (q : OutReq) (x : Slot) (w : Wait) (e : StoreEnt),
    (s.port p).pers = 5 →
    (s.port p).ridge.st = 2 →
    s.quietFrame (s.frameOfPort p) (some c) →
    s.frameOfCore c = s.frameOfPort p →
    c < 384 →
    pkt.crcOk = true →
    pkt.fixed = 0 →
    (s.port p).ridge.loop = [] →
    pkt.rport = p.val →
    (s.port p).ridge.out = [(pkt.tag, q)] →
    q.core = c →
    (s.core c).pipe.slots = [(q.slot, x)] →
    ((s.core c).pipe.waits = [] ∧ (s.core c).pipe.fence = [] ∧ (s.core c).pipe.rob = [] ∧ (s.core c).pipe.stall = none ∧ (s.core c).pipe.trapped = false ∧ (s.core c).pipe.poison = none) →
    x.kind = .unc →
    x.merged = [w] →
    q.op = 2 →
    x.mask = 0 →
    (s.core c).pipe.storeQ = [e] →
    w.acc.kind = .store →
    (w.acc.split = 0 ∧ w.acc.part = 0) →
    w.acc.pa % 64 + w.acc.size ≤ 64 →
    RunsTo (exec (.resp p pkt) s) fun t =>
      (t.core c).regs = (s.core c).regs ∧ (t.core c).pipe.slots = [] ∧ (t.core c).pipe.storeQ = [] ∧ (pkt.status ≠ 0 → t.scribe.log.any (fun e => e.seq == s.scribe.logSeq && e.cls == 3 && e.src == 7 && e.code == 0x2A && e.inst == p.val) = true) ∧ (pkt.status = 0 → t.scribe = s.scribe) ∧
      (t.port p).ridge.out = [] ∧ (∀ q, q ≠ p.val → (t.port q).purlin = (s.port q).purlin ∧ (t.port q).roots = (s.port q).roots) ∧ t.mem = s.mem ∧ t.memPoison = s.memPoison ∧ t.homes = s.homes ∧ t.chans = s.chans ∧ t.tenons = s.tenons ∧ s.keepsNet t) ∧
  (∀ (s : State) (p : PortId) (pkt : RPkt),
    (s.port p).pers = 5 →
    (s.port p).ridge.st = 2 →
    pkt.crcOk = false →
    pkt.fixed = 0 →
    (s.port p).ridge.loop = [] →
    RunsTo (exec (.resp p pkt) s) fun t =>
      (t.port p).ridge = { (s.port p).ridge with discard := false, nakRun := 0, rxSeq := ((s.port p).ridge.rxSeq + 1) % 1024, freed := ((s.port p).ridge.freed.1, (s.port p).ridge.freed.2.1, ((s.port p).ridge.freed.2.2 + ridgeSlots pkt.data.length) % 65536) } ∧ t.scribe.log.any (fun e => e.seq == s.scribe.logSeq && e.cls == 3 && e.src == 7 && e.code == 0x2A && e.inst == p.val) = true ∧ (∀ q, q ≠ p.val → (t.port q).purlin = (s.port q).purlin ∧ (t.port q).ridge = (s.port q).ridge ∧ (t.port q).roots = (s.port q).roots) ∧ t.mem = s.mem ∧ t.memPoison = s.memPoison ∧ t.homes = s.homes ∧ t.chans = s.chans ∧ t.tenons = s.tenons ∧ s.keepsNet t) ∧
  (∀ (s : State) (p : PortId) (pkt : RPkt),
    (s.port p).pers = 5 →
    (s.port p).ridge.st = 2 →
    s.quietFrame (s.frameOfPort p) none →
    pkt.crcOk = true →
    pkt.fixed = 0 →
    (s.port p).ridge.loop = [] →
    pkt.rport = p.val →
    Tab.find (s.port p).ridge.out pkt.tag = none →
    RunsTo (exec (.resp p pkt) s) fun t =>
      (t.port p).ridge = { (s.port p).ridge with discard := false, nakRun := 0, rxSeq := ((s.port p).ridge.rxSeq + 1) % 1024, freed := ((s.port p).ridge.freed.1, (s.port p).ridge.freed.2.1, ((s.port p).ridge.freed.2.2 + ridgeSlots pkt.data.length) % 65536), quar := (s.port p).ridge.quar.filter (· != pkt.tag) } ∧
      t.scribe.log.any (fun e => e.seq == s.scribe.logSeq && e.cls == 3 && e.src == 7 && e.code == 0x2A && e.inst == p.val) = true ∧ (∀ q, q ≠ p.val → (t.port q).purlin = (s.port q).purlin ∧ (t.port q).ridge = (s.port q).ridge ∧ (t.port q).roots = (s.port q).roots) ∧ t.mem = s.mem ∧ t.memPoison = s.memPoison ∧ t.homes = s.homes ∧ t.chans = s.chans ∧ t.tenons = s.tenons ∧ s.keepsNet t) ∧
  (∀ (s : State) (p : PortId) (tag : Nat) (q : OutReq),
    (s.port p).pers = 5 →
    s.quietFrame (s.frameOfPort p) none →
    (s.port p).ridge.out = [(tag, q)] →
    q.core = 384 →
    RunsTo (exec (.ridgeRequestTimeout p tag) s) fun t =>
      (t.port p).ridge = { (s.port p).ridge with out := [], quar := (s.port p).ridge.quar ++ [tag] } ∧ (∀ q, q ≠ p.val → (t.port q).purlin = (s.port q).purlin ∧ (t.port q).ridge = (s.port q).ridge ∧ (t.port q).roots = (s.port q).roots) ∧ t.mem = s.mem ∧ t.memPoison = s.memPoison ∧ t.homes = s.homes ∧ t.chans = s.chans ∧ t.tenons = s.tenons ∧ s.keepsNet t) ∧
  (∀ (s : State) (p : PortId) (c tag : Nat) (q : OutReq) (x : Slot) (w : Wait),
    (s.port p).pers = 5 →
    s.quietFrame (s.frameOfPort p) (some c) →
    s.frameOfCore c = s.frameOfPort p →
    c < 384 →
    (s.port p).ridge.out = [(tag, q)] →
    q.core = c →
    (s.core c).pipe.slots = [(q.slot, x)] →
    ((s.core c).pipe.waits = [] ∧ (s.core c).pipe.fence = [] ∧ (s.core c).pipe.rob = [] ∧ (s.core c).pipe.stall = none ∧ (s.core c).pipe.trapped = false ∧ (s.core c).pipe.poison = none) →
    x.kind = .unc →
    x.merged = [w] →
    q.op = 1 →
    (s.core c).pipe.storeQ = [] →
    w.acc.kind = .load →
    (w.acc.split = 0 ∧ w.acc.part = 0 ∧ w.acc.got = 0) →
    w.acc.guest = false →
    w.err = none →
    (s.core c).xlat.walks = [] →
    (s.core c).awake = true →
    (s.core c).regs.trapTarget { cause := 5, tval := w.acc.va } = 3 →
    (s.core c).pipe.snpQ = [] →
    RunsTo (exec (.ridgeRequestTimeout p tag) s) fun t =>
      (t.core c).csr Csr.mcause = 5 ∧ (t.core c).csr Csr.mtval = w.acc.va ∧ (t.core c).csr Csr.mepc = w.pc ∧ (t.core c).regs.x = (s.core c).regs.x ∧
      (t.core c).pipe.slots = [] ∧ (t.port p).ridge = { (s.port p).ridge with out := [], quar := (s.port p).ridge.quar ++ [tag] } ∧ (∀ q, q ≠ p.val → (t.port q).purlin = (s.port q).purlin ∧ (t.port q).ridge = (s.port q).ridge ∧ (t.port q).roots = (s.port q).roots) ∧ t.mem = s.mem ∧ t.memPoison = s.memPoison ∧ t.homes = s.homes ∧ t.chans = s.chans ∧ t.tenons = s.tenons ∧ s.keepsNet t) ∧
  (∀ (s : State) (p : PortId) (tag : Nat),
    (s.port p).pers ≠ 5 →
    exec (.ridgeRequestTimeout p tag) s = .next s) ∧
  (∀ (s : State) (p : PortId) (tag : Nat),
    (s.port p).pers = 5 →
    s.quietFrame (s.frameOfPort p) none →
    (s.port p).ridge.quar.contains tag = true →
    RunsTo (exec (.ridgeTagQuarantineEnd p tag) s) fun t =>
      (t.port p).ridge = { (s.port p).ridge with quar := (s.port p).ridge.quar.filter (· != tag) } ∧ (∀ c, t.core c = s.core c) ∧ (∀ q, q ≠ p.val → t.port q = s.port q) ∧ t.mem = s.mem ∧ t.memPoison = s.memPoison ∧ t.homes = s.homes ∧ t.chans = s.chans ∧ t.tenons = s.tenons ∧ t.net = s.net ∧ t.frames = s.frames ∧ t.scribe = s.scribe) ∧
  (∀ (s : State) (p : PortId) (tag : Nat),
    ((s.port p).pers ≠ 5 ∨ (s.port p).ridge.quar.contains tag = false) →
    exec (.ridgeTagQuarantineEnd p tag) s = .next s) ∧
  (∀ (r : Ridge) (n : Nat),
    (r.sendAck n).linkOut = r.linkOut ++ [[0x80, n, r.rxSeq, r.freed.1, r.freed.2.1, r.freed.2.2]] ∧ (r.sendAck n).sinceAck = 0) ∧
  (∀ (s : State) (p : PortId) (ok : Bool),
    (s.port p).pers = 5 →
    (s.port p).ridge.st = 2 →
    (if (s.port p).ridge.nakSeq = (s.port p).ridge.rxSeq then (s.port p).ridge.nakRun + 1 else 1) < 8 →
    RunsTo (exec (.ridgeCodewordError p ok) s) fun t =>
      (t.port p).ridge = { (s.port p).ridge.sendAck 1 with discard := true, nakRun := (if (s.port p).ridge.nakSeq = (s.port p).ridge.rxSeq then (s.port p).ridge.nakRun + 1 else 1), nakSeq := (s.port p).ridge.rxSeq } ∧
      (Tab.get t.scribe.counts {} (cntKey 7 0x2A p)).n.getD 0 0 = satAdd 32 ((Tab.get s.scribe.counts {} (cntKey 7 0x2A p)).n.getD 0 0) 1 ∧ (∀ q, q ≠ p.val → (t.port q).purlin = (s.port q).purlin ∧ (t.port q).ridge = (s.port q).ridge ∧ (t.port q).roots = (s.port q).roots) ∧ t.mem = s.mem ∧ t.memPoison = s.memPoison ∧ t.homes = s.homes ∧ t.chans = s.chans ∧ t.tenons = s.tenons ∧ s.keepsNet t) ∧
  (∀ (s : State) (p : PortId) (ok : Bool),
    (s.port p).pers = 5 →
    (s.port p).ridge.st = 2 →
    (if (s.port p).ridge.nakSeq = (s.port p).ridge.rxSeq then (s.port p).ridge.nakRun + 1 else 1) = 8 →
    ok = true →
    RunsTo (exec (.ridgeCodewordError p ok) s) fun t => (t.port p).ridge = Ridge.replayFrom { (s.port p).ridge.sendAck 1 with nakSeq := (s.port p).ridge.rxSeq, nakRun := 0, discard := false } (s.port p).ridge.ackSeq ∧
      (Tab.get t.scribe.counts {} (cntKey 7 0x2A p)).n.getD 0 0 = satAdd 32 ((Tab.get s.scribe.counts {} (cntKey 7 0x2A p)).n.getD 0 0) 1 ∧ (∀ q, q ≠ p.val → (t.port q).purlin = (s.port q).purlin ∧ (t.port q).ridge = (s.port q).ridge ∧ (t.port q).roots = (s.port q).roots) ∧ t.mem = s.mem ∧ t.memPoison = s.memPoison ∧ t.homes = s.homes ∧ t.chans = s.chans ∧ t.tenons = s.tenons ∧ s.keepsNet t) ∧
  (∀ (s : State) (p : PortId) (ok : Bool) (tag : Nat) (q : OutReq),
    (s.port p).pers = 5 →
    (s.port p).ridge.st = 2 →
    s.quietFrame (s.frameOfPort p) none →
    (if (s.port p).ridge.nakSeq = (s.port p).ridge.rxSeq then (s.port p).ridge.nakRun + 1 else 1) = 8 →
    ok = false →
    (s.port p).ridge.out = [(tag, q)] →
    q.core = 384 →
    s.ridgePorts (s.frameOfPort p) = [p.val] →
    RunsTo (exec (.ridgeCodewordError p ok) s) fun t => (t.port p).ridge.st = 4 ∧ (t.port p).ridge.width = 0 ∧ (t.port p).ridge.out = [] ∧ (t.port p).ridge.quar = (s.port p).ridge.quar ++ [tag] ∧
      (t.frame (s.frameOfPort p)).node = false ∧ (∀ q, q ≠ p.val → (t.port q).purlin = (s.port q).purlin ∧ (t.port q).ridge = (s.port q).ridge ∧ (t.port q).roots = (s.port q).roots) ∧ t.mem = s.mem ∧ t.memPoison = s.memPoison ∧ t.homes = s.homes ∧ t.chans = s.chans ∧ t.tenons = s.tenons ∧ s.keepsNet t)

/-- At a ridge port that is UP of a frame that is not halted, with no request before it: READ, WRITE, WRITE_POSTED and ATOMIC of a node that the deciding way serves with the permission go, line by line, to their home as RD_NC, WR_NC, WR_NC and ATOM_NC at the local address of the way's target, charged to the port's identifiers, and their slots are freed for the sender; a FENCE with no earlier request of its source is answered at once. A request, but not one of another source, waits for an earlier WRITE_POSTED of its source, and a FENCE for every earlier request of its source. One that no way serves is answered UNMAPPED, one without the permission DENIED, one of a bad shape BAD_REQUEST, and at a halted frame TARGET_ERROR, each with nothing performed; where it is posted it is logged instead, as is a packet with a bad CRC or an unknown OP. A node's request to itself comes by its own loop, and frees no slots. -/
def Obligations.RidgeRequestsEnterTheNode : Prop :=
  (∀ (s : State) (p : PortId) (pkt : RPkt) (e : Word) (pa agent : Nat),
    (s.port p).pers = 5 →
    (s.port p).ridge.st = 2 →
    (s.frame (s.frameOfPort p)).halted = false →
    (pkt.crcOk = true ∧ pkt.ver = 1 ∧ pkt.fixed = 0) →
    (pkt.op = 0 ∨ pkt.op = 1) →
    (s.port p).ridge.loop = [] →
    (s.port p).inb = [] →
    (s.port p).inbQ = [] →
    (∀ q ∈ portsOf s.mode (s.frameOfPort p), q ≠ p.val → (s.port q).pers = 5 → (s.port q).inb = [] ∧ (s.port q).inbQ = []) →
    (s.frame (s.frameOfPort p)).exportOf pkt.addr pkt.src.toNat = some e →
    pa = s.viewPa (s.frameOfPort p) (fld e 14 2 * 2 ^ 30 + pkt.addr % 2 ^ 30) →
    s.target (s.frameOfPort p) (pa / 64 * 64) = some (agent, s.ownPkg) →
    (0 < pkt.len ∧ pkt.len ≤ 256) →
    pkt.addr % 4096 + pkt.len ≤ 4096 →
    e.getLsbD 62 = true →
    RunsTo (exec (.ridgeRead p pkt) s) fun t =>
      t.net = s.net ++ [entered { op := .rdNc, hdr := s.inbHdr p 0 (pa / 64) agent s.ownPkg, mask := if (if pa / 64 = (pa + pkt.len - 1) / 64 then pkt.len else 64 - pa % 64) = 64 then BitVec.allOnes 64 else 0, amo := (amoOfAtop pkt.atop).getD .swap, size := pkt.len, off := pa % 64 }] ∧
      (t.port p).inb = [(0, { inbOfPkt pkt 1 pa with left := linesOf pa pkt.len, no := (s.frame (s.frameOfPort p)).inbNo })] ∧ (t.port p).inbQ = [] ∧
      (t.port p).ridge = { (s.port p).ridge with discard := false, nakRun := 0, rxSeq := ((s.port p).ridge.rxSeq + 1) % 1024, freed := (((s.port p).ridge.freed.1 + ridgeSlots pkt.data.length) % 65536, (s.port p).ridge.freed.2.1, (s.port p).ridge.freed.2.2) } ∧ (∀ q, q ≠ p.val → t.port q = s.port q) ∧ t.frame (s.frameOfPort p) = { s.frame (s.frameOfPort p) with inbNo := (s.frame (s.frameOfPort p)).inbNo + 1 } ∧ (∀ g, g ≠ (s.frameOfPort p) → t.frame g = s.frame g) ∧ t = { s with ports := t.ports, net := t.net, frames := t.frames }) ∧
  (∀ (s : State) (p : PortId) (pkt : RPkt) (e : Word) (pa agent : Nat),
    (s.port p).pers = 5 →
    (s.port p).ridge.st = 2 →
    (s.frame (s.frameOfPort p)).halted = false →
    (pkt.crcOk = true ∧ pkt.ver = 1 ∧ pkt.fixed = 0) →
    (pkt.op = 0 ∨ pkt.op = 2) →
    (s.port p).ridge.loop = [] →
    (s.port p).inb = [] →
    (s.port p).inbQ = [] →
    (∀ q ∈ portsOf s.mode (s.frameOfPort p), q ≠ p.val → (s.port q).pers = 5 → (s.port q).inb = [] ∧ (s.port q).inbQ = []) →
    (s.frame (s.frameOfPort p)).exportOf pkt.addr pkt.src.toNat = some e →
    pa = s.viewPa (s.frameOfPort p) (fld e 14 2 * 2 ^ 30 + pkt.addr % 2 ^ 30) →
    s.target (s.frameOfPort p) (pa / 64 * 64) = some (agent, s.ownPkg) →
    (0 < pkt.len ∧ pkt.len ≤ 256) →
    pkt.addr % 4096 + pkt.len ≤ 4096 →
    e.getLsbD 61 = true →
    RunsTo (exec (.ridgeWrite p pkt) s) fun t =>
      t.net = s.net ++ [entered { op := .wrNc, hdr := s.inbHdr p 0 (pa / 64) agent s.ownPkg, mask := if (if pa / 64 = (pa + pkt.len - 1) / 64 then pkt.len else 64 - pa % 64) = 64 then BitVec.allOnes 64 else 0, amo := (amoOfAtop pkt.atop).getD .swap, size := pkt.len, off := pa % 64 }] ∧
      (t.port p).inb = [(0, { inbOfPkt pkt 2 pa with left := linesOf pa pkt.len, no := (s.frame (s.frameOfPort p)).inbNo })] ∧ (t.port p).inbQ = [] ∧
      (t.port p).ridge = { (s.port p).ridge with discard := false, nakRun := 0, rxSeq := ((s.port p).ridge.rxSeq + 1) % 1024, freed := (((s.port p).ridge.freed.1 + ridgeSlots pkt.data.length) % 65536, (s.port p).ridge.freed.2.1, (s.port p).ridge.freed.2.2) } ∧ (∀ q, q ≠ p.val → t.port q = s.port q) ∧ t.frame (s.frameOfPort p) = { s.frame (s.frameOfPort p) with inbNo := (s.frame (s.frameOfPort p)).inbNo + 1 } ∧ (∀ g, g ≠ (s.frameOfPort p) → t.frame g = s.frame g) ∧ t = { s with ports := t.ports, net := t.net, frames := t.frames }) ∧
  (∀ (s : State) (p : PortId) (pkt : RPkt) (e : Word) (pa agent : Nat),
    (s.port p).pers = 5 →
    (s.port p).ridge.st = 2 →
    (s.frame (s.frameOfPort p)).halted = false →
    (pkt.crcOk = true ∧ pkt.ver = 1 ∧ pkt.fixed = 0) →
    (pkt.op = 0 ∨ pkt.op = 3) →
    (s.port p).ridge.loop = [] →
    (s.port p).inb = [] →
    (s.port p).inbQ = [] →
    (∀ q ∈ portsOf s.mode (s.frameOfPort p), q ≠ p.val → (s.port q).pers = 5 → (s.port q).inb = [] ∧ (s.port q).inbQ = []) →
    (s.frame (s.frameOfPort p)).exportOf pkt.addr pkt.src.toNat = some e →
    pa = s.viewPa (s.frameOfPort p) (fld e 14 2 * 2 ^ 30 + pkt.addr % 2 ^ 30) →
    s.target (s.frameOfPort p) (pa / 64 * 64) = some (agent, s.ownPkg) →
    (0 < pkt.len ∧ pkt.len ≤ 256) →
    pkt.addr % 4096 + pkt.len ≤ 4096 →
    e.getLsbD 61 = true →
    RunsTo (exec (.writePosted p pkt) s) fun t =>
      t.net = s.net ++ [entered { op := .wrNc, hdr := s.inbHdr p 0 (pa / 64) agent s.ownPkg, mask := if (if pa / 64 = (pa + pkt.len - 1) / 64 then pkt.len else 64 - pa % 64) = 64 then BitVec.allOnes 64 else 0, amo := (amoOfAtop pkt.atop).getD .swap, size := pkt.len, off := pa % 64 }] ∧
      (t.port p).inb = [(0, { inbOfPkt pkt 3 pa with left := linesOf pa pkt.len, no := (s.frame (s.frameOfPort p)).inbNo })] ∧ (t.port p).inbQ = [] ∧
      (t.port p).ridge = { (s.port p).ridge with discard := false, nakRun := 0, rxSeq := ((s.port p).ridge.rxSeq + 1) % 1024, freed := ((s.port p).ridge.freed.1, ((s.port p).ridge.freed.2.1 + ridgeSlots pkt.data.length) % 65536, (s.port p).ridge.freed.2.2) } ∧ (∀ q, q ≠ p.val → t.port q = s.port q) ∧ t.frame (s.frameOfPort p) = { s.frame (s.frameOfPort p) with inbNo := (s.frame (s.frameOfPort p)).inbNo + 1 } ∧ (∀ g, g ≠ (s.frameOfPort p) → t.frame g = s.frame g) ∧ t = { s with ports := t.ports, net := t.net, frames := t.frames }) ∧
  (∀ (s : State) (p : PortId) (pkt : RPkt) (e : Word) (pa agent : Nat),
    (s.port p).pers = 5 →
    (s.port p).ridge.st = 2 →
    (s.frame (s.frameOfPort p)).halted = false →
    (pkt.crcOk = true ∧ pkt.ver = 1 ∧ pkt.fixed = 0) →
    (pkt.op = 0 ∨ pkt.op = 4) →
    (s.port p).ridge.loop = [] →
    (s.port p).inb = [] →
    (s.port p).inbQ = [] →
    (∀ q ∈ portsOf s.mode (s.frameOfPort p), q ≠ p.val → (s.port q).pers = 5 → (s.port q).inb = [] ∧ (s.port q).inbQ = []) →
    (s.frame (s.frameOfPort p)).exportOf pkt.addr pkt.src.toNat = some e →
    pa = s.viewPa (s.frameOfPort p) (fld e 14 2 * 2 ^ 30 + pkt.addr % 2 ^ 30) →
    s.target (s.frameOfPort p) (pa / 64 * 64) = some (agent, s.ownPkg) →
    e.getLsbD 60 = true →
    (pkt.len = 4 ∨ pkt.len = 8) →
    pkt.addr % pkt.len = 0 →
    pkt.atop < 7 →
    RunsTo (exec (.ridgeAtomic p pkt) s) fun t =>
      t.net = s.net ++ [entered { op := .atomNc, hdr := s.inbHdr p 0 (pa / 64) agent s.ownPkg, mask := if (if pa / 64 = (pa + pkt.len - 1) / 64 then pkt.len else 64 - pa % 64) = 64 then BitVec.allOnes 64 else 0, amo := (amoOfAtop pkt.atop).getD .swap, size := pkt.len, off := pa % 64 }] ∧
      (t.port p).inb = [(0, { inbOfPkt pkt 4 pa with left := linesOf pa pkt.len, no := (s.frame (s.frameOfPort p)).inbNo })] ∧ (t.port p).inbQ = [] ∧
      (t.port p).ridge = { (s.port p).ridge with discard := false, nakRun := 0, rxSeq := ((s.port p).ridge.rxSeq + 1) % 1024, freed := (((s.port p).ridge.freed.1 + ridgeSlots pkt.data.length) % 65536, (s.port p).ridge.freed.2.1, (s.port p).ridge.freed.2.2) } ∧ (∀ q, q ≠ p.val → t.port q = s.port q) ∧ t.frame (s.frameOfPort p) = { s.frame (s.frameOfPort p) with inbNo := (s.frame (s.frameOfPort p)).inbNo + 1 } ∧ (∀ g, g ≠ (s.frameOfPort p) → t.frame g = s.frame g) ∧ t = { s with ports := t.ports, net := t.net, frames := t.frames }) ∧
  (∀ (r : Ridge) (k : RPkt),
    r.sendPkt true k = { r with loop := r.loop ++ [k] } ∧ (k.op ≠ 8 ∨ (r.rspQ = [] ∧ r.credit 2 (ridgeSlots k.data.length) = true) → r.sendPkt false k = r.emit k) ∧
      (k.op = 8 → r.rspQ ≠ [] ∨ r.credit 2 (ridgeSlots k.data.length) = false → r.sendPkt false k = { r with rspQ := r.rspQ ++ [k] })) ∧
  (∀ (r : Ridge) (k : RPkt),
    (r.emit k).answers = r.answers ++ [k] ∧ (r.emit k).loop = r.loop ∧ (r.emit k).sentSl = addThird r.sentSl (ridgeVc k.op) (ridgeSlots k.data.length)) ∧
  (∀ (s : State) (p : PortId) (pkt : RPkt),
    (s.port p).pers = 5 →
    (s.port p).ridge.st = 2 →
    (s.frame (s.frameOfPort p)).halted = false →
    (pkt.crcOk = true ∧ pkt.ver = 1 ∧ pkt.fixed = 0) →
    (pkt.op = 0 ∨ pkt.op = 5) →
    (s.port p).ridge.loop = [] →
    (s.port p).inb = [] →
    (s.port p).inbQ = [] →
    (∀ q ∈ portsOf s.mode (s.frameOfPort p), q ≠ p.val → (s.port q).pers = 5 → (s.port q).inb = [] ∧ (s.port q).inbQ = []) →
    (pkt.len = 0 ∧ pkt.addr = 0) →
    RunsTo (exec (.ridgeFence p pkt) s) fun t =>
      (t.port p).ridge = (({ (s.port p).ridge with discard := false, nakRun := 0, rxSeq := ((s.port p).ridge.rxSeq + 1) % 1024, freed := (((s.port p).ridge.freed.1 + ridgeSlots pkt.data.length) % 65536, (s.port p).ridge.freed.2.1, (s.port p).ridge.freed.2.2) } : Ridge).sendPkt (pkt.src.toNat == (BitVec.ofNat 16 (s.frame (s.frameOfPort p)).nodeId).toNat) ({ op := 8, dst := pkt.src, src := BitVec.ofNat 16 (s.frame (s.frameOfPort p)).nodeId, tag := pkt.tag, rport := pkt.rport, status := 0 } : RPkt)) ∧ (t.port p).inb = [] ∧ (t.port p).inbQ = [] ∧ t.net = s.net ∧ (∀ q, q ≠ p.val → t.port q = s.port q) ∧ t.frame (s.frameOfPort p) = { s.frame (s.frameOfPort p) with inbNo := (s.frame (s.frameOfPort p)).inbNo + 1 } ∧ (∀ g, g ≠ (s.frameOfPort p) → t.frame g = s.frame g) ∧ t = { s with ports := t.ports, net := t.net, frames := t.frames }) ∧
  (∀ (s : State) (p : PortId) (pkt : RPkt) (e : Word) (k : Nat) (y : Inb),
    (s.port p).pers = 5 →
    (s.port p).ridge.st = 2 →
    (s.frame (s.frameOfPort p)).halted = false →
    (pkt.crcOk = true ∧ pkt.ver = 1 ∧ pkt.fixed = 0) →
    (pkt.op = 0 ∨ pkt.op = 1) →
    (s.port p).ridge.loop = [] →
    (0 < pkt.len ∧ pkt.len ≤ 256) →
    pkt.addr % 4096 + pkt.len ≤ 4096 →
    (s.port p).inb = [(k, y)] →
    (s.port p).inbQ = [] →
    (y.root = 8 ∧ y.src = pkt.src.toNat ∧ y.posted = true ∧ y.wr = true ∧ y.no < (s.frame (s.frameOfPort p)).inbNo) →
    (s.frame (s.frameOfPort p)).exportOf pkt.addr pkt.src.toNat = some e →
    e.getLsbD 62 = true →
    RunsTo (exec (.ridgeRead p pkt) s) fun t =>
      (t.port p).inb = [(k, y)] ∧ (t.port p).inbQ = [{ inbOfPkt pkt 1 (s.viewPa (s.frameOfPort p) (fld e 14 2 * 2 ^ 30 + pkt.addr % 2 ^ 30)) with no := (s.frame (s.frameOfPort p)).inbNo }] ∧ t.net = s.net ∧ (∀ q, q ≠ p.val → t.port q = s.port q) ∧ t.frame (s.frameOfPort p) = { s.frame (s.frameOfPort p) with inbNo := (s.frame (s.frameOfPort p)).inbNo + 1 } ∧ (∀ g, g ≠ (s.frameOfPort p) → t.frame g = s.frame g) ∧ t = { s with ports := t.ports, net := t.net, frames := t.frames }) ∧
  (∀ (s : State) (p : PortId) (pkt : RPkt) (e : Word) (pa agent : Nat) (k : Nat) (y : Inb),
    (s.port p).pers = 5 →
    (s.port p).ridge.st = 2 →
    (s.frame (s.frameOfPort p)).halted = false →
    (pkt.crcOk = true ∧ pkt.ver = 1 ∧ pkt.fixed = 0) →
    (pkt.op = 0 ∨ pkt.op = 1) →
    (s.port p).ridge.loop = [] →
    (s.port p).inbQ = [] →
    (∀ q ∈ portsOf s.mode (s.frameOfPort p), q ≠ p.val → (s.port q).pers = 5 → (s.port q).inb = [] ∧ (s.port q).inbQ = []) →
    (s.frame (s.frameOfPort p)).exportOf pkt.addr pkt.src.toNat = some e →
    pa = s.viewPa (s.frameOfPort p) (fld e 14 2 * 2 ^ 30 + pkt.addr % 2 ^ 30) →
    s.target (s.frameOfPort p) (pa / 64 * 64) = some (agent, s.ownPkg) →
    (0 < pkt.len ∧ pkt.len ≤ 256) →
    pkt.addr % 4096 + pkt.len ≤ 4096 →
    (s.port p).inb = [(k, y)] →
    k ≠ 0 →
    (y.root = 8 ∧ y.src ≠ pkt.src.toNat) →
    e.getLsbD 62 = true →
    RunsTo (exec (.ridgeRead p pkt) s) fun t =>
      t.net = s.net ++ [entered { op := .rdNc, hdr := s.inbHdr p 0 (pa / 64) agent s.ownPkg, mask := if (if pa / 64 = (pa + pkt.len - 1) / 64 then pkt.len else 64 - pa % 64) = 64 then BitVec.allOnes 64 else 0, amo := (amoOfAtop pkt.atop).getD .swap, size := pkt.len, off := pa % 64 }] ∧
      (t.port p).inb = [(0, { inbOfPkt pkt 1 pa with left := linesOf pa pkt.len, no := (s.frame (s.frameOfPort p)).inbNo }), (k, y)] ∧ (t.port p).inbQ = [] ∧ (∀ q, q ≠ p.val → t.port q = s.port q) ∧ t.frame (s.frameOfPort p) = { s.frame (s.frameOfPort p) with inbNo := (s.frame (s.frameOfPort p)).inbNo + 1 } ∧ (∀ g, g ≠ (s.frameOfPort p) → t.frame g = s.frame g) ∧ t = { s with ports := t.ports, net := t.net, frames := t.frames }) ∧
  (∀ (s : State) (p : PortId) (pkt : RPkt) (k : Nat) (y : Inb),
    (s.port p).pers = 5 →
    (s.port p).ridge.st = 2 →
    (s.frame (s.frameOfPort p)).halted = false →
    (pkt.crcOk = true ∧ pkt.ver = 1 ∧ pkt.fixed = 0) →
    (pkt.op = 0 ∨ pkt.op = 5) →
    (s.port p).ridge.loop = [] →
    (s.port p).inb = [(k, y)] →
    (s.port p).inbQ = [] →
    (y.root = 8 ∧ y.src = pkt.src.toNat ∧ y.no < (s.frame (s.frameOfPort p)).inbNo) →
    (pkt.len = 0 ∧ pkt.addr = 0) →
    RunsTo (exec (.ridgeFence p pkt) s) fun t =>
      (t.port p).inb = [(k, y)] ∧ (t.port p).inbQ = [{ inbOfPkt pkt 5 0 with no := (s.frame (s.frameOfPort p)).inbNo }] ∧ (t.port p).ridge.answers = (s.port p).ridge.answers ∧ t.net = s.net ∧ (∀ q, q ≠ p.val → t.port q = s.port q) ∧ t.frame (s.frameOfPort p) = { s.frame (s.frameOfPort p) with inbNo := (s.frame (s.frameOfPort p)).inbNo + 1 } ∧ (∀ g, g ≠ (s.frameOfPort p) → t.frame g = s.frame g) ∧ t = { s with ports := t.ports, net := t.net, frames := t.frames }) ∧
  (∀ (s : State) (p : PortId) (pkt : RPkt) (i : Instr),
    (s.port p).pers = 5 →
    (s.port p).ridge.st = 2 →
    (pkt.crcOk = true ∧ pkt.ver = 1 ∧ pkt.fixed = 0) →
    pkt.op = 0 →
    (s.port p).ridge.loop = [] →
    (s.frame (s.frameOfPort p)).halted = false →
    (pkt.len = 8 ∧ pkt.addr % 8 = 0 ∧ pkt.atop < 7) →
    pkt.addr % 4096 + pkt.len ≤ 4096 →
    (s.frame (s.frameOfPort p)).exportOf pkt.addr pkt.src.toNat = none →
    i ∈ ([.ridgeRead p pkt, .ridgeWrite p pkt, .ridgeAtomic p pkt] : List Instr) →
    RunsTo (exec i s) fun t =>
      (t.port p).ridge = (({ (s.port p).ridge with discard := false, nakRun := 0, rxSeq := ((s.port p).ridge.rxSeq + 1) % 1024, freed := (((s.port p).ridge.freed.1 + ridgeSlots pkt.data.length) % 65536, (s.port p).ridge.freed.2.1, (s.port p).ridge.freed.2.2) } : Ridge).sendPkt (pkt.src == pkt.dst) ({ op := 8, dst := pkt.src, src := pkt.dst, tag := pkt.tag, rport := pkt.rport, status := 1 } : RPkt)) ∧ (t.port p).inb = (s.port p).inb ∧ (t.port p).inbQ = (s.port p).inbQ ∧ (∀ q, q ≠ p.val → t.port q = s.port q) ∧ t = { s with ports := t.ports }) ∧
  (∀ (s : State) (p : PortId) (pkt : RPkt) (e : Word),
    (s.port p).pers = 5 →
    (s.port p).ridge.st = 2 →
    (pkt.crcOk = true ∧ pkt.ver = 1 ∧ pkt.fixed = 0) →
    pkt.op = 0 →
    (s.port p).ridge.loop = [] →
    (s.frame (s.frameOfPort p)).halted = false →
    (pkt.len = 8 ∧ pkt.addr % 8 = 0 ∧ pkt.atop < 7) →
    pkt.addr % 4096 + pkt.len ≤ 4096 →
    (s.frame (s.frameOfPort p)).exportOf pkt.addr pkt.src.toNat = some e →
    e.getLsbD 62 = false →
    RunsTo (exec (.ridgeRead p pkt) s) fun t =>
      (t.port p).ridge = (({ (s.port p).ridge with discard := false, nakRun := 0, rxSeq := ((s.port p).ridge.rxSeq + 1) % 1024, freed := (((s.port p).ridge.freed.1 + ridgeSlots pkt.data.length) % 65536, (s.port p).ridge.freed.2.1, (s.port p).ridge.freed.2.2) } : Ridge).sendPkt (pkt.src == pkt.dst) ({ op := 8, dst := pkt.src, src := pkt.dst, tag := pkt.tag, rport := pkt.rport, status := 2 } : RPkt)) ∧ (t.port p).inb = (s.port p).inb ∧ (t.port p).inbQ = (s.port p).inbQ ∧ (∀ q, q ≠ p.val → t.port q = s.port q) ∧ t = { s with ports := t.ports }) ∧
  (∀ (s : State) (p : PortId) (pkt : RPkt) (e : Word),
    (s.port p).pers = 5 →
    (s.port p).ridge.st = 2 →
    (pkt.crcOk = true ∧ pkt.ver = 1 ∧ pkt.fixed = 0) →
    pkt.op = 0 →
    (s.port p).ridge.loop = [] →
    (s.frame (s.frameOfPort p)).halted = false →
    (pkt.len = 8 ∧ pkt.addr % 8 = 0 ∧ pkt.atop < 7) →
    pkt.addr % 4096 + pkt.len ≤ 4096 →
    (s.frame (s.frameOfPort p)).exportOf pkt.addr pkt.src.toNat = some e →
    e.getLsbD 61 = false →
    RunsTo (exec (.ridgeWrite p pkt) s) fun t =>
      (t.port p).ridge = (({ (s.port p).ridge with discard := false, nakRun := 0, rxSeq := ((s.port p).ridge.rxSeq + 1) % 1024, freed := (((s.port p).ridge.freed.1 + ridgeSlots pkt.data.length) % 65536, (s.port p).ridge.freed.2.1, (s.port p).ridge.freed.2.2) } : Ridge).sendPkt (pkt.src == pkt.dst) ({ op := 8, dst := pkt.src, src := pkt.dst, tag := pkt.tag, rport := pkt.rport, status := 2 } : RPkt)) ∧ (t.port p).inb = (s.port p).inb ∧ (t.port p).inbQ = (s.port p).inbQ ∧ (∀ q, q ≠ p.val → t.port q = s.port q) ∧ t = { s with ports := t.ports }) ∧
  (∀ (s : State) (p : PortId) (pkt : RPkt) (e : Word),
    (s.port p).pers = 5 →
    (s.port p).ridge.st = 2 →
    (pkt.crcOk = true ∧ pkt.ver = 1 ∧ pkt.fixed = 0) →
    pkt.op = 0 →
    (s.port p).ridge.loop = [] →
    (s.frame (s.frameOfPort p)).halted = false →
    (pkt.len = 8 ∧ pkt.addr % 8 = 0 ∧ pkt.atop < 7) →
    pkt.addr % 4096 + pkt.len ≤ 4096 →
    (s.frame (s.frameOfPort p)).exportOf pkt.addr pkt.src.toNat = some e →
    e.getLsbD 60 = false →
    RunsTo (exec (.ridgeAtomic p pkt) s) fun t =>
      (t.port p).ridge = (({ (s.port p).ridge with discard := false, nakRun := 0, rxSeq := ((s.port p).ridge.rxSeq + 1) % 1024, freed := (((s.port p).ridge.freed.1 + ridgeSlots pkt.data.length) % 65536, (s.port p).ridge.freed.2.1, (s.port p).ridge.freed.2.2) } : Ridge).sendPkt (pkt.src == pkt.dst) ({ op := 8, dst := pkt.src, src := pkt.dst, tag := pkt.tag, rport := pkt.rport, status := 2 } : RPkt)) ∧ (t.port p).inb = (s.port p).inb ∧ (t.port p).inbQ = (s.port p).inbQ ∧ (∀ q, q ≠ p.val → t.port q = s.port q) ∧ t = { s with ports := t.ports }) ∧
  (∀ (s : State) (p : PortId) (pkt : RPkt) (i : Instr),
    (s.port p).pers = 5 →
    (s.port p).ridge.st = 2 →
    (pkt.crcOk = true ∧ pkt.ver = 1 ∧ pkt.fixed = 0) →
    pkt.op = 0 →
    (s.port p).ridge.loop = [] →
    (s.frame (s.frameOfPort p)).halted = false →
    (pkt.len = 0 ∨ 256 < pkt.len ∨ (4096 < pkt.addr % 4096 + pkt.len ∧ pkt.addr % pkt.len ≠ 0)) →
    i ∈ ([.ridgeRead p pkt, .ridgeWrite p pkt, .ridgeAtomic p pkt] : List Instr) →
    RunsTo (exec i s) fun t =>
      (t.port p).ridge = (({ (s.port p).ridge with discard := false, nakRun := 0, rxSeq := ((s.port p).ridge.rxSeq + 1) % 1024, freed := (((s.port p).ridge.freed.1 + ridgeSlots pkt.data.length) % 65536, (s.port p).ridge.freed.2.1, (s.port p).ridge.freed.2.2) } : Ridge).sendPkt (pkt.src == pkt.dst) ({ op := 8, dst := pkt.src, src := pkt.dst, tag := pkt.tag, rport := pkt.rport, status := 3 } : RPkt)) ∧ (t.port p).inb = (s.port p).inb ∧ (t.port p).inbQ = (s.port p).inbQ ∧ (∀ q, q ≠ p.val → t.port q = s.port q) ∧ t = { s with ports := t.ports }) ∧
  (∀ (s : State) (p : PortId) (pkt : RPkt) (i : Instr),
    (s.port p).pers = 5 →
    (s.port p).ridge.st = 2 →
    (pkt.crcOk = true ∧ pkt.ver = 1 ∧ pkt.fixed = 0) →
    pkt.op = 0 →
    (s.port p).ridge.loop = [] →
    (s.frame (s.frameOfPort p)).halted = true →
    i ∈ ([.ridgeFence p pkt, .ridgeRead p pkt, .ridgeWrite p pkt, .ridgeAtomic p pkt] : List Instr) →
    RunsTo (exec i s) fun t =>
      (t.port p).ridge = (({ (s.port p).ridge with discard := false, nakRun := 0, rxSeq := ((s.port p).ridge.rxSeq + 1) % 1024, freed := (((s.port p).ridge.freed.1 + ridgeSlots pkt.data.length) % 65536, (s.port p).ridge.freed.2.1, (s.port p).ridge.freed.2.2) } : Ridge).sendPkt (pkt.src == pkt.dst) ({ op := 8, dst := pkt.src, src := pkt.dst, tag := pkt.tag, rport := pkt.rport, status := 4 } : RPkt)) ∧ (t.port p).inb = (s.port p).inb ∧ (t.port p).inbQ = (s.port p).inbQ ∧ (∀ q, q ≠ p.val → t.port q = s.port q) ∧ t = { s with ports := t.ports }) ∧
  (∀ (s : State) (p : PortId) (pkt : RPkt) (i : Instr) (op : Nat),
    (s.port p).pers = 5 →
    (s.port p).ridge.st = 2 →
    pkt.fixed = 0 →
    (s.port p).ridge.loop = [] →
    (op, i) ∈ ([(1, .ridgeRead p pkt), (2, .ridgeWrite p pkt), (3, .writePosted p pkt), (4, .ridgeAtomic p pkt), (5, .ridgeFence p pkt)] : List (Nat × Instr)) →
    (pkt.crcOk = false ∨ pkt.ver ≠ 1 ∨ (pkt.op ≠ 0 ∧ pkt.op ≠ op) ∨ (op = 3 ∧ ((s.frame (s.frameOfPort p)).halted = true ∨ pkt.len = 0 ∨ 256 < pkt.len ∨ 4096 < pkt.addr % 4096 + pkt.len ∨ (s.frame (s.frameOfPort p)).exportOf pkt.addr pkt.src.toNat = none))) →
    RunsTo (exec i s) fun t =>
      t.scribe.log.any (fun e => e.seq == s.scribe.logSeq && e.cls == 3 && e.src == 7 && e.code == 0x2A && e.inst == p.val) = true ∧ (t.port p).ridge.answers = (s.port p).ridge.answers ∧ (t.port p).inb = (s.port p).inb ∧ (t.port p).inbQ = (s.port p).inbQ ∧ (∀ q, q ≠ p.val → (t.port q).purlin = (s.port q).purlin ∧ (t.port q).ridge = (s.port q).ridge ∧ (t.port q).roots = (s.port q).roots) ∧ t.mem = s.mem ∧ t.memPoison = s.memPoison ∧ t.homes = s.homes ∧ t.chans = s.chans ∧ t.tenons = s.tenons ∧ s.keepsNet t) ∧
  (∀ (s : State) (p : PortId) (pkt : RPkt) (e : Word) (pa agent : Nat),
    (s.port p).pers = 5 →
    (s.port p).ridge.st = 2 →
    (s.frame (s.frameOfPort p)).halted = false →
    (pkt.crcOk = true ∧ pkt.ver = 1 ∧ pkt.fixed = 0 ∧ pkt.op = 1) →
    (s.port p).ridge.loop = [pkt] →
    (s.port p).inb = [] →
    (s.port p).inbQ = [] →
    (∀ q ∈ portsOf s.mode (s.frameOfPort p), q ≠ p.val → (s.port q).pers = 5 → (s.port q).inb = [] ∧ (s.port q).inbQ = []) →
    (s.frame (s.frameOfPort p)).exportOf pkt.addr pkt.src.toNat = some e →
    pa = s.viewPa (s.frameOfPort p) (fld e 14 2 * 2 ^ 30 + pkt.addr % 2 ^ 30) →
    s.target (s.frameOfPort p) (pa / 64 * 64) = some (agent, s.ownPkg) →
    (0 < pkt.len ∧ pkt.len ≤ 256) →
    pkt.addr % 4096 + pkt.len ≤ 4096 →
    e.getLsbD 62 = true →
    RunsTo (exec (.ridgeRead p pkt) s) fun t =>
      t.net = s.net ++ [entered { op := .rdNc, hdr := s.inbHdr p 0 (pa / 64) agent s.ownPkg, mask := if (if pa / 64 = (pa + pkt.len - 1) / 64 then pkt.len else 64 - pa % 64) = 64 then BitVec.allOnes 64 else 0, amo := (amoOfAtop pkt.atop).getD .swap, size := pkt.len, off := pa % 64 }] ∧ (t.port p).ridge = { (s.port p).ridge with loop := [] } ∧ (t.port p).inbQ = [] ∧ (∀ q, q ≠ p.val → t.port q = s.port q) ∧ t.frame (s.frameOfPort p) = { s.frame (s.frameOfPort p) with inbNo := (s.frame (s.frameOfPort p)).inbNo + 1 } ∧ (∀ g, g ≠ (s.frameOfPort p) → t.frame g = s.frame g) ∧ t = { s with ports := t.ports, net := t.net, frames := t.frames })

/-- At a root port that is up, with Bus Master Enable set: an inbound read, write or AtomicOp of DRAM, of a bench window or of CXL memory, whose address the port's IOMMU passes, goes to its home as RD_NC, WR_NC or ATOM_NC, line by line, a poisoned write with its mark; a write to an interrupt file leaves as MSI_WRITE; a read, write or AtomicOp of another root port's window is forwarded unless ACS redirects it, and one to ridge space leaves as WRITE_POSTED, where the port enables it. A request that the IOMMU or the table of addresses rejects is answered UR, and a rejected posted write is dropped and counted. A completion ends the hart's request of its tag with its data in the register, of a root port and of the dovetail function; one with an error status gives all-ones and an error record with ERR_MODE 0 and raises an access fault with ERR_MODE 1; of a configuration read it gives all-ones. A read ends once all its bytes have come. An unknown completion is counted as unexpected, in AER too, and frees its quarantined tag once nothing more is owed for it. A timed-out request ends so too, unless Device Control 2 disables timeouts, and its tag is quarantined until the quarantine ends. INTx messages set and clear the pins' level. -/
def Obligations.RootPortRequestsAndCompletions : Prop :=
  (∀ (s : State) (p : PortId) (x : Tlp) (agent pkg : Nat),
    (s.port p).hasRoots = true →
    ((s.port p).root x.root).up = true →
    x.root < 8 →
    x.ep = false →
    tlpOk x = true →
    ((s.port p).root x.root).acsPasses x = true →
    (s.port p).ioQ = [] →
    bitOf (((s.port p).root x.root).cfgWord 0x04) 2 = true →
    (s.port p).ioFld 0x10 3 0 = 1 →
    x.form = 0 →
    (match s.region (s.frameOfPort p) x.addr with | .dram _ => true | .remote _ _ => true | .bench _ _ => true | .cxl q _ => !s.reqErr (12 + q) (x.addr / 64) .rdNc | _ => false) = true →
    s.target (s.frameOfPort p) (x.addr / 64 * 64) = some (agent, pkg) →
    0 < x.len →
    (s.port p).inb = [] →
    (s.port p).inbQ = [] →
    RunsTo (exec (.inboundRequest p x) s) fun t =>
      t.net = (s.route (s.frameOfPort p) { op := (match x.kind with | .read => .rdNc | .write => .wrNc | .atomic _ => .atomNc), hdr := s.inbHdr p 0 (x.addr / 64) agent pkg, mask := if (min (x.addr % 64 + x.len) 64 - x.addr % 64) = 64 then BitVec.allOnes 64 else 0, amo := (match x.kind with | .atomic a => a | _ => .swap), size := x.len, off := x.addr % 64 }).net ∧
      (t.port p).inb.map (fun e => (e.1, e.2.root, e.2.tag, e.2.addr, e.2.len, e.2.left)) = [(0, x.root, x.tag, x.addr, x.len, linesOf x.addr x.len)] ∧
      (t.port p).inb.map (fun e => (e.2.data, e.2.poison, e.2.posted, e.2.err)) = [(match x.kind with | .read => [] | .atomic .cas => (x.data.drop x.len).take x.len | _ => x.data, false, x.kind == .write, false)] ∧
      t.port p = { (s.port p) with roots := (t.port p).roots, inb := (t.port p).inb } ∧ (t.port p).root x.root = { ((s.port p).root x.root) with power := if (s.port p).quarter ∧ ((s.port p).root x.root).flitMode then .l0pQuarter else .l0 } ∧ (∀ j, j ≠ x.root → (t.port p).root j = (s.port p).root j) ∧ (∀ q, q ≠ p.val → t.port q = s.port q) ∧ t.frame (s.frameOfPort p) = { s.frame (s.frameOfPort p) with inbNo := (s.frame (s.frameOfPort p)).inbNo + 1 } ∧ (∀ g, g ≠ s.frameOfPort p → t.frame g = s.frame g) ∧ t = { s with ports := t.ports, frames := t.frames, net := t.net }) ∧
  (∀ (s : State) (p : PortId) (x : Tlp) (agent pkg : Nat),
    (s.port p).hasRoots = true →
    ((s.port p).root x.root).up = true →
    x.root < 8 →
    x.ep = true →
    x.kind = .write →
    tlpOk x = true →
    ((s.port p).root x.root).acsPasses x = true →
    (s.port p).ioQ = [] →
    bitOf (((s.port p).root x.root).cfgWord 0x04) 2 = true →
    (s.port p).ioFld 0x10 3 0 = 1 →
    x.form = 0 →
    (match s.region (s.frameOfPort p) x.addr with | .dram _ => true | .remote _ _ => true | .bench _ _ => true | .cxl q _ => !s.reqErr (12 + q) (x.addr / 64) .rdNc | _ => false) = true →
    s.target (s.frameOfPort p) (x.addr / 64 * 64) = some (agent, pkg) →
    0 < x.len →
    (s.port p).inb = [] →
    (s.port p).inbQ = [] →
    RunsTo (exec (.inboundRequest p x) s) fun t =>
      (t.port p).inb.map (fun e => (e.1, e.2.addr, e.2.len, e.2.left, e.2.data, e.2.poison)) = [(0, x.addr, x.len, linesOf x.addr x.len, x.data, true)] ∧
      bitOf ((t.port p).root x.root).aer 12 = true ∧ (s.scribe.frozen = false → ((t.recOf 0x24 (0x20 + p)).bin 0x24 7) = min (2 ^ 64 - 1) ((s.recOf 0x24 (0x20 + p)).bin 0x24 7 + 1)) ∧ (∀ q, q ≠ p.val → (t.port q).purlin = (s.port q).purlin ∧ (t.port q).ridge = (s.port q).ridge ∧ (t.port q).roots = (s.port q).roots) ∧ t.mem = s.mem ∧ t.memPoison = s.memPoison ∧ t.homes = s.homes ∧ t.chans = s.chans ∧ t.tenons = s.tenons) ∧
  (∀ (s : State) (p : PortId) (x : Tlp),
    (s.port p).hasRoots = true →
    ((s.port p).root x.root).up = true →
    x.root < 8 →
    x.ep = false →
    tlpOk x = true →
    ((s.port p).root x.root).acsPasses x = true →
    (s.port p).ioQ = [] →
    bitOf (((s.port p).root x.root).cfgWord 0x04) 2 = true →
    (s.port p).ioFld 0x10 3 0 = 1 →
    x.form = 0 →
    (match s.region (s.frameOfPort p) x.addr with | .dram _ => true | .remote _ _ => true | .bench _ _ => true | .cxl q _ => !s.reqErr (12 + q) (x.addr / 64) .rdNc | _ => false) = true →
    (s.port p).inb.any (fun e => e.2.root == x.root && e.2.posted && e.2.wr && decide (e.2.no < (s.frame (s.frameOfPort p)).inbNo)) = true →
    (x.ro = false ∧ x.ido = false) →
    (s.port p).inbQ = [] →
    RunsTo (exec (.inboundRequest p x) s) fun t =>
      (t.port p).inbQ.map (fun e => (e.root, e.tag, e.addr)) = [(x.root, x.tag, x.addr)] ∧ (t.port p).inb = (s.port p).inb ∧ (∀ q, q ≠ p.val → t.port q = s.port q) ∧ t.frame (s.frameOfPort p) = { s.frame (s.frameOfPort p) with inbNo := (s.frame (s.frameOfPort p)).inbNo + 1 } ∧ (∀ g, g ≠ s.frameOfPort p → t.frame g = s.frame g) ∧ t = { s with ports := t.ports, frames := t.frames }) ∧
  (∀ (s : State) (p : PortId) (x : Tlp),
    (s.port p).hasRoots = true →
    ((s.port p).root x.root).up = true →
    x.root < 8 →
    x.ep = false →
    tlpOk x = true →
    ((s.port p).root x.root).acsPasses x = true →
    bitOf (((s.port p).root x.root).cfgWord 0x04) 2 = true →
    (s.port p).ioQ ≠ [] →
    RunsTo (exec (.inboundRequest p x) s) fun t => t.port p = { (s.port p) with roots := (t.port p).roots, ioQ := (s.port p).ioQ ++ [some x] } ∧ (t.port p).root x.root = { ((s.port p).root x.root) with power := if (s.port p).quarter ∧ ((s.port p).root x.root).flitMode then .l0pQuarter else .l0 } ∧ (∀ j, j ≠ x.root → (t.port p).root j = (s.port p).root j) ∧ (∀ q, q ≠ p.val → t.port q = s.port q) ∧ t = { s with ports := t.ports }) ∧
  (∀ (s : State) (p : PortId) (x : Tlp) (h c id : Nat),
    (s.port p).hasRoots = true →
    ((s.port p).root x.root).up = true →
    x.root < 8 →
    x.ep = false →
    tlpOk x = true →
    ((s.port p).root x.root).acsPasses x = true →
    (s.port p).ioQ = [] →
    bitOf (((s.port p).root x.root).cfgWord 0x04) 2 = true →
    (s.port p).ioFld 0x10 3 0 = 1 →
    x.form = 0 →
    (x.kind = .write ∧ x.len = 4 ∧ x.data = bytesOf 4 id) →
    s.region (s.frameOfPort p) x.addr = .control (0x40000000 + h * 0x1000) →
    (h < 4096 ∧ s.coreOfHart (s.frameOfPort p) h = some c) →
    (s.tenon (c / 32)).st ≠ 3 →
    id < 2 ^ 32 →
    (s.port p).inb = [] →
    (s.port p).inbQ = [] →
    RunsTo (exec (.inboundRequest p x) s) fun t =>
      t.net = (s.send (s.msiMsg (32 + p.val) (c / 32) s.ownPkg h 0 id)).net ∧ (t.port p).inb = [] ∧ (t.port p).answers = (s.port p).answers ∧ (∀ q, q ≠ p.val → t.port q = s.port q) ∧ t.frame (s.frameOfPort p) = { s.frame (s.frameOfPort p) with inbNo := (s.frame (s.frameOfPort p)).inbNo + 1 } ∧ (∀ g, g ≠ s.frameOfPort p → t.frame g = s.frame g) ∧ t = { s with ports := t.ports, frames := t.frames, net := t.net }) ∧
  (∀ (s : State) (p : PortId) (x : Tlp) (q j : Nat),
    (s.port p).hasRoots = true →
    ((s.port p).root x.root).up = true →
    x.root < 8 →
    x.ep = false →
    tlpOk x = true →
    ((s.port p).root x.root).acsPasses x = true →
    (s.port p).ioQ = [] →
    bitOf (((s.port p).root x.root).cfgWord 0x04) 2 = true →
    (s.port p).ioFld 0x10 3 0 = 1 →
    x.form = 0 →
    x.kind = .write →
    (((s.port p).root x.root).redirects = false ∧ (s.port p).devCtl.getLsbD 31 = true) →
    s.peerOf p { addr := x.addr, root := x.root } = some (q, j) →
    0 < x.len →
    (s.port p).inb = [] →
    (s.port p).inbQ = [] →
    RunsTo (exec (.inboundRequest p x) s) fun t =>
      ((t.port q).root j).sent = ((s.port q).root j).sent ++ [(x.addr, x.data, false)] ∧ (t.port p).inb = [] ∧ (t.port p).answers = (s.port p).answers ∧
      (∀ k, k ≠ q → k ≠ p.val → t.port k = s.port k) ∧ t.frame (s.frameOfPort p) = { s.frame (s.frameOfPort p) with inbNo := (s.frame (s.frameOfPort p)).inbNo + 1 } ∧ (∀ g, g ≠ s.frameOfPort p → t.frame g = s.frame g) ∧ t = { s with ports := t.ports, frames := t.frames }) ∧
  (∀ (s : State) (p : PortId) (x : Tlp) (q j : Nat),
    (s.port p).hasRoots = true →
    ((s.port p).root x.root).up = true →
    x.root < 8 →
    x.ep = false →
    tlpOk x = true →
    ((s.port p).root x.root).acsPasses x = true →
    (s.port p).ioQ = [] →
    bitOf (((s.port p).root x.root).cfgWord 0x04) 2 = true →
    (s.port p).ioFld 0x10 3 0 = 1 →
    x.form = 0 →
    x.kind = .read →
    (((s.port p).root x.root).redirects = false ∧ (s.port p).devCtl.getLsbD 31 = true) →
    s.peerOf p { addr := x.addr, root := x.root } = some (q, j) →
    0 < x.len →
    (s.port p).inb = [] →
    (s.port p).inbQ = [] →
    (((s.port q).root j).out = [] ∧ ((s.port q).root j).quar = []) →
    RunsTo (exec (.inboundRequest p x) s) fun t =>
      ((t.port q).root j).out.map (fun e => (e.1, e.2.core, e.2.slot, e.2.op, e.2.addr, e.2.len)) = [(0, 385 + p.val, 0, 1, x.addr, x.len)] ∧
      (t.port p).inb.map (fun e => (e.1, e.2.tag, e.2.addr)) = [(0, x.tag, x.addr)] ∧
      (∀ k, k ≠ q → k ≠ p.val → t.port k = s.port k) ∧ t.frame (s.frameOfPort p) = { s.frame (s.frameOfPort p) with inbNo := (s.frame (s.frameOfPort p)).inbNo + 1 } ∧ (∀ g, g ≠ s.frameOfPort p → t.frame g = s.frame g) ∧ t = { s with ports := t.ports, frames := t.frames }) ∧
  (∀ (s : State) (p : PortId) (x : Tlp) (q j : Nat) (a : AmoOp),
    (s.port p).hasRoots = true →
    ((s.port p).root x.root).up = true →
    x.root < 8 →
    x.ep = false →
    tlpOk x = true →
    ((s.port p).root x.root).acsPasses x = true →
    (s.port p).ioQ = [] →
    bitOf (((s.port p).root x.root).cfgWord 0x04) 2 = true →
    (s.port p).ioFld 0x10 3 0 = 1 →
    x.form = 0 →
    (x.kind = .atomic a ∧ a ≠ .cas ∧ x.data ≠ []) →
    (((s.port p).root x.root).redirects = false ∧ (s.port p).devCtl.getLsbD 31 = true) →
    s.peerOf p { addr := x.addr, root := x.root } = some (q, j) →
    0 < x.len →
    (s.port p).inb = [] →
    (s.port p).inbQ = [] →
    (((s.port q).root j).out = [] ∧ ((s.port q).root j).quar = []) →
    RunsTo (exec (.inboundRequest p x) s) fun t =>
      ((t.port q).root j).out.map (fun e => (e.1, e.2.core, e.2.slot, e.2.op, e.2.addr, e.2.data, e.2.amo)) = [(0, 385 + p.val, 0, 4, x.addr, x.data, some a)] ∧
      (t.port p).inb.map (fun e => (e.1, e.2.tag, e.2.addr)) = [(0, x.tag, x.addr)] ∧
      (∀ k, k ≠ q → k ≠ p.val → t.port k = s.port k) ∧ t.frame (s.frameOfPort p) = { s.frame (s.frameOfPort p) with inbNo := (s.frame (s.frameOfPort p)).inbNo + 1 } ∧ (∀ g, g ≠ s.frameOfPort p → t.frame g = s.frame g) ∧ t = { s with ports := t.ports, frames := t.frames }) ∧
  (∀ (s : State) (p : PortId) (x : Tlp) (q n : Nat),
    (s.port p).hasRoots = true →
    ((s.port p).root x.root).up = true →
    x.root < 8 →
    x.ep = false →
    tlpOk x = true →
    ((s.port p).root x.root).acsPasses x = true →
    (s.port p).ioQ = [] →
    bitOf (((s.port p).root x.root).cfgWord 0x04) 2 = true →
    (s.port p).ioFld 0x10 3 0 = 1 →
    x.form = 0 →
    (x.kind = .write ∧ 0 < x.len ∧ x.addr % 256 + x.len ≤ 256) →
    (s.port p).devCtl.getLsbD 30 = true →
    (match s.region (s.frameOfPort p) x.addr with | .ridge _ _ => true | _ => false) = true →
    s.ridgePorts (s.frameOfPort p) = [q] →
    (s.port q).ridge.farPst = 0xFFFF →
    (portsOf s.mode (s.frameOfPort p)).all (fun k => (s.port k).ridge.out.isEmpty) = true →
    (n = (s.port q).ridge.quar.length ∧ n < 4096) →
    (s.frame (s.frameOfPort p)).nodeId ≠ ridgeNode x.addr →
    (s.port p).inb = [] →
    (s.port p).inbQ = [] →
    RunsTo (exec (.inboundRequest p x) s) fun t =>
      (t.port q).ridge.sentSl = ((s.port q).ridge.sentSl.1, ((s.port q).ridge.sentSl.2.1 + ridgeSlots (x.data.take x.len).length) % 65536, (s.port q).ridge.sentSl.2.2) ∧
      (t.port q).ridge.out = (s.port q).ridge.out ∧ (t.port p).inb = [] ∧ (t.port p).answers = (s.port p).answers ∧
      (∀ k, k ≠ q → k ≠ p.val → t.port k = s.port k) ∧ t.frame (s.frameOfPort p) = { s.frame (s.frameOfPort p) with inbNo := (s.frame (s.frameOfPort p)).inbNo + 1 } ∧ (∀ g, g ≠ s.frameOfPort p → t.frame g = s.frame g) ∧ t = { s with ports := t.ports, frames := t.frames }) ∧
  (∀ (s : State) (p : PortId) (x : Tlp),
    (s.port p).hasRoots = true →
    ((s.port p).root x.root).up = true →
    x.root < 8 →
    x.ep = false →
    x.kind ≠ .write →
    ((tlpOk x = false ∨ bitOf (((s.port p).root x.root).cfgWord 0x04) 2 = false ∨ ((s.port p).root x.root).acsPasses x = false) ∨ (s.port p).ioQ = [] ∧ ((s.port p).ioFld 0x10 3 0 = 0 ∧ bitOf ((s.port p).ioReg 0x48) 48 = false ∧ (s.port p).ioRecs = [] ∧ s.ncBusy (.record p.val) = false ∨ (s.port p).ioFld 0x10 3 0 = 1 ∧ x.form ≠ 0 ∧ bitOf ((s.port p).ioReg 0x48) 48 = false ∧ (s.port p).ioRecs = [] ∧ s.ncBusy (.record p.val) = false ∨ (s.port p).ioFld 0x10 3 0 = 1 ∧ x.form = 0 ∧ s.inbKind p x x.addr = none)) →
    RunsTo (exec (.inboundRequest p x) s) fun t => t.port p = { (s.port p) with roots := (t.port p).roots, answers := (s.port p).answers ++ [.ur x.root x.tag] } ∧ (t.port p).root x.root = { ((s.port p).root x.root) with aer := ((s.port p).root x.root).aer ||| 2 ^ 20, power := if (s.port p).quarter ∧ ((s.port p).root x.root).flitMode then .l0pQuarter else .l0 } ∧ (∀ j, j ≠ x.root → (t.port p).root j = (s.port p).root j) ∧ (∀ q, q ≠ p.val → t.port q = s.port q) ∧ t = { s with ports := t.ports, ncBuf := t.ncBuf }) ∧
  (∀ (s : State) (p : PortId) (x : Tlp),
    (s.port p).hasRoots = true →
    ((s.port p).root x.root).up = true →
    x.root < 8 →
    x.ep = false →
    x.kind = .write →
    ((tlpOk x = false ∨ bitOf (((s.port p).root x.root).cfgWord 0x04) 2 = false ∨ ((s.port p).root x.root).acsPasses x = false) ∨ (s.port p).ioQ = [] ∧ ((s.port p).ioFld 0x10 3 0 = 0 ∧ bitOf ((s.port p).ioReg 0x48) 48 = false ∧ (s.port p).ioRecs = [] ∧ s.ncBusy (.record p.val) = false ∨ (s.port p).ioFld 0x10 3 0 = 1 ∧ x.form ≠ 0 ∧ bitOf ((s.port p).ioReg 0x48) 48 = false ∧ (s.port p).ioRecs = [] ∧ s.ncBusy (.record p.val) = false ∨ (s.port p).ioFld 0x10 3 0 = 1 ∧ x.form = 0 ∧ s.inbKind p x x.addr = none)) →
    RunsTo (exec (.inboundRequest p x) s) fun t =>
      t.port p = { (s.port p) with roots := (t.port p).roots, dropped := satAdd 16 (s.port p).dropped 1 } ∧ (t.port p).root x.root = { ((s.port p).root x.root) with aer := ((s.port p).root x.root).aer ||| 2 ^ 20, power := if (s.port p).quarter ∧ ((s.port p).root x.root).flitMode then .l0pQuarter else .l0 } ∧ (∀ j, j ≠ x.root → (t.port p).root j = (s.port p).root j) ∧ (s.scribe.frozen = false → ((t.recOf 0x24 (0x20 + p)).bin 0x24 5) = min (2 ^ 64 - 1) ((s.recOf 0x24 (0x20 + p)).bin 0x24 5 + 1)) ∧ (∀ q, q ≠ p.val → (t.port q).purlin = (s.port q).purlin ∧ (t.port q).ridge = (s.port q).ridge ∧ (t.port q).roots = (s.port q).roots) ∧ t.mem = s.mem ∧ t.memPoison = s.memPoison ∧ t.homes = s.homes ∧ t.chans = s.chans ∧ t.tenons = s.tenons ∧ s.keepsNet t) ∧
  (∀ (s : State) (p : PortId) (x : Tlp),
    ((s.port p).hasRoots = false ∨ ((s.port p).root x.root).up = false) →
    exec (.inboundRequest p x) s = .next s) ∧
  (∀ (s : State) (p : PortId) (i : Fin 8) (k : Fin 4) (a : Bool),
    (s.port p).hasRoots = true →
    ((s.port p).root i).up = true →
    RunsTo (exec (.intxMessage p i k a) s) fun t =>
      ((t.port p).root i) = { ((s.port p).root i) with intx := if a then ((s.port p).root i).intx ||| 2 ^ k.val else ((s.port p).root i).intx &&& (15 - 2 ^ k.val) } ∧
      t.port p = { (s.port p) with roots := (t.port p).roots } ∧ (∀ j, j ≠ i.val → (t.port p).root j = (s.port p).root j) ∧ (∀ q, q ≠ p.val → t.port q = s.port q) ∧ t.mem = s.mem ∧ t.memPoison = s.memPoison ∧ t.homes = s.homes ∧ t.chans = s.chans ∧ t.tenons = s.tenons ∧ s.keepsNet t) ∧
  (∀ (s : State) (p : PortId) (i : Fin 8) (k : Fin 4),
    (s.port p).hasRoots = true →
    ((s.port p).root i).up = true →
    (s.port p).pers = 1 →
    (s.port p).intxLevel k = false →
    (s.frame (s.frameOfPort p)).aplic.enabled.contains (8 + 4 * p.val + k.val) = false →
    (s.frame (s.frameOfPort p)).aplic.sm (8 + 4 * p.val + k.val) = 6 →
    RunsTo (exec (.intxMessage p i k true) s) fun t =>
      (t.frame (s.frameOfPort p)).aplic = { (s.frame (s.frameOfPort p)).aplic with pending := listAdd (s.frame (s.frameOfPort p)).aplic.pending (8 + 4 * p.val + k.val) } ∧ (∀ d, t.core d = s.core d) ∧ (∀ q, q ≠ p.val → t.port q = s.port q) ∧ t.mem = s.mem ∧ t.memPoison = s.memPoison ∧ t.homes = s.homes ∧ t.chans = s.chans ∧ t.tenons = s.tenons ∧ t.net = s.net) ∧
  (∀ (s : State) (p : PortId) (i : Fin 8) (k : Fin 4),
    (s.port p).hasRoots = true →
    ((s.port p).root i).up = true →
    (s.port p).pers = 1 →
    (s.port p).intxLevel k = true →
    (s.port p).roots.all (fun e => e.1 == i.val || !bitOf e.2.intx k) = true →
    (s.frame (s.frameOfPort p)).aplic.enabled.contains (8 + 4 * p.val + k.val) = false →
    (s.frame (s.frameOfPort p)).aplic.sm (8 + 4 * p.val + k.val) = 6 →
    RunsTo (exec (.intxMessage p i k false) s) fun t =>
      (t.frame (s.frameOfPort p)).aplic = { (s.frame (s.frameOfPort p)).aplic with pending := (s.frame (s.frameOfPort p)).aplic.pending.filter (· != (8 + 4 * p.val + k.val)) } ∧ (∀ d, t.core d = s.core d) ∧ (∀ q, q ≠ p.val → t.port q = s.port q) ∧ t.mem = s.mem ∧ t.memPoison = s.memPoison ∧ t.homes = s.homes ∧ t.chans = s.chans ∧ t.tenons = s.tenons ∧ t.net = s.net) ∧
  (∀ (s : State) (p : PortId) (i : Fin 8) (k : Fin 4) (a : Bool),
    ((s.port p).hasRoots = false ∨ ((s.port p).root i).up = false) →
    exec (.intxMessage p i k a) s = .next s) ∧
  (∀ (s : State) (p : PortId) (i : Fin 8) (c tag : Nat) (data : List Byte) (q : OutReq) (x : Slot) (w : Wait),
    (s.port p).requester = true →
    s.quietFrame (s.frameOfPort p) (some c) →
    s.frameOfCore c = s.frameOfPort p →
    c < 384 →
    Tab.find ((s.port p).outs i) tag = some q →
    q.core = c →
    q.op = 1 →
    (s.core c).pipe.slots = [(q.slot, x)] →
    ((s.core c).pipe.waits = [] ∧ (s.core c).pipe.fence = [] ∧ (s.core c).pipe.rob = [] ∧ (s.core c).pipe.stall = none ∧ (s.core c).pipe.trapped = false ∧ (s.core c).pipe.poison = none ∧ (s.core c).pipe.storeQ = []) →
    x.merged = [w] →
    w.acc.kind = .load →
    data.length = w.acc.size →
    (q.got = [] ∧ q.ep = false ∧ q.len = w.acc.size) →
    RunsTo (exec (.completion p i tag .sc false data) s) fun t =>
      (t.core c).regs = ((s.core c).deliverAcc w.acc (ofBytes data)).regs ∧ (t.core c).pipe.slots = [] ∧ t.port p = (s.port p).setOuts i (Tab.erase ((s.port p).outs i) tag) ∧ (∀ d, d ≠ c → t.core d = s.core d) ∧ (∀ q, q ≠ p.val → t.port q = s.port q) ∧ t.mem = s.mem ∧ t.memPoison = s.memPoison ∧ t.homes = s.homes ∧ t.chans = s.chans ∧ t.tenons = s.tenons ∧ t.net = s.net ∧ t.frames = s.frames) ∧
  (∀ (s : State) (p : PortId) (i : Fin 8) (c tag : Nat) (data : List Byte) (q : OutReq) (x : Slot) (w : Wait),
    (s.port p).pers = 3 →
    s.quietFrame (s.frameOfPort p) (some c) →
    s.frameOfCore c = s.frameOfPort p →
    c < 384 →
    Tab.find ((s.port p).outs i) tag = some q →
    q.core = c →
    q.op = 1 →
    (s.core c).pipe.slots = [(q.slot, x)] →
    ((s.core c).pipe.waits = [] ∧ (s.core c).pipe.fence = [] ∧ (s.core c).pipe.rob = [] ∧ (s.core c).pipe.stall = none ∧ (s.core c).pipe.trapped = false ∧ (s.core c).pipe.poison = none ∧ (s.core c).pipe.storeQ = []) →
    x.merged = [w] →
    w.acc.kind = .load →
    data.length = w.acc.size →
    (q.got = [] ∧ q.ep = false ∧ q.len = w.acc.size) →
    RunsTo (exec (.completion p i tag .sc false data) s) fun t =>
      (t.core c).regs = ((s.core c).deliverAcc w.acc (ofBytes data)).regs ∧ (t.core c).pipe.slots = [] ∧ t.port p = { (s.port p) with dt := { (s.port p).dt with out := Tab.erase (s.port p).dt.out tag } } ∧ (∀ d, d ≠ c → t.core d = s.core d) ∧ (∀ q, q ≠ p.val → t.port q = s.port q) ∧ t.mem = s.mem ∧ t.memPoison = s.memPoison ∧ t.homes = s.homes ∧ t.chans = s.chans ∧ t.tenons = s.tenons ∧ t.net = s.net) ∧
  (∀ (s : State) (p : PortId) (i : Fin 8) (c tag : Nat) (st : CplStatus) (ep : Bool) (data : List Byte) (q : OutReq) (x : Slot) (w : Wait),
    (s.port p).requester = true →
    s.quietFrame (s.frameOfPort p) (some c) →
    s.frameOfCore c = s.frameOfPort p →
    c < 384 →
    Tab.find ((s.port p).outs i) tag = some q →
    q.core = c →
    q.op = 2 →
    (s.core c).pipe.slots = [(q.slot, x)] →
    ((s.core c).pipe.waits = [] ∧ (s.core c).pipe.fence = [] ∧ (s.core c).pipe.rob = [] ∧ (s.core c).pipe.stall = none ∧ (s.core c).pipe.trapped = false ∧ (s.core c).pipe.poison = none ∧ (s.core c).pipe.storeQ = []) →
    x.merged = [w] →
    w.acc.kind = .load →
    st ≠ .sc →
    ep = false →
    RunsTo (exec (.completion p i tag st ep data) s) fun t =>
      (t.core c).regs = ((s.core c).deliverAcc w.acc (allOnes w.acc.size)).regs ∧ (t.core c).pipe.slots = [] ∧ t.port p = ((s.port p).pioSet i q (if st = .ur then 0 else 1)).setOuts i (Tab.erase ((s.port p).outs i) tag) ∧ (∀ d, d ≠ c → t.core d = s.core d) ∧ (∀ q, q ≠ p.val → t.port q = s.port q) ∧ t.mem = s.mem ∧ t.memPoison = s.memPoison ∧ t.homes = s.homes ∧ t.chans = s.chans ∧ t.tenons = s.tenons ∧ t.net = s.net ∧ t.frames = s.frames ∧ t.scribe = s.scribe) ∧
  (∀ (s : State) (p : PortId) (i : Fin 8) (c tag : Nat) (st : CplStatus) (ep : Bool) (data : List Byte) (q : OutReq) (x : Slot) (w : Wait),
    (s.port p).requester = true →
    s.quietFrame (s.frameOfPort p) (some c) →
    s.frameOfCore c = s.frameOfPort p →
    c < 384 →
    Tab.find ((s.port p).outs i) tag = some q →
    q.core = c →
    q.op = 1 →
    (s.core c).pipe.slots = [(q.slot, x)] →
    ((s.core c).pipe.waits = [] ∧ (s.core c).pipe.fence = [] ∧ (s.core c).pipe.rob = [] ∧ (s.core c).pipe.stall = none ∧ (s.core c).pipe.trapped = false ∧ (s.core c).pipe.poison = none ∧ (s.core c).pipe.storeQ = []) →
    x.merged = [w] →
    w.acc.kind = .load →
    (st ≠ .sc ∨ ep = true) →
    (st = .sc → q.len ≤ q.got.length + data.length) →
    (s.port p).devCtl.getLsbD 32 = false →
    RunsTo (exec (.completion p i tag st ep data) s) fun t =>
      (t.core c).regs = ((s.core c).deliverAcc w.acc (allOnes w.acc.size)).regs ∧ (t.core c).pipe.slots = [] ∧ t.scribe.log.any (fun e => e.seq == s.scribe.logSeq && e.cls == 3 && e.src == 7 && e.code == (if (s.port p).pers = 3 then 0x2E else 0x2B) && e.inst == p.val && e.pa == w.acc.pa) = true ∧ (∀ q, q ≠ p.val → (t.port q).purlin = (s.port q).purlin ∧ (t.port q).ridge = (s.port q).ridge ∧ (t.port q).roots = (s.port q).roots) ∧ t.mem = s.mem ∧ t.memPoison = s.memPoison ∧ t.homes = s.homes ∧ t.chans = s.chans ∧ t.tenons = s.tenons ∧ s.keepsNet t) ∧
  (∀ (s : State) (p : PortId) (i : Fin 8) (c tag : Nat) (st : CplStatus) (ep : Bool) (data : List Byte) (q : OutReq) (x : Slot) (w : Wait),
    (s.port p).requester = true →
    s.quietFrame (s.frameOfPort p) (some c) →
    s.frameOfCore c = s.frameOfPort p →
    c < 384 →
    Tab.find ((s.port p).outs i) tag = some q →
    q.core = c →
    q.op = 1 →
    (s.core c).pipe.slots = [(q.slot, x)] →
    ((s.core c).pipe.waits = [] ∧ (s.core c).pipe.fence = [] ∧ (s.core c).pipe.rob = [] ∧ (s.core c).pipe.stall = none ∧ (s.core c).pipe.trapped = false ∧ (s.core c).pipe.poison = none ∧ (s.core c).pipe.storeQ = []) →
    x.merged = [w] →
    w.acc.kind = .load →
    (st ≠ .sc ∨ ep = true) →
    (st = .sc → q.len ≤ q.got.length + data.length) →
    (s.port p).devCtl.getLsbD 32 = true →
    (s.core c).xlat.walks = [] →
    (s.core c).regs.trapTarget { cause := 5, tval := w.acc.va } = 3 →
    (s.core c).pipe.snpQ = [] →
    w.acc.guest = false →
    RunsTo (exec (.completion p i tag st ep data) s) fun t =>
      (t.core c).csr Csr.mcause = 5 ∧ (t.core c).csr Csr.mtval = w.acc.va ∧ (t.core c).csr Csr.mepc = w.pc ∧
      (t.core c).regs.x = (s.core c).regs.x ∧ (t.core c).pipe.slots = [] ∧ Tab.find ((t.port p).outs i) tag = none ∧ (ep = true → (s.scribe.frozen = false → ((t.recOf 0x24 (0x20 + p)).bin 0x24 7) = min (2 ^ 64 - 1) ((s.recOf 0x24 (0x20 + p)).bin 0x24 7 + 1))) ∧ (∀ q, q ≠ p.val → (t.port q).purlin = (s.port q).purlin ∧ (t.port q).ridge = (s.port q).ridge ∧ (t.port q).roots = (s.port q).roots) ∧ t.mem = s.mem ∧ t.memPoison = s.memPoison ∧ t.homes = s.homes ∧ t.chans = s.chans ∧ t.tenons = s.tenons ∧ s.keepsNet t) ∧
  (∀ (s : State) (p : PortId) (i : Fin 8) (tag : Nat) (data : List Byte) (q : OutReq),
    (s.port p).requester = true →
    Tab.find ((s.port p).outs i) tag = some q →
    q.op ≠ 3 →
    q.got.length + data.length < q.len →
    exec (.completion p i tag .sc false data) s = .next (s.setPort p ((s.port p).setOuts i (Tab.set ((s.port p).outs i) tag { q with got := q.got ++ data })))) ∧
  (∀ (s : State) (p : PortId) (i : Fin 8) (tag : Nat) (data : List Byte) (q : OutReq),
    (s.port p).requester = true →
    s.quietFrame (s.frameOfPort p) none →
    Tab.find ((s.port p).outs i) tag = some q →
    (q.core = 384 ∧ q.op = 3) →
    RunsTo (exec (.completion p i tag .sc false data) s) fun t => t.port p = (s.port p).setOuts i (Tab.erase ((s.port p).outs i) tag) ∧ (∀ d, t.core d = s.core d) ∧ (∀ q, q ≠ p.val → t.port q = s.port q) ∧ t.mem = s.mem ∧ t.memPoison = s.memPoison ∧ t.homes = s.homes ∧ t.chans = s.chans ∧ t.tenons = s.tenons ∧ t.net = s.net ∧ t.scribe = s.scribe) ∧
  (∀ (s : State) (p : PortId) (i : Fin 8) (tag : Nat) (st : CplStatus) (data : List Byte) (q : OutReq),
    (s.port p).requester = true →
    s.quietFrame (s.frameOfPort p) none →
    Tab.find ((s.port p).outs i) tag = some q →
    q.core = 384 →
    st ≠ .sc →
    RunsTo (exec (.completion p i tag st false data) s) fun t => Tab.find ((t.port p).outs i) tag = none ∧ t.scribe.log.any (fun e => e.seq == s.scribe.logSeq && e.cls == 3 && e.src == 7 && e.code == 0x2B && e.inst == p.val) = true ∧ (∀ q, q ≠ p.val → (t.port q).purlin = (s.port q).purlin ∧ (t.port q).ridge = (s.port q).ridge ∧ (t.port q).roots = (s.port q).roots) ∧ t.mem = s.mem ∧ t.memPoison = s.memPoison ∧ t.homes = s.homes ∧ t.chans = s.chans ∧ t.tenons = s.tenons ∧ s.keepsNet t) ∧
  (∀ (s : State) (p : PortId) (i : Fin 8) (tag : Nat) (st : CplStatus) (ep : Bool) (data : List Byte),
    (s.port p).hasRoots = true →
    s.quietFrame (s.frameOfPort p) none →
    Tab.find ((s.port p).root i).out tag = none →
    RunsTo (exec (.completion p i tag st ep data) s) fun t =>
      ((t.port p).root i) = { ((s.port p).root i) with aer := ((s.port p).root i).aer ||| 2 ^ 16, quar := (match Tab.find ((s.port p).root i).quar tag with | none => ((s.port p).root i).quar | some n => if st ≠ .sc ∨ n ≤ max 1 data.length then Tab.erase ((s.port p).root i).quar tag else Tab.set ((s.port p).root i).quar tag (n - data.length)) } ∧ (∀ j, j ≠ i.val → (t.port p).root j = (s.port p).root j) ∧
      (t.port p).unexpCpl = satAdd 16 (s.port p).unexpCpl 1 ∧ (s.scribe.frozen = false → ((t.recOf 0x24 (0x20 + p)).bin 0x24 4) = min (2 ^ 64 - 1) ((s.recOf 0x24 (0x20 + p)).bin 0x24 4 + 1)) ∧ ((s.frame (s.frameOfPort p)).nq.stalled = [] → ∀ d, (t.core d).regs.x = (s.core d).regs.x) ∧ (∀ q, q ≠ p.val → (t.port q).purlin = (s.port q).purlin ∧ (t.port q).ridge = (s.port q).ridge ∧ (t.port q).roots = (s.port q).roots) ∧ t.mem = s.mem ∧ t.memPoison = s.memPoison ∧ t.homes = s.homes ∧ t.chans = s.chans ∧ t.tenons = s.tenons ∧ s.keepsNet t) ∧
  (∀ (s : State) (p : PortId) (i : Fin 8) (tag : Nat) (st : CplStatus) (ep : Bool) (data : List Byte),
    (s.port p).pers = 3 →
    s.quietFrame (s.frameOfPort p) none →
    Tab.find (s.port p).dt.out tag = none →
    RunsTo (exec (.completion p i tag st ep data) s) fun t =>
      (t.port p).dt.unexp = true ∧ (t.port p).dt.quar = (match Tab.find (s.port p).dt.quar tag with | none => (s.port p).dt.quar | some n => if st ≠ .sc ∨ n ≤ max 1 data.length then Tab.erase (s.port p).dt.quar tag else Tab.set (s.port p).dt.quar tag (n - data.length)) ∧ bitOf (t.port p).dt.aer 16 = true ∧ (t.port p).dt.out = (s.port p).dt.out ∧
      (t.port p).unexpCpl = satAdd 16 (s.port p).unexpCpl 1 ∧ (s.scribe.frozen = false → ((t.recOf 0x24 (0x20 + p)).bin 0x24 4) = min (2 ^ 64 - 1) ((s.recOf 0x24 (0x20 + p)).bin 0x24 4 + 1)) ∧ ((s.frame (s.frameOfPort p)).nq.stalled = [] → ∀ d, (t.core d).regs.x = (s.core d).regs.x) ∧ (∀ q, q ≠ p.val → (t.port q).purlin = (s.port q).purlin ∧ (t.port q).ridge = (s.port q).ridge ∧ (t.port q).roots = (s.port q).roots) ∧ t.mem = s.mem ∧ t.memPoison = s.memPoison ∧ t.homes = s.homes ∧ t.chans = s.chans ∧ t.tenons = s.tenons ∧ s.keepsNet t) ∧
  (∀ (s : State) (p : PortId) (i : Fin 8) (tag : Nat) (st : CplStatus) (ep : Bool) (data : List Byte) (j : Instr),
    (s.port p).requester = false →
    j ∈ ([.completion p i tag st ep data, .completionTimeout p i tag, .pcieTagQuarantineEnd p i tag] : List Instr) →
    exec j s = .next s) ∧
  (∀ (s : State) (p : PortId) (i : Fin 8) (tag : Nat) (q : OutReq),
    (s.port p).requester = true →
    (s.port p).noTimeout i = false →
    s.quietFrame (s.frameOfPort p) none →
    Tab.find ((s.port p).outs i) tag = some q →
    q.core = 384 →
    RunsTo (exec (.completionTimeout p i tag) s) fun t =>
      Tab.find ((t.port p).outs i) tag = none ∧ (t.port p).quarOf i = Tab.set ((s.port p).quarOf i) tag q.owed ∧
      t.scribe.log.any (fun e => e.seq == s.scribe.logSeq && e.cls == 3 && e.src == 7 && e.code == 0x2B && e.inst == p.val) = true ∧ (s.scribe.frozen = false → ((t.recOf 0x24 (0x20 + p)).bin 0x24 6) = min (2 ^ 64 - 1) ((s.recOf 0x24 (0x20 + p)).bin 0x24 6 + 1)) ∧ ((s.frame (s.frameOfPort p)).nq.stalled = [] → ∀ d, (t.core d).regs.x = (s.core d).regs.x) ∧ (∀ q, q ≠ p.val → (t.port q).purlin = (s.port q).purlin ∧ (t.port q).ridge = (s.port q).ridge ∧ (t.port q).roots = (s.port q).roots) ∧ t.mem = s.mem ∧ t.memPoison = s.memPoison ∧ t.homes = s.homes ∧ t.chans = s.chans ∧ t.tenons = s.tenons ∧ s.keepsNet t) ∧
  (∀ (s : State) (p : PortId) (i : Fin 8) (c tag : Nat) (data : List Byte) (q : OutReq) (x : Slot) (w : Wait),
    (s.port p).requester = true →
    (s.port p).noTimeout i = false →
    s.quietFrame (s.frameOfPort p) (some c) →
    s.frameOfCore c = s.frameOfPort p →
    c < 384 →
    Tab.find ((s.port p).outs i) tag = some q →
    q.core = c →
    q.op = 1 →
    (s.core c).pipe.slots = [(q.slot, x)] →
    ((s.core c).pipe.waits = [] ∧ (s.core c).pipe.fence = [] ∧ (s.core c).pipe.rob = [] ∧ (s.core c).pipe.stall = none ∧ (s.core c).pipe.trapped = false ∧ (s.core c).pipe.poison = none ∧ (s.core c).pipe.storeQ = []) →
    x.merged = [w] →
    w.acc.kind = .load →
    (s.port p).devCtl.getLsbD 32 = true →
    (s.core c).xlat.walks = [] →
    (s.core c).regs.trapTarget { cause := 5, tval := w.acc.va } = 3 →
    (s.core c).pipe.snpQ = [] →
    w.acc.guest = false →
    RunsTo (exec (.completionTimeout p i tag) s) fun t =>
      (t.core c).csr Csr.mcause = 5 ∧ (t.core c).csr Csr.mtval = w.acc.va ∧ (t.core c).csr Csr.mepc = w.pc ∧ (t.core c).regs.x = (s.core c).regs.x ∧
      (t.core c).pipe.slots = [] ∧ Tab.find ((t.port p).outs i) tag = none ∧ (s.scribe.frozen = false → ((t.recOf 0x24 (0x20 + p)).bin 0x24 6) = min (2 ^ 64 - 1) ((s.recOf 0x24 (0x20 + p)).bin 0x24 6 + 1)) ∧ (∀ q, q ≠ p.val → (t.port q).purlin = (s.port q).purlin ∧ (t.port q).ridge = (s.port q).ridge ∧ (t.port q).roots = (s.port q).roots) ∧ t.mem = s.mem ∧ t.memPoison = s.memPoison ∧ t.homes = s.homes ∧ t.chans = s.chans ∧ t.tenons = s.tenons ∧ s.keepsNet t) ∧
  (∀ (s : State) (p : PortId) (i : Fin 8) (tag : Nat),
    ((s.port p).noTimeout i = true ∨ Tab.find ((s.port p).outs i) tag = none) →
    s.quietFrame (s.frameOfPort p) none →
    RunsTo (exec (.completionTimeout p i tag) s) fun t => t.ports = s.ports ∧ (∀ d, t.core d = s.core d) ∧ t.mem = s.mem ∧ t.memPoison = s.memPoison ∧ t.homes = s.homes ∧ t.chans = s.chans ∧ t.tenons = s.tenons ∧ t.net = s.net) ∧
  (∀ (s : State) (p : PortId) (i : Fin 8) (tag : Nat),
    (s.port p).hasRoots = true →
    s.quietFrame (s.frameOfPort p) none →
    RunsTo (exec (.pcieTagQuarantineEnd p i tag) s) fun t =>
      ((t.port p).root i) = { ((s.port p).root i) with quar := Tab.erase ((s.port p).root i).quar tag } ∧ (∀ j, j ≠ i.val → (t.port p).root j = (s.port p).root j) ∧ (∀ d, t.core d = s.core d) ∧ (∀ q, q ≠ p.val → t.port q = s.port q) ∧ t.mem = s.mem ∧ t.memPoison = s.memPoison ∧ t.homes = s.homes ∧ t.chans = s.chans ∧ t.tenons = s.tenons ∧ t.net = s.net ∧ t.frames = s.frames) ∧
  (∀ (s : State) (p : PortId) (i : Fin 8) (tag : Nat),
    (s.port p).pers = 3 →
    s.quietFrame (s.frameOfPort p) none →
    RunsTo (exec (.pcieTagQuarantineEnd p i tag) s) fun t =>
      t.port p = { (s.port p) with dt := { (s.port p).dt with quar := Tab.erase (s.port p).dt.quar tag } } ∧ (∀ d, t.core d = s.core d) ∧ (∀ q, q ≠ p.val → t.port q = s.port q) ∧ t.mem = s.mem ∧ t.memPoison = s.memPoison ∧ t.homes = s.homes ∧ t.chans = s.chans ∧ t.tenons = s.tenons ∧ t.net = s.net ∧ t.frames = s.frames)

/-- LINK_UP brings a root port up at the width and rate that both ends have, clears its lanes' corrected counts and opens a CXL device's decoder once, to its capacity, at most its slice; on a dovetail port it takes the stored personality and makes the mailbox ready, on a purlin port it sends the identity unit, and on a ridge port LINK_IDENT; each notices it. A port that its frame holds in reset, that is up, or whose link software or containment holds down, stays as it is. A link-down ends the port's requests as timeouts with their tags quarantined, deasserts its pins and is noticed; DPC_TRIGGER, or an uncorrectable error that DPC is enabled for, also contains the port, with an error; the loss of a CXL device's link, by CXL_LINK_DOWN or as a link event, empties the decoder until the next reset and is logged. An AER event is an error of its class, in AER's root status too; link, DPC, AER, PME and presence events raise the port's edge interrupt. An idle link enters its power state as far as its ASPM control, flit mode, width and latency tolerance allow. -/
def Obligations.RootPortLinks : Prop :=
  (∀ (s : State) (r : Root) (w : Nat) (l : LinkIn),
    r.trained w false l = { r with up := true, width := min l.width w, rate := min l.rate (if l.flit then 7 else 5), power := .l0, retrain := false, tags14 := l.tags14, flit := l.flit, cxl := 0, slotEv := r.slotEv ||| 2 ^ 8 } ∧
      (l.cxl = 0 → r.trained w true l = r.trained w false l) ∧
      (l.cxl ≠ 0 → ∀ v, v = min (min l.rate (if l.flit then 7 else 5)) 6 → r.trained w true l = { r.trained w false l with rate := v, flit := v == 6, cxl := if v < 4 then 0 else if v < 6 then 1 else 1 + l.cxl })) ∧
  (∀ (s : State) (p : PortId) (i : Fin 8) (l : LinkIn),
    (s.port p).inReset = false →
    (s.frame (s.frameOfPort p)).halted = false →
    (s.port p).hasRoot i = true →
    ((s.port p).root i).up = false →
    ((s.port p).root i).held = false →
    ((((s.port p).root i).trained ((s.port p).rootWidth i) ((s.port p).pers == 2) l).cxl = 0 ∨ (s.home (12 + p.val)).linkDown.contains i.val = true ∨ (Tab.find (s.home (12 + p.val)).decode i).isSome = true) →
    RunsTo (exec (.linkUp p i l) s) fun t =>
      ((t.port p).root i) = (((s.port p).root i).trained ((s.port p).rootWidth i) ((s.port p).pers == 2) l) ∧ (∀ j, j ≠ i.val → (t.port p).root j = (s.port p).root j) ∧
      t.port p = { (s.port p) with roots := (t.port p).roots, laneErr := (s.port p).laneErr.filter (fun e => !(decide (2 * i.val ≤ e.1) && decide (e.1 < 2 * i.val + (((s.port p).root i).trained ((s.port p).rootWidth i) ((s.port p).pers == 2) l).width))) } ∧ (s.isBooted (s.frameOfPort p) = true → (s.frame (s.frameOfPort p)).nq.stalled = [] → (s.frame (s.frameOfPort p)).nq.held.length < 252 →
        (t.frame (s.frameOfPort p)).nq.held.getLast?.map (·.2) = some (linkNotice p 0 0 (s.frameOfPort p) 0)) ∧ ((s.frame (s.frameOfPort p)).aplic.sm (40 + p.val) = 4 → (s.frame (s.frameOfPort p)).aplic.enabled.contains (40 + p.val) = false → (t.frame (s.frameOfPort p)).aplic.pending.contains (40 + p.val) = true) ∧ ((s.frame (s.frameOfPort p)).nq.stalled = [] → ∀ d, (t.core d).regs.x = (s.core d).regs.x) ∧ (∀ q, q ≠ p.val → (t.port q).purlin = (s.port q).purlin ∧ (t.port q).ridge = (s.port q).ridge ∧ (t.port q).roots = (s.port q).roots) ∧ t.mem = s.mem ∧ t.memPoison = s.memPoison ∧ t.homes = s.homes ∧ t.chans = s.chans ∧ t.tenons = s.tenons ∧ s.keepsNet t) ∧
  (∀ (s : State) (p : PortId) (i : Fin 8) (l : LinkIn),
    (s.port p).inReset = false →
    (s.frame (s.frameOfPort p)).halted = false →
    (s.port p).hasRoot i = true →
    ((s.port p).root i).up = false →
    ((s.port p).root i).held = false →
    (((s.port p).root i).trained ((s.port p).rootWidth i) ((s.port p).pers == 2) l).cxl ≠ 0 →
    (s.home (12 + p.val)).linkDown.contains i.val = false →
    Tab.find (s.home (12 + p.val)).decode i = none →
    RunsTo (exec (.linkUp p i l) s) fun t =>
      ((t.port p).root i) = (((s.port p).root i).trained ((s.port p).rootWidth i) ((s.port p).pers == 2) l) ∧ (∀ j, j ≠ i.val → (t.port p).root j = (s.port p).root j) ∧
      t.port p = { (s.port p) with roots := (t.port p).roots, laneErr := (s.port p).laneErr.filter (fun e => !(decide (2 * i.val ≤ e.1) && decide (e.1 < 2 * i.val + (((s.port p).root i).trained ((s.port p).rootWidth i) ((s.port p).pers == 2) l).width))) } ∧
      t.home (12 + p.val) = { s.home (12 + p.val) with decode := Tab.set (s.home (12 + p.val)).decode i (min (l.cap * 2 ^ 28) (((s.port p).rootWidth i) / 2 * (3 * 2 ^ 39))) } ∧
      (l.cap * 2 ^ 28 ≤ ((s.port p).rootWidth i) / 2 * (3 * 2 ^ 39) → (s.isBooted (s.frameOfPort p) = true → (s.frame (s.frameOfPort p)).nq.stalled = [] → (s.frame (s.frameOfPort p)).nq.held.length < 252 →
        (t.frame (s.frameOfPort p)).nq.held.getLast?.map (·.2) = some (linkNotice p 0 0 (s.frameOfPort p) 0))) ∧ (∀ h, h ≠ 12 + p.val → t.home h = s.home h) ∧ ((s.frame (s.frameOfPort p)).nq.stalled = [] → ∀ d, (t.core d).regs.x = (s.core d).regs.x) ∧ (∀ q, q ≠ p.val → (t.port q).purlin = (s.port q).purlin ∧ (t.port q).ridge = (s.port q).ridge ∧ (t.port q).roots = (s.port q).roots) ∧ t.mem = s.mem ∧ t.memPoison = s.memPoison ∧ t.chans = s.chans ∧ t.tenons = s.tenons ∧ s.keepsNet t) ∧
  (∀ (s : State) (p : PortId) (i : Fin 8) (l : LinkIn),
    (s.port p).inReset = false →
    (s.frame (s.frameOfPort p)).halted = false →
    (s.port p).pers = 3 →
    (s.port p).dt.link < 2 →
    RunsTo (exec (.linkUp p i l) s) fun t =>
      (t.port p).dt.link = 2 ∧ (t.port p).dt.rec_ = (s.port p).rec_ ∧ (t.port p).dt.linkWas = (s.port p).rec_ ∧ (t.port p).dt.ready = s.plumb.on ∧ (t.port p).dt.width = min l.width (s.port p).lanes ∧
      (t.port p).dt.rate = min l.rate (if l.flit then 7 else 5) ∧ (t.port p).dt.flit = l.flit ∧ (t.port p).dt.tags14 = l.tags14 ∧ (t.port p).dt.cfg = (s.port p).dt.cfg ∧ (t.port p).dt.active = (s.port p).dt.active ∧ (t.port p).dt.replies = (s.port p).dt.replies ∧
      (s.isBooted (s.frameOfPort p) = true → (s.frame (s.frameOfPort p)).nq.stalled = [] → (s.frame (s.frameOfPort p)).nq.held.length < 252 →
        (t.frame (s.frameOfPort p)).nq.held.getLast?.map (·.2) = some (linkNotice p 0 0 (s.frameOfPort p) 0)) ∧ ((s.frame (s.frameOfPort p)).nq.stalled = [] → ∀ d, (t.core d).regs.x = (s.core d).regs.x) ∧ (∀ q, q ≠ p.val → (t.port q).purlin = (s.port q).purlin ∧ (t.port q).ridge = (s.port q).ridge ∧ (t.port q).roots = (s.port q).roots) ∧ t.mem = s.mem ∧ t.memPoison = s.memPoison ∧ t.homes = s.homes ∧ t.chans = s.chans ∧ t.tenons = s.tenons ∧ s.keepsNet t) ∧
  (∀ (s : State) (p : PortId) (i : Fin 8) (l : LinkIn) (w : Nat),
    (s.port p).inReset = false →
    (s.frame (s.frameOfPort p)).halted = false →
    (s.frame (s.frameOfPort p)).booted = true →
    joinedMode s.mode = true →
    (s.port p).pers = 4 →
    (s.port p).purlin.st < 2 →
    widthOf [16, 8] (min l.width (s.port p).lanes) = some w →
    RunsTo (exec (.linkUp p i l) s) fun t =>
      (t.port p).purlin = Purlin.emit { (s.port p).purlin with st := 2, width := w } 2 [(s.setPort p ({ (s.port p) with laneErr := (s.port p).laneErr.filter (fun e => !(decide (0 ≤ e.1) && decide (e.1 < 0 + w))), purlin := { (s.port p).purlin with st := 2, width := w } } : Port)).idUnit p] ∧
      (t.port p).purlin.retry.getLast? = some ((s.port p).purlin.txSeq, 2, [(s.setPort p ({ (s.port p) with laneErr := (s.port p).laneErr.filter (fun e => !(decide (0 ≤ e.1) && decide (e.1 < 0 + w))), purlin := { (s.port p).purlin with st := 2, width := w } } : Port)).idUnit p]) ∧ (t.port p).purlin.txSeq = ((s.port p).purlin.txSeq + 1) % 1024 ∧
      t.port p = { (s.port p) with purlin := (t.port p).purlin, laneErr := (s.port p).laneErr.filter (fun e => !(decide (0 ≤ e.1) && decide (e.1 < 0 + w))) } ∧ (∀ q, q ≠ p.val → t.port q = s.port q) ∧ t = { s with ports := t.ports }) ∧
  (∀ (s : State) (p : PortId) (i : Fin 8) (l : LinkIn) (w : Nat),
    (s.port p).inReset = false →
    (s.frame (s.frameOfPort p)).halted = false →
    (s.frame (s.frameOfPort p)).booted = true →
    (s.port p).pers = 5 →
    (s.port p).ridge.st < 2 →
    widthOf [16, 8, 4] (min l.width (s.port p).lanes) = some w →
    RunsTo (exec (.linkUp p i l) s) fun t =>
      (t.port p).ridge.st = 1 ∧ (t.port p).ridge.width = w ∧ (t.port p).ridge.linkOut = (s.port p).ridge.linkOut ++ [identSlot w] ∧
      (t.port p).ridge.txSeq = 1 ∧ (t.port p).ridge.rxSeq = 1023 ∧ (t.port p).ridge.sentSl = (0, 0, 0) ∧ (t.port p).ridge.at64 = (l.rate == 6 || (s.port p).ridge.ctl.getLsbD 30) ∧
      (t.port p).ridge.out = (s.port p).ridge.out ∧ (t.port p).ridge.quar = (s.port p).ridge.quar ∧
      t.port p = { (s.port p) with ridge := (t.port p).ridge, laneErr := (s.port p).laneErr.filter (fun e => !(decide (0 ≤ e.1) && decide (e.1 < 0 + w))) } ∧ (∀ q, q ≠ p.val → t.port q = s.port q) ∧ t = { s with ports := t.ports }) ∧
  (∀ (s : State) (n : Nat),
    widthOf [16, 8] n = (if 16 ≤ n then some 16 else if 8 ≤ n then some 8 else none) ∧ widthOf [16, 8, 4] n = (if 16 ≤ n then some 16 else if 8 ≤ n then some 8 else if 4 ≤ n then some 4 else none)) ∧
  (∀ (s : State) (p : PortId) (i : Fin 8) (l : LinkIn),
    ((s.port p).inReset = true ∨ (s.frame (s.frameOfPort p)).halted = true ∨ ((s.port p).pers = 1 ∨ (s.port p).pers = 2) ∧ ((s.port p).hasRoot i = false ∨ ((s.port p).root i).up = true ∨ ((s.port p).root i).held = true) ∨ (s.port p).pers = 3 ∧ 2 ≤ (s.port p).dt.link ∨ (s.port p).pers = 4 ∧ (2 ≤ (s.port p).purlin.st ∨ (s.frame (s.frameOfPort p)).booted = false ∨ joinedMode s.mode = false ∨ min l.width (s.port p).lanes < 8) ∨ (s.port p).pers = 5 ∧ (2 ≤ (s.port p).ridge.st ∨ (s.frame (s.frameOfPort p)).booted = false ∨ min l.width (s.port p).lanes < 4)) →
    exec (.linkUp p i l) s = .next s) ∧
  (∀ (s : State) (p : PortId) (i : Fin 8),
    (s.port p).hasRoot i = true →
    (s.port p).inReset = false →
    (s.frame (s.frameOfPort p)).halted = false →
    ((s.port p).root i).up = false →
    ((s.port p).root i).held = false →
    RunsTo (exec (.portLinkEvent p i .linkUp) s) fun t =>
      ((t.port p).root i) = { ((s.port p).root i) with up := true, width := if ((s.port p).root i).width = 0 then (s.port p).rootWidth i else ((s.port p).root i).width, power := .l0, retrain := false, slotEv := ((s.port p).root i).slotEv ||| 2 ^ 8 } ∧
      (∀ j, j ≠ i.val → (t.port p).root j = (s.port p).root j) ∧ (s.isBooted (s.frameOfPort p) = true → (s.frame (s.frameOfPort p)).nq.stalled = [] → (s.frame (s.frameOfPort p)).nq.held.length < 252 →
        (t.frame (s.frameOfPort p)).nq.held.getLast?.map (·.2) = some (linkNotice p 0 0 (s.frameOfPort p) 0)) ∧ ((s.frame (s.frameOfPort p)).aplic.sm (40 + p.val) = 4 → (s.frame (s.frameOfPort p)).aplic.enabled.contains (40 + p.val) = false → (t.frame (s.frameOfPort p)).aplic.pending.contains (40 + p.val) = true) ∧ ((s.frame (s.frameOfPort p)).nq.stalled = [] → ∀ d, (t.core d).regs.x = (s.core d).regs.x) ∧ (∀ q, q ≠ p.val → (t.port q).purlin = (s.port q).purlin ∧ (t.port q).ridge = (s.port q).ridge ∧ (t.port q).roots = (s.port q).roots) ∧ t.mem = s.mem ∧ t.memPoison = s.memPoison ∧ t.homes = s.homes ∧ t.chans = s.chans ∧ t.tenons = s.tenons ∧ s.keepsNet t) ∧
  (∀ (s : State) (p : PortId) (i : Fin 8) (tag : Nat) (q : OutReq),
    (s.port p).hasRoot i = true →
    (s.port p).inReset = false →
    (s.frame (s.frameOfPort p)).halted = false →
    ((s.port p).root i).cxl = 0 →
    ((s.port p).root i).up = true →
    ((s.port p).root i).out = [(tag, q)] →
    q.core = 384 →
    ((s.port p).pers = 1 ∨ s.idleHome (12 + p.val)) →
    s.quietFrame (s.frameOfPort p) none →
    RunsTo (exec (.portLinkEvent p i .linkDown) s) fun t =>
      (t.port p).root i = { ((s.port p).root i) with up := false, power := .l0, intx := 0, slotEv := ((s.port p).root i).slotEv ||| 2 ^ 8, out := [], quar := Tab.set ((s.port p).root i).quar tag q.owed, aer := ((s.port p).root i).aer ||| 2 ^ 14, rpPio := (((s.port p).root i).pioSet q 2).rpPio } ∧ (∀ j, j ≠ i.val → (t.port p).root j = (s.port p).root j) ∧ t.scribe.log.any (fun e => e.seq == s.scribe.logSeq && e.cls == 3 && e.src == 7 && e.code == 0x2B && e.inst == p.val) = true ∧ ((s.frame (s.frameOfPort p)).aplic.sm (40 + p.val) = 4 → (s.frame (s.frameOfPort p)).aplic.enabled.contains (40 + p.val) = false → (t.frame (s.frameOfPort p)).aplic.pending.contains (40 + p.val) = true) ∧ ((s.frame (s.frameOfPort p)).nq.stalled = [] → ∀ d, (t.core d).regs.x = (s.core d).regs.x) ∧ (∀ q, q ≠ p.val → (t.port q).purlin = (s.port q).purlin ∧ (t.port q).ridge = (s.port q).ridge ∧ (t.port q).roots = (s.port q).roots) ∧ t.mem = s.mem ∧ t.memPoison = s.memPoison ∧ t.homes = s.homes ∧ t.chans = s.chans ∧ t.tenons = s.tenons ∧ s.keepsNet t) ∧
  (∀ (s : State) (p : PortId) (i : Fin 8),
    (s.port p).hasRoot i = true →
    (s.port p).inReset = false →
    (s.frame (s.frameOfPort p)).halted = false →
    ((s.port p).root i).cxl = 0 →
    ((s.port p).root i).up = true →
    ((s.port p).root i).out = [] →
    ((s.port p).pers = 1 ∨ s.idleHome (12 + p.val)) →
    s.quietFrame (s.frameOfPort p) none →
    RunsTo (exec (.portLinkEvent p i .linkDown) s) fun t =>
      (t.port p).root i = { ((s.port p).root i) with up := false, power := .l0, intx := 0, slotEv := ((s.port p).root i).slotEv ||| 2 ^ 8 } ∧ (∀ j, j ≠ i.val → (t.port p).root j = (s.port p).root j) ∧ (s.scribe.frozen = false → ((t.recOf 0x24 (0x20 + p)).bin 0x24 3) = min (2 ^ 64 - 1) ((s.recOf 0x24 (0x20 + p)).bin 0x24 3 + 1)) ∧ ((s.frame (s.frameOfPort p)).nq.stalled = [] → ∀ d, (t.core d).regs.x = (s.core d).regs.x) ∧ (∀ q, q ≠ p.val → (t.port q).purlin = (s.port q).purlin ∧ (t.port q).ridge = (s.port q).ridge ∧ (t.port q).roots = (s.port q).roots) ∧ t.mem = s.mem ∧ t.memPoison = s.memPoison ∧ t.homes = s.homes ∧ t.chans = s.chans ∧ t.tenons = s.tenons ∧ s.keepsNet t) ∧
  (∀ (s : State) (p : PortId) (i : Fin 8) (e : PortEvent) (b : Bool),
    (s.port p).hasRoot i = true →
    (s.port p).inReset = false →
    (s.frame (s.frameOfPort p)).halted = false →
    (e = .aerCorr ∨ e = .aerUncorr b ∧ (((s.port p).root i).up = false ∨ ((s.port p).root i).dpc = true ∨ ((s.port p).root i).dpcEnable ≠ 2 ∧ (b = false ∨ ((s.port p).root i).dpcEnable ≠ 1))) →
    RunsTo (exec (.portLinkEvent p i e) s) fun t =>
      (Tab.get t.scribe.counts {} (cntKey 7 0x2B p)).n.getD (if e = .aerCorr then 0 else 3) 0 = satAdd 32 ((Tab.get s.scribe.counts {} (cntKey 7 0x2B p)).n.getD (if e = .aerCorr then 0 else 3) 0) 1 ∧ (e ≠ .aerCorr → t.scribe.log.any (fun e => e.seq == s.scribe.logSeq && e.cls == 3 && e.src == 7 && e.code == 0x2B && e.inst == p.val) = true) ∧ ((s.frame (s.frameOfPort p)).aplic.sm (40 + p.val) = 4 → (s.frame (s.frameOfPort p)).aplic.enabled.contains (40 + p.val) = false → (t.frame (s.frameOfPort p)).aplic.pending.contains (40 + p.val) = true) ∧
      (t.port p).root i = ((s.port p).root i).errMsg (if e = .aerCorr then 0 else if b then 2 else 1) ∧ (∀ j, j ≠ i.val → (t.port p).root j = (s.port p).root j) ∧ ((s.frame (s.frameOfPort p)).nq.stalled = [] → ∀ d, (t.core d).regs.x = (s.core d).regs.x) ∧ (∀ q, q ≠ p.val → (t.port q).purlin = (s.port q).purlin ∧ (t.port q).ridge = (s.port q).ridge ∧ (t.port q).roots = (s.port q).roots) ∧ t.mem = s.mem ∧ t.memPoison = s.memPoison ∧ t.homes = s.homes ∧ t.chans = s.chans ∧ t.tenons = s.tenons ∧ s.keepsNet t) ∧
  (∀ (s : State) (r : Root),
    r.rootErr = 0 →
    r.errMsg 0 = { r with rootErr := 1 } ∧ r.errMsg 1 = { r with rootErr := 0x24 } ∧ r.errMsg 2 = { r with rootErr := 0x54 }) ∧
  (∀ (s : State) (p : PortId) (i : Fin 8) (tag : Nat) (q : OutReq) (b : Bool),
    (s.port p).hasRoot i = true →
    (s.port p).inReset = false →
    (s.frame (s.frameOfPort p)).halted = false →
    ((s.port p).root i).cxl = 0 →
    ((s.port p).root i).up = true →
    ((s.port p).root i).out = [(tag, q)] →
    q.core = 384 →
    ((s.port p).pers = 1 ∨ s.idleHome (12 + p.val)) →
    s.quietFrame (s.frameOfPort p) none →
    ((s.port p).root i).dpc = false →
    (((s.port p).root i).dpcEnable = 2 ∨ b = true ∧ ((s.port p).root i).dpcEnable = 1) →
    RunsTo (exec (.portLinkEvent p i (.aerUncorr b)) s) fun t =>
      (t.port p).root i = { ((s.port p).root i) with up := false, power := .l0, intx := 0, slotEv := ((s.port p).root i).slotEv ||| 2 ^ 8, out := [], quar := Tab.set ((s.port p).root i).quar tag q.owed, aer := ((s.port p).root i).aer ||| 2 ^ 14, rpPio := (((s.port p).root i).pioSet q 2).rpPio, dpc := true, dpcWhy := if b then 4 else 2, rootErr := (((s.port p).root i).errMsg (if b then 2 else 1)).rootErr } ∧ (∀ j, j ≠ i.val → (t.port p).root j = (s.port p).root j) ∧ t.scribe.log.any (fun e => e.seq == s.scribe.logSeq && e.cls == 3 && e.src == 7 && e.code == 0x2B && e.inst == p.val) = true ∧ ((s.frame (s.frameOfPort p)).aplic.sm (40 + p.val) = 4 → (s.frame (s.frameOfPort p)).aplic.enabled.contains (40 + p.val) = false → (t.frame (s.frameOfPort p)).aplic.pending.contains (40 + p.val) = true) ∧ ((s.frame (s.frameOfPort p)).nq.stalled = [] → ∀ d, (t.core d).regs.x = (s.core d).regs.x) ∧ (∀ q, q ≠ p.val → (t.port q).purlin = (s.port q).purlin ∧ (t.port q).ridge = (s.port q).ridge ∧ (t.port q).roots = (s.port q).roots) ∧ t.mem = s.mem ∧ t.memPoison = s.memPoison ∧ t.homes = s.homes ∧ t.chans = s.chans ∧ t.tenons = s.tenons ∧ s.keepsNet t) ∧
  (∀ (s : State) (p : PortId) (i : Fin 8) (e : PortEvent),
    (s.port p).hasRoot i = true →
    (s.port p).inReset = false →
    (s.frame (s.frameOfPort p)).halted = false →
    (e = .pme ∨ e = .presence) →
    RunsTo (exec (.portLinkEvent p i e) s) fun t =>
      ((s.frame (s.frameOfPort p)).aplic.sm (40 + p.val) = 4 → (s.frame (s.frameOfPort p)).aplic.enabled.contains (40 + p.val) = false → (t.frame (s.frameOfPort p)).aplic.pending.contains (40 + p.val) = true) ∧ (e = .presence → (s.isBooted (s.frameOfPort p) = true → (s.frame (s.frameOfPort p)).nq.stalled = [] → (s.frame (s.frameOfPort p)).nq.held.length < 252 →
        (t.frame (s.frameOfPort p)).nq.held.getLast?.map (·.2) = some (linkNotice p 7 i (s.frameOfPort p) 0))) ∧
      (t.port p).root i = (if e = .pme then { ((s.port p).root i) with pme := true } else { ((s.port p).root i) with slotEv := ((s.port p).root i).slotEv ||| 2 ^ 3 }) ∧ (∀ j, j ≠ i.val → (t.port p).root j = (s.port p).root j) ∧ ((s.frame (s.frameOfPort p)).nq.stalled = [] → ∀ d, (t.core d).regs.x = (s.core d).regs.x) ∧ (∀ q, q ≠ p.val → (t.port q).purlin = (s.port q).purlin ∧ (t.port q).ridge = (s.port q).ridge ∧ (t.port q).roots = (s.port q).roots) ∧ t.mem = s.mem ∧ t.memPoison = s.memPoison ∧ t.homes = s.homes ∧ t.chans = s.chans ∧ t.tenons = s.tenons ∧ s.keepsNet t) ∧
  (∀ (s : State) (p : PortId) (i : Fin 8) (e : PortEvent) (b : Bool),
    (s.port p).pers = 3 →
    (s.port p).inReset = false →
    (s.frame (s.frameOfPort p)).halted = false →
    (e = .aerCorr ∨ e = .aerUncorr b) →
    RunsTo (exec (.portLinkEvent p i e) s) fun t =>
      (Tab.get t.scribe.counts {} (cntKey 7 0x2E p)).n.getD (if e = .aerCorr then 0 else 3) 0 = satAdd 32 ((Tab.get s.scribe.counts {} (cntKey 7 0x2E p)).n.getD (if e = .aerCorr then 0 else 3) 0) 1 ∧ (e ≠ .aerCorr → t.scribe.log.any (fun e => e.seq == s.scribe.logSeq && e.cls == 3 && e.src == 7 && e.code == 0x2E && e.inst == p.val) = true) ∧ (t.port p).roots = (s.port p).roots ∧ ((s.frame (s.frameOfPort p)).nq.stalled = [] → ∀ d, (t.core d).regs.x = (s.core d).regs.x) ∧ (∀ q, q ≠ p.val → (t.port q).purlin = (s.port q).purlin ∧ (t.port q).ridge = (s.port q).ridge ∧ (t.port q).roots = (s.port q).roots) ∧ t.mem = s.mem ∧ t.memPoison = s.memPoison ∧ t.homes = s.homes ∧ t.chans = s.chans ∧ t.tenons = s.tenons ∧ s.keepsNet t) ∧
  (∀ (s : State) (p : PortId) (i : Fin 8) (e : PortEvent),
    ((s.port p).inReset = true ∨ (s.frame (s.frameOfPort p)).halted = true ∨ (s.port p).hasRoot i = false ∧ ((s.port p).pers ≠ 3 ∨ e = .linkUp ∨ e = .linkDown ∨ e = .pme ∨ e = .presence) ∨ (s.port p).hasRoot i = true ∧ (e = .linkUp ∧ (((s.port p).root i).up = true ∨ ((s.port p).root i).held = true) ∨ e = .linkDown ∧ ((s.port p).root i).up = false)) →
    exec (.portLinkEvent p i e) s = .next s) ∧
  (∀ (s : State) (p : PortId) (i : Fin 8) (tag : Nat) (q : OutReq),
    (s.port p).hasRoots = true →
    ((s.port p).root i).cxl = 0 →
    ((s.port p).root i).dpc = false →
    ((s.port p).root i).up = true →
    ((s.port p).root i).out = [(tag, q)] →
    q.core = 384 →
    ((s.port p).pers = 1 ∨ s.idleHome (12 + p.val)) →
    s.quietFrame (s.frameOfPort p) none →
    RunsTo (exec (.dpcTrigger p i) s) fun t =>
      (t.port p).root i = { ((s.port p).root i) with up := false, power := .l0, intx := 0, slotEv := ((s.port p).root i).slotEv ||| 2 ^ 8, out := [], quar := Tab.set ((s.port p).root i).quar tag q.owed, aer := ((s.port p).root i).aer ||| 2 ^ 14, rpPio := (((s.port p).root i).pioSet q 2).rpPio, dpc := true, dpcWhy := 0 } ∧ (∀ j, j ≠ i.val → (t.port p).root j = (s.port p).root j) ∧ t.scribe.log.any (fun e => e.seq == s.scribe.logSeq && e.cls == 3 && e.src == 7 && e.code == 0x2B && e.inst == p.val) = true ∧ ((s.frame (s.frameOfPort p)).aplic.sm (40 + p.val) = 4 → (s.frame (s.frameOfPort p)).aplic.enabled.contains (40 + p.val) = false → (t.frame (s.frameOfPort p)).aplic.pending.contains (40 + p.val) = true) ∧ ((s.frame (s.frameOfPort p)).nq.stalled = [] → ∀ d, (t.core d).regs.x = (s.core d).regs.x) ∧ (∀ q, q ≠ p.val → (t.port q).purlin = (s.port q).purlin ∧ (t.port q).ridge = (s.port q).ridge ∧ (t.port q).roots = (s.port q).roots) ∧ t.mem = s.mem ∧ t.memPoison = s.memPoison ∧ t.homes = s.homes ∧ t.chans = s.chans ∧ t.tenons = s.tenons ∧ s.keepsNet t) ∧
  (∀ (s : State) (p : PortId) (i : Fin 8),
    ((s.port p).hasRoots = false ∨ ((s.port p).root i).up = false ∨ ((s.port p).root i).dpc = true) →
    exec (.dpcTrigger p i) s = .next s) ∧
  (∀ (s : State) (p : PortId) (i : Fin 8) (tag : Nat) (q : OutReq) (e : PortEvent),
    (s.port p).hasRoot i = true →
    (s.port p).inReset = false →
    (s.frame (s.frameOfPort p)).halted = false →
    (s.port p).pers = 2 →
    ((s.port p).root i).cxl ≠ 0 →
    (s.home (12 + p.val)).cxlWait = [] →
    s.idleHome (12 + p.val) →
    ((s.port p).root i).up = true →
    ((s.port p).root i).out = [(tag, q)] →
    q.core = 384 →
    s.quietFrame (s.frameOfPort p) none →
    e = .linkDown →
    ∀ j ∈ ([.cxlLinkDown p i, .portLinkEvent p i e] : List Instr),
      RunsTo (exec j s) fun t =>
      (t.port p).root i = { ((s.port p).root i) with up := false, power := .l0, intx := 0, slotEv := ((s.port p).root i).slotEv ||| 2 ^ 8, out := [], quar := Tab.set ((s.port p).root i).quar tag q.owed, aer := ((s.port p).root i).aer ||| 2 ^ 14, rpPio := (((s.port p).root i).pioSet q 2).rpPio } ∧ (∀ j, j ≠ i.val → (t.port p).root j = (s.port p).root j) ∧ t.home (12 + p.val) = { (s.home (12 + p.val)) with linkDown := listAdd (s.home (12 + p.val)).linkDown i.val } ∧ (∀ h, h ≠ 12 + p.val → t.home h = s.home h) ∧
      t.scribe.log.any (fun e => e.cls == 3 && e.src == 7 && e.code == 0x2D && e.inst == p.val) = true ∧ ((s.frame (s.frameOfPort p)).aplic.sm (40 + p.val) = 4 → (s.frame (s.frameOfPort p)).aplic.enabled.contains (40 + p.val) = false → (t.frame (s.frameOfPort p)).aplic.pending.contains (40 + p.val) = true) ∧ ((s.frame (s.frameOfPort p)).nq.stalled = [] → ∀ d, (t.core d).regs.x = (s.core d).regs.x) ∧ (∀ q, q ≠ p.val → (t.port q).purlin = (s.port q).purlin ∧ (t.port q).ridge = (s.port q).ridge ∧ (t.port q).roots = (s.port q).roots) ∧ t.mem = s.mem ∧ t.memPoison = s.memPoison ∧ t.chans = s.chans ∧ t.tenons = s.tenons ∧ s.keepsNet t) ∧
  (∀ (s : State) (p : PortId) (i : Fin 8),
    ((s.port p).pers ≠ 2 ∨ ((s.port p).root i).up = false ∨ ((s.port p).root i).cxl = 0) →
    exec (.cxlLinkDown p i) s = .next s) ∧
  (∀ (s : State) (p : PortId) (l : LinkPower) (n : Option Nat),
    (s.port p).hasRoots = true →
    exec (.linkPowerIdle p l n) s = .next (s.setPort p { (s.port p) with roots := (s.port p).roots.map (fun e => (e.1, if e.2.up ∧ e.2.out = [] ∧ powerAllows e.2.cfg e.2.flit e.2.width n l = true ∧ (l = .l0pQuarter → e.2.power = .l0pHalf) then { e.2 with ltr := n, power := l } else { e.2 with ltr := n })) })) ∧
  (∀ (s : State) (cfg : Map Word) (flit : Bool) (w : Nat) (n : Option Nat) (l : LinkPower),
    powerAllows cfg flit w n l = (match l with | .l0 => true | .l0pHalf => flit && decide (2 ≤ w) | .l0pQuarter => flit && decide (4 ≤ w) | .l1 => (Tab.get cfg 0 0x50).getLsbD 1 | .l11 => (Tab.get cfg 0 0x50).getLsbD 1 && (Tab.get cfg 0 0x208).getLsbD 3 | .l12 => (Tab.get cfg 0 0x50).getLsbD 1 && (Tab.get cfg 0 0x208).getLsbD 2 && (match n with | none => true | some k => decide (fld (Tab.get cfg 0 0x208) 25 16 * 32 ^ fld (Tab.get cfg 0 0x208) 31 29 ≤ k)))) ∧
  (∀ (s : State) (p : PortId) (l : LinkPower) (n : Option Nat),
    (s.port p).pers = 3 →
    exec (.linkPowerIdle p l n) s = .next (s.setPort p { (s.port p) with dt := { (s.port p).dt with ltr := n, link := if 2 ≤ (s.port p).dt.link ∧ (s.port p).dt.out = [] ∧ powerAllows (s.port p).dt.cfg_ (s.port p).dt.flit (s.port p).dt.width n l = true ∧ (l = .l0pQuarter → (s.port p).dt.link = 3) then (match l with | .l0 => 2 | .l0pHalf | .l0pQuarter => 3 | .l1 => 4 | .l11 => 5 | .l12 => 6) else (s.port p).dt.link } })) ∧
  (∀ (s : State) (p : PortId) (l : LinkPower) (n : Option Nat),
    (s.port p).hasRoots = false →
    (s.port p).pers ≠ 3 →
    exec (.linkPowerIdle p l n) s = .next s)

/-- With BAR 10h open and no posted write of the function under way: DT_CMD_TAIL and DT_RPL_HEAD take the index modulo the ring's size, and a reply that waited goes to the host's ring with vector 0 once the ring has room; DT_RING_CFG takes a ring's base and size into force as its enable rises and zeroes head and tail, ignores LOG while the ring is enabled, is unchanged by a LOG outside 4 to 8, and drops the waiting replies as an enable falls; DT_NQ_POP takes the first notice of the lowest priority number and stalls on an empty queue; the other registers take their written value as R301 and R302 give it, by bytes, one misaligned is dropped and counted, and offsets not listed keep nothing. While a posted write is under way a register write or a pop waits its turn. A window commit makes the shadow set active only if every entry passes, and vector 2 is signalled; the service personality has no windows. The BAR at 18h is resized while memory space is off. A recovery access through an active window goes to its home; a read or AtomicOp outside every window is answered UR, a write outside or to a window without WE is dropped and counted, and an AtomicOp there answered CA. Every request of the host returns the link to full width and power. Configuration writes set Bus Master and Memory Space Enable, which sends what was pending, the BARs, the timeout value, MSI-X Enable, without which no vector is signalled, and other words by their writable bits; one of Device Control may ask for a function-level reset; identity words are read-only, and AER status is cleared by ones. The identity and class that the host reads, and what a read of BAR 10h answers, are R300's and R301's. -/
def Obligations.DovetailRegistersAndWindows : Prop :=
  (∀ (s : State) (p : PortId) (v : Word),
    (s.port p).barOpen = true →
    (s.port p).dtHeld = false →
    exec (.dtCmdTailWrite p v) s = .next (s.setDt p { (s.port p).dt.wake with cmdTail := fld v 7 0 % 2 ^ (s.port p).dt.logInF.1 })) ∧
  (∀ (s : State) (p : PortId) (v : Word),
    (s.port p).barOpen = true →
    (s.port p).dtHeld = false →
    ((s.port p).dt.replies = [] ∨ (s.port p).dt.bme = false ∨ (s.port p).dt.cfg.getLsbD 1 = false) →
    exec (.dtRplHeadWrite p v) s = .next (s.setDt p { (s.port p).dt.wake with rplHead := fld v 7 0 % 2 ^ (s.port p).dt.logInF.2 })) ∧
  (∀ (s : State) (d : Dovetail) (n : Nat) (w : Word),
    w = Tab.get d.msix 0x100000000 (2 * n + 1) →
    d.vector n = (if (Tab.get d.cfg_ 0 0xB0).getLsbD 31 = false then d
        else if d.bme = true ∧ (Tab.get d.cfg_ 0 0xB0).getLsbD 30 = false ∧ w.getLsbD 32 = false then { d.wake with sent := d.sent ++ [((Tab.get d.msix 0 (2 * n)).toNat, bytesOf 4 w.toNat)] }
        else { d with pba := d.pba ||| 2 ^ n })) ∧
  (∀ (s : State) (d : Dovetail),
    d.wake = (if d.link ≤ 2 then d else { d with link := if d.quarter = true ∧ d.flit = true then 3 else 2 })) ∧
  (∀ (s : State) (p : PortId) (v : Word) (b : List Byte),
    (s.port p).barOpen = true →
    (s.port p).dtHeld = false →
    (s.port p).dt.replies = [b] →
    (s.port p).dt.bme = true →
    (s.port p).dt.cfg.getLsbD 1 = true →
    ringFull (s.port p).dt.rplTail (fld v 7 0 % 2 ^ (s.port p).dt.logInF.2) (s.port p).dt.logInF.2 = false →
    RunsTo (exec (.dtRplHeadWrite p v) s) fun t =>
      t.port p = { (s.port p) with dt := ({ (s.port p).dt.wake with replies := [], rplHead := fld v 7 0 % 2 ^ (s.port p).dt.logInF.2, rplTail := ((s.port p).dt.rplTail + 1) % 2 ^ (s.port p).dt.logInF.2, sent := (s.port p).dt.sent ++ [((s.port p).dt.rplInF.toNat + (s.port p).dt.rplTail * 8192, b)] } : Dovetail).vector 0 } ∧ (∀ q, q ≠ p.val → t.port q = s.port q) ∧
      t = { s with ports := t.ports, plumb := { s.plumb with dead := t.plumb.dead } } ∧ (freesTag b = false → t.plumb = s.plumb)) ∧
  (∀ (s : State) (p : PortId) (v : Word),
    (s.port p).barOpen = true →
    (s.port p).dtHeld = true →
    exec (.dtCmdTailWrite p v) s = .next ((s.hostTouch p).inbHold p { kind := .reg, wr := true, posted := true, root := barRoot, addr := 0x18, len := 8, data := bytesOf 8 v.toNat }) ∧
      exec (.dtRplHeadWrite p v) s = .next ((s.hostTouch p).inbHold p { kind := .reg, wr := true, posted := true, root := barRoot, addr := 0x30, len := 8, data := bytesOf 8 v.toNat }) ∧
      exec (.dtRingCfgWrite p v) s = .next ((s.hostTouch p).inbHold p { kind := .reg, wr := true, posted := true, root := barRoot, addr := 0x08, len := 8, data := bytesOf 8 v.toNat }) ∧
      exec (.dtBarRegisterWrite p 0x50 8 v) s = .next ((s.hostTouch p).inbHold p { kind := .reg, wr := true, posted := true, root := barRoot, addr := 0x50, len := 8, data := bytesOf 8 v.toNat })) ∧
  (∀ (s : State) (p : Nat) (x : Inb),
    (s.inbHold p x).port p = { s.port p with inbQ := (s.port p).inbQ ++ [{ x with no := (s.frame (s.frameOfPort p)).inbNo }] } ∧ (∀ q, q ≠ p → (s.inbHold p x).port q = s.port q) ∧ (s.inbHold p x).frame (s.frameOfPort p) = { s.frame (s.frameOfPort p) with inbNo := (s.frame (s.frameOfPort p)).inbNo + 1 } ∧ (∀ g, g ≠ s.frameOfPort p → (s.inbHold p x).frame g = s.frame g) ∧ s.inbHold p x = { s with ports := (s.inbHold p x).ports, frames := (s.inbHold p x).frames }) ∧
  (∀ (s : State) (p : PortId) (k : Nat) (v : Word) (x : Tlp) (o : BitVec 24) (n : Nat),
    (s.port p).barOpen = false →
    exec (.dtCmdTailWrite p v) s = .next s ∧ exec (.dtRplHeadWrite p v) s = .next s ∧ exec (.dtRingCfgWrite p v) s = .next s ∧ exec (.dtNqPop p k) s = .next s ∧
      exec (.dtWinCommit p v) s = .next s ∧ exec (.recoveryWindowAccess p x) s = .next s ∧ exec (.dtBarRegisterWrite p o n v) s = .next s) ∧
  (∀ (s : State) (p : PortId) (v : Word),
    (s.port p).barOpen = true →
    (s.port p).dtHeld = false →
    (4 ≤ fld v 11 8 ∧ fld v 11 8 ≤ 8 ∧ 4 ≤ fld v 15 12 ∧ fld v 15 12 ≤ 8) →
    ((s.port p).dt.cfg.getLsbD 0 = false ∧ (s.port p).dt.cfg.getLsbD 1 = false) →
    (v.getLsbD 0 = true ∧ v.getLsbD 1 = true) →
    (s.port p).dt.replies = [] →
    exec (.dtRingCfgWrite p v) s = .next (s.setDt p { (s.port p).dt.wake with cfg := v &&& 0xFF03, cmdInF := (s.port p).dt.cmdBase, rplInF := (s.port p).dt.rplBase, logInF := (fld v 11 8, fld v 15 12), cmdHead := 0, cmdTail := 0, rplHead := 0, rplTail := 0 })) ∧
  (∀ (s : State) (p : PortId) (v : Word),
    (s.port p).barOpen = true →
    (s.port p).dtHeld = false →
    (4 ≤ fld v 11 8 ∧ fld v 11 8 ≤ 8 ∧ 4 ≤ fld v 15 12 ∧ fld v 15 12 ≤ 8) →
    ((s.port p).dt.cfg.getLsbD 0 = false ∧ (s.port p).dt.cfg.getLsbD 1 = false) →
    (v.getLsbD 0 = true ∧ v.getLsbD 1 = false) →
    (s.port p).dt.replies = [] →
    exec (.dtRingCfgWrite p v) s = .next (s.setDt p { (s.port p).dt.wake with cfg := v &&& 0xFF03, cmdInF := (s.port p).dt.cmdBase, logInF := (fld v 11 8, (s.port p).dt.logInF.2), cmdHead := 0, cmdTail := 0 })) ∧
  (∀ (s : State) (p : PortId) (v : Word),
    (s.port p).barOpen = true →
    (s.port p).dtHeld = false →
    (4 ≤ fld v 11 8 ∧ fld v 11 8 ≤ 8 ∧ 4 ≤ fld v 15 12 ∧ fld v 15 12 ≤ 8) →
    ((s.port p).dt.cfg.getLsbD 0 = true ∧ (s.port p).dt.cfg.getLsbD 1 = true) →
    (v.getLsbD 0 = true ∧ v.getLsbD 1 = true) →
    (s.port p).dt.replies = [] →
    exec (.dtRingCfgWrite p v) s = .next (s.setDt p { (s.port p).dt.wake with cfg := setFld (setFld (v &&& 0xFF03) 11 8 (fld (s.port p).dt.cfg 11 8)) 15 12 (fld (s.port p).dt.cfg 15 12) })) ∧
  (∀ (s : State) (p : PortId) (v : Word),
    (s.port p).barOpen = true →
    (s.port p).dtHeld = false →
    (4 ≤ fld v 11 8 ∧ fld v 11 8 ≤ 8 ∧ 4 ≤ fld v 15 12 ∧ fld v 15 12 ≤ 8) →
    ((s.port p).dt.cfg.getLsbD 0 = true ∧ (s.port p).dt.cfg.getLsbD 1 = true) →
    (v.getLsbD 0 = false ∨ v.getLsbD 1 = false) →
    RunsTo (exec (.dtRingCfgWrite p v) s) fun t =>
      t.port p = { (s.port p) with dt := { (s.port p).dt.wake with cfg := setFld (setFld (v &&& 0xFF03) 11 8 (fld (s.port p).dt.cfg 11 8)) 15 12 (fld (s.port p).dt.cfg 15 12), replies := [] } } ∧ (∀ q, q ≠ p.val → t.port q = s.port q) ∧
      t.plumb.jobs = s.plumb.jobs.map (fun j => if j.t = { kind := .dovetail, inst := p } then { j with lost := true } else j) ∧
      t = { s with ports := t.ports, plumb := { s.plumb with jobs := t.plumb.jobs, dead := t.plumb.dead } }) ∧
  (∀ (s : State) (p : PortId) (v : Word),
    (s.port p).barOpen = true →
    (s.port p).dtHeld = false →
    (fld v 11 8 < 4 ∨ 8 < fld v 11 8 ∨ fld v 15 12 < 4 ∨ 8 < fld v 15 12) →
    (s.port p).dt.replies = [] →
    RunsTo (exec (.dtRingCfgWrite p v) s) fun t => t = s.setDt p (s.port p).dt.wake) ∧
  (∀ (s : State) (p : PortId) (n : Nat) (x : Word) (l r : List (Nat × Word)),
    (s.port p).barOpen = true →
    (s.port p).dtHeld = false →
    (s.port p).dt.nq.held = l ++ (n, x) :: r →
    (s.port p).dt.nq.markers = [] →
    (∀ e ∈ l, noticePrio x < noticePrio e.2) →
    (∀ e ∈ r, noticePrio x ≤ noticePrio e.2) →
    exec (.dtNqPop p 8) s = .next (s.setDt p { (s.port p).dt.wake with nq := { (s.port p).dt.nq with held := l ++ r, popped := (s.port p).dt.nq.popped ++ [x] } })) ∧
  (∀ (s : State) (p : PortId),
    (s.port p).barOpen = true →
    (s.port p).dtHeld = false →
    (s.port p).dt.nq.held = [] →
    (s.port p).dt.nq.markers = [] →
    exec (.dtNqPop p 8) s = .next (s.setDt p { (s.port p).dt.wake with nq := { (s.port p).dt.nq with stalled := (s.port p).dt.nq.stalled ++ [{}] } })) ∧
  (∀ (s : State) (p : PortId) (k : Nat),
    (s.port p).barOpen = true →
    k ≠ 8 →
    exec (.dtNqPop p k) s = .next (s.setPort p { (s.port p) with dt := (s.port p).dt.wake, answers := (s.port p).answers ++ [if k = 4 then .data 9 0 [0, 0, 0, 0] false else .ca 9 0] })) ∧
  (∀ (s : State) (p : PortId),
    (s.port p).barOpen = true →
    (s.port p).dtHeld = true →
    exec (.dtNqPop p 8) s = .next ((s.hostTouch p).inbHold p { kind := .pop, root := barRoot })) ∧
  (∀ (s : State) (p : PortId) (v : Word),
    (s.port p).barOpen = true →
    (s.port p).dt.rec_ = true →
    v.getLsbD 0 = true →
    (List.range 16).all (s.winOk (s.frameOfPort p) (s.port p).dt) = true →
    exec (.dtWinCommit p v) s = .next (s.setDt p (({ (s.port p).dt.wake with active := (s.port p).dt.shadow, winStat := 0 } : Dovetail).vector 2))) ∧
  (∀ (s : State) (p : PortId) (v : Word),
    (s.port p).barOpen = true →
    (s.port p).dt.rec_ = true →
    v.getLsbD 0 = true →
    (List.range 16).all (s.winOk (s.frameOfPort p) (s.port p).dt) = false →
    exec (.dtWinCommit p v) s = .next (s.setDt p (({ (s.port p).dt.wake with winStat := 0x12 } : Dovetail).vector 2))) ∧
  (∀ (s : State) (p : PortId) (v : Word),
    ((s.port p).dt.rec_ = false ∨ v.getLsbD 0 = false) →
    exec (.dtWinCommit p v) s = .next s) ∧
  (∀ (s : State) (p : PortId) (k : Nat) (w : DtWin),
    k < 16 →
    w = Tab.get (s.port p).dt.shadow {} k →
    w.map.getLsbD 63 = true →
    s.winOk (s.frameOfPort p) (s.port p).dt k = true →
    fld w.map 61 60 = 0 ∧ fld w.map 20 0 = 0 ∧ fld w.tgt 63 56 = 0 ∧ fld w.tgt 20 0 = 0 ∧ fld w.map 59 40 ≠ 0 ∧
      fld w.map 39 21 * 2 ^ 21 + fld w.map 59 40 * 2 ^ 21 ≤ 2 ^ (30 + (s.port p).dt.barGib) ∧ s.winTarget (s.frameOfPort p) w = true) ∧
  (∀ (s : State) (p : PortId) (k : Nat),
    (s.port p).dtUp = true →
    (s.port p).dt.rec_ = true →
    (s.port p).dt.mse = false →
    k ≤ 10 →
    exec (.barResize p k) s = .next (s.setDt p { (s.port p).dt.wake with barGib := k })) ∧
  (∀ (s : State) (p : PortId) (k : Nat),
    ((s.port p).dtUp = false ∨ (s.port p).dt.rec_ = false ∨ (s.port p).dt.mse = true ∨ 10 < k) →
    exec (.barResize p k) s = .next (if (s.port p).dtUp then s.hostTouch p else s)) ∧
  (∀ (s : State) (p : PortId) (x : Tlp) (w : DtWin) (pa agent pkg : Nat),
    (s.port p).barOpen = true →
    (s.port p).dt.rec_ = true →
    (s.frame (s.frameOfPort p)).halted = false →
    x.ep = false →
    (tlpOk x = true ∧ x.form = 0) →
    (s.port p).dt.window x.addr x.len = some w →
    pa = w.base + (x.addr - w.off) →
    0 < x.len →
    (s.port p).inb = [] →
    (s.port p).inbQ = [] →
    (x.kind = .read ∨ w.map.getLsbD 62 = true) →
    s.target (s.frameOfPort p) (pa / 64 * 64) = some (agent, pkg) →
    RunsTo (exec (.recoveryWindowAccess p x) s) fun t =>
      t.net = (s.route (s.frameOfPort p) { op := (match x.kind with | .read => .rdNc | .write => .wrNc | .atomic _ => .atomNc), hdr := s.inbHdr p 0 (pa / 64) agent pkg, mask := if (min (pa % 64 + x.len) 64 - pa % 64) = 64 then BitVec.allOnes 64 else 0, amo := (match x.kind with | .atomic a => a | _ => .swap), size := x.len, off := pa % 64 }).net ∧
      (t.port p).inb.map (fun e => (e.1, e.2.root, e.2.tag, e.2.addr, e.2.len, e.2.left, e.2.posted)) = [(0, 9, x.tag, pa, x.len, linesOf pa x.len, x.kind == .write)] ∧
      t.port p = { (s.port p) with dt := (s.port p).dt.wake, inb := (t.port p).inb } ∧ (∀ q, q ≠ p.val → t.port q = s.port q) ∧ t.frame (s.frameOfPort p) = { s.frame (s.frameOfPort p) with inbNo := (s.frame (s.frameOfPort p)).inbNo + 1 } ∧ (∀ g, g ≠ s.frameOfPort p → t.frame g = s.frame g) ∧ t = { s with ports := t.ports, frames := t.frames, net := t.net }) ∧
  (∀ (s : State) (p : PortId) (o n : Nat) (w : DtWin),
    (s.port p).dt.window o n = some w →
    w.map.getLsbD 63 = true ∧ w.off ≤ o ∧ o + n ≤ w.off + w.len ∧ w.off + w.len ≤ 2 ^ (30 + (s.port p).dt.barGib) ∧ w ∈ (s.port p).dt.active.map (·.2)) ∧
  (∀ (s : State) (p : PortId) (x : Tlp),
    (s.port p).barOpen = true →
    (s.port p).dt.rec_ = true →
    (s.frame (s.frameOfPort p)).halted = false →
    x.ep = false →
    (tlpOk x = true ∧ x.form = 0) →
    x.kind ≠ .write →
    (s.port p).dt.window x.addr x.len = none →
    exec (.recoveryWindowAccess p x) s = .next (s.setPort p { (s.port p) with dt := (s.port p).dt.wake, answers := (s.port p).answers ++ [.ur 9 x.tag] })) ∧
  (∀ (s : State) (p : PortId) (x : Tlp) (w : DtWin),
    (s.port p).barOpen = true →
    (s.port p).dt.rec_ = true →
    (s.frame (s.frameOfPort p)).halted = false →
    x.ep = false →
    (tlpOk x = true ∧ x.form = 0) →
    x.kind = .write →
    ((s.port p).dt.window x.addr x.len = none ∨ (s.port p).dt.window x.addr x.len = some w ∧ w.map.getLsbD 62 = false) →
    RunsTo (exec (.recoveryWindowAccess p x) s) fun t =>
      t.port p = { (s.port p) with dropped := satAdd 16 (s.port p).dropped 1, dt := { (t.port p).dt with nq := (t.port p).dt.nq } } ∧ (t.port p).dt.drop = true ∧ (s.scribe.frozen = false → ((t.recOf 0x24 (0x20 + p)).bin 0x24 5) = min (2 ^ 64 - 1) ((s.recOf 0x24 (0x20 + p)).bin 0x24 5 + 1)) ∧ (∀ q, q ≠ p.val → (t.port q).purlin = (s.port q).purlin ∧ (t.port q).ridge = (s.port q).ridge ∧ (t.port q).roots = (s.port q).roots) ∧ t.mem = s.mem ∧ t.memPoison = s.memPoison ∧ t.homes = s.homes ∧ t.chans = s.chans ∧ t.tenons = s.tenons ∧ s.keepsNet t) ∧
  (∀ (s : State) (p : PortId) (x : Tlp) (w : DtWin) (a : AmoOp),
    (s.port p).barOpen = true →
    (s.port p).dt.rec_ = true →
    (s.frame (s.frameOfPort p)).halted = false →
    x.ep = false →
    (tlpOk x = true ∧ x.form = 0) →
    x.kind = .atomic a →
    ((s.port p).dt.window x.addr x.len = some w ∧ w.map.getLsbD 62 = false) →
    exec (.recoveryWindowAccess p x) s = .next (s.setPort p { (s.port p) with dt := (s.port p).dt.wake, answers := (s.port p).answers ++ [.ca 9 x.tag] })) ∧
  (∀ (s : State) (p : PortId) (x : Tlp),
    (s.port p).barOpen = true →
    (s.port p).dt.rec_ = true →
    (s.frame (s.frameOfPort p)).halted = true →
    x.kind ≠ .write →
    exec (.recoveryWindowAccess p x) s = .next (s.setPort p { (s.port p) with dt := (s.port p).dt.wake, answers := (s.port p).answers ++ [.ur 9 x.tag] })) ∧
  (∀ (s : State) (p : PortId) (x : Tlp),
    (s.port p).dt.rec_ = false →
    exec (.recoveryWindowAccess p x) s = .next s) ∧
  (∀ (s : State) (p : PortId) (o : BitVec 24) (v : Word),
    (s.port p).barOpen = true →
    (s.port p).dtHeld = false →
    o ∈ ([0x00, 0x10, 0x20, 0x28, 0x38, 0x40, 0x48, 0x50, 0x60, 0x68, 0x200, 0x2F8, 0x1800, 0xFFFFF8] : List (BitVec 24)) →
    exec (.dtBarRegisterWrite p o 8 v) s = .next (if o = 0x00 then s.setDt p { (s.port p).dt.wake with ringErr := (s.port p).dt.ringErr && !v.getLsbD 7, frameReset := (s.port p).dt.frameReset && !v.getLsbD 6, drop := (s.port p).dt.drop && !v.getLsbD 5, unexp := (s.port p).dt.unexp && !v.getLsbD 4 }
      else if o = 0x10 then s.setDt p { (s.port p).dt.wake with cmdBase := if (s.port p).dt.cfg.getLsbD 0 then (s.port p).dt.cmdBase else v &&& ~~~ 0x1FFF }
      else if o = 0x28 then s.setDt p { (s.port p).dt.wake with rplBase := if (s.port p).dt.cfg.getLsbD 1 then (s.port p).dt.rplBase else v &&& ~~~ 0x1FFF }
      else if o = 0x48 ∧ 1 ≤ fld v 7 0 ∧ fld v 7 0 ≤ 252 then s.setDt p { (s.port p).dt.wake with nqLevel := fld v 7 0 }
      else if o = 0x50 then s.setDt p { (s.port p).dt.wake with outBase := v &&& ~~~ 0x1FFFFF }
      else if o = 0x60 ∧ 1 ≤ fld v 6 0 ∧ fld v 6 0 ≤ 100 then s.setDt p { (s.port p).dt.wake with nqTimeout := fld v 6 0 }
      else s.hostTouch p)) ∧
  (∀ (s : State) (p : PortId) (v : Word),
    (s.port p).barOpen = true →
    exec (.dtBarRegisterWrite p 0x18 8 v) s = exec (.dtCmdTailWrite p v) s ∧ exec (.dtBarRegisterWrite p 0x30 8 v) s = exec (.dtRplHeadWrite p v) s ∧
      exec (.dtBarRegisterWrite p 0x08 8 v) s = exec (.dtRingCfgWrite p v) s) ∧
  (∀ (s : State) (p : PortId) (k : Fin 16) (o : BitVec 24) (v : Word),
    (s.port p).barOpen = true →
    (s.port p).dt.rec_ = true →
    (o.toNat = 0x100 + 16 * k.val ∨ o.toNat = 0x108 + 16 * k.val) →
    RunsTo (exec (.dtBarRegisterWrite p o 8 v) s) fun t =>
      (Tab.get (t.port p).dt.shadow {} k) = (if o.toNat % 16 = 0 then { Tab.get (s.port p).dt.shadow {} k with map := v } else { Tab.get (s.port p).dt.shadow {} k with tgt := v }) ∧
      (∀ j, j ≠ k.val → Tab.get (t.port p).dt.shadow {} j = Tab.get (s.port p).dt.shadow {} j) ∧ t = s.setDt p { (s.port p).dt.wake with shadow := (t.port p).dt.shadow }) ∧
  (∀ (s : State) (p : PortId) (v : Word),
    (s.port p).barOpen = true →
    (s.port p).dtHeld = false →
    exec (.dtBarRegisterWrite p 0x54 4 v) s = .next (s.setDt p { (s.port p).dt.wake with outBase := BitVec.ofNat 64 ((s.port p).dt.outBase.toNat % 2 ^ 32 + v.toNat % 2 ^ 32 * 2 ^ 32) &&& ~~~ 0x1FFFFF })) ∧
  (∀ (s : State) (p : PortId) (k : Fin 8) (o : BitVec 24) (v : Word),
    (s.port p).barOpen = true →
    (s.port p).dtHeld = false →
    o.toNat = 0x1000 + 8 * k.val →
    (s.port p).dt.pba = 0 →
    exec (.dtBarRegisterWrite p o 8 v) s = .next (s.setDt p { (s.port p).dt.wake with msix := Tab.put (s.port p).dt.msix (if k.val % 2 = 1 then 0x100000000 else 0) k v })) ∧
  (∀ (s : State) (p : PortId) (off : BitVec 24) (n : Nat) (v : Word),
    (s.port p).barOpen = true →
    (n ≠ 4 ∧ n ≠ 8 ∨ off.toNat % n ≠ 0) →
    RunsTo (exec (.dtBarRegisterWrite p off n v) s) fun t =>
      (t.port p).dt.drop = true ∧ (t.port p).dt.outBase = (s.port p).dt.outBase ∧ (t.port p).dt.cfg = (s.port p).dt.cfg ∧ (t.port p).dropped = satAdd 16 (s.port p).dropped 1 ∧ (s.scribe.frozen = false → ((t.recOf 0x24 (0x20 + p)).bin 0x24 5) = min (2 ^ 64 - 1) ((s.recOf 0x24 (0x20 + p)).bin 0x24 5 + 1)) ∧ (∀ q, q ≠ p.val → (t.port q).purlin = (s.port q).purlin ∧ (t.port q).ridge = (s.port q).ridge ∧ (t.port q).roots = (s.port q).roots) ∧ t.mem = s.mem ∧ t.memPoison = s.memPoison ∧ t.homes = s.homes ∧ t.chans = s.chans ∧ t.tenons = s.tenons ∧ s.keepsNet t) ∧
  (∀ (s : State) (p : PortId) (v : BitVec 32),
    (s.port p).dtUp = true →
    (s.port p).dt.pba = 0 →
    (s.port p).dt.replies = [] →
    exec (.hostConfigWrite p 4 v) s = .next (s.setDt p { (s.port p).dt.wake with bme := v.getLsbD 2, mse := v.getLsbD 1, cfg_ := Tab.put (s.port p).dt.cfg_ 0 4 (BitVec.ofNat 64 (v.toNat &&& 0x540)) })) ∧
  (∀ (s : State) (p : PortId) (v : BitVec 32),
    (s.port p).dtUp = true →
    (s.port p).dt.pba = 1 →
    (s.port p).dt.replies = [] →
    v.getLsbD 2 = true →
    ((s.port p).dt.msixOn = true ∧ (s.port p).dt.msixMask = false) →
    (Tab.get (s.port p).dt.msix 0x100000000 1).getLsbD 32 = false →
    exec (.hostConfigWrite p 4 v) s = .next (s.setDt p { (s.port p).dt.wake with bme := true, mse := v.getLsbD 1, pba := 0, cfg_ := Tab.put (s.port p).dt.cfg_ 0 4 (BitVec.ofNat 64 (v.toNat &&& 0x540)), sent := (s.port p).dt.sent ++ [((Tab.get (s.port p).dt.msix 0 0).toNat, bytesOf 4 (Tab.get (s.port p).dt.msix 0x100000000 1).toNat)] })) ∧
  (∀ (s : State) (p : PortId) (v : BitVec 32),
    (s.port p).dtUp = true →
    exec (.hostConfigWrite p 0x10 v) s = .next (s.setDt p { (s.port p).dt.wake with bar10 := BitVec.ofNat 64 (((s.port p).dt.bar10.toNat / 2 ^ 32 * 2 ^ 32 + v.toNat) / 2 ^ 24 * 2 ^ 24 + 4) }) ∧ exec (.hostConfigWrite p 0x14 v) s = .next (s.setDt p { (s.port p).dt.wake with bar10 := BitVec.ofNat 64 (((s.port p).dt.bar10.toNat % 2 ^ 32 + v.toNat * 2 ^ 32) / 2 ^ 24 * 2 ^ 24 + 4) })) ∧
  (∀ (s : State) (p : PortId) (v : BitVec 32),
    (s.port p).dtUp = true →
    (s.port p).dt.rec_ = true →
    exec (.hostConfigWrite p 0x18 v) s = .next (s.setDt p { (s.port p).dt.wake with bar18 := BitVec.ofNat 64 (((s.port p).dt.bar18.toNat / 2 ^ 32 * 2 ^ 32 + v.toNat) / 2 ^ (30 + (s.port p).dt.barGib) * 2 ^ (30 + (s.port p).dt.barGib) + 12) }) ∧ exec (.hostConfigWrite p 0x1C v) s = .next (s.setDt p { (s.port p).dt.wake with bar18 := BitVec.ofNat 64 (((s.port p).dt.bar18.toNat % 2 ^ 32 + v.toNat * 2 ^ 32) / 2 ^ (30 + (s.port p).dt.barGib) * 2 ^ (30 + (s.port p).dt.barGib) + 12) })) ∧
  (∀ (s : State) (p : PortId) (v : BitVec 32),
    (s.port p).dtUp = true →
    exec (.hostConfigWrite p 0x68 v) s = .next (s.setDt p { (s.port p).dt.wake with devCtl2 := v.toNat % 65536 })) ∧
  (∀ (s : State) (p : PortId) (v : BitVec 32),
    (s.port p).dtUp = true →
    exec (.hostConfigWrite p 0x104 v) s = .next (s.setDt p { (s.port p).dt.wake with aer := (s.port p).dt.aer - ((s.port p).dt.aer &&& v.toNat) })) ∧
  (∀ (s : State) (p : PortId) (v : BitVec 32),
    (s.port p).dtUp = true →
    (s.port p).dt.pba = 0 →
    exec (.hostConfigWrite p 0xB0 v) s = .next (s.setDt p { (s.port p).dt.wake with cfg_ := Tab.put (s.port p).dt.cfg_ 0 0xB0 (BitVec.ofNat 64 (v.toNat &&& 0xC0000000)) })) ∧
  (∀ (s : State) (p : PortId) (v : BitVec 32),
    (s.port p).dtUp = true →
    v.getLsbD 15 = false →
    exec (.hostConfigWrite p 0x48 v) s = .next (s.setDt p { (s.port p).dt.wake with cfg_ := Tab.put (s.port p).dt.cfg_ 0 0x48 (BitVec.ofNat 64 (v.toNat &&& 0x7FFF)) })) ∧
  (∀ (s : State) (p : PortId) (v : BitVec 32),
    (s.port p).dtUp = true →
    v.getLsbD 15 = true →
    exec (.hostConfigWrite p 0x48 v) s = exec (.functionLevelReset p) (s.hostTouch p)) ∧
  (∀ (s : State) (p : PortId) (v : BitVec 32) (k : Nat),
    (s.port p).dtUp = true →
    (s.port p).dt.rec_ = true →
    (s.port p).dt.mse = false →
    (v.toNat / 256 % 64 = 10 + k ∧ k ≤ 10) →
    exec (.hostConfigWrite p 0x348 v) s = .next (s.setDt p { (s.port p).dt.wake with barGib := k })) ∧
  (∀ (s : State) (p : PortId) (v : BitVec 32),
    (s.port p).dtUp = true →
    exec (.hostConfigWrite p 0x50 v) s = .next (s.setDt p { (s.port p).dt.wake with cfg_ := Tab.put (s.port p).dt.cfg_ 0 0x50 (BitVec.ofNat 64 (v.toNat &&& 0x3CB)) }) ∧ exec (.hostConfigWrite p 0x84 v) s = .next (s.setDt p { (s.port p).dt.wake with cfg_ := Tab.put (s.port p).dt.cfg_ 0 0x84 (BitVec.ofNat 64 (v.toNat &&& 0x103)) }) ∧ exec (.hostConfigWrite p 0x30 v) s = .next (s.setDt p { (s.port p).dt.wake with cfg_ := Tab.put (s.port p).dt.cfg_ 0 0x30 (BitVec.ofNat 64 (v.toNat &&& 0xFFF00001)) }) ∧ exec (.hostConfigWrite p 0x208 v) s = .next (s.setDt p { (s.port p).dt.wake with cfg_ := Tab.put (s.port p).dt.cfg_ 0 0x208 (BitVec.ofNat 64 (v.toNat &&& 0xE3FFFF0F)) })) ∧
  (∀ (s : State) (p : PortId) (r : Nat) (v : BitVec 32),
    (s.port p).dtUp = true →
    (r % 4 = 0 ∧ dtMask r = 0) →
    r ∉ [0x10, 0x14, 0x18, 0x1C, 0x68, 0x104, 0x348] →
    RunsTo (exec (.hostConfigWrite p r v) s) fun t => (∀ w, w ≠ r → Tab.get (t.port p).dt.cfg_ 0 w = Tab.get (s.port p).dt.cfg_ 0 w) ∧ Tab.get (t.port p).dt.cfg_ 0 r = 0 ∧ t = s.setDt p { (s.port p).dt.wake with cfg_ := (t.port p).dt.cfg_ }) ∧
  (∀ (s : State) (p : PortId) (r : Nat) (v : BitVec 32),
    ((s.port p).dtUp = false ∨ r % 4 ≠ 0 ∨ (r = 0x18 ∨ r = 0x1C) ∧ (s.port p).dt.rec_ = false) →
    exec (.hostConfigWrite p r v) s = .next (if (s.port p).dtUp then s.hostTouch p else s)) ∧
  (∀ (s : State) (d : Dovetail),
    d.cfg_ = [] →
    d.cfgRead 0 = BitVec.ofNat 32 (Config.vendorId.toNat + (if d.rec_ then 0x0385 else 0x0384) * 65536) ∧ (d.cfgRead 8).toNat / 256 = (if d.rec_ then 0x088000 else 0x0B4000)) ∧
  (∀ (s : State) (d : Dovetail) (o n : Nat),
    d.barRead o n = (if (n = 4 ∨ n = 8) ∧ o % n = 0 then some ((d.barWord (o / 8 * 8)).toNat / 2 ^ (8 * (o % 8)) % 2 ^ (8 * n)) else none) ∧ d.barWord 0x40 = 0 ∧ d.barWord 0x20 = BitVec.ofNat 64 d.cmdHead ∧ d.barWord 0x38 = BitVec.ofNat 64 d.rplTail ∧ d.barWord 0 = BitVec.ofNat 64 (b2n d.ringErr * 128 + b2n d.frameReset * 64 + b2n d.drop * 32 + b2n d.unexp * 16 + b2n d.rec_ * 2 + b2n d.ready))

/-- A fundamental reset, a hot reset and a function-level reset of a dovetail function whose link is up: its registers, configuration space, window sets and rings take their reset values, its waiting replies are dropped and the commands it sent run on without a reply; its own requests end as timeouts with their tags quarantined; inbound reads are discarded and posted writes already decoded stay. A fundamental reset leaves the link down, with a notice, and a hot reset retraining, both with the notice queue emptied and the stored RECOVERY bit taken; a function-level reset keeps the link and the link's fields of its configuration space, the queue and the personality. Each completes from every state. On another port, or with the link down, nothing happens. -/
def Obligations.DovetailResets : Prop :=
  (∀ (s : State) (p : PortId),
    (s.port p).pers = 3 →
    (s.port p).inReset = false →
    2 ≤ (s.port p).dt.link →
    s.quietFrame (s.frameOfPort p) none →
    (s.port p).dt.out = [] →
    RunsTo (exec (.fundamentalReset p) s) fun t =>
      (t.port p).dt.link = 0 ∧ (t.port p).dt.cfg = 0x4400 ∧ (t.port p).dt.cmdBase = 0 ∧ (t.port p).dt.rplBase = 0 ∧ (t.port p).dt.logInF = (4, 4) ∧ (t.port p).dt.cmdHead = 0 ∧
      (t.port p).dt.cmdTail = 0 ∧ (t.port p).dt.rplHead = 0 ∧ (t.port p).dt.rplTail = 0 ∧ (t.port p).dt.active = [] ∧ (t.port p).dt.shadow = [] ∧ (t.port p).dt.replies = [] ∧
      (t.port p).dt.bme = false ∧ (t.port p).dt.mse = false ∧ (t.port p).dt.bar10 = 0 ∧ (t.port p).dt.bar18 = 0 ∧ (t.port p).dt.barGib = 0 ∧ (t.port p).dt.outBase = 0 ∧
      (t.port p).dt.msix = [] ∧ (t.port p).dt.cfg_ = [] ∧ (t.port p).dt.nqLevel = 1 ∧ (t.port p).dt.nqTimeout = 10 ∧ (t.port p).dt.nq.held.length ≤ 2 ∧
      (t.port p).inb = (s.port p).inb.filter (fun e => e.2.posted) ∧ (t.port p).rec_ = (match Tab.find s.plumb.flash.pers p with | some r => if r.pers = 3 then r.rec_ else (s.port p).rec_ | none => p == 0) ∧ t.plumb.jobs = s.plumb.jobs.map (fun j => if j.t = { kind := .dovetail, inst := p } then { j with lost := true } else j) ∧ (s.isBooted (s.frameOfPort p) = true → (s.frame (s.frameOfPort p)).nq.stalled = [] → (s.frame (s.frameOfPort p)).nq.held.length < 252 →
        (t.frame (s.frameOfPort p)).nq.held.getLast?.map (·.2) = some (linkNotice p 1 0 (s.frameOfPort p) 0)) ∧ (s.scribe.frozen = false → ((t.recOf 0x24 (0x20 + p)).bin 0x24 3) = min (2 ^ 64 - 1) ((s.recOf 0x24 (0x20 + p)).bin 0x24 3 + 1)) ∧ ((s.frame (s.frameOfPort p)).nq.stalled = [] → ∀ d, (t.core d).regs.x = (s.core d).regs.x) ∧ (∀ q, q ≠ p.val → (t.port q).purlin = (s.port q).purlin ∧ (t.port q).ridge = (s.port q).ridge ∧ (t.port q).roots = (s.port q).roots) ∧ t.mem = s.mem ∧ t.memPoison = s.memPoison ∧ t.homes = s.homes ∧ t.chans = s.chans ∧ t.tenons = s.tenons ∧ s.keepsNet t) ∧
  (∀ (s : State) (p : PortId),
    (s.port p).pers = 3 →
    (s.port p).inReset = false →
    (s.port p).dt.link < 2 →
    s.quietFrame (s.frameOfPort p) none →
    (s.port p).dt.out = [] →
    RunsTo (exec (.fundamentalReset p) s) fun t =>
      (t.port p).dt = { rec_ := (s.port p).dt.rec_, ready := (s.port p).dt.ready, link := 0, linkWas := (s.port p).dt.linkWas, quar := (s.port p).dt.quar, sent := (s.port p).dt.sent, nq := { popped := (s.port p).dt.nq.popped, stalled := (s.port p).dt.nq.stalled, no := (s.port p).dt.nq.no }, width := (s.port p).dt.width, rate := (s.port p).dt.rate, flit := (s.port p).dt.flit, tags14 := (s.port p).dt.tags14, quarter := (s.port p).dt.quarter, ltr := (s.port p).dt.ltr } ∧ (t.port p).inb = (s.port p).inb.filter (fun e => e.2.posted) ∧ (t.port p).rec_ = (match Tab.find s.plumb.flash.pers p with | some r => if r.pers = 3 then r.rec_ else (s.port p).rec_ | none => p == 0) ∧ t.plumb.jobs = s.plumb.jobs.map (fun j => if j.t = { kind := .dovetail, inst := p } then { j with lost := true } else j) ∧ (∀ q, q ≠ p.val → t.port q = s.port q) ∧ t = { s with ports := t.ports, plumb := { s.plumb with jobs := t.plumb.jobs, dead := t.plumb.dead }, cores := t.cores } ∧ (∀ d, t.core d = s.core d)) ∧
  (∀ (s : State) (p : PortId),
    (s.port p).pers = 3 →
    2 ≤ (s.port p).dt.link →
    s.quietFrame (s.frameOfPort p) none →
    (s.port p).dt.out = [] →
    RunsTo (exec (.hotReset p) s) fun t =>
      (t.port p).dt = { rec_ := (s.port p).dt.rec_, ready := (s.port p).dt.ready, link := 1, linkWas := (s.port p).dt.linkWas, quar := (s.port p).dt.quar, sent := (s.port p).dt.sent, nq := { popped := (s.port p).dt.nq.popped, stalled := (s.port p).dt.nq.stalled, no := (s.port p).dt.nq.no }, width := (s.port p).dt.width, rate := (s.port p).dt.rate, flit := (s.port p).dt.flit, tags14 := (s.port p).dt.tags14, quarter := (s.port p).dt.quarter, ltr := (s.port p).dt.ltr } ∧ (t.port p).inb = (s.port p).inb.filter (fun e => e.2.posted) ∧ (t.port p).rec_ = (match Tab.find s.plumb.flash.pers p with | some r => if r.pers = 3 then r.rec_ else (s.port p).rec_ | none => p == 0) ∧ t.plumb.jobs = s.plumb.jobs.map (fun j => if j.t = { kind := .dovetail, inst := p } then { j with lost := true } else j) ∧ (∀ q, q ≠ p.val → t.port q = s.port q) ∧ t = { s with ports := t.ports, plumb := { s.plumb with jobs := t.plumb.jobs, dead := t.plumb.dead }, cores := t.cores } ∧ (∀ d, t.core d = s.core d)) ∧
  (∀ (s : State) (p : PortId),
    (s.port p).pers = 3 →
    2 ≤ (s.port p).dt.link →
    s.quietFrame (s.frameOfPort p) none →
    (s.port p).dt.out = [] →
    RunsTo (exec (.functionLevelReset p) s) fun t =>
      (t.port p).dt = { rec_ := (s.port p).dt.rec_, ready := (s.port p).dt.ready, link := (s.port p).dt.link, linkWas := (s.port p).dt.linkWas, quar := (s.port p).dt.quar, sent := (s.port p).dt.sent, nq := (s.port p).dt.nq, width := (s.port p).dt.width, rate := (s.port p).dt.rate, flit := (s.port p).dt.flit, tags14 := (s.port p).dt.tags14, quarter := (s.port p).dt.quarter, ltr := (s.port p).dt.ltr, cfg_ := (s.port p).dt.cfg_.filter (fun e => e.1 == 0x50 || e.1 == 0x70 || e.1 == 0x208 || e.1 == 0x20C) } ∧ (t.port p).inb = (s.port p).inb.filter (fun e => e.2.posted) ∧ (t.port p).rec_ = (s.port p).rec_ ∧ t.plumb.jobs = s.plumb.jobs.map (fun j => if j.t = { kind := .dovetail, inst := p } then { j with lost := true } else j) ∧ (∀ q, q ≠ p.val → t.port q = s.port q) ∧ t = { s with ports := t.ports, plumb := { s.plumb with jobs := t.plumb.jobs, dead := t.plumb.dead }, cores := t.cores } ∧ (∀ d, t.core d = s.core d)) ∧
  (∀ (s : State) (p : PortId) (tag : Nat) (q : OutReq),
    (s.port p).pers = 3 →
    (s.port p).inReset = false →
    2 ≤ (s.port p).dt.link →
    s.quietFrame (s.frameOfPort p) none →
    (s.port p).dt.out = [(tag, q)] →
    q.core = 384 →
    RunsTo (exec (.fundamentalReset p) s) (fun t => (t.port p).dt.out = [] ∧ (t.port p).dt.quar = Tab.set (s.port p).dt.quar tag q.owed ∧ (t.port p).dt.cfg = 0x4400 ∧ (t.port p).dt.active = [] ∧ (∀ q, q ≠ p.val → (t.port q).purlin = (s.port q).purlin ∧ (t.port q).ridge = (s.port q).ridge ∧ (t.port q).roots = (s.port q).roots) ∧ t.mem = s.mem ∧ t.memPoison = s.memPoison ∧ t.homes = s.homes ∧ t.chans = s.chans ∧ t.tenons = s.tenons ∧ s.keepsNet t) ∧
      RunsTo (exec (.hotReset p) s) (fun t => (t.port p).dt.out = [] ∧ (t.port p).dt.quar = Tab.set (s.port p).dt.quar tag q.owed ∧ (t.port p).dt.cfg = 0x4400 ∧ (t.port p).dt.active = [] ∧ (∀ q, q ≠ p.val → (t.port q).purlin = (s.port q).purlin ∧ (t.port q).ridge = (s.port q).ridge ∧ (t.port q).roots = (s.port q).roots) ∧ t.mem = s.mem ∧ t.memPoison = s.memPoison ∧ t.homes = s.homes ∧ t.chans = s.chans ∧ t.tenons = s.tenons ∧ s.keepsNet t) ∧
      RunsTo (exec (.functionLevelReset p) s) (fun t => (t.port p).dt.out = [] ∧ (t.port p).dt.quar = Tab.set (s.port p).dt.quar tag q.owed ∧ (t.port p).dt.cfg = 0x4400 ∧ (t.port p).dt.active = [] ∧ (∀ q, q ≠ p.val → (t.port q).purlin = (s.port q).purlin ∧ (t.port q).ridge = (s.port q).ridge ∧ (t.port q).roots = (s.port q).roots) ∧ t.mem = s.mem ∧ t.memPoison = s.memPoison ∧ t.homes = s.homes ∧ t.chans = s.chans ∧ t.tenons = s.tenons ∧ s.keepsNet t)) ∧
  (∀ (s : State) (p : PortId),
    ((s.port p).pers ≠ 3 ∨ (s.port p).inReset = true) →
    exec (.fundamentalReset p) s = .next s) ∧
  (∀ (s : State) (p : PortId),
    (s.port p).dtUp = false →
    exec (.hotReset p) s = .next s ∧ exec (.functionLevelReset p) s = .next s) ∧
  (∀ (s : State) (p : PortId),
    RunsTo (exec (.fundamentalReset p) s) fun t => t.mtime = s.mtime ∧ t.pending = s.pending ∧ t.off = s.off) ∧
  (∀ (s : State) (p : PortId),
    RunsTo (exec (.hotReset p) s) fun t => t.mtime = s.mtime ∧ t.pending = s.pending ∧ t.off = s.off) ∧
  (∀ (s : State) (p : PortId),
    RunsTo (exec (.functionLevelReset p) s) fun t => t.mtime = s.mtime ∧ t.pending = s.pending ∧ t.off = s.off)

/-- A query that passes the checks of R321, on any transport instance, and waits for no earlier command, is answered OK with its payload: GET_INFO the running bundle, the package, its mode and the issuer; GET_STATUS of a tag whether it waits, runs, is replied to or is free; ABORT of a free tag result 1, of a flush that has only its reply to come 2, and of a running command that cannot be aborted 3; ECHO its own bytes; GET_MODE the modes and the ALLOWED mask; GET_POWER the measured powers and caps its scope sees; GET_THERMAL_MODEL a stud's or the package's model and temperatures; GET_ERROR_LOG one of the three logs; SCRIBE_READ the record's bytes; LINK_STATUS the link's registers; TENON_REPAIR_MAP the record or the whole map; RIDGE_EXPORT the entry. Nothing but the reply changes, and where GET_STATUS tells the progress of a running command, the count of free values (log entry 2). -/
def Obligations.PlumbAnswers : Prop :=
  (∀ (s : State) (x : TInst) (p : CmdPkt),
    s.takes x 0x01 p →
    exec (.getInfo x p) s = .next ((s).answer x 0x01 p
        (bytesOf 2 1 ++ bytesOf 1 s.plumb.running.major ++ bytesOf 1 s.plumb.running.minor ++ bytesOf 4 s.plumb.running.build ++
        bytesOf 8 Config.serialNumber.toNat ++ bytesOf 2 0x100 ++ bytesOf 1 s.ownPkg ++ bytesOf 1 s.mode ++ bytesOf 1 ((s.scopeOf x).getD 0xFF) ++
        bytesOf 1 (TInst.code x) ++ bytesOf 1 (if x.kind = .mctp then 0 else x.inst) ++ [0] ++ bytesOf 2 4096 ++ bytesOf 2 (s.outstanding x + 1)))) ∧
  (∀ (s : State) (x : TInst) (p : CmdPkt),
    s.takes x 0x02 p →
    p.byte 0 ≠ p.tag.toNat →
    s.plumb.jobs.find? (fun k => k.t == x && !k.lost && k.pkt.tag.toNat == p.byte 0) = none →
    s.plumb.dead.find? (fun e => e.t == x && e.tag == p.byte 0) = none →
    exec (.getStatus x p) s = .next ((s).answer x 0x02 p
        (bytesOf 8 0))) ∧
  (∀ (s : State) (x : TInst) (p : CmdPkt) (k : Job),
    s.takes x 0x02 p →
    p.byte 0 ≠ p.tag.toNat →
    s.plumb.jobs.find? (fun k => k.t == x && !k.lost && k.pkt.tag.toNat == p.byte 0) = some k →
    k.running = false →
    exec (.getStatus x p) s = .next ((s).answer x 0x02 p
        ([1] ++ bytesOf 1 k.opcode ++ bytesOf 2 0 ++ bytesOf 4 ((s.mtime.toNat - k.taken) / 100000)))) ∧
  (∀ (s : State) (x : TInst) (p : CmdPkt) (k : Job),
    s.takes x 0x02 p →
    p.byte 0 ≠ p.tag.toNat →
    s.plumb.jobs.find? (fun k => k.t == x && !k.lost && k.pkt.tag.toNat == p.byte 0) = some k →
    k.running = true →
    exec (.getStatus x p) s = .next (({ s with free := s.free + 1 }).answer x 0x02 p
        ([2] ++ bytesOf 1 k.opcode ++ bytesOf 2 ((Config.freeValue s.free).toNat % 1001) ++ bytesOf 4 ((s.mtime.toNat - k.taken) / 100000)))) ∧
  (∀ (s : State) (x : TInst) (p : CmdPkt) (d : Dead),
    s.takes x 0x02 p →
    p.byte 0 ≠ p.tag.toNat →
    s.plumb.jobs.find? (fun k => k.t == x && !k.lost && k.pkt.tag.toNat == p.byte 0) = none →
    s.plumb.dead.find? (fun e => e.t == x && e.tag == p.byte 0) = some d →
    exec (.getStatus x p) s = .next ((s).answer x 0x02 p
        ([3] ++ bytesOf 1 d.opcode ++ bytesOf 2 1000 ++ bytesOf 4 ((s.mtime.toNat - d.taken) / 100000)))) ∧
  (∀ (s : State) (x : TInst) (p : CmdPkt),
    s.takes x 0x03 p →
    p.byte 0 ≠ p.tag.toNat →
    s.plumb.jobs.find? (fun k => k.t == x && !k.lost && k.pkt.tag.toNat == p.byte 0) = none →
    exec (.abort x p) s = .next ((s).answer x 0x03 p
        ([1]))) ∧
  (∀ (s : State) (x : TInst) (p : CmdPkt) (k : Job),
    s.takes x 0x03 p →
    p.byte 0 ≠ p.tag.toNat →
    s.plumb.jobs.find? (fun k => k.t == x && !k.lost && k.pkt.tag.toNat == p.byte 0) = some k →
    k.running = true →
    opAborts k.opcode = false →
    exec (.abort x p) s = .next ((s).answer x 0x03 p
        ([3]))) ∧
  (∀ (s : State) (x : TInst) (p : CmdPkt) (k : Job),
    s.takes x 0x03 p →
    p.byte 0 ≠ p.tag.toNat →
    s.plumb.jobs.find? (fun k => k.t == x && !k.lost && k.pkt.tag.toNat == p.byte 0) = some k →
    k.running = true →
    k.opcode = 0x43 →
    s.workDone (s.workBays k) = true →
    exec (.abort x p) s = .next ((s).answer x 0x03 p
        ([2]))) ∧
  (∀ (s : State) (x : TInst) (p : CmdPkt) (k : Job),
    s.takes x 0x03 p →
    x.kind = .mctp →
    p.byte 0 ≠ p.tag.toNat →
    s.plumb.jobs = [k] →
    (k.t = x ∧ k.lost = false ∧ k.pkt.tag.toNat = p.byte 0) →
    k.running = false →
    k.opcode ≠ 0x42 →
    exec (.abort x p) s = .next ((((({ s.countEnd stAborted with plumb := { (s.countEnd stAborted).plumb with jobs := [] } }).replied x k.acc k.taken stAborted k.opcode k.pkt 0 []))).answer x 0x03 p [0])) ∧
  (∀ (s : State) (x : TInst) (p : CmdPkt) (k : Job),
    s.takes x 0x03 p →
    x.kind = .mctp →
    p.byte 0 ≠ p.tag.toNat →
    s.plumb.jobs = [k] →
    (k.t = x ∧ k.lost = false ∧ k.pkt.tag.toNat = p.byte 0) →
    k.running = true →
    k.opcode = 0x70 →
    exec (.abort x p) s = .next ((((({ s.countEnd stAborted with plumb := { (s.countEnd stAborted).plumb with jobs := [], fwOwner := none, fwLen := 0, fwData := [] } }).replied x k.acc k.taken stAborted k.opcode k.pkt 0 []))).answer x 0x03 p [0])) ∧
  (∀ (s : State) (x : TInst) (p : CmdPkt),
    s.takes x 0x04 p →
    exec (.echo x p) s = .next ((s).answer x 0x04 p
        (p.params.take p.len.toNat))) ∧
  (∀ (s : State) (x : TInst) (p : CmdPkt),
    s.takes x 0x11 p →
    exec (.getMode x p) s = .next ((s).answer x 0x11 p
        (bytesOf 1 s.mode ++ bytesOf 1 s.plumb.pendMode ++ bytesOf 2 s.plumb.running.modeCfg.2 ++
        bytesOf 1 s.plumb.running.modeCfg.1 ++ bytesOf 1 s.plumb.modeSrc))) ∧
  (∀ (s : State) (x : TInst) (p : CmdPkt),
    s.takes x 0x21 p →
    exec (.getPower x p) s = .next ((s).answer x 0x21 p
        (bytesOf 4 s.power.pkgPower ++ bytesOf 4 s.power.avail ++ bytesOf 2 s.power.capCfg ++
        bytesOf 2 (s.power.capEff / 1000) ++ bytesOf 4 s.power.vin ++ bytesOf 4 s.power.iin ++ (List.range 4).flatMap (fun f => bytesOf 4 (if f < frameCount s.mode ∧ s.inScope x f = true then s.framePower s.power.domPower f else 0)) ++
        (List.range 4).flatMap (fun f => bytesOf 2 (if f < frameCount s.mode ∧ s.inScope x f = true then (s.frame f).cap else 0))))) ∧
  (∀ (s : State) (x : TInst) (p : CmdPkt),
    s.takes x 0x25 p →
    p.byte 0 < 12 →
    s.inScope x (s.frameOfStud (p.byte 0)) = true →
    exec (.getThermalModel x p) s = .next ((s).answer x 0x25 p
        (bytesOf 4 (((s.stud (p.byte 0)).model.params (p.byte 0)).getD 0 0) ++ bytesOf 4 (((s.stud (p.byte 0)).model.params (p.byte 0)).getD 1 0) ++ bytesOf 4 (((s.stud (p.byte 0)).model.params (p.byte 0)).getD 2 0) ++
        bytesOf 4 (((s.stud (p.byte 0)).model.params (p.byte 0)).getD 3 0) ++ bytesOf 2 (s.stud (p.byte 0)).model.residual ++ bytesOf 4 (s.stud (p.byte 0)).model.age ++ tempField (s.stud (p.byte 0)).sense.tj ++ tempField (s.predict (p.byte 0) (s.stud (p.byte 0)).model (Tab.get s.power.domPower 0 (2 + p.byte 0)) s.power.duty (s.stud (p.byte 0)).sense.tj)))) ∧
  (∀ (s : State) (x : TInst) (p : CmdPkt) (n : Nat),
    s.takes x 0x25 p →
    p.byte 0 = 0xFF →
    (n < 12 ∧ (∀ k, k < 12 → (s.stud k).sense.tj ≤ (s.stud n).sense.tj)) →
    exec (.getThermalModel x p) s = .next ((s).answer x 0x25 p
        (bytesOf 4 ((s.power.pkgModel.params 12).getD 0 0) ++ bytesOf 4 ((s.power.pkgModel.params 12).getD 1 0) ++ bytesOf 4 ((s.power.pkgModel.params 12).getD 2 0) ++
        bytesOf 4 ((s.power.pkgModel.params 12).getD 3 0) ++ bytesOf 2 s.power.pkgModel.residual ++ bytesOf 4 s.power.pkgModel.age ++ tempField (s.stud n).sense.tj ++ tempField (s.predict 12 s.power.pkgModel s.power.pkgPower s.power.duty (s.stud n).sense.tj)))) ∧
  (∀ (s : State) (x : TInst) (p : CmdPkt),
    s.takes x 0x25 p →
    (12 ≤ p.byte 0 ∧ p.byte 0 < 0xFF) →
    exec (.getThermalModel x p) s = .next ((s).refuse x stRange 0x25 p 0)) ∧
  (∀ (s : State) (x : TInst) (p : CmdPkt),
    s.takes x 0x33 p →
    p.rsvdZero ([1, 2, 3, 10, 11]) →
    p.byte 0 = 1 →
    (1 ≤ p.le 8 2 ∧ p.le 8 2 ≤ 127) →
    exec (.getErrorLog x p) s = .next ((s).answer x 0x33 p
        (s.bySeq (s.log1 x) (p.le 4 4) (p.le 8 2)))) ∧
  (∀ (s : State) (x : TInst) (p : CmdPkt),
    s.takes x 0x33 p →
    p.rsvdZero ([1, 2, 3, 10, 11]) →
    p.byte 0 = 0 →
    (1 ≤ p.le 8 2 ∧ p.le 8 2 ≤ 127) →
    exec (.getErrorLog x p) s = .next ((s).answer x 0x33 p
        (bytesOf 4 (s.log0 x).length ++ bytesOf 4 (p.le 4 4 + (((s.log0 x).drop (p.le 4 4)).take (p.le 8 2)).length) ++ (((s.log0 x).drop (p.le 4 4)).take (p.le 8 2)).flatten))) ∧
  (∀ (s : State) (x : TInst) (p : CmdPkt),
    s.takes x 0x33 p →
    p.rsvdZero ([1, 2, 3, 10, 11]) →
    p.byte 0 = 2 →
    (1 ≤ p.le 8 2 ∧ p.le 8 2 ≤ 127) →
    exec (.getErrorLog x p) s = .next ((s).answer x 0x33 p
        (bytesOf 4 (s.log2 x).length ++ bytesOf 4 (p.le 4 4 + (((s.log2 x).drop (p.le 4 4)).take (p.le 8 2)).length) ++ (((s.log2 x).drop (p.le 4 4)).take (p.le 8 2)).flatten))) ∧
  (∀ (s : State) (x : TInst) (p : CmdPkt),
    s.takes x 0x33 p →
    p.rsvdZero ([1, 2, 3, 10, 11]) →
    p.byte 0 ≤ 2 →
    (p.le 8 2 = 0 ∨ 127 < p.le 8 2) →
    exec (.getErrorLog x p) s = .next ((s).refuse x stRange 0x33 p 8)) ∧
  (∀ (s : State) (x : TInst) (p : CmdPkt) (k i : Nat),
    s.takes x 0x52 p →
    p.rsvdZero ([10, 11]) →
    recOfId (p.le 0 4) = some (k, i) →
    s.recInScope x k i = true →
    (p.le 4 4 % 8 = 0 ∧ 8 ≤ p.le 8 2 ∧ p.le 8 2 ≤ 4096 ∧ p.le 8 2 % 8 = 0 ∧ p.le 4 4 + p.le 8 2 ≤ recSize k) →
    exec (.scribeRead x p) s = .next ((s).answer x 0x52 p
        ((((s.recOf k i).bytes k i).drop (p.le 4 4)).take (p.le 8 2)))) ∧
  (∀ (s : State) (x : TInst) (p : CmdPkt),
    s.takes x 0x52 p →
    p.rsvdZero ([10, 11]) →
    recOfId (p.le 0 4) = none →
    exec (.scribeRead x p) s = .next ((s).refuse x stRange 0x52 p 0)) ∧
  (∀ (s : State) (x : TInst) (p : CmdPkt) (k i : Nat),
    s.takes x 0x52 p →
    p.rsvdZero ([10, 11]) →
    recOfId (p.le 0 4) = some (k, i) →
    s.recInScope x k i = false →
    exec (.scribeRead x p) s = .next ((s).refuse x stDenied 0x52 p 0)) ∧
  (∀ (s : State) (x : TInst) (p : CmdPkt),
    s.takes x 0x60 p →
    p.rsvdZero (offs 2 8) →
    p.byte 0 = 0 →
    p.byte 1 < 12 →
    s.inScope x (s.frameOfStud (p.byte 1)) = true →
    exec (.linkStatus x p) s = .next ((s).answer x 0x60 p
        (bytesOf 8 (s.tenon (p.byte 1)).status.toNat ++ bytesOf 8 (s.tenon (p.byte 1)).up.retired ++ bytesOf 8 (s.tenon (p.byte 1)).dn.retired))) ∧
  (∀ (s : State) (x : TInst) (p : CmdPkt),
    s.takes x 0x60 p →
    p.rsvdZero (offs 2 8) →
    p.byte 0 = 1 →
    p.byte 1 < 8 →
    s.inScope x (s.frameOfPort (p.byte 1)) = true →
    exec (.linkStatus x p) s = .next ((s).answer x 0x60 p
        (bytesOf 8 (s.portRead (p.byte 1) 0x100).toNat ++ bytesOf 8 (s.portRead (p.byte 1) (if (s.port (p.byte 1)).pers = 4 then 0x118 else if (s.port (p.byte 1)).pers = 5 then 0x128 else 0x110)).toNat))) ∧
  (∀ (s : State) (x : TInst) (p : CmdPkt),
    s.takes x 0x60 p →
    p.rsvdZero (offs 2 8) →
    p.byte 0 ≤ 1 →
    (if p.byte 0 = 0 then 12 else 8) ≤ p.byte 1 →
    exec (.linkStatus x p) s = .next ((s).refuse x stRange 0x60 p 1)) ∧
  (∀ (s : State) (x : TInst) (p : CmdPkt),
    s.takes x 0x61 p →
    p.rsvdZero (offs 2 8) →
    p.byte 0 = 0 →
    p.byte 1 < 12 →
    s.inScope x (s.frameOfStud (p.byte 1)) = true →
    exec (.tenonMapReadOne x p) s = .next ((s).answer x 0x61 p
        ((s.tenon (p.byte 1)).record))) ∧
  (∀ (s : State) (x : TInst) (p : CmdPkt),
    s.takes x 0x61 p →
    p.rsvdZero (offs 1 8) →
    p.byte 0 = 1 →
    exec (.tenonMapReadAll x p) s = .next ((s).answer x 0x61 p
        (s.mapBytes))) ∧
  (∀ (s : State) (x : TInst) (p : CmdPkt),
    s.takes x 0x64 p →
    p.rsvdZero (offs 4 16) →
    p.byte 1 < frameCount s.mode →
    s.inScope x (p.byte 1) = true →
    (s.frame (p.byte 1)).node = true →
    p.byte 0 = 2 →
    p.le 2 2 < 4096 →
    exec (.ridgeExportRead x p) s = .next ((s).answer x 0x64 p
        (bytesOf 8 (Tab.get (s.frame (p.byte 1)).exports 0 (p.le 2 2)).toNat))) ∧
  (∀ (s : State) (x : TInst) (p : CmdPkt),
    s.takes x 0x61 p →
    2 < p.byte 0 →
    exec (.tenonMapReadOne x p) s = .next ((s).refuse x stRange 0x61 p 0)) ∧
  (∀ (s : State) (x : TInst) (p : CmdPkt),
    (p.byte 0 ≠ 0 ∧ p.byte 0 ≤ 2) →
    exec (.tenonMapReadOne x p) s = .next s) ∧
  (∀ (s : State) (x : TInst) (p : CmdPkt),
    p.byte 0 ≠ 1 →
    exec (.tenonMapReadAll x p) s = .next s) ∧
  (∀ (s : State) (x : TInst) (p : CmdPkt),
    p.byte 0 ≠ 2 →
    exec (.tenonMapClear x p) s = .next s) ∧
  (∀ (s : State) (x : TInst) (p : CmdPkt),
    s.takes x 0x64 p →
    3 < p.byte 0 →
    p.byte 1 < frameCount s.mode →
    s.inScope x (p.byte 1) = true →
    (s.frame (p.byte 1)).node = true →
    exec (.ridgeExportWrite x p) s = .next ((s).refuse x stRange 0x64 p 0)) ∧
  (∀ (s : State) (x : TInst) (p : CmdPkt),
    (p.byte 0 ≠ 0 ∧ p.byte 0 ≤ 3) →
    exec (.ridgeExportWrite x p) s = .next s) ∧
  (∀ (s : State) (x : TInst) (p : CmdPkt),
    p.byte 0 ≠ 1 →
    exec (.ridgeExportClear x p) s = .next s) ∧
  (∀ (s : State) (x : TInst) (p : CmdPkt),
    p.byte 0 ≠ 2 →
    exec (.ridgeExportRead x p) s = .next s) ∧
  (∀ (s : State) (x : TInst) (p : CmdPkt),
    p.byte 0 ≠ 3 →
    exec (.ridgeExportClearAll x p) s = .next s)

/-- A short command that passes its checks, on any transport instance, and waits for no earlier command, is answered OK and sets: SET_POWER_CAP the package's or a frame's cap; SET_PERF_POLICY the policy of a stud or of every stud in scope; SET_COOLING the fan mode, duty and outlet limit, and drives a fixed duty unless the fallback stands; INJECT_ERROR an error planted in a line's stored word, in a bay, L2 or L1D line or a directory entry that is held, in a wire's count or on a port, and answers 1 where the line is not resident; BAY_UNLOCK no locks in the bays named; SCRIBE_FREEZE and THAW the freeze; SCRIBE_CLEAR a record, or every record and the counts; TENON_REPAIR_MAP an empty record of a stud whose link is down; RIDGE_EXPORT the entry, no entry, or no entries. A parameter out of range is refused with its offset, a command outside its scope with DENIED, and a freeze of frozen records with BUSY, and nothing is set. -/
def Obligations.PlumbSettings : Prop :=
  (∀ (s : State) (x : TInst) (p : CmdPkt),
    s.takes x 0x20 p →
    p.rsvdZero ([2, 3, 6, 7]) →
    s.scopeOf x = none →
    p.byte 0 = 0 →
    p.byte 1 = 0 →
    (400 ≤ p.le 4 2 ∧ p.le 4 2 ≤ 800) →
    RunsTo (exec (.setPowerCap x p) s) fun u => u.asIn (s.answer x 0x20 p ([])) ∧
      u.power.capCfg = p.le 4 2 ∧ (∀ f, (u.frame f).cap = (s.frame f).cap) ∧ (∀ n, (u.stud n).policy = (s.stud n).policy ∧ (u.stud n).fixedMhz = (s.stud n).fixedMhz)) ∧
  (∀ (s : State) (x : TInst) (p : CmdPkt),
    s.takes x 0x20 p →
    p.rsvdZero ([2, 3, 6, 7]) →
    p.byte 0 = 1 →
    (p.byte 1 < frameCount s.mode ∧ s.inScope x (p.byte 1) = true) →
    (p.le 4 2 = 0 ∨ 100 ≤ p.le 4 2 ∧ p.le 4 2 ≤ 800) →
    RunsTo (exec (.setPowerCap x p) s) fun u => u.asIn (s.answer x 0x20 p ([])) ∧
      (u.frame (p.byte 1)).cap = p.le 4 2 ∧ u.power.capCfg = s.power.capCfg ∧ (∀ f, f ≠ p.byte 1 → (u.frame f).cap = (s.frame f).cap) ∧ (∀ n, (u.stud n).policy = (s.stud n).policy ∧ (u.stud n).fixedMhz = (s.stud n).fixedMhz)) ∧
  (∀ (s : State) (x : TInst) (p : CmdPkt),
    s.takes x 0x20 p →
    p.rsvdZero ([2, 3, 6, 7]) →
    s.scopeOf x = none →
    p.byte 0 = 0 →
    p.byte 1 = 0 →
    (p.le 4 2 < 400 ∨ 800 < p.le 4 2) →
    exec (.setPowerCap x p) s = .next ((s).refuse x stRange 0x20 p 4)) ∧
  (∀ (s : State) (x : TInst) (p : CmdPkt),
    s.takes x 0x20 p →
    s.scopeOf x ≠ none →
    p.byte 0 = 0 →
    exec (.setPowerCap x p) s = .next ((s).refuse x stDenied 0x20 p 0)) ∧
  (∀ (s : State) (x : TInst) (p : CmdPkt),
    s.takes x 0x20 p →
    p.byte 0 = 1 →
    s.inScope x (p.byte 1) = false →
    exec (.setPowerCap x p) s = .next ((s).refuse x stDenied 0x20 p 0)) ∧
  (∀ (s : State) (x : TInst) (p : CmdPkt),
    s.takes x 0x23 p →
    (p.byte 0 < 12 ∧ s.inScope x (s.frameOfStud (p.byte 0)) = false) →
    exec (.setPerfPolicy x p) s = .next ((s).refuse x stDenied 0x23 p 0)) ∧
  (∀ (s : State) (x : TInst) (p : CmdPkt),
    (s.canReach x = true ∧ s.takeCheck x 0x24 p = none ∧ (s.newJob x 0x24 p).behind s.plumb.jobs = false) →
    s.plumb.recovery = false →
    s.scopeOf x ≠ none →
    (∀ k ∈ s.plumb.jobs, k.no < s.nextNo) →
    exec (.setCooling x p) s = .next (s.refuse x stDenied 0x24 p 0)) ∧
  (∀ (s : State) (x : TInst) (p : CmdPkt),
    (s.canReach x = true ∧ s.takeCheck x 0x50 p = none ∧ (s.newJob x 0x50 p).behind s.plumb.jobs = false) →
    s.plumb.recovery = false →
    s.scopeOf x ≠ none →
    (∀ k ∈ s.plumb.jobs, k.no < s.nextNo) →
    exec (.scribeFreeze x p) s = .next (s.refuse x stDenied 0x50 p 0)) ∧
  (∀ (s : State) (x : TInst) (p : CmdPkt),
    (s.canReach x = true ∧ s.takeCheck x 0x51 p = none ∧ (s.newJob x 0x51 p).behind s.plumb.jobs = false) →
    s.plumb.recovery = false →
    s.scopeOf x ≠ none →
    (∀ k ∈ s.plumb.jobs, k.no < s.nextNo) →
    exec (.scribeThaw x p) s = .next (s.refuse x stDenied 0x51 p 0)) ∧
  (∀ (s : State) (x : TInst) (p : CmdPkt),
    (s.canReach x = true ∧ s.takeCheck x 0x53 p = none ∧ (s.newJob x 0x53 p).behind s.plumb.jobs = false) →
    s.plumb.recovery = false →
    s.scopeOf x ≠ none →
    (∀ k ∈ s.plumb.jobs, k.no < s.nextNo) →
    exec (.scribeClear x p) s = .next (s.refuse x stDenied 0x53 p 0)) ∧
  (∀ (s : State) (x : TInst) (p : CmdPkt),
    (s.canReach x = true ∧ s.takeCheck x 0x54 p = none ∧ (s.newJob x 0x54 p).behind s.plumb.jobs = false) →
    s.plumb.recovery = false →
    s.scopeOf x ≠ none →
    (∀ k ∈ s.plumb.jobs, k.no < s.nextNo) →
    exec (.scribeFlush x p) s = .next (s.refuse x stDenied 0x54 p 0)) ∧
  (∀ (s : State) (x : TInst) (p : CmdPkt),
    s.takes x 0x23 p →
    p.rsvdZero (offs 4 8) →
    (p.byte 0 < 12 ∧ s.inScope x (s.frameOfStud (p.byte 0)) = true) →
    p.byte 1 ≤ 3 →
    ((if p.byte 1 = 3 then 800 ≤ p.le 2 2 ∧ p.le 2 2 ≤ 3600 ∧ p.le 2 2 % 100 = 0 else p.le 2 2 = 0)) →
    RunsTo (exec (.setPerfPolicy x p) s) fun u => u.asIn (s.answer x 0x23 p ([])) ∧
      (u.stud (p.byte 0)).policy = p.byte 1 ∧ (u.stud (p.byte 0)).fixedMhz = p.le 2 2 ∧ (∀ n, n ≠ p.byte 0 → (u.stud n).policy = (s.stud n).policy ∧ (u.stud n).fixedMhz = (s.stud n).fixedMhz) ∧ u.power.capCfg = s.power.capCfg ∧ (∀ f, (u.frame f).cap = (s.frame f).cap)) ∧
  (∀ (s : State) (x : TInst) (p : CmdPkt),
    s.takes x 0x23 p →
    p.rsvdZero (offs 4 8) →
    p.byte 0 = 0xFF →
    p.byte 1 ≤ 3 →
    ((if p.byte 1 = 3 then 800 ≤ p.le 2 2 ∧ p.le 2 2 ≤ 3600 ∧ p.le 2 2 % 100 = 0 else p.le 2 2 = 0)) →
    RunsTo (exec (.setPerfPolicy x p) s) fun u => u.asIn (s.answer x 0x23 p ([])) ∧
      (∀ n, n < 12 → if s.inScope x (s.frameOfStud n) = true then (u.stud n).policy = p.byte 1 ∧ (u.stud n).fixedMhz = p.le 2 2 else (u.stud n).policy = (s.stud n).policy ∧ (u.stud n).fixedMhz = (s.stud n).fixedMhz) ∧ u.power.capCfg = s.power.capCfg ∧ (∀ f, (u.frame f).cap = (s.frame f).cap)) ∧
  (∀ (s : State) (x : TInst) (p : CmdPkt),
    s.takes x 0x23 p →
    p.rsvdZero (offs 4 8) →
    (12 ≤ p.byte 0 ∧ p.byte 0 < 0xFF) →
    p.byte 1 ≤ 3 →
    exec (.setPerfPolicy x p) s = .next ((s).refuse x stRange 0x23 p 0)) ∧
  (∀ (s : State) (x : TInst) (p : CmdPkt),
    s.takes x 0x24 p →
    p.rsvdZero (offs 4 8) →
    (p.byte 0 = 1 ∧ 20 ≤ p.byte 1 ∧ p.byte 1 ≤ 100 ∨ p.byte 0 = 0 ∧ p.byte 1 = 0) →
    (300 ≤ p.le 2 2 ∧ p.le 2 2 ≤ 700) →
    exec (.setCooling x p) s = .next (({ s with power := { s.power with coolMode := p.byte 0, fixedDuty := p.byte 1, limit := p.le 2 2, duty := if p.byte 0 = 1 ∧ s.power.fallback = false then 2 * p.byte 1 else s.power.duty } }).answer x 0x24 p
        ([]))) ∧
  (∀ (s : State) (x : TInst) (p : CmdPkt),
    s.takes x 0x24 p →
    p.rsvdZero (offs 4 8) →
    (p.byte 0 = 1 ∧ (p.byte 1 < 20 ∨ 100 < p.byte 1) ∨ p.byte 0 = 0 ∧ p.byte 1 ≠ 0) →
    exec (.setCooling x p) s = .next ((s).refuse x stRange 0x24 p 1)) ∧
  (∀ (s : State) (x : TInst) (p : CmdPkt) (f c l : Nat),
    s.takes x 0x31 p →
    (p.byte 0 = 0 ∧ p.byte 1 ≤ 1 ∧ p.le 4 4 ≤ 9) →
    p.byte 2 = 0 →
    s.tframe x (p.byte 3) = (stOk, f) →
    s.ownBase f ≤ p.le 8 8 →
    (s.frame f).holdsDram (p.le 8 8 - s.ownBase f) = true →
    s.place f ((p.le 8 8 - s.ownBase f) / 64 * 64) = .chan c l →
    exec (.injectError x p) s = .next (({ s with memBad := Tab.set s.memBad (keyChan c l) (1 + 10 * p.byte 1 + p.le 4 4) }).answer x 0x31 p
        ([0]))) ∧
  (∀ (s : State) (x : TInst) (p : CmdPkt) (f : Nat),
    s.takes x 0x31 p →
    (p.byte 0 = 0 ∧ p.byte 1 = 2 ∧ p.le 4 4 = 0) →
    p.byte 2 = 0 →
    s.tframe x (p.byte 3) = (stOk, f) →
    s.ownBase f ≤ p.le 8 8 →
    (s.frame f).holdsDram (p.le 8 8 - s.ownBase f) = true →
    exec (.injectError x p) s = .next ((s.setMemLine (s.dramKey f ((p.le 8 8 - s.ownBase f) / 64 * 64)) (s.memLine (s.dramKey f ((p.le 8 8 - s.ownBase f) / 64 * 64))).1 true).answer x 0x31 p
        ([0]))) ∧
  (∀ (s : State) (x : TInst) (p : CmdPkt) (f k : Nat) (e : BayLine),
    s.takes x 0x31 p →
    (p.byte 0 = 1 ∧ p.byte 1 ≤ 1 ∧ p.le 4 4 = 0) →
    p.byte 2 = 0 →
    s.tframe x (p.byte 3) = (stOk, f) →
    s.ownBase f ≤ p.le 8 8 →
    (s.frame f).holdsDram (p.le 8 8 - s.ownBase f) = true →
    s.bayFind (homeBay s.mode f ((p.le 8 8 - s.ownBase f) / 64 * 64)) (((p.le 8 8 - s.ownBase f) / 64 * 64) / 64) = some (k, e) →
    exec (.injectError x p) s = .next ((s.setHome (homeBay s.mode f ((p.le 8 8 - s.ownBase f) / 64 * 64)) { s.home (homeBay s.mode f ((p.le 8 8 - s.ownBase f) / 64 * 64)) with cache := Tab.set (s.home (homeBay s.mode f ((p.le 8 8 - s.ownBase f) / 64 * 64))).cache k { e with bad := 1 + p.byte 1 } }).answer x 0x31 p
        ([0]))) ∧
  (∀ (s : State) (x : TInst) (p : CmdPkt) (f : Nat),
    s.takes x 0x31 p →
    (p.byte 0 = 1 ∧ p.byte 1 ≤ 1 ∧ p.le 4 4 = 0) →
    p.byte 2 = 0 →
    s.tframe x (p.byte 3) = (stOk, f) →
    s.ownBase f ≤ p.le 8 8 →
    (s.frame f).holdsDram (p.le 8 8 - s.ownBase f) = true →
    s.bayFind (homeBay s.mode f ((p.le 8 8 - s.ownBase f) / 64 * 64)) (((p.le 8 8 - s.ownBase f) / 64 * 64) / 64) = none →
    exec (.injectError x p) s = .next ((s).answer x 0x31 p
        ([1]))) ∧
  (∀ (s : State) (x : TInst) (p : CmdPkt) (f c : Nat),
    s.takes x 0x31 p →
    (p.byte 0 = 2 ∧ p.byte 1 ≤ 1) →
    p.byte 2 = 0 →
    s.tframe x (p.byte 3) = (stOk, f) →
    s.ownBase f ≤ p.le 8 8 →
    (s.frame f).holdsDram (p.le 8 8 - s.ownBase f) = true →
    (s.coreOfHart f (p.le 4 4) = some c ∧ p.le 4 4 < 4096) →
    ((s.core c).pipe.find2 (p.le 8 8 / 64)).isSome = true →
    exec (.injectError x p) s = .next ((s.setCore c { s.core c with pipe := { (s.core c).pipe with l2bad := Tab.set (s.core c).pipe.l2bad (p.le 8 8 / 64) (1 + p.byte 1) } }).answer x 0x31 p
        ([0]))) ∧
  (∀ (s : State) (x : TInst) (p : CmdPkt) (f c : Nat),
    s.takes x 0x31 p →
    (p.byte 0 = 3 ∧ p.byte 1 = 3) →
    p.byte 2 = 0 →
    s.tframe x (p.byte 3) = (stOk, f) →
    s.ownBase f ≤ p.le 8 8 →
    (s.frame f).holdsDram (p.le 8 8 - s.ownBase f) = true →
    (s.coreOfHart f (p.le 4 4) = some c ∧ p.le 4 4 < 4096) →
    (s.core c).pipe.l1d.contains (p.le 8 8 / 64) = true →
    exec (.injectError x p) s = .next ((s.setCore c { s.core c with pipe := { (s.core c).pipe with l1bad := listAdd (s.core c).pipe.l1bad (p.le 8 8 / 64) } }).answer x 0x31 p
        ([0]))) ∧
  (∀ (s : State) (x : TInst) (p : CmdPkt) (f c : Nat),
    s.takes x 0x31 p →
    (p.byte 0 = 2 ∧ p.byte 1 ≤ 1 ∨ p.byte 0 = 3 ∧ p.byte 1 = 3) →
    p.byte 2 = 0 →
    s.tframe x (p.byte 3) = (stOk, f) →
    s.ownBase f ≤ p.le 8 8 →
    (s.frame f).holdsDram (p.le 8 8 - s.ownBase f) = true →
    (s.coreOfHart f (p.le 4 4) = some c ∧ p.le 4 4 < 4096) →
    (((s.core c).pipe.find2 (p.le 8 8 / 64)).isSome = false ∧ (s.core c).pipe.l1d.contains (p.le 8 8 / 64) = false) →
    exec (.injectError x p) s = .next ((s).answer x 0x31 p
        ([1]))) ∧
  (∀ (s : State) (x : TInst) (p : CmdPkt) (f k : Nat) (e : DirEnt),
    s.takes x 0x31 p →
    (p.byte 0 = 4 ∧ p.byte 1 = 1 ∧ p.le 4 4 = 0) →
    s.scopeOf x = none →
    p.byte 2 = 0 →
    s.tframe x (p.byte 3) = (stOk, f) →
    s.ownBase f ≤ p.le 8 8 →
    (s.frame f).holdsDram (p.le 8 8 - s.ownBase f) = true →
    s.dirFind (homeBay s.mode f ((p.le 8 8 - s.ownBase f) / 64 * 64)) (((p.le 8 8 - s.ownBase f) / 64 * 64) / 64) = some (k, e) →
    exec (.injectError x p) s = .next ((s.setHome (homeBay s.mode f ((p.le 8 8 - s.ownBase f) / 64 * 64)) ((s.home (homeBay s.mode f ((p.le 8 8 - s.ownBase f) / 64 * 64))).setDir k { e with bad := true })).answer x 0x31 p
        ([0]))) ∧
  (∀ (s : State) (x : TInst) (p : CmdPkt),
    s.takes x 0x31 p →
    (p.byte 0 = 6 ∧ p.byte 1 = 5 ∧ p.byte 2 = 0 ∧ p.byte 3 = 0) →
    (p.le 4 4 < 8 ∧ s.inScope x (s.frameOfPort (p.le 4 4)) = true) →
    p.le 8 8 = 0 →
    exec (.injectError x p) s = .next ((s.setPort (p.le 4 4) { s.port (p.le 4 4) with corrupt := (s.port (p.le 4 4)).corrupt + 1 }).answer x 0x31 p
        ([0]))) ∧
  (∀ (s : State) (x : TInst) (p : CmdPkt),
    s.takes x 0x31 p →
    (p.byte 0 = 5 ∧ p.byte 1 = 4 ∧ p.byte 2 ≠ 0 ∧ p.byte 3 = 0) →
    s.scopeOf x = none →
    (p.le 4 4 / 2 ^ 16 < 12 ∧ p.le 4 4 < 2 ^ 20) →
    (bitOf (p.le 4 4) 14 = false ∧ bitOf (p.le 4 4) 7 = false ∧ (p.le 4 4 % 128 ≤ 73 ∨ p.le 4 4 % 128 = 75)) →
    p.le 8 8 = 0 →
    exec (.injectError x p) s = .next ((s.tenonCounts (p.le 4 4 / 2 ^ 16) (if bitOf (p.le 4 4) 15 then .dn else .up) (p.le 4 4 / 2 ^ 8 % 64) 0 [(p.le 4 4 % 128, p.byte 2)]).answer x 0x31 p
        ([0]))) ∧
  (∀ (s : State) (x : TInst) (p : CmdPkt),
    s.takes x 0x31 p →
    (p.byte 0 = 0 ∧ p.byte 1 ≤ 1) →
    (p.byte 2 = 0 ∧ p.byte 3 = 0) →
    s.tframe x 0 = (stOk, 0) →
    9 < p.le 4 4 →
    exec (.injectError x p) s = .next ((s).refuse x stRange 0x31 p 4)) ∧
  (∀ (s : State) (x : TInst) (p : CmdPkt) (b0 : Nat),
    s.takes x 0x41 p →
    p.rsvdZero (offs 2 8) →
    (p.le 0 2 ≠ 0 ∧ p.le 0 2 < 2 ^ 12) →
    (maskBays (p.le 0 2)).all (fun b => s.inScope x (s.frameOfStud b) && s.frameOfStud b == s.frameOfStud b0) = true →
    exec (.bayUnlock x p) s = .next (((maskBays (p.le 0 2)).foldl (fun u b => u.setHome b { s.home b with lockW := 0, locked := [] }) s).answer x 0x41 p [])) ∧
  (∀ (s : State) (x : TInst) (p : CmdPkt),
    s.takes x 0x41 p →
    p.rsvdZero (offs 2 8) →
    p.le 0 2 = 0 →
    exec (.bayUnlock x p) s = .next ((s).refuse x stRange 0x41 p 0)) ∧
  (∀ (s : State) (x : TInst) (p : CmdPkt),
    s.takes x 0x50 p →
    p.rsvdZero (offs 2 8) →
    (1 ≤ p.le 0 2 ∧ p.le 0 2 ≤ 250) →
    s.scribe.frozen = false →
    RunsTo (exec (.scribeFreeze x p) s) fun u => u.asIn (s.answer x 0x50 p ([])) ∧
      u.scribe.frozen = true ∧ (u.recOf 0x40 0).bin 0x40 13 = min (2 ^ 64 - 1) ((s.recOf 0x40 0).bin 0x40 13 + 1) ∧ (∀ n, (u.core n).regs.x = (s.core n).regs.x)) ∧
  (∀ (s : State) (x : TInst) (p : CmdPkt),
    s.takes x 0x50 p →
    p.rsvdZero (offs 2 8) →
    (1 ≤ p.le 0 2 ∧ p.le 0 2 ≤ 250) →
    s.scribe.frozen = true →
    exec (.scribeFreeze x p) s = .next ((s).refuse x stBusy 0x50 p 0)) ∧
  (∀ (s : State) (x : TInst) (p : CmdPkt),
    s.takes x 0x51 p →
    exec (.scribeThaw x p) s = .next (({ s with scribe := { s.scribe with frozen := false } }).answer x 0x51 p
        ([]))) ∧
  (∀ (s : State) (x : TInst) (p : CmdPkt) (k i : Nat),
    s.takes x 0x53 p →
    recOfId (p.le 0 4) = some (k, i) →
    p.le 0 4 ≠ 0xFFFFFFFF →
    exec (.scribeClear x p) s = .next ((s.setRec k i { s.recOf k i with bins := [], samples := 0, missed := 0, clr := s.stamp }).answer x 0x53 p
        ([]))) ∧
  (∀ (s : State) (x : TInst) (p : CmdPkt),
    s.takes x 0x53 p →
    p.le 0 4 = 0xFFFFFFFF →
    RunsTo (exec (.scribeClear x p) s) fun u => u.asIn (s.answer x 0x53 p ([])) ∧
      u.scribe.counts = [] ∧ u.scribe.log = s.scribe.log ∧ u.scribe.frozen = s.scribe.frozen ∧ (∀ e ∈ allRecs, (u.recOf e.1 e.2).bins = [] ∧ (u.recOf e.1 e.2).samples = 0)) ∧
  (∀ (s : State) (x : TInst) (p : CmdPkt),
    s.takes x 0x53 p →
    p.le 0 4 ≠ 0xFFFFFFFF →
    recOfId (p.le 0 4) = none →
    exec (.scribeClear x p) s = .next ((s).refuse x stRange 0x53 p 0)) ∧
  (∀ (s : State) (x : TInst) (p : CmdPkt),
    s.takes x 0x61 p →
    p.rsvdZero (offs 2 8) →
    p.byte 0 = 2 →
    s.scopeOf x = none →
    p.byte 1 < 12 →
    ((s.tenon (p.byte 1)).st = 0 ∨ (s.tenon (p.byte 1)).st = 4) →
    exec (.tenonMapClear x p) s = .next (({ s.setTenon (p.byte 1) { s.tenon (p.byte 1) with up := { (s.tenon (p.byte 1)).up with retired := 0, spare := [] }, dn := { (s.tenon (p.byte 1)).dn with retired := 0, spare := [] } } with plumb := { s.plumb with mapDirty := true } }).answer x 0x61 p
        ([]))) ∧
  (∀ (s : State) (x : TInst) (p : CmdPkt),
    s.takes x 0x61 p →
    p.byte 0 = 2 →
    (s.scopeOf x ≠ none ∨ p.byte 1 < 12 ∧ (s.tenon (p.byte 1)).st ≠ 0 ∧ (s.tenon (p.byte 1)).st ≠ 4) →
    exec (.tenonMapClear x p) s = .next ((s).refuse x stDenied 0x61 p 0)) ∧
  (∀ (s : State) (x : TInst) (p : CmdPkt),
    s.takes x 0x64 p →
    p.rsvdZero (offs 4 8) →
    p.byte 1 < frameCount s.mode →
    s.inScope x (p.byte 1) = true →
    (s.frame (p.byte 1)).node = true →
    p.byte 0 = 0 →
    s.ridgeBusy (p.byte 1) = false →
    p.le 2 2 < 4096 →
    s.exportOk (p.byte 1) (BitVec.ofNat 64 (p.le 8 8)) = true →
    exec (.ridgeExportWrite x p) s = .next ((s.setFrame (p.byte 1) { s.frame (p.byte 1) with exports := Tab.put (s.frame (p.byte 1)).exports 0 (p.le 2 2) (BitVec.ofNat 64 (p.le 8 8)) }).answer x 0x64 p
        ([]))) ∧
  (∀ (s : State) (x : TInst) (p : CmdPkt),
    s.takes x 0x64 p →
    p.rsvdZero (offs 4 8) →
    p.byte 1 < frameCount s.mode →
    s.inScope x (p.byte 1) = true →
    (s.frame (p.byte 1)).node = true →
    p.byte 0 = 1 →
    s.ridgeBusy (p.byte 1) = false →
    p.le 2 2 < 4096 →
    p.le 8 8 = 0 →
    exec (.ridgeExportClear x p) s = .next ((s.setFrame (p.byte 1) { s.frame (p.byte 1) with exports := Tab.put (s.frame (p.byte 1)).exports 0 (p.le 2 2) 0 }).answer x 0x64 p
        ([]))) ∧
  (∀ (s : State) (x : TInst) (p : CmdPkt),
    s.takes x 0x64 p →
    p.rsvdZero (offs 4 8) →
    p.byte 1 < frameCount s.mode →
    s.inScope x (p.byte 1) = true →
    (s.frame (p.byte 1)).node = true →
    p.byte 0 = 3 →
    s.ridgeBusy (p.byte 1) = false →
    p.le 2 2 = 0 →
    p.le 8 8 = 0 →
    exec (.ridgeExportClearAll x p) s = .next ((s.setFrame (p.byte 1) { s.frame (p.byte 1) with exports := [] }).answer x 0x64 p
        ([]))) ∧
  (∀ (s : State) (x : TInst) (p : CmdPkt),
    s.takes x 0x64 p →
    p.rsvdZero (offs 4 8) →
    p.byte 1 < frameCount s.mode →
    s.inScope x (p.byte 1) = true →
    (s.frame (p.byte 1)).node = true →
    p.byte 0 = 0 →
    s.ridgeBusy (p.byte 1) = true →
    p.le 2 2 < 4096 →
    s.exportOk (p.byte 1) (BitVec.ofNat 64 (p.le 8 8)) = true →
    exec (.ridgeExportWrite x p) s = .next ({ s.setFrame (p.byte 1) { s.frame (p.byte 1) with exports := Tab.put (s.frame (p.byte 1)).exports 0 (p.le 2 2) (BitVec.ofNat 64 (p.le 8 8)) } with plumb := { s.plumb with jobs := s.plumb.jobs ++ [{ s.newJob x 0x64 p with running := true }] } })) ∧
  (∀ (s : State) (x : TInst) (p : CmdPkt),
    s.takes x 0x64 p →
    p.byte 0 = 0 →
    s.inScope x (p.byte 1) = true →
    (p.byte 1 < frameCount s.mode ∧ (s.frame (p.byte 1)).node = false) →
    exec (.ridgeExportWrite x p) s = .next ((s).refuse x stWrongMode 0x64 p 0)) ∧
  (∀ (s : State) (x : TInst) (p : CmdPkt),
    s.takes x 0x64 p →
    p.byte 0 = 0 →
    s.inScope x (p.byte 1) = true →
    frameCount s.mode ≤ p.byte 1 →
    exec (.ridgeExportWrite x p) s = .next ((s).refuse x stRange 0x64 p 1)) ∧
  (∀ (s : State) (x : TInst) (p : CmdPkt),
    s.takes x 0x64 p →
    p.byte 0 = 0 →
    s.inScope x (p.byte 1) = false →
    exec (.ridgeExportWrite x p) s = .next ((s).refuse x stDenied 0x64 p 0)) ∧
  (∀ (s : State) (x : TInst) (p : CmdPkt),
    s.takes x 0x64 p →
    p.byte 0 = 1 →
    s.inScope x (p.byte 1) = true →
    (p.byte 1 < frameCount s.mode ∧ (s.frame (p.byte 1)).node = false) →
    exec (.ridgeExportClear x p) s = .next ((s).refuse x stWrongMode 0x64 p 0)) ∧
  (∀ (s : State) (x : TInst) (p : CmdPkt),
    s.takes x 0x64 p →
    p.byte 0 = 1 →
    s.inScope x (p.byte 1) = true →
    frameCount s.mode ≤ p.byte 1 →
    exec (.ridgeExportClear x p) s = .next ((s).refuse x stRange 0x64 p 1)) ∧
  (∀ (s : State) (x : TInst) (p : CmdPkt),
    s.takes x 0x64 p →
    p.byte 0 = 1 →
    s.inScope x (p.byte 1) = false →
    exec (.ridgeExportClear x p) s = .next ((s).refuse x stDenied 0x64 p 0)) ∧
  (∀ (s : State) (x : TInst) (p : CmdPkt),
    s.takes x 0x64 p →
    p.byte 0 = 2 →
    s.inScope x (p.byte 1) = true →
    (p.byte 1 < frameCount s.mode ∧ (s.frame (p.byte 1)).node = false) →
    exec (.ridgeExportRead x p) s = .next ((s).refuse x stWrongMode 0x64 p 0)) ∧
  (∀ (s : State) (x : TInst) (p : CmdPkt),
    s.takes x 0x64 p →
    p.byte 0 = 2 →
    s.inScope x (p.byte 1) = true →
    frameCount s.mode ≤ p.byte 1 →
    exec (.ridgeExportRead x p) s = .next ((s).refuse x stRange 0x64 p 1)) ∧
  (∀ (s : State) (x : TInst) (p : CmdPkt),
    s.takes x 0x64 p →
    p.byte 0 = 2 →
    s.inScope x (p.byte 1) = false →
    exec (.ridgeExportRead x p) s = .next ((s).refuse x stDenied 0x64 p 0)) ∧
  (∀ (s : State) (x : TInst) (p : CmdPkt),
    s.takes x 0x64 p →
    p.byte 0 = 3 →
    s.inScope x (p.byte 1) = true →
    (p.byte 1 < frameCount s.mode ∧ (s.frame (p.byte 1)).node = false) →
    exec (.ridgeExportClearAll x p) s = .next ((s).refuse x stWrongMode 0x64 p 0)) ∧
  (∀ (s : State) (x : TInst) (p : CmdPkt),
    s.takes x 0x64 p →
    p.byte 0 = 3 →
    s.inScope x (p.byte 1) = true →
    frameCount s.mode ≤ p.byte 1 →
    exec (.ridgeExportClearAll x p) s = .next ((s).refuse x stRange 0x64 p 1)) ∧
  (∀ (s : State) (x : TInst) (p : CmdPkt),
    s.takes x 0x64 p →
    p.byte 0 = 3 →
    s.inScope x (p.byte 1) = false →
    exec (.ridgeExportClearAll x p) s = .next ((s).refuse x stDenied 0x64 p 0))

/-- A long command that passes the checks of R321 and its own, on any transport instance, and waits for no earlier command, is answered ACCEPTED and runs until its final reply. Until then SET_MODE, SET_DOMAIN_STATE of anything but a bay, SCRUB_RANGE, MEM_TRAIN_SAVE, PORT_PERSONALITY, FW_CHUNK, FW_COMMIT and ATTEST change nothing else; LINK_RETRAIN sets the link training or Retrain Link; the bay commands begin their work on the bays' arrays and show CMD_BUSY there, BENCH_CONFIG turns bench accesses away, CHECKER_SELFTEST marks its stud, SCRIBE_FLUSH starts a flush, FW_BEGIN opens the session; FRAME_RESET resets its frame, keeping DRAM, and STUD_RESET its stud. A command whose own checks fail is answered with the status of its table, and one whose bay or channel another command works on waits for it, answered ACCEPTED. -/
def Obligations.PlumbLongCommandsStart : Prop :=
  (∀ (s : State) (x : TInst) (p : CmdPkt),
    s.takes x 0x10 p →
    p.rsvdZero (offs 1 8) →
    s.scopeOf x = none →
    p.byte 0 ≤ 11 →
    bitOf s.plumb.running.modeCfg.2 (p.byte 0) = true →
    s.modeFits (p.byte 0) = true →
    exec (.setMode x p) s = .next ((s.startedAs x 0x10 p))) ∧
  (∀ (s : State) (x : TInst) (p : CmdPkt),
    s.takes x 0x10 p →
    p.rsvdZero (offs 1 8) →
    (s.scopeOf x ≠ none ∨ bitOf s.plumb.running.modeCfg.2 (p.byte 0) = false) →
    p.byte 0 ≤ 11 →
    (x.kind = .mctp ∨ ((x.kind = .ring ∧ ((s.frame x.inst).ring.cfg.getLsbD 1 = false)))) →
    RunsTo (exec (.setMode x p) s) fun u => u.plumb.jobs = s.plumb.jobs ∧ u.plumb.pendMode = s.plumb.pendMode ∧ u.plumb.flash = s.plumb.flash ∧
      (x.kind = .mctp → u.plumb.mctpOut = s.plumb.mctpOut ++ [(false, vdmHead ++ replyPacket stAccepted 0x10 p.tag.toNat p.seq.toNat 0 []), (true, vdmHead ++ replyPacket stDenied 0x10 p.tag.toNat p.seq.toNat 0 [])])) ∧
  (∀ (s : State) (x : TInst) (p : CmdPkt),
    s.takes x 0x22 p →
    p.rsvdZero (offs 3 8) →
    (p.byte 0 < 14 ∧ 2 ≤ p.byte 0 ∧ p.byte 1 = 0 ∨ 26 ≤ p.byte 0 ∧ p.byte 0 < 28 ∧ p.byte 1 ≤ 1 ∨ 28 ≤ p.byte 0 ∧ p.byte 0 < 30 ∧ p.byte 1 = 0 ∨ p.byte 0 = 31 ∧ p.byte 1 = 2 ∧ s.scopeOf x = none) →
    p.byte 2 = 0xFF →
    (s.scopeOf x = none ∨ (s.domHolders (p.byte 0)).contains ((s.scopeOf x).getD 0) = true) →
    exec (.setDomainState x p) s = .next ((s.startedAs x 0x22 p))) ∧
  (∀ (s : State) (x : TInst) (p : CmdPkt),
    s.takes x 0x22 p →
    p.rsvdZero (offs 3 8) →
    (2 ≤ p.byte 0 ∧ p.byte 0 < 14 ∧ p.byte 1 = 2) →
    s.allDeep (p.byte 0 - 2) = true →
    p.byte 2 = 0xFF →
    (s.scopeOf x = none ∨ (s.domHolders (p.byte 0)).contains ((s.scopeOf x).getD 0) = true) →
    exec (.setDomainState x p) s = .next (State.setStud (s.startedAs x 0x22 p) (p.byte 0 - 2) { s.stud (p.byte 0 - 2) with held := true })) ∧
  (∀ (s : State) (x : TInst) (p : CmdPkt),
    s.takes x 0x22 p →
    p.rsvdZero (offs 3 8) →
    (28 ≤ p.byte 0 ∧ p.byte 0 < 30 ∧ p.byte 1 = 1) →
    p.byte 2 = 0xFF →
    s.scopeOf x = none →
    (portsOfDom (p.byte 0)).any (fun q => ((s.port q).pers == 4 && (s.port q).purlin.st == 3) || ((s.port q).pers == 5 && (s.port q).ridge.st == 2)) = true →
    exec (.setDomainState x p) s = .next ((s).refuse x stWrongMode 0x22 p 0)) ∧
  (∀ (s : State) (x : TInst) (p : CmdPkt),
    s.takes x 0x22 p →
    (p.byte 0 = 30 ∨ 31 < p.byte 0) →
    exec (.setDomainState x p) s = .next ((s).refuse x stRange 0x22 p 0)) ∧
  (∀ (s : State) (x : TInst) (p : CmdPkt),
    s.takes x 0x22 p →
    p.byte 0 < 2 →
    exec (.setDomainState x p) s = .next ((s).refuse x stDenied 0x22 p 0)) ∧
  (∀ (s : State) (x : TInst) (p : CmdPkt),
    s.takes x 0x22 p →
    p.rsvdZero (offs 3 8) →
    (2 ≤ p.byte 0 ∧ p.byte 0 < 14) →
    p.byte 1 = 2 →
    p.byte 2 = 0xFF →
    s.scopeOf x = none →
    s.allDeep (p.byte 0 - 2) = false →
    exec (.setDomainState x p) s = .next ((s).refuse x stBusy 0x22 p 0)) ∧
  (∀ (s : State) (x : TInst) (p : CmdPkt),
    s.takes x 0x22 p →
    p.rsvdZero (offs 3 8) →
    (14 ≤ p.byte 0 ∧ p.byte 0 < 26) →
    p.byte 1 = 2 →
    p.byte 2 = 0xFF →
    s.scopeOf x = none →
    ((s.home (p.byte 0 - 14)).bench ≠ 0 ∨ (s.home (p.byte 0 - 14)).lockW ≠ 0) →
    exec (.setDomainState x p) s = .next ((s).refuse x stRange 0x22 p 0)) ∧
  (∀ (s : State) (x : TInst) (p : CmdPkt) (f : Nat),
    s.takes x 0x30 p →
    p.rsvdZero (offs 17 24) →
    s.tframe x (p.byte 16) = (stOk, f) →
    pagesOk (p.le 0 8) (p.le 8 8) = true →
    s.withinTop f (p.le 0 8) (p.le 8 8) = true →
    s.scrubbing f = false →
    exec (.scrubRange x p) s = .next ((s.startedAs x 0x30 p))) ∧
  (∀ (s : State) (x : TInst) (p : CmdPkt) (f : Nat),
    s.takes x 0x30 p →
    p.rsvdZero (offs 17 24) →
    s.tframe x (p.byte 16) = (stOk, f) →
    pagesOk (p.le 0 8) (p.le 8 8) = true →
    s.withinTop f (p.le 0 8) (p.le 8 8) = true →
    s.scrubbing f = true →
    exec (.scrubRange x p) s = .next ((s).refuse x stBusy 0x30 p 0)) ∧
  (∀ (s : State) (x : TInst) (p : CmdPkt) (f : Nat),
    s.takes x 0x30 p →
    p.rsvdZero (offs 17 24) →
    s.tframe x (p.byte 16) = (stOk, f) →
    pagesOk (p.le 0 8) (p.le 8 8) = true →
    s.withinTop f (p.le 0 8) (p.le 8 8) = false →
    exec (.scrubRange x p) s = .next ((s).refuse x stRange 0x30 p 0)) ∧
  (∀ (s : State) (x : TInst) (p : CmdPkt),
    s.takes x 0x34 p →
    (s.scopeChans x).all (fun c => (s.chan c).st != 1) = true →
    exec (.memTrainSave x p) s = .next ((s.startedAs x 0x34 p))) ∧
  (∀ (s : State) (x : TInst) (p : CmdPkt),
    s.takes x 0x34 p →
    (s.scopeChans x).any (fun c => (s.chan c).st == 1) = true →
    exec (.memTrainSave x p) s = .next ((s).refuse x stBusy 0x34 p 0)) ∧
  (∀ (s : State) (x : TInst) (p : CmdPkt),
    s.takes x 0x62 p →
    p.rsvdZero (offs 2 8) →
    p.byte 0 = 0 →
    (p.byte 1 < 12 ∧ s.inScope x (s.frameOfStud (p.byte 1)) = true) →
    ((s.tenon (p.byte 1)).st = 0 ∨ (s.tenon (p.byte 1)).st = 4 ∨ (s.frame (s.frameOfStud (p.byte 1))).halted = true) →
    RunsTo (exec (.linkRetrain x p) s) fun u =>
      u.plumb = (s.startedAs x 0x62 p).plumb ∧ (u.tenon (p.byte 1)).st = 1 ∧ (∀ n, n ≠ p.byte 1 → u.tenon n = s.tenon n) ∧ u.homes = (s.startedAs x 0x62 p).homes ∧ u.mem = (s.startedAs x 0x62 p).mem ∧ u.chans = s.chans) ∧
  (∀ (s : State) (x : TInst) (p : CmdPkt),
    s.takes x 0x62 p →
    p.rsvdZero (offs 2 8) →
    p.byte 0 = 0 →
    (p.byte 1 < 12 ∧ s.inScope x (s.frameOfStud (p.byte 1)) = true) →
    ((s.tenon (p.byte 1)).st = 1 ∨ (s.tenon (p.byte 1)).st = 2 ∨ (s.tenon (p.byte 1)).st = 3) →
    (s.frame (s.frameOfStud (p.byte 1))).halted = false →
    exec (.linkRetrain x p) s = .next ((s).refuse x stBusy 0x62 p 0)) ∧
  (∀ (s : State) (x : TInst) (p : CmdPkt),
    s.takes x 0x62 p →
    p.rsvdZero (offs 2 8) →
    p.byte 0 = 1 →
    (p.byte 1 < 8 ∧ s.inScope x (s.frameOfPort (p.byte 1)) = true) →
    ((s.port (p.byte 1)).pers = 4 ∨ (s.port (p.byte 1)).pers = 5) →
    exec (.linkRetrain x p) s = .next ((s.startedAs x 0x62 p))) ∧
  (∀ (s : State) (x : TInst) (p : CmdPkt),
    s.takes x 0x62 p →
    p.rsvdZero (offs 3 8) →
    p.byte 0 = 1 →
    (p.byte 1 < 8 ∧ s.inScope x (s.frameOfPort (p.byte 1)) = true) →
    (s.port (p.byte 1)).hasRoot (p.byte 2) = true →
    exec (.linkRetrain x p) s = .next (State.setRootOf (s.startedAs x 0x62 p) (p.byte 1) (p.byte 2) { (s.port (p.byte 1)).root (p.byte 2) with retrain := true })) ∧
  (∀ (s : State) (x : TInst) (p : CmdPkt),
    s.takes x 0x62 p →
    p.rsvdZero (offs 3 8) →
    p.byte 0 = 1 →
    (p.byte 1 < 8 ∧ s.inScope x (s.frameOfPort (p.byte 1)) = true) →
    (s.port (p.byte 1)).hasRoots = true →
    (s.port (p.byte 1)).hasRoot (p.byte 2) = false →
    exec (.linkRetrain x p) s = .next ((s).refuse x stRange 0x62 p 2)) ∧
  (∀ (s : State) (x : TInst) (p : CmdPkt),
    s.takes x 0x62 p →
    p.rsvdZero (offs 2 8) →
    p.byte 0 = 1 →
    (p.byte 1 < 8 ∧ s.inScope x (s.frameOfPort (p.byte 1)) = true) →
    ((s.port (p.byte 1)).pers = 0 ∨ (s.port (p.byte 1)).pers = 3) →
    exec (.linkRetrain x p) s = .next ((s).refuse x stWrongMode 0x62 p 0)) ∧
  (∀ (s : State) (x : TInst) (p : CmdPkt),
    s.takes x 0x63 p →
    p.rsvdZero (offs 4 8) →
    (p.byte 0 < 8 ∧ s.inScope x (s.frameOfPort (p.byte 0)) = true) →
    (p.byte 1 ≤ 5 ∧ lanesOk (p.byte 1) (p.byte 2) = true) →
    (p.byte 3 = 0 ∨ p.byte 3 = 1 ∧ p.byte 1 = 3) →
    ({ pers := p.byte 1, lanes := p.byte 2, rec_ := p.byte 3 == 1 } : Pers) ≠ s.storedPers (p.byte 0) →
    (s.scopeOf x = none ∨ keptPers (p.byte 1) = false ∧ keptPers (s.storedPers (p.byte 0)).pers = false) →
    ((fun m => modeFits (fun q => if q = p.byte 0 then p.byte 1 else (s.storedPers q).pers) m) s.mode = true ∧ (fun m => modeFits (fun q => if q = p.byte 0 then p.byte 1 else (s.storedPers q).pers) m) s.plumb.pendMode = true) →
    exec (.portPersonality x p) s = .next ((s.startedAs x 0x63 p))) ∧
  (∀ (s : State) (x : TInst) (p : CmdPkt),
    s.takes x 0x63 p →
    p.rsvdZero (offs 4 8) →
    (p.byte 0 < 8 ∧ s.inScope x (s.frameOfPort (p.byte 0)) = true) →
    (p.byte 1 ≤ 5 ∧ lanesOk (p.byte 1) (p.byte 2) = true) →
    (p.byte 3 = 0 ∨ p.byte 3 = 1 ∧ p.byte 1 = 3) →
    x.kind = .mctp →
    ({ pers := p.byte 1, lanes := p.byte 2, rec_ := p.byte 3 == 1 } : Pers) = s.storedPers (p.byte 0) →
    exec (.portPersonality x p) s = .next ((s.replied x false s.mtime.toNat stAccepted 0x63 { p with notify := false } 0 []).replied x true s.mtime.toNat stOk 0x63 p 0 [])) ∧
  (∀ (s : State) (x : TInst) (p : CmdPkt),
    s.takes x 0x71 p →
    p.rsvdZero (offs 4 8) →
    s.plumb.fwOwner = some x →
    p.le 0 4 = s.plumb.fwData.length →
    s.plumb.fwData.length + (p.len.toNat - 8) ≤ s.plumb.fwLen →
    exec (.fwChunk x p) s = .next ((s.startedAs x 0x71 p))) ∧
  (∀ (s : State) (x : TInst) (p : CmdPkt),
    s.takes x 0x71 p →
    s.plumb.fwOwner ≠ some x →
    exec (.fwChunk x p) s = .next ((s).refuse x stDenied 0x71 p 0)) ∧
  (∀ (s : State) (x : TInst) (p : CmdPkt),
    s.takes x 0x72 p →
    s.plumb.fwOwner = some x →
    s.plumb.fwData.length = s.plumb.fwLen →
    exec (.fwCommit x p) s = .next ((s.startedAs x 0x72 p))) ∧
  (∀ (s : State) (x : TInst) (p : CmdPkt),
    s.takes x 0x72 p →
    s.plumb.fwOwner ≠ some x →
    exec (.fwCommit x p) s = .next ((s).refuse x stDenied 0x72 p 0)) ∧
  (∀ (s : State) (x : TInst) (p : CmdPkt),
    s.takes x 0x72 p →
    s.plumb.fwOwner = some x →
    s.plumb.fwData.length ≠ s.plumb.fwLen →
    exec (.fwCommit x p) s = .next (({ s with plumb := { s.plumb with fwOwner := none, fwLen := 0, fwData := [] } }).refuse x stRange 0x72 p 0)) ∧
  (∀ (s : State) (x : TInst) (p : CmdPkt),
    s.takes x 0x73 p →
    exec (.attest x p) s = .next ((s.startedAs x 0x73 p))) ∧
  (∀ (s : State) (x : TInst) (p : CmdPkt) (f : Nat),
    s.takes x 0x40 p →
    p.rsvdZero (offs 18 24) →
    s.tframe x (p.byte 17) = (stOk, f) →
    (1 ≤ p.byte 16 ∧ p.byte 16 ≤ 4) →
    pagesOk (p.le 0 8) (p.le 8 8) = true →
    s.withinDram f (p.le 0 8) (p.le 8 8) = true →
    (studsOf s.mode f).all (fun b => s.lockFits f b (p.le 0 8 - s.ownBase f) (p.le 8 8) (p.byte 16) && (s.home b).bench != 12 && ((s.home b).lockW == 0 || (s.home b).lockW == p.byte 16) && !(s.home b).arrayFail && s.domStateOf (14 + b) != 4) = true →
    (studsOf s.mode f).all (fun b => (s.home b).cache.isEmpty) = true →
    RunsTo (exec (.bayLockRange x p) s) fun u =>
      u.plumb = (s.startedAs x 0x40 p).plumb ∧ (∀ b ∈ (studsOf s.mode f), (u.home b).cmdBusy = true ∧ (u.home b).lockW = p.byte 16 ∧ (u.home b).locked = (s.home b).locked ++ [(p.le 0 8 - s.ownBase f, p.le 8 8)]) ∧ (∀ b, b ∉ (studsOf s.mode f) → b < 12 → (u.home b).cmdBusy = ((s.startedAs x 0x40 p).home b).cmdBusy) ∧ u.mem = (s.startedAs x 0x40 p).mem ∧ u.chans = s.chans) ∧
  (∀ (s : State) (x : TInst) (p : CmdPkt),
    s.takes x 0x42 p →
    p.rsvdZero (offs 2 8) →
    (p.byte 0 < 12 ∧ s.inScope x (s.frameOfStud (p.byte 0)) = true) →
    (p.byte 1 = 0 ∨ p.byte 1 = 8 ∨ p.byte 1 = 12 ∧ (s.home (p.byte 0)).lockW = 0) →
    (s.home (p.byte 0)).arrayFail = false →
    s.domStateOf (14 + p.byte 0) ≠ 4 →
    ((s.home (p.byte 0)).cache.isEmpty = true ∧ s.benchIdle (p.byte 0) = true) →
    (s.home (p.byte 0)).bench ≤ p.byte 1 →
    ((s.home (p.byte 0)).txs = [] ∧ (s.home (p.byte 0)).order = [] ∧ (s.home (p.byte 0)).waitReq = [] ∧ (s.home (p.byte 0)).dirQ = []) →
    RunsTo (exec (.benchConfig x p) s) fun u =>
      u.plumb = (s.startedAs x 0x42 p).plumb ∧ (u.home (p.byte 0)).cmdBusy = true ∧ (u.home (p.byte 0)).benchBusy = true ∧ (u.home (p.byte 0)).bench = p.byte 1 ∧ (∀ h, h ≠ p.byte 0 → (u.home h).bench = (s.home h).bench ∧ (u.home h).cmdBusy = ((s.startedAs x 0x42 p).home h).cmdBusy) ∧ u.mem = (s.startedAs x 0x42 p).mem ∧ u.chans = s.chans) ∧
  (∀ (s : State) (x : TInst) (p : CmdPkt),
    s.takes x 0x42 p →
    p.rsvdZero (offs 2 8) →
    (p.byte 0 < 12 ∧ s.inScope x (s.frameOfStud (p.byte 0)) = true) →
    (p.byte 1 ≠ 0 ∧ p.byte 1 ≠ 8 ∧ (p.byte 1 ≠ 12 ∨ (s.home (p.byte 0)).lockW ≠ 0)) →
    s.plumb.jobs.any (fun j => j.opcode == 0x42) = false →
    (s.home (p.byte 0)).benchBusy = false →
    RunsTo (exec (.benchConfig x p) s) fun u => let r := s.refuse x stRange 0x42 p 1
      u.plumb = r.plumb ∧ u.mem = r.mem ∧ u.memPoison = r.memPoison ∧ (∀ h, u.home h = r.home h) ∧ u.chans = r.chans ∧ u.tenons = r.tenons ∧ u.frames = r.frames ∧ u.ports = r.ports ∧ u.power = r.power ∧ u.scribe = r.scribe) ∧
  (∀ (s : State) (x : TInst) (p : CmdPkt) (b0 : Nat),
    s.takes x 0x43 p →
    p.rsvdZero (offs 20 24) →
    p.byte 16 = 1 →
    p.byte 17 = 0 →
    (p.le 18 2 ≠ 0 ∧ p.le 18 2 < 2 ^ 12) →
    (maskBays (p.le 18 2)).all (fun b => s.inScope x (s.frameOfStud b) && s.frameOfStud b == s.frameOfStud b0) = true →
    (maskBays (p.le 18 2)).all (fun b => (s.home b).cache.isEmpty && (s.home b).victims.isEmpty) = true →
    RunsTo (exec (.bayFlushRange x p) s) fun u =>
      u.plumb = (s.startedAs x 0x43 p).plumb ∧ (∀ b, b < 12 → (u.home b).cmdBusy = (((s.startedAs x 0x43 p).home b).cmdBusy || bitOf (p.le 18 2) b) ∧ (bitOf (p.le 18 2) b = true → (u.home b).work.map (·.done) = some true ∧ (u.home b).cache = [])) ∧ u.mem = (s.startedAs x 0x43 p).mem ∧ u.chans = s.chans) ∧
  (∀ (s : State) (x : TInst) (p : CmdPkt) (b0 : Nat),
    s.takes x 0x44 p →
    p.rsvdZero (offs 2 8) →
    (p.le 0 2 ≠ 0 ∧ p.le 0 2 < 2 ^ 12) →
    (maskBays (p.le 0 2)).all (fun b => s.inScope x (s.frameOfStud b) && s.frameOfStud b == s.frameOfStud b0) = true →
    RunsTo (exec (.bayInvalidate x p) s) fun u =>
      u.plumb = (s.startedAs x 0x44 p).plumb ∧ (∀ b, b < 12 → u.home b = { (s.startedAs x 0x44 p).home b with cmdBusy := ((s.startedAs x 0x44 p).home b).cmdBusy || bitOf (p.le 0 2) b }) ∧ u.mem = (s.startedAs x 0x44 p).mem ∧ u.chans = s.chans ∧ u.cores = (s.startedAs x 0x44 p).cores) ∧
  (∀ (s : State) (x : TInst) (p : CmdPkt),
    s.takes x 0x32 p →
    p.rsvdZero (offs 2 8) →
    p.byte 0 = 0 →
    (p.byte 1 < 12 ∧ s.inScope x (s.frameOfStud (p.byte 1)) = true) →
    s.testable 0 (p.byte 1) = true →
    exec (.checkerSelftest x p) s = .next (State.setStud (s.startedAs x 0x32 p) (p.byte 1) { s.stud (p.byte 1) with testing := true })) ∧
  (∀ (s : State) (x : TInst) (p : CmdPkt),
    s.takes x 0x32 p →
    p.rsvdZero (offs 2 8) →
    p.byte 0 = 1 →
    (p.byte 1 < 12 ∧ s.inScope x (s.frameOfStud (p.byte 1)) = true) →
    s.testable 1 (p.byte 1) = true →
    exec (.checkerSelftest x p) s = .next ((s.startedAs x 0x32 p))) ∧
  (∀ (s : State) (x : TInst) (p : CmdPkt),
    s.takes x 0x32 p →
    p.rsvdZero (offs 2 8) →
    p.byte 0 ≤ 1 →
    (p.byte 1 < 12 ∧ s.inScope x (s.frameOfStud (p.byte 1)) = true) →
    s.testable (p.byte 0) (p.byte 1) = false →
    exec (.checkerSelftest x p) s = .next ((s).refuse x stBusy 0x32 p 0)) ∧
  (∀ (s : State) (x : TInst) (p : CmdPkt),
    s.takes x 0x54 p →
    s.scribe.flushing = none →
    RunsTo (exec (.scribeFlush x p) s) fun u =>
      u.plumb = (s.startedAs x 0x54 p).plumb ∧ u.scribe.flushing = some 0 ∧ u.scribe.frozen = s.scribe.frozen ∧ u.scribe.slots = s.scribe.slots ∧ (u.recOf 0x40 0).bin 0x40 11 = (if s.scribe.frozen then (s.recOf 0x40 0).bin 0x40 11 else min (2 ^ 64 - 1) ((s.recOf 0x40 0).bin 0x40 11 + 1)) ∧ u.mem = (s.startedAs x 0x54 p).mem ∧ u.homes = (s.startedAs x 0x54 p).homes ∧ u.chans = s.chans) ∧
  (∀ (s : State) (x : TInst) (p : CmdPkt) (k : Nat),
    s.takes x 0x54 p →
    s.scribe.flushing = some k →
    exec (.scribeFlush x p) s = .next ((fun r : State => { r with scribe := { r.scribe with again := some (s.scribe.again.getD 0) } }) (s.startedAs x 0x54 p))) ∧
  (∀ (s : State) (x : TInst) (p : CmdPkt),
    s.takes x 0x70 p →
    p.rsvdZero (offs 4 8) →
    p.le 0 4 % 4096 = 0 →
    (0x10000 ≤ p.le 0 4 ∧ p.le 0 4 ≤ 0x2000000) →
    s.plumb.fwOwner = none →
    exec (.fwBegin x p) s = .next ((fun r : State => { r with plumb := { r.plumb with fwOwner := some x, fwOther := 1 - s.plumb.flash.booted, fwLen := p.le 0 4, fwData := [] } }) (s.startedAs x 0x70 p))) ∧
  (∀ (s : State) (x : TInst) (p : CmdPkt),
    s.takes x 0x70 p →
    p.rsvdZero (offs 4 8) →
    p.le 0 4 % 4096 = 0 →
    (0x10000 ≤ p.le 0 4 ∧ p.le 0 4 ≤ 0x2000000) →
    s.plumb.fwOwner ≠ none →
    exec (.fwBegin x p) s = .next ((s).refuse x stBusy 0x70 p 0)) ∧
  (∀ (s : State) (x : TInst) (p : CmdPkt),
    s.canReach x = true →
    s.takeCheck x 0x44 p = none →
    (s.newJob x 0x44 p).behind s.plumb.jobs = true →
    exec (.bayInvalidate x p) s = .next ({ s with plumb := { s.plumb with jobs := s.plumb.jobs ++ [{ s.newJob x 0x44 p with acc := true }] } }.sendReply x false s.mtime.toNat (replyPacket stAccepted 0x44 p.tag.toNat p.seq.toNat 0 []))) ∧
  (∀ (s : State) (x : TInst) (p : CmdPkt) (f : Nat),
    s.takes x 0x12 p →
    p.rsvdZero (offs 1 8) →
    f = p.byte 0 →
    (f < frameCount s.mode ∧ s.inScope x f = true) →
    RunsTo (exec (.frameReset x p) s) fun u =>
      (u.frame f).resetting = true ∧ (u.frame f).booted = false ∧ (u.frame f).cap = (s.frame f).cap ∧
      (∀ n, (studsOf s.mode f).contains n = true → (u.stud n).state = 3 ∧ (u.stud n).policy = (s.stud n).policy ∧ (u.tenon n).st = 1 ∧ (u.home n).txs = [] ∧ (u.home n).cache = [] ∧ (u.home n).dir = [] ∧ (u.home n).stopped = true) ∧
      (∀ c, s.frameOfCore c = f → u.core c = {}) ∧ (∀ c, s.frameOfCore c ≠ f → (s.frame (s.frameOfCore c)).nq.stalled = [] → s.nqWait = [] → (u.core c).regs = (s.core c).regs) ∧
      (∀ c, (chansOf s.mode f).contains c = true → (u.chan c).st = (if (s.chan c).st = 2 ∨ (s.frame f).trained = false then 1 else (s.chan c).st)) ∧
      (∀ k, k < 2 ^ 47 → (chansOf s.mode f).all (fun c => (s.chan c).wq.isEmpty) = true → (∀ q, (s.port q).inb = [] ∧ (s.port q).inbQ = []) → s.memBad = [] → Mem.get u.mem k = Mem.get s.mem k) ∧
      (∀ n, n < 12 → (studsOf s.mode f).contains n = false → u.stud n = s.stud n ∧ u.tenon n = s.tenon n)) ∧
  (∀ (s : State) (x : TInst) (p : CmdPkt),
    s.takes x 0x13 p →
    p.rsvdZero (offs 1 8) →
    (p.byte 0 < 12 ∧ s.inScope x (s.frameOfStud (p.byte 0)) = true) →
    ((s.stud (p.byte 0)).state = 1 ∨ (s.frame (s.frameOfStud (p.byte 0))).halted = true ∨ s.allDeep (p.byte 0) = true ∧ (s.tenon (p.byte 0)).st = 3) →
    RunsTo (exec (.studReset x p) s) fun u =>
      u.plumb = (s.startedAs x 0x13 p).plumb ∧ (u.stud (p.byte 0)).state = 3 ∧ (u.tenon (p.byte 0)).st = 1 ∧ (∀ c, c / 32 = p.byte 0 → u.core c = {}) ∧ (∀ n, n ≠ p.byte 0 → u.stud n = (s.startedAs x 0x13 p).stud n ∧ u.tenon n = s.tenon n) ∧ (∀ c, c / 32 ≠ p.byte 0 → u.core c = (s.startedAs x 0x13 p).core c) ∧ u.homes = (s.startedAs x 0x13 p).homes ∧ u.mem = (s.startedAs x 0x13 p).mem ∧ u.chans = s.chans) ∧
  (∀ (s : State) (x : TInst) (p : CmdPkt),
    s.takes x 0x13 p →
    p.rsvdZero (offs 1 8) →
    (p.byte 0 < 12 ∧ s.inScope x (s.frameOfStud (p.byte 0)) = true) →
    (s.stud (p.byte 0)).state ≠ 1 →
    (s.frame (s.frameOfStud (p.byte 0))).halted = false →
    (s.allDeep (p.byte 0) = false ∨ (s.tenon (p.byte 0)).st ≠ 3) →
    exec (.studReset x p) s = .next ((s).refuse x stBusy 0x13 p 0))

/-- A running command of any transport instance, while no other command waits, ends with its final reply, which a lost instance does not get: SET_MODE writes the mode record over the older copy with the next sequence number, or nothing where the mode is pending already; PORT_PERSONALITY stores the record of its port; MEM_TRAIN_SAVE the training of every READY channel of its scope and no other; SET_DOMAIN_STATE records the request for each of its frames, holds or lets go a stud, switches a bay's array, and counts the votes of a shared domain; FW_BEGIN erases the other slot, FW_CHUNK appends its bytes, FW_COMMIT stores the staged bundle and marks it to be tried next; SCRUB_RANGE scans its lines and answers the summary; the bay commands end their work and CMD_BUSY, BAY_FLUSH_RANGE with the lines written, BAY_INVALIDATE with the bays' lines and locks gone; CHECKER_SELFTEST of a stud or a bay that shows no failure changes nothing more; a retrain answers whether the link is up; a stud that passes its tests runs again with its cores held, and a frame whose studs, bays and links all pass is booted, its homes running; ATTEST answers the report. A flash write, or a signing, that fails leaves what it would have replaced and is answered HW_FAULT; a bundle that does not verify INTEGRITY. A package that goes OFF ends with its reply and stays off. At its bound a command ends with TIMEOUT and what it has done; a Plumb restart ends every command with HW_FAULT and drives COOL_PWM at 100 %. -/
def Obligations.PlumbCommandsEnd : Prop :=
  (∀ (s : State) (j : Job) (fin : FinishIn),
    s.endsNow j 0x10 →
    j.pkt.byte 0 = s.plumb.pendMode →
    exec (.commandFinalReply j.t j.pkt.tag fin) s = .next ((s).endedAs j stOk
        ([]))) ∧
  (∀ (s : State) (j : Job) (fin : FinishIn),
    s.endsNow j 0x10 →
    j.pkt.byte 0 ≠ s.plumb.pendMode →
    fin.hwOk = true →
    exec (.commandFinalReply j.t j.pkt.tag fin) s = .next (({ s with plumb := { s.plumb with flash := s.plumb.flash.writeMode (j.pkt.byte 0), pendMode := j.pkt.byte 0 } }).endedAs j stOk
        ([]))) ∧
  (∀ (s : State) (j : Job) (fin : FinishIn),
    s.endsNow j 0x10 →
    j.pkt.byte 0 ≠ s.plumb.pendMode →
    fin.hwOk = false →
    exec (.commandFinalReply j.t j.pkt.tag fin) s = .next ((s).endedAs j stHwFault
        ([]))) ∧
  (∀ (s : State) (m : Nat),
    let f := s.plumb.flash.writeMode m;
      f.mode = some { seq := ((s.plumb.flash.mode).map (fun v => v.seq + 1)).getD 1, mode := m } ∧
      f = { s.plumb.flash with modes := f.modes } ∧
      (∀ v, s.plumb.flash.mode = some v → ∃ i, i < 2 ∧ Tab.find f.modes i = some v)) ∧
  (∀ (s : State) (j : Job) (fin : FinishIn),
    s.endsNow j 0x63 →
    fin.hwOk = true →
    exec (.commandFinalReply j.t j.pkt.tag fin) s = .next (({ s with plumb := { s.plumb with flash := { s.plumb.flash with pers := Tab.set s.plumb.flash.pers (j.pkt.byte 0) { pers := j.pkt.byte 1, lanes := j.pkt.byte 2, rec_ := j.pkt.byte 3 == 1 } } } }).endedAs j stOk
        ([]))) ∧
  (∀ (s : State) (j : Job) (fin : FinishIn),
    s.endsNow j 0x63 →
    fin.hwOk = false →
    exec (.commandFinalReply j.t j.pkt.tag fin) s = .next ((s).endedAs j stHwFault
        ([]))) ∧
  (∀ (s : State) (j : Job) (fin : FinishIn),
    s.endsNow j 0x34 →
    fin.hwOk = true →
    RunsTo (exec (.commandFinalReply j.t j.pkt.tag fin) s) fun u =>
      let r := s.endedAs j stOk []
      u = { r with plumb := { r.plumb with flash := { s.plumb.flash with train := u.plumb.flash.train } } } ∧
      (∀ c, (((s.scopeChans j.t).contains c && (s.chan c).st == 2) = true → Tab.find u.plumb.flash.train c = some { serial := (s.chan c).res.serials, rate := (s.chan c).rate, ver := s.plumb.running.version }) ∧
        (((s.scopeChans j.t).contains c && (s.chan c).st == 2) = false → Tab.find u.plumb.flash.train c = Tab.find s.plumb.flash.train c))) ∧
  (∀ (s : State) (j : Job) (fin : FinishIn),
    s.endsNow j 0x34 →
    fin.hwOk = false →
    exec (.commandFinalReply j.t j.pkt.tag fin) s = .next ((s).endedAs j stHwFault
        ([]))) ∧
  (∀ (s : State) (j : Job) (fin : FinishIn),
    s.endsNow j 0x22 →
    (2 ≤ j.pkt.byte 0 ∧ j.pkt.byte 0 < 14) →
    exec (.commandFinalReply j.t j.pkt.tag fin) s = .next ((({ s with power := { s.power with votes := ((if j.pkt.byte 2 ≠ 0xFF then [j.pkt.byte 2] else match s.scopeOf j.t with | some g => [g] | none => holdersOf s.mode (j.pkt.byte 0)).foldl (fun m g => Tab.put m 0 (4 * j.pkt.byte 0 + g) (j.pkt.byte 1)) s.power.votes) } } : State).setStud (j.pkt.byte 0 - 2) { s.stud (j.pkt.byte 0 - 2) with held := j.pkt.byte 1 == 2 }).endedAs j stOk
        ([]))) ∧
  (∀ (s : State) (j : Job) (fin : FinishIn),
    s.endsNow j 0x22 →
    (14 ≤ j.pkt.byte 0 ∧ j.pkt.byte 0 < 26) →
    j.pkt.byte 1 = 2 →
    exec (.commandFinalReply j.t j.pkt.tag fin) s = .next ((((({ s with power := { s.power with votes := ((if j.pkt.byte 2 ≠ 0xFF then [j.pkt.byte 2] else match s.scopeOf j.t with | some g => [g] | none => holdersOf s.mode (j.pkt.byte 0)).foldl (fun m g => Tab.put m 0 (4 * j.pkt.byte 0 + g) (j.pkt.byte 1)) s.power.votes) } } : State).setHome (j.pkt.byte 0 - 14) { (s.home (j.pkt.byte 0 - 14)) with cache := [], work := none }).setDom (j.pkt.byte 0) 4 0)).endedAs j stOk
        ([]))) ∧
  (∀ (s : State) (j : Job) (fin : FinishIn),
    s.endsNow j 0x22 →
    (14 ≤ j.pkt.byte 0 ∧ j.pkt.byte 0 < 26) →
    j.pkt.byte 1 ≠ 2 →
    exec (.commandFinalReply j.t j.pkt.tag fin) s = .next (((if s.domStateOf (j.pkt.byte 0) = 4 then ({ s with power := { s.power with votes := ((if j.pkt.byte 2 ≠ 0xFF then [j.pkt.byte 2] else match s.scopeOf j.t with | some g => [g] | none => holdersOf s.mode (j.pkt.byte 0)).foldl (fun m g => Tab.put m 0 (4 * j.pkt.byte 0 + g) (j.pkt.byte 1)) s.power.votes) } } : State).setDom (j.pkt.byte 0) 0 750 else ({ s with power := { s.power with votes := ((if j.pkt.byte 2 ≠ 0xFF then [j.pkt.byte 2] else match s.scopeOf j.t with | some g => [g] | none => holdersOf s.mode (j.pkt.byte 0)).foldl (fun m g => Tab.put m 0 (4 * j.pkt.byte 0 + g) (j.pkt.byte 1)) s.power.votes) } } : State))).endedAs j stOk
        ([]))) ∧
  (∀ (s : State) (j : Job) (fin : FinishIn),
    s.endsNow j 0x22 →
    (26 ≤ j.pkt.byte 0 ∧ j.pkt.byte 0 < 30) →
    exec (.commandFinalReply j.t j.pkt.tag fin) s = .next ((({ s with power := { s.power with votes := ((if j.pkt.byte 2 ≠ 0xFF then [j.pkt.byte 2] else match s.scopeOf j.t with | some g => [g] | none => holdersOf s.mode (j.pkt.byte 0)).foldl (fun m g => Tab.put m 0 (4 * j.pkt.byte 0 + g) (j.pkt.byte 1)) s.power.votes) } } : State).countVotes (j.pkt.byte 0)).endedAs j stOk
        ([]))) ∧
  (∀ (s : State) (j : Job) (fin : FinishIn),
    s.endsNow j 0x22 →
    j.pkt.byte 0 = 31 →
    s.plumb.jobs = [j] →
    RunsTo (exec (.commandFinalReply j.t j.pkt.tag fin) s) fun u =>
      u.off = true ∧ u.live = false ∧ (∀ d, d < 30 → u.domStateOf d = 4) ∧ u.plumb.jobs = [] ∧ u.plumb.flash = s.plumb.flash ∧ u.plumb.minSvn = s.plumb.minSvn ∧
      u.cores = [] ∧ u.net = [] ∧ u.pending = s.pending ∧ (∀ k, k < 2 ^ 48 → Mem.get u.mem k = Mem.get [] k) ∧ (∀ k, 2 ^ 48 ≤ k → Mem.get u.mem k = Mem.get s.mem k)) ∧
  (∀ (s : State) (j : Job) (fin : FinishIn),
    s.endsNow j 0x70 →
    fin.hwOk = true →
    exec (.commandFinalReply j.t j.pkt.tag fin) s = .next (({ s with plumb := { s.plumb with flash := { s.plumb.flash with slots := Tab.erase s.plumb.flash.slots s.plumb.fwOther } } }).endedAs j stOk
        ([]))) ∧
  (∀ (s : State) (j : Job) (fin : FinishIn),
    s.endsNow j 0x70 →
    fin.hwOk = false →
    exec (.commandFinalReply j.t j.pkt.tag fin) s = .next (({ s with plumb := { s.plumb with fwOwner := none, fwLen := 0, fwData := [] } }).endedAs j stHwFault
        ([]))) ∧
  (∀ (s : State) (j : Job) (fin : FinishIn),
    s.endsNow j 0x71 →
    fin.hwOk = true →
    exec (.commandFinalReply j.t j.pkt.tag fin) s = .next (({ s with plumb := { s.plumb with fwData := s.plumb.fwData ++ (j.pkt.params.take j.pkt.len.toNat).drop 8 } }).endedAs j stOk
        ([]))) ∧
  (∀ (s : State) (j : Job) (fin : FinishIn),
    s.endsNow j 0x71 →
    fin.hwOk = false →
    exec (.commandFinalReply j.t j.pkt.tag fin) s = .next ((s).endedAs j stHwFault
        ([]))) ∧
  (∀ (s : State) (j : Job) (fin : FinishIn),
    s.endsNow j 0x72 →
    (imgBundle s.plumb.fwData fin.verified).isNone = true →
    exec (.commandFinalReply j.t j.pkt.tag fin) s = .next (({ s with plumb := { s.plumb with fwOwner := none, fwLen := 0, fwData := [], flash := { s.plumb.flash with slots := Tab.erase s.plumb.flash.slots s.plumb.fwOther } } }).endedAs j stIntegrity
        ([]))) ∧
  (∀ (s : State) (j : Job) (fin : FinishIn),
    s.endsNow j 0x72 →
    (imgBundle s.plumb.fwData fin.verified).isSome = true →
    ((imgBundle s.plumb.fwData fin.verified).getD {}).verifies s.plumb.minSvn = false →
    exec (.commandFinalReply j.t j.pkt.tag fin) s = .next (({ s with plumb := { s.plumb with fwOwner := none, fwLen := 0, fwData := [], flash := { s.plumb.flash with slots := Tab.set s.plumb.flash.slots s.plumb.fwOther ((imgBundle s.plumb.fwData fin.verified).getD {}) } } }).endedAs j stIntegrity
        ([]))) ∧
  (∀ (s : State) (j : Job) (fin : FinishIn),
    s.endsNow j 0x72 →
    (imgBundle s.plumb.fwData fin.verified).isSome = true →
    ((imgBundle s.plumb.fwData fin.verified).getD {}).verifies s.plumb.minSvn = true →
    fin.hwOk = true →
    exec (.commandFinalReply j.t j.pkt.tag fin) s = .next (({ s with plumb := { s.plumb with fwOwner := none, fwLen := 0, fwData := [], flash := { s.plumb.flash with slots := Tab.set s.plumb.flash.slots s.plumb.fwOther ((imgBundle s.plumb.fwData fin.verified).getD {}), try_ := some s.plumb.fwOther } } }).endedAs j stOk
        ([]))) ∧
  (∀ (s : State) (j : Job) (fin : FinishIn),
    s.endsNow j 0x72 →
    (imgBundle s.plumb.fwData fin.verified).isSome = true →
    ((imgBundle s.plumb.fwData fin.verified).getD {}).verifies s.plumb.minSvn = true →
    fin.hwOk = false →
    exec (.commandFinalReply j.t j.pkt.tag fin) s = .next (({ s with plumb := { s.plumb with fwOwner := none, fwLen := 0, fwData := [], flash := { s.plumb.flash with slots := Tab.set s.plumb.flash.slots s.plumb.fwOther { ((imgBundle s.plumb.fwData fin.verified).getD {}) with good := false } } } }).endedAs j stHwFault
        ([]))) ∧
  (∀ (s : State) (j : Job) (fin : FinishIn),
    s.endsNow j 0x30 →
    exec (.commandFinalReply j.t j.pkt.tag fin) s = .next (((s.scan (s.tframe j.t (j.pkt.byte 16)).2 (j.pkt.le 0 8 - s.ownBase (s.tframe j.t (j.pkt.byte 16)).2) (j.pkt.le 8 8) fin.found).1).endedAs j stOk
        ((s.scan (s.tframe j.t (j.pkt.byte 16)).2 (j.pkt.le 0 8 - s.ownBase (s.tframe j.t (j.pkt.byte 16)).2) (j.pkt.le 8 8) fin.found).2.bytes))) ∧
  (∀ (s : State) (j : Job) (fin : FinishIn),
    s.endsNow j 0x73 →
    fin.hwOk = true →
    exec (.commandFinalReply j.t j.pkt.tag fin) s = .next ((s).endedAs j stOk
        (s.report451 j.t (j.pkt.params.take 32)))) ∧
  (∀ (s : State) (j : Job) (fin : FinishIn),
    s.endsNow j 0x73 →
    fin.hwOk = false →
    exec (.commandFinalReply j.t j.pkt.tag fin) s = .next ((s).endedAs j stHwFault
        ([]))) ∧
  (∀ (s : State) (j : Job) (fin : FinishIn),
    s.endsNow j 0x40 →
    exec (.commandFinalReply j.t j.pkt.tag fin) s = .next ((((studsOf s.mode (s.tframe j.t (j.pkt.byte 17)).2).foldl (fun r b => r.setHome b { r.home b with work := none }) s)).endedAs j stOk
        ([]))) ∧
  (∀ (s : State) (j : Job) (fin : FinishIn),
    s.endsNow j 0x42 →
    exec (.commandFinalReply j.t j.pkt.tag fin) s = .next ((([j.pkt.byte 0].foldl (fun r b => r.setHome b { r.home b with work := none }) s)).endedAs j stOk
        ([]))) ∧
  (∀ (s : State) (j : Job) (fin : FinishIn),
    s.endsNow j 0x43 →
    exec (.commandFinalReply j.t j.pkt.tag fin) s = .next ((((if j.pkt.byte 16 = 1 then maskBays (j.pkt.le 18 2) else (studsOf s.mode (s.tframe j.t (j.pkt.byte 17)).2)).foldl (fun r b => r.setHome b { r.home b with work := none }) s)).endedAs j stOk
        (bytesOf 8 ((if j.pkt.byte 16 = 1 then maskBays (j.pkt.le 18 2) else (studsOf s.mode (s.tframe j.t (j.pkt.byte 17)).2)).foldl (fun n b => n + (s.home b).work.elim 0 (·.count)) 0)))) ∧
  (∀ (s : State) (j : Job) (fin : FinishIn),
    s.endsNow j 0x44 →
    exec (.commandFinalReply j.t j.pkt.tag fin) s = .next (((maskBays (j.pkt.le 0 2)).foldl (fun r b => r.setHome b { (r.home b).unlock with cache := [] }) s).endedAs j stOk
        ([]))) ∧
  (∀ (s : State) (j : Job) (fin : FinishIn),
    s.endsNow j 0x32 →
    j.pkt.byte 0 = 0 →
    (envCores fin.env (j.pkt.byte 1) = [] ∧ envStud fin.env (j.pkt.byte 1) = []) →
    (s.stud (j.pkt.byte 1)).cores ≠ 0 →
    exec (.commandFinalReply j.t j.pkt.tag fin) s = .next ((s.setStud (j.pkt.byte 1) { s.stud (j.pkt.byte 1) with testing := false }).endedAs j stOk
        (bytesOf 8 0))) ∧
  (∀ (s : State) (j : Job) (fin : FinishIn),
    s.endsNow j 0x32 →
    j.pkt.byte 0 = 1 →
    envBay fin.env (j.pkt.byte 1) = [] →
    exec (.commandFinalReply j.t j.pkt.tag fin) s = .next ((s).endedAs j stOk
        (bytesOf 8 0))) ∧
  (∀ (s : State) (j : Job) (fin : FinishIn),
    s.endsNow j 0x62 →
    j.pkt.byte 0 = 0 →
    (fin.env.tenonBad = [] ∧ fin.env.tenonFailTries = [] ∧ fin.env.tenonIdent = []) →
    fin.hwOk = true →
    exec (.commandFinalReply j.t j.pkt.tag fin) s = .next (((s.trainTenon (j.pkt.byte 1) [] 0 true).1).endedAs j (if (s.trainTenon (j.pkt.byte 1) [] 0 true).2 then stOk else stHwFault)
        ([]))) ∧
  (∀ (s : State) (j : Job) (fin : FinishIn),
    s.endsNow j 0x62 →
    j.pkt.byte 0 = 1 →
    ((s.port (j.pkt.byte 1)).pers = 1 ∨ (s.port (j.pkt.byte 1)).pers = 2) →
    ((s.port (j.pkt.byte 1)).root (j.pkt.byte 2)).up = true →
    fin.hwOk = true →
    exec (.commandFinalReply j.t j.pkt.tag fin) s = .next (((s.setRootOf (j.pkt.byte 1) (j.pkt.byte 2) { (s.port (j.pkt.byte 1)).root (j.pkt.byte 2) with retrain := false }).recAdd 0x24 (0x20 + j.pkt.byte 1) 2 1).endedAs j stOk
        ([]))) ∧
  (∀ (s : State) (j : Job) (fin : FinishIn),
    s.endsNow j 0x62 →
    j.pkt.byte 0 = 1 →
    ((s.port (j.pkt.byte 1)).pers = 1 ∨ (s.port (j.pkt.byte 1)).pers = 2) →
    ((s.port (j.pkt.byte 1)).root (j.pkt.byte 2)).up = false →
    exec (.commandFinalReply j.t j.pkt.tag fin) s = .next (((s.setRootOf (j.pkt.byte 1) (j.pkt.byte 2) { (s.port (j.pkt.byte 1)).root (j.pkt.byte 2) with retrain := false })).endedAs j stHwFault
        ([]))) ∧
  (∀ (s : State) (j : Job) (fin : FinishIn),
    s.endsNow j 0x62 →
    j.pkt.byte 0 = 1 →
    (s.port (j.pkt.byte 1)).pers = 5 →
    (s.port (j.pkt.byte 1)).ridgeUp = true →
    fin.hwOk = true →
    exec (.commandFinalReply j.t j.pkt.tag fin) s = .next ((s.recAdd 0x24 (0x20 + j.pkt.byte 1) 2 1).endedAs j stOk
        ([]))) ∧
  (∀ (s : State) (j : Job) (fin : FinishIn),
    s.endsNow j 0x62 →
    j.pkt.byte 0 = 1 →
    (((s.port (j.pkt.byte 1)).pers = 4 ∧ (s.port (j.pkt.byte 1)).purlinLive = false) ∨ ((s.port (j.pkt.byte 1)).pers = 5 ∧ (s.port (j.pkt.byte 1)).ridgeUp = false)) →
    exec (.commandFinalReply j.t j.pkt.tag fin) s = .next ((s).endedAs j stHwFault
        ([]))) ∧
  (∀ (s : State) (j : Job),
    s.live = true →
    s.runningJob j.t j.pkt.tag.toNat = some j →
    s.plumb.jobs.filter (fun k => k.no == j.no) = [j] →
    (∀ k ∈ s.plumb.jobs, k.running = true) →
    j.opcode ∈ ([0x10, 0x13, 0x34, 0x44, 0x54, 0x62, 0x63, 0x71, 0x72, 0x73] : List Nat) →
    exec (.commandTimeout j.t j.pkt.tag) s = .next ((s).endedAs j stTimeout [])) ∧
  (∀ (s : State) (j : Job),
    s.live = true →
    s.runningJob j.t j.pkt.tag.toNat = some j →
    s.plumb.jobs.filter (fun k => k.no == j.no) = [j] →
    (∀ k ∈ s.plumb.jobs, k.running = true) →
    j.opcode ∈ ([0x12] : List Nat) →
    exec (.commandTimeout j.t j.pkt.tag) s = .next ((s.setFrame (j.pkt.byte 0) { s.frame (j.pkt.byte 0) with resetting := false, coreResets := [] }).endedAs j stTimeout [])) ∧
  (∀ (s : State) (j : Job),
    s.live = true →
    s.runningJob j.t j.pkt.tag.toNat = some j →
    s.plumb.jobs.filter (fun k => k.no == j.no) = [j] →
    (∀ k ∈ s.plumb.jobs, k.running = true) →
    j.opcode ∈ ([0x22, 0x40, 0x42, 0x43] : List Nat) →
    exec (.commandTimeout j.t j.pkt.tag) s = .next (((s.workBays j).foldl (fun r b => r.setHome b { r.home b with work := none }) s).endedAs j stTimeout [])) ∧
  (∀ (s : State) (j : Job),
    s.live = true →
    s.runningJob j.t j.pkt.tag.toNat = some j →
    s.plumb.jobs.filter (fun k => k.no == j.no) = [j] →
    (∀ k ∈ s.plumb.jobs, k.running = true) →
    j.opcode ∈ ([0x30] : List Nat) →
    exec (.commandTimeout j.t j.pkt.tag) s = .next (((s.abortScrub j).1).endedAs j stTimeout [])) ∧
  (∀ (s : State) (j : Job),
    s.live = true →
    s.runningJob j.t j.pkt.tag.toNat = some j →
    s.plumb.jobs.filter (fun k => k.no == j.no) = [j] →
    (∀ k ∈ s.plumb.jobs, k.running = true) →
    j.opcode ∈ ([0x32] : List Nat) →
    exec (.commandTimeout j.t j.pkt.tag) s = .next ((if j.pkt.byte 0 = 0 then s.setStud (j.pkt.byte 1) { s.stud (j.pkt.byte 1) with testing := false } else s).endedAs j stTimeout [])) ∧
  (∀ (s : State) (j : Job),
    s.live = true →
    s.runningJob j.t j.pkt.tag.toNat = some j →
    s.plumb.jobs.filter (fun k => k.no == j.no) = [j] →
    (∀ k ∈ s.plumb.jobs, k.running = true) →
    j.opcode ∈ ([0x70] : List Nat) →
    exec (.commandTimeout j.t j.pkt.tag) s = .next (({ s with plumb := { s.plumb with fwOwner := none, fwLen := 0, fwData := [] } }).endedAs j stTimeout [])) ∧
  (∀ (s : State) (x : TInst) (tag : BitVec 8) (fin : FinishIn),
    (s.live = false ∨ s.runningJob x tag.toNat = none) →
    exec (.commandFinalReply x tag fin) s = .next s ∧ exec (.commandTimeout x tag) s = .next s) ∧
  (∀ (s : State) (j : Job) (fin : FinishIn),
    s.runningJob j.t j.pkt.tag.toNat = some j →
    s.ready j = false →
    exec (.commandFinalReply j.t j.pkt.tag fin) s = .next s) ∧
  (∀ (s : State),
    s.plumb.fwOwner.isSome = true →
    (s.plumb.jobs.any (fun j => decide (0x70 ≤ j.opcode ∧ j.opcode ≤ 0x72)) = false) →
    exec .fwSessionTimeout s = .next { s with plumb := { s.plumb with fwOwner := none, fwLen := 0, fwData := [], flash := { s.plumb.flash with slots := Tab.erase s.plumb.flash.slots s.plumb.fwOther } } }) ∧
  (∀ (s : State),
    (s.plumb.fwOwner = none ∨ s.plumb.jobs.any (fun j => decide (0x70 ≤ j.opcode ∧ j.opcode ≤ 0x72)) = true) →
    exec .fwSessionTimeout s = .next s) ∧
  (∀ (s : State),
    s.live = true →
    s.plumb.jobs = [] →
    exec .plumbRestart s = .next (({ s with power := { s.power with duty := 200 } } : State).pkgEvent 14)) ∧
  (∀ (s : State) (j : Job),
    s.live = true →
    s.plumb.jobs = [j] →
    (j.running = false ∨ j.opcode ∈ ([0x10, 0x13, 0x34, 0x44, 0x54, 0x62, 0x63, 0x71, 0x72, 0x73] : List Nat)) →
    (j.running = true ∨ j.res = []) →
    exec .plumbRestart s = .next ((({ s with power := { s.power with duty := 200 } } : State).pkgEvent 14).endedAs j stHwFault [])) ∧
  (∀ (s : State),
    s.live = true →
    RunsTo (exec .plumbRestart s) fun u =>
      u.plumb.jobs = [] ∧ u.power.duty = 200 ∧ u.plumb.flash = s.plumb.flash) ∧
  (∀ (s : State),
    s.live = false →
    exec .plumbRestart s = .next s) ∧
  (∀ (s : State) (j : Job) (fin : FinishIn),
    s.endsNow j 0x13 →
    j.pkt.byte 0 < 12 →
    fin.env = {} →
    (s.trainTenon (j.pkt.byte 0) [] 0 true).2 = true →
    RunsTo (exec (.commandFinalReply j.t j.pkt.tag fin) s) fun u =>
      (u.stud (j.pkt.byte 0)).state = 0 ∧ (u.stud (j.pkt.byte 0)).cores = 0xFFFFFFFF ∧ (u.tenon (j.pkt.byte 0)).st = 2 ∧
      (∀ c, c / 32 = j.pkt.byte 0 → (u.core c).run = .held ∧ (u.core c).entry = true ∧ (u.core c).cause = 4 ∧ (u.core c).regs = {} ∧ (u.core c).pipe = {}) ∧
      (∀ n, n ≠ j.pkt.byte 0 → u.stud n = s.stud n ∧ u.tenon n = s.tenon n) ∧ (∀ c, c / 32 ≠ j.pkt.byte 0 → (u.core c).xlat = (s.core c).xlat) ∧
      (∀ k ∈ u.plumb.jobs, k.no ≠ j.no) ∧ u.plumb.flash = s.plumb.flash ∧ u.chans = s.chans) ∧
  (∀ (s : State) (j : Job) (fin : FinishIn),
    s.endsNow j 0x12 →
    j.pkt.byte 0 < frameCount s.mode →
    fin.env = {} →
    s.power.trip = false →
    (studsOf s.mode (j.pkt.byte 0)).all (fun n => (s.trainTenon n [] 0 true).2) = true →
    RunsTo (exec (.commandFinalReply j.t j.pkt.tag fin) s) fun u =>
      (u.frame (j.pkt.byte 0)).booted = true ∧ (u.frame (j.pkt.byte 0)).halted = false ∧ (u.frame (j.pkt.byte 0)).resetting = false ∧ (u.frame (j.pkt.byte 0)).cause = 3 ∧
      (∀ n ∈ studsOf s.mode (j.pkt.byte 0), (u.stud n).state = 0 ∧ (u.tenon n).st = 2) ∧ (∀ h ∈ s.homesOf (j.pkt.byte 0), (u.home h).stopped = false) ∧
      u.plumb.flash = s.plumb.flash ∧ u.mode = s.mode)

/-- A reply over MCTP is a message of the vendor-defined type; a reply to a ring or a mailbox waits there while its reply ring is disabled or full, holding its tag if it is a final one, and a mailbox with room gets it in the slot at its tail, which moves on by one. A packet whose CRC fails is answered INTEGRITY and counted in CMD_EVENTS, and one of an undefined opcode is answered BAD_OPCODE; the first holds no tag, and neither changes anything else. The slot at a command ring's head is read at its lines' homes, the header's line first and then as many lines as the header's LENGTH asks for, or for a mailbox from the host; once all have come the head moves on by one, and the command is taken; a slot that lies in no memory, or whose read fails, clears the ring's enable and loses the transport instance, and one that carries a poison mark does so too and is reported as a consumption. Nothing is fetched while the ring is empty or disabled, or 256 tags are outstanding, and nothing more while a read is under way. A lost transport instance frees its tags and drops the replies that wait; its commands run on without replies. -/
def Obligations.PlumbRefusesAndLosesTransports : Prop :=
  (∀ (s : State) (x : TInst) (own : Bool) (t st op : Nat) (p : CmdPkt) (d : Nat) (l : List Byte),
    x.kind = .mctp →
    s.replied x own t st op p d l = { s with plumb := { s.plumb with mctpOut := s.plumb.mctpOut ++ [(own, vdmHead ++ replyPacket st op p.tag.toNat p.seq.toNat d l)] } }) ∧
  (∀ (s : State) (x : TInst) (own : Bool) (t st op : Nat) (p : CmdPkt) (d : Nat) (l : List Byte),
    x.kind = .ring →
    (st < 256 ∧ op < 256) →
    ((s.frame x.inst).ring.cfg.getLsbD 1 = false ∨ ringFull (s.frame x.inst).ring.rplTail (s.frame x.inst).ring.rplHead (s.frame x.inst).ring.logInF.2 = true) →
    p.notify = false →
    s.replied x own t st op p d l = (if freesTag (replyPacket st op p.tag.toNat p.seq.toNat d l) then { s with plumb := { s.plumb with dead := s.plumb.dead ++ [{ t := x, tag := p.tag.toNat, opcode := op, taken := t, reply := replyPacket st op p.tag.toNat p.seq.toNat d l }] } } else s).setFrame x.inst { (s.frame x.inst) with ring := { (s.frame x.inst).ring with replies := (s.frame x.inst).ring.replies ++ [replyPacket st op p.tag.toNat p.seq.toNat d l] } }) ∧
  (∀ (s : State) (x : TInst) (own : Bool) (t st op : Nat) (p : CmdPkt) (d : Nat) (l : List Byte),
    x.kind = .dovetail →
    (st < 256 ∧ op < 256) →
    ((s.port x.inst).dt.bme = false ∨ (s.port x.inst).dt.cfg.getLsbD 1 = false ∨ ringFull (s.port x.inst).dt.rplTail (s.port x.inst).dt.rplHead (s.port x.inst).dt.logInF.2 = true) →
    p.notify = false →
    s.replied x own t st op p d l = (if freesTag (replyPacket st op p.tag.toNat p.seq.toNat d l) then { s with plumb := { s.plumb with dead := s.plumb.dead ++ [{ t := x, tag := p.tag.toNat, opcode := op, taken := t, reply := replyPacket st op p.tag.toNat p.seq.toNat d l }] } } else s).setPort x.inst { (s.port x.inst) with dt := { (s.port x.inst).dt with replies := (s.port x.inst).dt.replies ++ [replyPacket st op p.tag.toNat p.seq.toNat d l] } }) ∧
  (∀ (s : State) (x : TInst) (own : Bool) (t st op : Nat) (p : CmdPkt) (d : Nat) (l : List Byte),
    x.kind = .dovetail →
    (st < 256 ∧ op < 256) →
    ((s.port x.inst).dt.bme = true ∧ (s.port x.inst).dt.cfg.getLsbD 1 = true ∧ ringFull (s.port x.inst).dt.rplTail (s.port x.inst).dt.rplHead (s.port x.inst).dt.logInF.2 = false) →
    (s.port x.inst).dt.replies = [] →
    p.notify = false →
    let u := s.replied x own t st op p d l;
      (u.port x.inst).dt.sent = (s.port x.inst).dt.sent ++ [((s.port x.inst).dt.rplInF.toNat + (s.port x.inst).dt.rplTail * 8192, replyPacket st op p.tag.toNat p.seq.toNat d l)] ∧
      (u.port x.inst).dt.rplTail = ((s.port x.inst).dt.rplTail + 1) % 2 ^ (s.port x.inst).dt.logInF.2 ∧ (u.port x.inst).dt.replies = [] ∧
      (∀ q, q ≠ x.inst → u.port q = s.port q) ∧ u.plumb.jobs = s.plumb.jobs ∧ s.keepsData u ∧ u.cores = s.cores ∧ u.frames = s.frames) ∧
  (∀ (s : State) (x : TInst) (b : Byte) (p : CmdPkt),
    s.canReach x = true →
    p.crcOk b = false →
    exec (.commandCrcFailure x b p) s = .next ((s.cmdEvent 6).putReply x false s.mtime.toNat (replyPacket stIntegrity b.toNat p.tag.toNat p.seq.toNat 0 []) false)) ∧
  (∀ (s : State) (x : TInst) (b : Byte) (p : CmdPkt),
    (s.canReach x = false ∨ p.crcOk b = true) →
    exec (.commandCrcFailure x b p) s = .next s) ∧
  (∀ (s : State) (x : TInst) (b : Byte) (p : CmdPkt),
    s.canReach x = true →
    p.crcOk b = true →
    (opRow b.toNat).isNone = true →
    exec (.badOpcode x b p) s = .next (s.refuse x stBadOpcode b.toNat p 0)) ∧
  (∀ (s : State) (x : TInst) (b : Byte) (p : CmdPkt),
    s.canReach x = true →
    p.crcOk b = false →
    (opRow b.toNat).isNone = true →
    exec (.badOpcode x b p) s = .next ((s.cmdEvent 6).putReply x false s.mtime.toNat (replyPacket stIntegrity b.toNat p.tag.toNat p.seq.toNat 0 []) false)) ∧
  (∀ (s : State) (x : TInst) (b : Byte) (p : CmdPkt),
    (s.canReach x = false ∨ (opRow b.toNat).isSome = true) →
    exec (.badOpcode x b p) s = .next s) ∧
  (∀ (s : State) (x : TInst),
    s.live = true →
    x.kind = .mctp →
    exec (.transportLost x) s = .next { s with plumb := { s.plumb with jobs := s.plumb.jobs.map (fun j => if j.t = x then { j with lost := true } else j), dead := s.plumb.dead.filter (fun e => e.t != x) } }) ∧
  (∀ (s : State) (x : TInst),
    s.live = true →
    x.kind = .ring →
    exec (.transportLost x) s = .next (State.setFrame { s with plumb := { s.plumb with jobs := s.plumb.jobs.map (fun j => if j.t = x then { j with lost := true } else j), dead := s.plumb.dead.filter (fun e => e.t != x) } } x.inst { (s.frame x.inst) with ring := { (s.frame x.inst).ring with replies := [], wr := false } })) ∧
  (∀ (s : State) (x : TInst),
    s.live = true →
    x.kind = .dovetail →
    exec (.transportLost x) s = .next (State.setPort { s with plumb := { s.plumb with jobs := s.plumb.jobs.map (fun j => if j.t = x then { j with lost := true } else j), dead := s.plumb.dead.filter (fun e => e.t != x) } } x.inst { (s.port x.inst) with dt := { (s.port x.inst).dt with replies := [] } })) ∧
  (∀ (s : State) (x : TInst),
    s.live = false →
    exec (.transportLost x) s = .next s) ∧
  (∀ (s : State) (f : FrameId) (a : Nat) (ok : Bool) (b : Byte) (p : CmdPkt),
    s.ncBusy (.fetch f.val : NcOwner) = false →
    s.canReach ({ kind := .ring, inst := f.val } : TInst) = true →
    (s.frame f).ring.cfg.getLsbD 0 = true →
    (s.frame f).ring.cmdHead ≠ (s.frame f).ring.cmdTail →
    s.outstanding ({ kind := .ring, inst := f.val } : TInst) < 256 →
    a = (s.frame f).ring.cmdInF.toNat + (s.frame f).ring.cmdHead * 8192 →
    (ok = false ∨ s.ringSlotOk f a = false) →
    RunsTo (exec (.ringSlotFetch (.frame f) ok b p) s) fun u =>
      (u.frame f).ring.cfg = setFld (s.frame f).ring.cfg 0 0 0 ∧ (u.frame f).ring.ringErr = true ∧ (u.frame f).ring.cmdHead = (s.frame f).ring.cmdHead ∧ (u.frame f).ring.replies = [] ∧
      u.ncBuf = s.ncBuf.filter (fun e => e.owner != (.fetch f.val : NcOwner)) ∧
      u.plumb.jobs = s.plumb.jobs.map (fun j => if j.t = ({ kind := .ring, inst := f.val } : TInst) then { j with lost := true } else j) ∧ u.plumb.dead = s.plumb.dead.filter (fun e => e.t != ({ kind := .ring, inst := f.val } : TInst)) ∧
      (∀ g, g ≠ f.val → u.frame g = s.frame g) ∧ s.keepsData u ∧ u.cores = s.cores ∧ u.ports = s.ports ∧ u.scribe = s.scribe) ∧
  (∀ (s : State) (f : FrameId) (a : Nat) (b : Byte) (p : CmdPkt),
    s.ncBusy (.fetch f.val : NcOwner) = false →
    s.canReach ({ kind := .ring, inst := f.val } : TInst) = true →
    (s.frame f).ring.cfg.getLsbD 0 = true →
    (s.frame f).ring.cmdHead ≠ (s.frame f).ring.cmdTail →
    s.outstanding ({ kind := .ring, inst := f.val } : TInst) < 256 →
    a = (s.frame f).ring.cmdInF.toNat + (s.frame f).ring.cmdHead * 8192 →
    s.ringSlotOk f a = true →
    s.ncLine (.fetch f.val : NcOwner) (a / 64) = none →
    exec (.ringSlotFetch (.frame f) true b p) s = .next (s.ncAsk (.fetch f.val : NcOwner) [a / 64])) ∧
  (∀ (s : State) (f : FrameId) (a : Nat) (e : NcLine) (b : Byte) (p : CmdPkt),
    s.ncBusy (.fetch f.val : NcOwner) = false →
    s.canReach ({ kind := .ring, inst := f.val } : TInst) = true →
    (s.frame f).ring.cfg.getLsbD 0 = true →
    (s.frame f).ring.cmdHead ≠ (s.frame f).ring.cmdTail →
    s.outstanding ({ kind := .ring, inst := f.val } : TInst) < 256 →
    a = (s.frame f).ring.cmdInF.toNat + (s.frame f).ring.cmdHead * 8192 →
    s.ringSlotOk f a = true →
    s.ncLine (.fetch f.val : NcOwner) (a / 64) = some e →
    e.err = true →
    RunsTo (exec (.ringSlotFetch (.frame f) true b p) s) fun u =>
      (u.frame f).ring.cfg = setFld (s.frame f).ring.cfg 0 0 0 ∧ (u.frame f).ring.ringErr = true ∧ (u.frame f).ring.cmdHead = (s.frame f).ring.cmdHead ∧ (u.frame f).ring.replies = [] ∧
      u.ncBuf = s.ncBuf.filter (fun e => e.owner != (.fetch f.val : NcOwner)) ∧
      u.plumb.jobs = s.plumb.jobs.map (fun j => if j.t = ({ kind := .ring, inst := f.val } : TInst) then { j with lost := true } else j) ∧ u.plumb.dead = s.plumb.dead.filter (fun e => e.t != ({ kind := .ring, inst := f.val } : TInst)) ∧
      (∀ g, g ≠ f.val → u.frame g = s.frame g) ∧ s.keepsData u ∧ u.cores = s.cores ∧ u.ports = s.ports ∧ u.scribe = s.scribe) ∧
  (∀ (s : State) (f : FrameId) (a : Nat) (e : NcLine) (b : Byte) (p : CmdPkt),
    s.ncBusy (.fetch f.val : NcOwner) = false →
    s.canReach ({ kind := .ring, inst := f.val } : TInst) = true →
    (s.frame f).ring.cfg.getLsbD 0 = true →
    (s.frame f).ring.cmdHead ≠ (s.frame f).ring.cmdTail →
    s.outstanding ({ kind := .ring, inst := f.val } : TInst) < 256 →
    a = (s.frame f).ring.cmdInF.toNat + (s.frame f).ring.cmdHead * 8192 →
    s.ringSlotOk f a = true →
    s.ncLine (.fetch f.val : NcOwner) (a / 64) = some e →
    (e.err = false ∧ e.poison = true) →
    let r := (State.setFrame ({ s with ncBuf := s.ncBuf.filter (fun e => e.owner != (.fetch f.val : NcOwner)), plumb := { s.plumb with jobs := s.plumb.jobs.map (fun j => if j.t = ({ kind := .ring, inst := f.val } : TInst) then { j with lost := true } else j), dead := s.plumb.dead.filter (fun e => e.t != ({ kind := .ring, inst := f.val } : TInst)) } }) f { (s.frame f) with ring := { (s.frame f).ring with ringErr := true, cfg := setFld (s.frame f).ring.cfg 0 0 0, replies := [], wr := false } });
      exec (.ringSlotFetch (.frame f) true b p) s = .next (r.report { cls := 2, src := 1, code := 0x20, inst := 0, pa := some a, frame := some f.val })) ∧
  (∀ (s : State) (f : FrameId) (a : Nat) (e : NcLine) (b : Byte) (p : CmdPkt),
    s.ncBusy (.fetch f.val : NcOwner) = false →
    s.canReach ({ kind := .ring, inst := f.val } : TInst) = true →
    (s.frame f).ring.cfg.getLsbD 0 = true →
    (s.frame f).ring.cmdHead ≠ (s.frame f).ring.cmdTail →
    s.outstanding ({ kind := .ring, inst := f.val } : TInst) < 256 →
    a = (s.frame f).ring.cmdInF.toNat + (s.frame f).ring.cmdHead * 8192 →
    s.ringSlotOk f a = true →
    s.ncLine (.fetch f.val : NcOwner) (a / 64) = some e →
    (e.err = false ∧ e.poison = false) →
    (linesOf a (16 + min 8176 (bits (ofBytes (s.ncBytes (.fetch f.val : NcOwner) a 16)) 44 32))).any (fun l => (s.ncLine (.fetch f.val : NcOwner) l).isNone) = true →
    exec (.ringSlotFetch (.frame f) true b p) s = .next (s.ncAsk (.fetch f.val : NcOwner) (linesOf a (16 + min 8176 (bits (ofBytes (s.ncBytes (.fetch f.val : NcOwner) a 16)) 44 32))))) ∧
  (∀ (s : State) (f : FrameId) (a : Nat) (e : NcLine) (b : Byte) (p : CmdPkt),
    s.ncBusy (.fetch f.val : NcOwner) = false →
    s.canReach ({ kind := .ring, inst := f.val } : TInst) = true →
    (s.frame f).ring.cfg.getLsbD 0 = true →
    (s.frame f).ring.cmdHead ≠ (s.frame f).ring.cmdTail →
    s.outstanding ({ kind := .ring, inst := f.val } : TInst) < 256 →
    a = (s.frame f).ring.cmdInF.toNat + (s.frame f).ring.cmdHead * 8192 →
    s.ringSlotOk f a = true →
    s.ncLine (.fetch f.val : NcOwner) (a / 64) = some e →
    (e.err = false ∧ e.poison = false) →
    (∀ l ∈ linesOf a (16 + min 8176 (bits (ofBytes (s.ncBytes (.fetch f.val : NcOwner) a 16)) 44 32)), (s.ncLine (.fetch f.val : NcOwner) l).isSome = true) →
    s.ncFailed (.fetch f.val : NcOwner) = true →
    RunsTo (exec (.ringSlotFetch (.frame f) true b p) s) fun u =>
      (u.frame f).ring.cfg = setFld (s.frame f).ring.cfg 0 0 0 ∧ (u.frame f).ring.ringErr = true ∧ (u.frame f).ring.cmdHead = (s.frame f).ring.cmdHead ∧ (u.frame f).ring.replies = [] ∧
      u.ncBuf = s.ncBuf.filter (fun e => e.owner != (.fetch f.val : NcOwner)) ∧
      u.plumb.jobs = s.plumb.jobs.map (fun j => if j.t = ({ kind := .ring, inst := f.val } : TInst) then { j with lost := true } else j) ∧ u.plumb.dead = s.plumb.dead.filter (fun e => e.t != ({ kind := .ring, inst := f.val } : TInst)) ∧
      (∀ g, g ≠ f.val → u.frame g = s.frame g) ∧ s.keepsData u ∧ u.cores = s.cores ∧ u.ports = s.ports ∧ u.scribe = s.scribe) ∧
  (∀ (s : State) (f : FrameId) (a : Nat) (e : NcLine) (b : Byte) (p : CmdPkt) (x : NcLine),
    s.ncBusy (.fetch f.val : NcOwner) = false →
    s.canReach ({ kind := .ring, inst := f.val } : TInst) = true →
    (s.frame f).ring.cfg.getLsbD 0 = true →
    (s.frame f).ring.cmdHead ≠ (s.frame f).ring.cmdTail →
    s.outstanding ({ kind := .ring, inst := f.val } : TInst) < 256 →
    a = (s.frame f).ring.cmdInF.toNat + (s.frame f).ring.cmdHead * 8192 →
    s.ringSlotOk f a = true →
    s.ncLine (.fetch f.val : NcOwner) (a / 64) = some e →
    (e.err = false ∧ e.poison = false) →
    (∀ l ∈ linesOf a (16 + min 8176 (bits (ofBytes (s.ncBytes (.fetch f.val : NcOwner) a 16)) 44 32)), (s.ncLine (.fetch f.val : NcOwner) l).isSome = true) →
    s.ncFailed (.fetch f.val : NcOwner) = false →
    s.ncBuf.find? (fun e => e.owner == (.fetch f.val : NcOwner) && e.poison) = some x →
    let r := (State.setFrame ({ s with ncBuf := s.ncBuf.filter (fun e => e.owner != (.fetch f.val : NcOwner)), plumb := { s.plumb with jobs := s.plumb.jobs.map (fun j => if j.t = ({ kind := .ring, inst := f.val } : TInst) then { j with lost := true } else j), dead := s.plumb.dead.filter (fun e => e.t != ({ kind := .ring, inst := f.val } : TInst)) } }) f { (s.frame f) with ring := { (s.frame f).ring with ringErr := true, cfg := setFld (s.frame f).ring.cfg 0 0 0, replies := [], wr := false } });
      exec (.ringSlotFetch (.frame f) true b p) s = .next (r.report { cls := 2, src := 1, code := 0x20, inst := 0, pa := some (max a (x.line * 64)), frame := some f.val })) ∧
  (∀ (s : State) (f : FrameId) (a : Nat) (e : NcLine) (b : Byte) (p : CmdPkt) (u : State),
    s.ncBusy (.fetch f.val : NcOwner) = false →
    s.canReach ({ kind := .ring, inst := f.val } : TInst) = true →
    (s.frame f).ring.cfg.getLsbD 0 = true →
    (s.frame f).ring.cmdHead ≠ (s.frame f).ring.cmdTail →
    s.outstanding ({ kind := .ring, inst := f.val } : TInst) < 256 →
    a = (s.frame f).ring.cmdInF.toNat + (s.frame f).ring.cmdHead * 8192 →
    s.ringSlotOk f a = true →
    s.ncLine (.fetch f.val : NcOwner) (a / 64) = some e →
    (e.err = false ∧ e.poison = false) →
    (∀ l ∈ linesOf a (16 + min 8176 (bits (ofBytes (s.ncBytes (.fetch f.val : NcOwner) a 16)) 44 32)), (s.ncLine (.fetch f.val : NcOwner) l).isSome = true) →
    (∀ x ∈ s.ncBuf, x.owner = (.fetch f.val : NcOwner) → x.err = false ∧ x.poison = false) →
    u = State.setFrame { s with ncBuf := s.ncBuf.filter (fun e => e.owner != (.fetch f.val : NcOwner)) } f { (s.frame f) with ring := { (s.frame f).ring with cmdHead := ((s.frame f).ring.cmdHead + 1) % 2 ^ (s.frame f).ring.logInF.1 } } →
    exec (.ringSlotFetch (.frame f) true b p) s =
      .next (u.takeCmd ({ kind := .ring, inst := f.val } : TInst) (bits (ofBytes (s.ncBytes (.fetch f.val : NcOwner) a 16)) 7 0) (slotPkt (ofBytes (s.ncBytes (.fetch f.val : NcOwner) a 16)) (s.ncBytes (.fetch f.val : NcOwner) (a + 16) (min 8176 (bits (ofBytes (s.ncBytes (.fetch f.val : NcOwner) a 16)) 44 32)))))) ∧
  (∀ (s : State) (f : FrameId) (ok : Bool) (b : Byte) (p : CmdPkt),
    s.ncBusy (.fetch f.val : NcOwner) = false →
    (s.canReach ({ kind := .ring, inst := f.val } : TInst) = false ∨ (s.frame f).ring.cfg.getLsbD 0 = false ∨ (s.frame f).ring.cmdHead = (s.frame f).ring.cmdTail ∨ 256 ≤ s.outstanding ({ kind := .ring, inst := f.val } : TInst)) →
    exec (.ringSlotFetch (.frame f) ok b p) s = .next (s.ncDrop (.fetch f.val : NcOwner))) ∧
  (∀ (s : State) (f : FrameId) (ok : Bool) (b : Byte) (p : CmdPkt),
    s.ncBusy (.fetch f.val : NcOwner) = true →
    exec (.ringSlotFetch (.frame f) ok b p) s = .next s) ∧
  (∀ (s : State) (q : PortId) (ok : Bool) (b : Byte) (p : CmdPkt),
    s.canReach (dtInst q) = true →
    ((s.port q).dtUp = true ∧ (s.port q).dt.bme = true ∧ (s.port q).dt.cfg.getLsbD 0 = true) →
    (s.port q).dt.cmdHead ≠ (s.port q).dt.cmdTail →
    s.outstanding (dtInst q) < 256 →
    exec (.ringSlotFetch (.port q) true b p) s = .next ((s.setPort q { (s.port q) with dt := { (s.port q).dt.wake with cmdHead := ((s.port q).dt.cmdHead + 1) % 2 ^ (s.port q).dt.logInF.1 } }).takeCmd (dtInst q) b.toNat p)) ∧
  (∀ (s : State) (q : PortId) (ok : Bool) (b : Byte) (p : CmdPkt),
    s.canReach (dtInst q) = true →
    ((s.port q).dtUp = true ∧ (s.port q).dt.bme = true ∧ (s.port q).dt.cfg.getLsbD 0 = true) →
    (s.port q).dt.cmdHead ≠ (s.port q).dt.cmdTail →
    s.outstanding (dtInst q) < 256 →
    exec (.ringSlotFetch (.port q) false b p) s = .next (State.setPort ({ s with plumb := { s.plumb with jobs := s.plumb.jobs.map (fun j => if j.t = dtInst q then { j with lost := true } else j), dead := s.plumb.dead.filter (fun e => e.t != dtInst q) } }) q { (s.port q) with dt := { ({ (s.port q).dt with ringErr := true, cfg := setFld (s.port q).dt.cfg 0 0 0 } : Dovetail).vector 3 with replies := [] } })) ∧
  (∀ (s : State) (q : PortId) (ok : Bool) (b : Byte) (p : CmdPkt),
    (s.canReach (dtInst q) = false ∨ (s.port q).dtUp = false ∨ (s.port q).dt.bme = false ∨ (s.port q).dt.cfg.getLsbD 0 = false ∨ (s.port q).dt.cmdHead = (s.port q).dt.cmdTail ∨ 256 ≤ s.outstanding (dtInst q)) →
    exec (.ringSlotFetch (.port q) ok b p) s = .next s)

/-- On a live package ENTDAA sets the dynamic address; Set Endpoint ID sets the endpoint ID, and where one was set before, the commands of the transport lose their replies and free their tags (IDs 0 to 7 and 0xFF are turned away); the control queries are answered with the endpoint ID, its UUID, the three message types 0x00, 0x05 and 0x7E, the PCI-SIG identifier, and a version the spec does not state. Nothing else changes, and nothing at all on a package that is not live. The octets of a control response follow DSP0236 and the turned-away IDs too: log entry 27 (PRESUMED), the model's choice. -/
def Obligations.MctpControl : Prop :=
  (∀ (s : State) (a : BitVec 7),
    s.live = true →
    exec (.entdaa a) s = .next { s with plumb := { s.plumb with dynAddr := a.toNat } }) ∧
  (∀ (s : State) (e : Byte),
    s.live = true →
    8 ≤ e.toNat →
    e.toNat ≠ 0xFF →
    s.plumb.eid = 0 →
    exec (.setEndpointId e) s = .next { s with plumb := { s.plumb with eid := e.toNat, mctpOut := s.plumb.mctpOut ++ [(false, [0x00, 0x01, 0x00, 0x00, e, 0x00])] } }) ∧
  (∀ (s : State) (e : Byte),
    s.live = true →
    8 ≤ e.toNat →
    e.toNat ≠ 0xFF →
    s.plumb.eid ≠ 0 →
    exec (.setEndpointId e) s = .next { s with plumb := { s.plumb with eid := e.toNat, mctpOut := s.plumb.mctpOut ++ [(false, [0x00, 0x01, 0x00, 0x00, e, 0x00])], jobs := s.plumb.jobs.map (fun j => if j.t = { kind := .mctp, inst := 0 } then { j with lost := true } else j), dead := s.plumb.dead.filter (fun d => d.t != { kind := .mctp, inst := 0 }) } }) ∧
  (∀ (s : State) (e : Byte),
    s.live = true →
    (e.toNat < 8 ∨ e.toNat = 0xFF) →
    exec (.setEndpointId e) s = .next { s with plumb := { s.plumb with mctpOut := s.plumb.mctpOut ++ [(false, [0x00, 0x01, 0x02])] } }) ∧
  (∀ (s : State),
    s.live = true →
    exec .getEndpointId s = .next { s with plumb := { s.plumb with mctpOut := s.plumb.mctpOut ++ [(false, [0x00, 0x02, 0x00, BitVec.ofNat 8 s.plumb.eid, 0x00, 0x00])] } }) ∧
  (∀ (s : State),
    s.live = true →
    exec .getEndpointUuid s = .next { s with plumb := { s.plumb with mctpOut := s.plumb.mctpOut ++ [(false, [0x00, 0x03, 0x00] ++ bytesOf 16 Config.endpointUuid.toNat)] } }) ∧
  (∀ (s : State),
    s.live = true →
    exec .getMctpVersionSupport s = .next { s with plumb := { s.plumb with mctpOut := s.plumb.mctpOut ++ [(false, [0x00, 0x04, 0x00, 0x01] ++ (List.range 4).map (Config.spdmOctet 0x104))] } }) ∧
  (∀ (s : State),
    s.live = true →
    exec .getMessageTypeSupport s = .next { s with plumb := { s.plumb with mctpOut := s.plumb.mctpOut ++ [(false, [0x00, 0x05, 0x00, 0x03, 0x00, 0x05, 0x7E])] } }) ∧
  (∀ (s : State),
    s.live = true →
    exec .getVendorDefinedMessageSupport s = .next { s with plumb := { s.plumb with mctpOut := s.plumb.mctpOut ++ [(false, [0x00, 0x06, 0x00, 0xFF, 0x00] ++ (vdmHead.drop 1).take 2 ++ (List.range 2).map (Config.spdmOctet 0x106))] } }) ∧
  (∀ (s : State) (a : BitVec 7) (e : Byte),
    s.live = false →
    exec (.entdaa a) s = .next s ∧ exec (.setEndpointId e) s = .next s ∧ exec .getEndpointId s = .next s ∧ exec .getEndpointUuid s = .next s ∧ exec .getMctpVersionSupport s = .next s ∧ exec .getMessageTypeSupport s = .next s ∧ exec .getVendorDefinedMessageSupport s = .next s)

/-- A reached transport instance that asks GET_VERSION, GET_CAPABILITIES and NEGOTIATE_ALGORITHMS in order is answered versions 1.1 and 1.2, the capabilities of R449 and ECDSA P-384 with SHA-384, and its own SPDM state follows; then GET_DIGESTS, GET_CERTIFICATE, CHALLENGE and GET_MEASUREMENTS are answered for slot 0 with the digest, the chain, and the measurement blocks it sees, one, all or their number. A request before its turn is answered ERROR UnexpectedRequest, one in another version VersionMismatch, another slot, another algorithm or a request that the table does not name UnsupportedRequest, a block or a portion that does not exist InvalidRequest. Nothing else changes: a transport instance without SPDM is not answered, and the others keep their SPDM state. The octets and the codes of ERROR follow DSP0274: log entry 27 (PRESUMED), the model's choice; the responder's nonces and signatures are free values (log entry 2). -/
def Obligations.SpdmResponder : Prop :=
  (∀ (s : State) (x : TInst) (v : Byte),
    s.spdmReach x = true →
    v.toNat = 0x10 →
    exec (.getVersion x v) s = .next (s.setSpdm x { version := true, out := (s.spdmOf x).out ++ [[0x10, 0x04, 0x00, 0x00, 0x00, 0x02, 0x00, 0x11, 0x00, 0x12]] })) ∧
  (∀ (s : State) (x : TInst) (v : Byte),
    s.spdmReach x = true →
    v.toNat ≠ 0x10 →
    exec (.getVersion x v) s = .next ((s).setSpdm x { s.spdmOf x with out := (s.spdmOf x).out ++ [[BitVec.ofNat 8 (if (s.spdmOf x).ver = 0 then 0x10 else (s.spdmOf x).ver), 0x7F, 0x41, 0x00]] })) ∧
  (∀ (s : State) (x : TInst) (v : Byte),
    s.spdmReach x = true →
    (s.spdmOf x).version = true →
    v.toNat = 0x11 →
    exec (.getCapabilities x v) s = .next ((s).setSpdm x { s.spdmOf x with caps := true, algs := false, ver := 0x11, out := (s.spdmOf x).out ++ [[0x11, 0x61, 0x00, 0x00] ++ [0x00, Config.spdmOctet 0x61 8, 0x00, 0x00, 0x36, 0x00, 0x00, 0x00]] })) ∧
  (∀ (s : State) (x : TInst) (v : Byte),
    s.spdmReach x = true →
    (s.spdmOf x).version = true →
    v.toNat = 0x12 →
    exec (.getCapabilities x v) s = .next ((s).setSpdm x { s.spdmOf x with caps := true, algs := false, ver := 0x12, out := (s.spdmOf x).out ++ [[0x12, 0x61, 0x00, 0x00] ++ [0x00, Config.spdmOctet 0x61 8, 0x00, 0x00, 0x36, 0x00, 0x00, 0x00] ++ (List.range 8).map (Config.spdmOctet 0x61)] })) ∧
  (∀ (s : State) (x : TInst) (v : Byte),
    s.spdmReach x = true →
    (s.spdmOf x).version = true →
    (v.toNat ≠ 0x11 ∧ v.toNat ≠ 0x12) →
    exec (.getCapabilities x v) s = .next ((s).setSpdm x { s.spdmOf x with out := (s.spdmOf x).out ++ [[BitVec.ofNat 8 (if (s.spdmOf x).ver = 0 then 0x10 else (s.spdmOf x).ver), 0x7F, 0x41, 0x00]] })) ∧
  (∀ (s : State) (x : TInst) (v : Byte),
    s.spdmReach x = true →
    (s.spdmOf x).version = false →
    exec (.getCapabilities x v) s = .next ((s).setSpdm x { s.spdmOf x with out := (s.spdmOf x).out ++ [[BitVec.ofNat 8 (if (s.spdmOf x).ver = 0 then 0x10 else (s.spdmOf x).ver), 0x7F, 0x04, 0x00]] })) ∧
  (∀ (s : State) (x : TInst) (v : Byte),
    s.spdmReach x = true →
    (s.spdmOf x).caps = true →
    v.toNat = (s.spdmOf x).ver →
    exec (.negotiateAlgorithms x v true true) s = .next ((s).setSpdm x { s.spdmOf x with algs := true, out := (s.spdmOf x).out ++ [[v, 0x63, 0x00, 0x00, 0x24, 0x00, 0x01, 0x00, 0x04, 0x00, 0x00, 0x00, 0x80, 0x00, 0x00, 0x00, 0x02, 0x00, 0x00, 0x00] ++ List.replicate 16 0] })) ∧
  (∀ (s : State) (x : TInst) (v : Byte) (a b : Bool),
    s.spdmReach x = true →
    (s.spdmOf x).caps = true →
    v.toNat = (s.spdmOf x).ver →
    (a = false ∨ b = false) →
    exec (.negotiateAlgorithms x v a b) s = .next ((s).setSpdm x { s.spdmOf x with out := (s.spdmOf x).out ++ [[BitVec.ofNat 8 (if (s.spdmOf x).ver = 0 then 0x10 else (s.spdmOf x).ver), 0x7F, 0x07, 0xE3]] })) ∧
  (∀ (s : State) (x : TInst) (v : Byte) (a b : Bool),
    s.spdmReach x = true →
    (s.spdmOf x).caps = false →
    exec (.negotiateAlgorithms x v a b) s = .next ((s).setSpdm x { s.spdmOf x with out := (s.spdmOf x).out ++ [[BitVec.ofNat 8 (if (s.spdmOf x).ver = 0 then 0x10 else (s.spdmOf x).ver), 0x7F, 0x04, 0x00]] })) ∧
  (∀ (s : State) (x : TInst) (v : Byte) (a b : Bool),
    s.spdmReach x = true →
    (s.spdmOf x).caps = true →
    v.toNat ≠ (s.spdmOf x).ver →
    exec (.negotiateAlgorithms x v a b) s = .next ((s).setSpdm x { s.spdmOf x with out := (s.spdmOf x).out ++ [[BitVec.ofNat 8 (if (s.spdmOf x).ver = 0 then 0x10 else (s.spdmOf x).ver), 0x7F, 0x41, 0x00]] })) ∧
  (∀ (s : State) (x : TInst) (v : Byte),
    s.spdmReach x = true →
    (s.spdmOf x).algs = true →
    v.toNat = (s.spdmOf x).ver →
    exec (.getDigests x v) s = .next ((s).setSpdm x { s.spdmOf x with out := (s.spdmOf x).out ++ [[v, 0x01, 0x00, 0x01] ++ bytesOf 48 (Config.sha384 s.chain).toNat] })) ∧
  (∀ (s : State) (x : TInst) (v k : Byte) (o n : BitVec 16),
    s.spdmReach x = true →
    (s.spdmOf x).algs = true →
    v.toNat = (s.spdmOf x).ver →
    k = 0 →
    exec (.getCertificate x v k o n) s = .next (if s.chain.length ≤ o.toNat ∨ n = 0 then (s).setSpdm x { s.spdmOf x with out := (s.spdmOf x).out ++ [[BitVec.ofNat 8 (if (s.spdmOf x).ver = 0 then 0x10 else (s.spdmOf x).ver), 0x7F, 0x01, 0x00]] } else (s).setSpdm x { s.spdmOf x with out := (s.spdmOf x).out ++ [[v, 0x02, 0x00, 0x00] ++ bytesOf 2 ((s.chain.drop o.toNat).take n.toNat).length ++ bytesOf 2 (s.chain.length - o.toNat - ((s.chain.drop o.toNat).take n.toNat).length) ++ ((s.chain.drop o.toNat).take n.toNat)] })) ∧
  (∀ (s : State) (x : TInst) (v k : Byte) (o n : BitVec 16),
    s.spdmReach x = true →
    (s.spdmOf x).algs = true →
    v.toNat = (s.spdmOf x).ver →
    k ≠ 0 →
    exec (.getCertificate x v k o n) s = .next ((s).setSpdm x { s.spdmOf x with out := (s.spdmOf x).out ++ [[BitVec.ofNat 8 (if (s.spdmOf x).ver = 0 then 0x10 else (s.spdmOf x).ver), 0x7F, 0x07, 0x82]] })) ∧
  (∀ (s : State) (x : TInst) (v k : Byte) (n : BitVec 256),
    s.spdmReach x = true →
    (s.spdmOf x).algs = true →
    v.toNat = (s.spdmOf x).ver →
    k ≠ 0 →
    exec (.challenge x v k n) s = .next ((s).setSpdm x { s.spdmOf x with out := (s.spdmOf x).out ++ [[BitVec.ofNat 8 (if (s.spdmOf x).ver = 0 then 0x10 else (s.spdmOf x).ver), 0x7F, 0x07, 0x83]] })) ∧
  (∀ (s : State) (x : TInst) (v k : Byte) (n : BitVec 256),
    s.spdmReach x = true →
    (s.spdmOf x).algs = true →
    v.toNat = (s.spdmOf x).ver →
    k = 0 →
    exec (.challenge x v k n) s = .next (({ s with free := s.free + 16 }).setSpdm x { s.spdmOf x with out := (s.spdmOf x).out ++ [[v, 0x03, 0x00, 0x01] ++ bytesOf 48 (Config.sha384 s.chain).toNat ++ (s.takeBytes 4).1 ++ [0x00, 0x00] ++ (({ s with free := s.free + 4 } : State).takeBytes 12).1] })) ∧
  (∀ (s : State) (x : TInst) (v i : Byte) (g : Bool) (n : BitVec 256),
    s.spdmReach x = true →
    (s.spdmOf x).algs = true →
    v.toNat = (s.spdmOf x).ver →
    i = 0 →
    exec (.getMeasurements x v i g n) s = .next (({ s with free := s.free + if g then 16 else 4 }).setSpdm x { s.spdmOf x with out := (s.spdmOf x).out ++ [[v, 0x60, BitVec.ofNat 8 (s.blocks x).length, 0x00, 0x00, 0x00, 0x00, 0x00] ++ (s.takeBytes 4).1 ++ [0x00, 0x00] ++ (if g then (({ s with free := s.free + 4 } : State).takeBytes 12).1 else [])] })) ∧
  (∀ (s : State) (x : TInst) (v i : Byte) (g : Bool) (n : BitVec 256),
    s.spdmReach x = true →
    (s.spdmOf x).algs = true →
    v.toNat = (s.spdmOf x).ver →
    i.toNat = 0xFF →
    (s.blocks x) ≠ [] →
    exec (.getMeasurements x v i g n) s = .next (({ s with free := s.free + if g then 16 else 4 }).setSpdm x { s.spdmOf x with out := (s.spdmOf x).out ++ [[v, 0x60, 0x00, 0x00] ++ bytesOf 1 (s.blocks x).length ++ bytesOf 3 ((s.blocks x).flatMap s.spdmBlock).length ++ (s.blocks x).flatMap s.spdmBlock ++ (s.takeBytes 4).1 ++ [0x00, 0x00] ++ (if g then (({ s with free := s.free + 4 } : State).takeBytes 12).1 else [])] })) ∧
  (∀ (s : State) (x : TInst) (v i : Byte) (g : Bool) (n : BitVec 256),
    s.spdmReach x = true →
    (s.spdmOf x).algs = true →
    v.toNat = (s.spdmOf x).ver →
    (i.toNat ≠ 0 ∧ i.toNat ≠ 0xFF) →
    ((s.blocks x).filter (fun b => b == i.toNat)) ≠ [] →
    exec (.getMeasurements x v i g n) s = .next (({ s with free := s.free + if g then 16 else 4 }).setSpdm x { s.spdmOf x with out := (s.spdmOf x).out ++ [[v, 0x60, 0x00, 0x00] ++ bytesOf 1 ((s.blocks x).filter (fun b => b == i.toNat)).length ++ bytesOf 3 (((s.blocks x).filter (fun b => b == i.toNat)).flatMap s.spdmBlock).length ++ ((s.blocks x).filter (fun b => b == i.toNat)).flatMap s.spdmBlock ++ (s.takeBytes 4).1 ++ [0x00, 0x00] ++ (if g then (({ s with free := s.free + 4 } : State).takeBytes 12).1 else [])] })) ∧
  (∀ (s : State) (x : TInst) (v i : Byte) (g : Bool) (n : BitVec 256),
    s.spdmReach x = true →
    (s.spdmOf x).algs = true →
    v.toNat = (s.spdmOf x).ver →
    (i.toNat ≠ 0 ∧ i.toNat ≠ 0xFF) →
    ((s.blocks x).filter (fun b => b == i.toNat)) = [] →
    exec (.getMeasurements x v i g n) s = .next ((s).setSpdm x { s.spdmOf x with out := (s.spdmOf x).out ++ [[BitVec.ofNat 8 (if (s.spdmOf x).ver = 0 then 0x10 else (s.spdmOf x).ver), 0x7F, 0x01, 0x00]] })) ∧
  (∀ (s : State) (x : TInst) (v k : Byte),
    s.spdmReach x = true →
    exec (.spdmUnsupportedRequest x v k) s = .next ((s).setSpdm x { s.spdmOf x with out := (s.spdmOf x).out ++ [[BitVec.ofNat 8 (if (s.spdmOf x).ver = 0 then 0x10 else (s.spdmOf x).ver), 0x7F, 0x07, k]] })) ∧
  (∀ (s : State) (x : TInst) (v k : Byte) (o n : BitVec 16) (m : BitVec 256) (g : Bool),
    s.spdmReach x = true →
    (s.spdmOf x).algs = false →
    exec (.getDigests x v) s = .next ((s).setSpdm x { s.spdmOf x with out := (s.spdmOf x).out ++ [[BitVec.ofNat 8 (if (s.spdmOf x).ver = 0 then 0x10 else (s.spdmOf x).ver), 0x7F, 0x04, 0x00]] }) ∧
      exec (.getCertificate x v k o n) s = .next ((s).setSpdm x { s.spdmOf x with out := (s.spdmOf x).out ++ [[BitVec.ofNat 8 (if (s.spdmOf x).ver = 0 then 0x10 else (s.spdmOf x).ver), 0x7F, 0x04, 0x00]] }) ∧
      exec (.challenge x v k m) s = .next ((s).setSpdm x { s.spdmOf x with out := (s.spdmOf x).out ++ [[BitVec.ofNat 8 (if (s.spdmOf x).ver = 0 then 0x10 else (s.spdmOf x).ver), 0x7F, 0x04, 0x00]] }) ∧
      exec (.getMeasurements x v k g m) s = .next ((s).setSpdm x { s.spdmOf x with out := (s.spdmOf x).out ++ [[BitVec.ofNat 8 (if (s.spdmOf x).ver = 0 then 0x10 else (s.spdmOf x).ver), 0x7F, 0x04, 0x00]] })) ∧
  (∀ (s : State) (x : TInst) (v k : Byte) (o n : BitVec 16) (m : BitVec 256) (g : Bool),
    s.spdmReach x = true →
    (s.spdmOf x).algs = true →
    v.toNat ≠ (s.spdmOf x).ver →
    exec (.getDigests x v) s = .next ((s).setSpdm x { s.spdmOf x with out := (s.spdmOf x).out ++ [[BitVec.ofNat 8 (if (s.spdmOf x).ver = 0 then 0x10 else (s.spdmOf x).ver), 0x7F, 0x41, 0x00]] }) ∧
      exec (.getCertificate x v k o n) s = .next ((s).setSpdm x { s.spdmOf x with out := (s.spdmOf x).out ++ [[BitVec.ofNat 8 (if (s.spdmOf x).ver = 0 then 0x10 else (s.spdmOf x).ver), 0x7F, 0x41, 0x00]] }) ∧
      exec (.challenge x v k m) s = .next ((s).setSpdm x { s.spdmOf x with out := (s.spdmOf x).out ++ [[BitVec.ofNat 8 (if (s.spdmOf x).ver = 0 then 0x10 else (s.spdmOf x).ver), 0x7F, 0x41, 0x00]] }) ∧
      exec (.getMeasurements x v k g m) s = .next ((s).setSpdm x { s.spdmOf x with out := (s.spdmOf x).out ++ [[BitVec.ofNat 8 (if (s.spdmOf x).ver = 0 then 0x10 else (s.spdmOf x).ver), 0x7F, 0x41, 0x00]] })) ∧
  (∀ (s : State) (x : TInst) (v k : Byte) (o n : BitVec 16) (m : BitVec 256) (g : Bool),
    s.spdmReach x = false →
    exec (.getDigests x v) s = .next (s) ∧
      exec (.getCertificate x v k o n) s = .next (s) ∧
      exec (.challenge x v k m) s = .next (s) ∧
      exec (.getMeasurements x v k g m) s = .next (s) ∧
      exec (.getVersion x v) s = .next s ∧
      exec (.getCapabilities x v) s = .next s ∧
      exec (.negotiateAlgorithms x v g g) s = .next s ∧
      exec (.spdmUnsupportedRequest x v k) s = .next s)

/-- Through a port that is there, a write of SEL's low half takes INSTANCE and nothing else changes; in NQ and CMDQ a HOST copy ignores it, and GLOBAL has no SEL. An 8-byte read of a selected notice queue takes the notice that comes out first, or stalls while there is none; a read of 4 bytes pops nothing and reads 0, one of an invalid selection or a closed DEBUG port reads all-ones. While a read of the port stalls, the port's later accesses of the notice queue window wait, but for reads that stall behind it, and are performed once it has its answer. A stalled read that passes its bound takes the EMPTY notice, which goes to the hart whose load it was. NQ_LEVEL takes 1 to 252 and raises nothing; another value leaves it. An access of a window whose selection is invalid is dropped: a HOST copy's is logged in FRAME_CSERR, whose first entry stands while its count goes on, PLUMB's and DEBUG's are counted in CMD_EVENTS. A write through a port ends with the replies that wait going where a ring has room; nothing else changes. -/
def Obligations.WindowSelections : Prop :=
  (∀ (s : State) (a : AccessPort) (w : Win) (p : Part) (v : Word),
    s.apLive a = true →
    (a = .debug → s.plumb.dbgOpen = true) →
    (w = .nq → s.nqWait = [] ∧ s.nqStalls a = false) →
    w ≠ .global →
    ((w = .nq ∨ w = .cmdq) → apFrame a = none) →
    p ≠ .hi →
    exec (.selWrite a w p v) s = .next (({ s with sel := { s.sel with inst := Tab.set s.sel.inst (selKey a w) (v.toNat % 256) } }).pumpAll)) ∧
  (∀ (s : State) (a : AccessPort) (w : Win) (p : Part) (v : Word),
    s.apLive a = true →
    (w = .nq → s.nqWait = [] ∧ s.nqStalls a = false) →
    ((a = .debug ∧ s.plumb.dbgOpen = false) ∨ w = .global ∨ p = .hi ∨ ((w = .nq ∨ w = .cmdq) ∧ (apFrame a).isSome = true)) →
    exec (.selWrite a w p v) s = .next ((s).pumpAll)) ∧
  (∀ (s : State) (a : AccessPort) (i : Nat) (n : Word) (q : NQueue),
    s.apLive a = true →
    (a = .debug → s.plumb.dbgOpen = true) →
    s.nqWait = [] →
    s.selInvalid a .nq = false →
    i = s.selInst a .nq →
    (s.frame i).nq.take = some (n, q) →
    exec (.nqPop a .full) s = .next (s.setFrame i { (s.frame i) with nq := { q with popped := q.popped ++ [n] } })) ∧
  (∀ (s : State) (a : AccessPort) (i : Nat),
    s.apLive a = true →
    (a = .debug → s.plumb.dbgOpen = true) →
    s.nqWait = [] →
    s.selInvalid a .nq = false →
    i = s.selInst a .nq →
    (s.frame i).nq.take = none →
    exec (.nqPop a .full) s = .next (s.setFrame i { (s.frame i) with nq := { (s.frame i).nq with stalled := (s.frame i).nq.stalled ++ [{ ap := some a }] } })) ∧
  (∀ (s : State) (f : FrameId) (p : Part),
    s.nqWait = [] →
    s.nqStalls (.host f) = false →
    (s.apLive (.host f) = false ∨ s.selInvalid (.host f) .nq = true ∨ p ≠ .full) →
    exec (.nqPop (.host f) p) s = .next (s)) ∧
  (∀ (s : State) (a : AccessPort) (p : Part),
    s.apLive a = true →
    (a = .debug → s.plumb.dbgOpen = true) →
    s.nqWait = [] →
    s.nqStalls a = false →
    apFrame a = none →
    s.selInvalid a .nq = false →
    p ≠ .full →
    exec (.nqPop a p) s = .next ({ s with plumb := { s.plumb with debugOut := s.plumb.debugOut ++ [0] } })) ∧
  (∀ (s : State) (a : AccessPort) (p : Part),
    s.apLive a = true →
    s.nqWait = [] →
    s.nqStalls a = false →
    apFrame a = none →
    ((a = .debug ∧ s.plumb.dbgOpen = false) ∨ s.selInvalid a .nq = true) →
    exec (.nqPop a p) s = .next ({ s with plumb := { s.plumb with debugOut := s.plumb.debugOut ++ [readPart p (BitVec.allOnes 64)] } })) ∧
  (∀ (s : State) (a : AccessPort) (p : Part),
    s.apLive a = true →
    s.nqWait = [] →
    s.nqStalls a = true →
    p ≠ .full →
    exec (.nqPop a p) s = .next ({ s with nqWait := [{ ap := a, off := 0x100, part := p }] })) ∧
  (∀ (s : State) (a : AccessPort) (p : Part) (v : Word),
    s.apLive a = true →
    s.nqWait = [] →
    s.nqStalls a = true →
    exec (.selWrite a .nq p v) s = .next (({ s with nqWait := [{ ap := a, off := 0, part := p, wr := true, val := v }] }).pumpAll)) ∧
  (∀ (s : State) (f : FrameId) (w : NqReader) (l : List NqReader),
    (s.frame f).nq.stalled = w :: l →
    w.hart = none →
    s.nqWait = [] →
    exec (.nqPopTimeout (.frame f)) s = .next (s.setFrame f { s.frame f with nq := { (s.frame f).nq with stalled := l, popped := (s.frame f).nq.popped ++ [0] } })) ∧
  (∀ (s : State) (f : FrameId) (a : Option AccessPort) (c : Nat) (d : Dest) (l : List NqReader),
    (s.frame f).nq.stalled = { ap := a, hart := some (c, d) } :: l →
    s.nqWait = [] →
    RunsTo (exec (.nqPopTimeout (.frame f)) s) fun u =>
      u = (s.setFrame f { s.frame f with nq := { (s.frame f).nq with stalled := l, popped := (s.frame f).nq.popped ++ [0] } }).setCore c { s.core c with regs := (u.core c).regs, pipe := { (s.core c).pipe with stall := none } } ∧
      (u.core c).regs = (s.core c).regs.deliver d false 8 0 ∧
      (∀ i : Fin 32, d = .x i → (u.core c).regs = { (s.core c).regs with x := (u.core c).regs.x } ∧ (u.core c).regs.readX i.val = 0 ∧
        ∀ k, k < 32 → k ≠ i.val → (u.core c).regs.readX k = (s.core c).regs.readX k)) ∧
  (∀ (s : State) (f : FrameId) (a : AccessPort) (x : NqAcc) (u : State),
    (s.frame f).nq.stalled = [{ ap := some a }] →
    s.nqWait = [x] →
    x.ap = a →
    u = ({ s with nqWait := [] } : State).setFrame f { s.frame f with nq := { (s.frame f).nq with stalled := [], popped := (s.frame f).nq.popped ++ [0] } } →
    u.nqStalls a = false →
    exec (.nqPopTimeout (.frame f)) s = .next (u.nqPerform x)) ∧
  (∀ (s : State) (x : NqAcc) (o : BitVec 16),
    s.apLive x.ap = true →
    s.nqWait = [] →
    s.nqStalls x.ap = false →
    (x.wr = true ∧ x.off = o.toNat ∧ x.off % 8 = 0) →
    exec (.registerWrite (.win x.ap .nq o x.part) x.val) s = .next ((s.nqPerform x).pumpAll)) ∧
  (∀ (s : State) (x : NqAcc),
    s.apLive x.ap = true →
    s.nqWait = [] →
    s.nqStalls x.ap = false →
    (x.wr = false ∧ x.off = 0x100) →
    exec (.nqPop x.ap x.part) s = .next (s.nqPerform x)) ∧
  (∀ (s : State) (q : PortId),
    (s.port q).dt.nq.stalled ≠ [] →
    exec (.nqPopTimeout (.port q)) s = .next (s.setPort q { (s.port q) with dt := { (s.port q).dt with nq := { (s.port q).dt.nq with stalled := (s.port q).dt.nq.stalled.drop 1, popped := (s.port q).dt.nq.popped ++ [0] } } })) ∧
  (∀ (s : State) (f : FrameId) (q : PortId),
    (s.frame f).nq.stalled = [] →
    (s.port q).dt.nq.stalled = [] →
    exec (.nqPopTimeout (.frame f)) s = .next s ∧ exec (.nqPopTimeout (.port q)) s = .next s) ∧
  (∀ (s : State) (f : FrameId) (v : Word),
    (1 ≤ v.toNat % 256 ∧ v.toNat % 256 ≤ 252) →
    s.live = true →
    s.isBooted f = true →
    s.nqWait = [] →
    s.nqStalls (.host f) = false →
    exec (.nqLevelWrite (.frame f) v) s = .next (s.setFrame f { s.frame f with nqLevel := v.toNat % 256 })) ∧
  (∀ (s : State) (f : FrameId) (v : Word),
    (1 ≤ v.toNat % 256 ∧ v.toNat % 256 ≤ 252) →
    s.live = true →
    s.isBooted f = true →
    s.nqWait = [] →
    s.nqStalls (.host f) = true →
    exec (.nqLevelWrite (.frame f) v) s = .next ({ s with nqWait := [{ ap := .host f, off := 0x110, wr := true, val := v }] })) ∧
  (∀ (s : State) (q : PortId) (v : Word),
    (1 ≤ v.toNat % 256 ∧ v.toNat % 256 ≤ 252) →
    (s.port q).barOpen = true →
    (s.port q).dtHeld = true →
    exec (.nqLevelWrite (.port q) v) s = .next ((s.hostTouch q).inbHold q { kind := .reg, wr := true, posted := true, root := 9, addr := 0x48, len := 8, data := bytesOf 8 v.toNat })) ∧
  (∀ (s : State) (q : PortId) (v : Word),
    (1 ≤ v.toNat % 256 ∧ v.toNat % 256 ≤ 252) →
    (s.port q).barOpen = true →
    (s.port q).dtHeld = false →
    exec (.nqLevelWrite (.port q) v) s = .next (s.setPort q { (s.port q) with dt := { (s.port q).dt.wake with nqLevel := v.toNat % 256 } })) ∧
  (∀ (s : State) (n : NqId) (v : Word),
    (v.toNat % 256 < 1 ∨ 252 < v.toNat % 256) →
    exec (.nqLevelWrite n v) s = .next s) ∧
  (∀ (s : State) (f : FrameId) (v : Word),
    (s.live = false ∨ s.isBooted f = false) →
    exec (.nqLevelWrite (.frame f) v) s = .next (s)) ∧
  (∀ (s : State) (q : PortId) (v : Word),
    (s.port q).barOpen = false →
    exec (.nqLevelWrite (.port q) v) s = .next (s)) ∧
  (∀ (s : State) (a : AccessPort) (p : Part) (v : Word),
    s.apLive a = true →
    (a = .debug → s.plumb.dbgOpen = true) →
    s.selInvalid a .bay = true →
    exec (.bayCtlWrite a p v) s = .next ((s.dropOn a 1 (s.selInst a .bay) (partOff (0x20000 + 0x100) p)).pumpAll)) ∧
  (∀ (s : State) (a : AccessPort) (p : Part) (v : Word),
    s.apLive a = true →
    (a = .debug → s.plumb.dbgOpen = true) →
    s.selInvalid a .tenon = true →
    exec (.tenonThreshWrite a p v) s = .next ((s.dropOn a 1 (s.selInst a .tenon) (partOff (0x60000 + 0x108) p)).pumpAll)) ∧
  (∀ (s : State) (a : AccessPort) (p : Part) (k : Fin 4) (v : Word),
    s.apLive a = true →
    (a = .debug → s.plumb.dbgOpen = true) →
    s.selInvalid a .upmu = true →
    exec (.upmuCtlWrite a k p v) s = .next ((s.dropOn a 1 (s.selInst a .upmu) (partOff (0xC0000 + 0x100 + 16 * k.val) p)).pumpAll)) ∧
  (∀ (s : State) (a : AccessPort) (p : Part) (k : Fin 4) (v : Word),
    s.apLive a = true →
    (a = .debug → s.plumb.dbgOpen = true) →
    s.selInvalid a .upmu = true →
    exec (.upmuCntWrite a k p v) s = .next ((s.dropOn a 1 (s.selInst a .upmu) (partOff (0xC0000 + 0x108 + 16 * k.val) p)).pumpAll)) ∧
  (∀ (s : State) (a : AccessPort) (p : Part) (v : Word),
    s.apLive a = true →
    (a = .debug → s.plumb.dbgOpen = true) →
    s.selInvalid a .cmdq = true →
    exec (.cmdqCmdTailWrite a p v) s = .next ((s.dropOn a 1 (s.selInst a .cmdq) (partOff (0xA0000 + 0x108) p)).pumpAll)) ∧
  (∀ (s : State) (a : AccessPort) (p : Part) (v : Word),
    s.apLive a = true →
    (a = .debug → s.plumb.dbgOpen = true) →
    s.selInvalid a .cmdq = true →
    exec (.cmdqRplHeadWrite a p v) s = .next ((s.dropOn a 1 (s.selInst a .cmdq) (partOff (0xA0000 + 0x120) p)).pumpAll)) ∧
  (∀ (s : State) (a : AccessPort) (p : Part) (v : Word),
    s.apLive a = true →
    (a = .debug → s.plumb.dbgOpen = true) →
    s.selInvalid a .cmdq = true →
    exec (.cmdqCfgWrite a p v) s = .next ((s.dropOn a 1 (s.selInst a .cmdq) (partOff (0xA0000 + 0x130) p)).pumpAll)) ∧
  (∀ (s : State) (a : AccessPort) (g : Bool) (v : Word),
    s.apLive a = true →
    (a = .debug → s.plumb.dbgOpen = true) →
    s.selInvalid a .qos = true →
    exec (.cbqriOperation a g v) s = .next ((s.dropOn a 1 (s.selInst a .qos) (0xB0000 + if g then 0x118 else 0x108)).pumpAll)) ∧
  (∀ (s : State) (a : AccessPort) (w : Win) (o : BitVec 16) (p : Part) (v : Word),
    s.apLive a = true →
    (a = .debug → s.plumb.dbgOpen = true) →
    (w = .nq → s.nqWait = [] ∧ s.nqStalls a = false) →
    s.selInvalid a w = true →
    (o.toNat % 8 = 0 ∧ 0x100 ≤ o.toNat) →
    exec (.registerWrite (.win a w o p) v) s = .next ((s.dropOn a 1 (s.selInst a w) (partOff (winNo w * 0x10000 + o.toNat) p)).pumpAll)) ∧
  (∀ (s : State) (f : FrameId) (cause inst off : Nat),
    (s.frame f).csErr.getLsbD 47 = false →
    fld (s.frame f).csErr 63 48 = 0 →
    (off < 2 ^ 32 ∧ cause < 8) →
    s.dropOn (.host f) cause inst off = s.csDrop f cause inst off ∧ s.csDrop f cause inst off = s.setFrame f { s.frame f with csErr := BitVec.ofNat 64 (2 ^ 48 + 2 ^ 47 + cause * 2 ^ 44 + inst % 256 * 2 ^ 32 + off) }) ∧
  (∀ (s : State) (f : FrameId) (cause inst off : Nat),
    (s.frame f).csErr.getLsbD 47 = true →
    s.csDrop f cause inst off = s.setFrame f { s.frame f with csErr := setFld (s.frame f).csErr 63 48 (min 65535 (fld (s.frame f).csErr 63 48 + 1)) }) ∧
  (∀ (s : State) (cause inst off : Nat),
    s.dropOn .plumb cause inst off = s.recAdd 0x42 0 0 1 ∧ s.dropOn .debug cause inst off = s.recAdd 0x42 0 1 1) ∧
  (∀ (s : State) (a : AccessPort) (w : Win) (p : Part) (k : Fin 4) (v : Word) (g : Bool) (o : BitVec 16),
    s.apLive a = false →
    exec (.bayCtlWrite a p v) s = .next s ∧
      exec (.tenonThreshWrite a p v) s = .next s ∧
      exec (.upmuCtlWrite a k p v) s = .next s ∧
      exec (.upmuCntWrite a k p v) s = .next s ∧
      exec (.cmdqCmdTailWrite a p v) s = .next s ∧
      exec (.cmdqRplHeadWrite a p v) s = .next s ∧
      exec (.cmdqCfgWrite a p v) s = .next s ∧
      exec (.selWrite a w p v) s = .next s ∧
      exec (.nqPop a p) s = .next s ∧
      exec (.cbqriOperation a g v) s = .next s ∧
      exec (.registerWrite (.win a w o p) v) s = .next s)

/-- A write through a port whose selection is valid sets its register, in whole or in the half it names, and nothing else: CMDQ_CMD_TAIL, but for a write of its upper half, and CMDQ_RPL_HEAD modulo the ring's size; CMDQ_CFG the enables and sizes, with the head and tail of a ring that starts at 0, and a ring whose enable falls lost; BAY_CTL the EN and WT of the bay, EN only while its arrays work; TENON_THRESH when its three fields are in range, and through a HOST copy only in a mode of one frame; UPMU_CTL the event and its fields when the block implements the event, with OVF cleared by a 1; UPMU_CNT the count, by 8 bytes; the MCH, PORT, FRAME, NQ and CMDQ registers by their field maps, a value out of range leaving the register. A CBQRI operation configures or reads a monitor or an allocation and shows its status; its layout is CBQRI's (PRESUMED, log entry 10). A counter that wraps reads 0 and sets OVF. Read-only windows take no write. An access of the PLUMB or DEBUG port at an offset of control space is the access of the window that lies there, and a read's data comes out of the port; outside the windows, or of another size or alignment, a PLUMB access does nothing, and a DEBUG access is counted and reads all-ones, as a closed DEBUG port does, which writes nothing. Replies that wait then go where a ring has room. -/
def Obligations.WindowRegisterWrites : Prop :=
  (∀ (s : State) (a : AccessPort) (i : Nat) (p : Part) (v : Word),
    s.apLive a = true →
    (a = .debug → s.plumb.dbgOpen = true) →
    s.selInvalid a .cmdq = false →
    i = s.selInst a .cmdq →
    p ≠ .hi →
    exec (.cmdqCmdTailWrite a p v) s = .next ((s.setFrame i { s.frame i with ring := { (s.frame i).ring with cmdTail := v.toNat % 256 % 2 ^ (s.frame i).ring.logInF.1 } }).pumpAll)) ∧
  (∀ (s : State) (a : AccessPort) (i : Nat) (p : Part) (v : Word),
    s.apLive a = true →
    (a = .debug → s.plumb.dbgOpen = true) →
    s.selInvalid a .cmdq = false →
    i = s.selInst a .cmdq →
    p = .hi →
    exec (.cmdqCmdTailWrite a p v) s = .next ((s.setFrame i (s.frame i)).pumpAll)) ∧
  (∀ (s : State) (a : AccessPort) (i : Nat) (p : Part) (v : Word),
    s.apLive a = true →
    (a = .debug → s.plumb.dbgOpen = true) →
    s.selInvalid a .cmdq = false →
    i = s.selInst a .cmdq →
    p ≠ .hi →
    exec (.cmdqRplHeadWrite a p v) s = .next ((s.setFrame i { s.frame i with ring := { (s.frame i).ring with rplHead := v.toNat % 256 % 2 ^ (s.frame i).ring.logInF.2 } }).pumpAll)) ∧
  (∀ (s : State) (a : AccessPort) (i : Nat) (p : Part) (v : Word),
    s.apLive a = true →
    (a = .debug → s.plumb.dbgOpen = true) →
    s.selInvalid a .cmdq = false →
    i = s.selInst a .cmdq →
    p = .hi →
    ((s.frame i).ring.rplHead < 2 ^ (s.frame i).ring.logInF.2 ∧ (s.frame i).ring.rplHead < 256) →
    exec (.cmdqRplHeadWrite a p v) s = .next ((s.setFrame i (s.frame i)).pumpAll)) ∧
  (∀ (s : State) (a : AccessPort) (i : Nat) (p : Part) (v : Word),
    s.apLive a = true →
    (a = .debug → s.plumb.dbgOpen = true) →
    s.selInvalid a .cmdq = false →
    i = s.selInst a .cmdq →
    (s.frame i).ring.cfg.toNat % 4 = 0 →
    p ≠ .hi →
    v.toNat % 4 = 3 →
    (4 ≤ v.toNat / 2 ^ 8 % 16 ∧ v.toNat / 2 ^ 8 % 16 ≤ 8) →
    (4 ≤ v.toNat / 2 ^ 12 % 16 ∧ v.toNat / 2 ^ 12 % 16 ≤ 8) →
    exec (.cmdqCfgWrite a p v) s = .next ((s.setFrame i { s.frame i with ring := { (s.frame i).ring with cfg := v &&& 0xFF03, cmdInF := (s.frame i).ring.cmdBase, rplInF := (s.frame i).ring.rplBase, logInF := (v.toNat / 2 ^ 8 % 16, v.toNat / 2 ^ 12 % 16), cmdHead := 0, cmdTail := 0, rplHead := 0, rplTail := 0 } }).pumpAll)) ∧
  (∀ (s : State) (a : AccessPort) (i : Nat) (p : Part) (v : Word),
    s.apLive a = true →
    (a = .debug → s.plumb.dbgOpen = true) →
    s.selInvalid a .cmdq = false →
    i = s.selInst a .cmdq →
    p ≠ .hi →
    (v.toNat / 2 ^ 8 % 16 < 4 ∨ 8 < v.toNat / 2 ^ 8 % 16 ∨ v.toNat / 2 ^ 12 % 16 < 4 ∨ 8 < v.toNat / 2 ^ 12 % 16) →
    exec (.cmdqCfgWrite a p v) s = .next ((s.setFrame i (s.frame i)).pumpAll)) ∧
  (∀ (s : State) (a : AccessPort) (i : Nat) (p : Part) (v : Word),
    s.apLive a = true →
    (a = .debug → s.plumb.dbgOpen = true) →
    s.selInvalid a .cmdq = false →
    i = s.selInst a .cmdq →
    p ≠ .hi →
    (s.frame i).ring.cfg.toNat % 4 = 3 →
    v.toNat % 4 = 0 →
    (4 ≤ v.toNat / 2 ^ 8 % 16 ∧ v.toNat / 2 ^ 8 % 16 ≤ 8) →
    (4 ≤ v.toNat / 2 ^ 12 % 16 ∧ v.toNat / 2 ^ 12 % 16 ≤ 8) →
    (s.frame i).ring.cfg &&& ~~~ 0xFF03 = 0 →
    exec (.cmdqCfgWrite a p v) s = .next (({ (s.setFrame i { s.frame i with ring := { (s.frame i).ring with cfg := (s.frame i).ring.cfg &&& 0xFF00, replies := [], wr := false } }) with plumb := { s.plumb with jobs := s.plumb.jobs.map (fun (j : Job) => if j.t = ({ kind := .ring, inst := i } : TInst) then { j with lost := true } else j), dead := s.plumb.dead.filter (fun (e : Dead) => e.t != ({ kind := .ring, inst := i } : TInst)) } }).pumpAll)) ∧
  (∀ (s : State) (a : AccessPort) (i : Nat) (p : Part) (v : Word),
    s.apLive a = true →
    (a = .debug → s.plumb.dbgOpen = true) →
    s.selInvalid a .bay = false →
    i = s.selInst a .bay →
    (s.home i).arrayFail = false →
    exec (.bayCtlWrite a p v) s = .next ((s.setHome i { (s.home i) with en := (mergePart p (s.home i).bayCtl v).getLsbD 0, wt := (mergePart p (s.home i).bayCtl v).getLsbD 1 }).pumpAll)) ∧
  (∀ (s : State) (a : AccessPort) (i : Nat) (p : Part) (v : Word),
    s.apLive a = true →
    (a = .debug → s.plumb.dbgOpen = true) →
    s.selInvalid a .bay = false →
    i = s.selInst a .bay →
    (s.home i).arrayFail = true →
    exec (.bayCtlWrite a p v) s = .next ((s.setHome i { (s.home i) with wt := (mergePart p (s.home i).bayCtl v).getLsbD 1 }).pumpAll)) ∧
  (∀ (s : State) (a : AccessPort) (i : Nat) (p : Part) (v : Word),
    s.apLive a = true →
    (a = .debug → s.plumb.dbgOpen = true) →
    s.selInvalid a .tenon = false →
    i = s.selInst a .tenon →
    (apFrame a = none ∨ frameCount s.mode = 1) →
    ((1 ≤ (mergePart p s.threshold v).toNat / 65536 % 256 ∧ (mergePart p s.threshold v).toNat / 65536 % 256 ≤ 100) ∧ (1 ≤ (mergePart p s.threshold v).toNat / 256 % 256 ∧ (mergePart p s.threshold v).toNat / 256 % 256 ≤ 100) ∧ 4 ≤ (mergePart p s.threshold v).toNat % 256 ∧ (mergePart p s.threshold v).toNat % 256 ≤ 64) →
    exec (.tenonThreshWrite a p v) s = .next (({ s with threshold := mergePart p s.threshold v &&& 0xFFFFFF }).pumpAll)) ∧
  (∀ (s : State) (a : AccessPort) (i : Nat) (p : Part) (v : Word),
    s.apLive a = true →
    (a = .debug → s.plumb.dbgOpen = true) →
    s.selInvalid a .tenon = false →
    i = s.selInst a .tenon →
    (apFrame a = none ∨ frameCount s.mode = 1) →
    (¬((1 ≤ (mergePart p s.threshold v).toNat / 65536 % 256 ∧ (mergePart p s.threshold v).toNat / 65536 % 256 ≤ 100) ∧ (1 ≤ (mergePart p s.threshold v).toNat / 256 % 256 ∧ (mergePart p s.threshold v).toNat / 256 % 256 ≤ 100) ∧ 4 ≤ (mergePart p s.threshold v).toNat % 256 ∧ (mergePart p s.threshold v).toNat % 256 ≤ 64)) →
    exec (.tenonThreshWrite a p v) s = .next ((s).pumpAll)) ∧
  (∀ (s : State) (f : FrameId) (p : Part) (v : Word),
    s.apLive (.host f) = true →
    s.selInvalid (.host f) .tenon = false →
    frameCount s.mode ≠ 1 →
    exec (.tenonThreshWrite (.host f) p v) s = .next ((s.csDrop f 2 (s.selInst (.host f) .tenon) (partOff 0x60108 p)).pumpAll)) ∧
  (∀ (s : State) (a : AccessPort) (i : Nat) (p : Part) (k : Fin 4) (v : Word),
    s.apLive a = true →
    (a = .debug → s.plumb.dbgOpen = true) →
    s.selInvalid a .upmu = false →
    i = s.selInst a .upmu →
    upmuEvent (upmuKind i) ((mergePart p (Tab.get (s.upmu i).ctl 0 k.val) v).toNat % 65536) = true →
    exec (.upmuCtlWrite a k p v) s = .next ((s.setUpmu i { (s.upmu i) with ctl := Tab.put (s.upmu i).ctl 0 k.val (((mergePart p (Tab.get (s.upmu i).ctl 0 k.val) v) &&& 0xFF81FFFF) ||| ((Tab.get (s.upmu i).ctl 0 k.val) &&& 0x40000 &&& ~~~ mergePart p 0 v)) }).pumpAll)) ∧
  (∀ (s : State) (a : AccessPort) (i : Nat) (p : Part) (k : Fin 4) (v : Word),
    s.apLive a = true →
    (a = .debug → s.plumb.dbgOpen = true) →
    s.selInvalid a .upmu = false →
    i = s.selInst a .upmu →
    upmuEvent (upmuKind i) ((mergePart p (Tab.get (s.upmu i).ctl 0 k.val) v).toNat % 65536) = false →
    exec (.upmuCtlWrite a k p v) s = .next ((s.setUpmu i (s.upmu i)).pumpAll)) ∧
  (∀ (s : State) (a : AccessPort) (i : Nat) (p : Part) (k : Fin 4) (v : Word),
    s.apLive a = true →
    (a = .debug → s.plumb.dbgOpen = true) →
    s.selInvalid a .upmu = false →
    i = s.selInst a .upmu →
    p = .full →
    exec (.upmuCntWrite a k p v) s = .next ((s.setUpmu i { (s.upmu i) with cnt := Tab.put (s.upmu i).cnt 0 k.val v }).pumpAll)) ∧
  (∀ (s : State) (a : AccessPort) (i : Nat) (p : Part) (k : Fin 4) (v : Word),
    s.apLive a = true →
    (a = .debug → s.plumb.dbgOpen = true) →
    s.selInvalid a .upmu = false →
    i = s.selInst a .upmu →
    p ≠ .full →
    exec (.upmuCntWrite a k p v) s = .next ((s.setUpmu i (s.upmu i)).pumpAll)) ∧
  (∀ (s : State) (i : Nat) (k : Fin 4),
    ((s.live = true ∧ (s.instances .upmu).contains i = true ∧ (Tab.get (s.upmu i).ctl 0 k.val).getLsbD 16 = true)) →
    exec (.upmuCounterWrap i k) s = .next (s.setUpmu i { (s.upmu i) with cnt := Tab.put (s.upmu i).cnt 0 k.val 0, ctl := Tab.put (s.upmu i).ctl 0 k.val ((Tab.get (s.upmu i).ctl 0 k.val) ||| 0x40000) })) ∧
  (∀ (s : State) (i : Nat) (k : Fin 4),
    (¬(s.live = true ∧ (s.instances .upmu).contains i = true ∧ (Tab.get (s.upmu i).ctl 0 k.val).getLsbD 16 = true)) →
    exec (.upmuCounterWrap i k) s = .next s) ∧
  (∀ (s : State) (a : AccessPort) (i : Nat) (v : Word),
    s.apLive a = true →
    (a = .debug → s.plumb.dbgOpen = true) →
    s.selInvalid a .qos = false →
    i = s.selInst a .qos →
    (v.toNat % 32 = 1 ∧ v.toNat / 32 % 8 = 0 ∧ (v.toNat / 2 ^ 8 % 2 ^ 12) < 64) →
    i < 12 →
    (s.cbqri i).limit.toNat % 65536 ≠ 0 →
    exec (.cbqriOperation a true v) s = .next ((s.setCbqri i { (s.cbqri i) with masks := Tab.put (s.cbqri i).masks 0xFFFF (v.toNat / 2 ^ 8 % 2 ^ 12) ((s.cbqri i).limit.toNat % 65536), allocCtl := setFld (v &&& 0xFFFFF) 38 32 1 }).pumpAll)) ∧
  (∀ (s : State) (a : AccessPort) (i : Nat) (v : Word),
    s.apLive a = true →
    (a = .debug → s.plumb.dbgOpen = true) →
    s.selInvalid a .qos = false →
    i = s.selInst a .qos →
    (v.toNat % 32 = 1 ∧ v.toNat / 32 % 8 = 0 ∧ (v.toNat / 2 ^ 8 % 2 ^ 12) < 64) →
    i < 12 →
    (s.cbqri i).limit.toNat % 65536 = 0 →
    exec (.cbqriOperation a true v) s = .next ((s.setCbqri i { (s.cbqri i) with allocCtl := setFld (v &&& 0xFFFFF) 38 32 5 }).pumpAll)) ∧
  (∀ (s : State) (a : AccessPort) (i : Nat) (v : Word),
    s.apLive a = true →
    (a = .debug → s.plumb.dbgOpen = true) →
    s.selInvalid a .qos = false →
    i = s.selInst a .qos →
    (v.toNat % 32 = 2 ∧ v.toNat / 32 % 8 = 0 ∧ (v.toNat / 2 ^ 8 % 2 ^ 12) < 64) →
    i < 12 →
    exec (.cbqriOperation a true v) s = .next ((s.setCbqri i { (s.cbqri i) with limit := BitVec.ofNat 64 (Tab.get (s.cbqri i).masks 0xFFFF (v.toNat / 2 ^ 8 % 2 ^ 12)), allocCtl := setFld (v &&& 0xFFFFF) 38 32 1 }).pumpAll)) ∧
  (∀ (s : State) (a : AccessPort) (i : Nat) (v : Word),
    s.apLive a = true →
    (a = .debug → s.plumb.dbgOpen = true) →
    s.selInvalid a .qos = false →
    i = s.selInst a .qos →
    (v.toNat % 32 = 1 ∧ v.toNat / 32 % 8 = 0 ∧ (v.toNat / 2 ^ 8 % 2 ^ 12) < 64) →
    12 ≤ i →
    (Tab.put (s.cbqri i).rbwb 0 (v.toNat / 2 ^ 8 % 2 ^ 12) ((s.cbqri i).limit.toNat % 65536)).foldl (fun n e => n + e.2) 0 ≤ 1000 →
    exec (.cbqriOperation a true v) s = .next ((s.setCbqri i { (s.cbqri i) with rbwb := (Tab.put (s.cbqri i).rbwb 0 (v.toNat / 2 ^ 8 % 2 ^ 12) ((s.cbqri i).limit.toNat % 65536)), weight := Tab.put (s.cbqri i).weight 255 (v.toNat / 2 ^ 8 % 2 ^ 12) ((s.cbqri i).limit.toNat / 2 ^ 20 % 256), allocCtl := setFld (v &&& 0xFFFFF) 38 32 1 }).pumpAll)) ∧
  (∀ (s : State) (a : AccessPort) (i : Nat) (v : Word),
    s.apLive a = true →
    (a = .debug → s.plumb.dbgOpen = true) →
    s.selInvalid a .qos = false →
    i = s.selInst a .qos →
    (v.toNat % 32 = 1 ∧ v.toNat / 32 % 8 = 0 ∧ (v.toNat / 2 ^ 8 % 2 ^ 12) < 64) →
    12 ≤ i →
    1000 < (Tab.put (s.cbqri i).rbwb 0 (v.toNat / 2 ^ 8 % 2 ^ 12) ((s.cbqri i).limit.toNat % 65536)).foldl (fun n e => n + e.2) 0 →
    exec (.cbqriOperation a true v) s = .next ((s.setCbqri i { (s.cbqri i) with allocCtl := setFld (v &&& 0xFFFFF) 38 32 5 }).pumpAll)) ∧
  (∀ (s : State) (a : AccessPort) (i : Nat) (v : Word),
    s.apLive a = true →
    (a = .debug → s.plumb.dbgOpen = true) →
    s.selInvalid a .qos = false →
    i = s.selInst a .qos →
    (v.toNat % 32 = 2 ∧ v.toNat / 32 % 8 = 0 ∧ (v.toNat / 2 ^ 8 % 2 ^ 12) < 64) →
    12 ≤ i →
    exec (.cbqriOperation a true v) s = .next ((s.setCbqri i { (s.cbqri i) with limit := BitVec.ofNat 64 (Tab.get (s.cbqri i).rbwb 0 (v.toNat / 2 ^ 8 % 2 ^ 12) + Tab.get (s.cbqri i).weight 255 (v.toNat / 2 ^ 8 % 2 ^ 12) * 2 ^ 20), allocCtl := setFld (v &&& 0xFFFFF) 38 32 1 }).pumpAll)) ∧
  (∀ (s : State) (a : AccessPort) (i : Nat) (v : Word),
    s.apLive a = true →
    (a = .debug → s.plumb.dbgOpen = true) →
    s.selInvalid a .qos = false →
    i = s.selInst a .qos →
    (v.toNat % 32 ≠ 1 ∧ v.toNat % 32 ≠ 2 ∨ 64 ≤ (v.toNat / 2 ^ 8 % 2 ^ 12) ∨ v.toNat / 32 % 8 ≠ 0) →
    exec (.cbqriOperation a true v) s = .next ((s.setCbqri i { (s.cbqri i) with allocCtl := setFld (v &&& 0xFFFFF) 38 32 (if v.toNat % 32 ≠ 1 ∧ v.toNat % 32 ≠ 2 then 2 else if 64 ≤ (v.toNat / 2 ^ 8 % 2 ^ 12) then 3 else 2) }).pumpAll)) ∧
  (∀ (s : State) (a : AccessPort) (i : Nat) (v : Word),
    s.apLive a = true →
    (a = .debug → s.plumb.dbgOpen = true) →
    s.selInvalid a .qos = false →
    i = s.selInst a .qos →
    (v.toNat % 32 = 1 ∧ (v.toNat / 32 % 8 = 0 ∨ v.getLsbD 28 = false) ∧ (v.toNat / 2 ^ 8 % 2 ^ 12) < 256) →
    ((i < 12 ∧ (v.toNat / 2 ^ 20 % 2 ^ 8) ≤ 1) ∨ (12 ≤ i ∧ (v.toNat / 2 ^ 20 % 2 ^ 8) ≤ 3)) →
    exec (.cbqriOperation a false v) s = .next ((s.setCbqri i { (s.cbqri i) with monEv := Tab.put (s.cbqri i).monEv 0 (v.toNat / 2 ^ 8 % 2 ^ 12) (v.toNat / 2 ^ 20 % 2 ^ 8), rd := Tab.erase (s.cbqri i).rd (v.toNat / 2 ^ 8 % 2 ^ 12), wr := Tab.erase (s.cbqri i).wr (v.toNat / 2 ^ 8 % 2 ^ 12), monCtl := setFld (v &&& 0x1FFFFFFF) 38 32 1 }).pumpAll)) ∧
  (∀ (s : State) (a : AccessPort) (i : Nat) (v : Word),
    s.apLive a = true →
    (a = .debug → s.plumb.dbgOpen = true) →
    s.selInvalid a .qos = false →
    i = s.selInst a .qos →
    (v.toNat % 32 = 1 ∧ (v.toNat / 32 % 8 = 0 ∨ v.getLsbD 28 = false) ∧ (v.toNat / 2 ^ 8 % 2 ^ 12) < 256) →
    ((i < 12 ∧ 1 < (v.toNat / 2 ^ 20 % 2 ^ 8)) ∨ (12 ≤ i ∧ 3 < (v.toNat / 2 ^ 20 % 2 ^ 8))) →
    exec (.cbqriOperation a false v) s = .next ((s.setCbqri i { (s.cbqri i) with monCtl := setFld (v &&& 0x1FFFFFFF) 38 32 4 }).pumpAll)) ∧
  (∀ (s : State) (a : AccessPort) (i : Nat) (v : Word),
    s.apLive a = true →
    (a = .debug → s.plumb.dbgOpen = true) →
    s.selInvalid a .qos = false →
    i = s.selInst a .qos →
    (v.toNat % 32 = 2 ∧ (v.toNat / 32 % 8 = 0 ∨ v.getLsbD 28 = false) ∧ (v.toNat / 2 ^ 8 % 2 ^ 12) < 256) →
    12 ≤ i →
    exec (.cbqriOperation a false v) s = .next ((s.setCbqri i { (s.cbqri i) with monVal := BitVec.ofNat 64 ((if (Tab.get (s.cbqri i).monEv 0 (v.toNat / 2 ^ 8 % 2 ^ 12)) = 1 then Tab.get (s.cbqri i).rd 0 (v.toNat / 2 ^ 8 % 2 ^ 12) + Tab.get (s.cbqri i).wr 0 (v.toNat / 2 ^ 8 % 2 ^ 12) else if (Tab.get (s.cbqri i).monEv 0 (v.toNat / 2 ^ 8 % 2 ^ 12)) = 2 then Tab.get (s.cbqri i).rd 0 (v.toNat / 2 ^ 8 % 2 ^ 12) else if (Tab.get (s.cbqri i).monEv 0 (v.toNat / 2 ^ 8 % 2 ^ 12)) = 3 then Tab.get (s.cbqri i).wr 0 (v.toNat / 2 ^ 8 % 2 ^ 12) else 0) % 2 ^ 63), monCtl := setFld (v &&& 0x1FFFFFFF) 38 32 1 }).pumpAll)) ∧
  (∀ (s : State) (a : AccessPort) (i : Nat) (v : Word),
    s.apLive a = true →
    (a = .debug → s.plumb.dbgOpen = true) →
    s.selInvalid a .qos = false →
    i = s.selInst a .qos →
    (v.toNat % 32 = 2 ∧ (v.toNat / 32 % 8 = 0 ∨ v.getLsbD 28 = false) ∧ (v.toNat / 2 ^ 8 % 2 ^ 12) < 256) →
    i < 12 →
    exec (.cbqriOperation a false v) s = .next ((s.setCbqri i { (s.cbqri i) with monVal := BitVec.ofNat 64 ((if (Tab.get (s.cbqri i).monEv 0 (v.toNat / 2 ^ 8 % 2 ^ 12)) = 1 then ((s.home i).cache.filter (fun e => decide ((s.home i).bench ≤ e.1 % 16) && decide (e.1 % 16 < 16 - (s.home i).lockW) && e.2.mcid == (v.toNat / 2 ^ 8 % 2 ^ 12))).length else 0) % 2 ^ 63), monCtl := setFld (v &&& 0x1FFFFFFF) 38 32 1 }).pumpAll)) ∧
  (∀ (s : State) (a : AccessPort) (i : Nat) (v : Word),
    s.apLive a = true →
    (a = .debug → s.plumb.dbgOpen = true) →
    s.selInvalid a .qos = false →
    i = s.selInst a .qos →
    (v.toNat % 32 ≠ 1 ∧ v.toNat % 32 ≠ 2 ∨ 256 ≤ (v.toNat / 2 ^ 8 % 2 ^ 12) ∨ (v.toNat / 32 % 8 ≠ 0 ∧ v.getLsbD 28 = true)) →
    exec (.cbqriOperation a false v) s = .next ((s.setCbqri i { (s.cbqri i) with monCtl := setFld (v &&& 0x1FFFFFFF) 38 32 (if v.toNat % 32 ≠ 1 ∧ v.toNat % 32 ≠ 2 then 2 else if 256 ≤ (v.toNat / 2 ^ 8 % 2 ^ 12) then 3 else 2) }).pumpAll)) ∧
  (∀ (s : State) (a : AccessPort) (i : Nat) (p : Part) (v : Word),
    s.apLive a = true →
    (a = .debug → s.plumb.dbgOpen = true) →
    s.selInvalid a .mch = false →
    i = s.selInst a .mch →
    ((8 ≤ (mergePart p ((s.chan i).read 0x108) v).toNat / 2 ^ 24 % 256 ∧ (mergePart p ((s.chan i).read 0x108) v).toNat / 2 ^ 24 % 256 ≤ 96) ∧ (mergePart p ((s.chan i).read 0x108) v).toNat / 2 ^ 16 % 256 < (mergePart p ((s.chan i).read 0x108) v).toNat / 2 ^ 24 % 256 ∧ (mergePart p ((s.chan i).read 0x108) v).toNat / 2 ^ 8 % 256 ≤ 200 ∧ (1 ≤ (mergePart p ((s.chan i).read 0x108) v).toNat % 256 ∧ (mergePart p ((s.chan i).read 0x108) v).toNat % 256 ≤ 100)) →
    exec (.registerWrite (.win a .mch 0x108 p) v) s = .next ((s.setChan i { (s.chan i) with sched := (mergePart p ((s.chan i).read 0x108) v) &&& 0xFFFFFFFF }).pumpAll)) ∧
  (∀ (s : State) (a : AccessPort) (i : Nat) (p : Part) (v : Word),
    s.apLive a = true →
    (a = .debug → s.plumb.dbgOpen = true) →
    s.selInvalid a .mch = false →
    i = s.selInst a .mch →
    (¬((8 ≤ (mergePart p ((s.chan i).read 0x108) v).toNat / 2 ^ 24 % 256 ∧ (mergePart p ((s.chan i).read 0x108) v).toNat / 2 ^ 24 % 256 ≤ 96) ∧ (mergePart p ((s.chan i).read 0x108) v).toNat / 2 ^ 16 % 256 < (mergePart p ((s.chan i).read 0x108) v).toNat / 2 ^ 24 % 256 ∧ (mergePart p ((s.chan i).read 0x108) v).toNat / 2 ^ 8 % 256 ≤ 200 ∧ (1 ≤ (mergePart p ((s.chan i).read 0x108) v).toNat % 256 ∧ (mergePart p ((s.chan i).read 0x108) v).toNat % 256 ≤ 100))) →
    exec (.registerWrite (.win a .mch 0x108 p) v) s = .next ((s.setChan i (s.chan i)).pumpAll)) ∧
  (∀ (s : State) (a : AccessPort) (i : Nat) (p : Part) (v : Word),
    s.apLive a = true →
    (a = .debug → s.plumb.dbgOpen = true) →
    s.selInvalid a .mch = false →
    i = s.selInst a .mch →
    (mergePart p ((s.chan i).read 0x110) v).toNat / 16 % 16 ≤ 4 →
    exec (.registerWrite (.win a .mch 0x110 p) v) s = .next ((s.setChan i ({ (s.chan i) with refresh := (mergePart p ((s.chan i).read 0x110) v) &&& 0xF1 } : Chan).overdue).pumpAll)) ∧
  (∀ (s : State) (a : AccessPort) (i : Nat) (p : Part) (v : Word),
    s.apLive a = true →
    (a = .debug → s.plumb.dbgOpen = true) →
    s.selInvalid a .mch = false →
    i = s.selInst a .mch →
    (¬((mergePart p ((s.chan i).read 0x110) v).toNat / 16 % 16 ≤ 4)) →
    exec (.registerWrite (.win a .mch 0x110 p) v) s = .next ((s.setChan i (s.chan i)).pumpAll)) ∧
  (∀ (s : State) (a : AccessPort) (i : Nat) (p : Part) (v : Word),
    s.apLive a = true →
    (a = .debug → s.plumb.dbgOpen = true) →
    s.selInvalid a .mch = false →
    i = s.selInst a .mch →
    ((1 ≤ (mergePart p ((s.chan i).read 0x118) v).toNat / 2 ^ 8 % 16 ∧ (mergePart p ((s.chan i).read 0x118) v).toNat / 2 ^ 8 % 16 ≤ 4) ∧ (8 ≤ (mergePart p ((s.chan i).read 0x118) v).toNat % 32 ∧ (mergePart p ((s.chan i).read 0x118) v).toNat % 32 ≤ 20)) →
    exec (.registerWrite (.win a .mch 0x118 p) v) s = .next ((s.setChan i { (s.chan i) with rh := (mergePart p ((s.chan i).read 0x118) v) &&& 0xCF1F }).pumpAll)) ∧
  (∀ (s : State) (a : AccessPort) (i : Nat) (p : Part) (v : Word),
    s.apLive a = true →
    (a = .debug → s.plumb.dbgOpen = true) →
    s.selInvalid a .mch = false →
    i = s.selInst a .mch →
    (¬((1 ≤ (mergePart p ((s.chan i).read 0x118) v).toNat / 2 ^ 8 % 16 ∧ (mergePart p ((s.chan i).read 0x118) v).toNat / 2 ^ 8 % 16 ≤ 4) ∧ (8 ≤ (mergePart p ((s.chan i).read 0x118) v).toNat % 32 ∧ (mergePart p ((s.chan i).read 0x118) v).toNat % 32 ≤ 20))) →
    exec (.registerWrite (.win a .mch 0x118 p) v) s = .next ((s.setChan i (s.chan i)).pumpAll)) ∧
  (∀ (s : State) (a : AccessPort) (i : Nat) (p : Part) (v : Word),
    s.apLive a = true →
    (a = .debug → s.plumb.dbgOpen = true) →
    s.selInvalid a .mch = false →
    i = s.selInst a .mch →
    (mergePart p ((s.chan i).read 0x120) v).toNat / 2 ^ 6 % 1024 ≤ 1000 →
    exec (.registerWrite (.win a .mch 0x120 p) v) s = .next ((s.setChan i { (s.chan i) with pwr := (mergePart p ((s.chan i).read 0x120) v) &&& 0xFFFF }).pumpAll)) ∧
  (∀ (s : State) (a : AccessPort) (i : Nat) (p : Part) (v : Word),
    s.apLive a = true →
    (a = .debug → s.plumb.dbgOpen = true) →
    s.selInvalid a .mch = false →
    i = s.selInst a .mch →
    (¬((mergePart p ((s.chan i).read 0x120) v).toNat / 2 ^ 6 % 1024 ≤ 1000)) →
    exec (.registerWrite (.win a .mch 0x120 p) v) s = .next ((s.setChan i (s.chan i)).pumpAll)) ∧
  (∀ (s : State) (a : AccessPort) (i : Nat) (p : Part) (v : Word),
    s.apLive a = true →
    (a = .debug → s.plumb.dbgOpen = true) →
    s.selInvalid a .mch = false →
    i = s.selInst a .mch →
    4 ≤ (mergePart p ((s.chan i).read 0x128) v).toNat / 2 ^ 40 % 256 →
    exec (.registerWrite (.win a .mch 0x128 p) v) s = .next ((s.setChan i { (s.chan i) with ecc := (mergePart p ((s.chan i).read 0x128) v) &&& 0xFF8000000000 }).pumpAll)) ∧
  (∀ (s : State) (a : AccessPort) (i : Nat) (p : Part) (v : Word),
    s.apLive a = true →
    (a = .debug → s.plumb.dbgOpen = true) →
    s.selInvalid a .mch = false →
    i = s.selInst a .mch →
    (¬(4 ≤ (mergePart p ((s.chan i).read 0x128) v).toNat / 2 ^ 40 % 256)) →
    exec (.registerWrite (.win a .mch 0x128 p) v) s = .next ((s.setChan i (s.chan i)).pumpAll)) ∧
  (∀ (s : State) (a : AccessPort) (i : Nat) (p : Part) (v : Word),
    s.apLive a = true →
    (a = .debug → s.plumb.dbgOpen = true) →
    s.selInvalid a .mch = false →
    i = s.selInst a .mch →
    (1 ≤ (mergePart p ((s.chan i).read 0x130) v).toNat % 256 ∧ (mergePart p ((s.chan i).read 0x130) v).toNat % 256 ≤ 168) →
    exec (.registerWrite (.win a .mch 0x130 p) v) s = .next ((s.setChan i { (s.chan i) with patrolCtl := (mergePart p ((s.chan i).read 0x130) v) &&& 0x1FF }).pumpAll)) ∧
  (∀ (s : State) (a : AccessPort) (i : Nat) (p : Part) (v : Word),
    s.apLive a = true →
    (a = .debug → s.plumb.dbgOpen = true) →
    s.selInvalid a .mch = false →
    i = s.selInst a .mch →
    (¬(1 ≤ (mergePart p ((s.chan i).read 0x130) v).toNat % 256 ∧ (mergePart p ((s.chan i).read 0x130) v).toNat % 256 ≤ 168)) →
    exec (.registerWrite (.win a .mch 0x130 p) v) s = .next ((s.setChan i (s.chan i)).pumpAll)) ∧
  (∀ (s : State) (a : AccessPort) (i : Nat) (p : Part) (v : Word),
    s.apLive a = true →
    (a = .debug → s.plumb.dbgOpen = true) →
    s.selInvalid a .port = false →
    i = s.selInst a .port →
    (1 ≤ (s.port i).pers ∧ (s.port i).pers ≤ 3) →
    exec (.registerWrite (.win a .port 0x108 p) v) s = .next ((s.setPort i { (s.port i) with devCtl := (mergePart p (s.portRead i 0x108) v) &&& 0x1FFFF0000 }).pumpAll)) ∧
  (∀ (s : State) (a : AccessPort) (i : Nat) (p : Part) (v : Word),
    s.apLive a = true →
    (a = .debug → s.plumb.dbgOpen = true) →
    s.selInvalid a .port = false →
    i = s.selInst a .port →
    ((s.port i).pers = 5 ∧ 1 ≤ (mergePart p (s.portRead i 0x120) v).toNat % 2 ^ 16 ∧ (mergePart p (s.portRead i 0x120) v).toNat % 2 ^ 16 ≤ 10000) →
    exec (.registerWrite (.win a .port 0x120 p) v) s = .next ((s.setPort i { (s.port i) with ridge := { (s.port i).ridge with ctl := (mergePart p (s.portRead i 0x120) v) &&& 0x7FFFFFFF } }).pumpAll)) ∧
  (∀ (s : State) (a : AccessPort) (i : Nat) (p : Part) (v : Word),
    s.apLive a = true →
    (a = .debug → s.plumb.dbgOpen = true) →
    s.selInvalid a .port = false →
    i = s.selInst a .port →
    (¬((s.port i).pers = 5 ∧ 1 ≤ (mergePart p (s.portRead i 0x120) v).toNat % 2 ^ 16 ∧ (mergePart p (s.portRead i 0x120) v).toNat % 2 ^ 16 ≤ 10000)) →
    exec (.registerWrite (.win a .port 0x120 p) v) s = .next ((s.setPort i (s.port i)).pumpAll)) ∧
  (∀ (s : State) (a : AccessPort) (i : Nat) (p : Part) (v : Word),
    s.apLive a = true →
    (a = .debug → s.plumb.dbgOpen = true) →
    s.selInvalid a .frame = false →
    i = s.selInst a .frame →
    (mergePart p 0 v).getLsbD 47 = true →
    exec (.registerWrite (.win a .frame 0x110 p) v) s = .next ((s.setFrame i { (s.frame i) with csErr := setFld (setFld (s.frame i).csErr 63 48 0) 47 47 0 }).pumpAll)) ∧
  (∀ (s : State) (a : AccessPort) (i : Nat) (p : Part) (v : Word),
    s.apLive a = true →
    (a = .debug → s.plumb.dbgOpen = true) →
    s.selInvalid a .frame = false →
    i = s.selInst a .frame →
    (mergePart p 0 v).getLsbD 47 = false →
    exec (.registerWrite (.win a .frame 0x110 p) v) s = .next ((s).pumpAll)) ∧
  (∀ (s : State) (a : AccessPort) (i : Nat) (p : Part) (v : Word),
    s.apLive a = true →
    (a = .debug → s.plumb.dbgOpen = true) →
    s.selInvalid a .nq = false →
    i = s.selInst a .nq →
    s.nqWait = [] →
    s.nqStalls a = false →
    (1 ≤ (mergePart p (BitVec.ofNat 64 (s.frame i).nqLevel) v).toNat % 256 ∧ (mergePart p (BitVec.ofNat 64 (s.frame i).nqLevel) v).toNat % 256 ≤ 252) →
    exec (.registerWrite (.win a .nq 0x110 p) v) s = .next ((s.setFrame i { (s.frame i) with nqLevel := (mergePart p (BitVec.ofNat 64 (s.frame i).nqLevel) v).toNat % 256 }).pumpAll)) ∧
  (∀ (s : State) (a : AccessPort) (i : Nat) (p : Part) (v : Word),
    s.apLive a = true →
    (a = .debug → s.plumb.dbgOpen = true) →
    s.selInvalid a .nq = false →
    i = s.selInst a .nq →
    s.nqWait = [] →
    s.nqStalls a = false →
    (¬(1 ≤ (mergePart p (BitVec.ofNat 64 (s.frame i).nqLevel) v).toNat % 256 ∧ (mergePart p (BitVec.ofNat 64 (s.frame i).nqLevel) v).toNat % 256 ≤ 252)) →
    exec (.registerWrite (.win a .nq 0x110 p) v) s = .next ((s).pumpAll)) ∧
  (∀ (s : State) (a : AccessPort) (i : Nat) (p : Part) (v : Word),
    s.apLive a = true →
    (a = .debug → s.plumb.dbgOpen = true) →
    s.selInvalid a .nq = false →
    i = s.selInst a .nq →
    s.nqWait = [] →
    s.nqStalls a = false →
    (1 ≤ (mergePart p (BitVec.ofNat 64 (s.frame i).nqTimeout) v).toNat % 128 ∧ (mergePart p (BitVec.ofNat 64 (s.frame i).nqTimeout) v).toNat % 128 ≤ 100) →
    exec (.registerWrite (.win a .nq 0x118 p) v) s = .next ((s.setFrame i { (s.frame i) with nqTimeout := (mergePart p (BitVec.ofNat 64 (s.frame i).nqTimeout) v).toNat % 128 }).pumpAll)) ∧
  (∀ (s : State) (a : AccessPort) (i : Nat) (p : Part) (v : Word),
    s.apLive a = true →
    (a = .debug → s.plumb.dbgOpen = true) →
    s.selInvalid a .nq = false →
    i = s.selInst a .nq →
    s.nqWait = [] →
    s.nqStalls a = false →
    (¬(1 ≤ (mergePart p (BitVec.ofNat 64 (s.frame i).nqTimeout) v).toNat % 128 ∧ (mergePart p (BitVec.ofNat 64 (s.frame i).nqTimeout) v).toNat % 128 ≤ 100)) →
    exec (.registerWrite (.win a .nq 0x118 p) v) s = .next ((s).pumpAll)) ∧
  (∀ (s : State) (a : AccessPort) (i : Nat) (p : Part) (v : Word),
    s.apLive a = true →
    (a = .debug → s.plumb.dbgOpen = true) →
    s.selInvalid a .cmdq = false →
    i = s.selInst a .cmdq →
    p = .full →
    (s.frame i).ring.cfg.getLsbD 0 = false →
    exec (.registerWrite (.win a .cmdq 0x100 p) v) s = .next ((s.setFrame i { (s.frame i) with ring := { (s.frame i).ring with cmdBase := v &&& 0x00FFFFFFFFFFE000 } }).pumpAll)) ∧
  (∀ (s : State) (a : AccessPort) (i : Nat) (p : Part) (v : Word),
    s.apLive a = true →
    (a = .debug → s.plumb.dbgOpen = true) →
    s.selInvalid a .cmdq = false →
    i = s.selInst a .cmdq →
    p = .full →
    (s.frame i).ring.cfg.getLsbD 1 = false →
    exec (.registerWrite (.win a .cmdq 0x118 p) v) s = .next ((s.setFrame i { (s.frame i) with ring := { (s.frame i).ring with rplBase := v &&& 0x00FFFFFFFFFFE000 } }).pumpAll)) ∧
  (∀ (s : State) (a : AccessPort) (i : Nat) (p : Part) (v : Word),
    s.apLive a = true →
    (a = .debug → s.plumb.dbgOpen = true) →
    s.selInvalid a .cmdq = false →
    i = s.selInst a .cmdq →
    (p ≠ .full ∨ (s.frame i).ring.cfg.getLsbD 0 = true) →
    exec (.registerWrite (.win a .cmdq 0x100 p) v) s = .next ((s.setFrame i (s.frame i)).pumpAll)) ∧
  (∀ (s : State) (a : AccessPort) (i : Nat) (p : Part) (v : Word),
    s.apLive a = true →
    (a = .debug → s.plumb.dbgOpen = true) →
    s.selInvalid a .cmdq = false →
    i = s.selInst a .cmdq →
    (mergePart p 0 v).getLsbD 1 = true →
    exec (.registerWrite (.win a .cmdq 0x138 p) v) s = .next ((s.setFrame i { (s.frame i) with ring := { (s.frame i).ring with ringErr := false } }).pumpAll)) ∧
  (∀ (s : State) (a : AccessPort) (w : Win) (o : BitVec 16) (p : Part) (v : Word),
    s.apLive a = true →
    (a = .debug → s.plumb.dbgOpen = true) →
    (w = .nq → s.nqWait = [] ∧ s.nqStalls a = false) →
    s.selInvalid a w = false →
    (o.toNat % 8 = 0 ∧ o.toNat ≠ 0) →
    (o.toNat < 0x100 ∨ w = .global ∨ w = .stud ∨ w = .lane ∨ w = .dom) →
    exec (.registerWrite (.win a w o p) v) s = .next ((s).pumpAll)) ∧
  (∀ (s : State) (a : AccessPort) (w : Win) (o : BitVec 16) (p : Part) (v : Word),
    o.toNat % 8 ≠ 0 →
    exec (.registerWrite (.win a w o p) v) s = .next (s)) ∧
  (∀ (s : State) (d wr : Bool) (o : BitVec 32) (n : Nat) (v : Word),
    s.live = false →
    exec (.registerWrite (.port d wr o n) v) s = .next (s)) ∧
  (∀ (s : State) (wr : Bool) (o : BitVec 32) (n : Nat) (v : Word),
    s.live = true →
    s.plumb.dbgOpen = false →
    exec (.registerWrite (.port true wr o n) v) s = .next (if wr then s else { s with plumb := { s.plumb with debugOut := s.plumb.debugOut ++ [readPart (partOf o.toNat n) (BitVec.allOnes 64)] } })) ∧
  (∀ (s : State) (wr : Bool) (o : BitVec 32) (n : Nat) (v : Word),
    winAt o.toNat n = none →
    exec (.registerWrite (.port false wr o n) v) s = .next (s)) ∧
  (∀ (s : State) (wr : Bool) (o : BitVec 32) (n : Nat) (v : Word),
    s.live = true →
    s.plumb.dbgOpen = true →
    winAt o.toNat n = none →
    exec (.registerWrite (.port true wr o n) v) s = .next (let u := s.recAdd 0x42 0 2 1; if wr then u else { u with plumb := { u.plumb with debugOut := u.plumb.debugOut ++ [readPart (partOf o.toNat n) (BitVec.allOnes 64)] } })) ∧
  (∀ (s : State) (d : Bool) (o : BitVec 32) (n : Nat) (v : Word) (w : Win) (k : BitVec 16) (p : Part) (a : AccessPort),
    s.live = true →
    (d = true → s.plumb.dbgOpen = true) →
    winAt o.toNat n = some (w, k.toNat, p) →
    a = (if d then .debug else .plumb) →
    exec (.registerWrite (.port d true o n) v) s = exec (.registerWrite (.win a w k p) v) s) ∧
  (∀ (s : State) (d : Bool) (o : BitVec 32) (n : Nat) (v : Word) (p : Part),
    s.live = true →
    (d = true → s.plumb.dbgOpen = true) →
    winAt o.toNat n = some (.nq, 0x100, p) →
    exec (.registerWrite (.port d false o n) v) s = exec (.nqPop (if d then AccessPort.debug else .plumb) p) s) ∧
  (∀ (s : State) (d : Bool) (o : BitVec 32) (n : Nat) (v : Word) (w : Win) (k : Nat) (p : Part),
    s.live = true →
    (d = true → s.plumb.dbgOpen = true) →
    winAt o.toNat n = some (w, k, p) →
    (w ≠ .upmu ∧ w ≠ .lane) →
    (w = .nq → k ≠ 0x100 ∧ s.nqWait = [] ∧ s.nqStalls (if d then AccessPort.debug else .plumb) = false) →
    exec (.registerWrite (.port d false o n) v) s = .next ({ s with plumb := { s.plumb with debugOut := s.plumb.debugOut ++ [s.windowRead (if d then AccessPort.debug else .plumb) w k p] } })) ∧
  (∀ (s : State) (d : Bool) (o : BitVec 32) (n : Nat) (v : Word) (w : Win) (k : Nat) (p : Part),
    s.live = true →
    (d = true → s.plumb.dbgOpen = true) →
    winAt o.toNat n = some (w, k, p) →
    (w = .upmu ∨ w = .lane) →
    exec (.registerWrite (.port d false o n) v) s = .next (let u := s.counted (if d then AccessPort.debug else .plumb) w k; { u with plumb := { u.plumb with debugOut := u.plumb.debugOut ++ [u.windowRead (if d then AccessPort.debug else .plumb) w k p] } })) ∧
  (∀ (s : State) (a : AccessPort) (w : Win) (k : Nat) (p : Part),
    s.apLive a = true →
    (a = .debug → s.plumb.dbgOpen = true) →
    (s.windowRead a w 0 p = readPart p (s.selWord a w)) ∧ (s.windowRead a w 8 p = readPart p (s.selInfo a w)) ∧
      (8 < k → k < 0x100 → s.windowRead a w k p = 0) ∧
      (0x100 ≤ k → s.selInvalid a w = true → s.windowRead a w k p = readPart p (BitVec.allOnes 64)) ∧
      (0x100 ≤ k → s.selInvalid a w = false → s.windowRead a w k p = readPart p (s.regRead w (s.selInst a w) k))) ∧
  (∀ (s : State) (w : Win) (p : Part) (k : Fin 4) (v : Word) (g : Bool) (o : BitVec 16),
    s.live = true →
    (w = .nq → s.nqWait = [] ∧ s.nqStalls .debug = false) →
    s.plumb.dbgOpen = false →
    o.toNat % 8 = 0 →
    exec (.bayCtlWrite .debug p v) s = .next s.pumpAll ∧
      exec (.tenonThreshWrite .debug p v) s = .next s.pumpAll ∧
      exec (.upmuCtlWrite .debug k p v) s = .next s.pumpAll ∧
      exec (.upmuCntWrite .debug k p v) s = .next s.pumpAll ∧
      exec (.cmdqCmdTailWrite .debug p v) s = .next s.pumpAll ∧
      exec (.cmdqRplHeadWrite .debug p v) s = .next s.pumpAll ∧
      exec (.cmdqCfgWrite .debug p v) s = .next s.pumpAll ∧
      exec (.cbqriOperation .debug g v) s = .next s.pumpAll ∧
      exec (.registerWrite (.win .debug w o p) v) s = .next s.pumpAll) ∧
  (∀ (s : State),
    s.idleRings →
    s.pumpAll = s)

/-- A VIN sample between 4.5 V and 66 V is recorded, newest first of 100, with the input current and the converter's ratio, and counts in the extremes of Scribe; where the input no longer carries the configured cap a notice goes to every frame as it begins. At or below 4.5 V the package logic fails, and above 66 V the absolute maximum is exceeded. The input-current limit stretches the clocks, counted as it begins, and after more than 1 ms in 10 ms lowers the cap to 95 % of the power measured, with a notice; the cap is restored 1 s after the last stretching, and not while it lasts. PWRFAIL_N asserted limits channels and ports to a quarter, holds every stud at 800 MHz and 550 mV, counts, starts a flush with cause 2 or a second one behind the one under way, ends a freeze, marks the commands that run, and writes the repair map where it has changed; THROTTLE_N holds every stud at 1.2 GHz or below. Each is lifted by its release, every stud at the frequency of R388 again. Cores' registers, homes, memory and the lines of channels stay; on a package that is not live only the pins and the measurement follow. The ratio's hysteresis is log entry 23 (the model's choice). -/
def Obligations.SupplySamplesAndLimits : Prop :=
  (∀ (s : State) (v i : Nat),
    s.live = true →
    (4500 < v ∧ v ≤ 66000) →
    let p : Power := { s.power with vin := v, iin := i, ratio := ratioFor s.power.ratio v, vins := (v :: s.power.vins).take 100, below6 := s.power.below6 || decide (v < 6000) };
      let u : State := (({ s with power := { p with vinLow := decide (p.avail < p.capCfg * 1000) } } : State).recExtreme 0x11 0 0 v).recExtreme 0x11 0 1 i;
      exec (.vinSample v i) s = .next (if p.avail < p.capCfg * 1000 ∧ s.power.vinLow = false then u.postAll (notice 0x21 3 8 (3 * 2 ^ 12) (min 65535 (u.power.capEff / 1000) * 2 ^ 16 + min 65535 (u.power.pkgPower / 1000))) else u)) ∧
  (∀ (s : State) (v i : Nat),
    s.live = false →
    v ≤ 66000 →
    exec (.vinSample v i) s = .next ({ s with power := { s.power with vin := v, iin := i } })) ∧
  (∀ (s : State) (v i : Nat),
    s.live = true →
    v ≤ 4500 →
    exec (.vinSample v i) s = .fault .logicFailure) ∧
  (∀ (s : State) (v i : Nat),
    66000 < v →
    exec (.vinSample v i) s = .fault .beyondAbsoluteMaximum) ∧
  (∀ (s : State) (a l : Bool) (m : Nat),
    s.live = true →
    let r : State := { s with power := { s.power with stretch := a } };
      let r := if a = true ∧ s.power.stretch = false then r.recAdd 0x40 0 10 1 else r;
      let u : State := { r with power := { r.power with capStretch := some (m * 95 / 100) } };
      exec (.inputCurrentLimit a l m) s = .next (if l = true then u.postAll (notice 0x21 3 8 (4 * 2 ^ 12) (min 65535 (u.power.capEff / 1000) * 2 ^ 16 + min 65535 (u.power.pkgPower / 1000))) else r)) ∧
  (∀ (s : State) (a l : Bool) (m : Nat),
    s.live = false →
    exec (.inputCurrentLimit a l m) s = .next (s)) ∧
  (∀ (s : State),
    exec .stretchCapRestore s = .next (if s.power.stretch then s else { s with power := { s.power with capStretch := none } })) ∧
  (∀ (s : State),
    s.live = true →
    RunsTo (exec .pwrfailNAssert s) fun u =>
      u.pins = { s.pins with pwrfailN := false } ∧ u.power = { s.power with pwrfail := true } ∧ (∀ n, n < 12 → (u.stud n).freq = 800 ∧ (u.stud n).mvolt = voltOf (u.stud n).freq ∧ u.stud n = { s.stud n with freq := (u.stud n).freq, mvolt := (u.stud n).mvolt }) ∧
      (∀ c, (s.chans.any (fun e => e.1 == c)) = true → u.chan c = { s.chan c with quarter := true }) ∧ (∀ p, (s.ports.any (fun e => e.1 == p)) = true → (u.port p).quarter = true ∧ (u.port p).roots = ((s.port p).limit true).roots ∧ (u.port p).purlin = (s.port p).purlin ∧ (u.port p).ridge = (s.port p).ridge) ∧ (u.scribe.flushing = some 2 ∧ u.scribe.again = s.scribe.again ∧ s.scribe.flushing = none ∨ u.scribe.flushing = s.scribe.flushing ∧ u.scribe.again = some (s.scribe.again.getD 2) ∧ s.scribe.flushing ≠ none) ∧ u.scribe.frozen = false ∧ u.scribe.log = s.scribe.log ∧
      u.plumb = { s.plumb with jobs := s.plumb.jobs.map (fun j => { j with early := j.running }), mapDirty := false, journalMap := if s.plumb.mapDirty then (List.range 12).foldl (fun m n => Tab.put m {} n (s.tenon n).jmap) [] else s.plumb.journalMap, mapSeq := if s.plumb.mapDirty then s.plumb.mapSeq + 1 else s.plumb.mapSeq } ∧
      u.homes = s.homes ∧ u.mem = s.mem ∧ s.keepsNet u ∧ u.tenons = s.tenons ∧ (∀ c, (s.frame (s.frameOfCore c)).nq.stalled = [] → (u.core c).regs.x = (s.core c).regs.x ∧ (u.core c).pipe = (s.core c).pipe)) ∧
  (∀ (s : State),
    s.live = true →
    s.power.pwrfail = true →
    RunsTo (exec .pwrfailNRelease s) fun u =>
      u.pins = { s.pins with pwrfailN := true } ∧ u.power = { s.power with pwrfail := false } ∧ (∀ n, n < 12 → (u.stud n).freq = max 800 (min (({ s with power := { s.power with pwrfail := false } } : State).uncapped n) (s.stud n).capLimit) ∧ (u.stud n).mvolt = voltOf (u.stud n).freq ∧ u.stud n = { s.stud n with freq := (u.stud n).freq, mvolt := (u.stud n).mvolt }) ∧
      (∀ c, (s.chans.any (fun e => e.1 == c)) = true → u.chan c = { s.chan c with quarter := false }) ∧ (∀ p, (s.ports.any (fun e => e.1 == p)) = true → (u.port p).quarter = false ∧ (u.port p).roots = ((s.port p).limit false).roots ∧ (u.port p).purlin = (s.port p).purlin ∧ (u.port p).ridge = (s.port p).ridge) ∧ u.plumb = s.plumb ∧ u.scribe = s.scribe ∧
      u.homes = s.homes ∧ u.mem = s.mem ∧ s.keepsNet u ∧ u.tenons = s.tenons ∧ (∀ c, (s.frame (s.frameOfCore c)).nq.stalled = [] → (u.core c).regs.x = (s.core c).regs.x ∧ (u.core c).pipe = (s.core c).pipe)) ∧
  (∀ (s : State),
    s.live = false →
    exec .pwrfailNAssert s = .next ({ s with pins := { s.pins with pwrfailN := false } })) ∧
  (∀ (s : State),
    (s.live = false ∨ s.power.pwrfail = false) →
    exec .pwrfailNRelease s = .next ({ s with pins := { s.pins with pwrfailN := true } })) ∧
  (∀ (s : State),
    s.live = true →
    s.power.throttle = false →
    RunsTo (exec .throttleNAssert s) fun u =>
      u.pins = { s.pins with throttleN := false } ∧ u.power = { s.power with throttle := true } ∧ (∀ n, n < 12 → (u.stud n).freq = max 800 (min (({ s with power := { s.power with throttle := true } } : State).uncapped n) (s.stud n).capLimit) ∧ (u.stud n).freq ≤ 1200 ∧ (u.stud n).mvolt = voltOf (u.stud n).freq ∧ u.stud n = { s.stud n with freq := (u.stud n).freq, mvolt := (u.stud n).mvolt }) ∧ u.chans = s.chans ∧ u.plumb = s.plumb ∧ u.scribe = s.scribe ∧
      u.homes = s.homes ∧ u.mem = s.mem ∧ s.keepsNet u ∧ u.tenons = s.tenons ∧ (∀ c, (s.frame (s.frameOfCore c)).nq.stalled = [] → (u.core c).regs.x = (s.core c).regs.x ∧ (u.core c).pipe = (s.core c).pipe)) ∧
  (∀ (s : State),
    (s.live = false ∨ s.power.throttle = true) →
    exec .throttleNAssert s = .next ({ s with pins := { s.pins with throttleN := false } })) ∧
  (∀ (s : State),
    s.live = true →
    s.power.throttle = true →
    RunsTo (exec .throttleNRelease s) fun u =>
      u.pins = { s.pins with throttleN := true } ∧ u.power = { s.power with throttle := false } ∧ (∀ n, n < 12 → (u.stud n).freq = max 800 (min (({ s with power := { s.power with throttle := false } } : State).uncapped n) (s.stud n).capLimit) ∧ (u.stud n).mvolt = voltOf (u.stud n).freq ∧ u.stud n = { s.stud n with freq := (u.stud n).freq, mvolt := (u.stud n).mvolt }) ∧ u.chans = s.chans ∧ u.plumb = s.plumb ∧ u.scribe = s.scribe ∧
      u.homes = s.homes ∧ u.mem = s.mem ∧ s.keepsNet u ∧ u.tenons = s.tenons ∧ (∀ c, (s.frame (s.frameOfCore c)).nq.stalled = [] → (u.core c).regs.x = (s.core c).regs.x ∧ (u.core c).pipe = (s.core c).pipe)) ∧
  (∀ (s : State),
    (s.live = false ∨ s.power.throttle = false) →
    exec .throttleNRelease s = .next ({ s with pins := { s.pins with throttleN := true } }))

/-- CONTROL_PERIOD records the 100 µs means, and every stud then runs at the frequency of R388 and its voltage; in the mode of one frame the frame takes its grant, the demand held to its cap and to the package's, its demand and its F, 3600 where it is granted its demand, otherwise one at which its estimate stays within 99 % of the grant, or 800. STUD_RAISE_STEP records the 1 ms means; a frame granted its demand stays; one over its grant falls by 100 MHz, not below 800, with all its studs; otherwise the stud raised next rises 100 MHz above F where the estimate stays within 99 % of the grant. A coolant sample in range is accepted, newest first of 5, counted in Scribe, and makes a stale input fresh, with a notice; a stale input enters the fallback with a duty of 100 %, counted and noticed, and the fallback ends, with a notice, once every input is fresh. COOL_STEP sets the duty by R396, and every stud runs at the frequency that its thermal limit gives: of a stud nothing but thermal limit, frequency and voltage changes; a fit that passes its bounds becomes the model, another ages it; a sensor sample sets the stud's Tj, or its quadrant's, its validity and hold, and the frequencies that follow. Beside notices nothing else changes. -/
def Obligations.PowerControlAndCooling : Prop :=
  (∀ (s : State) (l : List (Nat × Nat)) (t : State),
    s.live = true →
    t = { s with power := { s.power with ctlPower := measured s.power.ctlPower l } } →
    RunsTo (exec (.controlPeriod l) s) fun u =>
      u.power = { s.power with ctlPower := measured s.power.ctlPower l, capBinding := u.power.capBinding, unreach := u.power.unreach } ∧
      (∀ n, n < 12 → (u.stud n).freq = max 800 (min (s.uncapped n) (u.stud n).capLimit) ∧ (u.stud n).mvolt = voltOf (u.stud n).freq ∧ (u.stud n).policy = (s.stud n).policy ∧ (u.stud n).sense = (s.stud n).sense ∧ (u.stud n).thermLimit = (s.stud n).thermLimit) ∧
      u.homes = s.homes ∧ u.mem = s.mem ∧ s.keepsNet u ∧ u.chans = s.chans ∧ u.tenons = s.tenons ∧ u.plumb = s.plumb ∧ (∀ c, (s.frame (s.frameOfCore c)).nq.stalled = [] → (u.core c).regs.x = (s.core c).regs.x)) ∧
  (∀ (s : State) (l : List (Nat × Nat)) (t : State),
    s.live = true →
    t = { s with power := { s.power with ctlPower := measured s.power.ctlPower l } } →
    s.mode = 0 →
    RunsTo (exec (.controlPeriod l) s) fun u =>
      (u.frame 0).grant = min t.power.capEff (if (s.frame 0).cap = 0 then t.demandOf 0 else min (t.demandOf 0) ((s.frame 0).cap * 1000)) ∧ (u.frame 0).demand = t.demandOf 0 ∧
      ((u.frame 0).grant = t.demandOf 0 → (u.frame 0).capF = 3600) ∧ ((u.frame 0).grant < t.demandOf 0 → (u.frame 0).capF = 800 ∨ t.frameAt 0 (fun _ => (u.frame 0).capF) * 100 ≤ 99 * (u.frame 0).grant) ∧
      (∀ n, n < 12 → (u.stud n).capLimit = if (u.frame 0).capF = (s.frame 0).capF then (s.stud n).capLimit else (u.frame 0).capF)) ∧
  (∀ (s : State) (f : FrameId) (l : List (Nat × Nat)),
    s.live = true →
    f.val < frameCount s.mode →
    (s.frame f).demand ≤ (s.frame f).grant →
    exec (.studRaiseStep f l) s = .next (((List.range 12).foldl (fun (r : State) n => r.setStud n { r.stud n with power := Tab.get (measured s.power.domPower l) 0 (2 + n) }) { s with power := { s.power with domPower := (measured s.power.domPower l), pkgPower := (measured s.power.domPower l).foldl (fun n e => n + e.2) 0 } }))) ∧
  (∀ (s : State) (f : FrameId) (l : List (Nat × Nat)),
    s.live = true →
    f.val < frameCount s.mode →
    (s.frame f).grant < (s.frame f).demand →
    (s.frame f).grant < s.framePower (measured s.power.domPower l) f →
    let r : State := ((List.range 12).foldl (fun (r : State) n => r.setStud n { r.stud n with power := Tab.get (measured s.power.domPower l) 0 (2 + n) }) { s with power := { s.power with domPower := (measured s.power.domPower l), pkgPower := (measured s.power.domPower l).foldl (fun n e => n + e.2) 0 } });
      RunsTo (exec (.studRaiseStep f l) s) fun u =>
      u = { (r.setFrame f { s.frame f with capF := max 800 ((s.frame f).capF - 100) }) with studs := u.studs } ∧
      (∀ n, n < 12 → (studsOf s.mode f).contains n = false → u.stud n = r.stud n) ∧
      (∀ n ∈ studsOf s.mode f, (u.stud n).freq = max 800 (min (s.uncapped n) (max 800 ((s.frame f).capF - 100))) ∧ u.stud n = { r.stud n with capLimit := max 800 ((s.frame f).capF - 100), freq := (u.stud n).freq, mvolt := voltOf (u.stud n).freq })) ∧
  (∀ (s : State) (f : FrameId) (l : List (Nat × Nat)) (k : Nat),
    s.live = true →
    f.val < frameCount s.mode →
    (s.frame f).grant < (s.frame f).demand →
    s.framePower (measured s.power.domPower l) f ≤ (s.frame f).grant →
    (((List.range 12).foldl (fun (r : State) n => r.setStud n { r.stud n with power := Tab.get (measured s.power.domPower l) 0 (2 + n) }) { s with power := { s.power with domPower := (measured s.power.domPower l), pkgPower := (measured s.power.domPower l).foldl (fun n e => n + e.2) 0 } })).raiseNext f = some k →
    (s.frame f).capF ≤ 3500 →
    k < 12 →
    let r : State := ((List.range 12).foldl (fun (r : State) n => r.setStud n { r.stud n with power := Tab.get (measured s.power.domPower l) 0 (2 + n) }) { s with power := { s.power with domPower := (measured s.power.domPower l), pkgPower := (measured s.power.domPower l).foldl (fun n e => n + e.2) 0 } });
      let up : Bool := decide ((r.frameAt f (fun n => if n = k then (s.frame f).capF + 100 else (s.stud n).capLimit)) * 100 ≤ 99 * (s.frame f).grant);
      RunsTo (exec (.studRaiseStep f l) s) fun u =>
      (up = false → u = r) ∧ (up = true → u = r.setStud k { r.stud k with capLimit := (s.frame f).capF + 100, freq := max 800 (min (s.uncapped k) ((s.frame f).capF + 100)), mvolt := voltOf (max 800 (min (s.uncapped k) ((s.frame f).capF + 100))) })) ∧
  (∀ (s : State) (f : FrameId) (l : List (Nat × Nat)),
    s.live = true →
    f.val < frameCount s.mode →
    (s.frame f).grant < (s.frame f).demand →
    s.framePower (measured s.power.domPower l) f ≤ (s.frame f).grant →
    ((((List.range 12).foldl (fun (r : State) n => r.setStud n { r.stud n with power := Tab.get (measured s.power.domPower l) 0 (2 + n) }) { s with power := { s.power with domPower := (measured s.power.domPower l), pkgPower := (measured s.power.domPower l).foldl (fun n e => n + e.2) 0 } })).raiseNext f = none ∨ 3500 < (s.frame f).capF) →
    exec (.studRaiseStep f l) s = .next ((List.range 12).foldl (fun (r : State) n => r.setStud n { r.stud n with power := Tab.get (measured s.power.domPower l) 0 (2 + n) }) { s with power := { s.power with domPower := (measured s.power.domPower l), pkgPower := (measured s.power.domPower l).foldl (fun n e => n + e.2) 0 } })) ∧
  (∀ (s : State) (f : FrameId) (l : List (Nat × Nat)),
    (s.live = false ∨ frameCount s.mode ≤ f.val) →
    exec (.studRaiseStep f l) s = .next (s)) ∧
  (∀ (s : State) (l : List (Nat × Nat)),
    s.live = false →
    exec (.controlPeriod l) s = .next (s)) ∧
  (∀ (s : State) (c : Coolant) (v : Int),
    s.live = true →
    (0 ≤ v ∧ v ≤ (if c = .tach then 2000 else 9000)) →
    (s.power.input c).stale = false →
    exec (.coolantSample c true v) s = .next (({ s with power := s.power.setInput c { (s.power.input c) with samples := (v :: (s.power.input c).samples).take 5, pulsed := (s.power.input c).pulsed || (c == .tach && decide (0 < v)) } } : State).recExtreme 0x12 0 (coolNo c) v)) ∧
  (∀ (s : State) (c : Coolant) (v : Int),
    s.live = true →
    (0 ≤ v ∧ v ≤ (if c = .tach then 2000 else 9000)) →
    (s.power.input c).stale = true →
    (c = .tach → (s.power.input c).pulsed = false ∨ 0 < v ∨ s.power.duty < 40) →
    let u : State := ({ s with power := { s.power.setInput c { (s.power.input c) with samples := (v :: (s.power.input c).samples).take 5, pulsed := (s.power.input c).pulsed || (c == .tach && decide (0 < v)), stale := false } with lastFresh := coolNo c } } : State).recExtreme 0x12 0 (coolNo c) v;
      exec (.coolantSample c true v) s = .next (u.postAll (notice 0x22 2 10 (coolNo c * 2 ^ 12 + 1 * 2 ^ 8 + u.power.duty / 2) ((((u.power.input c).samples.headD 0) % 65536).toNat * 2 ^ 16)))) ∧
  (∀ (s : State),
    s.live = true →
    s.power.tach.stale = true →
    s.power.tach.pulsed = true →
    40 ≤ s.power.duty →
    exec (.coolantSample .tach true 0) s = .next (({ s with power := { s.power with tach := { s.power.tach with samples := (0 :: s.power.tach.samples).take 5 } } } : State).recExtreme 0x12 0 2 0)) ∧
  (∀ (s : State) (c : Coolant) (b : Bool) (v : Int),
    (s.live = false ∨ b = false ∨ ¬(0 ≤ v ∧ v ≤ (if c = .tach then 2000 else 9000))) →
    exec (.coolantSample c b v) s = .next (s)) ∧
  (∀ (s : State) (c : Coolant),
    s.live = true →
    (s.power.input c).stale = false →
    (c ≠ .tach ∨ s.power.tach.pulsed = true) →
    s.power.fallback = false →
    let u : State := ({ s with power := { s.power.setInput c { (s.power.input c) with stale := true } with fallback := true, duty := 200 } } : State).recAdd 0x40 0 8 1;
      let w := u.postAll (notice 0x22 2 10 (coolNo c * 2 ^ 12 + 0 * 2 ^ 8 + u.power.duty / 2) ((((u.power.input c).samples.headD 0) % 65536).toNat * 2 ^ 16));
      exec (.coolantStale c) s = .next (w.postAll (notice 0x22 2 10 (coolNo c * 2 ^ 12 + 3 * 2 ^ 8 + w.power.duty / 2) ((((w.power.input c).samples.headD 0) % 65536).toNat * 2 ^ 16)))) ∧
  (∀ (s : State) (c : Coolant),
    s.live = true →
    (s.power.input c).stale = false →
    (c ≠ .tach ∨ s.power.tach.pulsed = true) →
    s.power.fallback = true →
    let u : State := { s with power := s.power.setInput c { (s.power.input c) with stale := true } };
      exec (.coolantStale c) s = .next (u.postAll (notice 0x22 2 10 (coolNo c * 2 ^ 12 + 0 * 2 ^ 8 + u.power.duty / 2) ((((u.power.input c).samples.headD 0) % 65536).toNat * 2 ^ 16)))) ∧
  (∀ (s : State) (c : Coolant),
    (s.live = false ∨ (s.power.input c).stale = true ∨ c = .tach ∧ (s.power.input c).pulsed = false) →
    exec (.coolantStale c) s = .next (s)) ∧
  (∀ (s : State),
    (s.live = true ∧ s.power.fallback = true ∧ s.power.inlet.stale = false ∧ s.power.outlet.stale = false ∧ s.power.tach.stale = false) →
    let u : State := { s with power := { s.power with fallback := false, duty := if s.power.coolMode = 1 then 2 * s.power.fixedDuty else s.power.duty } };
      exec .coolantFallbackExit s = .next (u.postAll (notice 0x22 2 10 (coolNo (coolAt s.power.lastFresh) * 2 ^ 12 + 4 * 2 ^ 8 + u.power.duty / 2) ((((u.power.input (coolAt s.power.lastFresh)).samples.headD 0) % 65536).toNat * 2 ^ 16)))) ∧
  (∀ (s : State),
    (¬(s.live = true ∧ s.power.fallback = true ∧ s.power.inlet.stale = false ∧ s.power.outlet.stale = false ∧ s.power.tach.stale = false)) →
    exec .coolantFallbackExit s = .next (s)) ∧
  (∀ (s : State),
    s.live = true →
    s.power.trip = false →
    RunsTo (exec .coolStep s) fun u =>
      u.power = { s.power with duty := u.power.duty, overOut := u.power.overOut, outCut := u.power.outCut } ∧
      (∀ n, n < 12 → (u.stud n).freq = max 800 (min (u.uncapped n) (s.stud n).capLimit) ∧ (u.stud n).mvolt = voltOf (u.stud n).freq ∧ u.stud n = { s.stud n with thermLimit := (u.stud n).thermLimit, freq := (u.stud n).freq, mvolt := (u.stud n).mvolt }) ∧
      u.homes = s.homes ∧ u.mem = s.mem ∧ s.keepsNet u ∧ u.chans = s.chans ∧ u.tenons = s.tenons ∧ u.plumb = s.plumb ∧ (∀ c, (s.frame (s.frameOfCore c)).nq.stalled = [] → (u.core c).regs.x = (s.core c).regs.x) ∧ u.scribe = s.scribe) ∧
  (∀ (s : State),
    s.live = true →
    s.power.trip = false →
    (s.power.coolMode ≠ 0 ∨ s.power.fallback = true) →
    RunsTo (exec .coolStep s) fun u => u.power.duty = if s.power.fallback then s.power.duty else 2 * s.power.fixedDuty) ∧
  (∀ (s : State),
    s.live = true →
    s.power.trip = false →
    (s.power.coolMode = 0 ∧ s.power.fallback = false) →
    RunsTo (exec .coolStep s) fun u => u.power.duty =
        if ((median s.power.outlet.samples).elim false (fun t => decide (s.power.limit * 10 < t)) || ((List.range 12).map (fun n => s.predictStud n (s.estimate n (s.stud n).freq))).any (fun t => decide (9500 < t))) = true then min 200 (s.power.duty + 10)
        else if (((List.range 12).map (fun n => s.predictStud n (s.estimate n (s.stud n).freq))).all (fun t => decide (t < 8800)) && (median s.power.outlet.samples).elim false (fun t => decide (t < s.power.limit * 10 - 200))) = true then max 40 (s.power.duty - 2)
        else s.power.duty) ∧
  (∀ (s : State),
    (s.live = false ∨ s.power.trip = true) →
    exec .coolStep s = .next (s)) ∧
  (∀ (s : State) (n : Fin 13) (a b g c r : Nat),
    s.live = true →
    n.val < 12 →
    ((r ≤ 150 ∧ 5000 ≤ a ∧ a ≤ 2000000 ∧ 1000000 ≤ b ∧ b ≤ 300000000 ∧ a < b ∧ 100 ≤ g ∧ g ≤ 10000 ∧ 500 ≤ c ∧ c ≤ 1500)) →
    exec (.thermalRefit n a b g c r) s = .next (s.setStud n.val { s.stud n.val with model := { tau1 := a, tau2 := b, gain := g, coup := c, residual := r, fitted := true, age := 0 } })) ∧
  (∀ (s : State) (n : Fin 13) (a b g c r : Nat),
    s.live = true →
    n.val = 12 →
    ((r ≤ 150 ∧ 5000 ≤ a ∧ a ≤ 2000000 ∧ 1000000 ≤ b ∧ b ≤ 300000000 ∧ a < b ∧ 100 ≤ g ∧ g ≤ 10000 ∧ 500 ≤ c ∧ c ≤ 1500)) →
    exec (.thermalRefit n a b g c r) s = .next ({ s with power := { s.power with pkgModel := { tau1 := a, tau2 := b, gain := g, coup := c, residual := r, fitted := true, age := 0 } } })) ∧
  (∀ (s : State) (n : Fin 13) (a b g c r : Nat),
    s.live = true →
    n.val < 12 →
    (¬(r ≤ 150 ∧ 5000 ≤ a ∧ a ≤ 2000000 ∧ 1000000 ≤ b ∧ b ≤ 300000000 ∧ a < b ∧ 100 ≤ g ∧ g ≤ 10000 ∧ 500 ≤ c ∧ c ≤ 1500)) →
    exec (.thermalRefit n a b g c r) s = .next (s.setStud n.val { s.stud n.val with model := { (s.stud n.val).model with age := (s.stud n.val).model.age + 10000 } })) ∧
  (∀ (s : State) (n : Fin 13) (a b g c r : Nat),
    s.live = true →
    n.val = 12 →
    (¬(r ≤ 150 ∧ 5000 ≤ a ∧ a ≤ 2000000 ∧ 1000000 ≤ b ∧ b ≤ 300000000 ∧ a < b ∧ 100 ≤ g ∧ g ≤ 10000 ∧ 500 ≤ c ∧ c ≤ 1500)) →
    exec (.thermalRefit n a b g c r) s = .next ({ s with power := { s.power with pkgModel := { s.power.pkgModel with age := s.power.pkgModel.age + 10000 } } })) ∧
  (∀ (s : State) (n : Fin 13) (a b g c r : Nat),
    s.live = false →
    exec (.thermalRefit n a b g c r) s = .next (s)) ∧
  (∀ (s : State) (n : Fin 16) (l : List Int),
    s.live = true →
    s.power.trip = false →
    s.plumb.hot = [] →
    n.val < 12 →
    RunsTo (exec (.sensorSample n l) s) fun u =>
      u.stud n = { s.stud n with sense := ((s.stud n).sense.sample l []), freq := (u.stud n).freq, mvolt := (u.stud n).mvolt } ∧ (u.stud n).freq = u.studFreq n ∧ (u.stud n).mvolt = voltOf (u.stud n).freq ∧
      (∀ k, k ≠ n.val → u.stud k = s.stud k) ∧ u.power = s.power ∧
      u.homes = s.homes ∧ u.mem = s.mem ∧ s.keepsNet u ∧ u.chans = s.chans ∧ u.tenons = s.tenons ∧ u.plumb = s.plumb ∧ (∀ c, (s.frame (s.frameOfCore c)).nq.stalled = [] → (u.core c).regs.x = (s.core c).regs.x)) ∧
  (∀ (s : State) (n : Fin 16) (v : Int),
    s.live = true →
    s.power.trip = false →
    s.plumb.hot = [] →
    n.val < 12 →
    (-2000 ≤ v ∧ v ≤ 15000) →
    (s.stud n).sense.valid = [] →
    RunsTo (exec (.sensorSample n (List.replicate 8 v)) s) fun u =>
      (u.stud n).sense = { temps := List.replicate 8 v, valid := List.replicate 8 true, agree := List.replicate 8 0, tj := v, hold := if (s.stud n).sense.hold then decide (10000 < v) else decide (10500 ≤ v), none_ := false }) ∧
  (∀ (s : State) (n : Fin 16) (l : List Int) (q : Nat),
    s.live = true →
    s.power.trip = false →
    s.plumb.hot = [] →
    12 ≤ n.val →
    q = n.val - 12 →
    let rest : List Int := (List.range 4).flatMap (fun r => if r = q then [] else (Tab.get s.power.sill {} r).temps);
      RunsTo (exec (.sensorSample n l) s) fun u =>
      u.power = { s.power with sill := Tab.set s.power.sill q ((Tab.get s.power.sill {} q).sample l rest) } ∧
      (∀ k, k < 12 → u.stud k = (if k / 3 = q then { s.stud k with freq := u.studFreq k, mvolt := voltOf (u.studFreq k) } else s.stud k)) ∧
      u.homes = s.homes ∧ u.mem = s.mem ∧ s.keepsNet u ∧ u.chans = s.chans ∧ u.tenons = s.tenons ∧ u.plumb = s.plumb ∧ (∀ c, (s.frame (s.frameOfCore c)).nq.stalled = [] → (u.core c).regs.x = (s.core c).regs.x)) ∧
  (∀ (s : State) (n : Fin 16) (l : List Int),
    (s.live = false ∨ s.power.trip = true) →
    exec (.sensorSample n l) s = .next (s)) ∧
  (∀ (s : State) (n : Fin 16) (l : List Int),
    s.live = true →
    s.power.trip = false →
    s.plumb.hot ≠ [] →
    (if l.all (fun t => decide (t ≤ 9000)) then s.plumb.hot.filter (· != n.val) else s.plumb.hot) ≠ [] →
    n.val < 12 →
    RunsTo (exec (.sensorSample n l) s) fun u =>
      (u.stud n).sense = ((s.stud n).sense.sample l []) ∧ u.plumb = { s.plumb with hot := if l.all (fun t => decide (t ≤ 9000)) then s.plumb.hot.filter (· != n.val) else s.plumb.hot } ∧ u.homes = s.homes ∧ u.mem = s.mem)

/-- THERMTRIP asserts THERMTRIP_N, takes the rails of every domain but D0 off, so that cores, caches, homes, channels, ports and DRAM are lost while the boot flash and the repair map stay, is latched and counted, and starts a flush with cause 5; where it is latched already nothing changes. A loss of REFCLK halts every booted frame with a fatal error and asserts ERROR_N; what Plumb holds stays, and a second one changes nothing. What a CXL device holds lies outside the package. -/
def Obligations.TripAndClockLoss : Prop :=
  (∀ (s : State),
    s.live = true →
    s.power.trip = false →
    RunsTo (exec .thermtrip s) fun u =>
      u.power.trip = true ∧ u.pins = { s.pins with thermtripN := false } ∧ u.cores = [] ∧ u.homes = [] ∧ u.chans = [] ∧ u.frames = [] ∧ u.ports = [] ∧ u.studs = [] ∧
      u.net = [] ∧ (∀ k, k < 2 ^ 48 → Mem.get u.mem k = Mem.get [] k) ∧ (∀ k, 2 ^ 48 ≤ k → Mem.get u.mem k = Mem.get s.mem k) ∧ u.plumb = s.plumb ∧
      (s.scribe.flushing = none → u.scribe.flushing = some 5) ∧ (s.scribe.flushing ≠ none → u.scribe.flushing = s.scribe.flushing ∧ u.scribe.again = some (s.scribe.again.getD 5)) ∧ u.scribe.log = s.scribe.log ∧
      (∀ d, 1 ≤ d ∧ d < 30 → Tab.get u.power.domState 0 d = 4 ∧ Tab.get u.power.domVolt 0 d = 0) ∧ u.power.duty = s.power.duty ∧ u.power.vin = s.power.vin ∧
      (∀ n, (u.tenon n).st = 0 ∧ (u.tenon n).up.retired = (s.tenon n).up.retired ∧ (u.tenon n).dn.retired = (s.tenon n).dn.retired ∧ (u.tenon n).up.spare = (s.tenon n).up.spare ∧ (u.tenon n).dn.spare = (s.tenon n).dn.spare)) ∧
  (∀ (s : State),
    (s.live = false ∨ s.power.trip = true) →
    exec .thermtrip s = .next (s)) ∧
  (∀ (s : State),
    s.live = true →
    s.refLost = false →
    RunsTo (exec .refclkLoss s) fun u =>
      u.refLost = true ∧ (∀ f ∈ s.bootedFrames, (u.frame f).halted = true ∧ ((s.frame f).halted = false → u.pins.errorN = false ∧ (∀ c, s.frameOfCore c = f → (u.core c).run ≠ .run))) ∧ u.plumb.flash = s.plumb.flash ∧ u.power.vin = s.power.vin ∧ u.mode = s.mode) ∧
  (∀ (s : State),
    (s.live = false ∨ s.refLost = true) →
    exec .refclkLoss s = .next (s))

/-- A core that waits in WFI with no wake standing goes to SLEEP; with the last working core of a stud its domain sleeps and its PLL stops. From SLEEP a core goes, unless its stud's policy is 1 or a timer is near, into the DEEP entry. The entry waits until the core has drained, begins a writeback of every dirty line, waits until none is left, copies the comparators and commits at its fourth point, leaving L1, L2 and translation but for wired HEWN entries empty, and keeping the hart's registers; with the last core of the stud its domain is deep. A wake abandons the entry before that point, and is kept at it. A wake lets an idle, sleeping or deep core run, with its stud's rail, PLL and link up, and releases a held hart that was woken at the boot bay's bench window, or at the boot flash where it entered by its own reset; a stud that is held or under test keeps it waiting. The arrays of a bay not accessed with every working stud deep go to RETAIN at 500 mV; a shared domain in LOW wakes on demand, its waiting reads with it, and returns without demand, its ranks in self-refresh and its links in their deepest state. In every other state these do nothing. Other cores, homes, frames, memory and messages stay. -/
def Obligations.IdleStatesAndDomains : Prop :=
  (∀ (s : State) (c : CoreId),
    ((s.core c).run = .idle ∧ (s.core c).waiting = .wfi) →
    s.mustWake c = false →
    ((coresOf (c.val / 32)).filter (fun d => bitOf (s.stud (c.val / 32)).cores (d % 32))).any (fun d => d != c.val && (s.core d).run != .deep && (s.core d).run != .held && (s.core d).run != .sleep) = true →
    exec (.idlePromotionSleep c) s = .next (s.setCore c { (s.core c) with run := .sleep })) ∧
  (∀ (s : State) (c : CoreId),
    ((s.core c).run = .idle ∧ (s.core c).waiting = .wfi) →
    s.mustWake c = false →
    ((coresOf (c.val / 32)).filter (fun d => bitOf (s.stud (c.val / 32)).cores (d % 32))).all (fun d => d == c.val || (s.core d).run == .deep || (s.core d).run == .held || (s.core d).run == .sleep) = true →
    bitOf (s.stud (c.val / 32)).cores (c.val % 32) = true →
    RunsTo (exec (.idlePromotionSleep c) s) fun u =>
      (u.core c).run = .sleep ∧ u.stud (c.val / 32) = { (s.stud (c.val / 32)) with domSleep := true, domDeep := false, pllOn := false, pllReady := false } ∧
      (∀ d, (u.core d) = if d / 32 = c.val / 32 then { (if d = c.val then { s.core d with run := .sleep } else s.core d) with regs := (u.core d).regs } else s.core d) ∧ (∀ d, (u.core d).regs.x = (s.core d).regs.x ∧ (u.core d).regs.pc = (s.core d).regs.pc) ∧ (∀ d, d / 32 = c.val / 32 → (u.core d).csrBit Csr.mclksel 3 = false) ∧ (∀ n, n ≠ c.val / 32 → u.stud n = s.stud n) ∧ u.homes = s.homes ∧ u.mem = s.mem ∧ u.net = s.net ∧ u.frames = s.frames ∧ u.chans = s.chans ∧ u.ports = s.ports ∧ u.plumb = s.plumb ∧ u.scribe = s.scribe) ∧
  (∀ (s : State) (c : CoreId),
    ((s.core c).run ≠ .idle ∨ (s.core c).waiting ≠ .wfi ∨ s.mustWake c = true) →
    exec (.idlePromotionSleep c) s = .next (s)) ∧
  (∀ (s : State) (c : CoreId),
    ((s.core c).run = .sleep ∧ (s.stud (c.val / 32)).policy ≠ 1 ∧ s.mustWake c = false ∧ (s.core c).timerNear (s.coreTime c) = false) →
    exec (.idlePromotionDeep c) s = .next (s.setCore c { (s.core c) with run := .entering .ap1 })) ∧
  (∀ (s : State) (c : CoreId),
    (¬((s.core c).run = .sleep ∧ (s.stud (c.val / 32)).policy ≠ 1 ∧ s.mustWake c = false ∧ (s.core c).timerNear (s.coreTime c) = false)) →
    exec (.idlePromotionDeep c) s = .next (s)) ∧
  (∀ (s : State) (c : CoreId),
    (s.core c).run = .entering .ap1 →
    (s.mustWake c = false ∨ (s.core c).resetting = true) →
    (s.core c).drained = true →
    (s.core c).pipe.dirtyLines = [] →
    exec (.deepEntryStep c .ap1) s = .next (s.setCore c { (s.core c) with run := .entering .ap2, xlat := { (s.core c).xlat with walks := [] } })) ∧
  (∀ (s : State) (c : CoreId) (l : Nat),
    (s.core c).run = .entering .ap1 →
    (s.mustWake c = false ∨ (s.core c).resetting = true) →
    (s.core c).drained = true →
    (s.core c).pipe.dirtyLines = [l] →
    isRidgeLine l = false →
    (s.core c).pipe.slots = [] →
    RunsTo (exec (.deepEntryStep c .ap1) s) fun u =>
      (u.core c).run = .entering .ap2 ∧ (u.core c).xlat = { (s.core c).xlat with walks := [] } ∧ ((u.core c).pipe.keepOf l).isSome = true ∧ (u.core c).regs = (s.core c).regs ∧ (u.core c).pipe.l2 = (s.core c).pipe.l2 ∧
      (∀ d, d ≠ c.val → u.core d = s.core d) ∧ u.homes = s.homes ∧ u.mem = s.mem ∧ u.frames = s.frames) ∧
  (∀ (s : State) (c : CoreId),
    (s.core c).run = .entering .ap1 →
    (s.mustWake c = false ∨ (s.core c).resetting = true) →
    (s.core c).drained = false →
    exec (.deepEntryStep c .ap1) s = .next (s)) ∧
  (∀ (s : State) (c : CoreId),
    (s.core c).run = .entering .ap2 →
    s.mustWake c = false →
    (s.core c).resetting = false →
    (s.core c).pipe.clean = true →
    exec (.deepEntryStep c .ap2) s = .next (s.setCore c { (s.core c) with run := .entering .ap3 })) ∧
  (∀ (s : State) (c : CoreId) (l : Nat),
    (s.core c).run = .entering .ap2 →
    (s.mustWake c = false ∨ (s.core c).resetting = true) →
    (s.core c).pipe.dirtyLines = [l] →
    isRidgeLine l = false →
    (s.core c).pipe.slots = [] →
    RunsTo (exec (.deepEntryStep c .ap2) s) fun u =>
      (u.core c).run = .entering .ap2 ∧ ((u.core c).pipe.keepOf l).isSome = true ∧ (u.core c).regs = (s.core c).regs ∧ (u.core c).xlat = (s.core c).xlat ∧
      (∀ d, d ≠ c.val → u.core d = s.core d) ∧ u.homes = s.homes ∧ u.mem = s.mem ∧ u.frames = s.frames) ∧
  (∀ (s : State) (c : CoreId),
    (s.core c).run = .entering .ap2 →
    (s.mustWake c = false ∨ (s.core c).resetting = true) →
    (s.core c).pipe.clean = false →
    ((s.core c).pipe.dirtyLines.filter (fun l => ((s.core c).pipe.keepOf l).isNone)) = [] →
    exec (.deepEntryStep c .ap2) s = .next (s)) ∧
  (∀ (s : State) (c : CoreId),
    (s.core c).run = .entering .ap3 →
    (s.mustWake c = false ∨ (s.core c).resetting = true) →
    exec (.deepEntryStep c .ap3) s = .next (s.setCore c { (s.core c) with run := .entering .ap4, wakeCmp := ((s.core c).csr Csr.stimecmp, (s.core c).csr Csr.vstimecmp, (s.core c).csr Csr.htimedelta) })) ∧
  (∀ (s : State) (c : CoreId),
    (s.core c).run = .entering .ap4 →
    RunsTo (exec (.deepEntryStep c .ap4) s) fun u =>
      (u.core c).run = .deep ∧ (∀ d, (u.core d) = if d / 32 = c.val / 32 then { (if d = c.val then { s.core d with run := .deep, pipe := {}, xlat := { shim := (s.core d).xlat.shim, shimVer := (s.core d).xlat.shimVer, l2tlb := (s.core d).xlat.l2tlb.filter (fun e => e.2.wired && e.2.kind == .hewn) } } else s.core d) with regs := (u.core d).regs } else s.core d) ∧ (∀ d, (u.core d).regs.x = (s.core d).regs.x ∧ (u.core d).regs.pc = (s.core d).regs.pc) ∧ (∀ n, n ≠ c.val / 32 → u.stud n = s.stud n) ∧
      (((coresOf (c.val / 32)).filter (fun d => bitOf (s.stud (c.val / 32)).cores (d % 32))).all (fun d => d == c.val || (s.core d).run == .deep || (s.core d).run == .held) = true → (s.stud (c.val / 32)).cores % 2 ^ 32 ≠ 0 → u.stud (c.val / 32) = { (s.stud (c.val / 32)) with domDeep := true, domSleep := false, pllOn := false, pllReady := false }) ∧ u.homes = s.homes ∧ u.mem = s.mem ∧ u.net = s.net ∧ u.frames = s.frames ∧ u.chans = s.chans ∧ u.ports = s.ports ∧ u.plumb = s.plumb ∧ u.scribe = s.scribe) ∧
  (∀ (s : State) (c : CoreId) (a : AbortPoint),
    (s.core c).run ≠ .entering a →
    exec (.deepEntryStep c a) s = .next (s)) ∧
  (∀ (s : State) (c : CoreId) (a : AbortPoint),
    (s.core c).run = .entering a →
    a ≠ .ap4 →
    s.mustWake c = true →
    (s.core c).resetting = false →
    exec (.deepEntryStep c a) s = exec (.wakeEvent c) s) ∧
  (∀ (s : State) (c : CoreId),
    s.mustWake c = true →
    (s.core c).run = .idle →
    ((s.core c).pipe.waits = [] ∧ (s.core c).pipe.fence = [] ∧ (s.core c).pipe.storeQ = [] ∧ (s.core c).pipe.slots = [] ∧ (s.core c).pipe.rob = [] ∧ (s.core c).pipe.stall = none ∧ (s.core c).pipe.poison = none ∧ (s.core c).pipe.trapped = false) →
    exec (.wakeEvent c) s = .next (s.setCore c { (s.core c) with run := .run, waiting := .nothing, wake := false })) ∧
  (∀ (s : State) (c : CoreId),
    s.mustWake c = true →
    (((s.core c).run = .sleep ∨ (s.core c).run = .entering .ap1 ∨ (s.core c).run = .entering .ap2 ∨ (s.core c).run = .entering .ap3) ∧ (s.core c).resetting = false ∨ (s.core c).run = .deep ∧ (s.stud (c.val / 32)).held = false ∧ (s.stud (c.val / 32)).testing = false ∧ (s.core c).resetting = false) →
    (s.tenon (c.val / 32)).st ≠ 3 →
    ((s.core c).pipe.waits = [] ∧ (s.core c).pipe.fence = [] ∧ (s.core c).pipe.storeQ = [] ∧ (s.core c).pipe.slots = [] ∧ (s.core c).pipe.rob = [] ∧ (s.core c).pipe.stall = none ∧ (s.core c).pipe.poison = none ∧ (s.core c).pipe.trapped = false) →
    RunsTo (exec (.wakeEvent c) s) fun u =>
      (∀ d, d ≠ c.val → u.core d = s.core d) ∧ (u.core c).regs.x = (s.core c).regs.x ∧ (u.core c).regs.pc = (s.core c).regs.pc ∧ (u.core c).run = .run ∧ (u.core c).waiting = .nothing ∧ (u.core c).wake = false ∧ (u.core c).xlat = (s.core c).xlat ∧
      u.stud (c.val / 32) = { (s.stud (c.val / 32)) with domDeep := false, domSleep := false, pllOn := true, mvolt := if (s.stud (c.val / 32)).domDeep then (if s.power.pwrfail then 550 else 700) else (s.stud (c.val / 32)).mvolt } ∧ (∀ n, n ≠ c.val / 32 → u.stud n = s.stud n) ∧ u.tenons = s.tenons ∧ u.homes = s.homes ∧ u.mem = s.mem ∧ u.net = s.net ∧ u.frames = s.frames ∧ u.chans = s.chans ∧ u.ports = s.ports ∧ u.plumb = s.plumb ∧ u.scribe = s.scribe) ∧
  (∀ (s : State) (c : CoreId),
    s.mustWake c = true →
    ((s.core c).run = .deep ∧ (s.stud (c.val / 32)).held = false ∧ (s.stud (c.val / 32)).testing = false) →
    (s.tenon (c.val / 32)).st = 3 →
    RunsTo (exec (.wakeEvent c) s) fun u => (u.tenon (c.val / 32)).st = 2 ∧ (u.stud (c.val / 32)).domDeep = false ∧ (∀ n, n ≠ c.val / 32 → (u.tenon n).st = (s.tenon n).st)) ∧
  (∀ (s : State) (c : CoreId),
    s.mustWake c = true →
    ((s.core c).run = .deep ∧ ((s.stud (c.val / 32)).held = true ∨ (s.stud (c.val / 32)).testing = true) ∨ (s.core c).run = .entering .ap4) →
    exec (.wakeEvent c) s = .next (s.setCore c { (s.core c) with wake := true })) ∧
  (∀ (s : State) (c : CoreId),
    (s.core c).run = .held →
    ((s.core c).wake = true ∧ (s.stud (c.val / 32)).held = false ∧ (s.stud (c.val / 32)).testing = false ∧ s.isBooted (s.frameOfCore c) = true ∧ (s.frame (s.frameOfCore c)).halted = false) →
    (s.tenon (c.val / 32)).st ≠ 3 →
    RunsTo (exec (.wakeEvent c) s) fun u =>
      (u.core c).run = .run ∧ (u.core c).entry = false ∧ (u.core c).wake = false ∧ (u.core c).regs.pc.toNat = (if (s.core c).entry then flashBase else benchBase (s.frame (s.frameOfCore c)).bootBay) ∧
      (u.core c).regs.readX 10 = BitVec.ofNat 64 (s.mhartid c) ∧ (u.core c).regs.readX 11 = BitVec.ofNat 64 (if (s.core c).entry then 0 else benchBase (s.frame (s.frameOfCore c)).bootBay + 0x1FF0000) ∧ (u.core c).regs.readX 12 = BitVec.ofNat 64 (s.core c).cause ∧
      (u.core c).regs.priv = 3 ∧ (u.core c).regs.virt = false ∧ (u.stud (c.val / 32)).pllOn = true ∧ (∀ d, d ≠ c.val → u.core d = s.core d) ∧ u.homes = s.homes ∧ u.mem = s.mem ∧ u.net = s.net ∧ u.frames = s.frames ∧ u.chans = s.chans ∧ u.ports = s.ports ∧ u.plumb = s.plumb ∧ u.scribe = s.scribe) ∧
  (∀ (s : State) (c : CoreId),
    (s.mustWake c = false ∨ (s.core c).run = .run ∨ (s.core c).run = .stopped ∨ (s.core c).run = .held ∧ ¬((s.core c).wake = true ∧ (s.stud (c.val / 32)).held = false ∧ (s.stud (c.val / 32)).testing = false ∧ s.isBooted (s.frameOfCore c) = true ∧ (s.frame (s.frameOfCore c)).halted = false) ∨ (s.core c).resetting = true ∧ ((s.core c).run = .entering .ap1 ∨ (s.core c).run = .entering .ap2 ∨ (s.core c).run = .entering .ap3)) →
    exec (.wakeEvent c) s = .next (s)) ∧
  (∀ (s : State) (b : BayId),
    (s.isBooted (s.frameOfStud b) = true ∧ s.domStateOf (14 + b.val) = 0 ∧ ((studsOf s.mode (s.frameOfStud b)).filter (fun n => (s.stud n).state != 1)).all s.allDeep = true) →
    exec (.arrayRetainEntry b) s = .next ({ s with power := { s.power with domState := Tab.put s.power.domState 0 (14 + b.val) 5, domVolt := Tab.put s.power.domVolt 0 (14 + b.val) 500 } })) ∧
  (∀ (s : State) (b : BayId),
    (¬(s.isBooted (s.frameOfStud b) = true ∧ s.domStateOf (14 + b.val) = 0 ∧ ((studsOf s.mode (s.frameOfStud b)).filter (fun n => (s.stud n).state != 1)).all s.allDeep = true)) →
    exec (.arrayRetainEntry b) s = .next (s)) ∧
  (∀ (s : State) (d : DomId),
    26 ≤ d.val →
    s.domStateOf d = 3 →
    RunsTo (exec (.domainLowWake d) s) fun u =>
      u.power = { s.power with woken := u.power.woken, domState := Tab.put s.power.domState 0 d 0, domVolt := Tab.put s.power.domVolt 0 d (domRail d) } ∧ (∀ e, u.power.woken.contains e = (e == d.val || s.power.woken.contains e)) ∧
      (∀ c, (u.chan c).rq = if (chansOfDom d).contains c then (s.chan c).rq.map (fun e => { e with wait_ := false }) else (s.chan c).rq) ∧ (∀ c, (u.chan c).wq = (s.chan c).wq) ∧ u.ports = s.ports ∧ u.cores = s.cores ∧ u.studs = s.studs ∧ u.homes = s.homes ∧ u.mem = s.mem ∧ u.net = s.net ∧ u.frames = s.frames) ∧
  (∀ (s : State) (d : DomId),
    (d.val < 26 ∨ s.domStateOf d ≠ 3) →
    exec (.domainLowWake d) s = .next (s)) ∧
  (∀ (s : State) (d : DomId),
    s.power.woken.contains d.val = true →
    s.domBusy d = false →
    RunsTo (exec (.domainLowReturn d) s) fun u =>
      u.power = { s.power with woken := u.power.woken, domState := Tab.put s.power.domState 0 d 3, domVolt := Tab.put s.power.domVolt 0 d (domRail d) } ∧ u.power.woken = s.power.woken.filter (· != d.val) ∧
      (∀ c, ((chansOfDom d).contains c && (s.chan c).st == 2) = true → (∀ r, r < (s.chan c).nr → ((u.chan c).rank r).sr = true)) ∧ (∀ c, ((chansOfDom d).contains c && (s.chan c).st == 2) = false → u.chan c = s.chan c) ∧
      (∀ p, (portsOfDom d).contains p = true → u.port p = { s.port p with roots := (s.port p).roots.map (fun e => (e.1, if e.2.up then { e.2 with power := deepestPower e.2.cfg e.2.flit e.2.width e.2.ltr } else e.2)), dt := { (s.port p).dt with link := if 2 ≤ (s.port p).dt.link then linkCode (deepestPower (s.port p).dt.cfg_ (s.port p).dt.flit (s.port p).dt.width (s.port p).dt.ltr) else (s.port p).dt.link } }) ∧ (∀ p, (portsOfDom d).contains p = false → u.port p = s.port p) ∧ u.cores = s.cores ∧ u.studs = s.studs ∧ u.homes = s.homes ∧ u.mem = s.mem ∧ u.net = s.net ∧ u.frames = s.frames) ∧
  (∀ (s : State) (d : DomId),
    (s.power.woken.contains d.val = false ∨ s.domBusy d = true) →
    exec (.domainLowReturn d) s = .next (s)) ∧
  (∀ (s : State) (cfg : Map Word) (flit : Bool) (w : Nat) (n : Option Nat),
    deepestPower cfg flit w n = (if powerAllows cfg flit w n .l12 then .l12 else if powerAllows cfg flit w n .l11 then .l11 else if powerAllows cfg flit w n .l1 then .l1 else if powerAllows cfg flit w n .l0pQuarter then .l0pQuarter else if powerAllows cfg flit w n .l0pHalf then .l0pHalf else .l0))

/-- A periodic sample adds one to the bin of its value in a record that is not frozen, with SAMPLES and the timestamp, and in an extremes record it moves the extremes it passes; while Scribe is frozen it counts as missed. A record that the catalogue does not hold or that another command samples takes none. A freeze that expires thaws Scribe, with a notice; the hourly flush starts one with cause 3, or follows the one under way; the end of a flush writes every record and the line log into the older image with the next sequence number, or counts the failure and leaves the images, posts its notice, and answers the command it serves; a second flush then starts if one was triggered. A changed repair map is written to the journal with its sequence number counted up. Other records, the line log, cores' registers, homes and memory stay. -/
def Obligations.ScribeSamplesAndFlushes : Prop :=
  (∀ (s : State) (r : Word) (q : Nat) (v : Int) (i : Nat),
    s.live = true →
    recOfId r.toNat = some (0x01, i) →
    exec (.scribeSample r q v) s = .next (s.recAdd 0x01 i (min 63 ((v - (-1000)) / 200).toNat) 1)) ∧
  (∀ (s : State) (r : Word) (q : Nat) (v : Int) (i : Nat),
    s.live = true →
    recOfId r.toNat = some (0x02, i) →
    exec (.scribeSample r q v) s = .next (s.recAdd 0x02 i (min 63 (v / (if i = 255 then 12500 else 1250)).toNat) 1)) ∧
  (∀ (s : State) (r : Word) (q : Nat) (v : Int) (i : Nat),
    s.live = true →
    recOfId r.toNat = some (0x03, i) →
    exec (.scribeSample r q v) s = .next (s.recAdd 0x03 i (min 28 ((v - (800)) / 100).toNat) 1)) ∧
  (∀ (s : State) (r : Word) (q : Nat) (v : Int) (i : Nat),
    s.live = true →
    recOfId r.toNat = some (0x13, i) →
    exec (.scribeSample r q v) s = .next (s.recAdd 0x13 i (min 200 v.toNat) 1)) ∧
  (∀ (s : State) (r : Word) (q : Nat) (v : Int) (i : Nat),
    s.live = true →
    recOfId r.toNat = some (0x30, i) →
    q < 2 →
    exec (.scribeSample r q v) s = .next (s.recAdd 0x30 i (32 * q + log2Upto 31 v.toNat) 1)) ∧
  (∀ (s : State) (r : Word) (q : Nat) (v : Int) (i : Nat),
    s.live = true →
    recOfId r.toNat = some (0x10, i) →
    q < 2 →
    exec (.scribeSample r q v) s = .next (s.recExtreme 0x10 i q v)) ∧
  (∀ (s : State) (r : Word) (q : Nat) (v : Int),
    (s.live = false ∨ recOfId r.toNat = none) →
    exec (.scribeSample r q v) s = .next (s)) ∧
  (∀ (s : State) (r : Word) (q : Nat) (v : Int) (e : Nat × Nat),
    recOfId r.toNat = some e →
    (e.1 ∉ ([0x01, 0x02, 0x03, 0x10, 0x13, 0x30] : List Nat) ∨ ((e.1 = 0x10 ∨ e.1 = 0x30) ∧ 2 ≤ q)) →
    exec (.scribeSample r q v) s = .next (s)) ∧
  (∀ (s : State) (k i b n : Nat),
    s.scribe.frozen = false →
    (s.recOf k i).bin k b + n < 2 ^ 64 - 1 →
    (s.recOf k i).samples < 2 ^ 64 - 1 →
    b < 1000 →
    let u := s.recAdd k i b n;
      (u.recOf k i).bin k b = (s.recOf k i).bin k b + n ∧ (u.recOf k i).samples = (s.recOf k i).samples + 1 ∧ (u.recOf k i).upd = s.stamp ∧ (u.recOf k i).missed = (s.recOf k i).missed ∧ (u.recOf k i).clr = (s.recOf k i).clr ∧
      (∀ j, j ≠ b → (u.recOf k i).bin k j = (s.recOf k i).bin k j) ∧ (∀ a d, recKey a d ≠ recKey k i → u.recOf a d = s.recOf a d) ∧ u.scribe.log = s.scribe.log ∧ u.cores = s.cores ∧ u.homes = s.homes ∧ u.mem = s.mem ∧ u.frames = s.frames ∧ u.ports = s.ports) ∧
  (∀ (s : State) (k i b n : Nat),
    s.scribe.frozen = true →
    (s.recOf k i).missed < 2 ^ 64 - 1 →
    let u := s.recAdd k i b n;
      u.recOf k i = { s.recOf k i with missed := (s.recOf k i).missed + 1 } ∧ (∀ a d, recKey a d ≠ recKey k i → u.recOf a d = s.recOf a d) ∧ u.scribe.log = s.scribe.log ∧ u.cores = s.cores ∧ u.homes = s.homes ∧ u.mem = s.mem ∧ u.frames = s.frames ∧ u.ports = s.ports) ∧
  (∀ (s : State) (k i q : Nat) (v : Int),
    s.scribe.frozen = false →
    (k = 0x10 ∨ k = 0x11 ∨ k = 0x12) →
    (s.recOf k i).samples < 2 ^ 64 - 1 →
    let u := s.recExtreme k i q v;
      (u.recOf k i).bin k (4 * q) = min v ((s.recOf k i).bin k (4 * q)) ∧ (u.recOf k i).bin k (4 * q + 2) = max v ((s.recOf k i).bin k (4 * q + 2)) ∧ (u.recOf k i).samples = (s.recOf k i).samples + 1 ∧
      (u.recOf k i).bin k (4 * q + 1) = (if v < (s.recOf k i).bin k (4 * q) then (s.stamp.toNat : Int) else (s.recOf k i).bin k (4 * q + 1)) ∧
      (u.recOf k i).bin k (4 * q + 3) = (if (s.recOf k i).bin k (4 * q + 2) < v then (s.stamp.toNat : Int) else (s.recOf k i).bin k (4 * q + 3)) ∧ (∀ a d, recKey a d ≠ recKey k i → u.recOf a d = s.recOf a d) ∧ u.scribe.log = s.scribe.log ∧ u.cores = s.cores ∧ u.homes = s.homes ∧ u.mem = s.mem ∧ u.frames = s.frames ∧ u.ports = s.ports) ∧
  (∀ (s : State),
    s.live = true →
    s.scribe.frozen = true →
    exec .scribeFreezeExpiry s = .next (({ s with scribe := { s.scribe with frozen := false } } : State).postAll (notice 0x50 3 11 (2 * 2 ^ 12 + 0 * 2 ^ 8) 0))) ∧
  (∀ (s : State),
    (s.live = false ∨ s.scribe.frozen = false) →
    exec .scribeFreezeExpiry s = .next (s)) ∧
  (∀ (s : State),
    s.live = true →
    s.scribe.flushing = none →
    exec .scribePeriodicFlush s = .next (({ s with scribe := { s.scribe with flushing := some 3 } } : State).recAdd 0x40 0 11 1)) ∧
  (∀ (s : State),
    s.live = true →
    s.scribe.flushing ≠ none →
    exec .scribePeriodicFlush s = .next ({ s with scribe := { s.scribe with again := some (s.scribe.again.getD 3) } })) ∧
  (∀ (s : State),
    s.live = false →
    exec .scribePeriodicFlush s = .next (s)) ∧
  (∀ (s : State) (c : Nat),
    s.plumb.on = true →
    s.scribe.flushing = some c →
    s.scribe.again = none →
    s.plumb.jobs.any (fun j => j.opcode == 0x54 && j.running) = false →
    exec (.scribeFlushEnd true) s = .next (({ s with scribe := { s.scribe with slots := Tab.set s.scribe.slots (if (Tab.find s.scribe.slots 0).elim 0 (·.seq) ≤ (Tab.find s.scribe.slots 1).elim 0 (·.seq) then 0 else 1) { seq := s.scribe.imageSeq + 1, cause := c, boot := s.scribe.bootNo, bins := s.scribe.recs.map (fun e => (e.1, e.2.bins)), heads := s.scribe.recs.map (fun e => (e.1, e.2.head)), log0 := s.scribe.counts.map (fun e => (e.1, e.2.n ++ [e.2.stamp.toNat])) }, imageSeq := s.scribe.imageSeq + 1, jLog := s.scribe.log, jLogSeq := s.scribe.logSeq, flushing := none, again := none } } : State).postAll (notice 0x50 3 11 (0 * 2 ^ 12 + c * 2 ^ 8) (s.scribe.imageSeq + 1)))) ∧
  (∀ (s : State) (c : Nat) (a : Nat),
    s.plumb.on = true →
    s.scribe.flushing = some c →
    s.scribe.again = some a →
    s.plumb.jobs.any (fun j => j.opcode == 0x54 && j.running) = false →
    exec (.scribeFlushEnd true) s = .next ((({ s with scribe := { s.scribe with slots := Tab.set s.scribe.slots (if (Tab.find s.scribe.slots 0).elim 0 (·.seq) ≤ (Tab.find s.scribe.slots 1).elim 0 (·.seq) then 0 else 1) { seq := s.scribe.imageSeq + 1, cause := c, boot := s.scribe.bootNo, bins := s.scribe.recs.map (fun e => (e.1, e.2.bins)), heads := s.scribe.recs.map (fun e => (e.1, e.2.head)), log0 := s.scribe.counts.map (fun e => (e.1, e.2.n ++ [e.2.stamp.toNat])) }, imageSeq := s.scribe.imageSeq + 1, jLog := s.scribe.log, jLogSeq := s.scribe.logSeq, flushing := none, again := none } } : State).postAll (notice 0x50 3 11 (0 * 2 ^ 12 + c * 2 ^ 8) (s.scribe.imageSeq + 1))).startFlush a)) ∧
  (∀ (s : State) (c : Nat),
    s.plumb.on = true →
    s.scribe.flushing = some c →
    s.scribe.again = none →
    s.plumb.jobs.any (fun j => j.opcode == 0x54 && j.running) = false →
    exec (.scribeFlushEnd false) s = .next (({ (s.recAdd 0x40 0 12 1) with scribe := { (s.recAdd 0x40 0 12 1).scribe with flushing := none, again := none } } : State).postAll (notice 0x50 3 11 (1 * 2 ^ 12 + c * 2 ^ 8) (s.scribe.imageSeq + 1)))) ∧
  (∀ (s : State) (c : Nat) (j : Job),
    s.plumb.on = true →
    s.scribe.flushing = some c →
    s.live = true →
    s.scribe.again = none →
    s.plumb.jobs = [j] →
    (j.opcode = 0x54 ∧ j.running = true) →
    exec (.scribeFlushEnd true) s = .next ((({ s with scribe := { s.scribe with slots := Tab.set s.scribe.slots (if (Tab.find s.scribe.slots 0).elim 0 (·.seq) ≤ (Tab.find s.scribe.slots 1).elim 0 (·.seq) then 0 else 1) { seq := s.scribe.imageSeq + 1, cause := c, boot := s.scribe.bootNo, bins := s.scribe.recs.map (fun e => (e.1, e.2.bins)), heads := s.scribe.recs.map (fun e => (e.1, e.2.head)), log0 := s.scribe.counts.map (fun e => (e.1, e.2.n ++ [e.2.stamp.toNat])) }, imageSeq := s.scribe.imageSeq + 1, jLog := s.scribe.log, jLogSeq := s.scribe.logSeq, flushing := none, again := none } } : State).postAll (notice 0x50 3 11 (0 * 2 ^ 12 + c * 2 ^ 8) (s.scribe.imageSeq + 1))).endedAs j stOk [])) ∧
  (∀ (s : State) (c : Nat) (j : Job),
    s.plumb.on = true →
    s.scribe.flushing = some c →
    s.live = true →
    s.scribe.again = none →
    s.plumb.jobs = [j] →
    (j.opcode = 0x54 ∧ j.running = true) →
    exec (.scribeFlushEnd false) s = .next ((({ (s.recAdd 0x40 0 12 1) with scribe := { (s.recAdd 0x40 0 12 1).scribe with flushing := none, again := none } } : State).postAll (notice 0x50 3 11 (1 * 2 ^ 12 + c * 2 ^ 8) (s.scribe.imageSeq + 1))).endedAs j stHwFault [])) ∧
  (∀ (s : State) (b : Bool),
    (s.plumb.on = false ∨ s.scribe.flushing = none) →
    exec (.scribeFlushEnd b) s = .next (s)) ∧
  (∀ (s : State),
    s.live = true →
    s.plumb.mapDirty = true →
    exec .repairMapJournalWrite s = .next ({ s with plumb := { s.plumb with mapDirty := false, mapSeq := s.plumb.mapSeq + 1, journalMap := (List.range 12).foldl (fun m n => Tab.put m {} n { up := (s.tenon n).up.retired, dn := (s.tenon n).dn.retired, upSp := (s.tenon n).up.spare, dnSp := (s.tenon n).dn.spare }) [] } })) ∧
  (∀ (s : State),
    (s.live = false ∨ s.plumb.mapDirty = false) →
    exec .repairMapJournalWrite s = .next (s))

/-- Deasserting PWRGOOD stops the package; the boot flash, the journal and the fused minimum SVN are kept, and DRAM, bench memory and every register are lost. A cold reset starts D0 and counts Scribe's boot number up. It takes TRY if it passes, else BOOTED, else the other slot; TRY is cleared, with FALLBACK where it failed; with no slot that passes Plumb stays in recovery, no frame booted. A boot waits while RESET_N is low, or while a die is hot. Else, where self-test finds nothing, every frame of the mode is booted: its boot hart is released at the bench window of its boot bay, with bench 8 and the boot firmware in it, a0 its mhartid, a1 the handoff block, a2 the cause, and every other hart is held; the fused minimum rises to the SVN of a bundle with DBG clear. An exit from OFF does the same with cause 1. RESET_N asserted ends every command, stops every core, takes links down and empties the homes; DRAM, flash and line log are kept; deasserted, it boots again with cause 2 and DRAM kept. A core reset, while DBG is open, drains the core and leaves it held, its caches, translation and registers reset; in a frame that is resetting it waits for its end. Outside these conditions, nothing happens but on the pin. -/
def Obligations.ResetsAndBoot : Prop :=
  (∀ (s : State),
    RunsTo (exec .pwrgoodDeassert s) fun u =>
      u.plumb.on = false ∧ u.plumb.flash = s.plumb.flash ∧ u.plumb.minSvn = s.plumb.minSvn ∧ u.plumb.journalMap = s.plumb.journalMap ∧ u.scribe.slots = s.scribe.slots ∧
      u.scribe.jLog = s.scribe.jLog ∧ u.scribe.jBoot = s.scribe.jBoot ∧ u.cores = [] ∧ u.studs = [] ∧ u.homes = [] ∧ u.chans = [] ∧ u.ports = [] ∧ u.frames = [] ∧ u.net = [] ∧ u.mtime = 0 ∧
      (∀ k, Mem.get u.mem k = if k < 2 ^ 48 then 0 else Mem.get s.mem k) ∧ u.pins.pwrgood = false ∧ u.pins.vaux = false ∧ u.pending = s.pending) ∧
  (∀ (s : State) (e : BootEnv) (b : Bundle),
    s.pins.pwrgood = false →
    s.pins.resetN = true →
    Tab.find s.plumb.flash.slots s.plumb.flash.booted = some b →
    s.plumb.flash.try_ = none →
    s.plumb.journalMap = [] →
    e = { straps := e.straps } →
    b.verifies s.plumb.minSvn = true →
    s.plumb.flash.mode = none →
    (b.comp 3).length < 0x1FF0000 →
    RunsTo (exec (.coldReset e) s) fun u =>
      (∀ f ∈ framesOf b.modeCfg.1, (u.frame f).booted = true ∧ (u.frame f).halted = false ∧ (u.frame f).cause = 0 ∧ (let n := (studsOf b.modeCfg.1 f).headD 0;
        (u.core (32 * n)).run = .run ∧ (u.core (32 * n)).regs.pc.toNat = benchBase n ∧ (u.core (32 * n)).regs.readX 10 = BitVec.ofNat 64 (u.mhartid (32 * n)) ∧
        (u.core (32 * n)).regs.readX 11 = BitVec.ofNat 64 (benchBase n + 0x1FF0000) ∧ (u.core (32 * n)).regs.readX 12 = 0 ∧ (u.core (32 * n)).regs.priv = 3 ∧ (u.home n).bench = 8 ∧
        (∀ i, i < (b.comp 3).length → Mem.get u.mem (keyBench n i) = (b.comp 3).getD i 0))) ∧
      (∀ c, c < 384 → (∀ f ∈ framesOf b.modeCfg.1, c ≠ 32 * (studsOf b.modeCfg.1 f).headD 0) → (u.core c).run = .held) ∧
      u.plumb.minSvn = (if b.dbg then s.plumb.minSvn else max s.plumb.minSvn b.svn) ∧ u.plumb.active = b.modeCfg.1 ∧ u.plumb.pkgId = e.straps % 8 ∧ u.plumb.recovery = false ∧ u.plumb.on = true ∧ u.off = false ∧ u.plumb.running = b ∧ u.plumb.dbgOpen = b.dbg ∧ u.pins.pwrgood = true ∧ u.pins.vaux = true ∧ u.scribe.bootNo = (s.scribe.jBoot + 1) % 65536 ∧ (∀ k, k < 2 ^ 47 → Mem.get u.mem k = 0)) ∧
  (∀ (s : State) (e : BootEnv) (b : Bundle),
    s.off = true →
    s.pins.resetN = true →
    Tab.find s.plumb.flash.slots s.plumb.flash.booted = some b →
    s.plumb.flash.try_ = none →
    s.plumb.journalMap = [] →
    e = { straps := e.straps } →
    b.verifies s.plumb.minSvn = true →
    s.plumb.flash.mode = none →
    (b.comp 3).length < 0x1FF0000 →
    RunsTo (exec (.exitFromOff e) s) fun u =>
      (∀ f ∈ framesOf b.modeCfg.1, (u.frame f).booted = true ∧ (u.frame f).halted = false ∧ (u.frame f).cause = 1 ∧ (let n := (studsOf b.modeCfg.1 f).headD 0;
        (u.core (32 * n)).run = .run ∧ (u.core (32 * n)).regs.pc.toNat = benchBase n ∧ (u.core (32 * n)).regs.readX 10 = BitVec.ofNat 64 (u.mhartid (32 * n)) ∧
        (u.core (32 * n)).regs.readX 11 = BitVec.ofNat 64 (benchBase n + 0x1FF0000) ∧ (u.core (32 * n)).regs.readX 12 = 1 ∧ (u.core (32 * n)).regs.priv = 3 ∧ (u.home n).bench = 8 ∧
        (∀ i, i < (b.comp 3).length → Mem.get u.mem (keyBench n i) = (b.comp 3).getD i 0))) ∧
      (∀ c, c < 384 → (∀ f ∈ framesOf b.modeCfg.1, c ≠ 32 * (studsOf b.modeCfg.1 f).headD 0) → (u.core c).run = .held) ∧
      u.plumb.minSvn = (if b.dbg then s.plumb.minSvn else max s.plumb.minSvn b.svn) ∧ u.plumb.active = b.modeCfg.1 ∧ u.plumb.pkgId = e.straps % 8 ∧ u.plumb.recovery = false ∧ u.plumb.on = true ∧ u.off = false ∧ u.plumb.running = b ∧ u.plumb.dbgOpen = b.dbg ∧ u.pins.pwrgood = true ∧ u.pins.vaux = true ∧ u.scribe.bootNo = (s.scribe.jBoot + 1) % 65536 ∧ (∀ k, k < 2 ^ 47 → Mem.get u.mem k = 0)) ∧
  (∀ (s : State) (e : BootEnv),
    s.pins.pwrgood = false →
    s.plumb.flash.slots.all (fun d => !d.2.verifies s.plumb.minSvn) = true →
    RunsTo (exec (.coldReset e) s) fun u => u.plumb.on = true ∧ u.off = false ∧ u.plumb.recovery = true ∧ u.plumb.flash = { s.plumb.flash with try_ := none, fallback := s.plumb.flash.fallback || s.plumb.flash.try_.isSome } ∧ u.frames = [] ∧ u.cores = [] ∧ u.scribe.bootNo = (s.scribe.jBoot + 1) % 65536) ∧
  (∀ (s : State) (e : BootEnv),
    s.off = true →
    s.plumb.flash.slots.all (fun d => !d.2.verifies s.plumb.minSvn) = true →
    RunsTo (exec (.exitFromOff e) s) fun u => u.plumb.offExit = true ∧ u.plumb.on = true ∧ u.off = false ∧ u.plumb.recovery = true ∧ u.plumb.flash = { s.plumb.flash with try_ := none, fallback := s.plumb.flash.fallback || s.plumb.flash.try_.isSome } ∧ u.frames = [] ∧ u.cores = [] ∧ u.scribe.bootNo = (s.scribe.jBoot + 1) % 65536) ∧
  (∀ (s : State) (e : BootEnv) (b : Bundle) (t : Nat),
    s.pins.pwrgood = false →
    s.pins.resetN = false →
    s.plumb.flash.try_ = some t →
    Tab.find s.plumb.flash.slots t = some b →
    b.verifies s.plumb.minSvn = true →
    RunsTo (exec (.coldReset e) s) fun u => u.plumb.on = true ∧ u.plumb.waitRstN = true ∧ u.plumb.running = b ∧ u.plumb.dbgOpen = b.dbg ∧ u.plumb.flash = { s.plumb.flash with booted := t, try_ := none } ∧ u.frames = [] ∧ u.cores = []) ∧
  (∀ (s : State) (e : BootEnv) (b : Bundle),
    s.pins.pwrgood = false →
    s.pins.resetN = false →
    (s.plumb.flash.try_.bind (Tab.find s.plumb.flash.slots)).all (fun d => !d.verifies s.plumb.minSvn) = true →
    Tab.find s.plumb.flash.slots s.plumb.flash.booted = some b →
    b.verifies s.plumb.minSvn = true →
    RunsTo (exec (.coldReset e) s) fun u => u.plumb.on = true ∧ u.plumb.waitRstN = true ∧ u.plumb.running = b ∧ u.plumb.dbgOpen = b.dbg ∧ u.plumb.flash = { s.plumb.flash with try_ := none, fallback := s.plumb.flash.fallback || s.plumb.flash.try_.isSome } ∧ u.frames = [] ∧ u.cores = []) ∧
  (∀ (s : State) (e : BootEnv) (b : Bundle),
    s.pins.pwrgood = false →
    s.pins.resetN = false →
    (s.plumb.flash.try_.bind (Tab.find s.plumb.flash.slots)).all (fun d => !d.verifies s.plumb.minSvn) = true →
    (Tab.find s.plumb.flash.slots s.plumb.flash.booted).all (fun d => !d.verifies s.plumb.minSvn) = true →
    Tab.find s.plumb.flash.slots (1 - s.plumb.flash.booted) = some b →
    b.verifies s.plumb.minSvn = true →
    RunsTo (exec (.coldReset e) s) fun u => u.plumb.on = true ∧ u.plumb.waitRstN = true ∧ u.plumb.running = b ∧ u.plumb.dbgOpen = b.dbg ∧ u.plumb.flash = { s.plumb.flash with booted := 1 - s.plumb.flash.booted, try_ := none, fallback := s.plumb.flash.fallback || s.plumb.flash.try_.isSome } ∧ u.frames = [] ∧ u.cores = []) ∧
  (∀ (s : State) (e : BootEnv) (b : Bundle),
    s.pins.pwrgood = false →
    s.pins.resetN = true →
    e.hot ≠ [] →
    b.verifies s.plumb.minSvn = true →
    Tab.find s.plumb.flash.slots s.plumb.flash.booted = some b →
    s.plumb.flash.try_ = none →
    RunsTo (exec (.coldReset e) s) fun u => u.plumb.on = true ∧ u.plumb.hot = e.hot ∧ u.pins.thermtripN = false ∧ u.plumb.running = b ∧ u.frames = [] ∧ u.cores = []) ∧
  (∀ (s : State) (e : BootEnv),
    s.pins.pwrgood = true →
    exec (.coldReset e) s = .next (s)) ∧
  (∀ (s : State) (e : BootEnv),
    s.off = false →
    exec (.exitFromOff e) s = .next (s)) ∧
  (∀ (s : State),
    s.live = true →
    s.pins.resetN = true →
    s.power.trip = false →
    s.bootHeld = false →
    s.chans.all (fun e => e.2.wq.isEmpty) = true →
    s.plumb.jobs.all (fun j => j.opcode != 0x10 || !j.running) = true →
    s.ports.all (fun e => e.2.inb.isEmpty && e.2.inbQ.isEmpty) = true →
    s.net.all (fun m => decide (m.hdr.dst < 52)) = true →
    RunsTo (exec .resetNAssert s) fun u =>
      u.pins = { s.pins with resetN := false } ∧ (∀ c, c < 384 → u.core c = {}) ∧ u.net = [] ∧ u.plumb.jobs = [] ∧ u.plumb.dead = [] ∧ (∀ f ∈ framesOf s.mode, (u.frame f).booted = false) ∧ (∀ n, n < 12 → u.home n = Home.init n ∧ (u.tenon n).st = 1) ∧
      (∀ p, p < 8 → (s.port p).pers ≠ 3 → u.port p = { pers := (s.port p).pers, lanes := (s.port p).lanes, rec_ := (s.port p).rec_, failQ := (s.port p).failQ, inReset := false, quarter := (s.port p).quarter }) ∧
      (∀ p, p < 8 → (u.port p).dt.link = 0 ∧ (u.port p).roots = []) ∧
      (∀ c, c < 16 → (u.chan c).st = (if (s.frame (frameOfQuad s.mode (c / 4))).trained = true ∧ (s.chan c).st ≠ 2 then (s.chan c).st else 1)) ∧ u.threshold = 0x0A0A10 ∧ u.sel = {} ∧ (∀ k, k < 2 ^ 47 → Mem.get u.mem k = Mem.get s.mem k) ∧
      u.plumb.flash = s.plumb.flash ∧ u.scribe.log = s.scribe.log) ∧
  (∀ (s : State),
    (s.live = false ∨ s.pins.resetN = false ∨ s.power.trip = true ∨ s.bootHeld = true) →
    exec .resetNAssert s = .next ({ s with pins := { s.pins with resetN := false } })) ∧
  (∀ (s : State) (e : BootEnv),
    (s.live = false ∨ s.pins.resetN = true ∨ s.power.trip = true ∨ s.plumb.waitRstN = false ∧ s.plumb.recovery = false ∧ s.plumb.hot ≠ []) →
    exec (.resetNDeassert e) s = .next ({ s with pins := { s.pins with resetN := true } })) ∧
  (∀ (s : State) (e : BootEnv) (b : Bundle),
    s.live = true →
    s.pins.resetN = false →
    s.power.trip = false →
    s.bootHeld = false →
    s.plumb.flash.try_ = none →
    s.plumb.running = b →
    e = { straps := e.straps } →
    b.verifies s.plumb.minSvn = true →
    s.plumb.flash.mode = none →
    (b.comp 3).length < 0x1FF0000 →
    s.tenons.all (fun e => e.2.up.retired == 0 && e.2.dn.retired == 0) = true →
    RunsTo (exec (.resetNDeassert e) s) fun u =>
      (∀ f ∈ framesOf b.modeCfg.1, (u.frame f).booted = true ∧ (u.frame f).halted = false ∧ (u.frame f).cause = 2 ∧ (let n := (studsOf b.modeCfg.1 f).headD 0;
        (u.core (32 * n)).run = .run ∧ (u.core (32 * n)).regs.pc.toNat = benchBase n ∧ (u.core (32 * n)).regs.readX 10 = BitVec.ofNat 64 (u.mhartid (32 * n)) ∧
        (u.core (32 * n)).regs.readX 11 = BitVec.ofNat 64 (benchBase n + 0x1FF0000) ∧ (u.core (32 * n)).regs.readX 12 = 2 ∧ (u.core (32 * n)).regs.priv = 3 ∧ (u.home n).bench = 8 ∧
        (∀ i, i < (b.comp 3).length → Mem.get u.mem (keyBench n i) = (b.comp 3).getD i 0))) ∧
      (∀ c, c < 384 → (∀ f ∈ framesOf b.modeCfg.1, c ≠ 32 * (studsOf b.modeCfg.1 f).headD 0) → (u.core c).run = .held) ∧
      u.plumb.minSvn = (if b.dbg then s.plumb.minSvn else max s.plumb.minSvn b.svn) ∧ u.plumb.active = b.modeCfg.1 ∧ u.plumb.pkgId = e.straps % 8 ∧ u.plumb.recovery = false ∧ u.pins.resetN = true ∧ (∀ k, k < 2 ^ 47 → Mem.get u.mem k = Mem.get s.mem k) ∧ u.scribe.bootNo = s.scribe.bootNo) ∧
  (∀ (s : State) (c : CoreId),
    s.live = true →
    s.plumb.dbgOpen = true →
    (s.frame (s.frameOfCore c)).resetting = false →
    s.isBooted (s.frameOfCore c) = true →
    (s.frame (s.frameOfCore c)).halted = false →
    (s.core c).run ∈ ([.run, .idle, .entering .ap1, .entering .ap2, .entering .ap3] : List Run) →
    exec (.coreReset c) s = .next (s.setCore c { s.core c with resetting := true, run := .entering .ap1, waiting := .nothing })) ∧
  (∀ (s : State) (c : CoreId),
    s.live = true →
    s.plumb.dbgOpen = true →
    (s.frame (s.frameOfCore c)).resetting = false →
    s.isBooted (s.frameOfCore c) = true →
    (s.frame (s.frameOfCore c)).halted = false →
    ((s.core c).run = .sleep ∨ (s.core c).run = .deep ∧ (s.stud (c.val / 32)).held = false ∧ (s.stud (c.val / 32)).testing = false) →
    (s.tenon (c.val / 32)).st ≠ 3 →
    ((s.core c).pipe.waits = [] ∧ (s.core c).pipe.fence = [] ∧ (s.core c).pipe.storeQ = [] ∧ (s.core c).pipe.slots = [] ∧ (s.core c).pipe.rob = [] ∧ (s.core c).pipe.stall = none ∧ (s.core c).pipe.poison = none ∧ (s.core c).pipe.trapped = false) →
    RunsTo (exec (.coreReset c) s) fun u =>
      (u.core c).run = .entering .ap1 ∧ (u.core c).resetting = true ∧ (u.core c).waiting = .nothing ∧ (∀ d, d ≠ c.val → u.core d = s.core d) ∧
      (u.stud (c.val / 32)).domDeep = false ∧ (u.stud (c.val / 32)).domSleep = false ∧ (u.stud (c.val / 32)).pllOn = true ∧ (∀ n, n ≠ c.val / 32 → u.stud n = s.stud n) ∧ u.homes = s.homes ∧ u.mem = s.mem ∧ u.net = s.net ∧ u.frames = s.frames ∧ u.chans = s.chans ∧ u.ports = s.ports ∧ u.plumb = s.plumb ∧ u.scribe = s.scribe) ∧
  (∀ (s : State) (c : CoreId),
    s.live = true →
    s.plumb.dbgOpen = true →
    (s.frame (s.frameOfCore c)).resetting = false →
    s.isBooted (s.frameOfCore c) = true →
    (s.frame (s.frameOfCore c)).halted = false →
    ((s.core c).run = .entering .ap4 ∨ (s.core c).run = .deep ∧ ((s.stud (c.val / 32)).held = true ∨ (s.stud (c.val / 32)).testing = true)) →
    exec (.coreReset c) s = .next (s.setCore c { s.core c with resetting := true, wake := true })) ∧
  (∀ (s : State) (c : CoreId),
    s.live = true →
    s.plumb.dbgOpen = true →
    (s.frame (s.frameOfCore c)).resetting = false →
    s.isBooted (s.frameOfCore c) = true →
    (s.frame (s.frameOfCore c)).halted = false →
    (s.core c).run = .held →
    bitOf (s.stud (c.val / 32)).cores (c.val % 32) = true →
    RunsTo (exec (.coreReset c) s) fun u =>
      (u.core c).run = .held ∧ (u.core c).entry = true ∧ (u.core c).cause = 5 ∧ (u.core c).pipe = {} ∧ (u.core c).regs = {} ∧ (u.core c).resetting = false ∧ (u.core c).wakeCmp = ({} : Core).wakeCmp ∧
      (u.core c).xlat = { shim := true, shimVer := s.plumb.running.version } ∧ (∀ d, d ≠ c.val → (u.core d).pipe = (s.core d).pipe ∧ (u.core d).run = (s.core d).run ∧ (u.core d).regs.x = (s.core d).regs.x) ∧ (∀ d, d / 32 ≠ c.val / 32 → u.core d = s.core d) ∧ u.homes = s.homes ∧ u.mem = s.mem ∧ u.net = s.net ∧ u.frames = s.frames ∧ u.chans = s.chans ∧ u.ports = s.ports ∧ u.plumb = s.plumb ∧ u.scribe = s.scribe) ∧
  (∀ (s : State) (c : CoreId),
    s.live = true →
    s.plumb.dbgOpen = true →
    (s.frame (s.frameOfCore c)).resetting = true →
    exec (.coreReset c) s = .next (s.setFrame (s.frameOfCore c) { s.frame (s.frameOfCore c) with coreResets := listAdd (s.frame (s.frameOfCore c)).coreResets c })) ∧
  (∀ (s : State) (c : CoreId),
    (s.live = false ∨ s.plumb.dbgOpen = false ∨ (s.frame (s.frameOfCore c)).resetting = false ∧ (s.isBooted (s.frameOfCore c) = false ∨ (s.frame (s.frameOfCore c)).halted = true ∨ (s.core c).run = .stopped)) →
    exec (.coreReset c) s = .next (s)) ∧
  (∀ (s : State) (c : CoreId),
    (s.core c).run = .entering .ap2 →
    (s.core c).resetting = true →
    (s.core c).pipe.clean = true →
    bitOf (s.stud (c.val / 32)).cores (c.val % 32) = true →
    RunsTo (exec (.deepEntryStep c .ap2) s) fun u =>
      (u.core c).run = .held ∧ (u.core c).entry = true ∧ (u.core c).cause = 5 ∧ (u.core c).pipe = {} ∧ (u.core c).regs = {} ∧ (u.core c).resetting = false ∧ (u.core c).wakeCmp = ({} : Core).wakeCmp ∧
      (u.core c).xlat = { shim := true, shimVer := s.plumb.running.version } ∧ (∀ d, d ≠ c.val → (u.core d).pipe = (s.core d).pipe ∧ (u.core d).run = (s.core d).run ∧ (u.core d).regs.x = (s.core d).regs.x) ∧ (∀ d, d / 32 ≠ c.val / 32 → u.core d = s.core d) ∧ u.homes = s.homes ∧ u.mem = s.mem ∧ u.net = s.net ∧ u.frames = s.frames ∧ u.chans = s.chans ∧ u.ports = s.ports ∧ u.plumb = s.plumb ∧ u.scribe = s.scribe)

/-- A queue of at most 252 held notices stays so as a notice arrives; an arrival that finds it full makes the gap marker of its priority, with the arrival number of the first notice it counts, and later ones keep that place. A read takes an item, held notice or marker, of the lowest priority number there is, and within that priority the one that arrived first. Held notices stand in arrival order. -/
def Obligations.NoticeQueueOrder : Prop :=
  (∀ (q : NQueue) (n : Word), q.held.length ≤ 252 → (q.post n).held.length ≤ 252) ∧
  (∀ (q : NQueue) (n : Word), q.held.Pairwise (fun a b => a.1 < b.1) → (∀ x ∈ q.held, x.1 < q.no) →
    (q.post n).held.Pairwise (fun a b => a.1 < b.1) ∧ ∀ x ∈ (q.post n).held, x.1 < (q.post n).no) ∧
  (∀ (q : NQueue) (n : Word), q.stalled = [] → 252 ≤ q.held.length → Tab.find q.markers (noticePrio n) = none →
    (q.post n).held = q.held ∧ Tab.find (q.post n).markers (noticePrio n) = some (q.no, 1)) ∧
  (∀ (q : NQueue) (n : Word) (a k : Nat), q.stalled = [] → 252 ≤ q.held.length → Tab.find q.markers (noticePrio n) = some (a, k) →
    (q.post n).held = q.held ∧ Tab.find (q.post n).markers (noticePrio n) = some (a, min (k + 1) 0xFFFFFFFF)) ∧
  (∀ (q r : NQueue) (w : Word), q.held.Pairwise (fun a b => a.1 < b.1) → q.take = some (w, r) →
    (∃ e ∈ q.held, w = e.2 ∧ r = { q with held := q.held.erase e } ∧
      (∀ x ∈ q.held, noticePrio e.2 ≤ noticePrio x.2 ∧ (noticePrio x.2 = noticePrio e.2 → e.1 ≤ x.1)) ∧
      ∀ p a k, p < 4 → Tab.find q.markers p = some (a, k) → noticePrio e.2 ≤ p ∧ (p = noticePrio e.2 → e.1 < a)) ∨
    (∃ p a k, p < 4 ∧ Tab.find q.markers p = some (a, k) ∧ w = markerNotice p k ∧ r = { q with markers := Tab.erase q.markers p } ∧
      (∀ x ∈ q.held, p ≤ noticePrio x.2 ∧ (noticePrio x.2 = p → a ≤ x.1)) ∧
      ∀ p' a' k', p' < 4 → Tab.find q.markers p' = some (a', k') → p ≤ p'))

/-- WFI and the entry into SLEEP keep every entry of every core; the commit of DEEP keeps only the wired HEWN entries of its core, and waking keeps those; a core reset, a stud reset, a frame reset, a package warm reset, a cold reset, an exit from OFF and the loss of PWRGOOD leave no entry in their cores, wired or not, but only the shim store with the walker of the running bundle. -/
def Obligations.TranslationStateSurvivesIdleOnly : Prop :=
  (∀ (s : State) (c : CoreId) (d : Nat),
    RunsTo (exec (.wfi c) s) fun u => (u.core d).xlat = (s.core d).xlat) ∧
  (∀ (s : State) (c : CoreId) (d : Nat),
    RunsTo (exec (.idlePromotionSleep c) s) fun u => (u.core d).xlat = (s.core d).xlat) ∧
  (∀ (s : State) (c : CoreId),
    (s.core c).run = .entering .ap4 →
    RunsTo (exec (.deepEntryStep c .ap4) s) fun u => (∀ d, d ≠ c.val → (u.core d).xlat = (s.core d).xlat) ∧
      (u.core c).xlat = { shim := (s.core c).xlat.shim, shimVer := (s.core c).xlat.shimVer, l2tlb := (s.core c).xlat.l2tlb.filter (fun e => e.2.wired && e.2.kind == .hewn) }) ∧
  (∀ (s : State) (c : CoreId),
    (s.core c).run = .deep →
    (s.core c).pipe = {} →
    RunsTo (exec (.wakeEvent c) s) fun u => (u.core c).xlat = (s.core c).xlat) ∧
  (∀ (s : State) (c : CoreId),
    (s.core c).run = .entering .ap2 →
    (s.core c).resetting = true →
    (s.core c).pipe.clean = true →
    RunsTo (exec (.deepEntryStep c .ap2) s) fun u => (u.core c).xlat = { shim := true, shimVer := s.plumb.running.version }) ∧
  (∀ (s : State) (c : CoreId),
    s.live = true →
    s.plumb.dbgOpen = true →
    (s.frame (s.frameOfCore c)).resetting = false →
    s.isBooted (s.frameOfCore c) = true →
    (s.frame (s.frameOfCore c)).halted = false →
    (s.core c).run = .held →
    RunsTo (exec (.coreReset c) s) fun u => (u.core c).xlat = { shim := true, shimVer := s.plumb.running.version }) ∧
  (∀ (s : State) (x : TInst) (p : CmdPkt) (d : Nat),
    s.takes x 0x13 p →
    p.rsvdZero (offs 1 8) →
    (p.byte 0 < 12 ∧ s.inScope x (s.frameOfStud (p.byte 0)) = true) →
    ((s.stud (p.byte 0)).state = 1 ∨ (s.frame (s.frameOfStud (p.byte 0))).halted = true ∨ s.allDeep (p.byte 0) = true ∧ (s.tenon (p.byte 0)).st = 3) →
    d / 32 = p.byte 0 →
    RunsTo (exec (.studReset x p) s) fun u => (u.core d).xlat = {}) ∧
  (∀ (s : State) (x : TInst) (p : CmdPkt) (d : Nat),
    s.takes x 0x12 p →
    p.rsvdZero (offs 1 8) →
    (p.byte 0 < frameCount s.mode ∧ s.inScope x (p.byte 0) = true) →
    d < 384 →
    s.frameOfCore d = p.byte 0 →
    RunsTo (exec (.frameReset x p) s) fun u => (u.core d).xlat = {}) ∧
  (∀ (s : State) (d : Nat),
    s.live = true →
    s.pins.resetN = true →
    s.power.trip = false →
    s.bootHeld = false →
    d < 384 →
    RunsTo (exec .resetNAssert s) fun u => (u.core d).xlat = {}) ∧
  (∀ (s : State) (d : Nat),
    RunsTo (exec .pwrgoodDeassert s) fun u => (u.core d).xlat = {}) ∧
  (∀ (s : State) (e : BootEnv) (d : Nat),
    s.pins.pwrgood = false →
    RunsTo (exec (.coldReset e) s) fun u => (u.core d).xlat = {} ∨ (u.core d).xlat = { shim := true, shimVer := u.plumb.running.version }) ∧
  (∀ (s : State) (e : BootEnv) (d : Nat),
    s.off = true →
    RunsTo (exec (.exitFromOff e) s) fun u => (u.core d).xlat = {} ∨ (u.core d).xlat = { shim := true, shimVer := u.plumb.running.version })

/-- Bits 63 to 48 of the timestamp are the boot number modulo 65,536, bits 47 to 0 the microseconds since D0 started, 100 system ticks each (R79). A cold reset and an exit from OFF count the boot number up from the journal device's, store it there and start the microseconds at 0; a package warm reset leaves both, a tick adds to the time, and the loss of PWRGOOD keeps the journal's number. -/
def Obligations.ScribeTimestamps : Prop :=
  (∀ (s : State),
    s.stamp.toNat / 2 ^ 48 = s.scribe.bootNo % 65536 ∧ s.stamp.toNat % 2 ^ 48 = s.scribe.upTicks / 100 % 2 ^ 48) ∧
  (∀ (s : State) (e : BootEnv),
    s.pins.pwrgood = false →
    RunsTo (exec (.coldReset e) s) fun u => u.scribe.bootNo = (s.scribe.jBoot + 1) % 65536 ∧ u.scribe.jBoot = u.scribe.bootNo ∧ u.scribe.upTicks = 0) ∧
  (∀ (s : State) (e : BootEnv),
    s.off = true →
    RunsTo (exec (.exitFromOff e) s) fun u => u.scribe.bootNo = (s.scribe.jBoot + 1) % 65536 ∧ u.scribe.jBoot = u.scribe.bootNo ∧ u.scribe.upTicks = 0) ∧
  (∀ (s : State),
    RunsTo (exec .resetNAssert s) fun u => u.scribe.bootNo = s.scribe.bootNo ∧ u.scribe.jBoot = s.scribe.jBoot ∧ u.scribe.upTicks = s.scribe.upTicks) ∧
  (∀ (s : State) (e : BootEnv),
    RunsTo (exec (.resetNDeassert e) s) fun u => u.scribe.bootNo = s.scribe.bootNo ∧ u.scribe.jBoot = s.scribe.jBoot ∧ u.scribe.upTicks = s.scribe.upTicks) ∧
  (∀ (s : State),
    s.refLost = false →
    s.off = false →
    s.pins.pwrgood = true →
    s.plumb.on = true →
    s.idleRings →
    RunsTo (exec .mtimeTick s) fun u => u.scribe.upTicks = s.scribe.upTicks + 1 ∧ u.scribe.bootNo = s.scribe.bootNo) ∧
  (∀ (s : State),
    RunsTo (exec .pwrgoodDeassert s) fun u => u.scribe.jBoot = s.scribe.jBoot)

/-- In M-mode, with the tenon link of the hart's stud UP: a load of mtime delivers the frame's mtime; a load of the bus 0 configuration space of a root port that there is delivers its word, and of one that is not, all ones; a load that a root port which is up claims becomes a memory read on it, and the access waits in a slot. A load or store of control space at an offset that is not assigned raises access fault 5 or 7 with the address in mtval. The store at the head of the store queue is performed when its destination accepts it: in control space by its write, at a root port as a posted write. While the link is not UP, such a load waits, and such a store stays in the queue (that they wait there is the model's reading of R11). A load that waits enters the hart's accesses in program order. Other cores, homes, memory and messages stay. -/
def Obligations.HartAccessesOfIoRegions : Prop :=
  (∀ (s : State) (c : CoreId) (va : Word) (size : Nat) (dest : Dest) (sext : Bool),
    (s.core c).quiet →
    (s.core c).destLegal dest = 0 →
    s.nqWait = [] →
    (s.tenon (c.val / 32)).st = 2 →
    va.toNat = controlBase + 0x200000 →
    size = 8 →
    RunsTo (exec (.load c va size dest sext .no .none) s) fun t =>
      s.onlyRegs t c ((s.core c).deliverAcc { va := va, pa := va.toNat, size := size, dest := dest, sext := sext } (s.mtimeOf (s.frameOfCore c)).toNat).regs) ∧
  (∀ (s : State) (c : CoreId) (va : Word) (size : Nat) (dest : Dest) (sext : Bool) (p i off : Nat),
    (s.core c).quiet →
    (s.core c).destLegal dest = 0 →
    (s.tenon (c.val / 32)).st = 2 →
    va.toNat = portBase p + i * 2 ^ 15 + off →
    (p < 8 ∧ i < 32 ∧ off < 4096) →
    s.frameOfPort p = (s.frameOfCore c) →
    ((s.port p).pers = 1 ∨ (s.port p).pers = 2) →
    (size = 1 ∨ size = 2 ∨ size = 4) →
    off % size = 0 →
    (rootStarts (s.port p).lanes).any (fun e => e.1 == i) = true →
    RunsTo (exec (.load c va size dest sext .no .none) s) fun t =>
      s.onlyRegs t c ((s.core c).deliverAcc { va := va, pa := va.toNat, size := size, dest := dest, sext := sext } ((s.port p).rootRead i off size)).regs) ∧
  (∀ (s : State) (c : CoreId) (va : Word) (size : Nat) (dest : Dest) (sext : Bool) (p i off : Nat),
    (s.core c).quiet →
    (s.core c).destLegal dest = 0 →
    (s.tenon (c.val / 32)).st = 2 →
    va.toNat = portBase p + i * 2 ^ 15 + off →
    (p < 8 ∧ i < 32 ∧ off < 4096) →
    s.frameOfPort p = (s.frameOfCore c) →
    ((s.port p).pers = 1 ∨ (s.port p).pers = 2) →
    (size = 1 ∨ size = 2 ∨ size = 4) →
    off % size = 0 →
    (rootStarts (s.port p).lanes).any (fun e => e.1 == i) = false →
    RunsTo (exec (.load c va size dest sext .no .none) s) fun t =>
      s.onlyRegs t c ((s.core c).deliverAcc { va := va, pa := va.toNat, size := size, dest := dest, sext := sext } (allOnes size)).regs) ∧
  (∀ (s : State) (c : CoreId) (va : Word) (size : Nat) (dest : Dest) (sext : Bool) (p r : Nat),
    (s.core c).quiet →
    (s.core c).destLegal dest = 0 →
    (s.tenon (c.val / 32)).st = 2 →
    (portBase p + 0x10000000 ≤ va.toNat ∧ va.toNat < portBase p + 2 ^ 41) →
    p < 8 →
    s.frameOfPort p = (s.frameOfCore c) →
    ((s.port p).pers = 1 ∨ (s.port p).pers = 2) →
    (size = 1 ∨ size = 2 ∨ size = 4 ∨ size = 8) →
    va.toNat % size = 0 →
    (s.port p).claimant va.toNat = some r →
    ((s.port p).root r).up = true →
    ((s.port p).root r).out = [] →
    ((s.port p).root r).quar = [] →
    RunsTo (exec (.load c va size dest sext .no .none) s) fun t =>
      t.port p = ((s.port p).setRoot r ({ (s.port p).root r with out := ((t.port p).root r).out }.wake (s.port p).quarter)).transmits ∧
      ((t.port p).root r).out.map (fun e => (e.2.op, e.2.core, e.2.node, e.2.addr, e.2.len)) = [(1, c.val, r, va.toNat, size)] ∧
      (t.core c).pipe.slots.any (fun e => e.2.kind == .unc && e.2.merged.map (fun w => w.acc) == [{ va := va, pa := va.toNat, size := size, dest := dest, sext := sext }]) = true ∧ (t.core c).regs = (s.core c).regs ∧ (∀ q, q ≠ p → t.port q = s.port q) ∧ (∀ d, d ≠ c.val → t.core d = s.core d) ∧ t.homes = s.homes ∧ t.mem = s.mem ∧ t.net = s.net ∧ t.frames = s.frames) ∧
  (∀ (s : State) (c : CoreId) (va : Word) (size : Nat) (dest : Dest) (sext : Bool),
    (s.core c).quiet →
    (s.core c).destLegal dest = 0 →
    s.nqWait = [] →
    (s.tenon (c.val / 32)).st = 2 →
    (s.core c).pipe.snpQ = [] →
    (controlBase + 0xD0000 ≤ va.toNat ∧ va.toNat < controlBase + 0x100000 ∨ controlBase + 0x400000 ≤ va.toNat ∧ va.toNat < controlBase + 0x40000000) →
    (size = 4 ∨ size = 8) →
    va.toNat % size = 0 →
    (∀ vd e, dest ≠ .v vd e true) →
    RunsTo (exec (.load c va size dest sext .no .none) s) fun t => (t.core c).csr Csr.mcause = 5 ∧ (t.core c).csr Csr.mtval = va ∧ (t.core c).csr Csr.mepc = (s.core c).regs.pc ∧ (t.core c).regs.priv = 3 ∧ (t.core c).regs.x = (s.core c).regs.x ∧ (t.core c).pipe.storeQ = [] ∧ (∀ d, d ≠ c.val → t.core d = s.core d) ∧ t.homes = s.homes ∧ t.mem = s.mem ∧ t.net = s.net ∧ t.frames = s.frames) ∧
  (∀ (s : State) (c : CoreId) (va : Word) (size : Nat) (v : BitVec 128),
    (s.core c).quiet →
    (s.tenon (c.val / 32)).st = 2 →
    (s.core c).pipe.snpQ = [] →
    (controlBase + 0xD0000 ≤ va.toNat ∧ va.toNat < controlBase + 0x100000 ∨ controlBase + 0x400000 ≤ va.toNat ∧ va.toNat < controlBase + 0x40000000) →
    (size = 4 ∨ size = 8) →
    va.toNat % size = 0 →
    RunsTo (exec (.store c va size v false) s) fun t => (t.core c).csr Csr.mcause = 7 ∧ (t.core c).csr Csr.mtval = va ∧ (t.core c).csr Csr.mepc = (s.core c).regs.pc ∧ (t.core c).regs.priv = 3 ∧ (t.core c).regs.x = (s.core c).regs.x ∧ (t.core c).pipe.storeQ = [] ∧ (∀ d, d ≠ c.val → t.core d = s.core d) ∧ t.homes = s.homes ∧ t.mem = s.mem ∧ t.net = s.net ∧ t.frames = s.frames) ∧
  (∀ (s : State) (c : CoreId) (va : Word) (size : Nat) (dest : Dest) (sext : Bool),
    (s.core c).quiet →
    (s.core c).destLegal dest = 0 →
    (s.tenon (c.val / 32)).st ≠ 2 →
    va.toNat = controlBase + 0x200000 →
    size = 8 →
    RunsTo (exec (.load c va size dest sext .no .none) s) fun t =>
      (t.core c).regs = (s.core c).regs ∧ (t.core c).pipe.waits.map (fun w => w.acc) = [{ va := va, pa := va.toNat, size := size, dest := dest, sext := sext }] ∧ (t.core c).pipe.slots = [] ∧ t.ports = s.ports ∧ (∀ d, d ≠ c.val → t.core d = s.core d) ∧ t.homes = s.homes ∧ t.mem = s.mem ∧ t.net = s.net ∧ t.frames = s.frames) ∧
  (∀ (s : State) (c : CoreId) (e : StoreEnt) (p r : Nat),
    ((s.core c).run = .run ∧ (s.core c).halt = false ∧ (s.core c).pipe.slots = [] ∧ (s.core c).pipe.waits = [] ∧ (s.core c).pipe.fence = [] ∧ (s.core c).pipe.stall = none) →
    (s.core c).pipe.storeQ = [e] →
    (s.tenon (c.val / 32)).st = 2 →
    (e.acc.kind = .store ∧ e.acc.split = 0) →
    (e.acc.size = 1 ∨ e.acc.size = 2 ∨ e.acc.size = 4 ∨ e.acc.size = 8) →
    e.acc.pa % e.acc.size = 0 →
    (portBase p + 0x10000000 ≤ e.acc.pa ∧ e.acc.pa < portBase p + 2 ^ 41) →
    p < 8 →
    s.frameOfPort p = (s.frameOfCore c) →
    ((s.port p).pers = 1 ∨ (s.port p).pers = 2) →
    (s.port p).claimant e.acc.pa = some r →
    ((s.port p).root r).up = true →
    RunsTo (exec (.storeQueueDrain c) s) fun t =>
      t.port p = ((s.port p).setRoot r ({ (s.port p).root r with sent := ((s.port p).root r).sent ++ [(e.acc.pa, bytesOf e.acc.size e.acc.data.toNat, false)] }.wake (s.port p).quarter)).transmits ∧ (t.core c).pipe.storeQ = [] ∧ (t.core c).regs = (s.core c).regs ∧ (∀ q, q ≠ p → t.port q = s.port q) ∧ (∀ d, d ≠ c.val → t.core d = s.core d) ∧ t.homes = s.homes ∧ t.mem = s.mem ∧ t.net = s.net ∧ t.frames = s.frames) ∧
  (∀ (s : State) (c : CoreId) (e : StoreEnt) (d : Nat) (k : Nat),
    s.nqWait = [] →
    ((s.core c).run = .run ∧ (s.core c).halt = false ∧ (s.core c).pipe.slots = [] ∧ (s.core c).pipe.waits = [] ∧ (s.core c).pipe.fence = [] ∧ (s.core c).pipe.stall = none) →
    (s.core c).pipe.storeQ = [e] →
    (s.tenon (c.val / 32)).st = 2 →
    (e.acc.kind = .store ∧ e.acc.split = 0 ∧ e.acc.size = 8) →
    e.acc.pa = controlBase + 0x208000 + 8 * d →
    d < 512 →
    s.coreOfCmp (s.frameOfCore c) d = some k →
    RunsTo (exec (.storeQueueDrain c) s) fun t =>
      (t.core k).mtimecmp = BitVec.ofNat 64 e.acc.data.toNat ∧ (t.core c).pipe.storeQ = [] ∧ (t.core c).regs.x = (s.core c).regs.x ∧ (∀ j, j ≠ k → j ≠ c.val → t.core j = s.core j) ∧ t.homes = s.homes ∧ t.mem = s.mem ∧ t.net = s.net ∧ t.frames = s.frames) ∧
  (∀ (s : State) (c : CoreId) (e : StoreEnt),
    ((s.core c).run = .run ∧ (s.core c).halt = false ∧ (s.core c).pipe.slots = [] ∧ (s.core c).pipe.waits = [] ∧ (s.core c).pipe.fence = [] ∧ (s.core c).pipe.stall = none) →
    (s.core c).pipe.storeQ = [e] →
    (s.tenon (c.val / 32)).st ≠ 2 →
    (e.acc.kind = .store ∧ e.acc.split = 0 ∧ e.acc.size = 8) →
    e.acc.pa = controlBase + 0x200000 →
    RunsTo (exec (.storeQueueDrain c) s) fun t =>
      (t.core c).pipe.storeQ = [e] ∧ (t.core c).regs.x = (s.core c).regs.x ∧ t.ports = s.ports ∧ t.mtime = s.mtime ∧ (∀ d, d ≠ c.val → t.core d = s.core d) ∧ t.homes = s.homes ∧ t.mem = s.mem ∧ t.net = s.net ∧ t.frames = s.frames)

/-- If memory lists strictly rising keys and no zero byte, and a step answers a next state, the next state's memory lists strictly rising keys and no zero byte: equal memories stay equal data whatever command runs. -/
def Obligations.MemoryStaysCanonical : Prop :=
  Keeps (fun s => Memory.wf s.mem = true)

/-- If LEAK_MS and ROT_PERIOD lie in 1 to 100, WIRE in 4 to 64 and bits 63 to 24 read zero, then they do after every step that answers a next state: a write that puts any field outside its range leaves the whole register. -/
def Obligations.TenonThreshStaysInRange : Prop :=
  Keeps State.threshOk

/-- If every notice queue of a frame or a dovetail function holds at most 252 ordinary notices, and the line log and its journal image at most 1,024 entries, then they do after every step that answers a next state. -/
def Obligations.QueuesAndLogStayBounded : Prop :=
  Keeps State.bounded
end

