-- ==== Sys2Proof/Laws/Tab.lean ====
section
/-! SUPPORT. Lemmas of sparse tables: what a read after a write gives, and that every write keeps the keys rising. -/

namespace Sys2Proof.Machine

variable {α : Type}

theorem Tab.find_erase_same (t : Map α) (k : Nat) : Tab.find (Tab.erase t k) k = none := by
  induction t with
  | nil => rfl
  | cons e r ih =>
    obtain ⟨j, v⟩ := e
    by_cases h : j = k
    · simp [Tab.erase, h, ih]
    · simp [Tab.erase, Tab.find, h, ih]

theorem Tab.find_erase_ne (t : Map α) (k j : Nat) (h : j ≠ k) : Tab.find (Tab.erase t k) j = Tab.find t j := by
  induction t with
  | nil => rfl
  | cons e r ih =>
    obtain ⟨i, v⟩ := e
    by_cases hi : i = k
    · subst hi; simp [Tab.erase, Tab.find, ih, Ne.symm h]
    · simp [Tab.erase, Tab.find, hi, ih]

theorem Tab.find_insertAt_same (t : Map α) (k : Nat) (v : α) (h : Tab.find t k = none) :
    Tab.find (Tab.insertAt t k v) k = some v := by
  induction t with
  | nil => simp [Tab.insertAt, Tab.find]
  | cons e r ih =>
    obtain ⟨i, w⟩ := e
    have hi : i ≠ k := by intro hi; simp [Tab.find, hi] at h
    simp only [Tab.find, if_neg hi] at h
    by_cases hk : k < i
    · simp [Tab.insertAt, hk, Tab.find]
    · simp [Tab.insertAt, hk, Tab.find, hi, ih h]

theorem Tab.find_insertAt_ne (t : Map α) (k j : Nat) (v : α) (h : j ≠ k) :
    Tab.find (Tab.insertAt t k v) j = Tab.find t j := by
  induction t with
  | nil => simp [Tab.insertAt, Tab.find, Ne.symm h]
  | cons e r ih =>
    obtain ⟨i, w⟩ := e
    by_cases hk : k < i
    · simp [Tab.insertAt, hk, Tab.find, Ne.symm h]
    · simp [Tab.insertAt, hk, Tab.find, ih]

@[simp] theorem Tab.find_set_same (t : Map α) (k : Nat) (v : α) : Tab.find (Tab.set t k v) k = some v :=
  Tab.find_insertAt_same _ _ _ (Tab.find_erase_same t k)

theorem Tab.find_set_ne (t : Map α) (k j : Nat) (v : α) (h : j ≠ k) : Tab.find (Tab.set t k v) j = Tab.find t j := by
  rw [Tab.set, Tab.find_insertAt_ne _ _ _ _ h, Tab.find_erase_ne _ _ _ h]

@[simp] theorem Tab.get_set_same (t : Map α) (d : α) (k : Nat) (v : α) : Tab.get (Tab.set t k v) d k = v := by
  simp [Tab.get]

theorem Tab.get_set_ne (t : Map α) (d : α) (k j : Nat) (v : α) (h : j ≠ k) :
    Tab.get (Tab.set t k v) d j = Tab.get t d j := by
  simp [Tab.get, Tab.find_set_ne _ _ _ _ h]

@[simp] theorem Tab.get_erase_same (t : Map α) (d : α) (k : Nat) : Tab.get (Tab.erase t k) d k = d := by
  simp [Tab.get, Tab.find_erase_same]

theorem Tab.get_erase_ne (t : Map α) (d : α) (k j : Nat) (h : j ≠ k) :
    Tab.get (Tab.erase t k) d j = Tab.get t d j := by
  simp [Tab.get, Tab.find_erase_ne _ _ _ h]

@[simp] theorem Tab.get_put_same [DecidableEq α] (t : Map α) (d : α) (k : Nat) (v : α) :
    Tab.get (Tab.put t d k v) d k = v := by
  unfold Tab.put
  split
  · simp_all
  · simp

theorem Tab.get_put_ne [DecidableEq α] (t : Map α) (d : α) (k j : Nat) (v : α) (h : j ≠ k) :
    Tab.get (Tab.put t d k v) d j = Tab.get t d j := by
  unfold Tab.put
  split
  · exact Tab.get_erase_ne _ _ _ _ h
  · exact Tab.get_set_ne _ _ _ _ _ h

/-- Every key of t is larger than k. -/
theorem Tab.rising_cons (k : Nat) (v : α) (t : Map α) :
    Tab.rising ((k, v) :: t) = true ↔ (∀ e ∈ t, k < e.1) ∧ Tab.rising t = true := by
  induction t generalizing k v with
  | nil => simp [Tab.rising]
  | cons e r ih =>
    obtain ⟨j, w⟩ := e
    rw [Tab.rising, Bool.and_eq_true, decide_eq_true_eq]
    constructor
    · rintro ⟨h1, h2⟩
      refine ⟨?_, h2⟩
      intro e he
      rcases List.mem_cons.mp he with rfl | he
      · exact h1
      · exact lt_trans h1 (((ih j w).mp h2).1 e he)
    · rintro ⟨h1, h2⟩
      exact ⟨h1 (j, w) (List.mem_cons_self ..), h2⟩

theorem Tab.mem_erase (t : Map α) (k : Nat) (e : Nat × α) : e ∈ Tab.erase t k ↔ e ∈ t ∧ e.1 ≠ k := by
  induction t with
  | nil => simp [Tab.erase]
  | cons d r ih =>
    obtain ⟨j, v⟩ := d
    by_cases h : j = k
    · subst h
      simp only [Tab.erase, if_true, ih, List.mem_cons]
      constructor
      · rintro ⟨h1, h2⟩; exact ⟨Or.inr h1, h2⟩
      · rintro ⟨rfl | h1, h2⟩
        · exact absurd rfl h2
        · exact ⟨h1, h2⟩
    · simp only [Tab.erase, if_neg h, List.mem_cons, ih]
      constructor
      · rintro (rfl | ⟨h1, h2⟩)
        · exact ⟨Or.inl rfl, h⟩
        · exact ⟨Or.inr h1, h2⟩
      · rintro ⟨rfl | h1, h2⟩
        · exact Or.inl rfl
        · exact Or.inr ⟨h1, h2⟩

theorem Tab.mem_insertAt (t : Map α) (k : Nat) (v : α) (e : Nat × α) :
    e ∈ Tab.insertAt t k v ↔ e = (k, v) ∨ e ∈ t := by
  induction t with
  | nil => simp [Tab.insertAt]
  | cons d r ih =>
    obtain ⟨j, w⟩ := d
    by_cases h : k < j
    · simp [Tab.insertAt, h]
    · simp only [Tab.insertAt, h, if_false, List.mem_cons, ih]
      tauto

theorem Tab.rising_erase (t : Map α) (k : Nat) (h : Tab.rising t = true) : Tab.rising (Tab.erase t k) = true := by
  induction t with
  | nil => rfl
  | cons d r ih =>
    obtain ⟨j, v⟩ := d
    have h' := (Tab.rising_cons j v r).mp h
    by_cases hj : j = k
    · simpa [Tab.erase, hj] using ih h'.2
    · simp only [Tab.erase, if_neg hj]
      exact (Tab.rising_cons _ _ _).mpr ⟨fun e he => h'.1 e ((Tab.mem_erase r k e).mp he).1, ih h'.2⟩

theorem Tab.rising_insertAt (t : Map α) (k : Nat) (v : α) (h : Tab.rising t = true) (hk : ∀ e ∈ t, e.1 ≠ k) :
    Tab.rising (Tab.insertAt t k v) = true := by
  induction t with
  | nil => rfl
  | cons d r ih =>
    obtain ⟨j, w⟩ := d
    have h' := (Tab.rising_cons j w r).mp h
    by_cases hj : k < j
    · simp only [Tab.insertAt, if_pos hj]
      refine (Tab.rising_cons _ _ _).mpr ⟨?_, h⟩
      intro e he
      rcases List.mem_cons.mp he with rfl | he
      · exact hj
      · exact lt_trans hj (h'.1 e he)
    · simp only [Tab.insertAt, if_neg hj]
      have hne : j ≠ k := hk (j, w) (List.mem_cons_self ..)
      refine (Tab.rising_cons _ _ _).mpr ⟨?_, ih h'.2 (fun e he => hk e (List.mem_cons_of_mem _ he))⟩
      intro e he
      rcases (Tab.mem_insertAt r k v e).mp he with rfl | he
      · show j < k; omega
      · exact h'.1 e he

/-- A write keeps the keys rising. -/
theorem Tab.rising_set (t : Map α) (k : Nat) (v : α) (h : Tab.rising t = true) : Tab.rising (Tab.set t k v) = true :=
  Tab.rising_insertAt _ _ _ (Tab.rising_erase t k h) (fun e he => ((Tab.mem_erase t k e).mp he).2)

theorem Tab.rising_filter (t : Map α) (p : Nat × α → Bool) (h : Tab.rising t = true) :
    Tab.rising (t.filter p) = true := by
  induction t with
  | nil => rfl
  | cons d r ih =>
    obtain ⟨j, v⟩ := d
    have h' := (Tab.rising_cons j v r).mp h
    by_cases hp : p (j, v) = true
    · rw [List.filter_cons_of_pos hp]
      exact (Tab.rising_cons _ _ _).mpr ⟨fun e he => h'.1 e (List.mem_filter.mp he).1, ih h'.2⟩
    · rw [List.filter_cons_of_neg hp]
      exact ih h'.2

end Sys2Proof.Machine
end

