-- ==== Sys2Proof/Laws/Memory.lean ====
section
/-! SUPPORT. The canonical form of memory is kept by every memory operation, and what a read after a write gives. -/

namespace Sys2Proof.Machine

theorem Memory.wf_iff (m : List Host.Cell) :
    Memory.wf m = true ↔ Tab.rising m = true ∧ ∀ c ∈ m, c.2 ≠ 0 := by
  simp [Memory.wf, List.all_eq_true]

theorem Memory.wf_nil : Memory.wf [] = true := rfl

/-- Lines taken out of memory leave the canonical form. -/
theorem Memory.wf_filter (m : List Host.Cell) (p : Host.Cell → Bool) (h : Memory.wf m = true) :
    Memory.wf (m.filter p) = true := by
  obtain ⟨h1, h2⟩ := (Memory.wf_iff m).mp h
  exact (Memory.wf_iff _).mpr ⟨Tab.rising_filter m p h1, fun c hc => h2 c (List.mem_filter.mp hc).1⟩

/-- One byte written keeps the canonical form. -/
theorem Mem.put_wf (m : List Host.Cell) (k : Nat) (b : Byte) (h : Memory.wf m = true) :
    Memory.wf (Mem.put m k b) = true := by
  obtain ⟨h1, h2⟩ := (Memory.wf_iff m).mp h
  have he : ∀ c ∈ Tab.erase m k, c.2 ≠ 0 := fun c hc => h2 c ((Tab.mem_erase m k c).mp hc).1
  unfold Mem.put Tab.put
  split
  · exact (Memory.wf_iff _).mpr ⟨Tab.rising_erase m k h1, he⟩
  · next hb =>
    refine (Memory.wf_iff _).mpr ⟨Tab.rising_set m k b h1, fun c hc => ?_⟩
    rcases (Tab.mem_insertAt _ k b c).mp hc with rfl | hc
    · exact hb
    · exact he c hc

/-- Bytes written keep the canonical form. -/
theorem Mem.putList_wf (l : List Byte) (m : List Host.Cell) (k : Nat) (h : Memory.wf m = true) :
    Memory.wf (Mem.putList m k l) = true := by
  induction l generalizing m k with
  | nil => exact h
  | cons b r ih => exact ih _ _ (Mem.put_wf m k b h)

theorem Mem.putLine_wf (m : List Host.Cell) (k : Nat) (l : Line) (h : Memory.wf m = true) :
    Memory.wf (Mem.putLine m k l) = true := Mem.putList_wf _ m k h

theorem State.setMemLine_wf (s : State) (k : Nat) (l : Line) (p : Bool) (h : Memory.wf s.mem = true) :
    Memory.wf (s.setMemLine k l p).mem = true := Mem.putLine_wf s.mem k l h

@[simp] theorem Mem.get_put_same (m : List Host.Cell) (k : Nat) (b : Byte) : Mem.get (Mem.put m k b) k = b :=
  Tab.get_put_same m 0 k b

theorem Mem.get_put_ne (m : List Host.Cell) (k j : Nat) (b : Byte) (h : j ≠ k) :
    Mem.get (Mem.put m k b) j = Mem.get m j := Tab.get_put_ne m 0 k j b h

/-- Bytes outside those written read as before. -/
theorem Mem.get_putList_outside (l : List Byte) (m : List Host.Cell) (k j : Nat) (h : j < k ∨ k + l.length ≤ j) :
    Mem.get (Mem.putList m k l) j = Mem.get m j := by
  induction l generalizing m k with
  | nil => rfl
  | cons b r ih =>
    rw [List.length_cons] at h
    rw [Mem.putList, ih _ (k + 1) (by omega), Mem.get_put_ne _ _ _ _ (by omega)]

/-- A byte inside those written reads as written. -/
theorem Mem.get_putList_inside (l : List Byte) (m : List Host.Cell) (k i : Nat) (h : i < l.length) :
    Mem.get (Mem.putList m k l) (k + i) = l[i] := by
  induction l generalizing m k i with
  | nil => exact absurd h (by simp)
  | cons b r ih =>
    cases i with
    | zero =>
      rw [Mem.putList, Nat.add_zero, Mem.get_putList_outside _ _ _ _ (by omega)]
      exact Mem.get_put_same m k b
    | succ n =>
      have := ih (Mem.put m k b) (k + 1) n (by simpa using h)
      rw [Mem.putList, show k + (n + 1) = k + 1 + n by omega, this]
      rfl

end Sys2Proof.Machine
end

