-- ==== Sys2Proof/Laws/State.lean ====
section
/-! SUPPORT. One lemma per accessor and per update of the indexed parts of State: what an update leaves, and what it
does not touch; and what the shared operations over messages, free values and lines of memory do. -/

namespace Sys2Proof.Machine

/-! ## setCore -/

@[simp] theorem State.core_setCore_same (s : State) (k : Nat) (v : Core) : (s.setCore k v).core k = v :=
  Tab.get_set_same _ _ _ _

theorem State.core_setCore_ne (s : State) (k j : Nat) (v : Core) (h : j ≠ k) : (s.setCore k v).core j = s.core j :=
  Tab.get_set_ne _ _ _ _ _ h

@[simp] theorem State.stud_setCore (s : State) (k j : Nat) (v : Core) : (s.setCore k v).stud j = s.stud j := rfl
@[simp] theorem State.home_setCore (s : State) (k j : Nat) (v : Core) : (s.setCore k v).home j = s.home j := rfl
@[simp] theorem State.tenon_setCore (s : State) (k j : Nat) (v : Core) : (s.setCore k v).tenon j = s.tenon j := rfl
@[simp] theorem State.chan_setCore (s : State) (k j : Nat) (v : Core) : (s.setCore k v).chan j = s.chan j := rfl
@[simp] theorem State.port_setCore (s : State) (k j : Nat) (v : Core) : (s.setCore k v).port j = s.port j := rfl
@[simp] theorem State.frame_setCore (s : State) (k j : Nat) (v : Core) : (s.setCore k v).frame j = s.frame j := rfl
@[simp] theorem State.bw_setCore (s : State) (k j : Nat) (v : Core) : (s.setCore k v).bw j = s.bw j := rfl
@[simp] theorem State.upmu_setCore (s : State) (k j : Nat) (v : Core) : (s.setCore k v).upmu j = s.upmu j := rfl
@[simp] theorem State.studs_setCore (s : State) (k : Nat) (v : Core) : (s.setCore k v).studs = s.studs := rfl
@[simp] theorem State.homes_setCore (s : State) (k : Nat) (v : Core) : (s.setCore k v).homes = s.homes := rfl
@[simp] theorem State.tenons_setCore (s : State) (k : Nat) (v : Core) : (s.setCore k v).tenons = s.tenons := rfl
@[simp] theorem State.chans_setCore (s : State) (k : Nat) (v : Core) : (s.setCore k v).chans = s.chans := rfl
@[simp] theorem State.ports_setCore (s : State) (k : Nat) (v : Core) : (s.setCore k v).ports = s.ports := rfl
@[simp] theorem State.frames_setCore (s : State) (k : Nat) (v : Core) : (s.setCore k v).frames = s.frames := rfl
@[simp] theorem State.qos_setCore (s : State) (k : Nat) (v : Core) : (s.setCore k v).qos = s.qos := rfl
@[simp] theorem State.upmus_setCore (s : State) (k : Nat) (v : Core) : (s.setCore k v).upmus = s.upmus := rfl
@[simp] theorem State.sel_setCore (s : State) (k : Nat) (v : Core) : (s.setCore k v).sel = s.sel := rfl
@[simp] theorem State.threshold_setCore (s : State) (k : Nat) (v : Core) : (s.setCore k v).threshold = s.threshold := rfl
@[simp] theorem State.plumb_setCore (s : State) (k : Nat) (v : Core) : (s.setCore k v).plumb = s.plumb := rfl
@[simp] theorem State.power_setCore (s : State) (k : Nat) (v : Core) : (s.setCore k v).power = s.power := rfl
@[simp] theorem State.scribe_setCore (s : State) (k : Nat) (v : Core) : (s.setCore k v).scribe = s.scribe := rfl
@[simp] theorem State.pins_setCore (s : State) (k : Nat) (v : Core) : (s.setCore k v).pins = s.pins := rfl
@[simp] theorem State.off_setCore (s : State) (k : Nat) (v : Core) : (s.setCore k v).off = s.off := rfl
@[simp] theorem State.mtime_setCore (s : State) (k : Nat) (v : Core) : (s.setCore k v).mtime = s.mtime := rfl
@[simp] theorem State.refLost_setCore (s : State) (k : Nat) (v : Core) : (s.setCore k v).refLost = s.refLost := rfl
@[simp] theorem State.net_setCore (s : State) (k : Nat) (v : Core) : (s.setCore k v).net = s.net := rfl
@[simp] theorem State.arb_setCore (s : State) (k : Nat) (v : Core) : (s.setCore k v).arb = s.arb := rfl
@[simp] theorem State.mem_setCore (s : State) (k : Nat) (v : Core) : (s.setCore k v).mem = s.mem := rfl
@[simp] theorem State.memPoison_setCore (s : State) (k : Nat) (v : Core) : (s.setCore k v).memPoison = s.memPoison := rfl
@[simp] theorem State.memBad_setCore (s : State) (k : Nat) (v : Core) : (s.setCore k v).memBad = s.memBad := rfl
@[simp] theorem State.memFound_setCore (s : State) (k : Nat) (v : Core) : (s.setCore k v).memFound = s.memFound := rfl
@[simp] theorem State.ncOps_setCore (s : State) (k : Nat) (v : Core) : (s.setCore k v).ncOps = s.ncOps := rfl
@[simp] theorem State.ncBuf_setCore (s : State) (k : Nat) (v : Core) : (s.setCore k v).ncBuf = s.ncBuf := rfl
@[simp] theorem State.nqWait_setCore (s : State) (k : Nat) (v : Core) : (s.setCore k v).nqWait = s.nqWait := rfl
@[simp] theorem State.free_setCore (s : State) (k : Nat) (v : Core) : (s.setCore k v).free = s.free := rfl
@[simp] theorem State.pending_setCore (s : State) (k : Nat) (v : Core) : (s.setCore k v).pending = s.pending := rfl
@[simp] theorem State.mode_setCore (s : State) (k : Nat) (v : Core) : (s.setCore k v).mode = s.mode := rfl

/-! ## setStud -/

@[simp] theorem State.stud_setStud_same (s : State) (k : Nat) (v : Stud) : (s.setStud k v).stud k = v :=
  Tab.get_set_same _ _ _ _

theorem State.stud_setStud_ne (s : State) (k j : Nat) (v : Stud) (h : j ≠ k) : (s.setStud k v).stud j = s.stud j :=
  Tab.get_set_ne _ _ _ _ _ h

@[simp] theorem State.core_setStud (s : State) (k j : Nat) (v : Stud) : (s.setStud k v).core j = s.core j := rfl
@[simp] theorem State.home_setStud (s : State) (k j : Nat) (v : Stud) : (s.setStud k v).home j = s.home j := rfl
@[simp] theorem State.tenon_setStud (s : State) (k j : Nat) (v : Stud) : (s.setStud k v).tenon j = s.tenon j := rfl
@[simp] theorem State.chan_setStud (s : State) (k j : Nat) (v : Stud) : (s.setStud k v).chan j = s.chan j := rfl
@[simp] theorem State.port_setStud (s : State) (k j : Nat) (v : Stud) : (s.setStud k v).port j = s.port j := rfl
@[simp] theorem State.frame_setStud (s : State) (k j : Nat) (v : Stud) : (s.setStud k v).frame j = s.frame j := rfl
@[simp] theorem State.bw_setStud (s : State) (k j : Nat) (v : Stud) : (s.setStud k v).bw j = s.bw j := rfl
@[simp] theorem State.upmu_setStud (s : State) (k j : Nat) (v : Stud) : (s.setStud k v).upmu j = s.upmu j := rfl
@[simp] theorem State.cores_setStud (s : State) (k : Nat) (v : Stud) : (s.setStud k v).cores = s.cores := rfl
@[simp] theorem State.homes_setStud (s : State) (k : Nat) (v : Stud) : (s.setStud k v).homes = s.homes := rfl
@[simp] theorem State.tenons_setStud (s : State) (k : Nat) (v : Stud) : (s.setStud k v).tenons = s.tenons := rfl
@[simp] theorem State.chans_setStud (s : State) (k : Nat) (v : Stud) : (s.setStud k v).chans = s.chans := rfl
@[simp] theorem State.ports_setStud (s : State) (k : Nat) (v : Stud) : (s.setStud k v).ports = s.ports := rfl
@[simp] theorem State.frames_setStud (s : State) (k : Nat) (v : Stud) : (s.setStud k v).frames = s.frames := rfl
@[simp] theorem State.qos_setStud (s : State) (k : Nat) (v : Stud) : (s.setStud k v).qos = s.qos := rfl
@[simp] theorem State.upmus_setStud (s : State) (k : Nat) (v : Stud) : (s.setStud k v).upmus = s.upmus := rfl
@[simp] theorem State.sel_setStud (s : State) (k : Nat) (v : Stud) : (s.setStud k v).sel = s.sel := rfl
@[simp] theorem State.threshold_setStud (s : State) (k : Nat) (v : Stud) : (s.setStud k v).threshold = s.threshold := rfl
@[simp] theorem State.plumb_setStud (s : State) (k : Nat) (v : Stud) : (s.setStud k v).plumb = s.plumb := rfl
@[simp] theorem State.power_setStud (s : State) (k : Nat) (v : Stud) : (s.setStud k v).power = s.power := rfl
@[simp] theorem State.scribe_setStud (s : State) (k : Nat) (v : Stud) : (s.setStud k v).scribe = s.scribe := rfl
@[simp] theorem State.pins_setStud (s : State) (k : Nat) (v : Stud) : (s.setStud k v).pins = s.pins := rfl
@[simp] theorem State.off_setStud (s : State) (k : Nat) (v : Stud) : (s.setStud k v).off = s.off := rfl
@[simp] theorem State.mtime_setStud (s : State) (k : Nat) (v : Stud) : (s.setStud k v).mtime = s.mtime := rfl
@[simp] theorem State.refLost_setStud (s : State) (k : Nat) (v : Stud) : (s.setStud k v).refLost = s.refLost := rfl
@[simp] theorem State.net_setStud (s : State) (k : Nat) (v : Stud) : (s.setStud k v).net = s.net := rfl
@[simp] theorem State.arb_setStud (s : State) (k : Nat) (v : Stud) : (s.setStud k v).arb = s.arb := rfl
@[simp] theorem State.mem_setStud (s : State) (k : Nat) (v : Stud) : (s.setStud k v).mem = s.mem := rfl
@[simp] theorem State.memPoison_setStud (s : State) (k : Nat) (v : Stud) : (s.setStud k v).memPoison = s.memPoison := rfl
@[simp] theorem State.memBad_setStud (s : State) (k : Nat) (v : Stud) : (s.setStud k v).memBad = s.memBad := rfl
@[simp] theorem State.memFound_setStud (s : State) (k : Nat) (v : Stud) : (s.setStud k v).memFound = s.memFound := rfl
@[simp] theorem State.ncOps_setStud (s : State) (k : Nat) (v : Stud) : (s.setStud k v).ncOps = s.ncOps := rfl
@[simp] theorem State.ncBuf_setStud (s : State) (k : Nat) (v : Stud) : (s.setStud k v).ncBuf = s.ncBuf := rfl
@[simp] theorem State.nqWait_setStud (s : State) (k : Nat) (v : Stud) : (s.setStud k v).nqWait = s.nqWait := rfl
@[simp] theorem State.free_setStud (s : State) (k : Nat) (v : Stud) : (s.setStud k v).free = s.free := rfl
@[simp] theorem State.pending_setStud (s : State) (k : Nat) (v : Stud) : (s.setStud k v).pending = s.pending := rfl
@[simp] theorem State.mode_setStud (s : State) (k : Nat) (v : Stud) : (s.setStud k v).mode = s.mode := rfl

/-! ## setHome -/

@[simp] theorem State.home_setHome_same (s : State) (k : Nat) (v : Home) : (s.setHome k v).home k = v :=
  Tab.get_set_same _ _ _ _

theorem State.home_setHome_ne (s : State) (k j : Nat) (v : Home) (h : j ≠ k) : (s.setHome k v).home j = s.home j :=
  Tab.get_set_ne _ _ _ _ _ h

@[simp] theorem State.core_setHome (s : State) (k j : Nat) (v : Home) : (s.setHome k v).core j = s.core j := rfl
@[simp] theorem State.stud_setHome (s : State) (k j : Nat) (v : Home) : (s.setHome k v).stud j = s.stud j := rfl
@[simp] theorem State.tenon_setHome (s : State) (k j : Nat) (v : Home) : (s.setHome k v).tenon j = s.tenon j := rfl
@[simp] theorem State.chan_setHome (s : State) (k j : Nat) (v : Home) : (s.setHome k v).chan j = s.chan j := rfl
@[simp] theorem State.port_setHome (s : State) (k j : Nat) (v : Home) : (s.setHome k v).port j = s.port j := rfl
@[simp] theorem State.frame_setHome (s : State) (k j : Nat) (v : Home) : (s.setHome k v).frame j = s.frame j := rfl
@[simp] theorem State.bw_setHome (s : State) (k j : Nat) (v : Home) : (s.setHome k v).bw j = s.bw j := rfl
@[simp] theorem State.upmu_setHome (s : State) (k j : Nat) (v : Home) : (s.setHome k v).upmu j = s.upmu j := rfl
@[simp] theorem State.cores_setHome (s : State) (k : Nat) (v : Home) : (s.setHome k v).cores = s.cores := rfl
@[simp] theorem State.studs_setHome (s : State) (k : Nat) (v : Home) : (s.setHome k v).studs = s.studs := rfl
@[simp] theorem State.tenons_setHome (s : State) (k : Nat) (v : Home) : (s.setHome k v).tenons = s.tenons := rfl
@[simp] theorem State.chans_setHome (s : State) (k : Nat) (v : Home) : (s.setHome k v).chans = s.chans := rfl
@[simp] theorem State.ports_setHome (s : State) (k : Nat) (v : Home) : (s.setHome k v).ports = s.ports := rfl
@[simp] theorem State.frames_setHome (s : State) (k : Nat) (v : Home) : (s.setHome k v).frames = s.frames := rfl
@[simp] theorem State.qos_setHome (s : State) (k : Nat) (v : Home) : (s.setHome k v).qos = s.qos := rfl
@[simp] theorem State.upmus_setHome (s : State) (k : Nat) (v : Home) : (s.setHome k v).upmus = s.upmus := rfl
@[simp] theorem State.sel_setHome (s : State) (k : Nat) (v : Home) : (s.setHome k v).sel = s.sel := rfl
@[simp] theorem State.threshold_setHome (s : State) (k : Nat) (v : Home) : (s.setHome k v).threshold = s.threshold := rfl
@[simp] theorem State.plumb_setHome (s : State) (k : Nat) (v : Home) : (s.setHome k v).plumb = s.plumb := rfl
@[simp] theorem State.power_setHome (s : State) (k : Nat) (v : Home) : (s.setHome k v).power = s.power := rfl
@[simp] theorem State.scribe_setHome (s : State) (k : Nat) (v : Home) : (s.setHome k v).scribe = s.scribe := rfl
@[simp] theorem State.pins_setHome (s : State) (k : Nat) (v : Home) : (s.setHome k v).pins = s.pins := rfl
@[simp] theorem State.off_setHome (s : State) (k : Nat) (v : Home) : (s.setHome k v).off = s.off := rfl
@[simp] theorem State.mtime_setHome (s : State) (k : Nat) (v : Home) : (s.setHome k v).mtime = s.mtime := rfl
@[simp] theorem State.refLost_setHome (s : State) (k : Nat) (v : Home) : (s.setHome k v).refLost = s.refLost := rfl
@[simp] theorem State.net_setHome (s : State) (k : Nat) (v : Home) : (s.setHome k v).net = s.net := rfl
@[simp] theorem State.arb_setHome (s : State) (k : Nat) (v : Home) : (s.setHome k v).arb = s.arb := rfl
@[simp] theorem State.mem_setHome (s : State) (k : Nat) (v : Home) : (s.setHome k v).mem = s.mem := rfl
@[simp] theorem State.memPoison_setHome (s : State) (k : Nat) (v : Home) : (s.setHome k v).memPoison = s.memPoison := rfl
@[simp] theorem State.memBad_setHome (s : State) (k : Nat) (v : Home) : (s.setHome k v).memBad = s.memBad := rfl
@[simp] theorem State.memFound_setHome (s : State) (k : Nat) (v : Home) : (s.setHome k v).memFound = s.memFound := rfl
@[simp] theorem State.ncOps_setHome (s : State) (k : Nat) (v : Home) : (s.setHome k v).ncOps = s.ncOps := rfl
@[simp] theorem State.ncBuf_setHome (s : State) (k : Nat) (v : Home) : (s.setHome k v).ncBuf = s.ncBuf := rfl
@[simp] theorem State.nqWait_setHome (s : State) (k : Nat) (v : Home) : (s.setHome k v).nqWait = s.nqWait := rfl
@[simp] theorem State.free_setHome (s : State) (k : Nat) (v : Home) : (s.setHome k v).free = s.free := rfl
@[simp] theorem State.pending_setHome (s : State) (k : Nat) (v : Home) : (s.setHome k v).pending = s.pending := rfl
@[simp] theorem State.mode_setHome (s : State) (k : Nat) (v : Home) : (s.setHome k v).mode = s.mode := rfl

/-! ## setTenon -/

@[simp] theorem State.tenon_setTenon_same (s : State) (k : Nat) (v : Tenon) : (s.setTenon k v).tenon k = v :=
  Tab.get_set_same _ _ _ _

theorem State.tenon_setTenon_ne (s : State) (k j : Nat) (v : Tenon) (h : j ≠ k) : (s.setTenon k v).tenon j = s.tenon j :=
  Tab.get_set_ne _ _ _ _ _ h

@[simp] theorem State.core_setTenon (s : State) (k j : Nat) (v : Tenon) : (s.setTenon k v).core j = s.core j := rfl
@[simp] theorem State.stud_setTenon (s : State) (k j : Nat) (v : Tenon) : (s.setTenon k v).stud j = s.stud j := rfl
@[simp] theorem State.home_setTenon (s : State) (k j : Nat) (v : Tenon) : (s.setTenon k v).home j = s.home j := rfl
@[simp] theorem State.chan_setTenon (s : State) (k j : Nat) (v : Tenon) : (s.setTenon k v).chan j = s.chan j := rfl
@[simp] theorem State.port_setTenon (s : State) (k j : Nat) (v : Tenon) : (s.setTenon k v).port j = s.port j := rfl
@[simp] theorem State.frame_setTenon (s : State) (k j : Nat) (v : Tenon) : (s.setTenon k v).frame j = s.frame j := rfl
@[simp] theorem State.bw_setTenon (s : State) (k j : Nat) (v : Tenon) : (s.setTenon k v).bw j = s.bw j := rfl
@[simp] theorem State.upmu_setTenon (s : State) (k j : Nat) (v : Tenon) : (s.setTenon k v).upmu j = s.upmu j := rfl
@[simp] theorem State.cores_setTenon (s : State) (k : Nat) (v : Tenon) : (s.setTenon k v).cores = s.cores := rfl
@[simp] theorem State.studs_setTenon (s : State) (k : Nat) (v : Tenon) : (s.setTenon k v).studs = s.studs := rfl
@[simp] theorem State.homes_setTenon (s : State) (k : Nat) (v : Tenon) : (s.setTenon k v).homes = s.homes := rfl
@[simp] theorem State.chans_setTenon (s : State) (k : Nat) (v : Tenon) : (s.setTenon k v).chans = s.chans := rfl
@[simp] theorem State.ports_setTenon (s : State) (k : Nat) (v : Tenon) : (s.setTenon k v).ports = s.ports := rfl
@[simp] theorem State.frames_setTenon (s : State) (k : Nat) (v : Tenon) : (s.setTenon k v).frames = s.frames := rfl
@[simp] theorem State.qos_setTenon (s : State) (k : Nat) (v : Tenon) : (s.setTenon k v).qos = s.qos := rfl
@[simp] theorem State.upmus_setTenon (s : State) (k : Nat) (v : Tenon) : (s.setTenon k v).upmus = s.upmus := rfl
@[simp] theorem State.sel_setTenon (s : State) (k : Nat) (v : Tenon) : (s.setTenon k v).sel = s.sel := rfl
@[simp] theorem State.threshold_setTenon (s : State) (k : Nat) (v : Tenon) : (s.setTenon k v).threshold = s.threshold := rfl
@[simp] theorem State.plumb_setTenon (s : State) (k : Nat) (v : Tenon) : (s.setTenon k v).plumb = s.plumb := rfl
@[simp] theorem State.power_setTenon (s : State) (k : Nat) (v : Tenon) : (s.setTenon k v).power = s.power := rfl
@[simp] theorem State.scribe_setTenon (s : State) (k : Nat) (v : Tenon) : (s.setTenon k v).scribe = s.scribe := rfl
@[simp] theorem State.pins_setTenon (s : State) (k : Nat) (v : Tenon) : (s.setTenon k v).pins = s.pins := rfl
@[simp] theorem State.off_setTenon (s : State) (k : Nat) (v : Tenon) : (s.setTenon k v).off = s.off := rfl
@[simp] theorem State.mtime_setTenon (s : State) (k : Nat) (v : Tenon) : (s.setTenon k v).mtime = s.mtime := rfl
@[simp] theorem State.refLost_setTenon (s : State) (k : Nat) (v : Tenon) : (s.setTenon k v).refLost = s.refLost := rfl
@[simp] theorem State.net_setTenon (s : State) (k : Nat) (v : Tenon) : (s.setTenon k v).net = s.net := rfl
@[simp] theorem State.arb_setTenon (s : State) (k : Nat) (v : Tenon) : (s.setTenon k v).arb = s.arb := rfl
@[simp] theorem State.mem_setTenon (s : State) (k : Nat) (v : Tenon) : (s.setTenon k v).mem = s.mem := rfl
@[simp] theorem State.memPoison_setTenon (s : State) (k : Nat) (v : Tenon) : (s.setTenon k v).memPoison = s.memPoison := rfl
@[simp] theorem State.memBad_setTenon (s : State) (k : Nat) (v : Tenon) : (s.setTenon k v).memBad = s.memBad := rfl
@[simp] theorem State.memFound_setTenon (s : State) (k : Nat) (v : Tenon) : (s.setTenon k v).memFound = s.memFound := rfl
@[simp] theorem State.ncOps_setTenon (s : State) (k : Nat) (v : Tenon) : (s.setTenon k v).ncOps = s.ncOps := rfl
@[simp] theorem State.ncBuf_setTenon (s : State) (k : Nat) (v : Tenon) : (s.setTenon k v).ncBuf = s.ncBuf := rfl
@[simp] theorem State.nqWait_setTenon (s : State) (k : Nat) (v : Tenon) : (s.setTenon k v).nqWait = s.nqWait := rfl
@[simp] theorem State.free_setTenon (s : State) (k : Nat) (v : Tenon) : (s.setTenon k v).free = s.free := rfl
@[simp] theorem State.pending_setTenon (s : State) (k : Nat) (v : Tenon) : (s.setTenon k v).pending = s.pending := rfl
@[simp] theorem State.mode_setTenon (s : State) (k : Nat) (v : Tenon) : (s.setTenon k v).mode = s.mode := rfl

/-! ## setChan -/

@[simp] theorem State.chan_setChan_same (s : State) (k : Nat) (v : Chan) : (s.setChan k v).chan k = v :=
  Tab.get_set_same _ _ _ _

theorem State.chan_setChan_ne (s : State) (k j : Nat) (v : Chan) (h : j ≠ k) : (s.setChan k v).chan j = s.chan j :=
  Tab.get_set_ne _ _ _ _ _ h

@[simp] theorem State.core_setChan (s : State) (k j : Nat) (v : Chan) : (s.setChan k v).core j = s.core j := rfl
@[simp] theorem State.stud_setChan (s : State) (k j : Nat) (v : Chan) : (s.setChan k v).stud j = s.stud j := rfl
@[simp] theorem State.home_setChan (s : State) (k j : Nat) (v : Chan) : (s.setChan k v).home j = s.home j := rfl
@[simp] theorem State.tenon_setChan (s : State) (k j : Nat) (v : Chan) : (s.setChan k v).tenon j = s.tenon j := rfl
@[simp] theorem State.port_setChan (s : State) (k j : Nat) (v : Chan) : (s.setChan k v).port j = s.port j := rfl
@[simp] theorem State.frame_setChan (s : State) (k j : Nat) (v : Chan) : (s.setChan k v).frame j = s.frame j := rfl
@[simp] theorem State.bw_setChan (s : State) (k j : Nat) (v : Chan) : (s.setChan k v).bw j = s.bw j := rfl
@[simp] theorem State.upmu_setChan (s : State) (k j : Nat) (v : Chan) : (s.setChan k v).upmu j = s.upmu j := rfl
@[simp] theorem State.cores_setChan (s : State) (k : Nat) (v : Chan) : (s.setChan k v).cores = s.cores := rfl
@[simp] theorem State.studs_setChan (s : State) (k : Nat) (v : Chan) : (s.setChan k v).studs = s.studs := rfl
@[simp] theorem State.homes_setChan (s : State) (k : Nat) (v : Chan) : (s.setChan k v).homes = s.homes := rfl
@[simp] theorem State.tenons_setChan (s : State) (k : Nat) (v : Chan) : (s.setChan k v).tenons = s.tenons := rfl
@[simp] theorem State.ports_setChan (s : State) (k : Nat) (v : Chan) : (s.setChan k v).ports = s.ports := rfl
@[simp] theorem State.frames_setChan (s : State) (k : Nat) (v : Chan) : (s.setChan k v).frames = s.frames := rfl
@[simp] theorem State.qos_setChan (s : State) (k : Nat) (v : Chan) : (s.setChan k v).qos = s.qos := rfl
@[simp] theorem State.upmus_setChan (s : State) (k : Nat) (v : Chan) : (s.setChan k v).upmus = s.upmus := rfl
@[simp] theorem State.sel_setChan (s : State) (k : Nat) (v : Chan) : (s.setChan k v).sel = s.sel := rfl
@[simp] theorem State.threshold_setChan (s : State) (k : Nat) (v : Chan) : (s.setChan k v).threshold = s.threshold := rfl
@[simp] theorem State.plumb_setChan (s : State) (k : Nat) (v : Chan) : (s.setChan k v).plumb = s.plumb := rfl
@[simp] theorem State.power_setChan (s : State) (k : Nat) (v : Chan) : (s.setChan k v).power = s.power := rfl
@[simp] theorem State.scribe_setChan (s : State) (k : Nat) (v : Chan) : (s.setChan k v).scribe = s.scribe := rfl
@[simp] theorem State.pins_setChan (s : State) (k : Nat) (v : Chan) : (s.setChan k v).pins = s.pins := rfl
@[simp] theorem State.off_setChan (s : State) (k : Nat) (v : Chan) : (s.setChan k v).off = s.off := rfl
@[simp] theorem State.mtime_setChan (s : State) (k : Nat) (v : Chan) : (s.setChan k v).mtime = s.mtime := rfl
@[simp] theorem State.refLost_setChan (s : State) (k : Nat) (v : Chan) : (s.setChan k v).refLost = s.refLost := rfl
@[simp] theorem State.net_setChan (s : State) (k : Nat) (v : Chan) : (s.setChan k v).net = s.net := rfl
@[simp] theorem State.arb_setChan (s : State) (k : Nat) (v : Chan) : (s.setChan k v).arb = s.arb := rfl
@[simp] theorem State.mem_setChan (s : State) (k : Nat) (v : Chan) : (s.setChan k v).mem = s.mem := rfl
@[simp] theorem State.memPoison_setChan (s : State) (k : Nat) (v : Chan) : (s.setChan k v).memPoison = s.memPoison := rfl
@[simp] theorem State.memBad_setChan (s : State) (k : Nat) (v : Chan) : (s.setChan k v).memBad = s.memBad := rfl
@[simp] theorem State.memFound_setChan (s : State) (k : Nat) (v : Chan) : (s.setChan k v).memFound = s.memFound := rfl
@[simp] theorem State.ncOps_setChan (s : State) (k : Nat) (v : Chan) : (s.setChan k v).ncOps = s.ncOps := rfl
@[simp] theorem State.ncBuf_setChan (s : State) (k : Nat) (v : Chan) : (s.setChan k v).ncBuf = s.ncBuf := rfl
@[simp] theorem State.nqWait_setChan (s : State) (k : Nat) (v : Chan) : (s.setChan k v).nqWait = s.nqWait := rfl
@[simp] theorem State.free_setChan (s : State) (k : Nat) (v : Chan) : (s.setChan k v).free = s.free := rfl
@[simp] theorem State.pending_setChan (s : State) (k : Nat) (v : Chan) : (s.setChan k v).pending = s.pending := rfl
@[simp] theorem State.mode_setChan (s : State) (k : Nat) (v : Chan) : (s.setChan k v).mode = s.mode := rfl

/-! ## setPort -/

@[simp] theorem State.port_setPort_same (s : State) (k : Nat) (v : Port) : (s.setPort k v).port k = v :=
  Tab.get_set_same _ _ _ _

theorem State.port_setPort_ne (s : State) (k j : Nat) (v : Port) (h : j ≠ k) : (s.setPort k v).port j = s.port j :=
  Tab.get_set_ne _ _ _ _ _ h

@[simp] theorem State.core_setPort (s : State) (k j : Nat) (v : Port) : (s.setPort k v).core j = s.core j := rfl
@[simp] theorem State.stud_setPort (s : State) (k j : Nat) (v : Port) : (s.setPort k v).stud j = s.stud j := rfl
@[simp] theorem State.home_setPort (s : State) (k j : Nat) (v : Port) : (s.setPort k v).home j = s.home j := rfl
@[simp] theorem State.tenon_setPort (s : State) (k j : Nat) (v : Port) : (s.setPort k v).tenon j = s.tenon j := rfl
@[simp] theorem State.chan_setPort (s : State) (k j : Nat) (v : Port) : (s.setPort k v).chan j = s.chan j := rfl
@[simp] theorem State.frame_setPort (s : State) (k j : Nat) (v : Port) : (s.setPort k v).frame j = s.frame j := rfl
@[simp] theorem State.bw_setPort (s : State) (k j : Nat) (v : Port) : (s.setPort k v).bw j = s.bw j := rfl
@[simp] theorem State.upmu_setPort (s : State) (k j : Nat) (v : Port) : (s.setPort k v).upmu j = s.upmu j := rfl
@[simp] theorem State.cores_setPort (s : State) (k : Nat) (v : Port) : (s.setPort k v).cores = s.cores := rfl
@[simp] theorem State.studs_setPort (s : State) (k : Nat) (v : Port) : (s.setPort k v).studs = s.studs := rfl
@[simp] theorem State.homes_setPort (s : State) (k : Nat) (v : Port) : (s.setPort k v).homes = s.homes := rfl
@[simp] theorem State.tenons_setPort (s : State) (k : Nat) (v : Port) : (s.setPort k v).tenons = s.tenons := rfl
@[simp] theorem State.chans_setPort (s : State) (k : Nat) (v : Port) : (s.setPort k v).chans = s.chans := rfl
@[simp] theorem State.frames_setPort (s : State) (k : Nat) (v : Port) : (s.setPort k v).frames = s.frames := rfl
@[simp] theorem State.qos_setPort (s : State) (k : Nat) (v : Port) : (s.setPort k v).qos = s.qos := rfl
@[simp] theorem State.upmus_setPort (s : State) (k : Nat) (v : Port) : (s.setPort k v).upmus = s.upmus := rfl
@[simp] theorem State.sel_setPort (s : State) (k : Nat) (v : Port) : (s.setPort k v).sel = s.sel := rfl
@[simp] theorem State.threshold_setPort (s : State) (k : Nat) (v : Port) : (s.setPort k v).threshold = s.threshold := rfl
@[simp] theorem State.plumb_setPort (s : State) (k : Nat) (v : Port) : (s.setPort k v).plumb = s.plumb := rfl
@[simp] theorem State.power_setPort (s : State) (k : Nat) (v : Port) : (s.setPort k v).power = s.power := rfl
@[simp] theorem State.scribe_setPort (s : State) (k : Nat) (v : Port) : (s.setPort k v).scribe = s.scribe := rfl
@[simp] theorem State.pins_setPort (s : State) (k : Nat) (v : Port) : (s.setPort k v).pins = s.pins := rfl
@[simp] theorem State.off_setPort (s : State) (k : Nat) (v : Port) : (s.setPort k v).off = s.off := rfl
@[simp] theorem State.mtime_setPort (s : State) (k : Nat) (v : Port) : (s.setPort k v).mtime = s.mtime := rfl
@[simp] theorem State.refLost_setPort (s : State) (k : Nat) (v : Port) : (s.setPort k v).refLost = s.refLost := rfl
@[simp] theorem State.net_setPort (s : State) (k : Nat) (v : Port) : (s.setPort k v).net = s.net := rfl
@[simp] theorem State.arb_setPort (s : State) (k : Nat) (v : Port) : (s.setPort k v).arb = s.arb := rfl
@[simp] theorem State.mem_setPort (s : State) (k : Nat) (v : Port) : (s.setPort k v).mem = s.mem := rfl
@[simp] theorem State.memPoison_setPort (s : State) (k : Nat) (v : Port) : (s.setPort k v).memPoison = s.memPoison := rfl
@[simp] theorem State.memBad_setPort (s : State) (k : Nat) (v : Port) : (s.setPort k v).memBad = s.memBad := rfl
@[simp] theorem State.memFound_setPort (s : State) (k : Nat) (v : Port) : (s.setPort k v).memFound = s.memFound := rfl
@[simp] theorem State.ncOps_setPort (s : State) (k : Nat) (v : Port) : (s.setPort k v).ncOps = s.ncOps := rfl
@[simp] theorem State.ncBuf_setPort (s : State) (k : Nat) (v : Port) : (s.setPort k v).ncBuf = s.ncBuf := rfl
@[simp] theorem State.nqWait_setPort (s : State) (k : Nat) (v : Port) : (s.setPort k v).nqWait = s.nqWait := rfl
@[simp] theorem State.free_setPort (s : State) (k : Nat) (v : Port) : (s.setPort k v).free = s.free := rfl
@[simp] theorem State.pending_setPort (s : State) (k : Nat) (v : Port) : (s.setPort k v).pending = s.pending := rfl
@[simp] theorem State.mode_setPort (s : State) (k : Nat) (v : Port) : (s.setPort k v).mode = s.mode := rfl

/-! ## setFrame -/

@[simp] theorem State.frame_setFrame_same (s : State) (k : Nat) (v : Frame) : (s.setFrame k v).frame k = v :=
  Tab.get_set_same _ _ _ _

theorem State.frame_setFrame_ne (s : State) (k j : Nat) (v : Frame) (h : j ≠ k) : (s.setFrame k v).frame j = s.frame j :=
  Tab.get_set_ne _ _ _ _ _ h

@[simp] theorem State.core_setFrame (s : State) (k j : Nat) (v : Frame) : (s.setFrame k v).core j = s.core j := rfl
@[simp] theorem State.stud_setFrame (s : State) (k j : Nat) (v : Frame) : (s.setFrame k v).stud j = s.stud j := rfl
@[simp] theorem State.home_setFrame (s : State) (k j : Nat) (v : Frame) : (s.setFrame k v).home j = s.home j := rfl
@[simp] theorem State.tenon_setFrame (s : State) (k j : Nat) (v : Frame) : (s.setFrame k v).tenon j = s.tenon j := rfl
@[simp] theorem State.chan_setFrame (s : State) (k j : Nat) (v : Frame) : (s.setFrame k v).chan j = s.chan j := rfl
@[simp] theorem State.port_setFrame (s : State) (k j : Nat) (v : Frame) : (s.setFrame k v).port j = s.port j := rfl
@[simp] theorem State.bw_setFrame (s : State) (k j : Nat) (v : Frame) : (s.setFrame k v).bw j = s.bw j := rfl
@[simp] theorem State.upmu_setFrame (s : State) (k j : Nat) (v : Frame) : (s.setFrame k v).upmu j = s.upmu j := rfl
@[simp] theorem State.cores_setFrame (s : State) (k : Nat) (v : Frame) : (s.setFrame k v).cores = s.cores := rfl
@[simp] theorem State.studs_setFrame (s : State) (k : Nat) (v : Frame) : (s.setFrame k v).studs = s.studs := rfl
@[simp] theorem State.homes_setFrame (s : State) (k : Nat) (v : Frame) : (s.setFrame k v).homes = s.homes := rfl
@[simp] theorem State.tenons_setFrame (s : State) (k : Nat) (v : Frame) : (s.setFrame k v).tenons = s.tenons := rfl
@[simp] theorem State.chans_setFrame (s : State) (k : Nat) (v : Frame) : (s.setFrame k v).chans = s.chans := rfl
@[simp] theorem State.ports_setFrame (s : State) (k : Nat) (v : Frame) : (s.setFrame k v).ports = s.ports := rfl
@[simp] theorem State.qos_setFrame (s : State) (k : Nat) (v : Frame) : (s.setFrame k v).qos = s.qos := rfl
@[simp] theorem State.upmus_setFrame (s : State) (k : Nat) (v : Frame) : (s.setFrame k v).upmus = s.upmus := rfl
@[simp] theorem State.sel_setFrame (s : State) (k : Nat) (v : Frame) : (s.setFrame k v).sel = s.sel := rfl
@[simp] theorem State.threshold_setFrame (s : State) (k : Nat) (v : Frame) : (s.setFrame k v).threshold = s.threshold := rfl
@[simp] theorem State.plumb_setFrame (s : State) (k : Nat) (v : Frame) : (s.setFrame k v).plumb = s.plumb := rfl
@[simp] theorem State.power_setFrame (s : State) (k : Nat) (v : Frame) : (s.setFrame k v).power = s.power := rfl
@[simp] theorem State.scribe_setFrame (s : State) (k : Nat) (v : Frame) : (s.setFrame k v).scribe = s.scribe := rfl
@[simp] theorem State.pins_setFrame (s : State) (k : Nat) (v : Frame) : (s.setFrame k v).pins = s.pins := rfl
@[simp] theorem State.off_setFrame (s : State) (k : Nat) (v : Frame) : (s.setFrame k v).off = s.off := rfl
@[simp] theorem State.mtime_setFrame (s : State) (k : Nat) (v : Frame) : (s.setFrame k v).mtime = s.mtime := rfl
@[simp] theorem State.refLost_setFrame (s : State) (k : Nat) (v : Frame) : (s.setFrame k v).refLost = s.refLost := rfl
@[simp] theorem State.net_setFrame (s : State) (k : Nat) (v : Frame) : (s.setFrame k v).net = s.net := rfl
@[simp] theorem State.arb_setFrame (s : State) (k : Nat) (v : Frame) : (s.setFrame k v).arb = s.arb := rfl
@[simp] theorem State.mem_setFrame (s : State) (k : Nat) (v : Frame) : (s.setFrame k v).mem = s.mem := rfl
@[simp] theorem State.memPoison_setFrame (s : State) (k : Nat) (v : Frame) : (s.setFrame k v).memPoison = s.memPoison := rfl
@[simp] theorem State.memBad_setFrame (s : State) (k : Nat) (v : Frame) : (s.setFrame k v).memBad = s.memBad := rfl
@[simp] theorem State.memFound_setFrame (s : State) (k : Nat) (v : Frame) : (s.setFrame k v).memFound = s.memFound := rfl
@[simp] theorem State.ncOps_setFrame (s : State) (k : Nat) (v : Frame) : (s.setFrame k v).ncOps = s.ncOps := rfl
@[simp] theorem State.ncBuf_setFrame (s : State) (k : Nat) (v : Frame) : (s.setFrame k v).ncBuf = s.ncBuf := rfl
@[simp] theorem State.nqWait_setFrame (s : State) (k : Nat) (v : Frame) : (s.setFrame k v).nqWait = s.nqWait := rfl
@[simp] theorem State.free_setFrame (s : State) (k : Nat) (v : Frame) : (s.setFrame k v).free = s.free := rfl
@[simp] theorem State.pending_setFrame (s : State) (k : Nat) (v : Frame) : (s.setFrame k v).pending = s.pending := rfl
@[simp] theorem State.mode_setFrame (s : State) (k : Nat) (v : Frame) : (s.setFrame k v).mode = s.mode := rfl

/-! ## setBw -/

@[simp] theorem State.bw_setBw_same (s : State) (k : Nat) (v : Cbqri) : (s.setBw k v).bw k = v :=
  Tab.get_set_same _ _ _ _

theorem State.bw_setBw_ne (s : State) (k j : Nat) (v : Cbqri) (h : j ≠ k) : (s.setBw k v).bw j = s.bw j :=
  Tab.get_set_ne _ _ _ _ _ h

@[simp] theorem State.core_setBw (s : State) (k j : Nat) (v : Cbqri) : (s.setBw k v).core j = s.core j := rfl
@[simp] theorem State.stud_setBw (s : State) (k j : Nat) (v : Cbqri) : (s.setBw k v).stud j = s.stud j := rfl
@[simp] theorem State.home_setBw (s : State) (k j : Nat) (v : Cbqri) : (s.setBw k v).home j = s.home j := rfl
@[simp] theorem State.tenon_setBw (s : State) (k j : Nat) (v : Cbqri) : (s.setBw k v).tenon j = s.tenon j := rfl
@[simp] theorem State.chan_setBw (s : State) (k j : Nat) (v : Cbqri) : (s.setBw k v).chan j = s.chan j := rfl
@[simp] theorem State.port_setBw (s : State) (k j : Nat) (v : Cbqri) : (s.setBw k v).port j = s.port j := rfl
@[simp] theorem State.frame_setBw (s : State) (k j : Nat) (v : Cbqri) : (s.setBw k v).frame j = s.frame j := rfl
@[simp] theorem State.upmu_setBw (s : State) (k j : Nat) (v : Cbqri) : (s.setBw k v).upmu j = s.upmu j := rfl
@[simp] theorem State.cores_setBw (s : State) (k : Nat) (v : Cbqri) : (s.setBw k v).cores = s.cores := rfl
@[simp] theorem State.studs_setBw (s : State) (k : Nat) (v : Cbqri) : (s.setBw k v).studs = s.studs := rfl
@[simp] theorem State.homes_setBw (s : State) (k : Nat) (v : Cbqri) : (s.setBw k v).homes = s.homes := rfl
@[simp] theorem State.tenons_setBw (s : State) (k : Nat) (v : Cbqri) : (s.setBw k v).tenons = s.tenons := rfl
@[simp] theorem State.chans_setBw (s : State) (k : Nat) (v : Cbqri) : (s.setBw k v).chans = s.chans := rfl
@[simp] theorem State.ports_setBw (s : State) (k : Nat) (v : Cbqri) : (s.setBw k v).ports = s.ports := rfl
@[simp] theorem State.frames_setBw (s : State) (k : Nat) (v : Cbqri) : (s.setBw k v).frames = s.frames := rfl
@[simp] theorem State.upmus_setBw (s : State) (k : Nat) (v : Cbqri) : (s.setBw k v).upmus = s.upmus := rfl
@[simp] theorem State.sel_setBw (s : State) (k : Nat) (v : Cbqri) : (s.setBw k v).sel = s.sel := rfl
@[simp] theorem State.threshold_setBw (s : State) (k : Nat) (v : Cbqri) : (s.setBw k v).threshold = s.threshold := rfl
@[simp] theorem State.plumb_setBw (s : State) (k : Nat) (v : Cbqri) : (s.setBw k v).plumb = s.plumb := rfl
@[simp] theorem State.power_setBw (s : State) (k : Nat) (v : Cbqri) : (s.setBw k v).power = s.power := rfl
@[simp] theorem State.scribe_setBw (s : State) (k : Nat) (v : Cbqri) : (s.setBw k v).scribe = s.scribe := rfl
@[simp] theorem State.pins_setBw (s : State) (k : Nat) (v : Cbqri) : (s.setBw k v).pins = s.pins := rfl
@[simp] theorem State.off_setBw (s : State) (k : Nat) (v : Cbqri) : (s.setBw k v).off = s.off := rfl
@[simp] theorem State.mtime_setBw (s : State) (k : Nat) (v : Cbqri) : (s.setBw k v).mtime = s.mtime := rfl
@[simp] theorem State.refLost_setBw (s : State) (k : Nat) (v : Cbqri) : (s.setBw k v).refLost = s.refLost := rfl
@[simp] theorem State.net_setBw (s : State) (k : Nat) (v : Cbqri) : (s.setBw k v).net = s.net := rfl
@[simp] theorem State.arb_setBw (s : State) (k : Nat) (v : Cbqri) : (s.setBw k v).arb = s.arb := rfl
@[simp] theorem State.mem_setBw (s : State) (k : Nat) (v : Cbqri) : (s.setBw k v).mem = s.mem := rfl
@[simp] theorem State.memPoison_setBw (s : State) (k : Nat) (v : Cbqri) : (s.setBw k v).memPoison = s.memPoison := rfl
@[simp] theorem State.memBad_setBw (s : State) (k : Nat) (v : Cbqri) : (s.setBw k v).memBad = s.memBad := rfl
@[simp] theorem State.memFound_setBw (s : State) (k : Nat) (v : Cbqri) : (s.setBw k v).memFound = s.memFound := rfl
@[simp] theorem State.ncOps_setBw (s : State) (k : Nat) (v : Cbqri) : (s.setBw k v).ncOps = s.ncOps := rfl
@[simp] theorem State.ncBuf_setBw (s : State) (k : Nat) (v : Cbqri) : (s.setBw k v).ncBuf = s.ncBuf := rfl
@[simp] theorem State.nqWait_setBw (s : State) (k : Nat) (v : Cbqri) : (s.setBw k v).nqWait = s.nqWait := rfl
@[simp] theorem State.free_setBw (s : State) (k : Nat) (v : Cbqri) : (s.setBw k v).free = s.free := rfl
@[simp] theorem State.pending_setBw (s : State) (k : Nat) (v : Cbqri) : (s.setBw k v).pending = s.pending := rfl
@[simp] theorem State.mode_setBw (s : State) (k : Nat) (v : Cbqri) : (s.setBw k v).mode = s.mode := rfl

/-! ## setUpmu -/

@[simp] theorem State.upmu_setUpmu_same (s : State) (k : Nat) (v : Upmu) : (s.setUpmu k v).upmu k = v :=
  Tab.get_set_same _ _ _ _

theorem State.upmu_setUpmu_ne (s : State) (k j : Nat) (v : Upmu) (h : j ≠ k) : (s.setUpmu k v).upmu j = s.upmu j :=
  Tab.get_set_ne _ _ _ _ _ h

@[simp] theorem State.core_setUpmu (s : State) (k j : Nat) (v : Upmu) : (s.setUpmu k v).core j = s.core j := rfl
@[simp] theorem State.stud_setUpmu (s : State) (k j : Nat) (v : Upmu) : (s.setUpmu k v).stud j = s.stud j := rfl
@[simp] theorem State.home_setUpmu (s : State) (k j : Nat) (v : Upmu) : (s.setUpmu k v).home j = s.home j := rfl
@[simp] theorem State.tenon_setUpmu (s : State) (k j : Nat) (v : Upmu) : (s.setUpmu k v).tenon j = s.tenon j := rfl
@[simp] theorem State.chan_setUpmu (s : State) (k j : Nat) (v : Upmu) : (s.setUpmu k v).chan j = s.chan j := rfl
@[simp] theorem State.port_setUpmu (s : State) (k j : Nat) (v : Upmu) : (s.setUpmu k v).port j = s.port j := rfl
@[simp] theorem State.frame_setUpmu (s : State) (k j : Nat) (v : Upmu) : (s.setUpmu k v).frame j = s.frame j := rfl
@[simp] theorem State.bw_setUpmu (s : State) (k j : Nat) (v : Upmu) : (s.setUpmu k v).bw j = s.bw j := rfl
@[simp] theorem State.cores_setUpmu (s : State) (k : Nat) (v : Upmu) : (s.setUpmu k v).cores = s.cores := rfl
@[simp] theorem State.studs_setUpmu (s : State) (k : Nat) (v : Upmu) : (s.setUpmu k v).studs = s.studs := rfl
@[simp] theorem State.homes_setUpmu (s : State) (k : Nat) (v : Upmu) : (s.setUpmu k v).homes = s.homes := rfl
@[simp] theorem State.tenons_setUpmu (s : State) (k : Nat) (v : Upmu) : (s.setUpmu k v).tenons = s.tenons := rfl
@[simp] theorem State.chans_setUpmu (s : State) (k : Nat) (v : Upmu) : (s.setUpmu k v).chans = s.chans := rfl
@[simp] theorem State.ports_setUpmu (s : State) (k : Nat) (v : Upmu) : (s.setUpmu k v).ports = s.ports := rfl
@[simp] theorem State.frames_setUpmu (s : State) (k : Nat) (v : Upmu) : (s.setUpmu k v).frames = s.frames := rfl
@[simp] theorem State.qos_setUpmu (s : State) (k : Nat) (v : Upmu) : (s.setUpmu k v).qos = s.qos := rfl
@[simp] theorem State.sel_setUpmu (s : State) (k : Nat) (v : Upmu) : (s.setUpmu k v).sel = s.sel := rfl
@[simp] theorem State.threshold_setUpmu (s : State) (k : Nat) (v : Upmu) : (s.setUpmu k v).threshold = s.threshold := rfl
@[simp] theorem State.plumb_setUpmu (s : State) (k : Nat) (v : Upmu) : (s.setUpmu k v).plumb = s.plumb := rfl
@[simp] theorem State.power_setUpmu (s : State) (k : Nat) (v : Upmu) : (s.setUpmu k v).power = s.power := rfl
@[simp] theorem State.scribe_setUpmu (s : State) (k : Nat) (v : Upmu) : (s.setUpmu k v).scribe = s.scribe := rfl
@[simp] theorem State.pins_setUpmu (s : State) (k : Nat) (v : Upmu) : (s.setUpmu k v).pins = s.pins := rfl
@[simp] theorem State.off_setUpmu (s : State) (k : Nat) (v : Upmu) : (s.setUpmu k v).off = s.off := rfl
@[simp] theorem State.mtime_setUpmu (s : State) (k : Nat) (v : Upmu) : (s.setUpmu k v).mtime = s.mtime := rfl
@[simp] theorem State.refLost_setUpmu (s : State) (k : Nat) (v : Upmu) : (s.setUpmu k v).refLost = s.refLost := rfl
@[simp] theorem State.net_setUpmu (s : State) (k : Nat) (v : Upmu) : (s.setUpmu k v).net = s.net := rfl
@[simp] theorem State.arb_setUpmu (s : State) (k : Nat) (v : Upmu) : (s.setUpmu k v).arb = s.arb := rfl
@[simp] theorem State.mem_setUpmu (s : State) (k : Nat) (v : Upmu) : (s.setUpmu k v).mem = s.mem := rfl
@[simp] theorem State.memPoison_setUpmu (s : State) (k : Nat) (v : Upmu) : (s.setUpmu k v).memPoison = s.memPoison := rfl
@[simp] theorem State.memBad_setUpmu (s : State) (k : Nat) (v : Upmu) : (s.setUpmu k v).memBad = s.memBad := rfl
@[simp] theorem State.memFound_setUpmu (s : State) (k : Nat) (v : Upmu) : (s.setUpmu k v).memFound = s.memFound := rfl
@[simp] theorem State.ncOps_setUpmu (s : State) (k : Nat) (v : Upmu) : (s.setUpmu k v).ncOps = s.ncOps := rfl
@[simp] theorem State.ncBuf_setUpmu (s : State) (k : Nat) (v : Upmu) : (s.setUpmu k v).ncBuf = s.ncBuf := rfl
@[simp] theorem State.nqWait_setUpmu (s : State) (k : Nat) (v : Upmu) : (s.setUpmu k v).nqWait = s.nqWait := rfl
@[simp] theorem State.free_setUpmu (s : State) (k : Nat) (v : Upmu) : (s.setUpmu k v).free = s.free := rfl
@[simp] theorem State.pending_setUpmu (s : State) (k : Nat) (v : Upmu) : (s.setUpmu k v).pending = s.pending := rfl
@[simp] theorem State.mode_setUpmu (s : State) (k : Nat) (v : Upmu) : (s.setUpmu k v).mode = s.mode := rfl

/-! ## Shared operations -/

@[simp] theorem State.sent_outP (s : State) (m : Msg) : (s.sent m).outP = m.outP := by
  unfold State.sent entered; split <;> rfl

/-- What sending leaves: nothing where no route leads, one more message in flight, or one more at its purlin port, and nothing else. -/
theorem State.send_cases (s : State) (m : Msg) :
    s.send m = s ∨ s.send m = { s with net := s.net ++ [s.sent m] } ∨ ∃ p k, m.outP = some p ∧ s.send m = s.setPort p k := by
  unfold State.send State.putMsg State.eject
  split
  · split
    · rw [State.sent_outP]
      split
      · rename_i p h
        dsimp only
        split
        · exact .inr (.inr ⟨p, _, h, rfl⟩)
        · exact .inl rfl
      · exact .inr (.inl rfl)
    · exact .inr (.inl rfl)
  · exact .inl rfl

/-- A message for an agent of this package that a route leads to goes in flight. -/
theorem State.send_net (s : State) (m : Msg) (h : m.outP = none) (hr : s.routed m = true) : (s.send m).net = s.net ++ [s.sent m] := by
  unfold State.send State.putMsg State.eject
  simp [hr, h]

@[simp] theorem State.send_mem (s : State) (m : Msg) : (s.send m).mem = s.mem := by
  rcases s.send_cases m with h | h | ⟨p, k, -, h⟩ <;> (rw [h] <;> rfl)
@[simp] theorem State.send_pending (s : State) (m : Msg) : (s.send m).pending = s.pending := by
  rcases s.send_cases m with h | h | ⟨p, k, -, h⟩ <;> (rw [h] <;> rfl)
@[simp] theorem State.send_homes (s : State) (m : Msg) : (s.send m).homes = s.homes := by
  rcases s.send_cases m with h | h | ⟨p, k, -, h⟩ <;> (rw [h] <;> rfl)
@[simp] theorem State.send_cores (s : State) (m : Msg) : (s.send m).cores = s.cores := by
  rcases s.send_cases m with h | h | ⟨p, k, -, h⟩ <;> (rw [h] <;> rfl)
/-- What routing a message leaves: nothing where no way leads to its package, else it is sent, over a purlin port or not. -/
theorem State.route_cases (s : State) (f : Nat) (m : Msg) : s.route f m = s ∨ ∃ o, s.route f m = s.send { m with outP := o } := by
  unfold State.route
  split
  · exact .inr ⟨m.outP, rfl⟩
  · dsimp only
    split
    · exact .inr ⟨_, rfl⟩
    · exact .inl rfl

@[simp] theorem State.route_mem (s : State) (f : Nat) (m : Msg) : (s.route f m).mem = s.mem := by
  rcases s.route_cases f m with h | ⟨o, h⟩ <;> simp [h]
@[simp] theorem State.route_pending (s : State) (f : Nat) (m : Msg) : (s.route f m).pending = s.pending := by
  rcases s.route_cases f m with h | ⟨o, h⟩ <;> simp [h]
@[simp] theorem State.route_homes (s : State) (f : Nat) (m : Msg) : (s.route f m).homes = s.homes := by
  rcases s.route_cases f m with h | ⟨o, h⟩ <;> simp [h]
@[simp] theorem State.route_cores (s : State) (f : Nat) (m : Msg) : (s.route f m).cores = s.cores := by
  rcases s.route_cases f m with h | ⟨o, h⟩ <;> simp [h]

/-- What an uncached access of a ring or an IOMMU leaves as it is sent: one more access under way and its request routed, or an error that
its owner finds. -/
theorem State.ncSend_cases (s : State) (o : NcOwner) (x : NcOp) :
    (∃ y f m, y.owner = o ∧ y.line = x.line ∧ s.ncSend o x = ({ s with ncOps := s.ncOps ++ [y] } : State).route f m) ∨
    s.ncSend o x = { s with ncBuf := s.ncBuf ++ [{ owner := o, line := x.line, err := true }] } := by
  unfold State.ncSend
  dsimp only
  split
  · rename_i t _ _
    exact .inl ⟨{ x with owner := o, agent := s.ncAgent o, tag := 3072 + t }, _, _, rfl, rfl, rfl⟩
  · exact .inr rfl

@[simp] theorem State.ncSend_mem (s : State) (o : NcOwner) (x : NcOp) : (s.ncSend o x).mem = s.mem := by
  rcases s.ncSend_cases o x with ⟨y, f, m, -, -, h⟩ | h <;> simp [h]
@[simp] theorem State.ncSend_pending (s : State) (o : NcOwner) (x : NcOp) : (s.ncSend o x).pending = s.pending := by
  rcases s.ncSend_cases o x with ⟨y, f, m, -, -, h⟩ | h <;> simp [h]
@[simp] theorem State.ncSend_homes (s : State) (o : NcOwner) (x : NcOp) : (s.ncSend o x).homes = s.homes := by
  rcases s.ncSend_cases o x with ⟨y, f, m, -, -, h⟩ | h <;> simp [h]
@[simp] theorem State.ncSend_cores (s : State) (o : NcOwner) (x : NcOp) : (s.ncSend o x).cores = s.cores := by
  rcases s.ncSend_cases o x with ⟨y, f, m, -, -, h⟩ | h <;> simp [h]

@[simp] theorem State.take_mem (s : State) : s.take.2.mem = s.mem := rfl
@[simp] theorem State.take_pending (s : State) : s.take.2.pending = s.pending := rfl
@[simp] theorem State.take_free (s : State) : s.take.2.free = s.free + 1 := rfl
@[simp] theorem State.setMemLine_pending (s : State) (k : Nat) (l : Line) (p : Bool) :
    (s.setMemLine k l p).pending = s.pending := rfl
@[simp] theorem State.setMemLine_net (s : State) (k : Nat) (l : Line) (p : Bool) : (s.setMemLine k l p).net = s.net := rfl
@[simp] theorem State.setMemLine_cores (s : State) (k : Nat) (l : Line) (p : Bool) :
    (s.setMemLine k l p).cores = s.cores := rfl

/-- A CSR written reads as written. -/
@[simp] theorem Core.csr_setCsr_same (k : Core) (n : Nat) (v : Word) : (k.setCsr n v).csr n = v :=
  Tab.get_put_same _ _ _ _

/-- A CSR write leaves every other CSR. -/
theorem Core.csr_setCsr_ne (k : Core) (n m : Nat) (v : Word) (h : m ≠ n) : (k.setCsr n v).csr m = k.csr m := by
  unfold Core.setCsr Core.csr Regs.get Regs.put Tab.put
  split
  · exact Tab.get_erase_ne _ _ _ _ h
  · exact Tab.get_set_ne _ _ _ _ _ h

@[simp] theorem Core.pipe_setCsr (k : Core) (n : Nat) (v : Word) : (k.setCsr n v).pipe = k.pipe := rfl
@[simp] theorem Core.xlat_setCsr (k : Core) (n : Nat) (v : Word) : (k.setCsr n v).xlat = k.xlat := rfl
@[simp] theorem Core.run_setCsr (k : Core) (n : Nat) (v : Word) : (k.setCsr n v).run = k.run := rfl

/-- x[rd] written reads as written, unless rd is 0. -/
theorem Regs.readX_writeX_same (r : Regs) (n : Nat) (v : Word) (h : n ≠ 0) : (r.writeX n v).readX n = v := by
  simp [Regs.readX, Regs.writeX, h]

/-- x0 reads 0 whatever is written. -/
@[simp] theorem Regs.readX_zero (r : Regs) : r.readX 0 = 0 := rfl
@[simp] theorem Regs.writeX_zero (r : Regs) (v : Word) : r.writeX 0 v = r := rfl

end Sys2Proof.Machine
end

