-- ==== Sys2Proof/WellFormed.lean ====
section
/-! DEFINITION. Well-formed commands: every operand lies in the range that the spec gives it. Operands whose type is
already as wide as the spec says need no check. -/

namespace Sys2Proof

/-- Access sizes of scalar accesses and of 16-byte accesses (R52). -/
def okSize (n : Nat) : Bool := [1, 2, 4, 8, 16].contains n
/-- LR and SC take 4 or 8 bytes (R67). -/
def okLr (n : Nat) : Bool := [4, 8].contains n
/-- AMOs take 4 or 8 bytes, bytes and halfwords by Zabha, and a CAS 16 bytes by Zacas (R51, R66). -/
def okAmo (op : AmoOp) (n : Nat) : Bool := [1, 2, 4, 8].contains n || (op == .cas && n == 16)
/-- A vector destination names an element of 256-bit registers in a group of eight (R82). -/
def okDest : Dest → Bool
  | .v _ elem _ => decide (elem < 256)
  | _ => true
/-- PA[55:6] (R3). -/
def okLine (n : Nat) : Bool := decide (n < 2 ^ 50)
/-- The header fields of R162, each within its width. -/
def okHdr (h : Hdr) : Bool :=
  decide (h.src < 64) && decide (h.dst < 64) && decide (h.srcPkg < 8) && decide (h.dstPkg < 8) && decide (h.tag < 4096) &&
  decide (h.reqAgent < 64) && decide (h.reqPkg < 8) && decide (h.htx < 1024) && okLine h.line && decide (h.rcid < 64) &&
  decide (h.mcid < 256)
/-- A flit index (R194). -/
def okIndex (n : Nat) : Bool := decide (n < 2 ^ 48)
/-- A temperature in 0.01 °C that a sensor can report. -/
def okTemp (t : Int) : Bool := decide (-30000 ≤ t) && decide (t ≤ 30000)
/-- A channel's training result (R216 to R218). -/
def okTrain (r : TrainRes) : Bool := decide (r.mods.length ≤ 2)
/-- The purlin flit header (R250). -/
def okPFlit (h : PFlitHdr) : Bool :=
  decide (h.seq < 1024) && decide (h.ack < 1024) && decide (h.kind < 4) && decide (h.crClass < 8) && decide (h.crCount < 4096)
/-- The identity unit (R256). -/
def okIdUnit (u : IdUnit) : Bool := decide (u.pkg < 8) && decide (u.frame < 4) && decide (u.port < 8) && decide (u.width ≤ 16)
/-- Management messages (R257, R262): a package has at most four links. -/
def okMgmt : Mgmt → Bool
  | .ids _ pkg l => decide (pkg < 8) && decide (l.length ≤ 4) && l.all (fun e => decide (e.1 < 8) && decide (e.2.1 < 8) && decide (e.2.2 < 8))
  | .time _ pkg _ => decide (pkg < 8)
  | _ => true
/-- A ridge packet (R269). -/
def okRPkt (p : RPkt) : Bool := decide (p.len ≤ 4096) && decide (p.tag < 4096) && decide (p.addr < 2 ^ 56) && decide (p.data.length ≤ 4096)
/-- An inbound TLP (R289, R306). -/
def okTlp (t : Tlp) : Bool := decide (t.addr < 2 ^ 64) && decide (t.len ≤ 4096) && decide (t.data.length ≤ 4096) && decide (t.tag < 2 ^ 14)
/-- What training gives: a lane at least, at a rate of R355. -/
def okLink (l : LinkIn) : Bool := decide (1 ≤ l.width) && decide (l.width ≤ 16) && decide (1 ≤ l.rate) && decide (l.rate < 8) && decide (l.cxl < 3)
/-- Measured powers by domain (R386). -/
def okPowers (l : List (Nat × Nat)) : Bool := l.all (fun e => decide (e.1 < 30) && decide (e.2 < 2 ^ 24))
/-- What self-test found names structures that exist (R411). -/
def okEnv (e : BootEnv) : Bool :=
  e.coreFail.all (fun x => decide (x.1 < 384) && x.2.all (fun k => decide (k < 5))) &&
  e.studFail.all (fun x => decide (x.1 < 12)) && e.bayFail.all (fun x => decide (x.1 < 12) && decide (x.2 < 9)) &&
  e.portFail.all (fun p => decide (p < 8)) && e.hot.all (fun d => decide (d < 16)) && decide (e.straps < 8)
/-- A transport instance (R313). -/
def okInst (t : TInst) : Bool :=
  match t.kind with
  | .mctp => t.inst == 0
  | .ring => decide (t.inst < 4)
  | .dovetail => decide (t.inst < 8)
/-- A command packet carries at least the bytes its LENGTH names (R318). -/
def okPkt (p : CmdPkt) : Bool := decide (p.len.toNat ≤ 4096) && decide (p.len.toNat ≤ p.params.length)
/-- A register write names an aligned register of a window, or a CSR (R343). -/
def okTarget : RegTarget → Bool
  | .win _ _ off _ => decide (off.toNat % 8 = 0)
  | .csr _ _ _ _ => true
  | .port dbg _ _ size => dbg || okSize size

/-- A command whose operands lie in the ranges the spec gives them. -/
def Instr.wf (i : Instr) : Bool :=
  match i with
  | .load _ _ size dest _ _ _ => okSize size && okDest dest
  | .store _ _ size _ _ => okSize size
  | .storeQueueDrain _ => true
  | .amo _ _ size op _ _ _ _ _ => okAmo op size
  | .lr _ _ size _ _ _ => okLr size
  | .sc _ _ size _ _ _ _ => okLr size
  | .lrHoldExpiry _ => true
  | .fence _ _ _ => true
  | .fenceI _ => true
  | .wfi _ => true
  | .wrsNto _ => true
  | .wrsSto _ => true
  | .wrsStoTimeout _ => true
  | .cboCleanInsn _ _ => true
  | .cboFlushInsn _ _ => true
  | .cboInvalInsn _ _ => true
  | .cboZeroInsn _ _ => true
  | .prefetchHint _ _ _ => true
  | .ntlHint _ _ => true
  | .poisonConsumption _ => true
  | .hewnMissTrap _ => true
  | .sfenceVma _ _ _ => true
  | .hfenceVvma _ _ _ => true
  | .hfenceGvma _ _ _ => true
  | .sinvalVma _ _ _ => true
  | .hinvalVvma _ _ _ => true
  | .hinvalGvma _ _ _ => true
  | .sfenceWInval _ => true
  | .sfenceInvalIr _ => true
  | .satpWrite _ _ _ => true
  | .envcfgCbieWrite _ _ _ => true
  | .mclkselWrite _ _ => true
  | .clockSwitchDone _ => true
  | .pllLock _ => true
  | .mcorectlWrite _ _ => true
  | .poisoninfoWrite _ _ _ => true
  | .walkinfoWrite _ _ _ => true
  | .mshimctlWrite _ _ => true
  | .stlbcmdWrite _ _ => true
  | .stlbcmdProbe _ => true
  | .stlbcmdRead _ _ => true
  | .stlbcmdInvalVa _ _ => true
  | .stlbcmdInvalAsid _ _ => true
  | .stlbcmdInvalAll _ _ => true
  | .walkRequest _ _ _ _ _ => true
  | .pteReadReturn _ _ _ => true
  | .headWalkRequest _ => true
  | .hpmCounterWrite _ _ _ => true
  | .mhpmeventWrite _ _ _ => true
  | .mcountinhibitWrite _ _ => true
  | .counterWrap _ _ => true
  | .notchctlWrite _ _ _ => true
  | .notchRegisterWrite _ _ _ _ => true
  | .mnotchdelegWrite _ _ => true
  | .notchTag _ => true
  | .notchWrite _ _ => true
  | .mtimeTick => true
  | .mtimeWrite _ _ => true
  | .mtimecmpWrite _ _ _ => true
  | .msiWrite _ _ _ _ => true
  | .debugHaltRequest _ => true
  | .rdS h => okHdr h
  | .rdU h => okHdr h
  | .upg h => okHdr h
  | .rdNc h => okHdr h
  | .wrNc h _ => okHdr h
  | .atomNc h op size off => okHdr h && okAmo op size && decide (off + size ≤ 64)
  | .wb h => okHdr h
  | .wbKeep h => okHdr h
  | .cboClean h => okHdr h
  | .cboFlush h => okHdr h
  | .cboInval h => okHdr h
  | .cboZero h => okHdr h
  | .lockFill h => okHdr h
  | .snpFwdS h => okHdr h
  | .snpFwdU h => okHdr h
  | .snpInv h => okHdr h
  | .snpClean h => okHdr h
  | .snpFlush h => okHdr h
  | .snpDrop h => okHdr h
  | .rspInvAck h => okHdr h
  | .rspFwdDone h => okHdr h
  | .rspCleanDone h => okHdr h
  | .rspNotheld h => okHdr h
  | .wbCancel h => okHdr h
  | .compAck h => okHdr h
  | .goU h => okHdr h
  | .goDone h => okHdr h
  | .wbPull h => okHdr h
  | .wbStale h => okHdr h
  | .wrPull h => okHdr h
  | .err h => okHdr h
  | .dataS h _ => okHdr h
  | .dataF h _ => okHdr h
  | .dataE h _ => okHdr h
  | .dataM h _ => okHdr h
  | .snpData h _ => okHdr h
  | .wbData h _ => okHdr h
  | .ncRdata h _ => okHdr h
  | .ncWdata h _ _ => okHdr h
  | .mgmt m => okMgmt m
  | .domainDown _ => true
  | .unknownMessageDiscard dst _ _ _ => decide (dst < 64)
  | .bayFillInstall _ _ => true
  | .snoopTimeout home _ => decide (home < 20)
  | .fatalEvent _ _ _ => true
  | .tenonFlitReceived _ _ => true
  | .tenonParityError _ _ _ _ _ => true
  | .nak _ _ _ _ _ => true
  | .nakResendTimeout _ _ => true
  | .credit _ _ _ _ _ _ _ => true
  | .steerReq _ _ _ _ _ => true
  | .steerAck _ _ _ _ _ flit => okIndex flit
  | .steerReqResend _ _ => true
  | .retireReq _ _ _ _ => true
  | .retireAck _ _ _ flit => okIndex flit
  | .rotReq _ _ _ => true
  | .rotAck _ _ _ flit => okIndex flit
  | .layoutSwitch _ _ => true
  | .clockLockLoss _ _ _ => true
  | .leakPeriod _ _ => true
  | .rotationPeriod _ _ => true
  | .rotationTestEnd _ _ errs => errs.all (fun e => decide (e.1 < 76))
  | .sidebandCopyFailure _ _ _ => true
  | .park _ => true
  | .wake _ => true
  | .readQueued _ src line => decide (src < 15) && okLine line
  | .writeQueued _ _ line => okLine line
  | .readDataReturn _ idx _ => decide (idx < 96)
  | .writeBurstDone _ idx => decide (idx < 96)
  | .refreshDue _ _ => true
  | .mr4Read _ _ temp => okTemp temp
  | .moduleSensorRead _ _ temps => temps.all okTemp
  | .actSelection _ _ _ row => decide (row < 2 ^ 18)
  | .powerDownEntry _ _ => true
  | .selfRefreshEntry _ _ => true
  | .pageIdleClose _ _ _ => true
  | .driftTrack _ => true
  | .deviceCountLeak _ => true
  | .patrolRead _ _ => true
  | .bayPatrolStep _ _ => true
  | .clearRegion _ region => decide (region < 2 ^ 22)
  | .clearDone _ => true
  | .bandwidthWindow _ => true
  | .channelTrainingDone _ res => res.all (fun e => decide (e.1 < 16) && okTrain e.2)
  | .purlinFlitReceived _ h units fixed => decide (fixed ≤ 8) && okPFlit h && decide (units.length ≤ 16)
  | .purlinFlitError _ => true
  | .purlinNak _ _ => true
  | .fastRetrain _ _ => true
  | .purlinLinkLost _ => true
  | .identityUnit _ u => okIdUnit u
  | .join _ => true
  | .joinDeadline _ => true
  | .timeExchange _ => true
  | .ridgeRead _ pkt => okRPkt pkt
  | .ridgeWrite _ pkt => okRPkt pkt
  | .writePosted _ pkt => okRPkt pkt
  | .ridgeAtomic _ pkt => okRPkt pkt
  | .ridgeFence _ pkt => okRPkt pkt
  | .resp _ pkt => okRPkt pkt
  | .linkAck _ _ _ _ _ _ => true
  | .linkIdent _ role lanes rev _ _ _ => decide (role < 4) && decide (lanes ≤ 16) && decide (rev < 256)
  | .nodeAssign _ _ => true
  | .nodeConfirm _ _ _ => true
  | .ridgeCodewordError _ _ => true
  | .ridgeRequestTimeout _ tag => decide (tag < 2 ^ 12)
  | .ridgeTagQuarantineEnd _ tag => decide (tag < 2 ^ 12)
  | .inboundRequest _ t => okTlp t
  | .intxMessage _ _ _ _ => true
  | .completion _ _ tag _ _ data => decide (tag < 2 ^ 14) && decide (data.length ≤ 4096)
  | .completionTimeout _ _ tag => decide (tag < 2 ^ 14)
  | .pcieTagQuarantineEnd _ _ tag => decide (tag < 2 ^ 14)
  | .dpcTrigger _ _ => true
  | .portLinkEvent _ _ _ => true
  | .cxlLinkDown _ _ => true
  | .linkPowerIdle _ _ _ => true
  | .dtCmdTailWrite _ _ => true
  | .ringSlotFetch _ _ _ pkt => okPkt pkt
  | .dtRplHeadWrite _ _ => true
  | .dtRingCfgWrite _ _ => true
  | .dtNqPop _ size => okSize size
  | .dtWinCommit _ _ => true
  | .barResize _ log2Gib => decide (log2Gib ≤ 19)
  | .recoveryWindowAccess _ t => okTlp t
  | .fundamentalReset _ => true
  | .hotReset _ => true
  | .functionLevelReset _ => true
  | .getInfo t pkt => okInst t && okPkt pkt
  | .getStatus t pkt => okInst t && okPkt pkt
  | .abort t pkt => okInst t && okPkt pkt
  | .echo t pkt => okInst t && okPkt pkt
  | .setMode t pkt => okInst t && okPkt pkt
  | .getMode t pkt => okInst t && okPkt pkt
  | .frameReset t pkt => okInst t && okPkt pkt
  | .studReset t pkt => okInst t && okPkt pkt
  | .setPowerCap t pkt => okInst t && okPkt pkt
  | .getPower t pkt => okInst t && okPkt pkt
  | .setDomainState t pkt => okInst t && okPkt pkt
  | .setPerfPolicy t pkt => okInst t && okPkt pkt
  | .setCooling t pkt => okInst t && okPkt pkt
  | .getThermalModel t pkt => okInst t && okPkt pkt
  | .scrubRange t pkt => okInst t && okPkt pkt
  | .injectError t pkt => okInst t && okPkt pkt
  | .checkerSelftest t pkt => okInst t && okPkt pkt
  | .getErrorLog t pkt => okInst t && okPkt pkt
  | .memTrainSave t pkt => okInst t && okPkt pkt
  | .bayLockRange t pkt => okInst t && okPkt pkt
  | .bayUnlock t pkt => okInst t && okPkt pkt
  | .benchConfig t pkt => okInst t && okPkt pkt
  | .bayFlushRange t pkt => okInst t && okPkt pkt
  | .bayInvalidate t pkt => okInst t && okPkt pkt
  | .scribeFreeze t pkt => okInst t && okPkt pkt
  | .scribeThaw t pkt => okInst t && okPkt pkt
  | .scribeRead t pkt => okInst t && okPkt pkt
  | .scribeClear t pkt => okInst t && okPkt pkt
  | .scribeFlush t pkt => okInst t && okPkt pkt
  | .linkStatus t pkt => okInst t && okPkt pkt
  | .tenonMapReadOne t pkt => okInst t && okPkt pkt
  | .tenonMapReadAll t pkt => okInst t && okPkt pkt
  | .tenonMapClear t pkt => okInst t && okPkt pkt
  | .linkRetrain t pkt => okInst t && okPkt pkt
  | .portPersonality t pkt => okInst t && okPkt pkt
  | .ridgeExportWrite t pkt => okInst t && okPkt pkt
  | .ridgeExportClear t pkt => okInst t && okPkt pkt
  | .ridgeExportRead t pkt => okInst t && okPkt pkt
  | .ridgeExportClearAll t pkt => okInst t && okPkt pkt
  | .fwBegin t pkt => okInst t && okPkt pkt
  | .fwChunk t pkt => okInst t && okPkt pkt
  | .fwCommit t pkt => okInst t && okPkt pkt
  | .fwSessionTimeout => true
  | .attest t pkt => okInst t && okPkt pkt
  | .commandFinalReply t _ fin => okInst t && okEnv fin.env
  | .commandTimeout t _ => okInst t
  | .commandCrcFailure t _ pkt => okInst t && okPkt pkt
  | .badOpcode t _ pkt => okInst t && okPkt pkt
  | .transportLost t => okInst t
  | .entdaa _ => true
  | .setEndpointId _ => true
  | .getEndpointId => true
  | .getEndpointUuid => true
  | .getMctpVersionSupport => true
  | .getMessageTypeSupport => true
  | .getVendorDefinedMessageSupport => true
  | .getVersion t _ => okInst t
  | .getCapabilities t _ => okInst t
  | .negotiateAlgorithms t _ _ _ => okInst t
  | .getDigests t _ => okInst t
  | .getCertificate t _ _ _ _ => okInst t
  | .challenge t _ _ _ => okInst t
  | .getMeasurements t _ _ _ _ => okInst t
  | .spdmUnsupportedRequest t _ _ => okInst t
  | .selWrite _ _ _ _ => true
  | .nqPop _ _ => true
  | .nqPopTimeout _ => true
  | .nqLevelWrite _ _ => true
  | .cmdqCmdTailWrite _ _ _ => true
  | .cmdqRplHeadWrite _ _ _ => true
  | .cmdqCfgWrite _ _ _ => true
  | .bayCtlWrite _ _ _ => true
  | .tenonThreshWrite _ _ _ => true
  | .upmuCtlWrite _ _ _ _ => true
  | .upmuCntWrite _ _ _ _ => true
  | .upmuCounterWrap inst _ => decide (inst < 60)
  | .cbqriOperation _ _ _ => true
  | .registerWrite tgt _ => okTarget tgt
  | .vinSample vin iin => decide (vin < 2 ^ 20) && decide (iin < 2 ^ 20)
  | .inputCurrentLimit _ _ measured => decide (measured < 2 ^ 20)
  | .stretchCapRestore => true
  | .pwrfailNAssert => true
  | .pwrfailNRelease => true
  | .throttleNAssert => true
  | .throttleNRelease => true
  | .controlPeriod power => okPowers power
  | .studRaiseStep _ power => okPowers power
  | .coolStep => true
  | .coolantSample src _ val => okTemp val || src == .tach
  | .coolantStale _ => true
  | .coolantFallbackExit => true
  | .thermalRefit _ tau1 tau2 gain coupling residual => [tau1, tau2, gain, coupling, residual].all (fun x => decide (x < 2 ^ 32))
  | .sensorSample _ temps => temps.all okTemp && decide (temps.length ≤ 8)
  | .thermtrip => true
  | .refclkLoss => true
  | .idlePromotionSleep _ => true
  | .idlePromotionDeep _ => true
  | .deepEntryStep _ _ => true
  | .wakeEvent _ => true
  | .arrayRetainEntry _ => true
  | .domainLowWake _ => true
  | .domainLowReturn _ => true
  | .plumbRestart => true
  | .scribeSample _ quantity _ => decide (quantity < 2 ^ 16)
  | .scribeFreezeExpiry => true
  | .scribePeriodicFlush => true
  | .scribeFlushEnd _ => true
  | .repairMapJournalWrite => true
  | .pwrgoodDeassert => true
  | .coldReset env => okEnv env
  | .exitFromOff env => okEnv env
  | .resetNAssert => true
  | .resetNDeassert env => okEnv env
  | .coreReset _ => true
  | .linkUp _ _ l => okLink l
  | .sparePrbsError _ _ _ wire errs => decide (wire.toNat < 76) && decide (errs < 2 ^ 32)
  | .commandSlot _ _ => true
  | .cxlMemResponse _ line _ _ => okLine line
  | .interruptTaken _ => true
  | .instructionFetch _ _ _ => true
  | .debugUart => true
  | .dtBarRegisterWrite _ _ size _ => okSize size
  | .hostConfigWrite _ reg _ => decide (reg < 4096) && decide (reg % 4 = 0)

end Sys2Proof
end

