-- ==== Sys2Proof/Tests/Slice0.lean ====
section
/-! SUPPORT. WellFormed refuses ill-formed commands, values the spec states, and states and operands that meet the
hypotheses of each statement. -/

set_option linter.unusedVariables false
set_option maxRecDepth 100000
set_option synthInstance.maxSize 4000
set_option synthInstance.maxHeartbeats 2000000
set_option Elab.async false

namespace Sys2Proof.Machine

/-- A booted package in mode 0: one frame, every stud, bay, channel and port in use, core 0 running in M-mode. -/
def base : State :=
  { cores := [(0, { run := .run })],
    studs := (List.range 12).map (fun n => (n, { state := 0, cores := 0xFFFFFFFF, pllOn := true })),
    homes := (List.range 12).map (fun n => (n, { Home.init n with stopped := false })),
    tenons := (List.range 12).map (fun n => (n, { st := 2 })),
    chans := (List.range 16).map (fun c => (c, { st := 2, clearDone := true, res := { mods := [{}], passed := true }, rate := 6400 })),
    ports := (List.range 8).map (fun p => (p, { pers := 1, lanes := 1, inReset := false })),
    frames := [(0, { booted := true, trained := true, joinSt := 1, sGib := 1024, topGib := 1025, nCh := 4, perCh := 1073741824, rate := 6400 })],
    plumb := { on := true, dbgOpen := true },
    power := { vin := 48000, vins := [48000] },
    pins := { pwrgood := true, vaux := true, driven := true } }
/-- The base state with an endpoint ID given by the BMC. -/
def mb : State := { base with plumb := { base.plumb with eid := 9 } }
/-- A command packet with a valid CRC. -/
def pk (op : Nat) (l : List Nat) : CmdPkt :=
  let p : CmdPkt := { tag := 5, seq := 77, len := BitVec.ofNat 13 l.length, params := l.map (BitVec.ofNat 8) }
  { p with crc := BitVec.ofNat 16 (crc16 (p.header (BitVec.ofNat 8 op) ++ p.params)) }
/-- A running job of the BMC. -/
def jb (op : Nat) (l : List Nat) : Job := { opcode := op, pkt := pk op l, running := true }
/-- The base state with that job outstanding. -/
def mj (op : Nat) (l : List Nat) : State := { mb with plumb := { mb.plumb with jobs := [jb op l] } }
/-- The base state with frame 0's reply ring enabled and empty. -/
def ringed (s : State) : State := s.setFrame 0 { s.frame 0 with ring := { cfg := 0x4402, rplInF := 0x200000, rplHead := 5, rplTail := 5, ready := true } }
/-- Port 7 as a dovetail function whose reply ring is enabled. -/
def dovet (s : State) : State := s.setPort 7 { pers := 3, inReset := false, dt := { link := 2, bme := true, mse := true, ready := true, rec_ := true, cfg := 0x4402, rplInF := 0x200000 } }
/-- A bundle image of four empty components. -/
def wimg : List Byte := (List.range 4192).map (fun i =>
  if i = 0 then 1 else if i = 5 then 0x10 else if i = 10 then 4
  else if 256 ≤ i ∧ i < 512 ∧ i % 64 = 0 then BitVec.ofNat 8 (i / 64 - 3) else if 256 ≤ i ∧ i < 512 ∧ i % 64 = 5 then 0x10 else 0)

/-! ## WellFormed refuses an ill-formed term of each check -/

theorem test_wf_size : (Instr.load 0 0 3 (.x 5) false .no .none).wf = false := by decide
theorem test_wf_dest : (Instr.load 0 0 8 (.v 1 300 true) false .no .none).wf = false := by decide
theorem test_wf_lr : (Instr.lr 0 0 2 5 false false).wf = false := by decide
theorem test_wf_amo : (Instr.amo 0 0 16 .add 0 0 5 false false).wf = false := by decide
theorem test_wf_header : (Instr.rdS { src := 64 }).wf = false := by decide
theorem test_wf_line : (Instr.cxlMemResponse 0 (2 ^ 50) 0 false).wf = false := by decide
theorem test_wf_atomic : (Instr.atomNc {} .add 8 60).wf = false := by decide
theorem test_wf_snoopTimeout : (Instr.snoopTimeout 20 0).wf = false := by decide
theorem test_wf_index : (Instr.steerAck 0 .up 0 0 0 (2 ^ 48)).wf = false := by decide
theorem test_wf_temperature : (Instr.mr4Read 0 0 40000).wf = false := by decide
theorem test_wf_training : (Instr.channelTrainingDone 0 [(0, { mods := [{}, {}, {}] })]).wf = false := by decide
theorem test_wf_purlinFlit : (Instr.purlinFlitReceived 0 { seq := 1024 } [] 0).wf = false := by decide
theorem test_wf_identity : (Instr.identityUnit 0 { pkg := 8 }).wf = false := by decide
theorem test_wf_mgmt : (Instr.mgmt (.ids 0 8 [])).wf = false := by decide
theorem test_wf_ridge : (Instr.ridgeRead 0 { len := 5000 }).wf = false := by decide
theorem test_wf_tlp : (Instr.inboundRequest 0 { len := 5000 }).wf = false := by decide
theorem test_wf_powers : (Instr.controlPeriod [(30, 0)]).wf = false := by decide
theorem test_wf_env : (Instr.coldReset { straps := 8 }).wf = false := by decide
theorem test_wf_instance : (Instr.getVersion { kind := .ring, inst := 4 } 0x10).wf = false := by decide
theorem test_wf_packet : (Instr.echo {} { len := 3 }).wf = false := by decide
theorem test_wf_target : (Instr.registerWrite (.win .plumb .mch 0x111 .full) 0).wf = false := by decide
theorem test_wf_tlpTag : (Instr.completionTimeout 0 0 (2 ^ 14)).wf = false := by decide
theorem test_wf_barResize : (Instr.barResize 0 20).wf = false := by decide
theorem test_wf_upmu : (Instr.upmuCounterWrap 60 0).wf = false := by decide
theorem test_wf_vin : (Instr.vinSample (2 ^ 20) 0).wf = false := by decide
theorem test_wf_config : (Instr.hostConfigWrite 0 2 0).wf = false := by decide
theorem test_wf_linkUp : (Instr.linkUp 0 0 { width := 17 }).wf = false := by decide
theorem test_wf_good : (Instr.load 0 0 8 (.x 5) false .no .none).wf = true := by decide

/-! ## Values the spec states -/

/-- The check value of the CRC of R319 over the digits 1 to 9. -/
theorem test_crc16 : crc16 ((List.range 9).map (fun i => BitVec.ofNat 8 (0x31 + i))) = 0x29B1 := by decide +kernel
/-- Points of R387, and one between two, rounded up to 5 mV. -/
theorem test_voltOf : (voltOf 800, voltOf 2600, voltOf 3600, voltOf 2700) = (550, 800, 1050, 820) := by decide +kernel
/-- The converter's ratio at the nominal 48 V, and below 9 V (R361). -/
theorem test_ratio : (ratioFor 8 48000, ratioFor 8 8999) = (8, 1) := by decide +kernel
/-- The identification CSRs (R53). -/
theorem test_misa : (Csr.resetValue 0x301, Csr.resetValue 0xF12, Csr.resetValue 0xF13, Csr.resetValue 0xF11) =
    (0x80000000003411AF, 0x8000000000000A84, 0x100, 0) := by decide +kernel
/-- P_avail at 40 V: 0.89 x 22 A x 40 V (R363). -/
theorem test_avail : ({ vins := [40000] } : Power).avail = 783200 := by decide +kernel
/-- The LFSR seed of bay 3 (R132). -/
theorem test_lfsr : (Home.init 3).lfsr = 0x4444 := by decide +kernel

/-! ## Each invariant is met by a state that steps -/

theorem witness_MemoryStaysCanonical : ∃ s t : State, Memory.wf s.mem = true ∧ step s = .next t :=
  ⟨{ base with mem := [(7, 1)] }, { base with mem := [(7, 1)] }, by decide +kernel, rfl⟩
theorem witness_TenonThreshStaysInRange : ∃ s t : State, s.threshOk ∧ step s = .next t :=
  ⟨base, base, by decide +kernel, rfl⟩
theorem witness_QueuesAndLogStayBounded : ∃ s t : State, s.bounded ∧ step s = .next t :=
  ⟨base, base, by decide +kernel, rfl⟩
theorem witness_StepRunsTheFrontCommand : ∃ s : State, s.pending = [] := ⟨base, rfl⟩
theorem witness_OnlyVinSamplesStop :
    ∃ (c : Instr) (s : State), ∀ v i, c = .vinSample v i → v ≤ 66000 ∧ (s.live = true → 4500 < v) :=
  ⟨.vinSample 4501 0, base, by intro v i h; injection h with h; omega⟩
/-- A full queue, and a full queue whose marker of priority 3 counts one. -/
def fullQueue (m : Map (Nat × Nat)) : NQueue := { held := (List.range 252).map (fun i => (i, notice 1 3 0 0 0)), markers := m, no := 253 }
theorem witness_NoticeQueueOrder :
    (∃ q : NQueue, q.held.length ≤ 252) ∧
    (∃ q : NQueue, q.held.Pairwise (fun a b => a.1 < b.1) ∧ ∀ x ∈ q.held, x.1 < q.no) ∧
    (∃ (q : NQueue) (n : Word), q.stalled = [] ∧ 252 ≤ q.held.length ∧ Tab.find q.markers (noticePrio n) = none) ∧
    (∃ (q : NQueue) (n : Word) (a k : Nat), q.stalled = [] ∧ 252 ≤ q.held.length ∧ Tab.find q.markers (noticePrio n) = some (a, k)) ∧
    (∃ (q r : NQueue) (w : Word), q.held.Pairwise (fun a b => a.1 < b.1) ∧ q.take = some (w, r)) :=
  ⟨⟨{}, by decide⟩, ⟨{ held := [(0, 5), (1, 6)], no := 2 }, by decide +kernel⟩, ⟨fullQueue [], notice 1 3 0 0 0, by decide +kernel⟩,
    ⟨fullQueue [(3, (252, 1))], notice 1 3 0 0 0, 252, 1, by decide +kernel⟩,
    ⟨{ held := [(0, 5), (1, 6)], no := 2 }, { held := [(1, 6)], no := 2 }, 5, by decide +kernel⟩⟩

/-- States and operands that meet the hypotheses of HartLoadsStoresAndDrainsOfDram. -/
theorem witness_HartLoadsStoresAndDrainsOfDram :
    (∃ (s : State) (c : CoreId) (va : Word) (size : Nat) (dest : Dest) (sext : Bool) (e : L2Line),
      (s.core c).quiet ∧
      (s.core c).destLegal dest = 0 ∧
      s.inDram c va.toNat size ∧
      (s.core c).pipe.find2 (va.toNat / 64) = some e ∧
      e.poison = false) ∧
    (∃ (s : State) (c : CoreId) (va : Word) (size : Nat) (dest : Dest) (sext : Bool) (e : L2Line),
      (s.core c).quiet ∧
      (s.core c).destLegal dest = 0 ∧
      s.inDram c va.toNat size ∧
      (s.core c).pipe.find2 (va.toNat / 64) = some e ∧
      e.poison = true ∧
      (∀ vd elem, dest = .v vd elem true → elem = 0)) ∧
    (∃ (s : State) (c : CoreId) (va : Word) (size : Nat) (vd : Fin 32) (elem : Nat) (sext : Bool) (e : L2Line),
      (s.core c).quiet ∧
      (s.core c).destLegal (.v vd elem true) = 0 ∧
      s.inDram c va.toNat size ∧
      (s.core c).pipe.find2 (va.toNat / 64) = some e ∧
      e.poison = true ∧
      elem ≠ 0) ∧
    (∃ (s : State) (c : CoreId) (va : Word) (size : Nat) (dest : Dest) (sext : Bool) (u : Upset) (e : L2Line),
      (s.core c).quiet ∧
      (s.core c).destLegal dest = 0 ∧
      s.inDram c va.toNat size ∧
      (s.core c).pipe.find2 (va.toNat / 64) = some e ∧
      e.poison = false ∧
      u ≠ .none) ∧
    (∃ (s : State) (c : CoreId) (va : Word) (size : Nat) (val : BitVec 128) (dest : Dest) (sext : Bool) (h : HypKind) (u : Upset) (i : Instr),
      (s.core c).run = .run ∧
      (s.core c).regs.virt = true ∧
      (s.core c).regs.priv < 3 ∧
      (s.core c).pipe.settled = true ∧
      (s.core c).csrBit Csr.medeleg 22 = false ∧
      h ≠ .no ∧
      i ∈ [.load c va size dest sext h u, .store c va size val true] ∧
      (s.core c).pipe.snpQ = []) ∧
    (∃ (s : State) (c : CoreId) (va : Word) (size : Nat) (dest : Dest) (sext : Bool) (u : Upset),
      (s.core c).run = .run ∧
      (s.core c).regs.priv = 3 ∧
      (s.core c).regs.virt = false ∧
      (s.core c).pipe.settled = true ∧
      (s.core c).destLegal dest = 2 ∧
      (s.core c).pipe.snpQ = []) ∧
    (∃ (s : State) (c : CoreId) (va : Word) (size : Nat) (val : BitVec 128),
      (s.core c).quietQ ∧
      (s.core c).pipe.storeQ.length < 128 ∧
      s.inDram c va.toNat size) ∧
    (∃ (s : State) (c : CoreId) (e : StoreEnt) (r : List StoreEnt) (x : L2Line),
      (s.core c).quietQ ∧
      (s.core c).pipe.storeQ = e :: r ∧
      e.acc.kind = .store ∧
      e.acc.nc = false ∧
      e.acc.split = 0 ∧
      s.inDram c e.acc.pa e.acc.size ∧
      (s.core c).pipe.find2 (e.acc.pa / 64) = some x ∧
      x.st.unique = true) :=
  ⟨⟨{ base with cores := [(0, { run := .run, pipe := { l2 := [(64, [{ line := 64, st := .m, data := 0x1122334455667788 }])] } })] }, 0, 0x1008, 4, .x 5, true, { line := 64, st := .m, data := 0x1122334455667788 }, by decide +kernel⟩,
    ⟨{ base with cores := [(0, { run := .run, pipe := { l2 := [(64, [{  line := 64, st := .m, data := 0x1122334455667788 , poison := true, src := 1 }])] } })] }, 0, 0x1008, 4, .x 5, true, {  line := 64, st := .m, data := 0x1122334455667788 , poison := true, src := 1 }, by decide +kernel, by decide +kernel, by decide +kernel, by decide +kernel, by decide +kernel, by intro _ _ h; simp at h⟩,
    ⟨{ base with cores := [(0, { run := .run, regs := { csr := [(0x300, 0x600)] }, pipe := { l2 := [(64, [{  line := 64, st := .m, data := 0x1122334455667788 , poison := true, src := 1 }])] } })] }, 0, 0x1008, 4, 5, 3, true, {  line := 64, st := .m, data := 0x1122334455667788 , poison := true, src := 1 }, by decide +kernel⟩,
    ⟨{ base with cores := [(0, { run := .run, pipe := { l2 := [(64, [{ line := 64, st := .m, data := 0x1122334455667788 }])] } })] }, 0, 0x1008, 4, .x 5, true, .l1Tag, { line := 64, st := .m, data := 0x1122334455667788 }, by decide +kernel⟩,
    ⟨{ base with cores := [(0, { run := .run, regs := { priv := 1, virt := true } })] }, 0, 0x1008, 4, 7, .x 5, false, .hlv, .none, .load 0 0x1008 4 (.x 5) false .hlv .none, by decide +kernel⟩,
    ⟨base, 0, 0x1008, 4, .f 5, false, .none, by decide +kernel⟩,
    ⟨{ base with cores := [(0, { run := .run, pipe := { l2 := [(64, [{ line := 64, st := .m, data := 0x1122334455667788 }])] } })] }, 0, 0x1008, 4, 77, by decide +kernel⟩,
    ⟨{ base with cores := [(0, { run := .run, pipe := { l2 := [(64, [{ line := 64, st := .m, data := 0x1122334455667788 }])], storeQ := [{ acc := { kind := .store, va := 0x1010, pa := 0x1010, size := 8, data := 9 } }] } })] }, 0, { acc := { kind := .store, va := 0x1010, pa := 0x1010, size := 8, data := 9 } }, [], { line := 64, st := .m, data := 0x1122334455667788 }, by decide +kernel⟩⟩

/-- States and operands that meet the hypotheses of AtomicsAndReservations. -/
theorem witness_AtomicsAndReservations :
    (∃ (s : State) (c : CoreId) (va : Word) (size : Nat) (op : AmoOp) (val cmp : BitVec 128) (rd : Fin 32) (aq rl : Bool) (x : L2Line),
      (s.core c).quiet ∧
      s.inDram c va.toNat size ∧
      va.toNat % 16 + size ≤ 16 ∧
      (s.core c).pipe.find2 (va.toNat / 64) = some x ∧
      x.st.unique = true ∧
      x.poison = false) ∧
    (∃ (s : State) (c : CoreId) (va : Word) (size : Nat) (rd : Fin 32) (aq rl : Bool) (x : L2Line),
      (s.core c).quiet ∧
      s.inDram c va.toNat size ∧
      va.toNat % size = 0 ∧
      (s.core c).pipe.find2 (va.toNat / 64) = some x ∧
      x.st.unique = true ∧
      x.poison = false ∧
      (s.core c).pipe.snpQ = []) ∧
    (∃ (s : State) (c : CoreId) (va : Word) (size : Nat) (val : BitVec 128) (rd : Fin 32) (aq rl : Bool) (x : L2Line),
      (s.core c).quiet ∧
      s.inDram c va.toNat size ∧
      va.toNat % size = 0 ∧
      (s.core c).pipe.find2 (va.toNat / 64) = some x ∧
      x.st.unique = true ∧
      (s.core c).pipe.resv = some (va.toNat / 64) ∧
      (s.core c).pipe.snpQ = []) ∧
    (∃ (s : State) (c : CoreId) (va : Word) (size : Nat) (val : BitVec 128) (rd : Fin 32) (aq rl : Bool),
      (s.core c).quiet ∧
      s.inDram c va.toNat size ∧
      va.toNat % size = 0 ∧
      (s.core c).pipe.resv ≠ some (va.toNat / 64) ∧
      (s.core c).pipe.snpQ = []) :=
  ⟨⟨{ base with cores := [(0, { run := .run, pipe := { l2 := [(64, [{ line := 64, st := .m, data := 0x1122334455667788 }])] } })] }, 0, 0x1000, 4, .add, 3, 0, 5, true, false, { line := 64, st := .m, data := 0x1122334455667788 }, by decide +kernel⟩,
    ⟨{ base with cores := [(0, { run := .run, pipe := { l2 := [(64, [{ line := 64, st := .m, data := 0x1122334455667788 }])] } })] }, 0, 0x1008, 8, 5, true, true, { line := 64, st := .m, data := 0x1122334455667788 }, by decide +kernel⟩,
    ⟨{ base with cores := [(0, { run := .run, pipe := { l2 := [(64, [{ line := 64, st := .m, data := 0x1122334455667788 }])], resv := some 64, hold := some 64 } })] }, 0, 0x1008, 8, 6, 5, false, true, { line := 64, st := .m, data := 0x1122334455667788 }, by decide +kernel⟩,
    ⟨{ base with cores := [(0, { run := .run, pipe := { l2 := [(64, [{ line := 64, st := .m, data := 0x1122334455667788 }])], resv := some 65 } })] }, 0, 0x1008, 8, 6, 5, false, true, by decide +kernel⟩⟩

/-- States and operands that meet the hypotheses of FencesAndWaits. -/
theorem witness_FencesAndWaits :
    (∃ (s : State) (c : CoreId) (pred succ : BitVec 4),
      (s.core c).quietQ ∧
      (∃ e ∈ (s.core c).pipe.storeQ, e.seq < (s.core c).pipe.seq) ∧
      pred.getLsbD 0 = true ∧
      succ ≠ 0) ∧
    (∃ (s : State) (c : CoreId) (pred succ : BitVec 4),
      (s.core c).quiet) ∧
    (∃ (s : State) (c : CoreId) (va : Word) (size : Nat) (dest : Dest) (sext : Bool) (f : Fence),
      ((s.core c).run = .run ∧ (s.core c).regs.priv = 3 ∧ (s.core c).regs.virt = false ∧ (s.core c).csrBit Csr.mstatus 17 = false) ∧
      (s.core c).pipe.fence = [f] ∧
      f.seq < (s.core c).pipe.seq ∧
      f.all = false ∧
      f.succ.getLsbD 1 = true ∧
      (s.core c).pipe.waits = [] ∧
      (s.core c).pipe.slots = [] ∧
      (s.core c).pipe.rob = [] ∧
      s.inDram c va.toNat size) ∧
    (∃ (s : State) (c : CoreId),
      (s.core c).quietQ ∧
      (∃ e ∈ (s.core c).pipe.storeQ, e.seq < (s.core c).pipe.seq)) ∧
    (∃ (s : State) (c : CoreId),
      (s.core c).quiet) ∧
    (∃ (s : State) (c : CoreId),
      (s.core c).run = .run ∧
      (s.core c).pipe.settled = true ∧
      (s.core c).waitLegal = 0 ∧
      (s.core c).wakes (s.coreTime c) = false) ∧
    (∃ (s : State) (c : CoreId),
      (s.core c).run = .run ∧
      (s.core c).pipe.settled = true ∧
      (s.core c).waitLegal = 0 ∧
      (s.core c).wakes (s.coreTime c) = true) ∧
    (∃ (s : State) (c : CoreId),
      (s.core c).run = .run ∧
      (s.core c).pipe.settled = true ∧
      (s.core c).waitLegal = 0 ∧
      (s.core c).pipe.resv.isSome = true ∧
      (s.core c).wakes (s.coreTime c) = false) ∧
    (∃ (s : State) (c : CoreId),
      (s.core c).run = .run ∧
      (s.core c).pipe.settled = true ∧
      (s.core c).waitLegal = 0 ∧
      (s.core c).pipe.resv = none) ∧
    (∃ (s : State) (c : CoreId),
      (s.core c).run = .run ∧
      (s.core c).pipe.settled = true ∧
      (s.core c).pipe.resv.isSome = true ∧
      (s.core c).wakes (s.coreTime c) = false) ∧
    (∃ (s : State) (c : CoreId),
      (s.core c).run = .run ∧
      (s.core c).pipe.settled = true ∧
      (s.core c).pipe.resv = none) ∧
    (∃ (s : State) (c : CoreId),
      (s.core c).waiting = .wrsSto ∧
      (s.core c).run = .idle) :=
  ⟨⟨{ base with cores := [(0, { run := .run, pipe := { seq := 2, storeQ := [{ acc := { kind := .store, va := 0x1010, pa := 0x1010, size := 8, data := 9 } }] } })] }, 0, 1, 1, by decide +kernel⟩,
    ⟨base, 0, 3, 3, by decide +kernel⟩,
    ⟨{ base with cores := [(0, { run := .run, pipe := { seq := 2, storeQ := [{ acc := { kind := .store, va := 0x1010, pa := 0x1010, size := 8, data := 9 } }], fence := [{ seq := 1, pred := 1, succ := 2 }] } })] }, 0, 0x1000, 8, .x 5, false, { seq := 1, pred := 1, succ := 2 }, by decide +kernel⟩,
    ⟨{ base with cores := [(0, { run := .run, pipe := { seq := 2, storeQ := [{ acc := { kind := .store, va := 0x1010, pa := 0x1010, size := 8, data := 9 } }] } })] }, 0, by decide +kernel⟩,
    ⟨base, 0, by decide +kernel⟩,
    ⟨base, 0, by decide +kernel⟩,
    ⟨{ base with cores := [(0, { run := .run, mtimecmp := 0, regs := { csr := [(0x304, 0x80)] } })] }, 0, by decide +kernel⟩,
    ⟨{ base with cores := [(0, { run := .run, pipe := { resv := some 64 } })] }, 0, by decide +kernel⟩,
    ⟨base, 0, by decide +kernel⟩,
    ⟨{ base with cores := [(0, { run := .run, pipe := { resv := some 64 } })] }, 0, by decide +kernel⟩,
    ⟨base, 0, by decide +kernel⟩,
    ⟨{ base with cores := [(0, { run := .idle, waiting := .wrsSto })] }, 0, by decide +kernel⟩⟩

/-- States and operands that meet the hypotheses of CacheBlockOperationsAndHints. -/
theorem witness_CacheBlockOperationsAndHints :
    (∃ (s : State) (c : CoreId) (va : Word) (ag : Nat),
      (s.core c).quiet ∧
      s.inDram c va.toNat 1 ∧
      s.target (s.frameOfCore c) ((va.toNat / 64) * 64) = some (ag, s.ownPkg) ∧
      (s.tenon (c.val / 32)).st ≠ 3) ∧
    (∃ (s : State) (c : CoreId) (va : Word) (ag : Nat),
      (s.core c).quiet ∧
      s.inDram c va.toNat 1 ∧
      s.target (s.frameOfCore c) ((va.toNat / 64) * 64) = some (ag, s.ownPkg) ∧
      (s.tenon (c.val / 32)).st ≠ 3) ∧
    (∃ (s : State) (c : CoreId) (va : Word) (ag : Nat),
      (s.core c).quiet ∧
      s.inDram c va.toNat 1 ∧
      s.target (s.frameOfCore c) ((va.toNat / 64) * 64) = some (ag, s.ownPkg) ∧
      (s.tenon (c.val / 32)).st ≠ 3) ∧
    (∃ (s : State) (c : CoreId) (va : Word) (x : L2Line),
      (s.core c).quiet ∧
      s.inDram c va.toNat 1 ∧
      (s.core c).pipe.find2 (va.toNat / 64) = some x ∧
      x.st.unique = true) ∧
    (∃ (s : State) (c : CoreId) (va : Word) (ag : Nat),
      (s.core c).quiet ∧
      s.inDram c va.toNat 1 ∧
      s.target (s.frameOfCore c) ((va.toNat / 64) * 64) = some (ag, s.ownPkg) ∧
      (s.tenon (c.val / 32)).st ≠ 3 ∧
      (s.core c).pipe.find2 (va.toNat / 64) = none) ∧
    (∃ (s : State) (c : CoreId) (va : Word) (ag : Nat) (kind : PrefKind) (op : MsgOp),
      (s.core c).quiet ∧
      s.inDram c va.toNat 1 ∧
      (s.region (s.frameOfCore c) ((va.toNat / 64) * 64)).isDram = true ∧
      s.target (s.frameOfCore c) ((va.toNat / 64) * 64) = some (ag, s.ownPkg) ∧
      (s.tenon (c.val / 32)).st ≠ 3 ∧
      (s.core c).pipe.find2 (va.toNat / 64) = none ∧
      op = (if kind = .w then .rdU else .rdS)) ∧
    (∃ (s : State) (c : CoreId) (hint : Ntl),
      (s.core c).run = .run) :=
  ⟨⟨{ base with cores := [(0, { run := .run, pipe := { l2 := [(64, [{ line := 64, st := .m, data := 0x1122334455667788 }])] } })] }, 0, 0x1008, 16 + homeBay 0 0 0x1000, by decide +kernel⟩,
    ⟨{ base with cores := [(0, { run := .run, pipe := { l2 := [(64, [{ line := 64, st := .m, data := 0x1122334455667788 }])] } })] }, 0, 0x1008, 16 + homeBay 0 0 0x1000, by decide +kernel⟩,
    ⟨{ base with cores := [(0, { run := .run, pipe := { l2 := [(64, [{ line := 64, st := .m, data := 0x1122334455667788 }])] } })] }, 0, 0x1008, 16 + homeBay 0 0 0x1000, by decide +kernel⟩,
    ⟨{ base with cores := [(0, { run := .run, pipe := { l2 := [(64, [{ line := 64, st := .m, data := 0x1122334455667788 }])] } })] }, 0, 0x1008, { line := 64, st := .m, data := 0x1122334455667788 }, by decide +kernel⟩,
    ⟨base, 0, 0x1008, 16 + homeBay 0 0 0x1000, by decide +kernel⟩,
    ⟨base, 0, 0x1008, 16 + homeBay 0 0 0x1000, .w, .rdU, by decide +kernel⟩,
    ⟨base, 0, .all, by decide +kernel⟩⟩

/-- States and operands that meet the hypotheses of TrapsOfPoisonAndHewnMisses. -/
theorem witness_TrapsOfPoisonAndHewnMisses :
    (∃ (s : State) (c : CoreId) (p : PoisonRec),
      (s.core c).awake = true ∧
      (s.core c).pipe.poison = some p ∧
      (s.core c).regs.trapTarget { cause := 25 } = 3 ∧
      (s.core c).csrBit Csr.mpoisoninfo 0 = false ∧
      p.kind < 4 ∧
      p.src < 7 ∧
      p.pa < 2 ^ 56 ∧
      (∀ e ∈ s.frames, e.2.nq.stalled = []) ∧
      (s.core c).pipe.snpQ = []) ∧
    (∃ (s : State) (c : CoreId) (p : PoisonRec),
      (s.core c).awake = true ∧
      (s.core c).pipe.poison = some p ∧
      (s.core c).regs.trapTarget { cause := 25 } = 1 ∧
      (s.core c).csrBit Csr.spoisoninfo 0 = false ∧
      p.kind < 4 ∧
      p.src < 7 ∧
      p.pa < 2 ^ 56 ∧
      (∀ e ∈ s.frames, e.2.nq.stalled = []) ∧
      (s.core c).pipe.snpQ = []) ∧
    (∃ (s : State) (c : CoreId),
      (s.core c).pipe.poison = none) ∧
    (∃ (s : State) (c : CoreId) (p : PoisonRec),
      (s.core c).awake = true ∧
      (s.core c).pipe.poison = some p ∧
      (s.core c).regs.priv = 3 ∧
      (s.core c).csrBit Csr.mpoisoninfo 0 = true ∧
      (∀ e ∈ s.frames, e.2.nq.stalled = []) ∧
      (s.core c).pipe.snpQ = []) ∧
    (∃ (s : State) (c : CoreId) (w : Wait) (va : Word),
      (s.core c).awake = true ∧
      (s.core c).hewnWait = some (w, va) ∧
      destElem? w.acc.dest = none ∧
      (s.core c).regs.trapTarget { cause := 24 } = 3 ∧
      (s.core c).pipe.snpQ = []) ∧
    (∃ (s : State) (c : CoreId) (w : Wait) (va : Word),
      (s.core c).awake = true ∧
      (s.core c).hewnWait = some (w, va) ∧
      destElem? w.acc.dest = none ∧
      (s.core c).regs.trapTarget { cause := 24 } = 1 ∧
      (s.core c).pipe.snpQ = []) ∧
    (∃ (s : State) (c : CoreId),
      (s.core c).hewnWait = none) :=
  ⟨⟨{ base with cores := [(0, { run := .run, pipe := { poison := some { va := 0x3FA0002040, pa := 0x1234567880, src := 1 } } })] }, 0, { va := 0x3FA0002040, pa := 0x1234567880, src := 1 }, by decide +kernel⟩,
    ⟨{ base with cores := [(0, { run := .run, regs := { priv := 0, pc := 0x400, csr := [(0x302, 0x2000000)] }, pipe := { poison := some { va := 0x3FA0002040, pa := 0x1234567880, src := 1 } } })] }, 0, { va := 0x3FA0002040, pa := 0x1234567880, src := 1 }, by decide +kernel⟩,
    ⟨base, 0, by decide +kernel⟩,
    ⟨{ base with cores := [(0, { run := .run, regs := { csr := [(0x7C2, 0x1001)] }, pipe := { poison := some { va := 0x40, pa := 0x80, src := 1 } } })] }, 0, { va := 0x40, pa := 0x80, src := 1 }, by decide +kernel⟩,
    ⟨{ base with cores := [(0, { run := .run, regs := { priv := 1, csr := [(0x180, 0xE005000000000000), (0x302, 0)] }, pipe := { waits := [{ acc := { kind := .store, va := 0x7000 }, ctx := { priv := 1 }, pc := 0x44 }] } })] }, 0, { acc := { kind := .store, va := 0x7000 }, ctx := { priv := 1 }, pc := 0x44 }, 0x7000, by decide +kernel⟩,
    ⟨{ base with cores := [(0, { run := .run, regs := { priv := 1, csr := [(0x180, 0xE005000000000000), (0x302, 0x1000000)] }, pipe := { waits := [{ acc := { kind := .store, va := 0x7000 }, ctx := { priv := 1 }, pc := 0x44 }] } })] }, 0, { acc := { kind := .store, va := 0x7000 }, ctx := { priv := 1 }, pc := 0x44 }, 0x7000, by decide +kernel⟩,
    ⟨base, 0, by decide +kernel⟩⟩

/-- States and operands that meet the hypotheses of InterruptsHaltsAndFetches. -/
theorem witness_InterruptsHaltsAndFetches :
    (∃ (s : State) (c : CoreId) (i : Nat),
      (s.core c).run = .run ∧
      (s.core c).busyBeyond = false ∧
      s.stalledLoad c = false ∧
      (s.core c).irqToTake (s.coreTime c) = some (i, 3) ∧
      (s.core c).pipe.snpQ = []) ∧
    (∃ (s : State) (c : CoreId),
      (s.core c).irqToTake (s.coreTime c) = none) ∧
    (∃ (s : State) (c : CoreId) (va : Word) (x : L2Line),
      (s.core c).quiet ∧
      (s.core c).regs.priv = 3 ∧
      s.inDram c va.toNat 4 ∧
      (s.core c).pipe.find2 (va.toNat / 64) = some x ∧
      x.poison = false) ∧
    (∃ (s : State) (c : CoreId) (va : Word) (u : Upset) (x : L2Line),
      (s.core c).quiet ∧
      (s.core c).regs.priv = 3 ∧
      s.inDram c va.toNat 4 ∧
      (s.core c).pipe.find2 (va.toNat / 64) = some x ∧
      x.poison = false ∧
      u ≠ .none ∧
      (∀ e ∈ s.frames, e.2.nq.stalled = [])) ∧
    (∃ (s : State) (c : CoreId),
      ((s.core c).run = .sleep ∨ (s.core c).run = .deep ∨ ∃ ap ∈ [AbortPoint.ap1, .ap2, .ap3, .ap4], (s.core c).run = .entering ap)) ∧
    (∃ (s : State) (c : CoreId),
      (s.core c).run ∈ [Run.held, .run, .idle, .stopped]) ∧
    (∃ (s : State),
      4 ≤ (s.frame 0).aplic.sm 3 ∧
      (s.frame 0).aplic.enabled.contains 3 = false) :=
  ⟨⟨{ base with cores := [(0, { run := .run, mtimecmp := 0, regs := { pc := 0x88, csr := [(0x300, 8), (0x304, 0x80)] } })] }, 0, 7, by decide +kernel⟩,
    ⟨base, 0, by decide +kernel⟩,
    ⟨{ base with cores := [(0, { run := .run, pipe := { l2 := [(64, [{ line := 64, st := .m, data := 5 }])] } })] }, 0, 0x1008, { line := 64, st := .m, data := 5 }, by decide +kernel⟩,
    ⟨{ base with cores := [(0, { run := .run, pipe := { l2 := [(64, [{ line := 64, st := .m, data := 5 }])], l1i := [64] } })] }, 0, 0x1008, .l1Data, { line := 64, st := .m, data := 5 }, by decide +kernel⟩,
    ⟨{ base with cores := [(0, { run := .sleep })] }, 0, by decide +kernel⟩,
    ⟨base, 0, by decide +kernel⟩,
    ⟨base.setFrame 0 { base.frame 0 with aplic := { sourcecfg := [(3, 4)] } }, by decide +kernel⟩⟩

/-- States and operands that meet the hypotheses of TranslationFencesInvalidate. -/
theorem witness_TranslationFencesInvalidate :
    (∃ (s : State) (c : CoreId) (va : Option Word) (asid : Option (BitVec 16)),
      (s.core c).quiet) ∧
    (∃ (s : State) (c : CoreId) (va : Option Word) (asid : Option (BitVec 16)),
      (s.core c).quietQ ∧
      (s.core c).pipe.storeQ ≠ []) ∧
    (∃ (s : State) (c : CoreId) (va : Option Word) (asid : Option (BitVec 16)),
      (s.core c).quiet) ∧
    (∃ (s : State) (c : CoreId) (va : Option Word) (asid : Option (BitVec 16)),
      (s.core c).quietQ ∧
      (s.core c).pipe.storeQ ≠ []) ∧
    (∃ (s : State) (c : CoreId) (gpa : Option Word) (vmid : Option (BitVec 14)),
      (s.core c).quiet) ∧
    (∃ (s : State) (c : CoreId) (gpa : Option Word) (vmid : Option (BitVec 14)),
      (s.core c).quietQ ∧
      (s.core c).pipe.storeQ ≠ []) ∧
    (∃ (s : State) (c : CoreId) (va : Option Word) (asid : Option (BitVec 16)),
      (s.core c).quietQ) ∧
    (∃ (s : State) (c : CoreId) (va : Option Word) (asid : Option (BitVec 16)),
      (s.core c).quietQ) ∧
    (∃ (s : State) (c : CoreId) (gpa : Option Word) (vmid : Option (BitVec 14)),
      (s.core c).quietQ) ∧
    (∃ (s : State) (c : CoreId),
      (s.core c).quiet) ∧
    (∃ (s : State) (c : CoreId),
      (s.core c).quietQ ∧
      (s.core c).pipe.storeQ ≠ []) ∧
    (∃ (s : State) (c : CoreId),
      (s.core c).quietQ) :=
  ⟨⟨{ base with cores := [(0, { run := .run, xlat := { dtlb := [(0, { vpn := 1, asid := 3 }), (1, { vpn := 2, asid := 4 }), (2, { kind := .guest, vpn := 1 })], l2tlb := [(12, { vpn := 1, asid := 3 }), (13, { kind := .gstage, vpn := 1 })], walks := [(0, {})], psc := [(0, { vpn := 0, asid := 3 })] } })] }, 0, some 0x1000, some 3, by decide +kernel⟩,
    ⟨{ base with cores := [(0, { run := .run, pipe := { storeQ := [{ acc := { kind := .store, va := 0x1010, pa := 0x1010, size := 8, data := 9 } }] }, xlat := { dtlb := [(0, { vpn := 1, asid := 3 }), (1, { vpn := 2, asid := 4 }), (2, { kind := .guest, vpn := 1 })], l2tlb := [(12, { vpn := 1, asid := 3 }), (13, { kind := .gstage, vpn := 1 })], walks := [(0, {})], psc := [(0, { vpn := 0, asid := 3 })] } })] }, 0, some 0x1000, some 3, by decide +kernel⟩,
    ⟨{ base with cores := [(0, { run := .run, xlat := { dtlb := [(0, { vpn := 1, asid := 3 }), (1, { vpn := 2, asid := 4 }), (2, { kind := .guest, vpn := 1 })], l2tlb := [(12, { vpn := 1, asid := 3 }), (13, { kind := .gstage, vpn := 1 })], walks := [(0, {})], psc := [(0, { vpn := 0, asid := 3 })] } })] }, 0, some 0x1000, none, by decide +kernel⟩,
    ⟨{ base with cores := [(0, { run := .run, pipe := { storeQ := [{ acc := { kind := .store, va := 0x1010, pa := 0x1010, size := 8, data := 9 } }] }, xlat := { dtlb := [(0, { vpn := 1, asid := 3 }), (1, { vpn := 2, asid := 4 }), (2, { kind := .guest, vpn := 1 })], l2tlb := [(12, { vpn := 1, asid := 3 }), (13, { kind := .gstage, vpn := 1 })], walks := [(0, {})], psc := [(0, { vpn := 0, asid := 3 })] } })] }, 0, some 0x1000, none, by decide +kernel⟩,
    ⟨{ base with cores := [(0, { run := .run, xlat := { dtlb := [(0, { vpn := 1, asid := 3 }), (1, { vpn := 2, asid := 4 }), (2, { kind := .guest, vpn := 1 })], l2tlb := [(12, { vpn := 1, asid := 3 }), (13, { kind := .gstage, vpn := 1 })], walks := [(0, {})], psc := [(0, { vpn := 0, asid := 3 })] } })] }, 0, some 0x1000, some 0, by decide +kernel⟩,
    ⟨{ base with cores := [(0, { run := .run, pipe := { storeQ := [{ acc := { kind := .store, va := 0x1010, pa := 0x1010, size := 8, data := 9 } }] }, xlat := { dtlb := [(0, { vpn := 1, asid := 3 }), (1, { vpn := 2, asid := 4 }), (2, { kind := .guest, vpn := 1 })], l2tlb := [(12, { vpn := 1, asid := 3 }), (13, { kind := .gstage, vpn := 1 })], walks := [(0, {})], psc := [(0, { vpn := 0, asid := 3 })] } })] }, 0, some 0x1000, some 0, by decide +kernel⟩,
    ⟨{ base with cores := [(0, { run := .run, pipe := { storeQ := [{ acc := { kind := .store, va := 0x1010, pa := 0x1010, size := 8, data := 9 } }] }, xlat := { dtlb := [(0, { vpn := 1, asid := 3 }), (1, { vpn := 2, asid := 4 }), (2, { kind := .guest, vpn := 1 })], l2tlb := [(12, { vpn := 1, asid := 3 }), (13, { kind := .gstage, vpn := 1 })], walks := [(0, {})], psc := [(0, { vpn := 0, asid := 3 })] } })] }, 0, some 0x1000, some 3, by decide +kernel⟩,
    ⟨{ base with cores := [(0, { run := .run, pipe := { storeQ := [{ acc := { kind := .store, va := 0x1010, pa := 0x1010, size := 8, data := 9 } }] }, xlat := { dtlb := [(0, { vpn := 1, asid := 3 }), (1, { vpn := 2, asid := 4 }), (2, { kind := .guest, vpn := 1 })], l2tlb := [(12, { vpn := 1, asid := 3 }), (13, { kind := .gstage, vpn := 1 })], walks := [(0, {})], psc := [(0, { vpn := 0, asid := 3 })] } })] }, 0, some 0x1000, none, by decide +kernel⟩,
    ⟨{ base with cores := [(0, { run := .run, pipe := { storeQ := [{ acc := { kind := .store, va := 0x1010, pa := 0x1010, size := 8, data := 9 } }] }, xlat := { dtlb := [(0, { vpn := 1, asid := 3 }), (1, { vpn := 2, asid := 4 }), (2, { kind := .guest, vpn := 1 })], l2tlb := [(12, { vpn := 1, asid := 3 }), (13, { kind := .gstage, vpn := 1 })], walks := [(0, {})], psc := [(0, { vpn := 0, asid := 3 })] } })] }, 0, some 0x1000, some 0, by decide +kernel⟩,
    ⟨{ base with cores := [(0, { run := .run, xlat := { dtlb := [(0, { vpn := 1, asid := 3 }), (1, { vpn := 2, asid := 4 }), (2, { kind := .guest, vpn := 1 })], l2tlb := [(12, { vpn := 1, asid := 3 }), (13, { kind := .gstage, vpn := 1 })], walks := [(0, {})], psc := [(0, { vpn := 0, asid := 3 })] } })] }, 0, by decide +kernel⟩,
    ⟨{ base with cores := [(0, { run := .run, pipe := { storeQ := [{ acc := { kind := .store, va := 0x1010, pa := 0x1010, size := 8, data := 9 } }] }, xlat := { dtlb := [(0, { vpn := 1, asid := 3 }), (1, { vpn := 2, asid := 4 }), (2, { kind := .guest, vpn := 1 })], l2tlb := [(12, { vpn := 1, asid := 3 }), (13, { kind := .gstage, vpn := 1 })], walks := [(0, {})], psc := [(0, { vpn := 0, asid := 3 })] } })] }, 0, by decide +kernel⟩,
    ⟨{ base with cores := [(0, { run := .run, pipe := { storeQ := [{ acc := { kind := .store, va := 0x1010, pa := 0x1010, size := 8, data := 9 } }] }, xlat := { dtlb := [(0, { vpn := 1, asid := 3 }), (1, { vpn := 2, asid := 4 }), (2, { kind := .guest, vpn := 1 })], l2tlb := [(12, { vpn := 1, asid := 3 }), (13, { kind := .gstage, vpn := 1 })], walks := [(0, {})], psc := [(0, { vpn := 0, asid := 3 })] } })] }, 0, by decide +kernel⟩⟩

/-- States and operands that meet the hypotheses of VendorCsrWrites. -/
theorem witness_VendorCsrWrites :
    (∃ (s : State) (c : CoreId) (val : Word),
      (s.core c).run = .run ∧
      (s.core c).pipe.settled = true ∧
      (s.core c).regs.priv = 3 ∧
      fld val 63 60 ∈ [0, 8, 9, 10, 14] ∧
      (s.core c).regs.virt = false) ∧
    (∃ (s : State) (c : CoreId) (val : Word),
      (s.core c).run = .run ∧
      (s.core c).pipe.settled = true ∧
      (s.core c).regs.priv = 3 ∧
      (¬ fld val 63 60 ∈ [0, 8, 9, 10, 14]) ∧
      (s.core c).regs.virt = false) ∧
    (∃ (s : State) (c : CoreId) (val : Word),
      (s.core c).run = .run ∧
      (s.core c).pipe.settled = true ∧
      (s.core c).regs.priv = 3 ∧
      fld val 63 60 ∈ [0, 8, 9, 10]) ∧
    (∃ (s : State) (c : CoreId) (val : Word),
      (s.core c).run = .run ∧
      (s.core c).pipe.settled = true ∧
      (s.core c).regs.priv = 3 ∧
      (¬ fld val 63 60 ∈ [0, 8, 9, 10])) ∧
    (∃ (s : State) (c : CoreId) (val : Word),
      (s.core c).run = .run ∧
      (s.core c).pipe.settled = true ∧
      (s.core c).regs.priv = 3 ∧
      fld val 63 60 ∈ [0, 8, 9, 10] ∧
      (s.core c).regs.virt = false) ∧
    (∃ (s : State) (c : CoreId) (val : Word),
      (s.core c).run = .run ∧
      (s.core c).pipe.settled = true ∧
      (s.core c).regs.priv = 3 ∧
      (¬ fld val 63 60 ∈ [0, 8, 9, 10]) ∧
      (s.core c).regs.virt = false) ∧
    (∃ (s : State) (c : CoreId) (reg : EnvReg) (v : BitVec 2),
      (s.core c).run = .run ∧
      (s.core c).pipe.settled = true ∧
      (s.core c).regs.priv = 3) ∧
    (∃ (s : State) (c : CoreId) (val : Word),
      (s.core c).run = .run ∧
      (s.core c).pipe.settled = true ∧
      (s.core c).regs.priv = 3 ∧
      ((s.core c).clk.isSome = true ∨ (s.core c).csrBit Csr.mclksel 1 ≠ val.getLsbD 0)) ∧
    (∃ (s : State) (c : CoreId) (val : Word),
      (s.core c).run = .run ∧
      (s.core c).pipe.settled = true ∧
      (s.core c).regs.priv = 3 ∧
      (s.core c).clk = none ∧
      (s.core c).csrBit Csr.mclksel 1 = val.getLsbD 0) ∧
    (∃ (s : State) (c : CoreId) (pll : Bool),
      (s.core c).clk = some pll ∧
      (pll = true → (s.core c).csrBit Csr.mclksel 3 = true)) ∧
    (∃ (s : State) (c : CoreId),
      (s.core c).clk = none) ∧
    (∃ (s : State) (n : StudId),
      (s.stud n).pllOn = true ∧
      (s.stud n).pllReady = false) ∧
    (∃ (s : State) (c : CoreId) (val : Word),
      (s.core c).run = .run ∧
      (s.core c).pipe.settled = true ∧
      (s.core c).regs.priv = 3 ∧
      1 ≤ fld val 7 4 ∧
      fld val 7 4 ≤ 8) ∧
    (∃ (s : State) (c : CoreId) (val : Word),
      (s.core c).run = .run ∧
      (s.core c).pipe.settled = true ∧
      (s.core c).regs.priv = 3 ∧
      (fld val 7 4 = 0 ∨ 8 < fld val 7 4)) ∧
    (∃ (s : State) (c : CoreId) (lvl : Lvl) (val : Word),
      (s.core c).run = .run ∧
      (s.core c).pipe.settled = true ∧
      (s.core c).regs.priv = 3) ∧
    (∃ (s : State) (c : CoreId) (lvl : Lvl) (val : Word),
      (s.core c).run = .run ∧
      (s.core c).pipe.settled = true ∧
      (s.core c).regs.priv = 3) ∧
    (∃ (s : State) (c : CoreId) (val : Word),
      (s.core c).run = .run ∧
      (s.core c).pipe.settled = true ∧
      (s.core c).regs.priv = 3) ∧
    (∃ (s : State) (c : CoreId) (val : Word),
      (s.core c).run = .run ∧
      (s.core c).pipe.settled = true ∧
      (s.core c).regs.priv < 3 ∧
      (s.core c).regs.virt = false ∧
      (s.core c).csrBit Csr.medeleg 2 = false ∧
      (s.core c).pipe.snpQ = []) :=
  ⟨⟨base, 0, 0x8000000000000123, by decide +kernel⟩,
    ⟨base, 0, 0x5000000000000123, by decide +kernel⟩,
    ⟨base, 0, 0x8000000000000123, by decide +kernel⟩,
    ⟨base, 0, 0x5000000000000123, by decide +kernel⟩,
    ⟨base, 0, 0x8000000000000123, by decide +kernel⟩,
    ⟨base, 0, 0x5000000000000123, by decide +kernel⟩,
    ⟨base, 0, .henvcfg, 2, by decide +kernel⟩,
    ⟨base, 0, 1, by decide +kernel⟩,
    ⟨base, 0, 0x10, by decide +kernel⟩,
    ⟨{ base with cores := [(0, { run := .run, clk := some true, regs := { csr := [(0x7C0, 0x1D)] } })] }, 0, true, by decide +kernel⟩,
    ⟨base, 0, by decide +kernel⟩,
    ⟨base, 0, by decide +kernel⟩,
    ⟨base, 0, 0x52, by decide +kernel⟩,
    ⟨base, 0, 0x92, by decide +kernel⟩,
    ⟨base, 0, .s, 0x52, by decide +kernel⟩,
    ⟨base, 0, .m, 0x52, by decide +kernel⟩,
    ⟨base, 0, 2, by decide +kernel⟩,
    ⟨{ base with cores := [(0, { run := .run, regs := { priv := 1 } })] }, 0, 3, by decide +kernel⟩⟩

/-- States and operands that meet the hypotheses of SoftwareTlbCommands. -/
theorem witness_SoftwareTlbCommands :
    (∃ (s : State) (c : CoreId) (wired : Bool),
      (s.core c).run = .run ∧
      (s.core c).pipe.settled = true ∧
      (s.core c).regs.priv = 3 ∧
      (s.core c).satpMode = 14 ∧
      (s.core c).stlbBad = false ∧
      (s.core c).xlat.l2tlb.any (fun d => d.2.wired && d.2.clash ((s.core c).stlbEntry wired)) = false ∧
      (s.core c).xlat.wiredIn (· == tlbSet ((s.core c).stlbEntry wired).vpn ((s.core c).stlbEntry wired).size) < (if wired then 8 else 12) ∧
      (wired = true → (s.core c).xlat.wiredIn (fun _ => true) < 64)) ∧
    (∃ (s : State) (c : CoreId) (wired : Bool),
      (s.core c).run = .run ∧
      (s.core c).pipe.settled = true ∧
      (s.core c).regs.priv = 3 ∧
      (s.core c).satpMode = 14 ∧
      (s.core c).stlbBad = true) ∧
    (∃ (s : State) (c : CoreId) (wired : Bool),
      (s.core c).run = .run ∧
      (s.core c).pipe.settled = true ∧
      (s.core c).regs.priv = 3 ∧
      (s.core c).satpMode = 14 ∧
      (s.core c).stlbBad = false ∧
      (s.core c).xlat.l2tlb.any (fun d => d.2.wired && d.2.clash ((s.core c).stlbEntry wired)) = true) ∧
    (∃ (s : State) (c : CoreId),
      (s.core c).run = .run ∧
      (s.core c).pipe.settled = true ∧
      (s.core c).regs.priv = 3 ∧
      (s.core c).satpMode = 14 ∧
      (s.core c).stlbBad = false ∧
      (s.core c).xlat.l2tlb.any (fun d => d.2.wired && d.2.clash ((s.core c).stlbEntry true)) = false ∧
      (64 ≤ (s.core c).xlat.wiredIn (fun _ => true) ∨ 8 ≤ (s.core c).xlat.wiredIn (· == tlbSet ((s.core c).stlbEntry true).vpn ((s.core c).stlbEntry true).size))) ∧
    (∃ (s : State) (c : CoreId) (i : Nat) (e : TlbEnt),
      (s.core c).run = .run ∧
      (s.core c).pipe.settled = true ∧
      (s.core c).regs.priv = 3 ∧
      (s.core c).satpMode = 14 ∧
      (s.core c).tagSize ≤ 5 ∧
      (s.core c).stlbFind = some (i, e) ∧
      i < 3072) ∧
    (∃ (s : State) (c : CoreId),
      (s.core c).run = .run ∧
      (s.core c).pipe.settled = true ∧
      (s.core c).regs.priv = 3 ∧
      (s.core c).satpMode = 14 ∧
      5 < (s.core c).tagSize) ∧
    (∃ (s : State) (c : CoreId),
      (s.core c).run = .run ∧
      (s.core c).pipe.settled = true ∧
      (s.core c).regs.priv = 3 ∧
      (s.core c).satpMode = 14 ∧
      (s.core c).tagSize ≤ 5 ∧
      (s.core c).stlbFind = none) ∧
    (∃ (s : State) (c : CoreId) (i : BitVec 12) (e : TlbEnt),
      (s.core c).run = .run ∧
      (s.core c).pipe.settled = true ∧
      (s.core c).regs.priv = 3 ∧
      i.toNat ≤ 3071 ∧
      Tab.find (s.core c).xlat.l2tlb i.toNat = some e ∧
      e.kind = .hewn ∧
      e.asid < 2 ^ 16 ∧
      e.size < 8 ∧
      e.vpn < 2 ^ 45) ∧
    (∃ (s : State) (c : CoreId) (i : BitVec 12),
      (s.core c).run = .run ∧
      (s.core c).pipe.settled = true ∧
      (s.core c).regs.priv = 3 ∧
      i.toNat ≤ 3071 ∧
      (∀ e ∈ (s.core c).xlat.l2tlb, e.2.kind ≠ .hewn)) ∧
    (∃ (s : State) (c : CoreId) (i : BitVec 12),
      (s.core c).run = .run ∧
      (s.core c).pipe.settled = true ∧
      (s.core c).regs.priv = 3 ∧
      3071 < i.toNat) ∧
    (∃ (s : State) (c : CoreId) (wired : Bool),
      (s.core c).run = .run ∧
      (s.core c).pipe.settled = true ∧
      (s.core c).regs.priv = 3 ∧
      (s.core c).satpMode = 14) ∧
    (∃ (s : State) (c : CoreId) (wired : Bool),
      (s.core c).run = .run ∧
      (s.core c).pipe.settled = true ∧
      (s.core c).regs.priv = 3 ∧
      (s.core c).satpMode = 14) ∧
    (∃ (s : State) (c : CoreId) (wired : Bool),
      (s.core c).run = .run ∧
      (s.core c).pipe.settled = true ∧
      (s.core c).regs.priv = 3 ∧
      (s.core c).satpMode = 14) ∧
    (∃ (s : State) (c : CoreId) (wired : Bool) (i : Instr),
      (s.core c).run = .run ∧
      (s.core c).pipe.settled = true ∧
      (s.core c).regs.priv = 3 ∧
      (s.core c).satpMode ≠ 14 ∧
      i ∈ [.stlbcmdWrite c wired, .stlbcmdProbe c, .stlbcmdInvalVa c wired, .stlbcmdInvalAsid c wired, .stlbcmdInvalAll c wired]) :=
  ⟨⟨{ base with cores := [(0, { run := .run, regs := { csr := [(0x180, 0xE005000000000000), (0x5C8, 0x0005000000000005), (0x5C9, 0x24CF)] }, xlat := { l2tlb := [(60, { kind := .hewn, vpn := 5, asid := 5 })], dtlb := [(0, { kind := .hewn, vpn := 5, asid := 5 })] } })] }, 0, false, by decide +kernel⟩,
    ⟨{ base with cores := [(0, { run := .run, regs := { csr := [(0x180, 0xE005000000000000), (0x5C8, 0x0005000000000005), (0x5C9, 0)] }, xlat := { l2tlb := [], dtlb := [(0, { kind := .hewn, vpn := 5, asid := 5 })] } })] }, 0, false, by decide +kernel⟩,
    ⟨{ base with cores := [(0, { run := .run, regs := { csr := [(0x180, 0xE005000000000000), (0x5C8, 0x0005000000000005), (0x5C9, 0x24CF)] }, xlat := { l2tlb := [(60, { kind := .hewn, vpn := 5, asid := 5, wired := true })], dtlb := [(0, { kind := .hewn, vpn := 5, asid := 5 })] } })] }, 0, true, by decide +kernel⟩,
    ⟨{ base with cores := [(0, { run := .run, regs := { csr := [(0x180, 0xE005000000000000), (0x5C8, 0x0005000000000005), (0x5C9, 0x24CF)] }, xlat := { l2tlb := (List.range 64).map (fun i => (i, { kind := .hewn, vpn := 0x1000 + i, wired := true })), dtlb := [(0, { kind := .hewn, vpn := 5, asid := 5 })] } })] }, 0, by decide +kernel⟩,
    ⟨{ base with cores := [(0, { run := .run, regs := { csr := [(0x180, 0xE005000000000000), (0x5C8, 0x0005000000000005), (0x5C9, 0)] }, xlat := { l2tlb := [(60, { kind := .hewn, vpn := 5, asid := 5, wired := true })], dtlb := [(0, { kind := .hewn, vpn := 5, asid := 5 })] } })] }, 0, 60, { kind := .hewn, vpn := 5, asid := 5, wired := true }, by decide +kernel⟩,
    ⟨{ base with cores := [(0, { run := .run, regs := { csr := [(0x180, 0xE005000000000000), (0x5C8, 0xE00000000000), (0x5C9, 0x24CF)] }, xlat := { l2tlb := [], dtlb := [(0, { kind := .hewn, vpn := 5, asid := 5 })] } })] }, 0, by decide +kernel⟩,
    ⟨{ base with cores := [(0, { run := .run, regs := { csr := [(0x180, 0xE005000000000000), (0x5C8, 0x0005000000000005), (0x5C9, 0)] }, xlat := { l2tlb := [], dtlb := [(0, { kind := .hewn, vpn := 5, asid := 5 })] } })] }, 0, by decide +kernel⟩,
    ⟨{ base with cores := [(0, { run := .run, regs := { csr := [(0x180, 0xE005000000000000), (0x5C8, 0x0005000000000005), (0x5C9, 0)] }, xlat := { l2tlb := [(60, { kind := .hewn, vpn := 5, asid := 5, pte := 0x24CF })], dtlb := [(0, { kind := .hewn, vpn := 5, asid := 5 })] } })] }, 0, 60, { kind := .hewn, vpn := 5, asid := 5, pte := 0x24CF }, by decide +kernel⟩,
    ⟨{ base with cores := [(0, { run := .run, xlat := { dtlb := [(0, { vpn := 1, asid := 3 }), (1, { vpn := 2, asid := 4 }), (2, { kind := .guest, vpn := 1 })], l2tlb := [(12, { vpn := 1, asid := 3 }), (13, { kind := .gstage, vpn := 1 })], walks := [(0, {})], psc := [(0, { vpn := 0, asid := 3 })] } })] }, 0, 60, by decide +kernel⟩,
    ⟨{ base with cores := [(0, { run := .run, xlat := { dtlb := [(0, { vpn := 1, asid := 3 }), (1, { vpn := 2, asid := 4 }), (2, { kind := .guest, vpn := 1 })], l2tlb := [(12, { vpn := 1, asid := 3 }), (13, { kind := .gstage, vpn := 1 })], walks := [(0, {})], psc := [(0, { vpn := 0, asid := 3 })] } })] }, 0, 3072, by decide +kernel⟩,
    ⟨{ base with cores := [(0, { run := .run, regs := { csr := [(0x180, 0xE005000000000000), (0x5C8, 0x0005000000000005), (0x5C9, 0)] }, xlat := { l2tlb := [(60, { kind := .hewn, vpn := 5, asid := 5, wired := true }), (61, { kind := .hewn, vpn := 5, asid := 5 })], dtlb := [(0, { kind := .hewn, vpn := 5, asid := 5 })] } })] }, 0, false, by decide +kernel⟩,
    ⟨{ base with cores := [(0, { run := .run, regs := { csr := [(0x180, 0xE005000000000000), (0x5C8, 0x0005000000000005), (0x5C9, 0)] }, xlat := { l2tlb := [(60, { kind := .hewn, vpn := 5, asid := 5, wired := true }), (61, { kind := .hewn, vpn := 5, asid := 5 })], dtlb := [(0, { kind := .hewn, vpn := 5, asid := 5 })] } })] }, 0, false, by decide +kernel⟩,
    ⟨{ base with cores := [(0, { run := .run, regs := { csr := [(0x180, 0xE005000000000000), (0x5C8, 0x0005000000000005), (0x5C9, 0)] }, xlat := { l2tlb := [(60, { kind := .hewn, vpn := 5, asid := 5, wired := true }), (61, { kind := .hewn, vpn := 5, asid := 5 })], dtlb := [(0, { kind := .hewn, vpn := 5, asid := 5 })] } })] }, 0, false, by decide +kernel⟩,
    ⟨{ base with cores := [(0, { run := .run, xlat := { dtlb := [(0, { vpn := 1, asid := 3 }), (1, { vpn := 2, asid := 4 }), (2, { kind := .guest, vpn := 1 })], l2tlb := [(12, { vpn := 1, asid := 3 }), (13, { kind := .gstage, vpn := 1 })], walks := [(0, {})], psc := [(0, { vpn := 0, asid := 3 })] } })] }, 0, false, .stlbcmdProbe 0, by decide +kernel⟩⟩

/-- States and operands that meet the hypotheses of WalksStartAndReadPtes. -/
theorem witness_WalksStartAndReadPtes :
    (∃ (s : State) (c : CoreId) (va : Word) (root : Nat) (w : Wait),
      (s.core c).awake = true ∧
      ((s.core c).regs.priv = 1 ∧ (s.core c).regs.virt = false) ∧
      (s.core c).pipe.waits = [w] ∧
      (w.acc.checkType = .load ∧ w.ctx = { priv := 1 }) ∧
      (s.core c).missVa w = some va ∧
      (s.core c).xlat.shim = true ∧
      (s.core c).xlat.walks = [] ∧
      (s.core c).xlat.psc = [] ∧
      (s.core c).satpMode = 8 ∧
      canonical 8 va = true ∧
      root = fld ((s.core c).csr Csr.satp) 43 0 * 4096 + va.toNat / 2 ^ 30 % 512 * 8 ∧
      (s.region (s.frameOfCore c) root).isDram = true ∧
      (w.head = false ∧ w.walkSrc = .demand) ∧
      (s.core c).headWait ≠ some w ∧
      (s.core c).csrBit Csr.mshimctl 0 = true) ∧
    (∃ (s : State) (c : CoreId) (va : Word) (root : Nat) (w : Wait),
      (s.core c).awake = true ∧
      ((s.core c).regs.priv = 1 ∧ (s.core c).regs.virt = false) ∧
      (s.core c).pipe.waits = [w] ∧
      (w.acc.checkType = .load ∧ w.ctx = { priv := 1 }) ∧
      (s.core c).missVa w = some va ∧
      (s.core c).xlat.shim = true ∧
      (s.core c).xlat.walks = [] ∧
      (s.core c).xlat.psc = [] ∧
      (s.core c).satpMode = 8 ∧
      canonical 8 va = true ∧
      root = fld ((s.core c).csr Csr.satp) 43 0 * 4096 + va.toNat / 2 ^ 30 % 512 * 8 ∧
      (s.region (s.frameOfCore c) root).isDram = true ∧
      (w.head = false ∧ w.walkSrc = .demand) ∧
      (s.core c).headWait = some w) ∧
    (∃ (s : State) (c : CoreId) (va : Word) (root : Nat) (w : Wait),
      (s.core c).awake = true ∧
      ((s.core c).regs.priv = 1 ∧ (s.core c).regs.virt = false) ∧
      (s.core c).pipe.waits = [w] ∧
      (w.acc.checkType = .load ∧ w.ctx = { priv := 1 }) ∧
      (s.core c).missVa w = some va ∧
      (s.core c).xlat.shim = true ∧
      (s.core c).xlat.walks = [] ∧
      (s.core c).xlat.psc = [] ∧
      (s.core c).satpMode = 8 ∧
      canonical 8 va = true ∧
      root = fld ((s.core c).csr Csr.satp) 43 0 * 4096 + va.toNat / 2 ^ 30 % 512 * 8 ∧
      (s.region (s.frameOfCore c) root).isDram = true ∧
      w.head = true ∧
      (s.core c).headWait = some w) ∧
    (∃ (s : State) (c : CoreId) (i : Fin 4) (w : Walk) (x : L2Line) (p : Word) (nxt : Nat),
      (s.core c).awake = true ∧
      Tab.find (s.core c).xlat.walks i = some w ∧
      (w.kind = .std ∧ w.inG = false ∧ w.mode = 8 ∧ w.leaf = none ∧ w.gmode = 0) ∧
      (s.core c).pipe.find2 (w.pa / 64) = some x ∧
      x.poison = false ∧
      (s.core c).pipe.l2bad = [] ∧
      p = BitVec.ofNat 64 (lineBytes x.data (w.pa % 64) 8) ∧
      (s.core c).pteCheck w p = .good ∧
      pteLeaf p = false ∧
      1 ≤ w.level ∧
      nxt = fld p 53 10 * 4096 + w.va.toNat / 2 ^ (12 + 9 * (w.level - 1)) % 512 * 8 ∧
      (s.region (s.frameOfCore c) nxt).isDram = true) ∧
    (∃ (s : State) (c : CoreId) (i : Fin 4) (w : Walk) (x : L2Line) (p : Word),
      (s.core c).awake = true ∧
      Tab.find (s.core c).xlat.walks i = some w ∧
      (w.kind = .std ∧ w.inG = false ∧ w.mode = 8 ∧ w.leaf = none ∧ w.gmode = 0) ∧
      (s.core c).pipe.find2 (w.pa / 64) = some x ∧
      x.poison = false ∧
      (s.core c).pipe.l2bad = [] ∧
      p = BitVec.ofNat 64 (lineBytes x.data (w.pa % 64) 8) ∧
      (s.core c).pteCheck w p = .good ∧
      pteLeaf p = true ∧
      (w.level = 0 ∧ w.acc ≠ .fetch ∧ pteN p = false) ∧
      (s.core c).pipe.waits = [] ∧
      (s.core c).xlat.wiredIn (· == tlbSet (vpnOf w.va) 0) < 12 ∧
      ((s.core c).pipe.slots = [] ∧ (s.core c).pipe.fence = [] ∧ (s.core c).pipe.rob = [])) ∧
    (∃ (s : State) (c : CoreId) (i : Fin 4) (w : Walk) (x : L2Line) (p : Word) (a : Wait),
      (s.core c).awake = true ∧
      Tab.find (s.core c).xlat.walks i = some w ∧
      (w.kind = .std ∧ w.inG = false ∧ w.mode = 8 ∧ w.leaf = none ∧ w.gmode = 0) ∧
      (s.core c).pipe.find2 (w.pa / 64) = some x ∧
      x.poison = false ∧
      (s.core c).pipe.l2bad = [] ∧
      p = BitVec.ofNat 64 (lineBytes x.data (w.pa % 64) 8) ∧
      pteV p = false ∧
      w.src ≠ .head ∧
      (s.core c).pipe.waits = [a] ∧
      ((s.core c).pipe.slots = [] ∧ (s.core c).pipe.fence = [] ∧ (s.core c).pipe.rob = []) ∧
      (s.core c).ownsWalk w a = true ∧
      (misaligned a.acc = none ∧ a.acc.kind.hint = false ∧ a.err = none)) ∧
    (∃ (s : State) (c : CoreId) (i : Fin 4) (w : Walk) (x : L2Line) (p : Word) (a : Wait) (va : Word),
      (s.core c).awake = true ∧
      Tab.find (s.core c).xlat.walks i = some w ∧
      (w.kind = .std ∧ w.inG = false ∧ w.mode = 8 ∧ w.leaf = none ∧ w.gmode = 0) ∧
      (s.core c).pipe.find2 (w.pa / 64) = some x ∧
      x.poison = false ∧
      (s.core c).pipe.l2bad = [] ∧
      p = BitVec.ofNat 64 (lineBytes x.data (w.pa % 64) 8) ∧
      pteV p = false ∧
      w.src = .head ∧
      (s.core c).headWait = some a ∧
      (s.core c).ownsWalk w a = true ∧
      (s.core c).missVa a = some va ∧
      destElem? a.acc.dest = none ∧
      (s.core c).regs.trapTarget { cause := pageFault a.acc.kind.causeType } = 3 ∧
      (s.core c).csrBit Csr.mwalkinfo 0 = false ∧
      (s.core c).pipe.snpQ = [] ∧
      (w.pa % 8 = 0 ∧ w.pa < 2 ^ 56 ∧ w.level < 8)) ∧
    (∃ (s : State) (c : CoreId) (i : Fin 4) (w : Walk) (ag : Nat),
      (s.core c).awake = true ∧
      (s.tenon (c.val / 32)).st ≠ 3 ∧
      Tab.find (s.core c).xlat.walks i = some w ∧
      w.src ≠ .head ∧
      (s.core c).pipe.find2 (w.pa / 64) = none ∧
      (s.core c).pipe.slots = [] ∧
      (s.core c).pipe.l2bad = [] ∧
      (s.region (s.frameOfCore c) (w.pa / 64 * 64)).isDram = true ∧
      s.target (s.frameOfCore c) (w.pa / 64 * 64) = some (ag, s.ownPkg)) ∧
    (∃ (s : State) (c : CoreId) (i : Fin 4) (ecc : Fin 3),
      Tab.find (s.core c).xlat.walks i = none) ∧
    (∃ (s : State) (c : CoreId) (i : Fin 4) (w : Walk),
      (s.core c).awake = true ∧
      Tab.find (s.core c).xlat.walks i = some w ∧
      (∀ e ∈ s.frames, e.2.nq.stalled = [])) :=
  ⟨⟨{ base with cores := [(0, { run := .run, regs := { priv := 1, csr := [(0x180, 0x8000000000000001)] }, xlat := { shim := true }, pipe := { waits := [{ acc := { kind := .load, va := 0x5000, size := 8, dest := .x 7 }, ctx := { priv := 1 }, seq := 2 }], rob := [{ w := { seq := 1 } }] } })] }, 0, 0x5000, 0x1000, { acc := { kind := .load, va := 0x5000, size := 8, dest := .x 7 }, ctx := { priv := 1 }, seq := 2 }, by decide +kernel⟩,
    ⟨{ base with cores := [(0, { run := .run, regs := { priv := 1, csr := [(0x180, 0x8000000000000001)] }, xlat := { shim := true }, pipe := { waits := [{ acc := { kind := .load, va := 0x5000, size := 8, dest := .x 7 }, ctx := { priv := 1 } }] } })] }, 0, 0x5000, 0x1000, { acc := { kind := .load, va := 0x5000, size := 8, dest := .x 7 }, ctx := { priv := 1 } }, by decide +kernel⟩,
    ⟨{ base with cores := [(0, { run := .run, regs := { priv := 1, csr := [(0x180, 0x8000000000000001)] }, xlat := { shim := true }, pipe := { waits := [{ acc := { kind := .load, va := 0x5000, size := 8, dest := .x 7 }, ctx := { priv := 1 }, head := true }] } })] }, 0, 0x5000, 0x1000, { acc := { kind := .load, va := 0x5000, size := 8, dest := .x 7 }, ctx := { priv := 1 }, head := true }, by decide +kernel⟩,
    ⟨{ base with cores := [(0, { run := .run, regs := { priv := 1, csr := [(0x180, 0x8000000000000001)] }, xlat := { shim := true, walks := [(0, { va := 0x5000, ctx := { priv := 1 }, level := 1, pa := 0x1028, src := .demand })] }, pipe := { waits := [{ acc := { kind := .load, va := 0x5000, size := 8, dest := .x 7 }, ctx := { priv := 1 } }], l2 := [(64, [{ line := 64, data := 0x801 <<< 320 }])] } })] }, 0, 0, { va := 0x5000, ctx := { priv := 1 }, level := 1, pa := 0x1028, src := .demand }, { line := 64, data := 0x801 <<< 320 }, 0x801, 0x2028, by decide +kernel⟩,
    ⟨{ base with cores := [(0, { run := .run, regs := { priv := 1, csr := [(0x180, 0x8000000000000001)] }, xlat := { shim := true, walks := [(0, { va := 0x5000, ctx := { priv := 1 }, level := 0, pa := 0x1028, src := .demand })] }, pipe := { waits := [], l2 := [(64, [{ line := 64, data := 0x24CF <<< 320 }])] } })] }, 0, 0, { va := 0x5000, ctx := { priv := 1 }, level := 0, pa := 0x1028, src := .demand }, { line := 64, data := 0x24CF <<< 320 }, 0x24CF, by decide +kernel⟩,
    ⟨{ base with cores := [(0, { run := .run, regs := { priv := 1, csr := [(0x180, 0x8000000000000001)] }, xlat := { shim := true, walks := [(0, { va := 0x5000, ctx := { priv := 1 }, level := 0, pa := 0x1028, src := .demand })] }, pipe := { waits := [{ acc := { kind := .load, va := 0x5000, size := 8, dest := .x 7 }, ctx := { priv := 1 } }], l2 := [(64, [{ line := 64, data := 0 }])] } })] }, 0, 0, { va := 0x5000, ctx := { priv := 1 }, level := 0, pa := 0x1028, src := .demand }, { line := 64, data := 0 }, 0, { acc := { kind := .load, va := 0x5000, size := 8, dest := .x 7 }, ctx := { priv := 1 } }, by decide +kernel⟩,
    ⟨{ base with cores := [(0, { run := .run, regs := { priv := 1, csr := [(0x180, 0x8000000000000001)] }, xlat := { shim := true, walks := [(3, { va := 0x5000, ctx := { priv := 1 }, level := 0, pa := 0x1028, src := .head })] }, pipe := { waits := [{ acc := { kind := .load, va := 0x5000, size := 8, dest := .x 7 }, ctx := { priv := 1 }, head := true }], l2 := [(64, [{ line := 64, data := 0 }])] } })] }, 0, 3, { va := 0x5000, ctx := { priv := 1 }, level := 0, pa := 0x1028, src := .head }, { line := 64, data := 0 }, 0, { acc := { kind := .load, va := 0x5000, size := 8, dest := .x 7 }, ctx := { priv := 1 }, head := true }, 0x5000, by decide +kernel⟩,
    ⟨{ base with cores := [(0, { run := .run, regs := { priv := 1, csr := [(0x180, 0x8000000000000001)] }, xlat := { shim := true, walks := [(0, { va := 0x5000, ctx := { priv := 1 }, level := 1, pa := 0x1028, src := .demand })] } })] }, 0, 0, { va := 0x5000, ctx := { priv := 1 }, level := 1, pa := 0x1028, src := .demand }, 16 + homeBay 0 0 0x1000, by decide +kernel⟩,
    ⟨base, 0, 1, 2, by decide +kernel⟩,
    ⟨{ base with cores := [(0, { run := .run, regs := { priv := 1, csr := [(0x180, 0x8000000000000001)] }, xlat := { shim := true, walks := [(0, { va := 0x5000 })] } })] }, 0, 0, { va := 0x5000 }, by decide +kernel⟩⟩

/-- States and operands that meet the hypotheses of HartCounters. -/
theorem witness_HartCounters :
    (∃ (s : State) (c : CoreId) (idx : Fin 32) (val : Word),
      (s.core c).run = .run ∧
      (s.core c).pipe.settled = true ∧
      (s.core c).regs.priv = 3 ∧
      (idx.val = 0 ∨ (2 ≤ idx.val ∧ idx.val ≤ 10))) ∧
    (∃ (s : State) (c : CoreId) (idx : Fin 32) (val : Word),
      (s.core c).run = .run ∧
      (s.core c).pipe.settled = true ∧
      (s.core c).regs.priv = 3 ∧
      11 ≤ idx.val) ∧
    (∃ (s : State) (c : CoreId) (idx : Fin 32) (val : Word),
      (s.core c).run = .run ∧
      (s.core c).pipe.settled = true ∧
      (s.core c).regs.priv = 3 ∧
      3 ≤ idx.val ∧
      idx.val ≤ 10 ∧
      hartEvent (fld val 15 0) = true) ∧
    (∃ (s : State) (c : CoreId) (idx : Fin 32) (val : Word),
      (s.core c).run = .run ∧
      (s.core c).pipe.settled = true ∧
      (s.core c).regs.priv = 3 ∧
      3 ≤ idx.val ∧
      idx.val ≤ 10 ∧
      hartEvent (fld val 15 0) = false) ∧
    (∃ (s : State) (c : CoreId) (idx : Fin 32) (val : Word),
      (s.core c).run = .run ∧
      (s.core c).pipe.settled = true ∧
      (s.core c).regs.priv = 3 ∧
      11 ≤ idx.val) ∧
    (∃ (s : State) (c : CoreId) (idx : Fin 32) (val : Word) (i : Instr),
      (s.core c).run = .run ∧
      (s.core c).pipe.settled = true ∧
      (s.core c).regs.priv = 3 ∧
      ((idx.val = 1 ∧ i = .hpmCounterWrite c idx val) ∨ (idx.val < 3 ∧ i = .mhpmeventWrite c idx val)) ∧
      (s.core c).pipe.snpQ = []) ∧
    (∃ (s : State) (c : CoreId) (val : Word),
      (s.core c).run = .run ∧
      (s.core c).pipe.settled = true ∧
      (s.core c).regs.priv = 3) ∧
    (∃ (s : State) (c : CoreId) (idx : Fin 32),
      (s.core c).counts idx = true ∧
      3 ≤ idx.val ∧
      (s.core c).csrBit (0x320 + idx) 63 = false) ∧
    (∃ (s : State) (c : CoreId) (idx : Fin 32),
      (s.core c).counts idx = true ∧
      (idx.val < 3 ∨ (s.core c).csrBit (0x320 + idx) 63 = true)) ∧
    (∃ (s : State) (c : CoreId) (idx : Fin 32),
      (s.core c).counts idx = false) :=
  ⟨⟨base, 0, 10, 77, by decide +kernel⟩,
    ⟨base, 0, 11, 77, by decide +kernel⟩,
    ⟨base, 0, 3, 0xFFFFFFFFFFFF0020, by decide +kernel⟩,
    ⟨base, 0, 10, 0xFFFFFFFFFFFF0030, by decide +kernel⟩,
    ⟨base, 0, 31, 0x20, by decide +kernel⟩,
    ⟨base, 0, 1, 5, .hpmCounterWrite 0 1 5, by decide +kernel⟩,
    ⟨base, 0, 0xFFFF, by decide +kernel⟩,
    ⟨{ base with cores := [(0, { run := .run, regs := { csr := [(0x323, 0x20), (0xB03, 5)] } })] }, 0, 3, by decide +kernel⟩,
    ⟨{ base with cores := [(0, { run := .run, regs := { csr := [(0x323, 0x8000000000000020), (0xB03, 5)] } })] }, 0, 3, by decide +kernel⟩,
    ⟨base, 0, 3, by decide +kernel⟩⟩

/-- States and operands that meet the hypotheses of NotchSampler. -/
theorem witness_NotchSampler :
    (∃ (s : State) (c : CoreId) (lvl : Lvl) (val : Word),
      (s.core c).run = .run ∧
      (s.core c).pipe.settled = true ∧
      (s.core c).notchLegal lvl Csr.notchctl = 0 ∧
      fld val 52 48 ≤ 16 ∧
      hartEvent (fld val 31 16) = true) ∧
    (∃ (s : State) (c : CoreId) (lvl : Lvl) (val : Word),
      (s.core c).run = .run ∧
      (s.core c).pipe.settled = true ∧
      (s.core c).notchLegal lvl Csr.notchctl = 0 ∧
      (16 < fld val 52 48 ∨ hartEvent (fld val 31 16) = false)) ∧
    (∃ (s : State) (c : CoreId) (lvl : Lvl) (val : Word),
      (s.core c).run = .run ∧
      (s.core c).pipe.settled = true ∧
      (s.core c).notchLegal lvl Csr.notchbase = 0 ∧
      (s.core c).csrBit Csr.notchctl 0 = false ∧
      fld val 4 0 ≤ 18) ∧
    (∃ (s : State) (c : CoreId) (lvl : Lvl) (val : Word),
      (s.core c).run = .run ∧
      (s.core c).pipe.settled = true ∧
      (s.core c).notchLegal lvl Csr.notchhead = 0) ∧
    (∃ (s : State) (c : CoreId) (lvl : Lvl) (val : Word),
      (s.core c).run = .run ∧
      (s.core c).pipe.settled = true ∧
      (s.core c).notchLegal lvl Csr.notchtail = 0 ∧
      (s.core c).csrBit Csr.notchctl 0 = false) ∧
    (∃ (s : State) (c : CoreId) (lvl : Lvl) (val : Word),
      (s.core c).run = .run ∧
      (s.core c).pipe.settled = true ∧
      (s.core c).notchLegal lvl Csr.notchwm = 0 ∧
      1 ≤ fld val 24 0 ∧
      fld val 24 0 ≤ min (s.core c).notchRecords (2 ^ 24)) ∧
    (∃ (s : State) (c : CoreId) (lvl : Lvl) (val : Word),
      (s.core c).run = .run ∧
      (s.core c).pipe.settled = true ∧
      (s.core c).notchLegal lvl Csr.notchlost = 0) ∧
    (∃ (s : State) (c : CoreId) (lvl : Lvl) (val : Word),
      (s.core c).run = .run ∧
      (s.core c).pipe.settled = true ∧
      (s.core c).notchLegal lvl Csr.notchperiod = 0 ∧
      fld val 31 0 ≠ 0) ∧
    (∃ (s : State) (c : CoreId) (lvl : Lvl) (r : NotchReg) (val : Word),
      (s.core c).run = .run ∧
      (s.core c).pipe.settled = true ∧
      (s.core c).notchLegal lvl (notchNum r) = 0 ∧
      (((s.core c).csrBit Csr.notchctl 0 = true ∧ (r = .base ∨ r = .tail)) ∨ (r = .base ∧ 18 < fld val 4 0) ∨ (r = .period ∧ fld val 31 0 = 0) ∨ (r = .wm ∧ (fld val 24 0 = 0 ∨ min (s.core c).notchRecords (2 ^ 24) < fld val 24 0)))) ∧
    (∃ (s : State) (c : CoreId) (r : NotchReg) (val : Word) (i : Instr),
      (s.core c).run = .run ∧
      (s.core c).pipe.settled = true ∧
      ((s.core c).regs.priv = 1 ∧ (s.core c).regs.virt = false) ∧
      (s.core c).csrBit Csr.mnotchdeleg 0 = false ∧
      (s.core c).csrBit Csr.medeleg 2 = false ∧
      (s.core c).pipe.snpQ = [] ∧
      (i = .notchctlWrite c .s val ∨ i = .notchRegisterWrite c .s r val)) ∧
    (∃ (s : State) (c : CoreId) (val : Word),
      (s.core c).run = .run ∧
      (s.core c).pipe.settled = true ∧
      (s.core c).regs.priv = 3) ∧
    (∃ (s : State) (c : CoreId),
      (s.core c).run = .run ∧
      (s.core c).csrBit Csr.notchctl 0 = true ∧
      (s.core c).notch.tagged = false ∧
      (s.core c).notchInhibited = false) ∧
    (∃ (s : State) (c : CoreId),
      ((s.core c).csrBit Csr.notchctl 0 = false ∨ (s.core c).notch.tagged = true ∨ (s.core c).notchInhibited = true)) ∧
    (∃ (s : State) (c : CoreId) (r : NotchIn) (head tail n line : Nat) (ag : Nat),
      ((s.core c).notch.tagged = true ∧ (s.core c).notch.rec_ = none) ∧
      tail = fld ((s.core c).csr Csr.notchtail) 31 0 ∧
      head = fld ((s.core c).csr Csr.notchhead) 31 0 ∧
      n = (s.core c).notchRecords ∧
      (r.mem = false ∨ fld ((s.core c).csr Csr.notchctl) 47 32 ≤ r.lat.toNat) ∧
      (tail + 2 ^ 32 - head) % 2 ^ 32 ≠ n ∧
      line = fld ((s.core c).csr Csr.notchbase) 55 12 * 64 + tail % n ∧
      s.notchAddrOk c line = true ∧
      (s.core c).pipe.slots = [] ∧
      s.target (s.frameOfCore c) (line * 64) = some (ag, s.ownPkg) ∧
      (s.tenon (c.val / 32)).st ≠ 3) ∧
    (∃ (s : State) (c : CoreId) (r : NotchIn) (head tail n line : Nat),
      ((s.core c).notch.tagged = true ∧ (s.core c).notch.rec_ = none) ∧
      tail = fld ((s.core c).csr Csr.notchtail) 31 0 ∧
      head = fld ((s.core c).csr Csr.notchhead) 31 0 ∧
      n = (s.core c).notchRecords ∧
      (r.mem = false ∨ fld ((s.core c).csr Csr.notchctl) 47 32 ≤ r.lat.toNat) ∧
      (tail + 2 ^ 32 - head) % 2 ^ 32 ≠ n ∧
      line = fld ((s.core c).csr Csr.notchbase) 55 12 * 64 + tail % n ∧
      s.notchAddrOk c line = true ∧
      (s.core c).pipe.takeSlot .notch = none) ∧
    (∃ (s : State) (d : Hdr) (c i : Nat) (x : Slot) (y : Line),
      s.soleSlotOf .wrPull d c i x ∧
      x.kind = .notch ∧
      (s.core c).notch.rec_ = some (y, x.line) ∧
      (s.tenon d.dst).st ≠ 3) ∧
    (∃ (s : State) (d : Hdr) (c i : Nat) (x : Slot) (head tail : Nat),
      s.soleSlotOf .goDone d c i x ∧
      x.kind = .notch ∧
      tail = fld ((s.core c).csr Csr.notchtail) 31 0 ∧
      head = fld ((s.core c).csr Csr.notchhead) 31 0 ∧
      (¬ ((tail + 2 ^ 32 - head) % 2 ^ 32 < fld ((s.core c).csr Csr.notchwm) 24 0 ∧ fld ((s.core c).csr Csr.notchwm) 24 0 ≤ (tail + 1 + 2 ^ 32 - head) % 2 ^ 32) ∨ (s.core c).csrBit Csr.notchctl 9 = true)) ∧
    (∃ (s : State) (d : Hdr) (c i : Nat) (x : Slot) (head tail id : Nat),
      s.soleSlotOf .goDone d c i x ∧
      x.kind = .notch ∧
      tail = fld ((s.core c).csr Csr.notchtail) 31 0 ∧
      head = fld ((s.core c).csr Csr.notchhead) 31 0 ∧
      ((tail + 2 ^ 32 - head) % 2 ^ 32 < fld ((s.core c).csr Csr.notchwm) 24 0 ∧ fld ((s.core c).csr Csr.notchwm) 24 0 ≤ (tail + 1 + 2 ^ 32 - head) % 2 ^ 32) ∧
      (s.core c).csrBit Csr.notchctl 9 = false ∧
      id = fld ((s.core c).csr Csr.notchwm) 42 32) ∧
    (∃ (s : State) (d : Hdr) (c i : Nat) (x : Slot) (id : Nat),
      s.soleSlotOf .err d c i x ∧
      x.kind = .notch ∧
      id = fld ((s.core c).csr Csr.notchwm) 42 32) ∧
    (∃ (s : State) (c : CoreId) (r : NotchIn) (head tail n line : Nat),
      ((s.core c).notch.tagged = true ∧ (s.core c).notch.rec_ = none) ∧
      tail = fld ((s.core c).csr Csr.notchtail) 31 0 ∧
      head = fld ((s.core c).csr Csr.notchhead) 31 0 ∧
      n = (s.core c).notchRecords ∧
      (r.mem = false ∨ fld ((s.core c).csr Csr.notchctl) 47 32 ≤ r.lat.toNat) ∧
      (tail + 2 ^ 32 - head) % 2 ^ 32 = n ∧
      line = 0) ∧
    (∃ (s : State) (c : CoreId) (r : NotchIn) (head tail n line : Nat),
      ((s.core c).notch.tagged = true ∧ (s.core c).notch.rec_ = none) ∧
      tail = fld ((s.core c).csr Csr.notchtail) 31 0 ∧
      head = fld ((s.core c).csr Csr.notchhead) 31 0 ∧
      n = (s.core c).notchRecords ∧
      (r.mem = false ∨ fld ((s.core c).csr Csr.notchctl) 47 32 ≤ r.lat.toNat) ∧
      (tail + 2 ^ 32 - head) % 2 ^ 32 ≠ n ∧
      line = fld ((s.core c).csr Csr.notchbase) 55 12 * 64 + tail % n ∧
      s.notchAddrOk c line = false ∧
      fld ((s.core c).csr Csr.notchwm) 42 32 = 0) ∧
    (∃ (s : State) (c : CoreId) (r : NotchIn) (head tail n line : Nat) (id : Nat),
      ((s.core c).notch.tagged = true ∧ (s.core c).notch.rec_ = none) ∧
      tail = fld ((s.core c).csr Csr.notchtail) 31 0 ∧
      head = fld ((s.core c).csr Csr.notchhead) 31 0 ∧
      n = (s.core c).notchRecords ∧
      (r.mem = false ∨ fld ((s.core c).csr Csr.notchctl) 47 32 ≤ r.lat.toNat) ∧
      (tail + 2 ^ 32 - head) % 2 ^ 32 ≠ n ∧
      line = fld ((s.core c).csr Csr.notchbase) 55 12 * 64 + tail % n ∧
      s.notchAddrOk c line = false ∧
      id = fld ((s.core c).csr Csr.notchwm) 42 32 ∧
      id ≠ 0 ∧
      (s.tenon (c / 32)).st ≠ 3) ∧
    (∃ (s : State) (c : CoreId) (r : NotchIn),
      ((s.core c).notch.tagged = true ∧ (s.core c).notch.rec_ = none) ∧
      r.mem = true ∧
      r.lat.toNat < fld ((s.core c).csr Csr.notchctl) 47 32) ∧
    (∃ (s : State) (c : CoreId) (r : NotchIn),
      ((s.core c).notch.tagged = false ∨ (s.core c).notch.rec_.isSome = true)) :=
  ⟨⟨base, 0, .m, 0x0010000000220001, by decide +kernel⟩,
    ⟨base, 0, .m, 0x0011000000220001, by decide +kernel⟩,
    ⟨base, 0, .m, 0x1012, by decide +kernel⟩,
    ⟨base, 0, .m, 0x100000012, by decide +kernel⟩,
    ⟨base, 0, .m, 0x1012, by decide +kernel⟩,
    ⟨base, 0, .m, 0x500000040, by decide +kernel⟩,
    ⟨base, 0, .m, 0x9, by decide +kernel⟩,
    ⟨base, 0, .m, 0x300000005, by decide +kernel⟩,
    ⟨{ base with cores := [(0, { run := .run, regs := { csr := [(0x7E0, 0x00100001)] } })] }, 0, .m, .tail, 5, by decide +kernel⟩,
    ⟨{ base with cores := [(0, { run := .run, regs := { priv := 1 } })] }, 0, .wm, 5, .notchctlWrite 0 .s 5, by decide +kernel⟩,
    ⟨{ base with cores := [(0, { run := .run, regs := { csr := [(0x7E0, 0x00100001)] } })] }, 0, 3, by decide +kernel⟩,
    ⟨{ base with cores := [(0, { run := .run, regs := { csr := [(0x7E0, 0x00100001)] } })] }, 0, by decide +kernel⟩,
    ⟨base, 0, by decide +kernel⟩,
    ⟨{ base with cores := [(0, { run := .run, notch := { tagged := true }, regs := { csr := [(0x7E0, 0x00100001), (0x7E1, 0x1000), (0x7E2, 3), (0x7E3, 60), (0x7E4, 0x500000040)] } })] }, 0, { pc := 0x40, lat := 9 }, 3, 60, 64, 124, 16 + homeBay 0 0 (124 * 64), by decide +kernel⟩,
    ⟨{ base with cores := [(0, { run := .run, notch := { tagged := true }, pipe := { slots := (List.range 16).map (fun i => (80 + i, { kind := .unc })) }, regs := { csr := [(0x7E0, 0x00100001), (0x7E1, 0x1000), (0x7E2, 3), (0x7E3, 60), (0x7E4, 0x500000040)] } })] }, 0, { pc := 0x40, lat := 9 }, 3, 60, 64, 124, by decide +kernel⟩,
    ⟨{ base with cores := [(0, { run := .run, notch := { tagged := true, rec_ := some (77, 124) }, regs := { csr := [(0x7E0, 0x00100001), (0x7E1, 0x1000), (0x7E2, 3), (0x7E3, 60), (0x7E4, 0x500000040)] }, pipe := { slots := [(80, { kind := .notch, line := 124, op := .wrNc, mask := BitVec.allOnes 64, dst := 19 })] } })] }, { src := 19, dst := 0, line := 124, tag := 80, htx := 2 }, 0, 80, { kind := .notch, line := 124, op := .wrNc, mask := BitVec.allOnes 64, dst := 19 }, 77, by decide +kernel⟩,
    ⟨{ base with cores := [(0, { run := .run, notch := { tagged := true, rec_ := some (77, 124) }, regs := { csr := [(0x7E0, 0x00100001), (0x7E1, 0x1000), (0x7E2, 3), (0x7E3, 60), (0x7E4, 0x500000040)] }, pipe := { slots := [(80, { kind := .notch, line := 124, op := .wrNc, mask := BitVec.allOnes 64, dst := 19 })] } })] }, { src := 19, dst := 0, line := 124, tag := 80, htx := 2 }, 0, 80, { kind := .notch, line := 124, op := .wrNc, mask := BitVec.allOnes 64, dst := 19 }, 3, 60, by decide +kernel⟩,
    ⟨{ base with cores := [(0, { run := .run, notch := { tagged := true, rec_ := some (77, 124) }, regs := { csr := [(0x7E0, 0x00100001), (0x7E1, 0x1000), (0x7E2, 2), (0x7E3, 65), (0x7E4, 0x500000040)] }, pipe := { slots := [(80, { kind := .notch, line := 124, op := .wrNc, mask := BitVec.allOnes 64, dst := 19 })] } })] }, { src := 19, dst := 0, line := 124, tag := 80, htx := 2 }, 0, 80, { kind := .notch, line := 124, op := .wrNc, mask := BitVec.allOnes 64, dst := 19 }, 2, 65, 5, by decide +kernel⟩,
    ⟨{ base with cores := [(0, { run := .run, notch := { tagged := true, rec_ := some (77, 124) }, regs := { csr := [(0x7E0, 0x00100001), (0x7E1, 0x1000), (0x7E2, 3), (0x7E3, 60), (0x7E4, 0x500000040)] }, pipe := { slots := [(80, { kind := .notch, line := 124, op := .wrNc, mask := BitVec.allOnes 64, dst := 19 })] } })] }, { src := 19, dst := 0, line := 124, tag := 80, htx := 2 }, 0, 80, { kind := .notch, line := 124, op := .wrNc, mask := BitVec.allOnes 64, dst := 19 }, 5, by decide +kernel⟩,
    ⟨{ base with cores := [(0, { run := .run, notch := { tagged := true }, regs := { csr := [(0x7E0, 0x00100001), (0x7E1, 0x1000), (0x7E2, 3), (0x7E3, 67), (0x7E4, 0x500000040)] } })] }, 0, { pc := 0x40, lat := 9 }, 3, 67, 64, 0, by decide +kernel⟩,
    ⟨{ base with cores := [(0, { run := .run, notch := { tagged := true }, regs := { csr := [(0x7E0, 0x00100001), (0x7E1, 0xFFFFFFFFFF000), (0x7E2, 3), (0x7E3, 5)] } })] }, 0, { pc := 0x40, lat := 9 }, 3, 5, 64, 0xFFFFFFFFFF000 / 64 + 5, by decide +kernel⟩,
    ⟨{ base with cores := [(0, { run := .run, notch := { tagged := true }, regs := { csr := [(0x7E0, 0x00100001), (0x7E1, 0xFFFFFFFFFF000), (0x7E2, 3), (0x7E3, 5), (0x7E4, 0x500000040)] } })] }, 0, { pc := 0x40, lat := 9 }, 3, 5, 64, 0xFFFFFFFFFF000 / 64 + 5, 5, by decide +kernel⟩,
    ⟨{ base with cores := [(0, { run := .run, notch := { tagged := true }, regs := { csr := [(0x7E0, 0xA00100001)] } })] }, 0, { mem := true, lat := 9 }, by decide +kernel⟩,
    ⟨base, 0, {}, by decide +kernel⟩⟩

/-- States and operands that meet the hypotheses of TimersAndInterruptFiles. -/
theorem witness_TimersAndInterruptFiles :
    (∃ (s : State),
      (s.refLost = false ∧ s.off = false ∧ s.pins.pwrgood = true) ∧
      s.idleRings ∧
      (s.mtime + 1).toNat % 1000 ≠ 0) ∧
    (∃ (s : State),
      (s.refLost = false ∧ s.off = false ∧ s.pins.pwrgood = true) ∧
      s.idleRings ∧
      (s.mtime + 1).toNat % 1000 = 0) ∧
    (∃ (s : State),
      (s.refLost = true ∨ s.off = true ∨ s.pins.pwrgood = false)) ∧
    (∃ (s : State) (f : FrameId) (val : Word),
      f.val < frameCount s.mode ∧
      joinedMode s.mode = false) ∧
    (∃ (s : State) (f : FrameId) (h : BitVec 9) (val : Word) (i : Instr),
      frameCount s.mode ≤ f.val ∧
      (i = .mtimeWrite f val ∨ i = .mtimecmpWrite f h val)) ∧
    (∃ (s : State) (f : FrameId) (val : Word),
      joinedMode s.mode = true) ∧
    (∃ (s : State) (f : FrameId) (h : BitVec 9) (val : Word) (c : Nat),
      f.val < frameCount s.mode ∧
      s.coreOfCmp f h.toNat = some c) ∧
    (∃ (s : State) (f : FrameId) (h : BitVec 9) (val : Word),
      f.val < frameCount s.mode ∧
      s.coreOfCmp f h.toNat = none) ∧
    (∃ (s : State) (f : FrameId) (h : BitVec 12) (file : IntFile) (id : BitVec 32) (c : Nat),
      f.val < frameCount s.mode ∧
      s.coreOfHart f h.toNat = some c ∧
      (s.tenon (c / 32)).st ≠ 3 ∧
      1 ≤ id.toNat ∧
      id.toNat ≤ 2047) ∧
    (∃ (s : State) (f : FrameId) (h : BitVec 12) (file : IntFile) (id : BitVec 32) (c : Nat),
      f.val < frameCount s.mode ∧
      s.coreOfHart f h.toNat = some c ∧
      (s.tenon (c / 32)).st ≠ 3 ∧
      (id.toNat = 0 ∨ 2047 < id.toNat)) ∧
    (∃ (s : State) (f : FrameId) (h : BitVec 12) (file : IntFile) (id : BitVec 32) (c : Nat),
      f.val < frameCount s.mode ∧
      s.coreOfHart f h.toNat = some c ∧
      (s.tenon (c / 32)).st = 3) ∧
    (∃ (s : State) (f : FrameId) (h : BitVec 12) (file : IntFile) (id : BitVec 32),
      f.val < frameCount s.mode ∧
      joinedMode s.mode = false ∧
      s.coreOfHart f h.toNat = none) :=
  ⟨⟨base, by decide +kernel⟩,
    ⟨{ base with mtime := 999, frames := [(0, { base.frame 0 with slew := 2 })] }, by decide +kernel⟩,
    ⟨{ base with refLost := true }, by decide +kernel⟩,
    ⟨base, 0, 5, by decide +kernel⟩,
    ⟨base, 1, 0, 5, .mtimeWrite 1 5, by decide +kernel⟩,
    ⟨{ base with plumb := { base.plumb with active := 1 } }, 0, 5, by decide +kernel⟩,
    ⟨base, 0, 5, 99, 5, by decide +kernel⟩,
    ⟨base, 0, 500, 99, by decide +kernel⟩,
    ⟨base, 0, 5, .g 2, 9, 5, by decide +kernel⟩,
    ⟨base, 0, 5, .m, 2048, 5, by decide +kernel⟩,
    ⟨base.setTenon 0 { base.tenon 0 with st := 3 }, 0, 5, .m, 9, 5, by decide +kernel⟩,
    ⟨base, 0, 4000, .m, 9, by decide +kernel⟩⟩

/-- States and operands that meet the hypotheses of HomeGrantsUntrackedLines. -/
theorem witness_HomeGrantsUntrackedLines :
    (∃ (s : State) (d : Hdr) (h line : Nat) (k : Nat),
      s.reachesHome .rdS d h ∧
      s.idleHome h ∧
      s.homeLine h d.line = some line ∧
      s.benchLine h line ∧
      d.reqAgent < 12 ∧
      s.dirFind h line = none ∧
      (s.home h).dirWay h (s.dirSetOf h (line * 64)) = .free k) ∧
    (∃ (s : State) (d : Hdr) (h line : Nat) (k : Nat),
      s.reachesHome .rdU d h ∧
      s.idleHome h ∧
      s.homeLine h d.line = some line ∧
      s.benchLine h line ∧
      d.reqAgent < 12 ∧
      s.dirFind h line = none ∧
      (s.home h).dirWay h (s.dirSetOf h (line * 64)) = .free k) ∧
    (∃ (s : State) (d : Hdr) (h line : Nat) (k : Nat),
      s.reachesHome .upg d h ∧
      s.idleHome h ∧
      s.homeLine h d.line = some line ∧
      s.benchLine h line ∧
      d.reqAgent < 12 ∧
      s.dirFind h line = none ∧
      (s.home h).dirWay h (s.dirSetOf h (line * 64)) = .free k) ∧
    (∃ (s : State) (d : Hdr) (h line : Nat) (k : Nat),
      s.reachesHome .cboZero d h ∧
      s.idleHome h ∧
      s.homeLine h d.line = some line ∧
      s.benchLine h line ∧
      d.reqAgent < 12 ∧
      s.dirFind h line = none ∧
      (s.home h).dirWay h (s.dirSetOf h (line * 64)) = .free k) ∧
    (∃ (s : State) (d : Hdr) (h line : Nat),
      s.reachesHome .rdNc d h ∧
      s.idleHome h ∧
      s.homeLine h d.line = some line ∧
      s.benchLine h line ∧
      (d.reqAgent < 12 ∨ 32 ≤ d.reqAgent) ∧
      s.dirFind h line = none) ∧
    (∃ (s : State) (d : Hdr) (h line : Nat) (k p : Nat) (e : BayLine),
      s.reachesHome .rdS d h ∧
      s.idleHome h ∧
      s.homeLine h d.line = some line ∧
      (h < 12 ∧ isBenchAddr (line * 64) = false) ∧
      d.reqAgent < 12 ∧
      s.dirFind h line = none ∧
      (s.home h).dirWay h (s.dirSetOf h (line * 64)) = .free k ∧
      s.bayFind h line = some (p, e) ∧
      e.bad = 0 ∧
      s.arrayEn h = true) ∧
    (∃ (s : State) (d : Hdr) (h line : Nat) (k : Nat),
      s.reachesHome .rdS d h ∧
      s.idleHome h ∧
      s.homeLine h d.line = some line ∧
      (h < 12 ∧ isBenchAddr (line * 64) = false) ∧
      d.reqAgent < 12 ∧
      s.dirFind h line = none ∧
      (s.home h).dirWay h (s.dirSetOf h (line * 64)) = .free k ∧
      s.bayFind h line = none) ∧
    (∃ (s : State) (d : Hdr) (h line : Nat) (k p : Nat) (e : BayLine),
      s.reachesHome .rdU d h ∧
      s.idleHome h ∧
      s.homeLine h d.line = some line ∧
      (h < 12 ∧ isBenchAddr (line * 64) = false) ∧
      d.reqAgent < 12 ∧
      s.dirFind h line = none ∧
      (s.home h).dirWay h (s.dirSetOf h (line * 64)) = .free k ∧
      s.bayFind h line = some (p, e) ∧
      e.bad = 0 ∧
      s.arrayEn h = true) ∧
    (∃ (s : State) (d : Hdr) (h line : Nat) (k : Nat),
      s.reachesHome .rdU d h ∧
      s.idleHome h ∧
      s.homeLine h d.line = some line ∧
      (h < 12 ∧ isBenchAddr (line * 64) = false) ∧
      d.reqAgent < 12 ∧
      s.dirFind h line = none ∧
      (s.home h).dirWay h (s.dirSetOf h (line * 64)) = .free k ∧
      s.bayFind h line = none) ∧
    (∃ (s : State) (d : Hdr) (h line : Nat) (k p : Nat) (e : BayLine),
      s.reachesHome .upg d h ∧
      s.idleHome h ∧
      s.homeLine h d.line = some line ∧
      (h < 12 ∧ isBenchAddr (line * 64) = false) ∧
      d.reqAgent < 12 ∧
      s.dirFind h line = none ∧
      (s.home h).dirWay h (s.dirSetOf h (line * 64)) = .free k ∧
      s.bayFind h line = some (p, e) ∧
      e.bad = 0 ∧
      s.arrayEn h = true) ∧
    (∃ (s : State) (d : Hdr) (h line : Nat) (k : Nat),
      s.reachesHome .upg d h ∧
      s.idleHome h ∧
      s.homeLine h d.line = some line ∧
      (h < 12 ∧ isBenchAddr (line * 64) = false) ∧
      d.reqAgent < 12 ∧
      s.dirFind h line = none ∧
      (s.home h).dirWay h (s.dirSetOf h (line * 64)) = .free k ∧
      s.bayFind h line = none) ∧
    (∃ (s : State) (d : Hdr) (h line : Nat),
      s.reachesHome .rdNc d h ∧
      s.idleHome h ∧
      s.homeLine h d.line = some line ∧
      (h < 12 ∧ isBenchAddr (line * 64) = false) ∧
      (d.reqAgent < 12 ∨ 32 ≤ d.reqAgent) ∧
      s.dirFind h line = none ∧
      s.bayFind h line = none) ∧
    (∃ (s : State) (d : Hdr) (h line : Nat),
      s.reachesHome .rdS d h ∧
      s.idleHome h ∧
      s.homeLine h d.line = some line ∧
      s.reqErr h line .rdS = true ∧
      (d.reqAgent < 12 ∨ 32 ≤ d.reqAgent)) ∧
    (∃ (s : State) (d : Hdr) (h line : Nat),
      s.reachesHome .rdU d h ∧
      s.idleHome h ∧
      s.homeLine h d.line = some line ∧
      s.reqErr h line .rdU = true ∧
      (d.reqAgent < 12 ∨ 32 ≤ d.reqAgent)) ∧
    (∃ (s : State) (d : Hdr) (h line : Nat),
      s.reachesHome .upg d h ∧
      s.idleHome h ∧
      s.homeLine h d.line = some line ∧
      s.reqErr h line .upg = true ∧
      (d.reqAgent < 12 ∨ 32 ≤ d.reqAgent)) ∧
    (∃ (s : State) (d : Hdr) (h line : Nat),
      s.reachesHome .rdNc d h ∧
      s.idleHome h ∧
      s.homeLine h d.line = some line ∧
      s.reqErr h line .rdNc = true ∧
      (d.reqAgent < 12 ∨ 32 ≤ d.reqAgent)) ∧
    (∃ (s : State) (d : Hdr) (h line : Nat),
      s.reachesHome .cboZero d h ∧
      s.idleHome h ∧
      s.homeLine h d.line = some line ∧
      s.reqErr h line .cboZero = true ∧
      (d.reqAgent < 12 ∨ 32 ≤ d.reqAgent)) :=
  ⟨⟨base.setHome 3 { base.home 3 with bench := 8 }, { src := 0, dst := 19, tag := 5, reqAgent := 0, line := benchBase 3 / 64 }, 3, benchBase 3 / 64, (State.dirSetOf base 3 (benchBase 3)) * 24, by decide +kernel⟩,
    ⟨base.setHome 3 { base.home 3 with bench := 8 }, { src := 0, dst := 19, tag := 5, reqAgent := 0, line := benchBase 3 / 64 }, 3, benchBase 3 / 64, (State.dirSetOf base 3 (benchBase 3)) * 24, by decide +kernel⟩,
    ⟨base.setHome 3 { base.home 3 with bench := 8 }, { src := 0, dst := 19, tag := 5, reqAgent := 0, line := benchBase 3 / 64 }, 3, benchBase 3 / 64, (State.dirSetOf base 3 (benchBase 3)) * 24, by decide +kernel⟩,
    ⟨base.setHome 3 { base.home 3 with bench := 8 }, { src := 0, dst := 19, tag := 5, reqAgent := 0, line := benchBase 3 / 64 }, 3, benchBase 3 / 64, (State.dirSetOf base 3 (benchBase 3)) * 24, by decide +kernel⟩,
    ⟨base.setHome 3 { base.home 3 with bench := 8 }, { src := 0, dst := 19, tag := 5, reqAgent := 0, line := benchBase 3 / 64 }, 3, benchBase 3 / 64, by decide +kernel⟩,
    ⟨base.setHome (homeBay 0 0 0x1000) { base.home (homeBay 0 0 0x1000) with cache := [((State.baySetOf base (homeBay 0 0 0x1000) ((base.homeLine (homeBay 0 0 0x1000) 64).getD 0 * 64)) * 16, { line := (base.homeLine (homeBay 0 0 0x1000) 64).getD 0, data := 77, dirty := true, rcid := 3 })] }, { src := 0, dst := 16 + homeBay 0 0 0x1000, tag := 5, reqAgent := 0, line := 64 }, homeBay 0 0 0x1000, (base.homeLine (homeBay 0 0 0x1000) 64).getD 0, (State.dirSetOf base (homeBay 0 0 0x1000) ((base.homeLine (homeBay 0 0 0x1000) 64).getD 0 * 64)) * 24, (State.baySetOf base (homeBay 0 0 0x1000) ((base.homeLine (homeBay 0 0 0x1000) 64).getD 0 * 64)) * 16, { line := (base.homeLine (homeBay 0 0 0x1000) 64).getD 0, data := 77, dirty := true, rcid := 3 }, by decide +kernel⟩,
    ⟨base, { src := 0, dst := 16 + homeBay 0 0 0x1000, tag := 5, reqAgent := 0, line := 64 }, homeBay 0 0 0x1000, (base.homeLine (homeBay 0 0 0x1000) 64).getD 0, (State.dirSetOf base (homeBay 0 0 0x1000) ((base.homeLine (homeBay 0 0 0x1000) 64).getD 0 * 64)) * 24, by decide +kernel⟩,
    ⟨base.setHome (homeBay 0 0 0x1000) { base.home (homeBay 0 0 0x1000) with cache := [((State.baySetOf base (homeBay 0 0 0x1000) ((base.homeLine (homeBay 0 0 0x1000) 64).getD 0 * 64)) * 16, { line := (base.homeLine (homeBay 0 0 0x1000) 64).getD 0, data := 77, dirty := true, rcid := 3 })] }, { src := 0, dst := 16 + homeBay 0 0 0x1000, tag := 5, reqAgent := 0, line := 64 }, homeBay 0 0 0x1000, (base.homeLine (homeBay 0 0 0x1000) 64).getD 0, (State.dirSetOf base (homeBay 0 0 0x1000) ((base.homeLine (homeBay 0 0 0x1000) 64).getD 0 * 64)) * 24, (State.baySetOf base (homeBay 0 0 0x1000) ((base.homeLine (homeBay 0 0 0x1000) 64).getD 0 * 64)) * 16, { line := (base.homeLine (homeBay 0 0 0x1000) 64).getD 0, data := 77, dirty := true, rcid := 3 }, by decide +kernel⟩,
    ⟨base, { src := 0, dst := 16 + homeBay 0 0 0x1000, tag := 5, reqAgent := 0, line := 64 }, homeBay 0 0 0x1000, (base.homeLine (homeBay 0 0 0x1000) 64).getD 0, (State.dirSetOf base (homeBay 0 0 0x1000) ((base.homeLine (homeBay 0 0 0x1000) 64).getD 0 * 64)) * 24, by decide +kernel⟩,
    ⟨base.setHome (homeBay 0 0 0x1000) { base.home (homeBay 0 0 0x1000) with cache := [((State.baySetOf base (homeBay 0 0 0x1000) ((base.homeLine (homeBay 0 0 0x1000) 64).getD 0 * 64)) * 16, { line := (base.homeLine (homeBay 0 0 0x1000) 64).getD 0, data := 77, dirty := true, rcid := 3 })] }, { src := 0, dst := 16 + homeBay 0 0 0x1000, tag := 5, reqAgent := 0, line := 64 }, homeBay 0 0 0x1000, (base.homeLine (homeBay 0 0 0x1000) 64).getD 0, (State.dirSetOf base (homeBay 0 0 0x1000) ((base.homeLine (homeBay 0 0 0x1000) 64).getD 0 * 64)) * 24, (State.baySetOf base (homeBay 0 0 0x1000) ((base.homeLine (homeBay 0 0 0x1000) 64).getD 0 * 64)) * 16, { line := (base.homeLine (homeBay 0 0 0x1000) 64).getD 0, data := 77, dirty := true, rcid := 3 }, by decide +kernel⟩,
    ⟨base, { src := 0, dst := 16 + homeBay 0 0 0x1000, tag := 5, reqAgent := 0, line := 64 }, homeBay 0 0 0x1000, (base.homeLine (homeBay 0 0 0x1000) 64).getD 0, (State.dirSetOf base (homeBay 0 0 0x1000) ((base.homeLine (homeBay 0 0 0x1000) 64).getD 0 * 64)) * 24, by decide +kernel⟩,
    ⟨base, { src := 0, dst := 16 + homeBay 0 0 0x1000, tag := 5, reqAgent := 0, line := 64 }, homeBay 0 0 0x1000, (base.homeLine (homeBay 0 0 0x1000) 64).getD 0, by decide +kernel⟩,
    ⟨base, { src := 0, dst := 19, tag := 5, reqAgent := 0, line := benchBase 3 / 64 }, 3, benchBase 3 / 64, by decide +kernel⟩,
    ⟨base, { src := 0, dst := 19, tag := 5, reqAgent := 0, line := benchBase 3 / 64 }, 3, benchBase 3 / 64, by decide +kernel⟩,
    ⟨base, { src := 0, dst := 19, tag := 5, reqAgent := 0, line := benchBase 3 / 64 }, 3, benchBase 3 / 64, by decide +kernel⟩,
    ⟨base, { src := 0, dst := 19, tag := 5, reqAgent := 0, line := benchBase 3 / 64 }, 3, benchBase 3 / 64, by decide +kernel⟩,
    ⟨base, { src := 0, dst := 19, tag := 5, reqAgent := 0, line := benchBase 3 / 64 }, 3, benchBase 3 / 64, by decide +kernel⟩⟩

/-- States and operands that meet the hypotheses of HomeSnoopsTrackedLines. -/
theorem witness_HomeSnoopsTrackedLines :
    (∃ (s : State) (d : Hdr) (h line : Nat) (o : Nat) (b : Bool),
      s.reachesHome .rdS d h ∧
      s.idleHome h ∧
      s.homeLine h d.line = some line ∧
      s.reqErr h line .rdS = false ∧
      d.reqAgent < 12 ∧
      o < 12 ∧
      o ≠ d.reqAgent ∧
      s.linked d.dst o = true ∧
      (s.dirFind h line).map (·.2) = some { line := line, st := 1, sv := 2 ^ o, own := o, ownPkg := s.ownPkg, bench := b } ∧
      Tab.get (s.home h).snpCred 0 o < 64) ∧
    (∃ (s : State) (d : Hdr) (h line : Nat) (o : Nat) (b : Bool),
      s.reachesHome .rdU d h ∧
      s.idleHome h ∧
      s.homeLine h d.line = some line ∧
      s.reqErr h line .rdU = false ∧
      d.reqAgent < 12 ∧
      o < 12 ∧
      o ≠ d.reqAgent ∧
      s.linked d.dst o = true ∧
      (s.dirFind h line).map (·.2) = some { line := line, st := 1, sv := 2 ^ o, own := o, ownPkg := s.ownPkg, bench := b } ∧
      Tab.get (s.home h).snpCred 0 o < 64) ∧
    (∃ (s : State) (d : Hdr) (h line : Nat) (b : Bool),
      s.reachesHome .wb d h ∧
      s.idleHome h ∧
      s.homeLine h d.line = some line ∧
      s.homeLine h d.line = some line ∧
      d.reqAgent < 12 ∧
      (s.dirFind h line).map (·.2) = some { line := line, st := 1, sv := 2 ^ d.reqAgent, own := d.reqAgent, ownPkg := s.ownPkg, bench := b }) ∧
    (∃ (s : State) (d : Hdr) (h line : Nat) (o : Nat) (b : Bool),
      s.reachesHome .wb d h ∧
      s.idleHome h ∧
      s.homeLine h d.line = some line ∧
      s.homeLine h d.line = some line ∧
      d.reqAgent < 12 ∧
      o < 12 ∧
      o ≠ d.reqAgent ∧
      (s.dirFind h line).map (·.2) = some { line := line, st := 1, sv := 2 ^ o, own := o, ownPkg := s.ownPkg, bench := b }) ∧
    (∃ (s : State) (d : Hdr) (h line : Nat) (b : Bool),
      s.reachesHome .wbKeep d h ∧
      s.idleHome h ∧
      s.homeLine h d.line = some line ∧
      s.homeLine h d.line = some line ∧
      d.reqAgent < 12 ∧
      (s.dirFind h line).map (·.2) = some { line := line, st := 1, sv := 2 ^ d.reqAgent, own := d.reqAgent, ownPkg := s.ownPkg, bench := b }) ∧
    (∃ (s : State) (d : Hdr) (h line : Nat) (o : Nat) (b : Bool),
      s.reachesHome .wbKeep d h ∧
      s.idleHome h ∧
      s.homeLine h d.line = some line ∧
      s.homeLine h d.line = some line ∧
      d.reqAgent < 12 ∧
      o < 12 ∧
      o ≠ d.reqAgent ∧
      (s.dirFind h line).map (·.2) = some { line := line, st := 1, sv := 2 ^ o, own := o, ownPkg := s.ownPkg, bench := b }) ∧
    (∃ (s : State) (d : Hdr) (h line : Nat),
      s.reachesHome .wrNc d h ∧
      s.idleHome h ∧
      s.homeLine h d.line = some line ∧
      s.benchLine h line ∧
      (d.reqAgent < 12 ∨ 32 ≤ d.reqAgent) ∧
      s.dirFind h line = none) ∧
    (∃ (s : State) (d : Hdr) (h line : Nat),
      s.reachesHome .wrNc d h ∧
      s.idleHome h ∧
      s.homeLine h d.line = some line ∧
      s.benchLine h line ∧
      (d.reqAgent < 12 ∨ 32 ≤ d.reqAgent) ∧
      s.dirFind h line = none ∧
      (s.arrive { op := .wrNc, hdr := d }).2.any (fun m => m.mask == BitVec.allOnes 64) = false) ∧
    (∃ (s : State) (d : Hdr) (h line : Nat) (op : AmoOp) (size off : Nat),
      s.reachesHome .atomNc d h ∧
      s.idleHome h ∧
      s.homeLine h d.line = some line ∧
      s.benchLine h line ∧
      (d.reqAgent < 12 ∨ 32 ≤ d.reqAgent) ∧
      s.dirFind h line = none) :=
  ⟨⟨base.setHome 3 { base.home 3 with bench := 8, dir := [((State.dirSetOf base 3 (benchBase 3)) * 24, { line := benchBase 3 / 64, st := 1, sv := 2 ^ 4, own := 4, bench := true })] }, { src := 0, dst := 19, tag := 5, reqAgent := 0, line := benchBase 3 / 64 }, 3, benchBase 3 / 64, 4, true, by decide +kernel⟩,
    ⟨base.setHome 3 { base.home 3 with bench := 8, dir := [((State.dirSetOf base 3 (benchBase 3)) * 24, { line := benchBase 3 / 64, st := 1, sv := 2 ^ 4, own := 4, bench := true })] }, { src := 0, dst := 19, tag := 5, reqAgent := 0, line := benchBase 3 / 64 }, 3, benchBase 3 / 64, 4, true, by decide +kernel⟩,
    ⟨base.setHome 3 { base.home 3 with bench := 8, dir := [((State.dirSetOf base 3 (benchBase 3)) * 24, { line := benchBase 3 / 64, st := 1, sv := 2 ^ 4, own := 4, bench := true })] }, { src := 4, dst := 19, tag := 5, reqAgent := 4, line := benchBase 3 / 64 }, 3, benchBase 3 / 64, true, by decide +kernel⟩,
    ⟨base.setHome 3 { base.home 3 with bench := 8, dir := [((State.dirSetOf base 3 (benchBase 3)) * 24, { line := benchBase 3 / 64, st := 1, sv := 2 ^ 4, own := 4, bench := true })] }, { src := 0, dst := 19, tag := 5, reqAgent := 0, line := benchBase 3 / 64 }, 3, benchBase 3 / 64, 4, true, by decide +kernel⟩,
    ⟨base.setHome 3 { base.home 3 with bench := 8, dir := [((State.dirSetOf base 3 (benchBase 3)) * 24, { line := benchBase 3 / 64, st := 1, sv := 2 ^ 4, own := 4, bench := true })] }, { src := 4, dst := 19, tag := 5, reqAgent := 4, line := benchBase 3 / 64 }, 3, benchBase 3 / 64, true, by decide +kernel⟩,
    ⟨base.setHome 3 { base.home 3 with bench := 8, dir := [((State.dirSetOf base 3 (benchBase 3)) * 24, { line := benchBase 3 / 64, st := 1, sv := 2 ^ 4, own := 4, bench := true })] }, { src := 0, dst := 19, tag := 5, reqAgent := 0, line := benchBase 3 / 64 }, 3, benchBase 3 / 64, 4, true, by decide +kernel⟩,
    ⟨base.setHome 3 { base.home 3 with bench := 8 }, { src := 0, dst := 19, tag := 5, reqAgent := 0, line := benchBase 3 / 64 }, 3, benchBase 3 / 64, by decide +kernel⟩,
    ⟨base.setHome 3 { base.home 3 with bench := 8 }, { src := 0, dst := 19, tag := 5, reqAgent := 0, line := benchBase 3 / 64 }, 3, benchBase 3 / 64, by decide +kernel⟩,
    ⟨base.setHome 3 { base.home 3 with bench := 8 }, { src := 0, dst := 19, tag := 5, reqAgent := 0, line := benchBase 3 / 64 }, 3, benchBase 3 / 64, .add, 8, 16, by decide +kernel⟩⟩

/-- States and operands that meet the hypotheses of HomeCacheBlockAndLockFill. -/
theorem witness_HomeCacheBlockAndLockFill :
    (∃ (s : State) (d : Hdr) (h line : Nat),
      s.reachesHome .cboClean d h ∧
      s.idleHome h ∧
      s.homeLine h d.line = some line ∧
      s.benchLine h line ∧
      (d.reqAgent < 12 ∨ 32 ≤ d.reqAgent) ∧
      s.dirFind h line = none) ∧
    (∃ (s : State) (d : Hdr) (h line : Nat) (p : Nat) (e : BayLine),
      s.reachesHome .cboClean d h ∧
      s.idleHome h ∧
      s.homeLine h d.line = some line ∧
      (h < 12 ∧ isBenchAddr (line * 64) = false) ∧
      (d.reqAgent < 12 ∨ 32 ≤ d.reqAgent) ∧
      s.dirFind h line = none ∧
      s.bayFind h line = some (p, e) ∧
      e.bad = 0 ∧
      e.dirty = true ∧
      s.arrayEn h = true ∧
      (s.home h).lockedWay p = false ∧
      (s.home h).cache.all (fun y => y.1 == p || y.2.line != line) = true) ∧
    (∃ (s : State) (d : Hdr) (h line : Nat),
      s.reachesHome .cboFlush d h ∧
      s.idleHome h ∧
      s.homeLine h d.line = some line ∧
      s.benchLine h line ∧
      (d.reqAgent < 12 ∨ 32 ≤ d.reqAgent) ∧
      s.dirFind h line = none) ∧
    (∃ (s : State) (d : Hdr) (h line : Nat) (p : Nat) (e : BayLine),
      s.reachesHome .cboFlush d h ∧
      s.idleHome h ∧
      s.homeLine h d.line = some line ∧
      (h < 12 ∧ isBenchAddr (line * 64) = false) ∧
      (d.reqAgent < 12 ∨ 32 ≤ d.reqAgent) ∧
      s.dirFind h line = none ∧
      s.bayFind h line = some (p, e) ∧
      e.bad = 0 ∧
      e.dirty = true ∧
      s.arrayEn h = true ∧
      (s.home h).lockedWay p = false ∧
      (s.home h).cache.all (fun y => y.1 == p || y.2.line != line) = true) ∧
    (∃ (s : State) (d : Hdr) (h line : Nat),
      s.reachesHome .cboInval d h ∧
      s.idleHome h ∧
      s.homeLine h d.line = some line ∧
      s.benchLine h line ∧
      (d.reqAgent < 12 ∨ 32 ≤ d.reqAgent) ∧
      s.dirFind h line = none) ∧
    (∃ (s : State) (d : Hdr) (h line : Nat) (p : Nat) (e : BayLine),
      s.reachesHome .cboInval d h ∧
      s.idleHome h ∧
      s.homeLine h d.line = some line ∧
      (h < 12 ∧ isBenchAddr (line * 64) = false) ∧
      (d.reqAgent < 12 ∨ 32 ≤ d.reqAgent) ∧
      s.dirFind h line = none ∧
      s.bayFind h line = some (p, e) ∧
      e.bad = 0 ∧
      e.dirty = true ∧
      s.arrayEn h = true ∧
      (s.home h).lockedWay p = false ∧
      (s.home h).cache.all (fun y => y.1 == p || y.2.line != line) = true) ∧
    (∃ (s : State) (d : Hdr) (h line : Nat),
      s.reachesHome .lockFill d h ∧
      s.idleHome h ∧
      s.homeLine h d.line = some line ∧
      (h < 12 ∧ isBenchAddr (line * 64) = false) ∧
      s.dirFind h line = none ∧
      s.bayFind h line = none) ∧
    (∃ (s : State) (d : Hdr) (h line : Nat) (p : Nat) (e : BayLine),
      s.reachesHome .lockFill d h ∧
      s.idleHome h ∧
      s.homeLine h d.line = some line ∧
      (h < 12 ∧ isBenchAddr (line * 64) = false) ∧
      s.dirFind h line = none ∧
      s.bayFind h line = some (p, e) ∧
      e.bad = 0 ∧
      s.arrayEn h = true) :=
  ⟨⟨base.setHome 3 { base.home 3 with bench := 8 }, { src := 0, dst := 19, tag := 5, reqAgent := 0, line := benchBase 3 / 64 }, 3, benchBase 3 / 64, by decide +kernel⟩,
    ⟨base.setHome (homeBay 0 0 0x1000) { base.home (homeBay 0 0 0x1000) with cache := [((State.baySetOf base (homeBay 0 0 0x1000) ((base.homeLine (homeBay 0 0 0x1000) 64).getD 0 * 64)) * 16, { line := (base.homeLine (homeBay 0 0 0x1000) 64).getD 0, data := 77, dirty := true, rcid := 3 })] }, { src := 0, dst := 16 + homeBay 0 0 0x1000, tag := 5, reqAgent := 0, line := 64 }, homeBay 0 0 0x1000, (base.homeLine (homeBay 0 0 0x1000) 64).getD 0, (State.baySetOf base (homeBay 0 0 0x1000) ((base.homeLine (homeBay 0 0 0x1000) 64).getD 0 * 64)) * 16, { line := (base.homeLine (homeBay 0 0 0x1000) 64).getD 0, data := 77, dirty := true, rcid := 3 }, by decide +kernel⟩,
    ⟨base.setHome 3 { base.home 3 with bench := 8 }, { src := 0, dst := 19, tag := 5, reqAgent := 0, line := benchBase 3 / 64 }, 3, benchBase 3 / 64, by decide +kernel⟩,
    ⟨base.setHome (homeBay 0 0 0x1000) { base.home (homeBay 0 0 0x1000) with cache := [((State.baySetOf base (homeBay 0 0 0x1000) ((base.homeLine (homeBay 0 0 0x1000) 64).getD 0 * 64)) * 16, { line := (base.homeLine (homeBay 0 0 0x1000) 64).getD 0, data := 77, dirty := true, rcid := 3 })] }, { src := 0, dst := 16 + homeBay 0 0 0x1000, tag := 5, reqAgent := 0, line := 64 }, homeBay 0 0 0x1000, (base.homeLine (homeBay 0 0 0x1000) 64).getD 0, (State.baySetOf base (homeBay 0 0 0x1000) ((base.homeLine (homeBay 0 0 0x1000) 64).getD 0 * 64)) * 16, { line := (base.homeLine (homeBay 0 0 0x1000) 64).getD 0, data := 77, dirty := true, rcid := 3 }, by decide +kernel⟩,
    ⟨base.setHome 3 { base.home 3 with bench := 8 }, { src := 0, dst := 19, tag := 5, reqAgent := 0, line := benchBase 3 / 64 }, 3, benchBase 3 / 64, by decide +kernel⟩,
    ⟨base.setHome (homeBay 0 0 0x1000) { base.home (homeBay 0 0 0x1000) with cache := [((State.baySetOf base (homeBay 0 0 0x1000) ((base.homeLine (homeBay 0 0 0x1000) 64).getD 0 * 64)) * 16, { line := (base.homeLine (homeBay 0 0 0x1000) 64).getD 0, data := 77, dirty := true, rcid := 3 })] }, { src := 0, dst := 16 + homeBay 0 0 0x1000, tag := 5, reqAgent := 0, line := 64 }, homeBay 0 0 0x1000, (base.homeLine (homeBay 0 0 0x1000) 64).getD 0, (State.baySetOf base (homeBay 0 0 0x1000) ((base.homeLine (homeBay 0 0 0x1000) 64).getD 0 * 64)) * 16, { line := (base.homeLine (homeBay 0 0 0x1000) 64).getD 0, data := 77, dirty := true, rcid := 3 }, by decide +kernel⟩,
    ⟨base, { src := 48, dst := 16 + homeBay 0 0 0x1000, tag := homeBay 0 0 0x1000, reqAgent := 48, line := 64 }, homeBay 0 0 0x1000, (base.homeLine (homeBay 0 0 0x1000) 64).getD 0, by decide +kernel⟩,
    ⟨base.setHome (homeBay 0 0 0x1000) { base.home (homeBay 0 0 0x1000) with cache := [((State.baySetOf base (homeBay 0 0 0x1000) ((base.homeLine (homeBay 0 0 0x1000) 64).getD 0 * 64)) * 16, { line := (base.homeLine (homeBay 0 0 0x1000) 64).getD 0, data := 77, dirty := true, rcid := 3 })] }, { src := 48, dst := 16 + homeBay 0 0 0x1000, tag := homeBay 0 0 0x1000, reqAgent := 48, line := 64 }, homeBay 0 0 0x1000, (base.homeLine (homeBay 0 0 0x1000) 64).getD 0, (State.baySetOf base (homeBay 0 0 0x1000) ((base.homeLine (homeBay 0 0 0x1000) 64).getD 0 * 64)) * 16, { line := (base.homeLine (homeBay 0 0 0x1000) 64).getD 0, data := 77, dirty := true, rcid := 3 }, by decide +kernel⟩⟩

/-- States and operands that meet the hypotheses of HomeTakesResponses. -/
theorem witness_HomeTakesResponses :
    (∃ (s : State) (d : Hdr) (h i : Nat) (x : HTx),
      s.soleTx .rspInvAck d h i x ∧
      s.benchLine h x.line ∧
      x.agent < 12 ∧
      x.needsWay = false ∧
      (x.st = .active ∨ x.st = .evicting) ∧
      2 ≤ x.pend) ∧
    (∃ (s : State) (d : Hdr) (h i : Nat) (x : HTx),
      s.soleTx .rspCleanDone d h i x ∧
      s.benchLine h x.line ∧
      x.agent < 12 ∧
      x.needsWay = false ∧
      (x.st = .active ∨ x.st = .evicting) ∧
      2 ≤ x.pend) ∧
    (∃ (s : State) (d : Hdr) (h i : Nat) (x : HTx) (k : Nat) (e : DirEnt),
      s.soleTx .rspInvAck d h i x ∧
      s.benchLine h x.line ∧
      x.agent < 12 ∧
      x.op = .upg ∧
      x.upgrade = true ∧
      x.st = .active ∧
      x.pend = 1 ∧
      d.dirty = false ∧
      x.snpData = 0 ∧
      x.acked = false ∧
      s.dirFind h x.line = some (k, e)) ∧
    (∃ (s : State) (d : Hdr) (h i : Nat) (x : HTx) (k : Nat) (e : DirEnt),
      s.soleTx .rspFwdDone d h i x ∧
      s.benchLine h x.line ∧
      x.agent < 12 ∧
      x.op = .rdS ∧
      x.st = .active ∧
      x.pend = 1 ∧
      x.snpData = 0 ∧
      d.dirty = false ∧
      variantO s.mode = false ∧
      s.dirFind h x.line = some (k, e)) ∧
    (∃ (s : State) (d : Hdr) (h i : Nat) (x : HTx) (k : Nat) (e : DirEnt),
      s.soleTx .rspFwdDone d h i x ∧
      s.benchLine h x.line ∧
      x.agent < 12 ∧
      x.op = .rdS ∧
      x.st = .active ∧
      x.pend = 1 ∧
      x.snpData = 0 ∧
      variantO s.mode = true ∧
      s.dirFind h x.line = some (k, e)) ∧
    (∃ (s : State) (d : Hdr) (h i : Nat) (x : HTx),
      s.soleTx .rspFwdDone d h i x ∧
      s.benchLine h x.line ∧
      x.agent < 12 ∧
      x.op = .rdS ∧
      x.st = .active ∧
      x.pend = 1 ∧
      x.snpData = 0 ∧
      d.dirty = true ∧
      variantO s.mode = false ∧
      (s.dirFind h x.line).isSome = true) ∧
    (∃ (s : State) (d : Hdr) (h i : Nat) (x : HTx) (k : Nat) (e : DirEnt),
      s.soleTx .rspFwdDone d h i x ∧
      s.benchLine h x.line ∧
      x.agent < 12 ∧
      x.op = .rdU ∧
      x.upgrade = false ∧
      x.st = .active ∧
      x.pend = 1 ∧
      x.snpData = 0 ∧
      x.acked = false ∧
      s.dirFind h x.line = some (k, e) ∧
      e.st ≠ 0 ∧
      s.ownerIs e d.src d.srcPkg = true) ∧
    (∃ (s : State) (d : Hdr) (h i : Nat) (x : HTx) (k : Nat) (e : DirEnt),
      s.soleTx .rspCleanDone d h i x ∧
      s.benchLine h x.line ∧
      x.agent < 12 ∧
      x.op = .cboClean ∧
      x.st = .active ∧
      x.pend = 1 ∧
      x.snpData = 0 ∧
      d.dirty = false ∧
      x.waitWr = false ∧
      s.dirFind h x.line = some (k, e)) ∧
    (∃ (s : State) (d : Hdr) (h i : Nat) (x : HTx) (k : Nat) (e : DirEnt),
      s.soleTx .rspNotHeld d h i x ∧
      s.benchLine h x.line ∧
      x.agent < 12 ∧
      x.op = .rdS ∧
      x.st = .active ∧
      x.pend = 1 ∧
      x.snpData = 0 ∧
      d.dirty = false ∧
      x.fwd = false ∧
      x.acked = false ∧
      x.have_ = false ∧
      x.bmr = none ∧
      x.dirway = none ∧
      (s.home h).resv = [] ∧
      s.dirFind h x.line = some (k, e) ∧
      s.dropHolder e d.src d.srcPkg = none ∧
      (s.home h).dir.all (fun y => y.1 == k || y.2.line != x.line) = true) ∧
    (∃ (s : State) (d : Hdr) (h i : Nat) (x : HTx) (k : Nat) (e e' : DirEnt),
      s.soleTx .rspNotHeld d h i x ∧
      s.benchLine h x.line ∧
      x.agent < 12 ∧
      x.needsWay = false ∧
      (x.st = .active ∨ x.st = .evicting) ∧
      2 ≤ x.pend ∧
      d.dirty = false ∧
      s.dirFind h x.line = some (k, e) ∧
      s.dropHolder e d.src d.srcPkg = some e') ∧
    (∃ (s : State) (d : Hdr) (h i : Nat) (x : HTx),
      s.soleTx .wbCancel d h i x ∧
      s.benchLine h x.line ∧
      x.agent < 12 ∧
      (x.op = .wb ∨ x.op = .wbKeep) ∧
      x.pulled = true) ∧
    (∃ (s : State) (d : Hdr) (h i : Nat) (x : HTx),
      s.soleTx .compAck d h i x ∧
      s.benchLine h x.line ∧
      x.agent < 12 ∧
      x.st = .granted) ∧
    (∃ (s : State) (d : Hdr) (h i : Nat) (x : HTx),
      s.soleTx .compAck d h i x ∧
      s.benchLine h x.line ∧
      x.agent < 12 ∧
      x.op = .rdS ∧
      x.st = .active) ∧
    (∃ (s : State) (d : Hdr) (h i : Nat) (x : HTx) (data : Line),
      s.soleTx .snpData d h i x ∧
      s.benchLine h x.line ∧
      x.agent < 12 ∧
      x.needsWay = false ∧
      (x.st = .active ∨ x.st = .evicting) ∧
      1 ≤ x.pend) ∧
    (∃ (s : State) (d : Hdr) (h i : Nat) (x : HTx) (data : Line),
      s.soleTx .snpData d h i x ∧
      s.benchLine h x.line ∧
      x.agent < 12 ∧
      x.op = .cboFlush ∧
      x.st = .active ∧
      x.pend = 0 ∧
      x.waitWr = false) ∧
    (∃ (s : State) (d : Hdr) (h i : Nat) (x : HTx) (data : Line) (k : Nat) (e : DirEnt),
      s.soleTx .wbData d h i x ∧
      s.benchLine h x.line ∧
      x.agent < 12 ∧
      (x.op = .wb ∨ x.op = .wbKeep) ∧
      x.pulled = true ∧
      x.wrote = false ∧
      x.pend = 0 ∧
      x.snpData = 0 ∧
      x.st = .active ∧
      s.dirFind h x.line = some (k, e)) ∧
    (∃ (s : State) (d : Hdr) (h i : Nat) (x : HTx) (data : Line) (mask : BitVec 64),
      s.soleTx .ncWData d h i x ∧
      s.benchLine h x.line ∧
      x.agent < 12 ∧
      x.op = .wrNc ∧
      x.pulled = true ∧
      x.wrote = false ∧
      x.pend = 0 ∧
      x.snpData = 0 ∧
      x.st = .active) ∧
    (∃ (s : State) (d : Hdr) (h i : Nat) (x : HTx) (data : Line) (mask : BitVec 64),
      s.soleTx .ncWData d h i x ∧
      s.benchLine h x.line ∧
      x.agent < 12 ∧
      x.op = .atomNc ∧
      x.poison = false ∧
      x.pulled = true ∧
      x.wrote = false ∧
      x.pend = 0 ∧
      x.snpData = 0 ∧
      x.st = .active) ∧
    (∃ (s : State) (d : Hdr) (h i : Nat) (x : HTx) (data : Line) (mask : BitVec 64),
      s.soleTx .ncWData d h i x ∧
      s.benchLine h x.line ∧
      x.agent < 12 ∧
      x.op = .atomNc ∧
      x.poison = true ∧
      x.pulled = true ∧
      x.wrote = false ∧
      x.pend = 0 ∧
      x.snpData = 0 ∧
      x.st = .active) :=
  ⟨⟨base.setHome 3 { base.home 3 with bench := 8, txs := [(7, { line := benchBase 3 / 64, raw := benchBase 3 / 64, st := .active, agent := 0, tag := 5, op := .wrNc, pend := 2 })], order := [7], snpCred := [(4, 3)] }, { src := 4, dst := 19, tag := 5, reqAgent := 0, line := benchBase 3 / 64, htx := 7 }, 3, 7, { line := benchBase 3 / 64, raw := benchBase 3 / 64, st := .active, agent := 0, tag := 5, op := .wrNc, pend := 2 }, by decide +kernel⟩,
    ⟨base.setHome 3 { base.home 3 with bench := 8, txs := [(7, { line := benchBase 3 / 64, raw := benchBase 3 / 64, st := .active, agent := 0, tag := 5, op := .wrNc, pend := 2 })], order := [7], snpCred := [(4, 3)] }, { src := 4, dst := 19, tag := 5, reqAgent := 0, line := benchBase 3 / 64, htx := 7 }, 3, 7, { line := benchBase 3 / 64, raw := benchBase 3 / 64, st := .active, agent := 0, tag := 5, op := .wrNc, pend := 2 }, by decide +kernel⟩,
    ⟨base.setHome 3 { base.home 3 with bench := 8, txs := [(7, { line := benchBase 3 / 64, raw := benchBase 3 / 64, st := .active, agent := 0, tag := 5, op := .upg, upgrade := true, pend := 1 })], order := [7], dir := [((State.dirSetOf base 3 (benchBase 3)) * 24, { line := benchBase 3 / 64, st := 0, sv := 17, own := 15, bench := true })] }, { src := 4, dst := 19, tag := 5, reqAgent := 0, line := benchBase 3 / 64, htx := 7 }, 3, 7, { line := benchBase 3 / 64, raw := benchBase 3 / 64, st := .active, agent := 0, tag := 5, op := .upg, upgrade := true, pend := 1 }, (State.dirSetOf base 3 (benchBase 3)) * 24, { line := benchBase 3 / 64, st := 0, sv := 17, own := 15, bench := true }, by decide +kernel⟩,
    ⟨base.setHome 3 { base.home 3 with bench := 8, txs := [(7, { line := benchBase 3 / 64, raw := benchBase 3 / 64, st := .active, agent := 0, tag := 5, op := .rdS, pend := 1 })], order := [7], dir := [((State.dirSetOf base 3 (benchBase 3)) * 24, { line := benchBase 3 / 64, st := 1, sv := 16, own := 4, bench := true })] }, { src := 4, dst := 19, tag := 5, reqAgent := 0, line := benchBase 3 / 64, htx := 7 }, 3, 7, { line := benchBase 3 / 64, raw := benchBase 3 / 64, st := .active, agent := 0, tag := 5, op := .rdS, pend := 1 }, (State.dirSetOf base 3 (benchBase 3)) * 24, { line := benchBase 3 / 64, st := 1, sv := 16, own := 4, bench := true }, by decide +kernel⟩,
    ⟨{ base.setHome 3 { base.home 3 with bench := 8, txs := [(7, { line := benchBase 3 / 64, raw := benchBase 3 / 64, st := .active, agent := 0, tag := 5, op := .rdS, pend := 1 })], order := [7], dir := [((State.dirSetOf base 3 (benchBase 3)) * 24, { line := benchBase 3 / 64, st := 1, sv := 16, own := 4, bench := true })] } with plumb := { base.plumb with active := 2 } }, { src := 4, dst := 19, tag := 5, reqAgent := 0, line := benchBase 3 / 64, htx := 7 }, 3, 7, { line := benchBase 3 / 64, raw := benchBase 3 / 64, st := .active, agent := 0, tag := 5, op := .rdS, pend := 1 }, (State.dirSetOf base 3 (benchBase 3)) * 24, { line := benchBase 3 / 64, st := 1, sv := 16, own := 4, bench := true }, by decide +kernel⟩,
    ⟨base.setHome 3 { base.home 3 with bench := 8, txs := [(7, { line := benchBase 3 / 64, raw := benchBase 3 / 64, st := .active, agent := 0, tag := 5, op := .rdS, pend := 1 })], order := [7], dir := [((State.dirSetOf base 3 (benchBase 3)) * 24, { line := benchBase 3 / 64, st := 1, sv := 16, own := 4, bench := true })] }, { src := 4, dst := 19, tag := 5, reqAgent := 0, line := benchBase 3 / 64, dirty := true, htx := 7 }, 3, 7, { line := benchBase 3 / 64, raw := benchBase 3 / 64, st := .active, agent := 0, tag := 5, op := .rdS, pend := 1 }, by decide +kernel⟩,
    ⟨base.setHome 3 { base.home 3 with bench := 8, txs := [(7, { line := benchBase 3 / 64, raw := benchBase 3 / 64, st := .active, agent := 0, tag := 5, op := .rdU, pend := 1 })], order := [7], dir := [((State.dirSetOf base 3 (benchBase 3)) * 24, { line := benchBase 3 / 64, st := 1, sv := 16, own := 4, bench := true })] }, { src := 4, dst := 19, tag := 5, reqAgent := 0, line := benchBase 3 / 64, htx := 7 }, 3, 7, { line := benchBase 3 / 64, raw := benchBase 3 / 64, st := .active, agent := 0, tag := 5, op := .rdU, pend := 1 }, (State.dirSetOf base 3 (benchBase 3)) * 24, { line := benchBase 3 / 64, st := 1, sv := 16, own := 4, bench := true }, by decide +kernel⟩,
    ⟨base.setHome 3 { base.home 3 with bench := 8, txs := [(7, { line := benchBase 3 / 64, raw := benchBase 3 / 64, st := .active, agent := 0, tag := 5, op := .cboClean, pend := 1 })], order := [7], dir := [((State.dirSetOf base 3 (benchBase 3)) * 24, { line := benchBase 3 / 64, st := 2, sv := 16, own := 4, bench := true })] }, { src := 4, dst := 19, tag := 5, reqAgent := 0, line := benchBase 3 / 64, htx := 7 }, 3, 7, { line := benchBase 3 / 64, raw := benchBase 3 / 64, st := .active, agent := 0, tag := 5, op := .cboClean, pend := 1 }, (State.dirSetOf base 3 (benchBase 3)) * 24, { line := benchBase 3 / 64, st := 2, sv := 16, own := 4, bench := true }, by decide +kernel⟩,
    ⟨base.setHome 3 { base.home 3 with bench := 8, txs := [(7, { line := benchBase 3 / 64, raw := benchBase 3 / 64, st := .active, agent := 0, tag := 5, op := .rdS, pend := 1 })], order := [7], dir := [((State.dirSetOf base 3 (benchBase 3)) * 24, { line := benchBase 3 / 64, st := 1, sv := 16, own := 4, bench := true })] }, { src := 4, dst := 19, tag := 5, reqAgent := 0, line := benchBase 3 / 64, htx := 7 }, 3, 7, { line := benchBase 3 / 64, raw := benchBase 3 / 64, st := .active, agent := 0, tag := 5, op := .rdS, pend := 1 }, (State.dirSetOf base 3 (benchBase 3)) * 24, { line := benchBase 3 / 64, st := 1, sv := 16, own := 4, bench := true }, by decide +kernel⟩,
    ⟨base.setHome 3 { base.home 3 with bench := 8, txs := [(7, { line := benchBase 3 / 64, raw := benchBase 3 / 64, st := .active, agent := 0, tag := 5, op := .wrNc, pend := 2 })], order := [7], dir := [((State.dirSetOf base 3 (benchBase 3)) * 24, { line := benchBase 3 / 64, st := 0, sv := 17, own := 4, bench := true })] }, { src := 4, dst := 19, tag := 5, reqAgent := 0, line := benchBase 3 / 64, htx := 7 }, 3, 7, { line := benchBase 3 / 64, raw := benchBase 3 / 64, st := .active, agent := 0, tag := 5, op := .wrNc, pend := 2 }, (State.dirSetOf base 3 (benchBase 3)) * 24, { line := benchBase 3 / 64, st := 0, sv := 17, own := 4, bench := true }, { line := benchBase 3 / 64, st := 0, sv := 1, own := 15, bench := true }, by decide +kernel⟩,
    ⟨base.setHome 3 { base.home 3 with bench := 8, txs := [(7, { line := benchBase 3 / 64, raw := benchBase 3 / 64, st := .active, agent := 0, tag := 5, op := .wb, pulled := true })], order := [7] }, { src := 4, dst := 19, tag := 5, reqAgent := 0, line := benchBase 3 / 64, htx := 7 }, 3, 7, { line := benchBase 3 / 64, raw := benchBase 3 / 64, st := .active, agent := 0, tag := 5, op := .wb, pulled := true }, by decide +kernel⟩,
    ⟨base.setHome 3 { base.home 3 with bench := 8, txs := [(7, { line := benchBase 3 / 64, raw := benchBase 3 / 64, st := .granted, agent := 0, tag := 5, op := .rdS })], order := [7] }, { src := 4, dst := 19, tag := 5, reqAgent := 0, line := benchBase 3 / 64, htx := 7 }, 3, 7, { line := benchBase 3 / 64, raw := benchBase 3 / 64, st := .granted, agent := 0, tag := 5, op := .rdS }, by decide +kernel⟩,
    ⟨base.setHome 3 { base.home 3 with bench := 8, txs := [(7, { line := benchBase 3 / 64, raw := benchBase 3 / 64, st := .active, agent := 0, tag := 5, op := .rdS, pend := 1 })], order := [7] }, { src := 4, dst := 19, tag := 5, reqAgent := 0, line := benchBase 3 / 64, htx := 7 }, 3, 7, { line := benchBase 3 / 64, raw := benchBase 3 / 64, st := .active, agent := 0, tag := 5, op := .rdS, pend := 1 }, by decide +kernel⟩,
    ⟨base.setHome 3 { base.home 3 with bench := 8, txs := [(7, { line := benchBase 3 / 64, raw := benchBase 3 / 64, st := .active, agent := 0, tag := 5, op := .cboFlush, pend := 1 })], order := [7] }, { src := 4, dst := 19, tag := 5, reqAgent := 0, line := benchBase 3 / 64, htx := 7 }, 3, 7, { line := benchBase 3 / 64, raw := benchBase 3 / 64, st := .active, agent := 0, tag := 5, op := .cboFlush, pend := 1 }, 77, by decide +kernel⟩,
    ⟨base.setHome 3 { base.home 3 with bench := 8, txs := [(7, { line := benchBase 3 / 64, raw := benchBase 3 / 64, st := .active, agent := 0, tag := 5, op := .cboFlush, snpData := 1 })], order := [7], dir := [((State.dirSetOf base 3 (benchBase 3)) * 24, { line := benchBase 3 / 64, st := 1, sv := 16, own := 4, bench := true })] }, { src := 4, dst := 19, tag := 5, reqAgent := 0, line := benchBase 3 / 64, htx := 7 }, 3, 7, { line := benchBase 3 / 64, raw := benchBase 3 / 64, st := .active, agent := 0, tag := 5, op := .cboFlush, snpData := 1 }, 77, by decide +kernel⟩,
    ⟨base.setHome 3 { base.home 3 with bench := 8, txs := [(7, { line := benchBase 3 / 64, raw := benchBase 3 / 64, st := .active, agent := 0, tag := 5, op := .wb, pulled := true })], order := [7], dir := [((State.dirSetOf base 3 (benchBase 3)) * 24, { line := benchBase 3 / 64, st := 1, sv := 16, own := 4, bench := true })] }, { src := 4, dst := 19, tag := 5, reqAgent := 0, line := benchBase 3 / 64, htx := 7 }, 3, 7, { line := benchBase 3 / 64, raw := benchBase 3 / 64, st := .active, agent := 0, tag := 5, op := .wb, pulled := true }, 77, (State.dirSetOf base 3 (benchBase 3)) * 24, { line := benchBase 3 / 64, st := 1, sv := 16, own := 4, bench := true }, by decide +kernel⟩,
    ⟨base.setHome 3 { base.home 3 with bench := 8, txs := [(7, { line := benchBase 3 / 64, raw := benchBase 3 / 64, st := .active, agent := 0, tag := 5, op := .wrNc, pulled := true, full := true })], order := [7] }, { src := 4, dst := 19, tag := 5, reqAgent := 0, line := benchBase 3 / 64, htx := 7 }, 3, 7, { line := benchBase 3 / 64, raw := benchBase 3 / 64, st := .active, agent := 0, tag := 5, op := .wrNc, pulled := true, full := true }, 77, 0, by decide +kernel⟩,
    ⟨base.setHome 3 { base.home 3 with bench := 8, txs := [(7, { line := benchBase 3 / 64, raw := benchBase 3 / 64, st := .active, agent := 0, tag := 5, op := .atomNc, pulled := true, amo := .add, size := 8, off := 16, buf := 5 })], order := [7] }, { src := 4, dst := 19, tag := 5, reqAgent := 0, line := benchBase 3 / 64, htx := 7 }, 3, 7, { line := benchBase 3 / 64, raw := benchBase 3 / 64, st := .active, agent := 0, tag := 5, op := .atomNc, pulled := true, amo := .add, size := 8, off := 16, buf := 5 }, 77, 0, by decide +kernel⟩,
    ⟨base.setHome 3 { base.home 3 with bench := 8, txs := [(7, { line := benchBase 3 / 64, raw := benchBase 3 / 64, st := .active, agent := 0, tag := 5, op := .atomNc, pulled := true, poison := true, buf := 5 })], order := [7] }, { src := 4, dst := 19, tag := 5, reqAgent := 0, line := benchBase 3 / 64, htx := 7 }, 3, 7, { line := benchBase 3 / 64, raw := benchBase 3 / 64, st := .active, agent := 0, tag := 5, op := .atomNc, pulled := true, poison := true, buf := 5 }, 77, 0, by decide +kernel⟩⟩

/-- States and operands that meet the hypotheses of SnoopsTakeAndForwardCopies. -/
theorem witness_SnoopsTakeAndForwardCopies :
    (∃ (s : State) (d : Hdr) (c : Nat) (e : L2Line),
      (s.arrive { op := .snpFwdS, hdr := d }).2.isSome = true ∧
      s.domainLive d.dst = true ∧
      d.dst < 12 ∧
      (d.srcPkg = s.ownPkg ∧ d.dstPkg = s.ownPkg ∧ d.reqPkg = s.ownPkg) ∧
      s.holders [d.dst] d.line = [c] ∧
      (s.core c).pipe.find2 d.line = some e ∧
      (s.core c).pipe.l2bad = [] ∧
      s.holdingCore [d.dst] d.line = none ∧
      isRequester d s.ownPkg c = false ∧
      s.linked d.dst d.reqAgent = true) ∧
    (∃ (s : State) (d : Hdr) (c : Nat) (e : L2Line),
      (s.arrive { op := .snpFwdU, hdr := d }).2.isSome = true ∧
      s.domainLive d.dst = true ∧
      d.dst < 12 ∧
      (d.srcPkg = s.ownPkg ∧ d.dstPkg = s.ownPkg ∧ d.reqPkg = s.ownPkg) ∧
      s.holders [d.dst] d.line = [c] ∧
      (s.core c).pipe.find2 d.line = some e ∧
      (s.core c).pipe.l2bad = [] ∧
      s.holdingCore [d.dst] d.line = none ∧
      isRequester d s.ownPkg c = false ∧
      s.linked d.dst d.reqAgent = true) ∧
    (∃ (s : State) (d : Hdr) (c : Nat) (e : L2Line),
      (s.arrive { op := .snpInv, hdr := d }).2.isSome = true ∧
      s.domainLive d.dst = true ∧
      d.dst < 12 ∧
      (d.srcPkg = s.ownPkg ∧ d.dstPkg = s.ownPkg ∧ d.reqPkg = s.ownPkg) ∧
      s.holders [d.dst] d.line = [c] ∧
      (s.core c).pipe.find2 d.line = some e ∧
      (s.core c).pipe.l2bad = [] ∧
      s.holdingCore [d.dst] d.line = none ∧
      isRequester d s.ownPkg c = false) ∧
    (∃ (s : State) (d : Hdr) (c : Nat) (e : L2Line),
      (s.arrive { op := .snpDrop, hdr := d }).2.isSome = true ∧
      s.domainLive d.dst = true ∧
      d.dst < 12 ∧
      (d.srcPkg = s.ownPkg ∧ d.dstPkg = s.ownPkg ∧ d.reqPkg = s.ownPkg) ∧
      s.holders [d.dst] d.line = [c] ∧
      (s.core c).pipe.find2 d.line = some e ∧
      (s.core c).pipe.l2bad = [] ∧
      s.holdingCore [d.dst] d.line = none ∧
      isRequester d s.ownPkg c = false) ∧
    (∃ (s : State) (d : Hdr) (c : Nat) (e : L2Line),
      (s.arrive { op := .snpFlush, hdr := d }).2.isSome = true ∧
      s.domainLive d.dst = true ∧
      d.dst < 12 ∧
      (d.srcPkg = s.ownPkg ∧ d.dstPkg = s.ownPkg ∧ d.reqPkg = s.ownPkg) ∧
      s.holders [d.dst] d.line = [c] ∧
      (s.core c).pipe.find2 d.line = some e ∧
      (s.core c).pipe.l2bad = [] ∧
      s.holdingCore [d.dst] d.line = none) ∧
    (∃ (s : State) (d : Hdr) (c : Nat) (e : L2Line),
      (s.arrive { op := .snpClean, hdr := d }).2.isSome = true ∧
      s.domainLive d.dst = true ∧
      d.dst < 12 ∧
      (d.srcPkg = s.ownPkg ∧ d.dstPkg = s.ownPkg ∧ d.reqPkg = s.ownPkg) ∧
      s.holders [d.dst] d.line = [c] ∧
      (s.core c).pipe.find2 d.line = some e ∧
      (s.core c).pipe.l2bad = [] ∧
      s.holdingCore [d.dst] d.line = none) ∧
    (∃ (s : State) (d : Hdr) (c i : Nat) (sl : Slot) (x : Line) (st : LSt) (pz : Bool),
      (s.arrive { op := .snpFwdS, hdr := d }).2.isSome = true ∧
      s.domainLive d.dst = true ∧
      d.dst < 12 ∧
      (d.srcPkg = s.ownPkg ∧ d.dstPkg = s.ownPkg ∧ d.reqPkg = s.ownPkg) ∧
      s.holders [d.dst] d.line = [c] ∧
      (s.core c).pipe.find2 d.line = none ∧
      (s.core c).pipe.wbOf d.line = some (i, sl) ∧
      sl.wb = some (x, st, pz) ∧
      (s.core c).pipe.l2bad = [] ∧
      s.holdingCore [d.dst] d.line = none ∧
      isRequester d s.ownPkg c = false ∧
      s.linked d.dst d.reqAgent = true) ∧
    (∃ (s : State) (d : Hdr) (c i : Nat) (sl : Slot) (x : Line) (st : LSt) (pz : Bool),
      (s.arrive { op := .snpFwdU, hdr := d }).2.isSome = true ∧
      s.domainLive d.dst = true ∧
      d.dst < 12 ∧
      (d.srcPkg = s.ownPkg ∧ d.dstPkg = s.ownPkg ∧ d.reqPkg = s.ownPkg) ∧
      s.holders [d.dst] d.line = [c] ∧
      (s.core c).pipe.find2 d.line = none ∧
      (s.core c).pipe.wbOf d.line = some (i, sl) ∧
      sl.wb = some (x, st, pz) ∧
      (s.core c).pipe.l2bad = [] ∧
      s.holdingCore [d.dst] d.line = none ∧
      isRequester d s.ownPkg c = false ∧
      s.linked d.dst d.reqAgent = true) ∧
    (∃ (s : State) (d : Hdr) (c i : Nat) (sl : Slot) (x : Line) (st : LSt) (pz : Bool),
      (s.arrive { op := .snpInv, hdr := d }).2.isSome = true ∧
      s.domainLive d.dst = true ∧
      d.dst < 12 ∧
      (d.srcPkg = s.ownPkg ∧ d.dstPkg = s.ownPkg ∧ d.reqPkg = s.ownPkg) ∧
      s.holders [d.dst] d.line = [c] ∧
      (s.core c).pipe.find2 d.line = none ∧
      (s.core c).pipe.wbOf d.line = some (i, sl) ∧
      sl.wb = some (x, st, pz) ∧
      (s.core c).pipe.l2bad = [] ∧
      s.holdingCore [d.dst] d.line = none ∧
      isRequester d s.ownPkg c = false) ∧
    (∃ (s : State) (d : Hdr) (c i : Nat) (sl : Slot) (x : Line) (st : LSt) (pz : Bool),
      (s.arrive { op := .snpDrop, hdr := d }).2.isSome = true ∧
      s.domainLive d.dst = true ∧
      d.dst < 12 ∧
      (d.srcPkg = s.ownPkg ∧ d.dstPkg = s.ownPkg ∧ d.reqPkg = s.ownPkg) ∧
      s.holders [d.dst] d.line = [c] ∧
      (s.core c).pipe.find2 d.line = none ∧
      (s.core c).pipe.wbOf d.line = some (i, sl) ∧
      sl.wb = some (x, st, pz) ∧
      (s.core c).pipe.l2bad = [] ∧
      s.holdingCore [d.dst] d.line = none ∧
      isRequester d s.ownPkg c = false) ∧
    (∃ (s : State) (d : Hdr) (c i : Nat) (sl : Slot) (x : Line) (st : LSt) (pz : Bool),
      (s.arrive { op := .snpFlush, hdr := d }).2.isSome = true ∧
      s.domainLive d.dst = true ∧
      d.dst < 12 ∧
      (d.srcPkg = s.ownPkg ∧ d.dstPkg = s.ownPkg ∧ d.reqPkg = s.ownPkg) ∧
      s.holders [d.dst] d.line = [c] ∧
      (s.core c).pipe.find2 d.line = none ∧
      (s.core c).pipe.wbOf d.line = some (i, sl) ∧
      sl.wb = some (x, st, pz) ∧
      (s.core c).pipe.l2bad = [] ∧
      s.holdingCore [d.dst] d.line = none) ∧
    (∃ (s : State) (d : Hdr) (c i : Nat) (sl : Slot) (x : Line) (st : LSt) (pz : Bool),
      (s.arrive { op := .snpClean, hdr := d }).2.isSome = true ∧
      s.domainLive d.dst = true ∧
      d.dst < 12 ∧
      (d.srcPkg = s.ownPkg ∧ d.dstPkg = s.ownPkg ∧ d.reqPkg = s.ownPkg) ∧
      s.holders [d.dst] d.line = [c] ∧
      (s.core c).pipe.find2 d.line = none ∧
      (s.core c).pipe.wbOf d.line = some (i, sl) ∧
      sl.wb = some (x, st, pz) ∧
      (s.core c).pipe.l2bad = [] ∧
      s.holdingCore [d.dst] d.line = none) ∧
    (∃ (s : State) (d : Hdr),
      (s.arrive { op := .snpInv, hdr := d }).2.isSome = true ∧
      s.domainLive d.dst = true ∧
      d.dst < 12 ∧
      (d.srcPkg = s.ownPkg ∧ d.dstPkg = s.ownPkg ∧ d.reqPkg = s.ownPkg) ∧
      s.holdingCore [d.dst] d.line = none ∧
      (∀ k ∈ s.cores, k.2.pipe.wbOf d.line = none)) ∧
    (∃ (s : State) (d : Hdr) (op : MsgOp) (i : Instr),
      (s.arrive { op := op, hdr := d }).2.isSome = true ∧
      (op, i) ∈ ([(.snpFwdS, .snpFwdS d), (.snpFwdU, .snpFwdU d), (.snpInv, .snpInv d), (.snpClean, .snpClean d), (.snpFlush, .snpFlush d), (.snpDrop, .snpDrop d)] : List (MsgOp × Instr)) ∧
      s.domainLive d.dst = true ∧
      d.dst < 12 ∧
      (d.srcPkg = s.ownPkg ∧ d.dstPkg = s.ownPkg ∧ d.reqPkg = s.ownPkg) ∧
      s.holders [d.dst] d.line = [] ∧
      s.holdingCore [d.dst] d.line = none) ∧
    (∃ (s : State) (d : Hdr) (op : MsgOp) (i : Instr) (c : Nat),
      (s.arrive { op := op, hdr := d }).2.isSome = true ∧
      (op, i) ∈ ([(.snpFwdS, .snpFwdS d), (.snpFwdU, .snpFwdU d), (.snpInv, .snpInv d), (.snpClean, .snpClean d), (.snpFlush, .snpFlush d), (.snpDrop, .snpDrop d)] : List (MsgOp × Instr)) ∧
      s.domainLive d.dst = true ∧
      d.dst < 12 ∧
      (d.srcPkg = s.ownPkg ∧ d.dstPkg = s.ownPkg ∧ d.reqPkg = s.ownPkg) ∧
      s.holdingCore [d.dst] d.line = some c) :=
  ⟨⟨{ base with cores := [(0, { run := .run, pipe := { resv := some 64, l2 := [(64, [{ line := 64, st := .m, data := 5 }])] } })] }, { src := 19, dst := 0, line := 64, reqAgent := 4, tag := 9, htx := 2 }, 0, { line := 64, st := .m, data := 5 }, by decide +kernel⟩,
    ⟨{ base with cores := [(0, { run := .run, pipe := { resv := some 64, l2 := [(64, [{ line := 64, st := .m, data := 5 }])] } })] }, { src := 19, dst := 0, line := 64, reqAgent := 4, tag := 9, htx := 2 }, 0, { line := 64, st := .m, data := 5 }, by decide +kernel⟩,
    ⟨{ base with cores := [(0, { run := .run, pipe := { resv := some 64, l2 := [(64, [{ line := 64, st := .m, data := 5 }])] } })] }, { src := 19, dst := 0, line := 64, reqAgent := 4, tag := 9, htx := 2 }, 0, { line := 64, st := .m, data := 5 }, by decide +kernel⟩,
    ⟨{ base with cores := [(0, { run := .run, pipe := { resv := some 64, l2 := [(64, [{ line := 64, st := .m, data := 5 }])] } })] }, { src := 19, dst := 0, line := 64, reqAgent := 4, tag := 9, htx := 2 }, 0, { line := 64, st := .m, data := 5 }, by decide +kernel⟩,
    ⟨{ base with cores := [(0, { run := .run, pipe := { resv := some 64, l2 := [(64, [{ line := 64, st := .o, data := 5 }])] } })] }, { src := 19, dst := 0, line := 64, reqAgent := 4, tag := 9, htx := 2 }, 0, { line := 64, st := .o, data := 5 }, by decide +kernel⟩,
    ⟨{ base with cores := [(0, { run := .run, pipe := { resv := some 64, l2 := [(64, [{ line := 64, st := .m, data := 5 }])] } })] }, { src := 19, dst := 0, line := 64, reqAgent := 4, tag := 9, htx := 2 }, 0, { line := 64, st := .m, data := 5 }, by decide +kernel⟩,
    ⟨{ base with cores := [(0, { run := .run, pipe := { slots := [(48, { kind := .evict, line := 64, op := .wb, wb := some (5, .m, false), dst := 19 })] } })] }, { src := 19, dst := 0, line := 64, reqAgent := 4, tag := 9, htx := 2 }, 0, 48, { kind := .evict, line := 64, op := .wb, wb := some (5, .m, false), dst := 19 }, 5, .m, false, by decide +kernel⟩,
    ⟨{ base with cores := [(0, { run := .run, pipe := { slots := [(48, { kind := .evict, line := 64, op := .wb, wb := some (5, .m, false), dst := 19 })] } })] }, { src := 19, dst := 0, line := 64, reqAgent := 4, tag := 9, htx := 2 }, 0, 48, { kind := .evict, line := 64, op := .wb, wb := some (5, .m, false), dst := 19 }, 5, .m, false, by decide +kernel⟩,
    ⟨{ base with cores := [(0, { run := .run, pipe := { slots := [(48, { kind := .evict, line := 64, op := .wb, wb := some (5, .m, false), dst := 19 })] } })] }, { src := 19, dst := 0, line := 64, reqAgent := 4, tag := 9, htx := 2 }, 0, 48, { kind := .evict, line := 64, op := .wb, wb := some (5, .m, false), dst := 19 }, 5, .m, false, by decide +kernel⟩,
    ⟨{ base with cores := [(0, { run := .run, pipe := { slots := [(48, { kind := .evict, line := 64, op := .wb, wb := some (5, .m, false), dst := 19 })] } })] }, { src := 19, dst := 0, line := 64, reqAgent := 4, tag := 9, htx := 2 }, 0, 48, { kind := .evict, line := 64, op := .wb, wb := some (5, .m, false), dst := 19 }, 5, .m, false, by decide +kernel⟩,
    ⟨{ base with cores := [(0, { run := .run, pipe := { slots := [(48, { kind := .evict, line := 64, op := .wb, wb := some (5, .m, false), dst := 19 })] } })] }, { src := 19, dst := 0, line := 64, reqAgent := 4, tag := 9, htx := 2 }, 0, 48, { kind := .evict, line := 64, op := .wb, wb := some (5, .m, false), dst := 19 }, 5, .m, false, by decide +kernel⟩,
    ⟨{ base with cores := [(0, { run := .run, pipe := { slots := [(48, { kind := .evict, line := 64, op := .wb, wb := some (5, .m, false), dst := 19 })] } })] }, { src := 19, dst := 0, line := 64, reqAgent := 4, tag := 9, htx := 2 }, 0, 48, { kind := .evict, line := 64, op := .wb, wb := some (5, .m, false), dst := 19 }, 5, .m, false, by decide +kernel⟩,
    ⟨{ base with cores := [(0, { run := .run, pipe := { resv := some 64, l2 := [(64, [{ line := 64, st := .m, data := 5 }])] } })] }, { src := 19, dst := 0, line := 64, reqAgent := 4, tag := 9, htx := 2 }, by decide +kernel⟩,
    ⟨base, { src := 19, dst := 0, line := 64, reqAgent := 4, tag := 9, htx := 2 }, .snpInv, .snpInv { src := 19, dst := 0, line := 64, reqAgent := 4, tag := 9, htx := 2 }, by decide +kernel⟩,
    ⟨{ base with cores := [(0, { run := .run, pipe := { hold := some 64, resv := some 64, l2 := [(64, [{ line := 64, st := .m, data := 5 }])] } })] }, { src := 19, dst := 0, line := 64, reqAgent := 4, tag := 9, htx := 2 }, .snpInv, .snpInv { src := 19, dst := 0, line := 64, reqAgent := 4, tag := 9, htx := 2 }, 0, by decide +kernel⟩⟩

/-- States and operands that meet the hypotheses of GrantsInstallLines. -/
theorem witness_GrantsInstallLines :
    (∃ (s : State) (d : Hdr) (c i : Nat) (x : Slot) (data : Line) (w : Nat),
      s.soleSlot .dataS d c i x ∧
      (x.kind = .miss ∨ x.kind = .pref) ∧
      (x.op = .rdS ∨ ((x.op = .rdU ∨ x.op = .upg) ∧ d.go = true)) ∧
      x.merged = [] ∧
      x.uniq = false ∧
      (s.core c).pipe.find2 x.line = none ∧
      (s.core c).pipe.fillWay x.line = .free w) ∧
    (∃ (s : State) (d : Hdr) (c i : Nat) (x : Slot) (data : Line) (w : Nat),
      s.soleSlot .dataF d c i x ∧
      (x.kind = .miss ∨ x.kind = .pref) ∧
      (x.op = .rdS ∨ ((x.op = .rdU ∨ x.op = .upg) ∧ d.go = true)) ∧
      x.merged = [] ∧
      x.uniq = false ∧
      (s.core c).pipe.find2 x.line = none ∧
      (s.core c).pipe.fillWay x.line = .free w) ∧
    (∃ (s : State) (d : Hdr) (c i : Nat) (x : Slot) (data : Line) (w : Nat),
      s.soleSlot .dataE d c i x ∧
      (x.kind = .miss ∨ x.kind = .pref) ∧
      (x.op = .rdS ∨ ((x.op = .rdU ∨ x.op = .upg) ∧ d.go = true)) ∧
      x.merged = [] ∧
      (s.core c).pipe.find2 x.line = none ∧
      (s.core c).pipe.fillWay x.line = .free w) ∧
    (∃ (s : State) (d : Hdr) (c i : Nat) (x : Slot) (data : Line) (w : Nat),
      s.soleSlot .dataM d c i x ∧
      (x.kind = .miss ∨ x.kind = .pref) ∧
      (x.op = .rdS ∨ ((x.op = .rdU ∨ x.op = .upg) ∧ d.go = true)) ∧
      x.merged = [] ∧
      (s.core c).pipe.find2 x.line = none ∧
      (s.core c).pipe.fillWay x.line = .free w) ∧
    (∃ (s : State) (d : Hdr) (c i : Nat) (x : Slot) (data : Line) (w home : Nat),
      s.soleSlot .dataS d c i x ∧
      (x.kind = .miss ∨ x.kind = .pref) ∧
      x.op = .rdS ∧
      x.merged = [] ∧
      x.uniq = true ∧
      x.zero = false ∧
      (s.core c).pipe.find2 x.line = none ∧
      (s.core c).pipe.fillWay x.line = .free w ∧
      s.target (s.frameOfCore c) (x.line * 64) = some (home, s.ownPkg)) ∧
    (∃ (s : State) (d : Hdr) (c i : Nat) (x : Slot) (data : Line) (w home : Nat),
      s.soleSlot .dataF d c i x ∧
      (x.kind = .miss ∨ x.kind = .pref) ∧
      x.op = .rdS ∧
      x.merged = [] ∧
      x.uniq = true ∧
      x.zero = false ∧
      (s.core c).pipe.find2 x.line = none ∧
      (s.core c).pipe.fillWay x.line = .free w ∧
      s.target (s.frameOfCore c) (x.line * 64) = some (home, s.ownPkg)) ∧
    (∃ (s : State) (d : Hdr) (c i : Nat) (x : Slot) (data : Line) (v : L2Line),
      s.soleSlot .dataE d c i x ∧
      (x.kind = .miss ∨ x.kind = .pref) ∧
      (x.op = .rdS ∨ ((x.op = .rdU ∨ x.op = .upg) ∧ d.go = true)) ∧
      x.merged = [] ∧
      (s.core c).pipe.find2 x.line = none ∧
      (s.core c).pipe.fillWay x.line = .evict v ∧
      ((s.core c).pipe.set2 x.line).all (fun y => y.line % 1024 == x.line % 1024 && (y.line == v.line) == (y.way == v.way)) = true ∧
      (s.core c).pipe.l2bad = [] ∧
      v.line < 2 ^ 49 ∧
      v.st.dirty = false) ∧
    (∃ (s : State) (d : Hdr) (c i : Nat) (x : Slot) (data : Line) (v : L2Line) (home : Nat),
      s.soleSlot .dataE d c i x ∧
      (x.kind = .miss ∨ x.kind = .pref) ∧
      (x.op = .rdS ∨ ((x.op = .rdU ∨ x.op = .upg) ∧ d.go = true)) ∧
      x.merged = [] ∧
      (s.core c).pipe.find2 x.line = none ∧
      (s.core c).pipe.fillWay x.line = .evict v ∧
      ((s.core c).pipe.set2 x.line).all (fun y => y.line % 1024 == x.line % 1024 && (y.line == v.line) == (y.way == v.way)) = true ∧
      (s.core c).pipe.l2bad = [] ∧
      v.line < 2 ^ 49 ∧
      v.st.dirty = true ∧
      i < 48 ∧
      s.target (s.frameOfCore c) (v.line * 64) = some (home, s.ownPkg)) ∧
    (∃ (s : State) (d : Hdr) (c i : Nat) (x : Slot) (e : L2Line),
      s.soleSlot .goU d c i x ∧
      (x.kind = .miss ∨ x.kind = .pref) ∧
      x.op = .upg ∧
      x.merged = [] ∧
      (s.core c).pipe.find2 x.line = some e) ∧
    (∃ (s : State) (d : Hdr) (c i : Nat) (x : Slot) (w : Nat),
      s.soleSlot .goU d c i x ∧
      (x.kind = .miss ∨ x.kind = .pref) ∧
      x.op = .cboZero ∧
      x.merged = [] ∧
      (s.core c).pipe.find2 x.line = none ∧
      (s.core c).pipe.fillWay x.line = .free w) ∧
    (∃ (s : State) (d : Hdr) (c i : Nat) (x : Slot) (data : Line) (w : Wait),
      s.soleSlot .ncRData d c i x ∧
      x.kind = .unc ∧
      x.merged = [w] ∧
      (w.acc.kind = .load ∨ w.acc.kind = .amo) ∧
      w.acc.split = 0 ∧
      w.acc.pa / 64 = d.line ∧
      w.acc.pa % 64 + w.acc.size ≤ 64 ∧
      (0 < w.acc.size ∧ w.acc.size ≤ 8) ∧
      (w.acc.part = 0 ∧ w.acc.got = 0) ∧
      d.poison = false) ∧
    (∃ (s : State) (d : Hdr) (c i : Nat) (x : Slot) (data : Line) (w : Wait),
      s.soleSlot .ncRData d c i x ∧
      x.kind = .unc ∧
      x.merged = [w] ∧
      (w.acc.kind = .load ∨ w.acc.kind = .amo) ∧
      w.acc.split = 0 ∧
      w.acc.pa / 64 = d.line ∧
      w.acc.pa % 64 + w.acc.size ≤ 64 ∧
      (0 < w.acc.size ∧ w.acc.size ≤ 8) ∧
      (w.acc.part = 0 ∧ w.acc.got = 0) ∧
      d.poison = true ∧
      (destElem? w.acc.dest) = none) ∧
    (∃ (s : State) (d : Hdr) (c i : Nat) (x : Slot) (q : StoreEnt) (w : Wait),
      (s.arrive { op := .goDone, hdr := d }).2.isSome = true ∧
      d.dst < 12 ∧
      s.domainLive d.dst = true ∧
      (d.srcPkg = s.ownPkg ∧ d.dstPkg = s.ownPkg) ∧
      c = d.dst * 32 + d.tag / 128 ∧
      i = d.tag % 128 ∧
      (s.core c).pipe.slots = [(i, x)] ∧
      x.line = d.line ∧
      (x.mask = 0 ∧ x.data = none ∧ x.goU = none ∧ x.dpkg = s.ownPkg) ∧
      ((s.core c).pipe.waits = [] ∧ (s.core c).pipe.fence = [] ∧ (s.core c).pipe.rob = []) ∧
      (s.core c).pipe.storeQ = [q] ∧
      q.acc = w.acc ∧
      x.kind = .unc ∧
      x.merged = [w] ∧
      w.acc.kind = .store ∧
      w.acc.split = 0 ∧
      w.acc.pa / 64 = d.line ∧
      w.acc.pa % 64 + w.acc.size ≤ 64 ∧
      (0 < w.acc.size ∧ w.acc.size ≤ 8) ∧
      w.acc.part = 0) ∧
    (∃ (s : State) (d : Hdr) (c i : Nat) (x : Slot) (w : Wait),
      s.soleSlot .goDone d c i x ∧
      x.kind = .cbo ∧
      x.merged = [w]) :=
  ⟨⟨{ base with cores := [(0, { run := .run, pipe := { slots := [(3, { line := 64, dst := 19, kind := .miss, op := .rdS })] } })] }, { src := 19, dst := 0, line := 64, tag := 3, htx := 2, go := true }, 0, 3, { line := 64, dst := 19, kind := .miss, op := .rdS }, 77, 0, by decide +kernel⟩,
    ⟨{ base with cores := [(0, { run := .run, pipe := { slots := [(3, { line := 64, dst := 19, kind := .miss, op := .rdS })] } })] }, { src := 19, dst := 0, line := 64, tag := 3, htx := 2, go := true }, 0, 3, { line := 64, dst := 19, kind := .miss, op := .rdS }, 77, 0, by decide +kernel⟩,
    ⟨{ base with cores := [(0, { run := .run, pipe := { slots := [(3, { line := 64, dst := 19, kind := .miss, op := .rdU })] } })] }, { src := 19, dst := 0, line := 64, tag := 3, htx := 2, go := true }, 0, 3, { line := 64, dst := 19, kind := .miss, op := .rdU }, 77, 0, by decide +kernel⟩,
    ⟨{ base with cores := [(0, { run := .run, pipe := { slots := [(3, { line := 64, dst := 19, kind := .miss, op := .rdU })] } })] }, { src := 19, dst := 0, line := 64, tag := 3, htx := 2, go := true }, 0, 3, { line := 64, dst := 19, kind := .miss, op := .rdU }, 77, 0, by decide +kernel⟩,
    ⟨{ base with cores := [(0, { run := .run, pipe := { slots := [(3, { line := 64, dst := 19, kind := .miss, op := .rdS, uniq := true })] } })] }, { src := 19, dst := 0, line := 64, tag := 3, htx := 2, go := true }, 0, 3, { line := 64, dst := 19, kind := .miss, op := .rdS, uniq := true }, 77, 0, 16 + homeBay 0 0 0x1000, by decide +kernel⟩,
    ⟨{ base with cores := [(0, { run := .run, pipe := { slots := [(3, { line := 64, dst := 19, kind := .miss, op := .rdS, uniq := true })] } })] }, { src := 19, dst := 0, line := 64, tag := 3, htx := 2, go := true }, 0, 3, { line := 64, dst := 19, kind := .miss, op := .rdS, uniq := true }, 77, 0, 16 + homeBay 0 0 0x1000, by decide +kernel⟩,
    ⟨{ base with cores := [(0, { run := .run, pipe := { slots := [(3, { line := 64, dst := 19, kind := .miss, op := .rdU })], l2 := [(64, (List.range 16).map (fun w => { way := w, line := 64 + 1024 * (w + 1), st := .s, data := 9 }))] } })] }, { src := 19, dst := 0, line := 64, tag := 3, htx := 2, go := true }, 0, 3, { line := 64, dst := 19, kind := .miss, op := .rdU }, 77, { way := 15, line := 64 + 1024 * 16, st := .s, data := 9 }, by decide +kernel⟩,
    ⟨{ base with cores := [(0, { run := .run, pipe := { slots := [(3, { line := 64, dst := 19, kind := .miss, op := .rdU })], l2 := [(64, (List.range 16).map (fun w => { way := w, line := 64 + 1024 * (w + 1), st := .m, data := 9 }))] } })] }, { src := 19, dst := 0, line := 64, tag := 3, htx := 2, go := true }, 0, 3, { line := 64, dst := 19, kind := .miss, op := .rdU }, 77, { way := 15, line := 64 + 1024 * 16, st := .m, data := 9 }, 16 + homeBay 0 0 ((64 + 1024 * 16) * 64), by decide +kernel⟩,
    ⟨{ base with cores := [(0, { run := .run, pipe := { slots := [(3, { line := 64, dst := 19, kind := .miss, op := .upg })], l2 := [(64, [{ line := 64, st := .s, data := 5 }])] } })] }, { src := 19, dst := 0, line := 64, tag := 3, htx := 2, go := true }, 0, 3, { line := 64, dst := 19, kind := .miss, op := .upg }, { line := 64, st := .s, data := 5 }, by decide +kernel⟩,
    ⟨{ base with cores := [(0, { run := .run, pipe := { slots := [(3, { line := 64, dst := 19, kind := .miss, op := .cboZero, uniq := true, zero := true })] } })] }, { src := 19, dst := 0, line := 64, tag := 3, htx := 2, go := true }, 0, 3, { line := 64, dst := 19, kind := .miss, op := .cboZero, uniq := true, zero := true }, 0, by decide +kernel⟩,
    ⟨{ base with cores := [(0, { run := .run, pipe := { slots := [(80, { line := 64, dst := 19, kind := .unc, op := .rdNc, merged := [{ acc := { kind := .load, va := 0x1008, pa := 0x1008, size := 8, dest := .x 7, nc := true }, xlated := true }] })] } })] }, { src := 19, dst := 0, line := 64, tag := 80, htx := 2, go := true }, 0, 80, { line := 64, dst := 19, kind := .unc, op := .rdNc, merged := [{ acc := { kind := .load, va := 0x1008, pa := 0x1008, size := 8, dest := .x 7, nc := true }, xlated := true }] }, 77, { acc := { kind := .load, va := 0x1008, pa := 0x1008, size := 8, dest := .x 7, nc := true }, xlated := true }, by decide +kernel⟩,
    ⟨{ base with cores := [(0, { run := .run, pipe := { slots := [(80, { line := 64, dst := 19, kind := .unc, op := .rdNc, merged := [{ acc := { kind := .load, va := 0x1008, pa := 0x1008, size := 8, dest := .x 7, nc := true }, xlated := true }] })] } })] }, { src := 19, dst := 0, line := 64, tag := 80, htx := 2, poison := true }, 0, 80, { line := 64, dst := 19, kind := .unc, op := .rdNc, merged := [{ acc := { kind := .load, va := 0x1008, pa := 0x1008, size := 8, dest := .x 7, nc := true }, xlated := true }] }, 77, { acc := { kind := .load, va := 0x1008, pa := 0x1008, size := 8, dest := .x 7, nc := true }, xlated := true }, by decide +kernel⟩,
    ⟨{ base with cores := [(0, { run := .run, pipe := { slots := [(80, { line := 64, dst := 19, kind := .unc, op := .wrNc, merged := [{ acc := { kind := .store, va := 0x1008, pa := 0x1008, size := 8, data := 9, nc := true }, xlated := true }] })], storeQ := [{ acc := { kind := .store, va := 0x1008, pa := 0x1008, size := 8, data := 9, nc := true } }] } })] }, { src := 19, dst := 0, line := 64, tag := 80, htx := 2, go := true }, 0, 80, { line := 64, dst := 19, kind := .unc, op := .wrNc, merged := [{ acc := { kind := .store, va := 0x1008, pa := 0x1008, size := 8, data := 9, nc := true }, xlated := true }] }, { acc := { kind := .store, va := 0x1008, pa := 0x1008, size := 8, data := 9, nc := true } }, { acc := { kind := .store, va := 0x1008, pa := 0x1008, size := 8, data := 9, nc := true }, xlated := true }, by decide +kernel⟩,
    ⟨{ base with cores := [(0, { run := .run, pipe := { slots := [(112, { line := 64, dst := 19, kind := .cbo, op := .cboClean, merged := [{}] })] } })] }, { src := 19, dst := 0, line := 64, tag := 112, htx := 2, go := true }, 0, 112, { line := 64, dst := 19, kind := .cbo, op := .cboClean, merged := [{}] }, {}, by decide +kernel⟩⟩

/-- States and operands that meet the hypotheses of PullsWritebacksAndErrors. -/
theorem witness_PullsWritebacksAndErrors :
    (∃ (s : State) (d : Hdr) (c i : Nat) (x : Slot) (data : Line) (st : LSt) (pz : Bool),
      s.soleSlot .wbPull d c i x ∧
      x.kind = .evict ∧
      x.wb = some (data, st, pz)) ∧
    (∃ (s : State) (d : Hdr) (c i : Nat) (x : Slot),
      s.soleSlot .wbPull d c i x ∧
      x.kind = .evict ∧
      x.wb = none) ∧
    (∃ (s : State) (d : Hdr) (c i : Nat) (x : Slot) (e : L2Line),
      s.soleSlot .wbPull d c i x ∧
      x.kind = .keep ∧
      (s.core c).pipe.find2 x.line = some e ∧
      e.st.dirty = true ∧
      (s.core c).pipe.l2bad = []) ∧
    (∃ (s : State) (d : Hdr) (c i : Nat) (x : Slot),
      s.soleSlot .wbPull d c i x ∧
      x.kind = .keep ∧
      ((s.core c).pipe.find2 x.line).all (fun e => !e.st.dirty) = true ∧
      (s.core c).pipe.l2bad = []) ∧
    (∃ (s : State) (d : Hdr) (c i : Nat) (x : Slot),
      s.soleSlot .wbStale d c i x ∧
      (x.kind = .evict ∨ x.kind = .keep)) ∧
    (∃ (s : State) (d : Hdr) (c i : Nat) (x : Slot) (q : StoreEnt) (w : Wait),
      (s.arrive { op := .wrPull, hdr := d }).2.isSome = true ∧
      d.dst < 12 ∧
      s.domainLive d.dst = true ∧
      (d.srcPkg = s.ownPkg ∧ d.dstPkg = s.ownPkg) ∧
      c = d.dst * 32 + d.tag / 128 ∧
      i = d.tag % 128 ∧
      (s.core c).pipe.slots = [(i, x)] ∧
      x.line = d.line ∧
      (x.mask = 0 ∧ x.data = none ∧ x.goU = none ∧ x.dpkg = s.ownPkg) ∧
      ((s.core c).pipe.waits = [] ∧ (s.core c).pipe.fence = [] ∧ (s.core c).pipe.rob = []) ∧
      (s.core c).pipe.storeQ = [q] ∧
      q.acc = w.acc ∧
      x.kind = .unc ∧
      x.merged = [w] ∧
      w.acc.kind = .store ∧
      w.acc.split = 0 ∧
      w.acc.pa / 64 = d.line ∧
      w.acc.pa % 64 + w.acc.size ≤ 64 ∧
      (0 < w.acc.size ∧ w.acc.size ≤ 8) ∧
      w.acc.part = 0) ∧
    (∃ (s : State) (d : Hdr) (c i : Nat) (x : Slot) (w : Wait),
      s.soleSlot .wrPull d c i x ∧
      x.kind = .unc ∧
      x.merged = [w] ∧
      w.acc.kind = .amo) ∧
    (∃ (s : State) (d : Hdr) (c i : Nat) (x : Slot) (w : Wait),
      s.soleSlot .err d c i x ∧
      (s.core c).awake = true ∧
      (x.kind = .miss ∨ x.kind = .unc) ∧
      x.merged = [w] ∧
      w.acc.kind = .load ∧
      w.acc.guest = false ∧
      (destElem? w.acc.dest) = none ∧
      (s.core c).xlat.walks = [] ∧
      (s.core c).regs.trapTarget { cause := 5 } = 3 ∧
      (s.core c).pipe.snpQ = []) ∧
    (∃ (s : State) (d : Hdr) (c i : Nat) (x : Slot) (q : StoreEnt) (w : Wait),
      (s.arrive { op := .err, hdr := d }).2.isSome = true ∧
      d.dst < 12 ∧
      s.domainLive d.dst = true ∧
      (d.srcPkg = s.ownPkg ∧ d.dstPkg = s.ownPkg) ∧
      c = d.dst * 32 + d.tag / 128 ∧
      i = d.tag % 128 ∧
      (s.core c).pipe.slots = [(i, x)] ∧
      x.line = d.line ∧
      (x.mask = 0 ∧ x.data = none ∧ x.goU = none ∧ x.dpkg = s.ownPkg) ∧
      ((s.core c).pipe.waits = [] ∧ (s.core c).pipe.fence = [] ∧ (s.core c).pipe.rob = []) ∧
      (s.core c).pipe.storeQ = [q] ∧
      q.acc = w.acc ∧
      x.kind = .unc ∧
      x.merged = [w] ∧
      w.acc.kind = .store ∧
      w.acc.split = 0 ∧
      w.acc.pa / 64 = d.line ∧
      w.acc.pa % 64 + w.acc.size ≤ 64 ∧
      (0 < w.acc.size ∧ w.acc.size ≤ 8) ∧
      w.acc.part = 0 ∧
      (s.core c).awake = true ∧
      q.pc = w.pc ∧
      w.acc.guest = false ∧
      (destElem? w.acc.dest) = none ∧
      (s.core c).xlat.walks = [] ∧
      (s.core c).regs.trapTarget { cause := 7 } = 3 ∧
      (s.core c).pipe.snpQ = []) :=
  ⟨⟨{ base with cores := [(0, { run := .run, pipe := { slots := [(48, { line := 64, dst := 19, kind := .evict, op := .wb, wb := some (9, .m, false) })] } })] }, { src := 19, dst := 0, line := 64, tag := 48, htx := 2, go := true }, 0, 48, { line := 64, dst := 19, kind := .evict, op := .wb, wb := some (9, .m, false) }, 9, .m, false, by decide +kernel⟩,
    ⟨{ base with cores := [(0, { run := .run, pipe := { slots := [(48, { line := 64, dst := 19, kind := .evict, op := .wb })] } })] }, { src := 19, dst := 0, line := 64, tag := 48, htx := 2, go := true }, 0, 48, { line := 64, dst := 19, kind := .evict, op := .wb }, by decide +kernel⟩,
    ⟨{ base with cores := [(0, { run := .run, pipe := { slots := [(48, { line := 64, dst := 19, kind := .keep, op := .wbKeep })], l2 := [(64, [{ line := 64, st := .m, data := 5 }])] } })] }, { src := 19, dst := 0, line := 64, tag := 48, htx := 2, go := true }, 0, 48, { line := 64, dst := 19, kind := .keep, op := .wbKeep }, { line := 64, st := .m, data := 5 }, by decide +kernel⟩,
    ⟨{ base with cores := [(0, { run := .run, pipe := { slots := [(48, { line := 64, dst := 19, kind := .keep, op := .wbKeep })], l2 := [(64, [{ line := 64, st := .e, data := 5 }])] } })] }, { src := 19, dst := 0, line := 64, tag := 48, htx := 2, go := true }, 0, 48, { line := 64, dst := 19, kind := .keep, op := .wbKeep }, by decide +kernel⟩,
    ⟨{ base with cores := [(0, { run := .run, pipe := { slots := [(48, { line := 64, dst := 19, kind := .keep, op := .wbKeep })] } })] }, { src := 19, dst := 0, line := 64, tag := 48, htx := 2, go := true }, 0, 48, { line := 64, dst := 19, kind := .keep, op := .wbKeep }, by decide +kernel⟩,
    ⟨{ base with cores := [(0, { run := .run, pipe := { slots := [(80, { line := 64, dst := 19, kind := .unc, op := .wrNc, merged := [{ acc := { kind := .store, va := 0x1008, pa := 0x1008, size := 8, data := 9, nc := true }, xlated := true }] })], storeQ := [{ acc := { kind := .store, va := 0x1008, pa := 0x1008, size := 8, data := 9, nc := true } }] } })] }, { src := 19, dst := 0, line := 64, tag := 80, htx := 2, go := true }, 0, 80, { line := 64, dst := 19, kind := .unc, op := .wrNc, merged := [{ acc := { kind := .store, va := 0x1008, pa := 0x1008, size := 8, data := 9, nc := true }, xlated := true }] }, { acc := { kind := .store, va := 0x1008, pa := 0x1008, size := 8, data := 9, nc := true } }, { acc := { kind := .store, va := 0x1008, pa := 0x1008, size := 8, data := 9, nc := true }, xlated := true }, by decide +kernel⟩,
    ⟨{ base with cores := [(0, { run := .run, pipe := { slots := [(80, { line := 64, dst := 19, kind := .unc, op := .atomNc, merged := [{ acc := { kind := .amo, va := 0x1008, pa := 0x1008, size := 8, data := 9, cmp := 4, dest := .x 7, nc := true }, xlated := true }] })] } })] }, { src := 19, dst := 0, line := 64, tag := 80, htx := 2, go := true }, 0, 80, { line := 64, dst := 19, kind := .unc, op := .atomNc, merged := [{ acc := { kind := .amo, va := 0x1008, pa := 0x1008, size := 8, data := 9, cmp := 4, dest := .x 7, nc := true }, xlated := true }] }, { acc := { kind := .amo, va := 0x1008, pa := 0x1008, size := 8, data := 9, cmp := 4, dest := .x 7, nc := true }, xlated := true }, by decide +kernel⟩,
    ⟨{ base with cores := [(0, { run := .run, pipe := { slots := [(3, { line := 64, dst := 19, kind := .miss, op := .rdS, merged := [{ acc := { kind := .load, va := 0x1008, pa := 0x1008, size := 8, dest := .x 7 }, xlated := true, pc := 0x400 }] })] } })] }, { src := 19, dst := 0, line := 64, tag := 3, htx := 2, go := true }, 0, 3, { line := 64, dst := 19, kind := .miss, op := .rdS, merged := [{ acc := { kind := .load, va := 0x1008, pa := 0x1008, size := 8, dest := .x 7 }, xlated := true, pc := 0x400 }] }, { acc := { kind := .load, va := 0x1008, pa := 0x1008, size := 8, dest := .x 7 }, xlated := true, pc := 0x400 }, by decide +kernel⟩,
    ⟨{ base with cores := [(0, { run := .run, pipe := { slots := [(80, { line := 64, dst := 19, kind := .unc, op := .wrNc, merged := [{ acc := { kind := .store, va := 0x1008, pa := 0x1008, size := 8, data := 9, nc := true }, xlated := true }] })], storeQ := [{ acc := { kind := .store, va := 0x1008, pa := 0x1008, size := 8, data := 9, nc := true } }] } })] }, { src := 19, dst := 0, line := 64, tag := 80, htx := 2, go := true }, 0, 80, { line := 64, dst := 19, kind := .unc, op := .wrNc, merged := [{ acc := { kind := .store, va := 0x1008, pa := 0x1008, size := 8, data := 9, nc := true }, xlated := true }] }, { acc := { kind := .store, va := 0x1008, pa := 0x1008, size := 8, data := 9, nc := true } }, { acc := { kind := .store, va := 0x1008, pa := 0x1008, size := 8, data := 9, nc := true }, xlated := true }, by decide +kernel⟩⟩

/-- States and operands that meet the hypotheses of FillsAndDeviceReads. -/
theorem witness_FillsAndDeviceReads :
    (∃ (s : State) (b : BayId) (k : Fin 512) (h i : Nat) (x : HTx) (r : Bmr) (data : Line) (poison : Bool) (p : Nat) (h' : Home),
      h = b.val ∧
      (s.home h).bmrs = [(k.val, r)] ∧
      r.data = some (data, poison) ∧
      r.line = x.line ∧
      r.htx = i ∧
      (s.home h).stopped = false ∧
      x.bmr = some k.val ∧
      x.have_ = false ∧
      isBenchAddr (x.line * 64) = false ∧
      r.lock = false ∧
      (x.nonalloc = false ∧ x.en = true ∧ x.wt = false) ∧
      s.bayFind h x.line = none ∧
      (s.home h).chooseVictim (s.baySetOf h (x.line * 64)) x.rcid = (some p, h') ∧
      Tab.find (s.home h).cache p = none ∧
      (s.home h).txs = [(i, x)] ∧
      (s.home h).order = [i] ∧
      (s.home h).waitReq = [] ∧
      (s.home h).work = none ∧
      x.st = .active ∧
      (x.pend = 0 ∧ x.snpData = 0 ∧ x.hold = []) ∧
      x.pkg = s.ownPkg ∧
      s.dirFind h x.line = none ∧
      x.op = .rdNc) ∧
    (∃ (s : State) (b : BayId) (k : Fin 512) (h i : Nat) (x : HTx) (r : Bmr) (data : Line) (poison : Bool) (p : Nat) (h' : Home) (old : BayLine),
      h = b.val ∧
      (s.home h).bmrs = [(k.val, r)] ∧
      r.data = some (data, poison) ∧
      r.line = x.line ∧
      r.htx = i ∧
      (s.home h).stopped = false ∧
      x.bmr = some k.val ∧
      x.have_ = false ∧
      isBenchAddr (x.line * 64) = false ∧
      r.lock = false ∧
      (x.nonalloc = false ∧ x.en = true ∧ x.wt = false) ∧
      s.bayFind h x.line = none ∧
      (s.home h).chooseVictim (s.baySetOf h (x.line * 64)) x.rcid = (some p, h') ∧
      Tab.find (s.home h).cache p = some old ∧
      old.dirty = false ∧
      (s.home h).txs = [(i, x)] ∧
      (s.home h).order = [i] ∧
      (s.home h).waitReq = [] ∧
      (s.home h).work = none ∧
      x.st = .active ∧
      (x.pend = 0 ∧ x.snpData = 0 ∧ x.hold = []) ∧
      x.pkg = s.ownPkg ∧
      s.dirFind h x.line = none ∧
      x.op = .rdNc) ∧
    (∃ (s : State) (b : BayId) (k : Fin 512) (h i : Nat) (x : HTx) (r : Bmr) (data : Line) (poison : Bool) (p : Nat) (h' : Home) (old : BayLine),
      h = b.val ∧
      (s.home h).bmrs = [(k.val, r)] ∧
      r.data = some (data, poison) ∧
      r.line = x.line ∧
      r.htx = i ∧
      (s.home h).stopped = false ∧
      x.bmr = some k.val ∧
      x.have_ = false ∧
      isBenchAddr (x.line * 64) = false ∧
      r.lock = false ∧
      (x.nonalloc = false ∧ x.en = true ∧ x.wt = false) ∧
      s.bayFind h x.line = none ∧
      (s.home h).chooseVictim (s.baySetOf h (x.line * 64)) x.rcid = (some p, h') ∧
      Tab.find (s.home h).cache p = some old ∧
      old.dirty = true ∧
      old.bad = 0 ∧
      (s.home h).victims = [] ∧
      (s.home h).txs = [(i, x)] ∧
      (s.home h).order = [i] ∧
      (s.home h).waitReq = [] ∧
      (s.home h).work = none ∧
      x.st = .active ∧
      (x.pend = 0 ∧ x.snpData = 0 ∧ x.hold = []) ∧
      x.pkg = s.ownPkg ∧
      s.dirFind h x.line = none ∧
      x.op = .rdNc) ∧
    (∃ (s : State) (b : BayId) (k : Fin 512) (h i : Nat) (x : HTx) (r : Bmr) (data : Line) (poison : Bool) (p : Nat) (h' : Home) (old : BayLine),
      h = b.val ∧
      (s.home h).bmrs = [(k.val, r)] ∧
      r.data = some (data, poison) ∧
      r.line = x.line ∧
      r.htx = i ∧
      (s.home h).stopped = false ∧
      x.bmr = some k.val ∧
      x.have_ = false ∧
      isBenchAddr (x.line * 64) = false ∧
      r.lock = false ∧
      (x.nonalloc = false ∧ x.en = true ∧ x.wt = false) ∧
      s.bayFind h x.line = none ∧
      (s.home h).chooseVictim (s.baySetOf h (x.line * 64)) x.rcid = (some p, h') ∧
      Tab.find (s.home h).cache p = some old ∧
      old.dirty = true ∧
      old.bad = 0 ∧
      64 ≤ (s.home h).victims.length ∧
      (s.home h).victims.any (fun v => v.line == old.line) = false ∧
      h < 12 ∧
      (s.home h).txs = [(i, x)] ∧
      (s.home h).order = [i] ∧
      (s.home h).waitReq = [] ∧
      (s.home h).work = none ∧
      x.st = .active ∧
      (x.pend = 0 ∧ x.snpData = 0 ∧ x.hold = []) ∧
      x.pkg = s.ownPkg ∧
      s.dirFind h x.line = none ∧
      x.op = .rdNc) ∧
    (∃ (s : State) (b : BayId) (k : Fin 512) (h i : Nat) (x : HTx) (r : Bmr) (data : Line) (poison : Bool),
      h = b.val ∧
      (s.home h).bmrs = [(k.val, r)] ∧
      r.data = some (data, poison) ∧
      r.line = x.line ∧
      r.htx = i ∧
      (s.home h).stopped = false ∧
      x.bmr = some k.val ∧
      x.have_ = false ∧
      isBenchAddr (x.line * 64) = false ∧
      (r.lock = true ∨ x.nonalloc = true ∨ x.en = false ∨ x.wt = true) ∧
      (s.home h).txs = [(i, x)] ∧
      (s.home h).order = [i] ∧
      (s.home h).waitReq = [] ∧
      (s.home h).work = none ∧
      x.st = .active ∧
      (x.pend = 0 ∧ x.snpData = 0 ∧ x.hold = []) ∧
      x.pkg = s.ownPkg ∧
      s.dirFind h x.line = none ∧
      x.op = .rdNc) ∧
    (∃ (s : State) (b : BayId) (k : Fin 512) (h i : Nat) (x : HTx) (r : Bmr) (data : Line) (poison : Bool) (n : Nat),
      h = b.val ∧
      (s.home h).bmrs = [(k.val, r)] ∧
      r.data = some (data, poison) ∧
      r.line = x.line ∧
      r.htx = i ∧
      (s.home h).stopped = false ∧
      x.bmr = some k.val ∧
      x.have_ = false ∧
      isBenchAddr (x.line * 64) = false ∧
      (r.lock = true ∨ x.nonalloc = true ∨ x.en = false ∨ x.wt = true) ∧
      x.op = .rdS ∧
      (x.acked = false ∧ x.fwd = false) ∧
      x.dirway = some n ∧
      Tab.find (s.home h).dir n = none ∧
      x.evictFor = none ∧
      x.agent < 12 ∧
      (s.home h).txs = [(i, x)] ∧
      (s.home h).order = [i] ∧
      (s.home h).waitReq = [] ∧
      (s.home h).work = none ∧
      x.st = .active ∧
      (x.pend = 0 ∧ x.snpData = 0 ∧ x.hold = []) ∧
      x.pkg = s.ownPkg ∧
      s.dirFind h x.line = none) ∧
    (∃ (s : State) (b : BayId) (k : Fin 512) (r : Bmr),
      Tab.find (s.home b).bmrs k.val = some r ∧
      (s.home b).bmrs.any (fun e => e.2.data.isSome && decide (e.2.order < r.order)) = true) ∧
    (∃ (s : State) (p : PortId) (h i line : Nat) (x : HTx) (data : Line) (poison : Bool),
      h = 12 + p.val ∧
      (s.home h).cxlWait = [(line, i)] ∧
      x.line = line ∧
      (x.have_ = false ∧ x.bmr = none) ∧
      (s.home h).txs = [(i, x)] ∧
      (s.home h).order = [i] ∧
      (s.home h).waitReq = [] ∧
      (s.home h).work = none ∧
      x.st = .active ∧
      (x.pend = 0 ∧ x.snpData = 0 ∧ x.hold = []) ∧
      x.pkg = s.ownPkg ∧
      s.dirFind h x.line = none ∧
      x.op = .rdNc) ∧
    (∃ (s : State) (p : PortId) (line : Nat) (data : Line) (poison : Bool),
      (s.home (12 + p.val)).cxlWait.find? (fun e => e.1 == line) = none) ∧
    (∃ (s : State) (p : PortId) (pkg : Nat) (near : List (Nat × Nat × Nat)),
      (s.port p).pers = 4 ∧
      (s.port p).purlin.st = 3 ∧
      (s.frame (s.frameOfPort p)).halted = false ∧
      pkg ≠ s.plumb.pkgId ∧
      Tab.find (s.frame (s.frameOfPort p)).heard pkg ≠ some near) ∧
    (∃ (s : State) (p : PortId) (pkg : Nat) (near : List (Nat × Nat × Nat)),
      (pkg = s.plumb.pkgId ∨ Tab.find (s.frame (s.frameOfPort p)).heard pkg = some near)) ∧
    (∃ (s : State) (p : PortId) (x : BitVec 32),
      (s.port p).pers = 4 ∧
      (s.port p).purlin.st = 3 ∧
      (s.frame (s.frameOfPort p)).halted = false ∧
      (s.frame (s.frameOfPort p)).joinStep = 0) ∧
    (∃ (s : State) (p : PortId) (pkg : Nat) (x : BitVec 64),
      (s.port p).pers = 4 ∧
      (s.port p).purlin.st = 3 ∧
      (s.frame (s.frameOfPort p)).halted = false ∧
      (s.frame (s.frameOfPort p)).joinStep = 0 ∧
      pkg ≠ s.plumb.pkgId ∧
      Tab.find (s.frame (s.frameOfPort p)).heardTime pkg = none) ∧
    (∃ (s : State) (p : PortId) (pkg : Nat) (x : BitVec 64),
      (pkg = s.plumb.pkgId ∨ (Tab.find (s.frame (s.frameOfPort p)).heardTime pkg).isSome = true)) ∧
    (∃ (s : State) (p : PortId) (x : BitVec 60),
      (s.port p).pers = 4 ∧
      (s.port p).purlin.st = 3 ∧
      (s.frame (s.frameOfPort p)).halted = false ∧
      (s.port p).purlin.after = none) ∧
    (∃ (s : State) (p : PortId) (x y : BitVec 60),
      (s.port p).pers = 4 ∧
      (s.port p).purlin.st = 3 ∧
      (s.frame (s.frameOfPort p)).halted = false ∧
      ((s.frame (s.frameOfPort p)).joinSt ≠ 2 ∨ rankOf (s.frame (s.frameOfPort p)).members s.plumb.pkgId = 0)) ∧
    (∃ (s : State) (p : PortId) (pkg : Nat) (c : BitVec 32) (x : BitVec 64) (y z : BitVec 60) (near : List (Nat × Nat × Nat)) (m : Mgmt),
      ((s.port p).pers ≠ 4 ∨ (s.port p).purlin.st ≠ 3 ∨ (s.frame (s.frameOfPort p)).halted = true) ∧
      m ∈ [Mgmt.ids p pkg near, Mgmt.digest p c, Mgmt.time p pkg x, Mgmt.ask p y, Mgmt.answer p y z]) :=
  ⟨⟨base.setHome (homeBay 0 0 0x1000) { base.home (homeBay 0 0 0x1000) with bmrs := [(2, { line := 64, htx := 7, data := some (77, false) })], txs := [(7, { op := .rdNc, line := 64, raw := 64, agent := 4, tag := 9, st := .active, bmr := some 2, supply := true })], order := [7] }, 4, 2, 4, 7, { op := .rdNc, line := 64, raw := 64, agent := 4, tag := 9, st := .active, bmr := some 2, supply := true }, { line := 64, htx := 7, data := some (77, false) }, 77, false, State.baySetOf base 4 (64 * 64) * 16, base.setHome (homeBay 0 0 0x1000) { base.home (homeBay 0 0 0x1000) with bmrs := [(2, { line := 64, htx := 7, data := some (77, false) })], txs := [(7, { op := .rdNc, line := 64, raw := 64, agent := 4, tag := 9, st := .active, bmr := some 2, supply := true })], order := [7] } |>.home 4, by decide +kernel⟩,
    ⟨base.setHome (homeBay 0 0 0x1000) { base.home (homeBay 0 0 0x1000) with bmrs := [(2, { line := 64, htx := 7, data := some (77, false) })], txs := [(7, { op := .rdNc, line := 64, raw := 64, agent := 4, tag := 9, st := .active, bmr := some 2, supply := true })], order := [7], cache := (List.range 16).map (fun w => (State.baySetOf base 4 (64 * 64) * 16 + w, { line := 1000 + w, data := 9, dirty := false })), lfsr := 1 }, 4, 2, 4, 7, { op := .rdNc, line := 64, raw := 64, agent := 4, tag := 9, st := .active, bmr := some 2, supply := true }, { line := 64, htx := 7, data := some (77, false) }, 77, false, (((base.setHome (homeBay 0 0 0x1000) { base.home (homeBay 0 0 0x1000) with bmrs := [(2, { line := 64, htx := 7, data := some (77, false) })], txs := [(7, { op := .rdNc, line := 64, raw := 64, agent := 4, tag := 9, st := .active, bmr := some 2, supply := true })], order := [7], cache := (List.range 16).map (fun w => (State.baySetOf base 4 (64 * 64) * 16 + w, { line := 1000 + w, data := 9, dirty := false })), lfsr := 1 }).home 4).chooseVictim (State.baySetOf base 4 (64 * 64)) 0).1.getD 0, (((base.setHome (homeBay 0 0 0x1000) { base.home (homeBay 0 0 0x1000) with bmrs := [(2, { line := 64, htx := 7, data := some (77, false) })], txs := [(7, { op := .rdNc, line := 64, raw := 64, agent := 4, tag := 9, st := .active, bmr := some 2, supply := true })], order := [7], cache := (List.range 16).map (fun w => (State.baySetOf base 4 (64 * 64) * 16 + w, { line := 1000 + w, data := 9, dirty := false })), lfsr := 1 }).home 4).chooseVictim (State.baySetOf base 4 (64 * 64)) 0).2, (Tab.find ((base.setHome (homeBay 0 0 0x1000) { base.home (homeBay 0 0 0x1000) with bmrs := [(2, { line := 64, htx := 7, data := some (77, false) })], txs := [(7, { op := .rdNc, line := 64, raw := 64, agent := 4, tag := 9, st := .active, bmr := some 2, supply := true })], order := [7], cache := (List.range 16).map (fun w => (State.baySetOf base 4 (64 * 64) * 16 + w, { line := 1000 + w, data := 9, dirty := false })), lfsr := 1 }).home 4).cache ((((base.setHome (homeBay 0 0 0x1000) { base.home (homeBay 0 0 0x1000) with bmrs := [(2, { line := 64, htx := 7, data := some (77, false) })], txs := [(7, { op := .rdNc, line := 64, raw := 64, agent := 4, tag := 9, st := .active, bmr := some 2, supply := true })], order := [7], cache := (List.range 16).map (fun w => (State.baySetOf base 4 (64 * 64) * 16 + w, { line := 1000 + w, data := 9, dirty := false })), lfsr := 1 }).home 4).chooseVictim (State.baySetOf base 4 (64 * 64)) 0).1.getD 0)).getD {}, by decide +kernel⟩,
    ⟨base.setHome (homeBay 0 0 0x1000) { base.home (homeBay 0 0 0x1000) with bmrs := [(2, { line := 64, htx := 7, data := some (77, false) })], txs := [(7, { op := .rdNc, line := 64, raw := 64, agent := 4, tag := 9, st := .active, bmr := some 2, supply := true })], order := [7], cache := (List.range 16).map (fun w => (State.baySetOf base 4 (64 * 64) * 16 + w, { line := 1000 + w, data := 9, dirty := true })), lfsr := 1 }, 4, 2, 4, 7, { op := .rdNc, line := 64, raw := 64, agent := 4, tag := 9, st := .active, bmr := some 2, supply := true }, { line := 64, htx := 7, data := some (77, false) }, 77, false, (((base.setHome (homeBay 0 0 0x1000) { base.home (homeBay 0 0 0x1000) with bmrs := [(2, { line := 64, htx := 7, data := some (77, false) })], txs := [(7, { op := .rdNc, line := 64, raw := 64, agent := 4, tag := 9, st := .active, bmr := some 2, supply := true })], order := [7], cache := (List.range 16).map (fun w => (State.baySetOf base 4 (64 * 64) * 16 + w, { line := 1000 + w, data := 9, dirty := true })), lfsr := 1 }).home 4).chooseVictim (State.baySetOf base 4 (64 * 64)) 0).1.getD 0, (((base.setHome (homeBay 0 0 0x1000) { base.home (homeBay 0 0 0x1000) with bmrs := [(2, { line := 64, htx := 7, data := some (77, false) })], txs := [(7, { op := .rdNc, line := 64, raw := 64, agent := 4, tag := 9, st := .active, bmr := some 2, supply := true })], order := [7], cache := (List.range 16).map (fun w => (State.baySetOf base 4 (64 * 64) * 16 + w, { line := 1000 + w, data := 9, dirty := true })), lfsr := 1 }).home 4).chooseVictim (State.baySetOf base 4 (64 * 64)) 0).2, (Tab.find ((base.setHome (homeBay 0 0 0x1000) { base.home (homeBay 0 0 0x1000) with bmrs := [(2, { line := 64, htx := 7, data := some (77, false) })], txs := [(7, { op := .rdNc, line := 64, raw := 64, agent := 4, tag := 9, st := .active, bmr := some 2, supply := true })], order := [7], cache := (List.range 16).map (fun w => (State.baySetOf base 4 (64 * 64) * 16 + w, { line := 1000 + w, data := 9, dirty := true })), lfsr := 1 }).home 4).cache ((((base.setHome (homeBay 0 0 0x1000) { base.home (homeBay 0 0 0x1000) with bmrs := [(2, { line := 64, htx := 7, data := some (77, false) })], txs := [(7, { op := .rdNc, line := 64, raw := 64, agent := 4, tag := 9, st := .active, bmr := some 2, supply := true })], order := [7], cache := (List.range 16).map (fun w => (State.baySetOf base 4 (64 * 64) * 16 + w, { line := 1000 + w, data := 9, dirty := true })), lfsr := 1 }).home 4).chooseVictim (State.baySetOf base 4 (64 * 64)) 0).1.getD 0)).getD {}, by decide +kernel⟩,
    ⟨base.setHome (homeBay 0 0 0x1000) { base.home (homeBay 0 0 0x1000) with bmrs := [(2, { line := 64, htx := 7, data := some (77, false) })], txs := [(7, { op := .rdNc, line := 64, raw := 64, agent := 4, tag := 9, st := .active, bmr := some 2, supply := true })], order := [7], cache := (List.range 16).map (fun w => (State.baySetOf base 4 (64 * 64) * 16 + w, { line := 1000 + w, data := 9, dirty := true })), lfsr := 1, victims := (List.range 64).map (fun v => { line := 5000 + v }) }, 4, 2, 4, 7, { op := .rdNc, line := 64, raw := 64, agent := 4, tag := 9, st := .active, bmr := some 2, supply := true }, { line := 64, htx := 7, data := some (77, false) }, 77, false, (((base.setHome (homeBay 0 0 0x1000) { base.home (homeBay 0 0 0x1000) with bmrs := [(2, { line := 64, htx := 7, data := some (77, false) })], txs := [(7, { op := .rdNc, line := 64, raw := 64, agent := 4, tag := 9, st := .active, bmr := some 2, supply := true })], order := [7], cache := (List.range 16).map (fun w => (State.baySetOf base 4 (64 * 64) * 16 + w, { line := 1000 + w, data := 9, dirty := true })), lfsr := 1, victims := (List.range 64).map (fun v => { line := 5000 + v }) }).home 4).chooseVictim (State.baySetOf base 4 (64 * 64)) 0).1.getD 0, (((base.setHome (homeBay 0 0 0x1000) { base.home (homeBay 0 0 0x1000) with bmrs := [(2, { line := 64, htx := 7, data := some (77, false) })], txs := [(7, { op := .rdNc, line := 64, raw := 64, agent := 4, tag := 9, st := .active, bmr := some 2, supply := true })], order := [7], cache := (List.range 16).map (fun w => (State.baySetOf base 4 (64 * 64) * 16 + w, { line := 1000 + w, data := 9, dirty := true })), lfsr := 1, victims := (List.range 64).map (fun v => { line := 5000 + v }) }).home 4).chooseVictim (State.baySetOf base 4 (64 * 64)) 0).2, (Tab.find ((base.setHome (homeBay 0 0 0x1000) { base.home (homeBay 0 0 0x1000) with bmrs := [(2, { line := 64, htx := 7, data := some (77, false) })], txs := [(7, { op := .rdNc, line := 64, raw := 64, agent := 4, tag := 9, st := .active, bmr := some 2, supply := true })], order := [7], cache := (List.range 16).map (fun w => (State.baySetOf base 4 (64 * 64) * 16 + w, { line := 1000 + w, data := 9, dirty := true })), lfsr := 1, victims := (List.range 64).map (fun v => { line := 5000 + v }) }).home 4).cache ((((base.setHome (homeBay 0 0 0x1000) { base.home (homeBay 0 0 0x1000) with bmrs := [(2, { line := 64, htx := 7, data := some (77, false) })], txs := [(7, { op := .rdNc, line := 64, raw := 64, agent := 4, tag := 9, st := .active, bmr := some 2, supply := true })], order := [7], cache := (List.range 16).map (fun w => (State.baySetOf base 4 (64 * 64) * 16 + w, { line := 1000 + w, data := 9, dirty := true })), lfsr := 1, victims := (List.range 64).map (fun v => { line := 5000 + v }) }).home 4).chooseVictim (State.baySetOf base 4 (64 * 64)) 0).1.getD 0)).getD {}, by decide +kernel⟩,
    ⟨base.setHome (homeBay 0 0 0x1000) { base.home (homeBay 0 0 0x1000) with bmrs := [(2, { line := 64, htx := 7, data := some (77, false) })], txs := [(7, { op := .rdNc, line := 64, raw := 64, agent := 4, tag := 9, st := .active, bmr := some 2, supply := true, nonalloc := true })], order := [7] }, 4, 2, 4, 7, { op := .rdNc, line := 64, raw := 64, agent := 4, tag := 9, st := .active, bmr := some 2, supply := true, nonalloc := true }, { line := 64, htx := 7, data := some (77, false) }, 77, false, by decide +kernel⟩,
    ⟨base.setHome (homeBay 0 0 0x1000) { base.home (homeBay 0 0 0x1000) with bmrs := [(2, { line := 64, htx := 7, data := some (77, false) })], txs := [(7, { op := .rdS, line := 64, raw := 64, agent := 4, tag := 9, st := .active, bmr := some 2, nonalloc := true, supply := true, dirway := some 5 })], order := [7] }, 4, 2, 4, 7, { op := .rdS, line := 64, raw := 64, agent := 4, tag := 9, st := .active, bmr := some 2, nonalloc := true, supply := true, dirway := some 5 }, { line := 64, htx := 7, data := some (77, false) }, 77, false, 5, by decide +kernel⟩,
    ⟨base.setHome 4 { base.home 4 with bmrs := [(2, { line := 64, order := 5, data := some (1, false) }), (3, { line := 65, order := 4, data := some (1, false) })] }, 4, 2, { line := 64, order := 5, data := some (1, false) }, by decide +kernel⟩,
    ⟨base.setHome 15 { base.home 15 with stopped := false, cxlWait := [(70, 7)], txs := [(7, { op := .rdNc, line := 70, raw := 70, agent := 4, tag := 9, st := .active, supply := true })], order := [7] }, 3, 15, 7, 70, { op := .rdNc, line := 70, raw := 70, agent := 4, tag := 9, st := .active, supply := true }, 77, false, by decide +kernel⟩,
    ⟨base, 3, 70, 77, false, by decide +kernel⟩,
    ⟨(base.setPort 2 { pers := 4, purlin := { st := 3, delay := 7, far := { port := 1 } } }).setPort 3 { pers := 4, purlin := { st := 3 } }, 2, 3, [(1, 2, 3)], by decide +kernel⟩,
    ⟨((base.setPort 2 { pers := 4, purlin := { st := 3, delay := 7, far := { port := 1 } } }).setPort 3 { pers := 4, purlin := { st := 3 } }).setFrame 0 { base.frame 0 with heard := [(3, [(1, 2, 3)])] }, 2, 3, [(1, 2, 3)], by decide +kernel⟩,
    ⟨(base.setPort 2 { pers := 4, purlin := { st := 3, delay := 7, far := { port := 1 } } }).setPort 3 { pers := 4, purlin := { st := 3 } }, 2, 7, by decide +kernel⟩,
    ⟨(base.setPort 2 { pers := 4, purlin := { st := 3, delay := 7, far := { port := 1 } } }).setPort 3 { pers := 4, purlin := { st := 3 } }, 2, 3, 900, by decide +kernel⟩,
    ⟨((base.setPort 2 { pers := 4, purlin := { st := 3, delay := 7, far := { port := 1 } } }).setPort 3 { pers := 4, purlin := { st := 3 } }).setFrame 0 { base.frame 0 with heardTime := [(3, 5)] }, 2, 3, 900, by decide +kernel⟩,
    ⟨(base.setPort 2 { pers := 4, purlin := { st := 3, delay := 7, far := { port := 1 } } }).setPort 3 { pers := 4, purlin := { st := 3 } }, 2, 900, by decide +kernel⟩,
    ⟨{ (base.setPort 2 { pers := 4, purlin := { st := 3, delay := 7, far := { port := 1 } } }).setPort 3 { pers := 4, purlin := { st := 3 } } with mtime := 1000 }, 2, 900, 5, by decide +kernel⟩,
    ⟨base, 2, 3, 4, 5, 6, 7, [(1, 2, 3)], Mgmt.digest 2 4, by decide +kernel⟩⟩

/-- States and operands that meet the hypotheses of FatalErrorsHaltTheirFrame. -/
theorem witness_FatalErrorsHaltTheirFrame :
    (∃ (s : State) (f : FrameId) (x y : BitVec 8),
      f.val < frameCount s.mode ∧
      s.isBooted f = true ∧
      (s.frame f).halted = false) ∧
    (∃ (s : State) (f : FrameId) (x y : BitVec 8),
      (frameCount s.mode ≤ f.val ∨ s.isBooted f = false ∨ (s.frame f).halted = true)) ∧
    (∃ (s : State) (h : Nat) (n : StudId) (f : Nat),
      h < 12 ∧
      Tab.get (s.home h).snpCred 0 n.val ≠ 0 ∧
      f = s.frameOfHome h ∧
      (s.frame f).halted = false) ∧
    (∃ (s : State) (h : Nat) (n : StudId) (f : Nat),
      (12 ≤ h ∧ h < 20) ∧
      Tab.get (s.home h).snpCred 0 n.val ≠ 0 ∧
      f = s.frameOfHome h ∧
      (s.frame f).halted = false) ∧
    (∃ (s : State) (h : Nat) (n : StudId),
      (20 ≤ h ∨ Tab.get (s.home h).snpCred 0 n.val = 0)) ∧
    (∃ (s : State) (p : PortId) (f : Nat),
      (s.port p).pers = 4 ∧
      (s.port p).purlin.st = 3 ∧
      f = s.frameOfPort p ∧
      (s.frame f).joinSt = 2 ∧
      (s.frame f).halted = false) ∧
    (∃ (s : State) (p : PortId),
      ((s.port p).pers ≠ 4 ∨ (s.port p).purlin.st ≠ 3 ∨ (s.frame (s.frameOfPort p)).halted = true ∨ (s.frame (s.frameOfPort p)).joinSt = 1)) ∧
    (∃ (s : State) (dst : Nat) (src : BitVec 6) (cls : BitVec 3) (op : BitVec 6) (f : Nat),
      f = (if agentOk dst then s.frameOfAgent dst else 0) ∧
      s.isBooted f = true ∧
      (s.frame f).nq.stalled = [] ∧
      (s.frame f).nq.held.length < 252 ∧
      f < frameCount s.mode) :=
  ⟨⟨{ base with plumb := { base.plumb with active := 4 }, frames := [(0, { booted := true }), (1, { booted := true })] }, 1, 0x13, 7, by decide +kernel⟩,
    ⟨base, 3, 0x13, 7, by decide +kernel⟩,
    ⟨base.setHome 3 { base.home 3 with snpCred := [(5, 2)] }, 3, 5, 0, by decide +kernel⟩,
    ⟨base.setHome 15 { base.home 15 with snpCred := [(5, 2)] }, 15, 5, 0, by decide +kernel⟩,
    ⟨base, 3, 5, by decide +kernel⟩,
    ⟨{ base with plumb := { base.plumb with active := 1 }, frames := [(0, { base.frame 0 with joinSt := 2, members := [0, 1] })], ports := [(2, { pers := 4, inReset := false, purlin := { st := 3, far := { pkg := 1 } } }), (3, { pers := 4, inReset := false, purlin := { st := 3, far := { pkg := 1 } } })] }, 2, 0, by decide +kernel⟩,
    ⟨base, 2, by decide +kernel⟩,
    ⟨base, 17, 3, 1, 60, 0, by decide +kernel⟩⟩

/-- States and operands that meet the hypotheses of TenonFlitsAndReplay. -/
theorem witness_TenonFlitsAndReplay :
    (∃ (s : State) (n : StudId) (d : TDirId) (m : Msg) (u : BitVec 128) (r : List (BitVec 128)),
      (s.tenon n).st = 2 ∧
      s.sillEnd n d = s ∧
      (∀ x ∈ (s.tdir n d).switches, (s.tdir n d).index < x.at_) ∧
      (d = .up ∨ m.op ≠ .msiWrite) ∧
      (s.tdir n d).discard = none ∧
      (s.tdir n d).partUnits = [] ∧
      unitOp u = some m.op ∧
      unitCount u = r.length + 1 ∧
      sameMsg (unitMsg m.op u r) m = true ∧
      msgUnits m = u :: r ∧
      s.net.all (fun k => k.loc != .tenon (dirNo d == 0) || k == m) = true ∧
      m.outP = none ∧
      s.net.filter (s.waitsAt n d) = [m] ∧
      (s.tdir n d).retry.find? (fun e => e.1 == (s.tdir n d).index) = none ∧
      (s.tdir n d).outU = [] ∧
      carries d (clsOf m.op) = true ∧
      r.length + 1 ≤ 4 * ((s.tdir n d).layout (clsOf m.op)).length ∧
      r.length + 1 ≤ (s.tdir n d).creditOf (clsOf m.op)) ∧
    (∃ (s : State) (n : StudId) (d : TDirId),
      (s.tenon n).st = 2 ∧
      s.sillEnd n d = s ∧
      (∀ x ∈ (s.tdir n d).switches, (s.tdir n d).index < x.at_) ∧
      (s.tdir n d).discard = none ∧
      s.net.filter (s.waitsAt n d) = [] ∧
      (s.tdir n d).retry.find? (fun e => e.1 == (s.tdir n d).index) = none ∧
      (s.tdir n d).outU = []) ∧
    (∃ (s : State) (n : StudId) (d : TDirId) (m : Msg) (u : BitVec 128) (r : List (BitVec 128)) (f : Flit),
      (s.tenon n).st = 2 ∧
      s.sillEnd n d = s ∧
      (∀ x ∈ (s.tdir n d).switches, (s.tdir n d).index < x.at_) ∧
      (d = .up ∨ m.op ≠ .msiWrite) ∧
      (s.tdir n d).discard = none ∧
      (s.tdir n d).partUnits = [] ∧
      unitOp u = some m.op ∧
      unitCount u = r.length + 1 ∧
      sameMsg (unitMsg m.op u r) m = true ∧
      msgUnits m = u :: r ∧
      s.net.all (fun k => k.loc != .tenon (dirNo d == 0) || k == m) = true ∧
      m.outP = none ∧
      m.loc = .tenon (dirNo d == 0) ∧
      s.net.count m = 1 ∧
      (s.tdir n d).retry.find? (fun e => e.1 == (s.tdir n d).index) = some ((s.tdir n d).index, [f]) ∧
      f.cls = clsOf m.op ∧
      f.read = (u, true) :: r.map (fun x => (x, false))) ∧
    (∃ (s : State) (n : StudId) (m : Msg) (u : BitVec 128) (r : List (BitVec 128)) (h file k id : Nat),
      (s.tenon n).st = 2 ∧
      s.sillEnd n .dn = s ∧
      (∀ x ∈ (s.tdir n .dn).switches, (s.tdir n .dn).index < x.at_) ∧
      (s.tdir n .dn).discard = none ∧
      (s.tdir n .dn).partUnits = [] ∧
      unitOp u = some m.op ∧
      unitCount u = r.length + 1 ∧
      sameMsg (unitMsg m.op u r) m = true ∧
      msgUnits m = u :: r ∧
      s.net.all (fun k => k.loc != .tenon (1 == 0) || k == m) = true ∧
      m.outP = none ∧
      m.op = .msiWrite ∧
      s.net.filter (s.waitsAt n .dn) = [m] ∧
      (s.tdir n .dn).retry.find? (fun e => e.1 == (s.tdir n .dn).index) = none ∧
      (s.tdir n .dn).outU = [] ∧
      r.length + 1 ≤ 4 * ((s.tdir n .dn).layout 4).length ∧
      r.length + 1 ≤ (s.tdir n .dn).creditOf 4 ∧
      msiFile m.hdr.line = (h, file) ∧
      s.coreOfHart (s.frameOfStud n) h = some k ∧
      id = m.data.toNat ∧
      (1 ≤ id ∧ id ≤ 2047)) ∧
    (∃ (s : State) (n : StudId) (d : TDirId),
      (s.tenon n).st = 2 ∧
      s.sillEnd n d = s ∧
      (∀ x ∈ (s.tdir n d).switches, (s.tdir n d).index < x.at_) ∧
      (s.tdir n d).discard.isSome = true) ∧
    (∃ (s : State) (n : StudId) (d : TDirId) (g k m : Nat),
      k < 64 ∧
      m < 8 ∧
      ((s.tdir n d).drives g 72 = 0x7F ∧ (s.tdir n d).drives g 73 = 0x7F)) ∧
    (∃ (s : State) (n : StudId) (d : TDirId) (g p a b m k : Nat),
      (p < 8 ∧ a < 8 ∧ b < 8 ∧ a ≠ b) ∧
      (m < 8 ∧ k < 8) ∧
      ((s.tdir n d).drives g 72 = 0x7F ∧ (s.tdir n d).drives g 73 = 0x7F)) ∧
    (∃ (s : State) (n : StudId) (d : TDirId) (g m : Nat),
      m < 8 ∧
      ((s.tdir n d).drives g 72 = 0x7F ∧ (s.tdir n d).drives g 73 = 0x7F)) ∧
    (∃ (s : State) (n : StudId) (d : TDirId) (g q : Fin 64) (fl : List (Fin 76 × Fin 8)) (w : Nat),
      (s.tenon n).st = 2 ∧
      (s.tdir n d).checked g = true ∧
      (s.tdir n d).parityWires g ((fl.map (fun x => (x.1.val, x.2.val))).eraseDups) = [(w, 1)] ∧
      (s.tdir n d).off g = false ∧
      (∀ x ∈ (s.tdir n d).switches, (s.tdir n d).index < x.at_) ∧
      (s.tdir n d).discard = none ∧
      (s.tdir n d).index % 64 = q.val ∧
      (s.tdir n d).count g w + 1 < s.wireThresh ∧
      s.wireThresh ≤ 255 ∧
      Tab.rising (s.tdir n d).runs = true ∧
      ((if (s.tdir n d).runSeq = some q.val ∧ (s.tdir n d).failing.contains g.val = true then Tab.get (s.tdir n d).runs 0 g.val + 1 else 1) < 8)) ∧
    (∃ (s : State) (n : StudId) (d : TDirId) (g q : Fin 64) (fl : List (Fin 76 × Fin 8)) (w : Nat) (e : Nat),
      (s.tenon n).st = 2 ∧
      (s.tdir n d).checked g = true ∧
      (s.tdir n d).parityWires g ((fl.map (fun x => (x.1.val, x.2.val))).eraseDups) = [(w, 1)] ∧
      (s.tdir n d).off g = false ∧
      (s.tdir n d).count g w + 1 < s.wireThresh ∧
      s.wireThresh ≤ 255 ∧
      (s.tdir n d).discard = some e ∧
      e % 64 = q.val ∧
      (s.tdir n d).index = e + 1 ∧
      (s.tdir n d).failing.contains g.val = false ∧
      Tab.get (s.tdir n d).runs 0 g.val < 7) ∧
    (∃ (s : State) (n : StudId) (d : TDirId) (g q : Fin 64) (fl : List (Fin 76 × Fin 8)) (w : Nat),
      (s.tenon n).st = 2 ∧
      (s.tdir n d).checked g = true ∧
      (s.tdir n d).parityWires g ((fl.map (fun x => (x.1.val, x.2.val))).eraseDups) = [(w, 1)] ∧
      (s.tdir n d).off g = false ∧
      (∀ x ∈ (s.tdir n d).switches, (s.tdir n d).index < x.at_) ∧
      (s.tdir n d).discard = none ∧
      (s.tdir n d).index % 64 = q.val ∧
      s.wireThresh ≤ (s.tdir n d).count g w + 1 ∧
      s.wireThresh ≤ 255 ∧
      w < 72 ∧
      4 ≤ s.wireThresh ∧
      ((s.tdir n d).cross = [] ∧ (s.tdir n d).deferred = []) ∧
      (s.tdir n d).count g w < 255 ∧
      (s.tdir n d).gone g = false ∧
      (s.tdir n d).reqs = [] ∧
      ((s.tdir n d).held g 72 = 0x7F ∧ (s.tdir n d).held g 73 = 0x7F) ∧
      Tab.rising (s.tdir n d).runs = true ∧
      ((if (s.tdir n d).runSeq = some q.val ∧ (s.tdir n d).failing.contains g.val = true then Tab.get (s.tdir n d).runs 0 g.val + 1 else 1) < 8)) ∧
    (∃ (s : State) (n : StudId) (d : TDirId) (g q : Fin 64) (fl : List (Fin 76 × Fin 8)) (w : Nat),
      (s.tenon n).st = 2 ∧
      (s.tdir n d).checked g = true ∧
      (s.tdir n d).parityWires g ((fl.map (fun x => (x.1.val, x.2.val))).eraseDups) = [(w, 1)] ∧
      (s.tdir n d).off g = false ∧
      (∀ x ∈ (s.tdir n d).switches, (s.tdir n d).index < x.at_) ∧
      (s.tdir n d).discard = none ∧
      (s.tdir n d).index % 64 = q.val ∧
      (s.tdir n d).count g w + 1 < s.wireThresh ∧
      s.wireThresh ≤ 255 ∧
      (s.tdir n d).gone g = false ∧
      (s.tdir n d).reqs = [] ∧
      Tab.rising (s.tdir n d).runs = true ∧
      ((if (s.tdir n d).runSeq = some q.val ∧ (s.tdir n d).failing.contains g.val = true then Tab.get (s.tdir n d).runs 0 g.val + 1 else 1) = 8)) ∧
    (∃ (s : State) (n : StudId) (d : TDirId) (q g : Fin 64) (cnt : BitVec 7) (i : Nat),
      (s.tenon n).st = 2 ∧
      ((s.tdir n d).retry.map (·.1)).filter (fun i => i % 64 == q.val && decide ((s.tdir n d).index < i + 65)) = [i]) ∧
    (∃ (s : State) (n : StudId) (d : TDirId) (q g : Fin 64) (cnt : BitVec 7),
      (s.tenon n).st = 2 ∧
      ((s.tdir n d).retry.map (·.1)).filter (fun i => i % 64 == q.val && decide ((s.tdir n d).index < i + 65)) = []) ∧
    (∃ (s : State) (n : StudId) (d : TDirId) (q : Nat),
      (s.tenon n).st = 2 ∧
      (s.tdir n d).nakSeq = some q) ∧
    (∃ (s : State) (n : StudId) (d : TDirId) (a b c e f : BitVec 12),
      ((s.tenon n).st = 2 ∨ (s.tenon n).st = 3)) ∧
    (∃ (s : State) (n : StudId) (d : TDirId) (i : Instr) (g q : Fin 64) (fl : List (Fin 76 × Fin 8)) (a b c e f : BitVec 12) (w sp cnt : BitVec 7) (cs : BitVec 5),
      ((s.tenon n).st ≠ 2 ∧ (s.tenon n).st ≠ 3) ∧
      i ∈ ([.tenonFlitReceived n d, .tenonParityError n d g q fl, .nak n d q g cnt, .nakResendTimeout n d, .credit n d a b c e f, .steerReq n d g w sp, .steerReqResend n d, .retireReq n d g cs, .rotationPeriod n d, .rotReq n d g, .layoutSwitch n d, .clockLockLoss n d g, .leakPeriod n d, .park n, .wake n] : List Instr)) :=
  ⟨⟨{ base.setTenon 4 { st := 2, up := { cls := assignClasses 0, index := 7 } } with net := [{ op := .rdS, hdr := { src := 4, dst := 17, line := 100, tag := 3 }, loc := .src }] }, 4, .up, { op := .rdS, hdr := { src := 4, dst := 17, line := 100, tag := 3 }, loc := .src }, hdrUnit .rdS { src := 4, dst := 17, line := 100, tag := 3 }, [], by decide +kernel⟩,
    ⟨base.setTenon 4 { st := 2, up := { index := 7, cls := assignClasses 0 } }, 4, .up, by decide +kernel⟩,
    ⟨{ base.setTenon 4 { st := 2, up := { cls := assignClasses 0, index := 7, retry := [(7, [{ group := 48, cls := 0, units := [(hdrUnit .rdS { src := 4, dst := 17, line := 100, tag := 3 }, true)] }])] } } with net := [{ op := .rdS, hdr := { src := 4, dst := 17, line := 100, tag := 3 }, loc := .tenon true }] }, 4, .up, { op := .rdS, hdr := { src := 4, dst := 17, line := 100, tag := 3 }, loc := .tenon true }, hdrUnit .rdS { src := 4, dst := 17, line := 100, tag := 3 }, [], { group := 48, cls := 0, units := [(hdrUnit .rdS { src := 4, dst := 17, line := 100, tag := 3 }, true)] }, by decide +kernel⟩,
    ⟨{ base.setTenon 4 { st := 2, dn := { index := 7, cls := assignClasses 0 } } with net := [{ op := .msiWrite, hdr := { src := 32, dst := 4, line := msiLine 130 0, tag := 0 }, data := 9, loc := .end_ }] }, 4, { op := .msiWrite, hdr := { src := 32, dst := 4, line := msiLine 130 0, tag := 0 }, data := 9, loc := .end_ }, hdrUnit .msiWrite { src := 32, dst := 4, line := msiLine 130 0, tag := 0 }, [9], 130, 0, 130, 9, by decide +kernel⟩,
    ⟨{ base.setTenon 4 { st := 2, up := { cls := assignClasses 0, index := 7, discard := some 6 } } with net := [{ op := .rdS, hdr := { src := 4, dst := 17, line := 100, tag := 3 }, loc := .src }] }, 4, .up, by decide +kernel⟩,
    ⟨base.setTenon 4 { st := 2, up := { cls := assignClasses 0 } }, 4, .up, 5, 9, 3, by decide +kernel⟩,
    ⟨base.setTenon 4 { st := 2, up := { cls := assignClasses 0 } }, 4, .up, 5, 2, 1, 3, 0, 7, by decide +kernel⟩,
    ⟨base.setTenon 4 { st := 2, up := { cls := assignClasses 0 } }, 4, .up, 5, 3, by decide +kernel⟩,
    ⟨base.setTenon 4 { st := 2, up := { index := 7, cls := assignClasses 0 } }, 4, .up, 5, 7, [(9, 3)], 9, by decide +kernel⟩,
    ⟨base.setTenon 4 { st := 2, up := { index := 8, discard := some 7, failing := [6], runSeq := some 7, cls := assignClasses 0 } }, 4, .up, 5, 7, [(9, 3)], 9, 7, by decide +kernel⟩,
    ⟨base.setTenon 4 { st := 2, up := { index := 7, counts := [(649, 15)], cls := assignClasses 0 } }, 4, .up, 5, 7, [(9, 3)], 9, by decide +kernel⟩,
    ⟨base.setTenon 4 { st := 2, up := { index := 7, runs := [(5, 7)], runSeq := some 7, failing := [5], cls := assignClasses 0 } }, 4, .up, 5, 7, [(9, 3)], 9, by decide +kernel⟩,
    ⟨base.setTenon 4 { st := 2, up := { index := 9, retry := [(7, []), (8, [])], discard := some 7, cls := assignClasses 0 } }, 4, .up, 7, 0, 1, 7, by decide +kernel⟩,
    ⟨base.setTenon 4 { st := 2, up := { index := 90, retry := [(7, [])], cls := assignClasses 0 } }, 4, .up, 7, 0, 1, by decide +kernel⟩,
    ⟨base.setTenon 4 { st := 2, up := { index := 9, nakSeq := some 7, failing := [3], cls := assignClasses 0 } }, 4, .up, 7, by decide +kernel⟩,
    ⟨base.setTenon 4 { st := 2, up := { seenCr := [(0, 4090)], cls := assignClasses 0 } }, 4, .up, 4, 1, 2, 3, 4, by decide +kernel⟩,
    ⟨base.setTenon 4 { st := 1 }, 4, .up, .wake 4, 5, 7, [], 0, 0, 0, 0, 0, 9, 72, 1, 1, by decide +kernel⟩⟩

/-- States and operands that meet the hypotheses of TenonRepair. -/
theorem witness_TenonRepair :
    (∃ (s : State) (n : StudId) (d : TDirId) (g : Fin 64) (w sp : BitVec 7),
      (s.tenon n).st = 2 ∧
      (s.tdir n d).committed (fun x => x.kind == 0 && x.group == g.val && x.wire == w.toNat && x.spare == sp.toNat) = none ∧
      (s.tdir n d).gone g = false ∧
      steerable w.toNat = true ∧
      (sp.toNat = 72 ∨ sp.toNat = 73) ∧
      (s.tdir n d).held g sp.toNat = 0x7F) ∧
    (∃ (s : State) (n : StudId) (d : TDirId) (g : Fin 64) (w sp : BitVec 7) (x : Switch),
      (s.tenon n).st = 2 ∧
      (s.tdir n d).committed (fun x => x.kind == 0 && x.group == g.val && x.wire == w.toNat && x.spare == sp.toNat) = some x) ∧
    (∃ (s : State) (n : StudId) (d : TDirId) (g : Fin 64) (w sp : BitVec 7),
      (s.tenon n).st = 2 ∧
      (s.tdir n d).committed (fun x => x.kind == 0 && x.group == g.val && x.wire == w.toNat && x.spare == sp.toNat) = none ∧
      ((s.tdir n d).gone g = true ∨ steerable w.toNat = false ∨ (sp.toNat ≠ 72 ∧ sp.toNat ≠ 73) ∨ (s.tdir n d).held g sp.toNat ≠ 0x7F)) ∧
    (∃ (s : State) (n : StudId) (d : TDirId) (g : Fin 64) (w sp : BitVec 7) (flit : Nat) (r : Req) (x : Switch),
      (s.tdir n d).reqs = [r] ∧
      (r.kind = 0 ∧ r.group = g.val ∧ r.wire = w.toNat ∧ r.spare = sp.toNat) ∧
      (s.tdir n d).switches = [x] ∧
      ((s.tdir n d).past = [] ∧ (s.tdir n d).cross = [] ∧ (s.tdir n d).back = false) ∧
      (x.kind = 0 ∧ x.group = g.val ∧ x.wire = w.toNat ∧ x.spare = sp.toNat)) ∧
    (∃ (s : State) (n : StudId) (d : TDirId) (r : Req) (f : SbFrame),
      (s.tenon n).st = 2 ∧
      (s.tdir n d).reqs = [r] ∧
      f = (if r.kind = 0 then steerFrame r.group r.wire r.spare none else if r.kind = 1 then retireFrame r.group r.cause none else rotFrame r.group none)) ∧
    (∃ (s : State) (n : StudId) (d : TDirId) (g : Fin 64) (c : BitVec 5),
      (s.tenon n).st = 2 ∧
      (s.tdir n d).committed (fun x => x.kind == 1 && x.group == g.val) = none ∧
      (s.tdir n d).gone g = false ∧
      (33 ≤ (s.tenon n).up.width ∧ 33 ≤ (s.tenon n).dn.width)) ∧
    (∃ (s : State) (n : StudId) (d : TDirId) (g : Fin 64) (c : BitVec 5) (x : Switch),
      (s.tenon n).st = 2 ∧
      (s.tdir n d).committed (fun x => x.kind == 1 && x.group == g.val) = some x) ∧
    (∃ (s : State) (n : StudId) (d : TDirId) (g : Fin 64) (c : BitVec 5),
      (s.tenon n).st = 2 ∧
      (s.tdir n d).committed (fun x => x.kind == 1 && x.group == g.val) = none ∧
      (s.tdir n d).gone g = false ∧
      g.val < 63 ∧
      (s.tdir n d).width ≤ 32) ∧
    (∃ (s : State) (n : StudId) (d : TDirId) (g : Fin 64) (flit : Nat) (r : Req) (x : Switch),
      (s.tdir n d).reqs = [r] ∧
      (r.kind = 1 ∧ r.group = g.val) ∧
      (s.tdir n d).switches = [x] ∧
      ((s.tdir n d).past = [] ∧ (s.tdir n d).cross = []) ∧
      (x.kind = 1 ∧ x.group = g.val)) ∧
    (∃ (s : State) (n : StudId) (d : TDirId) (g : Fin 64),
      (s.tenon n).st = 2 ∧
      (s.tdir n d).gone g = false ∧
      (s.tdir n d).asked 1 g = false) ∧
    (∃ (s : State) (n : StudId) (d : TDirId) (g : Fin 64),
      (s.tenon n).st = 3 ∧
      (s.tdir n d).gone g = false) ∧
    (∃ (s : State) (n : StudId) (d : TDirId) (g : Fin 64),
      ((s.tdir n d).gone g = true ∨ (s.tdir n d).asked 1 g = true ∧ (s.tenon n).st = 2)) ∧
    (∃ (s : State) (n : StudId) (d : TDirId) (g : Fin 64) (w : BitVec 7) (k : Nat),
      (s.tenon n).st = 2 ∧
      (w.toNat = 72 ∨ w.toNat = 73) ∧
      (s.tdir n d).drives g w.toNat = 0x7F ∧
      (s.tdir n d).off g = false ∧
      (s.tdir n d).held g w.toNat ≠ 0x7E ∧
      (s.tdir n d).count g w.toNat + k < s.wireThresh ∧
      s.wireThresh ≤ 255) ∧
    (∃ (s : State) (n : StudId) (d : TDirId) (g : Fin 64) (w : BitVec 7) (k : Nat),
      (s.tenon n).st = 2 ∧
      (w.toNat = 72 ∨ w.toNat = 73) ∧
      (s.tdir n d).drives g w.toNat = 0x7F ∧
      (s.tdir n d).off g = false ∧
      (s.tdir n d).gone g = false ∧
      ((s.tdir n d).asked 0 g = false ∧ (s.tdir n d).asked 1 g = false) ∧
      (s.tdir n d).held g w.toNat = 0x7F ∧
      (s.tdir n d).standsFor g w.toNat = false ∧
      0 < k ∧
      s.wireThresh ≤ (s.tdir n d).count g w.toNat + k ∧
      s.wireThresh ≤ 255) ∧
    (∃ (s : State) (n : StudId) (d : TDirId),
      ((s.tenon n).st = 2 ∨ (s.tenon n).st = 3) ∧
      Tab.rising (s.tdir n d).counts = true) ∧
    (∃ (s : State) (n : StudId) (d : TDirId) (c : Fin 2),
      ((s.tenon n).st ≠ 0 ∧ (s.tenon n).st ≠ 4) ∧
      (s.tdir n d).copyBad = []) ∧
    (∃ (s : State) (n : StudId) (d : TDirId) (c e : Fin 2),
      ((s.tenon n).st ≠ 0 ∧ (s.tenon n).st ≠ 4) ∧
      (s.tdir n d).copyBad = [e] ∧
      c ≠ e) ∧
    (∃ (s : State) (n : StudId) (d : TDirId) (c : Fin 2),
      ((s.tdir n d).copyBad.contains c = true ∨ (s.tenon n).st = 0 ∨ (s.tenon n).st = 4)) :=
  ⟨⟨base.setTenon 4 { st := 2, up := { index := 7, cls := assignClasses 0 } }, 4, .up, 5, 9, 72, by decide +kernel⟩,
    ⟨base.setTenon 4 { st := 2, up := { switches := [{ group := 5, wire := 9, spare := 72, at_ := 20 }], cls := assignClasses 0 } }, 4, .up, 5, 9, 72, { group := 5, wire := 9, spare := 72, at_ := 20 }, by decide +kernel⟩,
    ⟨base.setTenon 4 { st := 2, up := { retired := 32, cls := assignClasses 0 } }, 4, .up, 5, 9, 72, by decide +kernel⟩,
    ⟨base.setTenon 4 { st := 2, up := { reqs := [{ group := 5, wire := 9, spare := 72 }], switches := [{ group := 5, wire := 9, spare := 72, at_ := 20 }], cls := assignClasses 0 } }, 4, .up, 5, 9, 72, 33, { group := 5, wire := 9, spare := 72 }, { group := 5, wire := 9, spare := 72, at_ := 20 }, by decide +kernel⟩,
    ⟨base.setTenon 4 { st := 2, up := { reqs := [{ kind := 1, group := 6, cause := 2 }], cls := assignClasses 0 } }, 4, .up, { kind := 1, group := 6, cause := 2 }, retireFrame 6 2 none, by decide +kernel⟩,
    ⟨base.setTenon 4 { st := 2, up := { index := 7, cls := assignClasses 0 } }, 4, .up, 5, 1, by decide +kernel⟩,
    ⟨base.setTenon 4 { st := 2, up := { switches := [{ group := 5, kind := 1, at_ := 20 }], cls := assignClasses 0 } }, 4, .up, 5, 1, { group := 5, kind := 1, at_ := 20 }, by decide +kernel⟩,
    ⟨base.setTenon 4 { st := 2, up := { retired := 0xFFFFFFFF, cls := assignClasses 0 } }, 4, .up, 40, 1, by decide +kernel⟩,
    ⟨base.setTenon 4 { st := 2, up := { reqs := [{ kind := 1, group := 5, cause := 2 }], switches := [{ group := 5, kind := 1, at_ := 20 }], cls := assignClasses 0 } }, 4, .up, 5, 33, { kind := 1, group := 5, cause := 2 }, { group := 5, kind := 1, at_ := 20 }, by decide +kernel⟩,
    ⟨base.setTenon 4 { st := 2, up := { cls := assignClasses 0 } }, 4, .up, 5, by decide +kernel⟩,
    ⟨base.setTenon 4 { st := 3 }, 4, .up, 5, by decide +kernel⟩,
    ⟨base.setTenon 4 { st := 2, up := { retired := 32, cls := assignClasses 0 } }, 4, .up, 5, by decide +kernel⟩,
    ⟨base.setTenon 4 { st := 2, up := { cls := assignClasses 0 } }, 4, .up, 5, 73, 3, by decide +kernel⟩,
    ⟨base.setTenon 4 { st := 2, up := { cls := assignClasses 0 } }, 4, .up, 5, 73, 16, by decide +kernel⟩,
    ⟨base.setTenon 4 { st := 2, up := { counts := [(650, 3), (651, 1)], cls := assignClasses 0 } }, 4, .up, by decide +kernel⟩,
    ⟨base.setTenon 4 { st := 2, up := { cls := assignClasses 0 } }, 4, .up, 1, by decide +kernel⟩,
    ⟨base.setTenon 4 { st := 2, up := { copyBad := [1], cls := assignClasses 0 } }, 4, .up, 0, 1, by decide +kernel⟩,
    ⟨base.setTenon 4 { st := 2, up := { copyBad := [1], cls := assignClasses 0 } }, 4, .up, 1, by decide +kernel⟩⟩

/-- States and operands that meet the hypotheses of TenonRotationAndParking. -/
theorem witness_TenonRotationAndParking :
    (∃ (s : State) (n : StudId) (d : TDirId) (g : Nat),
      (s.tenon n).st = 2 ∧
      (s.tdir n d).gone 63 = false ∧
      (s.tdir n d).testing = none ∧
      (s.tdir n d).reqs.any (·.kind == 2) = false ∧
      (s.tdir n d).switches.any (fun x => decide (2 ≤ x.kind)) = false ∧
      (s.tdir n d).rotGroups.find? ((s.tdir n d).rotNext ≤ ·) = some g) ∧
    (∃ (s : State) (n : StudId) (d : TDirId) (g : Nat),
      (s.tenon n).st = 2 ∧
      (s.tdir n d).gone 63 = false ∧
      (s.tdir n d).testing = none ∧
      (s.tdir n d).reqs.any (·.kind == 2) = false ∧
      (s.tdir n d).switches.any (fun x => decide (2 ≤ x.kind)) = false ∧
      (s.tdir n d).rotGroups.find? ((s.tdir n d).rotNext ≤ ·) = none ∧
      (s.tdir n d).rotGroups.head? = some g) ∧
    (∃ (s : State) (n : StudId) (d : TDirId),
      (s.tenon n).st = 2 ∧
      ((s.tdir n d).gone 63 = true ∨ (s.tdir n d).testing.isSome = true ∨ (s.tdir n d).reqs.any (·.kind == 2) = true)) ∧
    (∃ (s : State) (n : StudId) (d : TDirId),
      (s.tenon n).st = 3) ∧
    (∃ (s : State) (n : StudId) (d : TDirId) (g : Fin 64),
      (s.tenon n).st = 2 ∧
      (s.tdir n d).committed (fun x => decide (2 ≤ x.kind) && x.group == g.val) = none ∧
      (s.tdir n d).gone 63 = false ∧
      (s.tdir n d).gone g = false ∧
      g.val ≠ 63 ∧
      (s.tdir n d).testing = none) ∧
    (∃ (s : State) (n : StudId) (d : TDirId) (g : Fin 64),
      (s.tenon n).st = 2 ∧
      (s.tdir n d).committed (fun x => decide (2 ≤ x.kind) && x.group == g.val) = none ∧
      (s.tdir n d).gone 63 = false ∧
      (s.tdir n d).gone g = false ∧
      g.val ≠ 63 ∧
      (s.tdir n d).testing = some g.val ∧
      ((s.tdir n d).asked 0 g = false ∧ (s.tdir n d).asked 1 g = false)) ∧
    (∃ (s : State) (n : StudId) (d : TDirId) (g : Fin 64) (x : Switch),
      (s.tenon n).st = 2 ∧
      (s.tdir n d).committed (fun x => decide (2 ≤ x.kind) && x.group == g.val) = some x) ∧
    (∃ (s : State) (n : StudId) (d : TDirId) (g : Fin 64) (flit : Nat) (r : Req) (x : Switch),
      (s.tdir n d).reqs = [r] ∧
      (r.kind = 2 ∧ r.group = g.val) ∧
      (s.tdir n d).switches = [x] ∧
      (s.tdir n d).past = [] ∧
      (2 ≤ x.kind ∧ x.group = g.val)) ∧
    (∃ (s : State) (n : StudId) (d : TDirId) (g : Nat),
      (s.tenon n).st = 2 ∧
      (s.tdir n d).testing = some g ∧
      (s.tdir n d).back = false ∧
      ((s.tdir n d).reqs = [] ∧ (s.tdir n d).cross = [] ∧ (s.tdir n d).switches = [])) ∧
    (∃ (s : State) (n : StudId) (d : TDirId) (g w k : Nat),
      (s.tenon n).st = 2 ∧
      (s.tdir n d).testing = some g ∧
      (s.tdir n d).back = false ∧
      ((s.tdir n d).reqs = [] ∧ (s.tdir n d).cross = [] ∧ (s.tdir n d).switches = []) ∧
      (w < 76 ∧ w ≠ 74) ∧
      (s.tdir n d).off g = false ∧
      (s.tdir n d).count g w + k < s.wireThresh ∧
      s.wireThresh ≤ 255) ∧
    (∃ (s : State) (n : StudId) (d : TDirId) (x : Switch),
      (s.tenon n).st = 2 ∧
      (s.tdir n d).switches = [x] ∧
      x.at_ ≤ (s.tdir n d).index ∧
      (s.tdir n d).asked (min x.kind 2) x.group = false ∧
      (32 ≤ (s.tenon n).up.width ∧ 32 ≤ (s.tenon n).dn.width) ∧
      x.kind = 0 ∧
      (x.spare = 72 ∨ x.spare = 73) ∧
      (s.tdir n d).drives x.group (145 - x.spare) ≠ x.wire) ∧
    (∃ (s : State) (n : StudId) (d : TDirId) (x : Switch),
      (s.tenon n).st = 2 ∧
      (s.tdir n d).switches = [x] ∧
      x.at_ ≤ (s.tdir n d).index ∧
      (s.tdir n d).asked (min x.kind 2) x.group = false ∧
      (32 ≤ (s.tenon n).up.width ∧ 32 ≤ (s.tenon n).dn.width) ∧
      x.kind = 1 ∧
      (x.cause = 0 ∨ (s.tdir n d).discard = none) ∧
      ((s.tdir n d).testing = none ∧ (s.tdir n d).back = false)) ∧
    (∃ (s : State) (n : StudId) (d : TDirId) (x : Switch),
      (s.tenon n).st = 2 ∧
      (s.tdir n d).switches = [x] ∧
      x.at_ ≤ (s.tdir n d).index ∧
      (s.tdir n d).asked (min x.kind 2) x.group = false ∧
      (32 ≤ (s.tenon n).up.width ∧ 32 ≤ (s.tenon n).dn.width) ∧
      x.kind = 2 ∧
      (s.tdir n d).gone 63 = false ∧
      (s.tdir n d).gone x.group = false) ∧
    (∃ (s : State) (n : StudId) (d : TDirId) (x : Switch),
      (s.tenon n).st = 2 ∧
      (s.tdir n d).switches = [x] ∧
      x.at_ ≤ (s.tdir n d).index ∧
      (s.tdir n d).asked (min x.kind 2) x.group = false ∧
      (32 ≤ (s.tenon n).up.width ∧ 32 ≤ (s.tenon n).dn.width) ∧
      x.kind = 3) ∧
    (∃ (s : State) (n : StudId) (d : TDirId) (x : Switch),
      (s.tenon n).st = 2 ∧
      (s.tdir n d).switches = [x] ∧
      (s.tdir n d).index < x.at_ ∧
      (s.tdir n d).asked (min x.kind 2) x.group = false ∧
      (x.kind = 0 ∧ (x.spare = 72 ∨ x.spare = 73)) ∧
      (32 ≤ (s.tenon n).up.width ∧ 32 ≤ (s.tenon n).dn.width) ∧
      (∀ e ∈ (s.tdir n d).retry, e.1 < (s.tdir n d).index) ∧
      s.net.filter (s.waitsAt n d) = [] ∧
      (s.tdir n d).outU = [] ∧
      (s.tdir n d).discard = none) ∧
    (∃ (s : State) (n : StudId) (d : TDirId),
      (s.tdir n d).switches = []) ∧
    (∃ (s : State) (n : StudId),
      (s.tenon n).st = 2 ∧
      (s.stud n).domDeep = true ∧
      s.allDeep n = true) ∧
    (∃ (s : State) (n : StudId),
      ((s.stud n).domDeep = false ∨ s.allDeep n = false)) ∧
    (∃ (s : State) (n : StudId),
      (s.tenon n).st = 3 ∧
      ((s.tenon n).up.deferred = [] ∧ (s.tenon n).up.rotDue = false) ∧
      ((s.tenon n).dn.deferred = [] ∧ (s.tenon n).dn.rotDue = false) ∧
      ((s.stud n).msgHeld = [] ∧ (s.stud n).msgWait = [])) ∧
    (∃ (s : State) (n : StudId) (m : Msg),
      (s.tenon n).st = 3 ∧
      ((s.tenon n).up.deferred = [] ∧ (s.tenon n).up.rotDue = false) ∧
      ((s.tenon n).dn.deferred = [] ∧ (s.tenon n).dn.rotDue = false) ∧
      ((s.stud n).msgHeld = [m] ∧ (s.stud n).msgWait = [])) ∧
    (∃ (s : State) (n : StudId) (x : Cross),
      (s.tenon n).st = 3 ∧
      ((s.tenon n).up.deferred = [x] ∧ (s.tenon n).up.rotDue = false) ∧
      ((s.tenon n).dn.deferred = [] ∧ (s.tenon n).dn.rotDue = false) ∧
      (s.tenon n).up.gone x.group = false ∧
      (s.tenon n).up.reqs = [] ∧
      x.wire < 72 ∧
      ((s.tenon n).up.held x.group 72 = 0x7F ∧ (s.tenon n).up.held x.group 73 = 0x7F) ∧
      ((s.stud n).msgHeld = [] ∧ (s.stud n).msgWait = [])) :=
  ⟨⟨base.setTenon 4 { st := 2, up := { rotNext := 3, retired := 8, cls := assignClasses 0 } }, 4, .up, 4, by decide +kernel⟩,
    ⟨base.setTenon 4 { st := 2, up := { rotNext := 63, retired := 1, cls := assignClasses 0 } }, 4, .up, 1, by decide +kernel⟩,
    ⟨base.setTenon 4 { st := 2, up := { testing := some 3, cls := assignClasses 0 } }, 4, .up, by decide +kernel⟩,
    ⟨base.setTenon 4 { st := 3 }, 4, .up, by decide +kernel⟩,
    ⟨base.setTenon 4 { st := 2, up := { index := 7, cls := assignClasses 0 } }, 4, .up, 5, by decide +kernel⟩,
    ⟨base.setTenon 4 { st := 2, up := { index := 7, testing := some 5, cls := assignClasses 0 } }, 4, .up, 5, by decide +kernel⟩,
    ⟨base.setTenon 4 { st := 2, up := { switches := [{ group := 5, kind := 2, at_ := 20 }], cls := assignClasses 0 } }, 4, .up, 5, { group := 5, kind := 2, at_ := 20 }, by decide +kernel⟩,
    ⟨base.setTenon 4 { st := 2, up := { reqs := [{ kind := 2, group := 5 }], switches := [{ group := 5, kind := 2, at_ := 20 }], cls := assignClasses 0 } }, 4, .up, 5, 33, { kind := 2, group := 5 }, { group := 5, kind := 2, at_ := 20 }, by decide +kernel⟩,
    ⟨base.setTenon 4 { st := 2, up := { testing := some 5, cls := assignClasses 0 } }, 4, .up, 5, by decide +kernel⟩,
    ⟨base.setTenon 4 { st := 2, up := { testing := some 5, cls := assignClasses 0 } }, 4, .up, 5, 9, 3, by decide +kernel⟩,
    ⟨base.setTenon 4 { st := 2, up := { index := 20, switches := [{ group := 5, kind := 0, at_ := 20, spare := 72, wire := 9 }], cls := assignClasses 0 } }, 4, .up, { group := 5, kind := 0, at_ := 20, spare := 72, wire := 9 }, by decide +kernel⟩,
    ⟨base.setTenon 4 { st := 2, up := { index := 20, switches := [{ group := 5, kind := 1, at_ := 20 }], retired := 32, cls := assignClasses 0 } }, 4, .up, { group := 5, kind := 1, at_ := 20 }, by decide +kernel⟩,
    ⟨base.setTenon 4 { st := 2, up := { index := 20, switches := [{ group := 5, kind := 2, at_ := 20 }], cls := assignClasses 0 } }, 4, .up, { group := 5, kind := 2, at_ := 20 }, by decide +kernel⟩,
    ⟨base.setTenon 4 { st := 2, up := { index := 20, switches := [{ group := 5, kind := 3, at_ := 20 }], testing := some 5, cls := assignClasses 0 } }, 4, .up, { group := 5, kind := 3, at_ := 20 }, by decide +kernel⟩,
    ⟨base.setTenon 4 { st := 2, up := { index := 7, switches := [{ group := 5, kind := 0, at_ := 20, spare := 72, wire := 9 }], cls := assignClasses 0 } }, 4, .up, { group := 5, kind := 0, at_ := 20, spare := 72, wire := 9 }, by decide +kernel⟩,
    ⟨base.setTenon 4 { st := 2, up := { cls := assignClasses 0 } }, 4, .up, by decide +kernel⟩,
    ⟨(base.setTenon 4 { st := 2, up := { testing := some 5 } }).setStud 4 { domDeep := true, cores := 0 }, 4, by decide +kernel⟩,
    ⟨base, 0, by decide +kernel⟩,
    ⟨base.setTenon 4 { st := 3 }, 4, by decide +kernel⟩,
    ⟨(base.setTenon 4 { st := 3 }).setStud 4 { base.stud 4 with msgHeld := [{ op := .msiWrite, hdr := { dst := 130, tag := 1 }, data := 9 }] }, 4, { op := .msiWrite, hdr := { dst := 130, tag := 1 }, data := 9 }, by decide +kernel⟩,
    ⟨base.setTenon 4 { st := 3, up := { deferred := [{ group := 5, wire := 9, count := 16 }] } }, 4, { group := 5, wire := 9, count := 16 }, by decide +kernel⟩⟩

/-- States and operands that meet the hypotheses of MemoryQueues. -/
theorem witness_MemoryQueues :
    (∃ (s : State) (c : ChanId) (b : Fin 12) (line x : Nat) (k : Nat) (r : Bmr),
      (s.chan c).st = 2 ∧
      s.localOf b line = (c.val, x) ∧
      (s.home b).bmrOf line = some (k, r) ∧
      queueRoom ((s.chan c).rq.map (·.src)) b = true ∧
      (s.chan c).rq.any (fun e => e.src == b.val && e.line == line) = false ∧
      (s.chan c).wq.any (fun e => e.x == x) = false) ∧
    (∃ (s : State) (c : ChanId) (b : Fin 12) (line x : Nat) (k : Nat) (r : Bmr),
      (s.chan c).st = 2 ∧
      s.localOf b line = (c.val, x) ∧
      (s.home b).bmrOf line = some (k, r) ∧
      queueRoom ((s.chan c).rq.map (·.src)) b = true ∧
      (s.chan c).rq.any (fun e => e.src == b.val && e.line == line) = false ∧
      (s.chan c).wq.any (fun e => e.x == x) = false ∧
      s.chanLow c = true) ∧
    (∃ (s : State) (c : ChanId) (b : Fin 12) (line x : Nat) (k : Nat) (r : Bmr),
      (s.chan c).st = 2 ∧
      s.localOf b line = (c.val, x) ∧
      (s.home b).bmrOf line = some (k, r) ∧
      queueRoom ((s.chan c).rq.map (·.src)) b = true ∧
      (s.chan c).rq.any (fun e => e.src == b.val && e.line == line) = false ∧
      (s.chan c).wq.any (fun e => e.x == x) = false ∧
      (s.chan c).lines ≤ x) ∧
    (∃ (s : State) (c : ChanId) (b : Fin 12) (line x : Nat) (k : Nat) (r : Bmr) (w : WrEnt),
      (s.chan c).st = 2 ∧
      s.localOf b line = (c.val, x) ∧
      (s.home b).bmrOf line = some (k, r) ∧
      queueRoom ((s.chan c).rq.map (·.src)) b = true ∧
      (s.chan c).rq.any (fun e => e.src == b.val && e.line == line) = false ∧
      (s.chan c).wq.reverse.find? (fun e => e.x == x) = some w) ∧
    (∃ (s : State) (c : ChanId) (src x : Nat),
      (s.chan c).st = 2 ∧
      (12 ≤ src ∧ src < 15) ∧
      x < (s.chan c).lines ∧
      queueRoom ((s.chan c).rq.map (·.src)) src = true ∧
      (s.chan c).wq.any (fun e => e.x == x) = false ∧
      (src = 12 → ((s.chan c).rank ((s.chan c).rankOf x)).sr = false)) ∧
    (∃ (s : State) (c : ChanId) (src line : Nat),
      ((s.chan c).st ≠ 2 ∨ queueRoom ((s.chan c).rq.map (·.src)) src = false ∨ 15 ≤ src ∨ (src < 12 ∧ ((s.home src).bmrOf line = none ∨ (s.localOf src line).1 ≠ c.val)) ∨ (12 ≤ src ∧ ((s.chan c).lines + 4 ≤ line ∨ (s.chan c).wq.any (fun e => e.x == line) = true)))) ∧
    (∃ (s : State) (c : ChanId) (b : BayId) (line x : Nat) (v : Victim),
      (s.chan c).st = 2 ∧
      s.chanLow c = false ∧
      (s.home b).victims.find? (fun v => v.line == line) = some v ∧
      s.localOf b line = (c.val, x) ∧
      ((s.home b).waitReq = [] ∧ (s.home b).txs = [] ∧ (s.home b).order = [] ∧ (s.home b).dirQ = [] ∧ (s.home b).work = none) ∧
      (s.chan c).wq.any (fun e => e.x == x) = false ∧
      queueRoom ((s.chan c).wq.map (fun e => homeBay s.mode (frameOfChan s.mode c) (e.line * 64))) b = true) ∧
    (∃ (s : State) (c : ChanId) (b : BayId) (line x : Nat) (v : Victim),
      (s.chan c).st = 2 ∧
      s.chanLow c = false ∧
      (s.home b).victims.find? (fun v => v.line == line) = some v ∧
      s.localOf b line = (c.val, x) ∧
      ((s.home b).waitReq = [] ∧ (s.home b).txs = [] ∧ (s.home b).order = [] ∧ (s.home b).dirQ = [] ∧ (s.home b).work = none) ∧
      (s.chan c).wq.any (fun e => e.x == x) = true) ∧
    (∃ (s : State) (c : ChanId) (b : BayId) (line : Nat),
      ((s.chan c).st ≠ 2 ∨ s.chanLow c = true ∨ (s.home b).victims.find? (fun v => v.line == line) = none ∨ (s.localOf b line).1 ≠ c.val)) ∧
    (∃ (s : State) (c : ChanId) (i k : Nat) (e : RdEnt) (r : Bmr),
      (s.chan c).st = 2 ∧
      (s.chan c).rq[i]? = some e ∧
      e.issued = true ∧
      e.src < 12 ∧
      (s.home e.src).bmrOf e.line = some (k, r) ∧
      ((s.chan c).edge e.x = true ∨ Tab.find s.memBad (keyChan c e.x) = none)) ∧
    (∃ (s : State) (c : ChanId) (i : Nat) (e : RdEnt),
      (s.chan c).st = 2 ∧
      (s.chan c).rq[i]? = some e ∧
      e.issued = true ∧
      12 ≤ e.src ∧
      ((s.chan c).edge e.x = true ∨ Tab.find s.memBad (keyChan c e.x) = none)) ∧
    (∃ (s : State) (c : ChanId) (i k : Nat) (e : RdEnt) (r : Bmr) (d : Fin 10),
      (s.chan c).st = 2 ∧
      (s.chan c).rq[i]? = some e ∧
      e.issued = true ∧
      e.src < 12 ∧
      (s.home e.src).bmrOf e.line = some (k, r) ∧
      (s.chan c).edge e.x = false ∧
      Tab.find s.memBad (keyChan c e.x) = none ∧
      Tab.rising (s.chan c).devCnt = true ∧
      ((s.chan c).ecc.getLsbD 39 = false ∨ Tab.get (s.chan c).devCnt 0 ((2 * ((s.chan c).rankOf e.x) + (dramOf (s.chan c).nr e.x).sub) * 10 + d.val) + 1 < fld (s.chan c).ecc 47 40 ∨ (Tab.find (s.chan c).marks (2 * ((s.chan c).rankOf e.x) + (dramOf (s.chan c).nr e.x).sub)).isSome = true)) ∧
    (∃ (s : State) (c : ChanId) (i k : Nat) (e : RdEnt) (r : Bmr) (d : Fin 10),
      (s.chan c).st = 2 ∧
      (s.chan c).rq[i]? = some e ∧
      e.issued = true ∧
      e.src < 12 ∧
      (s.home e.src).bmrOf e.line = some (k, r) ∧
      (s.chan c).edge e.x = false ∧
      Tab.find s.memBad (keyChan c e.x) = none ∧
      ((s.chan c).ecc.getLsbD 39 = true ∧ fld (s.chan c).ecc 47 40 ≤ Tab.get (s.chan c).devCnt 0 ((2 * ((s.chan c).rankOf e.x) + (dramOf (s.chan c).nr e.x).sub) * 10 + d.val) + 1) ∧
      Tab.find (s.chan c).marks (2 * ((s.chan c).rankOf e.x) + (dramOf (s.chan c).nr e.x).sub) = none ∧
      Tab.rising (s.chan c).marks = true) ∧
    (∃ (s : State) (c : ChanId) (i k : Nat) (e : RdEnt) (r : Bmr) (m : Bool),
      (s.chan c).st = 2 ∧
      (s.chan c).rq[i]? = some e ∧
      e.issued = true ∧
      e.src < 12 ∧
      (s.home e.src).bmrOf e.line = some (k, r) ∧
      (s.chan c).edge e.x = false ∧
      Tab.find s.memBad (keyChan c e.x) = none ∧
      s.memFound.contains (s.queueKey c e.x) = false ∧
      (s.chan c).wq.any (fun w => w.x == e.x) = false ∧
      Tab.rising (s.home e.src).bmrs = true) ∧
    (∃ (s : State) (c : ChanId) (i k : Nat) (e : RdEnt) (r : Bmr) (m : Bool),
      (s.chan c).st = 2 ∧
      (s.chan c).rq[i]? = some e ∧
      e.issued = true ∧
      e.src < 12 ∧
      (s.home e.src).bmrOf e.line = some (k, r) ∧
      (s.chan c).edge e.x = false ∧
      Tab.find s.memBad (keyChan c e.x) = none ∧
      s.memFound.contains (s.queueKey c e.x) = true ∧
      (s.chan c).wq.any (fun w => w.x == e.x) = false ∧
      Tab.rising (s.home e.src).bmrs = true) ∧
    (∃ (s : State) (c : ChanId) (i k : Nat) (e : RdEnt) (r : Bmr),
      (s.chan c).st = 2 ∧
      (s.chan c).rq[i]? = some e ∧
      e.issued = true ∧
      e.src < 12 ∧
      (s.home e.src).bmrOf e.line = some (k, r) ∧
      (s.chan c).edge e.x = true) ∧
    (∃ (s : State) (c : ChanId) (i k : Nat) (e : RdEnt) (r : Bmr),
      (s.chan c).st = 2 ∧
      (s.chan c).rq[i]? = some e ∧
      e.issued = true ∧
      e.src < 12 ∧
      (s.home e.src).bmrOf e.line = some (k, r) ∧
      (s.chan c).edge e.x = true ∧
      s.memFound.contains (s.queueKey c e.x) = false ∧
      (s.chan ((s.activeChans (c.val / 4)).headD (4 * (c.val / 4)))).wq = [] ∧
      Tab.rising (s.home e.src).bmrs = true) ∧
    (∃ (s : State) (c : ChanId) (i : Nat) (w : ReadWord),
      ((s.chan c).st ≠ 2 ∨ ((s.chan c).rq[i]?).all (fun e => !e.issued) = true)) ∧
    (∃ (s : State) (c : ChanId) (i : Nat) (e : WrEnt),
      (s.chan c).st = 2 ∧
      (s.chan c).wq[i]? = some e ∧
      e.issued = true ∧
      Tab.rising s.mem = true) ∧
    (∃ (s : State) (c : ChanId) (i : Nat),
      ((s.chan c).st ≠ 2 ∨ ((s.chan c).wq[i]?).all (fun e => !e.issued) = true)) :=
  ⟨⟨(base.setChan ((base.localOf (homeBay 0 0 0x1000) 64).1) { base.chan ((base.localOf (homeBay 0 0 0x1000) 64).1) with ranks := [(0, { sr := true, postponed := 2 })] }).setHome (homeBay 0 0 0x1000) { base.home (homeBay 0 0 0x1000) with bmrs := [(2, { line := 64, htx := 7 })] }, Fin.ofNat 16 ((base.localOf (homeBay 0 0 0x1000) 64).1), Fin.ofNat 12 (homeBay 0 0 0x1000), 64, (base.localOf (homeBay 0 0 0x1000) 64).2, 2, { line := 64, htx := 7 }, by decide +kernel⟩,
    ⟨{ (base.setChan ((base.localOf (homeBay 0 0 0x1000) 64).1) { base.chan ((base.localOf (homeBay 0 0 0x1000) 64).1) with ranks := [(0, { sr := true })] }).setHome (homeBay 0 0 0x1000) { base.home (homeBay 0 0 0x1000) with bmrs := [(2, { line := 64, htx := 7 })] } with power := { base.power with domState := [(26, 3), (27, 3)] } }, Fin.ofNat 16 ((base.localOf (homeBay 0 0 0x1000) 64).1), Fin.ofNat 12 (homeBay 0 0 0x1000), 64, (base.localOf (homeBay 0 0 0x1000) 64).2, 2, { line := 64, htx := 7 }, by decide +kernel⟩,
    ⟨base.setHome (homeBay 0 0 (base.queuePa 4 (base.chan 4).lines)) { base.home (homeBay 0 0 (base.queuePa 4 (base.chan 4).lines)) with bmrs := [(2, { line := (base.queuePa 4 (base.chan 4).lines) / 64, htx := 7 })] }, 4, Fin.ofNat 12 (homeBay 0 0 (base.queuePa 4 (base.chan 4).lines)), (base.queuePa 4 (base.chan 4).lines) / 64, (base.chan 4).lines, 2, { line := (base.queuePa 4 (base.chan 4).lines) / 64, htx := 7 }, by decide +kernel⟩,
    ⟨(base.setChan ((base.localOf (homeBay 0 0 0x1000) 64).1) { base.chan ((base.localOf (homeBay 0 0 0x1000) 64).1) with wq := [{ x := (base.localOf (homeBay 0 0 0x1000) 64).2, data := 6 }, { x := (base.localOf (homeBay 0 0 0x1000) 64).2, data := 77, poison := true }] }).setHome (homeBay 0 0 0x1000) { base.home (homeBay 0 0 0x1000) with bmrs := [(2, { line := 64, htx := 7 })] }, Fin.ofNat 16 ((base.localOf (homeBay 0 0 0x1000) 64).1), Fin.ofNat 12 (homeBay 0 0 0x1000), 64, (base.localOf (homeBay 0 0 0x1000) 64).2, 2, { line := 64, htx := 7 }, { x := (base.localOf (homeBay 0 0 0x1000) 64).2, data := 77, poison := true }, by decide +kernel⟩,
    ⟨base, 0, 12, 4096, by decide +kernel⟩,
    ⟨base, 0, 3, 64, by decide +kernel⟩,
    ⟨(base.setChan ((base.localOf (homeBay 0 0 0x1000) 64).1) { base.chan ((base.localOf (homeBay 0 0 0x1000) 64).1) with ranks := [(0, { sr := true })] }).setHome (homeBay 0 0 0x1000) { base.home (homeBay 0 0 0x1000) with victims := [{ line := 9 }, { line := 64, data := 77, poison := true, rcid := 3, mcid := 4 }] }, Fin.ofNat 16 ((base.localOf (homeBay 0 0 0x1000) 64).1), Fin.ofNat 12 (homeBay 0 0 0x1000), 64, (base.localOf (homeBay 0 0 0x1000) 64).2, { line := 64, data := 77, poison := true, rcid := 3, mcid := 4 }, by decide +kernel⟩,
    ⟨(base.setChan ((base.localOf (homeBay 0 0 0x1000) 64).1) { base.chan ((base.localOf (homeBay 0 0 0x1000) 64).1) with wq := [{ x := (base.localOf (homeBay 0 0 0x1000) 64).2, data := 5, age := 9 }, { x := 3 }] }).setHome (homeBay 0 0 0x1000) { base.home (homeBay 0 0 0x1000) with victims := [{ line := 64, data := 77, poison := true, rcid := 3, mcid := 4 }] }, Fin.ofNat 16 ((base.localOf (homeBay 0 0 0x1000) 64).1), Fin.ofNat 12 (homeBay 0 0 0x1000), 64, (base.localOf (homeBay 0 0 0x1000) 64).2, { line := 64, data := 77, poison := true, rcid := 3, mcid := 4 }, by decide +kernel⟩,
    ⟨base, 0, 3, 64, by decide +kernel⟩,
    ⟨(base.setChan 2 { base.chan 2 with rq := [{}, { src := 4, line := 64, x := 9, issued := true }] }).setHome 4 { base.home 4 with bmrs := [(2, { line := 64, htx := 7 })] }, 2, 1, 2, { src := 4, line := 64, x := 9, issued := true }, { line := 64, htx := 7 }, by decide +kernel⟩,
    ⟨base.setChan 2 { base.chan 2 with rq := [{}, { src := 13, line := 64, x := 9, issued := true }] }, 2, 1, { src := 13, line := 64, x := 9, issued := true }, by decide +kernel⟩,
    ⟨(base.setChan 2 { base.chan 2 with rq := [{}, { src := 4, line := 64, x := 9, issued := true }] }).setHome 4 { base.home 4 with bmrs := [(2, { line := 64, htx := 7 })] }, 2, 1, 2, { src := 4, line := 64, x := 9, issued := true }, { line := 64, htx := 7 }, 3, by decide +kernel⟩,
    ⟨(base.setChan 2 { base.chan 2 with rq := [{}, { src := 4, line := 64, x := 9, issued := true }], devCnt := [(13, 31)] }).setHome 4 { base.home 4 with bmrs := [(2, { line := 64, htx := 7 })] }, 2, 1, 2, { src := 4, line := 64, x := 9, issued := true }, { line := 64, htx := 7 }, 3, by decide +kernel⟩,
    ⟨(base.setChan 2 { base.chan 2 with rq := [{}, { src := 4, line := 64, x := 9, issued := true }] }).setHome 4 { base.home 4 with bmrs := [(2, { line := 64, htx := 7 })] }, 2, 1, 2, { src := 4, line := 64, x := 9, issued := true }, { line := 64, htx := 7 }, false, by decide +kernel⟩,
    ⟨{ (base.setChan 2 { base.chan 2 with rq := [{}, { src := 4, line := 64, x := 9, issued := true }] }).setHome 4 { base.home 4 with bmrs := [(2, { line := 64, htx := 7 })] } with memFound := [base.queueKey 2 9] }, 2, 1, 2, { src := 4, line := 64, x := 9, issued := true }, { line := 64, htx := 7 }, false, by decide +kernel⟩,
    ⟨(base.setChan 4 { base.chan 4 with rq := [{}, { src := 4, line := 64, x := (base.chan 4).lines + 1, issued := true }] }).setHome 4 { base.home 4 with bmrs := [(2, { line := 64, htx := 7 })] }, 4, 1, 2, { src := 4, line := 64, x := (base.chan 4).lines + 1, issued := true }, { line := 64, htx := 7 }, by decide +kernel⟩,
    ⟨(base.setChan 4 { base.chan 4 with rq := [{}, { src := 4, line := 64, x := (base.chan 4).lines + 1, issued := true }] }).setHome 4 { base.home 4 with bmrs := [(2, { line := 64, htx := 7 })] }, 4, 1, 2, { src := 4, line := 64, x := (base.chan 4).lines + 1, issued := true }, { line := 64, htx := 7 }, by decide +kernel⟩,
    ⟨base, 0, 0, .asStored, by decide +kernel⟩,
    ⟨base.setChan 2 { base.chan 2 with wq := [{}, { line := 64, x := 9, issued := true, data := 77, poison := true }] }, 2, 1, { line := 64, x := 9, issued := true, data := 77, poison := true }, by decide +kernel⟩,
    ⟨base, 0, 0, by decide +kernel⟩⟩

/-- States and operands that meet the hypotheses of MemoryMaintenance. -/
theorem witness_MemoryMaintenance :
    (∃ (s : State) (c : ChanId) (r : Fin 16),
      (s.chan c).st = 2 ∧
      r.val < (s.chan c).nr ∧
      ((s.chan c).rank r).sr = false ∧
      (s.chan c).busy r = true ∧
      0 < ((s.chan c).rank r).pulled) ∧
    (∃ (s : State) (c : ChanId) (r : Fin 16),
      (s.chan c).st = 2 ∧
      r.val < (s.chan c).nr ∧
      ((s.chan c).rank r).sr = false ∧
      (s.chan c).busy r = true ∧
      ((s.chan c).rank r).pulled = 0 ∧
      ((s.chan c).rank r).postponed < fld (s.chan c).refresh 7 4) ∧
    (∃ (s : State) (c : ChanId) (r : Fin 16),
      (s.chan c).st = 2 ∧
      r.val < (s.chan c).nr ∧
      ((s.chan c).rank r).sr = false ∧
      (s.chan c).busy r = true ∧
      ((s.chan c).rank r).pulled = 0 ∧
      fld (s.chan c).refresh 7 4 ≤ ((s.chan c).rank r).postponed ∧
      Tab.rising (s.chan c).banks = true) ∧
    (∃ (s : State) (c : ChanId) (r : Fin 16),
      (s.chan c).st = 2 ∧
      r.val < (s.chan c).nr ∧
      ((s.chan c).rank r).sr = false ∧
      (s.chan c).busy r = false ∧
      Tab.rising (s.chan c).banks = true) ∧
    (∃ (s : State) (c : ChanId) (r : Fin 16) (x : Int),
      (s.chan c).st = 2 ∧
      r.val < (s.chan c).nr ∧
      8500 < x) ∧
    (∃ (s : State) (c : ChanId) (r : Fin 16) (x : Int),
      (s.chan c).st = 2 ∧
      r.val < (s.chan c).nr ∧
      x ≤ 8500 ∧
      ((s.chan c).rank r).hot = true ∧
      ((s.chan c).rank r).coolRd < 2) ∧
    (∃ (s : State) (c : ChanId) (r : Fin 16) (x : Int),
      (s.chan c).st = 2 ∧
      r.val < (s.chan c).nr ∧
      x ≤ 8500 ∧
      ((s.chan c).rank r).hot = true ∧
      2 ≤ ((s.chan c).rank r).coolRd) ∧
    (∃ (s : State) (c : ChanId) (r : Fin 16) (x : Int),
      x ≤ 8500 ∧
      ((s.chan c).rank r).hot = false) ∧
    (∃ (s : State) (c : ChanId) (d : Fin 2) (l : List Int) (x : Int),
      (s.chan c).st = 2 ∧
      d.val < (s.chan c).res.dpc ∧
      x ∈ l ∧
      (∀ y ∈ l, y ≤ x) ∧
      Tab.rising (s.chan c).modTemps = true ∧
      ((s.chan c).limited = false → x ≤ 9500 ∧ (∀ e ∈ (s.chan c).modTemps, e.1 ≠ d.val → ∀ y ∈ e.2, y ≤ 9500)) ∧
      ((s.chan c).limited = true → 9000 < x)) ∧
    (∃ (s : State) (c : ChanId) (d : Fin 2) (l : List Int) (x : Int),
      (s.chan c).st = 2 ∧
      d.val < (s.chan c).res.dpc ∧
      x ∈ l ∧
      (∀ y ∈ l, y ≤ x) ∧
      Tab.rising (s.chan c).modTemps = true ∧
      9500 < x ∧
      (s.chan c).limited = false ∧
      (∀ e ∈ (s.chan c).modTemps, e.1 ≠ d.val → ∀ y ∈ e.2, y ≤ x)) ∧
    (∃ (s : State) (c : ChanId) (d : Fin 2) (l : List Int) (x : Int),
      (s.chan c).st = 2 ∧
      d.val < (s.chan c).res.dpc ∧
      x ∈ l ∧
      (∀ y ∈ l, y ≤ x) ∧
      Tab.rising (s.chan c).modTemps = true ∧
      x ≤ 9000 ∧
      (∀ e ∈ (s.chan c).modTemps, e.1 ≠ d.val → ∀ y ∈ e.2, y ≤ x) ∧
      (s.chan c).limited = true) ∧
    (∃ (s : State) (c : ChanId) (r : Fin 16) (b : Fin 64) (row : Nat),
      (s.chan c).st = 2 ∧
      r.val < (s.chan c).nr ∧
      ((s.chan c).rank r).sr = false ∧
      ((s.chan c).bank (r.val * 64 + b.val)).row = none ∧
      ((s.chan c).bank (r.val * 64 + b.val)).sample = none ∧
      ((s.chan c).rfm = true → (s.chan c).res.raammt = 0 ∨ ((s.chan c).bank (r.val * 64 + b.val)).raa < (s.chan c).res.raammt)) ∧
    (∃ (s : State) (c : ChanId) (r : Fin 16) (b : Fin 64) (row : Nat),
      (((s.chan c).bank (r.val * 64 + b.val)).row.isSome = true ∨ ((s.chan c).bank (r.val * 64 + b.val)).sample.isSome = true ∨ ((s.chan c).rfm = true ∧ 0 < (s.chan c).res.raammt ∧ (s.chan c).res.raammt ≤ ((s.chan c).bank (r.val * 64 + b.val)).raa))) ∧
    (∃ (s : State) (c : ChanId) (r : Fin 16) (b : Fin 64),
      (s.chan c).st = 2) ∧
    (∃ (s : State) (c : ChanId) (r : Fin 16),
      (s.chan c).st = 2 ∧
      r.val < (s.chan c).nr ∧
      ((s.chan c).rank r).sr = false ∧
      (s.chan c).busy r = false ∧
      fld (s.chan c).pwr 5 0 ≠ 0 ∧
      Tab.rising (s.chan c).banks = true) ∧
    (∃ (s : State) (c : ChanId) (r : Fin 16),
      ((s.chan c).busy r = true ∨ fld (s.chan c).pwr 5 0 = 0)) ∧
    (∃ (s : State) (c : ChanId) (r : Fin 16),
      (s.chan c).st = 2 ∧
      r.val < (s.chan c).nr ∧
      ((s.chan c).rank r).sr = false ∧
      (s.chan c).busy r = false ∧
      fld (s.chan c).pwr 15 6 ≠ 0 ∧
      ((s.chan c).rank r).postponed = 0 ∧
      (s.chan c).banks.any (fun e => decide (e.1 / 64 = r.val) && (e.2.close.sample.isSome || ((s.chan c).rfm && decide ((s.chan c).res.raaimt ≤ e.2.raa)))) = false ∧
      Tab.rising (s.chan c).banks = true) ∧
    (∃ (s : State) (c : ChanId) (r : Fin 16),
      ((s.chan c).busy r = true ∨ fld (s.chan c).pwr 15 6 = 0 ∨ 0 < ((s.chan c).rank r).postponed ∨ (s.chan c).banks.any (fun e => decide (e.1 / 64 = r.val) && (e.2.close.sample.isSome || ((s.chan c).rfm && decide ((s.chan c).res.raaimt ≤ e.2.raa)))) = true)) ∧
    (∃ (s : State) (c : ChanId) (r : Fin 16) (i : Instr) (b : Fin 64) (row : Nat) (x : Int),
      ((s.chan c).st ≠ 2 ∨ (s.chan c).nr ≤ r.val) ∧
      i ∈ ([.refreshDue c r, .mr4Read c r x, .actSelection c r b row, .powerDownEntry c r, .selfRefreshEntry c r] : List Instr)) ∧
    (∃ (s : State) (c : ChanId) (r : Fin 16) (i : Instr) (b : Fin 64) (row : Nat),
      ((s.chan c).rank r).sr = true ∧
      i ∈ ([.refreshDue c r, .actSelection c r b row, .powerDownEntry c r, .selfRefreshEntry c r] : List Instr)) ∧
    (∃ (s : State) (c : ChanId) (r : Fin 16) (i : Instr) (b : Fin 64) (d : Fin 2) (l : List Int),
      (s.chan c).st ≠ 2 ∧
      i ∈ ([.pageIdleClose c r b, .moduleSensorRead c d l, .driftTrack c] : List Instr)) ∧
    (∃ (s : State) (c : ChanId),
      (s.chan c).st = 2) ∧
    (∃ (s : State) (c : ChanId),
      Tab.rising (s.chan c).devCnt = true) :=
  ⟨⟨base.setChan 0 { base.chan 0 with wq := [{}], ranks := [(0, { pulled := 2 })] }, 0, 0, by decide +kernel⟩,
    ⟨base.setChan 0 { base.chan 0 with wq := [{}] }, 0, 0, by decide +kernel⟩,
    ⟨base.setChan 0 { base.chan 0 with refresh := 0x41, wq := [{}], ranks := [(0, { postponed := 4 })], banks := [(3, { row := some 5, raa := 9 }), (70, { row := some 6 })] }, 0, 0, by decide +kernel⟩,
    ⟨base.setChan 0 { base.chan 0 with ranks := [(0, { postponed := 2 })], banks := [(4, { row := some 5, raa := 9 }), (70, { row := some 6 })] }, 0, 0, by decide +kernel⟩,
    ⟨base, 0, 0, 8501, by decide +kernel⟩,
    ⟨base.setChan 0 { base.chan 0 with ranks := [(0, { hot := true, coolRd := 1 })] }, 0, 0, 8500, by decide +kernel⟩,
    ⟨base.setChan 0 { base.chan 0 with ranks := [(0, { hot := true, coolRd := 2 })] }, 0, 0, 8500, by decide +kernel⟩,
    ⟨base, 0, 0, 8500, by decide +kernel⟩,
    ⟨base, 0, 0, [8400, 8501], 8501, by decide +kernel⟩,
    ⟨base, 0, 0, [9501], 9501, by decide +kernel⟩,
    ⟨base.setChan 0 { base.chan 0 with limited := true }, 0, 0, [7000, 9000], 9000, by decide +kernel⟩,
    ⟨base.setChan 0 { base.chan 0 with gen := 1024 }, 0, 0, 5, 77, by decide +kernel⟩,
    ⟨base.setChan 0 { base.chan 0 with banks := [(5, { sample := some 3 })] }, 0, 0, 5, 77, by decide +kernel⟩,
    ⟨base.setChan 0 { base.chan 0 with banks := [(5, { row := some 9, sel := true })] }, 0, 0, 5, by decide +kernel⟩,
    ⟨base.setChan 0 { base.chan 0 with banks := [(5, { row := some 9 })] }, 0, 0, by decide +kernel⟩,
    ⟨base.setChan 0 { base.chan 0 with wq := [{}] }, 0, 0, by decide +kernel⟩,
    ⟨base.setChan 0 { base.chan 0 with banks := [(5, { row := some 9 })] }, 0, 0, by decide +kernel⟩,
    ⟨base.setChan 0 { base.chan 0 with banks := [(5, { sample := some 9 })] }, 0, 0, by decide +kernel⟩,
    ⟨base, 0, 9, .mr4Read 0 9 9000, 0, 0, 9000, by decide +kernel⟩,
    ⟨base.setChan 0 { base.chan 0 with ranks := [(0, { sr := true })] }, 0, 0, .refreshDue 0 0, 0, 0, by decide +kernel⟩,
    ⟨base.setChan 0 { base.chan 0 with st := 3 }, 0, 0, .driftTrack 0, 0, 0, [], by decide +kernel⟩,
    ⟨base, 0, by decide +kernel⟩,
    ⟨base.setChan 0 { base.chan 0 with devCnt := [(3, 5), (4, 1)] }, 0, by decide +kernel⟩⟩

/-- States and operands that meet the hypotheses of MemorySchedulingClearingAndPatrol. -/
theorem witness_MemorySchedulingClearingAndPatrol :
    (∃ (s : State) (c : ChanId) (sub : Fin 2) (e : RdEnt),
      (s.chan c).st = 2 ∧
      s.chanLow c = false ∧
      ((s.chan c).quarter = false ∧ (s.chan c).limited = false) ∧
      (s.chan c).due sub = none ∧
      (s.chan c).rq = [e] ∧
      ((s.chan c).wq = [] ∧ fld (s.chan c).sched 31 24 ≠ 0) ∧
      (e.issued = false ∧ e.wait_ = false ∧ e.src < 12) ∧
      e.x % 2 = sub.val ∧
      ((s.chan c).edge e.x = false ∧ (s.chan c).isClear e.x = true) ∧
      ((s.chan c).rank ((s.chan c).rankOf e.x)).sr = false ∧
      s.scribe.upTicks ≤ e.at_ + 10 * fld (s.chan c).sched 7 0 ∧
      Tab.get (s.bw (c.val / 4)).weightOn 255 e.rcid ≠ 0 ∧
      ((s.chan c).bank ((s.chan c).bankKey e.x)).row = some (dramOf (s.chan c).nr e.x).row ∧
      fld (s.chan c).sched 15 8 ≠ 0) ∧
    (∃ (s : State) (c : ChanId) (sub : Fin 2) (e : RdEnt),
      (s.chan c).st = 2 ∧
      s.chanLow c = false ∧
      ((s.chan c).quarter = false ∧ (s.chan c).limited = false) ∧
      (s.chan c).due sub = none ∧
      (s.chan c).rq = [e] ∧
      ((s.chan c).wq = [] ∧ fld (s.chan c).sched 31 24 ≠ 0) ∧
      (e.issued = false ∧ e.wait_ = false ∧ e.src < 12) ∧
      e.x % 2 = sub.val ∧
      ((s.chan c).edge e.x = false ∧ (s.chan c).isClear e.x = true) ∧
      ((s.chan c).rank ((s.chan c).rankOf e.x)).sr = false ∧
      s.scribe.upTicks ≤ e.at_ + 10 * fld (s.chan c).sched 7 0 ∧
      Tab.get (s.bw (c.val / 4)).weightOn 255 e.rcid ≠ 0 ∧
      ((s.chan c).bank ((s.chan c).bankKey e.x)).row = some (dramOf (s.chan c).nr e.x).row ∧
      fld (s.chan c).sched 15 8 = 0) ∧
    (∃ (s : State) (c : ChanId) (sub : Fin 2) (e : RdEnt),
      (s.chan c).st = 2 ∧
      s.chanLow c = false ∧
      ((s.chan c).quarter = false ∧ (s.chan c).limited = false) ∧
      (s.chan c).due sub = none ∧
      (s.chan c).rq = [e] ∧
      ((s.chan c).wq = [] ∧ fld (s.chan c).sched 31 24 ≠ 0) ∧
      (e.issued = false ∧ e.wait_ = false ∧ e.src < 12) ∧
      e.x % 2 = sub.val ∧
      (s.chan c).edge e.x = true ∧
      s.scribe.upTicks ≤ e.at_ + 10 * fld (s.chan c).sched 7 0 ∧
      Tab.get (s.bw (c.val / 4)).weightOn 255 e.rcid ≠ 0) ∧
    (∃ (s : State) (c : ChanId) (sub : Fin 2) (e : RdEnt),
      (s.chan c).st = 2 ∧
      s.chanLow c = false ∧
      ((s.chan c).quarter = false ∧ (s.chan c).limited = false) ∧
      (s.chan c).due sub = none ∧
      (s.chan c).rq = [e] ∧
      ((s.chan c).wq = [] ∧ fld (s.chan c).sched 31 24 ≠ 0) ∧
      (e.issued = false ∧ e.wait_ = false ∧ e.src < 12) ∧
      e.x % 2 = sub.val ∧
      ((s.chan c).edge e.x = false ∧ (s.chan c).isClear e.x = true) ∧
      ((s.chan c).rank ((s.chan c).rankOf e.x)).sr = false ∧
      s.scribe.upTicks ≤ e.at_ + 10 * fld (s.chan c).sched 7 0 ∧
      Tab.get (s.bw (c.val / 4)).weightOn 255 e.rcid ≠ 0 ∧
      ((s.chan c).bank ((s.chan c).bankKey e.x)).row = none ∧
      (s.chan c).barred ((s.chan c).bank ((s.chan c).bankKey e.x)) = false) ∧
    (∃ (s : State) (c : ChanId) (sub : Fin 2) (e : RdEnt) (row : Nat),
      (s.chan c).st = 2 ∧
      s.chanLow c = false ∧
      ((s.chan c).quarter = false ∧ (s.chan c).limited = false) ∧
      (s.chan c).due sub = none ∧
      (s.chan c).rq = [e] ∧
      ((s.chan c).wq = [] ∧ fld (s.chan c).sched 31 24 ≠ 0) ∧
      (e.issued = false ∧ e.wait_ = false ∧ e.src < 12) ∧
      e.x % 2 = sub.val ∧
      ((s.chan c).edge e.x = false ∧ (s.chan c).isClear e.x = true) ∧
      ((s.chan c).rank ((s.chan c).rankOf e.x)).sr = false ∧
      s.scribe.upTicks ≤ e.at_ + 10 * fld (s.chan c).sched 7 0 ∧
      Tab.get (s.bw (c.val / 4)).weightOn 255 e.rcid ≠ 0 ∧
      ((s.chan c).bank ((s.chan c).bankKey e.x)).row = some row ∧
      row ≠ (dramOf (s.chan c).nr e.x).row) ∧
    (∃ (s : State) (c : ChanId) (sub : Fin 2) (d e : RdEnt),
      (s.chan c).st = 2 ∧
      s.chanLow c = false ∧
      ((s.chan c).quarter = false ∧ (s.chan c).limited = false) ∧
      (s.chan c).due sub = none ∧
      (s.chan c).rq = [d, e] ∧
      ((s.chan c).wq = [] ∧ fld (s.chan c).sched 31 24 ≠ 0) ∧
      fld (s.chan c).sched 15 8 ≠ 0 ∧
      d.x ≠ e.x ∧
      (d.issued = false ∧ d.wait_ = false ∧ d.src < 12) ∧
      d.x % 2 = sub.val ∧
      ((s.chan c).edge d.x = false ∧ (s.chan c).isClear d.x = true) ∧
      ((s.chan c).rank ((s.chan c).rankOf d.x)).sr = false ∧
      s.scribe.upTicks ≤ d.at_ + 10 * fld (s.chan c).sched 7 0 ∧
      Tab.get (s.bw (c.val / 4)).weightOn 255 d.rcid ≠ 0 ∧
      (e.issued = false ∧ e.wait_ = false ∧ e.src < 12) ∧
      e.x % 2 = sub.val ∧
      ((s.chan c).edge e.x = false ∧ (s.chan c).isClear e.x = true) ∧
      ((s.chan c).rank ((s.chan c).rankOf e.x)).sr = false ∧
      s.scribe.upTicks ≤ e.at_ + 10 * fld (s.chan c).sched 7 0 ∧
      Tab.get (s.bw (c.val / 4)).weightOn 255 e.rcid ≠ 0 ∧
      (Tab.get (s.bw (c.val / 4)).share 0 d.rcid = 0 ∧ Tab.get (s.bw (c.val / 4)).used 0 d.rcid = 0) ∧
      (Tab.get (s.bw (c.val / 4)).share 0 e.rcid = 0 ∧ Tab.get (s.bw (c.val / 4)).used 0 e.rcid = 0) ∧
      ((s.chan c).bank ((s.chan c).bankKey d.x)).row ≠ some (dramOf (s.chan c).nr d.x).row ∧
      ((s.chan c).bank ((s.chan c).bankKey e.x)).row = some (dramOf (s.chan c).nr e.x).row ∧
      d.age < e.age) ∧
    (∃ (s : State) (c : ChanId) (sub : Fin 2) (d e : RdEnt),
      (s.chan c).st = 2 ∧
      s.chanLow c = false ∧
      ((s.chan c).quarter = false ∧ (s.chan c).limited = false) ∧
      (s.chan c).due sub = none ∧
      (s.chan c).rq = [d, e] ∧
      ((s.chan c).wq = [] ∧ fld (s.chan c).sched 31 24 ≠ 0) ∧
      fld (s.chan c).sched 15 8 ≠ 0 ∧
      d.x ≠ e.x ∧
      (d.issued = false ∧ d.wait_ = false ∧ d.src < 12) ∧
      d.x % 2 = sub.val ∧
      ((s.chan c).edge d.x = false ∧ (s.chan c).isClear d.x = true) ∧
      ((s.chan c).rank ((s.chan c).rankOf d.x)).sr = false ∧
      s.scribe.upTicks ≤ d.at_ + 10 * fld (s.chan c).sched 7 0 ∧
      Tab.get (s.bw (c.val / 4)).weightOn 255 d.rcid ≠ 0 ∧
      (e.issued = false ∧ e.wait_ = false ∧ e.src < 12) ∧
      e.x % 2 = sub.val ∧
      ((s.chan c).edge e.x = false ∧ (s.chan c).isClear e.x = true) ∧
      ((s.chan c).rank ((s.chan c).rankOf e.x)).sr = false ∧
      s.scribe.upTicks ≤ e.at_ + 10 * fld (s.chan c).sched 7 0 ∧
      Tab.get (s.bw (c.val / 4)).weightOn 255 e.rcid ≠ 0 ∧
      (Tab.get (s.bw (c.val / 4)).share 0 d.rcid = 0 ∧ Tab.get (s.bw (c.val / 4)).used 0 d.rcid = 0) ∧
      (Tab.get (s.bw (c.val / 4)).share 0 e.rcid = 0 ∧ Tab.get (s.bw (c.val / 4)).used 0 e.rcid = 0) ∧
      ((s.chan c).bank ((s.chan c).bankKey d.x)).row = some (dramOf (s.chan c).nr d.x).row ∧
      ((s.chan c).bank ((s.chan c).bankKey e.x)).row = some (dramOf (s.chan c).nr e.x).row ∧
      d.age < e.age) ∧
    (∃ (s : State) (c : ChanId) (sub : Fin 2) (d e : RdEnt),
      (s.chan c).st = 2 ∧
      s.chanLow c = false ∧
      ((s.chan c).quarter = false ∧ (s.chan c).limited = false) ∧
      (s.chan c).due sub = none ∧
      (s.chan c).rq = [d, e] ∧
      ((s.chan c).wq = [] ∧ fld (s.chan c).sched 31 24 ≠ 0) ∧
      fld (s.chan c).sched 15 8 ≠ 0 ∧
      d.x ≠ e.x ∧
      (d.issued = false ∧ d.wait_ = false ∧ d.src < 12) ∧
      d.x % 2 = sub.val ∧
      ((s.chan c).edge d.x = false ∧ (s.chan c).isClear d.x = true) ∧
      ((s.chan c).rank ((s.chan c).rankOf d.x)).sr = false ∧
      Tab.get (s.bw (c.val / 4)).weightOn 255 d.rcid ≠ 0 ∧
      d.at_ + 10 * fld (s.chan c).sched 7 0 < s.scribe.upTicks ∧
      d.age < e.age ∧
      (e.issued = false ∧ e.wait_ = false ∧ e.src < 12) ∧
      e.x % 2 = sub.val ∧
      ((s.chan c).edge e.x = false ∧ (s.chan c).isClear e.x = true) ∧
      ((s.chan c).rank ((s.chan c).rankOf e.x)).sr = false ∧
      s.scribe.upTicks ≤ e.at_ + 10 * fld (s.chan c).sched 7 0 ∧
      Tab.get (s.bw (c.val / 4)).weightOn 255 e.rcid ≠ 0 ∧
      (Tab.get (s.bw (c.val / 4)).share 0 d.rcid = 0 ∧ Tab.get (s.bw (c.val / 4)).used 0 d.rcid = 0) ∧
      (Tab.get (s.bw (c.val / 4)).share 0 e.rcid = 0 ∧ Tab.get (s.bw (c.val / 4)).used 0 e.rcid = 0) ∧
      ((s.chan c).bank ((s.chan c).bankKey d.x)).row = none ∧
      ((s.chan c).bank ((s.chan c).bankKey e.x)).row = some (dramOf (s.chan c).nr e.x).row ∧
      (s.chan c).barred ((s.chan c).bank ((s.chan c).bankKey d.x)) = false ∧
      (s.chan c).bankKey d.x ≠ (s.chan c).bankKey e.x) ∧
    (∃ (s : State) (c : ChanId) (sub : Fin 2) (e : WrEnt),
      (s.chan c).st = 2 ∧
      s.chanLow c = false ∧
      ((s.chan c).quarter = false ∧ (s.chan c).limited = false) ∧
      (s.chan c).due sub = none ∧
      (s.chan c).rq = [] ∧
      (s.chan c).wq = [e] ∧
      e.issued = false ∧
      e.x % 2 = sub.val ∧
      ((s.chan c).edge e.x = false ∧ (s.chan c).isClear e.x = true) ∧
      ((s.chan c).rank ((s.chan c).rankOf e.x)).sr = false ∧
      s.scribe.upTicks ≤ e.at_ + 10 * fld (s.chan c).sched 7 0 ∧
      Tab.get (s.bw (c.val / 4)).weightOn 255 e.rcid ≠ 0 ∧
      ((s.chan c).bank ((s.chan c).bankKey e.x)).row = some (dramOf (s.chan c).nr e.x).row ∧
      fld (s.chan c).sched 15 8 ≠ 0) ∧
    (∃ (s : State) (c : ChanId) (sub : Fin 2) (d : RdEnt) (e : WrEnt),
      (s.chan c).st = 2 ∧
      s.chanLow c = false ∧
      ((s.chan c).quarter = false ∧ (s.chan c).limited = false) ∧
      (s.chan c).due sub = none ∧
      (s.chan c).rq = [d] ∧
      (s.chan c).wq = [e] ∧
      fld (s.chan c).sched 15 8 ≠ 0 ∧
      (d.issued = false ∧ d.wait_ = false ∧ d.src < 12) ∧
      d.x % 2 = sub.val ∧
      ((s.chan c).edge d.x = false ∧ (s.chan c).isClear d.x = true) ∧
      ((s.chan c).rank ((s.chan c).rankOf d.x)).sr = false ∧
      s.scribe.upTicks ≤ d.at_ + 10 * fld (s.chan c).sched 7 0 ∧
      Tab.get (s.bw (c.val / 4)).weightOn 255 d.rcid ≠ 0 ∧
      (Tab.get (s.bw (c.val / 4)).share 0 d.rcid = 0 ∧ Tab.get (s.bw (c.val / 4)).used 0 d.rcid = 0) ∧
      (Tab.get (s.bw (c.val / 4)).share 0 e.rcid = 0 ∧ Tab.get (s.bw (c.val / 4)).used 0 e.rcid = 0) ∧
      e.issued = false ∧
      e.x % 2 = sub.val ∧
      ((s.chan c).edge e.x = false ∧ (s.chan c).isClear e.x = true) ∧
      ((s.chan c).rank ((s.chan c).rankOf e.x)).sr = false ∧
      s.scribe.upTicks ≤ e.at_ + 10 * fld (s.chan c).sched 7 0 ∧
      Tab.get (s.bw (c.val / 4)).weightOn 255 e.rcid ≠ 0 ∧
      ((s.chan c).bank ((s.chan c).bankKey d.x)).row = some (dramOf (s.chan c).nr d.x).row ∧
      ((s.chan c).bank ((s.chan c).bankKey e.x)).row = some (dramOf (s.chan c).nr e.x).row ∧
      d.x ≠ e.x ∧
      (s.chan c).drain = false ∧
      1 < fld (s.chan c).sched 31 24) ∧
    (∃ (s : State) (c : ChanId) (sub : Fin 2) (d : RdEnt) (e : WrEnt),
      (s.chan c).st = 2 ∧
      s.chanLow c = false ∧
      ((s.chan c).quarter = false ∧ (s.chan c).limited = false) ∧
      (s.chan c).due sub = none ∧
      (s.chan c).rq = [d] ∧
      (s.chan c).wq = [e] ∧
      fld (s.chan c).sched 15 8 ≠ 0 ∧
      (d.issued = false ∧ d.wait_ = false ∧ d.src < 12) ∧
      d.x % 2 = sub.val ∧
      ((s.chan c).edge d.x = false ∧ (s.chan c).isClear d.x = true) ∧
      ((s.chan c).rank ((s.chan c).rankOf d.x)).sr = false ∧
      s.scribe.upTicks ≤ d.at_ + 10 * fld (s.chan c).sched 7 0 ∧
      Tab.get (s.bw (c.val / 4)).weightOn 255 d.rcid ≠ 0 ∧
      (Tab.get (s.bw (c.val / 4)).share 0 d.rcid = 0 ∧ Tab.get (s.bw (c.val / 4)).used 0 d.rcid = 0) ∧
      (Tab.get (s.bw (c.val / 4)).share 0 e.rcid = 0 ∧ Tab.get (s.bw (c.val / 4)).used 0 e.rcid = 0) ∧
      e.issued = false ∧
      e.x % 2 = sub.val ∧
      ((s.chan c).edge e.x = false ∧ (s.chan c).isClear e.x = true) ∧
      ((s.chan c).rank ((s.chan c).rankOf e.x)).sr = false ∧
      s.scribe.upTicks ≤ e.at_ + 10 * fld (s.chan c).sched 7 0 ∧
      Tab.get (s.bw (c.val / 4)).weightOn 255 e.rcid ≠ 0 ∧
      ((s.chan c).bank ((s.chan c).bankKey d.x)).row = some (dramOf (s.chan c).nr d.x).row ∧
      ((s.chan c).bank ((s.chan c).bankKey e.x)).row = some (dramOf (s.chan c).nr e.x).row ∧
      d.x ≠ e.x ∧
      (s.chan c).drain = true ∧
      fld (s.chan c).sched 23 16 = 0) ∧
    (∃ (s : State) (c : ChanId) (sub : Fin 2) (k : Nat) (b : Bank) (row : Nat),
      (s.chan c).st = 2 ∧
      s.chanLow c = false ∧
      ((s.chan c).quarter = false ∧ (s.chan c).limited = false) ∧
      ((s.chan c).rq.all (fun e => !(s.chan c).edge e.x) = true ∧ (s.chan c).wq.all (fun e => !(s.chan c).edge e.x) = true) ∧
      (s.chan c).banks = [(k, b)] ∧
      (b.sample = some row ∧ b.row = none) ∧
      k / 32 % 2 = sub.val ∧
      ((s.chan c).rank (k / 64)).sr = false) ∧
    (∃ (s : State) (c : ChanId) (sub : Fin 2) (k : Nat) (b : Bank),
      (s.chan c).st = 2 ∧
      s.chanLow c = false ∧
      ((s.chan c).quarter = false ∧ (s.chan c).limited = false) ∧
      ((s.chan c).rq.all (fun e => !(s.chan c).edge e.x) = true ∧ (s.chan c).wq.all (fun e => !(s.chan c).edge e.x) = true) ∧
      (s.chan c).banks = [(k, b)] ∧
      (b.sample = none ∧ b.row = none) ∧
      ((s.chan c).rfm = true ∧ (s.chan c).res.raaimt ≤ b.raa) ∧
      k / 32 % 2 = sub.val ∧
      ((s.chan c).rank (k / 64)).sr = false) ∧
    (∃ (s : State) (c : ChanId) (sub : Fin 2) (e : RdEnt),
      (s.chan c).st = 2 ∧
      s.chanLow c = false ∧
      ((s.chan c).quarter = false ∧ (s.chan c).limited = false) ∧
      (s.chan c).due sub = none ∧
      (s.chan c).rq = [e] ∧
      (s.chan c).wq = [] ∧
      e.src < 12 ∧
      Tab.get (s.bw (c.val / 4)).weightOn 255 e.rcid = 0 ∧
      Tab.get (s.bw (c.val / 4)).share 0 e.rcid < Tab.get (s.bw (c.val / 4)).used 0 e.rcid + 64) ∧
    (∃ (s : State) (c : ChanId) (sub : Fin 2),
      ((s.chan c).st ≠ 2 ∨ s.chanLow c = true)) ∧
    (∃ (s : State) (c : ChanId) (sub : Fin 2),
      (((s.chan c).limited = true ∧ (s.chan c).slotNo % 2 ≠ 0) ∨ ((s.chan c).quarter = true ∧ (s.chan c).slotNo % 4 ≠ 0)) ∧
      ((s.chan c).rq.all (fun e => !(s.chan c).edge e.x) = true ∧ (s.chan c).wq.all (fun e => !(s.chan c).edge e.x) = true)) ∧
    (∃ (s : State) (c : ChanId) (sub : Fin 2) (e : RdEnt),
      (s.chan c).st = 2 ∧
      s.chanLow c = false ∧
      (((s.chan c).limited = true ∧ (s.chan c).slotNo % 2 ≠ 0) ∨ ((s.chan c).quarter = true ∧ (s.chan c).slotNo % 4 ≠ 0)) ∧
      (s.chan c).rq = [e] ∧
      ((s.chan c).wq = [] ∧ fld (s.chan c).sched 31 24 ≠ 0) ∧
      (e.issued = false ∧ e.wait_ = false ∧ e.src < 12) ∧
      e.x % 2 = sub.val ∧
      (s.chan c).edge e.x = true ∧
      Tab.get (s.bw (c.val / 4)).weightOn 255 e.rcid ≠ 0) ∧
    (∃ (s : State) (c : ChanId),
      (s.chan c).st = 2 ∧
      (s.chan c).clearDone = true ∧
      (s.chan c).patrolCtl.getLsbD 8 = true ∧
      s.scrubbing (frameOfChan s.mode c) = false ∧
      s.chanLow c = false ∧
      (s.chan c).patrolDue = [] ∧
      (s.chan c).patrol + 1 < ((s.chan c).lines + (if ((s.activeChans (c.val / 4)).head? = some c.val) then 4 else 0)) ∧
      (s.chan c).wq.any (fun e => e.x == (s.chan c).patrol) = false ∧
      ((s.chan c).edge (s.chan c).patrol = true ∨ ((s.chan c).rank ((s.chan c).rankOf (s.chan c).patrol)).sr = false) ∧
      ((s.chan c).edge (s.chan c).patrol = true ∨ Tab.find s.memBad (keyChan c (s.chan c).patrol) = none)) ∧
    (∃ (s : State) (c : ChanId),
      (s.chan c).st = 2 ∧
      (s.chan c).clearDone = true ∧
      (s.chan c).patrolCtl.getLsbD 8 = true ∧
      s.scrubbing (frameOfChan s.mode c) = false ∧
      s.chanLow c = false ∧
      (s.chan c).patrolDue = [] ∧
      ((s.chan c).lines + (if ((s.activeChans (c.val / 4)).head? = some c.val) then 4 else 0)) = (s.chan c).patrol + 1 ∧
      (s.chan c).wq.any (fun e => e.x == (s.chan c).patrol) = false ∧
      ((s.chan c).edge (s.chan c).patrol = true ∨ ((s.chan c).rank ((s.chan c).rankOf (s.chan c).patrol)).sr = false) ∧
      ((s.chan c).edge (s.chan c).patrol = true ∨ Tab.find s.memBad (keyChan c (s.chan c).patrol) = none)) ∧
    (∃ (s : State) (c : ChanId) (m : Bool),
      (s.chan c).st = 2 ∧
      (s.chan c).clearDone = true ∧
      (s.chan c).patrolCtl.getLsbD 8 = true ∧
      s.scrubbing (frameOfChan s.mode c) = false ∧
      s.chanLow c = false ∧
      (s.chan c).patrolDue = [] ∧
      (s.chan c).patrol + 1 < ((s.chan c).lines + (if ((s.activeChans (c.val / 4)).head? = some c.val) then 4 else 0)) ∧
      (s.chan c).wq.any (fun e => e.x == (s.chan c).patrol) = false ∧
      ((s.chan c).edge (s.chan c).patrol = true ∨ ((s.chan c).rank ((s.chan c).rankOf (s.chan c).patrol)).sr = false) ∧
      (s.chan c).edge (s.chan c).patrol = false ∧
      Tab.find s.memBad (keyChan c (s.chan c).patrol) = none ∧
      s.memFound.contains (s.queueKey c (s.chan c).patrol) = false ∧
      (s.chan c).wq.any (fun e => e.x == (s.chan c).patrol) = false) ∧
    (∃ (s : State) (c : ChanId) (w : ReadWord),
      (s.chan c).st = 2 ∧
      (s.chan c).clearDone = true ∧
      (s.chan c).patrolCtl.getLsbD 8 = true ∧
      s.scrubbing (frameOfChan s.mode c) = false ∧
      s.chanLow c = false ∧
      (s.chan c).patrolDue = [] ∧
      (s.chan c).patrol + 1 < ((s.chan c).lines + (if ((s.activeChans (c.val / 4)).head? = some c.val) then 4 else 0)) ∧
      ((s.chan c).edge (s.chan c).patrol = true ∨ ((s.chan c).rank ((s.chan c).rankOf (s.chan c).patrol)).sr = false) ∧
      (s.chan c).wq.any (fun e => e.x == (s.chan c).patrol) = true) ∧
    (∃ (s : State) (c : ChanId) (w : ReadWord),
      (s.chan c).st = 2 ∧
      (s.chan c).clearDone = true ∧
      (s.chan c).patrolCtl.getLsbD 8 = true ∧
      s.scrubbing (frameOfChan s.mode c) = false ∧
      s.chanLow c = false ∧
      (s.chan c).patrolDue = [] ∧
      (s.chan c).patrol < ((s.chan c).lines + (if ((s.activeChans (c.val / 4)).head? = some c.val) then 4 else 0)) ∧
      (((s.chan c).edge (s.chan c).patrol = false ∧ ((s.chan c).rank ((s.chan c).rankOf (s.chan c).patrol)).sr = true))) ∧
    (∃ (s : State) (c : ChanId) (w : ReadWord),
      (s.chan c).st = 2 ∧
      (s.chan c).clearDone = true ∧
      (s.chan c).patrolCtl.getLsbD 8 = true ∧
      s.scrubbing (frameOfChan s.mode c) = false ∧
      s.chanLow c = false ∧
      ((s.chan c).lines + (if ((s.activeChans (c.val / 4)).head? = some c.val) then 4 else 0)) ≤ (s.chan c).patrol ∧
      (s.chan c).patrolDue ≠ [] ∧
      (∀ x ∈ (s.chan c).patrolDue, (s.chan c).edge x = false ∧ ((s.chan c).rank ((s.chan c).rankOf x)).sr = true)) ∧
    (∃ (s : State) (c : ChanId) (x : Nat),
      (s.chan c).st = 2 ∧
      (s.chan c).clearDone = true ∧
      (s.chan c).patrolCtl.getLsbD 8 = true ∧
      s.scrubbing (frameOfChan s.mode c) = false ∧
      s.chanLow c = false ∧
      (s.chan c).patrolDue = [x] ∧
      ((s.chan c).edge x = true ∨ ((s.chan c).rank ((s.chan c).rankOf x)).sr = false) ∧
      (s.chan c).wq.any (fun e => e.x == x) = false ∧
      ((s.chan c).edge x = true ∨ Tab.find s.memBad (keyChan c x) = none)) ∧
    (∃ (s : State) (c : ChanId) (w : ReadWord),
      ((s.chan c).st ≠ 2 ∨ (s.chan c).clearDone = false ∨ (s.chan c).patrolCtl.getLsbD 8 = false ∨ s.scrubbing (frameOfChan s.mode c) = true ∨ s.chanLow c = true)) ∧
    (∃ (s : State) (b : BayId),
      (s.home b).stopped = false ∧
      (s.home b).arrayFail = false ∧
      (s.domStateOf (14 + b.val) ≠ 4 ∧ s.domStateOf (14 + b.val) ≠ 5) ∧
      (s.home b).cache.all (fun e => e.2.bad == 0) = true) ∧
    (∃ (s : State) (b : BayId) (w : Fin 16),
      (s.home b).stopped = false ∧
      (s.home b).arrayFail = false ∧
      (s.domStateOf (14 + b.val) ≠ 4 ∧ s.domStateOf (14 + b.val) ≠ 5) ∧
      (s.home b).cache.all (fun e => e.2.bad == 0) = true ∧
      w.val < (s.home b).bench ∧
      (s.memLine (keyBench b ((s.home b).patrol * 64 + w.val * 0x400000))).2 = false) ∧
    (∃ (s : State) (b : BayId) (w : Fin 16) (k : Nat) (e : BayLine),
      (s.home b).stopped = false ∧
      (s.home b).arrayFail = false ∧
      (s.domStateOf (14 + b.val) ≠ 4 ∧ s.domStateOf (14 + b.val) ≠ 5) ∧
      (s.home b).cache = [(k, e)] ∧
      k = (s.home b).patrol * 16 + w.val ∧
      (s.home b).bench ≤ w.val ∧
      s.baySetOf b (e.line * 64) = (s.home b).patrol ∧
      e.bad = 0) ∧
    (∃ (s : State) (b : BayId) (w : Fin 16) (k : Nat) (e : BayLine),
      (s.home b).stopped = false ∧
      (s.home b).arrayFail = false ∧
      (s.domStateOf (14 + b.val) ≠ 4 ∧ s.domStateOf (14 + b.val) ≠ 5) ∧
      (s.home b).cache = [(k, e)] ∧
      k = (s.home b).patrol * 16 + w.val ∧
      (s.home b).bench ≤ w.val ∧
      s.baySetOf b (e.line * 64) = (s.home b).patrol ∧
      e.bad = 0 ∧
      e.dirty = true) ∧
    (∃ (s : State) (b : BayId) (w : Fin 16) (k : Nat) (e : BayLine),
      (s.home b).stopped = false ∧
      (s.home b).arrayFail = false ∧
      (s.domStateOf (14 + b.val) ≠ 4 ∧ s.domStateOf (14 + b.val) ≠ 5) ∧
      (s.home b).cache = [(k, e)] ∧
      k = (s.home b).patrol * 16 + w.val ∧
      (s.home b).bench ≤ w.val ∧
      s.baySetOf b (e.line * 64) = (s.home b).patrol ∧
      e.bad = 0 ∧
      e.dirty = false ∧
      (s.home b).lockedWay k = false) ∧
    (∃ (s : State) (b : BayId) (l : List (Fin 16 × Bool)),
      ((s.home b).stopped = true ∨ (s.home b).arrayFail = true ∨ s.domStateOf (14 + b.val) = 4 ∨ s.domStateOf (14 + b.val) = 5)) ∧
    (∃ (s : State) (c : ChanId) (r : Nat),
      (s.chan c).st = 2 ∧
      (s.chan c).clearDone = false ∧
      r < (s.chan c).regions ∧
      (s.chan c).cleared.contains r = false ∧
      s.chanLow c = false ∧
      ((s.chan c).passAt r = true ∨ (s.chan c).startsClear r = true) ∧
      Tab.rising s.mem = true ∧
      Tab.rising s.memBad = true) ∧
    (∃ (s : State) (c : ChanId) (r : Nat),
      ((s.chan c).st ≠ 2 ∨ (s.chan c).clearDone = true ∨ (s.chan c).regions ≤ r ∨ (s.chan c).cleared.contains r = true ∨ s.chanLow c = true ∨ ((s.chan c).passAt r = false ∧ (s.chan c).startsClear r = false))) ∧
    (∃ (s : State) (c : ChanId),
      (s.chan c).st = 2 ∧
      (s.chan c).cleared.length = (s.chan c).regions) ∧
    (∃ (s : State) (c : ChanId),
      ((s.chan c).st ≠ 2 ∨ (s.chan c).cleared.length ≠ (s.chan c).regions)) ∧
    (∃ (s : State) (q : QuadId) (r : Nat),
      Tab.rising (s.bw q).rbwb = true) ∧
    (∃ (s : State) (r : TrainRes),
      s.plumb.active = 0 ∧
      (s.frame 0).booted = true ∧
      (s.frame 0).topGib = 0 ∧
      (s.frame 0).trained = false ∧
      (r.ok = true ∧ r.like r = true)) ∧
    (∃ (s : State) (k : ChanId) (r q : TrainRes),
      s.plumb.active = 0 ∧
      (s.frame 0).booted = true ∧
      (s.frame 0).topGib = 0 ∧
      (s.frame 0).trained = false ∧
      (r.ok = true ∧ r.like r = true) ∧
      k.val ≠ 0 ∧
      (q.mods ≠ [] ∧ (q.ok = false ∨ q.like r = false))) ∧
    (∃ (s : State),
      s.plumb.active = 0 ∧
      (s.frame 0).booted = true ∧
      (s.frame 0).topGib = 0 ∧
      (s.frame 0).trained = false) ∧
    (∃ (s : State) (l : List (Nat × TrainRes)) (r : TrainRes),
      s.plumb.active = 0 ∧
      (s.frame 0).booted = true ∧
      (s.frame 0).topGib = 0 ∧
      (s.frame 0).trained = true ∧
      (List.range 16).all (fun c => (s.chan c).st == 1 && (s.chan c).res.gib == r.gib && (s.chan c).rate == 6400) = true ∧
      (4 ≤ r.gib ∧ r.gib < 512) ∧
      (∀ c, c < 16 → (Tab.find l c).any (fun r => !r.passed) = false)) ∧
    (∃ (s : State) (f : FrameId) (l : List (Nat × TrainRes)),
      ((s.frame f).booted = false ∨ (s.frame f).topGib ≠ 0 ∨ (framesOf s.mode).contains f.val = false)) :=
  ⟨⟨base.setChan 0 { base.chan 0 with rq := [{ src := 4, line := 64, x := 8, rcid := 2, mcid := 3 }], banks := [((base.chan 0).bankKey 8, { row := some (dramOf (base.chan 0).nr 8).row })] }, 0, 0, { src := 4, line := 64, x := 8, rcid := 2, mcid := 3 }, by decide +kernel⟩,
    ⟨base.setChan 0 { base.chan 0 with sched := 0x40200008, rq := [{ src := 4, line := 64, x := 8, rcid := 2, mcid := 3 }], banks := [((base.chan 0).bankKey 8, { row := some (dramOf (base.chan 0).nr 8).row })] }, 0, 0, { src := 4, line := 64, x := 8, rcid := 2, mcid := 3 }, by decide +kernel⟩,
    ⟨base.setChan 0 { base.chan 0 with rq := [{ src := 4, line := 64, x := (base.chan 0).lines }] }, 0, 0, { src := 4, line := 64, x := (base.chan 0).lines }, by decide +kernel⟩,
    ⟨base.setChan 0 { base.chan 0 with rq := [{ src := 4, line := 64, x := 8, rcid := 2, mcid := 3 }] }, 0, 0, { src := 4, line := 64, x := 8, rcid := 2, mcid := 3 }, by decide +kernel⟩,
    ⟨base.setChan 0 { base.chan 0 with rq := [{ src := 4, line := 64, x := 8, rcid := 2, mcid := 3 }], banks := [((base.chan 0).bankKey 8, { row := some 99 })] }, 0, 0, { src := 4, line := 64, x := 8, rcid := 2, mcid := 3 }, 99, by decide +kernel⟩,
    ⟨base.setChan 0 { base.chan 0 with rq := [{ src := 3, line := 65, x := 0, age := 0 }, { src := 4, line := 64, x := 8, age := 1, rcid := 2, mcid := 3 }], banks := [((base.chan 0).bankKey 8, { row := some (dramOf (base.chan 0).nr 8).row })] }, 0, 0, { src := 3, line := 65, x := 0, age := 0 }, { src := 4, line := 64, x := 8, age := 1, rcid := 2, mcid := 3 }, by decide +kernel⟩,
    ⟨base.setChan 0 { base.chan 0 with rq := [{ src := 3, line := 65, x := 0, age := 0 }, { src := 4, line := 64, x := 8, age := 1, rcid := 2, mcid := 3 }], banks := [((base.chan 0).bankKey 0, { row := some (dramOf (base.chan 0).nr 0).row }), ((base.chan 0).bankKey 8, { row := some (dramOf (base.chan 0).nr 8).row })] }, 0, 0, { src := 3, line := 65, x := 0, age := 0 }, { src := 4, line := 64, x := 8, age := 1, rcid := 2, mcid := 3 }, by decide +kernel⟩,
    ⟨{ (base.setChan 0 { base.chan 0 with rq := [{ src := 3, line := 65, x := 0, age := 0 }, { src := 4, line := 64, x := 8, age := 1, rcid := 2, mcid := 3, at_ := 1000 }], banks := [((base.chan 0).bankKey 8, { row := some (dramOf (base.chan 0).nr 8).row })] }) with scribe := { base.scribe with upTicks := 1000 } }, 0, 0, { src := 3, line := 65, x := 0, age := 0 }, { src := 4, line := 64, x := 8, age := 1, rcid := 2, mcid := 3, at_ := 1000 }, by decide +kernel⟩,
    ⟨base.setChan 0 { base.chan 0 with wq := [{ line := 64, x := 8, rcid := 2, mcid := 3, data := 5 }], banks := [((base.chan 0).bankKey 8, { row := some (dramOf (base.chan 0).nr 8).row })] }, 0, 0, { line := 64, x := 8, rcid := 2, mcid := 3, data := 5 }, by decide +kernel⟩,
    ⟨base.setChan 0 { base.chan 0 with rq := [{ src := 3, line := 65, x := 0, age := 3 }], wq := [{ line := 64, x := 8, rcid := 2, mcid := 3, data := 5 }], banks := [((base.chan 0).bankKey 0, { row := some (dramOf (base.chan 0).nr 0).row }), ((base.chan 0).bankKey 8, { row := some (dramOf (base.chan 0).nr 8).row })] }, 0, 0, { src := 3, line := 65, x := 0, age := 3 }, { line := 64, x := 8, rcid := 2, mcid := 3, data := 5 }, by decide +kernel⟩,
    ⟨base.setChan 0 { base.chan 0 with sched := 0x40000C08, drain := true, rq := [{ src := 3, line := 65, x := 0, age := 3 }], wq := [{ line := 64, x := 8, rcid := 2, mcid := 3, data := 5 }], banks := [((base.chan 0).bankKey 0, { row := some (dramOf (base.chan 0).nr 0).row }), ((base.chan 0).bankKey 8, { row := some (dramOf (base.chan 0).nr 8).row })] }, 0, 0, { src := 3, line := 65, x := 0, age := 3 }, { line := 64, x := 8, rcid := 2, mcid := 3, data := 5 }, by decide +kernel⟩,
    ⟨base.setChan 0 { base.chan 0 with banks := [(5, { sample := some 9 })] }, 0, 0, 5, { sample := some 9 }, 9, by decide +kernel⟩,
    ⟨base.setChan 0 { base.chan 0 with rh := 0x420B, res := { (base.chan 0).res with raaimt := 4, raadec := 2 }, banks := [(5, { raa := 4 })] }, 0, 0, 5, { raa := 4 }, by decide +kernel⟩,
    ⟨{ (base.setChan 0 { base.chan 0 with rq := [{ src := 4, line := 64, x := 8, rcid := 2, mcid := 3 }], banks := [((base.chan 0).bankKey 8, { row := some (dramOf (base.chan 0).nr 8).row })] }) with qos := [(0, { weightOn := [(2, 0)] })] }, 0, 0, { src := 4, line := 64, x := 8, rcid := 2, mcid := 3 }, by decide +kernel⟩,
    ⟨{ (base.setChan 0 { base.chan 0 with rq := [{ src := 4, line := 64, x := 8, rcid := 2, mcid := 3 }] }) with power := { base.power with domState := [(26, 3), (27, 3)] } }, 0, 0, by decide +kernel⟩,
    ⟨base.setChan 0 { base.chan 0 with rq := [{ src := 4, line := 64, x := 8, rcid := 2, mcid := 3 }], limited := true, slotNo := 3 }, 0, 0, by decide +kernel⟩,
    ⟨base.setChan 0 { base.chan 0 with limited := true, slotNo := 1, rq := [{ src := 4, line := 64, x := (base.chan 0).lines }] }, 0, 0, { src := 4, line := 64, x := (base.chan 0).lines }, by decide +kernel⟩,
    ⟨base, 0, by decide +kernel⟩,
    ⟨base.setChan 0 { base.chan 0 with patrol := (base.chan 0).lines + 3, passes := 65535 }, 0, by decide +kernel⟩,
    ⟨base, 0, false, by decide +kernel⟩,
    ⟨base.setChan 0 { base.chan 0 with wq := [{}] }, 0, .asStored, by decide +kernel⟩,
    ⟨base.setChan 0 { base.chan 0 with ranks := [(0, { sr := true })] }, 0, .asStored, by decide +kernel⟩,
    ⟨base.setChan 0 { base.chan 0 with ranks := [(0, { sr := true })], patrolDue := [0, 4], patrol := (base.chan 0).lines + 4 }, 0, .asStored, by decide +kernel⟩,
    ⟨base.setChan 0 { base.chan 0 with patrolDue := [4], patrol := (base.chan 0).lines + 4 }, 0, 4, by decide +kernel⟩,
    ⟨base.setChan 0 { base.chan 0 with clearDone := false }, 0, .asStored, by decide +kernel⟩,
    ⟨base.setHome 3 { base.home 3 with patrol := 65535 }, 3, by decide +kernel⟩,
    ⟨base.setHome 3 { base.home 3 with bench := 2, patrol := 7 }, 3, 1, by decide +kernel⟩,
    ⟨base.setHome 3 { base.home 3 with patrol := (base.baySetOf 3 0x40000), cache := [((base.baySetOf 3 0x40000) * 16 + 5, { line := 0x1000, data := 9, dirty := true })] }, 3, 5, (base.baySetOf 3 0x40000) * 16 + 5, { line := 0x1000, data := 9, dirty := true }, by decide +kernel⟩,
    ⟨base.setHome 3 { base.home 3 with patrol := (base.baySetOf 3 0x40000), cache := [((base.baySetOf 3 0x40000) * 16 + 5, { line := 0x1000, data := 9, dirty := true })] }, 3, 5, (base.baySetOf 3 0x40000) * 16 + 5, { line := 0x1000, data := 9, dirty := true }, by decide +kernel⟩,
    ⟨base.setHome 3 { base.home 3 with patrol := (base.baySetOf 3 0x40000), cache := [((base.baySetOf 3 0x40000) * 16 + 5, { line := 0x1000, data := 9 })] }, 3, 5, (base.baySetOf 3 0x40000) * 16 + 5, { line := 0x1000, data := 9 }, by decide +kernel⟩,
    ⟨base.setHome 3 { base.home 3 with stopped := true }, 3, [], by decide +kernel⟩,
    ⟨{ base.setChan 0 { base.chan 0 with clearDone := false, ranks := [(0, { sr := true })] } with mem := [(7, 1), (0x200000, 9)], memPoison := [0] }, 0, 0, by decide +kernel⟩,
    ⟨base, 0, 0, by decide +kernel⟩,
    ⟨base.setChan 0 { base.chan 0 with clearDone := false, res := { mods := [] } }, 0, by decide +kernel⟩,
    ⟨base.setChan 0 { base.chan 0 with clearDone := false }, 0, by decide +kernel⟩,
    ⟨{ base with qos := [(1, { rbwb := [(3, 200)], used := [(3, 64)] })] }, 1, 3, by decide +kernel⟩,
    ⟨{ base with frames := [(0, { booted := true })], chans := [], mem := [(7, 1)] }, { mods := [{ gib := 64, grades := [{ rate := 6400, cl := 50, trcd := 14000, trp := 14000 }] }], passed := true }, by decide +kernel⟩,
    ⟨{ base with frames := [(0, { booted := true })], chans := [], mem := [(7, 1)] }, 5, { mods := [{ gib := 64, grades := [{ rate := 6400, cl := 50, trcd := 14000, trp := 14000 }] }], passed := true }, { mods := [{ gib := 64, grades := [{ rate := 6400, cl := 50, trcd := 14000, trp := 14000 }] }], passed := false }, by decide +kernel⟩,
    ⟨{ base with frames := [(0, { booted := true })], chans := [], mem := [(7, 1)] }, by decide +kernel⟩,
    ⟨{ base with frames := [(0, { booted := true, trained := true })], chans := (List.range 16).map (fun c => (c, { st := 1, rate := 6400, res := { mods := [{ gib := 64, grades := [{ rate := 6400, cl := 50, trcd := 14000, trp := 14000 }] }], passed := true } })), mem := [(7, 1)] }, [], { mods := [{ gib := 64, grades := [{ rate := 6400, cl := 50, trcd := 14000, trp := 14000 }] }], passed := true }, by decide +kernel⟩,
    ⟨base, 0, [], by decide +kernel⟩⟩

/-- States and operands that meet the hypotheses of PurlinLinksAndTheJoin. -/
theorem witness_PurlinLinksAndTheJoin :
    (∃ (s : State) (p : PortId) (h : PFlitHdr) (us : List (BitVec 128)) (n : Nat),
      (s.port p).pers = 4 ∧
      ((s.port p).purlin.st = 2 ∨ (s.port p).purlin.st = 3) ∧
      (s.port p).purlin.retraining = false ∧
      (s.port p).purlin.after = none ∧
      h.seq = (s.port p).purlin.rxSeq ∧
      s.net.all (fun m => m.outP != some p.val) = true ∧
      h.nak = false ∧
      (h.kind ≠ 2 ∧ (h.kind ≠ 0 ∨ (s.port p).purlin.st = 2))) ∧
    (∃ (s : State) (p : PortId) (h : PFlitHdr) (us : List (BitVec 128)) (m : Msg),
      (s.port p).pers = 4 ∧
      ((s.port p).purlin.st = 2 ∨ (s.port p).purlin.st = 3) ∧
      (s.port p).purlin.retraining = false ∧
      (s.port p).purlin.after = none ∧
      h.seq = (s.port p).purlin.rxSeq ∧
      s.net.all (fun m => m.outP != some p.val) = true ∧
      h.nak = false ∧
      (h.kind ≠ 2 ∧ (h.kind ≠ 0 ∨ (s.port p).purlin.st = 2)) ∧
      ((s.port p).purlin.replayAt = none ∧ (s.port p).purlin.outUnits = [] ∧ (s.port p).purlin.outQ = [m]) ∧
      h.crClass < 5 ∧
      (msgUnits m).length + (Tab.get (s.port p).purlin.sentU 0 (clsOf m.op) + 4096 - (if h.crClass = clsOf m.op then h.crCount % 4096 else Tab.get (s.port p).purlin.farFreed 0 (clsOf m.op))) % 4096 ≤ purlinBuf (clsOf m.op) ∧
      msgUnits m ≠ [] ∧
      (msgUnits m).length ≤ 15) ∧
    (∃ (s : State) (p : PortId) (h : PFlitHdr) (us : List (BitVec 128)) (m : Msg),
      (s.port p).pers = 4 ∧
      ((s.port p).purlin.st = 2 ∨ (s.port p).purlin.st = 3) ∧
      (s.port p).purlin.retraining = false ∧
      (s.port p).purlin.after = none ∧
      h.seq = (s.port p).purlin.rxSeq ∧
      s.net.all (fun m => m.outP != some p.val) = true ∧
      h.nak = false ∧
      (h.kind ≠ 2 ∧ (h.kind ≠ 0 ∨ (s.port p).purlin.st = 2)) ∧
      ((s.port p).purlin.replayAt = none ∧ (s.port p).purlin.outUnits = [] ∧ (s.port p).purlin.outQ = [m]) ∧
      h.crClass < 5 ∧
      purlinBuf (clsOf m.op) < (msgUnits m).length + (Tab.get (s.port p).purlin.sentU 0 (clsOf m.op) + 4096 - (if h.crClass = clsOf m.op then h.crCount % 4096 else Tab.get (s.port p).purlin.farFreed 0 (clsOf m.op))) % 4096) ∧
    (∃ (s : State) (p : PortId) (h : PFlitHdr) (us : List (BitVec 128)) (q k : Nat) (v : List (BitVec 128)),
      (s.port p).pers = 4 ∧
      ((s.port p).purlin.st = 2 ∨ (s.port p).purlin.st = 3) ∧
      (s.port p).purlin.retraining = false ∧
      (s.port p).purlin.after = none ∧
      h.seq = (s.port p).purlin.rxSeq ∧
      s.net.all (fun m => m.outP != some p.val) = true ∧
      h.nak = false ∧
      (h.kind ≠ 2 ∧ (h.kind ≠ 0 ∨ (s.port p).purlin.st = 2)) ∧
      (s.port p).purlin.replayAt = some q ∧
      (s.port p).purlin.retry.find? (fun e => e.1 == q) = some (q, k, v)) ∧
    (∃ (s : State) (p : PortId) (h : PFlitHdr) (u : BitVec 128) (op : MsgOp),
      (s.port p).pers = 4 ∧
      (s.port p).purlin.st = 3 ∧
      (s.port p).purlin.retraining = false ∧
      (s.port p).purlin.after = none ∧
      h.seq = (s.port p).purlin.rxSeq ∧
      s.net.all (fun m => m.outP != some p.val) = true ∧
      h.nak = false ∧
      h.kind = 0 ∧
      (s.port p).purlin.partUnits = [] ∧
      u ≠ 0 ∧
      unitOp u = some op ∧
      unitCount u = 1 ∧
      (unitMsg op u []).op = op ∧
      op ∉ ([.msiWrite, .mgmt, .domainDown] : List MsgOp) ∧
      (s.frame (s.frameOfPort p)).halted = false ∧
      bits u.toNat 2 0 = 1 ∧
      (unitMsg op u []).hdr.dstPkg = s.ownPkg ∧
      agentOk (unitMsg op u []).hdr.src = true ∧
      s.routed { unitMsg op u [] with hdr := { (unitMsg op u []).hdr with dst := 32 + p.val }, inP := some p.val } = true) ∧
    (∃ (s : State) (p : PortId) (h : PFlitHdr) (u : BitVec 128) (op : MsgOp),
      (s.port p).pers = 4 ∧
      (s.port p).purlin.st = 3 ∧
      (s.port p).purlin.retraining = false ∧
      (s.port p).purlin.after = none ∧
      h.seq = (s.port p).purlin.rxSeq ∧
      s.net.all (fun m => m.outP != some p.val) = true ∧
      h.nak = false ∧
      h.kind = 0 ∧
      (s.port p).purlin.partUnits = [] ∧
      u ≠ 0 ∧
      unitOp u = some op ∧
      unitCount u = 1 ∧
      (unitMsg op u []).op = op ∧
      op ∉ ([.msiWrite, .mgmt, .domainDown] : List MsgOp) ∧
      (s.frame (s.frameOfPort p)).halted = false ∧
      bits u.toNat 2 0 ≠ 1 ∧
      (unitMsg op u []).hdr.dstPkg = s.ownPkg ∧
      (agentOk (unitMsg op u []).hdr.src = true ∧ agentOk (unitMsg op u []).hdr.dst = true) ∧
      s.routed { unitMsg op u [] with inP := some p.val } = true) ∧
    (∃ (s : State) (p : PortId) (h : PFlitHdr) (u : BitVec 128) (op : MsgOp) (q : PortId),
      (s.port p).pers = 4 ∧
      (s.port p).purlin.st = 3 ∧
      (s.port p).purlin.retraining = false ∧
      (s.port p).purlin.after = none ∧
      h.seq = (s.port p).purlin.rxSeq ∧
      s.net.all (fun m => m.outP != some p.val) = true ∧
      h.nak = false ∧
      h.kind = 0 ∧
      (s.port p).purlin.partUnits = [] ∧
      u ≠ 0 ∧
      unitOp u = some op ∧
      unitCount u = 1 ∧
      (unitMsg op u []).op = op ∧
      op ∉ ([.msiWrite, .mgmt, .domainDown] : List MsgOp) ∧
      (s.frame (s.frameOfPort p)).halted = false ∧
      (unitMsg op u []).hdr.dstPkg ≠ s.ownPkg ∧
      s.linkPorts (s.frameOfPort p) (s.nextHop (s.frameOfPort p) (unitMsg op u []).hdr.dstPkg) = [q.val] ∧
      portStop q ≠ portStop p ∧
      s.routed { unitMsg op u [] with inP := some p.val, outP := some q.val } = true) ∧
    (∃ (s : State) (p : PortId) (h : PFlitHdr) (us : List (BitVec 128)) (n : Nat),
      (s.port p).pers = 4 ∧
      ((s.port p).purlin.st = 2 ∨ (s.port p).purlin.st = 3) ∧
      (s.port p).purlin.retraining = false ∧
      (s.port p).purlin.after = none ∧
      h.seq ≠ (s.port p).purlin.rxSeq) ∧
    (∃ (s : State) (p : PortId) (h : PFlitHdr) (us : List (BitVec 128)),
      ((s.port p).pers ≠ 4 ∨ (s.port p).purlin.retraining = true ∨ ((s.port p).purlin.st ≠ 2 ∧ (s.port p).purlin.st ≠ 3))) ∧
    (∃ (s : State) (p : PortId) (h : PFlitHdr) (us : List (BitVec 128)) (e : Nat × Nat × List (BitVec 128)),
      (s.port p).pers = 4 ∧
      ((s.port p).purlin.st = 2 ∨ (s.port p).purlin.st = 3) ∧
      (s.port p).purlin.retraining = false ∧
      (s.port p).purlin.after = none ∧
      h.seq = (s.port p).purlin.rxSeq ∧
      s.net.all (fun m => m.outP != some p.val) = true ∧
      h.nak = true ∧
      (h.kind ≠ 2 ∧ (h.kind ≠ 0 ∨ (s.port p).purlin.st = 2)) ∧
      (s.port p).purlin.retry.find? (fun e => e.1 == ((h.ack + 1) % 1024)) = some e) ∧
    (∃ (s : State) (p : PortId),
      (s.port p).pers = 4 ∧
      ((s.port p).purlin.st = 2 ∨ (s.port p).purlin.st = 3) ∧
      (s.port p).purlin.retraining = false ∧
      (s.port p).purlin.after = none) ∧
    (∃ (s : State) (p : PortId) (a : BitVec 10),
      (s.port p).pers = 4 ∧
      ((s.port p).purlin.st = 2 ∨ (s.port p).purlin.st = 3) ∧
      (s.port p).purlin.retry.any (fun e => e.1 == (a.toNat + 1) % 1024) = true) ∧
    (∃ (s : State) (p : PortId) (a : BitVec 10),
      (s.port p).pers = 4 ∧
      ((s.port p).purlin.st = 2 ∨ (s.port p).purlin.st = 3) ∧
      (a.toNat + 1) % 1024 = (s.port p).purlin.txSeq ∧
      (s.port p).purlin.retry.any (fun e => e.1 == (a.toNat + 1) % 1024) = false) ∧
    (∃ (s : State) (p : PortId) (a : BitVec 10),
      (s.port p).pers = 4 ∧
      ((s.port p).purlin.st = 2 ∨ (s.port p).purlin.st = 3) ∧
      (a.toNat + 1) % 1024 ≠ (s.port p).purlin.txSeq ∧
      (s.port p).purlin.retry.any (fun e => e.1 == (a.toNat + 1) % 1024) = false ∧
      (s.frame (s.frameOfPort p)).joinSt = 1) ∧
    (∃ (s : State) (p : PortId),
      (s.port p).pers = 4 ∧
      ((s.port p).purlin.st = 2 ∨ (s.port p).purlin.st = 3)) ∧
    (∃ (s : State) (p : PortId),
      (s.port p).pers = 4 ∧
      (s.port p).purlin.st = 3 ∧
      (s.frame (s.frameOfPort p)).joinSt = 1) ∧
    (∃ (s : State) (p : PortId),
      (s.port p).pers = 4 ∧
      ((s.port p).purlin.st = 2 ∨ (s.port p).purlin.st = 3) ∧
      ((s.frame (s.frameOfPort p)).joinSt = 1 ∨ (s.frame (s.frameOfPort p)).joinSt = 2 ∧ (s.port p).purlin.role = 6)) ∧
    (∃ (s : State) (p : PortId) (f : Nat),
      (s.port p).pers = 4 ∧
      ((s.port p).purlin.st = 2 ∨ (s.port p).purlin.st = 3) ∧
      f = s.frameOfPort p ∧
      (s.frame f).joinSt = 2 ∧
      (s.port p).purlin.role ≠ 6 ∧
      (s.frame f).halted = false) ∧
    (∃ (s : State) (l : Purlin) (own src : Nat),
      l.st = 3 ∧
      l.replayAt = none ∧
      l.outPart = 0 ∧
      (msgUnits ({ op := .domainDown, hdr := { src := src, dst := 32 + l.far.port, srcPkg := own, dstPkg := l.far.pkg } } : Msg)).length ≤ l.credit 4) ∧
    (∃ (s : State) (p : PortId) (f : Nat),
      (s.port p).pers = 4 ∧
      ((s.port p).purlin.st = 2 ∨ (s.port p).purlin.st = 3) ∧
      f = s.frameOfPort p ∧
      (s.frame f).joinSt = 0 ∧
      p.val ∈ s.purlinPorts f) ∧
    (∃ (s : State) (p : PortId),
      ((s.port p).pers ≠ 4 ∨ ((s.port p).purlin.st ≠ 2 ∧ (s.port p).purlin.st ≠ 3))) ∧
    (∃ (s : State) (p : PortId) (f : Nat),
      (s.port p).pers = 4 ∧
      (s.port p).purlin.st = 3 ∧
      f = s.frameOfPort p ∧
      (s.frame f).joinSt = 0 ∧
      (s.frame f).halted = false ∧
      p.val ∈ s.purlinPorts f) ∧
    (∃ (s : State) (p : PortId) (u : IdUnit),
      (s.port p).pers = 4 ∧
      (s.port p).purlin.st = 2 ∧
      s.identityReason p u = 0 ∧
      ((s.frame (s.frameOfPort p)).joinDead = false ∧ (s.frame (s.frameOfPort p)).joinSt = 0) ∧
      (s.port p).purlin.after = none ∧
      (s.frame (s.frameOfPort p)).heard = [] ∧
      p.val ∈ s.purlinPorts (s.frameOfPort p)) ∧
    (∃ (s : State) (p : PortId) (u : IdUnit),
      (s.port p).pers = 4 ∧
      (s.port p).purlin.st = 2 ∧
      s.identityReason p u = 0 ∧
      ((s.frame (s.frameOfPort p)).joinDead = true ∨ (s.frame (s.frameOfPort p)).joinSt ≠ 0)) ∧
    (∃ (s : State) (p : PortId) (u : IdUnit) (r : Nat),
      (s.port p).pers = 4 ∧
      (s.port p).purlin.st = 2 ∧
      r = (if u.fcIdx ≠ s.mode / 4 then 1 else if u.variant ≠ b2n (variantO s.mode) then 2 else if u.joined ≠ joinedMode s.mode then 3 else if u.frame ≠ s.frameOfPort p then 4 else if u.pkg = s.plumb.pkgId then 5 else 0) ∧
      r ≠ 0) ∧
    (∃ (s : State) (p : PortId) (u : IdUnit),
      ((s.port p).pers ≠ 4 ∨ (s.port p).purlin.st ≠ 2)) ∧
    (∃ (s : State) (p : PortId),
      (s.plumb.pkgId < 8 ∧ s.frameOfPort p < 4 ∧ s.mode < 16 ∧ (s.port p).purlin.width < 32)) ∧
    (∃ (s : State) (p : PortId) (h : PFlitHdr) (u : BitVec 128) (us : List (BitVec 128)),
      (s.port p).pers = 4 ∧
      (s.port p).purlin.st = 2 ∧
      (s.port p).purlin.retraining = false ∧
      (s.port p).purlin.after = none ∧
      h.seq = (s.port p).purlin.rxSeq ∧
      s.net.all (fun m => m.outP != some p.val) = true ∧
      h.nak = false ∧
      h.kind = 2 ∧
      s.identityReason p (idOfUnit u) = 0 ∧
      ((s.frame (s.frameOfPort p)).joinDead = true ∨ (s.frame (s.frameOfPort p)).joinSt ≠ 0)) ∧
    (∃ (s : State) (f : FrameId),
      (framesOf s.mode).contains f.val = true ∧
      joinedMode s.mode = true ∧
      (s.frame f).booted = true ∧
      (s.frame f).halted = false ∧
      (s.frame f).joinSt = 0 ∧
      (s.frame f).joinStep = 0 ∧
      (s.joinView f).passes (frameCount s.mode) s.plumb.pkgId = true ∧
      s.upPorts f ≠ [] ∧
      (∃ q ∈ s.upPorts f, (s.port q).purlin.digest = none) ∧
      (∀ q ∈ s.upPorts f, (s.port q).purlin.digest.all (fun d => d == BitVec.ofNat 32 (s.joinView f).digest) = true)) ∧
    (∃ (s : State) (f : FrameId),
      (framesOf s.mode).contains f.val = true ∧
      joinedMode s.mode = true ∧
      (s.frame f).booted = true ∧
      (s.frame f).halted = false ∧
      (s.frame f).joinSt = 0 ∧
      (s.frame f).joinStep = 0 ∧
      ((s.joinView f).passes (frameCount s.mode) s.plumb.pkgId = false ∨ s.upPorts f = [])) ∧
    (∃ (s : State) (p : PortId) (f : FrameId) (c : BitVec 32),
      (s.port p).pers = 4 ∧
      (s.port p).purlin.st = 3 ∧
      f.val = (s.frameOfPort p) ∧
      (s.frame f).halted = false ∧
      (s.frame f).joinSt = 0 ∧
      (s.frame f).joinStep = 1 ∧
      c ≠ BitVec.ofNat 32 (s.joinView f).digest ∧
      p.val ∈ s.upPorts f) ∧
    (∃ (s : State) (p : PortId) (f : FrameId) (c : BitVec 32),
      (s.port p).pers = 4 ∧
      (s.port p).purlin.st = 3 ∧
      f.val = (s.frameOfPort p) ∧
      (s.frame f).halted = false ∧
      (s.frame f).joinSt = 0 ∧
      (s.frame f).joinStep = 1 ∧
      c = BitVec.ofNat 32 (s.joinView f).digest ∧
      p.val ∈ s.upPorts f ∧
      (∀ q ∈ s.upPorts f, q ≠ p.val → (s.port q).purlin.digest = some c) ∧
      (s.joinView f).members.all (fun m => m == s.plumb.pkgId || (Tab.find (s.frame f).heardTime m).isSome) = false) ∧
    (∃ (s : State) (p : PortId) (f : FrameId) (pkg : Nat) (x : BitVec 64) (d : Int),
      (s.port p).pers = 4 ∧
      (s.port p).purlin.st = 3 ∧
      f.val = (s.frameOfPort p) ∧
      (s.frame f).halted = false ∧
      (s.frame f).joinSt = 0 ∧
      (s.frame f).joinStep = 2 ∧
      pkg ≠ s.plumb.pkgId ∧
      Tab.find (s.frame f).heardTime pkg = none ∧
      d = (x.toNat + (s.port p).purlin.delay : Int) - (s.mtimeOf f).toNat ∧
      (s.joinView f).members.all (fun m => m == s.plumb.pkgId || m == pkg || (Tab.find (s.frame f).heardTime m).isSome) = true ∧
      s.purlinPorts f = [p.val] ∧
      p.val ∈ s.upPorts f ∧
      (s.joinView f).members.length = 2 ∧
      (s.joinView f).members.contains (s.port p).purlin.far.pkg = true ∧
      (s.frame f).topGib ≤ 4096) ∧
    (∃ (s : State) (p : PortId) (f : FrameId) (pkg : Nat) (x : BitVec 64) (d : Int) (a b : Nat),
      (s.port p).pers = 4 ∧
      (s.port p).purlin.st = 3 ∧
      f.val = (s.frameOfPort p) ∧
      (s.frame f).halted = false ∧
      (s.frame f).joinSt = 0 ∧
      (s.frame f).joinStep = 2 ∧
      pkg ≠ s.plumb.pkgId ∧
      Tab.find (s.frame f).heardTime pkg = none ∧
      d = (x.toNat + (s.port p).purlin.delay : Int) - (s.mtimeOf f).toNat ∧
      (s.joinView f).members.all (fun m => m == s.plumb.pkgId || m == pkg || (Tab.find (s.frame f).heardTime m).isSome) = true ∧
      (s.joinView f).members.length = 4 ∧
      (∀ q ∈ s.purlinPorts f, (s.port q).purlin.st = 3) ∧
      (a ∈ s.purlinPorts f ∧ b ∈ s.purlinPorts f ∧ a < b) ∧
      (s.joinView f).members.contains (s.port a).purlin.far.pkg = true ∧
      (s.port b).purlin.far.pkg = (s.port a).purlin.far.pkg ∧
      (∀ q ∈ s.purlinPorts f, q < a → (s.port q).purlin.far.pkg ≠ (s.port a).purlin.far.pkg)) ∧
    (∃ (s : State) (p : PortId) (f : FrameId) (pkg : Nat) (x : BitVec 64) (d : Int) (b : Nat),
      (s.port p).pers = 4 ∧
      (s.port p).purlin.st = 3 ∧
      f.val = (s.frameOfPort p) ∧
      (s.frame f).halted = false ∧
      (s.frame f).joinSt = 0 ∧
      (s.frame f).joinStep = 2 ∧
      pkg ≠ s.plumb.pkgId ∧
      Tab.find (s.frame f).heardTime pkg = none ∧
      d = (x.toNat + (s.port p).purlin.delay : Int) - (s.mtimeOf f).toNat ∧
      (s.joinView f).members.all (fun m => m == s.plumb.pkgId || m == pkg || (Tab.find (s.frame f).heardTime m).isSome) = true ∧
      b ∈ s.purlinPorts f ∧
      (s.port b).purlin.st ≠ 3) ∧
    (∃ (s : State) (p : PortId) (f : FrameId) (x y : BitVec 60) (n d : Nat),
      (s.port p).pers = 4 ∧
      (s.port p).purlin.st = 3 ∧
      f.val = (s.frameOfPort p) ∧
      (s.frame f).halted = false ∧
      (s.frame f).joinSt = 2 ∧
      rankOf (s.frame f).members s.plumb.pkgId ≠ 0 ∧
      s.masterPort f = some p.val ∧
      n = (BitVec.ofNat 60 (s.mtimeOf f).toNat).toNat ∧
      d = (BitVec.ofNat 60 (s.mtimeOf f).toNat - x).toNat / 2) ∧
    (∃ (s : State) (f : FrameId),
      (framesOf s.mode).contains f.val = true ∧
      joinedMode s.mode = true ∧
      (s.frame f).booted = true ∧
      (s.frame f).halted = false ∧
      (s.frame f).joinSt = 0 ∧
      s.upPorts f = []) ∧
    (∃ (s : State) (f : FrameId),
      (framesOf s.mode).contains f.val = true ∧
      joinedMode s.mode = true ∧
      (s.frame f).booted = true ∧
      (s.frame f).halted = false ∧
      ((s.frame f).joinSt ≠ 0 ∨ s.upPorts f ≠ [])) ∧
    (∃ (s : State) (f : FrameId),
      ((framesOf s.mode).contains f.val = false ∨ joinedMode s.mode = false ∨ (s.frame f).booted = false ∨ (s.frame f).halted = true ∨ (s.frame f).joinSt ≠ 0 ∨ (s.frame f).joinStep ≠ 0)) ∧
    (∃ (s : State) (f : FrameId),
      ((framesOf s.mode).contains f.val = false ∨ joinedMode s.mode = false ∨ (s.frame f).booted = false ∨ (s.frame f).halted = true)) ∧
    (∃ (s : State) (f : FrameId) (p : PortId),
      (s.frame f).joinSt = 2 ∧
      (s.frame f).halted = false ∧
      rankOf (s.frame f).members s.plumb.pkgId ≠ 0 ∧
      s.masterPort f = some p.val ∧
      (s.port p).purlin.after = none) ∧
    (∃ (s : State) (f : FrameId),
      ((s.frame f).joinSt ≠ 2 ∨ (s.frame f).halted = true ∨ rankOf (s.frame f).members s.plumb.pkgId = 0 ∨ s.masterPort f = none)) :=
  ⟨⟨base.setPort 2 { pers := 4, inReset := false, purlin := { st := 3, rxSeq := 1023, nakRun := 3 } }, 2, { seq := 1023, kind := 1, crCount := 9 }, [], 3, by decide +kernel⟩,
    ⟨base.setPort 2 { pers := 4, inReset := false, purlin := { st := 3, outQ := [{ op := .rdS, hdr := { src := 1, dst := 17, line := 9 } }] } }, 2, { kind := 1 }, [], { op := .rdS, hdr := { src := 1, dst := 17, line := 9 } }, by decide +kernel⟩,
    ⟨base.setPort 2 { pers := 4, inReset := false, purlin := { st := 3, sentU := [(0, 768)], outQ := [{ op := .rdS, hdr := { src := 1, dst := 17, line := 9 } }] } }, 2, { kind := 1 }, [], { op := .rdS, hdr := { src := 1, dst := 17, line := 9 } }, by decide +kernel⟩,
    ⟨base.setPort 2 { pers := 4, inReset := false, purlin := { st := 3, txSeq := 9, replayAt := some 7, retry := [(7, 0, [3]), (8, 1, [])] } }, 2, { kind := 1 }, [], 7, 0, [3], by decide +kernel⟩,
    ⟨base.setPort 2 { pers := 4, inReset := false, purlin := { st := 3 } }, 2, {}, hdrUnit .snpInv { src := 17, dst := 3, line := 64 }, .snpInv, by decide +kernel⟩,
    ⟨{ base.setPort 2 { pers := 4, inReset := false, purlin := { st := 3 } } with plumb := { base.plumb with active := 1 } }, 2, {}, hdrUnit .rdS { src := 3, dst := 17, line := 64, srcPkg := 1, reqPkg := 1 }, .rdS, by decide +kernel⟩,
    ⟨{ (base.setPort 2 { pers := 4, inReset := false, purlin := { st := 3, far := { pkg := 1 } } }).setPort 5 { pers := 4, inReset := false, purlin := { st := 3, far := { pkg := 2 } } } with plumb := { base.plumb with active := 1 } }, 2, {}, hdrUnit .rdS { src := 3, dst := 17, line := 64, srcPkg := 1, reqPkg := 1, dstPkg := 2 }, .rdS, 5, by decide +kernel⟩,
    ⟨base.setPort 2 { pers := 4, inReset := false, purlin := { st := 3, rxSeq := 5 } }, 2, { seq := 6 }, [3], 0, by decide +kernel⟩,
    ⟨base.setPort 2 { pers := 4, inReset := false, purlin := { st := 3, retraining := true } }, 2, {}, [], by decide +kernel⟩,
    ⟨base.setPort 2 { pers := 4, inReset := false, purlin := { st := 3, txSeq := 9, retry := [(7, 0, [3]), (8, 1, [])] } }, 2, { kind := 1, nak := true, ack := 6 }, [], (7, 0, [3]), by decide +kernel⟩,
    ⟨base.setPort 2 { pers := 4, inReset := false, purlin := { st := 3, nakRun := 7 } }, 2, by decide +kernel⟩,
    ⟨base.setPort 2 { pers := 4, inReset := false, purlin := { st := 3, txSeq := 9, nakInSeq := 6, nakInRun := 7, retry := [(7, 0, []), (8, 0, [])] } }, 2, 6, by decide +kernel⟩,
    ⟨base.setPort 2 { pers := 4, inReset := false, purlin := { st := 3, txSeq := 9, retry := [(7, 0, []), (8, 0, [])] } }, 2, 8, by decide +kernel⟩,
    ⟨base.setPort 2 { pers := 4, inReset := false, purlin := { st := 3, txSeq := 9, retry := [(7, 0, []), (8, 0, [])] } }, 2, 4, by decide +kernel⟩,
    ⟨base.setPort 2 { pers := 4, inReset := false, purlin := { st := 3, retraining := true, nakRun := 8, retrains := 255, ackIn := 6, retry := [(7, 0, [])] } }, 2, by decide +kernel⟩,
    ⟨base.setPort 2 { pers := 4, inReset := false, purlin := { st := 3 } }, 2, by decide +kernel⟩,
    ⟨{ (base.setPort 2 { pers := 4, inReset := false, purlin := { st := 3, role := 6 } }) with plumb := { base.plumb with active := 1 }, frames := [(0, { base.frame 0 with joinSt := 2 })] }, 2, by decide +kernel⟩,
    ⟨{ (base.setPort 2 { pers := 4, inReset := false, purlin := { st := 3, role := 1 } }) with plumb := { base.plumb with active := 1 }, frames := [(0, { base.frame 0 with joinSt := 2 })] }, 2, 0, by decide +kernel⟩,
    ⟨base, { st := 3, outQ := [{ op := .rdS, hdr := {} }], outUnits := [7, 8], txSeq := 1023, far := { pkg := 1 } }, 0, 33, by decide +kernel⟩,
    ⟨{ (base.setPort 2 { pers := 4, inReset := false, purlin := { st := 3 } }) with plumb := { base.plumb with active := 1 }, frames := [(0, { base.frame 0 with joinSt := 0 })] }, 2, 0, by decide +kernel⟩,
    ⟨base.setPort 2 { pers := 4, inReset := false, purlin := { st := 5 } }, 2, by decide +kernel⟩,
    ⟨{ (base.setPort 2 { pers := 4, inReset := false, purlin := { st := 3 } }) with plumb := { base.plumb with active := 1 }, frames := [(0, { base.frame 0 with joinSt := 0 })] }, 2, 0, by decide +kernel⟩,
    ⟨({ (base.setPort 2 { pers := 4, inReset := false, purlin := { st := 2 } }) with plumb := { base.plumb with active := 1 }, frames := [(0, { base.frame 0 with joinSt := 0 })] }).setPort 3 { pers := 4, inReset := false, purlin := { st := 3, far := { pkg := 1, port := 5 } } }, 2, { fcIdx := 0, joined := true, pkg := 1, frame := 0 }, by decide +kernel⟩,
    ⟨({ (base.setPort 2 { pers := 4, inReset := false, purlin := { st := 2 } }) with plumb := { base.plumb with active := 1 }, frames := [(0, { base.frame 0 with joinSt := 2 })] }).setFrame 0 { base.frame 0 with joinDead := true, joinSt := 2 }, 2, { fcIdx := 0, joined := true, pkg := 1, frame := 0 }, by decide +kernel⟩,
    ⟨{ (base.setPort 2 { pers := 4, inReset := false, purlin := { st := 2 } }) with plumb := { base.plumb with active := 1 }, frames := [(0, { base.frame 0 with joinSt := 0 })] }, 2, { fcIdx := 1 }, 1, by decide +kernel⟩,
    ⟨base.setPort 2 { pers := 4, inReset := false, purlin := { st := 3 } }, 2, {}, by decide +kernel⟩,
    ⟨{ base.setPort 2 { pers := 4, inReset := false, purlin := { st := 2, width := 16 } } with plumb := { base.plumb with active := 9, pkgId := 5 } }, 2, by decide +kernel⟩,
    ⟨{ { (base.setPort 2 { pers := 4, inReset := false, purlin := { st := 2 } }) with plumb := { base.plumb with active := 0 }, frames := [(0, { base.frame 0 with joinSt := 1 })] } with mtime := 0 }, 2, { kind := 2 }, (base.idUnit 2) ^^^ 0x100, [], by decide +kernel⟩,
    ⟨({ (base.setPort 2 { pers := 4, inReset := false, purlin := { st := 3, far := { pkg := 1, port := 2 } } }) with plumb := { base.plumb with active := 1 }, frames := [(0, { base.frame 0 with joinSt := 0 })] }).setFrame 0 { base.frame 0 with joinSt := 0, joinStep := 0, heard := [(1, [(2, 0, 2)])] }, 0, by decide +kernel⟩,
    ⟨{ (base.setPort 2 { pers := 4, inReset := false, purlin := { st := 3, far := { pkg := 9 } } }) with plumb := { base.plumb with active := 1 }, frames := [(0, { base.frame 0 with joinSt := 0 })] }, 0, by decide +kernel⟩,
    ⟨({ (base.setPort 2 { pers := 4, inReset := false, purlin := { st := 3, far := { pkg := 1, port := 2 } } }) with plumb := { base.plumb with active := 1 }, frames := [(0, { base.frame 0 with joinSt := 0 })] }).setFrame 0 { base.frame 0 with joinSt := 0, joinStep := 1, heard := [(1, [(2, 0, 2)])] }, 2, 0, 7, by decide +kernel⟩,
    ⟨({ (base.setPort 2 { pers := 4, inReset := false, purlin := { st := 3, far := { pkg := 1, port := 2 } } }) with plumb := { base.plumb with active := 1 }, frames := [(0, { base.frame 0 with joinSt := 0 })] }).setFrame 0 { base.frame 0 with joinSt := 0, joinStep := 1, heard := [(1, [(2, 0, 2)])] }, 2, 0, (({ (base.setPort 2 { pers := 4, inReset := false, purlin := { st := 3, far := { pkg := 1, port := 2 } } }) with plumb := { base.plumb with active := 1 }, frames := [(0, { base.frame 0 with joinSt := 0 })] }).setFrame 0 { base.frame 0 with joinSt := 0, joinStep := 1, heard := [(1, [(2, 0, 2)])] }).joinView 0 |>.digest |> BitVec.ofNat 32, by decide +kernel⟩,
    ⟨({ (base.setPort 2 { pers := 4, inReset := false, purlin := { st := 3, delay := 7, far := { pkg := 1, port := 2 } } }) with plumb := { base.plumb with active := 1 }, frames := [(0, { base.frame 0 with joinSt := 0 })] }).setFrame 0 { base.frame 0 with joinSt := 0, joinStep := 2, heard := [(1, [(2, 0, 2)])] }, 2, 0, 1, 900, 907, by decide +kernel⟩,
    ⟨{ ((((base.setPort 2 { pers := 4, inReset := false, purlin := { st := 3, far := { pkg := 1, port := 2 } } }).setPort 3 { pers := 4, inReset := false, purlin := { st := 3, far := { pkg := 2, port := 3 } } }).setPort 4 { pers := 4, inReset := false, purlin := { st := 3, far := { pkg := 3, port := 4 } } }).setPort 5 { pers := 4, inReset := false, purlin := { st := 3, far := { pkg := 1, port := 5 } } }) with plumb := { base.plumb with active := 1 }, frames := [(0, { base.frame 0 with joinSt := 0, joinStep := 2, heard := [(1, [(2, 0, 2), (5, 0, 5), (3, 2, 2), (4, 3, 2)]), (2, [(3, 0, 3), (2, 1, 3), (4, 3, 3)]), (3, [(4, 0, 4), (2, 1, 4), (3, 2, 4)])], heardTime := [(1, 3), (2, 4)] })] }, 4, 0, 3, 900, 900, 2, 5, by decide +kernel⟩,
    ⟨(({ (base.setPort 2 { pers := 4, inReset := false, purlin := { st := 3, delay := 7, far := { pkg := 1, port := 2 } } }) with plumb := { base.plumb with active := 1 }, frames := [(0, { base.frame 0 with joinSt := 0 })] }).setFrame 0 { base.frame 0 with joinSt := 0, joinStep := 2, heard := [(1, [(2, 0, 2)])] }).setPort 3 { pers := 4, purlin := { st := 1 } }, 2, 0, 1, 900, 907, 3, by decide +kernel⟩,
    ⟨{ base.setPort 2 { pers := 4, inReset := false, purlin := { st := 3, far := { pkg := 0 } } } with mtime := 1000, plumb := { base.plumb with active := 1, pkgId := 1 }, frames := [(0, { base.frame 0 with joinSt := 2, members := [0, 1] })] }, 2, 0, 900, 1200, 1000, 50, by decide +kernel⟩,
    ⟨{ (base.setPort 2 { pers := 4, inReset := false, purlin := { st := 2 } }) with plumb := { base.plumb with active := 1 }, frames := [(0, { base.frame 0 with joinSt := 0 })] }, 0, by decide +kernel⟩,
    ⟨{ (base.setPort 2 { pers := 4, inReset := false, purlin := { st := 3 } }) with plumb := { base.plumb with active := 1 }, frames := [(0, { base.frame 0 with joinSt := 0 })] }, 0, by decide +kernel⟩,
    ⟨base, 0, by decide +kernel⟩,
    ⟨base, 0, by decide +kernel⟩,
    ⟨{ base.setPort 2 { pers := 4, inReset := false, purlin := { st := 3, far := { pkg := 0 } } } with mtime := 1000, plumb := { base.plumb with active := 1, pkgId := 1 }, frames := [(0, { base.frame 0 with joinSt := 2, members := [0, 1] })] }, 0, 2, by decide +kernel⟩,
    ⟨base, 0, by decide +kernel⟩⟩

/-- States and operands that meet the hypotheses of RidgeLinksAndResponses. -/
theorem witness_RidgeLinksAndResponses :
    (∃ (s : State) (p : PortId) (role lanes rev : Nat) (req pst rsp : BitVec 16),
      (s.port p).pers = 5 ∧
      (s.port p).ridge.st = 1 ∧
      (role = 1 ∧ rev = 1)) ∧
    (∃ (s : State) (p : PortId) (role lanes rev : Nat) (req pst rsp : BitVec 16),
      (s.port p).pers = 5 ∧
      (s.port p).ridge.st = 1 ∧
      (role ≠ 1 ∨ rev ≠ 1)) ∧
    (∃ (s : State) (p : PortId) (a : BitVec 10) (nak : Bool) (req pst rsp : BitVec 16),
      (s.port p).pers = 5 ∧
      (s.port p).ridge.st = 2 ∧
      s.quietFrame (s.frameOfPort p) none ∧
      nak = false ∧
      (s.port p).ridge.rspQ = []) ∧
    (∃ (s : State) (p : PortId) (a : BitVec 10) (nak : Bool) (req pst rsp : BitVec 16) (k : RPkt),
      (s.port p).pers = 5 ∧
      (s.port p).ridge.st = 2 ∧
      s.quietFrame (s.frameOfPort p) none ∧
      nak = false ∧
      (s.port p).ridge.rspQ = [k] ∧
      rsp.toNat = (s.port p).ridge.sentSl.2.2 ∧
      ridgeSlots k.data.length ≤ (s.port p).ridge.farRsp ∧
      k.op = 8) ∧
    (∃ (s : State) (p : PortId) (a : BitVec 10) (nak : Bool) (req pst rsp : BitVec 16),
      (s.port p).pers = 5 ∧
      (s.port p).ridge.st = 2 ∧
      s.quietFrame (s.frameOfPort p) none ∧
      nak = true ∧
      (s.port p).ridge.rspQ = []) ∧
    (∃ (s : State) (r : Ridge) (l : List Nat),
      r.sinceAlign < 16383) ∧
    (∃ (s : State) (p : PortId) (id : BitVec 16),
      (s.port p).pers = 5 ∧
      (s.port p).ridge.st = 2 ∧
      s.quietFrame (s.frameOfPort p) none ∧
      (s.frame (s.frameOfPort p)).node = false ∧
      s.ridgePorts (s.frameOfPort p) = [p.val]) ∧
    (∃ (s : State) (p : PortId) (id : BitVec 16),
      (s.port p).pers = 5 ∧
      (s.port p).ridge.st = 2 ∧
      s.quietFrame (s.frameOfPort p) none ∧
      (s.frame (s.frameOfPort p)).node = true ∧
      (s.frame (s.frameOfPort p)).nodeId = id.toNat ∧
      (∀ q ∈ s.ridgePorts (s.frameOfPort p), q ≠ p.val → (s.port q).ridge.assign = none) ∧
      p.val ∈ s.ridgePorts (s.frameOfPort p)) ∧
    (∃ (s : State) (p : PortId) (id : BitVec 16),
      (s.port p).pers = 5 ∧
      (s.port p).ridge.st = 2 ∧
      s.quietFrame (s.frameOfPort p) none ∧
      (s.frame (s.frameOfPort p)).node = false ∧
      (∃ q ∈ s.ridgePorts (s.frameOfPort p), q ≠ p.val ∧ (s.upOrder (s.frameOfPort p)).head? = some q ∧ (s.port q).ridge.assign = none)) ∧
    (∃ (s : State) (p : PortId) (id : BitVec 16),
      (s.port p).pers = 5 ∧
      (s.port p).ridge.st = 2 ∧
      s.quietFrame (s.frameOfPort p) none ∧
      (s.frame (s.frameOfPort p)).node = true ∧
      (s.frame (s.frameOfPort p)).nodeId ≠ id.toNat ∧
      (∀ q ∈ s.ridgePorts (s.frameOfPort p), q ≠ p.val → (s.port q).ridge.assign = none) ∧
      p.val ∈ s.ridgePorts (s.frameOfPort p)) ∧
    (∃ (s : State) (p : PortId) (id : BitVec 16) (b : Bool),
      (s.port p).pers = 5 ∧
      (s.port p).ridge.st = 2) ∧
    (∃ (s : State) (p : PortId) (i : Instr) (a : BitVec 10) (nak ok : Bool) (role lanes rev : Nat) (req pst rsp id : BitVec 16) (pkt : RPkt),
      ((s.port p).pers ≠ 5 ∨ ((s.port p).ridge.st ≠ 1 ∧ (s.port p).ridge.st ≠ 2)) ∧
      i ∈ ([.linkIdent p role lanes rev req pst rsp, .linkAck p a nak req pst rsp, .nodeAssign p id, .nodeConfirm p id ok, .resp p pkt, .ridgeCodewordError p ok, .ridgeRead p pkt, .ridgeWrite p pkt, .writePosted p pkt, .ridgeAtomic p pkt, .ridgeFence p pkt] : List Instr)) ∧
    (∃ (s : State) (p : PortId) (i : Instr) (a : BitVec 10) (nak ok : Bool) (req pst rsp id : BitVec 16) (pkt : RPkt),
      (s.port p).ridge.st = 1 ∧
      i ∈ ([.linkAck p a nak req pst rsp, .nodeAssign p id, .nodeConfirm p id ok, .resp p pkt, .ridgeCodewordError p ok, .ridgeRead p pkt, .ridgeWrite p pkt, .writePosted p pkt, .ridgeAtomic p pkt, .ridgeFence p pkt] : List Instr)) ∧
    (∃ (s : State) (p : PortId) (c : Nat) (pkt : RPkt) (q : OutReq) (x : Slot) (w : Wait),
      (s.port p).pers = 5 ∧
      (s.port p).ridge.st = 2 ∧
      s.quietFrame (s.frameOfPort p) (some c) ∧
      s.frameOfCore c = s.frameOfPort p ∧
      c < 384 ∧
      pkt.crcOk = true ∧
      pkt.fixed = 0 ∧
      (s.port p).ridge.loop = [] ∧
      pkt.rport = p.val ∧
      (s.port p).ridge.out = [(pkt.tag, q)] ∧
      q.core = c ∧
      (s.core c).pipe.slots = [(q.slot, x)] ∧
      ((s.core c).pipe.waits = [] ∧ (s.core c).pipe.fence = [] ∧ (s.core c).pipe.rob = [] ∧ (s.core c).pipe.stall = none ∧ (s.core c).pipe.trapped = false ∧ (s.core c).pipe.poison = none) ∧
      x.kind = .unc ∧
      x.merged = [w] ∧
      q.op = 1 ∧
      (s.core c).pipe.storeQ = [] ∧
      w.acc.kind = .load ∧
      (w.acc.split = 0 ∧ w.acc.part = 0 ∧ w.acc.got = 0) ∧
      pkt.status = 0 ∧
      pkt.poison = false ∧
      w.acc.pa % 64 = q.addr % 64 ∧
      w.acc.pa % 64 + w.acc.size ≤ 64 ∧
      (0 < w.acc.size ∧ w.acc.size ≤ 8) ∧
      pkt.data.length = w.acc.size) ∧
    (∃ (s : State) (p : PortId) (c : Nat) (pkt : RPkt) (q : OutReq) (x : Slot) (w : Wait),
      (s.port p).pers = 5 ∧
      (s.port p).ridge.st = 2 ∧
      s.quietFrame (s.frameOfPort p) (some c) ∧
      s.frameOfCore c = s.frameOfPort p ∧
      c < 384 ∧
      pkt.crcOk = true ∧
      pkt.fixed = 0 ∧
      (s.port p).ridge.loop = [] ∧
      pkt.rport = p.val ∧
      (s.port p).ridge.out = [(pkt.tag, q)] ∧
      q.core = c ∧
      (s.core c).pipe.slots = [(q.slot, x)] ∧
      ((s.core c).pipe.waits = [] ∧ (s.core c).pipe.fence = [] ∧ (s.core c).pipe.rob = [] ∧ (s.core c).pipe.stall = none ∧ (s.core c).pipe.trapped = false ∧ (s.core c).pipe.poison = none) ∧
      x.kind = .unc ∧
      x.merged = [w] ∧
      q.op = 1 ∧
      (s.core c).pipe.storeQ = [] ∧
      w.acc.kind = .load ∧
      (w.acc.split = 0 ∧ w.acc.part = 0 ∧ w.acc.got = 0) ∧
      pkt.status = 0 ∧
      pkt.poison = true ∧
      (∃ r, w.acc.dest = .x r) ∧
      w.acc.pa % 64 = q.addr % 64 ∧
      w.acc.pa % 64 + w.acc.size ≤ 64 ∧
      (0 < w.acc.size ∧ w.acc.size ≤ 8) ∧
      pkt.data.length = w.acc.size) ∧
    (∃ (s : State) (p : PortId) (c : Nat) (pkt : RPkt) (q : OutReq) (x : Slot) (w : Wait),
      (s.port p).pers = 5 ∧
      (s.port p).ridge.st = 2 ∧
      s.quietFrame (s.frameOfPort p) (some c) ∧
      s.frameOfCore c = s.frameOfPort p ∧
      c < 384 ∧
      pkt.crcOk = true ∧
      pkt.fixed = 0 ∧
      (s.port p).ridge.loop = [] ∧
      pkt.rport = p.val ∧
      (s.port p).ridge.out = [(pkt.tag, q)] ∧
      q.core = c ∧
      (s.core c).pipe.slots = [(q.slot, x)] ∧
      ((s.core c).pipe.waits = [] ∧ (s.core c).pipe.fence = [] ∧ (s.core c).pipe.rob = [] ∧ (s.core c).pipe.stall = none ∧ (s.core c).pipe.trapped = false ∧ (s.core c).pipe.poison = none) ∧
      x.kind = .unc ∧
      x.merged = [w] ∧
      q.op = 1 ∧
      (s.core c).pipe.storeQ = [] ∧
      w.acc.kind = .load ∧
      (w.acc.split = 0 ∧ w.acc.part = 0 ∧ w.acc.got = 0) ∧
      pkt.status ≠ 0 ∧
      w.acc.guest = false ∧
      w.err = none ∧
      (s.core c).xlat.walks = [] ∧
      (s.core c).awake = true ∧
      (s.core c).regs.trapTarget { cause := 5, tval := w.acc.va } = 3 ∧
      (s.core c).pipe.snpQ = []) ∧
    (∃ (s : State) (p : PortId) (c : Nat) (pkt : RPkt) (q : OutReq) (x : Slot) (w : Wait) (e : StoreEnt),
      (s.port p).pers = 5 ∧
      (s.port p).ridge.st = 2 ∧
      s.quietFrame (s.frameOfPort p) (some c) ∧
      s.frameOfCore c = s.frameOfPort p ∧
      c < 384 ∧
      pkt.crcOk = true ∧
      pkt.fixed = 0 ∧
      (s.port p).ridge.loop = [] ∧
      pkt.rport = p.val ∧
      (s.port p).ridge.out = [(pkt.tag, q)] ∧
      q.core = c ∧
      (s.core c).pipe.slots = [(q.slot, x)] ∧
      ((s.core c).pipe.waits = [] ∧ (s.core c).pipe.fence = [] ∧ (s.core c).pipe.rob = [] ∧ (s.core c).pipe.stall = none ∧ (s.core c).pipe.trapped = false ∧ (s.core c).pipe.poison = none) ∧
      x.kind = .unc ∧
      x.merged = [w] ∧
      q.op = 2 ∧
      x.mask = 0 ∧
      (s.core c).pipe.storeQ = [e] ∧
      w.acc.kind = .store ∧
      (w.acc.split = 0 ∧ w.acc.part = 0) ∧
      w.acc.pa % 64 + w.acc.size ≤ 64) ∧
    (∃ (s : State) (p : PortId) (pkt : RPkt),
      (s.port p).pers = 5 ∧
      (s.port p).ridge.st = 2 ∧
      pkt.crcOk = false ∧
      pkt.fixed = 0 ∧
      (s.port p).ridge.loop = []) ∧
    (∃ (s : State) (p : PortId) (pkt : RPkt),
      (s.port p).pers = 5 ∧
      (s.port p).ridge.st = 2 ∧
      s.quietFrame (s.frameOfPort p) none ∧
      pkt.crcOk = true ∧
      pkt.fixed = 0 ∧
      (s.port p).ridge.loop = [] ∧
      pkt.rport = p.val ∧
      Tab.find (s.port p).ridge.out pkt.tag = none) ∧
    (∃ (s : State) (p : PortId) (tag : Nat) (q : OutReq),
      (s.port p).pers = 5 ∧
      s.quietFrame (s.frameOfPort p) none ∧
      (s.port p).ridge.out = [(tag, q)] ∧
      q.core = 384) ∧
    (∃ (s : State) (p : PortId) (c tag : Nat) (q : OutReq) (x : Slot) (w : Wait),
      (s.port p).pers = 5 ∧
      s.quietFrame (s.frameOfPort p) (some c) ∧
      s.frameOfCore c = s.frameOfPort p ∧
      c < 384 ∧
      (s.port p).ridge.out = [(tag, q)] ∧
      q.core = c ∧
      (s.core c).pipe.slots = [(q.slot, x)] ∧
      ((s.core c).pipe.waits = [] ∧ (s.core c).pipe.fence = [] ∧ (s.core c).pipe.rob = [] ∧ (s.core c).pipe.stall = none ∧ (s.core c).pipe.trapped = false ∧ (s.core c).pipe.poison = none) ∧
      x.kind = .unc ∧
      x.merged = [w] ∧
      q.op = 1 ∧
      (s.core c).pipe.storeQ = [] ∧
      w.acc.kind = .load ∧
      (w.acc.split = 0 ∧ w.acc.part = 0 ∧ w.acc.got = 0) ∧
      w.acc.guest = false ∧
      w.err = none ∧
      (s.core c).xlat.walks = [] ∧
      (s.core c).awake = true ∧
      (s.core c).regs.trapTarget { cause := 5, tval := w.acc.va } = 3 ∧
      (s.core c).pipe.snpQ = []) ∧
    (∃ (s : State) (p : PortId) (tag : Nat),
      (s.port p).pers ≠ 5) ∧
    (∃ (s : State) (p : PortId) (tag : Nat),
      (s.port p).pers = 5 ∧
      s.quietFrame (s.frameOfPort p) none ∧
      (s.port p).ridge.quar.contains tag = true) ∧
    (∃ (s : State) (p : PortId) (tag : Nat),
      ((s.port p).pers ≠ 5 ∨ (s.port p).ridge.quar.contains tag = false)) ∧
    (∃ (s : State) (p : PortId) (ok : Bool),
      (s.port p).pers = 5 ∧
      (s.port p).ridge.st = 2 ∧
      (if (s.port p).ridge.nakSeq = (s.port p).ridge.rxSeq then (s.port p).ridge.nakRun + 1 else 1) < 8) ∧
    (∃ (s : State) (p : PortId) (ok : Bool),
      (s.port p).pers = 5 ∧
      (s.port p).ridge.st = 2 ∧
      (if (s.port p).ridge.nakSeq = (s.port p).ridge.rxSeq then (s.port p).ridge.nakRun + 1 else 1) = 8 ∧
      ok = true) ∧
    (∃ (s : State) (p : PortId) (ok : Bool) (tag : Nat) (q : OutReq),
      (s.port p).pers = 5 ∧
      (s.port p).ridge.st = 2 ∧
      s.quietFrame (s.frameOfPort p) none ∧
      (if (s.port p).ridge.nakSeq = (s.port p).ridge.rxSeq then (s.port p).ridge.nakRun + 1 else 1) = 8 ∧
      ok = false ∧
      (s.port p).ridge.out = [(tag, q)] ∧
      q.core = 384 ∧
      s.ridgePorts (s.frameOfPort p) = [p.val]) :=
  ⟨⟨base.setPort 2 { pers := 5, inReset := false, ridge := { st := 1, width := 16 } }, 2, 1, 8, 1, 2048, 1024, 9, by decide +kernel⟩,
    ⟨base.setPort 2 { pers := 5, inReset := false, ridge := { st := 1, width := 16 } }, 2, 0, 8, 1, 2048, 1024, 9, by decide +kernel⟩,
    ⟨base.setPort 2 { pers := 5, inReset := false, ridge := { st := 2 } }, 2, 5, false, 7, 8, 9, by decide +kernel⟩,
    ⟨base.setPort 2 { pers := 5, inReset := false, ridge := { st := 2, farRsp := 9, sentSl := (0, 0, 9), rspQ := [{ op := 8, tag := 3 }] } }, 2, 5, false, 7, 8, 9, { op := 8, tag := 3 }, by decide +kernel⟩,
    ⟨base.setPort 2 { pers := 5, inReset := false, ridge := { st := 2, txSeq := 9, sent := [(codewordHeader 7, []), (codewordHeader 8, [])] } }, 2, 7, true, 7, 8, 9, by decide +kernel⟩,
    ⟨base, { txSeq := 1023 }, [0x83, 1, 2, 0], by decide +kernel⟩,
    ⟨base.setPort 2 { pers := 5, inReset := false, ridge := { st := 2 } }, 2, 0x1234, by decide +kernel⟩,
    ⟨(base.setPort 2 { pers := 5, inReset := false, ridge := { st := 2 } }).setFrame 0 { base.frame 0 with node := true, nodeId := 0x1234 }, 2, 0x1234, by decide +kernel⟩,
    ⟨(base.setPort 2 { pers := 5, inReset := false, ridge := { st := 2, upNo := 2 } }).setPort 3 { pers := 5, inReset := false, ridge := { st := 2, upNo := 1 } }, 2, 0x1234, ⟨by decide, by decide, by decide +kernel, by decide +kernel, ⟨3, by decide +kernel, by decide, by decide +kernel, by decide⟩⟩⟩,
    ⟨((base.setPort 2 { pers := 5, inReset := false, ridge := { st := 2 } }).setPort 3 { pers := 5, ridge := { st := 2 } }).setFrame 0 { base.frame 0 with node := true, nodeId := 7 }, 2, 0x1234, by decide +kernel⟩,
    ⟨base.setPort 2 { pers := 5, inReset := false, ridge := { st := 2 } }, 2, 3, true, by decide +kernel⟩,
    ⟨base.setPort 2 { pers := 5, inReset := false, ridge := { st := 3 } }, 2, .nodeConfirm 2 3 true, 5, true, true, 1, 8, 1, 1, 1, 1, 3, {}, by decide +kernel⟩,
    ⟨base.setPort 2 { pers := 5, inReset := false, ridge := { st := 1 } }, 2, .nodeConfirm 2 3 true, 5, true, true, 1, 1, 1, 3, {}, by decide +kernel⟩,
    ⟨(base.setPort 2 { pers := 5, inReset := false, ridge := { st := 2, out := [(9, { core := 0, slot := 5, op := 1, node := 0, addr := 8, len := 8 })] } }).setCore 0 { base.core 0 with pipe := { slots := [(5, { kind := .unc, op := .rdNc, merged := [{ acc := { kind := .load, va := 0x9008, pa := ridgeBase + 8, size := 8, dest := .x 7, nc := true }, xlated := true, pc := 0x444 }], line := ridgeBase / 64 })] } }, 2, 0, { tag := 9, rport := 2, data := bytesOf 8 0x1122 }, { core := 0, slot := 5, op := 1, node := 0, addr := 8, len := 8 }, { kind := .unc, op := .rdNc, merged := [{ acc := { kind := .load, va := 0x9008, pa := ridgeBase + 8, size := 8, dest := .x 7, nc := true }, xlated := true, pc := 0x444 }], line := ridgeBase / 64 }, { acc := { kind := .load, va := 0x9008, pa := ridgeBase + 8, size := 8, dest := .x 7, nc := true }, xlated := true, pc := 0x444 }, by decide +kernel⟩,
    ⟨(base.setPort 2 { pers := 5, inReset := false, ridge := { st := 2, out := [(9, { core := 0, slot := 5, op := 1, node := 0, addr := 8, len := 8 })] } }).setCore 0 { base.core 0 with pipe := { slots := [(5, { kind := .unc, op := .rdNc, merged := [{ acc := { kind := .load, va := 0x9008, pa := ridgeBase + 8, size := 8, dest := .x 7, nc := true }, xlated := true, pc := 0x444 }], line := ridgeBase / 64 })] } }, 2, 0, { tag := 9, rport := 2, poison := true, data := bytesOf 8 0x1122 }, { core := 0, slot := 5, op := 1, node := 0, addr := 8, len := 8 }, { kind := .unc, op := .rdNc, merged := [{ acc := { kind := .load, va := 0x9008, pa := ridgeBase + 8, size := 8, dest := .x 7, nc := true }, xlated := true, pc := 0x444 }], line := ridgeBase / 64 }, { acc := { kind := .load, va := 0x9008, pa := ridgeBase + 8, size := 8, dest := .x 7, nc := true }, xlated := true, pc := 0x444 }, by decide +kernel⟩,
    ⟨(base.setPort 2 { pers := 5, inReset := false, ridge := { st := 2, out := [(9, { core := 0, slot := 5, op := 1, node := 0, addr := 8, len := 8 })] } }).setCore 0 { base.core 0 with pipe := { slots := [(5, { kind := .unc, op := .rdNc, merged := [{ acc := { kind := .load, va := 0x9008, pa := ridgeBase + 8, size := 8, dest := .x 7, nc := true }, xlated := true, pc := 0x444 }], line := ridgeBase / 64 })] } }, 2, 0, { tag := 9, rport := 2, status := 2 }, { core := 0, slot := 5, op := 1, node := 0, addr := 8, len := 8 }, { kind := .unc, op := .rdNc, merged := [{ acc := { kind := .load, va := 0x9008, pa := ridgeBase + 8, size := 8, dest := .x 7, nc := true }, xlated := true, pc := 0x444 }], line := ridgeBase / 64 }, { acc := { kind := .load, va := 0x9008, pa := ridgeBase + 8, size := 8, dest := .x 7, nc := true }, xlated := true, pc := 0x444 }, by decide +kernel⟩,
    ⟨(base.setPort 2 { pers := 5, inReset := false, ridge := { st := 2, out := [(9, { core := 0, slot := 5, op := 2, node := 0, addr := 8, len := 8 })] } }).setCore 0 { base.core 0 with pipe := { slots := [(5, { kind := .unc, op := .wrNc, merged := [{ acc := { kind := .store, va := 0x9008, pa := ridgeBase + 8, size := 8, nc := true }, xlated := true }], line := ridgeBase / 64 })], storeQ := [{ acc := { kind := .store, va := 0x9008, pa := ridgeBase + 8, size := 8, nc := true } }] } }, 2, 0, { tag := 9, rport := 2, status := 4 }, { core := 0, slot := 5, op := 2, node := 0, addr := 8, len := 8 }, { kind := .unc, op := .wrNc, merged := [{ acc := { kind := .store, va := 0x9008, pa := ridgeBase + 8, size := 8, nc := true }, xlated := true }], line := ridgeBase / 64 }, { acc := { kind := .store, va := 0x9008, pa := ridgeBase + 8, size := 8, nc := true }, xlated := true }, { acc := { kind := .store, va := 0x9008, pa := ridgeBase + 8, size := 8, nc := true } }, by decide +kernel⟩,
    ⟨base.setPort 2 { pers := 5, inReset := false, ridge := { st := 2, out := [(9, {})] } }, 2, { tag := 9, rport := 2, crcOk := false }, by decide +kernel⟩,
    ⟨base.setPort 2 { pers := 5, inReset := false, ridge := { st := 2, quar := [9] } }, 2, { tag := 9, rport := 2 }, by decide +kernel⟩,
    ⟨base.setPort 2 { pers := 5, inReset := false, ridge := { st := 2, out := [(9, { core := 384, slot := 5, op := 1, node := 0, addr := 8, len := 8 })] } }, 2, 9, { core := 384, slot := 5, op := 1, node := 0, addr := 8, len := 8 }, by decide +kernel⟩,
    ⟨(base.setPort 2 { pers := 5, inReset := false, ridge := { st := 2, out := [(9, { core := 0, slot := 5, op := 1, node := 0, addr := 8, len := 8 })] } }).setCore 0 { base.core 0 with pipe := { slots := [(5, { kind := .unc, op := .rdNc, merged := [{ acc := { kind := .load, va := 0x9008, pa := ridgeBase + 8, size := 8, dest := .x 7, nc := true }, xlated := true, pc := 0x444 }], line := ridgeBase / 64 })] } }, 2, 0, 9, { core := 0, slot := 5, op := 1, node := 0, addr := 8, len := 8 }, { kind := .unc, op := .rdNc, merged := [{ acc := { kind := .load, va := 0x9008, pa := ridgeBase + 8, size := 8, dest := .x 7, nc := true }, xlated := true, pc := 0x444 }], line := ridgeBase / 64 }, { acc := { kind := .load, va := 0x9008, pa := ridgeBase + 8, size := 8, dest := .x 7, nc := true }, xlated := true, pc := 0x444 }, by decide +kernel⟩,
    ⟨base, 2, 9, by decide +kernel⟩,
    ⟨base.setPort 2 { pers := 5, inReset := false, ridge := { st := 2, quar := [9, 3] } }, 2, 9, by decide +kernel⟩,
    ⟨base, 2, 9, by decide +kernel⟩,
    ⟨base.setPort 2 { pers := 5, inReset := false, ridge := { st := 2, nakRun := 6, nakSeq := 3, rxSeq := 3 } }, 2, false, by decide +kernel⟩,
    ⟨base.setPort 2 { pers := 5, inReset := false, ridge := { st := 2, nakRun := 7, nakSeq := 3, rxSeq := 3, txSeq := 9, ackSeq := 7, sent := [(codewordHeader 7, []), (codewordHeader 8, [])] } }, 2, true, by decide +kernel⟩,
    ⟨base.setPort 2 { pers := 5, inReset := false, ridge := { st := 2, nakRun := 7, nakSeq := 3, rxSeq := 3, out := [(9, { core := 384, slot := 5, op := 1, node := 0, addr := 8, len := 8 })] } }, 2, false, 9, { core := 384, slot := 5, op := 1, node := 0, addr := 8, len := 8 }, by decide +kernel⟩⟩

/-- States and operands that meet the hypotheses of RidgeRequestsEnterTheNode. -/
theorem witness_RidgeRequestsEnterTheNode :
    (∃ (s : State) (p : PortId) (pkt : RPkt) (e : Word) (pa agent : Nat),
      (s.port p).pers = 5 ∧
      (s.port p).ridge.st = 2 ∧
      (s.frame (s.frameOfPort p)).halted = false ∧
      (pkt.crcOk = true ∧ pkt.ver = 1 ∧ pkt.fixed = 0) ∧
      (pkt.op = 0 ∨ pkt.op = 1) ∧
      (s.port p).ridge.loop = [] ∧
      (s.port p).inb = [] ∧
      (s.port p).inbQ = [] ∧
      (∀ q ∈ portsOf s.mode (s.frameOfPort p), q ≠ p.val → (s.port q).pers = 5 → (s.port q).inb = [] ∧ (s.port q).inbQ = []) ∧
      (s.frame (s.frameOfPort p)).exportOf pkt.addr pkt.src.toNat = some e ∧
      pa = s.viewPa (s.frameOfPort p) (fld e 14 2 * 2 ^ 30 + pkt.addr % 2 ^ 30) ∧
      s.target (s.frameOfPort p) (pa / 64 * 64) = some (agent, s.ownPkg) ∧
      (0 < pkt.len ∧ pkt.len ≤ 256) ∧
      pkt.addr % 4096 + pkt.len ≤ 4096 ∧
      e.getLsbD 62 = true) ∧
    (∃ (s : State) (p : PortId) (pkt : RPkt) (e : Word) (pa agent : Nat),
      (s.port p).pers = 5 ∧
      (s.port p).ridge.st = 2 ∧
      (s.frame (s.frameOfPort p)).halted = false ∧
      (pkt.crcOk = true ∧ pkt.ver = 1 ∧ pkt.fixed = 0) ∧
      (pkt.op = 0 ∨ pkt.op = 2) ∧
      (s.port p).ridge.loop = [] ∧
      (s.port p).inb = [] ∧
      (s.port p).inbQ = [] ∧
      (∀ q ∈ portsOf s.mode (s.frameOfPort p), q ≠ p.val → (s.port q).pers = 5 → (s.port q).inb = [] ∧ (s.port q).inbQ = []) ∧
      (s.frame (s.frameOfPort p)).exportOf pkt.addr pkt.src.toNat = some e ∧
      pa = s.viewPa (s.frameOfPort p) (fld e 14 2 * 2 ^ 30 + pkt.addr % 2 ^ 30) ∧
      s.target (s.frameOfPort p) (pa / 64 * 64) = some (agent, s.ownPkg) ∧
      (0 < pkt.len ∧ pkt.len ≤ 256) ∧
      pkt.addr % 4096 + pkt.len ≤ 4096 ∧
      e.getLsbD 61 = true) ∧
    (∃ (s : State) (p : PortId) (pkt : RPkt) (e : Word) (pa agent : Nat),
      (s.port p).pers = 5 ∧
      (s.port p).ridge.st = 2 ∧
      (s.frame (s.frameOfPort p)).halted = false ∧
      (pkt.crcOk = true ∧ pkt.ver = 1 ∧ pkt.fixed = 0) ∧
      (pkt.op = 0 ∨ pkt.op = 3) ∧
      (s.port p).ridge.loop = [] ∧
      (s.port p).inb = [] ∧
      (s.port p).inbQ = [] ∧
      (∀ q ∈ portsOf s.mode (s.frameOfPort p), q ≠ p.val → (s.port q).pers = 5 → (s.port q).inb = [] ∧ (s.port q).inbQ = []) ∧
      (s.frame (s.frameOfPort p)).exportOf pkt.addr pkt.src.toNat = some e ∧
      pa = s.viewPa (s.frameOfPort p) (fld e 14 2 * 2 ^ 30 + pkt.addr % 2 ^ 30) ∧
      s.target (s.frameOfPort p) (pa / 64 * 64) = some (agent, s.ownPkg) ∧
      (0 < pkt.len ∧ pkt.len ≤ 256) ∧
      pkt.addr % 4096 + pkt.len ≤ 4096 ∧
      e.getLsbD 61 = true) ∧
    (∃ (s : State) (p : PortId) (pkt : RPkt) (e : Word) (pa agent : Nat),
      (s.port p).pers = 5 ∧
      (s.port p).ridge.st = 2 ∧
      (s.frame (s.frameOfPort p)).halted = false ∧
      (pkt.crcOk = true ∧ pkt.ver = 1 ∧ pkt.fixed = 0) ∧
      (pkt.op = 0 ∨ pkt.op = 4) ∧
      (s.port p).ridge.loop = [] ∧
      (s.port p).inb = [] ∧
      (s.port p).inbQ = [] ∧
      (∀ q ∈ portsOf s.mode (s.frameOfPort p), q ≠ p.val → (s.port q).pers = 5 → (s.port q).inb = [] ∧ (s.port q).inbQ = []) ∧
      (s.frame (s.frameOfPort p)).exportOf pkt.addr pkt.src.toNat = some e ∧
      pa = s.viewPa (s.frameOfPort p) (fld e 14 2 * 2 ^ 30 + pkt.addr % 2 ^ 30) ∧
      s.target (s.frameOfPort p) (pa / 64 * 64) = some (agent, s.ownPkg) ∧
      e.getLsbD 60 = true ∧
      (pkt.len = 4 ∨ pkt.len = 8) ∧
      pkt.addr % pkt.len = 0 ∧
      pkt.atop < 7) ∧
    (∃ (s : State) (p : PortId) (pkt : RPkt),
      (s.port p).pers = 5 ∧
      (s.port p).ridge.st = 2 ∧
      (s.frame (s.frameOfPort p)).halted = false ∧
      (pkt.crcOk = true ∧ pkt.ver = 1 ∧ pkt.fixed = 0) ∧
      (pkt.op = 0 ∨ pkt.op = 5) ∧
      (s.port p).ridge.loop = [] ∧
      (s.port p).inb = [] ∧
      (s.port p).inbQ = [] ∧
      (∀ q ∈ portsOf s.mode (s.frameOfPort p), q ≠ p.val → (s.port q).pers = 5 → (s.port q).inb = [] ∧ (s.port q).inbQ = []) ∧
      (pkt.len = 0 ∧ pkt.addr = 0)) ∧
    (∃ (s : State) (p : PortId) (pkt : RPkt) (e : Word) (k : Nat) (y : Inb),
      (s.port p).pers = 5 ∧
      (s.port p).ridge.st = 2 ∧
      (s.frame (s.frameOfPort p)).halted = false ∧
      (pkt.crcOk = true ∧ pkt.ver = 1 ∧ pkt.fixed = 0) ∧
      (pkt.op = 0 ∨ pkt.op = 1) ∧
      (s.port p).ridge.loop = [] ∧
      (0 < pkt.len ∧ pkt.len ≤ 256) ∧
      pkt.addr % 4096 + pkt.len ≤ 4096 ∧
      (s.port p).inb = [(k, y)] ∧
      (s.port p).inbQ = [] ∧
      (y.root = 8 ∧ y.src = pkt.src.toNat ∧ y.posted = true ∧ y.wr = true ∧ y.no < (s.frame (s.frameOfPort p)).inbNo) ∧
      (s.frame (s.frameOfPort p)).exportOf pkt.addr pkt.src.toNat = some e ∧
      e.getLsbD 62 = true) ∧
    (∃ (s : State) (p : PortId) (pkt : RPkt) (e : Word) (pa agent : Nat) (k : Nat) (y : Inb),
      (s.port p).pers = 5 ∧
      (s.port p).ridge.st = 2 ∧
      (s.frame (s.frameOfPort p)).halted = false ∧
      (pkt.crcOk = true ∧ pkt.ver = 1 ∧ pkt.fixed = 0) ∧
      (pkt.op = 0 ∨ pkt.op = 1) ∧
      (s.port p).ridge.loop = [] ∧
      (s.port p).inbQ = [] ∧
      (∀ q ∈ portsOf s.mode (s.frameOfPort p), q ≠ p.val → (s.port q).pers = 5 → (s.port q).inb = [] ∧ (s.port q).inbQ = []) ∧
      (s.frame (s.frameOfPort p)).exportOf pkt.addr pkt.src.toNat = some e ∧
      pa = s.viewPa (s.frameOfPort p) (fld e 14 2 * 2 ^ 30 + pkt.addr % 2 ^ 30) ∧
      s.target (s.frameOfPort p) (pa / 64 * 64) = some (agent, s.ownPkg) ∧
      (0 < pkt.len ∧ pkt.len ≤ 256) ∧
      pkt.addr % 4096 + pkt.len ≤ 4096 ∧
      (s.port p).inb = [(k, y)] ∧
      k ≠ 0 ∧
      (y.root = 8 ∧ y.src ≠ pkt.src.toNat) ∧
      e.getLsbD 62 = true) ∧
    (∃ (s : State) (p : PortId) (pkt : RPkt) (k : Nat) (y : Inb),
      (s.port p).pers = 5 ∧
      (s.port p).ridge.st = 2 ∧
      (s.frame (s.frameOfPort p)).halted = false ∧
      (pkt.crcOk = true ∧ pkt.ver = 1 ∧ pkt.fixed = 0) ∧
      (pkt.op = 0 ∨ pkt.op = 5) ∧
      (s.port p).ridge.loop = [] ∧
      (s.port p).inb = [(k, y)] ∧
      (s.port p).inbQ = [] ∧
      (y.root = 8 ∧ y.src = pkt.src.toNat ∧ y.no < (s.frame (s.frameOfPort p)).inbNo) ∧
      (pkt.len = 0 ∧ pkt.addr = 0)) ∧
    (∃ (s : State) (p : PortId) (pkt : RPkt) (i : Instr),
      (s.port p).pers = 5 ∧
      (s.port p).ridge.st = 2 ∧
      (pkt.crcOk = true ∧ pkt.ver = 1 ∧ pkt.fixed = 0) ∧
      pkt.op = 0 ∧
      (s.port p).ridge.loop = [] ∧
      (s.frame (s.frameOfPort p)).halted = false ∧
      (pkt.len = 8 ∧ pkt.addr % 8 = 0 ∧ pkt.atop < 7) ∧
      pkt.addr % 4096 + pkt.len ≤ 4096 ∧
      (s.frame (s.frameOfPort p)).exportOf pkt.addr pkt.src.toNat = none ∧
      i ∈ ([.ridgeRead p pkt, .ridgeWrite p pkt, .ridgeAtomic p pkt] : List Instr)) ∧
    (∃ (s : State) (p : PortId) (pkt : RPkt) (e : Word),
      (s.port p).pers = 5 ∧
      (s.port p).ridge.st = 2 ∧
      (pkt.crcOk = true ∧ pkt.ver = 1 ∧ pkt.fixed = 0) ∧
      pkt.op = 0 ∧
      (s.port p).ridge.loop = [] ∧
      (s.frame (s.frameOfPort p)).halted = false ∧
      (pkt.len = 8 ∧ pkt.addr % 8 = 0 ∧ pkt.atop < 7) ∧
      pkt.addr % 4096 + pkt.len ≤ 4096 ∧
      (s.frame (s.frameOfPort p)).exportOf pkt.addr pkt.src.toNat = some e ∧
      e.getLsbD 62 = false) ∧
    (∃ (s : State) (p : PortId) (pkt : RPkt) (e : Word),
      (s.port p).pers = 5 ∧
      (s.port p).ridge.st = 2 ∧
      (pkt.crcOk = true ∧ pkt.ver = 1 ∧ pkt.fixed = 0) ∧
      pkt.op = 0 ∧
      (s.port p).ridge.loop = [] ∧
      (s.frame (s.frameOfPort p)).halted = false ∧
      (pkt.len = 8 ∧ pkt.addr % 8 = 0 ∧ pkt.atop < 7) ∧
      pkt.addr % 4096 + pkt.len ≤ 4096 ∧
      (s.frame (s.frameOfPort p)).exportOf pkt.addr pkt.src.toNat = some e ∧
      e.getLsbD 61 = false) ∧
    (∃ (s : State) (p : PortId) (pkt : RPkt) (e : Word),
      (s.port p).pers = 5 ∧
      (s.port p).ridge.st = 2 ∧
      (pkt.crcOk = true ∧ pkt.ver = 1 ∧ pkt.fixed = 0) ∧
      pkt.op = 0 ∧
      (s.port p).ridge.loop = [] ∧
      (s.frame (s.frameOfPort p)).halted = false ∧
      (pkt.len = 8 ∧ pkt.addr % 8 = 0 ∧ pkt.atop < 7) ∧
      pkt.addr % 4096 + pkt.len ≤ 4096 ∧
      (s.frame (s.frameOfPort p)).exportOf pkt.addr pkt.src.toNat = some e ∧
      e.getLsbD 60 = false) ∧
    (∃ (s : State) (p : PortId) (pkt : RPkt) (i : Instr),
      (s.port p).pers = 5 ∧
      (s.port p).ridge.st = 2 ∧
      (pkt.crcOk = true ∧ pkt.ver = 1 ∧ pkt.fixed = 0) ∧
      pkt.op = 0 ∧
      (s.port p).ridge.loop = [] ∧
      (s.frame (s.frameOfPort p)).halted = false ∧
      (pkt.len = 0 ∨ 256 < pkt.len ∨ (4096 < pkt.addr % 4096 + pkt.len ∧ pkt.addr % pkt.len ≠ 0)) ∧
      i ∈ ([.ridgeRead p pkt, .ridgeWrite p pkt, .ridgeAtomic p pkt] : List Instr)) ∧
    (∃ (s : State) (p : PortId) (pkt : RPkt) (i : Instr),
      (s.port p).pers = 5 ∧
      (s.port p).ridge.st = 2 ∧
      (pkt.crcOk = true ∧ pkt.ver = 1 ∧ pkt.fixed = 0) ∧
      pkt.op = 0 ∧
      (s.port p).ridge.loop = [] ∧
      (s.frame (s.frameOfPort p)).halted = true ∧
      i ∈ ([.ridgeFence p pkt, .ridgeRead p pkt, .ridgeWrite p pkt, .ridgeAtomic p pkt] : List Instr)) ∧
    (∃ (s : State) (p : PortId) (pkt : RPkt) (i : Instr) (op : Nat),
      (s.port p).pers = 5 ∧
      (s.port p).ridge.st = 2 ∧
      pkt.fixed = 0 ∧
      (s.port p).ridge.loop = [] ∧
      (op, i) ∈ ([(1, .ridgeRead p pkt), (2, .ridgeWrite p pkt), (3, .writePosted p pkt), (4, .ridgeAtomic p pkt), (5, .ridgeFence p pkt)] : List (Nat × Instr)) ∧
      (pkt.crcOk = false ∨ pkt.ver ≠ 1 ∨ (pkt.op ≠ 0 ∧ pkt.op ≠ op) ∨ (op = 3 ∧ ((s.frame (s.frameOfPort p)).halted = true ∨ pkt.len = 0 ∨ 256 < pkt.len ∨ 4096 < pkt.addr % 4096 + pkt.len ∨ (s.frame (s.frameOfPort p)).exportOf pkt.addr pkt.src.toNat = none)))) ∧
    (∃ (s : State) (p : PortId) (pkt : RPkt) (e : Word) (pa agent : Nat),
      (s.port p).pers = 5 ∧
      (s.port p).ridge.st = 2 ∧
      (s.frame (s.frameOfPort p)).halted = false ∧
      (pkt.crcOk = true ∧ pkt.ver = 1 ∧ pkt.fixed = 0 ∧ pkt.op = 1) ∧
      (s.port p).ridge.loop = [pkt] ∧
      (s.port p).inb = [] ∧
      (s.port p).inbQ = [] ∧
      (∀ q ∈ portsOf s.mode (s.frameOfPort p), q ≠ p.val → (s.port q).pers = 5 → (s.port q).inb = [] ∧ (s.port q).inbQ = []) ∧
      (s.frame (s.frameOfPort p)).exportOf pkt.addr pkt.src.toNat = some e ∧
      pa = s.viewPa (s.frameOfPort p) (fld e 14 2 * 2 ^ 30 + pkt.addr % 2 ^ 30) ∧
      s.target (s.frameOfPort p) (pa / 64 * 64) = some (agent, s.ownPkg) ∧
      (0 < pkt.len ∧ pkt.len ≤ 256) ∧
      pkt.addr % 4096 + pkt.len ≤ 4096 ∧
      e.getLsbD 62 = true) :=
  ⟨⟨(base.setPort 2 { pers := 5, inReset := false, ridge := { st := 2 } }).setFrame 0 { base.frame 0 with inbNo := 6, node := true, nodeId := 7, exports := [(3 * 8, BitVec.ofNat 64 (15 * 2 ^ 60 + 65535 * 2 ^ 44))] }, 2, { src := 9, dst := 7, tag := 5, rport := 4, addr := 3 * 2 ^ 30 + 0x1008, len := 8, data := bytesOf 8 77 }, BitVec.ofNat 64 (15 * 2 ^ 60 + 65535 * 2 ^ 44), 0x1008, 16 + homeBay 0 0 0x1000, by decide +kernel⟩,
    ⟨(base.setPort 2 { pers := 5, inReset := false, ridge := { st := 2 } }).setFrame 0 { base.frame 0 with inbNo := 6, node := true, nodeId := 7, exports := [(3 * 8, BitVec.ofNat 64 (15 * 2 ^ 60 + 65535 * 2 ^ 44))] }, 2, { src := 9, dst := 7, tag := 5, rport := 4, addr := 3 * 2 ^ 30 + 0x1008, len := 8, data := bytesOf 8 77 }, BitVec.ofNat 64 (15 * 2 ^ 60 + 65535 * 2 ^ 44), 0x1008, 16 + homeBay 0 0 0x1000, by decide +kernel⟩,
    ⟨(base.setPort 2 { pers := 5, inReset := false, ridge := { st := 2 } }).setFrame 0 { base.frame 0 with inbNo := 6, node := true, nodeId := 7, exports := [(3 * 8, BitVec.ofNat 64 (15 * 2 ^ 60 + 65535 * 2 ^ 44))] }, 2, { src := 9, dst := 7, tag := 5, rport := 4, addr := 3 * 2 ^ 30 + 0x1008, len := 8, data := bytesOf 8 77 }, BitVec.ofNat 64 (15 * 2 ^ 60 + 65535 * 2 ^ 44), 0x1008, 16 + homeBay 0 0 0x1000, by decide +kernel⟩,
    ⟨(base.setPort 2 { pers := 5, inReset := false, ridge := { st := 2 } }).setFrame 0 { base.frame 0 with inbNo := 6, node := true, nodeId := 7, exports := [(3 * 8, BitVec.ofNat 64 (15 * 2 ^ 60 + 65535 * 2 ^ 44))] }, 2, { src := 9, dst := 7, tag := 5, rport := 4, addr := 3 * 2 ^ 30 + 0x1008, len := 8, data := bytesOf 8 77 }, BitVec.ofNat 64 (15 * 2 ^ 60 + 65535 * 2 ^ 44), 0x1008, 16 + homeBay 0 0 0x1000, by decide +kernel⟩,
    ⟨(base.setPort 2 { pers := 5, inReset := false, ridge := { st := 2 } }).setFrame 0 { base.frame 0 with inbNo := 6, node := true, nodeId := 7, exports := [(3 * 8, BitVec.ofNat 64 (15 * 2 ^ 60 + 65535 * 2 ^ 44))] }, 2, { src := 9, tag := 5 }, by decide +kernel⟩,
    ⟨((base.setPort 2 { pers := 5, inReset := false, ridge := { st := 2 } }).setFrame 0 { base.frame 0 with inbNo := 6, node := true, nodeId := 7, exports := [(3 * 8, BitVec.ofNat 64 (15 * 2 ^ 60 + 65535 * 2 ^ 44))] }).setPort 2 { ((base.setPort 2 { pers := 5, inReset := false, ridge := { st := 2 } }).setFrame 0 { base.frame 0 with inbNo := 6, node := true, nodeId := 7, exports := [(3 * 8, BitVec.ofNat 64 (15 * 2 ^ 60 + 65535 * 2 ^ 44))] }).port 2 with inb := [(3, { kind := .write, wr := true, posted := true, root := 8, src := 9, left := [3] })] }, 2, { src := 9, dst := 7, tag := 5, rport := 4, addr := 3 * 2 ^ 30 + 0x1008, len := 8, data := bytesOf 8 77 }, BitVec.ofNat 64 (15 * 2 ^ 60 + 65535 * 2 ^ 44), 3, { kind := .write, wr := true, posted := true, root := 8, src := 9, left := [3] }, by decide +kernel⟩,
    ⟨((base.setPort 2 { pers := 5, inReset := false, ridge := { st := 2 } }).setFrame 0 { base.frame 0 with inbNo := 6, node := true, nodeId := 7, exports := [(3 * 8, BitVec.ofNat 64 (15 * 2 ^ 60 + 65535 * 2 ^ 44))] }).setPort 2 { ((base.setPort 2 { pers := 5, inReset := false, ridge := { st := 2 } }).setFrame 0 { base.frame 0 with inbNo := 6, node := true, nodeId := 7, exports := [(3 * 8, BitVec.ofNat 64 (15 * 2 ^ 60 + 65535 * 2 ^ 44))] }).port 2 with inb := [(3, { kind := .write, wr := true, posted := true, root := 8, src := 8, left := [3] })] }, 2, { src := 9, dst := 7, tag := 5, rport := 4, addr := 3 * 2 ^ 30 + 0x1008, len := 8, data := bytesOf 8 77 }, BitVec.ofNat 64 (15 * 2 ^ 60 + 65535 * 2 ^ 44), 0x1008, 16 + homeBay 0 0 0x1000, 3, { kind := .write, wr := true, posted := true, root := 8, src := 8, left := [3] }, by decide +kernel⟩,
    ⟨((base.setPort 2 { pers := 5, inReset := false, ridge := { st := 2 } }).setFrame 0 { base.frame 0 with inbNo := 6, node := true, nodeId := 7, exports := [(3 * 8, BitVec.ofNat 64 (15 * 2 ^ 60 + 65535 * 2 ^ 44))] }).setPort 2 { ((base.setPort 2 { pers := 5, inReset := false, ridge := { st := 2 } }).setFrame 0 { base.frame 0 with inbNo := 6, node := true, nodeId := 7, exports := [(3 * 8, BitVec.ofNat 64 (15 * 2 ^ 60 + 65535 * 2 ^ 44))] }).port 2 with inb := [(3, { kind := .write, wr := true, posted := false, root := 8, src := 9, left := [3] })] }, 2, { src := 9, tag := 5 }, 3, { kind := .write, wr := true, posted := false, root := 8, src := 9, left := [3] }, by decide +kernel⟩,
    ⟨base.setPort 2 { pers := 5, inReset := false, ridge := { st := 2 } }, 2, { src := 9, dst := 7, tag := 5, rport := 4, addr := 3 * 2 ^ 30 + 0x1008, len := 8, data := bytesOf 8 77 }, .ridgeRead 2 { src := 9, dst := 7, tag := 5, rport := 4, addr := 3 * 2 ^ 30 + 0x1008, len := 8, data := bytesOf 8 77 }, by decide +kernel⟩,
    ⟨(base.setPort 2 { pers := 5, inReset := false, ridge := { st := 2 } }).setFrame 0 { base.frame 0 with inbNo := 6, node := true, nodeId := 7, exports := [(3 * 8, BitVec.ofNat 64 (8 * 2 ^ 60 + 65535 * 2 ^ 44))] }, 2, { src := 9, dst := 7, tag := 5, rport := 4, addr := 3 * 2 ^ 30 + 0x1008, len := 8, data := bytesOf 8 77 }, BitVec.ofNat 64 (8 * 2 ^ 60 + 65535 * 2 ^ 44), by decide +kernel⟩,
    ⟨(base.setPort 2 { pers := 5, inReset := false, ridge := { st := 2 } }).setFrame 0 { base.frame 0 with inbNo := 6, node := true, nodeId := 7, exports := [(3 * 8, BitVec.ofNat 64 (8 * 2 ^ 60 + 65535 * 2 ^ 44))] }, 2, { src := 9, dst := 7, tag := 5, rport := 4, addr := 3 * 2 ^ 30 + 0x1008, len := 8, data := bytesOf 8 77 }, BitVec.ofNat 64 (8 * 2 ^ 60 + 65535 * 2 ^ 44), by decide +kernel⟩,
    ⟨(base.setPort 2 { pers := 5, inReset := false, ridge := { st := 2 } }).setFrame 0 { base.frame 0 with inbNo := 6, node := true, nodeId := 7, exports := [(3 * 8, BitVec.ofNat 64 (8 * 2 ^ 60 + 65535 * 2 ^ 44))] }, 2, { src := 9, dst := 7, tag := 5, rport := 4, addr := 3 * 2 ^ 30 + 0x1008, len := 8, data := bytesOf 8 77 }, BitVec.ofNat 64 (8 * 2 ^ 60 + 65535 * 2 ^ 44), by decide +kernel⟩,
    ⟨base.setPort 2 { pers := 5, inReset := false, ridge := { st := 2 } }, 2, { addr := 0xFFF, len := 2 }, .ridgeRead 2 { addr := 0xFFF, len := 2 }, by decide +kernel⟩,
    ⟨(base.setPort 2 { pers := 5, inReset := false, ridge := { st := 2 } }).setFrame 0 { base.frame 0 with halted := true }, 2, { src := 9, dst := 7, tag := 5, rport := 4, addr := 3 * 2 ^ 30 + 0x1008, len := 8, data := bytesOf 8 77 }, .ridgeFence 2 { src := 9, dst := 7, tag := 5, rport := 4, addr := 3 * 2 ^ 30 + 0x1008, len := 8, data := bytesOf 8 77 }, by decide +kernel⟩,
    ⟨base.setPort 2 { pers := 5, inReset := false, ridge := { st := 2 } }, 2, { src := 9, crcOk := false }, .writePosted 2 { src := 9, crcOk := false }, 3, by decide +kernel⟩,
    ⟨(base.setPort 2 { pers := 5, inReset := false, ridge := { st := 2, loop := [{ op := 1, src := 9, dst := 7, tag := 5, rport := 4, addr := 3 * 2 ^ 30 + 0x1008, len := 8, data := bytesOf 8 77 }] } }).setFrame 0 { base.frame 0 with node := true, nodeId := 7, exports := [(3 * 8, BitVec.ofNat 64 (15 * 2 ^ 60 + 65535 * 2 ^ 44))] }, 2, { op := 1, src := 9, dst := 7, tag := 5, rport := 4, addr := 3 * 2 ^ 30 + 0x1008, len := 8, data := bytesOf 8 77 }, BitVec.ofNat 64 (15 * 2 ^ 60 + 65535 * 2 ^ 44), 0x1008, 16 + homeBay 0 0 0x1000, by decide +kernel⟩⟩

/-- States and operands that meet the hypotheses of RootPortRequestsAndCompletions. -/
theorem witness_RootPortRequestsAndCompletions :
    (∃ (s : State) (p : PortId) (x : Tlp) (agent pkg : Nat),
      (s.port p).hasRoots = true ∧
      ((s.port p).root x.root).up = true ∧
      x.root < 8 ∧
      x.ep = false ∧
      tlpOk x = true ∧
      ((s.port p).root x.root).acsPasses x = true ∧
      (s.port p).ioQ = [] ∧
      bitOf (((s.port p).root x.root).cfgWord 0x04) 2 = true ∧
      (s.port p).ioFld 0x10 3 0 = 1 ∧
      x.form = 0 ∧
      (match s.region (s.frameOfPort p) x.addr with | .dram _ => true | .remote _ _ => true | .bench _ _ => true | .cxl q _ => !s.reqErr (12 + q) (x.addr / 64) .rdNc | _ => false) = true ∧
      s.target (s.frameOfPort p) (x.addr / 64 * 64) = some (agent, pkg) ∧
      0 < x.len ∧
      (s.port p).inb = [] ∧
      (s.port p).inbQ = []) ∧
    (∃ (s : State) (p : PortId) (x : Tlp) (agent pkg : Nat),
      (s.port p).hasRoots = true ∧
      ((s.port p).root x.root).up = true ∧
      x.root < 8 ∧
      x.ep = true ∧
      x.kind = .write ∧
      tlpOk x = true ∧
      ((s.port p).root x.root).acsPasses x = true ∧
      (s.port p).ioQ = [] ∧
      bitOf (((s.port p).root x.root).cfgWord 0x04) 2 = true ∧
      (s.port p).ioFld 0x10 3 0 = 1 ∧
      x.form = 0 ∧
      (match s.region (s.frameOfPort p) x.addr with | .dram _ => true | .remote _ _ => true | .bench _ _ => true | .cxl q _ => !s.reqErr (12 + q) (x.addr / 64) .rdNc | _ => false) = true ∧
      s.target (s.frameOfPort p) (x.addr / 64 * 64) = some (agent, pkg) ∧
      0 < x.len ∧
      (s.port p).inb = [] ∧
      (s.port p).inbQ = []) ∧
    (∃ (s : State) (p : PortId) (x : Tlp),
      (s.port p).hasRoots = true ∧
      ((s.port p).root x.root).up = true ∧
      x.root < 8 ∧
      x.ep = false ∧
      tlpOk x = true ∧
      ((s.port p).root x.root).acsPasses x = true ∧
      (s.port p).ioQ = [] ∧
      bitOf (((s.port p).root x.root).cfgWord 0x04) 2 = true ∧
      (s.port p).ioFld 0x10 3 0 = 1 ∧
      x.form = 0 ∧
      (match s.region (s.frameOfPort p) x.addr with | .dram _ => true | .remote _ _ => true | .bench _ _ => true | .cxl q _ => !s.reqErr (12 + q) (x.addr / 64) .rdNc | _ => false) = true ∧
      (s.port p).inb.any (fun e => e.2.root == x.root && e.2.posted && e.2.wr && decide (e.2.no < (s.frame (s.frameOfPort p)).inbNo)) = true ∧
      (x.ro = false ∧ x.ido = false) ∧
      (s.port p).inbQ = []) ∧
    (∃ (s : State) (p : PortId) (x : Tlp),
      (s.port p).hasRoots = true ∧
      ((s.port p).root x.root).up = true ∧
      x.root < 8 ∧
      x.ep = false ∧
      tlpOk x = true ∧
      ((s.port p).root x.root).acsPasses x = true ∧
      bitOf (((s.port p).root x.root).cfgWord 0x04) 2 = true ∧
      (s.port p).ioQ ≠ []) ∧
    (∃ (s : State) (p : PortId) (x : Tlp) (h c id : Nat),
      (s.port p).hasRoots = true ∧
      ((s.port p).root x.root).up = true ∧
      x.root < 8 ∧
      x.ep = false ∧
      tlpOk x = true ∧
      ((s.port p).root x.root).acsPasses x = true ∧
      (s.port p).ioQ = [] ∧
      bitOf (((s.port p).root x.root).cfgWord 0x04) 2 = true ∧
      (s.port p).ioFld 0x10 3 0 = 1 ∧
      x.form = 0 ∧
      (x.kind = .write ∧ x.len = 4 ∧ x.data = bytesOf 4 id) ∧
      s.region (s.frameOfPort p) x.addr = .control (0x40000000 + h * 0x1000) ∧
      (h < 4096 ∧ s.coreOfHart (s.frameOfPort p) h = some c) ∧
      (s.tenon (c / 32)).st ≠ 3 ∧
      id < 2 ^ 32 ∧
      (s.port p).inb = [] ∧
      (s.port p).inbQ = []) ∧
    (∃ (s : State) (p : PortId) (x : Tlp) (q j : Nat),
      (s.port p).hasRoots = true ∧
      ((s.port p).root x.root).up = true ∧
      x.root < 8 ∧
      x.ep = false ∧
      tlpOk x = true ∧
      ((s.port p).root x.root).acsPasses x = true ∧
      (s.port p).ioQ = [] ∧
      bitOf (((s.port p).root x.root).cfgWord 0x04) 2 = true ∧
      (s.port p).ioFld 0x10 3 0 = 1 ∧
      x.form = 0 ∧
      x.kind = .write ∧
      (((s.port p).root x.root).redirects = false ∧ (s.port p).devCtl.getLsbD 31 = true) ∧
      s.peerOf p { addr := x.addr, root := x.root } = some (q, j) ∧
      0 < x.len ∧
      (s.port p).inb = [] ∧
      (s.port p).inbQ = []) ∧
    (∃ (s : State) (p : PortId) (x : Tlp) (q j : Nat),
      (s.port p).hasRoots = true ∧
      ((s.port p).root x.root).up = true ∧
      x.root < 8 ∧
      x.ep = false ∧
      tlpOk x = true ∧
      ((s.port p).root x.root).acsPasses x = true ∧
      (s.port p).ioQ = [] ∧
      bitOf (((s.port p).root x.root).cfgWord 0x04) 2 = true ∧
      (s.port p).ioFld 0x10 3 0 = 1 ∧
      x.form = 0 ∧
      x.kind = .read ∧
      (((s.port p).root x.root).redirects = false ∧ (s.port p).devCtl.getLsbD 31 = true) ∧
      s.peerOf p { addr := x.addr, root := x.root } = some (q, j) ∧
      0 < x.len ∧
      (s.port p).inb = [] ∧
      (s.port p).inbQ = [] ∧
      (((s.port q).root j).out = [] ∧ ((s.port q).root j).quar = [])) ∧
    (∃ (s : State) (p : PortId) (x : Tlp) (q j : Nat) (a : AmoOp),
      (s.port p).hasRoots = true ∧
      ((s.port p).root x.root).up = true ∧
      x.root < 8 ∧
      x.ep = false ∧
      tlpOk x = true ∧
      ((s.port p).root x.root).acsPasses x = true ∧
      (s.port p).ioQ = [] ∧
      bitOf (((s.port p).root x.root).cfgWord 0x04) 2 = true ∧
      (s.port p).ioFld 0x10 3 0 = 1 ∧
      x.form = 0 ∧
      (x.kind = .atomic a ∧ a ≠ .cas ∧ x.data ≠ []) ∧
      (((s.port p).root x.root).redirects = false ∧ (s.port p).devCtl.getLsbD 31 = true) ∧
      s.peerOf p { addr := x.addr, root := x.root } = some (q, j) ∧
      0 < x.len ∧
      (s.port p).inb = [] ∧
      (s.port p).inbQ = [] ∧
      (((s.port q).root j).out = [] ∧ ((s.port q).root j).quar = [])) ∧
    (∃ (s : State) (p : PortId) (x : Tlp) (q n : Nat),
      (s.port p).hasRoots = true ∧
      ((s.port p).root x.root).up = true ∧
      x.root < 8 ∧
      x.ep = false ∧
      tlpOk x = true ∧
      ((s.port p).root x.root).acsPasses x = true ∧
      (s.port p).ioQ = [] ∧
      bitOf (((s.port p).root x.root).cfgWord 0x04) 2 = true ∧
      (s.port p).ioFld 0x10 3 0 = 1 ∧
      x.form = 0 ∧
      (x.kind = .write ∧ 0 < x.len ∧ x.addr % 256 + x.len ≤ 256) ∧
      (s.port p).devCtl.getLsbD 30 = true ∧
      (match s.region (s.frameOfPort p) x.addr with | .ridge _ _ => true | _ => false) = true ∧
      s.ridgePorts (s.frameOfPort p) = [q] ∧
      (s.port q).ridge.farPst = 0xFFFF ∧
      (portsOf s.mode (s.frameOfPort p)).all (fun k => (s.port k).ridge.out.isEmpty) = true ∧
      (n = (s.port q).ridge.quar.length ∧ n < 4096) ∧
      (s.frame (s.frameOfPort p)).nodeId ≠ ridgeNode x.addr ∧
      (s.port p).inb = [] ∧
      (s.port p).inbQ = []) ∧
    (∃ (s : State) (p : PortId) (x : Tlp),
      (s.port p).hasRoots = true ∧
      ((s.port p).root x.root).up = true ∧
      x.root < 8 ∧
      x.ep = false ∧
      x.kind ≠ .write ∧
      ((tlpOk x = false ∨ bitOf (((s.port p).root x.root).cfgWord 0x04) 2 = false ∨ ((s.port p).root x.root).acsPasses x = false) ∨ (s.port p).ioQ = [] ∧ ((s.port p).ioFld 0x10 3 0 = 0 ∧ bitOf ((s.port p).ioReg 0x48) 48 = false ∧ (s.port p).ioRecs = [] ∧ s.ncBusy (.record p.val) = false ∨ (s.port p).ioFld 0x10 3 0 = 1 ∧ x.form ≠ 0 ∧ bitOf ((s.port p).ioReg 0x48) 48 = false ∧ (s.port p).ioRecs = [] ∧ s.ncBusy (.record p.val) = false ∨ (s.port p).ioFld 0x10 3 0 = 1 ∧ x.form = 0 ∧ s.inbKind p x x.addr = none))) ∧
    (∃ (s : State) (p : PortId) (x : Tlp),
      (s.port p).hasRoots = true ∧
      ((s.port p).root x.root).up = true ∧
      x.root < 8 ∧
      x.ep = false ∧
      x.kind = .write ∧
      ((tlpOk x = false ∨ bitOf (((s.port p).root x.root).cfgWord 0x04) 2 = false ∨ ((s.port p).root x.root).acsPasses x = false) ∨ (s.port p).ioQ = [] ∧ ((s.port p).ioFld 0x10 3 0 = 0 ∧ bitOf ((s.port p).ioReg 0x48) 48 = false ∧ (s.port p).ioRecs = [] ∧ s.ncBusy (.record p.val) = false ∨ (s.port p).ioFld 0x10 3 0 = 1 ∧ x.form ≠ 0 ∧ bitOf ((s.port p).ioReg 0x48) 48 = false ∧ (s.port p).ioRecs = [] ∧ s.ncBusy (.record p.val) = false ∨ (s.port p).ioFld 0x10 3 0 = 1 ∧ x.form = 0 ∧ s.inbKind p x x.addr = none))) ∧
    (∃ (s : State) (p : PortId) (x : Tlp),
      ((s.port p).hasRoots = false ∨ ((s.port p).root x.root).up = false)) ∧
    (∃ (s : State) (p : PortId) (i : Fin 8) (k : Fin 4) (a : Bool),
      (s.port p).hasRoots = true ∧
      ((s.port p).root i).up = true) ∧
    (∃ (s : State) (p : PortId) (i : Fin 8) (k : Fin 4),
      (s.port p).hasRoots = true ∧
      ((s.port p).root i).up = true ∧
      (s.port p).pers = 1 ∧
      (s.port p).intxLevel k = false ∧
      (s.frame (s.frameOfPort p)).aplic.enabled.contains (8 + 4 * p.val + k.val) = false ∧
      (s.frame (s.frameOfPort p)).aplic.sm (8 + 4 * p.val + k.val) = 6) ∧
    (∃ (s : State) (p : PortId) (i : Fin 8) (k : Fin 4),
      (s.port p).hasRoots = true ∧
      ((s.port p).root i).up = true ∧
      (s.port p).pers = 1 ∧
      (s.port p).intxLevel k = true ∧
      (s.port p).roots.all (fun e => e.1 == i.val || !bitOf e.2.intx k) = true ∧
      (s.frame (s.frameOfPort p)).aplic.enabled.contains (8 + 4 * p.val + k.val) = false ∧
      (s.frame (s.frameOfPort p)).aplic.sm (8 + 4 * p.val + k.val) = 6) ∧
    (∃ (s : State) (p : PortId) (i : Fin 8) (k : Fin 4) (a : Bool),
      ((s.port p).hasRoots = false ∨ ((s.port p).root i).up = false)) ∧
    (∃ (s : State) (p : PortId) (i : Fin 8) (c tag : Nat) (data : List Byte) (q : OutReq) (x : Slot) (w : Wait),
      (s.port p).requester = true ∧
      s.quietFrame (s.frameOfPort p) (some c) ∧
      s.frameOfCore c = s.frameOfPort p ∧
      c < 384 ∧
      Tab.find ((s.port p).outs i) tag = some q ∧
      q.core = c ∧
      q.op = 1 ∧
      (s.core c).pipe.slots = [(q.slot, x)] ∧
      ((s.core c).pipe.waits = [] ∧ (s.core c).pipe.fence = [] ∧ (s.core c).pipe.rob = [] ∧ (s.core c).pipe.stall = none ∧ (s.core c).pipe.trapped = false ∧ (s.core c).pipe.poison = none ∧ (s.core c).pipe.storeQ = []) ∧
      x.merged = [w] ∧
      w.acc.kind = .load ∧
      data.length = w.acc.size ∧
      (q.got = [] ∧ q.ep = false ∧ q.len = w.acc.size)) ∧
    (∃ (s : State) (p : PortId) (i : Fin 8) (c tag : Nat) (data : List Byte) (q : OutReq) (x : Slot) (w : Wait),
      (s.port p).pers = 3 ∧
      s.quietFrame (s.frameOfPort p) (some c) ∧
      s.frameOfCore c = s.frameOfPort p ∧
      c < 384 ∧
      Tab.find ((s.port p).outs i) tag = some q ∧
      q.core = c ∧
      q.op = 1 ∧
      (s.core c).pipe.slots = [(q.slot, x)] ∧
      ((s.core c).pipe.waits = [] ∧ (s.core c).pipe.fence = [] ∧ (s.core c).pipe.rob = [] ∧ (s.core c).pipe.stall = none ∧ (s.core c).pipe.trapped = false ∧ (s.core c).pipe.poison = none ∧ (s.core c).pipe.storeQ = []) ∧
      x.merged = [w] ∧
      w.acc.kind = .load ∧
      data.length = w.acc.size ∧
      (q.got = [] ∧ q.ep = false ∧ q.len = w.acc.size)) ∧
    (∃ (s : State) (p : PortId) (i : Fin 8) (c tag : Nat) (st : CplStatus) (ep : Bool) (data : List Byte) (q : OutReq) (x : Slot) (w : Wait),
      (s.port p).requester = true ∧
      s.quietFrame (s.frameOfPort p) (some c) ∧
      s.frameOfCore c = s.frameOfPort p ∧
      c < 384 ∧
      Tab.find ((s.port p).outs i) tag = some q ∧
      q.core = c ∧
      q.op = 2 ∧
      (s.core c).pipe.slots = [(q.slot, x)] ∧
      ((s.core c).pipe.waits = [] ∧ (s.core c).pipe.fence = [] ∧ (s.core c).pipe.rob = [] ∧ (s.core c).pipe.stall = none ∧ (s.core c).pipe.trapped = false ∧ (s.core c).pipe.poison = none ∧ (s.core c).pipe.storeQ = []) ∧
      x.merged = [w] ∧
      w.acc.kind = .load ∧
      st ≠ .sc ∧
      ep = false) ∧
    (∃ (s : State) (p : PortId) (i : Fin 8) (c tag : Nat) (st : CplStatus) (ep : Bool) (data : List Byte) (q : OutReq) (x : Slot) (w : Wait),
      (s.port p).requester = true ∧
      s.quietFrame (s.frameOfPort p) (some c) ∧
      s.frameOfCore c = s.frameOfPort p ∧
      c < 384 ∧
      Tab.find ((s.port p).outs i) tag = some q ∧
      q.core = c ∧
      q.op = 1 ∧
      (s.core c).pipe.slots = [(q.slot, x)] ∧
      ((s.core c).pipe.waits = [] ∧ (s.core c).pipe.fence = [] ∧ (s.core c).pipe.rob = [] ∧ (s.core c).pipe.stall = none ∧ (s.core c).pipe.trapped = false ∧ (s.core c).pipe.poison = none ∧ (s.core c).pipe.storeQ = []) ∧
      x.merged = [w] ∧
      w.acc.kind = .load ∧
      (st ≠ .sc ∨ ep = true) ∧
      (st = .sc → q.len ≤ q.got.length + data.length) ∧
      (s.port p).devCtl.getLsbD 32 = false) ∧
    (∃ (s : State) (p : PortId) (i : Fin 8) (c tag : Nat) (st : CplStatus) (ep : Bool) (data : List Byte) (q : OutReq) (x : Slot) (w : Wait),
      (s.port p).requester = true ∧
      s.quietFrame (s.frameOfPort p) (some c) ∧
      s.frameOfCore c = s.frameOfPort p ∧
      c < 384 ∧
      Tab.find ((s.port p).outs i) tag = some q ∧
      q.core = c ∧
      q.op = 1 ∧
      (s.core c).pipe.slots = [(q.slot, x)] ∧
      ((s.core c).pipe.waits = [] ∧ (s.core c).pipe.fence = [] ∧ (s.core c).pipe.rob = [] ∧ (s.core c).pipe.stall = none ∧ (s.core c).pipe.trapped = false ∧ (s.core c).pipe.poison = none ∧ (s.core c).pipe.storeQ = []) ∧
      x.merged = [w] ∧
      w.acc.kind = .load ∧
      (st ≠ .sc ∨ ep = true) ∧
      (st = .sc → q.len ≤ q.got.length + data.length) ∧
      (s.port p).devCtl.getLsbD 32 = true ∧
      (s.core c).xlat.walks = [] ∧
      (s.core c).regs.trapTarget { cause := 5, tval := w.acc.va } = 3 ∧
      (s.core c).pipe.snpQ = [] ∧
      w.acc.guest = false) ∧
    (∃ (s : State) (p : PortId) (i : Fin 8) (tag : Nat) (data : List Byte) (q : OutReq),
      (s.port p).requester = true ∧
      Tab.find ((s.port p).outs i) tag = some q ∧
      q.op ≠ 3 ∧
      q.got.length + data.length < q.len) ∧
    (∃ (s : State) (p : PortId) (i : Fin 8) (tag : Nat) (data : List Byte) (q : OutReq),
      (s.port p).requester = true ∧
      s.quietFrame (s.frameOfPort p) none ∧
      Tab.find ((s.port p).outs i) tag = some q ∧
      (q.core = 384 ∧ q.op = 3)) ∧
    (∃ (s : State) (p : PortId) (i : Fin 8) (tag : Nat) (st : CplStatus) (data : List Byte) (q : OutReq),
      (s.port p).requester = true ∧
      s.quietFrame (s.frameOfPort p) none ∧
      Tab.find ((s.port p).outs i) tag = some q ∧
      q.core = 384 ∧
      st ≠ .sc) ∧
    (∃ (s : State) (p : PortId) (i : Fin 8) (tag : Nat) (st : CplStatus) (ep : Bool) (data : List Byte),
      (s.port p).hasRoots = true ∧
      s.quietFrame (s.frameOfPort p) none ∧
      Tab.find ((s.port p).root i).out tag = none) ∧
    (∃ (s : State) (p : PortId) (i : Fin 8) (tag : Nat) (st : CplStatus) (ep : Bool) (data : List Byte),
      (s.port p).pers = 3 ∧
      s.quietFrame (s.frameOfPort p) none ∧
      Tab.find (s.port p).dt.out tag = none) ∧
    (∃ (s : State) (p : PortId) (i : Fin 8) (tag : Nat) (st : CplStatus) (ep : Bool) (data : List Byte) (j : Instr),
      (s.port p).requester = false ∧
      j ∈ ([.completion p i tag st ep data, .completionTimeout p i tag, .pcieTagQuarantineEnd p i tag] : List Instr)) ∧
    (∃ (s : State) (p : PortId) (i : Fin 8) (tag : Nat) (q : OutReq),
      (s.port p).requester = true ∧
      (s.port p).noTimeout i = false ∧
      s.quietFrame (s.frameOfPort p) none ∧
      Tab.find ((s.port p).outs i) tag = some q ∧
      q.core = 384) ∧
    (∃ (s : State) (p : PortId) (i : Fin 8) (c tag : Nat) (data : List Byte) (q : OutReq) (x : Slot) (w : Wait),
      (s.port p).requester = true ∧
      (s.port p).noTimeout i = false ∧
      s.quietFrame (s.frameOfPort p) (some c) ∧
      s.frameOfCore c = s.frameOfPort p ∧
      c < 384 ∧
      Tab.find ((s.port p).outs i) tag = some q ∧
      q.core = c ∧
      q.op = 1 ∧
      (s.core c).pipe.slots = [(q.slot, x)] ∧
      ((s.core c).pipe.waits = [] ∧ (s.core c).pipe.fence = [] ∧ (s.core c).pipe.rob = [] ∧ (s.core c).pipe.stall = none ∧ (s.core c).pipe.trapped = false ∧ (s.core c).pipe.poison = none ∧ (s.core c).pipe.storeQ = []) ∧
      x.merged = [w] ∧
      w.acc.kind = .load ∧
      (s.port p).devCtl.getLsbD 32 = true ∧
      (s.core c).xlat.walks = [] ∧
      (s.core c).regs.trapTarget { cause := 5, tval := w.acc.va } = 3 ∧
      (s.core c).pipe.snpQ = [] ∧
      w.acc.guest = false) ∧
    (∃ (s : State) (p : PortId) (i : Fin 8) (tag : Nat),
      ((s.port p).noTimeout i = true ∨ Tab.find ((s.port p).outs i) tag = none) ∧
      s.quietFrame (s.frameOfPort p) none) ∧
    (∃ (s : State) (p : PortId) (i : Fin 8) (tag : Nat),
      (s.port p).hasRoots = true ∧
      s.quietFrame (s.frameOfPort p) none) ∧
    (∃ (s : State) (p : PortId) (i : Fin 8) (tag : Nat),
      (s.port p).pers = 3 ∧
      s.quietFrame (s.frameOfPort p) none) :=
  ⟨⟨base.setPort 2 { pers := 1, lanes := 1, inReset := false, roots := [(0, { up := true, cfg := [(4, 6)], power := .l1 })], iommu := [(16, 1)] }, 2, { root := 0, tag := 5, addr := 0x1008, len := 88, kind := .write, data := bytesOf 88 7 }, 16 + homeBay 0 0 0x1000, 0, by decide +kernel⟩,
    ⟨base.setPort 2 { pers := 1, lanes := 1, inReset := false, roots := [(0, { up := true, cfg := [(4, 6)] })], iommu := [(16, 1)] }, 2, { root := 0, tag := 5, addr := 0x1008, len := 88, ep := true, kind := .write, data := bytesOf 88 7 }, 16 + homeBay 0 0 0x1000, 0, by decide +kernel⟩,
    ⟨(base.setPort 2 { pers := 1, lanes := 1, inReset := false, roots := [(0, { up := true, cfg := [(4, 6)] })], iommu := [(16, 1)], inb := [(0, { kind := .write, wr := true, posted := true, left := [70], addr := 70 * 64, len := 8 })] }).setFrame 0 { base.frame 0 with inbNo := 3 }, 2, { root := 0, tag := 5, addr := 0x1008, len := 8 }, by decide +kernel⟩,
    ⟨base.setPort 2 { pers := 1, lanes := 1, inReset := false, roots := [(0, { up := true, cfg := [(4, 6)] })], ioQ := [none] }, 2, { root := 0, tag := 5, addr := 0x1008, len := 8 }, by decide +kernel⟩,
    ⟨base.setPort 2 { pers := 1, lanes := 1, inReset := false, roots := [(0, { up := true, cfg := [(4, 6)] })], iommu := [(16, 1)] }, 2, { kind := .write, len := 4, addr := controlBase + 0x40005000, data := bytesOf 4 9 }, 5, 5, 9, by decide +kernel⟩,
    ⟨(base.setPort 2 { pers := 1, lanes := 1, inReset := false, roots := [(0, { up := true, cfg := [(4, 6)] })], iommu := [(16, 1)], devCtl := 0x80000000 }).setPort 3 { pers := 1, lanes := 1, inReset := false, roots := [(0, { up := true, cfg := [(4, 6), (0x20, 0xD8F0D800)] })] }, 2, { kind := .write, tag := 5, addr := 0xD8001008, len := 8, data := bytesOf 8 7 }, 3, 0, by decide +kernel⟩,
    ⟨(base.setPort 2 { pers := 1, lanes := 1, inReset := false, roots := [(0, { up := true, cfg := [(4, 6)] })], iommu := [(16, 1)], devCtl := 0x80000000 }).setPort 3 { pers := 1, lanes := 1, inReset := false, roots := [(0, { up := true, cfg := [(4, 6), (0x20, 0xD8F0D800)] })] }, 2, { kind := .read, tag := 5, addr := 0xD8001008, len := 8, data := bytesOf 8 7 }, 3, 0, by decide +kernel⟩,
    ⟨(base.setPort 2 { pers := 1, lanes := 1, inReset := false, roots := [(0, { up := true, cfg := [(4, 6)] })], iommu := [(16, 1)], devCtl := 0x80000000 }).setPort 3 { pers := 1, lanes := 1, inReset := false, roots := [(0, { up := true, cfg := [(4, 6), (0x20, 0xD8F0D800)] })] }, 2, { kind := .atomic .add, tag := 5, addr := 0xD8001008, len := 8, data := bytesOf 8 7 }, 3, 0, .add, by decide +kernel⟩,
    ⟨((base.setPort 2 { pers := 1, lanes := 1, inReset := false, roots := [(0, { up := true, cfg := [(4, 6)] })], iommu := [(16, 1)], devCtl := 0x40000000 }).setPort 3 { pers := 5, inReset := false, ridge := { st := 2, farPst := 0xFFFF } }).setFrame 0 { base.frame 0 with node := true, nodeId := 7 }, 2, { kind := .write, tag := 5, addr := 2 ^ 55 + 3 * 2 ^ 39 + 8, len := 8, data := bytesOf 8 7 }, 3, 0, by decide +kernel⟩,
    ⟨base.setPort 2 { pers := 1, lanes := 1, inReset := false, roots := [(0, { up := true, cfg := [(4, 6)] })] }, 2, { root := 0, tag := 5, addr := 0x1008, len := 8 }, by decide +kernel⟩,
    ⟨base.setPort 2 { pers := 1, lanes := 1, inReset := false, roots := [(0, { up := true, cfg := [(4, 6)] })] }, 2, { root := 0, tag := 5, addr := 0x1008, len := 88, kind := .write, data := bytesOf 88 7 }, by decide +kernel⟩,
    ⟨base, 2, { root := 0, tag := 5, addr := 0x1008, len := 8 }, by decide +kernel⟩,
    ⟨base.setPort 2 { pers := 1, lanes := 1, inReset := false, roots := [(0, { up := true, cfg := [(4, 6)], intx := 8 })] }, 2, 0, 1, true, by decide +kernel⟩,
    ⟨(base.setPort 2 { pers := 1, lanes := 1, inReset := false, roots := [(0, { up := true, cfg := [(4, 6)] })] }).setFrame 0 { base.frame 0 with aplic := { sourcecfg := [(17, 6)] } }, 2, 0, 1, by decide +kernel⟩,
    ⟨(base.setPort 2 { pers := 1, lanes := 1, inReset := false, roots := [(0, { up := true, cfg := [(4, 6)], intx := 2 })] }).setFrame 0 { base.frame 0 with aplic := { sourcecfg := [(17, 6)], pending := [17, 3] } }, 2, 0, 1, by decide +kernel⟩,
    ⟨base, 2, 0, 1, true, by decide +kernel⟩,
    ⟨(base.setPort 2 { pers := 1, lanes := 1, inReset := false, roots := [(0, { up := true, cfg := [(4, 6)], out := [(9, { core := 0, slot := 5, op := 1, addr := portBase 2 + 0x10000008, len := 8 })] })] }).setCore 0 { base.core 0 with pipe := { slots := [(5, { kind := .unc, op := .rdNc, merged := [{ acc := { kind := .load, va := 0x9008, pa := portBase 2 + 0x10000008, size := 8, dest := .x 7, nc := true, io := true }, xlated := true, pc := 0x4000 }] })] } }, 2, 0, 0, 9, bytesOf 8 77, { core := 0, slot := 5, op := 1, addr := portBase 2 + 0x10000008, len := 8 }, { kind := .unc, op := .rdNc, merged := [{ acc := { kind := .load, va := 0x9008, pa := portBase 2 + 0x10000008, size := 8, dest := .x 7, nc := true, io := true }, xlated := true, pc := 0x4000 }] }, { acc := { kind := .load, va := 0x9008, pa := portBase 2 + 0x10000008, size := 8, dest := .x 7, nc := true, io := true }, xlated := true, pc := 0x4000 }, by decide +kernel⟩,
    ⟨((base.setPort 2 { pers := 3, inReset := false, dt := { link := 2, bme := true, out := [(9, { core := 0, slot := 5, op := 1, addr := portBase 2 + 0x10000008, len := 8 })] } })).setCore 0 { base.core 0 with pipe := { slots := [(5, { kind := .unc, op := .rdNc, merged := [{ acc := { kind := .load, va := 0x9008, pa := portBase 2 + 0x10000008, size := 8, dest := .x 7, nc := true, io := true }, xlated := true, pc := 0x4000 }] })] } }, 2, 0, 0, 9, bytesOf 8 77, { core := 0, slot := 5, op := 1, addr := portBase 2 + 0x10000008, len := 8 }, { kind := .unc, op := .rdNc, merged := [{ acc := { kind := .load, va := 0x9008, pa := portBase 2 + 0x10000008, size := 8, dest := .x 7, nc := true, io := true }, xlated := true, pc := 0x4000 }] }, { acc := { kind := .load, va := 0x9008, pa := portBase 2 + 0x10000008, size := 8, dest := .x 7, nc := true, io := true }, xlated := true, pc := 0x4000 }, by decide +kernel⟩,
    ⟨(base.setPort 2 { pers := 1, lanes := 1, inReset := false, roots := [(0, { up := true, cfg := [(4, 6)], out := [(9, { core := 0, slot := 5, op := 2, addr := portBase 2 + 0x10000008, len := 8 })] })] }).setCore 0 { base.core 0 with pipe := { slots := [(5, { kind := .unc, op := .rdNc, merged := [{ acc := { kind := .load, va := 0x9008, pa := portBase 2 + 0x10000008, size := 8, dest := .x 7, nc := true, io := true }, xlated := true, pc := 0x4000 }] })] } }, 2, 0, 0, 9, .ur, false, [], { core := 0, slot := 5, op := 2, addr := portBase 2 + 0x10000008, len := 8 }, { kind := .unc, op := .rdNc, merged := [{ acc := { kind := .load, va := 0x9008, pa := portBase 2 + 0x10000008, size := 8, dest := .x 7, nc := true, io := true }, xlated := true, pc := 0x4000 }] }, { acc := { kind := .load, va := 0x9008, pa := portBase 2 + 0x10000008, size := 8, dest := .x 7, nc := true, io := true }, xlated := true, pc := 0x4000 }, by decide +kernel⟩,
    ⟨(base.setPort 2 { pers := 1, lanes := 1, inReset := false, roots := [(0, { up := true, cfg := [(4, 6)], out := [(9, { core := 0, slot := 5, op := 1, addr := portBase 2 + 0x10000008, len := 8 })] })] }).setCore 0 { base.core 0 with pipe := { slots := [(5, { kind := .unc, op := .rdNc, merged := [{ acc := { kind := .load, va := 0x9008, pa := portBase 2 + 0x10000008, size := 8, dest := .x 7, nc := true, io := true }, xlated := true, pc := 0x4000 }] })] } }, 2, 0, 0, 9, .ca, false, [], { core := 0, slot := 5, op := 1, addr := portBase 2 + 0x10000008, len := 8 }, { kind := .unc, op := .rdNc, merged := [{ acc := { kind := .load, va := 0x9008, pa := portBase 2 + 0x10000008, size := 8, dest := .x 7, nc := true, io := true }, xlated := true, pc := 0x4000 }] }, { acc := { kind := .load, va := 0x9008, pa := portBase 2 + 0x10000008, size := 8, dest := .x 7, nc := true, io := true }, xlated := true, pc := 0x4000 }, by decide +kernel⟩,
    ⟨(base.setPort 2 { pers := 1, lanes := 1, inReset := false, devCtl := 0x100000000, roots := [(0, { up := true, cfg := [(4, 6)], out := [(9, { core := 0, slot := 5, op := 1, addr := portBase 2 + 0x10000008, len := 8 })] })] }).setCore 0 { base.core 0 with pipe := { slots := [(5, { kind := .unc, op := .rdNc, merged := [{ acc := { kind := .load, va := 0x9008, pa := portBase 2 + 0x10000008, size := 8, dest := .x 7, nc := true, io := true }, xlated := true, pc := 0x4000 }] })] } }, 2, 0, 0, 9, .sc, true, bytesOf 8 0, { core := 0, slot := 5, op := 1, addr := portBase 2 + 0x10000008, len := 8 }, { kind := .unc, op := .rdNc, merged := [{ acc := { kind := .load, va := 0x9008, pa := portBase 2 + 0x10000008, size := 8, dest := .x 7, nc := true, io := true }, xlated := true, pc := 0x4000 }] }, { acc := { kind := .load, va := 0x9008, pa := portBase 2 + 0x10000008, size := 8, dest := .x 7, nc := true, io := true }, xlated := true, pc := 0x4000 }, by decide +kernel⟩,
    ⟨base.setPort 2 { pers := 1, lanes := 1, inReset := false, roots := [(0, { up := true, cfg := [(4, 6)], out := [(9, { core := 3, slot := 5, op := 1, addr := 64, len := 64 })] })] }, 2, 0, 9, bytesOf 32 7, { core := 3, slot := 5, op := 1, addr := 64, len := 64 }, by decide +kernel⟩,
    ⟨base.setPort 2 { pers := 1, lanes := 1, inReset := false, roots := [(0, { up := true, cfg := [(4, 6)], out := [(9, { core := 384, slot := 5, op := 3, addr := 8, len := 4 })] })] }, 2, 0, 9, [], { core := 384, slot := 5, op := 3, addr := 8, len := 4 }, by decide +kernel⟩,
    ⟨base.setPort 2 { pers := 1, lanes := 1, inReset := false, roots := [(0, { up := true, cfg := [(4, 6)], out := [(9, { core := 384, slot := 5, op := 3, addr := 8, len := 4 })] })] }, 2, 0, 9, .ur, [], { core := 384, slot := 5, op := 3, addr := 8, len := 4 }, by decide +kernel⟩,
    ⟨base.setPort 2 { pers := 1, lanes := 1, inReset := false, roots := [(0, { up := true, cfg := [(4, 6)], quar := [(9, 4)] })] }, 2, 0, 9, .sc, false, [7], by decide +kernel⟩,
    ⟨base.setPort 2 { pers := 3, inReset := false, dt := { link := 2, quar := [(9, 1)] } }, 2, 0, 9, .sc, false, [], by decide +kernel⟩,
    ⟨base.setPort 2 {}, 2, 0, 9, .sc, false, [], .pcieTagQuarantineEnd 2 0 9, by decide +kernel⟩,
    ⟨base.setPort 2 { pers := 1, lanes := 1, inReset := false, roots := [(0, { up := true, cfg := [(4, 6)], out := [(9, { core := 384, slot := 5, op := 3, addr := 8, len := 4 })] })] }, 2, 0, 9, { core := 384, slot := 5, op := 3, addr := 8, len := 4 }, by decide +kernel⟩,
    ⟨(base.setPort 2 { pers := 1, lanes := 1, inReset := false, devCtl := 0x100000000, roots := [(0, { up := true, cfg := [(4, 6)], out := [(9, { core := 0, slot := 5, op := 1, addr := portBase 2 + 0x10000008, len := 8 })] })] }).setCore 0 { base.core 0 with pipe := { slots := [(5, { kind := .unc, op := .rdNc, merged := [{ acc := { kind := .load, va := 0x9008, pa := portBase 2 + 0x10000008, size := 8, dest := .x 7, nc := true, io := true }, xlated := true, pc := 0x4000 }] })] } }, 2, 0, 0, 9, [], { core := 0, slot := 5, op := 1, addr := portBase 2 + 0x10000008, len := 8 }, { kind := .unc, op := .rdNc, merged := [{ acc := { kind := .load, va := 0x9008, pa := portBase 2 + 0x10000008, size := 8, dest := .x 7, nc := true, io := true }, xlated := true, pc := 0x4000 }] }, { acc := { kind := .load, va := 0x9008, pa := portBase 2 + 0x10000008, size := 8, dest := .x 7, nc := true, io := true }, xlated := true, pc := 0x4000 }, by decide +kernel⟩,
    ⟨base.setPort 2 { pers := 1, lanes := 1, inReset := false, roots := [(0, { up := true, cfg := [(4, 6), (0x68, 16)], out := [(9, { core := 384, slot := 5, op := 3, addr := 8, len := 4 })] })] }, 2, 0, 9, by decide +kernel⟩,
    ⟨base.setPort 2 { pers := 1, lanes := 1, inReset := false, roots := [(0, { up := true, cfg := [(4, 6)], quar := [(9, 1), (4, 8)] })] }, 2, 0, 9, by decide +kernel⟩,
    ⟨base.setPort 2 { pers := 3, inReset := false, dt := { link := 2, quar := [(9, 1), (4, 8)] } }, 2, 0, 9, by decide +kernel⟩⟩

/-- States and operands that meet the hypotheses of RootPortLinks. -/
theorem witness_RootPortLinks :
    (∃ (s : State) (p : PortId) (i : Fin 8) (l : LinkIn),
      (s.port p).inReset = false ∧
      (s.frame (s.frameOfPort p)).halted = false ∧
      (s.port p).hasRoot i = true ∧
      ((s.port p).root i).up = false ∧
      ((s.port p).root i).held = false ∧
      ((((s.port p).root i).trained ((s.port p).rootWidth i) ((s.port p).pers == 2) l).cxl = 0 ∨ (s.home (12 + p.val)).linkDown.contains i.val = true ∨ (Tab.find (s.home (12 + p.val)).decode i).isSome = true)) ∧
    (∃ (s : State) (p : PortId) (i : Fin 8) (l : LinkIn),
      (s.port p).inReset = false ∧
      (s.frame (s.frameOfPort p)).halted = false ∧
      (s.port p).hasRoot i = true ∧
      ((s.port p).root i).up = false ∧
      ((s.port p).root i).held = false ∧
      (((s.port p).root i).trained ((s.port p).rootWidth i) ((s.port p).pers == 2) l).cxl ≠ 0 ∧
      (s.home (12 + p.val)).linkDown.contains i.val = false ∧
      Tab.find (s.home (12 + p.val)).decode i = none) ∧
    (∃ (s : State) (p : PortId) (i : Fin 8) (l : LinkIn),
      (s.port p).inReset = false ∧
      (s.frame (s.frameOfPort p)).halted = false ∧
      (s.port p).pers = 3 ∧
      (s.port p).dt.link < 2) ∧
    (∃ (s : State) (p : PortId) (i : Fin 8) (l : LinkIn) (w : Nat),
      (s.port p).inReset = false ∧
      (s.frame (s.frameOfPort p)).halted = false ∧
      (s.frame (s.frameOfPort p)).booted = true ∧
      joinedMode s.mode = true ∧
      (s.port p).pers = 4 ∧
      (s.port p).purlin.st < 2 ∧
      widthOf [16, 8] (min l.width (s.port p).lanes) = some w) ∧
    (∃ (s : State) (p : PortId) (i : Fin 8) (l : LinkIn) (w : Nat),
      (s.port p).inReset = false ∧
      (s.frame (s.frameOfPort p)).halted = false ∧
      (s.frame (s.frameOfPort p)).booted = true ∧
      (s.port p).pers = 5 ∧
      (s.port p).ridge.st < 2 ∧
      widthOf [16, 8, 4] (min l.width (s.port p).lanes) = some w) ∧
    (∃ (s : State) (p : PortId) (i : Fin 8) (l : LinkIn),
      ((s.port p).inReset = true ∨ (s.frame (s.frameOfPort p)).halted = true ∨ ((s.port p).pers = 1 ∨ (s.port p).pers = 2) ∧ ((s.port p).hasRoot i = false ∨ ((s.port p).root i).up = true ∨ ((s.port p).root i).held = true) ∨ (s.port p).pers = 3 ∧ 2 ≤ (s.port p).dt.link ∨ (s.port p).pers = 4 ∧ (2 ≤ (s.port p).purlin.st ∨ (s.frame (s.frameOfPort p)).booted = false ∨ joinedMode s.mode = false ∨ min l.width (s.port p).lanes < 8) ∨ (s.port p).pers = 5 ∧ (2 ≤ (s.port p).ridge.st ∨ (s.frame (s.frameOfPort p)).booted = false ∨ min l.width (s.port p).lanes < 4))) ∧
    (∃ (s : State) (p : PortId) (i : Fin 8),
      (s.port p).hasRoot i = true ∧
      (s.port p).inReset = false ∧
      (s.frame (s.frameOfPort p)).halted = false ∧
      ((s.port p).root i).up = false ∧
      ((s.port p).root i).held = false) ∧
    (∃ (s : State) (p : PortId) (i : Fin 8) (tag : Nat) (q : OutReq),
      (s.port p).hasRoot i = true ∧
      (s.port p).inReset = false ∧
      (s.frame (s.frameOfPort p)).halted = false ∧
      ((s.port p).root i).cxl = 0 ∧
      ((s.port p).root i).up = true ∧
      ((s.port p).root i).out = [(tag, q)] ∧
      q.core = 384 ∧
      ((s.port p).pers = 1 ∨ s.idleHome (12 + p.val)) ∧
      s.quietFrame (s.frameOfPort p) none) ∧
    (∃ (s : State) (p : PortId) (i : Fin 8),
      (s.port p).hasRoot i = true ∧
      (s.port p).inReset = false ∧
      (s.frame (s.frameOfPort p)).halted = false ∧
      ((s.port p).root i).cxl = 0 ∧
      ((s.port p).root i).up = true ∧
      ((s.port p).root i).out = [] ∧
      ((s.port p).pers = 1 ∨ s.idleHome (12 + p.val)) ∧
      s.quietFrame (s.frameOfPort p) none) ∧
    (∃ (s : State) (p : PortId) (i : Fin 8) (e : PortEvent) (b : Bool),
      (s.port p).hasRoot i = true ∧
      (s.port p).inReset = false ∧
      (s.frame (s.frameOfPort p)).halted = false ∧
      (e = .aerCorr ∨ e = .aerUncorr b ∧ (((s.port p).root i).up = false ∨ ((s.port p).root i).dpc = true ∨ ((s.port p).root i).dpcEnable ≠ 2 ∧ (b = false ∨ ((s.port p).root i).dpcEnable ≠ 1)))) ∧
    (∃ (s : State) (r : Root),
      r.rootErr = 0) ∧
    (∃ (s : State) (p : PortId) (i : Fin 8) (tag : Nat) (q : OutReq) (b : Bool),
      (s.port p).hasRoot i = true ∧
      (s.port p).inReset = false ∧
      (s.frame (s.frameOfPort p)).halted = false ∧
      ((s.port p).root i).cxl = 0 ∧
      ((s.port p).root i).up = true ∧
      ((s.port p).root i).out = [(tag, q)] ∧
      q.core = 384 ∧
      ((s.port p).pers = 1 ∨ s.idleHome (12 + p.val)) ∧
      s.quietFrame (s.frameOfPort p) none ∧
      ((s.port p).root i).dpc = false ∧
      (((s.port p).root i).dpcEnable = 2 ∨ b = true ∧ ((s.port p).root i).dpcEnable = 1)) ∧
    (∃ (s : State) (p : PortId) (i : Fin 8) (e : PortEvent),
      (s.port p).hasRoot i = true ∧
      (s.port p).inReset = false ∧
      (s.frame (s.frameOfPort p)).halted = false ∧
      (e = .pme ∨ e = .presence)) ∧
    (∃ (s : State) (p : PortId) (i : Fin 8) (e : PortEvent) (b : Bool),
      (s.port p).pers = 3 ∧
      (s.port p).inReset = false ∧
      (s.frame (s.frameOfPort p)).halted = false ∧
      (e = .aerCorr ∨ e = .aerUncorr b)) ∧
    (∃ (s : State) (p : PortId) (i : Fin 8) (e : PortEvent),
      ((s.port p).inReset = true ∨ (s.frame (s.frameOfPort p)).halted = true ∨ (s.port p).hasRoot i = false ∧ ((s.port p).pers ≠ 3 ∨ e = .linkUp ∨ e = .linkDown ∨ e = .pme ∨ e = .presence) ∨ (s.port p).hasRoot i = true ∧ (e = .linkUp ∧ (((s.port p).root i).up = true ∨ ((s.port p).root i).held = true) ∨ e = .linkDown ∧ ((s.port p).root i).up = false))) ∧
    (∃ (s : State) (p : PortId) (i : Fin 8) (tag : Nat) (q : OutReq),
      (s.port p).hasRoots = true ∧
      ((s.port p).root i).cxl = 0 ∧
      ((s.port p).root i).dpc = false ∧
      ((s.port p).root i).up = true ∧
      ((s.port p).root i).out = [(tag, q)] ∧
      q.core = 384 ∧
      ((s.port p).pers = 1 ∨ s.idleHome (12 + p.val)) ∧
      s.quietFrame (s.frameOfPort p) none) ∧
    (∃ (s : State) (p : PortId) (i : Fin 8),
      ((s.port p).hasRoots = false ∨ ((s.port p).root i).up = false ∨ ((s.port p).root i).dpc = true)) ∧
    (∃ (s : State) (p : PortId) (i : Fin 8) (tag : Nat) (q : OutReq) (e : PortEvent),
      (s.port p).hasRoot i = true ∧
      (s.port p).inReset = false ∧
      (s.frame (s.frameOfPort p)).halted = false ∧
      (s.port p).pers = 2 ∧
      ((s.port p).root i).cxl ≠ 0 ∧
      (s.home (12 + p.val)).cxlWait = [] ∧
      s.idleHome (12 + p.val) ∧
      ((s.port p).root i).up = true ∧
      ((s.port p).root i).out = [(tag, q)] ∧
      q.core = 384 ∧
      s.quietFrame (s.frameOfPort p) none ∧
      e = .linkDown) ∧
    (∃ (s : State) (p : PortId) (i : Fin 8),
      ((s.port p).pers ≠ 2 ∨ ((s.port p).root i).up = false ∨ ((s.port p).root i).cxl = 0)) ∧
    (∃ (s : State) (p : PortId) (l : LinkPower) (n : Option Nat),
      (s.port p).hasRoots = true) ∧
    (∃ (s : State) (p : PortId) (l : LinkPower) (n : Option Nat),
      (s.port p).pers = 3) ∧
    (∃ (s : State) (p : PortId) (l : LinkPower) (n : Option Nat),
      (s.port p).hasRoots = false ∧
      (s.port p).pers ≠ 3) :=
  ⟨⟨base.setPort 2 { pers := 1, lanes := 1, inReset := false, roots := [(0, { slotEv := 8 })], laneErr := [(3, 9), (17, 2)] }, 2, 0, { width := 16, rate := 5, flit := false }, by decide +kernel⟩,
    ⟨base.setPort 2 { pers := 2, lanes := 1, inReset := false }, 2, 0, { cxl := 1, cap := 64 }, by decide +kernel⟩,
    ⟨base.setPort 2 { pers := 3, lanes := 16, inReset := false, rec_ := true }, 2, 0, { rate := 6 }, by decide +kernel⟩,
    ⟨{ base.setPort 2 { pers := 4, lanes := 16, inReset := false, purlin := { txSeq := 1023 } } with plumb := { base.plumb with active := 1 } }, 2, 0, { width := 12 }, 8, by decide +kernel⟩,
    ⟨base.setPort 2 { pers := 5, lanes := 16, inReset := false }, 2, 0, { width := 7, rate := 5 }, 4, by decide +kernel⟩,
    ⟨base.setPort 2 { pers := 4, inReset := false }, 2, 0, {}, by decide +kernel⟩,
    ⟨base.setPort 2 { pers := 1, lanes := 1, inReset := false, roots := [(0, { width := 8 })] }, 2, 0, by decide +kernel⟩,
    ⟨base.setPort 2 { pers := 1, lanes := 1, inReset := false, roots := [(0, { up := true, cfg := [(4, 6)], width := 8, power := .l1, intx := 5, out := [(9, { core := 384, slot := 5, op := 3, addr := 8, len := 4 })] })] }, 2, 0, 9, { core := 384, slot := 5, op := 3, addr := 8, len := 4 }, by decide +kernel⟩,
    ⟨base.setPort 2 { pers := 1, lanes := 1, inReset := false, roots := [(0, { up := true, cfg := [(4, 6)], width := 8, power := .l1 })] }, 2, 0, by decide +kernel⟩,
    ⟨base.setPort 2 { pers := 1, lanes := 1, inReset := false, roots := [(0, { up := true, cfg := [(4, 6)] })] }, 2, 0, .aerUncorr true, true, by decide +kernel⟩,
    ⟨base, {}, by decide +kernel⟩,
    ⟨base.setPort 2 { pers := 1, lanes := 1, inReset := false, roots := [(0, { up := true, cfg := [(4, 6), (0x154, 0x10000)], width := 8, power := .l1, intx := 5, out := [(9, { core := 384, slot := 5, op := 3, addr := 8, len := 4 })] })] }, 2, 0, 9, { core := 384, slot := 5, op := 3, addr := 8, len := 4 }, true, by decide +kernel⟩,
    ⟨(base.setPort 2 { pers := 1, lanes := 1, inReset := false, roots := [(0, { up := true, cfg := [(4, 6)] })] }).setFrame 0 { base.frame 0 with aplic := { sourcecfg := [(42, 4)] } }, 2, 0, .pme, by decide +kernel⟩,
    ⟨base.setPort 2 { pers := 3, inReset := false }, 2, 0, .aerUncorr false, false, by decide +kernel⟩,
    ⟨base.setPort 2 { pers := 1, lanes := 1, inReset := false, roots := [(0, { up := true, cfg := [(4, 6)] })] }, 2, 0, .linkUp, by decide +kernel⟩,
    ⟨base.setPort 2 { pers := 1, lanes := 1, inReset := false, roots := [(0, { up := true, cfg := [(4, 6)], width := 8, power := .l1, intx := 5, out := [(9, { core := 384, slot := 5, op := 3, addr := 8, len := 4 })] })] }, 2, 0, 9, { core := 384, slot := 5, op := 3, addr := 8, len := 4 }, by decide +kernel⟩,
    ⟨base.setPort 2 { pers := 1, lanes := 1, inReset := false, roots := [(0, { up := true, cfg := [(4, 6)], dpc := true })] }, 2, 0, by decide +kernel⟩,
    ⟨let s0 : State := base.setPort 2 { pers := 2, lanes := 1, inReset := false, roots := [(0, { up := true, cfg := [(4, 6)], cxl := 1, width := 8, out := [(9, { core := 384, slot := 5, op := 3, addr := 8, len := 4 })] })] }; s0.setHome 14 { s0.home 14 with stopped := false }, 2, 0, 9, { core := 384, slot := 5, op := 3, addr := 8, len := 4 }, .linkDown, by decide +kernel⟩,
    ⟨base.setPort 2 { pers := 1, lanes := 1, inReset := false, roots := [(0, { up := true, cfg := [(4, 6)] })] }, 2, 0, by decide +kernel⟩,
    ⟨base.setPort 2 { pers := 1, lanes := 1, inReset := false, roots := [(0, { up := true, cfg := [(4, 6)], width := 8, flit := true })] }, 2, .l0pHalf, some 3, by decide +kernel⟩,
    ⟨base.setPort 2 { pers := 3, inReset := false, dt := { link := 2, cfg_ := [(0x50, 2)] } }, 2, .l1, none, by decide +kernel⟩,
    ⟨base.setPort 2 { pers := 5 }, 2, .l1, none, by decide +kernel⟩⟩

/-- States and operands that meet the hypotheses of DovetailRegistersAndWindows. -/
theorem witness_DovetailRegistersAndWindows :
    (∃ (s : State) (p : PortId) (v : Word),
      (s.port p).barOpen = true ∧
      (s.port p).dtHeld = false) ∧
    (∃ (s : State) (p : PortId) (v : Word),
      (s.port p).barOpen = true ∧
      (s.port p).dtHeld = false ∧
      ((s.port p).dt.replies = [] ∨ (s.port p).dt.bme = false ∨ (s.port p).dt.cfg.getLsbD 1 = false)) ∧
    (∃ (s : State) (d : Dovetail) (n : Nat) (w : Word),
      w = Tab.get d.msix 0x100000000 (2 * n + 1)) ∧
    (∃ (s : State) (p : PortId) (v : Word) (b : List Byte),
      (s.port p).barOpen = true ∧
      (s.port p).dtHeld = false ∧
      (s.port p).dt.replies = [b] ∧
      (s.port p).dt.bme = true ∧
      (s.port p).dt.cfg.getLsbD 1 = true ∧
      ringFull (s.port p).dt.rplTail (fld v 7 0 % 2 ^ (s.port p).dt.logInF.2) (s.port p).dt.logInF.2 = false) ∧
    (∃ (s : State) (p : PortId) (v : Word),
      (s.port p).barOpen = true ∧
      (s.port p).dtHeld = true) ∧
    (∃ (s : State) (p : PortId) (k : Nat) (v : Word) (x : Tlp) (o : BitVec 24) (n : Nat),
      (s.port p).barOpen = false) ∧
    (∃ (s : State) (p : PortId) (v : Word),
      (s.port p).barOpen = true ∧
      (s.port p).dtHeld = false ∧
      (4 ≤ fld v 11 8 ∧ fld v 11 8 ≤ 8 ∧ 4 ≤ fld v 15 12 ∧ fld v 15 12 ≤ 8) ∧
      ((s.port p).dt.cfg.getLsbD 0 = false ∧ (s.port p).dt.cfg.getLsbD 1 = false) ∧
      (v.getLsbD 0 = true ∧ v.getLsbD 1 = true) ∧
      (s.port p).dt.replies = []) ∧
    (∃ (s : State) (p : PortId) (v : Word),
      (s.port p).barOpen = true ∧
      (s.port p).dtHeld = false ∧
      (4 ≤ fld v 11 8 ∧ fld v 11 8 ≤ 8 ∧ 4 ≤ fld v 15 12 ∧ fld v 15 12 ≤ 8) ∧
      ((s.port p).dt.cfg.getLsbD 0 = false ∧ (s.port p).dt.cfg.getLsbD 1 = false) ∧
      (v.getLsbD 0 = true ∧ v.getLsbD 1 = false) ∧
      (s.port p).dt.replies = []) ∧
    (∃ (s : State) (p : PortId) (v : Word),
      (s.port p).barOpen = true ∧
      (s.port p).dtHeld = false ∧
      (4 ≤ fld v 11 8 ∧ fld v 11 8 ≤ 8 ∧ 4 ≤ fld v 15 12 ∧ fld v 15 12 ≤ 8) ∧
      ((s.port p).dt.cfg.getLsbD 0 = true ∧ (s.port p).dt.cfg.getLsbD 1 = true) ∧
      (v.getLsbD 0 = true ∧ v.getLsbD 1 = true) ∧
      (s.port p).dt.replies = []) ∧
    (∃ (s : State) (p : PortId) (v : Word),
      (s.port p).barOpen = true ∧
      (s.port p).dtHeld = false ∧
      (4 ≤ fld v 11 8 ∧ fld v 11 8 ≤ 8 ∧ 4 ≤ fld v 15 12 ∧ fld v 15 12 ≤ 8) ∧
      ((s.port p).dt.cfg.getLsbD 0 = true ∧ (s.port p).dt.cfg.getLsbD 1 = true) ∧
      (v.getLsbD 0 = false ∨ v.getLsbD 1 = false)) ∧
    (∃ (s : State) (p : PortId) (v : Word),
      (s.port p).barOpen = true ∧
      (s.port p).dtHeld = false ∧
      (fld v 11 8 < 4 ∨ 8 < fld v 11 8 ∨ fld v 15 12 < 4 ∨ 8 < fld v 15 12) ∧
      (s.port p).dt.replies = []) ∧
    (∃ (s : State) (p : PortId) (n : Nat) (x : Word) (l r : List (Nat × Word)),
      (s.port p).barOpen = true ∧
      (s.port p).dtHeld = false ∧
      (s.port p).dt.nq.held = l ++ (n, x) :: r ∧
      (s.port p).dt.nq.markers = [] ∧
      (∀ e ∈ l, noticePrio x < noticePrio e.2) ∧
      (∀ e ∈ r, noticePrio x ≤ noticePrio e.2)) ∧
    (∃ (s : State) (p : PortId),
      (s.port p).barOpen = true ∧
      (s.port p).dtHeld = false ∧
      (s.port p).dt.nq.held = [] ∧
      (s.port p).dt.nq.markers = []) ∧
    (∃ (s : State) (p : PortId) (k : Nat),
      (s.port p).barOpen = true ∧
      k ≠ 8) ∧
    (∃ (s : State) (p : PortId),
      (s.port p).barOpen = true ∧
      (s.port p).dtHeld = true) ∧
    (∃ (s : State) (p : PortId) (v : Word),
      (s.port p).barOpen = true ∧
      (s.port p).dt.rec_ = true ∧
      v.getLsbD 0 = true ∧
      (List.range 16).all (s.winOk (s.frameOfPort p) (s.port p).dt) = true) ∧
    (∃ (s : State) (p : PortId) (v : Word),
      (s.port p).barOpen = true ∧
      (s.port p).dt.rec_ = true ∧
      v.getLsbD 0 = true ∧
      (List.range 16).all (s.winOk (s.frameOfPort p) (s.port p).dt) = false) ∧
    (∃ (s : State) (p : PortId) (v : Word),
      ((s.port p).dt.rec_ = false ∨ v.getLsbD 0 = false)) ∧
    (∃ (s : State) (p : PortId) (k : Nat) (w : DtWin),
      k < 16 ∧
      w = Tab.get (s.port p).dt.shadow {} k ∧
      w.map.getLsbD 63 = true ∧
      s.winOk (s.frameOfPort p) (s.port p).dt k = true) ∧
    (∃ (s : State) (p : PortId) (k : Nat),
      (s.port p).dtUp = true ∧
      (s.port p).dt.rec_ = true ∧
      (s.port p).dt.mse = false ∧
      k ≤ 10) ∧
    (∃ (s : State) (p : PortId) (k : Nat),
      ((s.port p).dtUp = false ∨ (s.port p).dt.rec_ = false ∨ (s.port p).dt.mse = true ∨ 10 < k)) ∧
    (∃ (s : State) (p : PortId) (x : Tlp) (w : DtWin) (pa agent pkg : Nat),
      (s.port p).barOpen = true ∧
      (s.port p).dt.rec_ = true ∧
      (s.frame (s.frameOfPort p)).halted = false ∧
      x.ep = false ∧
      (tlpOk x = true ∧ x.form = 0) ∧
      (s.port p).dt.window x.addr x.len = some w ∧
      pa = w.base + (x.addr - w.off) ∧
      0 < x.len ∧
      (s.port p).inb = [] ∧
      (s.port p).inbQ = [] ∧
      (x.kind = .read ∨ w.map.getLsbD 62 = true) ∧
      s.target (s.frameOfPort p) (pa / 64 * 64) = some (agent, pkg)) ∧
    (∃ (s : State) (p : PortId) (o n : Nat) (w : DtWin),
      (s.port p).dt.window o n = some w) ∧
    (∃ (s : State) (p : PortId) (x : Tlp),
      (s.port p).barOpen = true ∧
      (s.port p).dt.rec_ = true ∧
      (s.frame (s.frameOfPort p)).halted = false ∧
      x.ep = false ∧
      (tlpOk x = true ∧ x.form = 0) ∧
      x.kind ≠ .write ∧
      (s.port p).dt.window x.addr x.len = none) ∧
    (∃ (s : State) (p : PortId) (x : Tlp) (w : DtWin),
      (s.port p).barOpen = true ∧
      (s.port p).dt.rec_ = true ∧
      (s.frame (s.frameOfPort p)).halted = false ∧
      x.ep = false ∧
      (tlpOk x = true ∧ x.form = 0) ∧
      x.kind = .write ∧
      ((s.port p).dt.window x.addr x.len = none ∨ (s.port p).dt.window x.addr x.len = some w ∧ w.map.getLsbD 62 = false)) ∧
    (∃ (s : State) (p : PortId) (x : Tlp) (w : DtWin) (a : AmoOp),
      (s.port p).barOpen = true ∧
      (s.port p).dt.rec_ = true ∧
      (s.frame (s.frameOfPort p)).halted = false ∧
      x.ep = false ∧
      (tlpOk x = true ∧ x.form = 0) ∧
      x.kind = .atomic a ∧
      ((s.port p).dt.window x.addr x.len = some w ∧ w.map.getLsbD 62 = false)) ∧
    (∃ (s : State) (p : PortId) (x : Tlp),
      (s.port p).barOpen = true ∧
      (s.port p).dt.rec_ = true ∧
      (s.frame (s.frameOfPort p)).halted = true ∧
      x.kind ≠ .write) ∧
    (∃ (s : State) (p : PortId) (x : Tlp),
      (s.port p).dt.rec_ = false) ∧
    (∃ (s : State) (p : PortId) (o : BitVec 24) (v : Word),
      (s.port p).barOpen = true ∧
      (s.port p).dtHeld = false ∧
      o ∈ ([0x00, 0x10, 0x20, 0x28, 0x38, 0x40, 0x48, 0x50, 0x60, 0x68, 0x200, 0x2F8, 0x1800, 0xFFFFF8] : List (BitVec 24))) ∧
    (∃ (s : State) (p : PortId) (v : Word),
      (s.port p).barOpen = true) ∧
    (∃ (s : State) (p : PortId) (k : Fin 16) (o : BitVec 24) (v : Word),
      (s.port p).barOpen = true ∧
      (s.port p).dt.rec_ = true ∧
      (o.toNat = 0x100 + 16 * k.val ∨ o.toNat = 0x108 + 16 * k.val)) ∧
    (∃ (s : State) (p : PortId) (v : Word),
      (s.port p).barOpen = true ∧
      (s.port p).dtHeld = false) ∧
    (∃ (s : State) (p : PortId) (k : Fin 8) (o : BitVec 24) (v : Word),
      (s.port p).barOpen = true ∧
      (s.port p).dtHeld = false ∧
      o.toNat = 0x1000 + 8 * k.val ∧
      (s.port p).dt.pba = 0) ∧
    (∃ (s : State) (p : PortId) (off : BitVec 24) (n : Nat) (v : Word),
      (s.port p).barOpen = true ∧
      (n ≠ 4 ∧ n ≠ 8 ∨ off.toNat % n ≠ 0)) ∧
    (∃ (s : State) (p : PortId) (v : BitVec 32),
      (s.port p).dtUp = true ∧
      (s.port p).dt.pba = 0 ∧
      (s.port p).dt.replies = []) ∧
    (∃ (s : State) (p : PortId) (v : BitVec 32),
      (s.port p).dtUp = true ∧
      (s.port p).dt.pba = 1 ∧
      (s.port p).dt.replies = [] ∧
      v.getLsbD 2 = true ∧
      ((s.port p).dt.msixOn = true ∧ (s.port p).dt.msixMask = false) ∧
      (Tab.get (s.port p).dt.msix 0x100000000 1).getLsbD 32 = false) ∧
    (∃ (s : State) (p : PortId) (v : BitVec 32),
      (s.port p).dtUp = true) ∧
    (∃ (s : State) (p : PortId) (v : BitVec 32),
      (s.port p).dtUp = true ∧
      (s.port p).dt.rec_ = true) ∧
    (∃ (s : State) (p : PortId) (v : BitVec 32),
      (s.port p).dtUp = true) ∧
    (∃ (s : State) (p : PortId) (v : BitVec 32),
      (s.port p).dtUp = true) ∧
    (∃ (s : State) (p : PortId) (v : BitVec 32),
      (s.port p).dtUp = true ∧
      (s.port p).dt.pba = 0) ∧
    (∃ (s : State) (p : PortId) (v : BitVec 32),
      (s.port p).dtUp = true ∧
      v.getLsbD 15 = false) ∧
    (∃ (s : State) (p : PortId) (v : BitVec 32),
      (s.port p).dtUp = true ∧
      v.getLsbD 15 = true) ∧
    (∃ (s : State) (p : PortId) (v : BitVec 32) (k : Nat),
      (s.port p).dtUp = true ∧
      (s.port p).dt.rec_ = true ∧
      (s.port p).dt.mse = false ∧
      (v.toNat / 256 % 64 = 10 + k ∧ k ≤ 10)) ∧
    (∃ (s : State) (p : PortId) (v : BitVec 32),
      (s.port p).dtUp = true) ∧
    (∃ (s : State) (p : PortId) (r : Nat) (v : BitVec 32),
      (s.port p).dtUp = true ∧
      (r % 4 = 0 ∧ dtMask r = 0) ∧
      r ∉ [0x10, 0x14, 0x18, 0x1C, 0x68, 0x104, 0x348]) ∧
    (∃ (s : State) (p : PortId) (r : Nat) (v : BitVec 32),
      ((s.port p).dtUp = false ∨ r % 4 ≠ 0 ∨ (r = 0x18 ∨ r = 0x1C) ∧ (s.port p).dt.rec_ = false)) ∧
    (∃ (s : State) (d : Dovetail),
      d.cfg_ = []) :=
  ⟨⟨base.setPort 2 { pers := 3, lanes := 16, inReset := false, dt := { link := 2, mse := true } }, 2, 0x113, by decide +kernel⟩,
    ⟨base.setPort 2 { pers := 3, lanes := 16, inReset := false, dt := { link := 2, mse := true } }, 2, 0x113, by decide +kernel⟩,
    ⟨base, { bme := true, cfg_ := [(0xB0, 0x80000000)], msix := [(2, 0x5000), (3, 77)] }, 1, 77, by decide +kernel⟩,
    ⟨base.setPort 2 { pers := 3, lanes := 16, inReset := false, dt := { link := 2, mse := true, bme := true, cfg := 2, rplTail := 15, replies := [[1#8]] } }, 2, 4, [1#8], by decide +kernel⟩,
    ⟨base.setPort 2 { pers := 3, lanes := 16, inReset := false, dt := { link := 2, mse := true }, inb := [(0, { root := 9, posted := true, wr := true, kind := .write })] }, 2, 0x113, by decide +kernel⟩,
    ⟨base, 2, 8, 7, {}, 0x50, 8, by decide +kernel⟩,
    ⟨base.setPort 2 { pers := 3, lanes := 16, inReset := false, dt := { link := 2, mse := true, cmdBase := 0x2000, cmdHead := 3 } }, 2, 0x8503, by decide +kernel⟩,
    ⟨base.setPort 2 { pers := 3, lanes := 16, inReset := false, dt := { link := 2, mse := true, cmdBase := 0x2000, cmdHead := 3 } }, 2, 0x8501, by decide +kernel⟩,
    ⟨base.setPort 2 { pers := 3, lanes := 16, inReset := false, dt := { link := 2, mse := true, cfg := 0x5703, cmdBase := 0x2000, cmdHead := 3 } }, 2, 0x8503, by decide +kernel⟩,
    ⟨{ (base.setPort 2 { pers := 3, lanes := 16, inReset := false, dt := { link := 2, mse := true, cfg := 0x5703, replies := [[1#8]] } }) with plumb := { base.plumb with jobs := [{ t := { kind := .dovetail, inst := 2 }, opcode := 0x22, pkt := {}, running := true }] } }, 2, 0x8501, by decide +kernel⟩,
    ⟨base.setPort 2 { pers := 3, lanes := 16, inReset := false, dt := { link := 2, mse := true, cfg := 0x5703 } }, 2, 0x9503, by decide +kernel⟩,
    ⟨base.setPort 2 { pers := 3, lanes := 16, inReset := false, dt := { link := 2, mse := true, nq := { held := [(1, 2 ^ 55), (3, 7), (4, 9)] } } }, 2, 3, 7, [(1, 2 ^ 55)], [(4, 9)], by decide +kernel⟩,
    ⟨base.setPort 2 { pers := 3, lanes := 16, inReset := false, dt := { link := 2, mse := true } }, 2, by decide +kernel⟩,
    ⟨base.setPort 2 { pers := 3, lanes := 16, inReset := false, dt := { link := 2, mse := true }, inb := [(0, { root := 9, posted := true, wr := true, kind := .write })] }, 2, 4, by decide +kernel⟩,
    ⟨base.setPort 2 { pers := 3, lanes := 16, inReset := false, dt := { link := 2, mse := true }, inb := [(0, { root := 9, posted := true, wr := true, kind := .write })] }, 2, by decide +kernel⟩,
    ⟨base.setPort 2 { pers := 3, lanes := 16, inReset := false, dt := { link := 2, mse := true, rec_ := true, shadow := [(3, { map := 0xC000010000000000, tgt := 0x40000000 })] } }, 2, 1, by decide +kernel⟩,
    ⟨base.setPort 2 { pers := 3, lanes := 16, inReset := false, dt := { link := 2, mse := true, rec_ := true, bme := true, shadow := [(3, { map := 0xC000010000000001, tgt := 0x40000000 })] } }, 2, 1, by decide +kernel⟩,
    ⟨base.setPort 2 { pers := 3, lanes := 16, inReset := false, dt := { link := 2, mse := true } }, 2, 1, by decide +kernel⟩,
    ⟨base.setPort 2 { pers := 3, lanes := 16, inReset := false, dt := { link := 2, mse := true, rec_ := true, shadow := [(3, { map := 0xC000010000000000, tgt := 0x40000000 })] } }, 2, 3, { map := 0xC000010000000000, tgt := 0x40000000 }, by decide +kernel⟩,
    ⟨base.setPort 2 { pers := 3, dt := { link := 2, rec_ := true } }, 2, 10, by decide +kernel⟩,
    ⟨base.setPort 2 { pers := 3, lanes := 16, inReset := false, dt := { link := 2, mse := true, rec_ := true } }, 2, 10, by decide +kernel⟩,
    ⟨base.setPort 2 { pers := 3, lanes := 16, inReset := false, dt := { link := 2, mse := true, rec_ := true, active := [(3, { map := 0xC000010000000000, tgt := 0x40000000 })] } }, 2, { addr := 0x1008, len := 8, tag := 5 }, { map := 0xC000010000000000, tgt := 0x40000000 }, 0x40001008, 16 + homeBay 0 0 0x40001000, 0, by decide +kernel⟩,
    ⟨base.setPort 2 { pers := 3, lanes := 16, inReset := false, dt := { link := 2, mse := true, active := [(3, { map := 0xC000010000000000, tgt := 0x40000000 })] } }, 2, 0x1008, 8, { map := 0xC000010000000000, tgt := 0x40000000 }, by decide +kernel⟩,
    ⟨base.setPort 2 { pers := 3, lanes := 16, inReset := false, dt := { link := 2, mse := true, rec_ := true } }, 2, { addr := 0x1008, len := 8, tag := 5 }, by decide +kernel⟩,
    ⟨base.setPort 2 { pers := 3, lanes := 16, inReset := false, dt := { link := 2, mse := true, rec_ := true, active := [(3, { map := 0x8000010000000000, tgt := 0x40000000 })] } }, 2, { addr := 0x1008, len := 8, kind := .write, tag := 5 }, { map := 0x8000010000000000, tgt := 0x40000000 }, by decide +kernel⟩,
    ⟨base.setPort 2 { pers := 3, lanes := 16, inReset := false, dt := { link := 2, mse := true, rec_ := true, active := [(3, { map := 0x8000010000000000, tgt := 0x40000000 })] } }, 2, { addr := 0x1008, len := 8, kind := .atomic .add, tag := 5 }, { map := 0x8000010000000000, tgt := 0x40000000 }, .add, by decide +kernel⟩,
    ⟨(base.setPort 2 { pers := 3, lanes := 16, inReset := false, dt := { link := 2, mse := true, rec_ := true } }).setFrame 0 { base.frame 0 with halted := true }, 2, { addr := 0x1008, len := 8, tag := 5 }, by decide +kernel⟩,
    ⟨base.setPort 2 { pers := 3, lanes := 16, inReset := false, dt := { link := 2, mse := true } }, 2, { addr := 0x1008, len := 8, tag := 5 }, by decide +kernel⟩,
    ⟨base.setPort 2 { pers := 3, lanes := 16, inReset := false, dt := { link := 2, mse := true, ringErr := true, unexp := true } }, 2, 0, 0x90, by decide +kernel⟩,
    ⟨base.setPort 2 { pers := 3, lanes := 16, inReset := false, dt := { link := 2, mse := true } }, 2, 0x8503, by decide +kernel⟩,
    ⟨base.setPort 2 { pers := 3, lanes := 16, inReset := false, dt := { link := 2, mse := true, rec_ := true } }, 2, 3, 0x138, 9, by decide +kernel⟩,
    ⟨base.setPort 2 { pers := 3, lanes := 16, inReset := false, dt := { link := 2, mse := true, outBase := 0x12345600000 } }, 2, 0x77, by decide +kernel⟩,
    ⟨base.setPort 2 { pers := 3, lanes := 16, inReset := false, dt := { link := 2, mse := true } }, 2, 3, 0x1018, 9, by decide +kernel⟩,
    ⟨base.setPort 2 { pers := 3, lanes := 16, inReset := false, dt := { link := 2, mse := true } }, 2, 0x54, 8, 7, by decide +kernel⟩,
    ⟨base.setPort 2 { pers := 3, lanes := 16, inReset := false, dt := { link := 2, mse := true } }, 2, 6, by decide +kernel⟩,
    ⟨base.setPort 2 { pers := 3, lanes := 16, inReset := false, dt := { link := 2, mse := true, pba := 1, cfg_ := [(0xB0, 0x80000000)], msix := [(0, 0x5000), (1, 77)] } }, 2, 6, by decide +kernel⟩,
    ⟨base.setPort 2 { pers := 3, lanes := 16, inReset := false, dt := { link := 2, mse := true } }, 2, 0x12345678, by decide +kernel⟩,
    ⟨base.setPort 2 { pers := 3, lanes := 16, inReset := false, dt := { link := 2, mse := true, rec_ := true, barGib := 3 } }, 2, 0x12345678, by decide +kernel⟩,
    ⟨base.setPort 2 { pers := 3, lanes := 16, inReset := false, dt := { link := 2, mse := true } }, 2, 0x12345, by decide +kernel⟩,
    ⟨base.setPort 2 { pers := 3, lanes := 16, inReset := false, dt := { link := 2, mse := true, aer := 0x14000 } }, 2, 0x10000, by decide +kernel⟩,
    ⟨base.setPort 2 { pers := 3, lanes := 16, inReset := false, dt := { link := 2, mse := true } }, 2, 0x80000001, by decide +kernel⟩,
    ⟨base.setPort 2 { pers := 3, lanes := 16, inReset := false, dt := { link := 2, mse := true } }, 2, 0x2810, by decide +kernel⟩,
    ⟨base.setPort 2 { pers := 3, lanes := 16, inReset := false, dt := { link := 2, mse := true, cfg := 0x4403 } }, 2, 0x8000, by decide +kernel⟩,
    ⟨base.setPort 2 { pers := 3, lanes := 16, inReset := false, dt := { link := 2, mse := false, rec_ := true } }, 2, 0xC22, 2, by decide +kernel⟩,
    ⟨base.setPort 2 { pers := 3, lanes := 16, inReset := false, dt := { link := 2, mse := true } }, 2, 0xFFFF0003, by decide +kernel⟩,
    ⟨base.setPort 2 { pers := 3, lanes := 16, inReset := false, dt := { link := 2, mse := true } }, 2, 0x2C, 7, by decide +kernel⟩,
    ⟨base.setPort 2 { pers := 3, lanes := 16, inReset := false, dt := { link := 2, mse := true } }, 2, 0x18, 7, by decide +kernel⟩,
    ⟨base, { rec_ := true }, by decide +kernel⟩⟩

/-- States and operands that meet the hypotheses of DovetailResets. -/
theorem witness_DovetailResets :
    (∃ (s : State) (p : PortId),
      (s.port p).pers = 3 ∧
      (s.port p).inReset = false ∧
      2 ≤ (s.port p).dt.link ∧
      s.quietFrame (s.frameOfPort p) none ∧
      (s.port p).dt.out = []) ∧
    (∃ (s : State) (p : PortId),
      (s.port p).pers = 3 ∧
      (s.port p).inReset = false ∧
      (s.port p).dt.link < 2 ∧
      s.quietFrame (s.frameOfPort p) none ∧
      (s.port p).dt.out = []) ∧
    (∃ (s : State) (p : PortId),
      (s.port p).pers = 3 ∧
      2 ≤ (s.port p).dt.link ∧
      s.quietFrame (s.frameOfPort p) none ∧
      (s.port p).dt.out = []) ∧
    (∃ (s : State) (p : PortId),
      (s.port p).pers = 3 ∧
      2 ≤ (s.port p).dt.link ∧
      s.quietFrame (s.frameOfPort p) none ∧
      (s.port p).dt.out = []) ∧
    (∃ (s : State) (p : PortId) (tag : Nat) (q : OutReq),
      (s.port p).pers = 3 ∧
      (s.port p).inReset = false ∧
      2 ≤ (s.port p).dt.link ∧
      s.quietFrame (s.frameOfPort p) none ∧
      (s.port p).dt.out = [(tag, q)] ∧
      q.core = 384) ∧
    (∃ (s : State) (p : PortId),
      ((s.port p).pers ≠ 3 ∨ (s.port p).inReset = true)) ∧
    (∃ (s : State) (p : PortId),
      (s.port p).dtUp = false) :=
  ⟨⟨base.setPort 2 { pers := 3, lanes := 16, inReset := false, dt := { link := 2, mse := true, cfg := 0x4403, cmdBase := 0x2000, replies := [[1#8]], bme := true, nq := { held := [(1, 7)] }, nqLevel := 9 }, inb := [(0, {}), (1, { posted := true })] }, 2, by decide +kernel⟩,
    ⟨base.setPort 2 { pers := 3, lanes := 16, inReset := false, dt := { link := 1, mse := true, cfg := 0x4403, cmdBase := 0x2000, replies := [[1#8]], bme := true, nq := { held := [(1, 7)] }, nqLevel := 9 }, inb := [(0, {}), (1, { posted := true })] }, 2, by decide +kernel⟩,
    ⟨base.setPort 2 { pers := 3, lanes := 16, inReset := false, dt := { link := 2, mse := true, cfg := 0x4403, cmdBase := 0x2000, replies := [[1#8]], bme := true, nq := { held := [(1, 7)] }, nqLevel := 9 }, inb := [(0, {}), (1, { posted := true })] }, 2, by decide +kernel⟩,
    ⟨base.setPort 2 { pers := 3, lanes := 16, inReset := false, dt := { link := 2, mse := true, cfg := 0x4403, cmdBase := 0x2000, replies := [[1#8]], bme := true, nq := { held := [(1, 7)] }, nqLevel := 9 }, inb := [(0, {}), (1, { posted := true })] }, 2, by decide +kernel⟩,
    ⟨base.setPort 2 { pers := 3, lanes := 16, inReset := false, dt := { link := 2, mse := true, out := [(9, { core := 384, slot := 5, op := 3, addr := 8, len := 4 })] } }, 2, 9, { core := 384, slot := 5, op := 3, addr := 8, len := 4 }, by decide +kernel⟩,
    ⟨base, 2, by decide +kernel⟩,
    ⟨base, 2, by decide +kernel⟩⟩

/-- States and operands that meet the hypotheses of PlumbAnswers. -/
theorem witness_PlumbAnswers :
    (∃ (s : State) (x : TInst) (p : CmdPkt),
      s.takes x 0x01 p) ∧
    (∃ (s : State) (x : TInst) (p : CmdPkt),
      s.takes x 0x02 p ∧
      p.byte 0 ≠ p.tag.toNat ∧
      s.plumb.jobs.find? (fun k => k.t == x && !k.lost && k.pkt.tag.toNat == p.byte 0) = none ∧
      s.plumb.dead.find? (fun e => e.t == x && e.tag == p.byte 0) = none) ∧
    (∃ (s : State) (x : TInst) (p : CmdPkt) (k : Job),
      s.takes x 0x02 p ∧
      p.byte 0 ≠ p.tag.toNat ∧
      s.plumb.jobs.find? (fun k => k.t == x && !k.lost && k.pkt.tag.toNat == p.byte 0) = some k ∧
      k.running = false) ∧
    (∃ (s : State) (x : TInst) (p : CmdPkt) (k : Job),
      s.takes x 0x02 p ∧
      p.byte 0 ≠ p.tag.toNat ∧
      s.plumb.jobs.find? (fun k => k.t == x && !k.lost && k.pkt.tag.toNat == p.byte 0) = some k ∧
      k.running = true) ∧
    (∃ (s : State) (x : TInst) (p : CmdPkt) (d : Dead),
      s.takes x 0x02 p ∧
      p.byte 0 ≠ p.tag.toNat ∧
      s.plumb.jobs.find? (fun k => k.t == x && !k.lost && k.pkt.tag.toNat == p.byte 0) = none ∧
      s.plumb.dead.find? (fun e => e.t == x && e.tag == p.byte 0) = some d) ∧
    (∃ (s : State) (x : TInst) (p : CmdPkt),
      s.takes x 0x03 p ∧
      p.byte 0 ≠ p.tag.toNat ∧
      s.plumb.jobs.find? (fun k => k.t == x && !k.lost && k.pkt.tag.toNat == p.byte 0) = none) ∧
    (∃ (s : State) (x : TInst) (p : CmdPkt) (k : Job),
      s.takes x 0x03 p ∧
      p.byte 0 ≠ p.tag.toNat ∧
      s.plumb.jobs.find? (fun k => k.t == x && !k.lost && k.pkt.tag.toNat == p.byte 0) = some k ∧
      k.running = true ∧
      opAborts k.opcode = false) ∧
    (∃ (s : State) (x : TInst) (p : CmdPkt) (k : Job),
      s.takes x 0x03 p ∧
      p.byte 0 ≠ p.tag.toNat ∧
      s.plumb.jobs.find? (fun k => k.t == x && !k.lost && k.pkt.tag.toNat == p.byte 0) = some k ∧
      k.running = true ∧
      k.opcode = 0x43 ∧
      s.workDone (s.workBays k) = true) ∧
    (∃ (s : State) (x : TInst) (p : CmdPkt) (k : Job),
      s.takes x 0x03 p ∧
      x.kind = .mctp ∧
      p.byte 0 ≠ p.tag.toNat ∧
      s.plumb.jobs = [k] ∧
      (k.t = x ∧ k.lost = false ∧ k.pkt.tag.toNat = p.byte 0) ∧
      k.running = false ∧
      k.opcode ≠ 0x42) ∧
    (∃ (s : State) (x : TInst) (p : CmdPkt) (k : Job),
      s.takes x 0x03 p ∧
      x.kind = .mctp ∧
      p.byte 0 ≠ p.tag.toNat ∧
      s.plumb.jobs = [k] ∧
      (k.t = x ∧ k.lost = false ∧ k.pkt.tag.toNat = p.byte 0) ∧
      k.running = true ∧
      k.opcode = 0x70) ∧
    (∃ (s : State) (x : TInst) (p : CmdPkt),
      s.takes x 0x04 p) ∧
    (∃ (s : State) (x : TInst) (p : CmdPkt),
      s.takes x 0x11 p) ∧
    (∃ (s : State) (x : TInst) (p : CmdPkt),
      s.takes x 0x21 p) ∧
    (∃ (s : State) (x : TInst) (p : CmdPkt),
      s.takes x 0x25 p ∧
      p.byte 0 < 12 ∧
      s.inScope x (s.frameOfStud (p.byte 0)) = true) ∧
    (∃ (s : State) (x : TInst) (p : CmdPkt) (n : Nat),
      s.takes x 0x25 p ∧
      p.byte 0 = 0xFF ∧
      (n < 12 ∧ (∀ k, k < 12 → (s.stud k).sense.tj ≤ (s.stud n).sense.tj))) ∧
    (∃ (s : State) (x : TInst) (p : CmdPkt),
      s.takes x 0x25 p ∧
      (12 ≤ p.byte 0 ∧ p.byte 0 < 0xFF)) ∧
    (∃ (s : State) (x : TInst) (p : CmdPkt),
      s.takes x 0x33 p ∧
      p.rsvdZero ([1, 2, 3, 10, 11]) ∧
      p.byte 0 = 1 ∧
      (1 ≤ p.le 8 2 ∧ p.le 8 2 ≤ 127)) ∧
    (∃ (s : State) (x : TInst) (p : CmdPkt),
      s.takes x 0x33 p ∧
      p.rsvdZero ([1, 2, 3, 10, 11]) ∧
      p.byte 0 = 0 ∧
      (1 ≤ p.le 8 2 ∧ p.le 8 2 ≤ 127)) ∧
    (∃ (s : State) (x : TInst) (p : CmdPkt),
      s.takes x 0x33 p ∧
      p.rsvdZero ([1, 2, 3, 10, 11]) ∧
      p.byte 0 = 2 ∧
      (1 ≤ p.le 8 2 ∧ p.le 8 2 ≤ 127)) ∧
    (∃ (s : State) (x : TInst) (p : CmdPkt),
      s.takes x 0x33 p ∧
      p.rsvdZero ([1, 2, 3, 10, 11]) ∧
      p.byte 0 ≤ 2 ∧
      (p.le 8 2 = 0 ∨ 127 < p.le 8 2)) ∧
    (∃ (s : State) (x : TInst) (p : CmdPkt) (k i : Nat),
      s.takes x 0x52 p ∧
      p.rsvdZero ([10, 11]) ∧
      recOfId (p.le 0 4) = some (k, i) ∧
      s.recInScope x k i = true ∧
      (p.le 4 4 % 8 = 0 ∧ 8 ≤ p.le 8 2 ∧ p.le 8 2 ≤ 4096 ∧ p.le 8 2 % 8 = 0 ∧ p.le 4 4 + p.le 8 2 ≤ recSize k)) ∧
    (∃ (s : State) (x : TInst) (p : CmdPkt),
      s.takes x 0x52 p ∧
      p.rsvdZero ([10, 11]) ∧
      recOfId (p.le 0 4) = none) ∧
    (∃ (s : State) (x : TInst) (p : CmdPkt) (k i : Nat),
      s.takes x 0x52 p ∧
      p.rsvdZero ([10, 11]) ∧
      recOfId (p.le 0 4) = some (k, i) ∧
      s.recInScope x k i = false) ∧
    (∃ (s : State) (x : TInst) (p : CmdPkt),
      s.takes x 0x60 p ∧
      p.rsvdZero (offs 2 8) ∧
      p.byte 0 = 0 ∧
      p.byte 1 < 12 ∧
      s.inScope x (s.frameOfStud (p.byte 1)) = true) ∧
    (∃ (s : State) (x : TInst) (p : CmdPkt),
      s.takes x 0x60 p ∧
      p.rsvdZero (offs 2 8) ∧
      p.byte 0 = 1 ∧
      p.byte 1 < 8 ∧
      s.inScope x (s.frameOfPort (p.byte 1)) = true) ∧
    (∃ (s : State) (x : TInst) (p : CmdPkt),
      s.takes x 0x60 p ∧
      p.rsvdZero (offs 2 8) ∧
      p.byte 0 ≤ 1 ∧
      (if p.byte 0 = 0 then 12 else 8) ≤ p.byte 1) ∧
    (∃ (s : State) (x : TInst) (p : CmdPkt),
      s.takes x 0x61 p ∧
      p.rsvdZero (offs 2 8) ∧
      p.byte 0 = 0 ∧
      p.byte 1 < 12 ∧
      s.inScope x (s.frameOfStud (p.byte 1)) = true) ∧
    (∃ (s : State) (x : TInst) (p : CmdPkt),
      s.takes x 0x61 p ∧
      p.rsvdZero (offs 1 8) ∧
      p.byte 0 = 1) ∧
    (∃ (s : State) (x : TInst) (p : CmdPkt),
      s.takes x 0x64 p ∧
      p.rsvdZero (offs 4 16) ∧
      p.byte 1 < frameCount s.mode ∧
      s.inScope x (p.byte 1) = true ∧
      (s.frame (p.byte 1)).node = true ∧
      p.byte 0 = 2 ∧
      p.le 2 2 < 4096) ∧
    (∃ (s : State) (x : TInst) (p : CmdPkt),
      s.takes x 0x61 p ∧
      2 < p.byte 0) ∧
    (∃ (s : State) (x : TInst) (p : CmdPkt),
      (p.byte 0 ≠ 0 ∧ p.byte 0 ≤ 2)) ∧
    (∃ (s : State) (x : TInst) (p : CmdPkt),
      p.byte 0 ≠ 1) ∧
    (∃ (s : State) (x : TInst) (p : CmdPkt),
      p.byte 0 ≠ 2) ∧
    (∃ (s : State) (x : TInst) (p : CmdPkt),
      s.takes x 0x64 p ∧
      3 < p.byte 0 ∧
      p.byte 1 < frameCount s.mode ∧
      s.inScope x (p.byte 1) = true ∧
      (s.frame (p.byte 1)).node = true) ∧
    (∃ (s : State) (x : TInst) (p : CmdPkt),
      (p.byte 0 ≠ 0 ∧ p.byte 0 ≤ 3)) ∧
    (∃ (s : State) (x : TInst) (p : CmdPkt),
      p.byte 0 ≠ 1) ∧
    (∃ (s : State) (x : TInst) (p : CmdPkt),
      p.byte 0 ≠ 2) ∧
    (∃ (s : State) (x : TInst) (p : CmdPkt),
      p.byte 0 ≠ 3) :=
  ⟨⟨mb, {}, pk 0x01 [], by decide +kernel⟩,
    ⟨mb, {}, pk 0x02 [9], by decide +kernel⟩,
    ⟨{ mb with plumb := { mb.plumb with jobs := [{ opcode := 0x22, pkt := { tag := 9 } }] } }, {}, pk 0x02 [9], { opcode := 0x22, pkt := { tag := 9 } }, by decide +kernel⟩,
    ⟨{ mb with plumb := { mb.plumb with jobs := [{ opcode := 0x22, pkt := { tag := 9 }, running := true }] } }, {}, pk 0x02 [9], { opcode := 0x22, pkt := { tag := 9 }, running := true }, by decide +kernel⟩,
    ⟨{ mb with plumb := { mb.plumb with dead := [{ opcode := 0x22, tag := 9 }] } }, {}, pk 0x02 [9], { opcode := 0x22, tag := 9 }, by decide +kernel⟩,
    ⟨mb, {}, pk 0x03 [9], by decide +kernel⟩,
    ⟨{ mb with plumb := { mb.plumb with jobs := [{ opcode := 0x22, pkt := { tag := 9 }, running := true }] } }, {}, pk 0x03 [9], { opcode := 0x22, pkt := { tag := 9 }, running := true }, by decide +kernel⟩,
    ⟨{ mb with plumb := { mb.plumb with jobs := [{ opcode := 0x43, pkt := { pk 0x43 (List.replicate 24 0) with tag := 9 }, running := true }] } }, {}, pk 0x03 [9], { opcode := 0x43, pkt := { pk 0x43 (List.replicate 24 0) with tag := 9 }, running := true }, by decide +kernel⟩,
    ⟨{ mb with plumb := { mb.plumb with jobs := [{ opcode := 0x22, pkt := { tag := 9 } }] } }, {}, pk 0x03 [9], { opcode := 0x22, pkt := { tag := 9 } }, by decide +kernel⟩,
    ⟨{ mb with plumb := { mb.plumb with jobs := [{ opcode := 0x70, pkt := { tag := 9 }, running := true }], fwOwner := some {} } }, {}, pk 0x03 [9], { opcode := 0x70, pkt := { tag := 9 }, running := true }, by decide +kernel⟩,
    ⟨mb, {}, pk 0x04 [1, 2, 3], by decide +kernel⟩,
    ⟨mb, {}, pk 0x11 [], by decide +kernel⟩,
    ⟨mb, {}, pk 0x21 [], by decide +kernel⟩,
    ⟨mb.setStud 3 { mb.stud 3 with model := { fitted := true, tau1 := 7 } }, {}, pk 0x25 [3], by decide +kernel⟩,
    ⟨mb.setStud 3 { mb.stud 3 with sense := { tj := 9000 } }, {}, pk 0x25 [255], 3, by decide +kernel⟩,
    ⟨mb, {}, pk 0x25 [12], by decide +kernel⟩,
    ⟨mb, {}, pk 0x33 [1, 0, 0, 0, 0, 0, 0, 0, 5, 0, 0, 0], by decide +kernel⟩,
    ⟨mb, {}, pk 0x33 [0, 0, 0, 0, 0, 0, 0, 0, 5, 0, 0, 0], by decide +kernel⟩,
    ⟨mb, {}, pk 0x33 [2, 0, 0, 0, 0, 0, 0, 0, 5, 0, 0, 0], by decide +kernel⟩,
    ⟨mb, {}, pk 0x33 [2, 0, 0, 0, 0, 0, 0, 0, 128, 0, 0, 0], by decide +kernel⟩,
    ⟨mb, {}, pk 0x52 [0, 0, 0, 64, 8, 0, 0, 0, 64, 0, 0, 0], 0x40, 0, by decide +kernel⟩,
    ⟨mb, {}, pk 0x52 [1, 0, 0, 64, 8, 0, 0, 0, 64, 0, 0, 0], by decide +kernel⟩,
    ⟨let s : State := { mb with plumb := { mb.plumb with active := 8 }, frames := (List.range 4).map (fun f => (f, { mb.frame 0 with booted := true })) }; ringed s, { kind := .ring, inst := 0 }, pk 0x52 [0, 0, 11, 32, 0, 0, 0, 0, 64, 0, 0, 0], 0x20, 11, by decide +kernel⟩,
    ⟨mb, {}, pk 0x60 [0, 4, 0, 0, 0, 0, 0, 0], by decide +kernel⟩,
    ⟨mb, {}, pk 0x60 [1, 4, 0, 0, 0, 0, 0, 0], by decide +kernel⟩,
    ⟨mb, {}, pk 0x60 [1, 8, 0, 0, 0, 0, 0, 0], by decide +kernel⟩,
    ⟨mb, {}, pk 0x61 [0, 4, 0, 0, 0, 0, 0, 0], by decide +kernel⟩,
    ⟨mb, {}, pk 0x61 [1, 0, 0, 0, 0, 0, 0, 0], by decide +kernel⟩,
    ⟨mb.setFrame 0 { mb.frame 0 with node := true, nodeId := 3, exports := [(24, 7)] }, {}, pk 0x64 [2, 0, 24, 0, 0, 0, 0, 0, 0, 0, 0, 0, 0, 0, 0, 0], by decide +kernel⟩,
    ⟨mb, {}, pk 0x61 [3, 0, 0, 0, 0, 0, 0, 0], by decide +kernel⟩,
    ⟨mb, {}, pk 0x61 [1, 0, 0, 0, 0, 0, 0, 0], by decide +kernel⟩,
    ⟨mb, {}, pk 0x61 [7, 0, 0, 0, 0, 0, 0, 0], by decide +kernel⟩,
    ⟨mb, {}, pk 0x61 [7, 0, 0, 0, 0, 0, 0, 0], by decide +kernel⟩,
    ⟨mb.setFrame 0 { mb.frame 0 with node := true, nodeId := 3, exports := [(24, 7)] }, {}, pk 0x64 [4, 0, 0, 0, 0, 0, 0, 0, 0, 0, 0, 0, 0, 0, 0, 0], by decide +kernel⟩,
    ⟨mb, {}, pk 0x64 [1, 0, 0, 0, 0, 0, 0, 0, 0, 0, 0, 0, 0, 0, 0, 0], by decide +kernel⟩,
    ⟨mb, {}, pk 0x64 [7, 0, 0, 0, 0, 0, 0, 0, 0, 0, 0, 0, 0, 0, 0, 0], by decide +kernel⟩,
    ⟨mb, {}, pk 0x64 [7, 0, 0, 0, 0, 0, 0, 0, 0, 0, 0, 0, 0, 0, 0, 0], by decide +kernel⟩,
    ⟨mb, {}, pk 0x64 [7, 0, 0, 0, 0, 0, 0, 0, 0, 0, 0, 0, 0, 0, 0, 0], by decide +kernel⟩⟩

/-- States and operands that meet the hypotheses of PlumbSettings. -/
theorem witness_PlumbSettings :
    (∃ (s : State) (x : TInst) (p : CmdPkt),
      s.takes x 0x20 p ∧
      p.rsvdZero ([2, 3, 6, 7]) ∧
      s.scopeOf x = none ∧
      p.byte 0 = 0 ∧
      p.byte 1 = 0 ∧
      (400 ≤ p.le 4 2 ∧ p.le 4 2 ≤ 800)) ∧
    (∃ (s : State) (x : TInst) (p : CmdPkt),
      s.takes x 0x20 p ∧
      p.rsvdZero ([2, 3, 6, 7]) ∧
      p.byte 0 = 1 ∧
      (p.byte 1 < frameCount s.mode ∧ s.inScope x (p.byte 1) = true) ∧
      (p.le 4 2 = 0 ∨ 100 ≤ p.le 4 2 ∧ p.le 4 2 ≤ 800)) ∧
    (∃ (s : State) (x : TInst) (p : CmdPkt),
      s.takes x 0x20 p ∧
      p.rsvdZero ([2, 3, 6, 7]) ∧
      s.scopeOf x = none ∧
      p.byte 0 = 0 ∧
      p.byte 1 = 0 ∧
      (p.le 4 2 < 400 ∨ 800 < p.le 4 2)) ∧
    (∃ (s : State) (x : TInst) (p : CmdPkt),
      s.takes x 0x20 p ∧
      s.scopeOf x ≠ none ∧
      p.byte 0 = 0) ∧
    (∃ (s : State) (x : TInst) (p : CmdPkt),
      s.takes x 0x20 p ∧
      p.byte 0 = 1 ∧
      s.inScope x (p.byte 1) = false) ∧
    (∃ (s : State) (x : TInst) (p : CmdPkt),
      s.takes x 0x23 p ∧
      (p.byte 0 < 12 ∧ s.inScope x (s.frameOfStud (p.byte 0)) = false)) ∧
    (∃ (s : State) (x : TInst) (p : CmdPkt),
      (s.canReach x = true ∧ s.takeCheck x 0x24 p = none ∧ (s.newJob x 0x24 p).behind s.plumb.jobs = false) ∧
      s.plumb.recovery = false ∧
      s.scopeOf x ≠ none ∧
      (∀ k ∈ s.plumb.jobs, k.no < s.nextNo)) ∧
    (∃ (s : State) (x : TInst) (p : CmdPkt),
      (s.canReach x = true ∧ s.takeCheck x 0x50 p = none ∧ (s.newJob x 0x50 p).behind s.plumb.jobs = false) ∧
      s.plumb.recovery = false ∧
      s.scopeOf x ≠ none ∧
      (∀ k ∈ s.plumb.jobs, k.no < s.nextNo)) ∧
    (∃ (s : State) (x : TInst) (p : CmdPkt),
      (s.canReach x = true ∧ s.takeCheck x 0x51 p = none ∧ (s.newJob x 0x51 p).behind s.plumb.jobs = false) ∧
      s.plumb.recovery = false ∧
      s.scopeOf x ≠ none ∧
      (∀ k ∈ s.plumb.jobs, k.no < s.nextNo)) ∧
    (∃ (s : State) (x : TInst) (p : CmdPkt),
      (s.canReach x = true ∧ s.takeCheck x 0x53 p = none ∧ (s.newJob x 0x53 p).behind s.plumb.jobs = false) ∧
      s.plumb.recovery = false ∧
      s.scopeOf x ≠ none ∧
      (∀ k ∈ s.plumb.jobs, k.no < s.nextNo)) ∧
    (∃ (s : State) (x : TInst) (p : CmdPkt),
      (s.canReach x = true ∧ s.takeCheck x 0x54 p = none ∧ (s.newJob x 0x54 p).behind s.plumb.jobs = false) ∧
      s.plumb.recovery = false ∧
      s.scopeOf x ≠ none ∧
      (∀ k ∈ s.plumb.jobs, k.no < s.nextNo)) ∧
    (∃ (s : State) (x : TInst) (p : CmdPkt),
      s.takes x 0x23 p ∧
      p.rsvdZero (offs 4 8) ∧
      (p.byte 0 < 12 ∧ s.inScope x (s.frameOfStud (p.byte 0)) = true) ∧
      p.byte 1 ≤ 3 ∧
      ((if p.byte 1 = 3 then 800 ≤ p.le 2 2 ∧ p.le 2 2 ≤ 3600 ∧ p.le 2 2 % 100 = 0 else p.le 2 2 = 0))) ∧
    (∃ (s : State) (x : TInst) (p : CmdPkt),
      s.takes x 0x23 p ∧
      p.rsvdZero (offs 4 8) ∧
      p.byte 0 = 0xFF ∧
      p.byte 1 ≤ 3 ∧
      ((if p.byte 1 = 3 then 800 ≤ p.le 2 2 ∧ p.le 2 2 ≤ 3600 ∧ p.le 2 2 % 100 = 0 else p.le 2 2 = 0))) ∧
    (∃ (s : State) (x : TInst) (p : CmdPkt),
      s.takes x 0x23 p ∧
      p.rsvdZero (offs 4 8) ∧
      (12 ≤ p.byte 0 ∧ p.byte 0 < 0xFF) ∧
      p.byte 1 ≤ 3) ∧
    (∃ (s : State) (x : TInst) (p : CmdPkt),
      s.takes x 0x24 p ∧
      p.rsvdZero (offs 4 8) ∧
      (p.byte 0 = 1 ∧ 20 ≤ p.byte 1 ∧ p.byte 1 ≤ 100 ∨ p.byte 0 = 0 ∧ p.byte 1 = 0) ∧
      (300 ≤ p.le 2 2 ∧ p.le 2 2 ≤ 700)) ∧
    (∃ (s : State) (x : TInst) (p : CmdPkt),
      s.takes x 0x24 p ∧
      p.rsvdZero (offs 4 8) ∧
      (p.byte 0 = 1 ∧ (p.byte 1 < 20 ∨ 100 < p.byte 1) ∨ p.byte 0 = 0 ∧ p.byte 1 ≠ 0)) ∧
    (∃ (s : State) (x : TInst) (p : CmdPkt) (f c l : Nat),
      s.takes x 0x31 p ∧
      (p.byte 0 = 0 ∧ p.byte 1 ≤ 1 ∧ p.le 4 4 ≤ 9) ∧
      p.byte 2 = 0 ∧
      s.tframe x (p.byte 3) = (stOk, f) ∧
      s.ownBase f ≤ p.le 8 8 ∧
      (s.frame f).holdsDram (p.le 8 8 - s.ownBase f) = true ∧
      s.place f ((p.le 8 8 - s.ownBase f) / 64 * 64) = .chan c l) ∧
    (∃ (s : State) (x : TInst) (p : CmdPkt) (f : Nat),
      s.takes x 0x31 p ∧
      (p.byte 0 = 0 ∧ p.byte 1 = 2 ∧ p.le 4 4 = 0) ∧
      p.byte 2 = 0 ∧
      s.tframe x (p.byte 3) = (stOk, f) ∧
      s.ownBase f ≤ p.le 8 8 ∧
      (s.frame f).holdsDram (p.le 8 8 - s.ownBase f) = true) ∧
    (∃ (s : State) (x : TInst) (p : CmdPkt) (f k : Nat) (e : BayLine),
      s.takes x 0x31 p ∧
      (p.byte 0 = 1 ∧ p.byte 1 ≤ 1 ∧ p.le 4 4 = 0) ∧
      p.byte 2 = 0 ∧
      s.tframe x (p.byte 3) = (stOk, f) ∧
      s.ownBase f ≤ p.le 8 8 ∧
      (s.frame f).holdsDram (p.le 8 8 - s.ownBase f) = true ∧
      s.bayFind (homeBay s.mode f ((p.le 8 8 - s.ownBase f) / 64 * 64)) (((p.le 8 8 - s.ownBase f) / 64 * 64) / 64) = some (k, e)) ∧
    (∃ (s : State) (x : TInst) (p : CmdPkt) (f : Nat),
      s.takes x 0x31 p ∧
      (p.byte 0 = 1 ∧ p.byte 1 ≤ 1 ∧ p.le 4 4 = 0) ∧
      p.byte 2 = 0 ∧
      s.tframe x (p.byte 3) = (stOk, f) ∧
      s.ownBase f ≤ p.le 8 8 ∧
      (s.frame f).holdsDram (p.le 8 8 - s.ownBase f) = true ∧
      s.bayFind (homeBay s.mode f ((p.le 8 8 - s.ownBase f) / 64 * 64)) (((p.le 8 8 - s.ownBase f) / 64 * 64) / 64) = none) ∧
    (∃ (s : State) (x : TInst) (p : CmdPkt) (f c : Nat),
      s.takes x 0x31 p ∧
      (p.byte 0 = 2 ∧ p.byte 1 ≤ 1) ∧
      p.byte 2 = 0 ∧
      s.tframe x (p.byte 3) = (stOk, f) ∧
      s.ownBase f ≤ p.le 8 8 ∧
      (s.frame f).holdsDram (p.le 8 8 - s.ownBase f) = true ∧
      (s.coreOfHart f (p.le 4 4) = some c ∧ p.le 4 4 < 4096) ∧
      ((s.core c).pipe.find2 (p.le 8 8 / 64)).isSome = true) ∧
    (∃ (s : State) (x : TInst) (p : CmdPkt) (f c : Nat),
      s.takes x 0x31 p ∧
      (p.byte 0 = 3 ∧ p.byte 1 = 3) ∧
      p.byte 2 = 0 ∧
      s.tframe x (p.byte 3) = (stOk, f) ∧
      s.ownBase f ≤ p.le 8 8 ∧
      (s.frame f).holdsDram (p.le 8 8 - s.ownBase f) = true ∧
      (s.coreOfHart f (p.le 4 4) = some c ∧ p.le 4 4 < 4096) ∧
      (s.core c).pipe.l1d.contains (p.le 8 8 / 64) = true) ∧
    (∃ (s : State) (x : TInst) (p : CmdPkt) (f c : Nat),
      s.takes x 0x31 p ∧
      (p.byte 0 = 2 ∧ p.byte 1 ≤ 1 ∨ p.byte 0 = 3 ∧ p.byte 1 = 3) ∧
      p.byte 2 = 0 ∧
      s.tframe x (p.byte 3) = (stOk, f) ∧
      s.ownBase f ≤ p.le 8 8 ∧
      (s.frame f).holdsDram (p.le 8 8 - s.ownBase f) = true ∧
      (s.coreOfHart f (p.le 4 4) = some c ∧ p.le 4 4 < 4096) ∧
      (((s.core c).pipe.find2 (p.le 8 8 / 64)).isSome = false ∧ (s.core c).pipe.l1d.contains (p.le 8 8 / 64) = false)) ∧
    (∃ (s : State) (x : TInst) (p : CmdPkt) (f k : Nat) (e : DirEnt),
      s.takes x 0x31 p ∧
      (p.byte 0 = 4 ∧ p.byte 1 = 1 ∧ p.le 4 4 = 0) ∧
      s.scopeOf x = none ∧
      p.byte 2 = 0 ∧
      s.tframe x (p.byte 3) = (stOk, f) ∧
      s.ownBase f ≤ p.le 8 8 ∧
      (s.frame f).holdsDram (p.le 8 8 - s.ownBase f) = true ∧
      s.dirFind (homeBay s.mode f ((p.le 8 8 - s.ownBase f) / 64 * 64)) (((p.le 8 8 - s.ownBase f) / 64 * 64) / 64) = some (k, e)) ∧
    (∃ (s : State) (x : TInst) (p : CmdPkt),
      s.takes x 0x31 p ∧
      (p.byte 0 = 6 ∧ p.byte 1 = 5 ∧ p.byte 2 = 0 ∧ p.byte 3 = 0) ∧
      (p.le 4 4 < 8 ∧ s.inScope x (s.frameOfPort (p.le 4 4)) = true) ∧
      p.le 8 8 = 0) ∧
    (∃ (s : State) (x : TInst) (p : CmdPkt),
      s.takes x 0x31 p ∧
      (p.byte 0 = 5 ∧ p.byte 1 = 4 ∧ p.byte 2 ≠ 0 ∧ p.byte 3 = 0) ∧
      s.scopeOf x = none ∧
      (p.le 4 4 / 2 ^ 16 < 12 ∧ p.le 4 4 < 2 ^ 20) ∧
      (bitOf (p.le 4 4) 14 = false ∧ bitOf (p.le 4 4) 7 = false ∧ (p.le 4 4 % 128 ≤ 73 ∨ p.le 4 4 % 128 = 75)) ∧
      p.le 8 8 = 0) ∧
    (∃ (s : State) (x : TInst) (p : CmdPkt),
      s.takes x 0x31 p ∧
      (p.byte 0 = 0 ∧ p.byte 1 ≤ 1) ∧
      (p.byte 2 = 0 ∧ p.byte 3 = 0) ∧
      s.tframe x 0 = (stOk, 0) ∧
      9 < p.le 4 4) ∧
    (∃ (s : State) (x : TInst) (p : CmdPkt) (b0 : Nat),
      s.takes x 0x41 p ∧
      p.rsvdZero (offs 2 8) ∧
      (p.le 0 2 ≠ 0 ∧ p.le 0 2 < 2 ^ 12) ∧
      (maskBays (p.le 0 2)).all (fun b => s.inScope x (s.frameOfStud b) && s.frameOfStud b == s.frameOfStud b0) = true) ∧
    (∃ (s : State) (x : TInst) (p : CmdPkt),
      s.takes x 0x41 p ∧
      p.rsvdZero (offs 2 8) ∧
      p.le 0 2 = 0) ∧
    (∃ (s : State) (x : TInst) (p : CmdPkt),
      s.takes x 0x50 p ∧
      p.rsvdZero (offs 2 8) ∧
      (1 ≤ p.le 0 2 ∧ p.le 0 2 ≤ 250) ∧
      s.scribe.frozen = false) ∧
    (∃ (s : State) (x : TInst) (p : CmdPkt),
      s.takes x 0x50 p ∧
      p.rsvdZero (offs 2 8) ∧
      (1 ≤ p.le 0 2 ∧ p.le 0 2 ≤ 250) ∧
      s.scribe.frozen = true) ∧
    (∃ (s : State) (x : TInst) (p : CmdPkt),
      s.takes x 0x51 p) ∧
    (∃ (s : State) (x : TInst) (p : CmdPkt) (k i : Nat),
      s.takes x 0x53 p ∧
      recOfId (p.le 0 4) = some (k, i) ∧
      p.le 0 4 ≠ 0xFFFFFFFF) ∧
    (∃ (s : State) (x : TInst) (p : CmdPkt),
      s.takes x 0x53 p ∧
      p.le 0 4 = 0xFFFFFFFF) ∧
    (∃ (s : State) (x : TInst) (p : CmdPkt),
      s.takes x 0x53 p ∧
      p.le 0 4 ≠ 0xFFFFFFFF ∧
      recOfId (p.le 0 4) = none) ∧
    (∃ (s : State) (x : TInst) (p : CmdPkt),
      s.takes x 0x61 p ∧
      p.rsvdZero (offs 2 8) ∧
      p.byte 0 = 2 ∧
      s.scopeOf x = none ∧
      p.byte 1 < 12 ∧
      ((s.tenon (p.byte 1)).st = 0 ∨ (s.tenon (p.byte 1)).st = 4)) ∧
    (∃ (s : State) (x : TInst) (p : CmdPkt),
      s.takes x 0x61 p ∧
      p.byte 0 = 2 ∧
      (s.scopeOf x ≠ none ∨ p.byte 1 < 12 ∧ (s.tenon (p.byte 1)).st ≠ 0 ∧ (s.tenon (p.byte 1)).st ≠ 4)) ∧
    (∃ (s : State) (x : TInst) (p : CmdPkt),
      s.takes x 0x64 p ∧
      p.rsvdZero (offs 4 8) ∧
      p.byte 1 < frameCount s.mode ∧
      s.inScope x (p.byte 1) = true ∧
      (s.frame (p.byte 1)).node = true ∧
      p.byte 0 = 0 ∧
      s.ridgeBusy (p.byte 1) = false ∧
      p.le 2 2 < 4096 ∧
      s.exportOk (p.byte 1) (BitVec.ofNat 64 (p.le 8 8)) = true) ∧
    (∃ (s : State) (x : TInst) (p : CmdPkt),
      s.takes x 0x64 p ∧
      p.rsvdZero (offs 4 8) ∧
      p.byte 1 < frameCount s.mode ∧
      s.inScope x (p.byte 1) = true ∧
      (s.frame (p.byte 1)).node = true ∧
      p.byte 0 = 1 ∧
      s.ridgeBusy (p.byte 1) = false ∧
      p.le 2 2 < 4096 ∧
      p.le 8 8 = 0) ∧
    (∃ (s : State) (x : TInst) (p : CmdPkt),
      s.takes x 0x64 p ∧
      p.rsvdZero (offs 4 8) ∧
      p.byte 1 < frameCount s.mode ∧
      s.inScope x (p.byte 1) = true ∧
      (s.frame (p.byte 1)).node = true ∧
      p.byte 0 = 3 ∧
      s.ridgeBusy (p.byte 1) = false ∧
      p.le 2 2 = 0 ∧
      p.le 8 8 = 0) ∧
    (∃ (s : State) (x : TInst) (p : CmdPkt),
      s.takes x 0x64 p ∧
      p.rsvdZero (offs 4 8) ∧
      p.byte 1 < frameCount s.mode ∧
      s.inScope x (p.byte 1) = true ∧
      (s.frame (p.byte 1)).node = true ∧
      p.byte 0 = 0 ∧
      s.ridgeBusy (p.byte 1) = true ∧
      p.le 2 2 < 4096 ∧
      s.exportOk (p.byte 1) (BitVec.ofNat 64 (p.le 8 8)) = true) ∧
    (∃ (s : State) (x : TInst) (p : CmdPkt),
      s.takes x 0x64 p ∧
      p.byte 0 = 0 ∧
      s.inScope x (p.byte 1) = true ∧
      (p.byte 1 < frameCount s.mode ∧ (s.frame (p.byte 1)).node = false)) ∧
    (∃ (s : State) (x : TInst) (p : CmdPkt),
      s.takes x 0x64 p ∧
      p.byte 0 = 0 ∧
      s.inScope x (p.byte 1) = true ∧
      frameCount s.mode ≤ p.byte 1) ∧
    (∃ (s : State) (x : TInst) (p : CmdPkt),
      s.takes x 0x64 p ∧
      p.byte 0 = 0 ∧
      s.inScope x (p.byte 1) = false) ∧
    (∃ (s : State) (x : TInst) (p : CmdPkt),
      s.takes x 0x64 p ∧
      p.byte 0 = 1 ∧
      s.inScope x (p.byte 1) = true ∧
      (p.byte 1 < frameCount s.mode ∧ (s.frame (p.byte 1)).node = false)) ∧
    (∃ (s : State) (x : TInst) (p : CmdPkt),
      s.takes x 0x64 p ∧
      p.byte 0 = 1 ∧
      s.inScope x (p.byte 1) = true ∧
      frameCount s.mode ≤ p.byte 1) ∧
    (∃ (s : State) (x : TInst) (p : CmdPkt),
      s.takes x 0x64 p ∧
      p.byte 0 = 1 ∧
      s.inScope x (p.byte 1) = false) ∧
    (∃ (s : State) (x : TInst) (p : CmdPkt),
      s.takes x 0x64 p ∧
      p.byte 0 = 2 ∧
      s.inScope x (p.byte 1) = true ∧
      (p.byte 1 < frameCount s.mode ∧ (s.frame (p.byte 1)).node = false)) ∧
    (∃ (s : State) (x : TInst) (p : CmdPkt),
      s.takes x 0x64 p ∧
      p.byte 0 = 2 ∧
      s.inScope x (p.byte 1) = true ∧
      frameCount s.mode ≤ p.byte 1) ∧
    (∃ (s : State) (x : TInst) (p : CmdPkt),
      s.takes x 0x64 p ∧
      p.byte 0 = 2 ∧
      s.inScope x (p.byte 1) = false) ∧
    (∃ (s : State) (x : TInst) (p : CmdPkt),
      s.takes x 0x64 p ∧
      p.byte 0 = 3 ∧
      s.inScope x (p.byte 1) = true ∧
      (p.byte 1 < frameCount s.mode ∧ (s.frame (p.byte 1)).node = false)) ∧
    (∃ (s : State) (x : TInst) (p : CmdPkt),
      s.takes x 0x64 p ∧
      p.byte 0 = 3 ∧
      s.inScope x (p.byte 1) = true ∧
      frameCount s.mode ≤ p.byte 1) ∧
    (∃ (s : State) (x : TInst) (p : CmdPkt),
      s.takes x 0x64 p ∧
      p.byte 0 = 3 ∧
      s.inScope x (p.byte 1) = false) :=
  ⟨⟨mb, {}, pk 0x20 [0, 0, 0, 0, 88, 2, 0, 0], by decide +kernel⟩,
    ⟨mb, {}, pk 0x20 [1, 0, 0, 0, 88, 2, 0, 0], by decide +kernel⟩,
    ⟨mb, {}, pk 0x20 [0, 0, 0, 0, 0, 1, 0, 0], by decide +kernel⟩,
    ⟨let s : State := { mb with plumb := { mb.plumb with active := 8 }, frames := (List.range 4).map (fun f => (f, { mb.frame 0 with booted := true })) }; ringed s, { kind := .ring, inst := 0 }, pk 0x20 [0, 0, 0, 0, 88, 2, 0, 0], by decide +kernel⟩,
    ⟨let s : State := { mb with plumb := { mb.plumb with active := 8 }, frames := (List.range 4).map (fun f => (f, { mb.frame 0 with booted := true })) }; ringed s, { kind := .ring, inst := 0 }, pk 0x20 [1, 7, 0, 0, 88, 2, 0, 0], by decide +kernel⟩,
    ⟨let s : State := { mb with plumb := { mb.plumb with active := 8 }, frames := (List.range 4).map (fun f => (f, { mb.frame 0 with booted := true })) }; ringed s, { kind := .ring, inst := 0 }, pk 0x23 [11, 2, 0, 0, 0, 0, 0, 0], by decide +kernel⟩,
    ⟨let s : State := { mb with plumb := { mb.plumb with active := 8 }, frames := (List.range 4).map (fun f => (f, { mb.frame 0 with booted := true })) }; ringed s, { kind := .ring, inst := 0 }, pk 0x24 [1, 50, 38, 2, 0, 0, 0, 0], by decide +kernel⟩,
    ⟨let s : State := { mb with plumb := { mb.plumb with active := 8 }, frames := (List.range 4).map (fun f => (f, { mb.frame 0 with booted := true })) }; ringed s, { kind := .ring, inst := 0 }, pk 0x50 [100, 0, 0, 0, 0, 0, 0, 0], by decide +kernel⟩,
    ⟨let s : State := { mb with plumb := { mb.plumb with active := 8 }, frames := (List.range 4).map (fun f => (f, { mb.frame 0 with booted := true })) }; ringed s, { kind := .ring, inst := 0 }, pk 0x51 [], by decide +kernel⟩,
    ⟨let s : State := { mb with plumb := { mb.plumb with active := 8 }, frames := (List.range 4).map (fun f => (f, { mb.frame 0 with booted := true })) }; ringed s, { kind := .ring, inst := 0 }, pk 0x53 [0, 0, 0, 64], by decide +kernel⟩,
    ⟨let s : State := { mb with plumb := { mb.plumb with active := 8 }, frames := (List.range 4).map (fun f => (f, { mb.frame 0 with booted := true })) }; ringed s, { kind := .ring, inst := 0 }, pk 0x54 [], by decide +kernel⟩,
    ⟨mb, {}, pk 0x23 [4, 3, 176, 4, 0, 0, 0, 0], by decide +kernel⟩,
    ⟨mb, {}, pk 0x23 [255, 2, 0, 0, 0, 0, 0, 0], by decide +kernel⟩,
    ⟨mb, {}, pk 0x23 [12, 2, 0, 0, 0, 0, 0, 0], by decide +kernel⟩,
    ⟨mb, {}, pk 0x24 [1, 50, 38, 2, 0, 0, 0, 0], by decide +kernel⟩,
    ⟨mb, {}, pk 0x24 [1, 10, 38, 2, 0, 0, 0, 0], by decide +kernel⟩,
    ⟨mb, {}, pk 0x31 [0, 1, 0, 0, 3, 0, 0, 0, 0, 16, 0, 0, 0, 0, 0, 0], 0, match mb.place 0 0x1000 with | .chan c _ => c | _ => 0, match mb.place 0 0x1000 with | .chan _ l => l | _ => 0, by decide +kernel⟩,
    ⟨mb, {}, pk 0x31 [0, 2, 0, 0, 0, 0, 0, 0, 0, 16, 0, 0, 0, 0, 0, 0], 0, by decide +kernel⟩,
    ⟨mb.setHome (homeBay 0 0 0x1000) { mb.home 0 with cache := [((mb.baySetOf (homeBay 0 0 0x1000) 0x1000) * 16, { line := 64, data := 3 })] }, {}, pk 0x31 [1, 1, 0, 0, 0, 0, 0, 0, 0, 16, 0, 0, 0, 0, 0, 0], 0, (mb.baySetOf (homeBay 0 0 0x1000) 0x1000) * 16, { line := 64, data := 3 }, by decide +kernel⟩,
    ⟨mb, {}, pk 0x31 [1, 1, 0, 0, 0, 0, 0, 0, 0, 16, 0, 0, 0, 0, 0, 0], 0, by decide +kernel⟩,
    ⟨mb.setCore 0 { mb.core 0 with pipe := { l2 := Tab.set {} 64 [{ line := 64, data := 3 }], l1d := [64] } }, {}, pk 0x31 [2, 1, 0, 0, 0, 0, 0, 0, 0, 16, 0, 0, 0, 0, 0, 0], 0, 0, by decide +kernel⟩,
    ⟨mb.setCore 0 { mb.core 0 with pipe := { l2 := Tab.set {} 64 [{ line := 64, data := 3 }], l1d := [64] } }, {}, pk 0x31 [3, 3, 0, 0, 0, 0, 0, 0, 0, 16, 0, 0, 0, 0, 0, 0], 0, 0, by decide +kernel⟩,
    ⟨mb, {}, pk 0x31 [3, 3, 0, 0, 0, 0, 0, 0, 0, 16, 0, 0, 0, 0, 0, 0], 0, 0, by decide +kernel⟩,
    ⟨mb.setHome (homeBay 0 0 0x1000) { mb.home 0 with dir := [((mb.dirSetOf (homeBay 0 0 0x1000) 0x1000) * 24, { line := 64, sv := 1 })] }, {}, pk 0x31 [4, 1, 0, 0, 0, 0, 0, 0, 0, 16, 0, 0, 0, 0, 0, 0], 0, (mb.dirSetOf (homeBay 0 0 0x1000) 0x1000) * 24, { line := 64, sv := 1 }, by decide +kernel⟩,
    ⟨mb, {}, pk 0x31 [6, 5, 0, 0, 3, 0, 0, 0, 0, 0, 0, 0, 0, 0, 0, 0], by decide +kernel⟩,
    ⟨mb, {}, pk 0x31 [5, 4, 2, 0, 9, 3, 4, 0, 0, 0, 0, 0, 0, 0, 0, 0], by decide +kernel⟩,
    ⟨mb, {}, pk 0x31 [0, 1, 0, 0, 10, 0, 0, 0, 0, 16, 0, 0, 0, 0, 0, 0], by decide +kernel⟩,
    ⟨mb.setHome 0 { mb.home 0 with lockW := 2, locked := [(0, 4096)] }, {}, pk 0x41 [3, 0, 0, 0, 0, 0, 0, 0], 0, by decide +kernel⟩,
    ⟨mb, {}, pk 0x41 [0, 0, 0, 0, 0, 0, 0, 0], by decide +kernel⟩,
    ⟨mb, {}, pk 0x50 [100, 0, 0, 0, 0, 0, 0, 0], by decide +kernel⟩,
    ⟨{ mb with scribe := { mb.scribe with frozen := true } }, {}, pk 0x50 [100, 0, 0, 0, 0, 0, 0, 0], by decide +kernel⟩,
    ⟨{ mb with scribe := { mb.scribe with frozen := true } }, {}, pk 0x51 [], by decide +kernel⟩,
    ⟨mb.pkgEvent 3, {}, pk 0x53 [0, 0, 0, 64], 0x40, 0, by decide +kernel⟩,
    ⟨mb.pkgEvent 3, {}, pk 0x53 [255, 255, 255, 255], by decide +kernel⟩,
    ⟨mb, {}, pk 0x53 [1, 0, 0, 64], by decide +kernel⟩,
    ⟨mb.setTenon 4 { up := { retired := 8 } }, {}, pk 0x61 [2, 4, 0, 0, 0, 0, 0, 0], by decide +kernel⟩,
    ⟨mb, {}, pk 0x61 [2, 4, 0, 0, 0, 0, 0, 0], by decide +kernel⟩,
    ⟨mb.setFrame 0 { mb.frame 0 with node := true, nodeId := 3, exports := [(24, 7)] }, {}, pk 0x64 [0, 0, 9, 0, 0, 0, 0, 0, 4, 0, 0, 0, 0, 0, 0, 240], by decide +kernel⟩,
    ⟨mb.setFrame 0 { mb.frame 0 with node := true, nodeId := 3, exports := [(24, 7)] }, {}, pk 0x64 [1, 0, 24, 0, 0, 0, 0, 0, 0, 0, 0, 0, 0, 0, 0, 0], by decide +kernel⟩,
    ⟨mb.setFrame 0 { mb.frame 0 with node := true, nodeId := 3, exports := [(24, 7)] }, {}, pk 0x64 [3, 0, 0, 0, 0, 0, 0, 0, 0, 0, 0, 0, 0, 0, 0, 0], by decide +kernel⟩,
    ⟨(mb.setFrame 0 { mb.frame 0 with node := true, nodeId := 3, exports := [(24, 7)] }).setPort 3 { pers := 5, inReset := false, inb := [(0, { root := 8 })] }, {}, pk 0x64 [0, 0, 9, 0, 0, 0, 0, 0, 4, 0, 0, 0, 0, 0, 0, 240], by decide +kernel⟩,
    ⟨mb, {}, pk 0x64 [0, 0, 0, 0, 0, 0, 0, 0, 0, 0, 0, 0, 0, 0, 0, 0], by decide +kernel⟩,
    ⟨mb, {}, pk 0x64 [0, 3, 0, 0, 0, 0, 0, 0, 0, 0, 0, 0, 0, 0, 0, 0], by decide +kernel⟩,
    ⟨let s : State := { mb with plumb := { mb.plumb with active := 8 }, frames := (List.range 4).map (fun f => (f, { mb.frame 0 with booted := true })) }; ringed s, { kind := .ring, inst := 0 }, pk 0x64 [0, 3, 0, 0, 0, 0, 0, 0, 0, 0, 0, 0, 0, 0, 0, 0], by decide +kernel⟩,
    ⟨mb, {}, pk 0x64 [1, 0, 0, 0, 0, 0, 0, 0, 0, 0, 0, 0, 0, 0, 0, 0], by decide +kernel⟩,
    ⟨mb, {}, pk 0x64 [1, 3, 0, 0, 0, 0, 0, 0, 0, 0, 0, 0, 0, 0, 0, 0], by decide +kernel⟩,
    ⟨let s : State := { mb with plumb := { mb.plumb with active := 8 }, frames := (List.range 4).map (fun f => (f, { mb.frame 0 with booted := true })) }; ringed s, { kind := .ring, inst := 0 }, pk 0x64 [1, 3, 0, 0, 0, 0, 0, 0, 0, 0, 0, 0, 0, 0, 0, 0], by decide +kernel⟩,
    ⟨mb, {}, pk 0x64 [2, 0, 0, 0, 0, 0, 0, 0, 0, 0, 0, 0, 0, 0, 0, 0], by decide +kernel⟩,
    ⟨mb, {}, pk 0x64 [2, 3, 0, 0, 0, 0, 0, 0, 0, 0, 0, 0, 0, 0, 0, 0], by decide +kernel⟩,
    ⟨let s : State := { mb with plumb := { mb.plumb with active := 8 }, frames := (List.range 4).map (fun f => (f, { mb.frame 0 with booted := true })) }; ringed s, { kind := .ring, inst := 0 }, pk 0x64 [2, 3, 0, 0, 0, 0, 0, 0, 0, 0, 0, 0, 0, 0, 0, 0], by decide +kernel⟩,
    ⟨mb, {}, pk 0x64 [3, 0, 0, 0, 0, 0, 0, 0, 0, 0, 0, 0, 0, 0, 0, 0], by decide +kernel⟩,
    ⟨mb, {}, pk 0x64 [3, 3, 0, 0, 0, 0, 0, 0, 0, 0, 0, 0, 0, 0, 0, 0], by decide +kernel⟩,
    ⟨let s : State := { mb with plumb := { mb.plumb with active := 8 }, frames := (List.range 4).map (fun f => (f, { mb.frame 0 with booted := true })) }; ringed s, { kind := .ring, inst := 0 }, pk 0x64 [3, 3, 0, 0, 0, 0, 0, 0, 0, 0, 0, 0, 0, 0, 0, 0], by decide +kernel⟩⟩

/-- States and operands that meet the hypotheses of PlumbLongCommandsStart. -/
theorem witness_PlumbLongCommandsStart :
    (∃ (s : State) (x : TInst) (p : CmdPkt),
      s.takes x 0x10 p ∧
      p.rsvdZero (offs 1 8) ∧
      s.scopeOf x = none ∧
      p.byte 0 ≤ 11 ∧
      bitOf s.plumb.running.modeCfg.2 (p.byte 0) = true ∧
      s.modeFits (p.byte 0) = true) ∧
    (∃ (s : State) (x : TInst) (p : CmdPkt),
      s.takes x 0x10 p ∧
      p.rsvdZero (offs 1 8) ∧
      (s.scopeOf x ≠ none ∨ bitOf s.plumb.running.modeCfg.2 (p.byte 0) = false) ∧
      p.byte 0 ≤ 11 ∧
      (x.kind = .mctp ∨ ((x.kind = .ring ∧ ((s.frame x.inst).ring.cfg.getLsbD 1 = false))))) ∧
    (∃ (s : State) (x : TInst) (p : CmdPkt),
      s.takes x 0x22 p ∧
      p.rsvdZero (offs 3 8) ∧
      (p.byte 0 < 14 ∧ 2 ≤ p.byte 0 ∧ p.byte 1 = 0 ∨ 26 ≤ p.byte 0 ∧ p.byte 0 < 28 ∧ p.byte 1 ≤ 1 ∨ 28 ≤ p.byte 0 ∧ p.byte 0 < 30 ∧ p.byte 1 = 0 ∨ p.byte 0 = 31 ∧ p.byte 1 = 2 ∧ s.scopeOf x = none) ∧
      p.byte 2 = 0xFF ∧
      (s.scopeOf x = none ∨ (s.domHolders (p.byte 0)).contains ((s.scopeOf x).getD 0) = true)) ∧
    (∃ (s : State) (x : TInst) (p : CmdPkt),
      s.takes x 0x22 p ∧
      p.rsvdZero (offs 3 8) ∧
      (2 ≤ p.byte 0 ∧ p.byte 0 < 14 ∧ p.byte 1 = 2) ∧
      s.allDeep (p.byte 0 - 2) = true ∧
      p.byte 2 = 0xFF ∧
      (s.scopeOf x = none ∨ (s.domHolders (p.byte 0)).contains ((s.scopeOf x).getD 0) = true)) ∧
    (∃ (s : State) (x : TInst) (p : CmdPkt),
      s.takes x 0x22 p ∧
      p.rsvdZero (offs 3 8) ∧
      (28 ≤ p.byte 0 ∧ p.byte 0 < 30 ∧ p.byte 1 = 1) ∧
      p.byte 2 = 0xFF ∧
      s.scopeOf x = none ∧
      (portsOfDom (p.byte 0)).any (fun q => ((s.port q).pers == 4 && (s.port q).purlin.st == 3) || ((s.port q).pers == 5 && (s.port q).ridge.st == 2)) = true) ∧
    (∃ (s : State) (x : TInst) (p : CmdPkt),
      s.takes x 0x22 p ∧
      (p.byte 0 = 30 ∨ 31 < p.byte 0)) ∧
    (∃ (s : State) (x : TInst) (p : CmdPkt),
      s.takes x 0x22 p ∧
      p.byte 0 < 2) ∧
    (∃ (s : State) (x : TInst) (p : CmdPkt),
      s.takes x 0x22 p ∧
      p.rsvdZero (offs 3 8) ∧
      (2 ≤ p.byte 0 ∧ p.byte 0 < 14) ∧
      p.byte 1 = 2 ∧
      p.byte 2 = 0xFF ∧
      s.scopeOf x = none ∧
      s.allDeep (p.byte 0 - 2) = false) ∧
    (∃ (s : State) (x : TInst) (p : CmdPkt),
      s.takes x 0x22 p ∧
      p.rsvdZero (offs 3 8) ∧
      (14 ≤ p.byte 0 ∧ p.byte 0 < 26) ∧
      p.byte 1 = 2 ∧
      p.byte 2 = 0xFF ∧
      s.scopeOf x = none ∧
      ((s.home (p.byte 0 - 14)).bench ≠ 0 ∨ (s.home (p.byte 0 - 14)).lockW ≠ 0)) ∧
    (∃ (s : State) (x : TInst) (p : CmdPkt) (f : Nat),
      s.takes x 0x30 p ∧
      p.rsvdZero (offs 17 24) ∧
      s.tframe x (p.byte 16) = (stOk, f) ∧
      pagesOk (p.le 0 8) (p.le 8 8) = true ∧
      s.withinTop f (p.le 0 8) (p.le 8 8) = true ∧
      s.scrubbing f = false) ∧
    (∃ (s : State) (x : TInst) (p : CmdPkt) (f : Nat),
      s.takes x 0x30 p ∧
      p.rsvdZero (offs 17 24) ∧
      s.tframe x (p.byte 16) = (stOk, f) ∧
      pagesOk (p.le 0 8) (p.le 8 8) = true ∧
      s.withinTop f (p.le 0 8) (p.le 8 8) = true ∧
      s.scrubbing f = true) ∧
    (∃ (s : State) (x : TInst) (p : CmdPkt) (f : Nat),
      s.takes x 0x30 p ∧
      p.rsvdZero (offs 17 24) ∧
      s.tframe x (p.byte 16) = (stOk, f) ∧
      pagesOk (p.le 0 8) (p.le 8 8) = true ∧
      s.withinTop f (p.le 0 8) (p.le 8 8) = false) ∧
    (∃ (s : State) (x : TInst) (p : CmdPkt),
      s.takes x 0x34 p ∧
      (s.scopeChans x).all (fun c => (s.chan c).st != 1) = true) ∧
    (∃ (s : State) (x : TInst) (p : CmdPkt),
      s.takes x 0x34 p ∧
      (s.scopeChans x).any (fun c => (s.chan c).st == 1) = true) ∧
    (∃ (s : State) (x : TInst) (p : CmdPkt),
      s.takes x 0x62 p ∧
      p.rsvdZero (offs 2 8) ∧
      p.byte 0 = 0 ∧
      (p.byte 1 < 12 ∧ s.inScope x (s.frameOfStud (p.byte 1)) = true) ∧
      ((s.tenon (p.byte 1)).st = 0 ∨ (s.tenon (p.byte 1)).st = 4 ∨ (s.frame (s.frameOfStud (p.byte 1))).halted = true)) ∧
    (∃ (s : State) (x : TInst) (p : CmdPkt),
      s.takes x 0x62 p ∧
      p.rsvdZero (offs 2 8) ∧
      p.byte 0 = 0 ∧
      (p.byte 1 < 12 ∧ s.inScope x (s.frameOfStud (p.byte 1)) = true) ∧
      ((s.tenon (p.byte 1)).st = 1 ∨ (s.tenon (p.byte 1)).st = 2 ∨ (s.tenon (p.byte 1)).st = 3) ∧
      (s.frame (s.frameOfStud (p.byte 1))).halted = false) ∧
    (∃ (s : State) (x : TInst) (p : CmdPkt),
      s.takes x 0x62 p ∧
      p.rsvdZero (offs 2 8) ∧
      p.byte 0 = 1 ∧
      (p.byte 1 < 8 ∧ s.inScope x (s.frameOfPort (p.byte 1)) = true) ∧
      ((s.port (p.byte 1)).pers = 4 ∨ (s.port (p.byte 1)).pers = 5)) ∧
    (∃ (s : State) (x : TInst) (p : CmdPkt),
      s.takes x 0x62 p ∧
      p.rsvdZero (offs 3 8) ∧
      p.byte 0 = 1 ∧
      (p.byte 1 < 8 ∧ s.inScope x (s.frameOfPort (p.byte 1)) = true) ∧
      (s.port (p.byte 1)).hasRoot (p.byte 2) = true) ∧
    (∃ (s : State) (x : TInst) (p : CmdPkt),
      s.takes x 0x62 p ∧
      p.rsvdZero (offs 3 8) ∧
      p.byte 0 = 1 ∧
      (p.byte 1 < 8 ∧ s.inScope x (s.frameOfPort (p.byte 1)) = true) ∧
      (s.port (p.byte 1)).hasRoots = true ∧
      (s.port (p.byte 1)).hasRoot (p.byte 2) = false) ∧
    (∃ (s : State) (x : TInst) (p : CmdPkt),
      s.takes x 0x62 p ∧
      p.rsvdZero (offs 2 8) ∧
      p.byte 0 = 1 ∧
      (p.byte 1 < 8 ∧ s.inScope x (s.frameOfPort (p.byte 1)) = true) ∧
      ((s.port (p.byte 1)).pers = 0 ∨ (s.port (p.byte 1)).pers = 3)) ∧
    (∃ (s : State) (x : TInst) (p : CmdPkt),
      s.takes x 0x63 p ∧
      p.rsvdZero (offs 4 8) ∧
      (p.byte 0 < 8 ∧ s.inScope x (s.frameOfPort (p.byte 0)) = true) ∧
      (p.byte 1 ≤ 5 ∧ lanesOk (p.byte 1) (p.byte 2) = true) ∧
      (p.byte 3 = 0 ∨ p.byte 3 = 1 ∧ p.byte 1 = 3) ∧
      ({ pers := p.byte 1, lanes := p.byte 2, rec_ := p.byte 3 == 1 } : Pers) ≠ s.storedPers (p.byte 0) ∧
      (s.scopeOf x = none ∨ keptPers (p.byte 1) = false ∧ keptPers (s.storedPers (p.byte 0)).pers = false) ∧
      ((fun m => modeFits (fun q => if q = p.byte 0 then p.byte 1 else (s.storedPers q).pers) m) s.mode = true ∧ (fun m => modeFits (fun q => if q = p.byte 0 then p.byte 1 else (s.storedPers q).pers) m) s.plumb.pendMode = true)) ∧
    (∃ (s : State) (x : TInst) (p : CmdPkt),
      s.takes x 0x63 p ∧
      p.rsvdZero (offs 4 8) ∧
      (p.byte 0 < 8 ∧ s.inScope x (s.frameOfPort (p.byte 0)) = true) ∧
      (p.byte 1 ≤ 5 ∧ lanesOk (p.byte 1) (p.byte 2) = true) ∧
      (p.byte 3 = 0 ∨ p.byte 3 = 1 ∧ p.byte 1 = 3) ∧
      x.kind = .mctp ∧
      ({ pers := p.byte 1, lanes := p.byte 2, rec_ := p.byte 3 == 1 } : Pers) = s.storedPers (p.byte 0)) ∧
    (∃ (s : State) (x : TInst) (p : CmdPkt),
      s.takes x 0x71 p ∧
      p.rsvdZero (offs 4 8) ∧
      s.plumb.fwOwner = some x ∧
      p.le 0 4 = s.plumb.fwData.length ∧
      s.plumb.fwData.length + (p.len.toNat - 8) ≤ s.plumb.fwLen) ∧
    (∃ (s : State) (x : TInst) (p : CmdPkt),
      s.takes x 0x71 p ∧
      s.plumb.fwOwner ≠ some x) ∧
    (∃ (s : State) (x : TInst) (p : CmdPkt),
      s.takes x 0x72 p ∧
      s.plumb.fwOwner = some x ∧
      s.plumb.fwData.length = s.plumb.fwLen) ∧
    (∃ (s : State) (x : TInst) (p : CmdPkt),
      s.takes x 0x72 p ∧
      s.plumb.fwOwner ≠ some x) ∧
    (∃ (s : State) (x : TInst) (p : CmdPkt),
      s.takes x 0x72 p ∧
      s.plumb.fwOwner = some x ∧
      s.plumb.fwData.length ≠ s.plumb.fwLen) ∧
    (∃ (s : State) (x : TInst) (p : CmdPkt),
      s.takes x 0x73 p) ∧
    (∃ (s : State) (x : TInst) (p : CmdPkt) (f : Nat),
      s.takes x 0x40 p ∧
      p.rsvdZero (offs 18 24) ∧
      s.tframe x (p.byte 17) = (stOk, f) ∧
      (1 ≤ p.byte 16 ∧ p.byte 16 ≤ 4) ∧
      pagesOk (p.le 0 8) (p.le 8 8) = true ∧
      s.withinDram f (p.le 0 8) (p.le 8 8) = true ∧
      (studsOf s.mode f).all (fun b => s.lockFits f b (p.le 0 8 - s.ownBase f) (p.le 8 8) (p.byte 16) && (s.home b).bench != 12 && ((s.home b).lockW == 0 || (s.home b).lockW == p.byte 16) && !(s.home b).arrayFail && s.domStateOf (14 + b) != 4) = true ∧
      (studsOf s.mode f).all (fun b => (s.home b).cache.isEmpty) = true) ∧
    (∃ (s : State) (x : TInst) (p : CmdPkt),
      s.takes x 0x42 p ∧
      p.rsvdZero (offs 2 8) ∧
      (p.byte 0 < 12 ∧ s.inScope x (s.frameOfStud (p.byte 0)) = true) ∧
      (p.byte 1 = 0 ∨ p.byte 1 = 8 ∨ p.byte 1 = 12 ∧ (s.home (p.byte 0)).lockW = 0) ∧
      (s.home (p.byte 0)).arrayFail = false ∧
      s.domStateOf (14 + p.byte 0) ≠ 4 ∧
      ((s.home (p.byte 0)).cache.isEmpty = true ∧ s.benchIdle (p.byte 0) = true) ∧
      (s.home (p.byte 0)).bench ≤ p.byte 1 ∧
      ((s.home (p.byte 0)).txs = [] ∧ (s.home (p.byte 0)).order = [] ∧ (s.home (p.byte 0)).waitReq = [] ∧ (s.home (p.byte 0)).dirQ = [])) ∧
    (∃ (s : State) (x : TInst) (p : CmdPkt),
      s.takes x 0x42 p ∧
      p.rsvdZero (offs 2 8) ∧
      (p.byte 0 < 12 ∧ s.inScope x (s.frameOfStud (p.byte 0)) = true) ∧
      (p.byte 1 ≠ 0 ∧ p.byte 1 ≠ 8 ∧ (p.byte 1 ≠ 12 ∨ (s.home (p.byte 0)).lockW ≠ 0)) ∧
      s.plumb.jobs.any (fun j => j.opcode == 0x42) = false ∧
      (s.home (p.byte 0)).benchBusy = false) ∧
    (∃ (s : State) (x : TInst) (p : CmdPkt) (b0 : Nat),
      s.takes x 0x43 p ∧
      p.rsvdZero (offs 20 24) ∧
      p.byte 16 = 1 ∧
      p.byte 17 = 0 ∧
      (p.le 18 2 ≠ 0 ∧ p.le 18 2 < 2 ^ 12) ∧
      (maskBays (p.le 18 2)).all (fun b => s.inScope x (s.frameOfStud b) && s.frameOfStud b == s.frameOfStud b0) = true ∧
      (maskBays (p.le 18 2)).all (fun b => (s.home b).cache.isEmpty && (s.home b).victims.isEmpty) = true) ∧
    (∃ (s : State) (x : TInst) (p : CmdPkt) (b0 : Nat),
      s.takes x 0x44 p ∧
      p.rsvdZero (offs 2 8) ∧
      (p.le 0 2 ≠ 0 ∧ p.le 0 2 < 2 ^ 12) ∧
      (maskBays (p.le 0 2)).all (fun b => s.inScope x (s.frameOfStud b) && s.frameOfStud b == s.frameOfStud b0) = true) ∧
    (∃ (s : State) (x : TInst) (p : CmdPkt),
      s.takes x 0x32 p ∧
      p.rsvdZero (offs 2 8) ∧
      p.byte 0 = 0 ∧
      (p.byte 1 < 12 ∧ s.inScope x (s.frameOfStud (p.byte 1)) = true) ∧
      s.testable 0 (p.byte 1) = true) ∧
    (∃ (s : State) (x : TInst) (p : CmdPkt),
      s.takes x 0x32 p ∧
      p.rsvdZero (offs 2 8) ∧
      p.byte 0 = 1 ∧
      (p.byte 1 < 12 ∧ s.inScope x (s.frameOfStud (p.byte 1)) = true) ∧
      s.testable 1 (p.byte 1) = true) ∧
    (∃ (s : State) (x : TInst) (p : CmdPkt),
      s.takes x 0x32 p ∧
      p.rsvdZero (offs 2 8) ∧
      p.byte 0 ≤ 1 ∧
      (p.byte 1 < 12 ∧ s.inScope x (s.frameOfStud (p.byte 1)) = true) ∧
      s.testable (p.byte 0) (p.byte 1) = false) ∧
    (∃ (s : State) (x : TInst) (p : CmdPkt),
      s.takes x 0x54 p ∧
      s.scribe.flushing = none) ∧
    (∃ (s : State) (x : TInst) (p : CmdPkt) (k : Nat),
      s.takes x 0x54 p ∧
      s.scribe.flushing = some k) ∧
    (∃ (s : State) (x : TInst) (p : CmdPkt),
      s.takes x 0x70 p ∧
      p.rsvdZero (offs 4 8) ∧
      p.le 0 4 % 4096 = 0 ∧
      (0x10000 ≤ p.le 0 4 ∧ p.le 0 4 ≤ 0x2000000) ∧
      s.plumb.fwOwner = none) ∧
    (∃ (s : State) (x : TInst) (p : CmdPkt),
      s.takes x 0x70 p ∧
      p.rsvdZero (offs 4 8) ∧
      p.le 0 4 % 4096 = 0 ∧
      (0x10000 ≤ p.le 0 4 ∧ p.le 0 4 ≤ 0x2000000) ∧
      s.plumb.fwOwner ≠ none) ∧
    (∃ (s : State) (x : TInst) (p : CmdPkt),
      s.canReach x = true ∧
      s.takeCheck x 0x44 p = none ∧
      (s.newJob x 0x44 p).behind s.plumb.jobs = true) ∧
    (∃ (s : State) (x : TInst) (p : CmdPkt) (f : Nat),
      s.takes x 0x12 p ∧
      p.rsvdZero (offs 1 8) ∧
      f = p.byte 0 ∧
      (f < frameCount s.mode ∧ s.inScope x f = true)) ∧
    (∃ (s : State) (x : TInst) (p : CmdPkt),
      s.takes x 0x13 p ∧
      p.rsvdZero (offs 1 8) ∧
      (p.byte 0 < 12 ∧ s.inScope x (s.frameOfStud (p.byte 0)) = true) ∧
      ((s.stud (p.byte 0)).state = 1 ∨ (s.frame (s.frameOfStud (p.byte 0))).halted = true ∨ s.allDeep (p.byte 0) = true ∧ (s.tenon (p.byte 0)).st = 3)) ∧
    (∃ (s : State) (x : TInst) (p : CmdPkt),
      s.takes x 0x13 p ∧
      p.rsvdZero (offs 1 8) ∧
      (p.byte 0 < 12 ∧ s.inScope x (s.frameOfStud (p.byte 0)) = true) ∧
      (s.stud (p.byte 0)).state ≠ 1 ∧
      (s.frame (s.frameOfStud (p.byte 0))).halted = false ∧
      (s.allDeep (p.byte 0) = false ∨ (s.tenon (p.byte 0)).st ≠ 3)) :=
  ⟨⟨mb, {}, pk 0x10 [4, 0, 0, 0, 0, 0, 0, 0], by decide +kernel⟩,
    ⟨{ mb with plumb := { mb.plumb with running := { mode := some (0, 1) } } }, {}, pk 0x10 [4, 0, 0, 0, 0, 0, 0, 0], by decide +kernel⟩,
    ⟨mb, {}, pk 0x22 [26, 1, 255, 0, 0, 0, 0, 0], by decide +kernel⟩,
    ⟨mb.setStud 2 { mb.stud 2 with cores := 0 }, {}, pk 0x22 [4, 2, 255, 0, 0, 0, 0, 0], by decide +kernel⟩,
    ⟨mb.setPort 2 { pers := 5, inReset := false, ridge := { st := 2 } }, {}, pk 0x22 [28, 1, 255, 0, 0, 0, 0, 0], by decide +kernel⟩,
    ⟨mb, {}, pk 0x22 [30, 0, 0, 0, 0, 0, 0, 0], by decide +kernel⟩,
    ⟨mb, {}, pk 0x22 [1, 0, 0, 0, 0, 0, 0, 0], by decide +kernel⟩,
    ⟨mb, {}, pk 0x22 [2, 2, 255, 0, 0, 0, 0, 0], by decide +kernel⟩,
    ⟨mb.setHome 0 { mb.home 0 with bench := 8 }, {}, pk 0x22 [14, 2, 255, 0, 0, 0, 0, 0], by decide +kernel⟩,
    ⟨mb, {}, pk 0x30 [0, 16, 0, 0, 0, 0, 0, 0, 0, 16, 0, 0, 0, 0, 0, 0], 0, by decide +kernel⟩,
    ⟨{ mb with plumb := { mb.plumb with jobs := [{ opcode := 0x30, pkt := { pk 0x30 [0, 0x20, 0, 0, 0, 0, 0, 0, 0, 0x10, 0, 0, 0, 0, 0, 0] with tag := 9 }, res := [resChans 0], running := true }] } }, {}, pk 0x30 [0, 16, 0, 0, 0, 0, 0, 0, 0, 16, 0, 0, 0, 0, 0, 0], 0, by decide +kernel⟩,
    ⟨mb, {}, pk 0x30 [0, 16, 0, 0, 0, 0, 1, 0, 0, 16, 0, 0, 0, 0, 0, 0], 0, by decide +kernel⟩,
    ⟨mb, {}, pk 0x34 [], by decide +kernel⟩,
    ⟨mb.setChan 3 { mb.chan 3 with st := 1 }, {}, pk 0x34 [], by decide +kernel⟩,
    ⟨mb.setTenon 4 { st := 4 }, {}, pk 0x62 [0, 4, 0, 0, 0, 0, 0, 0], by decide +kernel⟩,
    ⟨mb, {}, pk 0x62 [0, 4, 0, 0, 0, 0, 0, 0], by decide +kernel⟩,
    ⟨mb.setPort 3 { pers := 5, inReset := false }, {}, pk 0x62 [1, 3, 0, 0, 0, 0, 0, 0], by decide +kernel⟩,
    ⟨mb, {}, pk 0x62 [1, 3, 0, 0, 0, 0, 0, 0], by decide +kernel⟩,
    ⟨mb, {}, pk 0x62 [1, 3, 5, 0, 0, 0, 0, 0], by decide +kernel⟩,
    ⟨mb.setPort 3 { pers := 0 }, {}, pk 0x62 [1, 3, 0, 0, 0, 0, 0, 0], by decide +kernel⟩,
    ⟨mb, {}, pk 0x63 [3, 1, 17, 0, 0, 0, 0, 0], by decide +kernel⟩,
    ⟨mb, {}, pk 0x63 [3, 1, 1, 0, 0, 0, 0, 0], by decide +kernel⟩,
    ⟨{ mb with plumb := { mb.plumb with fwOwner := some {}, fwLen := 0x10000, fwData := [1#8, 2#8] } }, {}, pk 0x71 [2, 0, 0, 0, 0, 0, 0, 0, 7, 8], by decide +kernel⟩,
    ⟨mb, {}, pk 0x71 [2, 0, 0, 0, 0, 0, 0, 0, 7, 8], by decide +kernel⟩,
    ⟨{ mb with plumb := { mb.plumb with fwOwner := some {}, fwLen := 2, fwData := [1#8, 2#8] } }, {}, pk 0x72 [], by decide +kernel⟩,
    ⟨mb, {}, pk 0x72 [], by decide +kernel⟩,
    ⟨{ mb with plumb := { mb.plumb with fwOwner := some {}, fwLen := 0x10000, fwData := [1#8, 2#8] } }, {}, pk 0x72 [], by decide +kernel⟩,
    ⟨mb, {}, pk 0x73 [0, 1, 2, 3, 4, 5, 6, 7, 8, 9, 10, 11, 12, 13, 14, 15, 16, 17, 18, 19, 20, 21, 22, 23, 24, 25, 26, 27, 28, 29, 30, 31], by decide +kernel⟩,
    ⟨mb, {}, pk 0x40 [0, 16, 0, 0, 0, 0, 0, 0, 0, 16, 0, 0, 0, 0, 0, 0, 2, 0, 0, 0, 0, 0, 0, 0], 0, by decide +kernel⟩,
    ⟨mb, {}, pk 0x42 [4, 8, 0, 0, 0, 0, 0, 0], by decide +kernel⟩,
    ⟨mb.setHome 4 { mb.home 4 with lockW := 2 }, {}, pk 0x42 [4, 12, 0, 0, 0, 0, 0, 0], by decide +kernel⟩,
    ⟨mb, {}, pk 0x43 [0, 0, 0, 0, 0, 0, 0, 0, 0, 0, 0, 0, 0, 0, 0, 0, 1, 0, 3, 0, 0, 0, 0, 0], 0, by decide +kernel⟩,
    ⟨mb, {}, pk 0x44 [3, 0, 0, 0, 0, 0, 0, 0], 0, by decide +kernel⟩,
    ⟨mb.setStud 4 { mb.stud 4 with cores := 0 }, {}, pk 0x32 [0, 4, 0, 0, 0, 0, 0, 0], by decide +kernel⟩,
    ⟨mb.setHome 4 { mb.home 4 with en := false }, {}, pk 0x32 [1, 4, 0, 0, 0, 0, 0, 0], by decide +kernel⟩,
    ⟨mb, {}, pk 0x32 [1, 4, 0, 0, 0, 0, 0, 0], by decide +kernel⟩,
    ⟨mb, {}, pk 0x54 [], by decide +kernel⟩,
    ⟨{ mb with scribe := { mb.scribe with flushing := some 3 } }, {}, pk 0x54 [], 3, by decide +kernel⟩,
    ⟨mb, {}, pk 0x70 [0, 0, 2, 0, 0, 0, 0, 0], by decide +kernel⟩,
    ⟨{ mb with plumb := { mb.plumb with fwOwner := some {}, fwLen := 0x10000, fwData := [1#8, 2#8] } }, {}, pk 0x70 [0, 0, 2, 0, 0, 0, 0, 0], by decide +kernel⟩,
    ⟨{ mb with plumb := { mb.plumb with jobs := [{ opcode := 0x44, pkt := pk 0x44 [1, 0, 0, 0, 0, 0, 0, 0], res := [resBay 0], running := true }] } }, {}, let p : CmdPkt := { tag := 6, len := 8, params := [1, 0, 0, 0, 0, 0, 0, 0] }; { p with crc := BitVec.ofNat 16 (crc16 (p.header 0x44 ++ p.params)) }, by decide +kernel⟩,
    ⟨{ mb with mem := [(7, 1), (keyBench 3 8, 9)] }, {}, pk 0x12 [0, 0, 0, 0, 0, 0, 0, 0], 0, by decide +kernel⟩,
    ⟨mb.setStud 4 { mb.stud 4 with state := 1 }, {}, pk 0x13 [4, 0, 0, 0, 0, 0, 0, 0], by decide +kernel⟩,
    ⟨mb, {}, pk 0x13 [4, 0, 0, 0, 0, 0, 0, 0], by decide +kernel⟩⟩

/-- States and operands that meet the hypotheses of PlumbCommandsEnd. -/
theorem witness_PlumbCommandsEnd :
    (∃ (s : State) (j : Job) (fin : FinishIn),
      s.endsNow j 0x10 ∧
      j.pkt.byte 0 = s.plumb.pendMode) ∧
    (∃ (s : State) (j : Job) (fin : FinishIn),
      s.endsNow j 0x10 ∧
      j.pkt.byte 0 ≠ s.plumb.pendMode ∧
      fin.hwOk = true) ∧
    (∃ (s : State) (j : Job) (fin : FinishIn),
      s.endsNow j 0x10 ∧
      j.pkt.byte 0 ≠ s.plumb.pendMode ∧
      fin.hwOk = false) ∧
    (∃ (s : State) (j : Job) (fin : FinishIn),
      s.endsNow j 0x63 ∧
      fin.hwOk = true) ∧
    (∃ (s : State) (j : Job) (fin : FinishIn),
      s.endsNow j 0x63 ∧
      fin.hwOk = false) ∧
    (∃ (s : State) (j : Job) (fin : FinishIn),
      s.endsNow j 0x34 ∧
      fin.hwOk = true) ∧
    (∃ (s : State) (j : Job) (fin : FinishIn),
      s.endsNow j 0x34 ∧
      fin.hwOk = false) ∧
    (∃ (s : State) (j : Job) (fin : FinishIn),
      s.endsNow j 0x22 ∧
      (2 ≤ j.pkt.byte 0 ∧ j.pkt.byte 0 < 14)) ∧
    (∃ (s : State) (j : Job) (fin : FinishIn),
      s.endsNow j 0x22 ∧
      (14 ≤ j.pkt.byte 0 ∧ j.pkt.byte 0 < 26) ∧
      j.pkt.byte 1 = 2) ∧
    (∃ (s : State) (j : Job) (fin : FinishIn),
      s.endsNow j 0x22 ∧
      (14 ≤ j.pkt.byte 0 ∧ j.pkt.byte 0 < 26) ∧
      j.pkt.byte 1 ≠ 2) ∧
    (∃ (s : State) (j : Job) (fin : FinishIn),
      s.endsNow j 0x22 ∧
      (26 ≤ j.pkt.byte 0 ∧ j.pkt.byte 0 < 30)) ∧
    (∃ (s : State) (j : Job) (fin : FinishIn),
      s.endsNow j 0x22 ∧
      j.pkt.byte 0 = 31 ∧
      s.plumb.jobs = [j]) ∧
    (∃ (s : State) (j : Job) (fin : FinishIn),
      s.endsNow j 0x70 ∧
      fin.hwOk = true) ∧
    (∃ (s : State) (j : Job) (fin : FinishIn),
      s.endsNow j 0x70 ∧
      fin.hwOk = false) ∧
    (∃ (s : State) (j : Job) (fin : FinishIn),
      s.endsNow j 0x71 ∧
      fin.hwOk = true) ∧
    (∃ (s : State) (j : Job) (fin : FinishIn),
      s.endsNow j 0x71 ∧
      fin.hwOk = false) ∧
    (∃ (s : State) (j : Job) (fin : FinishIn),
      s.endsNow j 0x72 ∧
      (imgBundle s.plumb.fwData fin.verified).isNone = true) ∧
    (∃ (s : State) (j : Job) (fin : FinishIn),
      s.endsNow j 0x72 ∧
      (imgBundle s.plumb.fwData fin.verified).isSome = true ∧
      ((imgBundle s.plumb.fwData fin.verified).getD {}).verifies s.plumb.minSvn = false) ∧
    (∃ (s : State) (j : Job) (fin : FinishIn),
      s.endsNow j 0x72 ∧
      (imgBundle s.plumb.fwData fin.verified).isSome = true ∧
      ((imgBundle s.plumb.fwData fin.verified).getD {}).verifies s.plumb.minSvn = true ∧
      fin.hwOk = true) ∧
    (∃ (s : State) (j : Job) (fin : FinishIn),
      s.endsNow j 0x72 ∧
      (imgBundle s.plumb.fwData fin.verified).isSome = true ∧
      ((imgBundle s.plumb.fwData fin.verified).getD {}).verifies s.plumb.minSvn = true ∧
      fin.hwOk = false) ∧
    (∃ (s : State) (j : Job) (fin : FinishIn),
      s.endsNow j 0x30) ∧
    (∃ (s : State) (j : Job) (fin : FinishIn),
      s.endsNow j 0x73 ∧
      fin.hwOk = true) ∧
    (∃ (s : State) (j : Job) (fin : FinishIn),
      s.endsNow j 0x73 ∧
      fin.hwOk = false) ∧
    (∃ (s : State) (j : Job) (fin : FinishIn),
      s.endsNow j 0x40) ∧
    (∃ (s : State) (j : Job) (fin : FinishIn),
      s.endsNow j 0x42) ∧
    (∃ (s : State) (j : Job) (fin : FinishIn),
      s.endsNow j 0x43) ∧
    (∃ (s : State) (j : Job) (fin : FinishIn),
      s.endsNow j 0x44) ∧
    (∃ (s : State) (j : Job) (fin : FinishIn),
      s.endsNow j 0x32 ∧
      j.pkt.byte 0 = 0 ∧
      (envCores fin.env (j.pkt.byte 1) = [] ∧ envStud fin.env (j.pkt.byte 1) = []) ∧
      (s.stud (j.pkt.byte 1)).cores ≠ 0) ∧
    (∃ (s : State) (j : Job) (fin : FinishIn),
      s.endsNow j 0x32 ∧
      j.pkt.byte 0 = 1 ∧
      envBay fin.env (j.pkt.byte 1) = []) ∧
    (∃ (s : State) (j : Job) (fin : FinishIn),
      s.endsNow j 0x62 ∧
      j.pkt.byte 0 = 0 ∧
      (fin.env.tenonBad = [] ∧ fin.env.tenonFailTries = [] ∧ fin.env.tenonIdent = []) ∧
      fin.hwOk = true) ∧
    (∃ (s : State) (j : Job) (fin : FinishIn),
      s.endsNow j 0x62 ∧
      j.pkt.byte 0 = 1 ∧
      ((s.port (j.pkt.byte 1)).pers = 1 ∨ (s.port (j.pkt.byte 1)).pers = 2) ∧
      ((s.port (j.pkt.byte 1)).root (j.pkt.byte 2)).up = true ∧
      fin.hwOk = true) ∧
    (∃ (s : State) (j : Job) (fin : FinishIn),
      s.endsNow j 0x62 ∧
      j.pkt.byte 0 = 1 ∧
      ((s.port (j.pkt.byte 1)).pers = 1 ∨ (s.port (j.pkt.byte 1)).pers = 2) ∧
      ((s.port (j.pkt.byte 1)).root (j.pkt.byte 2)).up = false) ∧
    (∃ (s : State) (j : Job) (fin : FinishIn),
      s.endsNow j 0x62 ∧
      j.pkt.byte 0 = 1 ∧
      (s.port (j.pkt.byte 1)).pers = 5 ∧
      (s.port (j.pkt.byte 1)).ridgeUp = true ∧
      fin.hwOk = true) ∧
    (∃ (s : State) (j : Job) (fin : FinishIn),
      s.endsNow j 0x62 ∧
      j.pkt.byte 0 = 1 ∧
      (((s.port (j.pkt.byte 1)).pers = 4 ∧ (s.port (j.pkt.byte 1)).purlinLive = false) ∨ ((s.port (j.pkt.byte 1)).pers = 5 ∧ (s.port (j.pkt.byte 1)).ridgeUp = false))) ∧
    (∃ (s : State) (j : Job),
      s.live = true ∧
      s.runningJob j.t j.pkt.tag.toNat = some j ∧
      s.plumb.jobs.filter (fun k => k.no == j.no) = [j] ∧
      (∀ k ∈ s.plumb.jobs, k.running = true) ∧
      j.opcode ∈ ([0x10, 0x13, 0x34, 0x44, 0x54, 0x62, 0x63, 0x71, 0x72, 0x73] : List Nat)) ∧
    (∃ (s : State) (j : Job),
      s.live = true ∧
      s.runningJob j.t j.pkt.tag.toNat = some j ∧
      s.plumb.jobs.filter (fun k => k.no == j.no) = [j] ∧
      (∀ k ∈ s.plumb.jobs, k.running = true) ∧
      j.opcode ∈ ([0x12] : List Nat)) ∧
    (∃ (s : State) (j : Job),
      s.live = true ∧
      s.runningJob j.t j.pkt.tag.toNat = some j ∧
      s.plumb.jobs.filter (fun k => k.no == j.no) = [j] ∧
      (∀ k ∈ s.plumb.jobs, k.running = true) ∧
      j.opcode ∈ ([0x22, 0x40, 0x42, 0x43] : List Nat)) ∧
    (∃ (s : State) (j : Job),
      s.live = true ∧
      s.runningJob j.t j.pkt.tag.toNat = some j ∧
      s.plumb.jobs.filter (fun k => k.no == j.no) = [j] ∧
      (∀ k ∈ s.plumb.jobs, k.running = true) ∧
      j.opcode ∈ ([0x30] : List Nat)) ∧
    (∃ (s : State) (j : Job),
      s.live = true ∧
      s.runningJob j.t j.pkt.tag.toNat = some j ∧
      s.plumb.jobs.filter (fun k => k.no == j.no) = [j] ∧
      (∀ k ∈ s.plumb.jobs, k.running = true) ∧
      j.opcode ∈ ([0x32] : List Nat)) ∧
    (∃ (s : State) (j : Job),
      s.live = true ∧
      s.runningJob j.t j.pkt.tag.toNat = some j ∧
      s.plumb.jobs.filter (fun k => k.no == j.no) = [j] ∧
      (∀ k ∈ s.plumb.jobs, k.running = true) ∧
      j.opcode ∈ ([0x70] : List Nat)) ∧
    (∃ (s : State) (x : TInst) (tag : BitVec 8) (fin : FinishIn),
      (s.live = false ∨ s.runningJob x tag.toNat = none)) ∧
    (∃ (s : State) (j : Job) (fin : FinishIn),
      s.runningJob j.t j.pkt.tag.toNat = some j ∧
      s.ready j = false) ∧
    (∃ (s : State),
      s.plumb.fwOwner.isSome = true ∧
      (s.plumb.jobs.any (fun j => decide (0x70 ≤ j.opcode ∧ j.opcode ≤ 0x72)) = false)) ∧
    (∃ (s : State),
      (s.plumb.fwOwner = none ∨ s.plumb.jobs.any (fun j => decide (0x70 ≤ j.opcode ∧ j.opcode ≤ 0x72)) = true)) ∧
    (∃ (s : State),
      s.live = true ∧
      s.plumb.jobs = []) ∧
    (∃ (s : State) (j : Job),
      s.live = true ∧
      s.plumb.jobs = [j] ∧
      (j.running = false ∨ j.opcode ∈ ([0x10, 0x13, 0x34, 0x44, 0x54, 0x62, 0x63, 0x71, 0x72, 0x73] : List Nat)) ∧
      (j.running = true ∨ j.res = [])) ∧
    (∃ (s : State),
      s.live = true) ∧
    (∃ (s : State),
      s.live = false) ∧
    (∃ (s : State) (j : Job) (fin : FinishIn),
      s.endsNow j 0x13 ∧
      j.pkt.byte 0 < 12 ∧
      fin.env = {} ∧
      (s.trainTenon (j.pkt.byte 0) [] 0 true).2 = true) ∧
    (∃ (s : State) (j : Job) (fin : FinishIn),
      s.endsNow j 0x12 ∧
      j.pkt.byte 0 < frameCount s.mode ∧
      fin.env = {} ∧
      s.power.trip = false ∧
      (studsOf s.mode (j.pkt.byte 0)).all (fun n => (s.trainTenon n [] 0 true).2) = true) :=
  ⟨⟨let s0 : State := mb; { s0 with plumb := { s0.plumb with jobs := [jb 0x10 [0, 0, 0, 0, 0, 0, 0, 0]] } }, jb 0x10 [0, 0, 0, 0, 0, 0, 0, 0], {}, by decide +kernel⟩,
    ⟨let s0 : State := mb; { s0 with plumb := { s0.plumb with jobs := [jb 0x10 [4, 0, 0, 0, 0, 0, 0, 0]] } }, jb 0x10 [4, 0, 0, 0, 0, 0, 0, 0], {}, by decide +kernel⟩,
    ⟨let s0 : State := mb; { s0 with plumb := { s0.plumb with jobs := [jb 0x10 [4, 0, 0, 0, 0, 0, 0, 0]] } }, jb 0x10 [4, 0, 0, 0, 0, 0, 0, 0], { hwOk := false }, by decide +kernel⟩,
    ⟨let s0 : State := mb; { s0 with plumb := { s0.plumb with jobs := [jb 0x63 [3, 1, 17, 0, 0, 0, 0, 0]] } }, jb 0x63 [3, 1, 17, 0, 0, 0, 0, 0], {}, by decide +kernel⟩,
    ⟨let s0 : State := mb; { s0 with plumb := { s0.plumb with jobs := [jb 0x63 [3, 1, 17, 0, 0, 0, 0, 0]] } }, jb 0x63 [3, 1, 17, 0, 0, 0, 0, 0], { hwOk := false }, by decide +kernel⟩,
    ⟨let s0 : State := mb.setChan 3 { mb.chan 3 with st := 4 }; { s0 with plumb := { s0.plumb with jobs := [jb 0x34 []] } }, jb 0x34 [], {}, by decide +kernel⟩,
    ⟨let s0 : State := mb; { s0 with plumb := { s0.plumb with jobs := [jb 0x34 []] } }, jb 0x34 [], { hwOk := false }, by decide +kernel⟩,
    ⟨let s0 : State := mb; { s0 with plumb := { s0.plumb with jobs := [jb 0x22 [5, 2, 255, 0, 0, 0, 0, 0]] } }, jb 0x22 [5, 2, 255, 0, 0, 0, 0, 0], {}, by decide +kernel⟩,
    ⟨let s0 : State := mb; { s0 with plumb := { s0.plumb with jobs := [jb 0x22 [15, 2, 255, 0, 0, 0, 0, 0]] } }, jb 0x22 [15, 2, 255, 0, 0, 0, 0, 0], {}, by decide +kernel⟩,
    ⟨let s0 : State := mb.setDom 15 4 0; { s0 with plumb := { s0.plumb with jobs := [jb 0x22 [15, 0, 255, 0, 0, 0, 0, 0]] } }, jb 0x22 [15, 0, 255, 0, 0, 0, 0, 0], {}, by decide +kernel⟩,
    ⟨let s0 : State := mb; { s0 with plumb := { s0.plumb with jobs := [jb 0x22 [26, 1, 255, 0, 0, 0, 0, 0]] } }, jb 0x22 [26, 1, 255, 0, 0, 0, 0, 0], {}, by decide +kernel⟩,
    ⟨let s0 : State := mb; { s0 with plumb := { s0.plumb with jobs := [jb 0x22 [31, 2, 255, 0, 0, 0, 0, 0]] } }, jb 0x22 [31, 2, 255, 0, 0, 0, 0, 0], {}, by decide +kernel⟩,
    ⟨let s0 : State := mb; { s0 with plumb := { s0.plumb with jobs := [jb 0x70 [0, 0, 2, 0, 0, 0, 0, 0]] } }, jb 0x70 [0, 0, 2, 0, 0, 0, 0, 0], {}, by decide +kernel⟩,
    ⟨let s0 : State := mb; { s0 with plumb := { s0.plumb with jobs := [jb 0x70 [0, 0, 2, 0, 0, 0, 0, 0]] } }, jb 0x70 [0, 0, 2, 0, 0, 0, 0, 0], { hwOk := false }, by decide +kernel⟩,
    ⟨let s0 : State := mb; { s0 with plumb := { s0.plumb with jobs := [jb 0x71 [0, 0, 0, 0, 0, 0, 0, 0, 7, 8]] } }, jb 0x71 [0, 0, 0, 0, 0, 0, 0, 0, 7, 8], {}, by decide +kernel⟩,
    ⟨let s0 : State := mb; { s0 with plumb := { s0.plumb with jobs := [jb 0x71 [0, 0, 0, 0, 0, 0, 0, 0, 7, 8]] } }, jb 0x71 [0, 0, 0, 0, 0, 0, 0, 0, 7, 8], { hwOk := false }, by decide +kernel⟩,
    ⟨let s0 : State := { mb with plumb := { mb.plumb with fwOwner := some {}, fwOther := 1, fwData := [1, 2] } }; { s0 with plumb := { s0.plumb with jobs := [jb 0x72 []] } }, jb 0x72 [], {}, by decide +kernel⟩,
    ⟨let s0 : State := { mb with plumb := { mb.plumb with fwOwner := some {}, fwOther := 1, fwData := wimg } }; { s0 with plumb := { s0.plumb with jobs := [jb 0x72 []] } }, jb 0x72 [], { verified := false }, by decide +kernel⟩,
    ⟨let s0 : State := { mb with plumb := { mb.plumb with fwOwner := some {}, fwOther := 1, fwData := wimg } }; { s0 with plumb := { s0.plumb with jobs := [jb 0x72 []] } }, jb 0x72 [], {}, by decide +kernel⟩,
    ⟨let s0 : State := { mb with plumb := { mb.plumb with fwOwner := some {}, fwOther := 1, fwData := wimg } }; { s0 with plumb := { s0.plumb with jobs := [jb 0x72 []] } }, jb 0x72 [], { hwOk := false }, by decide +kernel⟩,
    ⟨let s0 : State := mb; { s0 with plumb := { s0.plumb with jobs := [jb 0x30 [0, 16, 0, 0, 0, 0, 0, 0, 0, 16, 0, 0, 0, 0, 0, 0]] } }, jb 0x30 [0, 16, 0, 0, 0, 0, 0, 0, 0, 16, 0, 0, 0, 0, 0, 0], {}, by decide +kernel⟩,
    ⟨let s0 : State := mb; { s0 with plumb := { s0.plumb with jobs := [jb 0x73 [0, 1, 2, 3, 4, 5, 6, 7, 8, 9, 10, 11, 12, 13, 14, 15, 16, 17, 18, 19, 20, 21, 22, 23, 24, 25, 26, 27, 28, 29, 30, 31]] } }, jb 0x73 [0, 1, 2, 3, 4, 5, 6, 7, 8, 9, 10, 11, 12, 13, 14, 15, 16, 17, 18, 19, 20, 21, 22, 23, 24, 25, 26, 27, 28, 29, 30, 31], {}, by decide +kernel⟩,
    ⟨let s0 : State := mb; { s0 with plumb := { s0.plumb with jobs := [jb 0x73 [0, 1, 2, 3, 4, 5, 6, 7, 8, 9, 10, 11, 12, 13, 14, 15, 16, 17, 18, 19, 20, 21, 22, 23, 24, 25, 26, 27, 28, 29, 30, 31]] } }, jb 0x73 [0, 1, 2, 3, 4, 5, 6, 7, 8, 9, 10, 11, 12, 13, 14, 15, 16, 17, 18, 19, 20, 21, 22, 23, 24, 25, 26, 27, 28, 29, 30, 31], { hwOk := false }, by decide +kernel⟩,
    ⟨let s0 : State := mb.setHome 3 { mb.home 3 with cmdBusy := true, work := some { done := true } }; { s0 with plumb := { s0.plumb with jobs := [{ jb 0x40 [0, 16, 0, 0, 0, 0, 0, 0, 0, 16, 0, 0, 0, 0, 0, 0, 2, 0, 0, 0, 0, 0, 0, 0] with res := (List.range 12).map resBay }] } }, { jb 0x40 [0, 16, 0, 0, 0, 0, 0, 0, 0, 16, 0, 0, 0, 0, 0, 0, 2, 0, 0, 0, 0, 0, 0, 0] with res := (List.range 12).map resBay }, {}, by decide +kernel⟩,
    ⟨let s0 : State := mb.setHome 4 { mb.home 4 with cmdBusy := true, benchBusy := true, bench := 8, work := some { done := true } }; { s0 with plumb := { s0.plumb with jobs := [{ jb 0x42 [4, 8, 0, 0, 0, 0, 0, 0] with res := [resBay 4] }] } }, { jb 0x42 [4, 8, 0, 0, 0, 0, 0, 0] with res := [resBay 4] }, {}, by decide +kernel⟩,
    ⟨let s0 : State := mb.setHome 0 { mb.home 0 with cmdBusy := true, work := some { done := true, count := 5 } }; { s0 with plumb := { s0.plumb with jobs := [{ jb 0x43 [0, 0, 0, 0, 0, 0, 0, 0, 0, 0, 0, 0, 0, 0, 0, 0, 1, 0, 3, 0, 0, 0, 0, 0] with res := [resBay 0, resBay 1] }] } }, { jb 0x43 [0, 0, 0, 0, 0, 0, 0, 0, 0, 0, 0, 0, 0, 0, 0, 0, 1, 0, 3, 0, 0, 0, 0, 0] with res := [resBay 0, resBay 1] }, {}, by decide +kernel⟩,
    ⟨let s0 : State := mb.setHome 1 { mb.home 1 with cmdBusy := true, lockW := 2, locked := [(0, 4096)], cache := [(3, { line := 7 })] }; { s0 with plumb := { s0.plumb with jobs := [{ jb 0x44 [3, 0, 0, 0, 0, 0, 0, 0] with res := [resBay 0, resBay 1] }] } }, { jb 0x44 [3, 0, 0, 0, 0, 0, 0, 0] with res := [resBay 0, resBay 1] }, {}, by decide +kernel⟩,
    ⟨let s0 : State := mb.setStud 4 { mb.stud 4 with testing := true }; { s0 with plumb := { s0.plumb with jobs := [jb 0x32 [0, 4, 0, 0, 0, 0, 0, 0]] } }, jb 0x32 [0, 4, 0, 0, 0, 0, 0, 0], {}, by decide +kernel⟩,
    ⟨let s0 : State := mb; { s0 with plumb := { s0.plumb with jobs := [jb 0x32 [1, 4, 0, 0, 0, 0, 0, 0]] } }, jb 0x32 [1, 4, 0, 0, 0, 0, 0, 0], {}, by decide +kernel⟩,
    ⟨let s0 : State := mb.setTenon 4 { st := 1 }; { s0 with plumb := { s0.plumb with jobs := [jb 0x62 [0, 4, 0, 0, 0, 0, 0, 0]] } }, jb 0x62 [0, 4, 0, 0, 0, 0, 0, 0], {}, by decide +kernel⟩,
    ⟨let s0 : State := mb.setPort 3 { mb.port 3 with roots := [(0, { up := true, retrain := true })] }; { s0 with plumb := { s0.plumb with jobs := [jb 0x62 [1, 3, 0, 0, 0, 0, 0, 0]] } }, jb 0x62 [1, 3, 0, 0, 0, 0, 0, 0], {}, by decide +kernel⟩,
    ⟨let s0 : State := mb; { s0 with plumb := { s0.plumb with jobs := [jb 0x62 [1, 3, 0, 0, 0, 0, 0, 0]] } }, jb 0x62 [1, 3, 0, 0, 0, 0, 0, 0], {}, by decide +kernel⟩,
    ⟨let s0 : State := mb.setPort 3 { pers := 5, inReset := false, ridge := { st := 2 } }; { s0 with plumb := { s0.plumb with jobs := [jb 0x62 [1, 3, 0, 0, 0, 0, 0, 0]] } }, jb 0x62 [1, 3, 0, 0, 0, 0, 0, 0], {}, by decide +kernel⟩,
    ⟨let s0 : State := mb.setPort 3 { pers := 4, inReset := false }; { s0 with plumb := { s0.plumb with jobs := [jb 0x62 [1, 3, 0, 0, 0, 0, 0, 0]] } }, jb 0x62 [1, 3, 0, 0, 0, 0, 0, 0], {}, by decide +kernel⟩,
    ⟨let s0 : State := mb; { s0 with plumb := { s0.plumb with jobs := [jb 0x10 [4, 0, 0, 0, 0, 0, 0, 0]] } }, jb 0x10 [4, 0, 0, 0, 0, 0, 0, 0], by decide +kernel⟩,
    ⟨let s0 : State := mb.setFrame 0 { mb.frame 0 with resetting := true }; { s0 with plumb := { s0.plumb with jobs := [jb 0x12 [0, 0, 0, 0, 0, 0, 0, 0]] } }, jb 0x12 [0, 0, 0, 0, 0, 0, 0, 0], by decide +kernel⟩,
    ⟨let s0 : State := mb.setHome 4 { mb.home 4 with cmdBusy := true, benchBusy := true, bench := 8, work := some {} }; { s0 with plumb := { s0.plumb with jobs := [{ jb 0x42 [4, 8, 0, 0, 0, 0, 0, 0] with res := [resBay 4] }] } }, { jb 0x42 [4, 8, 0, 0, 0, 0, 0, 0] with res := [resBay 4] }, by decide +kernel⟩,
    ⟨let s0 : State := mb; { s0 with plumb := { s0.plumb with jobs := [jb 0x30 [0, 16, 0, 0, 0, 0, 0, 0, 0, 16, 0, 0, 0, 0, 0, 0]] } }, jb 0x30 [0, 16, 0, 0, 0, 0, 0, 0, 0, 16, 0, 0, 0, 0, 0, 0], by decide +kernel⟩,
    ⟨let s0 : State := mb.setStud 4 { mb.stud 4 with testing := true }; { s0 with plumb := { s0.plumb with jobs := [jb 0x32 [0, 4, 0, 0, 0, 0, 0, 0]] } }, jb 0x32 [0, 4, 0, 0, 0, 0, 0, 0], by decide +kernel⟩,
    ⟨let s0 : State := mb; { s0 with plumb := { s0.plumb with jobs := [jb 0x70 [0, 0, 2, 0, 0, 0, 0, 0]] } }, jb 0x70 [0, 0, 2, 0, 0, 0, 0, 0], by decide +kernel⟩,
    ⟨mb, {}, 5, {}, by decide +kernel⟩,
    ⟨let s0 : State := mb.setHome 4 { mb.home 4 with work := some {} }; { s0 with plumb := { s0.plumb with jobs := [jb 0x42 [4, 8, 0, 0, 0, 0, 0, 0]] } }, jb 0x42 [4, 8, 0, 0, 0, 0, 0, 0], {}, by decide +kernel⟩,
    ⟨{ mb with plumb := { mb.plumb with fwOwner := some {}, fwLen := 0x10000, fwData := [1#8] } }, by decide +kernel⟩,
    ⟨mb, by decide +kernel⟩,
    ⟨mb, by decide +kernel⟩,
    ⟨let s0 : State := mb; { s0 with plumb := { s0.plumb with jobs := [jb 0x63 [0, 0, 0, 0, 0, 0, 0, 0]] } }, jb 0x63 [0, 0, 0, 0, 0, 0, 0, 0], by decide +kernel⟩,
    ⟨let s0 : State := mb; { s0 with plumb := { s0.plumb with jobs := [jb 0x63 [0, 0, 0, 0, 0, 0, 0, 0]] } }, by decide +kernel⟩,
    ⟨{ mb with off := true }, by decide +kernel⟩,
    ⟨let s0 : State := mb.setStud 4 { mb.stud 4 with state := 3 }; { s0 with plumb := { s0.plumb with jobs := [jb 0x13 [4, 0, 0, 0, 0, 0, 0, 0]] } }, jb 0x13 [4, 0, 0, 0, 0, 0, 0, 0], {}, by decide +kernel⟩,
    ⟨let s0 : State := (mb.setFrame 0 { mb.frame 0 with resetting := true, booted := false }); { s0 with plumb := { s0.plumb with jobs := [jb 0x12 [0, 0, 0, 0, 0, 0, 0, 0]] } }, jb 0x12 [0, 0, 0, 0, 0, 0, 0, 0], {}, by decide +kernel⟩⟩

/-- States and operands that meet the hypotheses of PlumbRefusesAndLosesTransports. -/
theorem witness_PlumbRefusesAndLosesTransports :
    (∃ (s : State) (x : TInst) (own : Bool) (t st op : Nat) (p : CmdPkt) (d : Nat) (l : List Byte),
      x.kind = .mctp) ∧
    (∃ (s : State) (x : TInst) (own : Bool) (t st op : Nat) (p : CmdPkt) (d : Nat) (l : List Byte),
      x.kind = .ring ∧
      (st < 256 ∧ op < 256) ∧
      ((s.frame x.inst).ring.cfg.getLsbD 1 = false ∨ ringFull (s.frame x.inst).ring.rplTail (s.frame x.inst).ring.rplHead (s.frame x.inst).ring.logInF.2 = true) ∧
      p.notify = false) ∧
    (∃ (s : State) (x : TInst) (own : Bool) (t st op : Nat) (p : CmdPkt) (d : Nat) (l : List Byte),
      x.kind = .dovetail ∧
      (st < 256 ∧ op < 256) ∧
      ((s.port x.inst).dt.bme = false ∨ (s.port x.inst).dt.cfg.getLsbD 1 = false ∨ ringFull (s.port x.inst).dt.rplTail (s.port x.inst).dt.rplHead (s.port x.inst).dt.logInF.2 = true) ∧
      p.notify = false) ∧
    (∃ (s : State) (x : TInst) (own : Bool) (t st op : Nat) (p : CmdPkt) (d : Nat) (l : List Byte),
      x.kind = .dovetail ∧
      (st < 256 ∧ op < 256) ∧
      ((s.port x.inst).dt.bme = true ∧ (s.port x.inst).dt.cfg.getLsbD 1 = true ∧ ringFull (s.port x.inst).dt.rplTail (s.port x.inst).dt.rplHead (s.port x.inst).dt.logInF.2 = false) ∧
      (s.port x.inst).dt.replies = [] ∧
      p.notify = false) ∧
    (∃ (s : State) (x : TInst) (b : Byte) (p : CmdPkt),
      s.canReach x = true ∧
      p.crcOk b = false) ∧
    (∃ (s : State) (x : TInst) (b : Byte) (p : CmdPkt),
      (s.canReach x = false ∨ p.crcOk b = true)) ∧
    (∃ (s : State) (x : TInst) (b : Byte) (p : CmdPkt),
      s.canReach x = true ∧
      p.crcOk b = true ∧
      (opRow b.toNat).isNone = true) ∧
    (∃ (s : State) (x : TInst) (b : Byte) (p : CmdPkt),
      s.canReach x = true ∧
      p.crcOk b = false ∧
      (opRow b.toNat).isNone = true) ∧
    (∃ (s : State) (x : TInst) (b : Byte) (p : CmdPkt),
      (s.canReach x = false ∨ (opRow b.toNat).isSome = true)) ∧
    (∃ (s : State) (x : TInst),
      s.live = true ∧
      x.kind = .mctp) ∧
    (∃ (s : State) (x : TInst),
      s.live = true ∧
      x.kind = .ring) ∧
    (∃ (s : State) (x : TInst),
      s.live = true ∧
      x.kind = .dovetail) ∧
    (∃ (s : State) (x : TInst),
      s.live = false) ∧
    (∃ (s : State) (f : FrameId) (a : Nat) (ok : Bool) (b : Byte) (p : CmdPkt),
      s.ncBusy (.fetch f.val : NcOwner) = false ∧
      s.canReach ({ kind := .ring, inst := f.val } : TInst) = true ∧
      (s.frame f).ring.cfg.getLsbD 0 = true ∧
      (s.frame f).ring.cmdHead ≠ (s.frame f).ring.cmdTail ∧
      s.outstanding ({ kind := .ring, inst := f.val } : TInst) < 256 ∧
      a = (s.frame f).ring.cmdInF.toNat + (s.frame f).ring.cmdHead * 8192 ∧
      (ok = false ∨ s.ringSlotOk f a = false)) ∧
    (∃ (s : State) (f : FrameId) (a : Nat) (b : Byte) (p : CmdPkt),
      s.ncBusy (.fetch f.val : NcOwner) = false ∧
      s.canReach ({ kind := .ring, inst := f.val } : TInst) = true ∧
      (s.frame f).ring.cfg.getLsbD 0 = true ∧
      (s.frame f).ring.cmdHead ≠ (s.frame f).ring.cmdTail ∧
      s.outstanding ({ kind := .ring, inst := f.val } : TInst) < 256 ∧
      a = (s.frame f).ring.cmdInF.toNat + (s.frame f).ring.cmdHead * 8192 ∧
      s.ringSlotOk f a = true ∧
      s.ncLine (.fetch f.val : NcOwner) (a / 64) = none) ∧
    (∃ (s : State) (f : FrameId) (a : Nat) (e : NcLine) (b : Byte) (p : CmdPkt),
      s.ncBusy (.fetch f.val : NcOwner) = false ∧
      s.canReach ({ kind := .ring, inst := f.val } : TInst) = true ∧
      (s.frame f).ring.cfg.getLsbD 0 = true ∧
      (s.frame f).ring.cmdHead ≠ (s.frame f).ring.cmdTail ∧
      s.outstanding ({ kind := .ring, inst := f.val } : TInst) < 256 ∧
      a = (s.frame f).ring.cmdInF.toNat + (s.frame f).ring.cmdHead * 8192 ∧
      s.ringSlotOk f a = true ∧
      s.ncLine (.fetch f.val : NcOwner) (a / 64) = some e ∧
      e.err = true) ∧
    (∃ (s : State) (f : FrameId) (a : Nat) (e : NcLine) (b : Byte) (p : CmdPkt),
      s.ncBusy (.fetch f.val : NcOwner) = false ∧
      s.canReach ({ kind := .ring, inst := f.val } : TInst) = true ∧
      (s.frame f).ring.cfg.getLsbD 0 = true ∧
      (s.frame f).ring.cmdHead ≠ (s.frame f).ring.cmdTail ∧
      s.outstanding ({ kind := .ring, inst := f.val } : TInst) < 256 ∧
      a = (s.frame f).ring.cmdInF.toNat + (s.frame f).ring.cmdHead * 8192 ∧
      s.ringSlotOk f a = true ∧
      s.ncLine (.fetch f.val : NcOwner) (a / 64) = some e ∧
      (e.err = false ∧ e.poison = true)) ∧
    (∃ (s : State) (f : FrameId) (a : Nat) (e : NcLine) (b : Byte) (p : CmdPkt),
      s.ncBusy (.fetch f.val : NcOwner) = false ∧
      s.canReach ({ kind := .ring, inst := f.val } : TInst) = true ∧
      (s.frame f).ring.cfg.getLsbD 0 = true ∧
      (s.frame f).ring.cmdHead ≠ (s.frame f).ring.cmdTail ∧
      s.outstanding ({ kind := .ring, inst := f.val } : TInst) < 256 ∧
      a = (s.frame f).ring.cmdInF.toNat + (s.frame f).ring.cmdHead * 8192 ∧
      s.ringSlotOk f a = true ∧
      s.ncLine (.fetch f.val : NcOwner) (a / 64) = some e ∧
      (e.err = false ∧ e.poison = false) ∧
      (linesOf a (16 + min 8176 (bits (ofBytes (s.ncBytes (.fetch f.val : NcOwner) a 16)) 44 32))).any (fun l => (s.ncLine (.fetch f.val : NcOwner) l).isNone) = true) ∧
    (∃ (s : State) (f : FrameId) (a : Nat) (e : NcLine) (b : Byte) (p : CmdPkt),
      s.ncBusy (.fetch f.val : NcOwner) = false ∧
      s.canReach ({ kind := .ring, inst := f.val } : TInst) = true ∧
      (s.frame f).ring.cfg.getLsbD 0 = true ∧
      (s.frame f).ring.cmdHead ≠ (s.frame f).ring.cmdTail ∧
      s.outstanding ({ kind := .ring, inst := f.val } : TInst) < 256 ∧
      a = (s.frame f).ring.cmdInF.toNat + (s.frame f).ring.cmdHead * 8192 ∧
      s.ringSlotOk f a = true ∧
      s.ncLine (.fetch f.val : NcOwner) (a / 64) = some e ∧
      (e.err = false ∧ e.poison = false) ∧
      (∀ l ∈ linesOf a (16 + min 8176 (bits (ofBytes (s.ncBytes (.fetch f.val : NcOwner) a 16)) 44 32)), (s.ncLine (.fetch f.val : NcOwner) l).isSome = true) ∧
      s.ncFailed (.fetch f.val : NcOwner) = true) ∧
    (∃ (s : State) (f : FrameId) (a : Nat) (e : NcLine) (b : Byte) (p : CmdPkt) (x : NcLine),
      s.ncBusy (.fetch f.val : NcOwner) = false ∧
      s.canReach ({ kind := .ring, inst := f.val } : TInst) = true ∧
      (s.frame f).ring.cfg.getLsbD 0 = true ∧
      (s.frame f).ring.cmdHead ≠ (s.frame f).ring.cmdTail ∧
      s.outstanding ({ kind := .ring, inst := f.val } : TInst) < 256 ∧
      a = (s.frame f).ring.cmdInF.toNat + (s.frame f).ring.cmdHead * 8192 ∧
      s.ringSlotOk f a = true ∧
      s.ncLine (.fetch f.val : NcOwner) (a / 64) = some e ∧
      (e.err = false ∧ e.poison = false) ∧
      (∀ l ∈ linesOf a (16 + min 8176 (bits (ofBytes (s.ncBytes (.fetch f.val : NcOwner) a 16)) 44 32)), (s.ncLine (.fetch f.val : NcOwner) l).isSome = true) ∧
      s.ncFailed (.fetch f.val : NcOwner) = false ∧
      s.ncBuf.find? (fun e => e.owner == (.fetch f.val : NcOwner) && e.poison) = some x) ∧
    (∃ (s : State) (f : FrameId) (a : Nat) (e : NcLine) (b : Byte) (p : CmdPkt) (u : State),
      s.ncBusy (.fetch f.val : NcOwner) = false ∧
      s.canReach ({ kind := .ring, inst := f.val } : TInst) = true ∧
      (s.frame f).ring.cfg.getLsbD 0 = true ∧
      (s.frame f).ring.cmdHead ≠ (s.frame f).ring.cmdTail ∧
      s.outstanding ({ kind := .ring, inst := f.val } : TInst) < 256 ∧
      a = (s.frame f).ring.cmdInF.toNat + (s.frame f).ring.cmdHead * 8192 ∧
      s.ringSlotOk f a = true ∧
      s.ncLine (.fetch f.val : NcOwner) (a / 64) = some e ∧
      (e.err = false ∧ e.poison = false) ∧
      (∀ l ∈ linesOf a (16 + min 8176 (bits (ofBytes (s.ncBytes (.fetch f.val : NcOwner) a 16)) 44 32)), (s.ncLine (.fetch f.val : NcOwner) l).isSome = true) ∧
      (∀ x ∈ s.ncBuf, x.owner = (.fetch f.val : NcOwner) → x.err = false ∧ x.poison = false) ∧
      u = State.setFrame { s with ncBuf := s.ncBuf.filter (fun e => e.owner != (.fetch f.val : NcOwner)) } f { (s.frame f) with ring := { (s.frame f).ring with cmdHead := ((s.frame f).ring.cmdHead + 1) % 2 ^ (s.frame f).ring.logInF.1 } }) ∧
    (∃ (s : State) (f : FrameId) (ok : Bool) (b : Byte) (p : CmdPkt),
      s.ncBusy (.fetch f.val : NcOwner) = false ∧
      (s.canReach ({ kind := .ring, inst := f.val } : TInst) = false ∨ (s.frame f).ring.cfg.getLsbD 0 = false ∨ (s.frame f).ring.cmdHead = (s.frame f).ring.cmdTail ∨ 256 ≤ s.outstanding ({ kind := .ring, inst := f.val } : TInst))) ∧
    (∃ (s : State) (f : FrameId) (ok : Bool) (b : Byte) (p : CmdPkt),
      s.ncBusy (.fetch f.val : NcOwner) = true) ∧
    (∃ (s : State) (q : PortId) (ok : Bool) (b : Byte) (p : CmdPkt),
      s.canReach (dtInst q) = true ∧
      ((s.port q).dtUp = true ∧ (s.port q).dt.bme = true ∧ (s.port q).dt.cfg.getLsbD 0 = true) ∧
      (s.port q).dt.cmdHead ≠ (s.port q).dt.cmdTail ∧
      s.outstanding (dtInst q) < 256) ∧
    (∃ (s : State) (q : PortId) (ok : Bool) (b : Byte) (p : CmdPkt),
      s.canReach (dtInst q) = true ∧
      ((s.port q).dtUp = true ∧ (s.port q).dt.bme = true ∧ (s.port q).dt.cfg.getLsbD 0 = true) ∧
      (s.port q).dt.cmdHead ≠ (s.port q).dt.cmdTail ∧
      s.outstanding (dtInst q) < 256) ∧
    (∃ (s : State) (q : PortId) (ok : Bool) (b : Byte) (p : CmdPkt),
      (s.canReach (dtInst q) = false ∨ (s.port q).dtUp = false ∨ (s.port q).dt.bme = false ∨ (s.port q).dt.cfg.getLsbD 0 = false ∨ (s.port q).dt.cmdHead = (s.port q).dt.cmdTail ∨ 256 ≤ s.outstanding (dtInst q))) :=
  ⟨⟨mb, {}, false, 3, 0, 4, pk 4 [], 0, [1, 2], by decide +kernel⟩,
    ⟨mb, { kind := .ring, inst := 0 }, false, 3, 0, 4, pk 4 [], 0, [1, 2], by decide +kernel⟩,
    ⟨mb, { kind := .dovetail, inst := 7 }, false, 3, 0, 4, pk 4 [], 0, [1, 2], by decide +kernel⟩,
    ⟨dovet mb, { kind := .dovetail, inst := 7 }, false, 3, 0, 4, pk 4 [], 0, [1, 2], by decide +kernel⟩,
    ⟨mb, {}, 4, { crc := 3 }, by decide +kernel⟩,
    ⟨mb, {}, 4, pk 4 [], by decide +kernel⟩,
    ⟨mb, {}, 0x7F, pk 0x7F [], by decide +kernel⟩,
    ⟨mb, {}, 0x7F, pk 0x7E [], by decide +kernel⟩,
    ⟨mb, {}, 4, pk 4 [], by decide +kernel⟩,
    ⟨mj 0x30 [], {}, by decide +kernel⟩,
    ⟨ringed mb, { kind := .ring, inst := 0 }, by decide +kernel⟩,
    ⟨dovet mb, { kind := .dovetail, inst := 7 }, by decide +kernel⟩,
    ⟨{ mb with off := true }, {}, by decide +kernel⟩,
    ⟨{ mb with frames := [(0, { mb.frame 0 with ring := { cmdInF := 0x10000, cmdHead := 3, cmdTail := 5, cfg := 0x881 } })], mem := [] }, 0, 0x16000, false, 0, {}, by decide +kernel⟩,
    ⟨{ mb with frames := [(0, { mb.frame 0 with ring := { cmdInF := 0x10000, cmdHead := 3, cmdTail := 5, cfg := 0x881 } })], mem := [] }, 0, 0x16000, 0, {}, by decide +kernel⟩,
    ⟨let s0 : State := { mb with frames := [(0, { mb.frame 0 with ring := { cmdInF := 0x10000, cmdHead := 3, cmdTail := 5, cfg := 0x881 } })], mem := [] }; { s0 with ncBuf := [{ owner := .fetch 0, line := 0x580, err := true }] }, 0, 0x16000, { owner := .fetch 0, line := 0x580, err := true }, 0, {}, by decide +kernel⟩,
    ⟨let s0 : State := { mb with frames := [(0, { mb.frame 0 with ring := { cmdInF := 0x10000, cmdHead := 3, cmdTail := 5, cfg := 0x881 } })], mem := [] }; { s0 with ncBuf := [{ owner := .fetch 0, line := 0x580, poison := true }] }, 0, 0x16000, { owner := .fetch 0, line := 0x580, poison := true }, 0, {}, by decide +kernel⟩,
    ⟨let s0 : State := { mb with frames := [(0, { mb.frame 0 with ring := { cmdInF := 0x10000, cmdHead := 3, cmdTail := 5, cfg := 0x881 } })], mem := [] }; { s0 with ncBuf := [{ owner := .fetch 0, line := 0x580, data := BitVec.ofNat 512 (64 * 2 ^ 32) }] }, 0, 0x16000, { owner := .fetch 0, line := 0x580, data := BitVec.ofNat 512 (64 * 2 ^ 32) }, 0, {}, by decide +kernel⟩,
    ⟨let s0 : State := { mb with frames := [(0, { mb.frame 0 with ring := { cmdInF := 0x10000, cmdHead := 3, cmdTail := 5, cfg := 0x881 } })], mem := [] }; { s0 with ncBuf := [{ owner := .fetch 0, line := 0x580, data := BitVec.ofNat 512 (64 * 2 ^ 32) }, { owner := .fetch 0, line := 0x581, err := true }] }, 0, 0x16000, { owner := .fetch 0, line := 0x580, data := BitVec.ofNat 512 (64 * 2 ^ 32) }, 0, {}, by decide +kernel⟩,
    ⟨let s0 : State := { mb with frames := [(0, { mb.frame 0 with ring := { cmdInF := 0x10000, cmdHead := 3, cmdTail := 5, cfg := 0x881 } })], mem := [] }; { s0 with ncBuf := [{ owner := .fetch 0, line := 0x580, data := BitVec.ofNat 512 (64 * 2 ^ 32) }, { owner := .fetch 0, line := 0x581, poison := true }] }, 0, 0x16000, { owner := .fetch 0, line := 0x580, data := BitVec.ofNat 512 (64 * 2 ^ 32) }, 0, {}, { owner := .fetch 0, line := 0x581, poison := true }, by decide +kernel⟩,
    ⟨let s0 : State := { mb with frames := [(0, { mb.frame 0 with ring := { cmdInF := 0x10000, cmdHead := 3, cmdTail := 5, cfg := 0x881 } })], mem := [] }; { s0 with ncBuf := [{ owner := .fetch 0, line := 0x580 }] }, 0, 0x16000, { owner := .fetch 0, line := 0x580 }, 0, {}, let s0 : State := { mb with frames := [(0, { mb.frame 0 with ring := { cmdInF := 0x10000, cmdHead := 3, cmdTail := 5, cfg := 0x881 } })], mem := [] }; { s0 with ncBuf := [] }.setFrame 0 { ({ mb with frames := [(0, { mb.frame 0 with ring := { cmdInF := 0x10000, cmdHead := 3, cmdTail := 5, cfg := 0x881 } })], mem := [] }).frame 0 with ring := { (({ mb with frames := [(0, { mb.frame 0 with ring := { cmdInF := 0x10000, cmdHead := 3, cmdTail := 5, cfg := 0x881 } })], mem := [] }).frame 0).ring with cmdHead := 4 } }, by decide +kernel⟩,
    ⟨mb, 0, true, 0, {}, by decide +kernel⟩,
    ⟨{ mb with ncOps := [{}] }, 0, true, 0, {}, by decide +kernel⟩,
    ⟨mb.setPort 7 { pers := 3, inReset := false, dt := { link := 2, bme := true, mse := true, cfg := 0x881, cmdHead := 3, cmdTail := 5 } }, 7, true, 4, pk 4 [1], by decide +kernel⟩,
    ⟨mb.setPort 7 { pers := 3, inReset := false, dt := { link := 2, bme := true, mse := true, cfg := 0x881, cmdHead := 3, cmdTail := 5 } }, 7, false, 4, pk 4 [1], by decide +kernel⟩,
    ⟨mb, 7, true, 4, pk 4 [1], by decide +kernel⟩⟩

/-- States and operands that meet the hypotheses of MctpControl. -/
theorem witness_MctpControl :
    (∃ (s : State) (a : BitVec 7),
      s.live = true) ∧
    (∃ (s : State) (e : Byte),
      s.live = true ∧
      8 ≤ e.toNat ∧
      e.toNat ≠ 0xFF ∧
      s.plumb.eid = 0) ∧
    (∃ (s : State) (e : Byte),
      s.live = true ∧
      8 ≤ e.toNat ∧
      e.toNat ≠ 0xFF ∧
      s.plumb.eid ≠ 0) ∧
    (∃ (s : State) (e : Byte),
      s.live = true ∧
      (e.toNat < 8 ∨ e.toNat = 0xFF)) ∧
    (∃ (s : State),
      s.live = true) ∧
    (∃ (s : State),
      s.live = true) ∧
    (∃ (s : State),
      s.live = true) ∧
    (∃ (s : State),
      s.live = true) ∧
    (∃ (s : State),
      s.live = true) ∧
    (∃ (s : State) (a : BitVec 7) (e : Byte),
      s.live = false) :=
  ⟨⟨mb, 9, by decide +kernel⟩,
    ⟨base, 12, by decide +kernel⟩,
    ⟨mj 0x30 [], 12, by decide +kernel⟩,
    ⟨mb, 3, by decide +kernel⟩,
    ⟨mb, by decide +kernel⟩,
    ⟨mb, by decide +kernel⟩,
    ⟨mb, by decide +kernel⟩,
    ⟨mb, by decide +kernel⟩,
    ⟨mb, by decide +kernel⟩,
    ⟨{ mb with off := true }, 9, 12, by decide +kernel⟩⟩

/-- States and operands that meet the hypotheses of SpdmResponder. -/
theorem witness_SpdmResponder :
    (∃ (s : State) (x : TInst) (v : Byte),
      s.spdmReach x = true ∧
      v.toNat = 0x10) ∧
    (∃ (s : State) (x : TInst) (v : Byte),
      s.spdmReach x = true ∧
      v.toNat ≠ 0x10) ∧
    (∃ (s : State) (x : TInst) (v : Byte),
      s.spdmReach x = true ∧
      (s.spdmOf x).version = true ∧
      v.toNat = 0x11) ∧
    (∃ (s : State) (x : TInst) (v : Byte),
      s.spdmReach x = true ∧
      (s.spdmOf x).version = true ∧
      v.toNat = 0x12) ∧
    (∃ (s : State) (x : TInst) (v : Byte),
      s.spdmReach x = true ∧
      (s.spdmOf x).version = true ∧
      (v.toNat ≠ 0x11 ∧ v.toNat ≠ 0x12)) ∧
    (∃ (s : State) (x : TInst) (v : Byte),
      s.spdmReach x = true ∧
      (s.spdmOf x).version = false) ∧
    (∃ (s : State) (x : TInst) (v : Byte),
      s.spdmReach x = true ∧
      (s.spdmOf x).caps = true ∧
      v.toNat = (s.spdmOf x).ver) ∧
    (∃ (s : State) (x : TInst) (v : Byte) (a b : Bool),
      s.spdmReach x = true ∧
      (s.spdmOf x).caps = true ∧
      v.toNat = (s.spdmOf x).ver ∧
      (a = false ∨ b = false)) ∧
    (∃ (s : State) (x : TInst) (v : Byte) (a b : Bool),
      s.spdmReach x = true ∧
      (s.spdmOf x).caps = false) ∧
    (∃ (s : State) (x : TInst) (v : Byte) (a b : Bool),
      s.spdmReach x = true ∧
      (s.spdmOf x).caps = true ∧
      v.toNat ≠ (s.spdmOf x).ver) ∧
    (∃ (s : State) (x : TInst) (v : Byte),
      s.spdmReach x = true ∧
      (s.spdmOf x).algs = true ∧
      v.toNat = (s.spdmOf x).ver) ∧
    (∃ (s : State) (x : TInst) (v k : Byte) (o n : BitVec 16),
      s.spdmReach x = true ∧
      (s.spdmOf x).algs = true ∧
      v.toNat = (s.spdmOf x).ver ∧
      k = 0) ∧
    (∃ (s : State) (x : TInst) (v k : Byte) (o n : BitVec 16),
      s.spdmReach x = true ∧
      (s.spdmOf x).algs = true ∧
      v.toNat = (s.spdmOf x).ver ∧
      k ≠ 0) ∧
    (∃ (s : State) (x : TInst) (v k : Byte) (n : BitVec 256),
      s.spdmReach x = true ∧
      (s.spdmOf x).algs = true ∧
      v.toNat = (s.spdmOf x).ver ∧
      k ≠ 0) ∧
    (∃ (s : State) (x : TInst) (v k : Byte) (n : BitVec 256),
      s.spdmReach x = true ∧
      (s.spdmOf x).algs = true ∧
      v.toNat = (s.spdmOf x).ver ∧
      k = 0) ∧
    (∃ (s : State) (x : TInst) (v i : Byte) (g : Bool) (n : BitVec 256),
      s.spdmReach x = true ∧
      (s.spdmOf x).algs = true ∧
      v.toNat = (s.spdmOf x).ver ∧
      i = 0) ∧
    (∃ (s : State) (x : TInst) (v i : Byte) (g : Bool) (n : BitVec 256),
      s.spdmReach x = true ∧
      (s.spdmOf x).algs = true ∧
      v.toNat = (s.spdmOf x).ver ∧
      i.toNat = 0xFF ∧
      (s.blocks x) ≠ []) ∧
    (∃ (s : State) (x : TInst) (v i : Byte) (g : Bool) (n : BitVec 256),
      s.spdmReach x = true ∧
      (s.spdmOf x).algs = true ∧
      v.toNat = (s.spdmOf x).ver ∧
      (i.toNat ≠ 0 ∧ i.toNat ≠ 0xFF) ∧
      ((s.blocks x).filter (fun b => b == i.toNat)) ≠ []) ∧
    (∃ (s : State) (x : TInst) (v i : Byte) (g : Bool) (n : BitVec 256),
      s.spdmReach x = true ∧
      (s.spdmOf x).algs = true ∧
      v.toNat = (s.spdmOf x).ver ∧
      (i.toNat ≠ 0 ∧ i.toNat ≠ 0xFF) ∧
      ((s.blocks x).filter (fun b => b == i.toNat)) = []) ∧
    (∃ (s : State) (x : TInst) (v k : Byte),
      s.spdmReach x = true) ∧
    (∃ (s : State) (x : TInst) (v k : Byte) (o n : BitVec 16) (m : BitVec 256) (g : Bool),
      s.spdmReach x = true ∧
      (s.spdmOf x).algs = false) ∧
    (∃ (s : State) (x : TInst) (v k : Byte) (o n : BitVec 16) (m : BitVec 256) (g : Bool),
      s.spdmReach x = true ∧
      (s.spdmOf x).algs = true ∧
      v.toNat ≠ (s.spdmOf x).ver) ∧
    (∃ (s : State) (x : TInst) (v k : Byte) (o n : BitVec 16) (m : BitVec 256) (g : Bool),
      s.spdmReach x = false) :=
  ⟨⟨{ mb with plumb := { (mb).plumb with spdm := [(0, { version := true, caps := true, algs := true, ver := 0x12 })] } }, {}, 0x10, by decide +kernel⟩,
    ⟨{ mb with plumb := { (mb).plumb with spdm := [(0, { version := true, caps := true, algs := true, ver := 0x12 })] } }, {}, 0x11, by decide +kernel⟩,
    ⟨{ mb with plumb := { (mb).plumb with spdm := [(0, { version := true })] } }, {}, 0x11, by decide +kernel⟩,
    ⟨{ mb with plumb := { (mb).plumb with spdm := [(0, { version := true })] } }, {}, 0x12, by decide +kernel⟩,
    ⟨{ mb with plumb := { (mb).plumb with spdm := [(0, { version := true })] } }, {}, 0x13, by decide +kernel⟩,
    ⟨{ mb with plumb := { (mb).plumb with spdm := [(0, {})] } }, {}, 0x12, by decide +kernel⟩,
    ⟨{ mb with plumb := { (mb).plumb with spdm := [(0, { version := true, caps := true, ver := 0x11 })] } }, {}, 0x11, by decide +kernel⟩,
    ⟨{ mb with plumb := { (mb).plumb with spdm := [(0, { version := true, caps := true, ver := 0x11 })] } }, {}, 0x11, true, false, by decide +kernel⟩,
    ⟨{ mb with plumb := { (mb).plumb with spdm := [(0, { version := true })] } }, {}, 0x11, true, true, by decide +kernel⟩,
    ⟨{ mb with plumb := { (mb).plumb with spdm := [(0, { version := true, caps := true, ver := 0x11 })] } }, {}, 0x12, true, true, by decide +kernel⟩,
    ⟨{ mb with plumb := { (mb).plumb with spdm := [(0, { version := true, caps := true, algs := true, ver := 0x12 })] } }, {}, 0x12, by decide +kernel⟩,
    ⟨{ mb with plumb := { (mb).plumb with spdm := [(0, { version := true, caps := true, algs := true, ver := 0x12 })] } }, {}, 0x12, 0, 0, 9, by decide +kernel⟩,
    ⟨{ mb with plumb := { (mb).plumb with spdm := [(0, { version := true, caps := true, algs := true, ver := 0x12 })] } }, {}, 0x12, 3, 0, 4, by decide +kernel⟩,
    ⟨{ mb with plumb := { (mb).plumb with spdm := [(0, { version := true, caps := true, algs := true, ver := 0x12 })] } }, {}, 0x12, 3, 0, by decide +kernel⟩,
    ⟨{ mb with plumb := { (mb).plumb with spdm := [(0, { version := true, caps := true, algs := true, ver := 0x12 })] } }, {}, 0x12, 0, 7, by decide +kernel⟩,
    ⟨{ mb with plumb := { (mb).plumb with spdm := [(0, { version := true, caps := true, algs := true, ver := 0x12 })] } }, {}, 0x12, 0, false, 7, by decide +kernel⟩,
    ⟨{ mb with plumb := { (mb).plumb with spdm := [(0, { version := true, caps := true, algs := true, ver := 0x12 })] } }, {}, 0x12, 0xFF, true, 7, by decide +kernel⟩,
    ⟨{ mb with plumb := { (mb).plumb with spdm := [(0, { version := true, caps := true, algs := true, ver := 0x12 })] } }, {}, 0x12, 3, true, 7, by decide +kernel⟩,
    ⟨{ mb with plumb := { (mb).plumb with spdm := [(0, { version := true, caps := true, algs := true, ver := 0x12 })] } }, {}, 0x12, 0x50, true, 7, by decide +kernel⟩,
    ⟨{ mb with plumb := { (mb).plumb with spdm := [(0, { version := true, caps := true, algs := true, ver := 0x12 })] } }, {}, 0x12, 0xE4, by decide +kernel⟩,
    ⟨{ mb with plumb := { (mb).plumb with spdm := [(0, { version := true })] } }, {}, 0x12, 0, 0, 4, 0, true, by decide +kernel⟩,
    ⟨{ mb with plumb := { (mb).plumb with spdm := [(0, { version := true, caps := true, algs := true, ver := 0x12 })] } }, {}, 0x11, 0, 0, 4, 0, true, by decide +kernel⟩,
    ⟨{ mb with plumb := { (mb).plumb with spdm := [(0, { version := true, caps := true, algs := true, ver := 0x12 })] } }, { kind := .ring, inst := 0 }, 0x11, 0, 0, 4, 0, true, by decide +kernel⟩⟩

/-- States and operands that meet the hypotheses of WindowSelections. -/
theorem witness_WindowSelections :
    (∃ (s : State) (a : AccessPort) (w : Win) (p : Part) (v : Word),
      s.apLive a = true ∧
      (a = .debug → s.plumb.dbgOpen = true) ∧
      (w = .nq → s.nqWait = [] ∧ s.nqStalls a = false) ∧
      w ≠ .global ∧
      ((w = .nq ∨ w = .cmdq) → apFrame a = none) ∧
      p ≠ .hi) ∧
    (∃ (s : State) (a : AccessPort) (w : Win) (p : Part) (v : Word),
      s.apLive a = true ∧
      (w = .nq → s.nqWait = [] ∧ s.nqStalls a = false) ∧
      ((a = .debug ∧ s.plumb.dbgOpen = false) ∨ w = .global ∨ p = .hi ∨ ((w = .nq ∨ w = .cmdq) ∧ (apFrame a).isSome = true))) ∧
    (∃ (s : State) (a : AccessPort) (i : Nat) (n : Word) (q : NQueue),
      s.apLive a = true ∧
      (a = .debug → s.plumb.dbgOpen = true) ∧
      s.nqWait = [] ∧
      s.selInvalid a .nq = false ∧
      i = s.selInst a .nq ∧
      (s.frame i).nq.take = some (n, q)) ∧
    (∃ (s : State) (a : AccessPort) (i : Nat),
      s.apLive a = true ∧
      (a = .debug → s.plumb.dbgOpen = true) ∧
      s.nqWait = [] ∧
      s.selInvalid a .nq = false ∧
      i = s.selInst a .nq ∧
      (s.frame i).nq.take = none) ∧
    (∃ (s : State) (f : FrameId) (p : Part),
      s.nqWait = [] ∧
      s.nqStalls (.host f) = false ∧
      (s.apLive (.host f) = false ∨ s.selInvalid (.host f) .nq = true ∨ p ≠ .full)) ∧
    (∃ (s : State) (a : AccessPort) (p : Part),
      s.apLive a = true ∧
      (a = .debug → s.plumb.dbgOpen = true) ∧
      s.nqWait = [] ∧
      s.nqStalls a = false ∧
      apFrame a = none ∧
      s.selInvalid a .nq = false ∧
      p ≠ .full) ∧
    (∃ (s : State) (a : AccessPort) (p : Part),
      s.apLive a = true ∧
      s.nqWait = [] ∧
      s.nqStalls a = false ∧
      apFrame a = none ∧
      ((a = .debug ∧ s.plumb.dbgOpen = false) ∨ s.selInvalid a .nq = true)) ∧
    (∃ (s : State) (a : AccessPort) (p : Part),
      s.apLive a = true ∧
      s.nqWait = [] ∧
      s.nqStalls a = true ∧
      p ≠ .full) ∧
    (∃ (s : State) (a : AccessPort) (p : Part) (v : Word),
      s.apLive a = true ∧
      s.nqWait = [] ∧
      s.nqStalls a = true) ∧
    (∃ (s : State) (f : FrameId) (w : NqReader) (l : List NqReader),
      (s.frame f).nq.stalled = w :: l ∧
      w.hart = none ∧
      s.nqWait = []) ∧
    (∃ (s : State) (f : FrameId) (a : Option AccessPort) (c : Nat) (d : Dest) (l : List NqReader),
      (s.frame f).nq.stalled = { ap := a, hart := some (c, d) } :: l ∧
      s.nqWait = []) ∧
    (∃ (s : State) (f : FrameId) (a : AccessPort) (x : NqAcc) (u : State),
      (s.frame f).nq.stalled = [{ ap := some a }] ∧
      s.nqWait = [x] ∧
      x.ap = a ∧
      u = ({ s with nqWait := [] } : State).setFrame f { s.frame f with nq := { (s.frame f).nq with stalled := [], popped := (s.frame f).nq.popped ++ [0] } } ∧
      u.nqStalls a = false) ∧
    (∃ (s : State) (x : NqAcc) (o : BitVec 16),
      s.apLive x.ap = true ∧
      s.nqWait = [] ∧
      s.nqStalls x.ap = false ∧
      (x.wr = true ∧ x.off = o.toNat ∧ x.off % 8 = 0)) ∧
    (∃ (s : State) (x : NqAcc),
      s.apLive x.ap = true ∧
      s.nqWait = [] ∧
      s.nqStalls x.ap = false ∧
      (x.wr = false ∧ x.off = 0x100)) ∧
    (∃ (s : State) (q : PortId),
      (s.port q).dt.nq.stalled ≠ []) ∧
    (∃ (s : State) (f : FrameId) (q : PortId),
      (s.frame f).nq.stalled = [] ∧
      (s.port q).dt.nq.stalled = []) ∧
    (∃ (s : State) (f : FrameId) (v : Word),
      (1 ≤ v.toNat % 256 ∧ v.toNat % 256 ≤ 252) ∧
      s.live = true ∧
      s.isBooted f = true ∧
      s.nqWait = [] ∧
      s.nqStalls (.host f) = false) ∧
    (∃ (s : State) (f : FrameId) (v : Word),
      (1 ≤ v.toNat % 256 ∧ v.toNat % 256 ≤ 252) ∧
      s.live = true ∧
      s.isBooted f = true ∧
      s.nqWait = [] ∧
      s.nqStalls (.host f) = true) ∧
    (∃ (s : State) (q : PortId) (v : Word),
      (1 ≤ v.toNat % 256 ∧ v.toNat % 256 ≤ 252) ∧
      (s.port q).barOpen = true ∧
      (s.port q).dtHeld = true) ∧
    (∃ (s : State) (q : PortId) (v : Word),
      (1 ≤ v.toNat % 256 ∧ v.toNat % 256 ≤ 252) ∧
      (s.port q).barOpen = true ∧
      (s.port q).dtHeld = false) ∧
    (∃ (s : State) (n : NqId) (v : Word),
      (v.toNat % 256 < 1 ∨ 252 < v.toNat % 256)) ∧
    (∃ (s : State) (f : FrameId) (v : Word),
      (s.live = false ∨ s.isBooted f = false)) ∧
    (∃ (s : State) (q : PortId) (v : Word),
      (s.port q).barOpen = false) ∧
    (∃ (s : State) (a : AccessPort) (p : Part) (v : Word),
      s.apLive a = true ∧
      (a = .debug → s.plumb.dbgOpen = true) ∧
      s.selInvalid a .bay = true) ∧
    (∃ (s : State) (a : AccessPort) (p : Part) (v : Word),
      s.apLive a = true ∧
      (a = .debug → s.plumb.dbgOpen = true) ∧
      s.selInvalid a .tenon = true) ∧
    (∃ (s : State) (a : AccessPort) (p : Part) (k : Fin 4) (v : Word),
      s.apLive a = true ∧
      (a = .debug → s.plumb.dbgOpen = true) ∧
      s.selInvalid a .upmu = true) ∧
    (∃ (s : State) (a : AccessPort) (p : Part) (k : Fin 4) (v : Word),
      s.apLive a = true ∧
      (a = .debug → s.plumb.dbgOpen = true) ∧
      s.selInvalid a .upmu = true) ∧
    (∃ (s : State) (a : AccessPort) (p : Part) (v : Word),
      s.apLive a = true ∧
      (a = .debug → s.plumb.dbgOpen = true) ∧
      s.selInvalid a .cmdq = true) ∧
    (∃ (s : State) (a : AccessPort) (p : Part) (v : Word),
      s.apLive a = true ∧
      (a = .debug → s.plumb.dbgOpen = true) ∧
      s.selInvalid a .cmdq = true) ∧
    (∃ (s : State) (a : AccessPort) (p : Part) (v : Word),
      s.apLive a = true ∧
      (a = .debug → s.plumb.dbgOpen = true) ∧
      s.selInvalid a .cmdq = true) ∧
    (∃ (s : State) (a : AccessPort) (g : Bool) (v : Word),
      s.apLive a = true ∧
      (a = .debug → s.plumb.dbgOpen = true) ∧
      s.selInvalid a .qos = true) ∧
    (∃ (s : State) (a : AccessPort) (w : Win) (o : BitVec 16) (p : Part) (v : Word),
      s.apLive a = true ∧
      (a = .debug → s.plumb.dbgOpen = true) ∧
      (w = .nq → s.nqWait = [] ∧ s.nqStalls a = false) ∧
      s.selInvalid a w = true ∧
      (o.toNat % 8 = 0 ∧ 0x100 ≤ o.toNat)) ∧
    (∃ (s : State) (f : FrameId) (cause inst off : Nat),
      (s.frame f).csErr.getLsbD 47 = false ∧
      fld (s.frame f).csErr 63 48 = 0 ∧
      (off < 2 ^ 32 ∧ cause < 8)) ∧
    (∃ (s : State) (f : FrameId) (cause inst off : Nat),
      (s.frame f).csErr.getLsbD 47 = true) ∧
    (∃ (s : State) (a : AccessPort) (w : Win) (p : Part) (k : Fin 4) (v : Word) (g : Bool) (o : BitVec 16),
      s.apLive a = false) :=
  ⟨⟨base, .debug, .port, .full, 3, by decide +kernel⟩,
    ⟨base, .host 0, .nq, .full, 3, by decide +kernel⟩,
    ⟨base.setFrame 0 { base.frame 0 with nq := { held := [(0, 0x77), (1, 5)], no := 2 } }, .host 0, 0, 0x77, { held := [(1, 5)], no := 2 }, by decide +kernel⟩,
    ⟨base, .host 0, 0, by decide +kernel⟩,
    ⟨base, 0, .lo, by decide +kernel⟩,
    ⟨base, .plumb, .lo, by decide +kernel⟩,
    ⟨{ base with sel := { inst := [(selKey .plumb .nq, 7)] } }, .plumb, .full, by decide +kernel⟩,
    ⟨{ base with frames := [(0, { base.frame 0 with nq := { stalled := [{ ap := some (.host 0) }, { ap := some .plumb }] } })] }, .plumb, .lo, by decide +kernel⟩,
    ⟨{ base with frames := [(0, { base.frame 0 with nq := { stalled := [{ ap := some (.host 0) }, { ap := some .plumb }] } })] }, .plumb, .lo, 3, by decide +kernel⟩,
    ⟨base.setFrame 0 { base.frame 0 with nq := { stalled := [{}, {}] } }, 0, {}, [{}], by decide +kernel⟩,
    ⟨base.setFrame 0 { base.frame 0 with nq := { stalled := [{ ap := some (.host 0), hart := some (0, .x 3) }] } }, 0, some (.host 0), 0, .x 3, [], by decide +kernel⟩,
    ⟨let s0 : State := base.setFrame 0 { base.frame 0 with nq := { stalled := [{ ap := some .plumb }] } }; { s0 with nqWait := [{ ap := .plumb, off := 0x100, part := .lo }] }, 0, .plumb, { ap := .plumb, off := 0x100, part := .lo }, (base.setFrame 0 { base.frame 0 with nq := { popped := [0] } }), by decide +kernel⟩,
    ⟨base, { ap := .plumb, off := 0x110, part := .lo, wr := true, val := 9 }, 0x110, by decide +kernel⟩,
    ⟨base, { ap := .plumb, off := 0x100, part := .lo }, by decide +kernel⟩,
    ⟨let s0 : State := dovet base; s0.setPort 7 { s0.port 7 with dt := { (s0.port 7).dt with nq := { stalled := [{}] } } }, 7, by decide +kernel⟩,
    ⟨base, 0, 2, by decide +kernel⟩,
    ⟨base, 0, 9, by decide +kernel⟩,
    ⟨{ base with frames := [(0, { base.frame 0 with nq := { stalled := [{ ap := some (.host 0) }, { ap := some .plumb }] } })] }, 0, 9, by decide +kernel⟩,
    ⟨let s0 : State := base.setPort 2 { base.port 2 with pers := 3, dt := { link := 3, mse := true, ready := true, linkWas := true } }; s0.setPort 2 { s0.port 2 with inb := [(0, { root := 9, posted := true })] }, 2, 9, by decide +kernel⟩,
    ⟨base.setPort 2 { base.port 2 with pers := 3, dt := { link := 3, mse := true, ready := true, linkWas := true } }, 2, 9, by decide +kernel⟩,
    ⟨base, .frame 0, 0, by decide +kernel⟩,
    ⟨{ base with off := true }, 0, 9, by decide +kernel⟩,
    ⟨base, 2, 9, by decide +kernel⟩,
    ⟨{ base with sel := { inst := [(selKey .plumb .bay, 200), (selKey (.host 0) .bay, 200), (selKey .debug .bay, 200)] } }, .plumb, .full, 1, by decide +kernel⟩,
    ⟨{ base with sel := { inst := [(selKey .plumb .tenon, 200), (selKey (.host 0) .tenon, 200), (selKey .debug .tenon, 200)] } }, .plumb, .full, 1, by decide +kernel⟩,
    ⟨{ base with sel := { inst := [(selKey .plumb .upmu, 200), (selKey (.host 0) .upmu, 200), (selKey .debug .upmu, 200)] } }, .plumb, .full, 1, 1, by decide +kernel⟩,
    ⟨{ base with sel := { inst := [(selKey .plumb .upmu, 200), (selKey (.host 0) .upmu, 200), (selKey .debug .upmu, 200)] } }, .plumb, .full, 1, 1, by decide +kernel⟩,
    ⟨{ base with sel := { inst := [(selKey .plumb .cmdq, 200), (selKey (.host 0) .cmdq, 200), (selKey .debug .cmdq, 200)] } }, .plumb, .full, 1, by decide +kernel⟩,
    ⟨{ base with sel := { inst := [(selKey .plumb .cmdq, 200), (selKey (.host 0) .cmdq, 200), (selKey .debug .cmdq, 200)] } }, .plumb, .full, 1, by decide +kernel⟩,
    ⟨{ base with sel := { inst := [(selKey .plumb .cmdq, 200), (selKey (.host 0) .cmdq, 200), (selKey .debug .cmdq, 200)] } }, .plumb, .full, 1, by decide +kernel⟩,
    ⟨{ base with sel := { inst := [(selKey .plumb .qos, 200)] } }, .plumb, true, 1, by decide +kernel⟩,
    ⟨{ base with sel := { inst := [(selKey .plumb .mch, 200)] } }, .plumb, .mch, 0x110, .lo, 1, by decide +kernel⟩,
    ⟨base, 0, 1, 200, 0x20100, by decide +kernel⟩,
    ⟨base.setFrame 0 { base.frame 0 with csErr := 0x1900500020100 }, 0, 1, 200, 0x20100, by decide +kernel⟩,
    ⟨{ base with off := true }, .plumb, .mch, .full, 1, 3, true, 0x110, by decide +kernel⟩⟩

/-- States and operands that meet the hypotheses of WindowRegisterWrites. -/
theorem witness_WindowRegisterWrites :
    (∃ (s : State) (a : AccessPort) (i : Nat) (p : Part) (v : Word),
      s.apLive a = true ∧
      (a = .debug → s.plumb.dbgOpen = true) ∧
      s.selInvalid a .cmdq = false ∧
      i = s.selInst a .cmdq ∧
      p ≠ .hi) ∧
    (∃ (s : State) (a : AccessPort) (i : Nat) (p : Part) (v : Word),
      s.apLive a = true ∧
      (a = .debug → s.plumb.dbgOpen = true) ∧
      s.selInvalid a .cmdq = false ∧
      i = s.selInst a .cmdq ∧
      p = .hi) ∧
    (∃ (s : State) (a : AccessPort) (i : Nat) (p : Part) (v : Word),
      s.apLive a = true ∧
      (a = .debug → s.plumb.dbgOpen = true) ∧
      s.selInvalid a .cmdq = false ∧
      i = s.selInst a .cmdq ∧
      p ≠ .hi) ∧
    (∃ (s : State) (a : AccessPort) (i : Nat) (p : Part) (v : Word),
      s.apLive a = true ∧
      (a = .debug → s.plumb.dbgOpen = true) ∧
      s.selInvalid a .cmdq = false ∧
      i = s.selInst a .cmdq ∧
      p = .hi ∧
      ((s.frame i).ring.rplHead < 2 ^ (s.frame i).ring.logInF.2 ∧ (s.frame i).ring.rplHead < 256)) ∧
    (∃ (s : State) (a : AccessPort) (i : Nat) (p : Part) (v : Word),
      s.apLive a = true ∧
      (a = .debug → s.plumb.dbgOpen = true) ∧
      s.selInvalid a .cmdq = false ∧
      i = s.selInst a .cmdq ∧
      (s.frame i).ring.cfg.toNat % 4 = 0 ∧
      p ≠ .hi ∧
      v.toNat % 4 = 3 ∧
      (4 ≤ v.toNat / 2 ^ 8 % 16 ∧ v.toNat / 2 ^ 8 % 16 ≤ 8) ∧
      (4 ≤ v.toNat / 2 ^ 12 % 16 ∧ v.toNat / 2 ^ 12 % 16 ≤ 8)) ∧
    (∃ (s : State) (a : AccessPort) (i : Nat) (p : Part) (v : Word),
      s.apLive a = true ∧
      (a = .debug → s.plumb.dbgOpen = true) ∧
      s.selInvalid a .cmdq = false ∧
      i = s.selInst a .cmdq ∧
      p ≠ .hi ∧
      (v.toNat / 2 ^ 8 % 16 < 4 ∨ 8 < v.toNat / 2 ^ 8 % 16 ∨ v.toNat / 2 ^ 12 % 16 < 4 ∨ 8 < v.toNat / 2 ^ 12 % 16)) ∧
    (∃ (s : State) (a : AccessPort) (i : Nat) (p : Part) (v : Word),
      s.apLive a = true ∧
      (a = .debug → s.plumb.dbgOpen = true) ∧
      s.selInvalid a .cmdq = false ∧
      i = s.selInst a .cmdq ∧
      p ≠ .hi ∧
      (s.frame i).ring.cfg.toNat % 4 = 3 ∧
      v.toNat % 4 = 0 ∧
      (4 ≤ v.toNat / 2 ^ 8 % 16 ∧ v.toNat / 2 ^ 8 % 16 ≤ 8) ∧
      (4 ≤ v.toNat / 2 ^ 12 % 16 ∧ v.toNat / 2 ^ 12 % 16 ≤ 8) ∧
      (s.frame i).ring.cfg &&& ~~~ 0xFF03 = 0) ∧
    (∃ (s : State) (a : AccessPort) (i : Nat) (p : Part) (v : Word),
      s.apLive a = true ∧
      (a = .debug → s.plumb.dbgOpen = true) ∧
      s.selInvalid a .bay = false ∧
      i = s.selInst a .bay ∧
      (s.home i).arrayFail = false) ∧
    (∃ (s : State) (a : AccessPort) (i : Nat) (p : Part) (v : Word),
      s.apLive a = true ∧
      (a = .debug → s.plumb.dbgOpen = true) ∧
      s.selInvalid a .bay = false ∧
      i = s.selInst a .bay ∧
      (s.home i).arrayFail = true) ∧
    (∃ (s : State) (a : AccessPort) (i : Nat) (p : Part) (v : Word),
      s.apLive a = true ∧
      (a = .debug → s.plumb.dbgOpen = true) ∧
      s.selInvalid a .tenon = false ∧
      i = s.selInst a .tenon ∧
      (apFrame a = none ∨ frameCount s.mode = 1) ∧
      ((1 ≤ (mergePart p s.threshold v).toNat / 65536 % 256 ∧ (mergePart p s.threshold v).toNat / 65536 % 256 ≤ 100) ∧ (1 ≤ (mergePart p s.threshold v).toNat / 256 % 256 ∧ (mergePart p s.threshold v).toNat / 256 % 256 ≤ 100) ∧ 4 ≤ (mergePart p s.threshold v).toNat % 256 ∧ (mergePart p s.threshold v).toNat % 256 ≤ 64)) ∧
    (∃ (s : State) (a : AccessPort) (i : Nat) (p : Part) (v : Word),
      s.apLive a = true ∧
      (a = .debug → s.plumb.dbgOpen = true) ∧
      s.selInvalid a .tenon = false ∧
      i = s.selInst a .tenon ∧
      (apFrame a = none ∨ frameCount s.mode = 1) ∧
      (¬((1 ≤ (mergePart p s.threshold v).toNat / 65536 % 256 ∧ (mergePart p s.threshold v).toNat / 65536 % 256 ≤ 100) ∧ (1 ≤ (mergePart p s.threshold v).toNat / 256 % 256 ∧ (mergePart p s.threshold v).toNat / 256 % 256 ≤ 100) ∧ 4 ≤ (mergePart p s.threshold v).toNat % 256 ∧ (mergePart p s.threshold v).toNat % 256 ≤ 64))) ∧
    (∃ (s : State) (f : FrameId) (p : Part) (v : Word),
      s.apLive (.host f) = true ∧
      s.selInvalid (.host f) .tenon = false ∧
      frameCount s.mode ≠ 1) ∧
    (∃ (s : State) (a : AccessPort) (i : Nat) (p : Part) (k : Fin 4) (v : Word),
      s.apLive a = true ∧
      (a = .debug → s.plumb.dbgOpen = true) ∧
      s.selInvalid a .upmu = false ∧
      i = s.selInst a .upmu ∧
      upmuEvent (upmuKind i) ((mergePart p (Tab.get (s.upmu i).ctl 0 k.val) v).toNat % 65536) = true) ∧
    (∃ (s : State) (a : AccessPort) (i : Nat) (p : Part) (k : Fin 4) (v : Word),
      s.apLive a = true ∧
      (a = .debug → s.plumb.dbgOpen = true) ∧
      s.selInvalid a .upmu = false ∧
      i = s.selInst a .upmu ∧
      upmuEvent (upmuKind i) ((mergePart p (Tab.get (s.upmu i).ctl 0 k.val) v).toNat % 65536) = false) ∧
    (∃ (s : State) (a : AccessPort) (i : Nat) (p : Part) (k : Fin 4) (v : Word),
      s.apLive a = true ∧
      (a = .debug → s.plumb.dbgOpen = true) ∧
      s.selInvalid a .upmu = false ∧
      i = s.selInst a .upmu ∧
      p = .full) ∧
    (∃ (s : State) (a : AccessPort) (i : Nat) (p : Part) (k : Fin 4) (v : Word),
      s.apLive a = true ∧
      (a = .debug → s.plumb.dbgOpen = true) ∧
      s.selInvalid a .upmu = false ∧
      i = s.selInst a .upmu ∧
      p ≠ .full) ∧
    (∃ (s : State) (i : Nat) (k : Fin 4),
      ((s.live = true ∧ (s.instances .upmu).contains i = true ∧ (Tab.get (s.upmu i).ctl 0 k.val).getLsbD 16 = true))) ∧
    (∃ (s : State) (i : Nat) (k : Fin 4),
      (¬(s.live = true ∧ (s.instances .upmu).contains i = true ∧ (Tab.get (s.upmu i).ctl 0 k.val).getLsbD 16 = true))) ∧
    (∃ (s : State) (a : AccessPort) (i : Nat) (v : Word),
      s.apLive a = true ∧
      (a = .debug → s.plumb.dbgOpen = true) ∧
      s.selInvalid a .qos = false ∧
      i = s.selInst a .qos ∧
      (v.toNat % 32 = 1 ∧ v.toNat / 32 % 8 = 0 ∧ (v.toNat / 2 ^ 8 % 2 ^ 12) < 64) ∧
      i < 12 ∧
      (s.cbqri i).limit.toNat % 65536 ≠ 0) ∧
    (∃ (s : State) (a : AccessPort) (i : Nat) (v : Word),
      s.apLive a = true ∧
      (a = .debug → s.plumb.dbgOpen = true) ∧
      s.selInvalid a .qos = false ∧
      i = s.selInst a .qos ∧
      (v.toNat % 32 = 1 ∧ v.toNat / 32 % 8 = 0 ∧ (v.toNat / 2 ^ 8 % 2 ^ 12) < 64) ∧
      i < 12 ∧
      (s.cbqri i).limit.toNat % 65536 = 0) ∧
    (∃ (s : State) (a : AccessPort) (i : Nat) (v : Word),
      s.apLive a = true ∧
      (a = .debug → s.plumb.dbgOpen = true) ∧
      s.selInvalid a .qos = false ∧
      i = s.selInst a .qos ∧
      (v.toNat % 32 = 2 ∧ v.toNat / 32 % 8 = 0 ∧ (v.toNat / 2 ^ 8 % 2 ^ 12) < 64) ∧
      i < 12) ∧
    (∃ (s : State) (a : AccessPort) (i : Nat) (v : Word),
      s.apLive a = true ∧
      (a = .debug → s.plumb.dbgOpen = true) ∧
      s.selInvalid a .qos = false ∧
      i = s.selInst a .qos ∧
      (v.toNat % 32 = 1 ∧ v.toNat / 32 % 8 = 0 ∧ (v.toNat / 2 ^ 8 % 2 ^ 12) < 64) ∧
      12 ≤ i ∧
      (Tab.put (s.cbqri i).rbwb 0 (v.toNat / 2 ^ 8 % 2 ^ 12) ((s.cbqri i).limit.toNat % 65536)).foldl (fun n e => n + e.2) 0 ≤ 1000) ∧
    (∃ (s : State) (a : AccessPort) (i : Nat) (v : Word),
      s.apLive a = true ∧
      (a = .debug → s.plumb.dbgOpen = true) ∧
      s.selInvalid a .qos = false ∧
      i = s.selInst a .qos ∧
      (v.toNat % 32 = 1 ∧ v.toNat / 32 % 8 = 0 ∧ (v.toNat / 2 ^ 8 % 2 ^ 12) < 64) ∧
      12 ≤ i ∧
      1000 < (Tab.put (s.cbqri i).rbwb 0 (v.toNat / 2 ^ 8 % 2 ^ 12) ((s.cbqri i).limit.toNat % 65536)).foldl (fun n e => n + e.2) 0) ∧
    (∃ (s : State) (a : AccessPort) (i : Nat) (v : Word),
      s.apLive a = true ∧
      (a = .debug → s.plumb.dbgOpen = true) ∧
      s.selInvalid a .qos = false ∧
      i = s.selInst a .qos ∧
      (v.toNat % 32 = 2 ∧ v.toNat / 32 % 8 = 0 ∧ (v.toNat / 2 ^ 8 % 2 ^ 12) < 64) ∧
      12 ≤ i) ∧
    (∃ (s : State) (a : AccessPort) (i : Nat) (v : Word),
      s.apLive a = true ∧
      (a = .debug → s.plumb.dbgOpen = true) ∧
      s.selInvalid a .qos = false ∧
      i = s.selInst a .qos ∧
      (v.toNat % 32 ≠ 1 ∧ v.toNat % 32 ≠ 2 ∨ 64 ≤ (v.toNat / 2 ^ 8 % 2 ^ 12) ∨ v.toNat / 32 % 8 ≠ 0)) ∧
    (∃ (s : State) (a : AccessPort) (i : Nat) (v : Word),
      s.apLive a = true ∧
      (a = .debug → s.plumb.dbgOpen = true) ∧
      s.selInvalid a .qos = false ∧
      i = s.selInst a .qos ∧
      (v.toNat % 32 = 1 ∧ (v.toNat / 32 % 8 = 0 ∨ v.getLsbD 28 = false) ∧ (v.toNat / 2 ^ 8 % 2 ^ 12) < 256) ∧
      ((i < 12 ∧ (v.toNat / 2 ^ 20 % 2 ^ 8) ≤ 1) ∨ (12 ≤ i ∧ (v.toNat / 2 ^ 20 % 2 ^ 8) ≤ 3))) ∧
    (∃ (s : State) (a : AccessPort) (i : Nat) (v : Word),
      s.apLive a = true ∧
      (a = .debug → s.plumb.dbgOpen = true) ∧
      s.selInvalid a .qos = false ∧
      i = s.selInst a .qos ∧
      (v.toNat % 32 = 1 ∧ (v.toNat / 32 % 8 = 0 ∨ v.getLsbD 28 = false) ∧ (v.toNat / 2 ^ 8 % 2 ^ 12) < 256) ∧
      ((i < 12 ∧ 1 < (v.toNat / 2 ^ 20 % 2 ^ 8)) ∨ (12 ≤ i ∧ 3 < (v.toNat / 2 ^ 20 % 2 ^ 8)))) ∧
    (∃ (s : State) (a : AccessPort) (i : Nat) (v : Word),
      s.apLive a = true ∧
      (a = .debug → s.plumb.dbgOpen = true) ∧
      s.selInvalid a .qos = false ∧
      i = s.selInst a .qos ∧
      (v.toNat % 32 = 2 ∧ (v.toNat / 32 % 8 = 0 ∨ v.getLsbD 28 = false) ∧ (v.toNat / 2 ^ 8 % 2 ^ 12) < 256) ∧
      12 ≤ i) ∧
    (∃ (s : State) (a : AccessPort) (i : Nat) (v : Word),
      s.apLive a = true ∧
      (a = .debug → s.plumb.dbgOpen = true) ∧
      s.selInvalid a .qos = false ∧
      i = s.selInst a .qos ∧
      (v.toNat % 32 = 2 ∧ (v.toNat / 32 % 8 = 0 ∨ v.getLsbD 28 = false) ∧ (v.toNat / 2 ^ 8 % 2 ^ 12) < 256) ∧
      i < 12) ∧
    (∃ (s : State) (a : AccessPort) (i : Nat) (v : Word),
      s.apLive a = true ∧
      (a = .debug → s.plumb.dbgOpen = true) ∧
      s.selInvalid a .qos = false ∧
      i = s.selInst a .qos ∧
      (v.toNat % 32 ≠ 1 ∧ v.toNat % 32 ≠ 2 ∨ 256 ≤ (v.toNat / 2 ^ 8 % 2 ^ 12) ∨ (v.toNat / 32 % 8 ≠ 0 ∧ v.getLsbD 28 = true))) ∧
    (∃ (s : State) (a : AccessPort) (i : Nat) (p : Part) (v : Word),
      s.apLive a = true ∧
      (a = .debug → s.plumb.dbgOpen = true) ∧
      s.selInvalid a .mch = false ∧
      i = s.selInst a .mch ∧
      ((8 ≤ (mergePart p ((s.chan i).read 0x108) v).toNat / 2 ^ 24 % 256 ∧ (mergePart p ((s.chan i).read 0x108) v).toNat / 2 ^ 24 % 256 ≤ 96) ∧ (mergePart p ((s.chan i).read 0x108) v).toNat / 2 ^ 16 % 256 < (mergePart p ((s.chan i).read 0x108) v).toNat / 2 ^ 24 % 256 ∧ (mergePart p ((s.chan i).read 0x108) v).toNat / 2 ^ 8 % 256 ≤ 200 ∧ (1 ≤ (mergePart p ((s.chan i).read 0x108) v).toNat % 256 ∧ (mergePart p ((s.chan i).read 0x108) v).toNat % 256 ≤ 100))) ∧
    (∃ (s : State) (a : AccessPort) (i : Nat) (p : Part) (v : Word),
      s.apLive a = true ∧
      (a = .debug → s.plumb.dbgOpen = true) ∧
      s.selInvalid a .mch = false ∧
      i = s.selInst a .mch ∧
      (¬((8 ≤ (mergePart p ((s.chan i).read 0x108) v).toNat / 2 ^ 24 % 256 ∧ (mergePart p ((s.chan i).read 0x108) v).toNat / 2 ^ 24 % 256 ≤ 96) ∧ (mergePart p ((s.chan i).read 0x108) v).toNat / 2 ^ 16 % 256 < (mergePart p ((s.chan i).read 0x108) v).toNat / 2 ^ 24 % 256 ∧ (mergePart p ((s.chan i).read 0x108) v).toNat / 2 ^ 8 % 256 ≤ 200 ∧ (1 ≤ (mergePart p ((s.chan i).read 0x108) v).toNat % 256 ∧ (mergePart p ((s.chan i).read 0x108) v).toNat % 256 ≤ 100)))) ∧
    (∃ (s : State) (a : AccessPort) (i : Nat) (p : Part) (v : Word),
      s.apLive a = true ∧
      (a = .debug → s.plumb.dbgOpen = true) ∧
      s.selInvalid a .mch = false ∧
      i = s.selInst a .mch ∧
      (mergePart p ((s.chan i).read 0x110) v).toNat / 16 % 16 ≤ 4) ∧
    (∃ (s : State) (a : AccessPort) (i : Nat) (p : Part) (v : Word),
      s.apLive a = true ∧
      (a = .debug → s.plumb.dbgOpen = true) ∧
      s.selInvalid a .mch = false ∧
      i = s.selInst a .mch ∧
      (¬((mergePart p ((s.chan i).read 0x110) v).toNat / 16 % 16 ≤ 4))) ∧
    (∃ (s : State) (a : AccessPort) (i : Nat) (p : Part) (v : Word),
      s.apLive a = true ∧
      (a = .debug → s.plumb.dbgOpen = true) ∧
      s.selInvalid a .mch = false ∧
      i = s.selInst a .mch ∧
      ((1 ≤ (mergePart p ((s.chan i).read 0x118) v).toNat / 2 ^ 8 % 16 ∧ (mergePart p ((s.chan i).read 0x118) v).toNat / 2 ^ 8 % 16 ≤ 4) ∧ (8 ≤ (mergePart p ((s.chan i).read 0x118) v).toNat % 32 ∧ (mergePart p ((s.chan i).read 0x118) v).toNat % 32 ≤ 20))) ∧
    (∃ (s : State) (a : AccessPort) (i : Nat) (p : Part) (v : Word),
      s.apLive a = true ∧
      (a = .debug → s.plumb.dbgOpen = true) ∧
      s.selInvalid a .mch = false ∧
      i = s.selInst a .mch ∧
      (¬((1 ≤ (mergePart p ((s.chan i).read 0x118) v).toNat / 2 ^ 8 % 16 ∧ (mergePart p ((s.chan i).read 0x118) v).toNat / 2 ^ 8 % 16 ≤ 4) ∧ (8 ≤ (mergePart p ((s.chan i).read 0x118) v).toNat % 32 ∧ (mergePart p ((s.chan i).read 0x118) v).toNat % 32 ≤ 20)))) ∧
    (∃ (s : State) (a : AccessPort) (i : Nat) (p : Part) (v : Word),
      s.apLive a = true ∧
      (a = .debug → s.plumb.dbgOpen = true) ∧
      s.selInvalid a .mch = false ∧
      i = s.selInst a .mch ∧
      (mergePart p ((s.chan i).read 0x120) v).toNat / 2 ^ 6 % 1024 ≤ 1000) ∧
    (∃ (s : State) (a : AccessPort) (i : Nat) (p : Part) (v : Word),
      s.apLive a = true ∧
      (a = .debug → s.plumb.dbgOpen = true) ∧
      s.selInvalid a .mch = false ∧
      i = s.selInst a .mch ∧
      (¬((mergePart p ((s.chan i).read 0x120) v).toNat / 2 ^ 6 % 1024 ≤ 1000))) ∧
    (∃ (s : State) (a : AccessPort) (i : Nat) (p : Part) (v : Word),
      s.apLive a = true ∧
      (a = .debug → s.plumb.dbgOpen = true) ∧
      s.selInvalid a .mch = false ∧
      i = s.selInst a .mch ∧
      4 ≤ (mergePart p ((s.chan i).read 0x128) v).toNat / 2 ^ 40 % 256) ∧
    (∃ (s : State) (a : AccessPort) (i : Nat) (p : Part) (v : Word),
      s.apLive a = true ∧
      (a = .debug → s.plumb.dbgOpen = true) ∧
      s.selInvalid a .mch = false ∧
      i = s.selInst a .mch ∧
      (¬(4 ≤ (mergePart p ((s.chan i).read 0x128) v).toNat / 2 ^ 40 % 256))) ∧
    (∃ (s : State) (a : AccessPort) (i : Nat) (p : Part) (v : Word),
      s.apLive a = true ∧
      (a = .debug → s.plumb.dbgOpen = true) ∧
      s.selInvalid a .mch = false ∧
      i = s.selInst a .mch ∧
      (1 ≤ (mergePart p ((s.chan i).read 0x130) v).toNat % 256 ∧ (mergePart p ((s.chan i).read 0x130) v).toNat % 256 ≤ 168)) ∧
    (∃ (s : State) (a : AccessPort) (i : Nat) (p : Part) (v : Word),
      s.apLive a = true ∧
      (a = .debug → s.plumb.dbgOpen = true) ∧
      s.selInvalid a .mch = false ∧
      i = s.selInst a .mch ∧
      (¬(1 ≤ (mergePart p ((s.chan i).read 0x130) v).toNat % 256 ∧ (mergePart p ((s.chan i).read 0x130) v).toNat % 256 ≤ 168))) ∧
    (∃ (s : State) (a : AccessPort) (i : Nat) (p : Part) (v : Word),
      s.apLive a = true ∧
      (a = .debug → s.plumb.dbgOpen = true) ∧
      s.selInvalid a .port = false ∧
      i = s.selInst a .port ∧
      (1 ≤ (s.port i).pers ∧ (s.port i).pers ≤ 3)) ∧
    (∃ (s : State) (a : AccessPort) (i : Nat) (p : Part) (v : Word),
      s.apLive a = true ∧
      (a = .debug → s.plumb.dbgOpen = true) ∧
      s.selInvalid a .port = false ∧
      i = s.selInst a .port ∧
      ((s.port i).pers = 5 ∧ 1 ≤ (mergePart p (s.portRead i 0x120) v).toNat % 2 ^ 16 ∧ (mergePart p (s.portRead i 0x120) v).toNat % 2 ^ 16 ≤ 10000)) ∧
    (∃ (s : State) (a : AccessPort) (i : Nat) (p : Part) (v : Word),
      s.apLive a = true ∧
      (a = .debug → s.plumb.dbgOpen = true) ∧
      s.selInvalid a .port = false ∧
      i = s.selInst a .port ∧
      (¬((s.port i).pers = 5 ∧ 1 ≤ (mergePart p (s.portRead i 0x120) v).toNat % 2 ^ 16 ∧ (mergePart p (s.portRead i 0x120) v).toNat % 2 ^ 16 ≤ 10000))) ∧
    (∃ (s : State) (a : AccessPort) (i : Nat) (p : Part) (v : Word),
      s.apLive a = true ∧
      (a = .debug → s.plumb.dbgOpen = true) ∧
      s.selInvalid a .frame = false ∧
      i = s.selInst a .frame ∧
      (mergePart p 0 v).getLsbD 47 = true) ∧
    (∃ (s : State) (a : AccessPort) (i : Nat) (p : Part) (v : Word),
      s.apLive a = true ∧
      (a = .debug → s.plumb.dbgOpen = true) ∧
      s.selInvalid a .frame = false ∧
      i = s.selInst a .frame ∧
      (mergePart p 0 v).getLsbD 47 = false) ∧
    (∃ (s : State) (a : AccessPort) (i : Nat) (p : Part) (v : Word),
      s.apLive a = true ∧
      (a = .debug → s.plumb.dbgOpen = true) ∧
      s.selInvalid a .nq = false ∧
      i = s.selInst a .nq ∧
      s.nqWait = [] ∧
      s.nqStalls a = false ∧
      (1 ≤ (mergePart p (BitVec.ofNat 64 (s.frame i).nqLevel) v).toNat % 256 ∧ (mergePart p (BitVec.ofNat 64 (s.frame i).nqLevel) v).toNat % 256 ≤ 252)) ∧
    (∃ (s : State) (a : AccessPort) (i : Nat) (p : Part) (v : Word),
      s.apLive a = true ∧
      (a = .debug → s.plumb.dbgOpen = true) ∧
      s.selInvalid a .nq = false ∧
      i = s.selInst a .nq ∧
      s.nqWait = [] ∧
      s.nqStalls a = false ∧
      (¬(1 ≤ (mergePart p (BitVec.ofNat 64 (s.frame i).nqLevel) v).toNat % 256 ∧ (mergePart p (BitVec.ofNat 64 (s.frame i).nqLevel) v).toNat % 256 ≤ 252))) ∧
    (∃ (s : State) (a : AccessPort) (i : Nat) (p : Part) (v : Word),
      s.apLive a = true ∧
      (a = .debug → s.plumb.dbgOpen = true) ∧
      s.selInvalid a .nq = false ∧
      i = s.selInst a .nq ∧
      s.nqWait = [] ∧
      s.nqStalls a = false ∧
      (1 ≤ (mergePart p (BitVec.ofNat 64 (s.frame i).nqTimeout) v).toNat % 128 ∧ (mergePart p (BitVec.ofNat 64 (s.frame i).nqTimeout) v).toNat % 128 ≤ 100)) ∧
    (∃ (s : State) (a : AccessPort) (i : Nat) (p : Part) (v : Word),
      s.apLive a = true ∧
      (a = .debug → s.plumb.dbgOpen = true) ∧
      s.selInvalid a .nq = false ∧
      i = s.selInst a .nq ∧
      s.nqWait = [] ∧
      s.nqStalls a = false ∧
      (¬(1 ≤ (mergePart p (BitVec.ofNat 64 (s.frame i).nqTimeout) v).toNat % 128 ∧ (mergePart p (BitVec.ofNat 64 (s.frame i).nqTimeout) v).toNat % 128 ≤ 100))) ∧
    (∃ (s : State) (a : AccessPort) (i : Nat) (p : Part) (v : Word),
      s.apLive a = true ∧
      (a = .debug → s.plumb.dbgOpen = true) ∧
      s.selInvalid a .cmdq = false ∧
      i = s.selInst a .cmdq ∧
      p = .full ∧
      (s.frame i).ring.cfg.getLsbD 0 = false) ∧
    (∃ (s : State) (a : AccessPort) (i : Nat) (p : Part) (v : Word),
      s.apLive a = true ∧
      (a = .debug → s.plumb.dbgOpen = true) ∧
      s.selInvalid a .cmdq = false ∧
      i = s.selInst a .cmdq ∧
      p = .full ∧
      (s.frame i).ring.cfg.getLsbD 1 = false) ∧
    (∃ (s : State) (a : AccessPort) (i : Nat) (p : Part) (v : Word),
      s.apLive a = true ∧
      (a = .debug → s.plumb.dbgOpen = true) ∧
      s.selInvalid a .cmdq = false ∧
      i = s.selInst a .cmdq ∧
      (p ≠ .full ∨ (s.frame i).ring.cfg.getLsbD 0 = true)) ∧
    (∃ (s : State) (a : AccessPort) (i : Nat) (p : Part) (v : Word),
      s.apLive a = true ∧
      (a = .debug → s.plumb.dbgOpen = true) ∧
      s.selInvalid a .cmdq = false ∧
      i = s.selInst a .cmdq ∧
      (mergePart p 0 v).getLsbD 1 = true) ∧
    (∃ (s : State) (a : AccessPort) (w : Win) (o : BitVec 16) (p : Part) (v : Word),
      s.apLive a = true ∧
      (a = .debug → s.plumb.dbgOpen = true) ∧
      (w = .nq → s.nqWait = [] ∧ s.nqStalls a = false) ∧
      s.selInvalid a w = false ∧
      (o.toNat % 8 = 0 ∧ o.toNat ≠ 0) ∧
      (o.toNat < 0x100 ∨ w = .global ∨ w = .stud ∨ w = .lane ∨ w = .dom)) ∧
    (∃ (s : State) (a : AccessPort) (w : Win) (o : BitVec 16) (p : Part) (v : Word),
      o.toNat % 8 ≠ 0) ∧
    (∃ (s : State) (d wr : Bool) (o : BitVec 32) (n : Nat) (v : Word),
      s.live = false) ∧
    (∃ (s : State) (wr : Bool) (o : BitVec 32) (n : Nat) (v : Word),
      s.live = true ∧
      s.plumb.dbgOpen = false) ∧
    (∃ (s : State) (wr : Bool) (o : BitVec 32) (n : Nat) (v : Word),
      winAt o.toNat n = none) ∧
    (∃ (s : State) (wr : Bool) (o : BitVec 32) (n : Nat) (v : Word),
      s.live = true ∧
      s.plumb.dbgOpen = true ∧
      winAt o.toNat n = none) ∧
    (∃ (s : State) (d : Bool) (o : BitVec 32) (n : Nat) (v : Word) (w : Win) (k : BitVec 16) (p : Part) (a : AccessPort),
      s.live = true ∧
      (d = true → s.plumb.dbgOpen = true) ∧
      winAt o.toNat n = some (w, k.toNat, p) ∧
      a = (if d then .debug else .plumb)) ∧
    (∃ (s : State) (d : Bool) (o : BitVec 32) (n : Nat) (v : Word) (p : Part),
      s.live = true ∧
      (d = true → s.plumb.dbgOpen = true) ∧
      winAt o.toNat n = some (.nq, 0x100, p)) ∧
    (∃ (s : State) (d : Bool) (o : BitVec 32) (n : Nat) (v : Word) (w : Win) (k : Nat) (p : Part),
      s.live = true ∧
      (d = true → s.plumb.dbgOpen = true) ∧
      winAt o.toNat n = some (w, k, p) ∧
      (w ≠ .upmu ∧ w ≠ .lane) ∧
      (w = .nq → k ≠ 0x100 ∧ s.nqWait = [] ∧ s.nqStalls (if d then AccessPort.debug else .plumb) = false)) ∧
    (∃ (s : State) (d : Bool) (o : BitVec 32) (n : Nat) (v : Word) (w : Win) (k : Nat) (p : Part),
      s.live = true ∧
      (d = true → s.plumb.dbgOpen = true) ∧
      winAt o.toNat n = some (w, k, p) ∧
      (w = .upmu ∨ w = .lane)) ∧
    (∃ (s : State) (a : AccessPort) (w : Win) (k : Nat) (p : Part),
      s.apLive a = true ∧
      (a = .debug → s.plumb.dbgOpen = true)) ∧
    (∃ (s : State) (w : Win) (p : Part) (k : Fin 4) (v : Word) (g : Bool) (o : BitVec 16),
      s.live = true ∧
      (w = .nq → s.nqWait = [] ∧ s.nqStalls .debug = false) ∧
      s.plumb.dbgOpen = false ∧
      o.toNat % 8 = 0) ∧
    (∃ (s : State),
      s.idleRings) :=
  ⟨⟨{ base with frames := [(0, { base.frame 0 with ring := { cmdInF := 0x10000, rplInF := 0x40000, logInF := (8, 8), cfg := 0x8803, ready := true } })] }, .plumb, 0, .full, 0x9, by decide +kernel⟩,
    ⟨{ base with frames := [(0, { base.frame 0 with ring := { cmdInF := 0x10000, rplInF := 0x40000, logInF := (8, 8), cfg := 0x8803, ready := true } })] }, .plumb, 0, .hi, 0x9, by decide +kernel⟩,
    ⟨{ base with frames := [(0, { base.frame 0 with ring := { cmdInF := 0x10000, rplInF := 0x40000, logInF := (8, 8), cfg := 0x8803, ready := true } })] }, .plumb, 0, .full, 0x9, by decide +kernel⟩,
    ⟨{ base with frames := [(0, { base.frame 0 with ring := { cmdInF := 0x10000, rplInF := 0x40000, logInF := (8, 8), cfg := 0x8803, ready := true } })] }, .plumb, 0, .hi, 0x9, by decide +kernel⟩,
    ⟨{ base with frames := [(0, { base.frame 0 with ring := { cmdBase := 0x2000, cmdHead := 5, ready := true } })] }, .plumb, 0, .full, 0x8403, by decide +kernel⟩,
    ⟨{ base with frames := [(0, { base.frame 0 with ring := { cmdInF := 0x10000, rplInF := 0x40000, logInF := (8, 8), cfg := 0x8803, ready := true } })] }, .plumb, 0, .full, 0x8303, by decide +kernel⟩,
    ⟨let s0 : State := { base with frames := [(0, { base.frame 0 with ring := { cmdInF := 0x10000, rplInF := 0x40000, logInF := (8, 8), cfg := 0x8803, ready := true } })] }; { s0 with plumb := { s0.plumb with jobs := [{ jb 0x30 [] with t := { kind := .ring, inst := 0 } }] } }, .plumb, 0, .full, 0x8400, by decide +kernel⟩,
    ⟨base, .plumb, 0, .full, 2, by decide +kernel⟩,
    ⟨base.setHome 0 { base.home 0 with arrayFail := true }, .plumb, 0, .full, 3, by decide +kernel⟩,
    ⟨base, .plumb, 0, .full, 0x051020, by decide +kernel⟩,
    ⟨base, .plumb, 0, .full, 0x051002, by decide +kernel⟩,
    ⟨{ base with plumb := { base.plumb with active := 4 } }, 0, .full, 3, by decide +kernel⟩,
    ⟨{ base with upmus := [(0, { ctl := [(2, 0x40000)] })] }, .plumb, 0, .lo, 2, 0x10010, by decide +kernel⟩,
    ⟨base, .plumb, 0, .full, 2, 0x1FFFF, by decide +kernel⟩,
    ⟨base, .plumb, 0, .full, 2, 0x10010, by decide +kernel⟩,
    ⟨base, .plumb, 0, .lo, 2, 0x10010, by decide +kernel⟩,
    ⟨{ base with upmus := [(3, { ctl := [(1, 0x10010)], cnt := [(1, 5)] })] }, 3, 1, by decide +kernel⟩,
    ⟨base, 3, 1, by decide +kernel⟩,
    ⟨base.setHome 0 { base.home 0 with cap := { limit := 0xFF } }, .plumb, 0, 0x701, by decide +kernel⟩,
    ⟨base, .plumb, 0, 0x701, by decide +kernel⟩,
    ⟨base, .plumb, 0, 0x702, by decide +kernel⟩,
    ⟨let s0 : State := base.setBw 1 { limit := 0x300064 }; { s0 with sel := { inst := [(selKey .plumb .qos, 17), (selKey (.host 0) .qos, 17)] } }, .plumb, 17, 0x701, by decide +kernel⟩,
    ⟨let s0 : State := base.setBw 1 { limit := 0x300064, rbwb := [(3, 990)] }; { s0 with sel := { inst := [(selKey .plumb .qos, 17), (selKey (.host 0) .qos, 17)] } }, .plumb, 17, 0x701, by decide +kernel⟩,
    ⟨let s0 : State := base.setBw 1 { rbwb := [(7, 90)] }; { s0 with sel := { inst := [(selKey .plumb .qos, 17), (selKey (.host 0) .qos, 17)] } }, .plumb, 17, 0x702, by decide +kernel⟩,
    ⟨base, .plumb, 0, 0x703, by decide +kernel⟩,
    ⟨let s0 : State := base.setBw 1 { rd := [(200, 4)] }; { s0 with sel := { inst := [(selKey .plumb .qos, 17), (selKey (.host 0) .qos, 17)] } }, .plumb, 17, 0x20C801, by decide +kernel⟩,
    ⟨base, .plumb, 0, 0x20C801, by decide +kernel⟩,
    ⟨let s0 : State := base.setBw 1 { monEv := [(200, 1)], rd := [(200, 4)], wr := [(200, 5)] }; { s0 with sel := { inst := [(selKey .plumb .qos, 17), (selKey (.host 0) .qos, 17)] } }, .plumb, 17, 0xC802, by decide +kernel⟩,
    ⟨base.setHome 0 { base.home 0 with cap := { monEv := [(2, 1)] }, cache := [(3, { line := 7, mcid := 2 })] }, .plumb, 0, 0x202, by decide +kernel⟩,
    ⟨base, .plumb, 0, 0x203, by decide +kernel⟩,
    ⟨let s0 : State := base; { s0 with sel := { inst := [(selKey .plumb .mch, 3), (selKey (.host 0) .mch, 3)] } }, .plumb, 3, .full, 0x20080501, by decide +kernel⟩,
    ⟨let s0 : State := base; { s0 with sel := { inst := [(selKey .plumb .mch, 3), (selKey (.host 0) .mch, 3)] } }, .plumb, 3, .full, 0x20300501, by decide +kernel⟩,
    ⟨let s0 : State := base; { s0 with sel := { inst := [(selKey .plumb .mch, 3), (selKey (.host 0) .mch, 3)] } }, .plumb, 3, .lo, 0x30, by decide +kernel⟩,
    ⟨let s0 : State := base; { s0 with sel := { inst := [(selKey .plumb .mch, 3), (selKey (.host 0) .mch, 3)] } }, .plumb, 3, .full, 0x50, by decide +kernel⟩,
    ⟨let s0 : State := base; { s0 with sel := { inst := [(selKey .plumb .mch, 3), (selKey (.host 0) .mch, 3)] } }, .plumb, 3, .full, 0x20A, by decide +kernel⟩,
    ⟨let s0 : State := base; { s0 with sel := { inst := [(selKey .plumb .mch, 3), (selKey (.host 0) .mch, 3)] } }, .plumb, 3, .full, 0x21F, by decide +kernel⟩,
    ⟨let s0 : State := base; { s0 with sel := { inst := [(selKey .plumb .mch, 3), (selKey (.host 0) .mch, 3)] } }, .plumb, 3, .full, 0x30, by decide +kernel⟩,
    ⟨let s0 : State := base; { s0 with sel := { inst := [(selKey .plumb .mch, 3), (selKey (.host 0) .mch, 3)] } }, .plumb, 3, .full, 0xFFFF, by decide +kernel⟩,
    ⟨let s0 : State := base; { s0 with sel := { inst := [(selKey .plumb .mch, 3), (selKey (.host 0) .mch, 3)] } }, .plumb, 3, .full, 0x50000000000, by decide +kernel⟩,
    ⟨let s0 : State := base; { s0 with sel := { inst := [(selKey .plumb .mch, 3), (selKey (.host 0) .mch, 3)] } }, .plumb, 3, .full, 0x30000000000, by decide +kernel⟩,
    ⟨let s0 : State := base; { s0 with sel := { inst := [(selKey .plumb .mch, 3), (selKey (.host 0) .mch, 3)] } }, .plumb, 3, .full, 0x118, by decide +kernel⟩,
    ⟨let s0 : State := base; { s0 with sel := { inst := [(selKey .plumb .mch, 3), (selKey (.host 0) .mch, 3)] } }, .plumb, 3, .lo, 0xFF, by decide +kernel⟩,
    ⟨let s0 : State := base; { s0 with sel := { inst := [(selKey .plumb .port, 2), (selKey (.host 0) .port, 2)] } }, .plumb, 2, .full, 0x70000, by decide +kernel⟩,
    ⟨let s0 : State := base.setPort 3 { pers := 5, inReset := false }; { s0 with sel := { inst := [(selKey .plumb .port, 3), (selKey (.host 0) .port, 3)] } }, .plumb, 3, .full, 0x70100, by decide +kernel⟩,
    ⟨let s0 : State := base.setPort 3 { pers := 5, inReset := false }; { s0 with sel := { inst := [(selKey .plumb .port, 3), (selKey (.host 0) .port, 3)] } }, .plumb, 3, .full, 0, by decide +kernel⟩,
    ⟨base.setFrame 0 { base.frame 0 with csErr := 0x1900500020100 }, .plumb, 0, .full, 0x800000000000, by decide +kernel⟩,
    ⟨base, .plumb, 0, .full, 0x40000000, by decide +kernel⟩,
    ⟨base, .plumb, 0, .full, 0x9, by decide +kernel⟩,
    ⟨base, .plumb, 0, .full, 0xFF, by decide +kernel⟩,
    ⟨base, .plumb, 0, .full, 0x9, by decide +kernel⟩,
    ⟨base, .plumb, 0, .full, 0x7F, by decide +kernel⟩,
    ⟨base, .plumb, 0, .full, 0x123456, by decide +kernel⟩,
    ⟨base, .plumb, 0, .full, 0x123456, by decide +kernel⟩,
    ⟨{ base with frames := [(0, { base.frame 0 with ring := { cmdInF := 0x10000, rplInF := 0x40000, logInF := (8, 8), cfg := 0x8803, ready := true } })] }, .plumb, 0, .full, 0x123456, by decide +kernel⟩,
    ⟨base.setFrame 0 { base.frame 0 with ring := { ringErr := true } }, .plumb, 0, .full, 2, by decide +kernel⟩,
    ⟨base, .plumb, .dom, 0x100, .full, 3, by decide +kernel⟩,
    ⟨base, .debug, .mch, 0x111, .lo, 3, by decide +kernel⟩,
    ⟨{ base with off := true }, true, true, 0x10100, 8, 3, by decide +kernel⟩,
    ⟨{ base with plumb := { base.plumb with dbgOpen := false } }, false, 0x10100, 8, 3, by decide +kernel⟩,
    ⟨base, true, 0xD0000, 8, 3, by decide +kernel⟩,
    ⟨base, false, 0xD0000, 8, 3, by decide +kernel⟩,
    ⟨base, false, 0x90110, 8, 7, .nq, 0x110, .full, .plumb, by decide +kernel⟩,
    ⟨base.setFrame 0 { base.frame 0 with nq := { held := [(0, 0x77), (1, 5)], no := 2 } }, false, 0x90100, 8, 0, .full, by decide +kernel⟩,
    ⟨base, false, 0x30108, 8, 0, .mch, 0x108, .full, by decide +kernel⟩,
    ⟨base, false, 0xC0108, 8, 0, .upmu, 0x108, .full, by decide +kernel⟩,
    ⟨base, .plumb, .mch, 0x108, .full, by decide +kernel⟩,
    ⟨{ base with plumb := { base.plumb with dbgOpen := false } }, .mch, .full, 1, 3, true, 0x110, by decide +kernel⟩,
    ⟨base, by decide +kernel⟩⟩

/-- States and operands that meet the hypotheses of SupplySamplesAndLimits. -/
theorem witness_SupplySamplesAndLimits :
    (∃ (s : State) (v i : Nat),
      s.live = true ∧
      (4500 < v ∧ v ≤ 66000)) ∧
    (∃ (s : State) (v i : Nat),
      s.live = false ∧
      v ≤ 66000) ∧
    (∃ (s : State) (v i : Nat),
      s.live = true ∧
      v ≤ 4500) ∧
    (∃ (s : State) (v i : Nat),
      66000 < v) ∧
    (∃ (s : State) (a l : Bool) (m : Nat),
      s.live = true) ∧
    (∃ (s : State) (a l : Bool) (m : Nat),
      s.live = false) ∧
    (∃ (s : State),
      s.live = true) ∧
    (∃ (s : State),
      s.live = true ∧
      s.power.pwrfail = true) ∧
    (∃ (s : State),
      s.live = false) ∧
    (∃ (s : State),
      (s.live = false ∨ s.power.pwrfail = false)) ∧
    (∃ (s : State),
      s.live = true ∧
      s.power.throttle = false) ∧
    (∃ (s : State),
      (s.live = false ∨ s.power.throttle = true)) ∧
    (∃ (s : State),
      s.live = true ∧
      s.power.throttle = true) ∧
    (∃ (s : State),
      (s.live = false ∨ s.power.throttle = false)) :=
  ⟨⟨base, 47000, 9000, by decide +kernel⟩,
    ⟨{ base with off := true }, 47000, 9000, by decide +kernel⟩,
    ⟨base, 4400, 9000, by decide +kernel⟩,
    ⟨base, 66001, 9000, by decide +kernel⟩,
    ⟨base, true, false, 0, by decide +kernel⟩,
    ⟨{ base with off := true }, true, true, 5, by decide +kernel⟩,
    ⟨base, by decide +kernel⟩,
    ⟨{ base with pins := { base.pins with pwrfailN := false }, power := { base.power with pwrfail := true } }, by decide +kernel⟩,
    ⟨{ base with off := true }, by decide +kernel⟩,
    ⟨base, by decide +kernel⟩,
    ⟨{ base with pins := { base.pins with throttleN := true }, power := { base.power with throttle := false } }, by decide +kernel⟩,
    ⟨{ base with off := true }, by decide +kernel⟩,
    ⟨{ base with pins := { base.pins with throttleN := false }, power := { base.power with throttle := true } }, by decide +kernel⟩,
    ⟨{ base with off := true }, by decide +kernel⟩⟩

/-- States and operands that meet the hypotheses of PowerControlAndCooling. -/
theorem witness_PowerControlAndCooling :
    (∃ (s : State) (l : List (Nat × Nat)) (t : State),
      s.live = true ∧
      t = { s with power := { s.power with ctlPower := measured s.power.ctlPower l } }) ∧
    (∃ (s : State) (l : List (Nat × Nat)) (t : State),
      s.live = true ∧
      t = { s with power := { s.power with ctlPower := measured s.power.ctlPower l } } ∧
      s.mode = 0) ∧
    (∃ (s : State) (f : FrameId) (l : List (Nat × Nat)),
      s.live = true ∧
      f.val < frameCount s.mode ∧
      (s.frame f).demand ≤ (s.frame f).grant) ∧
    (∃ (s : State) (f : FrameId) (l : List (Nat × Nat)),
      s.live = true ∧
      f.val < frameCount s.mode ∧
      (s.frame f).grant < (s.frame f).demand ∧
      (s.frame f).grant < s.framePower (measured s.power.domPower l) f) ∧
    (∃ (s : State) (f : FrameId) (l : List (Nat × Nat)) (k : Nat),
      s.live = true ∧
      f.val < frameCount s.mode ∧
      (s.frame f).grant < (s.frame f).demand ∧
      s.framePower (measured s.power.domPower l) f ≤ (s.frame f).grant ∧
      (((List.range 12).foldl (fun (r : State) n => r.setStud n { r.stud n with power := Tab.get (measured s.power.domPower l) 0 (2 + n) }) { s with power := { s.power with domPower := (measured s.power.domPower l), pkgPower := (measured s.power.domPower l).foldl (fun n e => n + e.2) 0 } })).raiseNext f = some k ∧
      (s.frame f).capF ≤ 3500 ∧
      k < 12) ∧
    (∃ (s : State) (f : FrameId) (l : List (Nat × Nat)),
      s.live = true ∧
      f.val < frameCount s.mode ∧
      (s.frame f).grant < (s.frame f).demand ∧
      s.framePower (measured s.power.domPower l) f ≤ (s.frame f).grant ∧
      ((((List.range 12).foldl (fun (r : State) n => r.setStud n { r.stud n with power := Tab.get (measured s.power.domPower l) 0 (2 + n) }) { s with power := { s.power with domPower := (measured s.power.domPower l), pkgPower := (measured s.power.domPower l).foldl (fun n e => n + e.2) 0 } })).raiseNext f = none ∨ 3500 < (s.frame f).capF)) ∧
    (∃ (s : State) (f : FrameId) (l : List (Nat × Nat)),
      (s.live = false ∨ frameCount s.mode ≤ f.val)) ∧
    (∃ (s : State) (l : List (Nat × Nat)),
      s.live = false) ∧
    (∃ (s : State) (c : Coolant) (v : Int),
      s.live = true ∧
      (0 ≤ v ∧ v ≤ (if c = .tach then 2000 else 9000)) ∧
      (s.power.input c).stale = false) ∧
    (∃ (s : State) (c : Coolant) (v : Int),
      s.live = true ∧
      (0 ≤ v ∧ v ≤ (if c = .tach then 2000 else 9000)) ∧
      (s.power.input c).stale = true ∧
      (c = .tach → (s.power.input c).pulsed = false ∨ 0 < v ∨ s.power.duty < 40)) ∧
    (∃ (s : State),
      s.live = true ∧
      s.power.tach.stale = true ∧
      s.power.tach.pulsed = true ∧
      40 ≤ s.power.duty) ∧
    (∃ (s : State) (c : Coolant) (b : Bool) (v : Int),
      (s.live = false ∨ b = false ∨ ¬(0 ≤ v ∧ v ≤ (if c = .tach then 2000 else 9000)))) ∧
    (∃ (s : State) (c : Coolant),
      s.live = true ∧
      (s.power.input c).stale = false ∧
      (c ≠ .tach ∨ s.power.tach.pulsed = true) ∧
      s.power.fallback = false) ∧
    (∃ (s : State) (c : Coolant),
      s.live = true ∧
      (s.power.input c).stale = false ∧
      (c ≠ .tach ∨ s.power.tach.pulsed = true) ∧
      s.power.fallback = true) ∧
    (∃ (s : State) (c : Coolant),
      (s.live = false ∨ (s.power.input c).stale = true ∨ c = .tach ∧ (s.power.input c).pulsed = false)) ∧
    (∃ (s : State),
      (s.live = true ∧ s.power.fallback = true ∧ s.power.inlet.stale = false ∧ s.power.outlet.stale = false ∧ s.power.tach.stale = false)) ∧
    (∃ (s : State),
      (¬(s.live = true ∧ s.power.fallback = true ∧ s.power.inlet.stale = false ∧ s.power.outlet.stale = false ∧ s.power.tach.stale = false))) ∧
    (∃ (s : State),
      s.live = true ∧
      s.power.trip = false) ∧
    (∃ (s : State),
      s.live = true ∧
      s.power.trip = false ∧
      (s.power.coolMode ≠ 0 ∨ s.power.fallback = true)) ∧
    (∃ (s : State),
      s.live = true ∧
      s.power.trip = false ∧
      (s.power.coolMode = 0 ∧ s.power.fallback = false)) ∧
    (∃ (s : State),
      (s.live = false ∨ s.power.trip = true)) ∧
    (∃ (s : State) (n : Fin 13) (a b g c r : Nat),
      s.live = true ∧
      n.val < 12 ∧
      ((r ≤ 150 ∧ 5000 ≤ a ∧ a ≤ 2000000 ∧ 1000000 ≤ b ∧ b ≤ 300000000 ∧ a < b ∧ 100 ≤ g ∧ g ≤ 10000 ∧ 500 ≤ c ∧ c ≤ 1500))) ∧
    (∃ (s : State) (n : Fin 13) (a b g c r : Nat),
      s.live = true ∧
      n.val = 12 ∧
      ((r ≤ 150 ∧ 5000 ≤ a ∧ a ≤ 2000000 ∧ 1000000 ≤ b ∧ b ≤ 300000000 ∧ a < b ∧ 100 ≤ g ∧ g ≤ 10000 ∧ 500 ≤ c ∧ c ≤ 1500))) ∧
    (∃ (s : State) (n : Fin 13) (a b g c r : Nat),
      s.live = true ∧
      n.val < 12 ∧
      (¬(r ≤ 150 ∧ 5000 ≤ a ∧ a ≤ 2000000 ∧ 1000000 ≤ b ∧ b ≤ 300000000 ∧ a < b ∧ 100 ≤ g ∧ g ≤ 10000 ∧ 500 ≤ c ∧ c ≤ 1500))) ∧
    (∃ (s : State) (n : Fin 13) (a b g c r : Nat),
      s.live = true ∧
      n.val = 12 ∧
      (¬(r ≤ 150 ∧ 5000 ≤ a ∧ a ≤ 2000000 ∧ 1000000 ≤ b ∧ b ≤ 300000000 ∧ a < b ∧ 100 ≤ g ∧ g ≤ 10000 ∧ 500 ≤ c ∧ c ≤ 1500))) ∧
    (∃ (s : State) (n : Fin 13) (a b g c r : Nat),
      s.live = false) ∧
    (∃ (s : State) (n : Fin 16) (l : List Int),
      s.live = true ∧
      s.power.trip = false ∧
      s.plumb.hot = [] ∧
      n.val < 12) ∧
    (∃ (s : State) (n : Fin 16) (v : Int),
      s.live = true ∧
      s.power.trip = false ∧
      s.plumb.hot = [] ∧
      n.val < 12 ∧
      (-2000 ≤ v ∧ v ≤ 15000) ∧
      (s.stud n).sense.valid = []) ∧
    (∃ (s : State) (n : Fin 16) (l : List Int) (q : Nat),
      s.live = true ∧
      s.power.trip = false ∧
      s.plumb.hot = [] ∧
      12 ≤ n.val ∧
      q = n.val - 12) ∧
    (∃ (s : State) (n : Fin 16) (l : List Int),
      (s.live = false ∨ s.power.trip = true)) ∧
    (∃ (s : State) (n : Fin 16) (l : List Int),
      s.live = true ∧
      s.power.trip = false ∧
      s.plumb.hot ≠ [] ∧
      (if l.all (fun t => decide (t ≤ 9000)) then s.plumb.hot.filter (· != n.val) else s.plumb.hot) ≠ [] ∧
      n.val < 12) :=
  ⟨⟨base, [(2, 9000)], { base with power := { base.power with ctlPower := [(2, 9000)] } }, by decide +kernel⟩,
    ⟨base, [(2, 9000)], { base with power := { base.power with ctlPower := [(2, 9000)] } }, by decide +kernel⟩,
    ⟨base, 0, [(2, 9000)], by decide +kernel⟩,
    ⟨base.setFrame 0 { base.frame 0 with grant := 5, demand := 9 }, 0, [(2, 9000)], by decide +kernel⟩,
    ⟨let s0 : State := base.setFrame 0 { base.frame 0 with grant := 9000, demand := 9500, capF := 2000 }; (List.range 12).foldl (fun (s : State) n => s.setStud n { s.stud n with capLimit := 2000 }) s0, 0, [(2, 900)], 0, by decide +kernel⟩,
    ⟨base.setFrame 0 { base.frame 0 with grant := 9000, demand := 9500, capF := 3600 }, 0, [(2, 900)], by decide +kernel⟩,
    ⟨base, 2, [], by decide +kernel⟩,
    ⟨{ base with off := true }, [], by decide +kernel⟩,
    ⟨base, .inlet, 1900, by decide +kernel⟩,
    ⟨{ base with power := { base.power with inlet := { stale := true } } }, .inlet, 1900, by decide +kernel, by decide +kernel, by decide +kernel, (by intro h; cases h)⟩,
    ⟨{ base with power := { base.power with tach := { stale := true, pulsed := true }, duty := 80 } }, by decide +kernel⟩,
    ⟨base, .inlet, false, 1900, by decide +kernel⟩,
    ⟨base, .outlet, by decide +kernel⟩,
    ⟨{ base with power := { base.power with fallback := true } }, .outlet, by decide +kernel⟩,
    ⟨base, .tach, by decide +kernel⟩,
    ⟨{ base with power := { base.power with fallback := true, coolMode := 1, fixedDuty := 40 } }, by decide +kernel⟩,
    ⟨base, by decide +kernel⟩,
    ⟨{ base with power := { base.power with coolMode := 1, fixedDuty := 40, duty := 80 } }, by decide +kernel⟩,
    ⟨{ base with power := { base.power with coolMode := 1, fixedDuty := 40, duty := 80 } }, by decide +kernel⟩,
    ⟨{ base with power := { base.power with duty := 80, outlet := { samples := [9000] } } }, by decide +kernel⟩,
    ⟨{ base with off := true }, by decide +kernel⟩,
    ⟨base, 3, 5000, 1000000, 100, 500, 150, by decide +kernel⟩,
    ⟨base, 12, 5000, 1000000, 100, 500, 150, by decide +kernel⟩,
    ⟨base, 3, 5000, 1000000, 100, 500, 151, by decide +kernel⟩,
    ⟨base, 12, 5000, 1000000, 100, 500, 151, by decide +kernel⟩,
    ⟨{ base with off := true }, 3, 5000, 1000000, 100, 500, 150, by decide +kernel⟩,
    ⟨base, 4, List.replicate 8 6500, by decide +kernel⟩,
    ⟨base, 4, 6500, by decide +kernel⟩,
    ⟨base, 13, List.replicate 4 6500, 1, by decide +kernel⟩,
    ⟨{ base with off := true }, 4, [], by decide +kernel⟩,
    ⟨{ base with plumb := { base.plumb with hot := [3, 4] } }, 4, List.replicate 8 6500, by decide +kernel⟩⟩

/-- States and operands that meet the hypotheses of TripAndClockLoss. -/
theorem witness_TripAndClockLoss :
    (∃ (s : State),
      s.live = true ∧
      s.power.trip = false) ∧
    (∃ (s : State),
      (s.live = false ∨ s.power.trip = true)) ∧
    (∃ (s : State),
      s.live = true ∧
      s.refLost = false) ∧
    (∃ (s : State),
      (s.live = false ∨ s.refLost = true)) :=
  ⟨⟨base, by decide +kernel⟩,
    ⟨{ base with power := { base.power with trip := true } }, by decide +kernel⟩,
    ⟨base, by decide +kernel⟩,
    ⟨{ base with refLost := true }, by decide +kernel⟩⟩

/-- States and operands that meet the hypotheses of IdleStatesAndDomains. -/
theorem witness_IdleStatesAndDomains :
    (∃ (s : State) (c : CoreId),
      ((s.core c).run = .idle ∧ (s.core c).waiting = .wfi) ∧
      s.mustWake c = false ∧
      ((coresOf (c.val / 32)).filter (fun d => bitOf (s.stud (c.val / 32)).cores (d % 32))).any (fun d => d != c.val && (s.core d).run != .deep && (s.core d).run != .held && (s.core d).run != .sleep) = true) ∧
    (∃ (s : State) (c : CoreId),
      ((s.core c).run = .idle ∧ (s.core c).waiting = .wfi) ∧
      s.mustWake c = false ∧
      ((coresOf (c.val / 32)).filter (fun d => bitOf (s.stud (c.val / 32)).cores (d % 32))).all (fun d => d == c.val || (s.core d).run == .deep || (s.core d).run == .held || (s.core d).run == .sleep) = true ∧
      bitOf (s.stud (c.val / 32)).cores (c.val % 32) = true) ∧
    (∃ (s : State) (c : CoreId),
      ((s.core c).run ≠ .idle ∨ (s.core c).waiting ≠ .wfi ∨ s.mustWake c = true)) ∧
    (∃ (s : State) (c : CoreId),
      ((s.core c).run = .sleep ∧ (s.stud (c.val / 32)).policy ≠ 1 ∧ s.mustWake c = false ∧ (s.core c).timerNear (s.coreTime c) = false)) ∧
    (∃ (s : State) (c : CoreId),
      (¬((s.core c).run = .sleep ∧ (s.stud (c.val / 32)).policy ≠ 1 ∧ s.mustWake c = false ∧ (s.core c).timerNear (s.coreTime c) = false))) ∧
    (∃ (s : State) (c : CoreId),
      (s.core c).run = .entering .ap1 ∧
      (s.mustWake c = false ∨ (s.core c).resetting = true) ∧
      (s.core c).drained = true ∧
      (s.core c).pipe.dirtyLines = []) ∧
    (∃ (s : State) (c : CoreId) (l : Nat),
      (s.core c).run = .entering .ap1 ∧
      (s.mustWake c = false ∨ (s.core c).resetting = true) ∧
      (s.core c).drained = true ∧
      (s.core c).pipe.dirtyLines = [l] ∧
      isRidgeLine l = false ∧
      (s.core c).pipe.slots = []) ∧
    (∃ (s : State) (c : CoreId),
      (s.core c).run = .entering .ap1 ∧
      (s.mustWake c = false ∨ (s.core c).resetting = true) ∧
      (s.core c).drained = false) ∧
    (∃ (s : State) (c : CoreId),
      (s.core c).run = .entering .ap2 ∧
      s.mustWake c = false ∧
      (s.core c).resetting = false ∧
      (s.core c).pipe.clean = true) ∧
    (∃ (s : State) (c : CoreId) (l : Nat),
      (s.core c).run = .entering .ap2 ∧
      (s.mustWake c = false ∨ (s.core c).resetting = true) ∧
      (s.core c).pipe.dirtyLines = [l] ∧
      isRidgeLine l = false ∧
      (s.core c).pipe.slots = []) ∧
    (∃ (s : State) (c : CoreId),
      (s.core c).run = .entering .ap2 ∧
      (s.mustWake c = false ∨ (s.core c).resetting = true) ∧
      (s.core c).pipe.clean = false ∧
      ((s.core c).pipe.dirtyLines.filter (fun l => ((s.core c).pipe.keepOf l).isNone)) = []) ∧
    (∃ (s : State) (c : CoreId),
      (s.core c).run = .entering .ap3 ∧
      (s.mustWake c = false ∨ (s.core c).resetting = true)) ∧
    (∃ (s : State) (c : CoreId),
      (s.core c).run = .entering .ap4) ∧
    (∃ (s : State) (c : CoreId) (a : AbortPoint),
      (s.core c).run ≠ .entering a) ∧
    (∃ (s : State) (c : CoreId) (a : AbortPoint),
      (s.core c).run = .entering a ∧
      a ≠ .ap4 ∧
      s.mustWake c = true ∧
      (s.core c).resetting = false) ∧
    (∃ (s : State) (c : CoreId),
      s.mustWake c = true ∧
      (s.core c).run = .idle ∧
      ((s.core c).pipe.waits = [] ∧ (s.core c).pipe.fence = [] ∧ (s.core c).pipe.storeQ = [] ∧ (s.core c).pipe.slots = [] ∧ (s.core c).pipe.rob = [] ∧ (s.core c).pipe.stall = none ∧ (s.core c).pipe.poison = none ∧ (s.core c).pipe.trapped = false)) ∧
    (∃ (s : State) (c : CoreId),
      s.mustWake c = true ∧
      (((s.core c).run = .sleep ∨ (s.core c).run = .entering .ap1 ∨ (s.core c).run = .entering .ap2 ∨ (s.core c).run = .entering .ap3) ∧ (s.core c).resetting = false ∨ (s.core c).run = .deep ∧ (s.stud (c.val / 32)).held = false ∧ (s.stud (c.val / 32)).testing = false ∧ (s.core c).resetting = false) ∧
      (s.tenon (c.val / 32)).st ≠ 3 ∧
      ((s.core c).pipe.waits = [] ∧ (s.core c).pipe.fence = [] ∧ (s.core c).pipe.storeQ = [] ∧ (s.core c).pipe.slots = [] ∧ (s.core c).pipe.rob = [] ∧ (s.core c).pipe.stall = none ∧ (s.core c).pipe.poison = none ∧ (s.core c).pipe.trapped = false)) ∧
    (∃ (s : State) (c : CoreId),
      s.mustWake c = true ∧
      ((s.core c).run = .deep ∧ (s.stud (c.val / 32)).held = false ∧ (s.stud (c.val / 32)).testing = false) ∧
      (s.tenon (c.val / 32)).st = 3) ∧
    (∃ (s : State) (c : CoreId),
      s.mustWake c = true ∧
      ((s.core c).run = .deep ∧ ((s.stud (c.val / 32)).held = true ∨ (s.stud (c.val / 32)).testing = true) ∨ (s.core c).run = .entering .ap4)) ∧
    (∃ (s : State) (c : CoreId),
      (s.core c).run = .held ∧
      ((s.core c).wake = true ∧ (s.stud (c.val / 32)).held = false ∧ (s.stud (c.val / 32)).testing = false ∧ s.isBooted (s.frameOfCore c) = true ∧ (s.frame (s.frameOfCore c)).halted = false) ∧
      (s.tenon (c.val / 32)).st ≠ 3) ∧
    (∃ (s : State) (c : CoreId),
      (s.mustWake c = false ∨ (s.core c).run = .run ∨ (s.core c).run = .stopped ∨ (s.core c).run = .held ∧ ¬((s.core c).wake = true ∧ (s.stud (c.val / 32)).held = false ∧ (s.stud (c.val / 32)).testing = false ∧ s.isBooted (s.frameOfCore c) = true ∧ (s.frame (s.frameOfCore c)).halted = false) ∨ (s.core c).resetting = true ∧ ((s.core c).run = .entering .ap1 ∨ (s.core c).run = .entering .ap2 ∨ (s.core c).run = .entering .ap3))) ∧
    (∃ (s : State) (b : BayId),
      (s.isBooted (s.frameOfStud b) = true ∧ s.domStateOf (14 + b.val) = 0 ∧ ((studsOf s.mode (s.frameOfStud b)).filter (fun n => (s.stud n).state != 1)).all s.allDeep = true)) ∧
    (∃ (s : State) (b : BayId),
      (¬(s.isBooted (s.frameOfStud b) = true ∧ s.domStateOf (14 + b.val) = 0 ∧ ((studsOf s.mode (s.frameOfStud b)).filter (fun n => (s.stud n).state != 1)).all s.allDeep = true))) ∧
    (∃ (s : State) (d : DomId),
      26 ≤ d.val ∧
      s.domStateOf d = 3) ∧
    (∃ (s : State) (d : DomId),
      (d.val < 26 ∨ s.domStateOf d ≠ 3)) ∧
    (∃ (s : State) (d : DomId),
      s.power.woken.contains d.val = true ∧
      s.domBusy d = false) ∧
    (∃ (s : State) (d : DomId),
      (s.power.woken.contains d.val = false ∨ s.domBusy d = true)) :=
  ⟨⟨((base.setStud 0 { base.stud 0 with cores := 3 }).setCore 0 { (base.setStud 0 { base.stud 0 with cores := 3 }).core 0 with run := .idle, waiting := .wfi }).setCore 1 { base.core 1 with run := .run }, 0, by decide +kernel⟩,
    ⟨(base.setStud 0 { base.stud 0 with cores := 1 }).setCore 0 { (base.setStud 0 { base.stud 0 with cores := 1 }).core 0 with run := .idle, waiting := .wfi }, 0, by decide +kernel⟩,
    ⟨base, 0, by decide +kernel⟩,
    ⟨(base.setStud 0 { base.stud 0 with cores := 3 }).setCore 0 { (base.setStud 0 { base.stud 0 with cores := 3 }).core 0 with run := .sleep }, 0, by decide +kernel⟩,
    ⟨base, 0, by decide +kernel⟩,
    ⟨(base.setStud 0 { base.stud 0 with cores := 3 }).setCore 0 { (base.setStud 0 { base.stud 0 with cores := 3 }).core 0 with run := .entering .ap1 }, 0, by decide +kernel⟩,
    ⟨(base.setStud 0 { base.stud 0 with cores := 3 }).setCore 0 { (base.setStud 0 { base.stud 0 with cores := 3 }).core 0 with run := .entering .ap1, pipe := { l2 := [(1, [{ line := 64, st := .m, data := 3 }])] } }, 0, 64, by decide +kernel⟩,
    ⟨(base.setStud 0 { base.stud 0 with cores := 3 }).setCore 0 { (base.setStud 0 { base.stud 0 with cores := 3 }).core 0 with run := .entering .ap1, pipe := { storeQ := [{ acc := {} }] } }, 0, by decide +kernel⟩,
    ⟨(base.setStud 0 { base.stud 0 with cores := 3 }).setCore 0 { (base.setStud 0 { base.stud 0 with cores := 3 }).core 0 with run := .entering .ap2 }, 0, by decide +kernel⟩,
    ⟨(base.setStud 0 { base.stud 0 with cores := 3 }).setCore 0 { (base.setStud 0 { base.stud 0 with cores := 3 }).core 0 with run := .entering .ap2, pipe := { l2 := [(1, [{ line := 64, st := .m, data := 3 }])] } }, 0, 64, by decide +kernel⟩,
    ⟨(base.setStud 0 { base.stud 0 with cores := 3 }).setCore 0 { (base.setStud 0 { base.stud 0 with cores := 3 }).core 0 with run := .entering .ap2, pipe := { slots := [(3, { kind := .evict, line := 7 })] } }, 0, by decide +kernel⟩,
    ⟨(base.setStud 0 { base.stud 0 with cores := 3 }).setCore 0 { (base.setStud 0 { base.stud 0 with cores := 3 }).core 0 with run := .entering .ap3 }, 0, by decide +kernel⟩,
    ⟨(base.setStud 0 { base.stud 0 with cores := 3 }).setCore 0 { (base.setStud 0 { base.stud 0 with cores := 3 }).core 0 with run := .entering .ap4 }, 0, by decide +kernel⟩,
    ⟨base, 0, .ap2, by decide +kernel⟩,
    ⟨(base.setStud 0 { base.stud 0 with cores := 3 }).setCore 0 { (base.setStud 0 { base.stud 0 with cores := 3 }).core 0 with run := .entering .ap2, wake := true }, 0, .ap2, by decide +kernel⟩,
    ⟨(base.setStud 0 { base.stud 0 with cores := 3 }).setCore 0 { (base.setStud 0 { base.stud 0 with cores := 3 }).core 0 with run := .idle, waiting := .wfi, wake := true }, 0, by decide +kernel⟩,
    ⟨(base.setStud 0 { base.stud 0 with cores := 1, domDeep := true, pllOn := false }).setCore 0 { (base.setStud 0 { base.stud 0 with cores := 1, domDeep := true, pllOn := false }).core 0 with run := .deep, wake := true }, 0, by decide +kernel⟩,
    ⟨((base.setStud 0 { base.stud 0 with cores := 1, domDeep := true, pllOn := false }).setCore 0 { (base.setStud 0 { base.stud 0 with cores := 1, domDeep := true, pllOn := false }).core 0 with run := .deep, wake := true }).setTenon 0 { st := 3 }, 0, by decide +kernel⟩,
    ⟨(base.setStud 0 { base.stud 0 with held := true }).setCore 0 { (base.setStud 0 { base.stud 0 with held := true }).core 0 with run := .deep, wake := true }, 0, by decide +kernel⟩,
    ⟨(base.setStud 0 { base.stud 0 with cores := 3 }).setCore 0 { (base.setStud 0 { base.stud 0 with cores := 3 }).core 0 with run := .held, wake := true, cause := 2 }, 0, by decide +kernel⟩,
    ⟨base, 0, by decide +kernel⟩,
    ⟨{ base with studs := [] }, 4, by decide +kernel⟩,
    ⟨base, 4, by decide +kernel⟩,
    ⟨{ base with power := { base.power with domState := [(28, 3)] } }, 28, by decide +kernel⟩,
    ⟨base, 28, by decide +kernel⟩,
    ⟨({ base with power := { base.power with woken := [28] } } : State).setPort 1 { pers := 1, inReset := false, roots := [(0, { up := true, width := 4, cfg := [(0x50, 2)] }), (1, { up := true, width := 4, flit := true })] }, 28, by decide +kernel⟩,
    ⟨base, 28, by decide +kernel⟩⟩

/-- States and operands that meet the hypotheses of ScribeSamplesAndFlushes. -/
theorem witness_ScribeSamplesAndFlushes :
    (∃ (s : State) (r : Word) (q : Nat) (v : Int) (i : Nat),
      s.live = true ∧
      recOfId r.toNat = some (0x01, i)) ∧
    (∃ (s : State) (r : Word) (q : Nat) (v : Int) (i : Nat),
      s.live = true ∧
      recOfId r.toNat = some (0x02, i)) ∧
    (∃ (s : State) (r : Word) (q : Nat) (v : Int) (i : Nat),
      s.live = true ∧
      recOfId r.toNat = some (0x03, i)) ∧
    (∃ (s : State) (r : Word) (q : Nat) (v : Int) (i : Nat),
      s.live = true ∧
      recOfId r.toNat = some (0x13, i)) ∧
    (∃ (s : State) (r : Word) (q : Nat) (v : Int) (i : Nat),
      s.live = true ∧
      recOfId r.toNat = some (0x30, i) ∧
      q < 2) ∧
    (∃ (s : State) (r : Word) (q : Nat) (v : Int) (i : Nat),
      s.live = true ∧
      recOfId r.toNat = some (0x10, i) ∧
      q < 2) ∧
    (∃ (s : State) (r : Word) (q : Nat) (v : Int),
      (s.live = false ∨ recOfId r.toNat = none)) ∧
    (∃ (s : State) (r : Word) (q : Nat) (v : Int) (e : Nat × Nat),
      recOfId r.toNat = some e ∧
      (e.1 ∉ ([0x01, 0x02, 0x03, 0x10, 0x13, 0x30] : List Nat) ∨ ((e.1 = 0x10 ∨ e.1 = 0x30) ∧ 2 ≤ q))) ∧
    (∃ (s : State) (k i b n : Nat),
      s.scribe.frozen = false ∧
      (s.recOf k i).bin k b + n < 2 ^ 64 - 1 ∧
      (s.recOf k i).samples < 2 ^ 64 - 1 ∧
      b < 1000) ∧
    (∃ (s : State) (k i b n : Nat),
      s.scribe.frozen = true ∧
      (s.recOf k i).missed < 2 ^ 64 - 1) ∧
    (∃ (s : State) (k i q : Nat) (v : Int),
      s.scribe.frozen = false ∧
      (k = 0x10 ∨ k = 0x11 ∨ k = 0x12) ∧
      (s.recOf k i).samples < 2 ^ 64 - 1) ∧
    (∃ (s : State),
      s.live = true ∧
      s.scribe.frozen = true) ∧
    (∃ (s : State),
      (s.live = false ∨ s.scribe.frozen = false)) ∧
    (∃ (s : State),
      s.live = true ∧
      s.scribe.flushing = none) ∧
    (∃ (s : State),
      s.live = true ∧
      s.scribe.flushing ≠ none) ∧
    (∃ (s : State),
      s.live = false) ∧
    (∃ (s : State) (c : Nat),
      s.plumb.on = true ∧
      s.scribe.flushing = some c ∧
      s.scribe.again = none ∧
      s.plumb.jobs.any (fun j => j.opcode == 0x54 && j.running) = false) ∧
    (∃ (s : State) (c : Nat) (a : Nat),
      s.plumb.on = true ∧
      s.scribe.flushing = some c ∧
      s.scribe.again = some a ∧
      s.plumb.jobs.any (fun j => j.opcode == 0x54 && j.running) = false) ∧
    (∃ (s : State) (c : Nat),
      s.plumb.on = true ∧
      s.scribe.flushing = some c ∧
      s.scribe.again = none ∧
      s.plumb.jobs.any (fun j => j.opcode == 0x54 && j.running) = false) ∧
    (∃ (s : State) (c : Nat) (j : Job),
      s.plumb.on = true ∧
      s.scribe.flushing = some c ∧
      s.live = true ∧
      s.scribe.again = none ∧
      s.plumb.jobs = [j] ∧
      (j.opcode = 0x54 ∧ j.running = true)) ∧
    (∃ (s : State) (c : Nat) (j : Job),
      s.plumb.on = true ∧
      s.scribe.flushing = some c ∧
      s.live = true ∧
      s.scribe.again = none ∧
      s.plumb.jobs = [j] ∧
      (j.opcode = 0x54 ∧ j.running = true)) ∧
    (∃ (s : State) (b : Bool),
      (s.plumb.on = false ∨ s.scribe.flushing = none)) ∧
    (∃ (s : State),
      s.live = true ∧
      s.plumb.mapDirty = true) ∧
    (∃ (s : State),
      (s.live = false ∨ s.plumb.mapDirty = false)) :=
  ⟨⟨base, 0x01050000, 0, 2400, 5, by decide +kernel⟩,
    ⟨base, 0x02030000, 0, 2400, 3, by decide +kernel⟩,
    ⟨base, 0x03050000, 0, 2400, 5, by decide +kernel⟩,
    ⟨base, 0x13000000, 0, 2400, 0, by decide +kernel⟩,
    ⟨base, 0x30030000, 1, 2400, 3, by decide +kernel⟩,
    ⟨base, 0x10030000, 1, 2400, 3, by decide +kernel⟩,
    ⟨base, 0x77000000, 0, 2400, by decide +kernel⟩,
    ⟨base, 0x11000000, 0, 2400, (0x11, 0), by decide +kernel⟩,
    ⟨base, 0x03, 5, 7, 1, by decide +kernel⟩,
    ⟨{ base with scribe := { frozen := true } }, 0x03, 5, 7, 1, by decide +kernel⟩,
    ⟨base, 0x10, 3, 1, 2400, by decide +kernel⟩,
    ⟨{ base with scribe := { frozen := true } }, by decide +kernel⟩,
    ⟨base, by decide +kernel⟩,
    ⟨base, by decide +kernel⟩,
    ⟨{ base with scribe := { flushing := some 0 } }, by decide +kernel⟩,
    ⟨{ base with off := true }, by decide +kernel⟩,
    ⟨{ base with scribe := { flushing := some 3, log := [{ seq := 3 }] } }, 3, by decide +kernel⟩,
    ⟨{ base with scribe := { flushing := some 3, again := some 1 } }, 3, 1, by decide +kernel⟩,
    ⟨{ base with scribe := { flushing := some 3 } }, 3, by decide +kernel⟩,
    ⟨{ mj 0x54 [] with scribe := { flushing := some 0, log := [{ seq := 3 }] } }, 0, jb 0x54 [], by decide +kernel⟩,
    ⟨{ mj 0x54 [] with scribe := { flushing := some 0, log := [{ seq := 3 }] } }, 0, jb 0x54 [], by decide +kernel⟩,
    ⟨base, true, by decide +kernel⟩,
    ⟨{ base with plumb := { base.plumb with mapDirty := true }, tenons := [(4, { st := 2, up := { retired := 8 } })] }, by decide +kernel⟩,
    ⟨base, by decide +kernel⟩⟩

/-- States and operands that meet the hypotheses of ResetsAndBoot. -/
theorem witness_ResetsAndBoot :
    (∃ (s : State) (e : BootEnv) (b : Bundle),
      s.pins.pwrgood = false ∧
      s.pins.resetN = true ∧
      Tab.find s.plumb.flash.slots s.plumb.flash.booted = some b ∧
      s.plumb.flash.try_ = none ∧
      s.plumb.journalMap = [] ∧
      e = { straps := e.straps } ∧
      b.verifies s.plumb.minSvn = true ∧
      s.plumb.flash.mode = none ∧
      (b.comp 3).length < 0x1FF0000) ∧
    (∃ (s : State) (e : BootEnv) (b : Bundle),
      s.off = true ∧
      s.pins.resetN = true ∧
      Tab.find s.plumb.flash.slots s.plumb.flash.booted = some b ∧
      s.plumb.flash.try_ = none ∧
      s.plumb.journalMap = [] ∧
      e = { straps := e.straps } ∧
      b.verifies s.plumb.minSvn = true ∧
      s.plumb.flash.mode = none ∧
      (b.comp 3).length < 0x1FF0000) ∧
    (∃ (s : State) (e : BootEnv),
      s.pins.pwrgood = false ∧
      s.plumb.flash.slots.all (fun d => !d.2.verifies s.plumb.minSvn) = true) ∧
    (∃ (s : State) (e : BootEnv),
      s.off = true ∧
      s.plumb.flash.slots.all (fun d => !d.2.verifies s.plumb.minSvn) = true) ∧
    (∃ (s : State) (e : BootEnv) (b : Bundle) (t : Nat),
      s.pins.pwrgood = false ∧
      s.pins.resetN = false ∧
      s.plumb.flash.try_ = some t ∧
      Tab.find s.plumb.flash.slots t = some b ∧
      b.verifies s.plumb.minSvn = true) ∧
    (∃ (s : State) (e : BootEnv) (b : Bundle),
      s.pins.pwrgood = false ∧
      s.pins.resetN = false ∧
      (s.plumb.flash.try_.bind (Tab.find s.plumb.flash.slots)).all (fun d => !d.verifies s.plumb.minSvn) = true ∧
      Tab.find s.plumb.flash.slots s.plumb.flash.booted = some b ∧
      b.verifies s.plumb.minSvn = true) ∧
    (∃ (s : State) (e : BootEnv) (b : Bundle),
      s.pins.pwrgood = false ∧
      s.pins.resetN = false ∧
      (s.plumb.flash.try_.bind (Tab.find s.plumb.flash.slots)).all (fun d => !d.verifies s.plumb.minSvn) = true ∧
      (Tab.find s.plumb.flash.slots s.plumb.flash.booted).all (fun d => !d.verifies s.plumb.minSvn) = true ∧
      Tab.find s.plumb.flash.slots (1 - s.plumb.flash.booted) = some b ∧
      b.verifies s.plumb.minSvn = true) ∧
    (∃ (s : State) (e : BootEnv) (b : Bundle),
      s.pins.pwrgood = false ∧
      s.pins.resetN = true ∧
      e.hot ≠ [] ∧
      b.verifies s.plumb.minSvn = true ∧
      Tab.find s.plumb.flash.slots s.plumb.flash.booted = some b ∧
      s.plumb.flash.try_ = none) ∧
    (∃ (s : State) (e : BootEnv),
      s.pins.pwrgood = true) ∧
    (∃ (s : State) (e : BootEnv),
      s.off = false) ∧
    (∃ (s : State),
      s.live = true ∧
      s.pins.resetN = true ∧
      s.power.trip = false ∧
      s.bootHeld = false ∧
      s.chans.all (fun e => e.2.wq.isEmpty) = true ∧
      s.plumb.jobs.all (fun j => j.opcode != 0x10 || !j.running) = true ∧
      s.ports.all (fun e => e.2.inb.isEmpty && e.2.inbQ.isEmpty) = true ∧
      s.net.all (fun m => decide (m.hdr.dst < 52)) = true) ∧
    (∃ (s : State),
      (s.live = false ∨ s.pins.resetN = false ∨ s.power.trip = true ∨ s.bootHeld = true)) ∧
    (∃ (s : State) (e : BootEnv),
      (s.live = false ∨ s.pins.resetN = true ∨ s.power.trip = true ∨ s.plumb.waitRstN = false ∧ s.plumb.recovery = false ∧ s.plumb.hot ≠ [])) ∧
    (∃ (s : State) (e : BootEnv) (b : Bundle),
      s.live = true ∧
      s.pins.resetN = false ∧
      s.power.trip = false ∧
      s.bootHeld = false ∧
      s.plumb.flash.try_ = none ∧
      s.plumb.running = b ∧
      e = { straps := e.straps } ∧
      b.verifies s.plumb.minSvn = true ∧
      s.plumb.flash.mode = none ∧
      (b.comp 3).length < 0x1FF0000 ∧
      s.tenons.all (fun e => e.2.up.retired == 0 && e.2.dn.retired == 0) = true) ∧
    (∃ (s : State) (c : CoreId),
      s.live = true ∧
      s.plumb.dbgOpen = true ∧
      (s.frame (s.frameOfCore c)).resetting = false ∧
      s.isBooted (s.frameOfCore c) = true ∧
      (s.frame (s.frameOfCore c)).halted = false ∧
      (s.core c).run ∈ ([.run, .idle, .entering .ap1, .entering .ap2, .entering .ap3] : List Run)) ∧
    (∃ (s : State) (c : CoreId),
      s.live = true ∧
      s.plumb.dbgOpen = true ∧
      (s.frame (s.frameOfCore c)).resetting = false ∧
      s.isBooted (s.frameOfCore c) = true ∧
      (s.frame (s.frameOfCore c)).halted = false ∧
      ((s.core c).run = .sleep ∨ (s.core c).run = .deep ∧ (s.stud (c.val / 32)).held = false ∧ (s.stud (c.val / 32)).testing = false) ∧
      (s.tenon (c.val / 32)).st ≠ 3 ∧
      ((s.core c).pipe.waits = [] ∧ (s.core c).pipe.fence = [] ∧ (s.core c).pipe.storeQ = [] ∧ (s.core c).pipe.slots = [] ∧ (s.core c).pipe.rob = [] ∧ (s.core c).pipe.stall = none ∧ (s.core c).pipe.poison = none ∧ (s.core c).pipe.trapped = false)) ∧
    (∃ (s : State) (c : CoreId),
      s.live = true ∧
      s.plumb.dbgOpen = true ∧
      (s.frame (s.frameOfCore c)).resetting = false ∧
      s.isBooted (s.frameOfCore c) = true ∧
      (s.frame (s.frameOfCore c)).halted = false ∧
      ((s.core c).run = .entering .ap4 ∨ (s.core c).run = .deep ∧ ((s.stud (c.val / 32)).held = true ∨ (s.stud (c.val / 32)).testing = true))) ∧
    (∃ (s : State) (c : CoreId),
      s.live = true ∧
      s.plumb.dbgOpen = true ∧
      (s.frame (s.frameOfCore c)).resetting = false ∧
      s.isBooted (s.frameOfCore c) = true ∧
      (s.frame (s.frameOfCore c)).halted = false ∧
      (s.core c).run = .held ∧
      bitOf (s.stud (c.val / 32)).cores (c.val % 32) = true) ∧
    (∃ (s : State) (c : CoreId),
      s.live = true ∧
      s.plumb.dbgOpen = true ∧
      (s.frame (s.frameOfCore c)).resetting = true) ∧
    (∃ (s : State) (c : CoreId),
      (s.live = false ∨ s.plumb.dbgOpen = false ∨ (s.frame (s.frameOfCore c)).resetting = false ∧ (s.isBooted (s.frameOfCore c) = false ∨ (s.frame (s.frameOfCore c)).halted = true ∨ (s.core c).run = .stopped))) ∧
    (∃ (s : State) (c : CoreId),
      (s.core c).run = .entering .ap2 ∧
      (s.core c).resetting = true ∧
      (s.core c).pipe.clean = true ∧
      bitOf (s.stud (c.val / 32)).cores (c.val % 32) = true) :=
  ⟨⟨{ State.reset with mem := [(64, 7)], plumb := { State.reset.plumb with flash := { slots := [(0, { svn := 3, comps := [(1, [1#8]), (2, [2#8]), (3, [3#8, 9#8]), (4, [4#8])], mode := some (0, 4095) })] } } }, { straps := 9 }, { svn := 3, comps := [(1, [1#8]), (2, [2#8]), (3, [3#8, 9#8]), (4, [4#8])], mode := some (0, 4095) }, by decide +kernel⟩,
    ⟨{ State.reset with off := true, plumb := { State.reset.plumb with flash := { slots := [(0, { svn := 3, comps := [(1, [1#8]), (2, [2#8]), (3, [3#8, 9#8]), (4, [4#8])], mode := some (0, 4095) })] } } }, { straps := 9 }, { svn := 3, comps := [(1, [1#8]), (2, [2#8]), (3, [3#8, 9#8]), (4, [4#8])], mode := some (0, 4095) }, by decide +kernel⟩,
    ⟨{ State.reset with plumb := { State.reset.plumb with flash := { slots := [(0, { good := false })], try_ := some 0 } } }, {}, by decide +kernel⟩,
    ⟨{ State.reset with off := true, plumb := { State.reset.plumb with flash := { slots := [(0, { good := false })] } } }, {}, by decide +kernel⟩,
    ⟨{ State.reset with pins := { State.reset.pins with resetN := false }, plumb := { State.reset.plumb with flash := { slots := [(0, { svn := 3, comps := [(1, [1#8]), (2, [2#8]), (3, [3#8, 9#8]), (4, [4#8])], mode := some (0, 1) })], try_ := some 0, booted := 1 } } }, {}, { svn := 3, comps := [(1, [1#8]), (2, [2#8]), (3, [3#8, 9#8]), (4, [4#8])], mode := some (0, 1) }, 0, by decide +kernel⟩,
    ⟨{ State.reset with pins := { State.reset.pins with resetN := false }, plumb := { State.reset.plumb with flash := { slots := [(0, { svn := 3, comps := [(1, [1#8]), (2, [2#8]), (3, [3#8, 9#8]), (4, [4#8])], mode := some (0, 1) })], try_ := some 1 } } }, {}, { svn := 3, comps := [(1, [1#8]), (2, [2#8]), (3, [3#8, 9#8]), (4, [4#8])], mode := some (0, 1) }, by decide +kernel⟩,
    ⟨{ State.reset with pins := { State.reset.pins with resetN := false }, plumb := { State.reset.plumb with flash := { slots := [(0, { svn := 3, comps := [(1, [1#8]), (2, [2#8]), (3, [3#8, 9#8]), (4, [4#8])], mode := some (0, 1) })], booted := 1 } } }, {}, { svn := 3, comps := [(1, [1#8]), (2, [2#8]), (3, [3#8, 9#8]), (4, [4#8])], mode := some (0, 1) }, by decide +kernel⟩,
    ⟨{ State.reset with plumb := { State.reset.plumb with flash := { slots := [(0, { svn := 3, comps := [(1, [1#8]), (2, [2#8]), (3, [3#8, 9#8]), (4, [4#8])], mode := some (0, 1) })] } } }, { hot := [3] }, { svn := 3, comps := [(1, [1#8]), (2, [2#8]), (3, [3#8, 9#8]), (4, [4#8])], mode := some (0, 1) }, by decide +kernel⟩,
    ⟨base, {}, by decide +kernel⟩,
    ⟨base, {}, by decide +kernel⟩,
    ⟨{ base with mem := [(7, 1)] }, by decide +kernel⟩,
    ⟨{ base with pins := { base.pins with resetN := false } }, by decide +kernel⟩,
    ⟨base, {}, by decide +kernel⟩,
    ⟨{ base with cores := [(5, {})], mem := [(7, 1)], plumb := { base.plumb with running := { svn := 3, comps := [(1, [1#8]), (2, [2#8]), (3, [3#8, 9#8]), (4, [4#8])], mode := some (0, 4095) } }, pins := { base.pins with resetN := false } }, { straps := 9 }, { svn := 3, comps := [(1, [1#8]), (2, [2#8]), (3, [3#8, 9#8]), (4, [4#8])], mode := some (0, 4095) }, by decide +kernel⟩,
    ⟨base, 0, by decide +kernel⟩,
    ⟨(base.setStud 0 { base.stud 0 with cores := 1, domDeep := true, pllOn := false }).setCore 0 { (base.setStud 0 { base.stud 0 with cores := 1, domDeep := true, pllOn := false }).core 0 with run := .deep }, 0, by decide +kernel⟩,
    ⟨(base.setStud 0 { base.stud 0 with cores := 3 }).setCore 0 { (base.setStud 0 { base.stud 0 with cores := 3 }).core 0 with run := .entering .ap4 }, 0, by decide +kernel⟩,
    ⟨(base.setStud 0 { base.stud 0 with cores := 3 }).setCore 0 { (base.setStud 0 { base.stud 0 with cores := 3 }).core 0 with run := .held }, 0, by decide +kernel⟩,
    ⟨base.setFrame 0 { base.frame 0 with resetting := true }, 0, by decide +kernel⟩,
    ⟨{ base with plumb := { base.plumb with dbgOpen := false } }, 0, by decide +kernel⟩,
    ⟨(base.setStud 0 { base.stud 0 with cores := 3 }).setCore 0 { (base.setStud 0 { base.stud 0 with cores := 3 }).core 0 with run := .entering .ap2, resetting := true }, 0, by decide +kernel⟩⟩

/-- States and operands that meet the hypotheses of TranslationStateSurvivesIdleOnly. -/
theorem witness_TranslationStateSurvivesIdleOnly :
    (∃ (s : State) (c : CoreId),
      (s.core c).run = .entering .ap4) ∧
    (∃ (s : State) (c : CoreId),
      (s.core c).run = .deep ∧
      (s.core c).pipe = {}) ∧
    (∃ (s : State) (c : CoreId),
      (s.core c).run = .entering .ap2 ∧
      (s.core c).resetting = true ∧
      (s.core c).pipe.clean = true) ∧
    (∃ (s : State) (c : CoreId),
      s.live = true ∧
      s.plumb.dbgOpen = true ∧
      (s.frame (s.frameOfCore c)).resetting = false ∧
      s.isBooted (s.frameOfCore c) = true ∧
      (s.frame (s.frameOfCore c)).halted = false ∧
      (s.core c).run = .held) ∧
    (∃ (s : State) (x : TInst) (p : CmdPkt) (d : Nat),
      s.takes x 0x13 p ∧
      p.rsvdZero (offs 1 8) ∧
      (p.byte 0 < 12 ∧ s.inScope x (s.frameOfStud (p.byte 0)) = true) ∧
      ((s.stud (p.byte 0)).state = 1 ∨ (s.frame (s.frameOfStud (p.byte 0))).halted = true ∨ s.allDeep (p.byte 0) = true ∧ (s.tenon (p.byte 0)).st = 3) ∧
      d / 32 = p.byte 0) ∧
    (∃ (s : State) (x : TInst) (p : CmdPkt) (d : Nat),
      s.takes x 0x12 p ∧
      p.rsvdZero (offs 1 8) ∧
      (p.byte 0 < frameCount s.mode ∧ s.inScope x (p.byte 0) = true) ∧
      d < 384 ∧
      s.frameOfCore d = p.byte 0) ∧
    (∃ (s : State) (d : Nat),
      s.live = true ∧
      s.pins.resetN = true ∧
      s.power.trip = false ∧
      s.bootHeld = false ∧
      d < 384) ∧
    (∃ (s : State) (e : BootEnv) (d : Nat),
      s.pins.pwrgood = false) ∧
    (∃ (s : State) (e : BootEnv) (d : Nat),
      s.off = true) :=
  ⟨⟨(base).setCore 0 { (base).core 0 with run := .entering .ap4, xlat := { shim := true, dtlb := [(0, { vpn := 1, ppn := 9, pte := 0xCF })], l2tlb := [(0, { vpn := 1, ppn := 9, pte := 0xCF })] } }, 0, by decide +kernel⟩,
    ⟨(base).setCore 0 { (base).core 0 with run := .deep, wake := true, xlat := { shim := true, dtlb := [(0, { vpn := 1, ppn := 9, pte := 0xCF })], l2tlb := [(0, { vpn := 1, ppn := 9, pte := 0xCF })] } }, 0, by decide +kernel⟩,
    ⟨(base).setCore 0 { (base).core 0 with run := .entering .ap2, resetting := true, xlat := { shim := true, dtlb := [(0, { vpn := 1, ppn := 9, pte := 0xCF })], l2tlb := [(0, { vpn := 1, ppn := 9, pte := 0xCF })] } }, 0, by decide +kernel⟩,
    ⟨(base).setCore 0 { (base).core 0 with run := .held, xlat := { shim := true, dtlb := [(0, { vpn := 1, ppn := 9, pte := 0xCF })], l2tlb := [(0, { vpn := 1, ppn := 9, pte := 0xCF })] } }, 0, by decide +kernel⟩,
    ⟨(mb.setStud 4 { mb.stud 4 with state := 1 }).setCore 130 { xlat := { shim := true, dtlb := [(0, { vpn := 1, ppn := 9, pte := 0xCF })], l2tlb := [(0, { vpn := 1, ppn := 9, pte := 0xCF })] } }, {}, pk 0x13 [4, 0, 0, 0, 0, 0, 0, 0], 130, by decide +kernel⟩,
    ⟨mb.setCore 130 { xlat := { shim := true, dtlb := [(0, { vpn := 1, ppn := 9, pte := 0xCF })], l2tlb := [(0, { vpn := 1, ppn := 9, pte := 0xCF })] } }, {}, pk 0x12 [0, 0, 0, 0, 0, 0, 0, 0], 130, by decide +kernel⟩,
    ⟨(base).setCore 0 { (base).core 0 with xlat := { shim := true, dtlb := [(0, { vpn := 1, ppn := 9, pte := 0xCF })], l2tlb := [(0, { vpn := 1, ppn := 9, pte := 0xCF })] } }, 0, by decide +kernel⟩,
    ⟨State.reset, {}, 0, by decide +kernel⟩,
    ⟨{ State.reset with off := true }, {}, 0, by decide +kernel⟩⟩

/-- States and operands that meet the hypotheses of ScribeTimestamps. -/
theorem witness_ScribeTimestamps :
    (∃ (s : State) (e : BootEnv),
      s.pins.pwrgood = false) ∧
    (∃ (s : State) (e : BootEnv),
      s.off = true) ∧
    (∃ (s : State),
      s.refLost = false ∧
      s.off = false ∧
      s.pins.pwrgood = true ∧
      s.plumb.on = true ∧
      s.idleRings) :=
  ⟨⟨State.reset, {}, by decide +kernel⟩,
    ⟨{ State.reset with off := true }, {}, by decide +kernel⟩,
    ⟨base, by decide +kernel⟩⟩

/-- States and operands that meet the hypotheses of HartAccessesOfIoRegions. -/
theorem witness_HartAccessesOfIoRegions :
    (∃ (s : State) (c : CoreId) (va : Word) (size : Nat) (dest : Dest) (sext : Bool),
      (s.core c).quiet ∧
      (s.core c).destLegal dest = 0 ∧
      s.nqWait = [] ∧
      (s.tenon (c.val / 32)).st = 2 ∧
      va.toNat = controlBase + 0x200000 ∧
      size = 8) ∧
    (∃ (s : State) (c : CoreId) (va : Word) (size : Nat) (dest : Dest) (sext : Bool) (p i off : Nat),
      (s.core c).quiet ∧
      (s.core c).destLegal dest = 0 ∧
      (s.tenon (c.val / 32)).st = 2 ∧
      va.toNat = portBase p + i * 2 ^ 15 + off ∧
      (p < 8 ∧ i < 32 ∧ off < 4096) ∧
      s.frameOfPort p = (s.frameOfCore c) ∧
      ((s.port p).pers = 1 ∨ (s.port p).pers = 2) ∧
      (size = 1 ∨ size = 2 ∨ size = 4) ∧
      off % size = 0 ∧
      (rootStarts (s.port p).lanes).any (fun e => e.1 == i) = true) ∧
    (∃ (s : State) (c : CoreId) (va : Word) (size : Nat) (dest : Dest) (sext : Bool) (p i off : Nat),
      (s.core c).quiet ∧
      (s.core c).destLegal dest = 0 ∧
      (s.tenon (c.val / 32)).st = 2 ∧
      va.toNat = portBase p + i * 2 ^ 15 + off ∧
      (p < 8 ∧ i < 32 ∧ off < 4096) ∧
      s.frameOfPort p = (s.frameOfCore c) ∧
      ((s.port p).pers = 1 ∨ (s.port p).pers = 2) ∧
      (size = 1 ∨ size = 2 ∨ size = 4) ∧
      off % size = 0 ∧
      (rootStarts (s.port p).lanes).any (fun e => e.1 == i) = false) ∧
    (∃ (s : State) (c : CoreId) (va : Word) (size : Nat) (dest : Dest) (sext : Bool) (p r : Nat),
      (s.core c).quiet ∧
      (s.core c).destLegal dest = 0 ∧
      (s.tenon (c.val / 32)).st = 2 ∧
      (portBase p + 0x10000000 ≤ va.toNat ∧ va.toNat < portBase p + 2 ^ 41) ∧
      p < 8 ∧
      s.frameOfPort p = (s.frameOfCore c) ∧
      ((s.port p).pers = 1 ∨ (s.port p).pers = 2) ∧
      (size = 1 ∨ size = 2 ∨ size = 4 ∨ size = 8) ∧
      va.toNat % size = 0 ∧
      (s.port p).claimant va.toNat = some r ∧
      ((s.port p).root r).up = true ∧
      ((s.port p).root r).out = [] ∧
      ((s.port p).root r).quar = []) ∧
    (∃ (s : State) (c : CoreId) (va : Word) (size : Nat) (dest : Dest) (sext : Bool),
      (s.core c).quiet ∧
      (s.core c).destLegal dest = 0 ∧
      s.nqWait = [] ∧
      (s.tenon (c.val / 32)).st = 2 ∧
      (s.core c).pipe.snpQ = [] ∧
      (controlBase + 0xD0000 ≤ va.toNat ∧ va.toNat < controlBase + 0x100000 ∨ controlBase + 0x400000 ≤ va.toNat ∧ va.toNat < controlBase + 0x40000000) ∧
      (size = 4 ∨ size = 8) ∧
      va.toNat % size = 0 ∧
      (∀ vd e, dest ≠ .v vd e true)) ∧
    (∃ (s : State) (c : CoreId) (va : Word) (size : Nat) (v : BitVec 128),
      (s.core c).quiet ∧
      (s.tenon (c.val / 32)).st = 2 ∧
      (s.core c).pipe.snpQ = [] ∧
      (controlBase + 0xD0000 ≤ va.toNat ∧ va.toNat < controlBase + 0x100000 ∨ controlBase + 0x400000 ≤ va.toNat ∧ va.toNat < controlBase + 0x40000000) ∧
      (size = 4 ∨ size = 8) ∧
      va.toNat % size = 0) ∧
    (∃ (s : State) (c : CoreId) (va : Word) (size : Nat) (dest : Dest) (sext : Bool),
      (s.core c).quiet ∧
      (s.core c).destLegal dest = 0 ∧
      (s.tenon (c.val / 32)).st ≠ 2 ∧
      va.toNat = controlBase + 0x200000 ∧
      size = 8) ∧
    (∃ (s : State) (c : CoreId) (e : StoreEnt) (p r : Nat),
      ((s.core c).run = .run ∧ (s.core c).halt = false ∧ (s.core c).pipe.slots = [] ∧ (s.core c).pipe.waits = [] ∧ (s.core c).pipe.fence = [] ∧ (s.core c).pipe.stall = none) ∧
      (s.core c).pipe.storeQ = [e] ∧
      (s.tenon (c.val / 32)).st = 2 ∧
      (e.acc.kind = .store ∧ e.acc.split = 0) ∧
      (e.acc.size = 1 ∨ e.acc.size = 2 ∨ e.acc.size = 4 ∨ e.acc.size = 8) ∧
      e.acc.pa % e.acc.size = 0 ∧
      (portBase p + 0x10000000 ≤ e.acc.pa ∧ e.acc.pa < portBase p + 2 ^ 41) ∧
      p < 8 ∧
      s.frameOfPort p = (s.frameOfCore c) ∧
      ((s.port p).pers = 1 ∨ (s.port p).pers = 2) ∧
      (s.port p).claimant e.acc.pa = some r ∧
      ((s.port p).root r).up = true) ∧
    (∃ (s : State) (c : CoreId) (e : StoreEnt) (d : Nat) (k : Nat),
      s.nqWait = [] ∧
      ((s.core c).run = .run ∧ (s.core c).halt = false ∧ (s.core c).pipe.slots = [] ∧ (s.core c).pipe.waits = [] ∧ (s.core c).pipe.fence = [] ∧ (s.core c).pipe.stall = none) ∧
      (s.core c).pipe.storeQ = [e] ∧
      (s.tenon (c.val / 32)).st = 2 ∧
      (e.acc.kind = .store ∧ e.acc.split = 0 ∧ e.acc.size = 8) ∧
      e.acc.pa = controlBase + 0x208000 + 8 * d ∧
      d < 512 ∧
      s.coreOfCmp (s.frameOfCore c) d = some k) ∧
    (∃ (s : State) (c : CoreId) (e : StoreEnt),
      ((s.core c).run = .run ∧ (s.core c).halt = false ∧ (s.core c).pipe.slots = [] ∧ (s.core c).pipe.waits = [] ∧ (s.core c).pipe.fence = [] ∧ (s.core c).pipe.stall = none) ∧
      (s.core c).pipe.storeQ = [e] ∧
      (s.tenon (c.val / 32)).st ≠ 2 ∧
      (e.acc.kind = .store ∧ e.acc.split = 0 ∧ e.acc.size = 8) ∧
      e.acc.pa = controlBase + 0x200000) :=
  ⟨⟨base, 0, 0xFE000200000, 8, .x 5, false, by decide +kernel⟩,
    ⟨base, 0, 0x1E0000000006, 2, .x 5, false, 1, 0, 6, by decide +kernel⟩,
    ⟨base, 0, 0x1E0000038006, 2, .x 5, false, 1, 7, 6, by decide +kernel⟩,
    ⟨base.setPort 1 { base.port 1 with roots := [(0, { up := true, cfg := [(4, 6), (0x24, 0xFFF00010), (0x28, 0x1E00), (0x2C, 0x1EFF)] })] }, 0, 0x1E0010001000, 8, .x 5, false, 1, 0, by decide +kernel⟩,
    ⟨base, 0, 0xFE0000D0000, 8, .x 5, false, by decide +kernel, by decide +kernel, by decide +kernel, by decide +kernel, by decide +kernel, by decide +kernel, by decide +kernel, by decide +kernel, by intro _ _ h; cases h⟩,
    ⟨base, 0, 0xFE0000D0000, 8, 1, by decide +kernel⟩,
    ⟨base.setTenon 0 { st := 1 }, 0, 0xFE000200000, 8, .x 5, false, by decide +kernel⟩,
    ⟨(base.setPort 1 { base.port 1 with roots := [(0, { up := true, cfg := [(4, 6), (0x24, 0xFFF00010), (0x28, 0x1E00), (0x2C, 0x1EFF)] })] }).setCore 0 { (base.setPort 1 { base.port 1 with roots := [(0, { up := true, cfg := [(4, 6), (0x24, 0xFFF00010), (0x28, 0x1E00), (0x2C, 0x1EFF)] })] }).core 0 with pipe := { storeQ := [{ acc := { kind := .store, va := 0x1E0010001000, pa := 0x1E0010001000, size := 8, data := 77, io := false } }] } }, 0, { acc := { kind := .store, va := 0x1E0010001000, pa := 0x1E0010001000, size := 8, data := 77, io := false } }, 1, 0, by decide +kernel⟩,
    ⟨(base).setCore 0 { (base).core 0 with pipe := { storeQ := [{ acc := { kind := .store, va := 0xFE000208028, pa := 0xFE000208028, size := 8, data := 77, io := false } }] } }, 0, { acc := { kind := .store, va := 0xFE000208028, pa := 0xFE000208028, size := 8, data := 77, io := false } }, 5, 5, by decide +kernel⟩,
    ⟨((base).setCore 0 { (base).core 0 with pipe := { storeQ := [{ acc := { kind := .store, va := 0xFE000200000, pa := 0xFE000200000, size := 8, data := 77, io := false } }] } }).setTenon 0 { st := 1 }, 0, { acc := { kind := .store, va := 0xFE000200000, pa := 0xFE000200000, size := 8, data := 77, io := false } }, by decide +kernel⟩⟩

end Sys2Proof.Machine
end

section
/-! PROOF. The cold-reset state (O3): `State.reset` lists nothing, so every unit reads as its default record. -/

namespace Sys2Proof.Machine

@[simp] theorem State.reset_home (b : Nat) : State.reset.home b = Home.init b := rfl
@[simp] theorem State.reset_chan (c : Nat) : State.reset.chan c = {} := rfl
@[simp] theorem State.reset_frame (f : Nat) : State.reset.frame f = {} := rfl
@[simp] theorem State.reset_upmu (i : Nat) : State.reset.upmu i = {} := rfl

/-- A bay's bank starts enabled, out of write-through, with no bench or locked way, and its LFSR seeded by the bay's number
(R132, R143). -/
theorem Home.init_fields {b : Nat} (hb : b < 12) :
    (Home.init b).en = true ∧ (Home.init b).wt = false ∧ (Home.init b).bench = 0 ∧ (Home.init b).lockW = 0 ∧
      (Home.init b).lfsr = BitVec.ofNat 16 (0x1111 * (b + 1)) := by
  simp [Home.init, hb]

/-- The reset value 0x0A0A10 has LEAK_MS 10, ROT_PERIOD 10 and WIRE 16 (R212). -/
theorem State.reset_threshOk : State.reset.threshOk := by decide

theorem State.reset_bounded : State.reset.bounded := by
  refine ⟨?_, ?_, Nat.zero_le _, Nat.zero_le _⟩
  · intro e he
    cases he
  · intro e he
    cases he

/-- Settles O3: each register is read off the default records, and nothing is listed. -/
theorem resetState : Obligations.ResetState := by
  refine ⟨⟨rfl, rfl, rfl, rfl⟩, ⟨rfl, rfl, rfl, rfl, fun _ => rfl⟩, ?homes, ?chans, ?frames, ?upmus, ⟨rfl, rfl, rfl, rfl⟩,
    Memory.wf_nil, State.reset_threshOk, State.reset_bounded⟩
  case homes =>
    intro b hb
    exact Home.init_fields hb
  case chans =>
    intro c
    rw [State.reset_chan]
    decide
  case frames =>
    intro f
    rw [State.reset_frame]
    decide
  case upmus =>
    intro i k
    rw [State.reset_upmu]
    exact ⟨rfl, rfl⟩

end Sys2Proof.Machine
end

section
/-! PROOF. TENON_THRESH stays in its ranges (O59). A frame lemma for each operation of the model, in the model's order, says that the
operation leaves TENON_THRESH, or, where one of its branches may write a window of registers or reset the package, that it keeps the
register in range. The register is written in four places only: `State.regWrite`, `State.railsOff`, `execResetNAssert` and
`State.persistent`. -/

namespace Sys2Proof.Machine

/-- TENON_THRESH holds each field in its range, and its reserved bits zero (R212). -/
def ThreshInRange (w : Word) : Prop :=
  (1 ≤ fld w 23 16 ∧ fld w 23 16 ≤ 100) ∧ (1 ≤ fld w 15 8 ∧ fld w 15 8 ≤ 100) ∧ (4 ≤ fld w 7 0 ∧ fld w 7 0 ≤ 64) ∧ fld w 63 24 = 0

theorem State.threshOk_iff (s : State) : s.threshOk ↔ ThreshInRange s.threshold := Iff.rfl

/-- If the outcome is a next state, its TENON_THRESH is in range. -/
def Res.InRange (r : Res) : Prop := ∀ t, r = .next t → ThreshInRange t.threshold

@[simp] theorem Res.inRange_next (t : State) : Res.InRange (.next t) ↔ ThreshInRange t.threshold := by simp [Res.InRange]
@[simp] theorem Res.inRange_fault (f : Fault) : Res.InRange (.fault f) := by simp [Res.InRange]
@[simp] theorem Res.inRange_refused (f : Refusal) : Res.InRange (.refused f) := by simp [Res.InRange]

@[simp] theorem Res.inRange_ite (c : Prop) [Decidable c] (a b : Res) :
    Res.InRange (if c then a else b) ↔ if c then a.InRange else b.InRange := by split <;> rfl
@[simp] theorem State.threshold_ite (c : Prop) [Decidable c] (s t : State) :
    (if c then s else t).threshold = if c then s.threshold else t.threshold := apply_ite ..
@[simp] theorem State.fst_ite {α : Type} (c : Prop) [Decidable c] (p q : State × α) :
    (if c then p else q).1 = if c then p.1 else q.1 := apply_ite ..
@[simp] theorem threshInRange_ite (c : Prop) [Decidable c] (v w : Word) :
    ThreshInRange (if c then v else w) ↔ if c then ThreshInRange v else ThreshInRange w := by split <;> rfl

/-- Every step of g leaves TENON_THRESH. -/
def LeavesThresh {α : Type} (g : State → α → State) : Prop := ∀ s a, (g s a).threshold = s.threshold

@[simp] theorem leavesThresh_iff {α : Type} (g : State → α → State) :
    LeavesThresh g ↔ ∀ s a, (g s a).threshold = s.threshold := ⟨fun h => h, fun h => h⟩

/-- A fold of steps that each leave TENON_THRESH leaves it. -/
@[simp] theorem foldl_threshold {α : Type} (g : State → α → State) (hg : LeavesThresh g) (l : List α) (s : State) :
    (l.foldl g s).threshold = s.threshold := by
  induction l generalizing s with
  | nil => rfl
  | cons a l ih => rw [List.foldl_cons, ih, hg]

/-- The same of a fold that carries a value beside the state. -/
def LeavesThresh₂ {α β : Type} (g : State × β → α → State × β) : Prop := ∀ p a, (g p a).1.threshold = p.1.threshold

@[simp] theorem leavesThresh₂_iff {α β : Type} (g : State × β → α → State × β) :
    LeavesThresh₂ g ↔ ∀ p a, (g p a).1.threshold = p.1.threshold := ⟨fun h => h, fun h => h⟩

@[simp] theorem foldl_fst_threshold {α β : Type} (g : State × β → α → State × β) (hg : LeavesThresh₂ g) (l : List α)
    (p : State × β) : (l.foldl g p).1.threshold = p.1.threshold := by
  induction l generalizing p with
  | nil => rfl
  | cons a l ih => rw [List.foldl_cons, ih, hg]

/-- Where an operation that may have to wait leaves TENON_THRESH in the state it answers, so it does with the state as it was for
none. -/
theorem getD_threshold {o : Option State} {s : State} (h : ∀ t, o = some t → t.threshold = s.threshold) :
    (o.getD s).threshold = s.threshold := by
  cases o with
  | none => rfl
  | some t => exact h t rfl

/-- Every step of g leaves TENON_THRESH in range. -/
def KeepsRange {α : Type} (g : State → α → State) : Prop := ∀ s a, ThreshInRange s.threshold → ThreshInRange (g s a).threshold

@[simp] theorem keepsRange_iff {α : Type} (g : State → α → State) :
    KeepsRange g ↔ ∀ s a, ThreshInRange s.threshold → ThreshInRange (g s a).threshold := ⟨fun h => h, fun h => h⟩

/-- A fold of steps that each keep TENON_THRESH in range keeps it there. -/
@[simp] theorem foldl_inRange {α : Type} (g : State → α → State) (hg : KeepsRange g) (l : List α) (s : State)
    (hs : ThreshInRange s.threshold) : ThreshInRange (l.foldl g s).threshold := by
  induction l generalizing s with
  | nil => exact hs
  | cons a l ih => exact ih _ (hg s a hs)

/-- The state's TENON_THRESH is w. Behind this name the kernel compares two writings of a state as they stand; under the projection
itself it would evaluate them. -/
def State.HasThreshold (s : State) (w : Word) : Prop := s.threshold = w

theorem State.hasThreshold_iff {s : State} {w : Word} : s.HasThreshold w ↔ s.threshold = w := Iff.rfl

/-! ### Power domains -/

@[simp] theorem State.setDom_threshold (s : State) (d st mv : Nat) : (s.setDom d st mv).threshold = s.threshold := by
  simp [State.setDom]

@[simp] theorem State.wakeArray_threshold (s : State) (h : Nat) : (s.wakeArray h).threshold = s.threshold := by
  simp [State.wakeArray]

@[simp] theorem State.domOn_threshold (s : State) (d : Nat) : (s.domOn d).threshold = s.threshold := by
  simp [State.domOn]

@[simp] theorem State.domLow_threshold (s : State) (d : Nat) : (s.domLow d).threshold = s.threshold := by
  simp [State.domLow]

@[simp] theorem State.countVotes_threshold (s : State) (d : Nat) : (s.countVotes d).threshold = s.threshold := by
  simp [State.countVotes]

@[simp] theorem State.countAll_threshold (s : State) : s.countAll.threshold = s.threshold := by
  simp [State.countAll]

/-! ### The sill fabric -/

@[simp] theorem State.eject_threshold (s : State) (m : Msg) : (s.eject m).threshold = s.threshold := by
  unfold State.eject
  split <;> simp

@[simp] theorem State.putMsg_threshold (s : State) (m : Msg) : (s.putMsg m).threshold = s.threshold := by
  simp [State.putMsg]

@[simp] theorem State.hop_threshold (s : State) (m : Msg) (a : Ask) : (s.hop m a).threshold = s.threshold := by
  simp [State.hop]

@[simp] theorem State.meshCycle_threshold (s : State) : s.meshCycle.threshold = s.threshold := by
  simp [State.meshCycle]

@[simp] theorem State.meshRun_threshold (s : State) (P : Msg → Bool) (n : Nat) : (s.meshRun P n).threshold = s.threshold := by
  induction n generalizing s with
  | zero => rfl
  | succ k ih => simp [State.meshRun, ih]

@[simp] theorem State.deliver_threshold (s : State) (P : Msg → Bool) : (s.deliver P).threshold = s.threshold := by
  simp [State.deliver]

/-! ### Shared operations -/

@[simp] theorem State.setMemLine_threshold (s : State) (k : Nat) (l : Line) (poison : Bool) :
    (s.setMemLine k l poison).threshold = s.threshold := by
  simp [State.setMemLine]

@[simp] theorem State.take_threshold (s : State) : s.take.2.threshold = s.threshold := by
  simp [State.take]

@[simp] theorem State.send_threshold (s : State) (m : Msg) : (s.send m).threshold = s.threshold := by
  simp [State.send]

@[simp] theorem State.route_threshold (s : State) (f : Nat) (m : Msg) : (s.route f m).threshold = s.threshold := by
  unfold State.route
  dsimp only
  repeat' split
  all_goals simp

@[simp] theorem State.logLine_threshold (s : State) (e : LogEnt) : (s.logLine e).threshold = s.threshold := by
  simp [State.logLine]

@[simp] theorem State.noteWake_threshold (s : State) (c : Nat) : (s.noteWake c).threshold = s.threshold := by
  simp [State.noteWake]

@[simp] theorem State.imsicPut_threshold (s : State) (c file id : Nat) : (s.imsicPut c file id).threshold = s.threshold := by
  simp [State.imsicPut]

@[simp] theorem State.holdMsg_threshold (s : State) (n c : Nat) (m : Msg) : (s.holdMsg n c m).threshold = s.threshold := by
  simp [State.holdMsg]

@[simp] theorem State.noHart_threshold (s : State) (f h : Nat) : (s.noHart f h).threshold = s.threshold := by
  simp [State.noHart]

@[simp] theorem State.msiOn_threshold (s : State) (c : Nat) (m : Msg) : (s.msiOn c m).threshold = s.threshold := by
  simp [State.msiOn]

/-- An MSI that has come to its stud is put into its hart's file, or logged as one without a hart. Its page numbers, a quotient by a
large numeral, are generalised before anything is evaluated. -/
theorem State.msiArrive_cases (s : State) (m : Msg) :
    (∃ c file id, s.msiArrive m = s.imsicPut c file id) ∨ ∃ f i, s.msiArrive m = s.noHart f i := by
  generalize hF : State.msiArrive = F
  delta State.msiArrive at hF
  subst hF
  beta_reduce
  generalize msiFile m.hdr.line = q
  obtain ⟨h, file⟩ := q
  extract_lets f
  dsimp only
  cases s.coreOfHart f h with
  | none => exact .inr ⟨_, _, rfl⟩
  | some c => exact .inl ⟨_, _, _, rfl⟩

@[simp] theorem State.msiArrive_threshold (s : State) (m : Msg) : (s.msiArrive m).threshold = s.threshold := by
  obtain ⟨c, file, id, h⟩ | ⟨f, i, h⟩ := s.msiArrive_cases m
  · rw [h, State.imsicPut_threshold]
  · rw [h, State.noHart_threshold]

@[simp] theorem State.msiTo_threshold (s : State) (from' : Option Nat) (f h file id : Nat) :
    (s.msiTo from' f h file id).threshold = s.threshold := by
  unfold State.msiTo
  split <;> simp

@[simp] theorem State.aplicSend_threshold (s : State) (f n : Nat) : (s.aplicSend f n).threshold = s.threshold := by
  simp [State.aplicSend]

@[simp] theorem State.aplicEdge_threshold (s : State) (f n : Nat) : (s.aplicEdge f n).threshold = s.threshold := by
  simp [State.aplicEdge]

@[simp] theorem State.aplicFall_threshold (s : State) (f n : Nat) : (s.aplicFall f n).threshold = s.threshold := by
  simp [State.aplicFall]

@[simp] theorem State.deliverTo_threshold (s : State) (who : NqReader) (v : Word) :
    (s.deliverTo who v).threshold = s.threshold := by
  unfold State.deliverTo
  split <;> simp

@[simp] theorem State.postFrame_threshold (s : State) (f : Nat) (n : Word) : (s.postFrame f n).threshold = s.threshold := by
  unfold State.postFrame
  dsimp only
  repeat' split
  all_goals simp

@[simp] theorem State.postPort_threshold (s : State) (p : Nat) (n : Word) : (s.postPort p n).threshold = s.threshold := by
  simp [State.postPort]

@[simp] theorem State.post_threshold (s : State) (frames : List Nat) (n : Word) : (s.post frames n).threshold = s.threshold := by
  simp [State.post]

@[simp] theorem State.postAll_threshold (s : State) (n : Word) : (s.postAll n).threshold = s.threshold := by
  simp [State.postAll]

@[simp] theorem State.setRec_threshold (s : State) (kind inst : Nat) (r : Rec) :
    (s.setRec kind inst r).threshold = s.threshold := by
  simp [State.setRec]

@[simp] theorem State.recAdd_threshold (s : State) (kind inst bin k : Nat) :
    (s.recAdd kind inst bin k).threshold = s.threshold := by
  simp [State.recAdd]

@[simp] theorem State.pkgEvent_threshold (s : State) (bin : Nat) : (s.pkgEvent bin).threshold = s.threshold := by
  simp [State.pkgEvent]

@[simp] theorem State.cmdEvent_threshold (s : State) (bin : Nat) : (s.cmdEvent bin).threshold = s.threshold := by
  simp [State.cmdEvent]

@[simp] theorem State.recExtreme_threshold (s : State) (kind inst q : Nat) (v : Int) :
    (s.recExtreme kind inst q v).threshold = s.threshold := by
  simp [State.recExtreme]

@[simp] theorem State.startFlush_threshold (s : State) (cause : Nat) : (s.startFlush cause).threshold = s.threshold := by
  unfold State.startFlush
  dsimp only
  split <;> simp

@[simp] theorem State.report_threshold (s : State) (e : ErrEv) : (s.report e).threshold = s.threshold := by
  unfold State.report
  repeat' split
  all_goals simp

@[simp] theorem State.reservedAgent_threshold (s : State) (m : Msg) : (s.reservedAgent m).threshold = s.threshold := by
  simp [State.reservedAgent]

@[simp] theorem State.ncForget_threshold (s : State) (f : Nat) : (s.ncForget f).threshold = s.threshold := by
  simp [State.ncForget]

@[simp] theorem State.haltStud_threshold (s : State) (n : Nat) : (s.haltStud n).threshold = s.threshold := by
  simp [State.haltStud]

@[simp] theorem State.fatal_threshold (s : State) (f : Nat) (e : ErrEv) : (s.fatal f e).threshold = s.threshold := by
  simp [State.fatal]

@[simp] theorem State.fatalBay_threshold (s : State) (b code : Nat) : (s.fatalBay b code).threshold = s.threshold := by
  simp [State.fatalBay]

/-! ### Translation structures -/

@[simp] theorem State.refill_threshold (s : State) (c : Nat) (va : Word) (acc : AccType) (ctx : Ctx) :
    (s.refill c va acc ctx).threshold = s.threshold := by
  unfold State.refill
  dsimp only
  repeat' split
  all_goals simp

/-! ### Uncached accesses of rings and IOMMUs -/

@[simp] theorem State.ncSend_threshold (s : State) (o : NcOwner) (x : NcOp) : (s.ncSend o x).threshold = s.threshold := by
  unfold State.ncSend
  dsimp only
  split <;> simp

@[simp] theorem State.ncDrop_threshold (s : State) (o : NcOwner) : (s.ncDrop o).threshold = s.threshold := by
  simp [State.ncDrop]

@[simp] theorem State.ncAsk_threshold (s : State) (o : NcOwner) (lines : List Nat) :
    (s.ncAsk o lines).threshold = s.threshold := by
  simp [State.ncAsk]

@[simp] theorem State.ncWrite_threshold (s : State) (o : NcOwner) (pa : Nat) (b : List Byte) :
    (s.ncWrite o pa b).threshold = s.threshold := by
  simp [State.ncWrite]

@[simp] theorem State.ncMsg_threshold (s : State) (m : Msg) : (s.ncMsg m).threshold = s.threshold := by
  unfold State.ncMsg
  repeat' split
  all_goals simp

/-! ### The IOMMU of a port -/

@[simp] theorem State.ioOr_threshold (s : State) (p : Nat) (e : Nat × Nat) : (s.ioOr p e).threshold = s.threshold := by
  unfold State.ioOr
  split <;> simp

/-! ### Register windows -/

@[simp] theorem State.csDrop_threshold (s : State) (f cause inst off : Nat) :
    (s.csDrop f cause inst off).threshold = s.threshold := by
  simp [State.csDrop]

@[simp] theorem State.dropOn_threshold (s : State) (ap : AccessPort) (cause inst off : Nat) :
    (s.dropOn ap cause inst off).threshold = s.threshold := by
  unfold State.dropOn
  split <;> simp

@[simp] theorem State.setCbqri_threshold (s : State) (i : Nat) (c : Cbqri) : (s.setCbqri i c).threshold = s.threshold := by
  simp [State.setCbqri]

@[simp] theorem State.cbqriMon_threshold (s : State) (i : Nat) (v : Word) : (s.cbqriMon i v).threshold = s.threshold := by
  simp [State.cbqriMon]

@[simp] theorem State.cbqriAlloc_threshold (s : State) (i : Nat) (v : Word) : (s.cbqriAlloc i v).threshold = s.threshold := by
  simp [State.cbqriAlloc]

@[simp] theorem State.qosWrite_threshold (s : State) (i off : Nat) (lo : Bool) (full : Word) :
    (s.qosWrite i off lo full).threshold = s.threshold := by
  unfold State.qosWrite
  split <;> simp

@[simp] theorem State.cmdqWrite_threshold (s : State) (f off : Nat) (part : Part) (full raw : Word) :
    (s.cmdqWrite f off part full raw).threshold = s.threshold := by
  simp [State.cmdqWrite]

/-- What TENON_THRESH keeps of a word whose fields lie in their ranges. -/
theorem threshInRange_mask {v : Word} (hv : 1 ≤ fld v 23 16 ∧ fld v 23 16 ≤ 100 ∧ 1 ≤ fld v 15 8 ∧ fld v 15 8 ≤ 100 ∧
    4 ≤ fld v 7 0 ∧ fld v 7 0 ≤ 64) : ThreshInRange (v &&& 0xFFFFFF) := by
  have low : (v &&& 0xFFFFFF).toNat = v.toNat % 2 ^ 24 := by
    rw [BitVec.toNat_and]
    exact Nat.and_two_pow_sub_one_eq_mod v.toNat 24
  simp only [ThreshInRange, fld, bits, low] at hv ⊢
  omega

/-- A write that would put a field outside its range leaves the whole register (R8, R212). -/
theorem threshWrite_inRange {old : Word} (v : Word) (ho : ThreshInRange old) : ThreshInRange (threshWrite old v) := by
  unfold threshWrite
  extract_lets l r w
  split
  · next hv => exact threshInRange_mask hv
  · exact ho

@[simp] theorem State.regWrite_inRange (s : State) (ap : AccessPort) (w : Win) (i off : Nat) (part : Part) (v : Word)
    (hs : ThreshInRange s.threshold) : ThreshInRange (s.regWrite ap w i off part v).threshold := by
  unfold State.regWrite
  cases w <;> dsimp only
  case tenon =>
    split
    · exact hs
    · cases ap <;> grind [threshWrite_inRange, State.csDrop_threshold]
  all_goals grind [State.threshold_setHome, State.threshold_setChan, State.threshold_setPort, State.threshold_setFrame,
    State.cmdqWrite_threshold, State.qosWrite_threshold, State.threshold_setUpmu]

@[simp] theorem State.selWrite_threshold (s : State) (ap : AccessPort) (w : Win) (part : Part) (v : Word) :
    (s.selWrite ap w part v).threshold = s.threshold := by
  unfold State.selWrite
  split <;> simp

@[simp] theorem State.windowWrite_inRange (s : State) (ap : AccessPort) (w : Win) (off : Nat) (part : Part) (v : Word)
    (hs : ThreshInRange s.threshold) : ThreshInRange (s.windowWrite ap w off part v).threshold := by
  simp [State.windowWrite, hs]

@[simp] theorem State.counted_threshold (s : State) (ap : AccessPort) (w : Win) (off : Nat) :
    (s.counted ap w off).threshold = s.threshold := by
  unfold State.counted
  repeat' split
  all_goals simp

@[simp] theorem State.nqPop_threshold (s : State) (ap : AccessPort) (hart : Option (Nat × Dest)) :
    (s.nqPop ap hart).threshold = s.threshold := by
  unfold State.nqPop
  dsimp only
  repeat' split
  all_goals simp

@[simp] theorem State.portSees_threshold (s : State) (ap : AccessPort) (v : Word) :
    (s.portSees ap v).threshold = s.threshold := by
  simp [State.portSees]

/-- Of the windows, only the tenon one holds TENON_THRESH. -/
theorem State.regWrite_nq_threshold (s : State) (ap : AccessPort) (i off : Nat) (part : Part) (v : Word) :
    (s.regWrite ap .nq i off part v).threshold = s.threshold := by
  unfold State.regWrite
  grind [State.threshold_setFrame]

theorem State.windowWrite_nq_threshold (s : State) (ap : AccessPort) (off : Nat) (part : Part) (v : Word) :
    (s.windowWrite ap .nq off part v).threshold = s.threshold := by
  unfold State.windowWrite
  grind [State.regWrite_nq_threshold, State.selWrite_threshold, State.dropOn_threshold]

@[simp] theorem State.nqPerform_threshold (s : State) (a : NqAcc) : (s.nqPerform a).threshold = s.threshold := by
  unfold State.nqPerform
  grind [State.windowWrite_nq_threshold, State.portSees_threshold, State.nqPop_threshold]

@[simp] theorem State.nqResume_threshold (s : State) (n : Nat) : (s.nqResume n).threshold = s.threshold := by
  induction n generalizing s with
  | zero => rfl
  | succ k ih =>
    unfold State.nqResume
    split <;> simp [ih]

@[simp] theorem State.nqGoOn_threshold (s : State) : s.nqGoOn.threshold = s.threshold := by
  simp [State.nqGoOn]

@[simp] theorem State.nqAccess_threshold (s : State) (a : NqAcc) : (s.nqAccess a).threshold = s.threshold := by
  simp [State.nqAccess]

@[simp] theorem State.aplicWrite_threshold (s : State) (f d off v : Nat) : (s.aplicWrite f d off v).threshold = s.threshold := by
  simp [State.aplicWrite]

@[simp] theorem State.mtimeWrite_threshold (s : State) (f off : Nat) (v : Word) :
    (s.mtimeWrite f off v).threshold = s.threshold := by
  simp [State.mtimeWrite]

@[simp] theorem State.mtimecmpWrite_threshold (s : State) (f h off : Nat) (v : Word) :
    (s.mtimecmpWrite f h off v).threshold = s.threshold := by
  unfold State.mtimecmpWrite
  split <;> simp

@[simp] theorem State.fileWrite_threshold (s : State) (src : Option Nat) (f h file off v : Nat) :
    (s.fileWrite src f h file off v).threshold = s.threshold := by
  simp [State.fileWrite]

/-! ### Control space -/

theorem State.filePut_threshold {s : State} {src f off v : Nat} {s' : State} (he : s.filePut src f off v = some s') :
    s'.threshold = s.threshold := by
  unfold State.filePut at he
  grind [State.fileWrite_threshold]

theorem State.ioStore4_threshold {s : State} {o : NcOwner} {pa v : Nat} {s' : State} (he : s.ioStore4 o pa v = some s') :
    s'.threshold = s.threshold := by
  unfold State.ioStore4 at he
  grind [State.filePut_threshold, State.ncWrite_threshold]

@[simp] theorem State.ioMsiSend_threshold (s : State) (p i : Nat) : (s.ioMsiSend p i).threshold = s.threshold := by
  unfold State.ioMsiSend
  grind [State.threshold_setPort, State.ioStore4_threshold]

@[simp] theorem State.ioPend_threshold (s : State) (p i : Nat) : (s.ioPend p i).threshold = s.threshold := by
  simp [State.ioPend]

@[simp] theorem State.ioCmdIrq_threshold (s : State) (p : Nat) : (s.ioCmdIrq p).threshold = s.threshold := by
  simp [State.ioCmdIrq]

@[simp] theorem State.ioFaultIrq_threshold (s : State) (p : Nat) : (s.ioFaultIrq p).threshold = s.threshold := by
  simp [State.ioFaultIrq]

@[simp] theorem State.ioPumpRec_threshold (s : State) (p n : Nat) : (s.ioPumpRec p n).threshold = s.threshold := by
  induction n generalizing s with
  | zero => rfl
  | succ m ih =>
    unfold State.ioPumpRec
    dsimp only
    split
    · rfl
    · simp [ih]

@[simp] theorem State.ioRecords_threshold (s : State) (p : Nat) : (s.ioRecords p).threshold = s.threshold := by
  simp [State.ioRecords]

@[simp] theorem State.ioRecorded_threshold (s : State) (p : Nat) : (s.ioRecorded p).threshold = s.threshold := by
  simp [State.ioRecorded]

@[simp] theorem State.ioMsiSent_threshold (s : State) (p : Nat) : (s.ioMsiSent p).threshold = s.threshold := by
  unfold State.ioMsiSent
  dsimp only
  split <;> simp

@[simp] theorem State.ioRecord_threshold (s : State) (p : Nat) (r : IoReq) (e : IoStop) :
    (s.ioRecord p r e).threshold = s.threshold := by
  simp [State.ioRecord]

@[simp] theorem State.ioRefuse_threshold (s : State) (p : Nat) (r : IoReq) (dtf : Bool) (e : IoStop) :
    (s.ioRefuse p r dtf e).1.threshold = s.threshold := by
  unfold State.ioRefuse
  split <;> simp

@[simp] theorem State.ioTranslate_threshold (s : State) (p : Nat) (r : IoReq) :
    (s.ioTranslate p r).1.threshold = s.threshold := by
  unfold State.ioTranslate
  dsimp only
  repeat' split
  all_goals simp

theorem State.ioCommand_threshold {s : State} {p c0 c1 : Nat} {s' : State} (he : s.ioCommand p c0 c1 = some s') :
    s'.threshold = s.threshold := by
  unfold State.ioCommand at he
  grind [State.threshold_setPort, State.ioCmdIrq_threshold, State.ioStore4_threshold]

@[simp] theorem State.ioNext_threshold (s : State) (p : Nat) : (s.ioNext p).threshold = s.threshold := by
  simp [State.ioNext]

@[simp] theorem State.ioRun_threshold (s : State) (p n : Nat) : (s.ioRun p n).threshold = s.threshold := by
  induction n generalizing s with
  | zero => rfl
  | succ n ih =>
    unfold State.ioRun
    grind [State.ncDrop_threshold, State.threshold_setPort, State.ioCmdIrq_threshold, State.ioRecords_threshold,
      State.ncAsk_threshold, State.ioCommand_threshold, State.ioNext_threshold]

@[simp] theorem State.ioFenced_threshold (s : State) (p : Nat) : (s.ioFenced p).threshold = s.threshold := by
  simp [State.ioFenced]

@[simp] theorem State.ioDebug_threshold (s : State) (p : Nat) : (s.ioDebug p).threshold = s.threshold := by
  unfold State.ioDebug
  dsimp only
  split <;> simp

@[simp] theorem State.ioWrite_threshold (s : State) (p o v raw : Nat) (lo hi : Bool) :
    (s.ioWrite p o v raw lo hi).threshold = s.threshold := by
  simp [State.ioWrite]

theorem ThreshInRange.of_eq {s t : State} (hs : ThreshInRange s.threshold) (h : t.threshold = s.threshold) :
    ThreshInRange t.threshold := by
  rw [h]
  exact hs

theorem State.ctlWrite_inRange {s : State} {src f off size : Nat} {v : Word} {s' : State}
    (he : s.ctlWrite src f off size v = some s') (hs : ThreshInRange s.threshold) : ThreshInRange s'.threshold := by
  rw [State.ctlWrite] at he
  split at he
  · obtain ⟨w, -, rfl⟩ := Option.map_eq_some_iff.1 he
    exact State.windowWrite_inRange _ _ _ _ _ _ hs
  split at he
  · obtain rfl := Option.some.inj he
    split
    · exact hs.of_eq ((State.aplicWrite_threshold ..).trans (State.aplicWrite_threshold ..))
    · exact hs.of_eq (State.aplicWrite_threshold ..)
  split at he
  · obtain rfl := Option.some.inj he
    exact hs.of_eq (State.mtimeWrite_threshold ..)
  split at he
  · obtain rfl := Option.some.inj he
    exact hs.of_eq (State.mtimecmpWrite_threshold ..)
  split at he
  · extract_lets p k at he
    split at he
    · obtain rfl := Option.some.inj he
      exact hs.of_eq (State.ioWrite_threshold ..)
    · cases he
  · exact hs.of_eq (State.filePut_threshold he)

@[simp] theorem State.ctlWrite_getD_inRange (s : State) (src f off size : Nat) (v : Word) (hs : ThreshInRange s.threshold) :
    ThreshInRange ((s.ctlWrite src f off size v).getD s).threshold := by
  cases h : s.ctlWrite src f off size v with
  | none => exact hs
  | some t => exact State.ctlWrite_inRange h hs

/-! ### Arrivals and snoops -/

@[simp] theorem State.arrive_threshold (s : State) (m : Msg) : (s.arrive m).1.threshold = s.threshold := by
  unfold State.arrive
  dsimp only
  repeat' split
  all_goals simp

@[simp] theorem State.l2Check_threshold (s : State) (c line : Nat) : (s.l2Check c line).threshold = s.threshold := by
  unfold State.l2Check
  dsimp only
  split <;> simp

@[simp] theorem State.upsetAt_threshold (s : State) (c line : Nat) (fetch : Bool) (u : Upset) :
    (s.upsetAt c line fetch u).threshold = s.threshold := by
  unfold State.upsetAt
  dsimp only
  split <;> simp

@[simp] theorem State.l1Check_threshold (s : State) (c line : Nat) : (s.l1Check c line).threshold = s.threshold := by
  simp [State.l1Check]

@[simp] theorem State.snoopCores_threshold (s : State) (op : MsgOp) (line : Nat) (cs : List Nat) :
    (s.snoopCores op line cs).1.threshold = s.threshold := by
  simp [State.snoopCores]

@[simp] theorem State.answerSnoop_threshold (s : State) (m : Msg) (studs : List Nat) (agent : Nat) :
    (s.answerSnoop m studs agent).threshold = s.threshold := by
  unfold State.answerSnoop
  dsimp only
  repeat' split
  all_goals simp

@[simp] theorem State.snoopStuds_threshold (s : State) (m : Msg) (studs : List Nat) (agent : Nat) :
    (s.snoopStuds m studs agent).threshold = s.threshold := by
  unfold State.snoopStuds
  split <;> simp

@[simp] theorem State.releaseHold_threshold (s : State) (c : Nat) : (s.releaseHold c).threshold = s.threshold := by
  simp [State.releaseHold]

@[simp] theorem State.trapCore_threshold (s : State) (c : Nat) (t : Trap) : (s.trapCore c t).threshold = s.threshold := by
  simp [State.trapCore]

@[simp] theorem State.faultAt_threshold (s : State) (c cause : Nat) (va : Word) (w : Wait) :
    (s.faultAt c cause va w).threshold = s.threshold := by
  simp [State.faultAt]

@[simp] theorem State.fault_threshold (s : State) (c cause : Nat) (w : Wait) : (s.fault c cause w).threshold = s.threshold := by
  simp [State.fault]

@[simp] theorem State.illegal_threshold (s : State) (c : Nat) (virt : Bool) : (s.illegal c virt).threshold = s.threshold := by
  simp [State.illegal]

/-! ### What a core sends -/

@[simp] theorem State.request_threshold (s : State) (c i : Nat) (sl : Slot) : (s.request c i sl).threshold = s.threshold := by
  unfold State.request
  split <;> simp

@[simp] theorem State.slotSend_threshold (s : State) (c i : Nat) (sl : Slot) (op : MsgOp) (data : Line) (m : BitVec 64)
    (pz : Bool) : (s.slotSend c i sl op data m pz).threshold = s.threshold := by
  simp [State.slotSend]

theorem State.ridgeSend_threshold {s : State} {f : Nat} {r : RidgeReq} {s' : State} (he : s.ridgeSend f r = some s') :
    s'.threshold = s.threshold := by
  unfold State.ridgeSend at he
  grind [State.threshold_setPort]

theorem State.ridgeRun_threshold {s : State} {c i : Nat} {sl : Slot} {s' : State} (he : s.ridgeRun c i sl = some s') :
    s'.threshold = s.threshold := by
  unfold State.ridgeRun at he
  grind [State.ridgeSend_threshold, State.threshold_setCore]

@[simp] theorem State.ridgeRun_getD_threshold (s : State) (c i : Nat) (sl : Slot) :
    ((s.ridgeRun c i sl).getD s).threshold = s.threshold :=
  getD_threshold fun _ => State.ridgeRun_threshold

/-! ### Root ports -/

@[simp] theorem State.postLink_threshold (s : State) (p event x data : Nat) :
    (s.postLink p event x data).threshold = s.threshold := by
  simp [State.postLink]

@[simp] theorem State.setRootOf_threshold (s : State) (p i : Nat) (r : Root) : (s.setRootOf p i r).threshold = s.threshold := by
  simp [State.setRootOf]

@[simp] theorem State.linkEdge_threshold (s : State) (p : Nat) : (s.linkEdge p).threshold = s.threshold := by
  simp [State.linkEdge]

@[simp] theorem State.setIntx_threshold (s : State) (p i v : Nat) : (s.setIntx p i v).threshold = s.threshold := by
  simp [State.setIntx]

@[simp] theorem State.inbFailed_threshold (s : State) (p : Nat) (x : Inb) : (s.inbFailed p x).threshold = s.threshold := by
  simp [State.inbFailed]

@[simp] theorem State.inbEnd_threshold (s : State) (p t : Nat) (x : Inb) : (s.inbEnd p t x).threshold = s.threshold := by
  simp [State.inbEnd]

/-! ### Accesses of a hart -/

@[simp] theorem State.refillAcc_threshold (s : State) (c : Nat) (a : Acc) (ctx : Ctx) :
    (s.refillAcc c a ctx).threshold = s.threshold := by
  simp [State.refillAcc]

@[simp] theorem State.settle_threshold (s : State) (c : Nat) : (s.settle c).threshold = s.threshold := by
  simp [State.settle]

theorem State.evict_threshold {s : State} {c : Nat} {line : Nat} {s' : State} (he : s.evict c line = some s') :
    s'.threshold = s.threshold := by
  unfold State.evict at he
  grind [State.l2Check_threshold, State.ridgeRun_getD_threshold, State.threshold_setCore, State.request_threshold]

theorem State.installLine_threshold {s : State} {c : Nat} {e : L2Line} {lru : Bool} {s' : State}
    (he : s.installLine c e lru = some s') : s'.threshold = s.threshold := by
  unfold State.installLine at he
  grind [State.evict_threshold, State.threshold_setCore]

@[simp] theorem State.installLine_getD_threshold (s : State) (c : Nat) (e : L2Line) (lru : Bool) :
    ((s.installLine c e lru).getD s).threshold = s.threshold :=
  getD_threshold fun _ => State.installLine_threshold

@[simp] theorem State.fillL1_threshold (s : State) (c : Nat) (fetch : Bool) (line : Nat) :
    (s.fillL1 c fetch line).threshold = s.threshold := by
  simp [State.fillL1]

theorem State.openMiss_threshold {s : State} {c : Nat} {line : Nat} {uniq : Bool} {nt : Option Ntl} {l : List Wait} {s' : State}
    (he : s.openMiss c line uniq nt l = some s') : s'.threshold = s.threshold := by
  unfold State.openMiss at he
  grind [State.ridgeSend_threshold, State.threshold_setCore, State.request_threshold]

theorem State.startMiss_threshold {s : State} {c : Nat} {line : Nat} {uniq : Bool} {nt : Option Ntl} {l : List Wait} {s' : State}
    (he : s.startMiss c line uniq nt l = some s') : s'.threshold = s.threshold := by
  unfold State.startMiss at he
  grind [State.openMiss_threshold, State.threshold_setCore]

@[simp] theorem State.startMiss_getD_threshold (s : State) (c line : Nat) (uniq : Bool) (nt : Option Ntl) (l : List Wait) :
    ((s.startMiss c line uniq nt l).getD s).threshold = s.threshold :=
  getD_threshold fun _ => State.startMiss_threshold

theorem State.storeMiss_threshold {s : State} {c : Nat} {line : Nat} {nt : Option Ntl} {s' : State}
    (he : s.storeMiss c line nt = some s') : s'.threshold = s.threshold := by
  unfold State.storeMiss at he
  grind [Option.map_eq_some_iff, State.threshold_setCore, State.startMiss_threshold]

@[simp] theorem State.storeMiss_getD_threshold (s : State) (c line : Nat) (nt : Option Ntl) :
    ((s.storeMiss c line nt).getD s).threshold = s.threshold :=
  getD_threshold fun _ => State.storeMiss_threshold

@[simp] theorem State.flashFill_threshold (s : State) (c : Nat) (line : Nat) (lru : Bool) :
    (s.flashFill c line lru).threshold = s.threshold := by
  unfold State.flashFill
  split
  · split <;> simp
  · rfl

@[simp] theorem State.prefLine_threshold (s : State) (c line n : Nat) : (s.prefLine c line n).threshold = s.threshold := by
  unfold State.prefLine
  dsimp only
  repeat' split
  all_goals simp

@[simp] theorem State.l2Prefetch_threshold (s : State) (c line : Nat) : (s.l2Prefetch c line).threshold = s.threshold := by
  simp [State.l2Prefetch]

theorem State.loadMiss_threshold {s : State} {c l : Nat} {w : Wait} {s' : State} (he : s.loadMiss c l w = some s') :
    s'.threshold = s.threshold := by
  obtain ⟨t, ht, rfl⟩ := Option.map_eq_some_iff.1 he
  grind [State.startMiss_threshold, State.l2Prefetch_threshold]

theorem State.doLoad_threshold {s : State} {c : Nat} {w : Wait} {s' : State} (he : s.doLoad c w = some s') :
    s'.threshold = s.threshold := by
  unfold State.doLoad at he
  grind [foldl_threshold, leavesThresh_iff, State.fillL1_threshold, State.loadMiss_threshold, State.l1Check_threshold,
    State.upsetAt_threshold, State.l2Check_threshold, State.threshold_setCore, State.flashFill_threshold]

theorem State.doAmo_threshold {s : State} {c : Nat} {w : Wait} {s' : State} (he : s.doAmo c w = some s') :
    s'.threshold = s.threshold := by
  unfold State.doAmo at he
  grind [foldl_threshold, leavesThresh_iff, State.startMiss_threshold, State.l2Check_threshold, State.threshold_setCore]

theorem State.doLr_threshold {s : State} {c : Nat} {w : Wait} {s' : State} (he : s.doLr c w = some s') :
    s'.threshold = s.threshold := by
  unfold State.doLr at he
  grind [foldl_threshold, leavesThresh_iff, State.startMiss_threshold, State.l2Check_threshold, State.threshold_setCore,
    State.releaseHold_threshold]

@[simp] theorem State.doSc_threshold (s : State) (c : Nat) (w : Wait) : (s.doSc c w).threshold = s.threshold := by
  simp [State.doSc]

theorem State.doRidgeCbo_threshold {s : State} {c : Nat} {a : Acc} {s' : State} (he : s.doRidgeCbo c a = some s') :
    s'.threshold = s.threshold := by
  unfold State.doRidgeCbo at he
  grind [State.threshold_setCore, State.ridgeRun_getD_threshold]

@[simp] theorem State.doRidgeCbo_getD_threshold (s : State) (c : Nat) (a : Acc) :
    ((s.doRidgeCbo c a).getD s).threshold = s.threshold :=
  getD_threshold fun _ => State.doRidgeCbo_threshold

theorem State.doCbo_threshold {s : State} {c : Nat} {w : Wait} {s' : State} (he : s.doCbo c w = some s') :
    s'.threshold = s.threshold := by
  unfold State.doCbo at he
  grind [State.doRidgeCbo_threshold, State.threshold_setCore, State.request_threshold]

theorem State.doZero_threshold {s : State} {c : Nat} {w : Wait} {s' : State} (he : s.doZero c w = some s') :
    s'.threshold = s.threshold := by
  unfold State.doZero at he
  grind [State.threshold_setCore, State.request_threshold, State.installLine_threshold]

theorem State.joinMiss_threshold {s : State} {c i : Nat} {sl : Slot} {w : Wait} {s' : State} (he : s.joinMiss c i sl w = some s')
    : s'.threshold = s.threshold := by
  unfold State.joinMiss at he
  grind [State.threshold_setCore]

theorem State.doPref_threshold {s : State} {c : Nat} {w : Wait} {s' : State} (he : s.doPref c w = some s') :
    s'.threshold = s.threshold := by
  unfold State.doPref at he
  grind [State.startMiss_threshold, State.fillL1_threshold, State.threshold_setCore, State.flashFill_threshold]

@[simp] theorem State.ncPiece_threshold (s : State) (c i : Nat) (w : Wait) : (s.ncPiece c i w).threshold = s.threshold := by
  unfold State.ncPiece
  split <;> simp

theorem State.ridgePiece_threshold {s : State} {c i : Nat} {w : Wait} {s' : State} (he : s.ridgePiece c i w = some s') :
    s'.threshold = s.threshold := by
  unfold State.ridgePiece at he
  grind [State.ridgeSend_threshold, State.threshold_setCore]

@[simp] theorem State.ridgePiece_getD_threshold (s : State) (c i : Nat) (w : Wait) :
    ((s.ridgePiece c i w).getD s).threshold = s.threshold :=
  getD_threshold fun _ => State.ridgePiece_threshold

theorem State.ridgePiece_getD_of_eq {s t u : State} {c i : Nat} {w : Wait} (hs : s.threshold = u.threshold)
    (ht : t.threshold = u.threshold) : ((s.ridgePiece c i w).getD t).threshold = u.threshold := by
  cases he : s.ridgePiece c i w with
  | none => exact ht
  | some v => exact (State.ridgePiece_threshold he).trans hs

theorem State.startNc_threshold {s : State} {c : Nat} {w : Wait} {ridge : Bool} {s' : State} (he : s.startNc c w ridge = some s')
    : s'.threshold = s.threshold := by
  unfold State.startNc at he
  grind [State.ridgePiece_threshold, State.ncPiece_threshold]

@[simp] theorem State.startNc_getD_threshold (s : State) (c : Nat) (w : Wait) (ridge : Bool) :
    ((s.startNc c w ridge).getD s).threshold = s.threshold :=
  getD_threshold fun _ => State.startNc_threshold

/-- The fault is taken, or the load's vl is trimmed. -/
@[simp] theorem State.faultAcc_threshold (s : State) (c : Nat) (w : Wait) (trap : State) (ht : trap.threshold = s.threshold) :
    (s.faultAcc c w trap).threshold = s.threshold := by
  unfold State.faultAcc
  split
  · split
    · exact ht
    · exact State.threshold_setCore ..
  · exact ht

@[simp] theorem State.ioFail_threshold (s : State) (c p : Nat) (w : Wait) : (s.ioFail c p w).threshold = s.threshold := by
  simp [State.ioFail]

@[simp] theorem State.ioSlot_threshold (s : State) (c i : Nat) (w : Wait) : (s.ioSlot c i w).threshold = s.threshold := by
  simp [State.ioSlot]

@[simp] theorem State.cfgFailed_threshold (s : State) (p : Nat) : (s.cfgFailed p).threshold = s.threshold := by
  simp [State.cfgFailed]

@[simp] theorem State.ioEnd_threshold (s : State) (p : Nat) (q : OutReq) (got : Option (List Byte × Bool)) :
    (s.ioEnd p q got).threshold = s.threshold := by
  unfold State.ioEnd
  repeat' split
  all_goals simp

@[simp] theorem State.ioLoseOther_threshold (s : State) (p : Nat) (q : OutReq) : (s.ioLoseOther p q).threshold = s.threshold := by
  unfold State.ioLoseOther
  dsimp only
  repeat' split
  all_goals simp

@[simp] theorem State.rootFlush_threshold (s : State) (p i : Nat) : (s.rootFlush p i).threshold = s.threshold := by
  simp [State.rootFlush]

@[simp] theorem State.cxlLost_threshold (s : State) (p i : Nat) : (s.cxlLost p i).threshold = s.threshold := by
  simp [State.cxlLost]

@[simp] theorem State.rootLost_threshold (s : State) (p i : Nat) : (s.rootLost p i).threshold = s.threshold := by
  simp [State.rootLost]

@[simp] theorem State.rootContain_threshold (s : State) (p i why : Nat) : (s.rootContain p i why).threshold = s.threshold := by
  simp [State.rootContain]

@[simp] theorem State.rootStore_threshold (s : State) (p i off size v : Nat) :
    (s.rootStore p i off size v).threshold = s.threshold := by
  simp [State.rootStore]

/-- A read of control space leaves a state whose TENON_THRESH is w, whatever it answers. -/
inductive CtlRead.Leaves (w : Word) : CtlRead → Prop
  | value {v : Word} {t : State} : t.threshold = w → Leaves w (.value v t)
  | stalled {t : State} : t.threshold = w → Leaves w (.stalled t)
  | fault : Leaves w .fault

theorem State.ctlRead_threshold (s : State) (f c off size : Nat) (dest : Dest) :
    (s.ctlRead f c off size dest).Leaves s.threshold := by
  rw [State.ctlRead]
  split
  · split
    · exact .fault
    · extract_lets ro part
      split
      · split
        · exact .stalled (State.nqPop_threshold ..)
        · exact .value rfl
      · exact .value (State.counted_threshold ..)
  split
  · exact .value rfl
  split
  · exact .value rfl
  split
  · split <;> exact .value rfl
  split
  · extract_lets p k
    split
    · exact .value rfl
    · exact .fault
  split
  · exact .value rfl
  · exact .fault

theorem State.ctlRead_value {s t : State} {f c off size : Nat} {dest : Dest} {v : Word}
    (he : s.ctlRead f c off size dest = .value v t) : t.threshold = s.threshold := by
  have hl := s.ctlRead_threshold f c off size dest
  rw [he] at hl
  cases hl with
  | value h => exact h

theorem State.ctlRead_stalled {s t : State} {f c off size : Nat} {dest : Dest}
    (he : s.ctlRead f c off size dest = .stalled t) : t.threshold = s.threshold := by
  have hl := s.ctlRead_threshold f c off size dest
  rw [he] at hl
  cases hl with
  | stalled h => exact h

theorem State.doIoLoad_threshold {s : State} {c : Nat} {w : Wait} {p : Path} {s' : State} (he : s.doIoLoad c w p = some s') :
    s'.threshold = s.threshold := by
  unfold State.doIoLoad at he
  cases p with
  | ctl off =>
    dsimp only at he
    split at he
    · cases he
    · split at he
      · cases he
        rw [State.fault_threshold, State.nqGoOn_threshold]
      · next t ht =>
        cases he
        rw [State.threshold_setCore, State.ctlRead_stalled ht, State.nqGoOn_threshold]
      · next v t ht =>
        cases he
        rw [State.threshold_setCore, State.ctlRead_value ht, State.nqGoOn_threshold]
  | _ => grind [State.threshold_setCore, State.threshold_setPort, State.ioFail_threshold, State.ioSlot_threshold]

theorem State.doIoStore_inRange {s : State} {c : Nat} {a : Acc} {p : Path} {s' : State} (he : s.doIoStore c a p = some s')
    (hs : ThreshInRange s.threshold) : ThreshInRange s'.threshold := by
  unfold State.doIoStore at he
  cases p with
  | ctl off => grind [State.nqGoOn_threshold, State.ctlWrite_getD_inRange]
  | _ => grind [Option.map_eq_some_iff, State.rootStore_threshold, State.cfgFailed_threshold, State.threshold_setPort]

theorem State.pushStore_threshold {s : State} {c : Nat} {w : Wait} {s' : State} (he : s.pushStore c w = some s') :
    s'.threshold = s.threshold := by
  unfold State.pushStore at he
  grind [State.threshold_setCore]

@[simp] theorem State.doFlashNc_threshold (s : State) (c : Nat) (w : Wait) : (s.doFlashNc c w).threshold = s.threshold := by
  simp [State.doFlashNc]

theorem State.perform_threshold {s : State} {c : Nat} {w : Wait} {s' : State} (he : s.perform c w = some s') :
    s'.threshold = s.threshold := by
  unfold State.perform at he
  dsimp only at he
  split at he
  · split at he
    · cases he
      exact State.faultAcc_threshold _ _ _ _ (State.faultAt_threshold ..)
    · cases he
  split at he
  · cases he
    rfl
  split at he
  · cases he
  split at he
  · cases he
  split at he
  · cases he
  split at he
  · exact State.joinMiss_threshold he
  split at he
  · exact State.pushStore_threshold he
  · exact State.doPref_threshold he
  · exact State.doPref_threshold he
  · exact State.doPref_threshold he
  · exact State.doCbo_threshold he
  · exact State.doCbo_threshold he
  · exact State.doCbo_threshold he
  · exact State.doZero_threshold he
  · exact State.doLr_threshold he
  · cases he
    exact State.doSc_threshold ..
  · split at he
    · exact State.startNc_threshold he
    · exact State.doAmo_threshold he
  · split at he
    · exact State.doLoad_threshold he
    split at he
    · cases he
      exact State.doFlashNc_threshold ..
    split at he
    · split at he
      · cases he
      · exact State.startNc_threshold he
    · exact State.doIoLoad_threshold he

@[simp] theorem State.hewnFault_threshold (s : State) (c cause reason stage : Nat) (va : Word) (w : Wait) :
    (s.hewnFault c cause reason stage va w).threshold = s.threshold := by
  simp [State.hewnFault]

@[simp] theorem State.tryTranslated_threshold (s : State) (c : Nat) (w : Wait) :
    (s.tryTranslated c w).threshold = s.threshold := by
  unfold State.tryTranslated
  grind [State.threshold_setCore, State.perform_threshold]

@[simp] theorem State.tryOne_threshold (s : State) (c : Nat) (w : Wait) : (s.tryOne c w).threshold = s.threshold := by
  unfold State.tryOne
  dsimp only
  repeat' split
  all_goals simp

@[simp] theorem State.tryAccess_threshold (s : State) (c : Nat) (w : Wait) : (s.tryAccess c w).threshold = s.threshold := by
  simp [State.tryAccess]

@[simp] theorem State.drainHead_inRange (s : State) (c : Nat) (hs : ThreshInRange s.threshold) :
    ThreshInRange (s.drainHead c).threshold := by
  have hl : ∀ l : List Nat, (l.foldl (fun s l => s.l2Check c l) s).threshold = s.threshold := by simp
  unfold State.drainHead
  grind [State.storeMiss_getD_threshold, State.threshold_setCore, State.startNc_getD_threshold, State.doIoStore_inRange]

@[simp] theorem State.pumpRidge_threshold (s : State) (c : Nat) : (s.pumpRidge c).threshold = s.threshold := by
  unfold State.pumpRidge
  rw [foldl_threshold _ (by simp)]

@[simp] theorem State.afterFill_threshold (s : State) (c i : Nat) (sl : Slot) (st : LSt) :
    (s.afterFill c i sl st).threshold = s.threshold := by
  simp [State.afterFill]

@[simp] theorem State.tryInstall_threshold (s : State) (c i : Nat) : (s.tryInstall c i).threshold = s.threshold := by
  unfold State.tryInstall
  grind [State.afterFill_threshold, State.threshold_setCore, State.installLine_threshold, State.slotSend_threshold]

@[simp] theorem State.pumpFills_threshold (s : State) (c : Nat) : (s.pumpFills c).threshold = s.threshold := by
  simp [State.pumpFills]

@[simp] theorem State.retryList_threshold (s : State) (c : Nat) (ws : List Wait) :
    (s.retryList c ws).threshold = s.threshold := by
  induction ws generalizing s with
  | nil => rfl
  | cons w r ih => simp [State.retryList, ih]

@[simp] theorem State.retry_threshold (s : State) (c : Nat) : (s.retry c).threshold = s.threshold := by
  simp [State.retry]

@[simp] theorem State.stride_threshold (s : State) (c : Nat) (a : Acc) (ctx : Ctx) :
    (s.stride c a ctx).threshold = s.threshold := by
  simp [State.stride]

@[simp] theorem State.issue_threshold (s : State) (c : Nat) (a : Acc) (hyp : Bool) :
    (s.issue c a hyp).threshold = s.threshold := by
  simp [State.issue]

/-! ### Commands of a hart -/

/-- An action that keeps the register in range, or an exception, or a wait. -/
theorem State.guarded_inRange (s : State) (c legal : Nat) (act : State → State) (hs : ThreshInRange s.threshold)
    (ha : ThreshInRange (act s).threshold) : (s.guarded c legal act).InRange := by
  simp [State.guarded, hs, ha]

theorem State.serial_inRange (s : State) (c legal : Nat) (act : State → State) (hs : ThreshInRange s.threshold)
    (ha : ThreshInRange (act s).threshold) : (s.serial c legal act).InRange := by
  unfold State.serial
  split
  · exact State.guarded_inRange s c legal act hs ha
  · simpa using hs

theorem execLoad_inRange (c : CoreId) (va : Word) (size : Nat) (dest : Dest) (sext : Bool) (hyp : HypKind) (upset : Upset)
    (s : State) (hs : ThreshInRange s.threshold) : (execLoad c va size dest sext hyp upset s).InRange := by
  unfold execLoad
  grind [State.issue_threshold, State.guarded_inRange]

theorem execStore_inRange (c : CoreId) (va : Word) (size : Nat) (val : BitVec 128) (hyp : Bool) (s : State)
    (hs : ThreshInRange s.threshold) : (execStore c va size val hyp s).InRange := by
  unfold execStore
  grind [State.issue_threshold, State.guarded_inRange]

theorem execStoreQueueDrain_inRange (c : CoreId) (s : State) (hs : ThreshInRange s.threshold) :
    (execStoreQueueDrain c s).InRange := by
  simp [execStoreQueueDrain, hs]

theorem execAmo_inRange (c : CoreId) (va : Word) (size : Nat) (op : AmoOp) (val cmp : BitVec 128) (rd : Fin 32) (aq rl : Bool)
    (s : State) (hs : ThreshInRange s.threshold) : (execAmo c va size op val cmp rd aq rl s).InRange := by
  unfold execAmo
  grind [State.issue_threshold, State.guarded_inRange]

theorem execLr_inRange (c : CoreId) (va : Word) (size : Nat) (rd : Fin 32) (aq rl : Bool) (s : State)
    (hs : ThreshInRange s.threshold) : (execLr c va size rd aq rl s).InRange := by
  unfold execLr
  grind [State.issue_threshold, State.guarded_inRange]

theorem execSc_inRange (c : CoreId) (va : Word) (size : Nat) (val : BitVec 128) (rd : Fin 32) (aq rl : Bool) (s : State)
    (hs : ThreshInRange s.threshold) : (execSc c va size val rd aq rl s).InRange := by
  unfold execSc
  grind [State.issue_threshold, State.guarded_inRange]

theorem execLrHoldExpiry_inRange (c : CoreId) (s : State) (hs : ThreshInRange s.threshold) : (execLrHoldExpiry c s).InRange := by
  simp [execLrHoldExpiry, hs]

@[simp] theorem State.addFence_threshold (s : State) (c : Nat) (pred succ : BitVec 4) (all : Bool) (x : Option XFence) :
    (s.addFence c pred succ all x).threshold = s.threshold := by
  simp [State.addFence]

theorem execFence_inRange (c : CoreId) (pred succ : BitVec 4) (s : State) (hs : ThreshInRange s.threshold) :
    (execFence c pred succ s).InRange := by
  unfold execFence
  grind [State.guarded_inRange, State.addFence_threshold]

theorem execFenceI_inRange (c : CoreId) (s : State) (hs : ThreshInRange s.threshold) : (execFenceI c s).InRange := by
  unfold execFenceI
  grind [State.guarded_inRange, State.addFence_threshold]

@[simp] theorem State.beginWait_threshold (s : State) (c : Nat) (w : Waiting) : (s.beginWait c w).threshold = s.threshold := by
  simp [State.beginWait]

theorem execWfi_inRange (c : CoreId) (s : State) (hs : ThreshInRange s.threshold) : (execWfi c s).InRange := by
  unfold execWfi
  grind [State.serial_inRange, State.beginWait_threshold]

theorem execWrsNto_inRange (c : CoreId) (s : State) (hs : ThreshInRange s.threshold) : (execWrsNto c s).InRange := by
  unfold execWrsNto
  grind [State.serial_inRange, State.beginWait_threshold]

theorem execWrsSto_inRange (c : CoreId) (s : State) (hs : ThreshInRange s.threshold) : (execWrsSto c s).InRange := by
  unfold execWrsSto
  grind [State.serial_inRange, State.beginWait_threshold]

theorem execWrsStoTimeout_inRange (c : CoreId) (s : State) (hs : ThreshInRange s.threshold) :
    (execWrsStoTimeout c s).InRange := by
  simp [execWrsStoTimeout, hs]

theorem execCboCleanInsn_inRange (c : CoreId) (va : Word) (s : State) (hs : ThreshInRange s.threshold) :
    (execCboCleanInsn c va s).InRange := by
  unfold execCboCleanInsn
  grind [State.issue_threshold, State.guarded_inRange]

theorem execCboFlushInsn_inRange (c : CoreId) (va : Word) (s : State) (hs : ThreshInRange s.threshold) :
    (execCboFlushInsn c va s).InRange := by
  unfold execCboFlushInsn
  grind [State.issue_threshold, State.guarded_inRange]

theorem execCboInvalInsn_inRange (c : CoreId) (va : Word) (s : State) (hs : ThreshInRange s.threshold) :
    (execCboInvalInsn c va s).InRange := by
  unfold execCboInvalInsn
  grind [State.issue_threshold, State.guarded_inRange]

theorem execCboZeroInsn_inRange (c : CoreId) (va : Word) (s : State) (hs : ThreshInRange s.threshold) :
    (execCboZeroInsn c va s).InRange := by
  unfold execCboZeroInsn
  grind [State.issue_threshold, State.guarded_inRange]

theorem execPrefetchHint_inRange (c : CoreId) (kind : PrefKind) (va : Word) (s : State) (hs : ThreshInRange s.threshold) :
    (execPrefetchHint c kind va s).InRange := by
  unfold execPrefetchHint
  grind [State.issue_threshold, State.guarded_inRange]

theorem execNtlHint_inRange (c : CoreId) (hint : Ntl) (s : State) (hs : ThreshInRange s.threshold) :
    (execNtlHint c hint s).InRange := by
  unfold execNtlHint
  grind [State.threshold_setCore, State.guarded_inRange]

theorem execPoisonConsumption_inRange (c : CoreId) (s : State) (hs : ThreshInRange s.threshold) :
    (execPoisonConsumption c s).InRange := by
  unfold execPoisonConsumption
  dsimp only
  split <;> simp [hs]

theorem execHewnMissTrap_inRange (c : CoreId) (s : State) (hs : ThreshInRange s.threshold) : (execHewnMissTrap c s).InRange := by
  unfold execHewnMissTrap
  dsimp only
  split
  · simpa using hs
  · rw [Res.inRange_next, State.faultAcc_threshold, State.threshold_setCore]
    · exact hs
    · simp

theorem execInterruptTaken_inRange (c : CoreId) (s : State) (hs : ThreshInRange s.threshold) :
    (execInterruptTaken c s).InRange := by
  unfold execInterruptTaken
  dsimp only
  repeat' split
  all_goals simp [hs]

theorem execInstructionFetch_inRange (c : CoreId) (va : Word) (upset : Upset) (s : State) (hs : ThreshInRange s.threshold) :
    (execInstructionFetch c va upset s).InRange := by
  unfold execInstructionFetch
  grind [State.issue_threshold, State.threshold_setCore, State.guarded_inRange]

theorem execDebugHaltRequest_inRange (c : CoreId) (s : State) (hs : ThreshInRange s.threshold) :
    (execDebugHaltRequest c s).InRange := by
  simp [execDebugHaltRequest, hs]

theorem execDebugUart_inRange (s : State) (hs : ThreshInRange s.threshold) : (execDebugUart s).InRange := by
  simp [execDebugUart, hs]

/-! ### Fences of translation and CSRs -/

theorem execSfenceVma_inRange (c : CoreId) (va : Option Word) (asid : Option (BitVec 16)) (s : State)
    (hs : ThreshInRange s.threshold) : (execSfenceVma c va asid s).InRange := by
  unfold execSfenceVma
  grind [State.guarded_inRange, State.addFence_threshold]

theorem execHfenceVvma_inRange (c : CoreId) (va : Option Word) (asid : Option (BitVec 16)) (s : State)
    (hs : ThreshInRange s.threshold) : (execHfenceVvma c va asid s).InRange := by
  unfold execHfenceVvma
  grind [State.guarded_inRange, State.addFence_threshold]

theorem execHfenceGvma_inRange (c : CoreId) (gpa : Option Word) (vmid : Option (BitVec 14)) (s : State)
    (hs : ThreshInRange s.threshold) : (execHfenceGvma c gpa vmid s).InRange := by
  unfold execHfenceGvma
  grind [State.guarded_inRange, State.addFence_threshold]

theorem execSinvalVma_inRange (c : CoreId) (va : Option Word) (asid : Option (BitVec 16)) (s : State)
    (hs : ThreshInRange s.threshold) : (execSinvalVma c va asid s).InRange := by
  unfold execSinvalVma
  grind [State.guarded_inRange, State.addFence_threshold]

theorem execHinvalVvma_inRange (c : CoreId) (va : Option Word) (asid : Option (BitVec 16)) (s : State)
    (hs : ThreshInRange s.threshold) : (execHinvalVvma c va asid s).InRange := by
  unfold execHinvalVvma
  grind [State.guarded_inRange, State.addFence_threshold]

theorem execHinvalGvma_inRange (c : CoreId) (gpa : Option Word) (vmid : Option (BitVec 14)) (s : State)
    (hs : ThreshInRange s.threshold) : (execHinvalGvma c gpa vmid s).InRange := by
  unfold execHinvalGvma
  grind [State.guarded_inRange, State.addFence_threshold]

theorem execSfenceWInval_inRange (c : CoreId) (s : State) (hs : ThreshInRange s.threshold) : (execSfenceWInval c s).InRange := by
  unfold execSfenceWInval
  grind [State.guarded_inRange, State.addFence_threshold]

theorem execSfenceInvalIr_inRange (c : CoreId) (s : State) (hs : ThreshInRange s.threshold) :
    (execSfenceInvalIr c s).InRange := by
  unfold execSfenceInvalIr
  grind [State.guarded_inRange, State.addFence_threshold]

theorem execSatpWrite_inRange (c : CoreId) (reg : AtpReg) (val : Word) (s : State) (hs : ThreshInRange s.threshold) :
    (execSatpWrite c reg val s).InRange := by
  unfold execSatpWrite
  grind [State.serial_inRange, State.threshold_setCore]

theorem execEnvcfgCbieWrite_inRange (c : CoreId) (reg : EnvReg) (cbie : BitVec 2) (s : State) (hs : ThreshInRange s.threshold) :
    (execEnvcfgCbieWrite c reg cbie s).InRange := by
  unfold execEnvcfgCbieWrite
  grind [State.serial_inRange, State.threshold_setCore]

theorem execMclkselWrite_inRange (c : CoreId) (val : Word) (s : State) (hs : ThreshInRange s.threshold) :
    (execMclkselWrite c val s).InRange := by
  unfold execMclkselWrite
  grind [State.serial_inRange, State.threshold_setCore]

theorem execClockSwitchDone_inRange (c : CoreId) (s : State) (hs : ThreshInRange s.threshold) :
    (execClockSwitchDone c s).InRange := by
  unfold execClockSwitchDone
  dsimp only
  split <;> simp [hs]

theorem execPllLock_inRange (n : StudId) (s : State) (hs : ThreshInRange s.threshold) : (execPllLock n s).InRange := by
  simp [execPllLock, hs]

theorem execMcorectlWrite_inRange (c : CoreId) (val : Word) (s : State) (hs : ThreshInRange s.threshold) :
    (execMcorectlWrite c val s).InRange := by
  unfold execMcorectlWrite
  grind [State.serial_inRange, State.threshold_setCore]

theorem execPoisoninfoWrite_inRange (c : CoreId) (lvl : Lvl) (val : Word) (s : State) (hs : ThreshInRange s.threshold) :
    (execPoisoninfoWrite c lvl val s).InRange := by
  unfold execPoisoninfoWrite
  grind [State.serial_inRange, State.threshold_setCore]

theorem execWalkinfoWrite_inRange (c : CoreId) (lvl : Lvl) (val : Word) (s : State) (hs : ThreshInRange s.threshold) :
    (execWalkinfoWrite c lvl val s).InRange := by
  unfold execWalkinfoWrite
  grind [State.serial_inRange, State.threshold_setCore]

theorem execMshimctlWrite_inRange (c : CoreId) (val : Word) (s : State) (hs : ThreshInRange s.threshold) :
    (execMshimctlWrite c val s).InRange := by
  unfold execMshimctlWrite
  grind [State.serial_inRange, State.threshold_setCore]

theorem State.stlbOp_inRange (s : State) (c : Nat) (act : State → State) (hs : ThreshInRange s.threshold)
    (ha : ThreshInRange (act s).threshold) : (s.stlbOp c act).InRange := by
  unfold State.stlbOp
  apply State.serial_inRange s c _ _ hs
  split
  · exact ha
  · simpa using hs

theorem execStlbcmdWrite_inRange (c : CoreId) (wired : Bool) (s : State) (hs : ThreshInRange s.threshold) :
    (execStlbcmdWrite c wired s).InRange := by
  unfold execStlbcmdWrite
  grind [State.stlbOp_inRange, State.take_threshold, State.threshold_setCore]

theorem execStlbcmdProbe_inRange (c : CoreId) (s : State) (hs : ThreshInRange s.threshold) : (execStlbcmdProbe c s).InRange := by
  unfold execStlbcmdProbe
  grind [State.stlbOp_inRange, State.threshold_setCore]

theorem execStlbcmdRead_inRange (c : CoreId) (index : BitVec 12) (s : State) (hs : ThreshInRange s.threshold) :
    (execStlbcmdRead c index s).InRange := by
  unfold execStlbcmdRead
  grind [State.serial_inRange, State.take_threshold, State.threshold_setCore]

theorem State.stlbInval_inRange (s : State) (c : Nat) (wired : Bool) (p : Core → TlbEnt → Bool) (hs : ThreshInRange s.threshold) :
    (s.stlbInval c wired p).InRange := by
  unfold State.stlbInval
  grind [State.stlbOp_inRange, State.threshold_setCore]

theorem execStlbcmdInvalVa_inRange (c : CoreId) (wired : Bool) (s : State) (hs : ThreshInRange s.threshold) :
    (execStlbcmdInvalVa c wired s).InRange := by
  unfold execStlbcmdInvalVa
  grind [State.stlbInval_inRange]

theorem execStlbcmdInvalAsid_inRange (c : CoreId) (wired : Bool) (s : State) (hs : ThreshInRange s.threshold) :
    (execStlbcmdInvalAsid c wired s).InRange := by
  unfold execStlbcmdInvalAsid
  grind [State.stlbInval_inRange]

theorem execStlbcmdInvalAll_inRange (c : CoreId) (wired : Bool) (s : State) (hs : ThreshInRange s.threshold) :
    (execStlbcmdInvalAll c wired s).InRange := by
  unfold execStlbcmdInvalAll
  grind [State.stlbInval_inRange]

/-! ### Transports of commands -/

@[simp] theorem State.tagDone_threshold (s : State) (t : TInst) (b : List Byte) : (s.tagDone t b).threshold = s.threshold := by
  simp [State.tagDone]

@[simp] theorem State.loseTransport_threshold (s : State) (t : TInst) : (s.loseTransport t).threshold = s.threshold := by
  unfold State.loseTransport
  split <;> simp

@[simp] theorem State.ringFail_threshold (s : State) (f bit : Nat) : (s.ringFail f bit).threshold = s.threshold := by
  simp [State.ringFail]

@[simp] theorem State.ringPoison_threshold (s : State) (f bit pa : Nat) : (s.ringPoison f bit pa).threshold = s.threshold := by
  simp [State.ringPoison]

@[simp] theorem State.pumpRing_threshold (s : State) (f : Nat) : (s.pumpRing f).threshold = s.threshold := by
  unfold State.pumpRing
  dsimp only
  split <;> simp

@[simp] theorem State.pumpMailbox_threshold (s : State) (p n : Nat) : (s.pumpMailbox p n).threshold = s.threshold := by
  induction n generalizing s with
  | zero => rfl
  | succ m ih =>
    unfold State.pumpMailbox
    dsimp only
    split
    · rfl
    · simp [ih]

@[simp] theorem State.pumpReplies_threshold (s : State) (t : TInst) : (s.pumpReplies t).threshold = s.threshold := by
  unfold State.pumpReplies
  split <;> simp

@[simp] theorem State.ringWritten_threshold (s : State) (f : Nat) : (s.ringWritten f).threshold = s.threshold := by
  unfold State.ringWritten
  dsimp only
  split <;> simp

@[simp] theorem State.mctpSend_threshold (s : State) (own : Bool) (b : List Byte) :
    (s.mctpSend own b).threshold = s.threshold := by
  simp [State.mctpSend]

@[simp] theorem State.putReply_threshold (s : State) (t : TInst) (own : Bool) (taken : Nat) (b : List Byte) (holds : Bool) :
    (s.putReply t own taken b holds).threshold = s.threshold := by
  unfold State.putReply
  dsimp only
  split <;> simp

@[simp] theorem State.sendReply_threshold (s : State) (t : TInst) (own : Bool) (taken : Nat) (b : List Byte) :
    (s.sendReply t own taken b).threshold = s.threshold := by
  simp [State.sendReply]

@[simp] theorem State.commandDone_threshold (s : State) (t : TInst) (op tag status : Nat) :
    (s.commandDone t op tag status).threshold = s.threshold := by
  unfold State.commandDone
  split <;> simp

@[simp] theorem State.pumpAll_threshold (s : State) : s.pumpAll.threshold = s.threshold := by
  simp [State.pumpAll]

/-! ### Registers of the dovetail function -/

@[simp] theorem State.setDt_threshold (s : State) (p : Nat) (d : Dovetail) : (s.setDt p d).threshold = s.threshold := by
  simp [State.setDt]

@[simp] theorem State.dtCfg_threshold (s : State) (p : Nat) (v : Word) : (s.dtCfg p v).threshold = s.threshold := by
  simp [State.dtCfg]

@[simp] theorem State.dtCommit_threshold (s : State) (p : Nat) : (s.dtCommit p).threshold = s.threshold := by
  simp [State.dtCommit]

@[simp] theorem State.barWrite_threshold (s : State) (p o : Nat) (lo : Bool) (v raw : Word) :
    (s.barWrite p o lo v raw).threshold = s.threshold := by
  unfold State.barWrite
  split <;> simp

@[simp] theorem State.barStore_threshold (s : State) (p o size : Nat) (val : Word) :
    (s.barStore p o size val).threshold = s.threshold := by
  simp [State.barStore]

@[simp] theorem State.inbHold_threshold (s : State) (p : Nat) (x : Inb) : (s.inbHold p x).threshold = s.threshold := by
  simp [State.inbHold]

@[simp] theorem State.barTurn_threshold (s : State) (p o size : Nat) (val : Word) :
    (s.barTurn p o size val).threshold = s.threshold := by
  simp [State.barTurn]

/-! ### Walks -/

@[simp] theorem State.setWalk_threshold (s : State) (c i : Nat) (w : Walk) : (s.setWalk c i w).threshold = s.threshold := by
  simp [State.setWalk]

@[simp] theorem State.freeWalk_threshold (s : State) (c i : Nat) : (s.freeWalk c i).threshold = s.threshold := by
  simp [State.freeWalk]

@[simp] theorem State.tlbFill_threshold (s : State) (c : Nat) (acc : AccType) (e : TlbEnt) :
    (s.tlbFill c acc e).threshold = s.threshold := by
  simp [State.tlbFill]

@[simp] theorem State.pscFill_threshold (s : State) (c : Nat) (e : PscEnt) : (s.pscFill c e).threshold = s.threshold := by
  simp [State.pscFill]

@[simp] theorem State.walkTrap_threshold (s : State) (c : Nat) (w : Walk) (x : Wait) (va : Word) (reason pte level stage : Nat) :
    (s.walkTrap c w x va reason pte level stage).threshold = s.threshold := by
  simp [State.walkTrap]

@[simp] theorem State.walkFail_threshold (s : State) (c i : Nat) (w : Walk) (reason pte level stage : Nat) :
    (s.walkFail c i w reason pte level stage).threshold = s.threshold := by
  unfold State.walkFail
  dsimp only
  repeat' split
  all_goals simp

@[simp] theorem State.touchUsed_threshold (s : State) (c : Nat) (w : Walk) : (s.touchUsed c w).threshold = s.threshold := by
  simp [State.touchUsed]

@[simp] theorem State.walkNext_threshold (s : State) (c i : Nat) (n : WNext) : (s.walkNext c i n).threshold = s.threshold := by
  unfold State.walkNext
  split <;> simp

@[simp] theorem State.beginWalk_threshold (s : State) (c : Nat) (src : WalkSrc) (x : Wait) (va : Word) :
    (s.beginWalk c src x va).threshold = s.threshold := by
  unfold State.beginWalk
  dsimp only
  repeat' split
  all_goals simp

theorem execWalkRequest_inRange (c : CoreId) (src : WalkSrc) (acc : AccType) (va : Word) (guest : Bool) (s : State)
    (hs : ThreshInRange s.threshold) : (execWalkRequest c src acc va guest s).InRange := by
  unfold execWalkRequest
  dsimp only
  split <;> simp [hs]

theorem execHeadWalkRequest_inRange (c : CoreId) (s : State) (hs : ThreshInRange s.threshold) :
    (execHeadWalkRequest c s).InRange := by
  unfold execHeadWalkRequest
  dsimp only
  repeat' split
  all_goals simp [hs]

@[simp] theorem State.pteUpdate_threshold (s : State) (c i : Nat) (w : Walk) (p : Word) :
    (s.pteUpdate c i w p).threshold = s.threshold := by
  unfold State.pteUpdate
  grind [State.freeWalk_threshold, State.threshold_setCore, State.retry_threshold, State.walkNext_threshold,
    State.startMiss_getD_threshold, State.tlbFill_threshold]

@[simp] theorem State.pteRead_threshold (s : State) (c i : Nat) (w : Walk) (p : Word) (poison : Bool) (src : Nat) :
    (s.pteRead c i w p poison src).threshold = s.threshold := by
  unfold State.pteRead
  dsimp only
  repeat' split
  all_goals simp

@[simp] theorem State.shimEcc_threshold (s : State) (c : Nat) (ecc : Fin 3) : (s.shimEcc c ecc).threshold = s.threshold := by
  unfold State.shimEcc
  split <;> simp

theorem execPteReadReturn_inRange (c : CoreId) (ctx : Fin 4) (ecc : Fin 3) (s : State) (hs : ThreshInRange s.threshold) :
    (execPteReadReturn c ctx ecc s).InRange := by
  unfold execPteReadReturn
  grind [Res.inRange_next, State.shimEcc_threshold, State.l2Check_threshold, State.startMiss_getD_threshold,
    State.threshold_setCore, State.pteRead_threshold]

/-! ### Inbound requests -/

@[simp] theorem State.landPosted_threshold (s : State) (p : Nat) : (s.landPosted p).threshold = s.threshold := by
  unfold State.landPosted
  grind [foldl_threshold, leavesThresh_iff, State.setMemLine_threshold]

theorem State.inbSend_threshold {s : State} {p t : Nat} {x : Inb} {line : Nat} {s' : State} (he : s.inbSend p t x line = some s')
    : s'.threshold = s.threshold := by
  unfold State.inbSend at he
  grind [State.route_threshold]

@[simp] theorem State.inbNext_threshold (s : State) (p t : Nat) (x : Inb) (n : Nat) :
    (s.inbNext p t x n).threshold = s.threshold := by
  induction n generalizing x with
  | zero =>
    unfold State.inbNext
    grind [State.inbEnd_threshold]
  | succ m ih =>
    unfold State.inbNext
    grind [State.inbEnd_threshold, State.threshold_setPort, State.inbSend_threshold]

@[simp] theorem State.inbRidge_threshold (s : State) (p t : Nat) (x : Inb) (n : Nat) :
    (s.inbRidge p t x n).threshold = s.threshold := by
  induction n generalizing s x with
  | zero =>
    unfold State.inbRidge
    grind [State.inbEnd_threshold]
  | succ m ih =>
    unfold State.inbRidge
    grind [State.inbEnd_threshold, State.threshold_setPort, State.ridgeSend_threshold]

@[simp] theorem State.inbPeer_threshold (s : State) (p t : Nat) (x : Inb) : (s.inbPeer p t x).threshold = s.threshold := by
  unfold State.inbPeer
  dsimp only
  repeat' split
  all_goals simp

@[simp] theorem State.inbStart_inRange (s : State) (p t : Nat) (x : Inb) (hs : ThreshInRange s.threshold) :
    ThreshInRange (s.inbStart p t x).threshold := by
  unfold State.inbStart
  split <;> simp [hs]

@[simp] theorem State.inbPump_inRange (s : State) (p n : Nat) (hs : ThreshInRange s.threshold) :
    ThreshInRange (s.inbPump p n).threshold := by
  induction n generalizing s with
  | zero => exact hs
  | succ m ih =>
    unfold State.inbPump
    dsimp only
    split
    · exact ih _ (State.inbStart_inRange _ _ _ _ hs)
    · exact hs

@[simp] theorem State.inbGo_inRange (s : State) (p : Nat) (hs : ThreshInRange s.threshold) :
    ThreshInRange (s.inbGo p).threshold := by
  unfold State.inbGo
  exact foldl_inRange _ (by simp +contextual) _ _ hs

@[simp] theorem State.inbAdd_inRange (s : State) (p : Nat) (x : Inb) (hs : ThreshInRange s.threshold) :
    ThreshInRange (s.inbAdd p x).threshold := by
  simp [State.inbAdd, hs]

@[simp] theorem State.inbLineDone_inRange (s : State) (p t : Nat) (x : Inb) (hs : ThreshInRange s.threshold) :
    ThreshInRange (s.inbLineDone p t x).threshold := by
  simp [State.inbLineDone, hs]

@[simp] theorem State.inbData_inRange (s : State) (p t : Nat) (ok ur : Bool) (data : List Byte) (poison : Bool)
    (hs : ThreshInRange s.threshold) : ThreshInRange (s.inbData p t ok ur data poison).threshold := by
  unfold State.inbData
  split <;> simp [hs]

@[simp] theorem State.inbMsg_inRange (s : State) (p : Nat) (m : Msg) (hs : ThreshInRange s.threshold) :
    ThreshInRange (s.inbMsg p m).threshold := by
  unfold State.inbMsg
  dsimp only
  repeat' split
  all_goals simp [hs]

/-! ### The write of a notch -/

@[simp] theorem State.notchIrq_threshold (s : State) (c : Nat) : (s.notchIrq c).threshold = s.threshold := by
  simp [State.notchIrq]

@[simp] theorem State.notchFail_threshold (s : State) (c : Nat) : (s.notchFail c).threshold = s.threshold := by
  simp [State.notchFail]

@[simp] theorem State.notchTail_threshold (s : State) (c : Nat) : (s.notchTail c).threshold = s.threshold := by
  simp [State.notchTail]

@[simp] theorem State.notchSend_threshold (s : State) (c : Nat) : (s.notchSend c).threshold = s.threshold := by
  unfold State.notchSend
  dsimp only
  split <;> simp

@[simp] theorem State.notchData_threshold (s : State) (c i : Nat) (sl : Slot) (m : Msg) :
    (s.notchData c i sl m).threshold = s.threshold := by
  simp [State.notchData]

@[simp] theorem State.notchWritten_threshold (s : State) (c i : Nat) : (s.notchWritten c i).threshold = s.threshold := by
  rw [State.notchWritten]
  exact (State.threshold_setCore ..).trans ((State.notchTail_threshold ..).trans (State.threshold_setCore ..))

@[simp] theorem State.notchFailed_threshold (s : State) (c i : Nat) : (s.notchFailed c i).threshold = s.threshold := by
  simp [State.notchFailed]

/-! ### Preloads of BAY_LOCK_RANGE -/

@[simp] theorem State.setWork_threshold (s : State) (b : Nat) (w : BayWork) : (s.setWork b w).threshold = s.threshold := by
  simp [State.setWork]

@[simp] theorem State.preload_threshold (s : State) (b : Nat) (w : BayWork) : (s.preload b w).threshold = s.threshold := by
  unfold State.preload
  repeat' split
  all_goals simp

@[simp] theorem State.preloaded_threshold (s : State) (b line : Nat) : (s.preloaded b line).threshold = s.threshold := by
  unfold State.preloaded
  split <;> simp

/-! ### What a requester does with responses -/

@[simp] theorem State.goOn_inRange (s : State) (c : Nat) (hs : ThreshInRange s.threshold) :
    ThreshInRange (s.goOn c).threshold := by
  simp [State.goOn, hs]

@[simp] theorem State.slotData_inRange (s : State) (c i : Nat) (sl : Slot) (m : Msg) (hs : ThreshInRange s.threshold) :
    ThreshInRange (s.slotData c i sl m).threshold := by
  unfold State.slotData
  grind [State.goOn_inRange, State.threshold_setCore]

@[simp] theorem State.slotGo_inRange (s : State) (c i : Nat) (sl : Slot) (m : Msg) (hs : ThreshInRange s.threshold) :
    ThreshInRange (s.slotGo c i sl m).threshold := by
  unfold State.slotGo
  grind [State.goOn_inRange, State.threshold_setCore]

@[simp] theorem State.ncGot_inRange (s : State) (c i : Nat) (sl : Slot) (d : Line) (poison : Bool) (src : Nat) (ridge : Bool)
    (hs : ThreshInRange s.threshold) : ThreshInRange (s.ncGot c i sl d poison src ridge).threshold := by
  unfold State.ncGot
  split
  · exact State.goOn_inRange _ _ (by simpa using hs)
  split
  · exact hs
  dsimp only
  split
  · exact State.goOn_inRange _ _ (by simpa using hs)
  split
  · refine hs.of_eq (State.ridgePiece_getD_of_eq ?_ ?_)
    · exact State.threshold_setCore ..
    · exact (State.threshold_setCore ..).trans (State.threshold_setCore ..)
  · simpa using hs

@[simp] theorem State.ncDone_inRange (s : State) (c i : Nat) (sl : Slot) (ridge : Bool) (hs : ThreshInRange s.threshold) :
    ThreshInRange (s.ncDone c i sl ridge).threshold := by
  unfold State.ncDone
  grind [State.threshold_setCore, State.goOn_inRange, State.ridgePiece_getD_threshold, State.ncPiece_threshold]

@[simp] theorem State.walkErr_threshold (s : State) (c line : Nat) : (s.walkErr c line).threshold = s.threshold := by
  unfold State.walkErr
  split <;> simp

@[simp] theorem State.slotErr_inRange (s : State) (c i : Nat) (sl : Slot) (hs : ThreshInRange s.threshold) :
    ThreshInRange (s.slotErr c i sl).threshold := by
  unfold State.slotErr
  dsimp only
  split <;> simp [hs]

@[simp] theorem State.slotPull_inRange (s : State) (c i : Nat) (sl : Slot) (m : Msg) (hs : ThreshInRange s.threshold) :
    ThreshInRange (s.slotPull c i sl m).threshold := by
  unfold State.slotPull
  dsimp only
  repeat' split
  all_goals simp [hs]

@[simp] theorem State.slotWrite_threshold (s : State) (c i : Nat) (sl : Slot) (m : Msg) :
    (s.slotWrite c i sl m).threshold = s.threshold := by
  unfold State.slotWrite
  dsimp only
  repeat' split
  all_goals simp

@[simp] theorem State.toSlot_inRange (s : State) (c i : Nat) (sl : Slot) (m : Msg) (hs : ThreshInRange s.threshold) :
    ThreshInRange (s.toSlot c i sl m).threshold := by
  unfold State.toSlot
  grind [State.slotGo_inRange, State.goOn_inRange, State.notchData_threshold, State.ncDone_inRange, State.slotWrite_threshold,
    State.notchFailed_threshold, State.ncGot_inRange, State.notchWritten_threshold, State.threshold_setCore,
    State.slotPull_inRange, State.slotErr_inRange, State.slotData_inRange]

@[simp] theorem State.bridgeMsg_threshold (s : State) (m : Msg) : (s.bridgeMsg m).threshold = s.threshold := by
  unfold State.bridgeMsg
  repeat' split
  all_goals simp

@[simp] theorem State.toRequester_inRange (s : State) (m : Msg) (hs : ThreshInRange s.threshold) :
    ThreshInRange (s.toRequester m).threshold := by
  unfold State.toRequester
  grind [State.ncMsg_threshold, State.notchSend_threshold, State.toSlot_inRange, State.inbMsg_inRange, State.arrive_threshold,
    State.bridgeMsg_threshold]

theorem execDataS_inRange (h : Hdr) (data : Line) (s : State) (hs : ThreshInRange s.threshold) :
    (execDataS h data s).InRange := by
  simp [execDataS, hs]

theorem execDataF_inRange (h : Hdr) (data : Line) (s : State) (hs : ThreshInRange s.threshold) :
    (execDataF h data s).InRange := by
  simp [execDataF, hs]

theorem execDataE_inRange (h : Hdr) (data : Line) (s : State) (hs : ThreshInRange s.threshold) :
    (execDataE h data s).InRange := by
  simp [execDataE, hs]

theorem execDataM_inRange (h : Hdr) (data : Line) (s : State) (hs : ThreshInRange s.threshold) :
    (execDataM h data s).InRange := by
  simp [execDataM, hs]

theorem execGoU_inRange (h : Hdr) (s : State) (hs : ThreshInRange s.threshold) : (execGoU h s).InRange := by
  simp [execGoU, hs]

theorem execWbPull_inRange (h : Hdr) (s : State) (hs : ThreshInRange s.threshold) : (execWbPull h s).InRange := by
  simp [execWbPull, hs]

theorem execWbStale_inRange (h : Hdr) (s : State) (hs : ThreshInRange s.threshold) : (execWbStale h s).InRange := by
  simp [execWbStale, hs]

@[simp] theorem State.toHolder_threshold (s : State) (m : Msg) : (s.toHolder m).threshold = s.threshold := by
  unfold State.toHolder
  grind [State.arrive_threshold, State.snoopStuds_threshold]

theorem execSnpFwdS_inRange (h : Hdr) (s : State) (hs : ThreshInRange s.threshold) : (execSnpFwdS h s).InRange := by
  simp [execSnpFwdS, hs]

theorem execSnpFwdU_inRange (h : Hdr) (s : State) (hs : ThreshInRange s.threshold) : (execSnpFwdU h s).InRange := by
  simp [execSnpFwdU, hs]

theorem execSnpInv_inRange (h : Hdr) (s : State) (hs : ThreshInRange s.threshold) : (execSnpInv h s).InRange := by
  simp [execSnpInv, hs]

theorem execSnpClean_inRange (h : Hdr) (s : State) (hs : ThreshInRange s.threshold) : (execSnpClean h s).InRange := by
  simp [execSnpClean, hs]

theorem execSnpFlush_inRange (h : Hdr) (s : State) (hs : ThreshInRange s.threshold) : (execSnpFlush h s).InRange := by
  simp [execSnpFlush, hs]

theorem execSnpDrop_inRange (h : Hdr) (s : State) (hs : ThreshInRange s.threshold) : (execSnpDrop h s).InRange := by
  simp [execSnpDrop, hs]

/-! ### What a home keeps -/

@[simp] theorem State.bayCheck_threshold (s : State) (h line : Nat) : (s.bayCheck h line).threshold = s.threshold := by
  unfold State.bayCheck
  split <;> simp

@[simp] theorem State.bayLock_threshold (s : State) (h : Nat) (e : BayLine) : (s.bayLock h e).threshold = s.threshold := by
  unfold State.bayLock
  dsimp only
  repeat' split
  all_goals simp

theorem State.toDram_threshold {s : State} {h : Nat} {w : HWrite} {s' : State} (he : s.toDram h w = some s') :
    s'.threshold = s.threshold := by
  obtain ⟨b, -, rfl⟩ := Option.map_eq_some_iff.1 he
  exact State.threshold_setHome ..

/-- Putting a line into the bay cache leaves a state whose TENON_THRESH is w. -/
inductive Placed.Leaves (w : Word) : Placed → Prop
  | done {t : State} : t.threshold = w → Leaves w (.done t)
  | skipped {t : State} : t.threshold = w → Leaves w (.skipped t)
  | wait : Leaves w .wait

theorem State.bayAlloc_threshold (s : State) (h : Nat) (e : BayLine) : (s.bayAlloc h e).Leaves s.threshold := by
  have checked (k : Nat) : (match Tab.find (s.home h).cache k with
      | some old => if old.dirty then s.bayCheck h old.line else s
      | none => s).threshold = s.threshold := by
    split
    · split
      · exact State.bayCheck_threshold ..
      · rfl
    · rfl
  unfold State.bayAlloc
  grind [Placed.Leaves, State.threshold_setHome]

theorem State.bayAlloc_done {s t : State} {h : Nat} {e : BayLine} (he : s.bayAlloc h e = .done t) :
    t.threshold = s.threshold := by
  have hl := s.bayAlloc_threshold h e
  rw [he] at hl
  cases hl with
  | done h => exact h

theorem State.bayAlloc_skipped {s t : State} {h : Nat} {e : BayLine} (he : s.bayAlloc h e = .skipped t) :
    t.threshold = s.threshold := by
  have hl := s.bayAlloc_threshold h e
  rw [he] at hl
  cases hl with
  | skipped h => exact h

theorem State.homeWrite_threshold {s : State} {h : Nat} {w : HWrite} {s' : State} (he : s.homeWrite h w = some s') :
    s'.threshold = s.threshold := by
  unfold State.homeWrite at he
  extract_lets t at he
  have woken : t.threshold = s.threshold := by
    unfold t
    split
    · exact State.wakeArray_threshold ..
    · rfl
  rw [← woken]
  clear_value t
  split at he
  · split at he
    · cases he
      exact State.setMemLine_threshold ..
    · cases he
      exact State.report_threshold ..
  split at he
  · cases he
    exact State.setMemLine_threshold ..
  split at he
  · exact State.toDram_threshold he
  split at he
  · dsimp only at he
    split at he
    · obtain ⟨b, -, rfl⟩ := Option.map_eq_some_iff.1 he
      exact State.threshold_setHome ..
    · cases he
      exact State.threshold_setHome ..
  · split at he
    · exact State.toDram_threshold he
    split at he
    · next u hu =>
      cases he
      exact State.bayAlloc_done hu
    · next u hu => exact (State.toDram_threshold he).trans (State.bayAlloc_skipped hu)
    · cases he

theorem State.bayClean_threshold {s : State} {h line : Nat} {s' : State} (he : s.bayClean h line = some s') :
    s'.threshold = s.threshold := by
  unfold State.bayClean at he
  grind [Option.map_eq_some_iff, State.wakeArray_threshold, State.bayCheck_threshold, State.threshold_setHome]

@[simp] theorem State.bayDiscard_threshold (s : State) (h line : Nat) : (s.bayDiscard h line).threshold = s.threshold := by
  unfold State.bayDiscard
  dsimp only
  split <;> simp

theorem State.bayFlush_threshold {s : State} {h line : Nat} {s' : State} (he : s.bayFlush h line = some s') :
    s'.threshold = s.threshold := by
  obtain ⟨t, ht, rfl⟩ := Option.map_eq_some_iff.1 he
  grind [State.bayClean_threshold, State.bayDiscard_threshold]

/-! ### Work on a bay's arrays -/

@[simp] theorem State.setTx_threshold (s : State) (h i : Nat) (t : HTx) : (s.setTx h i t).threshold = s.threshold := by
  simp [State.setTx]

@[simp] theorem State.endTx_threshold (s : State) (h i : Nat) : (s.endTx h i).threshold = s.threshold := by
  simp [State.endTx]

@[simp] theorem State.reply_threshold (s : State) (h i : Nat) (t : HTx) (op : MsgOp) (go dirty : Bool) (data : Line) :
    (s.reply h i t op go dirty data).threshold = s.threshold := by
  simp [State.reply]

@[simp] theorem State.sendHeld_threshold (s : State) (h i : Nat) : (s.sendHeld h i).threshold = s.threshold := by
  unfold State.sendHeld
  grind [foldl_threshold, leavesThresh_iff, State.route_threshold, State.threshold_setHome, State.setTx_threshold]

@[simp] theorem State.addSnoops_threshold (s : State) (h i : Nat) (t : HTx) (l : List (MsgOp × Nat × Nat)) :
    (s.addSnoops h i t l).threshold = s.threshold := by
  simp [State.addSnoops]

@[simp] theorem State.flushPlace_threshold (s : State) (b line : Nat) (w : BayWork) :
    (s.flushPlace b line w).threshold = s.threshold := by
  unfold State.flushPlace
  dsimp only
  repeat' split
  all_goals simp

@[simp] theorem State.dropBench_threshold (s : State) (b k : Nat) (e : DirEnt) : (s.dropBench b k e).threshold = s.threshold := by
  unfold State.dropBench
  dsimp only
  split <;> simp

@[simp] theorem State.setBench_threshold (s : State) (b w : Nat) : (s.setBench b w).threshold = s.threshold := by
  simp [State.setBench]

@[simp] theorem State.afterFlush_threshold (s : State) (b : Nat) (w : BayWork) : (s.afterFlush b w).threshold = s.threshold := by
  unfold State.afterFlush
  repeat' split
  all_goals simp

@[simp] theorem State.workRun_threshold (s : State) (b : Nat) : (s.workRun b).threshold = s.threshold := by
  unfold State.workRun
  dsimp only
  repeat' split
  all_goals simp

@[simp] theorem State.beginWork_threshold (s : State) (b : Nat) (w : BayWork) : (s.beginWork b w).threshold = s.threshold := by
  simp [State.beginWork]

@[simp] theorem State.endWork_threshold (s : State) (b : Nat) : (s.endWork b).threshold = s.threshold := by
  simp [State.endWork]

/-! ### A home's transactions -/

@[simp] theorem State.takeBmr_threshold (s : State) (h i : Nat) (t : HTx) (d : Option (Line × Bool)) :
    (s.takeBmr h i t d).threshold = s.threshold := by
  unfold State.takeBmr
  dsimp only
  split <;> simp

@[simp] theorem State.fetchLine_threshold (s : State) (h i : Nat) : (s.fetchLine h i).threshold = s.threshold := by
  unfold State.fetchLine
  dsimp only
  repeat' split
  all_goals simp

@[simp] theorem State.beginEvict_threshold (s : State) (h i k : Nat) (e : DirEnt) :
    (s.beginEvict h i k e).threshold = s.threshold := by
  unfold State.beginEvict
  dsimp only
  split <;> simp

@[simp] theorem State.allocDir_threshold (s : State) (h i : Nat) : (s.allocDir h i).threshold = s.threshold := by
  unfold State.allocDir
  dsimp only
  repeat' split
  all_goals simp

@[simp] theorem State.putDir_threshold (s : State) (h : Nat) (t : HTx) (e : DirEnt) :
    (s.putDir h t e).threshold = s.threshold := by
  unfold State.putDir
  split <;> simp

@[simp] theorem State.clearDir_threshold (s : State) (h line : Nat) : (s.clearDir h line).threshold = s.threshold := by
  unfold State.clearDir
  split <;> simp

@[simp] theorem State.startTx_threshold (s : State) (h i : Nat) (t : HTx) : (s.startTx h i t).threshold = s.threshold := by
  unfold State.startTx
  dsimp only
  repeat' split
  all_goals simp

@[simp] theorem State.granted_threshold (s : State) (h i : Nat) (t : HTx) : (s.granted h i t).threshold = s.threshold := by
  simp [State.granted]

@[simp] theorem State.oToS_threshold (s : State) (h line : Nat) : (s.oToS h line).threshold = s.threshold := by
  unfold State.oToS
  split <;> simp

@[simp] theorem State.finishGrant_threshold (s : State) (h i : Nat) (t : HTx) :
    (s.finishGrant h i t).threshold = s.threshold := by
  unfold State.finishGrant
  split <;> simp

@[simp] theorem State.finishWb_threshold (s : State) (h i : Nat) (t : HTx) : (s.finishWb h i t).threshold = s.threshold := by
  unfold State.finishWb
  grind [State.reply_threshold, State.homeWrite_threshold, State.threshold_setHome, State.endTx_threshold, State.setTx_threshold]

@[simp] theorem State.finishRdNc_threshold (s : State) (h i : Nat) (t : HTx) : (s.finishRdNc h i t).threshold = s.threshold := by
  simp [State.finishRdNc]

@[simp] theorem State.finishWrNc_threshold (s : State) (h i : Nat) (t : HTx) : (s.finishWrNc h i t).threshold = s.threshold := by
  unfold State.finishWrNc
  grind [State.reply_threshold, State.homeWrite_threshold, State.endTx_threshold, State.clearDir_threshold, State.setTx_threshold]

@[simp] theorem State.finishCbo_threshold (s : State) (h i : Nat) (t : HTx) : (s.finishCbo h i t).threshold = s.threshold := by
  unfold State.finishCbo
  grind [State.reply_threshold, State.oToS_threshold, State.bayClean_threshold, State.endTx_threshold, State.clearDir_threshold,
    State.bayDiscard_threshold, State.bayFlush_threshold, State.setTx_threshold]

@[simp] theorem State.finishEvict_threshold (s : State) (h i : Nat) (t : HTx) :
    (s.finishEvict h i t).threshold = s.threshold := by
  simp [State.finishEvict]

theorem State.storeSnoop_threshold {s : State} {h i : Nat} {t : HTx} {s' : State} (he : s.storeSnoop h i t = some s') :
    s'.threshold = s.threshold := by
  unfold State.storeSnoop at he
  grind [Option.map_eq_some_iff, State.homeWrite_threshold, State.setTx_threshold]

@[simp] theorem State.stepTx_threshold (s : State) (h i : Nat) : (s.stepTx h i).threshold = s.threshold := by
  unfold State.stepTx
  split
  · rfl
  split
  · rfl
  · dsimp only
    split
    · rfl
    split
    · split
      · split
        · exact State.fatalBay_threshold ..
        · exact State.fatal_threshold ..
      · exact State.startTx_threshold ..
    · exact State.startTx_threshold ..
  · split
    · rfl
    next s' hstored =>
    have stored := State.storeSnoop_threshold hstored
    split
    · exact stored
    split
    · split
      · exact (State.finishEvict_threshold ..).trans stored
      · exact stored
    · extract_lets early s₁ s₂
      have fetched : s₁.threshold = s.threshold := by
        unfold s₁
        split
        · exact (State.fetchLine_threshold ..).trans stored
        · exact stored
      have placed : s₂.threshold = s.threshold := by
        unfold s₂
        split
        · exact (State.allocDir_threshold ..).trans fetched
        · exact fetched
      grind [State.finishRdNc_threshold, State.finishCbo_threshold, State.finishWb_threshold, State.finishGrant_threshold,
        State.finishWrNc_threshold]

@[simp] theorem State.orderReq_threshold (s : State) (h line : Nat) (m : Msg) (port : Nat) :
    (s.orderReq h line m port).threshold = s.threshold := by
  unfold State.orderReq
  dsimp only
  repeat' split
  all_goals simp

@[simp] theorem State.stepAll_threshold (s : State) (h n : Nat) : (s.stepAll h n).threshold = s.threshold := by
  induction n generalizing s with
  | zero => rfl
  | succ m ih => simp [State.stepAll, ih]

@[simp] theorem State.orderWaiting_threshold (s : State) (h n : Nat) : (s.orderWaiting h n).threshold = s.threshold := by
  induction n generalizing s with
  | zero => rfl
  | succ m ih =>
    unfold State.orderWaiting
    split <;> simp [ih]

@[simp] theorem State.homeRun_threshold (s : State) (h : Nat) : (s.homeRun h).threshold = s.threshold := by
  simp [State.homeRun]

@[simp] theorem State.toHome_threshold (s : State) (m : Msg) : (s.toHome m).threshold = s.threshold := by
  unfold State.toHome
  grind [State.orderReq_threshold, State.reply_threshold, State.homeRun_threshold, State.threshold_setHome,
    State.arrive_threshold]

/-! ### Tenon links -/

@[simp] theorem State.setTdir_threshold (s : State) (n : Nat) (d : TDirId) (v : TenonDir) :
    (s.setTdir n d v).threshold = s.threshold := by
  simp [State.setTdir]

@[simp] theorem State.tenonFail_threshold (s : State) (n : Nat) : (s.tenonFail n).threshold = s.threshold := by
  simp [State.tenonFail]

@[simp] theorem State.tenonWidth_threshold (s : State) (n : Nat) : (s.tenonWidth n).threshold = s.threshold := by
  simp [State.tenonWidth]

@[simp] theorem State.mapChanged_threshold (s : State) : s.mapChanged.threshold = s.threshold := by
  simp [State.mapChanged]

@[simp] theorem State.tenonCross_threshold (s : State) (n : Nat) (d : TDirId) (g : Nat) (xs : List Cross) :
    (s.tenonCross n d g xs).threshold = s.threshold := by
  simp [State.tenonCross]

@[simp] theorem State.crossOn_threshold (s : State) (n : Nat) (d : TDirId) (g : Nat) :
    (s.crossOn n d g).threshold = s.threshold := by
  simp [State.crossOn]

@[simp] theorem State.tenonDead_threshold (s : State) (n : Nat) (d : TDirId) (g cause : Nat) :
    (s.tenonDead n d g cause).threshold = s.threshold := by
  simp [State.tenonDead]

@[simp] theorem State.tenonCounts_threshold (s : State) (n : Nat) (d : TDirId) (g cause : Nat) (l : List (Nat × Nat)) :
    (s.tenonCounts n d g cause l).threshold = s.threshold := by
  unfold State.tenonCounts
  dsimp only
  repeat' split
  all_goals simp

theorem execSteerReq_inRange (n : StudId) (d : TDirId) (g : Fin 64) (wire : BitVec 7) (spare : BitVec 7) (s : State)
    (hs : ThreshInRange s.threshold) : (execSteerReq n d g wire spare s).InRange := by
  unfold execSteerReq
  dsimp only
  repeat' split
  all_goals simp [hs]

@[simp] theorem State.sendBack_threshold (s : State) (n : Nat) (d : TDirId) : (s.sendBack n d).threshold = s.threshold := by
  simp [State.sendBack]

theorem execSteerAck_inRange (n : StudId) (d : TDirId) (g : Fin 64) (wire : BitVec 7) (spare : BitVec 7) (flit : Nat) (s : State)
    (hs : ThreshInRange s.threshold) : (execSteerAck n d g wire spare flit s).InRange := by
  simp [execSteerAck, hs]

theorem execSteerReqResend_inRange (n : StudId) (d : TDirId) (s : State) (hs : ThreshInRange s.threshold) :
    (execSteerReqResend n d s).InRange := by
  simp [execSteerReqResend, hs]

theorem execRetireReq_inRange (n : StudId) (d : TDirId) (g : Fin 64) (cause : BitVec 5) (s : State)
    (hs : ThreshInRange s.threshold) : (execRetireReq n d g cause s).InRange := by
  unfold execRetireReq
  dsimp only
  repeat' split
  all_goals simp [hs]

theorem execRetireAck_inRange (n : StudId) (d : TDirId) (g : Fin 64) (flit : Nat) (s : State) (hs : ThreshInRange s.threshold) :
    (execRetireAck n d g flit s).InRange := by
  simp [execRetireAck, hs]

@[simp] theorem State.rotate_threshold (s : State) (n : Nat) (d : TDirId) : (s.rotate n d).threshold = s.threshold := by
  unfold State.rotate
  dsimp only
  repeat' split
  all_goals simp

theorem execRotationPeriod_inRange (n : StudId) (d : TDirId) (s : State) (hs : ThreshInRange s.threshold) :
    (execRotationPeriod n d s).InRange := by
  unfold execRotationPeriod
  split <;> simp [hs]

theorem execRotReq_inRange (n : StudId) (d : TDirId) (g : Fin 64) (s : State) (hs : ThreshInRange s.threshold) :
    (execRotReq n d g s).InRange := by
  unfold execRotReq
  dsimp only
  repeat' split
  all_goals simp [hs]

theorem execRotAck_inRange (n : StudId) (d : TDirId) (g : Fin 64) (flit : Nat) (s : State) (hs : ThreshInRange s.threshold) :
    (execRotAck n d g flit s).InRange := by
  simp [execRotAck, hs]

theorem execRotationTestEnd_inRange (n : StudId) (d : TDirId) (errs : List (Nat × Nat)) (s : State)
    (hs : ThreshInRange s.threshold) : (execRotationTestEnd n d errs s).InRange := by
  unfold execRotationTestEnd
  dsimp only
  split <;> simp [hs]

theorem State.begin_some_threshold {s : State} {n : Nat} {d : TDirId} {cls : Nat} {r : State × List (BitVec 128 × Bool)}
    (he : s.begin_ n d cls = some r) : r.1.threshold = s.threshold := by
  unfold State.begin_ at he
  split at he
  · cases he
  · extract_lets t u s' at he
    split at he
    · cases he
    · cases he
      exact State.setTdir_threshold ..

@[simp] theorem State.fillCls_threshold (s : State) (n : Nat) (d : TDirId) (cls cap : Nat) (u : List (BitVec 128 × Bool))
    (fuel : Nat) :
    (s.fillCls n d cls cap u fuel).1.threshold = s.threshold := by
  induction fuel generalizing s u with
  | zero => rfl
  | succ k ih =>
    unfold State.fillCls
    split
    · rfl
    · split
      · rfl
      · next he => rw [ih, State.begin_some_threshold he]

@[simp] theorem State.newFlits_threshold (s : State) (n : Nat) (d : TDirId) : (s.newFlits n d).1.threshold = s.threshold := by
  simp [State.newFlits]

@[simp] theorem State.flitTime_threshold (s : State) (n : Nat) (d : TDirId) : (s.flitTime n d).1.threshold = s.threshold := by
  unfold State.flitTime
  dsimp only
  split <;> simp

@[simp] theorem State.badOpcode_threshold (s : State) (u : BitVec 128) : (s.badOpcode u).threshold = s.threshold := by
  simp [State.badOpcode]

@[simp] theorem State.crossed_threshold (s : State) (d : TDirId) (u : BitVec 128) (rest : List (BitVec 128)) :
    (s.crossed d u rest).threshold = s.threshold := by
  unfold State.crossed
  split
  · simp
  · split
    · rfl
    · simp

@[simp] theorem State.takeMsgs_threshold (fuel : Nat) (s : State) (d : TDirId) (l : List (BitVec 128 × Bool)) (freed : Nat) :
    (State.takeMsgs fuel s d l freed).1.threshold = s.threshold := by
  induction fuel generalizing s l freed with
  | zero => rfl
  | succ n ih =>
    unfold State.takeMsgs
    grind [State.crossed_threshold]

@[simp] theorem State.tenonUnits_threshold (s : State) (n : Nat) (d : TDirId) (cls : Nat) (units : List (BitVec 128 × Bool)) :
    (s.tenonUnits n d cls units).threshold = s.threshold := by
  simp [State.tenonUnits]

@[simp] theorem State.takeFlits_threshold (s : State) (n : Nat) (d : TDirId) (f : List Flit) :
    (s.takeFlits n d f).threshold = s.threshold := by
  unfold State.takeFlits
  grind [foldl_threshold, leavesThresh_iff, State.tenonUnits_threshold, State.setTdir_threshold]

@[simp] theorem State.applySwitch_threshold (s : State) (n : Nat) (d : TDirId) (x : Switch) :
    (s.applySwitch n d x).threshold = s.threshold := by
  simp [State.applySwitch]

@[simp] theorem State.dueSwitches_threshold (fuel : Nat) (s : State) (n : Nat) (d : TDirId) :
    (State.dueSwitches fuel s n d).threshold = s.threshold := by
  induction fuel generalizing s with
  | zero => rfl
  | succ k ih =>
    unfold State.dueSwitches
    grind [State.applySwitch_threshold]

@[simp] theorem State.nextFlits_threshold (s : State) (n : Nat) (d : TDirId) : (s.nextFlits n d).1.threshold = s.threshold := by
  simp [State.nextFlits]

@[simp] theorem State.crossFlits_threshold (s : State) (n : Nat) (d : TDirId) : (s.crossFlits n d).threshold = s.threshold := by
  simp [State.crossFlits]

@[simp] theorem State.sillEnd_threshold (s : State) (n : Nat) (d : TDirId) : (s.sillEnd n d).threshold = s.threshold := by
  unfold State.sillEnd
  split <;> simp

theorem execTenonFlitReceived_inRange (n : StudId) (d : TDirId) (s : State) (hs : ThreshInRange s.threshold) :
    (execTenonFlitReceived n d s).InRange := by
  simp [execTenonFlitReceived, hs]

@[simp] theorem State.crossTo_threshold (fuel : Nat) (s : State) (n : Nat) (d : TDirId) (f : Nat) :
    (State.crossTo fuel s n d f).threshold = s.threshold := by
  induction fuel generalizing s with
  | zero => rfl
  | succ k ih => simp [State.crossTo, ih]

theorem execLayoutSwitch_inRange (n : StudId) (d : TDirId) (s : State) (hs : ThreshInRange s.threshold) :
    (execLayoutSwitch n d s).InRange := by
  unfold execLayoutSwitch
  split <;> simp [hs]

theorem execTenonParityError_inRange (n : StudId) (d : TDirId) (g : Fin 64) (seq : Fin 64) (flips : List (Fin 76 × Fin 8))
    (s : State) (hs : ThreshInRange s.threshold) : (execTenonParityError n d g seq flips s).InRange := by
  simp [execTenonParityError, hs]

theorem execNak_inRange (n : StudId) (d : TDirId) (seq _g : Fin 64) (_cnt : BitVec 7) (s : State) (hs : ThreshInRange s.threshold)
    : (execNak n d seq _g _cnt s).InRange := by
  unfold execNak
  dsimp only
  repeat' split
  all_goals simp [hs]

theorem execNakResendTimeout_inRange (n : StudId) (d : TDirId) (s : State) (hs : ThreshInRange s.threshold) :
    (execNakResendTimeout n d s).InRange := by
  unfold execNakResendTimeout
  dsimp only
  split <;> simp [hs]

theorem execCredit_inRange (n : StudId) (d : TDirId) (req snp rsp dat msg : BitVec 12) (s : State)
    (hs : ThreshInRange s.threshold) : (execCredit n d req snp rsp dat msg s).InRange := by
  simp [execCredit, hs]

theorem execClockLockLoss_inRange (n : StudId) (d : TDirId) (g : Fin 64) (s : State) (hs : ThreshInRange s.threshold) :
    (execClockLockLoss n d g s).InRange := by
  unfold execClockLockLoss
  split <;> simp [hs]

theorem execLeakPeriod_inRange (n : StudId) (d : TDirId) (s : State) (hs : ThreshInRange s.threshold) :
    (execLeakPeriod n d s).InRange := by
  simp [execLeakPeriod, hs]

theorem execSparePrbsError_inRange (n : StudId) (d : TDirId) (g : Fin 64) (wire : BitVec 7) (errs : Nat) (s : State)
    (hs : ThreshInRange s.threshold) : (execSparePrbsError n d g wire errs s).InRange := by
  simp [execSparePrbsError, hs]

theorem execSidebandCopyFailure_inRange (n : StudId) (d : TDirId) (copy : Fin 2) (s : State) (hs : ThreshInRange s.threshold) :
    (execSidebandCopyFailure n d copy s).InRange := by
  simp [execSidebandCopyFailure, hs]

theorem execPark_inRange (n : StudId) (s : State) (hs : ThreshInRange s.threshold) : (execPark n s).InRange := by
  simp [execPark, hs]

@[simp] theorem State.heldMsg_threshold (s : State) (m : Msg) : (s.heldMsg m).threshold = s.threshold := by
  simp [State.heldMsg]

@[simp] theorem State.runDeferred_threshold (s : State) (n : Nat) (d : TDirId) : (s.runDeferred n d).threshold = s.threshold := by
  simp [State.runDeferred]

@[simp] theorem State.unpark_threshold (s : State) (n : Nat) : (s.unpark n).threshold = s.threshold := by
  simp [State.unpark]

theorem execWake_inRange (n : StudId) (s : State) (hs : ThreshInRange s.threshold) : (execWake n s).InRange := by
  simp [execWake, hs]

@[simp] theorem State.tenonDown_threshold (s : State) (n : Nat) : (s.tenonDown n).threshold = s.threshold := by
  simp [State.tenonDown]

@[simp] theorem State.tenonTrains_threshold (s : State) (n : Nat) : (s.tenonTrains n).threshold = s.threshold := by
  simp [State.tenonTrains]

@[simp] theorem State.trainTenon_threshold (s : State) (n : Nat) (found : List Finding) (fails : Nat) (ident : Bool) :
    (s.trainTenon n found fails ident).1.threshold = s.threshold := by
  simp [State.trainTenon]

/-! ### Memory controllers -/

@[simp] theorem State.takeLine_threshold (s : State) (n : Nat) (acc : Nat) : (s.takeLine n acc).2.threshold = s.threshold := by
  induction n generalizing s acc with
  | zero => rfl
  | succ k ih => simp [State.takeLine, ih]

@[simp] theorem State.devCount_threshold (s : State) (c rho sub d : Nat) : (s.devCount c rho sub d).threshold = s.threshold := by
  unfold State.devCount
  dsimp only
  split <;> simp

@[simp] theorem State.decodeRead_threshold (s : State) (c x : Nat) (word : ReadWord) (pa : Nat) :
    (s.decodeRead c x word pa).1.threshold = s.threshold := by
  unfold State.decodeRead
  dsimp only
  repeat' split
  all_goals simp

@[simp] theorem State.decodeEdge_threshold (s : State) (q slot : Nat) (word : ReadWord) (pa : Nat) :
    (s.decodeEdge q slot word pa).1.threshold = s.threshold := by
  unfold State.decodeEdge
  split <;> simp

@[simp] theorem State.decodeQueued_threshold (s : State) (c x : Nat) (word : ReadWord) (pa : Nat) :
    (s.decodeQueued c x word pa).1.threshold = s.threshold := by
  simp [State.decodeQueued]

theorem execActSelection_inRange (ch : ChanId) (rank : Fin 16) (bank : Fin 64) (row : Nat) (s : State)
    (hs : ThreshInRange s.threshold) : (execActSelection ch rank bank row s).InRange := by
  simp [execActSelection, hs]

theorem execPageIdleClose_inRange (ch : ChanId) (rank : Fin 16) (bank : Fin 64) (s : State) (hs : ThreshInRange s.threshold) :
    (execPageIdleClose ch rank bank s).InRange := by
  simp [execPageIdleClose, hs]

@[simp] theorem State.bmrData_threshold (s : State) (b line : Nat) (d : Line × Bool) :
    (s.bmrData b line d).threshold = s.threshold := by
  unfold State.bmrData
  dsimp only
  split <;> simp

@[simp] theorem State.queueRead_threshold (s : State) (ch : Nat) (e : RdEnt) : (s.queueRead ch e).threshold = s.threshold := by
  simp [State.queueRead]

theorem execReadQueued_inRange (ch : ChanId) (src : Nat) (line : Nat) (s : State) (hs : ThreshInRange s.threshold) :
    (execReadQueued ch src line s).InRange := by
  unfold execReadQueued
  dsimp only
  repeat' split
  all_goals simp [hs]

theorem execWriteQueued_inRange (ch : ChanId) (b : BayId) (line : Nat) (s : State) (hs : ThreshInRange s.threshold) :
    (execWriteQueued ch b line s).InRange := by
  unfold execWriteQueued
  split <;> simp [hs]

theorem execReadDataReturn_inRange (ch : ChanId) (idx : Nat) (word : ReadWord) (s : State) (hs : ThreshInRange s.threshold) :
    (execReadDataReturn ch idx word s).InRange := by
  rw [execReadDataReturn]
  split
  · simpa using hs
  · rename_i e _
    split
    · simpa using hs
    · extract_lets s' pa
      have decoded : (s'.decodeQueued ch e.x word pa).1.threshold = s.threshold :=
        (State.decodeQueued_threshold ..).trans (State.threshold_setChan ..)
      generalize s'.decodeQueued ch e.x word pa = r at decoded ⊢
      obtain ⟨t, d, p, n⟩ := r
      simpa [show t.threshold = s.threshold from decoded] using hs

theorem execWriteBurstDone_inRange (ch : ChanId) (idx : Nat) (s : State) (hs : ThreshInRange s.threshold) :
    (execWriteBurstDone ch idx s).InRange := by
  unfold execWriteBurstDone
  dsimp only
  split <;> simp [hs]

@[simp] theorem State.column_threshold (s : State) (ch : Nat) (e : Cand) : (s.column ch e).threshold = s.threshold := by
  simp [State.column]

@[simp] theorem State.serveEdge_threshold (s : State) (ch sub : Nat) : (s.serveEdge ch sub).threshold = s.threshold := by
  unfold State.serveEdge
  dsimp only
  split <;> simp

theorem execCommandSlot_inRange (ch : ChanId) (sub : Fin 2) (s : State) (hs : ThreshInRange s.threshold) :
    (execCommandSlot ch sub s).InRange := by
  unfold execCommandSlot
  dsimp only
  repeat' split
  all_goals simp [hs]

theorem execBandwidthWindow_inRange (q : QuadId) (s : State) (hs : ThreshInRange s.threshold) :
    (execBandwidthWindow q s).InRange := by
  simp [execBandwidthWindow, hs]

theorem execRefreshDue_inRange (ch : ChanId) (rank : Fin 16) (s : State) (hs : ThreshInRange s.threshold) :
    (execRefreshDue ch rank s).InRange := by
  simp [execRefreshDue, hs]

theorem execMr4Read_inRange (ch : ChanId) (rank : Fin 16) (temp : Int) (s : State) (hs : ThreshInRange s.threshold) :
    (execMr4Read ch rank temp s).InRange := by
  simp [execMr4Read, hs]

theorem execModuleSensorRead_inRange (ch : ChanId) (dimm : Fin 2) (temps : List Int) (s : State) (hs : ThreshInRange s.threshold)
    : (execModuleSensorRead ch dimm temps s).InRange := by
  simp [execModuleSensorRead, hs]

theorem execPowerDownEntry_inRange (ch : ChanId) (rank : Fin 16) (s : State) (hs : ThreshInRange s.threshold) :
    (execPowerDownEntry ch rank s).InRange := by
  simp [execPowerDownEntry, hs]

theorem execSelfRefreshEntry_inRange (ch : ChanId) (rank : Fin 16) (s : State) (hs : ThreshInRange s.threshold) :
    (execSelfRefreshEntry ch rank s).InRange := by
  simp [execSelfRefreshEntry, hs]

theorem execDriftTrack_inRange (ch : ChanId) (s : State) (hs : ThreshInRange s.threshold) : (execDriftTrack ch s).InRange := by
  simp [execDriftTrack, hs]

theorem execDeviceCountLeak_inRange (ch : ChanId) (s : State) (hs : ThreshInRange s.threshold) :
    (execDeviceCountLeak ch s).InRange := by
  simp [execDeviceCountLeak, hs]

theorem execPatrolRead_inRange (ch : ChanId) (word : ReadWord) (s : State) (hs : ThreshInRange s.threshold) :
    (execPatrolRead ch word s).InRange := by
  unfold execPatrolRead
  dsimp only
  repeat' split
  all_goals simp [hs]

@[simp] theorem State.patrolFind_threshold (s : State) (b set w : Nat) (uncorr : Bool) :
    (s.patrolFind b set w uncorr).threshold = s.threshold := by
  unfold State.patrolFind
  dsimp only
  repeat' split
  all_goals simp

theorem execBayPatrolStep_inRange (b : BayId) (found : List (Fin 16 × Bool)) (s : State) (hs : ThreshInRange s.threshold) :
    (execBayPatrolStep b found s).InRange := by
  simp [execBayPatrolStep, hs]

@[simp] theorem State.zeroLines_threshold (s : State) (c x0 n : Nat) : (s.zeroLines c x0 n).threshold = s.threshold := by
  simp [State.zeroLines]

@[simp] theorem State.clearRegion_threshold (s : State) (ch region : Nat) :
    (s.clearRegion ch region).threshold = s.threshold := by
  simp [State.clearRegion]

theorem execClearRegion_inRange (ch : ChanId) (region : Nat) (s : State) (hs : ThreshInRange s.threshold) :
    (execClearRegion ch region s).InRange := by
  simp [execClearRegion, hs]

theorem execClearDone_inRange (ch : ChanId) (s : State) (hs : ThreshInRange s.threshold) : (execClearDone ch s).InRange := by
  simp [execClearDone, hs]

@[simp] theorem State.activate_threshold (s : State) (c : Nat) (r : TrainRes) (rate : Nat) :
    (s.activate c r rate).threshold = s.threshold := by
  simp [State.activate]

@[simp] theorem State.zeroEdges_threshold (s : State) (f : Nat) : (s.zeroEdges f).threshold = s.threshold := by
  simp [State.zeroEdges]

/-! ### Supply, caps and operating points -/

@[simp] theorem State.writeMap_threshold (s : State) : s.writeMap.threshold = s.threshold := by
  simp [State.writeMap]

@[simp] theorem State.applyFreq_threshold (s : State) (n : Nat) : (s.applyFreq n).threshold = s.threshold := by
  simp [State.applyFreq]

@[simp] theorem State.applyAll_threshold (s : State) : s.applyAll.threshold = s.threshold := by
  simp [State.applyAll]

@[simp] theorem State.giveGrant_threshold (s : State) (f grant : Nat) : (s.giveGrant f grant).threshold = s.threshold := by
  simp [State.giveGrant]

@[simp] theorem State.postCap_threshold (s : State) (cause : Nat) : (s.postCap cause).threshold = s.threshold := by
  simp [State.postCap]

@[simp] theorem State.postFrameCap_threshold (s : State) (f cause : Nat) : (s.postFrameCap f cause).threshold = s.threshold := by
  simp [State.postFrameCap]

@[simp] theorem State.capNotices_threshold (s : State) : s.capNotices.threshold = s.threshold := by
  simp [State.capNotices]

theorem execControlPeriod_inRange (power : List (Nat × Nat)) (s : State) (hs : ThreshInRange s.threshold) :
    (execControlPeriod power s).InRange := by
  simp [execControlPeriod, hs]

theorem execStudRaiseStep_inRange (f : FrameId) (power : List (Nat × Nat)) (s : State) (hs : ThreshInRange s.threshold) :
    (execStudRaiseStep f power s).InRange := by
  unfold execStudRaiseStep
  dsimp only
  repeat' split
  all_goals simp [hs]

theorem execVinSample_inRange (vin iin : Nat) (s : State) (hs : ThreshInRange s.threshold) :
    (execVinSample vin iin s).InRange := by
  simp [execVinSample, hs]

theorem execInputCurrentLimit_inRange (above : Bool) (long : Bool) (measured : Nat) (s : State) (hs : ThreshInRange s.threshold) :
    (execInputCurrentLimit above long measured s).InRange := by
  simp [execInputCurrentLimit, hs]

theorem execStretchCapRestore_inRange (s : State) (hs : ThreshInRange s.threshold) : (execStretchCapRestore s).InRange := by
  simp [execStretchCapRestore, hs]

@[simp] theorem State.quarterAll_threshold (s : State) (on : Bool) : (s.quarterAll on).threshold = s.threshold := by
  simp [State.quarterAll]

theorem execPwrfailNAssert_inRange (s : State) (hs : ThreshInRange s.threshold) : (execPwrfailNAssert s).InRange := by
  simp [execPwrfailNAssert, hs]

theorem execPwrfailNRelease_inRange (s : State) (hs : ThreshInRange s.threshold) : (execPwrfailNRelease s).InRange := by
  simp [execPwrfailNRelease, hs]

theorem execThrottleNAssert_inRange (s : State) (hs : ThreshInRange s.threshold) : (execThrottleNAssert s).InRange := by
  simp [execThrottleNAssert, hs]

theorem execThrottleNRelease_inRange (s : State) (hs : ThreshInRange s.threshold) : (execThrottleNRelease s).InRange := by
  simp [execThrottleNRelease, hs]

@[simp] theorem State.postCool_threshold (s : State) (c : Coolant) (cause : Nat) :
    (s.postCool c cause).threshold = s.threshold := by
  simp [State.postCool]

theorem execCoolantSample_inRange (src : Coolant) (ok : Bool) (val : Int) (s : State) (hs : ThreshInRange s.threshold) :
    (execCoolantSample src ok val s).InRange := by
  simp [execCoolantSample, hs]

theorem execCoolantStale_inRange (src : Coolant) (s : State) (hs : ThreshInRange s.threshold) :
    (execCoolantStale src s).InRange := by
  simp [execCoolantStale, hs]

theorem execCoolantFallbackExit_inRange (s : State) (hs : ThreshInRange s.threshold) : (execCoolantFallbackExit s).InRange := by
  simp [execCoolantFallbackExit, hs]

@[simp] theorem State.postThermal_threshold (s : State) (kind inst event : Nat) (t : Int) (mhz : Nat) :
    (s.postThermal kind inst event t mhz).threshold = s.threshold := by
  simp [State.postThermal]

@[simp] theorem State.setTherm_threshold (s : State) (n f : Nat) : (s.setTherm n f).threshold = s.threshold := by
  simp [State.setTherm]

@[simp] theorem State.thermStep_threshold (s : State) (n : Nat) : (s.thermStep n).threshold = s.threshold := by
  simp [State.thermStep]

theorem execCoolStep_inRange (s : State) (hs : ThreshInRange s.threshold) : (execCoolStep s).InRange := by
  simp [execCoolStep, hs]

theorem execThermalRefit_inRange (n : Fin 13) (tau1 tau2 gain coupling residual : Nat) (s : State)
    (hs : ThreshInRange s.threshold) : (execThermalRefit n tau1 tau2 gain coupling residual s).InRange := by
  simp [execThermalRefit, hs]

@[simp] theorem State.senseNotices_threshold (s : State) (kind inst mhz : Nat) (old new : Sense) :
    (s.senseNotices kind inst mhz old new).threshold = s.threshold := by
  simp [State.senseNotices]

@[simp] theorem State.sensorSample_threshold (s : State) (n : Nat) (temps : List Int) :
    (s.sensorSample n temps).threshold = s.threshold := by
  simp [State.sensorSample]

theorem threshInRange_reset : ThreshInRange 0x0A0A10 := by
  unfold ThreshInRange
  decide

/-- The rails go off, and the register is at its Reset value. -/
@[simp] theorem State.railsOff_inRange (s : State) : ThreshInRange s.railsOff.threshold := by
  have reset : s.railsOff.threshold = 0x0A0A10 := by rw [State.railsOff]
  rw [reset]
  exact threshInRange_reset

theorem execThermtrip_inRange (s : State) (hs : ThreshInRange s.threshold) : (execThermtrip s).InRange := by
  simp [execThermtrip, hs]

theorem execRefclkLoss_inRange (s : State) (hs : ThreshInRange s.threshold) : (execRefclkLoss s).InRange := by
  simp [execRefclkLoss, hs]

/-! ### Core power states -/

theorem execDomainLowWake_inRange (d : DomId) (s : State) (hs : ThreshInRange s.threshold) : (execDomainLowWake d s).InRange := by
  simp [execDomainLowWake, hs]

theorem execDomainLowReturn_inRange (d : DomId) (s : State) (hs : ThreshInRange s.threshold) :
    (execDomainLowReturn d s).InRange := by
  simp [execDomainLowReturn, hs]

theorem execArrayRetainEntry_inRange (b : BayId) (s : State) (hs : ThreshInRange s.threshold) :
    (execArrayRetainEntry b s).InRange := by
  simp [execArrayRetainEntry, hs]

@[simp] theorem State.pllStop_threshold (s : State) (n : Nat) : (s.pllStop n).threshold = s.threshold := by
  simp [State.pllStop]

@[simp] theorem State.updateStud_threshold (s : State) (n : Nat) : (s.updateStud n).threshold = s.threshold := by
  simp [State.updateStud]

@[simp] theorem State.studUp_threshold (s : State) (n : Nat) : (s.studUp n).threshold = s.threshold := by
  simp [State.studUp]

@[simp] theorem State.wakeCore_threshold (s : State) (c : Nat) : (s.wakeCore c).threshold = s.threshold := by
  simp [State.wakeCore]

@[simp] theorem State.releaseCore_threshold (s : State) (c : Nat) : (s.releaseCore c).threshold = s.threshold := by
  simp [State.releaseCore]

theorem execIdlePromotionSleep_inRange (c : CoreId) (s : State) (hs : ThreshInRange s.threshold) :
    (execIdlePromotionSleep c s).InRange := by
  simp [execIdlePromotionSleep, hs]

theorem execIdlePromotionDeep_inRange (c : CoreId) (s : State) (hs : ThreshInRange s.threshold) :
    (execIdlePromotionDeep c s).InRange := by
  simp [execIdlePromotionDeep, hs]

@[simp] theorem State.keepLine_threshold (s : State) (c line : Nat) : (s.keepLine c line).threshold = s.threshold := by
  unfold State.keepLine
  split
  · simp
  · split <;> simp

@[simp] theorem State.keepAll_threshold (s : State) (c : Nat) : (s.keepAll c).threshold = s.threshold := by
  simp [State.keepAll]

@[simp] theorem State.coreResetEnd_threshold (s : State) (c : Nat) : (s.coreResetEnd c).threshold = s.threshold := by
  simp [State.coreResetEnd]

theorem execDeepEntryStep_inRange (c : CoreId) (ap : AbortPoint) (s : State) (hs : ThreshInRange s.threshold) :
    (execDeepEntryStep c ap s).InRange := by
  unfold execDeepEntryStep
  split <;> simp [hs]

theorem execWakeEvent_inRange (c : CoreId) (s : State) (hs : ThreshInRange s.threshold) : (execWakeEvent c s).InRange := by
  unfold execWakeEvent
  dsimp only
  repeat' split
  all_goals simp [hs]

/-! ### Plumb's commands in common -/

@[simp] theorem State.ok_threshold (s : State) (payload : List Byte) : (s.ok payload).1.threshold = s.threshold := by
  simp [State.ok]

@[simp] theorem State.no_threshold (s : State) (status detail : Nat) : (s.no status detail).1.threshold = s.threshold := by
  simp [State.no]

@[simp] theorem State.runs_threshold (s : State) : s.runs.1.threshold = s.threshold := by
  simp [State.runs]

/-- The command is refused with the state as it was, or goes on. -/
@[simp] theorem State.unless_threshold (s : State) (bad : Option Nat) (go : Ans) (hg : go.1.threshold = s.threshold) :
    (s.unless bad go).1.threshold = s.threshold := by
  unfold State.unless
  split
  · rfl
  · exact hg

@[simp] theorem State.countEnd_threshold (s : State) (status : Nat) : (s.countEnd status).threshold = s.threshold := by
  simp [State.countEnd]

@[simp] theorem State.finalReply_threshold (s : State) (j : Job) (status detail : Nat) (payload : List Byte) :
    (s.finalReply j status detail payload).threshold = s.threshold := by
  simp [State.finalReply]

@[simp] theorem State.accepted_threshold (s : State) (j : Job) : (s.accepted j).threshold = s.threshold := by
  simp [State.accepted]

@[simp] theorem State.refuseTake_threshold (s : State) (t : TInst) (op : Nat) (p : CmdPkt) (status detail : Nat) :
    (s.refuseTake t op p status detail).threshold = s.threshold := by
  simp [State.refuseTake]

/-! ### Information and mode commands -/

@[simp] theorem State.cmdGetInfo_threshold (s : State) (j : Job) : (s.cmdGetInfo j).1.threshold = s.threshold := by
  simp [State.cmdGetInfo]

@[simp] theorem State.cmdGetStatus_threshold (s : State) (j : Job) : (s.cmdGetStatus j).1.threshold = s.threshold := by
  unfold State.cmdGetStatus
  dsimp only
  repeat' split
  all_goals simp

@[simp] theorem State.cmdEcho_threshold (s : State) (j : Job) : (s.cmdEcho j).1.threshold = s.threshold := by
  simp [State.cmdEcho]

@[simp] theorem State.cmdSetMode_threshold (s : State) (j : Job) : (s.cmdSetMode j).1.threshold = s.threshold := by
  simp [State.cmdSetMode]

@[simp] theorem State.finSetMode_threshold (s : State) (j : Job) (fin : FinishIn) :
    (s.finSetMode j fin).1.threshold = s.threshold := by
  simp [State.finSetMode]

@[simp] theorem State.cmdGetMode_threshold (s : State) : s.cmdGetMode.1.threshold = s.threshold := by
  simp [State.cmdGetMode]

/-! ### Scribe -/

@[simp] theorem State.writeImage_threshold (s : State) (cause : Nat) : (s.writeImage cause).threshold = s.threshold := by
  simp [State.writeImage]

@[simp] theorem State.postScribe_threshold (s : State) (event cause data : Nat) :
    (s.postScribe event cause data).threshold = s.threshold := by
  simp [State.postScribe]

@[simp] theorem State.flushEnd_threshold (s : State) (ok : Bool) : (s.flushEnd ok).threshold = s.threshold := by
  unfold State.flushEnd
  dsimp only
  repeat' split
  all_goals simp

@[simp] theorem State.cmdScribeFreeze_threshold (s : State) (j : Job) : (s.cmdScribeFreeze j).1.threshold = s.threshold := by
  simp [State.cmdScribeFreeze]

@[simp] theorem State.cmdScribeThaw_threshold (s : State) : s.cmdScribeThaw.1.threshold = s.threshold := by
  simp [State.cmdScribeThaw]

@[simp] theorem State.cmdScribeRead_threshold (s : State) (j : Job) : (s.cmdScribeRead j).1.threshold = s.threshold := by
  unfold State.cmdScribeRead
  split <;> simp

@[simp] theorem State.cmdScribeClear_threshold (s : State) (j : Job) : (s.cmdScribeClear j).1.threshold = s.threshold := by
  unfold State.cmdScribeClear
  dsimp only
  repeat' split
  all_goals simp

@[simp] theorem State.cmdScribeFlush_threshold (s : State) : s.cmdScribeFlush.1.threshold = s.threshold := by
  simp [State.cmdScribeFlush]

theorem execScribeSample_inRange (rec_ : Word) (quantity : Nat) (val : Int) (s : State) (hs : ThreshInRange s.threshold) :
    (execScribeSample rec_ quantity val s).InRange := by
  unfold execScribeSample
  repeat' split
  all_goals simp [hs]

theorem execScribeFreezeExpiry_inRange (s : State) (hs : ThreshInRange s.threshold) : (execScribeFreezeExpiry s).InRange := by
  simp [execScribeFreezeExpiry, hs]

theorem execScribePeriodicFlush_inRange (s : State) (hs : ThreshInRange s.threshold) : (execScribePeriodicFlush s).InRange := by
  simp [execScribePeriodicFlush, hs]

theorem execRepairMapJournalWrite_inRange (s : State) (hs : ThreshInRange s.threshold) :
    (execRepairMapJournalWrite s).InRange := by
  simp [execRepairMapJournalWrite, hs]

/-! ### Bay commands -/

@[simp] theorem State.beginAll_threshold (s : State) (bays : List Nat) (w : Nat → BayWork) :
    (s.beginAll bays w).threshold = s.threshold := by
  simp [State.beginAll]

@[simp] theorem State.cmdBayLock_threshold (s : State) (j : Job) : (s.cmdBayLock j).1.threshold = s.threshold := by
  simp [State.cmdBayLock]

@[simp] theorem State.endAll_threshold (s : State) (j : Job) : (s.endAll j).threshold = s.threshold := by
  simp [State.endAll]

@[simp] theorem State.finBayLock_threshold (s : State) (j : Job) : (s.finBayLock j).1.threshold = s.threshold := by
  simp [State.finBayLock]

@[simp] theorem State.maskCheck_threshold (s : State) (t : TInst) (m off : Nat) (rsvd : Option Nat) (go : Ans)
    (hg : go.1.threshold = s.threshold) : (s.maskCheck t m off rsvd go).1.threshold = s.threshold := by
  unfold State.maskCheck
  grind [State.no_threshold, State.unless_threshold]

@[simp] theorem State.cmdBayUnlock_threshold (s : State) (j : Job) : (s.cmdBayUnlock j).1.threshold = s.threshold := by
  simp [State.cmdBayUnlock]

@[simp] theorem State.cmdBench_threshold (s : State) (j : Job) : (s.cmdBench j).1.threshold = s.threshold := by
  simp [State.cmdBench]

@[simp] theorem State.finBench_threshold (s : State) (j : Job) : (s.finBench j).1.threshold = s.threshold := by
  simp [State.finBench]

@[simp] theorem State.benchHold_threshold (s : State) (b : Nat) : (s.benchHold b).threshold = s.threshold := by
  simp [State.benchHold]

@[simp] theorem State.cmdBayFlush_threshold (s : State) (j : Job) : (s.cmdBayFlush j).1.threshold = s.threshold := by
  simp [State.cmdBayFlush]

@[simp] theorem State.finBayFlush_threshold (s : State) (j : Job) : (s.finBayFlush j).1.threshold = s.threshold := by
  simp [State.finBayFlush]

@[simp] theorem State.cmdBayInvalidate_threshold (s : State) (j : Job) : (s.cmdBayInvalidate j).1.threshold = s.threshold := by
  simp [State.cmdBayInvalidate]

@[simp] theorem State.finBayInvalidate_threshold (s : State) (j : Job) : (s.finBayInvalidate j).1.threshold = s.threshold := by
  simp [State.finBayInvalidate]

@[simp] theorem State.markBusy_threshold (s : State) (j : Job) (on : Bool) : (s.markBusy j on).threshold = s.threshold := by
  simp [State.markBusy]

/-! ### Power and thermal commands -/

@[simp] theorem State.cmdSetPowerCap_threshold (s : State) (j : Job) : (s.cmdSetPowerCap j).1.threshold = s.threshold := by
  simp [State.cmdSetPowerCap]

@[simp] theorem State.cmdGetPower_threshold (s : State) (j : Job) : (s.cmdGetPower j).1.threshold = s.threshold := by
  simp [State.cmdGetPower]

@[simp] theorem State.cmdSetPerf_threshold (s : State) (j : Job) : (s.cmdSetPerf j).1.threshold = s.threshold := by
  simp [State.cmdSetPerf]

@[simp] theorem State.cmdSetCooling_threshold (s : State) (j : Job) : (s.cmdSetCooling j).1.threshold = s.threshold := by
  simp [State.cmdSetCooling]

@[simp] theorem State.cmdGetThermal_threshold (s : State) (j : Job) : (s.cmdGetThermal j).1.threshold = s.threshold := by
  simp [State.cmdGetThermal]

@[simp] theorem State.cmdSetDomain_threshold (s : State) (j : Job) : (s.cmdSetDomain j).1.threshold = s.threshold := by
  unfold State.cmdSetDomain
  dsimp only
  repeat' split
  all_goals simp

@[simp] theorem State.arrayOff_threshold (s : State) (b : Nat) : (s.arrayOff b).threshold = s.threshold := by
  simp [State.arrayOff]

@[simp] theorem State.finSetDomain_threshold (s : State) (j : Job) : (s.finSetDomain j).1.threshold = s.threshold := by
  simp [State.finSetDomain]

@[simp] theorem State.persistent_inRange (s : State) : ThreshInRange s.persistent.threshold := by
  have reset : s.persistent.threshold = 0x0A0A10 := by rw [State.persistent]
  rw [reset]
  exact threshInRange_reset

@[simp] theorem State.enterOff_inRange (s : State) : ThreshInRange s.enterOff.threshold := by
  simp [State.enterOff]

/-! ### Memory-integrity commands -/

@[simp] theorem State.cmdScrub_threshold (s : State) (j : Job) : (s.cmdScrub j).1.threshold = s.threshold := by
  simp [State.cmdScrub]

@[simp] theorem State.scanLine_threshold (s : State) (f la : Nat) (word : ReadWord) (a : Scan) :
    (s.scanLine f la word a).1.threshold = s.threshold := by
  unfold State.scanLine
  split <;> simp

@[simp] theorem State.scan_threshold (s : State) (f la len : Nat) (found : List (Nat × ReadWord)) :
    (s.scan f la len found).1.threshold = s.threshold := by
  simp [State.scan]

@[simp] theorem State.finScrub_threshold (s : State) (j : Job) (fin : FinishIn) :
    (s.finScrub j fin).1.threshold = s.threshold := by
  simp [State.finScrub]

@[simp] theorem State.abortScrub_threshold (s : State) (j : Job) : (s.abortScrub j).1.threshold = s.threshold := by
  simp [State.abortScrub]

@[simp] theorem State.plant_threshold (s : State) (tgt typ cnt f inst pa : Nat) :
    (s.plant tgt typ cnt f inst pa).1.threshold = s.threshold := by
  unfold State.plant
  dsimp only
  repeat' split
  all_goals simp

@[simp] theorem State.cmdInject_threshold (s : State) (j : Job) : (s.cmdInject j).1.threshold = s.threshold := by
  simp [State.cmdInject]

@[simp] theorem State.cmdSelftest_threshold (s : State) (j : Job) : (s.cmdSelftest j).1.threshold = s.threshold := by
  simp [State.cmdSelftest]

@[simp] theorem State.cmdErrorLog_threshold (s : State) (j : Job) : (s.cmdErrorLog j).1.threshold = s.threshold := by
  simp [State.cmdErrorLog]

@[simp] theorem State.cmdTrainSave_threshold (s : State) (j : Job) : (s.cmdTrainSave j).1.threshold = s.threshold := by
  simp [State.cmdTrainSave]

@[simp] theorem State.finTrainSave_threshold (s : State) (j : Job) (fin : FinishIn) :
    (s.finTrainSave j fin).1.threshold = s.threshold := by
  simp [State.finTrainSave]

/-! ### Purlin links -/

@[simp] theorem State.setPurlin_threshold (s : State) (p : Nat) (l : Purlin) : (s.setPurlin p l).threshold = s.threshold := by
  simp [State.setPurlin]

@[simp] theorem State.sendDown_threshold (s : State) (f : Nat) : (s.sendDown f).threshold = s.threshold := by
  simp [State.sendDown]

@[simp] theorem State.refuseJoin_threshold (s : State) (f reason : Nat) : (s.refuseJoin f reason).threshold = s.threshold := by
  simp [State.refuseJoin]

@[simp] theorem State.linkLost_threshold (s : State) (p : Nat) : (s.linkLost p).threshold = s.threshold := by
  simp [State.linkLost]

@[simp] theorem State.domainDown_threshold (s : State) (p : Nat) : (s.domainDown p).threshold = s.threshold := by
  unfold State.domainDown
  dsimp only
  repeat' split
  all_goals simp

theorem execDomainDown_inRange (p : PortId) (s : State) (hs : ThreshInRange s.threshold) : (execDomainDown p s).InRange := by
  simp [execDomainDown, hs]

theorem execPurlinLinkLost_inRange (p : PortId) (s : State) (hs : ThreshInRange s.threshold) :
    (execPurlinLinkLost p s).InRange := by
  simp [execPurlinLinkLost, hs]

@[simp] theorem State.sendMgmt_threshold (s : State) (p : Nat) (m : Mgmt) : (s.sendMgmt p m).threshold = s.threshold := by
  simp [State.sendMgmt]

@[simp] theorem State.floodMgmt_threshold (s : State) (ports : List Nat) (m : PortId → Mgmt) :
    (s.floodMgmt ports m).threshold = s.threshold := by
  simp [State.floodMgmt]

@[simp] theorem State.announce_threshold (s : State) (f p : Nat) : (s.announce f p).threshold = s.threshold := by
  simp [State.announce]

@[simp] theorem State.identity_threshold (s : State) (p : Nat) (u : IdUnit) : (s.identity p u).threshold = s.threshold := by
  simp [State.identity]

theorem execIdentityUnit_inRange (p : PortId) (u : IdUnit) (s : State) (hs : ThreshInRange s.threshold) :
    (execIdentityUnit p u s).InRange := by
  simp [execIdentityUnit, hs]

@[simp] theorem State.giveRoles_threshold (s : State) (f : Nat) (members : List Nat) (ports earlier : List Nat) :
    (s.giveRoles f members ports earlier).threshold = s.threshold := by
  induction ports generalizing s earlier with
  | nil => rfl
  | cons p r ih => simp [State.giveRoles, ih]

@[simp] theorem State.sliceReport_threshold (s : State) (f n : Nat) : (s.sliceReport f n).threshold = s.threshold := by
  simp [State.sliceReport]

@[simp] theorem State.openDomain_threshold (s : State) (f : Nat) (v : JoinView) : (s.openDomain f v).threshold = s.threshold := by
  simp [State.openDomain]

@[simp] theorem State.joinTimes_threshold (s : State) (f : Nat) : (s.joinTimes f).threshold = s.threshold := by
  simp [State.joinTimes]

@[simp] theorem State.joinGo_threshold (s : State) (f : Nat) : (s.joinGo f).threshold = s.threshold := by
  simp [State.joinGo]

theorem execJoin_inRange (f : FrameId) (s : State) (hs : ThreshInRange s.threshold) : (execJoin f s).InRange := by
  simp [execJoin, hs]

theorem execJoinDeadline_inRange (f : FrameId) (s : State) (hs : ThreshInRange s.threshold) : (execJoinDeadline f s).InRange := by
  simp [execJoinDeadline, hs]

theorem execTimeExchange_inRange (f : FrameId) (s : State) (hs : ThreshInRange s.threshold) : (execTimeExchange f s).InRange := by
  unfold execTimeExchange
  split <;> simp [hs]

@[simp] theorem State.timeAnswer_threshold (s : State) (p : Nat) (t mine : BitVec 60) :
    (s.timeAnswer p t mine).threshold = s.threshold := by
  simp [State.timeAnswer]

@[simp] theorem State.mgmtIn_threshold (s : State) (m : Mgmt) : (s.mgmtIn m).threshold = s.threshold := by
  unfold State.mgmtIn
  split <;> simp

theorem execMgmt_inRange (m : Mgmt) (s : State) (hs : ThreshInRange s.threshold) : (execMgmt m s).InRange := by
  simp [execMgmt, hs]

-- The hart that an MSI names is looked up by numerals too large for the kernel to count down, so the look-up is held back.
@[simp] theorem State.fromLink_threshold (s : State) (p : Nat) (u : BitVec 128) (rest : List (BitVec 128)) :
    (s.fromLink p u rest).threshold = s.threshold := by
  obtain ⟨core, hcore⟩ : ∃ core, core = State.coreOfHart := ⟨_, rfl⟩
  rw [State.fromLink, ← hcore]
  split
  · extract_lets m₀ m f m'
    split
    · exact State.domainDown_threshold ..
    split
    · exact State.route_threshold ..
    split
    · exact State.mgmtIn_threshold ..
    split
    · split
      · exact State.msiOn_threshold ..
      · exact State.noHart_threshold ..
    split
    · exact State.send_threshold ..
    · exact State.reservedAgent_threshold ..
  · exact State.badOpcode_threshold ..

@[simp] theorem State.purlinTake_threshold (fuel : Nat) (s : State) (p : Nat) (l : List (BitVec 128)) :
    (State.purlinTake fuel s p l).1.threshold = s.threshold := by
  induction fuel generalizing s l with
  | zero => rfl
  | succ n ih =>
    unfold State.purlinTake
    grind [State.fromLink_threshold, State.setPurlin_threshold]

@[simp] theorem State.purlinReplay_threshold (s : State) (p ack : Nat) : (s.purlinReplay p ack).threshold = s.threshold := by
  simp [State.purlinReplay]

@[simp] theorem State.purlinTick_threshold (s : State) (p : Nat) : (s.purlinTick p).threshold = s.threshold := by
  simp [State.purlinTick]

@[simp] theorem State.purlinUnits_threshold (s : State) (p kind : Nat) (units : List (BitVec 128)) :
    (s.purlinUnits p kind units).threshold = s.threshold := by
  simp [State.purlinUnits]

theorem execPurlinFlitReceived_inRange (p : PortId) (h : PFlitHdr) (units : List (BitVec 128)) (fixed : Nat) (s : State)
    (hs : ThreshInRange s.threshold) : (execPurlinFlitReceived p h units fixed s).InRange := by
  simp [execPurlinFlitReceived, hs]

theorem execPurlinFlitError_inRange (p : PortId) (s : State) (hs : ThreshInRange s.threshold) :
    (execPurlinFlitError p s).InRange := by
  simp [execPurlinFlitError, hs]

theorem execPurlinNak_inRange (p : PortId) (ack : BitVec 10) (s : State) (hs : ThreshInRange s.threshold) :
    (execPurlinNak p ack s).InRange := by
  simp [execPurlinNak, hs]

@[simp] theorem State.fastRetrain_threshold (s : State) (p : Nat) (ok : Bool) : (s.fastRetrain p ok).threshold = s.threshold := by
  simp [State.fastRetrain]

theorem execFastRetrain_inRange (p : PortId) (ok : Bool) (s : State) (hs : ThreshInRange s.threshold) :
    (execFastRetrain p ok s).InRange := by
  simp [execFastRetrain, hs]

/-! ### Ridge ports -/

@[simp] theorem State.setRidge_threshold (s : State) (p : Nat) (r : Ridge) : (s.setRidge p r).threshold = s.threshold := by
  simp [State.setRidge]

@[simp] theorem State.nodeCheck_threshold (s : State) (f : Nat) : (s.nodeCheck f).threshold = s.threshold := by
  simp [State.nodeCheck]

@[simp] theorem State.pumpNode_inRange (s : State) (f : Nat) (hs : ThreshInRange s.threshold) :
    ThreshInRange (s.pumpNode f).threshold := by
  unfold State.pumpNode
  exact foldl_inRange _ (by simp +contextual) _ _ (foldl_inRange _ (by simp +contextual) _ _ hs)

@[simp] theorem State.nodeAnswer_threshold (s : State) (f p : Nat) : (s.nodeAnswer f p).threshold = s.threshold := by
  unfold State.nodeAnswer
  dsimp only
  split <;> simp

@[simp] theorem State.nodeSettle_threshold (s : State) (f : Nat) : (s.nodeSettle f).threshold = s.threshold := by
  unfold State.nodeSettle
  dsimp only
  split <;> simp

@[simp] theorem State.ridgeComesUp_threshold (s : State) (p : Nat) (r : Ridge) :
    (s.ridgeComesUp p r).threshold = s.threshold := by
  simp [State.ridgeComesUp]

theorem execLinkIdent_inRange (p : PortId) (role lanes rev : Nat) (req pst rsp : BitVec 16) (s : State)
    (hs : ThreshInRange s.threshold) : (execLinkIdent p role lanes rev req pst rsp s).InRange := by
  simp [execLinkIdent, hs]

theorem execLinkAck_inRange (p : PortId) (ack : BitVec 10) (nak : Bool) (req pst rsp : BitVec 16) (s : State)
    (hs : ThreshInRange s.threshold) : (execLinkAck p ack nak req pst rsp s).InRange := by
  simp [execLinkAck, hs]

theorem execNodeAssign_inRange (p : PortId) (id : BitVec 16) (s : State) (hs : ThreshInRange s.threshold) :
    (execNodeAssign p id s).InRange := by
  simp [execNodeAssign, hs]

theorem execNodeConfirm_inRange (p : PortId) (_id : BitVec 16) (_refused : Bool) (s : State) (hs : ThreshInRange s.threshold) :
    (execNodeConfirm p _id _refused s).InRange := by
  simp [execNodeConfirm, hs]

@[simp] theorem State.ridgeLog_threshold (s : State) (p : Nat) (pa : Option Nat) : (s.ridgeLog p pa).threshold = s.threshold := by
  simp [State.ridgeLog]

@[simp] theorem State.ridgeWriteDone_inRange (s : State) (c i : Nat) (sl : Slot) (hs : ThreshInRange s.threshold) :
    ThreshInRange (s.ridgeWriteDone c i sl).threshold := by
  unfold State.ridgeWriteDone
  split <;> simp [hs]

@[simp] theorem State.ridgeCore_inRange (s : State) (p : Nat) (q : OutReq) (got : Option (List Byte × Bool))
    (hs : ThreshInRange s.threshold) : ThreshInRange (s.ridgeCore p q got).threshold := by
  unfold State.ridgeCore
  grind [State.ridgeLog_threshold, State.goOn_inRange, State.ncGot_inRange, State.ridgeWriteDone_inRange, State.threshold_setCore,
    State.slotErr_inRange]

@[simp] theorem State.ridgeDone_inRange (s : State) (p : Nat) (q : OutReq) (got : Option (List Byte × Bool))
    (hs : ThreshInRange s.threshold) : ThreshInRange (s.ridgeDone p q got).threshold := by
  simp [State.ridgeDone, hs]

@[simp] theorem State.ridgeFixed_threshold (s : State) (p : Nat) (pkt : RPkt) : (s.ridgeFixed p pkt).threshold = s.threshold := by
  simp [State.ridgeFixed]

theorem execResp_inRange (p : PortId) (pkt : RPkt) (s : State) (hs : ThreshInRange s.threshold) : (execResp p pkt s).InRange := by
  unfold execResp
  dsimp only
  repeat' split
  all_goals simp [hs]

@[simp] theorem State.ridgeTimeout_inRange (s : State) (p tag : Nat) (hs : ThreshInRange s.threshold) :
    ThreshInRange (s.ridgeTimeout p tag).threshold := by
  unfold State.ridgeTimeout
  dsimp only
  split <;> simp [hs]

theorem execRidgeRequestTimeout_inRange (p : PortId) (tag : Nat) (s : State) (hs : ThreshInRange s.threshold) :
    (execRidgeRequestTimeout p tag s).InRange := by
  simp [execRidgeRequestTimeout, hs]

theorem execRidgeTagQuarantineEnd_inRange (p : PortId) (tag : Nat) (s : State) (hs : ThreshInRange s.threshold) :
    (execRidgeTagQuarantineEnd p tag s).InRange := by
  simp [execRidgeTagQuarantineEnd, hs]

@[simp] theorem State.ridgeFail_inRange (s : State) (p : Nat) (hs : ThreshInRange s.threshold) :
    ThreshInRange (s.ridgeFail p).threshold := by
  unfold State.ridgeFail
  dsimp only
  apply State.pumpNode_inRange
  rw [State.nodeSettle_threshold]
  exact foldl_inRange _ (by simp +contextual) _ _ (by simpa using hs)

theorem execRidgeCodewordError_inRange (p : PortId) (retrainOk : Bool) (s : State) (hs : ThreshInRange s.threshold) :
    (execRidgeCodewordError p retrainOk s).InRange := by
  simp [execRidgeCodewordError, hs]

@[simp] theorem State.ridgeAnswer_threshold (s : State) (p : Nat) (pkt : RPkt) (status : Nat) :
    (s.ridgeAnswer p pkt status).threshold = s.threshold := by
  simp [State.ridgeAnswer]

@[simp] theorem State.ridgeReject_threshold (s : State) (p : Nat) (pkt : RPkt) (op status : Nat) :
    (s.ridgeReject p pkt op status).threshold = s.threshold := by
  simp [State.ridgeReject]

@[simp] theorem State.ridgeRequest_inRange (s : State) (p : Nat) (pkt : RPkt) (op : Nat) (hs : ThreshInRange s.threshold) :
    ThreshInRange (s.ridgeRequest p pkt op).threshold := by
  unfold State.ridgeRequest
  dsimp only
  repeat' split
  all_goals simp [hs]

theorem execRidgeRead_inRange (p : PortId) (pkt : RPkt) (s : State) (hs : ThreshInRange s.threshold) :
    (execRidgeRead p pkt s).InRange := by
  simp [execRidgeRead, hs]

theorem execRidgeWrite_inRange (p : PortId) (pkt : RPkt) (s : State) (hs : ThreshInRange s.threshold) :
    (execRidgeWrite p pkt s).InRange := by
  simp [execRidgeWrite, hs]

theorem execWritePosted_inRange (p : PortId) (pkt : RPkt) (s : State) (hs : ThreshInRange s.threshold) :
    (execWritePosted p pkt s).InRange := by
  simp [execWritePosted, hs]

theorem execRidgeAtomic_inRange (p : PortId) (pkt : RPkt) (s : State) (hs : ThreshInRange s.threshold) :
    (execRidgeAtomic p pkt s).InRange := by
  simp [execRidgeAtomic, hs]

theorem execRidgeFence_inRange (p : PortId) (pkt : RPkt) (s : State) (hs : ThreshInRange s.threshold) :
    (execRidgeFence p pkt s).InRange := by
  simp [execRidgeFence, hs]

/-! ### Root ports of PCIe and CXL -/

@[simp] theorem State.portDrop_threshold (s : State) (p : Nat) : (s.portDrop p).threshold = s.threshold := by
  simp [State.portDrop]

@[simp] theorem State.inbReject_threshold (s : State) (p root tag : Nat) (posted : Bool) :
    (s.inbReject p root tag posted).threshold = s.threshold := by
  simp [State.inbReject]

@[simp] theorem State.rootWake_threshold (s : State) (p i : Nat) : (s.rootWake p i).threshold = s.threshold := by
  simp [State.rootWake]

@[simp] theorem State.ioFinish_inRange (s : State) (p : Nat) (t : Tlp) (r : IoAns) (hs : ThreshInRange s.threshold) :
    ThreshInRange (s.ioFinish p t r).threshold := by
  unfold State.ioFinish
  repeat' split
  all_goals simp [hs]

@[simp] theorem State.ioServe_inRange (s : State) (p n : Nat) (hs : ThreshInRange s.threshold) :
    ThreshInRange (s.ioServe p n).threshold := by
  induction n generalizing s with
  | zero => exact hs
  | succ n ih =>
    unfold State.ioServe
    grind [State.ioDebug_threshold, State.ioTranslate_threshold, State.threshold_setPort, State.ioFinish_inRange]

theorem execInboundRequest_inRange (p : PortId) (t : Tlp) (s : State) (hs : ThreshInRange s.threshold) :
    (execInboundRequest p t s).InRange := by
  simp [execInboundRequest, hs]

theorem execIntxMessage_inRange (p : PortId) (root : Fin 8) (pin : Fin 4) (assert_ : Bool) (s : State)
    (hs : ThreshInRange s.threshold) : (execIntxMessage p root pin assert_ s).InRange := by
  simp [execIntxMessage, hs]

@[simp] theorem State.ioDone_inRange (s : State) (p : Nat) (q : OutReq) (ur : Bool) (got : Option (List Byte × Bool))
    (hs : ThreshInRange s.threshold) : ThreshInRange (s.ioDone p q ur got).threshold := by
  simp [State.ioDone, hs]

@[simp] theorem State.unexpected_inRange (s : State) (p i tag n : Nat) (last : Bool) (hs : ThreshInRange s.threshold) :
    ThreshInRange (s.unexpected p i tag n last).threshold := by
  simp [State.unexpected, hs]

theorem execCompletion_inRange (p : PortId) (root : Fin 8) (tag : Nat) (st : CplStatus) (ep : Bool) (data : List Byte) (s : State)
    (hs : ThreshInRange s.threshold) : (execCompletion p root tag st ep data s).InRange := by
  unfold execCompletion
  grind [Res.inRange_next, State.unexpected_inRange, State.recAdd_threshold, State.threshold_setPort, State.pumpNode_inRange,
    State.ioDone_inRange]

@[simp] theorem State.portTimeout_inRange (s : State) (p i tag : Nat) (hs : ThreshInRange s.threshold) :
    ThreshInRange (s.portTimeout p i tag).threshold := by
  unfold State.portTimeout
  dsimp only
  split <;> simp [hs]

theorem execCompletionTimeout_inRange (p : PortId) (root : Fin 8) (tag : Nat) (s : State) (hs : ThreshInRange s.threshold) :
    (execCompletionTimeout p root tag s).InRange := by
  simp [execCompletionTimeout, hs]

theorem execPcieTagQuarantineEnd_inRange (p : PortId) (root : Fin 8) (tag : Nat) (s : State) (hs : ThreshInRange s.threshold) :
    (execPcieTagQuarantineEnd p root tag s).InRange := by
  unfold execPcieTagQuarantineEnd
  dsimp only
  split
  · simpa using hs
  · rw [Res.inRange_next]
    exact State.pumpNode_inRange _ _ (by simpa using hs)

@[simp] theorem State.portGoOn_inRange (s : State) (p : Nat) (hs : ThreshInRange s.threshold) :
    ThreshInRange (s.portGoOn p).threshold := by
  simp [State.portGoOn, hs]

@[simp] theorem State.portError_threshold (s : State) (p cls : Nat) : (s.portError p cls).threshold = s.threshold := by
  simp [State.portError]

theorem execDpcTrigger_inRange (p : PortId) (root : Fin 8) (s : State) (hs : ThreshInRange s.threshold) :
    (execDpcTrigger p root s).InRange := by
  simp [execDpcTrigger, hs]

@[simp] theorem State.rootEvent_inRange (s : State) (p i : Nat) (ev : PortEvent) (hs : ThreshInRange s.threshold) :
    ThreshInRange (s.rootEvent p i ev).threshold := by
  unfold State.rootEvent
  split <;> simp [hs]

theorem execPortLinkEvent_inRange (p : PortId) (root : Fin 8) (ev : PortEvent) (s : State) (hs : ThreshInRange s.threshold) :
    (execPortLinkEvent p root ev s).InRange := by
  unfold execPortLinkEvent
  split <;> simp [hs]

theorem execCxlLinkDown_inRange (p : PortId) (root : Fin 8) (s : State) (hs : ThreshInRange s.threshold) :
    (execCxlLinkDown p root s).InRange := by
  simp [execCxlLinkDown, hs]

theorem execLinkPowerIdle_inRange (p : PortId) (tgt : LinkPower) (ltr : Option Nat) (s : State) (hs : ThreshInRange s.threshold) :
    (execLinkPowerIdle p tgt ltr s).InRange := by
  simp [execLinkPowerIdle, hs]

/-! ### The dovetail function -/

@[simp] theorem State.hostTouch_threshold (s : State) (p : Nat) : (s.hostTouch p).threshold = s.threshold := by
  simp [State.hostTouch]

@[simp] theorem State.hostWrite_threshold (s : State) (p o size : Nat) (val : Word) :
    (s.hostWrite p o size val).threshold = s.threshold := by
  simp [State.hostWrite]

theorem execDtCmdTailWrite_inRange (p : PortId) (val : Word) (s : State) (hs : ThreshInRange s.threshold) :
    (execDtCmdTailWrite p val s).InRange := by
  simp [execDtCmdTailWrite, hs]

theorem execDtRplHeadWrite_inRange (p : PortId) (val : Word) (s : State) (hs : ThreshInRange s.threshold) :
    (execDtRplHeadWrite p val s).InRange := by
  simp [execDtRplHeadWrite, hs]

theorem execDtRingCfgWrite_inRange (p : PortId) (val : Word) (s : State) (hs : ThreshInRange s.threshold) :
    (execDtRingCfgWrite p val s).InRange := by
  simp [execDtRingCfgWrite, hs]

theorem execDtNqPop_inRange (p : PortId) (size : Nat) (s : State) (hs : ThreshInRange s.threshold) :
    (execDtNqPop p size s).InRange := by
  simp [execDtNqPop, hs]

theorem execDtWinCommit_inRange (p : PortId) (val : Word) (s : State) (hs : ThreshInRange s.threshold) :
    (execDtWinCommit p val s).InRange := by
  simp [execDtWinCommit, hs]

@[simp] theorem State.dtResize_threshold (s : State) (p log2Gib : Nat) : (s.dtResize p log2Gib).threshold = s.threshold := by
  simp [State.dtResize]

theorem execBarResize_inRange (p : PortId) (log2Gib : Nat) (s : State) (hs : ThreshInRange s.threshold) :
    (execBarResize p log2Gib s).InRange := by
  simp [execBarResize, hs]

theorem execRecoveryWindowAccess_inRange (p : PortId) (t : Tlp) (s : State) (hs : ThreshInRange s.threshold) :
    (execRecoveryWindowAccess p t s).InRange := by
  unfold execRecoveryWindowAccess
  dsimp only
  repeat' split
  all_goals simp [hs]

theorem execDtBarRegisterWrite_inRange (p : PortId) (off : BitVec 24) (size : Nat) (val : Word) (s : State)
    (hs : ThreshInRange s.threshold) : (execDtBarRegisterWrite p off size val s).InRange := by
  simp [execDtBarRegisterWrite, hs]

@[simp] theorem State.performRegs_threshold (s : State) (p : Nat) : (s.performRegs p).threshold = s.threshold := by
  simp [State.performRegs]

@[simp] theorem State.dtReset_inRange (s : State) (p : Nat) (flr : Bool) (hs : ThreshInRange s.threshold) :
    ThreshInRange (s.dtReset p flr).threshold := by
  unfold State.dtReset
  dsimp only
  rw [State.threshold_setPort, State.loseTransport_threshold, State.performRegs_threshold]
  exact foldl_inRange _ (by simp +contextual) _ _ hs

@[simp] theorem State.dtRelink_inRange (s : State) (p st : Nat) (hs : ThreshInRange s.threshold) :
    ThreshInRange (s.dtRelink p st).threshold := by
  simp [State.dtRelink, hs]

theorem execFundamentalReset_inRange (p : PortId) (s : State) (hs : ThreshInRange s.threshold) :
    (execFundamentalReset p s).InRange := by
  simp [execFundamentalReset, hs]

theorem execHotReset_inRange (p : PortId) (s : State) (hs : ThreshInRange s.threshold) : (execHotReset p s).InRange := by
  simp [execHotReset, hs]

theorem execFunctionLevelReset_inRange (p : PortId) (s : State) (hs : ThreshInRange s.threshold) :
    (execFunctionLevelReset p s).InRange := by
  simp [execFunctionLevelReset, hs]

theorem execHostConfigWrite_inRange (p : PortId) (reg : Nat) (val : BitVec 32) (s : State) (hs : ThreshInRange s.threshold) :
    (execHostConfigWrite p reg val s).InRange := by
  unfold execHostConfigWrite
  repeat' split
  all_goals simp [hs]

@[simp] theorem State.rootUp_threshold (s : State) (p i : Nat) (l : LinkIn) : (s.rootUp p i l).threshold = s.threshold := by
  rw [← State.hasThreshold_iff, State.rootUp]
  have linked k r : ((((s.setPort p k).setRootOf p i r).linkEdge p).postLink p 0 0 0).threshold = s.threshold :=
    (State.postLink_threshold ..).trans ((State.linkEdge_threshold ..).trans
      ((State.setRootOf_threshold ..).trans (State.threshold_setPort ..)))
  split
  · exact linked ..
  · extract_lets size d s'
    split
    · exact (State.post_threshold ..).trans ((State.threshold_setHome ..).trans (linked ..))
    · exact (State.threshold_setHome ..).trans (linked ..)

@[simp] theorem State.purlinTrained_threshold (s : State) (p : Nat) (n : Nat) :
    (s.purlinTrained p n).threshold = s.threshold := by
  unfold State.purlinTrained
  dsimp only
  split <;> simp

@[simp] theorem State.ridgeTrained_threshold (s : State) (p : Nat) (l : LinkIn) :
    (s.ridgeTrained p l).threshold = s.threshold := by
  unfold State.ridgeTrained
  dsimp only
  split <;> simp

theorem execLinkUp_inRange (p : PortId) (root : Fin 8) (l : LinkIn) (s : State) (hs : ThreshInRange s.threshold) :
    (execLinkUp p root l s).InRange := by
  unfold execLinkUp
  dsimp only
  repeat' split
  all_goals simp [hs]

/-! ### Link and port commands -/

@[simp] theorem State.cmdLinkStatus_threshold (s : State) (j : Job) : (s.cmdLinkStatus j).1.threshold = s.threshold := by
  simp [State.cmdLinkStatus]

@[simp] theorem State.clearMap_threshold (s : State) (n : Nat) : (s.clearMap n).threshold = s.threshold := by
  simp [State.clearMap]

@[simp] theorem State.cmdTenonMap_threshold (s : State) (j : Job) : (s.cmdTenonMap j).1.threshold = s.threshold := by
  unfold State.cmdTenonMap
  dsimp only
  repeat' split
  all_goals simp

@[simp] theorem State.cmdRetrain_threshold (s : State) (j : Job) : (s.cmdRetrain j).1.threshold = s.threshold := by
  unfold State.cmdRetrain
  dsimp only
  repeat' split
  all_goals simp

@[simp] theorem State.retrainPort_inRange (s : State) (p r : Nat) (ok : Bool) (hs : ThreshInRange s.threshold) :
    ThreshInRange (s.retrainPort p r ok).1.threshold := by
  unfold State.retrainPort
  dsimp only
  split <;> simp [hs]

@[simp] theorem State.finRetrain_inRange (s : State) (j : Job) (fin : FinishIn) (hs : ThreshInRange s.threshold) :
    ThreshInRange (s.finRetrain j fin).1.threshold := by
  simp [State.finRetrain, hs]

@[simp] theorem State.cmdPersonality_threshold (s : State) (j : Job) : (s.cmdPersonality j).1.threshold = s.threshold := by
  simp [State.cmdPersonality]

@[simp] theorem State.finPersonality_threshold (s : State) (j : Job) (fin : FinishIn) :
    (s.finPersonality j fin).1.threshold = s.threshold := by
  simp [State.finPersonality]

@[simp] theorem State.setExports_threshold (s : State) (f : Nat) (t : Map Word) :
    (s.setExports f t).1.threshold = s.threshold := by
  simp [State.setExports]

@[simp] theorem State.cmdExport_threshold (s : State) (j : Job) : (s.cmdExport j).1.threshold = s.threshold := by
  unfold State.cmdExport
  dsimp only
  repeat' split
  all_goals simp

/-! ### Firmware, attestation, SPDM and MCTP -/

@[simp] theorem State.fwClose_threshold (s : State) : s.fwClose.threshold = s.threshold := by
  simp [State.fwClose]

@[simp] theorem State.cmdFwBegin_threshold (s : State) (j : Job) : (s.cmdFwBegin j).1.threshold = s.threshold := by
  simp [State.cmdFwBegin]

@[simp] theorem State.setSlot_threshold (s : State) (i : Nat) (b : Option Bundle) : (s.setSlot i b).threshold = s.threshold := by
  simp [State.setSlot]

@[simp] theorem State.finFwBegin_threshold (s : State) (fin : FinishIn) : (s.finFwBegin fin).1.threshold = s.threshold := by
  simp [State.finFwBegin]

@[simp] theorem State.cmdFwChunk_threshold (s : State) (j : Job) : (s.cmdFwChunk j).1.threshold = s.threshold := by
  simp [State.cmdFwChunk]

@[simp] theorem State.finFwChunk_threshold (s : State) (j : Job) (fin : FinishIn) :
    (s.finFwChunk j fin).1.threshold = s.threshold := by
  simp [State.finFwChunk]

@[simp] theorem State.cmdFwCommit_threshold (s : State) (j : Job) : (s.cmdFwCommit j).1.threshold = s.threshold := by
  simp [State.cmdFwCommit]

@[simp] theorem State.finFwCommit_threshold (s : State) (fin : FinishIn) : (s.finFwCommit fin).1.threshold = s.threshold := by
  unfold State.finFwCommit
  dsimp only
  split <;> simp

theorem execFwSessionTimeout_inRange (s : State) (hs : ThreshInRange s.threshold) : (execFwSessionTimeout s).InRange := by
  simp [execFwSessionTimeout, hs]

@[simp] theorem State.finAttest_threshold (s : State) (j : Job) (fin : FinishIn) :
    (s.finAttest j fin).1.threshold = s.threshold := by
  simp [State.finAttest]

@[simp] theorem State.setSpdm_threshold (s : State) (t : TInst) (d : Spdm) : (s.setSpdm t d).threshold = s.threshold := by
  simp [State.setSpdm]

@[simp] theorem State.spdmSend_threshold (s : State) (t : TInst) (b : List Byte) : (s.spdmSend t b).threshold = s.threshold := by
  simp [State.spdmSend]

@[simp] theorem State.spdmError_threshold (s : State) (t : TInst) (code data : Nat) :
    (s.spdmError t code data).threshold = s.threshold := by
  simp [State.spdmError]

@[simp] theorem State.spdmReady_threshold (s : State) (t : TInst) (version : Byte) (go : State) (hg : go.threshold = s.threshold)
    :
    (s.spdmReady t version go).threshold = s.threshold := by
  simp [State.spdmReady, hg]

theorem execGetVersion_inRange (t : TInst) (version : Byte) (s : State) (hs : ThreshInRange s.threshold) :
    (execGetVersion t version s).InRange := by
  simp [execGetVersion, hs]

theorem execGetCapabilities_inRange (t : TInst) (version : Byte) (s : State) (hs : ThreshInRange s.threshold) :
    (execGetCapabilities t version s).InRange := by
  simp [execGetCapabilities, hs]

theorem execNegotiateAlgorithms_inRange (t : TInst) (version : Byte) (p384 sha384 : Bool) (s : State)
    (hs : ThreshInRange s.threshold) : (execNegotiateAlgorithms t version p384 sha384 s).InRange := by
  simp [execNegotiateAlgorithms, hs]

theorem execGetDigests_inRange (t : TInst) (version : Byte) (s : State) (hs : ThreshInRange s.threshold) :
    (execGetDigests t version s).InRange := by
  simp [execGetDigests, hs]

theorem execGetCertificate_inRange (t : TInst) (version slot : Byte) (off len : BitVec 16) (s : State)
    (hs : ThreshInRange s.threshold) : (execGetCertificate t version slot off len s).InRange := by
  simp [execGetCertificate, hs]

@[simp] theorem State.takeBytes_threshold (s : State) (n : Nat) : (s.takeBytes n).2.threshold = s.threshold := by
  induction n generalizing s with
  | zero => rfl
  | succ k ih => simp [State.takeBytes, ih]

theorem execChallenge_inRange (t : TInst) (version slot : Byte) (_nonce : BitVec 256) (s : State) (hs : ThreshInRange s.threshold)
    : (execChallenge t version slot _nonce s).InRange := by
  simp [execChallenge, hs]

theorem execGetMeasurements_inRange (t : TInst) (version : Byte) (index : Byte) (sign : Bool) (_nonce : BitVec 256) (s : State)
    (hs : ThreshInRange s.threshold) : (execGetMeasurements t version index sign _nonce s).InRange := by
  unfold execGetMeasurements
  dsimp only
  repeat' split
  all_goals simp [hs]

theorem execSpdmUnsupportedRequest_inRange (t : TInst) (_version code : Byte) (s : State) (hs : ThreshInRange s.threshold) :
    (execSpdmUnsupportedRequest t _version code s).InRange := by
  simp [execSpdmUnsupportedRequest, hs]

theorem State.mctpControl_inRange (s : State) (code cc : Nat) (data : List Byte) (hs : ThreshInRange s.threshold) :
    (s.mctpControl code cc data).InRange := by
  simp [State.mctpControl, hs]

theorem execEntdaa_inRange (addr : BitVec 7) (s : State) (hs : ThreshInRange s.threshold) : (execEntdaa addr s).InRange := by
  simp [execEntdaa, hs]

theorem execSetEndpointId_inRange (eid : Byte) (s : State) (hs : ThreshInRange s.threshold) :
    (execSetEndpointId eid s).InRange := by
  unfold execSetEndpointId
  grind [Res.inRange_next, State.mctpControl_inRange, State.loseTransport_threshold]

theorem execGetEndpointId_inRange (s : State) (hs : ThreshInRange s.threshold) : (execGetEndpointId s).InRange := by
  unfold execGetEndpointId
  grind [State.mctpControl_inRange]

theorem execGetEndpointUuid_inRange (s : State) (hs : ThreshInRange s.threshold) : (execGetEndpointUuid s).InRange := by
  unfold execGetEndpointUuid
  grind [State.mctpControl_inRange]

theorem execGetMctpVersionSupport_inRange (s : State) (hs : ThreshInRange s.threshold) :
    (execGetMctpVersionSupport s).InRange := by
  unfold execGetMctpVersionSupport
  grind [State.mctpControl_inRange]

theorem execGetMessageTypeSupport_inRange (s : State) (hs : ThreshInRange s.threshold) :
    (execGetMessageTypeSupport s).InRange := by
  unfold execGetMessageTypeSupport
  grind [State.mctpControl_inRange]

theorem execGetVendorDefinedMessageSupport_inRange (s : State) (hs : ThreshInRange s.threshold) :
    (execGetVendorDefinedMessageSupport s).InRange := by
  unfold execGetVendorDefinedMessageSupport
  grind [State.mctpControl_inRange]

/-! ### Resets and boot -/

@[simp] theorem State.landWrites_threshold (s : State) (c : Nat) : (s.landWrites c).threshold = s.threshold := by
  unfold State.landWrites
  rw [foldl_threshold _ (by simp)]

@[simp] theorem State.eraseBench_threshold (s : State) (b : Nat) : (s.eraseBench b).threshold = s.threshold := by
  simp [State.eraseBench]

@[simp] theorem State.framePort_threshold (s : State) (p : Nat) : (s.framePort p).threshold = s.threshold := by
  simp [State.framePort]

@[simp] theorem State.wipeStud_threshold (s : State) (n : Nat) (held : Bool) : (s.wipeStud n held).threshold = s.threshold := by
  simp [State.wipeStud]

@[simp] theorem State.wipeFrame_threshold (s : State) (f : Nat) : (s.wipeFrame f).threshold = s.threshold := by
  simp [State.wipeFrame]

@[simp] theorem State.countCheckers_threshold (s : State) (codes : List Nat) :
    (s.countCheckers codes).threshold = s.threshold := by
  simp [State.countCheckers]

@[simp] theorem State.raiseStud_threshold (s : State) (n : Nat) (env : BootEnv) (cause : Nat) (entry : Bool) :
    (s.raiseStud n env cause entry).threshold = s.threshold := by
  simp [State.raiseStud]

@[simp] theorem State.raiseBay_threshold (s : State) (b : Nat) (env : BootEnv) : (s.raiseBay b env).threshold = s.threshold := by
  simp [State.raiseBay]

@[simp] theorem State.raisePort_threshold (s : State) (p : Nat) (booted : Bool) :
    (s.raisePort p booted).threshold = s.threshold := by
  simp [State.raisePort]

@[simp] theorem State.prepareFrame_threshold (s : State) (f : Nat) (env : BootEnv) (cause : Nat) :
    (s.prepareFrame f env cause).threshold = s.threshold := by
  simp [State.prepareFrame]

@[simp] theorem State.unboot_threshold (s : State) (f : Nat) : (s.unboot f).threshold = s.threshold := by
  simp [State.unboot]

@[simp] theorem State.setDram_threshold (s : State) (f n gib rate : Nat) : (s.setDram f n gib rate).threshold = s.threshold := by
  simp [State.setDram]

@[simp] theorem State.beyondReport_threshold (s : State) (f sg : Nat) : (s.beyondReport f sg).threshold = s.threshold := by
  simp [State.beyondReport]

@[simp] theorem State.firstTraining_threshold (s : State) (f : Nat) (res : Nat → TrainRes) :
    (s.firstTraining f res).threshold = s.threshold := by
  simp [State.firstTraining]

@[simp] theorem State.restoreChan_threshold (s : State) (c : Nat) (r : Option TrainRes) :
    (s.restoreChan c r).threshold = s.threshold := by
  simp [State.restoreChan]

@[simp] theorem State.retrainDram_threshold (s : State) (f : Nat) (res : List (Nat × TrainRes)) :
    (s.retrainDram f res).threshold = s.threshold := by
  simp [State.retrainDram]

@[simp] theorem State.restoreDram_threshold (s : State) (f : Nat) (res : List (Nat × TrainRes)) :
    (s.restoreDram f res).threshold = s.threshold := by
  simp [State.restoreDram]

@[simp] theorem State.measureFrame_threshold (s : State) (f : Nat) : (s.measureFrame f).threshold = s.threshold := by
  simp [State.measureFrame]

theorem execChannelTrainingDone_inRange (f : FrameId) (res : List (Nat × TrainRes)) (s : State) (hs : ThreshInRange s.threshold) :
    (execChannelTrainingDone f res s).InRange := by
  simp [execChannelTrainingDone, hs]

@[simp] theorem State.loadBench_threshold (s : State) (f cause minSvn : Nat) :
    (s.loadBench f cause minSvn).threshold = s.threshold := by
  simp [State.loadBench]

@[simp] theorem State.countCheck_threshold (s : State) (f : Nat) : (s.countCheck f).threshold = s.threshold := by
  simp [State.countCheck]

@[simp] theorem State.releaseFrame_threshold (s : State) (f cause : Nat) (extra : List (Nat × Nat × Nat)) :
    (s.releaseFrame f cause extra).threshold = s.threshold := by
  unfold State.releaseFrame
  dsimp only
  split <;> simp

@[simp] theorem State.chooseSlot_threshold (s : State) : s.chooseSlot.1.threshold = s.threshold := by
  unfold State.chooseSlot
  dsimp only
  repeat' split
  all_goals simp

@[simp] theorem State.readModes_threshold (s : State) (env : BootEnv) : (s.readModes env).threshold = s.threshold := by
  simp [State.readModes]

@[simp] theorem State.applyMode_threshold (s : State) (straps : Nat) : (s.applyMode straps).threshold = s.threshold := by
  simp [State.applyMode]

@[simp] theorem State.domainsOn_threshold (s : State) : s.domainsOn.threshold = s.threshold := by
  simp [State.domainsOn]

@[simp] theorem State.bootAll_threshold (s : State) (env : BootEnv) (cause : Nat) (extra : List (Nat × Nat × Nat)) :
    (s.bootAll env cause extra).threshold = s.threshold := by
  simp [State.bootAll]

@[simp] theorem State.finishBoot_threshold (s : State) (env : BootEnv) (offExit : Bool) :
    (s.finishBoot env offExit).threshold = s.threshold := by
  simp [State.finishBoot]

@[simp] theorem State.loadJournal_threshold (s : State) (env : BootEnv) : (s.loadJournal env).threshold = s.threshold := by
  simp [State.loadJournal]

@[simp] theorem State.startD0_inRange (s : State) (env : BootEnv) (offExit : Bool) :
    ThreshInRange (s.startD0 env offExit).threshold := by
  simp [State.startD0]

theorem execPwrgoodDeassert_inRange (s : State) : (execPwrgoodDeassert s).InRange := by
  simp [execPwrgoodDeassert]

theorem execColdReset_inRange (env : BootEnv) (s : State) (hs : ThreshInRange s.threshold) : (execColdReset env s).InRange := by
  simp [execColdReset, hs]

theorem execExitFromOff_inRange (env : BootEnv) (s : State) (hs : ThreshInRange s.threshold) :
    (execExitFromOff env s).InRange := by
  simp [execExitFromOff, hs]

theorem execSensorSample_inRange (n : Fin 16) (temps : List Int) (s : State) (hs : ThreshInRange s.threshold) :
    (execSensorSample n temps s).InRange := by
  simp [execSensorSample, hs]

theorem execResetNAssert_inRange (s : State) (hs : ThreshInRange s.threshold) : (execResetNAssert s).InRange := by
  unfold execResetNAssert
  grind [Res.inRange_next, threshInRange_reset]

theorem execResetNDeassert_inRange (env : BootEnv) (s : State) (hs : ThreshInRange s.threshold) :
    (execResetNDeassert env s).InRange := by
  simp [execResetNDeassert, hs]

@[simp] theorem State.beginCoreReset_threshold (s : State) (c : Nat) : (s.beginCoreReset c).threshold = s.threshold := by
  unfold State.beginCoreReset
  dsimp only
  split <;> simp

theorem execCoreReset_inRange (c : CoreId) (s : State) (hs : ThreshInRange s.threshold) : (execCoreReset c s).InRange := by
  simp [execCoreReset, hs]

@[simp] theorem State.cmdFrameReset_threshold (s : State) (j : Job) : (s.cmdFrameReset j).1.threshold = s.threshold := by
  simp [State.cmdFrameReset]

@[simp] theorem State.finFrameReset_threshold (s : State) (j : Job) (fin : FinishIn) :
    (s.finFrameReset j fin).1.threshold = s.threshold := by
  simp [State.finFrameReset]

@[simp] theorem State.cmdStudReset_threshold (s : State) (j : Job) : (s.cmdStudReset j).1.threshold = s.threshold := by
  simp [State.cmdStudReset]

@[simp] theorem State.finStudReset_threshold (s : State) (j : Job) (fin : FinishIn) :
    (s.finStudReset j fin).1.threshold = s.threshold := by
  simp [State.finStudReset]

@[simp] theorem State.studFails_threshold (s : State) (n : Nat) : (s.studFails n).threshold = s.threshold := by
  simp [State.studFails]

@[simp] theorem State.fuseCore_threshold (s : State) (c : Nat) : (s.fuseCore c).threshold = s.threshold := by
  simp [State.fuseCore]

@[simp] theorem State.finStudTest_threshold (s : State) (n : Nat) (env : BootEnv) :
    (s.finStudTest n env).1.threshold = s.threshold := by
  simp [State.finStudTest]

@[simp] theorem State.finBayTest_threshold (s : State) (b : Nat) (env : BootEnv) :
    (s.finBayTest b env).1.threshold = s.threshold := by
  unfold State.finBayTest
  dsimp only
  split <;> simp

@[simp] theorem State.finSelftest_threshold (s : State) (j : Job) (fin : FinishIn) :
    (s.finSelftest j fin).1.threshold = s.threshold := by
  simp [State.finSelftest]

/-! ### Plumb takes commands -/

@[simp] theorem State.startOp_threshold (s : State) (j : Job) : (s.startOp j).1.threshold = s.threshold := by
  unfold State.startOp
  split <;> simp

@[simp] theorem State.finishOp_inRange (s : State) (j : Job) (fin : FinishIn) (hs : ThreshInRange s.threshold) :
    ThreshInRange (s.finishOp j fin).1.threshold := by
  unfold State.finishOp
  split <;> simp [hs]

@[simp] theorem State.dropped_threshold (s : State) (j : Job) : (s.dropped j).threshold = s.threshold := by
  unfold State.dropped
  split <;> simp

@[simp] theorem State.endJob_threshold (s : State) (j : Job) (status detail : Nat) (payload : List Byte) :
    (s.endJob j status detail payload).threshold = s.threshold := by
  simp [State.endJob]

@[simp] theorem State.startJob_threshold (s : State) (j : Job) (waited : Bool) :
    (s.startJob j waited).threshold = s.threshold := by
  unfold State.startJob
  grind [State.endJob_threshold, State.accepted_threshold, State.startOp_threshold, State.markBusy_threshold]

@[simp] theorem State.startWaiting_threshold (s : State) (n : Nat) : (s.startWaiting n).threshold = s.threshold := by
  induction n generalizing s with
  | zero => rfl
  | succ m ih =>
    unfold State.startWaiting
    split <;> simp [ih]

@[simp] theorem State.closeJob_threshold (s : State) (j : Job) (status : Nat) (payload : List Byte) :
    (s.closeJob j status payload).threshold = s.threshold := by
  simp [State.closeJob]

@[simp] theorem State.abortRun_threshold (s : State) (j : Job) : (s.abortRun j).1.threshold = s.threshold := by
  unfold State.abortRun
  split <;> simp

@[simp] theorem State.abortTag_threshold (s : State) (j : Job) : (s.abortTag j).1.threshold = s.threshold := by
  unfold State.abortTag
  dsimp only
  split <;> simp

@[simp] theorem State.takeCmd_threshold (s : State) (t : TInst) (op : Nat) (p : CmdPkt) :
    (s.takeCmd t op p).threshold = s.threshold := by
  unfold State.takeCmd
  repeat' split
  all_goals simp

theorem execGetInfo_inRange (t : TInst) (pkt : CmdPkt) (s : State) (hs : ThreshInRange s.threshold) :
    (execGetInfo t pkt s).InRange := by
  simp [execGetInfo, hs]

theorem execGetStatus_inRange (t : TInst) (pkt : CmdPkt) (s : State) (hs : ThreshInRange s.threshold) :
    (execGetStatus t pkt s).InRange := by
  simp [execGetStatus, hs]

theorem execAbort_inRange (t : TInst) (pkt : CmdPkt) (s : State) (hs : ThreshInRange s.threshold) :
    (execAbort t pkt s).InRange := by
  simp [execAbort, hs]

theorem execEcho_inRange (t : TInst) (pkt : CmdPkt) (s : State) (hs : ThreshInRange s.threshold) :
    (execEcho t pkt s).InRange := by
  simp [execEcho, hs]

theorem execSetMode_inRange (t : TInst) (pkt : CmdPkt) (s : State) (hs : ThreshInRange s.threshold) :
    (execSetMode t pkt s).InRange := by
  simp [execSetMode, hs]

theorem execGetMode_inRange (t : TInst) (pkt : CmdPkt) (s : State) (hs : ThreshInRange s.threshold) :
    (execGetMode t pkt s).InRange := by
  simp [execGetMode, hs]

theorem execFrameReset_inRange (t : TInst) (pkt : CmdPkt) (s : State) (hs : ThreshInRange s.threshold) :
    (execFrameReset t pkt s).InRange := by
  simp [execFrameReset, hs]

theorem execStudReset_inRange (t : TInst) (pkt : CmdPkt) (s : State) (hs : ThreshInRange s.threshold) :
    (execStudReset t pkt s).InRange := by
  simp [execStudReset, hs]

theorem execSetPowerCap_inRange (t : TInst) (pkt : CmdPkt) (s : State) (hs : ThreshInRange s.threshold) :
    (execSetPowerCap t pkt s).InRange := by
  simp [execSetPowerCap, hs]

theorem execGetPower_inRange (t : TInst) (pkt : CmdPkt) (s : State) (hs : ThreshInRange s.threshold) :
    (execGetPower t pkt s).InRange := by
  simp [execGetPower, hs]

theorem execSetDomainState_inRange (t : TInst) (pkt : CmdPkt) (s : State) (hs : ThreshInRange s.threshold) :
    (execSetDomainState t pkt s).InRange := by
  simp [execSetDomainState, hs]

theorem execSetPerfPolicy_inRange (t : TInst) (pkt : CmdPkt) (s : State) (hs : ThreshInRange s.threshold) :
    (execSetPerfPolicy t pkt s).InRange := by
  simp [execSetPerfPolicy, hs]

theorem execSetCooling_inRange (t : TInst) (pkt : CmdPkt) (s : State) (hs : ThreshInRange s.threshold) :
    (execSetCooling t pkt s).InRange := by
  simp [execSetCooling, hs]

theorem execGetThermalModel_inRange (t : TInst) (pkt : CmdPkt) (s : State) (hs : ThreshInRange s.threshold) :
    (execGetThermalModel t pkt s).InRange := by
  simp [execGetThermalModel, hs]

theorem execScrubRange_inRange (t : TInst) (pkt : CmdPkt) (s : State) (hs : ThreshInRange s.threshold) :
    (execScrubRange t pkt s).InRange := by
  simp [execScrubRange, hs]

theorem execInjectError_inRange (t : TInst) (pkt : CmdPkt) (s : State) (hs : ThreshInRange s.threshold) :
    (execInjectError t pkt s).InRange := by
  simp [execInjectError, hs]

theorem execCheckerSelftest_inRange (t : TInst) (pkt : CmdPkt) (s : State) (hs : ThreshInRange s.threshold) :
    (execCheckerSelftest t pkt s).InRange := by
  simp [execCheckerSelftest, hs]

theorem execGetErrorLog_inRange (t : TInst) (pkt : CmdPkt) (s : State) (hs : ThreshInRange s.threshold) :
    (execGetErrorLog t pkt s).InRange := by
  simp [execGetErrorLog, hs]

theorem execMemTrainSave_inRange (t : TInst) (pkt : CmdPkt) (s : State) (hs : ThreshInRange s.threshold) :
    (execMemTrainSave t pkt s).InRange := by
  simp [execMemTrainSave, hs]

theorem execBayLockRange_inRange (t : TInst) (pkt : CmdPkt) (s : State) (hs : ThreshInRange s.threshold) :
    (execBayLockRange t pkt s).InRange := by
  simp [execBayLockRange, hs]

theorem execBayUnlock_inRange (t : TInst) (pkt : CmdPkt) (s : State) (hs : ThreshInRange s.threshold) :
    (execBayUnlock t pkt s).InRange := by
  simp [execBayUnlock, hs]

theorem execBenchConfig_inRange (t : TInst) (pkt : CmdPkt) (s : State) (hs : ThreshInRange s.threshold) :
    (execBenchConfig t pkt s).InRange := by
  simp [execBenchConfig, hs]

theorem execBayFlushRange_inRange (t : TInst) (pkt : CmdPkt) (s : State) (hs : ThreshInRange s.threshold) :
    (execBayFlushRange t pkt s).InRange := by
  simp [execBayFlushRange, hs]

theorem execBayInvalidate_inRange (t : TInst) (pkt : CmdPkt) (s : State) (hs : ThreshInRange s.threshold) :
    (execBayInvalidate t pkt s).InRange := by
  simp [execBayInvalidate, hs]

theorem execScribeFreeze_inRange (t : TInst) (pkt : CmdPkt) (s : State) (hs : ThreshInRange s.threshold) :
    (execScribeFreeze t pkt s).InRange := by
  simp [execScribeFreeze, hs]

theorem execScribeThaw_inRange (t : TInst) (pkt : CmdPkt) (s : State) (hs : ThreshInRange s.threshold) :
    (execScribeThaw t pkt s).InRange := by
  simp [execScribeThaw, hs]

theorem execScribeRead_inRange (t : TInst) (pkt : CmdPkt) (s : State) (hs : ThreshInRange s.threshold) :
    (execScribeRead t pkt s).InRange := by
  simp [execScribeRead, hs]

theorem execScribeClear_inRange (t : TInst) (pkt : CmdPkt) (s : State) (hs : ThreshInRange s.threshold) :
    (execScribeClear t pkt s).InRange := by
  simp [execScribeClear, hs]

theorem execScribeFlush_inRange (t : TInst) (pkt : CmdPkt) (s : State) (hs : ThreshInRange s.threshold) :
    (execScribeFlush t pkt s).InRange := by
  simp [execScribeFlush, hs]

theorem execLinkStatus_inRange (t : TInst) (pkt : CmdPkt) (s : State) (hs : ThreshInRange s.threshold) :
    (execLinkStatus t pkt s).InRange := by
  simp [execLinkStatus, hs]

@[simp] theorem State.takeOp_threshold (s : State) (t : TInst) (op sub last : Nat) (p : CmdPkt) :
    (s.takeOp t op sub last p).threshold = s.threshold := by
  simp [State.takeOp]

theorem execTenonMapReadOne_inRange (t : TInst) (pkt : CmdPkt) (s : State) (hs : ThreshInRange s.threshold) :
    (execTenonMapReadOne t pkt s).InRange := by
  simp [execTenonMapReadOne, hs]

theorem execTenonMapReadAll_inRange (t : TInst) (pkt : CmdPkt) (s : State) (hs : ThreshInRange s.threshold) :
    (execTenonMapReadAll t pkt s).InRange := by
  simp [execTenonMapReadAll, hs]

theorem execTenonMapClear_inRange (t : TInst) (pkt : CmdPkt) (s : State) (hs : ThreshInRange s.threshold) :
    (execTenonMapClear t pkt s).InRange := by
  simp [execTenonMapClear, hs]

theorem execLinkRetrain_inRange (t : TInst) (pkt : CmdPkt) (s : State) (hs : ThreshInRange s.threshold) :
    (execLinkRetrain t pkt s).InRange := by
  simp [execLinkRetrain, hs]

theorem execPortPersonality_inRange (t : TInst) (pkt : CmdPkt) (s : State) (hs : ThreshInRange s.threshold) :
    (execPortPersonality t pkt s).InRange := by
  simp [execPortPersonality, hs]

theorem execRidgeExportWrite_inRange (t : TInst) (pkt : CmdPkt) (s : State) (hs : ThreshInRange s.threshold) :
    (execRidgeExportWrite t pkt s).InRange := by
  simp [execRidgeExportWrite, hs]

theorem execRidgeExportClear_inRange (t : TInst) (pkt : CmdPkt) (s : State) (hs : ThreshInRange s.threshold) :
    (execRidgeExportClear t pkt s).InRange := by
  simp [execRidgeExportClear, hs]

theorem execRidgeExportRead_inRange (t : TInst) (pkt : CmdPkt) (s : State) (hs : ThreshInRange s.threshold) :
    (execRidgeExportRead t pkt s).InRange := by
  simp [execRidgeExportRead, hs]

theorem execRidgeExportClearAll_inRange (t : TInst) (pkt : CmdPkt) (s : State) (hs : ThreshInRange s.threshold) :
    (execRidgeExportClearAll t pkt s).InRange := by
  simp [execRidgeExportClearAll, hs]

theorem execFwBegin_inRange (t : TInst) (pkt : CmdPkt) (s : State) (hs : ThreshInRange s.threshold) :
    (execFwBegin t pkt s).InRange := by
  simp [execFwBegin, hs]

theorem execFwChunk_inRange (t : TInst) (pkt : CmdPkt) (s : State) (hs : ThreshInRange s.threshold) :
    (execFwChunk t pkt s).InRange := by
  simp [execFwChunk, hs]

theorem execFwCommit_inRange (t : TInst) (pkt : CmdPkt) (s : State) (hs : ThreshInRange s.threshold) :
    (execFwCommit t pkt s).InRange := by
  simp [execFwCommit, hs]

theorem execAttest_inRange (t : TInst) (pkt : CmdPkt) (s : State) (hs : ThreshInRange s.threshold) :
    (execAttest t pkt s).InRange := by
  simp [execAttest, hs]

theorem execCommandCrcFailure_inRange (t : TInst) (opcode : Byte) (pkt : CmdPkt) (s : State) (hs : ThreshInRange s.threshold) :
    (execCommandCrcFailure t opcode pkt s).InRange := by
  simp [execCommandCrcFailure, hs]

theorem execBadOpcode_inRange (t : TInst) (opcode : Byte) (pkt : CmdPkt) (s : State) (hs : ThreshInRange s.threshold) :
    (execBadOpcode t opcode pkt s).InRange := by
  simp [execBadOpcode, hs]

@[simp] theorem State.packageOff_inRange (s : State) (j : Job) (fin : FinishIn) :
    ThreshInRange (s.packageOff j fin).threshold := by
  unfold State.packageOff
  exact State.enterOff_inRange _

theorem execCommandFinalReply_inRange (t : TInst) (tag : BitVec 8) (fin : FinishIn) (s : State) (hs : ThreshInRange s.threshold) :
    (execCommandFinalReply t tag fin s).InRange := by
  unfold execCommandFinalReply
  split <;> simp [hs]

theorem execCommandTimeout_inRange (t : TInst) (tag : BitVec 8) (s : State) (hs : ThreshInRange s.threshold) :
    (execCommandTimeout t tag s).InRange := by
  unfold execCommandTimeout
  split <;> simp [hs]

theorem execScribeFlushEnd_inRange (ok : Bool) (s : State) (hs : ThreshInRange s.threshold) :
    (execScribeFlushEnd ok s).InRange := by
  unfold execScribeFlushEnd
  dsimp only
  repeat' split
  all_goals simp [hs]

theorem execTransportLost_inRange (t : TInst) (s : State) (hs : ThreshInRange s.threshold) : (execTransportLost t s).InRange := by
  simp [execTransportLost, hs]

@[simp] theorem State.ringFetch_threshold (s : State) (f : Nat) (ok : Bool) : (s.ringFetch f ok).threshold = s.threshold := by
  unfold State.ringFetch
  dsimp only
  repeat' split
  all_goals simp

@[simp] theorem State.mailboxFetch_threshold (s : State) (p : Nat) (ok : Bool) (op : Nat) (pkt : CmdPkt) :
    (s.mailboxFetch p ok op pkt).threshold = s.threshold := by
  simp [State.mailboxFetch]

theorem execRingSlotFetch_inRange (r : RingId) (ok : Bool) (opcode : Byte) (pkt : CmdPkt) (s : State)
    (hs : ThreshInRange s.threshold) : (execRingSlotFetch r ok opcode pkt s).InRange := by
  unfold execRingSlotFetch
  split <;> simp [hs]

theorem execPlumbRestart_inRange (s : State) (hs : ThreshInRange s.threshold) : (execPlumbRestart s).InRange := by
  simp [execPlumbRestart, hs]

/-! ### The commands of coherence -/

theorem execRdS_inRange (h : Hdr) (s : State) (hs : ThreshInRange s.threshold) : (execRdS h s).InRange := by
  simp [execRdS, hs]

theorem execRdU_inRange (h : Hdr) (s : State) (hs : ThreshInRange s.threshold) : (execRdU h s).InRange := by
  simp [execRdU, hs]

theorem execUpg_inRange (h : Hdr) (s : State) (hs : ThreshInRange s.threshold) : (execUpg h s).InRange := by
  simp [execUpg, hs]

theorem execRdNc_inRange (h : Hdr) (s : State) (hs : ThreshInRange s.threshold) : (execRdNc h s).InRange := by
  simp [execRdNc, hs]

theorem execWrNc_inRange (h : Hdr) (full : Bool) (s : State) (hs : ThreshInRange s.threshold) : (execWrNc h full s).InRange := by
  simp [execWrNc, hs]

theorem execAtomNc_inRange (h : Hdr) (op : AmoOp) (size off : Nat) (s : State) (hs : ThreshInRange s.threshold) :
    (execAtomNc h op size off s).InRange := by
  simp [execAtomNc, hs]

theorem execWb_inRange (h : Hdr) (s : State) (hs : ThreshInRange s.threshold) : (execWb h s).InRange := by
  simp [execWb, hs]

theorem execWbKeep_inRange (h : Hdr) (s : State) (hs : ThreshInRange s.threshold) : (execWbKeep h s).InRange := by
  simp [execWbKeep, hs]

theorem execCboClean_inRange (h : Hdr) (s : State) (hs : ThreshInRange s.threshold) : (execCboClean h s).InRange := by
  simp [execCboClean, hs]

theorem execCboFlush_inRange (h : Hdr) (s : State) (hs : ThreshInRange s.threshold) : (execCboFlush h s).InRange := by
  simp [execCboFlush, hs]

theorem execCboInval_inRange (h : Hdr) (s : State) (hs : ThreshInRange s.threshold) : (execCboInval h s).InRange := by
  simp [execCboInval, hs]

theorem execCboZero_inRange (h : Hdr) (s : State) (hs : ThreshInRange s.threshold) : (execCboZero h s).InRange := by
  simp [execCboZero, hs]

theorem execLockFill_inRange (h : Hdr) (s : State) (hs : ThreshInRange s.threshold) : (execLockFill h s).InRange := by
  simp [execLockFill, hs]

@[simp] theorem State.atTx_threshold (s : State) (m : Msg) : (s.atTx m).1.threshold = s.threshold := by
  unfold State.atTx
  grind [State.arrive_threshold]

@[simp] theorem State.correctDir_threshold (s : State) (h i : Nat) (t : HTx) (m : Msg) :
    (s.correctDir h i t m).threshold = s.threshold := by
  unfold State.correctDir
  repeat' split
  all_goals simp

@[simp] theorem State.onResponse_threshold (s : State) (m : Msg) : (s.onResponse m).threshold = s.threshold := by
  unfold State.onResponse
  grind [State.homeRun_threshold, State.threshold_setHome, State.correctDir_threshold, State.atTx_threshold,
    State.setTx_threshold]

theorem execRspInvAck_inRange (h : Hdr) (s : State) (hs : ThreshInRange s.threshold) : (execRspInvAck h s).InRange := by
  simp [execRspInvAck, hs]

theorem execRspFwdDone_inRange (h : Hdr) (s : State) (hs : ThreshInRange s.threshold) : (execRspFwdDone h s).InRange := by
  simp [execRspFwdDone, hs]

theorem execRspCleanDone_inRange (h : Hdr) (s : State) (hs : ThreshInRange s.threshold) : (execRspCleanDone h s).InRange := by
  simp [execRspCleanDone, hs]

theorem execRspNotheld_inRange (h : Hdr) (s : State) (hs : ThreshInRange s.threshold) : (execRspNotheld h s).InRange := by
  simp [execRspNotheld, hs]

theorem execWbCancel_inRange (h : Hdr) (s : State) (hs : ThreshInRange s.threshold) : (execWbCancel h s).InRange := by
  unfold execWbCancel
  grind [Res.inRange_next, State.atTx_threshold, State.endTx_threshold, State.homeRun_threshold, State.setTx_threshold]

theorem execCompAck_inRange (h : Hdr) (s : State) (hs : ThreshInRange s.threshold) : (execCompAck h s).InRange := by
  unfold execCompAck
  grind [Res.inRange_next, State.atTx_threshold, State.endTx_threshold, State.homeRun_threshold, State.setTx_threshold]

theorem execSnpData_inRange (h : Hdr) (data : Line) (s : State) (hs : ThreshInRange s.threshold) :
    (execSnpData h data s).InRange := by
  unfold execSnpData
  grind [Res.inRange_next, State.atTx_threshold, State.endTx_threshold, State.homeRun_threshold, State.setTx_threshold]

theorem execWbData_inRange (h : Hdr) (data : Line) (s : State) (hs : ThreshInRange s.threshold) :
    (execWbData h data s).InRange := by
  unfold execWbData
  grind [Res.inRange_next, State.atTx_threshold, State.endTx_threshold, State.homeRun_threshold, State.setTx_threshold]

theorem execNcWdata_inRange (h : Hdr) (data : Line) (mask : BitVec 64) (s : State) (hs : ThreshInRange s.threshold) :
    (execNcWdata h data mask s).InRange := by
  unfold execNcWdata
  grind [Res.inRange_next, State.atTx_threshold, State.endTx_threshold, State.homeRun_threshold, State.setTx_threshold,
    State.clearDir_threshold, State.reply_threshold]

theorem execBayFillInstall_inRange (b : BayId) (bmr : Fin 512) (s : State) (hs : ThreshInRange s.threshold) :
    (execBayFillInstall b bmr s).InRange := by
  unfold execBayFillInstall
  dsimp only
  split
  · simpa using hs
  split
  · simpa using hs
  split
  · simpa using hs
  split
  · simpa using hs
  split
  · next t ht => simpa [State.bayAlloc_done ht] using hs
  · next t ht => simpa [State.bayAlloc_skipped ht] using hs
  · simpa using hs

theorem execCxlMemResponse_inRange (p : PortId) (line : Nat) (data : Line) (poison : Bool) (s : State)
    (hs : ThreshInRange s.threshold) : (execCxlMemResponse p line data poison s).InRange := by
  unfold execCxlMemResponse
  dsimp only
  repeat' split
  all_goals simp [hs]

theorem execUnknownMessageDiscard_inRange (dst : Nat) (src : BitVec 6) (_cls : BitVec 3) (opcode : BitVec 6) (s : State)
    (hs : ThreshInRange s.threshold) : (execUnknownMessageDiscard dst src _cls opcode s).InRange := by
  simp [execUnknownMessageDiscard, hs]

theorem execSnoopTimeout_inRange (home : Nat) (n : StudId) (s : State) (hs : ThreshInRange s.threshold) :
    (execSnoopTimeout home n s).InRange := by
  simp [execSnoopTimeout, hs]

theorem execFatalEvent_inRange (f : FrameId) (structure_ : BitVec 8) (inst : BitVec 8) (s : State)
    (hs : ThreshInRange s.threshold) : (execFatalEvent f structure_ inst s).InRange := by
  simp [execFatalEvent, hs]

/-! ### Counters and timers -/

theorem execHpmCounterWrite_inRange (c : CoreId) (idx : Fin 32) (val : Word) (s : State) (hs : ThreshInRange s.threshold) :
    (execHpmCounterWrite c idx val s).InRange := by
  unfold execHpmCounterWrite
  grind [State.serial_inRange, State.threshold_setCore]

theorem execMhpmeventWrite_inRange (c : CoreId) (idx : Fin 32) (val : Word) (s : State) (hs : ThreshInRange s.threshold) :
    (execMhpmeventWrite c idx val s).InRange := by
  unfold execMhpmeventWrite
  grind [State.serial_inRange, State.threshold_setCore]

theorem execMcountinhibitWrite_inRange (c : CoreId) (val : Word) (s : State) (hs : ThreshInRange s.threshold) :
    (execMcountinhibitWrite c val s).InRange := by
  unfold execMcountinhibitWrite
  grind [State.serial_inRange, State.threshold_setCore]

theorem execCounterWrap_inRange (c : CoreId) (idx : Fin 32) (s : State) (hs : ThreshInRange s.threshold) :
    (execCounterWrap c idx s).InRange := by
  simp [execCounterWrap, hs]

theorem execNotchctlWrite_inRange (c : CoreId) (lvl : Lvl) (val : Word) (s : State) (hs : ThreshInRange s.threshold) :
    (execNotchctlWrite c lvl val s).InRange := by
  unfold execNotchctlWrite
  grind [State.serial_inRange, State.threshold_setCore]

theorem execNotchRegisterWrite_inRange (c : CoreId) (lvl : Lvl) (reg : NotchReg) (val : Word) (s : State)
    (hs : ThreshInRange s.threshold) : (execNotchRegisterWrite c lvl reg val s).InRange := by
  unfold execNotchRegisterWrite
  grind [State.serial_inRange, State.threshold_setCore]

theorem execMnotchdelegWrite_inRange (c : CoreId) (val : Word) (s : State) (hs : ThreshInRange s.threshold) :
    (execMnotchdelegWrite c val s).InRange := by
  unfold execMnotchdelegWrite
  grind [State.serial_inRange, State.threshold_setCore]

theorem execNotchTag_inRange (c : CoreId) (s : State) (hs : ThreshInRange s.threshold) : (execNotchTag c s).InRange := by
  simp [execNotchTag, hs]

@[simp] theorem State.notchDone_threshold (s : State) (c : Nat) (r : NotchIn) : (s.notchDone c r).threshold = s.threshold := by
  simp [State.notchDone]

theorem execNotchWrite_inRange (c : CoreId) (rec : NotchIn) (s : State) (hs : ThreshInRange s.threshold) :
    (execNotchWrite c rec s).InRange := by
  simp [execNotchWrite, hs]

theorem execMtimeTick_inRange (s : State) (hs : ThreshInRange s.threshold) : (execMtimeTick s).InRange := by
  simp [execMtimeTick, hs]

theorem execMtimeWrite_inRange (f : FrameId) (val : Word) (s : State) (hs : ThreshInRange s.threshold) :
    (execMtimeWrite f val s).InRange := by
  simp [execMtimeWrite, hs]

theorem execMtimecmpWrite_inRange (f : FrameId) (h : BitVec 9) (val : Word) (s : State) (hs : ThreshInRange s.threshold) :
    (execMtimecmpWrite f h val s).InRange := by
  simp [execMtimecmpWrite, hs]

theorem execMsiWrite_inRange (f : FrameId) (h : BitVec 12) (file : IntFile) (id : BitVec 32) (s : State)
    (hs : ThreshInRange s.threshold) : (execMsiWrite f h file id s).InRange := by
  simp [execMsiWrite, hs]

/-! ### Ends of uncached accesses -/

@[simp] theorem State.ncNext_inRange (s : State) (o : NcOwner) (hs : ThreshInRange s.threshold) :
    ThreshInRange (s.ncNext o).threshold := by
  unfold State.ncNext
  repeat' split
  all_goals simp [hs]

@[simp] theorem State.toOwner_inRange (s : State) (m : Msg) (hs : ThreshInRange s.threshold) :
    ThreshInRange (s.toOwner m).threshold := by
  unfold State.toOwner
  split <;> simp [hs]

theorem execNcRdata_inRange (h : Hdr) (data : Line) (s : State) (hs : ThreshInRange s.threshold) :
    (execNcRdata h data s).InRange := by
  simp [execNcRdata, hs]

theorem execGoDone_inRange (h : Hdr) (s : State) (hs : ThreshInRange s.threshold) : (execGoDone h s).InRange := by
  simp [execGoDone, hs]

theorem execWrPull_inRange (h : Hdr) (s : State) (hs : ThreshInRange s.threshold) : (execWrPull h s).InRange := by
  simp [execWrPull, hs]

theorem execErr_inRange (h : Hdr) (s : State) (hs : ThreshInRange s.threshold) : (execErr h s).InRange := by
  simp [execErr, hs]

/-! ### CSR reads counted -/

@[simp] theorem State.csrCounted_threshold (s : State) (c n : Nat) : (s.csrCounted c n).threshold = s.threshold := by
  simp [State.csrCounted]

/-! ### CSR writes -/

@[simp] theorem State.iregWrite_threshold (s : State) (c n : Nat) (v : Word) : (s.iregWrite c n v).threshold = s.threshold := by
  unfold State.iregWrite
  dsimp only
  split <;> simp

@[simp] theorem State.topeiWrite_threshold (s : State) (c n : Nat) : (s.topeiWrite c n).threshold = s.threshold := by
  unfold State.topeiWrite
  dsimp only
  split <;> simp

theorem State.csrView_threshold {s : State} {c n : Nat} {v : Word} {s' : State} (he : s.csrView c n v = some s') :
    s'.threshold = s.threshold := by
  unfold State.csrView at he
  grind [State.iregWrite_threshold, State.threshold_setCore, State.topeiWrite_threshold]

@[simp] theorem State.csrPut_threshold (s : State) (c n : Nat) (v : Word) : (s.csrPut c n v).threshold = s.threshold := by
  unfold State.csrPut
  grind [State.csrView_threshold, State.threshold_setCore]

theorem State.stlbcmdPut_inRange (s : State) (c : Nat) (id : CoreId) (v : Word) (hs : ThreshInRange s.threshold) :
    (s.stlbcmdPut c id v).InRange := by
  unfold State.stlbcmdPut
  grind [execStlbcmdInvalVa_inRange, State.serial_inRange, execStlbcmdInvalAll_inRange, execStlbcmdWrite_inRange,
    State.threshold_setCore, execStlbcmdInvalAsid_inRange, execStlbcmdProbe_inRange, execStlbcmdRead_inRange]

theorem State.csrWrite_inRange (s : State) (id : CoreId) (num : Nat) (v : Word) (hs : ThreshInRange s.threshold) :
    (s.csrWrite id num v).InRange := by
  unfold State.csrWrite
  dsimp only
  split
  · exact execSatpWrite_inRange _ _ _ _ hs
  split
  · exact execMclkselWrite_inRange _ _ _ hs
  · exact execMcorectlWrite_inRange _ _ _ hs
  · exact execPoisoninfoWrite_inRange _ _ _ _ hs
  · exact execPoisoninfoWrite_inRange _ _ _ _ hs
  · exact execWalkinfoWrite_inRange _ _ _ _ hs
  · exact execWalkinfoWrite_inRange _ _ _ _ hs
  · exact execMshimctlWrite_inRange _ _ _ hs
  · exact State.stlbcmdPut_inRange _ _ _ _ hs
  · exact execSatpWrite_inRange _ _ _ _ hs
  · exact execSatpWrite_inRange _ _ _ _ hs
  · exact execMcountinhibitWrite_inRange _ _ _ hs
  · exact execMnotchdelegWrite_inRange _ _ _ hs
  · exact execNotchctlWrite_inRange _ _ _ _ hs
  · exact execNotchctlWrite_inRange _ _ _ _ hs
  split
  · exact execMhpmeventWrite_inRange _ _ _ _ hs
  split
  · exact execHpmCounterWrite_inRange _ _ _ _ hs
  split
  · exact execNotchRegisterWrite_inRange _ _ _ _ _ hs
  split
  · exact execNotchRegisterWrite_inRange _ _ _ _ _ hs
  · exact State.serial_inRange _ _ _ _ hs (by simpa using hs)

theorem State.csrAccess_inRange (s : State) (id : CoreId) (num : Nat) (rd : Fin 32) (wr : Bool) (v : Word)
    (hs : ThreshInRange s.threshold) : (s.csrAccess id num rd wr v).InRange := by
  unfold State.csrAccess
  extract_lets c k ident legal deliver runs t
  have counted : ThreshInRange t.threshold := by
    unfold t
    split
    · simpa using hs
    · exact hs
  clear_value t
  split
  · exact State.serial_inRange _ _ _ _ counted counted
  split
  · exact State.serial_inRange _ _ _ _ counted counted
  split
  · split
    · simpa using counted
    · have written := t.csrWrite_inRange id num v counted
      split
      · next u hu =>
        rw [hu, Res.inRange_next] at written
        simpa [deliver] using written
      · exact written
  · exact State.serial_inRange _ _ _ _ counted (by simpa [deliver] using counted)

/-! ### Accesses of the register windows -/

@[simp] theorem State.windowPut_inRange (s : State) (ap : AccessPort) (w : Win) (off : Nat) (part : Part) (v : Word)
    (hs : ThreshInRange s.threshold) : ThreshInRange (s.windowPut ap w off part v).threshold := by
  simp [State.windowPut, hs]

theorem execSelWrite_inRange (ap : AccessPort) (w : Win) (part : Part) (val : Word) (s : State) (hs : ThreshInRange s.threshold) :
    (execSelWrite ap w part val s).InRange := by
  simp [execSelWrite, hs]

theorem execNqPop_inRange (ap : AccessPort) (part : Part) (s : State) (hs : ThreshInRange s.threshold) :
    (execNqPop ap part s).InRange := by
  simp [execNqPop, hs]

theorem execNqPopTimeout_inRange (q : NqId) (s : State) (hs : ThreshInRange s.threshold) : (execNqPopTimeout q s).InRange := by
  unfold execNqPopTimeout
  dsimp only
  repeat' split
  all_goals simp [hs]

theorem execNqLevelWrite_inRange (q : NqId) (val : Word) (s : State) (hs : ThreshInRange s.threshold) :
    (execNqLevelWrite q val s).InRange := by
  unfold execNqLevelWrite
  split <;> simp [hs]

theorem execCmdqCmdTailWrite_inRange (ap : AccessPort) (part : Part) (val : Word) (s : State) (hs : ThreshInRange s.threshold) :
    (execCmdqCmdTailWrite ap part val s).InRange := by
  simp [execCmdqCmdTailWrite, hs]

theorem execCmdqRplHeadWrite_inRange (ap : AccessPort) (part : Part) (val : Word) (s : State) (hs : ThreshInRange s.threshold) :
    (execCmdqRplHeadWrite ap part val s).InRange := by
  simp [execCmdqRplHeadWrite, hs]

theorem execCmdqCfgWrite_inRange (ap : AccessPort) (part : Part) (val : Word) (s : State) (hs : ThreshInRange s.threshold) :
    (execCmdqCfgWrite ap part val s).InRange := by
  simp [execCmdqCfgWrite, hs]

theorem execBayCtlWrite_inRange (ap : AccessPort) (part : Part) (val : Word) (s : State) (hs : ThreshInRange s.threshold) :
    (execBayCtlWrite ap part val s).InRange := by
  simp [execBayCtlWrite, hs]

theorem execTenonThreshWrite_inRange (ap : AccessPort) (part : Part) (val : Word) (s : State) (hs : ThreshInRange s.threshold) :
    (execTenonThreshWrite ap part val s).InRange := by
  simp [execTenonThreshWrite, hs]

theorem execUpmuCtlWrite_inRange (ap : AccessPort) (k : Fin 4) (part : Part) (val : Word) (s : State)
    (hs : ThreshInRange s.threshold) : (execUpmuCtlWrite ap k part val s).InRange := by
  simp [execUpmuCtlWrite, hs]

theorem execUpmuCntWrite_inRange (ap : AccessPort) (k : Fin 4) (part : Part) (val : Word) (s : State)
    (hs : ThreshInRange s.threshold) : (execUpmuCntWrite ap k part val s).InRange := by
  simp [execUpmuCntWrite, hs]

theorem execUpmuCounterWrap_inRange (inst : Nat) (k : Fin 4) (s : State) (hs : ThreshInRange s.threshold) :
    (execUpmuCounterWrap inst k s).InRange := by
  simp [execUpmuCounterWrap, hs]

theorem execCbqriOperation_inRange (ap : AccessPort) (alloc : Bool) (val : Word) (s : State) (hs : ThreshInRange s.threshold) :
    (execCbqriOperation ap alloc val s).InRange := by
  simp [execCbqriOperation, hs]

@[simp] theorem State.portAccess_inRange (s : State) (dbg wr : Bool) (off size : Nat) (v : Word) (hs : ThreshInRange s.threshold)
    : ThreshInRange (s.portAccess dbg wr off size v).threshold := by
  unfold State.portAccess
  repeat' split
  all_goals simp [hs]

theorem execRegisterWrite_inRange (tgt : RegTarget) (val : Word) (s : State) (hs : ThreshInRange s.threshold) :
    (execRegisterWrite tgt val s).InRange := by
  unfold execRegisterWrite
  cases tgt with
  | win ap w off part => simp only; split <;> simp [hs]
  | csr c num rd wr => exact State.csrAccess_inRange _ _ _ _ _ _ hs
  | port dbg wr off size => simp [hs]

/-! ### Every command, and the step -/

/-- Every instruction keeps TENON_THRESH in range. -/
theorem exec_inRange (i : Instr) (s : State) (hs : ThreshInRange s.threshold) : Res.InRange (exec i s) := by
  cases i with
  | load => exact execLoad_inRange _ _ _ _ _ _ _ _ hs
  | store => exact execStore_inRange _ _ _ _ _ _ hs
  | storeQueueDrain => exact execStoreQueueDrain_inRange _ _ hs
  | amo => exact execAmo_inRange _ _ _ _ _ _ _ _ _ _ hs
  | lr => exact execLr_inRange _ _ _ _ _ _ _ hs
  | sc => exact execSc_inRange _ _ _ _ _ _ _ _ hs
  | lrHoldExpiry => exact execLrHoldExpiry_inRange _ _ hs
  | fence => exact execFence_inRange _ _ _ _ hs
  | fenceI => exact execFenceI_inRange _ _ hs
  | wfi => exact execWfi_inRange _ _ hs
  | wrsNto => exact execWrsNto_inRange _ _ hs
  | wrsSto => exact execWrsSto_inRange _ _ hs
  | wrsStoTimeout => exact execWrsStoTimeout_inRange _ _ hs
  | cboCleanInsn => exact execCboCleanInsn_inRange _ _ _ hs
  | cboFlushInsn => exact execCboFlushInsn_inRange _ _ _ hs
  | cboInvalInsn => exact execCboInvalInsn_inRange _ _ _ hs
  | cboZeroInsn => exact execCboZeroInsn_inRange _ _ _ hs
  | prefetchHint => exact execPrefetchHint_inRange _ _ _ _ hs
  | ntlHint => exact execNtlHint_inRange _ _ _ hs
  | poisonConsumption => exact execPoisonConsumption_inRange _ _ hs
  | hewnMissTrap => exact execHewnMissTrap_inRange _ _ hs
  | sfenceVma => exact execSfenceVma_inRange _ _ _ _ hs
  | hfenceVvma => exact execHfenceVvma_inRange _ _ _ _ hs
  | hfenceGvma => exact execHfenceGvma_inRange _ _ _ _ hs
  | sinvalVma => exact execSinvalVma_inRange _ _ _ _ hs
  | hinvalVvma => exact execHinvalVvma_inRange _ _ _ _ hs
  | hinvalGvma => exact execHinvalGvma_inRange _ _ _ _ hs
  | sfenceWInval => exact execSfenceWInval_inRange _ _ hs
  | sfenceInvalIr => exact execSfenceInvalIr_inRange _ _ hs
  | satpWrite => exact execSatpWrite_inRange _ _ _ _ hs
  | envcfgCbieWrite => exact execEnvcfgCbieWrite_inRange _ _ _ _ hs
  | mclkselWrite => exact execMclkselWrite_inRange _ _ _ hs
  | clockSwitchDone => exact execClockSwitchDone_inRange _ _ hs
  | pllLock => exact execPllLock_inRange _ _ hs
  | mcorectlWrite => exact execMcorectlWrite_inRange _ _ _ hs
  | poisoninfoWrite => exact execPoisoninfoWrite_inRange _ _ _ _ hs
  | walkinfoWrite => exact execWalkinfoWrite_inRange _ _ _ _ hs
  | mshimctlWrite => exact execMshimctlWrite_inRange _ _ _ hs
  | stlbcmdWrite => exact execStlbcmdWrite_inRange _ _ _ hs
  | stlbcmdProbe => exact execStlbcmdProbe_inRange _ _ hs
  | stlbcmdRead => exact execStlbcmdRead_inRange _ _ _ hs
  | stlbcmdInvalVa => exact execStlbcmdInvalVa_inRange _ _ _ hs
  | stlbcmdInvalAsid => exact execStlbcmdInvalAsid_inRange _ _ _ hs
  | stlbcmdInvalAll => exact execStlbcmdInvalAll_inRange _ _ _ hs
  | walkRequest => exact execWalkRequest_inRange _ _ _ _ _ _ hs
  | pteReadReturn => exact execPteReadReturn_inRange _ _ _ _ hs
  | headWalkRequest => exact execHeadWalkRequest_inRange _ _ hs
  | hpmCounterWrite => exact execHpmCounterWrite_inRange _ _ _ _ hs
  | mhpmeventWrite => exact execMhpmeventWrite_inRange _ _ _ _ hs
  | mcountinhibitWrite => exact execMcountinhibitWrite_inRange _ _ _ hs
  | counterWrap => exact execCounterWrap_inRange _ _ _ hs
  | notchctlWrite => exact execNotchctlWrite_inRange _ _ _ _ hs
  | notchRegisterWrite => exact execNotchRegisterWrite_inRange _ _ _ _ _ hs
  | mnotchdelegWrite => exact execMnotchdelegWrite_inRange _ _ _ hs
  | notchTag => exact execNotchTag_inRange _ _ hs
  | notchWrite => exact execNotchWrite_inRange _ _ _ hs
  | mtimeTick => exact execMtimeTick_inRange _ hs
  | mtimeWrite => exact execMtimeWrite_inRange _ _ _ hs
  | mtimecmpWrite => exact execMtimecmpWrite_inRange _ _ _ _ hs
  | msiWrite => exact execMsiWrite_inRange _ _ _ _ _ hs
  | debugHaltRequest => exact execDebugHaltRequest_inRange _ _ hs
  | rdS => exact execRdS_inRange _ _ hs
  | rdU => exact execRdU_inRange _ _ hs
  | upg => exact execUpg_inRange _ _ hs
  | rdNc => exact execRdNc_inRange _ _ hs
  | wrNc => exact execWrNc_inRange _ _ _ hs
  | atomNc => exact execAtomNc_inRange _ _ _ _ _ hs
  | wb => exact execWb_inRange _ _ hs
  | wbKeep => exact execWbKeep_inRange _ _ hs
  | cboClean => exact execCboClean_inRange _ _ hs
  | cboFlush => exact execCboFlush_inRange _ _ hs
  | cboInval => exact execCboInval_inRange _ _ hs
  | cboZero => exact execCboZero_inRange _ _ hs
  | lockFill => exact execLockFill_inRange _ _ hs
  | snpFwdS => exact execSnpFwdS_inRange _ _ hs
  | snpFwdU => exact execSnpFwdU_inRange _ _ hs
  | snpInv => exact execSnpInv_inRange _ _ hs
  | snpClean => exact execSnpClean_inRange _ _ hs
  | snpFlush => exact execSnpFlush_inRange _ _ hs
  | snpDrop => exact execSnpDrop_inRange _ _ hs
  | rspInvAck => exact execRspInvAck_inRange _ _ hs
  | rspFwdDone => exact execRspFwdDone_inRange _ _ hs
  | rspCleanDone => exact execRspCleanDone_inRange _ _ hs
  | rspNotheld => exact execRspNotheld_inRange _ _ hs
  | wbCancel => exact execWbCancel_inRange _ _ hs
  | compAck => exact execCompAck_inRange _ _ hs
  | goU => exact execGoU_inRange _ _ hs
  | goDone => exact execGoDone_inRange _ _ hs
  | wbPull => exact execWbPull_inRange _ _ hs
  | wbStale => exact execWbStale_inRange _ _ hs
  | wrPull => exact execWrPull_inRange _ _ hs
  | err => exact execErr_inRange _ _ hs
  | dataS => exact execDataS_inRange _ _ _ hs
  | dataF => exact execDataF_inRange _ _ _ hs
  | dataE => exact execDataE_inRange _ _ _ hs
  | dataM => exact execDataM_inRange _ _ _ hs
  | snpData => exact execSnpData_inRange _ _ _ hs
  | wbData => exact execWbData_inRange _ _ _ hs
  | ncRdata => exact execNcRdata_inRange _ _ _ hs
  | ncWdata => exact execNcWdata_inRange _ _ _ _ hs
  | mgmt => exact execMgmt_inRange _ _ hs
  | domainDown => exact execDomainDown_inRange _ _ hs
  | unknownMessageDiscard dst src cls opcode => exact execUnknownMessageDiscard_inRange dst src cls opcode s hs
  | bayFillInstall => exact execBayFillInstall_inRange _ _ _ hs
  | snoopTimeout => exact execSnoopTimeout_inRange _ _ _ hs
  | fatalEvent => exact execFatalEvent_inRange _ _ _ _ hs
  | tenonFlitReceived => exact execTenonFlitReceived_inRange _ _ _ hs
  | tenonParityError => exact execTenonParityError_inRange _ _ _ _ _ _ hs
  | nak n d seq g cnt => exact execNak_inRange n d seq g cnt s hs
  | nakResendTimeout => exact execNakResendTimeout_inRange _ _ _ hs
  | credit => exact execCredit_inRange _ _ _ _ _ _ _ _ hs
  | steerReq => exact execSteerReq_inRange _ _ _ _ _ _ hs
  | steerAck => exact execSteerAck_inRange _ _ _ _ _ _ _ hs
  | steerReqResend => exact execSteerReqResend_inRange _ _ _ hs
  | retireReq => exact execRetireReq_inRange _ _ _ _ _ hs
  | retireAck => exact execRetireAck_inRange _ _ _ _ _ hs
  | rotReq => exact execRotReq_inRange _ _ _ _ hs
  | rotAck => exact execRotAck_inRange _ _ _ _ _ hs
  | layoutSwitch => exact execLayoutSwitch_inRange _ _ _ hs
  | clockLockLoss => exact execClockLockLoss_inRange _ _ _ _ hs
  | leakPeriod => exact execLeakPeriod_inRange _ _ _ hs
  | rotationPeriod => exact execRotationPeriod_inRange _ _ _ hs
  | rotationTestEnd => exact execRotationTestEnd_inRange _ _ _ _ hs
  | sidebandCopyFailure => exact execSidebandCopyFailure_inRange _ _ _ _ hs
  | park => exact execPark_inRange _ _ hs
  | wake => exact execWake_inRange _ _ hs
  | readQueued => exact execReadQueued_inRange _ _ _ _ hs
  | writeQueued => exact execWriteQueued_inRange _ _ _ _ hs
  | readDataReturn => exact execReadDataReturn_inRange _ _ _ _ hs
  | writeBurstDone => exact execWriteBurstDone_inRange _ _ _ hs
  | refreshDue => exact execRefreshDue_inRange _ _ _ hs
  | mr4Read => exact execMr4Read_inRange _ _ _ _ hs
  | moduleSensorRead => exact execModuleSensorRead_inRange _ _ _ _ hs
  | actSelection => exact execActSelection_inRange _ _ _ _ _ hs
  | powerDownEntry => exact execPowerDownEntry_inRange _ _ _ hs
  | selfRefreshEntry => exact execSelfRefreshEntry_inRange _ _ _ hs
  | pageIdleClose => exact execPageIdleClose_inRange _ _ _ _ hs
  | driftTrack => exact execDriftTrack_inRange _ _ hs
  | deviceCountLeak => exact execDeviceCountLeak_inRange _ _ hs
  | patrolRead => exact execPatrolRead_inRange _ _ _ hs
  | bayPatrolStep => exact execBayPatrolStep_inRange _ _ _ hs
  | clearRegion => exact execClearRegion_inRange _ _ _ hs
  | clearDone => exact execClearDone_inRange _ _ hs
  | bandwidthWindow => exact execBandwidthWindow_inRange _ _ hs
  | channelTrainingDone => exact execChannelTrainingDone_inRange _ _ _ hs
  | purlinFlitReceived => exact execPurlinFlitReceived_inRange _ _ _ _ _ hs
  | purlinFlitError => exact execPurlinFlitError_inRange _ _ hs
  | purlinNak => exact execPurlinNak_inRange _ _ _ hs
  | fastRetrain => exact execFastRetrain_inRange _ _ _ hs
  | purlinLinkLost => exact execPurlinLinkLost_inRange _ _ hs
  | identityUnit => exact execIdentityUnit_inRange _ _ _ hs
  | join => exact execJoin_inRange _ _ hs
  | joinDeadline => exact execJoinDeadline_inRange _ _ hs
  | timeExchange => exact execTimeExchange_inRange _ _ hs
  | ridgeRead => exact execRidgeRead_inRange _ _ _ hs
  | ridgeWrite => exact execRidgeWrite_inRange _ _ _ hs
  | writePosted => exact execWritePosted_inRange _ _ _ hs
  | ridgeAtomic => exact execRidgeAtomic_inRange _ _ _ hs
  | ridgeFence => exact execRidgeFence_inRange _ _ _ hs
  | resp => exact execResp_inRange _ _ _ hs
  | linkAck => exact execLinkAck_inRange _ _ _ _ _ _ _ hs
  | linkIdent => exact execLinkIdent_inRange _ _ _ _ _ _ _ _ hs
  | nodeAssign => exact execNodeAssign_inRange _ _ _ hs
  | nodeConfirm p id refused => exact execNodeConfirm_inRange p id refused s hs
  | ridgeCodewordError => exact execRidgeCodewordError_inRange _ _ _ hs
  | ridgeRequestTimeout => exact execRidgeRequestTimeout_inRange _ _ _ hs
  | ridgeTagQuarantineEnd => exact execRidgeTagQuarantineEnd_inRange _ _ _ hs
  | inboundRequest => exact execInboundRequest_inRange _ _ _ hs
  | intxMessage => exact execIntxMessage_inRange _ _ _ _ _ hs
  | completion => exact execCompletion_inRange _ _ _ _ _ _ _ hs
  | completionTimeout => exact execCompletionTimeout_inRange _ _ _ _ hs
  | pcieTagQuarantineEnd => exact execPcieTagQuarantineEnd_inRange _ _ _ _ hs
  | dpcTrigger => exact execDpcTrigger_inRange _ _ _ hs
  | portLinkEvent => exact execPortLinkEvent_inRange _ _ _ _ hs
  | cxlLinkDown => exact execCxlLinkDown_inRange _ _ _ hs
  | linkPowerIdle => exact execLinkPowerIdle_inRange _ _ _ _ hs
  | dtCmdTailWrite => exact execDtCmdTailWrite_inRange _ _ _ hs
  | ringSlotFetch => exact execRingSlotFetch_inRange _ _ _ _ _ hs
  | dtRplHeadWrite => exact execDtRplHeadWrite_inRange _ _ _ hs
  | dtRingCfgWrite => exact execDtRingCfgWrite_inRange _ _ _ hs
  | dtNqPop => exact execDtNqPop_inRange _ _ _ hs
  | dtWinCommit => exact execDtWinCommit_inRange _ _ _ hs
  | barResize => exact execBarResize_inRange _ _ _ hs
  | recoveryWindowAccess => exact execRecoveryWindowAccess_inRange _ _ _ hs
  | fundamentalReset => exact execFundamentalReset_inRange _ _ hs
  | hotReset => exact execHotReset_inRange _ _ hs
  | functionLevelReset => exact execFunctionLevelReset_inRange _ _ hs
  | getInfo => exact execGetInfo_inRange _ _ _ hs
  | getStatus => exact execGetStatus_inRange _ _ _ hs
  | abort => exact execAbort_inRange _ _ _ hs
  | echo => exact execEcho_inRange _ _ _ hs
  | setMode => exact execSetMode_inRange _ _ _ hs
  | getMode => exact execGetMode_inRange _ _ _ hs
  | frameReset => exact execFrameReset_inRange _ _ _ hs
  | studReset => exact execStudReset_inRange _ _ _ hs
  | setPowerCap => exact execSetPowerCap_inRange _ _ _ hs
  | getPower => exact execGetPower_inRange _ _ _ hs
  | setDomainState => exact execSetDomainState_inRange _ _ _ hs
  | setPerfPolicy => exact execSetPerfPolicy_inRange _ _ _ hs
  | setCooling => exact execSetCooling_inRange _ _ _ hs
  | getThermalModel => exact execGetThermalModel_inRange _ _ _ hs
  | scrubRange => exact execScrubRange_inRange _ _ _ hs
  | injectError => exact execInjectError_inRange _ _ _ hs
  | checkerSelftest => exact execCheckerSelftest_inRange _ _ _ hs
  | getErrorLog => exact execGetErrorLog_inRange _ _ _ hs
  | memTrainSave => exact execMemTrainSave_inRange _ _ _ hs
  | bayLockRange => exact execBayLockRange_inRange _ _ _ hs
  | bayUnlock => exact execBayUnlock_inRange _ _ _ hs
  | benchConfig => exact execBenchConfig_inRange _ _ _ hs
  | bayFlushRange => exact execBayFlushRange_inRange _ _ _ hs
  | bayInvalidate => exact execBayInvalidate_inRange _ _ _ hs
  | scribeFreeze => exact execScribeFreeze_inRange _ _ _ hs
  | scribeThaw => exact execScribeThaw_inRange _ _ _ hs
  | scribeRead => exact execScribeRead_inRange _ _ _ hs
  | scribeClear => exact execScribeClear_inRange _ _ _ hs
  | scribeFlush => exact execScribeFlush_inRange _ _ _ hs
  | linkStatus => exact execLinkStatus_inRange _ _ _ hs
  | tenonMapReadOne => exact execTenonMapReadOne_inRange _ _ _ hs
  | tenonMapReadAll => exact execTenonMapReadAll_inRange _ _ _ hs
  | tenonMapClear => exact execTenonMapClear_inRange _ _ _ hs
  | linkRetrain => exact execLinkRetrain_inRange _ _ _ hs
  | portPersonality => exact execPortPersonality_inRange _ _ _ hs
  | ridgeExportWrite => exact execRidgeExportWrite_inRange _ _ _ hs
  | ridgeExportClear => exact execRidgeExportClear_inRange _ _ _ hs
  | ridgeExportRead => exact execRidgeExportRead_inRange _ _ _ hs
  | ridgeExportClearAll => exact execRidgeExportClearAll_inRange _ _ _ hs
  | fwBegin => exact execFwBegin_inRange _ _ _ hs
  | fwChunk => exact execFwChunk_inRange _ _ _ hs
  | fwCommit => exact execFwCommit_inRange _ _ _ hs
  | fwSessionTimeout => exact execFwSessionTimeout_inRange _ hs
  | attest => exact execAttest_inRange _ _ _ hs
  | commandFinalReply => exact execCommandFinalReply_inRange _ _ _ _ hs
  | commandTimeout => exact execCommandTimeout_inRange _ _ _ hs
  | commandCrcFailure => exact execCommandCrcFailure_inRange _ _ _ _ hs
  | badOpcode => exact execBadOpcode_inRange _ _ _ _ hs
  | transportLost => exact execTransportLost_inRange _ _ hs
  | entdaa => exact execEntdaa_inRange _ _ hs
  | setEndpointId => exact execSetEndpointId_inRange _ _ hs
  | getEndpointId => exact execGetEndpointId_inRange _ hs
  | getEndpointUuid => exact execGetEndpointUuid_inRange _ hs
  | getMctpVersionSupport => exact execGetMctpVersionSupport_inRange _ hs
  | getMessageTypeSupport => exact execGetMessageTypeSupport_inRange _ hs
  | getVendorDefinedMessageSupport => exact execGetVendorDefinedMessageSupport_inRange _ hs
  | getVersion => exact execGetVersion_inRange _ _ _ hs
  | getCapabilities => exact execGetCapabilities_inRange _ _ _ hs
  | negotiateAlgorithms => exact execNegotiateAlgorithms_inRange _ _ _ _ _ hs
  | getDigests => exact execGetDigests_inRange _ _ _ hs
  | getCertificate => exact execGetCertificate_inRange _ _ _ _ _ _ hs
  | challenge t version slot nonce => exact execChallenge_inRange t version slot nonce s hs
  | getMeasurements t version index sign nonce => exact execGetMeasurements_inRange t version index sign nonce s hs
  | spdmUnsupportedRequest t version code => exact execSpdmUnsupportedRequest_inRange t version code s hs
  | selWrite => exact execSelWrite_inRange _ _ _ _ _ hs
  | nqPop => exact execNqPop_inRange _ _ _ hs
  | nqPopTimeout => exact execNqPopTimeout_inRange _ _ hs
  | nqLevelWrite => exact execNqLevelWrite_inRange _ _ _ hs
  | cmdqCmdTailWrite => exact execCmdqCmdTailWrite_inRange _ _ _ _ hs
  | cmdqRplHeadWrite => exact execCmdqRplHeadWrite_inRange _ _ _ _ hs
  | cmdqCfgWrite => exact execCmdqCfgWrite_inRange _ _ _ _ hs
  | bayCtlWrite => exact execBayCtlWrite_inRange _ _ _ _ hs
  | tenonThreshWrite => exact execTenonThreshWrite_inRange _ _ _ _ hs
  | upmuCtlWrite => exact execUpmuCtlWrite_inRange _ _ _ _ _ hs
  | upmuCntWrite => exact execUpmuCntWrite_inRange _ _ _ _ _ hs
  | upmuCounterWrap => exact execUpmuCounterWrap_inRange _ _ _ hs
  | cbqriOperation => exact execCbqriOperation_inRange _ _ _ _ hs
  | registerWrite => exact execRegisterWrite_inRange _ _ _ hs
  | vinSample => exact execVinSample_inRange _ _ _ hs
  | inputCurrentLimit => exact execInputCurrentLimit_inRange _ _ _ _ hs
  | stretchCapRestore => exact execStretchCapRestore_inRange _ hs
  | pwrfailNAssert => exact execPwrfailNAssert_inRange _ hs
  | pwrfailNRelease => exact execPwrfailNRelease_inRange _ hs
  | throttleNAssert => exact execThrottleNAssert_inRange _ hs
  | throttleNRelease => exact execThrottleNRelease_inRange _ hs
  | controlPeriod => exact execControlPeriod_inRange _ _ hs
  | studRaiseStep => exact execStudRaiseStep_inRange _ _ _ hs
  | coolStep => exact execCoolStep_inRange _ hs
  | coolantSample => exact execCoolantSample_inRange _ _ _ _ hs
  | coolantStale => exact execCoolantStale_inRange _ _ hs
  | coolantFallbackExit => exact execCoolantFallbackExit_inRange _ hs
  | thermalRefit => exact execThermalRefit_inRange _ _ _ _ _ _ _ hs
  | sensorSample => exact execSensorSample_inRange _ _ _ hs
  | thermtrip => exact execThermtrip_inRange _ hs
  | refclkLoss => exact execRefclkLoss_inRange _ hs
  | idlePromotionSleep => exact execIdlePromotionSleep_inRange _ _ hs
  | idlePromotionDeep => exact execIdlePromotionDeep_inRange _ _ hs
  | deepEntryStep => exact execDeepEntryStep_inRange _ _ _ hs
  | wakeEvent => exact execWakeEvent_inRange _ _ hs
  | arrayRetainEntry => exact execArrayRetainEntry_inRange _ _ hs
  | domainLowWake => exact execDomainLowWake_inRange _ _ hs
  | domainLowReturn => exact execDomainLowReturn_inRange _ _ hs
  | plumbRestart => exact execPlumbRestart_inRange _ hs
  | scribeSample => exact execScribeSample_inRange _ _ _ _ hs
  | scribeFreezeExpiry => exact execScribeFreezeExpiry_inRange _ hs
  | scribePeriodicFlush => exact execScribePeriodicFlush_inRange _ hs
  | scribeFlushEnd => exact execScribeFlushEnd_inRange _ _ hs
  | repairMapJournalWrite => exact execRepairMapJournalWrite_inRange _ hs
  | pwrgoodDeassert => exact execPwrgoodDeassert_inRange _
  | coldReset => exact execColdReset_inRange _ _ hs
  | exitFromOff => exact execExitFromOff_inRange _ _ hs
  | resetNAssert => exact execResetNAssert_inRange _ hs
  | resetNDeassert => exact execResetNDeassert_inRange _ _ hs
  | coreReset => exact execCoreReset_inRange _ _ hs
  | linkUp => exact execLinkUp_inRange _ _ _ _ hs
  | sparePrbsError => exact execSparePrbsError_inRange _ _ _ _ _ _ hs
  | commandSlot => exact execCommandSlot_inRange _ _ _ hs
  | cxlMemResponse => exact execCxlMemResponse_inRange _ _ _ _ _ hs
  | interruptTaken => exact execInterruptTaken_inRange _ _ hs
  | instructionFetch => exact execInstructionFetch_inRange _ _ _ _ hs
  | debugUart => exact execDebugUart_inRange _ hs
  | dtBarRegisterWrite => exact execDtBarRegisterWrite_inRange _ _ _ _ _ hs
  | hostConfigWrite => exact execHostConfigWrite_inRange _ _ _ _ hs

/-- A step carries out the front command on the rest of the queue. -/
theorem step_inRange (s : State) (hs : ThreshInRange s.threshold) : Res.InRange (step s) := by
  unfold step
  split
  · exact (Res.inRange_next s).2 hs
  · exact exec_inRange _ _ hs

/-- Settles O59: the register is written only by a write of the tenon window, which checks the fields, and by the resets, which put
0x0A0A10 there. -/
theorem tenonThreshStaysInRange : Obligations.TenonThreshStaysInRange := by
  intro s t hs hstep
  exact t.threshOk_iff.2 (step_inRange s (s.threshOk_iff.1 hs) t hstep)

end Sys2Proof.Machine
end

section
/-! PROOF. A hart's accesses of I/O regions (O57): the paths that lead to devices, a hart in M-mode with nothing outstanding, what issuing
an access and draining the store queue come to on such a path, what control space and root ports answer, and the clauses. -/

namespace Sys2Proof.Machine

/-! ## Regions and paths of devices (R65, R284) -/

theorem State.region_control (s : State) (f : Nat) {off : Nat} (h : off < 2 ^ 32) : s.region f (controlBase + off) = .control off := by
  have hc : controlBase ≤ controlBase + off ∧ controlBase + off < flashBase := by simp only [controlBase, flashBase]; omega
  have hlow : ¬ (0xC0000000 ≤ controlBase + off ∧ controlBase + off < 0x100000000) := by simp only [controlBase]; omega
  have hdram : ¬ controlBase + off < 2 ^ 43 := by simp only [controlBase]; omega
  have hbench : ¬ (benchBase 0 ≤ controlBase + off ∧ controlBase + off < benchBase 12) := by
    simp only [controlBase, benchBase]; omega
  simp only [State.region, if_neg hlow, if_neg hdram, if_neg hbench, if_pos hc, Nat.add_sub_cancel_left, if_pos h]

/-- Which region an offset of a PCIe or CXL host port's space names, in the view of the port's own frame (R284). -/
theorem State.region_port {s : State} {f p off : Nat} (hp : p < 8) (hoff : off < 2 ^ 41) (hf : s.frameOfPort p = f)
    (hpers : (s.port p).pers = 1 ∨ (s.port p).pers = 2) :
    s.region f (portBase p + off) = if off < 0x10000000 then .ecam p off else .pcie p (portBase p + off) := by
  have hlow : ¬ (0xC0000000 ≤ portBase p + off ∧ portBase p + off < 0x100000000) := by simp only [portBase]; omega
  have hdram : ¬ portBase p + off < 2 ^ 43 := by simp only [portBase]; omega
  have hbench : ¬ (benchBase 0 ≤ portBase p + off ∧ portBase p + off < benchBase 12) := by simp only [portBase, benchBase]; omega
  have hctl : ¬ (controlBase ≤ portBase p + off ∧ portBase p + off < flashBase) := by
    simp only [portBase, controlBase, flashBase]; omega
  have hflash : ¬ (flashBase ≤ portBase p + off ∧ portBase p + off < flashBase + 0x2000000) := by
    simp only [portBase, flashBase]; omega
  have hport : portBase 0 ≤ portBase p + off ∧ portBase p + off < portBase 8 := by simp only [portBase]; omega
  have hdiv : (portBase p + off - portBase 0) / 0xE0000000000 = p := by simp only [portBase]; omega
  have hmod : (portBase p + off - portBase 0) % 0xE0000000000 = off := by simp only [portBase]; omega
  simp only [State.region, if_neg hlow, if_neg hdram, if_neg hbench, if_neg hctl, if_neg hflash, if_pos hport, hdiv, hmod, hf,
    if_pos hpers, if_pos hoff, ne_eq, not_true_eq_false, if_false]

/-- An access on one page whose first and last byte lie in I/O regions takes the path of the first, unless the last denies it or a dovetail
port's window asks for its own enable (R52, R65). -/
theorem State.path_of_io {s : State} {c : Nat} {a : Acc} {r q : Region} (hsplit : a.split = 0)
    (hr : s.region (s.frameOfCore c) a.pa = r) (hq : s.region (s.frameOfCore c) (a.pa + (a.size - 1)) = q)
    (hio : r.io = true) (hqio : q.io = true) (hout : ∀ n o, r ≠ .outbound n o) (hden : q.path a ≠ .denied) :
    s.path c a = r.path a := by
  have hmain : ∀ x : Region, x.io = true → x.main = false ∧ x ≠ .nowhere := by rintro (_ | _) <;> simp [Region.io, Region.main]
  have hcache : r.path a ≠ .cache := by
    cases r with
    | control | ecam | pcie | outbound => simp only [Region.path]; split_ifs <;> simp
    | _ => simp [Region.io] at hio
  obtain ⟨hrm, -⟩ := hmain r hio
  obtain ⟨hqm, hqn⟩ := hmain q hqio
  simp only [State.path, accByte, hsplit, true_or, if_true, hr, hq, hrm, hqm, hqn, hden, hcache, ne_eq, not_true_eq_false, false_and,
    and_false, or_self, if_false]

/-- A load or a store on one page, of a natural size from lo to hi bytes at an address that is a multiple of it: the accesses that
devices take (R65). -/
structure DeviceAcc (a : Acc) (lo hi : Nat) : Prop where
  kind : a.kind = .load ∨ a.kind = .store
  split : a.split = 0
  size : a.size = 1 ∨ a.size = 2 ∨ a.size = 4 ∨ a.size = 8
  low : lo ≤ a.size
  high : a.size ≤ hi
  aligned : a.pa % a.size = 0

theorem DeviceAcc.ioSize_eq {a : Acc} {lo hi : Nat} (h : DeviceAcc a lo hi) : ioSize a.pa a.size lo hi = true := by
  simp [ioSize, h.low, h.high, h.aligned, h.size, or_assoc]

theorem DeviceAcc.kind_beq {a : Acc} {lo hi : Nat} (h : DeviceAcc a lo hi) : (a.kind == .load || a.kind == .store) = true := by
  simpa using h.kind

theorem DeviceAcc.not_hint {a : Acc} {lo hi : Nat} (h : DeviceAcc a lo hi) : a.kind.hint = false := by
  rcases h.kind with h | h <;> rw [h] <;> rfl

theorem DeviceAcc.not_cbo {a : Acc} {lo hi : Nat} (h : DeviceAcc a lo hi) : a.kind.cbo = false := by
  rcases h.kind with h | h <;> rw [h] <;> rfl

theorem Region.path_control {a : Acc} (h : DeviceAcc a 4 8) (off : Nat) : (Region.control off).path a = .ctl off := by
  simp [Region.path, h.not_hint, h.not_cbo, h.kind_beq, h.ioSize_eq]

theorem Region.path_ecam {a : Acc} (h : DeviceAcc a 1 4) (p off : Nat) : (Region.ecam p off).path a = .ecam p off := by
  simp [Region.path, h.not_hint, h.not_cbo, h.kind_beq, h.ioSize_eq]

theorem Region.path_pcie {a : Acc} (h : DeviceAcc a 1 8) (p pa : Nat) : (Region.pcie p pa).path a = .pcie p pa := by
  simp [Region.path, h.not_hint, h.not_cbo, h.kind_beq, h.ioSize_eq]

theorem State.path_control (s : State) (c : Nat) {a : Acc} {off : Nat} (h : DeviceAcc a 4 8) (hpa : a.pa = controlBase + off)
    (hoff : off + 8 ≤ 2 ^ 32) : s.path c a = .ctl off := by
  have hsize := h.high
  have hfirst : s.region (s.frameOfCore c) a.pa = .control off := hpa ▸ s.region_control _ (by omega)
  have hlast : s.region (s.frameOfCore c) (a.pa + (a.size - 1)) = .control (off + (a.size - 1)) := by
    rw [hpa, Nat.add_assoc]
    exact s.region_control _ (by omega)
  rw [State.path_of_io h.split hfirst hlast rfl rfl (by simp) (by simp [Region.path_control h]), Region.path_control h]

theorem State.path_ecam {s : State} {c p off : Nat} {a : Acc} (h : DeviceAcc a 1 4) (hpa : a.pa = portBase p + off) (hp : p < 8)
    (hoff : off + 4 ≤ 0x10000000) (hf : s.frameOfPort p = s.frameOfCore c) (hpers : (s.port p).pers = 1 ∨ (s.port p).pers = 2) :
    s.path c a = .ecam p off := by
  have hsize := h.high
  have hregion : ∀ o, o < 0x10000000 → s.region (s.frameOfCore c) (portBase p + o) = .ecam p o := fun o ho => by
    rw [State.region_port hp (by omega) hf hpers, if_pos ho]
  have hfirst : s.region (s.frameOfCore c) a.pa = .ecam p off := hpa ▸ hregion off (by omega)
  have hlast : s.region (s.frameOfCore c) (a.pa + (a.size - 1)) = .ecam p (off + (a.size - 1)) := by
    rw [hpa, Nat.add_assoc]
    exact hregion _ (by omega)
  rw [State.path_of_io h.split hfirst hlast rfl rfl (by simp) (by simp [Region.path_ecam h]), Region.path_ecam h]

theorem State.path_pcie {s : State} {c p : Nat} {a : Acc} (h : DeviceAcc a 1 8)
    (hpa : portBase p + 0x10000000 ≤ a.pa ∧ a.pa < portBase p + 2 ^ 41) (hp : p < 8) (hf : s.frameOfPort p = s.frameOfCore c)
    (hpers : (s.port p).pers = 1 ∨ (s.port p).pers = 2) : s.path c a = .pcie p a.pa := by
  have hregion : ∀ x, portBase p + 0x10000000 ≤ x → x < portBase p + 2 ^ 41 → s.region (s.frameOfCore c) x = .pcie p x := by
    intro x hlo hhi
    obtain ⟨o, rfl⟩ := Nat.exists_eq_add_of_le (show portBase p ≤ x by omega)
    rw [State.region_port hp (by omega) hf hpers, if_neg (by omega)]
  have hlast : a.pa + (a.size - 1) < portBase p + 2 ^ 41 := by
    have hal := h.aligned
    have hsz := h.size
    simp only [portBase] at hpa ⊢
    rcases hsz with hs | hs | hs | hs <;> rw [hs] at hal ⊢ <;> omega
  rw [State.path_of_io h.split (hregion _ hpa.1 hpa.2) (hregion _ (by omega) hlast) rfl rfl (by simp)
    (by simp [Region.path_pcie h]), Region.path_pcie h]

/-! ## A hart with nothing outstanding -/

/-- Nothing of the hart is outstanding: no access waits or is in flight, no fence is pending, the store queue is empty. -/
structure Pipe.Clear (p : Pipe) : Prop where
  waits : p.waits = []
  slots : p.slots = []
  fence : p.fence = []
  poison : p.poison = none
  rob : p.rob = []
  stall : p.stall = none
  storeQ : p.storeQ = []

theorem Core.quiet.clear {k : Core} (h : k.quiet) : k.pipe.Clear := by
  obtain ⟨⟨-, -, -, -, hw, hs, hf, hp, -, -, hr, hst⟩, hq⟩ := h
  exact ⟨hw, hs, hf, hp, hr, hst, hq⟩

section
variable {p : Pipe}

theorem Pipe.Clear.unperformed (h : p.Clear) : p.unperformed = [] := by simp [Pipe.unperformed, h.slots, h.waits]

theorem Pipe.Clear.headed (h : p.Clear) (n : Nat) : p.headed n = true := by
  simp [Pipe.headed, Pipe.hasOlder, h.unperformed, h.poison, h.storeQ, h.stall, h.rob, h.fence]

theorem Pipe.Clear.first (h : p.Clear) {w : Wait} (hw : w.acc.kind ≠ .fetch) : p.first w = true := by
  simp [Pipe.first, hw, h.headed]

theorem Pipe.Clear.takeSlot (h : p.Clear) : p.takeSlot .unc = some 80 := by
  rw [Pipe.takeSlot, h.slots]; rfl

theorem Pipe.Clear.missesUsed (h : p.Clear) : p.missesUsed = 0 := by simp [Pipe.missesUsed, h.slots]

theorem Pipe.Clear.room (h : p.Clear) (a : Acc) : p.room a = true := by
  simp only [Pipe.room, h.unperformed, h.rob, h.fence]
  cases a.dest <;> simp

end

theorem Pipe.Clear.fenced {k : Core} (h : k.pipe.Clear) (w : Wait) (io : Bool) : k.fenced w io = false := by
  simp [Core.fenced, h.fence]

theorem Pipe.Clear.held {k : Core} (h : k.pipe.Clear) (w : Wait) : k.held w = false := by
  simp [Core.held, h.unperformed, h.slots]

theorem Pipe.Clear.ioBusy {s : State} {c : Nat} (h : (s.core c).pipe.Clear) {w : Wait} (hw : w.acc.kind ≠ .fetch) :
    s.ioBusy c w = false := by
  simp [State.ioBusy, h.first hw, h.slots, h.storeQ]

/-! ## An I/O access tried -/

/-- The paths to control space and to root ports. -/
def Path.toDevice : Path → Bool
  | .ctl _ | .ecam _ _ | .pcie _ _ => true
  | _ => false

/-- A load on its way to a device acts while the link of its stud is UP, and waits while it is not (R11). -/
theorem State.perform_ioLoad {s : State} {c : Nat} {w : Wait} {p : Path} (hc : (s.core c).pipe.Clear) (hw : w.acc.kind = .load)
    (hp : s.path c w.acc = p) (hd : p.toDevice = true) :
    s.perform c w = if s.studLinked c then s.doIoLoad c w p else none := by
  have hbusy := Pipe.Clear.ioBusy hc (w := w) (by simp [hw])
  have hheld := Pipe.Clear.held hc w
  simp only [State.perform, hp, hw, hbusy, hheld]
  cases p with
  | ctl | ecam | pcie =>
    cases s.studLinked c <;> simp [Path.leaves, AccKind.oldestOnly, AccKind.needsDrain, AccKind.cbo]
  | _ => simp [Path.toDevice] at hd

theorem State.tryTranslated_ioLoad {s t : State} {c : Nat} {w : Wait} {p : Path} (hc : (s.core c).pipe.Clear)
    (hw : w.acc.kind = .load) (hp : s.path c w.acc = p) (hd : p.toDevice = true) (hl : s.studLinked c = true)
    (ht : s.doIoLoad c w p = some t) : s.tryTranslated c w = t := by
  simp [State.tryTranslated, hc.fenced, State.perform_ioLoad hc hw hp hd, hl, ht]

theorem State.tryTranslated_ioLoad_unlinked {s : State} {c : Nat} {w : Wait} {p : Path} (hc : (s.core c).pipe.Clear)
    (hw : w.acc.kind = .load) (hp : s.path c w.acc = p) (hd : p.toDevice = true) (hl : s.studLinked c = false) :
    s.tryTranslated c w = s.setCore c ((s.core c).addWait w) := by
  simp [State.tryTranslated, hc.fenced, State.perform_ioLoad hc hw hp hd, hl]

/-- A store to control space that names no register raises its access fault at issue (R341). -/
theorem State.tryTranslated_store_denied {s : State} {c : Nat} {w : Wait} {p : Path} (hc : (s.core c).pipe.Clear)
    (hw : w.acc.kind = .store) (hs : w.acc.split = 0) (hdest : w.acc.dest = .none) (hp : s.path c w.acc = p)
    (hd : s.ctlDenied c w.acc p = true) :
    s.tryTranslated c w = s.fault c 7 w := by
  have hfirst := hc.first (w := w) (by simp [hw])
  simp [State.tryTranslated, hc.fenced, State.perform, hw, hp, hd, hfirst, State.faultAcc, hdest, State.deniedVa, hs, State.fault,
    AccKind.causeType, accessFault]

/-! ## One core changed -/

/-- Of the state before, core c alone has changed: it is k now. -/
structure State.SetsCore (s t : State) (c : Nat) (k : Core) : Prop where
  core : t.core c = k
  others : ∀ d, d ≠ c → t.core d = s.core d
  beside : t = { s with cores := t.cores }

theorem State.setsCore_setCore (s : State) (c : Nat) (k : Core) : s.SetsCore (s.setCore c k) c k :=
  ⟨State.core_setCore_same .., fun d hd => State.core_setCore_ne s c d k hd, rfl⟩

theorem State.SetsCore.trans {s t u : State} {c : Nat} {k l : Core} (h : s.SetsCore t c k) (h' : t.SetsCore u c l) : s.SetsCore u c l :=
  ⟨h'.core, fun d hd => (h'.others d hd).trans (h.others d hd), by rw [h'.beside, h.beside]⟩

theorem State.SetsCore.setCore {s t : State} {c : Nat} {k : Core} (h : s.SetsCore t c k) (l : Core) : s.SetsCore (t.setCore c l) c l :=
  h.trans (t.setsCore_setCore c l)

/-- What core k has as before, every core has. -/
theorem State.SetsCore.keeps {s t : State} {c : Nat} {k : Core} {α : Type} (h : s.SetsCore t c k) (f : Core → α)
    (hf : f k = f (s.core c)) (j : Nat) : f (t.core j) = f (s.core j) := by
  by_cases hj : j = c
  · rw [hj, h.core, hf]
  · rw [h.others j hj]

/-- What a change of one core leaves beside the cores. -/
theorem State.SetsCore.frame {s t : State} {c : Nat} {k : Core} (h : s.SetsCore t c k) :
    t.homes = s.homes ∧ t.mem = s.mem ∧ t.net = s.net ∧ t.frames = s.frames := by
  rw [h.beside]
  exact ⟨rfl, rfl, rfl, rfl⟩

theorem State.SetsCore.port {s t : State} {c : Nat} {k : Core} (h : s.SetsCore t c k) (p : Nat) : t.port p = s.port p := by
  rw [h.beside]
  rfl

theorem State.SetsCore.onlyRegs {s t : State} {c : Nat} {k : Core} {r : Regs} (h : s.SetsCore t c k)
    (hk : k = { s.core c with regs := r, pipe := k.pipe }) : s.onlyRegs t c r :=
  ⟨by rw [h.core]; exact hk, h.others, by rw [h.beside]⟩

/-! ## An access issued in M-mode -/

theorem Core.xkind_machine {k : Core} {ctx : Ctx} (hp : ctx.priv = 3) (hv : ctx.virt = false) : k.xkind ctx = none := by
  simp [Core.xkind, hp, hv]

/-- M-mode with MPRV clear accesses with its own privilege (the privileged architecture, R51). -/
theorem Core.ctxOf_machine {k : Core} (h : k.quiet) (kind : AccKind) :
    (k.ctxOf kind false).priv = 3 ∧ (k.ctxOf kind false).virt = false := by
  obtain ⟨⟨-, hp, hv, hm, -⟩, -⟩ := h
  have hm : (k.csr Csr.mstatus).getLsbD 17 = false := hm
  simp only [Core.ctxOf, hm, hp, hv, Bool.false_and, Bool.false_eq_true, if_false, and_self]

theorem Core.maskVa_machine {k : Core} {ctx : Ctx} (hp : ctx.priv = 3) (hv : ctx.virt = false) (va : Word) :
    k.maskVa ctx false va = va := by
  have hpmm : k.pmm ctx false = 0 := by simp [Core.pmm, hp, hv]
  simp [Core.maskVa, hpmm, Core.xkind_machine hp hv]

/-- An access of an address space that is not translated reaches the physical address that equals its virtual one (R91). -/
theorem Core.translate_bare {k : Core} {a : Acc} {ctx : Ctx} (hx : k.xkind ctx = none) (hpage : pageSplit a.va a.size = 0) :
    k.translate a ctx = .ok { a with pa := a.va.toNat, nc := false, io := false, split := 0 } := by
  simp [Core.translate, Core.lookup, hx, hpage]

theorem State.refillAcc_bare {s : State} {c : Nat} {ctx : Ctx} (hx : (s.core c).xkind ctx = none) (a : Acc) :
    s.refillAcc c a ctx = s := by
  simp [State.refillAcc, State.refill, hx]

/-- An aligned access of 1, 2, 4 or 8 bytes stays on one page (R52). -/
theorem pageSplit_aligned {va : Word} {size : Nat} (hs : size = 1 ∨ size = 2 ∨ size = 4 ∨ size = 8) (ha : va.toNat % size = 0) :
    pageSplit va size = 0 := by
  rw [pageSplit, if_pos]
  rcases hs with rfl | rfl | rfl | rfl <;> omega

/-- A load or store that a hart in M-mode has issued and translated: the next in program order. -/
def Core.issued (k : Core) (a : Acc) : Wait :=
  { acc := { a with guest := false, pa := a.va.toNat, nc := false, io := false, split := 0 }, ctx := k.ctxOf a.kind false,
    seq := k.pipe.seq, pc := k.regs.pc, ntl := k.pipe.ntl, xlated := true }

/-- What issuing leaves of the marks for the access just issued. -/
def Core.afterIssue (k : Core) : Core := { k with pipe := { k.pipe with trapped := false, ntl := none } }

theorem State.settle_of_rob {s : State} {c : Nat} (h : (s.core c).pipe.rob = []) : s.settle c = s := by simp [State.settle, h]

theorem Pipe.Clear.nextSeq {k : Core} (h : k.pipe.Clear) : k.nextSeq.pipe.Clear :=
  ⟨h.waits, h.slots, h.fence, h.poison, h.rob, h.stall, h.storeQ⟩

/-- The state in which core c issues an access: the next place in program order is another one. -/
abbrev State.issuing (s : State) (c : Nat) : State := s.setCore c (s.core c).nextSeq

theorem State.issuing_clear {s : State} {c : Nat} (hk : (s.core c).quiet) : ((s.issuing c).core c).pipe.Clear := by
  rw [State.core_setCore_same]
  exact (Core.quiet.clear hk).nextSeq

/-- The access at the front of a quiet hart in M-mode is tried, translated, at once (R55, R59). -/
theorem State.tryOne_machine {s : State} {c : Nat} {k : Core} {a : Acc} (hk : k.quiet) (hc : s.core c = k.nextSeq)
    (ha : a.kind = .load ∨ a.kind = .store) (hpage : pageSplit a.va a.size = 0) :
    s.tryOne c { acc := { a with guest := false }, ctx := k.ctxOf a.kind false, seq := k.pipe.seq, pc := k.regs.pc, ntl := k.pipe.ntl } =
      s.tryTranslated c (k.issued a) := by
  obtain ⟨hp, hv⟩ := Core.ctxOf_machine hk a.kind
  have hfence : (s.core c).pipe.fence = [] := by rw [hc]; exact (Core.quiet.clear hk).fence
  have hx : (s.core c).xkind (k.ctxOf a.kind false) = none := Core.xkind_machine hp hv
  have hmis : misaligned { a with guest := false } = none := by rcases ha with h | h <;> simp [misaligned, h]
  have htr := Core.translate_bare (k := s.core c) (a := { a with guest := false }) hx hpage
  simp [State.tryOne, Pipe.fencedAll, hfence, hmis, State.refillAcc_bare hx, htr, Core.issued]

/-- A load or store of a quiet hart in M-mode that, tried, leaves core k with no bound load and no miss ends its issue there (R54, R55). -/
theorem State.issue_machine {s u t : State} {c : Nat} {a : Acc} {k : Core} (hk : (s.core c).quiet) (ha : a.kind = .load ∨ a.kind = .store)
    (hpage : pageSplit a.va a.size = 0)
    (ht : (s.issuing c).tryTranslated c ((s.core c).issued a) = t)
    (hset : u.SetsCore t c k) (hrob : k.pipe.rob = []) (hmiss : k.pipe.missesUsed = 0) :
    u.SetsCore (s.issue c a false) c k.afterIssue := by
  obtain ⟨hp, hv⟩ := Core.ctxOf_machine hk a.kind
  have hclear := Core.quiet.clear hk
  have hfetch : a.kind ≠ .fetch := by rcases ha with h | h <;> simp [h]
  have htry := State.tryOne_machine (s := s.issuing c) (a := a) hk (State.core_setCore_same ..) ha hpage
  rw [ht] at htry
  have hissue : s.issue c a false = t.setCore c k.afterIssue := by
    simp [State.issue, hk.1.1, hclear.room, hfetch, Core.maskVa_machine hp hv, hv, State.tryAccess, htry,
      State.settle_of_rob (s := t) (c := c) (by rw [hset.core, hrob]), hset.core, hmiss, Core.afterIssue]
  exact hissue ▸ hset.setCore _

theorem State.guarded_legal {s : State} {c : Nat} (hrun : (s.core c).run = .run) (act : State → State) :
    s.guarded c 0 act = .next (act s) := by
  simp [State.guarded, hrun]

/-- A LOAD by a quiet hart in M-mode into a register whose unit is on issues its access. -/
theorem exec_load_machine {s : State} {c : CoreId} (va : Word) (size : Nat) {dest : Dest} (sext : Bool) (hk : (s.core c).quiet)
    (hd : (s.core c).destLegal dest = 0) :
    exec (.load c va size dest sext .no .none) s =
      .next (s.issue c { va := va, size := size, dest := dest, sext := sext } false) := by
  change execLoad c va size dest sext .no .none s = _
  have hno : (HypKind.no != .no) = false := by decide
  have hx : (HypKind.no == .hlvx) = false := by decide
  simp only [execLoad, hno, hx, Core.hlvLegal, Bool.not_false, if_true, ne_eq, not_true_eq_false, if_false, hd,
    State.guarded_legal hk.1.1]

/-- A STORE by a quiet hart in M-mode issues its access. -/
theorem exec_store_machine {s : State} {c : CoreId} (va : Word) (size : Nat) (v : BitVec 128) (hk : (s.core c).quiet) :
    exec (.store c va size v false) s = .next (s.issue c { kind := .store, va := va, size := size, data := v } false) := by
  change execStore c va size v false s = _
  simp only [execStore, Core.hlvLegal, Bool.not_false, if_true, State.guarded_legal hk.1.1]

/-! ## Control space -/

/-- An offset of control space in the gap behind the register windows or in the one below the interrupt files, where nothing is assigned
(R341). -/
def Unassigned (off : Nat) : Prop := 0xD0000 ≤ off ∧ off < 0x100000 ∨ 0x400000 ≤ off ∧ off < 0x40000000

theorem Unassigned.of_va {va : Word} (h : controlBase + 0xD0000 ≤ va.toNat ∧ va.toNat < controlBase + 0x100000 ∨
      controlBase + 0x400000 ≤ va.toNat ∧ va.toNat < controlBase + 0x40000000) :
    ∃ off, Unassigned off ∧ va.toNat = controlBase + off := by
  unfold Unassigned
  exact ⟨va.toNat - controlBase, by omega, by omega⟩

theorem Unassigned.below {off : Nat} (h : Unassigned off) : off + 8 ≤ 2 ^ 32 := by
  unfold Unassigned at h
  omega

theorem Unassigned.not_nq {off : Nat} (h : Unassigned off) : off / 0x10000 ≠ 9 := by
  unfold Unassigned at h
  omega

theorem State.ctlRead_unassigned {off : Nat} (h : Unassigned off) (s : State) (f c size : Nat) (dest : Dest) :
    s.ctlRead f c off size dest = .fault := by
  unfold Unassigned at h
  unfold State.ctlRead
  rw [if_neg (by omega), if_neg (by omega), if_neg (by omega), if_neg (by omega), if_neg (by omega), if_neg (by omega)]

theorem State.ctlWrite_unassigned {off : Nat} (h : Unassigned off) (s : State) (src f size : Nat) (v : Word) :
    s.ctlWrite src f off size v = none := by
  unfold Unassigned at h
  unfold State.ctlWrite State.filePut
  rw [if_neg (by omega), if_neg (by omega), if_neg (by omega), if_neg (by omega), if_neg (by omega), if_neg (by omega),
    if_neg (by omega)]

theorem State.ctlRead_mtime (s : State) (f c : Nat) (dest : Dest) :
    s.ctlRead f c 0x200000 8 dest = .value (s.mtimeOf f) s := rfl

theorem State.nqGoOn_of_idle {s : State} (h : s.nqWait = []) : s.nqGoOn = s := by simp [State.nqGoOn, h, State.nqResume]

/-- An access outside the NQ window waits behind no notice queue (R344). -/
theorem State.nqBlocked_of_ne {off : Nat} (h : off / 0x10000 ≠ 9) (s : State) (c : Nat) (pop : Bool) : s.nqBlocked c off pop = false := by
  simp [State.nqBlocked, h]

theorem State.doIoLoad_mtime {s : State} {c : Nat} {w : Wait} (hw : s.nqWait = []) (hs : w.acc.size = 8) :
    s.doIoLoad c w (.ctl 0x200000) =
      some (s.setCore c ((s.core c).deliverAcc w.acc (s.mtimeOf (s.frameOfCore c)).toNat)) := by
  simp [State.doIoLoad, State.nqGoOn_of_idle hw, State.nqBlocked_of_ne (off := 0x200000) (by decide), hs, State.ctlRead_mtime]

theorem State.doIoLoad_unassigned {s : State} {c : Nat} {w : Wait} {off : Nat} (hw : s.nqWait = []) (h : Unassigned off) :
    s.doIoLoad c w (.ctl off) = some (s.fault c 5 w) := by
  simp [State.doIoLoad, State.nqGoOn_of_idle hw, State.nqBlocked_of_ne h.not_nq, State.ctlRead_unassigned h]

theorem State.ctlDenied_unassigned {off : Nat} (h : Unassigned off) (s : State) (c : Nat) (a : Acc) :
    s.ctlDenied c a (.ctl off) = true := by
  simp [State.ctlDenied, State.ctlWrite_unassigned h]

/-! ## Root ports -/

/-- A load of bus 0, device i, function 0 of a port's configuration space delivers the root port's own word where there is one, else all
ones (R281, R292). -/
theorem State.doIoLoad_bus0 {s : State} {c n i off : Nat} {w : Wait} (hi : i < 32) (hoff : off < 4096) :
    s.doIoLoad c w (.ecam n (i * 2 ^ 15 + off)) = some (s.setCore c ((s.core c).deliverAcc w.acc
      (if (rootStarts (s.port n).lanes).any (fun e => e.1 == i) then (s.port n).rootRead i off w.acc.size
        else allOnes w.acc.size))) := by
  have hbus : bits (i * 2 ^ 15 + off) 27 20 = 0 := by simp only [bits]; omega
  have hdev : bits (i * 2 ^ 15 + off) 19 15 = i := by simp only [bits]; omega
  have hfun : bits (i * 2 ^ 15 + off) 14 12 = 0 := by simp only [bits]; omega
  have hword : (i * 2 ^ 15 + off) % 4096 = off := by omega
  simp only [State.doIoLoad, hbus, hdev, hfun, hword, if_true, true_and]

/-- A port on whose root port r a memory read alone is outstanding. -/
def Port.asked (k : Port) (r : Nat) (q : OutReq) : Port := (k.setRoot r ({ k.root r with out := [(0, q)] }.wake k.quarter)).transmits

/-- A port with no request outstanding or quarantined on root port r puts the next one there (R287, R294). -/
theorem Port.askRoot_idle {k : Port} {r : Nat} (hout : (k.root r).out = []) (hquar : (k.root r).quar = []) (q : OutReq) :
    k.askRoot r q = some (k.asked r q) := by
  have htag : ∀ wide, freeTag [] 0 (tagSpace wide) = some 0 := by rintro (_ | _) <;> rfl
  simp [Port.askRoot, Port.asked, hout, hquar, Tab.keys, htag, Tab.set, Tab.erase, Tab.insertAt]

@[simp] theorem Port.root_transmits (k : Port) (r : Nat) : k.transmits.root r = k.root r := by
  unfold Port.transmits; split <;> rfl

@[simp] theorem Port.root_setRoot_same (k : Port) (r : Nat) (v : Root) : (k.setRoot r v).root r = v := Tab.get_set_same ..

/-- The slot in which an access waits for its device. -/
def ioSlotOf (w : Wait) : Slot := { kind := .unc, line := w.acc.pa / 64, op := .rdNc, merged := [w] }

theorem Pipe.Clear.setSlot_slots {p : Pipe} (h : p.Clear) (w : Wait) : (p.setSlot 80 (ioSlotOf w)).slots = [(80, ioSlotOf w)] := by
  simp [Pipe.setSlot, h.slots, Tab.set, Tab.erase, Tab.insertAt]

theorem Pipe.Clear.setSlot_missesUsed {p : Pipe} (h : p.Clear) (w : Wait) : (p.setSlot 80 (ioSlotOf w)).missesUsed = 0 := by
  simp [Pipe.missesUsed, h.setSlot_slots]

theorem State.SetsCore.ioSlot {s u : State} {c : Nat} {k : Core} (h : s.SetsCore u c k) (i : Nat) (w : Wait) :
    s.SetsCore (u.ioSlot c i w) c { k with pipe := k.pipe.setSlot i (ioSlotOf w) } := by
  unfold State.ioSlot
  rw [h.core]
  exact h.setCore _

/-- The memory read that a load puts on a root port: its core's first slot for uncached accesses waits for it (R56, R292). -/
def Wait.rootReq (w : Wait) (c r pa : Nat) : OutReq :=
  { core := c, slot := 80, op := 1, node := r, addr := pa, len := w.acc.size, line := w.acc.pa / 64 }

theorem Port.asked_out (k : Port) (r : Nat) (q : OutReq) : ((k.asked r q).root r).out = [(0, q)] := by
  simp [Port.asked, Root.wake]

/-- A load that a root port which is up claims becomes a memory read on it, and the access waits in a slot (R292). -/
theorem State.doIoLoad_root {s : State} {c n pa r : Nat} {w : Wait} (hc : (s.core c).pipe.Clear) (hr : (s.port n).claimant pa = some r)
    (hup : ((s.port n).root r).up = true) (hout : ((s.port n).root r).out = []) (hquar : ((s.port n).root r).quar = []) :
    s.doIoLoad c w (.pcie n pa) = some ((s.setPort n ((s.port n).asked r (w.rootReq c r pa))).ioSlot c 80 w) := by
  simp only [State.doIoLoad, hr, hup, hc.takeSlot, Port.askRoot_idle hout hquar, Wait.rootReq, Bool.not_true,
    Bool.false_eq_true, if_false]

/-! ## Traps to M-mode -/

/-- A hart has taken an exception in M-mode: cause, value and pc stand in its CSRs, x is left, and nothing of it is outstanding. -/
structure Core.Trapped (k : Core) (cause : Nat) (va pc : Word) (x : Map Word) : Prop where
  mcause : k.csr Csr.mcause = BitVec.ofNat 64 cause
  mtval : k.csr Csr.mtval = va
  mepc : k.csr Csr.mepc = pc
  priv : k.regs.priv = 3
  x : k.regs.x = x
  storeQ : k.pipe.storeQ = []
  rob : k.pipe.rob = []
  slots : k.pipe.slots = []

theorem Core.Trapped.csrs {s t : State} {c : CoreId} {k : Core} {cause : Nat} {va pc : Word} {x : Map Word} (h : k.Trapped cause va pc x)
    (hset : s.SetsCore t c k) :
    (t.core c).csr Csr.mcause = BitVec.ofNat 64 cause ∧ (t.core c).csr Csr.mtval = va ∧ (t.core c).csr Csr.mepc = pc ∧
      (t.core c).regs.priv = 3 ∧ (t.core c).regs.x = x ∧ (t.core c).pipe.storeQ = [] ∧
      (∀ d, d ≠ c.val → t.core d = s.core d) ∧ t.homes = s.homes ∧ t.mem = s.mem ∧ t.net = s.net ∧ t.frames = s.frames := by
  rw [hset.core]
  exact ⟨h.mcause, h.mtval, h.mepc, h.priv, h.x, h.storeQ, hset.others, hset.frame⟩

theorem Regs.get_put_same (r : Regs) (n : Nat) (v : Word) : (r.put n v).get n = v := Tab.get_put_same ..

theorem Regs.get_put_ne (r : Regs) {n m : Nat} (v : Word) (h : m ≠ n) : (r.put n v).get m = r.get m :=
  Core.csr_setCsr_ne { regs := r } n m v h

theorem Core.loseResv_regs (k : Core) : k.loseResv.regs = k.regs := by
  unfold Core.loseResv Core.endWrs
  split
  · split <;> rfl
  · rfl

theorem Core.loseResv_pipe (k : Core) : k.loseResv.pipe = { k.pipe with resv := none } := by
  unfold Core.loseResv Core.endWrs
  split
  · split <;> rfl
  · next h =>
    have : k.pipe.resv = none := by simpa using h
    rw [← this]

theorem Regs.put_x (r : Regs) (n : Nat) (v : Word) : (r.put n v).x = r.x := rfl

/-- The CSRs read the same in another mode and at another pc. -/
theorem Regs.get_mode (r : Regs) (n priv : Nat) (virt : Bool) (pc : Word) :
    ({ r with priv := priv, virt := virt, pc := pc } : Regs).get n = r.get n := rfl

/-- What a trap out of M-mode writes (the privileged architecture; log entry 9). -/
theorem Regs.takeTrap_machine {r : Regs} {t : Trap} (hp : r.priv = 3) (hl : t.lvl = none) (hi : t.irq = false) :
    (r.takeTrap t).get Csr.mcause = BitVec.ofNat 64 t.cause ∧ (r.takeTrap t).get Csr.mtval = t.tval ∧
      (r.takeTrap t).get Csr.mepc = r.pc ∧ (r.takeTrap t).priv = 3 ∧ (r.takeTrap t).x = r.x := by
  have htarget : r.trapTarget t = 3 := by simp [Regs.trapTarget, hp, hl, hi]
  have hcause : causeWord t.irq t.cause = BitVec.ofNat 64 t.cause := by simp [causeWord, hi, b2n]
  simp only [Regs.takeTrap, htarget, hcause, Regs.get_mode]
  simp (disch := decide) only [Regs.get_put_ne, Regs.get_put_same, Regs.put_x, and_self]

theorem State.releaseHold_of_snpQ {s : State} {c : Nat} (h : (s.core c).pipe.snpQ = []) :
    s.releaseHold c = s.setCore c { s.core c with pipe := { (s.core c).pipe with hold := none, snpQ := [] } } := by
  simp [State.releaseHold, h]

/-- A hart in M-mode with nothing outstanding and no snoop deferred takes an exception (log entry 9). -/
theorem State.trapCore_machine {s : State} {c : Nat} {t : Trap} {pc : Word} (hc : (s.core c).pipe.Clear)
    (hsnp : (s.core c).pipe.snpQ = []) (hp : (s.core c).regs.priv = 3) (hl : t.lvl = none) (hi : t.irq = false) (hpc : t.pc = some pc) :
    ∃ k, s.SetsCore (s.trapCore c t) c k ∧ k.Trapped t.cause t.tval pc (s.core c).regs.x := by
  obtain ⟨hcause, htval, hepc, hpriv, hx⟩ := Regs.takeTrap_machine (t := t)
    (r := { (s.core c).regs with pc := pc, vstart := t.elem.getD (s.core c).regs.vstart }) hp hl hi
  unfold State.trapCore
  rw [State.releaseHold_of_snpQ (by simp [Core.loseResv_pipe, Pipe.squash, hsnp])]
  simp only [State.core_setCore_same, Core.loseResv_regs, Core.loseResv_pipe, hpc, Option.getD_some]
  exact ⟨_, (State.setsCore_setCore ..).setCore _,
    hcause, htval, hepc, hpriv, hx, hc.storeQ, rfl, by simp [Pipe.squash, hc.slots]⟩

/-- An access of a quiet hart in M-mode whose attempt faults ends its issue in the trap (R55). -/
theorem State.issue_fault {s : State} {c cause : Nat} {a : Acc} (hk : (s.core c).quiet) (ha : a.kind = .load ∨ a.kind = .store)
    (hsnp : (s.core c).pipe.snpQ = []) (hpage : pageSplit a.va a.size = 0)
    (ht : (s.issuing c).tryTranslated c ((s.core c).issued a) =
      (s.issuing c).fault c cause ((s.core c).issued a)) :
    ∃ k, s.SetsCore (s.issue c a false) c k ∧ k.Trapped cause a.va (s.core c).regs.pc (s.core c).regs.x := by
  have hnext : (s.issuing c).core c = (s.core c).nextSeq := State.core_setCore_same ..
  obtain ⟨k, hset, hk'⟩ := State.trapCore_machine (s := s.issuing c) (c := c) (t := ((s.core c).issued a).trap cause a.va)
    (State.issuing_clear hk) (by rw [hnext]; exact hsnp) (by rw [hnext]; exact hk.1.2.1) rfl rfl rfl
  rw [hnext] at hk'
  have hmiss : k.pipe.missesUsed = 0 := by simp [Pipe.missesUsed, hk'.slots]
  exact ⟨k.afterIssue, State.issue_machine hk ha hpage ht ((State.setsCore_setCore ..).trans hset) hk'.rob hmiss, { hk' with }⟩

theorem Core.deliverAcc_narrow (k : Core) {a : Acc} (v : Nat) (h : a.size ≤ 8) :
    k.deliverAcc a v = { k with regs := k.regs.deliver a.dest a.sext a.size v } := by
  unfold Core.deliverAcc
  rw [decide_eq_false (by omega)]
  cases a.dest <;> rfl

/-! ## Loads -/

/-- The access that a LOAD in M-mode performs. -/
def loadAcc (va : Word) (size : Nat) (dest : Dest) (sext : Bool) : Acc :=
  { va := va, pa := va.toNat, size := size, dest := dest, sext := sext }

section
variable {s : State} {c : CoreId} {va : Word} {size : Nat} {dest : Dest} {sext : Bool}

theorem loadAcc_device {lo hi : Nat} (hs : size = 1 ∨ size = 2 ∨ size = 4 ∨ size = 8) (hlo : lo ≤ size) (hhi : size ≤ hi)
    (ha : va.toNat % size = 0) : DeviceAcc (loadAcc va size dest sext) lo hi :=
  ⟨.inl rfl, rfl, hs, hlo, hhi, ha⟩

/-- A LOAD of a device by a quiet hart in M-mode whose link is UP leaves what the device's load leaves, and the marks of issue cleared. -/
theorem exec_load_device {u t : State} {k : Core} {p : Path} {lo hi : Nat} (hk : (s.core c).quiet) (hd : (s.core c).destLegal dest = 0)
    (hl : (s.tenon (c.val / 32)).st = 2) (ha : DeviceAcc (loadAcc va size dest sext) lo hi)
    (hp : (s.issuing c).path c (loadAcc va size dest sext) = p) (hdev : p.toDevice = true)
    (ht : (s.issuing c).doIoLoad c ((s.core c).issued (loadAcc va size dest sext)) p = some t)
    (hset : u.SetsCore t c k) (hrob : k.pipe.rob = []) (hmiss : k.pipe.missesUsed = 0) :
    RunsTo (exec (.load c va size dest sext .no .none) s) fun t => u.SetsCore t c k.afterIssue := by
  have hlinked : (s.issuing c).studLinked c = true := by simpa [State.studLinked] using hl
  have htry := State.tryTranslated_ioLoad (w := (s.core c).issued (loadAcc va size dest sext)) (State.issuing_clear hk) rfl hp hdev
    hlinked ht
  exact ⟨_, exec_load_machine va size sext hk hd,
    State.issue_machine hk (.inl rfl) (pageSplit_aligned ha.size ha.aligned) htry hset hrob hmiss⟩

/-- A LOAD whose device delivers v at once writes v to its destination, and core c alone changes. -/
theorem exec_load_delivers {p : Path} {lo hi v : Nat} (hk : (s.core c).quiet) (hd : (s.core c).destLegal dest = 0)
    (hl : (s.tenon (c.val / 32)).st = 2) (ha : DeviceAcc (loadAcc va size dest sext) lo hi)
    (hp : (s.issuing c).path c (loadAcc va size dest sext) = p) (hdev : p.toDevice = true)
    (ht : (s.issuing c).doIoLoad c ((s.core c).issued (loadAcc va size dest sext)) p =
      some ((s.issuing c).setCore c (((s.issuing c).core c).deliverAcc (loadAcc va size dest sext) v))) :
    RunsTo (exec (.load c va size dest sext .no .none) s) fun t =>
      s.onlyRegs t c ((s.core c).deliverAcc (loadAcc va size dest sext) v).regs := by
  have hsize : (loadAcc va size dest sext).size ≤ 8 := by rcases ha.size with h | h | h | h <;> omega
  have hclear := (Core.quiet.clear hk).nextSeq
  rw [State.core_setCore_same, Core.deliverAcc_narrow _ _ hsize] at ht
  obtain ⟨t, hexec, hset⟩ := exec_load_device hk hd hl ha hp hdev ht ((s.setsCore_setCore ..).setCore _) hclear.rob hclear.missesUsed
  rw [Core.deliverAcc_narrow _ _ hsize]
  exact ⟨t, hexec, hset.onlyRegs rfl⟩

/-- A LOAD of a device waits while the link of the stud is not UP (R11; log entry 42). -/
theorem exec_load_unlinked {p : Path} {lo hi : Nat} (hk : (s.core c).quiet) (hd : (s.core c).destLegal dest = 0)
    (hl : (s.tenon (c.val / 32)).st ≠ 2) (ha : DeviceAcc (loadAcc va size dest sext) lo hi)
    (hp : (s.issuing c).path c (loadAcc va size dest sext) = p) (hdev : p.toDevice = true) :
    RunsTo (exec (.load c va size dest sext .no .none) s) fun t =>
      s.SetsCore t c ((s.core c).nextSeq.addWait ((s.core c).issued (loadAcc va size dest sext))).afterIssue := by
  have hlinked : (s.issuing c).studLinked c = false := by simpa [State.studLinked] using hl
  have hclear := (Core.quiet.clear hk).nextSeq
  have htry := State.tryTranslated_ioLoad_unlinked (w := (s.core c).issued (loadAcc va size dest sext)) (State.issuing_clear hk) rfl hp
    hdev hlinked
  rw [State.core_setCore_same] at htry
  exact ⟨_, exec_load_machine va size sext hk hd, State.issue_machine hk (.inl rfl) (pageSplit_aligned ha.size ha.aligned) htry
    ((s.setsCore_setCore ..).setCore _) hclear.rob hclear.missesUsed⟩

end

/-! ## The store queue -/

theorem State.noteWake_setsCore (s : State) (c : Nat) : ∃ b, s.SetsCore (s.noteWake c) c { s.core c with wake := b } := by
  have hsame : s.SetsCore s c { s.core c with wake := (s.core c).wake } := ⟨rfl, fun _ _ => rfl, rfl⟩
  unfold State.noteWake
  dsimp only
  split
  · exact ⟨_, hsame⟩
  · split
    · exact ⟨true, s.setsCore_setCore ..⟩
    · exact ⟨_, hsame⟩

/-- A hart that runs has nothing outstanding but the stores of its queue. -/
structure Core.OnlyStores (k : Core) : Prop where
  run : k.run = .run
  slots : k.pipe.slots = []
  waits : k.pipe.waits = []
  fence : k.pipe.fence = []

theorem Core.OnlyStores.of_and {k : Core} (h : k.run = .run ∧ k.halt = false ∧ k.pipe.slots = [] ∧ k.pipe.waits = [] ∧
    k.pipe.fence = [] ∧ k.pipe.stall = none) : k.OnlyStores := by
  obtain ⟨hrun, -, hslots, hwaits, hfence, -⟩ := h
  exact ⟨hrun, hslots, hwaits, hfence⟩

/-- Where nothing but stores is outstanding, trying again changes nothing but the mark of a trap (R55). -/
theorem State.retry_onlyStores {s : State} {c : Nat} (h : (s.core c).OnlyStores) :
    s.SetsCore (s.retry c) c { s.core c with pipe := { (s.core c).pipe with waits := [], trapped := false } } := by
  have hpump : (s.pumpRidge c).pumpFills c = s := by simp [State.pumpRidge, State.pumpFills, h.slots]
  have hend : (s.core c).endFences = s.core c := by simp [Core.endFences, h.fence, Core.endFence]
  unfold State.retry
  simp only [hpump, hend, Core.awake, h.run, h.waits, State.retryList, Bool.not_true, Bool.false_eq_true, if_false,
    State.core_setCore_same]
  exact (s.setsCore_setCore ..).setCore _

section
variable {s : State} {c : CoreId} {e : StoreEnt} {p : Path}

theorem State.drainHead_device {u : State} (hslots : (s.core c).pipe.slots = []) (hq : (s.core c).pipe.storeQ = [e])
    (hp : s.path c e.acc = p) (hdev : p.toDevice = true) (hl : s.studLinked c = true) (hu : s.doIoStore c e.acc p = some u) :
    s.drainHead c = u.setCore c { u.core c with pipe := { (u.core c).pipe with storeQ := [] } } := by
  cases p with
  | ctl | ecam | pcie => simp [State.drainHead, hq, hp, hslots, hl, hu]
  | _ => simp [Path.toDevice] at hdev

theorem State.drainHead_unlinked (hq : (s.core c).pipe.storeQ = [e])
    (hp : s.path c e.acc = p) (hdev : p.toDevice = true) (hl : s.studLinked c = false) : s.drainHead c = s := by
  cases p with
  | ctl | ecam | pcie => simp [State.drainHead, hq, hp, hl]
  | _ => simp [Path.toDevice] at hdev

theorem exec_drain {u : State} (h : (s.core c).run = .run) (hu : s.drainHead c = u) (hs : (u.core c).OnlyStores) :
    RunsTo (exec (.storeQueueDrain c) s) fun t =>
      u.SetsCore t c { u.core c with pipe := { (u.core c).pipe with waits := [], trapped := false } } := by
  refine ⟨_, ?_, State.retry_onlyStores hs⟩
  change execStoreQueueDrain c s = _
  simp [execStoreQueueDrain, Core.awake, h, hu]

/-- The store at the head of the queue leaves it once its device, over a link that is UP, has accepted it (R59, R60). -/
theorem exec_drain_accepted {u : State} (hs : (s.core c).OnlyStores) (hq : (s.core c).pipe.storeQ = [e])
    (hl : (s.tenon (c.val / 32)).st = 2) (hp : s.path c e.acc = p) (hdev : p.toDevice = true) (hu : s.doIoStore c e.acc p = some u)
    (hus : (u.core c).OnlyStores) :
    RunsTo (exec (.storeQueueDrain c) s) fun t =>
      u.SetsCore t c { u.core c with pipe := { (u.core c).pipe with storeQ := [], waits := [], trapped := false } } := by
  have hlinked : s.studLinked c = true := by simpa [State.studLinked] using hl
  obtain ⟨t, hexec, hset⟩ := exec_drain hs.run (State.drainHead_device hs.slots hq hp hdev hlinked hu)
    (by rw [State.core_setCore_same]; exact ⟨hus.run, hus.slots, hus.waits, hus.fence⟩)
  rw [State.core_setCore_same] at hset
  exact ⟨t, hexec, (u.setsCore_setCore ..).trans hset⟩

/-- A store to a device stays in the queue while the link of the stud is not UP (R11; log entry 42). -/
theorem exec_drain_unlinked (hs : (s.core c).OnlyStores) (hq : (s.core c).pipe.storeQ = [e])
    (hl : (s.tenon (c.val / 32)).st ≠ 2) (hp : s.path c e.acc = p) (hdev : p.toDevice = true) :
    RunsTo (exec (.storeQueueDrain c) s) fun t =>
      s.SetsCore t c { s.core c with pipe := { (s.core c).pipe with waits := [], trapped := false } } := by
  have hlinked : s.studLinked c = false := by simpa [State.studLinked] using hl
  exact exec_drain hs.run (State.drainHead_unlinked hq hp hdev hlinked) hs

end

/-- A root port that is up sends a store that it claims as a posted write (R292, R295). -/
theorem State.doIoStore_root {s : State} {n pa r : Nat} (c : Nat) {a : Acc} (hr : (s.port n).claimant pa = some r)
    (hup : ((s.port n).root r).up = true) :
    s.doIoStore c a (.pcie n pa) = some (s.setPort n ((s.port n).postRoot r pa (bytesOf a.size a.data.toNat) false)) := by
  simp only [State.doIoStore, hr, hup, if_true]

theorem State.ctlWrite_mtimecmp {s : State} {f d k off : Nat} (hd : d < 512) (hoff : off = 0x208000 + 8 * d)
    (hk : s.coreOfCmp f d = some k) (src : Nat) (v : Word) :
    s.ctlWrite src f off 8 v = some ((s.setCore k { s.core k with mtimecmp := v }).noteWake k) := by
  have hidx : (off - 0x208000) / 8 = d := by omega
  unfold State.ctlWrite
  rw [if_neg (by omega), if_neg (by omega), if_neg (by omega), if_pos (by omega), hidx]
  simp only [State.mtimecmpWrite, hk]
  rfl

/-- A store of eight bytes to an mtimecmp of the frame sets the comparator of its core, which may wake that core (R80). -/
theorem State.doIoStore_mtimecmp {s : State} {c d k off : Nat} {a : Acc} (hw : s.nqWait = []) (hs : a.size = 8) (hd : d < 512)
    (hoff : off = 0x208000 + 8 * d) (hk : s.coreOfCmp (s.frameOfCore c) d = some k) :
    s.doIoStore c a (.ctl off) = some ((s.setCore k { s.core k with mtimecmp := BitVec.ofNat 64 a.data.toNat }).noteWake k) := by
  simp only [State.doIoStore, State.nqGoOn_of_idle hw, State.nqBlocked_of_ne (off := off) (by omega), hs,
    State.ctlWrite_mtimecmp hd hoff hk, Bool.false_eq_true, if_false, Option.getD_some]

/-! ## The clauses -/

/-- A load of mtime delivers the frame's (R79). -/
theorem load_mtime_delivers {s : State} {c : CoreId} {va : Word} {size : Nat} {dest : Dest} {sext : Bool}
    (hk : (s.core c).quiet) (hd : (s.core c).destLegal dest = 0) (hnq : s.nqWait = []) (hl : (s.tenon (c.val / 32)).st = 2)
    (hva : va.toNat = controlBase + 0x200000) (hsize : size = 8) :
    RunsTo (exec (.load c va size dest sext .no .none) s) fun t =>
      s.onlyRegs t c ((s.core c).deliverAcc (loadAcc va size dest sext) (s.mtimeOf (s.frameOfCore c)).toNat).regs := by
  have hdev : DeviceAcc (loadAcc va size dest sext) 4 8 :=
    loadAcc_device (by simp [hsize]) (by omega) (by omega) (by rw [hva, hsize]; rfl)
  exact exec_load_delivers hk hd hl hdev (State.path_control _ _ hdev hva (by norm_num)) rfl (State.doIoLoad_mtime hnq hsize)

/-- A load of the configuration space of bus 0 delivers the word of a root port that there is, else all ones (R281, R292). -/
theorem load_bus0_delivers {s : State} {c : CoreId} {va : Word} {size : Nat} {dest : Dest} {sext : Bool} {p i off : Nat}
    (hk : (s.core c).quiet) (hd : (s.core c).destLegal dest = 0) (hl : (s.tenon (c.val / 32)).st = 2)
    (hva : va.toNat = portBase p + i * 2 ^ 15 + off) (hin : p < 8 ∧ i < 32 ∧ off < 4096) (hf : s.frameOfPort p = s.frameOfCore c)
    (hpers : (s.port p).pers = 1 ∨ (s.port p).pers = 2) (hsize : size = 1 ∨ size = 2 ∨ size = 4) (hoff : off % size = 0) :
    RunsTo (exec (.load c va size dest sext .no .none) s) fun t =>
      s.onlyRegs t c ((s.core c).deliverAcc (loadAcc va size dest sext)
        (if (rootStarts (s.port p).lanes).any (fun e => e.1 == i) then (s.port p).rootRead i off size else allOnes size)).regs := by
  obtain ⟨hp, hi, hoff'⟩ := hin
  have haligned : va.toNat % size = 0 := by
    simp only [portBase] at hva
    rcases hsize with rfl | rfl | rfl <;> omega
  have hdev : DeviceAcc (loadAcc va size dest sext) 1 4 :=
    loadAcc_device (by omega) (by omega) (by omega) haligned
  have hpath : (s.issuing c).path c (loadAcc va size dest sext) = .ecam p (i * 2 ^ 15 + off) :=
    State.path_ecam hdev (by rw [← Nat.add_assoc]; exact hva) hp (by omega) hf hpers
  exact exec_load_delivers hk hd hl hdev hpath rfl (State.doIoLoad_bus0 hi hoff')

/-- A load that a root port which is up claims becomes a memory read on it and takes a slot (R286, R292). -/
theorem load_root_asks {s : State} {c : CoreId} {va : Word} {size : Nat} {dest : Dest} {sext : Bool} {p r : Nat}
    (hk : (s.core c).quiet) (hd : (s.core c).destLegal dest = 0) (hl : (s.tenon (c.val / 32)).st = 2)
    (hva : portBase p + 0x10000000 ≤ va.toNat ∧ va.toNat < portBase p + 2 ^ 41) (hp : p < 8) (hf : s.frameOfPort p = s.frameOfCore c)
    (hpers : (s.port p).pers = 1 ∨ (s.port p).pers = 2) (hsize : size = 1 ∨ size = 2 ∨ size = 4 ∨ size = 8)
    (ha : va.toNat % size = 0) (hr : (s.port p).claimant va.toNat = some r) (hup : ((s.port p).root r).up = true)
    (hout : ((s.port p).root r).out = []) (hquar : ((s.port p).root r).quar = []) :
    let w := (s.core c).issued (loadAcc va size dest sext)
    RunsTo (exec (.load c va size dest sext .no .none) s) fun t =>
      (s.setPort p ((s.port p).asked r (w.rootReq c r va.toNat))).SetsCore t c
        { (s.core c).nextSeq with pipe := (s.core c).nextSeq.pipe.setSlot 80 (ioSlotOf w) }.afterIssue := by
  intro w
  have hdev : DeviceAcc (loadAcc va size dest sext) 1 8 := loadAcc_device hsize (by omega) (by omega) ha
  have hpath : (s.issuing c).path c (loadAcc va size dest sext) = .pcie p va.toNat := State.path_pcie hdev hva hp hf hpers
  have hclear := (Core.quiet.clear hk).nextSeq
  exact exec_load_device hk hd hl hdev hpath rfl (State.doIoLoad_root (State.issuing_clear hk) hr hup hout hquar)
    ((State.setsCore_setCore ..).ioSlot 80 w) hclear.rob (hclear.setSlot_missesUsed w)

/-- A load of control space at an offset that is not assigned raises access fault 5 (R341). -/
theorem load_unassigned_faults {s : State} {c : CoreId} {va : Word} {size off : Nat} {dest : Dest} {sext : Bool}
    (hk : (s.core c).quiet) (hd : (s.core c).destLegal dest = 0) (hnq : s.nqWait = []) (hl : (s.tenon (c.val / 32)).st = 2)
    (hsnp : (s.core c).pipe.snpQ = []) (hoff : Unassigned off) (hva : va.toNat = controlBase + off)
    (hsize : size = 4 ∨ size = 8) (ha : va.toNat % size = 0) :
    ∃ k, RunsTo (exec (.load c va size dest sext .no .none) s) (s.SetsCore · c k) ∧
      k.Trapped 5 va (s.core c).regs.pc (s.core c).regs.x := by
  have hdev : DeviceAcc (loadAcc va size dest sext) 4 8 := loadAcc_device (by omega) (by omega) (by omega) ha
  have hpath := (s.issuing c).path_control c hdev hva hoff.below
  have htry := State.tryTranslated_ioLoad (w := (s.core c).issued (loadAcc va size dest sext)) (State.issuing_clear hk) rfl hpath rfl
    (by simpa [State.studLinked] using hl) (State.doIoLoad_unassigned hnq hoff)
  obtain ⟨k, hset, htrap⟩ :=
    State.issue_fault (a := { va := va, size := size, dest := dest, sext := sext }) hk (.inl rfl) hsnp
      (pageSplit_aligned hdev.size hdev.aligned) htry
  exact ⟨k, ⟨_, exec_load_machine va size sext hk hd, hset⟩, htrap⟩

/-- A store to control space at an offset that is not assigned raises access fault 7 as it issues (R341). -/
theorem store_unassigned_faults {s : State} {c : CoreId} {va : Word} {size off : Nat} {v : BitVec 128}
    (hk : (s.core c).quiet) (hsnp : (s.core c).pipe.snpQ = []) (hoff : Unassigned off) (hva : va.toNat = controlBase + off)
    (hsize : size = 4 ∨ size = 8) (ha : va.toNat % size = 0) :
    ∃ k, RunsTo (exec (.store c va size v false) s) (s.SetsCore · c k) ∧ k.Trapped 7 va (s.core c).regs.pc (s.core c).regs.x := by
  have hdev : DeviceAcc { kind := .store, va := va, pa := va.toNat, size := size, data := v } 4 8 :=
    ⟨.inr rfl, rfl, by dsimp only; omega, by dsimp only; omega, by dsimp only; omega, ha⟩
  have hpath := (s.issuing c).path_control c hdev hva hoff.below
  have htry := State.tryTranslated_store_denied
    (w := (s.core c).issued { kind := .store, va := va, size := size, data := v }) (State.issuing_clear hk) rfl rfl rfl hpath
    (State.ctlDenied_unassigned hoff ..)
  obtain ⟨k, hset, htrap⟩ :=
    State.issue_fault (a := { kind := .store, va := va, size := size, data := v }) hk (.inr rfl) hsnp
      (pageSplit_aligned hdev.size hdev.aligned) htry
  exact ⟨k, ⟨_, exec_store_machine va size v hk, hset⟩, htrap⟩

/-- While the link is not UP, a load of mtime takes its place among the accesses that wait (R11; log entry 42). -/
theorem load_mtime_waits {s : State} {c : CoreId} {va : Word} {size : Nat} {dest : Dest} {sext : Bool}
    (hk : (s.core c).quiet) (hd : (s.core c).destLegal dest = 0) (hl : (s.tenon (c.val / 32)).st ≠ 2)
    (hva : va.toNat = controlBase + 0x200000) (hsize : size = 8) :
    RunsTo (exec (.load c va size dest sext .no .none) s) fun t =>
      s.SetsCore t c ((s.core c).nextSeq.addWait ((s.core c).issued (loadAcc va size dest sext))).afterIssue := by
  have hdev : DeviceAcc (loadAcc va size dest sext) 4 8 :=
    loadAcc_device (by simp [hsize]) (by omega) (by omega) (by rw [hva, hsize]; rfl)
  exact exec_load_unlinked hk hd hl hdev (State.path_control _ _ hdev hva (by norm_num)) rfl

/-- A queued store that a root port which is up claims is sent by it as a posted write (R292). -/
theorem drain_root_posts {s : State} {c : CoreId} {e : StoreEnt} {p r : Nat} (hs : (s.core c).OnlyStores)
    (hq : (s.core c).pipe.storeQ = [e]) (hl : (s.tenon (c.val / 32)).st = 2) (hdev : DeviceAcc e.acc 1 8)
    (hpa : portBase p + 0x10000000 ≤ e.acc.pa ∧ e.acc.pa < portBase p + 2 ^ 41) (hp : p < 8) (hf : s.frameOfPort p = s.frameOfCore c)
    (hpers : (s.port p).pers = 1 ∨ (s.port p).pers = 2) (hr : (s.port p).claimant e.acc.pa = some r)
    (hup : ((s.port p).root r).up = true) :
    RunsTo (exec (.storeQueueDrain c) s) fun t =>
      (s.setPort p ((s.port p).postRoot r e.acc.pa (bytesOf e.acc.size e.acc.data.toNat) false)).SetsCore t c
        { s.core c with pipe := { (s.core c).pipe with storeQ := [], waits := [], trapped := false } } :=
  exec_drain_accepted hs hq hl (State.path_pcie hdev hpa hp hf hpers) rfl (State.doIoStore_root c hr hup) hs

/-- A queued store to an mtimecmp sets the comparator, of the hart itself or of another (R80). -/
theorem drain_mtimecmp_sets {s : State} {c : CoreId} {e : StoreEnt} {d k : Nat} (hnq : s.nqWait = []) (hs : (s.core c).OnlyStores)
    (hq : (s.core c).pipe.storeQ = [e]) (hl : (s.tenon (c.val / 32)).st = 2)
    (hdev : DeviceAcc e.acc 4 8) (hsize : e.acc.size = 8) (hpa : e.acc.pa = controlBase + 0x208000 + 8 * d) (hd : d < 512)
    (hk : s.coreOfCmp (s.frameOfCore c) d = some k) :
    ∃ u b, s.SetsCore u k { s.core k with mtimecmp := BitVec.ofNat 64 e.acc.data.toNat, wake := b } ∧
      RunsTo (exec (.storeQueueDrain c) s) fun t =>
        u.SetsCore t c { u.core c with pipe := { (u.core c).pipe with storeQ := [], waits := [], trapped := false } } := by
  have hpath : s.path c e.acc = .ctl (0x208000 + 8 * d) := s.path_control c hdev (by rw [hpa, Nat.add_assoc]) (by omega)
  obtain ⟨b, hwake⟩ := (s.setCore k { s.core k with mtimecmp := BitVec.ofNat 64 e.acc.data.toNat }).noteWake_setsCore k
  have hu := (s.setsCore_setCore k _).trans hwake
  rw [State.core_setCore_same] at hu
  refine ⟨_, b, hu, exec_drain_accepted hs hq hl hpath rfl (State.doIoStore_mtimecmp hnq hsize hd rfl hk) ?_⟩
  by_cases hkc : c.val = k
  · rw [hkc, hu.core]
    rw [hkc] at hs
    exact ⟨hs.run, hs.slots, hs.waits, hs.fence⟩
  · rw [hu.others _ hkc]
    exact hs

/-- Settles O57: every clause is what issuing, or draining, comes to on the path to its device, with the link UP or not. -/
theorem hartAccessesOfIoRegions : Obligations.HartAccessesOfIoRegions := by
  unfold Obligations.HartAccessesOfIoRegions
  refine ⟨?mtime, ?there, ?absent, ?claimed, ?loadFault, ?storeFault, ?waits, ?posted, ?mtimecmp, ?stays⟩
  case mtime =>
    intro s c va size dest sext hk hd hnq hl hva hsize
    exact load_mtime_delivers hk hd hnq hl hva hsize
  case there =>
    intro s c va size dest sext p i off hk hd hl hva hin hf hpers hsize ha hroot
    have h := load_bus0_delivers (sext := sext) hk hd hl hva hin hf hpers hsize ha
    rwa [if_pos hroot] at h
  case absent =>
    intro s c va size dest sext p i off hk hd hl hva hin hf hpers hsize ha hroot
    have h := load_bus0_delivers (sext := sext) hk hd hl hva hin hf hpers hsize ha
    rwa [if_neg (by simp [hroot])] at h
  case claimed =>
    intro s c va size dest sext p r hk hd hl hva hp hf hpers hsize ha hr hup hout hquar
    obtain ⟨t, hexec, hset⟩ := load_root_asks (sext := sext) hk hd hl hva hp hf hpers hsize ha hr hup hout hquar
    have hport : t.port p = (s.port p).asked r _ := hset.port p |>.trans (State.port_setPort_same ..)
    have hslots := (Core.quiet.clear hk).nextSeq.setSlot_slots ((s.core c).issued (loadAcc va size dest sext))
    refine ⟨t, hexec, ?_, ?_, ?_, ?_, ?_, hset.others, hset.frame⟩
    · rw [hport, Port.asked_out]
      rfl
    · rw [hport, Port.asked_out]
      rfl
    · rw [hset.core]
      simp only [Core.afterIssue, hslots, List.any_cons]
      simp [ioSlotOf, Core.issued, loadAcc]
    · rw [hset.core]
      rfl
    · intro q hqp
      exact (hset.port q).trans (State.port_setPort_ne _ _ _ _ hqp)
  case loadFault =>
    intro s c va size dest sext hk hd hnq hl hsnp hoff hsize ha _
    obtain ⟨off, hoff, hva⟩ := Unassigned.of_va hoff
    obtain ⟨k, ⟨t, hexec, hset⟩, htrap⟩ := load_unassigned_faults (sext := sext) hk hd hnq hl hsnp hoff hva hsize ha
    exact ⟨t, hexec, htrap.csrs hset⟩
  case storeFault =>
    intro s c va size v hk _ hsnp hoff hsize ha
    obtain ⟨off, hoff, hva⟩ := Unassigned.of_va hoff
    obtain ⟨k, ⟨t, hexec, hset⟩, htrap⟩ := store_unassigned_faults (v := v) hk hsnp hoff hva hsize ha
    exact ⟨t, hexec, htrap.csrs hset⟩
  case waits =>
    intro s c va size dest sext hk hd hl hva hsize
    obtain ⟨t, hexec, hset⟩ := load_mtime_waits (sext := sext) hk hd hl hva hsize
    have hclear := (Core.quiet.clear hk).nextSeq
    refine ⟨t, hexec, ?_, ?_, ?_, by rw [hset.beside], hset.others, hset.frame⟩ <;> rw [hset.core]
    · rfl
    · simp only [Core.afterIssue, Core.addWait, hclear.waits, insertWait, List.map_cons, List.map_nil, Core.issued, loadAcc]
    · exact hclear.slots
  case posted =>
    intro s c e p r hs hq hl hacc hsize ha hpa hp hf hpers hr hup
    have hdev : DeviceAcc e.acc 1 8 := ⟨.inr hacc.1, hacc.2, hsize, by omega, by omega, ha⟩
    obtain ⟨t, hexec, hset⟩ := drain_root_posts (.of_and hs) hq hl hdev hpa hp hf hpers hr hup
    refine ⟨t, hexec, (hset.port p).trans (State.port_setPort_same ..), by rw [hset.core], by rw [hset.core], ?_, hset.others,
      hset.frame⟩
    intro q hqp
    exact (hset.port q).trans (State.port_setPort_ne _ _ _ _ hqp)
  case mtimecmp =>
    intro s c e d k hnq hs hq hl hacc hpa hd hk
    obtain ⟨hkind, hsplit, hsize⟩ := hacc
    have hdev : DeviceAcc e.acc 4 8 :=
      ⟨.inr hkind, hsplit, by omega, by omega, by omega, by rw [hpa, hsize]; simp only [controlBase]; omega⟩
    obtain ⟨u, b, hu, t, hexec, hset⟩ := drain_mtimecmp_sets hnq (.of_and hs) hq hl hdev hsize hpa hd hk
    obtain ⟨hhomes, hmem, hnet, hframes⟩ := hset.frame
    obtain ⟨hhomes', hmem', hnet', hframes'⟩ := hu.frame
    refine ⟨t, hexec, ?_, by rw [hset.core], ?_, ?_, hhomes.trans hhomes', hmem.trans hmem', hnet.trans hnet', hframes.trans hframes'⟩
    · rw [hset.keeps Core.mtimecmp rfl, hu.core]
    · rw [hset.keeps (·.regs.x) rfl, hu.keeps (·.regs.x) rfl]
    · intro j hjk hjc
      rw [hset.others j hjc, hu.others j hjk]
  case stays =>
    intro s c e hs hq hl hacc hpa
    obtain ⟨hkind, hsplit, hsize⟩ := hacc
    have hdev : DeviceAcc e.acc 4 8 := ⟨.inr hkind, hsplit, by omega, by omega, by omega, by rw [hpa, hsize]; rfl⟩
    obtain ⟨t, hexec, hset⟩ := exec_drain_unlinked (.of_and hs) hq hl (s.path_control c hdev hpa (by norm_num)) rfl
    refine ⟨t, hexec, ?_, by rw [hset.core], by rw [hset.beside], by rw [hset.beside], hset.others, hset.frame⟩
    rw [hset.core]
    exact hq

end Sys2Proof.Machine
end

section
/-! PROOF. Statements of the family of the cores that fail, each with the state that refutes it. -/

namespace Sys2Proof.Machine

/-! ## Evaluating a refuting step -/

/-- The state an outcome reaches, or s where it reaches none. -/
def State.after (s : State) : Host.Outcome State Fault Refusal → State
  | .next t => t
  | _ => s

/-- What holds of the next state of an outcome holds of the state it reaches. -/
theorem RunsTo.after {o : Host.Outcome State Fault Refusal} {P : State → Prop} (h : RunsTo o P) (s : State) : P (s.after o) := by
  obtain ⟨t, rfl, ht⟩ := h
  exact ht

/-- State s in which a load of hart h into x5 is stalled in the notice queue of frame 0 (R415). -/
def State.withStalledPop (s : State) (h : Nat) : State :=
  s.setFrame 0 { s.frame 0 with nq := { stalled := [{ hart := some (h, .x 5) }] } }

/-! ## O4 -/

/-- Line 64 in L2, in state M. -/
def cachedLine : L2Line := { line := 64, st := .m, data := 0x1122334455667788 }

/-- Core 0 loads the line it holds while a load of core 1 is stalled in the frame's notice queue. -/
def upsetBesideStalledPop : State :=
  ({ base with cores := [(0, { run := .run, pipe := { l2 := [(64, [cachedLine])] } })] } : State).withStalledPop 1

/-- Refutes O4: the notice of a recovered upset answers the load that another core has stalled in the notice queue, so that core
changes. -/
theorem not_hartLoadsStoresAndDrainsOfDram : ¬ Obligations.HartLoadsStoresAndDrainsOfDram := by
  unfold Obligations.HartLoadsStoresAndDrainsOfDram
  rintro ⟨-, -, -, upset, -⟩
  have run := upset upsetBesideStalledPop 0 0x1008 4 (.x 5) true .l2Tag cachedLine (by decide +kernel) (by decide +kernel)
    (by decide +kernel) (by decide +kernel) rfl (by decide)
  obtain ⟨-, -, -, others, -⟩ := run.after base
  have delivered : ((base.after (exec (.load 0 0x1008 4 (.x 5) true .no .l2Tag) upsetBesideStalledPop)).core 1).regs.x ≠ [] := by
    decide +kernel
  exact delivered (congrArg (fun k => k.regs.x) (others 1 (by decide)))

/-! ## O6 -/

/-- A FENCE of core 0 is pending that later loads wait for; mstatus.FS is off. -/
def pendingFence : State :=
  { base with cores := [(0, { run := .run, pipe := { seq := 2, fence := [{ seq := 1, pred := 1, succ := 2 }] } })] }

/-- Refutes O6: a load to a floating-point register while mstatus.FS is off does not wait behind the fence; as an instruction that is
not legal it waits until the hart has settled, and the step leaves the state as it is. -/
theorem not_fencesAndWaits : ¬ Obligations.FencesAndWaits := by
  unfold Obligations.FencesAndWaits
  rintro ⟨-, -, behindFence, -⟩
  have run := behindFence pendingFence 0 0x1000 8 (.f 0) false { seq := 1, pred := 1, succ := 2 } (by decide +kernel) rfl
    (by decide) rfl rfl rfl rfl rfl (by decide +kernel)
  obtain ⟨waits, -⟩ := run.after base
  have none_waits : ((base.after (exec (.load 0 0x1000 8 (.f 0) false .no .none) pendingFence)).core (0 : CoreId)).pipe.waits = [] := by
    decide +kernel
  rw [none_waits] at waits
  exact absurd waits (by simp)

/-! ## O21 -/

/-- Core 0 holds line 64 again while the writeback of its last copy is still in its slot. -/
def heldAndWrittenBack : State :=
  { base with cores := [(0, { run := .run, pipe := { l2 := [(64, [{ line := 64, st := .m, data := 5 }])], slots := [(48, { kind := .evict, line := 64, op := .wb, wb := some (5, .m, false), dst := 19 })] } })] }

/-- A snoop of line 64 from bay 3 to stud 0, for stud 4. -/
def snoopHdr : Hdr := { src := 19, dst := 0, line := 64, reqAgent := 4, tag := 9, htx := 2 }

/-- Refutes O21: after SNP_INV the writeback entry of the line still counts as a copy, so the response says that the stud kept one. -/
theorem not_snoopsTakeAndForwardCopies : ¬ Obligations.SnoopsTakeAndForwardCopies := by
  unfold Obligations.SnoopsTakeAndForwardCopies
  rintro ⟨-, -, inv, -⟩
  have run := inv heldAndWrittenBack snoopHdr 0 { line := 64, st := .m, data := 5 } (by decide +kernel) (by decide +kernel)
    (by decide +kernel) (by decide +kernel) (by decide +kernel) (by decide +kernel) rfl (by decide +kernel) (by decide +kernel)
  obtain ⟨sent, -⟩ := run.after base
  have kept : (base.after (exec (.snpInv snoopHdr) heldAndWrittenBack)).net.map (fun m => m.hdr.kept) = [true] := by decide +kernel
  rw [sent] at kept
  exact absurd kept (by decide +kernel)

/-! ## O22 and O23 -/

/-- Core 0 has one slot in use, and a notch record that waits for a free slot. -/
def notchWaits (i : Nat) (sl : Slot) : State :=
  { base with cores := [(0, { run := .run, notch := { rec_ := some (0, 64) }, pipe := { slots := [(i, sl)] } })] }

/-- An answer from bay 3 to slot i of core 0, for line 64. -/
def answerHdr (i : Nat) : Hdr := { src := 19, dst := 0, line := 64, tag := i, htx := 2, go := true }

/-- A cache-block operation of line 64. -/
def cboSlot : Slot := { line := 64, dst := 19, kind := .cbo, op := .cboClean, merged := [{}] }

/-- A spent writeback entry of line 64. -/
def spentSlot : Slot := { line := 64, dst := 19, kind := .evict, op := .wb }

/-- Refutes O22: after GO_DONE of a cache-block operation the waiting notch record takes a slot and its request goes out, so a slot is
in use. -/
theorem not_grantsInstallLines : ¬ Obligations.GrantsInstallLines := by
  unfold Obligations.GrantsInstallLines
  rintro ⟨-, -, -, -, -, -, -, -, -, -, -, -, -, cboDone⟩
  have run := cboDone (notchWaits 112 cboSlot) (answerHdr 112) 0 112 cboSlot {} (by decide +kernel) rfl rfl
  obtain ⟨noSlots, -⟩ := run.after base
  have notchSlot : Tab.keys ((base.after (exec (.goDone (answerHdr 112)) (notchWaits 112 cboSlot))).core 0).pipe.slots = [80] := by
    decide +kernel
  rw [noSlots] at notchSlot
  exact absurd notchSlot (by decide)

/-- Refutes O23: after WB_STALE the waiting notch record takes a slot and its request goes out, so a slot is in use. -/
theorem not_pullsWritebacksAndErrors : ¬ Obligations.PullsWritebacksAndErrors := by
  unfold Obligations.PullsWritebacksAndErrors
  rintro ⟨-, -, -, -, stale, -⟩
  have run := stale (notchWaits 48 spentSlot) (answerHdr 48) 0 48 spentSlot (by decide +kernel) (.inl rfl)
  obtain ⟨-, noSlots, -⟩ := run.after base
  have notchSlot : Tab.keys ((base.after (exec (.wbStale (answerHdr 48)) (notchWaits 48 spentSlot))).core 0).pipe.slots = [80] := by
    decide +kernel
  rw [noSlots] at notchSlot
  exact absurd notchSlot (by decide)

/-! ## O33 -/

/-- The uncached store of core 0 to ridge space. -/
def ridgeStore : Acc := { kind := .store, va := 0x9008, pa := ridgeBase + 8, size := 8, nc := true }

/-- The slot of that store. -/
def ridgeStoreSlot : Slot :=
  { kind := .unc, op := .wrNc, merged := [{ acc := ridgeStore, xlated := true }], line := ridgeBase / 64 }

/-- Its WRITE, outstanding at port 2. -/
def ridgeWrite : OutReq := { core := 0, slot := 5, op := 2, node := 0, addr := 8, len := 8 }

/-- A write of core 0 is outstanding at ridge port 2, and a load of hart 0 stands in the frame's notice queue. -/
def ridgeBesideStalledPop : State :=
  ((base.setPort 2 { pers := 5, inReset := false, ridge := { st := 2, out := [(9, ridgeWrite)] } }).setCore 0
    { base.core 0 with pipe := { slots := [(5, ridgeStoreSlot)], storeQ := [{ acc := ridgeStore }] } }).withStalledPop 0

/-- Refutes O33: the notice of a write that ends with an error answers the load that stands in the frame's notice queue, which writes
a register of the hart. -/
theorem not_ridgeLinksAndResponses : ¬ Obligations.RidgeLinksAndResponses := by
  unfold Obligations.RidgeLinksAndResponses
  rintro ⟨-, -, -, -, -, -, -, -, -, -, -, -, -, -, -, -, writeEnds, -⟩
  have run := writeEnds ridgeBesideStalledPop 2 0 { tag := 9, rport := 2, status := 4 } ridgeWrite ridgeStoreSlot
    { acc := ridgeStore, xlated := true } { acc := ridgeStore } (by decide +kernel) (by decide +kernel) (by decide +kernel)
    (by decide +kernel) (by decide) rfl rfl (by decide +kernel) rfl (by decide +kernel) rfl (by decide +kernel) (by decide +kernel)
    rfl rfl rfl rfl (by decide +kernel) rfl (by decide) (by decide +kernel)
  obtain ⟨regs, -⟩ := run.after base
  have delivered : ((base.after (exec (.resp 2 { tag := 9, rport := 2, status := 4 }) ridgeBesideStalledPop)).core 0).regs.x ≠ [] := by
    decide +kernel
  exact delivered (congrArg Regs.x regs)

/-! ## O35 -/

/-- The load of core 0 from the memory of root port 0 of port 2, into x7. -/
def portLoad : Wait :=
  { acc := { kind := .load, va := 0x9008, pa := portBase 2 + 0x10000008, size := 8, dest := .x 7, nc := true, io := true },
    xlated := true, pc := 0x4000 }

/-- The slot of that load. -/
def portLoadSlot : Slot := { kind := .unc, op := .rdNc, merged := [portLoad] }

/-- Its request, outstanding at root port 0. -/
def portRead : OutReq := { core := 0, slot := 5, op := 1, addr := portBase 2 + 0x10000008, len := 8 }

/-- A read of core 0 is outstanding at a root port with ERR_MODE 0, and a load of hart 0 into x5 stands in the frame's notice queue. -/
def completionBesideStalledPop : State :=
  ((base.setPort 2 { pers := 1, lanes := 1, inReset := false, roots := [(0, { up := true, cfg := [(4, 6)], out := [(9, portRead)] })] }).setCore 0
    { base.core 0 with pipe := { slots := [(5, portLoadSlot)] } }).withStalledPop 0

/-- Refutes O35: with ERR_MODE 0 the notice of a completion with an error answers the load that stands in the frame's notice queue,
so the hart's x5 is written beside the register that takes all-ones. -/
theorem not_rootPortRequestsAndCompletions : ¬ Obligations.RootPortRequestsAndCompletions := by
  unfold Obligations.RootPortRequestsAndCompletions
  rintro ⟨-, -, -, -, -, -, -, -, -, -, -, -, -, -, -, -, -, -, -, failsQuietly, -⟩
  have run := failsQuietly completionBesideStalledPop 2 0 0 9 .ca false [] portRead portLoadSlot portLoad (by decide +kernel)
    (by decide +kernel) (by decide +kernel) (by decide) (by decide +kernel) rfl rfl (by decide +kernel) (by decide +kernel) rfl rfl
    (by decide) (by decide) (by decide +kernel)
  obtain ⟨regs, -⟩ := run.after base
  have x5 : Tab.find ((base.after (exec (.completion 2 0 9 .ca false []) completionBesideStalledPop)).core 0).regs.x 5 ≠ none := by
    decide +kernel
  rw [regs] at x5
  exact absurd x5 (by decide +kernel)

end Sys2Proof.Machine
end

section
/-! PROOF. What reads of a register field give after a write of a field (R7, R343). -/

namespace Sys2Proof.Machine

theorem fld_testBit (w : Word) (hi lo i : Nat) : (fld w hi lo).testBit i = (decide (i < hi + 1 - lo) && w.getLsbD (lo + i)) := by
  simp [fld, bits, Nat.testBit_mod_two_pow, Nat.testBit_div_two_pow, BitVec.getLsbD, Nat.add_comm]

/-- Fields whose bits agree are equal. -/
theorem fld_congr {u w : Word} {hi lo : Nat} (h : ∀ i, lo ≤ i → i ≤ hi → u.getLsbD i = w.getLsbD i) : fld u hi lo = fld w hi lo := by
  refine Nat.eq_of_testBit_eq fun i => ?_
  rw [fld_testBit, fld_testBit]
  by_cases hi' : i < hi + 1 - lo
  · rw [h (lo + i) (by omega) (by omega)]
  · simp [hi']

theorem getLsbD_writeMask (old v mask : Word) (i : Nat) :
    (writeMask old v mask).getLsbD i = if mask.getLsbD i then v.getLsbD i else old.getLsbD i := by
  by_cases hi : i < 64
  · simp only [writeMask, BitVec.getLsbD_or, BitVec.getLsbD_and, BitVec.getLsbD_not, hi, decide_true, Bool.true_and]
    cases mask.getLsbD i <;> simp only [Bool.not_false, Bool.not_true, Bool.and_true, Bool.and_false, Bool.or_false, Bool.false_or,
      if_true, Bool.false_eq_true, if_false]
  · simp [BitVec.getLsbD_of_ge _ _ (Nat.le_of_not_lt hi)]

theorem getLsbD_setFld (w : Word) (hi lo v i : Nat) :
    (setFld w hi lo v).getLsbD i = if lo ≤ i ∧ i ≤ hi ∧ i < 64 then v.testBit (i - lo) else w.getLsbD i := by
  by_cases h64 : i < 64
  · have hmask : (BitVec.ofNat 64 ((2 ^ (hi + 1 - lo) - 1) * 2 ^ lo)).getLsbD i = decide (lo ≤ i ∧ i ≤ hi) := by
      rw [BitVec.getLsbD_ofNat, Nat.testBit_mul_two_pow, Nat.testBit_two_pow_sub_one]
      simp only [h64, decide_true, Bool.true_and, ← Bool.decide_and]
      exact decide_eq_decide.mpr (by omega)
    have hval : lo ≤ i → (BitVec.ofNat 64 (v * 2 ^ lo)).getLsbD i = v.testBit (i - lo) := fun hlo => by
      simp only [BitVec.getLsbD_ofNat, Nat.testBit_mul_two_pow, h64, hlo, decide_true, Bool.true_and]
    rw [setFld, getLsbD_writeMask, hmask]
    by_cases hin : lo ≤ i ∧ i ≤ hi
    · rw [if_pos (by simpa using hin), if_pos ⟨hin.1, hin.2, h64⟩, hval hin.1]
    · rw [if_neg (by simpa using hin), if_neg (by omega)]
  · simp [BitVec.getLsbD_of_ge _ _ (Nat.le_of_not_lt h64), h64]

/-- A field written reads as written, cut to its width. -/
theorem fld_setFld_same (w : Word) {hi lo : Nat} (v : Nat) (h : hi < 64) : fld (setFld w hi lo v) hi lo = v % 2 ^ (hi + 1 - lo) := by
  refine Nat.eq_of_testBit_eq fun i => ?_
  rw [fld_testBit, getLsbD_setFld, Nat.testBit_mod_two_pow]
  by_cases hi' : i < hi + 1 - lo
  · rw [if_pos (by omega), Nat.add_sub_cancel_left]
  · simp [hi']

/-- A field beside the one written reads as before. -/
theorem fld_setFld_other (w : Word) {hi lo a b : Nat} (v : Nat) (h : a < lo ∨ hi < b) : fld (setFld w hi lo v) a b = fld w a b := by
  refine fld_congr fun i hb ha => ?_
  rw [getLsbD_setFld, if_neg (by omega)]

/-- Bit b written by itself. -/
theorem getLsbD_setFld_bit (w : Word) {b : Nat} (v : Bool) (h : b < 64) : (setFld w b b (b2n v)).getLsbD b = v := by
  rw [getLsbD_setFld, if_pos (by omega), Nat.sub_self]
  cases v <;> rfl

theorem getLsbD_setFld_other (w : Word) {hi lo : Nat} (v : Nat) {i : Nat} (h : i < lo ∨ hi < i) :
    (setFld w hi lo v).getLsbD i = w.getLsbD i := by
  rw [getLsbD_setFld, if_neg (by omega)]

end Sys2Proof.Machine
end

section
/-! PROOF. Actions of a hart that only one instruction at a time takes, traps of a hart without deferred snoops, and updates of
several cores (R55, R67, R81). -/

namespace Sys2Proof.Machine

/-! ## Legal actions -/

theorem State.serial_legal {s : State} {c legal : Nat} (hrun : (s.core c).run = .run) (hset : (s.core c).pipe.settled = true)
    (hl : legal = 0) (act : State → State) : s.serial c legal act = .next (act s) := by
  rw [State.serial, if_pos hset, hl, State.guarded_legal hrun]

theorem State.guarded_illegal {s : State} {c legal : Nat} (hrun : (s.core c).run = .run) (hset : (s.core c).pipe.settled = true)
    (hl : legal ≠ 0) (act : State → State) : s.guarded c legal act = .next (s.illegal c (legal == 22)) := by
  simp [State.guarded, hrun, hl, hset]

theorem State.serial_illegal {s : State} {c legal : Nat} (hrun : (s.core c).run = .run) (hset : (s.core c).pipe.settled = true)
    (hl : legal ≠ 0) (act : State → State) : s.serial c legal act = .next (s.illegal c (legal == 22)) := by
  rw [State.serial, if_pos hset, State.guarded_illegal hrun hset hl]

/-- M-mode may write every CSR that is not read-only (the privileged architecture). -/
theorem Core.csrLegal_machine {k : Core} {n : Nat} (hp : k.regs.priv = 3) (hn : n / 1024 ≠ 3) : k.csrLegal n true = 0 := by
  simp [Core.csrLegal, hp, hn]

theorem Core.vendorLegal_machine {k : Core} (hp : k.regs.priv = 3) (n : Nat) : k.vendorLegal n = 0 := by
  simp [Core.vendorLegal, hp]

/-! ## Traps -/

theorem csrBit_eq (k : Core) (n i : Nat) : k.csrBit n i = (k.csr n).getLsbD i := rfl

/-- The registers with which core k enters a trap. -/
def Core.trapRegs (k : Core) (t : Trap) : Regs :=
  ({ k.regs with pc := t.pc.getD k.regs.pc, vstart := t.elem.getD k.regs.vstart } : Regs).takeTrap t

/-- Core k once it has taken a trap, with no snoop deferred (R55, R67). -/
def Core.trapTaken (k : Core) (t : Trap) : Core :=
  { k with regs := k.trapRegs t, waiting := .nothing, run := if k.loseResv.run = .idle then .run else k.loseResv.run,
           pipe := { ({ k.pipe with resv := none } : Pipe).squash with hold := none, snpQ := [] } }

theorem Core.loseResv_eq (k : Core) :
    k.loseResv = { k with run := k.loseResv.run, waiting := k.loseResv.waiting, pipe := { k.pipe with resv := none } } := by
  have hpipe := k.loseResv_pipe
  unfold Core.loseResv Core.endWrs at *
  split
  · split <;> rfl
  · next h =>
    rw [if_neg h] at hpipe
    rw [← hpipe]

theorem State.releaseHold_setsCore {s u : State} {c : Nat} {k : Core} (h : s.SetsCore u c k) (hq : k.pipe.snpQ = []) :
    s.SetsCore (u.releaseHold c) c { k with pipe := { k.pipe with hold := none, snpQ := [] } } := by
  rw [State.releaseHold_of_snpQ (by rw [h.core, hq]), h.core]
  exact h.setCore _

theorem State.trapCore_setsCore {s : State} {c : Nat} (hsnp : (s.core c).pipe.snpQ = []) (t : Trap) :
    s.SetsCore (s.trapCore c t) c ((s.core c).trapTaken t) := by
  unfold State.trapCore
  refine (congrArg (s.SetsCore _ c) ?_).mp (State.releaseHold_setsCore (s.setsCore_setCore c _) ?_)
  · rw [Core.loseResv_eq]
    rfl
  · simp [Core.loseResv_pipe, Pipe.squash, hsnp]

/-- What a trap leaves of the registers: the general, floating-point and vector ones, and the CSRs but those it writes. -/
structure Regs.KeptByTrap (r q : Regs) (written : List Nat) : Prop where
  x : q.x = r.x
  f : q.f = r.f
  v : q.v = r.v
  vstart : q.vstart = r.vstart
  get : ∀ n, n ∉ written → q.get n = r.get n

theorem Regs.KeptByTrap.refl (r : Regs) : r.KeptByTrap r [] := ⟨rfl, rfl, rfl, rfl, fun _ _ => rfl⟩

theorem Regs.KeptByTrap.put {r q : Regs} {l : List Nat} (h : r.KeptByTrap q l) (n : Nat) (w : Word) :
    r.KeptByTrap (q.put n w) (n :: l) :=
  ⟨h.x, h.f, h.v, h.vstart, fun m hm => by
    rw [List.mem_cons, not_or] at hm
    rw [Regs.get_put_ne _ _ hm.1, h.get m hm.2]⟩

theorem Regs.KeptByTrap.enter {r q : Regs} {l : List Nat} (h : r.KeptByTrap q l) (priv : Nat) (virt : Bool) (pc : Word) :
    r.KeptByTrap { q with priv := priv, virt := virt, pc := pc } l :=
  ⟨h.x, h.f, h.v, h.vstart, h.get⟩

/-- The CSRs that a trap to M-mode writes, and those that a trap to S-mode or HS-mode writes. -/
abbrev machineTrapCsrs : List Nat := [Csr.mtinst, Csr.mtval2, Csr.mstatus, Csr.mtval, Csr.mcause, Csr.mepc]
abbrev supervisorTrapCsrs : List Nat := [Csr.htinst, Csr.htval, Csr.hstatus, Csr.mstatus, Csr.stval, Csr.scause, Csr.sepc]

/-- The registers q of a hart that had registers r and took an exception or interrupt in M-mode (the privileged architecture; log
entry 9). -/
structure Regs.TookInMachine (r q : Regs) (cause tval : Word) : Prop where
  mcause : q.get Csr.mcause = cause
  mtval : q.get Csr.mtval = tval
  mepc : q.get Csr.mepc = r.pc
  priv : q.priv = 3
  virt : q.virt = false
  kept : r.KeptByTrap q machineTrapCsrs

/-- The same of one taken in S-mode or HS-mode. -/
structure Regs.TookInSupervisor (r q : Regs) (cause tval : Word) : Prop where
  scause : q.get Csr.scause = cause
  stval : q.get Csr.stval = tval
  sepc : q.get Csr.sepc = r.pc
  priv : q.priv = 1
  virt : q.virt = false
  kept : r.KeptByTrap q supervisorTrapCsrs

theorem Regs.takeTrap_keeps_machine {r : Regs} {t : Trap} (h : r.trapTarget t = 3) : r.KeptByTrap (r.takeTrap t) machineTrapCsrs := by
  generalize hw : causeWord t.irq t.cause = w
  simp only [Regs.takeTrap, h, hw]
  exact (((((((KeptByTrap.refl r).put _ _).put _ _).put _ _).put _ _).put _ _).put _ _).enter _ _ _

theorem Regs.takeTrap_keeps_supervisor {r : Regs} {t : Trap} (h : r.trapTarget t = 1) :
    r.KeptByTrap (r.takeTrap t) supervisorTrapCsrs := by
  generalize hw : causeWord t.irq t.cause = w
  simp only [Regs.takeTrap, h, hw]
  exact ((((((((KeptByTrap.refl r).put _ _).put _ _).put _ _).put _ _).put _ _).put _ _).put _ _).enter _ _ _

theorem Regs.takeTrap_toMachine {r : Regs} {t : Trap} {w : Word} (h : r.trapTarget t = 3) (hw : causeWord t.irq t.cause = w) :
    (r.takeTrap t).get Csr.mcause = w ∧ (r.takeTrap t).get Csr.mtval = t.tval ∧ (r.takeTrap t).get Csr.mepc = r.pc ∧
      (r.takeTrap t).priv = 3 ∧ (r.takeTrap t).virt = false := by
  simp only [Regs.takeTrap, h, hw, Regs.get_mode]
  simp (disch := decide) only [Regs.get_put_ne, Regs.get_put_same, and_self]

theorem Regs.takeTrap_toSupervisor {r : Regs} {t : Trap} {w : Word} (h : r.trapTarget t = 1) (hw : causeWord t.irq t.cause = w) :
    (r.takeTrap t).get Csr.scause = w ∧ (r.takeTrap t).get Csr.stval = t.tval ∧ (r.takeTrap t).get Csr.sepc = r.pc ∧
      (r.takeTrap t).priv = 1 ∧ (r.takeTrap t).virt = false := by
  simp only [Regs.takeTrap, h, hw, Regs.get_mode]
  simp (disch := decide) only [Regs.get_put_ne, Regs.get_put_same, and_self]

theorem Regs.takeTrap_inMachine {r : Regs} {t : Trap} (h : r.trapTarget t = 3) :
    r.TookInMachine (r.takeTrap t) (causeWord t.irq t.cause) t.tval := by
  obtain ⟨hcause, htval, hepc, hpriv, hvirt⟩ := Regs.takeTrap_toMachine h rfl
  exact ⟨hcause, htval, hepc, hpriv, hvirt, Regs.takeTrap_keeps_machine h⟩

theorem Regs.takeTrap_inSupervisor {r : Regs} {t : Trap} (h : r.trapTarget t = 1) :
    r.TookInSupervisor (r.takeTrap t) (causeWord t.irq t.cause) t.tval := by
  obtain ⟨hcause, htval, hepc, hpriv, hvirt⟩ := Regs.takeTrap_toSupervisor h rfl
  exact ⟨hcause, htval, hepc, hpriv, hvirt, Regs.takeTrap_keeps_supervisor h⟩

/-- Neither the pc nor vstart decides where a trap is taken (R81). -/
theorem Core.trapTarget_entering (k : Core) (t : Trap) :
    ({ k.regs with pc := t.pc.getD k.regs.pc, vstart := t.elem.getD k.regs.vstart } : Regs).trapTarget t = k.regs.trapTarget t := rfl

theorem Core.trapRegs_inMachine {k : Core} {t : Trap} (h : k.regs.trapTarget t = 3) :
    ({ k.regs with pc := t.pc.getD k.regs.pc, vstart := t.elem.getD k.regs.vstart } : Regs).TookInMachine (k.trapRegs t)
      (causeWord t.irq t.cause) t.tval :=
  Regs.takeTrap_inMachine ((k.trapTarget_entering t).trans h)

theorem Core.trapRegs_inSupervisor {k : Core} {t : Trap} (h : k.regs.trapTarget t = 1) :
    ({ k.regs with pc := t.pc.getD k.regs.pc, vstart := t.elem.getD k.regs.vstart } : Regs).TookInSupervisor (k.trapRegs t)
      (causeWord t.irq t.cause) t.tval :=
  Regs.takeTrap_inSupervisor ((k.trapTarget_entering t).trans h)

/-- An exception of M-mode, or one that is not delegated, is taken in M-mode (R81). -/
theorem Regs.trapTarget_undelegated {r : Regs} {t : Trap} (hl : t.lvl = none) (hi : t.irq = false)
    (hd : (r.get Csr.medeleg).getLsbD t.cause = false) : r.trapTarget t = 3 := by
  have hd : (!(r.get Csr.medeleg).getLsbD t.cause) = true := by rw [hd]; rfl
  simp only [Regs.trapTarget, hl, hi, hd, or_true, if_true, Option.getD_none, Bool.false_eq_true, if_false]

/-! ## Several cores updated at once -/

/-- Each core of a list without repetition, updated by g, and no other. -/
theorem State.foldl_setCore (g : Core → Core) (l : List Nat) (hl : l.Nodup) (s : State) :
    let t := l.foldl (fun s c => s.setCore c (g (s.core c))) s
    (∀ d ∈ l, t.core d = g (s.core d)) ∧ (∀ d, d ∉ l → t.core d = s.core d) ∧ t = { s with cores := t.cores } := by
  induction l generalizing s with
  | nil => exact ⟨by simp, fun _ _ => rfl, rfl⟩
  | cons c l ih =>
    obtain ⟨hc, hl⟩ := List.nodup_cons.mp hl
    obtain ⟨hin, hout, hbeside⟩ := ih hl (s.setCore c (g (s.core c)))
    refine ⟨fun d hd => ?_, fun d hd => ?_, ?_⟩
    · by_cases hdc : d = c
      · subst hdc
        rw [List.foldl_cons, hout d hc, State.core_setCore_same]
      · rw [List.foldl_cons, hin d ((List.mem_cons.mp hd).resolve_left hdc), State.core_setCore_ne _ _ _ _ hdc]
    · rw [List.mem_cons, not_or] at hd
      rw [List.foldl_cons, hout d hd.2, State.core_setCore_ne _ _ _ _ hd.1]
    · rw [List.foldl_cons, hbeside]
      rfl

theorem mem_coresOf (n d : Nat) : d ∈ coresOf n ↔ d / 32 = n := by
  simp only [coresOf, List.mem_map, List.mem_range]
  constructor
  · rintro ⟨i, hi, rfl⟩
    omega
  · rintro rfl
    exact ⟨d % 32, by omega, by omega⟩

theorem coresOf_nodup (n : Nat) : (coresOf n).Nodup :=
  List.Nodup.map (fun a b (h : 32 * n + a = 32 * n + b) => by omega) List.nodup_range

end Sys2Proof.Machine
end

section
/-! PROOF. Writes of translation, environment, clock, core-control, poison and walk CSRs (O11). -/

namespace Sys2Proof.Machine

/-! ## Translation and environment CSRs (R70, R98) -/

theorem atpModeOk_iff (r : AtpReg) (m : Nat) : atpModeOk r m = true ↔ m ∈ [0, 8, 9, 10] ∨ m = 14 ∧ r = .satp := by
  simp [atpModeOk, or_assoc]

theorem Core.atpLegal_machine {k : Core} {r : AtpReg} (hp : k.regs.priv = 3) (hr : r = .vsatp ∨ k.regs.virt = false) :
    k.atpLegal r = 0 := by
  cases r with
  | satp => simp [Core.atpLegal, Core.tvmLegal, hp]
  | vsatp => exact Core.csrLegal_machine (n := Csr.vsatp) hp (by decide)
  | hgatp =>
    have hv : k.regs.virt = false := by simpa using hr
    simp [Core.atpLegal, Core.hypLegal, hp, hv]

theorem Core.lvlLegal_machine {k : Core} (hp : k.regs.priv = 3) (l : Lvl) {m : Nat} (hm : m / 1024 ≠ 3) (sv : Nat) :
    k.lvlLegal l m sv = 0 := by
  unfold Core.lvlLegal
  split
  · exact Core.csrLegal_machine hp hm
  · exact Core.vendorLegal_machine hp sv

theorem atpTarget_self {r : AtpReg} {virt : Bool} (hr : r = .vsatp ∨ virt = false) : atpTarget r virt = r := by
  rcases hr with rfl | rfl <;> simp [atpTarget]

section
variable {s : State} {c : CoreId} {val : Word} (hrun : (s.core c).run = .run) (hset : (s.core c).pipe.settled = true)
  (hp : (s.core c).regs.priv = 3)
include hrun hset hp

theorem exec_satpWrite_machine {r : AtpReg} (hr : r = .vsatp ∨ (s.core c).regs.virt = false) :
    exec (.satpWrite c r val) s =
      .next (if atpModeOk r (fld val 63 60) then s.setCore c ((s.core c).setCsr (atpNum r) (atpValue r val)) else s) := by
  change execSatpWrite c r val s = _
  rw [execSatpWrite, State.serial_legal hrun hset (Core.atpLegal_machine hp hr), atpTarget_self hr]

theorem exec_satpWrite_taken {r : AtpReg} (hr : r = .vsatp ∨ (s.core c).regs.virt = false) (hm : atpModeOk r (fld val 63 60) = true) :
    exec (.satpWrite c r val) s = .next (s.setCore c ((s.core c).setCsr (atpNum r) (atpValue r val))) := by
  rw [exec_satpWrite_machine hrun hset hp hr, if_pos hm]

theorem exec_satpWrite_kept {r : AtpReg} (hr : r = .vsatp ∨ (s.core c).regs.virt = false) (hm : atpModeOk r (fld val 63 60) ≠ true) :
    exec (.satpWrite c r val) s = .next s := by
  rw [exec_satpWrite_machine hrun hset hp hr, if_neg hm]

theorem exec_envcfgCbieWrite_machine (r : EnvReg) (v : BitVec 2) :
    exec (.envcfgCbieWrite c r v) s =
      .next (s.setCore c ((s.core c).setCsr (envNum r) (setFld ((s.core c).csr (envNum r)) 5 4 (if v = 2 then 0 else v.toNat)))) := by
  have hlegal : (s.core c).envcfgLegal r = 0 := by
    have hcsr : (s.core c).csrLegal (envNum r) true = 0 := Core.csrLegal_machine hp (by cases r <;> decide)
    simp [Core.envcfgLegal, hcsr, hp]
  change execEnvcfgCbieWrite c r v s = _
  rw [execEnvcfgCbieWrite, State.serial_legal hrun hset hlegal]
  rfl

/-! ## Core control, poison and walk records (R87, R88, R97, R107) -/

theorem exec_mcorectlWrite_machine :
    exec (.mcorectlWrite c val) s =
      .next (s.setCore c ((s.core c).setCsr Csr.mcorectl (if 1 ≤ fld val 7 4 ∧ fld val 7 4 ≤ 8
        then setFld (setFld ((s.core c).csr Csr.mcorectl) 1 0 (fld val 1 0)) 7 4 (fld val 7 4)
        else setFld ((s.core c).csr Csr.mcorectl) 1 0 (fld val 1 0)))) := by
  change execMcorectlWrite c val s = _
  rw [execMcorectlWrite, State.serial_legal hrun hset (Core.csrLegal_machine hp (by decide))]

theorem exec_poisoninfoWrite_machine (l : Lvl) :
    exec (.poisoninfoWrite c l val) s =
      .next (s.setCore c ((s.core c).setCsr (if l = .m then Csr.mpoisoninfo else Csr.spoisoninfo) (val &&& 0x01FFFFFFFFFFFFFF))) := by
  change execPoisoninfoWrite c l val s = _
  rw [execPoisoninfoWrite, State.serial_legal hrun hset (Core.lvlLegal_machine hp l (by decide) _)]
  rfl

theorem exec_walkinfoWrite_machine (l : Lvl) :
    exec (.walkinfoWrite c l val) s =
      .next (s.setCore c ((s.core c).setCsr (if l = .m then Csr.mwalkinfo else Csr.swalkinfo) val)) := by
  change execWalkinfoWrite c l val s = _
  rw [execWalkinfoWrite, State.serial_legal hrun hset (Core.lvlLegal_machine hp l (by decide) _)]
  rfl

theorem exec_mshimctlWrite_machine :
    exec (.mshimctlWrite c val) s =
      .next (s.setCore c ((s.core c).setCsr Csr.mshimctl (writeMask ((s.core c).csr Csr.mshimctl) val 7))) := by
  change execMshimctlWrite c val s = _
  rw [execMshimctlWrite, State.serial_legal hrun hset (Core.csrLegal_machine hp (by decide))]

end

/-- A write with mask 7 takes bits [2:0] and keeps the rest (R7). -/
theorem fld_writeMask_low3 (old v : Word) :
    fld (writeMask old v 7) 2 0 = fld v 2 0 ∧ fld (writeMask old v 7) 63 3 = fld old 63 3 := by
  have hmask : ∀ i, (7 : Word).getLsbD i = decide (i < 3) := fun i => by
    rw [show (7 : Word) = BitVec.ofNat 64 (2 ^ 3 - 1) from rfl, BitVec.getLsbD_ofNat, Nat.testBit_two_pow_sub_one]
    by_cases h : i < 64
    · simp [h]
    · simp [h, show ¬ i < 3 by omega]
  constructor
  · refine fld_congr fun i _ hi => ?_
    rw [getLsbD_writeMask, hmask, if_pos (by simpa using by omega)]
  · refine fld_congr fun i hi _ => ?_
    rw [getLsbD_writeMask, hmask, if_neg (by simpa using by omega)]

/-! ## The core's clock (R86, R373) -/

/-- What a write of mclksel leaves of the other CSRs and of the core. -/
structure Core.ClockOnly (k l : Core) : Prop where
  csr : ∀ n, n ≠ Csr.mclksel → l.csr n = k.csr n
  pipe : l.pipe = k.pipe

theorem Core.ClockOnly.refl (k : Core) : k.ClockOnly k := ⟨fun _ _ => rfl, rfl⟩

theorem Core.ClockOnly.setCsr {k l : Core} (h : k.ClockOnly l) (v : Word) : k.ClockOnly (l.setCsr Csr.mclksel v) :=
  ⟨fun n hn => (Core.csr_setCsr_ne _ _ _ _ hn).trans (h.csr n hn), h.pipe⟩

/-- The core with a clock switch asked for. -/
def Core.switching (k : Core) (pll : Bool) : Core := { k with clk := some pll }

theorem Core.ClockOnly.switching {k l : Core} (h : k.ClockOnly l) (pll : Bool) : k.ClockOnly (l.switching pll) := ⟨h.csr, h.pipe⟩

/-- SEL at the other clock, or a switch under way, asks for a switch. -/
theorem Core.startSwitch_asks {k : Core} {pll : Bool} (h : k.clk.isSome = true ∨ k.csrBit Csr.mclksel 1 ≠ pll) :
    k.startSwitch pll = (k.switching pll).setCsr Csr.mclksel (setFld (k.csr Csr.mclksel) 2 2 1) := by
  have hne : ¬ (k.clk.isNone = true ∧ k.csrBit Csr.mclksel 1 = pll) := by
    rintro ⟨hnone, hsel⟩
    rcases h with h | h
    · rw [Option.isNone_iff_eq_none] at hnone
      simp [hnone] at h
    · exact h hsel
  rw [Core.startSwitch, if_neg hne]
  rfl

/-- SEL at the clock in use with no switch under way asks for nothing. -/
theorem Core.startSwitch_stays {k : Core} {pll : Bool} (h : k.clk = none) (hsel : k.csrBit Csr.mclksel 1 = pll) :
    k.startSwitch pll = k := by
  rw [Core.startSwitch, if_pos ⟨by rw [h]; rfl, hsel⟩]

theorem Core.startSwitch_clockOnly {k l : Core} (h : k.ClockOnly l) (pll : Bool) : k.ClockOnly (l.startSwitch pll) := by
  unfold Core.startSwitch
  split
  · exact h
  · exact (h.switching pll).setCsr _

theorem Core.csrBit_setCsr_same (k : Core) (n i : Nat) (v : Word) : (k.setCsr n v).csrBit n i = v.getLsbD i := by
  rw [Core.csrBit, Core.csr_setCsr_same]

/-- Starting a switch leaves every bit of mclksel but SWITCHING. -/
theorem Core.csrBit_startSwitch (k : Core) (pll : Bool) {i : Nat} (hi : i ≠ 2) :
    (k.startSwitch pll).csrBit Csr.mclksel i = k.csrBit Csr.mclksel i := by
  unfold Core.startSwitch
  split
  · rfl
  · exact (Core.csrBit_setCsr_same ..).trans (getLsbD_setFld_other _ _ (by omega))

theorem Core.csrBit_writeSel (k : Core) (sel : Bool) {i : Nat} (hi : i ≠ 0) (hi' : i ≠ 2) :
    (k.writeSel sel).csrBit Csr.mclksel i = k.csrBit Csr.mclksel i := by
  rw [Core.writeSel, Core.csrBit_startSwitch _ _ hi', Core.csrBit_setCsr_same, getLsbD_setFld_other _ _ (by omega)]
  rfl

theorem Core.csrBit_pllUp (k : Core) : k.pllUp.csrBit Csr.mclksel 3 = true := by
  have hready : (k.setCsr Csr.mclksel (setFld (k.csr Csr.mclksel) 3 3 1)).csrBit Csr.mclksel 3 = true := by
    rw [Core.csrBit_setCsr_same]
    exact getLsbD_setFld_bit _ true (by decide)
  unfold Core.pllUp
  dsimp only
  split
  · rw [Core.csrBit_startSwitch _ _ (by decide), hready]
  · split
    · rw [Core.csrBit_writeSel _ _ (by decide) (by decide), hready]
    · exact hready

/-- mclksel after a write of EN and SEL that asks for no switch, and after one that does (R86). -/
def selWord (w : Word) (en sel : Bool) : Word := setFld (setFld w 4 4 (b2n en)) 0 0 (b2n sel)
def askWord (w : Word) (en sel : Bool) : Word := setFld (selWord w en sel) 2 2 1

theorem getLsbD_selWord (w : Word) (en sel : Bool) :
    (selWord w en sel).getLsbD 0 = sel ∧ (selWord w en sel).getLsbD 4 = en ∧
      ∀ i, i ≠ 0 → i ≠ 4 → (selWord w en sel).getLsbD i = w.getLsbD i := by
  unfold selWord
  refine ⟨getLsbD_setFld_bit _ _ (by decide), ?_, fun i h0 h4 => ?_⟩
  · rw [getLsbD_setFld_other _ _ (by decide), getLsbD_setFld_bit _ _ (by decide)]
  · rw [getLsbD_setFld_other _ _ (by omega), getLsbD_setFld_other _ _ (by omega)]

theorem getLsbD_askWord (w : Word) (en sel : Bool) :
    (askWord w en sel).getLsbD 2 = true ∧ ∀ i, i ≠ 2 → (askWord w en sel).getLsbD i = (selWord w en sel).getLsbD i :=
  ⟨getLsbD_setFld_bit _ true (by decide), fun _ hi => getLsbD_setFld_other _ _ (by omega)⟩

/-- The core once mclksel's EN and SEL have been written (R86). -/
def Core.clkWritten (k : Core) (en sel : Bool) : Core :=
  (k.setCsr Csr.mclksel (setFld (k.csr Csr.mclksel) 4 4 (b2n en))).writeSel sel

/-- The same before a switch is asked for. -/
def Core.selWritten (k : Core) (en sel : Bool) : Core :=
  (k.setCsr Csr.mclksel (setFld (k.csr Csr.mclksel) 4 4 (b2n en))).setCsr Csr.mclksel (selWord (k.csr Csr.mclksel) en sel)

section
variable (k : Core) (en sel : Bool)

theorem Core.clkWritten_eq : k.clkWritten en sel = (k.selWritten en sel).startSwitch sel := by
  rw [Core.clkWritten, Core.writeSel, Core.csr_setCsr_same]
  rfl

theorem Core.csr_selWritten : (k.selWritten en sel).csr Csr.mclksel = selWord (k.csr Csr.mclksel) en sel := Core.csr_setCsr_same ..

theorem Core.csrBit_selWritten : (k.selWritten en sel).csrBit Csr.mclksel 1 = k.csrBit Csr.mclksel 1 := by
  rw [Core.csrBit, Core.csr_selWritten, (getLsbD_selWord _ _ _).2.2 1 (by decide) (by decide)]
  rfl

theorem Core.clkWritten_clockOnly : k.ClockOnly (k.clkWritten en sel) := by
  rw [Core.clkWritten_eq]
  exact Core.startSwitch_clockOnly (((Core.ClockOnly.refl k).setCsr _).setCsr _) _

variable {k sel}

/-- EN and SEL written, with a switch asked for. -/
theorem Core.clkWritten_asks (h : k.clk.isSome = true ∨ k.csrBit Csr.mclksel 1 ≠ sel) :
    (k.clkWritten en sel).clk = some sel ∧ (k.clkWritten en sel).csr Csr.mclksel = askWord (k.csr Csr.mclksel) en sel := by
  have hask := Core.startSwitch_asks (k := k.selWritten en sel) (h.imp id (fun h => by rwa [Core.csrBit_selWritten]))
  rw [Core.csr_selWritten] at hask
  rw [Core.clkWritten_eq, hask, Core.csr_setCsr_same]
  exact ⟨rfl, rfl⟩

/-- EN and SEL written, with SEL at the clock in use. -/
theorem Core.clkWritten_stays (h : k.clk = none) (hsel : k.csrBit Csr.mclksel 1 = sel) :
    (k.clkWritten en sel).clk = none ∧ (k.clkWritten en sel).csr Csr.mclksel = selWord (k.csr Csr.mclksel) en sel := by
  rw [Core.clkWritten_eq, Core.startSwitch_stays (k := k.selWritten en sel) h (by rwa [Core.csrBit_selWritten]), Core.csr_selWritten]
  exact ⟨h, rfl⟩

end

theorem exec_mclkselWrite_machine {s : State} {c : CoreId} {val : Word} (hrun : (s.core c).run = .run)
    (hset : (s.core c).pipe.settled = true) (hp : (s.core c).regs.priv = 3) :
    exec (.mclkselWrite c val) s = .next (s.setCore c ((s.core c).clkWritten (val.getLsbD 4) (val.getLsbD 0))) := by
  change execMclkselWrite c val s = _
  rw [execMclkselWrite, State.serial_legal hrun hset (Core.csrLegal_machine hp (by decide))]
  rfl

theorem State.SetsCore.onlyCore {s t : State} {c : Nat} {k : Core} (h : s.SetsCore t c k) : s.onlyCore t c :=
  ⟨h.others, by rw [h.beside]⟩

/-- A switch whose target is ready ends: the clock in use is the target. -/
theorem exec_clockSwitchDone_ends {s : State} {c : CoreId} {pll : Bool} (hclk : (s.core c).clk = some pll)
    (hready : pll = true → (s.core c).csrBit Csr.mclksel 3 = true) :
    exec (.clockSwitchDone c) s = .next (s.setCore c (({ s.core c with clk := none } : Core).setCsr Csr.mclksel
      (setFld (setFld ((s.core c).csr Csr.mclksel) 1 1 (b2n pll)) 2 2 (b2n false)))) := by
  have hgo : (pll && !(s.core c).csrBit Csr.mclksel 3) = false := by
    cases pll
    · rfl
    · rw [hready rfl]
      rfl
  change execClockSwitchDone c s = _
  simp only [execClockSwitchDone, hclk, hgo]
  rfl

/-- A core meets PLL_LOCK: PLL_READY is set. -/
def Core.pllReady (k : Core) : Core :=
  if k.run = .run ∨ k.run = .idle then k.pllUp else k.setCsr Csr.mclksel (setFld (k.csr Csr.mclksel) 3 3 1)

theorem Core.csrBit_pllReady (k : Core) : k.pllReady.csrBit Csr.mclksel 3 = true := by
  unfold Core.pllReady
  split
  · exact k.csrBit_pllUp
  · exact (Core.csrBit_setCsr_same ..).trans (getLsbD_setFld_bit _ true (by decide))

theorem exec_pllLock_starts {s : State} {n : StudId} (hon : (s.stud n).pllOn = true) (hready : (s.stud n).pllReady = false) :
    let u := s.setStud n { s.stud n with pllReady := true }
    RunsTo (exec (.pllLock n) s) fun t =>
      (∀ d ∈ coresOf n, t.core d = (u.core d).pllReady) ∧ (∀ d, d ∉ coresOf n → t.core d = u.core d) ∧ t = { u with cores := t.cores } := by
  refine ⟨_, ?_, State.foldl_setCore Core.pllReady (coresOf n) (coresOf_nodup n) _⟩
  change execPllLock n s = _
  simp only [execPllLock, hon, hready, Bool.not_true, Bool.false_eq_true, or_self, if_false]
  rfl

/-- Settles O11: each write, once the hart may make it, sets the fields it names in its own CSR. -/
theorem vendorCsrWrites : Obligations.VendorCsrWrites := by
  unfold Obligations.VendorCsrWrites
  refine ⟨?satp, ?satpKept, ?vsatp, ?vsatpKept, ?hgatp, ?hgatpKept, ?cbie, ?asks, ?stays, ?done, ?idle, ?lock, ?prefetch,
    ?prefetchKept, ?poison, ?walk, ?shim, ?illegal⟩
  case satp =>
    intro s c val hrun hset hp hm hv
    exact exec_satpWrite_taken hrun hset hp (.inr hv) ((atpModeOk_iff ..).mpr (by simpa [or_assoc] using hm))
  case satpKept =>
    intro s c val hrun hset hp hm hv
    exact exec_satpWrite_kept hrun hset hp (.inr hv) (fun h => hm (by simpa [or_assoc] using (atpModeOk_iff ..).mp h))
  case vsatp =>
    intro s c val hrun hset hp hm
    exact exec_satpWrite_taken hrun hset hp (.inl rfl) ((atpModeOk_iff ..).mpr (.inl hm))
  case vsatpKept =>
    intro s c val hrun hset hp hm
    exact exec_satpWrite_kept hrun hset hp (.inl rfl) (fun h => hm (by simpa using (atpModeOk_iff ..).mp h))
  case hgatp =>
    intro s c val hrun hset hp hm hv
    exact exec_satpWrite_taken hrun hset hp (.inr hv) ((atpModeOk_iff ..).mpr (.inl hm))
  case hgatpKept =>
    intro s c val hrun hset hp hm hv
    exact exec_satpWrite_kept hrun hset hp (.inr hv) (fun h => hm (by simpa using (atpModeOk_iff ..).mp h))
  case cbie =>
    intro s c r v hrun hset hp
    exact exec_envcfgCbieWrite_machine hrun hset hp r v
  case asks =>
    intro s c val hrun hset hp hask
    have hsets := s.setsCore_setCore c ((s.core c).clkWritten (val.getLsbD 4) (val.getLsbD 0))
    obtain ⟨hclk, hword⟩ := Core.clkWritten_asks (val.getLsbD 4) hask
    obtain ⟨hsel, hen, hother⟩ := getLsbD_selWord ((s.core c).csr Csr.mclksel) (val.getLsbD 4) (val.getLsbD 0)
    obtain ⟨hswitching, hask⟩ := getLsbD_askWord ((s.core c).csr Csr.mclksel) (val.getLsbD 4) (val.getLsbD 0)
    have honly := (s.core c).clkWritten_clockOnly (val.getLsbD 4) (val.getLsbD 0)
    refine ⟨_, exec_mclkselWrite_machine hrun hset hp, ?_⟩
    simp only [hsets.core, Core.csrBit, hword, hclk]
    refine ⟨trivial, (hask 0 (by decide)).trans hsel, (hask 1 (by decide)).trans (hother 1 (by decide) (by decide)), hswitching, ?_,
      (hask 3 (by decide)).trans (hother 3 (by decide) (by decide)), (hask 4 (by decide)).trans hen, honly.csr, honly.pipe,
      hsets.onlyCore⟩
    exact fld_congr fun i hi _ => (hask i (by omega)).trans (hother i (by omega) (by omega))
  case stays =>
    intro s c val hrun hset hp hnone hin
    have hsets := s.setsCore_setCore c ((s.core c).clkWritten (val.getLsbD 4) (val.getLsbD 0))
    obtain ⟨hclk, hword⟩ := Core.clkWritten_stays (val.getLsbD 4) hnone hin
    obtain ⟨hsel, hen, hother⟩ := getLsbD_selWord ((s.core c).csr Csr.mclksel) (val.getLsbD 4) (val.getLsbD 0)
    have honly := (s.core c).clkWritten_clockOnly (val.getLsbD 4) (val.getLsbD 0)
    refine ⟨_, exec_mclkselWrite_machine hrun hset hp, ?_⟩
    simp only [hsets.core, Core.csrBit, hword, hclk]
    refine ⟨trivial, hsel, hen, ?_, ?_, honly.csr, honly.pipe, hsets.onlyCore⟩ <;>
      exact fld_congr fun i hlo hhi => hother i (by omega) (by omega)
  case done =>
    intro s c pll hclk hready
    refine ⟨_, exec_clockSwitchDone_ends hclk hready, ?_⟩
    have honly : (s.core c).ClockOnly _ := (Core.ClockOnly.setCsr (k := s.core c) (l := { s.core c with clk := none }) ⟨fun _ _ => rfl, rfl⟩
      (setFld (setFld ((s.core c).csr Csr.mclksel) 1 1 (b2n pll)) 2 2 (b2n false)))
    have hsets := s.setsCore_setCore c (({ s.core c with clk := none } : Core).setCsr Csr.mclksel
      (setFld (setFld ((s.core c).csr Csr.mclksel) 1 1 (b2n pll)) 2 2 (b2n false)))
    simp only [hsets.core, Core.csrBit, Core.csr_setCsr_same]
    refine ⟨rfl, ?_, getLsbD_setFld_bit _ _ (by decide), ?_, honly.csr, honly.pipe, hsets.onlyCore⟩
    · rw [getLsbD_setFld_other _ _ (by decide), getLsbD_setFld_bit _ _ (by decide)]
    · rw [getLsbD_setFld_other _ _ (by decide), getLsbD_setFld_other _ _ (by decide)]
  case idle =>
    intro s c hclk
    change execClockSwitchDone c s = _
    simp only [execClockSwitchDone, hclk]
  case lock =>
    intro s n hon hready
    obtain ⟨t, hexec, hin, hout, hbeside⟩ := exec_pllLock_starts hon hready
    refine ⟨t, hexec, ?_, fun d hd => ?_, fun d hd => ?_, ?_⟩
    · rw [hbeside]
      exact congrArg Stud.pllReady (State.stud_setStud_same ..)
    · rw [hin d ((mem_coresOf n d).mpr hd)]
      exact Core.csrBit_pllReady _
    · exact hout d (fun h => hd ((mem_coresOf n d).mp h))
    · rw [hbeside]
      rfl
  case prefetch =>
    intro s c val hrun hset hp hlo hhi
    rw [exec_mcorectlWrite_machine hrun hset hp, if_pos ⟨hlo, hhi⟩]
  case prefetchKept =>
    intro s c val hrun hset hp hd
    rw [exec_mcorectlWrite_machine hrun hset hp, if_neg (by omega)]
  case poison =>
    intro s c l val hrun hset hp
    exact exec_poisoninfoWrite_machine hrun hset hp l
  case walk =>
    intro s c l val hrun hset hp
    exact exec_walkinfoWrite_machine hrun hset hp l
  case shim =>
    intro s c val hrun hset hp
    have hsets := s.setsCore_setCore c ((s.core c).setCsr Csr.mshimctl (writeMask ((s.core c).csr Csr.mshimctl) val 7))
    obtain ⟨hlow, hhigh⟩ := fld_writeMask_low3 ((s.core c).csr Csr.mshimctl) val
    refine ⟨_, exec_mshimctlWrite_machine hrun hset hp, ?_⟩
    simp only [hsets.core, Core.csr_setCsr_same]
    exact ⟨hlow, hhigh, fun n hn => Core.csr_setCsr_ne _ _ _ _ hn, rfl, rfl, hsets.onlyCore⟩
  case illegal =>
    intro s c val hrun hset hp hv hdeleg hsnp
    have hlegal : (s.core c).csrLegal Csr.mcorectl true = 2 := by
      have hp3 : (s.core c).regs.priv ≠ 3 := by omega
      have hneed : ¬ Csr.mcorectl / 256 % 4 ≤ (if (s.core c).regs.priv = 1 then 2 else 0) := by
        have : Csr.mcorectl / 256 % 4 = 3 := by decide
        split <;> omega
      simp [Core.csrLegal, hp3, hv, hneed]
    have hexec : exec (.mcorectlWrite c val) s = .next (s.illegal c false) := by
      change execMcorectlWrite c val s = _
      rw [execMcorectlWrite, State.serial_illegal hrun hset (by rw [hlegal]; decide), hlegal]
      rfl
    have hsets := State.trapCore_setsCore hsnp { cause := 2 }
    have htook := Core.trapRegs_inMachine (k := s.core c) (t := { cause := 2 }) (Regs.trapTarget_undelegated rfl rfl hdeleg)
    refine ⟨_, hexec, ?_⟩
    rw [State.illegal, if_neg (by decide)]
    simp only [hsets.core]
    exact ⟨htook.mcause, htook.mepc, htook.priv, htook.kept.get _ (by decide), htook.kept.x, htook.kept.f, htook.kept.v,
      hsets.onlyCore⟩

end Sys2Proof.Machine
end

section
/-! PROOF. The system timer, the timer registers and interrupt-file writes (O16). -/

namespace Sys2Proof.Machine

/-! ## What holds of every entry of a table -/

theorem Tab.mem_of_find {α : Type} {t : Map α} {k : Nat} {v : α} (h : Tab.find t k = some v) : (k, v) ∈ t := by
  induction t with
  | nil => simp [Tab.find] at h
  | cons e r ih =>
    obtain ⟨j, w⟩ := e
    by_cases hj : j = k
    · simp_all [Tab.find]
    · exact List.mem_cons_of_mem _ (ih (by simpa [Tab.find, hj] using h))

/-- What holds of the default and of every entry holds of every value read. -/
theorem Tab.get_of_forall {α : Type} {t : Map α} {d : α} {P : α → Prop} (h : ∀ e ∈ t, P e.2) (hd : P d) (k : Nat) : P (Tab.get t d k) := by
  unfold Tab.get
  cases hf : Tab.find t k with
  | none => exact hd
  | some v => exact h _ (Tab.mem_of_find hf)

/-- Every entry mapped by g, where g keeps the default. -/
theorem Tab.get_map {α : Type} (t : Map α) (d : α) (g : α → α) (hg : g d = d) (k : Nat) :
    Tab.get (t.map (fun e => (e.1, g e.2))) d k = g (Tab.get t d k) := by
  induction t with
  | nil => exact hg.symm
  | cons e r ih =>
    obtain ⟨j, v⟩ := e
    unfold Tab.get at ih ⊢
    by_cases hj : j = k <;> simp [Tab.find, hj, ih]

/-! ## Wake marks (R80, R378) -/

/-- Of the state before, nothing but wake marks of cores has changed. -/
structure State.OnlyWakes (s t : State) : Prop where
  core : ∀ d, ∃ b, t.core d = { s.core d with wake := b }
  beside : t = { s with cores := t.cores }

theorem State.OnlyWakes.refl (s : State) : s.OnlyWakes s := ⟨fun d => ⟨(s.core d).wake, rfl⟩, rfl⟩

theorem State.OnlyWakes.trans {s t u : State} (h : s.OnlyWakes t) (h' : t.OnlyWakes u) : s.OnlyWakes u := by
  refine ⟨fun d => ?_, by rw [h'.beside, h.beside]⟩
  obtain ⟨b, hb⟩ := h.core d
  obtain ⟨b', hb'⟩ := h'.core d
  exact ⟨b', by rw [hb', hb]⟩

theorem State.noteWake_onlyWakes (s : State) (c : Nat) : s.OnlyWakes (s.noteWake c) := by
  obtain ⟨b, hset⟩ := s.noteWake_setsCore c
  refine ⟨fun d => ?_, hset.beside⟩
  by_cases hd : d = c
  · exact ⟨b, hd ▸ hset.core⟩
  · exact ⟨(s.core d).wake, hset.others d hd⟩

theorem State.foldl_noteWake_onlyWakes (l : List Nat) (s : State) : s.OnlyWakes (l.foldl State.noteWake s) := by
  induction l generalizing s with
  | nil => exact State.OnlyWakes.refl s
  | cons c l ih => exact (s.noteWake_onlyWakes c).trans (ih _)

theorem State.OnlyWakes.keeps {s t : State} {α : Type} (h : s.OnlyWakes t) (f : Core → α) (hf : ∀ k b, f { k with wake := b } = f k)
    (d : Nat) : f (t.core d) = f (s.core d) := by
  obtain ⟨b, hb⟩ := h.core d
  rw [hb, hf]

theorem State.OnlyWakes.frame {s t : State} (h : s.OnlyWakes t) (f : Nat) : t.frame f = s.frame f := by
  rw [h.beside]
  rfl

/-! ## The tick (R79, R323) -/

/-- With no reply waiting, filling the reply rings changes nothing. -/
theorem State.pumpAll_idle {s : State} (hr : ∀ f, (s.frame f).ring.replies = []) (hd : ∀ p, (s.port p).dt.replies = []) :
    s.pumpAll = s := by
  have hring : ∀ f, s.pumpReplies { kind := .ring, inst := f } = s := fun f => by
    simp [State.pumpReplies, State.pumpRing, hr]
  have hmail : ∀ p, s.pumpReplies { kind := .dovetail, inst := p } = s := fun p => by
    simp [State.pumpReplies, hd, State.pumpMailbox]
  have hrings := List.foldl_fixed' (f := fun (s : State) f => s.pumpReplies { kind := .ring, inst := f }) hring (framesOf s.mode)
  have hmails := List.foldl_fixed' (f := fun (s : State) p => s.pumpReplies { kind := .dovetail, inst := p }) hmail (List.range 8)
  change List.foldl _ (List.foldl _ s _) _ = s
  rw [hrings]
  exact hmails

theorem State.idleRings.frame {s : State} (h : s.idleRings) (f : Nat) : (s.frame f).ring.replies = [] :=
  Tab.get_of_forall (P := fun (fr : Frame) => fr.ring.replies = []) h.1 rfl f

theorem State.idleRings.port {s : State} (h : s.idleRings) (p : Nat) : (s.port p).dt.replies = [] :=
  Tab.get_of_forall (P := fun (k : Port) => k.dt.replies = []) h.2 rfl p

theorem Frame.slewTick_ring (fr : Frame) : fr.slewTick.ring = fr.ring := by
  unfold Frame.slewTick
  split
  · rfl
  · split <;> rfl

/-- The state in which the timer has counted the tick. -/
def State.ticked (s : State) : State :=
  { s with mtime := s.mtime + 1, scribe := { s.scribe with upTicks := s.scribe.upTicks + b2n s.plumb.on } }

/-- The state in which every frame that slews has gained or held back a tick (R262). -/
def State.slewed (s : State) : State := { s with frames := s.frames.map (fun e => (e.1, e.2.slewTick)) }

theorem State.slewed_frame (s : State) (f : Nat) : s.slewed.frame f = (s.frame f).slewTick :=
  Tab.get_map s.frames {} Frame.slewTick rfl f

theorem execMtimeTick_of_on {s : State} (hon : s.refLost = false ∧ s.off = false ∧ s.pins.pwrgood = true) :
    execMtimeTick s = .next ((Tab.keys s.cores).foldl State.noteWake
      (if (s.mtime + 1).toNat % 1000 = 0 then s.ticked.slewed else s.ticked)).pumpAll := by
  obtain ⟨href, hoff, hpwr⟩ := hon
  rw [execMtimeTick, if_neg (by simp [href, hoff, hpwr])]
  by_cases h : (s.mtime + 1).toNat % 1000 = 0
  · simp only [h, if_true, State.ticked, State.slewed]
  · simp only [h, if_false, State.ticked]

theorem exec_mtimeTick_counts {s u : State} (hon : s.refLost = false ∧ s.off = false ∧ s.pins.pwrgood = true)
    (hu : u = if (s.mtime + 1).toNat % 1000 = 0 then s.ticked.slewed else s.ticked)
    (hr : ∀ f, (u.frame f).ring.replies = []) (hd : ∀ p, (u.port p).dt.replies = []) :
    RunsTo (exec .mtimeTick s) (u.OnlyWakes ·) := by
  have hwakes := State.foldl_noteWake_onlyWakes (Tab.keys s.cores) u
  refine ⟨_, (execMtimeTick_of_on hon).trans ?_, hwakes⟩
  rw [← hu, State.pumpAll_idle (fun f => by rw [hwakes.frame, hr]) (fun p => by rw [hwakes.beside]; exact hd p)]

/-! ## Timer registers (R79, R80) -/

theorem contains_framesOf (mode f : Nat) : (framesOf mode).contains f = decide (f < frameCount mode) := by
  simp [framesOf]

theorem State.csDrop_only (s : State) (f cause inst off : Nat) :
    ∃ w, s.csDrop f cause inst off = s.setFrame f { s.frame f with csErr := w } := ⟨_, rfl⟩

theorem State.mtimeOf_setFrame {s : State} {f : Nat} {fr : Frame} (h : fr.mtimeOff = (s.frame f).mtimeOff) (g : Nat) :
    (s.setFrame f fr).mtimeOf g = s.mtimeOf g := by
  unfold State.mtimeOf
  by_cases hg : g = f
  · rw [hg, State.frame_setFrame_same, h]
    rfl
  · rw [State.frame_setFrame_ne _ _ _ _ hg]
    rfl

theorem exec_mtimeWrite_frame {s : State} {f : FrameId} {val : Word} (hf : f.val < frameCount s.mode) :
    exec (.mtimeWrite f val) s = .next (s.mtimeWrite f 0x200000 val) := by
  change execMtimeWrite f val s = _
  rw [execMtimeWrite, contains_framesOf, if_pos (decide_eq_true hf)]

theorem exec_mtimecmpWrite_frame {s : State} {f : FrameId} {h : BitVec 9} {val : Word} (hf : f.val < frameCount s.mode) :
    exec (.mtimecmpWrite f h val) s = .next (s.mtimecmpWrite f h.toNat (0x208000 + 8 * h.toNat) val) := by
  change execMtimecmpWrite f h val s = _
  rw [execMtimecmpWrite, contains_framesOf, if_pos (decide_eq_true hf)]

/-! ## Interrupt files (R75, R76, R209) -/

theorem exec_msiWrite_frame {s : State} {f : FrameId} {h : BitVec 12} {file : IntFile} {id : BitVec 32}
    (hf : f.val < frameCount s.mode) :
    exec (.msiWrite f h file id) s = .next (s.msiTo none f h.toNat (fileNo file) id.toNat) := by
  change execMsiWrite f h file id s = _
  rw [execMsiWrite, contains_framesOf, if_pos (decide_eq_true hf)]
  rfl

/-- A write of an identity to a file of a core. -/
def Core.filePended (k : Core) (file id : Nat) : Core :=
  if 1 ≤ id ∧ id ≤ 2047 then k.setFile file { k.file file with eip := listAdd (k.file file).eip id } else k

theorem State.imsicPut_setsCore (s : State) (c file id : Nat) :
    ∃ b, s.SetsCore (s.imsicPut c file id) c { (s.core c).filePended file id with wake := b } := by
  unfold State.imsicPut
  dsimp only
  have hset := fun b => s.setsCore_setCore c { (s.core c).filePended file id with wake := b }
  have hwake : ∀ b, ∃ b', s.SetsCore ((s.setCore c { (s.core c).filePended file id with wake := b }).noteWake c) c
      { (s.core c).filePended file id with wake := b' } := fun b => by
    obtain ⟨b', h⟩ := State.noteWake_setsCore (s.setCore c { (s.core c).filePended file id with wake := b }) c
    rw [(hset b).core] at h
    exact ⟨b', (hset b).trans h⟩
  change ∃ b, s.SetsCore ((s.setCore c (if ((s.core c).filePended file id).run = .held ∧ file = 0 then
    { (s.core c).filePended file id with wake := true } else (s.core c).filePended file id)).noteWake c) c _
  split
  · exact hwake true
  · exact hwake ((s.core c).filePended file id).wake

theorem Core.filePended_file_same {k : Core} {file id : Nat} (h : 1 ≤ id ∧ id ≤ 2047) :
    ((k.filePended file id).file file).eip = listAdd (k.file file).eip id := by
  rw [Core.filePended, if_pos h]
  exact congrArg IFile.eip (Tab.get_put_same ..)

theorem Core.filePended_file_ne (k : Core) {file id j : Nat} (h : j ≠ file) : (k.filePended file id).file j = k.file j := by
  unfold Core.filePended
  split
  · exact Tab.get_put_ne _ _ _ _ _ h
  · rfl

theorem Core.filePended_ignored {k : Core} {file id : Nat} (h : id = 0 ∨ 2047 < id) : k.filePended file id = k := by
  rw [Core.filePended, if_neg (by omega)]

theorem Core.filePended_regs (k : Core) (file id : Nat) : (k.filePended file id).regs = k.regs := by
  unfold Core.filePended
  split <;> rfl

/-- A core of a hart index lies in a stud (R76). -/
theorem State.coreOfHart_lt {s : State} {f h c : Nat} (hc : s.coreOfHart f h = some c) : c / 32 < 12 := by
  obtain ⟨⟨-, -, hstud, -⟩, hval⟩ := Option.ite_none_right_eq_some.mp hc
  have hlt : (studsOf s.mode f).headD 0 + bits h 8 5 < 12 := by
    simp only [studsOf, List.contains_iff_mem, List.mem_filter, List.mem_range] at hstud
    exact hstud.1
  have := Option.some.inj hval
  omega

theorem State.msiTo_open {s : State} {f h c file id : Nat} (hc : s.coreOfHart f h = some c) (hst : (s.tenon (c / 32)).st ≠ 3) :
    s.msiTo none f h file id = s.imsicPut c file id := by
  simp [State.msiTo, hc, hst]

theorem State.msiTo_parked {s : State} {f h c file id : Nat} (hc : s.coreOfHart f h = some c) (hst : (s.tenon (c / 32)).st = 3) :
    ∃ m, s.msiTo none f h file id = s.holdMsg (c / 32) c m := by
  have hne : ¬ 32 + 2 * bridgeOf s.mode f = c / 32 := by
    have := State.coreOfHart_lt hc
    omega
  exact ⟨_, by simp only [State.msiTo, hc, hst, Option.getD_none, hne, State.msiOn, ne_eq, not_true_eq_false, and_false, or_self,
    if_false, if_true]; rfl⟩

theorem State.msiTo_noHart {s : State} {f h file id : Nat} (hc : s.coreOfHart f h = none) (hj : joinedMode s.mode = false) :
    s.msiTo none f h file id = s.noHart f h := by
  simp [State.msiTo, hc, hj]

/-- Settles O16: each write reaches the register or file it names, and the tick changes nothing but times and wake marks. -/
theorem timersAndInterruptFiles : Obligations.TimersAndInterruptFiles := by
  unfold Obligations.TimersAndInterruptFiles
  refine ⟨?tick, ?slew, ?stopped, ?mtime, ?noFrame, ?joined, ?mtimecmp, ?noCmp, ?file, ?ignored, ?parked, ?noHart⟩
  case tick =>
    intro s hon hidle hno
    obtain ⟨t, hexec, hw⟩ := exec_mtimeTick_counts (u := s.ticked) hon (by rw [if_neg hno]) hidle.frame hidle.port
    refine ⟨t, hexec, by rw [hw.beside]; rfl, fun f => ?_, by rw [hw.beside]; rfl, by rw [hw.beside]; rfl, by rw [hw.beside]; rfl,
      by rw [hw.beside]; rfl, fun c => ⟨hw.keeps Core.regs (fun _ _ => rfl) c, hw.keeps Core.pipe (fun _ _ => rfl) c⟩⟩
    rw [State.mtimeOf, hw.frame, hw.beside]
    change s.mtime + 1 + (s.frame f).mtimeOff = s.mtime + (s.frame f).mtimeOff + 1
    bv_omega
  case slew =>
    intro s hon hidle hyes
    obtain ⟨t, hexec, hw⟩ := exec_mtimeTick_counts (u := s.ticked.slewed) hon (by rw [if_pos hyes])
      (fun f => by rw [State.slewed_frame, Frame.slewTick_ring]; exact hidle.frame f) hidle.port
    refine ⟨t, hexec, by rw [hw.beside]; rfl, fun f => ?_, by rw [hw.beside]; rfl, by rw [hw.beside]; rfl, by rw [hw.beside]; rfl,
      fun c => ⟨hw.keeps Core.regs (fun _ _ => rfl) c, hw.keeps Core.pipe (fun _ _ => rfl) c⟩⟩
    rw [State.mtimeOf, hw.frame, hw.beside, State.slewed_frame]
    change s.mtime + 1 + (s.frame f).slewTick.mtimeOff = s.mtime + (s.frame f).mtimeOff + _
    unfold Frame.slewTick
    split_ifs <;> bv_omega
  case stopped =>
    intro s h
    change execMtimeTick s = _
    rw [execMtimeTick, if_pos (by simpa using h)]
  case mtime =>
    intro s f val hf hj
    refine ⟨_, exec_mtimeWrite_frame hf, ?_⟩
    rw [State.mtimeWrite, if_neg (by rw [hj]; decide)]
    refine ⟨?_, rfl⟩
    rw [State.mtimeOf, State.frame_setFrame_same]
    change s.mtime + (val - (s.mtime + 1)) + 1 = val
    bv_omega
  case noFrame =>
    intro s f h val i hf hi
    have hno : (framesOf s.mode).contains f.val = false := by
      rw [contains_framesOf]
      exact decide_eq_false (by omega)
    rcases hi with rfl | rfl
    · change execMtimeWrite f val s = _
      rw [execMtimeWrite, if_neg (by rw [hno]; decide)]
    · change execMtimecmpWrite f h val s = _
      rw [execMtimecmpWrite, if_neg (by rw [hno]; decide)]
  case joined =>
    intro s f val hj
    change RunsTo (execMtimeWrite f val s) _
    unfold execMtimeWrite
    split
    · refine ⟨_, rfl, ?_⟩
      obtain ⟨w, hw⟩ := s.csDrop_only f 3 0 0x200000
      rw [State.mtimeWrite, if_pos hj, hw]
      exact ⟨State.mtimeOf_setFrame rfl, rfl, rfl, rfl, rfl⟩
    · exact ⟨s, rfl, fun _ => rfl, rfl, rfl, rfl, rfl⟩
  case mtimecmp =>
    intro s f h val c hf hc
    refine ⟨_, exec_mtimecmpWrite_frame hf, ?_⟩
    obtain ⟨b, hwake⟩ := (s.setCore c { s.core c with mtimecmp := val }).noteWake_setsCore c
    rw [State.core_setCore_same] at hwake
    have hset := (s.setsCore_setCore c _).trans hwake
    simp only [State.mtimecmpWrite, hc]
    rw [hset.core]
    exact ⟨rfl, rfl, rfl, hset.onlyCore⟩
  case noCmp =>
    intro s f h val hf hc
    refine ⟨_, exec_mtimecmpWrite_frame hf, ?_⟩
    simp only [State.mtimecmpWrite, hc]
    exact ⟨rfl, rfl, rfl, rfl⟩
  case file =>
    intro s f h file id c hf hc hst hlo hhi
    obtain ⟨b, hset⟩ := s.imsicPut_setsCore c (fileNo file) id.toNat
    refine ⟨_, exec_msiWrite_frame hf, ?_⟩
    simp only [State.msiTo_open hc hst, hset.core]
    exact ⟨Core.filePended_file_same ⟨hlo, hhi⟩, fun k hk => Core.filePended_file_ne _ hk, Core.filePended_regs .., hset.onlyCore⟩
  case ignored =>
    intro s f h file id c hf hc hst hid
    obtain ⟨b, hset⟩ := s.imsicPut_setsCore c (fileNo file) id.toNat
    refine ⟨_, exec_msiWrite_frame hf, ?_⟩
    simp only [State.msiTo_open hc hst, hset.core, Core.filePended_ignored hid]
    exact ⟨trivial, trivial, hset.onlyCore⟩
  case parked =>
    intro s f h file id c hf hc hst
    obtain ⟨m, hm⟩ := State.msiTo_parked (file := fileNo file) (id := id.toNat) hc hst
    refine ⟨_, exec_msiWrite_frame hf, ?_⟩
    rw [hm, State.holdMsg]
    refine ⟨State.core_setCore_same .., fun d hd => State.core_setCore_ne _ _ _ _ hd, ?_, rfl⟩
    rw [State.stud_setCore, State.stud_setStud_same]
    split <;> simp only [List.length_append, List.length_singleton] <;> omega
  case noHart =>
    intro s f h file id hf hj hc
    refine ⟨_, exec_msiWrite_frame hf, ?_⟩
    rw [State.msiTo_noHart hc hj]
    rfl

end Sys2Proof.Machine
end

section
/-! PROOF. What an error report, a notice and an interrupt change: records, queues of notices, interrupt files, wake marks and
messages, and of a core's pipe no more than a load that a notice queue stalls (R75, R405, R413). -/

namespace Sys2Proof.Machine

/-- From s to t no line, home or pipe of a core has changed but for loads that a notice queue stalled, and none at all while no notice
queue stalls one. -/
structure State.Noted (s t : State) : Prop where
  pipe : ∀ d, ∃ st, (t.core d).pipe = { (s.core d).pipe with stall := st }
  mem : t.mem = s.mem
  homes : t.homes = s.homes
  calm : (∀ f, (s.frame f).nq.stalled = []) →
    (∀ f, (t.frame f).nq.stalled = []) ∧ ∀ d, (t.core d).regs = (s.core d).regs ∧ (t.core d).pipe = (s.core d).pipe

theorem State.Noted.refl (s : State) : s.Noted s := ⟨fun _ => ⟨_, rfl⟩, rfl, rfl, fun h => ⟨h, fun _ => ⟨rfl, rfl⟩⟩⟩

theorem State.Noted.trans {s t u : State} (h : s.Noted t) (h' : t.Noted u) : s.Noted u where
  pipe d := by
    obtain ⟨a, ha⟩ := h.pipe d
    obtain ⟨b, hb⟩ := h'.pipe d
    exact ⟨b, by rw [hb, ha]⟩
  mem := h'.mem.trans h.mem
  homes := h'.homes.trans h.homes
  calm hs := by
    obtain ⟨ht, hcores⟩ := h.calm hs
    obtain ⟨hu, hcores'⟩ := h'.calm ht
    exact ⟨hu, fun d => ⟨(hcores' d).1.trans (hcores d).1, (hcores' d).2.trans (hcores d).2⟩⟩

theorem State.Noted.foldl {α : Type} {g : State → α → State} (hg : ∀ (s : State) a, s.Noted (g s a)) (l : List α) (s : State) :
    s.Noted (l.foldl g s) := by
  induction l generalizing s with
  | nil => exact .refl s
  | cons a l ih => exact (hg s a).trans (ih _)

/-! ## Each part of the state that a report may change -/

/-- A change beside cores, frames, memory and homes. -/
theorem State.Noted.beside {s t : State} (hc : t.cores = s.cores) (hf : t.frames = s.frames) (hm : t.mem = s.mem)
    (hh : t.homes = s.homes) : s.Noted t := by
  have hcore : ∀ d, t.core d = s.core d := fun d => by rw [State.core, hc]; rfl
  have hframe : ∀ f, t.frame f = s.frame f := fun f => by rw [State.frame, hf]; rfl
  exact ⟨fun d => ⟨_, by rw [hcore]⟩, hm, hh, fun h => ⟨fun f => by rw [hframe, h], fun d => by rw [hcore]; exact ⟨rfl, rfl⟩⟩⟩

theorem State.Noted.setCore {s : State} {c : Nat} {k : Core} (hr : k.regs = (s.core c).regs) (hp : k.pipe = (s.core c).pipe) :
    s.Noted (s.setCore c k) := by
  have hcore : ∀ d, ((s.setCore c k).core d).regs = (s.core d).regs ∧ ((s.setCore c k).core d).pipe = (s.core d).pipe := fun d => by
    by_cases hd : d = c
    · rw [hd, State.core_setCore_same]
      exact ⟨hr, hp⟩
    · rw [State.core_setCore_ne _ _ _ _ hd]
      exact ⟨rfl, rfl⟩
  exact ⟨fun d => ⟨(s.core d).pipe.stall, (hcore d).2⟩, rfl, rfl, fun h => ⟨h, hcore⟩⟩

theorem State.Noted.setFrame {s : State} {f : Nat} {fr : Frame} (h : (s.frame f).nq.stalled = [] → fr.nq.stalled = []) :
    s.Noted (s.setFrame f fr) := by
  refine ⟨fun d => ⟨_, rfl⟩, rfl, rfl, fun hs => ⟨fun g => ?_, fun d => ⟨rfl, rfl⟩⟩⟩
  by_cases hg : g = f
  · rw [hg, State.frame_setFrame_same]
    exact h (hs f)
  · rw [State.frame_setFrame_ne _ _ _ _ hg]
    exact hs g

theorem State.Noted.setAplic (s : State) (f : Nat) (a : Aplic) : s.Noted (s.setFrame f { s.frame f with aplic := a }) :=
  .setFrame fun h => h

/-! ## Messages, interrupts and the APLIC -/

theorem State.putMsg_noted (s : State) (m : Msg) : s.Noted (s.putMsg m) := by
  unfold State.putMsg State.eject
  split
  · split
    · dsimp only
      split
      · exact .beside rfl rfl rfl rfl
      · exact .refl s
    · exact .beside rfl rfl rfl rfl
  · exact .beside rfl rfl rfl rfl

theorem State.send_noted (s : State) (m : Msg) : s.Noted (s.send m) := by
  unfold State.send
  split
  · exact s.putMsg_noted _
  · exact .refl s

theorem State.route_noted (s : State) (f : Nat) (m : Msg) : s.Noted (s.route f m) := by
  unfold State.route
  split
  · exact s.send_noted m
  · dsimp only
    split
    · exact s.send_noted _
    · exact .refl s

theorem State.logLine_noted (s : State) (e : LogEnt) : s.Noted (s.logLine e) := .beside rfl rfl rfl rfl

theorem Core.filePended_pipe (k : Core) (file id : Nat) : (k.filePended file id).pipe = k.pipe := by
  unfold Core.filePended
  split <;> rfl

theorem State.SetsCore.noted {s t : State} {c : Nat} {k : Core} (h : s.SetsCore t c k) (hr : k.regs = (s.core c).regs)
    (hp : k.pipe = (s.core c).pipe) : s.Noted t :=
  ⟨fun d => ⟨(s.core d).pipe.stall, h.keeps Core.pipe hp d⟩, by rw [h.beside], by rw [h.beside],
    fun hs => ⟨fun f => by rw [h.beside]; exact hs f, fun d => ⟨h.keeps Core.regs hr d, h.keeps Core.pipe hp d⟩⟩⟩

theorem State.imsicPut_noted (s : State) (c file id : Nat) : s.Noted (s.imsicPut c file id) := by
  obtain ⟨b, h⟩ := s.imsicPut_setsCore c file id
  exact h.noted (Core.filePended_regs ..) (Core.filePended_pipe ..)

theorem State.holdMsg_noted (s : State) (n c : Nat) (m : Msg) : s.Noted (s.holdMsg n c m) := by
  have hheld : ∀ st, s.Noted ((s.setStud n st).setCore c { s.core c with wake := true }) := fun st =>
    State.Noted.trans (t := s.setStud n st) (.beside rfl rfl rfl rfl) (.setCore (c := c) rfl rfl)
  exact hheld _

theorem State.msiOn_noted (s : State) (c : Nat) (m : Msg) : s.Noted (s.msiOn c m) := by
  unfold State.msiOn
  split
  · exact s.holdMsg_noted _ _ _
  · exact s.send_noted m

theorem State.msiTo_noted (s : State) (from' : Option Nat) (f h file id : Nat) : s.Noted (s.msiTo from' f h file id) := by
  unfold State.msiTo
  dsimp only
  split
  · split
    · exact s.imsicPut_noted _ _ _
    · exact s.msiOn_noted _ _
  · split
    · exact s.route_noted _ _
    · exact s.logLine_noted _

theorem State.aplicSend_noted (s : State) (f n : Nat) : s.Noted (s.aplicSend f n) := by
  unfold State.aplicSend
  extract_lets fr a d ie t file
  split
  · exact (State.Noted.setAplic s f _).trans (State.msiTo_noted _ _ _ _ _ _)
  · exact .refl s

theorem State.aplicEdge_noted (s : State) (f n : Nat) : s.Noted (s.aplicEdge f n) := by
  unfold State.aplicEdge
  extract_lets fr
  split
  · exact (State.Noted.setAplic s f _).trans (State.aplicSend_noted _ _ _)
  · exact .refl s

/-! ## Notices -/

theorem NQueue.post_stalled {q : NQueue} (h : q.stalled = []) (n : Word) : (q.post n).stalled = [] := by
  unfold NQueue.post
  rw [if_neg (by simp [h])]
  split
  · exact h
  · split <;> exact h

/-- The load of a hart that a notice queue stalled is given the notice; its queue was not without one. -/
theorem State.deliverTo_pipe (s : State) (who : NqReader) (v : Word) (d : Nat) :
    ∃ st, ((s.deliverTo who v).core d).pipe = { (s.core d).pipe with stall := st } := by
  unfold State.deliverTo
  split
  · exact ⟨_, rfl⟩
  · next c dest _ =>
    by_cases hd : d = c
    · exact ⟨none, by rw [hd]; simp⟩
    · exact ⟨(s.core d).pipe.stall, by rw [State.core_setCore_ne _ _ _ _ hd]⟩

theorem State.deliverTo_beside (s : State) (who : NqReader) (v : Word) :
    s.deliverTo who v = { s with cores := (s.deliverTo who v).cores } := by
  unfold State.deliverTo
  split <;> rfl

theorem State.postFrame_noted (s : State) (f : Nat) (n : Word) : s.Noted (s.postFrame f n) := by
  have hpost : s.Noted (s.setFrame f { s.frame f with nq := (s.frame f).nq.post n }) := .setFrame fun h => NQueue.post_stalled h n
  have hgiven : s.Noted (match (s.frame f).nq.stalled with
      | [] => s.setFrame f { s.frame f with nq := (s.frame f).nq.post n }
      | w :: _ => (s.setFrame f { s.frame f with nq := (s.frame f).nq.post n }).deliverTo w n) := by
    split
    · exact hpost
    · next w _ hst =>
      refine ⟨fun d => State.deliverTo_pipe _ w n d, ?_, ?_, fun hs => absurd ((hs f).symm.trans hst) (by simp)⟩
      · rw [State.deliverTo_beside]
        rfl
      · rw [State.deliverTo_beside]
        rfl
  unfold State.postFrame
  dsimp only
  split
  · exact hgiven.trans (State.aplicEdge_noted _ _ _)
  · exact hgiven

theorem State.postPort_noted (s : State) (p : Nat) (n : Word) : s.Noted (s.postPort p n) := .beside rfl rfl rfl rfl

theorem State.post_noted (s : State) (frames : List Nat) (n : Word) : s.Noted (s.post frames n) :=
  (State.Noted.foldl (fun s f => s.postFrame_noted f n) _ s).trans (State.Noted.foldl (fun s p => s.postPort_noted p n) _ _)

/-! ## Records and reports -/

theorem State.setRec_noted (s : State) (kind inst : Nat) (r : Rec) : s.Noted (s.setRec kind inst r) := .beside rfl rfl rfl rfl

theorem State.recAdd_noted (s : State) (kind inst bin k : Nat) : s.Noted (s.recAdd kind inst bin k) := by
  unfold State.recAdd
  dsimp only
  split
  · exact s.setRec_noted _ _ _
  · split
    · exact (s.setRec_noted _ _ _).trans (State.post_noted _ _ _)
    · exact s.setRec_noted _ _ _

theorem State.report_noted (s : State) (e : ErrEv) : s.Noted (s.report e) := by
  unfold State.report
  extract_lets key c cnt due since told scribe counted binned seq logged data
  have hcounted : s.Noted counted := .beside rfl rfl rfl rfl
  have hbinned : s.Noted binned := hcounted.trans <| by
    unfold binned
    split
    · exact counted.recAdd_noted _ _ _ _
    · exact .refl counted
  split
  · exact hbinned
  · have hlogged : s.Noted logged := hbinned.trans (binned.logLine_noted _)
    split
    · exact hlogged
    · split
      · exact hlogged.trans (logged.post_noted _ _)
      · exact hlogged.trans (.foldl (fun s f => s.post_noted _ _) _ _)

theorem State.stalled_of_frames {s : State} (h : ∀ e ∈ s.frames, e.2.nq.stalled = []) (f : Nat) : (s.frame f).nq.stalled = [] :=
  Tab.get_of_forall (P := fun (fr : Frame) => fr.nq.stalled = []) h rfl f

end Sys2Proof.Machine
end

section
/-! PROOF. The traps of poisoned data and of hewn misses (O8). -/

namespace Sys2Proof.Machine

/-! ## A trap as a core takes it (R51, R55) -/

/-- The registers of core k after trap t: the CSRs `cause`, `tval` and `epc` of mode `priv` hold what the trap gives them, and of the
other CSRs only those listed have changed. -/
structure Core.TookTrap (k : Core) (t : Trap) (cause tval epc priv : Nat) (written : List Nat) : Prop where
  cause : (k.trapRegs t).get cause = causeWord t.irq t.cause
  tval : (k.trapRegs t).get tval = t.tval
  epc : (k.trapRegs t).get epc = t.pc.getD k.regs.pc
  priv : (k.trapRegs t).priv = priv
  virt : (k.trapRegs t).virt = false
  vstart : (k.trapRegs t).vstart = t.elem.getD k.regs.vstart
  x : (k.trapRegs t).x = k.regs.x
  f : (k.trapRegs t).f = k.regs.f
  v : (k.trapRegs t).v = k.regs.v
  get : ∀ n, n ∉ written → (k.trapRegs t).get n = k.regs.get n

theorem causeWord_exception (n : Nat) : causeWord false n = BitVec.ofNat 64 n := by
  simp [causeWord, b2n]

theorem causeWord_interrupt (n : Nat) : causeWord true n = BitVec.ofNat 64 (2 ^ 63 + n) := by
  simp [causeWord, b2n]

theorem Core.tookTrap_machine {k : Core} {t : Trap} (h : k.regs.trapTarget t = 3) :
    k.TookTrap t Csr.mcause Csr.mtval Csr.mepc 3 machineTrapCsrs := by
  obtain ⟨hcause, htval, hepc, hpriv, hvirt, hkept⟩ := Core.trapRegs_inMachine h
  exact ⟨hcause, htval, hepc, hpriv, hvirt, hkept.vstart, hkept.x, hkept.f, hkept.v, hkept.get⟩

theorem Core.tookTrap_supervisor {k : Core} {t : Trap} (h : k.regs.trapTarget t = 1) :
    k.TookTrap t Csr.scause Csr.stval Csr.sepc 1 supervisorTrapCsrs := by
  obtain ⟨hcause, htval, hepc, hpriv, hvirt, hkept⟩ := Core.trapRegs_inSupervisor h
  exact ⟨hcause, htval, hepc, hpriv, hvirt, hkept.vstart, hkept.x, hkept.f, hkept.v, hkept.get⟩

/-! ## The poison record (R88) -/

/-- The poison record of the level that takes a trap. -/
def poisonCsr (target : Nat) : Nat := if target = 3 then Csr.mpoisoninfo else Csr.spoisoninfo

/-- The record of poisoned data p in a register that held w and no VALID record. -/
def PoisonRec.word (p : PoisonRec) (w : Word) : Word :=
  BitVec.ofNat 64 (fld w 56 56 * 2 ^ 56 + p.pa / 64 % 2 ^ 50 * 2 ^ 6 + p.src * 8 + p.kind * 2 + 1)

theorem Regs.poisonInfo_fresh {r : Regs} {target : Nat} (h : (r.get (poisonCsr target)).getLsbD 0 = false) (p : PoisonRec) :
    r.poisonInfo target p = r.put (poisonCsr target) (p.word (r.get (poisonCsr target))) := by
  unfold poisonCsr at h ⊢
  rw [Regs.poisonInfo, if_neg (by rw [h]; decide)]
  rfl

theorem Regs.poisonInfo_overrun {r : Regs} {target : Nat} (h : (r.get (poisonCsr target)).getLsbD 0 = true) (p : PoisonRec) :
    r.poisonInfo target p = r.put (poisonCsr target) (setFld (r.get (poisonCsr target)) 56 56 1) := by
  unfold poisonCsr at h ⊢
  rw [Regs.poisonInfo, if_pos h]

theorem Regs.poisonInfo_put (r : Regs) (target : Nat) (p : PoisonRec) : ∃ w, r.poisonInfo target p = r.put (poisonCsr target) w := by
  cases h : (r.get (poisonCsr target)).getLsbD 0 with
  | false => exact ⟨_, Regs.poisonInfo_fresh h p⟩
  | true => exact ⟨_, Regs.poisonInfo_overrun h p⟩

theorem getLsbD_eq_fld (w : Word) (i : Nat) : w.getLsbD i = decide (fld w i i = 1) := by
  have h := fld_testBit w i i 0
  have hlt : fld w i i < 2 := by
    rw [fld, bits, Nat.add_sub_cancel_left]
    exact Nat.mod_lt _ (by decide)
  rw [Nat.add_sub_cancel_left, Nat.add_zero] at h
  simp only [Nat.lt_one_iff, decide_true, Bool.true_and] at h
  rw [← h]
  interval_cases fld w i i <;> rfl

theorem PoisonRec.word_fields {p : PoisonRec} (hkind : p.kind < 4) (hsrc : p.src < 7) (hpa : p.pa < 2 ^ 56) (w : Word) :
    fld (p.word w) 55 6 = p.pa / 64 ∧ fld (p.word w) 5 3 = p.src ∧ fld (p.word w) 2 1 = p.kind ∧ (p.word w).getLsbD 0 = true ∧
      (p.word w).getLsbD 56 = w.getLsbD 56 := by
  have hov : fld w 56 56 < 2 := by
    simp only [fld, bits]
    omega
  rw [getLsbD_eq_fld, getLsbD_eq_fld _ 56, getLsbD_eq_fld w 56]
  unfold PoisonRec.word
  generalize fld w 56 56 = ov at hov ⊢
  simp only [fld, bits, BitVec.toNat_ofNat, decide_eq_true_eq, decide_eq_decide]
  omega

/-! ## Code 25 (R82, R88) -/

/-- The trap that consumes poisoned data. -/
def PoisonRec.trap (p : PoisonRec) : Trap :=
  { cause := 25, tval := p.va, gva := p.guest, pc := some p.pc, elem := if p.kind = 3 then some p.elem else none }

/-- The core whose poison record has taken up p. -/
def Core.recorded (k : Core) (p : PoisonRec) : Core := { k with regs := k.regs.poisonInfo (k.regs.trapTarget { cause := 25 }) p }

theorem poisonCsr_mem (target : Nat) : poisonCsr target ∈ [Csr.mpoisoninfo, Csr.spoisoninfo] := by
  unfold poisonCsr
  split <;> decide

theorem Core.recorded_trapTarget (k : Core) (p : PoisonRec) : (k.recorded p).regs.trapTarget p.trap = k.regs.trapTarget { cause := 25 } := by
  obtain ⟨w, hw⟩ := k.regs.poisonInfo_put (k.regs.trapTarget { cause := 25 }) p
  have hkeep : ∀ n ∈ [Csr.medeleg, Csr.hedeleg], (k.recorded p).regs.get n = k.regs.get n := fun n hn => by
    have hne : n ≠ poisonCsr (k.regs.trapTarget { cause := 25 }) := by
      have := poisonCsr_mem (k.regs.trapTarget { cause := 25 })
      simp only [List.mem_cons, List.not_mem_nil, or_false] at hn this
      rcases hn with rfl | rfl <;> rcases this with h | h <;> rw [h] <;> decide
    rw [Core.recorded, hw]
    exact Regs.get_put_ne _ _ hne
  have hpriv : (k.recorded p).regs.priv = k.regs.priv := by
    rw [Core.recorded, hw]
    rfl
  have hvirt : (k.recorded p).regs.virt = k.regs.virt := by
    rw [Core.recorded, hw]
    rfl
  simp only [Regs.trapTarget, PoisonRec.trap, Option.getD_none, Bool.false_eq_true, if_false, hpriv, hvirt,
    hkeep Csr.medeleg (by decide), hkeep Csr.hedeleg (by decide)]

theorem Core.recorded_fresh {k : Core} {lvl : Nat} (htgt : k.regs.trapTarget { cause := 25 } = lvl)
    (h : k.csrBit (poisonCsr lvl) 0 = false) (p : PoisonRec) :
    (k.recorded p).regs.get (poisonCsr lvl) = p.word (k.csr (poisonCsr lvl)) := by
  rw [Core.recorded, htgt, Regs.poisonInfo_fresh h]
  exact Regs.get_put_same ..

theorem Core.recorded_overrun {k : Core} {lvl : Nat} (htgt : k.regs.trapTarget { cause := 25 } = lvl)
    (h : k.csrBit (poisonCsr lvl) 0 = true) (p : PoisonRec) :
    (k.recorded p).regs.get (poisonCsr lvl) = setFld (k.csr (poisonCsr lvl)) 56 56 1 := by
  rw [Core.recorded, htgt, Regs.poisonInfo_overrun h]
  exact Regs.get_put_same ..

/-- What a recorded poison trap leaves of the registers of a core. -/
theorem Core.recorded_kept (k : Core) (p : PoisonRec) :
    (k.recorded p).regs.x = k.regs.x ∧ (k.recorded p).regs.f = k.regs.f ∧ (k.recorded p).regs.v = k.regs.v ∧
      (k.recorded p).regs.vstart = k.regs.vstart := by
  obtain ⟨w, hw⟩ := k.regs.poisonInfo_put (k.regs.trapTarget { cause := 25 }) p
  rw [Core.recorded, hw]
  exact ⟨rfl, rfl, rfl, rfl⟩

theorem exec_poisonConsumption_takes {s : State} {c : CoreId} {p : PoisonRec} (haw : (s.core c).awake = true)
    (hp : (s.core c).pipe.poison = some p) (hcalm : ∀ e ∈ s.frames, e.2.nq.stalled = []) (hsnp : (s.core c).pipe.snpQ = []) :
    RunsTo (exec (.poisonConsumption c) s) fun t =>
      (t.core c).regs = ((s.core c).recorded p).trapRegs p.trap ∧ (t.core c).pipe.poison = none ∧ (t.core c).pipe.resv = none ∧
      t.mem = s.mem := by
  have htrap := State.trapCore_setsCore (s := s.setCore c ((s.core c).recorded p)) (c := c)
    (by rw [State.core_setCore_same]; exact hsnp) p.trap
  rw [State.core_setCore_same] at htrap
  obtain ⟨ev, hexec⟩ : ∃ ev, exec (.poisonConsumption c) s = .next (((s.setCore c ((s.core c).recorded p)).trapCore c p.trap).report ev) := by
    have hexec : exec (.poisonConsumption c) s = execPoisonConsumption c s := rfl
    simp only [hexec, execPoisonConsumption, haw, if_true, hp]
    exact ⟨_, rfl⟩
  have hnoted := State.report_noted ((s.setCore c ((s.core c).recorded p)).trapCore c p.trap) ev
  obtain ⟨-, hcores⟩ := hnoted.calm (fun f => by rw [htrap.beside]; exact State.stalled_of_frames hcalm f)
  refine ⟨_, hexec, ?_, ?_, ?_, ?_⟩
  · rw [(hcores c).1, htrap.core]
    rfl
  · rw [(hcores c).2, htrap.core]
    rfl
  · rw [(hcores c).2, htrap.core]
    rfl
  · rw [hnoted.mem, htrap.beside]
    rfl

theorem PoisonRec.trap_elem (p : PoisonRec) (n : Nat) : p.trap.elem.getD n = if p.kind = 3 then p.elem else n := by
  unfold PoisonRec.trap
  dsimp only
  split <;> rfl

/-- A poison trap to a level whose record is not VALID. -/
theorem exec_poisonConsumption_records {s : State} {c : CoreId} {p : PoisonRec} {cause tval epc lvl : Nat} {written : List Nat}
    (haw : (s.core c).awake = true) (hp : (s.core c).pipe.poison = some p) (hcalm : ∀ e ∈ s.frames, e.2.nq.stalled = [])
    (hsnp : (s.core c).pipe.snpQ = []) (htgt : (s.core c).regs.trapTarget { cause := 25 } = lvl)
    (hfree : (s.core c).csrBit (poisonCsr lvl) 0 = false) (hkind : p.kind < 4) (hsrc : p.src < 7) (hpa : p.pa < 2 ^ 56)
    (htook : ((s.core c).recorded p).TookTrap p.trap cause tval epc lvl written) (hinfo : poisonCsr lvl ∉ written) :
    RunsTo (exec (.poisonConsumption c) s) fun t =>
      (t.core c).csr cause = 25 ∧ (t.core c).csr tval = p.va ∧ (t.core c).csr epc = p.pc ∧
      (t.core c).regs.priv = lvl ∧ (t.core c).regs.virt = false ∧
      fld ((t.core c).csr (poisonCsr lvl)) 55 6 = p.pa / 64 ∧ fld ((t.core c).csr (poisonCsr lvl)) 5 3 = p.src ∧
      fld ((t.core c).csr (poisonCsr lvl)) 2 1 = p.kind ∧ (t.core c).csrBit (poisonCsr lvl) 0 = true ∧
      (t.core c).csrBit (poisonCsr lvl) 56 = (s.core c).csrBit (poisonCsr lvl) 56 ∧
      (t.core c).pipe.poison = none ∧ (t.core c).pipe.resv = none ∧
      (t.core c).regs.vstart = (if p.kind = 3 then p.elem else (s.core c).regs.vstart) ∧
      (t.core c).regs.x = (s.core c).regs.x ∧ (t.core c).regs.f = (s.core c).regs.f ∧ (t.core c).regs.v = (s.core c).regs.v ∧
      t.mem = s.mem := by
  obtain ⟨t, hexec, hregs, hpoison, hresv, hmem⟩ := exec_poisonConsumption_takes haw hp hcalm hsnp
  obtain ⟨hx, hf, hv, hvs⟩ := (s.core c).recorded_kept p
  obtain ⟨hpa, hsrc, hkind, hvalid, hover⟩ := PoisonRec.word_fields hkind hsrc hpa ((s.core c).csr (poisonCsr lvl))
  have hword : (t.core c).csr (poisonCsr lvl) = p.word ((s.core c).csr (poisonCsr lvl)) := by
    rw [Core.csr, hregs, htook.get _ hinfo, Core.recorded_fresh htgt hfree]
  refine ⟨t, hexec, ?_⟩
  simp only [csrBit_eq, hword]
  simp only [Core.csr, hregs]
  exact ⟨htook.cause.trans (causeWord_exception 25), htook.tval, htook.epc, htook.priv, htook.virt, hpa, hsrc, hkind, hvalid, hover, hpoison, hresv,
    by rw [htook.vstart, p.trap_elem, hvs], htook.x.trans hx, htook.f.trans hf, htook.v.trans hv, hmem⟩

/-! ## Code 24 (R109, R113) -/

/-- The core k with stlbtag and stlbcmd loaded for a miss of va by access a. -/
def Core.missLoaded (k : Core) (va : Word) (w : Wait) : Core :=
  (k.setCsr Csr.stlbtag (BitVec.ofNat 64 (fld (k.csr Csr.satp) 59 44 * 2 ^ 48 + vpnOf va))).setCsr Csr.stlbcmd
    (setFld (k.csr Csr.stlbcmd) 7 6 (missCode w.acc.kind.causeType))

theorem Core.missLoaded_csr (k : Core) (va : Word) (w : Wait) {n : Nat} (h : n ∉ [Csr.stlbtag, Csr.stlbcmd]) :
    (k.missLoaded va w).csr n = k.csr n := by
  simp only [List.mem_cons, List.not_mem_nil, or_false, not_or] at h
  rw [Core.missLoaded, Core.csr_setCsr_ne _ _ _ _ h.2, Core.csr_setCsr_ne _ _ _ _ h.1]

theorem Core.setCsr_kept (k : Core) (n : Nat) (v : Word) :
    (k.setCsr n v).pipe = k.pipe ∧ (k.setCsr n v).regs.priv = k.regs.priv ∧ (k.setCsr n v).regs.x = k.regs.x ∧
      (k.setCsr n v).regs.f = k.regs.f ∧ (k.setCsr n v).regs.v = k.regs.v := ⟨rfl, rfl, rfl, rfl, rfl⟩

theorem Core.missLoaded_kept (k : Core) (va : Word) (w : Wait) :
    (k.missLoaded va w).pipe = k.pipe ∧ (k.missLoaded va w).regs.priv = k.regs.priv ∧ (k.missLoaded va w).regs.x = k.regs.x ∧
      (k.missLoaded va w).regs.f = k.regs.f ∧ (k.missLoaded va w).regs.v = k.regs.v := by
  simp only [Core.missLoaded, Core.setCsr_kept, and_self]

theorem Core.trapTaken_regs (k : Core) (t : Trap) : (k.trapTaken t).regs = k.trapRegs t := rfl

theorem Core.trapTaken_csr (k : Core) (t : Trap) (n : Nat) : (k.trapTaken t).csr n = (k.trapRegs t).get n := rfl

theorem Core.trapTaken_pipe (k : Core) (t : Trap) :
    (k.trapTaken t).pipe.waits = [] ∧ (k.trapTaken t).pipe.storeQ = k.pipe.storeQ := ⟨rfl, rfl⟩

theorem Core.missLoaded_stlbtag (k : Core) (va : Word) (w : Wait) :
    (k.missLoaded va w).csr Csr.stlbtag = BitVec.ofNat 64 (fld (k.csr Csr.satp) 59 44 * 2 ^ 48 + vpnOf va) := by
  rw [Core.missLoaded, Core.csr_setCsr_ne _ _ _ _ (by decide), Core.csr_setCsr_same]

theorem Core.missLoaded_stlbcmd (k : Core) (va : Word) (w : Wait) :
    fld ((k.missLoaded va w).csr Csr.stlbcmd) 7 6 = missCode w.acc.kind.causeType := by
  rw [Core.missLoaded, Core.csr_setCsr_same, fld_setFld_same _ _ (by decide)]
  unfold missCode
  split <;> rfl

/-- The fields of stlbtag: the ASID, and below it the page. -/
theorem stlbtag_fields (v va : Word) :
    fld (BitVec.ofNat 64 (fld v 59 44 * 2 ^ 48 + vpnOf va)) 63 48 = fld v 59 44 ∧
      fld (BitVec.ofNat 64 (fld v 59 44 * 2 ^ 48 + vpnOf va)) 47 45 = 0 ∧
      fld (BitVec.ofNat 64 (fld v 59 44 * 2 ^ 48 + vpnOf va)) 44 0 = fld va 56 12 := by
  have hasid : fld v 59 44 < 2 ^ 16 := Nat.mod_lt _ (by decide)
  have hpage : fld va 56 12 < 2 ^ 45 := Nat.mod_lt _ (by decide)
  unfold vpnOf
  generalize fld v 59 44 = a at hasid ⊢
  generalize fld va 56 12 = b at hpage ⊢
  simp only [fld, bits, BitVec.toNat_ofNat]
  omega

theorem exec_hewnMissTrap_takes {s : State} {c : CoreId} {w : Wait} {va : Word} (haw : (s.core c).awake = true)
    (hw : (s.core c).hewnWait = some (w, va)) (hd : destElem? w.acc.dest = none) (hsnp : (s.core c).pipe.snpQ = []) :
    RunsTo (exec (.hewnMissTrap c) s) fun t => s.SetsCore t c (((s.core c).trapTaken (w.trap 24 va)).missLoaded va w) := by
  have hacc : ∀ u v : State, u.faultAcc c w v = v := fun u v => by
    unfold State.faultAcc
    split
    · next hv => simp [hv, destElem?] at hd
    · rfl
  have htrap := State.trapCore_setsCore hsnp (w.trap 24 va)
  refine ⟨_, ?_, htrap.setCore (((s.core c).trapTaken (w.trap 24 va)).missLoaded va w)⟩
  change execHewnMissTrap c s = _
  simp only [execHewnMissTrap, haw, if_true, hw, hacc, htrap.core]
  rfl

/-- A hewn miss's trap to a level whose trap writes none of the CSRs that it loads. -/
theorem exec_hewnMissTrap_loads {s : State} {c : CoreId} {w : Wait} {va : Word} {cause tval epc lvl : Nat} {written : List Nat}
    (haw : (s.core c).awake = true) (hw : (s.core c).hewnWait = some (w, va)) (hd : destElem? w.acc.dest = none)
    (hsnp : (s.core c).pipe.snpQ = []) (htook : (s.core c).TookTrap (w.trap 24 va) cause tval epc lvl written)
    (hcsrs : cause ∉ [Csr.stlbtag, Csr.stlbcmd] ∧ tval ∉ [Csr.stlbtag, Csr.stlbcmd] ∧ epc ∉ [Csr.stlbtag, Csr.stlbcmd])
    (hsatp : Csr.satp ∉ written) :
    RunsTo (exec (.hewnMissTrap c) s) fun t =>
      (t.core c).csr cause = 24 ∧ (t.core c).csr tval = va ∧ (t.core c).csr epc = w.pc ∧
      (t.core c).regs.priv = lvl ∧
      fld ((t.core c).csr Csr.stlbtag) 63 48 = fld ((s.core c).csr Csr.satp) 59 44 ∧ fld ((t.core c).csr Csr.stlbtag) 47 45 = 0 ∧
      fld ((t.core c).csr Csr.stlbtag) 44 0 = fld va 56 12 ∧
      fld ((t.core c).csr Csr.stlbcmd) 7 6 = missCode w.acc.kind.causeType ∧
      (t.core c).pipe.waits = [] ∧ (t.core c).pipe.storeQ = (s.core c).pipe.storeQ ∧ (t.core c).regs.x = (s.core c).regs.x ∧
      (t.core c).regs.f = (s.core c).regs.f ∧ (t.core c).regs.v = (s.core c).regs.v ∧ s.onlyCore t c := by
  obtain ⟨t, hexec, hset⟩ := exec_hewnMissTrap_takes haw hw hd hsnp
  obtain ⟨hcause, htval, hepc⟩ := hcsrs
  obtain ⟨hasid, hzero, hpage⟩ := stlbtag_fields ((s.core c).csr Csr.satp) va
  obtain ⟨hpipe, hpriv, hx, hf, hv⟩ := ((s.core c).trapTaken (w.trap 24 va)).missLoaded_kept va w
  obtain ⟨hwaits, hstores⟩ := (s.core c).trapTaken_pipe (w.trap 24 va)
  have hsame : (s.core c).regs.get Csr.satp = (s.core c).csr Csr.satp := rfl
  refine ⟨t, hexec, ?_⟩
  simp only [hset.core, Core.missLoaded_csr _ _ _ hcause, Core.missLoaded_csr _ _ _ htval, Core.missLoaded_csr _ _ _ hepc,
    Core.missLoaded_stlbtag, Core.missLoaded_stlbcmd, Core.trapTaken_csr, hpipe, hpriv, hx, hf, hv, Core.trapTaken_regs, hwaits, hstores,
    htook.get _ hsatp, htook.cause, htook.tval, htook.epc, htook.priv, htook.x, htook.f, htook.v, hsame]
  exact ⟨causeWord_exception 24, rfl, rfl, trivial, hasid, hzero, hpage, trivial, trivial, trivial, trivial, trivial, trivial, hset.onlyCore⟩

/-- Settles O8: the record is written before the trap, which leaves it, and the report that follows changes no core. -/
theorem trapsOfPoisonAndHewnMisses : Obligations.TrapsOfPoisonAndHewnMisses := by
  unfold Obligations.TrapsOfPoisonAndHewnMisses
  refine ⟨?poisonM, ?poisonS, ?noPoison, ?overrun, ?missM, ?missS, ?noMiss⟩
  case poisonM =>
    intro s c p haw hp htgt hfree hkind hsrc hpa hcalm hsnp
    exact exec_poisonConsumption_records haw hp hcalm hsnp htgt hfree hkind hsrc hpa
      (Core.tookTrap_machine (((s.core c).recorded_trapTarget p).trans htgt)) (by decide)
  case poisonS =>
    intro s c p haw hp htgt hfree hkind hsrc hpa hcalm hsnp
    exact exec_poisonConsumption_records haw hp hcalm hsnp htgt hfree hkind hsrc hpa
      (Core.tookTrap_supervisor (((s.core c).recorded_trapTarget p).trans htgt)) (by decide)
  case noPoison =>
    intro s c hp
    change execPoisonConsumption c s = _
    simp only [execPoisonConsumption, hp, ite_self]
  case overrun =>
    intro s c p haw hp hpriv hvalid hcalm hsnp
    have htgt : (s.core c).regs.trapTarget { cause := 25 } = 3 := by simp [Regs.trapTarget, hpriv]
    have htook := Core.tookTrap_machine (((s.core c).recorded_trapTarget p).trans htgt)
    obtain ⟨t, hexec, hregs, -, -, -⟩ := exec_poisonConsumption_takes haw hp hcalm hsnp
    have hget : (t.core c).csr Csr.mpoisoninfo = ((s.core c).recorded p).regs.get Csr.mpoisoninfo := by
      rw [Core.csr, hregs, htook.get _ (by decide)]
    exact ⟨t, hexec, hget.trans (Core.recorded_overrun htgt hvalid p)⟩
  case missM =>
    intro s c w va haw hw hd htgt hsnp
    exact exec_hewnMissTrap_loads haw hw hd hsnp (Core.tookTrap_machine htgt) (by decide) (by decide)
  case missS =>
    intro s c w va haw hw hd htgt hsnp
    exact exec_hewnMissTrap_loads haw hw hd hsnp (Core.tookTrap_supervisor htgt) (by decide) (by decide)
  case noMiss =>
    intro s c hw
    change execHewnMissTrap c s = _
    simp only [execHewnMissTrap, hw, ite_self]

end Sys2Proof.Machine
end

section
/-! PROOF. Cached accesses of a hart in M-mode with nothing outstanding: what L2 holds after each operation on its sets, the path of DRAM,
and how an access of each kind issues (R58, R65, R121, R125). -/

namespace Sys2Proof.Machine

/-! ## Lines of L2 (R125) -/

theorem Pipe.find2_putSet2 (p : Pipe) (line : Nat) (l : List L2Line) (m : Nat) :
    (p.putSet2 line l).find2 m = if m % 1024 = line % 1024 then l.find? (·.line == m) else p.find2 m := by
  unfold Pipe.find2 Pipe.set2 Pipe.putSet2
  split
  · next h => rw [h, Tab.get_put_same]
  · next h => rw [Tab.get_put_ne _ _ _ _ _ h]

theorem Pipe.find2_eq (p : Pipe) {m line : Nat} (h : m % 1024 = line % 1024) : p.find2 m = (p.set2 line).find? (·.line == m) := by
  rw [Pipe.find2, Pipe.set2, h, Pipe.set2]

theorem Pipe.line_of_find2 {p : Pipe} {line : Nat} {x : L2Line} (h : p.find2 line = some x) : x.line = line := by
  simpa using List.find?_some h

/-- An entry changed in place. -/
theorem Pipe.find2_upd2 (p : Pipe) (line : Nat) {g : L2Line → L2Line} (hg : ∀ e, (g e).line = e.line) (m : Nat) :
    (p.upd2 line g).find2 m = if m = line then (p.find2 line).map g else p.find2 m := by
  have hmap : ((p.set2 line).map (fun e => if e.line = line then g e else e)).find? (·.line == m) =
      ((p.set2 line).find? (·.line == m)).map (fun e => if e.line = line then g e else e) := by
    rw [List.find?_map]
    congr 2
    funext e
    dsimp only [Function.comp]
    split
    · rw [hg]
    · rfl
  rw [Pipe.upd2, Pipe.find2_putSet2, hmap]
  by_cases hm : m = line
  · subst hm
    rw [if_pos rfl, if_pos rfl]
    cases h : p.find2 m with
    | none =>
      rw [Pipe.find2] at h
      rw [h]
      rfl
    | some e =>
      have hline := Pipe.line_of_find2 h
      rw [Pipe.find2] at h
      rw [h, Option.map_some, if_pos hline, Option.map_some]
  · rw [if_neg hm]
    by_cases hs : m % 1024 = line % 1024
    · rw [if_pos hs, p.find2_eq hs]
      cases h : (p.set2 line).find? (·.line == m) with
      | none => rfl
      | some e =>
        have hline : e.line = m := by simpa using List.find?_some h
        rw [Option.map_some, if_neg (by omega)]
    · rw [if_neg hs]

/-- A hit changes no line that L2 holds. -/
theorem Pipe.find2_touch (p : Pipe) (line m : Nat) : (p.touch line).find2 m = p.find2 m := by
  unfold Pipe.touch
  split
  · next e he =>
    have hline := Pipe.line_of_find2 he
    rw [Pipe.find2_putSet2]
    split
    · next hs =>
      by_cases hm : m = line
      · rw [List.find?_cons_of_pos (by simp [hline, hm]), hm, he]
      · rw [List.find?_cons_of_neg (by simpa [hline] using Ne.symm hm), List.find?_filter, p.find2_eq hs]
        refine List.find?_congr fun x _ => ?_
        by_cases hx : x.line = m <;> simp [hx, hm]
    · rfl
  · rfl

/-! ## A change of L2 leaves what is outstanding -/

theorem Pipe.touch_keeps (p : Pipe) (line : Nat) : ∃ t, p.touch line = { p with l2 := t } := by
  unfold Pipe.touch
  split <;> exact ⟨_, rfl⟩

theorem Pipe.Clear.withL2 {p : Pipe} (h : p.Clear) (t : Map (List L2Line)) : ({ p with l2 := t } : Pipe).Clear :=
  ⟨h.waits, h.slots, h.fence, h.poison, h.rob, h.stall, h.storeQ⟩

theorem Pipe.Clear.touch {p : Pipe} (h : p.Clear) (line : Nat) : (p.touch line).Clear := by
  obtain ⟨t, ht⟩ := p.touch_keeps line
  exact ht ▸ h.withL2 t

theorem Pipe.Clear.settled {p : Pipe} (h : p.Clear) : p.settled = true := by
  simp [Pipe.settled, h.poison, h.storeQ, h.stall, h.unperformed, h.rob, h.fence]

theorem Pipe.Clear.isFirst {p : Pipe} (h : p.Clear) (w : Wait) : p.first w = true := by
  by_cases hw : w.acc.kind = .fetch
  · rw [Pipe.first, if_pos hw, h.settled]
  · exact h.first hw

/-! ## DRAM (R65) -/

theorem State.region_dram_lt {s : State} {f pa : Nat} (h : (s.region f pa).isDram = true) : pa < 2 ^ 43 := by
  by_contra hpa
  have hlow : ¬ (0xC0000000 ≤ pa ∧ pa < 0x100000000) := by omega
  unfold State.region at h
  rw [if_neg hlow, if_neg hpa] at h
  dsimp only at h
  split_ifs at h <;> exact absurd h Bool.false_ne_true

theorem Region.dram_of_isDram {r : Region} (h : r.isDram = true) : ∃ la, r = .dram la := by
  cases r with
  | dram la => exact ⟨la, rfl⟩
  | _ => exact absurd h Bool.false_ne_true

/-- An access of DRAM that is not translated otherwise goes to the caches. -/
theorem State.path_cached {s : State} {c : Nat} {a : Acc} (hsplit : a.split = 0) (hnc : a.nc = false)
    (h : s.inDram c a.pa a.size) : s.path c a = .cache := by
  obtain ⟨hpos, -, hfirst, hlast⟩ := h
  obtain ⟨la, hla⟩ := Region.dram_of_isDram hfirst
  obtain ⟨lb, hlb⟩ := Region.dram_of_isDram hlast
  have hpath : ∀ l, (Region.dram l).path a = .cache := fun l => by simp [Region.path, hnc, Region.io]
  rw [Nat.add_sub_assoc hpos] at hlb
  simp [State.path, accByte, hsplit, hla, hlb, hpath, Region.main]

theorem State.isIo_dram {s : State} {c : Nat} {a : Acc} (hio : a.io = false) (h : s.inDram c a.pa a.size) : s.isIo c a = false := by
  obtain ⟨-, -, hfirst, -⟩ := h
  obtain ⟨la, hla⟩ := Region.dram_of_isDram hfirst
  simp [State.isIo, hio, hla, Region.io]

theorem State.inDram_line {s : State} {c pa n : Nat} (h : s.inDram c pa n) : isRidgeLine (pa / 64) = false := by
  have := State.region_dram_lt h.2.2.1
  simp only [isRidgeLine, decide_eq_false_iff_not, not_le]
  omega

/-! ## A cached access performed and issued (R54, R55, R59) -/

/-- A cached access performed as its kind asks. -/
def State.performCached (s : State) (c : Nat) (w : Wait) : Option State :=
  match w.acc.kind with
  | .store => s.pushStore c w
  | .prefI | .prefR | .prefW => s.doPref c w
  | .cboClean | .cboFlush | .cboInval => s.doCbo c w
  | .cboZero => s.doZero c w
  | .lr => s.doLr c w
  | .sc => some (s.doSc c w)
  | .amo => s.doAmo c w
  | _ => s.doLoad c w

/-- An access alone in its hart whose path is the caches is performed there. -/
theorem State.perform_cached {s : State} {c : Nat} {w : Wait} (hc : (s.core c).pipe.Clear) (hp : s.path c w.acc = .cache)
    (hio : s.isIo c w.acc = false) : s.perform c w = s.performCached c w := by
  have hheld := Pipe.Clear.held hc w
  have hmiss : (s.core c).pipe.missOf (w.acc.pa / 64) = none := by simp [Pipe.missOf, hc.slots]
  have hhead := hc.headed w.seq
  simp only [State.perform, State.performCached, hp, hio, hheld, hmiss, hhead, State.ctlDenied, Path.leaves, hc.storeQ]
  cases w.acc.kind <;> simp [AccKind.cbo]

theorem State.tryTranslated_cached {s t : State} {c : Nat} {w : Wait} (hc : (s.core c).pipe.Clear) (hp : s.path c w.acc = .cache)
    (hio : s.isIo c w.acc = false) (ht : s.performCached c w = some t) : s.tryTranslated c w = t := by
  simp [State.tryTranslated, hc.fenced, State.perform_cached hc hp hio, ht]

/-- The access at the front of a quiet hart in M-mode is tried, translated, at once, whatever its kind (R55, R59). -/
theorem State.tryOne_aligned {s : State} {c : Nat} {k : Core} {a : Acc} (hk : k.quiet) (hc : s.core c = k.nextSeq)
    (hmis : misaligned a = none) (hpage : pageSplit a.va a.size = 0) :
    s.tryOne c { acc := { a with guest := false }, ctx := k.ctxOf a.kind false, seq := k.pipe.seq, pc := k.regs.pc, ntl := k.pipe.ntl } =
      s.tryTranslated c (k.issued a) := by
  obtain ⟨hp, hv⟩ := Core.ctxOf_machine hk a.kind
  have hfence : (s.core c).pipe.fence = [] := by rw [hc]; exact (Core.quiet.clear hk).fence
  have hx : (s.core c).xkind (k.ctxOf a.kind false) = none := Core.xkind_machine hp hv
  have hmis : misaligned { a with guest := false } = none := hmis
  have htr := Core.translate_bare (k := s.core c) (a := { a with guest := false }) hx hpage
  simp [State.tryOne, Pipe.fencedAll, hfence, hmis, State.refillAcc_bare hx, htr, Core.issued]

/-- What a quiet hart in M-mode issues on DRAM, other than a load, is performed in its caches at once. -/
theorem State.issue_cached {s t : State} {c : Nat} {a : Acc} (hk : (s.core c).quiet) (hload : a.kind ≠ .load)
    (hmis : misaligned a = none) (hdram : s.inDram c a.va.toNat a.size)
    (ht : (s.issuing c).performCached c ((s.core c).issued a) = some t) (hrob : (t.core c).pipe.rob = []) :
    s.issue c a false = t.setCore c (t.core c).afterIssue := by
  obtain ⟨hp, hv⟩ := Core.ctxOf_machine hk a.kind
  have hpage : pageSplit a.va a.size = 0 := by
    obtain ⟨-, hfits, -, -⟩ := hdram
    rw [pageSplit, if_pos (by omega)]
  have hdram' : (s.issuing c).inDram c ((s.core c).issued a).acc.pa ((s.core c).issued a).acc.size := hdram
  have htry := State.tryOne_aligned (s := s.issuing c) (a := a) hk (State.core_setCore_same ..) hmis hpage
  rw [State.tryTranslated_cached (State.issuing_clear hk) (State.path_cached rfl rfl hdram') (State.isIo_dram rfl hdram') ht] at htry
  simp [State.issue, hk.1.1, (Core.quiet.clear hk).room, Core.maskVa_machine hp hv, hv, State.tryAccess, htry, State.settle_of_rob hrob,
    hload, Core.afterIssue]

end Sys2Proof.Machine
end

section
/-! PROOF. Interrupts, fetches, halt requests and the debug UART (O9). -/

namespace Sys2Proof.Machine

/-! ## Accesses within one line that L2 holds (R121) -/

/-- The bytes of the access lie in one line. -/
structure InLine (a : Acc) : Prop where
  split : a.split = 0
  pos : 0 < a.size
  fits : a.pa % 64 + a.size ≤ 64

section
variable {a : Acc} (h : InLine a)
include h

theorem InLine.pieces : accPieces a = [(a.pa, 0, a.size)] := by
  simp [accPieces, h.split, linePieces, h.fits, Nat.ne_of_gt h.pos]

theorem InLine.lines : accLines a = [a.pa / 64] := by
  simp [accLines, h.pieces, List.eraseDups_cons]

theorem InLine.l2Read {k : Core} {x : L2Line} (hx : k.pipe.find2 (a.pa / 64) = some x) :
    k.l2Read a = some (lineBytes x.data (a.pa % 64) a.size, x.poison, if x.poison then x.src else 0) := by
  simp [Core.l2Read, h.pieces, hx]

theorem InLine.touchAll (p : Pipe) {w : Wait} (hw : w.acc = a) (hf : w.filled = false) : p.touchAll w = p.touch (a.pa / 64) := by
  simp [Pipe.touchAll, hf, hw, h.lines]

end

theorem Core.issued_inLine {k : Core} {a : Acc} (hpos : 0 < a.size) (hfits : a.va.toNat % 64 + a.size ≤ 64) : InLine (k.issued a).acc :=
  ⟨rfl, hpos, hfits⟩

/-- No planted error stands in the caches of the core (R334). -/
structure Pipe.Sound (p : Pipe) : Prop where
  l1bad : p.l1bad = []
  l2bad : p.l2bad = []

theorem Core.quiet.sound {k : Core} (h : k.quiet) : k.pipe.Sound := by
  obtain ⟨⟨-, -, -, -, -, -, -, -, h1, h2, -, -⟩, -⟩ := h
  exact ⟨h1, h2⟩

theorem State.l2Check_sound {s : State} {c : Nat} (h : (s.core c).pipe.Sound) (line : Nat) : s.l2Check c line = s := by
  simp [State.l2Check, h.l2bad, Tab.find]

theorem State.l1Check_sound {s : State} {c : Nat} (h : (s.core c).pipe.Sound) (line : Nat) : s.l1Check c line = s := by
  simp [State.l1Check, h.l1bad]

/-- Data that is not poisoned is delivered at once to the oldest instruction (R55). -/
theorem Core.bind_first {k : Core} (h : k.pipe.Clear) (w : Wait) (v src pl : Nat) : k.bind w v false src pl = k.deliverAcc w.acc v := by
  simp [Core.bind, h.isFirst, Core.retireOne]

theorem Core.deliverAcc_none {k : Core} {a : Acc} (h : a.dest = .none) (v : Nat) : k.deliverAcc a v = k := by
  unfold Core.deliverAcc
  rw [h]
  rfl

/-! ## Fetches (R57, R121) -/

/-- A fetched line is put into the L1I; nothing else of the state changes but the free numbers. -/
theorem State.fillL1_fetch (s : State) (c line : Nat) :
    ∃ n l, ({ s with free := n } : State).SetsCore (s.fillL1 c true line) c { s.core c with pipe := { (s.core c).pipe with l1i := l } } ∧
      l.contains line = true := by
  unfold State.fillL1
  by_cases hin : (s.core c).pipe.l1i.contains line = true
  · refine ⟨s.free, (s.core c).pipe.l1i, ?_, hin⟩
    simp only [if_true, hin]
    exact ⟨rfl, fun _ _ => rfl, rfl⟩
  · refine ⟨s.free + 1, l1Add (s.core c).pipe.l1i line (Config.freeValue s.free).toNat, ?_, ?_⟩
    · simp only [if_true, hin]
      exact State.setsCore_setCore ..
    · unfold l1Add
      rw [if_neg hin]
      dsimp only
      split <;> simp

/-- A fetch of a line that L2 holds unpoisoned, once the upset it meets is recovered. -/
theorem State.doLoad_fetch {s u : State} {c : Nat} {w : Wait} {x : L2Line} (hkind : w.acc.kind = .fetch) (hline : InLine w.acc)
    (hdest : w.acc.dest = .none) (hfilled : w.filled = false) (hx : (s.core c).pipe.find2 (w.acc.pa / 64) = some x)
    (hu : s.upsetAt c (w.acc.pa / 64) true w.acc.upset = u) (hclear : (u.core c).pipe.Clear) (hsound : (u.core c).pipe.Sound)
    (hxu : (u.core c).pipe.find2 (w.acc.pa / 64) = some x) (hpz : x.poison = false) :
    ∃ t n l, s.doLoad c w = some t ∧ l.contains (w.acc.pa / 64) = true ∧
      ({ u with free := n } : State).SetsCore t c
        { u.core c with pipe := ({ (u.core c).pipe with l1i := l } : Pipe).touch (w.acc.pa / 64) } := by
  obtain ⟨n, l, hset, hl⟩ := u.fillL1_fetch c (w.acc.pa / 64)
  have hflash : ∀ b, s.flashFill c (w.acc.pa / 64) b = s := fun b => by
    unfold State.flashFill
    split
    · rw [if_pos (.inl (by rw [hx]; rfl))]
    · rfl
  have hfill : (w.filled || (ntlHead w.ntl && [w.acc.pa / 64].any (fun l => ((s.core c).pipe.find2 l).isNone))) = false := by
    simp [hfilled, hx]
  refine ⟨_, n, l, ?_, hl, hset.setCore _⟩
  have hclear' : ({ (u.core c).pipe with l1i := l } : Pipe).Clear := ⟨hclear.waits, hclear.slots, hclear.fence, hclear.poison,
    hclear.rob, hclear.stall, hclear.storeQ⟩
  have hw : ({ w with filled := false } : Wait) = w := by
    cases w
    subst hfilled
    rfl
  have htouch := fun p => hline.touchAll p rfl hfilled
  have hbind : ∀ v pl, ({ u.core c with pipe := ({ (u.core c).pipe with l1i := l } : Pipe).touch (w.acc.pa / 64) } : Core).bind w v
      false 0 pl = { u.core c with pipe := ({ (u.core c).pipe with l1i := l } : Pipe).touch (w.acc.pa / 64) } := fun v pl => by
    rw [Core.bind_first (hclear'.touch _), Core.deliverAcc_none hdest]
  simp only [State.doLoad, hkind, hline.lines, hfill, hw, List.foldl_cons, List.foldl_nil, hflash, beq_self_eq_true, hu,
    State.l1Check_sound hsound, State.l2Check_sound hsound, hline.l2Read hxu, hxu, hpz, hset.core, htouch, hbind, reduceCtorEq,
    false_and, if_false, List.find?_cons, List.find?_nil, Option.isNone_some, Bool.false_and, Bool.false_eq_true]

/-- The state in which core c has moved its pc to the instruction that it fetches. -/
def State.fetching (s : State) (c : Nat) (va : Word) : State := s.setCore c { s.core c with regs := { (s.core c).regs with pc := va } }

/-- The access of an instruction fetch. -/
abbrev fetchAcc (va : Word) (up : Upset) : Acc := { kind := .fetch, va := va, size := 4, upset := up }

/-- Core k once a line has entered its L1I and has been touched in its L2. -/
def Core.fetched (k : Core) (l : List Nat) (line : Nat) : Core :=
  { k with pipe := ({ k.pipe with l1i := l } : Pipe).touch line }

theorem Core.fetched_find2 (k : Core) (l : List Nat) (line m : Nat) : (k.fetched l line).afterIssue.pipe.find2 m = k.pipe.find2 m :=
  Pipe.find2_touch _ line m

theorem Core.fetched_l1i (k : Core) (l : List Nat) (line : Nat) : (k.fetched l line).afterIssue.pipe.l1i = l := by
  obtain ⟨t, ht⟩ := ({ k.pipe with l1i := l } : Pipe).touch_keeps line
  rw [Core.fetched, ht]
  rfl

/-- A fetch of DRAM by a quiet hart in M-mode, of a line that L2 holds. -/
theorem exec_instructionFetch_held {s u : State} {c : CoreId} {va : Word} {up : Upset} {x : L2Line} (hk : (s.core c).quiet)
    (hdram : s.inDram c va.toNat 4) (hx : (s.core c).pipe.find2 (va.toNat / 64) = some x) (hpz : x.poison = false)
    (hu : ((s.fetching c va).issuing c).upsetAt c (va.toNat / 64) true up = u) (hclear : (u.core c).pipe.Clear)
    (hsound : (u.core c).pipe.Sound) (hxu : (u.core c).pipe.find2 (va.toNat / 64) = some x) :
    RunsTo (exec (.instructionFetch c va up) s) fun t => ∃ n l, l.contains (va.toNat / 64) = true ∧
      ({ u with free := n } : State).SetsCore t c ((u.core c).fetched l (va.toNat / 64)).afterIssue := by
  have hcore : (s.fetching c va).core c = { s.core c with regs := { (s.core c).regs with pc := va } } := State.core_setCore_same ..
  have hquiet : ((s.fetching c va).core c).quiet := by
    rw [hcore]
    exact hk
  have hx' : (((s.fetching c va).issuing c).core c).pipe.find2 (va.toNat / 64) = some x := by
    rw [State.core_setCore_same, hcore]
    exact hx
  obtain ⟨t, n, l, hload, hl, hset⟩ := State.doLoad_fetch (w := ((s.fetching c va).core c).issued (fetchAcc va up)) rfl
    (Core.issued_inLine hdram.1 hdram.2.1) rfl rfl hx' hu hclear hsound hxu hpz
  have hrob : (t.core c).pipe.rob = [] := by
    obtain ⟨m, hm⟩ := ({ (u.core c).pipe with l1i := l } : Pipe).touch_keeps (va.toNat / 64)
    rw [hset.core]
    exact (congrArg Pipe.rob hm).trans hclear.rob
  have hissue := State.issue_cached (a := fetchAcc va up) hquiet AccKind.noConfusion rfl hdram hload hrob
  refine ⟨t.setCore c (t.core c).afterIssue, ?_, n, l, hl, ?_⟩
  · rw [← hissue]
    exact State.guarded_legal hk.1.1 (fun s => (s.fetching c va).issue c (fetchAcc va up) false)
  · rw [hset.core]
    exact hset.setCore _

/-- From s to t the L1I of core c has become l; of the registers and pipes of the cores nothing else has changed, nor a line or a home. -/
structure State.ChangesL1i (s t : State) (c : Nat) (l : List Nat) : Prop where
  regs : ∀ d, (t.core d).regs = (s.core d).regs
  pipe : (t.core c).pipe = { (s.core c).pipe with l1i := l }
  others : ∀ d, d ≠ c → (t.core d).pipe = (s.core d).pipe
  mem : t.mem = s.mem
  homes : t.homes = s.homes

theorem State.ChangesL1i.refl (s : State) (c : Nat) : s.ChangesL1i s c (s.core c).pipe.l1i :=
  ⟨fun _ => rfl, rfl, fun _ _ => rfl, rfl, rfl⟩

theorem State.ChangesL1i.report {s t : State} {c : Nat} {l : List Nat} (h : s.ChangesL1i t c l)
    (hcalm : ∀ f, (t.frame f).nq.stalled = []) (ev : ErrEv) : s.ChangesL1i (t.report ev) c l := by
  have hnoted := t.report_noted ev
  obtain ⟨-, hcores⟩ := hnoted.calm hcalm
  exact ⟨fun d => (hcores d).1.trans (h.regs d), (hcores c).2.trans h.pipe, fun d hd => (hcores d).2.trans (h.others d hd),
    hnoted.mem.trans h.mem, hnoted.homes.trans h.homes⟩

theorem State.ChangesL1i.put (s : State) (c : Nat) (l : List Nat) :
    s.ChangesL1i (s.setCore c { s.core c with pipe := { (s.core c).pipe with l1i := l } }) c l := by
  have hset := s.setsCore_setCore c { s.core c with pipe := { (s.core c).pipe with l1i := l } }
  exact ⟨hset.keeps Core.regs rfl, by rw [hset.core], fun d hd => by rw [hset.others d hd], rfl, rfl⟩

/-- An upset that a fetch meets is recovered: it takes lines out of the L1I at most, and is reported (R123). -/
theorem State.upsetAt_fetch {s : State} (hcalm : ∀ f, (s.frame f).nq.stalled = []) (c line : Nat) (up : Upset) :
    ∃ l, s.ChangesL1i (s.upsetAt c line true up) c l := by
  have hput : ∀ l ev, s.ChangesL1i ((s.setCore c { s.core c with pipe := { (s.core c).pipe with l1i := l } }).report ev) c l :=
    fun l ev => (State.ChangesL1i.put s c l).report hcalm ev
  have hnote : ∀ ev, s.ChangesL1i (s.report ev) c (s.core c).pipe.l1i := fun ev => (State.ChangesL1i.refl s c).report hcalm ev
  unfold State.upsetAt
  cases up with
  | none => exact ⟨_, .refl s c⟩
  | l1Data =>
    simp only [reduceIte]
    split
    · exact ⟨_, hput _ _⟩
    · exact ⟨_, .refl s c⟩
  | l1Tag => exact ⟨_, hput _ _⟩
  | l2Tag =>
    dsimp only
    split
    · exact ⟨_, hnote _⟩
    · exact ⟨_, .refl s c⟩
  | filter =>
    dsimp only
    split
    · exact ⟨_, hnote _⟩
    · exact ⟨_, .refl s c⟩

/-! ## Interrupts, halts and the debug UART -/

/-- mstatus as a trap to M-mode leaves it: MPIE, MIE, MPP, MPV and GVA (the privileged architecture). -/
theorem Regs.takeTrap_mstatus {r : Regs} {t : Trap} {w ms : Word} (h : r.trapTarget t = 3) (hw : causeWord t.irq t.cause = w)
    (hms : setFld (setFld (setFld (setFld (setFld (r.get Csr.mstatus) 7 7 (fld (r.get Csr.mstatus) 3 3)) 3 3 0)
      12 11 r.priv) 39 39 (b2n r.virt)) 38 38 (b2n t.gva) = ms) : (r.takeTrap t).get Csr.mstatus = ms := by
  simp only [Regs.takeTrap, h, hw, Regs.get_mode, hms]
  simp (disch := decide) only [Regs.get_put_ne, Regs.get_put_same]

theorem Core.trapRegs_mstatus {k : Core} {t : Trap} (h : k.regs.trapTarget t = 3) :
    (k.trapRegs t).get Csr.mstatus = setFld (setFld (setFld (setFld (setFld (k.csr Csr.mstatus) 7 7 (fld (k.csr Csr.mstatus) 3 3)) 3 3 0)
      12 11 k.regs.priv) 39 39 (b2n k.regs.virt)) 38 38 (b2n t.gva) :=
  Regs.takeTrap_mstatus ((k.trapTarget_entering t).trans h) rfl rfl

/-- What a trap to M-mode stacks in mstatus reads back: MPIE is the old MIE, MIE is 0, MPP the old mode. -/
theorem mstatus_stacked (ms : Word) (priv v g : Nat) :
    let w := setFld (setFld (setFld (setFld (setFld ms 7 7 (fld ms 3 3)) 3 3 0) 12 11 priv) 39 39 v) 38 38 g
    w.getLsbD 7 = ms.getLsbD 3 ∧ w.getLsbD 3 = false ∧ fld w 12 11 = priv % 4 := by
  refine ⟨?_, ?_, ?_⟩
  · rw [getLsbD_setFld_other _ _ (by omega), getLsbD_setFld_other _ _ (by omega), getLsbD_setFld_other _ _ (by omega),
      getLsbD_setFld_other _ _ (by omega), getLsbD_setFld, if_pos (by omega), fld_testBit]
    simp
  · rw [getLsbD_setFld_other _ _ (by omega), getLsbD_setFld_other _ _ (by omega), getLsbD_setFld_other _ _ (by omega),
      getLsbD_setFld, if_pos (by omega), Nat.zero_testBit]
  · rw [fld_setFld_other _ _ (by omega), fld_setFld_other _ _ (by omega), fld_setFld_same _ _ (by omega)]
    rfl

theorem exec_interruptTaken_takes {s : State} {c : CoreId} {i : Nat} (hrun : (s.core c).run = .run)
    (hbusy : (s.core c).busyBeyond = false) (hstall : s.stalledLoad c = false)
    (hirq : (s.core c).irqToTake (s.coreTime c) = some (i, 3)) (hsnp : (s.core c).pipe.snpQ = []) :
    RunsTo (exec (.interruptTaken c) s) fun t => s.SetsCore t c
      ((s.core c).trapTaken { cause := i, irq := true, pc := (s.core c).pipe.oldestPc, lvl := some 3 }) := by
  refine ⟨_, ?_, State.trapCore_setsCore hsnp _⟩
  change execInterruptTaken c s = _
  simp only [execInterruptTaken, hrun, hbusy, hstall, hirq, ne_eq, not_true_eq_false, Bool.false_eq_true, or_self, if_false]

/-- The core sleeps, or is on its way to DEEP or in it (R378). -/
def Run.dozes (r : Run) : Bool := r == .sleep || r == .deep || (match r with | .entering _ => true | _ => false)

theorem exec_debugHaltRequest (s : State) (c : CoreId) :
    exec (.debugHaltRequest c) s =
      .next (s.setCore c { s.core c with halt := true, wake := (s.core c).wake || (s.core c).run.dozes }) := rfl

theorem State.aplicSend_disabled {s : State} {f n : Nat} (h : (s.frame f).aplic.enabled.contains n = false) : s.aplicSend f n = s := by
  unfold State.aplicSend
  simp only [h, Bool.and_false, Bool.false_eq_true, if_false]

theorem srcKind_uart (s : State) : s.srcKind 0 3 = 1 := by
  simp [State.srcKind, frameOfQuad, b2n]

/-- Settles O9: an interrupt is a trap to the level that its selection names, a fetch is a cached read that binds nothing, and the rest
acts on one core or one frame. -/
theorem interruptsHaltsAndFetches : Obligations.InterruptsHaltsAndFetches := by
  unfold Obligations.InterruptsHaltsAndFetches
  refine ⟨?taken, ?none, ?fetch, ?upset, ?asleep, ?awake, ?uart⟩
  case taken =>
    intro s c i hrun hbusy hstall hirq hsnp
    obtain ⟨t, hexec, hset⟩ := exec_interruptTaken_takes hrun hbusy hstall hirq hsnp
    refine ⟨t, hexec, ?_⟩
    have htook := Core.tookTrap_machine (k := s.core c)
      (t := { cause := i, irq := true, pc := (s.core c).pipe.oldestPc, lvl := some 3 }) rfl
    have hms := Core.trapRegs_mstatus (k := s.core c)
      (t := { cause := i, irq := true, pc := (s.core c).pipe.oldestPc, lvl := some 3 }) rfl
    obtain ⟨hmpie, hmie, hmpp⟩ := mstatus_stacked ((s.core c).csr Csr.mstatus) (s.core c).regs.priv (b2n (s.core c).regs.virt) (b2n false)
    simp only [hset.core, csrBit_eq, Core.trapTaken_csr, Core.trapTaken_regs, hms]
    exact ⟨htook.cause.trans (causeWord_interrupt i), htook.epc, htook.priv, htook.virt, hmpie, hmie, hmpp, rfl, htook.x, htook.f, htook.v,
      hset.onlyCore⟩
  case none =>
    intro s c hirq
    change execInterruptTaken c s = _
    simp only [execInterruptTaken, hirq, ite_self]
  case fetch =>
    intro s c va x hk _ hdram hx hpz
    have hcore : ((s.fetching c va).issuing c).core c =
        ({ s.core c with regs := { (s.core c).regs with pc := va } } : Core).nextSeq := by
      rw [State.core_setCore_same, State.fetching, State.core_setCore_same]
    obtain ⟨t, hexec, n, l, hl, hset⟩ := exec_instructionFetch_held (up := .none) (u := (s.fetching c va).issuing c) hk hdram hx hpz rfl
      (by rw [hcore]; exact (Core.quiet.clear hk).nextSeq) (by rw [hcore]; exact Core.quiet.sound hk) (by rw [hcore]; exact hx)
    rw [hcore] at hset
    have hbefore := (s.setsCore_setCore c { s.core c with regs := { (s.core c).regs with pc := va } }).setCore
      ((s.fetching c va).core c).nextSeq
    refine ⟨t, hexec, ⟨?_, fun d hd => ?_, ?_⟩, fun m => ?_, ?_⟩
    · rw [hset.core]
      rfl
    · exact (hset.others d hd).trans (hbefore.others d hd)
    · rw [hset.beside]
      rfl
    · rw [hset.core, Core.fetched_find2]
      rfl
    · rw [hset.core, Core.fetched_l1i]
      exact hl
  case upset =>
    intro s c va up x hk _ hdram hx hpz _ hcalm
    have hcore : ((s.fetching c va).issuing c).core c =
        ({ s.core c with regs := { (s.core c).regs with pc := va } } : Core).nextSeq := by
      rw [State.core_setCore_same, State.fetching, State.core_setCore_same]
    have hother : ∀ d, d ≠ c.val → ((s.fetching c va).issuing c).core d = s.core d := fun d hd => by
      rw [State.core_setCore_ne _ _ _ _ hd, State.fetching, State.core_setCore_ne _ _ _ _ hd]
    obtain ⟨l1, hup⟩ := State.upsetAt_fetch (s := (s.fetching c va).issuing c) (State.stalled_of_frames hcalm) c (va.toNat / 64) up
    have hpipe := hup.pipe
    rw [hcore] at hpipe
    have hclear := (Core.quiet.clear hk).nextSeq
    have hsound := Core.quiet.sound hk
    obtain ⟨t, hexec, n, l, hl, hset⟩ := exec_instructionFetch_held hk hdram hx hpz rfl
      (by rw [hpipe]; exact ⟨hclear.waits, hclear.slots, hclear.fence, hclear.poison, hclear.rob, hclear.stall, hclear.storeQ⟩)
      (by rw [hpipe]; exact ⟨hsound.l1bad, hsound.l2bad⟩) (by rw [hpipe]; exact hx)
    refine ⟨t, hexec, ?_, fun m => ?_, ?_, fun d hd => ⟨?_, ?_⟩, ?_, ?_⟩
    · rw [hset.core]
      refine (hup.regs c).trans ?_
      rw [hcore]
      rfl
    · rw [hset.core, Core.fetched_find2, hpipe]
      rfl
    · rw [hset.core, Core.fetched_l1i]
      exact hl
    · rw [hset.others d hd]
      exact (hup.regs d).trans (by rw [hother d hd])
    · rw [hset.others d hd]
      exact (hup.others d hd).trans (by rw [hother d hd])
    · rw [hset.beside]
      exact hup.mem
    · rw [hset.beside]
      exact hup.homes
  case asleep =>
    intro s c hrun
    have hdozes : (s.core c).run.dozes = true := by
      rcases hrun with h | h | ⟨ap, -, h⟩ <;> rw [h] <;> rfl
    rw [exec_debugHaltRequest, hdozes, Bool.or_true]
  case awake =>
    intro s c hrun
    have hdozes : (s.core c).run.dozes = false := by
      simp only [List.mem_cons, List.not_mem_nil, or_false] at hrun
      rcases hrun with h | h | h | h <;> rw [h] <;> rfl
    rw [exec_debugHaltRequest, hdozes, Bool.or_false]
  case uart =>
    intro s hsm hen
    change Host.Outcome.next (s.aplicEdge 0 3) = _
    rw [State.aplicEdge, if_pos ⟨by rw [srcKind_uart]; decide, hsm⟩, State.aplicSend_disabled]
    rw [State.frame_setFrame_same]
    exact hen

end Sys2Proof.Machine
end

section
/-! PROOF. AMO, LR and SC act in L2 on a line held in unique ownership (O5). -/

namespace Sys2Proof.Machine

/-! ## Bytes of a line in unique ownership (R66, R121) -/

/-- What a register gets depends on the registers, and on the destination, the width and the extension of the access alone. -/
theorem Core.deliverAcc_regs {k l : Core} {a b : Acc} (hr : k.regs = l.regs) (hd : a.dest = b.dest) (hs : a.size = b.size)
    (hx : a.sext = b.sext) (v : Nat) : (k.deliverAcc a v).regs = (l.deliverAcc b v).regs := by
  unfold Core.deliverAcc
  rw [hd, hs, hx]
  split
  · split
    · exact hr
    · dsimp only
      rw [hr]
  · dsimp only
    rw [hr]

theorem Core.deliverAcc_beside (k : Core) (a : Acc) (v : Nat) : k.deliverAcc a v = { k with regs := (k.deliverAcc a v).regs } := by
  unfold Core.deliverAcc
  split
  · split <;> rfl
  · rfl

/-- The entry of a line with the bytes of an access written into it. -/
def L2Line.put (x : L2Line) (pa size v : Nat) : L2Line :=
  x.write (placeInLine (v % 2 ^ (8 * size)) (pa % 64)) (byteMask (pa % 64) size) .m

/-- The pipe of core k with an access's bytes written into its line of L2, which has become the most recent of its set. -/
def Pipe.written (p : Pipe) (a : Acc) (v : Nat) : Pipe := (p.upd2 (a.pa / 64) (·.put a.pa a.size v)).touch (a.pa / 64)

theorem InLine.l2Write {a : Acc} (h : InLine a) (k : Core) (v : Nat) :
    k.l2Write a v false = { k with pipe := k.pipe.written a v } := by
  simp only [Core.l2Write, h.pieces, List.foldl_cons, List.foldl_nil, Nat.mul_zero, Nat.pow_zero, Nat.div_one, Bool.false_eq_true, if_false]
  rfl

theorem Pipe.written_find2 {p : Pipe} {a : Acc} {x : L2Line} (h : p.find2 (a.pa / 64) = some x) (v : Nat) :
    (p.written a v).find2 (a.pa / 64) = some (x.put a.pa a.size v) ∧
      ∀ l, l ≠ a.pa / 64 → (p.written a v).find2 l = p.find2 l := by
  have hput : ∀ e : L2Line, (e.put a.pa a.size v).line = e.line := fun _ => rfl
  constructor
  · rw [Pipe.written, Pipe.find2_touch, Pipe.find2_upd2 _ _ hput, if_pos rfl, h, Option.map_some]
  · intro l hl
    rw [Pipe.written, Pipe.find2_touch, Pipe.find2_upd2 _ _ hput, if_neg hl]

theorem Pipe.written_keeps (p : Pipe) (a : Acc) (v : Nat) : ∃ t, p.written a v = { p with l2 := t } := by
  obtain ⟨t, ht⟩ := (p.upd2 (a.pa / 64) (·.put a.pa a.size v)).touch_keeps (a.pa / 64)
  exact ⟨t, ht⟩

/-- Which lines a set of L2 holds, and their order, does not depend on a hold, nor on the snoops that it defers. -/
theorem Pipe.touch_hold (p : Pipe) (h : Option Nat) (q : List Msg) (line : Nat) :
    ({ p with hold := h, snpQ := q } : Pipe).touch line = { p.touch line with hold := h, snpQ := q } := by
  cases hf : p.find2 line with
  | none =>
    have hf' : ({ p with hold := h, snpQ := q } : Pipe).find2 line = none := hf
    simp [Pipe.touch, hf, hf']
  | some e =>
    have hf' : ({ p with hold := h, snpQ := q } : Pipe).find2 line = some e := hf
    simp only [Pipe.touch, hf, hf']
    rfl

theorem Core.deliverAcc_pipe (k : Core) (a : Acc) (v : Nat) : (k.deliverAcc a v).pipe = k.pipe := by
  rw [Core.deliverAcc_beside]

/-- An access that has bound its data ends its issue with the registers so written, and no more than the pipe changed beside them. -/
theorem Core.deliverAcc_afterIssue {k l : Core} (hl : l = { k with pipe := l.pipe }) {a b : Acc} (hd : a.dest = b.dest)
    (hs : a.size = b.size) (hx : a.sext = b.sext) (v : Nat) :
    (l.deliverAcc a v).afterIssue =
      { k with regs := (k.deliverAcc b v).regs, pipe := (l.deliverAcc a v).afterIssue.pipe } := by
  have hregs : (l.deliverAcc a v).regs = (k.deliverAcc b v).regs := Core.deliverAcc_regs (by rw [hl]) hd hs hx v
  rw [Core.deliverAcc_beside, hregs, hl]
  rfl

theorem Core.owns_unique {k : Core} {line : Nat} {x : L2Line} (hx : k.pipe.find2 line = some x) (hu : x.st.unique = true) :
    k.owns line = true := by
  simp [Core.owns, hx, hu]

theorem InLine.wantLine {a : Acc} (h : InLine a) {k : Core} (ho : k.owns (a.pa / 64) = true) : k.wantLine a = none := by
  simp [Core.wantLine, h.lines, ho]

theorem State.l2Check_lines {s : State} {c : Nat} (h : (s.core c).pipe.Sound) {a : Acc} (hl : InLine a) :
    (accLines a).foldl (fun s l => s.l2Check c l) s = s := by
  rw [hl.lines, List.foldl_cons, List.foldl_nil, State.l2Check_sound h]

/-! ## The three operations in L2 (R66, R67) -/

/-- The bytes of an access in a line of L2. -/
def L2Line.bytes (x : L2Line) (a : Acc) : Nat := lineBytes x.data (a.pa % 64) a.size

/-- The core after an AMO on line x: the result in L2, the old bytes in its register. -/
def Core.amoDone (k : Core) (a : Acc) (x : L2Line) : Core :=
  ({ k with pipe := k.pipe.written a (amoResult a.aop a.size (x.bytes a) a.data.toNat a.cmp.toNat) } : Core).deliverAcc a (x.bytes a)

/-- The core after an LR on line x: the block reserved and held, the bytes in its register. -/
def Core.lrDone (k : Core) (a : Acc) (x : L2Line) : Core :=
  ({ k with pipe := { k.pipe.touch (a.pa / 64) with resv := some (a.pa / 64), hold := some (a.pa / 64), snpQ := [] } } : Core).deliverAcc
    a (x.bytes a)

section
variable {s : State} {c : Nat} {w : Wait} {x : L2Line} (hline : InLine w.acc) (hx : (s.core c).pipe.find2 (w.acc.pa / 64) = some x)
  (hu : x.st.unique = true) (hfilled : w.filled = false)
include hline hx hu hfilled

theorem State.doAmo_owned (hsound : (s.core c).pipe.Sound) (hpz : x.poison = false) :
    s.doAmo c w = some (s.setCore c ((s.core c).amoDone w.acc x)) := by
  simp only [State.doAmo, State.l2Check_lines hsound hline, hline.wantLine (Core.owns_unique hx hu), hline.l2Read hx, hpz, hfilled,
    hline.l2Write]
  rfl

theorem State.doLr_owned (hsound : (s.core c).pipe.Sound) (hclear : (s.core c).pipe.Clear) (hpz : x.poison = false)
    (hsnp : (s.core c).pipe.snpQ = []) :
    ∃ t, s.doLr c w = some t ∧ s.SetsCore t c ((s.core c).lrDone w.acc x) := by
  obtain ⟨u, h, hu', hset⟩ : ∃ u h, (if (s.core c).pipe.hold = some (w.acc.pa / 64) then s else s.releaseHold c) = u ∧
      s.SetsCore u c { s.core c with pipe := { (s.core c).pipe with hold := h, snpQ := [] } } := by
    split
    · refine ⟨s, (s.core c).pipe.hold, rfl, ?_, fun _ _ => rfl, rfl⟩
      rw [← hsnp]
    · refine ⟨_, none, rfl, State.releaseHold_setsCore ⟨rfl, fun _ _ => rfl, rfl⟩ hsnp⟩
  have hclear' : ({ (s.core c).pipe.touch (w.acc.pa / 64) with resv := some (w.acc.pa / 64), hold := some (w.acc.pa / 64), snpQ := [] } :
      Pipe).Clear := by
    have ht := hclear.touch (w.acc.pa / 64)
    exact ⟨ht.waits, ht.slots, ht.fence, ht.poison, ht.rob, ht.stall, ht.storeQ⟩
  refine ⟨_, ?_, hset.setCore _⟩
  simp only [State.doLr, State.l2Check_lines hsound hline, hline.wantLine (Core.owns_unique hx hu), hline.l2Read hx, hpz, hu', hset.core,
    hline.touchAll _ rfl hfilled, Pipe.touch_hold]
  rw [Core.bind_first hclear']
  rfl

end

/-- The core after an SC: its bytes written where the reservation held, the result in its register, and no reservation left. -/
def Core.scDone (k : Core) (a : Acc) (ok : Bool) : Core :=
  { k with regs := (k.deliverAcc { a with size := 8, sext := false } (if ok then 0 else 1)).regs,
           pipe := { if ok then k.pipe.written a a.data.toNat else k.pipe with resv := none, hold := none, snpQ := [] } }

theorem Core.amoDone_clear (k : Core) (h : k.pipe.Clear) (a : Acc) (x : L2Line) : (k.amoDone a x).pipe.Clear := by
  obtain ⟨m, hm⟩ := k.pipe.written_keeps a (amoResult a.aop a.size (x.bytes a) a.data.toNat a.cmp.toNat)
  rw [Core.amoDone, Core.deliverAcc_pipe, hm]
  exact h.withL2 m

theorem Core.lrDone_clear (k : Core) (h : k.pipe.Clear) (a : Acc) (x : L2Line) : (k.lrDone a x).pipe.Clear := by
  have ht := h.touch (a.pa / 64)
  rw [Core.lrDone, Core.deliverAcc_pipe]
  exact ⟨ht.waits, ht.slots, ht.fence, ht.poison, ht.rob, ht.stall, ht.storeQ⟩

theorem Core.scDone_clear (k : Core) (h : k.pipe.Clear) (a : Acc) (ok : Bool) : (k.scDone a ok).pipe.Clear := by
  obtain ⟨m, hm⟩ := k.pipe.written_keeps a a.data.toNat
  have hw := h.withL2 m
  cases ok with
  | false => exact ⟨h.waits, h.slots, h.fence, h.poison, h.rob, h.stall, h.storeQ⟩
  | true =>
    rw [Core.scDone, if_pos rfl, hm]
    exact ⟨hw.waits, hw.slots, hw.fence, hw.poison, hw.rob, hw.stall, hw.storeQ⟩

theorem State.doSc_ends {s : State} {c : Nat} {p : Pipe} (hsnp : p.snpQ = []) (a : Acc) (v : Nat) :
    s.SetsCore ((s.setCore c { ({ s.core c with pipe := p } : Core).deliverAcc a v with
        pipe := { (({ s.core c with pipe := p } : Core).deliverAcc a v).pipe with resv := none } }).releaseHold c) c
      { s.core c with regs := ((s.core c).deliverAcc a v).regs, pipe := { p with resv := none, hold := none, snpQ := [] } } := by
  have hregs := Core.deliverAcc_regs (k := { s.core c with pipe := p }) (l := s.core c) (a := a) (b := a) rfl rfl rfl rfl v
  have hset := State.releaseHold_setsCore (s.setsCore_setCore c { ({ s.core c with pipe := p } : Core).deliverAcc a v with
        pipe := { (({ s.core c with pipe := p } : Core).deliverAcc a v).pipe with resv := none } })
    (by rw [Core.deliverAcc_pipe]; exact hsnp)
  rw [Core.deliverAcc_pipe] at hset ⊢
  rw [Core.deliverAcc_beside, hregs] at hset ⊢
  exact hset

theorem State.doSc_setsCore {s : State} {c : Nat} {w : Wait} {ok : Bool} (hline : InLine w.acc)
    (hok : ((s.core c).pipe.resv == some (w.acc.pa / 64) && (s.core c).owns (w.acc.pa / 64)) = ok) (hsnp : (s.core c).pipe.snpQ = []) :
    s.SetsCore (s.doSc c w) c ((s.core c).scDone w.acc ok) := by
  obtain ⟨t, ht⟩ := (s.core c).pipe.written_keeps w.acc w.acc.data.toNat
  simp only [State.doSc, hok, hline.l2Write]
  cases ok with
  | false => exact State.doSc_ends hsnp { w.acc with size := 8, sext := false } 1
  | true => exact State.doSc_ends (by rw [ht]; exact hsnp) { w.acc with size := 8, sext := false } 0

/-- An SC's result, 0 or 1, as its register gets it. -/
theorem Core.scResult (k : Core) {a : Acc} {rd : Fin 32} (hd : a.dest = .x rd) {n : Nat} (hn : n < 2) :
    (k.deliverAcc { a with size := 8, sext := false } n).regs = k.regs.writeX rd (BitVec.ofNat 64 n) := by
  have hmod : n % 2 ^ (8 * 8) = n := Nat.mod_eq_of_lt (by omega)
  simp only [Core.deliverAcc, hd, Regs.deliver, extend, hmod, Nat.min_self, Bool.false_eq_true, false_and, if_false, Nat.lt_irrefl,
    decide_false]

theorem Core.scDone_afterIssue (k : Core) {a : Acc} {rd : Fin 32} (hd : a.dest = .x rd) (ok : Bool) :
    (k.nextSeq.scDone a ok).afterIssue =
      { k with regs := k.regs.writeX rd (if ok then 0 else 1), pipe := (k.nextSeq.scDone a ok).afterIssue.pipe } := by
  have hregs : (k.nextSeq.scDone a ok).regs = k.regs.writeX rd (if ok then 0 else 1) := by
    cases ok with
    | false => exact k.nextSeq.scResult hd (n := 1) (by omega)
    | true => exact k.nextSeq.scResult hd (n := 0) (by omega)
  rw [← hregs]
  rfl

/-! ## Holds (R67) -/

/-- From s to t no core's hold, and no snoop that a hold defers, has changed. -/
def State.KeepsHolds (s t : State) : Prop :=
  ∀ d, (t.core d).pipe.hold = (s.core d).pipe.hold ∧ (t.core d).pipe.snpQ = (s.core d).pipe.snpQ

/-- The same of one core. -/
def Core.KeepsHold (k l : Core) : Prop := l.pipe.hold = k.pipe.hold ∧ l.pipe.snpQ = k.pipe.snpQ

theorem State.KeepsHolds.trans {s t u : State} (h : s.KeepsHolds t) (h' : t.KeepsHolds u) : s.KeepsHolds u :=
  fun d => ⟨(h' d).1.trans (h d).1, (h' d).2.trans (h d).2⟩

theorem Core.KeepsHold.trans {k l m : Core} (h : k.KeepsHold l) (h' : l.KeepsHold m) : k.KeepsHold m :=
  ⟨h'.1.trans h.1, h'.2.trans h.2⟩

theorem State.KeepsHolds.refl (s : State) : s.KeepsHolds s := fun _ => ⟨rfl, rfl⟩

theorem State.Noted.keepsHolds {s t : State} (h : s.Noted t) : s.KeepsHolds t := fun d => by
  obtain ⟨st, hst⟩ := h.pipe d
  rw [hst]
  exact ⟨rfl, rfl⟩

theorem State.KeepsHolds.setCore {s : State} {c : Nat} {k : Core} (h : (s.core c).KeepsHold k) : s.KeepsHolds (s.setCore c k) := fun d => by
  by_cases hd : d = c
  · rw [hd, State.core_setCore_same]
    exact h
  · rw [State.core_setCore_ne _ _ _ _ hd]
    exact ⟨rfl, rfl⟩

theorem Core.loseLine_keepsHold (k : Core) (line : Nat) : k.KeepsHold (k.loseLine line) := by
  unfold Core.loseLine
  split
  · rw [Core.KeepsHold, Core.loseResv_pipe]
    exact ⟨rfl, rfl⟩
  · exact ⟨rfl, rfl⟩

theorem Core.dropLine_keepsHold (k : Core) (line : Nat) : k.KeepsHold (k.dropLine line) := by
  refine Core.KeepsHold.trans (l := { k with pipe := (k.pipe.drop2 line).replay line }) ?_ (Core.loseLine_keepsHold _ _)
  unfold Pipe.replay
  split <;> exact ⟨rfl, rfl⟩

/-- A snoop may change lines, writeback entries and the reservation of a core, and nothing that it holds (R172). -/
theorem Core.snoopLine_keepsHold (k : Core) (vO : Bool) (op : MsgOp) (e : L2Line) : k.KeepsHold (k.snoopLine vO op e).core := by
  have hlost := k.loseLine_keepsHold e.line
  have hgone := hlost.trans (Core.dropLine_keepsHold _ e.line)
  unfold Core.snoopLine
  dsimp only
  split
  · split <;> exact hlost
  · exact hlost
  · exact hlost
  · exact hlost
  · exact hlost
  · exact hgone
  · split <;> exact hlost
  · exact hgone
  · exact hgone

theorem Core.snoopWb_keepsHold (k : Core) (vO : Bool) (op : MsgOp) (i : Nat) (sl : Slot) (d : Line) (st : LSt) (pz : Bool) :
    k.KeepsHold (k.snoopWb vO op i sl d st pz).core := by
  unfold Core.snoopWb
  dsimp only
  split
  · exact ⟨rfl, rfl⟩
  · split <;> exact ⟨rfl, rfl⟩
  · exact ⟨rfl, rfl⟩
  · exact ⟨rfl, rfl⟩
  · exact ⟨rfl, rfl⟩
  · exact ⟨rfl, rfl⟩

theorem Core.snoop_keepsHold (k : Core) (vO : Bool) (op : MsgOp) (line : Nat) : k.KeepsHold (k.snoop vO op line).core := by
  unfold Core.snoop
  split
  · exact k.snoopLine_keepsHold vO op _
  · split
    · split
      · exact k.snoopWb_keepsHold ..
      · exact ⟨rfl, rfl⟩
    · exact ⟨rfl, rfl⟩

theorem State.l2Check_keepsHolds (s : State) (c line : Nat) : s.KeepsHolds (s.l2Check c line) := by
  have hreport : ∀ k ev, (s.core c).KeepsHold k → s.KeepsHolds ((s.setCore c k).report ev) := fun k ev hk =>
    (State.KeepsHolds.setCore hk).trans (State.report_noted _ ev).keepsHolds
  unfold State.l2Check
  extract_lets k p erased poisoned
  split
  · have herased : k.KeepsHold erased := ⟨rfl, rfl⟩
    have hpoisoned : k.KeepsHold poisoned := ⟨rfl, rfl⟩
    split
    · exact hreport _ _ herased
    · split
      · exact hreport _ _ hpoisoned
      · exact hreport _ _ (herased.trans (Core.dropLine_keepsHold _ _))
  · exact .refl s

theorem State.snoopCores_keepsHolds (s : State) (op : MsgOp) (line : Nat) (cs : List Nat) : s.KeepsHolds (s.snoopCores op line cs).1 := by
  unfold State.snoopCores
  generalize ({} : SnpSum) = sum
  induction cs generalizing s sum with
  | nil => exact .refl s
  | cons c cs ih =>
    rw [List.foldl_cons]
    refine State.KeepsHolds.trans ?_ (ih _ _)
    dsimp only
    split
    · exact (s.l2Check_keepsHolds c line).trans (.setCore (Core.snoop_keepsHold ..))
    · exact .setCore (Core.snoop_keepsHold ..)

theorem State.answerSnoop_keepsHolds (s : State) (m : Msg) (studs : List Nat) (agent : Nat) : s.KeepsHolds (s.answerSnoop m studs agent) := by
  have hroute : ∀ (u : State) f msg, u.KeepsHolds (u.route f msg) := fun u f msg => (u.route_noted f msg).keepsHolds
  unfold State.answerSnoop
  have hfirst := s.snoopCores_keepsHolds m.op m.hdr.line (s.snoopTargets m studs)
  dsimp -zeta only
  extract_lets line f taken kept src h given back sent
  have htaken : s.KeepsHolds taken := hfirst.trans <| by
    unfold taken
    split
    · exact State.snoopCores_keepsHolds _ _ _ _
    · exact .refl _
  have hgiven : s.KeepsHolds given := htaken.trans <| by
    unfold given
    split
    · exact hroute _ _ _
    · exact .refl taken
  have hsent : s.KeepsHolds sent := hgiven.trans <| by
    unfold sent
    split
    · exact hroute _ _ _
    · exact .refl given
  exact hsent.trans (hroute _ _ _)

/-- The end of a hold leaves it, and answers what it deferred (R67). -/
theorem State.releaseHold_ends (s : State) (c : Nat) : ((s.releaseHold c).core c).pipe.hold = none ∧ ((s.releaseHold c).core c).pipe.snpQ = [] := by
  have hfold : ∀ (q : List Msg) (u : State), u.KeepsHolds (q.foldl (fun s m => s.answerSnoop m (s.snoopScope m.size) m.size) u) := fun q => by
    induction q with
    | nil => exact .refl
    | cons m q ih => exact fun u => (u.answerSnoop_keepsHolds m _ _).trans (ih _)
  obtain ⟨hhold, hsnpq⟩ := hfold (s.core c).pipe.snpQ
    (s.setCore c { s.core c with pipe := { (s.core c).pipe with hold := none, snpQ := [] } }) c
  rw [State.core_setCore_same] at hhold hsnpq
  exact ⟨hhold, hsnpq⟩

/-! ## The clauses -/

/-- What an access of a quiet hart that its caches perform comes to. -/
theorem State.issue_setsCore {s t : State} {c : Nat} {a : Acc} {k : Core} (hk : (s.core c).quiet) (hload : a.kind ≠ .load)
    (hmis : misaligned a = none) (hdram : s.inDram c a.va.toNat a.size)
    (ht : (s.issuing c).performCached c ((s.core c).issued a) = some t) (hset : (s.issuing c).SetsCore t c k) (hrob : k.pipe.rob = []) :
    s.SetsCore (s.issue c a false) c k.afterIssue := by
  rw [State.issue_cached hk hload hmis hdram ht (by rw [hset.core, hrob]), hset.core]
  exact ((s.setsCore_setCore c _).trans hset).setCore _

/-- The access of an AMO, of an LR and of an SC. -/
abbrev amoAcc (va : Word) (size : Nat) (op : AmoOp) (val cmp : BitVec 128) (rd : Fin 32) (aq rl : Bool) : Acc :=
  { kind := .amo, va := va, size := size, aop := op, data := val, cmp := cmp, dest := .x rd, sext := true, aq := aq, rl := rl }
abbrev lrAcc (va : Word) (size : Nat) (rd : Fin 32) (aq rl : Bool) : Acc :=
  { kind := .lr, va := va, size := size, dest := .x rd, sext := true, aq := aq, rl := rl }
abbrev scAcc (va : Word) (size : Nat) (val : BitVec 128) (rd : Fin 32) (aq rl : Bool) : Acc :=
  { kind := .sc, va := va, size := size, data := val, dest := .x rd, aq := aq, rl := rl }

section
variable {s : State} {c : CoreId} {va : Word} {size : Nat} {rd : Fin 32} {x : L2Line} (aq rl : Bool) (hk : (s.core c).quiet)
  (hdram : s.inDram c va.toNat size)
include hk hdram

theorem exec_amo_owned (op : AmoOp) (val cmp : BitVec 128) (hfits : va.toNat % 16 + size ≤ 16)
    (hx : (s.core c).pipe.find2 (va.toNat / 64) = some x) (hu : x.st.unique = true) (hpz : x.poison = false) :
    RunsTo (exec (.amo c va size op val cmp rd aq rl) s) fun t => s.SetsCore t c
      ((s.core c).nextSeq.amoDone ((s.core c).issued (amoAcc va size op val cmp rd aq rl)).acc x).afterIssue := by
  have hcore : (s.issuing c).core c = (s.core c).nextSeq := State.core_setCore_same ..
  have hdo := State.doAmo_owned (s := s.issuing c) (c := c) (w := (s.core c).issued (amoAcc va size op val cmp rd aq rl))
    (Core.issued_inLine hdram.1 hdram.2.1) (by rw [hcore]; exact hx) hu rfl (by rw [hcore]; exact Core.quiet.sound hk) hpz
  rw [hcore] at hdo
  have hmis : misaligned (amoAcc va size op val cmp rd aq rl) = none := if_neg (by dsimp only; omega)
  refine ⟨_, State.guarded_legal hk.1.1 (·.issue c (amoAcc va size op val cmp rd aq rl) false), State.issue_setsCore hk AccKind.noConfusion hmis hdram hdo (State.setsCore_setCore ..) ?_⟩
  exact ((s.core c).nextSeq.amoDone_clear (Core.quiet.clear hk).nextSeq _ x).rob

theorem exec_lr_owned (halign : va.toNat % size = 0) (hx : (s.core c).pipe.find2 (va.toNat / 64) = some x) (hu : x.st.unique = true)
    (hpz : x.poison = false) (hsnp : (s.core c).pipe.snpQ = []) :
    RunsTo (exec (.lr c va size rd aq rl) s) fun t =>
      s.SetsCore t c ((s.core c).nextSeq.lrDone ((s.core c).issued (lrAcc va size rd aq rl)).acc x).afterIssue := by
  have hcore : (s.issuing c).core c = (s.core c).nextSeq := State.core_setCore_same ..
  have hclear := (Core.quiet.clear hk).nextSeq
  obtain ⟨t, hdo, hset⟩ := State.doLr_owned (s := s.issuing c) (c := c) (w := (s.core c).issued (lrAcc va size rd aq rl))
    (Core.issued_inLine hdram.1 hdram.2.1) (by rw [hcore]; exact hx) hu rfl (by rw [hcore]; exact Core.quiet.sound hk)
    (by rw [hcore]; exact hclear) hpz (by rw [hcore]; exact hsnp)
  rw [hcore] at hset
  have hmis : misaligned (lrAcc va size rd aq rl) = none := if_pos halign
  exact ⟨_, State.guarded_legal hk.1.1 (·.issue c (lrAcc va size rd aq rl) false), State.issue_setsCore hk AccKind.noConfusion hmis hdram hdo
    hset ((s.core c).nextSeq.lrDone_clear hclear _ x).rob⟩

theorem exec_sc (val : BitVec 128) {ok : Bool} (halign : va.toNat % size = 0)
    (hok : ((s.core c).pipe.resv == some (va.toNat / 64) && (s.core c).owns (va.toNat / 64)) = ok) (hsnp : (s.core c).pipe.snpQ = []) :
    RunsTo (exec (.sc c va size val rd aq rl) s) fun t =>
      s.SetsCore t c ((s.core c).nextSeq.scDone ((s.core c).issued (scAcc va size val rd aq rl)).acc ok).afterIssue := by
  have hcore : (s.issuing c).core c = (s.core c).nextSeq := State.core_setCore_same ..
  have hclear := (Core.quiet.clear hk).nextSeq
  have hset := State.doSc_setsCore (s := s.issuing c) (c := c) (w := (s.core c).issued (scAcc va size val rd aq rl)) (ok := ok)
    (Core.issued_inLine hdram.1 hdram.2.1) (by rw [hcore]; exact hok) (by rw [hcore]; exact hsnp)
  rw [hcore] at hset
  have hmis : misaligned (scAcc va size val rd aq rl) = none := if_pos halign
  exact ⟨_, State.guarded_legal hk.1.1 (·.issue c (scAcc va size val rd aq rl) false), State.issue_setsCore hk AccKind.noConfusion hmis hdram
    rfl hset ((s.core c).nextSeq.scDone_clear hclear _ ok).rob⟩

end

/-- Settles O5: each operation is one access that the caches perform on a line they own; the end of a hold answers what it deferred and
defers nothing more. -/
theorem atomicsAndReservations : Obligations.AtomicsAndReservations := by
  unfold Obligations.AtomicsAndReservations
  refine ⟨?amo, ?lr, ?sc, ?scFails, ?expiry⟩
  case amo =>
    intro s c va size op val cmp rd aq rl x hk hdram hfits hx hu hpz
    obtain ⟨t, hexec, hset⟩ := exec_amo_owned (rd := rd) aq rl hk hdram op val cmp hfits hx hu hpz
    obtain ⟨hsame, hother⟩ := Pipe.written_find2 (p := (s.core c).nextSeq.pipe)
      (a := ((s.core c).issued (amoAcc va size op val cmp rd aq rl)).acc) hx
      (amoResult op size (lineBytes x.data (va.toNat % 64) size) val.toNat cmp.toNat)
    have hpipe : ((s.core c).nextSeq.amoDone ((s.core c).issued (amoAcc va size op val cmp rd aq rl)).acc x).pipe =
      (s.core c).nextSeq.pipe.written ((s.core c).issued (amoAcc va size op val cmp rd aq rl)).acc
        (amoResult op size (lineBytes x.data (va.toNat % 64) size) val.toNat cmp.toNat) := Core.deliverAcc_pipe ..
    refine ⟨t, hexec, hset.onlyRegs ?_, ?_, fun l hl => ?_⟩
    · exact Core.deliverAcc_afterIssue rfl rfl rfl rfl _
    · rw [hset.core]
      exact (congrArg (fun p => Pipe.find2 p _) hpipe).trans hsame
    · rw [hset.core]
      exact (congrArg (fun p => Pipe.find2 p _) hpipe).trans (hother l hl)
  case lr =>
    intro s c va size rd aq rl x hk hdram halign hx hu hpz hsnp
    obtain ⟨t, hexec, hset⟩ := exec_lr_owned (rd := rd) aq rl hk hdram halign hx hu hpz hsnp
    have hpipe : ((s.core c).nextSeq.lrDone ((s.core c).issued (lrAcc va size rd aq rl)).acc x).pipe =
      { (s.core c).nextSeq.pipe.touch (va.toNat / 64) with resv := some (va.toNat / 64), hold := some (va.toNat / 64), snpQ := [] } :=
      Core.deliverAcc_pipe ..
    refine ⟨t, hexec, hset.onlyRegs ?_, ?_, ?_, fun l => ?_⟩
    · exact Core.deliverAcc_afterIssue rfl rfl rfl rfl _
    · rw [hset.core]
      exact congrArg Pipe.resv hpipe
    · rw [hset.core]
      exact congrArg Pipe.hold hpipe
    · rw [hset.core]
      exact (congrArg (fun p => Pipe.find2 p _) hpipe).trans (Pipe.find2_touch _ _ l)
  case sc =>
    intro s c va size val rd aq rl x hk hdram halign hx hu hresv hsnp
    obtain ⟨t, hexec, hset⟩ := exec_sc (rd := rd) aq rl hk hdram val halign (ok := true) (by simp [hresv, Core.owns_unique hx hu]) hsnp
    obtain ⟨hsame, hother⟩ := Pipe.written_find2 (p := (s.core c).nextSeq.pipe)
      (a := ((s.core c).issued (scAcc va size val rd aq rl)).acc) hx val.toNat
    refine ⟨t, hexec, hset.onlyRegs ?_, ?_, fun l hl => ?_, ?_, ?_⟩
    · exact Core.scDone_afterIssue _ rfl _
    · rw [hset.core]
      exact hsame
    · rw [hset.core]
      exact hother l hl
    · rw [hset.core]
      rfl
    · rw [hset.core]
      rfl
  case scFails =>
    intro s c va size val rd aq rl hk hdram halign hresv hsnp
    obtain ⟨t, hexec, hset⟩ := exec_sc (rd := rd) aq rl hk hdram val halign (ok := false) (by simp [hresv]) hsnp
    refine ⟨t, hexec, hset.onlyRegs ?_, ?_, ?_, ?_⟩
    · exact Core.scDone_afterIssue _ rfl _
    · rw [hset.core]
      rfl
    · rw [hset.core]
      rfl
    · rw [hset.core]
      rfl
  case expiry =>
    intro s c
    obtain ⟨hhold, hsnpq⟩ := s.releaseHold_ends c
    refine ⟨_, rfl, hhold, hsnpq, fun hsnp => ?_⟩
    have hset := State.releaseHold_setsCore (u := s) ⟨rfl, fun _ _ => rfl, rfl⟩ hsnp
    refine ⟨?_, ?_, ?_, hset.onlyCore⟩
    · rw [hset.core]
    · rw [hset.core]
    · rw [hset.core]

end Sys2Proof.Machine
end

section
/-! PROOF. Cache-block operations and prefetches send their request to the line's home (O7). -/

namespace Sys2Proof.Machine

/-! ## The route from a stud to the home of a line of its frame (R16, R17, R21) -/

theorem frameCount_quads (mode : Nat) : 4 / frameCount mode ∈ [4, 2, 1, 0] := by
  unfold frameCount
  rcases Nat.lt_or_ge (mode / 4) 3 with h | h
  · interval_cases mode / 4 <;> decide
  · have : 2 ^ 3 ≤ 2 ^ (mode / 4) := Nat.pow_le_pow_right (by decide) h
    rw [Nat.div_eq_of_lt (by omega)]
    decide

/-- A frame with a stud has 12, 6 or 3 of them. -/
theorem studsOf_length {mode f n : Nat} (hn : n < 12) (hf : frameOfStud mode n = f) : (studsOf mode f).length ∈ [12, 6, 3] := by
  have hall : ∀ d ∈ [4, 2, 1, 0], ∀ n < 12, ((List.range 12).filter (fun m => m / 3 / d == n / 3 / d)).length ∈ [12, 6, 3] := by decide
  rw [← hf]
  exact hall _ (frameCount_quads mode) n hn

theorem bayIndex_lt {B : Nat} (hB : B ∈ [12, 6, 3]) (pa : Nat) : bayIndex B pa < B := by
  have hbits : ∀ hi lo, hi = lo + 1 → bits pa hi lo < 2 ^ 2 := fun hi lo h => by
    rw [bits, show hi + 1 - lo = 2 by omega]
    exact Nat.mod_lt _ (by decide)
  have hq : ∀ a b c d e : Nat, a < 2 ^ 2 → b < 2 ^ 2 → c < 2 ^ 2 → d < 2 ^ 2 → e < 2 ^ 2 → a ^^^ b ^^^ c ^^^ d ^^^ e < 2 ^ 2 :=
    fun a b c d e ha hb hc hd he =>
      Nat.xor_lt_two_pow (Nat.xor_lt_two_pow (Nat.xor_lt_two_pow (Nat.xor_lt_two_pow ha hb) hc) hd) he
  have hx := hq _ _ _ _ _ (hbits 7 6 rfl) (hbits 15 14 rfl) (hbits 23 22 rfl) (hbits 31 30 rfl) (hbits 39 38 rfl)
  unfold bayIndex
  dsimp only
  generalize bits pa 7 6 ^^^ bits pa 15 14 ^^^ bits pa 23 22 ^^^ bits pa 31 30 ^^^ bits pa 39 38 = q at hx
  simp only [List.mem_cons, List.not_mem_nil, or_false] at hB
  rcases hB with rfl | rfl | rfl
  · rw [if_pos rfl]
    omega
  · rw [if_neg (by decide), if_pos rfl]
    omega
  · rw [if_neg (by decide), if_neg (by decide)]
    omega

/-- The home bay of an address of a frame with a stud is a bay of the frame. -/
theorem homeBay_frame {mode f n : Nat} (hn : n < 12) (hf : frameOfStud mode n = f) (la : Nat) :
    homeBay mode f la < 12 ∧ frameOfStud mode (homeBay mode f la) = f := by
  have hlt := bayIndex_lt (studsOf_length hn hf) la
  have hmem : homeBay mode f la ∈ studsOf mode f := by
    unfold homeBay
    dsimp only
    rw [List.getD_eq_getElem _ _ hlt]
    exact List.getElem_mem hlt
  simpa [studsOf] using hmem

theorem State.frameOfStop_bay (s : State) {n : Nat} (hn : n < 12) : s.frameOfStop (bayStop n) = s.frameOfStud n := by
  have hquad : ∀ n < 12, (if (bayStop n).1 < 3 then 0 else 2) + (if (bayStop n).2 < 2 then 0 else 1) = n / 3 := by decide
  rw [State.frameOfStop, hquad n hn]
  rfl

/-- An address below the DRAM of other regions is at home at a bay of the frame, if anywhere. -/
theorem State.target_bay {s : State} {f pa ag pkg n : Nat} (hpa : pa < 2 ^ 43) (hn : n < 12) (hf : s.frameOfStud n = f)
    (h : s.target f pa = some (ag, pkg)) : ∃ b, ag = 16 + b ∧ b < 12 ∧ s.frameOfStud b = f := by
  have hbay : ∀ la, ∃ b, 16 + homeBay s.mode f la = 16 + b ∧ b < 12 ∧ s.frameOfStud b = f := fun la =>
    ⟨_, rfl, homeBay_frame hn hf la⟩
  have hregion : ∀ b o, s.region f pa ≠ .bench b o ∧ s.region f pa ≠ .cxl b o := fun b o => by
    unfold State.region
    dsimp only
    rw [if_pos hpa]
    split_ifs <;> exact ⟨Region.noConfusion, Region.noConfusion⟩
  unfold State.target at h
  split at h
  · obtain ⟨rfl, -⟩ := Prod.mk.inj (Option.some.inj h)
    exact hbay _
  · obtain ⟨rfl, -⟩ := Prod.mk.inj (Option.some.inj h)
    exact hbay _
  · next b o hr => exact absurd hr (hregion b o).1
  · next b o hr => exact absurd hr (hregion b o).2
  · exact absurd h (by simp)

/-- A request of core c of a line below the other regions goes over the tenon link of its stud (R11). -/
theorem State.route_request {s : State} {c pa ag : Nat} (hc : c < 384) (hpa : pa < 2 ^ 43)
    (htgt : s.target (s.frameOfCore c) pa = some (ag, s.ownPkg)) (hst : (s.tenon (c / 32)).st ≠ 3) {m : Msg} {slot line : Nat} {na : Bool}
    (hhdr : m.hdr = s.reqHdr c slot line ag s.ownPkg na) (hin : m.inP = none) (hout : m.outP = none) (f : Nat) :
    s.route f m = { s with net := s.net ++ [{ m with loc := .src }] } := by
  have hstud : c / 32 < 12 := by omega
  obtain ⟨b, rfl, hb, hframe⟩ := State.target_bay hpa hstud rfl htgt
  have hroute : s.routed m = true := by
    have hsrc : agentStop (c / 32) = bayStop (c / 32) := if_pos hstud
    have hdst : agentStop (16 + b) = bayStop b := by
      rw [agentStop, if_neg (by omega), if_pos (by omega), Nat.add_sub_cancel_left]
    simp only [State.routed, srcStopOf, dstStopOf, hhdr, hin, hout, State.reqHdr, hsrc, hdst, State.frameOfStop_bay _ hstud,
      State.frameOfStop_bay _ hb, hframe]
    rw [if_neg (by omega), if_neg (by omega)]
    exact beq_self_eq_true _
  have hsent : s.sent m = { m with loc := .src } := by
    have hfrom : s.fromStud m = true := by
      simp only [State.fromStud, hhdr, hin, State.reqHdr, hstud, Option.isNone_none, beq_self_eq_true, decide_true, Bool.and_self]
    rw [State.sent, if_pos ⟨hfrom, by rw [hhdr]; exact hst⟩]
  rw [State.route, if_pos (by rw [hhdr]; rfl), State.send, if_pos hroute, hsent, State.putMsg, if_neg Loc.noConfusion]

/-! ## A core that sends a request -/

/-- Of the state before, core c alone has changed, it is k now, and message m has been sent. -/
structure State.Sends (s t : State) (c : Nat) (k : Core) (m : Msg) : Prop where
  core : t.core c = k
  others : ∀ d, d ≠ c → t.core d = s.core d
  beside : t = { s with cores := t.cores, net := s.net ++ [m] }

theorem State.Sends.setCore {s t : State} {c : Nat} {k : Core} {m : Msg} (h : s.Sends t c k m) (l : Core) :
    s.Sends (t.setCore c l) c l m :=
  ⟨State.core_setCore_same .., fun d hd => (State.core_setCore_ne _ _ _ _ hd).trans (h.others d hd), by rw [h.beside]; rfl⟩

theorem State.SetsCore.sends {s t u : State} {c : Nat} {k l : Core} {m : Msg} (h : s.SetsCore t c k) (h' : t.Sends u c l m) :
    s.Sends u c l m :=
  ⟨h'.core, fun d hd => (h'.others d hd).trans (h.others d hd), by rw [h'.beside, h.beside]⟩

theorem State.Sends.onlySends {s t : State} {c : Nat} {k : Core} {m : Msg} (h : s.Sends t c k m) : s.onlySends t c m :=
  ⟨h.others, by rw [h.beside]⟩

/-- A slot with the home that its request went to, and the IDs it is charged to. -/
def Core.asked (k : Core) (sl : Slot) (ag pkg : Nat) : Slot := { sl with dst := ag, dpkg := pkg, rcid := k.rcid, mcid := k.mcid }

/-- Core k once slot i waits for its line's home. -/
def Core.asking (k : Core) (i : Nat) (sl : Slot) (ag pkg : Nat) : Core := { k with pipe := k.pipe.setSlot i (k.asked sl ag pkg) }

/-- The request of slot i of core c of a line at home at agent ag. -/
def State.askMsg (s : State) (c i : Nat) (sl : Slot) (ag : Nat) : Msg :=
  let a := (sl.merged.head?.map (·.acc)).getD {}
  { op := sl.op, hdr := s.reqHdr c i sl.line ag s.ownPkg sl.nonalloc, amo := a.aop, size := a.size, off := a.pa % 64, loc := .src }

theorem State.request_sends {s : State} {c ag i : Nat} {sl : Slot} (hc : c < 384) (hpa : sl.line * 64 < 2 ^ 43)
    (htgt : s.target (s.frameOfCore c) (sl.line * 64) = some (ag, s.ownPkg)) (hst : (s.tenon (c / 32)).st ≠ 3) :
    s.Sends (s.request c i sl) c
      { s.core c with pipe := (s.core c).pipe.setSlot i ((s.core c).asked sl ag s.ownPkg) } (s.askMsg c i sl ag) := by
  have hids : (s.setCore c { s.core c with pipe := (s.core c).pipe.setSlot i ((s.core c).asked sl ag s.ownPkg) }).reqHdr c i sl.line ag
      s.ownPkg sl.nonalloc = s.reqHdr c i sl.line ag s.ownPkg sl.nonalloc := by
    unfold State.reqHdr
    rw [State.core_setCore_same]
    rfl
  have hroute := State.route_request (s := s.setCore c { s.core c with
      pipe := (s.core c).pipe.setSlot i ((s.core c).asked sl ag s.ownPkg) }) (m := { s.askMsg c i sl ag with loc := .end_ }) hc hpa htgt hst
    (slot := i) (line := sl.line) (na := sl.nonalloc) hids.symm rfl rfl (s.frameOfCore c)
  have hreq : s.request c i sl = { s.setCore c { s.core c with pipe := (s.core c).pipe.setSlot i ((s.core c).asked sl ag s.ownPkg) } with
      net := s.net ++ [s.askMsg c i sl ag] } := by
    refine Eq.trans ?_ hroute
    simp only [State.request, htgt]
    rw [← Core.asked, hids]
    rfl
  rw [hreq]
  exact ⟨State.core_setCore_same .., fun d hd => State.core_setCore_ne s c d _ hd, rfl⟩

/-- What a quiet hart in M-mode issues on DRAM, other than a load, where performing it sends a request. -/
theorem State.issue_sends {s t : State} {c : Nat} {a : Acc} {k : Core} {m : Msg} (hk : (s.core c).quiet) (hload : a.kind ≠ .load)
    (hmis : misaligned a = none) (hdram : s.inDram c a.va.toNat a.size)
    (ht : (s.issuing c).performCached c ((s.core c).issued a) = some t) (hset : (s.issuing c).Sends t c k m) (hrob : k.pipe.rob = []) :
    s.Sends (s.issue c a false) c k.afterIssue m := by
  rw [State.issue_cached hk hload hmis hdram ht (by rw [hset.core, hrob]), hset.core]
  exact ((s.setsCore_setCore c _).sends hset).setCore _

theorem Pipe.Clear.takes {p : Pipe} (h : p.Clear) (kind : SlotKind) : p.takeSlot kind = some (slotRange kind).1 := by
  rw [Pipe.takeSlot, h.slots]
  cases kind <;> rfl

theorem Pipe.Clear.wbOf {p : Pipe} (h : p.Clear) (line : Nat) : p.wbOf line = none := by simp [Pipe.wbOf, h.slots]

theorem Pipe.Clear.missOf {p : Pipe} (h : p.Clear) (line : Nat) : p.missOf line = none := by simp [Pipe.missOf, h.slots]

theorem Pipe.Clear.setSlot {p : Pipe} (h : p.Clear) (i : Nat) (sl : Slot) : (p.setSlot i sl).slots = [(i, sl)] := by
  simp [Pipe.setSlot, h.slots, Tab.set, Tab.erase, Tab.insertAt]

theorem Core.envLegal_machine {k : Core} (h : k.regs.priv = 3) (on : Nat → Bool) : k.envLegal on = 0 := if_pos h

/-! ## Lines discarded and zeroed (R71) -/

theorem Pipe.find2_drop2 (p : Pipe) (line : Nat) : (p.drop2 line).find2 line = none := by
  change (p.putSet2 line _).find2 line = none
  rw [Pipe.find2_putSet2, if_pos rfl, List.find?_filter, List.find?_eq_none]
  intro e _
  by_cases h : e.line = line <;> simp [h]

/-- A line leaves the L2 of a hart with nothing outstanding: no bound load is replayed. -/
theorem Core.dropLine_pipe {k : Core} (h : k.pipe.Clear) (line : Nat) :
    ∃ r, (k.dropLine line).pipe = { k.pipe.drop2 line with resv := r } ∧ (k.dropLine line).regs = k.regs := by
  have hreplay : (k.pipe.drop2 line).replay line = k.pipe.drop2 line := by
    have hrob : (k.pipe.drop2 line).rob = [] := h.rob
    simp [Pipe.replay, Pipe.overtaken, hrob]
  unfold Core.dropLine
  rw [hreplay, Core.loseLine]
  split
  · exact ⟨none, Core.loseResv_pipe _, Core.loseResv_regs _⟩
  · exact ⟨_, rfl, rfl⟩

theorem Pipe.Clear.drop2 {p : Pipe} (h : p.Clear) (line : Nat) (r : Option Nat) : ({ p.drop2 line with resv := r } : Pipe).Clear :=
  ⟨h.waits, h.slots, h.fence, h.poison, h.rob, h.stall, h.storeQ⟩

/-- A line as cbo.zero leaves it. -/
def L2Line.zeroed (x : L2Line) : L2Line := { x with data := 0, st := .m, poison := false }

/-- The pipe of a core that has zeroed a line of its L2. -/
def Pipe.zeroed (p : Pipe) (line : Nat) : Pipe :=
  ({ p.upd2 line L2Line.zeroed with
    l2bad := Tab.erase p.l2bad line, l1bad := p.l1bad.filter (· != line) } : Pipe).touch line

theorem Pipe.zeroed_find2 {p : Pipe} {line : Nat} {x : L2Line} (h : p.find2 line = some x) :
    (p.zeroed line).find2 line = some x.zeroed ∧
      ∀ l, l ≠ line → (p.zeroed line).find2 l = p.find2 l := by
  have hfind : ∀ l, (p.zeroed line).find2 l = (p.upd2 line L2Line.zeroed).find2 l :=
    fun l => Pipe.find2_touch _ line l
  have hline : ∀ e : L2Line, e.zeroed.line = e.line := fun _ => rfl
  constructor
  · rw [hfind, Pipe.find2_upd2 _ _ hline, if_pos rfl, h, Option.map_some]
  · intro l hl
    rw [hfind, Pipe.find2_upd2 _ _ hline, if_neg hl]

theorem Pipe.Clear.zeroed {p : Pipe} (h : p.Clear) (line : Nat) : (p.zeroed line).Clear := by
  refine Pipe.Clear.touch ?_ line
  exact ⟨h.waits, h.slots, h.fence, h.poison, h.rob, h.stall, h.storeQ⟩

/-! ## Operations performed (R71, R73, R148) -/

/-- The slot in which a cache-block operation, a cbo.zero and a prefetch wait for the home of their line. -/
def Wait.cboSlot (w : Wait) (op : MsgOp) : Slot := { kind := .cbo, line := w.acc.pa / 64, op := op, merged := [w] }
def Wait.zeroSlot (w : Wait) : Slot :=
  { line := w.acc.pa / 64, op := .cboZero, merged := [w], uniq := true, zero := true, lru := ntlHead w.ntl, nonalloc := w.ntl == some .all }
def Wait.prefSlot (w : Wait) : Slot :=
  { line := w.acc.pa / 64, op := if w.acc.kind == .prefW then .rdU else .rdS, lru := ntlHead w.ntl, nonalloc := w.ntl == some .all,
    uniq := w.acc.kind == .prefW }

section
variable {s : State} {c : Nat} {w : Wait} (hclear : (s.core c).pipe.Clear) (hdram : isRidgeLine (w.acc.pa / 64) = false)
include hclear hdram

theorem State.doCbo_sends {op : MsgOp} (hop : w.acc.kind = .cboClean ∧ op = .cboClean ∨ w.acc.kind = .cboFlush ∧ op = .cboFlush) :
    s.doCbo c w = some (s.request c 112 (w.cboSlot op)) := by
  rcases hop with ⟨hk, rfl⟩ | ⟨hk, rfl⟩ <;>
    simp [State.doCbo, hclear.wbOf, hdram, hclear.takes, hk, slotRange, Wait.cboSlot]

theorem State.doCbo_invals (hk : w.acc.kind = .cboInval) :
    s.doCbo c w = some ((s.setCore c ((s.core c).dropLine (w.acc.pa / 64))).request c 112 (w.cboSlot .cboInval)) := by
  simp [State.doCbo, hclear.wbOf, hdram, hclear.takes, hk, slotRange, Wait.cboSlot]

theorem State.doZero_asks (hx : (s.core c).pipe.find2 (w.acc.pa / 64) = none) :
    s.doZero c w = some (s.request c 0 w.zeroSlot) := by
  have howns : (s.core c).owns (w.acc.pa / 64) = false := by simp [Core.owns, hx]
  simp [State.doZero, howns, hclear.wbOf, hdram, hclear.takes, hx, slotRange, Wait.zeroSlot]

theorem State.doPref_asks (hx : (s.core c).pipe.find2 (w.acc.pa / 64) = none) (hl1 : w.acc.l1 = false)
    (hregion : (s.region (s.frameOfCore c) (w.acc.pa / 64 * 64)).isDram = true) :
    s.doPref c w = some (s.request c 0 w.prefSlot) := by
  obtain ⟨la, hla⟩ := Region.dram_of_isDram hregion
  have hflash : s.flashFill c (w.acc.pa / 64) (ntlHead w.ntl) = s := by simp [State.flashFill, hla]
  simp [State.doPref, hflash, hx, hclear.missesUsed, hla, hl1, State.startMiss, hclear.missOf, hclear.wbOf, State.openMiss, hclear.takes,
    slotRange, hdram, Wait.prefSlot]

end

theorem State.doZero_owned {s : State} {c : Nat} {w : Wait} {x : L2Line} (hdram : isRidgeLine (w.acc.pa / 64) = false)
    (hx : (s.core c).pipe.find2 (w.acc.pa / 64) = some x) (hu : x.st.unique = true)
    (hf : w.filled = false) :
    s.doZero c w = some (s.setCore c { s.core c with pipe := (s.core c).pipe.zeroed (w.acc.pa / 64) }) := by
  simp only [State.doZero, Core.owns_unique hx hu, hdram, hf, if_true, Bool.false_eq_true, if_false]
  rfl

/-! ## The clauses -/

theorem Core.asking_slots {k : Core} (h : k.pipe.Clear) (i : Nat) (sl : Slot) (ag pkg : Nat) :
    (k.asking i sl ag pkg).afterIssue.pipe.slots = [(i, k.asked sl ag pkg)] := h.setSlot i _

theorem State.askMsg_regs {s u : State} {c : Nat} (hr : (u.core c).regs = (s.core c).regs) (hp : u.ownPkg = s.ownPkg) (i : Nat) (sl : Slot)
    (ag : Nat) : u.askMsg c i sl ag = s.askMsg c i sl ag := by
  simp only [State.askMsg, State.reqHdr, Core.rcid, Core.mcid, Core.csr, hr, hp]

/-- An access of a quiet hart in M-mode that comes to a request to the home of its line, perhaps once the core's own copy has gone. -/
theorem State.issue_asks {s u : State} {c : CoreId} {a : Acc} {i ag : Nat} {sl : Slot} {k : Core} (hk : (s.core c).quiet)
    (hload : a.kind ≠ .load) (hmis : misaligned a = none) (hdram : s.inDram c a.va.toNat a.size) (hline : sl.line = a.va.toNat / 64)
    (htgt : s.target (s.frameOfCore c) (a.va.toNat / 64 * 64) = some (ag, s.ownPkg)) (hst : (s.tenon (c.val / 32)).st ≠ 3)
    (hset : (s.issuing c).SetsCore u c k) (hclear : k.pipe.Clear) (hregs : k.regs = (s.core c).regs)
    (ht : (s.issuing c).performCached c ((s.core c).issued a) = some (u.request c i sl)) :
    s.Sends (s.issue c a false) c (k.asking i sl ag s.ownPkg).afterIssue (s.askMsg c i sl ag) := by
  have hpa : sl.line * 64 < 2 ^ 43 := by
    have := State.region_dram_lt hdram.2.2.1
    omega
  have hown : u.ownPkg = s.ownPkg := by rw [hset.beside]; rfl
  have hsends := State.request_sends (s := u) (ag := ag) (i := i) (sl := sl) c.isLt hpa (by rw [hset.beside, hline]; exact htgt)
    (by rw [hset.beside]; exact hst)
  rw [hset.core, hown, State.askMsg_regs (s := s) (by rw [hset.core, hregs]) hown] at hsends
  exact State.issue_sends hk hload hmis hdram ht (hset.sends hsends) hclear.rob

theorem State.issuing_setsCore (s : State) (c : Nat) : (s.issuing c).SetsCore (s.issuing c) c (s.core c).nextSeq :=
  ⟨State.core_setCore_same .., fun _ _ => rfl, rfl⟩

section
variable {s : State} {c : CoreId} {va : Word} (hk : (s.core c).quiet) (hdram : s.inDram c va.toNat 1)
include hk hdram

variable {ag : Nat} (htgt : s.target (s.frameOfCore c) ((va.toNat / 64) * 64) = some (ag, s.ownPkg)) (hst : (s.tenon (c.val / 32)).st ≠ 3)
include htgt hst

/-- cbo.clean and cbo.flush go to the home of their line (R71). -/
theorem issue_cboOp {kind : AccKind} {op : MsgOp} (hop : kind = .cboClean ∧ op = .cboClean ∨ kind = .cboFlush ∧ op = .cboFlush) :
    s.Sends (s.issue c (cboAcc kind va) false) c
      ((s.core c).nextSeq.asking 112 (((s.core c).issued (cboAcc kind va)).cboSlot op) ag s.ownPkg).afterIssue
      (s.askMsg c 112 (((s.core c).issued (cboAcc kind va)).cboSlot op) ag) := by
  have hdo := State.doCbo_sends (w := (s.core c).issued (cboAcc kind va)) (op := op) (State.issuing_clear hk) (State.inDram_line hdram) hop
  refine State.issue_asks (a := cboAcc kind va) hk ?_ ?_ hdram rfl htgt hst (s.issuing_setsCore c) (Core.quiet.clear hk).nextSeq rfl ?_
  · rcases hop with ⟨rfl, -⟩ | ⟨rfl, -⟩ <;> exact AccKind.noConfusion
  · rcases hop with ⟨rfl, -⟩ | ⟨rfl, -⟩ <;> rfl
  · rcases hop with ⟨rfl, -⟩ | ⟨rfl, -⟩ <;> exact hdo

theorem exec_cboOp {i : Instr} {kind : AccKind} {op : MsgOp}
    (hop : kind = .cboClean ∧ op = .cboClean ∨ kind = .cboFlush ∧ op = .cboFlush)
    (hexec : exec i s = .next (s.issue c (cboAcc kind va) false)) :
    RunsTo (exec i s) fun t =>
      s.onlySends t c { op := op, hdr := s.reqHdr c 112 (va.toNat / 64) ag s.ownPkg false, size := 1, off := va.toNat % 64, loc := .src } ∧
      (t.core c).pipe.slots.map (fun e => (e.1, e.2.kind, e.2.line)) = [(112, .cbo, va.toNat / 64)] ∧
      (t.core c).pipe.l2 = (s.core c).pipe.l2 ∧ (t.core c).regs = (s.core c).regs := by
  have hsends := issue_cboOp hk hdram htgt hst hop
  refine ⟨_, hexec, hsends.onlySends, ?_, ?_, ?_⟩
  · rw [hsends.core, Core.asking_slots (Core.quiet.clear hk).nextSeq]
    rfl
  · rw [hsends.core]
    rfl
  · rw [hsends.core]
    rfl

/-- cbo.inval takes the core's own copy away and goes to the home of its line (R71). -/
theorem issue_cboInval :
    s.Sends (s.issue c (cboAcc .cboInval va) false) c
      (((s.core c).nextSeq.dropLine (va.toNat / 64)).asking 112 (((s.core c).issued (cboAcc .cboInval va)).cboSlot .cboInval) ag
        s.ownPkg).afterIssue
      (s.askMsg c 112 (((s.core c).issued (cboAcc .cboInval va)).cboSlot .cboInval) ag) := by
  have hdo := State.doCbo_invals (w := (s.core c).issued (cboAcc .cboInval va)) (State.issuing_clear hk) (State.inDram_line hdram) rfl
  have hset := (s.issuing_setsCore c).setCore ((s.core c).nextSeq.dropLine (va.toNat / 64))
  rw [(s.issuing_setsCore c).core] at hdo
  obtain ⟨r, hpipe, hregs⟩ := Core.dropLine_pipe (Core.quiet.clear hk).nextSeq (va.toNat / 64)
  exact State.issue_asks (a := cboAcc .cboInval va) hk AccKind.noConfusion rfl hdram rfl htgt hst hset
    (by rw [hpipe]; exact (Core.quiet.clear hk).nextSeq.drop2 _ r) hregs hdo

/-- cbo.zero asks for a line that L2 does not hold, without its data (R71). -/
theorem issue_cboZero_asks (hx : (s.core c).pipe.find2 (va.toNat / 64) = none) :
    s.Sends (s.issue c (cboAcc .cboZero va) false) c
      ((s.core c).nextSeq.asking 0 ((s.core c).issued (cboAcc .cboZero va)).zeroSlot ag s.ownPkg).afterIssue
      (s.askMsg c 0 ((s.core c).issued (cboAcc .cboZero va)).zeroSlot ag) := by
  have hdo := State.doZero_asks (w := (s.core c).issued (cboAcc .cboZero va)) (State.issuing_clear hk) (State.inDram_line hdram)
    (by rw [(s.issuing_setsCore c).core]; exact hx)
  exact State.issue_asks (a := cboAcc .cboZero va) hk AccKind.noConfusion rfl hdram rfl htgt hst (s.issuing_setsCore c)
    (Core.quiet.clear hk).nextSeq rfl hdo

/-- A prefetch asks for a line of DRAM that L2 does not hold (R73). -/
theorem issue_prefetch_asks {kind : AccKind} (hkind : kind = .prefI ∨ kind = .prefR ∨ kind = .prefW)
    (hx : (s.core c).pipe.find2 (va.toNat / 64) = none)
    (hregion : (s.region (s.frameOfCore c) ((va.toNat / 64) * 64)).isDram = true) :
    s.Sends (s.issue c (cboAcc kind va) false) c
      ((s.core c).nextSeq.asking 0 ((s.core c).issued (cboAcc kind va)).prefSlot ag s.ownPkg).afterIssue
      (s.askMsg c 0 ((s.core c).issued (cboAcc kind va)).prefSlot ag) := by
  have hdo := State.doPref_asks (w := (s.core c).issued (cboAcc kind va)) (State.issuing_clear hk) (State.inDram_line hdram)
    (by rw [(s.issuing_setsCore c).core]; exact hx) rfl hregion
  refine State.issue_asks (a := cboAcc kind va) hk ?_ ?_ hdram rfl htgt hst (s.issuing_setsCore c) (Core.quiet.clear hk).nextSeq rfl ?_
  · rcases hkind with rfl | rfl | rfl <;> exact AccKind.noConfusion
  · rcases hkind with rfl | rfl | rfl <;> rfl
  · rcases hkind with rfl | rfl | rfl <;> exact hdo

end

/-- The access of a prefetch hint. -/
def prefAcc : PrefKind → AccKind
  | .i => .prefI
  | .r => .prefR
  | .w => .prefW

theorem exec_prefetchHint_issues {s : State} {c : CoreId} (hrun : (s.core c).run = .run) (kind : PrefKind) (va : Word) :
    exec (.prefetchHint c kind va) s = .next (s.issue c (cboAcc (prefAcc kind) va) false) := by
  cases kind with
  | i => exact State.guarded_legal hrun (fun s => s.issue c (cboAcc .prefI va) false)
  | r => exact State.guarded_legal hrun (fun s => s.issue c (cboAcc .prefR va) false)
  | w => exact State.guarded_legal hrun (fun s => s.issue c (cboAcc .prefW va) false)

/-- Settles O7: each operation is one access that the caches perform, in L2 or by a request over the stud's tenon link. -/
theorem cacheBlockOperationsAndHints : Obligations.CacheBlockOperationsAndHints := by
  unfold Obligations.CacheBlockOperationsAndHints
  refine ⟨?clean, ?flush, ?inval, ?zeroOwned, ?zeroAsks, ?prefetch, ?ntl⟩
  case clean =>
    intro s c va ag hk hdram htgt hst
    refine exec_cboOp hk hdram htgt hst (.inl ⟨rfl, rfl⟩) ?_
    change execCboCleanInsn c va s = _
    rw [execCboCleanInsn, Core.envLegal_machine hk.1.2.1, State.guarded_legal hk.1.1]
  case flush =>
    intro s c va ag hk hdram htgt hst
    refine exec_cboOp hk hdram htgt hst (.inr ⟨rfl, rfl⟩) ?_
    change execCboFlushInsn c va s = _
    rw [execCboFlushInsn, Core.envLegal_machine hk.1.2.1, State.guarded_legal hk.1.1]
  case inval =>
    intro s c va ag hk hdram htgt hst
    have hflushes : (s.core c).invalFlushes = false := by simp [Core.invalFlushes, hk.1.2.1]
    have hexec : exec (.cboInvalInsn c va) s = .next (s.issue c (cboAcc .cboInval va) false) := by
      change execCboInvalInsn c va s = _
      simp only [execCboInvalInsn, Core.envLegal_machine hk.1.2.1, State.guarded_legal hk.1.1, hflushes, Bool.false_eq_true, if_false]
    have hsends := issue_cboInval hk hdram htgt hst
    obtain ⟨r, hpipe, hregs⟩ := Core.dropLine_pipe (Core.quiet.clear hk).nextSeq (va.toNat / 64)
    have hclear : ((s.core c).nextSeq.dropLine (va.toNat / 64)).pipe.Clear := by
      rw [hpipe]
      exact (Core.quiet.clear hk).nextSeq.drop2 _ r
    refine ⟨_, hexec, hsends.onlySends, ?_, ?_, ?_⟩
    · rw [hsends.core, Core.asking_slots hclear]
      rfl
    · rw [hsends.core]
      change ((s.core c).nextSeq.dropLine (va.toNat / 64)).pipe.find2 _ = none
      rw [hpipe]
      exact Pipe.find2_drop2 _ _
    · rw [hsends.core]
      exact hregs
  case zeroOwned =>
    intro s c va x hk hdram hx hu
    have hexec : exec (.cboZeroInsn c va) s = .next (s.issue c (cboAcc .cboZero va) false) := by
      change execCboZeroInsn c va s = _
      rw [execCboZeroInsn, Core.envLegal_machine hk.1.2.1, State.guarded_legal hk.1.1]
    have hdo := State.doZero_owned (s := s.issuing c) (c := c) (w := (s.core c).issued (cboAcc .cboZero va)) (x := x)
      (State.inDram_line hdram) (by rw [(s.issuing_setsCore c).core]; exact hx) hu rfl
    rw [(s.issuing_setsCore c).core] at hdo
    have hset := State.issue_setsCore (a := cboAcc .cboZero va) hk AccKind.noConfusion rfl hdram hdo (State.setsCore_setCore ..)
      ((Core.quiet.clear hk).nextSeq.zeroed _).rob
    have hzeroed : ∀ l, ((s.issue c (cboAcc .cboZero va) false).core c).pipe.find2 l = ((s.core c).nextSeq.pipe.zeroed (va.toNat / 64)).find2 l := fun l => by
      rw [hset.core]
      rfl
    obtain ⟨hsame, hother⟩ := Pipe.zeroed_find2 hx
    obtain ⟨hsame, hother⟩ := Pipe.zeroed_find2 (p := (s.core c).nextSeq.pipe) hx
    exact ⟨_, hexec, (hzeroed _).trans hsame, fun l hl => (hzeroed l).trans (hother l hl), hset.onlyRegs rfl⟩
  case zeroAsks =>
    intro s c va ag hk hdram htgt hst hx
    have hexec : exec (.cboZeroInsn c va) s = .next (s.issue c (cboAcc .cboZero va) false) := by
      change execCboZeroInsn c va s = _
      rw [execCboZeroInsn, Core.envLegal_machine hk.1.2.1, State.guarded_legal hk.1.1]
    have hsends := issue_cboZero_asks hk hdram htgt hst hx
    refine ⟨_, hexec, hsends.onlySends, ?_, ?_, ?_⟩
    · rw [hsends.core, Core.asking_slots (Core.quiet.clear hk).nextSeq]
      rfl
    · rw [hsends.core]
      rfl
    · rw [hsends.core]
      rfl
  case prefetch =>
    intro s c va ag kind op hk hdram hregion htgt hst hx hop
    have hkind : prefAcc kind = .prefI ∨ prefAcc kind = .prefR ∨ prefAcc kind = .prefW := by cases kind <;> simp [prefAcc]
    have hop' : op = if prefAcc kind == .prefW then .rdU else .rdS := by
      rw [hop]
      cases kind <;> rfl
    have hsends := issue_prefetch_asks hk hdram htgt hst hkind hx hregion
    rw [hop']
    refine ⟨_, exec_prefetchHint_issues hk.1.1 kind va, hsends.onlySends, ?_, ?_, ?_⟩
    · rw [hsends.core, Core.asking_slots (Core.quiet.clear hk).nextSeq]
      rfl
    · rw [hsends.core]
      rfl
    · rw [hsends.core]
      rfl
  case ntl =>
    intro s c hint hrun
    exact State.guarded_legal hrun (fun s => s.setCore c { s.core c with pipe := { (s.core c).pipe with ntl := some hint } })

end Sys2Proof.Machine
end

section
/-! PROOF. A request that an idle home orders: what its arrival leaves of the state, and the stages of its one transaction
(R165, R167). -/

namespace Sys2Proof.Machine

/-! ## Tables -/

theorem Tab.erase_of_find {α : Type} {t : Map α} {k : Nat} (h : Tab.find t k = none) : Tab.erase t k = t := by
  induction t with
  | nil => rfl
  | cons e r ih =>
    obtain ⟨j, v⟩ := e
    by_cases hj : j = k
    · simp [Tab.find, hj] at h
    · simp only [Tab.find, if_neg hj] at h
      rw [Tab.erase, if_neg hj, ih h]

theorem Tab.erase_insertAt {α : Type} (t : Map α) (k : Nat) (v : α) : Tab.erase (Tab.insertAt t k v) k = Tab.erase t k := by
  induction t with
  | nil => simp [Tab.insertAt, Tab.erase]
  | cons e r ih =>
    obtain ⟨j, w⟩ := e
    by_cases hk : k < j
    · simp [Tab.insertAt, hk, Tab.erase]
    · simp [Tab.insertAt, hk, Tab.erase, ih]

theorem Tab.erase_set {α : Type} (t : Map α) (k : Nat) (v : α) : Tab.erase (Tab.set t k v) k = Tab.erase t k := by
  rw [Tab.set, Tab.erase_insertAt, Tab.erase_of_find (Tab.find_erase_same t k)]

theorem Tab.set_set {α : Type} (t : Map α) (k : Nat) (v w : α) : Tab.set (Tab.set t k v) k w = Tab.set t k w := by
  rw [Tab.set, Tab.erase_set, ← Tab.set]

/-- A search that no entry but the one at k answers finds what is set there. -/
theorem Tab.find?_set {α : Type} {t : Map α} {k : Nat} {v : α} {P : Nat × α → Bool} (hv : P (k, v) = true)
    (h : ∀ e ∈ t, P e = true → e.1 = k) : (Tab.set t k v).find? P = some (k, v) := by
  have hmem : ∀ e, e ∈ Tab.set t k v ↔ e = (k, v) ∨ (e ∈ t ∧ e.1 ≠ k) := fun e => by
    rw [Tab.set, Tab.mem_insertAt, Tab.mem_erase]
  cases hf : (Tab.set t k v).find? P with
  | none => exact absurd hv (List.find?_eq_none.1 hf _ ((hmem _).2 (.inl rfl)))
  | some e =>
    rcases (hmem e).1 (List.mem_of_find?_eq_some hf) with rfl | ⟨he, hne⟩
    · rfl
    · exact absurd (h e he (List.find?_some hf)) hne

/-! ## What the fabric changes as it carries messages -/

/-- Beside the messages in flight, what waits at ports, and the pointers of the fabric, nothing has changed. -/
structure State.Carried (s t : State) : Prop where
  rest : t = { s with net := t.net, ports := t.ports, arb := t.arb }
  pers : ∀ p, (t.port p).pers = (s.port p).pers

theorem State.Carried.refl (s : State) : s.Carried s := ⟨rfl, fun _ => rfl⟩

theorem State.Carried.trans {s t u : State} (h : s.Carried t) (h' : t.Carried u) : s.Carried u where
  rest := by rw [h'.rest.trans (congrArg (fun x : State => { x with net := u.net, ports := u.ports, arb := u.arb }) h.rest)]
  pers p := (h'.pers p).trans (h.pers p)

theorem State.eject_carried (s : State) (m : Msg) : s.Carried (s.eject m) := by
  unfold State.eject
  split
  case h_1 p _ =>
    dsimp only
    split
    · refine ⟨rfl, fun q => ?_⟩
      by_cases hq : q = p
      · rw [hq, State.port_setPort_same]
      · rw [State.port_setPort_ne _ _ _ _ hq]
    · exact .refl s
  case h_2 => exact ⟨rfl, fun _ => rfl⟩

theorem State.hop_carried (s : State) (m : Msg) (a : Ask) : s.Carried (s.hop m a) := by
  have herase : s.Carried { s with net := s.net.erase m } := ⟨rfl, fun _ => rfl⟩
  unfold State.hop
  dsimp only
  split
  · exact herase.trans (State.eject_carried ..)
  · exact ⟨rfl, fun _ => rfl⟩

theorem State.meshCycle_carried (s : State) : s.Carried s.meshCycle := by
  unfold State.meshCycle
  dsimp only
  generalize (heads [] s.net).filter (fun e => s.hopCredit e.2) = asks
  refine List.foldlRecOn asks _ (State.Carried.refl s) fun t ht e _ => ?_
  refine ht.trans ?_
  split
  · have hhop := State.hop_carried t e.1 e.2
    split
    · exact hhop.trans ⟨rfl, fun _ => rfl⟩
    · exact hhop
  · exact .refl t

theorem State.meshRun_carried (P : Msg → Bool) (n : Nat) (s : State) : s.Carried (s.meshRun P n) := by
  induction n generalizing s with
  | zero => exact .refl s
  | succ k ih =>
    rw [State.meshRun]
    split
    · exact s.meshCycle_carried.trans (ih _)
    · exact .refl s

/-- A message that is taken keeps what it says, and its arrival changes what the fabric carries. -/
theorem State.arrive_carried {s : State} {m : Msg} (h : (s.arrive m).2.isSome = true) :
    s.Carried (s.arrive m).1 ∧ ∃ k, (s.arrive m).2 = some k ∧
      k.op = m.op ∧ k.hdr = m.hdr ∧ k.amo = m.amo ∧ k.size = m.size ∧ k.off = m.off := by
  revert h
  unfold State.arrive
  dsimp only
  split
  · exact fun h => absurd h Bool.noConfusion
  split
  · exact fun h => absurd h Bool.noConfusion
  split
  · split
    · exact fun _ => ⟨(State.meshRun_carried _ _ s).trans ⟨rfl, fun _ => rfl⟩, _, rfl, rfl, rfl, rfl, rfl, rfl⟩
    · exact fun h => absurd h Bool.noConfusion
  · exact fun _ => ⟨.refl s, m, rfl, rfl, rfl, rfl, rfl, rfl⟩

section
variable {s t : State} (hc : s.Carried t)
include hc

theorem State.Carried.home (k : Nat) : t.home k = s.home k := by
  rw [hc.rest]
  rfl

theorem State.Carried.frame (f : Nat) : t.frame f = s.frame f := by
  rw [hc.rest]
  rfl

theorem State.Carried.plumb : t.plumb = s.plumb := by rw [hc.rest]

theorem State.Carried.mode : t.mode = s.mode := by rw [State.mode, hc.plumb, State.mode]

theorem State.Carried.ownPkg : t.ownPkg = s.ownPkg := by rw [State.ownPkg, hc.plumb, hc.mode, State.ownPkg]

theorem State.Carried.frameOfStud (n : Nat) : t.frameOfStud n = s.frameOfStud n := by
  rw [State.frameOfStud, hc.mode, State.frameOfStud]

theorem State.Carried.frameOfPort (p : Nat) : t.frameOfPort p = s.frameOfPort p := by
  rw [State.frameOfPort, hc.mode, State.frameOfPort]

theorem State.Carried.region (f pa : Nat) : t.region f pa = s.region f pa := by
  simp only [State.region, hc.frame, hc.plumb, hc.frameOfStud, hc.frameOfPort, hc.pers]

theorem State.Carried.homeLine (h raw : Nat) : t.homeLine h raw = s.homeLine h raw := by
  simp only [State.homeLine, State.homeOf, State.frameOfHome, hc.region, hc.mode, hc.frameOfStud, hc.frameOfPort]

theorem State.Carried.arrayEn (h : Nat) : t.arrayEn h = s.arrayEn h := by
  rw [hc.rest]
  rfl

theorem State.Carried.linked (a b : Nat) : t.linked a b = s.linked a b := by
  rw [hc.rest]
  rfl

theorem State.Carried.dirFind (h line : Nat) : t.dirFind h line = s.dirFind h line := by
  simp only [State.dirFind, State.dirSetOf, hc.home, hc.mode, hc.frameOfStud]

theorem State.Carried.bayFind (h line : Nat) : t.bayFind h line = s.bayFind h line := by
  simp only [State.bayFind, State.baySetOf, hc.home, hc.mode, hc.frameOfStud]

theorem State.Carried.domainLive (a : Nat) : t.domainLive a = s.domainLive a := by
  rw [hc.rest]
  rfl

end

/-! ## A home that holds one transaction -/

/-- The home with one transaction, in entry 0. -/
def Home.holding (b : Home) (t : HTx) : Home := { b with txs := [(0, t)], order := [0] }

/-- The home with no transaction. -/
def Home.freed (b : Home) : Home := { b with txs := [], order := [] }

/-- The home that gives a request its place in its order, from the port before this pointer. -/
def Home.ordering (b : Home) (ptr : Nat) : Home := { b with ptr := ptr, seqNo := b.seqNo + 1 }

/-- The transaction of a request that home h orders. -/
def State.orderedTx (s : State) (h line : Nat) (op : MsgOp) (d : Hdr) (full : Bool) : HTx :=
  { op := op, line := line, raw := d.line, agent := d.reqAgent, pkg := d.reqPkg, tag := d.tag, rcid := d.rcid, mcid := d.mcid,
    nonalloc := d.nonalloc, en := s.arrayEn h, wt := (s.home h).wt, full := full, no := (s.home h).seqNo }

/-- A transaction that has become ACTIVE with nobody to snoop. -/
def HTx.started (t : HTx) : HTx := { t with st := .active, supply := true }

/-- A cache-block operation whose writes are on their way. -/
def HTx.waits (t : HTx) : HTx := { t with waitWr := true }

section
variable {s : State} {h : Nat} {b : Home} {t : HTx}

theorem State.setHome_setHome (s : State) (h : Nat) (b c : Home) : (s.setHome h b).setHome h c = s.setHome h c := by
  simp only [State.setHome, Tab.set_set]

theorem State.tx_holding : (s.setHome h (b.holding t)).tx h 0 = some t := by
  rw [State.tx, State.home_setHome_same]
  rfl

theorem State.setTx_holding (u : HTx) : (s.setHome h (b.holding t)).setTx h 0 u = s.setHome h (b.holding u) := by
  rw [State.setTx, State.home_setHome_same, State.setHome_setHome]
  rfl

theorem State.endTx_holding (hresv : b.resv = []) (hq : b.dirQ = []) :
    (s.setHome h (b.holding t)).endTx h 0 = s.setHome h b.freed := by
  have hhome : { b.holding t with
      txs := Tab.erase (b.holding t).txs 0, order := (b.holding t).order.filter (· != 0),
      resv := (b.holding t).resv.filter (fun r => r.2 != 0), dirQ := (b.holding t).dirQ.filter (· != 0) } = b.freed := by
    simp [Home.holding, Home.freed, hresv, hq, Tab.erase]
  rw [State.endTx, State.home_setHome_same, State.setHome_setHome, hhome]

theorem State.sendHeld_holding (hhold : t.hold = []) :
    (s.setHome h (b.holding t)).sendHeld h 0 = s.setHome h (b.holding t) := by
  have ht : { t with hold := [] } = t := by rw [← hhold]
  rw [State.sendHeld, State.tx_holding]
  simp only [hhold, List.foldl_nil, State.setTx_holding]
  rw [ht]

theorem State.dirFind_setHome (hdir : b.dir = (s.home h).dir) (line : Nat) : (s.setHome h b).dirFind h line = s.dirFind h line := by
  simp only [State.dirFind, State.home_setHome_same, hdir]
  rfl

theorem State.bayFind_setHome (hcache : b.cache = (s.home h).cache) (line : Nat) :
    (s.setHome h b).bayFind h line = s.bayFind h line := by
  simp only [State.bayFind, State.home_setHome_same, hcache]
  rfl

/-! ## Rounds (R167) -/

theorem State.stepAll_goes {x y : State} (horder : (x.home h).order = [0]) (hstep : x.stepTx h 0 = y)
    (hne : (y.home h).txs ≠ (x.home h).txs) (n : Nat) : x.stepAll h (n + 1) = y.stepAll h n := by
  rw [State.stepAll, horder]
  simp only [List.foldl_cons, List.foldl_nil, hstep, beq_iff_eq, if_neg hne]

theorem State.stepAll_rests {x y : State} (horder : (x.home h).order = [0]) (hstep : x.stepTx h 0 = y)
    (heq : (y.home h).txs = (x.home h).txs) (n : Nat) : x.stepAll h (n + 1) = y := by
  rw [State.stepAll, horder]
  simp only [List.foldl_cons, List.foldl_nil, hstep, beq_iff_eq, if_pos heq]

theorem State.stepAll_freed (n : Nat) : (s.setHome h b.freed).stepAll h n = s.setHome h b.freed := by
  cases n with
  | zero => rfl
  | succ n =>
    have horder : ((s.setHome h b.freed).home h).order = [] := by rw [State.home_setHome_same]; rfl
    rw [State.stepAll, horder]
    simp only [List.foldl_nil, beq_self_eq_true, if_true]

theorem State.holding_goes {r : State} {c : Home} {u : HTx} (hstep : (s.setHome h (b.holding t)).stepTx h 0 = r.setHome h (c.holding u))
    (hne : u ≠ t) (n : Nat) :
    (s.setHome h (b.holding t)).stepAll h (n + 1) = (r.setHome h (c.holding u)).stepAll h n := by
  refine State.stepAll_goes ?_ hstep ?_ n
  · rw [State.home_setHome_same]
    rfl
  · rw [State.home_setHome_same, State.home_setHome_same]
    exact fun h => hne (congrArg Prod.snd (List.head_eq_of_cons_eq h))

theorem State.holding_rests {r : State} {c : Home} (hstep : (s.setHome h (b.holding t)).stepTx h 0 = r.setHome h (c.holding t))
    (n : Nat) : (s.setHome h (b.holding t)).stepAll h (n + 1) = r.setHome h (c.holding t) := by
  refine State.stepAll_rests ?_ hstep ?_ n
  · rw [State.home_setHome_same]
    rfl
  · rw [State.home_setHome_same, State.home_setHome_same]
    rfl

theorem State.holding_ends {r : State} {c : Home} (hstep : (s.setHome h (b.holding t)).stepTx h 0 = r.setHome h c.freed)
    (n : Nat) : (s.setHome h (b.holding t)).stepAll h (n + 1) = r.setHome h c.freed := by
  rw [State.stepAll_goes (y := r.setHome h c.freed) ?_ hstep ?_ n, State.stepAll_freed]
  · rw [State.home_setHome_same]
    rfl
  · rw [State.home_setHome_same, State.home_setHome_same]
    exact List.cons_ne_nil _ _ ∘ Eq.symm

/-- A home in which one transaction goes on, and no request waits. -/
theorem State.homeRun_holding {r : State} {c : Home} (hhold : t.hold = [])
    (hsteps : (s.setHome h (b.holding t)).stepAll h 10 = r.setHome h c) (hwait : c.waitReq = []) (hwork : c.work = none) :
    (s.setHome h (b.holding t)).homeRun h = r.setHome h c := by
  have horder : ((s.setHome h (b.holding t)).home h).order = [0] := by rw [State.home_setHome_same]; rfl
  have hrounds : (s.setHome h (b.holding t)).rounds h = 10 := by rw [State.rounds, State.home_setHome_same]; rfl
  have hwait' : ((r.setHome h c).home h).waitReq = [] := by rw [State.home_setHome_same, hwait]
  have hwork' : ((r.setHome h c).home h).work = none := by rw [State.home_setHome_same, hwork]
  rw [State.homeRun, horder]
  simp only [List.foldl_cons, List.foldl_nil, State.sendHeld_holding hhold, hrounds, hsteps, hwait', List.length_nil,
    State.orderWaiting, State.workRun, hwork']

end

/-! ## Arrival and order (R165, R166) -/

theorem Tab.freeKey_nil {α : Type} {n : Nat} (hn : 0 < n) : Tab.freeKey ([] : Map α) 0 n = some 0 := by
  obtain ⟨m, rfl⟩ : ∃ m, n = m + 1 := ⟨n - 1, by omega⟩
  simp [Tab.freeKey, Tab.find, List.range_succ_eq_map]

theorem State.canOrder_idle {s : State} {h line : Nat} (hidle : s.idleHome h) (m : Msg) : s.canOrder h line m = true := by
  obtain ⟨htxs, -, -, hq, -, hbmrs, -, -⟩ := hidle
  have hroom : 0 < if h < 12 then 1024 else 256 := by split <;> decide
  simp [State.canOrder, htxs, hq, hbmrs, hroom]

theorem State.orderReq_idle {s : State} {h line : Nat} (hidle : s.idleHome h) {m : Msg} (hamo : m.amo = .swap) (hsize : m.size = 8)
    (hoff : m.off = 0) (herr : s.reqErr h line m.op = false) (port : Nat) :
    s.orderReq h line m port =
      s.setHome h (((s.home h).ordering ((port + 1) % 6)).holding (s.orderedTx h line m.op m.hdr (m.mask == BitVec.allOnes 64))) := by
  obtain ⟨htxs, horder, -⟩ := hidle
  have hroom : 0 < if h < 12 then 1024 else 256 := by split <;> decide
  have hpointed : ∀ b : Home, b = s.home h → ∀ ptr, (s.setHome h { b with ptr := ptr }).reqErr h line m.op = false ∧
      (s.setHome h { b with ptr := ptr }).arrayEn h = s.arrayEn h := fun b hb ptr => by
    subst hb
    constructor
    · rw [← herr]
      simp only [State.reqErr, State.home_setHome_same, State.dirFind_setHome]
      rfl
    · rw [State.arrayEn, State.home_setHome_same]
      rfl
  rw [State.orderReq, State.orderedTx]
  generalize s.home h = b at htxs horder hpointed ⊢
  obtain ⟨herr', hen⟩ := hpointed b rfl ((port + 1) % 6)
  simp only [herr', hen, Bool.false_eq_true, if_false]
  simp only [htxs, horder, hamo, hsize, hoff, Tab.freeKey_nil hroom, State.setHome_setHome]
  rfl

/-- A line of DRAM or of bench memory that bay h backs. -/
def State.backs (s : State) (h line : Nat) : Prop :=
  h < 12 ∧ (isBenchAddr (line * 64) = true → (s.home h).benchBusy = false ∧ line * 64 - benchBase h < (s.home h).bench * 0x400000)

theorem State.reqErr_backs {s : State} {h line : Nat} (hb : s.backs h line) (op : MsgOp) : s.reqErr h line op = false := by
  obtain ⟨hlt, hbench⟩ := hb
  unfold State.reqErr
  dsimp only
  rw [if_neg (by omega : ¬12 ≤ h)]
  split
  · rfl
  split
  case isFalse.isTrue hba => simpa using hbench hba
  case isFalse.isFalse => rfl

/-- A request for a line that a bay backs, which reaches it idle, is ordered at once. -/
theorem State.toHome_idle {s : State} {op : MsgOp} {d : Hdr} {h line : Nat} (hreach : s.reachesHome op d h) (hidle : s.idleHome h)
    (hline : s.homeLine h d.line = some line) (hback : s.backs h line) :
    ∃ ptr full, s.toHome { op := op, hdr := d } =
      ((s.arrived op d).setHome h ((((s.arrived op d).home h).ordering ptr).holding
        ((s.arrived op d).orderedTx h line op d full))).homeRun h := by
  obtain ⟨harr, hhome, hlive, -, hdst, -, -, hstop⟩ := hreach
  obtain ⟨hcar, k, hk, ⟨hop, hhdr, hamo, hsize, hoff⟩⟩ := State.arrive_carried harr
  have harrive : s.arrive { op := op, hdr := d } = (s.arrived op d, some k) := Prod.ext rfl hk
  change s.Carried (s.arrived op d) at hcar
  have hstop' : ((s.arrived op d).home h).stopped = false := by rw [hcar.home, hstop]
  have hlive' : (s.arrived op d).domainLive d.dst = true := (hcar.domainLive _).trans hlive
  have hdst' : d.dstPkg = (s.arrived op d).ownPkg := hdst.trans hcar.ownPkg.symm
  have hline' : (s.arrived op d).homeLine h d.line = some line := (hcar.homeLine ..).trans hline
  have herr' : (s.arrived op d).reqErr h line k.op = false :=
    State.reqErr_backs (by rw [State.backs, hcar.home]; exact hback) _
  have hidle' : (s.arrived op d).idleHome h := by
    rw [State.idleHome, hcar.home]
    exact hidle
  have hpass : ¬((!(s.arrived op d).domainLive d.dst) = true ∨ d.dstPkg ≠ (s.arrived op d).ownPkg ∨
      ((s.arrived op d).home h).stopped = true) := by
    rw [hlive', hstop', ← hdst']
    simp
  obtain ⟨-, -, hwait, -⟩ := id hidle'
  refine ⟨_, _, Eq.trans ?_ (congrArg (fun x => State.homeRun x h) ((State.orderReq_idle hidle' hamo hsize hoff herr'
    ((s.arrived op d).portOfMsg h k)).trans (by rw [hop, hhdr])))⟩
  rw [State.toHome, harrive]
  simp only [hhdr, hhome, if_neg hpass, hline', State.canOrder_idle hidle', hwait, List.any_nil, Bool.not_false, and_self, if_true]

end Sys2Proof.Machine
end

section
/-! PROOF. The transaction of a cache-block operation, and of the fill of a locked line, on a line that no cache holds
(R71, R72, R138, R139, R171). -/

namespace Sys2Proof.Machine

/-! ## Answers of a home (R162) -/

/-- GO_DONE for a transaction in entry 0 of home h, as its requester gets it. -/
def State.doneMsg (s : State) (h : Nat) (t : HTx) : Msg :=
  { op := .goDone, hdr := { src := agentOfHome h, dst := t.agent, srcPkg := s.ownPkg, dstPkg := t.pkg, tag := t.tag,
                            reqAgent := t.agent, reqPkg := t.pkg, htx := 0, line := t.raw, rcid := t.rcid, mcid := t.mcid } }

theorem State.route_goDone {s : State} {h f : Nat} {t : HTx} (hlt : h < 12) (hpkg : t.pkg = s.ownPkg)
    (hlinked : s.linked (agentOfHome h) t.agent = true) :
    s.route f (s.doneMsg h t) = { s with net := s.net ++ [entered (s.doneMsg h t)] } := by
  have hagent : agentOfHome h = 16 + h := if_pos hlt
  have hrouted : s.routed (s.doneMsg h t) = true := hlinked
  have hstud : ¬(s.fromStud (s.doneMsg h t) = true ∧ (s.tenon (s.doneMsg h t).hdr.src).st ≠ 3) := by
    simp [State.fromStud, State.doneMsg, hagent, show ¬16 + h < 12 by omega]
  have hput : s.putMsg (entered (s.doneMsg h t)) = { s with net := s.net ++ [entered (s.doneMsg h t)] } := by
    rw [State.putMsg]
    split <;> rfl
  rw [State.route, if_pos (by exact hpkg), State.send, if_pos hrouted, State.sent, if_neg hstud, hput]

section
variable {s : State} {h : Nat} {b : Home} {t : HTx}

/-! ## The stages of a transaction (R167, R171) -/

/-- A request for a line that no cache holds starts with nobody to snoop (R171). -/
theorem State.stepTx_starts (hop : t.op = .cboClean ∨ t.op = .cboFlush ∨ t.op = .cboInval ∨ t.op = .lockFill) (hst : t.st = .waiting)
    (hdir : b.dir = (s.home h).dir) (hfind : s.dirFind h t.line = none) :
    (s.setHome h (b.holding t)).stepTx h 0 = s.setHome h (b.holding t.started) := by
  have hfind' : (s.setHome h (b.holding t)).dirFind h t.line = none := (State.dirFind_setHome (b := b.holding t) hdir _).trans hfind
  have hstart : (s.setHome h (b.holding t)).startTx h 0 t = s.setHome h (b.holding t.started) := by
    unfold State.startTx
    rw [hfind', ← State.setTx_holding (t := t) t.started]
    rcases hop with hop | hop | hop | hop <;> simp only [hop, Option.map_none, HTx.started]
  rw [State.stepTx, State.tx_holding]
  simp only [hst, State.home_setHome_same, hfind', hstart]
  simp [Home.holding]

/-- A cache-block operation that waits for no response goes on with what it does at the bay. -/
theorem State.stepTx_cbo (hop : t.op = .cboClean ∨ t.op = .cboFlush ∨ t.op = .cboInval) (hst : t.st = .active) (hpend : t.pend = 0)
    (hsnp : t.snpData = 0) :
    (s.setHome h (b.holding t)).stepTx h 0 = (s.setHome h (b.holding t)).finishCbo h 0 t := by
  have hstore : (s.setHome h (b.holding t)).storeSnoop h 0 t = some (s.setHome h (b.holding t)) := by
    rw [State.storeSnoop, if_neg (by simp [hsnp])]
  rw [State.stepTx, State.tx_holding]
  rcases hop with hop | hop | hop <;>
    simp [hst, hstore, State.tx_holding, HTx.needsData, HTx.needsWay, hop, hpend, hsnp]

theorem State.finishCbo_bench (hbench : isBenchAddr (t.line * 64) = true) (hw : t.waitWr = false) :
    (s.setHome h (b.holding t)).finishCbo h 0 t = s.setHome h (b.holding t.waits) := by
  simp only [State.finishCbo, hw, hbench, true_or, or_true, if_true, Bool.false_eq_true, if_false]
  exact State.setTx_holding t.waits

/-- The write of the line has not entered the write queue (R72). -/
theorem State.finishCbo_waits (hw : t.waitWr = true) (hv : b.victims.any (fun v => v.line == t.line) = true) :
    (s.setHome h (b.holding t)).finishCbo h 0 t = s.setHome h (b.holding t) := by
  have hwritten : (s.setHome h (b.holding t)).written h t.line = false := by
    rw [State.written, State.home_setHome_same]
    exact congrArg not hv
  simp only [State.finishCbo, hw, hwritten, if_true, Bool.false_eq_true, if_false]

/-- Nothing of the line waits: the requester is answered and the transaction ends. -/
theorem State.finishCbo_ends (hw : t.waitWr = true) (hv : b.victims = []) (hresv : b.resv = []) (hq : b.dirQ = [])
    (hdir : b.dir = (s.home h).dir) (hfind : s.dirFind h t.line = none) (hlt : h < 12) (hpkg : t.pkg = s.ownPkg)
    (hlinked : s.linked (agentOfHome h) t.agent = true) :
    (s.setHome h (b.holding t)).finishCbo h 0 t = { s with net := s.net ++ [entered (s.doneMsg h t)] }.setHome h b.freed := by
  have hwritten : (s.setHome h (b.holding t)).written h t.line = true := by
    rw [State.written, State.home_setHome_same]
    simp [Home.holding, hv]
  have hfind' : (s.setHome h (b.holding t)).dirFind h t.line = none := (State.dirFind_setHome (b := b.holding t) hdir _).trans hfind
  have hreply : (s.setHome h (b.holding t)).reply h 0 t .goDone false false 0 =
      { s with net := s.net ++ [entered (s.doneMsg h t)] }.setHome h (b.holding t) := by
    have hroute := State.route_goDone (s := s.setHome h (b.holding t)) (f := (s.setHome h (b.holding t)).frameOfHome h) hlt hpkg hlinked
    rw [State.reply, State.homeHdr]
    simp only [homeData, Bool.and_false, Bool.false_eq_true, if_false]
    exact hroute
  simp only [State.finishCbo, State.oToS, State.clearDir, hw, hwritten, hfind', hreply, if_true, ite_self]
  exact State.endTx_holding hresv hq

/-! ## What the bay does (R71, R131, R139) -/

theorem State.wakeArray_setHome (k : Nat) : (s.setHome h b).wakeArray k = (s.wakeArray k).setHome h b := by
  by_cases hk : k < 12 ∧ Tab.get s.power.domState 0 (14 + k) = 5
  · simp only [State.wakeArray, State.power_setHome, hk, and_self, if_true]
    rfl
  · simp only [State.wakeArray, State.power_setHome, hk, if_false]

theorem State.wakeArray_wakeArray (s : State) (k : Nat) : (s.wakeArray k).wakeArray k = s.wakeArray k := by
  by_cases hk : k < 12 ∧ Tab.get s.power.domState 0 (14 + k) = 5
  · have hwoken : ¬(k < 12 ∧ Tab.get (s.wakeArray k).power.domState 0 (14 + k) = 5) := by
      rw [State.wakeArray, if_pos hk]
      simp
    rw [State.wakeArray, if_neg hwoken]
  · simp only [State.wakeArray, if_neg hk]

theorem State.wakeArray_home (s : State) (k j : Nat) : (s.wakeArray k).home j = s.home j := by
  unfold State.wakeArray
  split <;> rfl

theorem State.wakeArray_bayFind (s : State) (k line : Nat) : (s.wakeArray k).bayFind h line = s.bayFind h line := by
  unfold State.wakeArray
  split <;> rfl

theorem State.wakeArray_dirFind (s : State) (k line : Nat) : (s.wakeArray k).dirFind h line = s.dirFind h line := by
  unfold State.wakeArray
  split <;> rfl

/-- The home whose dirty line in way p has gone to the victim buffer, and stands clean. -/
def Home.cleaned (b : Home) (p : Nat) (e : BayLine) : Home :=
  { b with victims := [e.victim], cache := Tab.set b.cache p { e with dirty := false } }

/-- The home whose line in way p is gone. -/
def Home.dropped (b : Home) (p : Nat) : Home := { b with cache := Tab.erase b.cache p }

theorem Home.cleaned_holding (p : Nat) (e : BayLine) : (b.holding t).cleaned p e = (b.cleaned p e).holding t := rfl

theorem Home.dropped_holding (p : Nat) : (b.holding t).dropped p = (b.dropped p).holding t := rfl

theorem State.bayFind_eq {line : Nat} (hlt : h < 12) (hbench : isBenchAddr (line * 64) = false) :
    s.bayFind h line = (s.home h).cache.find? (fun x => x.1 / 16 == s.baySetOf h (line * 64) && x.2.line == line) := by
  rw [State.bayFind, if_neg (by simp [hbench, hlt])]

theorem State.bayClean_dirty {line p : Nat} {e : BayLine} (hcache : b.cache = (s.home h).cache) (hv : b.victims = [])
    (hfind : s.bayFind h line = some (p, e)) (hbad : e.bad = 0) (hdirty : e.dirty = true) :
    (s.setHome h b).bayClean h line = some ((s.wakeArray h).setHome h (b.cleaned p e)) := by
  have hfind' : ((s.wakeArray h).setHome h b).bayFind h line = some (p, e) := by
    rw [State.bayFind_setHome (by rw [State.wakeArray_home, hcache]), State.wakeArray_bayFind, hfind]
  have hcheck : ((s.wakeArray h).setHome h b).bayCheck h line = (s.wakeArray h).setHome h b := by
    simp only [State.bayCheck, hfind', hbad, if_true]
  have hroom : b.toVictim e.victim = some { b with victims := [e.victim] } := by simp [Home.toVictim, hv]
  rw [State.bayClean, State.wakeArray_setHome]
  simp only [hfind', hcheck, hdirty, if_true, Bool.not_true, Bool.false_eq_true, if_false, State.home_setHome_same, hroom,
    Option.map_some, State.setHome_setHome]
  rfl

theorem State.bayDiscard_unlocked {line p : Nat} {e : BayLine} (hfind : (s.setHome h b).bayFind h line = some (p, e))
    (hlock : b.lockedWay p = false) : (s.setHome h b).bayDiscard h line = (s.wakeArray h).setHome h (b.dropped p) := by
  have hfind' : ((s.wakeArray h).setHome h b).bayFind h line = some (p, e) := by
    rw [← State.wakeArray_setHome, State.wakeArray_bayFind, hfind]
  rw [State.bayDiscard, State.wakeArray_setHome]
  simp only [hfind', State.home_setHome_same, hlock, Bool.false_eq_true, if_false, State.setHome_setHome]
  rfl

theorem State.wakeArray_ownPkg (s : State) (k : Nat) : (s.wakeArray k).ownPkg = s.ownPkg := by
  unfold State.wakeArray
  split <;> rfl

theorem State.wakeArray_baySetOf (s : State) (k j la : Nat) : (s.wakeArray k).baySetOf j la = s.baySetOf j la := by
  unfold State.wakeArray
  split <;> rfl

theorem State.wakeArray_linked (s : State) (k a c : Nat) : (s.wakeArray k).linked a c = s.linked a c := by
  unfold State.wakeArray
  split <;> rfl

theorem State.wakeArray_net (s : State) (k : Nat) : (s.wakeArray k).net = s.net := by
  unfold State.wakeArray
  split <;> rfl

theorem State.wakeArray_doneMsg (s : State) (k : Nat) : (s.wakeArray k).doneMsg h t = s.doneMsg h t := by
  rw [State.doneMsg, State.wakeArray_ownPkg, State.doneMsg]

section
variable {p : Nat} {e : BayLine} (hlt : h < 12) (hbench : isBenchAddr (t.line * 64) = false) (hw : t.waitWr = false) (hen : t.en = true)
  (hfind : s.bayFind h t.line = some (p, e)) (hcache : b.cache = (s.home h).cache)
include hlt hbench hw hen hfind hcache

theorem State.finishCbo_clean (hop : t.op = .cboClean) (hv : b.victims = []) (hbad : e.bad = 0) (hdirty : e.dirty = true) :
    (s.setHome h (b.holding t)).finishCbo h 0 t = (s.wakeArray h).setHome h ((b.cleaned p e).holding t.waits) := by
  have hclean := State.bayClean_dirty (b := b.holding t) hcache hv hfind hbad hdirty
  simp only [State.finishCbo, hw, hbench, hen, hop, hclean, Nat.not_le.2 hlt, Bool.not_true, Bool.false_eq_true, or_self,
    if_false, Home.cleaned_holding]
  simpa only [HTx.waits, hop, hen] using State.setTx_holding (t := t) t.waits

theorem State.finishCbo_flush (hop : t.op = .cboFlush) (hv : b.victims = []) (hbad : e.bad = 0) (hdirty : e.dirty = true)
    (hlock : b.lockedWay p = false) (honly : b.cache.all (fun y => y.1 == p || y.2.line != t.line) = true) :
    (s.setHome h (b.holding t)).finishCbo h 0 t = (s.wakeArray h).setHome h (((b.cleaned p e).dropped p).holding t.waits) := by
  have hclean := State.bayClean_dirty (b := b.holding t) hcache hv hfind hbad hdirty
  have hset : ((s.wakeArray h).setHome h ((b.holding t).cleaned p e)).bayFind h t.line = some (p, { e with dirty := false }) := by
    rw [State.bayFind_eq hlt hbench] at hfind
    rw [State.bayFind_eq hlt hbench, State.home_setHome_same]
    have hsets : ((s.wakeArray h).setHome h ((b.holding t).cleaned p e)).baySetOf h (t.line * 64) = s.baySetOf h (t.line * 64) :=
      State.wakeArray_baySetOf s h h _
    rw [hsets]
    have hfound := List.find?_some hfind
    refine Tab.find?_set (t := b.cache) (v := { e with dirty := false })
      (P := fun x => x.1 / 16 == s.baySetOf h (t.line * 64) && x.2.line == t.line) hfound fun y hy hmatch => ?_
    have hline : (y.2.line == t.line) = true := (Bool.and_eq_true _ _ ▸ hmatch).2
    have hyp := List.all_eq_true.1 honly y hy
    simpa [bne, hline] using hyp
  have hdiscard := State.bayDiscard_unlocked hset (hlock : ((b.holding t).cleaned p e).lockedWay p = false)
  have hflush : (s.setHome h (b.holding t)).bayFlush h t.line =
      some ((s.wakeArray h).setHome h (((b.holding t).cleaned p e).dropped p)) := by
    have hlock' : ((b.holding t).cleaned p e).lockedWay p = false := hlock
    simp only [State.bayFlush, hclean, Option.map_some, hset, State.home_setHome_same, hlock', Bool.false_eq_true, if_false, hdiscard,
      State.wakeArray_wakeArray]
  simp only [State.finishCbo, hw, hbench, hen, hop, hflush, Nat.not_le.2 hlt, Bool.not_true, Bool.false_eq_true, or_self,
    if_false, Home.cleaned_holding, Home.dropped_holding]
  simpa only [HTx.waits, hop, hen] using State.setTx_holding (t := t) t.waits

theorem State.finishCbo_inval (hop : t.op = .cboInval) (hlock : b.lockedWay p = false) :
    (s.setHome h (b.holding t)).finishCbo h 0 t = (s.wakeArray h).setHome h ((b.dropped p).holding t.waits) := by
  have hdiscard := State.bayDiscard_unlocked (b := b.holding t) ((State.bayFind_setHome (b := b.holding t) hcache _).trans hfind) hlock
  simp only [State.finishCbo, hw, hbench, hen, hop, hdiscard, Nat.not_le.2 hlt, Bool.not_true, Bool.false_eq_true, or_self,
    if_false, Home.dropped_holding]
  simpa only [HTx.waits, hop, hen] using State.setTx_holding (t := t) t.waits

end

/-! ## A preload's miss register (R135, R138) -/

/-- The home whose first miss register a transaction in entry 0 has taken. -/
def Home.filling (b : Home) (t : HTx) (d : Option (Line × Bool)) : Home :=
  { b with bmrs := [(0, { line := t.line, htx := 0, lock := t.op == .lockFill, data := d, order := t.no })] }

/-- The transaction that has taken the first miss register. -/
def HTx.filling (t : HTx) : HTx := { t with bmr := some 0 }

theorem State.takeBmr_holding (hbmrs : b.bmrs = []) (d : Option (Line × Bool)) :
    (s.setHome h (b.holding t)).takeBmr h 0 t d = s.setHome h ((b.filling t d).holding t.filling) := by
  have hnone : (b.holding t).bmrs = [] := hbmrs
  have hkey : Tab.freeKey ([] : Map Bmr) 0 512 = some 0 := Tab.freeKey_nil (by decide)
  simp only [State.takeBmr, State.home_setHome_same, hnone, List.find?_nil, hkey, State.setHome_setHome]
  exact State.setTx_holding (b := b.filling t d) t.filling

/-- The array of home h, read for a transaction. -/
def State.readFor (s : State) (h : Nat) (t : HTx) : State := if t.en then s.wakeArray h else s

/-- A preload takes a register whatever holds the line. -/
theorem State.fetchLine_lock {o : Option (Nat × BayLine)} (hop : t.op = .lockFill) (hhave : t.have_ = false) (hbmr : t.bmr = none)
    (hlt : h < 12) (hbench : isBenchAddr (t.line * 64) = false) (hbmrs : b.bmrs = []) (hv : b.victims = [])
    (hcache : b.cache = (s.home h).cache) (hfind : s.bayFind h t.line = o)
    (ho : o = none ∨ t.en = true ∧ ∃ p e, o = some (p, e) ∧ e.bad = 0) :
    (s.setHome h (b.holding t)).fetchLine h 0 =
      (s.readFor h t).setHome h ((b.filling t (o.map (fun x => (x.2.data, x.2.poison)))).holding t.filling) := by
  have hread : (if t.en = true then (s.setHome h (b.holding t)).wakeArray h else s.setHome h (b.holding t)) =
      (s.readFor h t).setHome h (b.holding t) := by
    unfold State.readFor
    split
    · exact State.wakeArray_setHome h
    · rfl
  have hbay : ((s.readFor h t).setHome h (b.holding t)).bayFind h t.line = o := by
    rw [← hread, ← hfind]
    split
    · exact (State.wakeArray_bayFind ..).trans (State.bayFind_setHome (b := b.holding t) hcache _)
    · exact State.bayFind_setHome (b := b.holding t) hcache _
  have hcheck : ((s.readFor h t).setHome h (b.holding t)).bayCheck h t.line = (s.readFor h t).setHome h (b.holding t) := by
    rw [State.bayCheck, hbay]
    rcases ho with rfl | ⟨-, p, e, rfl, hbad⟩
    · rfl
    · exact if_pos hbad
  have hvict : (b.holding t).victims = [] := hv
  rw [State.fetchLine, State.tx_holding]
  simp only [hhave, hbmr, hbench, hop, Nat.not_le.2 hlt, Option.isSome_none, Bool.false_eq_true, or_self, if_false, if_true, hread,
    hcheck, ite_self, State.home_setHome_same, hvict, List.find?_nil, hbay]
  rcases ho with rfl | ⟨hen, p, e, rfl, -⟩
  · simp only [ite_self]
    exact State.takeBmr_holding hbmrs none
  · simp only [hen, if_true]
    exact State.takeBmr_holding hbmrs _

/-- A preload waits for its miss register. -/
theorem State.stepTx_lock {r : State} {c : Home} {u : HTx} (hop : t.op = .lockFill) (hst : t.st = .active) (hsnp : t.snpData = 0)
    (hsupply : t.supply = true) (hu : u = { t with bmr := u.bmr }) (hbmr : u.bmr.isSome = true)
    (hfetch : (s.setHome h (b.holding t)).fetchLine h 0 = r.setHome h (c.holding u)) :
    (s.setHome h (b.holding t)).stepTx h 0 = r.setHome h (c.holding u) := by
  have hstore : (s.setHome h (b.holding t)).storeSnoop h 0 t = some (s.setHome h (b.holding t)) := by
    rw [State.storeSnoop, if_neg (by simp [hsnp])]
  have hopu : u.op = .lockFill := by rw [hu]; exact hop
  have hstu : u.st = .active := by rw [hu]; exact hst
  rw [State.stepTx, State.tx_holding]
  simp [hst, hstore, State.tx_holding, HTx.needsData, HTx.needsWay, hop, hopu, hstu, hsupply, hfetch, State.finishRdNc, hbmr]

end

/-! ## From order to answer -/

/-- Transaction t of a line that no cache holds has just been ordered at home b, which holds nothing else; its requester is an
agent of this package that a route leads to. -/
structure State.Serves (s : State) (h : Nat) (b : Home) (t : HTx) : Prop where
  bay : h < 12
  waiting : t.st = .waiting
  hold : t.hold = []
  pend : t.pend = 0
  snpData : t.snpData = 0
  unwritten : t.waitWr = false
  unfetched : t.have_ = false ∧ t.bmr = none
  dir : b.dir = (s.home h).dir
  cache : b.cache = (s.home h).cache
  uncached : s.dirFind h t.line = none
  resv : b.resv = []
  dirQ : b.dirQ = []
  waitReq : b.waitReq = []
  work : b.work = none
  victims : b.victims = []
  bmrs : b.bmrs = []
  pkg : t.pkg = s.ownPkg
  linked : s.linked (agentOfHome h) t.agent = true

section
variable {s r q : State} {h p : Nat} {b c : Home} {t : HTx} {e : BayLine} (hs : s.Serves h b t)
include hs

theorem State.Serves.starts (hop : t.op = .cboClean ∨ t.op = .cboFlush ∨ t.op = .cboInval ∨ t.op = .lockFill) (n : Nat) :
    (s.setHome h (b.holding t)).stepAll h (n + 1) = (s.setHome h (b.holding t.started)).stepAll h n := by
  refine State.holding_goes (State.stepTx_starts hop hs.waiting hs.dir hs.uncached) (fun heq => ?_) n
  have hst := congrArg HTx.st heq
  rw [hs.waiting] at hst
  exact HSt.noConfusion hst

/-- A cache-block operation comes to its wait once the bay has done its part. -/
theorem State.Serves.cbo_stepAll (hop : t.op = .cboClean ∨ t.op = .cboFlush ∨ t.op = .cboInval)
    (hbay : (s.setHome h (b.holding t.started)).finishCbo h 0 t.started = r.setHome h (c.holding t.started.waits)) (n : Nat) :
    (s.setHome h (b.holding t)).stepAll h (n + 2) = (r.setHome h (c.holding t.started.waits)).stepAll h n := by
  have hstep := (State.stepTx_cbo (s := s) (h := h) (b := b) (t := t.started) hop rfl hs.pend hs.snpData).trans hbay
  rw [hs.starts (by rcases hop with hop | hop | hop <;> simp [hop]), State.holding_goes hstep]
  intro heq
  have hwait : true = t.waitWr := congrArg HTx.waitWr heq
  rw [hs.unwritten] at hwait
  exact Bool.noConfusion hwait

theorem State.Serves.cbo_ends (hop : t.op = .cboClean ∨ t.op = .cboFlush ∨ t.op = .cboInval)
    (hbay : (s.setHome h (b.holding t.started)).finishCbo h 0 t.started = r.setHome h (c.holding t.started.waits))
    (hend : (r.setHome h (c.holding t.started.waits)).finishCbo h 0 t.started.waits = q.setHome h c.freed)
    (hwait : c.waitReq = []) (hwork : c.work = none) : (s.setHome h (b.holding t)).homeRun h = q.setHome h c.freed := by
  have hstep := (State.stepTx_cbo (s := r) (h := h) (b := c) (t := t.started.waits) hop rfl hs.pend hs.snpData).trans hend
  refine State.homeRun_holding hs.hold ?_ hwait hwork
  rw [hs.cbo_stepAll hop hbay 8, State.holding_ends hstep]

theorem State.Serves.cbo_waits (hop : t.op = .cboClean ∨ t.op = .cboFlush ∨ t.op = .cboInval)
    (hbay : (s.setHome h (b.holding t.started)).finishCbo h 0 t.started = r.setHome h (c.holding t.started.waits))
    (hv : c.victims.any (fun v => v.line == t.line) = true) (hwait : c.waitReq = []) (hwork : c.work = none) :
    (s.setHome h (b.holding t)).homeRun h = r.setHome h (c.holding t.started.waits) := by
  have hend := State.finishCbo_waits (s := r) (h := h) (b := c) (t := t.started.waits) rfl hv
  have hstep := (State.stepTx_cbo (s := r) (h := h) (b := c) (t := t.started.waits) hop rfl hs.pend hs.snpData).trans hend
  refine State.homeRun_holding hs.hold ?_ hwait hwork
  rw [hs.cbo_stepAll hop hbay 8, State.holding_rests hstep]

theorem State.Serves.bench (hop : t.op = .cboClean ∨ t.op = .cboFlush ∨ t.op = .cboInval)
    (hbench : isBenchAddr (t.line * 64) = true) :
    (s.setHome h (b.holding t)).homeRun h = { s with net := s.net ++ [entered (s.doneMsg h t)] }.setHome h b.freed :=
  hs.cbo_ends hop (State.finishCbo_bench (t := t.started) hbench hs.unwritten)
    (State.finishCbo_ends (t := t.started.waits) rfl hs.victims hs.resv hs.dirQ hs.dir hs.uncached hs.bay hs.pkg hs.linked)
    hs.waitReq hs.work

theorem State.Serves.victim_line (hbench : isBenchAddr (t.line * 64) = false) (hfind : s.bayFind h t.line = some (p, e)) :
    ([e.victim] : List Victim).any (fun v => v.line == t.line) = true := by
  rw [State.bayFind_eq hs.bay hbench] at hfind
  have hmatch := List.find?_some hfind
  have hline : (e.line == t.line) = true := (Bool.and_eq_true _ _ ▸ hmatch).2
  simpa [BayLine.victim] using hline

section
variable (hbench : isBenchAddr (t.line * 64) = false) (hen : t.en = true) (hfind : s.bayFind h t.line = some (p, e))
include hbench hen hfind

theorem State.Serves.clean (hop : t.op = .cboClean) (hbad : e.bad = 0) (hdirty : e.dirty = true) :
    (s.setHome h (b.holding t)).homeRun h = (s.wakeArray h).setHome h ((b.cleaned p e).holding t.started.waits) :=
  hs.cbo_waits (.inl hop)
    (State.finishCbo_clean (t := t.started) hs.bay hbench hs.unwritten hen hfind hs.cache hop hs.victims hbad hdirty)
    (hs.victim_line hbench hfind) hs.waitReq hs.work

theorem State.Serves.flush (hop : t.op = .cboFlush) (hbad : e.bad = 0) (hdirty : e.dirty = true) (hlock : b.lockedWay p = false)
    (honly : b.cache.all (fun y => y.1 == p || y.2.line != t.line) = true) :
    (s.setHome h (b.holding t)).homeRun h = (s.wakeArray h).setHome h (((b.cleaned p e).dropped p).holding t.started.waits) :=
  hs.cbo_waits (.inr (.inl hop))
    (State.finishCbo_flush (t := t.started) hs.bay hbench hs.unwritten hen hfind hs.cache hop hs.victims hbad hdirty hlock honly)
    (hs.victim_line hbench hfind) hs.waitReq hs.work

theorem State.Serves.inval (hop : t.op = .cboInval) (hlock : b.lockedWay p = false) :
    (s.setHome h (b.holding t)).homeRun h =
      { s.wakeArray h with net := s.net ++ [entered (s.doneMsg h t)] }.setHome h (b.dropped p).freed := by
  have hdir : (b.dropped p).dir = ((s.wakeArray h).home h).dir := by rw [State.wakeArray_home]; exact hs.dir
  have hend := State.finishCbo_ends (s := s.wakeArray h) (b := b.dropped p) (t := t.started.waits) rfl hs.victims hs.resv hs.dirQ hdir
    ((State.wakeArray_dirFind ..).trans hs.uncached) hs.bay (hs.pkg.trans (State.wakeArray_ownPkg ..).symm)
    ((State.wakeArray_linked ..).trans hs.linked)
  rw [State.wakeArray_doneMsg, State.wakeArray_net] at hend
  exact hs.cbo_ends (.inr (.inr hop)) (State.finishCbo_inval (t := t.started) hs.bay hbench hs.unwritten hen hfind hs.cache hop hlock)
    hend hs.waitReq hs.work

end

theorem State.Serves.lockFill {o : Option (Nat × BayLine)} (hop : t.op = .lockFill) (hbench : isBenchAddr (t.line * 64) = false)
    (hfind : s.bayFind h t.line = o) (ho : o = none ∨ t.en = true ∧ ∃ p e, o = some (p, e) ∧ e.bad = 0) :
    (s.setHome h (b.holding t)).homeRun h = (s.readFor h t).setHome h
      ((b.filling t (o.map (fun x => (x.2.data, x.2.poison)))).holding t.started.filling) := by
  obtain ⟨hhave, hbmr⟩ := hs.unfetched
  have hfetch := State.fetchLine_lock (t := t.started) hop hhave hbmr hs.bay hbench hs.bmrs hs.victims hs.cache hfind ho
  have hstep := State.stepTx_lock (t := t.started) hop rfl hs.snpData rfl rfl rfl hfetch
  have hkept : ∀ (x : State) (c : Home), (x.setHome h (c.holding t.started.filling)).fetchLine h 0 =
      x.setHome h (c.holding t.started.filling) := fun x c => by
    rw [State.fetchLine, State.tx_holding]
    simp [HTx.filling]
  have hrest : ∀ (x : State) (c : Home), (x.setHome h (c.holding t.started.filling)).stepTx h 0 =
      x.setHome h (c.holding t.started.filling) :=
    fun x c => State.stepTx_lock (t := t.started.filling) hop rfl hs.snpData rfl rfl rfl (hkept x c)
  refine State.homeRun_holding hs.hold ?_ hs.waitReq hs.work
  rw [hs.starts (.inr (.inr (.inr hop))) 9, State.holding_goes hstep, State.holding_rests (hrest _ _)]
  · rfl
  · intro heq
    have hsome : some 0 = t.bmr := congrArg HTx.bmr heq
    exact Option.some_ne_none 0 (hsome.trans hbmr)

end

/-! ## What the requester and the home see -/

/-- GO_DONE of home h for the request of this header. -/
def State.goDoneTo (s : State) (h : Nat) (d : Hdr) : Msg :=
  { op := .goDone, hdr := { src := agentOfHome h, dst := d.reqAgent, srcPkg := s.ownPkg, dstPkg := s.ownPkg, tag := d.tag,
                            reqAgent := d.reqAgent, reqPkg := s.ownPkg, htx := 0, line := d.line, rcid := d.rcid, mcid := d.mcid } }

/-- A request for a line of a bay that no cache holds, as its idle home has ordered it. -/
theorem State.serves_ordered {s : State} {op : MsgOp} {d : Hdr} {h line : Nat} (hreach : s.reachesHome op d h) (hidle : s.idleHome h)
    (hlt : h < 12) (hfind : s.dirFind h line = none) (ptr : Nat) (full : Bool) :
    (s.arrived op d).Serves h (((s.arrived op d).home h).ordering ptr) ((s.arrived op d).orderedTx h line op d full) := by
  obtain ⟨harr, hhome, -, -, -, hpkg, hlinked, -⟩ := hreach
  have hcar : s.Carried (s.arrived op d) := (State.arrive_carried harr).1
  have hidle' : (s.arrived op d).idleHome h := by
    rw [State.idleHome, hcar.home]
    exact hidle
  obtain ⟨-, -, hwait, hq, hresv, hbmrs, hv, hwork⟩ := hidle'
  have hagent : agentOfHome h = d.dst := by
    rw [agentOfHome, if_pos hlt]
    unfold homeOfAgent at hhome
    split at hhome
    · have := Option.some.inj hhome
      omega
    · split at hhome
      · have := Option.some.inj hhome
        omega
      · exact absurd hhome (by simp)
  exact {
    bay := hlt, waiting := rfl, hold := rfl, pend := rfl, snpData := rfl, unwritten := rfl, unfetched := ⟨rfl, rfl⟩,
    dir := rfl, cache := rfl, uncached := (hcar.dirFind ..).trans hfind, resv := hresv, dirQ := hq, waitReq := hwait, work := hwork,
    victims := hv, bmrs := hbmrs, pkg := hpkg.trans hcar.ownPkg.symm,
    linked := by rw [hagent]; exact (hcar.linked ..).trans hlinked }

/-- Beside messages in flight and the power state of home h's array, nothing has changed. -/
structure State.Woke (s t : State) (h : Nat) : Prop where
  homes : t.homes = s.homes
  dom : ∀ e, e ≠ 14 + h → Tab.get t.power.domState 0 e = Tab.get s.power.domState 0 e
  rest : t = { s with homes := t.homes, net := t.net,
                      power := { s.power with domState := t.power.domState, domVolt := t.power.domVolt } }

theorem State.Woke.net (s : State) (h : Nat) (l : List Msg) : s.Woke { s with net := l } h := ⟨rfl, fun _ _ => rfl, rfl⟩

theorem State.wakeArray_woke (s : State) (h : Nat) (l : List Msg) : s.Woke { s.wakeArray h with net := l } h := by
  unfold State.wakeArray
  split
  · exact ⟨rfl, fun e he => Tab.get_put_ne s.power.domState 0 (14 + h) e 0 he, rfl⟩
  · exact .net s h l

theorem State.Woke.onlyHome {s r : State} {h : Nat} (hw : s.Woke r h) (b : Home) : s.onlyHome (r.setHome h b) h := by
  refine ⟨fun k hk => ?_, hw.dom, ?_⟩
  · rw [State.home_setHome_ne _ _ _ _ hk, State.home, hw.homes, ← State.home]
  · exact congrArg (fun x : State => x.setHome h b) hw.rest

theorem State.readFor_woke (s : State) (h : Nat) (t : HTx) : s.Woke (s.readFor h t) h := by
  unfold State.readFor
  split
  · exact s.wakeArray_woke h (s.wakeArray h).net
  · exact .net s h s.net

theorem State.readFor_net (s : State) (h : Nat) (t : HTx) : (s.readFor h t).net = s.net := by
  unfold State.readFor
  split
  · exact s.wakeArray_net h
  · rfl

/-! ## The operations -/

section
variable {s : State} {op : MsgOp} {d : Hdr} {h line p : Nat} {e : BayLine} {i : Instr}
  (hreach : s.reachesHome op d h) (hidle : s.idleHome h) (hline : s.homeLine h d.line = some line)
  (huncached : s.dirFind h line = none) (hexec : exec i s = .next (s.toHome { op := op, hdr := d }))
include hreach hidle hline huncached hexec

/-- What a request comes to, it comes to from the state its arrival leaves and the transaction it becomes. -/
theorem State.runs_ordered (hback : s.backs h line) {P : State → Prop}
    (hP : ∀ ptr full, s.Carried (s.arrived op d) →
      (s.arrived op d).Serves h (((s.arrived op d).home h).ordering ptr) ((s.arrived op d).orderedTx h line op d full) →
      P (((s.arrived op d).setHome h ((((s.arrived op d).home h).ordering ptr).holding
        ((s.arrived op d).orderedTx h line op d full))).homeRun h)) :
    RunsTo (exec i s) P := by
  obtain ⟨ptr, full, hrun⟩ := State.toHome_idle hreach hidle hline hback
  refine ⟨_, hexec, ?_⟩
  rw [hrun]
  exact hP ptr full (State.arrive_carried hreach.1).1 (State.serves_ordered hreach hidle hback.1 huncached ptr full)

omit hidle hline huncached hexec in
theorem State.doneMsg_ordered (full : Bool) :
    (s.arrived op d).doneMsg h ((s.arrived op d).orderedTx h line op d full) = s.goDoneTo h d := by
  obtain ⟨harr, -, -, -, -, hpkg, -⟩ := hreach
  have hcar : s.Carried (s.arrived op d) := (State.arrive_carried harr).1
  simp only [State.doneMsg, State.goDoneTo, State.orderedTx, hcar.ownPkg, hpkg]

/-- Of a bench line a cache-block operation is answered and ends (R171). -/
theorem State.cboBench_runs (hop : op = .cboClean ∨ op = .cboFlush ∨ op = .cboInval) (hbench : s.benchLine h line) :
    RunsTo (exec i s) fun t =>
      t.net = s.restNet op d ++ [entered (s.goDoneTo h d)] ∧ (t.home h).txs = [] ∧ (t.home h).dir = (s.home h).dir ∧
        (s.arrived op d).onlyOrder t h := by
  obtain ⟨hlt, haddr, hback⟩ := hbench
  refine State.runs_ordered hreach hidle hline huncached hexec ⟨hlt, fun _ => hback⟩ fun ptr full hcar hs => ?_
  rw [hs.bench hop haddr, State.doneMsg_ordered hreach]
  refine ⟨rfl, ?_, ?_, (State.Woke.net _ h _).onlyHome _, ?_⟩
  · rw [State.home_setHome_same]
    rfl
  · rw [State.home_setHome_same, ← hcar.home]
    rfl
  · simp only [State.onlyOrders, State.home_setHome_same]
    rfl

section
variable (hdram : h < 12 ∧ isBenchAddr (line * 64) = false) (hfind : s.bayFind h line = some (p, e)) (hbad : e.bad = 0)
  (hen : s.arrayEn h = true)
include hdram hfind hbad hen

/-- CBO_CLEAN of a dirty line of the bay (R71, R72). -/
theorem State.cboClean_runs (hop : op = .cboClean) (hdirty : e.dirty = true) :
    RunsTo (exec i s) fun t =>
      t.net = s.restNet op d ∧ (t.home h).txs.map (fun e => (e.1, e.2.waitWr)) = [(0, true)] ∧ (t.home h).victims = [e.victim] ∧
        (t.home h).cache = Tab.set (s.home h).cache p { e with dirty := false } ∧ (t.home h).dir = (s.home h).dir ∧
        (s.arrived op d).onlyHome t h := by
  obtain ⟨hlt, hbench⟩ := hdram
  refine State.runs_ordered hreach hidle hline huncached hexec ⟨hlt, fun h => by simp [hbench] at h⟩ fun ptr full hcar hs => ?_
  rw [hs.clean hbench ((hcar.arrayEn h).trans hen) ((hcar.bayFind h line).trans hfind) hop hbad hdirty]
  refine ⟨State.wakeArray_net _ h, ?_, ?_, ?_, ?_, (State.wakeArray_woke _ h _).onlyHome _⟩
  · rw [State.home_setHome_same]
    rfl
  · rw [State.home_setHome_same]
    rfl
  · rw [State.home_setHome_same, ← hcar.home]
    rfl
  · rw [State.home_setHome_same, ← hcar.home]
    rfl

/-- CBO_FLUSH of a dirty line of the bay in a way that is not locked (R71, R72, R139). -/
theorem State.cboFlush_runs (hop : op = .cboFlush) (hdirty : e.dirty = true) (hlock : (s.home h).lockedWay p = false)
    (honly : (s.home h).cache.all (fun y => y.1 == p || y.2.line != line) = true) :
    RunsTo (exec i s) fun t =>
      t.net = s.restNet op d ∧ (t.home h).txs.map (fun e => (e.1, e.2.waitWr)) = [(0, true)] ∧ (t.home h).victims = [e.victim] ∧
        (t.home h).cache = Tab.erase (s.home h).cache p ∧ (t.home h).dir = (s.home h).dir ∧ (s.arrived op d).onlyHome t h := by
  obtain ⟨hlt, hbench⟩ := hdram
  refine State.runs_ordered hreach hidle hline huncached hexec ⟨hlt, fun h => by simp [hbench] at h⟩ fun ptr full hcar hs => ?_
  rw [← hcar.home] at hlock honly
  rw [hs.flush hbench ((hcar.arrayEn h).trans hen) ((hcar.bayFind h line).trans hfind) hop hbad hdirty hlock honly]
  refine ⟨State.wakeArray_net _ h, ?_, ?_, ?_, ?_, (State.wakeArray_woke _ h _).onlyHome _⟩
  · rw [State.home_setHome_same]
    rfl
  · rw [State.home_setHome_same]
    rfl
  · rw [State.home_setHome_same, ← hcar.home]
    exact Tab.erase_set ..
  · rw [State.home_setHome_same, ← hcar.home]
    rfl

omit hbad in
/-- CBO_INVAL of a line of the bay in a way that is not locked (R71, R139). -/
theorem State.cboInval_runs (hop : op = .cboInval) (hlock : (s.home h).lockedWay p = false) :
    RunsTo (exec i s) fun t =>
      t.net = s.restNet op d ++ [entered (s.goDoneTo h d)] ∧ (t.home h).txs = [] ∧ (t.home h).victims = [] ∧
        (t.home h).cache = Tab.erase (s.home h).cache p ∧ (t.home h).dir = (s.home h).dir ∧ (s.arrived op d).onlyHome t h := by
  obtain ⟨hlt, hbench⟩ := hdram
  refine State.runs_ordered hreach hidle hline huncached hexec ⟨hlt, fun h => by simp [hbench] at h⟩ fun ptr full hcar hs => ?_
  rw [← hcar.home] at hlock
  rw [hs.inval hbench ((hcar.arrayEn h).trans hen) ((hcar.bayFind h line).trans hfind) hop hlock, State.doneMsg_ordered hreach]
  refine ⟨rfl, ?_, ?_, ?_, ?_, (State.wakeArray_woke _ h _).onlyHome _⟩
  · rw [State.home_setHome_same]
    rfl
  · rw [State.home_setHome_same]
    exact hs.victims
  · rw [State.home_setHome_same, ← hcar.home]
    rfl
  · rw [State.home_setHome_same, ← hcar.home]
    rfl

end

/-- LOCK_FILL takes a miss register, with what the bay holds of the line (R135, R138). -/
theorem State.lockFill_runs {o : Option (Nat × BayLine)} (hop : op = .lockFill) (hdram : h < 12 ∧ isBenchAddr (line * 64) = false)
    (hfind : s.bayFind h line = o) (ho : o = none ∨ s.arrayEn h = true ∧ ∃ p e, o = some (p, e) ∧ e.bad = 0) :
    RunsTo (exec i s) fun t =>
      t.net = s.restNet op d ∧
        (t.home h).bmrs = [(0, { line := line, htx := 0, lock := true, data := o.map (fun x => (x.2.data, x.2.poison)),
                                 order := (s.home h).seqNo })] ∧
        (t.home h).txs.map (fun e => (e.1, e.2.op, e.2.bmr)) = [(0, op, some 0)] ∧ (t.home h).cache = (s.home h).cache ∧
        (t.home h).dir = (s.home h).dir ∧ (s.arrived op d).onlyHome t h := by
  obtain ⟨hlt, hbench⟩ := hdram
  refine State.runs_ordered hreach hidle hline huncached hexec ⟨hlt, fun h => by simp [hbench] at h⟩ fun ptr full hcar hs => ?_
  rw [← hcar.arrayEn] at ho
  rw [hs.lockFill hop hbench ((hcar.bayFind h line).trans hfind) ho]
  refine ⟨State.readFor_net .., ?_, ?_, ?_, ?_, (State.readFor_woke ..).onlyHome _⟩
  · rw [State.home_setHome_same, ← hcar.home, hop]
    rfl
  · rw [State.home_setHome_same]
    rfl
  · rw [State.home_setHome_same, ← hcar.home]
    rfl
  · rw [State.home_setHome_same, ← hcar.home]
    rfl

end

/-- Settles O19: the request is ordered at once, and its transaction goes from stage to stage until it ends or waits. -/
theorem homeCacheBlockAndLockFill : Obligations.HomeCacheBlockAndLockFill := by
  unfold Obligations.HomeCacheBlockAndLockFill
  refine ⟨?cleanBench, ?cleanDram, ?flushBench, ?flushDram, ?invalBench, ?invalDram, ?lockMiss, ?lockHit⟩
  case cleanBench =>
    intro s d h line hreach hidle hline hbench _ huncached
    exact State.cboBench_runs hreach hidle hline huncached rfl (.inl rfl) hbench
  case cleanDram =>
    intro s d h line p e hreach hidle hline hdram _ huncached hfind hbad hdirty hen _ _
    exact State.cboClean_runs hreach hidle hline huncached rfl hdram hfind hbad hen rfl hdirty
  case flushBench =>
    intro s d h line hreach hidle hline hbench _ huncached
    exact State.cboBench_runs hreach hidle hline huncached rfl (.inr (.inl rfl)) hbench
  case flushDram =>
    intro s d h line p e hreach hidle hline hdram _ huncached hfind hbad hdirty hen hlock honly
    exact State.cboFlush_runs hreach hidle hline huncached rfl hdram hfind hbad hen rfl hdirty hlock honly
  case invalBench =>
    intro s d h line hreach hidle hline hbench _ huncached
    exact State.cboBench_runs hreach hidle hline huncached rfl (.inr (.inr rfl)) hbench
  case invalDram =>
    intro s d h line p e hreach hidle hline hdram _ huncached hfind _ _ hen hlock _
    exact State.cboInval_runs hreach hidle hline huncached rfl hdram hfind hen rfl hlock
  case lockMiss =>
    intro s d h line hreach hidle hline hdram huncached hfind
    exact State.lockFill_runs hreach hidle hline huncached rfl rfl hdram hfind (.inl rfl)
  case lockHit =>
    intro s d h line p e hreach hidle hline hdram huncached hfind hbad hen
    exact State.lockFill_runs hreach hidle hline huncached rfl rfl hdram hfind (.inr ⟨hen, p, e, rfl, hbad⟩)

end Sys2Proof.Machine
end

section
/-! PROOF. Translation fences (O10): what a fence of a hart that waits for nothing comes to, at once where it needs no drained store
queue or finds one, and pending where it does not. -/

namespace Sys2Proof.Machine

/-! ## Trying again a core in which no access waits -/

/-- Where no slot is in use and nothing waits once the fences have ended, trying again does no more than end them (R55, R116). -/
theorem State.retry_noWaits {s : State} {c : Nat} {k : Core} (hawake : (s.core c).awake = true) (hslots : (s.core c).pipe.slots = [])
    (hend : (s.core c).endFences = k) (hwaits : k.pipe.waits = []) :
    s.SetsCore (s.retry c) c { k with pipe := { k.pipe with waits := [], trapped := false } } := by
  have hpump : (s.pumpRidge c).pumpFills c = s := by simp [State.pumpRidge, State.pumpFills, hslots]
  unfold State.retry
  simp only [hpump, hend, hawake, hwaits, State.retryList, Bool.not_true, Bool.false_eq_true, if_false, State.core_setCore_same]
  exact (s.setsCore_setCore ..).setCore _

/-! ## What a translation fence waits for, and what it does (R116, R117) -/

/-- The fence waits for its place and an empty store queue. -/
def XFence.drains : XFence → Bool
  | .vma _ _ | .vvma _ _ | .gvma _ _ | .wInval => true
  | .sinvalVma _ _ | .sinvalVvma _ _ | .sinvalGvma _ _ | .invalIr => false

theorem Core.fenceReady_x (k : Core) {f : Fence} {x : XFence} (hx : f.x = some x) :
    k.fenceReady f = (!x.drains || (!k.pipe.hasOlder f.seq && k.pipe.storeQ.isEmpty)) := by
  cases x <;> simp [Core.fenceReady, hx, XFence.drains]

/-- The translation structures that the fence leaves. -/
def Core.xlatFenced (k : Core) (x : XFence) : Xlat := (k.doXFence (some x)).xlat

theorem Core.doXFence_eq (k : Core) (x : XFence) :
    k.doXFence (some x) = { k with pipe := k.pipe.untranslate, xlat := k.xlatFenced x } := by
  cases x <;> rfl

/-- What a fence does to the translation structures does not depend on the pipe. -/
theorem Core.xlatFenced_pipe (k : Core) (p : Pipe) (x : XFence) : ({ k with pipe := p } : Core).xlatFenced x = k.xlatFenced x := by
  cases x <;> rfl

/-- With no access waiting or in flight there is nothing to look up the TLBs again. -/
theorem Pipe.untranslate_idle {p : Pipe} (hw : p.waits = []) (hs : p.slots = []) : p.untranslate = p := by
  cases p
  simp_all [Pipe.untranslate]

/-! ## A fence added to a hart that waits for nothing -/

/-- The fence that an instruction of core k leaves pending. -/
def Core.newFence (k : Core) (pred : BitVec 4) (x : XFence) : Fence :=
  { seq := k.pipe.seq, pc := k.regs.pc, pred := pred, all := true, x := some x }

/-- Core k with that fence, in the place after it. -/
def Core.fencing (k : Core) (l : List Fence) : Core := { k with pipe := { k.pipe with fence := l, seq := k.pipe.seq + 1 } }

theorem Core.quietQ.hasOlder {k : Core} (h : k.quietQ) (hq : k.pipe.storeQ = []) (l : List Fence) (n : Nat) :
    (k.fencing l).pipe.hasOlder n = false := by
  obtain ⟨-, -, -, -, hw, hs, -, hp, -, -, hr, hst⟩ := h
  simp [Pipe.hasOlder, Pipe.unperformed, Core.fencing, hw, hs, hp, hr, hst, hq]

/-- The fence acts at once where it drains nothing, or the store queue is empty. -/
theorem Core.endFences_acts {k : Core} (h : k.quietQ) {x : XFence} (hx : x.drains = false ∨ k.pipe.storeQ = []) (pred : BitVec 4) :
    (k.fencing [k.newFence pred x]).endFences = { k.fencing [] with xlat := k.xlatFenced x } := by
  have hready : (k.fencing [k.newFence pred x]).fenceReady (k.newFence pred x) = true := by
    rw [Core.fenceReady_x _ rfl]
    rcases hx with hx | hq
    · simp [hx]
    · rw [h.hasOlder hq]
      simp [Core.fencing, hq]
  obtain ⟨-, -, -, -, hw, hs, -⟩ := h
  have hacts : (k.fencing []).doXFence (some x) = { k.fencing [] with xlat := k.xlatFenced x } := by
    have hpipe : (k.fencing []).pipe.untranslate = (k.fencing []).pipe := Pipe.untranslate_idle hw hs
    have hxlat : (k.fencing []).xlatFenced x = k.xlatFenced x := Core.xlatFenced_pipe k _ x
    rw [Core.doXFence_eq, hpipe, hxlat]
  change Core.endFence _ 1 = _
  rw [Core.endFence.eq_def]
  change (if (k.fencing [k.newFence pred x]).fenceReady (k.newFence pred x) = true then
    Core.endFence ((k.fencing []).doXFence (some x)) 0 else _) = _
  rw [if_pos hready, hacts]
  rfl

/-- A fence that drains stays pending while a store is queued. -/
theorem Core.endFences_waits {k : Core} {x : XFence} (hx : x.drains = true) (hq : k.pipe.storeQ ≠ []) (pred : BitVec 4) :
    (k.fencing [k.newFence pred x]).endFences = k.fencing [k.newFence pred x] := by
  have hready : (k.fencing [k.newFence pred x]).fenceReady (k.newFence pred x) = false := by
    rw [Core.fenceReady_x _ rfl, hx]
    simp [Core.fencing, hq]
  change Core.endFence _ 1 = _
  rw [Core.endFence.eq_def]
  change (if (k.fencing [k.newFence pred x]).fenceReady (k.newFence pred x) = true then _ else _) = _
  rw [if_neg (by simp [hready])]

/-- What a fence leaves of core k: the fences l pend, and the translation structures are x. -/
def Core.pastFence (k : Core) (l : List Fence) (x : Xlat) : Core :=
  { k with xlat := x, pipe := { k.pipe with fence := l, seq := k.pipe.seq + 1, waits := [], trapped := false } }

section
variable {s : State} {c : CoreId} (h : (s.core c).quietQ)
include h

theorem State.addFence_retries (pred : BitVec 4) (x : XFence) :
    s.addFence c pred 0 true (some x) = (s.setCore c ((s.core c).fencing [(s.core c).newFence pred x])).retry c := by
  obtain ⟨-, -, -, -, -, -, hf, -⟩ := h
  simp [State.addFence, Core.nextSeq, Core.fencing, Core.newFence, hf]

theorem State.addFence_ends {k : Core} {pred : BitVec 4} {x : XFence} {l : List Fence} {t : Xlat}
    (hend : ((s.core c).fencing [(s.core c).newFence pred x]).endFences = k) (hk : k = { (s.core c).fencing l with xlat := t }) :
    s.SetsCore (s.addFence c pred 0 true (some x)) c ((s.core c).pastFence l t) := by
  rw [State.addFence_retries h]
  obtain ⟨hrun, -, -, -, hw, hs, -⟩ := h
  have hretry := State.retry_noWaits (s := s.setCore c ((s.core c).fencing [(s.core c).newFence pred x])) (c := c) (k := k)
    (by rw [State.core_setCore_same]; simp [Core.fencing, Core.awake, hrun]) (by rw [State.core_setCore_same]; exact hs)
    (by rw [State.core_setCore_same]; exact hend) (by rw [hk]; exact hw)
  rw [hk] at hretry
  exact (s.setsCore_setCore ..).trans hretry

theorem State.addFence_acts {pred : BitVec 4} {x : XFence} (hx : x.drains = false ∨ (s.core c).pipe.storeQ = []) :
    s.SetsCore (s.addFence c pred 0 true (some x)) c ((s.core c).pastFence [] ((s.core c).xlatFenced x)) :=
  State.addFence_ends h (Core.endFences_acts h hx pred) rfl

theorem State.addFence_waits {pred : BitVec 4} {x : XFence} (hx : x.drains = true) (hq : (s.core c).pipe.storeQ ≠ []) :
    s.SetsCore (s.addFence c pred 0 true (some x)) c ((s.core c).pastFence [(s.core c).newFence pred x] (s.core c).xlat) :=
  State.addFence_ends h (Core.endFences_waits hx hq pred) rfl

/-! ## The instructions in M-mode (R116, R117) -/

theorem Core.tvmLegal_quiet (tvm : Bool) : (s.core c).tvmLegal tvm = 0 := by simp [Core.tvmLegal, h.2.1]

theorem Core.hypLegal_quiet (tvm : Bool) : (s.core c).hypLegal tvm = 0 := by
  obtain ⟨-, hp, hv, -⟩ := h
  simp [Core.hypLegal, hp, hv]

theorem exec_sfenceVma_adds (va : Option Word) (asid : Option (BitVec 16)) :
    exec (.sfenceVma c va asid) s = .next (s.addFence c 0b0101 0 true (some (.vma va (asid.map (·.toNat))))) := by
  change execSfenceVma c va asid s = _
  rw [execSfenceVma, Core.tvmLegal_quiet h, State.guarded_legal h.1, h.2.2.1]
  rfl

theorem exec_hfenceVvma_adds (va : Option Word) (asid : Option (BitVec 16)) :
    exec (.hfenceVvma c va asid) s = .next (s.addFence c 0b0101 0 true (some (.vvma va (asid.map (·.toNat))))) := by
  change execHfenceVvma c va asid s = _
  rw [execHfenceVvma, Core.hypLegal_quiet h, State.guarded_legal h.1]

theorem exec_hfenceGvma_adds (gpa : Option Word) (vmid : Option (BitVec 14)) :
    exec (.hfenceGvma c gpa vmid) s = .next (s.addFence c 0b0101 0 true (some (.gvma gpa (vmid.map (·.toNat))))) := by
  change execHfenceGvma c gpa vmid s = _
  rw [execHfenceGvma, Core.hypLegal_quiet h, State.guarded_legal h.1]

theorem exec_sinvalVma_adds (va : Option Word) (asid : Option (BitVec 16)) :
    exec (.sinvalVma c va asid) s = .next (s.addFence c 0 0 true (some (.sinvalVma va (asid.map (·.toNat))))) := by
  change execSinvalVma c va asid s = _
  rw [execSinvalVma, Core.tvmLegal_quiet h, State.guarded_legal h.1, h.2.2.1]
  rfl

theorem exec_hinvalVvma_adds (va : Option Word) (asid : Option (BitVec 16)) :
    exec (.hinvalVvma c va asid) s = .next (s.addFence c 0 0 true (some (.sinvalVvma va (asid.map (·.toNat))))) := by
  change execHinvalVvma c va asid s = _
  rw [execHinvalVvma, Core.hypLegal_quiet h, State.guarded_legal h.1]

theorem exec_hinvalGvma_adds (gpa : Option Word) (vmid : Option (BitVec 14)) :
    exec (.hinvalGvma c gpa vmid) s = .next (s.addFence c 0 0 true (some (.sinvalGvma gpa (vmid.map (·.toNat))))) := by
  change execHinvalGvma c gpa vmid s = _
  rw [execHinvalGvma, Core.hypLegal_quiet h, State.guarded_legal h.1]

theorem exec_sfenceWInval_adds : exec (.sfenceWInval c) s = .next (s.addFence c 0b0101 0 true (some .wInval)) := by
  change execSfenceWInval c s = _
  rw [execSfenceWInval, Core.tvmLegal_quiet h, State.guarded_legal h.1]

theorem exec_sfenceInvalIr_adds : exec (.sfenceInvalIr c) s = .next (s.addFence c 0 0 true (some .invalIr)) := by
  change execSfenceInvalIr c s = _
  rw [execSfenceInvalIr, Core.tvmLegal_quiet h, State.guarded_legal h.1]

/-- An instruction whose fence acts leaves the translation structures of that fence and no fence pending. -/
theorem RunsTo.fenceActs {i : Instr} {pred : BitVec 4} {x : XFence} (hi : exec i s = .next (s.addFence c pred 0 true (some x)))
    (hx : x.drains = false ∨ (s.core c).pipe.storeQ = []) :
    RunsTo (exec i s) fun t =>
      t.core c = { s.core c with xlat := (s.core c).xlatFenced x, pipe := (t.core c).pipe } ∧ (t.core c).pipe.fence = [] ∧
      (t.core c).pipe.l2 = (s.core c).pipe.l2 ∧ (t.core c).pipe.storeQ = (s.core c).pipe.storeQ ∧ s.onlyCore t c := by
  have hset := State.addFence_acts (pred := pred) h hx
  refine ⟨_, hi, ?_, ?_, ?_, ?_, hset.onlyCore⟩ <;> rw [hset.core] <;> rfl

/-- An instruction whose fence must drain the store queue leaves it pending. -/
theorem RunsTo.fencePends {i : Instr} {pred : BitVec 4} {x : XFence} (hi : exec i s = .next (s.addFence c pred 0 true (some x)))
    (hx : x.drains = true) (hq : (s.core c).pipe.storeQ ≠ []) :
    RunsTo (exec i s) fun t =>
      (t.core c).pipe.fence = [{ seq := (s.core c).pipe.seq, pc := (s.core c).regs.pc, pred := pred, all := true, x := some x }] ∧
      (t.core c).pipe.storeQ = (s.core c).pipe.storeQ ∧ s.onlyRegs t c (s.core c).regs := by
  have hset := State.addFence_waits (pred := pred) h hx hq
  refine ⟨_, hi, ?_, ?_, ?_, hset.onlyCore⟩ <;> rw [hset.core] <;> rfl

end

section
variable {s : State} {c : CoreId} (h : (s.core c).quiet)
include h

/-- As `RunsTo.fenceActs`, of a hart whose store queue is empty. -/
theorem RunsTo.fenceActs_quiet {i : Instr} {pred : BitVec 4} {x : XFence} (hi : exec i s = .next (s.addFence c pred 0 true (some x))) :
    RunsTo (exec i s) fun t =>
      t.core c = { s.core c with xlat := (s.core c).xlatFenced x, pipe := (t.core c).pipe } ∧ (t.core c).pipe.fence = [] ∧
      (t.core c).pipe.l2 = (s.core c).pipe.l2 ∧ (t.core c).pipe.storeQ = [] ∧ s.onlyCore t c := by
  obtain ⟨t, ht, hcore, hfence, hl2, hq, honly⟩ := RunsTo.fenceActs h.1 hi (.inr h.2)
  exact ⟨t, ht, hcore, hfence, hl2, hq.trans h.2, honly⟩

end

/-- Settles O10: each instruction adds its fence to a hart that waits for nothing, where it acts at once or pends behind the stores. -/
theorem translationFencesInvalidate : Obligations.TranslationFencesInvalidate := by
  refine ⟨fun s c va asid h => RunsTo.fenceActs_quiet h (exec_sfenceVma_adds h.1 va asid),
    fun s c va asid h hq => RunsTo.fencePends h (exec_sfenceVma_adds h va asid) rfl hq,
    fun s c va asid h => RunsTo.fenceActs_quiet h (exec_hfenceVvma_adds h.1 va asid),
    fun s c va asid h hq => RunsTo.fencePends h (exec_hfenceVvma_adds h va asid) rfl hq,
    fun s c gpa vmid h => RunsTo.fenceActs_quiet h (exec_hfenceGvma_adds h.1 gpa vmid),
    fun s c gpa vmid h hq => RunsTo.fencePends h (exec_hfenceGvma_adds h gpa vmid) rfl hq,
    fun s c va asid h => RunsTo.fenceActs h (exec_sinvalVma_adds h va asid) (.inl rfl),
    fun s c va asid h => RunsTo.fenceActs h (exec_hinvalVvma_adds h va asid) (.inl rfl),
    fun s c gpa vmid h => RunsTo.fenceActs h (exec_hinvalGvma_adds h gpa vmid) (.inl rfl),
    fun s c h => ?wInval,
    fun s c h hq => RunsTo.fencePends h (exec_sfenceWInval_adds h) rfl hq,
    fun s c h => RunsTo.fenceActs h (exec_sfenceInvalIr_adds h) (.inl rfl)⟩
  case wInval =>
    obtain ⟨t, ht, hcore, hfence, hl2, -, honly⟩ := RunsTo.fenceActs_quiet h (exec_sfenceWInval_adds h.1)
    exact ⟨t, ht, hfence, hl2, hcore, honly⟩

end Sys2Proof.Machine
end

section
/-! PROOF. The software TLB commands (O12): the ways of a set that a fill may take, what a use leaves of an entry, what the commands
leave of the core, and the clauses. -/

namespace Sys2Proof.Machine

/-! ## The ways of a set (R89, R115) -/

/-- Where no way of a set may be replaced, each of its 12 ways holds a wired entry. -/
theorem tlbWays_nil {t : Map TlbEnt} {set : Nat} (h : tlbWays t set = []) {w : Nat} (hw : w < 12) :
    ∃ e, (set * 12 + w, e) ∈ t ∧ e.wired = true := by
  simp only [tlbWays] at h
  split at h
  · contradiction
  · next hinv =>
    split at h
    · contradiction
    · have hmem : set * 12 + w ∈ (List.range 12).map (set * 12 + ·) := List.mem_map_of_mem (List.mem_range.mpr hw)
      have hsome := List.filter_eq_nil_iff.mp (not_not.mp hinv) _ hmem
      have hwired := List.filter_eq_nil_iff.mp h _ hmem
      cases hfind : Tab.find t (set * 12 + w) with
      | none => simp [hfind] at hsome
      | some e => exact ⟨e, Tab.mem_of_find hfind, by simpa [hfind] using hwired⟩

/-- A set with fewer than 12 wired entries has a way to fill. -/
theorem tlbWay_isSome {t : Map TlbEnt} {set : Nat} (h : (t.filter (fun e => e.2.wired && e.1 / 12 == set)).length < 12) (free : Nat) :
    ∃ i, tlbWay t set free = some i := by
  have hways : tlbWays t set ≠ [] := fun hnil => by
    have hsub : (List.range 12).map (set * 12 + ·) ⊆ (t.filter (fun e => e.2.wired && e.1 / 12 == set)).map (·.1) := fun i hi => by
      obtain ⟨w, hw, rfl⟩ := List.mem_map.mp hi
      have hw := List.mem_range.mp hw
      obtain ⟨e, he, hwired⟩ := tlbWays_nil hnil hw
      refine List.mem_map.mpr ⟨_, List.mem_filter.mpr ⟨he, ?_⟩, rfl⟩
      simp only [hwired, Bool.true_and, beq_iff_eq]
      omega
    have hnodup : ((List.range 12).map (set * 12 + ·)).Nodup := List.nodup_range.map fun a b hab => Nat.add_left_cancel hab
    have hle := (hnodup.subperm hsub).length_le
    simp only [List.length_map, List.length_range] at hle
    omega
  exact ⟨_, by rw [tlbWay, if_neg hways]⟩

/-! ## The use of a way (R89) -/

/-- An entry of the L2 TLB once way i has been used; the bits of the other ways of its set are cleared where the set is full. -/
def touchedWay (i : Nat) (full : Bool) (d : Nat × TlbEnt) : Nat × TlbEnt :=
  if d.1 = i then (d.1, { d.2 with ref := true })
  else if full = true ∧ d.1 / 12 = i / 12 then (d.1, { d.2 with ref := false }) else d

theorem l2Touch_eq_map (t : Map TlbEnt) (i : Nat) : ∃ full, l2Touch t i = t.map (touchedWay i full) := by
  unfold l2Touch
  extract_lets marked set full
  refine ⟨full, ?_⟩
  split
  · next hfull =>
    rw [List.map_map]
    refine List.map_congr_left fun d _ => ?_
    by_cases hd : d.1 = i
    · simp [touchedWay, hd]
    · simp [touchedWay, hd, hfull, set]
  · next hfull =>
    refine List.map_congr_left fun d _ => ?_
    simp [touchedWay, hfull]

/-- A use changes no more of an entry than its bit. -/
theorem touchedWay_snd (i : Nat) (full : Bool) (d : Nat × TlbEnt) : ∃ r, (touchedWay i full d).2 = { d.2 with ref := r } := by
  unfold touchedWay
  split
  · exact ⟨true, rfl⟩
  · split
    · exact ⟨false, rfl⟩
    · exact ⟨d.2.ref, rfl⟩

theorem touchedWay_self {i : Nat} {e : TlbEnt} (h : e.ref = true) (full : Bool) : touchedWay i full (i, e) = (i, e) := by
  rw [touchedWay, if_pos rfl]
  simp [← h]

/-- What a fill of a set with room writes stands in the L2 TLB, and every other entry was there before but for its bit. -/
theorem l2Fill_entries {t : Map TlbEnt} {e : TlbEnt} (href : e.ref = true)
    (hroom : (t.filter (fun d => d.2.wired && d.1 / 12 == tlbSet e.vpn e.size)).length < 12) (free : Nat) :
    (l2Fill t free e).1.any (fun d => d.2 == e) = true ∧
      ∀ d ∈ (l2Fill t free e).1, d.2 ≠ e → ∃ b ∈ t, ∃ r, d.2 = { b.2 with ref := r } := by
  unfold l2Fill
  extract_lets kept
  have hkept : (kept.filter (fun d => d.2.wired && d.1 / 12 == tlbSet e.vpn e.size)).length < 12 :=
    Nat.lt_of_le_of_lt (List.filter_sublist.filter _).length_le hroom
  obtain ⟨i, hi⟩ := tlbWay_isSome hkept free
  rw [hi]
  obtain ⟨full, hmap⟩ := l2Touch_eq_map (Tab.set kept i e) i
  dsimp only
  rw [hmap]
  constructor
  · refine List.any_eq_true.mpr ⟨(i, e), ?_, by simp⟩
    exact List.mem_map.mpr ⟨(i, e), (Tab.mem_insertAt ..).mpr (.inl rfl), touchedWay_self href full⟩
  · intro d hd hne
    obtain ⟨b, hb, rfl⟩ := List.mem_map.mp hd
    rcases (Tab.mem_insertAt ..).mp hb with rfl | hb
    · rw [touchedWay_self href] at hne
      exact absurd rfl hne
    · exact ⟨b, List.mem_of_mem_filter ((Tab.mem_erase ..).mp hb).1, touchedWay_snd i full b⟩

/-! ## What the commands leave (R111 to R115) -/

/-- Core l is core k with other values of the software TLB's registers and other translation structures, and nothing else. -/
structure Core.StlbOnly (k l : Core) : Prop where
  csr : ∀ n, n ∉ [Csr.stlbcmd, Csr.stlbtag, Csr.stlbdata] → l.csr n = k.csr n
  rest : l = { k with regs := { k.regs with csr := l.regs.csr }, xlat := l.xlat }

section
variable {k l : Core}

theorem Core.StlbOnly.refl (k : Core) : k.StlbOnly k := ⟨fun _ _ => rfl, rfl⟩

theorem Core.StlbOnly.setCsr (h : k.StlbOnly l) {n : Nat} (hn : n ∈ [Csr.stlbcmd, Csr.stlbtag, Csr.stlbdata]) (v : Word) :
    k.StlbOnly (l.setCsr n v) :=
  ⟨fun m hm => (Core.csr_setCsr_ne _ _ _ _ (fun hmn : m = n => hm (hmn.symm ▸ hn))).trans (h.csr m hm),
    congrArg (fun m => m.setCsr n v) h.rest⟩

theorem Core.StlbOnly.stlbStatus (h : k.StlbOnly l) (st : Nat) : k.StlbOnly (l.stlbStatus st) := h.setCsr (by simp) _

theorem Core.StlbOnly.setXlat (h : k.StlbOnly l) (x : Xlat) : k.StlbOnly { l with xlat := x } :=
  ⟨h.csr, congrArg (fun m => ({ m with xlat := x } : Core)) h.rest⟩

theorem Core.stlbStatus_status (k : Core) {st : Nat} (h : st < 16) : fld ((k.stlbStatus st).csr Csr.stlbcmd) 63 60 = st := by
  rw [Core.stlbStatus, Core.csr_setCsr_same, fld_setFld_same _ _ (by decide)]
  exact Nat.mod_eq_of_lt h

/-- A field of stlbcmd below STATUS reads as before STATUS was set. -/
theorem Core.stlbStatus_fld (k : Core) (st : Nat) {hi lo : Nat} (h : hi < 60) :
    fld ((k.stlbStatus st).csr Csr.stlbcmd) hi lo = fld (k.csr Csr.stlbcmd) hi lo := by
  rw [Core.stlbStatus, Core.csr_setCsr_same, fld_setFld_other _ _ (.inl h)]

theorem Core.stlbStatus_bit (k : Core) (st : Nat) {i : Nat} (h : i < 60) :
    (k.stlbStatus st).csrBit Csr.stlbcmd i = k.csrBit Csr.stlbcmd i := by
  rw [csrBit_eq, Core.stlbStatus, Core.csr_setCsr_same, getLsbD_setFld_other _ _ (.inl h), csrBit_eq]

theorem Core.stlbStatus_csr (k : Core) (st : Nat) {n : Nat} (h : n ≠ Csr.stlbcmd) : (k.stlbStatus st).csr n = k.csr n :=
  Core.csr_setCsr_ne _ _ _ _ h

end

/-- A step that leaves core l in place of core k, where l differs in the software TLB alone. -/
theorem RunsTo.stlb {s t : State} {c : CoreId} {i : Instr} {l : Core} {n : Nat} {P : Core → Prop} (hi : exec i s = .next t)
    (ht : ({ s with free := n } : State).SetsCore t c l) (hl : (s.core c).StlbOnly l) (hP : P l) :
    RunsTo (exec i s) fun t => P (t.core c) ∧
      (∀ n, n ∉ [Csr.stlbcmd, Csr.stlbtag, Csr.stlbdata] → (t.core c).csr n = (s.core c).csr n) ∧
      t.core c = { s.core c with regs := { (s.core c).regs with csr := (t.core c).regs.csr }, xlat := (t.core c).xlat } ∧
      s.onlyCore t c := by
  have honly : s.onlyCore t c := ⟨ht.others, by rw [ht.beside]⟩
  refine ⟨t, hi, ?_, ?_, ?_, honly⟩ <;> rw [ht.core]
  · exact hP
  · exact hl.csr
  · exact hl.rest

section
variable {s : State} {c : CoreId} {i : Instr}

/-- A step that only sets STATUS. -/
theorem RunsTo.stlbStatus {st : Nat} (hst : st < 16) (hi : exec i s = .next (s.setCore c ((s.core c).stlbStatus st))) :
    RunsTo (exec i s) fun t =>
      fld ((t.core c).csr Csr.stlbcmd) 63 60 = st ∧ (t.core c).xlat = (s.core c).xlat ∧
      (∀ n, n ∉ [Csr.stlbcmd, Csr.stlbtag, Csr.stlbdata] → (t.core c).csr n = (s.core c).csr n) ∧
      t.core c = { s.core c with regs := { (s.core c).regs with csr := (t.core c).regs.csr }, xlat := (t.core c).xlat } ∧
      s.onlyCore t c := by
  simpa only [and_assoc] using RunsTo.stlb (n := s.free) (P := fun k => fld (k.csr Csr.stlbcmd) 63 60 = st ∧ k.xlat = (s.core c).xlat) hi
    (s.setsCore_setCore c _) ((Core.StlbOnly.refl _).stlbStatus st) ⟨Core.stlbStatus_status _ hst, rfl⟩

/-- A step that sets the translation structures, and STATUS to OK. -/
theorem RunsTo.stlbXlat {x : Xlat} {n : Nat} {Q : Xlat → Prop} (hQ : Q x)
    (hi : exec i s = .next (({ s with free := n } : State).setCore c (({ s.core c with xlat := x } : Core).stlbStatus 0))) :
    RunsTo (exec i s) fun t =>
      fld ((t.core c).csr Csr.stlbcmd) 63 60 = 0 ∧ Q (t.core c).xlat ∧
      (∀ n, n ∉ [Csr.stlbcmd, Csr.stlbtag, Csr.stlbdata] → (t.core c).csr n = (s.core c).csr n) ∧
      t.core c = { s.core c with regs := { (s.core c).regs with csr := (t.core c).regs.csr }, xlat := (t.core c).xlat } ∧
      s.onlyCore t c := by
  simpa only [and_assoc] using RunsTo.stlb (n := n) (P := fun k => fld (k.csr Csr.stlbcmd) 63 60 = 0 ∧ Q k.xlat) hi
    (State.setsCore_setCore _ c _) (((Core.StlbOnly.refl _).setXlat x).stlbStatus 0) ⟨Core.stlbStatus_status _ (by decide), hQ⟩

end

/-! ## What WRITE leaves (R114, R115) -/

/-- The translation structures after a WRITE of entry e, which takes a way that free number v picks. -/
def Xlat.stlbWritten (x : Xlat) (e : TlbEnt) (v : Nat) : Xlat :=
  { x.keep (fun d => !d.clash e) with l2tlb := (l2Fill (x.keep (fun d => !d.clash e)).l2tlb v e).1 }

/-- The entry stands in the L2 TLB, beside entries that do not clash with it. -/
theorem Xlat.stlbWritten_l2tlb {x : Xlat} {e : TlbEnt} (href : e.ref = true) (hroom : x.wiredIn (· == tlbSet e.vpn e.size) < 12) (v : Nat) :
    (x.stlbWritten e v).l2tlb.any (fun d => d.2 == e) = true ∧
      ∀ d ∈ (x.stlbWritten e v).l2tlb, d.2 ≠ e → d.2.clash e = false := by
  have hkept : ((x.keep (fun d => !d.clash e)).l2tlb.filter (fun d => d.2.wired && d.1 / 12 == tlbSet e.vpn e.size)).length < 12 :=
    Nat.lt_of_le_of_lt (List.filter_sublist.filter _).length_le hroom
  obtain ⟨hany, hother⟩ := l2Fill_entries href hkept v
  refine ⟨hany, fun d hd hne => ?_⟩
  obtain ⟨b, hb, r, hd⟩ := hother d hd hne
  have hclash : b.2.clash e = false := by simpa using List.of_mem_filter hb
  rw [hd]
  exact hclash

/-! ## The commands in M-mode -/

section
variable {s : State} {c : CoreId} (hrun : (s.core c).run = .run) (hset : (s.core c).pipe.settled = true) (hp : (s.core c).regs.priv = 3)
include hrun hset hp

theorem State.stlbOp_machine (act : State → State) :
    s.stlbOp c act = .next (if (s.core c).hewn then act s else s.setCore c ((s.core c).stlbStatus 5)) := by
  rw [State.stlbOp, State.serial_legal hrun hset (Core.vendorLegal_machine hp _)]

theorem State.stlbOp_notHewn (hmode : (s.core c).satpMode ≠ 14) (act : State → State) :
    s.stlbOp c act = .next (s.setCore c ((s.core c).stlbStatus 5)) := by
  rw [State.stlbOp_machine hrun hset hp, if_neg (by simpa [Core.hewn] using hmode)]

section
variable (hmode : (s.core c).satpMode = 14)
include hmode

theorem State.stlbOp_hewn (act : State → State) : s.stlbOp c act = .next (act s) := by
  rw [State.stlbOp_machine hrun hset hp, if_pos (by simp [Core.hewn, hmode])]

theorem exec_stlbcmdWrite_malformed (wired : Bool) (hbad : (s.core c).stlbBad = true) :
    exec (.stlbcmdWrite c wired) s = .next (s.setCore c ((s.core c).stlbStatus 2)) := by
  change execStlbcmdWrite c wired s = _
  rw [execStlbcmdWrite, State.stlbOp_hewn hrun hset hp hmode]
  simp [hbad]

theorem exec_stlbcmdWrite_overlaps {wired : Bool} (hbad : (s.core c).stlbBad = false)
    (hclash : (s.core c).xlat.l2tlb.any (fun d => d.2.wired && d.2.clash ((s.core c).stlbEntry wired)) = true) :
    exec (.stlbcmdWrite c wired) s = .next (s.setCore c ((s.core c).stlbStatus 3)) := by
  change execStlbcmdWrite c wired s = _
  rw [execStlbcmdWrite, State.stlbOp_hewn hrun hset hp hmode]
  simp only [hbad, hclash, Bool.false_eq_true, if_false, if_true]

theorem exec_stlbcmdWrite_full (hbad : (s.core c).stlbBad = false)
    (hclash : (s.core c).xlat.l2tlb.any (fun d => d.2.wired && d.2.clash ((s.core c).stlbEntry true)) = false)
    (hfull : 64 ≤ (s.core c).xlat.wiredIn (fun _ => true) ∨
      8 ≤ (s.core c).xlat.wiredIn (· == tlbSet ((s.core c).stlbEntry true).vpn ((s.core c).stlbEntry true).size)) :
    exec (.stlbcmdWrite c true) s = .next (s.setCore c ((s.core c).stlbStatus 4)) := by
  change execStlbcmdWrite c true s = _
  rw [execStlbcmdWrite, State.stlbOp_hewn hrun hset hp hmode]
  simp only [hbad, hclash, hfull, Bool.false_eq_true, if_false, and_self, if_true]

theorem exec_stlbcmdWrite_installs {wired : Bool} (hbad : (s.core c).stlbBad = false)
    (hclash : (s.core c).xlat.l2tlb.any (fun d => d.2.wired && d.2.clash ((s.core c).stlbEntry wired)) = false)
    (hfull : ¬ (wired = true ∧ (64 ≤ (s.core c).xlat.wiredIn (fun _ => true) ∨
      8 ≤ (s.core c).xlat.wiredIn (· == tlbSet ((s.core c).stlbEntry wired).vpn ((s.core c).stlbEntry wired).size)))) :
    exec (.stlbcmdWrite c wired) s = .next (({ s with free := s.free + 1 } : State).setCore c
      (({ s.core c with xlat := (s.core c).xlat.stlbWritten ((s.core c).stlbEntry wired) (Config.freeValue s.free).toNat } :
        Core).stlbStatus 0)) := by
  change execStlbcmdWrite c wired s = _
  rw [execStlbcmdWrite, State.stlbOp_hewn hrun hset hp hmode]
  simp only [hbad, hclash, hfull, Bool.false_eq_true, if_false]
  rfl

theorem exec_stlbcmdProbe_malformed (hsize : 5 < (s.core c).tagSize) :
    exec (.stlbcmdProbe c) s = .next (s.setCore c ((s.core c).stlbStatus 2)) := by
  change execStlbcmdProbe c s = _
  rw [execStlbcmdProbe, State.stlbOp_hewn hrun hset hp hmode]
  simp only [hsize, if_true]

theorem exec_stlbcmdProbe_misses (hsize : (s.core c).tagSize ≤ 5) (hfind : (s.core c).stlbFind = none) :
    exec (.stlbcmdProbe c) s = .next (s.setCore c ((s.core c).stlbStatus 1)) := by
  change execStlbcmdProbe c s = _
  rw [execStlbcmdProbe, State.stlbOp_hewn hrun hset hp hmode]
  simp only [Nat.not_lt.mpr hsize, if_false, hfind]

/-- PROBE finds an entry: its place and whether it is wired stand in stlbcmd. -/
theorem stlbcmdProbe_finds {i : Nat} {e : TlbEnt} (hsize : (s.core c).tagSize ≤ 5) (hfind : (s.core c).stlbFind = some (i, e))
    (hi : i < 3072) :
    RunsTo (exec (.stlbcmdProbe c) s) fun t =>
      fld ((t.core c).csr Csr.stlbcmd) 63 60 = 0 ∧ fld ((t.core c).csr Csr.stlbcmd) 19 8 = i ∧ (t.core c).csrBit Csr.stlbcmd 5 = e.wired ∧
      (t.core c).xlat = (s.core c).xlat ∧ (∀ n, n ∉ [Csr.stlbcmd, Csr.stlbtag, Csr.stlbdata] → (t.core c).csr n = (s.core c).csr n) ∧
      t.core c = { s.core c with regs := { (s.core c).regs with csr := (t.core c).regs.csr }, xlat := (t.core c).xlat } ∧ s.onlyCore t c := by
  have hexec : exec (.stlbcmdProbe c) s = .next (s.setCore c (((s.core c).setCsr Csr.stlbcmd
      (setFld (setFld ((s.core c).csr Csr.stlbcmd) 19 8 i) 5 5 (b2n e.wired))).stlbStatus 0)) := by
    change execStlbcmdProbe c s = _
    rw [execStlbcmdProbe, State.stlbOp_hewn hrun hset hp hmode]
    simp only [Nat.not_lt.mpr hsize, if_false, hfind]
  have hfields := RunsTo.stlb (n := s.free) (P := fun k => fld (k.csr Csr.stlbcmd) 63 60 = 0 ∧ fld (k.csr Csr.stlbcmd) 19 8 = i ∧
      k.csrBit Csr.stlbcmd 5 = e.wired ∧ k.xlat = (s.core c).xlat) hexec (s.setsCore_setCore c _)
    (((Core.StlbOnly.refl _).setCsr (by simp) _).stlbStatus 0) ⟨Core.stlbStatus_status _ (by decide), ?index, ?wired, rfl⟩
  case index =>
    rw [Core.stlbStatus_fld _ _ (by decide), Core.csr_setCsr_same, fld_setFld_other _ _ (.inr (by decide)), fld_setFld_same _ _ (by decide)]
    exact Nat.mod_eq_of_lt (by omega)
  case wired =>
    rw [Core.stlbStatus_bit _ _ (by decide), csrBit_eq, Core.csr_setCsr_same, getLsbD_setFld_bit _ _ (by decide)]
  simpa only [and_assoc] using hfields

end

/-! ### READ -/

/-- Core k with the index of READ in stlbcmd. -/
def Core.stlbIndexed (k : Core) (i : Nat) : Core := k.setCsr Csr.stlbcmd (setFld (k.csr Csr.stlbcmd) 19 8 i)

/-- Core k with an entry's fields in stlbtag and stlbdata. -/
def Core.stlbFields (k : Core) (tag data : Word) : Core := (k.setCsr Csr.stlbtag tag).setCsr Csr.stlbdata data

/-- Core k with those fields, and with whether the entry is wired in stlbcmd. -/
def Core.stlbLoaded (k : Core) (tag data : Word) (wired : Nat) : Core :=
  (k.stlbFields tag data).setCsr Csr.stlbcmd (setFld ((k.stlbFields tag data).csr Csr.stlbcmd) 5 5 wired)

section
variable {i : BitVec 12}

theorem exec_stlbcmdRead_beyond (hi : 3071 < i.toNat) :
    exec (.stlbcmdRead c i) s = .next (s.setCore c (((s.core c).stlbIndexed i.toNat).stlbStatus 6)) := by
  change execStlbcmdRead c i s = _
  rw [execStlbcmdRead, State.serial_legal hrun hset (Core.vendorLegal_machine hp _)]
  dsimp only
  rw [if_pos hi]
  rfl

variable (hi : i.toNat ≤ 3071)
include hi

theorem exec_stlbcmdRead_found {e : TlbEnt} (hfind : (Tab.find (s.core c).xlat.l2tlb i.toNat).filter (fun e => e.kind == .hewn) = some e) :
    exec (.stlbcmdRead c i) s = .next (s.setCore c ((((s.core c).stlbIndexed i.toNat).stlbLoaded
      (BitVec.ofNat 64 (e.asid * 2 ^ 48 + e.size * 2 ^ 45 + e.vpn)) e.pte (b2n e.wired)).stlbStatus 0)) := by
  change execStlbcmdRead c i s = _
  rw [execStlbcmdRead, State.serial_legal hrun hset (Core.vendorLegal_machine hp _)]
  simp only [Core.xlat_setCsr, hfind, if_neg (Nat.not_lt.mpr hi)]
  rw [Core.stlbLoaded, Core.stlbFields, Core.stlbIndexed]

/-- Where the place holds no HEWN entry, the fields take free values, V excepted. -/
theorem exec_stlbcmdRead_none (hfind : (Tab.find (s.core c).xlat.l2tlb i.toNat).filter (fun e => e.kind == .hewn) = none) :
    ∃ tag data, exec (.stlbcmdRead c i) s = .next (({ s with free := s.free + 2 } : State).setCore c
      ((((s.core c).stlbIndexed i.toNat).stlbLoaded tag (setFld data 0 0 0) 0).stlbStatus 0)) := by
  refine ⟨Config.freeValue s.free, Config.freeValue (s.free + 1), ?_⟩
  change execStlbcmdRead c i s = _
  rw [execStlbcmdRead, State.serial_legal hrun hset (Core.vendorLegal_machine hp _)]
  simp only [Core.xlat_setCsr, hfind, if_neg (Nat.not_lt.mpr hi), State.take]
  rw [Core.stlbLoaded, Core.stlbFields, Core.stlbIndexed]

end

end

section
variable (k : Core) (tag data : Word) (w : Nat)

theorem Core.stlbLoaded_cmd : (k.stlbLoaded tag data w).csr Csr.stlbcmd = setFld (k.csr Csr.stlbcmd) 5 5 w := by
  rw [Core.stlbLoaded, Core.csr_setCsr_same, Core.stlbFields, Core.csr_setCsr_ne _ _ _ _ (by decide), Core.csr_setCsr_ne _ _ _ _ (by decide)]

theorem Core.stlbLoaded_data : (k.stlbLoaded tag data w).csr Csr.stlbdata = data := by
  rw [Core.stlbLoaded, Core.csr_setCsr_ne _ _ _ _ (by decide), Core.stlbFields, Core.csr_setCsr_same]

theorem Core.stlbLoaded_tag : (k.stlbLoaded tag data w).csr Csr.stlbtag = tag := by
  rw [Core.stlbLoaded, Core.csr_setCsr_ne _ _ _ _ (by decide), Core.stlbFields, Core.csr_setCsr_ne _ _ _ _ (by decide),
    Core.csr_setCsr_same]

theorem Core.stlbIndexed_fld {i : Nat} (h : i < 4096) : fld ((k.stlbIndexed i).csr Csr.stlbcmd) 19 8 = i := by
  rw [Core.stlbIndexed, Core.csr_setCsr_same, fld_setFld_same _ _ (by decide)]
  exact Nat.mod_eq_of_lt h

theorem Core.stlbLoaded_xlat (i st : Nat) : (((k.stlbIndexed i).stlbLoaded tag data w).stlbStatus st).xlat = k.xlat := by
  rw [Core.stlbStatus, Core.xlat_setCsr, Core.stlbLoaded, Core.xlat_setCsr, Core.stlbFields, Core.xlat_setCsr, Core.xlat_setCsr,
    Core.stlbIndexed, Core.xlat_setCsr]

theorem Core.stlbIndexed_only (i : Nat) : k.StlbOnly (k.stlbIndexed i) := (Core.StlbOnly.refl k).setCsr (by simp) _

theorem Core.stlbLoaded_only (i : Nat) : k.StlbOnly ((k.stlbIndexed i).stlbLoaded tag data w) :=
  (((k.stlbIndexed_only i).setCsr (by simp) _).setCsr (by simp) _).setCsr (by simp) _

end

/-- The fields of stlbtag as READ packs them (R111). -/
theorem stlbtag_packs {asid size vpn : Nat} (ha : asid < 2 ^ 16) (hs : size < 8) (hv : vpn < 2 ^ 45) :
    fld (BitVec.ofNat 64 (asid * 2 ^ 48 + size * 2 ^ 45 + vpn)) 63 48 = asid ∧
      fld (BitVec.ofNat 64 (asid * 2 ^ 48 + size * 2 ^ 45 + vpn)) 47 45 = size ∧
      fld (BitVec.ofNat 64 (asid * 2 ^ 48 + size * 2 ^ 45 + vpn)) 44 0 = vpn := by
  simp only [fld, bits, BitVec.toNat_ofNat]
  omega

section
variable {s : State} {c : CoreId} {i : BitVec 12} (hrun : (s.core c).run = .run) (hset : (s.core c).pipe.settled = true)
  (hp : (s.core c).regs.priv = 3)
include hrun hset hp

theorem stlbcmdRead_loads {e : TlbEnt} (hi : i.toNat ≤ 3071) (hfind : Tab.find (s.core c).xlat.l2tlb i.toNat = some e)
    (hkind : e.kind = .hewn) (ha : e.asid < 2 ^ 16) (hs : e.size < 8) (hv : e.vpn < 2 ^ 45) :
    RunsTo (exec (.stlbcmdRead c i) s) fun t =>
      fld ((t.core c).csr Csr.stlbcmd) 63 60 = 0 ∧ fld ((t.core c).csr Csr.stlbcmd) 19 8 = i.toNat ∧
      (t.core c).csrBit Csr.stlbcmd 5 = e.wired ∧
      fld ((t.core c).csr Csr.stlbtag) 63 48 = e.asid ∧ fld ((t.core c).csr Csr.stlbtag) 47 45 = e.size ∧
      fld ((t.core c).csr Csr.stlbtag) 44 0 = e.vpn ∧ (t.core c).csr Csr.stlbdata = e.pte ∧
      (t.core c).xlat = (s.core c).xlat ∧ (∀ n, n ∉ [Csr.stlbcmd, Csr.stlbtag, Csr.stlbdata] → (t.core c).csr n = (s.core c).csr n) ∧
      t.core c = { s.core c with regs := { (s.core c).regs with csr := (t.core c).regs.csr }, xlat := (t.core c).xlat } ∧ s.onlyCore t c := by
  have hexec := exec_stlbcmdRead_found hrun hset hp hi (e := e) (by rw [hfind, Option.filter_some, hkind]; rfl)
  obtain ⟨hasid, hsize, hvpn⟩ := stlbtag_packs ha hs hv
  have hfields := RunsTo.stlb (n := s.free) (P := fun k => fld (k.csr Csr.stlbcmd) 63 60 = 0 ∧ fld (k.csr Csr.stlbcmd) 19 8 = i.toNat ∧
      k.csrBit Csr.stlbcmd 5 = e.wired ∧ fld (k.csr Csr.stlbtag) 63 48 = e.asid ∧ fld (k.csr Csr.stlbtag) 47 45 = e.size ∧
      fld (k.csr Csr.stlbtag) 44 0 = e.vpn ∧ k.csr Csr.stlbdata = e.pte ∧ k.xlat = (s.core c).xlat) hexec (s.setsCore_setCore c _)
    ((Core.stlbLoaded_only ..).stlbStatus 0)
    ⟨Core.stlbStatus_status _ (by decide), ?index, ?wired, ?asid, ?size, ?vpn, ?data, Core.stlbLoaded_xlat ..⟩
  case index =>
    rw [Core.stlbStatus_fld _ _ (by decide), Core.stlbLoaded_cmd, fld_setFld_other _ _ (.inr (by decide)),
      Core.stlbIndexed_fld _ (by omega)]
  case wired => rw [Core.stlbStatus_bit _ _ (by decide), csrBit_eq, Core.stlbLoaded_cmd, getLsbD_setFld_bit _ _ (by decide)]
  case asid => rw [Core.stlbStatus_csr _ _ (by decide), Core.stlbLoaded_tag, hasid]
  case size => rw [Core.stlbStatus_csr _ _ (by decide), Core.stlbLoaded_tag, hsize]
  case vpn => rw [Core.stlbStatus_csr _ _ (by decide), Core.stlbLoaded_tag, hvpn]
  case data => rw [Core.stlbStatus_csr _ _ (by decide), Core.stlbLoaded_data]
  simpa only [and_assoc] using hfields

theorem stlbcmdRead_other (hi : i.toNat ≤ 3071) (hother : ∀ e ∈ (s.core c).xlat.l2tlb, e.2.kind ≠ .hewn) :
    RunsTo (exec (.stlbcmdRead c i) s) fun t =>
      fld ((t.core c).csr Csr.stlbcmd) 63 60 = 0 ∧ (t.core c).csrBit Csr.stlbdata 0 = false ∧ (t.core c).xlat = (s.core c).xlat ∧
      (∀ n, n ∉ [Csr.stlbcmd, Csr.stlbtag, Csr.stlbdata] → (t.core c).csr n = (s.core c).csr n) ∧
      t.core c = { s.core c with regs := { (s.core c).regs with csr := (t.core c).regs.csr }, xlat := (t.core c).xlat } ∧ s.onlyCore t c := by
  have hnone : (Tab.find (s.core c).xlat.l2tlb i.toNat).filter (fun e => e.kind == .hewn) = none := by
    cases hfind : Tab.find (s.core c).xlat.l2tlb i.toNat with
    | none => rfl
    | some e => simp [Option.filter, hother _ (Tab.mem_of_find hfind)]
  obtain ⟨tag, data, hexec⟩ := exec_stlbcmdRead_none hrun hset hp hi hnone
  have hfields := RunsTo.stlb (n := s.free + 2) (P := fun k => fld (k.csr Csr.stlbcmd) 63 60 = 0 ∧ k.csrBit Csr.stlbdata 0 = false ∧
      k.xlat = (s.core c).xlat) hexec (State.setsCore_setCore _ c _) ((Core.stlbLoaded_only ..).stlbStatus 0)
    ⟨Core.stlbStatus_status _ (by decide), ?_, Core.stlbLoaded_xlat ..⟩
  · simpa only [and_assoc] using hfields
  · rw [csrBit_eq, Core.stlbStatus_csr _ _ (by decide), Core.stlbLoaded_data]
    exact getLsbD_setFld_bit _ false (by decide)

theorem stlbcmdRead_beyond (hi : 3071 < i.toNat) :
    RunsTo (exec (.stlbcmdRead c i) s) fun t =>
      fld ((t.core c).csr Csr.stlbcmd) 63 60 = 6 ∧ (t.core c).csr Csr.stlbtag = (s.core c).csr Csr.stlbtag ∧
      (t.core c).csr Csr.stlbdata = (s.core c).csr Csr.stlbdata ∧ (t.core c).xlat = (s.core c).xlat ∧
      (∀ n, n ∉ [Csr.stlbcmd, Csr.stlbtag, Csr.stlbdata] → (t.core c).csr n = (s.core c).csr n) ∧
      t.core c = { s.core c with regs := { (s.core c).regs with csr := (t.core c).regs.csr }, xlat := (t.core c).xlat } ∧ s.onlyCore t c := by
  have hexec := exec_stlbcmdRead_beyond hrun hset hp hi
  have hkeeps : ∀ {n}, n ≠ Csr.stlbcmd → (((s.core c).stlbIndexed i.toNat).stlbStatus 6).csr n = (s.core c).csr n := fun hn => by
    rw [Core.stlbStatus_csr _ _ hn, Core.stlbIndexed, Core.csr_setCsr_ne _ _ _ _ hn]
  simpa only [and_assoc] using RunsTo.stlb (n := s.free) (P := fun k => fld (k.csr Csr.stlbcmd) 63 60 = 6 ∧
      k.csr Csr.stlbtag = (s.core c).csr Csr.stlbtag ∧ k.csr Csr.stlbdata = (s.core c).csr Csr.stlbdata ∧ k.xlat = (s.core c).xlat)
    hexec (s.setsCore_setCore c _) ((Core.stlbIndexed_only ..).stlbStatus 6)
    ⟨Core.stlbStatus_status _ (by decide), hkeeps (by decide), hkeeps (by decide), rfl⟩

end

/-! ### Invalidations and the clauses -/

section
variable {s : State} {c : CoreId} (hrun : (s.core c).run = .run) (hset : (s.core c).pipe.settled = true) (hp : (s.core c).regs.priv = 3)
  (hmode : (s.core c).satpMode = 14)
include hrun hset hp hmode

/-- An invalidation keeps what its selection, a test q of the core's tag, does not name. -/
theorem stlbInval_keeps {i : Instr} {wired : Bool} {p : Core → TlbEnt → Bool} {q : TlbEnt → Bool} (hi : exec i s = s.stlbInval c wired p)
    (hq : ∀ e, (!(e.kind == .hewn && p (s.core c) e && (wired || !e.wired))) = q e) :
    RunsTo (exec i s) fun t =>
      fld ((t.core c).csr Csr.stlbcmd) 63 60 = 0 ∧ (t.core c).xlat = (s.core c).xlat.keep q ∧
      (∀ n, n ∉ [Csr.stlbcmd, Csr.stlbtag, Csr.stlbdata] → (t.core c).csr n = (s.core c).csr n) ∧
      t.core c = { s.core c with regs := { (s.core c).regs with csr := (t.core c).regs.csr }, xlat := (t.core c).xlat } ∧ s.onlyCore t c := by
  obtain rfl : (fun e : TlbEnt => !(e.kind == .hewn && p (s.core c) e && (wired || !e.wired))) = q := funext hq
  refine RunsTo.stlbXlat (n := s.free) (Q := fun x => x = _) rfl (hi.trans ?_)
  rw [State.stlbInval, State.stlbOp_hewn hrun hset hp hmode]

/-- WRITE installs the entry once what clashes with it has gone, in a set that has room (R114, R115). -/
theorem stlbcmdWrite_installs {wired : Bool} (hbad : (s.core c).stlbBad = false)
    (hclash : (s.core c).xlat.l2tlb.any (fun d => d.2.wired && d.2.clash ((s.core c).stlbEntry wired)) = false)
    (hset' : (s.core c).xlat.wiredIn (· == tlbSet ((s.core c).stlbEntry wired).vpn ((s.core c).stlbEntry wired).size) <
      (if wired then 8 else 12))
    (hall : wired = true → (s.core c).xlat.wiredIn (fun _ => true) < 64) :
    RunsTo (exec (.stlbcmdWrite c wired) s) fun t =>
      fld ((t.core c).csr Csr.stlbcmd) 63 60 = 0 ∧ (t.core c).xlat.l2tlb.any (fun e => e.2 == (s.core c).stlbEntry wired) = true ∧
      (∀ e ∈ (t.core c).xlat.l2tlb, e.2 ≠ (s.core c).stlbEntry wired → e.2.clash ((s.core c).stlbEntry wired) = false) ∧
      (∀ e ∈ (t.core c).xlat.dtlb, e.2.clash ((s.core c).stlbEntry wired) = false) ∧
      (∀ e ∈ (t.core c).xlat.itlb, e.2.clash ((s.core c).stlbEntry wired) = false) ∧
      (∀ n, n ∉ [Csr.stlbcmd, Csr.stlbtag, Csr.stlbdata] → (t.core c).csr n = (s.core c).csr n) ∧
      t.core c = { s.core c with regs := { (s.core c).regs with csr := (t.core c).regs.csr }, xlat := (t.core c).xlat } ∧ s.onlyCore t c := by
  have hfull : ¬ (wired = true ∧ (64 ≤ (s.core c).xlat.wiredIn (fun _ => true) ∨
      8 ≤ (s.core c).xlat.wiredIn (· == tlbSet ((s.core c).stlbEntry wired).vpn ((s.core c).stlbEntry wired).size))) := by
    rintro ⟨hw, h64 | h8⟩
    · exact absurd (hall hw) (Nat.not_lt.mpr h64)
    · rw [hw] at h8
      rw [hw, if_pos rfl] at hset'
      exact absurd hset' (Nat.not_lt.mpr h8)
  have hroom : (s.core c).xlat.wiredIn (· == tlbSet ((s.core c).stlbEntry wired).vpn ((s.core c).stlbEntry wired).size) < 12 :=
    Nat.lt_of_lt_of_le hset' (by split <;> decide)
  have hexec := exec_stlbcmdWrite_installs hrun hset hp hmode hbad hclash hfull
  obtain ⟨hany, hother⟩ := Xlat.stlbWritten_l2tlb (e := (s.core c).stlbEntry wired) rfl hroom (Config.freeValue s.free).toNat
  have hl1 : ∀ {t : Map TlbEnt}, ∀ d ∈ t.filter (fun d => !d.2.clash ((s.core c).stlbEntry wired)),
      d.2.clash ((s.core c).stlbEntry wired) = false := fun d hd => by simpa using List.of_mem_filter hd
  simpa only [and_assoc] using RunsTo.stlbXlat (Q := fun x => x.l2tlb.any (fun e => e.2 == (s.core c).stlbEntry wired) = true ∧
    (∀ e ∈ x.l2tlb, e.2 ≠ (s.core c).stlbEntry wired → e.2.clash ((s.core c).stlbEntry wired) = false) ∧
    (∀ e ∈ x.dtlb, e.2.clash ((s.core c).stlbEntry wired) = false) ∧
    (∀ e ∈ x.itlb, e.2.clash ((s.core c).stlbEntry wired) = false)) ⟨hany, hother, hl1, hl1⟩ hexec

end

/-- Settles O12: each command sets STATUS and, where it acts, what its clause names. -/
theorem softwareTlbCommands : Obligations.SoftwareTlbCommands := by
  refine ⟨fun s c wired hrun hset hp hmode hbad hclash hroom hall =>
      stlbcmdWrite_installs hrun hset hp hmode hbad hclash hroom hall,
    fun s c wired hrun hset hp hmode hbad => RunsTo.stlbStatus (by decide) (exec_stlbcmdWrite_malformed hrun hset hp hmode wired hbad),
    fun s c wired hrun hset hp hmode hbad hclash =>
      RunsTo.stlbStatus (by decide) (exec_stlbcmdWrite_overlaps hrun hset hp hmode hbad hclash),
    fun s c hrun hset hp hmode hbad hclash hfull =>
      RunsTo.stlbStatus (by decide) (exec_stlbcmdWrite_full hrun hset hp hmode hbad hclash hfull),
    fun s c i e hrun hset hp hmode hsize hfind hi => stlbcmdProbe_finds hrun hset hp hmode hsize hfind hi,
    fun s c hrun hset hp hmode hsize => RunsTo.stlbStatus (by decide) (exec_stlbcmdProbe_malformed hrun hset hp hmode hsize),
    fun s c hrun hset hp hmode hsize hfind => RunsTo.stlbStatus (by decide) (exec_stlbcmdProbe_misses hrun hset hp hmode hsize hfind),
    fun s c i e hrun hset hp hi hfind hkind ha hs hv => stlbcmdRead_loads hrun hset hp hi hfind hkind ha hs hv,
    fun s c i hrun hset hp hi hother => stlbcmdRead_other hrun hset hp hi hother,
    fun s c i hrun hset hp hi => stlbcmdRead_beyond hrun hset hp hi,
    fun s c wired hrun hset hp hmode => stlbInval_keeps hrun hset hp hmode (p := fun k e => e.covers k.tagVpn && (e.g || e.asid == k.tagAsid))
      rfl (fun e => by simp only [Bool.and_assoc]),
    fun s c wired hrun hset hp hmode => stlbInval_keeps hrun hset hp hmode (p := fun k e => !e.g && e.asid == k.tagAsid)
      rfl (fun e => by simp only [Bool.and_assoc]),
    fun s c wired hrun hset hp hmode => stlbInval_keeps hrun hset hp hmode (p := fun _ _ => true) rfl (fun e => rfl), ?notHewn⟩
  case notHewn =>
    intro s c wired i hrun hset hp hmode hi
    refine RunsTo.stlbStatus (by decide) ?_
    have hstop := State.stlbOp_notHewn hrun hset hp hmode
    simp only [List.mem_cons, List.not_mem_nil, or_false] at hi
    rcases hi with rfl | rfl | rfl | rfl | rfl <;> exact hstop _

end Sys2Proof.Machine
end

section
/-! PROOF. The statement of the walks (O13) that fails, with the state that refutes it. -/

namespace Sys2Proof.Machine

/-- A walk for page 5 that reads the last PTE, at 0x1028 of the table in line 64. -/
def lastPteWalk : Walk := { va := 0x5000, ctx := { priv := 1 }, level := 0, pa := 0x1028, src := .demand }

/-- The load of page 5 that waits for that walk. -/
def walkedLoad : Wait := { acc := { kind := .load, va := 0x5000, size := 8, dest := .x 7 }, ctx := { priv := 1 } }

/-- Core 0 runs in S-mode under Sv39 with that walk and that load. L2 holds the table's line, whose PTEs have V = 0, and the L2 TLB an
entry of page 5 with A = 0, which grants nothing (R98) and has not been used. -/
def walkBesideStaleEntry : State :=
  { base with cores := [(0,
    { run := .run
      regs := { priv := 1, csr := [(Csr.satp, 0x8000000000000001)] }
      xlat := { shim := true, l2tlb := [(60, { vpn := 5, pte := 0x3, ref := false })], walks := [(0, lastPteWalk)] }
      pipe := { waits := [walkedLoad], l2 := [(64, [{ line := 64 }])] } })] }

/-- Refutes O13: once the walk has ended without a fill its load is tried again, and looks up the TLBs again; the entry that matches
its page is used by that (R89), so the L2 TLB is not the one before. -/
theorem not_walksStartAndReadPtes : ¬ Obligations.WalksStartAndReadPtes := by
  unfold Obligations.WalksStartAndReadPtes
  rintro ⟨-, -, -, -, -, invalidPte, -⟩
  have run := invalidPte walkBesideStaleEntry 0 0 lastPteWalk { line := 64 } 0 walkedLoad (by decide +kernel) (by decide +kernel)
    (by decide +kernel) (by decide +kernel) rfl (by decide +kernel) (by decide +kernel) (by decide +kernel) (by decide)
    (by decide +kernel) (by decide +kernel) (by decide +kernel) (by decide +kernel)
  obtain ⟨-, kept, -⟩ := run.after base
  exact absurd (congrArg (List.map (·.2.ref)) kept) (by decide +kernel)

end Sys2Proof.Machine
end

section
/-! PROOF. What keeps each core's translation structures (O55): a frame lemma for each operation of the model that an idle state, a
reset or a boot performs, in the model's order, and what the operations that do change them leave. -/

namespace Sys2Proof.Machine

/-- Each core's translation structures as these cores hold them, with the bundle that runs and the mode. -/
def xlatView (cores : Map Core) (bundle : Bundle) (mode : Nat) : (Nat → Xlat) × Bundle × Nat :=
  (fun d => (Tab.get cores {} d).xlat, bundle, mode)

/-- Each core's translation structures, the bundle that runs and the mode. -/
def State.xlats (s : State) : (Nat → Xlat) × Bundle × Nat := xlatView s.cores s.plumb.running s.plumb.active

/-- A state written out holds what its cores and Plumb's registers say. -/
@[simp] theorem State.xlats_mk (cores studs homes tenons chans ports frames qos upmus sel threshold plumb power scribe pins off mtime
    refLost net ncOps ncBuf arb nqWait mem memPoison memFound memBad free pending) :
    State.xlats ⟨cores, studs, homes, tenons, chans, ports, frames, qos, upmus, sel, threshold, plumb, power, scribe, pins, off, mtime,
      refLost, net, ncOps, ncBuf, arb, nqWait, mem, memPoison, memFound, memBad, free, pending⟩ =
      xlatView cores plumb.running plumb.active := rfl

@[simp] theorem xlatView_state (s : State) : xlatView s.cores s.plumb.running s.plumb.active = s.xlats := rfl

theorem State.core_of_xlats {s t : State} (h : t.xlats = s.xlats) (d : Nat) : (t.core d).xlat = (s.core d).xlat :=
  congrArg (fun v => v.1 d) h

theorem State.mode_of_xlats {s t : State} (h : t.xlats = s.xlats) : t.mode = s.mode := congrArg (fun v => v.2.2) h

@[simp] theorem State.core_xlat (s : State) (d : Nat) : (s.core d).xlat = s.xlats.1 d := by
  rw [State.xlats, xlatView, State.core]

@[simp] theorem State.setCore_xlats (s : State) (c : Nat) (k : Core) (h : k.xlat = s.xlats.1 c) : (s.setCore c k).xlats = s.xlats := by
  refine Prod.ext (funext fun d => ?_) rfl
  change ((s.setCore c k).core d).xlat = _
  by_cases hd : d = c
  · rw [hd, State.core_setCore_same, h]
  · rw [State.core_setCore_ne _ _ _ _ hd, State.core_xlat]

@[simp] theorem State.setStud_xlats (s : State) (n : Nat) (v : Stud) : (s.setStud n v).xlats = s.xlats := by simp [State.setStud]
@[simp] theorem State.setHome_xlats (s : State) (n : Nat) (v : Home) : (s.setHome n v).xlats = s.xlats := by simp [State.setHome]
@[simp] theorem State.setTenon_xlats (s : State) (n : Nat) (v : Tenon) : (s.setTenon n v).xlats = s.xlats := by simp [State.setTenon]
@[simp] theorem State.setChan_xlats (s : State) (n : Nat) (v : Chan) : (s.setChan n v).xlats = s.xlats := by simp [State.setChan]
@[simp] theorem State.setPort_xlats (s : State) (n : Nat) (v : Port) : (s.setPort n v).xlats = s.xlats := by simp [State.setPort]
@[simp] theorem State.setFrame_xlats (s : State) (n : Nat) (v : Frame) : (s.setFrame n v).xlats = s.xlats := by simp [State.setFrame]

@[simp] theorem State.xlats_ite (c : Prop) [Decidable c] (s t : State) :
    (if c then s else t).xlats = if c then s.xlats else t.xlats := apply_ite ..

/-- Every step of g keeps the translation structures. -/
def KeepsXlats {α : Type} (g : State → α → State) : Prop := ∀ s a, (g s a).xlats = s.xlats

@[simp] theorem keepsXlats_iff {α : Type} (g : State → α → State) : KeepsXlats g ↔ ∀ s a, (g s a).xlats = s.xlats := Iff.rfl

/-- A fold of steps that each keep the translation structures keeps them. -/
@[simp] theorem foldl_xlats {α : Type} (g : State → α → State) (hg : KeepsXlats g) (l : List α) (s : State) :
    (l.foldl g s).xlats = s.xlats := by
  induction l generalizing s with
  | nil => rfl
  | cons a l ih => rw [List.foldl_cons, ih, hg]

/-- The same of a fold that carries a value beside the state. -/
theorem foldl_fst_xlats {α β : Type} (g : State × β → α → State × β) (hg : ∀ p a, (g p a).1.xlats = p.1.xlats) (l : List α)
    (p : State × β) : (l.foldl g p).1.xlats = p.1.xlats := by
  induction l generalizing p with
  | nil => rfl
  | cons a l ih => rw [List.foldl_cons, ih, hg]

/-! ### Power domains -/

@[simp] theorem State.setDom_xlats (s : State) (d st mv : Nat) : (s.setDom d st mv).xlats = s.xlats := by simp [State.setDom]

@[simp] theorem State.domOn_xlats (s : State) (d : Nat) : (s.domOn d).xlats = s.xlats := by simp [State.domOn]

@[simp] theorem State.domLow_xlats (s : State) (d : Nat) : (s.domLow d).xlats = s.xlats := by simp [State.domLow]

@[simp] theorem State.countVotes_xlats (s : State) (d : Nat) : (s.countVotes d).xlats = s.xlats := by simp [State.countVotes]

@[simp] theorem State.countAll_xlats (s : State) : s.countAll.xlats = s.xlats := by simp [State.countAll]

/-! ### Messages, interrupts and notices -/

@[simp] theorem State.eject_xlats (s : State) (m : Msg) : (s.eject m).xlats = s.xlats := by
  unfold State.eject
  split <;> simp

@[simp] theorem State.putMsg_xlats (s : State) (m : Msg) : (s.putMsg m).xlats = s.xlats := by simp [State.putMsg]

@[simp] theorem State.send_xlats (s : State) (m : Msg) : (s.send m).xlats = s.xlats := by simp [State.send]

@[simp] theorem State.route_xlats (s : State) (f : Nat) (m : Msg) : (s.route f m).xlats = s.xlats := by
  obtain h | ⟨o, h⟩ := s.route_cases f m
  · rw [h]
  · rw [h, State.send_xlats]

@[simp] theorem State.setMemLine_xlats (s : State) (k : Nat) (l : Line) (poison : Bool) : (s.setMemLine k l poison).xlats = s.xlats := by
  simp [State.setMemLine]

@[simp] theorem State.logLine_xlats (s : State) (e : LogEnt) : (s.logLine e).xlats = s.xlats := by simp [State.logLine]

@[simp] theorem State.noHart_xlats (s : State) (f h : Nat) : (s.noHart f h).xlats = s.xlats := by simp [State.noHart]

theorem Core.filePended_xlat (k : Core) (file id : Nat) : (k.filePended file id).xlat = k.xlat := by
  unfold Core.filePended
  split <;> rfl

/-- A step that replaces core c by one with the same translation structures. -/
theorem State.SetsCore.xlats {s t : State} {c : Nat} {k : Core} (h : s.SetsCore t c k) (hk : k.xlat = (s.core c).xlat) :
    t.xlats = s.xlats := by
  refine Prod.ext (funext fun d => h.keeps Core.xlat hk d) ?_
  rw [h.beside]
  rfl

@[simp] theorem State.imsicPut_xlats (s : State) (c file id : Nat) : (s.imsicPut c file id).xlats = s.xlats := by
  obtain ⟨b, h⟩ := s.imsicPut_setsCore c file id
  exact h.xlats (Core.filePended_xlat ..)

@[simp] theorem State.holdMsg_xlats (s : State) (n c : Nat) (m : Msg) : (s.holdMsg n c m).xlats = s.xlats := by
  simp [State.holdMsg]

@[simp] theorem State.msiOn_xlats (s : State) (c : Nat) (m : Msg) : (s.msiOn c m).xlats = s.xlats := by simp [State.msiOn]

@[simp] theorem State.msiTo_xlats (s : State) (from' : Option Nat) (f h file id : Nat) : (s.msiTo from' f h file id).xlats = s.xlats := by
  unfold State.msiTo
  split <;> simp

@[simp] theorem State.aplicSend_xlats (s : State) (f n : Nat) : (s.aplicSend f n).xlats = s.xlats := by simp [State.aplicSend]

@[simp] theorem State.aplicEdge_xlats (s : State) (f n : Nat) : (s.aplicEdge f n).xlats = s.xlats := by simp [State.aplicEdge]

@[simp] theorem State.deliverTo_xlats (s : State) (who : NqReader) (v : Word) : (s.deliverTo who v).xlats = s.xlats := by
  unfold State.deliverTo
  split <;> simp

@[simp] theorem State.postFrame_xlats (s : State) (f : Nat) (n : Word) : (s.postFrame f n).xlats = s.xlats := by
  unfold State.postFrame
  dsimp only
  repeat' split
  all_goals simp

@[simp] theorem State.postPort_xlats (s : State) (p : Nat) (n : Word) : (s.postPort p n).xlats = s.xlats := by simp [State.postPort]

@[simp] theorem State.post_xlats (s : State) (frames : List Nat) (n : Word) : (s.post frames n).xlats = s.xlats := by simp [State.post]

/-! ### Records and reports -/

@[simp] theorem State.setRec_xlats (s : State) (kind inst : Nat) (r : Rec) : (s.setRec kind inst r).xlats = s.xlats := by
  simp [State.setRec]

@[simp] theorem State.recAdd_xlats (s : State) (kind inst bin k : Nat) : (s.recAdd kind inst bin k).xlats = s.xlats := by
  simp [State.recAdd]

@[simp] theorem State.pkgEvent_xlats (s : State) (bin : Nat) : (s.pkgEvent bin).xlats = s.xlats := by simp [State.pkgEvent]

@[simp] theorem State.cmdEvent_xlats (s : State) (bin : Nat) : (s.cmdEvent bin).xlats = s.xlats := by simp [State.cmdEvent]

@[simp] theorem State.report_xlats (s : State) (e : ErrEv) : (s.report e).xlats = s.xlats := by
  unfold State.report
  repeat' split
  all_goals simp

/-! ### Traps -/

theorem Core.endWrs_xlat (k : Core) : k.endWrs.xlat = k.xlat := by
  unfold Core.endWrs
  split <;> rfl

@[simp] theorem Core.loseResv_xlat (k : Core) : k.loseResv.xlat = k.xlat := by
  unfold Core.loseResv
  split
  · rw [Core.endWrs_xlat]
  · rfl

@[simp] theorem Core.loseLine_xlat (k : Core) (line : Nat) : (k.loseLine line).xlat = k.xlat := by
  unfold Core.loseLine
  split
  · exact k.loseResv_xlat
  · rfl

@[simp] theorem Core.dropLine_xlat (k : Core) (line : Nat) : (k.dropLine line).xlat = k.xlat := by
  rw [Core.dropLine, Core.loseLine_xlat]

theorem Core.snoopLine_xlat (k : Core) (vO : Bool) (op : MsgOp) (e : L2Line) : (k.snoopLine vO op e).core.xlat = k.xlat := by
  unfold Core.snoopLine
  dsimp only
  repeat' split
  all_goals simp [Core.setLine]

theorem Core.snoopWb_xlat (k : Core) (vO : Bool) (op : MsgOp) (i : Nat) (sl : Slot) (d : Line) (st : LSt) (pz : Bool) :
    (k.snoopWb vO op i sl d st pz).core.xlat = k.xlat := by
  unfold Core.snoopWb
  dsimp only
  repeat' split
  all_goals rfl

@[simp] theorem Core.snoop_xlat (k : Core) (vO : Bool) (op : MsgOp) (line : Nat) : (k.snoop vO op line).core.xlat = k.xlat := by
  unfold Core.snoop
  split
  · exact k.snoopLine_xlat ..
  · split
    · split
      · exact k.snoopWb_xlat ..
      · rfl
    · rfl

@[simp] theorem State.l2Check_xlats (s : State) (c line : Nat) : (s.l2Check c line).xlats = s.xlats := by
  unfold State.l2Check
  dsimp only
  split <;> simp

@[simp] theorem State.snoopCores_xlats (s : State) (op : MsgOp) (line : Nat) (cs : List Nat) :
    (s.snoopCores op line cs).1.xlats = s.xlats := by
  unfold State.snoopCores
  refine (foldl_fst_xlats _ (fun p c => ?_) cs _).trans rfl
  simp

@[simp] theorem State.answerSnoop_xlats (s : State) (m : Msg) (studs : List Nat) (agent : Nat) :
    (s.answerSnoop m studs agent).xlats = s.xlats := by
  unfold State.answerSnoop
  dsimp only
  repeat' split
  all_goals simp

@[simp] theorem State.releaseHold_xlats (s : State) (c : Nat) : (s.releaseHold c).xlats = s.xlats := by simp [State.releaseHold]

@[simp] theorem State.trapCore_xlats (s : State) (c : Nat) (t : Trap) : (s.trapCore c t).xlats = s.xlats := by
  simp [State.trapCore]

@[simp] theorem State.illegal_xlats (s : State) (c : Nat) (virt : Bool) : (s.illegal c virt).xlats = s.xlats := by simp [State.illegal]

/-! ### TENON links -/

@[simp] theorem State.setTdir_xlats (s : State) (n : Nat) (d : TDirId) (v : TenonDir) : (s.setTdir n d v).xlats = s.xlats := by
  simp [State.setTdir]

@[simp] theorem State.mapChanged_xlats (s : State) : s.mapChanged.xlats = s.xlats := by simp [State.mapChanged]

@[simp] theorem State.tenonCross_xlats (s : State) (n : Nat) (d : TDirId) (g : Nat) (xs : List Cross) :
    (s.tenonCross n d g xs).xlats = s.xlats := by
  simp [State.tenonCross]

@[simp] theorem State.rotate_xlats (s : State) (n : Nat) (d : TDirId) : (s.rotate n d).xlats = s.xlats := by
  unfold State.rotate
  dsimp only
  repeat' split
  all_goals simp

@[simp] theorem State.runDeferred_xlats (s : State) (n : Nat) (d : TDirId) : (s.runDeferred n d).xlats = s.xlats := by
  simp [State.runDeferred]

@[simp] theorem State.heldMsg_xlats (s : State) (m : Msg) : (s.heldMsg m).xlats = s.xlats := by simp [State.heldMsg]

@[simp] theorem State.unpark_xlats (s : State) (n : Nat) : (s.unpark n).xlats = s.xlats := by simp [State.unpark]

@[simp] theorem State.tenonDown_xlats (s : State) (n : Nat) : (s.tenonDown n).xlats = s.xlats := by simp [State.tenonDown]

@[simp] theorem State.tenonTrains_xlats (s : State) (n : Nat) : (s.tenonTrains n).xlats = s.xlats := by simp [State.tenonTrains]

@[simp] theorem State.trainTenon_xlats (s : State) (n : Nat) (found : List Finding) (fails : Nat) (ident : Bool) :
    (s.trainTenon n found fails ident).1.xlats = s.xlats := by
  simp [State.trainTenon]

/-! ### Memory -/

@[simp] theorem State.zeroLines_xlats (s : State) (c x0 n : Nat) : (s.zeroLines c x0 n).xlats = s.xlats := by simp [State.zeroLines]

@[simp] theorem State.clearRegion_xlats (s : State) (ch region : Nat) : (s.clearRegion ch region).xlats = s.xlats := by
  simp [State.clearRegion]

@[simp] theorem State.landWrites_xlats (s : State) (c : Nat) : (s.landWrites c).xlats = s.xlats := by
  unfold State.landWrites
  rw [foldl_xlats _ (by simp)]

@[simp] theorem State.landPosted_xlats (s : State) (p : Nat) : (s.landPosted p).xlats = s.xlats := by
  unfold State.landPosted
  refine foldl_xlats _ (fun s x => foldl_xlats _ (fun s l => ?_) _ _) _ _
  dsimp only
  split <;> simp

@[simp] theorem State.eraseBench_xlats (s : State) (b : Nat) : (s.eraseBench b).xlats = s.xlats := by simp [State.eraseBench]

@[simp] theorem State.setBench_xlats (s : State) (b w : Nat) : (s.setBench b w).xlats = s.xlats := by simp [State.setBench]

/-! ### Idle states -/

@[simp] theorem State.applyFreq_xlats (s : State) (n : Nat) : (s.applyFreq n).xlats = s.xlats := by simp [State.applyFreq]

@[simp] theorem State.pllStop_xlats (s : State) (n : Nat) : (s.pllStop n).xlats = s.xlats := by simp [State.pllStop]

@[simp] theorem State.updateStud_xlats (s : State) (n : Nat) : (s.updateStud n).xlats = s.xlats := by simp [State.updateStud]

@[simp] theorem State.studUp_xlats (s : State) (n : Nat) : (s.studUp n).xlats = s.xlats := by simp [State.studUp]

/-- A change of clock writes mclksel and the clock that the core moves to. -/
theorem Core.startSwitch_clocks (k : Core) (pll : Bool) : ∃ r c, k.startSwitch pll = { k with regs := r, clk := c } := by
  unfold Core.startSwitch
  split
  · exact ⟨k.regs, k.clk, rfl⟩
  · exact ⟨_, _, rfl⟩

theorem Core.pllUp_clocks (k : Core) : ∃ r c, k.pllUp = { k with regs := r, clk := c } := by
  unfold Core.pllUp
  dsimp only
  split
  · exact Core.startSwitch_clocks _ true
  · split
    · exact Core.startSwitch_clocks _ true
    · exact ⟨_, _, rfl⟩

theorem Core.onDroop_clocks (k : Core) (ready : Bool) : ∃ r c, k.onDroop ready = { k with regs := r, clk := c } := by
  unfold Core.onDroop
  dsimp only
  split
  · exact Core.pllUp_clocks _
  · exact ⟨_, _, rfl⟩

@[simp] theorem Core.onDroop_xlat (k : Core) (ready : Bool) : (k.onDroop ready).xlat = k.xlat := by
  obtain ⟨r, c, h⟩ := k.onDroop_clocks ready
  rw [h]

theorem Core.onDroop_pipe (k : Core) (ready : Bool) : (k.onDroop ready).pipe = k.pipe := by
  obtain ⟨r, c, h⟩ := k.onDroop_clocks ready
  rw [h]

@[simp] theorem State.releaseCore_xlats (s : State) (c : Nat) : (s.releaseCore c).xlats = s.xlats := by
  simp [State.releaseCore]

/-! ### Boot -/

@[simp] theorem State.countCheckers_xlats (s : State) (codes : List Nat) : (s.countCheckers codes).xlats = s.xlats := by
  simp [State.countCheckers]

@[simp] theorem State.raiseBay_xlats (s : State) (b : Nat) (env : BootEnv) : (s.raiseBay b env).xlats = s.xlats := by simp [State.raiseBay]

@[simp] theorem State.raisePort_xlats (s : State) (p : Nat) (booted : Bool) : (s.raisePort p booted).xlats = s.xlats := by
  simp [State.raisePort]

@[simp] theorem State.refuseJoin_xlats (s : State) (f reason : Nat) : (s.refuseJoin f reason).xlats = s.xlats := by simp [State.refuseJoin]

@[simp] theorem State.countCheck_xlats (s : State) (f : Nat) : (s.countCheck f).xlats = s.xlats := by simp [State.countCheck]

@[simp] theorem State.loadBench_xlats (s : State) (f cause minSvn : Nat) : (s.loadBench f cause minSvn).xlats = s.xlats := by
  simp [State.loadBench]

@[simp] theorem State.measureFrame_xlats (s : State) (f : Nat) : (s.measureFrame f).xlats = s.xlats := by simp [State.measureFrame]

@[simp] theorem State.releaseFrame_xlats (s : State) (f cause : Nat) (extra : List (Nat × Nat × Nat)) :
    (s.releaseFrame f cause extra).xlats = s.xlats := by
  unfold State.releaseFrame
  dsimp only
  split <;> simp

@[simp] theorem State.domainsOn_xlats (s : State) : s.domainsOn.xlats = s.xlats := by simp [State.domainsOn]

@[simp] theorem State.readModes_xlats (s : State) (env : BootEnv) : (s.readModes env).xlats = s.xlats := by simp [State.readModes]

end Sys2Proof.Machine
end

section
/-! PROOF. What a reset and an idle state leave of the translation structures (R92): the replies of a command, the wiping of studs and
frames, and a core that wakes. -/

namespace Sys2Proof.Machine

/-! ## Replies (R315, R323) -/

/-- From s to t there may be messages and replies that s had not sent, and transports may have been lost; cores, studs, tenon links,
the bundle and the mode, which frames have halted and which ports are in recovery are the same. -/
structure State.Answers (s t : State) : Prop where
  cores : t.cores = s.cores
  studs : t.studs = s.studs
  tenons : t.tenons = s.tenons
  running : t.plumb.running = s.plumb.running
  active : t.plumb.active = s.plumb.active
  halted : ∀ f, (t.frame f).halted = (s.frame f).halted
  recovers : ∀ p, (t.port p).dt.rec_ = (s.port p).dt.rec_

theorem State.Answers.refl (s : State) : s.Answers s := ⟨rfl, rfl, rfl, rfl, rfl, fun _ => rfl, fun _ => rfl⟩

theorem State.Answers.trans {s t u : State} (h : s.Answers t) (h' : t.Answers u) : s.Answers u :=
  ⟨h'.cores.trans h.cores, h'.studs.trans h.studs, h'.tenons.trans h.tenons, h'.running.trans h.running, h'.active.trans h.active,
    fun f => (h'.halted f).trans (h.halted f), fun p => (h'.recovers p).trans (h.recovers p)⟩

/-- The same, the later part first: it says which state lies between. -/
theorem State.Answers.after {s t u : State} (h' : t.Answers u) (h : s.Answers t) : s.Answers u := h.trans h'

theorem State.Answers.foldl {α : Type} {g : State → α → State} (hg : ∀ (s : State) a, s.Answers (g s a)) (l : List α) (s : State) :
    s.Answers (l.foldl g s) := by
  induction l generalizing s with
  | nil => exact .refl s
  | cons a l ih => exact (hg s a).trans (ih _)

/-- A change beside what an answer keeps. -/
theorem State.Answers.beside {s t : State} (hcores : t.cores = s.cores := by rfl) (hstuds : t.studs = s.studs := by rfl)
    (htenons : t.tenons = s.tenons := by rfl) (hframes : t.frames = s.frames := by rfl) (hports : t.ports = s.ports := by rfl)
    (hrunning : t.plumb.running = s.plumb.running := by rfl) (hactive : t.plumb.active = s.plumb.active := by rfl) : s.Answers t :=
  ⟨hcores, hstuds, htenons, hrunning, hactive, fun f => by rw [State.frame, hframes, State.frame],
    fun p => by rw [State.port, hports, State.port]⟩

theorem State.Answers.xlats {s t : State} (h : s.Answers t) : t.xlats = s.xlats := by
  rw [State.xlats, h.cores, h.running, h.active, xlatView_state]

theorem State.Answers.mode {s t : State} (h : s.Answers t) : t.mode = s.mode := h.active

theorem State.Answers.core {s t : State} (h : s.Answers t) (d : Nat) : t.core d = s.core d := by rw [State.core, h.cores, State.core]

theorem State.Answers.stud {s t : State} (h : s.Answers t) (n : Nat) : t.stud n = s.stud n := by rw [State.stud, h.studs, State.stud]

theorem State.Answers.tenon {s t : State} (h : s.Answers t) (n : Nat) : t.tenon n = s.tenon n := by
  rw [State.tenon, h.tenons, State.tenon]

theorem State.Answers.setFrame {s : State} {f : Nat} {fr : Frame} (h : fr.halted = (s.frame f).halted) : s.Answers (s.setFrame f fr) := by
  refine ⟨rfl, rfl, rfl, rfl, rfl, fun g => ?_, fun _ => rfl⟩
  by_cases hg : g = f
  · rw [hg, State.frame_setFrame_same, h]
  · rw [State.frame_setFrame_ne _ _ _ _ hg]

theorem State.Answers.setPort {s : State} {p : Nat} {k : Port} (h : k.dt.rec_ = (s.port p).dt.rec_) : s.Answers (s.setPort p k) := by
  refine ⟨rfl, rfl, rfl, rfl, rfl, fun _ => rfl, fun q => ?_⟩
  by_cases hq : q = p
  · rw [hq, State.port_setPort_same, h]
  · rw [State.port_setPort_ne _ _ _ _ hq]

theorem State.send_answers (s : State) (m : Msg) : s.Answers (s.send m) := by
  unfold State.send State.putMsg State.eject
  dsimp only
  repeat' split
  · exact .setPort rfl
  · exact .refl s
  · exact .beside
  · exact .beside
  · exact .refl s

theorem State.route_answers (s : State) (f : Nat) (m : Msg) : s.Answers (s.route f m) := by
  obtain h | ⟨o, h⟩ := s.route_cases f m <;> rw [h]
  · exact .refl s
  · exact s.send_answers _

theorem State.ncSend_answers (s : State) (o : NcOwner) (x : NcOp) : s.Answers (s.ncSend o x) := by
  unfold State.ncSend
  dsimp only
  split
  · exact (State.route_answers _ _ _).after .beside
  · exact .beside

theorem State.ncWrite_answers (s : State) (o : NcOwner) (pa : Nat) (b : List Byte) : s.Answers (s.ncWrite o pa b) :=
  .foldl (fun s _ => s.ncSend_answers o _) _ s

theorem State.loseTransport_answers (s : State) (t : TInst) : s.Answers (s.loseTransport t) := by
  unfold State.loseTransport
  dsimp only
  split
  · exact State.Answers.trans .beside (.setFrame rfl)
  · exact State.Answers.trans .beside (.setPort rfl)
  · exact .beside

theorem State.ringFail_answers (s : State) (f bit : Nat) : s.Answers (s.ringFail f bit) := by
  unfold State.ringFail
  exact (State.loseTransport_answers _ _).after (.setFrame rfl)

theorem State.pumpRing_answers (s : State) (f : Nat) : s.Answers (s.pumpRing f) := by
  unfold State.pumpRing
  dsimp only
  split
  · exact .refl s
  · split
    · exact .refl s
    · split
      · exact s.ringFail_answers f 1
      · exact (State.ncWrite_answers _ _ _ _).after (.setFrame rfl)

theorem Dovetail.rec_wake (d : Dovetail) : d.wake.rec_ = d.rec_ := by
  unfold Dovetail.wake
  split <;> rfl

theorem Dovetail.rec_vector (d : Dovetail) (v : Nat) : (d.vector v).rec_ = d.rec_ := by
  unfold Dovetail.vector
  dsimp only
  split
  · rfl
  · split
    · exact d.rec_wake
    · rfl

theorem State.pumpMailbox_answers (s : State) (p n : Nat) : s.Answers (s.pumpMailbox p n) := by
  induction n generalizing s with
  | zero => exact .refl s
  | succ m ih =>
    unfold State.pumpMailbox
    dsimp only
    split
    · exact .refl s
    · split
      · exact .refl s
      · refine ((ih _).after .beside).after (.setPort ?_)
        change (Dovetail.vector _ 0).rec_ = _
        rw [Dovetail.rec_vector]
        exact Dovetail.rec_wake _

theorem State.pumpReplies_answers (s : State) (t : TInst) : s.Answers (s.pumpReplies t) := by
  unfold State.pumpReplies
  split
  · exact .refl s
  · exact s.pumpRing_answers _
  · exact s.pumpMailbox_answers _ _

theorem State.putReply_answers (s : State) (t : TInst) (own : Bool) (taken : Nat) (b : List Byte) (holds : Bool) :
    s.Answers (s.putReply t own taken b holds) := by
  have hwait : ∀ (u : State) (d : List Dead), u.Answers (if holds then { u with plumb := { u.plumb with dead := d } } else u) := fun u d => by
    split
    · exact .beside
    · exact .refl u
  unfold State.putReply
  dsimp only
  split
  · exact .beside
  · exact ((State.pumpReplies_answers _ _).after (hwait _ _)).after (.setFrame rfl)
  · exact ((State.pumpReplies_answers _ _).after (hwait _ _)).after (.setPort rfl)

theorem State.accepted_answers (s : State) (j : Job) : s.Answers (s.accepted j) := by
  unfold State.accepted
  split
  · exact .refl s
  · exact (State.putReply_answers _ _ _ _ _ _).after .beside

@[simp] theorem State.pumpReplies_xlats (s : State) (t : TInst) : (s.pumpReplies t).xlats = s.xlats := (s.pumpReplies_answers t).xlats

@[simp] theorem State.sendReply_xlats (s : State) (t : TInst) (own : Bool) (taken : Nat) (b : List Byte) :
    (s.sendReply t own taken b).xlats = s.xlats := (s.putReply_answers ..).xlats

@[simp] theorem State.accepted_xlats (s : State) (j : Job) : (s.accepted j).xlats = s.xlats := (s.accepted_answers j).xlats

@[simp] theorem State.loseTransport_xlats (s : State) (t : TInst) : (s.loseTransport t).xlats = s.xlats := (s.loseTransport_answers t).xlats

@[simp] theorem State.commandDone_xlats (s : State) (t : TInst) (op tag status : Nat) : (s.commandDone t op tag status).xlats = s.xlats := by
  unfold State.commandDone
  split <;> simp

@[simp] theorem State.countEnd_xlats (s : State) (status : Nat) : (s.countEnd status).xlats = s.xlats := by simp [State.countEnd]

@[simp] theorem State.finalReply_xlats (s : State) (j : Job) (status detail : Nat) (payload : List Byte) :
    (s.finalReply j status detail payload).xlats = s.xlats := by
  simp [State.finalReply]

@[simp] theorem State.markBusy_xlats (s : State) (j : Job) (on : Bool) : (s.markBusy j on).xlats = s.xlats := by simp [State.markBusy]

/-! ## A port at a frame reset (R309) -/

@[simp] theorem State.dtCfg_xlats (s : State) (p : Nat) (v : Word) : (s.dtCfg p v).xlats = s.xlats := by simp [State.dtCfg, State.setDt]

@[simp] theorem State.dtCommit_xlats (s : State) (p : Nat) : (s.dtCommit p).xlats = s.xlats := by simp [State.dtCommit, State.setDt]

@[simp] theorem State.barWrite_xlats (s : State) (p o : Nat) (lo : Bool) (v raw : Word) : (s.barWrite p o lo v raw).xlats = s.xlats := by
  unfold State.barWrite
  split <;> simp [State.setDt]

@[simp] theorem State.performRegs_xlats (s : State) (p : Nat) : (s.performRegs p).xlats = s.xlats := by
  simp [State.performRegs, State.barStore]

@[simp] theorem State.framePort_xlats (s : State) (p : Nat) : (s.framePort p).xlats = s.xlats := by simp [State.framePort]

/-! ## Wiped studs and frames (R444, R445) -/

/-- The cores of these studs hold nothing; everything else of the view is as it was. -/
def studsCleared (l : List Nat) (v : (Nat → Xlat) × Bundle × Nat) : (Nat → Xlat) × Bundle × Nat :=
  (fun d => if d / 32 ∈ l then {} else v.1 d, v.2)

theorem studsCleared_nil (v : (Nat → Xlat) × Bundle × Nat) : studsCleared [] v = v := by simp [studsCleared]

theorem studsCleared_append (l m : List Nat) (v : (Nat → Xlat) × Bundle × Nat) :
    studsCleared m (studsCleared l v) = studsCleared (l ++ m) v := by
  refine Prod.ext (funext fun d => ?_) rfl
  by_cases hl : d / 32 ∈ l <;> by_cases hm : d / 32 ∈ m <;> simp [studsCleared, hl, hm]

theorem studsCleared_mem {l : List Nat} {d : Nat} (h : d / 32 ∈ l) (v : (Nat → Xlat) × Bundle × Nat) : (studsCleared l v).1 d = {} :=
  if_pos h

/-- The entries whose key a test leaves. -/
theorem Tab.get_filter_key {α : Type} (t : Map α) (d : α) (p : Nat → Bool) (k : Nat) :
    Tab.get (t.filter (fun e => p e.1)) d k = if p k then Tab.get t d k else d := by
  unfold Tab.get
  induction t with
  | nil => simp [Tab.find]
  | cons e r ih =>
    obtain ⟨j, v⟩ := e
    by_cases hj : j = k
    · subst hj
      by_cases hp : p j <;> simp_all [Tab.find]
    · by_cases hp : p j <;> simp_all [Tab.find]

/-- The cores of a wiped stud are as at reset, the others as they were. -/
theorem State.wipeStud_core (s : State) (n : Nat) (held : Bool) (d : Nat) :
    (s.wipeStud n held).core d = if d / 32 = n then {} else s.core d := by
  change Tab.get (s.cores.filter (fun e => e.1 / 32 != n)) {} d = _
  rw [Tab.get_filter_key _ _ (fun i => i / 32 != n)]
  by_cases hd : d / 32 = n <;> simp [hd, State.core]

theorem State.wipeStud_xlats (s : State) (n : Nat) (held : Bool) : (s.wipeStud n held).xlats = studsCleared [n] s.xlats := by
  refine Prod.ext (funext fun d => ?_) rfl
  rw [← State.core_xlat, State.wipeStud_core]
  by_cases hd : d / 32 = n <;> simp [studsCleared, hd]

@[simp] theorem State.ncForget_xlats (s : State) (f : Nat) : (s.ncForget f).xlats = s.xlats := by simp [State.ncForget]

/-- The studs that these steps wipe hold nothing, and the steps leave the rest. -/
theorem foldl_wipes {α : Type} {g : State → α → State} {studs : α → List Nat} {P : State → Prop} (hP : ∀ s a, P s → P (g s a))
    (hg : ∀ s a, P s → (g s a).xlats = studsCleared (studs a) s.xlats) (l : List α) {s : State} (hs : P s) :
    (l.foldl g s).xlats = studsCleared (l.flatMap studs) s.xlats := by
  induction l generalizing s with
  | nil => rw [List.foldl_nil, List.flatMap_nil, studsCleared_nil]
  | cons a l ih => rw [List.foldl_cons, ih (hP s a hs), hg s a hs, studsCleared_append, List.flatMap_cons]

theorem State.mode_eq_xlats (s : State) : s.mode = s.xlats.2.2 := rfl

/-- The cores of the frame's studs hold nothing, the others what they held. -/
theorem State.wipeFrame_xlats (s : State) (f : Nat) : (s.wipeFrame f).xlats = studsCleared (studsOf s.mode f) s.xlats := by
  unfold State.wipeFrame
  simp only [State.xlats_mk, State.setBw, xlatView_state, State.loseTransport_xlats, foldl_xlats, keepsXlats_iff, State.setHome_xlats,
    implies_true]
  rw [foldl_wipes (P := fun _ => True) (studs := fun n => [n]) (fun _ _ _ => trivial) (fun s n _ => by simp [State.wipeStud_xlats]) _ trivial]
  simp [State.mode_eq_xlats]

/-! ## The wiping of every frame (R443) -/

theorem State.wipeFrame_mode (s : State) (f : Nat) : (s.wipeFrame f).mode = s.mode := by
  rw [State.mode_eq_xlats, State.wipeFrame_xlats]
  rfl

theorem State.foldl_wipeFrame_xlats (l : List Nat) (s : State) :
    (l.foldl State.wipeFrame s).xlats = studsCleared (l.flatMap (studsOf s.mode)) s.xlats :=
  foldl_wipes (P := fun t => t.mode = s.mode) (fun t f h => (t.wipeFrame_mode f).trans h)
    (fun t f h => by rw [State.wipeFrame_xlats, h]) l rfl

theorem frameOfQuad_lt {q : Nat} (hq : q < 4) (mode : Nat) : frameOfQuad mode q < frameCount mode := by
  unfold frameOfQuad frameCount
  obtain h | h | h | h : mode / 4 = 0 ∨ mode / 4 = 1 ∨ mode / 4 = 2 ∨ 3 ≤ mode / 4 := by omega
  · rw [h]
    omega
  · rw [h]
    omega
  · rw [h]
    omega
  · have hlarge : 4 < 2 ^ (mode / 4) := Nat.lt_of_lt_of_le (by decide : 4 < 2 ^ 3) (Nat.pow_le_pow_right (by decide) h)
    rw [Nat.div_eq_of_lt hlarge, Nat.div_zero]
    exact Nat.two_pow_pos _

/-- Every core's stud is in a frame of the mode. -/
theorem mem_studsOf_frames {d : Nat} (hd : d < 384) (mode : Nat) : d / 32 ∈ (framesOf mode).flatMap (studsOf mode) := by
  have hframe : frameOfStud mode (d / 32) < frameCount mode := frameOfQuad_lt (by omega) mode
  exact List.mem_flatMap.mpr ⟨_, List.mem_range.mpr hframe, List.mem_filter.mpr ⟨List.mem_range.mpr (by omega), beq_self_eq_true _⟩⟩

theorem State.finSetMode_xlats (s : State) (j : Job) (fin : FinishIn) : (s.finSetMode j fin).1.xlats = s.xlats := by
  unfold State.finSetMode
  dsimp only
  repeat' split
  all_goals simp

@[simp] theorem State.endCommands_xlats (s : State) : s.endCommands.xlats = s.xlats := by
  have hfin : ∀ (t : State) (j : Job), (if j.opcode = 0x10 ∧ j.running then (t.finSetMode j {}).1 else t).xlats = t.xlats := fun t j => by
    split
    · exact t.finSetMode_xlats j {}
    · rfl
  simp [State.endCommands, State.fwClose, hfin]

end Sys2Proof.Machine
end

section
/-! PROOF. Translation state across idle states and resets (O55): the commands that reset a stud or a frame, a core that wakes, the
boot, and the clauses. -/

namespace Sys2Proof.Machine

/-! ## A long command starts (R321, R323) -/

theorem CmdPkt.bad_none {p : CmdPkt} {rsvd : List Nat} (h : p.rsvdZero rsvd) (i : Nat) : p.bad rsvd [(i, stOk == stOk)] = none := by
  have hzero : rsvd.filter (fun i => p.le i 1 != 0) = [] := List.filter_eq_nil_iff.mpr fun i hi => by simp [h i hi]
  simp [CmdPkt.bad, hzero]

section
variable {s : State} {x : TInst} {op : Nat} {p : CmdPkt}

/-- The state in which Plumb has taken the command. -/
def State.taken (s : State) (x : TInst) (op : Nat) (p : CmdPkt) : State :=
  { s with plumb := { s.plumb with jobs := s.plumb.jobs ++ [s.newJob x op p] } }

theorem State.takeCmd_takes (h : s.takes x op p) (hop : op ≠ 3) :
    s.takeCmd x op p = (s.taken x op p).startJob (s.newJob x op p) false := by
  obtain ⟨hreach, hcheck, hbehind, -⟩ := h
  have hrun : (op == 0x03) = false := by simpa using hop
  unfold State.takeCmd
  simp only [hreach, hcheck, hrun, hop, Bool.not_true, Bool.false_eq_true, if_false, false_and]
  change (if (s.newJob x op p).behind s.plumb.jobs = true then _ else (s.taken x op p).startJob (s.newJob x op p) false) = _
  rw [if_neg (by simp [hbehind])]

theorem State.taken_barred (h : s.takes x op p) : (s.taken x op p).barred (s.newJob x op p) = none := by
  obtain ⟨-, -, -, hrecovery, hscope, hresetting, -⟩ := h
  unfold State.barred
  rw [if_neg, if_neg, if_neg]
  · rw [List.any_eq_true]
    rintro ⟨f, hf, hacts⟩
    have hquiet : ((s.taken x op p).frame f).resetting = false := hresetting f hf
    rw [hquiet] at hacts
    cases hacts
  · rintro ⟨hp, hs⟩
    have hsome : (s.scopeOf x).isSome = true := hs
    rw [hscope hp] at hsome
    cases hsome
  · rintro ⟨hr, ho⟩
    have hnot : (!recoveryOk op) = true := ho
    rw [hrecovery hr] at hnot
    cases hnot

end

/-- A long command whose checks it passes is answered ACCEPTED and performed. -/
theorem State.startJob_xlats {s : State} {j : Job} (hbarred : s.barred j = none) (hlate : j.opcode ≠ 0x10 ∧ j.opcode ≠ 0x63)
    (hlong : opLong j.opcode = true) (hruns : (s.startOp j).2 = none) : (s.startJob j false).xlats = ((s.accepted j).startOp j).1.xlats := by
  have hearly : ((j.opcode == 0x10 || j.opcode == 0x63) && !false) = false := by simp [hlate]
  unfold State.startJob
  simp only [hbarred, hearly, Bool.false_eq_true, if_false]
  split
  · next _ _ _ _ hst =>
    rw [hst] at hruns
    cases hruns
  · simp [hlong]

/-- A long command that Plumb takes and starts. -/
theorem State.takeCmd_xlats {s : State} {x : TInst} {op : Nat} {p : CmdPkt} (h : s.takes x op p) (hop : op ≠ 0x03 ∧ op ≠ 0x10 ∧ op ≠ 0x63)
    (hlong : opLong op = true) (hruns : ((s.taken x op p).startOp (s.newJob x op p)).2 = none) :
    (s.takeCmd x op p).xlats = (((s.taken x op p).accepted (s.newJob x op p)).startOp (s.newJob x op p)).1.xlats := by
  rw [State.takeCmd_takes h hop.1]
  exact State.startJob_xlats (State.taken_barred h) hop.2 hlong hruns

/-! ## STUD_RESET and FRAME_RESET (R444, R445) -/

section
variable {s t : State} (h : s.Answers t)
include h

theorem State.Answers.scopeOf (x : TInst) : t.scopeOf x = s.scopeOf x := by
  unfold State.scopeOf
  simp only [h.mode, h.recovers, State.frameOfPort]

theorem State.Answers.studField (x : TInst) (n : Nat) : t.studField x n = s.studField x n := by
  unfold State.studField State.inScope State.frameOfStud
  rw [h.scopeOf, h.mode]

theorem State.Answers.frameField (x : TInst) (f : Nat) : t.frameField x f = s.frameField x f := by
  unfold State.frameField
  rw [h.scopeOf, h.mode]

theorem State.Answers.studQuiet (n : Nat) : t.studQuiet n = s.studQuiet n := by
  unfold State.studQuiet State.allDeep State.frameOfStud
  simp only [h.stud, h.core, h.tenon, h.halted, h.mode]

end

/-- STUD_RESET of a stud in its scope that stands still. -/
theorem State.cmdStudReset_runs {s : State} {j : Job} (hrsvd : j.pkt.rsvdZero (offs 1 8)) (hfield : s.studField j.t (j.pkt.byte 0) = stOk)
    (hquiet : s.studQuiet (j.pkt.byte 0) = true) :
    s.cmdStudReset j = (s.wipeStud (j.pkt.byte 0) (s.stud (j.pkt.byte 0)).held).runs := by
  unfold State.cmdStudReset
  simp only [hfield, CmdPkt.bad_none hrsvd, State.unless, hquiet]
  rfl

theorem studReset_clears {s : State} {x : TInst} {p : CmdPkt} {d : Nat} (htakes : s.takes x 0x13 p) (hrsvd : p.rsvdZero (offs 1 8))
    (hscope : p.byte 0 < 12 ∧ s.inScope x (s.frameOfStud (p.byte 0)) = true) (hquiet : s.studQuiet (p.byte 0) = true)
    (hd : d / 32 = p.byte 0) : ((s.takeCmd x 0x13 p).core d).xlat = {} := by
  have hfield : (s.taken x 0x13 p).studField x (p.byte 0) = stOk := by
    change s.studField x (p.byte 0) = stOk
    rw [State.studField, if_neg (by omega), if_pos hscope.2]
  have hafter := (s.taken x 0x13 p).accepted_answers (s.newJob x 0x13 p)
  have hstarts : ∀ t, (s.taken x 0x13 p).Answers t → t.startOp (s.newJob x 0x13 p) = (t.wipeStud (p.byte 0) (t.stud (p.byte 0)).held).runs :=
    fun t ht => State.cmdStudReset_runs (j := s.newJob x 0x13 p) hrsvd ((ht.studField _ _).trans hfield) ((ht.studQuiet _).trans hquiet)
  have hruns : ((s.taken x 0x13 p).startOp (s.newJob x 0x13 p)).2 = none := by
    rw [hstarts _ (.refl _)]
    rfl
  rw [State.core_xlat, State.takeCmd_xlats htakes (by decide) rfl hruns, hstarts _ hafter]
  exact (congrArg (fun v => v.1 d) (State.wipeStud_xlats ..)).trans (studsCleared_mem (List.mem_singleton.mpr hd) _)

/-- FRAME_RESET of a frame in its scope. -/
theorem State.cmdFrameReset_runs {s : State} {j : Job} (hrsvd : j.pkt.rsvdZero (offs 1 8)) (hfield : s.frameField j.t (j.pkt.byte 0) = stOk) :
    (s.cmdFrameReset j).2 = none ∧ (s.cmdFrameReset j).1.xlats = studsCleared (studsOf s.mode (j.pkt.byte 0)) s.xlats := by
  unfold State.cmdFrameReset
  simp only [hfield, CmdPkt.bad_none hrsvd, State.unless, State.runs, if_neg (show ¬ stOk = stDenied by decide)]
  refine ⟨trivial, ?_⟩
  simp [State.wipeFrame_xlats, State.mode_eq_xlats]

theorem frameReset_clears {s : State} {x : TInst} {p : CmdPkt} {d : Nat} (htakes : s.takes x 0x12 p) (hrsvd : p.rsvdZero (offs 1 8))
    (hscope : p.byte 0 < frameCount s.mode ∧ s.inScope x (p.byte 0) = true) (hd : d < 384) (hf : s.frameOfCore d = p.byte 0) :
    ((s.takeCmd x 0x12 p).core d).xlat = {} := by
  have hfield : (s.taken x 0x12 p).frameField x (p.byte 0) = stOk := by
    change s.frameField x (p.byte 0) = stOk
    obtain ⟨hcount, hin⟩ := hscope
    have hmine : (s.scopeOf x).elim false (fun g => g != p.byte 0) = false := by
      cases hsc : s.scopeOf x with
      | none => rfl
      | some g => simpa [State.inScope, hsc] using hin
    rw [State.frameField, if_neg (by simp [hmine]), if_neg (by omega)]
  have hafter := (s.taken x 0x12 p).accepted_answers (s.newJob x 0x12 p)
  have hstarts : ∀ t, (s.taken x 0x12 p).Answers t → (t.startOp (s.newJob x 0x12 p)).2 = none ∧
      (t.startOp (s.newJob x 0x12 p)).1.xlats = studsCleared (studsOf t.mode (p.byte 0)) t.xlats :=
    fun t ht => State.cmdFrameReset_runs (j := s.newJob x 0x12 p) hrsvd ((ht.frameField _ _).trans hfield)
  have hmem : d / 32 ∈ studsOf s.mode (p.byte 0) := List.mem_filter.mpr ⟨List.mem_range.mpr (by omega), beq_iff_eq.mpr hf⟩
  rw [State.core_xlat, State.takeCmd_xlats htakes (by decide) rfl (hstarts _ (.refl _)).1, (hstarts _ hafter).2, hafter.mode]
  exact studsCleared_mem hmem _

/-! ## Wiping of the package (R443) and the loss of power -/

theorem State.endCommands_mode (s : State) : s.endCommands.mode = s.mode := State.mode_of_xlats s.endCommands_xlats

theorem resetNAssert_clears {s : State} (hlive : s.live = true) (hpin : s.pins.resetN = true) (htrip : s.power.trip = false)
    (hheld : s.bootHeld = false) {d : Nat} (hd : d < 384) : RunsTo (exec .resetNAssert s) fun u => (u.core d).xlat = {} := by
  change RunsTo (execResetNAssert s) _
  have hlive' : ({ s with pins := { s.pins with resetN := false } } : State).live = true := hlive
  have hheld' : ({ s with pins := { s.pins with resetN := false } } : State).bootHeld = false := hheld
  unfold execResetNAssert
  dsimp only
  rw [if_neg (by simp [hpin, hlive', htrip, hheld'])]
  refine ⟨_, rfl, ?_⟩
  have hports : ∀ (t : State) (p : Nat), (if (t.port p).pers = 3 then t.loseTransport (dtInst p) else t).xlats = t.xlats := fun t p => by
    simp
  simp only [State.core_xlat, State.xlats_mk, xlatView_state, foldl_xlats, keepsXlats_iff, State.setPort_xlats, hports, implies_true,
    State.foldl_wipeFrame_xlats, State.endCommands_mode]
  exact studsCleared_mem (mem_studsOf_frames hd _) _

theorem pwrgoodDeassert_clears (s : State) (d : Nat) : RunsTo (exec .pwrgoodDeassert s) fun u => (u.core d).xlat = {} := ⟨_, rfl, rfl⟩

/-! ## Idle states (R376 to R380) -/

theorem State.serial_xlats {s : State} {c legal : Nat} {act : State → State} (hact : (act s).xlats = s.xlats) :
    RunsTo (s.serial c legal act) fun u => u.xlats = s.xlats := by
  unfold State.serial State.guarded
  split
  · split
    · exact ⟨s, rfl, rfl⟩
    · split
      · exact ⟨_, rfl, hact⟩
      · exact ⟨_, rfl, s.illegal_xlats c _⟩
  · exact ⟨s, rfl, rfl⟩

theorem State.beginWait_xlats (s : State) (c : Nat) (w : Waiting) : (s.beginWait c w).xlats = s.xlats := by simp [State.beginWait]

theorem exec_wfi_xlats (s : State) (c : CoreId) : RunsTo (exec (.wfi c) s) fun u => u.xlats = s.xlats :=
  State.serial_xlats (s.beginWait_xlats c .wfi)

theorem exec_idlePromotionSleep_xlats (s : State) (c : CoreId) : RunsTo (exec (.idlePromotionSleep c) s) fun u => u.xlats = s.xlats := by
  change RunsTo (execIdlePromotionSleep c s) _
  unfold execIdlePromotionSleep
  dsimp only
  split
  · exact ⟨s, rfl, rfl⟩
  · exact ⟨_, rfl, by simp⟩

/-- The commit of DEEP keeps the wired HEWN entries of its core. -/
theorem deepEntryStep_commits {s : State} {c : CoreId} (h : (s.core c).run = .entering .ap4) :
    RunsTo (exec (.deepEntryStep c .ap4) s) fun u =>
      (∀ d, d ≠ c.val → (u.core d).xlat = (s.core d).xlat) ∧ (u.core c).xlat = (s.core c).xlat.wiredOnly := by
  change RunsTo (execDeepEntryStep c .ap4 s) _
  unfold execDeepEntryStep
  dsimp only
  rw [if_neg (by simp [h])]
  have hkept := State.updateStud_xlats (s.setCore c (s.core c).commitDeep) (c.val / 32)
  refine ⟨_, rfl, fun d hd => ?_, ?_⟩
  · rw [State.core_of_xlats hkept, State.core_setCore_ne _ _ _ _ hd]
  · rw [State.core_of_xlats hkept, State.core_setCore_same]
    rfl

/-- Core c at the end of a core reset. -/
theorem State.coreResetEnd_core (s : State) (c : Nat) :
    ((s.coreResetEnd c).core c).xlat = { shim := true, shimVer := s.plumb.running.version } := by
  rw [State.coreResetEnd, State.core_of_xlats (State.updateStud_xlats ..), State.core_setCore_same]

theorem deepEntryStep_resets {s : State} {c : CoreId} (hrun : (s.core c).run = .entering .ap2) (hreset : (s.core c).resetting = true)
    (hclean : (s.core c).pipe.clean = true) :
    RunsTo (exec (.deepEntryStep c .ap2) s) fun u => (u.core c).xlat = { shim := true, shimVer := s.plumb.running.version } := by
  have habandon : s.abandons c = false := by simp [State.abandons, hreset]
  change RunsTo (execDeepEntryStep c .ap2 s) _
  unfold execDeepEntryStep
  dsimp only
  rw [if_neg (by simp [hrun]), if_neg (by simp [habandon]), if_pos ⟨hclean, hreset⟩]
  exact ⟨_, rfl, s.coreResetEnd_core c⟩

theorem coreReset_held {s : State} {c : CoreId} (hlive : s.live = true) (hdbg : s.plumb.dbgOpen = true)
    (hresetting : (s.frame (s.frameOfCore c)).resetting = false) (hbooted : s.isBooted (s.frameOfCore c) = true)
    (hhalted : (s.frame (s.frameOfCore c)).halted = false) (hrun : (s.core c).run = .held) :
    RunsTo (exec (.coreReset c) s) fun u => (u.core c).xlat = { shim := true, shimVer := s.plumb.running.version } := by
  have hboot : (s.frame (s.frameOfCore c)).booted = true := hbooted
  change RunsTo (execCoreReset c s) _
  unfold execCoreReset
  dsimp only
  rw [if_neg (by simp [hlive, hdbg]), if_neg (by simp [hresetting]), if_neg (by simp [hboot, hhalted])]
  refine ⟨_, rfl, ?_⟩
  rw [State.beginCoreReset, hrun]
  exact s.coreResetEnd_core c

/-! ## A core wakes from DEEP (R381) -/

theorem State.tenonCross_noted (s : State) (n : Nat) (d : TDirId) (g : Nat) (xs : List Cross) : s.Noted (s.tenonCross n d g xs) := by
  unfold State.tenonCross
  dsimp only
  repeat' split
  · exact .refl s
  · exact .beside rfl rfl rfl rfl
  · exact .beside rfl rfl rfl rfl
  · exact .beside rfl rfl rfl rfl

theorem State.rotate_noted (s : State) (n : Nat) (d : TDirId) : s.Noted (s.rotate n d) := by
  unfold State.rotate
  dsimp only
  repeat' split
  · exact .refl s
  · exact .beside rfl rfl rfl rfl
  · refine State.Noted.trans ?_ (State.recAdd_noted _ _ _ _ _)
    exact .beside rfl rfl rfl rfl
  · exact .refl s

theorem State.runDeferred_noted (s : State) (n : Nat) (d : TDirId) : s.Noted (s.runDeferred n d) := by
  unfold State.runDeferred
  extract_lets t u v
  have hu : s.Noted u := .beside rfl rfl rfl rfl
  have hv : s.Noted v := hu.trans (.foldl (fun s g => s.tenonCross_noted n d g _) _ _)
  split
  · exact hv.trans (v.rotate_noted n d)
  · exact hv

theorem State.heldMsg_noted (s : State) (m : Msg) : s.Noted (s.heldMsg m) := .beside rfl rfl rfl rfl

theorem State.unpark_noted (s : State) (n : Nat) : s.Noted (s.unpark n) := by
  unfold State.unpark
  extract_lets t wake u v st
  have hu : s.Noted u := .beside rfl rfl rfl rfl
  have hv : s.Noted v := (hu.trans (u.runDeferred_noted n .up)).trans (State.runDeferred_noted _ n .dn)
  split
  · exact .refl s
  · refine hv.trans (State.Noted.trans ?_ (State.Noted.foldl State.heldMsg_noted _ _))
    exact .beside rfl rfl rfl rfl

theorem State.studUp_noted (s : State) (n : Nat) : s.Noted (s.studUp n) := by
  unfold State.studUp
  refine State.Noted.trans ?_ (State.unpark_noted _ n)
  exact .beside rfl rfl rfl rfl

/-- Where a core's pipe holds at most a stalled load, there is nothing to try again. -/
theorem State.retry_bare {s : State} {c : Nat} {l : Option (Nat × Word)} (h : (s.core c).pipe = { stall := l }) :
    (s.retry c).xlats = s.xlats := by
  have hslots : (s.core c).pipe.slots = [] := by rw [h]
  have hpump : (s.pumpRidge c).pumpFills c = s := by simp [State.pumpRidge, State.pumpFills, hslots]
  by_cases hawake : (s.core c).awake = true
  · have hend : (s.core c).endFences = s.core c := by
      rw [Core.endFences, h]
      rfl
    exact (State.retry_noWaits hawake hslots hend (by rw [h])).xlats rfl
  · rw [State.retry, hpump]
    simp [hawake]

theorem State.wakeCore_bare {s : State} {c : Nat} (h : (s.core c).pipe = {}) : (s.wakeCore c).xlats = s.xlats := by
  obtain ⟨l, hl⟩ := (s.studUp_noted (c / 32)).pipe c
  rw [h] at hl
  unfold State.wakeCore
  extract_lets u k v
  have hv : v.xlats = s.xlats := by simp [v, u, k]
  have hpipe : (v.core c).pipe = { stall := l } := by
    rw [State.core_setCore_same, Core.onDroop_pipe]
    exact hl
  rw [State.retry_bare hpipe, hv]

theorem wakeEvent_keeps {s : State} {c : CoreId} (hrun : (s.core c).run = .deep) (hpipe : (s.core c).pipe = {}) :
    RunsTo (exec (.wakeEvent c) s) fun u => u.xlats = s.xlats := by
  change RunsTo (execWakeEvent c s) _
  unfold execWakeEvent
  dsimp only
  split
  · exact ⟨s, rfl, rfl⟩
  · rw [hrun]
    refine ⟨_, rfl, ?_⟩
    split
    · simp
    · exact State.wakeCore_bare hpipe

/-! ## A boot (R441) -/

/-- Each core holds nothing but, where it is out of reset, the shim store with the walker of the running bundle. -/
def ShimOnly (v : (Nat → Xlat) × Bundle × Nat) : Prop := ∀ d, v.1 d = {} ∨ v.1 d = { shim := true, shimVer := v.2.1.version }

theorem ShimOnly.of_nothing {v : (Nat → Xlat) × Bundle × Nat} (h : v.1 = fun _ => {}) : ShimOnly v := fun d => .inl (by rw [h])

/-- A core out of reset takes the walker of the running bundle. -/
theorem ShimOnly.setCore {s : State} (h : ShimOnly s.xlats) (c : Nat) {k : Core}
    (hk : k.xlat = { shim := true, shimVer := s.plumb.running.version }) : ShimOnly (s.setCore c k).xlats := fun d => by
  rw [← State.core_xlat]
  by_cases hd : d = c
  · rw [hd, State.core_setCore_same]
    exact .inr hk
  · rw [State.core_setCore_ne _ _ _ _ hd]
    exact h d

theorem ShimOnly.foldl {α : Type} {g : State → α → State} (hg : ∀ (s : State) a, ShimOnly s.xlats → ShimOnly (g s a).xlats)
    (l : List α) {s : State} (h : ShimOnly s.xlats) : ShimOnly (l.foldl g s).xlats := by
  induction l generalizing s with
  | nil => exact h
  | cons a l ih => exact ih (hg s a h)

theorem ShimOnly.raiseStud {s : State} (h : ShimOnly s.xlats) (n : Nat) (env : BootEnv) (cause : Nat) (entry : Bool) :
    ShimOnly (s.raiseStud n env cause entry).xlats := by
  unfold State.raiseStud
  dsimp only
  split
  · simpa using h
  · rw [State.applyFreq_xlats, State.updateStud_xlats]
    exact ShimOnly.foldl (fun s c hs => hs.setCore c rfl) _ (by simpa using h)

/-- The cores that a test of their numbers leaves. -/
theorem ShimOnly.filter {s : State} (h : ShimOnly s.xlats) (p : Nat → Bool) :
    ShimOnly ({ s with cores := s.cores.filter (fun e => p e.1) } : State).xlats := fun d => by
  rw [← State.core_xlat, State.core, Tab.get_filter_key]
  split
  · exact h d
  · exact .inl rfl

theorem ShimOnly.prepareFrame {s : State} (h : ShimOnly s.xlats) (f : Nat) (env : BootEnv) (cause : Nat) :
    ShimOnly (s.prepareFrame f env cause).xlats := by
  unfold State.prepareFrame
  extract_lets bays raised ported studs work cached ok stud core degraded fr ring aplic booted opened failed cleared closed
  have hstuds : ShimOnly studs.xlats := ShimOnly.foldl (fun s n hs => hs.raiseStud n env cause false) _ (by simpa [raised, ported] using h)
  split
  · simpa [opened, booted] using hstuds
  · have hfailed : ShimOnly failed.xlats := by
      have hkept : failed.xlats = studs.xlats := by simp [failed]
      rwa [hkept]
    have hcleared : ShimOnly cleared.xlats := hfailed.filter (fun i => failed.frameOfCore i != f)
    simpa [closed] using hcleared

theorem ShimOnly.bootAll {s : State} (h : ShimOnly s.xlats) (env : BootEnv) (cause : Nat) (extra : List (Nat × Nat × Nat)) :
    ShimOnly (s.bootAll env cause extra).xlats := by
  unfold State.bootAll
  simp only [State.countAll_xlats, foldl_xlats, keepsXlats_iff, State.releaseFrame_xlats, implies_true]
  exact ShimOnly.foldl (fun s f hs => hs.prepareFrame f env cause) _ (by rwa [State.domainsOn_xlats])

/-- Which mode the package takes changes no core. -/
theorem State.applyMode_xlats (s : State) (straps : Nat) :
    (s.applyMode straps).xlats.1 = s.xlats.1 ∧ (s.applyMode straps).xlats.2.1 = s.xlats.2.1 := by
  unfold State.applyMode
  extract_lets m frames plumb pins moded ported
  have hported : ported.xlats = moded.xlats := by simp [ported]
  have hlast : ∀ u : State, ((framesOf m).foldl (fun s f => if (s.frame f).trained then s
      else (chansOf m f).foldl (fun s c => s.setChan c { s.chan c with st := 1, clearDone := false }) s) u).xlats = u.xlats := fun u => by simp
  rw [hlast, hported]
  exact ⟨rfl, rfl⟩

theorem ShimOnly.finishBoot {s : State} (h : ShimOnly s.xlats) (env : BootEnv) (offExit : Bool) :
    ShimOnly (s.finishBoot env offExit).xlats := by
  unfold State.finishBoot
  split
  · exact h
  · dsimp only
    refine ShimOnly.bootAll (fun d => ?_) _ _ _
    rw [(State.applyMode_xlats _ _).1, (State.applyMode_xlats _ _).2]
    simpa using h d

theorem State.chooseSlot_cores (s : State) : s.chooseSlot.1.cores = s.cores := by
  unfold State.chooseSlot
  dsimp only
  repeat' split
  all_goals rfl

theorem State.loadJournal_xlats (s : State) (env : BootEnv) : (s.loadJournal env).xlats = s.xlats := by
  unfold State.loadJournal
  dsimp only
  repeat' split
  all_goals simp

theorem State.startD0_shimOnly (s : State) (env : BootEnv) (offExit : Bool) : ShimOnly (s.startD0 env offExit).xlats := by
  unfold State.startD0
  extract_lets loaded env' plumb power pins powered
  have hpowered : powered.xlats.1 = fun _ => {} := congrArg Prod.fst (s.persistent.loadJournal_xlats env)
  have hchosen : ShimOnly powered.chooseSlot.1.xlats := .of_nothing (by rw [State.xlats, State.chooseSlot_cores]; exact hpowered)
  dsimp only
  split
  · exact hchosen
  · split
    · exact hchosen
    · exact hchosen.finishBoot _ _

/-! ## The clauses -/

theorem RunsTo.core_xlat {s : State} {o : Host.Outcome State Fault Refusal} (h : RunsTo o fun u => u.xlats = s.xlats) (d : Nat) :
    RunsTo o fun u => (u.core d).xlat = (s.core d).xlat := by
  obtain ⟨u, hu, hkept⟩ := h
  exact ⟨u, hu, State.core_of_xlats hkept d⟩

theorem coldReset_shimOnly {s : State} (h : s.pins.pwrgood = false) (e : BootEnv) : RunsTo (exec (.coldReset e) s) fun u => ShimOnly u.xlats :=
  ⟨s.startD0 e false, by
    change execColdReset e s = _
    rw [execColdReset, h]
    rfl, s.startD0_shimOnly e false⟩

theorem exitFromOff_shimOnly {s : State} (h : s.off = true) (e : BootEnv) : RunsTo (exec (.exitFromOff e) s) fun u => ShimOnly u.xlats :=
  ⟨s.startD0 e true, by
    change execExitFromOff e s = _
    rw [execExitFromOff, h]
    rfl, s.startD0_shimOnly e true⟩

/-- Settles O55: idle states keep what the frame lemmas say, DEEP the wired HEWN entries; the resets empty the cores, and a boot raises
each with the shim store alone. -/
theorem translationStateSurvivesIdleOnly : Obligations.TranslationStateSurvivesIdleOnly := by
  refine ⟨fun s c d => (exec_wfi_xlats s c).core_xlat d, fun s c d => (exec_idlePromotionSleep_xlats s c).core_xlat d,
    fun s c hrun => deepEntryStep_commits hrun, fun s c hrun hpipe => (wakeEvent_keeps hrun hpipe).core_xlat c,
    fun s c hrun hreset hclean => deepEntryStep_resets hrun hreset hclean,
    fun s c hlive hdbg hresetting hbooted hhalted hrun => coreReset_held hlive hdbg hresetting hbooted hhalted hrun,
    fun s x p d htakes hrsvd hscope hquiet hd => ⟨_, rfl, studReset_clears htakes hrsvd hscope ?quiet hd⟩,
    fun s x p d htakes hrsvd hscope hd hf => ⟨_, rfl, frameReset_clears htakes hrsvd hscope hd hf⟩,
    fun s d hlive hpin htrip hheld hd => resetNAssert_clears hlive hpin htrip hheld hd, pwrgoodDeassert_clears, ?cold, ?exit⟩
  case quiet => simpa [State.studQuiet, or_assoc] using hquiet
  case cold =>
    intro s e d hpower
    obtain ⟨u, hu, hshim⟩ := coldReset_shimOnly hpower e
    exact ⟨u, hu, hshim d⟩
  case exit =>
    intro s e d hoff
    obtain ⟨u, hu, hshim⟩ := exitFromOff_shimOnly hoff e
    exact ⟨u, hu, hshim d⟩

end Sys2Proof.Machine
end

section
/-! PROOF. Memory stays in its canonical form (O58). Memory is written by setMemLine, putList and by filters, which keep the form;
every other operation leaves memory as it was. The lemmas follow the model's files: `X_mem` says that X leaves memory,
`X_canonical` that it keeps the form. -/

namespace Sys2Proof.Machine

/-- Memory lists strictly rising keys and no zero byte. -/
structure MemCanonical (m : List Host.Cell) : Prop where
  wf : Memory.wf m = true

/-- If the outcome is a next state, its memory is canonical. -/
def Res.Canonical (r : Res) : Prop := ∀ t, r = .next t → MemCanonical t.mem

@[simp] theorem Res.canonical_next (t : State) : Res.Canonical (.next t) ↔ MemCanonical t.mem := by simp [Res.Canonical]
@[simp] theorem Res.canonical_fault (f : Fault) : Res.Canonical (.fault f) := by simp [Res.Canonical]

/-- A command that keeps memory canonical. -/
def KeepsMemory (f : State → Res) : Prop := ∀ s, MemCanonical s.mem → (f s).Canonical

@[simp] theorem Res.canonical_ite (c : Prop) [Decidable c] (a b : Res) :
    Res.Canonical (if c then a else b) ↔ if c then a.Canonical else b.Canonical := by split <;> rfl
@[simp] theorem State.mem_ite (c : Prop) [Decidable c] (s t : State) :
    (if c then s else t).mem = if c then s.mem else t.mem := apply_ite ..
@[simp] theorem memCanonical_ite (c : Prop) [Decidable c] (v w : List Host.Cell) :
    MemCanonical (if c then v else w) ↔ if c then MemCanonical v else MemCanonical w := by split <;> rfl

/-- Every step of g leaves memory. -/
def LeavesMem {α : Type} (g : State → α → State) : Prop := ∀ s a, (g s a).mem = s.mem

@[simp] theorem leavesMem_iff {α : Type} (g : State → α → State) :
    LeavesMem g ↔ ∀ s a, (g s a).mem = s.mem := ⟨fun h => h, fun h => h⟩

/-- A fold of steps that each leave memory leaves it. -/
@[simp] theorem foldl_mem {α : Type} (g : State → α → State) (hg : LeavesMem g) (l : List α) (s : State) :
    (l.foldl g s).mem = s.mem := by
  induction l generalizing s with
  | nil => rfl
  | cons a l ih => rw [List.foldl_cons, ih, hg]

/-- The same of a fold that carries a value beside the state. -/
def LeavesMem₂ {α β : Type} (g : State × β → α → State × β) : Prop := ∀ p a, (g p a).1.mem = p.1.mem

@[simp] theorem leavesMem₂_iff {α β : Type} (g : State × β → α → State × β) :
    LeavesMem₂ g ↔ ∀ p a, (g p a).1.mem = p.1.mem := ⟨fun h => h, fun h => h⟩

@[simp] theorem foldl_fst_mem {α β : Type} (g : State × β → α → State × β) (hg : LeavesMem₂ g) (l : List α)
    (p : State × β) : (l.foldl g p).1.mem = p.1.mem := by
  induction l generalizing p with
  | nil => rfl
  | cons a l ih => rw [List.foldl_cons, ih, hg]

/-- Where an operation that may have to wait leaves memory in the state it answers, so it does with the state as it was for none. -/
theorem getD_mem {o : Option State} {s : State} (h : ∀ t, o = some t → t.mem = s.mem) :
    (o.getD s).mem = s.mem := by
  cases o with
  | none => rfl
  | some t => exact h t rfl

/-- Every step of g keeps memory canonical. -/
def KeepsCanonical {α : Type} (g : State → α → State) : Prop := ∀ s a, MemCanonical s.mem → MemCanonical (g s a).mem

@[simp] theorem keepsCanonical_iff {α : Type} (g : State → α → State) :
    KeepsCanonical g ↔ ∀ s a, MemCanonical s.mem → MemCanonical (g s a).mem := ⟨fun h => h, fun h => h⟩

/-- The same of a fold that carries a value beside the state. -/
theorem foldl_fst_canonical {α β : Type} (g : State × β → α → State × β)
    (hg : ∀ p a, MemCanonical p.1.mem → MemCanonical (g p a).1.mem) (l : List α) (p : State × β) (hp : MemCanonical p.1.mem) :
    MemCanonical (l.foldl g p).1.mem := by
  induction l generalizing p with
  | nil => exact hp
  | cons a l ih => exact ih _ (hg p a hp)

/-- A fold of steps that each keep memory canonical keeps it so. -/
@[simp] theorem foldl_canonical {α : Type} (g : State → α → State) (hg : KeepsCanonical g) (l : List α) (s : State)
    (hs : MemCanonical s.mem) : MemCanonical (l.foldl g s).mem := by
  induction l generalizing s with
  | nil => exact hs
  | cons a l ih => exact ih _ (hg s a hs)

/-- The state's memory is w. Behind this name the kernel compares two writings of a state as they stand. -/
def State.HasMem (s : State) (w : List Host.Cell) : Prop := s.mem = w

theorem State.hasMem_iff {s : State} {w : List Host.Cell} : s.HasMem w ↔ s.mem = w := Iff.rfl

/-! ### Power domains -/

@[simp] theorem State.setDom_mem (s : State) (d st mv : Nat) : (s.setDom d st mv).mem = s.mem := by simp [State.setDom]
@[simp] theorem State.wakeArray_mem (s : State) (h : Nat) : (s.wakeArray h).mem = s.mem := by simp [State.wakeArray]
@[simp] theorem State.domOn_mem (s : State) (d : Nat) : (s.domOn d).mem = s.mem := by simp [State.domOn]
@[simp] theorem State.domLow_mem (s : State) (d : Nat) : (s.domLow d).mem = s.mem := by simp [State.domLow]
@[simp] theorem State.countVotes_mem (s : State) (d : Nat) : (s.countVotes d).mem = s.mem := by simp [State.countVotes]
@[simp] theorem State.countAll_mem (s : State) : s.countAll.mem = s.mem := by simp [State.countAll]

/-! ### The sill fabric -/

@[simp] theorem State.eject_mem (s : State) (m : Msg) : (s.eject m).mem = s.mem := by
  unfold State.eject
  split <;> simp

@[simp] theorem State.putMsg_mem (s : State) (m : Msg) : (s.putMsg m).mem = s.mem := by simp [State.putMsg]
@[simp] theorem State.hop_mem (s : State) (m : Msg) (a : Ask) : (s.hop m a).mem = s.mem := by simp [State.hop]
@[simp] theorem State.meshCycle_mem (s : State) : s.meshCycle.mem = s.mem := by simp [State.meshCycle]

@[simp] theorem State.meshRun_mem (s : State) (P : Msg → Bool) (n : Nat) : (s.meshRun P n).mem = s.mem := by
  induction n generalizing s with
  | zero => rfl
  | succ k ih => simp [State.meshRun, ih]

@[simp] theorem State.deliver_mem (s : State) (P : Msg → Bool) : (s.deliver P).mem = s.mem := by simp [State.deliver]

/-! ### Shared operations -/

@[simp] theorem State.logLine_mem (s : State) (e : LogEnt) : (s.logLine e).mem = s.mem := by simp [State.logLine]
@[simp] theorem State.noteWake_mem (s : State) (c : Nat) : (s.noteWake c).mem = s.mem := by simp [State.noteWake]
@[simp] theorem State.imsicPut_mem (s : State) (c file id : Nat) : (s.imsicPut c file id).mem = s.mem := by simp [State.imsicPut]
@[simp] theorem State.holdMsg_mem (s : State) (n c : Nat) (m : Msg) : (s.holdMsg n c m).mem = s.mem := by simp [State.holdMsg]
@[simp] theorem State.noHart_mem (s : State) (f h : Nat) : (s.noHart f h).mem = s.mem := by simp [State.noHart]
@[simp] theorem State.msiOn_mem (s : State) (c : Nat) (m : Msg) : (s.msiOn c m).mem = s.mem := by simp [State.msiOn]

@[simp] theorem State.msiArrive_mem (s : State) (m : Msg) : (s.msiArrive m).mem = s.mem := by
  obtain ⟨c, file, id, h⟩ | ⟨f, i, h⟩ := s.msiArrive_cases m
  · rw [h, State.imsicPut_mem]
  · rw [h, State.noHart_mem]

@[simp] theorem State.msiTo_mem (s : State) (from' : Option Nat) (f h file id : Nat) : (s.msiTo from' f h file id).mem = s.mem := by
  unfold State.msiTo
  split <;> simp

@[simp] theorem State.aplicSend_mem (s : State) (f n : Nat) : (s.aplicSend f n).mem = s.mem := by simp [State.aplicSend]
@[simp] theorem State.aplicEdge_mem (s : State) (f n : Nat) : (s.aplicEdge f n).mem = s.mem := by simp [State.aplicEdge]
@[simp] theorem State.aplicFall_mem (s : State) (f n : Nat) : (s.aplicFall f n).mem = s.mem := by simp [State.aplicFall]

@[simp] theorem State.deliverTo_mem (s : State) (who : NqReader) (v : Word) : (s.deliverTo who v).mem = s.mem := by
  unfold State.deliverTo
  split <;> simp

@[simp] theorem State.postFrame_mem (s : State) (f : Nat) (n : Word) : (s.postFrame f n).mem = s.mem := by
  unfold State.postFrame
  dsimp only
  repeat' split
  all_goals simp

@[simp] theorem State.postPort_mem (s : State) (p : Nat) (n : Word) : (s.postPort p n).mem = s.mem := by simp [State.postPort]
@[simp] theorem State.post_mem (s : State) (frames : List Nat) (n : Word) : (s.post frames n).mem = s.mem := by simp [State.post]
@[simp] theorem State.postAll_mem (s : State) (n : Word) : (s.postAll n).mem = s.mem := by simp [State.postAll]

@[simp] theorem State.setRec_mem (s : State) (kind inst : Nat) (r : Rec) : (s.setRec kind inst r).mem = s.mem := by
  simp [State.setRec]

@[simp] theorem State.recAdd_mem (s : State) (kind inst bin k : Nat) : (s.recAdd kind inst bin k).mem = s.mem := by
  simp [State.recAdd]

@[simp] theorem State.pkgEvent_mem (s : State) (bin : Nat) : (s.pkgEvent bin).mem = s.mem := by simp [State.pkgEvent]
@[simp] theorem State.cmdEvent_mem (s : State) (bin : Nat) : (s.cmdEvent bin).mem = s.mem := by simp [State.cmdEvent]

@[simp] theorem State.recExtreme_mem (s : State) (kind inst q : Nat) (v : Int) : (s.recExtreme kind inst q v).mem = s.mem := by
  simp [State.recExtreme]

@[simp] theorem State.startFlush_mem (s : State) (cause : Nat) : (s.startFlush cause).mem = s.mem := by
  unfold State.startFlush
  dsimp only
  split <;> simp

@[simp] theorem State.report_mem (s : State) (e : ErrEv) : (s.report e).mem = s.mem := by
  unfold State.report
  repeat' split
  all_goals simp

@[simp] theorem State.reservedAgent_mem (s : State) (m : Msg) : (s.reservedAgent m).mem = s.mem := by simp [State.reservedAgent]
@[simp] theorem State.ncForget_mem (s : State) (f : Nat) : (s.ncForget f).mem = s.mem := by simp [State.ncForget]
@[simp] theorem State.haltStud_mem (s : State) (n : Nat) : (s.haltStud n).mem = s.mem := by simp [State.haltStud]
@[simp] theorem State.fatal_mem (s : State) (f : Nat) (e : ErrEv) : (s.fatal f e).mem = s.mem := by simp [State.fatal]
@[simp] theorem State.fatalBay_mem (s : State) (b code : Nat) : (s.fatalBay b code).mem = s.mem := by simp [State.fatalBay]

/-! ### Translation structures -/

@[simp] theorem State.refill_mem (s : State) (c : Nat) (va : Word) (acc : AccType) (ctx : Ctx) :
    (s.refill c va acc ctx).mem = s.mem := by
  unfold State.refill
  dsimp only
  repeat' split
  all_goals simp

/-! ### Uncached accesses of rings and IOMMUs -/

@[simp] theorem State.ncDrop_mem (s : State) (o : NcOwner) : (s.ncDrop o).mem = s.mem := by simp [State.ncDrop]

@[simp] theorem State.ncAsk_mem (s : State) (o : NcOwner) (lines : List Nat) : (s.ncAsk o lines).mem = s.mem := by
  simp [State.ncAsk]

@[simp] theorem State.ncWrite_mem (s : State) (o : NcOwner) (pa : Nat) (b : List Byte) : (s.ncWrite o pa b).mem = s.mem := by
  simp [State.ncWrite]

@[simp] theorem State.ncMsg_mem (s : State) (m : Msg) : (s.ncMsg m).mem = s.mem := by
  unfold State.ncMsg
  repeat' split
  all_goals simp

/-! ### The IOMMU of a port -/

@[simp] theorem State.ioOr_mem (s : State) (p : Nat) (e : Nat × Nat) : (s.ioOr p e).mem = s.mem := by
  unfold State.ioOr
  split <;> simp

/-! ### Register windows -/

@[simp] theorem State.csDrop_mem (s : State) (f cause inst off : Nat) : (s.csDrop f cause inst off).mem = s.mem := by
  simp [State.csDrop]

@[simp] theorem State.dropOn_mem (s : State) (ap : AccessPort) (cause inst off : Nat) :
    (s.dropOn ap cause inst off).mem = s.mem := by
  unfold State.dropOn
  split <;> simp

@[simp] theorem State.setCbqri_mem (s : State) (i : Nat) (c : Cbqri) : (s.setCbqri i c).mem = s.mem := by simp [State.setCbqri]
@[simp] theorem State.cbqriMon_mem (s : State) (i : Nat) (v : Word) : (s.cbqriMon i v).mem = s.mem := by simp [State.cbqriMon]
@[simp] theorem State.cbqriAlloc_mem (s : State) (i : Nat) (v : Word) : (s.cbqriAlloc i v).mem = s.mem := by simp [State.cbqriAlloc]

@[simp] theorem State.qosWrite_mem (s : State) (i off : Nat) (lo : Bool) (full : Word) :
    (s.qosWrite i off lo full).mem = s.mem := by
  unfold State.qosWrite
  split <;> simp

@[simp] theorem State.cmdqWrite_mem (s : State) (f off : Nat) (part : Part) (full raw : Word) :
    (s.cmdqWrite f off part full raw).mem = s.mem := by
  simp [State.cmdqWrite]

@[simp] theorem State.regWrite_mem (s : State) (ap : AccessPort) (w : Win) (i off : Nat) (part : Part) (v : Word) :
    (s.regWrite ap w i off part v).mem = s.mem := by
  unfold State.regWrite
  cases w <;> dsimp only
  all_goals grind [State.mem_setHome, State.mem_setChan, State.mem_setPort, State.mem_setFrame, State.csDrop_mem,
    State.cmdqWrite_mem, State.qosWrite_mem, State.mem_setUpmu]

@[simp] theorem State.selWrite_mem (s : State) (ap : AccessPort) (w : Win) (part : Part) (v : Word) :
    (s.selWrite ap w part v).mem = s.mem := by
  unfold State.selWrite
  split <;> simp

@[simp] theorem State.windowWrite_mem (s : State) (ap : AccessPort) (w : Win) (off : Nat) (part : Part) (v : Word) :
    (s.windowWrite ap w off part v).mem = s.mem := by
  simp [State.windowWrite]

@[simp] theorem State.counted_mem (s : State) (ap : AccessPort) (w : Win) (off : Nat) : (s.counted ap w off).mem = s.mem := by
  unfold State.counted
  repeat' split
  all_goals simp

@[simp] theorem State.nqPop_mem (s : State) (ap : AccessPort) (hart : Option (Nat × Dest)) : (s.nqPop ap hart).mem = s.mem := by
  unfold State.nqPop
  dsimp only
  repeat' split
  all_goals simp

@[simp] theorem State.portSees_mem (s : State) (ap : AccessPort) (v : Word) : (s.portSees ap v).mem = s.mem := by
  simp [State.portSees]

@[simp] theorem State.nqPerform_mem (s : State) (a : NqAcc) : (s.nqPerform a).mem = s.mem := by
  unfold State.nqPerform
  grind [State.windowWrite_mem, State.portSees_mem, State.nqPop_mem]

@[simp] theorem State.nqResume_mem (s : State) (n : Nat) : (s.nqResume n).mem = s.mem := by
  induction n generalizing s with
  | zero => rfl
  | succ k ih =>
    unfold State.nqResume
    split <;> simp [ih]

@[simp] theorem State.nqGoOn_mem (s : State) : s.nqGoOn.mem = s.mem := by simp [State.nqGoOn]
@[simp] theorem State.nqAccess_mem (s : State) (a : NqAcc) : (s.nqAccess a).mem = s.mem := by simp [State.nqAccess]

@[simp] theorem State.aplicWrite_mem (s : State) (f d off v : Nat) : (s.aplicWrite f d off v).mem = s.mem := by
  simp [State.aplicWrite]

@[simp] theorem State.mtimeWrite_mem (s : State) (f off : Nat) (v : Word) : (s.mtimeWrite f off v).mem = s.mem := by
  simp [State.mtimeWrite]

@[simp] theorem State.mtimecmpWrite_mem (s : State) (f h off : Nat) (v : Word) : (s.mtimecmpWrite f h off v).mem = s.mem := by
  unfold State.mtimecmpWrite
  split <;> simp

@[simp] theorem State.fileWrite_mem (s : State) (src : Option Nat) (f h file off v : Nat) :
    (s.fileWrite src f h file off v).mem = s.mem := by
  simp [State.fileWrite]

/-! ### Control space -/

theorem State.filePut_mem {s : State} {src f off v : Nat} {s' : State} (he : s.filePut src f off v = some s') : s'.mem = s.mem := by
  unfold State.filePut at he
  grind [State.fileWrite_mem]

theorem State.ioStore4_mem {s : State} {o : NcOwner} {pa v : Nat} {s' : State} (he : s.ioStore4 o pa v = some s') :
    s'.mem = s.mem := by
  unfold State.ioStore4 at he
  grind [State.filePut_mem, State.ncWrite_mem]

@[simp] theorem State.ioMsiSend_mem (s : State) (p i : Nat) : (s.ioMsiSend p i).mem = s.mem := by
  unfold State.ioMsiSend
  grind [State.mem_setPort, State.ioStore4_mem]

@[simp] theorem State.ioPend_mem (s : State) (p i : Nat) : (s.ioPend p i).mem = s.mem := by simp [State.ioPend]
@[simp] theorem State.ioCmdIrq_mem (s : State) (p : Nat) : (s.ioCmdIrq p).mem = s.mem := by simp [State.ioCmdIrq]
@[simp] theorem State.ioFaultIrq_mem (s : State) (p : Nat) : (s.ioFaultIrq p).mem = s.mem := by simp [State.ioFaultIrq]

@[simp] theorem State.ioPumpRec_mem (s : State) (p n : Nat) : (s.ioPumpRec p n).mem = s.mem := by
  induction n generalizing s with
  | zero => rfl
  | succ m ih =>
    unfold State.ioPumpRec
    dsimp only
    split
    · rfl
    · simp [ih]

@[simp] theorem State.ioRecords_mem (s : State) (p : Nat) : (s.ioRecords p).mem = s.mem := by simp [State.ioRecords]
@[simp] theorem State.ioRecorded_mem (s : State) (p : Nat) : (s.ioRecorded p).mem = s.mem := by simp [State.ioRecorded]

@[simp] theorem State.ioMsiSent_mem (s : State) (p : Nat) : (s.ioMsiSent p).mem = s.mem := by
  unfold State.ioMsiSent
  dsimp only
  split <;> simp

@[simp] theorem State.ioRecord_mem (s : State) (p : Nat) (r : IoReq) (e : IoStop) : (s.ioRecord p r e).mem = s.mem := by
  simp [State.ioRecord]

@[simp] theorem State.ioRefuse_mem (s : State) (p : Nat) (r : IoReq) (dtf : Bool) (e : IoStop) :
    (s.ioRefuse p r dtf e).1.mem = s.mem := by
  unfold State.ioRefuse
  split <;> simp

@[simp] theorem State.ioTranslate_mem (s : State) (p : Nat) (r : IoReq) : (s.ioTranslate p r).1.mem = s.mem := by
  unfold State.ioTranslate
  dsimp only
  repeat' split
  all_goals simp

theorem State.ioCommand_mem {s : State} {p c0 c1 : Nat} {s' : State} (he : s.ioCommand p c0 c1 = some s') : s'.mem = s.mem := by
  unfold State.ioCommand at he
  grind [State.mem_setPort, State.ioCmdIrq_mem, State.ioStore4_mem]

@[simp] theorem State.ioNext_mem (s : State) (p : Nat) : (s.ioNext p).mem = s.mem := by simp [State.ioNext]

@[simp] theorem State.ioRun_mem (s : State) (p n : Nat) : (s.ioRun p n).mem = s.mem := by
  induction n generalizing s with
  | zero => rfl
  | succ n ih =>
    unfold State.ioRun
    grind [State.ncDrop_mem, State.mem_setPort, State.ioCmdIrq_mem, State.ioRecords_mem,
      State.ncAsk_mem, State.ioCommand_mem, State.ioNext_mem]

@[simp] theorem State.ioFenced_mem (s : State) (p : Nat) : (s.ioFenced p).mem = s.mem := by simp [State.ioFenced]

@[simp] theorem State.ioDebug_mem (s : State) (p : Nat) : (s.ioDebug p).mem = s.mem := by
  unfold State.ioDebug
  dsimp only
  split <;> simp

@[simp] theorem State.ioWrite_mem (s : State) (p o v raw : Nat) (lo hi : Bool) : (s.ioWrite p o v raw lo hi).mem = s.mem := by
  simp [State.ioWrite]

theorem State.ctlWrite_mem {s : State} {src f off size : Nat} {v : Word} {s' : State}
    (he : s.ctlWrite src f off size v = some s') : s'.mem = s.mem := by
  rw [State.ctlWrite] at he
  split at he
  · obtain ⟨w, -, rfl⟩ := Option.map_eq_some_iff.1 he
    exact State.windowWrite_mem ..
  split at he
  · obtain rfl := Option.some.inj he
    split
    · exact (State.aplicWrite_mem ..).trans (State.aplicWrite_mem ..)
    · exact State.aplicWrite_mem ..
  split at he
  · obtain rfl := Option.some.inj he
    exact State.mtimeWrite_mem ..
  split at he
  · obtain rfl := Option.some.inj he
    exact State.mtimecmpWrite_mem ..
  split at he
  · extract_lets p k at he
    split at he
    · obtain rfl := Option.some.inj he
      exact State.ioWrite_mem ..
    · cases he
  · exact State.filePut_mem he

@[simp] theorem State.ctlWrite_getD_mem (s : State) (src f off size : Nat) (v : Word) :
    ((s.ctlWrite src f off size v).getD s).mem = s.mem := getD_mem fun _ => State.ctlWrite_mem

/-! ### Arrivals and snoops -/

@[simp] theorem State.arrive_mem (s : State) (m : Msg) : (s.arrive m).1.mem = s.mem := by
  unfold State.arrive
  dsimp only
  repeat' split
  all_goals simp

@[simp] theorem State.l2Check_mem (s : State) (c line : Nat) : (s.l2Check c line).mem = s.mem := by
  unfold State.l2Check
  dsimp only
  split <;> simp

@[simp] theorem State.upsetAt_mem (s : State) (c line : Nat) (fetch : Bool) (u : Upset) :
    (s.upsetAt c line fetch u).mem = s.mem := by
  unfold State.upsetAt
  dsimp only
  split <;> simp

@[simp] theorem State.l1Check_mem (s : State) (c line : Nat) : (s.l1Check c line).mem = s.mem := by simp [State.l1Check]

@[simp] theorem State.snoopCores_mem (s : State) (op : MsgOp) (line : Nat) (cs : List Nat) :
    (s.snoopCores op line cs).1.mem = s.mem := by
  simp [State.snoopCores]

@[simp] theorem State.answerSnoop_mem (s : State) (m : Msg) (studs : List Nat) (agent : Nat) :
    (s.answerSnoop m studs agent).mem = s.mem := by
  unfold State.answerSnoop
  dsimp only
  repeat' split
  all_goals simp

@[simp] theorem State.snoopStuds_mem (s : State) (m : Msg) (studs : List Nat) (agent : Nat) :
    (s.snoopStuds m studs agent).mem = s.mem := by
  unfold State.snoopStuds
  split <;> simp

@[simp] theorem State.releaseHold_mem (s : State) (c : Nat) : (s.releaseHold c).mem = s.mem := by simp [State.releaseHold]
@[simp] theorem State.trapCore_mem (s : State) (c : Nat) (t : Trap) : (s.trapCore c t).mem = s.mem := by simp [State.trapCore]

@[simp] theorem State.faultAt_mem (s : State) (c cause : Nat) (va : Word) (w : Wait) : (s.faultAt c cause va w).mem = s.mem := by
  simp [State.faultAt]

@[simp] theorem State.fault_mem (s : State) (c cause : Nat) (w : Wait) : (s.fault c cause w).mem = s.mem := by simp [State.fault]
@[simp] theorem State.illegal_mem (s : State) (c : Nat) (virt : Bool) : (s.illegal c virt).mem = s.mem := by simp [State.illegal]

/-! ### What a core sends -/

@[simp] theorem State.request_mem (s : State) (c i : Nat) (sl : Slot) : (s.request c i sl).mem = s.mem := by
  unfold State.request
  split <;> simp

@[simp] theorem State.slotSend_mem (s : State) (c i : Nat) (sl : Slot) (op : MsgOp) (data : Line) (m : BitVec 64)
    (pz : Bool) : (s.slotSend c i sl op data m pz).mem = s.mem := by
  simp [State.slotSend]

theorem State.ridgeSend_mem {s : State} {f : Nat} {r : RidgeReq} {s' : State} (he : s.ridgeSend f r = some s') :
    s'.mem = s.mem := by
  unfold State.ridgeSend at he
  grind [State.mem_setPort]

theorem State.ridgeRun_mem {s : State} {c i : Nat} {sl : Slot} {s' : State} (he : s.ridgeRun c i sl = some s') :
    s'.mem = s.mem := by
  unfold State.ridgeRun at he
  grind [State.ridgeSend_mem, State.mem_setCore]

@[simp] theorem State.ridgeRun_getD_mem (s : State) (c i : Nat) (sl : Slot) : ((s.ridgeRun c i sl).getD s).mem = s.mem :=
  getD_mem fun _ => State.ridgeRun_mem

/-! ### Root ports -/

@[simp] theorem State.postLink_mem (s : State) (p event x data : Nat) : (s.postLink p event x data).mem = s.mem := by
  simp [State.postLink]

@[simp] theorem State.setRootOf_mem (s : State) (p i : Nat) (r : Root) : (s.setRootOf p i r).mem = s.mem := by
  simp [State.setRootOf]

@[simp] theorem State.linkEdge_mem (s : State) (p : Nat) : (s.linkEdge p).mem = s.mem := by simp [State.linkEdge]
@[simp] theorem State.setIntx_mem (s : State) (p i v : Nat) : (s.setIntx p i v).mem = s.mem := by simp [State.setIntx]
@[simp] theorem State.inbFailed_mem (s : State) (p : Nat) (x : Inb) : (s.inbFailed p x).mem = s.mem := by simp [State.inbFailed]
@[simp] theorem State.inbEnd_mem (s : State) (p t : Nat) (x : Inb) : (s.inbEnd p t x).mem = s.mem := by simp [State.inbEnd]

/-! ### Accesses of a hart -/

@[simp] theorem State.refillAcc_mem (s : State) (c : Nat) (a : Acc) (ctx : Ctx) : (s.refillAcc c a ctx).mem = s.mem := by
  simp [State.refillAcc]

@[simp] theorem State.settle_mem (s : State) (c : Nat) : (s.settle c).mem = s.mem := by simp [State.settle]

theorem State.evict_mem {s : State} {c : Nat} {line : Nat} {s' : State} (he : s.evict c line = some s') : s'.mem = s.mem := by
  unfold State.evict at he
  grind [State.l2Check_mem, State.ridgeRun_getD_mem, State.mem_setCore, State.request_mem]

theorem State.installLine_mem {s : State} {c : Nat} {e : L2Line} {lru : Bool} {s' : State}
    (he : s.installLine c e lru = some s') : s'.mem = s.mem := by
  unfold State.installLine at he
  grind [State.evict_mem, State.mem_setCore]

@[simp] theorem State.installLine_getD_mem (s : State) (c : Nat) (e : L2Line) (lru : Bool) :
    ((s.installLine c e lru).getD s).mem = s.mem :=
  getD_mem fun _ => State.installLine_mem

@[simp] theorem State.fillL1_mem (s : State) (c : Nat) (fetch : Bool) (line : Nat) : (s.fillL1 c fetch line).mem = s.mem := by
  simp [State.fillL1]

theorem State.openMiss_mem {s : State} {c : Nat} {line : Nat} {uniq : Bool} {nt : Option Ntl} {l : List Wait} {s' : State}
    (he : s.openMiss c line uniq nt l = some s') : s'.mem = s.mem := by
  unfold State.openMiss at he
  grind [State.ridgeSend_mem, State.mem_setCore, State.request_mem]

theorem State.startMiss_mem {s : State} {c : Nat} {line : Nat} {uniq : Bool} {nt : Option Ntl} {l : List Wait} {s' : State}
    (he : s.startMiss c line uniq nt l = some s') : s'.mem = s.mem := by
  unfold State.startMiss at he
  grind [State.openMiss_mem, State.mem_setCore]

@[simp] theorem State.startMiss_getD_mem (s : State) (c line : Nat) (uniq : Bool) (nt : Option Ntl) (l : List Wait) :
    ((s.startMiss c line uniq nt l).getD s).mem = s.mem :=
  getD_mem fun _ => State.startMiss_mem

theorem State.storeMiss_mem {s : State} {c : Nat} {line : Nat} {nt : Option Ntl} {s' : State}
    (he : s.storeMiss c line nt = some s') : s'.mem = s.mem := by
  unfold State.storeMiss at he
  grind [Option.map_eq_some_iff, State.mem_setCore, State.startMiss_mem]

@[simp] theorem State.storeMiss_getD_mem (s : State) (c line : Nat) (nt : Option Ntl) :
    ((s.storeMiss c line nt).getD s).mem = s.mem :=
  getD_mem fun _ => State.storeMiss_mem

@[simp] theorem State.flashFill_mem (s : State) (c : Nat) (line : Nat) (lru : Bool) : (s.flashFill c line lru).mem = s.mem := by
  unfold State.flashFill
  split
  · split <;> simp
  · rfl

@[simp] theorem State.prefLine_mem (s : State) (c line n : Nat) : (s.prefLine c line n).mem = s.mem := by
  unfold State.prefLine
  dsimp only
  repeat' split
  all_goals simp

@[simp] theorem State.l2Prefetch_mem (s : State) (c line : Nat) : (s.l2Prefetch c line).mem = s.mem := by simp [State.l2Prefetch]

theorem State.loadMiss_mem {s : State} {c l : Nat} {w : Wait} {s' : State} (he : s.loadMiss c l w = some s') : s'.mem = s.mem := by
  obtain ⟨t, ht, rfl⟩ := Option.map_eq_some_iff.1 he
  grind [State.startMiss_mem, State.l2Prefetch_mem]

theorem State.doLoad_mem {s : State} {c : Nat} {w : Wait} {s' : State} (he : s.doLoad c w = some s') : s'.mem = s.mem := by
  unfold State.doLoad at he
  grind [foldl_mem, leavesMem_iff, State.fillL1_mem, State.loadMiss_mem, State.l1Check_mem,
    State.upsetAt_mem, State.l2Check_mem, State.mem_setCore, State.flashFill_mem]

theorem State.doAmo_mem {s : State} {c : Nat} {w : Wait} {s' : State} (he : s.doAmo c w = some s') : s'.mem = s.mem := by
  unfold State.doAmo at he
  grind [foldl_mem, leavesMem_iff, State.startMiss_mem, State.l2Check_mem, State.mem_setCore]

theorem State.doLr_mem {s : State} {c : Nat} {w : Wait} {s' : State} (he : s.doLr c w = some s') : s'.mem = s.mem := by
  unfold State.doLr at he
  grind [foldl_mem, leavesMem_iff, State.startMiss_mem, State.l2Check_mem, State.mem_setCore,
    State.releaseHold_mem]

@[simp] theorem State.doSc_mem (s : State) (c : Nat) (w : Wait) : (s.doSc c w).mem = s.mem := by simp [State.doSc]

theorem State.doRidgeCbo_mem {s : State} {c : Nat} {a : Acc} {s' : State} (he : s.doRidgeCbo c a = some s') : s'.mem = s.mem := by
  unfold State.doRidgeCbo at he
  grind [State.mem_setCore, State.ridgeRun_getD_mem]

@[simp] theorem State.doRidgeCbo_getD_mem (s : State) (c : Nat) (a : Acc) : ((s.doRidgeCbo c a).getD s).mem = s.mem :=
  getD_mem fun _ => State.doRidgeCbo_mem

theorem State.doCbo_mem {s : State} {c : Nat} {w : Wait} {s' : State} (he : s.doCbo c w = some s') : s'.mem = s.mem := by
  unfold State.doCbo at he
  grind [State.doRidgeCbo_mem, State.mem_setCore, State.request_mem]

theorem State.doZero_mem {s : State} {c : Nat} {w : Wait} {s' : State} (he : s.doZero c w = some s') : s'.mem = s.mem := by
  unfold State.doZero at he
  grind [State.mem_setCore, State.request_mem, State.installLine_mem]

theorem State.joinMiss_mem {s : State} {c i : Nat} {sl : Slot} {w : Wait} {s' : State} (he : s.joinMiss c i sl w = some s')
    : s'.mem = s.mem := by
  unfold State.joinMiss at he
  grind [State.mem_setCore]

theorem State.doPref_mem {s : State} {c : Nat} {w : Wait} {s' : State} (he : s.doPref c w = some s') : s'.mem = s.mem := by
  unfold State.doPref at he
  grind [State.startMiss_mem, State.fillL1_mem, State.mem_setCore, State.flashFill_mem]

@[simp] theorem State.ncPiece_mem (s : State) (c i : Nat) (w : Wait) : (s.ncPiece c i w).mem = s.mem := by
  unfold State.ncPiece
  split <;> simp

theorem State.ridgePiece_mem {s : State} {c i : Nat} {w : Wait} {s' : State} (he : s.ridgePiece c i w = some s') :
    s'.mem = s.mem := by
  unfold State.ridgePiece at he
  grind [State.ridgeSend_mem, State.mem_setCore]

@[simp] theorem State.ridgePiece_getD_mem (s : State) (c i : Nat) (w : Wait) : ((s.ridgePiece c i w).getD s).mem = s.mem :=
  getD_mem fun _ => State.ridgePiece_mem

theorem State.ridgePiece_getD_mem_of_eq {s t u : State} {c i : Nat} {w : Wait} (hs : s.mem = u.mem)
    (ht : t.mem = u.mem) : ((s.ridgePiece c i w).getD t).mem = u.mem := by
  cases he : s.ridgePiece c i w with
  | none => exact ht
  | some v => exact (State.ridgePiece_mem he).trans hs

theorem State.startNc_mem {s : State} {c : Nat} {w : Wait} {ridge : Bool} {s' : State} (he : s.startNc c w ridge = some s')
    : s'.mem = s.mem := by
  unfold State.startNc at he
  grind [State.ridgePiece_mem, State.ncPiece_mem]

@[simp] theorem State.startNc_getD_mem (s : State) (c : Nat) (w : Wait) (ridge : Bool) :
    ((s.startNc c w ridge).getD s).mem = s.mem :=
  getD_mem fun _ => State.startNc_mem

/-- The fault is taken, or the load's vl is trimmed. -/
@[simp] theorem State.faultAcc_mem (s : State) (c : Nat) (w : Wait) (trap : State) (ht : trap.mem = s.mem) :
    (s.faultAcc c w trap).mem = s.mem := by
  unfold State.faultAcc
  split
  · split
    · exact ht
    · exact State.mem_setCore ..
  · exact ht

@[simp] theorem State.ioFail_mem (s : State) (c p : Nat) (w : Wait) : (s.ioFail c p w).mem = s.mem := by simp [State.ioFail]
@[simp] theorem State.ioSlot_mem (s : State) (c i : Nat) (w : Wait) : (s.ioSlot c i w).mem = s.mem := by simp [State.ioSlot]
@[simp] theorem State.cfgFailed_mem (s : State) (p : Nat) : (s.cfgFailed p).mem = s.mem := by simp [State.cfgFailed]

@[simp] theorem State.ioEnd_mem (s : State) (p : Nat) (q : OutReq) (got : Option (List Byte × Bool)) :
    (s.ioEnd p q got).mem = s.mem := by
  unfold State.ioEnd
  repeat' split
  all_goals simp

@[simp] theorem State.ioLoseOther_mem (s : State) (p : Nat) (q : OutReq) : (s.ioLoseOther p q).mem = s.mem := by
  unfold State.ioLoseOther
  dsimp only
  repeat' split
  all_goals simp

@[simp] theorem State.rootFlush_mem (s : State) (p i : Nat) : (s.rootFlush p i).mem = s.mem := by simp [State.rootFlush]
@[simp] theorem State.cxlLost_mem (s : State) (p i : Nat) : (s.cxlLost p i).mem = s.mem := by simp [State.cxlLost]
@[simp] theorem State.rootLost_mem (s : State) (p i : Nat) : (s.rootLost p i).mem = s.mem := by simp [State.rootLost]

@[simp] theorem State.rootContain_mem (s : State) (p i why : Nat) : (s.rootContain p i why).mem = s.mem := by
  simp [State.rootContain]

@[simp] theorem State.rootStore_mem (s : State) (p i off size v : Nat) : (s.rootStore p i off size v).mem = s.mem := by
  simp [State.rootStore]

/-- A read of control space leaves a state whose memory is w, whatever it answers. -/
inductive CtlRead.LeavesMem (w : List Host.Cell) : CtlRead → Prop
  | value {v : Word} {t : State} : t.mem = w → LeavesMem w (.value v t)
  | stalled {t : State} : t.mem = w → LeavesMem w (.stalled t)
  | fault : LeavesMem w .fault

theorem State.ctlRead_mem (s : State) (f c off size : Nat) (dest : Dest) :
    CtlRead.LeavesMem s.mem (s.ctlRead f c off size dest) := by
  rw [State.ctlRead]
  split
  · split
    · exact .fault
    · extract_lets ro part
      split
      · split
        · exact .stalled (State.nqPop_mem ..)
        · exact .value rfl
      · exact .value (State.counted_mem ..)
  split
  · exact .value rfl
  split
  · exact .value rfl
  split
  · split <;> exact .value rfl
  split
  · extract_lets p k
    split
    · exact .value rfl
    · exact .fault
  split
  · exact .value rfl
  · exact .fault

theorem State.ctlRead_value_mem {s t : State} {f c off size : Nat} {dest : Dest} {v : Word}
    (he : s.ctlRead f c off size dest = .value v t) : t.mem = s.mem := by
  have hl := s.ctlRead_mem f c off size dest
  rw [he] at hl
  cases hl with
  | value h => exact h

theorem State.ctlRead_stalled_mem {s t : State} {f c off size : Nat} {dest : Dest}
    (he : s.ctlRead f c off size dest = .stalled t) : t.mem = s.mem := by
  have hl := s.ctlRead_mem f c off size dest
  rw [he] at hl
  cases hl with
  | stalled h => exact h

theorem State.doIoLoad_mem {s : State} {c : Nat} {w : Wait} {p : Path} {s' : State} (he : s.doIoLoad c w p = some s') :
    s'.mem = s.mem := by
  unfold State.doIoLoad at he
  cases p with
  | ctl off =>
    dsimp only at he
    split at he
    · cases he
    · split at he
      · cases he
        rw [State.fault_mem, State.nqGoOn_mem]
      · next t ht =>
        cases he
        rw [State.mem_setCore, State.ctlRead_stalled_mem ht, State.nqGoOn_mem]
      · next v t ht =>
        cases he
        rw [State.mem_setCore, State.ctlRead_value_mem ht, State.nqGoOn_mem]
  | _ => grind [State.mem_setCore, State.mem_setPort, State.ioFail_mem, State.ioSlot_mem]

theorem State.doIoStore_mem {s : State} {c : Nat} {a : Acc} {p : Path} {s' : State} (he : s.doIoStore c a p = some s') :
    s'.mem = s.mem := by
  unfold State.doIoStore at he
  cases p with
  | ctl off => grind [State.nqGoOn_mem, State.ctlWrite_getD_mem]
  | _ => grind [Option.map_eq_some_iff, State.rootStore_mem, State.cfgFailed_mem, State.mem_setPort]

theorem State.pushStore_mem {s : State} {c : Nat} {w : Wait} {s' : State} (he : s.pushStore c w = some s') : s'.mem = s.mem := by
  unfold State.pushStore at he
  grind [State.mem_setCore]

@[simp] theorem State.doFlashNc_mem (s : State) (c : Nat) (w : Wait) : (s.doFlashNc c w).mem = s.mem := by simp [State.doFlashNc]

theorem State.perform_mem {s : State} {c : Nat} {w : Wait} {s' : State} (he : s.perform c w = some s') : s'.mem = s.mem := by
  unfold State.perform at he
  dsimp only at he
  split at he
  · split at he
    · cases he
      exact State.faultAcc_mem _ _ _ _ (State.faultAt_mem ..)
    · cases he
  split at he
  · cases he
    rfl
  split at he
  · cases he
  split at he
  · cases he
  split at he
  · cases he
  split at he
  · exact State.joinMiss_mem he
  split at he
  · exact State.pushStore_mem he
  · exact State.doPref_mem he
  · exact State.doPref_mem he
  · exact State.doPref_mem he
  · exact State.doCbo_mem he
  · exact State.doCbo_mem he
  · exact State.doCbo_mem he
  · exact State.doZero_mem he
  · exact State.doLr_mem he
  · cases he
    exact State.doSc_mem ..
  · split at he
    · exact State.startNc_mem he
    · exact State.doAmo_mem he
  · split at he
    · exact State.doLoad_mem he
    split at he
    · cases he
      exact State.doFlashNc_mem ..
    split at he
    · split at he
      · cases he
      · exact State.startNc_mem he
    · exact State.doIoLoad_mem he

@[simp] theorem State.hewnFault_mem (s : State) (c cause reason stage : Nat) (va : Word) (w : Wait) :
    (s.hewnFault c cause reason stage va w).mem = s.mem := by
  simp [State.hewnFault]

@[simp] theorem State.tryTranslated_mem (s : State) (c : Nat) (w : Wait) : (s.tryTranslated c w).mem = s.mem := by
  unfold State.tryTranslated
  grind [State.mem_setCore, State.perform_mem]

@[simp] theorem State.tryOne_mem (s : State) (c : Nat) (w : Wait) : (s.tryOne c w).mem = s.mem := by
  unfold State.tryOne
  dsimp only
  repeat' split
  all_goals simp

@[simp] theorem State.tryAccess_mem (s : State) (c : Nat) (w : Wait) : (s.tryAccess c w).mem = s.mem := by simp [State.tryAccess]

@[simp] theorem State.drainHead_mem (s : State) (c : Nat) : (s.drainHead c).mem = s.mem := by
  have hl : ∀ l : List Nat, (l.foldl (fun s l => s.l2Check c l) s).mem = s.mem := by simp
  unfold State.drainHead
  grind [State.storeMiss_getD_mem, State.mem_setCore, State.startNc_getD_mem, State.doIoStore_mem]

@[simp] theorem State.pumpRidge_mem (s : State) (c : Nat) : (s.pumpRidge c).mem = s.mem := by
  unfold State.pumpRidge
  rw [foldl_mem _ (by simp)]

@[simp] theorem State.afterFill_mem (s : State) (c i : Nat) (sl : Slot) (st : LSt) : (s.afterFill c i sl st).mem = s.mem := by
  simp [State.afterFill]

@[simp] theorem State.tryInstall_mem (s : State) (c i : Nat) : (s.tryInstall c i).mem = s.mem := by
  unfold State.tryInstall
  grind [State.afterFill_mem, State.mem_setCore, State.installLine_mem, State.slotSend_mem]

@[simp] theorem State.pumpFills_mem (s : State) (c : Nat) : (s.pumpFills c).mem = s.mem := by simp [State.pumpFills]

@[simp] theorem State.retryList_mem (s : State) (c : Nat) (ws : List Wait) : (s.retryList c ws).mem = s.mem := by
  induction ws generalizing s with
  | nil => rfl
  | cons w r ih => simp [State.retryList, ih]

@[simp] theorem State.retry_mem (s : State) (c : Nat) : (s.retry c).mem = s.mem := by simp [State.retry]

@[simp] theorem State.stride_mem (s : State) (c : Nat) (a : Acc) (ctx : Ctx) : (s.stride c a ctx).mem = s.mem := by
  simp [State.stride]

@[simp] theorem State.issue_mem (s : State) (c : Nat) (a : Acc) (hyp : Bool) : (s.issue c a hyp).mem = s.mem := by
  simp [State.issue]

/-! ### Commands of a hart -/

/-- An action that keeps memory canonical, or an exception, or a wait. -/
theorem State.guarded_canonical (s : State) (c legal : Nat) (act : State → State) (hs : MemCanonical s.mem)
    (ha : MemCanonical (act s).mem) : (s.guarded c legal act).Canonical := by
  simp [State.guarded, hs, ha]

theorem State.serial_canonical (s : State) (c legal : Nat) (act : State → State) (hs : MemCanonical s.mem)
    (ha : MemCanonical (act s).mem) : (s.serial c legal act).Canonical := by
  unfold State.serial
  split
  · exact State.guarded_canonical s c legal act hs ha
  · simpa using hs

theorem execLoad_canonical (c : CoreId) (va : Word) (size : Nat) (dest : Dest) (sext : Bool) (hyp : HypKind) (upset : Upset) :
    KeepsMemory (execLoad c va size dest sext hyp upset) := fun s hs => by
  unfold execLoad
  grind [State.issue_mem, State.guarded_canonical]

theorem execStore_canonical (c : CoreId) (va : Word) (size : Nat) (val : BitVec 128) (hyp : Bool) :
    KeepsMemory (execStore c va size val hyp) := fun s hs => by
  unfold execStore
  grind [State.issue_mem, State.guarded_canonical]

theorem execStoreQueueDrain_canonical (c : CoreId) : KeepsMemory (execStoreQueueDrain c) := fun s hs => by
  simp [execStoreQueueDrain, hs]

theorem execAmo_canonical (c : CoreId) (va : Word) (size : Nat) (op : AmoOp) (val cmp : BitVec 128) (rd : Fin 32) (aq rl : Bool) :
    KeepsMemory (execAmo c va size op val cmp rd aq rl) := fun s hs => by
  unfold execAmo
  grind [State.issue_mem, State.guarded_canonical]

theorem execLr_canonical (c : CoreId) (va : Word) (size : Nat) (rd : Fin 32) (aq rl : Bool) :
    KeepsMemory (execLr c va size rd aq rl) := fun s hs => by
  unfold execLr
  grind [State.issue_mem, State.guarded_canonical]

theorem execSc_canonical (c : CoreId) (va : Word) (size : Nat) (val : BitVec 128) (rd : Fin 32) (aq rl : Bool) :
    KeepsMemory (execSc c va size val rd aq rl) := fun s hs => by
  unfold execSc
  grind [State.issue_mem, State.guarded_canonical]

theorem execLrHoldExpiry_canonical (c : CoreId) : KeepsMemory (execLrHoldExpiry c) := fun s hs => by simp [execLrHoldExpiry, hs]

@[simp] theorem State.addFence_mem (s : State) (c : Nat) (pred succ : BitVec 4) (all : Bool) (x : Option XFence) :
    (s.addFence c pred succ all x).mem = s.mem := by
  simp [State.addFence]

theorem execFence_canonical (c : CoreId) (pred succ : BitVec 4) : KeepsMemory (execFence c pred succ) := fun s hs => by
  unfold execFence
  grind [State.guarded_canonical, State.addFence_mem]

theorem execFenceI_canonical (c : CoreId) : KeepsMemory (execFenceI c) := fun s hs => by
  unfold execFenceI
  grind [State.guarded_canonical, State.addFence_mem]

@[simp] theorem State.beginWait_mem (s : State) (c : Nat) (w : Waiting) : (s.beginWait c w).mem = s.mem := by simp [State.beginWait]

theorem execWfi_canonical (c : CoreId) : KeepsMemory (execWfi c) := fun s hs => by
  unfold execWfi
  grind [State.serial_canonical, State.beginWait_mem]

theorem execWrsNto_canonical (c : CoreId) : KeepsMemory (execWrsNto c) := fun s hs => by
  unfold execWrsNto
  grind [State.serial_canonical, State.beginWait_mem]

theorem execWrsSto_canonical (c : CoreId) : KeepsMemory (execWrsSto c) := fun s hs => by
  unfold execWrsSto
  grind [State.serial_canonical, State.beginWait_mem]

theorem execWrsStoTimeout_canonical (c : CoreId) : KeepsMemory (execWrsStoTimeout c) := fun s hs => by simp [execWrsStoTimeout, hs]

theorem execCboCleanInsn_canonical (c : CoreId) (va : Word) : KeepsMemory (execCboCleanInsn c va) := fun s hs => by
  unfold execCboCleanInsn
  grind [State.issue_mem, State.guarded_canonical]

theorem execCboFlushInsn_canonical (c : CoreId) (va : Word) : KeepsMemory (execCboFlushInsn c va) := fun s hs => by
  unfold execCboFlushInsn
  grind [State.issue_mem, State.guarded_canonical]

theorem execCboInvalInsn_canonical (c : CoreId) (va : Word) : KeepsMemory (execCboInvalInsn c va) := fun s hs => by
  unfold execCboInvalInsn
  grind [State.issue_mem, State.guarded_canonical]

theorem execCboZeroInsn_canonical (c : CoreId) (va : Word) : KeepsMemory (execCboZeroInsn c va) := fun s hs => by
  unfold execCboZeroInsn
  grind [State.issue_mem, State.guarded_canonical]

theorem execPrefetchHint_canonical (c : CoreId) (kind : PrefKind) (va : Word) :
    KeepsMemory (execPrefetchHint c kind va) := fun s hs => by
  unfold execPrefetchHint
  grind [State.issue_mem, State.guarded_canonical]

theorem execNtlHint_canonical (c : CoreId) (hint : Ntl) : KeepsMemory (execNtlHint c hint) := fun s hs => by
  unfold execNtlHint
  grind [State.mem_setCore, State.guarded_canonical]

theorem execPoisonConsumption_canonical (c : CoreId) : KeepsMemory (execPoisonConsumption c) := fun s hs => by
  unfold execPoisonConsumption
  dsimp only
  split <;> simp [hs]

theorem execHewnMissTrap_canonical (c : CoreId) : KeepsMemory (execHewnMissTrap c) := fun s hs => by
  unfold execHewnMissTrap
  dsimp only
  split
  · simpa using hs
  · rw [Res.canonical_next, State.faultAcc_mem, State.mem_setCore]
    · exact hs
    · simp

theorem execInterruptTaken_canonical (c : CoreId) : KeepsMemory (execInterruptTaken c) := fun s hs => by
  unfold execInterruptTaken
  dsimp only
  repeat' split
  all_goals simp [hs]

theorem execInstructionFetch_canonical (c : CoreId) (va : Word) (upset : Upset) :
    KeepsMemory (execInstructionFetch c va upset) := fun s hs => by
  unfold execInstructionFetch
  grind [State.issue_mem, State.mem_setCore, State.guarded_canonical]

theorem execDebugHaltRequest_canonical (c : CoreId) : KeepsMemory (execDebugHaltRequest c) := fun s hs => by
  simp [execDebugHaltRequest, hs]

theorem execDebugUart_canonical : KeepsMemory execDebugUart := fun s hs => by simp [execDebugUart, hs]

/-! ### Fences of translation and CSRs -/

theorem execSfenceVma_canonical (c : CoreId) (va : Option Word) (asid : Option (BitVec 16)) :
    KeepsMemory (execSfenceVma c va asid) := fun s hs => by
  unfold execSfenceVma
  grind [State.guarded_canonical, State.addFence_mem]

theorem execHfenceVvma_canonical (c : CoreId) (va : Option Word) (asid : Option (BitVec 16)) :
    KeepsMemory (execHfenceVvma c va asid) := fun s hs => by
  unfold execHfenceVvma
  grind [State.guarded_canonical, State.addFence_mem]

theorem execHfenceGvma_canonical (c : CoreId) (gpa : Option Word) (vmid : Option (BitVec 14)) :
    KeepsMemory (execHfenceGvma c gpa vmid) := fun s hs => by
  unfold execHfenceGvma
  grind [State.guarded_canonical, State.addFence_mem]

theorem execSinvalVma_canonical (c : CoreId) (va : Option Word) (asid : Option (BitVec 16)) :
    KeepsMemory (execSinvalVma c va asid) := fun s hs => by
  unfold execSinvalVma
  grind [State.guarded_canonical, State.addFence_mem]

theorem execHinvalVvma_canonical (c : CoreId) (va : Option Word) (asid : Option (BitVec 16)) :
    KeepsMemory (execHinvalVvma c va asid) := fun s hs => by
  unfold execHinvalVvma
  grind [State.guarded_canonical, State.addFence_mem]

theorem execHinvalGvma_canonical (c : CoreId) (gpa : Option Word) (vmid : Option (BitVec 14)) :
    KeepsMemory (execHinvalGvma c gpa vmid) := fun s hs => by
  unfold execHinvalGvma
  grind [State.guarded_canonical, State.addFence_mem]

theorem execSfenceWInval_canonical (c : CoreId) : KeepsMemory (execSfenceWInval c) := fun s hs => by
  unfold execSfenceWInval
  grind [State.guarded_canonical, State.addFence_mem]

theorem execSfenceInvalIr_canonical (c : CoreId) : KeepsMemory (execSfenceInvalIr c) := fun s hs => by
  unfold execSfenceInvalIr
  grind [State.guarded_canonical, State.addFence_mem]

theorem execSatpWrite_canonical (c : CoreId) (reg : AtpReg) (val : Word) : KeepsMemory (execSatpWrite c reg val) := fun s hs => by
  unfold execSatpWrite
  grind [State.serial_canonical, State.mem_setCore]

theorem execEnvcfgCbieWrite_canonical (c : CoreId) (reg : EnvReg) (cbie : BitVec 2) :
    KeepsMemory (execEnvcfgCbieWrite c reg cbie) := fun s hs => by
  unfold execEnvcfgCbieWrite
  grind [State.serial_canonical, State.mem_setCore]

theorem execMclkselWrite_canonical (c : CoreId) (val : Word) : KeepsMemory (execMclkselWrite c val) := fun s hs => by
  unfold execMclkselWrite
  grind [State.serial_canonical, State.mem_setCore]

theorem execClockSwitchDone_canonical (c : CoreId) : KeepsMemory (execClockSwitchDone c) := fun s hs => by
  unfold execClockSwitchDone
  dsimp only
  split <;> simp [hs]

theorem execPllLock_canonical (n : StudId) : KeepsMemory (execPllLock n) := fun s hs => by simp [execPllLock, hs]

theorem execMcorectlWrite_canonical (c : CoreId) (val : Word) : KeepsMemory (execMcorectlWrite c val) := fun s hs => by
  unfold execMcorectlWrite
  grind [State.serial_canonical, State.mem_setCore]

theorem execPoisoninfoWrite_canonical (c : CoreId) (lvl : Lvl) (val : Word) :
    KeepsMemory (execPoisoninfoWrite c lvl val) := fun s hs => by
  unfold execPoisoninfoWrite
  grind [State.serial_canonical, State.mem_setCore]

theorem execWalkinfoWrite_canonical (c : CoreId) (lvl : Lvl) (val : Word) :
    KeepsMemory (execWalkinfoWrite c lvl val) := fun s hs => by
  unfold execWalkinfoWrite
  grind [State.serial_canonical, State.mem_setCore]

theorem execMshimctlWrite_canonical (c : CoreId) (val : Word) : KeepsMemory (execMshimctlWrite c val) := fun s hs => by
  unfold execMshimctlWrite
  grind [State.serial_canonical, State.mem_setCore]

theorem State.stlbOp_canonical (s : State) (c : Nat) (act : State → State) (hs : MemCanonical s.mem)
    (ha : MemCanonical (act s).mem) : (s.stlbOp c act).Canonical := by
  unfold State.stlbOp
  apply State.serial_canonical s c _ _ hs
  split
  · exact ha
  · simpa using hs

theorem execStlbcmdWrite_canonical (c : CoreId) (wired : Bool) : KeepsMemory (execStlbcmdWrite c wired) := fun s hs => by
  unfold execStlbcmdWrite
  grind [State.stlbOp_canonical, State.take_mem, State.mem_setCore]

theorem execStlbcmdProbe_canonical (c : CoreId) : KeepsMemory (execStlbcmdProbe c) := fun s hs => by
  unfold execStlbcmdProbe
  grind [State.stlbOp_canonical, State.mem_setCore]

theorem execStlbcmdRead_canonical (c : CoreId) (index : BitVec 12) : KeepsMemory (execStlbcmdRead c index) := fun s hs => by
  unfold execStlbcmdRead
  grind [State.serial_canonical, State.take_mem, State.mem_setCore]

theorem State.stlbInval_canonical (s : State) (c : Nat) (wired : Bool) (p : Core → TlbEnt → Bool) (hs : MemCanonical s.mem) :
    (s.stlbInval c wired p).Canonical := by
  unfold State.stlbInval
  grind [State.stlbOp_canonical, State.mem_setCore]

theorem execStlbcmdInvalVa_canonical (c : CoreId) (wired : Bool) : KeepsMemory (execStlbcmdInvalVa c wired) := fun s hs => by
  unfold execStlbcmdInvalVa
  grind [State.stlbInval_canonical]

theorem execStlbcmdInvalAsid_canonical (c : CoreId) (wired : Bool) : KeepsMemory (execStlbcmdInvalAsid c wired) := fun s hs => by
  unfold execStlbcmdInvalAsid
  grind [State.stlbInval_canonical]

theorem execStlbcmdInvalAll_canonical (c : CoreId) (wired : Bool) : KeepsMemory (execStlbcmdInvalAll c wired) := fun s hs => by
  unfold execStlbcmdInvalAll
  grind [State.stlbInval_canonical]

/-! ### Transports of commands -/

@[simp] theorem State.tagDone_mem (s : State) (t : TInst) (b : List Byte) : (s.tagDone t b).mem = s.mem := by simp [State.tagDone]

@[simp] theorem State.loseTransport_mem (s : State) (t : TInst) : (s.loseTransport t).mem = s.mem := by
  unfold State.loseTransport
  split <;> simp

@[simp] theorem State.ringFail_mem (s : State) (f bit : Nat) : (s.ringFail f bit).mem = s.mem := by simp [State.ringFail]

@[simp] theorem State.ringPoison_mem (s : State) (f bit pa : Nat) : (s.ringPoison f bit pa).mem = s.mem := by
  simp [State.ringPoison]

@[simp] theorem State.pumpRing_mem (s : State) (f : Nat) : (s.pumpRing f).mem = s.mem := by
  unfold State.pumpRing
  dsimp only
  split <;> simp

@[simp] theorem State.pumpMailbox_mem (s : State) (p n : Nat) : (s.pumpMailbox p n).mem = s.mem := by
  induction n generalizing s with
  | zero => rfl
  | succ m ih =>
    unfold State.pumpMailbox
    dsimp only
    split
    · rfl
    · simp [ih]

@[simp] theorem State.pumpReplies_mem (s : State) (t : TInst) : (s.pumpReplies t).mem = s.mem := by
  unfold State.pumpReplies
  split <;> simp

@[simp] theorem State.ringWritten_mem (s : State) (f : Nat) : (s.ringWritten f).mem = s.mem := by
  unfold State.ringWritten
  dsimp only
  split <;> simp

@[simp] theorem State.mctpSend_mem (s : State) (own : Bool) (b : List Byte) : (s.mctpSend own b).mem = s.mem := by
  simp [State.mctpSend]

@[simp] theorem State.putReply_mem (s : State) (t : TInst) (own : Bool) (taken : Nat) (b : List Byte) (holds : Bool) :
    (s.putReply t own taken b holds).mem = s.mem := by
  unfold State.putReply
  dsimp only
  split <;> simp

@[simp] theorem State.sendReply_mem (s : State) (t : TInst) (own : Bool) (taken : Nat) (b : List Byte) :
    (s.sendReply t own taken b).mem = s.mem := by
  simp [State.sendReply]

@[simp] theorem State.commandDone_mem (s : State) (t : TInst) (op tag status : Nat) :
    (s.commandDone t op tag status).mem = s.mem := by
  unfold State.commandDone
  split <;> simp

@[simp] theorem State.pumpAll_mem (s : State) : s.pumpAll.mem = s.mem := by simp [State.pumpAll]

/-! ### Registers of the dovetail function -/

@[simp] theorem State.setDt_mem (s : State) (p : Nat) (d : Dovetail) : (s.setDt p d).mem = s.mem := by simp [State.setDt]
@[simp] theorem State.dtCfg_mem (s : State) (p : Nat) (v : Word) : (s.dtCfg p v).mem = s.mem := by simp [State.dtCfg]
@[simp] theorem State.dtCommit_mem (s : State) (p : Nat) : (s.dtCommit p).mem = s.mem := by simp [State.dtCommit]

@[simp] theorem State.barWrite_mem (s : State) (p o : Nat) (lo : Bool) (v raw : Word) : (s.barWrite p o lo v raw).mem = s.mem := by
  unfold State.barWrite
  split <;> simp

@[simp] theorem State.barStore_mem (s : State) (p o size : Nat) (val : Word) : (s.barStore p o size val).mem = s.mem := by
  simp [State.barStore]

@[simp] theorem State.inbHold_mem (s : State) (p : Nat) (x : Inb) : (s.inbHold p x).mem = s.mem := by simp [State.inbHold]

@[simp] theorem State.barTurn_mem (s : State) (p o size : Nat) (val : Word) : (s.barTurn p o size val).mem = s.mem := by
  simp [State.barTurn]

/-! ### Walks -/

@[simp] theorem State.setWalk_mem (s : State) (c i : Nat) (w : Walk) : (s.setWalk c i w).mem = s.mem := by simp [State.setWalk]
@[simp] theorem State.freeWalk_mem (s : State) (c i : Nat) : (s.freeWalk c i).mem = s.mem := by simp [State.freeWalk]

@[simp] theorem State.tlbFill_mem (s : State) (c : Nat) (acc : AccType) (e : TlbEnt) : (s.tlbFill c acc e).mem = s.mem := by
  simp [State.tlbFill]

@[simp] theorem State.pscFill_mem (s : State) (c : Nat) (e : PscEnt) : (s.pscFill c e).mem = s.mem := by simp [State.pscFill]

@[simp] theorem State.walkTrap_mem (s : State) (c : Nat) (w : Walk) (x : Wait) (va : Word) (reason pte level stage : Nat) :
    (s.walkTrap c w x va reason pte level stage).mem = s.mem := by
  simp [State.walkTrap]

@[simp] theorem State.walkFail_mem (s : State) (c i : Nat) (w : Walk) (reason pte level stage : Nat) :
    (s.walkFail c i w reason pte level stage).mem = s.mem := by
  unfold State.walkFail
  dsimp only
  repeat' split
  all_goals simp

@[simp] theorem State.touchUsed_mem (s : State) (c : Nat) (w : Walk) : (s.touchUsed c w).mem = s.mem := by simp [State.touchUsed]

@[simp] theorem State.walkNext_mem (s : State) (c i : Nat) (n : WNext) : (s.walkNext c i n).mem = s.mem := by
  unfold State.walkNext
  split <;> simp

@[simp] theorem State.beginWalk_mem (s : State) (c : Nat) (src : WalkSrc) (x : Wait) (va : Word) :
    (s.beginWalk c src x va).mem = s.mem := by
  unfold State.beginWalk
  dsimp only
  repeat' split
  all_goals simp

theorem execWalkRequest_canonical (c : CoreId) (src : WalkSrc) (acc : AccType) (va : Word) (guest : Bool) :
    KeepsMemory (execWalkRequest c src acc va guest) := fun s hs => by
  unfold execWalkRequest
  dsimp only
  split <;> simp [hs]

theorem execHeadWalkRequest_canonical (c : CoreId) : KeepsMemory (execHeadWalkRequest c) := fun s hs => by
  unfold execHeadWalkRequest
  dsimp only
  repeat' split
  all_goals simp [hs]

@[simp] theorem State.pteUpdate_mem (s : State) (c i : Nat) (w : Walk) (p : Word) : (s.pteUpdate c i w p).mem = s.mem := by
  unfold State.pteUpdate
  grind [State.freeWalk_mem, State.mem_setCore, State.retry_mem, State.walkNext_mem,
    State.startMiss_getD_mem, State.tlbFill_mem]

@[simp] theorem State.pteRead_mem (s : State) (c i : Nat) (w : Walk) (p : Word) (poison : Bool) (src : Nat) :
    (s.pteRead c i w p poison src).mem = s.mem := by
  unfold State.pteRead
  dsimp only
  repeat' split
  all_goals simp

@[simp] theorem State.shimEcc_mem (s : State) (c : Nat) (ecc : Fin 3) : (s.shimEcc c ecc).mem = s.mem := by
  unfold State.shimEcc
  split <;> simp

theorem execPteReadReturn_canonical (c : CoreId) (ctx : Fin 4) (ecc : Fin 3) :
    KeepsMemory (execPteReadReturn c ctx ecc) := fun s hs => by
  unfold execPteReadReturn
  grind [Res.canonical_next, State.shimEcc_mem, State.l2Check_mem, State.startMiss_getD_mem,
    State.mem_setCore, State.pteRead_mem]

/-! ### Inbound requests -/

@[simp] theorem State.setMemLine_canonical (s : State) (k : Nat) (l : Line) (poison : Bool) (hs : MemCanonical s.mem) :
    MemCanonical (s.setMemLine k l poison).mem := ⟨State.setMemLine_wf s k l poison hs.wf⟩

@[simp] theorem memCanonical_filter (m : List Host.Cell) (p : Host.Cell → Bool) (hm : MemCanonical m) :
    MemCanonical (m.filter p) := ⟨Memory.wf_filter m p hm.wf⟩

@[simp] theorem State.landPosted_canonical (s : State) (p : Nat) (hs : MemCanonical s.mem) : MemCanonical (s.landPosted p).mem := by
  unfold State.landPosted
  refine foldl_canonical _ (fun s x hs => foldl_canonical _ (fun s l hs => ?_) _ _ hs) _ _ hs
  split
  · exact State.setMemLine_canonical _ _ _ _ hs
  · exact hs

theorem State.inbSend_mem {s : State} {p t : Nat} {x : Inb} {line : Nat} {s' : State} (he : s.inbSend p t x line = some s')
    : s'.mem = s.mem := by
  unfold State.inbSend at he
  grind [State.route_mem]

@[simp] theorem State.inbNext_mem (s : State) (p t : Nat) (x : Inb) (n : Nat) : (s.inbNext p t x n).mem = s.mem := by
  induction n generalizing x with
  | zero =>
    unfold State.inbNext
    grind [State.inbEnd_mem]
  | succ m ih =>
    unfold State.inbNext
    grind [State.inbEnd_mem, State.mem_setPort, State.inbSend_mem]

@[simp] theorem State.inbRidge_mem (s : State) (p t : Nat) (x : Inb) (n : Nat) : (s.inbRidge p t x n).mem = s.mem := by
  induction n generalizing s x with
  | zero =>
    unfold State.inbRidge
    grind [State.inbEnd_mem]
  | succ m ih =>
    unfold State.inbRidge
    grind [State.inbEnd_mem, State.mem_setPort, State.ridgeSend_mem]

@[simp] theorem State.inbPeer_mem (s : State) (p t : Nat) (x : Inb) : (s.inbPeer p t x).mem = s.mem := by
  unfold State.inbPeer
  dsimp only
  repeat' split
  all_goals simp

@[simp] theorem State.inbStart_mem (s : State) (p t : Nat) (x : Inb) : (s.inbStart p t x).mem = s.mem := by
  unfold State.inbStart
  split <;> simp

@[simp] theorem State.inbPump_mem (s : State) (p n : Nat) : (s.inbPump p n).mem = s.mem := by
  induction n generalizing s with
  | zero => rfl
  | succ m ih =>
    unfold State.inbPump
    dsimp only
    split <;> simp [ih]

@[simp] theorem State.inbGo_mem (s : State) (p : Nat) : (s.inbGo p).mem = s.mem := by simp [State.inbGo]
@[simp] theorem State.inbAdd_mem (s : State) (p : Nat) (x : Inb) : (s.inbAdd p x).mem = s.mem := by simp [State.inbAdd]

@[simp] theorem State.inbLineDone_mem (s : State) (p t : Nat) (x : Inb) : (s.inbLineDone p t x).mem = s.mem := by
  simp [State.inbLineDone]

@[simp] theorem State.inbData_mem (s : State) (p t : Nat) (ok ur : Bool) (data : List Byte) (poison : Bool) :
    (s.inbData p t ok ur data poison).mem = s.mem := by
  unfold State.inbData
  split <;> simp

@[simp] theorem State.inbMsg_mem (s : State) (p : Nat) (m : Msg) : (s.inbMsg p m).mem = s.mem := by
  unfold State.inbMsg
  dsimp only
  repeat' split
  all_goals simp

/-! ### The write of a notch -/

@[simp] theorem State.notchIrq_mem (s : State) (c : Nat) : (s.notchIrq c).mem = s.mem := by simp [State.notchIrq]
@[simp] theorem State.notchFail_mem (s : State) (c : Nat) : (s.notchFail c).mem = s.mem := by simp [State.notchFail]
@[simp] theorem State.notchTail_mem (s : State) (c : Nat) : (s.notchTail c).mem = s.mem := by simp [State.notchTail]

@[simp] theorem State.notchSend_mem (s : State) (c : Nat) : (s.notchSend c).mem = s.mem := by
  unfold State.notchSend
  dsimp only
  split <;> simp

@[simp] theorem State.notchData_mem (s : State) (c i : Nat) (sl : Slot) (m : Msg) : (s.notchData c i sl m).mem = s.mem := by
  simp [State.notchData]

@[simp] theorem State.notchWritten_mem (s : State) (c i : Nat) : (s.notchWritten c i).mem = s.mem := by
  rw [State.notchWritten]
  exact (State.mem_setCore ..).trans ((State.notchTail_mem ..).trans (State.mem_setCore ..))

@[simp] theorem State.notchFailed_mem (s : State) (c i : Nat) : (s.notchFailed c i).mem = s.mem := by simp [State.notchFailed]

/-! ### Preloads of BAY_LOCK_RANGE -/

@[simp] theorem State.setWork_mem (s : State) (b : Nat) (w : BayWork) : (s.setWork b w).mem = s.mem := by simp [State.setWork]

@[simp] theorem State.preload_mem (s : State) (b : Nat) (w : BayWork) : (s.preload b w).mem = s.mem := by
  unfold State.preload
  repeat' split
  all_goals simp

@[simp] theorem State.preloaded_mem (s : State) (b line : Nat) : (s.preloaded b line).mem = s.mem := by
  unfold State.preloaded
  split <;> simp

/-! ### What a requester does with responses -/

@[simp] theorem State.goOn_mem (s : State) (c : Nat) : (s.goOn c).mem = s.mem := by simp [State.goOn]

@[simp] theorem State.slotData_mem (s : State) (c i : Nat) (sl : Slot) (m : Msg) : (s.slotData c i sl m).mem = s.mem := by
  unfold State.slotData
  grind [State.goOn_mem, State.mem_setCore]

@[simp] theorem State.slotGo_mem (s : State) (c i : Nat) (sl : Slot) (m : Msg) : (s.slotGo c i sl m).mem = s.mem := by
  unfold State.slotGo
  grind [State.goOn_mem, State.mem_setCore]

@[simp] theorem State.ncGot_mem (s : State) (c i : Nat) (sl : Slot) (d : Line) (poison : Bool) (src : Nat) (ridge : Bool) :
    (s.ncGot c i sl d poison src ridge).mem = s.mem := by
  unfold State.ncGot
  split
  · simp
  split
  · rfl
  dsimp only
  split
  · simp
  split
  · refine State.ridgePiece_getD_mem_of_eq ?_ ?_
    · exact State.mem_setCore ..
    · exact (State.mem_setCore ..).trans (State.mem_setCore ..)
  · simp

@[simp] theorem State.ncDone_mem (s : State) (c i : Nat) (sl : Slot) (ridge : Bool) : (s.ncDone c i sl ridge).mem = s.mem := by
  unfold State.ncDone
  grind [State.mem_setCore, State.goOn_mem, State.ridgePiece_getD_mem, State.ncPiece_mem]

@[simp] theorem State.walkErr_mem (s : State) (c line : Nat) : (s.walkErr c line).mem = s.mem := by
  unfold State.walkErr
  split <;> simp

@[simp] theorem State.slotErr_mem (s : State) (c i : Nat) (sl : Slot) : (s.slotErr c i sl).mem = s.mem := by
  unfold State.slotErr
  dsimp only
  split <;> simp

@[simp] theorem State.slotPull_mem (s : State) (c i : Nat) (sl : Slot) (m : Msg) : (s.slotPull c i sl m).mem = s.mem := by
  unfold State.slotPull
  dsimp only
  repeat' split
  all_goals simp

@[simp] theorem State.slotWrite_mem (s : State) (c i : Nat) (sl : Slot) (m : Msg) : (s.slotWrite c i sl m).mem = s.mem := by
  unfold State.slotWrite
  dsimp only
  repeat' split
  all_goals simp

@[simp] theorem State.toSlot_mem (s : State) (c i : Nat) (sl : Slot) (m : Msg) : (s.toSlot c i sl m).mem = s.mem := by
  unfold State.toSlot
  grind [State.slotGo_mem, State.goOn_mem, State.notchData_mem, State.ncDone_mem, State.slotWrite_mem,
    State.notchFailed_mem, State.ncGot_mem, State.notchWritten_mem, State.mem_setCore,
    State.slotPull_mem, State.slotErr_mem, State.slotData_mem]

@[simp] theorem State.bridgeMsg_mem (s : State) (m : Msg) : (s.bridgeMsg m).mem = s.mem := by
  unfold State.bridgeMsg
  repeat' split
  all_goals simp

@[simp] theorem State.toRequester_mem (s : State) (m : Msg) : (s.toRequester m).mem = s.mem := by
  unfold State.toRequester
  grind [State.ncMsg_mem, State.notchSend_mem, State.toSlot_mem, State.inbMsg_mem, State.arrive_mem,
    State.bridgeMsg_mem]

theorem execDataS_canonical (h : Hdr) (data : Line) : KeepsMemory (execDataS h data) := fun s hs => by simp [execDataS, hs]
theorem execDataF_canonical (h : Hdr) (data : Line) : KeepsMemory (execDataF h data) := fun s hs => by simp [execDataF, hs]
theorem execDataE_canonical (h : Hdr) (data : Line) : KeepsMemory (execDataE h data) := fun s hs => by simp [execDataE, hs]
theorem execDataM_canonical (h : Hdr) (data : Line) : KeepsMemory (execDataM h data) := fun s hs => by simp [execDataM, hs]
theorem execGoU_canonical (h : Hdr) : KeepsMemory (execGoU h) := fun s hs => by simp [execGoU, hs]
theorem execWbPull_canonical (h : Hdr) : KeepsMemory (execWbPull h) := fun s hs => by simp [execWbPull, hs]
theorem execWbStale_canonical (h : Hdr) : KeepsMemory (execWbStale h) := fun s hs => by simp [execWbStale, hs]

@[simp] theorem State.toHolder_mem (s : State) (m : Msg) : (s.toHolder m).mem = s.mem := by
  unfold State.toHolder
  grind [State.arrive_mem, State.snoopStuds_mem]

theorem execSnpFwdS_canonical (h : Hdr) : KeepsMemory (execSnpFwdS h) := fun s hs => by simp [execSnpFwdS, hs]
theorem execSnpFwdU_canonical (h : Hdr) : KeepsMemory (execSnpFwdU h) := fun s hs => by simp [execSnpFwdU, hs]
theorem execSnpInv_canonical (h : Hdr) : KeepsMemory (execSnpInv h) := fun s hs => by simp [execSnpInv, hs]
theorem execSnpClean_canonical (h : Hdr) : KeepsMemory (execSnpClean h) := fun s hs => by simp [execSnpClean, hs]
theorem execSnpFlush_canonical (h : Hdr) : KeepsMemory (execSnpFlush h) := fun s hs => by simp [execSnpFlush, hs]
theorem execSnpDrop_canonical (h : Hdr) : KeepsMemory (execSnpDrop h) := fun s hs => by simp [execSnpDrop, hs]

/-! ### What a home keeps -/

@[simp] theorem State.bayCheck_mem (s : State) (h line : Nat) : (s.bayCheck h line).mem = s.mem := by
  unfold State.bayCheck
  split <;> simp

@[simp] theorem State.bayLock_mem (s : State) (h : Nat) (e : BayLine) : (s.bayLock h e).mem = s.mem := by
  unfold State.bayLock
  dsimp only
  repeat' split
  all_goals simp

theorem State.toDram_mem {s : State} {h : Nat} {w : HWrite} {s' : State} (he : s.toDram h w = some s') : s'.mem = s.mem := by
  obtain ⟨b, -, rfl⟩ := Option.map_eq_some_iff.1 he
  exact State.mem_setHome ..

/-- Putting a line into the bay cache leaves a state whose memory is w. -/
inductive Placed.LeavesMem (w : List Host.Cell) : Placed → Prop
  | done {t : State} : t.mem = w → LeavesMem w (.done t)
  | skipped {t : State} : t.mem = w → LeavesMem w (.skipped t)
  | wait : LeavesMem w .wait

theorem State.bayAlloc_mem (s : State) (h : Nat) (e : BayLine) : Placed.LeavesMem s.mem (s.bayAlloc h e) := by
  have checked (k : Nat) : (match Tab.find (s.home h).cache k with
      | some old => if old.dirty then s.bayCheck h old.line else s
      | none => s).mem = s.mem := by
    split
    · split
      · exact State.bayCheck_mem ..
      · rfl
    · rfl
  unfold State.bayAlloc
  grind [Placed.LeavesMem, State.mem_setHome]

theorem State.bayAlloc_done_mem {s t : State} {h : Nat} {e : BayLine} (he : s.bayAlloc h e = .done t) : t.mem = s.mem := by
  have hl := s.bayAlloc_mem h e
  rw [he] at hl
  cases hl with
  | done h => exact h

theorem State.bayAlloc_skipped_mem {s t : State} {h : Nat} {e : BayLine} (he : s.bayAlloc h e = .skipped t) : t.mem = s.mem := by
  have hl := s.bayAlloc_mem h e
  rw [he] at hl
  cases hl with
  | skipped h => exact h

theorem State.homeWrite_canonical {s : State} {h : Nat} {w : HWrite} {s' : State} (he : s.homeWrite h w = some s')
    (hs : MemCanonical s.mem) : MemCanonical s'.mem := by
  unfold State.homeWrite at he
  extract_lets t at he
  have woken : MemCanonical t.mem := by
    unfold t
    split <;> simpa using hs
  clear_value t
  split at he
  · split at he
    · cases he
      exact State.setMemLine_canonical _ _ _ _ woken
    · cases he
      simpa using woken
  split at he
  · cases he
    exact State.setMemLine_canonical _ _ _ _ woken
  split at he
  · rwa [State.toDram_mem he]
  split at he
  · dsimp only at he
    split at he
    · obtain ⟨b, -, rfl⟩ := Option.map_eq_some_iff.1 he
      exact woken
    · cases he
      exact woken
  · split at he
    · rwa [State.toDram_mem he]
    split at he
    · next u hu =>
      cases he
      rwa [State.bayAlloc_done_mem hu]
    · next u hu => rwa [State.toDram_mem he, State.bayAlloc_skipped_mem hu]
    · cases he

theorem State.bayClean_mem {s : State} {h line : Nat} {s' : State} (he : s.bayClean h line = some s') : s'.mem = s.mem := by
  unfold State.bayClean at he
  grind [Option.map_eq_some_iff, State.wakeArray_mem, State.bayCheck_mem, State.mem_setHome]

@[simp] theorem State.bayDiscard_mem (s : State) (h line : Nat) : (s.bayDiscard h line).mem = s.mem := by
  unfold State.bayDiscard
  dsimp only
  split <;> simp

theorem State.bayFlush_mem {s : State} {h line : Nat} {s' : State} (he : s.bayFlush h line = some s') : s'.mem = s.mem := by
  obtain ⟨t, ht, rfl⟩ := Option.map_eq_some_iff.1 he
  grind [State.bayClean_mem, State.bayDiscard_mem]

/-! ### Work on a bay's arrays -/

@[simp] theorem State.setTx_mem (s : State) (h i : Nat) (t : HTx) : (s.setTx h i t).mem = s.mem := by simp [State.setTx]
@[simp] theorem State.endTx_mem (s : State) (h i : Nat) : (s.endTx h i).mem = s.mem := by simp [State.endTx]

@[simp] theorem State.reply_mem (s : State) (h i : Nat) (t : HTx) (op : MsgOp) (go dirty : Bool) (data : Line) :
    (s.reply h i t op go dirty data).mem = s.mem := by
  simp [State.reply]

@[simp] theorem State.sendHeld_mem (s : State) (h i : Nat) : (s.sendHeld h i).mem = s.mem := by
  unfold State.sendHeld
  grind [foldl_mem, leavesMem_iff, State.route_mem, State.mem_setHome, State.setTx_mem]

@[simp] theorem State.addSnoops_mem (s : State) (h i : Nat) (t : HTx) (l : List (MsgOp × Nat × Nat)) :
    (s.addSnoops h i t l).mem = s.mem := by
  simp [State.addSnoops]

@[simp] theorem State.flushPlace_mem (s : State) (b line : Nat) (w : BayWork) : (s.flushPlace b line w).mem = s.mem := by
  unfold State.flushPlace
  dsimp only
  repeat' split
  all_goals simp

@[simp] theorem State.dropBench_mem (s : State) (b k : Nat) (e : DirEnt) : (s.dropBench b k e).mem = s.mem := by
  unfold State.dropBench
  dsimp only
  split <;> simp

@[simp] theorem State.setBench_canonical (s : State) (b w : Nat) (hs : MemCanonical s.mem) : MemCanonical (s.setBench b w).mem := by
  simp [State.setBench, hs]

@[simp] theorem State.afterFlush_canonical (s : State) (b : Nat) (w : BayWork) (hs : MemCanonical s.mem) :
    MemCanonical (s.afterFlush b w).mem := by
  unfold State.afterFlush
  repeat' split
  all_goals simp [hs]

@[simp] theorem State.workRun_canonical (s : State) (b : Nat) (hs : MemCanonical s.mem) : MemCanonical (s.workRun b).mem := by
  unfold State.workRun
  dsimp only
  repeat' split
  all_goals simp [hs]

@[simp] theorem State.beginWork_canonical (s : State) (b : Nat) (w : BayWork) (hs : MemCanonical s.mem) :
    MemCanonical (s.beginWork b w).mem := by
  simp [State.beginWork, hs]

@[simp] theorem State.endWork_mem (s : State) (b : Nat) : (s.endWork b).mem = s.mem := by simp [State.endWork]

/-! ### A home's transactions -/

@[simp] theorem State.takeBmr_mem (s : State) (h i : Nat) (t : HTx) (d : Option (Line × Bool)) :
    (s.takeBmr h i t d).mem = s.mem := by
  unfold State.takeBmr
  dsimp only
  split <;> simp

@[simp] theorem State.fetchLine_mem (s : State) (h i : Nat) : (s.fetchLine h i).mem = s.mem := by
  unfold State.fetchLine
  dsimp only
  repeat' split
  all_goals simp

@[simp] theorem State.beginEvict_mem (s : State) (h i k : Nat) (e : DirEnt) : (s.beginEvict h i k e).mem = s.mem := by
  unfold State.beginEvict
  dsimp only
  split <;> simp

@[simp] theorem State.allocDir_mem (s : State) (h i : Nat) : (s.allocDir h i).mem = s.mem := by
  unfold State.allocDir
  dsimp only
  repeat' split
  all_goals simp

@[simp] theorem State.putDir_mem (s : State) (h : Nat) (t : HTx) (e : DirEnt) : (s.putDir h t e).mem = s.mem := by
  unfold State.putDir
  split <;> simp

@[simp] theorem State.clearDir_mem (s : State) (h line : Nat) : (s.clearDir h line).mem = s.mem := by
  unfold State.clearDir
  split <;> simp

@[simp] theorem State.startTx_mem (s : State) (h i : Nat) (t : HTx) : (s.startTx h i t).mem = s.mem := by
  unfold State.startTx
  dsimp only
  repeat' split
  all_goals simp

@[simp] theorem State.granted_mem (s : State) (h i : Nat) (t : HTx) : (s.granted h i t).mem = s.mem := by simp [State.granted]

@[simp] theorem State.oToS_mem (s : State) (h line : Nat) : (s.oToS h line).mem = s.mem := by
  unfold State.oToS
  split <;> simp

@[simp] theorem State.finishGrant_mem (s : State) (h i : Nat) (t : HTx) : (s.finishGrant h i t).mem = s.mem := by
  unfold State.finishGrant
  split <;> simp

@[simp] theorem State.finishWb_canonical (s : State) (h i : Nat) (t : HTx) (hs : MemCanonical s.mem) :
    MemCanonical (s.finishWb h i t).mem := by
  unfold State.finishWb
  split
  · split <;> simpa using hs
  split
  · split
    · exact hs
    · next hw =>
      have written := State.homeWrite_canonical hw hs
      dsimp only
      repeat' split
      all_goals simpa using written
  · repeat' split
    all_goals simpa using hs

@[simp] theorem State.finishRdNc_mem (s : State) (h i : Nat) (t : HTx) : (s.finishRdNc h i t).mem = s.mem := by
  simp [State.finishRdNc]

@[simp] theorem State.finishWrNc_canonical (s : State) (h i : Nat) (t : HTx) (hs : MemCanonical s.mem) :
    MemCanonical (s.finishWrNc h i t).mem := by
  unfold State.finishWrNc
  split
  · split
    · exact hs
    · next hw =>
      have written := State.homeWrite_canonical hw hs
      dsimp only
      split <;> simpa using written
  · repeat' split
    all_goals simpa using hs

@[simp] theorem State.finishCbo_mem (s : State) (h i : Nat) (t : HTx) : (s.finishCbo h i t).mem = s.mem := by
  unfold State.finishCbo
  grind [State.reply_mem, State.oToS_mem, State.bayClean_mem, State.endTx_mem, State.clearDir_mem,
    State.bayDiscard_mem, State.bayFlush_mem, State.setTx_mem]

@[simp] theorem State.finishEvict_mem (s : State) (h i : Nat) (t : HTx) : (s.finishEvict h i t).mem = s.mem := by
  simp [State.finishEvict]

theorem State.storeSnoop_canonical {s : State} {h i : Nat} {t : HTx} {s' : State} (he : s.storeSnoop h i t = some s')
    (hs : MemCanonical s.mem) : MemCanonical s'.mem := by
  unfold State.storeSnoop at he
  split at he
  · obtain ⟨u, hu, rfl⟩ := Option.map_eq_some_iff.1 he
    simpa using State.homeWrite_canonical hu hs
  · cases he
    exact hs

@[simp] theorem State.stepTx_canonical (s : State) (h i : Nat) (hs : MemCanonical s.mem) : MemCanonical (s.stepTx h i).mem := by
  unfold State.stepTx
  split
  · exact hs
  split
  · exact hs
  · dsimp only
    repeat' split
    all_goals simpa using hs
  · split
    · exact hs
    next u hstored =>
    have stored := State.storeSnoop_canonical hstored hs
    split
    · exact stored
    split
    · split
      · simpa using stored
      · exact stored
    · extract_lets early s₁ s₂
      have fetched : s₁.mem = u.mem := by
        unfold s₁
        split
        · exact State.fetchLine_mem ..
        · rfl
      have placed : s₂.mem = u.mem := by
        unfold s₂
        split
        · exact (State.allocDir_mem ..).trans fetched
        · exact fetched
      rw [← placed] at stored
      repeat' split
      all_goals simp [stored]

@[simp] theorem State.orderReq_mem (s : State) (h line : Nat) (m : Msg) (port : Nat) : (s.orderReq h line m port).mem = s.mem := by
  unfold State.orderReq
  dsimp only
  repeat' split
  all_goals simp

@[simp] theorem State.stepAll_canonical (s : State) (h n : Nat) (hs : MemCanonical s.mem) : MemCanonical (s.stepAll h n).mem := by
  induction n generalizing s with
  | zero => exact hs
  | succ m ih =>
    have stepped := foldl_canonical _ (fun s i hs => s.stepTx_canonical h i hs) (s.home h).order s hs
    unfold State.stepAll
    dsimp only
    split
    · exact stepped
    · exact ih _ stepped

@[simp] theorem State.orderWaiting_canonical (s : State) (h n : Nat) (hs : MemCanonical s.mem) :
    MemCanonical (s.orderWaiting h n).mem := by
  induction n generalizing s with
  | zero => exact hs
  | succ m ih =>
    unfold State.orderWaiting
    split
    · exact hs
    · exact ih _ (by simp [hs])

@[simp] theorem State.homeRun_canonical (s : State) (h : Nat) (hs : MemCanonical s.mem) : MemCanonical (s.homeRun h).mem := by
  unfold State.homeRun
  exact State.workRun_canonical _ _ (State.orderWaiting_canonical _ _ _ (State.stepAll_canonical _ _ _ (by simpa using hs)))

@[simp] theorem State.toHome_canonical (s : State) (m : Msg) (hs : MemCanonical s.mem) : MemCanonical (s.toHome m).mem := by
  have arrived := s.arrive_mem m
  unfold State.toHome
  split
  · next he =>
    rw [he] at arrived
    rwa [arrived]
  next he =>
  rw [he] at arrived
  rw [← arrived] at hs
  clear he arrived
  split
  · exact hs
  split
  · exact hs
  split
  · simpa using hs
  dsimp only
  split
  · exact State.homeRun_canonical _ _ (by simpa using hs)
  · exact State.homeRun_canonical _ _ hs

/-! ### Tenon links -/

@[simp] theorem State.setTdir_mem (s : State) (n : Nat) (d : TDirId) (v : TenonDir) : (s.setTdir n d v).mem = s.mem := by
  simp [State.setTdir]

@[simp] theorem State.tenonFail_mem (s : State) (n : Nat) : (s.tenonFail n).mem = s.mem := by simp [State.tenonFail]
@[simp] theorem State.tenonWidth_mem (s : State) (n : Nat) : (s.tenonWidth n).mem = s.mem := by simp [State.tenonWidth]
@[simp] theorem State.mapChanged_mem (s : State) : s.mapChanged.mem = s.mem := by simp [State.mapChanged]

@[simp] theorem State.tenonCross_mem (s : State) (n : Nat) (d : TDirId) (g : Nat) (xs : List Cross) :
    (s.tenonCross n d g xs).mem = s.mem := by
  simp [State.tenonCross]

@[simp] theorem State.crossOn_mem (s : State) (n : Nat) (d : TDirId) (g : Nat) : (s.crossOn n d g).mem = s.mem := by
  simp [State.crossOn]

@[simp] theorem State.tenonDead_mem (s : State) (n : Nat) (d : TDirId) (g cause : Nat) : (s.tenonDead n d g cause).mem = s.mem := by
  simp [State.tenonDead]

@[simp] theorem State.tenonCounts_mem (s : State) (n : Nat) (d : TDirId) (g cause : Nat) (l : List (Nat × Nat)) :
    (s.tenonCounts n d g cause l).mem = s.mem := by
  unfold State.tenonCounts
  dsimp only
  repeat' split
  all_goals simp

theorem execSteerReq_canonical (n : StudId) (d : TDirId) (g : Fin 64) (wire : BitVec 7) (spare : BitVec 7) :
    KeepsMemory (execSteerReq n d g wire spare) := fun s hs => by
  unfold execSteerReq
  dsimp only
  repeat' split
  all_goals simp [hs]

@[simp] theorem State.sendBack_mem (s : State) (n : Nat) (d : TDirId) : (s.sendBack n d).mem = s.mem := by simp [State.sendBack]

theorem execSteerAck_canonical (n : StudId) (d : TDirId) (g : Fin 64) (wire : BitVec 7) (spare : BitVec 7) (flit : Nat) :
    KeepsMemory (execSteerAck n d g wire spare flit) := fun s hs => by
  simp [execSteerAck, hs]

theorem execSteerReqResend_canonical (n : StudId) (d : TDirId) : KeepsMemory (execSteerReqResend n d) := fun s hs => by
  simp [execSteerReqResend, hs]

theorem execRetireReq_canonical (n : StudId) (d : TDirId) (g : Fin 64) (cause : BitVec 5) :
    KeepsMemory (execRetireReq n d g cause) := fun s hs => by
  unfold execRetireReq
  dsimp only
  repeat' split
  all_goals simp [hs]

theorem execRetireAck_canonical (n : StudId) (d : TDirId) (g : Fin 64) (flit : Nat) :
    KeepsMemory (execRetireAck n d g flit) := fun s hs => by
  simp [execRetireAck, hs]

@[simp] theorem State.rotate_mem (s : State) (n : Nat) (d : TDirId) : (s.rotate n d).mem = s.mem := by
  unfold State.rotate
  dsimp only
  repeat' split
  all_goals simp

theorem execRotationPeriod_canonical (n : StudId) (d : TDirId) : KeepsMemory (execRotationPeriod n d) := fun s hs => by
  unfold execRotationPeriod
  split <;> simp [hs]

theorem execRotReq_canonical (n : StudId) (d : TDirId) (g : Fin 64) : KeepsMemory (execRotReq n d g) := fun s hs => by
  unfold execRotReq
  dsimp only
  repeat' split
  all_goals simp [hs]

theorem execRotAck_canonical (n : StudId) (d : TDirId) (g : Fin 64) (flit : Nat) :
    KeepsMemory (execRotAck n d g flit) := fun s hs => by
  simp [execRotAck, hs]

theorem execRotationTestEnd_canonical (n : StudId) (d : TDirId) (errs : List (Nat × Nat)) :
    KeepsMemory (execRotationTestEnd n d errs) := fun s hs => by
  unfold execRotationTestEnd
  dsimp only
  split <;> simp [hs]

theorem State.begin_some_mem {s : State} {n : Nat} {d : TDirId} {cls : Nat} {r : State × List (BitVec 128 × Bool)}
    (he : s.begin_ n d cls = some r) : r.1.mem = s.mem := by
  unfold State.begin_ at he
  split at he
  · cases he
  · extract_lets t u s' at he
    split at he
    · cases he
    · cases he
      exact State.setTdir_mem ..

@[simp] theorem State.fillCls_mem (s : State) (n : Nat) (d : TDirId) (cls cap : Nat) (u : List (BitVec 128 × Bool))
    (fuel : Nat) :
    (s.fillCls n d cls cap u fuel).1.mem = s.mem := by
  induction fuel generalizing s u with
  | zero => rfl
  | succ k ih =>
    unfold State.fillCls
    split
    · rfl
    · split
      · rfl
      · next he => rw [ih, State.begin_some_mem he]

@[simp] theorem State.newFlits_mem (s : State) (n : Nat) (d : TDirId) : (s.newFlits n d).1.mem = s.mem := by simp [State.newFlits]

@[simp] theorem State.flitTime_mem (s : State) (n : Nat) (d : TDirId) : (s.flitTime n d).1.mem = s.mem := by
  unfold State.flitTime
  dsimp only
  split <;> simp

@[simp] theorem State.badOpcode_mem (s : State) (u : BitVec 128) : (s.badOpcode u).mem = s.mem := by simp [State.badOpcode]

@[simp] theorem State.crossed_mem (s : State) (d : TDirId) (u : BitVec 128) (rest : List (BitVec 128)) :
    (s.crossed d u rest).mem = s.mem := by
  unfold State.crossed
  split
  · simp
  · split
    · rfl
    · simp

@[simp] theorem State.takeMsgs_mem (fuel : Nat) (s : State) (d : TDirId) (l : List (BitVec 128 × Bool)) (freed : Nat) :
    (State.takeMsgs fuel s d l freed).1.mem = s.mem := by
  induction fuel generalizing s l freed with
  | zero => rfl
  | succ n ih =>
    unfold State.takeMsgs
    grind [State.crossed_mem]

@[simp] theorem State.tenonUnits_mem (s : State) (n : Nat) (d : TDirId) (cls : Nat) (units : List (BitVec 128 × Bool)) :
    (s.tenonUnits n d cls units).mem = s.mem := by
  simp [State.tenonUnits]

@[simp] theorem State.takeFlits_mem (s : State) (n : Nat) (d : TDirId) (f : List Flit) : (s.takeFlits n d f).mem = s.mem := by
  unfold State.takeFlits
  grind [foldl_mem, leavesMem_iff, State.tenonUnits_mem, State.setTdir_mem]

@[simp] theorem State.applySwitch_mem (s : State) (n : Nat) (d : TDirId) (x : Switch) : (s.applySwitch n d x).mem = s.mem := by
  simp [State.applySwitch]

@[simp] theorem State.dueSwitches_mem (fuel : Nat) (s : State) (n : Nat) (d : TDirId) :
    (State.dueSwitches fuel s n d).mem = s.mem := by
  induction fuel generalizing s with
  | zero => rfl
  | succ k ih =>
    unfold State.dueSwitches
    grind [State.applySwitch_mem]

@[simp] theorem State.nextFlits_mem (s : State) (n : Nat) (d : TDirId) : (s.nextFlits n d).1.mem = s.mem := by
  simp [State.nextFlits]

@[simp] theorem State.crossFlits_mem (s : State) (n : Nat) (d : TDirId) : (s.crossFlits n d).mem = s.mem := by
  simp [State.crossFlits]

@[simp] theorem State.sillEnd_mem (s : State) (n : Nat) (d : TDirId) : (s.sillEnd n d).mem = s.mem := by
  unfold State.sillEnd
  split <;> simp

theorem execTenonFlitReceived_canonical (n : StudId) (d : TDirId) : KeepsMemory (execTenonFlitReceived n d) := fun s hs => by
  simp [execTenonFlitReceived, hs]

@[simp] theorem State.crossTo_mem (fuel : Nat) (s : State) (n : Nat) (d : TDirId) (f : Nat) :
    (State.crossTo fuel s n d f).mem = s.mem := by
  induction fuel generalizing s with
  | zero => rfl
  | succ k ih => simp [State.crossTo, ih]

theorem execLayoutSwitch_canonical (n : StudId) (d : TDirId) : KeepsMemory (execLayoutSwitch n d) := fun s hs => by
  unfold execLayoutSwitch
  split <;> simp [hs]

theorem execTenonParityError_canonical (n : StudId) (d : TDirId) (g : Fin 64) (seq : Fin 64) (flips : List (Fin 76 × Fin 8)) :
    KeepsMemory (execTenonParityError n d g seq flips) := fun s hs => by
  simp [execTenonParityError, hs]

theorem execNak_canonical (n : StudId) (d : TDirId) (seq _g : Fin 64) (_cnt : BitVec 7) :
    KeepsMemory (execNak n d seq _g _cnt) := fun s hs => by
  unfold execNak
  dsimp only
  repeat' split
  all_goals simp [hs]

theorem execNakResendTimeout_canonical (n : StudId) (d : TDirId) : KeepsMemory (execNakResendTimeout n d) := fun s hs => by
  unfold execNakResendTimeout
  dsimp only
  split <;> simp [hs]

theorem execCredit_canonical (n : StudId) (d : TDirId) (req snp rsp dat msg : BitVec 12) :
    KeepsMemory (execCredit n d req snp rsp dat msg) := fun s hs => by
  simp [execCredit, hs]

theorem execClockLockLoss_canonical (n : StudId) (d : TDirId) (g : Fin 64) : KeepsMemory (execClockLockLoss n d g) := fun s hs => by
  unfold execClockLockLoss
  split <;> simp [hs]

theorem execLeakPeriod_canonical (n : StudId) (d : TDirId) : KeepsMemory (execLeakPeriod n d) := fun s hs => by
  simp [execLeakPeriod, hs]

theorem execSparePrbsError_canonical (n : StudId) (d : TDirId) (g : Fin 64) (wire : BitVec 7) (errs : Nat) :
    KeepsMemory (execSparePrbsError n d g wire errs) := fun s hs => by
  simp [execSparePrbsError, hs]

theorem execSidebandCopyFailure_canonical (n : StudId) (d : TDirId) (copy : Fin 2) :
    KeepsMemory (execSidebandCopyFailure n d copy) := fun s hs => by
  simp [execSidebandCopyFailure, hs]

theorem execPark_canonical (n : StudId) : KeepsMemory (execPark n) := fun s hs => by
 simp [execPark, hs]
@[simp] theorem State.heldMsg_mem (s : State) (m : Msg) : (s.heldMsg m).mem = s.mem := by simp [State.heldMsg]

@[simp] theorem State.runDeferred_mem (s : State) (n : Nat) (d : TDirId) : (s.runDeferred n d).mem = s.mem := by
  simp [State.runDeferred]

@[simp] theorem State.unpark_mem (s : State) (n : Nat) : (s.unpark n).mem = s.mem := by simp [State.unpark]
theorem execWake_canonical (n : StudId) (s : State) (hs : MemCanonical s.mem) : (execWake n s).Canonical := by simp [execWake, hs]
@[simp] theorem State.tenonDown_mem (s : State) (n : Nat) : (s.tenonDown n).mem = s.mem := by simp [State.tenonDown]
@[simp] theorem State.tenonTrains_mem (s : State) (n : Nat) : (s.tenonTrains n).mem = s.mem := by simp [State.tenonTrains]

@[simp] theorem State.trainTenon_mem (s : State) (n : Nat) (found : List Finding) (fails : Nat) (ident : Bool) :
    (s.trainTenon n found fails ident).1.mem = s.mem := by
  simp [State.trainTenon]

/-! ### Memory controllers -/

@[simp] theorem State.takeLine_mem (s : State) (n : Nat) (acc : Nat) : (s.takeLine n acc).2.mem = s.mem := by
  induction n generalizing s acc with
  | zero => rfl
  | succ k ih => simp [State.takeLine, ih]

@[simp] theorem State.devCount_mem (s : State) (c rho sub d : Nat) : (s.devCount c rho sub d).mem = s.mem := by
  unfold State.devCount
  dsimp only
  split <;> simp

@[simp] theorem State.decodeRead_canonical (s : State) (c x : Nat) (word : ReadWord) (pa : Nat) (hs : MemCanonical s.mem) :
    MemCanonical (s.decodeRead c x word pa).1.mem := by
  unfold State.decodeRead
  dsimp only
  repeat' split
  all_goals simp [hs]

@[simp] theorem State.decodeEdge_canonical (s : State) (q slot : Nat) (word : ReadWord) (pa : Nat) (hs : MemCanonical s.mem) :
    MemCanonical (s.decodeEdge q slot word pa).1.mem := by
  unfold State.decodeEdge
  dsimp only
  repeat' split
  all_goals simp [hs]

@[simp] theorem State.decodeQueued_canonical (s : State) (c x : Nat) (word : ReadWord) (pa : Nat) (hs : MemCanonical s.mem) :
    MemCanonical (s.decodeQueued c x word pa).1.mem := by
  unfold State.decodeQueued
  split <;> simp [hs]

theorem execActSelection_canonical (ch : ChanId) (rank : Fin 16) (bank : Fin 64) (row : Nat) :
    KeepsMemory (execActSelection ch rank bank row) := fun s hs => by
  simp [execActSelection, hs]

theorem execPageIdleClose_canonical (ch : ChanId) (rank : Fin 16) (bank : Fin 64) :
    KeepsMemory (execPageIdleClose ch rank bank) := fun s hs => by
  simp [execPageIdleClose, hs]

@[simp] theorem State.bmrData_mem (s : State) (b line : Nat) (d : Line × Bool) : (s.bmrData b line d).mem = s.mem := by
  unfold State.bmrData
  dsimp only
  split <;> simp

@[simp] theorem State.queueRead_mem (s : State) (ch : Nat) (e : RdEnt) : (s.queueRead ch e).mem = s.mem := by simp [State.queueRead]

theorem execReadQueued_canonical (ch : ChanId) (src : Nat) (line : Nat) : KeepsMemory (execReadQueued ch src line) := fun s hs => by
  unfold execReadQueued
  dsimp only
  repeat' split
  all_goals simp [hs]

theorem execWriteQueued_canonical (ch : ChanId) (b : BayId) (line : Nat) : KeepsMemory (execWriteQueued ch b line) := fun s hs => by
  have stay : Res.Canonical (.next s) := (Res.canonical_next _).2 hs
  unfold execWriteQueued
  extract_lets c p queue
  have run (k : Chan) : Res.Canonical (queue k) := (Res.canonical_next _).2 (State.homeRun_canonical _ _ hs)
  clear_value queue
  split
  · exact stay
  split
  · exact stay
  split
  · exact run _
  split
  · exact stay
  · exact run _

theorem execReadDataReturn_canonical (ch : ChanId) (idx : Nat) (word : ReadWord) :
    KeepsMemory (execReadDataReturn ch idx word) := fun s hs => by
  rw [execReadDataReturn]
  split
  · exact (Res.canonical_next _).2 hs
  · next e _ =>
    split
    · exact (Res.canonical_next _).2 hs
    · extract_lets s' pa
      have decoded := State.decodeQueued_canonical s' ch e.x word pa hs
      generalize s'.decodeQueued ch e.x word pa = r at decoded ⊢
      obtain ⟨t, d, p, n⟩ := r
      simpa using decoded

theorem execWriteBurstDone_canonical (ch : ChanId) (idx : Nat) : KeepsMemory (execWriteBurstDone ch idx) := fun s hs => by
  have stay : Res.Canonical (.next s) := (Res.canonical_next _).2 hs
  unfold execWriteBurstDone
  extract_lets c
  split
  · exact stay
  split
  · exact stay
  · extract_lets key t
    have stored : MemCanonical t.mem := State.setMemLine_canonical _ _ _ _ hs
    clear_value t
    exact (Res.canonical_next _).2 stored

@[simp] theorem State.column_mem (s : State) (ch : Nat) (e : Cand) : (s.column ch e).mem = s.mem := by simp [State.column]

@[simp] theorem State.serveEdge_mem (s : State) (ch sub : Nat) : (s.serveEdge ch sub).mem = s.mem := by
  unfold State.serveEdge
  dsimp only
  split <;> simp

theorem execCommandSlot_canonical (ch : ChanId) (sub : Fin 2) : KeepsMemory (execCommandSlot ch sub) := fun s hs => by
  unfold execCommandSlot
  dsimp only
  repeat' split
  all_goals simp [hs]

theorem execBandwidthWindow_canonical (q : QuadId) : KeepsMemory (execBandwidthWindow q) := fun s hs => by
  simp [execBandwidthWindow, hs]

theorem execRefreshDue_canonical (ch : ChanId) (rank : Fin 16) : KeepsMemory (execRefreshDue ch rank) := fun s hs => by
  simp [execRefreshDue, hs]

theorem execMr4Read_canonical (ch : ChanId) (rank : Fin 16) (temp : Int) : KeepsMemory (execMr4Read ch rank temp) := fun s hs => by
  simp [execMr4Read, hs]

theorem execModuleSensorRead_canonical (ch : ChanId) (dimm : Fin 2) (temps : List Int) :
    KeepsMemory (execModuleSensorRead ch dimm temps) := fun s hs => by
  simp [execModuleSensorRead, hs]

theorem execPowerDownEntry_canonical (ch : ChanId) (rank : Fin 16) : KeepsMemory (execPowerDownEntry ch rank) := fun s hs => by
  simp [execPowerDownEntry, hs]

theorem execSelfRefreshEntry_canonical (ch : ChanId) (rank : Fin 16) : KeepsMemory (execSelfRefreshEntry ch rank) := fun s hs => by
  simp [execSelfRefreshEntry, hs]

theorem execDriftTrack_canonical (ch : ChanId) : KeepsMemory (execDriftTrack ch) := fun s hs => by simp [execDriftTrack, hs]

theorem execDeviceCountLeak_canonical (ch : ChanId) : KeepsMemory (execDeviceCountLeak ch) := fun s hs => by
  simp [execDeviceCountLeak, hs]

theorem execPatrolRead_canonical (ch : ChanId) (word : ReadWord) : KeepsMemory (execPatrolRead ch word) := fun s hs => by
  have stay : Res.Canonical (.next s) := (Res.canonical_next _).2 hs
  unfold execPatrolRead
  extract_lets c f first last asleep read x on
  split
  · exact stay
  · have reads (c : Chan) (x : Nat) : (read c x).Canonical := by
      refine (Res.canonical_next _).2 ?_
      split
      · exact hs
      · exact State.decodeQueued_canonical _ _ _ _ _ hs
    clear_value read
    split
    · exact reads _ _
    · split
      · exact stay
      split
      · exact (Res.canonical_next _).2 hs
      · exact reads _ _

@[simp] theorem State.patrolFind_canonical (s : State) (b set w : Nat) (uncorr : Bool) (hs : MemCanonical s.mem) :
    MemCanonical (s.patrolFind b set w uncorr).mem := by
  unfold State.patrolFind
  dsimp only
  repeat' split
  all_goals simp [hs]

theorem execBayPatrolStep_canonical (b : BayId) (found : List (Fin 16 × Bool)) :
    KeepsMemory (execBayPatrolStep b found) := fun s hs => by
  unfold execBayPatrolStep
  extract_lets h st met lines home walked
  have met_canonical : MemCanonical met.mem :=
    foldl_canonical _ (fun s e hs => s.patrolFind_canonical _ _ e.1 e.2 hs) found s hs
  split
  · exact (Res.canonical_next _).2 hs
  · simpa [walked] using met_canonical

@[simp] theorem State.zeroLines_canonical (s : State) (c x0 n : Nat) (hs : MemCanonical s.mem) :
    MemCanonical (s.zeroLines c x0 n).mem := by
  simp [State.zeroLines, hs]

@[simp] theorem State.clearRegion_canonical (s : State) (ch region : Nat) (hs : MemCanonical s.mem) :
    MemCanonical (s.clearRegion ch region).mem := State.zeroLines_canonical _ _ _ _ hs

theorem execClearRegion_canonical (ch : ChanId) (region : Nat) : KeepsMemory (execClearRegion ch region) := fun s hs => by
  simp [execClearRegion, hs]

theorem execClearDone_canonical (ch : ChanId) : KeepsMemory (execClearDone ch) := fun s hs => by simp [execClearDone, hs]

@[simp] theorem State.activate_canonical (s : State) (c : Nat) (r : TrainRes) (rate : Nat) (hs : MemCanonical s.mem) :
    MemCanonical (s.activate c r rate).mem := State.zeroLines_canonical _ _ _ _ hs

@[simp] theorem State.zeroEdges_canonical (s : State) (f : Nat) (hs : MemCanonical s.mem) : MemCanonical (s.zeroEdges f).mem := by
  simp [State.zeroEdges, hs]

/-! ### Supply, caps and operating points -/

@[simp] theorem State.writeMap_mem (s : State) : s.writeMap.mem = s.mem := by simp [State.writeMap]
@[simp] theorem State.applyFreq_mem (s : State) (n : Nat) : (s.applyFreq n).mem = s.mem := by simp [State.applyFreq]
@[simp] theorem State.applyAll_mem (s : State) : s.applyAll.mem = s.mem := by simp [State.applyAll]
@[simp] theorem State.giveGrant_mem (s : State) (f grant : Nat) : (s.giveGrant f grant).mem = s.mem := by simp [State.giveGrant]
@[simp] theorem State.postCap_mem (s : State) (cause : Nat) : (s.postCap cause).mem = s.mem := by simp [State.postCap]

@[simp] theorem State.postFrameCap_mem (s : State) (f cause : Nat) : (s.postFrameCap f cause).mem = s.mem := by
  simp [State.postFrameCap]

@[simp] theorem State.capNotices_mem (s : State) : s.capNotices.mem = s.mem := by simp [State.capNotices]

theorem execControlPeriod_canonical (power : List (Nat × Nat)) : KeepsMemory (execControlPeriod power) := fun s hs => by
  simp [execControlPeriod, hs]

theorem execStudRaiseStep_canonical (f : FrameId) (power : List (Nat × Nat)) :
    KeepsMemory (execStudRaiseStep f power) := fun s hs => by
  unfold execStudRaiseStep
  dsimp only
  repeat' split
  all_goals simp [hs]

theorem execVinSample_canonical (vin iin : Nat) : KeepsMemory (execVinSample vin iin) := fun s hs => by simp [execVinSample, hs]

theorem execInputCurrentLimit_canonical (above : Bool) (long : Bool) (measured : Nat) :
    KeepsMemory (execInputCurrentLimit above long measured) := fun s hs => by
  simp [execInputCurrentLimit, hs]

theorem execStretchCapRestore_canonical : KeepsMemory execStretchCapRestore := fun s hs => by simp [execStretchCapRestore, hs]
@[simp] theorem State.quarterAll_mem (s : State) (on : Bool) : (s.quarterAll on).mem = s.mem := by simp [State.quarterAll]
theorem execPwrfailNAssert_canonical : KeepsMemory execPwrfailNAssert := fun s hs => by simp [execPwrfailNAssert, hs]
theorem execPwrfailNRelease_canonical : KeepsMemory execPwrfailNRelease := fun s hs => by simp [execPwrfailNRelease, hs]
theorem execThrottleNAssert_canonical : KeepsMemory execThrottleNAssert := fun s hs => by simp [execThrottleNAssert, hs]
theorem execThrottleNRelease_canonical : KeepsMemory execThrottleNRelease := fun s hs => by simp [execThrottleNRelease, hs]

@[simp] theorem State.postCool_mem (s : State) (c : Coolant) (cause : Nat) : (s.postCool c cause).mem = s.mem := by
  simp [State.postCool]

theorem execCoolantSample_canonical (src : Coolant) (ok : Bool) (val : Int) :
    KeepsMemory (execCoolantSample src ok val) := fun s hs => by
  simp [execCoolantSample, hs]

theorem execCoolantStale_canonical (src : Coolant) : KeepsMemory (execCoolantStale src) := fun s hs => by
  simp [execCoolantStale, hs]

theorem execCoolantFallbackExit_canonical : KeepsMemory execCoolantFallbackExit := fun s hs => by simp [execCoolantFallbackExit, hs]

@[simp] theorem State.postThermal_mem (s : State) (kind inst event : Nat) (t : Int) (mhz : Nat) :
    (s.postThermal kind inst event t mhz).mem = s.mem := by
  simp [State.postThermal]

@[simp] theorem State.setTherm_mem (s : State) (n f : Nat) : (s.setTherm n f).mem = s.mem := by simp [State.setTherm]
@[simp] theorem State.thermStep_mem (s : State) (n : Nat) : (s.thermStep n).mem = s.mem := by simp [State.thermStep]
theorem execCoolStep_canonical (s : State) (hs : MemCanonical s.mem) : (execCoolStep s).Canonical := by simp [execCoolStep, hs]

theorem execThermalRefit_canonical (n : Fin 13) (tau1 tau2 gain coupling residual : Nat) :
    KeepsMemory (execThermalRefit n tau1 tau2 gain coupling residual) := fun s hs => by
  simp [execThermalRefit, hs]

@[simp] theorem State.senseNotices_mem (s : State) (kind inst mhz : Nat) (old new : Sense) :
    (s.senseNotices kind inst mhz old new).mem = s.mem := by
  simp [State.senseNotices]

@[simp] theorem State.sensorSample_mem (s : State) (n : Nat) (temps : List Int) : (s.sensorSample n temps).mem = s.mem := by
  simp [State.sensorSample]

@[simp] theorem State.railsOff_canonical (s : State) (hs : MemCanonical s.mem) : MemCanonical s.railsOff.mem := by
  have kept : s.railsOff.mem = s.mem.filter (fun c => decide (2 ^ 48 ≤ c.1)) := by rw [State.railsOff]
  rw [kept]
  exact memCanonical_filter _ _ hs

theorem execThermtrip_canonical : KeepsMemory execThermtrip := fun s hs => by simp [execThermtrip, hs]
theorem execRefclkLoss_canonical : KeepsMemory execRefclkLoss := fun s hs => by simp [execRefclkLoss, hs]

/-! ### Core power states -/

theorem execDomainLowWake_canonical (d : DomId) : KeepsMemory (execDomainLowWake d) := fun s hs => by simp [execDomainLowWake, hs]

theorem execDomainLowReturn_canonical (d : DomId) : KeepsMemory (execDomainLowReturn d) := fun s hs => by
  simp [execDomainLowReturn, hs]

theorem execArrayRetainEntry_canonical (b : BayId) : KeepsMemory (execArrayRetainEntry b) := fun s hs => by
  simp [execArrayRetainEntry, hs]

@[simp] theorem State.pllStop_mem (s : State) (n : Nat) : (s.pllStop n).mem = s.mem := by simp [State.pllStop]
@[simp] theorem State.updateStud_mem (s : State) (n : Nat) : (s.updateStud n).mem = s.mem := by simp [State.updateStud]
@[simp] theorem State.studUp_mem (s : State) (n : Nat) : (s.studUp n).mem = s.mem := by simp [State.studUp]
@[simp] theorem State.wakeCore_mem (s : State) (c : Nat) : (s.wakeCore c).mem = s.mem := by simp [State.wakeCore]
@[simp] theorem State.releaseCore_mem (s : State) (c : Nat) : (s.releaseCore c).mem = s.mem := by simp [State.releaseCore]

theorem execIdlePromotionSleep_canonical (c : CoreId) : KeepsMemory (execIdlePromotionSleep c) := fun s hs => by
  simp [execIdlePromotionSleep, hs]

theorem execIdlePromotionDeep_canonical (c : CoreId) : KeepsMemory (execIdlePromotionDeep c) := fun s hs => by
  simp [execIdlePromotionDeep, hs]

@[simp] theorem State.keepLine_mem (s : State) (c line : Nat) : (s.keepLine c line).mem = s.mem := by
  unfold State.keepLine
  split
  · simp
  · split <;> simp

@[simp] theorem State.keepAll_mem (s : State) (c : Nat) : (s.keepAll c).mem = s.mem := by simp [State.keepAll]
@[simp] theorem State.coreResetEnd_mem (s : State) (c : Nat) : (s.coreResetEnd c).mem = s.mem := by simp [State.coreResetEnd]

theorem execDeepEntryStep_canonical (c : CoreId) (ap : AbortPoint) : KeepsMemory (execDeepEntryStep c ap) := fun s hs => by
  unfold execDeepEntryStep
  split <;> simp [hs]

theorem execWakeEvent_canonical (c : CoreId) : KeepsMemory (execWakeEvent c) := fun s hs => by
  unfold execWakeEvent
  dsimp only
  repeat' split
  all_goals simp [hs]

/-! ### Plumb's commands in common -/

@[simp] theorem State.ok_mem (s : State) (payload : List Byte) : (s.ok payload).1.mem = s.mem := by simp [State.ok]
@[simp] theorem State.no_mem (s : State) (status detail : Nat) : (s.no status detail).1.mem = s.mem := by simp [State.no]
@[simp] theorem State.runs_mem (s : State) : s.runs.1.mem = s.mem := by simp [State.runs]

@[simp] theorem State.unless_mem (s : State) (bad : Option Nat) (go : Ans) (hg : go.1.mem = s.mem) :
    (s.unless bad go).1.mem = s.mem := by
  unfold State.unless
  split
  · rfl
  · exact hg

/-- The command is refused with the state as it was, or goes on. -/
theorem State.unless_canonical {s : State} (bad : Option Nat) {go : Ans} (hs : MemCanonical s.mem) (hg : MemCanonical go.1.mem) :
    MemCanonical (s.unless bad go).1.mem := by
  unfold State.unless
  split
  · exact hs
  · exact hg

@[simp] theorem State.countEnd_mem (s : State) (status : Nat) : (s.countEnd status).mem = s.mem := by simp [State.countEnd]

@[simp] theorem State.finalReply_mem (s : State) (j : Job) (status detail : Nat) (payload : List Byte) :
    (s.finalReply j status detail payload).mem = s.mem := by
  simp [State.finalReply]

@[simp] theorem State.accepted_mem (s : State) (j : Job) : (s.accepted j).mem = s.mem := by simp [State.accepted]

@[simp] theorem State.refuseTake_mem (s : State) (t : TInst) (op : Nat) (p : CmdPkt) (status detail : Nat) :
    (s.refuseTake t op p status detail).mem = s.mem := by
  simp [State.refuseTake]

/-! ### Information and mode commands -/

@[simp] theorem State.cmdGetInfo_mem (s : State) (j : Job) : (s.cmdGetInfo j).1.mem = s.mem := by simp [State.cmdGetInfo]

@[simp] theorem State.cmdGetStatus_mem (s : State) (j : Job) : (s.cmdGetStatus j).1.mem = s.mem := by
  unfold State.cmdGetStatus
  dsimp only
  repeat' split
  all_goals simp

@[simp] theorem State.cmdEcho_mem (s : State) (j : Job) : (s.cmdEcho j).1.mem = s.mem := by simp [State.cmdEcho]
@[simp] theorem State.cmdSetMode_mem (s : State) (j : Job) : (s.cmdSetMode j).1.mem = s.mem := by simp [State.cmdSetMode]

@[simp] theorem State.finSetMode_mem (s : State) (j : Job) (fin : FinishIn) : (s.finSetMode j fin).1.mem = s.mem := by
  simp [State.finSetMode]

@[simp] theorem State.cmdGetMode_mem (s : State) : s.cmdGetMode.1.mem = s.mem := by simp [State.cmdGetMode]

/-! ### Scribe -/

@[simp] theorem State.writeImage_mem (s : State) (cause : Nat) : (s.writeImage cause).mem = s.mem := by simp [State.writeImage]

@[simp] theorem State.postScribe_mem (s : State) (event cause data : Nat) : (s.postScribe event cause data).mem = s.mem := by
  simp [State.postScribe]

@[simp] theorem State.flushEnd_mem (s : State) (ok : Bool) : (s.flushEnd ok).mem = s.mem := by
  unfold State.flushEnd
  dsimp only
  repeat' split
  all_goals simp

@[simp] theorem State.cmdScribeFreeze_mem (s : State) (j : Job) : (s.cmdScribeFreeze j).1.mem = s.mem := by
  simp [State.cmdScribeFreeze]

@[simp] theorem State.cmdScribeThaw_mem (s : State) : s.cmdScribeThaw.1.mem = s.mem := by simp [State.cmdScribeThaw]

@[simp] theorem State.cmdScribeRead_mem (s : State) (j : Job) : (s.cmdScribeRead j).1.mem = s.mem := by
  unfold State.cmdScribeRead
  split <;> simp

@[simp] theorem State.cmdScribeClear_mem (s : State) (j : Job) : (s.cmdScribeClear j).1.mem = s.mem := by
  unfold State.cmdScribeClear
  dsimp only
  repeat' split
  all_goals simp

@[simp] theorem State.cmdScribeFlush_mem (s : State) : s.cmdScribeFlush.1.mem = s.mem := by simp [State.cmdScribeFlush]

theorem execScribeSample_canonical (rec_ : Word) (quantity : Nat) (val : Int) :
    KeepsMemory (execScribeSample rec_ quantity val) := fun s hs => by
  unfold execScribeSample
  repeat' split
  all_goals simp [hs]

theorem execScribeFreezeExpiry_canonical : KeepsMemory execScribeFreezeExpiry := fun s hs => by simp [execScribeFreezeExpiry, hs]
theorem execScribePeriodicFlush_canonical : KeepsMemory execScribePeriodicFlush := fun s hs => by simp [execScribePeriodicFlush, hs]

theorem execRepairMapJournalWrite_canonical : KeepsMemory execRepairMapJournalWrite := fun s hs => by
  simp [execRepairMapJournalWrite, hs]

/-! ### Bay commands -/

@[simp] theorem State.beginAll_canonical (s : State) (bays : List Nat) (w : Nat → BayWork) (hs : MemCanonical s.mem) :
    MemCanonical (s.beginAll bays w).mem :=
  foldl_canonical _ (fun s b hs => s.beginWork_canonical b (w b) hs) _ _ hs

@[simp] theorem State.cmdBayLock_canonical (s : State) (j : Job) (hs : MemCanonical s.mem) :
    MemCanonical (s.cmdBayLock j).1.mem := by
  unfold State.cmdBayLock
  dsimp only
  split
  · exact hs
  refine State.unless_canonical _ hs (State.unless_canonical _ hs ?_)
  split
  · exact hs
  split
  · exact hs
  · exact State.beginAll_canonical _ _ _ hs

@[simp] theorem State.endAll_mem (s : State) (j : Job) : (s.endAll j).mem = s.mem := by simp [State.endAll]
@[simp] theorem State.finBayLock_mem (s : State) (j : Job) : (s.finBayLock j).1.mem = s.mem := by simp [State.finBayLock]

@[simp] theorem State.maskCheck_mem (s : State) (t : TInst) (m off : Nat) (rsvd : Option Nat) (go : Ans)
    (hg : go.1.mem = s.mem) : (s.maskCheck t m off rsvd go).1.mem = s.mem := by
  unfold State.maskCheck
  grind [State.no_mem, State.unless_mem]

theorem State.maskCheck_canonical {s : State} (t : TInst) (m off : Nat) (rsvd : Option Nat) {go : Ans} (hs : MemCanonical s.mem)
    (hg : MemCanonical go.1.mem) : MemCanonical (s.maskCheck t m off rsvd go).1.mem := by
  unfold State.maskCheck
  split
  · exact hs
  split
  · exact hs
  · exact State.unless_canonical _ hs hg

@[simp] theorem State.cmdBayUnlock_mem (s : State) (j : Job) : (s.cmdBayUnlock j).1.mem = s.mem := by simp [State.cmdBayUnlock]

@[simp] theorem State.cmdBench_canonical (s : State) (j : Job) (hs : MemCanonical s.mem) : MemCanonical (s.cmdBench j).1.mem := by
  unfold State.cmdBench
  dsimp only
  split
  · exact hs
  refine State.unless_canonical _ hs ?_
  split
  · exact hs
  split
  · exact hs
  · exact State.beginWork_canonical _ _ _ hs

@[simp] theorem State.finBench_mem (s : State) (j : Job) : (s.finBench j).1.mem = s.mem := by simp [State.finBench]
@[simp] theorem State.benchHold_mem (s : State) (b : Nat) : (s.benchHold b).mem = s.mem := by simp [State.benchHold]

@[simp] theorem State.cmdBayFlush_canonical (s : State) (j : Job) (hs : MemCanonical s.mem) :
    MemCanonical (s.cmdBayFlush j).1.mem := by
  have begun := s.beginAll_canonical (s.workBays j) (fun _ => s.flushWork j) hs
  unfold State.cmdBayFlush
  dsimp only
  split
  · exact State.maskCheck_canonical _ _ _ _ hs begun
  split
  · exact hs
  split
  · exact hs
  · exact State.unless_canonical _ hs begun

@[simp] theorem State.finBayFlush_mem (s : State) (j : Job) : (s.finBayFlush j).1.mem = s.mem := by simp [State.finBayFlush]

@[simp] theorem State.cmdBayInvalidate_mem (s : State) (j : Job) : (s.cmdBayInvalidate j).1.mem = s.mem := by
  simp [State.cmdBayInvalidate]

@[simp] theorem State.finBayInvalidate_mem (s : State) (j : Job) : (s.finBayInvalidate j).1.mem = s.mem := by
  simp [State.finBayInvalidate]

@[simp] theorem State.markBusy_mem (s : State) (j : Job) (on : Bool) : (s.markBusy j on).mem = s.mem := by simp [State.markBusy]

/-! ### Power and thermal commands -/

@[simp] theorem State.cmdSetPowerCap_mem (s : State) (j : Job) : (s.cmdSetPowerCap j).1.mem = s.mem := by
  simp [State.cmdSetPowerCap]

@[simp] theorem State.cmdGetPower_mem (s : State) (j : Job) : (s.cmdGetPower j).1.mem = s.mem := by simp [State.cmdGetPower]
@[simp] theorem State.cmdSetPerf_mem (s : State) (j : Job) : (s.cmdSetPerf j).1.mem = s.mem := by simp [State.cmdSetPerf]
@[simp] theorem State.cmdSetCooling_mem (s : State) (j : Job) : (s.cmdSetCooling j).1.mem = s.mem := by simp [State.cmdSetCooling]
@[simp] theorem State.cmdGetThermal_mem (s : State) (j : Job) : (s.cmdGetThermal j).1.mem = s.mem := by simp [State.cmdGetThermal]

@[simp] theorem State.cmdSetDomain_canonical (s : State) (j : Job) (hs : MemCanonical s.mem) :
    MemCanonical (s.cmdSetDomain j).1.mem := by
  unfold State.cmdSetDomain
  extract_lets p d st f pkg own stud held
  split
  · exact hs
  split
  · exact hs
  refine State.unless_canonical _ hs ?_
  split
  · exact hs
  split
  · exact hs
  · have hheld : MemCanonical held.mem := by simpa [held] using hs
    clear_value held
    rw [State.runs_mem]
    exact State.beginAll_canonical _ _ _ hheld

@[simp] theorem State.arrayOff_mem (s : State) (b : Nat) : (s.arrayOff b).mem = s.mem := by simp [State.arrayOff]
@[simp] theorem State.finSetDomain_mem (s : State) (j : Job) : (s.finSetDomain j).1.mem = s.mem := by simp [State.finSetDomain]

@[simp] theorem State.persistent_canonical (s : State) (hs : MemCanonical s.mem) : MemCanonical s.persistent.mem := by
  have kept : s.persistent.mem = s.mem.filter (fun c => decide (2 ^ 48 ≤ c.1)) := by rw [State.persistent]
  rw [kept]
  exact memCanonical_filter _ _ hs

@[simp] theorem State.enterOff_canonical (s : State) (hs : MemCanonical s.mem) : MemCanonical s.enterOff.mem := by
  simp [State.enterOff, hs]

/-! ### Memory-integrity commands -/

@[simp] theorem State.cmdScrub_mem (s : State) (j : Job) : (s.cmdScrub j).1.mem = s.mem := by simp [State.cmdScrub]

@[simp] theorem State.scanLine_canonical (s : State) (f la : Nat) (word : ReadWord) (a : Scan) (hs : MemCanonical s.mem) :
    MemCanonical (s.scanLine f la word a).1.mem := by
  unfold State.scanLine
  dsimp only
  repeat' split
  all_goals simp [hs]

@[simp] theorem State.scan_canonical (s : State) (f la len : Nat) (found : List (Nat × ReadWord)) (hs : MemCanonical s.mem) :
    MemCanonical (s.scan f la len found).1.mem :=
  foldl_fst_canonical _ (fun a _ ha => a.1.scanLine_canonical _ _ _ _ ha) _ _ hs

@[simp] theorem State.finScrub_canonical (s : State) (j : Job) (fin : FinishIn) (hs : MemCanonical s.mem) :
    MemCanonical (s.finScrub j fin).1.mem := by
  simp [State.finScrub, hs]

@[simp] theorem State.abortScrub_canonical (s : State) (j : Job) (hs : MemCanonical s.mem) :
    MemCanonical (s.abortScrub j).1.mem := State.scan_canonical _ _ _ _ _ hs

@[simp] theorem State.plant_canonical (s : State) (tgt typ cnt f inst pa : Nat) (hs : MemCanonical s.mem) :
    MemCanonical (s.plant tgt typ cnt f inst pa).1.mem := by
  unfold State.plant
  dsimp only
  repeat' split
  all_goals simp [hs]

@[simp] theorem State.cmdInject_canonical (s : State) (j : Job) (hs : MemCanonical s.mem) : MemCanonical (s.cmdInject j).1.mem := by
  have planted (tgt typ cnt f inst pa : Nat) (b : Nat → List Byte) :
      MemCanonical ((s.plant tgt typ cnt f inst pa).1.ok (b (s.plant tgt typ cnt f inst pa).2)).1.mem := by
    simpa using s.plant_canonical tgt typ cnt f inst pa hs
  unfold State.cmdInject
  extract_lets p tgt typ cnt inst
  generalize (if 5 ≤ tgt then (if p.byte 3 = 0 then stOk else stRange, 0) else s.tframe j.t (p.byte 3)) = r
  obtain ⟨st, f⟩ := r
  dsimp only
  split
  · exact hs
  split
  · exact hs
  split
  · exact hs
  · exact State.unless_canonical _ hs (State.unless_canonical _ hs (planted _ _ _ _ _ _ fun r => bytesOf 1 r))

@[simp] theorem State.cmdSelftest_mem (s : State) (j : Job) : (s.cmdSelftest j).1.mem = s.mem := by simp [State.cmdSelftest]
@[simp] theorem State.cmdErrorLog_mem (s : State) (j : Job) : (s.cmdErrorLog j).1.mem = s.mem := by simp [State.cmdErrorLog]
@[simp] theorem State.cmdTrainSave_mem (s : State) (j : Job) : (s.cmdTrainSave j).1.mem = s.mem := by simp [State.cmdTrainSave]

@[simp] theorem State.finTrainSave_mem (s : State) (j : Job) (fin : FinishIn) : (s.finTrainSave j fin).1.mem = s.mem := by
  simp [State.finTrainSave]

/-! ### Purlin links -/

@[simp] theorem State.setPurlin_mem (s : State) (p : Nat) (l : Purlin) : (s.setPurlin p l).mem = s.mem := by simp [State.setPurlin]
@[simp] theorem State.sendDown_mem (s : State) (f : Nat) : (s.sendDown f).mem = s.mem := by simp [State.sendDown]

@[simp] theorem State.refuseJoin_mem (s : State) (f reason : Nat) : (s.refuseJoin f reason).mem = s.mem := by
  simp [State.refuseJoin]

@[simp] theorem State.linkLost_mem (s : State) (p : Nat) : (s.linkLost p).mem = s.mem := by simp [State.linkLost]

@[simp] theorem State.domainDown_mem (s : State) (p : Nat) : (s.domainDown p).mem = s.mem := by
  unfold State.domainDown
  dsimp only
  repeat' split
  all_goals simp

theorem execDomainDown_canonical (p : PortId) : KeepsMemory (execDomainDown p) := fun s hs => by simp [execDomainDown, hs]

theorem execPurlinLinkLost_canonical (p : PortId) : KeepsMemory (execPurlinLinkLost p) := fun s hs => by
  simp [execPurlinLinkLost, hs]

@[simp] theorem State.sendMgmt_mem (s : State) (p : Nat) (m : Mgmt) : (s.sendMgmt p m).mem = s.mem := by simp [State.sendMgmt]

@[simp] theorem State.floodMgmt_mem (s : State) (ports : List Nat) (m : PortId → Mgmt) : (s.floodMgmt ports m).mem = s.mem := by
  simp [State.floodMgmt]

@[simp] theorem State.announce_mem (s : State) (f p : Nat) : (s.announce f p).mem = s.mem := by simp [State.announce]
@[simp] theorem State.identity_mem (s : State) (p : Nat) (u : IdUnit) : (s.identity p u).mem = s.mem := by simp [State.identity]

theorem execIdentityUnit_canonical (p : PortId) (u : IdUnit) : KeepsMemory (execIdentityUnit p u) := fun s hs => by
  simp [execIdentityUnit, hs]

@[simp] theorem State.giveRoles_mem (s : State) (f : Nat) (members : List Nat) (ports earlier : List Nat) :
    (s.giveRoles f members ports earlier).mem = s.mem := by
  induction ports generalizing s earlier with
  | nil => rfl
  | cons p r ih => simp [State.giveRoles, ih]

@[simp] theorem State.sliceReport_mem (s : State) (f n : Nat) : (s.sliceReport f n).mem = s.mem := by simp [State.sliceReport]

@[simp] theorem State.openDomain_mem (s : State) (f : Nat) (v : JoinView) : (s.openDomain f v).mem = s.mem := by
  simp [State.openDomain]

@[simp] theorem State.joinTimes_mem (s : State) (f : Nat) : (s.joinTimes f).mem = s.mem := by simp [State.joinTimes]
@[simp] theorem State.joinGo_mem (s : State) (f : Nat) : (s.joinGo f).mem = s.mem := by simp [State.joinGo]
theorem execJoin_canonical (f : FrameId) (s : State) (hs : MemCanonical s.mem) : (execJoin f s).Canonical := by simp [execJoin, hs]
theorem execJoinDeadline_canonical (f : FrameId) : KeepsMemory (execJoinDeadline f) := fun s hs => by simp [execJoinDeadline, hs]

theorem execTimeExchange_canonical (f : FrameId) : KeepsMemory (execTimeExchange f) := fun s hs => by
  unfold execTimeExchange
  split <;> simp [hs]

@[simp] theorem State.timeAnswer_mem (s : State) (p : Nat) (t mine : BitVec 60) : (s.timeAnswer p t mine).mem = s.mem := by
  simp [State.timeAnswer]

@[simp] theorem State.mgmtIn_mem (s : State) (m : Mgmt) : (s.mgmtIn m).mem = s.mem := by
  unfold State.mgmtIn
  split <;> simp

theorem execMgmt_canonical (m : Mgmt) : KeepsMemory (execMgmt m) := fun s hs => by simp [execMgmt, hs]

-- The hart that an MSI names is looked up by numerals too large for the kernel to count down, so the look-up is held back.
@[simp] theorem State.fromLink_mem (s : State) (p : Nat) (u : BitVec 128) (rest : List (BitVec 128)) :
    (s.fromLink p u rest).mem = s.mem := by
  obtain ⟨core, hcore⟩ : ∃ core, core = State.coreOfHart := ⟨_, rfl⟩
  rw [State.fromLink, ← hcore]
  split
  · extract_lets m₀ m f m'
    split
    · exact State.domainDown_mem ..
    split
    · exact State.route_mem ..
    split
    · exact State.mgmtIn_mem ..
    split
    · split
      · exact State.msiOn_mem ..
      · exact State.noHart_mem ..
    split
    · exact State.send_mem ..
    · exact State.reservedAgent_mem ..
  · exact State.badOpcode_mem ..

@[simp] theorem State.purlinTake_mem (fuel : Nat) (s : State) (p : Nat) (l : List (BitVec 128)) :
    (State.purlinTake fuel s p l).1.mem = s.mem := by
  induction fuel generalizing s l with
  | zero => rfl
  | succ n ih =>
    unfold State.purlinTake
    grind [State.fromLink_mem, State.setPurlin_mem]

@[simp] theorem State.purlinReplay_mem (s : State) (p ack : Nat) : (s.purlinReplay p ack).mem = s.mem := by
  simp [State.purlinReplay]

@[simp] theorem State.purlinTick_mem (s : State) (p : Nat) : (s.purlinTick p).mem = s.mem := by simp [State.purlinTick]

@[simp] theorem State.purlinUnits_mem (s : State) (p kind : Nat) (units : List (BitVec 128)) :
    (s.purlinUnits p kind units).mem = s.mem := by
  simp [State.purlinUnits]

theorem execPurlinFlitReceived_canonical (p : PortId) (h : PFlitHdr) (units : List (BitVec 128)) (fixed : Nat) :
    KeepsMemory (execPurlinFlitReceived p h units fixed) := fun s hs => by
  simp [execPurlinFlitReceived, hs]

theorem execPurlinFlitError_canonical (p : PortId) : KeepsMemory (execPurlinFlitError p) := fun s hs => by
  simp [execPurlinFlitError, hs]

theorem execPurlinNak_canonical (p : PortId) (ack : BitVec 10) : KeepsMemory (execPurlinNak p ack) := fun s hs => by
  simp [execPurlinNak, hs]

@[simp] theorem State.fastRetrain_mem (s : State) (p : Nat) (ok : Bool) : (s.fastRetrain p ok).mem = s.mem := by
  simp [State.fastRetrain]

theorem execFastRetrain_canonical (p : PortId) (ok : Bool) : KeepsMemory (execFastRetrain p ok) := fun s hs => by
  simp [execFastRetrain, hs]

/-! ### Ridge ports -/

@[simp] theorem State.setRidge_mem (s : State) (p : Nat) (r : Ridge) : (s.setRidge p r).mem = s.mem := by simp [State.setRidge]
@[simp] theorem State.nodeCheck_mem (s : State) (f : Nat) : (s.nodeCheck f).mem = s.mem := by simp [State.nodeCheck]
@[simp] theorem State.pumpNode_mem (s : State) (f : Nat) : (s.pumpNode f).mem = s.mem := by simp [State.pumpNode]

@[simp] theorem State.nodeAnswer_mem (s : State) (f p : Nat) : (s.nodeAnswer f p).mem = s.mem := by
  unfold State.nodeAnswer
  dsimp only
  split <;> simp

@[simp] theorem State.nodeSettle_mem (s : State) (f : Nat) : (s.nodeSettle f).mem = s.mem := by
  unfold State.nodeSettle
  dsimp only
  split <;> simp

@[simp] theorem State.ridgeComesUp_mem (s : State) (p : Nat) (r : Ridge) : (s.ridgeComesUp p r).mem = s.mem := by
  simp [State.ridgeComesUp]

theorem execLinkIdent_canonical (p : PortId) (role lanes rev : Nat) (req pst rsp : BitVec 16) :
    KeepsMemory (execLinkIdent p role lanes rev req pst rsp) := fun s hs => by
  simp [execLinkIdent, hs]

theorem execLinkAck_canonical (p : PortId) (ack : BitVec 10) (nak : Bool) (req pst rsp : BitVec 16) :
    KeepsMemory (execLinkAck p ack nak req pst rsp) := fun s hs => by
  simp [execLinkAck, hs]

theorem execNodeAssign_canonical (p : PortId) (id : BitVec 16) : KeepsMemory (execNodeAssign p id) := fun s hs => by
  simp [execNodeAssign, hs]

theorem execNodeConfirm_canonical (p : PortId) (_id : BitVec 16) (_refused : Bool) :
    KeepsMemory (execNodeConfirm p _id _refused) := fun s hs => by
  simp [execNodeConfirm, hs]

@[simp] theorem State.ridgeLog_mem (s : State) (p : Nat) (pa : Option Nat) : (s.ridgeLog p pa).mem = s.mem := by
  simp [State.ridgeLog]

@[simp] theorem State.ridgeWriteDone_mem (s : State) (c i : Nat) (sl : Slot) : (s.ridgeWriteDone c i sl).mem = s.mem := by
  unfold State.ridgeWriteDone
  split <;> simp

@[simp] theorem State.ridgeCore_mem (s : State) (p : Nat) (q : OutReq) (got : Option (List Byte × Bool)) :
    (s.ridgeCore p q got).mem = s.mem := by
  unfold State.ridgeCore
  grind [State.ridgeLog_mem, State.goOn_mem, State.ncGot_mem, State.ridgeWriteDone_mem, State.mem_setCore,
    State.slotErr_mem]

@[simp] theorem State.ridgeDone_mem (s : State) (p : Nat) (q : OutReq) (got : Option (List Byte × Bool)) :
    (s.ridgeDone p q got).mem = s.mem := by
  simp [State.ridgeDone]

@[simp] theorem State.ridgeFixed_mem (s : State) (p : Nat) (pkt : RPkt) : (s.ridgeFixed p pkt).mem = s.mem := by
  simp [State.ridgeFixed]

theorem execResp_canonical (p : PortId) (pkt : RPkt) : KeepsMemory (execResp p pkt) := fun s hs => by
  unfold execResp
  dsimp only
  repeat' split
  all_goals simp [hs]

@[simp] theorem State.ridgeTimeout_mem (s : State) (p tag : Nat) : (s.ridgeTimeout p tag).mem = s.mem := by
  unfold State.ridgeTimeout
  dsimp only
  split <;> simp

theorem execRidgeRequestTimeout_canonical (p : PortId) (tag : Nat) : KeepsMemory (execRidgeRequestTimeout p tag) := fun s hs => by
  simp [execRidgeRequestTimeout, hs]

theorem execRidgeTagQuarantineEnd_canonical (p : PortId) (tag : Nat) :
    KeepsMemory (execRidgeTagQuarantineEnd p tag) := fun s hs => by
  simp [execRidgeTagQuarantineEnd, hs]

@[simp] theorem State.ridgeFail_mem (s : State) (p : Nat) : (s.ridgeFail p).mem = s.mem := by simp [State.ridgeFail]

theorem execRidgeCodewordError_canonical (p : PortId) (retrainOk : Bool) :
    KeepsMemory (execRidgeCodewordError p retrainOk) := fun s hs => by
  simp [execRidgeCodewordError, hs]

@[simp] theorem State.ridgeAnswer_mem (s : State) (p : Nat) (pkt : RPkt) (status : Nat) :
    (s.ridgeAnswer p pkt status).mem = s.mem := by
  simp [State.ridgeAnswer]

@[simp] theorem State.ridgeReject_mem (s : State) (p : Nat) (pkt : RPkt) (op status : Nat) :
    (s.ridgeReject p pkt op status).mem = s.mem := by
  simp [State.ridgeReject]

@[simp] theorem State.ridgeRequest_mem (s : State) (p : Nat) (pkt : RPkt) (op : Nat) : (s.ridgeRequest p pkt op).mem = s.mem := by
  unfold State.ridgeRequest
  dsimp only
  repeat' split
  all_goals simp

theorem execRidgeRead_canonical (p : PortId) (pkt : RPkt) : KeepsMemory (execRidgeRead p pkt) := fun s hs => by
  simp [execRidgeRead, hs]

theorem execRidgeWrite_canonical (p : PortId) (pkt : RPkt) : KeepsMemory (execRidgeWrite p pkt) := fun s hs => by
  simp [execRidgeWrite, hs]

theorem execWritePosted_canonical (p : PortId) (pkt : RPkt) : KeepsMemory (execWritePosted p pkt) := fun s hs => by
  simp [execWritePosted, hs]

theorem execRidgeAtomic_canonical (p : PortId) (pkt : RPkt) : KeepsMemory (execRidgeAtomic p pkt) := fun s hs => by
  simp [execRidgeAtomic, hs]

theorem execRidgeFence_canonical (p : PortId) (pkt : RPkt) : KeepsMemory (execRidgeFence p pkt) := fun s hs => by
  simp [execRidgeFence, hs]

/-! ### Root ports of PCIe and CXL -/

@[simp] theorem State.portDrop_mem (s : State) (p : Nat) : (s.portDrop p).mem = s.mem := by simp [State.portDrop]

@[simp] theorem State.inbReject_mem (s : State) (p root tag : Nat) (posted : Bool) :
    (s.inbReject p root tag posted).mem = s.mem := by
  simp [State.inbReject]

@[simp] theorem State.rootWake_mem (s : State) (p i : Nat) : (s.rootWake p i).mem = s.mem := by simp [State.rootWake]

@[simp] theorem State.ioFinish_mem (s : State) (p : Nat) (t : Tlp) (r : IoAns) : (s.ioFinish p t r).mem = s.mem := by
  unfold State.ioFinish
  repeat' split
  all_goals simp

@[simp] theorem State.ioServe_mem (s : State) (p n : Nat) : (s.ioServe p n).mem = s.mem := by
  induction n generalizing s with
  | zero => rfl
  | succ n ih =>
    unfold State.ioServe
    grind [State.ioDebug_mem, State.ioTranslate_mem, State.mem_setPort, State.ioFinish_mem]

theorem execInboundRequest_canonical (p : PortId) (t : Tlp) : KeepsMemory (execInboundRequest p t) := fun s hs => by
  simp [execInboundRequest, hs]

theorem execIntxMessage_canonical (p : PortId) (root : Fin 8) (pin : Fin 4) (assert_ : Bool) :
    KeepsMemory (execIntxMessage p root pin assert_) := fun s hs => by
  simp [execIntxMessage, hs]

@[simp] theorem State.ioDone_mem (s : State) (p : Nat) (q : OutReq) (ur : Bool) (got : Option (List Byte × Bool)) :
    (s.ioDone p q ur got).mem = s.mem := by
  simp [State.ioDone]

@[simp] theorem State.unexpected_mem (s : State) (p i tag n : Nat) (last : Bool) : (s.unexpected p i tag n last).mem = s.mem := by
  simp [State.unexpected]

theorem execCompletion_canonical (p : PortId) (root : Fin 8) (tag : Nat) (st : CplStatus) (ep : Bool) (data : List Byte) :
    KeepsMemory (execCompletion p root tag st ep data) := fun s hs => by
  unfold execCompletion
  grind [Res.canonical_next, State.unexpected_mem, State.recAdd_mem, State.mem_setPort, State.pumpNode_mem,
    State.ioDone_mem]

@[simp] theorem State.portTimeout_mem (s : State) (p i tag : Nat) : (s.portTimeout p i tag).mem = s.mem := by
  unfold State.portTimeout
  dsimp only
  split <;> simp

theorem execCompletionTimeout_canonical (p : PortId) (root : Fin 8) (tag : Nat) :
    KeepsMemory (execCompletionTimeout p root tag) := fun s hs => by
  simp [execCompletionTimeout, hs]

theorem execPcieTagQuarantineEnd_canonical (p : PortId) (root : Fin 8) (tag : Nat) :
    KeepsMemory (execPcieTagQuarantineEnd p root tag) := fun s hs => by
  unfold execPcieTagQuarantineEnd
  dsimp only
  split <;> simp [hs]

@[simp] theorem State.portGoOn_canonical (s : State) (p : Nat) (hs : MemCanonical s.mem) : MemCanonical (s.portGoOn p).mem := by
  unfold State.portGoOn
  rw [State.pumpNode_mem]
  split <;> simp [hs]

@[simp] theorem State.portError_mem (s : State) (p cls : Nat) : (s.portError p cls).mem = s.mem := by simp [State.portError]

theorem execDpcTrigger_canonical (p : PortId) (root : Fin 8) : KeepsMemory (execDpcTrigger p root) := fun s hs => by
  simp [execDpcTrigger, hs]

@[simp] theorem State.rootEvent_canonical (s : State) (p i : Nat) (ev : PortEvent) (hs : MemCanonical s.mem) :
    MemCanonical (s.rootEvent p i ev).mem := by
  unfold State.rootEvent
  split <;> simp [hs]

theorem execPortLinkEvent_canonical (p : PortId) (root : Fin 8) (ev : PortEvent) :
    KeepsMemory (execPortLinkEvent p root ev) := fun s hs => by
  unfold execPortLinkEvent
  split <;> simp [hs]

theorem execCxlLinkDown_canonical (p : PortId) (root : Fin 8) : KeepsMemory (execCxlLinkDown p root) := fun s hs => by
  simp [execCxlLinkDown, hs]

theorem execLinkPowerIdle_canonical (p : PortId) (tgt : LinkPower) (ltr : Option Nat) :
    KeepsMemory (execLinkPowerIdle p tgt ltr) := fun s hs => by
  simp [execLinkPowerIdle, hs]

/-! ### The dovetail function -/

@[simp] theorem State.hostTouch_mem (s : State) (p : Nat) : (s.hostTouch p).mem = s.mem := by simp [State.hostTouch]

@[simp] theorem State.hostWrite_mem (s : State) (p o size : Nat) (val : Word) : (s.hostWrite p o size val).mem = s.mem := by
  simp [State.hostWrite]

theorem execDtCmdTailWrite_canonical (p : PortId) (val : Word) : KeepsMemory (execDtCmdTailWrite p val) := fun s hs => by
  simp [execDtCmdTailWrite, hs]

theorem execDtRplHeadWrite_canonical (p : PortId) (val : Word) : KeepsMemory (execDtRplHeadWrite p val) := fun s hs => by
  simp [execDtRplHeadWrite, hs]

theorem execDtRingCfgWrite_canonical (p : PortId) (val : Word) : KeepsMemory (execDtRingCfgWrite p val) := fun s hs => by
  simp [execDtRingCfgWrite, hs]

theorem execDtNqPop_canonical (p : PortId) (size : Nat) : KeepsMemory (execDtNqPop p size) := fun s hs => by simp [execDtNqPop, hs]

theorem execDtWinCommit_canonical (p : PortId) (val : Word) : KeepsMemory (execDtWinCommit p val) := fun s hs => by
  simp [execDtWinCommit, hs]

@[simp] theorem State.dtResize_mem (s : State) (p log2Gib : Nat) : (s.dtResize p log2Gib).mem = s.mem := by simp [State.dtResize]

theorem execBarResize_canonical (p : PortId) (log2Gib : Nat) : KeepsMemory (execBarResize p log2Gib) := fun s hs => by
  simp [execBarResize, hs]

theorem execRecoveryWindowAccess_canonical (p : PortId) (t : Tlp) : KeepsMemory (execRecoveryWindowAccess p t) := fun s hs => by
  unfold execRecoveryWindowAccess
  dsimp only
  repeat' split
  all_goals simp [hs]

theorem execDtBarRegisterWrite_canonical (p : PortId) (off : BitVec 24) (size : Nat) (val : Word) :
    KeepsMemory (execDtBarRegisterWrite p off size val) := fun s hs => by
  simp [execDtBarRegisterWrite, hs]

@[simp] theorem State.performRegs_mem (s : State) (p : Nat) : (s.performRegs p).mem = s.mem := by simp [State.performRegs]

@[simp] theorem State.dtReset_canonical (s : State) (p : Nat) (flr : Bool) (hs : MemCanonical s.mem) :
    MemCanonical (s.dtReset p flr).mem := by
  unfold State.dtReset
  dsimp only
  rw [State.mem_setPort, State.loseTransport_mem, State.performRegs_mem]
  exact foldl_canonical _ (by simp +contextual) _ _ hs

@[simp] theorem State.dtRelink_canonical (s : State) (p st : Nat) (hs : MemCanonical s.mem) :
    MemCanonical (s.dtRelink p st).mem := by
  simp [State.dtRelink, hs]

theorem execFundamentalReset_canonical (p : PortId) : KeepsMemory (execFundamentalReset p) := fun s hs => by
  simp [execFundamentalReset, hs]

theorem execHotReset_canonical (p : PortId) : KeepsMemory (execHotReset p) := fun s hs => by simp [execHotReset, hs]

theorem execFunctionLevelReset_canonical (p : PortId) : KeepsMemory (execFunctionLevelReset p) := fun s hs => by
  simp [execFunctionLevelReset, hs]

theorem execHostConfigWrite_canonical (p : PortId) (reg : Nat) (val : BitVec 32) :
    KeepsMemory (execHostConfigWrite p reg val) := fun s hs => by
  unfold execHostConfigWrite
  repeat' split
  all_goals simp [hs]

@[simp] theorem State.rootUp_mem (s : State) (p i : Nat) (l : LinkIn) : (s.rootUp p i l).mem = s.mem := by
  rw [← State.hasMem_iff, State.rootUp]
  have linked k r : ((((s.setPort p k).setRootOf p i r).linkEdge p).postLink p 0 0 0).mem = s.mem :=
    (State.postLink_mem ..).trans ((State.linkEdge_mem ..).trans
      ((State.setRootOf_mem ..).trans (State.mem_setPort ..)))
  split
  · exact linked ..
  · extract_lets size d s'
    split
    · exact (State.post_mem ..).trans ((State.mem_setHome ..).trans (linked ..))
    · exact (State.mem_setHome ..).trans (linked ..)

@[simp] theorem State.purlinTrained_mem (s : State) (p : Nat) (n : Nat) : (s.purlinTrained p n).mem = s.mem := by
  unfold State.purlinTrained
  dsimp only
  split <;> simp

@[simp] theorem State.ridgeTrained_mem (s : State) (p : Nat) (l : LinkIn) : (s.ridgeTrained p l).mem = s.mem := by
  unfold State.ridgeTrained
  dsimp only
  split <;> simp

theorem execLinkUp_canonical (p : PortId) (root : Fin 8) (l : LinkIn) : KeepsMemory (execLinkUp p root l) := fun s hs => by
  unfold execLinkUp
  dsimp only
  repeat' split
  all_goals simp [hs]

/-! ### Link and port commands -/

@[simp] theorem State.cmdLinkStatus_mem (s : State) (j : Job) : (s.cmdLinkStatus j).1.mem = s.mem := by simp [State.cmdLinkStatus]
@[simp] theorem State.clearMap_mem (s : State) (n : Nat) : (s.clearMap n).mem = s.mem := by simp [State.clearMap]

@[simp] theorem State.cmdTenonMap_mem (s : State) (j : Job) : (s.cmdTenonMap j).1.mem = s.mem := by
  unfold State.cmdTenonMap
  dsimp only
  repeat' split
  all_goals simp

@[simp] theorem State.cmdRetrain_mem (s : State) (j : Job) : (s.cmdRetrain j).1.mem = s.mem := by
  unfold State.cmdRetrain
  dsimp only
  repeat' split
  all_goals simp

@[simp] theorem State.retrainPort_canonical (s : State) (p r : Nat) (ok : Bool) (hs : MemCanonical s.mem) :
    MemCanonical (s.retrainPort p r ok).1.mem := by
  unfold State.retrainPort
  dsimp only
  split <;> simp [hs]

@[simp] theorem State.finRetrain_canonical (s : State) (j : Job) (fin : FinishIn) (hs : MemCanonical s.mem) :
    MemCanonical (s.finRetrain j fin).1.mem := by
  simp [State.finRetrain, hs]

@[simp] theorem State.cmdPersonality_mem (s : State) (j : Job) : (s.cmdPersonality j).1.mem = s.mem := by
  simp [State.cmdPersonality]

@[simp] theorem State.finPersonality_mem (s : State) (j : Job) (fin : FinishIn) : (s.finPersonality j fin).1.mem = s.mem := by
  simp [State.finPersonality]

@[simp] theorem State.setExports_mem (s : State) (f : Nat) (t : Map Word) : (s.setExports f t).1.mem = s.mem := by
  simp [State.setExports]

@[simp] theorem State.cmdExport_mem (s : State) (j : Job) : (s.cmdExport j).1.mem = s.mem := by
  unfold State.cmdExport
  dsimp only
  repeat' split
  all_goals simp

/-! ### Firmware, attestation, SPDM and MCTP -/

@[simp] theorem State.fwClose_mem (s : State) : s.fwClose.mem = s.mem := by simp [State.fwClose]
@[simp] theorem State.cmdFwBegin_mem (s : State) (j : Job) : (s.cmdFwBegin j).1.mem = s.mem := by simp [State.cmdFwBegin]
@[simp] theorem State.setSlot_mem (s : State) (i : Nat) (b : Option Bundle) : (s.setSlot i b).mem = s.mem := by simp [State.setSlot]
@[simp] theorem State.finFwBegin_mem (s : State) (fin : FinishIn) : (s.finFwBegin fin).1.mem = s.mem := by simp [State.finFwBegin]
@[simp] theorem State.cmdFwChunk_mem (s : State) (j : Job) : (s.cmdFwChunk j).1.mem = s.mem := by simp [State.cmdFwChunk]

@[simp] theorem State.finFwChunk_mem (s : State) (j : Job) (fin : FinishIn) : (s.finFwChunk j fin).1.mem = s.mem := by
  simp [State.finFwChunk]

@[simp] theorem State.cmdFwCommit_mem (s : State) (j : Job) : (s.cmdFwCommit j).1.mem = s.mem := by simp [State.cmdFwCommit]

@[simp] theorem State.finFwCommit_mem (s : State) (fin : FinishIn) : (s.finFwCommit fin).1.mem = s.mem := by
  unfold State.finFwCommit
  dsimp only
  split <;> simp

theorem execFwSessionTimeout_canonical : KeepsMemory execFwSessionTimeout := fun s hs => by simp [execFwSessionTimeout, hs]

@[simp] theorem State.finAttest_mem (s : State) (j : Job) (fin : FinishIn) : (s.finAttest j fin).1.mem = s.mem := by
  simp [State.finAttest]

@[simp] theorem State.setSpdm_mem (s : State) (t : TInst) (d : Spdm) : (s.setSpdm t d).mem = s.mem := by simp [State.setSpdm]

@[simp] theorem State.spdmSend_mem (s : State) (t : TInst) (b : List Byte) : (s.spdmSend t b).mem = s.mem := by
  simp [State.spdmSend]

@[simp] theorem State.spdmError_mem (s : State) (t : TInst) (code data : Nat) : (s.spdmError t code data).mem = s.mem := by
  simp [State.spdmError]

@[simp] theorem State.spdmReady_mem (s : State) (t : TInst) (version : Byte) (go : State) (hg : go.mem = s.mem)
    :
    (s.spdmReady t version go).mem = s.mem := by
  simp [State.spdmReady, hg]

theorem execGetVersion_canonical (t : TInst) (version : Byte) : KeepsMemory (execGetVersion t version) := fun s hs => by
  simp [execGetVersion, hs]

theorem execGetCapabilities_canonical (t : TInst) (version : Byte) : KeepsMemory (execGetCapabilities t version) := fun s hs => by
  simp [execGetCapabilities, hs]

theorem execNegotiateAlgorithms_canonical (t : TInst) (version : Byte) (p384 sha384 : Bool) :
    KeepsMemory (execNegotiateAlgorithms t version p384 sha384) := fun s hs => by
  simp [execNegotiateAlgorithms, hs]

theorem execGetDigests_canonical (t : TInst) (version : Byte) : KeepsMemory (execGetDigests t version) := fun s hs => by
  simp [execGetDigests, hs]

theorem execGetCertificate_canonical (t : TInst) (version slot : Byte) (off len : BitVec 16) :
    KeepsMemory (execGetCertificate t version slot off len) := fun s hs => by
  simp [execGetCertificate, hs]

@[simp] theorem State.takeBytes_mem (s : State) (n : Nat) : (s.takeBytes n).2.mem = s.mem := by
  induction n generalizing s with
  | zero => rfl
  | succ k ih => simp [State.takeBytes, ih]

theorem execChallenge_canonical (t : TInst) (version slot : Byte) (_nonce : BitVec 256) :
    KeepsMemory (execChallenge t version slot _nonce) := fun s hs => by
  simp [execChallenge, hs]

theorem execGetMeasurements_canonical (t : TInst) (version : Byte) (index : Byte) (sign : Bool) (_nonce : BitVec 256) :
    KeepsMemory (execGetMeasurements t version index sign _nonce) := fun s hs => by
  unfold execGetMeasurements
  dsimp only
  repeat' split
  all_goals simp [hs]

theorem execSpdmUnsupportedRequest_canonical (t : TInst) (_version code : Byte) :
    KeepsMemory (execSpdmUnsupportedRequest t _version code) := fun s hs => by
  simp [execSpdmUnsupportedRequest, hs]

theorem State.mctpControl_canonical (s : State) (code cc : Nat) (data : List Byte) (hs : MemCanonical s.mem) :
    (s.mctpControl code cc data).Canonical := by
  simp [State.mctpControl, hs]

theorem execEntdaa_canonical (addr : BitVec 7) : KeepsMemory (execEntdaa addr) := fun s hs => by simp [execEntdaa, hs]

theorem execSetEndpointId_canonical (eid : Byte) : KeepsMemory (execSetEndpointId eid) := fun s hs => by
  unfold execSetEndpointId
  grind [Res.canonical_next, State.mctpControl_canonical, State.loseTransport_mem]

theorem execGetEndpointId_canonical : KeepsMemory execGetEndpointId := fun s hs => by
  unfold execGetEndpointId
  grind [State.mctpControl_canonical]

theorem execGetEndpointUuid_canonical : KeepsMemory execGetEndpointUuid := fun s hs => by
  unfold execGetEndpointUuid
  grind [State.mctpControl_canonical]

theorem execGetMctpVersionSupport_canonical : KeepsMemory execGetMctpVersionSupport := fun s hs => by
  unfold execGetMctpVersionSupport
  grind [State.mctpControl_canonical]

theorem execGetMessageTypeSupport_canonical : KeepsMemory execGetMessageTypeSupport := fun s hs => by
  unfold execGetMessageTypeSupport
  grind [State.mctpControl_canonical]

theorem execGetVendorDefinedMessageSupport_canonical : KeepsMemory execGetVendorDefinedMessageSupport := fun s hs => by
  unfold execGetVendorDefinedMessageSupport
  grind [State.mctpControl_canonical]

/-! ### Resets and boot -/

@[simp] theorem State.landWrites_canonical (s : State) (c : Nat) (hs : MemCanonical s.mem) : MemCanonical (s.landWrites c).mem := by
  unfold State.landWrites
  refine foldl_canonical _ (fun s e hs => State.setMemLine_canonical _ _ _ _ ?_) _ _ hs
  split <;> simp [hs]

@[simp] theorem State.eraseBench_canonical (s : State) (b : Nat) (hs : MemCanonical s.mem) : MemCanonical (s.eraseBench b).mem := by
  simp [State.eraseBench, hs]

@[simp] theorem State.framePort_mem (s : State) (p : Nat) : (s.framePort p).mem = s.mem := by simp [State.framePort]
@[simp] theorem State.wipeStud_mem (s : State) (n : Nat) (held : Bool) : (s.wipeStud n held).mem = s.mem := by simp [State.wipeStud]

@[simp] theorem State.wipeFrame_canonical (s : State) (f : Nat) (hs : MemCanonical s.mem) : MemCanonical (s.wipeFrame f).mem := by
  unfold State.wipeFrame
  extract_lets fr writes posted chans studs homes bws ring arrays
  have landed : MemCanonical posted.mem :=
    foldl_canonical _ (fun s p hs => s.landPosted_canonical p hs) _ _
      (foldl_canonical _ (fun s c hs => s.landWrites_canonical c hs) _ _ hs)
  clear_value posted
  have wiped : MemCanonical studs.mem :=
    foldl_canonical _ (fun s n hs => State.eraseBench_canonical _ n (by simpa using hs)) _ _
      (by simpa [chans] using landed)
  clear_value studs
  simpa [ring, bws, homes] using wiped

@[simp] theorem State.countCheckers_mem (s : State) (codes : List Nat) : (s.countCheckers codes).mem = s.mem := by
  simp [State.countCheckers]

@[simp] theorem State.raiseStud_mem (s : State) (n : Nat) (env : BootEnv) (cause : Nat) (entry : Bool) :
    (s.raiseStud n env cause entry).mem = s.mem := by
  simp [State.raiseStud]

@[simp] theorem State.raiseBay_mem (s : State) (b : Nat) (env : BootEnv) : (s.raiseBay b env).mem = s.mem := by
  simp [State.raiseBay]

@[simp] theorem State.raisePort_mem (s : State) (p : Nat) (booted : Bool) : (s.raisePort p booted).mem = s.mem := by
  simp [State.raisePort]

@[simp] theorem State.prepareFrame_mem (s : State) (f : Nat) (env : BootEnv) (cause : Nat) :
    (s.prepareFrame f env cause).mem = s.mem := by
  simp [State.prepareFrame]

@[simp] theorem State.unboot_mem (s : State) (f : Nat) : (s.unboot f).mem = s.mem := by simp [State.unboot]
@[simp] theorem State.setDram_mem (s : State) (f n gib rate : Nat) : (s.setDram f n gib rate).mem = s.mem := by simp [State.setDram]
@[simp] theorem State.beyondReport_mem (s : State) (f sg : Nat) : (s.beyondReport f sg).mem = s.mem := by simp [State.beyondReport]

@[simp] theorem State.firstTraining_canonical (s : State) (f : Nat) (res : Nat → TrainRes) (hs : MemCanonical s.mem) :
    MemCanonical (s.firstTraining f res).mem := by
  unfold State.firstTraining
  split
  next kept n rate _ =>
  extract_lets gib chans frame trained
  have htrained : MemCanonical trained.mem := by
    refine (State.mem_setFrame ..).symm ▸ foldl_canonical _ (fun s c hs => ?_) _ _ hs
    dsimp only
    split
    · exact State.activate_canonical _ _ _ _ hs
    · split <;> simpa using hs
  clear_value trained
  split
  · simpa using htrained
  · rw [State.beyondReport_mem]
    exact State.zeroEdges_canonical _ _ (by simpa using htrained)

@[simp] theorem State.restoreChan_mem (s : State) (c : Nat) (r : Option TrainRes) : (s.restoreChan c r).mem = s.mem := by
  simp [State.restoreChan]

@[simp] theorem State.retrainDram_canonical (s : State) (f : Nat) (res : List (Nat × TrainRes)) (hs : MemCanonical s.mem) :
    MemCanonical (s.retrainDram f res).mem := by
  unfold State.retrainDram
  refine foldl_canonical _ (fun t c ht => ?_) _ _ (State.firstTraining_canonical _ _ _ hs)
  dsimp only
  split <;> simpa using ht

@[simp] theorem State.restoreDram_canonical (s : State) (f : Nat) (res : List (Nat × TrainRes)) (hs : MemCanonical s.mem) :
    MemCanonical (s.restoreDram f res).mem := by
  unfold State.restoreDram
  split
  · exact State.retrainDram_canonical _ _ _ hs
  · extract_lets restored l n posted
    have hposted : MemCanonical posted.mem := by simpa [posted, restored] using hs
    clear_value posted
    split <;> simpa using hposted

@[simp] theorem State.measureFrame_mem (s : State) (f : Nat) : (s.measureFrame f).mem = s.mem := by simp [State.measureFrame]

theorem execChannelTrainingDone_canonical (f : FrameId) (res : List (Nat × TrainRes)) :
    KeepsMemory (execChannelTrainingDone f res) := fun s hs => by
  unfold execChannelTrainingDone
  extract_lets fr
  split
  · exact (Res.canonical_next _).2 hs
  split
  · simpa using s.restoreDram_canonical f res hs
  · simpa using s.firstTraining_canonical f _ hs

@[simp] theorem State.loadBench_canonical (s : State) (f cause minSvn : Nat) (hs : MemCanonical s.mem) :
    MemCanonical (s.loadBench f cause minSvn).mem := by
  unfold State.loadBench
  extract_lets fr b bench fw v fused hand
  have hbench : MemCanonical bench.mem := State.setBench_canonical _ _ _ hs
  clear_value bench hand
  show MemCanonical (Mem.putList (Mem.putList bench.mem _ fw) _ hand)
  exact ⟨Mem.putList_wf _ _ _ (Mem.putList_wf _ _ _ hbench.wf)⟩

@[simp] theorem State.countCheck_mem (s : State) (f : Nat) : (s.countCheck f).mem = s.mem := by simp [State.countCheck]

@[simp] theorem State.releaseFrame_canonical (s : State) (f cause : Nat) (extra : List (Nat × Nat × Nat))
    (hs : MemCanonical s.mem) : MemCanonical (s.releaseFrame f cause extra).mem := by
  unfold State.releaseFrame
  extract_lets svn loaded fr released frame running noted _ _ marked booted posted
  have hloaded : MemCanonical loaded.mem := State.loadBench_canonical _ _ _ _ (by simpa using hs)
  have hnoted : MemCanonical noted.mem := by
    have hrunning : MemCanonical running.mem := by simpa [running, released] using hloaded
    simp only [noted]
    split <;> simpa using hrunning
  simpa [posted, booted, marked] using hnoted

@[simp] theorem State.chooseSlot_mem (s : State) : s.chooseSlot.1.mem = s.mem := by
  unfold State.chooseSlot
  dsimp only
  repeat' split
  all_goals simp

@[simp] theorem State.readModes_mem (s : State) (env : BootEnv) : (s.readModes env).mem = s.mem := by simp [State.readModes]
@[simp] theorem State.applyMode_mem (s : State) (straps : Nat) : (s.applyMode straps).mem = s.mem := by simp [State.applyMode]
@[simp] theorem State.domainsOn_mem (s : State) : s.domainsOn.mem = s.mem := by simp [State.domainsOn]

@[simp] theorem State.bootAll_canonical (s : State) (env : BootEnv) (cause : Nat) (extra : List (Nat × Nat × Nat))
    (hs : MemCanonical s.mem) : MemCanonical (s.bootAll env cause extra).mem := by
  unfold State.bootAll
  rw [State.countAll_mem]
  exact foldl_canonical _ (fun s f hs => s.releaseFrame_canonical f cause extra hs) _ _ (by simpa using hs)

@[simp] theorem State.finishBoot_canonical (s : State) (env : BootEnv) (offExit : Bool) (hs : MemCanonical s.mem) :
    MemCanonical (s.finishBoot env offExit).mem := by
  unfold State.finishBoot
  extract_lets _ _ modes extra _ _ cleared
  have hcleared : MemCanonical cleared.mem := by simpa [cleared, modes] using hs
  clear_value cleared
  split
  · exact hs
  · exact State.bootAll_canonical _ _ _ _ (by simpa using hcleared)

@[simp] theorem State.loadJournal_mem (s : State) (env : BootEnv) : (s.loadJournal env).mem = s.mem := by simp [State.loadJournal]

@[simp] theorem State.startD0_canonical (s : State) (env : BootEnv) (offExit : Bool) (hs : MemCanonical s.mem) :
    MemCanonical (s.startD0 env offExit).mem := by
  unfold State.startD0
  extract_lets loaded env' _ _ _ on
  have hon : MemCanonical on.mem := by simpa [on, loaded] using s.persistent_canonical hs
  clear_value on
  have chosen : MemCanonical on.chooseSlot.1.mem := by simpa using hon
  generalize on.chooseSlot = r at chosen ⊢
  obtain ⟨t, ok⟩ := r
  dsimp only
  split
  · exact chosen
  split
  · exact chosen
  · exact State.finishBoot_canonical _ _ _ chosen

theorem execPwrgoodDeassert_canonical (s : State) (hs : MemCanonical s.mem) : (execPwrgoodDeassert s).Canonical :=
  (Res.canonical_next _).2 (s.persistent_canonical hs)

theorem execColdReset_canonical (env : BootEnv) : KeepsMemory (execColdReset env) := fun s hs => by simp [execColdReset, hs]
theorem execExitFromOff_canonical (env : BootEnv) : KeepsMemory (execExitFromOff env) := fun s hs => by simp [execExitFromOff, hs]

theorem execSensorSample_canonical (n : Fin 16) (temps : List Int) : KeepsMemory (execSensorSample n temps) := fun s hs => by
  unfold execSensorSample
  extract_lets sampled hot _ cooled _ _
  have hsampled : MemCanonical sampled.mem := by simpa [sampled] using hs
  have hcooled : MemCanonical cooled.mem := hsampled
  clear_value sampled cooled
  split
  · exact (Res.canonical_next _).2 hs
  split
  · exact (Res.canonical_next _).2 hsampled
  split
  · exact (Res.canonical_next _).2 hcooled
  split
  · exact (Res.canonical_next _).2 hcooled
  · exact (Res.canonical_next _).2 (State.finishBoot_canonical _ _ _ hcooled)

@[simp] theorem State.endCommands_mem (s : State) : s.endCommands.mem = s.mem := by simp [State.endCommands]

theorem execResetNAssert_canonical : KeepsMemory execResetNAssert := fun s hs => by
  unfold execResetNAssert
  extract_lets was _ low wiped ports
  have hlow : MemCanonical low.mem := hs
  have hwiped : MemCanonical wiped.mem :=
    foldl_canonical _ (fun s f hs => s.wipeFrame_canonical f hs) _ _ (by simpa using hlow)
  have hports : MemCanonical ports.mem := by simpa [ports] using hwiped
  clear_value ports
  split
  · exact (Res.canonical_next _).2 hlow
  · exact (Res.canonical_next _).2 hports

theorem execResetNDeassert_canonical (env : BootEnv) : KeepsMemory (execResetNDeassert env) := fun s hs => by
  unfold execResetNDeassert
  extract_lets was _ high
  have hhigh : MemCanonical high.mem := hs
  clear_value high
  split
  · exact (Res.canonical_next _).2 hhigh
  split
  · exact (Res.canonical_next _).2 (State.finishBoot_canonical _ _ _ hhigh)
  split
  · have chosen : MemCanonical high.chooseSlot.1.mem := by simpa using hhigh
    refine (Res.canonical_next _).2 ?_
    dsimp only
    split
    · exact State.finishBoot_canonical _ _ _ chosen
    · exact chosen
  split
  · exact (Res.canonical_next _).2 hhigh
  · have chosen : MemCanonical (if high.plumb.flash.try_.isSome then high.chooseSlot else (high, true)).1.mem := by
      split
      · simpa using hhigh
      · exact hhigh
    generalize (if high.plumb.flash.try_.isSome then high.chooseSlot else (high, true)) = r at chosen ⊢
    obtain ⟨t, ok⟩ := r
    dsimp only
    split
    · exact (Res.canonical_next _).2 chosen
    · exact (Res.canonical_next _).2 (State.bootAll_canonical _ _ _ _ (by simpa using chosen))

@[simp] theorem State.beginCoreReset_mem (s : State) (c : Nat) : (s.beginCoreReset c).mem = s.mem := by
  unfold State.beginCoreReset
  dsimp only
  split <;> simp

theorem execCoreReset_canonical (c : CoreId) : KeepsMemory (execCoreReset c) := fun s hs => by simp [execCoreReset, hs]

@[simp] theorem State.cmdFrameReset_canonical (s : State) (j : Job) (hs : MemCanonical s.mem) :
    MemCanonical (s.cmdFrameReset j).1.mem := by
  unfold State.cmdFrameReset
  extract_lets f st own hit replied _ kept _ wiped
  have hwiped : MemCanonical wiped.mem := by
    have hkept : MemCanonical kept.mem := by simpa [kept, replied] using hs
    rw [State.countAll_mem]
    exact State.wipeFrame_canonical _ f hkept
  clear_value wiped
  split
  · exact hs
  · exact State.unless_canonical _ hs (by simpa using hwiped)

@[simp] theorem State.finFrameReset_canonical (s : State) (j : Job) (fin : FinishIn) (hs : MemCanonical s.mem) :
    MemCanonical (s.finFrameReset j fin).1.mem := by
  unfold State.finFrameReset
  extract_lets f waits prepared released _ cleared
  have hprepared : MemCanonical prepared.mem := by simpa [prepared] using hs
  have hreleased : MemCanonical released.mem := State.releaseFrame_canonical _ f 3 [] (by simpa using hprepared)
  clear_value prepared released
  split
  · simpa using hprepared
  · simpa [cleared] using hreleased

@[simp] theorem State.cmdStudReset_mem (s : State) (j : Job) : (s.cmdStudReset j).1.mem = s.mem := by simp [State.cmdStudReset]

@[simp] theorem State.finStudReset_mem (s : State) (j : Job) (fin : FinishIn) : (s.finStudReset j fin).1.mem = s.mem := by
  simp [State.finStudReset]

@[simp] theorem State.studFails_mem (s : State) (n : Nat) : (s.studFails n).mem = s.mem := by simp [State.studFails]
@[simp] theorem State.fuseCore_mem (s : State) (c : Nat) : (s.fuseCore c).mem = s.mem := by simp [State.fuseCore]

@[simp] theorem State.finStudTest_mem (s : State) (n : Nat) (env : BootEnv) : (s.finStudTest n env).1.mem = s.mem := by
  simp [State.finStudTest]

@[simp] theorem State.finBayTest_mem (s : State) (b : Nat) (env : BootEnv) : (s.finBayTest b env).1.mem = s.mem := by
  unfold State.finBayTest
  dsimp only
  split <;> simp

@[simp] theorem State.finSelftest_mem (s : State) (j : Job) (fin : FinishIn) : (s.finSelftest j fin).1.mem = s.mem := by
  simp [State.finSelftest]

/-! ### Plumb takes commands -/

@[simp] theorem State.startOp_canonical (s : State) (j : Job) (hs : MemCanonical s.mem) : MemCanonical (s.startOp j).1.mem := by
  unfold State.startOp
  split <;> simp [hs]

@[simp] theorem State.finishOp_canonical (s : State) (j : Job) (fin : FinishIn) (hs : MemCanonical s.mem) :
    MemCanonical (s.finishOp j fin).1.mem := by
  unfold State.finishOp
  split <;> simp [hs]

@[simp] theorem State.dropped_canonical (s : State) (j : Job) (hs : MemCanonical s.mem) : MemCanonical (s.dropped j).mem := by
  unfold State.dropped
  split <;> simp [hs]

@[simp] theorem State.endJob_mem (s : State) (j : Job) (status detail : Nat) (payload : List Byte) :
    (s.endJob j status detail payload).mem = s.mem := by
  simp [State.endJob]

@[simp] theorem State.startJob_canonical (s : State) (j : Job) (waited : Bool) (hs : MemCanonical s.mem) :
    MemCanonical (s.startJob j waited).mem := by
  unfold State.startJob
  grind [State.endJob_mem, State.accepted_mem, State.startOp_canonical, State.markBusy_mem]

@[simp] theorem State.startWaiting_canonical (s : State) (n : Nat) (hs : MemCanonical s.mem) :
    MemCanonical (s.startWaiting n).mem := by
  induction n generalizing s with
  | zero => exact hs
  | succ m ih =>
    unfold State.startWaiting
    split
    · exact hs
    · exact ih _ (State.startJob_canonical _ _ _ hs)

@[simp] theorem State.closeJob_canonical (s : State) (j : Job) (status : Nat) (payload : List Byte) (hs : MemCanonical s.mem) :
    MemCanonical (s.closeJob j status payload).mem := by
  simp [State.closeJob, hs]

@[simp] theorem State.abortRun_canonical (s : State) (j : Job) (hs : MemCanonical s.mem) : MemCanonical (s.abortRun j).1.mem := by
  unfold State.abortRun
  split <;> simp [hs]

@[simp] theorem State.abortTag_canonical (s : State) (j : Job) (hs : MemCanonical s.mem) : MemCanonical (s.abortTag j).1.mem := by
  unfold State.abortTag
  dsimp only
  split <;> simp [hs]

@[simp] theorem State.takeCmd_canonical (s : State) (t : TInst) (op : Nat) (p : CmdPkt) (hs : MemCanonical s.mem) :
    MemCanonical (s.takeCmd t op p).mem := by
  unfold State.takeCmd
  repeat' split
  all_goals simp [hs]

theorem execGetInfo_canonical (t : TInst) (pkt : CmdPkt) : KeepsMemory (execGetInfo t pkt) := fun s hs => by simp [execGetInfo, hs]

theorem execGetStatus_canonical (t : TInst) (pkt : CmdPkt) : KeepsMemory (execGetStatus t pkt) := fun s hs => by
  simp [execGetStatus, hs]

theorem execAbort_canonical (t : TInst) (pkt : CmdPkt) : KeepsMemory (execAbort t pkt) := fun s hs => by simp [execAbort, hs]
theorem execEcho_canonical (t : TInst) (pkt : CmdPkt) : KeepsMemory (execEcho t pkt) := fun s hs => by simp [execEcho, hs]
theorem execSetMode_canonical (t : TInst) (pkt : CmdPkt) : KeepsMemory (execSetMode t pkt) := fun s hs => by simp [execSetMode, hs]
theorem execGetMode_canonical (t : TInst) (pkt : CmdPkt) : KeepsMemory (execGetMode t pkt) := fun s hs => by simp [execGetMode, hs]

theorem execFrameReset_canonical (t : TInst) (pkt : CmdPkt) : KeepsMemory (execFrameReset t pkt) := fun s hs => by
  simp [execFrameReset, hs]

theorem execStudReset_canonical (t : TInst) (pkt : CmdPkt) : KeepsMemory (execStudReset t pkt) := fun s hs => by
  simp [execStudReset, hs]

theorem execSetPowerCap_canonical (t : TInst) (pkt : CmdPkt) : KeepsMemory (execSetPowerCap t pkt) := fun s hs => by
  simp [execSetPowerCap, hs]

theorem execGetPower_canonical (t : TInst) (pkt : CmdPkt) : KeepsMemory (execGetPower t pkt) := fun s hs => by
  simp [execGetPower, hs]

theorem execSetDomainState_canonical (t : TInst) (pkt : CmdPkt) : KeepsMemory (execSetDomainState t pkt) := fun s hs => by
  simp [execSetDomainState, hs]

theorem execSetPerfPolicy_canonical (t : TInst) (pkt : CmdPkt) : KeepsMemory (execSetPerfPolicy t pkt) := fun s hs => by
  simp [execSetPerfPolicy, hs]

theorem execSetCooling_canonical (t : TInst) (pkt : CmdPkt) : KeepsMemory (execSetCooling t pkt) := fun s hs => by
  simp [execSetCooling, hs]

theorem execGetThermalModel_canonical (t : TInst) (pkt : CmdPkt) : KeepsMemory (execGetThermalModel t pkt) := fun s hs => by
  simp [execGetThermalModel, hs]

theorem execScrubRange_canonical (t : TInst) (pkt : CmdPkt) : KeepsMemory (execScrubRange t pkt) := fun s hs => by
  simp [execScrubRange, hs]

theorem execInjectError_canonical (t : TInst) (pkt : CmdPkt) : KeepsMemory (execInjectError t pkt) := fun s hs => by
  simp [execInjectError, hs]

theorem execCheckerSelftest_canonical (t : TInst) (pkt : CmdPkt) : KeepsMemory (execCheckerSelftest t pkt) := fun s hs => by
  simp [execCheckerSelftest, hs]

theorem execGetErrorLog_canonical (t : TInst) (pkt : CmdPkt) : KeepsMemory (execGetErrorLog t pkt) := fun s hs => by
  simp [execGetErrorLog, hs]

theorem execMemTrainSave_canonical (t : TInst) (pkt : CmdPkt) : KeepsMemory (execMemTrainSave t pkt) := fun s hs => by
  simp [execMemTrainSave, hs]

theorem execBayLockRange_canonical (t : TInst) (pkt : CmdPkt) : KeepsMemory (execBayLockRange t pkt) := fun s hs => by
  simp [execBayLockRange, hs]

theorem execBayUnlock_canonical (t : TInst) (pkt : CmdPkt) : KeepsMemory (execBayUnlock t pkt) := fun s hs => by
  simp [execBayUnlock, hs]

theorem execBenchConfig_canonical (t : TInst) (pkt : CmdPkt) : KeepsMemory (execBenchConfig t pkt) := fun s hs => by
  simp [execBenchConfig, hs]

theorem execBayFlushRange_canonical (t : TInst) (pkt : CmdPkt) : KeepsMemory (execBayFlushRange t pkt) := fun s hs => by
  simp [execBayFlushRange, hs]

theorem execBayInvalidate_canonical (t : TInst) (pkt : CmdPkt) : KeepsMemory (execBayInvalidate t pkt) := fun s hs => by
  simp [execBayInvalidate, hs]

theorem execScribeFreeze_canonical (t : TInst) (pkt : CmdPkt) : KeepsMemory (execScribeFreeze t pkt) := fun s hs => by
  simp [execScribeFreeze, hs]

theorem execScribeThaw_canonical (t : TInst) (pkt : CmdPkt) : KeepsMemory (execScribeThaw t pkt) := fun s hs => by
  simp [execScribeThaw, hs]

theorem execScribeRead_canonical (t : TInst) (pkt : CmdPkt) : KeepsMemory (execScribeRead t pkt) := fun s hs => by
  simp [execScribeRead, hs]

theorem execScribeClear_canonical (t : TInst) (pkt : CmdPkt) : KeepsMemory (execScribeClear t pkt) := fun s hs => by
  simp [execScribeClear, hs]

theorem execScribeFlush_canonical (t : TInst) (pkt : CmdPkt) : KeepsMemory (execScribeFlush t pkt) := fun s hs => by
  simp [execScribeFlush, hs]

theorem execLinkStatus_canonical (t : TInst) (pkt : CmdPkt) : KeepsMemory (execLinkStatus t pkt) := fun s hs => by
  simp [execLinkStatus, hs]

@[simp] theorem State.takeOp_canonical (s : State) (t : TInst) (op sub last : Nat) (p : CmdPkt) (hs : MemCanonical s.mem) :
    MemCanonical (s.takeOp t op sub last p).mem := by
  simp [State.takeOp, hs]

theorem execTenonMapReadOne_canonical (t : TInst) (pkt : CmdPkt) : KeepsMemory (execTenonMapReadOne t pkt) := fun s hs => by
  simp [execTenonMapReadOne, hs]

theorem execTenonMapReadAll_canonical (t : TInst) (pkt : CmdPkt) : KeepsMemory (execTenonMapReadAll t pkt) := fun s hs => by
  simp [execTenonMapReadAll, hs]

theorem execTenonMapClear_canonical (t : TInst) (pkt : CmdPkt) : KeepsMemory (execTenonMapClear t pkt) := fun s hs => by
  simp [execTenonMapClear, hs]

theorem execLinkRetrain_canonical (t : TInst) (pkt : CmdPkt) : KeepsMemory (execLinkRetrain t pkt) := fun s hs => by
  simp [execLinkRetrain, hs]

theorem execPortPersonality_canonical (t : TInst) (pkt : CmdPkt) : KeepsMemory (execPortPersonality t pkt) := fun s hs => by
  simp [execPortPersonality, hs]

theorem execRidgeExportWrite_canonical (t : TInst) (pkt : CmdPkt) : KeepsMemory (execRidgeExportWrite t pkt) := fun s hs => by
  simp [execRidgeExportWrite, hs]

theorem execRidgeExportClear_canonical (t : TInst) (pkt : CmdPkt) : KeepsMemory (execRidgeExportClear t pkt) := fun s hs => by
  simp [execRidgeExportClear, hs]

theorem execRidgeExportRead_canonical (t : TInst) (pkt : CmdPkt) : KeepsMemory (execRidgeExportRead t pkt) := fun s hs => by
  simp [execRidgeExportRead, hs]

theorem execRidgeExportClearAll_canonical (t : TInst) (pkt : CmdPkt) : KeepsMemory (execRidgeExportClearAll t pkt) := fun s hs => by
  simp [execRidgeExportClearAll, hs]

theorem execFwBegin_canonical (t : TInst) (pkt : CmdPkt) : KeepsMemory (execFwBegin t pkt) := fun s hs => by simp [execFwBegin, hs]
theorem execFwChunk_canonical (t : TInst) (pkt : CmdPkt) : KeepsMemory (execFwChunk t pkt) := fun s hs => by simp [execFwChunk, hs]

theorem execFwCommit_canonical (t : TInst) (pkt : CmdPkt) : KeepsMemory (execFwCommit t pkt) := fun s hs => by
  simp [execFwCommit, hs]

theorem execAttest_canonical (t : TInst) (pkt : CmdPkt) : KeepsMemory (execAttest t pkt) := fun s hs => by simp [execAttest, hs]

theorem execCommandCrcFailure_canonical (t : TInst) (opcode : Byte) (pkt : CmdPkt) :
    KeepsMemory (execCommandCrcFailure t opcode pkt) := fun s hs => by
  simp [execCommandCrcFailure, hs]

theorem execBadOpcode_canonical (t : TInst) (opcode : Byte) (pkt : CmdPkt) :
    KeepsMemory (execBadOpcode t opcode pkt) := fun s hs => by
  simp [execBadOpcode, hs]

@[simp] theorem State.packageOff_canonical (s : State) (j : Job) (fin : FinishIn) (hs : MemCanonical s.mem) :
    MemCanonical (s.packageOff j fin).mem := by
  unfold State.packageOff
  refine State.enterOff_canonical _ (foldl_canonical _ (fun s k hs => ?_) _ _ (by simpa using hs))
  dsimp only
  split <;> simp [hs]

theorem execCommandFinalReply_canonical (t : TInst) (tag : BitVec 8) (fin : FinishIn) :
    KeepsMemory (execCommandFinalReply t tag fin) := fun s hs => by
  unfold execCommandFinalReply
  split <;> simp [hs]

theorem execCommandTimeout_canonical (t : TInst) (tag : BitVec 8) : KeepsMemory (execCommandTimeout t tag) := fun s hs => by
  unfold execCommandTimeout
  split <;> simp [hs]

theorem execScribeFlushEnd_canonical (ok : Bool) : KeepsMemory (execScribeFlushEnd ok) := fun s hs => by
  unfold execScribeFlushEnd
  dsimp only
  repeat' split
  all_goals simp [hs]

theorem execTransportLost_canonical (t : TInst) : KeepsMemory (execTransportLost t) := fun s hs => by simp [execTransportLost, hs]

@[simp] theorem State.ringFetch_canonical (s : State) (f : Nat) (ok : Bool) (hs : MemCanonical s.mem) :
    MemCanonical (s.ringFetch f ok).mem := by
  unfold State.ringFetch
  dsimp only
  repeat' split
  all_goals simp [hs]

@[simp] theorem State.mailboxFetch_canonical (s : State) (p : Nat) (ok : Bool) (op : Nat) (pkt : CmdPkt) (hs : MemCanonical s.mem) :
    MemCanonical (s.mailboxFetch p ok op pkt).mem := by
  simp [State.mailboxFetch, hs]

theorem execRingSlotFetch_canonical (r : RingId) (ok : Bool) (opcode : Byte) (pkt : CmdPkt) :
    KeepsMemory (execRingSlotFetch r ok opcode pkt) := fun s hs => by
  unfold execRingSlotFetch
  split <;> simp [hs]

theorem execPlumbRestart_canonical : KeepsMemory execPlumbRestart := fun s hs => by
  unfold execPlumbRestart
  split
  · simpa using hs
  · refine (Res.canonical_next _).2 (foldl_canonical _ (fun s j hs => ?_) _ _ (by simpa using hs))
    split <;> simp [hs]

/-! ### The commands of coherence -/

theorem execRdS_canonical (h : Hdr) : KeepsMemory (execRdS h) := fun s hs => by simp [execRdS, hs]
theorem execRdU_canonical (h : Hdr) : KeepsMemory (execRdU h) := fun s hs => by simp [execRdU, hs]
theorem execUpg_canonical (h : Hdr) : KeepsMemory (execUpg h) := fun s hs => by simp [execUpg, hs]
theorem execRdNc_canonical (h : Hdr) : KeepsMemory (execRdNc h) := fun s hs => by simp [execRdNc, hs]
theorem execWrNc_canonical (h : Hdr) (full : Bool) : KeepsMemory (execWrNc h full) := fun s hs => by simp [execWrNc, hs]

theorem execAtomNc_canonical (h : Hdr) (op : AmoOp) (size off : Nat) : KeepsMemory (execAtomNc h op size off) := fun s hs => by
  simp [execAtomNc, hs]

theorem execWb_canonical (h : Hdr) : KeepsMemory (execWb h) := fun s hs => by simp [execWb, hs]
theorem execWbKeep_canonical (h : Hdr) : KeepsMemory (execWbKeep h) := fun s hs => by simp [execWbKeep, hs]
theorem execCboClean_canonical (h : Hdr) : KeepsMemory (execCboClean h) := fun s hs => by simp [execCboClean, hs]
theorem execCboFlush_canonical (h : Hdr) : KeepsMemory (execCboFlush h) := fun s hs => by simp [execCboFlush, hs]
theorem execCboInval_canonical (h : Hdr) : KeepsMemory (execCboInval h) := fun s hs => by simp [execCboInval, hs]
theorem execCboZero_canonical (h : Hdr) : KeepsMemory (execCboZero h) := fun s hs => by simp [execCboZero, hs]
theorem execLockFill_canonical (h : Hdr) : KeepsMemory (execLockFill h) := fun s hs => by simp [execLockFill, hs]

@[simp] theorem State.atTx_mem (s : State) (m : Msg) : (s.atTx m).1.mem = s.mem := by
  unfold State.atTx
  grind [State.arrive_mem]

@[simp] theorem State.correctDir_mem (s : State) (h i : Nat) (t : HTx) (m : Msg) : (s.correctDir h i t m).mem = s.mem := by
  unfold State.correctDir
  repeat' split
  all_goals simp

/-- An arriving message leaves memory, or reaches its transaction with memory left. -/
theorem State.atTx_cases (s : State) (m : Msg) :
    ∃ t r, s.atTx m = (t, r) ∧ t.mem = s.mem := ⟨_, _, rfl, s.atTx_mem m⟩

@[simp] theorem State.onResponse_canonical (s : State) (m : Msg) (hs : MemCanonical s.mem) : MemCanonical (s.onResponse m).mem := by
  obtain ⟨t, r, hat, ht⟩ := s.atTx_cases m
  have ht : MemCanonical t.mem := ht ▸ hs
  unfold State.onResponse
  rw [hat]
  split
  · next h => exact (Prod.mk.inj h).1 ▸ ht
  · next u n i x m h =>
    obtain rfl := (Prod.mk.inj h).1
    split
    · exact ht
    · refine State.homeRun_canonical _ _ ?_
      split
      · rw [State.correctDir_mem]
        simpa using ht
      · simpa using ht

theorem execRspInvAck_canonical (h : Hdr) : KeepsMemory (execRspInvAck h) := fun s hs => by simp [execRspInvAck, hs]
theorem execRspFwdDone_canonical (h : Hdr) : KeepsMemory (execRspFwdDone h) := fun s hs => by simp [execRspFwdDone, hs]
theorem execRspCleanDone_canonical (h : Hdr) : KeepsMemory (execRspCleanDone h) := fun s hs => by simp [execRspCleanDone, hs]
theorem execRspNotheld_canonical (h : Hdr) : KeepsMemory (execRspNotheld h) := fun s hs => by simp [execRspNotheld, hs]

theorem execWbCancel_canonical (h : Hdr) : KeepsMemory (execWbCancel h) := fun s hs => by
  obtain ⟨t, r, hat, ht⟩ := s.atTx_cases { op := .wbCancel, hdr := h }
  have ht : MemCanonical t.mem := ht ▸ hs
  rw [execWbCancel, hat]
  cases r with
  | none => exact (Res.canonical_next _).2 ht
  | some r =>
    dsimp only
    split
    · exact (Res.canonical_next _).2 (State.homeRun_canonical _ _ (by simpa using ht))
    · exact (Res.canonical_next _).2 ht

theorem execCompAck_canonical (h : Hdr) : KeepsMemory (execCompAck h) := fun s hs => by
  obtain ⟨t, r, hat, ht⟩ := s.atTx_cases { op := .compAck, hdr := h }
  have ht : MemCanonical t.mem := ht ▸ hs
  rw [execCompAck, hat]
  cases r with
  | none => exact (Res.canonical_next _).2 ht
  | some r =>
    dsimp only
    split
    · exact (Res.canonical_next _).2 (State.homeRun_canonical _ _ (by simpa using ht))
    split
    · exact (Res.canonical_next _).2 ht
    · exact (Res.canonical_next _).2 ht

theorem execSnpData_canonical (h : Hdr) (data : Line) : KeepsMemory (execSnpData h data) := fun s hs => by
  obtain ⟨t, r, hat, ht⟩ := s.atTx_cases { op := .snpData, hdr := h, data := data }
  have ht : MemCanonical t.mem := ht ▸ hs
  rw [execSnpData, hat]
  cases r with
  | none => exact (Res.canonical_next _).2 ht
  | some r => exact (Res.canonical_next _).2 (State.homeRun_canonical _ _ ht)

theorem execWbData_canonical (h : Hdr) (data : Line) : KeepsMemory (execWbData h data) := fun s hs => by
  obtain ⟨t, r, hat, ht⟩ := s.atTx_cases { op := .wbData, hdr := h, data := data }
  have ht : MemCanonical t.mem := ht ▸ hs
  rw [execWbData, hat]
  cases r with
  | none => exact (Res.canonical_next _).2 ht
  | some r =>
    dsimp only
    split
    · exact (Res.canonical_next _).2 (State.homeRun_canonical _ _ ht)
    · exact (Res.canonical_next _).2 ht

theorem execNcWdata_canonical (h : Hdr) (data : Line) (mask : BitVec 64) : KeepsMemory (execNcWdata h data mask) := fun s hs => by
  obtain ⟨t, r, hat, ht⟩ := s.atTx_cases { op := .ncWData, hdr := h, data := data, mask := mask }
  have ht : MemCanonical t.mem := ht ▸ hs
  rw [execNcWdata, hat]
  cases r with
  | none => exact (Res.canonical_next _).2 ht
  | some r =>
    dsimp only
    split
    · exact (Res.canonical_next _).2 ht
    split
    · split
      · exact (Res.canonical_next _).2 (State.homeRun_canonical _ _ (by simpa using ht))
      · exact (Res.canonical_next _).2 (State.homeRun_canonical _ _ ht)
    split
    · exact (Res.canonical_next _).2 (State.homeRun_canonical _ _ ht)
    · exact (Res.canonical_next _).2 ht

theorem execBayFillInstall_canonical (b : BayId) (bmr : Fin 512) : KeepsMemory (execBayFillInstall b bmr) := fun s hs => by
  have stay : Res.Canonical (.next s) := (Res.canonical_next _).2 hs
  unfold execBayFillInstall
  extract_lets h woken
  have hwoken : MemCanonical woken.mem := by simpa [woken] using hs
  clear_value woken
  split
  · exact stay
  split
  · exact stay
  split
  · exact stay
  · extract_lets give
    have given (t : State) (ht : MemCanonical t.mem) : Res.Canonical (.next (give t)) :=
      (Res.canonical_next _).2 (State.homeRun_canonical _ _ ht)
    clear_value give
    split
    · exact given _ hwoken
    split
    · next u hu => exact given _ (by rwa [State.bayAlloc_done_mem hu])
    · next u hu => exact given _ (by rwa [State.bayAlloc_skipped_mem hu])
    · exact (Res.canonical_next _).2 hwoken

theorem execCxlMemResponse_canonical (p : PortId) (line : Nat) (data : Line) (poison : Bool) :
    KeepsMemory (execCxlMemResponse p line data poison) := fun s hs => by
  unfold execCxlMemResponse
  extract_lets h b
  split
  · exact (Res.canonical_next _).2 hs
  · extract_lets b' t stored
    have ht : MemCanonical t.mem := hs
    have hstored : MemCanonical stored.mem := State.setMemLine_canonical _ _ _ _ ht
    clear_value stored t
    split
    · exact (Res.canonical_next _).2 (State.homeRun_canonical _ _ hstored)
    · exact (Res.canonical_next _).2 ht

theorem execUnknownMessageDiscard_canonical (dst : Nat) (src : BitVec 6) (_cls : BitVec 3) (opcode : BitVec 6) :
    KeepsMemory (execUnknownMessageDiscard dst src _cls opcode) := fun s hs => by
  simp [execUnknownMessageDiscard, hs]

theorem execSnoopTimeout_canonical (home : Nat) (n : StudId) : KeepsMemory (execSnoopTimeout home n) := fun s hs => by
  simp [execSnoopTimeout, hs]

theorem execFatalEvent_canonical (f : FrameId) (structure_ : BitVec 8) (inst : BitVec 8) :
    KeepsMemory (execFatalEvent f structure_ inst) := fun s hs => by
  simp [execFatalEvent, hs]

/-! ### Counters and timers -/

theorem execHpmCounterWrite_canonical (c : CoreId) (idx : Fin 32) (val : Word) :
    KeepsMemory (execHpmCounterWrite c idx val) := fun s hs => by
  unfold execHpmCounterWrite
  grind [State.serial_canonical, State.mem_setCore]

theorem execMhpmeventWrite_canonical (c : CoreId) (idx : Fin 32) (val : Word) :
    KeepsMemory (execMhpmeventWrite c idx val) := fun s hs => by
  unfold execMhpmeventWrite
  grind [State.serial_canonical, State.mem_setCore]

theorem execMcountinhibitWrite_canonical (c : CoreId) (val : Word) : KeepsMemory (execMcountinhibitWrite c val) := fun s hs => by
  unfold execMcountinhibitWrite
  grind [State.serial_canonical, State.mem_setCore]

theorem execCounterWrap_canonical (c : CoreId) (idx : Fin 32) : KeepsMemory (execCounterWrap c idx) := fun s hs => by
  simp [execCounterWrap, hs]

theorem execNotchctlWrite_canonical (c : CoreId) (lvl : Lvl) (val : Word) :
    KeepsMemory (execNotchctlWrite c lvl val) := fun s hs => by
  unfold execNotchctlWrite
  grind [State.serial_canonical, State.mem_setCore]

theorem execNotchRegisterWrite_canonical (c : CoreId) (lvl : Lvl) (reg : NotchReg) (val : Word) :
    KeepsMemory (execNotchRegisterWrite c lvl reg val) := fun s hs => by
  unfold execNotchRegisterWrite
  grind [State.serial_canonical, State.mem_setCore]

theorem execMnotchdelegWrite_canonical (c : CoreId) (val : Word) : KeepsMemory (execMnotchdelegWrite c val) := fun s hs => by
  unfold execMnotchdelegWrite
  grind [State.serial_canonical, State.mem_setCore]

theorem execNotchTag_canonical (c : CoreId) : KeepsMemory (execNotchTag c) := fun s hs => by simp [execNotchTag, hs]
@[simp] theorem State.notchDone_mem (s : State) (c : Nat) (r : NotchIn) : (s.notchDone c r).mem = s.mem := by simp [State.notchDone]

theorem execNotchWrite_canonical (c : CoreId) (rec : NotchIn) : KeepsMemory (execNotchWrite c rec) := fun s hs => by
  simp [execNotchWrite, hs]

theorem execMtimeTick_canonical : KeepsMemory execMtimeTick := fun s hs => by simp [execMtimeTick, hs]

theorem execMtimeWrite_canonical (f : FrameId) (val : Word) : KeepsMemory (execMtimeWrite f val) := fun s hs => by
  simp [execMtimeWrite, hs]

theorem execMtimecmpWrite_canonical (f : FrameId) (h : BitVec 9) (val : Word) :
    KeepsMemory (execMtimecmpWrite f h val) := fun s hs => by
  simp [execMtimecmpWrite, hs]

theorem execMsiWrite_canonical (f : FrameId) (h : BitVec 12) (file : IntFile) (id : BitVec 32) :
    KeepsMemory (execMsiWrite f h file id) := fun s hs => by
  simp [execMsiWrite, hs]

/-! ### Ends of uncached accesses -/

@[simp] theorem State.ncNext_canonical (s : State) (o : NcOwner) (hs : MemCanonical s.mem) : MemCanonical (s.ncNext o).mem := by
  unfold State.ncNext
  split
  · exact hs
  · split <;> simp [hs]

@[simp] theorem State.toOwner_canonical (s : State) (m : Msg) (hs : MemCanonical s.mem) : MemCanonical (s.toOwner m).mem := by
  unfold State.toOwner
  split <;> simp [hs]

theorem execNcRdata_canonical (h : Hdr) (data : Line) : KeepsMemory (execNcRdata h data) := fun s hs => by simp [execNcRdata, hs]
theorem execGoDone_canonical (h : Hdr) : KeepsMemory (execGoDone h) := fun s hs => by simp [execGoDone, hs]
theorem execWrPull_canonical (h : Hdr) : KeepsMemory (execWrPull h) := fun s hs => by simp [execWrPull, hs]
theorem execErr_canonical (h : Hdr) : KeepsMemory (execErr h) := fun s hs => by simp [execErr, hs]

/-! ### CSR reads counted -/

@[simp] theorem State.csrCounted_mem (s : State) (c n : Nat) : (s.csrCounted c n).mem = s.mem := by simp [State.csrCounted]

/-! ### CSR writes -/

@[simp] theorem State.iregWrite_mem (s : State) (c n : Nat) (v : Word) : (s.iregWrite c n v).mem = s.mem := by
  unfold State.iregWrite
  dsimp only
  split <;> simp

@[simp] theorem State.topeiWrite_mem (s : State) (c n : Nat) : (s.topeiWrite c n).mem = s.mem := by
  unfold State.topeiWrite
  dsimp only
  split <;> simp

theorem State.csrView_mem {s : State} {c n : Nat} {v : Word} {s' : State} (he : s.csrView c n v = some s') : s'.mem = s.mem := by
  unfold State.csrView at he
  grind [State.iregWrite_mem, State.mem_setCore, State.topeiWrite_mem]

@[simp] theorem State.csrPut_mem (s : State) (c n : Nat) (v : Word) : (s.csrPut c n v).mem = s.mem := by
  unfold State.csrPut
  grind [State.csrView_mem, State.mem_setCore]

theorem State.stlbcmdPut_canonical (s : State) (c : Nat) (id : CoreId) (v : Word) (hs : MemCanonical s.mem) :
    (s.stlbcmdPut c id v).Canonical := by
  unfold State.stlbcmdPut
  grind [KeepsMemory, execStlbcmdInvalVa_canonical, State.serial_canonical, execStlbcmdInvalAll_canonical, execStlbcmdWrite_canonical,
    State.mem_setCore, execStlbcmdInvalAsid_canonical, execStlbcmdProbe_canonical, execStlbcmdRead_canonical]

theorem State.csrWrite_canonical (s : State) (id : CoreId) (num : Nat) (v : Word) (hs : MemCanonical s.mem) :
    (s.csrWrite id num v).Canonical := by
  unfold State.csrWrite
  dsimp only
  split
  · exact execSatpWrite_canonical _ _ _ _ hs
  split
  · exact execMclkselWrite_canonical _ _ _ hs
  · exact execMcorectlWrite_canonical _ _ _ hs
  · exact execPoisoninfoWrite_canonical _ _ _ _ hs
  · exact execPoisoninfoWrite_canonical _ _ _ _ hs
  · exact execWalkinfoWrite_canonical _ _ _ _ hs
  · exact execWalkinfoWrite_canonical _ _ _ _ hs
  · exact execMshimctlWrite_canonical _ _ _ hs
  · exact State.stlbcmdPut_canonical _ _ _ _ hs
  · exact execSatpWrite_canonical _ _ _ _ hs
  · exact execSatpWrite_canonical _ _ _ _ hs
  · exact execMcountinhibitWrite_canonical _ _ _ hs
  · exact execMnotchdelegWrite_canonical _ _ _ hs
  · exact execNotchctlWrite_canonical _ _ _ _ hs
  · exact execNotchctlWrite_canonical _ _ _ _ hs
  split
  · exact execMhpmeventWrite_canonical _ _ _ _ hs
  split
  · exact execHpmCounterWrite_canonical _ _ _ _ hs
  split
  · exact execNotchRegisterWrite_canonical _ _ _ _ _ hs
  split
  · exact execNotchRegisterWrite_canonical _ _ _ _ _ hs
  · exact State.serial_canonical _ _ _ _ hs (by simpa using hs)

theorem State.csrAccess_canonical (s : State) (id : CoreId) (num : Nat) (rd : Fin 32) (wr : Bool) (v : Word)
    (hs : MemCanonical s.mem) : (s.csrAccess id num rd wr v).Canonical := by
  unfold State.csrAccess
  extract_lets c k ident legal deliver runs t
  have counted : MemCanonical t.mem := by
    unfold t
    split
    · simpa using hs
    · exact hs
  clear_value t
  split
  · exact State.serial_canonical _ _ _ _ counted counted
  split
  · exact State.serial_canonical _ _ _ _ counted counted
  split
  · split
    · simpa using counted
    · have written := t.csrWrite_canonical id num v counted
      split
      · next u hu =>
        rw [hu, Res.canonical_next] at written
        simpa [deliver] using written
      · exact written
  · exact State.serial_canonical _ _ _ _ counted (by simpa [deliver] using counted)

/-! ### Accesses of the register windows -/

@[simp] theorem State.windowPut_mem (s : State) (ap : AccessPort) (w : Win) (off : Nat) (part : Part) (v : Word) :
    (s.windowPut ap w off part v).mem = s.mem := by
  simp [State.windowPut]

theorem execSelWrite_canonical (ap : AccessPort) (w : Win) (part : Part) (val : Word) :
    KeepsMemory (execSelWrite ap w part val) := fun s hs => by
  simp [execSelWrite, hs]

theorem execNqPop_canonical (ap : AccessPort) (part : Part) : KeepsMemory (execNqPop ap part) := fun s hs => by simp [execNqPop, hs]

theorem execNqPopTimeout_canonical (q : NqId) : KeepsMemory (execNqPopTimeout q) := fun s hs => by
  unfold execNqPopTimeout
  dsimp only
  repeat' split
  all_goals simp [hs]

theorem execNqLevelWrite_canonical (q : NqId) (val : Word) : KeepsMemory (execNqLevelWrite q val) := fun s hs => by
  unfold execNqLevelWrite
  split <;> simp [hs]

theorem execCmdqCmdTailWrite_canonical (ap : AccessPort) (part : Part) (val : Word) :
    KeepsMemory (execCmdqCmdTailWrite ap part val) := fun s hs => by
  simp [execCmdqCmdTailWrite, hs]

theorem execCmdqRplHeadWrite_canonical (ap : AccessPort) (part : Part) (val : Word) :
    KeepsMemory (execCmdqRplHeadWrite ap part val) := fun s hs => by
  simp [execCmdqRplHeadWrite, hs]

theorem execCmdqCfgWrite_canonical (ap : AccessPort) (part : Part) (val : Word) :
    KeepsMemory (execCmdqCfgWrite ap part val) := fun s hs => by
  simp [execCmdqCfgWrite, hs]

theorem execBayCtlWrite_canonical (ap : AccessPort) (part : Part) (val : Word) :
    KeepsMemory (execBayCtlWrite ap part val) := fun s hs => by
  simp [execBayCtlWrite, hs]

theorem execTenonThreshWrite_canonical (ap : AccessPort) (part : Part) (val : Word) :
    KeepsMemory (execTenonThreshWrite ap part val) := fun s hs => by
  simp [execTenonThreshWrite, hs]

theorem execUpmuCtlWrite_canonical (ap : AccessPort) (k : Fin 4) (part : Part) (val : Word) :
    KeepsMemory (execUpmuCtlWrite ap k part val) := fun s hs => by
  simp [execUpmuCtlWrite, hs]

theorem execUpmuCntWrite_canonical (ap : AccessPort) (k : Fin 4) (part : Part) (val : Word) :
    KeepsMemory (execUpmuCntWrite ap k part val) := fun s hs => by
  simp [execUpmuCntWrite, hs]

theorem execUpmuCounterWrap_canonical (inst : Nat) (k : Fin 4) : KeepsMemory (execUpmuCounterWrap inst k) := fun s hs => by
  simp [execUpmuCounterWrap, hs]

theorem execCbqriOperation_canonical (ap : AccessPort) (alloc : Bool) (val : Word) :
    KeepsMemory (execCbqriOperation ap alloc val) := fun s hs => by
  simp [execCbqriOperation, hs]

@[simp] theorem State.portAccess_mem (s : State) (dbg wr : Bool) (off size : Nat) (v : Word) :
    (s.portAccess dbg wr off size v).mem = s.mem := by
  unfold State.portAccess
  repeat' split
  all_goals simp

theorem execRegisterWrite_canonical (tgt : RegTarget) (val : Word) : KeepsMemory (execRegisterWrite tgt val) := fun s hs => by
  unfold execRegisterWrite
  cases tgt with
  | win ap w off part => simp only; split <;> simp [hs]
  | csr c num rd wr => exact State.csrAccess_canonical _ _ _ _ _ _ hs
  | port dbg wr off size => simp [hs]

/-! ### Every command, and the step -/

/-- Every instruction keeps memory canonical. -/
theorem exec_canonical (i : Instr) (s : State) (hs : MemCanonical s.mem) : Res.Canonical (exec i s) := by
  cases i with
  | load => exact execLoad_canonical _ _ _ _ _ _ _ _ hs
  | store => exact execStore_canonical _ _ _ _ _ _ hs
  | storeQueueDrain => exact execStoreQueueDrain_canonical _ _ hs
  | amo => exact execAmo_canonical _ _ _ _ _ _ _ _ _ _ hs
  | lr => exact execLr_canonical _ _ _ _ _ _ _ hs
  | sc => exact execSc_canonical _ _ _ _ _ _ _ _ hs
  | lrHoldExpiry => exact execLrHoldExpiry_canonical _ _ hs
  | fence => exact execFence_canonical _ _ _ _ hs
  | fenceI => exact execFenceI_canonical _ _ hs
  | wfi => exact execWfi_canonical _ _ hs
  | wrsNto => exact execWrsNto_canonical _ _ hs
  | wrsSto => exact execWrsSto_canonical _ _ hs
  | wrsStoTimeout => exact execWrsStoTimeout_canonical _ _ hs
  | cboCleanInsn => exact execCboCleanInsn_canonical _ _ _ hs
  | cboFlushInsn => exact execCboFlushInsn_canonical _ _ _ hs
  | cboInvalInsn => exact execCboInvalInsn_canonical _ _ _ hs
  | cboZeroInsn => exact execCboZeroInsn_canonical _ _ _ hs
  | prefetchHint => exact execPrefetchHint_canonical _ _ _ _ hs
  | ntlHint => exact execNtlHint_canonical _ _ _ hs
  | poisonConsumption => exact execPoisonConsumption_canonical _ _ hs
  | hewnMissTrap => exact execHewnMissTrap_canonical _ _ hs
  | sfenceVma => exact execSfenceVma_canonical _ _ _ _ hs
  | hfenceVvma => exact execHfenceVvma_canonical _ _ _ _ hs
  | hfenceGvma => exact execHfenceGvma_canonical _ _ _ _ hs
  | sinvalVma => exact execSinvalVma_canonical _ _ _ _ hs
  | hinvalVvma => exact execHinvalVvma_canonical _ _ _ _ hs
  | hinvalGvma => exact execHinvalGvma_canonical _ _ _ _ hs
  | sfenceWInval => exact execSfenceWInval_canonical _ _ hs
  | sfenceInvalIr => exact execSfenceInvalIr_canonical _ _ hs
  | satpWrite => exact execSatpWrite_canonical _ _ _ _ hs
  | envcfgCbieWrite => exact execEnvcfgCbieWrite_canonical _ _ _ _ hs
  | mclkselWrite => exact execMclkselWrite_canonical _ _ _ hs
  | clockSwitchDone => exact execClockSwitchDone_canonical _ _ hs
  | pllLock => exact execPllLock_canonical _ _ hs
  | mcorectlWrite => exact execMcorectlWrite_canonical _ _ _ hs
  | poisoninfoWrite => exact execPoisoninfoWrite_canonical _ _ _ _ hs
  | walkinfoWrite => exact execWalkinfoWrite_canonical _ _ _ _ hs
  | mshimctlWrite => exact execMshimctlWrite_canonical _ _ _ hs
  | stlbcmdWrite => exact execStlbcmdWrite_canonical _ _ _ hs
  | stlbcmdProbe => exact execStlbcmdProbe_canonical _ _ hs
  | stlbcmdRead => exact execStlbcmdRead_canonical _ _ _ hs
  | stlbcmdInvalVa => exact execStlbcmdInvalVa_canonical _ _ _ hs
  | stlbcmdInvalAsid => exact execStlbcmdInvalAsid_canonical _ _ _ hs
  | stlbcmdInvalAll => exact execStlbcmdInvalAll_canonical _ _ _ hs
  | walkRequest => exact execWalkRequest_canonical _ _ _ _ _ _ hs
  | pteReadReturn => exact execPteReadReturn_canonical _ _ _ _ hs
  | headWalkRequest => exact execHeadWalkRequest_canonical _ _ hs
  | hpmCounterWrite => exact execHpmCounterWrite_canonical _ _ _ _ hs
  | mhpmeventWrite => exact execMhpmeventWrite_canonical _ _ _ _ hs
  | mcountinhibitWrite => exact execMcountinhibitWrite_canonical _ _ _ hs
  | counterWrap => exact execCounterWrap_canonical _ _ _ hs
  | notchctlWrite => exact execNotchctlWrite_canonical _ _ _ _ hs
  | notchRegisterWrite => exact execNotchRegisterWrite_canonical _ _ _ _ _ hs
  | mnotchdelegWrite => exact execMnotchdelegWrite_canonical _ _ _ hs
  | notchTag => exact execNotchTag_canonical _ _ hs
  | notchWrite => exact execNotchWrite_canonical _ _ _ hs
  | mtimeTick => exact execMtimeTick_canonical _ hs
  | mtimeWrite => exact execMtimeWrite_canonical _ _ _ hs
  | mtimecmpWrite => exact execMtimecmpWrite_canonical _ _ _ _ hs
  | msiWrite => exact execMsiWrite_canonical _ _ _ _ _ hs
  | debugHaltRequest => exact execDebugHaltRequest_canonical _ _ hs
  | rdS => exact execRdS_canonical _ _ hs
  | rdU => exact execRdU_canonical _ _ hs
  | upg => exact execUpg_canonical _ _ hs
  | rdNc => exact execRdNc_canonical _ _ hs
  | wrNc => exact execWrNc_canonical _ _ _ hs
  | atomNc => exact execAtomNc_canonical _ _ _ _ _ hs
  | wb => exact execWb_canonical _ _ hs
  | wbKeep => exact execWbKeep_canonical _ _ hs
  | cboClean => exact execCboClean_canonical _ _ hs
  | cboFlush => exact execCboFlush_canonical _ _ hs
  | cboInval => exact execCboInval_canonical _ _ hs
  | cboZero => exact execCboZero_canonical _ _ hs
  | lockFill => exact execLockFill_canonical _ _ hs
  | snpFwdS => exact execSnpFwdS_canonical _ _ hs
  | snpFwdU => exact execSnpFwdU_canonical _ _ hs
  | snpInv => exact execSnpInv_canonical _ _ hs
  | snpClean => exact execSnpClean_canonical _ _ hs
  | snpFlush => exact execSnpFlush_canonical _ _ hs
  | snpDrop => exact execSnpDrop_canonical _ _ hs
  | rspInvAck => exact execRspInvAck_canonical _ _ hs
  | rspFwdDone => exact execRspFwdDone_canonical _ _ hs
  | rspCleanDone => exact execRspCleanDone_canonical _ _ hs
  | rspNotheld => exact execRspNotheld_canonical _ _ hs
  | wbCancel => exact execWbCancel_canonical _ _ hs
  | compAck => exact execCompAck_canonical _ _ hs
  | goU => exact execGoU_canonical _ _ hs
  | goDone => exact execGoDone_canonical _ _ hs
  | wbPull => exact execWbPull_canonical _ _ hs
  | wbStale => exact execWbStale_canonical _ _ hs
  | wrPull => exact execWrPull_canonical _ _ hs
  | err => exact execErr_canonical _ _ hs
  | dataS => exact execDataS_canonical _ _ _ hs
  | dataF => exact execDataF_canonical _ _ _ hs
  | dataE => exact execDataE_canonical _ _ _ hs
  | dataM => exact execDataM_canonical _ _ _ hs
  | snpData => exact execSnpData_canonical _ _ _ hs
  | wbData => exact execWbData_canonical _ _ _ hs
  | ncRdata => exact execNcRdata_canonical _ _ _ hs
  | ncWdata => exact execNcWdata_canonical _ _ _ _ hs
  | mgmt => exact execMgmt_canonical _ _ hs
  | domainDown => exact execDomainDown_canonical _ _ hs
  | unknownMessageDiscard dst src cls opcode => exact execUnknownMessageDiscard_canonical dst src cls opcode s hs
  | bayFillInstall => exact execBayFillInstall_canonical _ _ _ hs
  | snoopTimeout => exact execSnoopTimeout_canonical _ _ _ hs
  | fatalEvent => exact execFatalEvent_canonical _ _ _ _ hs
  | tenonFlitReceived => exact execTenonFlitReceived_canonical _ _ _ hs
  | tenonParityError => exact execTenonParityError_canonical _ _ _ _ _ _ hs
  | nak n d seq g cnt => exact execNak_canonical n d seq g cnt s hs
  | nakResendTimeout => exact execNakResendTimeout_canonical _ _ _ hs
  | credit => exact execCredit_canonical _ _ _ _ _ _ _ _ hs
  | steerReq => exact execSteerReq_canonical _ _ _ _ _ _ hs
  | steerAck => exact execSteerAck_canonical _ _ _ _ _ _ _ hs
  | steerReqResend => exact execSteerReqResend_canonical _ _ _ hs
  | retireReq => exact execRetireReq_canonical _ _ _ _ _ hs
  | retireAck => exact execRetireAck_canonical _ _ _ _ _ hs
  | rotReq => exact execRotReq_canonical _ _ _ _ hs
  | rotAck => exact execRotAck_canonical _ _ _ _ _ hs
  | layoutSwitch => exact execLayoutSwitch_canonical _ _ _ hs
  | clockLockLoss => exact execClockLockLoss_canonical _ _ _ _ hs
  | leakPeriod => exact execLeakPeriod_canonical _ _ _ hs
  | rotationPeriod => exact execRotationPeriod_canonical _ _ _ hs
  | rotationTestEnd => exact execRotationTestEnd_canonical _ _ _ _ hs
  | sidebandCopyFailure => exact execSidebandCopyFailure_canonical _ _ _ _ hs
  | park => exact execPark_canonical _ _ hs
  | wake => exact execWake_canonical _ _ hs
  | readQueued => exact execReadQueued_canonical _ _ _ _ hs
  | writeQueued => exact execWriteQueued_canonical _ _ _ _ hs
  | readDataReturn => exact execReadDataReturn_canonical _ _ _ _ hs
  | writeBurstDone => exact execWriteBurstDone_canonical _ _ _ hs
  | refreshDue => exact execRefreshDue_canonical _ _ _ hs
  | mr4Read => exact execMr4Read_canonical _ _ _ _ hs
  | moduleSensorRead => exact execModuleSensorRead_canonical _ _ _ _ hs
  | actSelection => exact execActSelection_canonical _ _ _ _ _ hs
  | powerDownEntry => exact execPowerDownEntry_canonical _ _ _ hs
  | selfRefreshEntry => exact execSelfRefreshEntry_canonical _ _ _ hs
  | pageIdleClose => exact execPageIdleClose_canonical _ _ _ _ hs
  | driftTrack => exact execDriftTrack_canonical _ _ hs
  | deviceCountLeak => exact execDeviceCountLeak_canonical _ _ hs
  | patrolRead => exact execPatrolRead_canonical _ _ _ hs
  | bayPatrolStep => exact execBayPatrolStep_canonical _ _ _ hs
  | clearRegion => exact execClearRegion_canonical _ _ _ hs
  | clearDone => exact execClearDone_canonical _ _ hs
  | bandwidthWindow => exact execBandwidthWindow_canonical _ _ hs
  | channelTrainingDone => exact execChannelTrainingDone_canonical _ _ _ hs
  | purlinFlitReceived => exact execPurlinFlitReceived_canonical _ _ _ _ _ hs
  | purlinFlitError => exact execPurlinFlitError_canonical _ _ hs
  | purlinNak => exact execPurlinNak_canonical _ _ _ hs
  | fastRetrain => exact execFastRetrain_canonical _ _ _ hs
  | purlinLinkLost => exact execPurlinLinkLost_canonical _ _ hs
  | identityUnit => exact execIdentityUnit_canonical _ _ _ hs
  | join => exact execJoin_canonical _ _ hs
  | joinDeadline => exact execJoinDeadline_canonical _ _ hs
  | timeExchange => exact execTimeExchange_canonical _ _ hs
  | ridgeRead => exact execRidgeRead_canonical _ _ _ hs
  | ridgeWrite => exact execRidgeWrite_canonical _ _ _ hs
  | writePosted => exact execWritePosted_canonical _ _ _ hs
  | ridgeAtomic => exact execRidgeAtomic_canonical _ _ _ hs
  | ridgeFence => exact execRidgeFence_canonical _ _ _ hs
  | resp => exact execResp_canonical _ _ _ hs
  | linkAck => exact execLinkAck_canonical _ _ _ _ _ _ _ hs
  | linkIdent => exact execLinkIdent_canonical _ _ _ _ _ _ _ _ hs
  | nodeAssign => exact execNodeAssign_canonical _ _ _ hs
  | nodeConfirm p id refused => exact execNodeConfirm_canonical p id refused s hs
  | ridgeCodewordError => exact execRidgeCodewordError_canonical _ _ _ hs
  | ridgeRequestTimeout => exact execRidgeRequestTimeout_canonical _ _ _ hs
  | ridgeTagQuarantineEnd => exact execRidgeTagQuarantineEnd_canonical _ _ _ hs
  | inboundRequest => exact execInboundRequest_canonical _ _ _ hs
  | intxMessage => exact execIntxMessage_canonical _ _ _ _ _ hs
  | completion => exact execCompletion_canonical _ _ _ _ _ _ _ hs
  | completionTimeout => exact execCompletionTimeout_canonical _ _ _ _ hs
  | pcieTagQuarantineEnd => exact execPcieTagQuarantineEnd_canonical _ _ _ _ hs
  | dpcTrigger => exact execDpcTrigger_canonical _ _ _ hs
  | portLinkEvent => exact execPortLinkEvent_canonical _ _ _ _ hs
  | cxlLinkDown => exact execCxlLinkDown_canonical _ _ _ hs
  | linkPowerIdle => exact execLinkPowerIdle_canonical _ _ _ _ hs
  | dtCmdTailWrite => exact execDtCmdTailWrite_canonical _ _ _ hs
  | ringSlotFetch => exact execRingSlotFetch_canonical _ _ _ _ _ hs
  | dtRplHeadWrite => exact execDtRplHeadWrite_canonical _ _ _ hs
  | dtRingCfgWrite => exact execDtRingCfgWrite_canonical _ _ _ hs
  | dtNqPop => exact execDtNqPop_canonical _ _ _ hs
  | dtWinCommit => exact execDtWinCommit_canonical _ _ _ hs
  | barResize => exact execBarResize_canonical _ _ _ hs
  | recoveryWindowAccess => exact execRecoveryWindowAccess_canonical _ _ _ hs
  | fundamentalReset => exact execFundamentalReset_canonical _ _ hs
  | hotReset => exact execHotReset_canonical _ _ hs
  | functionLevelReset => exact execFunctionLevelReset_canonical _ _ hs
  | getInfo => exact execGetInfo_canonical _ _ _ hs
  | getStatus => exact execGetStatus_canonical _ _ _ hs
  | abort => exact execAbort_canonical _ _ _ hs
  | echo => exact execEcho_canonical _ _ _ hs
  | setMode => exact execSetMode_canonical _ _ _ hs
  | getMode => exact execGetMode_canonical _ _ _ hs
  | frameReset => exact execFrameReset_canonical _ _ _ hs
  | studReset => exact execStudReset_canonical _ _ _ hs
  | setPowerCap => exact execSetPowerCap_canonical _ _ _ hs
  | getPower => exact execGetPower_canonical _ _ _ hs
  | setDomainState => exact execSetDomainState_canonical _ _ _ hs
  | setPerfPolicy => exact execSetPerfPolicy_canonical _ _ _ hs
  | setCooling => exact execSetCooling_canonical _ _ _ hs
  | getThermalModel => exact execGetThermalModel_canonical _ _ _ hs
  | scrubRange => exact execScrubRange_canonical _ _ _ hs
  | injectError => exact execInjectError_canonical _ _ _ hs
  | checkerSelftest => exact execCheckerSelftest_canonical _ _ _ hs
  | getErrorLog => exact execGetErrorLog_canonical _ _ _ hs
  | memTrainSave => exact execMemTrainSave_canonical _ _ _ hs
  | bayLockRange => exact execBayLockRange_canonical _ _ _ hs
  | bayUnlock => exact execBayUnlock_canonical _ _ _ hs
  | benchConfig => exact execBenchConfig_canonical _ _ _ hs
  | bayFlushRange => exact execBayFlushRange_canonical _ _ _ hs
  | bayInvalidate => exact execBayInvalidate_canonical _ _ _ hs
  | scribeFreeze => exact execScribeFreeze_canonical _ _ _ hs
  | scribeThaw => exact execScribeThaw_canonical _ _ _ hs
  | scribeRead => exact execScribeRead_canonical _ _ _ hs
  | scribeClear => exact execScribeClear_canonical _ _ _ hs
  | scribeFlush => exact execScribeFlush_canonical _ _ _ hs
  | linkStatus => exact execLinkStatus_canonical _ _ _ hs
  | tenonMapReadOne => exact execTenonMapReadOne_canonical _ _ _ hs
  | tenonMapReadAll => exact execTenonMapReadAll_canonical _ _ _ hs
  | tenonMapClear => exact execTenonMapClear_canonical _ _ _ hs
  | linkRetrain => exact execLinkRetrain_canonical _ _ _ hs
  | portPersonality => exact execPortPersonality_canonical _ _ _ hs
  | ridgeExportWrite => exact execRidgeExportWrite_canonical _ _ _ hs
  | ridgeExportClear => exact execRidgeExportClear_canonical _ _ _ hs
  | ridgeExportRead => exact execRidgeExportRead_canonical _ _ _ hs
  | ridgeExportClearAll => exact execRidgeExportClearAll_canonical _ _ _ hs
  | fwBegin => exact execFwBegin_canonical _ _ _ hs
  | fwChunk => exact execFwChunk_canonical _ _ _ hs
  | fwCommit => exact execFwCommit_canonical _ _ _ hs
  | fwSessionTimeout => exact execFwSessionTimeout_canonical _ hs
  | attest => exact execAttest_canonical _ _ _ hs
  | commandFinalReply => exact execCommandFinalReply_canonical _ _ _ _ hs
  | commandTimeout => exact execCommandTimeout_canonical _ _ _ hs
  | commandCrcFailure => exact execCommandCrcFailure_canonical _ _ _ _ hs
  | badOpcode => exact execBadOpcode_canonical _ _ _ _ hs
  | transportLost => exact execTransportLost_canonical _ _ hs
  | entdaa => exact execEntdaa_canonical _ _ hs
  | setEndpointId => exact execSetEndpointId_canonical _ _ hs
  | getEndpointId => exact execGetEndpointId_canonical _ hs
  | getEndpointUuid => exact execGetEndpointUuid_canonical _ hs
  | getMctpVersionSupport => exact execGetMctpVersionSupport_canonical _ hs
  | getMessageTypeSupport => exact execGetMessageTypeSupport_canonical _ hs
  | getVendorDefinedMessageSupport => exact execGetVendorDefinedMessageSupport_canonical _ hs
  | getVersion => exact execGetVersion_canonical _ _ _ hs
  | getCapabilities => exact execGetCapabilities_canonical _ _ _ hs
  | negotiateAlgorithms => exact execNegotiateAlgorithms_canonical _ _ _ _ _ hs
  | getDigests => exact execGetDigests_canonical _ _ _ hs
  | getCertificate => exact execGetCertificate_canonical _ _ _ _ _ _ hs
  | challenge t version slot nonce => exact execChallenge_canonical t version slot nonce s hs
  | getMeasurements t version index sign nonce => exact execGetMeasurements_canonical t version index sign nonce s hs
  | spdmUnsupportedRequest t version code => exact execSpdmUnsupportedRequest_canonical t version code s hs
  | selWrite => exact execSelWrite_canonical _ _ _ _ _ hs
  | nqPop => exact execNqPop_canonical _ _ _ hs
  | nqPopTimeout => exact execNqPopTimeout_canonical _ _ hs
  | nqLevelWrite => exact execNqLevelWrite_canonical _ _ _ hs
  | cmdqCmdTailWrite => exact execCmdqCmdTailWrite_canonical _ _ _ _ hs
  | cmdqRplHeadWrite => exact execCmdqRplHeadWrite_canonical _ _ _ _ hs
  | cmdqCfgWrite => exact execCmdqCfgWrite_canonical _ _ _ _ hs
  | bayCtlWrite => exact execBayCtlWrite_canonical _ _ _ _ hs
  | tenonThreshWrite => exact execTenonThreshWrite_canonical _ _ _ _ hs
  | upmuCtlWrite => exact execUpmuCtlWrite_canonical _ _ _ _ _ hs
  | upmuCntWrite => exact execUpmuCntWrite_canonical _ _ _ _ _ hs
  | upmuCounterWrap => exact execUpmuCounterWrap_canonical _ _ _ hs
  | cbqriOperation => exact execCbqriOperation_canonical _ _ _ _ hs
  | registerWrite => exact execRegisterWrite_canonical _ _ _ hs
  | vinSample => exact execVinSample_canonical _ _ _ hs
  | inputCurrentLimit => exact execInputCurrentLimit_canonical _ _ _ _ hs
  | stretchCapRestore => exact execStretchCapRestore_canonical _ hs
  | pwrfailNAssert => exact execPwrfailNAssert_canonical _ hs
  | pwrfailNRelease => exact execPwrfailNRelease_canonical _ hs
  | throttleNAssert => exact execThrottleNAssert_canonical _ hs
  | throttleNRelease => exact execThrottleNRelease_canonical _ hs
  | controlPeriod => exact execControlPeriod_canonical _ _ hs
  | studRaiseStep => exact execStudRaiseStep_canonical _ _ _ hs
  | coolStep => exact execCoolStep_canonical _ hs
  | coolantSample => exact execCoolantSample_canonical _ _ _ _ hs
  | coolantStale => exact execCoolantStale_canonical _ _ hs
  | coolantFallbackExit => exact execCoolantFallbackExit_canonical _ hs
  | thermalRefit => exact execThermalRefit_canonical _ _ _ _ _ _ _ hs
  | sensorSample => exact execSensorSample_canonical _ _ _ hs
  | thermtrip => exact execThermtrip_canonical _ hs
  | refclkLoss => exact execRefclkLoss_canonical _ hs
  | idlePromotionSleep => exact execIdlePromotionSleep_canonical _ _ hs
  | idlePromotionDeep => exact execIdlePromotionDeep_canonical _ _ hs
  | deepEntryStep => exact execDeepEntryStep_canonical _ _ _ hs
  | wakeEvent => exact execWakeEvent_canonical _ _ hs
  | arrayRetainEntry => exact execArrayRetainEntry_canonical _ _ hs
  | domainLowWake => exact execDomainLowWake_canonical _ _ hs
  | domainLowReturn => exact execDomainLowReturn_canonical _ _ hs
  | plumbRestart => exact execPlumbRestart_canonical _ hs
  | scribeSample => exact execScribeSample_canonical _ _ _ _ hs
  | scribeFreezeExpiry => exact execScribeFreezeExpiry_canonical _ hs
  | scribePeriodicFlush => exact execScribePeriodicFlush_canonical _ hs
  | scribeFlushEnd => exact execScribeFlushEnd_canonical _ _ hs
  | repairMapJournalWrite => exact execRepairMapJournalWrite_canonical _ hs
  | pwrgoodDeassert => exact execPwrgoodDeassert_canonical _ hs
  | coldReset => exact execColdReset_canonical _ _ hs
  | exitFromOff => exact execExitFromOff_canonical _ _ hs
  | resetNAssert => exact execResetNAssert_canonical _ hs
  | resetNDeassert => exact execResetNDeassert_canonical _ _ hs
  | coreReset => exact execCoreReset_canonical _ _ hs
  | linkUp => exact execLinkUp_canonical _ _ _ _ hs
  | sparePrbsError => exact execSparePrbsError_canonical _ _ _ _ _ _ hs
  | commandSlot => exact execCommandSlot_canonical _ _ _ hs
  | cxlMemResponse => exact execCxlMemResponse_canonical _ _ _ _ _ hs
  | interruptTaken => exact execInterruptTaken_canonical _ _ hs
  | instructionFetch => exact execInstructionFetch_canonical _ _ _ _ hs
  | debugUart => exact execDebugUart_canonical _ hs
  | dtBarRegisterWrite => exact execDtBarRegisterWrite_canonical _ _ _ _ _ hs
  | hostConfigWrite => exact execHostConfigWrite_canonical _ _ _ _ hs

/-- A step carries out the front command on the rest of the queue. -/
theorem step_canonical (s : State) (hs : MemCanonical s.mem) : Res.Canonical (step s) := by
  unfold step
  split
  · exact (Res.canonical_next s).2 hs
  · exact exec_canonical _ _ hs

/-- Settles O58: every command keeps memory canonical, and so does a step. -/
theorem memoryStaysCanonical : Obligations.MemoryStaysCanonical := fun s t hs hstep => (step_canonical s ⟨hs⟩ t hstep).wf

end Sys2Proof.Machine
end

section
/-! PROOF. A request for a line that no cache holds, at an idle home: what it is granted, what it waits for, and what answers an
address that nothing backs (R131, R135, R142, R165 to R171, R177). -/

namespace Sys2Proof.Machine

/-! ## Arrival -/

section
variable {s t : State} (hc : s.Carried t)
include hc

theorem State.Carried.memLine (k : Nat) : t.memLine k = s.memLine k := by
  rw [hc.rest]
  rfl

theorem State.Carried.lineKey (h la : Nat) : t.lineKey h la = s.lineKey h la := by
  rw [hc.rest]
  rfl

theorem State.Carried.dirSetOf (h la : Nat) : t.dirSetOf h la = s.dirSetOf h la := by
  simp only [State.dirSetOf, hc.mode, hc.frameOfStud]

theorem State.Carried.idleHome {h : Nat} (hidle : s.idleHome h) : t.idleHome h := by
  rwa [State.idleHome, hc.home]

end

/-- The agent that a message to a home names is the home's. -/
theorem agentOfHome_of_dst {a h : Nat} (hhome : homeOfAgent a = some h) : agentOfHome h = a := by
  unfold homeOfAgent at hhome
  unfold agentOfHome
  split at hhome
  · have := Option.some.inj hhome
    split <;> omega
  · split at hhome
    · have := Option.some.inj hhome
      split <;> omega
    · cases hhome

/-- The lanes of every port, by which a CXL home knows its slices, are as they were. -/
def State.SameLanes (s t : State) : Prop := ∀ p, (t.port p).lanes = (s.port p).lanes

theorem State.SameLanes.trans {s t u : State} (h : s.SameLanes t) (h' : t.SameLanes u) : s.SameLanes u := fun p => (h' p).trans (h p)

theorem State.eject_lanes (s : State) (m : Msg) : s.SameLanes (s.eject m) := fun q => by
  unfold State.eject
  split
  case h_1 p _ =>
    dsimp only
    split
    · by_cases hq : q = p
      · rw [hq, State.port_setPort_same]
      · rw [State.port_setPort_ne _ _ _ _ hq]
    · rfl
  case h_2 => rfl

theorem State.hop_lanes (s : State) (m : Msg) (a : Ask) : s.SameLanes (s.hop m a) := by
  unfold State.hop
  dsimp only
  split
  · exact State.eject_lanes _ _
  · exact fun _ => rfl

theorem State.meshCycle_lanes (s : State) : s.SameLanes s.meshCycle := by
  unfold State.meshCycle
  dsimp only
  generalize (heads [] s.net).filter (fun e => s.hopCredit e.2) = asks
  refine List.foldlRecOn asks _ (fun _ => rfl) fun t ht e _ => ht.trans ?_
  split
  · have hhop := State.hop_lanes t e.1 e.2
    split
    · exact hhop
    · exact hhop
  · exact fun _ => rfl

theorem State.meshRun_lanes (P : Msg → Bool) (n : Nat) (s : State) : s.SameLanes (s.meshRun P n) := by
  induction n generalizing s with
  | zero => exact fun _ => rfl
  | succ k ih =>
    rw [State.meshRun]
    split
    · exact s.meshCycle_lanes.trans (ih _)
    · exact fun _ => rfl

theorem State.arrive_lanes {s : State} {m : Msg} (h : (s.arrive m).2.isSome = true) : s.SameLanes (s.arrive m).1 := by
  revert h
  unfold State.arrive
  dsimp only
  split
  · exact fun h => absurd h Bool.noConfusion
  split
  · exact fun h => absurd h Bool.noConfusion
  split
  · split
    · exact fun _ => State.meshRun_lanes _ _ _
    · exact fun h => absurd h Bool.noConfusion
  · exact fun _ _ => rfl

theorem State.arrived_reqErr {s : State} {op : MsgOp} {d : Hdr} (harr : (s.arrive { op := op, hdr := d }).2.isSome = true)
    (h line : Nat) (o : MsgOp) : (s.arrived op d).reqErr h line o = s.reqErr h line o := by
  have hc : s.Carried (s.arrived op d) := (State.arrive_carried harr).1
  have hslice (la : Nat) : (s.arrived op d).cxlSlice h la = s.cxlSlice h la := by
    have hlanes : ((s.arrived op d).port (h - 12)).lanes = (s.port (h - 12)).lanes := State.arrive_lanes harr _
    simp only [State.cxlSlice, hlanes]
  simp only [State.reqErr, hc.home, hc.dirFind, hslice]

/-- A request that reaches an idle home is ordered, or refused, at once. -/
theorem State.toHome_orders {s : State} {op : MsgOp} {d : Hdr} {h line : Nat} (hreach : s.reachesHome op d h) (hidle : s.idleHome h)
    (hline : s.homeLine h d.line = some line) :
    ∃ (m : Msg) (port : Nat), m.op = op ∧ m.hdr = d ∧
      s.toHome { op := op, hdr := d } = ((s.arrived op d).orderReq h line m port).homeRun h := by
  obtain ⟨harr, hhome, hlive, -, hdst, -, -, hstop⟩ := hreach
  obtain ⟨hcar, m, hm, ⟨hop, hhdr, -⟩⟩ := State.arrive_carried harr
  have harrive : s.arrive { op := op, hdr := d } = (s.arrived op d, some m) := Prod.ext rfl hm
  change s.Carried (s.arrived op d) at hcar
  have hidle' := hcar.idleHome hidle
  obtain ⟨-, -, hwait, -⟩ := id hidle'
  have hpass : ¬((!(s.arrived op d).domainLive d.dst) = true ∨ d.dstPkg ≠ (s.arrived op d).ownPkg ∨
      ((s.arrived op d).home h).stopped = true) := by
    rw [hcar.domainLive, hcar.ownPkg, hcar.home, hlive, hstop, hdst]
    simp
  have hline' : (s.arrived op d).homeLine h d.line = some line := (hcar.homeLine ..).trans hline
  refine ⟨m, (s.arrived op d).portOfMsg h m, hop, hhdr, ?_⟩
  rw [State.toHome, harrive]
  simp only [hhdr, hhome, if_neg hpass, hline', State.canOrder_idle hidle', hwait, List.any_nil, Bool.not_false, and_self, if_true]

/-! ## Answers (R162) -/

/-- The answer of home h to a transaction in entry 0, as its requester gets it. -/
def State.homeAnswer (s : State) (h : Nat) (t : HTx) (op : MsgOp) (go : Bool) (data : Line) : Msg :=
  { op := op, data := data, source := if homeData op then t.source else 0,
    hdr := { src := agentOfHome h, dst := t.agent, srcPkg := s.ownPkg, dstPkg := t.pkg, tag := t.tag, reqAgent := t.agent, reqPkg := t.pkg,
             htx := 0, line := t.raw, rcid := t.rcid, mcid := t.mcid, go := go, poison := t.poison && homeData op } }

/-- An answer that a route leads to its requester goes into flight. -/
theorem State.reply_answers {s : State} {h : Nat} {t : HTx} (hpkg : t.pkg = s.ownPkg)
    (hlinked : s.linked (agentOfHome h) t.agent = true) (op : MsgOp) (go : Bool) (data : Line) :
    s.reply h 0 t op go false data = { s with net := s.net ++ [entered (s.homeAnswer h t op go data)] } := by
  have hsrc : ¬agentOfHome h < 12 := by unfold agentOfHome; split <;> omega
  have hstud : ¬(s.fromStud (s.homeAnswer h t op go data) = true ∧ (s.tenon (s.homeAnswer h t op go data).hdr.src).st ≠ 3) := by
    simp [State.fromStud, State.homeAnswer, hsrc]
  have hrouted : s.routed (s.homeAnswer h t op go data) = true := hlinked
  have hput : s.putMsg (entered (s.homeAnswer h t op go data)) =
      { s with net := s.net ++ [entered (s.homeAnswer h t op go data)] } := by
    rw [State.putMsg]
    split <;> rfl
  change s.route _ (s.homeAnswer h t op go data) = _
  rw [State.route, if_pos (by exact hpkg), State.send, if_pos hrouted, State.sent, if_neg hstud, hput]

/-! ## The stages of a read (R167, R170, R177) -/

/-- The transaction whose buffer holds the line. -/
def HTx.got (t : HTx) (d : Line × Bool) (src : Nat) : HTx := { t with buf := d.1, poison := d.2, have_ := true, source := src }

/-- The transaction that has directory way k. -/
def HTx.placed (t : HTx) (k : Nat) : HTx := { t with st := .active, dirway := some k }

/-- The transaction whose grant has been sent. -/
def HTx.granted (t : HTx) : HTx := { t with st := .granted, hold := [], bmr := none }

/-- The home that has reserved way k for the transaction in entry 0. -/
def Home.reserved (b : Home) (k : Nat) : Home := { b with resv := [(k, 0)] }

/-- The home that tracks the requester in way k, with no way reserved. -/
def Home.tracked (b : Home) (k : Nat) (e : DirEnt) : Home := { b with dir := Tab.set b.dir k e, resv := [] }

/-- The transaction of a request that has had no answer, no way and no data yet. -/
structure HTx.Fresh (t : HTx) : Prop where
  fwd : t.fwd = false
  upgrade : t.upgrade = false
  acked : t.acked = false
  dirway : t.dirway = none

/-- A request that makes its requester the line's first holder (R177). -/
def HTx.grants (t : HTx) : Prop := t.op = .rdS ∨ t.op = .rdU ∨ t.op = .upg ∨ t.op = .cboZero

theorem Home.find_dirWay {b : Home} {h set k : Nat} (hway : b.dirWay h set = .free k) : Tab.find b.dir k = none := by
  unfold Home.dirWay at hway
  dsimp only at hway
  split at hway
  · next j hj =>
    obtain rfl := DirWay.free.inj hway
    have hfree := List.find?_some hj
    simp only [Bool.and_eq_true, Option.isNone_iff_eq_none] at hfree
    exact hfree.1
  · split at hway <;> cases hway

/-- Whether a way is free is told by the entries and the reservations. -/
theorem Home.dirWay_free_congr {b c : Home} {h set k : Nat} (hdir : c.dir = b.dir) (hresv : c.resv = b.resv)
    (hway : b.dirWay h set = .free k) : c.dirWay h set = .free k := by
  unfold Home.dirWay at hway ⊢
  rw [hdir, hresv]
  dsimp only at hway ⊢
  split at hway
  · exact hway
  · split at hway <;> cases hway

theorem State.dirU_own {s : State} (h line stud : Nat) :
    s.dirU h line stud s.ownPkg =
      { line := line, st := 1, sv := 2 ^ stud, own := stud, ownPkg := s.ownPkg, bench := decide (h < 12) && isBenchAddr (line * 64) } := by
  simp [State.dirU, State.nameOwner, State.addHolder]

section
variable {s : State} {h k : Nat} {b : Home} {t : HTx}

theorem State.reply_holding (hpkg : t.pkg = s.ownPkg) (hlinked : s.linked (agentOfHome h) t.agent = true) (op : MsgOp) (go : Bool)
    (data : Line) : (s.setHome h b).reply h 0 t op go false data =
      { s with net := s.net ++ [entered (s.homeAnswer h t op go data)] }.setHome h b :=
  State.reply_answers (s := s.setHome h b) hpkg hlinked op go data

theorem State.fetchLine_bench (hhave : t.have_ = false) (hbmr : t.bmr = none) (hop : t.op ≠ .lockFill) (hlt : h < 12)
    (hbench : isBenchAddr (t.line * 64) = true) :
    (s.setHome h (b.holding t)).fetchLine h 0 =
      (s.wakeArray h).setHome h (b.holding (t.got (s.memLine (s.lineKey h (t.line * 64))) 6)) := by
  have hgot (d : Line × Bool) : ((s.wakeArray h).setHome h (b.holding t)).setTx h 0 (t.got d 6) =
      (s.wakeArray h).setHome h (b.holding (t.got d 6)) := State.setTx_holding _
  rw [State.fetchLine, State.tx_holding, ← hgot, ← State.wakeArray_setHome]
  simp only [hhave, hbmr, hbench, if_neg hop, Nat.not_le.2 hlt, Option.isSome_none, Bool.false_eq_true, or_self, if_false, if_true]
  rw [HTx.got, hbmr]
  rfl

/-- What a read of DRAM comes to: the bay's line, or a miss register. -/
theorem State.fetchLine_dram {o : Option (Nat × BayLine)} (hhave : t.have_ = false) (hbmr : t.bmr = none) (hop : t.op ≠ .lockFill)
    (hlt : h < 12) (hbench : isBenchAddr (t.line * 64) = false) (hbmrs : b.bmrs = []) (hv : b.victims = [])
    (hcache : b.cache = (s.home h).cache) (hfind : s.bayFind h t.line = o)
    (ho : o = none ∨ t.en = true ∧ ∃ p e, o = some (p, e) ∧ e.bad = 0) :
    (s.setHome h (b.holding t)).fetchLine h 0 = (s.readFor h t).setHome h
      (match o with
       | none => (b.filling t none).holding t.filling
       | some x => b.holding (t.got (x.2.data, x.2.poison) 2)) := by
  have hread : (if t.en = true then (s.setHome h (b.holding t)).wakeArray h else s.setHome h (b.holding t)) =
      (s.readFor h t).setHome h (b.holding t) := by
    unfold State.readFor
    split
    · exact State.wakeArray_setHome h
    · rfl
  have hbay : ((s.readFor h t).setHome h (b.holding t)).bayFind h t.line = o := by
    rw [← hread, ← hfind]
    split
    · exact (State.wakeArray_bayFind ..).trans (State.bayFind_setHome (b := b.holding t) hcache _)
    · exact State.bayFind_setHome (b := b.holding t) hcache _
  have hcheck : ((s.readFor h t).setHome h (b.holding t)).bayCheck h t.line = (s.readFor h t).setHome h (b.holding t) := by
    rw [State.bayCheck, hbay]
    rcases ho with rfl | ⟨-, p, e, rfl, hbad⟩
    · rfl
    · exact if_pos hbad
  have hvict : (b.holding t).victims = [] := hv
  rw [State.fetchLine, State.tx_holding]
  simp only [hhave, hbmr, hbench, if_neg hop, Nat.not_le.2 hlt, Option.isSome_none, Bool.false_eq_true, or_self, if_false, hread,
    hcheck, ite_self, State.home_setHome_same, hvict, List.find?_nil, hbay]
  rcases ho with rfl | ⟨hen, p, e, rfl, -⟩
  · simp only [ite_self]
    exact State.takeBmr_holding hbmrs none
  · simp only [hen, if_true]
    have hgot := State.setTx_holding (s := s.readFor h t) (h := h) (b := b) (t := t) (t.got (e.data, e.poison) 2)
    simpa only [HTx.got, hbmr, hen] using hgot

/-- A way that is free is reserved at once. -/
theorem State.allocDir_free (hway : b.dirWay h (s.dirSetOf h (t.line * 64)) = .free k) (hq : b.dirQ = []) (hresv : b.resv = [])
    (hnone : t.dirway = none) :
    (s.setHome h (b.holding t)).allocDir h 0 = s.setHome h ((b.reserved k).holding (t.placed k)) := by
  have hdirQ : (b.holding t).dirQ = [] := hq
  have hfree : (b.holding t).dirWay h ((s.setHome h (b.holding t)).dirSetOf h (t.line * 64)) = .free k :=
    Home.dirWay_free_congr (b := b) rfl rfl hway
  rw [State.allocDir, State.tx_holding]
  simp only [State.home_setHome_same, hdirQ, List.any_nil, hnone, Option.isSome_none, Bool.false_eq_true, if_false, hfree,
    List.filter_nil, State.setHome_setHome]
  rw [Home.holding, Home.reserved, hq, hresv]
  rfl

/-- An active transaction with its way, and its data or its miss register, comes to its grant. -/
theorem State.stepTx_grants (hop : t.grants) (hst : t.st = .active) (hsnp : t.snpData = 0) (hway : t.dirway.isSome = true)
    (hdata : t.have_ = true ∨ t.bmr.isSome = true ∨ t.op = .cboZero) :
    (s.setHome h (b.holding t)).stepTx h 0 = (s.setHome h (b.holding t)).finishGrant h 0 t := by
  have hstore : (s.setHome h (b.holding t)).storeSnoop h 0 t = some (s.setHome h (b.holding t)) := by
    rw [State.storeSnoop, if_neg (by simp [hsnp])]
  have hneeds : t.needsWay = true := by rcases hop with hop | hop | hop | hop <;> simp [HTx.needsWay, hop]
  have hfetch : (if t.needsData = true then
      (s.setHome h (b.holding t)).fetchLine h 0 else s.setHome h (b.holding t)) = s.setHome h (b.holding t) := by
    split
    case isTrue hread =>
      have hgot : t.have_ = true ∨ t.bmr.isSome = true := by
        rcases hdata with hd | hd | hd
        · exact .inl hd
        · exact .inr hd
        · simp [HTx.needsData, hd] at hread
      rw [State.fetchLine, State.tx_holding]
      simp only [if_pos hgot]
    case isFalse => rfl
  have hsome : ¬t.dirway.isNone = true := by simpa [Option.isSome_iff_ne_none] using hway
  rw [State.stepTx, State.tx_holding]
  simp only [hst, hstore, State.tx_holding, reduceCtorEq, if_false, hneeds, Bool.true_or, true_or, and_true, hfetch, hsome, and_false,
    if_true]

/-- An active RD_NC reads the home's copy and is answered, or waits. -/
theorem State.stepTx_rdNc {r : State} {c : Home} {u : HTx} (hop : t.op = .rdNc) (hst : t.st = .active) (hpend : t.pend = 0)
    (hsnp : t.snpData = 0) (hsupply : t.supply = true) (hu : u.op = .rdNc ∧ u.st = .active ∧ u.pend = 0 ∧ u.snpData = 0)
    (hfetch : (s.setHome h (b.holding t)).fetchLine h 0 = r.setHome h (c.holding u)) :
    (s.setHome h (b.holding t)).stepTx h 0 = (r.setHome h (c.holding u)).finishRdNc h 0 u := by
  obtain ⟨hopu, hstu, hpendu, hsnpu⟩ := hu
  have hstore : (s.setHome h (b.holding t)).storeSnoop h 0 t = some (s.setHome h (b.holding t)) := by
    rw [State.storeSnoop, if_neg (by simp [hsnp])]
  rw [State.stepTx, State.tx_holding]
  simp [hst, hstore, State.tx_holding, HTx.needsData, HTx.needsWay, hop, hpend, hsnp, hsupply, hfetch, hopu, hstu, hpendu, hsnpu]

/-- A request of a line that nobody holds and of which no other transaction is under way starts. -/
theorem State.stepTx_waiting (hst : t.st = .waiting) (hdir : b.dir = (s.home h).dir) (hfind : s.dirFind h t.line = none) :
    (s.setHome h (b.holding t)).stepTx h 0 = (s.setHome h (b.holding t)).startTx h 0 t := by
  have hfind' : (s.setHome h (b.holding t)).dirFind h t.line = none := (State.dirFind_setHome (b := b.holding t) hdir _).trans hfind
  rw [State.stepTx, State.tx_holding]
  simp only [hst, State.home_setHome_same, hfind']
  simp [Home.holding]

/-- RD_S, RD_U and UPG ask for the line and a way. -/
theorem State.startTx_read (hop : t.op = .rdS ∨ t.op = .rdU ∨ t.op = .upg) (hdir : b.dir = (s.home h).dir)
    (hfind : s.dirFind h t.line = none) :
    (s.setHome h (b.holding t)).startTx h 0 t = ((s.setHome h (b.holding t.started)).fetchLine h 0).allocDir h 0 := by
  have hfind' : (s.setHome h (b.holding t)).dirFind h t.line = none := (State.dirFind_setHome (b := b.holding t) hdir _).trans hfind
  unfold State.startTx
  rw [hfind', ← State.setTx_holding (t := t) t.started]
  rcases hop with hop | hop | hop <;> simp only [hop, Option.map_none, HTx.started]

/-- CBO_ZERO asks for a way. -/
theorem State.startTx_zero (hop : t.op = .cboZero) (hdir : b.dir = (s.home h).dir) (hfind : s.dirFind h t.line = none) :
    (s.setHome h (b.holding t)).startTx h 0 t = (s.setHome h (b.holding { t with st := .active })).allocDir h 0 := by
  have hfind' : (s.setHome h (b.holding t)).dirFind h t.line = none := (State.dirFind_setHome (b := b.holding t) hdir _).trans hfind
  unfold State.startTx
  rw [hfind', ← State.setTx_holding (t := t) { t with st := .active }]
  simp only [hop, Option.map_none]

theorem State.startTx_rdNc (hop : t.op = .rdNc) (hdir : b.dir = (s.home h).dir) (hfind : s.dirFind h t.line = none) :
    (s.setHome h (b.holding t)).startTx h 0 t = s.setHome h (b.holding t.started) := by
  have hfind' : (s.setHome h (b.holding t)).dirFind h t.line = none := (State.dirFind_setHome (b := b.holding t) hdir _).trans hfind
  unfold State.startTx
  rw [hfind', ← State.setTx_holding (t := t) t.started]
  simp only [hop, Option.map_none, HTx.started]

/-- What a home grants a line that no cache holds by: its own copy, or ownership alone for CBO_ZERO (R170). -/
def State.grantMsg (s : State) (h : Nat) (t : HTx) : Msg :=
  if t.op = .cboZero then s.homeAnswer h t .goU false 0 else s.homeAnswer h t .dataE true t.buf

/-- The grant of a line that no cache holds: the requester is answered and becomes the only holder and the owner. -/
theorem State.finishGrant_grants (hop : t.grants) (hfresh : t.fwd = false ∧ t.upgrade = false ∧ t.acked = false) (hpend : t.pend = 0)
    (hsnp : t.snpData = 0) (hway : t.dirway = some k) (hdata : t.have_ = true ∨ t.op = .cboZero) (hevict : t.evictFor = none)
    (hfree : Tab.find b.dir k = none) (hresv : b.resv = [(k, 0)]) (hdir : b.dir = (s.home h).dir) (hfind : s.dirFind h t.line = none)
    (hpkg : t.pkg = s.ownPkg) (hlinked : s.linked (agentOfHome h) t.agent = true) :
    (s.setHome h (b.holding t)).finishGrant h 0 t = { s with net := s.net ++ [entered (s.grantMsg h t)] }.setHome h
      ((b.tracked k (s.dirU h t.line t.agent t.pkg)).holding t.granted) := by
  obtain ⟨hfwd, hup, hack⟩ := hfresh
  have hfind' : (s.setHome h (b.holding t)).dirFind h t.line = none := (State.dirFind_setHome (b := b.holding t) hdir _).trans hfind
  have hfree' : Tab.find (b.holding t).dir k = none := hfree
  have htxs : (b.holding t).txs = [(0, t)] := rfl
  have hready : (s.setHome h (b.holding t)).dirReady h 0 t = true := by
    simp [State.dirReady, hfind', hway, State.home_setHome_same, hfree', htxs, hevict]
  have hdone : t.pend = 0 ∧ t.snpData ≠ 1 := by simp [hpend, hsnp]
  have hput (l : List Msg) (e : DirEnt) : (({ s with net := l } : State).setHome h (b.holding t)).putDir h t e =
      ({ s with net := l } : State).setHome h ((b.holding t).setDir k e) := by
    have hnone : (({ s with net := l } : State).setHome h (b.holding t)).dirFind h t.line = none := hfind'
    simp only [State.putDir, hnone, hway, State.home_setHome_same, State.setHome_setHome]
  have hgranted (r : State) (e : DirEnt) : (r.setHome h ((b.holding t).setDir k e)).granted h 0 t =
      r.setHome h ((b.tracked k e).holding t.granted) := by
    simp only [State.granted, hack, State.home_setHome_same, State.setHome_setHome, Bool.false_eq_true, if_false]
    simp [Home.holding, Home.setDir, Home.tracked, hresv, HTx.granted, hack, Tab.set, Tab.erase, Tab.insertAt]
  have hdirU : (s.setHome h (b.holding t)).dirU h t.line t.agent t.pkg = s.dirU h t.line t.agent t.pkg := rfl
  have hreply := State.reply_holding (s := s) (b := b.holding t) hpkg hlinked
  rcases hop with hop | hop | hop | hop
  case inr.inr.inr => simp [State.finishGrant, hop, hpend, hsnp, hready, hreply, hput, hgranted, hdirU, State.grantMsg]
  all_goals
    have hhave : t.have_ = true := hdata.resolve_right (by simp [hop])
    simp [State.finishGrant, hop, hfwd, hup, hhave, hpend, hsnp, hready, hreply, hput, hgranted, hdirU, State.grantMsg, State.grantOp,
      State.dirAfterRdS, hfind']

/-- RD_NC of a line that no cache holds is answered with the home's own copy, and ends. -/
theorem State.finishRdNc_ends (hop : t.op = .rdNc) (hhave : t.have_ = true) (hbmr : t.bmr = none) (hresv : b.resv = []) (hq : b.dirQ = [])
    (hdir : b.dir = (s.home h).dir) (hfind : s.dirFind h t.line = none) (hpkg : t.pkg = s.ownPkg)
    (hlinked : s.linked (agentOfHome h) t.agent = true) :
    (s.setHome h (b.holding t)).finishRdNc h 0 t =
      { s with net := s.net ++ [entered (s.homeAnswer h t .ncRData false t.buf)] }.setHome h b.freed := by
  have hfind' : (s.setHome h (b.holding t)).dirFind h t.line = none := (State.dirFind_setHome (b := b.holding t) hdir _).trans hfind
  simp only [State.finishRdNc, hop, hhave, hbmr, State.oToS, hfind', State.reply_holding hpkg hlinked, Bool.not_true, Option.isSome_none,
    Bool.false_eq_true, or_self, if_false, reduceCtorEq]
  exact State.endTx_holding hresv hq

/-- Without its data RD_NC waits. -/
theorem State.finishRdNc_waits {r : State} (hhave : t.have_ = false) : r.finishRdNc h 0 t = r := by simp [State.finishRdNc, hhave]

/-- Without its data a read waits for its grant. -/
theorem State.finishGrant_waits {r : State} (hop : t.op = .rdS ∨ t.op = .rdU ∨ t.op = .upg) (hup : t.upgrade = false) (hfwd : t.fwd = false)
    (hhave : t.have_ = false) : r.finishGrant h 0 t = r := by
  rcases hop with hop | hop | hop <;> simp [State.finishGrant, hop, hup, hfwd, hhave]

end

/-! ## From order to grant -/

section
variable {s r : State} {h : Nat} (hw : s.Woke r h)
include hw

/-- What is not the power state of an array, or a message, is as it was. -/
theorem State.Woke.rest_homes :
    r = { s with net := r.net, power := { s.power with domState := r.power.domState, domVolt := r.power.domVolt } } := by
  have hrest := hw.rest
  rwa [hw.homes] at hrest

theorem State.Woke.dirFind (line : Nat) : r.dirFind h line = s.dirFind h line := by
  rw [hw.rest_homes]
  rfl

theorem State.Woke.dirSetOf (la : Nat) : r.dirSetOf h la = s.dirSetOf h la := by
  rw [hw.rest_homes]
  rfl

theorem State.Woke.ownPkg : r.ownPkg = s.ownPkg := by
  rw [hw.rest_homes]
  rfl

theorem State.Woke.linked (a c : Nat) : r.linked a c = s.linked a c := by
  rw [hw.rest_homes]
  rfl

theorem State.Woke.home (k : Nat) : r.home k = s.home k := by rw [State.home, hw.homes, State.home]

theorem State.Woke.dirU (line stud pkg : Nat) : r.dirU h line stud pkg = s.dirU h line stud pkg := by
  rw [hw.rest_homes]
  rfl

theorem State.Woke.grantMsg (t : HTx) : r.grantMsg h t = s.grantMsg h t := by
  rw [hw.rest_homes]
  rfl

theorem State.Woke.homeAnswer (t : HTx) (op : MsgOp) (go : Bool) (data : Line) :
    r.homeAnswer h t op go data = s.homeAnswer h t op go data := by
  rw [hw.rest_homes]
  rfl

theorem State.Woke.withNet (l : List Msg) : s.Woke ({ r with net := l } : State) h where
  homes := hw.homes
  dom := hw.dom
  rest := congrArg (fun x : State => { x with net := l }) hw.rest

end

/-- The transaction that has its way, and the line if it reads one. -/
def HTx.readied (t : HTx) (k : Nat) : Option ((Line × Bool) × Nat) → HTx
  | some (d, src) => (t.started.got d src).placed k
  | none => t.placed k

section
variable {s r : State} {h k : Nat} {b : Home} {t : HTx} {o : Option ((Line × Bool) × Nat)} (hs : s.Serves h b t) (hfresh : t.Fresh)
  (hevict : t.evictFor = none)
include hs hfresh hevict

/-- A request that starts with its way and its data is granted. -/
theorem State.Serves.granted (hop : t.grants) (ho : o.isSome = true ∨ t.op = .cboZero) (hw : s.Woke r h) (hnet : r.net = s.net)
    (hfree : Tab.find b.dir k = none)
    (hstart : (s.setHome h (b.holding t)).startTx h 0 t = r.setHome h ((b.reserved k).holding (t.readied k o))) :
    (s.setHome h (b.holding t)).homeRun h = { r with net := s.net ++ [entered (s.grantMsg h (t.readied k o))] }.setHome h
      ((b.tracked k (s.dirU h t.line t.agent t.pkg)).holding (t.readied k o).granted) := by
  have hfirst := (State.stepTx_waiting hs.waiting hs.dir hs.uncached).trans hstart
  have hready : (t.readied k o).op = t.op ∧ (t.readied k o).st = .active ∧ (t.readied k o).snpData = 0 ∧ (t.readied k o).pend = 0 ∧
      (t.readied k o).dirway = some k ∧ (t.readied k o).line = t.line ∧ (t.readied k o).agent = t.agent ∧ (t.readied k o).pkg = t.pkg ∧
      (t.readied k o).evictFor = none ∧ ((t.readied k o).fwd = false ∧ (t.readied k o).upgrade = false ∧ (t.readied k o).acked = false) := by
    rcases o with - | ⟨d, src⟩ <;>
      exact ⟨rfl, rfl, hs.snpData, hs.pend, rfl, rfl, rfl, rfl, hevict, hfresh.fwd, hfresh.upgrade, hfresh.acked⟩
  have hdata : (t.readied k o).have_ = true ∨ (t.readied k o).op = .cboZero := by
    rcases o with - | ⟨d, src⟩
    · exact .inr (ho.resolve_left Bool.noConfusion)
    · exact .inl rfl
  generalize t.readied k o = u at hfirst hready hdata ⊢
  obtain ⟨hopu, hst, hsnp, hpend, hway, hline, hagent, hpkg, hev, hfr⟩ := hready
  have hopu' : u.grants := by rwa [HTx.grants, hopu]
  have hgrant := State.finishGrant_grants (s := r) (b := b.reserved k) hopu' hfr hpend hsnp hway hdata hev hfree rfl
    (by rw [hw.home]; exact hs.dir) (by rw [hw.dirFind, hline]; exact hs.uncached) (by rw [hw.ownPkg, hpkg]; exact hs.pkg)
    (by rw [hw.linked, hagent]; exact hs.linked)
  rw [hw.grantMsg, hw.dirU, hline, hagent, hpkg, hnet] at hgrant
  have hsecond := (State.stepTx_grants (s := r) (b := b.reserved k) hopu' hst hsnp (by rw [hway]; rfl)
    (hdata.imp_right .inr)).trans hgrant
  have hthird (x : State) (c : Home) : (x.setHome h (c.holding u.granted)).stepTx h 0 = x.setHome h (c.holding u.granted) := by
    rw [State.stepTx, State.tx_holding]
    rfl
  refine State.homeRun_holding hs.hold ?_ hs.waitReq hs.work
  rw [State.holding_goes hfirst, State.holding_goes hsecond, State.holding_rests (hthird _ _)]
  · rfl
  · exact fun heq => HSt.noConfusion ((congrArg HTx.st heq).trans hst)
  · exact fun heq => HSt.noConfusion (hst.symm.trans ((congrArg HTx.st heq).trans hs.waiting))

end

section
variable {s : State} {h k : Nat} {b : Home} {t : HTx} (hs : s.Serves h b t)
include hs

/-! ## How a read begins (R131, R135, R177) -/

section
variable (hfresh : t.Fresh) (hway : b.dirWay h (s.dirSetOf h (t.line * 64)) = .free k)
include hfresh hway

/-- A way is found for the transaction that the read of the line has left. -/
theorem State.Serves.allocates {r : State} {c : Home} {u : HTx} (hw : s.Woke r h) (hdir : c.dir = b.dir) (hresv : c.resv = b.resv)
    (hq : c.dirQ = b.dirQ) (hline : u.line = t.line) (hnone : u.dirway = t.dirway) :
    (r.setHome h (c.holding u)).allocDir h 0 = r.setHome h ((c.reserved k).holding (u.placed k)) := by
  refine State.allocDir_free ?_ (hq.trans hs.dirQ) (hresv.trans hs.resv) (hnone.trans hfresh.dirway)
  rw [hline, hw.dirSetOf]
  exact Home.dirWay_free_congr hdir hresv hway

theorem State.Serves.begins_bench (hop : t.op = .rdS ∨ t.op = .rdU ∨ t.op = .upg) (hbench : isBenchAddr (t.line * 64) = true) :
    (s.setHome h (b.holding t)).startTx h 0 t = (s.wakeArray h).setHome h ((b.reserved k).holding
      (t.readied k (some (s.memLine (s.lineKey h (t.line * 64)), 6)))) := by
  obtain ⟨hhave, hbmr⟩ := hs.unfetched
  have hlock : t.op ≠ .lockFill := by rcases hop with hop | hop | hop <;> simp [hop]
  rw [State.startTx_read hop hs.dir hs.uncached, State.fetchLine_bench (t := t.started) hhave hbmr hlock hs.bay hbench]
  exact hs.allocates hfresh hway (s.wakeArray_woke h _) rfl rfl rfl rfl rfl

/-- The read of a line of DRAM finds the bay's copy, or takes a miss register. -/
theorem State.Serves.begins_dram {o : Option (Nat × BayLine)} (hop : t.op = .rdS ∨ t.op = .rdU ∨ t.op = .upg)
    (hbench : isBenchAddr (t.line * 64) = false) (hfind : s.bayFind h t.line = o)
    (ho : o = none ∨ t.en = true ∧ ∃ p e, o = some (p, e) ∧ e.bad = 0) :
    (s.setHome h (b.holding t)).startTx h 0 t = (s.readFor h t).setHome h
      (match o with
       | none => ((b.filling t none).reserved k).holding (t.started.filling.placed k)
       | some x => (b.reserved k).holding (t.readied k (some ((x.2.data, x.2.poison), 2)))) := by
  obtain ⟨hhave, hbmr⟩ := hs.unfetched
  have hlock : t.op ≠ .lockFill := by rcases hop with hop | hop | hop <;> simp [hop]
  rw [State.startTx_read hop hs.dir hs.uncached,
    State.fetchLine_dram (t := t.started) hhave hbmr hlock hs.bay hbench hs.bmrs hs.victims hs.cache hfind ho]
  cases o with
  | none => exact hs.allocates hfresh hway (s.readFor_woke h t) rfl rfl rfl rfl rfl
  | some x => exact hs.allocates hfresh hway (s.readFor_woke h t) rfl rfl rfl rfl rfl

theorem State.Serves.begins_zero (hop : t.op = .cboZero) :
    (s.setHome h (b.holding t)).startTx h 0 t = s.setHome h ((b.reserved k).holding (t.readied k none)) := by
  rw [State.startTx_zero hop hs.dir hs.uncached]
  exact hs.allocates hfresh hway (.net s h s.net) rfl rfl rfl rfl rfl

/-- A read that misses the bay waits with its way and its miss register. -/
theorem State.Serves.misses (hop : t.op = .rdS ∨ t.op = .rdU ∨ t.op = .upg) (hbench : isBenchAddr (t.line * 64) = false)
    (hfind : s.bayFind h t.line = none) :
    (s.setHome h (b.holding t)).homeRun h =
      (s.readFor h t).setHome h (((b.filling t none).reserved k).holding (t.started.filling.placed k)) := by
  have hgrants : t.grants := by rcases hop with hop | hop | hop <;> simp [HTx.grants, hop]
  have hfirst := (State.stepTx_waiting hs.waiting hs.dir hs.uncached).trans (hs.begins_dram hfresh hway hop hbench hfind (.inl rfl))
  have hsecond (x : State) (c : Home) : (x.setHome h (c.holding (t.started.filling.placed k))).stepTx h 0 =
      x.setHome h (c.holding (t.started.filling.placed k)) :=
    (State.stepTx_grants (t := t.started.filling.placed k) hgrants rfl hs.snpData rfl (.inr (.inl rfl))).trans
      (State.finishGrant_waits (t := t.started.filling.placed k) hop hfresh.upgrade hfresh.fwd hs.unfetched.1)
  refine State.homeRun_holding hs.hold ?_ hs.waitReq hs.work
  rw [State.holding_goes hfirst, State.holding_rests (hsecond _ _)]
  exact fun heq => HSt.noConfusion ((congrArg HTx.st heq).trans hs.waiting)

end

/-! ## RD_NC (R171) -/

section
variable (hop : t.op = .rdNc)
include hop

theorem State.Serves.begins_rdNc (n : Nat) :
    (s.setHome h (b.holding t)).stepAll h (n + 1) = (s.setHome h (b.holding t.started)).stepAll h n :=
  State.holding_goes ((State.stepTx_waiting hs.waiting hs.dir hs.uncached).trans (State.startTx_rdNc hop hs.dir hs.uncached))
    (fun heq => HSt.noConfusion ((congrArg HTx.st heq).trans hs.waiting)) n

theorem State.Serves.rdNc_bench (hbench : isBenchAddr (t.line * 64) = true) :
    (s.setHome h (b.holding t)).homeRun h =
      { s.wakeArray h with net := s.net ++ [entered (s.homeAnswer h (t.got (s.memLine (s.lineKey h (t.line * 64))) 6) .ncRData false
        (s.memLine (s.lineKey h (t.line * 64))).1)] }.setHome h b.freed := by
  obtain ⟨hhave, hbmr⟩ := hs.unfetched
  have hw := s.wakeArray_woke h (s.wakeArray h).net
  have hlock : t.op ≠ .lockFill := by simp [hop]
  have hfetch : (s.setHome h (b.holding t.started)).fetchLine h 0 =
      (s.wakeArray h).setHome h (b.holding (t.started.got (s.memLine (s.lineKey h (t.line * 64))) 6)) :=
    State.fetchLine_bench (t := t.started) hhave hbmr hlock hs.bay hbench
  generalize s.memLine (s.lineKey h (t.line * 64)) = d at hfetch ⊢
  have hend := State.finishRdNc_ends (s := s.wakeArray h) (b := b) (t := t.started.got d 6) hop rfl hbmr
    hs.resv hs.dirQ (by rw [State.wakeArray_home]; exact hs.dir) ((State.wakeArray_dirFind ..).trans hs.uncached)
    (hs.pkg.trans (State.wakeArray_ownPkg ..).symm) ((State.wakeArray_linked ..).trans hs.linked)
  rw [hw.homeAnswer, State.wakeArray_net] at hend
  have hsecond := (State.stepTx_rdNc (t := t.started) (u := t.started.got d 6) hop rfl hs.pend hs.snpData rfl
    ⟨hop, rfl, hs.pend, hs.snpData⟩ hfetch).trans hend
  refine State.homeRun_holding hs.hold ?_ hs.waitReq hs.work
  rw [hs.begins_rdNc hop, State.holding_ends hsecond]
  rfl

theorem State.Serves.rdNc_misses (hbench : isBenchAddr (t.line * 64) = false) (hfind : s.bayFind h t.line = none) :
    (s.setHome h (b.holding t)).homeRun h = (s.readFor h t).setHome h ((b.filling t none).holding t.started.filling) := by
  obtain ⟨hhave, hbmr⟩ := hs.unfetched
  have hlock : t.op ≠ .lockFill := by simp [hop]
  have hfetch := State.fetchLine_dram (t := t.started) hhave hbmr hlock hs.bay hbench hs.bmrs hs.victims hs.cache hfind (.inl rfl)
  have hsecond := (State.stepTx_rdNc (t := t.started) (u := t.started.filling) hop rfl hs.pend hs.snpData rfl
    ⟨hop, rfl, hs.pend, hs.snpData⟩ hfetch).trans (State.finishRdNc_waits (t := t.started.filling) hhave)
  have hkept (x : State) (c : Home) : (x.setHome h (c.holding t.started.filling)).fetchLine h 0 =
      x.setHome h (c.holding t.started.filling) := by
    rw [State.fetchLine, State.tx_holding]
    simp [HTx.filling]
  have hthird (x : State) (c : Home) : (x.setHome h (c.holding t.started.filling)).stepTx h 0 =
      x.setHome h (c.holding t.started.filling) :=
    (State.stepTx_rdNc (t := t.started.filling) (u := t.started.filling) hop rfl hs.pend hs.snpData rfl
      ⟨hop, rfl, hs.pend, hs.snpData⟩ (hkept x c)).trans (State.finishRdNc_waits (t := t.started.filling) hhave)
  refine State.homeRun_holding hs.hold ?_ hs.waitReq hs.work
  rw [hs.begins_rdNc hop, State.holding_goes hsecond, State.holding_rests (hthird _ _)]
  · rfl
  · intro heq
    have hsome : some 0 = t.bmr := congrArg HTx.bmr heq
    exact Option.some_ne_none 0 (hsome.trans hbmr)

end

end

/-! ## What the requester and the home see -/

/-- The answer of home h to the request of this header. -/
def State.answerTo (s : State) (h : Nat) (d : Hdr) (op : MsgOp) (go : Bool) (data : Line × Bool) (source : Nat) : Msg :=
  { op := op, data := data.1, source := source,
    hdr := { src := agentOfHome h, dst := d.reqAgent, srcPkg := s.ownPkg, dstPkg := s.ownPkg, tag := d.tag, reqAgent := d.reqAgent,
             reqPkg := s.ownPkg, htx := 0, line := d.line, rcid := d.rcid, mcid := d.mcid, go := go, poison := data.2 } }

/-- The transaction is of the request of this header. -/
def HTx.of (t : HTx) (d : Hdr) : Prop :=
  t.agent = d.reqAgent ∧ t.pkg = d.reqPkg ∧ t.tag = d.tag ∧ t.raw = d.line ∧ t.rcid = d.rcid ∧ t.mcid = d.mcid

theorem State.homeAnswer_to {s : State} {h : Nat} {t : HTx} {d : Hdr} {op : MsgOp} {go : Bool} {data : Line} (hof : t.of d)
    (hpkg : d.reqPkg = s.ownPkg) :
    s.homeAnswer h t op go data = s.answerTo h d op go (data, t.poison && homeData op) (if homeData op then t.source else 0) := by
  obtain ⟨hagent, htpkg, htag, hraw, hrcid, hmcid⟩ := hof
  rw [State.homeAnswer, State.answerTo, hagent, htpkg, htag, hraw, hrcid, hmcid, hpkg]

/-- A home that holds no request and has no work has nothing to go on with. -/
theorem State.homeRun_idle {s : State} {h : Nat} (horder : (s.home h).order = []) (hwait : (s.home h).waitReq = [])
    (hwork : (s.home h).work = none) : s.homeRun h = s := by
  have hsteps (n : Nat) : s.stepAll h (n + 1) = s := by
    rw [State.stepAll, horder]
    simp only [List.foldl_nil, beq_self_eq_true, if_true]
  rw [State.homeRun, horder]
  simp only [List.foldl_nil, State.rounds, hsteps, hwait, List.length_nil, State.orderWaiting, State.workRun, hwork]

/-- The access error in place of a transaction (R142). -/
theorem State.orderReq_err {s : State} {h line : Nat} {m : Msg} (herr : s.reqErr h line m.op = true) (port : Nat)
    (hpkg : m.hdr.reqPkg = s.ownPkg) (hlinked : s.linked (agentOfHome h) m.hdr.reqAgent = true) :
    s.orderReq h line m port =
      { s with net := s.net ++ [entered (s.answerTo h m.hdr .err false (0, false) 0)] }.setHome h
        { s.home h with ptr := (port + 1) % 6 } := by
  have herr' : (s.setHome h { s.home h with ptr := (port + 1) % 6 }).reqErr h line m.op = true := by
    rw [← herr]
    simp only [State.reqErr, State.home_setHome_same, State.dirFind_setHome]
    rfl
  rw [State.orderReq]
  simp only [herr', if_true]
  rw [State.reply_holding (s := s) (by exact hpkg) (by exact hlinked) .err false 0, State.homeAnswer_to ⟨rfl, rfl, rfl, rfl, rfl, rfl⟩ hpkg]
  rfl

section
variable {s : State} {op : MsgOp} {d : Hdr} {h line k : Nat} {i : Instr}
  (hreach : s.reachesHome op d h) (hidle : s.idleHome h) (hline : s.homeLine h d.line = some line)
  (hexec : exec i s = .next (s.toHome { op := op, hdr := d }))

section
include hreach hidle hline hexec

/-- An address that nothing backs: the access error answers the request, and no transaction begins (R142, R143). -/
theorem State.err_runs (herr : s.reqErr h line op = true) :
    RunsTo (exec i s) fun t =>
      t.net = s.restNet op d ++ [entered (s.answerTo h d .err false (0, false) 0)] ∧ (t.home h).dir = (s.home h).dir ∧
        (t.home h).txs = [] ∧ (s.arrived op d).onlyOrder t h := by
  obtain ⟨m, port, hop, hhdr, hrun⟩ := State.toHome_orders hreach hidle hline
  obtain ⟨harr, hhome, -, -, -, hpkg, hlinked, -⟩ := hreach
  have hcar : s.Carried (s.arrived op d) := (State.arrive_carried harr).1
  obtain ⟨htxs, horder, hwait, -, -, -, -, hwork⟩ := hcar.idleHome hidle
  have herr' : (s.arrived op d).reqErr h line m.op = true := by rw [hop, State.arrived_reqErr harr, herr]
  have hrefused := State.orderReq_err herr' port (by rw [hhdr, hpkg, hcar.ownPkg])
    (by rw [hhdr, agentOfHome_of_dst hhome, hcar.linked, hlinked])
  rw [hrefused, State.homeRun_idle (by rw [State.home_setHome_same]; exact horder) (by rw [State.home_setHome_same]; exact hwait)
    (by rw [State.home_setHome_same]; exact hwork), hhdr] at hrun
  refine ⟨_, hexec.trans (congrArg _ hrun), ?_, ?_, ?_, (State.Woke.net _ h _).onlyHome _, ?_⟩
  · rw [State.answerTo, State.answerTo, ← hcar.ownPkg]
    rfl
  · rw [State.home_setHome_same, ← hcar.home]
  · rw [State.home_setHome_same]
    exact htxs
  · simp only [State.onlyOrders, State.home_setHome_same]

variable (huncached : s.dirFind h line = none)
include huncached

omit hidle hline hexec huncached in
theorem State.grantMsg_read (hop : op = .rdS ∨ op = .rdU ∨ op = .upg) (x : Line × Bool) (src : Nat) (full : Bool) :
    (s.arrived op d).grantMsg h (((s.arrived op d).orderedTx h line op d full).readied k (some (x, src))) =
      s.answerTo h d .dataE true x src := by
  obtain ⟨harr, -, -, -, -, hpkg, -⟩ := hreach
  have hcar : s.Carried (s.arrived op d) := (State.arrive_carried harr).1
  have hnot : op ≠ .cboZero := by rcases hop with rfl | rfl | rfl <;> simp
  rw [State.grantMsg, if_neg (by exact hnot), State.homeAnswer_to (d := d) ⟨rfl, rfl, rfl, rfl, rfl, rfl⟩ (hpkg.trans hcar.ownPkg.symm)]
  simp [State.answerTo, hcar.ownPkg, homeData, HTx.readied, HTx.placed, HTx.got]

omit hidle hline hexec huncached in
theorem State.grantMsg_zero (hop : op = .cboZero) (full : Bool) :
    (s.arrived op d).grantMsg h (((s.arrived op d).orderedTx h line op d full).readied k none) =
      s.answerTo h d .goU false (0, false) 0 := by
  obtain ⟨harr, -, -, -, -, hpkg, -⟩ := hreach
  have hcar : s.Carried (s.arrived op d) := (State.arrive_carried harr).1
  rw [State.grantMsg, if_pos (by exact hop), State.homeAnswer_to (d := d) ⟨rfl, rfl, rfl, rfl, rfl, rfl⟩ (hpkg.trans hcar.ownPkg.symm)]
  simp [State.answerTo, hcar.ownPkg, homeData]

/-- A request that makes a first holder is granted: its requester is answered, and the way that was free holds the line for it
alone. -/
theorem State.granted_runs (hback : s.backs h line) (hop : op = .rdS ∨ op = .rdU ∨ op = .upg ∨ op = .cboZero)
    (hway : (s.home h).dirWay h (s.dirSetOf h (line * 64)) = .free k) {o : Option ((Line × Bool) × Nat)} (ho : o.isSome = true ∨ op = .cboZero)
    {m : Msg} (hm : ∀ full, (s.arrived op d).grantMsg h (((s.arrived op d).orderedTx h line op d full).readied k o) = m)
    (hstart : ∀ b t, (s.arrived op d).Serves h b t → t.Fresh → t.op = op → t.line = line → t.en = s.arrayEn h →
      b.dirWay h ((s.arrived op d).dirSetOf h (t.line * 64)) = .free k →
      ∃ r, (s.arrived op d).Woke r h ∧ r.net = (s.arrived op d).net ∧
        ((s.arrived op d).setHome h (b.holding t)).startTx h 0 t = r.setHome h ((b.reserved k).holding (t.readied k o))) :
    RunsTo (exec i s) fun t =>
      t.net = s.restNet op d ++ [entered m] ∧
      (t.home h).dir = Tab.set (s.home h).dir k
        { line := line, st := 1, sv := 2 ^ d.reqAgent, own := d.reqAgent, ownPkg := s.ownPkg, bench := isBenchAddr (line * 64) } ∧
      (t.home h).txs.map (fun e => (e.1, e.2.st, e.2.agent, e.2.tag)) = [(0, .granted, d.reqAgent, d.tag)] ∧
      (s.arrived op d).onlyOrder t h := by
  refine State.runs_ordered hreach hidle hline huncached hexec hback fun ptr full hcar hs => ?_
  have hfresh : ((s.arrived op d).orderedTx h line op d full).Fresh := ⟨rfl, rfl, rfl, rfl⟩
  have hway' : (((s.arrived op d).home h).ordering ptr).dirWay h ((s.arrived op d).dirSetOf h (line * 64)) = .free k := by
    rw [hcar.dirSetOf, hcar.home]
    exact Home.dirWay_free_congr rfl rfl hway
  obtain ⟨r, hw, hnet, hr⟩ := hstart _ _ hs hfresh rfl rfl (hcar.arrayEn h) hway'
  have hpkg : d.reqPkg = (s.arrived op d).ownPkg := hs.pkg
  rw [hs.granted hfresh rfl hop ho hw hnet (Home.find_dirWay hway') hr, hm]
  refine ⟨rfl, ?_, ?_, (hw.withNet _).onlyHome _, ?_⟩
  · rw [State.home_setHome_same]
    change Tab.set ((s.arrived op d).home h).dir k ((s.arrived op d).dirU h line d.reqAgent d.reqPkg) = _
    rw [hpkg, State.dirU_own, hcar.home, hcar.ownPkg]
    simp [hback.1]
  · rw [State.home_setHome_same]
    cases o <;> rfl
  · simp only [State.onlyOrders, State.home_setHome_same]
    rfl

/-- A bench line that a bay backs is granted with its bytes (R142). -/
theorem State.benchRead_runs (hbench : s.benchLine h line) (hop : op = .rdS ∨ op = .rdU ∨ op = .upg)
    (hway : (s.home h).dirWay h (s.dirSetOf h (line * 64)) = .free k) :
    RunsTo (exec i s) fun t =>
      t.net = s.restNet op d ++ [entered (s.answerTo h d .dataE true (s.memLine (s.lineKey h (line * 64))) 6)] ∧
      (t.home h).dir = Tab.set (s.home h).dir k
        { line := line, st := 1, sv := 2 ^ d.reqAgent, own := d.reqAgent, ownPkg := s.ownPkg, bench := true } ∧
      (t.home h).txs.map (fun e => (e.1, e.2.st, e.2.agent, e.2.tag)) = [(0, .granted, d.reqAgent, d.tag)] ∧
      (s.arrived op d).onlyOrder t h := by
  obtain ⟨hlt, haddr, hback⟩ := hbench
  have hcar : s.Carried (s.arrived op d) := (State.arrive_carried hreach.1).1
  have hop' : op = .rdS ∨ op = .rdU ∨ op = .upg ∨ op = .cboZero := by tauto
  have hruns := State.granted_runs hreach hidle hline hexec huncached ⟨hlt, fun _ => hback⟩ hop'
    (o := some (s.memLine (s.lineKey h (line * 64)), 6)) hway (.inl rfl) (State.grantMsg_read hreach hop _ _)
    fun b t hs hfresh htop htline _ hbway => ⟨_, State.wakeArray_woke _ h _, State.wakeArray_net _ h, by
      have hbegins := hs.begins_bench hfresh hbway (by rw [htop]; exact hop) (by rw [htline]; exact haddr)
      rwa [hcar.memLine, hcar.lineKey, htline] at hbegins⟩
  rwa [haddr] at hruns

/-- CBO_ZERO of a bench line gives ownership without data (R170). -/
theorem State.benchZero_runs (hbench : s.benchLine h line) (hop : op = .cboZero)
    (hway : (s.home h).dirWay h (s.dirSetOf h (line * 64)) = .free k) :
    RunsTo (exec i s) fun t =>
      t.net = s.restNet op d ++ [entered (s.answerTo h d .goU false (0, false) 0)] ∧
      (t.home h).dir = Tab.set (s.home h).dir k
        { line := line, st := 1, sv := 2 ^ d.reqAgent, own := d.reqAgent, ownPkg := s.ownPkg, bench := true } ∧
      (t.home h).txs.map (fun e => (e.1, e.2.st, e.2.agent, e.2.tag)) = [(0, .granted, d.reqAgent, d.tag)] ∧
      (s.arrived op d).onlyOrder t h := by
  obtain ⟨hlt, haddr, hback⟩ := hbench
  have hruns := State.granted_runs hreach hidle hline hexec huncached ⟨hlt, fun _ => hback⟩ (.inr (.inr (.inr hop))) (o := none) hway
    (.inr hop) (State.grantMsg_zero hreach hop)
    fun b t hs hfresh htop htline _ hbway => ⟨_, .net _ h _, rfl, hs.begins_zero hfresh hbway (htop.trans hop)⟩
  rwa [haddr] at hruns

section
variable (hdram : h < 12 ∧ isBenchAddr (line * 64) = false)
include hdram

omit hreach hidle hline hexec huncached in
theorem State.backs_dram : s.backs h line := ⟨hdram.1, fun h => by simp [hdram.2] at h⟩

/-- A line of DRAM that the bay holds is granted with the bay's copy (R131). -/
theorem State.hit_runs {p : Nat} {e : BayLine} (hop : op = .rdS ∨ op = .rdU ∨ op = .upg)
    (hway : (s.home h).dirWay h (s.dirSetOf h (line * 64)) = .free k) (hfind : s.bayFind h line = some (p, e)) (hbad : e.bad = 0)
    (hen : s.arrayEn h = true) :
    RunsTo (exec i s) fun t =>
      t.net = s.restNet op d ++ [entered (s.answerTo h d .dataE true (e.data, e.poison) 2)] ∧
      (t.home h).dir = Tab.set (s.home h).dir k
        { line := line, st := 1, sv := 2 ^ d.reqAgent, own := d.reqAgent, ownPkg := s.ownPkg, bench := false } ∧
      (t.home h).txs.map (fun e => (e.1, e.2.st, e.2.agent, e.2.tag)) = [(0, .granted, d.reqAgent, d.tag)] ∧
      (s.arrived op d).onlyOrder t h := by
  have hcar : s.Carried (s.arrived op d) := (State.arrive_carried hreach.1).1
  have hop' : op = .rdS ∨ op = .rdU ∨ op = .upg ∨ op = .cboZero := by tauto
  have hruns := State.granted_runs hreach hidle hline hexec huncached (State.backs_dram hdram) hop'
    (o := some ((e.data, e.poison), 2)) hway (.inl rfl) (State.grantMsg_read hreach hop _ _)
    fun b t hs hfresh htop htline hten hbway => ⟨_, State.readFor_woke _ h t, State.readFor_net _ h t,
      hs.begins_dram hfresh hbway (by rw [htop]; exact hop) (by rw [htline]; exact hdram.2)
        (by rw [htline]; exact (hcar.bayFind h line).trans hfind) (.inr ⟨hten.trans hen, p, e, rfl, hbad⟩)⟩
  rwa [hdram.2] at hruns

/-- A line of DRAM that the bay does not hold: a way is reserved and a miss register taken, and nothing is sent yet (R135). -/
theorem State.miss_runs (hop : op = .rdS ∨ op = .rdU ∨ op = .upg)
    (hway : (s.home h).dirWay h (s.dirSetOf h (line * 64)) = .free k) (hfind : s.bayFind h line = none) :
    RunsTo (exec i s) fun t =>
      t.net = s.restNet op d ∧ (t.home h).dir = (s.home h).dir ∧ (t.home h).resv = [(k, 0)] ∧
      (t.home h).bmrs = [(0, { line := line, htx := 0, order := (s.home h).seqNo })] ∧
      (t.home h).txs.map (fun e => (e.1, e.2.st, e.2.bmr, e.2.dirway)) = [(0, .active, some 0, some k)] ∧
      (t.home h).cache = (s.home h).cache ∧ (t.home h).victims = [] ∧ (s.arrived op d).onlyHome t h := by
  refine State.runs_ordered hreach hidle hline huncached hexec (State.backs_dram hdram) fun ptr full hcar hs => ?_
  have hway' : (((s.arrived op d).home h).ordering ptr).dirWay h ((s.arrived op d).dirSetOf h (line * 64)) = .free k := by
    rw [hcar.dirSetOf, hcar.home]
    exact Home.dirWay_free_congr rfl rfl hway
  rw [hs.misses ⟨rfl, rfl, rfl, rfl⟩ hway' hop hdram.2 ((hcar.bayFind h line).trans hfind)]
  simp only [State.home_setHome_same, ← hcar.home]
  refine ⟨State.readFor_net .., rfl, rfl, ?_, rfl, rfl, hs.victims, (State.readFor_woke ..).onlyHome _⟩
  rcases hop with rfl | rfl | rfl <;> rfl

/-- RD_NC of such a line takes a miss register alone. -/
theorem State.missNc_runs (hop : op = .rdNc) (hfind : s.bayFind h line = none) :
    RunsTo (exec i s) fun t =>
      t.net = s.restNet op d ∧ (t.home h).dir = (s.home h).dir ∧ (t.home h).resv = [] ∧
      (t.home h).bmrs = [(0, { line := line, htx := 0, order := (s.home h).seqNo })] ∧
      (t.home h).txs.map (fun e => (e.1, e.2.st, e.2.bmr, e.2.dirway)) = [(0, .active, some 0, none)] ∧
      (t.home h).cache = (s.home h).cache ∧ (t.home h).victims = [] ∧ (s.arrived op d).onlyHome t h := by
  refine State.runs_ordered hreach hidle hline huncached hexec (State.backs_dram hdram) fun ptr full hcar hs => ?_
  rw [hs.rdNc_misses hop hdram.2 ((hcar.bayFind h line).trans hfind)]
  simp only [State.home_setHome_same, ← hcar.home]
  refine ⟨State.readFor_net .., rfl, hs.resv, ?_, rfl, rfl, hs.victims, (State.readFor_woke ..).onlyHome _⟩
  rw [hop]
  rfl

end

/-- RD_NC of a bench line is answered with its bytes, and ends (R171). -/
theorem State.benchNc_runs (hbench : s.benchLine h line) (hop : op = .rdNc) :
    RunsTo (exec i s) fun t =>
      t.net = s.restNet op d ++ [entered (s.answerTo h d .ncRData false (s.memLine (s.lineKey h (line * 64))) 6)] ∧
      (t.home h).dir = (s.home h).dir ∧ (t.home h).txs = [] ∧ (s.arrived op d).onlyOrder t h := by
  obtain ⟨hlt, haddr, hback⟩ := hbench
  refine State.runs_ordered hreach hidle hline huncached hexec ⟨hlt, fun _ => hback⟩ fun ptr full hcar hs => ?_
  have hkey : (s.arrived op d).memLine ((s.arrived op d).lineKey h (line * 64)) = s.memLine (s.lineKey h (line * 64)) := by
    rw [hcar.memLine, hcar.lineKey]
  have hmsg : (s.arrived op d).homeAnswer h (((s.arrived op d).orderedTx h line op d full).got (s.memLine (s.lineKey h (line * 64))) 6)
      .ncRData false (s.memLine (s.lineKey h (line * 64))).1 =
      s.answerTo h d .ncRData false (s.memLine (s.lineKey h (line * 64))) 6 := by
    rw [State.homeAnswer_to (d := d) ⟨rfl, rfl, rfl, rfl, rfl, rfl⟩ hs.pkg]
    simp [State.answerTo, hcar.ownPkg, homeData, HTx.got]
  rw [hs.rdNc_bench hop haddr]
  simp only [State.home_setHome_same, ← hcar.home]
  refine ⟨?_, rfl, rfl, (State.wakeArray_woke _ h _).onlyHome _, ?_⟩
  · rw [← hmsg, ← hkey]
    rfl
  · simp only [State.onlyOrders, State.home_setHome_same]
    rfl

end

end

/-- Settles O17: the request is ordered at once, and its transaction is granted, waits for a miss register, or ends. -/
theorem homeGrantsUntrackedLines : Obligations.HomeGrantsUntrackedLines := by
  unfold Obligations.HomeGrantsUntrackedLines
  refine ⟨?benchS, ?benchU, ?benchUpg, ?benchZero, ?benchNc, ?hitS, ?missS, ?hitU, ?missU, ?hitUpg, ?missUpg, ?missNc, ?errS, ?errU,
    ?errUpg, ?errNc, ?errZero⟩
  case benchS =>
    intro s d h line k hreach hidle hline hbench _ huncached hway
    exact State.benchRead_runs hreach hidle hline rfl huncached hbench (.inl rfl) hway
  case benchU =>
    intro s d h line k hreach hidle hline hbench _ huncached hway
    exact State.benchRead_runs hreach hidle hline rfl huncached hbench (.inr (.inl rfl)) hway
  case benchUpg =>
    intro s d h line k hreach hidle hline hbench _ huncached hway
    exact State.benchRead_runs hreach hidle hline rfl huncached hbench (.inr (.inr rfl)) hway
  case benchZero =>
    intro s d h line k hreach hidle hline hbench _ huncached hway
    exact State.benchZero_runs hreach hidle hline rfl huncached hbench rfl hway
  case benchNc =>
    intro s d h line hreach hidle hline hbench _ huncached
    exact State.benchNc_runs hreach hidle hline rfl huncached hbench rfl
  case hitS =>
    intro s d h line k p e hreach hidle hline hdram _ huncached hway hfind hbad hen
    exact State.hit_runs hreach hidle hline rfl huncached hdram (.inl rfl) hway hfind hbad hen
  case missS =>
    intro s d h line k hreach hidle hline hdram _ huncached hway hfind
    exact State.miss_runs hreach hidle hline rfl huncached hdram (.inl rfl) hway hfind
  case hitU =>
    intro s d h line k p e hreach hidle hline hdram _ huncached hway hfind hbad hen
    exact State.hit_runs hreach hidle hline rfl huncached hdram (.inr (.inl rfl)) hway hfind hbad hen
  case missU =>
    intro s d h line k hreach hidle hline hdram _ huncached hway hfind
    exact State.miss_runs hreach hidle hline rfl huncached hdram (.inr (.inl rfl)) hway hfind
  case hitUpg =>
    intro s d h line k p e hreach hidle hline hdram _ huncached hway hfind hbad hen
    exact State.hit_runs hreach hidle hline rfl huncached hdram (.inr (.inr rfl)) hway hfind hbad hen
  case missUpg =>
    intro s d h line k hreach hidle hline hdram _ huncached hway hfind
    exact State.miss_runs hreach hidle hline rfl huncached hdram (.inr (.inr rfl)) hway hfind
  case missNc =>
    intro s d h line hreach hidle hline hdram _ huncached hfind
    exact State.missNc_runs hreach hidle hline rfl huncached hdram rfl hfind
  case errS =>
    intro s d h line hreach hidle hline herr _
    exact State.err_runs hreach hidle hline rfl herr
  case errU =>
    intro s d h line hreach hidle hline herr _
    exact State.err_runs hreach hidle hline rfl herr
  case errUpg =>
    intro s d h line hreach hidle hline herr _
    exact State.err_runs hreach hidle hline rfl herr
  case errNc =>
    intro s d h line hreach hidle hline herr _
    exact State.err_runs hreach hidle hline rfl herr
  case errZero =>
    intro s d h line hreach hidle hline herr _
    exact State.err_runs hreach hidle hline rfl herr

end Sys2Proof.Machine
end

section
/-! PROOF. The refutation of O24: a home's answer goes out only where a route leads to the requester (R17), and the statement does
not ask for one. -/

namespace Sys2Proof.Machine

/-- An RD_NC of stud 11 that waits for miss register 0 and does not allocate. -/
def unroutedTx : HTx := { st := .active, op := .rdNc, agent := 11, bmr := some 0, nonalloc := true, supply := true }

/-- Bay 0 of a package of four frames holds that request alone, and the line of its miss register has come. -/
def unroutedFill : State :=
  ({ plumb := { active := 8 } } : State).setHome 0
    { Home.init 0 with stopped := false, txs := [(0, unroutedTx)], order := [0], bmrs := [(0, { data := some (1, false) })] }

/-- Stud 11 is of another frame than bay 0. -/
theorem unroutedFill_linked : unroutedFill.linked (agentOfHome 0) unroutedTx.agent = false := by decide

/-- The request ends, and nothing is sent. -/
theorem bayFillInstall_unroutedFill :
    RunsTo (exec (.bayFillInstall 0 0) unroutedFill) fun t => (t.home 0).txs = [] ∧ t.net = [] := ⟨_, rfl, rfl, rfl⟩

/-- Refutes O24: a fill gives its line to an RD_NC of a stud of another frame, to which no route leads, so no answer is sent. The
fifth clause, of a request that does not allocate, claims one. -/
theorem not_fillsAndDeviceReads : ¬ Obligations.FillsAndDeviceReads := by
  unfold Obligations.FillsAndDeviceReads
  intro h
  obtain ⟨-, -, -, -, hfill, -⟩ := h
  obtain ⟨t, hexec, hnet, -⟩ := hfill unroutedFill 0 0 0 0 unroutedTx { data := some (1, false) } 1 false rfl rfl rfl rfl rfl rfl rfl
    rfl (by decide) (.inr (.inl rfl)) rfl rfl rfl rfl rfl ⟨rfl, rfl, rfl⟩ rfl rfl rfl
  obtain ⟨u, hu, -, hnone⟩ := bayFillInstall_unroutedFill
  obtain rfl : u = t := by
    rw [hu] at hexec
    exact Host.Outcome.next.inj hexec
  rw [hnone] at hnet
  exact absurd hnet (by simp)

end Sys2Proof.Machine
end
